-- ==== Sys2Proof/Word.lean ====
section
/-! DEFINITION. Word.lean: the word types of the M20 (spec 00_scope.md R5) and the one shape of sparse data.

Numbers that the spec adds, counts or compares are natural numbers; register contents that software sees as bits
are bit vectors. A sparse table is a list of key and value pairs with strictly rising keys. -/

namespace Sys2Proof

/-- One byte of memory, of a frame or of a record. -/
abbrev Byte := BitVec 8

/-- A 32-bit register or register lane. -/
abbrev Word := BitVec 32

/-- A 64-bit register. -/
abbrev DWord := BitVec 64

/-- A sparse table: pairs of a key and a value, keys strictly rising, looked up with an explicit default. -/
abbrev SMap (α : Type) := List (Nat × α)

end Sys2Proof
end

