-- ==== Sys2Proof/Syntax.lean ====
section
/-! DEFINITION. Syntax.lean: the commands that the M20 takes, one constructor per row of the opcode table, with each
row's operands. A core instruction's operands are where it issues and the fields of its format (Tables 6.2 to 6.8 and 7.5). -/

namespace Sys2Proof

/-- Who sent a dictionary request: the interface of Table 18.8 (0 internal, 1 MCTP over I3C, 2 MCTP in PCIe VDM,
3 mailbox) and, for a mailbox, its function. -/
structure Origin where
  iface : Nat
  fn : Nat
deriving DecidableEq, Repr

/-- The four error logs of R63. -/
inductive LogName
  | stk | nwt | l2c | fab
deriving DecidableEq, Repr

/-- What an access needs of a page (Table 13.4). -/
inductive Access
  | read | write | fetch
deriving DecidableEq, Repr

/-- What the start-up self-test finds (Table 21.1, R57, R95, R105, R236, R388). -/
structure SelfTest where
  /-- DRAM dies that fail, as stack * 32 + position. -/
  dies : List Nat
  /-- Base dies that fail. -/
  baseDies : List Nat
  /-- Newts that fail. -/
  newts : List Nat
  /-- Cores with a failed lane half, fused at test. -/
  halves : List Nat
  /-- Optical engines that fail. -/
  engines : List Nat
  /-- A fault of the spine, front-end plain or router plain (R467). -/
  central : Bool
deriving DecidableEq, Repr

/-- The temperatures that the controller reads (R406, Table 17.3), in degrees Celsius. -/
structure Temps where
  /-- Hottest sensor of each compute plain, P0 first. -/
  plains : List Nat
  /-- Hottest DRAM die of each stack, S0 first. -/
  dram : List Nat
  /-- Each base die, B0 first. -/
  base : List Nat
  /-- Hottest optical engine. -/
  optics : Nat
deriving DecidableEq, Repr

/-- A rail's energy of one millisecond in uJ (R407, Table 17.4): what was measured, and what was modelled for each account before scaling, without the sync unit's 3 W. -/
structure RailEnergy where
  measured : Nat
  /-- Queue and energy. -/
  queues : List (Nat × Nat)
  /-- Function and the energy of its own row of Table 17.4. -/
  fns : List (Nat × Nat)
  /-- Partition and its overhead. -/
  parts : List (Nat × Nat)
  /-- Device overhead. -/
  overhead : Nat
deriving DecidableEq, Repr

/-- A Kamuf request frame (Table 18.2). -/
structure Frame where
  version : Nat
  opcode : Nat
  tag : Nat
  index : Nat
  sub : Nat
  flags : Nat
  target : Nat
  length : Nat
  offset : Nat
  body : List Byte
deriving DecidableEq, Repr

/-- A fabric packet (Table 14.2). -/
structure Packet where
  type : Nat
  src : Nat
  dst : Nat
  seq : Nat
  key : Nat
  srcFn : Nat
  op : Nat
  addr : Nat
  data : List Byte
  poison : Nat
deriving DecidableEq, Repr

/-- A trace record (Table 19.11). -/
structure TrcRec where
  time : Nat
  kind : Nat
  domain : Nat
  unit : Nat
  queue : Nat
  flags : Nat
  layer : Nat
  operator : Nat
  aux : Nat
  detail : Nat
deriving DecidableEq, Repr

/-- What the check of a line read from the arrays of an L2 slice finds (R46, R235, R236). -/
structure L2Check where
  /-- Granules corrected. -/
  corrected : Nat
  /-- Granules found uncorrectable, as a mask of 8. -/
  bad : Nat
  /-- The directory entry was corrected. -/
  dir : Bool
deriving DecidableEq, Repr

/-- Where and how a core instruction issues: the core, the group slot and the address, and what the register file's
protection finds on this issue (R113, R114): corrected errors, register-cache parity errors, and a double-bit error. -/
structure Issue where
  core : Nat
  slot : Nat
  pc : Nat
  rfCorrected : Nat
  rcParity : Nat
  rfDouble : Bool
  /-- A residue check fails in this lane half: the result is discarded and the instruction is retried (R105). -/
  residue : Option Nat
deriving DecidableEq, Repr

/-- Format A, register operands (Tables 6.2 and 6.3). -/
structure FmtA where
  guard : Nat
  guardNeg : Bool
  dst : Nat
  a : Nat
  b : Nat
  c : Nat
  /-- Bit 2 for a, bit 1 for b, bit 0 for c. -/
  reuse : Nat
  /-- Bit 2 for a, bit 1 for b, bit 0 for c. -/
  scal : Nat
  type : Nat
  rnd : Nat
  sat : Bool
  S : Bool
  sub : Nat
deriving DecidableEq, Repr

/-- Format I, immediate (Tables 6.2 and 6.4). -/
structure FmtI where
  guard : Nat
  guardNeg : Bool
  dst : Nat
  a : Nat
  reuseA : Bool
  scalA : Bool
  S : Bool
  hi : Bool
  imm : Nat
deriving DecidableEq, Repr

/-- Format M, memory (Tables 6.2 and 6.5). -/
structure FmtM where
  guard : Nat
  guardNeg : Bool
  data : Nat
  base : Nat
  scope : Nat
  size : Nat
  space : Bool
  baseS : Bool
  S : Bool
  signed : Bool
  hint : Nat
  offset : Nat
deriving DecidableEq, Repr

/-- Format X, atomic (Tables 6.2 and 6.6); atom_op is the constructor's, and bits [7:0] are `zero`. -/
structure FmtX where
  guard : Nat
  guardNeg : Bool
  dst : Nat
  base : Nat
  operand : Nat
  compare : Nat
  scope : Nat
  far : Bool
  width : Bool
  space : Bool
  baseS : Bool
  discard : Bool
  zero : Nat
deriving DecidableEq, Repr

/-- Format Y, sync object (Tables 6.2 and 6.7); sync_op is the constructor's, and bits [20:0] are `zero`. -/
structure FmtY where
  guard : Nat
  guardNeg : Bool
  dst : Nat
  handle : Nat
  value : Nat
  scope : Nat
  zero : Nat
deriving DecidableEq, Repr

/-- Format B, control (Tables 6.2 and 6.8); bits [35:32] are `zero`. -/
structure FmtB where
  guard : Nat
  guardNeg : Bool
  link : Nat
  target : Nat
  zero : Nat
  offset : Nat
deriving DecidableEq, Repr

/-- Format O (Table 6.2, R134): scope; kind is the constructor's, and the other bits are `zero`. -/
structure FmtO where
  guard : Nat
  guardNeg : Bool
  scope : Nat
  zero : Nat
deriving DecidableEq, Repr

/-- Format MX, matrix (Tables 6.2 and 7.5); bits [27:20] are `zero`. -/
structure FmtMx where
  guard : Nat
  guardNeg : Bool
  sa : Nat
  sb : Nat
  sc : Nat
  zero : Nat
  ctl : Nat
deriving DecidableEq, Repr

/-- The commands of the M20: one constructor per row of the opcode table. -/
inductive Instr
  /-- REGISTER_WRITE (R10): A BAR0 write to a register that has no row of its own is applied, held, split or discarded by the width and alignment rules, with reserved bits and encodings handled under R9. -/
  | registerWrite (fn : Nat) (off : Nat) (size : Nat) (val : Nat)
  /-- ERR_LOG_READ_64 (R63): A 64-bit read of an error log (STK_ERR_LOG, NWT_FAULT_LOG, L2C_ERR_LOG or FAB_ERR_LOG) returns the head record and removes it. -/
  | errLogRead64 (log : LogName)
  /-- ERR_LOG_READ_LOW (R63): A 32-bit read of the low half of an error log returns the low half of the head record, captures its high half and removes nothing. -/
  | errLogReadLow (log : LogName)
  /-- ERR_LOG_READ_HIGH (R63): A 32-bit read of the high half of an error log returns the captured half, or the head record's high half, and removes that record. -/
  | errLogReadHigh (log : LogName)
  /-- ERR_LOG_RECORD_ARRIVE (R63): A new record enters an error log, or is dropped with log_overflow set when the log is full. -/
  | errLogRecordArrive (log : LogName) (rec : Nat)
  /-- AUX_SUPPLY_VALID (R465): The auxiliary supply becomes valid, the GTB master starts at 0 and the management boot begins. -/
  | auxSupplyValid (aOk : Bool) (bOk : Bool)
  /-- AUX_SUPPLY_LOSS (R486): Loss of the auxiliary supply turns off the main rails within 1 ms, and power-on follows when it returns. -/
  | auxSupplyLoss
  /-- MAIN_SUPPLY_VALID (R466): The main supply rises through 45.0 V and the regulators start ramping the rails of the power-on sequence. -/
  | mainSupplyValid
  /-- MAIN_SUPPLY_LOSS (R486): The main supply falls through 44.0 V, the main rails go off within 1 ms, work ends and management logs the loss. -/
  | mainSupplyLoss
  /-- RAILS_IN_REGULATION (R466): All rails reach regulation, the self-timed domains start, their replicas load and PWR_MAIN_PG is released. -/
  | railsInRegulation
  /-- SELF_TEST_COMPLETE (R466): Start-up self-tests finish, persistent retirements and spare rows are applied and failing units are marked failed. -/
  | selfTestComplete (found : SelfTest)
  /-- MEMORY_ZEROING_COMPLETE (R57): The base dies finish writing zeros with valid codes to every granule. -/
  | memoryZeroingComplete
  /-- DEVICE_READY (R466): The device becomes ready, the dictionary goes live, configuration requests complete and the chip descriptor reads ready or degraded. -/
  | deviceReady
  /-- PERST_ASSERT (R468): Assertion of PERST# for at least 100 µs after ready starts a cold reset that reboots management and takes the main rails down. -/
  | perstAssert (aOk : Bool) (bOk : Bool)
  /-- PERST_DEASSERT (R466): Deassertion of PERST# releases the PCIe controller from reset and starts the sequence of a cold reset. -/
  | perstDeassert (aOk : Bool) (bOk : Bool)
  /-- CONFIG_REQUEST_RRS (R469): A configuration request that arrives before ready is answered with a Configuration RRS completion and is not performed. -/
  | configRequestRrs
  /-- TRIAL_READY_TIMEOUT (R432): A trial image that does not bring the device to ready within 2 s makes the boot ROM restart from the other slot. -/
  | trialReadyTimeout (otherOk : Bool)
  /-- MGT_WATCHDOG_RESTART (R414): The watchdog expires after 100 ms without service and restarts the management processor alone. -/
  | mgtWatchdogRestart
  /-- DEVICE_RESET (R434): A write of 1 to device_reset is logged and answered, and a device reset starts within 1 ms. -/
  | deviceReset (who : Origin) (value : Nat) (aOk : Bool) (bOk : Bool)
  /-- TIED_RESET (R470): A write of 1 to tied_reset resets functions, objects and coherent state on every reachable member, and the group forms again. -/
  | tiedReset (who : Origin) (value : Nat) (allTakePart : Bool)
  /-- OP_POINT_REQUEST (R31): A write to op_point_request sets a new supply target and starts a ramp. -/
  | opPointRequest (who : Origin) (value : Nat)
  /-- OP_POINT_RAMP_COMPLETE (R31): The core supply reaches its target and op_point_current reads the new code. -/
  | opPointRampComplete
  /-- GTB_RESYNC_PULSE (R35): Every 1 µs the master's pulse makes each replica step forward, or hold, to the master's count. -/
  | gtbResyncPulse
  /-- RATE_LIVE_UPDATE (R32): The live step rate of each domain, averaged over the last 1 ms, is updated in rate_live. -/
  | rateLiveUpdate (domain : Nat) (rate : Nat)
  /-- DESCRIPTOR_UPDATE (R22): A parent's unit descriptor fields follow a change in a child's state within 1 ms. -/
  | descriptorUpdate (level : Nat) (unit : Nat) (read : List Byte)
  /-- TIME_MASTER_ELECTION (R38): The connected chips elect as time master the chip with the highest GTB count, ties going to the lowest chip id. -/
  | timeMasterElection (counts : List (Nat × Nat))
  /-- FABRIC_TIME_SEND (R38): Every fabric_time_interval each link sends a time message in each direction. -/
  | fabricTimeSend (link : Nat)
  /-- FABRIC_TIME (R38): A received TIME message lets a follower measure its offset and lock to the master. -/
  | fabricTime (link : Nat) (chip : Nat) (t2 : Nat) (t3 : Nat) (hop : Int)
  /-- GTB_HOLDOVER_ENTER (R40): A follower that loses every path to the master sets holdover and keeps counting on its own reference. -/
  | gtbHoldoverEnter
  /-- HOLDOVER_LOCK_EXPIRE (R40): After 100 µs of holdover the follower clears fabric_locked. -/
  | holdoverLockExpire
  /-- PTP_MESSAGE_RECEIVE (R398): An IEEE 1588 message received on the named service port updates the chip's lock to the reference. -/
  | ptpMessageReceive (port : Nat) (domain : Nat) (time : Nat)
  /-- PTP_REFERENCE_LOSS (R41): Loss of the IEEE 1588 reference clears ptp_locked and holds the GTB under R40. -/
  | ptpReferenceLoss
  /-- BASE_DIE_READ (R46): A base die reads a granule from its banks, checks and corrects it and returns the codeword. -/
  | baseDieRead (pa : Nat) (errs : List (Nat × Nat))
  /-- BASE_DIE_WRITE (R46): A base die stores a granule that arrives from the interface or a newt, after checking its code. -/
  | baseDieWrite (pa : Nat) (data : List Byte) (mask : Nat) (errs : List (Nat × Nat))
  /-- POISON_REREAD (R49): Once any die retirement in progress has completed, an uncorrectable granule is read once more with the current erasure map. -/
  | poisonReread (pa : Nat) (errs : List (Nat × Nat))
  /-- D2D_TRANSFER_RECEIVE (R50): A 64-byte transfer arrives across the die-to-die interface and is checked, and a replay is requested if it is uncorrectable. -/
  | d2dTransferReceive (pa : Nat) (write : Bool) (data : List Byte) (errs : List (Nat × Nat × Nat))
  /-- PATROL_SCRUB_READ (R51): The patrol scrub reads the next granule, writes back a corrected codeword and increments pass_count at the end of a pass. -/
  | patrolScrubRead (errs : List (Nat × Nat))
  /-- DEMAND_SCRUB_WRITEBACK (R52): A conditional write-back of a corrected codeword lands unless a later write to the granule cancels it. -/
  | demandScrubWriteback (pa : Nat)
  /-- ROW_SPARE (R53): A row corrected four times within 24 hours starts copying into a spare row, or is logged as type 5 when no spare remains. -/
  | rowSpare (channel : Nat) (row : Nat)
  /-- ROW_SPARE_COMPLETE (R53): The row copy ends, the address is redirected and held accesses resume. -/
  | rowSpareComplete (channel : Nat) (row : Nat)
  /-- DIE_RETIRE_START (R54): Corrected errors at one position from four channels within 10 µs stop the stack from accepting new requests. -/
  | dieRetireStart (stack : Nat) (pos : Nat)
  /-- DIE_RETIRE_COMPLETE (R54): The position is loaded into every erasure map and the stack resumes, logging a type 4 record. -/
  | dieRetireComplete (stack : Nat)
  /-- PIN_GROUP_RETIRE (R55): 64 corrected link errors at one position within 1 s retire that pin group on the channel. -/
  | pinGroupRetire (channel : Nat) (pos : Nat)
  /-- BASE_DIE_STALL_TIMEOUT (R456): A base die without handshake progress for 10 µs fails its stack as class 18. -/
  | baseDieStallTimeout (stack : Nat)
  /-- ROW_MODE_WRITE (R59): An accepted write to row_mode starts zeroing the frame row in every stack. -/
  | rowModeWrite (who : Origin) (row : Nat) (value : Nat)
  /-- ROW_ZERO_COMPLETE (R59): The row is zeroed and its new mode takes effect. -/
  | rowZeroComplete (row : Nat)
  /-- NEWT_DESCRIPTOR_FETCH (R68): When a NEWT node becomes ready the front end reads and checks its descriptor and splits it into shares. -/
  | newtDescriptorFetch (node : Nat)
  /-- NEWT_SHARE_DELIVER (R74): The front end delivers a waiting share into a free newt queue entry by weighted round robin. -/
  | newtShareDeliver (newt : Nat) (fn : Nat)
  /-- NEWT_SHARE_START (R75): A newt starts the next share of its queue. -/
  | newtShareStart (newt : Nat)
  /-- ATTN_PART (R77): Attention scoring over owned K and V blocks produces partial records. -/
  | attnPart (newt : Nat) (desc : Nat)
  /-- KV_APPEND (R83): Source rows are converted and written to cache rows. -/
  | kvAppend (newt : Nat) (desc : Nat)
  /-- GATHER_REDUCE (R81): Indexed table rows are gathered, weighted and reduced per bag in a fixed order. -/
  | gatherReduce (newt : Nat) (desc : Nat)
  /-- SCATTER (R82): Rows are written to indexed table rows, by overwrite or by far atomic add. -/
  | scatter (newt : Nat) (desc : Nat)
  /-- NEWT_COPY (R82): A newt copies count bytes from source to destination. -/
  | newtCopy (newt : Nat) (desc : Nat)
  /-- FILL (R76): A newt fills the destination with a repeated 64-bit pattern. -/
  | fill (newt : Nat) (desc : Nat)
  /-- REDUCE (R80): A newt reduces its source arrays, or merges or normalises attention records. -/
  | reduce (newt : Nat) (desc : Nat)
  /-- QUANT (R83): Elements are converted to the output format, with MX block scales where the format uses them. -/
  | quant (newt : Nat) (desc : Nat)
  /-- DEQUANT (R83): Elements are expanded from the input format. -/
  | dequant (newt : Nat) (desc : Nat)
  /-- NEWT_ATOM (R84): A list of far atomics is applied in list order, and the old values are returned. -/
  | newtAtom (newt : Nat) (desc : Nat)
  /-- CHECKSUM (R85): A newt computes CRC-32C or SUM64 over a byte range. -/
  | checksum (newt : Nat) (desc : Nat)
  /-- REMOTE_COPY (R86): A newt moves bytes to or from another chip and completes once every write is acknowledged. -/
  | remoteCopy (newt : Nat) (desc : Nat)
  /-- NEWT_SHARE_COMPLETE (R91): A share completes once its writes have landed and its atomics have completed. -/
  | newtShareComplete (newt : Nat) (desc : Nat)
  /-- NEWT_DESCRIPTOR_COMPLETE (R93): When all shares are done, or a fault has ended the descriptor, the front end writes the completion record and completes the node. -/
  | newtDescriptorComplete (desc : Nat)
  /-- NEWT_SHARE_FAULT (R94): A faulting share stops its sibling shares and kills the issuing context with NEWT_FAULT or FABRIC_UNREACHABLE. -/
  | newtShareFault (newt : Nat) (desc : Nat) (status : Nat)
  /-- NEWT_FAIL (R95): A residue check failure or a failed self-test fails a newt. -/
  | newtFail (newt : Nat)
  /-- NEWT_STALL_TIMEOUT (R95): A newt with no handshake progress for 10 µs while it holds a share is failed. -/
  | newtStallTimeout (newt : Nat)
  /-- NEWT_IDLE_GATE (R99): A newt whose queue has been empty for newt_idle_gate gates its lanes and working buffer. -/
  | newtIdleGate (newt : Nat)
  /-- FAR_ATOMIC (R90): A far atomic executes at the newt of the target's channel after the home invalidates the line. -/
  | farAtomic (atom : Nat)
  /-- PAGE_WALK (R322): The page walker walks five levels for a translation miss and ends with a leaf or a fault. -/
  | pageWalk (fn : Nat) (va : Nat) (access : Access)
  /-- NOP (R159): The instruction does nothing but advance the PCs. -/
  | nop (is : Issue) (f : FmtB)
  /-- BRA (R159): Threads whose guard holds jump relative to the branch's own address. -/
  | bra (is : Issue) (f : FmtB)
  /-- BRX (R159): Threads whose guard holds jump to the address in the target pair. -/
  | brx (is : Issue) (f : FmtB)
  /-- CALL (R159): Threads write the return address to the link pair and jump. -/
  | call (is : Issue) (f : FmtB)
  /-- EXIT (R159): Threads whose guard holds end, and the group ends when none is left live. -/
  | exit (is : Issue) (f : FmtB)
  /-- YIELD (R109): The issuing subset is marked yielded and the group's consecutive run ends. -/
  | yield (is : Issue) (f : FmtB)
  /-- GBAR (R116): Threads wait at the group barrier, which completes when the waiting count equals the live count. -/
  | gbar (is : Issue) (f : FmtB)
  /-- GBAR_WATCHDOG_EXPIRE (R117): The group barrier watchdog reaches gbar_watchdog and kills the context. -/
  | gbarWatchdogExpire (core : Nat) (slot : Nat)
  /-- FADD (R140): Floating-point add. -/
  | fadd (is : Issue) (f : FmtA)
  /-- FMUL (R140): Floating-point multiply. -/
  | fmul (is : Issue) (f : FmtA)
  /-- FFMA (R140): Fused multiply-add, rounded once. -/
  | ffma (is : Issue) (f : FmtA)
  /-- FMIN (R199): Floating-point minimumNumber. -/
  | fmin (is : Issue) (f : FmtA)
  /-- FMAX (R199): Floating-point maximumNumber. -/
  | fmax (is : Issue) (f : FmtA)
  /-- FSETP (R140): Floating-point compare that writes a predicate. -/
  | fsetp (is : Issue) (f : FmtA)
  /-- RCP (R200): FP32 reciprocal. -/
  | rcp (is : Issue) (f : FmtA)
  /-- RSQ (R200): FP32 reciprocal square root. -/
  | rsq (is : Issue) (f : FmtA)
  /-- SQRT (R200): FP32 square root. -/
  | sqrt (is : Issue) (f : FmtA)
  /-- EXP2 (R200): FP32 base-2 exponential. -/
  | exp2 (is : Issue) (f : FmtA)
  /-- LOG2 (R200): FP32 base-2 logarithm. -/
  | log2 (is : Issue) (f : FmtA)
  /-- SIN (R200): FP32 sine. -/
  | sin (is : Issue) (f : FmtA)
  /-- COS (R200): FP32 cosine. -/
  | cos (is : Issue) (f : FmtA)
  /-- IADD (R141): Integer add, wrapping or saturating. -/
  | iadd (is : Issue) (f : FmtA)
  /-- ISUB (R141): Integer subtract, wrapping or saturating. -/
  | isub (is : Issue) (f : FmtA)
  /-- IMUL (R141): Integer multiply. -/
  | imul (is : Issue) (f : FmtA)
  /-- IMAD (R141): Integer multiply-add. -/
  | imad (is : Issue) (f : FmtA)
  /-- IMULHI (R141): High half of the full integer product. -/
  | imulhi (is : Issue) (f : FmtA)
  /-- IMIN (R141): Integer minimum. -/
  | imin (is : Issue) (f : FmtA)
  /-- IMAX (R141): Integer maximum. -/
  | imax (is : Issue) (f : FmtA)
  /-- ISETP (R139): Integer compare that writes a predicate. -/
  | isetp (is : Issue) (f : FmtA)
  /-- AND (R141): Bitwise AND. -/
  | and (is : Issue) (f : FmtA)
  /-- OR (R141): Bitwise OR. -/
  | or (is : Issue) (f : FmtA)
  /-- XOR (R141): Bitwise exclusive OR. -/
  | xor (is : Issue) (f : FmtA)
  /-- SHL (R141): Shift left, with the count taken modulo the type width. -/
  | shl (is : Issue) (f : FmtA)
  /-- SHR (R139): Shift right, logical or arithmetic. -/
  | shr (is : Issue) (f : FmtA)
  /-- BFE (R139): Bit-field extract. -/
  | bfe (is : Issue) (f : FmtA)
  /-- BFI (R139): Bit-field insert. -/
  | bfi (is : Issue) (f : FmtA)
  /-- POPC (R138): Population count. -/
  | popc (is : Issue) (f : FmtA)
  /-- CLZ (R138): Count of leading zeros. -/
  | clz (is : Issue) (f : FmtA)
  /-- BREV (R138): Bit reversal. -/
  | brev (is : Issue) (f : FmtA)
  /-- IDP4 (R141): Four-way byte dot product plus c, wrapped to INT32. -/
  | idp4 (is : Issue) (f : FmtA)
  /-- SEL (R139): Selects a or b by a predicate. -/
  | sel (is : Issue) (f : FmtA)
  /-- PLOP (R139): Predicate logic operation. -/
  | plop (is : Issue) (f : FmtA)
  /-- MOVI (R138): Moves an immediate into a register, or into its high half with hi set. -/
  | movi (is : Issue) (f : FmtI)
  /-- IADD_I (R138): Integer add of a sign-extended immediate. -/
  | iaddI (is : Issue) (f : FmtI)
  /-- AND_I (R138): AND with an immediate. -/
  | andI (is : Issue) (f : FmtI)
  /-- OR_I (R138): OR with an immediate. -/
  | orI (is : Issue) (f : FmtI)
  /-- XOR_I (R138): Exclusive OR with an immediate. -/
  | xorI (is : Issue) (f : FmtI)
  /-- SHL_I (R138): Shift left by an immediate. -/
  | shlI (is : Issue) (f : FmtI)
  /-- SHR_I (R138): Shift right by an immediate. -/
  | shrI (is : Issue) (f : FmtI)
  /-- FADD_I (R138): Floating-point add of an FP32 immediate. -/
  | faddI (is : Issue) (f : FmtI)
  /-- FMUL_I (R138): Floating-point multiply by an FP32 immediate. -/
  | fmulI (is : Issue) (f : FmtI)
  /-- ISETP_I (R137): INT32 compare with an immediate that writes a predicate. -/
  | isetpI (is : Issue) (f : FmtI)
  /-- MOV (R138): Register move. -/
  | mov (is : Issue) (f : FmtA)
  /-- SRD (R132): Reads a special value such as TID, SLOT, GTB or EPOCH by code. -/
  | srd (is : Issue) (f : FmtI)
  /-- V2S (R144): Copies one thread's vector value into a scalar register. -/
  | v2s (is : Issue) (f : FmtA)
  /-- CVT (R142): Converts between types with the selected rounding and saturation. -/
  | cvt (is : Issue) (f : FmtA)
  /-- CVT_MX (R143): Converts to an MX element and forms each block's shared scale. -/
  | cvtMx (is : Issue) (f : FmtA)
  /-- SHFL (R144): Reads another thread's register by IDX, UP, DOWN or XOR. -/
  | shfl (is : Issue) (f : FmtA)
  /-- VOTE (R144): Forms ANY, ALL or BALLOT over the predicates of the threads whose guard holds. -/
  | vote (is : Issue) (f : FmtA)
  /-- LD (R146): Load from global memory or scratch. -/
  | ld (is : Issue) (f : FmtM)
  /-- ST (R146): Store into the store buffer or scratch. -/
  | st (is : Issue) (f : FmtM)
  /-- LD_ACQ (R153): Load with acquire at a scope, invalidating stale copies for CHIP or wider. -/
  | ldAcq (is : Issue) (f : FmtM)
  /-- ST_REL (R153): Store that becomes visible only after earlier accesses are performed at its scope. -/
  | stRel (is : Issue) (f : FmtM)
  /-- PREF (R148): Brings a line toward the core, and never faults. -/
  | pref (is : Issue) (f : FmtM)
  /-- SCL_ZERO (R149): Zeroes a 128-byte line in the scalar cache as a full-line store of zeros. -/
  | sclZero (is : Issue) (f : FmtM)
  /-- SCL_INV (R149): Invalidates the core's scalar cache and victim cache. -/
  | sclInv (is : Issue) (f : FmtM)
  /-- ATOM_ADD (R151): Atomic wrapping integer add. -/
  | atomAdd (is : Issue) (f : FmtX)
  /-- ATOM_FADD (R151): Atomic FP32 add. -/
  | atomFadd (is : Issue) (f : FmtX)
  /-- ATOM_MIN (R151): Atomic signed minimum. -/
  | atomMin (is : Issue) (f : FmtX)
  /-- ATOM_MAX (R151): Atomic signed maximum. -/
  | atomMax (is : Issue) (f : FmtX)
  /-- ATOM_UMIN (R151): Atomic unsigned minimum. -/
  | atomUmin (is : Issue) (f : FmtX)
  /-- ATOM_UMAX (R151): Atomic unsigned maximum. -/
  | atomUmax (is : Issue) (f : FmtX)
  /-- ATOM_FMIN (R151): Atomic FP32 minimum. -/
  | atomFmin (is : Issue) (f : FmtX)
  /-- ATOM_FMAX (R151): Atomic FP32 maximum. -/
  | atomFmax (is : Issue) (f : FmtX)
  /-- ATOM_AND (R151): Atomic AND. -/
  | atomAnd (is : Issue) (f : FmtX)
  /-- ATOM_OR (R151): Atomic OR. -/
  | atomOr (is : Issue) (f : FmtX)
  /-- ATOM_XOR (R151): Atomic exclusive OR. -/
  | atomXor (is : Issue) (f : FmtX)
  /-- ATOM_EXCH (R151): Atomic exchange. -/
  | atomExch (is : Issue) (f : FmtX)
  /-- ATOM_CAS (R151): Atomic compare-and-swap. -/
  | atomCas (is : Issue) (f : FmtX)
  /-- BAR_LD (R154): Orders earlier loads before later accesses at a scope. -/
  | barLd (is : Issue) (f : FmtO)
  /-- BAR_ST (R154): Orders earlier stores before later stores at a scope. -/
  | barSt (is : Issue) (f : FmtO)
  /-- BAR_FULL (R154): Orders every earlier access before every later one at a scope. -/
  | barFull (is : Issue) (f : FmtO)
  /-- BARRIER_COMPLETE (R246): An ordering barrier completes, invalidating L1 and the scalar caches at CHIP or wider, and its subset becomes ready again. -/
  | barrierComplete (bar : Nat)
  /-- SYNC_SIGNAL (R156): Signals a fence with a new value, acting as a release. -/
  | syncSignal (is : Issue) (f : FmtY)
  /-- SYNC_WAIT_GE (R156): Waits until a fence value is at least the target. -/
  | syncWaitGe (is : Issue) (f : FmtY)
  /-- SYNC_WAIT_EQ (R156): Waits until a fence value equals the target. -/
  | syncWaitEq (is : Issue) (f : FmtY)
  /-- SYNC_POST (R156): Adds units to a semaphore. -/
  | syncPost (is : Issue) (f : FmtY)
  /-- SYNC_WAIT_DEC (R156): Waits until it takes one semaphore unit. -/
  | syncWaitDec (is : Issue) (f : FmtY)
  /-- SYNC_BAR_ARRIVE (R300): Arrives once at a barrier and returns the generation it arrived at. -/
  | syncBarArrive (is : Issue) (f : FmtY)
  /-- SYNC_BAR_WAIT (R300): Waits until a barrier's generation differs from the value. -/
  | syncBarWait (is : Issue) (f : FmtY)
  /-- MX_CFG (R175): Writes a configuration word to the target weight set. -/
  | mxCfg (is : Issue) (f : FmtMx)
  /-- MX_LDW (R176): Loads a weight tile and its scales into the shadow set. -/
  | mxLdw (is : Issue) (f : FmtMx)
  /-- MX_SWAP (R177): Exchanges the active and shadow weight sets. -/
  | mxSwap (is : Issue) (f : FmtMx)
  /-- MX_STREAM (R178): Passes activation rows through the active set into accumulator rows. -/
  | mxStream (is : Issue) (f : FmtMx)
  /-- MX_RD (R179): Reads accumulator rows, converts them and writes them out. -/
  | mxRd (is : Issue) (f : FmtMx)
  /-- MX_CLR (R180): Sets accumulator rows to zero. -/
  | mxClr (is : Issue) (f : FmtMx)
  /-- MX_INSTR_START (R172): A queued matrix instruction starts on its unit once its ordering conditions hold. -/
  | mxInstrStart (core : Nat) (index : Nat)
  /-- MX_INSTR_COMPLETE (R172): A matrix instruction completes and frees its queue entry. -/
  | mxInstrComplete (core : Nat) (index : Nat)
  /-- MX_LIMITER_WINDOW (R187): Each 64-step window admits at most the admission value's rows into the array. -/
  | mxLimiterWindow (core : Nat) (ready : Nat) (steps : Nat)
  /-- CORE_LANE_NARROWING (R105): A second residue failure in one lane half pre-empts the core's blocks and narrows or fails the core. -/
  | coreLaneNarrowing (core : Nat) (half : Nat)
  /-- CORE_NARROWING_COMPLETE (R105): The core returns in narrow mode with its epoch incremented and its scalar cache disabled. -/
  | coreNarrowingComplete (core : Nat)
  /-- CONTEXT_KILL (R286): A fault report, failed check, expired timer, ERROR wait or kill write puts the queue in KILLING and stops fetch and dispatch. -/
  | contextKill (queue : Nat) (code : Nat)
  /-- CORE_GROUPS_STOP (R120): Every group of the killed context stops issuing within 2 µs. -/
  | coreGroupsStop (queue : Nat)
  /-- CORE_KILL_SETTLED (R120): The core frees the stopped groups' resources, settles their stores and reports to the front end. -/
  | coreKillSettled (queue : Nat)
  /-- SKIP_WALK (R287): After settling, the front end skips every incomplete node, setting signalled objects to ERROR, and the queue enters KILLED. -/
  | skipWalk (queue : Nat)
  /-- CORE_PREEMPT_REQUEST (R121): A pre-emption request reaches a block's core, and its groups stop at the next instruction boundary. -/
  | corePreemptRequest (core : Nat) (block : Nat)
  /-- GROUP_SAVE (R121): Once a group's issued instructions complete, its save record is written. -/
  | groupSave (core : Nat) (slot : Nat)
  /-- BLOCK_SAVE_COMPLETE (R122): The block record is written and the front end is told that the block is saved. -/
  | blockSaveComplete (core : Nat) (block : Nat)
  /-- BLOCK_RESTORE (R123): A saved block is checked and restored on a core with room. -/
  | blockRestore (queue : Nat) (core : Nat)
  /-- LOAD_RESPONSE (R243): A load's data returns to its registers and its subset can issue dependent work. -/
  | loadResponse (load : Nat) (found : Nat)
  /-- STORE_BUFFER_DRAIN (R210): A store-buffer entry leaves the buffer when it is full, 64 steps old, or needed by a release. -/
  | storeBufferDrain (core : Nat) (seq : Nat)
  /-- HOME_READ (R222): A read at the home slice fills or serves the line, and may install a replica. -/
  | homeRead (load : Nat) (line : Nat) (chk : L2Check)
  /-- HOME_STORE (R222): A store or allocating write at the home invalidates sharers, moves the filter entry to M and is acknowledged. -/
  | homeStore (core : Nat) (seq : Nat) (chk : L2Check)
  /-- HOME_ATOMIC (R226): A global atomic without .FAR executes at the home slice. -/
  | homeAtomic (atom : Nat) (chk : L2Check)
  /-- NON_ALLOCATING_WRITE (R222): A host, DMA, router or newt write invalidates every copy and lands at the banks. -/
  | nonAllocatingWrite (fn : Nat) (pa : Nat) (data : List Byte)
  /-- NEWT_READ_WRITEBACK (R88): A newt read of a line held as M makes the home write it back before the bank read. -/
  | newtReadWriteback (line : Nat) (chk : Nat)
  /-- REPLICA_DROP_NOTICE (R222): A drop notice from a replica slice clears the sharer bit at the home. -/
  | replicaDropNotice (plain : Nat) (line : Nat)
  /-- NACK_RETRY (R228): A NACKed request retries after its backoff and becomes starving after its eighth NACK. -/
  | nackRetry (index : Nat) (chk : L2Check)
  /-- TIED_REQUEST_SERVE (R229): A member's request waiting in its reserved entry is served in arrival order. -/
  | tiedRequestServe (slice : Nat)
  /-- DIR_UNCORRECTABLE (R235): An uncorrectable directory error invalidates the line everywhere, writes back home data and logs a type 1 record. -/
  | dirUncorrectable (line : Nat) (tag : Bool)
  /-- WAY_RETIRE (R236): Eight corrected errors within 1 s, or an uncorrectable granule, start the retirement of a data way. -/
  | wayRetire (slice : Nat) (way : Nat)
  /-- WAY_RETIRE_COMPLETE (R236): The way's lines are written back or moved and the way is marked retired. -/
  | wayRetireComplete (slice : Nat) (way : Nat)
  /-- COH_TRANSACTION_TIMEOUT (R237): An open transaction without a fill, write-back or acknowledgement within 50 µs loses the coherent domain. -/
  | cohTransactionTimeout (line : Nat)
  /-- DIRECTORY_STALL_TIMEOUT (R237): A directory without handshake progress for 10 µs while an entry is busy loses the domain. -/
  | directoryStallTimeout (slice : Nat)
  /-- COHERENT_DOMAIN_LOSS (R237): Every chip of the domain refuses coherent requests, kills every context with DOMAIN_LOST and reports failed. -/
  | coherentDomainLoss (member : Nat) (wasReset : Bool)
  /-- CHIP_STALL_FAIL (R456): The spine, front-end or router plain without progress for 10 µs fails the chip. -/
  | chipStallFail (domain : Nat)
  /-- PLAIN_GATE (R233): The power controller drains, flushes and redirects a plain's homes, then gates it. -/
  | plainGate (plain : Nat)
  /-- PLAIN_WAKE (R36): A gated plain wakes for a placement, and its replica reloads before any unit issues. -/
  | plainWake (plain : Nat)
  /-- BUCKET_RETURN (R234): A redirected bucket is written back by its temporary home and points home again. -/
  | bucketReturn (partition : Nat) (bucket : Nat)
  /-- SCL_AUTO_ENABLE (R215): Cugen invalidates and enables a returned core's scalar cache within 1 ms. -/
  | sclAutoEnable (core : Nat)
  /-- SCL_CTRL_INVALIDATE (R214): Writing 1 to L2C_SCL_CTRL.invalidate empties the core's scalar and victim caches and sets invalidated. -/
  | sclCtrlInvalidate (core : Nat)
  /-- SCL_CTRL_ENABLE (R214): Writing enable = 1 enables the scalar cache only while invalidated reads 1. -/
  | sclCtrlEnable (core : Nat) (enable : Bool)
  /-- SCRATCH_KIB_WRITE (R208): A write to scratch_kib makes a change pending on each core of the partition. -/
  | scratchKibWrite (who : Origin) (partition : Nat) (value : Nat)
  /-- SCRATCH_CHANGE_APPLY (R208): A pending scratch change takes effect on a core once it holds no block, invalidating L1. -/
  | scratchChangeApply (core : Nat)
  /-- HOST_WRITE_BAR2 (R224): A host write through BAR2 lands at the banks, or at the home with a replica when steered. -/
  | hostWriteBar2 (fn : Nat) (off : Nat) (data : List Byte) (tag : Option Nat)
  /-- HOST_READ_BAR2 (R318): A host read through BAR2 is served from the home or the banks, poisoned or refused as the rules give. -/
  | hostReadBar2 (fn : Nat) (off : Nat) (len : Nat) (chk : L2Check)
  /-- HOST_ATOMICOP (R320): A PCIe FetchAdd, Swap or CAS through BAR2 executes as a home atomic. -/
  | hostAtomicop (fn : Nat) (off : Nat) (kind : Nat) (bytes : Nat) (operand : Nat) (compare : Nat) (chk : L2Check)
  /-- DOORBELL_WRITE (R264): A write to FE_Q_DOORBELL makes ring entries available or is rejected with bad_doorbell. -/
  | doorbellWrite (fn : Nat) (queue : Nat) (value : Nat)
  /-- QUEUE_ENABLE (R266): queue_enable = 1 moves a DISABLED queue with a valid ring to IDLE. -/
  | queueEnable (who : Origin) (queue : Nat)
  /-- QUEUE_DISABLE (R266): queue_enable = 0 moves an IDLE or KILLED queue to DISABLED. -/
  | queueDisable (who : Origin) (queue : Nat)
  /-- QUEUE_PREEMPT (R289): FE_Q_CTRL.preempt starts a pre-emption, or is refused when the save area is too small. -/
  | queuePreempt (queue : Nat)
  /-- QUEUE_RESUME (R291): FE_Q_CTRL.resume restores saved blocks and plan contexts and resumes fetching. -/
  | queueResume (queue : Nat)
  /-- QUEUE_KILL (R266): FE_Q_CTRL.kill kills the queue's context with DEBUG_KILL. -/
  | queueKill (queue : Nat)
  /-- QUEUE_RESET (R266): FE_Q_CTRL.reset returns an IDLE or KILLED queue to IDLE with pointers at 0 within 2 µs. -/
  | queueReset (queue : Nat)
  /-- QUEUE_PREEMPTED (R290): When all work in flight has settled the queue enters PREEMPTED and signals its completion vector. -/
  | queuePreempted (queue : Nat)
  /-- TIME_SLICE_END (R333): A time-sliced turn ends, the holder's queues are pre-empted and the next function's queues resume. -/
  | timeSliceEnd (partition : Nat)
  /-- QUEUE_TIMEOUT (R285): A queue timer reaches queue_timeout and kills the context with QUEUE_TIMEOUT. -/
  | queueTimeout (queue : Nat)
  /-- NODE_FETCH (R272): The front end reads and checks a ring entry or graph node within the 256-position fetch window. -/
  | nodeFetch (queue : Nat) (graph : Option Nat)
  /-- NODE_NOP (R268): A NOP node completes when its predecessors do. -/
  | nodeNop (node : Nat)
  /-- NODE_LAUNCH (R273): A ready LAUNCH node reads its code-object header and begins placing blocks. -/
  | nodeLaunch (node : Nat)
  /-- BLOCK_PLACE (R279): A block is placed on the core with room holding the fewest groups, after L1, caches and instruction cache are invalidated. -/
  | blockPlace (node : Nat) (core : Nat)
  /-- NODE_COPY (R280): A ready COPY node is split into pieces for the DMA engines. -/
  | nodeCopy (node : Nat)
  /-- DMA_PIECE_START (R280): A DMA engine starts a piece of up to 4 MiB. -/
  | dmaPieceStart (node : Nat) (engine : Nat)
  /-- DMA_PIECE_COMPLETE (R280): A DMA piece has written all its bytes. -/
  | dmaPieceComplete (engine : Nat)
  /-- DMA_FLUSH_READ_COMPLETE (R260): The zero-length read after host writes completes, and the COPY signal is applied. -/
  | dmaFlushReadComplete (node : Nat)
  /-- NODE_WAIT (R269): A WAIT node registers a wait on its object. -/
  | nodeWait (node : Nat)
  /-- NODE_SIGNAL (R269): A SIGNAL node applies SIGNAL, POST or BAR.ARRIVE to its object. -/
  | nodeSignal (node : Nat)
  /-- NODE_COLLECT (R366): A COLLECT node joins the group's next collective operation. -/
  | nodeCollect (node : Nat)
  /-- NODE_CALL (R275): A CALL node pins the current edition and starts the stored graph. -/
  | nodeCall (node : Nat)
  /-- NODE_PLAN (R281): A PLAN node takes a free control-core context and starts the program. -/
  | nodePlan (node : Nat)
  /-- NODE_MARK (R269): A MARK node writes a trace record and an optional timestamp. -/
  | nodeMark (node : Nat)
  /-- NODE_COMPLETE (R268): A node completes, acts as a release, advances the read pointer and may signal an interrupt. -/
  | nodeComplete (node : Nat)
  /-- PLAN_EXIT (R282): ECALL EXIT ends the plan program. -/
  | planExit (ctx : Nat)
  /-- PLAN_LAUNCH (R282): ECALL LAUNCH pins and starts a graph and returns a handle. -/
  | planLaunch (ctx : Nat)
  /-- PLAN_WAIT_GRAPH (R282): ECALL WAIT_GRAPH returns when the launch completes. -/
  | planWaitGraph (ctx : Nat)
  /-- PLAN_SYNC (R282): ECALL SYNC performs a sync operation. -/
  | planSync (ctx : Nat)
  /-- PLAN_YIELD (R282): ECALL YIELD lets another context run on the control core. -/
  | planYield (ctx : Nat)
  /-- PLAN_FAULT (R283): An illegal instruction, misaligned access, missing mapping or forbidden access kills the queue's context. -/
  | planFault (ctx : Nat)
  /-- SYNC_OBJECT_APPLY (R297): The sync unit applies one operation to an object and evaluates its waiters. -/
  | syncObjectApply (index : Nat)
  /-- SYNC_WAIT_REGISTER (R302): A wait registers with the sync unit and is evaluated once at registration. -/
  | syncWaitRegister (index : Nat)
  /-- SYNC_REGISTER_RETRY (R302): A semaphore wait that found the registration store full retries after 64 steps. -/
  | syncRegisterRetry (index : Nat)
  /-- WAITER_RELEASE (R303): A broadcast or release message reaches a core, plan context, WAIT node or remote chip and releases its waiters. -/
  | waiterRelease (index : Nat)
  /-- SYNC_WAIT_CANCEL (R157): A cancellation from a pre-empted or killed group is applied in the object's order. -/
  | syncWaitCancel (core : Nat) (slot : Nat)
  /-- SYN_CREATE (R310): Host command that creates an object in the partition's range. -/
  | synCreate (fn : Nat) (cmd : Nat)
  /-- SYN_DESTROY (R310): Host command that releases waiters with ERROR(0x10) and frees the object. -/
  | synDestroy (fn : Nat) (cmd : Nat)
  /-- SYN_OPERATE (R310): Host command that applies SIGNAL, POST or BAR.ARRIVE at scope CHIP. -/
  | synOperate (fn : Nat) (cmd : Nat)
  /-- SYN_SET_ERROR (R310): Host command that sets the object to ERROR(param). -/
  | synSetError (fn : Nat) (cmd : Nat)
  /-- SYN_RESET_OBJ (R310): Host command that returns an object with no waiters to status OK with a new value. -/
  | synResetObj (fn : Nat) (cmd : Nat)
  /-- SYN_READ (R310): Host command that returns the object's state, type and status. -/
  | synRead (fn : Nat) (cmd : Nat)
  /-- SYN_MIRROR (R312): Host command that starts or stops mirroring the object's state to memory. -/
  | synMirror (fn : Nat) (cmd : Nat)
  /-- SYN_NOTIFY (R313): Host command that arms one MSI-X notification on the object. -/
  | synNotify (fn : Nat) (cmd : Nat)
  /-- SYNC_RANGE_WRITE (R295): A write to sync_range grants blocks of objects to a partition, or is rejected. -/
  | syncRangeWrite (who : Origin) (partition : Nat) (value : Nat)
  /-- MSIX_SEND (R335): An MSI-X message is sent once the writes it reports are performed and the vector may send. -/
  | msixSend (fn : Nat) (vector : Nat)
  /-- MSIX_MODERATION_EXPIRE (R335): A vector's moderation interval ends and the events covered meanwhile are sent in one message. -/
  | msixModerationExpire (fn : Nat) (vector : Nat)
  /-- MSIX_UNMASK (R335): Unmasking or enabling a vector sends the message held in its pending bit. -/
  | msixUnmask (fn : Nat) (vector : Nat)
  /-- BUS_MASTER_ENABLE_SET (R324): Setting Bus Master Enable sends the held requests to host pages. -/
  | busMasterEnableSet (fn : Nat) (atomic : Bool) (ats : Bool)
  /-- FLR (R338): An FLR from configuration space or fn_reset puts the gate in RESETTING and stops the function's work. -/
  | flr (who : Origin) (fn : Nat)
  /-- FLR_COMPLETE (R338): The FLR finishes, drops translations, resets entries, increments fn_epoch and signals F0 vector 5. -/
  | flrComplete (fn : Nat)
  /-- FN_DISABLE (R339): fn_enable = 0 puts the gate in DRAINING, stops queue timers and opens drain windows. -/
  | fnDisable (who : Origin) (fn : Nat)
  /-- DRAIN_WINDOW_EXPIRE (R339): A queue whose work has not completed by the end of its drain window is killed with DRAIN_TIMEOUT. -/
  | drainWindowExpire (queue : Nat)
  /-- DISABLE_POINT (R339): When no queue has work in flight the front end stops fetching for the function. -/
  | disablePoint (fn : Nat)
  /-- DISABLE_COMPLETE (R339): Once nothing can land the gate enters DISABLED, the queues are DISABLED and F0 vector 5 is signalled. -/
  | disableComplete (fn : Nat)
  /-- FN_ENABLE (R339): fn_enable = 1 moves a DISABLED gate to OPEN. -/
  | fnEnable (who : Origin) (fn : Nat)
  /-- PARTITION_RESET (R340): A write of 1 to partition_reset performs an FLR of every bound function and clears the partition's core and cache state. -/
  | partitionReset (who : Origin) (partition : Nat)
  /-- PARTITION_QMASK_WRITE (R327): An accepted partition_qmask write reassigns quarter-plains after the L2 copies are written back. -/
  | partitionQmaskWrite (who : Origin) (partition : Nat) (value : Nat)
  /-- SLAB_GRANT (R328): A slab_owner write from 0xFF grants the slab and appends it to the partition's view. -/
  | slabGrant (who : Origin) (slab : Nat) (partition : Nat)
  /-- SLAB_RELEASE (R328): A slab_owner write to 0xFF writes back the slab's L2 copies and starts zeroing it. -/
  | slabRelease (who : Origin) (slab : Nat)
  /-- SLAB_ZERO_COMPLETE (R328): A released slab finishes zeroing and can be granted again. -/
  | slabZeroComplete (slab : Nat)
  /-- FN_PARTITION_WRITE (R330): A write to fn_partition binds a DISABLED function to a partition. -/
  | fnPartitionWrite (who : Origin) (fn : Nat) (partition : Nat)
  /-- VF_ENABLE_WRITE (R341): Clearing VF Enable or lowering NumVFs performs an FLR of the affected virtual functions, and setting it brings them into existence. -/
  | vfEnableWrite (enable : Bool) (numVfs : Nat)
  /-- D3HOT_ENTRY (R341): Entry of a function into D3hot performs an FLR of it, and of every VF for F0. -/
  | d3hotEntry (fn : Nat)
  /-- BAR2_RESIZE (R318): A change of F0's BAR2 size rounds bar2_base down to a multiple of the new size. -/
  | bar2Resize (vf : Bool) (sizeLog : Nat)
  /-- TRANSLATION_INVALIDATE (R325): HIF_INV_CMD go drops the matching translations of a range in every translation cache. -/
  | translationInvalidate (fn : Nat) (cmd : Nat)
  /-- TRANSLATION_INVALIDATE_ALL (R325): HIF_INV_CMD with all set drops every translation of the function. -/
  | translationInvalidateAll (fn : Nat) (cmd : Nat)
  /-- INVALIDATE_COMPLETE (R325): The invalidation completes once every access using a dropped entry is performed or discarded, and busy clears. -/
  | invalidateComplete (fn : Nat)
  /-- ATS_INVALIDATE_REQUEST (R325): An ATS Invalidate Request drops host-page translations and is answered once accesses using them are done. -/
  | atsInvalidateRequest (fn : Nat) (page : Nat) (pages : Nat)
  /-- ATS_TRANSLATION_COMPLETION (R324): An ATS translation completion fills the host-page translation cache. -/
  | atsTranslationCompletion (fn : Nat) (page : Nat) (frame : Nat) (read : Bool) (write : Bool)
  /-- PCIE_LINK_DOWN (R456): The PCIe link goes down and requests to host pages are held against their queue timers. -/
  | pcieLinkDown
  /-- PCIE_LINK_UP (R315): The PCIe link trains and held host requests resume. -/
  | pcieLinkUp
  /-- DOE_DISCOVERY (R343): A DOE discovery request on F0 is answered. -/
  | doeDiscovery (index : Nat)
  /-- SPDM_GET_CERTIFICATE (R343): An SPDM request returns a certificate chain from a slot. -/
  | spdmGetCertificate (slot : Nat) (off : Nat) (len : Nat)
  /-- SPDM_CHALLENGE (R343): An SPDM challenge is answered with an ECDSA P-384 signature. -/
  | spdmChallenge (slot : Nat) (nonce : List Byte)
  /-- SPDM_GET_MEASUREMENTS (R344): An SPDM request returns the SHA-384 measurement blocks. -/
  | spdmGetMeasurements (index : Nat) (nonce : List Byte)
  /-- SPDM_SET_CERTIFICATE (R343): The integrator writes a persistent certificate chain into slot 1-7. -/
  | spdmSetCertificate (slot : Nat) (chain : List Byte)
  /-- LINK_TRAINING_ATTEMPT (R348): Every 100 ms a down, enabled link attempts training, exchanging chip ids and tie configuration. -/
  | linkTrainingAttempt (link : Nat)
  /-- LINK_TRAINING_COMPLETE (R348): A link comes up, forms or joins a port, or is held by a check, and joins routing. -/
  | linkTrainingComplete (link : Nat) (peer : Nat) (peerLink : Nat) (lanes : Nat) (peerTie : List Nat)
  /-- LANE_DROP (R349): A lane that loses lock or exceeds the error rate is dropped and the link retrains on the rest. -/
  | laneDrop (link : Nat)
  /-- LINK_RETRAIN_COMPLETE (R349): The link resumes on its remaining lanes and resends the flits of its replay buffer. -/
  | linkRetrainComplete (link : Nat)
  /-- LINK_DOWN (R372): A link goes down, the routes are updated and unanswered requests on it are resent. -/
  | linkDown (link : Nat)
  /-- FLIT_RECEIVE (R347): A received flit is corrected and delivered, or discarded with a replay request. -/
  | flitReceive (link : Nat) (seq : Nat) (good : Bool) (corrected : Bool)
  /-- FABRIC_READ (R363): A READ packet is admitted under a binding and served at the home or the banks. -/
  | fabricRead (pkt : Packet) (len : Nat)
  /-- FABRIC_WRITE (R363): A WRITE packet is admitted, lands and is acknowledged. -/
  | fabricWrite (pkt : Packet)
  /-- FABRIC_ATOMIC (R363): An ATOMIC packet executes at the home or the newt. -/
  | fabricAtomic (pkt : Packet)
  /-- FABRIC_SYNC_OP (R363): A SYNC_OP packet is applied to an object with SYSTEM access. -/
  | fabricSyncOp (pkt : Packet)
  /-- COH_REQ (R371): A tied member's coherent request is admitted under a binding and served at the owning home. -/
  | cohReq (pkt : Packet) (len : Nat)
  /-- COLLECT_DATA (R368): A collective contribution is combined in the router by the rank tree. -/
  | collectData (pkt : Packet) (group : Nat) (rank : Nat)
  /-- READ_DATA (R363): READ_DATA completes a remote read at the issuer. -/
  | readData (pkt : Packet)
  /-- FABRIC_ACK (R356): An ACK completes a remote write, or a refusal kills the issuer with its status. -/
  | fabricAck (pkt : Packet)
  /-- ATOMIC_RESP (R363): ATOMIC_RESP returns the old value of a remote atomic. -/
  | atomicResp (pkt : Packet)
  /-- SYNC_RESP (R363): SYNC_RESP returns the status of a remote sync operation. -/
  | syncResp (pkt : Packet)
  /-- SYNC_RELEASE (R303): SYNC_RELEASE carries an object's new state to remote waiters. -/
  | syncRelease (pkt : Packet)
  /-- COH_MSG (R370): An invalidation, fill, write-back or acknowledgement of a tied group arrives. -/
  | cohMsg (pkt : Packet)
  /-- COLLECT_RESULT (R368): A collective result arrives and is written to dst, completing the node. -/
  | collectResult (pkt : Packet) (group : Nat)
  /-- COLLECT_ABORT (R369): A collective abort ends the member's node and kills its context with FENCE_ERROR_PROPAGATED. -/
  | collectAbort (pkt : Packet) (group : Nat)
  /-- LINK_STATE (R357): A flooded LINK_STATE packet updates pass_map and the routes. -/
  | linkState (pkt : Packet) (valley : Nat) (mask : Nat) (reachable : List Nat) (passes : List Nat)
  /-- PACKET_CRC_FAIL (R353): A packet whose CRC fails is discarded and asked for again, and the fourth failure poisons or refuses it. -/
  | packetCrcFail (pkt : Packet) (len : Nat)
  /-- REQUEST_RESEND (R362): A request unanswered after 25 µs is resent. -/
  | requestResend (req : Nat) (link : Nat)
  /-- PASS_OCCUPANCY_ADVERT (R359): Every 2 µs each member advertises its pass occupancy to its valley. -/
  | passOccupancyAdvert (pkt : Packet) (valley : Nat) (occupancy : Nat)
  /-- CHIP_UNREACHABLE (R373): A chip with no route for 50 µs is unreachable and work addressed to it is reported lost. -/
  | chipUnreachable (chip : Nat)
  /-- CHIP_REACHABLE_AGAIN (R373): A route to the chip exists again and new requests proceed. -/
  | chipReachableAgain (chip : Nat)
  /-- LASER_LIGHT_LOSS (R380): A light loss, absent module or CMIS alarm fails the module and moves its lane groups at once. -/
  | laserLightLoss (laser : Nat)
  /-- CMIS_ALARM_POLL (R380): Every 10 ms Cugen polls the CMIS alarm flags of each module. -/
  | cmisAlarmPoll (laser : Nat) (flags : Nat)
  /-- LANE_GROUP_SWITCHOVER (R380): The moved lanes relock and retune to the new source within 20 µs and lost flits are replayed. -/
  | laneGroupSwitchover (engine : Nat) (group : Nat)
  /-- PLANNED_MOVE (R380): A planned move shifts one lane group at least 1 ms after the previous move. -/
  | plannedMove
  /-- LASER_SERVICE (R382): A write of 1 to laser_service drains a module to state 3, or stays pending for an empty bay. -/
  | laserService (who : Origin) (laser : Nat)
  /-- LASER_INSERT (R383): An inserted module's identity and bay record are read and the bay epoch increments. -/
  | laserInsert (laser : Nat) (identity : List Byte) (bayChip : Nat) (bayEpoch : Nat) (readable : Bool)
  /-- LASER_CALIBRATION_COMPLETE (R384): Calibration passes, the module becomes ready and its record is stored. -/
  | laserCalibrationComplete (laser : Nat) (passed : Bool) (flags : Nat)
  /-- LASER_RECALIBRATE (R386): A write of 1 to laser_recalibrate resets the module, increments the epoch and calibrates it. -/
  | laserRecalibrate (who : Origin) (laser : Nat)
  /-- LASER_TELEMETRY_POLL (R387): Every 100 ms CMIS telemetry is copied into laser_telemetry. -/
  | laserTelemetryPoll (laser : Nat) (bytes : List Byte)
  /-- LASER_LIFE_HOUR (R387): Each lit hour adds to laser_hours, and life_warning is set at 900 per mille. -/
  | laserLifeHour (laser : Nat) (temp : Nat)
  /-- OE_FAIL (R388): An optical engine without progress for 10 µs, or failing self-test, fails with its four links. -/
  | oeFail (engine : Nat)
  /-- SVC_QP_DOORBELL (R393): A write to SVC_QP_DOORBELL makes work entries of a QP's send ring available. -/
  | svcQpDoorbell (fn : Nat) (qp : Nat) (value : Nat)
  /-- SVC_QP_STATE_WRITE (R393): A write to a QP's state readies or resets it, discarding unconsumed entries on reset. -/
  | svcQpStateWrite (who : Origin) (fn : Nat) (qp : Nat) (bytes : List Byte)
  /-- RDMA_WRITE (R393): A work entry with opcode 1 starts an RDMA WRITE to the peer. -/
  | rdmaWrite (fn : Nat) (qp : Nat)
  /-- RDMA_READ (R393): A work entry with opcode 2 starts an RDMA READ from the peer. -/
  | rdmaRead (fn : Nat) (qp : Nat)
  /-- RDMA_WORK_COMPLETE (R394): A work entry completes, writes status 1 and applies its signal. -/
  | rdmaWorkComplete (fn : Nat) (qp : Nat) (data : List Byte)
  /-- RDMA_WORK_FAIL (R394): A failed entry moves the QP to error and flushes later entries with status 5. -/
  | rdmaWorkFail (fn : Nat) (qp : Nat) (status : Nat)
  /-- RDMA_ACK_TIMEOUT (R396): An ACK timeout retransmits, or fails the entry when retries are exhausted. -/
  | rdmaAckTimeout (fn : Nat) (qp : Nat)
  /-- ROCE_REMOTE_REQUEST (R395): An incoming RoCEv2 request is checked against svc_region, translated and served or NAKed. -/
  | roceRemoteRequest (fn : Nat) (qp : Nat) (op : Nat) (addr : Nat) (rkey : Nat) (len : Nat) (data : List Byte)
  /-- ROCE_CNP_RECEIVE (R393): A received CNP halves the QP's rate. -/
  | roceCnpReceive (fn : Nat) (qp : Nat)
  /-- NEIGHBOUR_REQUEST (R392): An ARP or IPv6 neighbour request for the port's address is answered. -/
  | neighbourRequest (port : Nat) (ip : List Byte)
  /-- PFC_FRAME_RECEIVE (R397): A received PFC frame pauses or resumes a priority. -/
  | pfcFrameReceive (port : Nat) (enable : Nat) (pause : Nat)
  /-- PFC_XOFF_SEND (R397): A priority's buffer share passing 75 % sends XOFF, and falling below 50 % sends XON. -/
  | pfcXoffSend (port : Nat) (priority : Nat) (fill : Nat)
  /-- PFC_WATCHDOG_EXPIRE (R397): A priority paused for svc_pfc_watchdog has its frames discarded and pfc_storm set. -/
  | pfcWatchdogExpire (port : Nat) (priority : Nat)
  /-- SVC_LINK_DOWN (R396): A service port's link goes down. -/
  | svcLinkDown (port : Nat)
  /-- SVC_LINK_UP (R391): A service port's link comes up. -/
  | svcLinkUp (port : Nat)
  /-- POWER_CAP_EVALUATION (R401): Every 1 ms the controller reads module energy and sets every plain's cap limit. -/
  | powerCapEvaluation (energy : Nat) (matrix : Nat) (full : Nat)
  /-- OVERCURRENT_ALARM (R403): A regulator over-current alarm clamps every plain to pwr_droop_admit until the next evaluation. -/
  | overcurrentAlarm
  /-- DROOP_DETECT (R404): A supply sag beyond the threshold clamps the plain's droop limit to pwr_droop_admit. -/
  | droopDetect (domain : Nat)
  /-- DROOP_RECOVER (R404): After 1 µs within the threshold the droop limit returns to 64. -/
  | droopRecover (domain : Nat)
  /-- THERMAL_EVALUATION (R406): Every 10 ms sensors are read and thermal limits are stepped down or up by 4. -/
  | thermalEvaluation (temps : Temps)
  /-- THERMAL_TRIP (R406): A die at its trip temperature removes the core and base-die supplies and asserts the thermal-trip output. -/
  | thermalTrip (sensor : Nat) (reading : Nat)
  /-- ENERGY_ATTRIBUTION (R407): Every 1 ms modelled energy is scaled to each rail's measured energy and charged to queues, functions, partitions and jobs. -/
  | energyAttribution (rails : List RailEnergy)
  /-- SLICE_PACING (R411): Every 1 ms a chip sends its effective matrix rate and sets its pacing limit from the slowest member. -/
  | slicePacing (rates : List (Nat × Nat))
  /-- PWR_JOB_RELEASE (R409): A write to pwr_job_release logs the job record's final values and frees its slot. -/
  | pwrJobRelease (who : Origin) (job : Nat)
  /-- KAMUF_READ (R421): A READ frame returns an entry's value bytes from an offset, or log records from a sequence number. -/
  | kamufRead (who : Origin) (frame : Frame)
  /-- KAMUF_WRITE (R416): A WRITE frame of an entry without a row of its own is checked and applied whole, or assembled from segments. -/
  | kamufWrite (who : Origin) (frame : Frame)
  /-- KAMUF_DESCRIBE (R419): A DESCRIBE frame returns the entry's type, access, scope, persistence, length and default. -/
  | kamufDescribe (who : Origin) (frame : Frame)
  /-- KAMUF_NEXT (R419): A NEXT frame returns the next present entry the interface may read. -/
  | kamufNext (who : Origin) (frame : Frame)
  /-- SEGMENT_ASSEMBLY_TIMEOUT (R421): A segmented write idle for 1 s is discarded. -/
  | segmentAssemblyTimeout (index : Nat)
  /-- MAILBOX_GO (R424): MGT_MB_CTRL.go sends the buffered frame to the dispatcher and makes the mailbox busy. -/
  | mailboxGo (fn : Nat) (value : Nat)
  /-- MAILBOX_RESPONSE (R424): The response frame is placed in the buffer, busy clears, done sets and the vector may be signalled. -/
  | mailboxResponse (fn : Nat)
  /-- SET_ENDPOINT_ID (R423): MCTP control command that assigns the endpoint ID. -/
  | setEndpointId (eid : Nat)
  /-- GET_ENDPOINT_ID (R423): MCTP control command that returns the endpoint ID. -/
  | getEndpointId
  /-- GET_MCTP_VERSION_SUPPORT (R423): MCTP control command that returns the supported versions. -/
  | getMctpVersionSupport (type : Nat)
  /-- GET_MESSAGE_TYPE_SUPPORT (R423): MCTP control command that returns the supported message types. -/
  | getMessageTypeSupport
  /-- GET_VENDOR_DEFINED_MESSAGE_SUPPORT (R423): MCTP control command that returns vendor-defined message support. -/
  | getVendorDefinedMessageSupport (selector : Nat)
  /-- LOG_RECORD_APPEND (R425): A record is appended durably to the persistent log ring, overwriting the oldest when full. -/
  | logRecordAppend (type : Nat) (old : List Byte) (new : List Byte)
  /-- LOG_APPEND (R425): A write to log_append appends a software note as type 0x000F. -/
  | logAppend (who : Origin) (note : List Byte)
  /-- ERR_LOG_PERSIST_COPY (R458): Cugen copies each error-log record into the persistent log within 10 ms. -/
  | errLogPersistCopy (rec : Nat)
  /-- SENSOR_READ (R428): A periodic sensor read updates sensor_value and may change sensor_state with a type 0x0006 record. -/
  | sensorRead (sensor : Nat) (value : Nat) (readable : Bool)
  /-- UPDATE_BEGIN (R431): update_control BEGIN erases the inactive slot and opens a session in RECEIVING. -/
  | updateBegin (who : Origin)
  /-- UPDATE_IMAGE_SEGMENT (R431): An update_image segment is written into the inactive slot. -/
  | updateImageSegment (who : Origin) (off : Nat) (bytes : List Byte) (last : Bool)
  /-- UPDATE_VERIFY (R431): update_control VERIFY checks the image and enters VERIFIED or FAILED. -/
  | updateVerify (who : Origin)
  /-- UPDATE_ACTIVATE (R431): update_control ACTIVATE selects the slot for the next boot as a trial. -/
  | updateActivate (who : Origin)
  /-- UPDATE_COMMIT (R433): update_control COMMIT makes the trial slot active, raises the rollback counter and revokes keys. -/
  | updateCommit (who : Origin)
  /-- UPDATE_ABORT (R431): update_control ABORT marks the inactive slot empty and returns to IDLE. -/
  | updateAbort (who : Origin)
  /-- DEBUG_KILL (R434): A write to debug_kill kills the named queue's context with DEBUG_KILL. -/
  | debugKill (who : Origin) (queue : Nat)
  /-- SLICE_MEMBERS_WRITE (R27): A write to slice_members forms the valley slice descriptor from the other members' chip descriptors. -/
  | sliceMembersWrite (who : Origin) (bytes : List Byte)
  /-- CNT_VALUE_WRITE (R438): A write to CNT_VALUE sets the count, and an event in the same step is added after it. -/
  | cntValueWrite (off : Nat) (value : Nat)
  /-- CNT_FREEZE (R438): CNT_CTRL.freeze stops or restarts every bank at one GTB instant. -/
  | cntFreeze (freeze : Bool)
  /-- CNT_CLEAR_ALL (R438): CNT_CTRL.clear_all sets every counter to 0 at one GTB instant. -/
  | cntClearAll
  /-- LAYER_FLUSH_REQUEST (R440): CNT_FN_CTRL.flush starts a flush of the function's accumulators. -/
  | layerFlushRequest (fn : Nat)
  /-- LAYER_FLUSH_TIMER (R440): After cnt_flush_us a function's accumulators are flushed. -/
  | layerFlushTimer (fn : Nat)
  /-- CNT_LAYER_BASE_WRITE (R442): A write to cnt_layer_base flushes into the old table and is answered when that flush completes. -/
  | cntLayerBaseWrite (who : Origin) (fn : Nat) (value : Nat)
  /-- LAYER_FLUSH_COMPLETE (R442): All flush atomics complete, flush_seq increments and the flush acts as a release. -/
  | layerFlushComplete (fn : Nat)
  /-- TRACE_RECORD_EMIT (R446): A source stages a trace record for each running buffer that takes it, or drops and counts it. -/
  | traceRecordEmit (source : Nat) (rec : TrcRec)
  /-- TRACE_GAP_RECORD (R446): When a staging slot frees, the source writes a gap record carrying the number dropped. -/
  | traceGapRecord (buf : Nat) (source : Nat)
  /-- TRACE_DRAIN (R446): The drain engine writes staged records into a ring and advances TRC_WRITE. -/
  | traceDrain (buf : Nat) (source : Nat)
  /-- TRACE_START (R448): TRC_CTRL.start moves a buffer to RUNNING with its counts at 0. -/
  | traceStart (fn : Nat) (buf : Nat)
  /-- TRACE_STOP (R448): TRC_CTRL.stop moves a buffer to STOPPING. -/
  | traceStop (fn : Nat) (buf : Nat)
  /-- TRACE_TRIGGER (R447): TRC_CTRL.trigger triggers the buffer now. -/
  | traceTrigger (fn : Nat) (buf : Nat)
  /-- TRACE_DISABLE (R448): TRC_CTRL.disable moves the buffer to DISABLED. -/
  | traceDisable (fn : Nat) (buf : Nat)
  /-- TRC_READ_WRITE (R447): A write to TRC_READ advances the read count to max(read, v) when v is not beyond write. -/
  | trcReadWrite (fn : Nat) (buf : Nat) (value : Nat)
  /-- TRACE_STOPPED (R448): A STOPPING buffer whose staging is empty enters STOPPED and signals its vector. -/
  | traceStopped (buf : Nat)
  /-- REGISTER_READ (R10): A 32-bit read of the low half of a 64-bit BAR0 register returns the low half and captures the high half for the next high-half read by the same function. -/
  | registerRead (fn : Nat) (off : Nat) (size : Nat)
  /-- CONTROL_CORE_INSTRUCTION (R281): A control core executes one RV64IMAC instruction of a plan program, including its loads, stores, AMOs and FENCE rw,rw with the ordering of R240. -/
  | controlCoreInstruction (ctx : Nat)
  /-- D0_ENTRY (R335): A function returns from D3hot to D0, and MSI-X messages held in pending bits are sent once the other send conditions hold. -/
  | d0Entry (fn : Nat)
  /-- LASER_REMOVE (R483): A laser module in state 3 (service) is removed from its bay, which goes to state 0 (absent) with both indicators dark. -/
  | laserRemove (laser : Nat)
deriving DecidableEq, Repr

end Sys2Proof
end

