-- ==== Sys2Proof/Decode.lean ====
section
/-! DEFINITION. Decode.lean: the command that a word spells by the table's bits. The opcode table gives no row any bits
(every row has an empty list of fields and no fixed bits), so no word spells a command. -/

namespace Sys2Proof

/-- The command that a word spells: none, since the table gives no row bits (log entry 8). -/
def decodeTableWord (_nbits _w : Nat) : Option Instr := none

end Sys2Proof
end

