-- ==== Sys2Proof/Machine/Maps.lean ====
section
/-! DEFINITION. Machine/Maps.lean: sparse tables. Every operation keeps the keys strictly rising, so that one table
is one list. -/

namespace Sys2Proof.SMap

variable {α : Type}

/-- The value at a key, if the table lists it. -/
def get? : SMap α → Nat → Option α
  | [], _ => none
  | (k, v) :: t, i => if i = k then some v else get? t i

/-- The value at a key, or the default of the table. -/
def getD (m : SMap α) (i : Nat) (d : α) : α :=
  match get? m i with
  | some v => v
  | none => d

/-- Does the table list the key? -/
def has (m : SMap α) (i : Nat) : Bool := (get? m i).isSome

/-- The table with one value set. -/
def put : SMap α → Nat → α → SMap α
  | [], i, v => [(i, v)]
  | (k, w) :: t, i, v =>
    if i < k then (i, v) :: (k, w) :: t
    else if i = k then (i, v) :: t
    else (k, w) :: put t i v

/-- The table without a key. -/
def del : SMap α → Nat → SMap α
  | [], _ => []
  | (k, w) :: t, i => if i = k then del t i else (k, w) :: del t i

/-- Change one value, reading the default where the table lists none. -/
def modify (m : SMap α) (i : Nat) (d : α) (f : α → α) : SMap α := put m i (f (getD m i d))

/-- Keep the entries that satisfy a test. -/
def keep (m : SMap α) (p : Nat → α → Bool) : SMap α := m.filter (fun e => p e.1 e.2)

/-- Change every listed value. -/
def mapVals (m : SMap α) (f : Nat → α → α) : SMap α := m.map (fun e => (e.1, f e.1 e.2))

/-- The listed values. -/
def vals (m : SMap α) : List α := m.map Prod.snd

/-- The listed keys. -/
def keys (m : SMap α) : List Nat := m.map Prod.fst

/-- The first key above every listed key. -/
def fresh (m : SMap α) : Nat := m.foldl (fun a e => max a (e.1 + 1)) 0

/-- The keys rise strictly. -/
def rising : List Nat → Bool
  | [] => true
  | [_] => true
  | a :: b :: t => decide (a < b) && rising (b :: t)

/-- The canonical form of a table. -/
def wf (m : SMap α) : Bool := rising (keys m)

end Sys2Proof.SMap

namespace Sys2Proof

/-- A set of numbers as a strictly rising list: put one in. -/
def setInsert (i : Nat) : List Nat → List Nat
  | [] => [i]
  | k :: t => if i < k then i :: k :: t else if i = k then k :: t else k :: setInsert i t

/-- Take one number out of a set. -/
def setErase (i : Nat) (l : List Nat) : List Nat := l.filter (fun k => !decide (k = i))

/-- Put every number of a list into a set. -/
def setUnion (xs l : List Nat) : List Nat := xs.foldl (fun a i => setInsert i a) l

/-- The numbers `a, a+1, …, a+n-1`. -/
def rangeFrom (a : Nat) : Nat → List Nat
  | 0 => []
  | n + 1 => a :: rangeFrom (a + 1) n

/-- Sum of a list of numbers. -/
def sumNat (l : List Nat) : Nat := l.foldl (· + ·) 0

end Sys2Proof
end

