-- ==== Sys2Proof/Machine/Bits.lean ====
section
/-! DEFINITION. Machine/Bits.lean: bit fields, byte order and the cyclic codes. Bit 0 is the least significant bit of
every field, and multi-byte values are little-endian (spec 00_scope.md R5). -/

namespace Sys2Proof

/-- Bits [hi:lo] of a number. -/
def bits (x hi lo : Nat) : Nat := x / 2 ^ lo % 2 ^ (hi + 1 - lo)

/-- One bit of a number. -/
def bit (x i : Nat) : Bool := decide (x / 2 ^ i % 2 = 1)

/-- The low `n` bits of a number. -/
def lowBits (n x : Nat) : Nat := x % 2 ^ n

/-- 1 or 0. -/
def b2n (b : Bool) : Nat := if b then 1 else 0

/-- Replace bits [hi:lo] of a number. -/
def setBits (x hi lo v : Nat) : Nat :=
  x % 2 ^ lo + (v % 2 ^ (hi + 1 - lo)) * 2 ^ lo + x / 2 ^ (hi + 1) * 2 ^ (hi + 1)

/-- Set one bit of a number. -/
def setBit (x i : Nat) : Nat := if bit x i then x else x + 2 ^ i

/-- Clear one bit of a number. -/
def clrBit (x i : Nat) : Nat := if bit x i then x - 2 ^ i else x

/-- Bitwise operations on numbers below `2 ^ n`. -/
def natAnd (n a b : Nat) : Nat := (BitVec.ofNat n a &&& BitVec.ofNat n b).toNat
/-- Bitwise or on `n` bits. -/
def natOr (n a b : Nat) : Nat := (BitVec.ofNat n a ||| BitVec.ofNat n b).toNat
/-- Bitwise exclusive or on `n` bits. -/
def natXor (n a b : Nat) : Nat := (BitVec.ofNat n a ^^^ BitVec.ofNat n b).toNat
/-- The bits of `a` that `b` does not have, on `n` bits. -/
def natAndNot (n a b : Nat) : Nat := (BitVec.ofNat n a &&& ~~~ BitVec.ofNat n b).toNat

/-- How many of the low `n` bits are set. -/
def popCount : Nat → Nat → Nat
  | 0, _ => 0
  | n + 1, x => x % 2 + popCount n (x / 2)

/-- The positions of the set bits among the low `n`, rising. -/
def bitList (n x : Nat) : List Nat := (List.range n).filter (fun i => bit x i)

/-- The number whose set bits are the listed positions. -/
def ofBitList (l : List Nat) : Nat := l.foldl setBit 0

/-- Sign extension of the low `n` bits of a number to an integer. -/
def signExt (n x : Nat) : Int :=
  let y := x % 2 ^ n
  if n ≠ 0 ∧ 2 ^ (n - 1) ≤ y then (y : Int) - (2 ^ n : Nat) else (y : Int)

/-- An integer as `n` bits of two's complement. -/
def wrapInt (n : Nat) (x : Int) : Nat := (x % (2 ^ n : Nat)).toNat

/-- The value of little-endian bytes (R5). -/
def ofLe : List Byte → Nat
  | [] => 0
  | b :: t => b.toNat + 256 * ofLe t

/-- The `n` little-endian bytes of a number (R5). -/
def leBytes : Nat → Nat → List Byte
  | 0, _ => []
  | n + 1, x => BitVec.ofNat 8 (x % 256) :: leBytes n (x / 256)

/-- `n` bytes of zero. -/
def zeroBytes (n : Nat) : List Byte := List.replicate n 0#8

/-- The field of `n` bytes at an offset of a record; bytes past its end read as zero. -/
def fieldAt (l : List Byte) (off n : Nat) : Nat := ofLe ((l.drop off).take n)

/-- A list with the bytes from an offset on replaced; the list keeps its length. -/
def overlay (l : List Byte) (off : Nat) (v : List Byte) : List Byte :=
  (l.take off ++ v ++ l.drop (off + v.length)).take l.length

/-- Align an address down. -/
def alignDown (a n : Nat) : Nat := a / n * n

/-- Is the address a multiple? -/
def aligned (a n : Nat) : Bool := decide (a % n = 0)

/-- The smallest multiple of `n` that is not below `a`, divided by `n`. -/
def ceilDiv (a n : Nat) : Nat := (a + n - 1) / n

/-- One bit of a reflected CRC. -/
def crcStep (poly : Nat) : Nat → Nat → Nat
  | 0, r => r
  | k + 1, r => crcStep poly k (if r % 2 = 1 then natXor 32 (r / 2) poly else r / 2)

/-- CRC-32C of bytes: reflected polynomial 0x82F63B78, register and result inverted.
PRESUMED: the spec names CRC-32C and gives no polynomial (log entry 5). -/
def crc32c (l : List Byte) : Nat :=
  natXor 32 (l.foldl (fun r b => crcStep 0x82F63B78 8 (natXor 32 r b.toNat)) 0xFFFFFFFF) 0xFFFFFFFF

end Sys2Proof
end

