-- ==== Sys2Proof/Machine/Numerics.lean ====
section
/-! DEFINITION. Machine/Numerics.lean: the number formats and the rounding, overflow and special-value rules of chapter 8. A value is formed
exactly and rounded once (R193). -/

namespace Sys2Proof

/-- How the top exponent of a format is used (Table 8.1). -/
inductive FKind
  | ieee    -- infinities and NaN
  | e4m3    -- one NaN code, no infinity
  | plain   -- every code is a number
deriving DecidableEq, Repr

/-- A floating-point format (Table 8.1): exponent and significand bits, bias, kind and canonical NaN. -/
structure Fmt where
  eb : Nat
  mb : Nat
  bias : Nat
  kind : FKind
  nan : Nat
deriving DecidableEq, Repr

/-- FP64. -/
def Fmt.fp64 : Fmt := { eb := 11, mb := 52, bias := 1023, kind := .ieee, nan := 0x7FF8000000000000 }
/-- FP32. -/
def Fmt.fp32 : Fmt := { eb := 8, mb := 23, bias := 127, kind := .ieee, nan := 0x7FC00000 }
/-- BF16. -/
def Fmt.bf16 : Fmt := { eb := 8, mb := 7, bias := 127, kind := .ieee, nan := 0x7FC0 }
/-- FP16. -/
def Fmt.fp16 : Fmt := { eb := 5, mb := 10, bias := 15, kind := .ieee, nan := 0x7E00 }
/-- FP8 E4M3. -/
def Fmt.e4m3 : Fmt := { eb := 4, mb := 3, bias := 7, kind := .e4m3, nan := 0x7F }
/-- FP8 E5M2. -/
def Fmt.e5m2 : Fmt := { eb := 5, mb := 2, bias := 15, kind := .ieee, nan := 0x7E }
/-- FP6 E2M3; a NaN becomes 0 (R197). -/
def Fmt.e2m3 : Fmt := { eb := 2, mb := 3, bias := 1, kind := .plain, nan := 0 }
/-- FP6 E3M2. -/
def Fmt.e3m2 : Fmt := { eb := 3, mb := 2, bias := 3, kind := .plain, nan := 0 }
/-- FP4 E2M1. -/
def Fmt.e2m1 : Fmt := { eb := 2, mb := 1, bias := 1, kind := .plain, nan := 0 }

/-- Width of a format in bits. -/
def Fmt.width (f : Fmt) : Nat := 1 + f.eb + f.mb

/-- An exact value: NaN, an infinity, or (-1)^neg * m * 2^e. Zero has m = 0 and keeps its sign. -/
inductive FVal
  | nan
  | inf (neg : Bool)
  | fin (neg : Bool) (m : Nat) (e : Int)
deriving DecidableEq, Repr

/-- Rounding modes (R193); the stochastic mode carries its 16-bit random value. -/
inductive Rnd
  | rne
  | rz
  | sr (r : Nat)
deriving DecidableEq, Repr

/-- The exponent of the least significand bit of subnormals. -/
def Fmt.minExp (f : Fmt) : Int := 1 - f.bias - f.mb

/-- The exponent of the least significand bit of the largest finite value. -/
def Fmt.maxExp (f : Fmt) : Int := (if f.kind = .ieee then 2 ^ f.eb - 2 else 2 ^ f.eb - 1 : Nat) - (f.bias : Int) - f.mb

/-- The significand of the largest finite value (Table 8.1). -/
def Fmt.maxSig (f : Fmt) : Nat := if f.kind = .e4m3 then 2 ^ (f.mb + 1) - 2 else 2 ^ (f.mb + 1) - 1

/-- The value of a code (R189, Table 8.1). -/
def Fmt.decode (f : Fmt) (x : Nat) : FVal :=
  let neg := bit x (f.eb + f.mb)
  let e := x / 2 ^ f.mb % 2 ^ f.eb
  let m := x % 2 ^ f.mb
  if f.kind = .ieee ∧ e = 2 ^ f.eb - 1 then (if m = 0 then .inf neg else .nan)
  else if f.kind = .e4m3 ∧ e = 2 ^ f.eb - 1 ∧ m = 2 ^ f.mb - 1 then .nan
  else if e = 0 then .fin neg m f.minExp
  else .fin neg (2 ^ f.mb + m) (f.minExp + e - 1)

/-- m * 2^e as a multiple of 2^q, rounded (R193, R194). -/
def roundAt (r : Rnd) (m : Nat) (e q : Int) : Nat :=
  if q ≤ e then m * 2 ^ (e - q).toNat
  else
    let sh := (q - e).toNat
    let lo := m / 2 ^ sh
    let rem := m % 2 ^ sh
    if rem = 0 then lo
    else match r with
      | .rz => lo
      | .rne => if 2 ^ sh < 2 * rem ∨ (2 * rem = 2 ^ sh ∧ lo % 2 = 1) then lo + 1 else lo
      | .sr v => if v < 65536 * rem / 2 ^ sh then lo + 1 else lo

/-- The sign bit of a format. -/
def Fmt.sign (f : Fmt) (neg : Bool) : Nat := if neg then 2 ^ (f.eb + f.mb) else 0

/-- The code of k * 2^q, where q is the exponent of its least significand bit. -/
def Fmt.pack (f : Fmt) (neg : Bool) (k : Nat) (q : Int) : Nat :=
  f.sign neg + (if k < 2 ^ f.mb then k else ((q - f.minExp).toNat + 1) * 2 ^ f.mb + (k - 2 ^ f.mb))

/-- The largest finite value of a sign. -/
def Fmt.largest (f : Fmt) (neg : Bool) : Nat := f.pack neg f.maxSig f.maxExp

/-- Infinity of a sign, for a format that has one. -/
def Fmt.infinity (f : Fmt) (neg : Bool) : Nat := f.sign neg + (2 ^ f.eb - 1) * 2 ^ f.mb

/-- Overflow and infinite sources (Table 8.3a). -/
def Fmt.overflow (f : Fmt) (r : Rnd) (sat infSource neg : Bool) : Nat :=
  if sat || decide (f.kind = .plain) || (decide (r = .rz) && !infSource) then f.largest neg
  else if f.kind = .e4m3 then f.nan else f.infinity neg

/-- Round an exact value to a format (R193, R196, R197). -/
def Fmt.encode (f : Fmt) (r : Rnd) (sat : Bool) (v : FVal) : Nat :=
  match v with
  | .nan => f.nan
  | .inf neg => f.overflow r sat true neg
  | .fin neg m e =>
    if m = 0 then f.sign neg
    else
      let q := max f.minExp ((Nat.log2 m : Int) + e - f.mb)
      let k := roundAt r m e q
      if f.maxExp < q ∨ (q = f.maxExp ∧ f.maxSig < k) then f.overflow r sat false neg else f.pack neg k q

/-- Is the value a NaN? -/
def FVal.isNan : FVal → Bool
  | .nan => true
  | _ => false

/-- The sign of a value. -/
def FVal.neg? : FVal → Bool
  | .nan => false
  | .inf n => n
  | .fin n _ _ => n

/-- Negate. -/
def FVal.negate : FVal → FVal
  | .nan => .nan
  | .inf n => .inf (!n)
  | .fin n m e => .fin (!n) m e

/-- Absolute value. -/
def FVal.abs : FVal → FVal
  | .nan => .nan
  | .inf _ => .inf false
  | .fin _ m e => .fin false m e

/-- A finite value as a signed multiple of 2^q, for q at most its exponent. -/
def scaled (neg : Bool) (m : Nat) (e q : Int) : Int :=
  let x : Int := m * 2 ^ (e - q).toNat
  if neg then -x else x

/-- Exact sum; a sum of zeros is negative only when both are, and an exact cancellation is +0. -/
def FVal.add (a b : FVal) : FVal :=
  match a, b with
  | .nan, _ => .nan
  | _, .nan => .nan
  | .inf x, .inf y => if x = y then .inf x else .nan
  | .inf x, _ => .inf x
  | _, .inf y => .inf y
  | .fin nx mx ex, .fin ny my ey =>
    let q := min ex ey
    let s := scaled nx mx ex q + scaled ny my ey q
    if s = 0 then .fin (nx && ny) 0 q else .fin (decide (s < 0)) s.natAbs q

/-- Exact product. -/
def FVal.mul (a b : FVal) : FVal :=
  match a, b with
  | .nan, _ => .nan
  | _, .nan => .nan
  | .inf x, .inf y => .inf (x != y)
  | .inf x, .fin n m _ => if m = 0 then .nan else .inf (x != n)
  | .fin n m _, .inf y => if m = 0 then .nan else .inf (n != y)
  | .fin nx mx ex, .fin ny my ey => .fin (nx != ny) (mx * my) (ex + ey)

/-- Quotient, exact to a bit below `p` significand bits, with a last bit that says whether a remainder is left, so that rounding to fewer bits is
exact. -/
def FVal.div (p : Nat) (a b : FVal) : FVal :=
  match a, b with
  | .nan, _ => .nan
  | _, .nan => .nan
  | .inf _, .inf _ => .nan
  | .inf x, .fin n _ _ => .inf (x != n)
  | .fin n _ _, .inf y => .fin (n != y) 0 0
  | .fin nx mx ex, .fin ny my ey =>
    if my = 0 then (if mx = 0 then .nan else .inf (nx != ny))
    else
      let k := p + Nat.log2 my + 2
      let q := mx * 2 ^ k / my
      let r := mx * 2 ^ k % my
      .fin (nx != ny) (2 * q + (if r = 0 then 0 else 1)) (ex - ey - k - 1)

/-- Order of two values, none when either is NaN; -0 and +0 are equal. -/
def FVal.cmp (a b : FVal) : Option Ordering :=
  match a, b with
  | .nan, _ => none
  | _, .nan => none
  | .inf x, .inf y => some (if x = y then .eq else if x then .lt else .gt)
  | .inf x, _ => some (if x then .lt else .gt)
  | _, .inf y => some (if y then .gt else .lt)
  | .fin nx mx ex, .fin ny my ey =>
    let q := min ex ey
    some (compare (scaled nx mx ex q) (scaled ny my ey q))

/-- An integer as an exact value. -/
def FVal.ofInt (x : Int) : FVal := .fin (decide (x < 0)) x.natAbs 0

/-- Operations on codes of a format, rounded once. -/
def Fmt.add (f : Fmt) (r : Rnd) (sat : Bool) (a b : Nat) : Nat := f.encode r sat ((f.decode a).add (f.decode b))
/-- Product. -/
def Fmt.mul (f : Fmt) (r : Rnd) (sat : Bool) (a b : Nat) : Nat := f.encode r sat ((f.decode a).mul (f.decode b))
/-- Fused multiply-add. -/
def Fmt.fma (f : Fmt) (r : Rnd) (sat : Bool) (a b c : Nat) : Nat :=
  f.encode r sat (((f.decode a).mul (f.decode b)).add (f.decode c))

/-- minimumNumber and maximumNumber (R199): a NaN operand yields the other, two the canonical NaN; -0 is below +0. -/
def Fmt.minmax (f : Fmt) (wantMax : Bool) (a b : Nat) : Nat :=
  match (f.decode a).cmp (f.decode b) with
  | none => if !(f.decode a).isNan then a else if !(f.decode b).isNan then b else f.nan
  | some .lt => if wantMax then b else a
  | some .gt => if wantMax then a else b
  | some .eq => if (f.decode a).neg? = wantMax then b else a

/-- Round an exact value to an integer and clamp it to a range (R198); a NaN gives 0. -/
def FVal.toInt (r : Rnd) (lo hi : Int) (v : FVal) : Int :=
  match v with
  | .nan => 0
  | .inf neg => if neg then lo else hi
  | .fin neg m e =>
    let k : Int := roundAt r m e 0
    max lo (min hi (if neg then -k else k))

/-- The mixing function of R195, in unsigned 64-bit arithmetic. -/
def mix (z : Nat) : Nat :=
  let z := natXor 64 z (z % 2 ^ 64 / 2 ^ 33)
  let z := z * 0xFF51AFD7ED558CCD % 2 ^ 64
  let z := natXor 64 z (z / 2 ^ 33)
  let z := z * 0xC4CEB9FE1A85EC53 % 2 ^ 64
  natXor 64 z (z / 2 ^ 33)

/-- The random value of a stochastic rounding with input z (R195). -/
def randOf (z : Nat) : Nat := mix z % 65536

/-! Types of Table 6.9. -/

/-- The format of a floating-point type code. -/
def fmtOf (type : Nat) : Option Fmt :=
  match type with
  | 0x01 => some .fp32
  | 0x02 => some .bf16
  | 0x03 => some .fp16
  | 0x04 => some .e4m3
  | 0x05 => some .e5m2
  | 0x06 => some .e2m3
  | 0x07 => some .e3m2
  | 0x08 => some .e2m1
  | 0x11 => some .fp64
  | _ => none

/-- Width and signedness of an integer type code (Table 8.2); B32 is 32 bits without a sign. -/
def intOf (type : Nat) : Option (Nat × Bool) :=
  match type with
  | 0x00 => some (32, false)
  | 0x09 => some (8, true)
  | 0x0A => some (8, false)
  | 0x0B => some (16, true)
  | 0x0C => some (16, false)
  | 0x0D => some (32, true)
  | 0x0E => some (32, false)
  | 0x0F => some (64, true)
  | 0x10 => some (64, false)
  | 0x14 => some (4, true)
  | _ => none

/-- Range of an integer type. -/
def intMin (n : Nat) (signed : Bool) : Int := if signed then -(2 ^ (n - 1) : Nat) else 0
/-- Largest value. -/
def intMax (n : Nat) (signed : Bool) : Int := if signed then (2 ^ (n - 1) : Nat) - 1 else (2 ^ n : Nat) - 1

/-- The integer that a code of a type stands for. -/
def intVal (n : Nat) (signed : Bool) (x : Nat) : Int := if signed then signExt n x else ((x % 2 ^ n : Nat) : Int)

/-- Clamp an integer to a type's range. -/
def clampInt (n : Nat) (signed : Bool) (x : Int) : Int := max (intMin n signed) (min (intMax n signed) x)

/-- Conversion between types (R142, R197, R198): the code of the result at the destination's width. -/
def convert (dst src : Nat) (r : Rnd) (sat : Bool) (a : Nat) : Nat :=
  match fmtOf src, fmtOf dst with
  | some f, some g => g.encode r sat (f.decode (a % 2 ^ f.width))
  | some f, none =>
    (match intOf dst with
     | some (n, sg) => wrapInt n ((f.decode (a % 2 ^ f.width)).toInt r (intMin n sg) (intMax n sg))
     | none => 0)
  | none, some g =>
    (match intOf src with
     | some (n, sg) => g.encode r sat (.ofInt (intVal n sg a))
     | none => 0)
  | none, none =>
    (match intOf src, intOf dst with
     | some (n, sg), some (k, tg) =>
       let v := intVal n sg a
       wrapInt k (if sat then clampInt k tg v else v)
     | _, _ => 0)

/-! Microscaling blocks (R83, R143, R192). -/

/-- A value times 2^x. -/
def FVal.scale (v : FVal) (x : Int) : FVal :=
  match v with
  | .fin n m e => .fin n m (e + x)
  | w => w

/-- floor(log2 |v|) of a finite value that is not zero. -/
def FVal.ilog (v : FVal) : Option Int :=
  match v with
  | .fin _ m e => if m = 0 then none else some ((Nat.log2 m : Int) + e)
  | _ => none

/-- The scale byte of a block of values for an element format of largest exponent `emax` (R83, R143): 0xFF with a NaN or an infinity in it, 0 (X = -127) for
zeros, else X + 127 with X clamped. -/
def mxScale (emax : Nat) (vs : List FVal) : Nat :=
  if vs.any (fun v => match v with
    | .fin _ _ _ => false
    | _ => true) then 0xFF
  else
    let x := vs.foldl (fun (o : Option Int) v =>
      match o, v.ilog with
      | none, l => l
      | some a, none => some a
      | some a, some b => some (max a b)) none
    match x with
    | none => 0
    | some l => (max (-127) (min 127 (l - emax)) + 127).toNat

/-- The code of an element under a scale byte: 0 under 0xFF, else the value divided by the scale, saturated. `fmt` none is MXINT8, whose codes stand for
multiples of 1/64. -/
def mxElem (fmt : Option Fmt) (r : Rnd) (scale : Nat) (v : FVal) : Nat :=
  if scale = 0xFF then 0
  else
    let w := v.scale (127 - (scale : Int))
    match fmt with
    | some f => f.encode r true w
    | none => wrapInt 8 ((w.scale 6).toInt r (-128) 127)

/-- The value of an element under its scale byte (R192). -/
def mxValue (fmt : Option Fmt) (scale code : Nat) : FVal :=
  if scale = 0xFF then .nan
  else match fmt with
    | some f => (f.decode code).scale ((scale : Int) - 127)
    | none => (FVal.ofInt (signExt 8 code)).scale ((scale : Int) - 133)

end Sys2Proof
end

