-- ==== Sys2Proof/Config.lean ====
section
/-! DEFINITION. Config.lean: what an implementation or a part fixes and the spec leaves open. Every constant here is
opaque: it has no body, so no proof can see its value, and a statement holds whatever it is. -/

namespace Sys2Proof.Config

/-- A free value: the n-th value that the spec leaves undefined (assumption log entry 1). -/
opaque freeValue : Nat → Nat

/-- The part's own measured step rate, as an offset into the band of five per cent that R32 gives (log entry 6). -/
opaque rateSeed : Nat → Nat → Nat

/-- The serial number's bytes (entry 0x1000.04, "Factory"). -/
opaque serialNumber : List Byte

/-- The manufacture time (entry 0x1000.07, "Factory"). -/
opaque manufactureTime : Nat

/-- The version of the image installed at manufacture (entry 0x1000.08). -/
opaque factoryVersion : Nat

/-- The factory MAC address of a service port (entry 0x5801.xx). -/
opaque factoryMac : Nat → List Byte

/-- A byte of host memory that the device has not written: the host's own, at a moment of the run (log entry 1). -/
opaque hostByte : Nat → Nat → Byte

/-- The bits that a unit's fixed table and polynomial gives for a function of a binary32 code, where R200 and R77 state a bound and no bits: 0 RCP, 1 RSQ,
2 SQRT, 3 EXP2, 4 LOG2, 5 SIN, 6 COS, 7 the newts' exponential. It is used only inside the stated bound (log entry 18). -/
opaque polynomial : Nat → Nat → Nat

/-- The router's estimate of the delay of a route: hops, requests at its first hop, and the occupancy of its pass (R359; log entry 12). -/
opaque routeDelay : Nat → Nat → Nat → Nat

/-- The hash of a sequence number by which a Valiant route chooses its intermediate valley (R360; log entry 12). -/
opaque valleyHash : Nat → Nat

/-- A result that the spec does not state for some operands: which case, and the operands (log entry 21). -/
opaque unstated : Nat → Nat → Nat → Nat

/-- Does a signature verify against the key of a slot: key slot, the signed header bytes, and r and s (R430)? The keys are fused at manufacture (log entry 33). -/
opaque signatureOk : Nat → List Byte → List Byte → Bool

/-- Does every component of an image's payload pass its own check (R431, code 8; log entry 33)? -/
opaque componentsOk : List Byte → Bool

/-- Selnak's device identity certificate chain, provisioned at manufacture in slot 0 (R343; log entry 33). -/
opaque deviceChain : List Byte

/-- The ECDSA P-384 signature that the device makes over a message: 96 bytes (R343; log entry 33). -/
opaque sign : List Byte → List Byte

/-- The measured bytes of a block of Table 13.12 whose contents the spec does not give: block, and the image that runs, empty for the one installed at
manufacture (R344; log entry 33). -/
opaque measured : Nat → List Byte → List Byte

end Sys2Proof.Config
end

