-- ==== Sys2Proof/Machine/Dictionary.lean ====
section
/-! DEFINITION. Machine/Dictionary.lean: the entries of the Kamuf dictionary with their type, access, scope,
persistence and default, one row per entry table row of the spec (Tables 1.5, 2.3, 3.6, 4.19, 5.17, 9.15, 11.15, 12.10,
13.9, 14.14, 15.11, 16.7, 17.5, 18.14, 19.22 and 20.10). An entry's address is 256 times its index plus its subindex, so that a list entry's
n-th item stands at its base plus n (R24). -/

namespace Sys2Proof.E

/-- Dictionary entry own_unit (spec chapter 01). -/
abbrev ownUnit : Nat := 0x101000
/-- Dictionary entry parent_unit (spec chapter 01). -/
abbrev parentUnit : Nat := 0x101100
/-- Dictionary entry chip_unit (spec chapter 01). -/
abbrev chipUnit : Nat := 0x101200
/-- Dictionary entry tied_unit (spec chapter 01). -/
abbrev tiedUnit : Nat := 0x101300
/-- Dictionary entry slice_unit (spec chapter 01). -/
abbrev sliceUnit : Nat := 0x101400
/-- Dictionary entry slice_members (spec chapter 01). -/
abbrev sliceMembers : Nat := 0x101500
/-- Dictionary entry core_list (spec chapter 01). -/
abbrev coreList : Nat := 0x110000
/-- Dictionary entry plain_list (spec chapter 01). -/
abbrev plainList : Nat := 0x111000
/-- Dictionary entry partition_list (spec chapter 01). -/
abbrev partitionList : Nat := 0x112000
/-- Dictionary entry tied_member_list (spec chapter 01). -/
abbrev tiedMemberList : Nat := 0x113000
/-- Dictionary entry slice_member_list (spec chapter 01). -/
abbrev sliceMemberList : Nat := 0x114000
/-- Dictionary entry op_point_request (spec chapter 02). -/
abbrev opPointRequest : Nat := 0xA00001
/-- Dictionary entry op_point_current (spec chapter 02). -/
abbrev opPointCurrent : Nat := 0xA00002
/-- Dictionary entry ptp_source (spec chapter 02). -/
abbrev ptpSource : Nat := 0xA00003
/-- Dictionary entry fabric_time_interval (spec chapter 02). -/
abbrev fabricTimeInterval : Nat := 0xA00004
/-- Dictionary entry rate_eco (spec chapter 02). -/
abbrev rateEco : Nat := 0xA01000
/-- Dictionary entry rate_nominal (spec chapter 02). -/
abbrev rateNominal : Nat := 0xA01100
/-- Dictionary entry rate_boost (spec chapter 02). -/
abbrev rateBoost : Nat := 0xA01200
/-- Dictionary entry rate_live (spec chapter 02). -/
abbrev rateLive : Nat := 0xA01300
/-- Dictionary entry memory_bytes (spec chapter 03). -/
abbrev memoryBytes : Nat := 0x400001
/-- Dictionary entry usable_bytes (spec chapter 03). -/
abbrev usableBytes : Nat := 0x400002
/-- Dictionary entry row_mode (spec chapter 03). -/
abbrev rowMode : Nat := 0x400100
/-- Dictionary entry slab_owner (spec chapter 03). -/
abbrev slabOwner : Nat := 0x401000
/-- Dictionary entry stack_state (spec chapter 03). -/
abbrev stackState : Nat := 0x402000
/-- Dictionary entry retired_dies (spec chapter 03). -/
abbrev retiredDies : Nat := 0x402100
/-- Dictionary entry failed_channels (spec chapter 03). -/
abbrev failedChannels : Nat := 0x402200
/-- Dictionary entry spare_rows_used (spec chapter 03). -/
abbrev spareRowsUsed : Nat := 0x402300
/-- Dictionary entry scrub_period (spec chapter 03). -/
abbrev scrubPeriod : Nat := 0x403001
/-- Dictionary entry demand_scrub (spec chapter 03). -/
abbrev demandScrub : Nat := 0x403002
/-- Dictionary entry corrected_count (spec chapter 03). -/
abbrev correctedCount : Nat := 0x404000
/-- Dictionary entry poisoned_count (spec chapter 03). -/
abbrev poisonedCount : Nat := 0x404100
/-- Dictionary entry newt_state (spec chapter 04). -/
abbrev newtState : Nat := 0x410000
/-- Dictionary entry newt_epoch (spec chapter 04). -/
abbrev newtEpoch : Nat := 0x410800
/-- Dictionary entry newt_idle_gate (spec chapter 04). -/
abbrev newtIdleGate : Nat := 0x411001
/-- Dictionary entry newts_failed (spec chapter 04). -/
abbrev newtsFailed : Nat := 0x411002
/-- Dictionary entry gbar_watchdog (spec chapter 05). -/
abbrev gbarWatchdog : Nat := 0xB01001
/-- Dictionary entry field_narrowing (spec chapter 05). -/
abbrev fieldNarrowing : Nat := 0xB01002
/-- Dictionary entry cores_narrowed (spec chapter 05). -/
abbrev coresNarrowed : Nat := 0xB01003
/-- Dictionary entry reg_ecc_corrected (spec chapter 05). -/
abbrev regEccCorrected : Nat := 0xB01004
/-- Dictionary entry core_epoch (spec chapter 05). -/
abbrev coreEpoch : Nat := 0xB01800
/-- Dictionary entry scratch_kib (spec chapter 09). -/
abbrev scratchKib : Nat := 0x420001
/-- Dictionary entry replication (spec chapter 09). -/
abbrev replication : Nat := 0x420002
/-- Dictionary entry scl_auto_enable (spec chapter 09). -/
abbrev sclAutoEnable : Nat := 0x420003
/-- Dictionary entry home_map (spec chapter 09). -/
abbrev homeMap : Nat := 0x420100
/-- Dictionary entry slice_retired_ways (spec chapter 09). -/
abbrev sliceRetiredWays : Nat := 0x421000
/-- Dictionary entry l2_corrected (spec chapter 09). -/
abbrev l2Corrected : Nat := 0x422001
/-- Dictionary entry ways_retired (spec chapter 09). -/
abbrev waysRetired : Nat := 0x422002
/-- Dictionary entry queue_ring (spec chapter 11). -/
abbrev queueRing : Nat := 0x310000
/-- Dictionary entry queue_timeout (spec chapter 11). -/
abbrev queueTimeout : Nat := 0x310100
/-- Dictionary entry queue_vectors (spec chapter 11). -/
abbrev queueVectors : Nat := 0x310200
/-- Dictionary entry queue_save_base (spec chapter 11). -/
abbrev queueSaveBase : Nat := 0x310300
/-- Dictionary entry queue_save_bytes (spec chapter 11). -/
abbrev queueSaveBytes : Nat := 0x310400
/-- Dictionary entry queue_enable (spec chapter 11). -/
abbrev queueEnable : Nat := 0x310500
/-- Dictionary entry sync_range (spec chapter 12). -/
abbrev syncRange : Nat := 0x320000
/-- Dictionary entry sync_created (spec chapter 12). -/
abbrev syncCreated : Nat := 0x320100
/-- Dictionary entry sync_waiters (spec chapter 12). -/
abbrev syncWaiters : Nat := 0x320200
/-- Dictionary entry sync_error_objects (spec chapter 12). -/
abbrev syncErrorObjects : Nat := 0x320300
/-- Dictionary entry partition_qmask (spec chapter 13). -/
abbrev partitionQmask : Nat := 0x300000
/-- Dictionary entry partition_mem_weight (spec chapter 13). -/
abbrev partitionMemWeight : Nat := 0x300100
/-- Dictionary entry partition_share_mode (spec chapter 13). -/
abbrev partitionShareMode : Nat := 0x300200
/-- Dictionary entry partition_slice (spec chapter 13). -/
abbrev partitionSlice : Nat := 0x300300
/-- Dictionary entry partition_reset (spec chapter 13). -/
abbrev partitionReset : Nat := 0x300400
/-- Dictionary entry partition_slabs (spec chapter 13). -/
abbrev partitionSlabs : Nat := 0x300500
/-- Dictionary entry fn_partition (spec chapter 13). -/
abbrev fnPartition : Nat := 0x301000
/-- Dictionary entry fn_enable (spec chapter 13). -/
abbrev fnEnable : Nat := 0x301100
/-- Dictionary entry fn_state (spec chapter 13). -/
abbrev fnState : Nat := 0x301200
/-- Dictionary entry fn_epoch (spec chapter 13). -/
abbrev fnEpoch : Nat := 0x301300
/-- Dictionary entry fn_reset (spec chapter 13). -/
abbrev fnReset : Nat := 0x301400
/-- Dictionary entry qos_dispatch (spec chapter 13). -/
abbrev qosDispatch : Nat := 0x302000
/-- Dictionary entry qos_newt (spec chapter 13). -/
abbrev qosNewt : Nat := 0x302100
/-- Dictionary entry qos_fabric (spec chapter 13). -/
abbrev qosFabric : Nat := 0x302200
/-- Dictionary entry qos_mem (spec chapter 13). -/
abbrev qosMem : Nat := 0x302300
/-- Dictionary entry fn_pasid (spec chapter 13). -/
abbrev fnPasid : Nat := 0x303000
/-- Dictionary entry fn_pt_root (spec chapter 13). -/
abbrev fnPtRoot : Nat := 0x303100
/-- Dictionary entry bar2_base (spec chapter 13). -/
abbrev bar2Base : Nat := 0x303200
/-- Dictionary entry vector_moderation (spec chapter 13). -/
abbrev vectorModeration : Nat := 0x303300
/-- Dictionary entry fab_chip_id (spec chapter 14). -/
abbrev fabChipId : Nat := 0x500001
/-- Dictionary entry fab_route_mode (spec chapter 14). -/
abbrev fabRouteMode : Nat := 0x500002
/-- Dictionary entry fab_valiant_bias (spec chapter 14). -/
abbrev fabValiantBias : Nat := 0x500003
/-- Dictionary entry reachable_chips (spec chapter 14). -/
abbrev reachableChips : Nat := 0x500004
/-- Dictionary entry fab_port (spec chapter 14). -/
abbrev fabPort : Nat := 0x500100
/-- Dictionary entry link_enable (spec chapter 14). -/
abbrev linkEnable : Nat := 0x500200
/-- Dictionary entry link_corrected (spec chapter 14). -/
abbrev linkCorrected : Nat := 0x500300
/-- Dictionary entry link_replays (spec chapter 14). -/
abbrev linkReplays : Nat := 0x500400
/-- Dictionary entry fab_tie (spec chapter 14). -/
abbrev fabTie : Nat := 0x501000
/-- Dictionary entry fn_fab_key (spec chapter 14). -/
abbrev fnFabKey : Nat := 0x501100
/-- Dictionary entry pass_map (spec chapter 14). -/
abbrev passMap : Nat := 0x502000
/-- Dictionary entry fab_bind (spec chapter 14). -/
abbrev fabBind : Nat := 0x510000
/-- Dictionary entry fab_cgroup (spec chapter 14). -/
abbrev fabCgroup : Nat := 0x520000
/-- Dictionary entry cgroup_state (spec chapter 14). -/
abbrev cgroupState : Nat := 0x521000
/-- Dictionary entry laser_identity (spec chapter 15). -/
abbrev laserIdentity : Nat := 0x600000
/-- Dictionary entry laser_epoch (spec chapter 15). -/
abbrev laserEpoch : Nat := 0x600100
/-- Dictionary entry laser_state (spec chapter 15). -/
abbrev laserState : Nat := 0x600200
/-- Dictionary entry laser_service (spec chapter 15). -/
abbrev laserService : Nat := 0x600300
/-- Dictionary entry laser_auto_return (spec chapter 15). -/
abbrev laserAutoReturn : Nat := 0x600400
/-- Dictionary entry laser_hours (spec chapter 15). -/
abbrev laserHours : Nat := 0x600500
/-- Dictionary entry laser_life_used (spec chapter 15). -/
abbrev laserLifeUsed : Nat := 0x600600
/-- Dictionary entry laser_telemetry (spec chapter 15). -/
abbrev laserTelemetry : Nat := 0x600700
/-- Dictionary entry laser_recalibrate (spec chapter 15). -/
abbrev laserRecalibrate : Nat := 0x600800
/-- Dictionary entry oe_state (spec chapter 15). -/
abbrev oeState : Nat := 0x601000
/-- Dictionary entry oe_epoch (spec chapter 15). -/
abbrev oeEpoch : Nat := 0x601100
/-- Dictionary entry svc_speed (spec chapter 16). -/
abbrev svcSpeed : Nat := 0x580000
/-- Dictionary entry svc_mac (spec chapter 16). -/
abbrev svcMac : Nat := 0x580100
/-- Dictionary entry svc_ip (spec chapter 16). -/
abbrev svcIp : Nat := 0x580200
/-- Dictionary entry svc_pfc_watchdog (spec chapter 16). -/
abbrev svcPfcWatchdog : Nat := 0x580300
/-- Dictionary entry svc_ptp_domain (spec chapter 16). -/
abbrev svcPtpDomain : Nat := 0x580400
/-- Dictionary entry svc_ptp_profile (spec chapter 16). -/
abbrev svcPtpProfile : Nat := 0x580500
/-- Dictionary entry svc_frames_dropped (spec chapter 16). -/
abbrev svcFramesDropped : Nat := 0x580600
/-- Dictionary entry svc_qp (spec chapter 16). -/
abbrev svcQp : Nat := 0x581000
/-- Dictionary entry svc_region (spec chapter 16). -/
abbrev svcRegion : Nat := 0x582000
/-- Dictionary entry pwr_cap (spec chapter 17). -/
abbrev pwrCap : Nat := 0x200001
/-- Dictionary entry pwr_cap_window (spec chapter 17). -/
abbrev pwrCapWindow : Nat := 0x200002
/-- Dictionary entry pwr_admit_floor (spec chapter 17). -/
abbrev pwrAdmitFloor : Nat := 0x200003
/-- Dictionary entry pwr_point_fallback (spec chapter 17). -/
abbrev pwrPointFallback : Nat := 0x200004
/-- Dictionary entry module_power (spec chapter 17). -/
abbrev modulePower : Nat := 0x200005
/-- Dictionary entry module_energy (spec chapter 17). -/
abbrev moduleEnergy : Nat := 0x200006
/-- Dictionary entry pwr_droop_threshold (spec chapter 17). -/
abbrev pwrDroopThreshold : Nat := 0x200101
/-- Dictionary entry pwr_droop_admit (spec chapter 17). -/
abbrev pwrDroopAdmit : Nat := 0x200102
/-- Dictionary entry droop_events (spec chapter 17). -/
abbrev droopEvents : Nat := 0x200103
/-- Dictionary entry pwr_tj_limit (spec chapter 17). -/
abbrev pwrTjLimit : Nat := 0x200201
/-- Dictionary entry pwr_dram_limit (spec chapter 17). -/
abbrev pwrDramLimit : Nat := 0x200202
/-- Dictionary entry thermal_trips (spec chapter 17). -/
abbrev thermalTrips : Nat := 0x200203
/-- Dictionary entry tj_plain (spec chapter 17). -/
abbrev tjPlain : Nat := 0x200300
/-- Dictionary entry dram_temp (spec chapter 17). -/
abbrev dramTemp : Nat := 0x200400
/-- Dictionary entry base_temp (spec chapter 17). -/
abbrev baseTemp : Nat := 0x200500
/-- Dictionary entry queue_energy (spec chapter 17). -/
abbrev queueEnergy : Nat := 0x201000
/-- Dictionary entry fn_energy (spec chapter 17). -/
abbrev fnEnergy : Nat := 0x201100
/-- Dictionary entry partition_energy (spec chapter 17). -/
abbrev partitionEnergy : Nat := 0x201200
/-- Dictionary entry overhead_energy (spec chapter 17). -/
abbrev overheadEnergy : Nat := 0x201300
/-- Dictionary entry rail_scale (spec chapter 17). -/
abbrev railScale : Nat := 0x201400
/-- Dictionary entry pwr_job_id (spec chapter 17). -/
abbrev pwrJobId : Nat := 0x202000
/-- Dictionary entry job_record (spec chapter 17). -/
abbrev jobRecord : Nat := 0x203000
/-- Dictionary entry pwr_job_release (spec chapter 17). -/
abbrev pwrJobRelease : Nat := 0x203100
/-- Dictionary entry pwr_slice_pacing (spec chapter 17). -/
abbrev pwrSlicePacing : Nat := 0x204000
/-- Dictionary entry slice_pace (spec chapter 17). -/
abbrev slicePace : Nat := 0x204001
/-- Dictionary entry vendor_name (spec chapter 18). -/
abbrev vendorName : Nat := 0x100001
/-- Dictionary entry ordering_code (spec chapter 18). -/
abbrev orderingCode : Nat := 0x100002
/-- Dictionary entry silicon_revision (spec chapter 18). -/
abbrev siliconRevision : Nat := 0x100003
/-- Dictionary entry serial_number (spec chapter 18). -/
abbrev serialNumber : Nat := 0x100004
/-- Dictionary entry pci_vendor_id (spec chapter 18). -/
abbrev pciVendorId : Nat := 0x100005
/-- Dictionary entry pci_device_id (spec chapter 18). -/
abbrev pciDeviceId : Nat := 0x100006
/-- Dictionary entry manufacture_time (spec chapter 18). -/
abbrev manufactureTime : Nat := 0x100007
/-- Dictionary entry firmware_version (spec chapter 18). -/
abbrev firmwareVersion : Nat := 0x100008
/-- Dictionary entry boot_count (spec chapter 18). -/
abbrev bootCount : Nat := 0x100009
/-- Dictionary entry dictionary_layout (spec chapter 18). -/
abbrev dictionaryLayout : Nat := 0x10000A
/-- Dictionary entry device_reset (spec chapter 18). -/
abbrev deviceReset : Nat := 0x100101
/-- Dictionary entry tied_reset (spec chapter 18). -/
abbrev tiedReset : Nat := 0x100102
/-- Dictionary entry sensor_value (spec chapter 18). -/
abbrev sensorValue : Nat := 0x210000
/-- Dictionary entry sensor_warn (spec chapter 18). -/
abbrev sensorWarn : Nat := 0x210100
/-- Dictionary entry sensor_crit (spec chapter 18). -/
abbrev sensorCrit : Nat := 0x210200
/-- Dictionary entry sensor_state (spec chapter 18). -/
abbrev sensorState : Nat := 0x210300
/-- Dictionary entry log_newest (spec chapter 18). -/
abbrev logNewest : Nat := 0x800001
/-- Dictionary entry log_oldest (spec chapter 18). -/
abbrev logOldest : Nat := 0x800002
/-- Dictionary entry log_alert_mask (spec chapter 18). -/
abbrev logAlertMask : Nat := 0x800003
/-- Dictionary entry mgt_alert_eid (spec chapter 18). -/
abbrev mgtAlertEid : Nat := 0x800004
/-- Dictionary entry log_records (spec chapter 18). -/
abbrev logRecords : Nat := 0x801000
/-- Dictionary entry log_append (spec chapter 18). -/
abbrev logAppend : Nat := 0x802000
/-- Dictionary entry update_control (spec chapter 18). -/
abbrev updateControl : Nat := 0x900001
/-- Dictionary entry update_state (spec chapter 18). -/
abbrev updateState : Nat := 0x900002
/-- Dictionary entry update_result (spec chapter 18). -/
abbrev updateResult : Nat := 0x900003
/-- Dictionary entry update_received (spec chapter 18). -/
abbrev updateReceived : Nat := 0x900004
/-- Dictionary entry active_slot (spec chapter 18). -/
abbrev activeSlot : Nat := 0x900005
/-- Dictionary entry slot_versions (spec chapter 18). -/
abbrev slotVersions : Nat := 0x900006
/-- Dictionary entry rollback_counter (spec chapter 18). -/
abbrev rollbackCounter : Nat := 0x900007
/-- Dictionary entry update_auto_commit (spec chapter 18). -/
abbrev updateAutoCommit : Nat := 0x900008
/-- Dictionary entry keys_revoked (spec chapter 18). -/
abbrev keysRevoked : Nat := 0x900009
/-- Dictionary entry update_image (spec chapter 18). -/
abbrev updateImage : Nat := 0x901000
/-- Dictionary entry debug_kill (spec chapter 18). -/
abbrev debugKill : Nat := 0xF00001
/-- Dictionary entry mgt_epoch (spec chapter 18). -/
abbrev mgtEpoch : Nat := 0xF00100
/-- Dictionary entry trc_owner (spec chapter 19). -/
abbrev trcOwner : Nat := 0x700000
/-- Dictionary entry trc_ring (spec chapter 19). -/
abbrev trcRing : Nat := 0x700100
/-- Dictionary entry trc_mode (spec chapter 19). -/
abbrev trcMode : Nat := 0x700200
/-- Dictionary entry trc_sources (spec chapter 19). -/
abbrev trcSources : Nat := 0x700300
/-- Dictionary entry trc_filter_queue (spec chapter 19). -/
abbrev trcFilterQueue : Nat := 0x700400
/-- Dictionary entry trc_centre (spec chapter 19). -/
abbrev trcCentre : Nat := 0x700500
/-- Dictionary entry trc_trigger (spec chapter 19). -/
abbrev trcTrigger : Nat := 0x700600
/-- Dictionary entry trc_vector (spec chapter 19). -/
abbrev trcVector : Nat := 0x700700
/-- Dictionary entry cnt_layer_base (spec chapter 19). -/
abbrev cntLayerBase : Nat := 0x710000
/-- Dictionary entry cnt_layer_entries (spec chapter 19). -/
abbrev cntLayerEntries : Nat := 0x710100
/-- Dictionary entry cnt_flush_us (spec chapter 19). -/
abbrev cntFlushUs : Nat := 0x710200
/-- Dictionary entry cnt_layer_lost (spec chapter 19). -/
abbrev cntLayerLost : Nat := 0x710300
/-- Dictionary entry faults_covered (spec chapter 20). -/
abbrev faultsCovered : Nat := 0xB00001
/-- Dictionary entry faults_uncovered (spec chapter 20). -/
abbrev faultsUncovered : Nat := 0xB00002
/-- Dictionary entry contexts_killed (spec chapter 20). -/
abbrev contextsKilled : Nat := 0xB00003
/-- Dictionary entry stale_discarded (spec chapter 20). -/
abbrev staleDiscarded : Nat := 0xB00004
/-- Dictionary entry interruption_max (spec chapter 20). -/
abbrev interruptionMax : Nat := 0xB00005
/-- Dictionary entry kills_by_code (spec chapter 20). -/
abbrev killsByCode : Nat := 0xB00101
/-- Dictionary entry last_fault (spec chapter 20). -/
abbrev lastFault : Nat := 0xB00200
/-- Dictionary entry fault_class_count (spec chapter 20). -/
abbrev faultClassCount : Nat := 0xB00301
/-- Dictionary entry plain_epoch (spec chapter 20). -/
abbrev plainEpoch : Nat := 0xB02000

end Sys2Proof.E

namespace Sys2Proof

/-- Value types of dictionary entries (R415); DESCRIBE codes run from 1 in this order (R420). -/
inductive EType
  | bool | u8 | u16 | u32 | u64 | i8 | i16 | i32 | i64 | f32 | string | blob | time
deriving DecidableEq, Repr

/-- Access of an entry (R13, R419). -/
inductive EAccess
  | ro | rw | wo | rwc
deriving DecidableEq, Repr

/-- Scope of an entry (R418). -/
inductive EScope
  | device | partition | function
deriving DecidableEq, Repr

/-- One row of an entry table. -/
structure EntryInfo where
  /-- Address of the first item. -/
  base : Nat
  /-- Items of the list, 1 for a single entry. -/
  count : Nat
  type : EType
  access : EAccess
  scope : EScope
  persistent : Bool
  /-- Default of a numeric entry; special defaults stand in `entryDefault`. -/
  dflt : Nat
deriving DecidableEq, Repr

/-- Entries, part 0. -/
def entryTable0 : List EntryInfo := [
  ⟨0x101000, 1, .blob, .ro, .function, false, 0⟩,
  ⟨0x101100, 1, .blob, .ro, .function, false, 0⟩,
  ⟨0x101200, 1, .blob, .ro, .device, false, 0⟩,
  ⟨0x101300, 1, .blob, .ro, .device, false, 0⟩,
  ⟨0x101400, 1, .blob, .ro, .device, false, 0⟩,
  ⟨0x101500, 1, .blob, .rw, .device, false, 0⟩,
  ⟨0x110000, 384, .blob, .ro, .device, false, 0⟩,
  ⟨0x111000, 16, .blob, .ro, .device, false, 0⟩,
  ⟨0x112000, 64, .blob, .ro, .device, false, 0⟩,
  ⟨0x113000, 4, .blob, .ro, .device, false, 0⟩,
  ⟨0x114000, 4096, .blob, .ro, .device, false, 0⟩,
  ⟨0xA00001, 1, .u8, .rw, .device, true, 1⟩,
  ⟨0xA00002, 1, .u8, .ro, .device, false, 1⟩,
  ⟨0xA00003, 1, .u8, .rw, .device, true, 0⟩,
  ⟨0xA00004, 1, .u32, .ro, .device, true, 10000⟩,
  ⟨0xA01000, 19, .u16, .ro, .device, true, 0⟩,
  ⟨0xA01020, 20, .u16, .ro, .device, true, 0⟩,
  ⟨0xA01100, 19, .u16, .ro, .device, true, 0⟩,
  ⟨0xA01120, 20, .u16, .ro, .device, true, 0⟩,
  ⟨0xA01200, 19, .u16, .ro, .device, true, 0⟩,
  ⟨0xA01220, 20, .u16, .ro, .device, true, 0⟩,
  ⟨0xA01300, 19, .u16, .ro, .device, false, 0⟩,
  ⟨0xA01320, 20, .u16, .ro, .device, false, 0⟩,
  ⟨0x400001, 1, .u64, .ro, .device, true, 2061584302080⟩,
  ⟨0x400002, 1, .u64, .ro, .device, false, 0⟩,
  ⟨0x400100, 48, .u8, .rw, .device, true, 0⟩,
  ⟨0x401000, 960, .u8, .rw, .device, false, 255⟩,
  ⟨0x402000, 20, .u8, .ro, .device, false, 0⟩,
  ⟨0x402100, 20, .u32, .ro, .device, true, 0⟩,
  ⟨0x402200, 20, .u32, .ro, .device, true, 0⟩,
  ⟨0x402300, 20, .u16, .ro, .device, true, 0⟩,
  ⟨0x403001, 1, .u16, .rw, .device, true, 8⟩]

/-- Entries, part 1. -/
def entryTable1 : List EntryInfo := [
  ⟨0x403002, 1, .bool, .rw, .device, true, 1⟩,
  ⟨0x404000, 20, .u64, .rwc, .device, false, 0⟩,
  ⟨0x404100, 20, .u64, .rwc, .device, false, 0⟩,
  ⟨0x410000, 640, .u8, .ro, .device, false, 0⟩,
  ⟨0x410800, 640, .u32, .ro, .device, false, 0⟩,
  ⟨0x411001, 1, .u32, .rw, .device, true, 100⟩,
  ⟨0x411002, 1, .u16, .ro, .device, false, 0⟩,
  ⟨0xB01001, 1, .u32, .rw, .partition, true, 10000⟩,
  ⟨0xB01002, 1, .bool, .rw, .device, true, 1⟩,
  ⟨0xB01003, 1, .u16, .ro, .device, true, 0⟩,
  ⟨0xB01004, 1, .u64, .rwc, .device, false, 0⟩,
  ⟨0xB01800, 384, .u32, .ro, .device, false, 0⟩,
  ⟨0x420001, 1, .u16, .rw, .partition, true, 256⟩,
  ⟨0x420002, 1, .u8, .rw, .partition, true, 1⟩,
  ⟨0x420003, 1, .bool, .rw, .device, true, 1⟩,
  ⟨0x420100, 1, .blob, .ro, .partition, false, 0⟩,
  ⟨0x421000, 64, .u16, .ro, .device, true, 0⟩,
  ⟨0x422001, 1, .u64, .rwc, .device, false, 0⟩,
  ⟨0x422002, 1, .u16, .ro, .device, true, 0⟩,
  ⟨0x310000, 16, .u64, .rw, .function, false, 0⟩,
  ⟨0x310100, 16, .u32, .rw, .function, false, 2000000⟩,
  ⟨0x310200, 16, .u16, .rw, .function, false, 0⟩,
  ⟨0x310300, 16, .u64, .rw, .function, false, 0⟩,
  ⟨0x310400, 16, .u64, .rw, .function, false, 0⟩,
  ⟨0x310500, 16, .bool, .rw, .function, false, 0⟩,
  ⟨0x320000, 64, .u32, .rw, .device, true, 0⟩,
  ⟨0x320100, 1, .u32, .ro, .partition, false, 0⟩,
  ⟨0x320200, 1, .u32, .ro, .partition, false, 0⟩,
  ⟨0x320300, 1, .u32, .ro, .partition, false, 0⟩,
  ⟨0x300000, 64, .u64, .rw, .device, false, 0⟩,
  ⟨0x300100, 64, .u16, .rw, .device, false, 100⟩,
  ⟨0x300200, 64, .u8, .rw, .device, false, 0⟩]

/-- Entries, part 2. -/
def entryTable2 : List EntryInfo := [
  ⟨0x300300, 64, .u32, .rw, .device, false, 10000⟩,
  ⟨0x300400, 64, .bool, .wo, .device, false, 0⟩,
  ⟨0x300500, 64, .blob, .ro, .device, false, 0⟩,
  ⟨0x301000, 256, .u8, .rw, .device, false, 0⟩,
  ⟨0x301100, 256, .bool, .rw, .device, false, 1⟩,
  ⟨0x301200, 256, .u8, .ro, .device, false, 1⟩,
  ⟨0x301300, 256, .u32, .ro, .device, false, 0⟩,
  ⟨0x301400, 256, .bool, .wo, .device, false, 0⟩,
  ⟨0x302000, 256, .u16, .rw, .device, false, 100⟩,
  ⟨0x302100, 256, .u16, .rw, .device, false, 100⟩,
  ⟨0x302200, 256, .u16, .rw, .device, false, 100⟩,
  ⟨0x302300, 256, .u16, .rw, .device, false, 100⟩,
  ⟨0x303000, 1, .u32, .rw, .function, false, 0⟩,
  ⟨0x303100, 1, .u64, .rw, .function, false, 0⟩,
  ⟨0x303200, 1, .u64, .rw, .function, false, 0⟩,
  ⟨0x303300, 64, .u16, .rw, .function, false, 0⟩,
  ⟨0x500001, 1, .u16, .rw, .device, true, 65535⟩,
  ⟨0x500002, 1, .u8, .rw, .device, true, 1⟩,
  ⟨0x500003, 1, .u16, .rw, .device, true, 200⟩,
  ⟨0x500004, 1, .u16, .ro, .device, false, 0⟩,
  ⟨0x500100, 32, .u8, .rw, .device, true, 255⟩,
  ⟨0x500200, 32, .bool, .rw, .device, true, 1⟩,
  ⟨0x500300, 32, .u64, .rwc, .device, false, 0⟩,
  ⟨0x500400, 32, .u64, .rwc, .device, false, 0⟩,
  ⟨0x501000, 1, .blob, .rw, .device, true, 0⟩,
  ⟨0x501100, 1, .u16, .rw, .function, false, 0⟩,
  ⟨0x502000, 1, .blob, .ro, .device, false, 0⟩,
  ⟨0x510000, 256, .blob, .rw, .device, false, 0⟩,
  ⟨0x520000, 1024, .blob, .rw, .device, false, 0⟩,
  ⟨0x521000, 1024, .u8, .ro, .device, false, 0⟩,
  ⟨0x600000, 4, .blob, .ro, .device, true, 0⟩,
  ⟨0x600100, 4, .u32, .ro, .device, true, 0⟩]

/-- Entries, part 3. -/
def entryTable3 : List EntryInfo := [
  ⟨0x600200, 4, .u8, .ro, .device, false, 0⟩,
  ⟨0x600300, 4, .bool, .rw, .device, false, 0⟩,
  ⟨0x600400, 1, .bool, .rw, .device, true, 1⟩,
  ⟨0x600500, 4, .u32, .ro, .device, true, 0⟩,
  ⟨0x600600, 4, .u16, .ro, .device, true, 0⟩,
  ⟨0x600700, 4, .blob, .ro, .device, false, 0⟩,
  ⟨0x600800, 4, .bool, .wo, .device, false, 0⟩,
  ⟨0x601000, 8, .u8, .ro, .device, false, 0⟩,
  ⟨0x601100, 8, .u32, .ro, .device, false, 0⟩,
  ⟨0x580000, 2, .u16, .rw, .device, true, 800⟩,
  ⟨0x580100, 2, .blob, .rw, .device, true, 0⟩,
  ⟨0x580200, 2, .blob, .rw, .device, true, 0⟩,
  ⟨0x580300, 1, .u32, .rw, .device, true, 100⟩,
  ⟨0x580400, 1, .u8, .rw, .device, true, 0⟩,
  ⟨0x580500, 1, .u8, .rw, .device, true, 0⟩,
  ⟨0x580600, 2, .u64, .rwc, .device, false, 0⟩,
  ⟨0x581000, 64, .blob, .rw, .function, false, 0⟩,
  ⟨0x582000, 16, .blob, .rw, .function, false, 0⟩,
  ⟨0x200001, 1, .u16, .rw, .device, true, 2800⟩,
  ⟨0x200002, 1, .u8, .rw, .device, true, 5⟩,
  ⟨0x200003, 1, .u8, .rw, .device, true, 8⟩,
  ⟨0x200004, 1, .bool, .rw, .device, true, 1⟩,
  ⟨0x200005, 1, .u16, .ro, .device, false, 0⟩,
  ⟨0x200006, 1, .u64, .ro, .device, false, 0⟩,
  ⟨0x200101, 1, .u8, .rw, .device, true, 30⟩,
  ⟨0x200102, 1, .u8, .rw, .device, true, 16⟩,
  ⟨0x200103, 1, .u64, .rwc, .device, false, 0⟩,
  ⟨0x200201, 1, .u8, .rw, .device, true, 95⟩,
  ⟨0x200202, 1, .u8, .rw, .device, true, 95⟩,
  ⟨0x200203, 1, .u32, .ro, .device, true, 0⟩,
  ⟨0x200300, 16, .i8, .ro, .device, false, 0⟩,
  ⟨0x200400, 20, .i8, .ro, .device, false, 0⟩]

/-- Entries, part 4. -/
def entryTable4 : List EntryInfo := [
  ⟨0x200500, 20, .i8, .ro, .device, false, 0⟩,
  ⟨0x201000, 16, .u64, .rwc, .function, false, 0⟩,
  ⟨0x201100, 1, .u64, .rwc, .function, false, 0⟩,
  ⟨0x201200, 1, .u64, .ro, .partition, false, 0⟩,
  ⟨0x201300, 1, .u64, .ro, .device, false, 0⟩,
  ⟨0x201400, 5, .f32, .ro, .device, false, 1065353216⟩,
  ⟨0x202000, 16, .u32, .rw, .function, false, 0⟩,
  ⟨0x203000, 256, .blob, .ro, .device, false, 0⟩,
  ⟨0x203100, 1, .u32, .wo, .device, false, 0⟩,
  ⟨0x204000, 1, .bool, .rw, .device, true, 0⟩,
  ⟨0x204001, 1, .u16, .ro, .device, false, 65535⟩,
  ⟨0x100001, 1, .string, .ro, .device, true, 0⟩,
  ⟨0x100002, 1, .string, .ro, .device, true, 0⟩,
  ⟨0x100003, 1, .string, .ro, .device, true, 0⟩,
  ⟨0x100004, 1, .string, .ro, .device, true, 0⟩,
  ⟨0x100005, 1, .u16, .ro, .device, true, 7997⟩,
  ⟨0x100006, 1, .u16, .ro, .device, true, 512⟩,
  ⟨0x100007, 1, .time, .ro, .device, true, 0⟩,
  ⟨0x100008, 1, .u32, .ro, .device, false, 0⟩,
  ⟨0x100009, 1, .u32, .ro, .device, true, 0⟩,
  ⟨0x10000A, 1, .u16, .ro, .device, true, 1⟩,
  ⟨0x100101, 1, .bool, .wo, .device, false, 0⟩,
  ⟨0x100102, 1, .bool, .wo, .device, false, 0⟩,
  ⟨0x210000, 10, .f32, .ro, .device, false, 0⟩,
  ⟨0x210100, 10, .f32, .rw, .device, true, 0⟩,
  ⟨0x210200, 10, .f32, .rw, .device, true, 0⟩,
  ⟨0x210300, 10, .u8, .ro, .device, false, 0⟩,
  ⟨0x800001, 1, .u32, .ro, .device, true, 0⟩,
  ⟨0x800002, 1, .u32, .ro, .device, true, 0⟩,
  ⟨0x800003, 1, .u32, .rw, .device, true, 224⟩,
  ⟨0x800004, 1, .u8, .rw, .device, true, 0⟩,
  ⟨0x801000, 1, .blob, .ro, .device, true, 0⟩]

/-- Entries, part 5. -/
def entryTable5 : List EntryInfo := [
  ⟨0x802000, 1, .blob, .wo, .device, false, 0⟩,
  ⟨0x900001, 1, .u8, .wo, .device, false, 0⟩,
  ⟨0x900002, 1, .u8, .ro, .device, false, 0⟩,
  ⟨0x900003, 1, .u8, .ro, .device, false, 0⟩,
  ⟨0x900004, 1, .u32, .ro, .device, false, 0⟩,
  ⟨0x900005, 1, .u8, .ro, .device, true, 0⟩,
  ⟨0x900006, 1, .blob, .ro, .device, true, 0⟩,
  ⟨0x900007, 1, .u8, .ro, .device, true, 0⟩,
  ⟨0x900008, 1, .bool, .rw, .device, true, 0⟩,
  ⟨0x900009, 1, .u8, .ro, .device, true, 0⟩,
  ⟨0x901000, 1, .blob, .wo, .device, false, 0⟩,
  ⟨0xF00001, 1, .u16, .wo, .device, false, 0⟩,
  ⟨0xF00100, 1, .u32, .ro, .device, false, 0⟩,
  ⟨0x700000, 16, .u16, .rw, .device, false, 65535⟩,
  ⟨0x700100, 16, .u64, .rw, .device, false, 0⟩,
  ⟨0x700200, 16, .u8, .rw, .device, false, 0⟩,
  ⟨0x700300, 16, .u8, .rw, .device, false, 1⟩,
  ⟨0x700400, 16, .u16, .rw, .device, false, 65535⟩,
  ⟨0x700500, 16, .u64, .rw, .device, false, 0⟩,
  ⟨0x700600, 16, .u8, .rw, .device, false, 0⟩,
  ⟨0x700700, 16, .u8, .rw, .device, false, 0⟩,
  ⟨0x710000, 1, .u64, .rw, .function, false, 0⟩,
  ⟨0x710100, 1, .u32, .rw, .function, false, 4096⟩,
  ⟨0x710200, 1, .u32, .rw, .function, false, 1000⟩,
  ⟨0x710300, 1, .u64, .rwc, .function, false, 0⟩,
  ⟨0xB00001, 1, .u64, .ro, .device, true, 0⟩,
  ⟨0xB00002, 1, .u64, .ro, .device, true, 0⟩,
  ⟨0xB00003, 1, .u64, .rwc, .device, false, 0⟩,
  ⟨0xB00004, 1, .u64, .rwc, .device, false, 0⟩,
  ⟨0xB00005, 1, .u32, .ro, .device, false, 0⟩,
  ⟨0xB00101, 17, .u32, .rwc, .device, false, 0⟩,
  ⟨0xB00200, 1, .blob, .ro, .device, false, 0⟩]

/-- Entries, part 6. -/
def entryTable6 : List EntryInfo := [
  ⟨0xB00301, 8, .u32, .ro, .device, true, 0⟩,
  ⟨0xB00310, 9, .u32, .ro, .device, true, 0⟩,
  ⟨0xB02000, 16, .u32, .ro, .device, false, 0⟩]

/-- Every entry of the dictionary, in ascending order of address inside each part. -/
def entryTable : List EntryInfo :=
  entryTable0 ++ entryTable1 ++ entryTable2 ++ entryTable3 ++ entryTable4 ++ entryTable5 ++ entryTable6

/-- The row that holds an entry address. -/
def entryInfo (a : Nat) : Option EntryInfo :=
  entryTable.find? (fun r => decide (r.base ≤ a) && decide (a < r.base + r.count))

/-- Default warning thresholds of the sensors as binary32 (Table 18.10); sensor 9 has none. -/
def sensorWarnDefault : List Nat := [0x42200000, 0x42700000, 0x42D20000, 0x42D20000, 0x42D20000, 0x42D20000, 0x42400000, 0x42840000, 0x404CCCCD, 0x00000000]

/-- Default critical thresholds of the sensors as binary32 (Table 18.10). -/
def sensorCritDefault : List Nat := [0x42340000, 0x42820000, 0x42E60000, 0x42E60000, 0x42E60000, 0x42E60000, 0x42380000, 0x42900000, 0x40466666, 0x3F800000]

/-- The measured rate of a domain (D00 to D18, then B00 to B19) at a point, in Mstep/s: the part's own measurement, within five per cent of the
typical rate of Table 2.2 (R32; log entry 6). -/
def measuredRate (point domain : Nat) : Nat :=
  let typical := if 19 ≤ domain then 1200 else if point = 0 then 1450 else if point = 1 then 1800 else 2050
  let lo := ceilDiv (typical * 95) 100
  let hi := typical * 105 / 100
  lo + Config.rateSeed point domain % (hi + 1 - lo)

/-- The domain number that a rate subindex names (R32). -/
def rateDomain (sub : Nat) : Nat := if 0x20 ≤ sub then sub - 0x20 + 19 else sub

/-- The default of a numeric entry at an address for a target function or partition. rate_live, to which Table 2.3 gives none, starts at the part's measured Nominal rate (log
entry 6). -/
def entryDefault (a _target : Nat) : Nat :=
  if 0x300000 ≤ a ∧ a < 0x300040 then (if a = 0x300000 then 2 ^ 64 - 1 else 0)
  else if 0x320000 ≤ a ∧ a < 0x320040 then (if a = 0x320000 then 0x01000000 else 0)
  else if 0x210100 ≤ a ∧ a < 0x21010A then sensorWarnDefault.getD (a - 0x210100) 0
  else if 0x210200 ≤ a ∧ a < 0x21020A then sensorCritDefault.getD (a - 0x210200) 0
  else if 0xA01000 ≤ a ∧ a < 0xA01300 then measuredRate ((a - 0xA01000) / 256) (rateDomain (a % 256))
  else if 0xA01300 ≤ a ∧ a < 0xA01400 then measuredRate 1 (rateDomain (a % 256))
  else if a = E.manufactureTime then Config.manufactureTime % 2 ^ 64
  else if a = E.firmwareVersion then Config.factoryVersion % 2 ^ 32
  else match entryInfo a with
    | some r => r.dflt
    | none => 0

end Sys2Proof
end

