-- ==== Sys2Proof/Machine/StateBase.lean ====
section
/-! DEFINITION. Machine/StateBase.lean: the state of the supplies and resets, the time base, the dictionary, the
management processor, the persistent log, the fault records and the BAR0 access rules. Each field's docstring ends with
a bracket: the spec chapter and rule that names it, its width, and its reset value. -/

namespace Sys2Proof.Machine

/-- How far the power-on sequence of Table 21.1 has come. -/
inductive Phase
  | off           -- main rails down
  | ramping       -- main supply valid, rails ramping
  | domainsUp     -- rails in regulation, domains started
  | tested        -- self-tests done
  | zeroed        -- every granule zeroed
  | ready         -- dictionary live
deriving DecidableEq, Repr

/-- Supplies, pins and the resets of the whole device (chapters 21 and 22). -/
structure Supply where
  /-- Auxiliary supply valid. [21 R465 R477; 1; DESIGN CHOICE 1 (log 2)] -/
  auxValid : Bool
  /-- Main supply valid. [21 R466, 22 R476; 1; DESIGN CHOICE 1 (log 2)] -/
  mainValid : Bool
  /-- What started the sequence: 0 power-on, 1 cold reset, 2 device reset. [21 Table 21.2; DESIGN CHOICE 0 (log 2)] -/
  kind : Nat
  /-- Step of the power-on sequence reached. [21 R466; Table 21.1; DESIGN CHOICE ready (log 2)] -/
  phase : Phase
  /-- PERST# is asserted. [21 R466, 22 R475; 1; 0: its pull-up reads deasserted] -/
  perst : Bool
  /-- A cold reset holds the main rails down until PERST# deasserts. [21 R468; 1; 0] -/
  coldHeld : Bool
  /-- Elapsed time at the origin of the running sequence. [21 R466; ns; DESIGN CHOICE 0 (log 2)] -/
  origin : Nat
  /-- D19 is held in reset. [21 R466; 1; 0] -/
  d19Reset : Bool
  /-- PWR_MAIN_PG released: every main rail in regulation. [22 R475; 1; 1] -/
  mainPg : Bool
  /-- PWR_THERM_TRIP_N asserted: the trip stands. [22 R475 R481, 17 R406; 1; 0] -/
  thermTrip : Bool
  /-- The management processor answers. [18 R413; 1; 1] -/
  mgtLive : Bool
  /-- Both firmware slots failed: only identity, log and update entries answer. [18 R432; 1; 0] -/
  bothSlotsFailed : Bool
  /-- The chip has failed (spine, front-end or router plain). [20 R456, 21 R467; 1; 0] -/
  chipFailed : Bool
  /-- A listed member takes no part in the running tied-domain reset. [21 R470; 1; 0] -/
  tiedAbsent : Bool
  /-- Start-ups of the chip: its epoch. [20 R460 Table 20.7; 32 bits; DESIGN CHOICE 1, the start-up that reset ends (log 106)] -/
  epoch : Nat
  /-- A device reset is running: configuration requests are answered with RRS. [21 R469; 1; 0] -/
  devResetRunning : Bool
  /-- The last configuration request was answered with RRS. [21 R469; 1; 0] -/
  rrsAnswered : Bool
deriving DecidableEq, Repr

/-- One replica of the global time base (R35, R36). -/
structure Replica where
  /-- Its count. [02 R35; 64 bits; 0] -/
  count : Nat
  /-- It is stopped with its gated domain. [02 R36; 1; 0] -/
  stopped : Bool
  /-- It is ahead of the master and holds its count. [02 R35; 1; 0] -/
  holding : Bool
deriving DecidableEq, Repr

/-- The global time base (chapter 2). -/
structure TimeSt where
  /-- The counts of the GTB without its steps, on which every limit and deadline is measured: it follows the GTB count by count, slewing included, and a step leaves every
  limit's remaining duration unchanged (R4, R39). [02 R39; ns; DESIGN CHOICE 0 (log 3)] -/
  mono : Nat
  /-- Nanoseconds of the module's own reference, which pace the slewing. [02 R34, R39; ns; DESIGN CHOICE 0 (log 3)] -/
  ref : Nat
  /-- The GTB master's count. [02 R34; 64 bits; 0] -/
  gtb : Nat
  /-- The 45 replicas: D00 to D24, then B00 to B19. [02 R35; 45 x 64 bits; 0] -/
  replicas : List Replica
  /-- GTB_STATUS.role. [02 Table 2.5; 4 bits; 0] -/
  role : Nat
  /-- GTB_STATUS.resync_event. [02 Table 2.5; 1; 0] -/
  resyncEvent : Bool
  /-- GTB_STATUS.stepped. [02 Table 2.5; 1; 0] -/
  stepped : Bool
  /-- GTB_STATUS.holdover. [02 Table 2.5; 1; 0] -/
  holdover : Bool
  /-- GTB_STATUS.ptp_locked. [02 Table 2.5; 1; 0] -/
  ptpLocked : Bool
  /-- GTB_STATUS.fabric_locked. [02 Table 2.5; 1; 0] -/
  fabricLocked : Bool
  /-- The follower has locked since its last reset. [02 R39; 1; 0] -/
  lockedOnce : Bool
  /-- The chip has locked to the IEEE 1588 reference since its last reset. [02 R39, R41; 1; 0] -/
  ptpLockedOnce : Bool
  /-- Elapsed time at which holdover began. [02 R40; ns; DESIGN CHOICE 0 (log 4)] -/
  holdoverAt : Nat
  /-- GTB_DOMAIN_RESYNC. [02 Table 2.6; 45 bits; 0] -/
  domainResync : Nat
  /-- GTB_OFFSET. [02 Table 2.7; 64 bits, signed; 0] -/
  offset : Int
  /-- Slewing still to do toward the master, in ns. [02 R39; signed; DESIGN CHOICE 0 (log 4)] -/
  slew : Int
  /-- The elected time master's chip id. [02 R38; 12 bits; DESIGN CHOICE none (log 4)] -/
  master : Option Nat
  /-- The GTB stepped since the previous persistent log record. [18 Table 18.8; 1; 0] -/
  steppedSinceLog : Bool
  /-- Time messages sent on each link and not yet answered: link and GTB count at sending. [02 R38; 64 bits; empty] -/
  sent : SMap Nat
  /-- Elapsed time of the last time message sent on each link. [02 R38; ns; empty] -/
  lastSend : SMap Nat
  /-- Target point of a running ramp of the core supply. [02 R31; 2 bits; none] -/
  rampTarget : Option Nat
  /-- Domains whose replica has reloaded, so that a resync flag is due in the next trace record of each source there. [02 R36, 19 R445; 45 bits; 0] -/
  resyncFlag : Nat
  /-- Trace sources that have emitted a record since their domain's replica reloaded. [02 R36, 19 R445; empty] -/
  resyncDone : List Nat
  /-- A stepped flag is due in the next record of each trace source. [19 R445; 1; 0] -/
  steppedFlag : Bool
  /-- Trace sources that have emitted a record since the GTB stepped. [19 R445; empty] -/
  steppedDone : List Nat
deriving DecidableEq, Repr

/-- A record of the persistent log (Table 18.8); its crc field is computed when it is read. -/
structure LogRec where
  type : Nat
  iface : Nat
  fn : Nat
  seq : Nat
  time : Nat
  index : Nat
  sub : Nat
  flags : Nat
  target : Nat
  valueLen : Nat
  old : List Byte
  new : List Byte
  boot : Nat
deriving DecidableEq, Repr

/-- A segmented write being assembled (R421). -/
structure Assembly where
  /-- Entry address written. -/
  entry : Nat
  /-- Target of the entry. -/
  target : Nat
  /-- Interface and function that hold the assembly. -/
  who : Origin
  /-- Bytes received. -/
  bytes : List Byte
  /-- Elapsed time of the last segment. -/
  lastAt : Nat
deriving DecidableEq, Repr

/-- A function's dictionary mailbox (R424, Tables 18.5 to 18.7). -/
structure Mailbox where
  /-- Buffer bytes at 0x3000 to 0x3FFF. [18 R424; 4 KiB; DESIGN CHOICE 0 (log 4)] -/
  buf : SMap Byte
  /-- MGT_MB_LEN.req_len. [18 Table 18.7; 13 bits; 0] -/
  reqLen : Nat
  /-- MGT_MB_LEN.rsp_len. [18 Table 18.7; 13 bits; 0] -/
  rspLen : Nat
  /-- MGT_MB_STATUS.busy. [18 Table 18.6; 1; 0] -/
  busy : Bool
  /-- MGT_MB_STATUS.done. [18 Table 18.6; 1; 0] -/
  done : Bool
  /-- MGT_MB_STATUS.overrun. [18 Table 18.6; 1; 0] -/
  overrun : Bool
  /-- MGT_MB_STATUS.status. [18 Table 18.6; 8 bits; 0] -/
  status : Nat
  /-- MGT_MB_CTRL.irq_enable. [18 Table 18.5; 1; 0] -/
  irqEnable : Bool
  /-- MGT_MB_CTRL.vector. [18 Table 18.5; 6 bits; 0] -/
  vector : Nat
  /-- The answer to the request in flight waits for the end of a layer flush (R442). [18 R422, 19 R442; 1; 0] -/
  delayed : Bool
deriving DecidableEq, Repr

/-- State of one module sensor (R428). -/
structure Sensor where
  /-- sensor_state. [18 Table 18.14; 2 bits; 0] -/
  state : Nat
  /-- Consecutive reads past the warning threshold. [18 R428; reads; 0] -/
  pastWarn : Nat
  /-- Consecutive reads past the critical threshold. [18 R428; reads; 0] -/
  pastCrit : Nat
  /-- Elapsed time since when the value has stayed 2 % inside the warning threshold. [18 R428; ns; none] -/
  inWarn : Option Nat
  /-- Elapsed time since when it has stayed 2 % inside the critical threshold. [18 R428; ns; none] -/
  inCrit : Option Nat
  /-- Elapsed time of the first failed read in a row. [18 R428; ns; none] -/
  failingSince : Option Nat
deriving DecidableEq, Repr

/-- A firmware slot (R430): the image bytes, none when the slot is empty. -/
structure Slot where
  image : List Byte
  empty : Bool
  /-- The version shown in slot_versions. -/
  version : Nat
  /-- security_version of the image. -/
  security : Nat
  /-- revoke_mask of the image. -/
  revoke : Nat
deriving DecidableEq, Repr

/-- Update session states (Table 18.14). -/
inductive UpState
  | idle | receiving | verifying | verified | failed | activated | trial
deriving DecidableEq, Repr

/-- A response frame (Table 18.2, R419). -/
structure Response where
  status : Nat
  tag : Nat
  opcode : Nat
  index : Nat
  sub : Nat
  flags : Nat
  target : Nat
  offset : Nat
  body : List Byte
deriving DecidableEq, Repr

/-- The management processor (chapter 18). -/
structure Mgt where
  /-- Values of numeric entries that differ from their defaults: key is the entry address times 256 plus the target. [18 R416; by type; defaults of the tables] -/
  num : SMap Nat
  /-- Values of STRING and BLOB entries that have been written. [18 R416; bytes; defaults of the tables] -/
  blob : SMap (List Byte)
  /-- Records of the persistent log, oldest first, at most 1,048,576. [18 R425; 64 bytes each; DESIGN CHOICE the two records of the first power-on (log 2)] -/
  log : List LogRec
  /-- Sequence number of the next record. [18 R425; 32 bits; DESIGN CHOICE 2 (log 2)] -/
  nextSeq : Nat
  /-- Segmented writes in assembly. [18 R421; empty] -/
  asm : List Assembly
  /-- Mailboxes of the functions. [18 R424; per function; idle] -/
  mbox : SMap Mailbox
  /-- Sensors 0 to 9. [18 R427; per sensor; normal] -/
  sensors : SMap Sensor
  /-- update_state. [18 Table 18.14; 3 bits; IDLE] -/
  upState : UpState
  /-- update_result. [18 R431; 8 bits; 0] -/
  upResult : Nat
  /-- Who wrote BEGIN. [18 R431; none] -/
  upOwner : Option Origin
  /-- Slot A. [18 R413; 32 MiB; the image installed at manufacture] -/
  slotA : Slot
  /-- Slot B. [18 R413; 32 MiB; empty] -/
  slotB : Slot
  /-- Slot that runs: 0 A, 1 B. [18 R432; 1; 0] -/
  running : Nat
  /-- A slot selected as a trial for the next boot. [18 Table 18.12; none] -/
  trialNext : Option Nat
  /-- The running image is an uncommitted trial. [18 R432; 1; 0] -/
  trialRunning : Bool
  /-- The last response frame sent. [18 R419; bytes; DESIGN CHOICE none (log 4)] -/
  lastFrame : Option Response
  /-- Status of the last dictionary write that a command performed. [18 Table 18.4; 8 bits; DESIGN CHOICE 0 (log 4)] -/
  answer : Nat
  /-- Records that entered an error log and that Cugen has not yet copied. [20 R458; 64 bits each; empty] -/
  toCopy : List Nat
  /-- ALERT frames sent: endpoint and record sequence. [18 R429; empty] -/
  alerts : List (Nat × Nat)
  /-- MCTP endpoint id. [18 R423; 8 bits; PRESUMED 0, the null endpoint of DSP0236 (log 4)] -/
  eid : Nat
  /-- Body of the last MCTP control response. [18 R423; bytes; DESIGN CHOICE empty (log 4)] -/
  ctrlResp : List Byte
  /-- Requests in flight at the dispatcher: interface, function, tag and opcode. [18 R422; up to 64; empty] -/
  inFlight : List (Origin × Nat)
  /-- MGT_STATUS. [18 Table 18.15; 5 bits; 0] -/
  status : Nat
  /-- MGT_INT_EN. [18 Table 18.16; 5 bits; 0x1C] -/
  intEn : Nat
deriving DecidableEq, Repr

/-- BAR0 access state of the functions (R10). Keys are function * 2^26 + offset. -/
structure Bar0 where
  /-- Held low halves. [00 R10; 32 bits each; DESIGN CHOICE none (log 4)] -/
  held : SMap Nat
  /-- Captured high halves. [00 R10; 32 bits each; DESIGN CHOICE none (log 4)] -/
  captured : SMap Nat
  /-- Value that the last register read returned. [00 R10; 64 bits; DESIGN CHOICE 0 (log 4)] -/
  rdata : Nat
deriving DecidableEq, Repr

end Sys2Proof.Machine
end

