-- ==== Sys2Proof/Machine/StateHost.lean ====
section
/-! DEFINITION. Machine/StateHost.lean: the state of the host interface and its functions, of the command front end
(queues, nodes, graphs, launches, copies, plan contexts) and of the sync unit. -/

namespace Sys2Proof.Machine

/-- Gate states of a function (Table 13.8). -/
inductive Gate
  | disabled | opened | draining | resetting
deriving DecidableEq, Repr

/-- Why and how far a reset of a function runs (R338, R340, R470). -/
structure ResetRun where
  /-- Reset type of Table 21.2: 3 tied-domain, 4 partition, 5 FLR. -/
  kind : Nat
  /-- Elapsed time of its origin. -/
  since : Nat
  /-- The partition, for a partition reset. -/
  partition : Nat
deriving DecidableEq, Repr

/-- One function of the device. -/
structure FnSt where
  /-- The function gate. [13 R336 R488; 2 bits; F0 OPEN, others DISABLED] -/
  gate : Gate
  /-- HIF_FN_STATUS.slabs_changed. [13 Table 13.13; 1; 0] -/
  slabsChanged : Bool
  /-- HIF_FN_STATUS.disable_begun. [13 Table 13.13; 1; 0] -/
  disableBegun : Bool
  /-- ATS Enable, shown in HIF_FN_STATUS.ats_enabled. [13 Table 13.13; 1; 0] -/
  atsEnabled : Bool
  /-- HIF_INV_ADDR. [13 Table 13.14; 41 bits at 56:16; 0] -/
  invAddr : Nat
  /-- HIF_INV_STATUS.rejected. [13 Table 13.16; 1; 0] -/
  invRejected : Bool
  /-- HIF_INV_STATUS.busy. [13 Table 13.16; 1; 0] -/
  invBusy : Bool
  /-- Bus Master Enable. [13 R324; 1; PRESUMED 0, the PCIe default (log 7)] -/
  busMaster : Bool
  /-- AtomicOp Requester Enable. [13 R320; 1; PRESUMED 0, the PCIe default (log 7)] -/
  atomicReq : Bool
  /-- MSI-X Enable. [13 R335; 1; PRESUMED 0, the PCIe default (log 7)] -/
  msixEnable : Bool
  /-- MSI-X Function Mask. [13 R335; 1; PRESUMED 0, the PCIe default (log 7)] -/
  fnMask : Bool
  /-- The function is in D3hot. [13 R341; 1; 0] -/
  d3hot : Bool
  /-- Reset in progress. [13 R338; none] -/
  reset : Option ResetRun
  /-- The point of a disable has been reached: the front end stopped fetching. [13 R339; 1; 0] -/
  pointReached : Bool
  /-- Elapsed time of the fn_enable write of 0. [13 R339; ns; DESIGN CHOICE 0 (log 4)] -/
  disableAt : Nat
  /-- Accesses that used a translation dropped by the invalidation in progress and are not yet performed: kind (0 load, 1 atomic, 2 buffered store,
  3 request to another chip) and number. [13 R325; empty] -/
  invWaits : List (Nat × Nat)
  /-- SYN_CMD_ARG. [12 Table 12.7; 64 bits; 0] -/
  synArg : Nat
  /-- SYN_CMD_RESULT. [12 Table 12.8; 64 bits; 0] -/
  synResult : Nat
  /-- SYN_STATUS. [12 Table 12.9; 32 bits; 0] -/
  synStatus : Nat
deriving DecidableEq, Repr

/-- One MSI-X vector of a function. -/
structure Vector where
  /-- Message address. [13 R334, PCIe MSI-X table; 64 bits; PRESUMED 0 (log 7)] -/
  addr : Nat
  /-- Message data. [13 R334; 32 bits; PRESUMED 0 (log 7)] -/
  data : Nat
  /-- Mask bit. [13 R335; 1; PRESUMED 1, the PCIe default (log 7)] -/
  masked : Bool
  /-- Pending bit. [13 R335; 1; 0] -/
  pending : Bool
  /-- A message is due and has not been sent. [13 R335; 1; 0] -/
  due : Bool
  /-- Messages sent. [13 R335; count; 0] -/
  sent : Nat
  /-- Elapsed time of the last message. [13 R335; ns; none] -/
  lastAt : Option Nat
deriving DecidableEq, Repr

/-- A cached translation of one 64 KiB page (R324, R67). -/
structure TEntry where
  fn : Nat
  /-- Virtual address >> 16. -/
  page : Nat
  /-- 0 partition view, 1 fabric, 2 host (Table 13.4). -/
  target : Nat
  /-- Page address >> 16 that the page maps to, in its target's space. -/
  frame : Nat
  r : Bool
  w : Bool
  x : Bool
deriving DecidableEq, Repr

/-- An entry of the translation cache of a base die (R67). -/
structure DieEntry where
  /-- PASID that tags the entry. -/
  pasid : Nat
  /-- Log2 of the page size: 16, 21 or 30. -/
  log : Nat
  /-- Virtual address of the page, shifted right by `log`. -/
  page : Nat
  /-- 0 partition view, 1 fabric, 2 host (Table 13.4). -/
  target : Nat
  /-- Address of the page >> 16, in its target's space. -/
  frame : Nat
  r : Bool
  w : Bool
  x : Bool
deriving DecidableEq, Repr

/-- One partition. -/
structure PartSt where
  /-- Slab list in view order. [13 R328 R329; U16 each; empty] -/
  slabs : List Nat
  /-- Partition epoch. [20 Table 20.7; 32 bits; 0] -/
  epoch : Nat
  /-- Function that holds a time-sliced partition. [13 R333; none] -/
  holder : Option Nat
  /-- Elapsed time at which the holder's turn began. [13 R333; ns; DESIGN CHOICE 0 (log 4)] -/
  turnAt : Nat
  /-- The turn has ended and the holder's queues are being pre-empted. [13 R333; 1; 0] -/
  turnEnding : Bool
  /-- Home-map redirects: bucket and the slice that serves it while a plain is gated. [09 R233; empty] -/
  redirects : SMap Nat
deriving DecidableEq, Repr

/-- A PCIe completion that the device returned to the host. -/
structure Completion where
  /-- 0 successful, 1 Unsupported Request, 2 poisoned, 3 none sent (Malformed TLP). -/
  status : Nat
  data : List Byte
deriving DecidableEq, Repr

/-- An ATS Invalidate Request that has not been answered (R325): its function, and the accesses that used a dropped entry, as in `FnSt.invWaits`. -/
structure AtsInv where
  fn : Nat
  waits : List (Nat × Nat)
deriving DecidableEq, Repr

/-- The host interface (chapter 13). -/
structure Hif where
  /-- Functions. [13 R336; 256; see each field] -/
  fns : SMap FnSt
  /-- MSI-X vectors, key function * 64 + vector. [13 R334; masked, nothing pending] -/
  vecs : SMap Vector
  /-- Partitions. [13 R327; 64; see each field] -/
  parts : SMap PartSt
  /-- Translation caches. [13 R324 R325; empty] -/
  tcache : List TEntry
  /-- Host-page translations that ATS supplied: function, page and host frame. [13 R324; up to 8,192; empty] -/
  atsCache : List TEntry
  /-- ATS Invalidate Requests that wait for accesses. [13 R325; up to 32; empty] -/
  atsInvs : List AtsInv
  /-- ATS Invalidate Completions sent. [13 R325; count; DESIGN CHOICE 0 (log 4)] -/
  atsAnswered : Nat
  /-- Slabs being zeroed after release. [13 R328; empty] -/
  zeroing : List Nat
  /-- HIF_FN_EVENT. [13 Table 13.17; 256 bits; 0] -/
  fnEvent : Nat
  /-- HIF_ERR_STATUS. [13 Table 13.18; 6 bits; 0] -/
  errStatus : Nat
  /-- HIF_ERR_INT_EN. [13 Table 13.19; 6 bits; 0x3B] -/
  errIntEn : Nat
  /-- VF Enable. [13 R316; 1; PRESUMED 0, the PCIe default (log 7)] -/
  vfEnable : Bool
  /-- NumVFs. [13 Table 13.1; 8 bits; PRESUMED 0, the PCIe default (log 7)] -/
  numVfs : Nat
  /-- VF Memory Space Enable. [13 R316; 1; PRESUMED 0, the PCIe default (log 7)] -/
  vfMse : Bool
  /-- BAR2 size of F0 as a power of two. [13 Table 13.1; 36 for 64 GiB] -/
  bar2Log : Nat
  /-- VF BAR2 size as a power of two. [13 Table 13.1; 31 for 2 GiB] -/
  vfBar2Log : Nat
  /-- The PCIe link is up. [13 R315, 20 R456; 1; DESIGN CHOICE 1 (log 2)] -/
  linkUp : Bool
  /-- Device Readiness Status messages sent. [21 R466; count; DESIGN CHOICE 0 (log 4)] -/
  drs : Nat
  /-- Last completion returned to the host. [13 R319; DESIGN CHOICE none (log 4)] -/
  cpl : Option Completion
  /-- Host memory written by the device, by address; unlisted bytes are the host's own. [13 R324; bytes; empty] -/
  hostMem : List Host.Cell
  /-- SPDM certificate chains in slots 1 to 7; slot 0 is Selnak's. [13 R343; bytes; empty] -/
  certs : SMap (List Byte)
  /-- Last DOE or SPDM response. [13 R343; bytes; DESIGN CHOICE empty (log 4)] -/
  doeResp : List Byte
deriving DecidableEq, Repr

/-- Queue states (Table 11.1). -/
inductive QState
  | disabled | idle | running | preempting | preempted | killing | killed | resetting
deriving DecidableEq, Repr

/-- What a queue saved at pre-emption (R291). -/
structure SavedBlock where
  /-- Launch node of the block. -/
  node : Nat
  block : Nat
  groups : Nat
  /-- Width of its groups, 32 or 64. -/
  width : Nat
  /-- Save-area address of the block record. -/
  addr : Nat
  /-- The records themselves, where the save area had no room for a block that its core gave up. -/
  kept : Option (List Byte)
deriving DecidableEq, Repr

/-- One queue (R263 to R266, Tables 11.16 to 11.22). -/
structure Queue where
  /-- FE_Q_STATUS.state. [11 Table 11.1; 4 bits; DISABLED] -/
  state : QState
  /-- FE_Q_WRITE_PTR. [11 Table 11.18; 32 bits; 0] -/
  write : Nat
  /-- FE_Q_READ_PTR. [11 Table 11.19; 32 bits; 0] -/
  read : Nat
  /-- Ring count of the next entry to fetch. [11 R271; 32 bits; 0] -/
  fetch : Nat
  /-- FE_Q_STATUS.kill_code. [11 Table 11.16; 8 bits; 0] -/
  killCode : Nat
  /-- FE_Q_STATUS.bad_ctrl. [11 Table 11.16; 1; 0] -/
  badCtrl : Bool
  /-- FE_Q_STATUS.bad_doorbell. [11 Table 11.16; 1; 0] -/
  badDoorbell : Bool
  /-- FE_Q_STATUS.preempt_refused. [11 Table 11.16; 1; 0] -/
  preemptRefused : Bool
  /-- FE_Q_STATUS.suppressed. [11 Table 11.16; 8 bits, saturating; 0] -/
  suppressed : Nat
  /-- The timer has been started and counts in the states of Table 11.1. [11 R285; 1; 0] -/
  timerOn : Bool
  /-- Elapsed time of the timer's last restart. [11 R285; ns; DESIGN CHOICE 0 (log 4)] -/
  timerAt : Nat
  /-- queue_timeout at the timer's last restart, in us. [11 R284; 32 bits; DESIGN CHOICE 0 (log 4)] -/
  timerLimit : Nat
  /-- FE_Q_FAULT.valid. [11 Table 11.20; 1; 0] -/
  faultValid : Bool
  /-- FE_Q_FAULT.node. [11 Table 11.20; 16 bits; 0] -/
  faultNode : Nat
  /-- FE_Q_FAULT.depth. [11 Table 11.20; 4 bits; 0] -/
  faultDepth : Nat
  /-- FE_Q_FAULT.ring_count. [11 Table 11.20; 32 bits; 0] -/
  faultRing : Nat
  /-- FE_Q_SAVE_NEED. [11 Table 11.21; 64 bits; 0] -/
  saveNeed : Nat
  /-- FE_Q_FAULT_TAG.operator. [11 Table 11.22; 16 bits; 0] -/
  tagOperator : Nat
  /-- FE_Q_FAULT_TAG.layer. [11 Table 11.22; 24 bits; 0] -/
  tagLayer : Nat
  /-- A resume write waits for PREEMPTED. [11 Table 11.2; 1; 0] -/
  resumePending : Bool
  /-- Write pointer at the kill's trigger. [11 R287; 32 bits; DESIGN CHOICE 0 (log 4)] -/
  killWrite : Nat
  /-- The skip walk covers only work in flight (a disable's expiry). [13 R339; 1; 0] -/
  killInFlight : Bool
  /-- Settling of the kill or reset is done. [11 Table 11.12; 1; 0] -/
  settled : Bool
  /-- Virtual page (64 KiB) of the fault address of a core's fault that ended the context, whose buffered stores are discarded. [09 R231; 41 bits; none] -/
  faultPage : Option Nat
  /-- The faulting instruction of a fault that is found after its issue: core, slot and number. Stores that its group issued after it are discarded. [09 R231; none] -/
  faultPoint : Option (Nat × Nat × Nat)
  /-- Blocks saved at pre-emption. [11 R291; empty] -/
  savedBlocks : List SavedBlock
  /-- Plan contexts saved at pre-emption: node and save-area address. [11 R291; empty] -/
  savedPlans : List (Nat × Nat)
  /-- The queue was pre-empted from IDLE: nothing was saved. [11 R291; 1; 0] -/
  savedNone : Bool
  /-- Bytes of the save area used. [11 R291; 64 bits; 0] -/
  saveUsed : Nat
  /-- Pre-empted at the end of a time slice. [13 R333; 1; 0] -/
  slicePreempt : Bool
deriving DecidableEq, Repr

/-- Status of a node record. -/
inductive NStatus
  | waiting | running | complete | skipped
deriving DecidableEq, Repr

/-- A node that the front end has fetched (R267 to R272). Node numbers rise in fetch order. -/
structure Node where
  queue : Nat
  /-- Ring count of the entry from which the node descends. -/
  ring : Nat
  /-- Graph instance, or none for a ring entry. -/
  graph : Option Nat
  /-- Index in its edition, 0 for a ring entry. -/
  index : Nat
  depth : Nat
  /-- The 64 bytes as fetched (R277). -/
  raw : List Byte
  status : NStatus
  /-- Kill code of a failed check, 0 for none (R272). -/
  check : Nat
  /-- Predecessors 4 and up of a graph node. -/
  extPreds : List Nat
  /-- The consumer has reported that the work of the node is done. -/
  done : Bool
  /-- It has been tried and waits for something that its start needs: it takes no turn of its queue (R278). -/
  stalled : Bool
  /-- Editions that it has pinned without a graph that runs: header and edition (R275). -/
  pins : List (Nat × Nat)
deriving DecidableEq, Repr

/-- A running graph (R274, R275). -/
structure Graph where
  queue : Nat
  /-- Ring count of the entry from which it descends. -/
  ring : Nat
  /-- CALL node that started it, or none. -/
  call : Option Nat
  /-- PLAN node and handle that launched it, or none. -/
  plan : Option (Nat × Nat)
  depth : Nat
  /-- Graph header address. -/
  header : Nat
  /-- Pinned edition number. -/
  edition : Nat
  nodes : Nat
  count : Nat
  preds : Nat
  predEntries : Nat
  args : Nat
  /-- Nodes fetched so far. -/
  fetched : Nat
deriving DecidableEq, Repr

/-- A launch in progress (R273, R279). -/
structure Launch where
  queue : Nat
  /-- Entry PCs of the W32 and the W64 body. -/
  entry32 : Nat
  entry64 : Nat
  /-- Widths that the code object declares: bit 0 W32, bit 1 W64. -/
  widths : Nat
  /-- Vector registers of a thread. -/
  vregs : Nat
  blocks : Nat
  groups : Nat
  /-- Scratch bytes of a block. -/
  scratch : Nat
  matrix : Bool
  args : Nat
  arg0 : Nat
  arg1 : Nat
  placed : Nat
  exited : Nat
deriving DecidableEq, Repr

/-- Progress of a COPY (R280): 0 waiting, 1 running, 2 done, one entry per piece. -/
structure Copy where
  queue : Nat
  pieces : List Nat
  /-- The zero-length flush read of R260 has completed. -/
  flushed : Bool
  /-- The signal is on its way. -/
  sent : Bool
  /-- The signal has been applied. -/
  signalled : Bool
deriving DecidableEq, Repr

/-- What a plan context waits for. -/
inductive PlanWait
  | none                -- runs
  | launchFull          -- LAUNCH while 16 launches are incomplete
  | graph (h : Nat)     -- WAIT_GRAPH
  | sync                -- a SYNC call's status
  | remote              -- the response to an access to another chip
deriving DecidableEq, Repr

/-- What reads bytes of another chip for the front end: a node that starts, or the fetch of a node of a graph instance. -/
inductive FeWho
  | node (id : Nat)
  | graph (gid index : Nat)
deriving DecidableEq, Repr

/-- 64 bytes of another chip's memory that have arrived for such a reader, or the old value of an atomic at such an address. -/
structure FeLine where
  queue : Nat
  who : FeWho
  /-- Number of the 64-byte block, chip id included; 2^60 for the edition word that a pin has read (R275). -/
  block : Nat
  bytes : List Byte
  /-- Poison mark of each of its granules. -/
  poison : Nat
deriving DecidableEq, Repr

/-- An unpin of an edition whose header or record stands on another chip of the tied group (R274, R275). -/
structure Unpin where
  queue : Nat
  node : Nat
  header : Nat
  edition : Nat
  /-- The edition word as last read. -/
  word : Nat
  /-- Address of the record. -/
  rcd : Nat
  /-- 0 reads the header, 1 replaces the edition word, 2 adds to retired_pins, 3 reads the record. -/
  stage : Nat
deriving DecidableEq, Repr

/-- One control-core context (R281). -/
structure PlanCtx where
  queue : Nat
  node : Nat
  /-- Program counter. [11 R281; 64 bits; entry] -/
  pc : Nat
  /-- x0 to x31. [11 R281; 32 x 64 bits; zero but a0, a1, sp] -/
  x : List DWord
  wait : PlanWait
  /-- Bytes of a response that has arrived for the access at pc. -/
  rdata : Option (List Byte)
  /-- Code at and after pc that has come from another chip: address and two bytes. -/
  code : List (Nat × Nat)
  /-- Elapsed time since which the program holds the context (quantity 6 of Table 19.7). -/
  since : Nat
  /-- Stopped at an instruction boundary by a kill or pre-emption. -/
  stopped : Bool
deriving DecidableEq, Repr

/-- A busy DMA engine (R280). -/
structure Engine where
  node : Nat
  piece : Nat
  /-- Bytes of the piece for which requests to another chip have been sent. -/
  sent : Nat
  /-- Bytes of the piece that such requests have moved. -/
  moved : Nat
  /-- The engine was stopped by a kill. -/
  stopped : Bool
  /-- Bytes that have arrived from another chip and wait for their destination: offset in the piece, data and poison mask. -/
  waiting : List (Nat × List Byte × Nat)
  /-- Elapsed time since which the engine holds the piece. -/
  since : Nat
deriving DecidableEq, Repr

/-- The command front end (chapter 11). -/
structure FrontEnd where
  /-- Queues, key 16 f + q. [11 R263; 4,096; see each field] -/
  queues : SMap Queue
  /-- Nodes fetched and not yet retired, in fetch order. [11 R271; empty] -/
  nodes : SMap Node
  /-- Running graphs. [11 R274; empty] -/
  graphs : SMap Graph
  /-- Launches by node. [11 R273; empty] -/
  launches : SMap Launch
  /-- Copies by node. [11 R280; empty] -/
  copies : SMap Copy
  /-- Control-core contexts 0 to 63 in use. [11 R281; 64; free] -/
  plans : SMap PlanCtx
  /-- Graph handles of plan programs: PLAN node, handle 0 to 15 and graph instance. A listed handle whose graph is gone belongs to a
  launch that is complete and has not been waited for. [11 R282; 16 per program; empty] -/
  handles : SMap (SMap Nat)
  /-- DMA engines 0 to 31 that are busy. [11 R280; 32; free] -/
  engines : SMap Engine
  /-- Bytes of other chips' memory that have arrived for the front end. [11 R271, 14 R363; empty] -/
  got : List FeLine
  /-- Unpins under way on other chips of the tied group. [11 R275; empty] -/
  unpins : SMap Unpin
  /-- Number of the next node. [the model's own numbering of fetch order; DESIGN CHOICE 0 (log 4)] -/
  nextNode : Nat
  /-- Number of the next graph instance. [the model's own numbering; DESIGN CHOICE 0 (log 4)] -/
  nextGraph : Nat
  /-- Queues in the order of their last dispatch, the latest first. [11 R278; DESIGN CHOICE empty (log 52)] -/
  served : List Nat
  /-- Nodes that a function has dispatched in the present round of its partition. [11 R278; count; DESIGN CHOICE 0 (log 52)] -/
  rounds : SMap Nat
deriving DecidableEq, Repr

/-- Types of sync objects (Table 12.1). -/
inductive ObjType
  | fence | sem | bar
deriving DecidableEq, Repr

/-- Who waits on a sync object (R303). -/
inductive WaiterWho
  | core (core slot : Nat) (threads : Nat) (dst : Nat) (pc num : Nat)   -- a subset of a group, its threads as a mask, with the instruction's address and number
  | node (id : Nat)                                       -- a WAIT node
  | plan (ctx : Nat)                                      -- a plan call
  | remote (chip seq : Nat)                               -- a remote chip's wait
deriving DecidableEq, Repr

/-- A registered waiter. -/
structure Waiter where
  who : WaiterWho
  queue : Nat
  /-- 1 GE, 2 EQ, 4 DEC, 6 BAR.WAIT (Table 6.17). -/
  op : Nat
  value : Nat
  /-- Scope of the wait: 0 GRP, 1 CORE, 2 CHIP, 3 TIE, 4 SYS (Table 6.7). -/
  scope : Nat
deriving DecidableEq, Repr

/-- A sync object (R294, Table 12.1). -/
structure SynObj where
  type : ObjType
  /-- Owning function. -/
  owner : Nat
  /-- Access level (Table 12.2). -/
  access : Nat
  /-- Status: 0 OK, else the error code. -/
  code : Nat
  /-- Fence value or semaphore count. -/
  value : Nat
  saturated : Bool
  participants : Nat
  arrivals : Nat
  generation : Nat
  /-- Mirror: function and virtual address (R312). -/
  mirror : Option (Nat × Nat)
  /-- Notification: function, vector and target (R313). -/
  notify : Option (Nat × Nat × Nat)
  /-- Registered waiters, oldest first. -/
  waiters : List Waiter
deriving DecidableEq, Repr

/-- An operation on its way to an object (R297). -/
structure SynMsg where
  obj : Nat
  /-- sync_op of Table 6.17; 16 + code is a transition to ERROR(code) by a skip walk. -/
  op : Nat
  value : Nat
  queue : Nat
  scope : Nat
  /-- Who receives the status. -/
  who : WaiterWho
deriving DecidableEq, Repr

/-- A release or a status on its way back to its issuer. -/
structure SynRelease where
  who : WaiterWho
  queue : Nat
  /-- Status in the layout of R156: code in bits [7:0], generation in bits [63:32]. -/
  status : Nat
  /-- The release ends a wait (not a SIGNAL, POST or ARRIVE). -/
  isWait : Bool
  scope : Nat
deriving DecidableEq, Repr

/-- The sync unit (chapter 12). -/
structure Syn where
  /-- Created objects. [12 R294; 65,536; all free] -/
  objs : SMap SynObj
  /-- Operations on their way, in arrival order. [12 R297; empty] -/
  inbound : List SynMsg
  /-- Releases and statuses on their way back. [12 R303; empty] -/
  outbound : List SynRelease
  /-- Waits that have issued and are not yet registered. [12 R302; empty] -/
  registering : List (Nat × Waiter)
  /-- Waits that found the semaphore store full and retry. [12 R302; empty] -/
  retrying : List (Nat × Waiter)
deriving DecidableEq, Repr

end Sys2Proof.Machine
end

