-- ==== Sys2Proof/Machine/StateMem.lean ====
section
/-! DEFINITION. Machine/StateMem.lean: the state of the twenty memory stacks (chapter 3) and of the 640 newts
(chapter 4). Device memory is a list of address and byte pairs in one canonical form; poisoned granules are a
rising list of granule numbers. -/

namespace Sys2Proof.Machine

/-- The memory stacks (chapter 3). -/
structure Stk where
  /-- Pin groups retired, by channel (newt id): mask of 20 positions. [03 R55 R57; 20 bits, persistent; 0] -/
  pinGroups : SMap Nat
  /-- Stacks that have failed, as a mask. [03 R55 R56; 20 bits; 0] -/
  stackFailed : Nat
  /-- A die retirement in progress: stack and position. [03 R54; none] -/
  hold : SMap Nat
  /-- Elapsed time at which the hold of a stack began. [03 R54; ns; none] -/
  holdAt : SMap Nat
  /-- Corrected storage errors of the last 10 us: stack, position, channel and elapsed time. [03 R54; empty] -/
  ceEvents : List (Nat × Nat × Nat × Nat)
  /-- Corrected link errors of the last second, by channel * 32 + position: elapsed times. [03 R55; empty] -/
  linkEvents : SMap (List Nat)
  /-- Granules that wait for their second read: device address. [03 R49; empty] -/
  rereads : List Nat
  /-- Corrections of a row within 24 hours, by channel * 2^21 + row: elapsed time, position and granule, newest first. [03 R53; empty] -/
  rowEvents : SMap (List (Nat × Nat × Nat))
  /-- Spared rows, as channel * 2^21 + row, once per spare row used. [03 R53 R57; persistent; empty] -/
  spared : List Nat
  /-- Rows being copied into a spare row: elapsed time of the start, position and granule of the last correction. [03 R53; empty] -/
  sparing : SMap (Nat × Nat × Nat)
  /-- Granules with a conditional write-back under way. [03 R52; empty] -/
  writebacks : List Nat
  /-- The next granule that the patrol scrub reads, as a device granule number. [03 R51; 37 bits; DESIGN CHOICE 0 (log 4)] -/
  patrol : Nat
  /-- STK_SCRUB_STATUS.pass_count. [03 Table 3.10; 32 bits; 0] -/
  passCount : Nat
  /-- Rows being zeroed for a change of mode, and the mode still in effect. [03 R59; empty] -/
  rowZeroing : SMap Nat
  /-- STK_ERR_STATUS. [03 Table 3.7; 8 bits; 0] -/
  errStatus : Nat
  /-- STK_ERR_INT_EN. [03 Table 3.8; 8 bits; 0xFC] -/
  intEn : Nat
  /-- STK_ERR_LOG. [03 R63 Table 3.9; 32 x 64 bits; empty] -/
  log : List Nat
  /-- Records were lost since the last logged STK record. [03 R63; 1; 0] -/
  lost : Bool
  /-- Replays requested for each transfer across a die-to-die interface. [03 R50; up to 4; empty] -/
  replays : SMap Nat
  /-- The granule that a base die last returned. [03 R46; 16 bytes; DESIGN CHOICE zero (log 4)] -/
  rdata : List Byte
  /-- That granule was returned in the poisoned form. [03 R47; 1; DESIGN CHOICE 0 (log 4)] -/
  rpoison : Bool
deriving DecidableEq, Repr

/-- A partial result that a share of a descriptor has produced for one operation. -/
structure Partial where
  newt : Nat
  op : Nat
  /-- Places and values: m, l and o of each query row, elements of partial rows, or bytes of a check. -/
  words : List (Nat × Nat)
  tokens : Nat
deriving DecidableEq, Repr

/-- A descriptor in flight (R68, R91). -/
structure Desc where
  /-- NEWT node that named it. -/
  node : Nat
  queue : Nat
  /-- Header and operation blocks as read once (R68). -/
  raw : List Byte
  layer : Nat
  operator : Nat
  /-- Newts that hold a share, ascending. -/
  newts : List Nat
  /-- Newts whose share has completed or ended. -/
  doneNewts : List Nat
  partials : List Partial
  /-- The newt whose merge of all the shares' results ended with a fault (R80). -/
  reporter : Option Nat
  /-- Output streams for links, as element numbers and codes: key op * 1024 + newt, with 1023 for a stream formed from all the shares. -/
  streams : SMap (List (Nat × Nat))
  status : Nat
  statusNewt : Nat
  statusOp : Nat
  startAt : Option Nat
  endAt : Nat
  bytesRead : Nat
  bytesWritten : Nat
  steps : Nat
deriving DecidableEq, Repr

/-- A share in a newt queue, or waiting at the front end (R74, R75). -/
structure Share where
  desc : Nat
  queue : Nat
  /-- The newt that the split names; a buddy may run it. -/
  owner : Nat
  started : Bool
  /-- Operation that runs next. -/
  nextOp : Nat
  /-- Atomic updates have been performed. -/
  atomics : Bool
  /-- The share has been told to stop. -/
  stop : Bool
  /-- Status that has ended the share, 0 for none (Table 4.12). -/
  fault : Nat
  /-- Pieces of a REMOTE.COPY sent so far. -/
  sent : Nat
  /-- Pieces of it that have arrived. -/
  moved : Nat
  /-- Elapsed time of its last handshake progress. -/
  progressAt : Nat
  /-- Elapsed time at which it started. -/
  startAt : Nat
deriving DecidableEq, Repr

/-- The newts (chapter 4). -/
structure Nwt where
  /-- Shares in the queue of each newt, in entry order. [04 R74; 64 per newt; empty] -/
  queues : SMap (List Share)
  /-- Shares that the front end holds, in order of readiness. [04 R74; empty] -/
  waiting : List Share
  /-- Deliveries made in the present round of the weighted round robin, by newt * 256 + function. [04 R74; count; DESIGN CHOICE 0 (log 4)] -/
  credits : SMap Nat
  /-- Descriptors in flight. [04 R68; empty] -/
  descs : SMap Desc
  /-- Number of the next descriptor. [the model's own numbering; DESIGN CHOICE 0 (log 4)] -/
  nextDesc : Nat
  /-- Failed newts. [04 R95; 640; none] -/
  failed : List Nat
  /-- Gated newts. [04 R99; 640; none] -/
  gated : List Nat
  /-- Elapsed time since when a newt's queue has been empty; unlisted since start-up. [04 R99; ns; DESIGN CHOICE 0 (log 4)] -/
  emptySince : SMap Nat
  /-- Queue from which a newt last started a share, where it serves its own queue and its buddy's. [04 R95; newt id; empty] -/
  lastFrom : SMap Nat
  /-- Translation caches of the base dies, by stack, oldest entry first. [04 R67; 4,096 entries per stack; empty] -/
  tlb : SMap (List DieEntry)
  /-- Presence filter: 128-byte lines with an L2 entry, and whether the line is held as M. [04 R87; 2,621,440 entries; empty] -/
  filter : SMap Bool
  /-- NWT_STATUS. [04 Table 4.14; 5 bits; 0] -/
  status : Nat
  /-- NWT_INT_EN. [04 Table 4.15; 5 bits; 0x1E] -/
  intEn : Nat
  /-- NWT_FAULT_LOG. [04 R100 Table 4.16; 32 x 64 bits; empty] -/
  log : List Nat
  /-- Records were lost since the last logged NWT record. [04 R100; 1; 0] -/
  lost : Bool
deriving DecidableEq, Repr

end Sys2Proof.Machine
end

