-- ==== Sys2Proof/Machine/StateCore.lean ====
section
/-! DEFINITION. Machine/StateCore.lean: the state of the 384 streaming cores with their matrix arrays (chapters 5 to 7) and of
the caches, the homes and the accesses on their way between them (chapters 9 and 10). -/

namespace Sys2Proof.Machine

/-- One group of threads in a slot of a core (chapter 5, Tables 5.1 and 5.7). -/
structure Group where
  queue : Nat
  /-- LAUNCH node it belongs to. -/
  node : Nat
  /-- Block index in the launch. -/
  block : Nat
  /-- Index of the group in its block. -/
  inBlock : Nat
  layer : Nat
  operator : Nat
  /-- Ring count and depth of the launch, for FE_Q_FAULT. -/
  ring : Nat
  depth : Nat
  nodeIndex : Nat
  /-- 32 or 64 threads. -/
  width : Nat
  /-- Vector registers allocated (R111). -/
  vregs : Nat
  /-- Bit t set when thread t has not exited. -/
  live : Nat
  /-- Bit t set when thread t waits at GBAR. -/
  gbar : Nat
  /-- Bit t set when thread t carries the YIELD mark. -/
  yielded : Nat
  /-- PC of each thread. -/
  pcs : SMap Nat
  /-- Vector registers: key register * 64 + thread; unlisted reads zero (R110). -/
  v : SMap Word
  /-- Scalar registers; unlisted reads zero. -/
  s : SMap DWord
  /-- Predicates p0 to p6 of each thread as bits; unlisted reads false. -/
  p : SMap Nat
  /-- Elapsed time since which the group barrier watchdog runs. -/
  gbarSince : Option Nat
  /-- Watchdog time already used before a restore. -/
  gbarUsed : Nat
  /-- Threads that wait for a barrier or a sync wait to complete. -/
  waiting : Nat
  /-- Issue slots of the group since each thread last issued (R108). -/
  ages : SMap Nat
  /-- The group stops issuing (kill or pre-emption). -/
  stopped : Bool
  /-- The group has faulted. -/
  faulted : Bool
deriving DecidableEq, Repr

/-- A block resident on a core (R115). -/
structure Block where
  queue : Nat
  node : Nat
  block : Nat
  /-- Group slots of the block, in order of their index in the block. -/
  slots : List Nat
  /-- Slots of groups that have ended and been freed, in number. -/
  freed : Nat
  scratchBytes : Nat
  /-- Scratch contents; unlisted bytes read zero. -/
  scratch : List Host.Cell
  /-- Words of 4 bytes of the scratch that hold a double-bit error, by number (R209). -/
  scratchBad : List Nat
  matrix : Bool
  /-- A pre-emption save is under way: groups already saved. -/
  saving : Option (List Nat)
  /-- Save-area address of the block record, once the front end has supplied it. -/
  saveAddr : Option Nat
  /-- The save area has no room for a block that its core gives up: the front end keeps its records. -/
  kept : Bool
  /-- Elapsed time since which the core holds the block. -/
  since : Nat
  layer : Nat
  operator : Nat
deriving DecidableEq, Repr

/-- Fault record of a core (Tables 5.10, 5.12 to 5.14). -/
structure CoreFault where
  valid : Bool
  suppressed : Nat
  queue : Nat
  slot : Nat
  thread : Nat
  operator : Nat
  code : Nat
  layer : Nat
  pc : Nat
  addr : Nat
deriving DecidableEq, Repr

/-- One matrix instruction in a core's queue (R171). -/
structure MxOp where
  /-- Its number, in the order of loads, atomics and stores (R173). -/
  id : Nat
  /-- 0 CFG, 1 LDW, 2 SWAP, 3 STREAM, 4 RD, 5 CLR. -/
  kind : Nat
  slot : Nat
  queue : Nat
  pc : Nat
  /-- Threads of its issue. -/
  threads : Nat
  /-- Value of sa: configuration word, address or scratch offset. -/
  addr : Nat
  /-- Address or scratch offset of the scales. -/
  scale : Nat
  stride : Nat
  /-- First accumulator row, and rows. -/
  base : Nat
  rows : Nat
  ctl : Nat
  started : Bool
  /-- Weight set that it uses, once it has started. -/
  set : Nat
  /-- Rows of a stream that have entered. -/
  entered : Nat
  /-- Load of an MX.LDW that runs. -/
  load : Option Nat
deriving DecidableEq, Repr

/-- A weight set of a matrix array (R167). -/
structure MxSet where
  configured : Bool
  /-- Configuration word of MX.CFG. -/
  cfg : Nat
  /-- Cell registers: key row * 64 + column, 12 bits each; unlisted is zero. -/
  weights : SMap Nat
  /-- Weight scales: key column * 4 + block; unlisted is zero. -/
  scales : SMap Nat
deriving DecidableEq, Repr

/-- A matrix array (chapter 7). -/
structure Mx where
  /-- Block that holds the array. [07 R165; none] -/
  holder : Option Nat
  /-- Active set. [07 R167; 1; 0] -/
  active : Nat
  /-- The two weight sets. [07 R167; 2 x (4096 x 12 bits, 256 bytes, 64 bits); unconfigured, zero] -/
  sets : SMap MxSet
  /-- Accumulator memory: key row * 64 + column, as 32 bits; unlisted is zero. [07 R168; 256 KiB; 0] -/
  acc : SMap Word
  /-- Matrix queue. [07 R171; 16 entries; empty] -/
  queue : List MxOp
  /-- CORE_MX_ROWS. [07 Table 7.14; 64 bits; 0] -/
  rows : Nat
  /-- CORE_MX_HELD. [07 Table 7.15; 64 bits; 0] -/
  held : Nat
  /-- Rows admitted in the present window of 64 steps. [07 R187; 7 bits; DESIGN CHOICE 0 (log 4)] -/
  window : Nat
deriving DecidableEq, Repr

/-- A line of 128 bytes held in a cache: line number (physical address >> 7), data, and its eviction mark. -/
structure Line where
  line : Nat
  data : List Byte
  evictFirst : Bool
deriving DecidableEq, Repr

/-- An entry of a store buffer (R210). -/
structure SbEntry where
  /-- Number of the entry in issue order. -/
  seq : Nat
  queue : Nat
  /-- LAUNCH node whose group stored last. -/
  node : Nat
  /-- Every LAUNCH node whose groups have stored into it. -/
  nodes : List Nat
  /-- Group slots that have stored into it, as a mask. -/
  slots : Nat
  /-- 0 device memory, 1 fabric, 2 host. -/
  target : Nat
  line : Nat
  data : List Byte
  /-- Bit i set when byte i is stored. -/
  mask : Nat
  /-- Order of the last store to each byte. -/
  stamps : SMap Nat
  /-- A released store: entries numbered below this one are performed first (R245). -/
  after : Nat
  /-- Loads and matrix reads that must have returned: those that a release follows (R153, R245), or the same thread's earlier ones of the line (R146). -/
  holdLoads : List Nat
  /-- Virtual page (64 KiB) of the entry's stores, for R231. -/
  vpage : Nat
  /-- The entry has left the buffer and is on its way. -/
  left : Bool
deriving DecidableEq, Repr

/-- One streaming core (chapter 5). -/
structure Core where
  /-- CORE_STATUS.state: 0 ready, 1 gated, 2 changing width, 3 failed. [05 Table 5.9; 3 bits; 0] -/
  state : Nat
  /-- CORE_STATUS.narrow_reason. [05 Table 5.9; 2 bits; 0] -/
  narrow : Nat
  /-- The change under way ends with the core failed. [05 R105; 1; 0] -/
  failing : Bool
  /-- A residue check failed once in this lane half and the instruction is retried. [05 R105; none] -/
  retry : Option Nat
  /-- core_epoch and CORE_EPOCH. [05 Table 5.16; 32 bits; 0] -/
  epoch : Nat
  /-- Resident groups by slot. [05 R102; 64; none] -/
  groups : SMap Group
  /-- Resident blocks. [05 R115; none] -/
  blocks : SMap Block
  /-- CORE_FAULT_INFO, CORE_FAULT_LAYER, CORE_FAULT_PC and CORE_FAULT_ADDR. [05 Tables 5.10, 5.12 to 5.14; 0] -/
  fault : CoreFault
  /-- CORE_ECC_COUNT.rf_corrected. [05 Table 5.15; 32 bits, saturating; 0] -/
  rfCorrected : Nat
  /-- CORE_ECC_COUNT.rcache_parity. [05 Table 5.15; 32 bits, saturating; 0] -/
  rcParity : Nat
  /-- Register cache: entries of the two most recent groups, as slot * 256 + register, newest first. [05 R112; 2 x 16; empty] -/
  rcache : List Nat
  /-- The two most recently issued groups, newest first. [05 R112; empty] -/
  recent : List Nat
  /-- Consecutive steps issued by the newest group. [05 R107; 5 bits; 0] -/
  run : Nat
  /-- Resident groups that have issued, the one that has waited longest since its last issue slot last. [05 R107; empty] -/
  order : List Nat
  /-- Matrix array. [07; see its fields] -/
  mx : Mx
  /-- Store buffer, oldest first. [09 R210; 32 entries; empty] -/
  sb : List SbEntry
  /-- L1 lines, most recently used first. [09 R207; up to 4,096 lines; empty] -/
  l1 : List Line
  /-- Scalar cache lines, most recently used first. [09 R212; 48 lines; empty] -/
  scl : List Line
  /-- Victim cache lines, most recently used first. [09 R212; 8 lines; empty] -/
  victim : List Line
  /-- L2C_SCL_CTRL.invalidated. [09 Table 9.13; 1; 1] -/
  sclInvalidated : Bool
  /-- L2C_SCL_CTRL.enable. [09 Table 9.13; 1; 1] -/
  sclEnable : Bool
  /-- Instruction cache: words by address. [06 R160; 32 KiB; empty] -/
  icache : SMap Nat
  /-- Wait-unit entries in use. [12 R302; 128; 0] -/
  waits : Nat
  /-- scratch_kib in force. [09 R208; 9 bits; 256] -/
  scratchKib : Nat
  /-- A change of scratch_kib waits for the core to be empty. [09 R208; 1; 0] -/
  scratchPending : Bool
deriving DecidableEq, Repr

/-- Who asks at a home. -/
inductive Client
  | load (id : Nat)          -- a core's load
  | store (core seq : Nat)   -- a store-buffer entry
  | atom (id : Nat)          -- an atomic
  | other (n : Nat)          -- an operation of a DMA engine, a newt, the front end or another unit
  | held (id : Nat)          -- a request of the host or the router that the state holds
  | member (key : Nat)       -- a request of another member of the tied group
deriving DecidableEq, Repr

/-- States of a directory entry other than I (Table 9.4). -/
inductive DirState
  | h | d | sh | sd | o
deriving DecidableEq, Repr

/-- A directory entry with its home data (R220). -/
structure Dir where
  state : DirState
  /-- Bits [15:0] replicas in P0 to P15, bits [18:16] copies in tied members. -/
  sharers : Nat
  /-- Read since the last write. -/
  rsw : Bool
  /-- Open transaction: the elapsed time at which it began, and whose it is. -/
  busy : Option (Nat × Client)
  /-- Home slice. -/
  slice : Nat
  /-- Way 0 to 15 of the data, 16 to 19 for an overflow entry. -/
  way : Nat
  /-- Home data, empty in state O. -/
  data : List Byte
  /-- Poisoned granules of the home data, as a mask of 8. -/
  poison : Nat
  /-- Use order: larger is more recent. -/
  used : Nat
deriving DecidableEq, Repr

/-- A copy of a line in a replica slice: a replica (R219), or a copy of another member's line (R230). It takes a data way of its slice. -/
structure LineCopy where
  data : List Byte
  /-- Poisoned granules, as a mask of 8. -/
  poison : Nat
  slice : Nat
  way : Nat
  /-- Use order: larger is more recent. -/
  used : Nat
deriving DecidableEq, Repr

/-- A request that a home has refused with NACK (R228). -/
structure Nacked where
  slice : Nat
  line : Nat
  /-- Number of NACKs so far. -/
  count : Nat
  /-- Steps until its next retry. -/
  interval : Nat
  starving : Bool
  /-- Its place in the slice's queue of starving requests, in the order of arrival. -/
  queued : Option Nat
  who : Client
deriving DecidableEq, Repr

/-- Store-buffer bytes that stood when a load issued. -/
structure Fwd where
  seq : Nat
  key : Nat
  data : List Byte
  mask : Nat
  stamps : SMap Nat
deriving DecidableEq, Repr

/-- One thread's access in a load, a store or an atomic. -/
structure Acc where
  thread : Nat
  /-- Address of the whole access: virtual, or a scratch offset. -/
  va : Nat
  /-- First byte of the access that this piece holds, and how many; an access that crosses a page has two pieces. -/
  off : Nat
  n : Nat
  /-- 0 device memory, 1 fabric, 2 host, 3 scratch. -/
  target : Nat
  /-- Address of the piece in its target. -/
  pa : Nat
deriving DecidableEq, Repr

/-- An outstanding load of a group (R244, R106). -/
structure Load where
  core : Nat
  slot : Nat
  queue : Nat
  /-- Address of the load instruction. -/
  pc : Nat
  /-- Threads of the issue. -/
  threads : Nat
  /-- 0 vector load, 1 scalar load, 2 prefetch, 3 scalar prefetch, 4 matrix operand. -/
  kind : Nat
  dst : Nat
  /-- Bytes of the access. -/
  bytes : Nat
  signed : Bool
  hint : Nat
  /-- An acquire: 0 none, 1 GRP or CORE, 2 CHIP or wider. -/
  acquire : Nat
  accs : List Acc
  /-- Lines received: line key and 128 bytes; key is target * 2^57 + line. -/
  got : SMap (List Byte)
  /-- Lines received in poisoned form, with the mask of poisoned granules. -/
  bad : SMap Nat
  /-- Buffered bytes of the core at its issue (R210). -/
  fwd : List Fwd
  /-- An invalidation met the load: its lines are not installed (R211). -/
  noInstall : Bool
deriving DecidableEq, Repr

/-- An outstanding atomic instruction (R151). -/
structure Atom where
  core : Nat
  slot : Nat
  queue : Nat
  /-- LAUNCH node of the group. -/
  node : Nat
  pc : Nat
  dst : Nat
  discard : Bool
  op : Nat
  bytes : Nat
  far : Bool
  scope : Nat
  accs : List Acc
  /-- Operand and compare value of each thread. -/
  operands : SMap (Nat × Nat)
  /-- Old values returned so far. -/
  olds : SMap Nat
  /-- Threads whose operation is on its way to another chip. -/
  sent : Nat
deriving DecidableEq, Repr

/-- An outstanding barrier or release (R153, R154). -/
structure Bar where
  core : Nat
  slot : Nat
  queue : Nat
  /-- LAUNCH node of the group. -/
  node : Nat
  threads : Nat
  /-- 0 LD, 1 ST, 2 FULL, 3 a release that waits (ST.REL), 4 a SYNC release. -/
  kind : Nat
  scope : Nat
  /-- The store that an ST.REL makes at its completion. -/
  store : Option (List (Acc × List Byte))
  /-- The operation of a SYNC release, and its handle. -/
  sync : Option (SynMsg × Nat)
deriving DecidableEq, Repr

/-- A request of the host or the router that waits at a home, or behind an earlier one of its function (R228, R256): the command that made it. -/
inductive HeldReq
  | hostWrite (fn off : Nat) (data : List Byte) (tag : Option Nat)
  | hostRead (fn off len : Nat) (chk : L2Check)
  | hostAtomic (fn off kind bytes operand compare : Nat) (chk : L2Check)
  | write (fn pa : Nat) (data : List Byte)
  | regWrite (fn off size val : Nat)
  | regRead (fn off size : Nat)
  | doorbell (fn queue value : Nat)
  | fabRead (pkt : Packet) (len : Nat)
  | fabWrite (pkt : Packet)
  | fabAtomic (pkt : Packet)
  | readData (pkt : Packet)
  | fabAck (pkt : Packet)
  | collData (pkt : Packet) (group rank : Nat)
  | collResult (pkt : Packet) (group : Nat)
  | crcFail (pkt : Packet) (len : Nat)
  | atomAns (pkt : Packet)
deriving DecidableEq, Repr

/-- The caches, homes and the accesses on their way (chapters 9 and 10). -/
structure L2 where
  /-- Directory entries with home data, by line. [09 R220; 40,960 per slice; empty] -/
  dir : SMap Dir
  /-- Replicas: key plain * 2^41 + line. [09 R219; empty] -/
  replicas : SMap LineCopy
  /-- Copies that this chip holds of other members' lines: key (replica slice * 4096 + chip) * 2^41 + line. [09 R230; empty] -/
  tied : SMap LineCopy
  /-- Requests refused and waiting to retry. [09 R228; empty] -/
  nacked : List Nacked
  /-- Requests of the host and the router that wait at a home, in the order in which they came, by number. [09 R228, 10 R256; empty] -/
  held : SMap HeldReq
  /-- Within an operation: a line whose home could take no new entry. [09 R227; none between commands] -/
  refused : Option Nat
  /-- Requests of tied members waiting in reserved entries, in the order of arrival: slice, packet, and the bytes that it reads. [09 R229; 4 per member and slice; empty] -/
  reserved : List (Nat × Packet × Nat)
  /-- Counter of uses, for least recently used order. [09 R227; DESIGN CHOICE 0 (log 4)] -/
  clock : Nat
  /-- L2C_STATUS. [09 Table 9.9; 8 bits; 0] -/
  status : Nat
  /-- L2C_INT_EN. [09 Table 9.10; 8 bits; 0x78] -/
  intEn : Nat
  /-- L2C_ERR_LOG. [09 R238; 32 x 64 bits; empty] -/
  log : List Nat
  /-- Records were lost since the last logged L2C record. [09 R238; 1; 0] -/
  lost : Bool
  /-- L2C_PRESSURE.nacks. [09 Table 9.12; 32 bits; 0] -/
  nacks : Nat
  /-- L2C_PRESSURE.set_full. [09 Table 9.12; 32 bits; 0] -/
  setFull : Nat
  /-- L2C_SCL_DISABLED. [09 Table 9.14a; 384 bits; 0] -/
  sclDisabled : Nat
  /-- Slices that have failed. [09 R236; 64 bits; 0] -/
  failed : Nat
  /-- Way retirements in progress: slice * 16 + way. [09 R236; empty] -/
  retiring : List Nat
  /-- Elapsed time at which each of them began. [09 R236; ns; empty] -/
  retireAt : SMap Nat
  /-- Corrected errors of a way within one second: elapsed times. [09 R236; empty] -/
  wayErrors : SMap (List Nat)
  /-- Ways from which a granule was read that is uncorrectable: slice * 16 + way. [09 R236; empty] -/
  wayBad : List Nat
  /-- Lines that an uncorrectable directory error invalidates, while members' acknowledgements are awaited. [09 R235; empty] -/
  dirBad : List Nat
  /-- Plains gated. [09 R233; 16 bits; 0] -/
  gatedPlains : Nat
  /-- The coherent domain is lost: coherent requests are refused. [09 R237; 1; 0] -/
  domainLost : Bool
  /-- Outstanding loads. [10 R244; empty] -/
  loads : SMap Load
  /-- Outstanding atomics. [06 R151; empty] -/
  atoms : SMap Atom
  /-- Outstanding barriers and releases. [06 R154; empty] -/
  bars : SMap Bar
  /-- Reservations of the control cores' LR, held at the homes: context, address and width. [11 R281; 64; none] -/
  resv : SMap (Nat × Nat)
  /-- Number of the next access or store-buffer entry. [the model's own numbering; DESIGN CHOICE 0 (log 4)] -/
  nextId : Nat
deriving DecidableEq, Repr

end Sys2Proof.Machine
end

