-- ==== Sys2Proof/Machine/StateNet.lean ====
section
/-! DEFINITION. Machine/StateNet.lean: the state of the tensor fabric, the optics, the service ports, power and
energy, and the counters and trace (chapters 14 to 17 and 19). -/

namespace Sys2Proof.Machine

/-- A fabric link (chapter 14, Table 14.13). -/
structure Link where
  /-- FAB_LINK_STATE.state: 0 down, 1 training, 2 up, 3 held, 4 disabled. [14 Table 14.13; 3 bits; 0] -/
  state : Nat
  /-- FAB_LINK_STATE.lanes. [14 Table 14.13; 3 bits; 0] -/
  lanes : Nat
  /-- FAB_LINK_STATE.peer_chip. [14 Table 14.13; 16 bits; 0xFFFF] -/
  peer : Nat
  /-- FAB_LINK_STATE.peer_link. [14 Table 14.13; 5 bits; 0] -/
  peerLink : Nat
  /-- FAB_LINK_STATE.port. [14 Table 14.13; 5 bits; 0] -/
  port : Nat
  /-- FAB_LINK_STATE.replays. [14 Table 14.13; 16 bits, saturating; 0] -/
  replays : Nat
  /-- Elapsed time of the last training attempt. [14 R348; ns; none] -/
  attemptAt : Option Nat
  /-- A retraining to fewer lanes runs: the lanes it will have. [14 R349; none] -/
  retrain : Option Nat
  /-- Sequence number of the next flit expected. [14 R347; DESIGN CHOICE 0 (log 4)] -/
  expect : Nat
  /-- A replay has been requested from that number. [14 R347; 1; 0] -/
  replaying : Bool
  /-- fab_tie of the peer, as the last training exchanged it. [14 R348 R370; chip ids; empty] -/
  peerTie : List Nat
  /-- Elapsed time of the last lane drop. [20 R453; ns; DESIGN CHOICE 0 (log 4)] -/
  dropAt : Nat
deriving DecidableEq, Repr

/-- What a remote request serves on this chip. -/
inductive Issuer
  | load (id line : Nat)
  | store (core seq : Nat)
  | atom (id thread : Nat)
  | sync (who : WaiterWho) (isWait : Bool) (scope : Nat)
  | dma (engine off : Nat)
  | mark (node : Nat)
  | plan (ctx : Nat)
  | newt (desc newt off : Nat)
  | coll (group : Nat)
  | code (core slot pc : Nat)      -- an instruction fetch of a core
  | planCode (ctx pc : Nat)        -- an instruction fetch of a control core
  | line (who : FeWho) (block : Nat)   -- a read, or the atomic of a pin, of the front end
  | unpin (id : Nat)
  | cancel (wait : Nat)           -- the cancellation of a wait on another chip's object, by its key in remoteWaits (R157)
  | deadWait                      -- a wait whose context has ended before its registration was reported
  | stale                         -- nothing waits for the answer any more
deriving DecidableEq, Repr

/-- A remote request that has not been answered (R362). -/
structure Req where
  pkt : Packet
  queue : Nat
  issuer : Issuer
  /-- First link of the route it took. -/
  link : Nat
  /-- Intermediate valley of a Valiant route (R360). -/
  via : Option Nat
  sentAt : Nat
deriving DecidableEq, Repr

/-- A stored response (R362): the response and the elapsed time it was made. -/
structure Stored where
  resp : Packet
  since : Nat
deriving DecidableEq, Repr

/-- What every contribution to a collective carries (R366). -/
structure CollHead where
  /-- 0 all-reduce, 1 reduce-scatter, 2 all-gather, 3 broadcast. -/
  kind : Nat
  /-- 0 sum, 1 max, 2 min. -/
  op : Nat
  /-- Format of Table 4.6. -/
  fmt : Nat
  count : Nat
deriving DecidableEq, Repr

/-- A collective operation on this chip (R366): joined by a COLLECT node, or met by contributions that came first. -/
structure Coll where
  /-- The COLLECT node and its queue. -/
  node : Option (Nat × Nat)
  head : CollHead
  root : Nat
  /-- This chip's contribution; an element is a word, and 2^32 marks a poisoned one. -/
  own : List Nat
  /-- Contributions received, key rank * 2^32 + packet, and what each of them carries, by rank. -/
  parts : SMap (List Nat)
  heads : SMap CollHead
  /-- Elements combined here and sent up the tree, once every contribution is there. -/
  up : Option (List Nat)
  /-- Packets of them that have been sent. -/
  sent : Nat
  /-- Elements of the result received, by packet. -/
  result : SMap (List Nat)
deriving DecidableEq, Repr

/-- The fabric (chapter 14). -/
structure Fab where
  /-- Links L0 to L31. [14 R346; 32; see each field] -/
  links : SMap Link
  /-- Chip id in force since the last training. [14 R375; 16 bits; fab_chip_id] -/
  chipId : Nat
  /-- Tied group in force. [14 R370; chip ids; empty] -/
  tie : List Nat
  /-- The list of fab_tie that took effect at the last reset and has not failed its checks. [14 R370; chip ids; empty] -/
  tieCfg : List Nat
  /-- Chips that a route reaches. [14 R357; empty] -/
  reachable : List Nat
  /-- Chips being unreachable: chip and elapsed time since when no route has reached it. [14 R372; empty] -/
  lostSince : SMap Nat
  /-- Chips that have been declared unreachable. [14 R372 R373; empty] -/
  unreachable : List Nat
  /-- Passes that members of this valley advertise: valley and member mask. [14 R357; 256 x 16 bits; empty] -/
  passMap : SMap Nat
  /-- Passes between other valleys, as the LINK_STATE packets tell them: pairs valley * 256 + valley, in both orders. [14 R357 R360; empty] -/
  passes : List Nat
  /-- Chip descriptors of other chips as last read over the fabric: 64 bytes each. [01 R27; empty] -/
  peerUnits : SMap (List Byte)
  /-- Pass occupancy that each member advertised last, by member * 256 + valley. [14 R359; empty] -/
  occupancy : SMap Nat
  /-- Next sequence number to each destination. [14 R362; 32 bits; DESIGN CHOICE 0 (log 4)] -/
  nextSeq : SMap Nat
  /-- Requests not yet answered, by the model's number. [14 R362 R364; up to 16,384; empty] -/
  reqs : SMap Req
  /-- Window of each source: sequence numbers performed, by source * 2^32 + sequence. [14 R362; 65,536 per source; empty] -/
  window : List Nat
  /-- Stored responses, by source * 2^32 + sequence. [14 R362; 100 us; empty] -/
  stored : SMap Stored
  /-- CRC failures of a packet, by type * 2^48 + source * 2^32 + sequence. [14 R353; up to 4; empty] -/
  crcFails : SMap Nat
  /-- Response-class packets that this chip has sent, oldest first. [14 R352 R356 R363; empty] -/
  answers : List Packet
  /-- Collective operations in progress, by group. [14 R366; empty] -/
  colls : SMap Coll
  /-- Operations completed or ended by each group. [14 R366; DESIGN CHOICE 0 (log 4)] -/
  collOps : SMap Nat
  /-- Waits of this chip registered with objects of other chips, by chip * 2^32 + the request's sequence number. [12 R303 R308; empty] -/
  remoteWaits : SMap Waiter
  /-- FAB_STATUS. [14 Table 14.10; 8 bits; 0] -/
  status : Nat
  /-- FAB_INT_EN. [14 Table 14.11; 8 bits; 0xEA] -/
  intEn : Nat
  /-- FAB_ERR_LOG. [14 R374 Table 14.12; 32 x 64 bits; empty] -/
  log : List Nat
  /-- Records were lost since the last logged FAB record. [14 R374; 1; 0] -/
  lost : Bool
deriving DecidableEq, Repr

/-- A laser module (chapter 15). -/
structure Laser where
  /-- laser_state: 0 absent, 1 calibrating, 2 ready, 3 service, 4 failed. [15 Table 15.3; 3 bits; 0] -/
  state : Nat
  /-- laser_epoch. [15 R383; 32 bits, persistent; 0] -/
  epoch : Nat
  /-- Identity of the inserted module. [15 R383; bytes; DESIGN CHOICE empty (log 4)] -/
  inserted : List Byte
  /-- Chip id in the inserted module's bay record. [15 R383; DESIGN CHOICE none (log 4)] -/
  bayChip : Option Nat
  /-- Epoch in the inserted module's bay record. [15 R383; DESIGN CHOICE none (log 4)] -/
  bayEpoch : Option Nat
  /-- laser_service: a write of 1 is pending. [15 R383; 1; 0] -/
  service : Bool
  /-- The module is being drained for service. [15 R382; 1; 0] -/
  draining : Bool
  /-- The module is being drained for recalibration. [15 R389; 1; 0] -/
  recal : Bool
  /-- Weighted lit hours, in thousandths of an hour. [15 R387; persistent; 0] -/
  milliHours : Nat
  /-- laser_telemetry. [15 R387; bytes; DESIGN CHOICE empty (log 4)] -/
  telemetry : List Byte
deriving DecidableEq, Repr

/-- An optical engine (chapter 15). -/
structure Oe where
  /-- 0 ready, 1 retuning, 2 failed. [15 Table 15.10; 3 bits; 0] -/
  state : Nat
  /-- oe_epoch. [15 R388; 32 bits; 0] -/
  epoch : Nat
  /-- Lane group A: 0 home module, 1 standby module, 2 dark. [15 Table 15.10; 2 bits; 0] -/
  groupA : Nat
  /-- Lane group B: 0 home module, 1 standby module, 2 dark. [15 Table 15.10; 2 bits; 0] -/
  groupB : Nat
  /-- A move of group A in progress: elapsed time of its trigger, and the module whose failure caused it. [15 R380; none] -/
  movedA : Option (Nat × Option Nat)
  /-- The same of group B. [15 R380; none] -/
  movedB : Option (Nat × Option Nat)
deriving DecidableEq, Repr

/-- The optics (chapter 15). -/
structure Opt where
  /-- Laser modules LS0 to LS3. [15 R377; 4; see each field] -/
  lasers : SMap Laser
  /-- Optical engines OE0 to OE7. [15 R376; 8; see each field] -/
  engines : SMap Oe
  /-- Planned moves still to make: engine * 2 + group and the module to move to. [15 R380; empty] -/
  moves : List (Nat × Nat)
  /-- Elapsed time of the last planned move. [15 R380; ns; none] -/
  lastMove : Option Nat
  /-- FAB_OPT_STATUS. [15 Table 15.7; 7 bits; 0] -/
  status : Nat
  /-- FAB_OPT_INT_EN. [15 Table 15.8; 7 bits; 0x6E] -/
  intEn : Nat
deriving DecidableEq, Repr

/-- A service port (chapter 16). -/
structure Port where
  /-- SVC_PORT_STATE.state: 0 down, 1 up, 2 disabled. [16 Table 16.6; 2 bits; 0] -/
  state : Nat
  /-- SVC_PORT_STATE.speed. [16 Table 16.6; 12 bits; 0] -/
  speed : Nat
  /-- SVC_PORT_STATE.paused. [16 Table 16.6; 8 bits; 0] -/
  paused : Nat
  /-- Elapsed time at which each priority became paused. [16 R397; ns; empty] -/
  pausedAt : SMap Nat
  /-- Priorities whose outgoing frames are discarded after the watchdog fired. [16 R397; 8 bits; 0] -/
  storm : Nat
  /-- Priorities for which XOFF has been sent. [16 R397; 8 bits; 0] -/
  xoff : Nat
  /-- Bytes of the receive buffer that each priority holds. [16 R397; empty] -/
  fill : SMap Nat
deriving DecidableEq, Repr

/-- A work entry in flight on a QP (R394). -/
structure Work where
  /-- Ring count of the entry. -/
  ring : Nat
  raw : List Byte
  retries : Nat
  sentAt : Nat
deriving DecidableEq, Repr

/-- A queue pair (R393); its svc_qp entry's fields. -/
structure Qp where
  /-- Writable bytes of svc_qp as last written. [16 Table 16.2; 64 bytes; state 0] -/
  raw : List Byte
  /-- 0 reset, 1 ready, 2 error. [16 Table 16.2; 8 bits; 0] -/
  state : Nat
  /-- Write pointer. [16 R393; 32 bits; 0] -/
  write : Nat
  /-- Read pointer. [16 R393; 32 bits; 0] -/
  read : Nat
  /-- Entries in flight, oldest first. [16 R394; empty] -/
  work : List Work
  /-- Rate in units of 1/256 of full rate. [16 R393; DESIGN CHOICE 256 (log 4)] -/
  rate : Nat
  /-- Elapsed time of the last CNP. [16 R393; ns; none] -/
  cnpAt : Option Nat
  /-- Expected packet sequence of the responder. [16 R393; 24 bits; DESIGN CHOICE 0 (log 4)] -/
  epsn : Nat
deriving DecidableEq, Repr

/-- The service ports (chapter 16). -/
structure Svc where
  /-- Ports E0 and E1. [16 R391; 2; see each field] -/
  ports : SMap Port
  /-- Queue pairs, key 64 f + n. [16 R393; 16,384; see each field] -/
  qps : SMap Qp
  /-- The last reply that a port sent (a NAK, a neighbour answer). [16 R392 R395; DESIGN CHOICE empty (log 4)] -/
  reply : List Byte
  /-- SVC_STATUS. [16 Table 16.4; 4 bits; 0] -/
  status : Nat
  /-- SVC_INT_EN. [16 Table 16.5; 4 bits; 0x9] -/
  intEn : Nat
deriving DecidableEq, Repr

/-- Limits of a plain's admission value (Table 17.1); the droop limit follows from `Pwr.droops` and `Pwr.clamp`. The least of them, which CORE_MX_STATUS.admitPkt and PWR_PLAIN_STATE.admitPkt show, is
computed. -/
structure PlainPwr where
  /-- Cap limit. [17 R401; 7 bits; 64] -/
  cap : Nat
  /-- Thermal limit. [17 R406; 7 bits; 64] -/
  thermal : Nat
  /-- Pacing limit. [17 R411; 7 bits; 64] -/
  pacing : Nat
  /-- Ramp limit. [17 R405; 7 bits; 64] -/
  ramp : Nat
  /-- PWR_PLAIN_STATE.droop_count. [17 Table 17.11; 32 bits, saturating; 0] -/
  droopCount : Nat
  /-- PWR_PLAIN_STATE.tj. [17 Table 17.11; 8 bits; 0] -/
  tj : Nat
  /-- Elapsed time since when the thermal condition has been clear. [17 R406; ns; none] -/
  clearSince : Option Nat
deriving DecidableEq, Repr

/-- Power and energy (chapter 17). -/
structure Pwr where
  /-- Plains P0 to P15. [17 R400; 16; see each field] -/
  plains : SMap PlainPwr
  /-- Domains D00 to D18 whose supply has sagged beyond the threshold and has not yet stayed within it for 1 us. [17 R404; 19 bits; 0] -/
  droops : Nat
  /-- Over-current clamp of every plain until the next evaluation. [17 R403; 1; 0] -/
  clamp : Bool
  /-- Module energy of each of the last evaluations, in uJ per ms, newest first. [17 R401; up to 30,000; empty] -/
  history : List Nat
  /-- Consecutive evaluations above the cap. [17 R403; 5 bits; 0] -/
  excursion : Nat
  /-- Evaluations at or below the cap since an excursion ended. [17 R403; ms; DESIGN CHOICE 100 (log 4)] -/
  recovery : Nat
  /-- Milliseconds for which the cap limit has stayed above the floor by more than 8. [17 R402; ms; 0] -/
  aboveFloor : Nat
  /-- Operating points by which the fallback lowered the supply. [17 R402; 2 bits; 0] -/
  lowered : Nat
  /-- PWR_MODULE.last_w. [17 Table 17.9; 16 bits; 0] -/
  lastW : Nat
  /-- PWR_MODULE.window_w. [17 Table 17.9; 16 bits; 0] -/
  windowW : Nat
  /-- PWR_ENERGY. [17 Table 17.10; 64 bits, wrapping; 0] -/
  energy : Nat
  /-- Base dies that allow at most half their request rate. [17 Table 17.3; 20 bits; 0] -/
  dramHalf : Nat
  /-- Base dies whose refresh rate is doubled. [17 Table 17.3, 03 R42; 20 bits; 0] -/
  refresh2 : Nat
  /-- The last shutdown was a thermal trip. [17 R406; 1; 0] -/
  tripped : Bool
  /-- Job records, slot 0 to 255: id, energy, first and last. [17 R409; 256 x 32 bytes; zero] -/
  jobs : SMap (Nat × Nat × Nat × Nat)
  /-- PWR_STATUS bits 7 to 0. [17 Table 17.7; 8 bits; 0] -/
  status : Nat
  /-- PWR_INT_EN. [17 Table 17.8; 8 bits; 0xF4] -/
  intEn : Nat
deriving DecidableEq, Repr

/-- States of a trace buffer (Table 19.14). -/
inductive TrcState
  | disabled | running | post | stopping | stopped | fault
deriving DecidableEq, Repr

/-- A trace buffer (R446 to R448). -/
structure Trc where
  /-- TRC_STATUS.state. [19 Table 19.16; 3 bits; DISABLED] -/
  state : TrcState
  /-- TRC_STATUS.event. [19 Table 19.16; 1; 0] -/
  event : Bool
  /-- TRC_STATUS.bad_ctrl. [19 Table 19.16; 1; 0] -/
  badCtrl : Bool
  /-- TRC_WRITE. [19 Table 19.18; 64 bits; 0] -/
  write : Nat
  /-- TRC_READ. [19 Table 19.19; 64 bits; 0] -/
  read : Nat
  /-- TRC_LOST. [19 Table 19.20; 64 bits; 0] -/
  lost : Nat
  /-- TRC_TRIG. [19 Table 19.21; 64 bits; 0] -/
  trig : Nat
  /-- The trigger has come. [19 R447; 1; 0] -/
  triggered : Bool
  /-- Records written since the trigger, itself included. [19 R447; 32 bits; 0] -/
  postCount : Nat
  /-- Staged records of each source, oldest first. [19 R446; 64 per source; empty] -/
  staged : SMap (List TrcRec)
  /-- Records dropped by each source since its last record, and the GTB time of the first. [19 R446; empty] -/
  dropped : SMap (Nat × Nat)
deriving DecidableEq, Repr

/-- An accumulator of the counter unit (R440): quantities 0 to 6 and the order of its last update. -/
structure Accum where
  layer : Nat
  operator : Nat
  sums : List Nat
  used : Nat
deriving DecidableEq, Repr

/-- Counters and trace of one function (R442). -/
structure CntFn where
  /-- CNT_FN_STATUS.flush_seq. [19 Table 19.10; 16 bits; 0] -/
  flushSeq : Nat
  /-- CNT_FN_STATUS.table_full. [19 Table 19.10; 1; 0] -/
  tableFull : Bool
  /-- CNT_FN_STATUS.table_fault. [19 Table 19.10; 1; 0] -/
  tableFault : Bool
  /-- CNT_FN_STATUS.flushing. [19 Table 19.10; 1; 0] -/
  flushing : Bool
  /-- Accumulators. [19 R440; up to 4,096 per chip; empty] -/
  accums : List Accum
  /-- Accumulators being flushed. [19 R441; empty] -/
  inFlush : List Accum
  /-- A cnt_layer_base write that waits for the flush: its sender and value. [19 R442; none] -/
  baseAfter : Option (Origin × Nat)
  /-- The response frame that such a write over MCTP is due. [19 R442; none] -/
  baseReply : Option Response
  /-- Elapsed time of the last flush. [19 R440; ns; DESIGN CHOICE 0 (log 4)] -/
  lastFlush : Nat
deriving DecidableEq, Repr

/-- Counters and trace (chapter 19). -/
structure Obs where
  /-- CNT_VALUE, by BAR0 offset. [19 Table 19.4; 48 bits each; 0] -/
  values : SMap Nat
  /-- CNT_SEL, by BAR0 offset. [19 Table 19.3; 32 bits each; 0] -/
  sels : SMap Nat
  /-- CNT_CTRL.freeze. [19 Table 19.5; 1; 0] -/
  freeze : Bool
  /-- CNT_STATUS.wrap. [19 Table 19.6; 1; 0] -/
  wrap : Bool
  /-- CNT_Q, key queue * 8 + i. [19 Table 19.8; 64 bits each; 0] -/
  queueCnt : SMap Nat
  /-- Layer tables of the functions. [19 R440; 256; see each field] -/
  fns : SMap CntFn
  /-- Trace buffers 0 to 15. [19 R446; 16; see each field] -/
  bufs : SMap Trc
  /-- Updates of accumulators so far. [19 R440; DESIGN CHOICE 0 (log 4)] -/
  updates : Nat
deriving DecidableEq, Repr

end Sys2Proof.Machine
end

