-- ==== Sys2Proof/Machine/State.lean ====
section
/-! DEFINITION. Machine/State.lean: the whole state of the M20, the reasons a step can stop, and the state after
reset. The parts are in StateBase, StateHost, StateMem, StateCore and StateNet. -/

namespace Sys2Proof.Machine

/-- Why a step stops with a fault. -/
inductive Fault
  /-- Raised by BASE_DIE_READ and BASE_DIE_WRITE for an address outside device memory, which does not exist (R44). Safe. -/
  | noSuchAddress
deriving DecidableEq, Repr

/-- Why a step is refused. -/
inductive Refusal
  /-- Raised by an arm of exec whose command has no meaning yet. Safe. -/
  | notModelled (mnemonic : String)
deriving DecidableEq, Repr

/-- The state of the M20 and the queue of commands that wait. -/
structure State where
  sup : Supply
  time : TimeSt
  mgt : Mgt
  bar0 : Bar0
  hif : Hif
  fe : FrontEnd
  syn : Syn
  stk : Stk
  nwt : Nwt
  /-- Streaming cores 0 to 383. -/
  cores : SMap Core
  l2 : L2
  fab : Fab
  opt : Opt
  svc : Svc
  pwr : Pwr
  obs : Obs
  /-- Device memory: bytes that differ from zero, addresses strictly rising. [03 R44 R57; 2,061,584,302,080 bytes; zero] -/
  mem : List Host.Cell
  /-- Poisoned granules of device memory, by granule number, strictly rising. [03 R47; one mark per granule; none] -/
  poison : List Nat
  /-- How many free values have been used: the model's own field. [DESIGN CHOICE 0 (log 1)] -/
  free : Nat
  /-- Commands that wait, first in first out. [the model's own field; empty] -/
  pending : List Instr
deriving DecidableEq, Repr

/-- A function that does not exist, or one right after its reset: gate DISABLED (R488). -/
def FnSt.initial : FnSt :=
  { gate := .disabled, slabsChanged := false, disableBegun := false, atsEnabled := false, invAddr := 0
    invRejected := false, invBusy := false, busMaster := false, atomicReq := false, msixEnable := false
    fnMask := false, d3hot := false, reset := none, pointReached := false, disableAt := 0
    invWaits := [], synArg := 0, synResult := 0, synStatus := 0 }

/-- An MSI-X vector at reset. -/
def Vector.initial : Vector :=
  { addr := 0, data := 0, masked := true, pending := false, due := false, sent := 0, lastAt := none }

/-- A partition at reset. -/
def PartSt.initial : PartSt :=
  { slabs := [], epoch := 0, holder := none, turnAt := 0, turnEnding := false, redirects := [] }

/-- A queue at reset: DISABLED, pointers 0 (Table 21.3). -/
def Queue.initial : Queue :=
  { state := .disabled, write := 0, read := 0, fetch := 0, killCode := 0, badCtrl := false, badDoorbell := false
    preemptRefused := false, suppressed := 0, timerOn := false, timerAt := 0, timerLimit := 0, faultValid := false
    faultNode := 0, faultDepth := 0, faultRing := 0, saveNeed := 0, tagOperator := 0, tagLayer := 0
    resumePending := false, killWrite := 0, killInFlight := false, settled := false, faultPage := none, faultPoint := none, savedBlocks := []
    savedPlans := [], savedNone := false, saveUsed := 0, slicePreempt := false }

/-- A mailbox at reset. -/
def Mailbox.initial : Mailbox :=
  { buf := [], reqLen := 0, rspLen := 0, busy := false, done := false, overrun := false, status := 0
    irqEnable := false, vector := 0, delayed := false }

/-- A sensor at reset: normal. -/
def Sensor.initial : Sensor :=
  { state := 0, pastWarn := 0, pastCrit := 0, inWarn := none, inCrit := none, failingSince := none }

/-- A weight set at reset: unconfigured (R166). -/
def MxSet.initial : MxSet := { configured := false, cfg := 0, weights := [], scales := [] }

/-- A matrix array at reset (R166, Table 7.13). -/
def Mx.initial : Mx :=
  { holder := none, active := 0, sets := [], acc := [], queue := [], rows := 0, held := 0, window := 0 }

/-- An empty fault record (Tables 5.10 to 5.14). -/
def CoreFault.initial : CoreFault :=
  { valid := false, suppressed := 0, queue := 0, slot := 0, thread := 0, operator := 0, code := 0, layer := 0
    pc := 0, addr := 0 }

/-- A core at reset: ready, empty, its scalar cache invalidated and enabled (R214, Table 21.3). -/
def Core.initial : Core :=
  { state := 0, narrow := 0, retry := none, epoch := 0, groups := [], blocks := [], fault := CoreFault.initial
    failing := false, rfCorrected := 0, rcParity := 0, rcache := [], recent := [], run := 0, order := [], mx := Mx.initial, sb := [], l1 := []
    scl := [], victim := [], sclInvalidated := true, sclEnable := true, icache := [], waits := 0
    scratchKib := 256, scratchPending := false }

/-- A fabric link at reset: down (Table 14.13). -/
def Link.initial : Link :=
  { state := 0, lanes := 0, peer := 0xFFFF, peerLink := 0, port := 0, replays := 0, attemptAt := none
    retrain := none, expect := 0, replaying := false, peerTie := [], dropAt := 0 }

/-- An empty laser bay. -/
def Laser.initial : Laser :=
  { state := 0, epoch := 0, inserted := [], bayChip := none, bayEpoch := none, service := false, draining := false
    recal := false, milliHours := 0, telemetry := [] }

/-- An optical engine at reset: ready, both lane groups on their home module. -/
def Oe.initial : Oe := { state := 0, epoch := 0, groupA := 0, groupB := 0, movedA := none, movedB := none }

/-- A service port at reset: down. -/
def Port.initial : Port :=
  { state := 0, speed := 0, paused := 0, pausedAt := [], storm := 0, xoff := 0, fill := [] }

/-- A queue pair at reset (Table 16.2). -/
def Qp.initial : Qp :=
  { raw := zeroBytes 64, state := 0, write := 0, read := 0, work := [], rate := 256, cnpAt := none, epsn := 0 }

/-- The limits of a plain at reset: nothing limits it (Table 17.1). -/
def PlainPwr.initial : PlainPwr :=
  { cap := 64, thermal := 64, pacing := 64, ramp := 64, droopCount := 0, tj := 0, clearSince := none }

/-- A trace buffer at reset: DISABLED. -/
def Trc.initial : Trc :=
  { state := .disabled, event := false, badCtrl := false, write := 0, read := 0, lost := 0, trig := 0
    triggered := false, postCount := 0, staged := [], dropped := [] }

/-- Counters and trace of a function at reset. -/
def CntFn.initial : CntFn :=
  { flushSeq := 0, tableFull := false, tableFault := false, flushing := false, accums := [], inFlush := []
    baseAfter := none, baseReply := none, lastFlush := 0 }

/-- A replica at reset. -/
def Replica.initial : Replica := { count := 0, stopped := false, holding := false }

/-- The supplies of a device that is ready after its first power-on (log entry 2). -/
def Supply.ready : Supply :=
  { auxValid := true, mainValid := true, kind := 0, phase := .ready, perst := false, coldHeld := false, origin := 0
    d19Reset := false, mainPg := true, thermTrip := false, mgtLive := true, bothSlotsFailed := false
    chipFailed := false, tiedAbsent := false, epoch := 1, devResetRunning := false
    rrsAnswered := false }

/-- The time base at power-on (R34, Table 2.5). -/
def TimeSt.initial : TimeSt :=
  { mono := 0, ref := 0, gtb := 0, replicas := List.replicate 45 Replica.initial, role := 0, resyncEvent := false
    stepped := false, holdover := false, ptpLocked := false, fabricLocked := false, lockedOnce := false, ptpLockedOnce := false
    holdoverAt := 0, domainResync := 0, offset := 0, slew := 0, master := none, steppedSinceLog := false, sent := []
    lastSend := [], rampTarget := none, resyncFlag := 0, resyncDone := [], steppedFlag := false, steppedDone := [] }

/-- A record as the first power-on made it, with nothing but its type, number and bytes. -/
def LogRec.firstPower (type seq : Nat) (boot : Nat) : LogRec :=
  { type := type, iface := 0, fn := 0xFF, seq := seq, time := 0, index := 0, sub := 0, flags := 0, target := 0xFFFF
    valueLen := 0, old := zeroBytes 16, new := zeroBytes 16, boot := boot }

/-- Management with every entry at its default and nothing in progress, after the first power-on: its type 0x0002 record (reset type 0, code 0) and its type 0x0009 record
(slot 0, reason 0) stand in the log (R468, R487; log entry 2). -/
def Mgt.initial : Mgt :=
  { num := [(E.bootCount * 256, 1)], blob := [], log := [LogRec.firstPower 2 0 0, LogRec.firstPower 9 1 1], nextSeq := 2, asm := [], mbox := []
    sensors := [], upState := .idle, upResult := 0, upOwner := none
    slotA := { image := [], empty := false, version := Config.factoryVersion % 2 ^ 32, security := 0, revoke := 0 }
    slotB := { image := [], empty := true, version := 0, security := 0, revoke := 0 }
    running := 0, trialNext := none, trialRunning := false, lastFrame := none, answer := 0, toCopy := [], alerts := [], eid := 0
    ctrlResp := [], inFlight := [], status := 0, intEn := 0x1C }

/-- The host interface: F0 OPEN, no virtual functions, BAR2 of 64 GiB (R488, Table 13.1). -/
def Hif.initial : Hif :=
  { fns := [(0, { FnSt.initial with gate := .opened })], vecs := [], parts := [], tcache := [], atsCache := [], atsInvs := [], atsAnswered := 0
    zeroing := [], fnEvent := 0, errStatus := 0, errIntEn := 0x3B, vfEnable := false, numVfs := 0, vfMse := false
    bar2Log := 36, vfBar2Log := 31, linkUp := true, drs := 0, cpl := none, hostMem := [], certs := [], doeResp := [] }

/-- The front end with every queue DISABLED. -/
def FrontEnd.initial : FrontEnd :=
  { queues := [], nodes := [], graphs := [], launches := [], copies := [], plans := [], handles := [], engines := [], got := [], unpins := [], nextNode := 0
    nextGraph := 0, served := [], rounds := [] }

/-- The sync unit with every object free. -/
def Syn.initial : Syn := { objs := [], inbound := [], outbound := [], registering := [], retrying := [] }

/-- The stacks with nothing retired. -/
def Stk.initial : Stk :=
  { pinGroups := [], stackFailed := 0, hold := [], holdAt := [], ceEvents := [], linkEvents := [], rereads := [], rowEvents := []
    spared := [], sparing := [], writebacks := [], patrol := 0, passCount := 0, rowZeroing := [], errStatus := 0
    intEn := 0xFC, log := [], lost := false, replays := [], rdata := zeroBytes 16, rpoison := false }

/-- The newts with empty queues. -/
def Nwt.initial : Nwt :=
  { queues := [], waiting := [], credits := [], descs := [], nextDesc := 0, failed := [], gated := [], emptySince := [], lastFrom := [], tlb := []
    filter := [], status := 0, intEn := 0x1E, log := [], lost := false }

/-- The caches and directories, empty. -/
def L2.initial : L2 :=
  { dir := [], replicas := [], tied := [], nacked := [], held := [], refused := none, wayBad := [], dirBad := [], reserved := [], clock := 0, status := 0, intEn := 0x78
    log := [], lost := false, nacks := 0, setFull := 0, sclDisabled := 0, failed := 0, retiring := [], retireAt := [], wayErrors := []
    gatedPlains := 0, domainLost := false, loads := [], atoms := [], bars := [], resv := [], nextId := 0 }

/-- The fabric with every link down and the default chip id. -/
def Fab.initial : Fab :=
  { links := [], chipId := 0xFFFF, tie := [], tieCfg := [], reachable := [], lostSince := [], unreachable := [], passMap := [], passes := [], peerUnits := [], occupancy := []
    nextSeq := [], reqs := [], window := [], stored := [], crcFails := [], answers := [], colls := [], collOps := []
    remoteWaits := [], status := 0, intEn := 0xEA, log := [], lost := false }

/-- The optics with every bay empty and every engine ready. -/
def Opt.initial : Opt := { lasers := [], engines := [], moves := [], lastMove := none, status := 0, intEn := 0x6E }

/-- The service ports, down. -/
def Svc.initial : Svc := { ports := [], qps := [], reply := [], status := 0, intEn := 0x9 }

/-- Power with no limit acting. -/
def Pwr.initial : Pwr :=
  { plains := [], droops := 0, clamp := false, history := [], excursion := 0, recovery := 100, aboveFloor := 0, lowered := 0, lastW := 0
    windowW := 0, energy := 0, dramHalf := 0, refresh2 := 0, tripped := false, jobs := [], status := 0, intEn := 0xF4 }

/-- Counters at 0 and every trace buffer DISABLED. -/
def Obs.initial : Obs :=
  { values := [], sels := [], freeze := false, wrap := false, queueCnt := [], fns := [], bufs := [], updates := 0 }

/-- The machine right after reset: ready after its first power-on, every entry at its default, every granule zero,
caches and directories empty, every sync object free and every queue DISABLED (Tables 21.1 and 21.3; log entry 2). -/
def State.reset : State :=
  { sup := Supply.ready, time := TimeSt.initial, mgt := Mgt.initial, bar0 := { held := [], captured := [], rdata := 0 }
    hif := Hif.initial, fe := FrontEnd.initial, syn := Syn.initial, stk := Stk.initial, nwt := Nwt.initial, cores := []
    l2 := L2.initial, fab := Fab.initial, opt := Opt.initial, svc := Svc.initial, pwr := Pwr.initial
    obs := Obs.initial, mem := [], poison := [], free := 0, pending := [] }

/-! Lookups with the defaults. -/

/-- A function. -/
def State.fn (s : State) (f : Nat) : FnSt := s.hif.fns.getD f FnSt.initial
/-- Change a function. -/
def State.modFn (s : State) (f : Nat) (g : FnSt → FnSt) : State :=
  { s with hif.fns := s.hif.fns.modify f FnSt.initial g }
/-- A queue by its global id. -/
def State.q (s : State) (q : Nat) : Queue := s.fe.queues.getD q Queue.initial
/-- Change a queue. -/
def State.modQ (s : State) (q : Nat) (g : Queue → Queue) : State :=
  { s with fe.queues := s.fe.queues.modify q Queue.initial g }
/-- A partition. -/
def State.part (s : State) (p : Nat) : PartSt := s.hif.parts.getD p PartSt.initial
/-- Change a partition. -/
def State.modPart (s : State) (p : Nat) (g : PartSt → PartSt) : State :=
  { s with hif.parts := s.hif.parts.modify p PartSt.initial g }
/-- A core. -/
def State.core (s : State) (c : Nat) : Core := s.cores.getD c Core.initial
/-- Change a core. -/
def State.modCore (s : State) (c : Nat) (g : Core → Core) : State :=
  { s with cores := s.cores.modify c Core.initial g }
/-- An MSI-X vector. -/
def State.vec (s : State) (f v : Nat) : Vector := s.hif.vecs.getD (f * 64 + v) Vector.initial
/-- Change an MSI-X vector. -/
def State.modVec (s : State) (f v : Nat) (g : Vector → Vector) : State :=
  { s with hif.vecs := s.hif.vecs.modify (f * 64 + v) Vector.initial g }
/-- A mailbox. -/
def State.mbox (s : State) (f : Nat) : Mailbox := s.mgt.mbox.getD f Mailbox.initial
/-- Change a mailbox. -/
def State.modMbox (s : State) (f : Nat) (g : Mailbox → Mailbox) : State :=
  { s with mgt.mbox := s.mgt.mbox.modify f Mailbox.initial g }
/-- A fabric link. -/
def State.link (s : State) (l : Nat) : Link := s.fab.links.getD l Link.initial
/-- Change a fabric link. -/
def State.modLink (s : State) (l : Nat) (g : Link → Link) : State :=
  { s with fab.links := s.fab.links.modify l Link.initial g }
/-- A laser module bay. -/
def State.laser (s : State) (l : Nat) : Laser := s.opt.lasers.getD l Laser.initial
/-- Change a laser module bay. -/
def State.modLaser (s : State) (l : Nat) (g : Laser → Laser) : State :=
  { s with opt.lasers := s.opt.lasers.modify l Laser.initial g }
/-- An optical engine. -/
def State.oe (s : State) (e : Nat) : Oe := s.opt.engines.getD e Oe.initial
/-- Change an optical engine. -/
def State.modOe (s : State) (e : Nat) (g : Oe → Oe) : State :=
  { s with opt.engines := s.opt.engines.modify e Oe.initial g }
/-- A service port. -/
def State.port (s : State) (p : Nat) : Port := s.svc.ports.getD p Port.initial
/-- Change a service port. -/
def State.modPort (s : State) (p : Nat) (g : Port → Port) : State :=
  { s with svc.ports := s.svc.ports.modify p Port.initial g }
/-- A queue pair. -/
def State.qp (s : State) (f n : Nat) : Qp := s.svc.qps.getD (64 * f + n) Qp.initial
/-- Change a queue pair. -/
def State.modQp (s : State) (f n : Nat) (g : Qp → Qp) : State :=
  { s with svc.qps := s.svc.qps.modify (64 * f + n) Qp.initial g }
/-- Power state of a plain. -/
def State.plain (s : State) (p : Nat) : PlainPwr := s.pwr.plains.getD p PlainPwr.initial
/-- Change the power state of a plain. -/
def State.modPlain (s : State) (p : Nat) (g : PlainPwr → PlainPwr) : State :=
  { s with pwr.plains := s.pwr.plains.modify p PlainPwr.initial g }
/-- A trace buffer. -/
def State.trc (s : State) (b : Nat) : Trc := s.obs.bufs.getD b Trc.initial
/-- Change a trace buffer. -/
def State.modTrc (s : State) (b : Nat) (g : Trc → Trc) : State :=
  { s with obs.bufs := s.obs.bufs.modify b Trc.initial g }
/-- Counter state of a function. -/
def State.cntFn (s : State) (f : Nat) : CntFn := s.obs.fns.getD f CntFn.initial
/-- Change the counter state of a function. -/
def State.modCntFn (s : State) (f : Nat) (g : CntFn → CntFn) : State :=
  { s with obs.fns := s.obs.fns.modify f CntFn.initial g }
/-- A module sensor. -/
def State.sensor (s : State) (n : Nat) : Sensor := s.mgt.sensors.getD n Sensor.initial

end Sys2Proof.Machine
end

