-- ==== Sys2Proof/Machine/Ops.lean ====
section
/-! DEFINITION. Machine/Ops.lean: the operations that every family shares: entry values, device memory at the banks with
poison and failed channels, free values, the persistent log, status bits with their interrupts, the four error logs, the
fault counts, and the passing of a nanosecond. -/

namespace Sys2Proof.Machine

/-! Entry values. -/

/-- The value of a numeric entry for a target (0 for device scope). -/
def State.num (s : State) (a : Nat) (target : Nat := 0) : Nat := s.mgt.num.getD (a * 256 + target) (entryDefault a target)

/-- Set a numeric entry; a value equal to the default is not listed. -/
def State.setNum (s : State) (a v : Nat) (target : Nat := 0) : State :=
  if v = entryDefault a target then { s with mgt.num := s.mgt.num.del (a * 256 + target) }
  else { s with mgt.num := s.mgt.num.put (a * 256 + target) v }

/-- Add to a numeric entry, wrapping at its width. -/
def State.addNum (s : State) (a width : Nat) (k : Nat := 1) (target : Nat := 0) : State :=
  s.setNum a ((s.num a target + k) % 2 ^ width) target

/-- A stored STRING or BLOB. -/
def State.blob (s : State) (a : Nat) (target : Nat := 0) : List Byte := s.mgt.blob.getD (a * 256 + target) []

/-- Set a STRING or BLOB. -/
def State.setBlob (s : State) (a : Nat) (v : List Byte) (target : Nat := 0) : State :=
  { s with mgt.blob := s.mgt.blob.put (a * 256 + target) v }

/-! Free values. -/

/-- The next free value below `2 ^ w`, and the state that has used it (log entry 1). -/
def State.freeVal (s : State) (w : Nat) : Nat × State := (Config.freeValue s.free % 2 ^ w, { s with free := s.free + 1 })

/-! Functions, partitions and queues. -/

/-- Does a function exist (R316)? -/
def State.fnExists (s : State) (f : Nat) : Bool :=
  decide (f = 0) || (decide (f < 256) && s.hif.vfEnable && decide (f ≤ s.hif.numVfs))

/-- The partition that a function is bound to (R330). -/
def State.fnPart (s : State) (f : Nat) : Nat := s.num (E.fnPartition + f)

/-- The function of a queue (Table 0.3). -/
def fnOfQueue (q : Nat) : Nat := q / 16

/-- Functions bound to a partition that exist. -/
def State.boundFns (s : State) (p : Nat) : List Nat :=
  (List.range 256).filter (fun f => s.fnExists f && decide (s.fnPart f = p))

/-- A partition's quarter-plains as slice numbers, ascending (R327). -/
def State.qmask (s : State) (p : Nat) : Nat := s.num (E.partitionQmask + p)

/-- The L2 slices of a partition, ascending (R217, R327). -/
def State.slicesOf (s : State) (p : Nat) : List Nat := bitList 64 (s.qmask p)

/-- The cores of quarter-plain k (R327). -/
def coresOfQuarter (k : Nat) : List Nat := rangeFrom (24 * (k / 4) + 6 * (k % 4)) 6

/-- The quarter-plain of a core. -/
def quarterOfCore (c : Nat) : Nat := 4 * (c / 24) + c % 24 / 6

/-- The cores of a partition. -/
def State.coresOf (s : State) (p : Nat) : List Nat := (s.slicesOf p).flatMap coresOfQuarter

/-- The partition that holds a quarter-plain. -/
def State.partOfQuarter (s : State) (k : Nat) : Option Nat := (List.range 64).find? (fun p => bit (s.qmask p) k)

/-- The partition that holds a core. -/
def State.partOfCore (s : State) (c : Nat) : Option Nat := s.partOfQuarter (quarterOfCore c)

/-! Status bits and their interrupts (Table 13.7, R334). -/

/-- An event falls due on a vector of a function (R335). A function whose gate lets no message out loses it:
DISABLED sends none and RESETTING drops it (Table 13.8). -/
def State.signal (s : State) (f v : Nat) : State :=
  if (s.fn f).gate = .opened ∨ (s.fn f).gate = .draining then s.modVec f v (fun x => { x with due := true }) else s

/-- Set bit n of STK_ERR_STATUS; an enabled bit signals F0 vector 0 (R64). -/
def State.raiseStk (s : State) (n : Nat) : State :=
  let s1 := { s with stk.errStatus := setBit s.stk.errStatus n }
  if bit s.stk.intEn n then s1.signal 0 0 else s1
/-- Set bit n of NWT_STATUS; an enabled bit signals F0 vector 1 (R100). -/
def State.raiseNwt (s : State) (n : Nat) : State :=
  let s1 := { s with nwt.status := setBit s.nwt.status n }
  if bit s.nwt.intEn n then s1.signal 0 1 else s1
/-- Set bit n of L2C_STATUS; an enabled bit signals F0 vector 0 (R238). -/
def State.raiseL2 (s : State) (n : Nat) : State :=
  let s1 := { s with l2.status := setBit s.l2.status n }
  if bit s.l2.intEn n then s1.signal 0 0 else s1
/-- Set bit n of FAB_STATUS; an enabled bit signals F0 vector 2 (Table 14.11). -/
def State.raiseFab (s : State) (n : Nat) : State :=
  let s1 := { s with fab.status := setBit s.fab.status n }
  if bit s.fab.intEn n then s1.signal 0 2 else s1
/-- Set bit n of FAB_OPT_STATUS; an enabled bit signals F0 vector 2 (Table 15.8). -/
def State.raiseOpt (s : State) (n : Nat) : State :=
  let s1 := { s with opt.status := setBit s.opt.status n }
  if bit s.opt.intEn n then s1.signal 0 2 else s1
/-- Set bit n of SVC_STATUS; an enabled bit signals F0 vector 2 (Table 16.5). -/
def State.raiseSvc (s : State) (n : Nat) : State :=
  let s1 := { s with svc.status := setBit s.svc.status n }
  if bit s.svc.intEn n then s1.signal 0 2 else s1
/-- Set bit n of PWR_STATUS; an enabled bit signals F0 vector 3 (Table 17.8). -/
def State.raisePwr (s : State) (n : Nat) : State :=
  let s1 := { s with pwr.status := setBit s.pwr.status n }
  if bit s.pwr.intEn n then s1.signal 0 3 else s1
/-- Set bit n of MGT_STATUS; an enabled bit signals F0 vector 4 (Table 18.16). -/
def State.raiseMgt (s : State) (n : Nat) : State :=
  let s1 := { s with mgt.status := setBit s.mgt.status n }
  if bit s.mgt.intEn n then s1.signal 0 4 else s1
/-- Set bit n of HIF_ERR_STATUS; an enabled bit signals F0 vector 6 (Table 13.19). -/
def State.raiseHif (s : State) (n : Nat) : State :=
  let s1 := { s with hif.errStatus := setBit s.hif.errStatus n }
  if bit s.hif.errIntEn n then s1.signal 0 6 else s1

/-- The vector of a function's own device events: vector 0, or vector 5 for F0 (Table 13.7). -/
def fnEventVector (f : Nat) : Nat := if f = 0 then 5 else 0

/-! The persistent log (R425). -/

/-- A value as it stands in a log record: 16 bytes, or its first 12 and the CRC-32C of the whole (Table 18.8). -/
def logValue (v : List Byte) : List Byte :=
  if v.length ≤ 16 then v ++ zeroBytes (16 - v.length) else v.take 12 ++ leBytes 4 (crc32c v)

/-- Capacity of the log ring (R425). -/
def logCapacity : Nat := 1048576

/-- Append a record (R425): sequence and time given by the log, the oldest record overwritten when the ring is full, and an
alert sent where log_alert_mask and mgt_alert_eid ask for it (R429). -/
def State.appendLog (s : State) (type iface fn index sub target : Nat) (old new : List Byte) : State :=
  let r : LogRec :=
    { type := type, iface := iface, fn := fn, seq := s.mgt.nextSeq, time := s.time.gtb, index := index, sub := sub
      flags := b2n s.time.steppedSinceLog + 2 * b2n (decide (16 < old.length) || decide (16 < new.length)) +
        4 * (new.length / 65536 % 32)
      target := target, valueLen := new.length % 65536, old := logValue old, new := logValue new
      boot := s.num E.bootCount }
  let full := decide (logCapacity ≤ s.mgt.log.length)
  let kept := if full then s.mgt.log.drop 1 else s.mgt.log
  let eid := s.num E.mgtAlertEid
  let alert := decide (type < 32) && bit (s.num E.logAlertMask) type && !decide (eid = 0)
  let s1 := { s with
    mgt.log := kept ++ [r], mgt.nextSeq := (s.mgt.nextSeq + 1) % 2 ^ 32
    mgt.alerts := if alert then s.mgt.alerts ++ [(eid, s.mgt.nextSeq)] else s.mgt.alerts
    time.steppedSinceLog := false }
  if full then s1.raiseMgt 1 else s1

/-- Append a record that the device itself makes. -/
def State.logInternal (s : State) (type : Nat) (old new : List Byte) : State := s.appendLog type 0 0xFF 0 0 0xFFFF old new

/-- Append a type 0x0002 record of a reset: its type and code (Table 18.9, R468). -/
def State.logReset (s : State) (type code : Nat) : State := s.logInternal 2 (leBytes 1 type ++ leBytes 1 code) []

/-! The four error logs (R63, R100, R238, R374). -/

/-- Put a record into a log of 32 records, or drop it when the log is full. -/
def pushLog (log : List Nat) (rec : Nat) : List Nat := if log.length < 32 then log ++ [rec] else log

/-- A record of STK_ERR_LOG enters (R63); `rec` has overflow clear. -/
def State.pushStk (s : State) (rec : Nat) : State :=
  let r := if s.stk.lost then setBit rec 0 else rec
  let s1 := { s with mgt.toCopy := s.mgt.toCopy ++ [r] }
  if s.stk.log.length < 32 then { s1 with stk.log := s.stk.log ++ [r], stk.lost := false }
  else State.raiseStk { s1 with stk.lost := true } 6
/-- A record of NWT_FAULT_LOG enters (R100). -/
def State.pushNwt (s : State) (rec : Nat) : State :=
  let r := if s.nwt.lost then setBit rec 62 else rec
  let s1 := { s with mgt.toCopy := s.mgt.toCopy ++ [r] }
  if s.nwt.log.length < 32 then State.raiseNwt { s1 with nwt.log := s.nwt.log ++ [r], nwt.lost := false } 1
  else State.raiseNwt { s1 with nwt.lost := true } 2
/-- A record of L2C_ERR_LOG enters (R238). -/
def State.pushL2 (s : State) (rec : Nat) : State :=
  let r := if s.l2.lost then setBit rec 62 else rec
  let s1 := { s with mgt.toCopy := s.mgt.toCopy ++ [r] }
  if s.l2.log.length < 32 then { s1 with l2.log := s.l2.log ++ [r], l2.lost := false }
  else State.raiseL2 { s1 with l2.lost := true } 5
/-- A record of FAB_ERR_LOG enters (R374). -/
def State.pushFab (s : State) (rec : Nat) : State :=
  let r := if s.fab.lost then setBit rec 62 else rec
  let s1 := { s with mgt.toCopy := s.mgt.toCopy ++ [r] }
  if s.fab.log.length < 32 then { s1 with fab.log := s.fab.log ++ [r], fab.lost := false }
  else State.raiseFab { s1 with fab.lost := true } 6

/-- An STK_ERR_LOG record (Table 3.9). -/
def stkRec (type pos channel stack granule : Nat) : Nat :=
  2 ^ 63 + type * 2 ^ 60 + pos * 2 ^ 55 + channel * 2 ^ 50 + stack * 2 ^ 45 + granule % 2 ^ 44 * 2

/-- An L2C_ERR_LOG record (Table 9.11). -/
def l2Rec (type slice way line : Nat) : Nat :=
  2 ^ 63 + type * 2 ^ 59 + slice * 2 ^ 53 + way * 2 ^ 48 + line % 2 ^ 41

/-! Fault counts (R458, R459). -/

/-- Count a fault of a class and replace last_fault (Table 20.6). -/
def State.faultRecord (s : State) (cls unit detail interruption contexts epoch : Nat) : State :=
  let covered := decide (cls < 16)
  let s1 := s.addNum (E.faultClassCount + cls - 1) 32
  let s2 := s1.addNum (if covered then E.faultsCovered else E.faultsUncovered) 64
  let s3 := if covered && decide (s2.num E.interruptionMax < interruption) then
      s2.setNum E.interruptionMax (interruption % 2 ^ 32) else s2
  s3.setBlob E.lastFault
    (leBytes 1 cls ++ leBytes 1 (b2n covered) ++ leBytes 2 unit ++ leBytes 4 detail ++ leBytes 8 s.time.gtb ++
      leBytes 4 (if covered then interruption else 0xFFFFFFFF) ++ leBytes 4 contexts ++ leBytes 4 epoch ++ leBytes 4 0)

/-- An item of an older epoch is discarded (R461). -/
def State.discardStale (s : State) : State := s.addNum E.staleDiscarded 64

/-! Device memory as bytes (R44, R57): the canonical list. -/

/-- A byte; an unlisted one reads zero (R57). -/
def cellGet : List Host.Cell → Nat → Byte
  | [], _ => 0#8
  | (b, w) :: t, a => if b = a then w else cellGet t a

/-- The list with one byte set, kept canonical. -/
def cellPut : List Host.Cell → Nat → Byte → List Host.Cell
  | [], a, v => if v = 0#8 then [] else [(a, v)]
  | (b, w) :: t, a, v =>
    if a < b then (if v = 0#8 then (b, w) :: t else (a, v) :: (b, w) :: t)
    else if a = b then (if v = 0#8 then t else (a, v) :: t)
    else (b, w) :: cellPut t a v

/-- The `n` bytes from an address. -/
def cellBytes (m : List Host.Cell) (a : Nat) : Nat → List Byte
  | 0 => []
  | n + 1 => cellGet m a :: cellBytes m (a + 1) n

/-- Write bytes from an address. -/
def cellWrite (m : List Host.Cell) (a : Nat) : List Byte → List Host.Cell
  | [] => m
  | b :: t => cellWrite (cellPut m a b) (a + 1) t

/-- Zero a range of addresses. -/
def cellZero (m : List Host.Cell) (a n : Nat) : List Host.Cell :=
  m.filter (fun c => !(decide (a ≤ c.1) && decide (c.1 < a + n)))

/-- Bytes of device memory (R58). -/
def memSize : Nat := 0x01E000000000

/-! The address map (R58 to R61). -/

/-- Stack, channel, and channel address of a device physical address. -/
def State.mapAddr (s : State) (pa : Nat) : Nat × Nat × Nat :=
  let f := pa / 0xA00000000
  if s.stk.rowZeroing.getD f (s.num (E.rowMode + f)) = 1 then
    let n := pa / 0x80000000
    let o := pa - n * 0x80000000
    let b := o / 512
    (n % 20, natXor 5 (b % 32) (b / 32 % 32), f * 0x4000000 + b / 32 * 512 + pa % 512)
  else
    let r := pa - f * 0xA00000000
    let b := r / 512
    let lo := b % 4
    let ch := b / 4 % 32
    let u := b / 128
    let w := u / 5
    let k := (u % 5 + w + ch) % 5
    (4 * k + lo, ch, f * 0x4000000 + w * 512 + pa % 512)

/-- The newt, and channel, that serves an address (R61). -/
def State.newtOf (s : State) (pa : Nat) : Nat :=
  let m := s.mapAddr pa
  32 * m.1 + m.2.1

/-- Has the channel of a newt failed (R56)? -/
def State.channelFailed (s : State) (n : Nat) : Bool :=
  bit s.stk.stackFailed (n / 32) || bit (s.num (E.failedChannels + n / 32)) (n % 32)

/-- Does a granule lie in a failed channel? -/
def State.granuleFailed (s : State) (g : Nat) : Bool := s.channelFailed (s.newtOf (16 * g))

/-- Is a granule poisoned at the banks: its mark stands, or its channel has failed (R47, R56)? -/
def State.granulePoison (s : State) (g : Nat) : Bool := s.poison.contains g || s.granuleFailed g

/-- Granules that a range of bytes touches. -/
def granulesOf (pa n : Nat) : List Nat := if n = 0 then [] else rangeFrom (pa / 16) ((pa + n - 1) / 16 + 1 - pa / 16)

/-- The reservations that a write to a granule leaves standing (R281: LR and SC of RV64IMAC). -/
def keepResv (g : Nat) (m : SMap (Nat × Nat)) : SMap (Nat × Nat) := m.keep (fun _ v => !decide (v.1 / 16 = g))

/-- Write one granule's bytes at the banks: `data` are the bytes from `pa`, all in granule `pa / 16`. A write of all 16 bytes replaces
poison; a narrower one leaves a poisoned granule poisoned; a failed channel discards it (Table 3.3, R56). -/
def State.bankGranule (s : State) (pa : Nat) (data : List Byte) : State :=
  if memSize ≤ pa ∨ s.granuleFailed (pa / 16) then s
  else if data.length = 16 then
    { s with mem := cellWrite s.mem pa data, poison := setErase (pa / 16) s.poison, l2.resv := keepResv (pa / 16) s.l2.resv
             stk.writebacks := setErase (pa / 16) s.stk.writebacks }
  else if s.poison.contains (pa / 16) then s
  else { s with mem := cellWrite s.mem pa data, l2.resv := keepResv (pa / 16) s.l2.resv
                stk.writebacks := setErase (pa / 16) s.stk.writebacks }

/-- Cut a range of bytes at granule boundaries and write each piece. -/
def State.bankPieces (s : State) : Nat → Nat → List Byte → State
  | 0, _, _ => s
  | k + 1, pa, data =>
    match data with
    | [] => s
    | _ =>
      let n := 16 - pa % 16
      State.bankPieces (s.bankGranule pa (data.take n)) k (pa + n) (data.drop n)

/-- Write bytes at the banks. -/
def State.bankWrite (s : State) (pa : Nat) (data : List Byte) : State := s.bankPieces (data.length / 16 + 2) pa data

/-- Store a granule in the poisoned form (R47). -/
def State.poisonGranule (s : State) (g : Nat) : State :=
  if memSize ≤ 16 * g ∨ s.granuleFailed g then s
  else { s with poison := setInsert g s.poison, stk.writebacks := setErase g s.stk.writebacks }

/-- The bytes at the banks; a poisoned granule delivers no data and reads here as zeros. -/
def State.bankRead (s : State) (pa n : Nat) : List Byte := cellBytes s.mem pa n

/-- Is any granule of a range poisoned at the banks? -/
def State.bankPoison (s : State) (pa n : Nat) : Bool := (granulesOf pa n).any s.granulePoison

/-- The poison mask of a line of 128 bytes at the banks. -/
def State.linePoison (s : State) (line : Nat) : Nat :=
  ofBitList ((List.range 8).filter (fun i => s.granulePoison (8 * line + i)))

/-! Host memory (R324). -/

/-- A byte of host memory: what the device wrote last, or the host's own, which is free (log entry 1). -/
def State.hostByte (s : State) (a : Nat) : Byte :=
  match s.hif.hostMem.find? (fun c => decide (c.1 = a)) with
  | some c => c.2
  | none => Config.hostByte s.free a

/-- Bytes of host memory and the state that has read them. -/
def State.hostRead (s : State) (a n : Nat) : List Byte × State :=
  ((rangeFrom a n).map s.hostByte, { s with free := s.free + 1 })

/-- Put one byte into host memory as the device writes it; every written byte is listed. -/
def hostPut : List Host.Cell → Nat → Byte → List Host.Cell
  | [], a, v => [(a, v)]
  | (b, w) :: t, a, v =>
    if a < b then (a, v) :: (b, w) :: t else if a = b then (a, v) :: t else (b, w) :: hostPut t a v

/-- Write bytes to host memory. -/
def State.hostWrite (s : State) (a : Nat) : List Byte → State
  | [] => s
  | b :: t => State.hostWrite { s with hif.hostMem := hostPut s.hif.hostMem a b } (a + 1) t

/-! The passing of time (R34, R35, R39; log entry 9). -/

/-- One replica after a nanosecond, the master then standing at `g`. -/
def Replica.tick (g : Nat) (r : Replica) : Replica :=
  if r.stopped then r
  else if r.holding && decide (g ≤ r.count) then r
  else { r with count := (r.count + 1) % 2 ^ 64, holding := false }

/-- A replica reloads from the master, which stands at `g`. No replica's count decreases: one that is ahead holds until the master reaches it (R35, R36). -/
def Replica.reload (g : Nat) (r : Replica) : Replica :=
  { count := max r.count g, stopped := false, holding := decide (g < r.count) }

/-- How much the master's count grows in a nanosecond: one, or two or none once every 10,000 ns while the follower slews (R39:
at most 100 counts per 1,000,000 ns). -/
def slewStep (t : TimeSt) : Nat :=
  if t.slew = 0 ∨ t.ref % 10000 ≠ 0 then 1 else if 0 < t.slew then 2 else 0

/-- A nanosecond passes. Limits follow the master's count (R4). -/
def tickNs (s : State) : State :=
  let t := s.time
  if !s.sup.auxValid then { s with time.mono := t.mono + 1, time.ref := t.ref + 1 }
  else
    let k := slewStep t
    let g := (t.gtb + k) % 2 ^ 64
    { s with
      time.mono := t.mono + k
      time.ref := t.ref + 1
      time.gtb := g
      time.slew := if k = 2 then t.slew - 1 else if k = 0 then t.slew + 1 else t.slew
      time.replicas := t.replicas.map (Replica.tick g) }

end Sys2Proof.Machine
end

