-- ==== Sys2Proof/Machine/Homes.lean ====
section
/-! DEFINITION. Machine/Homes.lean: the homes of lines (chapter 9): which slice a line is homed on, the moves of a directory entry
of Table 9.5, the point of coherence, and the writes of Table 9.6. -/

namespace Sys2Proof.Machine

/-- Owner of a slab, if it is granted (R62). -/
def State.slabOwner (s : State) (n : Nat) : Option Nat :=
  let v := s.num (E.slabOwner + n)
  if v < 64 then some v else none

/-- Bucket of a line (R217). -/
def bucketOf (line : Nat) : Nat :=
  natXor 6 (natXor 6 (line % 64) (line / 2 ^ 6 % 64)) (natXor 6 (line / 2 ^ 17 % 64) (line / 2 ^ 28 % 64))

/-- Set of a line (R217). -/
def setOf (line : Nat) : Nat := line / 64 % 2048

/-- Entry b of a partition's home map, redirects included; the device table for a partition without slices (R217, R233). -/
def State.homeMap (s : State) (p : Option Nat) (b : Nat) : Nat :=
  match p with
  | none => b
  | some p =>
    match (s.part p).redirects.get? b with
    | some sl => sl
    | none =>
      let l := s.slicesOf p
      if l.length = 0 then b else l.getD (b % l.length) b

/-- The partition whose map gives a line its home. -/
def State.linePart (s : State) (line : Nat) : Option Nat := s.slabOwner (line / 2 ^ 24)

/-- Home slice of a line (R217). -/
def State.homeOf (s : State) (line : Nat) : Nat := s.homeMap (s.linePart line) (bucketOf line)

/-- The slices of a line's partition that lie in plain p, ascending. -/
def State.slicesInPlain (s : State) (line p : Nat) : List Nat :=
  (match s.linePart line with
   | none => []
   | some q => s.slicesOf q).filter (fun x => decide (x / 4 = p))

/-- Replica slice of a line in a plain, if there is one (R219). -/
def State.replicaSlice (s : State) (line p : Nat) : Option Nat :=
  let l := s.slicesInPlain line p
  if l.length = 0 then none else some (l.getD (bucketOf line % l.length) 0)

/-- Key of a replica: plain and line. -/
def replicaKey (p line : Nat) : Nat := p * 2 ^ 41 + line

/-- Write a line back to the banks, granule by granule, poison kept (Table 3.3). -/
def State.writeBack (s : State) (line : Nat) (data : List Byte) (poison : Nat) : State :=
  (List.range 8).foldl (fun s i =>
    if bit poison i then s.poisonGranule (8 * line + i)
    else s.bankGranule (128 * line + 16 * i) ((data.drop (16 * i)).take 16)) s

/-- Is the home's data newer than the banks (Table 9.4)? -/
def DirState.dirty : DirState → Bool
  | .d => true
  | .sd => true
  | _ => false

/-- Has the home data (Table 9.4)? -/
def DirState.hasData : DirState → Bool
  | .o => false
  | _ => true

/-- Drop every replica of a line. -/
def State.dropReplicas (s : State) (line : Nat) : State :=
  { s with l2.replicas := s.l2.replicas.keep (fun k _ => !decide (k % 2 ^ 41 = line)) }

/-- The other member of the tied group whose copies sharer bit 16 + i marks: the members in ascending order (R220). -/
def State.tieMember (s : State) (i : Nat) : Option Nat := (s.fab.tie.filter (fun c => !decide (c = s.fab.chipId)))[i]?

/-- Sharer bit of another member, if the chip is one. -/
def State.tieBit (s : State) (chip : Nat) : Option Nat := ((List.range 3).find? (fun i => decide (s.tieMember i = some chip))).map (16 + ·)

/-- Send a COH_MSG (log entry 13): op 0 invalidation, 1 data of a read, 3 an invalidation acknowledged or a copy dropped, 4 data of a copy to keep, 5 a write acknowledged. -/
def State.cohMsg (s : State) (dst seq op addr : Nat) (data : List Byte) (poison : Nat) : State :=
  { s with fab.answers := s.fab.answers ++
      [{ type := 0x15, src := s.fab.chipId, dst := dst, seq := seq, key := 0, srcFn := 0, op := op, addr := addr, data := data, poison := poison }] }

/-- Send invalidations of a line to the members that a sharer vector marks (R230). -/
def State.tellCopies (s : State) (line sharers : Nat) : State :=
  (List.range 3).foldl (fun s i =>
    if bit sharers (16 + i) then
      (match s.tieMember i with
       | some c => s.cohMsg c 0 0 (128 * line) [] 0
       | none => s)
    else s) s

/-- A line goes to I: every sharer is invalidated, newer home data is merged into the banks, and the presence filter entry is
removed (Table 9.5, R221). Invalidations of tied members' copies are sent (log entry 30). -/
def State.lineToI (s : State) (line : Nat) : State :=
  match s.l2.dir.get? line with
  | none => s
  | some d =>
    let s1 := if d.state.dirty then s.writeBack line d.data d.poison else s
    let s2 := (s1.dropReplicas line).tellCopies line d.sharers
    { s2 with l2.dir := s2.l2.dir.del line, nwt.filter := s2.nwt.filter.del line }

/-- The lines that satisfy a test go to I. -/
def State.linesToI (s : State) (p : Nat → Bool) : State :=
  (s.l2.dir.keys.filter p).foldl State.lineToI s

/-- The sharer bits that remain when one is dropped decide the state (Table 9.5). -/
def DirState.ofSharers (old : DirState) (sharers : Nat) : Option DirState :=
  if sharers ≠ 0 then some old
  else match old with
    | .sh => some .h
    | .sd => some .d
    | .o => none
    | x => some x

/-- A sharer of a line is gone (Table 9.5). -/
def State.dropSharer (s : State) (line b : Nat) : State :=
  match s.l2.dir.get? line with
  | none => s
  | some d =>
    let sh := clrBit d.sharers b
    match d.state.ofSharers sh with
    | some st => { s with l2.dir := s.l2.dir.put line { d with sharers := sh, state := st } }
    | none => { s with l2.dir := s.l2.dir.del line, nwt.filter := s.nwt.filter.del line }

/-- A replica slice drops a replica and tells the home (R222). -/
def State.dropReplica (s : State) (key : Nat) : State :=
  State.dropSharer { s with l2.replicas := s.l2.replicas.del key } (key % 2 ^ 41) (key / 2 ^ 41)

/-- Chip of a copy of another member's line, from its key: a member of the same tied group of 4 (R230). -/
def State.copyChip (s : State) (key : Nat) : Option Nat := s.fab.tie.find? (fun c => decide (c % 4096 = key / 2 ^ 41 % 4096))

/-- A replica slice drops its copy of another member's line and tells the home (R222, R230). -/
def State.dropCopy (s : State) (key : Nat) : State :=
  let s1 : State := { s with l2.tied := s.l2.tied.del key }
  match s.copyChip key with
  | some c => s1.cohMsg c 0 3 (128 * (key % 2 ^ 41)) [] 0
  | none => s1

/-- What a data way of a set holds. -/
inductive Held
  | line (l : Nat)
  | replica (key : Nat)
  | copy (key : Nat)
deriving DecidableEq, Repr

/-- What the ways of one set of a slice hold: the way, its use order, and whether it may be chosen as a victim (R220, R227). -/
def State.setHeld (s : State) (sl st : Nat) : List (Held × Nat × Nat × Bool) :=
  ((s.l2.dir.filter (fun e => decide (e.2.slice = sl) && decide (setOf e.1 = st))).map (fun e => (.line e.1, e.2.way, e.2.used, e.2.busy.isNone))) ++
  ((s.l2.replicas.filter (fun e => decide (e.2.slice = sl) && decide (setOf (e.1 % 2 ^ 41) = st))).map (fun e => (.replica e.1, e.2.way, e.2.used,
    (match s.l2.dir.get? (e.1 % 2 ^ 41) with
     | some d => d.busy.isNone
     | none => true)))) ++
  ((s.l2.tied.filter (fun e => decide (e.2.slice = sl) && decide (setOf (e.1 % 2 ^ 41) = st))).map (fun e => (.copy e.1, e.2.way, e.2.used, true)))

/-- Ways 0 to 15 of a slice that take no new line: retired or being retired (R236). -/
def State.closedWay (s : State) (sl w : Nat) : Bool :=
  bit (s.num (E.sliceRetiredWays + sl)) w || s.l2.retiring.contains (sl * 16 + w)

/-- A free way among `lo` to `lo + n - 1`. -/
def State.freeWay (s : State) (sl st lo n : Nat) : Option Nat :=
  (rangeFrom lo n).find? (fun w => !(decide (w < 16) && s.closedWay sl w) && !(s.setHeld sl st).any (fun e => decide (e.2.1 = w)))

/-- The least recently used of a list. -/
def lruHeld : List (Held × Nat × Nat × Bool) → Option (Held × Nat × Nat × Bool)
  | [] => none
  | e :: t =>
    match lruHeld t with
    | none => some e
    | some f => if e.2.2.1 ≤ f.2.2.1 then some e else some f

/-- Move a line with sharers out of its data way (Table 9.5): to a free overflow way, or over the least recently used overflow
entry that is not busy, or, with every overflow way busy, to I. -/
def State.toOverflow (s : State) (line : Nat) (d : Dir) : State :=
  let s1 := if d.state.dirty then s.writeBack line d.data d.poison else s
  let st := setOf line
  let place (s : State) (w : Nat) : State :=
    { s with l2.dir := s.l2.dir.put line { d with state := .o, way := w, data := [], poison := 0 }
             nwt.filter := s.nwt.filter.put line false }
  match s1.freeWay d.slice st 16 4 with
  | some w => place s1 w
  | none =>
    match lruHeld ((s1.setHeld d.slice st).filter (fun e => decide (16 ≤ e.2.1) && e.2.2.2)) with
    | some (.line v, w, _) => place (s1.lineToI v) w
    | _ => s1.lineToI line

/-- A data way loses what it holds: a line with sharers moves to an overflow way, any other goes to I, and a replica or copy is dropped (Table 9.5, R222). -/
def State.evict (s : State) (x : Held) : State :=
  match x with
  | .line l => (match s.l2.dir.get? l with
    | some d => if d.sharers ≠ 0 then s.toOverflow l d else s.lineToI l
    | none => s)
  | .replica k => s.dropReplica k
  | .copy k => s.dropCopy k

/-- Free a data way of a set: a way that holds nothing, or the least recently used one whose entry is not busy (R227). None when every entry is busy. -/
def State.takeWay (s : State) (sl st : Nat) : Option (Nat × State) :=
  match s.freeWay sl st 0 16 with
  | some w => some (w, s)
  | none =>
    match lruHeld ((s.setHeld sl st).filter (fun e => decide (e.2.1 < 16) && e.2.2.2 && !s.closedWay sl e.2.1)) with
    | none => none
    | some v => some (v.2.1, s.evict v.1)

/-- The next use order. -/
def State.useLine (s : State) : Nat × State := (s.l2.clock, { s with l2.clock := s.l2.clock + 1 })

/-- Bring a line's data to its home: the fill of Table 9.5 from I or O, with the filter entered first (R221). None: the request
meets a busy entry or a set in which no way can be freed, and is NACKed (R227, R228). -/
def State.fillLine (s : State) (line : Nat) : Option State :=
  let go (s : State) (st : DirState) (sharers : Nat) (rsw : Bool) : Option State :=
    match s.takeWay (s.homeOf line) (setOf line) with
    | none => none
    | some (w, s1) =>
      let u := s1.useLine
      some { u.2 with
        l2.dir := u.2.l2.dir.put line
          { state := st, sharers := sharers, rsw := rsw, busy := none, slice := s.homeOf line, way := w
            data := u.2.bankRead (128 * line) 128, poison := u.2.linePoison line, used := u.1 }
        nwt.filter := u.2.nwt.filter.put line false }
  match s.l2.dir.get? line with
  | none => go s .h 0 false
  | some d =>
    if d.busy.isSome then none
    else if d.state = .o then go { s with l2.dir := s.l2.dir.del line } .sh d.sharers d.rsw
    else
      let u := s.useLine
      some { u.2 with l2.dir := u.2.l2.dir.put line { d with used := u.1 } }

/-- A read event at the home: fill, then mark read since the last write. -/
def State.homeRead (s : State) (line : Nat) : Option State :=
  match s.fillLine line with
  | none => none
  | some s1 => some { s1 with l2.dir := s1.l2.dir.mapVals (fun k d => if k = line then { d with rsw := true } else d) }

/-- A clean line takes a sharer (Table 9.5). -/
def Dir.share (d : Dir) (b : Nat) : Dir :=
  { d with sharers := setBit d.sharers b, state := match d.state with
      | .h => .sh
      | .d => .sd
      | x => x }

/-- Install or update the replica of a line that its home holds in a plain's replica slice (R219). With every way of the set busy there is none. -/
def State.installReplica (s : State) (p line : Nat) : State :=
  match s.replicaSlice line p, s.l2.dir.get? line with
  | some sl, some d =>
    if s.homeOf line / 4 = p ∨ !d.state.hasData then s
    else
      let put (s : State) (w : Nat) : State :=
        let u := s.useLine
        { u.2 with
          l2.replicas := u.2.l2.replicas.put (replicaKey p line) { data := d.data, poison := d.poison, slice := sl, way := w, used := u.1 }
          l2.dir := u.2.l2.dir.mapVals (fun k x => if k = line then x.share p else x) }
      match s.l2.replicas.get? (replicaKey p line) with
      | some c => put s c.way
      | none => match s.takeWay sl (setOf line) with
        | some (w, t) => put t w
        | none => s
  | _, _ => s

/-- Keep a copy of another member's line in a replica slice (R230); without a way for it the home is told. -/
def State.keepCopy (s : State) (sl chip line : Nat) (data : List Byte) (poison : Nat) : State :=
  let key := (sl * 4096 + chip % 4096) * 2 ^ 41 + line
  let put (s : State) (w : Nat) : State :=
    let u := s.useLine
    { u.2 with l2.tied := u.2.l2.tied.put key { data := data, poison := poison, slice := sl, way := w, used := u.1 } }
  match s.l2.tied.get? key with
  | some c => put s c.way
  | none => match s.takeWay sl (setOf line) with
    | some (w, t) => put t w
    | none => s.cohMsg chip 0 3 (128 * line) [] 0

/-- Merge bytes into a line where the mask has a one. -/
def mergeLine (old new : List Byte) (mask : Nat) : List Byte :=
  (List.range 128).map (fun i => if bit mask i then new.getD i 0#8 else old.getD i 0#8)

/-- Granules of a line that a mask covers whole. -/
def wholeGranules (mask : Nat) : Nat :=
  ofBitList ((List.range 8).filter (fun i => decide (mask / 2 ^ (16 * i) % 2 ^ 16 = 2 ^ 16 - 1)))

/-- Every byte of a line. -/
def fullMask : Nat := 2 ^ 128 - 1

/-- A store at the home (Table 9.5): the line goes to D with every sharer invalidated and the bytes merged. A store of all 128 bytes to a line that is
not held allocates it without reading the banks (R213). A granule written whole loses its poison (Table 3.3). `poison` marks granules that
arrive poisoned. None: NACKed. -/
def State.homeWrite (s : State) (line : Nat) (data : List Byte) (mask : Nat) (poison : Nat := 0) : Option State :=
  match s.fillLine line with
  | none => none
  | some s1 =>
    match s1.l2.dir.get? line with
    | none => none
    | some d =>
      let whole := wholeGranules mask
      let s2 := (s1.dropReplicas line).tellCopies line d.sharers
      some { s2 with
        l2.dir := s2.l2.dir.put line
          { d with state := .d, sharers := 0, rsw := false, data := mergeLine d.data data mask
                   poison := natOr 8 (natAndNot 8 d.poison whole) poison }
        l2.resv := s2.l2.resv.keep (fun _ v => !decide (v.1 / 128 = line))
        nwt.filter := s2.nwt.filter.put line true }

/-! The point of coherence (R223). -/

/-- The directory entry of a line that holds its data. -/
def State.heldLine (s : State) (line : Nat) : Option Dir :=
  match s.l2.dir.get? line with
  | some d => if d.state.hasData then some d else none
  | none => none

/-- The line at its point of coherence: its 128 bytes and its poison mask. -/
def State.pocLine (s : State) (line : Nat) : List Byte × Nat :=
  match s.heldLine line with
  | some d => (d.data, d.poison)
  | none => (s.bankRead (128 * line) 128, s.linePoison line)

/-- One byte at its point of coherence. -/
def State.pocByte (s : State) (a : Nat) : Byte :=
  match s.heldLine (a / 128) with
  | some d => d.data.getD (a % 128) 0#8
  | none => cellGet s.mem a

/-- A read of an agent at the homes of the lines that are held (R222, R224): each is marked read since its last write, and used. -/
def State.lookLine (s : State) (line : Nat) : State :=
  match s.l2.dir.get? line with
  | some d =>
    if d.state.hasData then
      let u := s.useLine
      { u.2 with l2.dir := u.2.l2.dir.put line { d with rsw := true, used := u.1 } }
    else s
  | none => s

/-- Bytes at their point of coherence. -/
def State.pocRead (s : State) (a n : Nat) : List Byte := (rangeFrom a n).map s.pocByte

/-- Is a granule poisoned at its point of coherence? -/
def State.pocGranulePoison (s : State) (g : Nat) : Bool :=
  match s.heldLine (g / 8) with
  | some d => bit d.poison (g % 8)
  | none => s.granulePoison g

/-- Is any granule of a range poisoned at its point of coherence? -/
def State.pocPoison (s : State) (a n : Nat) : Bool := (granulesOf a n).any s.pocGranulePoison

/-- Lines that a range of bytes touches. -/
def linesOf (a n : Nat) : List Nat := if n = 0 then [] else rangeFrom (a / 128) ((a + n - 1) / 128 + 1 - a / 128)

/-- A non-allocating write (Table 9.6): every copy of each line is invalidated, and the bytes land at the banks. -/
def State.agentWrite (s : State) (a : Nat) (data : List Byte) : State :=
  ((linesOf a data.length).foldl State.lineToI s).bankWrite a data

/-- A non-allocating write that stores a granule in the poisoned form. -/
def State.agentPoison (s : State) (g : Nat) : State := (s.lineToI (g / 8)).poisonGranule g

/-- A read of a range of bytes by the host, a DMA engine, the front end or the router (R224). -/
def State.lookAt (s : State) (a n : Nat) : State := (linesOf a n).foldl State.lookLine s

/-- Bytes and mask of a line that hold `data` from address `a`. -/
def lineBytes (a : Nat) (data : List Byte) : List Byte × Nat :=
  (zeroBytes (a % 128) ++ data, (2 ^ data.length - 1) * 2 ^ (a % 128))

/-- Allocating writes of a range, line by line (Table 9.6). A line whose home can take no new entry is noted, and the operation is then NACKed as a whole. -/
def State.allocWrite (s : State) : Nat → Nat → List Byte → State
  | 0, _, _ => s
  | k + 1, a, data =>
    match data with
    | [] => s
    | _ =>
      let n := 128 - a % 128
      let b := lineBytes a (data.take n)
      let s1 := match s.homeWrite (a / 128) b.1 b.2 with
        | some t => t
        | none => { s with l2.refused := some (a / 128) }
      State.allocWrite s1 k (a + n) (data.drop n)

end Sys2Proof.Machine
end

