-- ==== Sys2Proof/Machine/Translate.lean ====
section
/-! DEFINITION. Machine/Translate.lean: partition views, the page walk of Tables 13.3 and 13.4, and accesses through translations
(R322 to R326, R329). -/

namespace Sys2Proof.Machine

/-- Device physical address of an address of a partition's view, if it lies inside the view (R329). -/
def State.viewAddr (s : State) (p a : Nat) : Option Nat :=
  match (s.part p).slabs[a / 2 ^ 31]? with
  | some n => some (n * 2 ^ 31 + a % 2 ^ 31)
  | none => none

/-- How a translation ends. -/
inductive Tr
  | ok (target addr : Nat)   -- 0 device memory, 1 fabric, 2 host, and the address there
  | bad (code : Nat)         -- 0x01, 0x02 or 0x03 of Table 20.1
deriving DecidableEq, Repr

/-- A walked leaf: target, page address of 64 KiB granularity >> 16, log2 of the page's own size and permissions, before the permission check. -/
inductive Leaf
  | page (target frame log : Nat) (r w x : Bool)
  | bad (code : Nat)
deriving DecidableEq, Repr

/-- Index bits of a level (Table 13.3). -/
def walkIndex (level va : Nat) : Nat :=
  match level with
  | 4 => va / 2 ^ 48 % 512
  | 3 => va / 2 ^ 39 % 512
  | 2 => va / 2 ^ 30 % 512
  | 1 => va / 2 ^ 21 % 512
  | _ => va / 2 ^ 16 % 32

/-- Log2 of the page size of a leaf at a level. -/
def pageLog (level : Nat) : Nat :=
  match level with
  | 2 => 30
  | 1 => 21
  | _ => 16

/-- A leaf entry at a level (R323, R324): reserved target, alignment, place inside the view and the walking chip's own id. -/
def State.walkLeaf (s : State) (p level va e : Nat) : Leaf :=
  let target := bits e 6 5
  let addr := bits e 59 16 * 2 ^ 16
  let page := addr + va % 2 ^ pageLog level / 2 ^ 16 * 2 ^ 16
  if 3 ≤ level ∨ target = 3 ∨ bits e 15 8 ≠ 0 ∨ addr % 2 ^ pageLog level ≠ 0 then .bad 0x01
  else if target = 1 ∧ bits addr 59 48 = s.fab.chipId then .bad 0x01
  else if target = 0 then
    match s.viewAddr p page with
    | none => .bad 0x02
    | some pa => .page 0 (pa / 2 ^ 16) (pageLog level) (bit e 2) (bit e 3) (bit e 4)
  else .page target (page / 2 ^ 16) (pageLog level) (bit e 2) (bit e 3) (bit e 4)

/-- The levels of a walk from the table at a view address (R322). -/
def State.walkFrom (s : State) (p va : Nat) : Nat → Nat → Leaf
  | 0, _ => .bad 0x01
  | k + 1, table =>
    match s.viewAddr p (table + 8 * walkIndex k va) with
    | none => .bad 0x02
    | some pa =>
      if s.pocPoison pa 8 then .bad 0x03
      else
        let e := ofLe (s.pocRead pa 8)
        if !bit e 0 || decide (bits e 63 60 ≠ 0) || bit e 7 then .bad 0x01
        else if bit e 1 then s.walkLeaf p k va e
        else if k = 0 ∨ bits e 6 2 ≠ 0 then .bad 0x01
        else
          let next := bits e 59 8 * 256
          if next % (if k = 1 then 256 else 4096) ≠ 0 then .bad 0x01
          else State.walkFrom s p va k next

/-- Walk a function's tables for an address (R321, R322); a root of 0 means none, and an address of more than 57 bits has no
translation. -/
def State.walk (s : State) (f va : Nat) : Leaf :=
  let root := s.num E.fnPtRoot f
  if root = 0 ∨ 2 ^ 57 ≤ va then .bad 0x01 else s.walkFrom (s.fnPart f) va 5 root

/-- Does a leaf permit an access (Table 13.4)? -/
def permits (a : Access) (r w x : Bool) : Bool :=
  match a with
  | .read => r
  | .write => w
  | .fetch => x

/-- The cached translation of a page of a function (R325). -/
def State.cached (s : State) (f page : Nat) : Option TEntry :=
  s.hif.tcache.find? (fun e => decide (e.fn = f) && decide (e.page = page))

/-- The entry of the host-page translation cache for an address of a function's host address space (R324). -/
def State.atsEntry (s : State) (f a : Nat) : Option TEntry := s.hif.atsCache.find? (fun e => decide (e.fn = f) && decide (e.page = a / 2 ^ 16))

/-- Does a host translation permit a request, a write or a read? -/
def TEntry.grants (e : TEntry) (w : Bool) : Bool := if w then e.w else e.r

/-- May a function's requests to host pages go at all (R324, R456)? -/
def State.hostLink (s : State) (f : Nat) : Bool := (s.fn f).busMaster && s.hif.linkUp

/-- May a function's request to an address of its host address space go now? With ATS it goes translated, so that its translation must stand in the cache (R324). -/
def State.hostOpen (s : State) (f a : Nat) (w : Bool) : Bool :=
  s.hostLink f && (!(s.fn f).atsEnabled || (match s.atsEntry f a with
    | some e => e.grants w
    | none => false))

/-- A translated access: to a host page whose translation the host has answered without the permission, it has none (R16, Table 13.1; log entry 108). -/
def State.grantedAt (s : State) (f t addr : Nat) (a : Access) : Tr :=
  if t = 2 ∧ (s.fn f).atsEnabled ∧ (s.atsEntry f addr).any (fun e => !e.grants (decide (a = .write))) then .bad 0x01 else .ok t addr

/-- Translate an address for an access: by the cached entry while one stands, else by a walk (R326, log entry 10). -/
def State.translate (s : State) (f va : Nat) (a : Access) : Tr :=
  match s.cached f (va / 2 ^ 16) with
  | some e => if permits a e.r e.w e.x then s.grantedAt f e.target (e.frame * 2 ^ 16 + va % 2 ^ 16) a else .bad 0x02
  | none =>
    match s.walk f va with
    | .bad c => .bad c
    | .page t frame _ r w x => if permits a r w x then s.grantedAt f t (frame * 2 ^ 16 + va % 2 ^ 16) a else .bad 0x02

/-- The poisoned entry at which a walk ends (Table 3.3). -/
def State.walkPoison (s : State) (p va : Nat) : Nat → Nat → Option Nat
  | 0, _ => none
  | k + 1, table =>
    match s.viewAddr p (table + 8 * walkIndex k va) with
    | none => none
    | some pa =>
      if s.pocPoison pa 8 then some pa
      else
        let e := ofLe (s.pocRead pa 8)
        if bit e 1 || !bit e 0 then none else State.walkPoison s p va k (bits e 59 8 * 256)

/-- The first poisoned granule that an access of bytes of one page meets: an entry of its walk, or the data. -/
def State.poisonMet (s : State) (f va n : Nat) : Option Nat :=
  let frame := match s.cached f (va / 2 ^ 16) with
    | some e => some (e.target, e.frame)
    | none => (match s.walk f va with
      | .page t frame _ _ _ _ => some (t, frame)
      | .bad _ => none)
  match frame with
  | some (0, fr) => ((granulesOf (fr * 2 ^ 16 + va % 2 ^ 16) n).find? s.pocGranulePoison).map (16 * ·)
  | some _ => none
  | none => s.walkPoison (s.fnPart f) va 5 (s.num E.fnPtRoot f)

/-- A consumer read poison: STK_ERR_STATUS.poison_consumed and a type 3 record (Tables 3.7 and 3.9). -/
def State.consumePoison (s : State) (pa : Nat) : State :=
  let n := s.newtOf pa
  (s.raiseStk 3).pushStk (stkRec 3 31 (n % 32) (n / 32) (pa / 16))

/-- An access of a function that ended with a code: with 0x03, its poison has been consumed. -/
def State.sawPoison (s : State) (code f va n : Nat) : State :=
  if code = 0x03 then
    match s.poisonMet f va n with
    | some pa => s.consumePoison pa
    | none => s
  else s

/-- Keep a translation of a page, replacing an older one. -/
def State.cacheLeaf (s : State) (f page target frame : Nat) (r w x : Bool) : State :=
  { s with hif.tcache :=
      s.hif.tcache.filter (fun e => !(decide (e.fn = f) && decide (e.page = page))) ++
        [{ fn := f, page := page, target := target, frame := frame, r := r, w := w, x := x }] }

/-- Keep a leaf in the translation cache of a base die (R67). A full cache gives up its oldest entry (log entry 102). -/
def State.dieKeep (s : State) (stack : Nat) (e : DieEntry) : State :=
  let l := s.nwt.tlb.getD stack []
  { s with nwt.tlb := s.nwt.tlb.put stack ((if 4096 ≤ l.length then l.drop 1 else l) ++ [e]) }

/-- Translate an address at a base die: by the entry of its cache that covers it, of whichever page size, else by a walk, whose leaf the cache keeps (R67, R326). -/
def State.dieTranslate (s : State) (stack f va : Nat) (a : Access) : Tr × State :=
  let pasid := s.num E.fnPasid f
  match (s.nwt.tlb.getD stack []).find? (fun e => decide (e.pasid = pasid) && decide (va / 2 ^ e.log = e.page)) with
  | some e => (if permits a e.r e.w e.x then .ok e.target (e.frame * 2 ^ 16 + va % 2 ^ e.log) else .bad 0x02, s)
  | none =>
    match s.walk f va with
    | .bad c => (.bad c, s)
    | .page t frame log r w x =>
      if permits a r w x then
        (.ok t (frame * 2 ^ 16 + va % 2 ^ 16),
         s.dieKeep stack { pasid := pasid, log := log, page := va / 2 ^ log, target := t, frame := frame - va % 2 ^ log / 2 ^ 16, r := r, w := w, x := x })
      else (.bad 0x02, s)

/-- Bytes of a virtual range, or the code of its first fault. -/
inductive Got
  | bytes (l : List Byte)
  | bad (code : Nat)
deriving DecidableEq, Repr

/-- Read a range that lies in device memory, page by page: translation faults, a target other than the partition view, then poison. -/
def State.readVirt (s : State) (f : Nat) (a : Access) : Nat → Nat → Nat → Got
  | 0, _, _ => .bytes []
  | k + 1, va, n =>
    if n = 0 then .bytes []
    else
      let m := min n (2 ^ 16 - va % 2 ^ 16)
      match s.translate f va a with
      | .bad c => .bad c
      | .ok t pa =>
        if t ≠ 0 then .bad 0x02
        else if s.pocPoison pa m then .bad 0x03
        else match State.readVirt s f a k (va + m) (n - m) with
          | .bad c => .bad c
          | .bytes l => .bytes (s.pocRead pa m ++ l)

/-- Read `n` bytes of a function's address space. -/
def State.readV (s : State) (f va n : Nat) (a : Access := .read) : Got := s.readVirt f a (n / 2 ^ 16 + 2) va n

/-- The code of the first fault of a range, 0 when every page of it translates to device memory with the permission. -/
def State.checkVirt (s : State) (f : Nat) (a : Access) : Nat → Nat → Nat → Nat
  | 0, _, _ => 0
  | k + 1, va, n =>
    if n = 0 then 0
    else
      let m := min n (2 ^ 16 - va % 2 ^ 16)
      match s.translate f va a with
      | .bad c => c
      | .ok t _ => if t ≠ 0 then 0x02 else State.checkVirt s f a k (va + m) (n - m)

/-- As `checkVirt`, over `n` bytes. -/
def State.checkV (s : State) (f va n : Nat) (a : Access) : Nat := s.checkVirt f a (n / 2 ^ 16 + 2) va n

/-- Write bytes to a function's address space, page by page, to device or host memory, at the banks (Table 9.6); answers the code of the
first fault, 0 for none. Pages before the fault are written. -/
def State.writeVirt (s : State) (f : Nat) : Nat → Nat → List Byte → Nat × State
  | 0, _, _ => (0, s)
  | k + 1, va, data =>
    match data with
    | [] => (0, s)
    | _ =>
      let m := 2 ^ 16 - va % 2 ^ 16
      match s.translate f va .write with
      | .bad c => (c, s)
      | .ok t a =>
        let s1 := if t = 0 then s.agentWrite a (data.take m) else if t = 2 then s.hostWrite a (data.take m) else s
        if t = 1 then (0x02, s) else State.writeVirt s1 f k (va + m) (data.drop m)

/-- Write bytes to a function's address space. -/
def State.writeV (s : State) (f va : Nat) (data : List Byte) : Nat × State :=
  s.writeVirt f (data.length / 2 ^ 16 + 2) va data

end Sys2Proof.Machine
end

