-- ==== Sys2Proof/Machine/TraceOps.lean ====
section
/-! DEFINITION. Machine/TraceOps.lean: counting an event in the banks, adding to the fixed quantities of a queue and of its layer,
flushing an accumulator into a layer table, and staging a trace record (chapter 19). -/

namespace Sys2Proof.Machine

/-! Counter banks (R436 to R438). -/

/-- Value and select offsets of the counters of a bank (Table 19.1): kind 0 core, 1 plain, 2 newt, 3 link. -/
def bankOffsets (kind unit : Nat) : List (Nat × Nat) :=
  let base := match kind with
    | 0 => 0x48000 + 0x80 * unit
    | 1 => 0x54000 + 0x80 * unit
    | 2 => 0x55000 + 0x40 * unit
    | _ => 0x5F000 + 0x40 * unit
  let n := if kind < 2 then 8 else 4
  (List.range n).map (fun i => (base + 8 * i, base + 8 * n + 4 * i))

/-- Does a select count an event (Table 19.3): the event, the queue it serves, and its format class. `fmt` is 0 for an event without one. -/
def selCounts (sel event queue fmt : Nat) : Bool :=
  bit sel 31 && decide (sel % 256 = event) && (!bit sel 24 || decide (bits sel 23 12 = queue)) &&
    (decide (bits sel 29 25 = 0) || decide (fmt = 0) || decide (natAnd 5 (bits sel 29 25) fmt ≠ 0))

/-- Add to one counter; a wrap with irq_on_wrap sets CNT_STATUS.wrap, which signals F0 vector 7 (R438, Table 19.6). -/
def State.countAt (s : State) (valOff sel n : Nat) : State :=
  let v := s.obs.values.getD valOff 0 + n
  let s1 := { s with obs.values := s.obs.values.put valOff (v % 2 ^ 48) }
  if 2 ^ 48 ≤ v ∧ bit sel 30 then State.signal { s1 with obs.wrap := true } 0 7 else s1

/-- `n` events of a code in a bank: each counter whose select names them counts, unless the banks are frozen (R437, R438). Queue 0xFFFF serves
no queue. -/
def State.countEvent (s : State) (kind unit event n queue : Nat) (fmt : Nat := 0) : State :=
  if s.obs.freeze then s
  else (bankOffsets kind unit).foldl (fun s o =>
    let sel := s.obs.sels.getD o.2 0
    if selCounts sel event queue fmt then s.countAt o.1 sel n else s) s

/-! The layer table (R440 to R443). -/

/-- Key of an entry (R441). -/
def layerKey (layer operator : Nat) : Nat := 2 ^ 63 + operator * 2 ^ 24 + layer

/-- Hash of a pair (R441), in unsigned 32-bit arithmetic. -/
def layerHash (layer operator : Nat) : Nat :=
  natXor 32 (layer * 0x9E3779B1 % 2 ^ 32) (operator * 0x85EBCA77 % 2 ^ 32)

/-- A far atomic of the counter unit on 8 bytes of the table: old value and state, or none where it faults (R443). -/
def State.tableAtomic (s : State) (f va : Nat) (g : Nat → Nat) : Option (Nat × State) :=
  match s.translate f va .write with
  | .ok 0 pa =>
    if s.pocPoison pa 8 then none
    else
      let old := ofLe (s.pocRead pa 8)
      some (old, s.agentWrite pa (leBytes 8 (g old % 2 ^ 64)))
  | _ => none

/-- Probe up to eight entries for a key (R441): the entry found, 0 for none. -/
def State.probe (s : State) (f base n key h : Nat) : Nat → Nat → Option (Nat × State)
  | 0, _ => some (0, s)
  | k + 1, i =>
    let c := 1 + (h + i) % 2 ^ 32 % (n - 1)
    match s.tableAtomic f (base + 64 * c) (fun old => if old = 0 then key else old) with
    | none => none
    | some (old, t) => if old = 0 ∨ old = key then some (c, t) else State.probe t f base n key h k (i + 1)

/-- Add the non-zero sums to an entry. -/
def State.addSums (s : State) (f addr : Nat) : Nat → List Nat → Option State
  | _, [] => some s
  | i, v :: t =>
    if v = 0 then State.addSums s f addr (i + 1) t
    else match s.tableAtomic f (addr + 8 + 8 * i) (fun old => old + v) with
      | none => none
      | some r => State.addSums r.2 f addr (i + 1) t

/-- Flush accumulators of a function one by one (R441, R443). A fault drops the rest, sets table_fault and counts them as lost. -/
def State.flushAccums (s : State) (f base n : Nat) : List Accum → State
  | [] => s
  | a :: t =>
    let lost (s : State) : State :=
      State.addNum (s.modCntFn f (fun c => { c with tableFault := true })) E.cntLayerLost 64 (t.length + 1) f
    match s.probe f base n (layerKey a.layer a.operator) (layerHash a.layer a.operator) 8 0 with
    | none => lost s
    | some (e, s1) =>
      match s1.addSums f (base + 64 * e) 0 a.sums with
      | none => lost s1
      | some s2 =>
        let s3 := if e = 0 then s2.modCntFn f (fun c => { c with tableFull := true }) else s2
        State.flushAccums s3 f base n t

/-- Accumulators in use on the chip. -/
def State.accumCount (s : State) : Nat := sumNat (s.obs.fns.vals.map (fun c => c.accums.length))

/-- The least recently updated accumulator of the chip, with its function. -/
def State.oldestAccum (s : State) : Option (Nat × Accum) :=
  (s.obs.fns.flatMap (fun e => e.2.accums.map (fun a => (e.1, a)))).foldl
    (fun o x => match o with
      | none => some x
      | some y => if x.2.used < y.2.used then some x else some y) none

/-- Make room for one accumulator (R440): at 4,096 the least recently updated one flushes. -/
def State.roomForAccum (s : State) : State :=
  if s.accumCount < 4096 then s
  else match s.oldestAccum with
    | none => s
    | some (f, a) =>
      State.flushAccums (s.modCntFn f (fun c => { c with accums := c.accums.filter (fun b => !decide (b = a)) }))
        f (s.num E.cntLayerBase f) (s.num E.cntLayerEntries f) [a]

/-- Add to the accumulator of a function, layer and operator (R440). -/
def State.accumulate (s : State) (f layer operator i n : Nat) : State :=
  let mine (a : Accum) : Bool := decide (a.layer = layer) && decide (a.operator = operator)
  let s1 := if (s.cntFn f).accums.any mine then s else
    s.roomForAccum.modCntFn f (fun c => { c with
      accums := c.accums ++ [{ layer := layer, operator := operator, sums := List.replicate 7 0, used := 0 }] })
  let s2 := { s1 with obs.updates := s1.obs.updates + 1 }
  s2.modCntFn f (fun c => { c with accums := c.accums.map (fun a =>
    if mine a then { a with sums := a.sums.set i ((a.sums.getD i 0 + n) % 2 ^ 64), used := s2.obs.updates } else a) })

/-- Add `n` to fixed quantity i of a queue (R439) and, but for quantity 7 and with the layer table off, to its layer's accumulator (R440). -/
def State.addQty (s : State) (q i n layer operator : Nat) : State :=
  let s1 := { s with obs.queueCnt := s.obs.queueCnt.put (q * 8 + i) ((s.obs.queueCnt.getD (q * 8 + i) 0 + n) % 2 ^ 64) }
  if i = 7 ∨ n = 0 ∨ s.num E.cntLayerBase (fnOfQueue q) = 0 then s1 else s1.accumulate (fnOfQueue q) layer operator i n

/-! Trace records (R444 to R446). -/

/-- A trace source: its bit of Table 19.12 times 65,536 plus its unit (log entry 14). -/
def traceSource (srcBit unit : Nat) : Nat := srcBit * 65536 + unit

/-- GTB replica of a record's domain number (R444): D00 to D24 are 0 to 24, B00 to B19 are 32 to 51. -/
def State.domainTime (s : State) (domain : Nat) : Nat :=
  (s.time.replicas.getD (if 32 ≤ domain then domain - 7 else domain) Replica.initial).count

/-- Does a buffer take a record of a source (R446, R448)? -/
def State.takesRec (s : State) (b source queue : Nat) : Bool :=
  let o := s.num (E.trcOwner + b)
  let src := source / 65536
  let st := (s.trc b).state
  let filter := s.num (E.trcFilterQueue + b)
  decide (st = .running ∨ st = .post) && bit (s.num (E.trcSources + b)) src &&
    (if queue = 0xFFFF then decide (o = 0)
     else (decide (filter = 0xFFFF) || decide (filter = queue)) &&
       (decide (o = 0) || (decide (o = fnOfQueue queue) && decide (src < 5))))

/-- Records staged by a source that are not gap records. -/
def stagedCount (l : List TrcRec) : Nat := l.countP (fun r => !decide (r.kind = 0x0E))

/-- The gap record of a source (R446): the number lost, and the GTB time of the first one lost. -/
def gapRec (domain unit n time : Nat) : TrcRec :=
  { time := time, kind := 0x0E, domain := domain, unit := unit, queue := 0xFFFF, flags := 0, layer := 0, operator := 0, aux := 0
    detail := n }

/-- Write a pending gap record into the staging of a source. -/
def Trc.gap (t : Trc) (source domain unit : Nat) : Trc :=
  match t.dropped.get? source with
  | none => t
  | some (n, at0) =>
    { t with
      staged := t.staged.put source (t.staged.getD source [] ++ [gapRec domain unit n at0])
      dropped := t.dropped.del source
      lost := (t.lost + n) % 2 ^ 64 }

/-- Stage one record of a source in a buffer, or drop and count it (R446). The first record taken that matches trc_trigger is marked (R447). -/
def Trc.stage (t : Trc) (source trigger : Nat) (r : TrcRec) : Trc :=
  if 64 ≤ stagedCount (t.staged.getD source []) then
    let d := match t.dropped.get? source with
      | some (n, at0) => (n + 1, at0)
      | none => (1, r.time)
    { t with dropped := t.dropped.put source d }
  else
    let t1 := t.gap source r.domain r.unit
    let hit := !t.triggered && !decide (trigger = 0) && decide (r.kind = trigger)
    let r1 := if hit then { r with flags := setBit r.flags 2 } else r
    { t1 with staged := t1.staged.put source (t1.staged.getD source [] ++ [r1]), triggered := t.triggered || hit }

/-- A source emits a record (R444 to R446): the flags due are set, and every buffer that takes it stages or drops it. -/
def State.emitRec (s : State) (source : Nat) (r : TrcRec) : State :=
  let dom := if 32 ≤ r.domain then r.domain - 7 else r.domain
  let resync := bit s.time.resyncFlag dom && !s.time.resyncDone.contains source
  let stepped := s.time.steppedFlag && !s.time.steppedDone.contains source
  let fl := b2n resync + 2 * b2n stepped
  let rec1 := { r with flags := natOr 8 r.flags fl }
  let s1 := { s with
    time.resyncDone := if resync then setInsert source s.time.resyncDone else s.time.resyncDone
    time.steppedDone := if stepped then setInsert source s.time.steppedDone else s.time.steppedDone }
  (List.range 16).foldl (fun s b =>
    if s.takesRec b source r.queue then s.modTrc b (fun t => t.stage source (s.num (E.trcTrigger + b)) rec1) else s) s1

/-- A record of an event at a unit (Table 19.12): source bit, domain, unit, queue, tags, aux and detail. -/
def State.trace (s : State) (srcBit kind domain unit queue layer operator aux detail : Nat) : State :=
  s.emitRec (traceSource srcBit unit)
    { time := s.domainTime domain, kind := kind, domain := domain, unit := unit, queue := queue, flags := 0, layer := layer
      operator := operator, aux := aux, detail := detail }

/-- A record of the front end (source bit 0, D17). -/
def State.traceFe (s : State) (kind queue layer operator aux detail : Nat) : State :=
  s.trace 0 kind 17 0 queue layer operator aux detail

end Sys2Proof.Machine
end

