-- ==== Sys2Proof/Machine/Coherent.lean ====
section
/-! DEFINITION. Machine/Coherent.lean: how a request of any agent meets the homes of the lines that it touches: negative acknowledgements and their queue, the reserved entries of
tied members, and the invalidations of tied members' copies that must be acknowledged first (R222, R227 to R230, R236). -/

namespace Sys2Proof.Machine

/-- Place of a request's entry in the queue of starving requests, if it has one. -/
def State.placeOf (s : State) (line : Nat) (who : Client) : Option Nat :=
  match s.l2.nacked.find? (fun e => decide (e.line = line ∧ e.who = who)) with
  | some e => e.queued
  | none => none

/-- Does a starving request that waits in a slice's queue go before a request to the same set: any, or those that came before place n? -/
def State.starvingFirst (s : State) (line : Nat) (n : Option Nat) : Bool :=
  s.l2.nacked.any (fun e => decide (e.slice = s.homeOf line ∧ setOf e.line = setOf line) &&
    (match e.queued, n with
     | none, _ => false
     | some _, none => true
     | some k, some n => decide (k < n)))

/-- Does a line lie in a way that is being retired (R236)? -/
def State.retiringLine (s : State) (line : Nat) : Bool :=
  match s.l2.dir.get? line with
  | some d => s.l2.retiring.contains (d.slice * 16 + d.way) && decide (d.way < 16)
  | none => false

/-- Does a request of a member wait on the set of a line (R229)? -/
def State.memberWaits (s : State) (line : Nat) : Bool :=
  s.l2.reserved.any (fun r => decide (r.1 = s.homeOf line) && decide (setOf (r.2.1.addr % 2 ^ 48 / 128) = setOf line))

/-- A request of the home's own chip meets a set on which a member's request waits, or a way that is being retired (R229, R236). -/
def State.homeClosed (s : State) (line : Nat) : Bool := s.memberWaits line || s.retiringLine line

/-- Is a request of a line already waiting for its retry? -/
def State.waitsRetry (s : State) (line : Nat) (who : Client) : Bool := s.l2.nacked.any (fun e => decide (e.line = line ∧ e.who = who))

/-- Is the entry of a line busy with a transaction of someone else? -/
def State.busyOther (s : State) (line : Nat) (who : Client) : Bool :=
  match s.l2.dir.get? line with
  | none => false
  | some d =>
    match d.busy with
    | none => false
    | some b => !decide (b.2 = who)

/-- Is the entry of a line busy? -/
def State.lineBusy (s : State) (line : Nat) : Bool :=
  match s.l2.dir.get? line with
  | none => false
  | some d => d.busy.isSome

/-- Clients whose requests are never NACKed (R229). -/
def Client.isMember : Client → Bool
  | .member _ => true
  | _ => false

/-- Must a home refuse a request of a line now (R228, R229, R236)? -/
def State.refuses (s : State) (who : Client) (line : Nat) : Bool :=
  s.busyOther line who || s.retiringLine line || (!who.isMember && (s.memberWaits line || s.starvingFirst line (s.placeOf line who)))

/-- The home answers a request with a NACK (R228): it is counted, and the requester retries after its interval; after its eighth NACK it is starving, and enters the slice's
queue of 8 if there is room. `full`: the set held no way to free. -/
def State.nackReq (s : State) (line queue : Nat) (who : Client) (full : Bool) : State :=
  let slice := s.homeOf line
  let prev := s.l2.nacked.find? (fun e => decide (e.line = line ∧ e.who = who))
  let n := (prev.elim 0 (fun e => e.count)) + 1
  let ivl := prev.elim 16 (fun e => min 256 (2 * e.interval))
  let was := prev.elim false (fun e => e.starving)
  let place := prev.elim none (fun e => e.queued)
  let starving := was || decide (8 ≤ n)
  let room := decide (s.l2.nacked.countP (fun e => decide (e.slice = slice) && e.queued.isSome) < 8)
  let s1 : State := { s with
    l2.nacks := (s.l2.nacks + 1) % 2 ^ 32
    l2.setFull := if full then (s.l2.setFull + 1) % 2 ^ 32 else s.l2.setFull }
  let u := (s1.countEvent 1 (slice / 4) 0x13 1 queue).useLine
  let e : Nacked :=
    { slice := slice, line := line, count := n, interval := ivl, starving := starving
      queued := if starving && place.isNone && room then some u.1 else place, who := who }
  let s2 : State := { u.2 with
    l2.nacked := match prev with
      | some p => u.2.l2.nacked.map (fun x => if x = p then e else x)
      | none => u.2.l2.nacked ++ [e] }
  if starving && !was then s2.raiseL2 2 else s2

/-- A client's request is served, or no longer stands: of one line, or of any. -/
def State.unNack (s : State) (line : Option Nat) (who : Client) : State :=
  { s with l2.nacked := s.l2.nacked.filter (fun e => !(decide (e.who = who) && (match line with
      | some l => decide (e.line = l)
      | none => true))) }

/-- Copies in other members go first (R222, R230): their invalidations are sent once, and the entry is busy until they are acknowledged. -/
def State.askCopies (s : State) (who : Client) (line : Nat) : State :=
  match s.l2.dir.get? line with
  | none => s
  | some d =>
    if d.sharers / 2 ^ 16 = 0 ∨ d.busy.isSome then s
    else
      let s1 := s.tellCopies line d.sharers
      { s1 with l2.dir := s1.l2.dir.put line { d with busy := some (s.time.mono, who) } }

/-- Lines whose directory entries an operation from `s` to `t` changes, makes or removes. -/
def State.touched (s t : State) : List Nat :=
  (s.l2.dir.keys ++ t.l2.dir.keys).eraseDups.filter (fun l => !decide (s.l2.dir.get? l = t.l2.dir.get? l))

/-- Lines whose copies in other members an operation from `s` to `t` ends. -/
def State.copiesEnded (s t : State) : List Nat :=
  (s.touched t).filter (fun l => match s.l2.dir.get? l with
    | none => false
    | some d => !decide (natAndNot 19 (d.sharers / 2 ^ 16) ((t.l2.dir.get? l).elim 0 (fun x => x.sharers / 2 ^ 16)) = 0))

/-- How a home meets an operation that would lead from `s` to `t`. -/
inductive Meets
  | free
  | nack (line : Nat) (full : Bool)
  | copies (lines : List Nat)
deriving DecidableEq, Repr

/-- A set that is full, an entry that is busy or closed, copies of tied members that must go first, or none of them (R222, R227 to R229). A request whose own invalidations are under way waits for them. A domain that is lost has no transactions left. -/
def State.meets (s t : State) (who : Client) : Meets :=
  if s.l2.domainLost then .free
  else match t.l2.refused with
  | some l => if s.busyOther l who then .nack l false else if s.lineBusy l then .copies [] else .nack l true
  | none =>
    match (s.touched t).find? (s.refuses who) with
    | some l => .nack l false
    | none => if (s.copiesEnded t).isEmpty then .free else .copies (s.copiesEnded t)

/-- Perform an operation of a client whole, once the homes of the lines that it touches can take it (R222, R228): a busy or closed entry and a full set answer with a NACK, and nothing
is done while copies in other members are still to be acknowledged. -/
def State.coherent (s : State) (who : Client) (queue : Nat) (line : Option Nat) (go : State → State) : State :=
  let t := go s
  match s.meets t who with
  | .free => { (t.unNack line who) with l2.refused := none }
  | .nack l full => if who.isMember then s else s.nackReq l queue who full
  | .copies l => l.foldl (fun s l => s.askCopies who l) s

/-- Was an operation performed: no home stood against it? -/
def State.goes (s : State) (who : Client) (go : State → State) : Bool := decide (s.meets (go s) who = .free)

/-- An operation of a unit of the chip, named by its kind and its place: a command that its homes cannot take yet is made again by the unit (log entry 30). -/
def State.unit (s : State) (kind index : Nat) (go : State → State) : State := s.coherent (.other (kind * 2 ^ 48 + index)) 0xFFFF none go

/-! Requests of the host and the router that wait (R228, R256). -/

/-- The function of a host request, which keeps its place behind the function's earlier requests (R256). -/
def HeldReq.host : HeldReq → Option Nat
  | .hostWrite f _ _ _ => some f
  | .hostRead f _ _ _ => some f
  | .hostAtomic f _ _ _ _ _ _ => some f
  | .regWrite f _ _ _ => some f
  | .regRead f _ _ => some f
  | .doorbell f _ _ => some f
  | .write _ _ _ => none
  | .fabRead _ _ => none
  | .fabWrite _ => none
  | .fabAtomic _ => none
  | .readData _ => none
  | .fabAck _ => none
  | .collData _ _ _ => none
  | .collResult _ _ => none
  | .crcFail _ _ => none
  | .atomAns _ => none

/-- Requests of a function that wait, in their order. -/
def State.heldOf (s : State) (f : Nat) : SMap HeldReq := s.l2.held.filter (fun e => decide (e.2.host = some f))

/-- Keep a request until it can be made. -/
def State.holdReq (s : State) (i : HeldReq) : State :=
  { s with l2.held := s.l2.held.put s.l2.nextId i, l2.nextId := s.l2.nextId + 1 }

/-- A request from outside the chip: it is made now, or waits at a home (R222, R228). -/
def State.outside (s : State) (i : HeldReq) (go : State → State) : State :=
  if s.goes (.held s.l2.nextId) go then go s else (s.coherent (.held s.l2.nextId) 0xFFFF none go).holdReq i

/-- A host access to registers: it follows the function's earlier requests (R256). -/
def State.inOrder (s : State) (f : Nat) (i : HeldReq) (go : State → State) : State :=
  if (s.heldOf f).isEmpty then go s else s.holdReq i

/-- A host access to memory: it follows the function's earlier requests, and is made now or waits at a home. -/
def State.hostReq (s : State) (f : Nat) (i : HeldReq) (go : State → State) : State := s.inOrder f i (fun s => s.outside i go)

/-- An operation that the homes can take is performed. -/
theorem State.coherent_of_goes (s : State) (who : Client) (queue : Nat) (line : Option Nat) (go : State → State)
    (h : s.goes who go = true) : s.coherent who queue line go = { ((go s).unNack line who) with l2.refused := none } := by
  unfold State.goes at h
  simp [State.coherent, of_decide_eq_true h]

end Sys2Proof.Machine
end

