-- ==== Sys2Proof/Machine/SyncObj.lean ====
section
/-! DEFINITION. Machine/SyncObj.lean: what one operation does to a sync object (R297 to R303): its new state, the waiters that its
evaluation releases, its mirror and its notification. -/

namespace Sys2Proof.Machine

/-- Object of a handle (Table 6.16). -/
def handleObj (h : Nat) : Nat := h % 65536

/-- Chip of a handle, when it names another chip than `chip` (Table 6.16). -/
def handleChip (h chip : Nat) : Option Nat :=
  if bit h 28 && !decide (bits h 27 16 = chip) then some (bits h 27 16) else none

/-- Operations that a type defines (Table 12.1, Table 6.17). -/
def ObjType.defines : ObjType → Nat → Bool
  | .fence, op => decide (op = 0 ∨ op = 1 ∨ op = 2)
  | .sem, op => decide (op = 3 ∨ op = 4)
  | .bar, op => decide (op = 5 ∨ op = 6)

/-- Code of a type (Table 12.1). -/
def ObjType.code : ObjType → Nat
  | .fence => 0
  | .sem => 1
  | .bar => 2

/-- Does the access level allow a function of this chip (Table 12.2)? -/
def State.admitsFn (s : State) (x : SynObj) (f : Nat) : Bool :=
  match x.access with
  | 0 => decide (x.owner = f)
  | 1 => decide (s.fnPart x.owner = s.fnPart f)
  | _ => true

/-- State of an object in the mirror's layout (R312). -/
def SynObj.stateWord (x : SynObj) : Nat :=
  match x.type with
  | .fence => x.value
  | .sem => x.value
  | .bar => x.generation * 2 ^ 32 + x.arrivals

/-- The 16 bytes of a mirror (R312). -/
def SynObj.mirrorBytes (x : SynObj) : List Byte := leBytes 8 x.stateWord ++ leBytes 1 x.code ++ zeroBytes 7

/-- Does a registered waiter's condition hold (R298 to R300)? A semaphore waiter's does while a unit is left. -/
def SynObj.holdsFor (x : SynObj) (w : Waiter) : Bool :=
  match w.op with
  | 1 => decide (w.value ≤ x.value)
  | 2 => decide (x.value = w.value)
  | 4 => decide (1 ≤ x.value)
  | 6 => !decide (x.generation = w.value % 2 ^ 32)
  | _ => false

/-- The release of a waiter with a status code. -/
def Waiter.release (w : Waiter) (code : Nat) : SynRelease :=
  { who := w.who, queue := w.queue, status := code, isWait := true, scope := w.scope }

/-- Evaluate the waiters of an object (R297): each that is released, and the object afterwards. An ERROR releases all with its code; a semaphore releases its oldest
waiters while units last; a fence or barrier releases every waiter whose condition holds. -/
def SynObj.evaluate (x : SynObj) : SynObj × List SynRelease :=
  if x.code ≠ 0 then ({ x with waiters := [] }, x.waiters.map (fun w => w.release x.code))
  else match x.type with
    | .sem =>
      let k := min x.value x.waiters.length
      ({ x with value := x.value - k, waiters := x.waiters.drop k }, (x.waiters.take k).map (fun w => w.release 0))
    | _ =>
      ({ x with waiters := x.waiters.filter (fun w => !x.holdsFor w) },
        (x.waiters.filter x.holdsFor).map (fun w => w.release 0))

/-- Does a notification's condition hold (R313)? -/
def SynObj.notifies (x : SynObj) (target : Nat) : Bool :=
  if x.code ≠ 0 then true
  else match x.type with
    | .fence => decide (target ≤ x.value)
    | .sem => decide (target ≤ x.value)
    | .bar => !decide (x.generation = target % 2 ^ 32)

/-- Write the mirror of an object; a write that fails translation or permission stops the mirror (R312). -/
def State.mirrorWrite (s : State) (o : Nat) (x : SynObj) : State :=
  match x.mirror with
  | none => s
  | some (f, va) =>
    match s.translate f va .write with
    | .ok 0 pa => s.agentWrite pa x.mirrorBytes
    | .ok 2 a => s.hostWrite a x.mirrorBytes
    | _ => { s with syn.objs := s.syn.objs.put o { x with mirror := none } }

/-- Fire the notification of an object when its condition holds (R313). -/
def State.notifyCheck (s : State) (o : Nat) : State :=
  match s.syn.objs.get? o with
  | none => s
  | some x =>
    match x.notify with
    | none => s
    | some (f, v, t) =>
      if x.notifies t then State.signal { s with syn.objs := s.syn.objs.put o { x with notify := none } } f v else s

/-- Finish an operation: evaluate, send the releases, write the mirror when the state changed, and fire the notification. -/
def State.finishObj (s : State) (o : Nat) (old x : SynObj) : State :=
  let e := x.evaluate
  let s1 := { s with syn.objs := s.syn.objs.put o e.1, syn.outbound := s.syn.outbound ++ e.2 }
  let s2 := if e.1.mirrorBytes = old.mirrorBytes then s1 else s1.mirrorWrite o e.1
  s2.notifyCheck o

/-- The state of an object after SIGNAL, POST or BAR.ARRIVE with status OK, and the status returned (R298 to R300, Table 6.17). -/
def SynObj.operate (x : SynObj) (op value : Nat) : Nat × SynObj :=
  match op with
  | 0 => (0, { x with value := max x.value (value % 2 ^ 64) })
  | 3 =>
    let n := x.value + value % 2 ^ 32
    (0, { x with value := min n 0xFFFFFFFF, saturated := x.saturated || decide (0xFFFFFFFF < n) })
  | 5 =>
    let st := x.generation * 2 ^ 32
    if x.arrivals + 1 = x.participants then (st, { x with arrivals := 0, generation := (x.generation + 1) % 2 ^ 32 })
    else (st, { x with arrivals := x.arrivals + 1 })
  | _ => (0, x)

/-- Apply SIGNAL, POST or BAR.ARRIVE to a created object: status and state (Table 12.3). An ERROR object is left as it is and answers its
code. -/
def State.objOperate (s : State) (o : Nat) (x : SynObj) (op value : Nat) : Nat × State :=
  if x.code ≠ 0 then (x.code, s)
  else
    let r := x.operate op value
    (r.1, s.finishObj o x r.2)

/-- Register a wait, evaluated once at registration (R297); an ERROR object ends it at once with the code. -/
def State.objWait (s : State) (o : Nat) (x : SynObj) (w : Waiter) : State :=
  s.finishObj o x { x with waiters := x.waiters ++ [w] }

/-- Transition of an object to ERROR; an object already ERROR keeps its first code (R301, Table 12.3). -/
def State.objError (s : State) (o code : Nat) : State :=
  match s.syn.objs.get? o with
  | none => s
  | some x => if x.code ≠ 0 then s else s.finishObj o x { x with code := code }

/-- Semaphore waits registered on this chip's objects (R302). -/
def State.semWaiters (s : State) : Nat :=
  sumNat (s.syn.objs.vals.map (fun x => if x.type = .sem then x.waiters.length else 0))

/-- Remove the waiters that satisfy a test, without release (R157, R306). -/
def State.dropWaiters (s : State) (p : Waiter → Bool) : State :=
  { s with
    syn.objs := s.syn.objs.mapVals (fun _ x => { x with waiters := x.waiters.filter (fun w => !p w) })
    syn.registering := s.syn.registering.filter (fun e => !p e.2)
    syn.retrying := s.syn.retrying.filter (fun e => !p e.2) }

end Sys2Proof.Machine
end

