-- ==== Sys2Proof/Machine/Contexts.lean ====
section
/-! DEFINITION. Machine/Contexts.lean: ending a context (R118 to R120, R286, R450 to R452), the fault record of a core, and sending a request
to another chip (R354, R362, R364). -/

namespace Sys2Proof.Machine

/-! Fields of a node (Tables 11.3 and 11.5). -/

/-- Field of a node's 64 bytes. -/
def Node.get (n : Node) (off len : Nat) : Nat := fieldAt n.raw off len
/-- Type. -/
def Node.type (n : Node) : Nat := n.get 0 1
/-- Flag irq. -/
def Node.irq (n : Node) : Bool := bit (n.get 1 1) 0
/-- Flag after_prev. -/
def Node.afterPrev (n : Node) : Bool := bit (n.get 1 1) 1
/-- Layer id. -/
def Node.layer (n : Node) : Nat := n.get 4 4 % 2 ^ 24
/-- Operator id. -/
def Node.operator (n : Node) : Nat := n.get 8 2

/-! Kills. -/

/-- What FE_Q_FAULT and FE_Q_FAULT_TAG record (Tables 11.20 and 11.22). -/
structure Site where
  node : Nat
  depth : Nat
  ring : Nat
  operator : Nat
  layer : Nat
deriving DecidableEq, Repr

/-- The site of a node. -/
def Node.site (n : Node) : Site :=
  { node := n.index, depth := n.depth, ring := n.ring, operator := n.operator, layer := n.layer }

/-- The site of the oldest incomplete ring entry of a queue (R285), also taken for a kill that names no node (log entry 11). -/
def State.oldestSite (s : State) (q : Nat) : Site :=
  let r := (s.q q).read
  match s.fe.nodes.vals.find? (fun n => decide (n.queue = q) && n.graph.isNone && decide (n.ring = r)) with
  | some n => n.site
  | none => { node := 0, depth := 0, ring := r, operator := 0, layer := 0 }

/-- The site of a node number, or of the oldest ring entry where the node is gone. -/
def State.siteOf (s : State) (q node : Nat) : Site :=
  match s.fe.nodes.get? node with
  | some n => n.site
  | none => s.oldestSite q

/-- May a queue's context end now: it is in a state with work or a kill write (Table 11.1). -/
def QState.alive : QState → Bool
  | .idle => true
  | .running => true
  | .preempting => true
  | .preempted => true
  | _ => false

/-- Count a context that ends with a code (R458). -/
def State.countKill (s : State) (code : Nat) : State :=
  let s1 := s.addNum E.contextsKilled 64
  if 1 ≤ code ∧ code ≤ 0x11 then s1.addNum (E.killsByCode + code - 1) 32 else s1

/-- Change the shares of every newt queue; one that becomes empty is empty from now on (R99). -/
def State.setShares (s : State) (g : List Share → List Share) : State :=
  let l := s.nwt.queues.mapVals (fun _ x => g x)
  { s with
    nwt.queues := l.keep (fun _ x => !x.isEmpty)
    nwt.emptySince := (l.filter (fun e => e.2.isEmpty)).foldl (fun m e => m.put e.1 s.time.mono) s.nwt.emptySince }

/-- Newt work of a killed queue: shares that wait or are queued are discarded, running shares are told to stop (R97, Table 11.12). -/
def State.stopShares (s : State) (p : Nat → Bool) : State :=
  State.setShares { s with nwt.waiting := s.nwt.waiting.filter (fun h => !p h.queue) }
    (fun l => (l.filter (fun h => !p h.queue || h.started)).map (fun h => if p h.queue then { h with stop := true } else h))

/-- Kill a queue's context (R286): the first trigger records the code and the site and puts the queue into KILLING; a trigger that meets a kill
under way is counted as suppressed; in every other state nothing is left to end. -/
def State.kill (s : State) (q code : Nat) (site : Site) (inFlight : Bool := false) : State :=
  let x := s.q q
  if x.state.alive then
    let s1 := s.modQ q (fun x => { x with
      state := .killing, killCode := code, faultValid := true, faultNode := site.node % 2 ^ 16
      faultDepth := site.depth % 16, faultRing := site.ring, tagOperator := site.operator, tagLayer := site.layer
      killWrite := x.write, killInFlight := inFlight, settled := false, timerOn := false
      resumePending := false })
    ((s1.countKill code).stopShares (fun k => decide (k = q))).traceFe 0x0A q site.layer site.operator code site.ring
  else if x.state = .killing then s.modQ q (fun x => { x with suppressed := min 255 (x.suppressed + 1) })
  else s

/-- Kill a queue for a node of it. -/
def State.killAt (s : State) (q code node : Nat) : State := s.kill q code (s.siteOf q node)

/-! Faults that a core detects (R118, R119, Table 5.12). -/

/-- Lowest thread of a mask. -/
def lowest (mask : Nat) : Nat := (bitList 64 mask).headD 0

/-- Codes of the faults that a core detects itself (Table 5.5); the core writes no record for any other (R118). -/
def coreCodes : List Nat := [1, 2, 3, 4, 5, 6, 7, 0x0B, 0x0F]

/-- A fault of a group: the core records it unless the context is ending already or an earlier record stands, which counts it as suppressed;
the group stops and its context is killed. `point` is the number of an instruction whose fault is found after its issue: the stores that the group issued after it are to be
discarded (R231). -/
def State.coreFault (s0 : State) (c slot thread code pc addr : Nat) (scratch : Bool := false) (point : Option Nat := none) : State :=
  match (s0.core c).groups.get? slot with
  | none => s0
  | some g =>
    let s := if scratch then s0 else s0.sawPoison code (fnOfQueue g.queue) addr 16
    let first := (s.q g.queue).state.alive
    let isAddr := decide (code = 1 ∨ code = 2 ∨ code = 3 ∨ code = 5)
    let rec0 : CoreFault :=
      { valid := true, suppressed := 0, queue := g.queue, slot := slot, thread := thread, operator := g.operator
        code := code, layer := g.layer, pc := pc % 2 ^ 57, addr := if isAddr then addr % 2 ^ 57 else 0 }
    let s1 := s.modCore c (fun k => { k with
      groups := k.groups.put slot { g with stopped := true, faulted := true }
      fault :=
        if !coreCodes.contains code then k.fault
        else if k.fault.valid then { k.fault with suppressed := min 255 (k.fault.suppressed + 1) }
        else if first then rec0 else k.fault })
    let s2 := if first then s1.modQ g.queue (fun x => { x with
        faultPage := if isAddr then some (addr % 2 ^ 57 / 2 ^ 16) else x.faultPage, faultPoint := point.map (fun n => (c, slot, n)) }) else s1
    s2.kill g.queue code { node := g.nodeIndex, depth := g.depth, ring := g.ring, operator := g.operator, layer := g.layer }

/-! Requests to other chips. -/

/-- Is a chip reached by a route now (R357, R373)? -/
def State.reaches (s : State) (chip : Nat) : Bool := s.fab.reachable.contains chip

/-! Routes (R358 to R361). -/

/-- A candidate route: its first link, its hops, the occupancy of its pass, and the intermediate valley of a Valiant route. -/
structure Route where
  link : Nat
  hops : Nat
  pass : Nat
  via : Option Nat
deriving DecidableEq, Repr

/-- Links that are up. -/
def State.upLinks (s : State) : List Nat := (List.range 32).filter (fun l => decide ((s.link l).state = 2))

/-- The lowest link of a route to a chip: an up link to it, else any up link (log entry 12). -/
def State.routeLink (s : State) (chip : Nat) : Option Nat :=
  match s.upLinks.find? (fun l => decide ((s.link l).peer = chip)) with
  | some l => some l
  | none => s.upLinks.head?

/-- Occupancy that a member of this valley advertised for its pass to a valley (R359). -/
def State.passLoad (s : State) (member valley : Nat) : Nat := s.fab.occupancy.getD (member % 16 * 256 + valley) 0

/-- Routes to a valley: this chip's own passes, then the passes of the members that this chip has a link to, else those behind a detour (R358). `rest` are the hops beyond the
valley's first chip. -/
def State.routesToValley (s : State) (valley rest : Nat) (via : Option Nat) : List Route :=
  let own := s.fab.chipId / 16
  let l := s.upLinks.filterMap (fun k =>
    let p := (s.link k).peer
    if p / 16 = valley then some { link := k, hops := 1 + rest, pass := s.passLoad s.fab.chipId valley, via := via }
    else if p / 16 = own ∧ bit (s.fab.passMap.getD valley 0) (p % 16) then some { link := k, hops := 2 + rest, pass := s.passLoad p valley, via := via }
    else none)
  if l.isEmpty ∧ s.fab.passMap.getD valley 0 ≠ 0 then
    (s.upLinks.filter (fun k => decide ((s.link k).peer / 16 = own))).map (fun k => { link := k, hops := 3 + rest, pass := 0, via := via })
  else l

/-- Minimal routes to a chip (R358): inside the valley the port to it, or while that is down a detour; else a pass to its valley. -/
def State.minimalRoutes (s : State) (chip : Nat) : List Route :=
  if chip / 16 = s.fab.chipId / 16 then
    let port := s.upLinks.filter (fun k => decide ((s.link k).peer = chip))
    if port.isEmpty then (s.upLinks.filter (fun k => decide ((s.link k).peer / 16 = chip / 16))).map (fun k => { link := k, hops := 2, pass := 0, via := none })
    else port.map (fun k => { link := k, hops := 1, pass := 0, via := none })
  else s.routesToValley (chip / 16) 1 none

/-- Valiant routes to a chip of another valley (R360): the intermediate valley is chosen by a hash of the sequence number among those with passes from this valley and to that one. -/
def State.valiantRoutes (s : State) (chip seq : Nat) : List Route :=
  let own := s.fab.chipId / 16
  let mids := s.fab.passMap.keys.filter (fun v => !decide (v = own ∨ v = chip / 16) && s.fab.passes.contains (v * 256 + chip / 16))
  if chip / 16 = own then []
  else match mids with
    | [] => []
    | _ =>
      let v := mids.getD (Config.valleyHash seq % mids.length) own
      s.routesToValley v 3 (some v)

/-- The router's estimate of a route's delay (R359). -/
def State.routeCost (s : State) (r : Route) : Nat := Config.routeDelay r.hops (s.fab.reqs.vals.countP (fun x => decide (x.link = r.link))) r.pass

/-- The route of least estimated delay; the first of equal ones. -/
def State.leastRoute (s : State) : List Route → Option Route
  | [] => none
  | r :: t =>
    match s.leastRoute t with
    | none => some r
    | some b => some (if s.routeCost b < s.routeCost r then b else r)

/-- The router's choice (R359, R360): minimal or Valiant by fab_route_mode and fab_valiant_bias, and Valiant where no pass joins the two valleys. -/
def State.chooseRoute (s : State) (chip seq : Nat) : Option Route :=
  let mini := s.leastRoute (s.minimalRoutes chip)
  let val := s.leastRoute (s.valiantRoutes chip seq)
  match mini, val with
  | none, v => v
  | m, none => m
  | some m, some v =>
    if s.num E.fabRouteMode = 0 then some m
    else if s.num E.fabRouteMode = 2 then some v
    else if s.num E.fabValiantBias * s.routeCost v < 100 * s.routeCost m then some v else some m

/-- Link and intermediate valley of a packet: those of an unacknowledged packet to the same line, else the router's choice (R359); a chip that is reached by a path that this
chip's links and maps do not show is sent to over the lowest up link (log entry 12). -/
def State.routeOf (s : State) (chip addr seq : Nat) : Nat × Option Nat :=
  match s.fab.reqs.vals.find? (fun r => decide (r.pkt.dst = chip ∧ r.pkt.addr / 128 = addr / 128) && decide ((s.link r.link).state = 2)) with
  | some r => (r.link, r.via)
  | none =>
    match s.chooseRoute chip seq with
    | some r => (r.link, r.via)
    | none => ((s.routeLink chip).getD 0, none)

/-- A packet with `len` bytes of data leaves over a link: the flits that carry it are counted, and a packet on a Valiant route (Table 19.2, R352; log entry 110). -/
def State.countSent (s : State) (link : Nat) (via : Option Nat) (len queue : Nat) : State :=
  let s1 := s.countEvent 3 link 0x30 (ceilDiv (32 + len) 248) queue
  if via.isSome then s1.countEvent 3 link 0x33 1 queue else s1

/-- Layer and operator of a node. -/
def State.nodeTags (s : State) (id : Nat) : Nat × Nat :=
  match s.fe.nodes.get? id with
  | some n => (n.layer, n.operator)
  | none => (0, 0)

/-- Layer and operator of a group. -/
def State.groupTags (s : State) (c slot : Nat) : Nat × Nat :=
  match (s.core c).groups.get? slot with
  | some g => (g.layer, g.operator)
  | none => (0, 0)

/-- Layer and operator of a plan context's node. -/
def State.planTags (s : State) (ctx : Nat) : Nat × Nat :=
  match s.fe.plans.get? ctx with
  | some p => s.nodeTags p.node
  | none => (0, 0)

/-- Layer and operator of whoever acts on a sync object. -/
def State.whoTags (s : State) (w : WaiterWho) : Nat × Nat :=
  match w with
  | .core c slot _ _ _ _ => s.groupTags c slot
  | .node id => s.nodeTags id
  | .plan ctx => s.planTags ctx
  | .remote _ _ => (0, 0)

/-- Layer and operator of a remote request's work. -/
def State.issuerTags (s : State) (i : Issuer) : Nat × Nat :=
  match i with
  | .load id _ => (match s.l2.loads.get? id with
    | some l => s.groupTags l.core l.slot
    | none => (0, 0))
  | .store core seq => (match (s.core core).sb.find? (fun e => decide (e.seq = seq)) with
    | some e => s.nodeTags e.node
    | none => (0, 0))
  | .atom id _ => (match s.l2.atoms.get? id with
    | some a => s.groupTags a.core a.slot
    | none => (0, 0))
  | .sync w _ _ => s.whoTags w
  | .dma e _ => (match s.fe.engines.get? e with
    | some x => s.nodeTags x.node
    | none => (0, 0))
  | .mark id => s.nodeTags id
  | .plan ctx => s.planTags ctx
  | .coll g => (match s.fab.colls.get? g with
    | some c => (match c.node with
      | some e => s.nodeTags e.1
      | none => (0, 0))
    | none => (0, 0))
  | .newt d _ _ => (match s.nwt.descs.get? d with
    | some x => (x.layer, x.operator)
    | none => (0, 0))
  | .code core slot _ => s.groupTags core slot
  | .planCode ctx _ => s.planTags ctx
  | .line (.node id) _ => s.nodeTags id
  | .line (.graph _ _) _ => (0, 0)
  | .unpin _ => (0, 0)
  | .cancel _ => (0, 0)
  | .deadWait => (0, 0)
  | .stale => (0, 0)

/-- Is another chip a member of the tied group in force? -/
def State.tiedChip (s : State) (chip : Nat) : Bool := s.fab.tie.contains chip && !decide (chip = s.fab.chipId)

/-- Type and op of a request: a READ, WRITE or ATOMIC to a tied member travels as COH_REQ (R371), whose op is 0 for a read, 1 for a write and 16 more than an
ATOMIC's for an atomic (log entry 13). -/
def State.reqType (s : State) (type op dst : Nat) : Nat × Nat :=
  if s.tiedChip dst then
    (if type = 0x01 then (0x05, 0) else if type = 0x02 then (0x05, 1) else if type = 0x03 then (0x05, 0x10 + op) else (type, op))
  else (type, op)

/-- Send a request: it takes the next sequence number toward its destination and is outstanding (R362). -/
def State.sendNow (s : State) (key f q type dst op addr : Nat) (data : List Byte) (poison : Nat) (issuer : Issuer) : State :=
  let seq := s.fab.nextSeq.getD dst 0
  let ty := s.reqType type op dst
  let pkt : Packet :=
    { type := ty.1, src := s.fab.chipId, dst := dst, seq := seq, key := key, srcFn := f, op := ty.2, addr := addr
      data := data, poison := poison }
  let tags := s.issuerTags issuer
  let r := s.routeOf dst addr seq
  let s := (s.addQty q 5 data.length tags.1 tags.2).countSent r.1 r.2 data.length q
  { s with
    fab.nextSeq := s.fab.nextSeq.put dst ((seq + 1) % 2 ^ 32)
    fab.reqs := s.fab.reqs.put s.fab.reqs.fresh
      { pkt := pkt, queue := q, issuer := issuer, link := r.1, via := r.2, sentAt := s.time.mono } }

/-- Is a credit free for a request to a tied member (R229)? The member's home slices are told apart by the buckets of their lines, four requests each (log entry 97). -/
def State.cohCredit (s : State) (dst addr : Nat) : Bool :=
  decide (s.fab.reqs.vals.countP (fun r => decide (r.pkt.type = 0x05 ∧ r.pkt.dst = dst ∧ bucketOf (r.pkt.addr % 2 ^ 48 / 128) = bucketOf (addr % 2 ^ 48 / 128))) < 4)

/-- Send a request with a key: the code 0x0D for a chip that no route reaches, else 0 and the state with the request outstanding. At 16,384 unanswered requests the
agent waits (R364): code 0x100. -/
def State.sendKeyed (s : State) (key f q type dst op addr : Nat) (data : List Byte) (poison : Nat) (issuer : Issuer) : Nat × State :=
  if !s.reaches dst then (0x0D, s)
  else if 16384 ≤ s.fab.reqs.length || (decide ((s.reqType type op dst).1 = 0x05) && !s.cohCredit dst addr) then (0x100, s)
  else (0, s.sendNow key f q type dst op addr data poison issuer)

/-- Send a request of a function under its own key (R354): the code 0x02 for a function without one. -/
def State.sendReq (s : State) (f q type dst op addr : Nat) (data : List Byte) (poison : Nat) (issuer : Issuer) : Nat × State :=
  let key := s.num E.fnFabKey f
  if key = 0 then (0x02, s) else s.sendKeyed key f q type dst op addr data poison issuer

/-- The answers of some requests are no longer wanted. -/
def State.unwant (s : State) (x : Issuer → Bool) : State :=
  { s with fab.reqs := s.fab.reqs.mapVals (fun _ r => if x r.issuer then { r with issuer := .stale } else r) }

/-- Is a request of an issuer outstanding? -/
def State.asked (s : State) (i : Issuer) : Bool := s.fab.reqs.vals.any (fun r => decide (r.issuer = i))

/-- Sync operations, remote: a SYNC_OP whose address is the object index and whose data hold the value, 16 bytes (log entry 13). -/
def State.sendSync (s : State) (f q chip obj op value scope : Nat) (who : WaiterWho) (isWait : Bool) : Nat × State :=
  s.sendReq f q 0x04 chip op obj (leBytes 8 value ++ zeroBytes 8) 0 (.sync who isWait scope)

/-- The signal of an edition that becomes free, or of any agent that awaits no status: a SIGNAL applied in the object's order (R275). It does
nothing where R158 would not allow it. -/
def State.signalHandle (s : State) (f h value node q : Nat) : State :=
  if 2 ^ 29 ≤ h then s
  else match handleChip h s.fab.chipId with
    | some chip => (s.sendSync f q chip (handleObj h) 0 value 4 (.node node) false).2
    | none =>
      { s with syn.inbound := s.syn.inbound ++
          [{ obj := handleObj h, op := 0, value := value, queue := q, scope := 2, who := .node node }] }

end Sys2Proof.Machine
end

