-- ==== Sys2Proof/Machine/DictOps.lean ====
section
/-! DEFINITION. Machine/DictOps.lean: an accepted dictionary write (R416, R417, R425) and the checks before it (R418). -/

namespace Sys2Proof

/-- Bytes of a numeric type (R415); 0 for STRING and BLOB. -/
def EType.width : EType → Nat
  | .bool => 1
  | .u8 => 1
  | .u16 => 2
  | .u32 => 4
  | .u64 => 8
  | .i8 => 1
  | .i16 => 2
  | .i32 => 4
  | .i64 => 8
  | .f32 => 4
  | .time => 8
  | .string => 0
  | .blob => 0

/-- Type code in DESCRIBE (R420). -/
def EType.code : EType → Nat
  | .bool => 1
  | .u8 => 2
  | .u16 => 3
  | .u32 => 4
  | .u64 => 5
  | .i8 => 6
  | .i16 => 7
  | .i32 => 8
  | .i64 => 9
  | .f32 => 10
  | .string => 11
  | .blob => 12
  | .time => 13

/-- The sender is a virtual function's mailbox, which writes its own function-scope entries only (Table 18.1). -/
def Origin.isVf (w : Origin) : Bool := decide (w.iface = 3) && !decide (w.fn = 0)

/-- The function field of a log record for a sender (Table 18.8). -/
def Origin.logFn (w : Origin) : Nat := if w.iface = 3 then w.fn else 0xFF

end Sys2Proof

namespace Sys2Proof.Machine

/-- Entries that answer before the main supply is valid: identity, module sensors, log and update (R465). -/
def earlyEntry (a : Nat) : Bool :=
  let i := a / 256
  decide (i ≤ 0x100F ∧ 0x1000 ≤ i) || decide (0x2100 ≤ i ∧ i ≤ 0x2103) || decide (0x8000 ≤ i ∧ i ≤ 0x8020) ||
    decide (0x9000 ≤ i ∧ i ≤ 0x9010)

/-- Is an entry live (R413, R465; after a failure of both slots R432 leaves identity, log and update)? -/
def State.entryLive (s : State) (a : Nat) : Bool :=
  s.sup.auxValid && s.sup.mgtLive &&
    (if s.sup.bothSlotsFailed then earlyEntry a && !decide (0x2100 ≤ a / 256 ∧ a / 256 ≤ 0x2103)
     else decide (s.sup.phase = .ready) || earlyEntry a)

/-- Target field of a log record (Table 18.8). -/
def logTarget (r : EntryInfo) (target : Nat) : Nat := if r.scope = .device then 0xFFFF else target

/-- Log an accepted write and answer it: a type 0x0001 record with the old and the new value, persistent_write for a persistent
entry, status 0 (R416, R417). -/
def State.dictLogged (s : State) (w : Origin) (a target : Nat) (old new : List Byte) : State :=
  match entryInfo a with
  | none => s
  | some r =>
    let s1 := s.appendLog 1 w.iface w.logFn (a / 256) (a % 256) (logTarget r target) old new
    let s2 := if r.persistent then s1.raiseMgt 0 else s1
    { s2 with mgt.answer := 0 }

/-- Accept a write of a numeric entry. -/
def State.dictNum (s : State) (w : Origin) (a target v : Nat) : State :=
  match entryInfo a with
  | none => s
  | some r =>
    let old := leBytes r.type.width (s.num a target)
    (s.setNum a v target).dictLogged w a target old (leBytes r.type.width v)

/-- Answer a write without performing it: a rejected write changes nothing and is not logged (R416). -/
def State.answer (s : State) (status : Nat) : State := { s with mgt.answer := status }

/-- Status of the checks of R418 that do not concern the value, for a writer of a device-scope entry. -/
def State.deviceCheck (s : State) (w : Origin) (a : Nat) : Nat :=
  if !s.entryLive a then 9 else if w.isVf then 3 else 0

/-- Perform a write of a device-scope entry: `status` is what the entry's own rule answers, and `effect` follows the accepted and logged
write. A WO trigger entry keeps its default. -/
def State.deviceWrite (s : State) (w : Origin) (a v status : Nat) (effect : State → State) : State :=
  let st := s.deviceCheck w a
  if st ≠ 0 then s.answer st
  else if status ≠ 0 then s.answer status
  else effect (s.dictNum w a 0 v)

/-- As `deviceWrite`, for a trigger entry that holds no value (access WO). -/
def State.triggerWrite (s : State) (w : Origin) (a v status : Nat) (effect : State → State) : State :=
  let st := s.deviceCheck w a
  if st ≠ 0 then s.answer st
  else if status ≠ 0 then s.answer status
  else match entryInfo a with
    | none => s
    | some r =>
      effect (s.dictLogged w a 0 (leBytes r.type.width (entryDefault a 0)) (leBytes r.type.width v))

/-- Status of the checks of R418 that do not concern the value, for a writer of a function-scope entry of `f`: a virtual function's
mailbox reaches its own function only, and a function that does not exist has no entries (Table 18.1, R420). -/
def State.fnCheck (s : State) (w : Origin) (f a : Nat) : Nat :=
  if !s.entryLive a then 9
  else if w.isVf && !decide (w.fn = f) then 3
  else if !s.fnExists f then 9 else 0

/-- As `deviceWrite`, for a function-scope entry. -/
def State.fnWrite (s : State) (w : Origin) (f a v status : Nat) (effect : State → State) : State :=
  let st := s.fnCheck w f a
  if st ≠ 0 then s.answer st
  else if status ≠ 0 then s.answer status
  else effect (s.dictNum w a f v)

/-- As `deviceWrite`, for a partition-scope entry: a partition above 63 is no target, and a virtual function's mailbox writes none. -/
def State.partWrite (s : State) (w : Origin) (p a v status : Nat) (effect : State → State) : State :=
  if !s.entryLive a ∨ 63 < p then s.answer 9
  else if w.isVf then s.answer 3
  else if status ≠ 0 then s.answer status
  else effect (s.dictNum w a p v)

end Sys2Proof.Machine
end

