-- ==== Sys2Proof/Machine/Groups.lean ====
section
/-! DEFINITION. Machine/Groups.lean: the end of a group and of a block, and the group barrier (R115 to R117). -/

namespace Sys2Proof.Machine

/-- Threads of a mask, rising. -/
def maskThreads (m : Nat) : List Nat := bitList 64 m

/-- Advance the PCs of threads by one instruction. -/
def Group.advance (g : Group) (mask : Nat) : Group :=
  { g with pcs := (maskThreads mask).foldl (fun p t => p.put t ((p.getD t 0 + 8) % 2 ^ 57)) g.pcs }

/-- Is a waiter one of a group's? -/
def WaiterWho.isGroup (w : WaiterWho) (c slot : Nat) : Bool :=
  match w with
  | .core c' slot' _ _ _ _ => decide (c' = c ∧ slot' = slot)
  | _ => false

/-- The resident block that holds a slot. -/
def Core.blockOf (k : Core) (slot : Nat) : Option (Nat × Block) := k.blocks.find? (fun b => b.2.slots.contains slot)

/-- Is a sync operation of a group on its way? -/
def State.groupSyncBusy (s : State) (c slot : Nat) : Bool :=
  s.syn.inbound.any (fun m => m.who.isGroup c slot) || s.syn.outbound.any (fun r => r.who.isGroup c slot) ||
  (s.syn.registering ++ s.syn.retrying).any (fun e => e.2.who.isGroup c slot) ||
  s.fab.reqs.vals.any (fun r => match r.issuer with
    | .sync w _ _ => w.isGroup c slot
    | _ => false)

/-- Does a group have atomics, ordered stores, sync operations or matrix instructions under way, so that its slot is not yet free (R115)? -/
def State.groupBusy (s : State) (c slot : Nat) : Bool :=
  s.l2.atoms.vals.any (fun a => decide (a.core = c ∧ a.slot = slot)) ||
  s.l2.bars.vals.any (fun b => decide (b.core = c ∧ b.slot = slot)) ||
  s.groupSyncBusy c slot || (s.core c).mx.queue.any (fun m => decide (m.slot = slot))

/-- A matrix array that its block releases: no holder, and no set configured (R175, CORE_MX_STATUS reads no configuration while it is not held). -/
def Mx.release (m : Mx) : Mx := { m with holder := none, sets := m.sets.mapVals (fun _ t => { t with configured := false }) }

/-- Free a block (R115): its scratch and its matrix array; `why` is 0 exited, 1 saved, 2 killed. It leaves trace record 0x04 and its time on the core
(quantity 6). -/
def State.freeBlock (s : State) (c key why : Nat) : State :=
  match (s.core c).blocks.get? key with
  | none => s
  | some b =>
    let s1 := s.modCore c (fun k => { k with
      blocks := k.blocks.del key
      mx := if b.matrix then k.mx.release else k.mx })
    let s2 := (s1.trace 1 0x04 (c / 24) c b.queue b.layer b.operator why b.block).addQty b.queue 6 (s.time.mono - b.since) b.layer b.operator
    if why = 0 then
      { s2 with fe.launches := s2.fe.launches.mapVals (fun k l => if k = b.node then { l with exited := l.exited + 1 } else l) }
    else s2

/-- Free the slot of a group (R115): outstanding loads have no register left to fill, and its block loses the slot. -/
def State.freeSlot (s : State) (c slot : Nat) : State :=
  { (s.modCore c (fun k => { k with
      groups := k.groups.del slot
      blocks := k.blocks.mapVals (fun _ b =>
        if b.slots.contains slot then { b with slots := b.slots.filter (fun x => !decide (x = slot)), freed := b.freed + 1 } else b)
      rcache := k.rcache.filter (fun e => !decide (e / 256 = slot))
      recent := k.recent.filter (fun x => !decide (x = slot))
      order := k.order.filter (fun x => !decide (x = slot)) })) with
    l2.loads := s.l2.loads.keep (fun _ l => !decide (l.core = c ∧ l.slot = slot)) }

/-- Free a group without live threads once nothing of it is under way, and its block with its last group (R115). -/
def State.reapGroup (s : State) (c slot : Nat) : State :=
  match (s.core c).groups.get? slot with
  | none => s
  | some g =>
    if g.live ≠ 0 ∨ g.faulted ∨ s.groupBusy c slot then s
    else match (s.core c).blockOf slot with
      | none => s.freeSlot c slot
      | some (key, b) =>
        let s1 := s.freeSlot c slot
        if b.slots.length ≤ 1 then s1.freeBlock c key 0 else s1

/-- The group barrier completes when as many threads wait as are live (R116): every waiting thread moves past its own GBAR. -/
def Group.gbarCheck (g : Group) : Group :=
  if g.gbar ≠ 0 ∧ popCount 64 g.gbar = popCount 64 g.live then
    { (g.advance g.gbar) with gbar := 0, gbarSince := none, gbarUsed := 0 }
  else g

end Sys2Proof.Machine
end

