-- ==== Sys2Proof/Machine/Sync.lean ====
section
/-! DEFINITION. Machine/Sync.lean: the commands of the sync unit (chapter 12): operations that reach an object, registrations, releases,
cancellations, the host commands of Table 12.5 and the grant of ranges. -/

namespace Sys2Proof.Machine

/-- Take one element out of a list. -/
def dropAt {α : Type} (l : List α) (i : Nat) : List α := l.take i ++ l.drop (i + 1)

/-- Is no earlier operation of the list on the same object (R297: operations apply in the order in which they reach it)? -/
def firstOfObj (l : List SynMsg) (i obj : Nat) : Bool := !(l.take i).any (fun m => decide (m.obj = obj))

/-- The function that an agent acts for. -/
def SynMsg.fn (m : SynMsg) : Nat := fnOfQueue m.queue

/-- Trace record 0x09 of an operation that is applied (Table 19.12): the tags of the node or group that issued it, and layer 0 and operator 0 for a remote chip. -/
def State.traceSync (s : State) (m : SynMsg) : State :=
  let tags := s.whoTags m.who
  let queue := match m.who with
    | .remote _ _ => 0xFFFF
    | _ => m.queue
  s.trace 4 0x09 17 0 queue tags.1 tags.2 m.op m.obj

/-- The node that a kill for an operation names: the agent's own, else the oldest ring entry (log entry 11). -/
def State.whoSite (s : State) (w : WaiterWho) (q : Nat) : Site :=
  match w with
  | .node id => s.siteOf q id
  | .plan ctx => (match s.fe.plans.get? ctx with
    | some p => s.siteOf q p.node
    | none => s.oldestSite q)
  | .core c slot _ _ _ _ => (match (s.core c).groups.get? slot with
    | some g => { node := g.nodeIndex, depth := g.depth, ring := g.ring, operator := g.operator, layer := g.layer }
    | none => s.oldestSite q)
  | .remote _ _ => s.oldestSite q

/-- A SYNC operation ends its context with a code: a fault of the group's lowest thread, where a core issued it and the group still stands (R119, R158, R162), else a kill. -/
def State.faultWho (s : State) (w : WaiterWho) (q code : Nat) : State :=
  match w with
  | .core c slot th _ pc num =>
    (match (s.core c).groups.get? slot with
     | some g => if g.queue = q then s.coreFault c slot (lowest th) code pc 0 false (some num) else s.kill q code (s.whoSite w q)
     | none => s.kill q code (s.whoSite w q))
  | _ => s.kill q code (s.whoSite w q)

/-- Apply one operation that has reached its object (R297). An operation on a free object, of another type, or that the access level does not allow
kills the issuing context with 0x02 (R158, R296); a transition by a skip walk does nothing then (R287). -/
def State.applyMsg (s : State) (m : SynMsg) : State :=
  match s.syn.objs.get? m.obj with
  | none => if 16 ≤ m.op then s else s.faultWho m.who m.queue 0x02
  | some x =>
    if 16 ≤ m.op then (if s.admitsFn x m.fn then s.objError m.obj (m.op - 16) else s)
    else if !x.type.defines m.op || !s.admitsFn x m.fn then
      s.faultWho m.who m.queue 0x02
    else
      let r := (s.traceSync m).objOperate m.obj x m.op m.value
      { r.2 with syn.outbound := r.2.syn.outbound ++
          [{ who := m.who, queue := m.queue, status := r.1, isWait := false, scope := m.scope }] }

/-- SYNC_OBJECT_APPLY (R297): the operation at a place of the arriving list is applied, once no earlier one waits for the same object. -/
def syncObjectApply (index : Nat) (s : State) : State :=
  match s.syn.inbound[index]? with
  | none => s
  | some m =>
    if firstOfObj s.syn.inbound index m.obj then
      State.applyMsg { s with syn.inbound := dropAt s.syn.inbound index } m
    else s

/-- A packet that answers a request of another chip: SYNC_RESP (op 0) or SYNC_RELEASE (op 1); kept for 100 µs for a repeated request (R362). -/
def State.respond (s : State) (type chip seq op status : Nat) (data : List Byte) (poison : Nat) : State :=
  let p : Packet :=
    { type := type, src := s.fab.chipId, dst := chip, seq := seq, key := 0, srcFn := 0, op := op, addr := status
      data := data, poison := poison }
  let r := s.routeOf chip status seq
  let s := s.countSent r.1 r.2 data.length 0xFFFF
  { s with
    fab.answers := s.fab.answers ++ [p]
    fab.stored := s.fab.stored.put (chip * 2 ^ 32 + seq) { resp := p, since := s.time.mono } }

/-- Kill the context of a wait; another chip's wait is answered with an ACK that carries the code, which kills its context there (R356). -/
def State.killWaiter (s : State) (w : Waiter) (code : Nat) : State :=
  match w.who with
  | .remote chip seq => s.respond 0x12 chip seq code 0 [] 0
  | _ => s.faultWho w.who w.queue code

/-- One attempt to register a wait (R296, R297, R302): none when the store of semaphore waits is full. -/
def State.registerWait (s : State) (o : Nat) (w : Waiter) : Option State :=
  match s.syn.objs.get? o with
  | none => some (s.killWaiter w 0x02)
  | some x =>
    if !x.type.defines w.op || !s.admitsFn x (fnOfQueue w.queue) then some (s.killWaiter w 0x02)
    else if x.code = 0 ∧ x.type = .sem ∧ x.value = 0 ∧ 8192 ≤ s.semWaiters then none
    else
      let m : SynMsg := { obj := o, op := w.op, value := w.value, queue := w.queue, scope := w.scope, who := w.who }
      some ((s.traceSync m).objWait o x w)

/-- SYNC_WAIT_REGISTER (R302). -/
def syncWaitRegister (index : Nat) (s : State) : State :=
  match s.syn.registering[index]? with
  | none => s
  | some (o, w) =>
    let s1 := { s with syn.registering := dropAt s.syn.registering index }
    match s1.registerWait o w with
    | some t => t
    | none => { s1 with syn.retrying := s1.syn.retrying ++ [(o, w)] }

/-- SYNC_REGISTER_RETRY (R302). -/
def syncRegisterRetry (index : Nat) (s : State) : State :=
  match s.syn.retrying[index]? with
  | none => s
  | some (o, w) =>
    let s1 := { s with syn.retrying := dropAt s.syn.retrying index }
    match s1.registerWait o w with
    | some t => t
    | none => s

/-- An acquire of scope CHIP or wider in a core (R211): L1, the scalar cache and the victim cache are emptied and the lines of outstanding loads are not
installed. Narrower scopes change nothing. -/
def State.acquire (s : State) (c scope : Nat) : State :=
  if scope < 2 then s
  else
    let s1 := s.modCore c (fun k => { k with l1 := [], scl := [], victim := [] })
    { s1 with l2.loads := s1.l2.loads.mapVals (fun _ l => if l.core = c then { l with noInstall := true } else l) }

/-- A wait of a core ends: the steps for which its entry was armed, which the spec does not state, are counted (Table 19.2, log entry 110). -/
def State.countWait (s : State) (c q : Nat) : State :=
  let u := s.freeVal 32
  u.2.countEvent 0 c 0x08 u.1 q

/-- A release or a status reaches a core (R157, R303): the status enters dst; a wait's threads move past the instruction and become ready, and a wait that
ends with OK is an acquire. A group that has exited is freed with its last status (R115). -/
def State.releaseCore (s : State) (r : SynRelease) (c slot threads dst : Nat) : State :=
  match (s.core c).groups.get? slot with
  | none => s
  | some g =>
    if g.queue ≠ r.queue ∨ g.faulted then s
    else
      let g1 := { g with s := g.s.put dst (BitVec.ofNat 64 r.status) }
      if r.isWait then
        let s1 := (s.countWait c g.queue).modCore c (fun k => { k with
          waits := k.waits - 1
          groups := k.groups.put slot (Group.advance { g1 with waiting := natAndNot 64 g.waiting threads } threads) })
        if r.status = 0 then s1.acquire c r.scope else s1
      else (s.modCore c (fun k => { k with groups := k.groups.put slot g1 })).reapGroup c slot

/-- Mark a node's work done. -/
def State.nodeDone (s : State) (id : Nat) : State :=
  { s with fe.nodes := s.fe.nodes.mapVals (fun k n => if k = id then { n with done := true } else n) }

/-- A release or a status reaches a node (R288, R268): a WAIT node completes with OK, and with ERROR is skipped and kills its queue with 0x09; a COPY's signal is applied;
a SIGNAL's operation is applied. -/
def State.releaseNode (s : State) (r : SynRelease) (id : Nat) : State :=
  match s.fe.nodes.get? id with
  | none => s
  | some n =>
    if r.isWait ∧ r.status % 256 ≠ 0 then
      let s1 := { s with fe.nodes := s.fe.nodes.put id { n with status := .skipped } }
      s1.kill n.queue 0x09 n.site
    else if n.type = 2 then
      { s with fe.copies := s.fe.copies.mapVals (fun k c => if k = id then { c with signalled := true } else c) }
    else s.nodeDone id

/-- Register a0 of a plan context. -/
def PlanCtx.setX (p : PlanCtx) (r : Nat) (v : DWord) : PlanCtx := if r = 0 then p else { p with x := p.x.set r v }

/-- A status reaches a plan context (R282): a0 holds it and the call returns. -/
def State.releasePlan (s : State) (r : SynRelease) (ctx : Nat) : State :=
  match s.fe.plans.get? ctx with
  | none => s
  | some p =>
    if p.queue ≠ r.queue then s
    else
      let p1 : PlanCtx := { p.setX 10 (BitVec.ofNat 64 r.status) with wait := .none, pc := (p.pc + 4) % 2 ^ 64 }
      { s with fe.plans := s.fe.plans.put ctx p1 }

/-- One release or status reaches the agent that it is for (R303). -/
def State.deliver (s : State) (r : SynRelease) : State :=
  match r.who with
  | .core c slot th dst _ _ => s.releaseCore r c slot th dst
  | .node id => s.releaseNode r id
  | .plan ctx => s.releasePlan r ctx
  | .remote chip seq => s.respond 0x14 chip seq (if r.isWait then 1 else 0) r.status [] 0

/-- WAITER_RELEASE (R303). -/
def waiterRelease (index : Nat) (s : State) : State :=
  match s.syn.outbound[index]? with
  | none => s
  | some r => State.deliver { s with syn.outbound := dropAt s.syn.outbound index } r

/-- Deliver every release of a wait of one group that is on its way. -/
def State.deliverGroup (s : State) (c slot : Nat) : State :=
  let mine := s.syn.outbound.filter (fun r => r.isWait && r.who.isGroup c slot)
  mine.foldl State.deliver
    { s with syn.outbound := s.syn.outbound.filter (fun r => !(r.isWait && r.who.isGroup c slot)) }

/-- Requests of a group's remote waits. -/
def Req.isGroupWait (r : Req) (c slot : Nat) : Bool :=
  match r.issuer with
  | .sync w isWait _ => isWait && w.isGroup c slot
  | _ => false

/-- Send the cancellation of a wait on another chip's object, named by the chip and the number of the wait's request, once (R157, log entry 13): a SYNC_OP with op 8. -/
def State.cancelFar (s : State) (key q : Nat) (i : Issuer) : State :=
  if s.asked (.cancel key) then s
  else (s.sendReq (fnOfQueue q) q 0x04 (key / 2 ^ 32) 8 0 (leBytes 8 (key % 2 ^ 32) ++ zeroBytes 8) 0 i).2

/-- The waits of some agent on other chips' objects are cancelled there; until an answer comes they stand. -/
def State.cancelFars (s : State) (p : WaiterWho → Bool) : State :=
  (s.fab.remoteWaits.filter (fun e => p e.2.who)).foldl (fun s e => s.cancelFar e.1 e.2.queue (.cancel e.1)) s

/-- A cancellation has come first (R157): the object took nothing, and a core's threads stay at the SYNC instruction. -/
def State.waitCancelled (s : State) (key : Nat) : State :=
  match s.fab.remoteWaits.get? key with
  | none => s
  | some w =>
    let s1 : State := { s with fab.remoteWaits := s.fab.remoteWaits.del key }
    match w.who with
    | .core c slot th _ _ _ => (s1.countWait c w.queue).modCore c (fun k => { k with
        waits := k.waits - 1
        groups := k.groups.mapVals (fun i g => if i = slot then { g with waiting := natAndNot 64 g.waiting th } else g) })
    | _ => s1

/-- Has a group a wait that stands at an object, or on its way there? -/
def State.groupWaits (s : State) (c slot : Nat) : Bool :=
  s.syn.objs.vals.any (fun x => x.waiters.any (fun w => w.who.isGroup c slot)) ||
    (s.syn.registering ++ s.syn.retrying).any (fun e => e.2.who.isGroup c slot) || s.fab.reqs.vals.any (fun r => r.isGroupWait c slot) ||
    s.fab.remoteWaits.vals.any (fun w => w.who.isGroup c slot)

/-- SYNC_WAIT_CANCEL (R157): for a group that has stopped, a wait that was released first has ended; every other wait on this chip's objects took nothing, and its threads stay at the
SYNC instruction. A cancellation goes to every other chip at whose object a wait of the group is registered. -/
def syncWaitCancel (core slot : Nat) (s : State) : State :=
  match (s.core core).groups.get? slot with
  | none => s
  | some g =>
    if !g.stopped then s
    else
      let s1 := s.deliverGroup core slot
      let near := (s1.syn.objs.vals.flatMap (fun x => x.waiters)).map (fun w => w.who) ++ (s1.syn.registering ++ s1.syn.retrying).map (fun e => e.2.who)
      let mine := near.filter (fun w => w.isGroup core slot)
      let threads := mine.foldl (fun m w => match w with
        | .core _ _ th _ _ _ => natOr 64 m th
        | _ => m) 0
      let s2 := (s1.dropWaiters (fun w => w.who.isGroup core slot)).cancelFars (fun w => w.isGroup core slot)
      (if mine.isEmpty then s2 else s2.countWait core g.queue).modCore core (fun k => { k with
        waits := k.waits - mine.length
        groups := k.groups.mapVals (fun i g => if i = slot then { g with waiting := natAndNot 64 g.waiting threads } else g) })

/-! Host commands (R310, R311). -/

/-- Fields of SYN_CMD (Table 12.6). -/
def cmdCode (v : Nat) : Nat := bits v 63 60
/-- type. -/
def cmdType (v : Nat) : Nat := bits v 59 58
/-- access. -/
def cmdAccess (v : Nat) : Nat := bits v 57 56
/-- param. -/
def cmdParam (v : Nat) : Nat := bits v 55 48
/-- participants. -/
def cmdPart (v : Nat) : Nat := bits v 47 32
/-- object. -/
def cmdObj (v : Nat) : Nat := bits v 15 0

/-- Does an object lie in a partition's range (R295)? -/
def State.inRange (s : State) (p o : Nat) : Bool :=
  let r := s.num (E.syncRange + p)
  decide (bits r 7 0 ≤ o / 256) && decide (o / 256 < bits r 7 0 + bits r 24 16)

/-- Finish a host command: result and the named object's status in SYN_STATUS, and SYN_CMD_RESULT (Tables 12.8 and 12.9). -/
def State.synDone (s : State) (f o result value : Nat) : State :=
  let st := match s.syn.objs.get? o with
    | none => result
    | some x => x.code * 2 ^ 24 + x.type.code * 2 ^ 18 + 2 ^ 17 + b2n x.saturated * 2 ^ 16 + result
  s.modFn f (fun g => { g with synStatus := st, synResult := value })

/-- Fields that Table 12.6 gives as zero for a command other than CREATE. -/
def cmdPlain (v : Nat) : Bool := decide (cmdType v = 0 ∧ cmdAccess v = 0 ∧ cmdPart v = 0)

/-- Is the function the owner? -/
def SynObj.ownedBy (x : SynObj) (f : Nat) : Bool := decide (x.owner = f)

/-- A command on a created object: `bad` is the check of result 4, `err` of result 3 beyond a free object, `allowed` of result 2, `late` of result 5;
`go` is the effect with its result value. -/
def State.synCommand (s : State) (f v : Nat) (bad : Bool) (err : SynObj → Bool) (allowed : SynObj → Bool) (late : SynObj → Bool)
    (go : SynObj → State × Nat) : State :=
  let o := cmdObj v
  if bad then s.synDone f o 4 0
  else match s.syn.objs.get? o with
    | none => s.synDone f o 3 0
    | some x =>
      if err x then s.synDone f o 3 0
      else if !allowed x then s.synDone f o 2 0
      else if late x then s.synDone f o 5 0
      else
        let r := go x
        r.1.synDone f o 0 r.2

/-- CREATE (0x0). -/
def synCreate (fn cmd : Nat) (s : State) : State :=
  let o := cmdObj cmd
  let arg := (s.fn fn).synArg
  if cmdCode cmd ≠ 0 then s
  else if cmdType cmd = 3 ∨ cmdParam cmd ≠ 0 ∨ (cmdType cmd = 2 ∧ cmdPart cmd = 0) ∨ (cmdType cmd ≠ 2 ∧ cmdPart cmd ≠ 0) then
    s.synDone fn o 4 0
  else if !s.inRange (s.fnPart fn) o then s.synDone fn o 1 0
  else if s.syn.objs.has o then s.synDone fn o 3 0
  else
    let x : SynObj :=
      { type := if cmdType cmd = 0 then .fence else if cmdType cmd = 1 then .sem else .bar
        owner := fn, access := cmdAccess cmd, code := 0
        value := if cmdType cmd = 0 then arg else if cmdType cmd = 1 then arg % 2 ^ 32 else 0
        saturated := false, participants := cmdPart cmd, arrivals := 0, generation := 0, mirror := none, notify := none
        waiters := [] }
    State.synDone { s with syn.objs := s.syn.objs.put o x } fn o 0 0

/-- DESTROY (0x1): ERROR(0x10) for the waiters, then free. -/
def synDestroy (fn cmd : Nat) (s : State) : State :=
  if cmdCode cmd ≠ 1 then s
  else s.synCommand fn cmd (!cmdPlain cmd || !decide (cmdParam cmd = 0)) (fun _ => false) (fun x => x.ownedBy fn) (fun _ => false)
    (fun _ =>
      let s1 := s.objError (cmdObj cmd) 0x10
      ({ s1 with syn.objs := s1.syn.objs.del (cmdObj cmd) }, 0))

/-- OPERATE (0x2). -/
def synOperate (fn cmd : Nat) (s : State) : State :=
  let op := cmdParam cmd
  let undefined := match s.syn.objs.get? (cmdObj cmd) with
    | some x => !x.type.defines op
    | none => false
  if cmdCode cmd ≠ 2 then s
  else s.synCommand fn cmd (!cmdPlain cmd || !decide (op = 0 ∨ op = 3 ∨ op = 5) || undefined)
    (fun x => !decide (x.code = 0)) (fun x => s.admitsFn x fn) (fun _ => false)
    (fun x =>
      let r := (s.trace 4 0x09 17 0 0xFFFF 0 0 op (cmdObj cmd)).objOperate (cmdObj cmd) x op (s.fn fn).synArg
      (r.2, r.1))

/-- SET_ERROR (0x3). -/
def synSetError (fn cmd : Nat) (s : State) : State :=
  if cmdCode cmd ≠ 3 then s
  else s.synCommand fn cmd (!cmdPlain cmd || !decide (1 ≤ cmdParam cmd ∧ cmdParam cmd ≤ 0x11)) (fun _ => false)
    (fun x => x.ownedBy fn) (fun _ => false) (fun _ => (s.objError (cmdObj cmd) (cmdParam cmd), 0))

/-- RESET_OBJ (0x4). -/
def synResetObj (fn cmd : Nat) (s : State) : State :=
  let arg := (s.fn fn).synArg
  if cmdCode cmd ≠ 4 then s
  else s.synCommand fn cmd (!cmdPlain cmd || !decide (cmdParam cmd = 0)) (fun _ => false) (fun x => x.ownedBy fn)
    (fun x => !x.waiters.isEmpty)
    (fun x =>
      (s.finishObj (cmdObj cmd) x { x with
        code := 0, saturated := false, arrivals := 0
        value := match x.type with
          | .fence => arg
          | .sem => arg % 2 ^ 32
          | .bar => x.value }, 0))

/-- READ (0x5). -/
def synRead (fn cmd : Nat) (s : State) : State :=
  if cmdCode cmd ≠ 5 then s
  else s.synCommand fn cmd (!cmdPlain cmd || !decide (cmdParam cmd = 0)) (fun _ => false) (fun x => s.admitsFn x fn)
    (fun _ => false) (fun x => (s, x.stateWord))

/-- MIRROR (0x6, R312). -/
def synMirror (fn cmd : Nat) (s : State) : State :=
  let arg := (s.fn fn).synArg
  if cmdCode cmd ≠ 6 then s
  else s.synCommand fn cmd (!cmdPlain cmd || !decide (cmdParam cmd = 0) || !decide (arg % 16 = 0)) (fun _ => false)
    (fun x => s.admitsFn x fn) (fun _ => false)
    (fun x =>
      let y := { x with mirror := if arg = 0 then none else some (fn, arg) }
      ({ s with syn.objs := s.syn.objs.put (cmdObj cmd) y }, 0))

/-- Vectors of a function (Table 13.1). -/
def vectorsOf (f : Nat) : Nat := if f = 0 then 64 else 8

/-- NOTIFY (0x7, R313). -/
def synNotify (fn cmd : Nat) (s : State) : State :=
  if cmdCode cmd ≠ 7 then s
  else s.synCommand fn cmd (!cmdPlain cmd || !decide (cmdParam cmd < vectorsOf fn)) (fun _ => false)
    (fun x => s.admitsFn x fn) (fun _ => false)
    (fun x =>
      let y := { x with notify := some (fn, cmdParam cmd, (s.fn fn).synArg) }
      (State.notifyCheck { s with syn.objs := s.syn.objs.put (cmdObj cmd) y } (cmdObj cmd), 0))

/-- A reserved command (0x8 to 0xF): result 4. -/
def synReserved (fn cmd : Nat) (s : State) : State := s.synDone fn (cmdObj cmd) 4 0

/-- A host command to the sync unit follows the function's earlier requests (R256, R310). -/
def State.synHost (s : State) (f cmd : Nat) (mine : Bool) (go : State → State) : State :=
  if mine then s.inOrder f (.regWrite f 0x7000 8 cmd) go else go s

/-! The grant of ranges (R295). -/

/-- Status of a sync_range write: 4 for a value outside its layout, 5 where R295 rejects it. -/
def State.syncRangeStatus (s : State) (p v : Nat) : Nat :=
  let lo := bits v 7 0
  let n := bits v 24 16
  if v ≠ lo + n * 2 ^ 16 ∨ 256 < n then 4
  else if 256 < lo + n then 5
  else if (List.range 64).any (fun q =>
      !decide (q = p) &&
        let r := s.num (E.syncRange + q)
        decide (0 < n) && decide (0 < bits r 24 16) && decide (lo < bits r 7 0 + bits r 24 16) && decide (bits r 7 0 < lo + n)) then 5
  else if s.syn.objs.keys.any (fun o => s.inRange p o && !(decide (lo ≤ o / 256) && decide (o / 256 < lo + n))) then 5
  else 0

/-- SYNC_RANGE_WRITE (R295). -/
def syncRangeWrite (who : Origin) (partition value : Nat) (s : State) : State :=
  s.deviceWrite who (E.syncRange + partition) value (s.syncRangeStatus partition value) (fun t => t)

/-! The meanings. -/

/-- SYNC_OBJECT_APPLY (R297). -/
def execSyncObjectApply (index : Nat) (s : State) : Host.Outcome State Fault Refusal :=
  .next (syncObjectApply index s)
/-- SYNC_WAIT_REGISTER (R302). -/
def execSyncWaitRegister (index : Nat) (s : State) : Host.Outcome State Fault Refusal :=
  .next (syncWaitRegister index s)
/-- SYNC_REGISTER_RETRY (R302). -/
def execSyncRegisterRetry (index : Nat) (s : State) : Host.Outcome State Fault Refusal :=
  .next (syncRegisterRetry index s)
/-- WAITER_RELEASE (R303). -/
def execWaiterRelease (index : Nat) (s : State) : Host.Outcome State Fault Refusal :=
  .next (waiterRelease index s)
/-- SYNC_WAIT_CANCEL (R157). -/
def execSyncWaitCancel (core : Nat) (slot : Nat) (s : State) : Host.Outcome State Fault Refusal :=
  .next (syncWaitCancel core slot s)
/-- SYN_CREATE (R310). -/
def execSynCreate (fn : Nat) (cmd : Nat) (s : State) : Host.Outcome State Fault Refusal :=
  .next (s.synHost fn cmd (cmdCode cmd = 0) (synCreate fn cmd))
/-- SYN_DESTROY (R310). -/
def execSynDestroy (fn : Nat) (cmd : Nat) (s : State) : Host.Outcome State Fault Refusal :=
  .next (s.synHost fn cmd (cmdCode cmd = 1) (synDestroy fn cmd))
/-- SYN_OPERATE (R310). -/
def execSynOperate (fn : Nat) (cmd : Nat) (s : State) : Host.Outcome State Fault Refusal :=
  .next (s.synHost fn cmd (cmdCode cmd = 2) (synOperate fn cmd))
/-- SYN_SET_ERROR (R310). -/
def execSynSetError (fn : Nat) (cmd : Nat) (s : State) : Host.Outcome State Fault Refusal :=
  .next (s.synHost fn cmd (cmdCode cmd = 3) (synSetError fn cmd))
/-- SYN_RESET_OBJ (R310). -/
def execSynResetObj (fn : Nat) (cmd : Nat) (s : State) : Host.Outcome State Fault Refusal :=
  .next (s.synHost fn cmd (cmdCode cmd = 4) (synResetObj fn cmd))
/-- SYN_READ (R310). -/
def execSynRead (fn : Nat) (cmd : Nat) (s : State) : Host.Outcome State Fault Refusal :=
  .next (s.synHost fn cmd (cmdCode cmd = 5) (synRead fn cmd))
/-- SYN_MIRROR (R312). -/
def execSynMirror (fn : Nat) (cmd : Nat) (s : State) : Host.Outcome State Fault Refusal :=
  .next (s.synHost fn cmd (cmdCode cmd = 6) (synMirror fn cmd))
/-- SYN_NOTIFY (R313). -/
def execSynNotify (fn : Nat) (cmd : Nat) (s : State) : Host.Outcome State Fault Refusal :=
  .next (s.synHost fn cmd (cmdCode cmd = 7) (synNotify fn cmd))
/-- SYNC_RANGE_WRITE (R295). -/
def execSyncRangeWrite (who : Origin) (partition : Nat) (value : Nat) (s : State) : Host.Outcome State Fault Refusal :=
  .next (syncRangeWrite who partition value s)

end Sys2Proof.Machine
end

