-- ==== Sys2Proof/Machine/Operands.lean ====
section
/-! DEFINITION. Machine/Operands.lean: instruction words and their legality, the registers of a group, every operand form of chapter 6, and
the issue of one instruction: which threads take part, what must be available, the fetch, and the books that an issue keeps (R106 to R114, R127 to R136,
R160). -/

namespace Sys2Proof

/-! Instruction words (Tables 6.2 to 6.8 and 7.5). -/

/-- Opcode and guard. -/
def wordHead (op guard : Nat) (neg : Bool) : Nat := op * 2 ^ 56 + guard * 2 ^ 53 + b2n neg * 2 ^ 52

/-- Format A. -/
def FmtA.word (f : FmtA) (op : Nat) : Nat :=
  wordHead op f.guard f.guardNeg + f.dst * 2 ^ 44 + f.a * 2 ^ 36 + f.b * 2 ^ 28 + f.c * 2 ^ 20 + f.reuse * 2 ^ 17 +
    f.scal * 2 ^ 14 + f.type * 2 ^ 9 + f.rnd * 2 ^ 7 + b2n f.sat * 2 ^ 6 + b2n f.S * 2 ^ 5 + f.sub

/-- Format I. -/
def FmtI.word (f : FmtI) (op : Nat) : Nat :=
  wordHead op f.guard f.guardNeg + f.dst * 2 ^ 44 + f.a * 2 ^ 36 + b2n f.reuseA * 2 ^ 35 + b2n f.scalA * 2 ^ 34 +
    b2n f.S * 2 ^ 33 + b2n f.hi * 2 ^ 32 + f.imm

/-- Format M. -/
def FmtM.word (f : FmtM) (op : Nat) : Nat :=
  wordHead op f.guard f.guardNeg + f.data * 2 ^ 44 + f.base * 2 ^ 36 + f.scope * 2 ^ 33 + f.size * 2 ^ 30 +
    b2n f.space * 2 ^ 29 + b2n f.baseS * 2 ^ 28 + b2n f.S * 2 ^ 27 + b2n f.signed * 2 ^ 26 + f.hint * 2 ^ 24 + f.offset

/-- Format X with an atom_op. -/
def FmtX.word (f : FmtX) (atomOp : Nat) : Nat :=
  wordHead 0x80 f.guard f.guardNeg + f.dst * 2 ^ 44 + f.base * 2 ^ 36 + f.operand * 2 ^ 28 + f.compare * 2 ^ 20 +
    f.scope * 2 ^ 17 + b2n f.far * 2 ^ 16 + b2n f.width * 2 ^ 15 + b2n f.space * 2 ^ 14 + b2n f.baseS * 2 ^ 13 +
    b2n f.discard * 2 ^ 12 + atomOp * 2 ^ 8 + f.zero

/-- Format Y with a sync_op. -/
def FmtY.word (f : FmtY) (syncOp : Nat) : Nat :=
  wordHead 0x90 f.guard f.guardNeg + f.dst * 2 ^ 44 + f.handle * 2 ^ 36 + f.value * 2 ^ 28 + syncOp * 2 ^ 24 +
    f.scope * 2 ^ 21 + f.zero

/-- Format B. -/
def FmtB.word (f : FmtB) (op : Nat) : Nat :=
  wordHead op f.guard f.guardNeg + f.link * 2 ^ 44 + f.target * 2 ^ 36 + f.zero * 2 ^ 32 + f.offset

/-- Format O with a kind; bits [51:20] and [14:0] are the fields named zero, the lower 15 bits first. -/
def FmtO.word (f : FmtO) (kind : Nat) : Nat :=
  wordHead 0x88 f.guard f.guardNeg + f.zero / 2 ^ 15 * 2 ^ 20 + f.scope * 2 ^ 17 + kind * 2 ^ 15 + f.zero % 2 ^ 15

/-- Format MX. -/
def FmtMx.word (f : FmtMx) (op : Nat) : Nat :=
  wordHead op f.guard f.guardNeg + f.sa * 2 ^ 44 + f.sb * 2 ^ 36 + f.sc * 2 ^ 28 + f.zero * 2 ^ 20 + f.ctl

/-- Does Table 6.10 list the opcode of a word, with a listed atom_op, kind or sync_op? -/
def listedWord (w : Nat) : Bool :=
  let op := w / 2 ^ 56
  decide (op ≤ 0x06) || decide (0x10 ≤ op ∧ op ≤ 0x15) || decide (0x18 ≤ op ∧ op ≤ 0x1E) ||
    decide (0x30 ≤ op ∧ op ≤ 0x44) || decide (0x50 ≤ op ∧ op ≤ 0x59) || decide (0x60 ≤ op ∧ op ≤ 0x66) ||
    decide (0x70 ≤ op ∧ op ≤ 0x76) || (decide (op = 0x80) && decide (bits w 11 8 ≤ 12)) ||
    (decide (op = 0x88) && decide (bits w 16 15 ≤ 2)) || (decide (op = 0x90) && decide (bits w 27 24 ≤ 6)) ||
    decide (0xC0 ≤ op ∧ op ≤ 0xC5)

/-! Legality of register fields (R128, R131, Table 6.18). -/

/-- A vector register, pair or quad inside an allocation of `n` registers. -/
def vregOk (n size r : Nat) : Bool := decide (r % size = 0) && decide (r + size ≤ n)

/-- A scalar register field: bits [7:6] zero. -/
def sregOk (r : Nat) : Bool := decide (r < 64)

/-- A predicate field: bits [7:3] zero. -/
def predOk (r : Nat) : Bool := decide (r < 8)

end Sys2Proof

namespace Sys2Proof.Machine

/-! Registers of a group (R110, R128). -/

/-- One vector register of a thread. -/
def Group.vreg (g : Group) (r t : Nat) : Nat := (g.v.getD (r * 64 + t) 0#32).toNat

/-- `n` consecutive vector registers of a thread, the first lowest. -/
def Group.vregs_ (g : Group) (r t : Nat) : Nat → Nat
  | 0 => 0
  | n + 1 => g.vreg r t + 2 ^ 32 * Group.vregs_ g (r + 1) t n

/-- A scalar register. -/
def Group.sreg (g : Group) (r : Nat) : Nat := (g.s.getD r 0#64).toNat

/-- A predicate; p7 reads as true. -/
def Group.pred (g : Group) (r t : Nat) : Bool := decide (r = 7) || bit (g.p.getD t 0) r

/-- Write `n` consecutive vector registers of a thread. -/
def Group.setV (g : Group) (r t v : Nat) : Nat → Group
  | 0 => g
  | n + 1 => Group.setV { g with v := g.v.put (r * 64 + t) (BitVec.ofNat 32 v) } (r + 1) t (v / 2 ^ 32) n

/-- Write a scalar register. -/
def Group.setS (g : Group) (r v : Nat) : Group := { g with s := g.s.put r (BitVec.ofNat 64 v) }

/-- Write a predicate; a write to p7 is discarded (R128). -/
def Group.setP (g : Group) (r t : Nat) (v : Bool) : Group :=
  if r = 7 then g else { g with p := g.p.put t (if v then setBit (g.p.getD t 0) r else clrBit (g.p.getD t 0) r) }

/-- Change a group for each thread of a mask, in ascending order. -/
def Group.eachThread (g : Group) (mask : Nat) (f : Group → Nat → Group) : Group := (bitList 64 mask).foldl f g

/-! The threads of an issue. -/

/-- Threads that issue together at an address: live, there, and not waiting at a group barrier (R106). -/
def Group.issueMask (g : Group) (pc : Nat) : Nat :=
  ofBitList ((List.range 64).filter (fun t => bit g.live t && !bit g.gbar t && decide (g.pcs.getD t 0 = pc)))

/-- Does the guard hold in a thread (R133)? -/
def Group.guard (g : Group) (r : Nat) (neg : Bool) (t : Nat) : Bool := g.pred r t != neg

/-- The threads of a mask whose guard holds. -/
def Group.guardMask (g : Group) (r : Nat) (neg : Bool) (mask : Nat) : Nat :=
  ofBitList ((bitList 64 mask).filter (g.guard r neg))

/-- An issue that goes on: where, the group as it stands, the threads that take part and those whose guard holds. -/
structure Iss where
  core : Nat
  slot : Nat
  pc : Nat
  g : Group
  mask : Nat
  act : Nat
deriving DecidableEq, Repr

/-- The lowest thread of the issue (R130). -/
def Iss.lead (x : Iss) : Nat := lowest x.mask

/-- Does an instruction that acts once per issue act (R130)? -/
def Iss.once (x : Iss) : Bool := bit x.act x.lead

/-- Put the group back. -/
def Iss.put (x : Iss) (s : State) (g : Group) : State :=
  s.modCore x.core (fun k => { k with groups := k.groups.put x.slot g })

/-- Put the group back with the threads of the issue advanced (R129). -/
def Iss.done (x : Iss) (s : State) (g : Group) : State := x.put s (g.advance x.mask)

/-- A fault in a thread of the issue (R118, R119). -/
def Iss.fault (x : Iss) (s : State) (thread code addr : Nat) : State := s.coreFault x.core x.slot thread code x.pc addr

/-- The function of the group. -/
def Iss.fn (x : Iss) : Nat := fnOfQueue x.g.queue

/-! What an instruction needs. -/

/-- An instruction at its issue: word, guard, legality under an allocation, whether it is a vector instruction, and the registers that it reads, hints and
writes (vector register r is r, scalar register r is 256 + r). -/
structure Form where
  word : Nat
  guard : Nat
  neg : Bool
  legal : Nat → Bool
  vec : Bool
  srcs : List Nat
  hints : List Nat
  dsts : List Nat
  /-- What else must hold for the instruction to issue. -/
  ready : State → Iss → Bool := fun _ _ => true

/-- Vector registers `r` to `r + n - 1`. -/
def vlist (r n : Nat) : List Nat := rangeFrom r n

/-- Registers that a memory value of some bytes fills. -/
def regsOfBytes (n : Nat) : Nat := if n ≤ 4 then 1 else n / 4

/-- Registers of a load that has not returned. -/
def Load.dsts (l : Load) : List Nat :=
  if l.kind = 0 then vlist l.dst (regsOfBytes l.bytes) else if l.kind = 1 then [256 + l.dst] else []

/-- Does a load or atomic concern threads of a mask? -/
def touches (mask : Nat) (l : List Acc) : Bool := l.any (fun a => bit mask a.thread)

/-- The destination of a sync operation of a group. -/
def WaiterWho.dstOf (w : WaiterWho) (c slot : Nat) : List Nat :=
  match w with
  | .core c' slot' _ dst _ _ => if c' = c ∧ slot' = slot then [256 + dst] else []
  | _ => []

/-- Registers of a group that are not yet available to threads of a mask: results of loads, atomics and sync operations on their way (R106). -/
def State.pendingRegs (s : State) (c slot mask : Nat) : List Nat :=
  (s.l2.loads.vals.filter (fun l => decide (l.core = c ∧ l.slot = slot) && (decide (l.kind = 1) || touches mask l.accs))).flatMap
      Load.dsts ++
  (s.l2.atoms.vals.filter (fun a => decide (a.core = c ∧ a.slot = slot) && !a.discard && touches mask a.accs)).flatMap
      (fun a => vlist a.dst (a.bytes / 4)) ++
  s.l2.bars.vals.flatMap (fun b => match b.sync with
    | some m => m.1.who.dstOf c slot
    | none => []) ++
  s.syn.inbound.flatMap (fun m => m.who.dstOf c slot) ++
  s.syn.outbound.flatMap (fun r => r.who.dstOf c slot) ++
  s.fab.reqs.vals.flatMap (fun r => match r.issuer with
    | .sync w _ _ => w.dstOf c slot
    | _ => [])

/-! The fetch (R127, R160). -/

/-- What a fetch brings. -/
inductive Fetched
  | word (w : Nat) (s : State)
  | fault (code : Nat)
  | wait
  | sent (s : State)      -- the word stands on another chip, and has been asked for

/-- Words that the instruction cache holds (R160: 32 KiB). -/
def icacheWords : Nat := 4096

/-- Key of a word in an instruction cache: function and address. -/
def icacheKey (f pc : Nat) : Nat := f * 2 ^ 54 + pc / 8

/-- Put a word into an instruction cache; a full cache starts anew (DESIGN CHOICE, log entry 19: the spec gives no replacement order). -/
def Core.cacheWord (k : Core) (key w : Nat) : Core :=
  { k with icache := if icacheWords ≤ k.icache.length then [(key, w)] else k.icache.put key w }

/-- Fetch the word at an address of a group's function: from the core's instruction cache, else from memory (R160). A word on another chip is asked
for with a READ and enters the cache when it arrives. -/
def State.fetchWord (s : State) (c slot q pc : Nat) : Fetched :=
  let f := fnOfQueue q
  match (s.core c).icache.get? (icacheKey f pc) with
  | some w => .word w s
  | none =>
    match s.translate f pc .fetch with
    | .bad code => .fault code
    | .ok t a =>
      if t = 0 then
        if s.pocPoison a 8 then .fault 0x03
        else
          let w := ofLe (s.pocRead a 8)
          .word w (s.modCore c (fun k => k.cacheWord (icacheKey f pc) w))
      else if t = 2 then
        if !s.hostOpen f a false then .wait
        else
          let r := s.hostRead a 8
          let w := ofLe r.1
          .word w (r.2.modCore c (fun k => k.cacheWord (icacheKey f pc) w))
      else if s.asked (.code c slot pc) then .wait
      else
        let r := s.sendReq f q 0x01 (bits a 59 48) 0 (a % 2 ^ 48) [] 0 (.code c slot pc)
        if r.1 = 0 then .sent r.2 else if r.1 = 0x100 then .wait else .fault r.1

/-! The books of an issue. -/

/-- Bring an entry to the front of a register cache. -/
def rcFront (l : List Nat) (e : Nat) : List Nat := e :: l.filter (fun x => !decide (x = e))

/-- Register cache after an issue (R112): sources found are used, results and hinted sources are allocated, and the slot keeps its 16 most recently used entries. -/
def rcIssue (l : List Nat) (slot : Nat) (srcs hints dsts : List Nat) : List Nat :=
  let ent (r : Nat) : Nat := slot * 256 + r
  let vecs := fun (rs : List Nat) => rs.filter (fun r => decide (r < 256))
  let used := (vecs srcs).filter (fun r => l.contains (ent r) || hints.contains r)
  let l1 := (used ++ vecs dsts).foldl (fun a r => rcFront a (ent r)) l
  (l1.filter (fun e => decide (e / 256 = slot))).take 16 ++ l1.filter (fun e => !decide (e / 256 = slot))

/-- The two most recently issued groups, the run of the newest, and the order of the groups' last issue slots (R107, R112). -/
def Core.noteGroup (k : Core) (slot : Nat) : Core :=
  let order := slot :: k.order.filter (fun x => !decide (x = slot))
  match k.recent with
  | [] => { k with recent := [slot], run := 1, order := order }
  | a :: _ =>
    if a = slot then { k with run := min 16 (k.run + 1), order := order }
    else
      let r := [slot, a]
      { k with recent := r, run := 1, order := order, rcache := k.rcache.filter (fun e => r.contains (e / 256)) }

/-- Issue slots that the group's other live threads have waited (R108); the threads that issue start again, without their YIELD mark (R109). -/
def Group.age (g : Group) (mask : Nat) : Group :=
  { g with
    yielded := natAndNot 64 g.yielded mask
    ages := (bitList 64 g.live).foldl (fun m t => if bit mask t then m.del t else m.put t (m.getD t 0 + 1)) g.ages }

/-- Quarters of a narrow group that hold a thread of the issue; a full core issues once (R103). -/
def issueSteps (width mask : Nat) : Nat :=
  if width = 32 then 1 else (List.range 4).countP (fun q => !decide (mask / 2 ^ (16 * q) % 2 ^ 16 = 0))

/-- Count an issue (Table 19.2, Table 19.7). -/
def State.countIssue (s : State) (c : Nat) (g : Group) (vec : Bool) (mask act : Nat) : State :=
  let n := if vec then issueSteps g.width mask else 1
  let s1 := (s.countEvent 0 c 0x05 n g.queue).countEvent 0 c (if vec then 0x01 else 0x02) n g.queue
  if vec then s1.addQty g.queue 1 (popCount 64 act) g.layer g.operator else s1

/-- Count corrected errors of the register file and parity errors of the register cache (R113, R114). -/
def State.countEcc (s : State) (c corrected parity : Nat) : State :=
  let s1 := s.modCore c (fun k => { k with
    rfCorrected := min (2 ^ 32 - 1) (k.rfCorrected + corrected), rcParity := min (2 ^ 32 - 1) (k.rcParity + parity) })
  if corrected = 0 then s1 else s1.addNum E.regEccCorrected 64 corrected

/-- The first group of a restored queue that issues makes it RUNNING (R291). -/
def State.resumeAtIssue (s : State) (q : Nat) : State :=
  if (s.q q).state = .preempted ∧ (s.q q).resumePending then
    s.modQ q (fun x => { x with state := .running, resumePending := false, slicePreempt := false })
  else s

end Sys2Proof.Machine

namespace Sys2Proof

/-! Operand forms of format A (R131, Table 6.3). -/

/-- Is a source of format A a scalar register? k is 2 for a, 1 for b, 0 for c. -/
def FmtA.isScal (f : FmtA) (k : Nat) : Bool := f.S || bit f.scal k

/-- The field of a source. -/
def FmtA.field (f : FmtA) (k : Nat) : Nat := if k = 2 then f.a else if k = 1 then f.b else f.c

/-- A register source of `size` registers is legal: a scalar one without a reuse hint, or a vector register, pair or quad in the allocation. -/
def FmtA.srcOk (f : FmtA) (n k size : Nat) : Bool :=
  if f.isScal k then !bit f.reuse k && sregOk (f.field k) else vregOk n size (f.field k)

/-- An unused source is zero, without hint or scalar select (R134). -/
def FmtA.unused (f : FmtA) (k : Nat) : Bool := decide (f.field k = 0) && !bit f.reuse k && !bit f.scal k

/-- A source that names a predicate. -/
def FmtA.predSrc (f : FmtA) (k : Nat) : Bool := predOk (f.field k) && !bit f.reuse k && !bit f.scal k

/-- The destination of a form: a scalar register with S, else `size` vector registers. -/
def FmtA.dstOk (f : FmtA) (n size : Nat) : Bool := if f.S then sregOk f.dst else vregOk n size f.dst

/-- Registers of a source. -/
def FmtA.srcRegs (f : FmtA) (k size : Nat) : List Nat :=
  if f.isScal k then [256 + f.field k] else rangeFrom (f.field k) size

/-- Registers of the sources that carry a reuse hint. -/
def FmtA.hinted (f : FmtA) : List Nat :=
  [2, 1, 0].flatMap (fun k => if bit f.reuse k && !f.isScal k then [f.field k] else [])

/-- Registers of the destination. -/
def FmtA.dstRegs (f : FmtA) (size : Nat) : List Nat := if f.S then [256 + f.dst] else rangeFrom f.dst size

end Sys2Proof

namespace Sys2Proof.Machine

/-- The value of a source in a thread, of 32 or 64 bits. -/
def Group.srcA (g : Group) (f : FmtA) (k size t : Nat) : Nat :=
  if f.isScal k then g.sreg (f.field k) % 2 ^ (32 * size) else g.vregs_ (f.field k) t size

/-- Does a type fill a pair (Table 6.9)? -/
def pairType (type : Nat) : Bool := decide (type = 0x0F ∨ type = 0x10 ∨ type = 0x11)

/-- Registers that a value of a type fills. -/
def typeRegs (type : Nat) : Nat := if pairType type then 2 else 1

/-- Write a scalar result: a 64-bit one whole; of a 32-bit one the low half, with an upper half that the spec does not state and that is free
(log entry 20). -/
def Iss.writeScalar (x : Iss) (s : State) (g : Group) (r size v : Nat) : State :=
  if size = 2 then x.done s (g.setS r v)
  else
    let u := s.freeVal 32
    x.done u.2 (g.setS r (v % 2 ^ 32 + 2 ^ 32 * u.1))

/-- Finish an instruction that yields one value: a vector result in each thread whose guard holds, or, with S, the value of the lowest thread in a scalar
register. -/
def Iss.result (x : Iss) (s : State) (scalar : Bool) (dst size : Nat) (val : Nat → Nat) : State :=
  if scalar then (if x.once then x.writeScalar s x.g dst size (val x.lead) else x.done s x.g)
  else x.done s (x.g.eachThread x.act (fun g t => g.setV dst t (val t) size))

/-- Finish an instruction that yields a predicate: in each thread whose guard holds, or, with S, the value of the lowest thread in every thread of the issue
(R137). -/
def Iss.predicate (x : Iss) (s : State) (scalar : Bool) (dst : Nat) (val : Nat → Bool) : State :=
  if scalar then
    (if x.once then x.done s (x.g.eachThread x.mask (fun g t => g.setP dst t (val x.lead))) else x.done s x.g)
  else x.done s (x.g.eachThread x.act (fun g t => g.setP dst t (val t)))

end Sys2Proof.Machine
end

