-- ==== Sys2Proof/Machine/Flags.lean ====
section
/-! DEFINITION. Machine/Flags.lean: everything that chapter 6 computes into a predicate: the conditions of FSETP and ISETP (Table 6.13, R140), predicate
logic and votes (R144). -/

namespace Sys2Proof.Machine

/-- A condition on an order: 0 EQ, 1 NE, 2 LT, 3 LE, 4 GT, 5 GE (Table 6.13). -/
def condOf (c : Nat) (o : Ordering) : Bool :=
  match c with
  | 0 => decide (o = .eq)
  | 1 => !decide (o = .eq)
  | 2 => decide (o = .lt)
  | 3 => !decide (o = .gt)
  | 4 => decide (o = .gt)
  | _ => !decide (o = .lt)

/-- A condition of FSETP: with a NaN operand only NE and NAN hold; 6 NUM, 7 NAN (R140). -/
def fcond (c : Nat) (o : Option Ordering) : Bool :=
  match o with
  | none => decide (c = 1 ∨ c = 7)
  | some o => if c = 6 then true else if c = 7 then false else condOf c o

/-- FSETP on codes of a format. -/
def fsetpBit (f : Fmt) (c a b : Nat) : Bool := fcond c ((f.decode a).cmp (f.decode b))

/-- ISETP on values of a width and signedness. -/
def isetpBit (n : Nat) (signed : Bool) (c a b : Nat) : Bool := condOf c (compare (intVal n signed a) (intVal n signed b))

/-- PLOP: 0 AND, 1 OR, 2 XOR, 3 AND-NOT, bit 2 inverts. -/
def plopBit (sub : Nat) (a b : Bool) : Bool :=
  let r := match sub % 4 with
    | 0 => a && b
    | 1 => a || b
    | 2 => a != b
    | _ => a && !b
  r != bit sub 2

/-- ANY and ALL over the threads that count: with none, ANY is false and ALL is true (R144). -/
def voteBit (sub : Nat) (g : Group) (p act : Nat) : Bool :=
  if sub = 0 then (bitList 64 act).any (g.pred p) else (bitList 64 act).all (g.pred p)

/-- BALLOT: bit t set when thread t counts and its predicate is true. -/
def ballot (g : Group) (p act : Nat) : Nat := ofBitList ((bitList 64 act).filter (g.pred p))

end Sys2Proof.Machine
end

