-- ==== Sys2Proof/Machine/AtomOps.lean ====
section
/-! DEFINITION. Machine/AtomOps.lean: the atomic operations of Table 4.10 and their execution at a home and at a newt (R84, R90, R226). -/

namespace Sys2Proof.Machine

/-- Is the NaN test of FP32 true of 32 bits? -/
def isNan32 (x : Nat) : Bool := (Fmt.fp32.decode x).isNan

/-- The value that an atomic writes (Table 4.10): atom_op, width in bytes, old value, operand and compare value. FADD rounds to nearest even;
a NaN operand of FMIN and FMAX leaves the target unchanged. -/
def atomResult (op bytes old a cmp : Nat) : Nat :=
  let n := 8 * bytes
  let o := old % 2 ^ n
  let x := a % 2 ^ n
  match op with
  | 0 => (o + x) % 2 ^ n
  | 1 => Fmt.fp32.add .rne false o x
  | 2 => if signExt n x < signExt n o then x else o
  | 3 => if signExt n o < signExt n x then x else o
  | 4 => min o x
  | 5 => max o x
  | 6 => if isNan32 x then o else Fmt.fp32.minmax false o x
  | 7 => if isNan32 x then o else Fmt.fp32.minmax true o x
  | 8 => natAnd n o x
  | 9 => natOr n o x
  | 10 => natXor n o x
  | 11 => x
  | _ => if o = cmp % 2 ^ n then x else o

/-- Does Table 4.10 list an operation at a width? -/
def atomListed (op bytes : Nat) : Bool :=
  decide (op ≤ 12) && (decide (bytes = 4) || (decide (bytes = 8) && !decide (op = 1 ∨ op = 6 ∨ op = 7)))

/-- How an atomic ends at its target. -/
inductive AtomOut
  | old (v : Nat) (s : State)
  | poison
  | nack
deriving DecidableEq, Repr

/-- An atomic at the home slice (R226): the line goes to D, then the operation applies. -/
def State.homeAtom (s : State) (op bytes pa a cmp : Nat) : AtomOut :=
  if s.pocPoison pa bytes then .poison
  else
    let old := ofLe (s.pocRead pa bytes)
    let b := lineBytes pa (leBytes bytes (atomResult op bytes old a cmp))
    match s.homeWrite (pa / 128) b.1 b.2 with
    | none => .nack
    | some t => .old old t

/-- An atomic at the newt of its channel (R84, R90): every copy of the line is invalidated and its data merged first. -/
def State.farAtom (s : State) (op bytes pa a cmp : Nat) : AtomOut :=
  let s1 := s.lineToI (pa / 128)
  if s1.bankPoison pa bytes then .poison
  else
    let old := ofLe (s1.bankRead pa bytes)
    .old old (s1.bankWrite pa (leBytes bytes (atomResult op bytes old a cmp)))

end Sys2Proof.Machine
end

