-- ==== Sys2Proof/Machine/Queues.lean ====
section
/-! DEFINITION. Machine/Queues.lean: the queues of the front end (R263 to R266), their timers (R284, R285), the start and the end of a
pre-emption (R289 to R291), time slices (R333) and the commands of Table 11.2. -/

namespace Sys2Proof.Machine

/-- An entry of Table 11.15 for a queue. -/
def State.qnum (s : State) (base q : Nat) : Nat := s.num (base + q % 16) (fnOfQueue q)

/-- Signal a queue's completion vector (R292). -/
def State.sigDone (s : State) (q : Nat) : State := s.signal (fnOfQueue q) (bits (s.qnum E.queueVectors q) 5 0)
/-- Signal a queue's error vector (R292). -/
def State.sigError (s : State) (q : Nat) : State := s.signal (fnOfQueue q) (bits (s.qnum E.queueVectors q) 13 8)

/-- The ring of a queue: base and number of entries, none while it is not configured (R263). -/
def State.ringOf (s : State) (q : Nat) : Option (Nat × Nat) :=
  let r := s.qnum E.queueRing q
  if r = 0 then none else some (bits r 56 12 * 4096, 2 ^ (r % 16))

/-- Does a queue hold ring entries that have not completed? -/
def Queue.holdsWork (x : Queue) : Bool := !decide (x.read = x.write)

/-- Does the timer count (Table 11.1; R339 stops it in a drain)? -/
def State.timerCounts (s : State) (q : Nat) : Bool :=
  let x := s.q q
  x.timerOn && !decide ((s.fn (fnOfQueue q)).gate = .draining) &&
    (match x.state with
     | .running => true
     | .preempting => true
     | .preempted => x.holdsWork
     | _ => false)

/-- Restart the timer from zero, with queue_timeout as it stands now (R284, R285). -/
def State.restartTimer (s : State) (q : Nat) : State :=
  let t := s.qnum E.queueTimeout q
  s.modQ q (fun x => { x with timerOn := true, timerAt := s.time.mono, timerLimit := t })

/-- A refused FE_Q_CTRL write (R266). -/
def State.badCtrl (s : State) (q : Nat) : State := (s.modQ q (fun x => { x with badCtrl := true })).sigError q

/-! Doorbells (R264). -/

/-- Does a queue in this state accept doorbells? -/
def QState.takesDoorbell : QState → Bool
  | .idle => true
  | .running => true
  | .preempting => true
  | .preempted => true
  | _ => false

/-- Is a doorbell value acceptable: the current write pointer, or an advance that the ring has room for? -/
def Queue.doorbellOk (x : Queue) (n v : Nat) : Bool :=
  let d := (v + 2 ^ 32 - x.write) % 2 ^ 32
  decide (d = 0) || (decide (d ≤ n) && decide ((v + 2 ^ 32 - x.read) % 2 ^ 32 ≤ n))

/-- DOORBELL_WRITE (R264, R285, Table 13.8). -/
def doorbellWrite (fn queue value : Nat) (s : State) : State :=
  let x := s.q queue
  let v := value % 2 ^ 32
  let ok := match s.ringOf queue with
    | none => false
    | some (_, n) => decide ((s.fn fn).gate = .opened) && x.state.takesDoorbell && x.doorbellOk n v
  if fnOfQueue queue ≠ fn then s
  else if !ok then (s.modQ queue (fun x => { x with badDoorbell := true })).sigError queue
  else if v = x.write then s
  else
    let s1 := s.modQ queue (fun x => { x with write := v })
    match x.state with
    | .idle => (s1.modQ queue (fun x => { x with state := .running })).restartTimer queue
    | .preempted => if x.holdsWork then s1 else s1.restartTimer queue
    | _ => s1

/-! Enable, disable, reset and kill (Table 11.2). -/

/-- QUEUE_ENABLE: queue_enable = 1 (Table 11.2; a failed chip takes no queue, R467). -/
def queueEnable (who : Origin) (queue : Nat) (s : State) : State :=
  let ok := decide ((s.q queue).state = .disabled) && (s.ringOf queue).isSome && !s.sup.chipFailed
  s.fnWrite who (fnOfQueue queue) (E.queueEnable + queue % 16) 1 (if ok then 0 else 5) (fun t =>
    t.modQ queue (fun x => { x with
      state := .idle, write := 0, read := 0, fetch := 0, killCode := 0, suppressed := 0, faultValid := false, faultNode := 0
      faultDepth := 0, faultRing := 0, tagOperator := 0, tagLayer := 0 }))

/-- QUEUE_DISABLE: queue_enable = 0. -/
def queueDisable (who : Origin) (queue : Nat) (s : State) : State :=
  let ok := decide ((s.q queue).state = .idle ∨ (s.q queue).state = .killed)
  s.fnWrite who (fnOfQueue queue) (E.queueEnable + queue % 16) 0 (if ok then 0 else 5) (fun t =>
    t.modQ queue (fun x => { x with state := .disabled }))

/-- Counters of a queue return to 0 (R439). -/
def State.clearCntQ (s : State) (q : Nat) : State :=
  { s with obs.queueCnt := s.obs.queueCnt.keep (fun k _ => !decide (k / 8 = q)) }

/-- QUEUE_RESET (Table 11.2, R293, R439, R468). -/
def queueReset (queue : Nat) (s : State) : State :=
  if (s.q queue).state = .idle ∨ (s.q queue).state = .killed then
    ((s.modQ queue (fun _ => { Queue.initial with state := .idle })).clearCntQ queue).logReset 6 0
  else s.badCtrl queue

/-- QUEUE_KILL (Table 11.2): a kill with DEBUG_KILL. -/
def queueKill (queue : Nat) (s : State) : State :=
  if (s.q queue).state.alive then s.kill queue 0x0F (s.oldestSite queue) else s.badCtrl queue

/-- CONTEXT_KILL (R286). -/
def contextKill (queue code : Nat) (s : State) : State := s.kill queue code (s.oldestSite queue)

/-- QUEUE_TIMEOUT (R285). -/
def queueTimeout (queue : Nat) (s : State) : State :=
  let x := s.q queue
  if s.timerCounts queue && decide (x.timerLimit * 1000 ≤ s.time.mono - x.timerAt) then
    s.kill queue 0x08 (s.oldestSite queue)
  else s

/-! Pre-emption (R289 to R291). -/

/-- Round up to 64 bytes. -/
def align64 (n : Nat) : Nat := ceilDiv n 64 * 64

/-- Bytes of a group's save record (Table 5.7). -/
def Group.saveBytes (g : Group) : Nat := 1152 + 4 * g.vregs * g.width

/-- Bytes of a matrix image (Table 7.12). -/
def matrixImageBytes : Nat := 278528

/-- Bytes of a block record (Table 5.8). -/
def Block.recBytes (b : Block) : Nat := 64 + b.scratchBytes + (if b.matrix then matrixImageBytes else 0)

/-- Groups of a block that have threads left, in order of their index in the block: the groups that a save writes. -/
def Core.savedSlots (k : Core) (b : Block) : List Nat :=
  b.slots.filter (fun sl => match k.groups.get? sl with
    | some g => decide (g.live ≠ 0)
    | none => false)

/-- Bytes of the group records of slots. -/
def Core.slotBytes (k : Core) (l : List Nat) : Nat :=
  sumNat (l.map (fun sl => match k.groups.get? sl with
    | some g => align64 g.saveBytes
    | none => 0))

/-- Bytes that a resident block takes in the save area (R291). -/
def Core.blockSaveBytes (k : Core) (b : Block) : Nat := align64 b.recBytes + k.slotBytes (k.savedSlots b)

/-- Resident blocks of a queue: core, key and block. -/
def State.blocksOfQueue (s : State) (q : Nat) : List (Nat × Nat × Block) :=
  s.cores.flatMap (fun e => (e.2.blocks.filter (fun b => decide (b.2.queue = q))).map (fun b => (e.1, b.1, b.2)))

/-- Plan contexts of a queue. -/
def State.plansOfQueue (s : State) (q : Nat) : List (Nat × PlanCtx) := s.fe.plans.filter (fun e => decide (e.2.queue = q))

/-- Bytes of the save area, after its header, that hold saved blocks and plans that a resume has not yet restored, or that resident blocks have been given. -/
def State.stillSaved (s : State) (q : Nat) : Nat :=
  let x := s.q q
  if x.savedBlocks.all (fun b => b.kept.isSome) && x.savedPlans.isEmpty && !(s.blocksOfQueue q).any (fun e => e.2.2.saveAddr.isSome && !e.2.2.kept) then 0
  else x.saveUsed

/-- Bytes that a pre-emption of a queue needs (R289, R291). -/
def State.saveNeed (s : State) (q : Nat) : Nat :=
  64 + s.stillSaved q + sumNat (((s.blocksOfQueue q).filter (fun e => e.2.2.saveAddr.isNone)).map (fun e => (s.core e.1).blockSaveBytes e.2.2)) +
    320 * (s.plansOfQueue q).length

/-- Start a pre-emption of a RUNNING queue, or refuse it (R289). -/
def State.preemptRunning (s : State) (q : Nat) (slice : Bool) : State :=
  let need := s.saveNeed q
  if s.qnum E.queueSaveBytes q < need then
    (s.modQ q (fun x => { x with preemptRefused := true, saveNeed := need % 2 ^ 64 })).sigError q
  else
    let used := s.stillSaved q
    (s.modQ q (fun x => { x with
      state := .preempting, savedNone := false, saveUsed := used, resumePending := false, slicePreempt := slice })).traceFe 0x0B q 0 0 0 0

/-- QUEUE_PREEMPT (R289, Table 11.2). -/
def queuePreempt (queue : Nat) (s : State) : State :=
  match (s.q queue).state with
  | .idle =>
    let s1 := s.modQ queue (fun x => { x with
      state := .preempted, savedBlocks := [], savedPlans := [], savedNone := true, saveUsed := 0, resumePending := false
      slicePreempt := false, timerOn := false })
    ((s1.traceFe 0x0B queue 0 0 0 0).traceFe 0x0B queue 0 0 1 0).sigDone queue
  | .running => s.preemptRunning queue false
  | _ => s.badCtrl queue

/-- Is an operation of a plan context, other than a wait, on its way to or from an object? -/
def State.planSyncBusy (s : State) (ctx : Nat) : Bool :=
  s.syn.inbound.any (fun m => decide (m.who = .plan ctx)) ||
  s.syn.outbound.any (fun r => !r.isWait && decide (r.who = .plan ctx)) ||
  s.fab.reqs.vals.any (fun r => match r.issuer with
    | .sync w isWait _ => !isWait && decide (w = .plan ctx)
    | _ => false)

/-- Has every row of Table 11.14 settled: blocks saved, pieces and collectives complete, plan calls at an instruction boundary? -/
def State.preemptSettled (s : State) (q : Nat) : Bool :=
  (s.blocksOfQueue q).isEmpty &&
  !s.fe.engines.vals.any (fun e => match s.fe.nodes.get? e.node with
    | some n => decide (n.queue = q)
    | none => false) &&
  !s.fe.nodes.vals.any (fun n => decide (n.queue = q) && decide (n.type = 6) && decide (n.status = .running) && !n.done) &&
  !(s.plansOfQueue q).any (fun e => s.planSyncBusy e.1 || decide (e.2.wait = .remote) || e.2.rdata.isSome)

/-- The 320 bytes of a plan record (R291). -/
def PlanCtx.recBytes (p : PlanCtx) : List Byte :=
  leBytes 8 1 ++ leBytes 8 p.pc ++ ((p.x.drop 1).take 31).flatMap (fun v => leBytes 8 v.toNat) ++ zeroBytes 56

/-- Write to a queue's save area; a write that faults kills the context. -/
def State.saveWrite (s : State) (q va : Nat) (data : List Byte) : State :=
  let r := s.writeV (fnOfQueue q) va data
  if r.1 ≠ 0 then r.2.kill q r.1 (r.2.oldestSite q) else r.2

/-- End the sync waits of a plan context that stops: one that was released first has ended, any other on this chip took nothing, and one at another chip's object is cancelled there (R157). -/
def State.cancelPlanWaits (s : State) (ctx : Nat) : State :=
  let mine := s.syn.outbound.filter (fun r => r.isWait && decide (r.who = .plan ctx))
  let s1 := mine.foldl State.deliver
    { s with syn.outbound := s.syn.outbound.filter (fun r => !(r.isWait && decide (r.who = .plan ctx))) }
  (s1.dropWaiters (fun w => decide (w.who = .plan ctx))).cancelFars (fun w => decide (w = .plan ctx))

/-- Has a plan context a wait at another chip's object, or on its way there? -/
def State.planFar (s : State) (ctx : Nat) : Bool :=
  s.fab.remoteWaits.vals.any (fun w => decide (w.who = .plan ctx)) || s.fab.reqs.vals.any (fun r => match r.issuer with
    | .sync w isWait _ => isWait && decide (w = .plan ctx)
    | _ => false)

/-- Save one plan context and free it. -/
def State.savePlan (s : State) (q ctx : Nat) : State :=
  let s1 := s.cancelPlanWaits ctx
  match s1.fe.plans.get? ctx with
  | none => s1
  | some p =>
    let at0 := s1.qnum E.queueSaveBase q + 64 + (s1.q q).saveUsed
    let s2 := s1.saveWrite q at0 p.recBytes
    State.modQ { s2 with fe.plans := s2.fe.plans.del ctx } q (fun x => { x with
      savedPlans := x.savedPlans ++ [(p.node, at0)], saveUsed := x.saveUsed + 320 })

/-- The queue save header (R291). -/
def Queue.saveHeader (x : Queue) : List Byte :=
  leBytes 4 1 ++ leBytes 4 (x.savedBlocks.filter (fun b => b.kept.isNone)).length ++ leBytes 4 x.savedPlans.length ++ zeroBytes 4 ++
    leBytes 8 (64 + x.saveUsed) ++ zeroBytes 40

/-- A plan context from its saved record (R291). -/
def planOfRec (q node now : Nat) (l : List Byte) : PlanCtx :=
  { queue := q, node := node, pc := fieldAt l 8 8
    x := 0#64 :: (List.range 31).map (fun i => BitVec.ofNat 64 (fieldAt l (0x10 + 8 * i) 8))
    wait := .none, rdata := none, code := [], since := now, stopped := false }

/-- The lowest control-core context that is free (R281). -/
def State.freePlanCtx (s : State) : Option Nat := (List.range 64).find? (fun c => !s.fe.plans.has c)

/-- Return one saved plan context to a free control-core context. It waits while none is free. -/
def State.restorePlan (s : State) (q node at0 : Nat) : State :=
  match s.freePlanCtx with
  | none => s
  | some c =>
    match s.readV (fnOfQueue q) at0 320 with
    | .bad code => (s.sawPoison code (fnOfQueue q) at0 320).kill q code (s.siteOf q node)
    | .bytes l =>
      if fieldAt l 0 1 ≠ 1 then s.kill q 0x04 (s.siteOf q node)
      else State.modQ { s with fe.plans := s.fe.plans.put c (planOfRec q node s.time.mono l) } q (fun x => { x with
        savedPlans := x.savedPlans.filter (fun e => !decide (e.1 = node)) })

/-- Does anything of a queue remain to run? -/
def State.queueRemains (s : State) (q : Nat) : Bool := (s.q q).holdsWork || s.fe.nodes.vals.any (fun n => decide (n.queue = q))

/-- The state that a resumed queue takes with no block left to restore. -/
def State.runOrIdle (s : State) (q : Nat) : State :=
  let r := s.queueRemains q
  s.modQ q (fun x => { x with
    state := if r then .running else .idle, resumePending := false, slicePreempt := false
    timerOn := if r then x.timerOn else false })

/-- Carry out a resume in PREEMPTED (R291): saved plans return to contexts, and fetching resumes; with blocks to
restore the queue is RUNNING once the first restored group issues. -/
def State.doResume (s : State) (q : Nat) : State :=
  let s0 := s.traceFe 0x0B q 0 0 2 0
  if (s.q q).savedNone then s0.runOrIdle q
  else
    match s.readV (fnOfQueue q) (s.qnum E.queueSaveBase q) 64 with
    | .bad code => (s.sawPoison code (fnOfQueue q) (s.qnum E.queueSaveBase q) 64).kill q code (s.oldestSite q)
    | .bytes l =>
      if fieldAt l 0 1 ≠ 1 then s.kill q 0x04 (s.oldestSite q)
      else
        let s2 := (s.q q).savedPlans.foldl (fun s e => s.restorePlan q e.1 e.2) (s0.modQ q (fun x => { x with resumePending := true }))
        if (s2.q q).state = .killing then s2
        else if (s2.q q).savedBlocks.isEmpty then s2.runOrIdle q
        else s2

/-- QUEUE_RESUME (R291, Table 11.2). -/
def queueResume (queue : Nat) (s : State) : State :=
  match (s.q queue).state with
  | .preempting => s.modQ queue (fun x => { x with resumePending := true })
  | .preempted => if (s.q queue).resumePending then s else s.doResume queue
  | _ => s.badCtrl queue

/-- QUEUE_PREEMPTED (R290). A plan context's wait at another chip's object is first cancelled there, and the answer is awaited (R157). -/
def queuePreempted (queue : Nat) (s : State) : State :=
  if (s.q queue).state = .preempting && s.preemptSettled queue then
    if (s.plansOfQueue queue).any (fun e => s.planFar e.1) then (s.plansOfQueue queue).foldl (fun s e => s.cancelPlanWaits e.1) s
    else
    let s1 := (s.plansOfQueue queue).foldl (fun s e => s.savePlan queue e.1) s
    let s2 := s1.saveWrite queue (s1.qnum E.queueSaveBase queue) (s1.q queue).saveHeader
    if (s2.q queue).state ≠ .preempting then s2
    else
      let wanted := (s2.q queue).resumePending
      let s3 := s2.modQ queue (fun x => { x with state := .preempted, resumePending := false })
      let s4 := (s3.traceFe 0x0B queue 0 0 1 0).sigDone queue
      if wanted then s4.doResume queue else s4
  else s

/-! Time slices (R333, R342). -/

/-- The queues of a function. -/
def queuesOfFn (f : Nat) : List Nat := rangeFrom (16 * f) 16

/-- Does a function have work for its turn: a queue that runs or that its last turn's end pre-empted, with entries left? -/
def State.fnWork (s : State) (f : Nat) : Bool :=
  (queuesOfFn f).any (fun q =>
    let x := s.q q
    (match x.state with
     | .running => true
     | .preempting => true
     | .killing => true
     | .preempted => x.slicePreempt
     | _ => false) && s.queueRemains q)

/-- The next function with work after `f` in ascending order, `f` itself last. -/
def State.nextTurn (s : State) (p : Nat) (f : Option Nat) : Option Nat :=
  let l := s.boundFns p
  let after := match f with
    | none => l
    | some h => l.filter (fun g => decide (h < g)) ++ l.filter (fun g => decide (g ≤ h))
  after.find? (fun g => s.fnWork g && !decide ((s.fn g).gate = .resetting))

/-- Resume the queues that the end of a turn pre-empted. -/
def State.resumeSlice (s : State) (f : Nat) : State :=
  (queuesOfFn f).foldl (fun s q =>
    if (s.q q).state = .preempted ∧ (s.q q).slicePreempt ∧ !(s.q q).resumePending then s.doResume q else s) s

/-- Give the partition to the next function with work. -/
def State.passTurn (s : State) (p : Nat) : State :=
  let next := s.nextTurn p (s.part p).holder
  let s1 := s.modPart p (fun x => { x with holder := next, turnAt := s.time.mono, turnEnding := false })
  match next with
  | none => s1
  | some f => s1.resumeSlice f

/-- Length of a function's turn in ns: partition_slice * qos_dispatch / 100 us (R333). -/
def State.turnNs (s : State) (p f : Nat) : Nat := s.num (E.partitionSlice + p) * s.num (E.qosDispatch + f) * 1000 / 100

/-- Does the turn of a holder end at once: nothing to run, resetting, or no longer bound? -/
def State.turnVoid (s : State) (p f : Nat) : Bool :=
  !s.fnWork f || decide ((s.fn f).gate = .resetting) || !(s.boundFns p).contains f

/-- TIME_SLICE_END (R333, R342): the holder's turn ends by pre-empting its RUNNING queues, and passes once all of them are PREEMPTED or IDLE. -/
def timeSliceEnd (partition : Nat) (s : State) : State :=
  let x := s.part partition
  if s.num (E.partitionShareMode + partition) ≠ 1 then
    (s.boundFns partition).foldl State.resumeSlice s
  else match x.holder with
    | none => s.passTurn partition
    | some f =>
      if s.turnVoid partition f then s.passTurn partition
      else if x.turnEnding then
        if (queuesOfFn f).any (fun q => decide ((s.q q).state = .running ∨ (s.q q).state = .preempting)) then s
        else s.passTurn partition
      else if s.turnNs partition f ≤ s.time.mono - x.turnAt then
        (queuesOfFn f).foldl (fun s q => if (s.q q).state = .running then s.preemptRunning q true else s)
          (s.modPart partition (fun x => { x with turnEnding := true }))
      else s

/-- May a function's queues dispatch now: the gate lets work run, and in a time-sliced partition the function holds the turn or is the first with
work while none holds it (Table 13.8, R333). -/
def State.mayRun (s : State) (f : Nat) : Bool :=
  decide ((s.fn f).gate = .opened ∨ (s.fn f).gate = .draining) && !s.sup.chipFailed &&
    (let p := s.fnPart f
     if s.num (E.partitionShareMode + p) ≠ 1 then true
     else match (s.part p).holder with
       | some h => decide (h = f)
       | none => decide (s.nextTurn p none = some f))

/-! The meanings. -/

/-- DOORBELL_WRITE (R264). -/
def execDoorbellWrite (fn : Nat) (queue : Nat) (value : Nat) (s : State) : Host.Outcome State Fault Refusal :=
  .next (s.inOrder fn (.doorbell fn queue value) (doorbellWrite fn queue value))
/-- QUEUE_ENABLE (R266). -/
def execQueueEnable (who : Origin) (queue : Nat) (s : State) : Host.Outcome State Fault Refusal :=
  .next (queueEnable who queue s)
/-- QUEUE_DISABLE (R266). -/
def execQueueDisable (who : Origin) (queue : Nat) (s : State) : Host.Outcome State Fault Refusal :=
  .next (queueDisable who queue s)
/-- QUEUE_PREEMPT (R289). -/
def execQueuePreempt (queue : Nat) (s : State) : Host.Outcome State Fault Refusal :=
  .next (queuePreempt queue s)
/-- QUEUE_RESUME (R291). -/
def execQueueResume (queue : Nat) (s : State) : Host.Outcome State Fault Refusal :=
  .next (queueResume queue s)
/-- QUEUE_KILL (R266). -/
def execQueueKill (queue : Nat) (s : State) : Host.Outcome State Fault Refusal :=
  .next (queueKill queue s)
/-- QUEUE_RESET (R266). -/
def execQueueReset (queue : Nat) (s : State) : Host.Outcome State Fault Refusal :=
  .next (queueReset queue s)
/-- QUEUE_PREEMPTED (R290). -/
def execQueuePreempted (queue : Nat) (s : State) : Host.Outcome State Fault Refusal :=
  .next (s.unit 9 queue (queuePreempted queue))
/-- TIME_SLICE_END (R333). -/
def execTimeSliceEnd (partition : Nat) (s : State) : Host.Outcome State Fault Refusal :=
  .next (timeSliceEnd partition s)
/-- QUEUE_TIMEOUT (R285). -/
def execQueueTimeout (queue : Nat) (s : State) : Host.Outcome State Fault Refusal :=
  .next (queueTimeout queue s)
/-- CONTEXT_KILL (R286). -/
def execContextKill (queue : Nat) (code : Nat) (s : State) : Host.Outcome State Fault Refusal :=
  .next (contextKill queue code s)

end Sys2Proof.Machine
end

