-- ==== Sys2Proof/Machine/Nodes.lean ====
section
/-! DEFINITION. Machine/Nodes.lean: nodes of rings and graphs (R267 to R277): fetch and checks, readiness, the start and the end of each
node type that the front end serves itself, editions, and the move of the read pointer. -/

namespace Sys2Proof.Machine

/-! Reads of the front end. -/

/-- What a read of the front end gives: bytes, a kill code, or a wait: while the function may not reach host memory (R324), or for another chip's answer. -/
inductive FeGot
  | bytes (l : List Byte)
  | bad (code : Nat)
  | wait
deriving DecidableEq, Repr

/-- The op byte of an ATOMIC request: the atom_op, bit 6 for width 8 and bit 7 for .FAR (log entry 13). -/
def atomReqOp (op bytes : Nat) (far : Bool) : Nat := op + (if bytes = 8 then 0x40 else 0) + (if far then 0x80 else 0)

/-- The data of an ATOMIC request: the operand and the compare value (log entry 13). -/
def atomReqData (operand compare : Nat) : List Byte := leBytes 8 operand ++ leBytes 8 compare

/-! Bytes of another chip (R324, R363): they are asked for with a READ, 64 bytes at a time, and stand with their reader until it has all that it needs. -/

/-- What stands of a block for a reader. -/
def State.lineOf (s : State) (who : FeWho) (block : Nat) : Option FeLine := s.fe.got.find? (fun x => decide (x.who = who ∧ x.block = block))

/-- Forget what stands for a reader. -/
def State.feDrop (s : State) (who : FeWho) : State := { s with fe.got := s.fe.got.filter (fun x => !decide (x.who = who)) }

/-- Is a reader still there? -/
def State.feLives (s : State) (who : FeWho) : Bool :=
  match who with
  | .node id => s.fe.nodes.has id
  | .graph g _ => s.fe.graphs.has g

/-- Bytes have arrived for a reader. -/
def State.feStore (s : State) (q : Nat) (who : FeWho) (block : Nat) (bytes : List Byte) (poison : Nat) : State :=
  if s.feLives who then
    { s with fe.got := s.fe.got.filter (fun x => !decide (x.who = who ∧ x.block = block)) ++
        [{ queue := q, who := who, block := block, bytes := bytes, poison := poison }] }
  else s

/-- Ask for something on a reader's behalf, once: the wait, or the code of a request that fails. -/
def State.feAsk (s : State) (f q : Nat) (who : FeWho) (block type op a : Nat) (data : List Byte) : FeGot × State :=
  if s.asked (.line who block) then (.wait, s)
  else
    let r := s.sendReq f q type (bits a 59 48) op (a % 2 ^ 48) data 0 (.line who block)
    if r.1 = 0 ∨ r.1 = 0x100 then (.wait, r.2) else (.bad r.1, s)

/-- Read bytes of one block of another chip, whose global address is `a`. -/
def State.feFar (s : State) (f q : Nat) (who : FeWho) (a n : Nat) : FeGot × State :=
  match s.lineOf who (a / 64) with
  | some x =>
    if (granulesOf (a % 64) n).any (bit x.poison) then (.bad 0x03, s)
    else (.bytes (((x.bytes ++ zeroBytes 64).drop (a % 64)).take n), s)
  | none => s.feAsk f q who (a / 64) 0x01 0 (a / 64 * 64) []

/-- Read bytes of one page of a function's space at their point of coherence, from device or host memory, or for a reader that is named from another chip. -/
def State.feRead (s : State) (f va n : Nat) (far : Option (Nat × FeWho) := none) : FeGot × State :=
  match s.translate f va .read with
  | .bad c => (.bad c, s.sawPoison c f va n)
  | .ok t a =>
    if t = 0 then (if s.pocPoison a n then (.bad 0x03, s.sawPoison 0x03 f va n) else (.bytes (s.pocRead a n), s.lookAt a n))
    else if t = 2 then
      (if s.hostOpen f a false then
        let r := s.hostRead a n
        (.bytes r.1, r.2)
       else (.wait, s))
    else match far with
      | some w => s.feFar f w.1 w.2 a n
      | none => (.bad 0x02, s)

/-! Lookups. -/

/-- A node that is complete or skipped. -/
def Node.finished (n : Node) : Bool := decide (n.status = .complete ∨ n.status = .skipped)

/-- The fetched node of a ring entry, with its number. -/
def State.ringNode (s : State) (q ring : Nat) : Option (Nat × Node) :=
  s.fe.nodes.find? (fun e => decide (e.2.queue = q) && e.2.graph.isNone && decide (e.2.ring = ring))

/-- The fetched node of a graph instance at an index. -/
def State.graphNode (s : State) (g index : Nat) : Option (Nat × Node) :=
  s.fe.nodes.find? (fun e => decide (e.2.graph = some g) && decide (e.2.index = index))

/-- Nodes of a graph instance. -/
def State.graphNodes (s : State) (g : Nat) : List Node := s.fe.nodes.vals.filter (fun n => decide (n.graph = some g))

/-- Has a ring entry completed or passed the read pointer (R270)? -/
def State.ringDone (s : State) (q ring : Nat) : Bool :=
  if 2 ^ 31 ≤ (ring + 2 ^ 32 - (s.q q).read) % 2 ^ 32 then true
  else match s.ringNode q ring with
    | some e => e.2.finished
    | none => false

/-- Has a node of a graph completed? -/
def State.graphDone (s : State) (g index : Nat) : Bool :=
  match s.graphNode g index with
  | some e => e.2.finished
  | none => false

/-- The inline predecessors of a node (Table 11.3). -/
def Node.inlinePreds (n : Node) : List Nat := (List.range (min 4 (n.get 2 2))).map (fun i => n.get (0x0C + 2 * i) 2)

/-- Is a node ready (R270)? A predecessor out of its range has failed the node's check, and holds nothing up (R272). -/
def State.nodeReady (s : State) (n : Node) : Bool :=
  match n.graph with
  | none =>
    (n.inlinePreds.filter (fun d => decide (1 ≤ d ∧ d ≤ 255))).all (fun d => s.ringDone n.queue ((n.ring + 2 ^ 32 - d) % 2 ^ 32)) &&
      (!n.afterPrev || s.ringDone n.queue ((n.ring + 2 ^ 32 - 1) % 2 ^ 32))
  | some g =>
    ((n.inlinePreds ++ n.extPreds).filter (fun i => decide (i < n.index))).all (fun i => s.graphDone g i) &&
      (!n.afterPrev || decide (n.index = 0) || s.graphDone g (n.index - 1))

/-- May a node start now: it waits, its queue dispatches, and it is ready (R270, R278, Table 11.1)? -/
def State.canStart (s : State) (n : Node) : Bool :=
  decide (n.status = .waiting) && decide ((s.q n.queue).state = .running) && s.mayRun (fnOfQueue n.queue) && s.nodeReady n

/-- Types that need a resource: core room, a DMA engine, newt queue entries, a plan context (R278). -/
def needsResource (ty : Nat) : Bool := decide (ty = 1 ∨ ty = 2 ∨ ty = 3 ∨ ty = 8)

/-- Does an earlier ready node of the queue go first (R278)? Nodes of a queue are dispatched in fetch order, and one that may wait for a resource holds back only
nodes that need the same kind (log entry 27). -/
def State.heldBack (s : State) (id : Nat) (n : Node) : Bool :=
  s.fe.nodes.any (fun e => decide (e.1 < id) && decide (e.2.queue = n.queue) && decide (e.2.status = .waiting) &&
    (decide (e.2.check ≠ 0) || !needsResource e.2.type || decide (e.2.type = n.type)) && s.nodeReady e.2)

/-- Has a queue a node that could start now, and that does not wait for something that its start needs? -/
def State.hasStart (s : State) (q : Nat) : Bool :=
  s.fe.nodes.any (fun e => decide (e.2.queue = q) && !e.2.stalled && s.canStart e.2 && !s.heldBack e.1 e.2)

/-- Place of a queue in the order of last dispatch: the larger, the longer it has waited. -/
def State.lastServed (s : State) (q : Nat) : Nat := s.fe.served.findIdx (fun x => decide (x = q))

/-- Is it a queue's turn among those of its function (R278): no other with a node to start has waited longer? Queues that have waited alike go in ascending order. -/
def State.queueTurn (s : State) (q : Nat) : Bool :=
  !(queuesOfFn (fnOfQueue q)).any (fun x => !decide (x = q) && s.hasStart x &&
    (decide (s.lastServed q < s.lastServed x) || (decide (s.lastServed q = s.lastServed x) && decide (x < q))))

/-- Has a function dispatched fewer nodes in this round than its weight? -/
def State.hasWeight (s : State) (f : Nat) : Bool := decide (s.fe.rounds.getD f 0 < s.num (E.qosDispatch + f))

/-- Is it a function's turn in the weighted round robin of its partition (R278, R331): its weight is not spent, or every other function with a node to start has spent its own? -/
def State.fnTurn (s : State) (f : Nat) : Bool :=
  s.hasWeight f || !(s.boundFns (s.fnPart f)).any (fun g => !decide (g = f) && s.hasWeight g && (queuesOfFn g).any s.hasStart)

/-- A dispatch is counted: the queue goes behind the others of its function, and a round that is spent begins anew. -/
def State.noteDispatch (s : State) (q : Nat) : State :=
  let f := fnOfQueue q
  let fresh := if s.hasWeight f then s.fe.rounds else s.fe.rounds.keep (fun g _ => !decide (s.fnPart g = s.fnPart f))
  { s with
    fe.served := q :: s.fe.served.filter (fun x => !decide (x = q))
    fe.rounds := fresh.put f (fresh.getD f 0 + 1) }

/-- A node that was tried and waits on is stalled. -/
def State.noteStall (s : State) (id : Nat) : State :=
  { s with fe.nodes := s.fe.nodes.mapVals (fun k n => if k = id ∧ n.status = .waiting then { n with stalled := true } else n) }

/-- Start a ready node in its turn: a failed check ends its context (R272); otherwise a node of the type `ty` goes on as `k` says. -/
def State.startNode (s : State) (id ty : Nat) (k : Node → State) : State :=
  match s.fe.nodes.get? id with
  | none => s
  | some n =>
    if !s.canStart n || s.heldBack id n || !s.queueTurn n.queue || !s.fnTurn (fnOfQueue n.queue) then s
    else if n.check ≠ 0 then s.kill n.queue n.check n.site
    else if n.type ≠ ty then s
    else (k n).noteStall id

/-- Mark a node dispatched, with its trace record (Table 19.12). -/
def State.dispatched (s : State) (id : Nat) (n : Node) : State :=
  State.traceFe ({ s with fe.nodes := s.fe.nodes.put id { n with status := .running, stalled := false } }.noteDispatch n.queue) 0x01 n.queue n.layer n.operator n.type n.ring

/-! Checks at fetch (R272, Table 11.6). -/

/-- Does a range of bytes hold zeros only? -/
def zeroAt (l : List Byte) (off n : Nat) : Bool := decide (fieldAt l off n = 0)

/-- Body bytes that Table 11.5 does not name are zero. -/
def bodyZeros (l : List Byte) (ty : Nat) : Bool :=
  match ty with
  | 0x00 => zeroAt l 0x18 40
  | 0x02 => zeroAt l 0x36 2
  | 0x03 => zeroAt l 0x20 32
  | 0x04 => zeroAt l 0x1D 3 && zeroAt l 0x28 24
  | 0x05 => zeroAt l 0x1D 3 && zeroAt l 0x28 24
  | 0x06 => zeroAt l 0x32 14
  | 0x07 => zeroAt l 0x28 24
  | 0x08 => zeroAt l 0x30 16
  | 0x09 => zeroAt l 0x1C 4 && zeroAt l 0x28 24
  | _ => true

/-- The checks of a type's own fields (Tables 11.5 and 11.6) that depend on the node alone and on scratch_kib of its partition. -/
def bodyOk (l : List Byte) (ty depth scratchKib : Nat) : Bool :=
  match ty with
  | 0x01 =>
    decide (1 ≤ fieldAt l 0x28 4) && decide (1 ≤ fieldAt l 0x2C 1 ∧ fieldAt l 0x2C 1 ≤ 64) && decide (fieldAt l 0x2D 1 < 4) &&
      decide (fieldAt l 0x2E 2 ≤ scratchKib) && decide (fieldAt l 0x2E 2 ≤ 448)
  | 0x02 => decide (fieldAt l 0x28 8 < 2 ^ 48) && decide (fieldAt l 0x34 2 < 4)
  | 0x04 => [1, 2, 4, 6].contains (fieldAt l 0x1C 1)
  | 0x05 => [0, 3, 5].contains (fieldAt l 0x1C 1)
  | 0x06 =>
    decide (fieldAt l 0x2C 1 < 4) && decide (fieldAt l 0x2D 1 < 3) && [0x01, 0x02, 0x0B].contains (fieldAt l 0x2E 1) &&
      (decide (fieldAt l 0x2C 1 = 3) || zeroAt l 0x2F 1)
  | 0x07 => decide (depth < 8)
  | _ => true

/-- The common fields of Table 11.3. `bound` is none for a ring, and in a graph the node's own index and the entries of the predecessor
table. -/
def commonOk (l : List Byte) (bound : Option (Nat × Nat)) : Bool :=
  let count := fieldAt l 2 2
  let ext := fieldAt l 0x14 4
  decide (fieldAt l 0 1 < 0x0A) && decide (fieldAt l 1 1 < 4) && zeroAt l 7 1 && zeroAt l 0x0A 2 &&
    (List.range 4).all (fun i =>
      let p := fieldAt l (0x0C + 2 * i) 2
      if count ≤ i then decide (p = 0)
      else match bound with
        | none => decide (1 ≤ p ∧ p ≤ 255)
        | some (index, _) => decide (p < index)) &&
    (match bound with
     | none => decide (count ≤ 4) && decide (ext = 0)
     | some (_, entries) => if count ≤ 4 then decide (ext = 0) else decide (ext + count - 4 ≤ entries))

/-- Kill code of the checks of a node's own bytes, 0 for none. -/
def nodeCheck (l : List Byte) (bound : Option (Nat × Nat)) (depth scratchKib : Nat) : Nat :=
  let ty := fieldAt l 0 1
  if commonOk l bound && bodyZeros l ty && bodyOk l ty depth scratchKib then 0 else 0x04

/-! Fetch (R271, R277). -/

/-- Enter a fetched node. -/
def State.enterNode (s : State) (n : Node) : State :=
  { s with fe.nodes := s.fe.nodes.put s.fe.nextNode n, fe.nextNode := s.fe.nextNode + 1 }

/-- A node record of fetched bytes. -/
def mkNode (q ring : Nat) (graph : Option Nat) (index depth : Nat) (raw : List Byte) (check : Nat) (ext : List Nat) : Node :=
  { queue := q, ring := ring, graph := graph, index := index, depth := depth, raw := raw, status := .waiting, check := check
    extPreds := ext, done := false, stalled := false, pins := [] }

/-- Read one node of a ring; none while the read has to wait. -/
def State.readRingNode (s : State) (q ring : Nat) : Option (Node × State) :=
  match s.ringOf q with
  | none => none
  | some (base, n) =>
    let r := s.feRead (fnOfQueue q) (base + 64 * (ring % n)) 64
    match r.1 with
    | .wait => none
    | .bad c => some (mkNode q ring none 0 0 (zeroBytes 64) c [], r.2)
    | .bytes l => some (mkNode q ring none 0 0 l (nodeCheck l none 0 (s.num E.scratchKib (s.fnPart (fnOfQueue q)))) [], r.2)

/-- What the predecessor table gives. -/
inductive ExtGot
  | ok (l : List Nat) (check : Nat)
  | wait (s : State)

/-- Predecessors 4 and up of a graph node from the predecessor table: entries and a kill code, or a wait. -/
def State.readExt (s : State) (f gid : Nat) (g : Graph) (index ext : Nat) : Nat → ExtGot
  | 0 => .ok [] 0
  | k + 1 =>
    match s.feRead f (g.preds + 2 * ext) 2 (some (g.queue, .graph gid index)) with
    | (.bytes l, _) =>
      (match State.readExt s f gid g index (ext + 1) k with
       | .ok r c => .ok (ofLe l :: r) (if ofLe l < index then c else 0x04)
       | .wait t => .wait t)
    | (.bad c, _) => .ok [] c
    | (.wait, t) => .wait t

/-- A node of a graph instance that has been read, or the state in which its read waits. -/
inductive NodeGot
  | got (n : Node) (s : State)
  | wait (s : State)

/-- Read one node of a graph instance. -/
def State.readGraphNode (s : State) (gid : Nat) (g : Graph) (index : Nat) : NodeGot :=
  let f := fnOfQueue g.queue
  let who : FeWho := .graph gid index
  let r := s.feRead f (g.nodes + 64 * index) 64 (some (g.queue, who))
  match r.1 with
  | .wait => .wait r.2
  | .bad c => .got (mkNode g.queue g.ring (some gid) index g.depth (zeroBytes 64) c []) (r.2.feDrop who)
  | .bytes l =>
    let c := nodeCheck l (some (index, g.predEntries)) g.depth (s.num E.scratchKib (s.fnPart f))
    match (if c = 0 then r.2.readExt f gid g index (fieldAt l 0x14 4) (fieldAt l 2 2 - 4) else .ok [] 0) with
    | .wait t => .wait t
    | .ok ext d => .got (mkNode g.queue g.ring (some gid) index g.depth l (if c ≠ 0 then c else d) ext) (r.2.feDrop who)

/-- Index of the oldest node of a graph that has not completed, among those fetched. -/
def State.oldestIndex (s : State) (gid : Nat) (g : Graph) : Nat :=
  match (s.graphNodes gid).find? (fun n => !n.finished) with
  | some n => n.index
  | none => g.fetched

/-- NODE_FETCH (R271, R272): the next entry of the ring, or the next node of a running graph. -/
def nodeFetch (queue : Nat) (graph : Option Nat) (s : State) : State :=
  let x := s.q queue
  let f := fnOfQueue queue
  if x.state ≠ .running ∨ !s.mayRun f then s
  else match graph with
    | none =>
      if (s.fn f).gate ≠ .opened ∨ x.fetch = x.write ∨ 256 ≤ (x.fetch + 2 ^ 32 - x.read) % 2 ^ 32 then s
      else match s.readRingNode queue x.fetch with
        | none => s
        | some (n, t) => (t.enterNode n).modQ queue (fun x => { x with fetch := (x.fetch + 1) % 2 ^ 32 })
    | some gid =>
      match s.fe.graphs.get? gid with
      | none => s
      | some g =>
        if g.queue ≠ queue ∨ g.count ≤ g.fetched ∨ s.oldestIndex gid g + 256 ≤ g.fetched then s
        else match s.readGraphNode gid g g.fetched with
          | .wait t => t
          | .got n t =>
            let t1 := t.enterNode n
            { t1 with fe.graphs := t1.fe.graphs.put gid { g with fetched := g.fetched + 1 } }

/-! Editions (R274, R275). -/

/-- Where bytes lie that the front end reads and writes with home atomics (R274): in this chip's memory, in that of another member of its tied group, or a kill code. -/
inductive FeAddr
  | at (pa : Nat)
  | away (a : Nat)
  | bad (code : Nat)
deriving DecidableEq, Repr

/-- Translate an address that must lie in device memory of the chip or its tied group (R274). -/
def State.feAddr (s : State) (f va n : Nat) (a : Access) : FeAddr :=
  match s.translate f va a with
  | .bad c => .bad c
  | .ok t pa =>
    if t = 0 then (if s.pocPoison pa n then .bad 0x03 else .at pa)
    else if t = 1 ∧ s.tiedChip (bits pa 59 48) then .away pa
    else .bad 0x02

/-- An atomic write of 4 or 8 bytes at the home. -/
def State.homePut (s : State) (pa n v : Nat) : State := s.allocWrite 2 pa (leBytes n v)

/-- Read a header or a record, which may stand on another member of the tied group. -/
def State.feRecord (s : State) (f q : Nat) (who : FeWho) (va : Nat) : FeGot × State :=
  match s.feAddr f va 64 .write with
  | .bad c => (.bad c, s)
  | .at pa => (.bytes (s.pocRead pa 64), s)
  | .away a => s.feFar f q who a 64

/-- The graph header at an address: its bytes, checked against Table 11.8. -/
def State.readHeader (s : State) (f q : Nat) (who : FeWho) (h : Nat) : FeGot × State :=
  if h % 64 ≠ 0 then (.bad 0x04, s)
  else match s.feRecord f q who h, s.translate f h .read with
    | (.wait, t), _ => (.wait, t)
    | (.bad c, _), _ => (.bad c, s)
    | (.bytes _, _), .bad c => (.bad c, s)
    | (.bytes l, _), .ok _ _ =>
      if fieldAt l 0 1 = 1 ∧ zeroAt l 1 7 ∧ fieldAt l 0x10 8 % 1024 = 0 ∧ zeroAt l 0x18 40 then (.bytes l, s) else (.bad 0x04, s)

/-- Does an edition record keep Table 11.9? -/
def recordOk (l : List Byte) (n : Nat) : Bool :=
  decide (fieldAt l 0 4 = n) && zeroAt l 0x14 4 && decide (fieldAt l 8 8 % 64 = 0) &&
    decide (1 ≤ fieldAt l 0x10 4 ∧ fieldAt l 0x10 4 ≤ 65536) && decide (fieldAt l 0x28 1 < 2) && zeroAt l 0x29 23

/-- The block number under which the edition word stands that a pin has read. -/
def pinBlock : Nat := 2 ^ 60

/-- Take one pin (R275): the edition word as it was, read and counted up in one atomic. The loop of R275 ends with exactly that. -/
def State.pinWord (s : State) (f q : Nat) (who : FeWho) (va : Nat) : FeGot × State :=
  match s.lineOf who pinBlock with
  | some x => (.bytes x.bytes, s)
  | none =>
    match s.feAddr f va 8 .write with
    | .bad c => (.bad c, s)
    | .at pa =>
      let l := s.pocRead pa 8
      (.bytes l, s.homePut pa 8 ((ofLe l + 1) % 2 ^ 64))
    | .away a => s.feAsk f q who pinBlock 0x03 (atomReqOp 0 8 false) a (atomReqData 1 0)

/-- How a pin ends: with the graph, with a code and the edition that was pinned before the record failed, or not yet. -/
inductive Pinned
  | ok (g : Graph) (s : State)
  | bad (code : Nat) (edition : Option Nat) (s : State)
  | wait (s : State)
deriving DecidableEq, Repr

/-- Pin the current edition of a graph (R275) and make its instance. A pin that waits for another member's answer keeps the edition word that it has read. -/
def State.pin (s : State) (q ring : Nat) (call : Option Nat) (plan : Option (Nat × Nat)) (depth h args : Nat) (who : FeWho) : Pinned :=
  let f := fnOfQueue q
  match s.readHeader f q who h with
  | (.wait, t) => .wait t
  | (.bad c, _) => .bad c none s
  | (.bytes l, _) =>
    match s.pinWord f q who (h + 8) with
    | (.wait, t) => .wait t
    | (.bad c, _) => .bad c none s
    | (.bytes w, s1) =>
      let n := fieldAt w 4 4
      match s1.feRecord f q who (fieldAt l 0x10 8 + 64 * (n % 16)) with
      | (.wait, t) => .wait (t.feStore q who pinBlock w 0)
      | (.bad c, _) => .bad c (some n) s1
      | (.bytes r, _) =>
        if !recordOk r n then .bad 0x04 (some n) (s1.feDrop who)
        else .ok
          { queue := q, ring := ring, call := call, plan := plan, depth := depth, header := h, edition := n
            nodes := fieldAt r 8 8, count := fieldAt r 0x10 4, preds := fieldAt r 0x18 8
            predEntries := fieldAt r 0x20 4, args := args, fetched := 0 } (s1.feDrop who)

/-- A pin that failed: its node has failed a check, and keeps the edition that it pinned until it is skipped (R275). -/
def State.pinFailed (s : State) (id h code : Nat) (edition : Option Nat) : State :=
  { s with fe.nodes := s.fe.nodes.mapVals (fun k n => if k = id then
      { n with check := code, pins := n.pins ++ (match edition with
          | some e => [(h, e)]
          | none => []) } else n) }

/-! Unpins (R275). -/

/-- The bytes that a step of an unpin reads or changes: address and length. -/
def Unpin.place (u : Unpin) : Nat × Nat :=
  if u.stage = 0 then (u.header, 64) else if u.stage = 1 then (u.header + 8, 8) else if u.stage = 2 then (u.rcd + 4, 4) else (u.rcd, 64)

/-- A compare-and-exchange of the edition word, as ATOMIC op 0xC. -/
def casOp : Nat := 0x0C

/-- The request of a step: type, op and data. -/
def Unpin.request (u : Unpin) : Nat × Nat × List Byte :=
  if u.stage = 1 then (0x03, atomReqOp casOp 8 false, atomReqData ((u.word + 2 ^ 64 - 1) % 2 ^ 64) u.word)
  else if u.stage = 2 then (0x03, atomReqOp 0 4 false, atomReqData 0xFFFFFFFF 0)
  else (0x01, 0, [])

/-- What a step writes where its bytes stand in this chip's memory. -/
def State.unpinPut (s : State) (u : Unpin) (pa old : Nat) : State :=
  if u.stage = 1 then (if old = u.word then s.homePut pa 8 ((old + 2 ^ 64 - 1) % 2 ^ 64) else s)
  else if u.stage = 2 then s.homePut pa 4 ((old + 0xFFFFFFFF) % 2 ^ 32)
  else s

/-- What a step has read decides the next one: none when the unpin is over, and whether free_handle is signalled. -/
def Unpin.took (u : Unpin) (l : List Byte) : Option Unpin × Bool :=
  let goes (w : Nat) : Nat := if w / 2 ^ 32 = u.edition then 1 else 2
  if u.stage = 0 then (some { u with word := fieldAt l 8 8, rcd := fieldAt l 0x10 8 + 64 * (u.edition % 16), stage := goes (fieldAt l 8 8) }, false)
  else if u.stage = 1 then (if fieldAt l 0 8 = u.word then (none, false) else (some { u with word := fieldAt l 0 8, stage := goes (fieldAt l 0 8) }, false))
  else if u.stage = 2 then (if (fieldAt l 0 4 + 0xFFFFFFFF) % 2 ^ 32 = 0x80000000 then (some { u with stage := 3 }, false) else (none, false))
  else (none, bit (fieldAt l 0x28 1) 0)

/-- The state after a step has read its bytes. -/
def State.unpinTook (s : State) (id : Nat) (u : Unpin) (l : List Byte) : State :=
  let r := u.took l
  let s1 : State := { s with fe.unpins := match r.1 with
    | some v => s.fe.unpins.put id v
    | none => s.fe.unpins.del id }
  if r.2 then s1.signalHandle (fnOfQueue u.queue) (fieldAt l 0x24 4) (fieldAt l 0 4) u.node u.queue else s1

/-- Go on with an unpin up to its next request to another chip. An unpin whose bytes can no longer be reached ends, and so does its context, as for every access that fails (R16, R356, R373). -/
def State.unpinGo (s : State) (id : Nat) : Nat → State
  | 0 => s
  | k + 1 =>
    match s.fe.unpins.get? id with
    | none => s
    | some u =>
      let f := fnOfQueue u.queue
      let gone : State := { s with fe.unpins := s.fe.unpins.del id }
      match s.feAddr f u.place.1 u.place.2 .write with
      | .bad c => (gone.sawPoison c f u.place.1 u.place.2).kill u.queue c (s.siteOf u.queue u.node)
      | .at pa =>
        let l := s.pocRead pa u.place.2
        State.unpinGo ((s.unpinPut u pa (ofLe l)).unpinTook id u l) id k
      | .away a =>
        let key := s.num E.fnFabKey f
        if key = 0 then gone.kill u.queue 0x02 (s.siteOf u.queue u.node)
        else if !s.reaches (bits a 59 48) then gone.kill u.queue 0x0D (s.siteOf u.queue u.node)
        else s.sendNow key f u.queue u.request.1 (bits a 59 48) u.request.2.1 (a % 2 ^ 48) u.request.2.2 0 (.unpin id)

/-- Steps that an unpin takes in this chip's memory at most, one after another. -/
def unpinFuel : Nat := 5

/-- Unpin an edition (R275); whoever brings retired_pins to 0x8000_0000 signals free_handle where the record asks for it. -/
def State.unpinEdition (s : State) (q header edition node : Nat) : State :=
  let id := s.fe.unpins.fresh
  let u : Unpin := { queue := q, node := node, header := header, edition := edition, word := 0, rcd := 0, stage := 0 }
  State.unpinGo { s with fe.unpins := s.fe.unpins.put id u } id unpinFuel

/-- Unpin the edition of a graph instance. -/
def State.unpin (s : State) (g : Graph) (node : Nat) : State := s.unpinEdition g.queue g.header g.edition node

/-- End a graph instance: its edition is unpinned and its nodes are dropped. -/
def State.endGraph (s : State) (gid node : Nat) : State :=
  match s.fe.graphs.get? gid with
  | none => s
  | some g =>
    let s1 := s.unpin g node
    { s1 with fe.graphs := s1.fe.graphs.del gid, fe.nodes := s1.fe.nodes.keep (fun _ n => !decide (n.graph = some gid)) }

/-- Is every node of a graph instance complete? -/
def State.graphComplete (s : State) (gid : Nat) (g : Graph) : Bool :=
  decide (g.fetched = g.count) && (s.graphNodes gid).all Node.finished

/-! Completion (R265, R268, R285, R292). -/

/-- The read pointer passes entries that have completed or been skipped, one after another; each passage restarts the timer, and one with irq
signals the completion vector. -/
def State.passEntries (s : State) (q : Nat) : Nat → State
  | 0 => s
  | k + 1 =>
    let x := s.q q
    if x.read = x.write then s
    else match s.ringNode q x.read with
      | none => s
      | some (id, n) =>
        if !n.finished then s
        else
          let s1 := { s with fe.nodes := s.fe.nodes.del id, fe.launches := s.fe.launches.del id, fe.copies := s.fe.copies.del id
                             fe.handles := s.fe.handles.del id }
          let s2 := (s1.modQ q (fun x => { x with read := (x.read + 1) % 2 ^ 32 })).restartTimer q
          State.passEntries (if n.irq then s2.sigDone q else s2) q k

/-- A RUNNING queue whose read pointer has reached its write pointer is IDLE (R266). -/
def State.idleCheck (s : State) (q : Nat) : State :=
  if (s.q q).state = .running ∧ !(s.q q).holdsWork then
    s.modQ q (fun x => { x with state := .idle, timerOn := false })
  else s

/-- Complete a node: trace record, count, interrupt of a graph node, read pointer, and the end of the graph that it completes (R268, R275, R292,
Tables 19.7 and 19.12). -/
def State.completeNode (s : State) (id : Nat) (n : Node) : State :=
  let s1 := { s with fe.nodes := s.fe.nodes.put id { n with status := .complete } }
  let s2 := (s1.traceFe 0x02 n.queue n.layer n.operator n.type 0).addQty n.queue 7 1 n.layer n.operator
  match n.graph with
  | none => (s2.passEntries n.queue 4097).idleCheck n.queue
  | some gid =>
    let s3 := if n.irq then s2.sigDone n.queue else s2
    match s3.fe.graphs.get? gid with
    | none => s3
    | some g => if g.plan.isSome && s3.graphComplete gid g then s3.endGraph gid id else s3

/-- Graph instance that a CALL node started. -/
def State.callGraph (s : State) (id : Nat) : Option (Nat × Graph) := s.fe.graphs.find? (fun e => decide (e.2.call = some id))

/-- Graphs that a PLAN node launched and that run. -/
def State.planGraphs (s : State) (id : Nat) : List (Nat × Graph) :=
  s.fe.graphs.filter (fun e => match e.2.plan with
    | some (n, _) => decide (n = id)
    | none => false)

/-- Have a LAUNCH node's stores and atomics been performed? -/
def State.launchSettled (s : State) (id : Nat) : Bool :=
  !s.cores.vals.any (fun k => k.sb.any (fun e => e.nodes.contains id)) && !s.l2.atoms.vals.any (fun a => decide (a.node = id))

/-- Does the condition of a node's row of Table 11.4 hold? -/
def State.nodeMet (s : State) (id : Nat) (n : Node) : Bool :=
  match n.type with
  | 0x01 => match s.fe.launches.get? id with
    | some l => decide (l.placed = l.blocks) && decide (l.exited = l.blocks) && s.launchSettled id
    | none => false
  | 0x02 => match s.fe.copies.get? id with
    | some c => c.pieces.all (fun p => decide (p = 2)) && c.flushed && (c.signalled || !bit (n.get 0x34 2) 0)
    | none => false
  | 0x07 => match s.callGraph id with
    | some e => s.graphComplete e.1 e.2
    | none => false
  | 0x08 => n.done && (s.planGraphs id).isEmpty
  | _ => n.done

/-- States of a queue in which its nodes complete (Table 11.14). -/
def QState.completes : QState → Bool
  | .running => true
  | .preempting => true
  | .preempted => true
  | _ => false

/-- NODE_COMPLETE (R268). -/
def nodeComplete (node : Nat) (s : State) : State :=
  match s.fe.nodes.get? node with
  | none => s
  | some n =>
    if n.status = .running && (s.q n.queue).state.completes && s.nodeMet node n then
      let s1 := if n.type = 7 then
          (match s.callGraph node with
           | some e => s.endGraph e.1 node
           | none => s)
        else s
      s1.completeNode node n
    else s

/-! Node types that the front end serves. -/

/-- NODE_NOP (Table 11.4). -/
def nodeNop (node : Nat) (s : State) : State :=
  s.startNode node 0 (fun n => State.completeNode (s.dispatched node n) node { n with status := .running })

/-- Scope of a local WAIT or SIGNAL: CHIP, or TIE on a tied chip (R269). -/
def State.nodeScope (s : State) : Nat := if 1 < s.fab.tie.length then 3 else 2

/-- The operation of a WAIT or SIGNAL node, or of a plan's SYNC call, on a handle (R158, R269): a kill code, 0x100 while 16,384 requests are
unanswered, or 0 with the operation on its way. -/
def State.issueSync (s : State) (q h op value : Nat) (who : WaiterWho) : Nat × State :=
  if 2 ^ 29 ≤ h then (0x02, s)
  else
    let isWait := decide (op = 1 ∨ op = 2 ∨ op = 4 ∨ op = 6)
    match handleChip h s.fab.chipId with
    | some chip => s.sendSync (fnOfQueue q) q chip (handleObj h) op value 4 who isWait
    | none =>
      let w : Waiter := { who := who, queue := q, op := op, value := value, scope := s.nodeScope }
      let m : SynMsg := { obj := handleObj h, op := op, value := value, queue := q, scope := s.nodeScope, who := who }
      (0, if isWait then { s with syn.registering := s.syn.registering ++ [(handleObj h, w)] }
          else { s with syn.inbound := s.syn.inbound ++ [m] })

/-- Start a WAIT or SIGNAL node. -/
def State.syncNode (s : State) (node : Nat) (n : Node) : State :=
  let r := (s.dispatched node n).issueSync n.queue (n.get 0x18 4) (n.get 0x1C 1) (n.get 0x20 8) (.node node)
  if r.1 = 0 then r.2 else if r.1 = 0x100 then s else s.kill n.queue r.1 n.site

/-- NODE_WAIT (R269, R288). -/
def nodeWait (node : Nat) (s : State) : State := s.startNode node 4 (fun n => s.syncNode node n)

/-- NODE_SIGNAL (R269). -/
def nodeSignal (node : Nat) (s : State) : State := s.startNode node 5 (fun n => s.syncNode node n)

/-- NODE_CALL (R274, R275). -/
def nodeCall (node : Nat) (s : State) : State :=
  s.startNode node 7 (fun n =>
    match s.pin n.queue n.ring (some node) none (n.depth + 1) (n.get 0x18 8) (n.get 0x20 8) (.node node) with
    | .wait t => t
    | .bad c ed t => ((t.pinFailed node (n.get 0x18 8) c ed).sawPoison c (fnOfQueue n.queue) (n.get 0x18 8) 64).kill n.queue c n.site
    | .ok g t =>
      State.dispatched { t with fe.graphs := t.fe.graphs.put t.fe.nextGraph g, fe.nextGraph := t.fe.nextGraph + 1 } node n)

/-- NODE_PLAN (R281): a free context takes the program; a saved context of a resumed queue returns to a free one. -/
def nodePlan (node : Nat) (s : State) : State :=
  match s.fe.nodes.get? node with
  | none => s
  | some n =>
    match (s.q n.queue).savedPlans.find? (fun e => decide (e.1 = node)) with
    | some e => if (s.q n.queue).state = .running then s.restorePlan n.queue node e.2 else s
    | none =>
      s.startNode node 8 (fun n =>
        match s.freePlanCtx with
        | none => s
        | some c =>
          let x := (((List.replicate 32 0#64).set 10 (BitVec.ofNat 64 (n.get 0x20 8))).set 11 (BitVec.ofNat 64 n.queue)).set 2
            (BitVec.ofNat 64 (n.get 0x28 8))
          let p : PlanCtx := { queue := n.queue, node := node, pc := n.get 0x18 8, x := x, wait := .none, rdata := none, code := []
                               since := s.time.mono, stopped := false }
          State.dispatched { s with fe.plans := s.fe.plans.put c p } node n)

/-- NODE_MARK (R269): the trace record, and the GTB count of D17 at the timestamp address. -/
def nodeMark (node : Nat) (s : State) : State :=
  s.startNode node 9 (fun n =>
    let va := n.get 0x20 8
    let s1 := (s.dispatched node n).traceFe 0x08 n.queue n.layer n.operator 0 (n.get 0x18 4)
    let stamp := leBytes 8 (s.domainTime 17)
    if va = 0 then s1.nodeDone node
    else match s.translate (fnOfQueue n.queue) va .write with
      | .bad c => (s1.sawPoison c (fnOfQueue n.queue) va 8).kill n.queue c n.site
      | .ok t a =>
        if t = 0 then (s1.agentWrite a stamp).nodeDone node
        else if t = 2 then (if s.hostOpen (fnOfQueue n.queue) a true then (s1.hostWrite a stamp).nodeDone node else s)
        else
          let r := s1.sendReq (fnOfQueue n.queue) n.queue 0x02 (bits a 59 48) 0 (a % 2 ^ 48) stamp 0 (.mark node)
          if r.1 = 0 then r.2 else if r.1 = 0x100 then s else s1.kill n.queue r.1 n.site)

/-! The meanings. -/

/-- NODE_FETCH (R272). -/
def execNodeFetch (queue : Nat) (graph : Option Nat) (s : State) : Host.Outcome State Fault Refusal :=
  .next (s.unit 6 queue (nodeFetch queue graph))
/-- NODE_COMPLETE (R268). -/
def execNodeComplete (node : Nat) (s : State) : Host.Outcome State Fault Refusal :=
  .next (s.unit 5 node (nodeComplete node))
/-- NODE_NOP (R268). -/
def execNodeNop (node : Nat) (s : State) : Host.Outcome State Fault Refusal :=
  .next (s.unit 5 node (nodeNop node))
/-- NODE_WAIT (R269). -/
def execNodeWait (node : Nat) (s : State) : Host.Outcome State Fault Refusal :=
  .next (nodeWait node s)
/-- NODE_SIGNAL (R269). -/
def execNodeSignal (node : Nat) (s : State) : Host.Outcome State Fault Refusal :=
  .next (nodeSignal node s)
/-- NODE_CALL (R275). -/
def execNodeCall (node : Nat) (s : State) : Host.Outcome State Fault Refusal :=
  .next (s.unit 5 node (nodeCall node))
/-- NODE_PLAN (R281). -/
def execNodePlan (node : Nat) (s : State) : Host.Outcome State Fault Refusal :=
  .next (s.unit 5 node (nodePlan node))
/-- NODE_MARK (R269). -/
def execNodeMark (node : Nat) (s : State) : Host.Outcome State Fault Refusal :=
  .next (s.unit 5 node (nodeMark node))

end Sys2Proof.Machine
end

