-- ==== Sys2Proof/Machine/Ready.lean ====
section
/-! DEFINITION. Machine/Ready.lean: where each thread's access goes (R145, R147, R151), what holds an instruction back, and which subset of which group a core issues from next
(R106 to R109). -/

namespace Sys2Proof.Machine

/-! Where an access goes (R145, Table 6.18). -/

/-- Key of a line of 128 bytes in the caches of a core: target and line number. -/
def lineKey (target line : Nat) : Nat := target * 2 ^ 57 + line

/-- Target of a key. -/
def keyTarget (k : Nat) : Nat := k / 2 ^ 57
/-- Line of a key. -/
def keyLine (k : Nat) : Nat := k % 2 ^ 57

/-- Lines of a piece. -/
def Acc.keys (a : Acc) : List Nat := (linesOf a.pa a.n).map (lineKey a.target)

/-- Lines of a list of pieces, each once. -/
def accKeys (l : List Acc) : List Nat := (l.flatMap Acc.keys).eraseDups

/-- Where one thread's access goes: its pieces, or the code of its fault. -/
inductive Placed
  | ok (l : List Acc)
  | bad (code : Nat)
deriving DecidableEq, Repr

/-- The first of two codes in the order of Table 5.5; 0 is none. -/
def firstCode (a b : Nat) : Nat := if a = 0 then b else if b = 0 then a else min a b

/-- Code of a translation. -/
def Tr.code : Tr → Nat
  | .ok _ _ => 0
  | .bad c => c

/-- Place an access to global memory, page by page (R16, R145). -/
def State.placeGlobal (s : State) (f t va n : Nat) (a : Access) : Placed :=
  if 2 ^ 57 ≤ va then .bad 0x01
  else
    let m := min n (2 ^ 16 - va % 2 ^ 16)
    let p := s.translate f va a
    let q := if m = n then Tr.ok 0 0 else s.translate f (va + m) a
    match p, q with
    | .ok t1 a1, .ok t2 a2 =>
      .ok ({ thread := t, va := va, off := 0, n := m, target := t1, pa := a1 } ::
        (if m = n then [] else [{ thread := t, va := va, off := m, n := n - m, target := t2, pa := a2 }]))
    | _, _ => .bad (firstCode p.code q.code)

/-- Place an access to scratch: bits [31:0] of the address, inside the block's scratch. -/
def placeScratch (size t va n : Nat) : Placed :=
  if size < va + n then .bad 0x02 else .ok [{ thread := t, va := va, off := 0, n := n, target := 3, pa := va }]

/-- Scratch bytes of the block of a slot. -/
def Core.scratchOf (k : Core) (slot : Nat) : Nat :=
  match k.blockOf slot with
  | some b => b.2.scratchBytes
  | none => 0

/-- Where the accesses of an issue go: the pieces in thread order, or the lowest thread that faults with its code and address (R119). -/
inductive Places
  | ok (l : List Acc)
  | fault (thread code addr : Nat)
deriving DecidableEq, Repr

/-- Place the accesses of threads. `addr` is the 64-bit sum of R145. -/
def Iss.placeAll (x : Iss) (s : State) (space : Bool) (n : Nat) (a : Access) (addr : Nat → Nat) : List Nat → Places
  | [] => .ok []
  | t :: ts =>
    let va := if space then addr t % 2 ^ 32 else addr t
    match (if space then placeScratch ((s.core x.core).scratchOf x.slot) t va n else s.placeGlobal x.fn t va n a) with
    | .bad c => .fault t c va
    | .ok l =>
      match Iss.placeAll x s space n a addr ts with
      | .ok m => .ok (l ++ m)
      | f => f

/-- A line in a list. -/
def findLine (l : List Line) (key : Nat) : Option Line := l.find? (fun x => decide (x.line = key))

end Sys2Proof.Machine

namespace Sys2Proof

/-- Bytes of a size code. -/
def sizeBytes (size : Nat) : Nat := 2 ^ size

/-- Legality of the fields that every memory instruction has (Table 6.18, R147). -/
def FmtM.ok (f : FmtM) (n : Nat) (withScope : Bool) : Bool :=
  decide (f.size ≤ 4) && decide (f.hint ≠ 3) && (if withScope then decide (f.scope ≤ 4) else decide (f.scope = 0)) &&
    (!f.S || (f.baseS && !f.space && !decide (f.size = 4))) && (if f.baseS then sregOk f.base else vregOk n 2 f.base)

/-- Is the data register legal? -/
def FmtM.dataOk (f : FmtM) (n : Nat) : Bool := if f.S then sregOk f.data else vregOk n (Machine.regsOfBytes (sizeBytes f.size)) f.data

/-- Registers of the base. -/
def FmtM.baseRegs (f : FmtM) : List Nat := if f.baseS then [256 + f.base] else rangeFrom f.base 2

/-- Registers of the data. -/
def FmtM.dataRegs (f : FmtM) : List Nat := if f.S then [256 + f.data] else rangeFrom f.data (Machine.regsOfBytes (sizeBytes f.size))

/-- Bytes of an atomic. -/
def FmtX.bytes (f : FmtX) : Nat := if f.width then 8 else 4

/-- Registers of an atomic's values. -/
def FmtX.regs (f : FmtX) : Nat := if f.width then 2 else 1

/-- Legality of format X (Table 6.6, Table 6.18). -/
def FmtX.ok (f : FmtX) (op n : Nat) : Bool :=
  decide (f.zero = 0 ∧ f.scope ≤ 4) && Machine.atomListed op f.bytes && !(f.far && f.space) &&
    (if f.baseS then sregOk f.base else vregOk n 2 f.base) && vregOk n f.regs f.operand &&
    (if op = 12 then vregOk n f.regs f.compare else decide (f.compare = 0)) &&
    (if f.discard then decide (f.dst = 0) else vregOk n f.regs f.dst)

end Sys2Proof

namespace Sys2Proof.Machine

/-- The address sum of R145. -/
def Group.addrM (g : Group) (f : FmtM) (t : Nat) : Nat :=
  wrapInt 64 (((if f.baseS then g.sreg f.base else g.vregs_ f.base t 2 : Nat) : Int) + signExt 24 f.offset)

/-- Threads that make an access: those whose guard holds, or, with S, the lowest thread of the issue (R130, R147). -/
def Iss.accessing (x : Iss) (S : Bool) : List Nat := if S then (if x.once then [x.lead] else []) else bitList 64 x.act

/-- The accesses of a memory instruction. -/
def Iss.placesM (x : Iss) (s : State) (f : FmtM) (a : Access) : Places :=
  x.placeAll s f.space (sizeBytes f.size) a (x.g.addrM f) (x.accessing f.S)

/-- Target of an atomic in a thread. -/
def Group.addrX (g : Group) (f : FmtX) (t : Nat) : Nat := if f.baseS then g.sreg f.base else g.vregs_ f.base t 2

/-- Does the host's memory allow an atomic (R320)? -/
def State.hostAtomOk (s : State) (f op : Nat) (far : Bool) : Bool :=
  (s.fn f).atomicReq && !far && decide (op = 0 ∨ op = 11 ∨ op = 12)

/-- The targets of an atomic (R119, R145, R151, R320): for each thread the first fault in the order of Table 5.5. -/
def Iss.placesX (x : Iss) (s : State) (f : FmtX) (op : Nat) : List Nat → Places
  | [] => .ok []
  | t :: ts =>
    let va := if f.space then x.g.addrX f t % 2 ^ 32 else x.g.addrX f t
    let r := if f.space then placeScratch ((s.core x.core).scratchOf x.slot) t va f.bytes else s.placeGlobal x.fn t va f.bytes .write
    match r with
    | .bad c => .fault t c va
    | .ok l =>
      if l.any (fun a => decide (a.target = 2)) && !s.hostAtomOk x.fn op f.far then .fault t 0x02 va
      else if va % f.bytes ≠ 0 then .fault t 0x05 va
      else
        match Iss.placesX x s f op ts with
        | .ok m => .ok (l ++ m)
        | e => e

/-- Does an outstanding load lack a line? -/
def Load.lacks (l : Load) (key : Nat) : Bool := (accKeys l.accs).contains key && !l.got.has key

/-- A second scalar miss waits for the first (R212). -/
def State.scalarMissOpen (s : State) (c : Nat) (keys : List Nat) : Bool :=
  s.l2.loads.vals.any (fun l => decide (l.core = c) && decide (l.kind = 1 ∨ l.kind = 3) && (accKeys l.accs).any l.lacks) &&
    keys.any (fun k => (findLine (s.core c).scl k).isNone && (findLine (s.core c).victim k).isNone)

/-! What holds a memory instruction back. -/

/-- Is a matrix instruction one that reads memory, with its read not yet done (R173)? -/
def MxOp.reads (o : MxOp) : Bool := decide (o.kind = 1) || (decide (o.kind = 3) && decide (o.entered < o.rows))

/-- Loads of threads of a group that have not returned, the reads of its matrix instructions included: those are loads of the lowest thread of their issue (R173). -/
def State.openLoads (s : State) (c slot mask : Nat) : List Nat :=
  SMap.keys (s.l2.loads.keep (fun _ l => decide (l.core = c ∧ l.slot = slot) && !decide (natAnd 64 l.threads mask = 0) &&
    decide (l.kind < 2))) ++
  ((s.core c).mx.queue.filter (fun o => decide (o.slot = slot) && o.reads && bit mask (lowest o.threads))).map (fun o => o.id)

/-- Has a load, or the read of a matrix instruction of a core, still not returned? -/
def State.readOpen (s : State) (c id : Nat) : Bool :=
  s.l2.loads.has id || (s.core c).mx.queue.any (fun o => decide (o.id = id) && o.reads)

/-- An earlier acquire or atomic of the threads is under way (R152, R153). -/
def State.acquiring (s : State) (c slot mask : Nat) : Bool :=
  s.l2.loads.vals.any (fun l => decide (l.core = c ∧ l.slot = slot) && !decide (l.acquire = 0) && !decide (natAnd 64 l.threads mask = 0)) ||
  s.l2.atoms.vals.any (fun a => decide (a.core = c ∧ a.slot = slot) && touches mask a.accs)

/-- A released store of the threads has not been made (R153). -/
def State.relOpen (s : State) (c slot mask : Nat) : Bool :=
  s.l2.bars.vals.any (fun b => decide (b.core = c ∧ b.slot = slot) && !decide (natAnd 64 b.threads mask = 0) && b.store.isSome)

/-- A released store of the threads that has not been made concerns a line of the access (R146). -/
def State.relClash (s : State) (c slot mask : Nat) (keys : List Nat) : Bool :=
  s.l2.bars.vals.any (fun b => decide (b.core = c ∧ b.slot = slot) && !decide (natAnd 64 b.threads mask = 0) &&
    (match b.store with
     | some l => (accKeys (l.map Prod.fst)).any keys.contains
     | none => false))

/-- Do pieces of another chip find free request entries (R364)? -/
def State.reqRoom (s : State) (keys : List Nat) : Bool :=
  decide (s.fab.reqs.length + (keys.filter (fun k => decide (keyTarget k = 1))).length ≤ 16384)

/-- Earlier loads of the threads of a group, not yet returned, that read one of some lines: a store to the line is performed after them (R146). -/
def State.lineLoads (s : State) (c slot mask : Nat) (keys : List Nat) : List Nat :=
  SMap.keys (s.l2.loads.keep (fun _ l => decide (l.core = c ∧ l.slot = slot) && !decide (natAnd 64 l.threads mask = 0) &&
    decide (l.kind < 2) && (accKeys l.accs).any keys.contains))

/-! The room of the store buffer (R210). -/

/-- Key of an entry. -/
def SbEntry.key (e : SbEntry) : Nat := lineKey e.target e.line

/-- May an entry leave the buffer: every entry that its release waits for has been performed, its loads have returned (R146, R245), and, for a line of another chip, no load of
the core waits for the line's answer, which might pass the store (R243)? -/
def State.mayLeave (s : State) (c : Nat) (e : SbEntry) : Bool :=
  !(s.core c).sb.any (fun o => decide (o.seq < e.after)) && !e.holdLoads.any (s.readOpen c) &&
    (!decide (e.target = 1) || !s.fab.reqs.vals.any (fun r => match r.issuer with
      | .load id key => decide (key = e.key) && (match s.l2.loads.get? id with
        | some l => decide (l.core = c)
        | none => false)
      | _ => false))

/-- Is an older entry of the core for the same line still there? -/
def State.lineOlder (s : State) (c : Nat) (e : SbEntry) : Bool :=
  (s.core c).sb.any (fun o => decide (o.seq < e.seq) && decide (o.key = e.key))

/-- Can an entry leave now: it may, and toward another chip there are request entries for every run that it can hold? -/
def State.canGo (s : State) (c : Nat) (e : SbEntry) : Bool :=
  !e.left && s.mayLeave c e && (decide (e.target = 0) || !s.lineOlder c e) && (!decide (e.target = 1) || decide (s.fab.reqs.length + 64 ≤ 16384))

/-- Do the lines of a store find room in the buffer of 32 entries, given that entries leave a full buffer (R210)? `hold` are the loads that the store waits for, `after` the entries: a
store that waits for none needs one place at a time. -/
def State.sbRoom (s : State) (c : Nat) (keys hold : List Nat) (after : Nat) : Bool :=
  let stuck := (s.core c).sb.countP (fun e => !e.left && !s.canGo c e)
  let far := keys.filter (fun k => !decide (keyTarget k = 0))
  let free := hold.isEmpty && (decide (after = 0) || (s.core c).sb.isEmpty) && !far.any (fun k => (s.core c).sb.any (fun e => decide (e.key = k))) &&
    decide (s.fab.reqs.length + 64 * (far.filter (fun k => decide (keyTarget k = 1))).length ≤ 16384)
  decide (stuck + (if free then min 1 keys.length else keys.length) ≤ 32)

/-! What an instruction waits for beside its registers. -/

/-- A load issues: no earlier acquire of its threads is open, and no released store of theirs to its lines; there is room for its requests, and for its scalar miss (R146, R153,
R212, R364). -/
def Iss.loadReady (x : Iss) (s : State) (f : FmtM) : Bool :=
  match x.placesM s f .read with
  | .fault _ _ _ => true
  | .ok l => !s.acquiring x.core x.slot x.mask && !s.relClash x.core x.slot x.mask (accKeys l) && s.reqRoom (accKeys l) &&
      !(f.S && s.scalarMissOpen x.core (accKeys l))

/-- A store issues: no earlier acquire of its threads is open, no released store of theirs to its lines, and the buffer has room. -/
def Iss.placesReady (x : Iss) (s : State) (p : Places) (rel : Bool) : Bool :=
  match p with
  | .fault _ _ _ => true
  | .ok l => !s.acquiring x.core x.slot x.mask && !s.relClash x.core x.slot x.mask (accKeys l) &&
      s.sbRoom x.core ((accKeys l).filter (fun k => !decide (keyTarget k = 3)))
        (if rel then s.openLoads x.core x.slot x.mask else s.lineLoads x.core x.slot x.mask (accKeys l)) (if rel then 1 else 0)

/-- A store of format M. -/
def Iss.storeReady (x : Iss) (s : State) (f : FmtM) (rel : Bool) : Bool := x.placesReady s (x.placesM s f .write) rel

/-- Where PREF goes: the lines of its threads' addresses that translate. -/
def Iss.prefPlaces (x : Iss) (s : State) (f : FmtM) : List Acc :=
  (x.accessing f.S).flatMap (fun t =>
    if f.space then []
    else match s.placeGlobal x.fn t (x.g.addrM f t) 1 .read with
      | .ok l => l
      | .bad _ => [])

/-- PREF waits as a load of its lines does. -/
def Iss.prefReady (x : Iss) (s : State) (f : FmtM) : Bool :=
  s.reqRoom (accKeys (x.prefPlaces s f)) && !(f.S && s.scalarMissOpen x.core (accKeys (x.prefPlaces s f)))

/-- The line of SCL.ZERO. -/
def Iss.zeroPlaces (x : Iss) (s : State) (f : FmtM) : Places :=
  x.placeAll s false 128 .write (fun _ => wrapInt 64 ((x.g.sreg f.base : Int) + signExt 24 f.offset) / 128 * 128) (x.accessing true)

/-- An atomic issues once the threads' loads have returned and no acquire and no released store of theirs is open (R152, R153, R245). -/
def Iss.atomReady (x : Iss) (s : State) (f : FmtX) (op : Nat) : Bool :=
  match x.placesX s f op (bitList 64 x.act) with
  | .fault _ _ _ => true
  | .ok _ => (s.openLoads x.core x.slot x.mask).isEmpty && !s.acquiring x.core x.slot x.mask && !s.relOpen x.core x.slot x.mask

/-- A SYNC instruction issues: no acquire of its threads is open, the wait unit has room for a wait (R302), and a request to another chip has an entry. -/
def Iss.syncReady (x : Iss) (s : State) (f : FmtY) (waits : Bool) : Bool :=
  !x.once || (!s.acquiring x.core x.slot x.mask && (!waits || decide ((s.core x.core).waits < 128)) &&
    ((handleChip (x.g.sreg f.handle) s.fab.chipId).isNone || decide (s.fab.reqs.length < 16384)))

/-- Does the block of the issue hold the core's matrix array? -/
def Iss.holdsArray (x : Iss) (s : State) : Bool :=
  match (s.core x.core).blockOf x.slot with
  | some b => decide ((s.core x.core).mx.holder = some b.1)
  | none => false

/-- A matrix instruction issues while the queue has room; one that accesses memory follows its thread's acquires and released stores (R171, R173, R240). -/
def Iss.mxReady (x : Iss) (s : State) (op : Nat) : Bool :=
  !x.once || !x.holdsArray s || (decide ((s.core x.core).mx.queue.length < 16) &&
    (!(decide (op = 0xC1 ∨ op = 0xC3 ∨ op = 0xC4)) ||
      (!s.acquiring x.core x.slot (2 ^ x.lead) && !s.relOpen x.core x.slot (2 ^ x.lead))))

/-! The words that stand next (R127, R134). -/

end Sys2Proof.Machine

namespace Sys2Proof

/-- Format A of a word. -/
def FmtA.ofWord (w : Nat) : FmtA :=
  { guard := bits w 55 53, guardNeg := bit w 52, dst := bits w 51 44, a := bits w 43 36, b := bits w 35 28, c := bits w 27 20, reuse := bits w 19 17
    scal := bits w 16 14, type := bits w 13 9, rnd := bits w 8 7, sat := bit w 6, S := bit w 5, sub := bits w 4 0 }

/-- Format I of a word. -/
def FmtI.ofWord (w : Nat) : FmtI :=
  { guard := bits w 55 53, guardNeg := bit w 52, dst := bits w 51 44, a := bits w 43 36, reuseA := bit w 35, scalA := bit w 34, S := bit w 33
    hi := bit w 32, imm := bits w 31 0 }

/-- Format M of a word. -/
def FmtM.ofWord (w : Nat) : FmtM :=
  { guard := bits w 55 53, guardNeg := bit w 52, data := bits w 51 44, base := bits w 43 36, scope := bits w 35 33, size := bits w 32 30
    space := bit w 29, baseS := bit w 28, S := bit w 27, signed := bit w 26, hint := bits w 25 24, offset := bits w 23 0 }

/-- Format X of a word. -/
def FmtX.ofWord (w : Nat) : FmtX :=
  { guard := bits w 55 53, guardNeg := bit w 52, dst := bits w 51 44, base := bits w 43 36, operand := bits w 35 28, compare := bits w 27 20
    scope := bits w 19 17, far := bit w 16, width := bit w 15, space := bit w 14, baseS := bit w 13, discard := bit w 12, zero := bits w 7 0 }

/-- Format Y of a word. -/
def FmtY.ofWord (w : Nat) : FmtY :=
  { guard := bits w 55 53, guardNeg := bit w 52, dst := bits w 51 44, handle := bits w 43 36, value := bits w 35 28, scope := bits w 23 21
    zero := bits w 20 0 }

/-- Format B of a word. -/
def FmtB.ofWord (w : Nat) : FmtB :=
  { guard := bits w 55 53, guardNeg := bit w 52, link := bits w 51 44, target := bits w 43 36, zero := bits w 35 32, offset := bits w 31 0 }

/-- Sources of an instruction of format A with their registers in number, by opcode (Tables 6.12 to 6.13). -/
def FmtA.sources (f : FmtA) (op : Nat) : List (Nat × Nat) :=
  let n := Machine.typeRegs f.type
  if op = 0x12 ∨ op = 0x33 then [(2, n), (1, n), (0, n)]
  else if (0x18 ≤ op ∧ op ≤ 0x1E) ∨ (0x3F ≤ op ∧ op ≤ 0x41) then [(2, 1)]
  else if 0x3B ≤ op ∧ op ≤ 0x3D then [(2, n), (1, 1)]
  else if op = 0x3E then [(2, n), (1, 1), (0, n)]
  else if op = 0x42 then [(2, 1), (1, 1), (0, 1)]
  else if op = 0x44 ∨ op = 0x66 then []
  else if op = 0x60 then [(2, n)]
  else if op = 0x62 then [(2, n), (1, 1)]
  else if op = 0x63 then [(2, Machine.typeRegs f.sub)] ++ if f.rnd = 2 then [(1, 1)] else []
  else if op = 0x64 then [(2, 1)] ++ if f.rnd = 2 then [(1, 1)] else []
  else if op = 0x65 then [(2, 1), (1, 1)]
  else [(2, n), (1, n)]

/-- Registers that an instruction of format A writes. -/
def FmtA.results (f : FmtA) (op : Nat) : List Nat :=
  if op = 0x15 ∨ op = 0x37 ∨ op = 0x44 then []
  else if op = 0x62 then [256 + f.dst]
  else if op = 0x66 then (if f.sub = 2 then [256 + f.dst] else [])
  else if op = 0x64 ∨ op = 0x65 then [f.dst]
  else f.dstRegs (Machine.typeRegs f.type)

/-- Registers of an instruction of format I. -/
def FmtI.regs (f : FmtI) (op : Nat) : List Nat :=
  let n := if op = 0x61 ∧ (f.imm = 6 ∨ f.imm = 7 ∨ f.imm = 8) then 2 else 1
  (if op = 0x50 ∨ op = 0x61 then [] else if f.S || f.scalA then [256 + f.a] else [f.a]) ++
    (if op = 0x59 then [] else if f.S then [256 + f.dst] else rangeFrom f.dst n)

/-- Registers of an atomic. -/
def FmtX.used (f : FmtX) (op : Nat) : List Nat :=
  (if f.baseS then [256 + f.base] else rangeFrom f.base 2) ++ rangeFrom f.operand f.regs ++ (if op = 12 then rangeFrom f.compare f.regs else []) ++
    (if f.discard then [] else rangeFrom f.dst f.regs)

/-- Registers that the instruction of a word reads or writes (vector register r is r, scalar register r is 256 + r). -/
def wordRegs (w : Nat) : List Nat :=
  let op := w / 2 ^ 56
  if op ≤ 0x06 then
    let f := FmtB.ofWord w
    (if op = 2 then rangeFrom f.target 2 else []) ++ (if op = 3 then rangeFrom f.link 2 else [])
  else if 0x50 ≤ op ∧ op ≤ 0x59 ∨ op = 0x61 then (FmtI.ofWord w).regs op
  else if op < 0x70 then
    let f := FmtA.ofWord w
    (f.sources op).flatMap (fun e => f.srcRegs e.1 e.2) ++ f.results op
  else if op < 0x80 then
    let f := FmtM.ofWord w
    if op = 0x76 then [] else if op = 0x75 then [256 + f.base] else f.baseRegs ++ (if op = 0x74 then [] else f.dataRegs)
  else if op = 0x80 then (FmtX.ofWord w).used (bits w 11 8)
  else if op = 0x90 then
    let f := FmtY.ofWord w
    (if bits w 27 24 = 4 ∨ bits w 27 24 = 5 then [] else [256 + f.value]) ++ [256 + f.handle, 256 + f.dst]
  else if op = 0x88 then []
  else if op = 0xC2 then []
  else if op = 0xC0 then [256 + bits w 51 44]
  else if op = 0xC5 then [256 + bits w 43 36]
  else [256 + bits w 51 44, 256 + bits w 43 36, 256 + bits w 35 28]

end Sys2Proof

namespace Sys2Proof.Machine

/-- Has the instruction of a word what it waits for beside its registers? -/
def Iss.wordReady (x : Iss) (s : State) (w : Nat) : Bool :=
  let op := w / 2 ^ 56
  if op = 0x70 ∨ op = 0x72 then x.loadReady s (FmtM.ofWord w)
  else if op = 0x71 ∨ op = 0x73 then x.storeReady s (FmtM.ofWord w) (decide (op = 0x73))
  else if op = 0x74 then x.prefReady s (FmtM.ofWord w)
  else if op = 0x75 then x.placesReady s (x.zeroPlaces s (FmtM.ofWord w)) false
  else if op = 0x80 then x.atomReady s (FmtX.ofWord w) (bits w 11 8)
  else if op = 0x90 then x.syncReady s (FmtY.ofWord w) (decide (bits w 27 24 ∈ [1, 2, 4, 6]))
  else if 0xC0 ≤ op then x.mxReady s op
  else true

/-! Whose turn it is (R106 to R109). -/

/-- Addresses of a group's live threads that wait at no group barrier: its subsets. -/
def Group.subsets (g : Group) : List Nat :=
  (((bitList 64 g.live).filter (fun t => !bit g.gbar t)).map (fun t => g.pcs.getD t 0)).eraseDups

/-- Is a subset ready (R106): none of its threads waits, and its next instruction has its registers and what else it waits for? A word that has not come is not ready. A fault of the fetch
and a word that no opcode lists are ready, to be taken. -/
def State.subsetReady (s : State) (c slot : Nat) (g : Group) (pc : Nat) : Bool :=
  let mask := g.issueMask pc
  !decide (mask = 0) && decide (natAnd 64 g.waiting mask = 0) &&
    (match s.fetchWord c slot g.queue pc with
     | .wait => false
     | .sent _ => false
     | .fault _ => true
     | .word w _ => !listedWord w || (!(wordRegs w).any (s.pendingRegs c slot mask).contains &&
         Iss.wordReady { core := c, slot := slot, pc := pc, g := g, mask := mask, act := g.guardMask (bits w 55 53) (bit w 52) mask } s w))

/-- The ready subsets of a group; a group that has stopped has none. -/
def State.readySubsets (s : State) (c slot : Nat) (g : Group) : List Nat :=
  if g.stopped || g.faulted then [] else g.subsets.filter (s.subsetReady c slot g)

/-- How long a group has waited since its last issue slot, as its place in the order; one that has not issued yet has waited longest (DESIGN CHOICE, log entry 94). -/
def Core.waited (k : Core) (slot : Nat) : Nat := (k.order.findIdx? (fun x => decide (x = slot))).getD k.order.length

/-- The greatest of a list under a measure, the first of equals. -/
def pickMax (m : Nat → Nat) : List Nat → Option Nat
  | [] => none
  | a :: t => match pickMax m t with
    | none => some a
    | some b => if m b ≤ m a then some a else some b

/-- The group that a core issues from next (R107): the one of the step before while it is ready and has issued in fewer than 16 consecutive steps, else the ready one that has waited
longest, of equals the lower slot. -/
def State.nextGroup (s : State) (c : Nat) : Option Nat :=
  let k := s.core c
  let ready := (k.groups.filter (fun e => !(s.readySubsets c e.1 e.2).isEmpty)).map Prod.fst
  match k.recent.head? with
  | some a => if ready.contains a && decide (k.run < 16) then some a else pickMax k.waited ready
  | none => pickMax k.waited ready

/-- Issue slots that a subset has gone without an issue: the most of its threads. -/
def Group.subsetAge (g : Group) (pc : Nat) : Nat := (bitList 64 (g.issueMask pc)).foldl (fun n t => max n (g.ages.getD t 0)) 0

/-- The lowest of a list. -/
def pickMin : List Nat → Option Nat
  | [] => none
  | a :: t => match pickMin t with
    | none => some a
    | some b => some (min a b)

/-- The subset that a group issues next, of its ready ones (R108, R109): subsets that hold a yielded thread only when all do; of these one that has gone 64 issue slots, the one that has waited
longest first, else the lowest PC. -/
def Group.nextSubset (g : Group) (ready : List Nat) : Option Nat :=
  let fresh := ready.filter (fun pc => decide (natAnd 64 g.yielded (g.issueMask pc) = 0))
  let cand := if fresh.isEmpty then ready else fresh
  let old := cand.filter (fun pc => decide (64 ≤ g.subsetAge pc))
  if old.isEmpty then pickMin cand else pickMax g.subsetAge old

/-- Is it the turn of the subset that an issue names? -/
def State.turn (s : State) (is : Issue) : Bool :=
  decide (s.nextGroup is.core = some is.slot) &&
    (match (s.core is.core).groups.get? is.slot with
     | some g => decide (g.nextSubset (s.readySubsets is.core is.slot g) = some is.pc)
     | none => false)

/-- Issue an instruction. A core that is not ready, a slot without a group, a group that is stopped, no thread there or a waiting one, a register not yet available, a word that the
core would not issue there, and a subset whose turn it is not leave the state unchanged. A double-bit error, a fault of the fetch and an illegal word end the context (R114, R118, R162). The
command names no thread of a double-bit error: the lowest of the issue is reported (log entry 95). A failed residue check discards the result (R105). -/
def State.issue (s : State) (is : Issue) (x : Form) (go : Iss → State → State) : State :=
  match (s.core is.core).groups.get? is.slot with
  | none => s
  | some g =>
    let mask := g.issueMask is.pc
    let lead := lowest mask
    if (s.core is.core).state ≠ 0 ∨ g.stopped ∨ g.faulted ∨ mask = 0 ∨ natAnd 64 g.waiting mask ≠ 0 then s
    else match s.fetchWord is.core is.slot g.queue is.pc with
      | .wait => s
      | .sent t => t
      | .fault code => if s.turn is then s.coreFault is.core is.slot lead code is.pc is.pc else s
      | .word w s1 =>
        if !s.turn is then s
        else if !listedWord w then s1.coreFault is.core is.slot lead 0x04 is.pc 0
        else if w ≠ x.word then s
        else if !x.legal g.vregs then s1.coreFault is.core is.slot lead 0x04 is.pc 0
        else
          let busy := s.pendingRegs is.core is.slot mask
          let act := g.guardMask x.guard x.neg mask
          if (x.srcs ++ x.dsts).any busy.contains then s
          else if !x.ready s1 { core := is.core, slot := is.slot, pc := is.pc, g := g, mask := mask, act := act } then s
          else
            let s2 := s1.countEcc is.core is.rfCorrected is.rcParity
            if is.rfDouble then s2.coreFault is.core is.slot lead 0x06 is.pc 0
            else
              match (if x.vec then is.residue else none) with
              | some h => s2.modCore is.core (fun k => { k with retry := some h })
              | none =>
                let g1 := g.age mask
                let s3 := (s2.modCore is.core (fun k =>
                    let k1 := k.noteGroup is.slot
                    { k1 with retry := none, rcache := rcIssue k1.rcache is.slot x.srcs x.hints x.dsts
                              groups := k1.groups.put is.slot g1 })).resumeAtIssue g.queue
                go { core := is.core, slot := is.slot, pc := is.pc, g := g1, mask := mask, act := act }
                  (s3.countIssue is.core g x.vec mask act)

end Sys2Proof.Machine
end

