-- ==== Sys2Proof/Machine/Special.lean ====
section
/-! DEFINITION. Machine/Special.lean: the special functions of R200 and the newts' exponential of R77. The spec bounds their results and gives
no bits: each result is the part's own value while that lies within the bound of Table 8.4, and the nearest code otherwise. -/

namespace Sys2Proof

/-- Fraction bits of the fixed-point numbers that locate an exact result. -/
def fixP : Nat := 320

/-- One in fixed point. -/
def fixOne : Int := (2 ^ fixP : Nat)

/-- Product in fixed point. -/
def fixMul (a b : Int) : Int := a * b / fixOne

/-- Sum of t_k * w(k) where t_{k+1} = t_k * z: terms `k` to `k + fuel`. -/
def fixSeries (z : Int) (w : Nat → Int → Int) : Nat → Nat → Int → Int
  | 0, _, _ => 0
  | n + 1, k, t => w k t + fixSeries z w n (k + 1) (fixMul t z)

/-- atanh of a fixed-point number of magnitude at most 1/3. -/
def fixAtanh (z : Int) : Int := fixSeries (fixMul z z) (fun k t => t / (2 * k + 1)) 110 0 z

/-- ln 2. -/
def fixLn2 : Int := 2 * fixAtanh (fixOne / 3)

/-- atan of 1/n. -/
def fixAtanInv (n : Nat) : Int :=
  fixSeries (fixOne / (n * n)) (fun k t => if k % 2 = 0 then t / (2 * k + 1) else -(t / (2 * k + 1))) 80 0 (fixOne / n)

/-- pi, by Machin's formula. -/
def fixPi : Int := 4 * (4 * fixAtanInv 5 - fixAtanInv 239)

/-- Taylor sum of exp at a fixed-point number in [0, 1]. -/
def fixExp (y : Int) : Int := go 80 1 fixOne
where
  go : Nat → Nat → Int → Int
    | 0, _, _ => 0
    | n + 1, k, t => t + go n (k + 1) (fixMul t y / k)

/-- Taylor sum of sin at a fixed-point number in [0, 8). -/
def fixSin (y : Int) : Int := go 80 1 y
where
  go : Nat → Nat → Int → Int
    | 0, _, _ => 0
    | n + 1, k, t => t + go n (k + 1) (-(fixMul (fixMul t y) y / ((2 * k) * (2 * k + 1))))

/-- A finite value in fixed point, rounded down. -/
def fixOf (neg : Bool) (m : Nat) (e : Int) : Int :=
  let sh := e + fixP
  let x : Int := if 0 ≤ sh then m * 2 ^ sh.toNat else m / 2 ^ (-sh).toNat
  if neg then -x else x

/-- A fixed-point number times 2^k. -/
def fixShift (x k : Int) : Int := if 0 ≤ k then x * 2 ^ k.toNat else x / 2 ^ (-k).toNat

/-- 2^y for a fixed-point y. -/
def fixExp2 (y : Int) : Int := fixShift (fixExp (fixMul (y % fixOne) fixLn2)) (y / fixOne)

/-- log2 of m * 2^e, m > 0. -/
def fixLog2 (m : Nat) (e : Int) : Int :=
  let l := Nat.log2 m
  let y : Int := (m : Int) * fixOne / (2 ^ l : Nat)
  ((l : Int) + e) * fixOne + 2 * fixAtanh ((y - fixOne) * fixOne / (y + fixOne)) * fixOne / fixLn2

/-- Integer square root by Newton's steps. -/
def sqrtStep (n : Nat) : Nat → Nat → Nat
  | 0, x => x
  | k + 1, x => if x = 0 then 0 else
      let y := (x + n / x) / 2
      if y < x then sqrtStep n k y else x

/-- The largest integer whose square is at most n. -/
def natSqrt (n : Nat) : Nat := sqrtStep n 1024 (2 ^ (Nat.log2 n / 2 + 1))

/-- The exact result of a function on a finite binary32 value, in fixed point; zero and negative inputs of RCP, RSQ, SQRT and LOG2 are handled before. -/
def fixFn (kind : Nat) (neg : Bool) (m : Nat) (e : Int) : Int :=
  match kind with
  | 0 => (if neg then -1 else 1) * fixShift ((2 ^ (2 * fixP) : Nat) / (m : Int)) (-(e + fixP))
  | 1 => natSqrt (fixShift ((2 ^ (4 * fixP) : Nat) / (m : Int)) (-(e + 2 * fixP))).toNat
  | 2 => natSqrt (fixShift m (e + 2 * fixP)).toNat
  | 3 => fixExp2 (fixOf neg m e)
  | 4 => fixLog2 m e
  | 5 => fixSin (fixOf neg m e % (2 * fixPi))
  | 6 => fixSin ((fixOf neg m e + fixPi / 2) % (2 * fixPi))
  | _ => fixExp2 (fixOf neg m e * fixOne / fixLn2)

/-- One unit in the last place of binary32 at a fixed-point number, in fixed point. -/
def fixUlp (x : Int) : Int :=
  let l : Int := (Nat.log2 x.natAbs : Int) - fixP - 23
  fixShift fixOne (max (-149) l)

/-- The tolerance of Table 8.4 (and of R77) about an exact result. -/
def fixTol (kind : Nat) (m : Nat) (e : Int) (x : Int) : Int :=
  let size := fixOf false m e
  match kind with
  | 0 => fixUlp x
  | 1 => 2 * fixUlp x
  | 2 => fixUlp x
  | 3 => 2 * fixUlp x
  | 4 => if fixOne / 2 ≤ size ∧ size ≤ 2 * fixOne then fixOne / 2 ^ 22 else 2 * fixUlp x
  | 5 => if size ≤ fixOne * 2 ^ 15 then fixOne / 2 ^ 21 else fixOne / 2 ^ 19
  | 6 => if size ≤ fixOne * 2 ^ 15 then fixOne / 2 ^ 21 else fixOne / 2 ^ 19
  | _ => 2 * fixUlp x

/-- May a code be the result: finite, within the tolerance, and for SIN and COS within [-1, 1]? -/
def withinBound (kind : Nat) (tol x : Int) (code : Nat) : Bool :=
  match Fmt.fp32.decode code with
  | .fin n m e =>
    let c := fixOf n m e
    decide ((c - x).natAbs ≤ tol.natAbs) && (!decide (kind = 5 ∨ kind = 6) || decide (c.natAbs ≤ fixOne.natAbs))
  | _ => false

/-- The result of a function whose exact value is `x` in fixed point. -/
def boundedResult (kind code : Nat) (m : Nat) (e : Int) : Int → Nat := fun x =>
  let raw := Config.polynomial kind code % 2 ^ 32
  if withinBound kind (fixTol kind m e x) x raw then raw
  else Fmt.fp32.encode .rne false (.fin (decide (x < 0)) x.natAbs (-(fixP : Int)))

/-- Above this, EXP2 and the exponential overflow; below its negative they give 0 or the smallest subnormal. -/
def expLimit (kind : Nat) : Int := if kind = 3 then 149 * fixOne else 104 * fixOne

/-- RCP, RSQ, SQRT, EXP2, LOG2, SIN, COS (kinds 0 to 6, R200, Table 8.4) and the exponential of the newts (kind 7, R77). -/
def specialFn (kind x : Nat) : Nat :=
  let f := Fmt.fp32
  match f.decode x with
  | .nan => f.nan
  | .inf neg =>
    (match kind with
     | 0 => f.sign neg
     | 1 => if neg then f.nan else 0
     | 2 => if neg then f.nan else f.infinity false
     | 3 => if neg then 0 else f.infinity false
     | 4 => if neg then f.nan else f.infinity false
     | 7 => if neg then 0 else f.infinity false
     | _ => f.nan)
  | .fin neg m e =>
    if m = 0 then
      (match kind with
       | 0 => f.infinity neg
       | 1 => f.infinity neg
       | 2 => f.sign neg
       | 4 => f.infinity true
       | 5 => f.sign neg
       | _ => boundedResult kind x m e fixOne)
    else if neg && (decide (kind = 1) || decide (kind = 2) || decide (kind = 4)) then f.nan
    else if (kind = 3 ∨ kind = 7) ∧ !neg ∧ 129 * fixOne ≤ fixOf false m e then f.infinity false
    else if (kind = 3 ∨ kind = 7) ∧ neg ∧ expLimit kind < fixOf false m e then Config.polynomial kind x % 2
    else if kind = 4 ∧ x = 0x3F800000 then 0
    else boundedResult kind x m e (fixFn kind neg m e)

end Sys2Proof
end

