-- ==== Sys2Proof/Machine/Alu.lean ====
section
/-! DEFINITION. Machine/Alu.lean: the arithmetic, logic, conversion, move and cross-lane instructions of a core (opcodes 0x10 to 0x66; R132, R137 to
R144, R193 to R200). -/

namespace Sys2Proof.Machine

/-! Shapes. -/

/-- Issue an instruction of format A. `ins` are its register sources with their registers in number. -/
def State.issueA (s : State) (is : Issue) (f : FmtA) (op : Nat) (legal : Nat → Bool) (ins : List (Nat × Nat)) (dsts : List Nat)
    (go : Iss → State → State) : State :=
  s.issue is
    { word := f.word op, guard := f.guard, neg := f.guardNeg, legal := legal, vec := !f.S
      srcs := ins.flatMap (fun e => f.srcRegs e.1 e.2), hints := f.hinted, dsts := dsts } go

/-- The fields of format A that every arithmetic form checks: type listed, sub and rnd in range, sat where it is allowed, S where a scalar form
exists, sources legal or unused (Table 6.18). -/
def FmtA_ok (f : FmtA) (n : Nat) (types : List Nat) (subs rnds : Nat) (sat : Bool) (scal : List Nat) (ins : List (Nat × Nat)) : Bool :=
  types.contains f.type && decide (f.sub < subs) && decide (f.rnd < rnds) && (!f.sat || sat) && (!f.S || scal.contains f.type) &&
    [2, 1, 0].all (fun k => match ins.find? (fun e => decide (e.1 = k)) with
      | some e => f.srcOk n k e.2
      | none => f.unused k)

/-- An instruction with one value: `val` of the group and a thread. -/
def State.valueA (s : State) (is : Issue) (f : FmtA) (op : Nat) (types : List Nat) (subs rnds : Nat) (sat : Bool) (scal : List Nat)
    (ins : List (Nat × Nat)) (val : Group → Nat → Nat) : State :=
  let size := typeRegs f.type
  s.issueA is f op (fun n => FmtA_ok f n types subs rnds sat scal ins && f.dstOk n size) ins (f.dstRegs size)
    (fun x s => x.result s f.S f.dst size (val x.g))

/-- An instruction with a predicate: `val` of the group and a thread. -/
def State.predA (s : State) (is : Issue) (f : FmtA) (op : Nat) (types : List Nat) (subs : Nat) (scal : List Nat)
    (ins : List (Nat × Nat)) (val : Group → Nat → Bool) : State :=
  s.issueA is f op (fun n => FmtA_ok f n types subs 1 false scal ins && predOk f.dst) ins []
    (fun x s => x.predicate s f.S f.dst (val x.g))

/-! Floating point. -/

/-- Types of floating instructions (Table 6.12). -/
def fpTypes : List Nat := [0x01, 0x11, 0x12, 0x13]

/-- The rounding mode of a field without stochastic rounding. -/
def rndOf (r : Nat) : Rnd := if r = 1 then .rz else .rne

/-- Apply an operation on codes in the type: the x2 types act on each half (R193). -/
def onFp (type : Nat) (op : Fmt → Nat → Nat → Nat → Nat) (a b c : Nat) : Nat :=
  let halves (f : Fmt) : Nat := op f (a % 65536) (b % 65536) (c % 65536) + 65536 * op f (a / 65536) (b / 65536) (c / 65536)
  match type with
  | 0x11 => op .fp64 a b c
  | 0x12 => halves .bf16
  | 0x13 => halves .fp16
  | _ => op .fp32 a b c

/-- Negate or take the absolute value under a sub bit. -/
def negIf (b : Bool) (v : FVal) : FVal := if b then v.negate else v
/-- Absolute value under a sub bit. -/
def absIf (b : Bool) (v : FVal) : FVal := if b then v.abs else v

/-- FADD, FMUL and FFMA on exact values. -/
def State.fpArith (s : State) (is : Issue) (f : FmtA) (op subs : Nat) (ks : List Nat) (exact : FVal → FVal → FVal → FVal) : State :=
  let size := typeRegs f.type
  s.valueA is f op fpTypes subs 2 true [0x01] (ks.map (fun k => (k, size)))
    (fun g t => onFp f.type (fun fm a b c => fm.encode (rndOf f.rnd) f.sat (exact (fm.decode a) (fm.decode b) (fm.decode c)))
      (g.srcA f 2 size t) (g.srcA f 1 size t) (g.srcA f 0 size t))

/-- FADD (R139, R140). -/
def fadd (is : Issue) (f : FmtA) (s : State) : State :=
  s.fpArith is f 0x10 4 [2, 1] (fun a b _ => (absIf (bit f.sub 1) a).add (negIf (bit f.sub 0) b))

/-- FMUL. -/
def fmul (is : Issue) (f : FmtA) (s : State) : State :=
  s.fpArith is f 0x11 2 [2, 1] (fun a b _ => negIf (bit f.sub 0) (a.mul b))

/-- FFMA: rounded once. -/
def ffma (is : Issue) (f : FmtA) (s : State) : State :=
  s.fpArith is f 0x12 4 [2, 1, 0] (fun a b c => (negIf (bit f.sub 0) (a.mul b)).add (negIf (bit f.sub 1) c))

/-- FMIN and FMAX (R199). -/
def State.fpMinmax (s : State) (is : Issue) (f : FmtA) (op : Nat) (wantMax : Bool) : State :=
  let size := typeRegs f.type
  s.valueA is f op fpTypes 1 1 false [0x01] [(2, size), (1, size)]
    (fun g t => onFp f.type (fun fm a b _ => fm.minmax wantMax a b) (g.srcA f 2 size t) (g.srcA f 1 size t) 0)

/-- FMIN. -/
def fmin (is : Issue) (f : FmtA) (s : State) : State := s.fpMinmax is f 0x13 false

/-- FMAX. -/
def fmax (is : Issue) (f : FmtA) (s : State) : State := s.fpMinmax is f 0x14 true

/-- FSETP. -/
def fsetp (is : Issue) (f : FmtA) (s : State) : State :=
  let size := typeRegs f.type
  s.predA is f 0x15 [0x01, 0x11] 8 [0x01] [(2, size), (1, size)]
    (fun g t => fsetpBit (if f.type = 0x11 then .fp64 else .fp32) f.sub (g.srcA f 2 size t) (g.srcA f 1 size t))

/-- A special function (R200). -/
def State.fpSpecial (s : State) (is : Issue) (f : FmtA) (op kind : Nat) : State :=
  s.valueA is f op [0x01] 1 1 false [] [(2, 1)] (fun g t => specialFn kind (g.srcA f 2 1 t))

/-- RCP. -/
def rcp (is : Issue) (f : FmtA) (s : State) : State := s.fpSpecial is f 0x18 0
/-- RSQ. -/
def rsq (is : Issue) (f : FmtA) (s : State) : State := s.fpSpecial is f 0x19 1
/-- SQRT. -/
def sqrt (is : Issue) (f : FmtA) (s : State) : State := s.fpSpecial is f 0x1A 2
/-- EXP2. -/
def exp2 (is : Issue) (f : FmtA) (s : State) : State := s.fpSpecial is f 0x1B 3
/-- LOG2. -/
def log2 (is : Issue) (f : FmtA) (s : State) : State := s.fpSpecial is f 0x1C 4
/-- SIN. -/
def sin (is : Issue) (f : FmtA) (s : State) : State := s.fpSpecial is f 0x1D 5
/-- COS. -/
def cos (is : Issue) (f : FmtA) (s : State) : State := s.fpSpecial is f 0x1E 6

/-! Integers. -/

/-- Types of integer instructions (Table 6.12). -/
def intTypes : List Nat := [0x00, 0x0D, 0x0E, 0x0F, 0x10]

/-- Width of an integer type of these instructions. -/
def intWidth (type : Nat) : Nat := 32 * typeRegs type

/-- Is the type signed? B32 is taken without a sign (DEDUCED from Table 6.9, log entry 22). -/
def intSigned (type : Nat) : Bool := decide (type = 0x0D ∨ type = 0x0F)

/-- An instruction on two integers of its type. -/
def State.intOp2 (s : State) (is : Issue) (f : FmtA) (op : Nat) (types : List Nat) (sat : Bool) (val : Nat → Bool → Nat → Nat → Nat) : State :=
  let size := typeRegs f.type
  s.valueA is f op types 1 1 sat types [(2, size), (1, size)]
    (fun g t => val (intWidth f.type) (intSigned f.type) (g.srcA f 2 size t) (g.srcA f 1 size t))

/-- A sum or difference, wrapping or saturated (R141). -/
def addInt (sat : Bool) (n : Nat) (signed : Bool) (x : Int) : Nat := wrapInt n (if sat then clampInt n signed x else x)

/-- IADD. -/
def iadd (is : Issue) (f : FmtA) (s : State) : State :=
  s.intOp2 is f 0x30 intTypes true (fun n sg a b => addInt f.sat n sg (intVal n sg a + intVal n sg b))

/-- ISUB. -/
def isub (is : Issue) (f : FmtA) (s : State) : State :=
  s.intOp2 is f 0x31 intTypes true (fun n sg a b => addInt f.sat n sg (intVal n sg a - intVal n sg b))

/-- Types of multiplies. -/
def mulTypes : List Nat := [0x0D, 0x0E, 0x0F, 0x10]

/-- IMUL. -/
def imul (is : Issue) (f : FmtA) (s : State) : State := s.intOp2 is f 0x32 mulTypes false (fun n _ a b => a * b % 2 ^ n)

/-- IMAD. -/
def imad (is : Issue) (f : FmtA) (s : State) : State :=
  let size := typeRegs f.type
  s.valueA is f 0x33 mulTypes 1 1 false mulTypes [(2, size), (1, size), (0, size)]
    (fun g t => (g.srcA f 2 size t * g.srcA f 1 size t + g.srcA f 0 size t) % 2 ^ intWidth f.type)

/-- IMULHI: the high half of the full product. -/
def imulhi (is : Issue) (f : FmtA) (s : State) : State :=
  s.intOp2 is f 0x34 mulTypes false (fun n sg a b => wrapInt n (intVal n sg a * intVal n sg b / (2 ^ n : Nat)))

/-- IMIN. -/
def imin (is : Issue) (f : FmtA) (s : State) : State :=
  s.intOp2 is f 0x35 intTypes false (fun n sg a b => if intVal n sg a ≤ intVal n sg b then a else b)

/-- IMAX. -/
def imax (is : Issue) (f : FmtA) (s : State) : State :=
  s.intOp2 is f 0x36 intTypes false (fun n sg a b => if intVal n sg a ≤ intVal n sg b then b else a)

/-- ISETP. -/
def isetp (is : Issue) (f : FmtA) (s : State) : State :=
  let size := typeRegs f.type
  s.predA is f 0x37 intTypes 6 intTypes [(2, size), (1, size)]
    (fun g t => isetpBit (intWidth f.type) (intSigned f.type) f.sub (g.srcA f 2 size t) (g.srcA f 1 size t))

/-- AND. -/
def and (is : Issue) (f : FmtA) (s : State) : State := s.intOp2 is f 0x38 intTypes false (fun n _ a b => natAnd n a b)
/-- OR. -/
def or (is : Issue) (f : FmtA) (s : State) : State := s.intOp2 is f 0x39 intTypes false (fun n _ a b => natOr n a b)
/-- XOR. -/
def xor (is : Issue) (f : FmtA) (s : State) : State := s.intOp2 is f 0x3A intTypes false (fun n _ a b => natXor n a b)

/-- Shift left, the count modulo the width. -/
def shiftL (n a count : Nat) : Nat := a * 2 ^ (count % n) % 2 ^ n

/-- Shift right. -/
def shiftR (n : Nat) (arith : Bool) (a count : Nat) : Nat :=
  if arith then wrapInt n (signExt n a / (2 ^ (count % n) : Nat)) else a % 2 ^ n / 2 ^ (count % n)

/-- An instruction with a value of the type in a, a 32-bit b, and perhaps a value in c. -/
def State.fieldOp (s : State) (is : Issue) (f : FmtA) (op subs : Nat) (useC : Bool) (val : Nat → Nat → Nat → Nat → Nat) : State :=
  let size := typeRegs f.type
  s.valueA is f op intTypes subs 1 false intTypes ([(2, size), (1, 1)] ++ if useC then [(0, size)] else [])
    (fun g t => val (intWidth f.type) (g.srcA f 2 size t) (g.srcA f 1 1 t) (g.srcA f 0 size t))

/-- SHL. -/
def shl (is : Issue) (f : FmtA) (s : State) : State := s.fieldOp is f 0x3B 1 false (fun n a b _ => shiftL n a b)

/-- SHR. -/
def shr (is : Issue) (f : FmtA) (s : State) : State := s.fieldOp is f 0x3C 2 false (fun n a b _ => shiftR n (bit f.sub 0) a b)

/-- BFE: the field of `len` bits from `start`, zero- or sign-extended. A field that reaches past the type, or the sign of an empty field, is a value that the
spec does not state (log entry 21). -/
def bfeVal (n : Nat) (signed : Bool) (a b : Nat) : Nat :=
  let start := b % 256
  let len := b / 256 % 256
  if n < start + len ∨ (signed ∧ len = 0) then Config.unstated 0 a b % 2 ^ n
  else
    let v := a / 2 ^ start % 2 ^ len
    if signed then wrapInt n (signExt len v) else v

/-- BFE. -/
def bfe (is : Issue) (f : FmtA) (s : State) : State := s.fieldOp is f 0x3D 2 false (fun n a b _ => bfeVal n (bit f.sub 0) a b)

/-- BFI: the low `len` bits of a in place of the field of c; bits past the type are not there to insert. -/
def bfiVal (n a b c : Nat) : Nat :=
  let start := b % 256
  let len := b / 256 % 256
  ofBitList ((List.range n).filter (fun i => if start ≤ i ∧ i < start + len then bit a (i - start) else bit c i))

/-- BFI. -/
def bfi (is : Issue) (f : FmtA) (s : State) : State := s.fieldOp is f 0x3E 1 true (fun n a b c => bfiVal n a b c)

/-- A bit count of a B32 value. -/
def State.bitOp (s : State) (is : Issue) (f : FmtA) (op : Nat) (val : Nat → Nat) : State :=
  s.valueA is f op [0x00] 1 1 false [0x00] [(2, 1)] (fun g t => val (g.srcA f 2 1 t))

/-- POPC. -/
def popc (is : Issue) (f : FmtA) (s : State) : State := s.bitOp is f 0x3F (popCount 32)
/-- CLZ. -/
def clz (is : Issue) (f : FmtA) (s : State) : State := s.bitOp is f 0x40 (fun a => if a = 0 then 32 else 31 - Nat.log2 a)
/-- BREV. -/
def brev (is : Issue) (f : FmtA) (s : State) : State :=
  s.bitOp is f 0x41 (fun a => ofBitList ((List.range 32).filter (fun i => bit a (31 - i))))

/-- Byte i of a value as signed or unsigned. -/
def byteVal (signed : Bool) (x i : Nat) : Int := intVal 8 signed (x / 2 ^ (8 * i))

/-- IDP4: four products of bytes and c, exactly, wrapped to INT32 (R141). -/
def idp4 (is : Issue) (f : FmtA) (s : State) : State :=
  s.valueA is f 0x42 [0x09, 0x0A] 2 1 false [] [(2, 1), (1, 1), (0, 1)]
    (fun g t =>
      let a := g.srcA f 2 1 t
      let b := g.srcA f 1 1 t
      let p (i : Nat) : Int := byteVal (decide (f.type = 0x09)) a i * byteVal (!bit f.sub 0) b i
      wrapInt 32 (p 0 + p 1 + p 2 + p 3 + signExt 32 (g.srcA f 0 1 t)))

/-- SEL: a or b by the predicate that c names. -/
def sel (is : Issue) (f : FmtA) (s : State) : State :=
  let size := typeRegs f.type
  s.issueA is f 0x43
    (fun n => intTypes.contains f.type && decide (f.sub = 0 ∧ f.rnd = 0) && !f.sat && f.srcOk n 2 size && f.srcOk n 1 size &&
      f.predSrc 0 && f.dstOk n size)
    [(2, size), (1, size)] (f.dstRegs size)
    (fun x s => x.result s f.S f.dst size (fun t => if x.g.pred f.c t then x.g.srcA f 2 size t else x.g.srcA f 1 size t))

/-- PLOP: predicate logic; its type field is zero. -/
def plop (is : Issue) (f : FmtA) (s : State) : State :=
  s.issueA is f 0x44
    (fun _ => decide (f.type = 0 ∧ f.sub < 8 ∧ f.rnd = 0) && !f.sat && !f.S && f.predSrc 2 && f.predSrc 1 && f.unused 0 && predOk f.dst)
    [] [] (fun x s => x.predicate s false f.dst (fun t => plopBit f.sub (x.g.pred f.a t) (x.g.pred f.b t)))

/-! Immediate forms (Table 6.4). -/

/-- Is source a of format I a scalar register? -/
def fmtIScal (f : FmtI) : Bool := f.S || f.scalA

/-- Source a of format I legal, or unused. -/
def fmtISrcOk (f : FmtI) (n : Nat) (used : Bool) : Bool :=
  if used then (if fmtIScal f then !f.reuseA && sregOk f.a else vregOk n 1 f.a)
  else decide (f.a = 0) && !f.reuseA && !f.scalA

/-- Issue an instruction of format I. -/
def State.issueI (s : State) (is : Issue) (f : FmtI) (op : Nat) (useA hiOk : Bool) (dstOk : Nat → Bool) (dsts : List Nat)
    (go : Iss → State → State) : State :=
  s.issue is
    { word := f.word op, guard := f.guard, neg := f.guardNeg, vec := !f.S
      legal := fun n => fmtISrcOk f n useA && (!f.hi || (hiOk && f.S)) && dstOk n
      srcs := if useA then (if fmtIScal f then [256 + f.a] else [f.a]) else []
      hints := if f.reuseA && !fmtIScal f then [f.a] else [], dsts := dsts } go

/-- The destination of format I. -/
def fmtIDstOk (f : FmtI) (n size : Nat) : Bool := if f.S then sregOk f.dst else vregOk n size f.dst
/-- Its registers. -/
def fmtIDst (f : FmtI) (size : Nat) : List Nat := if f.S then [256 + f.dst] else rangeFrom f.dst size

/-- Source a of format I: 32 bits of a vector or selected scalar register, or all 64 with S. -/
def Group.srcI (g : Group) (f : FmtI) (t : Nat) : Nat :=
  if f.S then g.sreg f.a else if f.scalA then g.sreg f.a % 2 ^ 32 else g.vreg f.a t

/-- An integer immediate form. With S it acts on the whole 64-bit scalar register, its immediate extended to 64 bits (DEDUCED from Table 6.4, which
sign-extends a 32-bit immediate; log entry 23). -/
def State.intImm (s : State) (is : Issue) (f : FmtI) (op : Nat) (val : Nat → Nat → Nat) : State :=
  let n := if f.S then 64 else 32
  s.issueI is f op true false (fun r => fmtIDstOk f r 1) (fmtIDst f 1)
    (fun x s => x.result s f.S f.dst (if f.S then 2 else 1) (fun t => val n (x.g.srcI f t)))

/-- MOVI: the immediate, zero-extended with S, or with hi in the upper half alone. -/
def movi (is : Issue) (f : FmtI) (s : State) : State :=
  s.issueI is f 0x50 false true (fun r => fmtIDstOk f r 1) (fmtIDst f 1)
    (fun x s => x.result s f.S f.dst (if f.S then 2 else 1)
      (fun _ => if f.hi then x.g.sreg f.dst % 2 ^ 32 + 2 ^ 32 * f.imm else f.imm))

/-- IADD.I. -/
def iaddI (is : Issue) (f : FmtI) (s : State) : State :=
  s.intImm is f 0x51 (fun n a => wrapInt n ((a : Int) + signExt 32 f.imm))
/-- AND.I. -/
def andI (is : Issue) (f : FmtI) (s : State) : State := s.intImm is f 0x52 (fun n a => natAnd n a f.imm)
/-- OR.I. -/
def orI (is : Issue) (f : FmtI) (s : State) : State := s.intImm is f 0x53 (fun n a => natOr n a f.imm)
/-- XOR.I. -/
def xorI (is : Issue) (f : FmtI) (s : State) : State := s.intImm is f 0x54 (fun n a => natXor n a f.imm)
/-- SHL.I. -/
def shlI (is : Issue) (f : FmtI) (s : State) : State := s.intImm is f 0x55 (fun n a => shiftL n a f.imm)
/-- SHR.I: a logical shift (DEDUCED: format I has no field that selects the arithmetic one; log entry 23). -/
def shrI (is : Issue) (f : FmtI) (s : State) : State := s.intImm is f 0x56 (fun n a => shiftR n false a f.imm)

/-- A floating immediate form in FP32. -/
def State.fpImm (s : State) (is : Issue) (f : FmtI) (op : Nat) (val : Nat → Nat → Nat) : State :=
  s.issueI is f op true false (fun r => fmtIDstOk f r 1) (fmtIDst f 1)
    (fun x s => x.result s f.S f.dst 1 (fun t => val (x.g.srcI f t % 2 ^ 32) f.imm))

/-- FADD.I. -/
def faddI (is : Issue) (f : FmtI) (s : State) : State := s.fpImm is f 0x57 (Fmt.fp32.add .rne false)
/-- FMUL.I. -/
def fmulI (is : Issue) (f : FmtI) (s : State) : State := s.fpImm is f 0x58 (Fmt.fp32.mul .rne false)

/-- ISETP.I (R137). -/
def isetpI (is : Issue) (f : FmtI) (s : State) : State :=
  s.issueI is f 0x59 true false (fun _ => decide (f.dst < 64) && decide (f.dst / 8 ≤ 5)) []
    (fun x s => x.predicate s f.S (f.dst % 8) (fun t => isetpBit 32 true (f.dst / 8) (x.g.srcI f t % 2 ^ 32) f.imm))

/-! Moves and special values. -/

/-- Types of moves. -/
def movTypes : List Nat := [0x00, 0x0F, 0x10]

/-- MOV. -/
def mov (is : Issue) (f : FmtA) (s : State) : State :=
  let size := typeRegs f.type
  s.valueA is f 0x60 movTypes 1 1 false movTypes [(2, size)] (fun g t => g.srcA f 2 size t)

/-- Registers that a special value fills (Table 6.1). -/
def srdSize (code : Nat) : Nat := if code = 0x06 ∨ code = 0x07 ∨ code = 0x08 then 2 else 1

/-- A special value (Table 6.1). -/
def Iss.special (x : Iss) (s : State) (code t : Nat) : Nat :=
  match code with
  | 0x00 => t
  | 0x01 => x.g.width
  | 0x02 => x.slot
  | 0x03 => x.g.inBlock
  | 0x04 => x.core
  | 0x05 => s.fab.chipId
  | 0x06 => x.g.live
  | 0x07 => x.mask
  | 0x08 => s.domainTime (x.core / 24)
  | _ => (s.core x.core).epoch

/-- SRD (R132). -/
def srd (is : Issue) (f : FmtI) (s : State) : State :=
  let size := srdSize f.imm
  s.issueI is f 0x61 false false (fun n => decide (f.imm ≤ 9) && !(f.S && decide (f.imm = 0)) && fmtIDstOk f n size) (fmtIDst f size)
    (fun x s => x.result s f.S f.dst size (x.special s f.imm))

/-! Cross-lane instructions (R144). -/

/-- V2S: the value of thread b mod W, zero-extended or a pair, to a scalar register; with no thread whose guard holds it writes nothing. -/
def v2s (is : Issue) (f : FmtA) (s : State) : State :=
  let size := typeRegs f.type
  s.issueA is f 0x62
    (fun n => movTypes.contains f.type && decide (f.sub = 0 ∧ f.rnd = 0) && !f.sat && !f.S && f.srcOk n 2 size && bit f.scal 1 &&
      f.srcOk n 1 1 && f.unused 0 && sregOk f.dst)
    [(2, size), (1, 1)] [256 + f.dst]
    (fun x s =>
      if x.act = 0 then x.done s x.g
      else x.done s (x.g.setS f.dst (x.g.srcA f 2 size (x.g.srcA f 1 1 x.lead % x.g.width))))

/-- Types of CVT (R142: no x2 type). -/
def cvtTypes : List Nat :=
  [0x00, 0x01, 0x02, 0x03, 0x04, 0x05, 0x06, 0x07, 0x08, 0x09, 0x0A, 0x0B, 0x0C, 0x0D, 0x0E, 0x0F, 0x10, 0x11, 0x14]

/-- The scalar forms of CVT: between FP32 and a 32- or 64-bit integer (Table 6.12). -/
def cvtScalar (a b : Nat) : Bool := (decide (a = 0x01) && mulTypes.contains b) || (decide (b = 0x01) && mulTypes.contains a)

/-- The rounding of a conversion, with the random value of a thread's b (R195). -/
def cvtRnd (rnd b : Nat) : Rnd := if rnd = 2 then .sr (randOf (b % 2 ^ 32)) else rndOf rnd

/-- A result in a register of 32 or 64 bits: signed integers sign-extended (R142). -/
def cvtExtend (type v : Nat) : Nat :=
  match intOf type with
  | some (n, true) => if n < 32 then wrapInt 32 (signExt n v) else v
  | _ => v

/-- CVT (R142). -/
def cvt (is : Issue) (f : FmtA) (s : State) : State :=
  let inSize := typeRegs f.sub
  let size := typeRegs f.type
  let ins := [(2, inSize)] ++ if f.rnd = 2 then [(1, 1)] else []
  s.issueA is f 0x63
    (fun n => cvtTypes.contains f.type && cvtTypes.contains f.sub && decide (f.rnd < 3) && (!f.S || cvtScalar f.type f.sub) &&
      f.srcOk n 2 inSize && (if f.rnd = 2 then f.srcOk n 1 1 else f.unused 1) && f.unused 0 && f.dstOk n size)
    ins (f.dstRegs size)
    (fun x s => x.result s f.S f.dst size (fun t =>
      cvtExtend f.type (convert f.type f.sub (cvtRnd f.rnd (x.g.srcA f 1 1 t)) f.sat (x.g.srcA f 2 inSize t))))

/-- Largest exponent of an MX element format (R143): E4M3 8, E5M2 15, E2M3 2, E3M2 4, E2M1 2, MXINT8 0. -/
def mxEmax (type : Nat) : Nat :=
  match type with
  | 0x04 => 8
  | 0x05 => 15
  | 0x06 => 2
  | 0x07 => 4
  | 0x08 => 2
  | _ => 0

/-- CVT.MX (R143): a block of 32 threads takes one scale, formed over the threads whose guard holds. -/
def cvtMx (is : Issue) (f : FmtA) (s : State) : State :=
  s.issueA is f 0x64
    (fun n => [0x04, 0x05, 0x06, 0x07, 0x08, 0x09].contains f.type && decide (f.sub = 1 ∨ f.sub = 2) && decide (f.rnd < 3) && !f.S &&
      f.srcOk n 2 1 && (if f.rnd = 2 then f.srcOk n 1 1 else f.unused 1) && f.unused 0 && vregOk n 1 f.dst)
    ([(2, 1)] ++ if f.rnd = 2 then [(1, 1)] else []) [f.dst]
    (fun x s =>
      let src : Fmt := if f.sub = 1 then .fp32 else .bf16
      let val (t : Nat) : FVal := src.decode (x.g.srcA f 2 1 t % 2 ^ src.width)
      let scale (k : Nat) : Nat := mxScale (mxEmax f.type) ((bitList 64 (x.act / 2 ^ (32 * k) % 2 ^ 32)).map (fun t => val (32 * k + t)))
      let s0 := scale 0
      let s1 := scale 1
      x.result s false f.dst 1 (fun t =>
        let sc := if t < 32 then s0 else s1
        mxElem (fmtOf f.type) (cvtRnd f.rnd (x.g.srcA f 1 1 t)) sc (val t) % 256 + 256 * sc))

/-- The thread that SHFL reads, or none for XOR outside the group, where the spec states no result. -/
def shflThread (mode w t b : Nat) : Option Nat :=
  match mode with
  | 0 => some (b % w)
  | 1 => some (if b ≤ t then t - b else t)
  | 2 => some (if t + b < w then t + b else t)
  | _ => if natXor 32 t b < w then some (natXor 32 t b) else none

/-- SHFL. -/
def shfl (is : Issue) (f : FmtA) (s : State) : State :=
  s.issueA is f 0x65
    (fun n => decide (f.type = 0 ∧ f.sub < 4 ∧ f.rnd = 0) && !f.sat && !f.S && f.srcOk n 2 1 && f.srcOk n 1 1 && f.unused 0 &&
      vregOk n 1 f.dst)
    [(2, 1), (1, 1)] [f.dst]
    (fun x s => x.result s false f.dst 1 (fun t =>
      match shflThread f.sub x.g.width t (x.g.srcA f 1 1 t) with
      | some j => x.g.srcA f 2 1 j
      | none => Config.unstated 1 (x.g.srcA f 2 1 t) (x.g.srcA f 1 1 t) % 2 ^ 32))

/-- VOTE: ANY and ALL to a predicate, BALLOT to a scalar register; with the guard that selects no thread it only advances (R133). -/
def vote (is : Issue) (f : FmtA) (s : State) : State :=
  s.issueA is f 0x66
    (fun _ => decide (f.type = 0 ∧ f.sub < 3 ∧ f.rnd = 0) && !f.sat && !f.S && f.predSrc 2 && f.unused 1 && f.unused 0 &&
      (if f.sub = 2 then sregOk f.dst else predOk f.dst))
    [] (if f.sub = 2 then [256 + f.dst] else [])
    (fun x s =>
      if f.guard = 7 ∧ f.guardNeg then x.done s x.g
      else if f.sub = 2 then x.done s (x.g.setS f.dst (ballot x.g f.a x.act))
      else x.predicate s false f.dst (fun _ => voteBit f.sub x.g f.a x.act))

/-! The meanings. -/

/-- FADD (R140). -/
def execFadd (is : Issue) (f : FmtA) (s : State) : Host.Outcome State Fault Refusal :=
  .next (fadd is f s)
/-- FMUL (R140). -/
def execFmul (is : Issue) (f : FmtA) (s : State) : Host.Outcome State Fault Refusal :=
  .next (fmul is f s)
/-- FFMA (R140). -/
def execFfma (is : Issue) (f : FmtA) (s : State) : Host.Outcome State Fault Refusal :=
  .next (ffma is f s)
/-- FMIN (R199). -/
def execFmin (is : Issue) (f : FmtA) (s : State) : Host.Outcome State Fault Refusal :=
  .next (fmin is f s)
/-- FMAX (R199). -/
def execFmax (is : Issue) (f : FmtA) (s : State) : Host.Outcome State Fault Refusal :=
  .next (fmax is f s)
/-- FSETP (R140). -/
def execFsetp (is : Issue) (f : FmtA) (s : State) : Host.Outcome State Fault Refusal :=
  .next (fsetp is f s)
/-- RCP (R200). -/
def execRcp (is : Issue) (f : FmtA) (s : State) : Host.Outcome State Fault Refusal :=
  .next (rcp is f s)
/-- RSQ (R200). -/
def execRsq (is : Issue) (f : FmtA) (s : State) : Host.Outcome State Fault Refusal :=
  .next (rsq is f s)
/-- SQRT (R200). -/
def execSqrt (is : Issue) (f : FmtA) (s : State) : Host.Outcome State Fault Refusal :=
  .next (sqrt is f s)
/-- EXP2 (R200). -/
def execExp2 (is : Issue) (f : FmtA) (s : State) : Host.Outcome State Fault Refusal :=
  .next (exp2 is f s)
/-- LOG2 (R200). -/
def execLog2 (is : Issue) (f : FmtA) (s : State) : Host.Outcome State Fault Refusal :=
  .next (log2 is f s)
/-- SIN (R200). -/
def execSin (is : Issue) (f : FmtA) (s : State) : Host.Outcome State Fault Refusal :=
  .next (sin is f s)
/-- COS (R200). -/
def execCos (is : Issue) (f : FmtA) (s : State) : Host.Outcome State Fault Refusal :=
  .next (cos is f s)
/-- IADD (R141). -/
def execIadd (is : Issue) (f : FmtA) (s : State) : Host.Outcome State Fault Refusal :=
  .next (iadd is f s)
/-- ISUB (R141). -/
def execIsub (is : Issue) (f : FmtA) (s : State) : Host.Outcome State Fault Refusal :=
  .next (isub is f s)
/-- IMUL (R141). -/
def execImul (is : Issue) (f : FmtA) (s : State) : Host.Outcome State Fault Refusal :=
  .next (imul is f s)
/-- IMAD (R141). -/
def execImad (is : Issue) (f : FmtA) (s : State) : Host.Outcome State Fault Refusal :=
  .next (imad is f s)
/-- IMULHI (R141). -/
def execImulhi (is : Issue) (f : FmtA) (s : State) : Host.Outcome State Fault Refusal :=
  .next (imulhi is f s)
/-- IMIN (R141). -/
def execImin (is : Issue) (f : FmtA) (s : State) : Host.Outcome State Fault Refusal :=
  .next (imin is f s)
/-- IMAX (R141). -/
def execImax (is : Issue) (f : FmtA) (s : State) : Host.Outcome State Fault Refusal :=
  .next (imax is f s)
/-- ISETP (R139). -/
def execIsetp (is : Issue) (f : FmtA) (s : State) : Host.Outcome State Fault Refusal :=
  .next (isetp is f s)
/-- AND (R141). -/
def execAnd (is : Issue) (f : FmtA) (s : State) : Host.Outcome State Fault Refusal :=
  .next (and is f s)
/-- OR (R141). -/
def execOr (is : Issue) (f : FmtA) (s : State) : Host.Outcome State Fault Refusal :=
  .next (or is f s)
/-- XOR (R141). -/
def execXor (is : Issue) (f : FmtA) (s : State) : Host.Outcome State Fault Refusal :=
  .next (xor is f s)
/-- SHL (R141). -/
def execShl (is : Issue) (f : FmtA) (s : State) : Host.Outcome State Fault Refusal :=
  .next (shl is f s)
/-- SHR (R139). -/
def execShr (is : Issue) (f : FmtA) (s : State) : Host.Outcome State Fault Refusal :=
  .next (shr is f s)
/-- BFE (R139). -/
def execBfe (is : Issue) (f : FmtA) (s : State) : Host.Outcome State Fault Refusal :=
  .next (bfe is f s)
/-- BFI (R139). -/
def execBfi (is : Issue) (f : FmtA) (s : State) : Host.Outcome State Fault Refusal :=
  .next (bfi is f s)
/-- POPC (R138). -/
def execPopc (is : Issue) (f : FmtA) (s : State) : Host.Outcome State Fault Refusal :=
  .next (popc is f s)
/-- CLZ (R138). -/
def execClz (is : Issue) (f : FmtA) (s : State) : Host.Outcome State Fault Refusal :=
  .next (clz is f s)
/-- BREV (R138). -/
def execBrev (is : Issue) (f : FmtA) (s : State) : Host.Outcome State Fault Refusal :=
  .next (brev is f s)
/-- IDP4 (R141). -/
def execIdp4 (is : Issue) (f : FmtA) (s : State) : Host.Outcome State Fault Refusal :=
  .next (idp4 is f s)
/-- SEL (R139). -/
def execSel (is : Issue) (f : FmtA) (s : State) : Host.Outcome State Fault Refusal :=
  .next (sel is f s)
/-- PLOP (R139). -/
def execPlop (is : Issue) (f : FmtA) (s : State) : Host.Outcome State Fault Refusal :=
  .next (plop is f s)
/-- MOVI (R138). -/
def execMovi (is : Issue) (f : FmtI) (s : State) : Host.Outcome State Fault Refusal :=
  .next (movi is f s)
/-- IADD_I (R138). -/
def execIaddI (is : Issue) (f : FmtI) (s : State) : Host.Outcome State Fault Refusal :=
  .next (iaddI is f s)
/-- AND_I (R138). -/
def execAndI (is : Issue) (f : FmtI) (s : State) : Host.Outcome State Fault Refusal :=
  .next (andI is f s)
/-- OR_I (R138). -/
def execOrI (is : Issue) (f : FmtI) (s : State) : Host.Outcome State Fault Refusal :=
  .next (orI is f s)
/-- XOR_I (R138). -/
def execXorI (is : Issue) (f : FmtI) (s : State) : Host.Outcome State Fault Refusal :=
  .next (xorI is f s)
/-- SHL_I (R138). -/
def execShlI (is : Issue) (f : FmtI) (s : State) : Host.Outcome State Fault Refusal :=
  .next (shlI is f s)
/-- SHR_I (R138). -/
def execShrI (is : Issue) (f : FmtI) (s : State) : Host.Outcome State Fault Refusal :=
  .next (shrI is f s)
/-- FADD_I (R138). -/
def execFaddI (is : Issue) (f : FmtI) (s : State) : Host.Outcome State Fault Refusal :=
  .next (faddI is f s)
/-- FMUL_I (R138). -/
def execFmulI (is : Issue) (f : FmtI) (s : State) : Host.Outcome State Fault Refusal :=
  .next (fmulI is f s)
/-- ISETP_I (R137). -/
def execIsetpI (is : Issue) (f : FmtI) (s : State) : Host.Outcome State Fault Refusal :=
  .next (isetpI is f s)
/-- MOV (R138). -/
def execMov (is : Issue) (f : FmtA) (s : State) : Host.Outcome State Fault Refusal :=
  .next (mov is f s)
/-- SRD (R132). -/
def execSrd (is : Issue) (f : FmtI) (s : State) : Host.Outcome State Fault Refusal :=
  .next (srd is f s)
/-- V2S (R144). -/
def execV2s (is : Issue) (f : FmtA) (s : State) : Host.Outcome State Fault Refusal :=
  .next (v2s is f s)
/-- CVT (R142). -/
def execCvt (is : Issue) (f : FmtA) (s : State) : Host.Outcome State Fault Refusal :=
  .next (cvt is f s)
/-- CVT_MX (R143). -/
def execCvtMx (is : Issue) (f : FmtA) (s : State) : Host.Outcome State Fault Refusal :=
  .next (cvtMx is f s)
/-- SHFL (R144). -/
def execShfl (is : Issue) (f : FmtA) (s : State) : Host.Outcome State Fault Refusal :=
  .next (shfl is f s)
/-- VOTE (R144). -/
def execVote (is : Issue) (f : FmtA) (s : State) : Host.Outcome State Fault Refusal :=
  .next (vote is f s)

end Sys2Proof.Machine
end

