-- ==== Sys2Proof/Machine/CoreCtl.lean ====
section
/-! DEFINITION. Machine/CoreCtl.lean: the control instructions of a core (R109, R116, R159), its group barrier watchdog (R117) and the change of a
core's width (R105, R125). -/

namespace Sys2Proof.Machine

/-- Issue an instruction of format B; unused fields are zero (R134). -/
def State.issueB (s : State) (is : Issue) (f : FmtB) (op : Nat) (useLink useTarget useOffset : Bool) (go : Iss → State → State) : State :=
  s.issue is
    { word := f.word op, guard := f.guard, neg := f.guardNeg, vec := false
      legal := fun n => decide (f.zero = 0) && (if useLink then vregOk n 2 f.link else decide (f.link = 0)) &&
        (if useTarget then vregOk n 2 f.target else decide (f.target = 0)) && (useOffset || decide (f.offset = 0))
      srcs := if useTarget then vlist f.target 2 else [], hints := []
      dsts := if useLink then vlist f.link 2 else [] } go

/-- NOP. -/
def nop (is : Issue) (f : FmtB) (s : State) : State := s.issueB is f 0x00 false false false (fun x s => x.done s x.g)

/-- Send threads to an address. -/
def Group.jump (g : Group) (mask addr : Nat) : Group :=
  { g with pcs := (bitList 64 mask).foldl (fun p t => p.put t addr) g.pcs }

/-- The target of BRA and CALL: the branch's own address + 8 * offset, as 64 bits. -/
def relTarget (pc offset : Nat) : Nat := wrapInt 64 ((pc : Int) + 8 * signExt 32 offset)

/-- The threads of the issue whose guard holds jump to one address, the others continue; a target above 57 bits has no translation (R159). -/
def Iss.branch (x : Iss) (s : State) (g : Group) (addr : Nat) : State :=
  if x.act = 0 then x.done s x.g
  else if 2 ^ 57 ≤ addr then x.fault s (lowest x.act) 0x01 addr
  else x.put s ((g.advance (natAndNot 64 x.mask x.act)).jump x.act addr)

/-- BRA. -/
def bra (is : Issue) (f : FmtB) (s : State) : State :=
  s.issueB is f 0x01 false false true (fun x s => x.branch s x.g (relTarget x.pc f.offset))

/-- Code of an indirect target: 0x01 above 57 bits, 0x04 not a multiple of 8 (R127, R159, in the order of Table 5.5). -/
def targetCode (addr : Nat) : Nat := if 2 ^ 57 ≤ addr then 0x01 else if addr % 8 ≠ 0 then 0x04 else 0

/-- BRX. -/
def brx (is : Issue) (f : FmtB) (s : State) : State :=
  s.issueB is f 0x02 false true false (fun x s =>
    let at0 (t : Nat) : Nat := x.g.vregs_ f.target t 2
    match (bitList 64 x.act).find? (fun t => !decide (targetCode (at0 t) = 0)) with
    | some t => x.fault s t (targetCode (at0 t)) (at0 t)
    | none => x.put s ((x.g.advance (natAndNot 64 x.mask x.act)).eachThread x.act (fun g t => g.jump (2 ^ t) (at0 t))))

/-- CALL: the address of the next instruction goes to the link pair first. -/
def call (is : Issue) (f : FmtB) (s : State) : State :=
  s.issueB is f 0x03 true false true (fun x s =>
    x.branch s (x.g.eachThread x.act (fun g t => g.setV f.link t (x.pc + 8) 2)) (relTarget x.pc f.offset))

/-- EXIT: the threads end; a group barrier may complete, and a group without live threads ends (R115, R116). -/
def exit (is : Issue) (f : FmtB) (s : State) : State :=
  s.issueB is f 0x04 false false false (fun x s =>
    let g := { (x.g.advance (natAndNot 64 x.mask x.act)) with
      live := natAndNot 64 x.g.live x.act, yielded := natAndNot 64 x.g.yielded x.act }
    (x.put s g.gbarCheck).reapGroup x.core x.slot)

/-- YIELD: the threads are marked; when every live thread issued, the run of consecutive steps ends (R109). -/
def yield (is : Issue) (f : FmtB) (s : State) : State :=
  s.issueB is f 0x05 false false false (fun x s =>
    let s1 := x.done s { x.g with yielded := natOr 64 x.g.yielded x.act }
    if x.act ≠ 0 ∧ x.mask = x.g.live then s1.modCore x.core (fun k => { k with run := 16 }) else s1)

/-- GBAR: the threads wait at their instruction; the watchdog starts with the first; the barrier completes when all live threads wait (R116, R117). -/
def gbar (is : Issue) (f : FmtB) (s : State) : State :=
  s.issueB is f 0x06 false false false (fun x s =>
    if x.act = 0 then x.done s x.g
    else
      let g1 := x.g.advance (natAndNot 64 x.mask x.act)
      let g2 := { g1 with
        gbar := natOr 64 x.g.gbar x.act
        gbarSince := if x.g.gbar = 0 then some s.time.mono else x.g.gbarSince
        gbarUsed := if x.g.gbar = 0 then 0 else x.g.gbarUsed }
      x.put s g2.gbarCheck)

/-- GBAR_WATCHDOG_EXPIRE (R117): once the barrier has waited gbar_watchdog of the function's partition, resident time only. -/
def gbarWatchdogExpire (core slot : Nat) (s : State) : State :=
  match (s.core core).groups.get? slot with
  | none => s
  | some g =>
    match g.gbarSince with
    | none => s
    | some t =>
      if g.gbar = 0 ∨ g.faulted ∨
          g.gbarUsed + (s.time.mono - t) < s.num E.gbarWatchdog (s.fnPart (fnOfQueue g.queue)) * 1000 then s
      else s.coreFault core slot (lowest g.gbar) 0x07 (g.pcs.getD (lowest g.gbar) 0) 0

/-! The lane halves (R105, R125). -/

/-- A core returns: no scalar cache until it is invalidated and enabled, its epoch one higher, and L2C_STATUS.scl_returned set (R125, R214, R215). The arrays
of the scalar cache may hold what they held, or nothing. -/
def State.coreReturns (s : State) (c : Nat) : State :=
  let s1 := s.modCore c (fun k => { k with
    state := 0, epoch := (k.epoch + 1) % 2 ^ 32, sclEnable := false, sclInvalidated := false, retry := none, rcache := [], recent := []
    run := 0, order := [] })
  State.raiseL2 { s1 with l2.sclDisabled := setBit s1.l2.sclDisabled c } 7

/-- The groups of a core stop at their next instruction boundary, and each of its blocks is to be saved (R121). -/
def Core.stopBlocks (k : Core) : Core :=
  { k with
    groups := k.groups.mapVals (fun _ g => { g with stopped := true })
    blocks := k.blocks.mapVals (fun _ b => if b.saving.isSome then b else { b with saving := some [] }) }

/-- CORE_LANE_NARROWING (R105): the retry of an instruction fails in the same half. With field_narrowing a full core changes width; otherwise, and when a
narrow core loses its other half, it fails once its blocks have been pre-empted. Class 17 (Table 20.5). -/
def coreLaneNarrowing (core half : Nat) (s : State) : State :=
  let k := s.core core
  if k.state ≠ 0 ∨ k.retry ≠ some half then s
  else
    let narrows := decide (s.num E.fieldNarrowing = 1) && decide (k.narrow = 0)
    let s1 := s.modCore core (fun k => { k.stopBlocks with state := 2, failing := !narrows, retry := none })
    s1.faultRecord 17 core half 0xFFFFFFFF 0 k.epoch

/-- CORE_NARROWING_COMPLETE (R105, R125): once no block is left, the core comes back in narrow mode, or is failed. -/
def coreNarrowingComplete (core : Nat) (s : State) : State :=
  let k := s.core core
  if k.state ≠ 2 ∨ !k.blocks.isEmpty then s
  else if k.failing then s.modCore core (fun k => { k with state := 3, failing := false })
  else ((s.modCore core (fun k => { k with narrow := 2 })).coreReturns core).addNum E.coresNarrowed 16

/-! The meanings. -/

/-- NOP (R159). -/
def execNop (is : Issue) (f : FmtB) (s : State) : Host.Outcome State Fault Refusal :=
  .next (nop is f s)
/-- BRA (R159). -/
def execBra (is : Issue) (f : FmtB) (s : State) : Host.Outcome State Fault Refusal :=
  .next (bra is f s)
/-- BRX (R159). -/
def execBrx (is : Issue) (f : FmtB) (s : State) : Host.Outcome State Fault Refusal :=
  .next (brx is f s)
/-- CALL (R159). -/
def execCall (is : Issue) (f : FmtB) (s : State) : Host.Outcome State Fault Refusal :=
  .next (call is f s)
/-- EXIT (R159). -/
def execExit (is : Issue) (f : FmtB) (s : State) : Host.Outcome State Fault Refusal :=
  .next (exit is f s)
/-- YIELD (R109). -/
def execYield (is : Issue) (f : FmtB) (s : State) : Host.Outcome State Fault Refusal :=
  .next (yield is f s)
/-- GBAR (R116). -/
def execGbar (is : Issue) (f : FmtB) (s : State) : Host.Outcome State Fault Refusal :=
  .next (gbar is f s)
/-- GBAR_WATCHDOG_EXPIRE (R117). -/
def execGbarWatchdogExpire (core : Nat) (slot : Nat) (s : State) : Host.Outcome State Fault Refusal :=
  .next (gbarWatchdogExpire core slot s)
/-- CORE_LANE_NARROWING (R105). -/
def execCoreLaneNarrowing (core : Nat) (half : Nat) (s : State) : Host.Outcome State Fault Refusal :=
  .next (coreLaneNarrowing core half s)
/-- CORE_NARROWING_COMPLETE (R105). -/
def execCoreNarrowingComplete (core : Nat) (s : State) : Host.Outcome State Fault Refusal :=
  .next (coreNarrowingComplete core s)

end Sys2Proof.Machine
end

