-- ==== Sys2Proof/Machine/CoreMem.lean ====
section
/-! DEFINITION. Machine/CoreMem.lean: the memory of a core: L1, the scalar cache and the victim cache, the store buffer,
and the load and store instructions of format M (R145 to R149, R207 to R213, R243 to R246). -/

namespace Sys2Proof.Machine

/-! L1 (R207 to R209). -/

/-- Ways of L1. -/
def Core.l1Ways (k : Core) : Nat := (512 - k.scratchKib) / 64

/-- Set of a line in L1: 512 sets, by the low bits of the line (DESIGN CHOICE, log entry 24). -/
def l1Set (key : Nat) : Nat := key % 512

/-- Take a line out of a list. -/
def dropLine (l : List Line) (key : Nat) : List Line := l.filter (fun x => !decide (x.line = key))

/-- Use a line: it comes to the front. -/
def useCache (l : List Line) (x : Line) : List Line := x :: dropLine l x.line

/-- The line of a set that goes first (R207, R209): a line loaded with hint 1, else the least recently used. -/
def l1Victim (l : List Line) (st : Nat) : Option Line :=
  let mine := (l.filter (fun x => decide (l1Set x.line = st))).reverse
  match mine.find? (fun x => x.evictFirst) with
  | some x => some x
  | none => mine.head?

/-- Install a line in L1. -/
def Core.l1Install (k : Core) (key : Nat) (data : List Byte) (evictFirst : Bool) : Core :=
  let l := dropLine k.l1 key
  let full := decide (k.l1Ways ≤ l.countP (fun x => decide (l1Set x.line = l1Set key)))
  let kept := if full then (match l1Victim l (l1Set key) with
    | some v => dropLine l v.line
    | none => l) else l
  { k with l1 := { line := key, data := data, evictFirst := evictFirst } :: kept }

/-! The scalar cache and the victim cache (R212). -/

/-- Install a line in the scalar cache: a replaced line moves to the victim cache, which drops its own least recently used one. -/
def Core.sclInstall (k : Core) (key : Nat) (data : List Byte) : Core :=
  let l := { line := key, data := data, evictFirst := false : Line } :: dropLine k.scl key
  { k with scl := l.take 48, victim := (l.drop 48 ++ dropLine k.victim key).take 8 }

/-- Recall a line of the victim cache: it changes places with the scalar cache's least recently used line. -/
def Core.sclRecall (k : Core) (x : Line) : Core := { k with victim := dropLine k.victim x.line }.sclInstall x.line x.data

/-- Merge stored bytes into the lines that L1, the scalar cache and the victim cache hold (R209, R210). -/
def Core.mergeStore (k : Core) (key : Nat) (data : List Byte) (mask : Nat) : Core :=
  let up (l : List Line) : List Line := l.map (fun x => if x.line = key then { x with data := mergeLine x.data data mask } else x)
  { k with l1 := up k.l1, scl := up k.scl, victim := up k.victim }

/-- Drop a line from L1, the scalar cache and the victim cache. -/
def Core.dropCached (k : Core) (key : Nat) : Core :=
  { k with l1 := dropLine k.l1 key, scl := dropLine k.scl key, victim := dropLine k.victim key }

/-! The store buffer (R210). -/

/-- Bytes of a line with buffered ones over them, each byte from the newest store. -/
def overlayFwd (key : Nat) (data : List Byte) (l : List Fwd) : List Byte :=
  let mine := l.filter (fun e => decide (e.key = key))
  (List.range 128).map (fun i =>
    match (mine.filter (fun e => bit e.mask i)).foldl (fun (o : Option Fwd) e => match o with
      | none => some e
      | some b => if b.stamps.getD i 0 < e.stamps.getD i 0 then some e else some b) none with
    | some e => e.data.getD i 0#8
    | none => data.getD i 0#8)

/-- A store-buffer entry as a load sees it. -/
def SbEntry.fwd (e : SbEntry) : Fwd := { seq := e.seq, key := lineKey e.target e.line, data := e.data, mask := e.mask, stamps := e.stamps }

/-- Contiguous runs of a byte mask: first byte and bytes. -/
def maskPieces (mask : Nat) (data : List Byte) : Nat → Nat → List (Nat × List Byte) → List (Nat × List Byte)
  | 0, _, acc => acc.reverse
  | k + 1, i, acc =>
    if bit mask i then
      (match acc with
       | (a, l) :: t => if a + l.length = i then maskPieces mask data k (i + 1) ((a, l ++ [data.getD i 0#8]) :: t)
         else maskPieces mask data k (i + 1) ((i, [data.getD i 0#8]) :: acc)
       | [] => maskPieces mask data k (i + 1) [(i, [data.getD i 0#8])])
    else maskPieces mask data k (i + 1) acc

/-- Runs of an entry's stored bytes, as addresses and bytes. -/
def SbEntry.runs (e : SbEntry) : List (Nat × List Byte) := (maskPieces e.mask e.data 128 0 []).map (fun r => (128 * e.line + r.1, r.2))

/-- Take an entry out of the buffer. -/
def State.dropEntry (s : State) (c seq : Nat) : State :=
  s.modCore c (fun k => { k with sb := k.sb.filter (fun e => !decide (e.seq = seq)) })

/-- Send the runs of an entry as WRITE requests, up to one that fails. -/
def State.sendRuns (s : State) (c : Nat) (e : SbEntry) : List (Nat × List Byte) → Nat × State
  | [] => (0, s)
  | r :: t =>
    let x := s.sendReq (fnOfQueue e.queue) e.queue 0x02 (bits r.1 59 48) 0 (r.1 % 2 ^ 48) r.2 0 (.store c e.seq)
    if x.1 = 0 then State.sendRuns x.2 c e t else x

/-- An entry leaves the buffer (R210, Table 9.6): for its home, for another chip, or for the host, where it is performed as the PCIe controller accepts it (Table 10.2). -/
def State.entryLeaves (s : State) (c : Nat) (e : SbEntry) : State :=
  let gone := s.modCore c (fun k => { k with sb := k.sb.map (fun o => if o.seq = e.seq then { o with left := true } else o) })
  if e.target = 0 then gone
  else if e.target = 2 then
    (if s.hostOpen (fnOfQueue e.queue) (128 * e.line) true then e.runs.foldl (fun s r => s.hostWrite r.1 r.2) (s.dropEntry c e.seq) else gone)
  else
    let r := gone.sendRuns c e e.runs
    if r.1 = 0 then r.2 else gone.kill e.queue r.1 (s.siteOf e.queue e.node)

/-- A full buffer: its oldest entry that may leave does (R210). -/
def State.makeRoom (s : State) (c : Nat) : State :=
  if (s.core c).sb.countP (fun e => !e.left) < 32 then s
  else match (s.core c).sb.find? (s.canGo c) with
    | none => s
    | some e => s.entryLeaves c e

/-- Who stores: queue, node, group slot, and what the store waits for. -/
structure Storer where
  queue : Nat
  node : Nat
  slot : Nat
  after : Nat
  holdLoads : List Nat
deriving DecidableEq, Repr

/-- May a store join a buffered entry: of the same context and line, not left, waiting for no less than the store, and with no newer entry of the line behind it, which the store's bytes
would otherwise overtake (R210, R243)? -/
def SbEntry.takes (e : SbEntry) (w : Storer) (target line : Nat) (sb : List SbEntry) : Bool :=
  decide (e.queue = w.queue ∧ e.target = target ∧ e.line = line) && !e.left && decide (w.after ≤ e.after) &&
    !sb.any (fun o => decide (e.seq < o.seq) && decide (o.key = e.key))

/-- Put the bytes of one line into the store buffer: into the newest entry that takes them, else into a new one (R210). The caches of the core take the bytes too. -/
def State.sbLine (s : State) (c : Nat) (w : Storer) (target line vpage : Nat) (data : List Byte) (mask : Nat) : State :=
  let n := s.l2.nextId
  let s1 := { s with l2.nextId := n + 1 }
  let stamp (m : SMap Nat) : SMap Nat := (bitList 128 mask).foldl (fun m i => m.put i n) m
  let s2 := s1.modCore c (fun k => k.mergeStore (lineKey target line) data mask)
  match (s2.core c).sb.reverse.find? (fun e => e.takes w target line (s2.core c).sb) with
  | some e =>
    s2.modCore c (fun k => { k with sb := k.sb.map (fun o => if o.seq = e.seq then
      { o with node := w.node, nodes := if o.nodes.contains w.node then o.nodes else o.nodes ++ [w.node], slots := setBit o.slots w.slot
               data := mergeLine o.data data mask, mask := natOr 128 o.mask mask, stamps := stamp o.stamps
               holdLoads := o.holdLoads ++ w.holdLoads } else o) })
  | none =>
    (s2.makeRoom c).modCore c (fun k => { k with sb := k.sb ++
      [{ seq := n, queue := w.queue, node := w.node, nodes := [w.node], slots := 2 ^ w.slot, target := target, line := line
         data := mergeLine [] data mask, mask := mask, stamps := stamp [], after := w.after, holdLoads := w.holdLoads, vpage := vpage
         left := false }] })

/-- Store the bytes of one piece, line by line. -/
def State.sbBytes (s : State) (c : Nat) (w : Storer) (target vpage : Nat) : Nat → Nat → List Byte → State
  | 0, _, _ => s
  | k + 1, pa, data =>
    match data with
    | [] => s
    | _ =>
      let n := 128 - pa % 128
      let b := lineBytes pa (data.take n)
      State.sbBytes (s.sbLine c w target (pa / 128) vpage b.1 b.2) c w target vpage k (pa + n) (data.drop n)

/-- Write bytes into the scratch of a slot's block. -/
def Core.scratchWrite (k : Core) (slot pa : Nat) (data : List Byte) : Core :=
  match k.blockOf slot with
  | none => k
  | some (key, b) => { k with blocks := k.blocks.put key { b with
      scratch := cellWrite b.scratch pa data
      scratchBad := b.scratchBad.filter (fun w => !(decide (pa ≤ 4 * w) && decide (4 * w + 4 ≤ pa + data.length))) } }

/-- Bytes of the scratch of a slot's block. -/
def Core.scratchRead (k : Core) (slot pa n : Nat) : List Byte :=
  match k.blockOf slot with
  | none => zeroBytes n
  | some (_, b) => cellBytes b.scratch pa n

/-- Does a range of the scratch of a slot's block touch a word with a double-bit error (R209)? -/
def Core.scratchBadAt (k : Core) (slot pa n : Nat) : Bool :=
  match k.blockOf slot with
  | none => false
  | some (_, b) => b.scratchBad.any (fun w => decide (pa < 4 * w + 4) && decide (4 * w < pa + n))

/-- A word of the scratch of a slot's block has a double-bit error. -/
def Core.scratchBreak (k : Core) (slot pa : Nat) : Core :=
  match k.blockOf slot with
  | none => k
  | some (key, b) => { k with blocks := k.blocks.put key { b with
      scratchBad := if b.scratchBad.contains (pa / 4) then b.scratchBad else pa / 4 :: b.scratchBad } }

/-- Store a piece. -/
def State.storePiece (s : State) (c slot : Nat) (w : Storer) (a : Acc) (data : List Byte) : State :=
  if a.target = 3 then s.modCore c (fun k => k.scratchWrite slot a.pa data)
  else s.sbBytes c w a.target (a.va / 2 ^ 16) 3 a.pa data

/-- Store pieces in order, so that the highest-numbered thread's byte stands (R146). -/
def State.storePieces (s : State) (c slot : Nat) (w : Storer) (l : List (Acc × List Byte)) : State :=
  l.foldl (fun s e => s.storePiece c slot w e.1 e.2) s

/-! Loads. -/

/-- Does an earlier load of a core lack a line, so that a later one waits behind it (R243)? -/
def State.lineQueued (s : State) (c id key : Nat) : Bool :=
  s.l2.loads.any (fun e => decide (e.1 < id) && decide (e.2.core = c) && e.2.lacks key)

/-- New data in the copies that the core's caches hold of a line (R243: no later load of the core returns older data). -/
def Core.refreshLine (k : Core) (key : Nat) (data : List Byte) : Core :=
  let up (l : List Line) : List Line := l.map (fun x => if x.line = key then { x with data := data } else x)
  { k with l1 := up k.l1, scl := up k.scl, victim := up k.victim }

/-- A line arrives for a load (R209 to R212, R243): the buffered bytes that stood at the issue and have not been performed since cover it. L1 takes it with hint 0 or 1, and the scalar cache
for a scalar access; the copies that the core holds take the new data. -/
def State.gotLine (s : State) (id key : Nat) (data : List Byte) (bad : Nat) : State :=
  match s.l2.loads.get? id with
  | none => s
  | some l =>
    let k := s.core l.core
    let live := l.fwd.filter (fun e => k.sb.any (fun o => decide (o.seq = e.seq)))
    let s1 := { s with l2.loads := s.l2.loads.put id { l with
      got := l.got.put key (overlayFwd key data live), bad := if bad = 0 then l.bad else l.bad.put key bad } }
    if l.noInstall ∨ bad ≠ 0 then s1
    else
      let now := overlayFwd key data (k.sb.map SbEntry.fwd)
      s1.modCore l.core (fun k =>
        let k1 := k.refreshLine key now
        if l.acquire = 2 then k1
        else
          let k2 := if (l.kind = 1 ∨ l.kind = 3 ∧ l.hint ≠ 2) ∧ k.sclEnable then k1.sclInstall key now else k1
          if l.hint = 2 then k2 else k2.l1Install key now (decide (l.hint = 1)))

/-- Look for a line of a load in L1: a hit is used. -/
def State.l1Look (s : State) (c key : Nat) : Option (List Byte × State) :=
  match findLine (s.core c).l1 key with
  | some x => some (x.data, s.modCore c (fun k => { k with l1 := useCache k.l1 x }))
  | none => none

/-- Look for a line of a scalar load (R212, R214): the scalar cache, the victim cache with a recall, then L1, whose line is installed. A disabled scalar cache serves
through L1. A miss of both caches counts event 0x07. -/
def State.sclLook (s : State) (c key queue : Nat) : Option (List Byte × State) × State :=
  let k := s.core c
  if !k.sclEnable then (s.l1Look c key, s)
  else match findLine k.scl key with
    | some x => (some (x.data, s.modCore c (fun k => { k with scl := useCache k.scl x })), s)
    | none =>
      match findLine k.victim key with
      | some x => (some (x.data, s.modCore c (fun k => k.sclRecall x)), s)
      | none =>
        let s1 := s.countEvent 0 c 0x07 1 queue
        match s1.l1Look c key with
        | some r => (some (r.1, r.2.modCore c (fun k => k.sclInstall key r.1)), s1)
        | none => (none, s1)

/-- Scratch line of a slot. -/
def Core.scratchLine (k : Core) (slot line : Nat) : List Byte := k.scratchRead slot (128 * line) 128

/-- The replica slice of another member's line in the plain of a core, under the list of the core's own partition (R230). -/
def State.copySlice (s : State) (c line : Nat) : Option Nat :=
  match s.partOfCore c with
  | none => none
  | some p =>
    let l := (s.slicesOf p).filter (fun x => decide (x / 4 = c / 24))
    if l.length = 0 then none else some (l.getD (bucketOf line % l.length) 0)

/-- The copy of another member's line that this chip holds in that slice (R230). -/
def State.tiedCopy (s : State) (c key : Nat) : Option LineCopy :=
  match s.copySlice c (keyLine key % 2 ^ 41) with
  | some sl => s.l2.tied.get? ((sl * 4096 + keyLine key / 2 ^ 41 % 4096) * 2 ^ 41 + keyLine key % 2 ^ 41)
  | none => none

/-- A copy is used. -/
def State.usedCopy (s : State) (d : LineCopy) : State :=
  let u := s.useLine
  { u.2 with l2.tied := u.2.l2.tied.mapVals (fun _ c => if c = d then { c with used := u.1 } else c) }

/-- Has a store of a core to a line left for another chip without an acknowledgement? A read of the line waits for it, since it might pass it on the way (R243). -/
def State.lineFlying (s : State) (c key : Nat) : Bool := (s.core c).sb.any (fun e => e.left && decide (e.key = key))

/-- The site of a group's context. -/
def State.groupSite (s : State) (c slot : Nat) : Site :=
  match (s.core c).groups.get? slot with
  | some g => { node := g.nodeIndex, depth := g.depth, ring := g.ring, operator := g.operator, layer := g.layer }
  | none => { node := 0, depth := 0, ring := 0, operator := 0, layer := 0 }

/-- Ask another chip for a line of a load. -/
def State.askLine (s : State) (f id : Nat) (l : Load) (key : Nat) : Nat × State :=
  s.sendReq f l.queue 0x01 (keyLine key / 2 ^ 41) 0 (128 * keyLine key % 2 ^ 48) [] 0 (.load id key)

/-- One line of a load at its issue: scratch at once, then the caches, unless the load reads past them or waits behind an earlier one; a line of another chip is asked for,
unless a tied copy in the plain has it. Answers the code of a failed request. -/
def State.loadLine (s : State) (f id : Nat) (l : Load) (key : Nat) : Nat × State :=
  let put (s : State) (d : List Byte) : State :=
    { s with l2.loads := s.l2.loads.modify id l (fun l => { l with got := l.got.put key d }) }
  let miss (s : State) : Nat × State :=
    if keyTarget key ≠ 1 ∨ s.lineQueued l.core id key then (0, s)
    else match s.tiedCopy l.core key with
      | some d => (0, (s.usedCopy d).gotLine id key d.data d.poison)
      | none => if s.lineFlying l.core key then (0, s) else s.askLine f id l key
  if keyTarget key = 3 then (0, put s ((s.core l.core).scratchLine l.slot (keyLine key)))
  else if l.acquire = 2 ∨ s.lineQueued l.core id key then miss s
  else if l.kind = 1 ∨ l.kind = 3 then
    match s.sclLook l.core key l.queue with
    | (some r, _) => (0, put r.2 r.1)
    | (none, t) => miss t
  else match s.l1Look l.core key with
    | some r => (0, put r.2 r.1)
    | none => miss (if l.kind = 0 then s.countEvent 0 l.core 0x06 1 l.queue else s)

/-- The lines of a load at its issue, in order, up to a request that fails: the code and the line of that request. -/
def State.loadLines (s : State) (f id : Nat) (l : Load) : List Nat → Nat × Nat × State
  | [] => (0, 0, s)
  | k :: ks =>
    let r := s.loadLine f id l k
    if r.1 = 0 then State.loadLines r.2 f id l ks else (r.1, k, r.2)

/-- A request of an issue fails for a thread: a function without a key may not access, and a chip that cannot be reached ends the context from outside the core (R118, R119, R354, R373). -/
def Iss.reqFail (x : Iss) (s : State) (thread code addr : Nat) : State :=
  if code = 0x02 then x.fault s thread code addr
  else (s.modCore x.core (fun k => { k with groups := k.groups.put x.slot { x.g with stopped := true } })).kill x.g.queue code
    { node := x.g.nodeIndex, depth := x.g.depth, ring := x.g.ring, operator := x.g.operator, layer := x.g.layer }

/-- The lowest thread that touches a line, and the address of its access. -/
def touching (l : List Acc) (key : Nat) : Nat × Nat :=
  match l.find? (fun a => a.keys.contains key) with
  | some a => (a.thread, a.va)
  | none => (0, 0)

/-- Open a load of pieces: the code and the line of a request that fails, the number of the load, and the state. -/
def Iss.openLoad (x : Iss) (s : State) (kind dst bytes : Nat) (sgn : Bool) (hint acquire : Nat) (accs : List Acc) : (Nat × Nat) × Nat × State :=
  let id := s.l2.nextId
  let keys := accKeys accs
  let fw := ((s.core x.core).sb.filter (fun e => keys.contains e.key)).map SbEntry.fwd
  let l : Load :=
    { core := x.core, slot := x.slot, queue := x.g.queue, pc := x.pc, threads := x.mask, kind := kind, dst := dst, bytes := bytes
      signed := sgn, hint := hint, acquire := acquire, accs := accs, got := [], bad := [], fwd := fw, noInstall := false }
  let s1 : State := { s with l2.nextId := id + 1, l2.loads := s.l2.loads.put id l }
  let r := s1.loadLines x.fn id l keys
  ((r.1, r.2.1), id, r.2.2)

/-- Start a load of pieces. -/
def Iss.startLoad (x : Iss) (s : State) (kind dst bytes : Nat) (sgn : Bool) (hint acquire : Nat) (accs : List Acc) : State :=
  let r := x.openLoad s kind dst bytes sgn hint acquire accs
  if r.1.1 = 0 then x.done r.2.2 x.g
  else
    let e := touching accs r.1.2
    x.reqFail s e.1 r.1.1 e.2

/-- Value of an access of a load in a thread, from its pieces. -/
def Load.value (l : Load) (t : Nat) : Nat :=
  ofLe ((l.accs.filter (fun a => decide (a.thread = t))).flatMap (fun a =>
    (rangeFrom a.pa a.n).map (fun p => (l.got.getD (lineKey a.target (p / 128)) []).getD (p % 128) 0#8)))

/-- A value as the register takes it (R146): narrower than 32 bits zero-extended, or sign-extended. -/
def Load.extend (l : Load) (v : Nat) : Nat := if l.bytes < 4 ∧ l.signed then wrapInt 32 (signExt (8 * l.bytes) v) else v

/-- Is a granule that a piece reads poisoned? -/
def Load.badAcc (l : Load) (a : Acc) : Bool :=
  (granulesOf a.pa a.n).any (fun g => bit (l.bad.getD (lineKey a.target (g / 8)) 0) (g % 8))

/-- Host lines that a load still lacks, read now if the function may reach the host (R324). -/
def State.hostLines (s : State) (id : Nat) (l : Load) (f : Nat) : State :=
  ((accKeys l.accs).filter (fun k => decide (keyTarget k = 2) && !l.got.has k)).foldl (fun s k =>
    if s.hostOpen f (128 * keyLine k) false && !s.lineQueued l.core id k then
      let r := s.hostRead (128 * keyLine k) 128
      r.2.gotLine id k r.1 0
    else s) s

/-- Lines of other chips that a load still lacks and that are not on their way, asked for now: those that waited behind an earlier load of the core or behind a store of it. -/
def State.fabLines (s : State) (id : Nat) (l : Load) (f : Nat) : State :=
  ((accKeys l.accs).filter (fun k => decide (keyTarget k = 1) && !l.got.has k)).foldl (fun s k =>
    if s.lineQueued l.core id k || s.lineFlying l.core k || s.asked (.load id k) then s
    else
      let r := s.loadLine f id l k
      if r.1 = 0 ∨ r.1 = 0x100 then r.2 else State.kill { s with l2.loads := s.l2.loads.del id } l.queue r.1 (s.groupSite l.core l.slot)) s

/-- Write a load's registers. -/
def Load.write (l : Load) (g : Group) : Group × Bool :=
  let threads := (l.accs.map (fun a => a.thread)).eraseDups
  if l.kind = 0 then (threads.foldl (fun g t => g.setV l.dst t (l.extend (l.value t)) (regsOfBytes l.bytes)) g, false)
  else if l.kind = 1 then (g.setS l.dst (l.extend (l.value (threads.headD 0))), decide (l.bytes < 8))
  else (g, false)

/-- Bytes of scratch that a piece touches hold a double-bit error. -/
def Core.accBroken (k : Core) (slot : Nat) (a : Acc) : Bool := decide (a.target = 3) && k.scratchBadAt slot a.pa a.n

/-- LOAD_RESPONSE: every line of a load has arrived, and its data enters its registers. Poison in the bytes of a thread ends the context (Table 3.3), and the load writes
nothing. `found` 1 is a parity or double-bit error of L1 or the scalar cache: the lines are dropped, to be refetched; `found` 2 is a double-bit error of the first scratch word that it
reads (R209, R212). -/
def loadResponse (load found : Nat) (s : State) : State :=
  match s.l2.loads.get? load with
  | none => s
  | some l0 =>
    let f := fnOfQueue l0.queue
    let s1 := (s.hostLines load l0 f).fabLines load l0 f
    match s1.l2.loads.get? load, (s1.core l0.core).groups.get? l0.slot with
    | some l, some g =>
      if l.kind = 4 ∨ (accKeys l.accs).any (fun k => !l.got.has k) then s1
      else
        let gone := { s1 with l2.loads := s1.l2.loads.del load }
        let dev := (accKeys l.accs).filter (fun k => !decide (keyTarget k = 3))
        let hurt := match (if found = 2 then l.accs.find? (fun a => decide (a.target = 3)) else none) with
          | some a => gone.modCore l.core (fun k => k.scratchBreak l.slot a.pa)
          | none => gone
        match (if l.kind < 2 then l.accs.find? ((hurt.core l.core).accBroken l.slot) else none) with
        | some a => hurt.coreFault l.core l.slot a.thread 0x03 l.pc a.va true (some load)
        | none =>
          if found = 1 ∧ l.acquire ≠ 2 ∧ !dev.isEmpty then
            let again : Load := { l with
              got := l.got.keep (fun k _ => decide (keyTarget k = 3)), bad := l.bad.keep (fun k _ => decide (keyTarget k = 3)) }
            State.raiseL2 { (s1.modCore l.core (fun k => dev.foldl Core.dropCached k)) with l2.loads := s1.l2.loads.put load again } 0
          else match (if l.kind < 2 then l.accs.find? l.badAcc else none) with
            | some a => gone.coreFault l.core l.slot a.thread 0x03 l.pc a.va false (some load)
            | none =>
              let w := l.write g
              let s2 := if w.2 then
                  let u := gone.freeVal 32
                  let g2 := w.1.setS l.dst (w.1.sreg l.dst % 2 ^ 32 + 2 ^ 32 * u.1)
                  u.2.modCore l.core (fun k => { k with groups := k.groups.put l.slot g2 })
                else gone.modCore l.core (fun k => { k with groups := k.groups.put l.slot w.1 })
              s2.acquire l.core l.acquire
    | _, _ => s1

/-! Format M. -/

/-- LD and LD.ACQ (R146, R153). -/
def State.loadM (s : State) (is : Issue) (f : FmtM) (op acquire : Nat) : State :=
  s.issue is
    { word := f.word op, guard := f.guard, neg := f.guardNeg, vec := false
      legal := fun n => f.ok n (decide (acquire ≠ 0)) && f.dataOk n
      srcs := f.baseRegs, hints := [], dsts := f.dataRegs
      ready := fun s x => x.loadReady s f }
    (fun x s => match x.placesM s f .read with
      | .fault t c a => x.fault s t c a
      | .ok [] => x.done s x.g
      | .ok l => x.startLoad s (if f.S then 1 else 0) f.data (sizeBytes f.size) f.signed f.hint acquire l)

/-- The acquire of a scope: 1 GRP or CORE, 2 CHIP or wider. -/
def acquireOf (scope : Nat) : Nat := if scope < 2 then 1 else 2

/-- LD. -/
def ld (is : Issue) (f : FmtM) (s : State) : State := s.loadM is f 0x70 0

/-- LD.ACQ. -/
def ldAcq (is : Issue) (f : FmtM) (s : State) : State := s.loadM is f 0x72 (acquireOf f.scope)

/-- Bytes that a thread stores. -/
def Group.storeBytes (g : Group) (f : FmtM) (t : Nat) : List Byte :=
  leBytes (sizeBytes f.size) (if f.S then g.sreg f.data else g.vregs_ f.data t (regsOfBytes (sizeBytes f.size)))

/-- Pieces with their bytes. -/
def Group.storeList (g : Group) (f : FmtM) (l : List Acc) : List (Acc × List Byte) :=
  l.map (fun a => (a, ((g.storeBytes f a.thread).drop a.off).take a.n))

/-- The first piece that cannot be sent to its chip: its thread, the code 0x02 without a fabric key or 0x0D without a route, and its address (R119, R354, R373). -/
def State.sendCode (s : State) (f : Nat) (l : List Acc) : Nat × Nat × Nat :=
  match l.find? (fun a => decide (a.target = 1) && (decide (s.num E.fnFabKey f = 0) || !s.reaches (bits a.pa 59 48))) with
  | some a => (a.thread, if s.num E.fnFabKey f = 0 then 0x02 else 0x0D, a.va)
  | none => (0, 0, 0)

/-- The legality and readiness of a store. -/
def State.storeForm (f : FmtM) (op : Nat) (rel : Bool) : Form :=
  { word := f.word op, guard := f.guard, neg := f.guardNeg, vec := false
    legal := fun n => f.ok n rel && f.dataOk n
    srcs := f.baseRegs ++ f.dataRegs, hints := [], dsts := []
    ready := fun s x => x.storeReady s f rel }

/-- Make a store of pieces, or take the fault of its places. A store issued after the point of a reset or a disable of its queue is dropped (Table 9.8). -/
def Iss.storeAt (x : Iss) (s : State) (p : Places) (go : List Acc → State → State) : State :=
  match p with
  | .fault t c a => x.fault s t c a
  | .ok l =>
    let r := s.sendCode x.fn l
    if r.2.1 ≠ 0 then x.reqFail s r.1 r.2.1 r.2.2
    else if (s.q x.g.queue).state = .resetting then x.done s x.g
    else go l s

/-- Make a store of format M. -/
def Iss.storeM (x : Iss) (s : State) (f : FmtM) (go : List Acc → State → State) : State := x.storeAt s (x.placesM s f .write) go

/-- A group's stores without a release, to some lines: performed after the threads' earlier loads of those lines (R146). -/
def Iss.storer (x : Iss) (s : State) (keys : List Nat) : Storer :=
  { queue := x.g.queue, node := x.g.node, slot := x.slot, after := 0, holdLoads := s.lineLoads x.core x.slot x.mask keys }

/-- ST. -/
def st (is : Issue) (f : FmtM) (s : State) : State :=
  s.issue is (State.storeForm f 0x71 false) (fun x s =>
    x.storeM s f (fun l s => (x.done s x.g).storePieces x.core x.slot (x.storer s (accKeys l)) (x.g.storeList f l)))

/-- ST.REL (R153, R245). At CHIP or wider its entries leave the buffer after those that stand now and after the threads' earlier loads; at GRP or CORE the store is made when the
threads' earlier loads have returned. Behind a released store of the threads that has not been made it waits for that one. Scratch is inside one core: the scope acts as CORE. -/
def stRel (is : Issue) (f : FmtM) (s : State) : State :=
  s.issue is (State.storeForm f 0x73 true) (fun x s =>
    x.storeM s f (fun l s =>
      let loads := s.openLoads x.core x.slot x.mask
      let s1 := x.done s x.g
      let id := s.l2.nextId
      let near := decide (f.scope < 2) || f.space
      if s.relOpen x.core x.slot x.mask || (near && !loads.isEmpty) then { s1 with
          l2.nextId := id + 1
          l2.bars := s1.l2.bars.put id
            { core := x.core, slot := x.slot, queue := x.g.queue, node := x.g.node, threads := x.mask, kind := 3, scope := if f.space then 1 else f.scope
              store := some (x.g.storeList f l), sync := none } }
      else s1.storePieces x.core x.slot
        { queue := x.g.queue, node := x.g.node, slot := x.slot, after := if near then 0 else id, holdLoads := if near then [] else loads }
        (x.g.storeList f l)))

/-- PREF (R148): brings the lines of its addresses toward the core, and never faults: an address that does not translate and one in scratch do nothing, and so does a line of a chip that the
function cannot reach. -/
def pref (is : Issue) (f : FmtM) (s : State) : State :=
  s.issue is
    { word := f.word 0x74, guard := f.guard, neg := f.guardNeg, vec := false
      legal := fun n => f.ok n false && decide (f.data = 0)
      srcs := f.baseRegs, hints := [], dsts := []
      ready := fun s x => x.prefReady s f }
    (fun x s =>
      let places := (x.prefPlaces s f).filter (fun a => decide ((s.sendCode x.fn [a]).2.1 = 0))
      if places.isEmpty then x.done s x.g
      else x.startLoad s (if f.S then 3 else 2) 0 1 false f.hint 0 places)

/-- SCL.ZERO (R149, R213): a line of zeros in the scalar cache and a full-line store of zeros. Its S, size, signed and hint fields have no effect that the spec
gives; without a scalar base, or with space 1, the word is taken as illegal (DEDUCED, log entry 96). -/
def sclZero (is : Issue) (f : FmtM) (s : State) : State :=
  s.issue is
    { word := f.word 0x75, guard := f.guard, neg := f.guardNeg, vec := false
      legal := fun n => f.ok n false && f.baseS && decide (f.data = 0) && !f.space
      srcs := [256 + f.base], hints := [], dsts := []
      ready := fun s x => x.placesReady s (x.zeroPlaces s f) false }
    (fun x s => x.storeAt s (x.zeroPlaces s f) (fun l s =>
      let s1 := (x.done s x.g).storePieces x.core x.slot (x.storer s (accKeys l)) (l.map (fun a => (a, zeroBytes a.n)))
      s1.modCore x.core (fun k => if k.sclEnable then (accKeys l).foldl (fun k key => k.sclInstall key (zeroBytes 128)) k else k)))

/-- Empty the scalar cache and the victim cache of a core (R214). -/
def State.sclInvalidate (s : State) (c : Nat) : State :=
  s.modCore c (fun k => { k with scl := [], victim := [], sclInvalidated := true })

/-- SCL.INV (R149, R214). -/
def sclInv (is : Issue) (f : FmtM) (s : State) : State :=
  s.issue is
    { word := f.word 0x76, guard := f.guard, neg := f.guardNeg, vec := false
      legal := fun _ => decide (f.data = 0 ∧ f.base = 0 ∧ f.scope = 0 ∧ f.size ≤ 4 ∧ f.hint ≠ 3) && !(f.S && (f.space || decide (f.size = 4)))
      srcs := [], hints := [], dsts := [] }
    (fun x s => if x.once then (x.done s x.g).sclInvalidate x.core else x.done s x.g)

/-! The entries that leave. -/

/-- STORE_BUFFER_DRAIN (R210): an entry leaves the buffer. A released entry waits for those before it, a store for its thread's earlier loads of the line (R146), and a line's entries leave in
order. When it leaves by its age is left to the command (log entry 25). -/
def storeBufferDrain (core seq : Nat) (s : State) : State :=
  match (s.core core).sb.find? (fun e => decide (e.seq = seq)) with
  | none => s
  | some e =>
    if e.left ∧ e.target ≠ 2 ∨ !s.mayLeave core e ∨ s.lineOlder core e then s
    else if e.target = 1 ∧ 16384 < s.fab.reqs.length + e.runs.length then s
    else s.entryLeaves core e

/-- All the bytes of an entry have been acknowledged at another chip. -/
def State.storeAcked (s : State) (c seq : Nat) : State :=
  if s.fab.reqs.vals.any (fun r => decide (r.issuer = .store c seq)) then s else s.dropEntry c seq

/-! Barriers (R154, R246). -/

/-- Legality of format O. -/
def State.barO (s : State) (is : Issue) (f : FmtO) (kind : Nat) : State :=
  s.issue is
    { word := f.word kind, guard := f.guard, neg := f.guardNeg, vec := false
      legal := fun _ => decide (f.zero = 0 ∧ f.scope ≤ 4), srcs := [], hints := [], dsts := [] }
    (fun x s =>
      if x.act = 0 then x.done s x.g
      else
        let s1 := x.done s { x.g with waiting := natOr 64 x.g.waiting x.mask }
        { s1 with
          l2.nextId := s1.l2.nextId + 1
          l2.bars := s1.l2.bars.put s1.l2.nextId
            { core := x.core, slot := x.slot, queue := x.g.queue, node := x.g.node, threads := x.mask, kind := kind, scope := f.scope
              store := none, sync := none } })

/-- BAR.LD. -/
def barLd (is : Issue) (f : FmtO) (s : State) : State := s.barO is f 0
/-- BAR.ST. -/
def barSt (is : Issue) (f : FmtO) (s : State) : State := s.barO is f 1
/-- BAR.FULL. -/
def barFull (is : Issue) (f : FmtO) (s : State) : State := s.barO is f 2

/-- Have the earlier loads, atomics and released stores of a barrier's threads been performed? -/
def State.barLoads (s : State) (id : Nat) (b : Bar) : Bool :=
  !(s.openLoads b.core b.slot b.threads).any (fun l => decide (l < id)) &&
  !s.l2.atoms.any (fun a => decide (a.1 < id) && decide (a.2.core = b.core ∧ a.2.slot = b.slot) && touches b.threads a.2.accs)

/-- Have the stores that a release of a scope waits for been performed (R245)? -/
def State.barStores (s : State) (id : Nat) (b : Bar) : Bool :=
  !s.l2.bars.any (fun o => decide (o.1 < id) && decide (o.2.core = b.core ∧ o.2.slot = b.slot) && o.2.store.isSome &&
    !decide (natAnd 64 o.2.threads b.threads = 0)) &&
  (decide (b.scope < 2) || !(s.core b.core).sb.any (fun e => decide (e.seq < id)))

/-- Has a barrier what it waits for (R154, R245)? BAR.LD: its threads' earlier loads. BAR.ST: their stores, and at GRP or CORE their loads too, as every release of that scope. A
deferred ST.REL: the loads, the released stores before it, and room in the store buffer. BAR.FULL and a SYNC release: loads and stores. -/
def State.barMet (s : State) (id : Nat) (b : Bar) : Bool :=
  (decide (b.kind = 1 ∧ 2 ≤ b.scope) || s.barLoads id b) &&
    (match b.kind with
     | 0 => true
     | 3 => s.barStores id { b with scope := 0 } && (match b.store with
       | some l => s.sbRoom b.core ((accKeys (l.map Prod.fst)).filter (fun k => !decide (keyTarget k = 3))) [] (if b.scope < 2 then 0 else 1)
       | none => true)
     | _ => s.barStores id b)

/-- The operation of a SYNC release goes to its object (R156, R308). -/
def State.sendRelease (s : State) (b : Bar) (m : SynMsg) (h : Nat) : State :=
  match handleChip h s.fab.chipId with
  | none => { s with syn.inbound := s.syn.inbound ++ [m] }
  | some chip =>
    let r := s.sendSync (fnOfQueue m.queue) m.queue chip m.obj m.op m.value m.scope m.who false
    if r.1 = 0 then r.2 else s.kill m.queue r.1 (s.siteOf m.queue b.node)

/-- How the store of a deferred ST.REL is made: at CHIP or wider after every entry that stands in the buffer (R245). -/
def Bar.storer (b : Bar) (n : Nat) : Storer :=
  { queue := b.queue, node := b.node, slot := b.slot, after := if b.scope < 2 then 0 else n, holdLoads := [] }

/-- BARRIER_COMPLETE: a barrier ends (R154, R246), a deferred ST.REL makes its store (R153), or the operation of a SYNC release goes to its object (R156). -/
def barrierComplete (bar : Nat) (s : State) : State :=
  match s.l2.bars.get? bar with
  | none => s
  | some b =>
    if !s.barMet bar b then s
    else
      let s1 := { s with l2.bars := s.l2.bars.del bar }
      match b.store, b.sync with
      | some l, _ =>
        (s1.storePieces b.core b.slot (b.storer s.l2.nextId) l).reapGroup b.core b.slot
      | none, some (m, h) =>
        (if 16384 ≤ s.fab.reqs.length ∧ (handleChip h s.fab.chipId).isSome then s else s1.sendRelease b m h)
      | none, none =>
        let s2 := s1.modCore b.core (fun k => { k with groups := k.groups.mapVals (fun i g =>
          if i = b.slot then { g with waiting := natAndNot 64 g.waiting b.threads } else g) })
        (if b.kind = 1 then s2 else s2.acquire b.core b.scope)

/-! The meanings. -/

/-- LD (R146). -/
def execLd (is : Issue) (f : FmtM) (s : State) : Host.Outcome State Fault Refusal :=
  .next (ld is f s)
/-- ST (R146). -/
def execSt (is : Issue) (f : FmtM) (s : State) : Host.Outcome State Fault Refusal :=
  .next (st is f s)
/-- LD_ACQ (R153). -/
def execLdAcq (is : Issue) (f : FmtM) (s : State) : Host.Outcome State Fault Refusal :=
  .next (ldAcq is f s)
/-- ST_REL (R153). -/
def execStRel (is : Issue) (f : FmtM) (s : State) : Host.Outcome State Fault Refusal :=
  .next (stRel is f s)
/-- PREF (R148). -/
def execPref (is : Issue) (f : FmtM) (s : State) : Host.Outcome State Fault Refusal :=
  .next (pref is f s)
/-- SCL_ZERO (R149). -/
def execSclZero (is : Issue) (f : FmtM) (s : State) : Host.Outcome State Fault Refusal :=
  .next (sclZero is f s)
/-- SCL_INV (R149). -/
def execSclInv (is : Issue) (f : FmtM) (s : State) : Host.Outcome State Fault Refusal :=
  .next (sclInv is f s)
/-- BAR_LD (R154). -/
def execBarLd (is : Issue) (f : FmtO) (s : State) : Host.Outcome State Fault Refusal :=
  .next (barLd is f s)
/-- BAR_ST (R154). -/
def execBarSt (is : Issue) (f : FmtO) (s : State) : Host.Outcome State Fault Refusal :=
  .next (barSt is f s)
/-- BAR_FULL (R154). -/
def execBarFull (is : Issue) (f : FmtO) (s : State) : Host.Outcome State Fault Refusal :=
  .next (barFull is f s)
/-- BARRIER_COMPLETE (R246). -/
def execBarrierComplete (bar : Nat) (s : State) : Host.Outcome State Fault Refusal :=
  .next (barrierComplete bar s)
/-- LOAD_RESPONSE (R243). -/
def execLoadResponse (load : Nat) (found : Nat) (s : State) : Host.Outcome State Fault Refusal :=
  .next (loadResponse load found s)
/-- STORE_BUFFER_DRAIN (R210). -/
def execStoreBufferDrain (core : Nat) (seq : Nat) (s : State) : Host.Outcome State Fault Refusal :=
  .next (storeBufferDrain core seq s)

end Sys2Proof.Machine
end

