-- ==== Sys2Proof/Machine/CoreSync.lean ====
section
/-! DEFINITION. Machine/CoreSync.lean: the atomic instructions of format X with their execution at the home and at the newt (R151, R152, R226, R90), and the
synchronisation instructions of format Y (R156 to R158). -/

namespace Sys2Proof.Machine

/-! Atomics. -/

/-- Atomics on scratch, in thread order, when they issue. -/
def Iss.scratchAtoms (x : Iss) (f : FmtX) (op : Nat) (k : Core) : List Acc → Core × SMap Nat
  | [] => (k, [])
  | a :: t =>
    let old := ofLe (k.scratchRead x.slot a.pa f.bytes)
    let v := atomResult op f.bytes old (x.g.vregs_ f.operand a.thread f.regs) (x.g.vregs_ f.compare a.thread f.regs)
    let r := Iss.scratchAtoms x f op (k.scratchWrite x.slot a.pa (leBytes f.bytes v)) t
    (r.1, r.2.put a.thread old)

/-- An atomic instruction: it issues once the threads' loads have returned no other acquire of theirs is under way and no released store of theirs is open (R152, R245). On scratch it executes at once; elsewhere it
goes to its targets. -/
def State.atomX (s : State) (is : Issue) (f : FmtX) (op : Nat) : State :=
  s.issue is
    { word := f.word op, guard := f.guard, neg := f.guardNeg, vec := false, legal := f.ok op
      srcs := (if f.baseS then [256 + f.base] else vlist f.base 2) ++ vlist f.operand f.regs ++ (if op = 12 then vlist f.compare f.regs else [])
      hints := [], dsts := if f.discard then [] else vlist f.dst f.regs
      ready := fun s x => x.atomReady s f op }
    (fun x s => match x.placesX s f op (bitList 64 x.act) with
      | .fault t c a => x.fault s t c a
      | .ok [] => x.done s x.g
      | .ok l =>
        let c := s.sendCode x.fn l
        if c.2.1 ≠ 0 then x.reqFail s c.1 c.2.1 c.2.2
        else if f.space then
          match l.find? (fun a => (s.core x.core).scratchBadAt x.slot a.pa a.n) with
          | some a => s.coreFault x.core x.slot a.thread 0x03 x.pc a.va true
          | none =>
          let r := x.scratchAtoms f op (s.core x.core) l
          let g := if f.discard then x.g else x.g.eachThread x.act (fun g t => g.setV f.dst t (r.2.getD t 0) f.regs)
          x.done (s.modCore x.core (fun _ => r.1)) g
        else
          let s1 := x.done s x.g
          { s1 with
            l2.nextId := s1.l2.nextId + 1
            l2.atoms := s1.l2.atoms.put s1.l2.nextId
              { core := x.core, slot := x.slot, queue := x.g.queue, node := x.g.node, pc := x.pc, dst := f.dst, discard := f.discard
                op := op, bytes := f.bytes, far := f.far, scope := f.scope, accs := l
                operands := (bitList 64 x.act).map (fun t =>
                  (t, (x.g.vregs_ f.operand t f.regs, if op = 12 then x.g.vregs_ f.compare t f.regs else 0)))
                olds := [], sent := 0 } })

/-- ATOM.ADD. -/
def atomAdd (is : Issue) (f : FmtX) (s : State) : State := s.atomX is f 0
/-- ATOM.FADD. -/
def atomFadd (is : Issue) (f : FmtX) (s : State) : State := s.atomX is f 1
/-- ATOM.MIN. -/
def atomMin (is : Issue) (f : FmtX) (s : State) : State := s.atomX is f 2
/-- ATOM.MAX. -/
def atomMax (is : Issue) (f : FmtX) (s : State) : State := s.atomX is f 3
/-- ATOM.UMIN. -/
def atomUmin (is : Issue) (f : FmtX) (s : State) : State := s.atomX is f 4
/-- ATOM.UMAX. -/
def atomUmax (is : Issue) (f : FmtX) (s : State) : State := s.atomX is f 5
/-- ATOM.FMIN. -/
def atomFmin (is : Issue) (f : FmtX) (s : State) : State := s.atomX is f 6
/-- ATOM.FMAX. -/
def atomFmax (is : Issue) (f : FmtX) (s : State) : State := s.atomX is f 7
/-- ATOM.AND. -/
def atomAnd (is : Issue) (f : FmtX) (s : State) : State := s.atomX is f 8
/-- ATOM.OR. -/
def atomOr (is : Issue) (f : FmtX) (s : State) : State := s.atomX is f 9
/-- ATOM.XOR. -/
def atomXor (is : Issue) (f : FmtX) (s : State) : State := s.atomX is f 10
/-- ATOM.EXCH. -/
def atomExch (is : Issue) (f : FmtX) (s : State) : State := s.atomX is f 11
/-- ATOM.CAS. -/
def atomCas (is : Issue) (f : FmtX) (s : State) : State := s.atomX is f 12

/-- May an atomic execute: the stores that its release waits for have been performed (R245), and so have buffered stores to its lines (R146)? -/
def State.atomFree (s : State) (id : Nat) (a : Atom) : Bool :=
  !(s.core a.core).sb.any (fun e => decide (e.seq < id) && (decide (2 ≤ a.scope) || (accKeys a.accs).contains e.key))

/-- The next piece of an atomic: the first without an old value, not on its way, and with no earlier one open on its line (R152). -/
def Atom.next (a : Atom) : Option Acc :=
  let todo := a.accs.filter (fun x => !a.olds.has x.thread)
  todo.find? (fun x => !bit a.sent x.thread &&
    !todo.any (fun y => decide (y.thread < x.thread) && decide (y.target = x.target ∧ y.pa / 128 = x.pa / 128)))

/-- An old value of an atomic arrives; with the last one the registers are written, an acquire of CHIP or wider takes effect, and the atomic ends (R151, R152, R211). -/
def State.atomOld (s : State) (id thread old : Nat) : State :=
  match s.l2.atoms.get? id with
  | none => s
  | some a0 =>
    let a := { a0 with olds := a0.olds.put thread old, sent := clrBit a0.sent thread }
    if a.accs.all (fun x => a.olds.has x.thread) then
      let s1 := { s with l2.atoms := s.l2.atoms.del id }
      let s2 := s1.modCore a.core (fun k => { k with groups := k.groups.mapVals (fun i g =>
        if i = a.slot ∧ !a.discard then
          a.olds.foldl (fun g e => g.setV a.dst e.1 (e.2 % 2 ^ (8 * a.bytes)) (a.bytes / 4)) g
        else g) })
      (s2.acquire a.core a.scope).reapGroup a.core a.slot
    else { s with l2.atoms := s.l2.atoms.put id a }

/-- The core's own copies of a line that its atomic has changed go (R243). -/
def State.atomDrop (s : State) (a : Atom) (x : Acc) : State := s.modCore a.core (fun k => k.dropCached (lineKey x.target (x.pa / 128)))

/-- Operand and compare value of a thread. -/
def Atom.args (a : Atom) (t : Nat) : Nat × Nat := a.operands.getD t (0, 0)

/-- A poisoned target ends the context (Table 3.3). -/
def State.atomPoison (s : State) (id : Nat) (a : Atom) (x : Acc) : State :=
  State.coreFault { s with l2.atoms := s.l2.atoms.del id } a.core a.slot x.thread 0x03 a.pc x.va false (some id)

/-- The first piece of an atomic, in thread order, whose target on this chip is poisoned, looked for before any thread's operation is performed (R118: a faulting instruction writes no memory for
any of its threads). -/
def State.atomHurt (s : State) (a : Atom) : Option Acc :=
  if !a.olds.isEmpty ∨ a.sent ≠ 0 then none
  else a.accs.find? (fun x => decide (x.target = 0) && s.pocPoison x.pa x.n)

/-- Send the operation of a thread to another chip (R151). -/
def State.atomSend (s : State) (id : Nat) (a : Atom) (x : Acc) : State :=
  let v := a.args x.thread
  let r := s.sendReq (fnOfQueue a.queue) a.queue 0x03 (bits x.pa 59 48)
    (a.op + (if a.bytes = 8 then 0x40 else 0) + (if a.far then 0x80 else 0)) (x.pa % 2 ^ 48) (leBytes 8 v.1 ++ leBytes 8 v.2) 0
    (.atom id x.thread)
  if r.1 = 0 then { r.2 with l2.atoms := r.2.l2.atoms.put id { a with sent := setBit a.sent x.thread } }
  else if r.1 = 0x100 then s
  else s.kill a.queue r.1 (s.siteOf a.queue a.node)

/-- An atomic on the host's memory, sent as a PCIe AtomicOp (R320). -/
def State.atomHost (s : State) (id : Nat) (a : Atom) (x : Acc) : State :=
  if !s.hostOpen (fnOfQueue a.queue) x.pa true then s
  else
    let v := a.args x.thread
    let r := s.hostRead x.pa a.bytes
    let old := ofLe r.1
    ((r.2.hostWrite x.pa (leBytes a.bytes (atomResult a.op a.bytes old v.1 v.2))).atomDrop a x).atomOld id x.thread old

/-! Synchronisation instructions. -/

/-- Issue a SYNC instruction (R130, R156). -/
def State.issueY (s : State) (is : Issue) (f : FmtY) (op : Nat) (useValue waits : Bool) (go : Iss → Nat → Nat → State → State) : State :=
  s.issue is
    { word := f.word op, guard := f.guard, neg := f.guardNeg, vec := false
      legal := fun _ => decide (f.zero = 0 ∧ f.scope ≤ 4) && sregOk f.dst && sregOk f.handle &&
        (if useValue then sregOk f.value else decide (f.value = 0))
      srcs := (256 + f.handle) :: (if useValue then [256 + f.value] else []), hints := [], dsts := [256 + f.dst]
      ready := fun s x => x.syncReady s f waits }
    (fun x s =>
      if !x.once then x.done s x.g
      else
        let h := x.g.sreg f.handle
        if 2 ^ 29 ≤ h then x.fault s x.lead 0x02 0
        else match handleChip h s.fab.chipId with
          | some chip =>
            (if s.num E.fnFabKey x.fn = 0 then x.fault s x.lead 0x02 0
             else if !s.reaches chip then x.reqFail s x.lead 0x0D 0
             else go x h (if useValue then x.g.sreg f.value else 0) s)
          | none => go x h (if useValue then x.g.sreg f.value else 0) s)

/-- SIGNAL, POST and BAR.ARRIVE: a release, then the operation (R156, R245). -/
def State.syncRelease (s : State) (is : Issue) (f : FmtY) (op : Nat) (useValue : Bool) : State :=
  s.issueY is f op useValue false (fun x h v s =>
    let id := s.l2.nextId
    let m : SynMsg :=
      { obj := handleObj h, op := op, value := v, queue := x.g.queue, scope := f.scope, who := .core x.core x.slot x.mask f.dst x.pc id }
    let b : Bar :=
      { core := x.core, slot := x.slot, queue := x.g.queue, node := x.g.node, threads := x.mask, kind := 4, scope := f.scope
        store := none, sync := some (m, h) }
    let s0 := x.done s x.g
    let s1 : State := { s0 with l2.nextId := id + 1 }
    if s1.barMet id b then s1.sendRelease b m h
    else { s1 with l2.bars := s1.l2.bars.put id b })

/-- A wait: the threads are not ready until the object releases them (R157, R302). -/
def State.syncWait (s : State) (is : Issue) (f : FmtY) (op : Nat) (useValue : Bool) : State :=
  s.issueY is f op useValue true (fun x h v s =>
    let who : WaiterWho := .core x.core x.slot x.mask f.dst x.pc s.l2.nextId
    let s0 := (x.put s { x.g with waiting := natOr 64 x.g.waiting x.mask }).modCore x.core (fun k => { k with waits := k.waits + 1 })
    let s1 : State := { s0 with l2.nextId := s0.l2.nextId + 1 }
    let w : Waiter := { who := who, queue := x.g.queue, op := op, value := v, scope := f.scope }
    match handleChip h s.fab.chipId with
    | none => { s1 with syn.registering := s1.syn.registering ++ [(handleObj h, w)] }
    | some chip => (s1.sendSync x.fn x.g.queue chip (handleObj h) op v f.scope who true).2)

/-- SYNC.SIGNAL. -/
def syncSignal (is : Issue) (f : FmtY) (s : State) : State := s.syncRelease is f 0 true
/-- SYNC.WAIT.GE. -/
def syncWaitGe (is : Issue) (f : FmtY) (s : State) : State := s.syncWait is f 1 true
/-- SYNC.WAIT.EQ. -/
def syncWaitEq (is : Issue) (f : FmtY) (s : State) : State := s.syncWait is f 2 true
/-- SYNC.POST. -/
def syncPost (is : Issue) (f : FmtY) (s : State) : State := s.syncRelease is f 3 true
/-- SYNC.WAIT.DEC. -/
def syncWaitDec (is : Issue) (f : FmtY) (s : State) : State := s.syncWait is f 4 false
/-- SYNC.BAR.ARRIVE. -/
def syncBarArrive (is : Issue) (f : FmtY) (s : State) : State := s.syncRelease is f 5 false
/-- SYNC.BAR.WAIT. -/
def syncBarWait (is : Issue) (f : FmtY) (s : State) : State := s.syncWait is f 6 true

/-! The meanings. -/

/-- ATOM_ADD (R151). -/
def execAtomAdd (is : Issue) (f : FmtX) (s : State) : Host.Outcome State Fault Refusal :=
  .next (atomAdd is f s)
/-- ATOM_FADD (R151). -/
def execAtomFadd (is : Issue) (f : FmtX) (s : State) : Host.Outcome State Fault Refusal :=
  .next (atomFadd is f s)
/-- ATOM_MIN (R151). -/
def execAtomMin (is : Issue) (f : FmtX) (s : State) : Host.Outcome State Fault Refusal :=
  .next (atomMin is f s)
/-- ATOM_MAX (R151). -/
def execAtomMax (is : Issue) (f : FmtX) (s : State) : Host.Outcome State Fault Refusal :=
  .next (atomMax is f s)
/-- ATOM_UMIN (R151). -/
def execAtomUmin (is : Issue) (f : FmtX) (s : State) : Host.Outcome State Fault Refusal :=
  .next (atomUmin is f s)
/-- ATOM_UMAX (R151). -/
def execAtomUmax (is : Issue) (f : FmtX) (s : State) : Host.Outcome State Fault Refusal :=
  .next (atomUmax is f s)
/-- ATOM_FMIN (R151). -/
def execAtomFmin (is : Issue) (f : FmtX) (s : State) : Host.Outcome State Fault Refusal :=
  .next (atomFmin is f s)
/-- ATOM_FMAX (R151). -/
def execAtomFmax (is : Issue) (f : FmtX) (s : State) : Host.Outcome State Fault Refusal :=
  .next (atomFmax is f s)
/-- ATOM_AND (R151). -/
def execAtomAnd (is : Issue) (f : FmtX) (s : State) : Host.Outcome State Fault Refusal :=
  .next (atomAnd is f s)
/-- ATOM_OR (R151). -/
def execAtomOr (is : Issue) (f : FmtX) (s : State) : Host.Outcome State Fault Refusal :=
  .next (atomOr is f s)
/-- ATOM_XOR (R151). -/
def execAtomXor (is : Issue) (f : FmtX) (s : State) : Host.Outcome State Fault Refusal :=
  .next (atomXor is f s)
/-- ATOM_EXCH (R151). -/
def execAtomExch (is : Issue) (f : FmtX) (s : State) : Host.Outcome State Fault Refusal :=
  .next (atomExch is f s)
/-- ATOM_CAS (R151). -/
def execAtomCas (is : Issue) (f : FmtX) (s : State) : Host.Outcome State Fault Refusal :=
  .next (atomCas is f s)
/-- SYNC_SIGNAL (R156). -/
def execSyncSignal (is : Issue) (f : FmtY) (s : State) : Host.Outcome State Fault Refusal :=
  .next (syncSignal is f s)
/-- SYNC_WAIT_GE (R156). -/
def execSyncWaitGe (is : Issue) (f : FmtY) (s : State) : Host.Outcome State Fault Refusal :=
  .next (syncWaitGe is f s)
/-- SYNC_WAIT_EQ (R156). -/
def execSyncWaitEq (is : Issue) (f : FmtY) (s : State) : Host.Outcome State Fault Refusal :=
  .next (syncWaitEq is f s)
/-- SYNC_POST (R156). -/
def execSyncPost (is : Issue) (f : FmtY) (s : State) : Host.Outcome State Fault Refusal :=
  .next (syncPost is f s)
/-- SYNC_WAIT_DEC (R156). -/
def execSyncWaitDec (is : Issue) (f : FmtY) (s : State) : Host.Outcome State Fault Refusal :=
  .next (syncWaitDec is f s)
/-- SYNC_BAR_ARRIVE (R300). -/
def execSyncBarArrive (is : Issue) (f : FmtY) (s : State) : Host.Outcome State Fault Refusal :=
  .next (syncBarArrive is f s)
/-- SYNC_BAR_WAIT (R300). -/
def execSyncBarWait (is : Issue) (f : FmtY) (s : State) : Host.Outcome State Fault Refusal :=
  .next (syncBarWait is f s)

end Sys2Proof.Machine
end

