-- ==== Sys2Proof/Machine/Caches.lean ====
section
/-! DEFINITION. Machine/Caches.lean: the homes at work (R219 to R238): reads, stores and atomics at a home, NACKs and their retries, directory errors, way retirement, the loss of
the coherent domain, the gating of plains, and the control of L1, scratch and the scalar caches (R208, R214, R215). -/

namespace Sys2Proof.Machine

/-! Reads (R219, R222). -/

/-- Bytes of a fill that cross a die-to-die interface, on behalf of a queue. -/
def State.fillQty (s : State) (line queue : Nat) (tags : Nat × Nat) : State :=
  if (s.heldLine line).isSome then s else s.addQty queue 3 128 tags.1 tags.2

/-- Corrected granules of a line read at its home: counted, and noted for the way (R236, Table 9.15). -/
def State.noteCorrected (s : State) (line n : Nat) : State :=
  if n = 0 then s
  else
    let s1 := s.addNum E.l2Corrected 64 n
    match s1.l2.dir.get? line with
    | none => s1
    | some d =>
      if 16 ≤ d.way then s1
      else
        let k := d.slice * 16 + d.way
        let old := (s1.l2.wayErrors.getD k []).filter (fun t => decide (s1.time.mono < t + 1000000000))
        { s1 with l2.wayErrors := s1.l2.wayErrors.put k (old ++ List.replicate n s1.time.mono) }

/-- A corrected directory entry is counted and logged (R235, Table 9.11). -/
def State.noteDir (s : State) (line : Nat) (corrected : Bool) : State :=
  match corrected, s.l2.dir.get? line with
  | true, some d => (s.raiseL2 1).pushL2 (l2Rec 0 d.slice d.way line)
  | _, _ => s

/-- A slice checks a line that it reads from its arrays (R46, R216, R236): corrected granules are counted, and one that is uncorrectable takes the poisoned form and is noted for its way. -/
def State.checkLine (s : State) (line : Nat) (chk : L2Check) : State :=
  match s.heldLine line with
  | none => s.noteDir line chk.dir
  | some d =>
    let s1 := (s.noteCorrected line chk.corrected).noteDir line chk.dir
    if chk.bad % 256 = 0 then s1
    else { s1 with
      l2.dir := s1.l2.dir.put line { d with poison := natOr 8 d.poison chk.bad }
      l2.wayBad := if s1.l2.wayBad.contains (d.slice * 16 + d.way) then s1.l2.wayBad else s1.l2.wayBad ++ [d.slice * 16 + d.way] }

/-- Does a load of plain p go straight to the home (R219, step 1)? -/
def State.straightHome (s : State) (line p : Nat) : Bool :=
  decide (s.homeOf line / 4 = p) || (s.replicaSlice line p).isNone ||
    (match s.linePart line with
     | none => true
     | some q => decide (s.num E.replication q = 0))

/-- Does the home install a replica (R219, step 4)? -/
def State.installs (s : State) (line : Nat) : Bool :=
  match s.linePart line with
  | none => false
  | some q =>
    decide (s.num E.replication q = 2) || (decide (s.num E.replication q = 1) &&
      (match s.l2.dir.get? line with
       | some d => d.rsw
       | none => false))

/-- The replica that serves a load of plain p (R219, step 2). -/
def State.replicaHit (s : State) (line p : Nat) : Option LineCopy :=
  if s.straightHome line p then none else s.l2.replicas.get? (replicaKey p line)

/-- A replica slice serves a load (R219): the granules that its check finds uncorrectable take the poisoned form. -/
def State.fromReplica (s : State) (id : Nat) (l : Load) (line : Nat) (r : LineCopy) (chk : L2Check) : State :=
  let p := l.core / 24
  let tags := s.groupTags l.core l.slot
  let u := ((s.addNum E.l2Corrected 64 chk.corrected).countEvent 1 p 0x12 1 l.queue).useLine
  let way := r.slice * 16 + r.way
  let c : LineCopy := { r with poison := natOr 8 r.poison chk.bad, used := u.1 }
  let s1 : State := { u.2 with
    l2.replicas := u.2.l2.replicas.put (replicaKey p line) c
    l2.wayErrors := if chk.corrected = 0 then u.2.l2.wayErrors else u.2.l2.wayErrors.put way (u.2.l2.wayErrors.getD way [] ++ List.replicate chk.corrected s.time.mono)
    l2.wayBad := if chk.bad % 256 = 0 ∨ u.2.l2.wayBad.contains way then u.2.l2.wayBad else u.2.l2.wayBad ++ [way] }
  (s1.addQty l.queue 2 128 tags.1 tags.2).gotLine id (lineKey 0 line) c.data c.poison

/-- The home serves a core's load, and may install a replica in its plain (R219, R222). A set without a way for the line is noted. -/
def State.fromHome (s : State) (id : Nat) (l : Load) (line : Nat) (chk : L2Check) : State :=
  let p := l.core / 24
  let tags := s.groupTags l.core l.slot
  let hit := (s.heldLine line).isSome
  match (s.checkLine line chk).homeRead line with
  | none => { s with l2.refused := some line }
  | some s1 =>
    let s2 := (s1.countEvent 1 (s.homeOf line / 4) (if hit then 0x10 else 0x11) 1 l.queue).addQty l.queue 2 128 tags.1 tags.2
    let s3 := if hit then s2 else s2.addQty l.queue 3 128 tags.1 tags.2
    let s4 := if s.straightHome line p || !s.installs line then s3 else s3.installReplica p line
    let d := s4.pocLine line
    s4.gotLine id (lineKey 0 line) d.1 d.2

/-- A core's load at the replica slice or the home (R219): a replica that hits serves it whatever the home does. -/
def State.serveRead (s : State) (id : Nat) (l : Load) (line : Nat) (chk : L2Check) : State :=
  match s.replicaHit line (l.core / 24) with
  | some r => (s.fromReplica id l line r chk).unNack (some line) (.load id)
  | none => s.coherent (.load id) l.queue (some line) (fun s => s.fromHome id l line chk)

/-- May a load's read of a line go to the home: the load lacks it, no earlier load waits for it, and the coherent domain stands? -/
def State.readDue (s : State) (id : Nat) (l : Load) (line : Nat) : Bool :=
  l.lacks (lineKey 0 line) && !s.lineQueued l.core id (lineKey 0 line) && !s.l2.domainLost

/-- HOME_READ (R219, R222). -/
def homeRead (load line : Nat) (chk : L2Check) (s : State) : State :=
  match s.l2.loads.get? load with
  | none => s
  | some l => if !s.readDue load l line || s.waitsRetry line (.load load) then s else s.serveRead load l line chk

/-! Stores (R222, Table 9.6). -/

/-- An entry that has left the buffer for its home, may go, and is the oldest of its line. -/
def State.storeDue (s : State) (c seq : Nat) : Option SbEntry :=
  match (s.core c).sb.find? (fun e => decide (e.seq = seq)) with
  | none => none
  | some e => if e.left && decide (e.target = 0) && s.mayLeave c e && !s.lineOlder c e && !s.l2.domainLost then some e else none

/-- A store at its home: the line goes to D with the bytes merged, and the entry is done. -/
def State.storeHome (s : State) (c : Nat) (e : SbEntry) (chk : L2Check) : State :=
  let tags := s.nodeTags e.node
  let s1 := if e.mask = fullMask then s else s.fillQty e.line e.queue tags
  match (s1.checkLine e.line chk).homeWrite e.line e.data e.mask with
  | some t => t.dropEntry c e.seq
  | none => { s with l2.refused := some e.line }

/-- A store entry at its home (R210, R222). -/
def State.serveStore (s : State) (c : Nat) (e : SbEntry) (chk : L2Check) : State :=
  s.coherent (.store c e.seq) e.queue (some e.line) (fun s => s.storeHome c e chk)

/-- HOME_STORE (R210, R222). -/
def homeStore (core seq : Nat) (chk : L2Check) (s : State) : State :=
  match s.storeDue core seq with
  | none => s
  | some e => if s.waitsRetry e.line (.store core seq) then s else s.serveStore core e chk

/-! Atomics (R226, R90). -/

/-- The operations of an atomic's threads on one line, in thread order. `far` executes them at the newt. -/
def State.atomPieces (s : State) (id : Nat) : List Acc → State
  | [] => s
  | x :: t =>
    match s.l2.atoms.get? id with
    | none => s
    | some a =>
      let v := a.args x.thread
      match (if a.far then s.farAtom a.op a.bytes x.pa v.1 v.2 else s.homeAtom a.op a.bytes x.pa v.1 v.2) with
      | .poison => s.atomPoison id a x
      | .nack => { s with l2.refused := some (x.pa / 128) }
      | .old old s1 =>
        let s2 := if a.far then s1.countEvent 2 (s.newtOf x.pa) 0x24 1 a.queue
          else s1.countEvent 1 (s.homeOf (x.pa / 128) / 4) 0x14 1 a.queue
        State.atomPieces ((s2.atomDrop a x).atomOld id x.thread old) id t

/-- Pieces of an atomic on the line of one of them, still to be performed. -/
def Atom.onLine (a : Atom) (x : Acc) : List Acc :=
  a.accs.filter (fun y => decide (y.target = x.target ∧ y.pa / 128 = x.pa / 128) && !a.olds.has y.thread && !bit a.sent y.thread)

/-- The atomic of a core at the home of a line, or at the newt of its channel. Granules that the check of the home's arrays finds uncorrectable are poisoned before any thread's operation. -/
def State.serveAtom (s : State) (id : Nat) (a : Atom) (x : Acc) (chk : L2Check) : State :=
  let line := x.pa / 128
  let tags := s.groupTags a.core a.slot
  s.coherent (.atom id) a.queue (some line) (fun s =>
    let s1 := if a.far then s else (s.fillQty line a.queue tags).checkLine line chk
    match s1.atomHurt a with
    | some y => s1.atomPoison id a y
    | none => s1.atomPieces id (a.onLine x))

/-- An atomic's next piece goes to its target: a home of this chip, the host, or another chip (R151, R152, R226, R320). -/
def State.atomGo (s : State) (id : Nat) (far : Bool) (chk : L2Check) : State :=
  match s.l2.atoms.get? id with
  | none => s
  | some a =>
    match a.next with
    | none => s
    | some x =>
      if !s.atomFree id a || !decide (a.far = far) then s
      else if let some y := s.atomHurt a then s.atomPoison id a y
      else if x.target = 1 then s.atomSend id a x
      else if x.target = 2 then s.atomHost id a x
      else if s.l2.domainLost || s.waitsRetry (x.pa / 128) (.atom id) then s
      else s.serveAtom id a x chk

/-- HOME_ATOMIC (R226). -/
def homeAtomic (atom : Nat) (chk : L2Check) (s : State) : State := s.atomGo atom false chk

/-- FAR_ATOMIC (R84, R90). A newt that has failed with its channel answers as R56 and R96 give: the granule reads poisoned. -/
def farAtomic (atom : Nat) (s : State) : State := s.atomGo atom true { corrected := 0, bad := 0, dir := false }

/-! Retries (R228). -/

/-- A core's refused request is made again; one that no longer stands is forgotten. Operations of other units are made again by their own commands. -/
def State.coreRetry (s : State) (e : Nacked) (chk : L2Check) : State :=
  let gone := s.unNack (some e.line) e.who
  if s.l2.domainLost then s
  else match e.who with
    | .load id =>
      (match s.l2.loads.get? id with
       | none => gone
       | some l =>
         if !l.lacks (lineKey 0 e.line) then gone
         else if s.lineQueued l.core id (lineKey 0 e.line) then s.nackReq e.line l.queue e.who false
         else s.serveRead id l e.line chk)
    | .store c seq =>
      (match s.storeDue c seq with
       | none => gone
       | some x => s.serveStore c x chk)
    | .atom id =>
      (match s.l2.atoms.get? id with
       | none => gone
       | some a =>
         match (a.accs.find? (fun x => decide (x.target = 0 ∧ x.pa / 128 = e.line) && !a.olds.has x.thread)) with
         | none => gone
         | some x => if s.atomFree id a then s.serveAtom id a x chk else s)
    | _ => s

/-! Other events at a home. -/

/-- What the SEC-DED of the presence filter finds in the entry of a line: 1, an error that it corrects; 2, one that it cannot correct, so that the entry is treated as M (R87). -/
def State.filterCheck (s : State) (line chk : Nat) : State :=
  if !s.nwt.filter.has line then s
  else if chk = 1 then s.raiseNwt 0
  else if chk = 2 then { s with nwt.filter := s.nwt.filter.put line true } else s

/-- NEWT_READ_WRITEBACK (R87, R88): where the filter holds the line as M, the home writes it back and marks it clean. -/
def newtReadWriteback (line chk : Nat) (s0 : State) : State :=
  let s := s0.filterCheck line chk
  match s.l2.dir.get? line with
  | none => s
  | some d =>
    if !d.state.dirty ∧ d.busy.isNone then { s with nwt.filter := if s.nwt.filter.has line then s.nwt.filter.put line false else s.nwt.filter }
    else if d.busy.isSome then s
    else
      let s1 := s.writeBack line d.data d.poison
      { s1 with
        l2.dir := s1.l2.dir.put line { d with state := if d.state = .d then .h else .sh }
        nwt.filter := s1.nwt.filter.put line false }

/-- REPLICA_DROP_NOTICE: a replica slice replaces a replica and tells the home (R222). -/
def replicaDropNotice (plain line : Nat) (s : State) : State :=
  if s.l2.replicas.has (replicaKey plain line) then s.dropReplica (replicaKey plain line) else s

/-! Loss of the coherent domain (R237), and of the chip (R456). -/

/-- Kill every context with DOMAIN_LOST. -/
def State.killAll (s : State) : State :=
  s.fe.queues.keys.foldl (fun s q => if (s.q q).state.alive then s.kill q 0x11 (s.oldestSite q) else s) s

/-- Contexts that a kill of every one ends. -/
def State.aliveCount (s : State) : Nat := s.fe.queues.vals.countP (fun q => q.state.alive)

/-- The coherent domain is lost: requests are refused, every context ends with 0x11, L2C_STATUS.domain_lost is set, and the descriptors report failed. Class 19
(Table 20.5). -/
def State.loseDomain (s : State) (unit detail : Nat) : State :=
  if s.l2.domainLost then s
  else
    let n := s.aliveCount
    let s1 := ((State.raiseL2 { s with l2.domainLost := true } 6).pushL2 (l2Rec 4 (if unit < 64 then unit else 0) 0 0)).killAll
    s1.faultRecord 19 unit detail 0xFFFFFFFF n 0

/-- COH_TRANSACTION_TIMEOUT: an open transaction has had no answer within 50 µs. -/
def cohTransactionTimeout (line : Nat) (s : State) : State :=
  match s.l2.dir.get? line with
  | none => s
  | some d =>
    match d.busy with
    | none => s
    | some b => if s.time.mono < b.1 + 50000 then s else s.loseDomain d.slice (line % 2 ^ 32)

/-- DIRECTORY_STALL_TIMEOUT: a directory makes no progress for 10 µs while an entry is busy. -/
def directoryStallTimeout (slice : Nat) (s : State) : State :=
  if s.l2.dir.vals.any (fun d => decide (d.slice = slice) && (match d.busy with
      | none => false
      | some b => decide (b.1 + 10000 ≤ s.time.mono))) then s.loseDomain slice 0
  else s

/-- COHERENT_DOMAIN_LOSS: a member of the tied group has been unreachable on every path for 50 µs, or was reset by anything other than a tied-domain reset. -/
def coherentDomainLoss (member : Nat) (wasReset : Bool) (s : State) : State :=
  let lost := s.fab.unreachable.contains member || (s.fab.lostSince.get? member).elim false (fun t => decide (t + 50000 ≤ s.time.mono))
  if s.tiedChip member && (wasReset || lost) then s.loseDomain member 0 else s

/-- CHIP_STALL_FAIL: the spine, front-end or router plain (D16 to D18) makes no progress for 10 µs: the chip fails. -/
def chipStallFail (domain : Nat) (s : State) : State :=
  if domain < 16 ∨ 18 < domain ∨ s.sup.chipFailed then s
  else
    let n := s.aliveCount
    (State.killAll { s with sup.chipFailed := true }).faultRecord 20 domain 0 0xFFFFFFFF n 0

/-! Directory errors and way retirement (R235, R236). -/

/-- The sharer bits of every other member of the tied group. -/
def State.everyMember (s : State) : Nat := ofBitList (((List.range 3).filter (fun i => (s.tieMember i).isSome)).map (16 + ·))

/-- DIR_UNCORRECTABLE (R235): the vector is not to be trusted, so the line is invalidated in every plain and every tied member, whose acknowledgements come first. `tag`: the error is in the tag. -/
def dirUncorrectable (line : Nat) (tag : Bool) (s : State) : State :=
  match s.l2.dir.get? line with
  | none => s
  | some d =>
    let noted (s : State) : State := (s.raiseL2 3).pushL2 (l2Rec 1 d.slice d.way line)
    if tag ∧ d.state.dirty then (noted s).loseDomain d.slice (line % 2 ^ 32)
    else if d.busy.isSome then s
    else if s.everyMember ≠ 0 ∧ !s.l2.dirBad.contains line then
      let s1 : State := { s with l2.dir := s.l2.dir.put line { d with sharers := natOr 19 d.sharers s.everyMember }, l2.dirBad := s.l2.dirBad ++ [line] }
      (noted s1).askCopies (.other (2 ^ 58 + line)) line
    else
      let s1 : State := if s.l2.dirBad.contains line then { s with l2.dirBad := s.l2.dirBad.filter (fun x => !decide (x = line)) } else noted s
      let s2 := if d.state.hasData then s1.writeBack line d.data d.poison else s1
      State.lineToI { s2 with l2.dir := s2.l2.dir.put line { d with state := if d.state.hasData then .h else .o } } line

/-- Retired ways of a slice, those under way included. -/
def State.retiredWays (s : State) (slice : Nat) : List Nat := (List.range 16).filter (s.closedWay slice)

/-- WAY_RETIRE: eight corrected errors within 1 s, or an uncorrectable one, start the retirement; a fifth fails the slice, and the domain with it. -/
def wayRetire (slice way : Nat) (s : State) : State :=
  let k := slice * 16 + way
  let recent := (s.l2.wayErrors.getD k []).filter (fun t => decide (s.time.mono < t + 1000000000))
  if 64 ≤ slice ∨ 16 ≤ way ∨ s.closedWay slice way ∨ bit s.l2.failed slice ∨ (!s.l2.wayBad.contains k ∧ recent.length < 8) then s
  else if 4 ≤ (s.retiredWays slice).length then
    (State.pushL2 { s with l2.failed := setBit s.l2.failed slice } (l2Rec 3 slice way 0)).loseDomain slice way
  else { s with l2.retiring := s.l2.retiring ++ [k], l2.retireAt := s.l2.retireAt.put k s.time.mono }

/-- The lines, replicas and copies of a way leave it: lines with sharers for overflow ways (R236). -/
def State.emptyWay (s : State) (slice way : Nat) : State :=
  let mine := s.l2.dir.filter (fun e => decide (e.2.slice = slice ∧ e.2.way = way))
  let s1 := mine.foldl (fun s e => s.evict (.line e.1)) s
  let s2 := (SMap.keys (s1.l2.replicas.keep (fun _ c => decide (c.slice = slice ∧ c.way = way)))).foldl State.dropReplica s1
  (SMap.keys (s2.l2.tied.keep (fun _ c => decide (c.slice = slice ∧ c.way = way)))).foldl State.dropCopy s2

/-- WAY_RETIRE_COMPLETE: the way's lines are written back or moved, and it is marked retired. A covered fault of class 3. -/
def wayRetireComplete (slice way : Nat) (s : State) : State :=
  let k := slice * 16 + way
  if !s.l2.retiring.contains k || s.l2.dir.vals.any (fun d => decide (d.slice = slice ∧ d.way = way) && d.busy.isSome) then s
  else
    let s1 := s.emptyWay slice way
    match s.copiesEnded s1 with
    | [] =>
      let took := s.time.mono - s.l2.retireAt.getD k s.time.mono
      let s2 := (s1.setNum (E.sliceRetiredWays + slice) (setBit (s1.num (E.sliceRetiredWays + slice)) way)).addNum E.waysRetired 16
      let s3 : State := { s2 with
        l2.retiring := s2.l2.retiring.filter (fun x => !decide (x = k)), l2.retireAt := s2.l2.retireAt.del k, l2.wayErrors := s2.l2.wayErrors.del k
        l2.wayBad := s2.l2.wayBad.filter (fun x => !decide (x = k)) }
      ((s3.raiseL2 4).pushL2 (l2Rec 2 slice way 0)).faultRecord 3 slice way took 0 0
    | l => l.foldl (fun s x => s.askCopies (.other (2 ^ 59 + k)) x) s

/-! Gating (R36, R233, R234). -/

/-- Cores of a plain. -/
def coresOfPlain (p : Nat) : List Nat := rangeFrom (24 * p) 24

/-- Partitions with a slice in a plain. -/
def State.partsOfPlain (s : State) (p : Nat) : List Nat := (List.range 64).filter (fun q => (s.slicesOf q).any (fun x => decide (x / 4 = p)))

/-- Slices of a partition in plains that are awake. -/
def State.awakeSlices (s : State) (q : Nat) : List Nat := (s.slicesOf q).filter (fun x => !bit s.l2.gatedPlains (x / 4))

/-- May a plain be gated (R233)? -/
def State.mayGate (s : State) (p : Nat) : Bool :=
  decide (p < 16) && !bit s.l2.gatedPlains p &&
    (coresOfPlain p).all (fun c => (s.core c).blocks.isEmpty && (s.core c).sb.isEmpty) &&
    (s.partsOfPlain p).all (fun q => (s.awakeSlices q).any (fun x => !decide (x / 4 = p))) &&
    !s.l2.dir.vals.any (fun d => decide (d.slice / 4 = p) && d.busy.isSome)

/-- PLAIN_GATE: caches dropped, replicas dropped, homes flushed, map entries redirected, and the plain's replica of the time base stopped. -/
def plainGate (plain : Nat) (s : State) : State :=
  if !s.mayGate plain then s
  else
    let s1 := (coresOfPlain plain).foldl (fun s c => s.modCore c (fun k => { k with
      l1 := [], scl := [], victim := [], icache := [], state := if k.state = 0 then 1 else k.state })) s
    let reps := s1.l2.replicas.keys.filter (fun k => decide (k / 2 ^ 41 = plain))
    let s2 := reps.foldl (fun s k => replicaDropNotice plain (k % 2 ^ 41) s) s1
    let s3 := (SMap.keys (s2.l2.tied.keep (fun _ c => decide (c.slice / 4 = plain)))).foldl State.dropCopy s2
    let mine := SMap.keys (s3.l2.dir.keep (fun _ d => decide (d.slice / 4 = plain)))
    let s4 := mine.foldl State.lineToI s3
    let s5 : State := { s4 with l2.gatedPlains := setBit s4.l2.gatedPlains plain }
    let s6 := (s.partsOfPlain plain ++ (List.range 64).filter (fun q => (s.part q).redirects.vals.any (fun x => decide (x / 4 = plain)))).eraseDups.foldl
      (fun s q =>
        let aw := s.awakeSlices q
        (List.range 64).foldl (fun s b =>
          if s.homeMap (some q) b / 4 = plain ∧ aw.length ≠ 0 then
            s.modPart q (fun x => { x with redirects := x.redirects.put b (aw.getD (b % aw.length) 0) })
          else s) s) s5
    { s6 with time.replicas := s6.time.replicas.mapIdx (fun i r => if i = plain then { r with stopped := true } else r) }

/-- PLAIN_WAKE: the replica reloads before any unit issues, and the cores return with their scalar caches disabled (R36, R125, R214). -/
def plainWake (plain : Nat) (s : State) : State :=
  if !bit s.l2.gatedPlains plain then s
  else
    let s0 := s.addNum (E.plainEpoch + plain) 32
    let s1 : State := { s0 with
      l2.gatedPlains := clrBit s.l2.gatedPlains plain
      time.replicas := s.time.replicas.mapIdx (fun i r => if i = plain then r.reload s.time.gtb else r)
      time.domainResync := setBit s.time.domainResync plain, time.resyncEvent := true
      time.resyncFlag := setBit s.time.resyncFlag plain
      time.resyncDone := s.time.resyncDone.filter (fun x => !decide (x / 65536 = 1 ∧ x % 65536 / 24 = plain)) }
    (coresOfPlain plain).foldl (fun s c => if (s.core c).state = 1 then s.coreReturns c else s) s1

/-- BUCKET_RETURN: a redirected bucket of an awake plain is flushed at its temporary home and points home again (R234). -/
def bucketReturn (partition bucket : Nat) (s : State) : State :=
  let l := s.slicesOf partition
  let own := l.getD (bucket % l.length) 0
  if !(s.part partition).redirects.has bucket ∨ l.length = 0 ∨ bit s.l2.gatedPlains (own / 4) then s
  else
    let s1 := s.linesToI (fun line => decide (s.linePart line = some partition) && decide (bucketOf line = bucket))
    s1.modPart partition (fun x => { x with redirects := x.redirects.del bucket })

/-! The scalar caches and scratch (R208, R214, R215). -/

/-- Enable the scalar cache of a core (R214). -/
def State.sclOn (s : State) (c : Nat) : State :=
  let s1 := s.modCore c (fun k => { k with sclEnable := true })
  { s1 with l2.sclDisabled := clrBit s1.l2.sclDisabled c }

/-- SCL_AUTO_ENABLE: Cugen runs the procedure of R214 for a returned core while scl_auto_enable is 1. -/
def sclAutoEnable (core : Nat) (s : State) : State :=
  if s.num E.sclAutoEnable = 1 ∧ bit s.l2.sclDisabled core then (s.sclInvalidate core).sclOn core else s

/-- SCL_CTRL_INVALIDATE. -/
def sclCtrlInvalidate (core : Nat) (s : State) : State := if core < 384 then s.sclInvalidate core else s

/-- SCL_CTRL_ENABLE: enable = 1 takes effect only while invalidated reads 1. -/
def sclCtrlEnable (core : Nat) (enable : Bool) (s : State) : State :=
  if 384 ≤ core then s
  else if enable then (if (s.core core).sclInvalidated then s.sclOn core else s)
  else s.modCore core (fun k => { k with sclEnable := false })

/-- SCRATCH_KIB_WRITE: the change is pending on every core of the partition (R208). -/
def scratchKibWrite (who : Origin) (partition value : Nat) (s : State) : State :=
  s.partWrite who partition E.scratchKib value (if value % 64 ≠ 0 ∨ 448 < value then 4 else 0) (fun t =>
    (t.coresOf partition).foldl (fun s c => s.modCore c (fun k => { k with scratchPending := decide (k.scratchKib ≠ value) })) t)

/-- SCRATCH_CHANGE_APPLY: a core without a block takes its partition's scratch_kib, and its L1 is invalidated (R208). -/
def scratchChangeApply (core : Nat) (s : State) : State :=
  let k := s.core core
  match s.partOfCore core with
  | none => s
  | some p =>
    if !k.scratchPending ∨ !k.blocks.isEmpty then s
    else s.modCore core (fun k => { k with scratchKib := s.num E.scratchKib p, scratchPending := false, l1 := [] })

/-! The meanings. -/

/-- HOME_READ (R222). -/
def execHomeRead (load : Nat) (line : Nat) (chk : L2Check) (s : State) : Host.Outcome State Fault Refusal :=
  .next (homeRead load line chk s)
/-- HOME_STORE (R222). -/
def execHomeStore (core : Nat) (seq : Nat) (chk : L2Check) (s : State) : Host.Outcome State Fault Refusal :=
  .next (homeStore core seq chk s)
/-- HOME_ATOMIC (R226). -/
def execHomeAtomic (atom : Nat) (chk : L2Check) (s : State) : Host.Outcome State Fault Refusal :=
  .next (homeAtomic atom chk s)
/-- NEWT_READ_WRITEBACK (R88). -/
def execNewtReadWriteback (line : Nat) (chk : Nat) (s : State) : Host.Outcome State Fault Refusal :=
  .next (newtReadWriteback line chk s)
/-- REPLICA_DROP_NOTICE (R222). -/
def execReplicaDropNotice (plain : Nat) (line : Nat) (s : State) : Host.Outcome State Fault Refusal :=
  .next (replicaDropNotice plain line s)
/-- DIR_UNCORRECTABLE (R235). -/
def execDirUncorrectable (line : Nat) (tag : Bool) (s : State) : Host.Outcome State Fault Refusal :=
  .next (dirUncorrectable line tag s)
/-- WAY_RETIRE (R236). -/
def execWayRetire (slice : Nat) (way : Nat) (s : State) : Host.Outcome State Fault Refusal :=
  .next (wayRetire slice way s)
/-- WAY_RETIRE_COMPLETE (R236). -/
def execWayRetireComplete (slice : Nat) (way : Nat) (s : State) : Host.Outcome State Fault Refusal :=
  .next (wayRetireComplete slice way s)
/-- COH_TRANSACTION_TIMEOUT (R237). -/
def execCohTransactionTimeout (line : Nat) (s : State) : Host.Outcome State Fault Refusal :=
  .next (cohTransactionTimeout line s)
/-- DIRECTORY_STALL_TIMEOUT (R237). -/
def execDirectoryStallTimeout (slice : Nat) (s : State) : Host.Outcome State Fault Refusal :=
  .next (directoryStallTimeout slice s)
/-- COHERENT_DOMAIN_LOSS (R237). -/
def execCoherentDomainLoss (member : Nat) (wasReset : Bool) (s : State) : Host.Outcome State Fault Refusal :=
  .next (coherentDomainLoss member wasReset s)
/-- CHIP_STALL_FAIL (R456). -/
def execChipStallFail (domain : Nat) (s : State) : Host.Outcome State Fault Refusal :=
  .next (chipStallFail domain s)
/-- PLAIN_GATE (R233). -/
def execPlainGate (plain : Nat) (s : State) : Host.Outcome State Fault Refusal :=
  .next (s.unit 15 plain (plainGate plain))
/-- PLAIN_WAKE (R36). -/
def execPlainWake (plain : Nat) (s : State) : Host.Outcome State Fault Refusal :=
  .next (plainWake plain s)
/-- BUCKET_RETURN (R234). -/
def execBucketReturn (partition : Nat) (bucket : Nat) (s : State) : Host.Outcome State Fault Refusal :=
  .next (s.unit 16 (partition * 64 + bucket) (bucketReturn partition bucket))
/-- SCL_AUTO_ENABLE (R215). -/
def execSclAutoEnable (core : Nat) (s : State) : Host.Outcome State Fault Refusal :=
  .next (sclAutoEnable core s)
/-- SCL_CTRL_INVALIDATE (R214). -/
def execSclCtrlInvalidate (core : Nat) (s : State) : Host.Outcome State Fault Refusal :=
  .next (sclCtrlInvalidate core s)
/-- SCL_CTRL_ENABLE (R214). -/
def execSclCtrlEnable (core : Nat) (enable : Bool) (s : State) : Host.Outcome State Fault Refusal :=
  .next (sclCtrlEnable core enable s)
/-- SCRATCH_KIB_WRITE (R208). -/
def execScratchKibWrite (who : Origin) (partition : Nat) (value : Nat) (s : State) : Host.Outcome State Fault Refusal :=
  .next (scratchKibWrite who partition value s)
/-- SCRATCH_CHANGE_APPLY (R208). -/
def execScratchChangeApply (core : Nat) (s : State) : Host.Outcome State Fault Refusal :=
  .next (scratchChangeApply core s)
/-- FAR_ATOMIC (R90). -/
def execFarAtomic (atom : Nat) (s : State) : Host.Outcome State Fault Refusal :=
  .next (farAtomic atom s)

end Sys2Proof.Machine
end

