-- ==== Sys2Proof/Machine/Dma.lean ====
section
/-! DEFINITION. Machine/Dma.lean: COPY nodes and the 32 DMA engines (R260, R280). -/

namespace Sys2Proof.Machine

/-- Bytes of a piece (R280). -/
def pieceBytes : Nat := 4 * 2 ^ 20

/-- Source, destination and length of a piece of a COPY node. -/
def Node.piece (n : Node) (i : Nat) : Nat × Nat × Nat :=
  (n.get 0x18 8 + i * pieceBytes, n.get 0x20 8 + i * pieceBytes, min pieceBytes (n.get 0x28 8 - i * pieceBytes))

/-- Does a COPY allocate in the homes (cflags bit 1)? -/
def Node.copyAlloc (n : Node) : Bool := bit (n.get 0x34 2) 1
/-- Does a COPY signal (cflags bit 0)? -/
def Node.copySignal (n : Node) : Bool := bit (n.get 0x34 2) 0

/-- Bytes from an offset on that stay inside one page of both addresses. -/
def pageRun (src dst n : Nat) : Nat := min n (min (2 ^ 16 - src % 2 ^ 16) (2 ^ 16 - dst % 2 ^ 16))

/-- Offsets, inside a run of bytes, of the granules of a source that are poisoned at their point of coherence: pairs of first byte and length. -/
def State.poisonRuns (s : State) (pa n : Nat) : List (Nat × Nat) :=
  ((granulesOf pa n).filter s.pocGranulePoison).map (fun g =>
    let lo := max pa (16 * g)
    (lo - pa, min (pa + n) (16 * g + 16) - lo))

/-- Put the poisoned form where a mover's poisoned bytes land in device memory (Table 3.3). -/
def State.putPoison (s : State) (dst : Nat) (runs : List (Nat × Nat)) : State :=
  (runs.flatMap (fun r => granulesOf (dst + r.1) r.2)).foldl State.agentPoison s

/-- The host's own rules govern a poisoned write: the bytes there are the host's again (Table 3.3). -/
def State.hostForget (s : State) (a n : Nat) : State :=
  { s with hif.hostMem := s.hif.hostMem.filter (fun c => !(decide (a ≤ c.1) && decide (c.1 < a + n))) }

/-- Write a mover's bytes to a translated destination in device or host memory, with the poison that they carry. -/
def State.moveTo (s : State) (target a : Nat) (data : List Byte) (runs : List (Nat × Nat)) (alloc : Bool) : State :=
  if target = 2 then runs.foldl (fun s r => s.hostForget (a + r.1) r.2) (s.hostWrite a data)
  else
    let s1 := if alloc then s.allocWrite (data.length / 128 + 2) a data else s.agentWrite a data
    s1.putPoison a runs

/-- How a move of bytes inside the chip ends. -/
inductive Moved
  | ok (s : State)
  | bad (code : Nat) (s : State)
  | remote              -- a page lies on another chip
  | wait                -- host pages may not be reached now
deriving DecidableEq, Repr

/-- Move bytes page by page between device memory and host memory: everything is read at the point of coherence before its page is written.
Writes that have landed before a fault stay (R280). -/
def State.moveLocal (s : State) (f : Nat) (alloc : Bool) : Nat → Nat → Nat → Nat → Moved
  | 0, _, _, _ => .ok s
  | k + 1, src, dst, n =>
    if n = 0 then .ok s
    else
      let m := pageRun src dst n
      match s.translate f src .read, s.translate f dst .write with
      | .bad c, _ => .bad c s
      | .ok _ _, .bad c => .bad c s
      | .ok ts a, .ok td b =>
        if ts = 1 ∨ td = 1 then .remote
        else if (ts = 2 ∧ !s.hostOpen f a false) ∨ (td = 2 ∧ !s.hostOpen f b true) then .wait
        else
          let r := if ts = 2 then s.hostRead a m else (s.pocRead a m, s.lookAt a m)
          let runs := if ts = 2 then [] else s.poisonRuns a m
          State.moveLocal (r.2.moveTo td b r.1 runs alloc) f alloc k (src + m) (dst + m) (n - m)

/-- Does a piece reach another chip on any of its pages? -/
def State.pieceRemote (s : State) (f : Nat) : Nat → Nat → Nat → Nat → Bool
  | 0, _, _, _ => false
  | k + 1, src, dst, n =>
    if n = 0 then false
    else
      let m := pageRun src dst n
      let far (va : Nat) (a : Access) : Bool := match s.translate f va a with
        | .ok 1 _ => true
        | _ => false
      far src .read || far dst .write || State.pieceRemote s f k (src + m) (dst + m) (n - m)

/-- Steps that a piece takes at most, page by page or packet by packet. -/
def pieceFuel : Nat := pieceBytes / 512 + 300

/-- Poison mask of the granules of a packet's data, from runs. -/
def runMask (runs : List (Nat × Nat)) (n : Nat) : Nat :=
  ofBitList ((List.range (ceilDiv n 16)).filter (fun i =>
    runs.any (fun r => decide (r.1 < 16 * i + 16) && decide (16 * i < r.1 + r.2))))

/-- Runs of the poisoned granules of a packet's data. -/
def maskRuns (mask n : Nat) : List (Nat × Nat) :=
  ((List.range (ceilDiv n 16)).filter (bit mask)).map (fun i => (16 * i, min 16 (n - 16 * i)))

/-- Write the bytes of a chunk of a remote piece that have been read: to this chip, or by a WRITE request (R363). Answers the code, 0x100 for a
wait, and the state; the bytes count as moved at once where they land on this chip. -/
def State.dmaWrite (s : State) (e : Nat) (eng : Engine) (n : Node) (off : Nat) (data : List Byte) (mask : Nat) : Nat × State :=
  let f := fnOfQueue n.queue
  let dst := (n.piece eng.piece).2.1 + off
  match s.translate f dst .write with
  | .bad c => (c, s)
  | .ok t a =>
    if t = 1 then s.sendReq f n.queue 0x02 (bits a 59 48) 0 (a % 2 ^ 48) data mask (.dma e off)
    else if t = 2 ∧ !s.hostOpen f a true then (0x100, s)
    else
      let s1 := s.moveTo t a data (maskRuns mask data.length) n.copyAlloc
      (0, { s1 with fe.engines := s1.fe.engines.mapVals (fun k x =>
        if k = e then { x with moved := x.moved + data.length } else x) })

/-- Write the bytes that an engine holds for their destination, up to one that has to wait on. -/
def State.dmaHeld (s : State) (e : Nat) (n : Node) : Nat → State
  | 0 => s
  | k + 1 =>
    match s.fe.engines.get? e with
    | none => s
    | some eng =>
      match eng.waiting with
      | [] => s
      | w :: l =>
        let r := s.dmaWrite e eng n w.1 w.2.1 w.2.2
        if r.1 = 0x100 then s
        else if r.1 ≠ 0 then r.2.kill n.queue r.1 n.site
        else State.dmaHeld { r.2 with fe.engines := r.2.fe.engines.mapVals (fun k x => if k = e then { x with waiting := l } else x) } e n k

/-- Send requests for the next chunks of a remote piece while entries are free: a READ for a source on another chip, else the local bytes. -/
def State.dmaPump (s : State) (e : Nat) : Nat → State
  | 0 => s
  | k + 1 =>
    match s.fe.engines.get? e with
    | none => s
    | some eng =>
      match s.fe.nodes.get? eng.node with
      | none => s
      | some n =>
        let p := n.piece eng.piece
        let off := eng.sent
        if p.2.2 ≤ off ∨ eng.stopped ∨ !(s.q n.queue).state.completes then s
        else
          let f := fnOfQueue n.queue
          let src := p.1 + off
          let m := min 512 (pageRun src (p.2.1 + off) (p.2.2 - off))
          let r : Nat × State := match s.translate f src .read with
            | .bad c => (c, s)
            | .ok t a =>
              if t = 1 then s.sendReq f n.queue 0x01 (bits a 59 48) 0 (a % 2 ^ 48) [] 0 (.dma e off)
              else if t = 2 then
                (if s.hostOpen f a false then
                  let h := s.hostRead a m
                  h.2.dmaWrite e eng n off h.1 0
                 else (0x100, s))
              else (s.lookAt a m).dmaWrite e eng n off (s.pocRead a m) (runMask (s.poisonRuns a m) m)
          if r.1 = 0x100 then s
          else if r.1 ≠ 0 then r.2.kill n.queue r.1 n.site
          else State.dmaPump { r.2 with fe.engines := r.2.fe.engines.mapVals (fun k x =>
            if k = e then { x with sent := off + m } else x) } e k

/-- Is a piece to go on: its engine has not been stopped, and its queue's work goes on (Tables 11.12 and 11.14)? -/
def State.pieceRuns (s : State) (eng : Engine) : Bool :=
  !eng.stopped && (match s.fe.nodes.get? eng.node with
    | some n => (s.q n.queue).state.completes
    | none => false)

/-- READ_DATA of a DMA engine's request (R363): the bytes go on to the destination, or stand in the engine while it cannot take them. -/
def State.dmaData (s : State) (e off : Nat) (data : List Byte) (mask : Nat) : State :=
  match s.fe.engines.get? e with
  | none => s
  | some eng =>
    match s.fe.nodes.get? eng.node with
    | none => s
    | some n =>
      if !s.pieceRuns eng then s
      else
        let s1 : State := { s with fe.engines := s.fe.engines.mapVals (fun k x => if k = e then { x with waiting := x.waiting ++ [(off, data, mask)] } else x) }
        (s1.dmaHeld e n (eng.waiting.length + 1)).dmaPump e pieceFuel

/-- ACK of a DMA engine's WRITE request of `len` bytes. -/
def State.dmaAck (s : State) (e len : Nat) : State :=
  State.dmaPump { s with fe.engines := s.fe.engines.mapVals (fun k x =>
    if k = e then { x with moved := x.moved + len } else x) } e pieceFuel

/-- Engines that work for a node. -/
def State.enginesOf (s : State) (node : Nat) : List (Nat × Engine) := s.fe.engines.filter (fun e => decide (e.2.node = node))

/-- The code of an address on another chip that cannot be reached (Table 11.6), 0 for none. -/
def State.unreachable (s : State) (f va : Nat) (a : Access) : Nat :=
  match s.translate f va a with
  | .ok 1 pa => if s.reaches (bits pa 59 48) then 0 else 0x0D
  | _ => 0

/-- The code of the first address of a range that lies on a chip which cannot be reached, page by page. -/
def State.rangeUnreachable (s : State) (f : Nat) (a : Access) : Nat → Nat → Nat → Nat
  | 0, _, _ => 0
  | k + 1, va, n =>
    if n = 0 then 0
    else
      let m := min n (2 ^ 16 - va % 2 ^ 16)
      if s.unreachable f va a ≠ 0 then s.unreachable f va a else State.rangeUnreachable s f a k (va + m) (n - m)

/-- Send the signal of a COPY node whose writes have been acknowledged (R260). -/
def State.copySignal (s : State) (node : Nat) (n : Node) : State :=
  match s.fe.copies.get? node with
  | none => s
  | some c =>
    if n.copySignal && (s.q n.queue).state.completes && !c.sent && c.flushed && c.pieces.all (fun p => decide (p = 2)) then
      let r := s.issueSync n.queue (n.get 0x30 4) 0 (n.get 0x38 8) (.node node)
      if r.1 = 0 then { r.2 with fe.copies := r.2.fe.copies.put node { c with sent := true } }
      else if r.1 = 0x100 then s else s.kill n.queue r.1 n.site
    else s

/-- NODE_COPY (R280, Table 11.6). A copy that runs and whose signal had to wait for a free request sends it. -/
def nodeCopy (node : Nat) (s : State) : State :=
  if s.fe.copies.has node then
    (match s.fe.nodes.get? node with
     | some n => if n.status = .running ∧ (s.q n.queue).state.completes then s.copySignal node n else s
     | none => s)
  else s.startNode node 2 (fun n =>
    let f := fnOfQueue n.queue
    let bytes := n.get 0x28 8
    let pages := bytes / 2 ^ 16 + 2
    let u := max (s.rangeUnreachable f .read pages (n.get 0x18 8) bytes) (s.rangeUnreachable f .write pages (n.get 0x20 8) bytes)
    if u ≠ 0 then s.kill n.queue u n.site
    else
      let c : Copy := { queue := n.queue, pieces := List.replicate (ceilDiv bytes pieceBytes) 0, flushed := true, sent := false, signalled := false }
      let s1 := s.dispatched node n
      State.copySignal { s1 with fe.copies := s1.fe.copies.put node c } node n)

/-- The first piece of a copy that waits. -/
def Copy.nextPiece (c : Copy) : Option Nat := (List.range c.pieces.length).find? (fun i => decide (c.pieces.getD i 2 = 0))

/-- Does an earlier COPY node of the queue still wait for an engine (R278)? One that has all eight of its engines waits for none. -/
def State.copyHeldBack (s : State) (node : Nat) (c : Copy) : Bool :=
  s.fe.copies.any (fun e => decide (e.1 < node) && decide (e.2.queue = c.queue) && e.2.nextPiece.isSome && decide ((s.enginesOf e.1).length < 8))

/-- DMA_PIECE_START (R280): an engine that is free takes the next piece, with at most eight engines on one node. A piece that reaches another chip
sends its requests. -/
def dmaPieceStart (node engine : Nat) (s : State) : State :=
  match s.fe.nodes.get? node, s.fe.copies.get? node with
  | some n, some c =>
    match c.nextPiece with
    | none => s
    | some i =>
      if 32 ≤ engine ∨ s.fe.engines.has engine ∨ 8 ≤ (s.enginesOf node).length ∨ n.status ≠ .running ∨ (s.q n.queue).state ≠ .running ∨
          !s.mayRun (fnOfQueue n.queue) ∨ s.copyHeldBack node c then s
      else
        let e : Engine := { node := node, piece := i, sent := 0, moved := 0, stopped := false, waiting := [], since := s.time.mono }
        let s1 := { s with fe.engines := s.fe.engines.put engine e
                           fe.copies := s.fe.copies.put node { c with pieces := c.pieces.set i 1 } }
        let p := n.piece i
        if s1.pieceRemote (fnOfQueue n.queue) pieceFuel p.1 p.2.1 p.2.2 then s1.dmaPump engine pieceFuel else s1
  | _, _ => s

/-- Does any page of a piece's destination lie in host memory? -/
def State.pieceToHost (s : State) (f : Nat) : Nat → Nat → Nat → Bool
  | 0, _, _ => false
  | k + 1, dst, n =>
    if n = 0 then false
    else
      let m := min n (2 ^ 16 - dst % 2 ^ 16)
      (match s.translate f dst .write with
       | .ok 2 _ => true
       | _ => false) || State.pieceToHost s f k (dst + m) (n - m)

/-- A piece is done: trace record, busy time, and the flush read or the signal of its node. -/
def State.pieceDone (s : State) (engine : Nat) (eng : Engine) (n : Node) : State :=
  let p := n.piece eng.piece
  let host := s.pieceToHost (fnOfQueue n.queue) pieceFuel p.2.1 p.2.2
  let s1 := { s with
    fe.engines := s.fe.engines.del engine
    fe.copies := s.fe.copies.mapVals (fun k c => if k = eng.node then
      { c with pieces := c.pieces.set eng.piece 2, flushed := c.flushed && !host } else c) }
  let s2 := (s1.trace 3 0x07 17 engine n.queue n.layer n.operator engine p.2.2).addQty n.queue 6 (s.time.mono - eng.since)
    n.layer n.operator
  s2.copySignal eng.node n

/-- DMA_PIECE_COMPLETE (R280). -/
def dmaPieceComplete (engine : Nat) (s : State) : State :=
  match s.fe.engines.get? engine with
  | none => s
  | some eng =>
    match s.fe.nodes.get? eng.node with
    | none => s
    | some n =>
      let p := n.piece eng.piece
      if !s.pieceRuns eng then s
      else if p.2.2 ≤ eng.moved then s.pieceDone engine eng n
      else if 0 < eng.sent then (s.dmaHeld engine n (eng.waiting.length + 1)).dmaPump engine pieceFuel
      else match s.moveLocal (fnOfQueue n.queue) n.copyAlloc pieceFuel p.1 p.2.1 p.2.2 with
        | .ok t => t.pieceDone engine eng n
        | .bad c t => t.kill n.queue c n.site
        | .remote => s.dmaPump engine pieceFuel
        | .wait => s

/-- DMA_FLUSH_READ_COMPLETE (R260): the zero-length read after the last write to host memory has returned. -/
def dmaFlushReadComplete (node : Nat) (s : State) : State :=
  match s.fe.nodes.get? node, s.fe.copies.get? node with
  | some n, some c =>
    if c.flushed || !c.pieces.all (fun p => decide (p = 2)) || !s.hostLink (fnOfQueue n.queue) then s
    else State.copySignal { s with fe.copies := s.fe.copies.put node { c with flushed := true } } node n
  | _, _ => s

/-! The meanings. -/

/-- NODE_COPY (R280). -/
def execNodeCopy (node : Nat) (s : State) : Host.Outcome State Fault Refusal :=
  .next (nodeCopy node s)
/-- DMA_PIECE_START (R280). -/
def execDmaPieceStart (node : Nat) (engine : Nat) (s : State) : Host.Outcome State Fault Refusal :=
  .next (s.unit 1 engine (dmaPieceStart node engine))
/-- DMA_PIECE_COMPLETE (R280). -/
def execDmaPieceComplete (engine : Nat) (s : State) : Host.Outcome State Fault Refusal :=
  .next (s.unit 1 engine (dmaPieceComplete engine))
/-- DMA_FLUSH_READ_COMPLETE (R260). -/
def execDmaFlushReadComplete (node : Nat) (s : State) : Host.Outcome State Fault Refusal :=
  .next (dmaFlushReadComplete node s)

end Sys2Proof.Machine
end

