-- ==== Sys2Proof/Machine/Router.lean ====
section
/-! DEFINITION. Machine/Router.lean: the router's side of requests from other chips (R352 to R356, R362): bindings, refusals, the window of sequence numbers and the stored
responses. -/

namespace Sys2Proof.Machine

/-- A FAB_ERR_LOG record (Table 14.12). -/
def fabRec (type link chip fn status group : Nat) : Nat :=
  2 ^ 63 + type * 2 ^ 59 + link % 32 * 2 ^ 54 + chip % 4096 * 2 ^ 42 + fn % 256 * 2 ^ 34 + status % 256 * 2 ^ 26 + group % 1024 * 2 ^ 16

/-- Discard or refuse a packet: FAB_STATUS.request_refused and a type 5 record (R353, R356). -/
def State.logRefused (s : State) (p : Packet) (status : Nat) : State := (s.raiseFab 4).pushFab (fabRec 5 0 p.src p.srcFn status 0)

/-- Codes of Table 14.3. -/
def packetTypes : List Nat := [1, 2, 3, 4, 5, 6, 0x11, 0x12, 0x13, 0x14, 0x15, 0x16, 0x20]

/-- Take a packet of a type that is addressed to this chip; one with a reserved code is discarded and logged (Table 14.3). -/
def State.typed (s : State) (p : Packet) (type : Nat) (go : State) : State :=
  if p.type = type then (if p.dst = s.fab.chipId then go else s)
  else if packetTypes.contains p.type then s
  else s.logRefused p 7

/-- Send a response to a request and keep it for a repeated one (R362). -/
def State.answerTo (s : State) (p : Packet) (type op addr : Nat) (data : List Byte) (poison : Nat) : State :=
  s.respond type p.src p.seq op addr data poison

/-- Answer with an ACK of a status. -/
def State.ackTo (s : State) (p : Packet) (status : Nat) : State := s.answerTo p 0x12 status 0 [] 0

/-- Refuse a request (R356). -/
def State.refuse (s : State) (p : Packet) (status code : Nat) : State := (s.logRefused p status).ackTo p code

/-- Key of a request in the window. -/
def windowKey (src seq : Nat) : Nat := src * 2 ^ 32 + seq % 2 ^ 32

/-- Put a sequence number into the window of its source, which keeps the last 65,536 (R362). -/
def State.enterWindow (s : State) (src seq : Nat) : State :=
  let keep (k : Nat) : Bool :=
    let d := (seq + 2 ^ 32 - k % 2 ^ 32) % 2 ^ 32
    !decide (k / 2 ^ 32 = src) || decide (d < 65536) || decide (2 ^ 31 ≤ d)
  { s with fab.window := setInsert (windowKey src seq) (s.fab.window.filter keep) }

/-- How long a response is kept, in ns (R362). -/
def storedFor : Nat := 100000

/-- Receive a request once: one that repeats a number in the window is answered with the stored response and not performed again (R362). -/
def State.receive (s : State) (p : Packet) (go : State → State) : State :=
  let k := windowKey p.src p.seq
  if s.fab.window.contains k then
    (match s.fab.stored.get? k with
     | some r => if s.time.mono - r.since ≤ storedFor then { s with fab.answers := s.fab.answers ++ [r.resp] } else s
     | none => s)
  else go (s.enterWindow p.src p.seq)

/-! Bindings (R355, Table 14.4). -/

/-- Chip ids of slice_members (R27). -/
def State.sliceChips (s : State) : List Nat :=
  let b := s.blob E.sliceMembers
  (List.range ((b.length - 4) / 2)).map (fun i => fieldAt b (4 + 2 * i) 2)

/-- The local function of the first valid binding that holds a key and admits a kind: 1 reads, 2 writes, 3 atomics, 4 sync operations, 5 collectives. -/
def State.boundFn (s : State) (key kind : Nat) : Option Nat :=
  match (List.range 256).find? (fun n =>
      let b := s.blob (E.fabBind + n)
      decide (b.length = 16) && bit (fieldAt b 3 1) 0 && bit (fieldAt b 3 1) kind && decide (fieldAt b 0 2 = key)) with
  | some n => some (fieldAt (s.blob (E.fabBind + n)) 2 1)
  | none => none

/-- How a check of a request ends: the local function, or the status of Table 14.12 and the kill code. -/
inductive Admit
  | ok (fn : Nat)
  | no (status code : Nat)
deriving DecidableEq, Repr

/-- Is a request admitted (R355)? -/
def State.admitPkt (s : State) (p : Packet) (kind : Nat) : Admit :=
  if p.key = 0 ∨ !(s.sliceChips.contains p.src || s.tiedChip p.src) then .no 1 0x02
  else match s.boundFn p.key kind with
    | none => .no 1 0x02
    | some f => if (s.fn f).gate = .opened ∨ (s.fn f).gate = .draining then .ok f else .no 5 0x02

/-- Where a request's bytes lie: a device address, or the status and the kill code. -/
inductive Reach
  | at (pa : Nat)
  | no (status code : Nat)
deriving DecidableEq, Repr

/-- Does a range lie in slabs of a partition? -/
def State.inPartition (s : State) (part pa n : Nat) : Bool :=
  decide (pa + n ≤ memSize) && decide (s.slabOwner (pa / 2 ^ 31) = some part) &&
    (decide (n = 0) || decide (s.slabOwner ((pa + n - 1) / 2 ^ 31) = some part))

/-- The address of a request (R355): local physical inside the partition, or walked in the local function's tables. A range that bit 63 marks virtual lies in one
page. -/
def State.reach (s : State) (f addr n : Nat) (a : Access) : Reach :=
  if !bit addr 63 then
    (if s.inPartition (s.fnPart f) (addr % 2 ^ 48) n then .at (addr % 2 ^ 48) else .no 2 0x02)
  else match s.translate f (addr % 2 ^ 57) a with
    | .bad 2 => .no 4 0x02
    | .bad c => .no 3 c
    | .ok t pa => if t ≠ 0 then .no 4 0x02 else .at pa

/-- Runs of the poisoned granules of a range at its point of coherence, as a mask of the packet's granules. -/
def State.packetPoison (s : State) (pa n : Nat) : Nat :=
  ofBitList ((List.range (ceilDiv n 16)).filter (fun i => s.pocPoison (pa + 16 * i) (min 16 (n - 16 * i))))

/-- A packet's data with every poisoned granule as zeros (R353). -/
def blankPoison (data : List Byte) (mask : Nat) : List Byte :=
  (List.range data.length).map (fun i => if bit mask (i / 16) then 0#8 else data.getD i 0#8)

end Sys2Proof.Machine
end

