-- ==== Sys2Proof/Machine/Collect.lean ====
section
/-! DEFINITION. Machine/Collect.lean: collectives (R365 to R369): the groups, the rank tree, COLLECT nodes, contributions, results and aborts. The layout of the packets is the
model's (log entry 29). -/

namespace Sys2Proof.Machine

/-! Groups (R365, Table 14.6). -/

/-- Entry of a group; empty when it is not configured. -/
def State.groupEntry (s : State) (g : Nat) : List Byte := if g < 1024 then s.blob (E.fabCgroup + g) else []
/-- n of a group. -/
def grpMembers (e : List Byte) : Nat := fieldAt e 2 2
/-- This chip's rank. -/
def grpRank (e : List Byte) : Nat := fieldAt e 4 2
/-- Chip of a rank. -/
def grpChip (e : List Byte) (r : Nat) : Nat := fieldAt e (8 + 2 * r) 2
/-- Chips of the other members. -/
def grpOthers (e : List Byte) : List Nat :=
  ((List.range (grpMembers e)).filter (fun r => !decide (r = grpRank e))).map (grpChip e)

/-- cgroup_state of a group: 0 not configured, 1 ready, 2 aborted, 3 a member is unreachable, or the chip does not stand at its rank. -/
def State.groupState (s : State) (g : Nat) : Nat :=
  let e := s.groupEntry g
  if e.isEmpty then 0
  else if s.num (E.cgroupState + g) = 2 then 2
  else if grpRank e < grpMembers e ∧ grpChip e (grpRank e) = s.fab.chipId ∧ (grpOthers e).all s.reaches then 1 else 3

/-! The tree (R368). -/

/-- Level at which a rank other than 0 sends to its parent. -/
def rankLevel (r : Nat) : Nat := ((List.range 12).find? (fun l => decide (r % 2 ^ (l + 1) = 2 ^ l))).getD 12
/-- The rank that a rank other than 0 sends to. -/
def rankParent (r : Nat) : Nat := r - 2 ^ rankLevel r
/-- The ranks that send to a rank, in the order in which they are combined. -/
def rankKids (r n : Nat) : List Nat :=
  ((List.range 12).filter (fun l => decide (r % 2 ^ (l + 1) = 0) && decide (r + 2 ^ l < n))).map (fun l => r + 2 ^ l)
/-- Ranks that the contribution of a rank other than 0 stands for. -/
def rankSpan (r n : Nat) : Nat := min (2 ^ rankLevel r) (n - r)

/-- Elements of a contribution. -/
def CollHead.partLen (h : CollHead) (root r n : Nat) : Nat :=
  if h.kind < 2 then h.count
  else if h.kind = 2 then h.count * rankSpan r n
  else if r ≤ root ∧ root < r + rankSpan r n then h.count else 0

/-- Elements of the result (Table 14.7). -/
def CollHead.resultLen (h : CollHead) (n : Nat) : Nat := if h.kind = 2 then h.count * n else h.count

/-- The mark of a poisoned element. -/
def poisonElem : Nat := 2 ^ 32

/-- One combine of a reduction (R368); a poisoned element stays poisoned (R48). -/
def CollHead.combine1 (h : CollHead) (a b : Nat) : Nat :=
  if poisonElem ≤ a ∨ poisonElem ≤ b then poisonElem
  else if h.fmt = 0x0B then
    (match h.op with
     | 0 => (a + b) % 2 ^ 32
     | 1 => if signExt 32 a < signExt 32 b then b else a
     | _ => if signExt 32 b < signExt 32 a then b else a)
  else
    (match h.op with
     | 0 => Fmt.fp32.add .rne false a b
     | 1 => Fmt.fp32.minmax true a b
     | _ => Fmt.fp32.minmax false a b)

/-- Combine two contributions, lower ranks first. -/
def CollHead.combine (h : CollHead) (a b : List Nat) : List Nat := if h.kind < 2 then List.zipWith h.combine1 a b else a ++ b

/-! Elements in memory. -/

/-- Bytes of an element. -/
def CollHead.width (h : CollHead) : Nat := if h.fmt = 0x02 then 2 else 4

/-- Elements of bytes with their poison; a reduction widens BF16 exactly (R368). -/
def CollHead.elements (h : CollHead) (l : List (Byte × Bool)) : List Nat :=
  (List.range (l.length / h.width)).map (fun i =>
    let c := (l.drop (h.width * i)).take h.width
    if c.any Prod.snd then poisonElem
    else ofLe (c.map Prod.fst) * (if h.fmt = 0x02 ∧ h.kind < 2 then 2 ^ 16 else 1))

/-- Bytes of elements as they are written: a BF16 reduction rounds once (R368). -/
def CollHead.bytesOf (h : CollHead) (l : List Nat) : List Byte :=
  l.flatMap (fun x =>
    let y := x % 2 ^ 32
    leBytes h.width (if h.fmt = 0x02 ∧ h.kind < 2 then Fmt.bf16.encode .rne false (Fmt.fp32.decode y) else y))

/-- Runs of the poisoned elements. -/
def CollHead.badRuns (h : CollHead) (l : List Nat) : List (Nat × Nat) :=
  ((List.range l.length).filter (fun i => decide (poisonElem ≤ l.getD i 0))).map (fun i => (h.width * i, h.width))

/-- How a read of a contribution ends. -/
inductive CollGot
  | ok (l : List (Byte × Bool)) (s : State)
  | bad (code : Nat)
  | wait

/-- Read the source of a contribution page by page. -/
def State.collRead (s : State) (f : Nat) : Nat → Nat → Nat → CollGot
  | 0, _, _ => .ok [] s
  | k + 1, va, n =>
    if n = 0 then .ok [] s
    else
      let m := min n (2 ^ 16 - va % 2 ^ 16)
      match s.translate f va .read with
      | .bad c => .bad c
      | .ok t a =>
        if t = 1 then .bad 0x02
        else if t = 2 ∧ !s.hostOpen f a false then .wait
        else
          let r := if t = 2 then s.hostRead a m else (s.pocRead a m, s.lookAt a m)
          let bad (i : Nat) : Bool := if t = 2 then false else s.pocGranulePoison ((a + i) / 16)
          match State.collRead r.2 f k (va + m) (n - m) with
          | .ok l t => .ok ((r.1.zip ((List.range m).map bad)) ++ l) t
          | e => e

/-- How a write of a result ends. -/
inductive CollPut
  | ok (s : State)
  | bad (code : Nat) (s : State)
  | wait

/-- Write a result page by page. -/
def State.collWrite (s : State) (f : Nat) : Nat → Nat → List Byte → List (Nat × Nat) → CollPut
  | 0, _, _, _ => .ok s
  | k + 1, va, data, runs =>
    match data with
    | [] => .ok s
    | _ =>
      let m := min data.length (2 ^ 16 - va % 2 ^ 16)
      match s.translate f va .write with
      | .bad c => .bad c s
      | .ok t a =>
        if t = 1 then .bad 0x02 s
        else if t = 2 ∧ !s.hostOpen f a true then .wait
        else
          State.collWrite (s.moveTo t a (data.take m) (runs.filter (fun r => decide (r.1 < m))) false) f k (va + m) (data.drop m)
            ((runs.filter (fun r => decide (m ≤ r.1))).map (fun r => (r.1 - m, r.2)))

/-! Packets (log entry 29). -/

/-- The 16 bytes that begin a contribution. -/
def CollHead.bytes (h : CollHead) : List Byte := leBytes 1 h.kind ++ leBytes 1 h.op ++ leBytes 1 h.fmt ++ zeroBytes 5 ++ leBytes 8 h.count

/-- What the first packet of a contribution carries. -/
def headOf (l : List Byte) : CollHead := { kind := fieldAt l 0 1, op := fieldAt l 1 1, fmt := fieldAt l 2 1, count := fieldAt l 8 8 }

/-- Elements of packet i of a contribution: 124 after the head, then 128 at a time. -/
def partSlice (l : List Nat) (i : Nat) : List Nat := if i = 0 then l.take 124 else (l.drop (124 + 128 * (i - 1))).take 128

/-- Packets of a contribution. -/
def partPackets (n : Nat) : Nat := 1 + ceilDiv (n - 124) 128

/-- Data of elements in whole granules. -/
def elemData (l : List Nat) : List Byte :=
  let b := l.flatMap (fun x => if poisonElem ≤ x then zeroBytes 4 else leBytes 4 x)
  b ++ zeroBytes (ceilDiv b.length 16 * 16 - b.length)

/-- Poisoned granules of elements, the first element in granule `g0`. -/
def elemPoison (l : List Nat) (g0 : Nat) : Nat :=
  ofBitList (((List.range (ceilDiv l.length 4)).filter (fun i => ((l.drop (4 * i)).take 4).any (fun x => decide (poisonElem ≤ x)))).map (g0 + ·))

/-- Elements of a packet's data from byte `off`, with its poison. -/
def dataElems (p : Packet) (off n : Nat) : List Nat :=
  (List.range (min n ((p.data.length - off) / 4))).map (fun i =>
    if bit p.poison ((off + 4 * i) / 16) then poisonElem else fieldAt p.data (off + 4 * i) 4)

/-- A response-class packet to a member. -/
def State.collSend (s : State) (dst op addr : Nat) (data : List Byte) (poison : Nat) (key : Nat) : State :=
  let r := s.routeOf dst addr 0
  let s := s.countSent r.1 r.2 data.length 0xFFFF
  { s with fab.answers := s.fab.answers ++ [{ type := 0x16, src := s.fab.chipId, dst := dst, seq := 0, key := key, srcFn := 0, op := op
                                              addr := addr, data := data, poison := poison }] }

/-! Progress. -/

/-- Change a collective operation. -/
def State.putColl (s : State) (g : Nat) (c : Coll) : State := { s with fab.colls := s.fab.colls.put g c }

/-- An operation with nothing in it yet. -/
def Coll.empty : Coll :=
  { node := none, head := { kind := 0, op := 0, fmt := 0, count := 0 }, root := 0, own := [], parts := [], heads := [], up := none, sent := 0, result := [] }

/-- End the operation of a group: it is counted, FAB_STATUS.collect_abort is set and a type 6 record logged where it failed, and the group goes to state 2 after an abort
(R366, R369). -/
def State.collEnd (s : State) (g code : Nat) (abort : Bool) : State :=
  let s1 := { s with fab.colls := s.fab.colls.del g, fab.collOps := s.fab.collOps.put g (s.fab.collOps.getD g 0 + 1) }
  if code = 0 then s1
  else
    let s2 := (s1.raiseFab 5).pushFab (fabRec 6 0 0 0 0 g)
    if abort then s2.setNum (E.cgroupState + g) 2 else s2

/-- End this chip's part of an operation with a kill code. -/
def State.collKill (s : State) (g code : Nat) (abort : Bool) : State :=
  match s.fab.colls.get? g with
  | none => s
  | some c =>
    let s1 := s.collEnd g code abort
    match c.node with
    | some e => s1.killAt e.2 code e.1
    | none => s1

/-- Send an abort to every other member: op is 0x80 plus the kill code. -/
def State.collTell (s : State) (g code : Nat) : State :=
  let e := s.groupEntry g
  (grpOthers e).foldl (fun s dst => s.collSend dst (0x80 + code) g [] 0 (fieldAt e 0 2)) s

/-- Send the packets of a contribution while requests are free (R364). -/
def State.collPump (s : State) (g : Nat) : Nat → State
  | 0 => s
  | k + 1 =>
    match s.fab.colls.get? g with
    | none => s
    | some c =>
      match c.up, c.node with
      | some l, some (id, q) =>
        if partPackets l.length ≤ c.sent then s
        else
          let e := s.groupEntry g
          let piece := partSlice l c.sent
          let data := (if c.sent = 0 then c.head.bytes else []) ++ elemData piece
          let r := s.sendKeyed (fieldAt e 0 2) (fnOfQueue q) q 0x06 (grpChip e (rankParent (grpRank e))) 0 (512 * c.sent) data
            (elemPoison piece (if c.sent = 0 then 1 else 0)) (.coll g)
          if r.1 = 0x100 then s
          else if r.1 ≠ 0 then r.2.killAt q r.1 id
          else State.collPump (r.2.putColl g { c with sent := c.sent + 1 }) g k
      | _, _ => s

/-- Fuel of `collPump`. -/
def collFuel : Nat := 16385

/-- Elements of packets in order. -/
def joinParts (m : SMap (List Nat)) : List Nat := m.vals.flatMap id

/-- Packets received from a rank. -/
def Coll.packetsOf (c : Coll) (r : Nat) : SMap (List Nat) := c.parts.filter (fun e => decide (e.1 / 2 ^ 32 = r))

/-- Elements received from a rank, without the padding of its last granule. -/
def Coll.partOf (c : Coll) (r n : Nat) : List Nat := (joinParts (c.packetsOf r)).take (c.head.partLen c.root r n)

/-- Is the contribution of a rank complete? -/
def Coll.partDone (c : Coll) (r n : Nat) : Bool :=
  c.heads.has r && decide ((c.packetsOf r).length = partPackets (c.head.partLen c.root r n))

/-- The elements of a result that this chip's destination takes (Table 14.7). -/
def Coll.mine (c : Coll) (rank n : Nat) (l : List Nat) : List Nat :=
  if c.head.kind = 1 then (l.drop (rank * (c.head.count / n))).take (c.head.count / n) else l

/-- Pass a complete result down the tree, write this chip's part and complete the node (R368). It waits where the destination is host memory that may not be reached
now. -/
def State.collFinish (s : State) (g : Nat) (c : Coll) : State :=
  match c.node with
  | none => s
  | some (id, q) =>
    match s.fe.nodes.get? id with
    | none => s
    | some n =>
      let e := s.groupEntry g
      let l := joinParts c.result
      let mine := c.mine (grpRank e) (grpMembers e) l
      match s.collWrite (fnOfQueue q) (4 * mine.length / 2 ^ 16 + 2) (n.get 0x20 8) (c.head.bytesOf mine) (c.head.badRuns mine) with
      | .wait => s
      | .bad code t => t.kill q code n.site
      | .ok t =>
        let t1 := (rankKids (grpRank e) (grpMembers e)).foldl (fun s kid =>
          (List.range (max 1 (ceilDiv l.length 128))).foldl (fun s i =>
            let piece := (l.drop (128 * i)).take 128
            s.collSend (grpChip e kid) 0 (512 * i) (elemData piece) (elemPoison piece 0) (fieldAt e 0 2)) s) t
        (t1.collEnd g 0 false).nodeDone id

/-- Go on with an operation that this chip has joined: once every contribution below it is there, combine and send, or at rank 0 finish. Contributions that differ in
kind, op, format or count end it everywhere (R366). -/
def State.collAdvance (s : State) (g : Nat) : State :=
  match s.fab.colls.get? g with
  | none => s
  | some c =>
    let e := s.groupEntry g
    let rank := grpRank e
    let n := grpMembers e
    let kids := rankKids rank n
    if c.node.isNone ∨ c.up.isSome then s
    else if c.heads.any (fun h => !decide (h.2 = c.head)) then (s.collTell g 0x04).collKill g 0x04 false
    else if !kids.all (fun r => c.partDone r n) then s
    else
      let l := kids.foldl (fun a r => c.head.combine a (c.partOf r n)) c.own
      let c1 := { c with up := some l }
      if rank = 0 then
        let c2 := { c1 with result := [(0, l)] }
        (s.putColl g c2).collFinish g c2
      else (s.putColl g c1).collPump g collFuel

/-- Is the result of an operation complete? -/
def State.collComplete (s : State) (g : Nat) (c : Coll) : Bool :=
  c.up.isSome && !c.result.isEmpty && decide ((joinParts c.result).length = c.head.resultLen (grpMembers (s.groupEntry g)))

/-- The operation that a COLLECT node asks for. -/
def Node.collHead (n : Node) : CollHead := { kind := n.get 0x2C 1, op := n.get 0x2D 1, fmt := n.get 0x2E 1, count := n.get 0x28 4 }

/-- Join a group's operation (R366, R367). A count that is no multiple of n, or a root outside the group, ends the context with 0x04 (log entry 29). -/
def State.collJoin (s : State) (node : Nat) (n : Node) : State :=
  let g := n.get 0x30 2
  let e := s.groupEntry g
  let h := n.collHead
  let root := n.get 0x2F 1
  let m := grpMembers e
  let c := s.fab.colls.getD g Coll.empty
  if e.isEmpty then s.kill n.queue 0x04 n.site
  else if s.groupState g ≠ 1 then s.kill n.queue 0x0D n.site
  else if (h.kind < 2 ∧ h.count % m ≠ 0) ∨ (h.kind = 3 ∧ m ≤ root) then s.kill n.queue 0x04 n.site
  else if c.node.isSome then s
  else
    let bytes := if h.kind = 3 ∧ root ≠ grpRank e then 0 else h.count * h.width
    match s.collRead (fnOfQueue n.queue) (bytes / 2 ^ 16 + 2) (n.get 0x18 8) bytes with
    | .bad code => s.kill n.queue code n.site
    | .wait => s
    | .ok l t =>
      ((t.dispatched node n).putColl g { c with node := some (node, n.queue), head := h, root := root, own := h.elements l }).collAdvance g

/-- NODE_COLLECT (R365, R366). A node that runs and whose result is complete writes it. -/
def nodeCollect (node : Nat) (s : State) : State :=
  match s.fe.nodes.get? node with
  | none => s
  | some n =>
    match s.fab.colls.get? (n.get 0x30 2) with
    | some c =>
      if c.node = some (node, n.queue) then
        (if s.collComplete (n.get 0x30 2) c && (s.q n.queue).state.completes then s.collFinish (n.get 0x30 2) c
         else s.collPump (n.get 0x30 2) collFuel)
      else s.startNode node 6 (fun n => s.collJoin node n)
    | none => s.startNode node 6 (fun n => s.collJoin node n)

/-- COLLECT_DATA (R355, R366, R368): a contribution from below in the tree. -/
def collectData (pkt : Packet) (group rank : Nat) (s : State) : State :=
  s.typed pkt 0x06 (s.receive pkt (fun s =>
    let e := s.groupEntry group
    match s.admitPkt pkt 5 with
    | .no st code => s.refuse pkt st code
    | .ok _ =>
      if e.isEmpty ∨ fieldAt e 0 2 ≠ pkt.key ∨ !(rankKids (grpRank e) (grpMembers e)).contains rank ∨ grpChip e rank ≠ pkt.src then
        s.refuse pkt 4 0x02
      else if s.groupState group = 2 then s.ackTo pkt 0
      else
        let c := s.fab.colls.getD group Coll.empty
        let i := pkt.addr / 512
        let h := headOf pkt.data
        let heads := if i = 0 then c.heads.put rank h else c.heads
        let elems := if i = 0 then dataElems pkt 16 124 else dataElems pkt 0 128
        let c1 := { c with heads := heads, parts := c.parts.put (rank * 2 ^ 32 + i) elems }
        ((s.putColl group c1).ackTo pkt 0).collAdvance group))

/-- COLLECT_RESULT (R368): the result from above in the tree. -/
def collectResult (pkt : Packet) (group : Nat) (s : State) : State :=
  s.typed pkt 0x16 (
    let e := s.groupEntry group
    match s.fab.colls.get? group with
    | none => s
    | some c =>
      if pkt.op ≠ 0 ∨ grpRank e = 0 ∨ grpChip e (rankParent (grpRank e)) ≠ pkt.src ∨ c.up.isNone then s
      else
        let i := pkt.addr / 512
        let len := c.head.resultLen (grpMembers e)
        let c1 := { c with result := c.result.put i ((dataElems pkt 0 128).take (len - 128 * i)) }
        let s1 := s.putColl group c1
        if s1.collComplete group c1 then s1.collFinish group c1 else s1)

/-- COLLECT_ABORT (R366, R369): the member's node ends and its context is killed with the code that the abort carries. A member that has not joined yet meets the failure when it
does. -/
def collectAbort (pkt : Packet) (group : Nat) (s : State) : State :=
  s.typed pkt 0x16 (
    let code := pkt.op - 0x80
    if pkt.op < 0x80 ∨ !(grpOthers (s.groupEntry group)).contains pkt.src then s
    else
      let c := s.fab.colls.getD group Coll.empty
      if c.node.isSome then s.collKill group code (decide (code = 0x09))
      else if code = 0x09 then ((s.raiseFab 5).pushFab (fabRec 6 0 0 0 0 group)).setNum (E.cgroupState + group) 2
      else s.putColl group { c with heads := c.heads.put 65535 { kind := 255, op := 255, fmt := 255, count := 0 } })

/-- A queue's collectives are abandoned (R369): the other members are told, and the groups are aborted. -/
def State.abandonColls (s : State) (q : Nat) : State :=
  (s.fab.colls.filter (fun e => match e.2.node with
    | some x => decide (x.2 = q)
    | none => false)).foldl (fun s e => (s.collTell e.1 0x09).collEnd e.1 0x09 true) s

/-! The meanings. -/

/-- NODE_COLLECT (R366). -/
def execNodeCollect (node : Nat) (s : State) : Host.Outcome State Fault Refusal :=
  .next (s.unit 5 node (nodeCollect node))
/-- COLLECT_DATA (R368). -/
def execCollectData (pkt : Packet) (group : Nat) (rank : Nat) (s : State) : Host.Outcome State Fault Refusal :=
  .next (s.outside (.collData pkt group rank) (collectData pkt group rank))
/-- COLLECT_RESULT (R368). -/
def execCollectResult (pkt : Packet) (group : Nat) (s : State) : Host.Outcome State Fault Refusal :=
  .next (s.outside (.collResult pkt group) (collectResult pkt group))
/-- COLLECT_ABORT (R369). -/
def execCollectAbort (pkt : Packet) (group : Nat) (s : State) : Host.Outcome State Fault Refusal :=
  .next (collectAbort pkt group s)

end Sys2Proof.Machine
end

