-- ==== Sys2Proof/Machine/Mailbox.lean ====
section
/-! DEFINITION. Machine/Mailbox.lean: the buffer of a function's mailbox and the placing of a response in it (R419, R424). -/

namespace Sys2Proof.Machine

/-- Bytes of a mailbox's buffer. -/
def Mailbox.bytes (m : Mailbox) (n : Nat) : List Byte := (List.range n).map (fun i => m.buf.getD i 0#8)

/-- Put bytes at the start of a mailbox's buffer. -/
def Mailbox.fill (m : Mailbox) (l : List Byte) : Mailbox :=
  { m with buf := (l.mapIdx (fun i b => (i, b))).foldl (fun a e => a.put e.1 e.2) m.buf }

/-- A response frame: the request's header with the status and the length of the body set, and the body (R419). -/
def responseBytes (header : List Byte) (status : Nat) (body : List Byte) : List Byte :=
  overlay (overlay (header.take 16) 3 (leBytes 1 status)) 10 (leBytes 2 body.length) ++ body

/-- Place a response in a function's buffer: busy clears, done sets, and the vector is signalled where irq_enable asks for it (R424). -/
def State.mbRespond (s : State) (f status : Nat) (body : List Byte) : State :=
  let m := s.mbox f
  let l := responseBytes (m.bytes 16) status body
  let s1 := s.modMbox f (fun m => { m.fill l with rspLen := l.length, busy := false, done := true, status := status, delayed := false })
  if m.irqEnable then s1.signal f m.vector else s1

end Sys2Proof.Machine
end

