-- ==== Sys2Proof/Machine/Obs.lean ====
section
/-! DEFINITION. Machine/Obs.lean: the counter banks, the flushes of the layer table, and the trace buffers (chapter 19, R436 to R449). -/

namespace Sys2Proof.Machine

/-! Counter banks (R436, R438). -/

/-- Is a BAR0 offset that of a CNT_VALUE register (Table 19.1)? -/
def isCntValue (off : Nat) : Bool :=
  decide (off % 8 = 0) &&
    ((decide (0x48000 ≤ off ∧ off < 0x54800) && decide (off % 0x80 < 0x40)) || (decide (0x55000 ≤ off ∧ off < 0x5F800) && decide (off % 0x40 < 0x20)))

/-- Is a BAR0 offset that of a CNT_SEL register? -/
def isCntSel (off : Nat) : Bool :=
  decide (off % 4 = 0) &&
    ((decide (0x48000 ≤ off ∧ off < 0x54800) && decide (0x40 ≤ off % 0x80 ∧ off % 0x80 < 0x60)) ||
      (decide (0x55000 ≤ off ∧ off < 0x5F800) && decide (0x20 ≤ off % 0x40 ∧ off % 0x40 < 0x30)))

/-- CNT_VALUE_WRITE (R438): the count is set. -/
def cntValueWrite (off value : Nat) (s : State) : State :=
  if isCntValue off then { s with obs.values := s.obs.values.put off (value % 2 ^ 48) } else s

/-- CNT_FREEZE (R438): while it is set, no bank counts. -/
def cntFreeze (freeze : Bool) (s : State) : State := { s with obs.freeze := freeze }

/-- CNT_CLEAR_ALL (Table 19.5). -/
def cntClearAll (s : State) : State := { s with obs.values := [] }

/-! The layer table (R440 to R443). -/

/-- A flush of a function begins: its accumulators join the ones being flushed. -/
def State.startFlush (s : State) (f : Nat) : State :=
  s.modCntFn f (fun c => { c with flushing := true, inFlush := c.inFlush ++ c.accums, accums := [], lastFlush := s.time.mono })

/-- LAYER_FLUSH_REQUEST: CNT_FN_CTRL.flush. -/
def layerFlushRequest (fn : Nat) (s : State) : State := if s.fnExists fn then s.startFlush fn else s

/-- LAYER_FLUSH_TIMER: cnt_flush_us has passed since the last flush. -/
def layerFlushTimer (fn : Nat) (s : State) : State :=
  if s.num E.cntLayerBase fn = 0 ∨ s.time.mono < (s.cntFn fn).lastFlush + s.num E.cntFlushUs fn * 1000 then s else s.startFlush fn

/-- CNT_LAYER_BASE_WRITE (R442): the write flushes into the old table first, and is answered when that flush has completed. With no table there is nothing to flush. One that meets another
still waiting is answered busy. -/
def cntLayerBaseWrite (who : Origin) (fn value : Nat) (s : State) : State :=
  let st := s.fnCheck who fn E.cntLayerBase
  if st ≠ 0 then s.answer st
  else if value % 4096 ≠ 0 ∨ 2 ^ 57 ≤ value then s.answer 4
  else if (s.cntFn fn).baseAfter.isSome then s.answer 7
  else if s.num E.cntLayerBase fn = 0 then s.dictNum who E.cntLayerBase fn value
  else
    let s1 := (s.startFlush fn).modCntFn fn (fun c => { c with baseAfter := some (who, value) })
    if who.iface = 3 ∧ (s1.mbox who.fn).busy then s1.modMbox who.fn (fun m => { m with delayed := true }) else s1

/-- LAYER_FLUSH_COMPLETE (R441 to R443): the flush's atomics are performed, flush_seq increments, and a write of cnt_layer_base that waited takes effect and is answered. -/
def layerFlushComplete (fn : Nat) (s : State) : State :=
  let c := s.cntFn fn
  if !c.flushing then s
  else
    let s1 := s.flushAccums fn (s.num E.cntLayerBase fn) (s.num E.cntLayerEntries fn) c.inFlush
    let s2 := s1.modCntFn fn (fun c => { c with flushing := false, inFlush := [], flushSeq := (c.flushSeq + 1) % 65536, baseAfter := none, baseReply := none })
    match c.baseAfter with
    | none => s2
    | some (who, v) =>
      let s3 := s2.dictNum who E.cntLayerBase fn v
      if who.iface = 3 ∧ (s3.mbox who.fn).delayed then s3.mbRespond who.fn 0 []
      else match c.baseReply with
        | none => s3
        | some r => { s3 with mgt.lastFrame := some r }

/-! Trace records (R444 to R446). -/

/-- Domain of a source (Table 19.11): the front end and the sync unit D17, a core's plain, a base die, the DMA engines D17, the router D18, power D23 (log entry 14). -/
def sourceDomain (source : Nat) : Nat :=
  match source / 65536 with
  | 1 => source % 65536 / 24
  | 2 => 32 + source % 65536 / 32
  | 5 => 18
  | 6 => 23
  | _ => 17

/-- TRACE_RECORD_EMIT (R444 to R446): a source emits a record of a kind that is neither reserved nor a gap; its time is the source domain's, and its flags are set as R445 says. -/
def traceRecordEmit (source : Nat) (rec : TrcRec) (s : State) : State :=
  if rec.kind = 0 ∨ 0x0E ≤ rec.kind ∨ 7 ≤ source / 65536 then s
  else
    let d := sourceDomain source
    s.emitRec source { rec with time := s.domainTime d, domain := d, flags := 0 }

/-- Does a buffer still receive what a source has to write: it runs, or it stops and drains? -/
def TrcState.drains : TrcState → Bool
  | .running | .post | .stopping => true
  | .disabled | .stopped | .fault => false

/-- TRACE_GAP_RECORD (R446): a staging slot is free. -/
def traceGapRecord (buf source : Nat) (s : State) : State :=
  let t := s.trc buf
  if !t.state.drains ∨ !t.dropped.has source ∨ 64 ≤ stagedCount (t.staged.getD source []) then s
  else s.modTrc buf (fun t => t.gap source (sourceDomain source) (source % 65536))

/-- The 32 bytes of a record (Table 19.11). -/
def trcBytes (r : TrcRec) : List Byte :=
  leBytes 8 r.time ++ leBytes 1 r.kind ++ leBytes 1 r.domain ++ leBytes 2 r.unit ++ leBytes 2 r.queue ++ leBytes 1 r.flags ++ leBytes 1 0 ++
    leBytes 4 (r.layer % 2 ^ 24) ++ leBytes 2 r.operator ++ leBytes 2 r.aux ++ leBytes 8 r.detail

/-- Slots of a buffer's ring. -/
def State.trcSlots (s : State) (b : Nat) : Nat := 2 ^ (s.num (E.trcRing + b) % 32)

/-- Address of the slot of a record count (R447). -/
def State.trcSlot (s : State) (b i : Nat) : Nat := s.num (E.trcRing + b) / 4096 * 4096 + 32 * (i % s.trcSlots b)

/-- What becomes of a record that is to be written (Table 19.13). -/
inductive TrcFate
  | write (evict : Bool)
  | stop
deriving DecidableEq, Repr

/-- Table 19.13: WRAP overwrites, STOP stops, CENTRE wraps at pre before its trigger and stops after it. -/
def State.trcFate (s : State) (b : Nat) (t : Trc) (trigger : Bool) : TrcFate :=
  let n := s.trcSlots b
  let used := t.write - t.read
  let mode := s.num (E.trcMode + b)
  let centre := s.num (E.trcCentre + b)
  if mode = 0 then .write (decide (n ≤ used))
  else if mode = 2 ∧ t.state = .running ∧ !trigger then .write (decide (centre % 2 ^ 32 ≤ used))
  else if n ≤ used ∨ (mode = 2 ∧ (t.state = .post ∨ trigger) ∧ centre / 2 ^ 32 ≤ t.postCount) then .stop
  else .write false

/-- A buffer enters FAULT or STOPPED: event is set and the owner's vector signalled (R448). -/
def State.trcEvent (s : State) (b : Nat) : State :=
  let s1 := s.modTrc b (fun t => { t with event := true })
  if s.num (E.trcOwner + b) < 256 then s1.signal (s.num (E.trcOwner + b)) (s.num (E.trcVector + b)) else s1

/-- A record has been written with a count: the trigger's position, the post phase and its end (R447). -/
def Trc.written (t : Trc) (mode post : Nat) (evict trigger : Bool) : Trc :=
  let t1 := { t with
    write := (t.write + 1) % 2 ^ 64, read := if evict then t.read + 1 else t.read, trig := if trigger then t.write else t.trig
    state := if trigger ∧ mode = 2 ∧ t.state = .running then .post else t.state }
  if mode = 2 ∧ t1.state = .post then
    let t2 := { t1 with postCount := t1.postCount + 1 }
    if post ≤ t2.postCount then { t2 with state := .stopping } else t2
  else t1

/-- TRACE_DRAIN (R446 to R448): the oldest staged record of a source goes into the ring, by a write in the owner's tables. A host page waits while the function may not send. -/
def traceDrain (buf source : Nat) (s : State) : State :=
  let t := s.trc buf
  let owner := s.num (E.trcOwner + buf)
  match t.staged.getD source [] with
  | [] => s
  | r :: rest =>
    let g := (s.fn owner).gate
    if 16 ≤ buf ∨ !t.state.drains ∨ (g ≠ .opened ∧ g ≠ .draining) then s
    else
      let trigger := bit r.flags 2
      let t1 : Trc := { t with staged := if rest = [] then t.staged.del source else t.staged.put source rest }
      match s.trcFate buf t trigger with
      | .stop => s.modTrc buf (fun _ => { t1 with state := .stopping })
      | .write evict =>
        let va := s.trcSlot buf t.write
        match s.translate owner va .write with
        | .bad _ => (s.modTrc buf (fun _ => { t1 with state := .fault, staged := [], dropped := [] })).trcEvent buf
        | .ok target a =>
          if target = 1 then (s.modTrc buf (fun _ => { t1 with state := .fault, staged := [], dropped := [] })).trcEvent buf
          else if target = 2 ∧ !s.hostOpen owner a true then s
          else
            (s.writeV owner va (trcBytes r)).2.modTrc buf (fun _ => t1.written (s.num (E.trcMode + buf)) (s.num (E.trcCentre + buf) / 2 ^ 32) evict trigger)

/-! Control (Tables 19.14 and 19.17). -/

/-- A TRC_CTRL bit written by the owner: the change, or bad_ctrl in a state that the table does not list. -/
def State.trcCtrl (s : State) (f b : Nat) (ok : Bool) (g : Trc → Trc) : State :=
  if 16 ≤ b ∨ s.num (E.trcOwner + b) ≠ f then s
  else if ok then s.modTrc b g
  else s.modTrc b (fun t => { t with badCtrl := true })

/-- TRACE_START. -/
def traceStart (fn buf : Nat) (s : State) : State :=
  let st := (s.trc buf).state
  s.trcCtrl fn buf (decide (st = .disabled ∨ st = .stopped)) (fun t =>
    { t with state := .running, write := 0, read := 0, lost := 0, trig := 0, triggered := false, postCount := 0, staged := [], dropped := [] })

/-- TRACE_STOP. -/
def traceStop (fn buf : Nat) (s : State) : State :=
  let st := (s.trc buf).state
  s.trcCtrl fn buf (decide (st = .running ∨ st = .post)) (fun t => { t with state := .stopping })

/-- TRACE_TRIGGER (R447): the first trigger marks the place of the next record, and starts the post phase in CENTRE; a later one is ignored. -/
def traceTrigger (fn buf : Nat) (s : State) : State :=
  let st := (s.trc buf).state
  let mode := s.num (E.trcMode + buf)
  s.trcCtrl fn buf (decide (st = .running ∨ st = .post)) (fun t =>
    if t.triggered then t else { t with triggered := true, trig := t.write, state := if mode = 2 then .post else t.state })

/-- TRACE_DISABLE: from any state; what is staged is dropped. -/
def traceDisable (fn buf : Nat) (s : State) : State :=
  s.trcCtrl fn buf true (fun t => { t with state := .disabled, staged := [], dropped := [] })

/-- TRC_READ_WRITE (R447). -/
def trcReadWrite (fn buf value : Nat) (s : State) : State :=
  if 16 ≤ buf ∨ s.num (E.trcOwner + buf) ≠ fn ∨ (s.trc buf).write < value then s
  else s.modTrc buf (fun t => { t with read := max t.read value })

/-- TRACE_STOPPED (R448): nothing is staged any more, and no gap is still to be recorded. -/
def traceStopped (buf : Nat) (s : State) : State :=
  let t := s.trc buf
  if 16 ≤ buf ∨ t.state ≠ .stopping ∨ !t.staged.all (fun e => e.2.isEmpty) ∨ !t.dropped.isEmpty then s
  else (s.modTrc buf (fun t => { t with state := .stopped })).trcEvent buf

/-! The meanings. -/

/-- CNT_VALUE_WRITE (R438). -/
def execCntValueWrite (off : Nat) (value : Nat) (s : State) : Host.Outcome State Fault Refusal :=
  .next (cntValueWrite off value s)
/-- CNT_FREEZE (R438). -/
def execCntFreeze (freeze : Bool) (s : State) : Host.Outcome State Fault Refusal :=
  .next (cntFreeze freeze s)
/-- CNT_CLEAR_ALL (R438). -/
def execCntClearAll (s : State) : Host.Outcome State Fault Refusal :=
  .next (cntClearAll s)
/-- LAYER_FLUSH_REQUEST (R440). -/
def execLayerFlushRequest (fn : Nat) (s : State) : Host.Outcome State Fault Refusal :=
  .next (layerFlushRequest fn s)
/-- LAYER_FLUSH_TIMER (R440). -/
def execLayerFlushTimer (fn : Nat) (s : State) : Host.Outcome State Fault Refusal :=
  .next (layerFlushTimer fn s)
/-- CNT_LAYER_BASE_WRITE (R442). -/
def execCntLayerBaseWrite (who : Origin) (fn : Nat) (value : Nat) (s : State) : Host.Outcome State Fault Refusal :=
  .next (cntLayerBaseWrite who fn value s)
/-- LAYER_FLUSH_COMPLETE (R442). -/
def execLayerFlushComplete (fn : Nat) (s : State) : Host.Outcome State Fault Refusal :=
  .next (s.unit 19 fn (layerFlushComplete fn))
/-- TRACE_RECORD_EMIT (R446). -/
def execTraceRecordEmit (source : Nat) (rec : TrcRec) (s : State) : Host.Outcome State Fault Refusal :=
  .next (traceRecordEmit source rec s)
/-- TRACE_GAP_RECORD (R446). -/
def execTraceGapRecord (buf : Nat) (source : Nat) (s : State) : Host.Outcome State Fault Refusal :=
  .next (traceGapRecord buf source s)
/-- TRACE_DRAIN (R446). -/
def execTraceDrain (buf : Nat) (source : Nat) (s : State) : Host.Outcome State Fault Refusal :=
  .next (s.unit 18 buf (traceDrain buf source))
/-- TRACE_START (R448). -/
def execTraceStart (fn : Nat) (buf : Nat) (s : State) : Host.Outcome State Fault Refusal :=
  .next (traceStart fn buf s)
/-- TRACE_STOP (R448). -/
def execTraceStop (fn : Nat) (buf : Nat) (s : State) : Host.Outcome State Fault Refusal :=
  .next (traceStop fn buf s)
/-- TRACE_TRIGGER (R447). -/
def execTraceTrigger (fn : Nat) (buf : Nat) (s : State) : Host.Outcome State Fault Refusal :=
  .next (traceTrigger fn buf s)
/-- TRACE_DISABLE (R448). -/
def execTraceDisable (fn : Nat) (buf : Nat) (s : State) : Host.Outcome State Fault Refusal :=
  .next (traceDisable fn buf s)
/-- TRC_READ_WRITE (R447). -/
def execTrcReadWrite (fn : Nat) (buf : Nat) (value : Nat) (s : State) : Host.Outcome State Fault Refusal :=
  .next (trcReadWrite fn buf value s)
/-- TRACE_STOPPED (R448). -/
def execTraceStopped (buf : Nat) (s : State) : Host.Outcome State Fault Refusal :=
  .next (traceStopped buf s)

end Sys2Proof.Machine
end

