-- ==== Sys2Proof/Machine/Matrix.lean ====
section
/-! DEFINITION. Machine/Matrix.lean: the matrix arrays (chapter 7): configuration words and tiles, the products and sums of a row, the acceptance of the six matrix
instructions, and their start, their rows and their completion (R165 to R187). -/

namespace Sys2Proof

/-! Formats (Table 7.1, Table 7.2). -/

/-- Class of a type: 0 16-bit float, 1 8-bit float, 2 8-bit integer, 3 narrow float, 4 narrow integer. -/
def mxClass (type : Nat) : Option Nat :=
  match type with
  | 0x02 => some 0
  | 0x03 => some 0
  | 0x04 => some 1
  | 0x05 => some 1
  | 0x09 => some 2
  | 0x0A => some 2
  | 0x06 => some 3
  | 0x07 => some 3
  | 0x08 => some 3
  | 0x14 => some 4
  | _ => none

/-- Bits of an element of a type. -/
def mxBits (type : Nat) : Nat :=
  match type with
  | 0x02 => 16
  | 0x03 => 16
  | 0x06 => 6
  | 0x07 => 6
  | 0x08 => 4
  | 0x14 => 4
  | _ => 8

/-- K of a class. -/
def mxK (cls : Nat) : Nat := if cls = 0 then 32 else if cls < 3 then 64 else 128

/-- Does a type carry block scales? -/
def mxScaled (type : Nat) : Bool := decide ((4 ≤ type ∧ type ≤ 9))

/-- Activation type of a configuration word. -/
def cfgA (w : Nat) : Nat := bits w 4 0
/-- Weight type. -/
def cfgW (w : Nat) : Nat := bits w 12 8
/-- mx_a. -/
def cfgMxA (w : Nat) : Bool := bit w 16
/-- mx_w. -/
def cfgMxW (w : Nat) : Bool := bit w 17
/-- Class of a configuration. -/
def cfgClass (w : Nat) : Nat := (mxClass (cfgA w)).getD 0
/-- K of a configuration. -/
def cfgK (w : Nat) : Nat := mxK (cfgClass w)

/-- Is a configuration word accepted (R168)? -/
def cfgOk (w : Nat) : Bool :=
  decide (bits w 63 18 = 0 ∧ bits w 15 13 = 0 ∧ bits w 7 5 = 0) && (mxClass (cfgA w)).isSome && decide (mxClass (cfgA w) = mxClass (cfgW w)) &&
    (!cfgMxA w || mxScaled (cfgA w)) && (!cfgMxW w || mxScaled (cfgW w))

/-- Bytes of an activation row. -/
def cfgRowBytes (w : Nat) : Nat := cfgK w * mxBits (cfgA w) / 8

/-- Element e of a packed row (R190). -/
def packedElem (bytes : List Byte) (width e : Nat) : Nat := ofLe bytes / 2 ^ (width * e) % 2 ^ width

/-- Elements packed into bytes. -/
def packElems (width : Nat) (l : List Nat) : List Byte :=
  leBytes (l.length * width / 8) (l.foldr (fun e acc => e % 2 ^ width + 2 ^ width * acc) 0)

/-! Products and sums (R169, R201). -/

/-- The exact value of an element with its scale byte, where it has one. -/
def mxVal (type : Nat) (scale : Option Nat) (code : Nat) : FVal :=
  match scale with
  | some x => mxValue (fmtOf type) x code
  | none => match fmtOf type with
    | some f => f.decode code
    | none => .ofInt (match intOf type with
      | some (n, sg) => intVal n sg code
      | none => 0)

/-- The exact products of a column of a floating-point class, in ascending k. -/
def mxProducts (a w : List FVal) : List FVal := List.zipWith FVal.mul a w

/-- Add the two products of each cell of a narrow class, rounded (R169). -/
def pairSums : List FVal → List FVal
  | p :: q :: t => Fmt.fp32.decode (Fmt.fp32.encode .rne false (p.add q)) :: pairSums t
  | l => l

/-- The column sum: from zero in order, each addition rounded to FP32. -/
def columnSum (l : List FVal) : Nat := l.foldl (fun s p => Fmt.fp32.encode .rne false ((Fmt.fp32.decode s).add p)) 0

/-- The sum of an integer class, modulo 2^32. -/
def intSum (ta tw : Nat) (a w : List Nat) : Nat :=
  let v (t x : Nat) : Int := match intOf t with
    | some (n, sg) => intVal n sg x
    | none => 0
  wrapInt 32 ((List.zipWith (fun x y => v ta x * v tw y) a w).foldl (· + ·) 0)

end Sys2Proof

namespace Sys2Proof.Machine

/-- A weight set of an array. -/
def Mx.setOf (m : Mx) (i : Nat) : MxSet := m.sets.getD i MxSet.initial

/-- The configuration in force of a set, none while it is unconfigured; a restored word that R168 rejects makes the instruction that uses it fail (R188). -/
def MxSet.config (t : MxSet) : Option Nat := if t.configured && cfgOk t.cfg then some t.cfg else none

/-- The weight of K-row `j` in a column's cell registers (R188): an 8-bit weight in bits [7:0] of its cell; in a narrow class two right-aligned weights to a cell; a 16-bit
weight over two cells. -/
def MxSet.code (t : MxSet) (j n : Nat) : Nat :=
  let cell (i : Nat) : Nat := t.weights.getD (i * 64 + n) 0
  let cls := cfgClass t.cfg
  if cls = 0 then cell (2 * j) % 256 + 256 * (cell (2 * j + 1) % 256)
  else if cls < 3 then cell j % 256
  else cell (j / 2) / 2 ^ (6 * (j % 2)) % 2 ^ mxBits (cfgW t.cfg)

/-- Weight codes of a column, in ascending k. -/
def MxSet.column (t : MxSet) (k n : Nat) : List Nat := (List.range k).map (fun j => t.code j n)

/-- The cell registers that hold a tile of weight codes (R188). -/
def tileCells (cls : Nat) (code : Nat → Nat → Nat) : SMap Nat :=
  ((List.range 4096).map (fun x =>
    let i := x / 64
    let n := x % 64
    (x, if cls = 0 then code (i / 2) n / 2 ^ (8 * (i % 2)) % 256
        else if cls < 3 then code i n else code (2 * i) n + 64 * code (2 * i + 1) n))).filter (fun e => !decide (e.2 = 0))

/-- Does a configuration sum integers (R167)? INT8 with block scales on a side is read as MXINT8, which is no integer: its products and sums are those of the floating classes (DEDUCED, log
entry 26). -/
def cfgInt (w : Nat) : Bool := decide (cfgClass w = 2 ∨ cfgClass w = 4) && !cfgMxA w && !cfgMxW w

/-- The column sum of a row of activations (R169, R192, R201): `row` its elements, `sc` its scale bytes. -/
def MxSet.sum (t : MxSet) (n : Nat) (row sc : List Nat) : Nat :=
  let w := t.cfg
  let k := cfgK w
  let col := t.column k n
  let cls := cfgClass w
  let ws := (List.range 4).map (fun b => t.scales.getD (n * 4 + b) 0)
  if cfgInt w then intSum (cfgA w) (cfgW w) row col
  else
    let av := (List.range k).map (fun j => mxVal (cfgA w) (if cfgMxA w then some (sc.getD (j / 32) 0) else none) (row.getD j 0))
    let wv := (List.range k).map (fun j => mxVal (cfgW w) (if cfgMxW w then some (ws.getD (j / 32) 0) else none) (col.getD j 0))
    let p := mxProducts av wv
    columnSum (if cls = 3 then pairSums p else p)

/-- The accumulator update (R169, R178). -/
def accUpdate (isInt : Bool) (mode old x : Nat) : Nat :=
  if mode = 0 then x
  else if isInt then (if mode = 1 then (old + x) % 2 ^ 32 else (old + 2 ^ 32 - x) % 2 ^ 32)
  else if mode = 1 then Fmt.fp32.add .rne false old x
  else Fmt.fp32.encode .rne false ((Fmt.fp32.decode old).add (Fmt.fp32.decode x).negate)

/-- One row of a stream passes (R178): the 64 sums update accumulator row r. -/
def Mx.passRow (m : Mx) (set mode r : Nat) (row sc : List Nat) : Mx :=
  let t := m.setOf set
  let isInt := cfgInt t.cfg
  { m with
    acc := (List.range 64).foldl (fun a n =>
      a.put (r * 64 + n) (BitVec.ofNat 32 (accUpdate isInt mode (a.getD (r * 64 + n) 0#32).toNat (t.sum n row sc)))) m.acc
    rows := (m.rows + 1) % 2 ^ 64 }

/-- Set accumulator rows to zero (R180). -/
def Mx.clearRows (m : Mx) (base rows : Nat) : Mx :=
  { m with acc := m.acc.keep (fun k _ => !(decide (base * 64 ≤ k) && decide (k < (base + rows) * 64))) }

/-- A row of the accumulator as packed output elements (R179). -/
def Mx.readRow (m : Mx) (ctl r : Nat) : List Byte :=
  let type := bits ctl 5 1
  let src := if bit ctl 10 then 0x0D else 0x01
  let rnd : Rnd := if bits ctl 7 6 = 1 then .rz else .rne
  let width := if type = 0x01 ∨ type = 0x0D then 32 else if type = 0x02 ∨ type = 0x03 then 16 else 8
  packElems width ((List.range 64).map (fun n => convert type src rnd (bit ctl 8) (m.acc.getD (r * 64 + n) 0#32).toNat))

/-- Bytes of an output row. -/
def rdRowBytes (ctl : Nat) : Nat :=
  let type := bits ctl 5 1
  if type = 0x01 ∨ type = 0x0D then 256 else if type = 0x02 ∨ type = 0x03 then 128 else 64

/-! Acceptance (R171, R174, R182). -/

/-- The active set and the configurations that stand once the queue has run: what an instruction that is accepted now will meet. -/
def Mx.ahead (m : Mx) : Nat × Option Nat × Option Nat :=
  m.queue.foldl (fun (st : Nat × Option Nat × Option Nat) o =>
    if o.kind = 2 then (1 - st.1, st.2.1, st.2.2)
    else if o.kind = 0 then (if st.1 = 1 then (st.1, some o.addr, st.2.2) else (st.1, st.2.1, some o.addr))
    else st) (m.active, (m.setOf 0).config, (m.setOf 1).config)

/-- Configuration of the set that will be active, and of the one that will be the shadow. -/
def Mx.aheadActive (m : Mx) : Option Nat := if m.ahead.1 = 0 then m.ahead.2.1 else m.ahead.2.2
/-- The shadow's. -/
def Mx.aheadShadow (m : Mx) : Option Nat := if m.ahead.1 = 0 then m.ahead.2.2 else m.ahead.2.1

/-- Where a range of bytes of an instruction goes: its pieces, or its code. -/
def Iss.range (x : Iss) (s : State) (scratch : Bool) (va n : Nat) (a : Access) : Placed :=
  if scratch then placeScratch ((s.core x.core).scratchOf x.slot) x.lead va n else s.placeGlobal x.fn x.lead va n a

/-- Where several ranges go: their pieces, or the first code in the order of Table 5.5. -/
def Iss.ranges (x : Iss) (s : State) (scratch : Bool) (a : Access) (l : List (Nat × Nat)) : Placed :=
  l.foldl (fun p r =>
    match p, x.range s scratch r.1 r.2 a with
    | .ok l, .ok m => .ok (l ++ m)
    | .ok _, .bad c => .bad c
    | .bad c, .ok _ => .bad c
    | .bad c, .bad d => .bad (firstCode c d)) (.ok [])

/-- Code of a placement, 0 for none. -/
def Placed.code : Placed → Nat
  | .ok _ => 0
  | .bad c => c

/-- Source ranges of an MX.LDW: rows of the tile, then the scales (R176). -/
def ldwRanges (cfg addr stride scale : Nat) (transpose : Bool) : List (Nat × Nat) :=
  let k := cfgK cfg
  let n := if transpose then 64 else k
  let len := (if transpose then k else 64) * mxBits (cfgW cfg) / 8
  (List.range n).map (fun j => (addr + j * stride, len)) ++ (if cfgMxW cfg then [(scale, 64 * (k / 32))] else [])

/-- Scratch ranges of an MX.STREAM. -/
def streamRanges (cfg addr stride scale rows : Nat) : List (Nat × Nat) :=
  (List.range rows).map (fun i => (addr + i * stride, cfgRowBytes cfg)) ++ (if cfgMxA cfg then [(scale, rows * (cfgK cfg / 32))] else [])

/-- Destination ranges of an MX.RD. -/
def rdRanges (ctl addr stride rows : Nat) : List (Nat × Nat) := (List.range rows).map (fun i => (addr + i * stride, rdRowBytes ctl))

/-- rows of a row control word (Table 7.7). -/
def rowsOf (w : Nat) : Nat := bits w 26 16
/-- acc_base. -/
def baseOf (w : Nat) : Nat := bits w 9 0

/-- A row control word: zero bits and range (Table 7.7). -/
def rowWordOk (w lo : Nat) : Bool :=
  decide (bits w 31 27 = 0 ∧ bits w 15 10 = 0 ∧ lo ≤ rowsOf w ∧ rowsOf w ≤ 1024 ∧ baseOf w + rowsOf w ≤ 1024)

/-- The output types of MX.RD. -/
def rdTypes : List Nat := [0x01, 0x02, 0x03, 0x04, 0x05, 0x09, 0x0D]

/-- The output types that the integer bit permits (R179). -/
def rdTypeOk (ctl : Nat) : Bool :=
  if bit ctl 10 then [0x0D, 0x09, 0x01].contains (bits ctl 5 1) else [0x01, 0x02, 0x03, 0x04, 0x05].contains (bits ctl 5 1)

/-- What acceptance finds: the code, and the entry. -/
structure Accept where
  code : Nat
  /-- Fault address for codes 0x01 and 0x02. -/
  addr : Nat
  op : MxOp

/-- Issue a matrix instruction: `decode` is what the word alone must satisfy, `used` the scalar fields that it reads, `take` the checks of acceptance and the entry. -/
def State.issueMx (s : State) (is : Issue) (f : FmtMx) (op : Nat) (decode : Bool) (used : List Nat) (wait : Bool)
    (take : Iss → State → MxOp → Accept) : State :=
  let entry (x : Iss) : MxOp :=
    { id := 0, kind := op - 0xC0, slot := x.slot, queue := x.g.queue, pc := x.pc, threads := x.mask, addr := 0, scale := 0, stride := 0, base := 0, rows := 0
      ctl := f.ctl, started := false, set := 0, entered := 0, load := none }
  s.issue is
    { word := f.word op, guard := f.guard, neg := f.guardNeg, vec := false, legal := fun _ => true
      srcs := if decode then used.map (256 + ·) else [], hints := [], dsts := []
      ready := fun s x => !decode || x.mxReady s op }
    (fun x s =>
      if !decode then x.fault s x.lead 0x0B 0
      else if !x.once then x.done s x.g
      else if !x.holdsArray s then x.fault s x.lead 0x0B 0
      else
        let a := take x s (entry x)
        if a.code ≠ 0 then x.fault s x.lead a.code a.addr
        else
          let s1 := x.done s (if wait then { x.g with waiting := natOr 64 x.g.waiting x.mask } else x.g)
          let id := s1.l2.nextId
          State.modCore { s1 with l2.nextId := id + 1 } x.core (fun k => { k with mx.queue := k.mx.queue ++ [{ a.op with id := id }] }))

/-- A scalar field: bits [7:6] zero. -/
def mxField (r : Nat) : Bool := sregOk r

/-- MX.CFG (R168, R175). -/
def mxCfg (is : Issue) (f : FmtMx) (s : State) : State :=
  s.issueMx is f 0xC0 (mxField f.sa && decide (f.sb = 0 ∧ f.sc = 0 ∧ f.zero = 0 ∧ f.ctl = 0)) [f.sa] false (fun x _ e =>
    { code := if cfgOk (x.g.sreg f.sa) then 0 else 0x0B, addr := 0, op := { e with addr := x.g.sreg f.sa } })

/-- MX.LDW (R176): with the configuration that the shadow set will have, its whole source is translated at acceptance. -/
def mxLdw (is : Issue) (f : FmtMx) (s : State) : State :=
  s.issueMx is f 0xC1 (mxField f.sa && mxField f.sb && mxField f.sc && decide (f.zero = 0 ∧ f.ctl / 4 = 0)) [f.sa, f.sb, f.sc] false (fun x s e =>
    let addr := x.g.sreg f.sa
    let stride := x.g.sreg f.sc
    let scale := x.g.sreg f.sb
    let cfg := (s.core x.core).mx.aheadShadow
    let bad := decide (2 ^ 32 ≤ stride) || decide (addr % 16 ≠ 0) || decide (stride % 16 ≠ 0) || (match cfg with
      | some w => !cfgMxW w && !decide (f.sb = 0)
      | none => false)
    let place := match cfg with
      | some w => (x.ranges s (bit f.ctl 0) .read (ldwRanges w addr stride scale (bit f.ctl 1))).code
      | none => 0
    { code := firstCode place (if bad then 0x0B else 0), addr := addr, op := { e with addr := addr, stride := stride, scale := scale } })

/-- MX.SWAP (R177). -/
def mxSwap (is : Issue) (f : FmtMx) (s : State) : State :=
  s.issueMx is f 0xC2 (decide (f.sa = 0 ∧ f.sb = 0 ∧ f.sc = 0 ∧ f.zero = 0 ∧ f.ctl = 0)) [] false (fun _ _ e => { code := 0, addr := 0, op := e })

/-- MX.STREAM (R178). -/
def mxStream (is : Issue) (f : FmtMx) (s : State) : State :=
  s.issueMx is f 0xC3 (mxField f.sa && mxField f.sb && mxField f.sc && decide (f.zero = 0 ∧ f.ctl < 3)) [f.sa, f.sb, f.sc] false (fun x s e =>
    let addr := x.g.sreg f.sa
    let stride := x.g.sreg f.sc
    let w := x.g.sreg f.sb
    let cfg := (s.core x.core).mx.aheadActive
    let bad := decide (2 ^ 32 ≤ addr) || decide (2 ^ 32 ≤ stride) || decide (addr % 16 ≠ 0) || decide (stride % 16 ≠ 0) || !rowWordOk w 1 ||
      (match cfg with
       | some c => !cfgMxA c && !decide (w / 2 ^ 32 = 0)
       | none => false)
    let place := match cfg with
      | some c => (x.ranges s true .read (streamRanges c addr stride (w / 2 ^ 32) (rowsOf w))).code
      | none => 0
    { code := firstCode place (if bad then 0x0B else 0), addr := addr
      op := { e with addr := addr, stride := stride, scale := w / 2 ^ 32, base := baseOf w, rows := rowsOf w } })

/-- MX.RD (R179): its whole destination is translated at acceptance, and the issuing threads wait for it. One issued after the point of a reset or a disable of its queue stores nothing (Table
9.8). -/
def mxRd (is : Issue) (f : FmtMx) (s : State) : State :=
  s.issueMx is f 0xC4 (mxField f.sa && mxField f.sb && mxField f.sc && decide (f.zero = 0 ∧ f.ctl / 2 ^ 11 = 0 ∧ bits f.ctl 7 6 < 2) &&
      rdTypes.contains (bits f.ctl 5 1)) [f.sa, f.sb, f.sc] true (fun x s e =>
    let addr := x.g.sreg f.sa
    let stride := x.g.sreg f.sc
    let w := x.g.sreg f.sb
    let rows := rowsOf w
    let bad := !rowWordOk w 0 || !decide (w / 2 ^ 32 = 0) || !rdTypeOk f.ctl ||
      (if rows = 0 then !decide (f.sa = 0 ∧ f.sc = 0)
       else decide (2 ^ 32 ≤ stride) || decide (addr % 16 ≠ 0) || decide (stride % 16 ≠ 0) || decide (stride < rdRowBytes f.ctl))
    let place := (x.ranges s (bit f.ctl 0) .write (rdRanges f.ctl addr stride rows)).code
    { code := firstCode place (if bad then 0x0B else 0), addr := addr
      op := { e with addr := addr, stride := stride, base := baseOf w, rows := if (s.q x.g.queue).state = .resetting then 0 else rows } })

/-- MX.CLR (R180). -/
def mxClr (is : Issue) (f : FmtMx) (s : State) : State :=
  s.issueMx is f 0xC5 (mxField f.sb && decide (f.sa = 0 ∧ f.sc = 0 ∧ f.zero = 0 ∧ f.ctl = 0)) [f.sb] false (fun x _ e =>
    let w := x.g.sreg f.sb
    { code := if rowWordOk w 1 && decide (w / 2 ^ 32 = 0) then 0 else 0x0B, addr := 0
      op := { e with base := baseOf w, rows := rowsOf w } })

/-! Start and completion (Table 7.3). -/

/-- Is an earlier entry of some kinds in the queue? -/
def earlier (l : List MxOp) (p : MxOp → Bool) : Bool := l.any p

/-- May an entry start, given the entries before it (Table 7.3)? The 64 steps of MX.LDW follow a row that has already been added when it enters. -/
def MxOp.mayStart (o : MxOp) (before : List MxOp) : Bool :=
  !o.started && !before.any (fun e => match o.kind with
    | 0 => decide (e.kind = 0 ∨ e.kind = 1 ∨ e.kind = 2)
    | 1 => decide (e.kind = 0 ∨ e.kind = 1 ∨ e.kind = 2)
    | 2 => decide (e.kind = 0 ∨ e.kind = 1 ∨ e.kind = 2) || (decide (e.kind = 3) && decide (e.entered < e.rows))
    | 3 => decide (e.kind = 2 ∨ e.kind = 4 ∨ e.kind = 5) || (decide (e.kind = 3) && !e.started)
    | _ => decide (e.kind = 3 ∨ e.kind = 4 ∨ e.kind = 5))

/-- Replace an entry. -/
def Mx.setOp (m : Mx) (i : Nat) (o : MxOp) : Mx := { m with queue := m.queue.set i o }

/-- Take an entry out. -/
def Mx.dropOp (m : Mx) (i : Nat) : Mx := { m with queue := dropAt m.queue i }

/-- Change an array. -/
def State.modMx (s : State) (c : Nat) (f : Mx → Mx) : State := s.modCore c (fun k => { k with mx := f k.mx })

/-- The issue that an entry came from, with the group as it stands. -/
def MxOp.iss (o : MxOp) (c : Nat) (g : Group) : Iss := { core := c, slot := o.slot, pc := o.pc, g := g, mask := o.threads, act := o.threads }

/-- MX_INSTR_START (R172): the entry at a place of a core's queue starts. A set that is unconfigured ends the context (R176, R178); MX.SWAP takes effect at once; MX.LDW reads its
source as a load of the lowest thread. -/
def mxInstrStart (core index : Nat) (s : State) : State :=
  let m := (s.core core).mx
  match m.queue[index]? with
  | none => s
  | some o =>
    match (s.core core).groups.get? o.slot with
    | none => s
    | some g =>
      if !o.mayStart (m.queue.take index) ∨ g.faulted ∨ (s.q o.queue).state = .killing then s
      else
        let lead := lowest o.threads
        match o.kind with
        | 2 => (s.modMx core (fun m => { m.dropOp index with active := 1 - m.active })).reapGroup core o.slot
        | 3 =>
          (match (m.setOf m.active).config with
           | none => s.coreFault core o.slot lead 0x0B o.pc 0 false (some o.id)
           | some _ => s.modMx core (fun m => m.setOp index { o with started := true, set := m.active }))
        | 1 =>
          (match (m.setOf (1 - m.active)).config with
           | none => s.coreFault core o.slot lead 0x0B o.pc 0 false (some o.id)
           | some w =>
             let x := o.iss core g
             match x.ranges s (bit o.ctl 0) .read (ldwRanges w o.addr o.stride o.scale (bit o.ctl 1)) with
             | .bad c => s.coreFault core o.slot lead c o.pc o.addr false (some o.id)
             | .ok l =>
               let r := x.openLoad s 4 0 1 false 0 0 l
               if r.1.1 = 0x100 then s
               else if r.1.1 ≠ 0 then x.reqFail s lead r.1.1 o.addr
               else r.2.2.modMx core (fun m => m.setOp index { o with started := true, set := 1 - m.active, load := some r.2.1 }))
        | _ => s.modMx core (fun m => m.setOp index { o with started := true, set := 1 - m.active })

/-- Bytes of a load at an address of its ranges, taken from its pieces. -/
def Load.bytesAt (l : Load) (va n : Nat) : List Byte :=
  (rangeFrom va n).map (fun v =>
    match l.accs.find? (fun a => decide (a.va + a.off ≤ v ∧ v < a.va + a.off + a.n)) with
    | some a =>
      let p := a.pa + (v - (a.va + a.off))
      (l.got.getD (lineKey a.target (p / 128)) []).getD (p % 128) 0#8
    | none => 0#8)

/-- Weights and scales of a tile from its load (R176). -/
def MxSet.loadTile (t : MxSet) (o : MxOp) (l : Load) : MxSet :=
  let k := cfgK t.cfg
  let w := mxBits (cfgW t.cfg)
  let tr := bit o.ctl 1
  let rows := if tr then 64 else k
  let cols := if tr then k else 64
  let tile := (List.range rows).map (fun j => ofLe (l.bytesAt (o.addr + j * o.stride) (cols * w / 8)))
  let code (j n : Nat) : Nat := if tr then tile.getD n 0 / 2 ^ (w * j) % 2 ^ w else tile.getD j 0 / 2 ^ (w * n) % 2 ^ w
  let ws := tileCells (cfgClass t.cfg) code
  let nb := k / 32
  let sc := if cfgMxW t.cfg then
      let b := l.bytesAt o.scale (64 * nb)
      (List.range (64 * nb)).foldl (fun m i => SMap.put m (i / nb * 4 + i % nb) (b.getD i 0#8).toNat) ([] : SMap Nat)
    else t.scales
  { t with weights := ws, scales := sc }

/-- Change a weight set. -/
def Mx.modSet (m : Mx) (i : Nat) (f : MxSet → MxSet) : Mx := { m with sets := m.sets.modify i MxSet.initial f }

/-- The stores of an MX.RD: each row's pieces with its bytes. -/
def rdStores (m : Mx) (o : MxOp) (l : List Acc) : List (Acc × List Byte) :=
  l.map (fun a => (a, ((m.readRow o.ctl (o.base + (a.va - o.addr) / o.stride)).drop a.off).take a.n))

/-- MX_INSTR_COMPLETE (R172, R179): the entry at a place of a core's queue completes. -/
def mxInstrComplete (core index : Nat) (s : State) : State :=
  let m := (s.core core).mx
  match m.queue[index]? with
  | none => s
  | some o =>
    match (s.core core).groups.get? o.slot with
    | none => s
    | some g =>
      if !o.started ∨ g.faulted ∨ (s.q o.queue).state = .killing then s
      else
        let lead := lowest o.threads
        match o.kind with
        | 0 => (s.modMx core (fun m => (m.dropOp index).modSet o.set (fun t => { t with configured := true, cfg := o.addr }))).reapGroup core o.slot
        | 1 =>
          (match o.load with
           | none => s
           | some id =>
             let s1 := match s.l2.loads.get? id with
               | some l => (s.hostLines id l (fnOfQueue o.queue)).fabLines id l (fnOfQueue o.queue)
               | none => s
             match s1.l2.loads.get? id with
             | none => s1
             | some l =>
               if (accKeys l.accs).any l.lacks then s1
               else
                 let gone : State := { s1 with l2.loads := s1.l2.loads.del id }
                 match l.accs.find? (fun a => l.badAcc a || (gone.core core).accBroken o.slot a) with
                 | some a => gone.coreFault core o.slot lead 0x03 o.pc a.va (bit o.ctl 0) (some o.id)
                 | none => (gone.modMx core (fun m => (m.dropOp index).modSet o.set (fun t => t.loadTile o l))).reapGroup core o.slot)
        | 3 => if o.entered < o.rows then s else (s.modMx core (fun m => m.dropOp index)).reapGroup core o.slot
        | 5 => (s.modMx core (fun m => (m.dropOp index).clearRows o.base o.rows)).reapGroup core o.slot
        | _ =>
          if index ≠ 0 then s
          else
            let x := o.iss core g
            match x.ranges s (bit o.ctl 0) .write (rdRanges o.ctl o.addr o.stride o.rows) with
            | .bad c => s.coreFault core o.slot lead c o.pc o.addr false (some o.id)
            | .ok l =>
              let c := s.sendCode x.fn l
              let keys := (accKeys l).filter (fun k => !decide (keyTarget k = 3))
              if c.2.1 ≠ 0 then x.reqFail s lead c.2.1 c.2.2
              else if !s.sbRoom core keys (s.lineLoads core o.slot o.threads keys) 0 then s
              else
                let s1 := s.storePieces core o.slot (x.storer s keys) (rdStores m o l)
                let s2 := s1.modMx core (fun m => if bit o.ctl 9 then (m.dropOp index).clearRows o.base o.rows else m.dropOp index)
                (s2.modCore core (fun k => { k with groups := k.groups.mapVals (fun i g =>
                  if i = o.slot then { g with waiting := natAndNot 64 g.waiting o.threads } else g) })).reapGroup core o.slot

/-! Rows (R169, R170, R187). -/

/-- Has a group faulted? -/
def State.groupFaulted (s : State) (c slot : Nat) : Bool :=
  match (s.core c).groups.get? slot with
  | some g => g.faulted
  | none => false

/-- One row enters: the next row of the first stream that has rows left. Products count in quantity 0 and in event 0x03 by class. A double-bit error in its scratch source ends the
context, and no accumulator row receives a product of it (R181, R209). -/
def State.enterRow (s : State) (c : Nat) : State :=
  let k := s.core c
  match (List.range k.mx.queue.length).find? (fun i => match k.mx.queue[i]? with
    | some o => o.started && decide (o.kind = 3) && decide (o.entered < o.rows) && !(s.groupFaulted c o.slot)
    | none => false) with
  | none => s
  | some i =>
    match k.mx.queue[i]? with
    | none => s
    | some o =>
      let w := (k.mx.setOf o.set).cfg
      if k.scratchBadAt o.slot (o.addr + o.entered * o.stride) (cfgRowBytes w) ||
          (cfgMxA w && k.scratchBadAt o.slot (o.scale + o.entered * (cfgK w / 32)) (cfgK w / 32)) then
        s.coreFault c o.slot (lowest o.threads) 0x03 o.pc (o.addr + o.entered * o.stride) true (some o.id)
      else
      let row := k.scratchRead o.slot (o.addr + o.entered * o.stride) (cfgRowBytes w)
      let sc := k.scratchRead o.slot (o.scale + o.entered * (cfgK w / 32)) (if cfgMxA w then cfgK w / 32 else 0)
      let codes := (List.range (cfgK w)).map (packedElem row (mxBits (cfgA w)))
      let s1 := s.modMx c (fun m => (m.passRow o.set (bits o.ctl 1 0) (o.base + o.entered) codes (sc.map BitVec.toNat)).setOp i
        { o with entered := o.entered + 1 })
      let tags := s1.groupTags c o.slot
      (s1.countEvent 0 c 0x03 1 o.queue (2 ^ cfgClass w)).addQty o.queue 0 (2 * cfgK w * 64) tags.1 tags.2

/-- Rows enter one after another. -/
def State.enterRows (s : State) (c : Nat) : Nat → State
  | 0 => s
  | n + 1 => State.enterRows (s.enterRow c) c n

/-! The limiter (R187, R400, R405). -/

/-- Droop limit of a plain (R404, R403): pwr_droop_admit while its own supply, or that of the spine, the front end or the router plain, has sagged, and while an over-current alarm clamps every
plain. -/
def State.droopLimit (s : State) (p : Nat) : Nat :=
  if s.pwr.clamp || bit s.pwr.droops p || bit s.pwr.droops 16 || bit s.pwr.droops 17 || bit s.pwr.droops 18 then s.num E.pwrDroopAdmit else 64

/-- Admit value in force in a plain: the least of the limits of Table 17.1 (R400). -/
def State.admitOf (s : State) (p : Nat) : Nat :=
  let x := s.plain p
  min (min x.cap x.thermal) (min x.pacing (min x.ramp (s.droopLimit p)))

/-- Which limits of a plain are below 64: bits [12:8] of PWR_PLAIN_STATE (Table 17.11). -/
def State.admitBy (s : State) (p : Nat) : Nat :=
  let x := s.plain p
  b2n (decide (x.cap < 64)) + 2 * b2n (decide (x.thermal < 64)) + 4 * b2n (decide (s.droopLimit p < 64)) + 8 * b2n (decide (x.ramp < 64)) +
    16 * b2n (decide (x.pacing < 64))

/-- Trace records 0x0D of the plains whose admission value has changed since `before` (Table 19.12). -/
def State.traceAdmit (s before : State) : State :=
  (List.range 16).foldl (fun t p =>
    if s.admitOf p = before.admitOf p then t else t.trace 6 0x0D 23 p 0xFFFF 0 0 (s.admitBy p) (s.admitOf p)) s

/-- Is a core one of a plain's? -/
def inPlain (p c : Nat) : Bool := decide (c / 24 = p)

/-- Rows that the first stream of a core still has to enter. -/
def Mx.rowsLeft (m : Mx) : Nat := sumNat (m.queue.map (fun o => if o.started ∧ o.kind = 3 then o.rows - o.entered else 0))

/-- The core of a plain whose windows the ramp follows: the first one with rows to enter (log entry 46). -/
def State.rampCore (s : State) (p : Nat) : Option Nat :=
  (s.cores.find? (fun e => inPlain p e.1 && decide (0 < e.2.mx.rowsLeft))).map Prod.fst

/-- The ramp at the start of a window of a plain (R405): 8 after an idle window, else the admission value in force in the window before, plus 2. -/
def State.rampWindow (s : State) (core : Nat) : State :=
  let p := core / 24
  if s.rampCore p ≠ some core then s
  else
    let idle := !s.cores.any (fun e => inPlain p e.1 && !decide (e.2.mx.window = 0))
    let r := if idle then 8 else min 64 (max 8 (s.admitOf p + 2))
    (s.modPlain p (fun x => { x with ramp := r })).traceAdmit s

/-- MX_LIMITER_WINDOW (R187, R400, R405): in a window of 64 steps, `ready` rows become ready at the edge, and at most the admission value of them enter; `steps` is the number of steps in which a row
was ready and the limiter held it, which is 0 unless it admits fewer rows than are ready. -/
def mxLimiterWindow (core ready steps : Nat) (s : State) : State :=
  if 384 ≤ core then s
  else
    let s0 := s.rampWindow core
    let m := (s0.core core).mx
    let want := min 64 (min ready m.rowsLeft)
    let n := min want (s0.admitOf (core / 24))
    let heldSteps := if n < want then min 64 steps else 0
    let s1 := s0.enterRows core n
    let s2 := s1.modMx core (fun m => { m with held := (m.held + heldSteps) % 2 ^ 64, window := n })
    match m.queue.head? with
    | some o => if heldSteps = 0 then s2 else s2.countEvent 0 core 0x04 heldSteps o.queue
    | none => s2

/-! The meanings. -/

/-- MX_CFG (R175). -/
def execMxCfg (is : Issue) (f : FmtMx) (s : State) : Host.Outcome State Fault Refusal :=
  .next (mxCfg is f s)
/-- MX_LDW (R176). -/
def execMxLdw (is : Issue) (f : FmtMx) (s : State) : Host.Outcome State Fault Refusal :=
  .next (mxLdw is f s)
/-- MX_SWAP (R177). -/
def execMxSwap (is : Issue) (f : FmtMx) (s : State) : Host.Outcome State Fault Refusal :=
  .next (mxSwap is f s)
/-- MX_STREAM (R178). -/
def execMxStream (is : Issue) (f : FmtMx) (s : State) : Host.Outcome State Fault Refusal :=
  .next (mxStream is f s)
/-- MX_RD (R179). -/
def execMxRd (is : Issue) (f : FmtMx) (s : State) : Host.Outcome State Fault Refusal :=
  .next (mxRd is f s)
/-- MX_CLR (R180). -/
def execMxClr (is : Issue) (f : FmtMx) (s : State) : Host.Outcome State Fault Refusal :=
  .next (mxClr is f s)
/-- MX_INSTR_START (R172). -/
def execMxInstrStart (core : Nat) (index : Nat) (s : State) : Host.Outcome State Fault Refusal :=
  .next (mxInstrStart core index s)
/-- MX_INSTR_COMPLETE (R172). -/
def execMxInstrComplete (core : Nat) (index : Nat) (s : State) : Host.Outcome State Fault Refusal :=
  .next (mxInstrComplete core index s)
/-- MX_LIMITER_WINDOW (R187). -/
def execMxLimiterWindow (core : Nat) (ready : Nat) (steps : Nat) (s : State) : Host.Outcome State Fault Refusal :=
  .next (mxLimiterWindow core ready steps s)

end Sys2Proof.Machine
end

