-- ==== Sys2Proof/Machine/Kill.lean ====
section
/-! DEFINITION. Machine/Kill.lean: the steps of a kill after its trigger (R120, R157, R231, R286, R287, Table 11.12): groups stop, stores settle and
resources are freed, and the skip walk ends the queue. The same settling serves the resets of queues and functions (R231). -/

namespace Sys2Proof.Machine

/-- Is a queue's context ending, so that its groups stop? -/
def State.ending (s : State) (q : Nat) : Bool := decide ((s.q q).state = .killing ∨ (s.q q).state = .resetting)

/-- CORE_GROUPS_STOP (R120, Table 11.12): the groups of an ending context stop issuing, on every core, and its DMA pieces stop. -/
def coreGroupsStop (queue : Nat) (s : State) : State :=
  if !s.ending queue then s
  else { s with
    cores := s.cores.mapVals (fun _ k => { k with groups := k.groups.mapVals (fun _ g => if g.queue = queue then { g with stopped := true } else g) })
    fe.engines := s.fe.engines.mapVals (fun _ e => match s.fe.nodes.get? e.node with
      | some n => if n.queue = queue then { e with stopped := true } else e
      | none => e) }

/-- Perform an entry of a store buffer at its point of coherence, or send it to another chip (R231). -/
def State.performStore (s : State) (c : Nat) (e : SbEntry) : State :=
  match e.target with
  | 0 =>
    (match s.homeWrite e.line e.data e.mask with
     | some t => t
     | none => { s with l2.refused := some e.line })
  | 1 => if e.left then s else (s.sendRuns c e e.runs).2
  | _ => e.runs.foldl (fun s r => s.hostWrite r.1 r.2) s

/-- Were the stores of an entry all issued by the faulting group after its faulting instruction, number n? An entry is performed or discarded whole, so one that holds any other store is
performed (R231). -/
def SbEntry.pastFault (e : SbEntry) (c : Nat) (point : Option (Nat × Nat × Nat)) : Bool :=
  match point with
  | some (core, slot, n) => decide (c = core ∧ e.slots = 2 ^ slot ∧ n < e.seq)
  | none => false

/-- Settle the buffered stores of a queue in one core: performed, but for those to the faulting page and those of the faulting group after its faulting instruction (Table 9.8). -/
def State.settleStores (s : State) (q c : Nat) : State :=
  let mine := (s.core c).sb.filter (fun e => decide (e.queue = q))
  let s1 := mine.foldl (fun s e =>
    if (s.q q).faultPage = some e.vpage ∨ e.pastFault c (s.q q).faultPoint then s else s.performStore c e) s
  s1.modCore c (fun k => { k with sb := k.sb.filter (fun e => !decide (e.queue = q)) })

/-- Was a release issued by the faulting group after its faulting instruction? -/
def Bar.pastFault (b : Bar) (id : Nat) (point : Option (Nat × Nat × Nat)) : Bool :=
  match point with
  | some (core, slot, n) => decide (b.core = core ∧ b.slot = slot ∧ n < id)
  | none => false

/-- Releases of a queue whose instructions had issued are performed: ST.REL makes its store, and a SYNC release its operation; those of the faulting group after its faulting
instruction are discarded. -/
def State.settleReleases (s : State) (q : Nat) (stores : Bool) : State :=
  (s.l2.bars.filter (fun e => decide (e.2.queue = q) && decide (e.2.store.isSome = stores))).foldl (fun s e =>
    if e.2.pastFault e.1 (s.q q).faultPoint then s
    else match e.2.store, e.2.sync with
    | some l, _ => s.storePieces e.2.core e.2.slot { queue := q, node := e.2.node, slot := e.2.slot, after := 0, holdLoads := [] } l
    | none, some (m, h) => s.sendRelease e.2 m h
    | none, none => s) s

/-- Does an atomic still have a piece to perform on this chip or on the host, or one to send to a chip that a route reaches? -/
def State.atomOpen (s : State) (a : Atom) : Bool :=
  match a.next with
  | none => false
  | some x => !decide (x.target = 1) || s.reaches (bits x.pa 59 48)

/-- Have the groups of a queue stopped, with their atomics performed (R120)? -/
def State.groupsStopped (s : State) (q : Nat) : Bool :=
  !s.cores.vals.any (fun k => k.groups.vals.any (fun g => decide (g.queue = q) && !g.stopped)) &&
    !s.l2.atoms.vals.any (fun a => decide (a.queue = q) && s.atomOpen a)

/-- Remove every waiter of a queue, and its waits on their way, without release (R157); waits on other chips' objects are cancelled there. -/
def State.dropQueueWaits (s : State) (q : Nat) : State :=
  let s1 := s.dropWaiters (fun w => decide (w.queue = q))
  let far := s1.fab.remoteWaits.filter (fun e => decide (e.2.queue = q))
  let s2 := far.foldl (fun s e => s.cancelFar e.1 e.2.queue .stale) s1
  { s2 with
    syn.outbound := s2.syn.outbound.filter (fun r => !(r.isWait && decide (r.queue = q)))
    fab.reqs := s2.fab.reqs.mapVals (fun _ r => match r.issuer with
      | .sync _ isWait _ => if isWait && decide (r.queue = q) then { r with issuer := .deadWait } else r
      | .cancel _ => if r.queue = q then { r with issuer := .stale } else r
      | _ => r)
    fab.remoteWaits := s2.fab.remoteWaits.keep (fun _ w => !decide (w.queue = q)) }

/-- Free what a queue's groups hold on one core: matrix entries, slots and blocks. -/
def State.freeCore (s : State) (q c : Nat) : State :=
  let k := s.core c
  let slots := (k.groups.keep (fun _ g => decide (g.queue = q))).keys
  let blocks := (k.blocks.keep (fun _ b => decide (b.queue = q))).keys
  let s1 := s.modMx c (fun m => { m with queue := m.queue.filter (fun o => !decide (o.queue = q)) })
  let s2 := slots.foldl (fun s sl => s.freeSlot c sl) s1
  let s3 := blocks.foldl (fun s b => s.freeBlock c b 2) s2
  s3

/-- Free the control-core contexts and DMA engines of a queue; each has held its work up to now (quantity 6 of Table 19.7). -/
def State.freeAgents (s : State) (q : Nat) : State :=
  let s1 := (s.plansOfQueue q).foldl (fun s e =>
    let tags := s.planTags e.1
    let s := s.unwant (fun i => match i with
      | .plan c => decide (c = e.1)
      | .planCode c _ => decide (c = e.1)
      | _ => false)
    State.addQty { s with fe.plans := s.fe.plans.del e.1, l2.resv := s.l2.resv.del e.1 } q 6 (s.time.mono - e.2.since) tags.1 tags.2) s
  (s1.fe.engines.filter (fun e => match s1.fe.nodes.get? e.2.node with
    | some n => decide (n.queue = q)
    | none => false)).foldl (fun s e =>
      let tags := s.nodeTags e.2.node
      State.addQty { s with fe.engines := s.fe.engines.del e.1 } q 6 (s.time.mono - e.2.since) tags.1 tags.2) s1

/-- Shares and descriptors of a queue end without a completion record, but for a descriptor that has ended with a fault of its own (R93, R97, Table 11.12). -/
def State.dropShares (s : State) (q : Nat) : State :=
  State.setShares { s with
    nwt.waiting := s.nwt.waiting.filter (fun h => !decide (h.queue = q))
    nwt.descs := s.nwt.descs.keep (fun _ d => !decide (d.queue = q) || !decide (d.status = 0)) } (fun l => l.filter (fun h => !decide (h.queue = q)))

/-- Settle an ending context: stores, releases, core resources, waits, plans, engines, shares and collectives. -/
def State.settle (s : State) (q : Nat) : State :=
  let cores := s.cores.keys
  let s1 := s.settleReleases q true
  let s2 := cores.foldl (fun s c => s.settleStores q c) s1
  let s3 := s2.settleReleases q false
  let s4 : State := { s3 with
    l2.loads := s3.l2.loads.keep (fun _ l => !decide (l.queue = q)), l2.atoms := s3.l2.atoms.keep (fun _ a => !decide (a.queue = q))
    l2.bars := s3.l2.bars.keep (fun _ b => !decide (b.queue = q)) }
  let s5 := cores.foldl (fun s c =>
    let held := (s.syn.objs.vals.flatMap (fun x => x.waiters)).countP (fun w => match w.who with
        | .core c' _ _ _ _ _ => decide (c' = c) && decide (w.queue = q)
        | _ => false) +
      (s.syn.registering ++ s.syn.retrying).countP (fun e => match e.2.who with
        | .core c' _ _ _ _ _ => decide (c' = c) && decide (e.2.queue = q)
        | _ => false) +
      s.syn.outbound.countP (fun r => match r.who with
        | .core c' _ _ _ _ _ => decide (c' = c) && r.isWait && decide (r.queue = q)
        | _ => false) +
      s.fab.reqs.vals.countP (fun r => match r.issuer with
        | .sync (.core c' _ _ _ _ _) isWait _ => decide (c' = c) && isWait && decide (r.queue = q)
        | _ => false) +
      s.fab.remoteWaits.vals.countP (fun w => match w.who with
        | .core c' _ _ _ _ _ => decide (c' = c) && decide (w.queue = q)
        | _ => false)
    (s.freeCore q c).modCore c (fun k => { k with waits := k.waits - held })) s4
  (((s5.dropQueueWaits q).freeAgents q).dropShares q).abandonColls q

/-- CORE_KILL_SETTLED (R120, R231): once the groups have stopped and their atomics are performed. -/
def coreKillSettled (queue : Nat) (s : State) : State :=
  if !s.ending queue ∨ (s.q queue).settled ∨ !s.groupsStopped queue then s
  else (s.settle queue).modQ queue (fun x => { x with settled := true })

/-! The skip walk (R287). -/

/-- A transition of an object to ERROR with the kill code, for a handle that R158 admits; nothing else happens for any other. None while 16,384 requests are unanswered (R364). -/
def State.errorHandle (s : State) (q h code node : Nat) : Option State :=
  if 2 ^ 29 ≤ h then some s
  else match handleChip h s.fab.chipId with
    | some chip =>
      let r := s.sendSync (fnOfQueue q) q chip (handleObj h) (16 + code) 0 4 (.node node) false
      if r.1 = 0x100 then none else if r.1 = 0 then some r.2 else some s
    | none =>
      some { s with syn.inbound := s.syn.inbound ++ [{ obj := handleObj h, op := 16 + code, value := 0, queue := q, scope := 2, who := .node node }] }

/-- The handle whose object a skipped node sets to ERROR: that of a SIGNAL, or of a COPY with signal set, its check failed or not. -/
def Node.errorAt (n : Node) : Option Nat :=
  if n.type = 5 then some (n.get 0x18 4) else if n.type = 2 ∧ n.copySignal then some (n.get 0x30 4) else none

/-- Skip one node: the error of the object that it would have signalled, its trace record, its count, and the unpins of editions that it holds without a graph (R275). -/
def State.skipNode (s : State) (code id : Nat) (n : Node) : Option State :=
  match (match n.errorAt with
    | some h => s.errorHandle n.queue h code id
    | none => some s) with
  | none => none
  | some s1 =>
    let s2 := (s1.traceFe 0x02 n.queue n.layer n.operator n.type 1).addQty n.queue 7 1 n.layer n.operator
    some (n.pins.foldl (fun s e => s.unpinEdition n.queue e.1 e.2 id)
      { s2 with fe.nodes := s2.fe.nodes.put id { n with status := .skipped, pins := [] } })

/-- A pass of the walk: it goes on, has to wait for something, or has nothing left to do. -/
inductive Walk
  | on (s : State)
  | wait (s : State)
  | over (s : State)

/-- Is something that the front end reads on its way from another chip? -/
def State.feComing (s : State) (who : FeWho) : Bool := s.fab.reqs.vals.any (fun r => match r.issuer with
  | .line w _ => decide (w = who)
  | _ => false)

/-- Read the next node of a running graph of the queue that has not been fetched. Nodes in host memory that is shut are passed over. -/
def State.walkGraph (s : State) (gid : Nat) (g : Graph) : Walk :=
  match s.readGraphNode gid g g.fetched with
  | .wait t => if t.feComing (.graph gid g.fetched) then .wait t else .on { s with fe.graphs := s.fe.graphs.put gid { g with count := g.fetched } }
  | .got n t =>
    let t1 := t.enterNode n
    .on { t1 with fe.graphs := t1.fe.graphs.put gid { g with fetched := g.fetched + 1 } }

/-- Pin the graph of a CALL that had not started. One whose header or word cannot be asked for is passed over. -/
def State.walkCall (s : State) (id : Nat) (n : Node) : Walk :=
  match s.pin n.queue n.ring (some id) none (n.depth + 1) (n.get 0x18 8) (n.get 0x20 8) (.node id) with
  | .wait t => if t.feComing (.node id) then .wait t else .on (s.pinFailed id (n.get 0x18 8) 0x0D none)
  | .bad c ed t => .on (t.pinFailed id (n.get 0x18 8) c ed)
  | .ok g t => .on { t with
      fe.nodes := t.fe.nodes.put id { n with status := .running }, fe.graphs := t.fe.graphs.put t.fe.nextGraph g, fe.nextGraph := t.fe.nextGraph + 1 }

/-- One step of the walk's reading: the rest of a running graph, then the graph of a CALL that had not started, then the ring up to the write pointer at the trigger. The ring of a
function whose host memory is shut is passed over. -/
def State.walkRead (s : State) (q : Nat) : Walk :=
  let x := s.q q
  match s.fe.graphs.find? (fun e => decide (e.2.queue = q) && decide (e.2.fetched < e.2.count)) with
  | some e => s.walkGraph e.1 e.2
  | none =>
    match s.fe.nodes.find? (fun e => decide (e.2.queue = q) && decide (e.2.type = 7) && decide (e.2.status = .waiting) && decide (e.2.check = 0)) with
    | some e => s.walkCall e.1 e.2
    | none =>
      if x.killInFlight ∨ x.fetch = x.killWrite then .over s
      else match s.readRingNode q x.fetch with
        | none => .over s
        | some (n, t) => .on ((t.enterNode n).modQ q (fun x => { x with fetch := (x.fetch + 1) % 2 ^ 32 }))

/-- One step of the walk's skipping, in fetch order; a graph is unpinned after its nodes. -/
def State.walkSkip (s : State) (q : Nat) : Walk :=
  match s.fe.nodes.find? (fun e => decide (e.2.queue = q) && !e.2.finished) with
  | some e => (match s.skipNode (s.q q).killCode e.1 e.2 with
    | some t => .on t
    | none => .wait s)
  | none => match s.fe.graphs.find? (fun e => decide (e.2.queue = q)) with
    | some e => .on (State.unpin { s with fe.graphs := s.fe.graphs.del e.1 } e.2 0)
    | none => .over s

/-- Take steps of the walk until it waits or is over. -/
def walkAll (step : State → Walk) : Nat → State → Walk
  | 0, s => .wait s
  | k + 1, s => match step s with
    | .on t => walkAll step k t
    | r => r

/-- More steps than one command of a walk takes. -/
def walkFuel : Nat := 2 ^ 64

/-- Forget everything that the front end holds for a queue. -/
def State.dropWork (s : State) (q : Nat) : State :=
  let mine (id : Nat) : Bool := match s.fe.nodes.get? id with
    | some n => decide (n.queue = q)
    | none => false
  { s with
    fe.launches := s.fe.launches.keep (fun _ l => !decide (l.queue = q)), fe.copies := s.fe.copies.keep (fun _ c => !decide (c.queue = q))
    fe.handles := s.fe.handles.keep (fun id _ => !mine id), fe.graphs := s.fe.graphs.keep (fun _ g => !decide (g.queue = q))
    fe.nodes := s.fe.nodes.keep (fun _ n => !decide (n.queue = q)), fe.got := s.fe.got.filter (fun x => !decide (x.queue = q)) }

/-- The end of a walk (R292, Table 11.12): the queue enters KILLED with its read pointer at the end of the walk; entries passed with their irq flag signal the completion vector, and
the error vector is signalled. -/
def State.walkEnd (s : State) (q : Nat) : State :=
  let x := s.q q
  let stop := if x.killInFlight then x.fetch else x.killWrite
  let irq := s.fe.nodes.vals.any (fun n => decide (n.queue = q) && n.graph.isNone && n.irq)
  let s1 := ((s.dropWork q).modQ q (fun y => { y with
      state := .killed, read := stop, fetch := stop, savedBlocks := [], savedPlans := [], savedNone := false, saveUsed := 0
      slicePreempt := false, faultPage := none, faultPoint := none, killInFlight := false }))
  (if irq then s1.sigDone q else s1).sigError q

/-- SKIP_WALK (R287, Table 11.12): after settling. Everything that is left is read, the graphs of CALLs that had not started among it, then skipped in fetch order. A walk that has to wait
for another chip goes on at the next command. -/
def skipWalk (queue : Nat) (s : State) : State :=
  let x := s.q queue
  if x.state ≠ .killing ∨ !x.settled then s
  else match walkAll (fun s => s.walkRead queue) walkFuel s with
    | .over t => (match walkAll (fun s => s.walkSkip queue) walkFuel t with
      | .over u => u.walkEnd queue
      | .wait u => u
      | .on u => u)
    | .wait t => t
    | .on t => t

/-! The meanings. -/

/-- CORE_GROUPS_STOP (R120). -/
def execCoreGroupsStop (queue : Nat) (s : State) : Host.Outcome State Fault Refusal :=
  .next (coreGroupsStop queue s)
/-- CORE_KILL_SETTLED (R120). -/
def execCoreKillSettled (queue : Nat) (s : State) : Host.Outcome State Fault Refusal :=
  .next (s.unit 10 queue (coreKillSettled queue))
/-- SKIP_WALK (R287). -/
def execSkipWalk (queue : Nat) (s : State) : Host.Outcome State Fault Refusal :=
  .next (s.unit 11 queue (skipWalk queue))

end Sys2Proof.Machine
end

