-- ==== Sys2Proof/Machine/GranuleCode.lean ====
section
/-! DEFINITION. Machine/GranuleCode.lean: the Reed-Solomon code of a granule, its syndrome, the poisoned form and the decoder (R44, R45, R47). -/

namespace Sys2Proof.Machine

/-! The field GF(2^8) with x^8 + x^4 + x^3 + x^2 + 1 and α = 2 (R44). -/

/-- Sum of two symbols. -/
def gfAdd (a b : Nat) : Nat := natXor 8 a b

/-- A symbol times α. -/
def gfTwice (a : Nat) : Nat := if a % 256 < 128 then a % 256 * 2 else natXor 8 (a % 128 * 2) 0x1D

/-- A symbol times α to the power `n`. -/
def gfShift (a : Nat) : Nat → Nat
  | 0 => a % 256
  | n + 1 => gfTwice (gfShift a n)

/-- Product of two symbols, by the bits of the second. -/
def gfMul (a b : Nat) : Nat := (List.range 8).foldl (fun acc i => if bit b i then gfAdd acc (gfShift a i) else acc) 0

/-- Inverse of a symbol: its power 254, which is the product of its powers 2, 4, … and 128. -/
def gfInv (a : Nat) : Nat := ((List.range 7).foldl (fun acc _ => let q := gfMul acc.2 acc.2; (gfMul acc.1 q, q)) (1, a)).1

/-! The code (R44). -/

/-- The generator polynomial (x − α⁰)(x − α¹)(x − α²)(x − α³), leading coefficient first. -/
def granuleGenerator : List Nat :=
  (List.range 4).foldl (fun g i => List.zipWith gfAdd (g ++ [0]) (0 :: g.map (fun c => gfShift c i))) [1]

/-- One step of the division by the generator: a symbol enters and the remainder of four symbols moves. -/
def remainderStep (r : List Nat) (d : Nat) : List Nat :=
  List.zipWith (fun x c => gfAdd x (gfMul c (gfAdd d (r.getD 0 0)))) (r.drop 1 ++ [0]) (granuleGenerator.drop 1)

/-- The four check symbols of 16 data symbols, which make the codeword divisible by the generator. -/
def checkSymbols (data : List Nat) : List Nat := data.foldl remainderStep [0, 0, 0, 0]

/-- The 20 symbols of a granule as stored and carried: the check symbols of a poisoned one are each XORed with 0xA5 (R44, R47). -/
def codeword (data : List Byte) (poison : Bool) : List Nat :=
  let d := (List.range 16).map (fun i => (data.getD i 0#8).toNat)
  d ++ (checkSymbols d).map (fun c => if poison then gfAdd c 0xA5 else c)

/-- Syndrome of a word: its values at α⁰, α¹, α² and α³. -/
def syndrome (word : List Nat) : List Nat :=
  (List.range 4).map (fun i => word.foldl (fun acc c => gfAdd (gfShift acc i) c) 0)

/-- A word with symbols changed, as positions and differences. -/
def withErrors (word : List Nat) (errs : List (Nat × Nat)) : List Nat :=
  errs.foldl (fun w e => w.set e.1 (gfAdd (w.getD e.1 0) e.2)) word

/-- The differences at one or two positions that give a syndrome, if there are any. -/
def explain (syn positions : List Nat) : Option (List (Nat × Nat)) :=
  let found : List (Nat × Nat) := match positions with
    | [p] => [(p, syn.getD 0 0)]
    | [p, q] =>
      let m := gfMul (gfAdd (syn.getD 1 0) (gfShift (syn.getD 0 0) (19 - p))) (gfInv (gfAdd (gfShift 1 (19 - p)) (gfShift 1 (19 - q))))
      [(p, gfAdd (syn.getD 0 0) m), (q, m)]
    | _ => []
  if syndrome (withErrors (List.replicate 20 0) found) = syn then some found else none

/-- Is a received word in the poisoned form, but for its erased symbols (R47)? -/
def poisonWord (erased word : List Nat) : Bool :=
  (explain (List.zipWith gfAdd (syndrome word) (syndrome (codeword [] true))) erased).isSome

/-- The decoder (R45): the erased symbols and, while at most one is erased, one symbol elsewhere are restored. The answer is that position and the data; none where no such
correction fits the syndrome. -/
def decodeWord (erased word : List Nat) : Option (Option Nat × List Byte) :=
  let syn := syndrome word
  let data (m : List (Nat × Nat)) : List Byte := ((withErrors word m).take 16).map (BitVec.ofNat 8)
  match explain syn erased with
  | some m => some (none, data m)
  | none =>
    if 2 ≤ erased.length then none
    else ((List.range 20).filter (fun p => !erased.contains p)).findSome? (fun p => (explain syn (erased ++ [p])).map (fun m => (some p, data m)))

end Sys2Proof.Machine
end

