-- ==== Sys2Proof/Machine/NewtOps.lean ====
section
/-! DEFINITION. Machine/NewtOps.lean: descriptors and their checks (R68 to R71, Tables 4.3 to 4.8), the newts' element formats (Table 4.6), attention records and their merge
(R77 to R80), and the newts' reads and writes (R67, R88, R89). -/

namespace Sys2Proof.Machine

/-! Formats. -/

/-- An element format of Table 4.6. -/
inductive NFmt
  | raw
  | flt (f : Fmt)
  | mx (f : Option Fmt) (w : Nat)
  | int (w : Nat) (signed : Bool)
  | bad
deriving DecidableEq, Repr

/-- The format of a code (Table 4.6). -/
def nfmt (c : Nat) : NFmt :=
  match c with
  | 0x00 => .raw
  | 0x01 => .flt .fp32
  | 0x02 => .flt .bf16
  | 0x03 => .flt .fp16
  | 0x04 => .flt .e4m3
  | 0x05 => .flt .e5m2
  | 0x06 => .mx (some .e4m3) 8
  | 0x07 => .mx (some .e5m2) 8
  | 0x08 => .mx (some .e2m1) 4
  | 0x09 => .mx none 8
  | 0x0A => .int 8 true
  | 0x0B => .int 32 true
  | 0x0C => .int 32 false
  | 0x0D => .int 64 true
  | 0x0E => .int 64 false
  | _ => .bad

/-- Bits of an element. -/
def NFmt.width : NFmt → Nat
  | .raw => 8
  | .flt f => f.width
  | .mx _ w => w
  | .int w _ => w
  | .bad => 8

/-- Is a format held with block scales? -/
def NFmt.isMx : NFmt → Bool
  | .mx _ _ => true
  | _ => false

/-- Largest exponent of an MX element format (R83). -/
def NFmt.emax : NFmt → Nat
  | .mx (some f) _ => if f = .e4m3 then 8 else if f = .e5m2 then 15 else 2
  | _ => 0

/-- Value of a code under a scale byte. -/
def NFmt.val (n : NFmt) (scale code : Nat) : FVal :=
  match n with
  | .flt f => f.decode code
  | .mx f _ => mxValue f scale code
  | .int w sg => .ofInt (intVal w sg code)
  | _ => .ofInt (code : Nat)

/-- Code of a value, without block scale; floats as Table 8.3a gives with sat clear. -/
def NFmt.enc (n : NFmt) (r : Rnd) (v : FVal) : Nat :=
  match n with
  | .flt f => f.encode r false v
  | .int w sg => wrapInt w (v.toInt r (intMin w sg) (intMax w sg))
  | _ => 0

/-- Code of a value of a source format: an integer that goes to an integer type keeps its low bits, since sat is clear (R198). -/
def NFmt.conv (source n : NFmt) (r : Rnd) (v : FVal) : Nat :=
  match source, n with
  | .int _ _, .int w _ => wrapInt w (v.toInt r (-2 ^ 65) (2 ^ 65))
  | _, _ => n.enc r v

/-- Bytes of codes of a width: 4-bit codes two to a byte, low half first. -/
def packCodes (w : Nat) : List Nat → List Nat
  | [] => []
  | [a] => if w = 4 then [a % 16] else (leBytes (w / 8) a).map BitVec.toNat
  | a :: b :: t => if w = 4 then (a % 16 + 16 * (b % 16)) :: packCodes w t else (leBytes (w / 8) a).map BitVec.toNat ++ packCodes w (b :: t)

/-- Codes of a width from bytes. -/
def unpackCodes (w : Nat) (l : List Nat) : List Nat :=
  if w = 4 then l.flatMap (fun b => [b % 16, b / 16])
  else (List.range (l.length / (w / 8))).map (fun i =>
    ((l.drop (i * (w / 8))).take (w / 8)).foldr (fun b a => b + 256 * a) 0)

/-! Operation blocks (Table 4.4). -/

/-- An operation block of 64 bytes. -/
abbrev NOp := List Byte

end Sys2Proof.Machine

namespace Sys2Proof.Machine.NOp

/-- Opcode. -/
def opcode (o : NOp) : Nat := fieldAt o 0 1
/-- Source format. -/
def fin (o : NOp) : NFmt := nfmt (fieldAt o 1 1)
/-- Result format. -/
def fout (o : NOp) : NFmt := nfmt (fieldAt o 2 1)
/-- link.src_prev. -/
def srcPrev (o : NOp) : Bool := bit (fieldAt o 3 1) 0
/-- link.dst_next. -/
def dstNext (o : NOp) : Bool := bit (fieldAt o 3 1) 1
/-- link.rounding. -/
def rounding (o : NOp) : Nat := bits (fieldAt o 3 1) 3 2
/-- count. -/
def count (o : NOp) : Nat := fieldAt o 4 4
/-- src. -/
def src (o : NOp) : Nat := fieldAt o 8 8
/-- dst. -/
def dst (o : NOp) : Nat := fieldAt o 0x10 8
/-- aux. -/
def aux (o : NOp) : Nat := fieldAt o 0x18 8

/-- Elements in a row: d of ATTN.PART and KV.APPEND, row_elems of GATHER.REDUCE and SCATTER. -/
def rowElems (o : NOp) : Nat :=
  match o.opcode with
  | 0x01 => fieldAt o 0x38 2
  | 0x02 => fieldAt o 0x2C 2
  | 0x07 => fieldAt o 0x26 2
  | _ => fieldAt o 0x30 4

/-- Bytes of a row of the primary operand. -/
def rowBytes (o : NOp) : Nat := o.rowElems * (if o.opcode = 2 then o.fout else o.fin).width / 8

/-- Mode of GATHER.REDUCE and SCATTER, or of REDUCE. -/
def mode (o : NOp) : Nat := if o.opcode = 0x07 then fieldAt o 0x24 1 else fieldAt o 0x38 1

/-- Bytes of an index. -/
def indexBytes (o : NOp) : Nat := if fieldAt o 0x39 1 = 0 then 4 else 8

/-- Bytes of an attention record (R78). -/
def recBytes (o : NOp) : Nat := 64 + 4 * o.rowElems

/-- Format of the elements that a linked stream carries: the result format, or the 32-bit words of the records that ATTN_MERGE forms (log entry 103). -/
def outFmt (o : NOp) : NFmt := if o.opcode = 0x07 ∧ o.mode = 3 then .flt .fp32 else o.fout

end Sys2Proof.Machine.NOp

namespace Sys2Proof.Machine

/-- Fields that an operation does not use, which are zero (R76); the src of one that takes a linked input is ignored (R69). -/
def NOp.zeros (o : NOp) : List (Nat × Nat) :=
  match o.opcode with
  | 0x01 => [(0x3B, 1)]
  | 0x02 => [(0x18, 8), (0x2E, 18)]
  | 0x03 => [(0x3A, 2)]
  | 0x04 => [(0x20, 16), (0x34, 4), (0x3A, 2)]
  | 0x05 => [(0x18, 8), (0x20, 32)]
  | 0x06 => [(0x08, 8), (0x18, 8), (0x28, 24)]
  | 0x07 => (if o.srcPrev then [] else [(0x08, 8)]) ++ [(0x25, 1), (0x28, 24)]
  | 0x08 => [(0x18, 8), (0x2C, 20)]
  | 0x09 => [(0x18, 8), (0x2C, 20)]
  | 0x0A => [(0x22, 6), (0x30, 16)]
  | 0x0B => [(0x18, 8), (0x21, 3), (0x28, 24)]
  | _ => [(0x18, 8), (0x23, 29)]

/-- The encodings of an operation's own fields (Table 4.8, R77, R81, R82, R84, R85). -/
def NOp.fieldsOk (o : NOp) : Bool :=
  let a := fieldAt o 1 1
  let b := fieldAt o 2 1
  match o.opcode with
  | 0x01 => [2, 4, 5, 6, 7, 8].contains a && [64, 128, 256].contains o.rowElems && decide (1 ≤ fieldAt o 0x3A 1 ∧ fieldAt o 0x3A 1 ≤ 16)
  | 0x02 => decide (a = 1 ∨ a = 2) && decide (1 ≤ b ∧ b ≤ 14)
  | 0x03 => [1, 2, 3, 4, 5, 10].contains a && [1, 2, 11].contains b && decide (o.mode ≤ 2 ∧ fieldAt o 0x39 1 ≤ 1)
  | 0x04 => (if o.mode = 1 then decide (a = 1 ∨ a = 11) else decide (a ≤ 14)) && decide (o.mode ≤ 1 ∧ fieldAt o 0x39 1 ≤ 1)
  | 0x05 => true
  | 0x06 => true
  | 0x07 =>
    let n := fieldAt o 0x20 4
    let plain (c : Nat) : Bool := decide (1 ≤ c ∧ c ≤ 14) && !(nfmt c).isMx
    decide (o.mode ≤ 4) && (if o.mode = 4 then decide (n = 1) else decide (2 ≤ n ∧ n ≤ 64)) &&
      (if o.mode ≤ 2 then plain a && plain b else if o.mode = 4 then plain b else true)
  | 0x08 => decide (1 ≤ a ∧ a ≤ 14) && !o.fin.isMx && decide (1 ≤ b ∧ b ≤ 14)
  | 0x09 => decide (1 ≤ a ∧ a ≤ 14) && decide (1 ≤ b ∧ b ≤ 14) && !o.fout.isMx
  | 0x0A => atomListed (fieldAt o 0x20 1) (fieldAt o 0x21 1) && decide (fieldAt o 0x21 1 = 4 ∨ fieldAt o 0x21 1 = 8)
  | 0x0B => decide (fieldAt o 0x20 1 = 0) || (decide (fieldAt o 0x20 1 = 1) && decide (o.count % 8 = 0))
  | 0x0C => decide (fieldAt o 0x20 2 < 4096) && decide (fieldAt o 0x22 1 ≤ 1)
  | _ => false

/-- One operation's encodings. -/
def NOp.ok (o : NOp) : Bool :=
  decide (fieldAt o 1 1 ≤ 14 ∧ fieldAt o 2 1 ≤ 14) && decide (fieldAt o 3 1 < 16) && decide (o.rounding ≠ 3) &&
    o.zeros.all (fun z => decide (fieldAt o z.1 z.2 = 0)) && o.fieldsOk

/-- May the output of one operation go to the next (Table 4.7)? -/
def linkAllowed (p c : NOp) : Bool :=
  let x := p.opcode
  let y := c.opcode
  (decide (x = 3 ∨ x = 7 ∨ x = 9) && decide (y = 8 ∨ y = 11 ∨ y = 4)) ||
    (decide (x = 1) && decide (y = 7) && decide (c.mode = 4)) || (decide (x = 5 ∨ x = 8) && decide (y = 11))

/-- The links of consecutive operations (R69). -/
def linksOk : Option NOp → List NOp → Bool
  | none, [] => true
  | some p, [] => !p.dstNext
  | none, o :: t => !o.srcPrev && linksOk (some o) t
  | some p, o :: t => (p.dstNext == o.srcPrev) && (!p.dstNext || (linkAllowed p o && decide (p.count = o.count))) && linksOk (some o) t

/-! Descriptors (Table 4.3). -/

/-- Operations of a descriptor's bytes. -/
def descOps (raw : List Byte) : List NOp := (List.range (fieldAt raw 1 1)).map (fun k => (raw.drop (64 + 64 * k)).take 64)

/-- Is the header well formed? -/
def headerOk (h : List Byte) : Bool :=
  decide (fieldAt h 0 1 = 1) && decide (1 ≤ fieldAt h 1 1 ∧ fieldAt h 1 1 ≤ 4) && decide (fieldAt h 2 1 ≤ 1) && decide (fieldAt h 3 1 < 8) &&
    (if fieldAt h 2 1 = 0 then decide (fieldAt h 4 4 < 640) else decide (1 ≤ fieldAt h 4 4 ∧ fieldAt h 4 4 < 2 ^ 20)) && zeroAt h 0x18 40

/-- The front end's check of a whole descriptor (R68). -/
def descOk (raw : List Byte) : Bool := headerOk raw && (descOps raw).all NOp.ok && linksOk none (descOps raw)

end Sys2Proof.Machine

namespace Sys2Proof.Machine.Desc

/-- Operation k. -/
def op (d : Desc) (k : Nat) : NOp := (d.raw.drop (64 + 64 * k)).take 64
/-- op_count. -/
def opCount (d : Desc) : Nat := fieldAt d.raw 1 1
/-- Stack split. -/
def isSplit (d : Desc) : Bool := decide (fieldAt d.raw 2 1 = 1)
/-- serialise. -/
def serialise (d : Desc) : Bool := bit (fieldAt d.raw 3 1) 0
/-- keep_partials. -/
def keepPartials (d : Desc) : Bool := bit (fieldAt d.raw 3 1) 1
/-- require_local. -/
def requireLocal (d : Desc) : Bool := bit (fieldAt d.raw 3 1) 2
/-- target. -/
def target (d : Desc) : Nat := fieldAt d.raw 4 4
/-- completion. -/
def completion (d : Desc) : Nat := fieldAt d.raw 8 8
/-- seed. -/
def seed (d : Desc) : Nat := fieldAt d.raw 0x10 8
/-- Targeted stacks, ascending. -/
def stackList (d : Desc) : List Nat := if d.isSplit then bitList 20 d.target else [d.target / 32]
/-- The newt that takes what no block decides: the named one, or channel 0 of the lowest targeted stack. -/
def lead (d : Desc) : Nat := if d.isSplit then 32 * d.stackList.headD 0 else d.target

/-- Rounding of element i of operation k (R71, Table 8.3). -/
def rnd (d : Desc) (k i : Nat) : Rnd :=
  match (d.op k).rounding with
  | 0 => .rne
  | 1 => .rz
  | _ => .sr (randOf (natXor 64 (natXor 64 d.seed (k * 2 ^ 62)) i))

/-- Elements are handled in groups of 32 when an operation reads or writes block scales. -/
def unit (d : Desc) : Nat :=
  if (List.range d.opCount).any (fun k => ((d.op k).opcode = 8 && (d.op k).fout.isMx) || ((d.op k).opcode = 9 && (d.op k).fin.isMx)) then 32 else 1

end Sys2Proof.Machine.Desc

namespace Sys2Proof.Machine

/-! Arithmetic of the lanes in FP32. -/

/-- Sum. -/
def f32Add (a b : Nat) : Nat := Fmt.fp32.add .rne false a b
/-- Product. -/
def f32Mul (a b : Nat) : Nat := Fmt.fp32.mul .rne false a b
/-- Difference. -/
def f32Sub (a b : Nat) : Nat := Fmt.fp32.encode .rne false ((Fmt.fp32.decode a).add (Fmt.fp32.decode b).negate)
/-- The exponential of R77. -/
def f32Exp (a : Nat) : Nat := specialFn 7 a
/-- Largest of two; a NaN propagates (R77). -/
def f32Max (a b : Nat) : Nat :=
  if (Fmt.fp32.decode a).isNan ∨ (Fmt.fp32.decode b).isNan then Fmt.fp32.nan else Fmt.fp32.minmax true a b
/-- Minus infinity. -/
def f32NegInf : Nat := 0xFF800000

/-- One level of a pairwise tree. -/
def treeStep {α : Type} (g : α → α → α) : List α → List α
  | a :: b :: t => g a b :: treeStep g t
  | l => l

/-- A pairwise tree over a list; the fuel bounds its levels. -/
def treeFold {α : Type} (g : α → α → α) : Nat → List α → Option α
  | 0, l => l.head?
  | _ + 1, [] => none
  | _ + 1, [a] => some a
  | n + 1, a :: b :: t => treeFold g n (treeStep g (a :: b :: t))

/-- Sum of FP32 codes by a pairwise tree; 0 for none. -/
def f32Tree (l : List Nat) : Nat := (treeFold f32Add l.length l).getD 0

/-- Sum in ascending order. -/
def f32Asc (l : List Nat) : Nat := l.foldl f32Add 0

/-! Attention records (R77 to R80). -/

/-- m, l, covered tokens and o of one record. -/
structure ARec where
  m : Nat
  l : Nat
  tokens : Nat
  o : List Nat
deriving DecidableEq, Repr

/-- A record of no tokens. -/
def ARec.none (d : Nat) : ARec := { m := f32NegInf, l := 0, tokens := 0, o := List.replicate d 0 }

/-- merge (R79). -/
def ARec.merge (a b : ARec) : ARec :=
  if a.tokens = 0 then b
  else if b.tokens = 0 then a
  else
    let m := f32Max a.m b.m
    let ca := f32Exp (f32Sub a.m m)
    let cb := f32Exp (f32Sub b.m m)
    { m := m, l := f32Add (f32Mul a.l ca) (f32Mul b.l cb), tokens := (a.tokens + b.tokens) % 2 ^ 32
      o := (a.o.zip b.o).map (fun e => f32Add (f32Mul e.1 ca) (f32Mul e.2 cb)) }

/-- merge_tree (R79). -/
def ARec.tree (d : Nat) (l : List ARec) : ARec := (treeFold ARec.merge l.length l).getD (ARec.none d)

/-- One block of tokens: scores and V rows (R77). -/
def ARec.block (r : ARec) (ts : List (Nat × List Nat)) : ARec :=
  match ts with
  | [] => r
  | _ =>
    let mb := ts.foldl (fun a t => f32Max a t.1) r.m
    let c := if r.m = f32NegInf then 0 else f32Exp (f32Sub r.m mb)
    let es := ts.map (fun t => (f32Exp (f32Sub t.1 mb), t.2))
    { m := mb, l := f32Add (f32Mul r.l c) (f32Asc (es.map Prod.fst)), tokens := r.tokens + ts.length
      o := r.o.mapIdx (fun i x => f32Add (f32Mul x c) (f32Asc (es.map (fun e => f32Mul e.1 (e.2.getD i 0))))) }

/-- The bytes of a record (Table 4.9). -/
def ARec.bytes (r : ARec) (row layer operator source : Nat) : List Byte :=
  leBytes 4 r.m ++ leBytes 4 r.l ++ leBytes 4 r.tokens ++ leBytes 2 row ++ leBytes 2 (b2n (decide (r.tokens = 0))) ++ leBytes 4 (layer % 2 ^ 24) ++
    leBytes 2 operator ++ leBytes 2 source ++ zeroBytes 40 ++ r.o.flatMap (leBytes 4)

/-- A record from its bytes; flags bit 0 says that it is empty. -/
def ARec.ofBytes (d : Nat) (l : List Byte) : ARec :=
  if bit (fieldAt l 0x0E 2) 0 then ARec.none d
  else { m := fieldAt l 0 4, l := fieldAt l 4 4, tokens := fieldAt l 8 4, o := (List.range d).map (fun i => fieldAt l (0x40 + 4 * i) 4) }

/-- A record as places and values of a partial. -/
def ARec.words (base : Nat) (r : ARec) : List (Nat × Nat) :=
  (base, r.m) :: (base + 1, r.l) :: r.o.mapIdx (fun i x => (base + 2 + i, x))

/-- A record from a partial's words. -/
def ARec.ofWords (d base tokens : Nat) (w : List (Nat × Nat)) : ARec :=
  if tokens = 0 then ARec.none d
  else
    let l := (w.drop base).map Prod.snd
    { m := l.headD 0, l := (l.drop 1).headD 0, tokens := tokens, o := (l.drop 2).take d }

/-! The newts' accesses. -/

/-- Which share works: function, queue, descriptor, newt, operation. -/
structure Wk where
  f : Nat
  q : Nat
  d : Nat
  newt : Nat
  k : Nat
deriving DecidableEq, Repr

/-- How a piece of newt work ends: a value and the state, or a status of Table 4.12 and the state with the writes that have landed. -/
inductive Nk (α : Type)
  | ok (a : α) (s : State)
  | bad (status : Nat) (s : State)

/-- Go on with a piece of work. -/
def Nk.bind {α β : Type} (x : Nk α) (g : α → State → Nk β) : Nk β :=
  match x with
  | .ok a s => g a s
  | .bad c s => .bad c s

/-- A condition, else a status. -/
def need (c : Bool) (status : Nat) (s : State) : Nk Unit := if c then .ok () s else .bad status s

/-- Change a descriptor. -/
def State.modDesc (s : State) (d : Nat) (g : Desc → Desc) : State :=
  { s with nwt.descs := s.nwt.descs.mapVals (fun k x => if k = d then g x else x) }

/-- The home writes a modified line back before a newt reads it (R88). -/
def State.newtClean (s : State) (line : Nat) : State := newtReadWriteback line 0 s

/-- Bytes of a range; 256 stands for a byte of a poisoned granule. -/
def State.newtBytes (s : State) (pa n : Nat) : List Nat :=
  (rangeFrom pa n).map (fun a => if s.pocGranulePoison (a / 16) then 256 else (s.pocByte a).toNat)

/-- Translate at the base die of a share's newt (R67). -/
def State.newtTr (s : State) (w : Wk) (va : Nat) (a : Access) : Tr × State := s.dieTranslate (w.newt / 32) w.f va a

/-- Read a range, page by page (R67, R88, R94). A page of another chip or of the host is out of the newt's reach (status 0x12). -/
def State.newtReadF (s : State) (w : Wk) : Nat → Nat → Nat → Nk (List Nat)
  | 0, _, _ => .ok [] s
  | k + 1, va, n =>
    if n = 0 then .ok [] s
    else
      let m := min n (2 ^ 16 - va % 2 ^ 16)
      match s.newtTr w va .read with
      | (.bad c, s0) => .bad c (s0.sawPoison c w.f va m)
      | (.ok t pa, s0) =>
        if t ≠ 0 then .bad 0x12 s0
        else
          let s1 := (linesOf pa m).foldl State.newtClean s0
          let l := s1.newtBytes pa m
          let s2 := (s1.countEvent 2 w.newt 0x21 (ceilDiv m 64) w.q).modDesc w.d (fun d => { d with bytesRead := d.bytesRead + m })
          (State.newtReadF s2 w k (va + m) (n - m)).bind (fun r t => .ok (l ++ r) t)

/-- Read a range with its poison. -/
def State.newtRead (s : State) (w : Wk) (va n : Nat) : Nk (List Nat) := s.newtReadF w (n / 2 ^ 16 + 2) va n

/-- Read bytes to compute on: poison ends the share with 0x03. -/
def State.newtGet (s : State) (w : Wk) (va n : Nat) : Nk (List Byte) :=
  (s.newtRead w va n).bind (fun l t => if l.contains 256 then .bad 0x03 (t.sawPoison 0x03 w.f va n) else .ok (l.map (BitVec.ofNat 8)) t)

/-- Read a number to compute on. -/
def State.newtNum (s : State) (w : Wk) (va n : Nat) : Nk Nat := (s.newtGet w va n).bind (fun l t => .ok (ofLe l) t)

/-- Write bytes, page by page, at the banks (R89); 256 lands as the poisoned form. -/
def State.newtWriteF (s : State) (w : Wk) : Nat → Nat → List Nat → Nk Unit
  | 0, _, _ => .ok () s
  | k + 1, va, l =>
    match l with
    | [] => .ok () s
    | _ =>
      let m := 2 ^ 16 - va % 2 ^ 16
      let now := l.take m
      match s.newtTr w va .write with
      | (.bad c, s0) => .bad c (s0.sawPoison c w.f va m)
      | (.ok t pa, s0) =>
        if t ≠ 0 then .bad 0x12 s0
        else
          let s1 := s0.agentWrite pa (now.map (BitVec.ofNat 8))
          let bads := (now.zipIdx.filter (fun e => decide (e.1 = 256))).map (fun e => (pa + e.2) / 16)
          let s2 := bads.eraseDups.foldl State.agentPoison s1
          let s3 := (s2.countEvent 2 w.newt 0x21 (ceilDiv now.length 64) w.q).modDesc w.d (fun d => { d with bytesWritten := d.bytesWritten + now.length })
          State.newtWriteF s3 w k (va + m) (l.drop m)

/-- Write bytes. -/
def State.newtWrite (s : State) (w : Wk) (va : Nat) (l : List Nat) : Nk Unit := s.newtWriteF w (l.length / 2 ^ 16 + 2) va l

/-- Write bytes that hold no poison. -/
def State.newtPut (s : State) (w : Wk) (va : Nat) (l : List Byte) : Nk Unit := s.newtWrite w va (l.map BitVec.toNat)

/-- A far atomic of a newt (R84): the target translates for writing, lies on this chip, and is aligned to its width. -/
def State.newtAtom (s : State) (w : Wk) (op bytes va a cmp : Nat) : Nk Nat :=
  if va % bytes ≠ 0 then .bad 0x11 s
  else match s.newtTr w va .write with
    | (.bad c, s0) => .bad c s0
    | (.ok t pa, s0) =>
      if t ≠ 0 then .bad 0x12 s0
      else match s0.farAtom op bytes pa a cmp with
        | .old v t => .ok v ((t.countEvent 2 (s.newtOf pa) 0x24 1 w.q).modDesc w.d (fun d => { d with
            bytesRead := d.bytesRead + bytes, bytesWritten := d.bytesWritten + bytes }))
        | _ => .bad 0x03 (s.sawPoison 0x03 w.f va bytes)

/-- Fold work over a list. -/
def nkFold {α β : Type} (g : β → α → State → Nk β) : List α → β → State → Nk β
  | [], b, s => .ok b s
  | a :: t, b, s => (g b a s).bind (fun c s1 => nkFold g t c s1)

/-- Do work for each member of a list. -/
def nkEach {α : Type} (g : α → State → Nk Unit) (l : List α) (s : State) : Nk Unit := nkFold (fun _ a s => g a s) l () s

end Sys2Proof.Machine
end

