-- ==== Sys2Proof/Machine/Newt.lean ====
section
/-! DEFINITION. Machine/Newt.lean: the newts (chapter 4): descriptors read and split into shares (R68, R72), delivery and start (R74, R75), the twelve operations (R76 to R86),
completion and faults (R91 to R96), gating (R99), and the page walker (R322). -/

namespace Sys2Proof.Machine

/-! Who owns what (R69, R72). -/

/-- Translation of the 512-byte block of an address, to read it, or else to write it. -/
def State.blockTr (s : State) (f va : Nat) : Tr :=
  match s.translate f (va / 512 * 512) .read with
  | .bad _ => s.translate f (va / 512 * 512) .write
  | t => t

/-- The newt that owns the 512-byte block of an address: that of its channel, or, in a stack that is not targeted, that of the same channel in the lowest targeted one. A block
without a translation to this chip falls to the lead newt. -/
def State.blockOwner (s : State) (f : Nat) (d : Desc) (va : Nat) : Nat :=
  if !d.isSplit then d.target
  else
    match s.blockTr f va with
    | .ok 0 pa =>
      let n := s.newtOf pa
      if bit d.target (n / 32) then n else d.lead + n % 32
    | _ => d.lead

/-- Does a block lie outside the targeted stacks (require_local, R72)? A descriptor of a single newt has no mask: its newt's own stack stands for it (log entry 104). -/
def State.blockOutside (s : State) (f : Nat) (d : Desc) (va : Nat) : Bool :=
  match s.blockTr f va with
  | .ok 0 pa => !bit (if d.isSplit then d.target else 2 ^ (d.target / 32)) (s.newtOf pa / 32)
  | _ => false

/-- A number of a list in memory, as the split reads it; 0 where it cannot be read. -/
def State.listNum (s : State) (f va n : Nat) : Nat :=
  match s.readV f va n with
  | .bytes l => ofLe l
  | .bad _ => 0

/-- Primary address of element c of an operation, counted in the operation's own unit (Tables 4.5 and 4.8). -/
def State.primaryAddr (s : State) (f : Nat) (o : NOp) (c : Nat) : Nat :=
  match o.opcode with
  | 0x01 => o.src + c * o.rowBytes
  | 0x02 => o.dst + (fieldAt o 0x28 4 + c) * o.rowBytes
  | 0x03 => o.src + s.listNum f (o.aux + c * o.indexBytes) o.indexBytes * o.rowBytes
  | 0x04 => o.dst + s.listNum f (o.aux + c * o.indexBytes) o.indexBytes * o.rowBytes
  | 0x07 => o.dst + c * (if o.mode = 3 then o.recBytes else if o.mode = 4 then o.rowElems * o.fout.width / 8 else o.fout.width / 8)
  | 0x08 => o.dst + c * o.fout.width / 8
  | 0x09 => o.src + c * o.fin.width / 8
  | 0x0A => s.listNum f (o.aux + 8 * c) 8
  | 0x0B => o.src + c
  | 0x0C => (if fieldAt o 0x22 1 = 0 then o.src else o.dst) + c
  | _ => o.dst + c

/-- The owner of element c of a later operation: that of the first operation's primary element of the same number, or of its last (R69; log entry 31). -/
def State.ownerLike (s : State) (f : Nat) (d : Desc) (c : Nat) : Nat :=
  let o := d.op 0
  if o.count = 0 then d.lead else s.blockOwner f d (s.primaryAddr f o (min (c / d.unit * d.unit) (o.count - 1)))

/-- Range of the primary operand of the first operation: address and bytes. -/
def primaryRange (o : NOp) : Nat × Nat :=
  match o.opcode with
  | 0x01 => (o.src, o.count * o.rowBytes)
  | 0x02 => (o.dst + fieldAt o 0x28 4 * o.rowBytes, o.count * o.rowBytes)
  | 0x03 => (o.src, if o.count = 0 then 0 else fieldAt o 0x3C 4 * o.rowBytes)
  | 0x04 => (o.dst, if o.count = 0 then 0 else fieldAt o 0x3C 4 * o.rowBytes)
  | 0x07 => (o.dst, o.count * (if o.mode = 3 then o.recBytes else if o.mode = 4 then o.rowElems * o.fout.width / 8 else o.fout.width / 8))
  | 0x08 => (o.dst, o.count * o.fout.width / 8)
  | 0x09 => (o.src, o.count * o.fin.width / 8)
  | 0x0B => (o.src, o.count)
  | 0x0C => (if fieldAt o 0x22 1 = 0 then o.src else o.dst, o.count)
  | _ => (o.dst, o.count)

/-- First addresses of the blocks of the primary operand. -/
def State.primaryBlocks (s : State) (f : Nat) (o : NOp) : List Nat :=
  if o.opcode = 0x0A then ((List.range o.count).map (fun c => s.primaryAddr f o c / 512 * 512)).eraseDups
  else
    let r := primaryRange o
    if r.2 = 0 then [] else (rangeFrom (r.1 / 512) ((r.1 + r.2 - 1) / 512 + 1 - r.1 / 512)).map (fun b => 512 * b)

/-- Newts that receive a share, ascending. An operation without any block gives the lead newt the only one. -/
def State.shareNewts (s : State) (f : Nat) (d : Desc) : List Nat :=
  let l := setUnion ((s.primaryBlocks f (d.op 0)).map (s.blockOwner f d)) []
  if l.isEmpty then [d.lead] else l

/-! NEWT_DESCRIPTOR_FETCH. -/

/-- Queue of a descriptor's own bytes, read block by block: header, then operations. -/
def State.readDesc (s : State) (f q : Nat) (who : FeWho) (va : Nat) : Nat → FeGot × State
  | 0 => (.bytes [], s)
  | k + 1 =>
    match s.feRead f va 64 (some (q, who)) with
    | (.bytes l, t) =>
      (match State.readDesc t f q who (va + 64) k with
       | (.bytes r, u) => (.bytes (l ++ r), u)
       | x => x)
    | x => x

/-- A NWT_FAULT_LOG record (Table 4.16). -/
def nwtRec (status newt queue opcode op layer : Nat) : Nat :=
  2 ^ 63 + status % 64 * 2 ^ 56 + newt % 1024 * 2 ^ 46 + queue % 4096 * 2 ^ 34 + opcode % 16 * 2 ^ 30 + op % 4 * 2 ^ 28 + layer % 2 ^ 24 * 2 ^ 4

/-- NEWT_DESCRIPTOR_FETCH (R68, R72): the front end reads the descriptor once, checks it, and makes its shares. A descriptor that cannot be read kills the context with the code of
the read and leaves no record; the log record of a descriptor error, which no newt reports, holds newt 0 (log entry 104). -/
def newtDescriptorFetch (node : Nat) (s : State) : State :=
  s.startNode node 3 (fun n =>
    let f := fnOfQueue n.queue
    let va := n.get 0x18 8
    match s.readDesc f n.queue (.node node) va 1 with
    | (.wait, t) => t
    | (.bad c, t) => t.kill n.queue c n.site
    | (.bytes h, t) =>
      match (if headerOk h ∧ va % 64 = 0 then t.readDesc f n.queue (.node node) (va + 64) (fieldAt h 1 1) else (.bytes [], t)) with
      | (.wait, u) => u
      | (.bad c, u) => u.kill n.queue c n.site
      | (.bytes ops, u) =>
        let d : Desc :=
          { node := node, queue := n.queue, raw := h ++ ops, layer := n.layer, operator := n.operator, newts := [], doneNewts := [], partials := []
            reporter := none, streams := [], status := 0, statusNewt := 0xFFFF, statusOp := 0, startAt := none, endAt := 0, bytesRead := 0, bytesWritten := 0, steps := 0 }
        let bad := if va % 64 = 0 ∧ descOk d.raw then
            (if d.requireLocal && (u.primaryBlocks f (d.op 0)).any (u.blockOutside f d) then 0x12 else 0) else 0x10
        let id := u.nwt.nextDesc
        let v := { ((u.dispatched node n).feDrop (.node node)) with nwt.nextDesc := id + 1 }
        if bad ≠ 0 then
          State.pushNwt { v with nwt.descs := v.nwt.descs.put id { d with status := bad, endAt := v.time.gtb } }
            (nwtRec bad 0 n.queue (fieldAt ops 0 1) 0 n.layer)
        else
          let ns := v.shareNewts f d
          { v with
            nwt.descs := v.nwt.descs.put id { d with newts := ns }
            nwt.waiting := v.nwt.waiting ++ ns.map (fun m =>
              { desc := id, queue := n.queue, owner := m, started := false, nextOp := 0, atomics := false, stop := false, fault := 0
                sent := 0, moved := 0, progressAt := v.time.mono, startAt := 0 }) })

/-! Delivery and start (R74, R75, R96, R98, R99). -/

/-- Has a newt failed? -/
def State.newtFailed (s : State) (n : Nat) : Bool := s.nwt.failed.contains n

/-- Its buddy (R95): channel c XOR 1 of the same stack. -/
def buddyOf (n : Nat) : Nat := if n % 2 = 0 then n + 1 else n - 1

/-- Is no newt left that serves a newt's shares, or has its channel failed (R96)? -/
def State.unserved (s : State) (n : Nat) : Bool :=
  (s.newtFailed n && s.newtFailed (buddyOf n)) || s.channelFailed n || s.channelFailed (buddyOf n) && s.newtFailed n

/-- The newt that runs the shares of a queue. -/
def State.serverOf (s : State) (n : Nat) : Nat := if s.newtFailed n then buddyOf n else n

/-- May a share that waits be delivered: its queue runs, and its function has its turn (R74, R98)? -/
def State.mayDeliver (s : State) (h : Share) : Bool := decide ((s.q h.queue).state = .running) && s.mayRun (fnOfQueue h.queue)

/-- Functions with a share that can be delivered to a newt. -/
def State.waitingFns (s : State) (newt : Nat) : List Nat :=
  ((s.nwt.waiting.filter (fun h => decide (h.owner = newt) && s.mayDeliver h)).map (fun h => fnOfQueue h.queue)).eraseDups

/-- A newt wakes from gating: its epoch increments (R99). -/
def State.wakeNewt (s : State) (n : Nat) : State :=
  if s.nwt.gated.contains n then State.addNum { s with nwt.gated := setErase n s.nwt.gated } (E.newtEpoch + n) 32 else s

/-- NEWT_SHARE_DELIVER: the first share of a function that can be delivered to a newt enters its queue, by weighted round robin among the functions. -/
def newtShareDeliver (newt fn : Nat) (s : State) : State :=
  match s.nwt.waiting.find? (fun h => decide (h.owner = newt ∧ fnOfQueue h.queue = fn) && s.mayDeliver h) with
  | none => s
  | some h =>
    let key (f : Nat) : Nat := newt * 256 + f
    let spent (f : Nat) : Bool := decide (s.num (E.qosNewt + f) ≤ s.nwt.credits.getD (key f) 0)
    let round := (s.waitingFns newt).all spent
    if 64 ≤ (s.nwt.queues.getD newt []).length ∨ (spent fn ∧ !round) then s
    else
      let s1 := if round then { s with nwt.credits := s.nwt.credits.keep (fun k _ => !decide (k / 256 = newt)) } else s
      let i := s.nwt.waiting.findIdx (fun x => decide (x = h))
      let s2 : State := { s1 with
        nwt.credits := s1.nwt.credits.modify (key fn) 0 (· + 1)
        nwt.waiting := dropAt s1.nwt.waiting i
        nwt.queues := s1.nwt.queues.put newt (s1.nwt.queues.getD newt [] ++ [{ h with progressAt := s.time.mono }]) }
      s2.wakeNewt (s.serverOf newt)

/-- Change a share of a newt's queue. -/
def State.modShare (s : State) (newt desc : Nat) (g : Share → Share) : State :=
  { s with nwt.queues := s.nwt.queues.mapVals (fun k l => if k = newt then l.map (fun h => if h.desc = desc then g h else h) else l) }

/-- Queues that a newt serves: its own and, where its buddy has failed, the buddy's (R95). -/
def State.servedBy (s : State) (newt : Nat) : List Nat := if s.newtFailed (buddyOf newt) then [newt, buddyOf newt] else [newt]

/-- The share of a queue that starts next: a serialised one only at the head of the queue. -/
def State.nextShare (s : State) (queue : Nat) : Option (Share × Desc) :=
  let l := s.nwt.queues.getD queue []
  match l.find? (fun h => !h.started) with
  | none => none
  | some h =>
    match s.nwt.descs.get? h.desc with
    | none => none
    | some d => if d.serialise ∧ l.head? ≠ some h then none else some (h, d)

/-- NEWT_SHARE_START: the next share of a queue starts, while fewer than two run on the newt that serves it; a newt that serves two queues takes them in turn (R95). A share that
no newt can run ends with status 0x14. -/
def newtShareStart (newt : Nat) (s : State) : State :=
  match s.nextShare newt with
  | none => s
  | some (h, d) =>
      let by0 := s.serverOf newt
      if s.unserved newt then s.modShare newt h.desc (fun h => { h with started := true, fault := 0x14, startAt := s.time.mono })
      else if 2 ≤ sumNat ((s.servedBy by0).map (fun k => (s.nwt.queues.getD k []).countP (fun x => x.started))) ∨
          (s.nwt.lastFrom.get? by0 = some newt ∧ (s.servedBy by0).any (fun k => !decide (k = newt) && (s.nextShare k).isSome)) then s
      else
        let s0 : State := { s with nwt.lastFrom := if (s.servedBy by0).length = 2 then s.nwt.lastFrom.put by0 newt else s.nwt.lastFrom.del by0 }
        let s1 := (s0.modShare newt h.desc (fun h => { h with started := true, startAt := s.time.mono, progressAt := s.time.mono })).modDesc h.desc
          (fun d => { d with startAt := some (d.startAt.getD s.time.gtb) })
        s1.trace 2 0x05 (32 + newt / 32) newt d.queue d.layer d.operator (d.op 0).opcode ((s.fe.nodes.get? d.node).elim 0 (fun n => n.get 0x18 8))

/-! The operations. -/

/-- A list of element numbers cut into groups of `u`. -/
def groupsOf (u n : Nat) : List (Nat × Nat) := (List.range (ceilDiv n u)).map (fun g => (g * u, min u (n - g * u)))

/-- The groups of elements of an operation that a newt owns. -/
def State.ownGroups (s : State) (w : Wk) (d : Desc) : List (Nat × Nat) :=
  let o := d.op w.k
  (groupsOf d.unit o.count).filter (fun g =>
    decide ((if w.k = 0 then s.blockOwner w.f d (s.primaryAddr w.f o g.1) else s.ownerLike w.f d g.1) = w.newt))

/-- The elements, each by itself, that a newt owns. -/
def State.ownUnits (s : State) (w : Wk) (d : Desc) : List Nat :=
  let o := d.op w.k
  (List.range o.count).filter (fun c =>
    decide ((if w.k = 0 then s.blockOwner w.f d (s.primaryAddr w.f o c) else s.ownerLike w.f d c) = w.newt))

/-- Pieces of `n` bytes at an address, cut at blocks of 512 bytes: offset and length. -/
def cutBlocks (va : Nat) : Nat → Nat → Nat → List (Nat × Nat)
  | 0, _, _ => []
  | k + 1, off, n =>
    if n = 0 then []
    else
      let m := min n (512 - (va + off) % 512)
      (off, m) :: cutBlocks va k (off + m) (n - m)

/-- Pieces of bytes that a newt owns: `va` is the primary address of the first byte. -/
def State.ownPieces (s : State) (w : Wk) (d : Desc) (va n : Nat) : List (Nat × Nat) :=
  (cutBlocks va (n / 512 + 2) 0 n).filter (fun p =>
    decide ((if w.k = 0 then s.blockOwner w.f d (va + p.1) else s.ownerLike w.f d p.1) = w.newt))

/-- Key of a stream. -/
def streamKey (k newt : Nat) : Nat := k * 1024 + newt

/-- The stream that the operation before one leaves to a newt: its own, or the one formed from all the shares, which the first of them takes. None while that is not there. -/
def Desc.streamFor (d : Desc) (w : Wk) : Option (List (Nat × Nat)) :=
  let p := d.op (w.k - 1)
  if p.opcode = 1 ∨ p.opcode = 3 then
    (if d.newts.headD 0 = w.newt then d.streams.get? (streamKey (w.k - 1) 1023) else some [])
  else d.streams.get? (streamKey (w.k - 1) w.newt)

/-- Keep an operation's output: in memory at `va`, or as the next part of the newt's stream. -/
def State.newtOut (s : State) (w : Wk) (o : NOp) (va : Nat) (l : List (Nat × Nat)) (bytes : List Nat) : Nk Unit :=
  if o.dstNext then
    .ok () (s.modDesc w.d (fun d => { d with streams := d.streams.put (streamKey w.k w.newt) (d.streams.getD (streamKey w.k w.newt) [] ++ l) }))
  else s.newtWrite w va bytes

/-- Keep the output that is formed from all the shares. Formed again after a restart, it takes the place of the same output (R96). -/
def State.mergedOut (s : State) (w : Wk) (o : NOp) (l : List (Nat × Nat)) (bytes : List Nat) : Nk Unit :=
  if o.dstNext then .ok () (s.modDesc w.d (fun d => { d with streams := d.streams.put (streamKey w.k 1023) l }))
  else s.newtWrite w o.dst bytes

/-- An empty stream stands for a newt that owns nothing. -/
def State.openStream (s : State) (w : Wk) (o : NOp) : State :=
  if o.dstNext then
    s.modDesc w.d (fun d => { d with streams := (if o.opcode = 3 ∧ o.count = 0 then d.streams.put (streamKey w.k 1023) [] else d.streams).put (streamKey w.k w.newt) [] })
  else s

/-- The work that merges the results of all the shares: the newt of channel 0 in the lowest targeted stack does it, and reports a fault in it (R80; log entry 105). -/
def State.mergeAt (s : State) (w : Wk) (d : Desc) (go : State → Wk → Desc → Nk Unit) : Nk Unit :=
  match go s { w with newt := d.lead } d with
  | .ok _ t => .ok () t
  | .bad c t => .bad c (t.modDesc w.d (fun d => { d with reporter := some d.lead }))

/-- Values of elements of a format at an address, their scales at another: element i of `n`, the first having number `e`. -/
def State.newtVals (s : State) (w : Wk) (f : NFmt) (va scale e n : Nat) : Nk (List FVal) :=
  (s.newtGet w va (ceilDiv (n * f.width) 8)).bind (fun l s1 =>
    let codes := unpackCodes f.width (l.map BitVec.toNat)
    if f.isMx then
      (s1.newtGet w (scale + e / 32) (ceilDiv n 32)).bind (fun sc s2 =>
        .ok ((List.range n).map (fun i => f.val (sc.getD (i / 32) 0#8).toNat (codes.getD i 0))) s2)
    else .ok ((List.range n).map (fun i => f.val 0 (codes.getD i 0))) s1)

/-- Values as codes of a format; for an MX format with the scale byte of each block of 32. -/
def encodeVals (d : Desc) (k e : Nat) (f : NFmt) (vs : List FVal) : List Nat × List Nat :=
  match f with
  | .mx m _ =>
    let scales := (List.range (ceilDiv vs.length 32)).map (fun b => mxScale f.emax ((vs.drop (32 * b)).take 32))
    (vs.mapIdx (fun i v => mxElem m (d.rnd k (e + i)) (scales.getD (i / 32) 0) v % 2 ^ f.width), scales)
  | _ => (vs.mapIdx (fun i v => f.enc (d.rnd k (e + i)) v), [])

/-- Are addresses aligned to 16 bytes (R70)? -/
def aligned16 (l : List Nat) : Bool := l.all (fun a => decide (a % 16 = 0))

/-- Product of a value and an FP32 multiplier. -/
def timesF32 (m : Nat) (v : FVal) : FVal := v.mul (Fmt.fp32.decode m)

/-- K and V rows of a token, as FP32 codes. -/
def State.attnRows (s : State) (w : Wk) (o : NOp) (t : Nat) : Nk (List Nat × List Nat) :=
  let dd := o.rowElems
  (s.newtVals w o.fin (o.src + t * o.rowBytes) (fieldAt o 0x28 8) (t * dd) dd).bind (fun ks s =>
  (s.newtVals w o.fin (fieldAt o 0x20 8 + t * o.rowBytes) (fieldAt o 0x30 8) (t * dd) dd).bind (fun vs s =>
    .ok (ks.map (Fmt.fp32.encode .rne false), vs.map (Fmt.fp32.encode .rne false)) s))

/-- Score of a query row and a K row: the products summed by a pairwise tree, times score_scale. -/
def NOp.score (o : NOp) (qb : List Byte) (r : Nat) (ks : List Nat) : Nat :=
  f32Mul (fieldAt o 0x3C 4) (f32Tree ((List.range o.rowElems).map (fun i =>
    f32Mul (fieldAt qb (2 * (r * o.rowElems + i)) 2 * 2 ^ 16) (ks.getD i 0))))

/-- One block of tokens updates the records of every query row. -/
def State.attnBlock (s : State) (w : Wk) (o : NOp) (qb : List Byte) (recs : List ARec) (ts : List Nat) : Nk (List ARec) :=
  (nkFold (fun (rows : List (List Nat × List Nat)) t s => (s.attnRows w o t).bind (fun kv s => .ok (rows ++ [kv]) s)) ts [] s).bind (fun rows s =>
    .ok (recs.mapIdx (fun r x => x.block (rows.map (fun kv => (o.score qb r kv.1, kv.2)))))
      (s.countEvent 2 w.newt 0x22 (2 * ts.length * o.rowElems * recs.length) w.q (if o.fin.width = 16 then 1 else 2)))

/-- ATTN.PART on one newt: its partial records, one for each query row (R77). -/
def State.attnWork (s : State) (w : Wk) (d : Desc) : Nk (List (Nat × Nat) × Nat) :=
  let o := d.op w.k
  let dd := o.rowElems
  let g := fieldAt o 0x3A 1
  let own := s.ownUnits w d
  let blockOf (t : Nat) : Nat := (o.src + t * o.rowBytes) / 512
  (need (aligned16 [o.src, o.dst, o.aux, fieldAt o 0x20 8]) 0x11 s).bind (fun _ s =>
  (if own.isEmpty then .ok [] s else s.newtGet w o.aux (2 * g * dd)).bind (fun qb s =>
  (nkFold (fun (recs : List ARec) b s => s.attnBlock w o qb recs (own.filter (fun t => decide (blockOf t = b))))
    (own.map blockOf).eraseDups (List.replicate g (ARec.none dd)) s).bind (fun recs s =>
  .ok ((recs.mapIdx (fun r x => x.words (r * (dd + 2)))).flatten, own.length) s)))

/-- The merged records of an ATTN.PART whose shares have all been computed (R80): pairs of source stack and record, with their query rows. -/
def Desc.attnRecords (d : Desc) (k : Nat) : List (Nat × Nat × ARec) :=
  let o := d.op k
  let dd := o.rowElems
  let g := fieldAt o 0x3A 1
  let one (r n : Nat) : ARec :=
    match d.partials.find? (fun p => decide (p.newt = n ∧ p.op = k)) with
    | some p => ARec.ofWords dd (r * (dd + 2)) p.tokens p.words
    | none => ARec.none dd
  let stack (r st : Nat) : ARec := ARec.tree dd ((List.range 32).map (fun c => one r (32 * st + c)))
  if d.keepPartials then d.stackList.flatMap (fun st => (List.range g).map (fun r => (st, r, stack r st)))
  else (List.range g).map (fun r => (0xFFFF, r, ARec.tree dd (d.stackList.map (stack r))))

/-- Write the records, or leave them to ATTN_NORM. -/
def State.attnFinish (s : State) (w : Wk) (d : Desc) : Nk Unit :=
  let o := d.op w.k
  let recs := d.attnRecords w.k
  let bytes := recs.flatMap (fun x => x.2.2.bytes x.2.1 d.layer d.operator x.1)
  s.mergedOut w o ((bytes.map BitVec.toNat).mapIdx (fun i b => (i, b))) (bytes.map BitVec.toNat)

/-- KV.APPEND on one newt (R83). -/
def State.kvWork (s : State) (w : Wk) (d : Desc) : Nk Unit :=
  let o := d.op w.k
  let dd := o.rowElems
  let mx := o.fout.isMx
  let u := if mx then 32 else 1
  (need (aligned16 [o.src, o.dst] && (!mx || decide (dd % 32 = 0))) 0x11 s).bind (fun _ s =>
  nkEach (fun r s =>
    nkEach (fun (g : Nat × Nat) s =>
      let va := o.dst + (fieldAt o 0x28 4 + r) * o.rowBytes + g.1 * o.fout.width / 8
      let own := if w.k = 0 then s.blockOwner w.f d va else s.ownerLike w.f d r
      if own ≠ w.newt then .ok () s
      else
        (s.newtVals w o.fin (o.src + (r * dd + g.1) * o.fin.width / 8) 0 0 g.2).bind (fun vs s =>
          let e := encodeVals d w.k (r * dd + g.1) o.fout vs
          (s.newtWrite w va (packCodes o.fout.width e.1)).bind (fun _ s =>
            if mx then s.newtWrite w (fieldAt o 0x20 8 + ((fieldAt o 0x28 4 + r) * dd + g.1) / 32) e.2 else .ok () s)))
      (groupsOf u dd) s) (List.range o.count) s)

/-- Does a GATHER.REDUCE accumulate in INT32: rows of INT8 without weights (R81)? -/
def NOp.intAcc (o : NOp) : Bool := decide (fieldAt o 1 1 = 10) && decide (fieldAt o 0x28 8 = 0)

/-- Combine two accumulated values. -/
def NOp.combine (o : NOp) (a b : Nat) : Nat :=
  if o.intAcc then
    (if o.mode = 2 then (if signExt 32 a < signExt 32 b then b else a) else (a + b) % 2 ^ 32)
  else if o.mode = 2 then Fmt.fp32.minmax true a b else f32Add a b

/-- GATHER.REDUCE on one newt: its partial rows (R81). -/
def State.gatherWork (s : State) (w : Wk) (d : Desc) : Nk (List (Nat × Nat)) :=
  let o := d.op w.k
  let re := o.rowElems
  (need (aligned16 [o.src, o.dst, o.aux, fieldAt o 0x20 8, fieldAt o 0x28 8]) 0x11 s).bind (fun _ s =>
  nkFold (fun (acc : SMap Nat) j s =>
    (s.newtNum w (fieldAt o 0x20 8 + 4 * j) 4).bind (fun lo s =>
    (s.newtNum w (fieldAt o 0x20 8 + 4 * (j + 1)) 4).bind (fun hi s =>
    nkFold (fun (acc : SMap Nat) p s =>
      (s.newtNum w (o.aux + p * o.indexBytes) o.indexBytes).bind (fun idx s =>
      if fieldAt o 0x3C 4 ≤ idx then .bad 0x13 s
      else
        (if fieldAt o 0x28 8 = 0 then .ok 0x3F800000 s else s.newtNum w (fieldAt o 0x28 8 + 4 * p) 4).bind (fun wt s =>
        let row := o.src + idx * o.rowBytes
        nkFold (fun (acc : SMap Nat) (pc : Nat × Nat) s =>
          let sz := o.fin.width / 8
          (s.newtVals w o.fin (row + pc.1) 0 0 (pc.2 / sz)).bind (fun vs s =>
            let s1 := if fieldAt o 0x28 8 = 0 then s else s.countEvent 2 w.newt 0x22 vs.length w.q (if o.fin.width = 16 then 1 else 2)
            .ok (vs.zipIdx.foldl (fun (acc : SMap Nat) e =>
              let at0 := j * re + pc.1 / sz + e.2
              let x := if o.intAcc then wrapInt 32 (e.1.toInt .rne (intMin 32 true) (intMax 32 true))
                else if fieldAt o 0x28 8 = 0 then Fmt.fp32.encode .rne false e.1 else Fmt.fp32.encode .rne false (timesF32 wt e.1)
              acc.put at0 (match acc.get? at0 with
                | none => x
                | some a => o.combine a x)) acc) s1))
          ((cutBlocks row (o.rowBytes / 512 + 2) 0 o.rowBytes).filter (fun pc =>
            decide ((if w.k = 0 then s.blockOwner w.f d (row + pc.1) else s.ownerLike w.f d p) = w.newt))) acc s)))
      ((rangeFrom lo (hi - lo)).filter (fun p => decide (p < o.count))) acc s)))
    (List.range (if o.count = 0 then 0 else fieldAt o 0x34 4)) [] s)

/-- Merge of two places of a tree of which either may have no contribution. -/
def mergeOpt (g : Nat → Nat → Nat) (a b : Option Nat) : Option Nat :=
  match a, b with
  | none, b => b
  | a, none => a
  | some a, some b => some (g a b)

/-- The merged value of one element (R81): channels 0 to 31 of each stack, then the stacks ascending. -/
def Desc.gathered (d : Desc) (k at0 : Nat) : Option Nat :=
  let o := d.op k
  let one (n : Nat) : Option Nat :=
    match d.partials.find? (fun p => decide (p.newt = n ∧ p.op = k)) with
    | some p => SMap.get? p.words at0
    | none => none
  let g := mergeOpt o.combine
  (treeFold g 20 ((List.range 20).map (fun st => (treeFold g 32 ((List.range 32).map (fun c => one (32 * st + c)))).getD none))).getD none

/-- The rows of a GATHER.REDUCE whose shares have all been computed. -/
def State.gatherFinish (s : State) (w : Wk) (d : Desc) : Nk Unit :=
  let o := d.op w.k
  let re := o.rowElems
  let bags := if o.count = 0 then 0 else fieldAt o 0x34 4
  (nkFold (fun (acc : List Nat) j s =>
    (s.newtNum w (fieldAt o 0x20 8 + 4 * j) 4).bind (fun lo s =>
    (s.newtNum w (fieldAt o 0x20 8 + 4 * (j + 1)) 4).bind (fun hi s =>
      .ok (acc ++ (List.range re).map (fun i =>
        let v : FVal := match d.gathered w.k (j * re + i) with
          | none => .fin false 0 0
          | some a => if o.intAcc then .ofInt (signExt 32 a) else Fmt.fp32.decode a
        let n := hi - lo
        let m := if o.mode = 1 ∧ n ≠ 0 then
            (if o.intAcc then v.div 64 (.ofInt n) else Fmt.fp32.decode (Fmt.fp32.encode .rne false (v.div 64 (.ofInt n)))) else v
        o.fout.enc (d.rnd w.k (j * re + i)) m)) s))) (List.range bags) [] s).bind (fun codes s =>
  s.mergedOut w o (codes.mapIdx (fun i c => (i, c))) (packCodes o.fout.width codes))

/-- Is a row of a SCATTER overwritten by a later one of the same index (R82)? -/
def State.superseded (s : State) (w : Wk) (o : NOp) (p idx : Nat) : Bool :=
  decide (o.mode = 0) && (rangeFrom (p + 1) (o.count - (p + 1))).any (fun x => decide (s.listNum w.f (o.aux + x * o.indexBytes) o.indexBytes = idx))

/-- Write codes to a table row, from element i on: overwrite, or far atomic adds. -/
def State.scatterPut (s : State) (w : Wk) (o : NOp) (va : Nat) (bytes : List Nat) : Nk Unit :=
  if o.mode = 0 then s.newtWrite w va bytes
  else
    let s1 := s.modShare w.newt w.d (fun h => { h with atomics := true })
    nkEach (fun (e : Nat × Nat) s => (s.newtAtom w (if fieldAt o 1 1 = 1 then 1 else 0) 4 (va + 4 * e.2) e.1 0).bind (fun _ s => .ok () s))
      (unpackCodes 32 bytes).zipIdx s1

/-- SCATTER on one newt (R82). -/
def State.scatterWork (s : State) (w : Wk) (d : Desc) : Nk Unit :=
  let o := d.op w.k
  let sz := o.fin.width
  (need (aligned16 ([o.dst, o.aux] ++ (if o.srcPrev then [] else [o.src])) && (!o.fin.isMx || decide (o.rowElems % 32 = 0))) 0x11 s).bind (fun _ s =>
  if o.srcPrev then
    nkEach (fun (e : Nat × Nat) s =>
      let p := e.1 / o.rowElems
      if o.rowElems = 0 ∨ o.count ≤ p then .ok () s
      else
        (s.newtNum w (o.aux + p * o.indexBytes) o.indexBytes).bind (fun idx s =>
        if fieldAt o 0x3C 4 ≤ idx then .bad 0x13 s
        else if s.superseded w o p idx then .ok () s
        else s.scatterPut w o (o.dst + idx * o.rowBytes + e.1 % o.rowElems * sz / 8) (packCodes sz [e.2])))
      ((d.streamFor w).getD []) s
  else
    nkEach (fun p s =>
      (s.newtNum w (o.aux + p * o.indexBytes) o.indexBytes).bind (fun idx s =>
      if fieldAt o 0x3C 4 ≤ idx then .bad 0x13 s
      else if s.superseded w o p idx then .ok () s
      else
        let row := o.dst + idx * o.rowBytes
        nkEach (fun (pc : Nat × Nat) s =>
          if (if w.k = 0 then s.blockOwner w.f d (row + pc.1) else s.ownerLike w.f d p) ≠ w.newt then .ok () s
          else (s.newtGet w (o.src + p * o.rowBytes + pc.1) pc.2).bind (fun l s => s.scatterPut w o (row + pc.1) (l.map BitVec.toNat)))
          (cutBlocks row (o.rowBytes / 512 + 2) 0 o.rowBytes) s)) (List.range o.count) s)

/-- COPY on one newt: poison is carried (R82, Table 3.3). -/
def State.copyWork (s : State) (w : Wk) (d : Desc) : Nk Unit :=
  let o := d.op w.k
  nkEach (fun (p : Nat × Nat) s =>
    (s.newtRead w (o.src + p.1) p.2).bind (fun l s => s.newtOut w o (o.dst + p.1) (l.mapIdx (fun i b => (p.1 + i, b))) l))
    (s.ownPieces w d o.dst o.count) (s.openStream w o)

/-- FILL on one newt (R76). -/
def State.fillWork (s : State) (w : Wk) (d : Desc) : Nk Unit :=
  let o := d.op w.k
  nkEach (fun (p : Nat × Nat) s => s.newtWrite w (o.dst + p.1) ((rangeFrom p.1 p.2).map (fun i => fieldAt o (0x20 + i % 8) 1)))
    (s.ownPieces w d o.dst o.count) s

/-- The elements of a REDUCE in modes SUM, MAX and MIN: the sources in list order. -/
def NOp.reduceVals (o : NOp) (vs : List FVal) : FVal :=
  match o.fin with
  | .int wd sg =>
    let n := max 32 wd
    let xs := vs.map (fun v => v.toInt .rne (intMin 64 false - 2 ^ 63) (intMax 64 false))
    .ofInt (match o.mode with
      | 0 => intVal n sg (wrapInt n (xs.foldl (· + ·) 0))
      | 1 => xs.foldl max (xs.headD 0)
      | _ => xs.foldl min (xs.headD 0))
  | _ =>
    let xs := vs.map (Fmt.fp32.encode .rne false)
    Fmt.fp32.decode ((xs.drop 1).foldl (fun a b => match o.mode with
      | 0 => f32Add a b
      | 1 => Fmt.fp32.minmax true a b
      | _ => Fmt.fp32.minmax false a b) (xs.headD 0))

/-- Source addresses of a REDUCE. -/
def State.reduceSources (s : State) (w : Wk) (o : NOp) : Nk (List Nat) :=
  nkFold (fun acc i s => (s.newtNum w (o.aux + 8 * i) 8).bind (fun a s => if a % 16 = 0 then .ok (acc ++ [a]) s else .bad 0x11 s))
    (List.range (fieldAt o 0x20 4)) [] s

/-- The rows of ATTN_NORM: o[i] / l of one record. -/
def normCodes (d : Desc) (k j : Nat) (o : NOp) (r : ARec) : List Nat :=
  r.o.mapIdx (fun i x => o.fout.enc (d.rnd k (j * r.o.length + i)) ((Fmt.fp32.decode x).div 64 (Fmt.fp32.decode r.l)))

/-- The row that ATTN_NORM forms from record j. -/
def State.normOut (s : State) (w : Wk) (d : Desc) (o : NOp) (j : Nat) (r : ARec) : Nk Unit :=
  let codes := normCodes d w.k j o r
  s.newtOut w o (o.dst + j * (r.o.length * o.fout.width / 8)) (codes.mapIdx (fun i c => (j * r.o.length + i, c))) (packCodes o.fout.width codes)

/-- REDUCE on one newt (R80, Table 4.8). -/
def State.reduceWork (s : State) (w : Wk) (d : Desc) : Nk Unit :=
  let o := d.op w.k
  (need (aligned16 [o.dst, o.aux] || (o.srcPrev && aligned16 [o.dst])) 0x11 s).bind (fun _ s =>
  if o.mode = 4 ∧ o.srcPrev then
    let p := d.op (w.k - 1)
    let bytes := ((d.streamFor w).getD []).map (fun e => BitVec.ofNat 8 e.2)
    nkEach (fun j s => s.normOut w d o j (ARec.ofBytes p.rowElems ((bytes.drop (j * p.recBytes)).take p.recBytes)))
      (List.range (bytes.length / p.recBytes)) (s.openStream w o)
  else (s.reduceSources w o).bind (fun srcs s =>
    if o.mode = 3 then
      nkEach (fun j s =>
        (nkFold (fun (acc : List (List Byte)) a s => (s.newtGet w (a + j * o.recBytes) o.recBytes).bind (fun l s => .ok (acc ++ [l]) s)) srcs [] s).bind
        (fun recs s =>
          let r := ARec.tree o.rowElems (recs.map (ARec.ofBytes o.rowElems))
          let bytes := r.bytes (fieldAt (recs.headD []) 0x0C 2) d.layer d.operator 0xFFFF
          s.newtOut w o (o.dst + j * o.recBytes) ((List.range (o.recBytes / 4)).map (fun i => (j * (o.recBytes / 4) + i, fieldAt bytes (4 * i) 4)))
            (bytes.map BitVec.toNat))) (s.ownUnits w d) (s.openStream w o)
    else if o.mode = 4 then
      nkEach (fun j s =>
        (s.newtGet w (srcs.headD 0 + j * o.recBytes) o.recBytes).bind (fun l s => s.normOut w d o j (ARec.ofBytes o.rowElems l)))
        (s.ownUnits w d) (s.openStream w o)
    else
      nkEach (fun (g : Nat × Nat) s =>
        (nkFold (fun (acc : List (List FVal)) a s =>
          (s.newtVals w o.fin (a + g.1 * o.fin.width / 8) 0 0 g.2).bind (fun vs s => .ok (acc ++ [vs]) s)) srcs [] s).bind (fun vss s =>
          let codes := (List.range g.2).map (fun i => o.fin.conv o.fout (d.rnd w.k (g.1 + i)) (o.reduceVals (vss.map (fun l => l.getD i .nan))))
          s.newtOut w o (o.dst + g.1 * o.fout.width / 8) (codes.mapIdx (fun i c => (g.1 + i, c))) (packCodes o.fout.width codes)))
        (s.ownGroups w d) (s.openStream w o)))

/-- The multiplier of a QUANT: 0.0 means 1.0 (Table 4.8). -/
def NOp.quantMul (o : NOp) : Nat := if fieldAt o 0x28 4 = 0 then 0x3F800000 else fieldAt o 0x28 4

/-- Convert values of a QUANT: MX formats take a block scale, others the multiplier (R83). -/
def State.quantPut (s : State) (w : Wk) (d : Desc) (o : NOp) (e : Nat) (vs : List FVal) : Nk Unit :=
  let ws := if o.fout.isMx then vs else vs.map (timesF32 o.quantMul)
  let c := encodeVals d w.k e o.fout ws
  (s.newtOut w o (o.dst + e * o.fout.width / 8) (c.1.mapIdx (fun i x => (e + i, x))) (packCodes o.fout.width c.1)).bind (fun _ s =>
    if o.fout.isMx then s.newtWrite w (fieldAt o 0x20 8 + e / 32) c.2 else .ok () s)

/-- QUANT on one newt (R83). -/
def State.quantWork (s : State) (w : Wk) (d : Desc) : Nk Unit :=
  let o := d.op w.k
  (need (aligned16 ((if o.srcPrev then [] else [o.src]) ++ (if o.dstNext then [] else [o.dst])) && (!o.fout.isMx || decide (o.count % 32 = 0))) 0x11 s).bind
  (fun _ s =>
  let s1 := s.openStream w o
  if o.srcPrev then
    let p := d.op (w.k - 1)
    let l := (d.streamFor w).getD []
    nkEach (fun (g : Nat × Nat) s =>
      let part := (l.drop g.1).take g.2
      s.quantPut w d o ((part.headD (0, 0)).1) (part.map (fun e => p.outFmt.val 0 e.2))) (groupsOf d.unit l.length) s1
  else
    nkEach (fun (g : Nat × Nat) s =>
      (s.newtVals w o.fin (o.src + g.1 * o.fin.width / 8) 0 g.1 g.2).bind (fun vs s => s.quantPut w d o g.1 vs)) (s.ownGroups w d) s1)

/-- DEQUANT on one newt (R83). -/
def State.dequantWork (s : State) (w : Wk) (d : Desc) : Nk Unit :=
  let o := d.op w.k
  (need (aligned16 (o.src :: (if o.dstNext then [] else [o.dst])) && (!o.fin.isMx || decide (o.count % 32 = 0))) 0x11 s).bind (fun _ s =>
  nkEach (fun (g : Nat × Nat) s =>
    (s.newtVals w o.fin (o.src + g.1 * o.fin.width / 8) (fieldAt o 0x20 8) g.1 g.2).bind (fun vs s =>
      let codes := vs.mapIdx (fun i v => o.fout.enc (d.rnd w.k (g.1 + i)) (timesF32 (fieldAt o 0x28 4) v))
      s.newtOut w o (o.dst + g.1 * o.fout.width / 8) (codes.mapIdx (fun i c => (g.1 + i, c))) (packCodes o.fout.width codes)))
    (s.ownGroups w d) (s.openStream w o))

/-- ATOM on one newt: its operations in list order (R84). -/
def State.atomWork (s : State) (w : Wk) (d : Desc) : Nk Unit :=
  let o := d.op w.k
  let wd := fieldAt o 0x21 1
  let op := fieldAt o 0x20 1
  (need (aligned16 ([o.src, o.dst, o.aux] ++ (if op = 12 then [fieldAt o 0x28 8] else []))) 0x11 s).bind (fun _ s =>
  nkEach (fun c s =>
    (s.newtNum w (o.aux + 8 * c) 8).bind (fun va s =>
    (s.newtNum w (o.src + wd * c) wd).bind (fun x s =>
    (if op = 12 then s.newtNum w (fieldAt o 0x28 8 + wd * c) wd else .ok 0 s).bind (fun cmp s =>
    ((s.modShare w.newt w.d (fun h => { h with atomics := true })).newtAtom w op wd va x cmp).bind (fun old s =>
      if o.dst = 0 then .ok () s else s.newtPut w (o.dst + wd * c) (leBytes wd old)))))) (s.ownUnits w d) s)

/-- CHECKSUM on one newt: the bytes of its part, by offset (R85). -/
def State.checkWork (s : State) (w : Wk) (d : Desc) : Nk (List (Nat × Nat)) :=
  let o := d.op w.k
  if o.srcPrev then
    let p := d.op (w.k - 1)
    let l := (d.streamFor w).getD []
    if l.any (fun e => decide (e.2 = 256) && decide (p.opcode = 5)) then .bad 0x03 s
    else if p.opcode = 5 then .ok l s
    else .ok ((groupsOf 2 l.length).flatMap (fun g =>
      let part := (l.drop g.1).take g.2
      (packCodes p.outFmt.width (part.map Prod.snd)).mapIdx (fun i b => ((part.headD (0, 0)).1 * p.outFmt.width / 8 + i, b)))) s
  else
    nkFold (fun (acc : List (Nat × Nat)) (p : Nat × Nat) s =>
      (s.newtGet w (o.src + p.1) p.2).bind (fun l s => .ok (acc ++ (l.map BitVec.toNat).mapIdx (fun i b => (p.1 + i, b))) s))
      (s.ownPieces w d o.src o.count) [] s

/-- CRC-32C continued from an earlier result; 0 starts a new one (R85). -/
def crcFrom (init : Nat) (l : List Byte) : Nat :=
  natXor 32 (l.foldl (fun r b => crcStep 0x82F63B78 8 (natXor 32 r b.toNat)) (natXor 32 init 0xFFFFFFFF)) 0xFFFFFFFF

/-- Sum of the 64-bit words of bytes, modulo 2^64. -/
def sum64 (l : List Byte) : Nat := (List.range (l.length / 8)).foldl (fun a i => (a + fieldAt l (8 * i) 8) % 2 ^ 64) 0

/-- Bytes of all shares of a CHECKSUM, in order of their addresses. -/
def Desc.checkBytes (d : Desc) (k : Nat) : List Byte :=
  let m := (d.partials.filter (fun p => decide (p.op = k))).foldl (fun (m : SMap Nat) p => p.words.foldl (fun m e => m.put e.1 e.2) m) []
  m.vals.map (BitVec.ofNat 8)

/-- The result of a CHECKSUM whose shares have all read their parts. -/
def State.checkFinish (s : State) (w : Wk) (d : Desc) : Nk Unit :=
  let o := d.op w.k
  let l := d.checkBytes w.k
  s.newtPut w o.dst (leBytes 8 (if fieldAt o 0x20 1 = 0 then crcFrom (fieldAt o 0x24 4) l else sum64 l))

/-! REMOTE.COPY (R86). -/

/-- Pieces of the local end that a newt owns, cut so that no packet crosses a page or holds more than 512 bytes. -/
def State.remotePieces (s : State) (w : Wk) (d : Desc) : List (Nat × Nat) :=
  let o := d.op w.k
  let loc := if fieldAt o 0x22 1 = 0 then o.src else o.dst
  let rem := if fieldAt o 0x22 1 = 0 then o.dst else o.src
  (s.ownPieces w d loc o.count).flatMap (fun p =>
    let m := 2 ^ 16 - (rem + p.1) % 2 ^ 16
    if m < p.2 then [(p.1, m), (p.1 + m, p.2 - m)] else [p])

/-- Poison mask of a packet's granules from bytes in which 256 stands for poison. -/
def maskOf (l : List Nat) : Nat := ofBitList ((List.range (ceilDiv l.length 16)).filter (fun i => ((l.drop (16 * i)).take 16).contains 256))

/-- Send the packets that a share has not sent, while request entries are free. -/
def State.remotePump (s : State) (w : Wk) (d : Desc) : List (Nat × Nat) → Nk Unit
  | [] => .ok () s
  | p :: t =>
    let o := d.op w.k
    let chip := fieldAt o 0x20 2
    let go (r : Nat × State) : Nk Unit :=
      if r.1 = 0x100 then .ok () s
      else if r.1 = 0x0D then .bad 0x15 s
      else if r.1 ≠ 0 then .bad 0x02 s
      else State.remotePump (r.2.modShare w.newt w.d (fun h => { h with sent := h.sent + 1, progressAt := s.time.mono })) w d t
    if fieldAt o 0x22 1 = 0 then
      (s.newtRead w (o.src + p.1) p.2).bind (fun l s1 =>
        if 16384 ≤ s1.fab.reqs.length ∧ s1.reaches chip then .ok () s
        else go (s1.sendReq w.f w.q 0x02 chip 0 (2 ^ 63 + (o.dst + p.1) % 2 ^ 57) (l.map (fun b => BitVec.ofNat 8 (b % 256))) (maskOf l) (.newt w.d w.newt p.1)))
    else go (s.sendReq w.f w.q 0x01 chip 0 (2 ^ 63 + (o.src + p.1) % 2 ^ 57) [] 0 (.newt w.d w.newt p.1))

/-- A share of a newt's queue for a descriptor. -/
def State.share (s : State) (newt desc : Nat) : Option Share := (s.nwt.queues.getD newt []).find? (fun h => decide (h.desc = desc))

/-- End a piece of work in a share: a status stops it. -/
def State.shareEnd (s : State) (w : Wk) (x : Nk Unit) : State :=
  match x with
  | .ok _ t => t.modShare w.newt w.d (fun h => { h with progressAt := s.time.mono })
  | .bad c t => t.modShare w.newt w.d (fun h => { h with fault := c })

/-- A packet of a REMOTE.COPY has arrived: the next ones go, and the operation ends with the last. -/
def State.remoteMoved (s : State) (newt desc : Nat) : State :=
  match s.share newt desc, s.nwt.descs.get? desc with
  | some h, some d =>
    let w : Wk := { f := fnOfQueue d.queue, q := d.queue, d := desc, newt := newt, k := h.nextOp }
    let l := s.remotePieces w d
    let s1 := s.modShare newt desc (fun h => { h with moved := h.moved + 1, progressAt := s.time.mono })
    if h.stop ∨ h.fault ≠ 0 then s1
    else if l.length ≤ h.moved + 1 then s1.modShare newt desc (fun h => { h with nextOp := h.nextOp + 1, sent := 0, moved := 0 })
    else s1.shareEnd w (s1.remotePump w d (l.drop h.sent))
  | _, _ => s

/-- READ_DATA of a REMOTE.COPY: the bytes land at their place. -/
def State.remoteData (s : State) (newt desc off : Nat) (data : List Byte) (mask : Nat) : State :=
  match s.share newt desc, s.nwt.descs.get? desc with
  | some h, some d =>
    let w : Wk := { f := fnOfQueue d.queue, q := d.queue, d := desc, newt := newt, k := h.nextOp }
    let l := data.mapIdx (fun i b => if bit mask (i / 16) then 256 else b.toNat)
    (match s.newtWrite w ((d.op h.nextOp).dst + off) l with
     | .ok _ t => t.remoteMoved newt desc
     | .bad c t => t.modShare newt desc (fun h => { h with fault := c }))
  | _, _ => s

/-! One operation of a share. -/

/-- Has every share of a descriptor left its partial of an operation? -/
def Desc.allParts (d : Desc) (k : Nat) : Bool := d.newts.all (fun n => d.partials.any (fun p => decide (p.newt = n ∧ p.op = k)))

/-- Keep a share's partial, and finish the operation when it is the last. -/
def State.partialDone (s : State) (w : Wk) (words : List (Nat × Nat)) (tokens : Nat) (finish : State → Wk → Desc → Nk Unit) : Nk Unit :=
  let s1 := s.modDesc w.d (fun d => { d with partials := d.partials ++ [{ newt := w.newt, op := w.k, words := words, tokens := tokens }] })
  match s1.nwt.descs.get? w.d with
  | none => .ok () s1
  | some d => if d.allParts w.k then s1.mergeAt w d finish else .ok () s1

/-- Run operation `nextOp` of a started share, if it has the opcode and its linked input is there (R75). A count of 0 completes without any access, but for ATTN.PART (R76). -/
def State.newtRun (s : State) (newt desc opcode : Nat) (go : State → Wk → Desc → Nk Unit) : State :=
  match s.share newt desc, s.nwt.descs.get? desc with
  | some h, some d =>
    let w : Wk := { f := fnOfQueue d.queue, q := d.queue, d := desc, newt := newt, k := h.nextOp }
    if !h.started ∨ h.stop ∨ h.fault ≠ 0 ∨ d.opCount ≤ h.nextOp ∨ (d.op h.nextOp).opcode ≠ opcode ∨
        ((d.op h.nextOp).srcPrev ∧ (d.streamFor w).isNone) then s
    else if s.unserved newt then s.modShare newt desc (fun h => { h with fault := 0x14 })
    else match (if (d.op h.nextOp).count = 0 ∧ opcode ≠ 1 then .ok () (s.openStream w (d.op h.nextOp)) else go s w d) with
      | .ok _ t => t.modShare newt desc (fun h => { h with nextOp := h.nextOp + 1, progressAt := s.time.mono })
      | .bad c t => t.modShare newt desc (fun h => { h with fault := c })
  | _, _ => s

/-- ATTN_PART (R77, R80). -/
def attnPart (newt desc : Nat) (s : State) : State :=
  s.newtRun newt desc 0x01 (fun s w d => (s.attnWork w d).bind (fun r s => s.partialDone w r.1 r.2 State.attnFinish))

/-- KV_APPEND (R83). -/
def kvAppend (newt desc : Nat) (s : State) : State := s.newtRun newt desc 0x02 State.kvWork

/-- GATHER_REDUCE (R81). -/
def gatherReduce (newt desc : Nat) (s : State) : State :=
  s.newtRun newt desc 0x03 (fun s w d => (s.gatherWork w d).bind (fun r s => s.partialDone w r 0 State.gatherFinish))

/-- SCATTER (R82). -/
def scatter (newt desc : Nat) (s : State) : State := s.newtRun newt desc 0x04 State.scatterWork

/-- NEWT_COPY (R82). -/
def newtCopy (newt desc : Nat) (s : State) : State := s.newtRun newt desc 0x05 State.copyWork

/-- FILL (R76). -/
def fill (newt desc : Nat) (s : State) : State := s.newtRun newt desc 0x06 State.fillWork

/-- REDUCE (R80). -/
def reduce (newt desc : Nat) (s : State) : State := s.newtRun newt desc 0x07 State.reduceWork

/-- QUANT (R83). -/
def quant (newt desc : Nat) (s : State) : State := s.newtRun newt desc 0x08 State.quantWork

/-- DEQUANT (R83). -/
def dequant (newt desc : Nat) (s : State) : State := s.newtRun newt desc 0x09 State.dequantWork

/-- NEWT_ATOM (R84). -/
def newtAtom (newt desc : Nat) (s : State) : State := s.newtRun newt desc 0x0A State.atomWork

/-- CHECKSUM (R85). -/
def checksum (newt desc : Nat) (s : State) : State :=
  s.newtRun newt desc 0x0B (fun s w d => (s.checkWork w d).bind (fun r s => s.partialDone w r 0 State.checkFinish))

/-- REMOTE_COPY (R70, R86): the packets go out; the operation ends when the last has been acknowledged or has landed. -/
def remoteCopy (newt desc : Nat) (s : State) : State :=
  match s.share newt desc, s.nwt.descs.get? desc with
  | some h, some d =>
    let w : Wk := { f := fnOfQueue d.queue, q := d.queue, d := desc, newt := newt, k := h.nextOp }
    if !h.started ∨ h.stop ∨ h.fault ≠ 0 ∨ d.opCount ≤ h.nextOp ∨ (d.op h.nextOp).opcode ≠ 0x0C then s
    else if s.unserved newt then s.modShare newt desc (fun h => { h with fault := 0x14 })
    else
      let l := s.remotePieces w d
      if (d.op h.nextOp).count ≠ 0 ∧ !aligned16 [(d.op h.nextOp).src, (d.op h.nextOp).dst] then s.modShare newt desc (fun h => { h with fault := 0x11 })
      else if l.isEmpty then s.modShare newt desc (fun h => { h with nextOp := h.nextOp + 1 }) else s.shareEnd w (s.remotePump w d (l.drop h.sent))
  | _, _ => s

/-! Completion and faults (R91, R93, R94). -/

/-- Take a share out of its queue. -/
def State.dropShare (s : State) (newt desc : Nat) : State :=
  let s1 := { s with nwt.queues := s.nwt.queues.mapVals (fun k l => if k = newt then l.filter (fun h => !decide (h.desc = desc)) else l) }
  if (s1.nwt.queues.getD newt []).isEmpty then
    { s1 with nwt.queues := s1.nwt.queues.del newt, nwt.emptySince := s1.nwt.emptySince.put newt s.time.mono } else s1

/-- The newt that serves a queue has made handshake progress (R95). -/
def State.newtMoved (s : State) (queue : Nat) : State :=
  { s with nwt.queues := s.nwt.queues.mapVals (fun k l => if s.serverOf k = s.serverOf queue then l.map (fun h => { h with progressAt := s.time.mono }) else l) }

/-- A share that ran ends: its steps, its quantities and its trace record. -/
def State.closeShare (s : State) (newt : Nat) (h : Share) (d : Desc) (status : Nat) : State :=
  let u := s.freeVal 32
  let s1 := u.2.modDesc h.desc (fun d => { d with doneNewts := setInsert newt d.doneNewts, steps := (d.steps + u.1) % 2 ^ 64, endAt := s.time.gtb })
  let s2 := (s1.countEvent 2 newt 0x23 u.1 d.queue).addQty d.queue 6 (s.time.mono - h.startAt) d.layer d.operator
  (s2.trace 2 0x06 (32 + newt / 32) newt d.queue d.layer d.operator status (d.bytesRead % 2 ^ 64)).dropShare newt h.desc |>.newtMoved newt

/-- NEWT_SHARE_COMPLETE (R91): all the operations of a share are done; or a share that was told to stop has stopped. -/
def newtShareComplete (newt desc : Nat) (s : State) : State :=
  match s.share newt desc, s.nwt.descs.get? desc with
  | some h, some d =>
    if !h.started ∨ h.fault ≠ 0 then s
    else if h.stop then s.closeShare newt h d 0x16
    else if h.nextOp < d.opCount then s
    else
      let s1 := (s.countEvent 2 newt 0x20 1 d.queue).closeShare newt h d 0
      (match s1.nwt.descs.get? desc with
       | some e => if e.newts.all e.doneNewts.contains then s1.addQty d.queue 4 (e.bytesRead + e.bytesWritten) d.layer d.operator else s1
       | none => s1)
  | _, _ => s

/-- NEWT_SHARE_FAULT (R94): the share ends with its status, the other shares of the descriptor stop, and the context is killed. -/
def newtShareFault (newt desc status : Nat) (s : State) : State :=
  match s.share newt desc, s.nwt.descs.get? desc with
  | some h, some d =>
    if h.fault ≠ status ∨ status = 0 then s
    else
      let op := d.op h.nextOp
      let by0 := d.reporter.getD newt
      let s1 := (s.closeShare newt h d status).pushNwt (nwtRec status by0 d.queue op.opcode h.nextOp d.layer)
      let s2 := s1.modDesc desc (fun d => if d.status = 0 then { d with status := status, statusNewt := by0, statusOp := h.nextOp } else d)
      let others := d.newts.filter (fun n => !decide (n = newt) && !d.doneNewts.contains n)
      let s3 := others.foldl (fun s n =>
        let x := s.share n desc
        let s := { s with nwt.waiting := s.nwt.waiting.filter (fun y => !decide (y.desc = desc ∧ y.owner = n)) }
        let s := match x with
          | some y => if y.started then s.closeShare n y d 0x16 else (s.dropShare n desc).modDesc desc (fun d => { d with doneNewts := setInsert n d.doneNewts })
          | none => s.modDesc desc (fun d => { d with doneNewts := setInsert n d.doneNewts })
        s.pushNwt (nwtRec 0x16 n d.queue (match x with
          | some y => (d.op y.nextOp).opcode
          | none => (d.op 0).opcode) (match x with
          | some y => y.nextOp
          | none => 0) d.layer)) s2
      s3.killAt d.queue (if status = 0x15 then 0x0D else 0x0C) d.node
  | _, _ => s

/-- The completion record (Table 4.11). -/
def Desc.record (d : Desc) : List Byte :=
  leBytes 4 d.status ++ leBytes 2 d.statusNewt ++ leBytes 1 d.statusOp ++ leBytes 1 0 ++ leBytes 8 (d.startAt.getD d.endAt) ++ leBytes 8 d.endAt ++
    leBytes 8 d.bytesRead ++ leBytes 8 d.bytesWritten ++ leBytes 8 d.steps ++ leBytes 4 (d.layer % 2 ^ 24) ++ leBytes 2 d.operator ++ zeroBytes 10

/-- NEWT_DESCRIPTOR_COMPLETE (R91, R93, R97, R98): the record is written, and the node is done; a descriptor error kills the context. Completions of a pre-empted queue are held
until it resumes; after the point of a disable or a reset nothing is written. -/
def newtDescriptorComplete (desc : Nat) (s : State) : State :=
  match s.nwt.descs.get? desc with
  | none => s
  | some d =>
    let f := fnOfQueue d.queue
    let shut := decide ((s.fn f).gate = .resetting ∨ (s.fn f).gate = .disabled ∨ ((s.fn f).gate = .draining ∧ (s.fn f).pointReached) ∨ (s.q d.queue).state = .resetting ∨ (s.q d.queue).state = .disabled)
    let gone := { s with nwt.descs := s.nwt.descs.del desc }
    if !d.newts.all d.doneNewts.contains ∨ (d.status = 0 ∧ !shut ∧ (s.q d.queue).state ≠ .running) then s
    else if shut then gone
    else
      let r := if d.completion = 0 then (0, gone) else gone.writeV f d.completion d.record
      let s1 := if d.status = 0x10 ∨ (d.status = 0x12 ∧ d.statusNewt = 0xFFFF) then r.2.killAt d.queue 0x0C d.node else r.2
      if d.status ≠ 0 then s1
      else if r.1 ≠ 0 then s1.killAt d.queue r.1 d.node
      else s1.nodeDone d.node

/-! Failure, stall and gating (R95, R96, R99). -/

/-- A newt fails (R95, R96): its buddy takes over its queue; started shares restart, or end with 0x14 if they have performed atomic updates; with no newt left all of them
end so. A gated buddy that takes a queue with shares wakes (R99). A covered fault of class 4. -/
def State.downNewt (s : State) (n : Nat) : State :=
  let s2 := if s.newtFailed n then s
    else (State.addNum { s with nwt.failed := setInsert n s.nwt.failed, nwt.gated := setErase n s.nwt.gated } E.newtsFailed 16).raiseNwt 3
  let dead := s2.unserved n
  let s3 := if dead then s2 else s2.raiseNwt 4
  let restart (h : Share) : Share :=
    if dead ∨ (h.started ∧ h.atomics) then { h with started := true, fault := if h.fault = 0 then 0x14 else h.fault }
    else { h with started := false, nextOp := 0, sent := 0, moved := 0 }
  let hit (k : Nat) : Bool := decide (k = n) || (dead && decide (k = buddyOf n))
  let open0 := (s3.nwt.queues.getD n []).filter (fun h => h.started && !h.atomics)
  let s4 : State := { s3 with
    nwt.queues := s3.nwt.queues.mapVals (fun k l => if hit k then l.map restart else l)
    nwt.descs := s3.nwt.descs.mapVals (fun k d => if open0.any (fun h => decide (h.desc = k)) then
      { d with partials := d.partials.filter (fun p => !decide (p.newt = n)), streams := d.streams.keep (fun x _ => !decide (x % 1024 = n)) } else d)
    fab.reqs := s3.fab.reqs.keep (fun _ r => match r.issuer with
      | .newt d m _ => !(decide (m = n) && open0.any (fun h => decide (h.desc = d)))
      | _ => true) }
  if dead ∨ (s4.nwt.queues.getD n []).isEmpty then s4 else s4.wakeNewt (buddyOf n)

/-- A newt of a working channel fails (R95, class 4). -/
def State.failNewt (s : State) (n : Nat) : State :=
  if 640 ≤ n ∨ s.newtFailed n then s else (s.downNewt n).faultRecord 4 n 0 0 0 (s.num (E.newtEpoch + n))

/-- NEWT_FAIL. -/
def newtFail (newt : Nat) (s : State) : State := s.failNewt newt

/-- Shares that a newt holds, started or not, in the queues that it serves. -/
def State.sharesHeld (s : State) (newt : Nat) : List Share := (s.servedBy newt).flatMap (fun k => s.nwt.queues.getD k [])

/-- NEWT_STALL_TIMEOUT: no handshake progress for 10 µs while the newt holds a share. -/
def newtStallTimeout (newt : Nat) (s : State) : State :=
  if !(s.sharesHeld newt).isEmpty ∧ (s.sharesHeld newt).all (fun h => decide (h.progressAt + 10000 ≤ s.time.mono)) then s.failNewt newt else s

/-- NEWT_IDLE_GATE: the queue, and that which the newt serves for its buddy, have been empty for newt_idle_gate. -/
def newtIdleGate (newt : Nat) (s : State) : State :=
  let us := s.num E.newtIdleGate
  if 640 ≤ newt ∨ us = 0 ∨ s.newtFailed newt ∨ s.nwt.gated.contains newt ∨ !(s.sharesHeld newt).isEmpty ∨
      (s.servedBy newt).any (fun k => decide (s.time.mono < s.nwt.emptySince.getD k 0 + us * 1000)) then s
  else { s with nwt.gated := setInsert newt s.nwt.gated }

/-- PAGE_WALK (R322, R325): a walk for a miss ends with a leaf, which the translation caches keep, or with a fault, which the access that missed reports. -/
def pageWalk (fn va : Nat) (access : Access) (s : State) : State :=
  match s.cached fn (va / 2 ^ 16) with
  | some _ => s
  | none =>
    match s.walk fn va with
    | .bad _ => s
    | .page t frame _ r w x => if permits access r w x then s.cacheLeaf fn (va / 2 ^ 16) t frame r w x else s

/-! The meanings. -/

/-- NEWT_DESCRIPTOR_FETCH (R68). -/
def execNewtDescriptorFetch (node : Nat) (s : State) : Host.Outcome State Fault Refusal :=
  .next (s.unit 5 node (newtDescriptorFetch node))
/-- NEWT_SHARE_DELIVER (R74). -/
def execNewtShareDeliver (newt : Nat) (fn : Nat) (s : State) : Host.Outcome State Fault Refusal :=
  .next (newtShareDeliver newt fn s)
/-- NEWT_SHARE_START (R75). -/
def execNewtShareStart (newt : Nat) (s : State) : Host.Outcome State Fault Refusal :=
  .next (newtShareStart newt s)
/-- ATTN_PART (R77). -/
def execAttnPart (newt : Nat) (desc : Nat) (s : State) : Host.Outcome State Fault Refusal :=
  .next (s.unit 3 (newt * 2 ^ 32 + desc) (attnPart newt desc))
/-- KV_APPEND (R83). -/
def execKvAppend (newt : Nat) (desc : Nat) (s : State) : Host.Outcome State Fault Refusal :=
  .next (s.unit 3 (newt * 2 ^ 32 + desc) (kvAppend newt desc))
/-- GATHER_REDUCE (R81). -/
def execGatherReduce (newt : Nat) (desc : Nat) (s : State) : Host.Outcome State Fault Refusal :=
  .next (s.unit 3 (newt * 2 ^ 32 + desc) (gatherReduce newt desc))
/-- SCATTER (R82). -/
def execScatter (newt : Nat) (desc : Nat) (s : State) : Host.Outcome State Fault Refusal :=
  .next (s.unit 3 (newt * 2 ^ 32 + desc) (scatter newt desc))
/-- NEWT_COPY (R82). -/
def execNewtCopy (newt : Nat) (desc : Nat) (s : State) : Host.Outcome State Fault Refusal :=
  .next (s.unit 3 (newt * 2 ^ 32 + desc) (newtCopy newt desc))
/-- FILL (R76). -/
def execFill (newt : Nat) (desc : Nat) (s : State) : Host.Outcome State Fault Refusal :=
  .next (s.unit 3 (newt * 2 ^ 32 + desc) (fill newt desc))
/-- REDUCE (R80). -/
def execReduce (newt : Nat) (desc : Nat) (s : State) : Host.Outcome State Fault Refusal :=
  .next (s.unit 3 (newt * 2 ^ 32 + desc) (reduce newt desc))
/-- QUANT (R83). -/
def execQuant (newt : Nat) (desc : Nat) (s : State) : Host.Outcome State Fault Refusal :=
  .next (s.unit 3 (newt * 2 ^ 32 + desc) (quant newt desc))
/-- DEQUANT (R83). -/
def execDequant (newt : Nat) (desc : Nat) (s : State) : Host.Outcome State Fault Refusal :=
  .next (s.unit 3 (newt * 2 ^ 32 + desc) (dequant newt desc))
/-- NEWT_ATOM (R84). -/
def execNewtAtom (newt : Nat) (desc : Nat) (s : State) : Host.Outcome State Fault Refusal :=
  .next (s.unit 3 (newt * 2 ^ 32 + desc) (newtAtom newt desc))
/-- CHECKSUM (R85). -/
def execChecksum (newt : Nat) (desc : Nat) (s : State) : Host.Outcome State Fault Refusal :=
  .next (s.unit 3 (newt * 2 ^ 32 + desc) (checksum newt desc))
/-- REMOTE_COPY (R86). -/
def execRemoteCopy (newt : Nat) (desc : Nat) (s : State) : Host.Outcome State Fault Refusal :=
  .next (s.unit 3 (newt * 2 ^ 32 + desc) (remoteCopy newt desc))
/-- NEWT_SHARE_COMPLETE (R91). -/
def execNewtShareComplete (newt : Nat) (desc : Nat) (s : State) : Host.Outcome State Fault Refusal :=
  .next (s.unit 3 (newt * 2 ^ 32 + desc) (newtShareComplete newt desc))
/-- NEWT_DESCRIPTOR_COMPLETE (R93). -/
def execNewtDescriptorComplete (desc : Nat) (s : State) : Host.Outcome State Fault Refusal :=
  .next (s.unit 4 desc (newtDescriptorComplete desc))
/-- NEWT_SHARE_FAULT (R94). -/
def execNewtShareFault (newt : Nat) (desc : Nat) (status : Nat) (s : State) : Host.Outcome State Fault Refusal :=
  .next (newtShareFault newt desc status s)
/-- NEWT_FAIL (R95). -/
def execNewtFail (newt : Nat) (s : State) : Host.Outcome State Fault Refusal :=
  .next (newtFail newt s)
/-- NEWT_STALL_TIMEOUT (R95). -/
def execNewtStallTimeout (newt : Nat) (s : State) : Host.Outcome State Fault Refusal :=
  .next (newtStallTimeout newt s)
/-- NEWT_IDLE_GATE (R99). -/
def execNewtIdleGate (newt : Nat) (s : State) : Host.Outcome State Fault Refusal :=
  .next (newtIdleGate newt s)
/-- PAGE_WALK (R322). -/
def execPageWalk (fn : Nat) (va : Nat) (access : Access) (s : State) : Host.Outcome State Fault Refusal :=
  .next (pageWalk fn va access s)

end Sys2Proof.Machine
end

