-- ==== Sys2Proof/Machine/Stack.lean ====
section
/-! DEFINITION. Machine/Stack.lean: the base dies: reads and writes with the granule code, poison, scrubbing, sparing, die and pin-group
retirement, failures, and the mode of a frame row (R44 to R59, R456). -/

namespace Sys2Proof.Machine

/-! The decoder (R45, R47, Table 3.2). -/

/-- The columns of Table 3.2. -/
inductive Guarantee
  | corrected (fixed : Option Nat)   -- with the position that is not erased and is corrected
  | detected
  | beyond
deriving DecidableEq, Repr

/-- What a decoder makes of a codeword. -/
inductive Decoded
  | good (fixed : Option Nat) (data : List Byte)   -- delivered, with the position that is not erased and was corrected
  | poison                                         -- in the poisoned form (R47)
  | bad                                            -- detected and not corrected
deriving DecidableEq, Repr

/-- The erased positions of a channel (R55). -/
def State.erasedOf (s : State) (ch : Nat) : List Nat :=
  bitList 20 (natOr 20 (s.num (E.retiredDies + ch / 32)) (s.stk.pinGroups.getD ch 0))

/-- Positions that hold a wrong symbol and are not erased. -/
def wrongPositions (erased : List Nat) (errs : List (Nat × Nat)) : List Nat :=
  ((errs.filter (fun e => decide (e.1 < 20) && !decide (e.2 % 256 = 0) && !erased.contains e.1)).map Prod.fst).eraseDups

/-- The columns of Table 3.2, for `e` erased positions and the wrong symbols elsewhere. -/
def judge (e : Nat) (wrong : List Nat) : Guarantee :=
  if wrong.length = 0 then .corrected none
  else if wrong.length = 1 ∧ e ≤ 1 then .corrected wrong.head?
  else if wrong.length ≤ (if e = 0 then 3 else 2) then .detected
  else .beyond

/-- Beyond the table the decoder detects the error, or delivers wrong data as correct: a free choice and free data that differ from the granule (log entry 1). -/
def State.miscorrect (s : State) (data : List Byte) : Option (List Byte) × State :=
  let a := s.freeVal 1
  if a.1 = 0 then (none, a.2)
  else
    let b := a.2.freeVal 128
    (some (leBytes data.length (natXor 128 (ofLe data) (b.1 % (2 ^ (8 * data.length) - 1) + 1))), b.2)

/-- A decoder receives the codeword of a granule that is not poisoned, with the wrong symbols `errs` in it. What Table 3.2 guarantees is taken from it (the code of R44 keeps it);
the codeword itself decides whether the rest is in the poisoned form, which is tested before any correction (R47), and whether a correction fits it although the errors lie beyond
the table (log entry 100). -/
def State.decoded (s : State) (g : Nat) (data : List Byte) (errs : List (Nat × Nat)) : Decoded × State :=
  let e := s.erasedOf (s.newtOf (16 * g))
  let word := withErrors (codeword data false) errs
  match judge e.length (wrongPositions e errs) with
  | .corrected p => (.good p data, s)
  | .detected => (if poisonWord e word then .poison else .bad, s)
  | .beyond =>
    if poisonWord e word then (.poison, s)
    else match decodeWord e word with
      | some (p, d) => (.good p d, s)
      | none =>
        match s.miscorrect data with
        | (none, t) => (.bad, t)
        | (some d, t) => (.good none d, t)

/-! Corrections and poison. -/

/-- The channel, as a newt id, and the row of 2 KiB in it that hold a granule (R53). -/
def State.rowKey (s : State) (g : Nat) : Nat :=
  let m := s.mapAddr (16 * g)
  (32 * m.1 + m.2.1) * 2 ^ 21 + m.2.2 / 2048

/-- A corrected storage error is counted and logged (type 0). -/
def State.logStorage (s : State) (g pos : Nat) : State :=
  let n := s.newtOf (16 * g)
  ((s.addNum (E.correctedCount + n / 32) 64).raiseStk 0).pushStk (stkRec 0 pos (n % 32) (n / 32) g)

/-- A corrected storage error at a position that is not erased: counted and logged, and remembered for R53 and R54. -/
def State.noteStorage (s : State) (g pos : Nat) : State :=
  let n := s.newtOf (16 * g)
  let t := s.time.mono
  let s1 := s.logStorage g pos
  let old := (s1.stk.rowEvents.getD (s.rowKey g) []).filter (fun e => decide (t < e.1 + 86400000000000))
  { s1 with
    stk.ceEvents := (s1.stk.ceEvents.filter (fun e => !(decide (e.1 = n / 32 ∧ e.2.1 = pos) && decide (e.2.2.2 + 10000 < t)))) ++ [(n / 32, pos, n, t)]
    stk.rowEvents := s1.stk.rowEvents.put (s.rowKey g) ((t, pos, g) :: old) }

/-- A granule is converted to the poisoned form (R49, R50): counted, logged as type 2 and a fault of class 16. -/
def State.makePoison (s : State) (g : Nat) (stored : Bool) : State :=
  let n := s.newtOf (16 * g)
  let s1 := if stored then s.poisonGranule g else s
  (((s1.addNum (E.poisonedCount + n / 32) 64).raiseStk 2).pushStk (stkRec 2 31 (n % 32) (n / 32) g)).faultRecord 16 (n / 32) 0 0xFFFFFFFF 0 0

/-- Deliver a granule to the requester. -/
def State.returnGranule (s : State) (data : List Byte) (poison : Bool) : State := { s with stk.rdata := data, stk.rpoison := poison }

/-- Are accesses to a granule held: its row is being copied into a spare row (R53), or its stack accepts no request during a retirement (R54)? -/
def State.held (s : State) (g : Nat) : Bool := s.stk.sparing.has (s.rowKey g) || s.stk.hold.has (s.newtOf (16 * g) / 32)

/-- A codeword corrected at a position that is not erased is noted, and written back where a write-back is due (R51 to R53). -/
def State.noteFixed (s : State) (g : Nat) (fixed : Option Nat) (back : Bool) : State :=
  match fixed with
  | none => s
  | some p =>
    let s1 := s.noteStorage g p
    if back then { s1 with stk.writebacks := setInsert g s1.stk.writebacks } else s1

/-- A bank read at the base die (R46 to R52). `back`: a corrected codeword is written back. -/
def State.bankAccess (s : State) (g : Nat) (errs : List (Nat × Nat)) (back : Bool) : State :=
  if s.granulePoison g then s.returnGranule (zeroBytes 16) true
  else match s.decoded g (s.bankRead (16 * g) 16) errs with
    | (.good p d, t) => (t.noteFixed g p back).returnGranule d false
    | (.poison, t) => t.returnGranule (zeroBytes 16) true
    | (.bad, t) => { t with stk.rereads := setInsert g t.stk.rereads }

/-- BASE_DIE_READ: a read that the base die has accepted; `errs` are the wrong symbols that it finds, as positions and differences. -/
def baseDieRead (pa : Nat) (errs : List (Nat × Nat)) (s : State) : State :=
  if s.held (pa / 16) then s else s.bankAccess (pa / 16) errs (decide (s.num E.demandScrub = 1))

/-- POISON_REREAD (R49, R54): once no die retirement is in progress on the stack the granule is read once more with the current map. A reread that only restores erased symbols
is counted and logged too, at the first of them. -/
def poisonReread (pa : Nat) (errs : List (Nat × Nat)) (s : State) : State :=
  let g := pa / 16
  if !s.stk.rereads.contains g ∨ s.held g then s
  else
    let s1 : State := { s with stk.rereads := setErase g s.stk.rereads }
    if s1.granulePoison g then s1.returnGranule (zeroBytes 16) true
    else match s1.decoded g (s1.bankRead (16 * g) 16) errs with
      | (.good none d, t) =>
        (match errs.find? (fun x => (s1.erasedOf (s1.newtOf (16 * g))).contains x.1) with
         | some x => (t.logStorage g x.1).returnGranule d false
         | none => t.returnGranule d false)
      | (.good (some p) d, t) => (t.noteFixed g (some p) (decide (s.num E.demandScrub = 1))).returnGranule d false
      | (.poison, t) => t.returnGranule (zeroBytes 16) true
      | (.bad, t) => (t.makePoison g true).returnGranule (zeroBytes 16) true

/-- The runs of bytes of a granule that a mask of 16 bits names. -/
def maskedBytes (data : List Byte) (mask : Nat) : List (Nat × Byte) :=
  (List.range 16).filterMap (fun i => if bit mask i then some (i, data.getD i 0#8) else none)

/-- A corrected link error (R43, R55): counted, logged as type 1, and remembered. -/
def State.noteLink (s : State) (g pos : Nat) : State :=
  let n := s.newtOf (16 * g)
  let t := s.time.mono
  let s1 := ((s.addNum (E.correctedCount + n / 32) 64).raiseStk 1).pushStk (stkRec 1 pos (n % 32) (n / 32) g)
  let old := (s1.stk.linkEvents.getD (n * 32 + pos) []).filter (fun e => decide (t < e + 1000000000))
  { s1 with stk.linkEvents := s1.stk.linkEvents.put (n * 32 + pos) (t :: old) }

/-- A link error that was corrected, if there was one. -/
def State.noteLinkFixed (s : State) (g : Nat) : Option Nat → State
  | none => s
  | some p => s.noteLink g p

/-- BASE_DIE_WRITE (R46, R48, R56): the granule that arrives is checked; all 16 bytes replace poison, and a narrower write leaves a poisoned granule poisoned. A granule that
arrives in the poisoned form is stored in it, and so is one that the check finds uncorrectable, which is then logged (R47). -/
def baseDieWrite (pa : Nat) (data : List Byte) (mask : Nat) (errs : List (Nat × Nat)) (s : State) : State :=
  let g := pa / 16
  let put (s : State) (d : List Byte) : State :=
    if mask % 65536 = 65535 then s.bankGranule (16 * g) d
    else (maskedBytes d mask).foldl (fun s x => s.bankGranule (16 * g + x.1) [x.2]) s
  if s.held g ∨ s.granuleFailed g ∨ mask % 65536 = 0 then s
  else match s.decoded g data errs with
    | (.good p d, t) => put (t.noteLinkFixed g p) d
    | (.poison, t) => t.poisonGranule g
    | (.bad, t) => t.makePoison g true

/-- The granules of a transfer, with what the receiver makes of each. One that the base die sends in the poisoned form is recognised as such (R47). -/
def State.transferJudge (s : State) (g0 : Nat) (write : Bool) (data : List Byte) (errs : List (Nat × Nat × Nat)) : List (Nat × Decoded) × State :=
  (List.range 4).foldl (fun (acc : List (Nat × Decoded) × State) i =>
    if !write && acc.2.granulePoison (g0 + i) then (acc.1 ++ [(i, .poison)], acc.2)
    else
      let r := acc.2.decoded (g0 + i) ((data.drop (16 * i)).take 16) ((errs.filter (fun x => decide (x.1 = i))).map Prod.snd)
      (acc.1 ++ [(i, r.1)], r.2)) ([], s)

/-- One granule of a transfer whose replays are over reaches the banks, or the requester of a read (R48, R50). -/
def State.transferLand (s : State) (g : Nat) (write : Bool) (d : Decoded) : State :=
  match d with
  | .good _ data => if write then s.bankGranule (16 * g) data else s.returnGranule data false
  | .poison => if write then s.poisonGranule g else s.returnGranule (zeroBytes 16) true
  | .bad => if write then s.makePoison g true else (s.makePoison g false).returnGranule (zeroBytes 16) true

/-- D2D_TRANSFER_RECEIVE (R50): a transfer of 64 bytes arrives. With an uncorrectable granule in it the receiver asks for a replay, up to four; after the fourth a read's requester
gets the poisoned form and a write stores it. Otherwise a write lands at the banks. -/
def d2dTransferReceive (pa : Nat) (write : Bool) (data : List Byte) (errs : List (Nat × Nat × Nat)) (s : State) : State :=
  let g0 := pa / 64 * 4
  let key := pa / 64 * 2 + b2n write
  let sent := if write then data else s.bankRead (16 * g0) 64
  if memSize ≤ pa ∨ (write ∧ data.length ≠ 64) ∨ s.held g0 then s
  else
    let r := s.transferJudge g0 write sent errs
    let s1 := r.1.foldl (fun t x => match x.2 with
      | .good p _ => t.noteLinkFixed (g0 + x.1) p
      | _ => t) r.2
    if r.1.any (fun x => decide (x.2 = .bad)) ∧ s1.stk.replays.getD key 0 < 4 then
      { s1 with stk.replays := s1.stk.replays.put key (s1.stk.replays.getD key 0 + 1) }
    else r.1.foldl (fun t x => t.transferLand (g0 + x.1) write x.2) { s1 with stk.replays := s1.stk.replays.del key }

/-! Scrubbing (R51, R52). -/

/-- Granules of device memory. -/
def granuleCount : Nat := memSize / 16

/-- PATROL_SCRUB_READ (R51): the next granule is read and a corrected codeword written back; a pass over every channel counts. -/
def patrolScrubRead (errs : List (Nat × Nat)) (s : State) : State :=
  let g := s.stk.patrol
  if s.held g then s
  else
    let s1 := s.bankAccess g errs true
    let s2 : State := { s1 with stk.rdata := s.stk.rdata, stk.rpoison := s.stk.rpoison }
    if g + 1 < granuleCount then { s2 with stk.patrol := g + 1 }
    else { s2 with stk.patrol := 0, stk.passCount := (s2.stk.passCount + 1) % 2 ^ 32 }

/-- DEMAND_SCRUB_WRITEBACK (R52): the corrected codeword lands, which restores the granule's own codeword; a write accepted since the read has cancelled it. -/
def demandScrubWriteback (pa : Nat) (s : State) : State := { s with stk.writebacks := setErase (pa / 16) s.stk.writebacks }

/-! Row sparing (R53). -/

/-- ROW_SPARE: a row that needed correction on four reads within 24 hours is copied into a spare row, or logged when the channel has none left. -/
def rowSpare (channel row : Nat) (s : State) : State :=
  let key := channel * 2 ^ 21 + row
  let ev := s.stk.rowEvents.getD key []
  match ev with
  | [] => s
  | (_, pos, g) :: _ =>
    if ev.length < 4 ∨ s.stk.sparing.has key ∨ s.channelFailed channel then s
    else
      let s1 : State := { s with stk.rowEvents := s.stk.rowEvents.del key }
      if 512 ≤ s.stk.spared.countP (fun k => decide (k / 2 ^ 21 = channel)) then
        ((s1.raiseStk 5).pushStk (stkRec 5 31 (channel % 32) (channel / 32) g)).faultRecord 1 (channel / 32) 0 0 0 0
      else { s1 with stk.sparing := s1.stk.sparing.put key (s.time.mono, pos, g) }

/-- ROW_SPARE_COMPLETE: the address is redirected and held accesses resume. The copy, with correction, leaves the row's contents as they were. -/
def rowSpareComplete (channel row : Nat) (s : State) : State :=
  let key := channel * 2 ^ 21 + row
  match s.stk.sparing.get? key with
  | none => s
  | some (t, pos, g) =>
    let s1 : State := { s with stk.sparing := s.stk.sparing.del key, stk.spared := s.stk.spared ++ [key] }
    (((s1.addNum (E.spareRowsUsed + channel / 32) 16).raiseStk 5).pushStk (stkRec 5 pos (channel % 32) (channel / 32) g)).faultRecord 1 (channel / 32) 0
      (s.time.mono - t) 0 0

/-! Failure and retirement (R54 to R56). -/

/-- Channels fail (R56): the reads that wait in them are answered with the poisoned form, and their newts fail with them. -/
def State.failChannels (s : State) (stack : Nat) (mask : Nat) : State :=
  let hit (g : Nat) : Bool := decide (s.newtOf (16 * g) / 32 = stack) && bit mask (s.newtOf (16 * g) % 32)
  let s0 : State := { s with stk.rereads := s.stk.rereads.filter (fun g => !hit g) }
  let s1 := (if s.stk.rereads.any hit then s0.returnGranule (zeroBytes 16) true else s0).setNum (E.failedChannels + stack)
    (natOr 32 (s.num (E.failedChannels + stack)) mask)
  (bitList 32 mask).foldl (fun s c => s.downNewt (32 * stack + c)) s1

/-- A stack fails (R55, R456): all its channels fail, waiting reads are answered poisoned, and the failure is logged as type 6 and class 18. -/
def State.failStack (s : State) (stack : Nat) : State :=
  if 20 ≤ stack ∨ bit s.stk.stackFailed stack then s
  else
    let s1 : State := { s with
      stk.stackFailed := setBit s.stk.stackFailed stack
      stk.hold := s.stk.hold.del stack, stk.holdAt := s.stk.holdAt.del stack }
    (((s1.failChannels stack (2 ^ 32 - 1)).raiseStk 7).pushStk (stkRec 6 31 0 stack 0)).faultRecord 18 stack 0 0xFFFFFFFF 0 0

/-- A channel fails (R55, R56). -/
def State.failChannel (s : State) (ch : Nat) : State :=
  if 640 ≤ ch ∨ s.channelFailed ch then s
  else (((s.failChannels (ch / 32) (2 ^ (ch % 32))).raiseStk 7).pushStk (stkRec 6 31 (ch % 32) (ch / 32) 0)).faultRecord 18 (ch / 32) 0 0xFFFFFFFF 0 0

/-- Would a retirement of a die make a third erasure in a channel of the stack that has not failed (Table 3.4)? -/
def State.dieTooMany (s : State) (stack pos : Nat) : Bool :=
  (List.range 32).any (fun c => !s.channelFailed (32 * stack + c) && !(s.erasedOf (32 * stack + c)).contains pos &&
    decide (2 ≤ (s.erasedOf (32 * stack + c)).length))

/-- Load a position into every erasure map of a stack (R54), or fail the stack (Table 3.4). -/
def State.retireDie (s : State) (stack pos interruption : Nat) : State :=
  if s.dieTooMany stack pos then s.failStack stack
  else
    let s1 := s.setNum (E.retiredDies + stack) (setBit (s.num (E.retiredDies + stack)) pos)
    ((s1.raiseStk 4).pushStk (stkRec 4 pos 0 stack 0)).faultRecord 2 stack pos interruption 0 0

/-- DIE_RETIRE_START (R54, R55): corrected errors at the position came from four channels within 10 µs. The stack stops accepting requests; a second retirement waits for the first. -/
def dieRetireStart (stack pos : Nat) (s : State) : State :=
  let chans := ((s.stk.ceEvents.filter (fun e => decide (e.1 = stack ∧ e.2.1 = pos))).map (fun e => e.2.2.1)).eraseDups
  if 20 ≤ stack ∨ 20 ≤ pos ∨ chans.length < 4 ∨ bit s.stk.stackFailed stack ∨ s.stk.hold.has stack ∨ bit (s.num (E.retiredDies + stack)) pos then s
  else
    let s1 : State := { s with stk.ceEvents := s.stk.ceEvents.filter (fun e => !decide (e.1 = stack ∧ e.2.1 = pos)) }
    if s1.dieTooMany stack pos then s1.failStack stack
    else { s1 with stk.hold := s1.stk.hold.put stack pos, stk.holdAt := s1.stk.holdAt.put stack s.time.mono }

/-- DIE_RETIRE_COMPLETE (R54). -/
def dieRetireComplete (stack : Nat) (s : State) : State :=
  match s.stk.hold.get? stack with
  | none => s
  | some pos =>
    State.retireDie { s with stk.hold := s.stk.hold.del stack, stk.holdAt := s.stk.holdAt.del stack } stack pos (s.time.mono - s.stk.holdAt.getD stack s.time.mono)

/-- PIN_GROUP_RETIRE (R55, Table 3.4): 64 corrected link errors at the position within 1 s; a third erasure fails the channel. -/
def pinGroupRetire (channel pos : Nat) (s : State) : State :=
  let e := s.erasedOf channel
  if 640 ≤ channel ∨ 20 ≤ pos ∨ (s.stk.linkEvents.getD (channel * 32 + pos) []).length < 64 ∨ s.channelFailed channel ∨ e.contains pos then s
  else
    let s1 : State := { s with stk.linkEvents := s.stk.linkEvents.del (channel * 32 + pos) }
    if 2 ≤ e.length then s1.failChannel channel
    else
      let s2 : State := { s1 with stk.pinGroups := s1.stk.pinGroups.put channel (setBit (s1.stk.pinGroups.getD channel 0) pos) }
      ((s2.raiseStk 4).pushStk (stkRec 4 pos (channel % 32) (channel / 32) 0)).faultRecord 2 (channel / 32) pos 0 0 0

/-- BASE_DIE_STALL_TIMEOUT (R456): no handshake progress for 10 µs while the base die holds a request. -/
def baseDieStallTimeout (stack : Nat) (s : State) : State := s.failStack stack

/-! The mode of a frame row (R58, R59). -/

/-- Zero a range at the banks: every granule of it holds zero with a valid code. -/
def State.zeroRange (s : State) (a n : Nat) : State :=
  { s with
    mem := cellZero s.mem a n
    poison := s.poison.filter (fun g => !(decide (a ≤ 16 * g) && decide (16 * g < a + n)))
    l2.resv := s.l2.resv.keep (fun _ v => !(decide (a ≤ v.1) && decide (v.1 < a + n)))
    stk.writebacks := s.stk.writebacks.filter (fun g => !(decide (a ≤ 16 * g) && decide (16 * g < a + n))) }

/-- ROW_MODE_WRITE (R59): rejected while a slab of the row is granted; otherwise the base dies begin to zero the row. -/
def rowModeWrite (who : Origin) (row value : Nat) (s : State) : State :=
  if 48 ≤ row then s.answer 1
  else
    let granted := (rangeFrom (20 * row) 20).any (fun n => (s.slabOwner n).isSome)
    let now := s.stk.rowZeroing.getD row (s.num (E.rowMode + row))
    s.deviceWrite who (E.rowMode + row) value (if 1 < value then 4 else if granted then 5 else 0)
      (fun t => { t with stk.rowZeroing := t.stk.rowZeroing.put row now })

/-- ROW_ZERO_COMPLETE (R59): the row is zero in every stack and its new mode takes effect. -/
def rowZeroComplete (row : Nat) (s : State) : State :=
  if s.stk.rowZeroing.has row then
    State.zeroRange { s with stk.rowZeroing := s.stk.rowZeroing.del row } (row * 0xA00000000) 0xA00000000
  else s

/-! The two accesses to a bank, which can name an address that does not exist. -/

/-- BASE_DIE_READ (R46): an address outside device memory does not exist (R58). -/
def execBaseDieRead (pa : Nat) (errs : List (Nat × Nat)) (s : State) : Host.Outcome State Fault Refusal :=
  if memSize ≤ pa then .fault .noSuchAddress else .next (baseDieRead pa errs s)

/-- BASE_DIE_WRITE (R46): an address outside device memory does not exist (R58). -/
def execBaseDieWrite (pa : Nat) (data : List Byte) (mask : Nat) (errs : List (Nat × Nat)) (s : State) : Host.Outcome State Fault Refusal :=
  if memSize ≤ pa then .fault .noSuchAddress else .next (baseDieWrite pa data mask errs s)

/-! The meanings. -/

/-- POISON_REREAD (R49). -/
def execPoisonReread (pa : Nat) (errs : List (Nat × Nat)) (s : State) : Host.Outcome State Fault Refusal :=
  .next (poisonReread pa errs s)
/-- D2D_TRANSFER_RECEIVE (R50). -/
def execD2dTransferReceive (pa : Nat) (write : Bool) (data : List Byte) (errs : List (Nat × Nat × Nat)) (s : State) : Host.Outcome State Fault Refusal :=
  .next (d2dTransferReceive pa write data errs s)
/-- PATROL_SCRUB_READ (R51). -/
def execPatrolScrubRead (errs : List (Nat × Nat)) (s : State) : Host.Outcome State Fault Refusal :=
  .next (patrolScrubRead errs s)
/-- DEMAND_SCRUB_WRITEBACK (R52). -/
def execDemandScrubWriteback (pa : Nat) (s : State) : Host.Outcome State Fault Refusal :=
  .next (demandScrubWriteback pa s)
/-- ROW_SPARE (R53). -/
def execRowSpare (channel : Nat) (row : Nat) (s : State) : Host.Outcome State Fault Refusal :=
  .next (rowSpare channel row s)
/-- ROW_SPARE_COMPLETE (R53). -/
def execRowSpareComplete (channel : Nat) (row : Nat) (s : State) : Host.Outcome State Fault Refusal :=
  .next (rowSpareComplete channel row s)
/-- DIE_RETIRE_START (R54). -/
def execDieRetireStart (stack : Nat) (pos : Nat) (s : State) : Host.Outcome State Fault Refusal :=
  .next (dieRetireStart stack pos s)
/-- DIE_RETIRE_COMPLETE (R54). -/
def execDieRetireComplete (stack : Nat) (s : State) : Host.Outcome State Fault Refusal :=
  .next (dieRetireComplete stack s)
/-- PIN_GROUP_RETIRE (R55). -/
def execPinGroupRetire (channel : Nat) (pos : Nat) (s : State) : Host.Outcome State Fault Refusal :=
  .next (pinGroupRetire channel pos s)
/-- BASE_DIE_STALL_TIMEOUT (R456). -/
def execBaseDieStallTimeout (stack : Nat) (s : State) : Host.Outcome State Fault Refusal :=
  .next (baseDieStallTimeout stack s)
/-- ROW_MODE_WRITE (R59). -/
def execRowModeWrite (who : Origin) (row : Nat) (value : Nat) (s : State) : Host.Outcome State Fault Refusal :=
  .next (rowModeWrite who row value s)
/-- ROW_ZERO_COMPLETE (R59). -/
def execRowZeroComplete (row : Nat) (s : State) : Host.Outcome State Fault Refusal :=
  .next (rowZeroComplete row s)

end Sys2Proof.Machine
end

