-- ==== Sys2Proof/Machine/Functions.lean ====
section
/-! DEFINITION. Machine/Functions.lean: the function gate, function-level resets, disables, partition and tied-domain resets as they reach functions, and the granting of
quarter-plains, slabs and functions (R316, R327 to R330, R336 to R342, R470, R488). -/

namespace Sys2Proof.Machine

/-! The gate leaves OPEN (R396, R443, R448). -/

/-- The point of R231 for a function: its trace buffers go to DISABLED with everything staged dropped, its accumulators are discarded. -/
def State.fnPoint (s : State) (f : Nat) : State :=
  let mine := (List.range 16).filter (fun b => decide (s.num (E.trcOwner + b) = f))
  let s1 := mine.foldl (fun s b => s.modTrc b (fun t => { t with state := .disabled, staged := [], dropped := [] })) s
  if s1.obs.fns.has f then s1.modCntFn f (fun c => { c with accums := [], inFlush := [], flushing := false, baseAfter := none, baseReply := none }) else s1

/-- Ready QPs of a function whose gate leaves OPEN go to the error state, and what they have in flight is dropped (R396). -/
def State.qpsError (s : State) (f : Nat) : State :=
  let s1 : State := { s with svc.qps := s.svc.qps.mapVals (fun k x => if k / 64 = f ∧ x.state = 1 then { x with state := 2, work := [] } else x) }
  if s.svc.qps.any (fun e => decide (e.1 / 64 = f ∧ e.2.state = 1)) then s1.raiseSvc 2 else s1

/-! Function-level reset (R338). -/

/-- A reset reaches a function at its origin: the gate closes, fetch and dispatch stop, pending messages are dropped and saves are abandoned. One that is running already
is joined, and a larger one absorbs it (R472, Table 13.11). -/
def State.startFlr (s : State) (f : Nat) (run : ResetRun) : State :=
  match (s.fn f).reset with
  | some r => if run.kind < r.kind then s.modFn f (fun x => { x with reset := some run }) else s
  | none =>
    let s1 := s.modFn f (fun x => { x with gate := .resetting, reset := some run, pointReached := false })
    let s2 : State := { s1 with
      hif.vecs := s1.hif.vecs.mapVals (fun k v => if k / 64 = f then { v with pending := false, due := false } else v)
      fe.queues := s1.fe.queues.mapVals (fun k x => if k / 16 = f ∧ x.state ≠ .disabled then
        { x with state := .resetting, timerOn := false, settled := false, savedBlocks := [], savedPlans := [], savedNone := false
                 resumePending := false, faultPage := none, faultPoint := none } else x) }
    ((s2.stopShares (fun q => decide (fnOfQueue q = f))).qpsError f).fnPoint f

/-- Settle the queues of a resetting function whose groups have stopped (R231). -/
def State.settleFn (s : State) (f : Nat) : State :=
  (queuesOfFn f).foldl (fun s q =>
    if (s.q q).state = .resetting ∧ !(s.q q).settled ∧ s.groupsStopped q then (s.settle q).modQ q (fun x => { x with settled := true }) else s) s

/-- Can nothing of a function land any more: its queues have settled, and its requests to other chips have been answered or reported lost (R337, R364)? -/
def State.fnQuiet (s : State) (f : Nat) : Bool :=
  (queuesOfFn f).all (fun q => !decide ((s.q q).state = .resetting) || (s.q q).settled) &&
    !s.fab.reqs.vals.any (fun r => decide (fnOfQueue r.queue = f))

/-- Objects of a function go to ERROR(OWNER_RESET) (R306). -/
def State.errorOwned (s : State) (f : Nat) : State :=
  s.syn.objs.foldl (fun s e => if e.2.owner = f then s.objError e.1 0x10 else s) s

/-- Is a stored entry value one of a function's volatile entries? -/
def fnVolatile (f key : Nat) : Bool :=
  match entryInfo (key / 256) with
  | some r => decide (r.scope = .function) && !r.persistent && decide (key % 256 = f)
  | none => false

/-- A function's gate, epoch and event at the end of an FLR or a disable: fn_epoch increments, and F0 is told (R337 to R339). -/
def State.fnEvent (s : State) (f : Nat) : State :=
  State.signal { (s.addNum (E.fnEpoch + f) 32) with hif.fnEvent := setBit s.hif.fnEvent f } 0 5

/-- The end of an FLR of a function: translations dropped, registers and entries at reset values, the epoch incremented, and the gate where fn_enable puts it (R338, Table 21.3, R410, R439). -/
def State.finishFlr (s : State) (f : Nat) : State :=
  let s1 := s.errorOwned f
  let s2 := (queuesOfFn f).foldl (fun s q => (s.dropWork q).clearCntQ q) s1
  let fnKey (k : Nat) : Bool := decide (k / 2 ^ 26 = f)
  let s3 : State := { s2 with
    nwt.descs := s2.nwt.descs.keep (fun _ d => !decide (fnOfQueue d.queue = f))
    fe.queues := s2.fe.queues.keep (fun k _ => !decide (k / 16 = f))
    hif.tcache := s2.hif.tcache.filter (fun e => !decide (e.fn = f))
    nwt.tlb := s2.nwt.tlb.mapVals (fun _ l => l.filter (fun e => !decide (e.pasid = s.num E.fnPasid f)))
    hif.atsCache := s2.hif.atsCache.filter (fun e => !decide (e.fn = f)), hif.atsInvs := s2.hif.atsInvs.filter (fun e => !decide (e.fn = f))
    hif.vecs := s2.hif.vecs.keep (fun k _ => !decide (k / 64 = f))
    mgt.num := s2.mgt.num.keep (fun k _ => !fnVolatile f k)
    mgt.blob := s2.mgt.blob.keep (fun k _ => !fnVolatile f k)
    mgt.mbox := s2.mgt.mbox.del f
    mgt.asm := s2.mgt.asm.filter (fun a => !decide (a.who.iface = 3 ∧ a.who.fn = f))
    mgt.inFlight := s2.mgt.inFlight.filter (fun r => !decide (r.1.iface = 3 ∧ r.1.fn = f))
    bar0.held := s2.bar0.held.keep (fun k _ => !fnKey k), bar0.captured := s2.bar0.captured.keep (fun k _ => !fnKey k)
    svc.qps := s2.svc.qps.keep (fun k _ => !decide (k / 64 = f))
    obs.fns := s2.obs.fns.del f
    hif.doeResp := if f = 0 then [] else s2.hif.doeResp
    hif.numVfs := if f = 0 then 0 else s2.hif.numVfs, hif.vfMse := if f = 0 then false else s2.hif.vfMse
    hif.bar2Log := if f = 0 then 36 else s2.hif.bar2Log, hif.vfBar2Log := if f = 0 then 31 else s2.hif.vfBar2Log }
  let open1 := s3.fnExists f && decide (s3.num (E.fnEnable + f) = 1)
  (s3.modFn f (fun x => { FnSt.initial with gate := if open1 then .opened else .disabled, d3hot := x.d3hot })).fnEvent f

/-- Functions that a running reset reaches together, with one completion. -/
def State.resetMembers (s : State) (f : Nat) (run : ResetRun) : List Nat :=
  if run.kind = 5 then [f]
  else SMap.keys (s.hif.fns.keep (fun _ x => match x.reset with
    | some r => decide (r.kind = run.kind ∧ r.partition = run.partition)
    | none => false))

/-- Cores lose scratch, register files and accumulators, and their L1 and scalar caches are invalidated (R340, R214, Table 21.3). -/
def State.clearCore (s : State) (c : Nat) : State :=
  if s.cores.has c then s.modCore c (fun k => { k with
    l1 := [], scl := [], victim := [], sclInvalidated := true, rcache := [], recent := [], order := [], mx := { k.mx with acc := [] } })
  else s

/-- The partition's own part of a partition reset (R340): its slices keep no line, replica or copy. -/
def State.finishPartition (s : State) (p : Nat) : State :=
  let s1 := (s.coresOf p).foldl State.clearCore s
  let lines := SMap.keys (s1.l2.dir.keep (fun _ d => (s.slicesOf p).contains d.slice))
  let s2 := lines.foldl State.lineToI s1
  let s3 := (SMap.keys (s2.l2.replicas.keep (fun _ c => (s.slicesOf p).contains c.slice))).foldl State.dropReplica s2
  let s4 := (SMap.keys (s3.l2.tied.keep (fun _ c => (s.slicesOf p).contains c.slice))).foldl State.dropCopy s3
  s4.modPart p (fun x => { x with epoch := (x.epoch + 1) % 2 ^ 32, holder := none, turnEnding := false })

/-- The coherent state of a member in a tied-domain reset (R470): every line that can be read is written back, one whose newest value a failed slice held is poisoned at
the banks, directories and filters are emptied, and the loss of the domain is over. A member that takes no part leaves this one untied. -/
def State.finishTied (s : State) : State :=
  let lost := s.l2.dir.filter (fun e => e.2.state.dirty && bit s.l2.failed e.2.slice)
  let s1 : State := { s with l2.dir := s.l2.dir.keep (fun _ d => !bit s.l2.failed d.slice) }
  let s2 := (s1.l2.dir.filter (fun e => e.2.state.dirty)).foldl (fun s e => s.writeBack e.1 e.2.data e.2.poison) s1
  let s3 := lost.foldl (fun s e => (rangeFrom (8 * e.1) 8).foldl State.poisonGranule s) s2
  let s4 : State := { s3 with
    l2.dir := [], l2.replicas := [], l2.tied := [], l2.nacked := [], l2.held := [], l2.reserved := [], l2.dirBad := [], nwt.filter := [], l2.domainLost := false
    l2.status := clrBit s3.l2.status 6, sup.tiedAbsent := false }
  let s5 := s4.cores.keys.foldl State.clearCore s4
  let s6 := s5.syn.objs.foldl (fun s e => s.objError e.1 0x10) s5
  if s.sup.tiedAbsent ∧ !s.fab.tie.isEmpty then
    (State.raiseFab { s6 with fab.tie := [] } 7).pushFab (2 ^ 63 + 7 * 2 ^ 59)
  else s6

/-- F0's FLR clears VF Enable, and every virtual function then undergoes one at the same origin (R341); each FLR appends its record (R468). -/
def State.flrWith (s : State) (f : Nat) : State :=
  let run : ResetRun := { kind := 5, since := s.time.mono, partition := 0 }
  let one (s : State) (g : Nat) : State := if (s.fn g).reset.isSome then s else (s.startFlr g run).logReset 5 0x0A
  if f = 0 then
    let vfs := (List.range 256).filter (fun g => decide (0 < g) && s.fnExists g)
    vfs.foldl one { (one s 0) with hif.vfEnable := false }
  else one s f

/-- Is a configuration write performed: the link is up, the device is ready, and no device reset runs (R466, R469)? -/
def State.configLive (s : State) : Bool := s.hif.linkUp && decide (s.sup.phase = .ready) && !s.sup.devResetRunning && !s.sup.perst

/-- FLR (R338, R434): a write of 1 to fn_reset, or the configuration space of the function (interface 0). -/
def flr (who : Origin) (fn : Nat) (s : State) : State :=
  if who.iface = 0 then (if s.configLive ∧ s.fnExists fn then s.flrWith fn else s)
  else if 256 ≤ fn then s.answer 1
  else s.triggerWrite who (E.fnReset + fn) 1 (if s.fnExists fn then 0 else 5) (fun t => t.flrWith fn)

/-- FLR_COMPLETE (R338, R340, R341, R470): what has stopped settles; once nothing of the functions that the reset reaches can land, they complete together. F0's completes after all of
the others. -/
def flrComplete (fn : Nat) (s : State) : State :=
  match (s.fn fn).reset with
  | none => s
  | some run =>
    let ms := s.resetMembers fn run
    let s1 := ms.foldl State.settleFn s
    if !ms.all s1.fnQuiet ∨ (run.kind = 5 ∧ fn = 0 ∧ s1.hif.fns.any (fun e => decide (0 < e.1) && e.2.reset.isSome)) then s1
    else
      let s2 := ms.foldl State.finishFlr s1
      if run.kind = 4 then s2.finishPartition run.partition else if run.kind = 3 then s2.finishTied else s2

/-! Disable and enable (R339). -/

/-- FN_DISABLE: a write of 0 to fn_enable. An open gate enters DRAINING. -/
def fnDisable (who : Origin) (fn : Nat) (s : State) : State :=
  if 256 ≤ fn then s.answer 1
  else s.deviceWrite who (E.fnEnable + fn) 0 0 (fun t =>
    if (t.fn fn).gate = .opened then
      ((t.modFn fn (fun x => { x with gate := .draining, disableBegun := true, disableAt := t.time.mono, pointReached := false })).signal fn (fnEventVector fn)).qpsError fn
    else t)

/-- Has a queue work in flight: nodes fetched, or graphs that they have started, or a kill that has not ended? -/
def State.inFlight (s : State) (q : Nat) : Bool :=
  s.fe.nodes.vals.any (fun n => decide (n.queue = q)) || s.fe.graphs.vals.any (fun g => decide (g.queue = q)) || decide ((s.q q).state = .killing)

/-- The drain window of a queue: its queue_timeout capped at 1 s, in ns. -/
def State.drainWindow (s : State) (q : Nat) : Nat := min (s.qnum E.queueTimeout q) 1000000 * 1000

/-- DRAIN_WINDOW_EXPIRE (R339): a queue whose work in flight has not completed when its window ends is killed with DRAIN_TIMEOUT; the skip walk covers that work only. -/
def drainWindowExpire (queue : Nat) (s : State) : State :=
  let x := s.fn (fnOfQueue queue)
  if x.gate ≠ .draining ∨ !s.inFlight queue ∨ !(s.q queue).state.alive ∨ s.time.mono < x.disableAt + s.drainWindow queue then s
  else s.kill queue 0x0E (s.oldestSite queue) true

/-- DISABLE_POINT (R339): no queue has work in flight, so the front end stops fetching for the function. -/
def disablePoint (fn : Nat) (s : State) : State :=
  if (s.fn fn).gate ≠ .draining ∨ (s.fn fn).pointReached ∨ (queuesOfFn fn).any s.inFlight then s
  else (s.modFn fn (fun x => { x with pointReached := true })).fnPoint fn

/-- DISABLE_COMPLETE (R339, R410, R439): nothing of the function can land. Queues keep their kill code and fault record. -/
def disableComplete (fn : Nat) (s : State) : State :=
  if (s.fn fn).gate ≠ .draining ∨ !(s.fn fn).pointReached ∨ s.fab.reqs.vals.any (fun r => decide (fnOfQueue r.queue = fn)) ∨
      s.cores.vals.any (fun k => k.sb.any (fun e => decide (fnOfQueue e.queue = fn))) then s
  else
    let s1 := s.errorOwned fn
    let s2 := (queuesOfFn fn).foldl (fun s q => (s.dropWork q).clearCntQ q) s1
    let gone (k : Nat) : Bool := decide (k % 256 = fn) && decide ((E.queueEnergy ≤ k / 256 ∧ k / 256 < E.queueEnergy + 16) ∨ k / 256 = E.fnEnergy ∨
      (E.pwrJobId ≤ k / 256 ∧ k / 256 < E.pwrJobId + 16) ∨ (E.queueEnable ≤ k / 256 ∧ k / 256 < E.queueEnable + 16))
    let s3 : State := { s2 with
      fe.queues := s2.fe.queues.mapVals (fun k x => if k / 16 = fn then
        { Queue.initial with killCode := x.killCode, faultValid := x.faultValid, faultNode := x.faultNode, faultDepth := x.faultDepth, faultRing := x.faultRing
                             tagOperator := x.tagOperator, tagLayer := x.tagLayer, write := x.write, read := x.read, fetch := x.fetch } else x)
      nwt.descs := s2.nwt.descs.keep (fun _ d => !decide (fnOfQueue d.queue = fn))
      hif.vecs := s2.hif.vecs.mapVals (fun k v => if k / 64 = fn then { v with pending := false, due := false } else v)
      mgt.num := s2.mgt.num.keep (fun k _ => !gone k) }
    (s3.modFn fn (fun x => { x with gate := .disabled, pointReached := false })).fnEvent fn

/-- FN_ENABLE: a write of 1 to fn_enable, accepted only while the gate is DISABLED. A function that does not exist keeps the value (R488). -/
def fnEnable (who : Origin) (fn : Nat) (s : State) : State :=
  if 256 ≤ fn then s.answer 1
  else s.deviceWrite who (E.fnEnable + fn) 1 (if (s.fn fn).gate = .disabled then 0 else 5) (fun t =>
    if t.fnExists fn then t.modFn fn (fun x => { x with gate := .opened }) else t)

/-! Partitions (R327 to R330, R340). -/

/-- PARTITION_RESET (R340): an FLR of every bound function at one origin, with one completion and one record. -/
def partitionReset (who : Origin) (partition : Nat) (s : State) : State :=
  if 64 ≤ partition then s.answer 1
  else s.triggerWrite who (E.partitionReset + partition) 1 0 (fun t =>
    let run : ResetRun := { kind := 4, since := t.time.mono, partition := partition }
    let t1 := t.logReset 4 0x0A
    let fs := t1.boundFns partition
    let t2 := fs.foldl (fun s f => s.startFlr f run) t1
    if fs.contains 0 then
      let vfs := (List.range 256).filter (fun g => decide (0 < g) && t2.fnExists g && !fs.contains g)
      vfs.foldl (fun s f => s.startFlr f run) { t2 with hif.vfEnable := false }
    else if fs.isEmpty then t2.finishPartition partition else t2)

/-- PARTITION_QMASK_WRITE (R327): every L2 copy of the partition's slabs is written back and invalidated before the new home map applies. -/
def partitionQmaskWrite (who : Origin) (partition value : Nat) (s : State) : State :=
  if 64 ≤ partition then s.answer 1
  else
    let v := value % 2 ^ 64
    let taken := (List.range 64).any (fun p => !decide (p = partition) && !decide (natAnd 64 (s.qmask p) v = 0))
    let bound := (List.range 256).filter (fun f => decide (s.fnPart f = partition) && s.fnExists f)
    let bad := taken || bound.any (fun f => !decide ((s.fn f).gate = .disabled)) || (s.coresOf partition).any (fun c => !(s.core c).blocks.isEmpty) ||
      (decide (v = 0) && !bound.isEmpty)
    if bad ∨ s.deviceCheck who (E.partitionQmask + partition) ≠ 0 then s.deviceWrite who (E.partitionQmask + partition) v (if bad then 5 else 0) id
    else
      let s1 := s.linesToI (fun l => decide (s.linePart l = some partition))
      s1.deviceWrite who (E.partitionQmask + partition) v 0 (fun t =>
        let t1 := t.modPart partition (fun x => { x with epoch := (x.epoch + 1) % 2 ^ 32, redirects := [] })
        (t1.coresOf partition).foldl (fun s c => s.modCore c (fun k => { k with scratchPending := decide (k.scratchKib ≠ s.num E.scratchKib partition) })) t1)

/-- Does a slab have a part of its range in a failed channel (R457)? -/
def State.slabInFailed (s : State) (n : Nat) : Bool :=
  if s.num (E.rowMode + n / 20) = 1 then (List.range 32).any (fun c => s.channelFailed (32 * (n % 20) + c))
  else (List.range 640).any s.channelFailed

/-- A write to slab_owner (R328, R59, R457). The slab's lines leave L2 before its map changes (R218). -/
def State.writeSlab (s : State) (who : Origin) (slab value : Nat) : State :=
  if 960 ≤ slab then s.answer 1
  else
    let now := s.num (E.slabOwner + slab)
    let a := E.slabOwner + slab
    if value = now then s.deviceWrite who a value 0 id
    else if 64 ≤ value ∧ value ≠ 255 then s.deviceWrite who a value 4 id
    else if now = 255 then
      let bad := s.hif.zeroing.contains slab || s.stk.rowZeroing.has (slab / 20) || s.slabInFailed slab
      let ready := if bad ∨ s.deviceCheck who a ≠ 0 then s else s.linesToI (fun l => decide (l / 2 ^ 24 = slab))
      ready.deviceWrite who a value (if bad then 5 else 0) (fun t =>
        let t1 := t.modPart value (fun x => { x with slabs := x.slabs ++ [slab] })
        (t1.boundFns value).foldl (fun s f => (s.modFn f (fun x => { x with slabsChanged := true })).signal f (fnEventVector f)) t1)
    else if value ≠ 255 then s.deviceWrite who a value 5 id
    else
      let bad := (s.boundFns now).any (fun f => !decide ((s.fn f).gate = .disabled))
      if bad ∨ s.deviceCheck who a ≠ 0 then s.deviceWrite who a value (if bad then 5 else 0) id
      else (s.linesToI (fun l => decide (l / 2 ^ 24 = slab))).deviceWrite who a value 0 (fun t =>
        let t1 := t.modPart now (fun x => { x with slabs := x.slabs.filter (fun n => !decide (n = slab)) })
        { t1 with hif.zeroing := setInsert slab t1.hif.zeroing })

/-- SLAB_GRANT (R328, R329): a write of a partition to slab_owner. -/
def slabGrant (who : Origin) (slab partition : Nat) (s : State) : State := s.writeSlab who slab partition

/-- SLAB_RELEASE (R328): a write of 0xFF to slab_owner. -/
def slabRelease (who : Origin) (slab : Nat) (s : State) : State := s.writeSlab who slab 255

/-- SLAB_ZERO_COMPLETE (R328). -/
def slabZeroComplete (slab : Nat) (s : State) : State :=
  if s.hif.zeroing.contains slab then
    State.zeroRange { (s.linesToI (fun l => decide (l / 2 ^ 24 = slab))) with hif.zeroing := setErase slab s.hif.zeroing } (slab * 2 ^ 31) (2 ^ 31)
  else s

/-- FN_PARTITION_WRITE (R330, R488). -/
def fnPartitionWrite (who : Origin) (fn partition : Nat) (s : State) : State :=
  if 256 ≤ fn then s.answer 1
  else s.deviceWrite who (E.fnPartition + fn) partition
    (if 63 < partition then 4 else if (s.fn fn).gate ≠ .disabled ∨ s.qmask partition = 0 then 5 else 0) id

/-! Virtual functions and power states (R316, R341, R488). -/

/-- VF_ENABLE_WRITE (R315, R316, R341, R488): a write of NumVFs while VF Enable is set is ignored. Clearing VF Enable performs an FLR of every virtual function; setting it brings the
functions into existence, OPEN where fn_enable is 1. VF Memory Space Enable, in the same register, follows (log entry 42). -/
def vfEnableWrite (enable : Bool) (numVfs : Nat) (s : State) : State :=
  if !s.configLive then s
  else if s.hif.vfEnable then
    (if enable then s
     else
      let vfs := (List.range 256).filter (fun g => decide (0 < g) && s.fnExists g)
      vfs.foldl State.flrWith { s with hif.vfEnable := false, hif.vfMse := false })
  else
    let s1 : State := { s with hif.numVfs := min numVfs 255, hif.vfEnable := enable, hif.vfMse := enable }
    if !enable then s1
    else
      let vfs := (List.range 256).filter (fun g => decide (0 < g) && s1.fnExists g)
      vfs.foldl (fun s g => if s.num (E.fnEnable + g) = 1 ∧ (s.fn g).gate = .disabled then s.modFn g (fun x => { x with gate := .opened }) else s) s1

/-- D3HOT_ENTRY (R341): an FLR of the function, and for F0 of every virtual function. -/
def d3hotEntry (fn : Nat) (s : State) : State :=
  if !s.configLive ∨ !s.fnExists fn then s else (s.modFn fn (fun x => { x with d3hot := true })).flrWith fn

/-! The meanings. -/

/-- FLR (R338). -/
def execFlr (who : Origin) (fn : Nat) (s : State) : Host.Outcome State Fault Refusal :=
  .next (flr who fn s)
/-- FLR_COMPLETE (R338). -/
def execFlrComplete (fn : Nat) (s : State) : Host.Outcome State Fault Refusal :=
  .next (s.unit 12 fn (flrComplete fn))
/-- FN_DISABLE (R339). -/
def execFnDisable (who : Origin) (fn : Nat) (s : State) : Host.Outcome State Fault Refusal :=
  .next (fnDisable who fn s)
/-- DRAIN_WINDOW_EXPIRE (R339). -/
def execDrainWindowExpire (queue : Nat) (s : State) : Host.Outcome State Fault Refusal :=
  .next (drainWindowExpire queue s)
/-- DISABLE_POINT (R339). -/
def execDisablePoint (fn : Nat) (s : State) : Host.Outcome State Fault Refusal :=
  .next (disablePoint fn s)
/-- DISABLE_COMPLETE (R339). -/
def execDisableComplete (fn : Nat) (s : State) : Host.Outcome State Fault Refusal :=
  .next (s.unit 12 fn (disableComplete fn))
/-- FN_ENABLE (R339). -/
def execFnEnable (who : Origin) (fn : Nat) (s : State) : Host.Outcome State Fault Refusal :=
  .next (fnEnable who fn s)
/-- PARTITION_RESET (R340). -/
def execPartitionReset (who : Origin) (partition : Nat) (s : State) : Host.Outcome State Fault Refusal :=
  .next (s.unit 13 partition (partitionReset who partition))
/-- PARTITION_QMASK_WRITE (R327). -/
def execPartitionQmaskWrite (who : Origin) (partition : Nat) (value : Nat) (s : State) : Host.Outcome State Fault Refusal :=
  .next (s.unit 13 partition (partitionQmaskWrite who partition value))
/-- SLAB_GRANT (R328). -/
def execSlabGrant (who : Origin) (slab : Nat) (partition : Nat) (s : State) : Host.Outcome State Fault Refusal :=
  .next (s.unit 14 slab (slabGrant who slab partition))
/-- SLAB_RELEASE (R328). -/
def execSlabRelease (who : Origin) (slab : Nat) (s : State) : Host.Outcome State Fault Refusal :=
  .next (s.unit 14 slab (slabRelease who slab))
/-- SLAB_ZERO_COMPLETE (R328). -/
def execSlabZeroComplete (slab : Nat) (s : State) : Host.Outcome State Fault Refusal :=
  .next (s.unit 14 slab (slabZeroComplete slab))
/-- FN_PARTITION_WRITE (R330). -/
def execFnPartitionWrite (who : Origin) (fn : Nat) (partition : Nat) (s : State) : Host.Outcome State Fault Refusal :=
  .next (fnPartitionWrite who fn partition s)
/-- VF_ENABLE_WRITE (R341). -/
def execVfEnableWrite (enable : Bool) (numVfs : Nat) (s : State) : Host.Outcome State Fault Refusal :=
  .next (vfEnableWrite enable numVfs s)
/-- D3HOT_ENTRY (R341). -/
def execD3hotEntry (fn : Nat) (s : State) : Host.Outcome State Fault Refusal :=
  .next (d3hotEntry fn s)

end Sys2Proof.Machine
end

