-- ==== Sys2Proof/Machine/Links.lean ====
section
/-! DEFINITION. Machine/Links.lean: the fabric's links, ports, tied groups and routes, and what happens when a chip cannot be reached (R346 to R351, R357 to R362, R370, R372,
R373). -/

namespace Sys2Proof.Machine

/-! Light (R378, R381). -/

/-- The home module of a lane group: engine, and 0 for group A or 1 for group B (Table 15.1). -/
def homeModule (e g : Nat) : Nat := (e + g) % 4

/-- The other module of the engine (Table 15.2). -/
def standbyModule (e g : Nat) : Nat := (e + 1 - g) % 4

/-- Setting of a lane group: 0 home module, 1 standby module, 2 dark. -/
def Oe.group (x : Oe) (g : Nat) : Nat := if g = 0 then x.groupA else x.groupB

/-- The module that serves a lane group, if it is ready (R379). -/
def State.server (s : State) (e g : Nat) : Option Nat :=
  let m := if (s.oe e).group g = 0 then homeModule e g else standbyModule e g
  if (s.oe e).group g < 2 ∧ (s.laser m).state = 2 then some m else none

/-- Is the optical path of a link ready: its engine works and its lane group has light? -/
def State.lit (s : State) (l : Nat) : Bool := !decide ((s.oe (l / 4)).state = 2) && (s.server (l / 4) (l % 4 / 2)).isSome

/-- Is the lane group of a link within 20 µs of the trigger of a move (R380)? -/
def State.linkMoving (s : State) (l : Nat) : Bool :=
  match (if l % 4 / 2 = 0 then (s.oe (l / 4)).movedA else (s.oe (l / 4)).movedB) with
  | some t => decide (s.time.mono ≤ t.1 + 20000)
  | none => false

/-! Links going down (R372). -/

/-- Trace a change of a link's state (Table 19.12). -/
def State.traceLink (s : State) (l state peer : Nat) : State := s.trace 5 0x0C 18 l 0xFFFF 0 0 state peer

/-- With no link up, no route reaches any chip. -/
def State.loseRoutes (s : State) : State :=
  if s.upLinks.isEmpty then
    { s with fab.lostSince := s.fab.reachable.foldl (fun m c => m.put c s.time.mono) s.fab.lostSince, fab.reachable := [] }
  else s

/-- Resend the unanswered requests that took a link over the routes that are left (R362). -/
def State.resendFrom (s : State) (l : Nat) : State :=
  let again : State := { s with fab.reqs := s.fab.reqs.mapVals (fun _ r =>
      if r.link = l then
        let n := s.routeOf r.pkt.dst r.pkt.addr r.pkt.seq
        { r with sentAt := s.time.mono, link := n.1, via := n.2 }
      else r) }
  s.fab.reqs.foldl (fun t e => if e.2.link = l then
    (match again.fab.reqs.get? e.1 with
     | some r => t.countSent r.link r.via r.pkt.data.length r.queue
     | none => t) else t) again

/-- A link goes down. One that was up is logged and counted as a covered fault (Table 14.8, Table 20.3). -/
def State.dropLink (s : State) (l : Nat) : State :=
  let x := s.link l
  if 32 ≤ l ∨ x.state = 0 ∨ x.state = 4 then s
  else
    let off := if s.num (E.linkEnable + l) = 1 then 0 else 4
    let s1 := s.modLink l (fun y => { Link.initial with state := off, replays := y.replays, attemptAt := some s.time.mono })
    let s2 : State := { s1 with time.sent := s1.time.sent.del l, time.lastSend := s1.time.lastSend.del l }
    if x.state ≠ 2 then s2.traceLink l off 0xFFFF
    else
      let s3 := ((s2.raiseFab 1).pushFab (fabRec 1 l x.peer 0 0 0)).traceLink l off x.peer
      ((s3.resendFrom l).loseRoutes).faultRecord 6 l x.peer 0 0 0

/-- LINK_DOWN (R372). -/
def linkDown (link : Nat) (s : State) : State := s.dropLink link

/-- LANE_DROP (R349): the link retrains to the lanes left; with one left it is down. A lane of a group that is moving is exempt (R380). -/
def laneDrop (link : Nat) (s : State) : State :=
  let x := s.link link
  if 32 ≤ link ∨ x.state ≠ 2 ∨ s.linkMoving link then s
  else
    let n := (x.retrain.getD x.lanes) - 1
    let s1 := (s.raiseFab 0).pushFab (fabRec 0 link x.peer 0 0 0)
    if n < 2 then s1.dropLink link
    else s1.modLink link (fun y => { y with retrain := some n, dropAt := s.time.mono })

/-- LINK_RETRAIN_COMPLETE (R349): the flits of the replay buffer are sent again. -/
def linkRetrainComplete (link : Nat) (s : State) : State :=
  match (s.link link).retrain with
  | none => s
  | some n => (s.modLink link (fun y => { y with retrain := none, lanes := n })).faultRecord 5 link n (s.time.mono - (s.link link).dropAt) 0 0

/-- FLIT_RECEIVE (R347): flits are delivered once and in order; one that cannot be corrected is discarded, and a replay is requested from its number. The number counts modulo 2^16
(log entry 34). -/
def flitReceive (link seq : Nat) (good corrected : Bool) (s : State) : State :=
  let x := s.link link
  if 32 ≤ link ∨ x.state ≠ 2 ∨ x.retrain.isSome then s
  else if good then
    let s1 := s.addNum (E.linkCorrected + link) 64 (b2n corrected)
    if seq % 65536 = x.expect then
      (s1.modLink link (fun y => { y with expect := (y.expect + 1) % 65536, replaying := false })).countEvent 3 link 0x31 1 0xFFFF
    else s1
  else if x.replaying then s
  else
    let s1 := s.modLink link (fun y => { y with replaying := true, replays := min 65535 (y.replays + 1) })
    (s1.addNum (E.linkReplays + link) 64).countEvent 3 link 0x32 1 0xFFFF

/-! Training, ports and tied groups (R348, R350, R370). -/

/-- LINK_TRAINING_ATTEMPT (R348): every 100 ms while the link is down and enabled. -/
def linkTrainingAttempt (link : Nat) (s : State) : State :=
  let x := s.link link
  let due := match x.attemptAt with
    | none => true
    | some t => decide (t + 100000000 ≤ s.time.mono)
  if 32 ≤ link ∨ 1 < x.state ∨ !due ∨ s.num (E.linkEnable + link) ≠ 1 ∨ !s.sup.mainPg then s
  else (s.modLink link (fun y => { y with state := 1, attemptAt := some s.time.mono })).traceLink link 1 0xFFFF

/-- A check of R348, R350 or R370 failed: config_error and a type 7 record. -/
def State.configError (s : State) (link chip : Nat) : State := (s.raiseFab 7).pushFab (fabRec 7 link chip 0 0 0)

/-- Links, in ascending order, that fab_port leaves automatic and that reach a peer. -/
def State.autoLinks (s : State) (peer : Nat) : List Nat :=
  s.upLinks.filter (fun l => decide (s.num (E.fabPort + l) = 0xFF) && decide ((s.link l).peer = peer))

/-- The port of a link that is up (R350): the one that fab_port names, else the port of its place among the automatic links to its peer, eight to a port, numbered by the first
link of it (log entry 35). -/
def State.portOf (s : State) (l : Nat) : Nat :=
  let p := s.num (E.fabPort + l)
  if p < 32 then p
  else
    let ls := s.autoLinks (s.link l).peer
    let i := ls.findIdx (fun k => decide (k = l))
    ls.getD (i / 8 * 8) l

/-- Number the ports of the links that are up. -/
def State.setPorts (s : State) : State := s.upLinks.foldl (fun t l => t.modLink l (fun x => { x with port := s.portOf l })) s

/-- Links that fab_port puts into a port and that are up or held. -/
def State.namedLinks (s : State) (p : Nat) : List Nat :=
  (List.range 32).filter (fun l => decide (s.num (E.fabPort + l) = p) && decide ((s.link l).state = 2 ∨ (s.link l).state = 3))

/-- Does a named port break R350: more than one peer, or more than eight links? -/
def State.portBad (s : State) (p : Nat) : Bool :=
  let ls := s.namedLinks p
  decide (p < 32) && (decide (8 < ls.length) || decide (1 < ((ls.map (fun l => (s.link l).peer)).eraseDups).length))

/-- Hold a port as a whole. -/
def State.holdPort (s : State) (p link : Nat) : State :=
  let ls := s.namedLinks p
  let s1 := ls.foldl (fun s l => s.modLink l (fun x => { x with state := 3, lanes := 0, port := p })) s
  ((ls.foldl (fun s l => (s.resendFrom l).traceLink l 3 (s.link l).peer) s1).loseRoutes).configError link (s.link link).peer

/-- Up links of a tied group's pair whose peers hold the same list. -/
def State.tieLinks (s : State) (chip : Nat) : List Nat :=
  s.upLinks.filter (fun l => decide ((s.link l).peer = chip) && decide ((s.link l).peerTie = s.fab.tieCfg))

/-- May the chips of a list form a tied group (R370): 2 to 4 chips of one valley, this one among them? -/
def State.tieValid (s : State) : Bool :=
  let l := s.fab.tieCfg
  decide (2 ≤ l.length) && decide (l.length ≤ 4) && l.contains s.fab.chipId && l.all (fun c => decide (c / 16 = l.headD 0 / 16))

/-- Form the tied group once this chip has a port of exactly four links to every other member, or give it up when a check fails (R370; what only other members see is taken
to hold, log entry 36). -/
def State.formTie (s : State) (peer : Nat) : State :=
  let l := s.fab.tieCfg
  if l.isEmpty ∨ !s.fab.tie.isEmpty then s
  else
    let wrong := s.upLinks.any (fun k => decide ((s.link k).peer = peer) && !decide ((s.link k).peerTie = l))
    let many := decide (4 < (s.tieLinks peer).length)
    if !s.tieValid || (l.contains peer && (wrong || many)) then State.configError { s with fab.tieCfg := [] } 0 peer
    else if l.all (fun c => decide (c = s.fab.chipId) || decide ((s.tieLinks c).length = 4)) then { s with fab.tie := l }
    else s

/-- LINK_TRAINING_COMPLETE (R348, R350, R370): the ends have exchanged chip ids, link numbers and tie lists. -/
def linkTrainingComplete (link peer peerLink lanes : Nat) (peerTie : List Nat) (s : State) : State :=
  if 32 ≤ link ∨ (s.link link).state ≠ 1 ∨ !s.lit link ∨ lanes < 2 ∨ 4 < lanes then s
  else
    let own := s.num E.fabChipId
    let s0 : State := { s with fab.chipId := own }
    let trained (st : Nat) (y : Link) : Link :=
      { Link.initial with state := st, lanes := if st = 2 then lanes else 0, peer := peer, peerLink := peerLink, peerTie := peerTie, attemptAt := y.attemptAt }
    if own = 0xFFFF ∨ peer = 0xFFFF ∨ own = peer then
      ((s0.modLink link (trained 3)).traceLink link 3 peer).configError link peer
    else
      let s1 := s0.modLink link (trained 2)
      let p := s1.num (E.fabPort + link)
      if s1.portBad p then s1.holdPort p link
      else
        let s2 := (((s1.setPorts).raiseFab 2).pushFab (fabRec 2 link peer 0 0 0)).traceLink link 2 peer
        let s3 : State := if s2.fab.unreachable.contains peer then s2
          else { s2 with fab.reachable := setInsert peer s2.fab.reachable, fab.lostSince := s2.fab.lostSince.del peer }
        s3.formTie peer

/-! Routes (R357, R359, R362). -/

/-- LINK_STATE (R357): a flooded change updates pass_map and the routes. `reachable` are the chips that a route reaches after the change, and `passes` the
pairs of other valleys that passes join. -/
def linkState (pkt : Packet) (valley mask : Nat) (reachable passes : List Nat) (s : State) : State :=
  if pkt.type ≠ 0x20 then (if packetTypes.contains pkt.type then s else s.logRefused pkt 7)
  else
    let now := setUnion (reachable.filter (fun c => decide (c < 4096) && !decide (c = s.fab.chipId) && !s.fab.unreachable.contains c)) []
    let gone := s.fab.reachable.filter (fun c => !now.contains c)
    let since := (s.fab.lostSince.keep (fun c _ => !now.contains c))
    { s with
      fab.passMap := if mask % 65536 = 0 then s.fab.passMap.del (valley % 256) else s.fab.passMap.put (valley % 256) (mask % 65536)
      fab.passes := setUnion passes []
      fab.reachable := now
      fab.lostSince := gone.foldl (fun m c => m.put c s.time.mono) since }

/-- REQUEST_RESEND (R362): unanswered for 25 µs, or its link has left the route. -/
def requestResend (req link : Nat) (s : State) : State :=
  match s.fab.reqs.get? req with
  | none => s
  | some r =>
    if s.time.mono < r.sentAt + 25000 ∧ (s.link r.link).state = 2 then s
    else if (s.link link).state ≠ 2 then s
    else
      let via := if link = r.link then r.via else none
      State.countSent { s with fab.reqs := s.fab.reqs.put req { r with sentAt := s.time.mono, link := link, via := via } } link via r.pkt.data.length r.queue

/-- PASS_OCCUPANCY_ADVERT (R359): another member's pass occupancy toward a valley. -/
def passOccupancyAdvert (pkt : Packet) (valley occupancy : Nat) (s : State) : State :=
  if pkt.type ≠ 0x20 then (if packetTypes.contains pkt.type then s else s.logRefused pkt 7)
  else if pkt.src / 16 ≠ s.fab.chipId / 16 then s
  else { s with fab.occupancy := s.fab.occupancy.put (pkt.src % 16 * 256 + valley % 256) occupancy }

/-! Chips out of reach (R308, R369, R373). -/

/-- Where the work of a request stands, for the fault record of its context. -/
def State.reqSite (s : State) (r : Req) : Site :=
  match r.issuer with
  | .load id _ => (match s.l2.loads.get? id with
    | some l => s.whoSite (.core l.core l.slot 0 0 0 0) r.queue
    | none => s.oldestSite r.queue)
  | .atom id _ => (match s.l2.atoms.get? id with
    | some a => s.whoSite (.core a.core a.slot 0 0 0 0) r.queue
    | none => s.oldestSite r.queue)
  | .store c seq => (match (s.core c).sb.find? (fun e => decide (e.seq = seq)) with
    | some e => s.siteOf r.queue e.node
    | none => s.oldestSite r.queue)
  | .sync w _ _ => s.whoSite w r.queue
  | .dma e _ => (match s.fe.engines.get? e with
    | some x => s.siteOf r.queue x.node
    | none => s.oldestSite r.queue)
  | .mark id => s.siteOf r.queue id
  | .plan ctx => s.whoSite (.plan ctx) r.queue
  | .newt d _ _ => (match s.nwt.descs.get? d with
    | some x => s.siteOf r.queue x.node
    | none => s.oldestSite r.queue)
  | .coll g => (match s.fab.colls.get? g with
    | some c => (match c.node with
      | some e => s.siteOf r.queue e.1
      | none => s.oldestSite r.queue)
    | none => s.oldestSite r.queue)
  | .code c slot _ => s.whoSite (.core c slot 0 0 0 0) r.queue
  | .planCode ctx _ => s.whoSite (.plan ctx) r.queue
  | .line (.node id) _ => s.siteOf r.queue id
  | .line (.graph _ _) _ => s.oldestSite r.queue
  | .unpin _ => s.oldestSite r.queue
  | .cancel _ => s.oldestSite r.queue
  | .deadWait => s.oldestSite r.queue
  | .stale => s.oldestSite r.queue

/-- A fetch of a core has failed: its group's fault, where the group is still there. -/
def State.codeFailed (s : State) (c slot pc : Nat) (r : Req) (code : Nat) : State :=
  match (s.core c).groups.get? slot with
  | some g => if g.queue = r.queue ∧ g.issueMask pc ≠ 0 then s.coreFault c slot (lowest (g.issueMask pc)) code pc pc else s.kill r.queue code (s.reqSite r)
  | none => s.kill r.queue code (s.reqSite r)

/-- A request has ended without being performed, or is reported lost: its context is killed with the code (R356, R373); a prefetch never faults (R148). A newt's share ends with the status instead, by which the
descriptor's context is killed (R98, Table 4.12). -/
def State.reqFailed (s : State) (id : Nat) (r : Req) (code : Nat) : State :=
  let site := s.reqSite r
  let s1 : State := { s with fab.reqs := s.fab.reqs.del id }
  match r.issuer with
  | .load i key => (match s1.l2.loads.get? i with
    | none => s1.kill r.queue code site
    | some l =>
      let e := touching l.accs key
      let gone : State := { s1 with l2.loads := s1.l2.loads.del i }
      if l.kind = 2 ∨ l.kind = 3 then gone
      else gone.coreFault l.core l.slot (if l.kind = 4 then lowest l.threads else e.1) code l.pc e.2 false (some i))
  | .atom i t => (match s1.l2.atoms.get? i with
    | none => s1.kill r.queue code site
    | some a =>
      let va := ((a.accs.find? (fun x => decide (x.thread = t))).map (fun x => x.va)).getD 0
      State.coreFault { s1 with l2.atoms := s1.l2.atoms.del i } a.core a.slot t code a.pc va false (some i))
  | .store c seq => (s1.dropEntry c seq).kill r.queue code site
  | .code c slot pc => s1.codeFailed c slot pc r code
  | .unpin u => State.kill { s1 with fe.unpins := s1.fe.unpins.del u } r.queue code site
  | .sync w _ _ => s1.faultWho w r.queue code
  | .cancel _ => s1
  | .deadWait => s1
  | .stale => s1
  | .newt d n _ => { s1 with nwt.queues := s1.nwt.queues.mapVals (fun k l =>
      if k = n then l.map (fun h => if h.desc = d ∧ h.fault = 0 then { h with fault := if code = 0x0D then 0x15 else code } else h) else l) }
  | _ => s1.kill r.queue code site

/-- Groups that have a chip among their members and an operation in progress. -/
def State.collsWith (s : State) (chip : Nat) : List Nat :=
  s.fab.colls.keys.filter (fun g => (grpOthers (s.groupEntry g)).contains chip)

/-- CHIP_UNREACHABLE (R372, R373): no route has reached the chip for 50 µs. -/
def chipUnreachable (chip : Nat) (s : State) : State :=
  match s.fab.lostSince.get? chip with
  | none => s
  | some t =>
    if s.time.mono < t + 50000 then s
    else
      let n := s.aliveCount
      let s1 : State := { s with fab.lostSince := s.fab.lostSince.del chip, fab.reachable := setErase chip s.fab.reachable
                                 fab.unreachable := setInsert chip s.fab.unreachable }
      let s2 := (s1.raiseFab 3).pushFab (fabRec 3 0 chip 0 0 0)
      let s3 := (s2.fab.reqs.filter (fun e => decide (e.2.pkt.dst = chip))).foldl (fun s e => s.reqFailed e.1 e.2 0x0D) s2
      let waits := s3.fab.remoteWaits.filter (fun e => decide (e.1 / 2 ^ 32 = chip))
      let s4 := waits.foldl (fun s e => s.killWaiter e.2 0x0D) { s3 with fab.remoteWaits := s3.fab.remoteWaits.keep (fun k _ => !decide (k / 2 ^ 32 = chip)) }
      let s5 := (s4.collsWith chip).foldl (fun s g => s.collKill g 0x0D false) s4
      let s6 := if s5.tiedChip chip then s5.loseDomain chip 0 else s5
      s6.faultRecord 21 chip 0 0xFFFFFFFF (n - s6.aliveCount) 0

/-- CHIP_REACHABLE_AGAIN (R373): new requests proceed; lost ones are not resent. -/
def chipReachableAgain (chip : Nat) (s : State) : State :=
  if s.fab.reachable.contains chip ∨ s.upLinks.isEmpty ∨ chip = s.fab.chipId then s
  else
    let s1 : State := { s with fab.reachable := setInsert chip s.fab.reachable, fab.lostSince := s.fab.lostSince.del chip
                               fab.unreachable := setErase chip s.fab.unreachable }
    if s.fab.unreachable.contains chip then s1.pushFab (fabRec 4 0 chip 0 0 0) else s1

/-! The meanings. -/

/-- LINK_TRAINING_ATTEMPT (R348). -/
def execLinkTrainingAttempt (link : Nat) (s : State) : Host.Outcome State Fault Refusal :=
  .next (linkTrainingAttempt link s)
/-- LINK_TRAINING_COMPLETE (R348). -/
def execLinkTrainingComplete (link : Nat) (peer : Nat) (peerLink : Nat) (lanes : Nat) (peerTie : List Nat) (s : State) : Host.Outcome State Fault Refusal :=
  .next (linkTrainingComplete link peer peerLink lanes peerTie s)
/-- LANE_DROP (R349). -/
def execLaneDrop (link : Nat) (s : State) : Host.Outcome State Fault Refusal :=
  .next (laneDrop link s)
/-- LINK_RETRAIN_COMPLETE (R349). -/
def execLinkRetrainComplete (link : Nat) (s : State) : Host.Outcome State Fault Refusal :=
  .next (linkRetrainComplete link s)
/-- LINK_DOWN (R372). -/
def execLinkDown (link : Nat) (s : State) : Host.Outcome State Fault Refusal :=
  .next (linkDown link s)
/-- FLIT_RECEIVE (R347). -/
def execFlitReceive (link : Nat) (seq : Nat) (good : Bool) (corrected : Bool) (s : State) : Host.Outcome State Fault Refusal :=
  .next (flitReceive link seq good corrected s)
/-- LINK_STATE (R357). -/
def execLinkState (pkt : Packet) (valley : Nat) (mask : Nat) (reachable : List Nat) (passes : List Nat) (s : State) : Host.Outcome State Fault Refusal :=
  .next (linkState pkt valley mask reachable passes s)
/-- REQUEST_RESEND (R362). -/
def execRequestResend (req : Nat) (link : Nat) (s : State) : Host.Outcome State Fault Refusal :=
  .next (requestResend req link s)
/-- PASS_OCCUPANCY_ADVERT (R359). -/
def execPassOccupancyAdvert (pkt : Packet) (valley : Nat) (occupancy : Nat) (s : State) : Host.Outcome State Fault Refusal :=
  .next (passOccupancyAdvert pkt valley occupancy s)
/-- CHIP_UNREACHABLE (R373). -/
def execChipUnreachable (chip : Nat) (s : State) : Host.Outcome State Fault Refusal :=
  .next (chipUnreachable chip s)
/-- CHIP_REACHABLE_AGAIN (R373). -/
def execChipReachableAgain (chip : Nat) (s : State) : Host.Outcome State Fault Refusal :=
  .next (chipReachableAgain chip s)

end Sys2Proof.Machine
end

