-- ==== Sys2Proof/Machine/Optics.lean ====
section
/-! DEFINITION. Machine/Optics.lean: laser modules, optical engines, switch-over, service and calibration (chapter 15). -/

namespace Sys2Proof.Machine

/-! Lane groups. -/

/-- The sixteen lane groups, as engine * 2 + group. -/
def laneGroups : List Nat := List.range 16

/-- Change a lane group's setting and the record of its move. -/
def State.setGroup (s : State) (eg v : Nat) (moved : Option (Nat × Option Nat)) : State :=
  s.modOe (eg / 2) (fun x => if eg % 2 = 0 then { x with groupA := v, movedA := moved } else { x with groupB := v, movedB := moved })

/-- The two links of a lane group. -/
def groupLinks (eg : Nat) : List Nat := [2 * eg, 2 * eg + 1]

/-- The modules that can serve a lane group: home, then standby. -/
def groupModules (eg : Nat) : List Nat := [homeModule (eg / 2) (eg % 2), standbyModule (eg / 2) (eg % 2)]

/-- The module that serves a lane group now. -/
def State.serverOfGroup (s : State) (eg : Nat) : Option Nat := s.server (eg / 2) (eg % 2)

/-- Lane groups that a module serves. -/
def State.served (s : State) (j : Nat) : List Nat := laneGroups.filter (fun eg => decide (s.serverOfGroup eg = some j))

/-- Move a lane group to a ready module (R380): the engine retunes, and switched_over is set. `lost` is the module whose failure caused the move. -/
def State.moveGroup (s : State) (eg m : Nat) (lost : Option Nat) : State :=
  let s1 := s.setGroup eg (if m = homeModule (eg / 2) (eg % 2) then 0 else 1) (some (s.time.mono, lost))
  (s1.modOe (eg / 2) (fun x => if x.state = 2 then x else { x with state := 1 })).raiseOpt 0

/-- A lane group goes dark, and its two links go down (R381). -/
def State.darkGroup (s : State) (eg : Nat) : State := (groupLinks eg).foldl State.dropLink (s.setGroup eg 2 none)

/-- May a module take a group: ready, and not being drained (R381, R389)? -/
def Laser.takes (x : Laser) : Bool := decide (x.state = 2) && !x.draining && !x.recal

/-- A group that loses its module goes to the other one if that can take it, else dark (R381, R389). -/
def State.rehome (s : State) (eg j : Nat) (lost : Option Nat) : State :=
  match (groupModules eg).find? (fun m => !decide (m = j) && (s.laser m).takes) with
  | some m => s.moveGroup eg m lost
  | none => s.darkGroup eg

/-! Modules. -/

/-- Log a module's CMIS alarm flags (Table 18.9, type 0x0007; R386). -/
def State.logLaser (s : State) (j flags : Nat) : State := s.logInternal 7 (leBytes 8 flags ++ leBytes 1 j) []

/-- A module becomes failed, and every group that it serves moves at once (R380). The covered fault is counted when the last of its groups has relocked, or at once when none
moved. -/
def State.failLaser (s : State) (j : Nat) : State :=
  let mine := s.served j
  let s1 := (s.modLaser j (fun x => { x with state := 4, draining := false, recal := false })).raiseOpt 1
  let s2 : State := { s1 with opt.moves := s1.opt.moves.filter (fun m => !mine.contains m.1) }
  let s3 := mine.foldl (fun s eg => s.rehome eg j (some j)) s2
  if mine.any (fun eg => decide ((s3.oe (eg / 2)).group (eg % 2) ≠ 2)) then s3 else s3.faultRecord 8 j 0 0 0 0

/-- LASER_LIGHT_LOSS (R380, R382): light below threshold, or a module taken out of its bay without service. -/
def laserLightLoss (laser : Nat) (s : State) : State :=
  if laser < 4 ∧ ((s.laser laser).state = 1 ∨ (s.laser laser).state = 2) then s.failLaser laser else s

/-- CMIS_ALARM_POLL (R380): a temperature, bias or output-power alarm fails the module, and the flags are logged. -/
def cmisAlarmPoll (laser flags : Nat) (s : State) : State :=
  if flags = 0 ∨ 4 ≤ laser ∨ ((s.laser laser).state ≠ 1 ∧ (s.laser laser).state ≠ 2) then s
  else (s.failLaser laser).logLaser laser flags

/-- Put planned moves of a module's groups at the end of the list; moves toward the module are given up. -/
def State.planMoves (s : State) (j : Nat) : State :=
  { s with opt.moves := s.opt.moves.filter (fun m => !decide (m.2 = j)) ++ (s.served j).map (fun eg =>
      (eg, ((groupModules eg).filter (fun m => !decide (m = j))).headD j)) }

/-- A module whose calibration starts: the bay's epoch increments (R383, R386). -/
def State.calibrate (s : State) (j : Nat) : State :=
  s.modLaser j (fun x => { x with state := 1, epoch := (x.epoch + 1) % 2 ^ 32, draining := false, recal := false })

/-- A module that is draining and serves nothing any more enters service, or is recalibrated (R382, R389). -/
def State.drained (s : State) (j : Nat) : State :=
  let x := s.laser j
  if x.state ≠ 2 ∨ !(s.served j).isEmpty then s
  else if x.recal then s.calibrate j
  else if x.draining then (s.modLaser j (fun y => { y with state := 3, draining := false })).raiseOpt 2
  else s

/-- A module becomes ready: it takes its dark groups, and with laser_auto_return its home groups return by planned moves (R381, R383, R385). -/
def State.laserReady (s : State) (j : Nat) : State :=
  let dark := laneGroups.filter (fun eg => (groupModules eg).contains j && (s.serverOfGroup eg).isNone)
  let s1 := s.modLaser j (fun x => { x with state := 2, service := false, draining := false, recal := false })
  let s2 := dark.foldl (fun s eg => (s.setGroup eg (if j = homeModule (eg / 2) (eg % 2) then 0 else 1) none)) s1
  let back := laneGroups.filter (fun eg => decide (j = homeModule (eg / 2) (eg % 2)) && decide ((s2.oe (eg / 2)).group (eg % 2) = 1))
  if s2.num E.laserAutoReturn = 1 then { s2 with opt.moves := s2.opt.moves ++ back.map (fun eg => (eg, j)) } else s2

/-- PLANNED_MOVE (R380, R389): the next lane group moves, at least 1 ms after the previous move. A group whose target is not ready stays, unless its module is being drained: it then goes
dark. -/
def plannedMove (s : State) : State :=
  match s.opt.moves with
  | [] => s
  | m :: rest =>
    let early := match s.opt.lastMove with
      | some t => decide (s.time.mono < t + 1000000)
      | none => false
    if early then s
    else
      let s1 : State := { s with opt.moves := rest, opt.lastMove := some s.time.mono }
      match s1.serverOfGroup m.1 with
      | none => s1
      | some j =>
        let leaving := (s1.laser j).draining || (s1.laser j).recal
        let s2 := if (s1.laser m.2).takes then s1.moveGroup m.1 m.2 none
          else if leaving then s1.darkGroup m.1 else s1
        s2.drained j

/-- LANE_GROUP_SWITCHOVER (R380, R453): the lanes of a group have relocked. -/
def laneGroupSwitchover (engine group : Nat) (s : State) : State :=
  let x := s.oe engine
  match (if group = 0 then x.movedA else x.movedB) with
  | none => s
  | some t =>
    if 8 ≤ engine ∨ 2 ≤ group then s
    else
      let s1 := s.modOe engine (fun y =>
        let z := if group = 0 then { y with movedA := none } else { y with movedB := none }
        if z.state = 1 ∧ z.movedA.isNone ∧ z.movedB.isNone then { z with state := 0 } else z)
      let still (j : Nat) : Bool := (List.range 8).any (fun e =>
        decide (((s1.oe e).movedA.bind (fun p => p.2)) = some j) || decide (((s1.oe e).movedB.bind (fun p => p.2)) = some j))
      match t.2 with
      | some j => if still j then s1 else s1.faultRecord 8 j 0 (s.time.mono - t.1) 0 0
      | none => s1

/-! Service, insertion and calibration (R382 to R386). -/

/-- Are both neighbours of a module ready (R382)? -/
def State.neighboursReady (s : State) (j : Nat) : Bool :=
  decide ((s.laser ((j + 3) % 4)).state = 2) && decide ((s.laser ((j + 1) % 4)).state = 2)

/-- LASER_SERVICE: a write of 1 to laser_service. -/
def laserService (who : Origin) (laser : Nat) (s : State) : State :=
  let st := (s.laser laser).state
  let chk := s.deviceCheck who (E.laserService + laser)
  if 4 ≤ laser then s.answer 1
  else if chk ≠ 0 then s.answer chk
  else if st = 2 ∧ !s.neighboursReady laser then s.answer 5
  else
    let t := s.dictLogged who (E.laserService + laser) 0 (leBytes 1 (b2n (s.laser laser).service)) (leBytes 1 1)
    let t1 := t.modLaser laser (fun x => { x with service := true })
    if st = 2 then ((t1.modLaser laser (fun x => { x with draining := true })).planMoves laser).drained laser
    else if st = 4 then (t1.modLaser laser (fun x => { x with state := 3 })).raiseOpt 2
    else t1

/-- LASER_INSERT (R383, R386): the identity and the bay record of an inserted module. One that cannot be read fails; one inserted while the main supply is off is read at the next start
(R486). -/
def laserInsert (laser : Nat) (identity : List Byte) (bayChip bayEpoch : Nat) (readable : Bool) (s : State) : State :=
  let st := (s.laser laser).state
  if 4 ≤ laser ∨ (st ≠ 0 ∧ st ≠ 4) then s
  else if !s.sup.mainPg then s.modLaser laser (fun x => { x with inserted := identity, bayChip := some bayChip, bayEpoch := some bayEpoch })
  else
    let s1 := s.raiseOpt 3
    if readable then
      (s1.modLaser laser (fun x => { x with inserted := identity, bayChip := some bayChip, bayEpoch := some bayEpoch })).calibrate laser
    else
      let s2 := s1.modLaser laser (fun x => { x with state := 4, inserted := [], bayChip := none, bayEpoch := none })
      (s2.raiseOpt 1).logLaser laser 0

/-- LASER_CALIBRATION_COMPLETE (R384, R386): the bay record, the identity and the epoch are stored, and the module is ready; or it fails and its alarm flags are logged. -/
def laserCalibrationComplete (laser : Nat) (passed : Bool) (flags : Nat) (s : State) : State :=
  if 4 ≤ laser ∨ (s.laser laser).state ≠ 1 then s
  else if passed then
    let s1 := s.modLaser laser (fun x => { x with bayChip := some (s.num E.fabChipId), bayEpoch := some x.epoch })
    ((s1.setBlob (E.laserIdentity + laser) (s.laser laser).inserted).laserReady laser).raiseOpt 4
  else ((s.modLaser laser (fun x => { x with state := 4 })).raiseOpt 1).logLaser laser flags

/-- LASER_RECALIBRATE (R386, R389): a ready module's groups move away first. -/
def laserRecalibrate (who : Origin) (laser : Nat) (s : State) : State :=
  if 4 ≤ laser then s.answer 1
  else s.triggerWrite who (E.laserRecalibrate + laser) 1 0 (fun t =>
    let st := (t.laser laser).state
    if st = 0 then t
    else if st = 2 then ((t.modLaser laser (fun x => { x with recal := true, draining := false })).planMoves laser).drained laser
    else t.calibrate laser)

/-- LASER_REMOVE (R483): a module in service leaves its bay. -/
def laserRemove (laser : Nat) (s : State) : State :=
  if laser < 4 ∧ (s.laser laser).state = 3 then
    s.modLaser laser (fun x => { x with state := 0, inserted := [], bayChip := none, bayEpoch := none, telemetry := [] })
  else s

/-! Life and telemetry (R387). -/

/-- LASER_TELEMETRY_POLL. -/
def laserTelemetryPoll (laser : Nat) (bytes : List Byte) (s : State) : State :=
  if laser < 4 ∧ (s.laser laser).state ≠ 0 then s.modLaser laser (fun x => { x with telemetry := bytes }) else s

/-- Thousandths of an hour that a lit hour at a mean temperature counts: 1000 * 2^((T - 50) / 10), rounded down, for T above 50 (R387; log entry 37): the greatest w with
w^10 at most 10^30 * 2^(T - 50), found bit by bit. -/
def hourWeight (temp : Nat) : Nat :=
  if temp ≤ 50 then 1000
  else (List.range 64).foldl (fun w i => if (w + 2 ^ (63 - i)) ^ 10 ≤ 10 ^ 30 * 2 ^ (temp - 50) then w + 2 ^ (63 - i) else w) 0

/-- laser_life_used of a module, in per mille of 40,000 hours. -/
def Laser.lifeUsed (x : Laser) : Nat := min 1000 (x.milliHours / 1000 * 1000 / 40000)

/-- LASER_LIFE_HOUR (R387): an hour that a lit module has counted; at 900 per mille life_warning is set. -/
def laserLifeHour (laser temp : Nat) (s : State) : State :=
  let x := s.laser laser
  if 4 ≤ laser ∨ (x.state ≠ 1 ∧ x.state ≠ 2) then s
  else
    let y : Laser := { x with milliHours := x.milliHours + hourWeight temp }
    let s1 := s.modLaser laser (fun _ => y)
    if x.lifeUsed < 900 ∧ 900 ≤ y.lifeUsed then s1.raiseOpt 6 else s1

/-! Engines (R388). -/

/-- OE_FAIL: the four links fail together. -/
def State.failOe (s : State) (e : Nat) : State :=
  if 8 ≤ e ∨ (s.oe e).state = 2 then s
  else
    let s1 := (s.modOe e (fun x => { x with state := 2, movedA := none, movedB := none })).raiseOpt 5
    ((rangeFrom (4 * e) 4).foldl State.dropLink s1).faultRecord 7 e 0 0 0 0

/-- OE_FAIL (R388): no progress for 10 µs while a lane group is lit. -/
def oeFail (engine : Nat) (s : State) : State :=
  if (s.server engine 0).isSome ∨ (s.server engine 1).isSome then s.failOe engine else s

/-! The meanings. -/

/-- LASER_LIGHT_LOSS (R380). -/
def execLaserLightLoss (laser : Nat) (s : State) : Host.Outcome State Fault Refusal :=
  .next (laserLightLoss laser s)
/-- CMIS_ALARM_POLL (R380). -/
def execCmisAlarmPoll (laser : Nat) (flags : Nat) (s : State) : Host.Outcome State Fault Refusal :=
  .next (cmisAlarmPoll laser flags s)
/-- LANE_GROUP_SWITCHOVER (R380). -/
def execLaneGroupSwitchover (engine : Nat) (group : Nat) (s : State) : Host.Outcome State Fault Refusal :=
  .next (laneGroupSwitchover engine group s)
/-- PLANNED_MOVE (R380). -/
def execPlannedMove (s : State) : Host.Outcome State Fault Refusal :=
  .next (plannedMove s)
/-- LASER_SERVICE (R382). -/
def execLaserService (who : Origin) (laser : Nat) (s : State) : Host.Outcome State Fault Refusal :=
  .next (laserService who laser s)
/-- LASER_INSERT (R383). -/
def execLaserInsert (laser : Nat) (identity : List Byte) (bayChip : Nat) (bayEpoch : Nat) (readable : Bool) (s : State) : Host.Outcome State Fault Refusal :=
  .next (laserInsert laser identity bayChip bayEpoch readable s)
/-- LASER_CALIBRATION_COMPLETE (R384). -/
def execLaserCalibrationComplete (laser : Nat) (passed : Bool) (flags : Nat) (s : State) : Host.Outcome State Fault Refusal :=
  .next (laserCalibrationComplete laser passed flags s)
/-- LASER_RECALIBRATE (R386). -/
def execLaserRecalibrate (who : Origin) (laser : Nat) (s : State) : Host.Outcome State Fault Refusal :=
  .next (laserRecalibrate who laser s)
/-- LASER_TELEMETRY_POLL (R387). -/
def execLaserTelemetryPoll (laser : Nat) (bytes : List Byte) (s : State) : Host.Outcome State Fault Refusal :=
  .next (laserTelemetryPoll laser bytes s)
/-- LASER_LIFE_HOUR (R387). -/
def execLaserLifeHour (laser : Nat) (temp : Nat) (s : State) : Host.Outcome State Fault Refusal :=
  .next (laserLifeHour laser temp s)
/-- OE_FAIL (R388). -/
def execOeFail (engine : Nat) (s : State) : Host.Outcome State Fault Refusal :=
  .next (oeFail engine s)
/-- LASER_REMOVE (R483). -/
def execLaserRemove (laser : Nat) (s : State) : Host.Outcome State Fault Refusal :=
  .next (laserRemove laser s)

end Sys2Proof.Machine
end

