-- ==== Sys2Proof/Machine/TimeBase.lean ====
section
/-! DEFINITION. Machine/TimeBase.lean: operating points (R31), live rates (R32) and the global time base across chips (R34 to R41, R398). -/

namespace Sys2Proof.Machine

/-- OP_POINT_REQUEST (R31): a new target; the supply ramps from its present level, and the bound counts from this write. While the power cap holds the supply lower, the target does not rise
above the point that it applies (R402). A write of the point already reached starts a ramp too, which OP_POINT_RAMP_COMPLETE ends (log entry 98). -/
def opPointRequest (who : Origin) (value : Nat) (s : State) : State :=
  s.deviceWrite who E.opPointRequest value (if value ≤ 2 then 0 else 4) (fun t =>
    let v := if s.pwr.lowered = 0 then value else min value (s.num E.opPointRequest - s.pwr.lowered)
    { t with time.rampTarget := some v, pwr.lowered := value - v })

/-- OP_POINT_RAMP_COMPLETE. -/
def opPointRampComplete (s : State) : State :=
  match s.time.rampTarget with
  | none => s
  | some v => State.setNum { s with time.rampTarget := none } E.opPointCurrent v

/-- GTB_RESYNC_PULSE (R35): a replica behind the master steps forward, one ahead of it holds; a stopped one does neither. -/
def gtbResyncPulse (s : State) : State :=
  { s with time.replicas := s.time.replicas.map (fun r =>
      if r.stopped then r
      else if r.count < s.time.gtb then { r with count := s.time.gtb, holding := false }
      else { r with holding := decide (s.time.gtb < r.count) }) }

/-- RATE_LIVE_UPDATE (R32): the average of a domain over the last 1 ms, by rate subindex. -/
def rateLiveUpdate (domain rate : Nat) (s : State) : State :=
  if domain ≤ 0x12 ∨ (0x20 ≤ domain ∧ domain ≤ 0x33) then s.setNum (E.rateLive + domain) (rate % 2 ^ 16) else s

/-- The chip with the highest count; ties go to the lowest chip id (R38). -/
def electMaster (best : Nat × Nat) : List (Nat × Nat) → Nat × Nat
  | [] => best
  | c :: t => electMaster (if best.2 < c.2 ∨ (best.2 = c.2 ∧ c.1 < best.1) then c else best) t

/-- TIME_MASTER_ELECTION (R38): `counts` are the GTB counts of the other chips that take part. A new master stops following; a chip that followed no master so far has no lock to
the one elected until its time messages show one (R37). -/
def timeMasterElection (counts : List (Nat × Nat)) (s : State) : State :=
  let m := (electMaster (s.fab.chipId, s.time.gtb) (counts.filter (fun c => !decide (c.1 = s.fab.chipId)))).1
  if m = s.fab.chipId then
    { s with
      time.master := some m, time.role := if s.time.ptpLocked then 3 else 2, time.fabricLocked := true, time.holdover := false
      time.offset := 0, time.slew := if s.time.role = 1 then 0 else s.time.slew }
  else if s.time.role = 1 then { s with time.master := some m }
  else { s with time.master := some m, time.role := 1, time.fabricLocked := false, time.slew := 0 }

/-- FABRIC_TIME_SEND (R38): a link that is up sends a time message when fabric_time_interval has passed since its last. -/
def fabricTimeSend (link : Nat) (s : State) : State :=
  if 32 ≤ link ∨ (s.link link).state ≠ 2 then s
  else match s.time.lastSend.get? link with
    | some t => if s.time.mono < t + s.num E.fabricTimeInterval then s
      else { s with time.sent := s.time.sent.put link s.time.gtb, time.lastSend := s.time.lastSend.put link s.time.mono }
    | none => { s with time.sent := s.time.sent.put link s.time.gtb, time.lastSend := s.time.lastSend.put link s.time.mono }

/-- Step the GTB forward (R39). Limits are not counted on the steps, so that each keeps its remaining duration; the send times of the messages still unanswered move along. -/
def State.stepTo (s : State) (g : Nat) : State :=
  { s with
    time.gtb := g % 2 ^ 64, time.sent := s.time.sent.mapVals (fun _ t => t + (g - s.time.gtb)), time.stepped := true, time.steppedSinceLog := true, time.steppedFlag := true, time.steppedDone := [], time.slew := 0 }

/-- Align to a reference that is `ahead` counts ahead: a first lock steps forward, later ones slew (R39). -/
def State.alignBy (s : State) (first : Bool) (ahead : Int) : State :=
  if first ∧ 0 < ahead then s.stepTo ((s.time.gtb : Int) + ahead).toNat else { s with time.slew := ahead }

/-- The neighbour over a link stands next on the route tree to the time master (R38; log entry 12). -/
def State.towardMaster (s : State) (link chip : Nat) : Bool :=
  match s.time.master with
  | none => false
  | some m => decide (chip = m) || (s.reaches m && decide (s.routeLink m = some link))

/-- FABRIC_TIME (R38, R39): a message of a neighbour that carries its time of receipt t2, its time of sending t3 and its own offset from the master answers the last one sent on
the link. A follower measures its offset from the round trip over the route tree and aligns to the master; it is locked when it stands within 20 ns of it (R37, Table 2.5). -/
def fabricTime (link chip t2 t3 : Nat) (hop : Int) (s : State) : State :=
  match s.time.sent.get? link with
  | none => s
  | some t1 =>
    let s1 : State := { s with time.sent := s.time.sent.del link }
    let off : Int := (((t1 : Int) - t2) + ((s.time.gtb : Int) - t3)) / 2 + (if s.time.master = some chip then 0 else hop)
    if (s.link link).state ≠ 2 ∨ (s.link link).peer ≠ chip then s
    else if s.time.role ≠ 1 ∨ !s.towardMaster link chip then s1
    else
      let s2 := s1.alignBy (!s.time.lockedOnce) (-off)
      let off1 : Int := if s.time.lockedOnce ∨ 0 ≤ off then off else 0
      let near := decide (off1.natAbs ≤ 20)
      { s2 with time.offset := off1, time.lockedOnce := s.time.lockedOnce || near, time.fabricLocked := near, time.holdover := false }

/-- GTB_HOLDOVER_ENTER (R40): a follower has lost every path to the master. -/
def gtbHoldoverEnter (s : State) : State :=
  match s.time.master with
  | none => s
  | some m =>
    if s.time.role ≠ 1 ∨ !s.time.lockedOnce ∨ s.time.holdover ∨ s.reaches m then s
    else { s with time.holdover := true, time.holdoverAt := s.time.mono, time.slew := 0 }

/-- HOLDOVER_LOCK_EXPIRE (R40): 100 µs of holdover clear fabric_locked. -/
def holdoverLockExpire (s : State) : State :=
  if s.time.holdover ∧ s.time.role = 1 ∧ s.time.holdoverAt + 100000 ≤ s.time.mono then { s with time.fabricLocked := false } else s

/-- PTP_MESSAGE_RECEIVE (R41, R398): the named port, in the domain of svc_ptp_domain, receives the time of its master; the chip locks to it.
A first lock since a reset steps, a later one slews (R39), and the hold of a lost reference ends. -/
def ptpMessageReceive (port domain time : Nat) (s : State) : State :=
  if s.num E.ptpSource ≠ port + 1 ∨ 1 < port ∨ domain ≠ s.num E.svcPtpDomain ∨ (s.port port).state ≠ 1 then s
  else
    let s1 := s.alignBy (!s.time.ptpLockedOnce) ((time : Int) - s.time.gtb)
    { s1 with
      time.ptpLocked := true, time.ptpLockedOnce := true, time.role := if s.time.role = 2 then 3 else s.time.role
      time.holdover := s.time.holdover && decide (s.time.role = 1) && !(s.time.master.any s.reaches) }

/-- Drop the lock to the IEEE 1588 reference and hold the GTB (R40, R41). -/
def State.ptpDrop (s : State) : State :=
  if !s.time.ptpLocked then s
  else { s with
    time.ptpLocked := false, time.holdover := true, time.holdoverAt := s.time.mono, time.slew := 0
    time.role := if s.time.role = 3 then 2 else s.time.role }

/-- PTP_REFERENCE_LOSS (R41). -/
def ptpReferenceLoss (s : State) : State := s.ptpDrop

/-! The meanings. -/

/-- OP_POINT_REQUEST (R31). -/
def execOpPointRequest (who : Origin) (value : Nat) (s : State) : Host.Outcome State Fault Refusal :=
  .next (opPointRequest who value s)
/-- OP_POINT_RAMP_COMPLETE (R31). -/
def execOpPointRampComplete (s : State) : Host.Outcome State Fault Refusal :=
  .next (opPointRampComplete s)
/-- GTB_RESYNC_PULSE (R35). -/
def execGtbResyncPulse (s : State) : Host.Outcome State Fault Refusal :=
  .next (gtbResyncPulse s)
/-- RATE_LIVE_UPDATE (R32). -/
def execRateLiveUpdate (domain : Nat) (rate : Nat) (s : State) : Host.Outcome State Fault Refusal :=
  .next (rateLiveUpdate domain rate s)
/-- TIME_MASTER_ELECTION (R38). -/
def execTimeMasterElection (counts : List (Nat × Nat)) (s : State) : Host.Outcome State Fault Refusal :=
  .next (timeMasterElection counts s)
/-- FABRIC_TIME_SEND (R38). -/
def execFabricTimeSend (link : Nat) (s : State) : Host.Outcome State Fault Refusal :=
  .next (fabricTimeSend link s)
/-- FABRIC_TIME (R38). -/
def execFabricTime (link : Nat) (chip : Nat) (t2 : Nat) (t3 : Nat) (hop : Int) (s : State) : Host.Outcome State Fault Refusal :=
  .next (fabricTime link chip t2 t3 hop s)
/-- GTB_HOLDOVER_ENTER (R40). -/
def execGtbHoldoverEnter (s : State) : Host.Outcome State Fault Refusal :=
  .next (gtbHoldoverEnter s)
/-- HOLDOVER_LOCK_EXPIRE (R40). -/
def execHoldoverLockExpire (s : State) : Host.Outcome State Fault Refusal :=
  .next (holdoverLockExpire s)
/-- PTP_MESSAGE_RECEIVE (R398). -/
def execPtpMessageReceive (port : Nat) (domain : Nat) (time : Nat) (s : State) : Host.Outcome State Fault Refusal :=
  .next (ptpMessageReceive port domain time s)
/-- PTP_REFERENCE_LOSS (R41). -/
def execPtpReferenceLoss (s : State) : Host.Outcome State Fault Refusal :=
  .next (ptpReferenceLoss s)

end Sys2Proof.Machine
end

