-- ==== Sys2Proof/Machine/Sha.lean ====
section
/-! DEFINITION. Machine/Sha.lean: SHA-384, which the spec names for image payloads and measurements (R343, R344, R430). PRESUMED from FIPS 180-4: the spec names the
function and gives no definition (log entry 33). -/

namespace Sys2Proof.Sha

/-- A word of the function. -/
abbrev W := BitVec 64

/-- The first 80 primes. -/
def primes : List Nat := [2, 3, 5, 7, 11, 13, 17, 19, 23, 29, 31, 37, 41, 43, 47, 53, 59, 61, 67, 71] ++
  [73, 79, 83, 89, 97, 101, 103, 107, 109, 113, 127, 131, 137, 139, 149, 151, 157, 163, 167, 173] ++
  [179, 181, 191, 193, 197, 199, 211, 223, 227, 229, 233, 239, 241, 251, 257, 263, 269, 271, 277, 281] ++
  [283, 293, 307, 311, 313, 317, 331, 337, 347, 349, 353, 359, 367, 373, 379, 383, 389, 397, 401, 409]

/-- The largest number whose k-th power is at most `n`, found bit by bit from bit `b` down. -/
def root (k n : Nat) : Nat → Nat → Nat
  | 0, acc => acc
  | b + 1, acc => root k n b (if (acc + 2 ^ b) ^ k ≤ n then acc + 2 ^ b else acc)

/-- Round constants: the first 64 bits of the fraction of the cube root of each prime. -/
def roundK : List W := primes.map (fun p => BitVec.ofNat 64 (root 3 (p * 2 ^ 192) 68 0))

/-- Initial hash: the first 64 bits of the fraction of the square root of the ninth to sixteenth prime. -/
def start : List W := ((primes.drop 8).take 8).map (fun p => BitVec.ofNat 64 (root 2 (p * 2 ^ 128) 68 0))

/-- The value of big-endian bytes. -/
def ofBe (l : List Byte) : Nat := l.foldl (fun a b => a * 256 + b.toNat) 0

/-- The `n` big-endian bytes of a number. -/
def beBytes (n x : Nat) : List Byte := (leBytes n x).reverse

/-- The message padded to a multiple of 128 bytes. -/
def pad (l : List Byte) : List Byte :=
  l ++ [0x80#8] ++ zeroBytes ((128 - (l.length + 17) % 128) % 128) ++ beBytes 16 (8 * l.length)

/-- The words of the schedule, newest first, from the sixteen of a block. -/
def schedule : Nat → List W → List W
  | 0, w => w
  | k + 1, w =>
    let a := w.getD 14 0#64
    let b := w.getD 1 0#64
    let s0 := a.rotateRight 1 ^^^ a.rotateRight 8 ^^^ a >>> 7
    let s1 := b.rotateRight 19 ^^^ b.rotateRight 61 ^^^ b >>> 6
    schedule k ((w.getD 15 0#64 + s0 + w.getD 6 0#64 + s1) :: w)

/-- One round on the eight working words. -/
def round (h : List W) (kw : W × W) : List W :=
  let a := h.getD 0 0#64
  let b := h.getD 1 0#64
  let c := h.getD 2 0#64
  let d := h.getD 3 0#64
  let e := h.getD 4 0#64
  let f := h.getD 5 0#64
  let g := h.getD 6 0#64
  let t1 := h.getD 7 0#64 + (e.rotateRight 14 ^^^ e.rotateRight 18 ^^^ e.rotateRight 41) + ((e &&& f) ^^^ (~~~ e &&& g)) + kw.1 + kw.2
  let t2 := (a.rotateRight 28 ^^^ a.rotateRight 34 ^^^ a.rotateRight 39) + ((a &&& b) ^^^ (a &&& c) ^^^ (b &&& c))
  [t1 + t2, a, b, c, d + t1, e, f, g]

/-- One block of 128 bytes. -/
def block (h : List W) (l : List Byte) : List W :=
  let w := (List.range 16).map (fun i => BitVec.ofNat 64 (ofBe ((l.drop (8 * i)).take 8)))
  let r := (roundK.zip (schedule 64 w.reverse).reverse).foldl round h
  (h.zip r).map (fun p => p.1 + p.2)

/-- The 48 bytes of the digest. -/
def sha384 (l : List Byte) : List Byte :=
  let m := pad l
  let h := (List.range (m.length / 128)).foldl (fun h i => block h ((m.drop (128 * i)).take 128)) start
  (h.take 6).flatMap (fun w => beBytes 8 w.toNat)

end Sys2Proof.Sha
end

