-- ==== Sys2Proof/Machine/Update.lean ====
section
/-! DEFINITION. Machine/Update.lean: the persistent log's own writes, the module sensors, segmented writes that time out, firmware update and the
debug kill (chapter 18, R425 to R434). -/

namespace Sys2Proof.Machine

/-! The log (R425, R434, R458). -/

/-- LOG_RECORD_APPEND (R425). -/
def logRecordAppend (type : Nat) (old new : List Byte) (s : State) : State := s.logInternal type old new

/-- LOG_APPEND (Table 18.14): a note is exactly 16 bytes; its record of type 0x000F names the entry. -/
def logAppend (who : Origin) (note : List Byte) (s : State) : State :=
  let st := s.deviceCheck who E.logAppend
  if st ≠ 0 then s.answer st
  else if note.length ≠ 16 then s.answer 4
  else State.answer (s.appendLog 0x0F who.iface who.logFn (E.logAppend / 256) (E.logAppend % 256) 0xFFFF [] note) 0

/-- ERR_LOG_PERSIST_COPY (R458): a record that entered an error log goes into the persistent log once. -/
def errLogPersistCopy (rec : Nat) (s : State) : State :=
  if s.mgt.toCopy.contains rec then
    State.logInternal { s with mgt.toCopy := s.mgt.toCopy.erase rec } 3 (leBytes 8 rec) []
  else s

/-! Sensors (R427, R428). -/

/-- The value of a binary32 code that is no NaN, times 2^149. -/
def f32Scaled (c : Nat) : Int :=
  let e := bits c 30 23
  let m : Nat := (bits c 22 0 + (if e = 0 then 0 else 2 ^ 23)) * 2 ^ (e - 1)
  if bit c 31 then -(m : Int) else (m : Int)

/-- Is a binary32 code a NaN? -/
def f32Nan (c : Nat) : Bool := decide (bits c 30 23 = 255) && !decide (bits c 22 0 = 0)

/-- Does the alarm of a sensor lie below its threshold (R427)? -/
def sensorFalls (n : Nat) : Bool := decide (n = 6 ∨ n = 8)

/-- Is a value past a threshold? Sensor 9 is past its critical threshold when it is wet. -/
def sensorPast (n v t : Nat) : Bool :=
  if f32Nan v then false
  else if sensorFalls n then decide (f32Scaled v < f32Scaled t)
  else if n = 9 then decide (f32Scaled t ≤ f32Scaled v)
  else decide (f32Scaled t < f32Scaled v)

/-- Is a value 2 % inside a threshold, or dry for sensor 9 (R428)? -/
def sensorInside (n v t : Nat) : Bool :=
  let x := f32Scaled v
  let y := f32Scaled t
  let m := if y < 0 then -y else y
  if f32Nan v then false
  else if n = 9 then decide (x < y)
  else if sensorFalls n then decide (100 * y + 2 * m ≤ 100 * x)
  else decide (100 * x ≤ 100 * y - 2 * m)

/-- The time since which a condition has held. -/
def sinceWhen (now : Nat) (c : Bool) (before : Option Nat) : Option Nat :=
  if c then some (before.getD now) else none

/-- Has a condition held for a time? -/
def heldFor (now ns : Nat) (since : Option Nat) : Bool :=
  match since with
  | some t => decide (ns ≤ now - t)
  | none => false

/-- The state that a sensor's readings give it: two reads in a row past a threshold raise it, one second inside the threshold lowers it (R428). Sensor 9 has no
warning threshold. -/
def Sensor.next (n now : Nat) (x : Sensor) : Nat :=
  if 2 ≤ x.pastCrit then 2
  else if 2 ≤ x.pastWarn ∧ (x.state = 0 ∨ x.state = 3) ∧ n ≠ 9 then 1
  else if 0 < x.state ∧ heldFor now 1000000000 (if n = 9 then x.inCrit else x.inWarn) then 0
  else if 1 < x.state ∧ heldFor now 1000000000 x.inCrit then 1
  else x.state

/-- A change of a sensor's state is logged and signalled (R428). -/
def State.sensorMoved (s : State) (n before : Nat) : State :=
  let a := (s.sensor n).state
  if a = before then s
  else (s.logInternal 6 (leBytes 1 n ++ leBytes 1 a) (leBytes 4 (s.num (E.sensorValue + n)))).raiseMgt 2

/-- SENSOR_READ (R427, R428): `value` is the reading as binary32. -/
def sensorRead (sensor value : Nat) (readable : Bool) (s : State) : State :=
  let x := s.sensor sensor
  let now := s.time.mono
  if !s.sup.auxValid || !s.sup.mgtLive then s
  else if readable then
    let warn := s.num (E.sensorWarn + sensor)
    let crit := s.num (E.sensorCrit + sensor)
    let y : Sensor := { x with
      pastWarn := if sensor ≠ 9 ∧ sensorPast sensor value warn then x.pastWarn + 1 else 0
      pastCrit := if sensorPast sensor value crit then x.pastCrit + 1 else 0
      inWarn := sinceWhen now (sensorInside sensor value warn) x.inWarn
      inCrit := sinceWhen now (sensorInside sensor value crit) x.inCrit
      failingSince := none }
    let z : Sensor := { y with state := y.next sensor now }
    let s1 : State := { s with mgt.sensors := s.mgt.sensors.put sensor z }
    (s1.setNum (E.sensorValue + sensor) (value % 2 ^ 32)).sensorMoved sensor x.state
  else
    let since := x.failingSince.getD now
    let z : Sensor :=
      { state := if 1000000000 ≤ now - since then 3 else x.state, pastWarn := 0, pastCrit := 0, inWarn := none, inCrit := none
        failingSince := some since }
    let s1 : State := { s with mgt.sensors := s.mgt.sensors.put sensor z }
    s1.sensorMoved sensor x.state

/-! Firmware update (R430 to R433). -/

/-- A firmware slot: 0 A, 1 B. -/
def Mgt.slot (m : Mgt) (n : Nat) : Slot := if n = 0 then m.slotA else m.slotB

/-- Set a firmware slot. -/
def State.setSlot (s : State) (n : Nat) (x : Slot) : State :=
  if n = 0 then { s with mgt.slotA := x } else { s with mgt.slotB := x }

/-- The slot that is not running. -/
def State.inactive (s : State) : Nat := 1 - s.mgt.running

/-- An erased slot. -/
def Slot.erased : Slot := { image := [], empty := true, version := 0, security := 0, revoke := 0 }

/-- Move the update state; a change sets MGT_STATUS.update_event (R433). -/
def State.upMove (s : State) (u : UpState) : State :=
  if s.mgt.upState = u then s else State.raiseMgt { s with mgt.upState := u } 3

/-- Log an update step (Table 18.9, type 0x0004). -/
def State.upLog (s : State) (step slot version : Nat) : State :=
  s.logInternal 4 (leBytes 1 step ++ leBytes 1 s.mgt.upResult ++ leBytes 1 slot) (leBytes 4 version)

/-- Drop the assembly of update_image. -/
def State.dropImageAsm (s : State) : State :=
  { s with mgt.asm := s.mgt.asm.filter (fun a => !decide (a.entry = E.updateImage)) }

/-- Does the session belong to somebody else (R431)? -/
def State.upForeign (s : State) (w : Origin) : Bool :=
  match s.mgt.upOwner with
  | some o => !decide (o = w)
  | none => false

/-- A write of update_control: the checks, the log record of the write, and the step's effect (R431, Table 18.12). -/
def State.upControl (s : State) (w : Origin) (v : Nat) (accepted : Bool) (effect : State → State) : State :=
  s.triggerWrite w E.updateControl v
    (if s.upForeign w && !decide (v = 5) then 7 else if !accepted then 5 else 0) effect

/-- UPDATE_BEGIN: erase the inactive slot and open the session. -/
def updateBegin (who : Origin) (s : State) : State :=
  s.upControl who 1 (decide (s.mgt.upState = .idle ∨ s.mgt.upState = .failed)) (fun t =>
    let t1 := (t.setSlot t.inactive Slot.erased).dropImageAsm
    let t2 : State := { t1 with mgt.upOwner := some who, mgt.upResult := 0 }
    ((t2.setNum E.updateReceived 0).upLog 1 t.inactive 0).upMove .receiving)

/-- The longest image (R430). -/
def imageLimit : Nat := 33554432

/-- Put image bytes into the inactive slot and count them. -/
def State.setImage (s : State) (image : List Byte) : State :=
  (s.setSlot s.inactive { Slot.erased with image := image }).setNum E.updateReceived image.length

/-- UPDATE_IMAGE_SEGMENT (R421, R431): segments come in order; the last one completes the write, which is logged as one. -/
def updateImageSegment (who : Origin) (off : Nat) (bytes : List Byte) (last : Bool) (s : State) : State :=
  let st := s.deviceCheck who E.updateImage
  let running := s.mgt.asm.any (fun a => decide (a.entry = E.updateImage))
  let have' := if running then (s.mgt.slot s.inactive).image else []
  let image := have' ++ bytes
  if st ≠ 0 then s.answer st
  else if s.upForeign who then s.answer 7
  else if s.mgt.upState ≠ .receiving then s.answer 5
  else if off ≠ have'.length then ((s.setImage []).dropImageAsm).answer 8
  else if imageLimit < image.length then s.answer 4
  else
    let s1 := (s.setImage image).dropImageAsm
    if last then s1.dictLogged who E.updateImage 0 [] image
    else State.answer { s1 with mgt.asm := s1.mgt.asm ++
      [{ entry := E.updateImage, target := 0, who := who, bytes := [], lastAt := s.time.mono }] } 0

/-- The first check of an image that fails, 0 when it passes (R430, R431). -/
def State.imageResult (s : State) (l : List Byte) : Nat :=
  let hdr := l.take 256
  let pay := l.drop 256
  let slot := fieldAt hdr 4 1
  let revoke := fieldAt hdr 6 1
  if l.length < 256 then 2
  else if fieldAt hdr 0 4 ≠ 1 ∨ 3 < slot ∨ 15 < revoke ∨ fieldAt hdr 7 1 ≠ 0 ∨ ofLe (hdr.drop 0xA0) ≠ 0 then 1
  else if l.length ≠ 256 + fieldAt hdr 0xC 4 then 2
  else if Sha.sha384 pay ≠ (hdr.drop 0x10).take 48 then 3
  else if !Config.signatureOk slot (hdr.take 0x40) ((hdr.drop 0x40).take 96) then 4
  else if bit (s.num E.keysRevoked) slot then 5
  else if fieldAt hdr 5 1 < s.num E.rollbackCounter then 6
  else if bit revoke slot then 7
  else if !Config.componentsOk pay then 8
  else 0

/-- UPDATE_VERIFY (R431). -/
def updateVerify (who : Origin) (s : State) : State :=
  s.upControl who 2 (decide (s.mgt.upState = .receiving)) (fun t =>
    let l := (t.mgt.slot t.inactive).image
    let r := t.imageResult l
    let t1 : State := { (t.dropImageAsm.upMove .verifying) with mgt.upResult := r }
    let t2 := if r = 0 then
        t1.setSlot t1.inactive { image := l, empty := true, version := fieldAt l 8 4, security := fieldAt l 5 1, revoke := fieldAt l 6 1 }
      else t1
    (t2.upLog 2 t.inactive (fieldAt l 8 4)).upMove (if r = 0 then .verified else .failed))

/-- UPDATE_ACTIVATE (Table 18.12): the next boot tries the slot. -/
def updateActivate (who : Origin) (s : State) : State :=
  s.upControl who 3 (decide (s.mgt.upState = .verified)) (fun t =>
    let x := t.mgt.slot t.inactive
    let t1 := t.setSlot t.inactive { x with empty := false }
    let t2 : State := { t1 with mgt.trialNext := some t.inactive }
    (t2.upLog 3 t.inactive x.version).upMove .activated)

/-- Commit the trial that runs (R433). -/
def State.commitTrial (s : State) : State :=
  let x := s.mgt.slot s.mgt.running
  let s1 := s.setNum E.activeSlot s.mgt.running
  let s2 := if s1.num E.rollbackCounter < x.security then s1.setNum E.rollbackCounter x.security else s1
  let s3 := s2.setNum E.keysRevoked (natOr 8 (s2.num E.keysRevoked) (x.revoke % 16))
  State.upMove { (s3.upLog 4 s.mgt.running x.version) with mgt.trialRunning := false, mgt.upOwner := none } .idle

/-- UPDATE_COMMIT (R433). -/
def updateCommit (who : Origin) (s : State) : State :=
  s.upControl who 4 (decide (s.mgt.upState = .trial)) State.commitTrial

/-- The states in which ABORT is accepted (Table 18.12). -/
def UpState.aborts : UpState → Bool
  | .receiving | .verified | .failed | .activated => true
  | .idle | .verifying | .trial => false

/-- UPDATE_ABORT: every interface that may write device scope can issue it (R431). -/
def updateAbort (who : Origin) (s : State) : State :=
  s.upControl who 5 s.mgt.upState.aborts (fun t =>
    let t1 := (t.setSlot t.inactive Slot.erased).dropImageAsm
    let t2 : State := { t1 with mgt.upOwner := none, mgt.trialNext := none }
    ((t2.setNum E.updateReceived 0).upLog 5 t.inactive 0).upMove .idle)

/-- A device reset, cold reset or power-on ends a session that has not been activated; its slot stays marked empty (R431). -/
def State.endSession (s : State) : State :=
  match s.mgt.upState with
  | .receiving | .verifying | .verified =>
    State.upMove { (s.setSlot s.inactive Slot.erased).dropImageAsm with mgt.upOwner := none } .idle
  | _ => s.dropImageAsm

/-! Segmented writes (R421). -/

/-- SEGMENT_ASSEMBLY_TIMEOUT (R421): an assembly idle for a second is discarded; received image bytes go with it. -/
def segmentAssemblyTimeout (index : Nat) (s : State) : State :=
  match s.mgt.asm[index]? with
  | some a =>
    if 1000000000 ≤ s.time.mono - a.lastAt then
      let s1 : State := { s with mgt.asm := s.mgt.asm.eraseIdx index }
      if a.entry = E.updateImage then s1.setImage [] else s1
    else s
  | none => s

/-- DEBUG_KILL (R434). -/
def debugKill (who : Origin) (queue : Nat) (s : State) : State :=
  s.triggerWrite who E.debugKill queue
    (if 4096 ≤ queue then 4 else if !(s.q queue).state.alive then 5 else 0)
    (fun t => t.kill queue 0x0F (t.oldestSite queue))

/-! The meanings. -/

/-- LOG_RECORD_APPEND (R425). -/
def execLogRecordAppend (type : Nat) (old : List Byte) (new : List Byte) (s : State) : Host.Outcome State Fault Refusal :=
  .next (logRecordAppend type old new s)
/-- LOG_APPEND (R425). -/
def execLogAppend (who : Origin) (note : List Byte) (s : State) : Host.Outcome State Fault Refusal :=
  .next (logAppend who note s)
/-- ERR_LOG_PERSIST_COPY (R458). -/
def execErrLogPersistCopy (rec : Nat) (s : State) : Host.Outcome State Fault Refusal :=
  .next (errLogPersistCopy rec s)
/-- SENSOR_READ (R428). -/
def execSensorRead (sensor : Nat) (value : Nat) (readable : Bool) (s : State) : Host.Outcome State Fault Refusal :=
  .next (sensorRead sensor value readable s)
/-- SEGMENT_ASSEMBLY_TIMEOUT (R421). -/
def execSegmentAssemblyTimeout (index : Nat) (s : State) : Host.Outcome State Fault Refusal :=
  .next (segmentAssemblyTimeout index s)
/-- UPDATE_BEGIN (R431). -/
def execUpdateBegin (who : Origin) (s : State) : Host.Outcome State Fault Refusal :=
  .next (updateBegin who s)
/-- UPDATE_IMAGE_SEGMENT (R431). -/
def execUpdateImageSegment (who : Origin) (off : Nat) (bytes : List Byte) (last : Bool) (s : State) : Host.Outcome State Fault Refusal :=
  .next (updateImageSegment who off bytes last s)
/-- UPDATE_VERIFY (R431). -/
def execUpdateVerify (who : Origin) (s : State) : Host.Outcome State Fault Refusal :=
  .next (updateVerify who s)
/-- UPDATE_ACTIVATE (R431). -/
def execUpdateActivate (who : Origin) (s : State) : Host.Outcome State Fault Refusal :=
  .next (updateActivate who s)
/-- UPDATE_COMMIT (R433). -/
def execUpdateCommit (who : Origin) (s : State) : Host.Outcome State Fault Refusal :=
  .next (updateCommit who s)
/-- UPDATE_ABORT (R431). -/
def execUpdateAbort (who : Origin) (s : State) : Host.Outcome State Fault Refusal :=
  .next (updateAbort who s)
/-- DEBUG_KILL (R434). -/
def execDebugKill (who : Origin) (queue : Nat) (s : State) : Host.Outcome State Fault Refusal :=
  .next (debugKill who queue s)

end Sys2Proof.Machine
end

