-- ==== Sys2Proof/Machine/Resets.lean ====
section
/-! DEFINITION. Machine/Resets.lean: the supplies, the power-on sequence, the boot of the management processor, and the cold, device and tied-domain resets (chapter 21, R406, R413, R414, R432,
R434, R486, R487). -/

namespace Sys2Proof.Machine

/-! What a reset leaves (Table 21.3). -/

/-- Does a stored value belong to a persistent entry (R417)? -/
def keptEntry (key : Nat) : Bool :=
  match entryInfo (key / 256) with
  | some r => r.persistent
  | none => false

/-- Management after a start from the boot ROM: persistent entries, the log, the firmware slots and an update session that has been activated are kept (R417, R431). -/
def Mgt.restarted (m : Mgt) : Mgt :=
  { Mgt.initial with
    num := m.num.keep (fun k _ => keptEntry k), blob := m.blob.keep (fun k _ => keptEntry k), log := m.log, nextSeq := m.nextSeq
    upState := m.upState, upOwner := m.upOwner, slotA := m.slotA, slotB := m.slotB, running := m.running, trialNext := m.trialNext
    trialRunning := m.trialRunning, answer := m.answer }

/-- A laser module that is present starts again; after a cold or device reset a failed one stays failed until it is calibrated in full (Table 21.3, R385). -/
def Laser.restarted (kind : Nat) (x : Laser) : Laser :=
  { x with state := if x.inserted.isEmpty then 0 else if x.state = 4 ∧ kind ≠ 0 then 4 else 1
           service := false, draining := false, recal := false, telemetry := [] }

/-- An engine starts again; one that had failed returns to service (R388). -/
def Oe.restarted (x : Oe) : Oe := { Oe.initial with epoch := if x.state = 2 then 1 else 0 }

/-- The configuration space that a device reset keeps (R469): command registers, MSI-X tables with no pending bit, VF Enable, NumVFs, BAR sizes. -/
def Hif.keepConfig (h : Hif) : Hif :=
  { Hif.initial with
    fns := h.fns.mapVals (fun f x => { FnSt.initial with
      gate := if f = 0 ∨ (h.vfEnable ∧ f ≤ h.numVfs) then .opened else .disabled
      busMaster := x.busMaster, atomicReq := x.atomicReq, msixEnable := x.msixEnable, fnMask := x.fnMask, atsEnabled := x.atsEnabled, d3hot := x.d3hot })
    vecs := h.vecs.mapVals (fun _ v => { v with pending := false, due := false })
    vfEnable := h.vfEnable, numVfs := h.numVfs, vfMse := h.vfMse, bar2Log := h.bar2Log, vfBar2Log := h.vfBar2Log, linkUp := h.linkUp }

/-- Scratch per core in force after a reset: the cores are partition 0's (R208, R327). -/
def State.freshCores (s : State) : SMap Core :=
  let kib := s.num E.scratchKib
  if kib = 256 then [] else (List.range 384).map (fun c => (c, { Core.initial with scratchKib := kib }))

/-- The chip ids of fab_tie (R370). -/
def State.tieEntry (s : State) : List Nat :=
  let b := s.blob E.fabTie
  (List.range (b.length / 2)).map (fun i => fieldAt b (2 * i) 2)

/-- Waits of other chips on this chip's objects are told ERROR(0x10) before a device reset or a tied-domain reset takes effect (R308). -/
def State.tellRemoteWaiters (s : State) : State :=
  (s.syn.objs.vals.flatMap (fun x => x.waiters)).foldl (fun s w => match w.who with
    | .remote chip seq => s.respond 0x14 chip seq 1 0x10 [] 0
    | _ => s) s

/-- Everything that the main rails hold is lost: the machine behind them is as at power-on, but for what is persistent and what is outside the module. `kind` is 0 for power-on, 1
for a cold reset or loss of the main supply, 2 for a device reset (Table 21.3). -/
def State.wipe (s : State) (kind : Nat) : State :=
  let h := if kind = 2 then s.hif.keepConfig else { Hif.initial with linkUp := false }
  { s with
    bar0 := { held := [], captured := [], rdata := 0 }
    hif := { h with hostMem := s.hif.hostMem, certs := s.hif.certs, drs := s.hif.drs, cpl := s.hif.cpl }
    fe := FrontEnd.initial, syn := Syn.initial
    stk := { Stk.initial with pinGroups := s.stk.pinGroups, stackFailed := s.stk.stackFailed, spared := s.stk.spared }
    nwt := Nwt.initial, cores := s.freshCores, l2 := L2.initial
    fab := { Fab.initial with chipId := s.num E.fabChipId, tieCfg := s.tieEntry, answers := s.fab.answers }
    opt := { Opt.initial with lasers := s.opt.lasers.mapVals (fun _ x => x.restarted kind), engines := s.opt.engines.mapVals (fun _ x => x.restarted) }
    svc := Svc.initial
    pwr := { Pwr.initial with energy := if kind = 0 then 0 else s.pwr.energy, tripped := s.pwr.tripped }
    obs := Obs.initial, mem := [], poison := [] }

/-- The domains on the main rails: every replica but those of D23 and D24. -/
def mainReplica (i : Nat) : Bool := !decide (i = 23 ∨ i = 24)

/-- The self-timed domains stop with the rails (R36). -/
def State.stopDomains (s : State) : State :=
  { s with time.replicas := s.time.replicas.mapIdx (fun i r => if mainReplica i then { r with stopped := true } else r) }

/-- The replicas of the main rails reload from the master, with resync set but at power-on (R36, Table 21.3). -/
def State.reloadReplicas (s : State) (resync : Bool) : State :=
  let mask := if resync then ofBitList ((List.range 45).filter mainReplica) else 0
  { s with
    time.replicas := s.time.replicas.mapIdx (fun i r => if mainReplica i then r.reload s.time.gtb else r)
    time.domainResync := natOr 45 s.time.domainResync mask, time.resyncEvent := s.time.resyncEvent || resync
    time.resyncFlag := natOr 45 s.time.resyncFlag mask, time.resyncDone := [] }

/-- The time base after a cold or device reset: the master counts on, and nothing is locked (Table 21.3, R39). -/
def TimeSt.restarted (t : TimeSt) : TimeSt :=
  { TimeSt.initial with mono := t.mono, ref := t.ref, gtb := t.gtb, replicas := t.replicas, steppedSinceLog := t.steppedSinceLog }

/-- The main rails go down. -/
def State.railsOff (s : State) : State :=
  State.stopDomains { s with sup.phase := .off, sup.mainPg := false, sup.devResetRunning := false, sup.tiedAbsent := false }

/-- The main-supply sequence starts, unless a trip stands, both slots failed, or a cold reset holds the rails down (R466 to R468, R406). -/
def State.startSequence (s : State) : State :=
  if s.sup.mainValid && s.sup.auxValid && !s.sup.bothSlotsFailed && !s.sup.coldHeld && !s.sup.thermTrip && decide (s.sup.phase = .off) then
    { s with sup.phase := .ramping, sup.origin := s.time.mono }
  else s

/-! The boot of the management processor (R432, R487). -/

/-- One start from the boot ROM: boot_count increments, and a type 0x0009 record holds the slot and the reason (R487). -/
def State.bootRecord (s : State) (reason : Nat) : State :=
  (s.addNum E.bootCount 32).logInternal 9 (leBytes 1 s.mgt.running ++ leBytes 1 reason) []

/-- Start from a slot. -/
def State.bootFrom (s : State) (slot reason : Nat) (trial : Bool) : State :=
  State.bootRecord { s with mgt.running := slot, mgt.trialRunning := trial, sup.mgtLive := true } reason

/-- A trial ends without being committed: the update session is over (R432). -/
def State.endTrial (s : State) : State :=
  match s.mgt.upState with
  | .activated | .trial => State.upMove { s with mgt.upOwner := none } .idle
  | _ => s

/-- Boot: the selected slot is a trial that has been activated, or the active slot. A slot that is empty or fails its verification makes the boot ROM start again from the other one; when both
fail the device does not become ready. `aOk` and `bOk` say whether each slot's header and payload verify. -/
def State.boot (s : State) (reason : Nat) (aOk bOk : Bool) : State :=
  let good (n : Nat) : Bool := !(s.mgt.slot n).empty && (if n = 0 then aOk else bOk)
  let trial := s.mgt.trialNext
  let slot := trial.getD (s.num E.activeSlot)
  let ends := !trial.isSome || !good slot
  let s0 : State := { s with mgt.trialNext := none, sup.bothSlotsFailed := false }
  let s1 := (if ends then s0.endTrial else s0).bootFrom slot reason trial.isSome
  if good slot then s1
  else State.bootFrom { s1 with sup.bothSlotsFailed := !good (1 - slot) } (1 - slot) 3 false

/-- Restart management for a reset of the whole device: the session ends, entries return to their defaults, and the reset is logged before the boot (R431, R468). -/
def State.resetMgt (s : State) (kind code reason : Nat) (aOk bOk : Bool) : State :=
  let s1 := s.endSession
  (State.logReset { s1 with mgt := s1.mgt.restarted } kind code).boot reason aOk bOk

/-! Supplies (R465, R466, R472, R486). -/

/-- AUX_SUPPLY_VALID (R34, R465): power-on. -/
def auxSupplyValid (aOk bOk : Bool) (s : State) : State :=
  if s.sup.auxValid then s
  else
    let s1 : State := { s with
      sup := { Supply.ready with epoch := s.sup.epoch, mainValid := s.sup.mainValid, perst := s.sup.perst, d19Reset := s.sup.perst, phase := .off, mainPg := false }
      time := { TimeSt.initial with mono := s.time.mono } }
    (((s1.resetMgt 0 0 0 aOk bOk).wipe 0).stopDomains).startSequence

/-- AUX_SUPPLY_LOSS (R472, R486): the main rails go off, and nothing runs until power-on. -/
def auxSupplyLoss (s : State) : State :=
  if !s.sup.auxValid then s
  else { (s.wipe 0).railsOff with sup.auxValid := false, sup.mgtLive := false, sup.thermTrip := false, sup.coldHeld := false }

/-- MAIN_SUPPLY_VALID (R466, R476). -/
def mainSupplyValid (s : State) : State :=
  if s.sup.mainValid then s else State.startSequence { s with sup.mainValid := true }

/-- Values held in hardware on the main rails return to their defaults when those go off (log entry 39). -/
def State.dropVolatile (s : State) : State :=
  { s with mgt.num := s.mgt.num.keep (fun k _ => keptEntry k), mgt.blob := s.mgt.blob.keep (fun k _ => keptEntry k) }

/-- MAIN_SUPPLY_LOSS (R472, R476, R486): the rails go off, work ends, and management logs the loss as a critical reading of sensor 6 and counts it in class 22 (log entry 40). -/
def mainSupplyLoss (s : State) : State :=
  if !s.sup.mainValid then s
  else if s.sup.phase = .off then { s with sup.mainValid := false }
  else
    let n := s.aliveCount
    let s1 : State := { ((s.dropVolatile.wipe 1).railsOff) with
      sup.mainValid := false, sup.kind := 1, sup.d19Reset := true, mgt.sensors := s.mgt.sensors.put 6 { s.sensor 6 with state := 2 } }
    let s2 := (s1.logInternal 6 (leBytes 1 6 ++ leBytes 1 2) (leBytes 4 (s.num (E.sensorValue + 6)))).raiseMgt 2
    s2.faultRecord 22 0 0 0xFFFFFFFF n 0

/-- RAILS_IN_REGULATION (R36, R460, R466, R475): the chip starts up: the domains start, their replicas load, and PWR_MAIN_PG is released. -/
def railsInRegulation (s : State) : State :=
  if s.sup.phase ≠ .ramping then s
  else
    let s1 := s.reloadReplicas (decide (s.sup.kind ≠ 0))
    State.setNum { s1 with sup.phase := .domainsUp, sup.epoch := (s.sup.epoch + 1) % 2 ^ 32, sup.mainPg := true, sup.d19Reset := s.sup.perst, time.rampTarget := none } E.opPointCurrent (s.num E.opPointRequest)

/-- Start the laser modules (R385): one whose identity and bay record match loads its stored calibration; any other is calibrated in full. -/
def State.startLasers (s : State) : State :=
  (List.range 4).foldl (fun s j =>
    let x := s.laser j
    if x.inserted.isEmpty then s
    else if x.state ≠ 4 ∧ s.blob (E.laserIdentity + j) = x.inserted ∧ x.bayChip = some (s.num E.fabChipId) ∧ x.bayEpoch = some x.epoch then s.laserReady j
    else s.calibrate j) s

/-- Units that fail their self-test are marked failed (R54, R388, R466, R467). -/
def State.applyTests (s : State) (t : SelfTest) : State :=
  let s1 := t.dies.foldl (fun s d => if d / 32 < 20 ∧ d % 32 < 20 ∧ !bit (s.num (E.retiredDies + d / 32)) (d % 32) then s.retireDie (d / 32) (d % 32) 0 else s) s
  let s2 := t.baseDies.foldl State.failStack s1
  let s3 := t.newts.foldl State.failNewt s2
  let s4 := t.halves.foldl (fun s c => if c < 384 then s.modCore c (fun k => { k with narrow := 1 }) else s) s3
  let s5 := t.engines.foldl State.failOe s4
  if t.central ∧ !s5.sup.chipFailed then State.faultRecord { s5 with sup.chipFailed := true } 20 16 0 0xFFFFFFFF 0 0 else s5

/-- Channels and stacks that have failed before have no newts; a slice with five retired ways has failed (R56, R236). -/
def State.applyPersistent (s : State) : State :=
  let s1 := (List.range 640).foldl (fun s n => if s.channelFailed n ∧ !s.newtFailed n then s.downNewt n else s) s
  { s1 with l2.failed := ofBitList ((List.range 64).filter (fun x => decide (5 ≤ (s1.retiredWays x).length))) }

/-- SELF_TEST_COMPLETE (R466). -/
def selfTestComplete (found : SelfTest) (s : State) : State :=
  if s.sup.phase ≠ .domainsUp then s
  else { ((s.applyPersistent.applyTests found).startLasers) with sup.phase := .tested }

/-- MEMORY_ZEROING_COMPLETE (R57). -/
def memoryZeroingComplete (s : State) : State :=
  if s.sup.phase ≠ .tested then s else { s with sup.phase := .zeroed, mem := [], poison := [] }

/-- DEVICE_READY (R406, R432, R466, R467): the dictionary is live; a trial image enters TRIAL, and is committed at once with update_auto_commit; a start after a thermal trip shows it. -/
def deviceReady (s : State) : State :=
  if s.sup.phase ≠ .zeroed ∨ s.sup.bothSlotsFailed then s
  else
    let s1 : State := { s with sup.phase := .ready, sup.devResetRunning := false, hif.drs := if s.hif.linkUp then s.hif.drs + 1 else s.hif.drs }
    let s2 := if s1.pwr.tripped then State.raisePwr { s1 with pwr.tripped := false } 6 else s1
    if s2.mgt.trialRunning then
      let s3 := s2.upMove .trial
      if s3.num E.updateAutoCommit = 1 then s3.commitTrial else s3
    else s2

/-! PERST# and the cold reset (R466, R468, R472). -/

/-- The effects of a cold reset at its start: management reboots and the main rails go down (R468). -/
def State.coldReset (s : State) (aOk bOk : Bool) : State :=
  let s1 := ((s.resetMgt 1 0 1 aOk bOk).wipe 1).railsOff
  { s1 with time := s1.time.restarted, sup.kind := 1, sup.chipFailed := false, sup.rrsAnswered := false, sup.d19Reset := true }

/-- PERST_ASSERT (R466, R468): a cold reset after ready, after a trip, or over a device reset; before ready it holds D19 in reset and nothing else. -/
def perstAssert (aOk bOk : Bool) (s : State) : State :=
  let s1 : State := { s with sup.perst := true, sup.d19Reset := true, hif.linkUp := false }
  if s.sup.perst ∨ !s.sup.auxValid then s1
  else if s.sup.phase = .ready ∨ s.sup.thermTrip ∨ s.sup.devResetRunning then State.coldReset { s1 with sup.coldHeld := true } aOk bOk
  else s1

/-- PERST_DEASSERT (R466, R468, R481, R486): the PCIe controller leaves reset, and the sequence of a cold reset starts. A trip that came while PERST# was asserted ends with the cold reset that
follows. -/
def perstDeassert (aOk bOk : Bool) (s : State) : State :=
  if !s.sup.perst then s
  else
    let s1 : State := { s with sup.perst := false, sup.d19Reset := !s.sup.mainPg }
    if s.sup.coldHeld then State.startSequence { s1 with sup.coldHeld := false, sup.thermTrip := false }
    else if s.sup.thermTrip ∧ s.sup.auxValid then State.startSequence { s1.coldReset aOk bOk with sup.thermTrip := false }
    else s1

/-- CONFIG_REQUEST_RRS (R466, R469): before ready a configuration request is answered with RRS and not performed. -/
def configRequestRrs (s : State) : State :=
  if s.hif.linkUp ∧ !s.sup.perst ∧ (s.sup.phase ≠ .ready ∨ s.sup.devResetRunning) then { s with sup.rrsAnswered := true } else s

/-! Management alone (R414, R432). -/

/-- TRIAL_READY_TIMEOUT (R432, R466): 2 s after the origin a trial image has not brought the device to ready. `otherOk` says whether the other slot verifies. -/
def trialReadyTimeout (otherOk : Bool) (s : State) : State :=
  if !s.mgt.trialRunning ∨ s.sup.phase = .ready ∨ s.time.mono < s.sup.origin + 2000000000 then s
  else
    let other := 1 - s.mgt.running
    let bad := !otherOk || (s.mgt.slot other).empty
    State.bootFrom { s.endTrial with sup.bothSlotsFailed := bad } other 3 false

/-- MGT_WATCHDOG_RESTART (R414, R421, R487): requests in flight are answered with status 10; received image bytes stay in their slot. -/
def mgtWatchdogRestart (s : State) : State :=
  if !s.sup.auxValid ∨ !s.sup.mgtLive then s
  else
    let busy := (s.mgt.mbox.filter (fun e => e.2.busy)).map (fun e => e.1)
    let s1 : State := { s with mgt.asm := s.mgt.asm.filter (fun a => decide (a.entry = E.updateImage)), mgt.inFlight := [] }
    let s2 := busy.foldl (fun s f => s.mbRespond f 10 []) s1
    let s3 := (s2.addNum E.mgtEpoch 32).bootRecord 2
    (s3.raiseMgt 4).faultRecord 24 0 0 0xFFFFFFFF 0 (s3.num E.mgtEpoch)

/-! Device reset and tied-domain reset (R434, R468 to R470). -/

/-- The effects of a device reset (R468, R469): as a cold reset, but the main rails stay up and D19 keeps the link and the configuration space. -/
def State.resetDevice (s : State) (aOk bOk : Bool) : State :=
  let s1 := ((s.tellRemoteWaiters.resetMgt 2 0x10 1 aOk bOk).wipe 2)
  let s2 : State := { s1 with
    time := s1.time.restarted
    sup := { s1.sup with phase := .domainsUp, epoch := (s.sup.epoch + 1) % 2 ^ 32, kind := 2, origin := s.time.mono, devResetRunning := true, chipFailed := false, tiedAbsent := false, rrsAnswered := false } }
  (s2.reloadReplicas true).setNum E.opPointCurrent (s2.num E.opPointRequest)

/-- DEVICE_RESET (R406, R434, R472): logged and answered, and then the reset starts; one that runs is joined. -/
def deviceReset (who : Origin) (value : Nat) (aOk bOk : Bool) (s : State) : State :=
  s.triggerWrite who E.deviceReset value (if 1 < value then 4 else if s.sup.thermTrip then 5 else 0) (fun t =>
    if value = 0 ∨ t.sup.devResetRunning then t else t.resetDevice aOk bOk)

/-- TIED_RESET (R434, R470, R472): an FLR of every function at one origin with code 0x10; the coherent state follows when they complete. A write while one runs joins it. `allTakePart` says whether
every listed member takes part. -/
def tiedReset (who : Origin) (value : Nat) (allTakePart : Bool) (s : State) : State :=
  s.triggerWrite who E.tiedReset value (if 1 < value then 4 else if s.fab.tie.length < 2 then 5 else 0) (fun t =>
    let running := t.hif.fns.vals.any (fun x => match x.reset with
      | some r => decide (r.kind = 3)
      | none => false)
    if value = 0 ∨ running then t
    else
      let run : ResetRun := { kind := 3, since := t.time.mono, partition := 0 }
      let t1 := State.logReset { t.tellRemoteWaiters with sup.tiedAbsent := !allTakePart } 3 0x10
      ((List.range 256).filter t1.fnExists).foldl (fun s f => s.startFlr f run) t1)

/-! The meanings. -/

/-- AUX_SUPPLY_VALID (R465). -/
def execAuxSupplyValid (aOk : Bool) (bOk : Bool) (s : State) : Host.Outcome State Fault Refusal :=
  .next (auxSupplyValid aOk bOk s)
/-- AUX_SUPPLY_LOSS (R486). -/
def execAuxSupplyLoss (s : State) : Host.Outcome State Fault Refusal :=
  .next (auxSupplyLoss s)
/-- MAIN_SUPPLY_VALID (R466). -/
def execMainSupplyValid (s : State) : Host.Outcome State Fault Refusal :=
  .next (mainSupplyValid s)
/-- MAIN_SUPPLY_LOSS (R486). -/
def execMainSupplyLoss (s : State) : Host.Outcome State Fault Refusal :=
  .next (mainSupplyLoss s)
/-- RAILS_IN_REGULATION (R466). -/
def execRailsInRegulation (s : State) : Host.Outcome State Fault Refusal :=
  .next (railsInRegulation s)
/-- SELF_TEST_COMPLETE (R466). -/
def execSelfTestComplete (found : SelfTest) (s : State) : Host.Outcome State Fault Refusal :=
  .next (selfTestComplete found s)
/-- MEMORY_ZEROING_COMPLETE (R57). -/
def execMemoryZeroingComplete (s : State) : Host.Outcome State Fault Refusal :=
  .next (memoryZeroingComplete s)
/-- DEVICE_READY (R466). -/
def execDeviceReady (s : State) : Host.Outcome State Fault Refusal :=
  .next (deviceReady s)
/-- PERST_ASSERT (R468). -/
def execPerstAssert (aOk : Bool) (bOk : Bool) (s : State) : Host.Outcome State Fault Refusal :=
  .next (perstAssert aOk bOk s)
/-- PERST_DEASSERT (R466). -/
def execPerstDeassert (aOk : Bool) (bOk : Bool) (s : State) : Host.Outcome State Fault Refusal :=
  .next (perstDeassert aOk bOk s)
/-- CONFIG_REQUEST_RRS (R469). -/
def execConfigRequestRrs (s : State) : Host.Outcome State Fault Refusal :=
  .next (configRequestRrs s)
/-- TRIAL_READY_TIMEOUT (R432). -/
def execTrialReadyTimeout (otherOk : Bool) (s : State) : Host.Outcome State Fault Refusal :=
  .next (trialReadyTimeout otherOk s)
/-- MGT_WATCHDOG_RESTART (R414). -/
def execMgtWatchdogRestart (s : State) : Host.Outcome State Fault Refusal :=
  .next (mgtWatchdogRestart s)
/-- DEVICE_RESET (R434). -/
def execDeviceReset (who : Origin) (value : Nat) (aOk : Bool) (bOk : Bool) (s : State) : Host.Outcome State Fault Refusal :=
  .next (deviceReset who value aOk bOk s)
/-- TIED_RESET (R470). -/
def execTiedReset (who : Origin) (value : Nat) (allTakePart : Bool) (s : State) : Host.Outcome State Fault Refusal :=
  .next (tiedReset who value allTakePart s)

end Sys2Proof.Machine
end

