-- ==== Sys2Proof/Machine/Units.lean ====
section
/-! DEFINITION. Machine/Units.lean: unit descriptors (R19 to R27). A core's follows its state at once; a unit of a higher level is formed from its children by
DESCRIPTOR_UPDATE, and is formed anew at each read until the first one. -/

namespace Sys2Proof.Machine

/-- The fields of a unit descriptor (Table 1.4) that add up. -/
structure Unit64 where
  state : Nat
  flags : Nat
  id : Nat
  parent : Nat
  children : Nat
  narrow : Nat
  cores : Nat
  memory : Nat
  bandwidth : Nat
  l2 : Nat
  newts : Nat
  queues : Nat
  objects : Nat
  rateMin : Nat
  functions : Nat
  epoch : Nat
deriving DecidableEq, Repr

/-- The 64 bytes of a descriptor of a level (Table 1.4). -/
def Unit64.bytes (u : Unit64) (level : Nat) : List Byte :=
  leBytes 1 level ++ leBytes 1 1 ++ leBytes 1 u.state ++ leBytes 1 u.flags ++ leBytes 4 u.id ++ leBytes 4 u.parent ++ leBytes 2 u.children ++
    leBytes 2 u.narrow ++ leBytes 4 u.cores ++ leBytes 4 (64 * u.cores) ++ leBytes 8 u.memory ++ leBytes 4 u.bandwidth ++ leBytes 4 u.l2 ++
    leBytes 4 (147456 * u.cores / 100) ++ leBytes 4 u.newts ++ leBytes 4 u.queues ++ leBytes 4 u.objects ++ leBytes 2 u.rateMin ++
    leBytes 2 u.functions ++ leBytes 4 u.epoch

/-- The fields of a descriptor's bytes. -/
def Unit64.ofBytes (l : List Byte) : Unit64 :=
  { state := fieldAt l 2 1, flags := fieldAt l 3 1, id := fieldAt l 4 4, parent := fieldAt l 8 4, children := fieldAt l 0x0C 2, narrow := fieldAt l 0x0E 2
    cores := fieldAt l 0x10 4, memory := fieldAt l 0x18 8, bandwidth := fieldAt l 0x20 4, l2 := fieldAt l 0x24 4, newts := fieldAt l 0x2C 4
    queues := fieldAt l 0x30 4, objects := fieldAt l 0x34 4, rateMin := fieldAt l 0x38 2, functions := fieldAt l 0x3A 2, epoch := fieldAt l 0x3C 4 }

/-- No unit: state 0 (absent). -/
def Unit64.absent : Unit64 :=
  { state := 0, flags := 0, id := 0, parent := 0xFFFFFFFF, children := 0, narrow := 0, cores := 0, memory := 0, bandwidth := 0, l2 := 0, newts := 0
    queues := 0, objects := 0, rateMin := 0, functions := 0, epoch := 0 }

/-- Live rate of a plain's domain; a gated domain reports 0 (R32). -/
def State.plainRate (s : State) (p : Nat) : Nat := if bit s.l2.gatedPlains p then 0 else s.num (E.rateLive + p)

/-- A core's own descriptor (R21). -/
def State.coreUnit (s : State) (c : Nat) : Unit64 :=
  let k := s.core c
  let failed := decide (k.state = 3) || s.sup.chipFailed
  { Unit64.absent with
    state := if failed then 3 else if k.state = 1 then 4 else 1, id := c, parent := c / 24
    narrow := b2n (!failed && decide (k.narrow ≠ 0)), cores := b2n (!failed), rateMin := s.plainRate (c / 24), epoch := k.epoch }

/-- A child whose fields count (R21). -/
def Unit64.counts (u : Unit64) : Bool := decide (u.state = 1 ∨ u.state = 2 ∨ u.state = 4)

/-- State of a unit from its children and from whether one of its other resources is failed or retired (R21). -/
def unitState (cs : List Unit64) (worn : Bool) : Nat :=
  if !cs.any Unit64.counts then 3
  else if cs.all (fun c => decide (c.state = 3 ∨ c.state = 4)) then 4
  else if worn || cs.any (fun c => decide (c.state = 3 ∨ c.state = 2)) then 2 else 1

/-- Least rate of children that are ready or degraded; 0 where there is none (log entry 107). -/
def rateMinOf (cs : List Unit64) : Nat :=
  let l := (cs.filter (fun c => decide (c.state = 1 ∨ c.state = 2))).map (fun c => c.rateMin)
  l.foldl min (l.headD 0)

/-- Fields formed by summing over the children that count (R21). -/
def Unit64.sum (cs : List Unit64) : Unit64 :=
  let l := cs.filter Unit64.counts
  let tot (g : Unit64 → Nat) : Nat := sumNat (l.map g)
  { Unit64.absent with
    children := cs.length, narrow := tot (fun c => c.narrow), cores := tot (fun c => c.cores), memory := tot (fun c => c.memory)
    bandwidth := tot (fun c => c.bandwidth), l2 := tot (fun c => c.l2), newts := tot (fun c => c.newts), queues := tot (fun c => c.queues)
    objects := tot (fun c => c.objects), functions := tot (fun c => c.functions), rateMin := rateMinOf cs }

/-- The descriptor of a plain over some of its quarter-plains. Its parent is the partition of the first of them, else the chip (log entry 107). -/
def State.plainUnit (s : State) (p : Nat) (quarters : List Nat) : Unit64 :=
  let mine := quarters.filter (fun q => decide (q / 4 = p))
  let cs := (mine.flatMap coresOfQuarter).map s.coreUnit
  let worn := mine.any (fun x => decide (s.num (E.sliceRetiredWays + x) ≠ 0) || bit s.l2.failed x)
  { Unit64.sum cs with
    state := if s.sup.chipFailed then 3 else unitState cs worn, id := p, parent := (s.partOfQuarter (mine.headD (4 * p))).getD s.fab.chipId
    l2 := 4096 * (mine.filter (fun x => !bit s.l2.failed x)).length, epoch := s.num (E.plainEpoch + p) }

/-- Plains that a partition draws quarter-plains from. -/
def State.partPlains (s : State) (q : Nat) : List Nat := ((s.slicesOf q).map (· / 4)).eraseDups

/-- Is a partition configured: has it quarter-plains, slabs or bound functions (log entry 107)? -/
def State.partLive (s : State) (q : Nat) : Bool := decide (s.qmask q ≠ 0) || !(s.part q).slabs.isEmpty || !(s.boundFns q).isEmpty

/-- Stacks that hold a partition's slabs. -/
def State.partStacks (s : State) (q : Nat) : List Nat :=
  setUnion ((s.part q).slabs.map (fun n => if s.num (E.rowMode + n / 20) = 1 then [n % 20] else List.range 20)).flatten []

/-- Newts of a partition: all those of the stacks that hold its slabs (log entry 107). -/
def State.partNewts (s : State) (q : Nat) : Nat := 32 * (s.partStacks q).length

/-- Is a newt, channel, die or pin group of a stack failed or retired? -/
def State.stackWorn (s : State) (n : Nat) : Bool :=
  s.nwt.failed.any (fun k => decide (k / 32 = n)) || bit s.stk.stackFailed n || decide (s.num (E.failedChannels + n) ≠ 0 ∨ s.num (E.retiredDies + n) ≠ 0) ||
    s.stk.pinGroups.any (fun e => decide (e.1 / 32 = n) && decide (e.2 ≠ 0))

/-- Is a core, a way or the slice of a quarter-plain failed or retired? -/
def State.quarterWorn (s : State) (q : Nat) : Bool :=
  (coresOfQuarter q).any (fun c => decide ((s.core c).state = 3)) || decide (s.num (E.sliceRetiredWays + q) ≠ 0) || bit s.l2.failed q

/-- The descriptor of a partition. Its bandwidth is its share of 65,536 GB/s by partition_mem_weight, over the partitions whose masks are not empty (R332). -/
def State.partUnit (s : State) (q : Nat) : Unit64 :=
  let sl := s.slicesOf q
  let cs := (s.partPlains q).map (fun p => s.plainUnit p sl)
  let live := (List.range 64).filter (fun x => !decide (s.qmask x = 0))
  let total := sumNat (live.map (fun x => s.num (E.partitionMemWeight + x)))
  let fns := s.boundFns q
  { Unit64.sum cs with
    state := if s.sup.chipFailed then 3 else unitState cs (sl.any s.quarterWorn || (s.partStacks q).any s.stackWorn), flags := 1, id := q, parent := s.fab.chipId
    memory := (s.part q).slabs.length * 2 ^ 31
    bandwidth := if total = 0 then 0 else 65536 * s.num (E.partitionMemWeight + q) / total
    newts := s.partNewts q, queues := 16 * fns.length, objects := 256 * bits (s.num (E.syncRange + q)) 24 16, functions := fns.length
    epoch := (s.part q).epoch }

/-- Is some resource of the chip failed or retired? -/
def State.chipWorn (s : State) : Bool :=
  (List.range 20).any s.stackWorn || (List.range 64).any s.quarterWorn || s.opt.engines.any (fun e => decide (e.2.state = 2))

/-- The chip descriptor. -/
def State.chipUnitNow (s : State) : Unit64 :=
  let cs := ((List.range 64).filter s.partLive).map s.partUnit
  { Unit64.sum cs with
    state := if s.sup.chipFailed || s.l2.domainLost then 3 else unitState cs s.chipWorn
    flags := 1 + 2 * b2n (decide (1 < s.fab.tie.length)), id := s.fab.chipId
    parent := if 1 < s.fab.tie.length then s.fab.tie.headD 0 else if 4 < (s.blob E.sliceMembers).length then fieldAt (s.blob E.sliceMembers) 0 4 else 0xFFFFFFFF
    objects := 65536, epoch := s.sup.epoch }

/-- A stored descriptor, or the one formed now. -/
def State.storedUnit (s : State) (a : Nat) (now : Unit64) (level : Nat) : List Byte :=
  match s.mgt.blob.get? (a * 256) with
  | some l => l
  | none => now.bytes level

/-- The chip descriptor of a chip: this one's, or the one last read over the fabric (R27); absent until it has been read (log entry 32). -/
def State.chipBytes (s : State) (chip : Nat) : List Byte :=
  if chip = s.fab.chipId then s.storedUnit E.chipUnit s.chipUnitNow 3
  else
    s.fab.peerUnits.getD chip (Unit64.absent.bytes 3)

/-- The tied group descriptor (R26); state 0 for a chip that is not tied. Table 20.7 gives the unit no epoch, which reads 0 (log entry 107). -/
def State.tiedUnitNow (s : State) : Unit64 :=
  if s.fab.tie.length < 2 then Unit64.absent
  else
    let cs := s.fab.tie.map (fun c => Unit64.ofBytes (s.chipBytes c))
    { Unit64.sum cs with
      state := if s.l2.domainLost then 3 else unitState cs false, flags := 1, id := s.fab.tie.headD 0
      parent := if 4 < (s.blob E.sliceMembers).length then fieldAt (s.blob E.sliceMembers) 0 4 else 0xFFFFFFFF }

/-- Chip ids of the slice, ascending. -/
def State.sliceIds (s : State) : List Nat :=
  let b := s.blob E.sliceMembers
  setUnion ((List.range ((b.length - 4) / 2)).map (fun i => fieldAt b (4 + 2 * i) 2)) []

/-- The valley slice descriptor (R27): degraded until every member is reachable; state 0 without a member list. Table 20.7 gives the unit no epoch, which reads 0
(log entry 107). -/
def State.sliceUnitNow (s : State) : Unit64 :=
  let ids := s.sliceIds
  if ids.isEmpty then Unit64.absent
  else
    let cs := ids.map (fun c => Unit64.ofBytes (s.chipBytes c))
    { Unit64.sum cs with
      state := if ids.all (fun c => decide (c = s.fab.chipId) || (s.reaches c && s.fab.peerUnits.has c)) then unitState cs false else 2
      id := fieldAt (s.blob E.sliceMembers) 0 4 }

/-- DESCRIPTOR_UPDATE (R21, R22, R27): the stored descriptor of a unit follows its children. For another chip of the tied group or the slice that a route reaches, `read` is
its chip descriptor as read over the fabric. -/
def descriptorUpdate (level unit : Nat) (read : List Byte) (s : State) : State :=
  match level with
  | 1 => if unit < 16 then s.setBlob (E.plainList + unit) ((s.plainUnit unit (rangeFrom (4 * unit) 4)).bytes 1) else s
  | 2 => if unit < 64 ∧ s.partLive unit then s.setBlob (E.partitionList + unit) ((s.partUnit unit).bytes 2) else s
  | 3 =>
    if unit = s.fab.chipId then s.setBlob E.chipUnit (s.chipUnitNow.bytes 3)
    else if (s.tiedChip unit ∨ s.sliceIds.contains unit) ∧ s.reaches unit ∧ read.length = 64 then { s with fab.peerUnits := s.fab.peerUnits.put unit read }
    else s
  | 4 => s.setBlob E.tiedUnit (s.tiedUnitNow.bytes 4)
  | 5 => s.setBlob E.sliceUnit (s.sliceUnitNow.bytes 5)
  | _ => s

/-! The meanings. -/

/-- DESCRIPTOR_UPDATE (R22). -/
def execDescriptorUpdate (level : Nat) (unit : Nat) (read : List Byte) (s : State) : Host.Outcome State Fault Refusal :=
  .next (descriptorUpdate level unit read s)

end Sys2Proof.Machine
end

