-- ==== Sys2Proof/Machine/Power.lean ====
section
/-! DEFINITION. Machine/Power.lean: the module cap, droop, thermal limits and trips, the attribution of energy, job records and slice pacing (chapter 17, R400 to R411). Energies of one
millisecond are in uJ, so that a power in mW and the energy of 1 ms are one number. -/

namespace Sys2Proof.Machine

/-- Plains with matrix work: a core holds operations in its matrix queue. -/
def State.mxPlain (s : State) (p : Nat) : Bool := s.cores.any (fun e => inPlain p e.1 && !e.2.mx.queue.isEmpty)

/-- Change every plain's limits. -/
def State.eachPlain (s : State) (g : Nat → PlainPwr → PlainPwr) : State := (List.range 16).foldl (fun s p => s.modPlain p (g p)) s

/-! The cap (R401 to R403). -/

/-- An integer divided by a positive number, rounded down, and clamped to a range. -/
def clampDiv (x : Int) (d lo hi : Nat) : Nat := if d = 0 then hi else max lo (min hi (x / (d : Int)).toNat)

/-- The power that the next millisecond may use, in mW (R401). -/
def State.nextPower (s : State) : Int :=
  let cap := s.num E.pwrCap
  let window := s.num E.pwrCapWindow
  let used := sumNat (s.pwr.history.take (1000 * window - 1))
  let p : Int := (cap * window * 1000000 : Nat) - (used : Int)
  let q := if 20 ≤ s.pwr.excursion ∨ s.pwr.recovery < 100 then min p ((cap * 1000 : Nat) : Int) else p
  min q 3400000

/-- An evaluation's reading enters the history, the excursion and the recovery (R401, R403). -/
def State.readEnergy (s : State) (energy : Nat) : State :=
  let above := decide (s.num E.pwrCap * 1000 < energy)
  let h := (energy :: s.pwr.history).take 30000
  let w := 1000 * s.num E.pwrCapWindow
  { s with
    pwr.history := h, pwr.energy := (s.pwr.energy + energy) % 2 ^ 64, pwr.lastW := energy / 1000 % 2 ^ 16
    pwr.windowW := sumNat (h.take w) / (1000 * w) % 2 ^ 16, pwr.clamp := false
    pwr.excursion := if above then min 20 (s.pwr.excursion + 1) else 0
    pwr.recovery := if above then (if s.pwr.recovery < 100 then 0 else s.pwr.recovery)
      else if 0 < s.pwr.excursion then 1 else min 100 (s.pwr.recovery + 1) }

/-- The fallback of the operating point (R402): one point lower while the floor does not hold the cap, one point higher after 100 ms above the floor by more than 8. -/
def State.fallback (s : State) (a energy : Nat) (next : Int) : State :=
  let lo := s.num E.pwrAdmitFloor
  let request := s.num E.opPointRequest
  if a ≤ lo ∧ next < (energy : Int) then
    let s1 : State := { s with pwr.aboveFloor := 0 }
    if s.num E.pwrPointFallback = 1 ∧ s.pwr.lowered < request then
      State.raisePwr { s1 with pwr.lowered := s.pwr.lowered + 1, time.rampTarget := some (request - (s.pwr.lowered + 1)) } 1
    else s1.raisePwr 2
  else if lo + 8 < a then
    if s.pwr.lowered = 0 then { s with pwr.aboveFloor := min 100 (s.pwr.aboveFloor + 1) }
    else if s.pwr.aboveFloor + 1 < 100 then { s with pwr.aboveFloor := s.pwr.aboveFloor + 1 }
    else { s with pwr.aboveFloor := 0, pwr.lowered := s.pwr.lowered - 1, time.rampTarget := some (request - (s.pwr.lowered - 1)) }
  else { s with pwr.aboveFloor := 0 }

/-- POWER_CAP_EVALUATION (R400 to R403): `energy` is the module's and `matrix` the matrix arrays' of the last 1 ms, and `full` the matrix power at an admission value of 64. -/
def powerCapEvaluation (energy matrix full : Nat) (s : State) : State :=
  if s.sup.phase ≠ .ready then s
  else
    let s1 := s.readEnergy energy
    let next := s1.nextPower
    let room := next - ((energy : Int) - (matrix : Int))
    let a := clampDiv (64 * room) full (s1.num E.pwrAdmitFloor) 64
    let fell := (List.range 16).any (fun p => s1.mxPlain p && decide (a < 64) && decide ((s1.plain p).cap = 64))
    let s2 := s1.eachPlain (fun p x => { x with cap := if s1.mxPlain p then a else 64 })
    let s3 := if fell then s2.raisePwr 0 else s2
    (s3.fallback a energy next).traceAdmit s

/-- OVERCURRENT_ALARM (R403). -/
def overcurrentAlarm (s : State) : State := if s.sup.phase ≠ .ready then s else State.traceAdmit { s with pwr.clamp := true } s

/-! Droop (R404). -/

/-- DROOP_DETECT: a droop event begins in a plain, or in the spine, the front end or the router plain (domains 16 to 18). -/
def droopDetect (domain : Nat) (s : State) : State :=
  if 19 ≤ domain ∨ bit s.pwr.droops domain then s
  else
    let s1 := (State.raisePwr { s with pwr.droops := setBit s.pwr.droops domain } 3).traceAdmit s
    if domain < 16 then
      (s1.modPlain domain (fun x => { x with droopCount := min (2 ^ 32 - 1) (x.droopCount + 1) })).addNum E.droopEvents 64
    else s1

/-- DROOP_RECOVER: the supply has stayed within the threshold for 1 us. -/
def droopRecover (domain : Nat) (s : State) : State := State.traceAdmit { s with pwr.droops := clrBit s.pwr.droops domain } s

/-! Temperatures (R406, Table 17.3). -/

/-- A plain's thermal limit after a reading: 4 lower while its condition holds, 4 higher once it has been clear for 100 ms. -/
def PlainPwr.heat (x : PlainPwr) (now lo : Nat) (hot : Bool) : PlainPwr :=
  if hot then { x with thermal := max lo (x.thermal - 4), clearSince := none }
  else
    let t := x.clearSince.getD now
    { x with clearSince := some t, thermal := if 100000000 ≤ now - t then min 64 (x.thermal + 4) else x.thermal }

/-- THERMAL_EVALUATION. -/
def thermalEvaluation (temps : Temps) (s : State) : State :=
  if s.sup.phase ≠ .ready then s
  else
    let tj (p : Nat) := temps.plains.getD p 0
    let hot (p : Nat) := decide (s.num E.pwrTjLimit < tj p)
    let lo := s.num E.pwrAdmitFloor
    let s1 := s.eachPlain (fun p x => { x.heat s.time.mono lo (hot p) with tj := tj p % 256 })
    let fell := (List.range 16).any (fun p => decide ((s.plain p).thermal = 64) && decide ((s1.plain p).thermal < 64))
    let s2 := if fell then s1.raisePwr 4 else s1
    let above (limit : Nat) := ofBitList ((List.range 20).filter (fun n => decide (limit < temps.dram.getD n 0)))
    let half := above (s.num E.pwrDramLimit)
    let s3 : State := { s2 with pwr.refresh2 := above 85, pwr.dramHalf := half }
    let s4 := if half ≠ 0 ∨ 85 < temps.optics then s3.raisePwr 5 else s3
    let s5 := (List.range 16).foldl (fun s p => s.setNum (E.tjPlain + p) (tj p % 256)) (s4.traceAdmit s)
    (List.range 20).foldl (fun s n => (s.setNum (E.dramTemp + n) (temps.dram.getD n 0 % 256)).setNum (E.baseTemp + n) (temps.base.getD n 0 % 256)) s5

/-- Trip temperature of a sensor: 0 to 15 the plains and 56 upwards the rest of the compute die, 16 to 35 the DRAM of the stacks, 36 to 55 the base dies (log entry 47). -/
def tripAt (sensor : Nat) : Nat := if 16 ≤ sensor ∧ sensor < 56 then 105 else 110

/-- THERMAL_TRIP: the core and base-die supplies go off, the trip output asserts, and management logs the trip (R406, Tables 17.3 and 18.9; class 22). -/
def thermalTrip (sensor reading : Nat) (s : State) : State :=
  if reading < tripAt sensor ∨ s.sup.phase = .off ∨ !s.sup.auxValid then s
  else
    let n := s.aliveCount
    let s1 : State := { ((s.dropVolatile.wipe 1).railsOff) with sup.thermTrip := true, sup.kind := 1, sup.d19Reset := true, pwr.tripped := true }
    let s2 := (s1.addNum E.thermalTrips 32).logInternal 5 (leBytes 1 sensor ++ leBytes 1 reading) []
    s2.faultRecord 22 0 0 0xFFFFFFFF n 0

/-! Energy (R407 to R410). -/

/-- Slot of a job: its record, or the lowest free one; none when every slot is taken (R409). -/
def State.jobSlot (s : State) (id : Nat) : Option Nat :=
  match s.pwr.jobs.find? (fun e => decide (e.1 ≠ 0 ∧ e.2.1 = id)) with
  | some e => some e.1
  | none => (rangeFrom 1 255).find? (fun n => !s.pwr.jobs.has n)

/-- Add an increment to a job's record, or to slot 0 when no slot is free. -/
def State.chargeJob (s : State) (id uj : Nat) : State :=
  if id = 0 then s
  else
    let n := (s.jobSlot id).getD 0
    let now := s.time.gtb
    let r := s.pwr.jobs.getD n (if n = 0 then 0 else id, 0, now, now)
    let s1 : State := { s with pwr.jobs := s.pwr.jobs.put n (r.1, (r.2.1 + uj) % 2 ^ 64, r.2.2.1, now) }
    if n = 0 then s1.raisePwr 7 else s1

/-- Does a function's energy go to its partition: a reset of it runs, or the point of its disable has come (R410)? -/
def State.energyMoved (s : State) (f : Nat) : Bool := (s.fn f).reset.isSome || (s.fn f).pointReached

/-- Charge a queue: its own count, its function's, its partition's, and its job's (R408, R409). -/
def State.chargeQueue (s : State) (q uj : Nat) : State :=
  let f := fnOfQueue q
  let s1 := s.addNum E.partitionEnergy 64 uj (s.fnPart f)
  if s.energyMoved f then s1
  else
    let s2 := (s1.addNum (E.queueEnergy + q % 16) 64 uj f).addNum E.fnEnergy 64 uj f
    s2.chargeJob (s2.num (E.pwrJobId + q % 16) f) uj

/-- Sum of the energies of a list of accounts. -/
def sumCharges (l : List (Nat × Nat)) : Nat := sumNat (l.map Prod.snd)

/-- Energy that is modelled on a rail. -/
def railModelled (r : RailEnergy) : Nat := sumCharges r.queues + sumCharges r.fns + sumCharges r.parts + r.overhead

/-- Accounts of a rail after scaling by its one factor, rounded down. -/
def railScaled (r : RailEnergy) (l : List (Nat × Nat)) : List (Nat × Nat) := l.map (fun c => (c.1, c.2 * r.measured / (railModelled r)))

/-- The device overhead of a rail after scaling: what the accounts leave of the measured energy, so that the figures sum to it exactly (log entry 109). -/
def railRest (r : RailEnergy) : Nat :=
  r.measured - (sumCharges (railScaled r r.queues) + sumCharges (railScaled r r.fns) + sumCharges (railScaled r r.parts))

/-- The scale factor of a rail as binary32; 1.0 with nothing modelled (log entry 109). -/
def railFactor (r : RailEnergy) : Nat :=
  if railModelled r = 0 then 0x3F800000
  else Fmt.fp32.encode .rne false (FVal.div 64 (.fin false r.measured 0) (.fin false (railModelled r) 0))

/-- Queues with an armed WAIT node. -/
def State.armedQueues (s : State) : List Nat :=
  ((s.fe.nodes.vals.filter (fun n => decide (n.type = 4 ∧ n.status = .running) && !n.done)).map (fun n => n.queue)).eraseDups

/-- The rails with the sync unit's 3 W, 3,000 uJ in a millisecond, on the core rail while WAIT nodes are armed, split equally among their queues (R304, Table 17.4). -/
def State.withSync (s : State) (rails : List RailEnergy) : List RailEnergy :=
  let qs := s.armedQueues
  match rails with
  | [] => []
  | r :: t =>
    if qs.isEmpty then r :: t
    else { r with queues := r.queues ++ qs.map (fun q => (q, 3000 / qs.length)), overhead := r.overhead + 3000 % qs.length } :: t

/-- ENERGY_ATTRIBUTION (R407 to R410): every rail's modelled energies, scaled to its measured energy, are charged to their accounts. -/
def energyAttribution (rails : List RailEnergy) (s : State) : State :=
  if s.sup.phase ≠ .ready then s
  else
    let rs : List RailEnergy := s.withSync rails
    let s1 := (rs.flatMap (fun r => railScaled r r.queues)).foldl (fun s c => s.chargeQueue c.1 c.2) s
    let s2 := (rs.flatMap (fun r => railScaled r r.fns)).foldl (fun s c =>
      let t := s.addNum E.partitionEnergy 64 c.2 (s.fnPart c.1)
      if s.energyMoved c.1 then t else t.addNum E.fnEnergy 64 c.2 c.1) s1
    let s3 := (rs.flatMap (fun r => railScaled r r.parts)).foldl (fun s c => s.addNum E.partitionEnergy 64 c.2 c.1) s2
    let s4 := s3.addNum E.overheadEnergy 64 (sumNat (rs.map railRest))
    ((List.range 5).zip (rs.map railFactor)).foldl (fun s e => s.setNum (E.railScale + e.1) e.2) s4

/-- Queues that name a job now. -/
def State.jobQueues (s : State) (id : Nat) : Nat :=
  s.mgt.num.countP (fun e => decide (E.pwrJobId ≤ e.1 / 256 ∧ e.1 / 256 < E.pwrJobId + 16) && decide (e.2 = id))

/-- The record of a slot (Table 17.6). -/
def State.jobRecord (s : State) (n : Nat) : List Byte :=
  match s.pwr.jobs.get? n with
  | none => zeroBytes 32
  | some (id, uj, first, last) =>
    leBytes 4 id ++ leBytes 4 (if n = 0 then 0 else s.jobQueues id) ++ leBytes 8 uj ++ leBytes 8 first ++ leBytes 8 last

/-- PWR_JOB_RELEASE (R409): the record's final values are logged, and its slot is free. A value that names no record is rejected. -/
def pwrJobRelease (who : Origin) (job : Nat) (s : State) : State :=
  let rec' := s.pwr.jobs.find? (fun e => decide (e.1 ≠ 0 ∧ e.2.1 = job))
  s.triggerWrite who E.pwrJobRelease job (if rec'.isSome then 0 else 5) (fun t =>
    match rec' with
    | none => t
    | some e =>
      let b := t.jobRecord e.1
      State.logInternal { t with pwr.jobs := t.pwr.jobs.del e.1 } 8 (b.take 16) (b.drop 16))

/-! Slice pacing (R411). -/

/-- This chip's effective matrix rate in thousandths of an Mstep/s of admitted rows: the mean admission value over its plains with matrix work, times its step_rate_min; none without matrix work. -/
def State.matrixRate (s : State) : Option Nat :=
  let ps := (List.range 16).filter s.mxPlain
  if ps.isEmpty then none else some (1000 * sumNat (ps.map s.admitOf) * s.chipUnitNow.rateMin / ps.length)

/-- The slowest of a list of chips and rates; ties go to the lowest chip id. -/
def slowest : List (Nat × Nat) → Option (Nat × Nat)
  | [] => none
  | c :: t =>
    match slowest t with
    | none => some c
    | some d => if c.2 < d.2 ∨ (c.2 = d.2 ∧ c.1 ≤ d.1) then some c else some d

/-- SLICE_PACING (R411): `rates` are the rates that the other members sent, in the unit of `matrixRate`; a member that is not of the slice, or is unreachable, is left out. -/
def slicePacing (rates : List (Nat × Nat)) (s : State) : State :=
  if s.sup.phase ≠ .ready then s
  else if s.num E.pwrSlicePacing ≠ 1 then
    ((s.eachPlain (fun _ x => { x with pacing := 64 })).setNum E.slicePace 0xFFFF).traceAdmit s
  else
    let others := rates.filter (fun r => s.sliceIds.contains r.1 && !decide (r.1 = s.fab.chipId) && !s.fab.unreachable.contains r.1)
    let mine := match s.matrixRate with
      | some r => [(s.fab.chipId, r)]
      | none => []
    match slowest (mine ++ others) with
    | none => ((s.eachPlain (fun _ x => { x with pacing := 64 })).setNum E.slicePace 0xFFFF).traceAdmit s
    | some m =>
      let own := s.chipUnitNow.rateMin
      let a := if own = 0 then 64 else max (s.num E.pwrAdmitFloor) (min 64 (ceilDiv (102 * m.2) (100000 * own)))
      ((s.eachPlain (fun _ x => { x with pacing := a })).setNum E.slicePace m.1).traceAdmit s

/-! The meanings. -/

/-- POWER_CAP_EVALUATION (R401). -/
def execPowerCapEvaluation (energy : Nat) (matrix : Nat) (full : Nat) (s : State) : Host.Outcome State Fault Refusal :=
  .next (powerCapEvaluation energy matrix full s)
/-- OVERCURRENT_ALARM (R403). -/
def execOvercurrentAlarm (s : State) : Host.Outcome State Fault Refusal :=
  .next (overcurrentAlarm s)
/-- DROOP_DETECT (R404). -/
def execDroopDetect (domain : Nat) (s : State) : Host.Outcome State Fault Refusal :=
  .next (droopDetect domain s)
/-- DROOP_RECOVER (R404). -/
def execDroopRecover (domain : Nat) (s : State) : Host.Outcome State Fault Refusal :=
  .next (droopRecover domain s)
/-- THERMAL_EVALUATION (R406). -/
def execThermalEvaluation (temps : Temps) (s : State) : Host.Outcome State Fault Refusal :=
  .next (thermalEvaluation temps s)
/-- THERMAL_TRIP (R406). -/
def execThermalTrip (sensor : Nat) (reading : Nat) (s : State) : Host.Outcome State Fault Refusal :=
  .next (thermalTrip sensor reading s)
/-- ENERGY_ATTRIBUTION (R407). -/
def execEnergyAttribution (rails : List RailEnergy) (s : State) : Host.Outcome State Fault Refusal :=
  .next (energyAttribution rails s)
/-- SLICE_PACING (R411). -/
def execSlicePacing (rates : List (Nat × Nat)) (s : State) : Host.Outcome State Fault Refusal :=
  .next (slicePacing rates s)
/-- PWR_JOB_RELEASE (R409). -/
def execPwrJobRelease (who : Origin) (job : Nat) (s : State) : Host.Outcome State Fault Refusal :=
  .next (pwrJobRelease who job s)

end Sys2Proof.Machine
end

