-- ==== Sys2Proof/Machine/Service.lean ====
section
/-! DEFINITION. Machine/Service.lean: the service Ethernet ports: RoCEv2 queue pairs and their work entries, remote requests, neighbour requests, priority flow control and the
links (chapter 16, R391 to R398). -/

namespace Sys2Proof.Machine

/-! Queue pairs (R393, Table 16.2). -/

/-- Port of a QP. -/
def Qp.port (x : Qp) : Nat := fieldAt x.raw 1 1
/-- Entries of a QP's ring. -/
def Qp.entries (x : Qp) : Nat := 2 ^ fieldAt x.raw 2 1
/-- PFC priority of a QP. -/
def Qp.priority (x : Qp) : Nat := fieldAt x.raw 3 1
/-- Ring base of a QP. -/
def Qp.ring (x : Qp) : Nat := fieldAt x.raw 8 8
/-- Retries of a QP. -/
def Qp.retries (x : Qp) : Nat := fieldAt x.raw 0x26 1
/-- ACK timeout of a QP in ns: 4.096 us times 2^timeout. -/
def Qp.timeoutNs (x : Qp) : Nat := 4096 * 2 ^ fieldAt x.raw 0x27 1
/-- Path MTU of a QP. -/
def Qp.mtu (x : Qp) : Nat := fieldAt x.raw 0x24 2

/-- Local number of QP n of function f. -/
def localQpn (f n : Nat) : Nat := 0x100000 + 64 * f + n

/-- A svc_qp entry as it reads: the state now, and the local number (Table 16.2). -/
def State.qpBytes (s : State) (f n : Nat) : List Byte :=
  overlay (overlay (s.qp f n).raw 0 (leBytes 1 (s.qp f n).state)) 0x20 (leBytes 4 (localQpn f n))

/-- Are the fields of a svc_qp value in their ranges? A value of state 0 holds nothing that is used, and only its reserved bytes are checked (log entry 44). -/
def qpFieldsOk (b : List Byte) : Bool :=
  decide (ofLe (b.drop 0x28) = 0) && decide (fieldAt b 4 4 < 2 ^ 24) &&
    (decide (fieldAt b 0 1 = 0) ||
      (decide (fieldAt b 1 1 ≤ 1) && decide (6 ≤ fieldAt b 2 1 ∧ fieldAt b 2 1 ≤ 12) && decide (fieldAt b 3 1 ≤ 7) &&
        decide (fieldAt b 8 8 % 4096 = 0) && decide (fieldAt b 0x24 2 = 1024 ∨ fieldAt b 0x24 2 = 2048 ∨ fieldAt b 0x24 2 = 4096) &&
        decide (fieldAt b 0x26 1 ≤ 7) && decide (8 ≤ fieldAt b 0x27 1 ∧ fieldAt b 0x27 1 ≤ 20)))

/-- Status of a svc_qp write by its own rules. -/
def State.qpStatus (s : State) (f n : Nat) (b : List Byte) : Nat :=
  if b.length ≠ 64 ∨ 1 < fieldAt b 0 1 ∨ !qpFieldsOk b then 4
  else if fieldAt b 0 1 = 1 ∧ ((s.qp f n).state ≠ 0 ∨ (s.fn f).gate ≠ .opened) then 5
  else 0

/-- SVC_QP_STATE_WRITE (R393, R416): a write of svc_qp. Writing 1 readies a QP in state 0, writing 0 discards the entries not consumed. -/
def svcQpStateWrite (who : Origin) (fn qp : Nat) (bytes : List Byte) (s : State) : State :=
  if 64 ≤ qp then s.answer 1
  else
    let st := s.fnCheck who fn (E.svcQp + qp)
    if st ≠ 0 then s.answer st
    else if s.qpStatus fn qp bytes ≠ 0 then s.answer (s.qpStatus fn qp bytes)
    else
      let s1 := s.modQp fn qp (fun _ => { Qp.initial with raw := overlay bytes 0x20 (leBytes 4 (localQpn fn qp)), state := fieldAt bytes 0 1 })
      s1.dictLogged who (E.svcQp + qp) fn (s.qpBytes fn qp) bytes

/-- SVC_QP_DOORBELL (R264, R393): entries up to the value become available; any other write is rejected. -/
def svcQpDoorbell (fn qp value : Nat) (s : State) : State :=
  let x := s.qp fn qp
  let v := value % 2 ^ 32
  let d := (v + 2 ^ 32 - x.write) % 2 ^ 32
  if 64 ≤ qp ∨ !s.fnExists fn ∨ x.state ≠ 1 ∨ x.ring = 0 then s
  else if 1 ≤ d ∧ d ≤ x.entries ∧ (v + 2 ^ 32 - x.read) % 2 ^ 32 ≤ x.entries then s.modQp fn qp (fun x => { x with write := v })
  else s

/-! Work entries (Table 16.3, R394). -/

/-- Virtual address of the ring entry of a count. -/
def Qp.entryAddr (x : Qp) (i : Nat) : Nat := x.ring + 64 * (i % x.entries)

/-- Ring count of the next entry to start. -/
def Qp.next (x : Qp) : Nat := (x.read + x.work.length) % 2 ^ 32

/-- The next entry of a QP, when one is available and the QP is ready; none where the ring cannot be read. -/
def State.nextWork (s : State) (f n : Nat) : Option (Nat × List Byte) :=
  let x := s.qp f n
  if x.state ≠ 1 ∨ x.next = x.write then none
  else match s.readV f (x.entryAddr x.next) 64 with
    | .bytes b => some (x.next, b)
    | .bad _ => none

/-- Has a work entry a reserved field that is not zero, or a reserved opcode? -/
def workReserved (b : List Byte) : Bool :=
  !decide (fieldAt b 0 1 = 1 ∨ fieldAt b 0 1 = 2) || !decide (fieldAt b 1 1 = 0) || decide (2 ≤ fieldAt b 2 2) ||
    decide (2 ^ 31 < fieldAt b 4 4) || !decide (ofLe (b.drop 0x28) = 0)

/-- The code of a work entry's local range: 0 when it may be read, for a WRITE, or written, for a READ. -/
def State.workLocal (s : State) (f : Nat) (b : List Byte) : Nat :=
  if fieldAt b 0 1 = 1 then
    (match s.readV f (fieldAt b 8 8) (fieldAt b 4 4) with
     | .bytes _ => 0
     | .bad c => c)
  else s.checkV f (fieldAt b 8 8) (fieldAt b 4 4) .write

/-- The status with which an entry fails before it starts, 0 for none: 6 a reserved field, 4 translation or permission. -/
def State.workFault (s : State) (f : Nat) (b : List Byte) : Nat :=
  if workReserved b then 6 else if s.workLocal f b ≠ 0 then 4 else 0

/-- The request that a work entry puts on the wire: remote address, key and length, as in the RETH of Annex A17, and a WRITE's data (log entry 45). -/
def State.workMessage (s : State) (f : Nat) (b : List Byte) : List Byte :=
  let head := ((b.drop 0x10).take 8).reverse ++ ((b.drop 0x18).take 4).reverse ++ ((b.drop 4).take 4).reverse
  if fieldAt b 0 1 = 1 then
    (match s.readV f (fieldAt b 8 8) (fieldAt b 4 4) with
     | .bytes d => head ++ d
     | .bad _ => head)
  else head

/-- Start the next entry of a QP when its opcode is the one given and nothing fails it. -/
def State.startWork (s : State) (f n opcode : Nat) : State :=
  match s.nextWork f n with
  | none => s
  | some (i, b) =>
    if fieldAt b 0 1 ≠ opcode ∨ s.workFault f b ≠ 0 then s
    else
      let m := s.workMessage f b
      State.modQp { s with svc.reply := m } f n (fun x => { x with work := x.work ++ [{ ring := i, raw := b, retries := 0, sentAt := s.time.mono }] })

/-- RDMA_WRITE (R393). -/
def rdmaWrite (fn qp : Nat) (s : State) : State := s.startWork fn qp 1

/-- RDMA_READ (R393). -/
def rdmaRead (fn qp : Nat) (s : State) : State := s.startWork fn qp 2

/-- Write the status of a ring entry (Table 16.3). -/
def State.workStatus (s : State) (f n i status : Nat) : State := (s.writeV f ((s.qp f n).entryAddr i + 1) (leBytes 1 status)).2

/-- The entries from a ring count on, up to the write pointer, end with status 5. -/
def State.flushWork (s : State) (f n : Nat) : Nat → Nat → State
  | 0, _ => s
  | k + 1, i => State.flushWork (s.workStatus f n i 5) f n k ((i + 1) % 2 ^ 32)

/-- An entry fails (R394): its status, state 2, and status 5 for every later entry up to the write pointer; no signal is applied. -/
def State.failWork (s : State) (f n i status : Nat) : State :=
  let x := s.qp f n
  let k := (x.write + 2 ^ 32 - i) % 2 ^ 32
  let s1 := (s.workStatus f n i status).flushWork f n (k - 1) ((i + 1) % 2 ^ 32)
  (s1.modQp f n (fun x => { x with state := 2, work := [], read := x.write })).raiseSvc 2

/-- SIGNAL of a completed entry, applied to its handle as a release at scope CHIP (R394, R158): outside any context, so that an operation that is not admitted does nothing. -/
def State.workSignal (s : State) (f : Nat) (b : List Byte) : State :=
  let h := fieldAt b 0x1C 4
  let v := fieldAt b 0x20 8
  if !bit (fieldAt b 2 2) 0 ∨ 2 ^ 29 ≤ h then s
  else match handleChip h s.fab.chipId with
    | some chip => (s.sendSync f 0x10000 chip (handleObj h) 0 v 4 (.node (2 ^ 64)) false).2
    | none =>
      match s.syn.objs.get? (handleObj h) with
      | none => s
      | some x => if x.type.defines 0 && s.admitsFn x f then ((s.trace 4 0x09 17 0 0xFFFF 0 0 0 (handleObj h)).objOperate (handleObj h) x 0 v).2 else s

/-- RDMA_WORK_COMPLETE (R394): the oldest entry in flight completes: a WRITE when the peer has acknowledged every byte, a READ when its data, which are `data`, land. -/
def rdmaWorkComplete (fn qp : Nat) (data : List Byte) (s : State) : State :=
  let x := s.qp fn qp
  match x.work with
  | [] => s
  | w :: rest =>
    let done (s : State) : State :=
      ((s.workStatus fn qp w.ring 1).workSignal fn w.raw).modQp fn qp (fun x => { x with work := rest, read := (x.read + 1) % 2 ^ 32 })
    if x.state ≠ 1 then s
    else if fieldAt w.raw 0 1 = 1 then done s
    else if data.length ≠ fieldAt w.raw 4 4 then s
    else if s.workLocal fn w.raw ≠ 0 then s.failWork fn qp w.ring 4
    else done (s.writeV fn (fieldAt w.raw 8 8) data).2

/-- RDMA_WORK_FAIL (R394): status 2 a remote access NAK of the oldest entry in flight; 4 and 6 a fault of the next entry to start, which an unreadable ring also is, with 4. -/
def rdmaWorkFail (fn qp status : Nat) (s : State) : State :=
  let x := s.qp fn qp
  if x.state ≠ 1 then s
  else if status = 2 then
    (match x.work with
     | w :: _ => s.failWork fn qp w.ring 2
     | [] => s)
  else if x.work ≠ [] ∨ x.next = x.write then s
  else match s.nextWork fn qp with
    | some (i, b) => if s.workFault fn b = status ∧ status ≠ 0 then s.failWork fn qp i status else s
    | none => if status = 4 then s.failWork fn qp x.next 4 else s

/-- RDMA_ACK_TIMEOUT (R396, Table 16.2): the entries in flight are sent again, or the oldest one fails when its retries are used up. -/
def rdmaAckTimeout (fn qp : Nat) (s : State) : State :=
  let x := s.qp fn qp
  match x.work with
  | [] => s
  | w :: rest =>
    if x.state ≠ 1 ∨ s.time.mono < w.sentAt + x.timeoutNs then s
    else if w.retries < x.retries then
      s.modQp fn qp (fun x => { x with
        work := { w with retries := w.retries + 1, sentAt := s.time.mono } :: rest.map (fun r => { r with sentAt := s.time.mono }) })
    else s.failWork fn qp w.ring 3

/-- Rate of a QP now, in units of 1/256 of the full rate: it recovers linearly over 1 ms from the last CNP (R393). -/
def State.qpRate (s : State) (f n : Nat) : Nat :=
  let x := s.qp f n
  match x.cnpAt with
  | none => 256
  | some t => min 256 (x.rate + (256 - x.rate) * (s.time.mono - t) / 1000000)

/-- ROCE_CNP_RECEIVE (R393): the rate halves. -/
def roceCnpReceive (fn qp : Nat) (s : State) : State :=
  if 64 ≤ qp ∨ (s.qp fn qp).state ≠ 1 then s
  else
    let r := s.qpRate fn qp / 2
    s.modQp fn qp (fun x => { x with rate := r, cnpAt := some s.time.mono })

/-! The responder (R395, R396). -/

/-- A region of svc_region as 21 bytes: base, length, key and access (Table 16.7). -/
def State.regionAdmits (s : State) (f rkey addr len accessBit : Nat) : Bool :=
  (List.range 16).any (fun i =>
    let b := s.blob (E.svcRegion + i) f
    decide (b.length = 21) && decide (fieldAt b 16 4 = rkey) && decide (fieldAt b 0 8 ≤ addr ∧ addr + len ≤ fieldAt b 0 8 + fieldAt b 8 8) &&
      bit (fieldAt b 20 1) accessBit)

/-- A reply of the responder: 0 an ACK, otherwise a NAK with its code, in the syndrome of an AETH (log entry 45). -/
def State.roceReply (s : State) (nak : Option Nat) (data : List Byte) : State :=
  { s with svc.reply := (match nak with
      | none => leBytes 1 0
      | some c => leBytes 1 (0x60 + c)) ++ data }

/-- A NAK, which is counted (R395; log entry 45). -/
def State.roceNak (s : State) (f n code : Nat) : State := (s.addNum (E.svcFramesDropped + (s.qp f n).port % 2) 64).roceReply (some code) []

/-- ROCE_REMOTE_REQUEST (R393, R395, R396): op 1 RDMA WRITE, 2 RDMA READ; any other operation is answered with a NAK for an invalid request. Incoming writes land as other DMA writes, those
of one message before any of a later one. -/
def roceRemoteRequest (fn qp op addr rkey len : Nat) (data : List Byte) (s : State) : State :=
  let x := s.qp fn qp
  let n := if op = 1 then data.length else len
  let seen (s : State) : State := s.modQp fn qp (fun x => { x with epsn := (x.epsn + max 1 (ceilDiv n (max 1 x.mtu))) % 2 ^ 24 })
  if 64 ≤ qp ∨ !s.fnExists fn then s
  else if x.state ≠ 1 then s.roceNak fn qp 2
  else if op ≠ 1 ∧ op ≠ 2 then s.roceNak fn qp 1
  else if !s.regionAdmits fn rkey addr n (if op = 1 then 1 else 0) then s.roceNak fn qp 2
  else if op = 1 then
    (if s.checkV fn addr n .write ≠ 0 then s.roceNak fn qp 2 else seen ((s.writeV fn addr data).2.roceReply none []))
  else match s.readV fn addr n with
    | .bad _ => s.roceNak fn qp 2
    | .bytes d => seen (s.roceReply none d)

/-! Neighbours (R392). -/

/-- MAC address of a port: the entry, or the factory address. -/
def State.svcMacOf (s : State) (p : Nat) : List Byte := s.mgt.blob.getD ((E.svcMac + p) * 256) (Config.factoryMac p)

/-- Addresses of a port, 16 bytes each (Table 16.7). -/
def State.svcAddresses (s : State) (p : Nat) : List (List Byte) :=
  let b := s.blob (E.svcIp + p)
  (List.range (b.length / 16)).map (fun i => (b.drop (16 * i)).take 16)

/-- NEIGHBOUR_REQUEST (R392): a request for the port's own address is answered with its MAC; another frame is discarded and counted. -/
def neighbourRequest (port : Nat) (ip : List Byte) (s : State) : State :=
  if 2 ≤ port ∨ (s.port port).state ≠ 1 then s
  else if (s.svcAddresses port).contains ip then { s with svc.reply := ip ++ s.svcMacOf port }
  else s.addNum (E.svcFramesDropped + port) 64

/-! Priority flow control (R397). -/

/-- PFC_FRAME_RECEIVE: for each priority enabled in the frame, a pause or its end. A priority whose watchdog has fired ignores further pauses until its pause ends. -/
def pfcFrameReceive (port enable pause : Nat) (s : State) : State :=
  if 2 ≤ port ∨ (s.port port).state ≠ 1 then s
  else s.modPort port (fun x => (bitList 8 enable).foldl (fun x i =>
    if bit pause i then
      (if bit x.storm i ∨ bit x.paused i then x else { x with paused := setBit x.paused i, pausedAt := x.pausedAt.put i s.time.mono })
    else { x with paused := clrBit x.paused i, pausedAt := x.pausedAt.del i, storm := clrBit x.storm i }) x)

/-- PFC_WATCHDOG_EXPIRE: the priority has stayed paused for svc_pfc_watchdog. -/
def pfcWatchdogExpire (port priority : Nat) (s : State) : State :=
  let x := s.port port
  match x.pausedAt.get? priority with
  | none => s
  | some t =>
    if bit x.storm priority ∨ s.time.mono < t + s.num E.svcPfcWatchdog * 1000000 then s
    else (s.modPort port (fun x => { x with storm := setBit x.storm priority })).raiseSvc 3

/-- Priorities that QPs in state 1 use on a port. -/
def State.usedPriorities (s : State) (p : Nat) : List Nat :=
  (List.range 8).filter (fun i => s.svc.qps.any (fun e => decide (e.2.state = 1 ∧ e.2.port = p ∧ e.2.priority = i)))

/-- Allotment of a priority: 4 MiB without the 256 KiB of 1588 messages, divided equally among the priorities in use. -/
def State.allotment (s : State) (p : Nat) : Nat := (4194304 - 262144) / (s.usedPriorities p).length

/-- PFC_XOFF_SEND: `fill` is what the priority holds of the receive buffer. XOFF above 75 % of the allotment, XON below 50 %; the frame names the priority and whether it pauses. -/
def pfcXoffSend (port priority fill : Nat) (s : State) : State :=
  let x := s.port port
  if 2 ≤ port ∨ 8 ≤ priority ∨ x.state ≠ 1 ∨ !(s.usedPriorities port).contains priority then s
  else
    let a := s.allotment port
    let s1 := s.modPort port (fun x => { x with fill := x.fill.put priority fill })
    if 3 * a < 4 * fill ∧ !bit x.xoff priority then
      State.modPort { s1 with svc.reply := leBytes 1 priority ++ leBytes 1 1 } port (fun x => { x with xoff := setBit x.xoff priority })
    else if 2 * fill < a ∧ bit x.xoff priority then
      State.modPort { s1 with svc.reply := leBytes 1 priority ++ leBytes 1 0 } port (fun x => { x with xoff := clrBit x.xoff priority })
    else s1

/-! Links (R391, R396, R398). -/

/-- A port's link is gone: what the peer had paused is over, and a lock on a reference through the port drops (R398). -/
def State.portDown (s : State) (p state : Nat) : State :=
  let up := decide ((s.port p).state = 1)
  let s1 := s.modPort p (fun _ => { Port.initial with state := state })
  let s2 := if up && decide (s.num E.ptpSource = p + 1) then s1.ptpDrop else s1
  if up then s2.raiseSvc 0 else s2

/-- SVC_LINK_DOWN (R396): QPs stay in state 1. -/
def svcLinkDown (port : Nat) (s : State) : State :=
  if 2 ≤ port ∨ (s.port port).state ≠ 1 then s else s.portDown port 0

/-- SVC_LINK_UP (R391): at the speed of svc_speed; a disabled port stays down. -/
def svcLinkUp (port : Nat) (s : State) : State :=
  let v := s.num (E.svcSpeed + port)
  if 2 ≤ port ∨ (s.port port).state = 1 ∨ v = 0 ∨ s.sup.phase ≠ .ready then s
  else (s.modPort port (fun _ => { Port.initial with state := 1, speed := v })).raiseSvc 1

/-! The meanings. -/

/-- SVC_QP_DOORBELL (R393). -/
def execSvcQpDoorbell (fn : Nat) (qp : Nat) (value : Nat) (s : State) : Host.Outcome State Fault Refusal :=
  .next (s.inOrder fn (.regWrite fn (0x400 + 4 * qp) 4 value) (svcQpDoorbell fn qp value))
/-- SVC_QP_STATE_WRITE (R393). -/
def execSvcQpStateWrite (who : Origin) (fn : Nat) (qp : Nat) (bytes : List Byte) (s : State) : Host.Outcome State Fault Refusal :=
  .next (svcQpStateWrite who fn qp bytes s)
/-- RDMA_WRITE (R393). -/
def execRdmaWrite (fn : Nat) (qp : Nat) (s : State) : Host.Outcome State Fault Refusal :=
  .next (s.unit 17 (fn * 64 + qp) (rdmaWrite fn qp))
/-- RDMA_READ (R393). -/
def execRdmaRead (fn : Nat) (qp : Nat) (s : State) : Host.Outcome State Fault Refusal :=
  .next (s.unit 17 (fn * 64 + qp) (rdmaRead fn qp))
/-- RDMA_WORK_COMPLETE (R394). -/
def execRdmaWorkComplete (fn : Nat) (qp : Nat) (data : List Byte) (s : State) : Host.Outcome State Fault Refusal :=
  .next (s.unit 17 (fn * 64 + qp) (rdmaWorkComplete fn qp data))
/-- RDMA_WORK_FAIL (R394). -/
def execRdmaWorkFail (fn : Nat) (qp : Nat) (status : Nat) (s : State) : Host.Outcome State Fault Refusal :=
  .next (s.unit 17 (fn * 64 + qp) (rdmaWorkFail fn qp status))
/-- RDMA_ACK_TIMEOUT (R396). -/
def execRdmaAckTimeout (fn : Nat) (qp : Nat) (s : State) : Host.Outcome State Fault Refusal :=
  .next (s.unit 17 (fn * 64 + qp) (rdmaAckTimeout fn qp))
/-- ROCE_REMOTE_REQUEST (R395). -/
def execRoceRemoteRequest (fn : Nat) (qp : Nat) (op : Nat) (addr : Nat) (rkey : Nat) (len : Nat) (data : List Byte) (s : State) : Host.Outcome State Fault Refusal :=
  .next (s.unit 17 (fn * 64 + qp) (roceRemoteRequest fn qp op addr rkey len data))
/-- ROCE_CNP_RECEIVE (R393). -/
def execRoceCnpReceive (fn : Nat) (qp : Nat) (s : State) : Host.Outcome State Fault Refusal :=
  .next (roceCnpReceive fn qp s)
/-- NEIGHBOUR_REQUEST (R392). -/
def execNeighbourRequest (port : Nat) (ip : List Byte) (s : State) : Host.Outcome State Fault Refusal :=
  .next (neighbourRequest port ip s)
/-- PFC_FRAME_RECEIVE (R397). -/
def execPfcFrameReceive (port : Nat) (enable : Nat) (pause : Nat) (s : State) : Host.Outcome State Fault Refusal :=
  .next (pfcFrameReceive port enable pause s)
/-- PFC_XOFF_SEND (R397). -/
def execPfcXoffSend (port : Nat) (priority : Nat) (fill : Nat) (s : State) : Host.Outcome State Fault Refusal :=
  .next (pfcXoffSend port priority fill s)
/-- PFC_WATCHDOG_EXPIRE (R397). -/
def execPfcWatchdogExpire (port : Nat) (priority : Nat) (s : State) : Host.Outcome State Fault Refusal :=
  .next (pfcWatchdogExpire port priority s)
/-- SVC_LINK_DOWN (R396). -/
def execSvcLinkDown (port : Nat) (s : State) : Host.Outcome State Fault Refusal :=
  .next (svcLinkDown port s)
/-- SVC_LINK_UP (R391). -/
def execSvcLinkUp (port : Nat) (s : State) : Host.Outcome State Fault Refusal :=
  .next (svcLinkUp port s)

end Sys2Proof.Machine
end

