-- ==== Sys2Proof/Machine/Entries.lean ====
section
/-! DEFINITION. Machine/Entries.lean: what each dictionary entry reads, and what a write to it does (R13, R24, R25, R62, R101, R126, R239, R293, R345, R375, R390, R399, R412, R434,
R449, R464). -/

namespace Sys2Proof.Machine

/-! Reading (R416). -/

/-- Do numbers a, a+1, … n long hold an address? -/
def inList (base n a : Nat) : Bool := decide (base ≤ a) && decide (a < base + n)

/-- The cores that core_list shows a reader: a mailbox shows those of its function's partition (R25). -/
def State.coresFor (s : State) (w : Origin) : List Nat :=
  if w.iface = 3 then (s.coresOf (s.fnPart w.fn)) else List.range 384

/-- The plains that plain_list shows a reader. -/
def State.plainsFor (s : State) (w : Origin) : List Nat :=
  if w.iface = 3 then s.partPlains (s.fnPart w.fn) else List.range 16

/-- Configured partitions, ascending. -/
def State.livePartitions (s : State) : List Nat := (List.range 64).filter s.partLive

/-- Is an entry present for a reader and a target function (R24, R25, R345)? -/
def State.entryThere (s : State) (w : Origin) (a target : Nat) : Bool :=
  (entryInfo a).isSome &&
    (if a = E.parentUnit then !w.isVf
     else if a = E.bar2Base then decide (target = 0)
     else if inList E.coreList 384 a then decide (a - E.coreList < (s.coresFor w).length)
     else if inList E.plainList 16 a then decide (a - E.plainList < (s.plainsFor w).length)
     else if inList E.partitionList 64 a then decide (a - E.partitionList < s.livePartitions.length)
     else if inList E.tiedMemberList 4 a then decide (a - E.tiedMemberList < s.fab.tie.length)
     else if inList E.sliceMemberList 4096 a then decide (a - E.sliceMemberList < s.sliceIds.length)
     else true)

/-- newt_state (Table 4.19). -/
def State.newtStateOf (s : State) (n : Nat) : Nat :=
  let down (k : Nat) : Bool := s.nwt.failed.contains k
  let b := if n % 2 = 0 then n + 1 else n - 1
  if down n then (if down b ∨ s.channelFailed n ∨ s.channelFailed b then 4 else 2)
  else if s.nwt.gated.contains n then 1
  else if down b ∧ !s.channelFailed n ∧ !s.channelFailed b then 3 else 0

/-- stack_state (Table 3.6): the most erasures of a channel that has not failed. -/
def State.stackStateOf (s : State) (n : Nat) : Nat :=
  if bit s.stk.stackFailed n then 3
  else
    let l := (rangeFrom (32 * n) 32).map (fun c => if s.channelFailed c then 0 else (s.erasedOf c).length)
    min 2 (l.foldl max 0)

/-- Objects of a partition's range. -/
def State.objectsIn (s : State) (p : Nat) : List SynObj := (s.syn.objs.filter (fun e => s.inRange p e.1)).map Prod.snd

/-- fn_state (Table 13.8; 0 for a function that does not exist, R488). -/
def State.fnStateOf (s : State) (f : Nat) : Nat :=
  if !s.fnExists f then 0
  else match (s.fn f).gate with
    | .disabled => 0
    | .opened => 1
    | .draining => 2
    | .resetting => 3

/-- Code of an update state (Table 18.14). -/
def UpState.code : UpState → Nat
  | .idle => 0
  | .receiving => 1
  | .verifying => 2
  | .verified => 3
  | .failed => 4
  | .activated => 5
  | .trial => 6

/-- Sequence of the newest record of the log. -/
def State.logNewest (s : State) : Nat := (s.mgt.nextSeq + 2 ^ 32 - 1) % 2 ^ 32

/-- Sequence of the oldest record that the log holds. -/
def State.logOldest (s : State) : Nat := (s.mgt.log.map (fun r => r.seq)).headD s.logNewest

/-- Version that slot_versions shows of a slot: 0 for an empty one. -/
def Slot.shown (x : Slot) : Nat := if x.empty then 0 else x.version

/-- Values of the numeric entries of the memory, the newts and the cores that mirror the state. -/
def State.mirrorUnits (s : State) (a : Nat) : Option Nat :=
  if a = E.opPointCurrent then (if s.time.rampTarget.isSome then some 3 else none)
  else if inList E.rateLive 16 a then some (s.plainRate (a - E.rateLive))
  else if a = E.usableBytes then some (memSize - 3221225472 * ((List.range 640).filter s.channelFailed).length)
  else if inList E.stackState 20 a then some (s.stackStateOf (a - E.stackState))
  else if inList E.newtState 640 a then some (s.newtStateOf (a - E.newtState))
  else if a = E.newtsFailed then some s.nwt.failed.length
  else if inList E.coreEpoch 384 a then some (s.core (a - E.coreEpoch)).epoch
  else none

/-- Values of the entries of functions, the fabric, the optics and power that mirror the state. -/
def State.mirrorHost (s : State) (a target : Nat) : Option Nat :=
  if a = E.syncCreated then some (s.objectsIn target).length
  else if a = E.syncWaiters then some (sumNat ((s.objectsIn target).map (fun x => x.waiters.length)))
  else if a = E.syncErrorObjects then some ((s.objectsIn target).filter (fun x => !decide (x.code = 0))).length
  else if inList E.fnState 256 a then some (s.fnStateOf (a - E.fnState))
  else if a = E.reachableChips then some s.fab.reachable.length
  else if inList E.cgroupState 1024 a then some (s.groupState (a - E.cgroupState))
  else if inList E.laserEpoch 4 a then some (s.laser (a - E.laserEpoch)).epoch
  else if inList E.laserState 4 a then some (s.laser (a - E.laserState)).state
  else if inList E.laserService 4 a then some (b2n (s.laser (a - E.laserService)).service)
  else if inList E.laserHours 4 a then some ((s.laser (a - E.laserHours)).milliHours / 1000 % 2 ^ 32)
  else if inList E.laserLifeUsed 4 a then some (s.laser (a - E.laserLifeUsed)).lifeUsed
  else if inList E.oeState 8 a then some (s.oe (a - E.oeState)).state
  else if inList E.oeEpoch 8 a then some (s.oe (a - E.oeEpoch)).epoch
  else if a = E.modulePower then some s.pwr.windowW
  else if a = E.moduleEnergy then some s.pwr.energy
  else none

/-- Values of the management entries that mirror the state. -/
def State.mirrorMgt (s : State) (a : Nat) : Option Nat :=
  if inList E.sensorState 10 a then some (s.sensor (a - E.sensorState)).state
  else if a = E.firmwareVersion then some (s.mgt.slot s.mgt.running).version
  else if a = E.logNewest then some s.logNewest
  else if a = E.logOldest then some s.logOldest
  else if a = E.updateState then some s.mgt.upState.code
  else if a = E.updateResult then some s.mgt.upResult
  else none

/-- The value of a numeric entry as it reads. -/
def State.readNum (s : State) (a target : Nat) : Nat :=
  match s.mirrorUnits a with
  | some v => v
  | none => match s.mirrorHost a target with
    | some v => v
    | none => match s.mirrorMgt a with
      | some v => v
      | none => s.num a target

/-- own_unit (Table 1.5, R25): the partition of a function, whose chain ends there for a virtual function; out of band, the chip. -/
def State.ownUnit (s : State) (w : Origin) (f : Nat) : List Byte :=
  if w.iface = 1 then s.storedUnit E.chipUnit s.chipUnitNow 3
  else
    let p := s.fnPart f
    let l := s.storedUnit (E.partitionList + p) (s.partUnit p) 2
    if w.isVf then overlay l 8 (leBytes 4 0xFFFFFFFF) else l

/-- parent_unit: the chip above a partition; above the chip, its tied group, or else its slice. -/
def State.parentUnit (s : State) (w : Origin) : List Byte :=
  if w.iface ≠ 1 then s.storedUnit E.chipUnit s.chipUnitNow 3
  else if 1 < s.fab.tie.length then s.storedUnit E.tiedUnit s.tiedUnitNow 4
  else s.storedUnit E.sliceUnit s.sliceUnitNow 5

/-- vendor_name: Selnak Devices. -/
def vendorBytes : List Byte := [0x53, 0x65, 0x6C, 0x6E, 0x61, 0x6B, 0x20, 0x44, 0x65, 0x76, 0x69, 0x63, 0x65, 0x73]
/-- ordering_code: OXM20-96L (R1). -/
def orderingBytes : List Byte := [0x4F, 0x58, 0x4D, 0x32, 0x30, 0x2D, 0x39, 0x36, 0x4C]
/-- silicon_revision: B0 (R1). -/
def revisionBytes : List Byte := [0x42, 0x30]

/-- A record of the log as it reads: 64 bytes with its CRC-32C (Table 18.8). -/
def LogRec.bytes (r : LogRec) : List Byte :=
  let l := leBytes 2 r.type ++ leBytes 1 r.iface ++ leBytes 1 r.fn ++ leBytes 4 r.seq ++ leBytes 8 r.time ++ leBytes 2 r.index ++ leBytes 1 r.sub ++
    leBytes 1 r.flags ++ leBytes 2 r.target ++ leBytes 2 r.valueLen ++ r.old ++ r.new ++ leBytes 4 r.boot
  l ++ leBytes 4 (crc32c l)

/-- Records from a sequence number on, as many as a body of 4,080 bytes holds (R426). -/
def State.logFrom (s : State) (n : Nat) : List Byte :=
  ((s.mgt.log.filter (fun r => decide (n ≤ r.seq))).take 63).flatMap LogRec.bytes

/-- The value of a STRING or BLOB entry of the unit descriptors and lists, or none for the others. -/
def State.readUnits (s : State) (w : Origin) (a target : Nat) : Option (List Byte) :=
  if a = E.ownUnit then some (s.ownUnit w target)
  else if a = E.parentUnit then some (s.parentUnit w)
  else if a = E.chipUnit then some (s.storedUnit E.chipUnit s.chipUnitNow 3)
  else if a = E.tiedUnit then some (s.storedUnit E.tiedUnit s.tiedUnitNow 4)
  else if a = E.sliceUnit then some (s.storedUnit E.sliceUnit s.sliceUnitNow 5)
  else if inList E.coreList 384 a then some ((s.coreUnit ((s.coresFor w).getD (a - E.coreList) 0)).bytes 0)
  else if inList E.plainList 16 a then
    (let p := (s.plainsFor w).getD (a - E.plainList) 0
     some (if w.iface = 3 then (s.plainUnit p (s.slicesOf (s.fnPart w.fn))).bytes 1
       else s.storedUnit (E.plainList + p) (s.plainUnit p (rangeFrom (4 * p) 4)) 1))
  else if inList E.partitionList 64 a then
    (let p := s.livePartitions.getD (a - E.partitionList) 0
     some (s.storedUnit (E.partitionList + p) (s.partUnit p) 2))
  else if inList E.tiedMemberList 4 a then some (s.chipBytes (s.fab.tie.getD (a - E.tiedMemberList) 0))
  else if inList E.sliceMemberList 4096 a then some (s.chipBytes (s.sliceIds.getD (a - E.sliceMemberList) 0))
  else none

/-- The value of a STRING or BLOB entry. -/
def State.readBlob (s : State) (w : Origin) (a target : Nat) : List Byte :=
  match s.readUnits w a target with
  | some l => l
  | none =>
    if a = E.vendorName then vendorBytes
    else if a = E.orderingCode then orderingBytes
    else if a = E.siliconRevision then revisionBytes
    else if a = E.serialNumber then Config.serialNumber
    else if a = E.homeMap then (List.range 64).flatMap (fun b => leBytes 1 (s.homeMap (some target) b))
    else if inList E.partitionSlabs 64 a then (s.part (a - E.partitionSlabs)).slabs.flatMap (leBytes 2)
    else if a = E.passMap then (List.range 256).flatMap (fun v => leBytes 2 (s.fab.passMap.getD v 0))
    else if inList E.laserTelemetry 4 a then (s.laser (a - E.laserTelemetry)).telemetry
    else if inList E.svcMac 2 a then s.svcMacOf (a - E.svcMac)
    else if inList E.svcQp 64 a then s.qpBytes target (a - E.svcQp)
    else if inList E.jobRecord 256 a then s.jobRecord (a - E.jobRecord)
    else if a = E.slotVersions then leBytes 4 s.mgt.slotA.shown ++ leBytes 4 s.mgt.slotB.shown
    else if a = E.lastFault then (if (s.blob a).isEmpty then zeroBytes 32 else s.blob a)
    else s.blob a target

/-- The value of an entry as a READ returns it. -/
def State.readEntry (s : State) (w : Origin) (a target : Nat) : List Byte :=
  match entryInfo a with
  | none => []
  | some r => if r.type.width = 0 then s.readBlob w a target else leBytes r.type.width (s.readNum a target)

/-! The default and the longest value of an entry (R420). -/

/-- The default value of an entry as DESCRIBE returns it. -/
def defaultBytes (a target : Nat) : List Byte :=
  match entryInfo a with
  | none => []
  | some r =>
    if r.type.width ≠ 0 then leBytes r.type.width (entryDefault a target)
    else if a = E.vendorName then vendorBytes
    else if a = E.orderingCode then orderingBytes
    else if a = E.siliconRevision then revisionBytes
    else if a = E.serialNumber then Config.serialNumber
    else if inList E.svcMac 2 a then Config.factoryMac (a - E.svcMac)
    else if inList E.svcQp 64 a then zeroBytes 64
    else if inList E.jobRecord 256 a ∨ a = E.lastFault then zeroBytes 32
    else []

/-- The longest value of an entry: its type's width, or its own layout's (R415). -/
def entryMaxLen (a : Nat) : Nat :=
  match entryInfo a with
  | none => 0
  | some r =>
    if r.type.width ≠ 0 then r.type.width
    else if r.type = .string then 255
    else if a = E.sliceMembers then 8196
    else if (0x101000 ≤ a ∧ a < 0x101500) ∨ (0x110000 ≤ a ∧ a < 0x115000) ∨ a = E.homeMap ∨ inList E.svcQp 64 a ∨ inList E.svcIp 2 a then 64
    else if inList E.partitionSlabs 64 a then 1920
    else if a = E.fabTie ∨ a = E.slotVersions then 8
    else if a = E.passMap then 512
    else if inList E.fabBind 256 a ∨ a = E.logAppend then 16
    else if inList E.fabCgroup 1024 a then 8200
    else if inList E.svcMac 2 a then 6
    else if inList E.svcRegion 16 a then 21
    else if inList E.jobRecord 256 a ∨ a = E.lastFault then 32
    else if a = E.updateImage then imageLimit
    else 1048576

/-! Checks of a write by the entry's own rule: 0, 4 for the value or 5 for the state (Table 18.4). -/

/-- 0 when a condition holds, else a status. -/
def okOr (c : Bool) (status : Nat) : Nat := if c then 0 else status

/-- The first status that is not 0. -/
def firstBad : List Nat → Nat
  | [] => 0
  | a :: t => if a = 0 then firstBad t else a

/-- Does a queue accept a change of its ring or save area (R293)? -/
def State.queueStill (s : State) (f q : Nat) : Bool :=
  match (s.q (16 * f + q)).state with
  | .disabled | .idle | .killed => true
  | _ => false

/-- queue_ring: 0, or a base and k of 6 to 12 with every other bit zero (Table 11.15). -/
def ringValueOk (v kmin kmax kbits : Nat) : Bool :=
  decide (v = 0) || (decide (kmin ≤ v % 2 ^ kbits ∧ v % 2 ^ kbits ≤ kmax) && decide (v % 4096 = v % 2 ^ kbits) && decide (v < 2 ^ 57))

/-- Ids of a list of two bytes each. -/
def idsOf (b : List Byte) (off : Nat) : List Nat := (List.range ((b.length - off) / 2)).map (fun i => fieldAt b (off + 2 * i) 2)

/-- Does a list of numbers rise strictly? -/
def risesOk : List Nat → Bool
  | a :: b :: t => decide (a < b) && risesOk (b :: t)
  | _ => true

/-- fab_tie: empty, or 2 to 4 chip ids, ascending (R370). -/
def tieValueOk (b : List Byte) : Bool :=
  b.isEmpty || (decide (b.length = 4 ∨ b.length = 6 ∨ b.length = 8) && risesOk (idsOf b 0) && (idsOf b 0).all (fun c => decide (c ≤ 4095)))

/-- A binding: empty, or the layout of Table 14.4. -/
def bindValueOk (b : List Byte) : Bool :=
  b.isEmpty || (decide (b.length = 16) && decide (fieldAt b 3 1 < 64) && decide (ofLe (b.drop 4) = 0) && (!bit (fieldAt b 3 1) 0 || !decide (fieldAt b 0 2 = 0)))

/-- Does another binding hold the key of a valid one (Table 14.14)? -/
def State.bindTwice (s : State) (n : Nat) (b : List Byte) : Bool :=
  bit (fieldAt b 3 1) 0 && (List.range 256).any (fun i =>
    let c := s.blob (E.fabBind + i)
    !decide (i = n) && bit (fieldAt c 3 1) 0 && decide (fieldAt c 0 2 = fieldAt b 0 2))

/-- A collective group: empty, or the layout of Table 14.6 with no chip twice. -/
def groupValueOk (b : List Byte) : Bool :=
  let n := fieldAt b 2 2
  b.isEmpty || (decide (b.length = 8 + 2 * n) && decide (2 ≤ n ∧ n ≤ 4096) && decide (fieldAt b 4 2 < n) && decide (fieldAt b 6 2 = 0) &&
    (idsOf b 8).all (fun c => decide (c ≤ 4095)) && decide ((setUnion (idsOf b 8) []).length = n))

/-- Is a key used by another region of a function (Table 16.7)? -/
def State.regionTwice (s : State) (f n : Nat) (b : List Byte) : Bool :=
  !b.isEmpty && (List.range 16).any (fun i =>
    let c := s.blob (E.svcRegion + i) f
    !decide (i = n) && !c.isEmpty && decide (fieldAt c 16 4 = fieldAt b 16 4))

/-- Does a trace buffer accept a change of its entries (R449)? -/
def State.trcStill (s : State) (b : Nat) : Bool := decide ((s.trc b).state = .disabled ∨ (s.trc b).state = .stopped)

/-- Checks of the entries of chapters 2 to 12. -/
def State.checkUnits (s : State) (a f v : Nat) : Option Nat :=
  if a = E.ptpSource then some (okOr (decide (v ≤ 2)) 4)
  else if a = E.scrubPeriod then some (okOr (decide (1 ≤ v ∧ v ≤ 168)) 4)
  else if a = E.newtIdleGate then some (okOr (decide (v ≤ 100000)) 4)
  else if a = E.gbarWatchdog then some (okOr (decide (10 ≤ v ∧ v ≤ 1000000)) 4)
  else if a = E.replication then some (okOr (decide (v ≤ 2)) 4)
  else if inList E.queueRing 16 a then some (firstBad [okOr (ringValueOk v 6 12 4) 4, okOr (s.queueStill f (a - E.queueRing)) 5])
  else if inList E.queueTimeout 16 a then some (okOr (decide (10 ≤ v)) 4)
  else if inList E.queueVectors 16 a then
    some (okOr (decide (v = v % 64 + bits v 13 8 * 256) && decide (v % 64 < vectorsOf f) && decide (bits v 13 8 < vectorsOf f)) 4)
  else if inList E.queueSaveBase 16 a then some (firstBad [okOr (decide (v % 4096 = 0)) 4, okOr (s.queueStill f (a - E.queueSaveBase)) 5])
  else if inList E.queueSaveBytes 16 a then some (okOr (s.queueStill f (a - E.queueSaveBytes)) 5)
  else none

/-- Checks of the entries of chapter 13. -/
def State.checkHost (s : State) (a f v : Nat) : Option Nat :=
  let shut := decide ((s.fn f).gate = .disabled ∨ (s.fn f).gate = .resetting)
  if inList E.partitionMemWeight 64 a then some (okOr (decide (1 ≤ v ∧ v ≤ 1000)) 4)
  else if inList E.partitionShareMode 64 a then some (okOr (decide (v ≤ 1)) 4)
  else if inList E.partitionSlice 64 a then some (okOr (decide (100 ≤ v ∧ v ≤ 1000000)) 4)
  else if inList E.qosDispatch 1024 a then some (okOr (decide (1 ≤ v ∧ v ≤ 1000)) 4)
  else if a = E.fnPasid then some (firstBad [okOr (decide (v < 2 ^ 20)) 4, okOr shut 5])
  else if a = E.fnPtRoot then some (firstBad [okOr (decide (v % 4096 = 0)) 4, okOr shut 5])
  else if a = E.bar2Base then some (okOr (decide (v % 2 ^ s.hif.bar2Log = 0)) 4)
  else if inList E.vectorModeration 64 a then some (okOr (decide (v ≤ 1000)) 4)
  else if a = E.fnFabKey then some (okOr shut 5)
  else none

/-- Checks of the numeric entries of chapters 14 to 17. -/
def netCheck (a v : Nat) : Option Nat :=
  if a = E.fabChipId then some (okOr (decide (v ≤ 4095 ∨ v = 0xFFFF)) 4)
  else if a = E.fabRouteMode then some (okOr (decide (v ≤ 2)) 4)
  else if a = E.fabValiantBias then some (okOr (decide (100 ≤ v ∧ v ≤ 1000)) 4)
  else if inList E.fabPort 32 a then some (okOr (decide (v ≤ 31 ∨ v = 0xFF)) 4)
  else if inList E.svcSpeed 2 a then some (okOr ([0, 100, 200, 400, 800].contains v) 4)
  else if a = E.svcPfcWatchdog then some (okOr (decide (10 ≤ v ∧ v ≤ 10000)) 4)
  else if a = E.svcPtpDomain then some (okOr (decide (v ≤ 127)) 4)
  else if a = E.svcPtpProfile then some (okOr (decide (v ≤ 1)) 4)
  else if a = E.pwrCap then some (okOr (decide (1200 ≤ v ∧ v ≤ 2800)) 4)
  else if a = E.pwrCapWindow then some (okOr (decide (1 ≤ v ∧ v ≤ 30)) 4)
  else if a = E.pwrAdmitFloor ∨ a = E.pwrDroopAdmit then some (okOr (decide (1 ≤ v ∧ v ≤ 64)) 4)
  else if a = E.pwrDroopThreshold then some (okOr (decide (15 ≤ v ∧ v ≤ 80)) 4)
  else if a = E.pwrTjLimit then some (okOr (decide (80 ≤ v ∧ v ≤ 100)) 4)
  else if a = E.pwrDramLimit then some (okOr (decide (86 ≤ v ∧ v ≤ 95)) 4)
  else none

/-- A critical threshold inside the warning threshold: below it, or above it for a sensor whose alarm is a fall (Table 18.14). Sensor 9 has no warning threshold. -/
def State.critInside (s : State) (n v : Nat) : Bool :=
  let w := s.num (E.sensorWarn + n)
  if n = 9 then false
  else if sensorFalls n then decide (f32Scaled w < f32Scaled v)
  else decide (f32Scaled v < f32Scaled w)

/-- Checks of the entries of chapters 18 and 19. -/
def State.checkMgt (s : State) (a v : Nat) : Option Nat :=
  let still (base : Nat) : Nat := okOr (s.trcStill (a - base)) 5
  if inList E.sensorCrit 10 a then some (okOr (!s.critInside (a - E.sensorCrit) v) 4)
  else if inList E.trcOwner 16 a then some (firstBad [okOr (decide (v ≤ 255 ∨ v = 0xFFFF)) 4, still E.trcOwner])
  else if inList E.trcRing 16 a then some (firstBad [okOr (ringValueOk v 10 24 5) 4, still E.trcRing])
  else if inList E.trcMode 16 a then some (firstBad [okOr (decide (v ≤ 2)) 4, still E.trcMode])
  else if inList E.trcSources 16 a then some (firstBad [okOr (decide (v < 128)) 4, still E.trcSources])
  else if inList E.trcFilterQueue 16 a then some (firstBad [okOr (decide (v ≤ 4095 ∨ v = 0xFFFF)) 4, still E.trcFilterQueue])
  else if inList E.trcCentre 16 a then
    some (firstBad [okOr (decide (v % 2 ^ 32 + v / 2 ^ 32 ≤ 2 ^ (s.num (E.trcRing + (a - E.trcCentre)) % 32))) 4, still E.trcCentre])
  else if inList E.trcTrigger 16 a then some (still E.trcTrigger)
  else if inList E.trcVector 16 a then
    (let o := s.num (E.trcOwner + (a - E.trcVector))
     some (firstBad [okOr (decide (v < (if o ≤ 255 then vectorsOf o else 64))) 4, still E.trcVector]))
  else if a = E.cntLayerEntries then some (okOr ((rangeFrom 6 15).any (fun k => decide (v = 2 ^ k))) 4)
  else if a = E.cntFlushUs then some (okOr (decide (10 ≤ v ∧ v ≤ 1000000)) 4)
  else none

/-- The status of a numeric write by the entry's own rule. -/
def State.checkNum (s : State) (a target v : Nat) : Nat :=
  match s.checkUnits a target v with
  | some x => x
  | none => match s.checkHost a target v with
    | some x => x
    | none => match netCheck a v with
      | some x => x
      | none => (s.checkMgt a v).getD 0

/-- The status of a BLOB write by the entry's own rule. -/
def State.checkBlob (s : State) (a target : Nat) (b : List Byte) : Nat :=
  if a = E.fabTie then okOr (tieValueOk b) 4
  else if inList E.fabBind 256 a then firstBad [okOr (bindValueOk b) 4, okOr (!s.bindTwice (a - E.fabBind) b) 5]
  else if inList E.fabCgroup 1024 a then firstBad [okOr (groupValueOk b) 4, okOr (!s.fab.colls.has (a - E.fabCgroup)) 5]
  else if inList E.svcMac 2 a then okOr (decide (b.length = 6)) 4
  else if inList E.svcIp 2 a then okOr (decide (b.length % 16 = 0 ∧ b.length ≤ 64)) 4
  else if inList E.svcRegion 16 a then
    firstBad [okOr (b.isEmpty || (decide (b.length = 21) && decide (fieldAt b 20 1 < 4))) 4, okOr (!s.regionTwice target (a - E.svcRegion) b) 5]
  else 0

/-! Effects beside the value. -/

/-- link_enable (Table 14.14): 0 takes the link down and holds it in state 4, 1 lets it train. -/
def State.enableLink (s : State) (l v : Nat) : State :=
  if v = 0 then
    (if (s.link l).state = 0 then (s.modLink l (fun x => { x with state := 4 })).traceLink l 4 0xFFFF else s.dropLink l)
  else if (s.link l).state = 4 then (s.modLink l (fun x => { x with state := 0 })).traceLink l 0 0xFFFF
  else s

/-- fab_port (R350): a port that breaks the rule is held, and the others are numbered anew. -/
def State.namePort (s : State) (l : Nat) : State :=
  let p := s.num (E.fabPort + l)
  if ((s.link l).state = 2 ∨ (s.link l).state = 3) ∧ s.portBad p then s.holdPort p l else s.setPorts

/-- svc_speed (R391, R398): a change of speed takes the link down; speed 0 disables the port. -/
def State.setSpeed (s : State) (p old v : Nat) : State :=
  let st := if v = 0 then 2 else 0
  if v = old then s
  else if (s.port p).state = 1 then s.portDown p st
  else s.modPort p (fun x => { x with state := st })

/-- What an accepted numeric write does beside setting the value. -/
def State.effectNum (s : State) (a old v : Nat) : State :=
  if a = E.ptpSource then (if v = old then s else s.ptpDrop)
  else if inList E.partitionShareMode 64 a then
    (if v = 0 then (s.boundFns (a - E.partitionShareMode)).foldl State.resumeSlice s else s)
  else if inList E.linkEnable 32 a then s.enableLink (a - E.linkEnable) v
  else if inList E.fabPort 32 a then s.namePort (a - E.fabPort)
  else if inList E.svcSpeed 2 a then s.setSpeed (a - E.svcSpeed) old v
  else s

/-- Write a numeric entry that has no row of its own. -/
def State.plainNum (s : State) (w : Origin) (a target v : Nat) : State :=
  let st := s.checkNum a target v
  if st ≠ 0 then s.answer st
  else
    let s1 := (s.dictNum w a target v).effectNum a (s.num a target) v
    if a = E.pwrDroopAdmit then s1.traceAdmit s else s1

/-- Write a BLOB entry that has no row of its own. A new group is not aborted any more. -/
def State.plainBlob (s : State) (w : Origin) (a target : Nat) (b : List Byte) : State :=
  let st := s.checkBlob a target b
  if st ≠ 0 then s.answer st
  else
    let s1 := (s.setBlob a b target).dictLogged w a target (s.readBlob w a target) b
    if inList E.fabCgroup 1024 a then s1.setNum (E.cgroupState + (a - E.fabCgroup)) 0 else s1

/-- Write an RWC entry: it takes its default, whatever value is written (R13). -/
def State.clearEntry (s : State) (w : Origin) (a target : Nat) : State := s.dictNum w a target (entryDefault a target)

/-! SLICE_MEMBERS_WRITE (R27). -/

/-- SLICE_MEMBERS_WRITE (R27): empty, or a slice id and up to 4,096 chip ids; the slice descriptor forms from the members' chip descriptors. -/
def sliceMembersWrite (who : Origin) (bytes : List Byte) (s : State) : State :=
  let st := s.deviceCheck who E.sliceMembers
  let ok := bytes.isEmpty ||
    (decide (4 ≤ bytes.length ∧ bytes.length ≤ 8196) && decide (bytes.length % 2 = 0) && (idsOf bytes 4).all (fun c => decide (c ≤ 4095)))
  if st ≠ 0 then s.answer st
  else if !ok then s.answer 4
  else
    let s1 := s.setBlob E.sliceMembers bytes
    (s1.setBlob E.sliceUnit (s1.sliceUnitNow.bytes 5)).dictLogged who E.sliceMembers 0 (s.blob E.sliceMembers) bytes

/-! Entries whose write has a row of its own. -/

/-- Does the boot ROM accept a slot (R430, R432)? The image installed at manufacture passes. -/
def State.slotVerifies (s : State) (n : Nat) : Bool :=
  let x := s.mgt.slot n
  !x.empty && (x.image.isEmpty || decide (s.imageResult x.image = 0))

/-- A WO trigger written with 0: accepted and logged, with no effect. -/
def State.idleTrigger (s : State) (w : Origin) (a : Nat) : State := s.triggerWrite w a 0 0 id

/-- update_control (Table 18.12): a value that is no step is rejected. -/
def State.updateStep (s : State) (w : Origin) (v : Nat) : State :=
  match v with
  | 1 => updateBegin w s
  | 2 => updateVerify w s
  | 3 => updateActivate w s
  | 4 => updateCommit w s
  | 5 => updateAbort w s
  | _ => s.answer 4

/-- A numeric write whose entry has a row of its own, by the row's operation. -/
def State.rowNum (s : State) (w : Origin) (a target v : Nat) : Option State :=
  if a = E.opPointRequest then some (opPointRequest w v s)
  else if inList E.rowMode 48 a then some (rowModeWrite w (a - E.rowMode) v s)
  else if inList E.slabOwner 960 a then some (s.writeSlab w (a - E.slabOwner) v)
  else if a = E.scratchKib then some (scratchKibWrite w target v s)
  else if inList E.queueEnable 16 a then
    some (if v = 1 then queueEnable w (16 * target + (a - E.queueEnable)) s else queueDisable w (16 * target + (a - E.queueEnable)) s)
  else if inList E.syncRange 64 a then some (syncRangeWrite w (a - E.syncRange) v s)
  else if inList E.partitionQmask 64 a then some (partitionQmaskWrite w (a - E.partitionQmask) v s)
  else if inList E.partitionReset 64 a then some (if v = 1 then partitionReset w (a - E.partitionReset) s else s.idleTrigger w a)
  else if inList E.fnPartition 256 a then some (fnPartitionWrite w (a - E.fnPartition) v s)
  else if inList E.fnEnable 256 a then some (if v = 1 then fnEnable w (a - E.fnEnable) s else fnDisable w (a - E.fnEnable) s)
  else if inList E.fnReset 256 a then
    some (if v = 1 then flr w (a - E.fnReset) s else s.idleTrigger w a)
  else if inList E.laserService 4 a then
    some (if v = 1 then laserService w (a - E.laserService) s
      else (s.modLaser (a - E.laserService) (fun x => { x with service := false })).dictLogged w a 0 (leBytes 1 (s.readNum a 0)) (leBytes 1 0))
  else if inList E.laserRecalibrate 4 a then some (if v = 1 then laserRecalibrate w (a - E.laserRecalibrate) s else s.idleTrigger w a)
  else if a = E.pwrJobRelease then some (pwrJobRelease w v s)
  else if a = E.deviceReset then some (deviceReset w v (s.slotVerifies 0) (s.slotVerifies 1) s)
  else if a = E.tiedReset then some (tiedReset w v (s.fab.tie.all (fun c => decide (c = s.fab.chipId) || s.reaches c)) s)
  else if a = E.updateControl then some (s.updateStep w v)
  else if a = E.debugKill then some (debugKill w v s)
  else if a = E.cntLayerBase then some (cntLayerBaseWrite w target v s)
  else none

/-- A BLOB write whose entry has a row of its own. -/
def State.rowBlob (s : State) (w : Origin) (a target : Nat) (b : List Byte) : Option State :=
  if a = E.sliceMembers then some (sliceMembersWrite w b s)
  else if inList E.svcQp 64 a then some (svcQpStateWrite w target (a - E.svcQp) b s)
  else if a = E.logAppend then some (logAppend w b s)
  else none

/-- Does a value's encoding fit a numeric type (R415)? -/
def EType.encodes (t : EType) (v : Nat) : Bool :=
  match t with
  | .bool => decide (v ≤ 1)
  | .f32 => !f32Nan v
  | _ => true

/-- Write a whole value to an entry that is present and in reach: length, encoding, the entry's own rule, and the effect (R13, R415, R416). -/
def State.writeEntry (s : State) (w : Origin) (a target : Nat) (bytes : List Byte) : State :=
  match entryInfo a with
  | none => s.answer 1
  | some r =>
    if r.access = .ro then s.answer 2
    else if (r.type.width ≠ 0 ∧ bytes.length ≠ r.type.width) ∨ entryMaxLen a < bytes.length then s.answer 4
    else if r.access = .rwc then s.clearEntry w a target
    else if r.type.width ≠ 0 then
      (let v := ofLe bytes
       if !EType.encodes r.type v then s.answer 4
       else (s.rowNum w a target v).getD (s.plainNum w a target v))
    else (s.rowBlob w a target bytes).getD (s.plainBlob w a target bytes)

/-! The meanings. -/

/-- SLICE_MEMBERS_WRITE (R27). -/
def execSliceMembersWrite (who : Origin) (bytes : List Byte) (s : State) : Host.Outcome State Fault Refusal :=
  .next (sliceMembersWrite who bytes s)

end Sys2Proof.Machine
end

