-- ==== Sys2Proof/Machine/HostIf.lean ====
section
/-! DEFINITION. Machine/HostIf.lean: the BAR2 windows, MSI-X, bus mastering and power states, invalidations of translations, the PCIe link, and attestation (chapter 13, R315 to R325, R334 to
R344). -/

namespace Sys2Proof.Machine

/-! BAR2 (R318 to R320, R337). -/

/-- How a function's memory BARs answer. -/
inductive BarState
  | silent   -- no completion: the link is down or the controller is held
  | ones     -- a device reset runs: reads return all ones, writes are discarded (R469)
  | closed   -- not decoded: Unsupported Request
  | opened
deriving DecidableEq, Repr

/-- The answer of a function's BARs now (R316, R469). A function in D3hot decodes none, as PCIe defines (log entry 7). -/
def State.barState (s : State) (f : Nat) : BarState :=
  if !s.hif.linkUp || s.sup.perst then .silent
  else if s.sup.devResetRunning then .ones
  else if s.sup.phase ≠ .ready ∨ !s.fnExists f ∨ (f ≠ 0 ∧ !s.hif.vfMse) ∨ (s.fn f).d3hot then .closed
  else .opened

/-- Device physical address of a BAR2 access, when all of it lies inside the window, the installed memory and the partition view (R318, R319). -/
def State.bar2At (s : State) (f off n : Nat) : Option Nat :=
  if f = 0 then
    let pa := s.num E.bar2Base + off
    if off + n ≤ 2 ^ s.hif.bar2Log ∧ pa + n ≤ memSize then some pa else none
  else if off + n ≤ 2 ^ s.hif.vfBar2Log then
    match s.viewAddr (s.fnPart f) off, s.viewAddr (s.fnPart f) (off + n - 1) with
    | some a, some _ => some a
    | _, _ => none
  else none

/-- Return a completion to the host: 0 successful, 1 Unsupported Request, 2 poisoned, which carries no data, 3 none for a Malformed TLP. -/
def State.complete (s : State) (status : Nat) (data : List Byte) : State :=
  { s with hif.cpl := some { status := status, data := data } }

/-- The plain that a steering tag names, if the function's partition has a slice there (R225). -/
def State.steeredTo (s : State) (fn : Nat) (tag : Option Nat) : Option Nat :=
  match tag with
  | some t => if t < 16 ∧ (s.slicesOf (s.fnPart fn)).any (fun x => decide (x / 4 = t)) then some t else none
  | none => none

/-- A host write lands: steered, at the home with a replica; otherwise at the banks (Table 9.6). -/
def State.hostLand (s : State) (fn pa : Nat) (data : List Byte) (tag : Option Nat) : State :=
  match s.steeredTo fn tag with
  | some p => (linesOf pa data.length).foldl (fun s l => s.installReplica p l) (s.allocWrite (data.length / 128 + 2) pa data)
  | none => s.agentWrite pa data

/-- HOST_WRITE_BAR2 (R224, R225, R259, R318, R319, R337). With the domain lost it is refused (R237). -/
def hostWriteBar2 (fn off : Nat) (data : List Byte) (tag : Option Nat) (s : State) : State :=
  match s.barState fn with
  | .opened =>
    (match s.bar2At fn off data.length with
     | none => s.raiseHif 1
     | some pa =>
       if (s.fn fn).gate = .resetting then s.raiseHif 4
       else if s.l2.domainLost then s
       else s.hostLand fn pa data tag)
  | _ => s

/-- HOST_READ_BAR2 (R224, R318, R319, R337, Table 3.3). `chk` is what the check of a home's arrays finds in the line of its first byte. -/
def hostReadBar2 (fn off len : Nat) (chk : L2Check) (s : State) : State :=
  match s.barState fn with
  | .silent => s
  | .ones => s.complete 0 (List.replicate len 0xFF#8)
  | .closed => s.complete 1 []
  | .opened =>
    match s.bar2At fn off len with
    | none => (s.raiseHif 1).complete 1 []
    | some pa =>
      if (s.fn fn).gate = .resetting then (s.raiseHif 4).complete 1 []
      else if s.l2.domainLost then s.complete 1 []
      else
        let t := (s.checkLine (pa / 128) chk).lookAt pa len
        match (granulesOf pa len).find? t.pocGranulePoison with
        | some g => ((t.raiseHif 0).consumePoison (16 * g)).complete 2 []
        | none => t.complete 0 (t.pocRead pa len)

/-- The operation of Table 4.10 that a PCIe AtomicOp performs (R320): 0 FetchAdd, 1 Swap, 2 CAS. -/
def pcieAtom (kind : Nat) : Nat := if kind = 0 then 0 else if kind = 1 then 11 else 12

/-- HOST_ATOMICOP (R320, R337): a home atomic. -/
def hostAtomicop (fn off kind bytes operand compare : Nat) (chk : L2Check) (s : State) : State :=
  match s.barState fn with
  | .silent => s
  | .ones => s.complete 0 (List.replicate bytes 0xFF#8)
  | .closed => s.complete 1 []
  | .opened =>
    if bytes ≠ 4 ∧ bytes ≠ 8 then s.complete 1 []
    else if off % bytes ≠ 0 then s.complete 3 []
    else match s.bar2At fn off bytes with
      | none => (s.raiseHif 1).complete 1 []
      | some pa =>
        if (s.fn fn).gate = .resetting then (s.raiseHif 4).complete 1 []
        else if s.l2.domainLost then s.complete 1 []
        else
          let t := s.checkLine (pa / 128) chk
          match t.homeAtom (pcieAtom kind) bytes pa operand compare with
          | .old v u => u.complete 0 (leBytes bytes v)
          | .poison => ((t.raiseHif 0).consumePoison pa).complete 2 []
          | .nack => { s with l2.refused := some (pa / 128) }

/-- NON_ALLOCATING_WRITE (R89, R222, R223): every copy of each line is invalidated, home data merged, and then the bytes land at the banks. Writes of a function whose gate is
shut are dropped (Table 13.8, R232). -/
def nonAllocatingWrite (fn pa : Nat) (data : List Byte) (s : State) : State :=
  if memSize < pa + data.length ∨ s.l2.domainLost then s
  else if (s.fn fn).gate ≠ .opened ∧ (s.fn fn).gate ≠ .draining then s.discardStale.raiseHif 4
  else s.agentWrite pa data

/-! MSI-X (R334, R335, Table 13.8). -/

/-- May a function send messages at all: enabled, not masked as a whole, a bus master, in D0? -/
def FnSt.maySend (x : FnSt) : Bool := x.msixEnable && !x.fnMask && x.busMaster && !x.d3hot

/-- Has the moderation interval of a vector passed? -/
def State.moderated (s : State) (f v : Nat) : Bool :=
  match (s.vec f v).lastAt with
  | some t => decide (t + s.num (E.vectorModeration + v) f * 1000 ≤ s.time.mono)
  | none => true

/-- Send the message that is due on a vector, with every event that fell due since the last one (R335): the gate lets it out or drops it, and a message that may not be sent sets the pending
bit. Within the moderation interval, and with the link down, it waits. -/
def State.sendVec (s : State) (f v : Nat) : State :=
  let x := s.vec f v
  let g := (s.fn f).gate
  if vectorsOf f ≤ v ∨ (!x.due ∧ !x.pending) then s
  else if g = .disabled ∨ g = .resetting then s.modVec f v (fun x => { x with due := false, pending := false })
  else if !(s.fn f).maySend || x.masked then s.modVec f v (fun x => { x with due := false, pending := true })
  else if !s.hif.linkUp ∨ !s.moderated f v then s
  else (s.hostWrite x.addr (leBytes 4 x.data)).modVec f v (fun x =>
    { x with due := false, pending := false, sent := x.sent + 1, lastAt := some s.time.mono })

/-- MSIX_SEND (R335). -/
def msixSend (fn vector : Nat) (s : State) : State := s.sendVec fn vector

/-- MSIX_MODERATION_EXPIRE (R335): the interval that a sent message began has ended. -/
def msixModerationExpire (fn vector : Nat) (s : State) : State :=
  if (s.vec fn vector).lastAt.isSome ∧ s.moderated fn vector then s.sendVec fn vector else s

/-- Send what the pending bits of a function hold. -/
def State.sendPending (s : State) (f : Nat) : State :=
  (List.range (vectorsOf f)).foldl (fun s v => if (s.vec f v).pending then s.sendVec f v else s) s

/-- MSIX_UNMASK (R335): the host sets MSI-X Enable, clears the Function Mask and unmasks the vector (log entry 42). -/
def msixUnmask (fn vector : Nat) (s : State) : State :=
  if !s.configLive ∨ !s.fnExists fn ∨ vectorsOf fn ≤ vector then s
  else ((s.modFn fn (fun x => { x with msixEnable := true, fnMask := false })).modVec fn vector (fun x => { x with masked := false })).sendPending fn

/-- BUS_MASTER_ENABLE_SET (R324, R335): the requests that were held may go. `atomic` and `ats` are the AtomicOp Requester Enable and the ATS Enable that the host has set (log entry 42). -/
def busMasterEnableSet (fn : Nat) (atomic ats : Bool) (s : State) : State :=
  if !s.configLive ∨ !s.fnExists fn then s
  else (s.modFn fn (fun x => { x with busMaster := true, atomicReq := atomic, atsEnabled := ats })).sendPending fn

/-- D0_ENTRY (R335, R341). -/
def d0Entry (fn : Nat) (s : State) : State :=
  if !s.configLive ∨ !s.fnExists fn ∨ !(s.fn fn).d3hot then s else (s.modFn fn (fun x => { x with d3hot := false })).sendPending fn

/-- BAR2_RESIZE (R318, Table 13.1): F0's 64 GiB to 2 TiB, the virtual functions' 2 GiB to 2 TiB. -/
def bar2Resize (vf : Bool) (sizeLog : Nat) (s : State) : State :=
  if !s.configLive ∨ 41 < sizeLog then s
  else if vf then (if sizeLog < 31 then s else { s with hif.vfBar2Log := sizeLog })
  else if sizeLog < 36 then s
  else State.setNum { s with hif.bar2Log := sizeLog } E.bar2Base (alignDown (s.num E.bar2Base) (2 ^ sizeLog))

/-! Invalidations (R325, Tables 13.14 to 13.16). -/

/-- Does an access piece lie in a range of pages? -/
def Acc.inPages (x : Acc) (page n : Nat) : Bool := decide (page ≤ x.va / 2 ^ 16 ∧ (x.va + x.off) / 2 ^ 16 < page + n)

/-- Accesses of a function that are not yet performed and may have used a translation of a range of pages (log entry 43). -/
def State.accessesIn (s : State) (f page n : Nat) : List (Nat × Nat) :=
  ((s.l2.loads.filter (fun e => decide (fnOfQueue e.2.queue = f) && e.2.accs.any (fun a => a.inPages page n))).map (fun e => (0, e.1))) ++
  ((s.l2.atoms.filter (fun e => decide (fnOfQueue e.2.queue = f) && e.2.accs.any (fun a => a.inPages page n))).map (fun e => (1, e.1))) ++
  (s.cores.flatMap (fun c => (c.2.sb.filter (fun e => decide (fnOfQueue e.queue = f) && decide (page ≤ e.vpage ∧ e.vpage < page + n))).map
    (fun e => (2, c.1 * 2 ^ 40 + e.seq)))) ++
  ((s.fab.reqs.filter (fun e => decide (fnOfQueue e.2.queue = f))).map (fun e => (3, e.1)))

/-- Is an access still to be performed or discarded? -/
def State.accessOpen (s : State) (w : Nat × Nat) : Bool :=
  match w.1 with
  | 0 => s.l2.loads.has w.2
  | 1 => s.l2.atoms.has w.2
  | 2 => (s.core (w.2 / 2 ^ 40)).sb.any (fun e => decide (e.seq = w.2 % 2 ^ 40))
  | _ => s.fab.reqs.has w.2

/-- Drop the translations of a range of pages of a function, in every cache of the chip (R67, R325). -/
def State.dropPages (s : State) (f page n : Nat) : State :=
  { s with
    hif.tcache := s.hif.tcache.filter (fun e => !(decide (e.fn = f) && decide (page ≤ e.page) && decide (e.page < page + n)))
    nwt.tlb := s.nwt.tlb.mapVals (fun _ l => l.filter (fun e =>
      !(decide (e.pasid = s.num E.fnPasid f) && decide (page < (e.page + 1) * 2 ^ (e.log - 16)) && decide (e.page * 2 ^ (e.log - 16) < page + n)))) }

/-- Start an invalidation over a range of pages. -/
def State.invStart (s : State) (f page n : Nat) : State :=
  let w := s.accessesIn f page n
  (s.dropPages f page n).modFn f (fun x => { x with invBusy := true, invWaits := w })

/-- A write of HIF_INV_CMD: with go, `all` drops every translation; otherwise the range of HIF_INV_ADDR. -/
def State.invCmd (s : State) (f cmd : Nat) : State :=
  let x := s.fn f
  let n := 2 ^ bits cmd 13 8
  let page := x.invAddr / 2 ^ 16
  if !bit cmd 0 then s
  else if x.invBusy ∨ (!bit cmd 1 ∧ (41 < bits cmd 13 8 ∨ page % n ≠ 0)) then s.modFn f (fun x => { x with invRejected := true })
  else if bit cmd 1 then s.invStart f 0 (2 ^ 41)
  else s.invStart f page n

/-- TRANSLATION_INVALIDATE: a write of HIF_INV_CMD with all clear. -/
def translationInvalidate (fn cmd : Nat) (s : State) : State :=
  if s.barState fn ≠ .opened ∨ bit cmd 1 then s else s.invCmd fn cmd

/-- TRANSLATION_INVALIDATE_ALL: a write of HIF_INV_CMD with all set. -/
def translationInvalidateAll (fn cmd : Nat) (s : State) : State :=
  if s.barState fn ≠ .opened ∨ !bit cmd 1 then s else s.invCmd fn cmd

/-- INVALIDATE_COMPLETE: busy clears once no access that used a dropped entry is open, and an ATS invalidation is answered on the same terms. -/
def invalidateComplete (fn : Nat) (s : State) : State :=
  let s1 := s.modFn fn (fun x =>
    if x.invBusy ∧ !x.invWaits.any s.accessOpen then { x with invBusy := false, invWaits := [] } else x)
  let ended (a : AtsInv) : Bool := decide (a.fn = fn) && !a.waits.any s.accessOpen
  { s1 with hif.atsAnswered := s1.hif.atsAnswered + s1.hif.atsInvs.countP ended, hif.atsInvs := s1.hif.atsInvs.filter (fun a => !ended a) }

/-- Accesses of a function to host pages that are not yet performed. -/
def State.hostAccesses (s : State) (f : Nat) : List (Nat × Nat) :=
  ((s.l2.loads.filter (fun e => decide (fnOfQueue e.2.queue = f) && e.2.accs.any (fun a => decide (a.target = 2)))).map (fun e => (0, e.1))) ++
  ((s.l2.atoms.filter (fun e => decide (fnOfQueue e.2.queue = f) && e.2.accs.any (fun a => decide (a.target = 2)))).map (fun e => (1, e.1))) ++
  (s.cores.flatMap (fun c => (c.2.sb.filter (fun e => decide (fnOfQueue e.queue = f) && decide (e.target = 2))).map (fun e => (2, c.1 * 2 ^ 40 + e.seq))))

/-- ATS_INVALIDATE_REQUEST: pages of the function's host address space are dropped; the completion is sent once accesses that used them are done. -/
def atsInvalidateRequest (fn page pages : Nat) (s : State) : State :=
  if !s.hif.linkUp ∨ !(s.fn fn).atsEnabled ∨ 32 ≤ s.hif.atsInvs.length then s
  else
    let w := s.hostAccesses fn
    let keep := s.hif.atsCache.filter (fun e => !(decide (e.fn = fn) && decide (page ≤ e.page) && decide (e.page < page + pages)))
    if w.isEmpty then { s with hif.atsCache := keep, hif.atsAnswered := s.hif.atsAnswered + 1 }
    else { s with hif.atsCache := keep, hif.atsInvs := s.hif.atsInvs ++ [{ fn := fn, waits := w }] }

/-- Entries of the host-page translation cache (R324). -/
def atsCapacity : Nat := 8192

/-- Contexts of a function whose loads, atomics or stores wait for a host translation that does not permit them end with MEM_TRANSLATION (R16, Table 13.1). -/
def State.atsDeny (s : State) (f page : Nat) (read write : Bool) : State :=
  let here (a : Acc) : Bool := decide (a.target = 2) && decide (a.pa / 2 ^ 16 = page)
  let loads := s.l2.loads.filter (fun e => !read && decide (fnOfQueue e.2.queue = f) && e.2.accs.any (fun a => here a && !e.2.got.has (lineKey 2 (a.pa / 128))))
  let s1 := loads.foldl (fun s e => State.kill { s with l2.loads := s.l2.loads.del e.1 } e.2.queue 0x01 (s.groupSite e.2.core e.2.slot)) s
  let atoms := s1.l2.atoms.filter (fun e => !write && decide (fnOfQueue e.2.queue = f) && e.2.accs.any here)
  let s2 := atoms.foldl (fun s e => State.kill { s with l2.atoms := s.l2.atoms.del e.1 } e.2.queue 0x01 (s.siteOf e.2.queue e.2.node)) s1
  let stores := s2.cores.flatMap (fun c => (c.2.sb.filter (fun e =>
    !write && decide (fnOfQueue e.queue = f) && decide (e.target = 2) && decide (e.line / 512 = page))).map (fun e => (c.1, e)))
  stores.foldl (fun s e => (s.dropEntry e.1 e.2.seq).kill e.2.queue 0x01 (s.siteOf e.2.queue e.2.node)) s2

/-- ATS_TRANSLATION_COMPLETION: the oldest entry goes when the cache is full. Accesses that waited for it and that it does not permit end their contexts. -/
def atsTranslationCompletion (fn page frame : Nat) (read write : Bool) (s : State) : State :=
  if !s.hif.linkUp ∨ !(s.fn fn).atsEnabled then s
  else
    let l := s.hif.atsCache.filter (fun e => !(decide (e.fn = fn) && decide (e.page = page)))
    let l1 := if atsCapacity ≤ l.length then l.drop 1 else l
    State.atsDeny { s with hif.atsCache := l1 ++ [{ fn := fn, page := page, target := 2, frame := frame, r := read, w := write, x := false }] } fn page read write

/-! The PCIe link (R315, R456, R466). -/

/-- PCIE_LINK_DOWN (class 23): requests to host pages are held against their queue timers. -/
def pcieLinkDown (s : State) : State :=
  if !s.hif.linkUp then s else State.faultRecord { s with hif.linkUp := false } 23 0 0 0 0 0

/-- PCIE_LINK_UP: D19 is out of reset and PERST# is deasserted; what was held may go. -/
def pcieLinkUp (s : State) : State :=
  if s.hif.linkUp ∨ s.sup.perst ∨ s.sup.d19Reset ∨ !s.sup.mainPg then s
  else { s with hif.linkUp := true, hif.drs := if s.sup.phase = .ready then s.hif.drs + 1 else s.hif.drs }

/-! Attestation (R343, R344). The layouts of the messages are DSP0274's (log entry 41). -/

/-- An SPDM message: version 1.2, code, and two parameters, then its body. -/
def spdm (code p1 p2 : Nat) (body : List Byte) : List Byte := leBytes 1 0x12 ++ leBytes 1 code ++ leBytes 1 p1 ++ leBytes 1 p2 ++ body

/-- A malformed request: ERROR(InvalidRequest), and doe_error (Table 13.18). -/
def State.spdmError (s : State) : State := { s.raiseHif 5 with hif.doeResp := spdm 0x7F 1 0 [] }

/-- The certificate chain of a slot: Selnak's in slot 0, the integrator's in the others. -/
def State.chain (s : State) (slot : Nat) : List Byte := if slot = 0 then Config.deviceChain else s.hif.certs.getD slot []

/-- DOE_DISCOVERY: index 0 names discovery itself, index 1 CMA/SPDM, which is the last. -/
def doeDiscovery (index : Nat) (s : State) : State :=
  if !s.configLive then s
  else if index = 0 then { s with hif.doeResp := leBytes 2 1 ++ leBytes 1 0 ++ leBytes 1 1 }
  else if index = 1 then { s with hif.doeResp := leBytes 2 1 ++ leBytes 1 1 ++ leBytes 1 0 }
  else { s.raiseHif 5 with hif.doeResp := leBytes 2 0xFFFF ++ leBytes 1 0 ++ leBytes 1 0 }

/-- SPDM_GET_CERTIFICATE: the part of a chain that is asked for, and how much remains. -/
def spdmGetCertificate (slot off len : Nat) (s : State) : State :=
  let c := s.chain slot
  if !s.configLive then s
  else if 7 < slot ∨ c.length ≤ off then s.spdmError
  else
    let p := (c.drop off).take len
    { s with hif.doeResp := spdm 0x02 slot 0 (leBytes 2 p.length ++ leBytes 2 (c.length - off - p.length) ++ p) }

/-- The bytes of an entry's value, for the measurement of the persistent entries. -/
def State.entryBytes (s : State) (r : EntryInfo) (a : Nat) : List Byte :=
  if r.type.width = 0 then s.blob a else leBytes r.type.width (s.num a)

/-- Every persistent entry, in ascending order of index and subindex. -/
def persistentEntries : List EntryInfo := (entryTable.filter (fun r => r.persistent)).mergeSort (fun a b => decide (a.base ≤ b.base))

/-- What a measurement block covers (Table 13.12). -/
def State.measuredBytes (s : State) (block : Nat) : List Byte :=
  let image := (if s.mgt.running = 0 then s.mgt.slotA else s.mgt.slotB).image
  if block = 5 then persistentEntries.flatMap (fun r => (rangeFrom r.base r.count).flatMap (fun a => s.entryBytes r a))
  else if block = 6 then leBytes 1 (s.num E.rollbackCounter)
  else if block = 2 ∧ image ≠ [] then image
  else Config.measured block image

/-- A measurement block: its index, and a SHA-384 digest in the form of DSP0274. -/
def State.measurement (s : State) (block : Nat) : List Byte :=
  leBytes 1 block ++ leBytes 1 1 ++ leBytes 2 51 ++ leBytes 1 (block - 1) ++ leBytes 2 48 ++ Sha.sha384 (s.measuredBytes block)

/-- Sign a response: the device's own nonce is a free value, and the signature covers the request's nonce and the response. -/
def State.signed (s : State) (code p1 p2 : Nat) (nonce before after : List Byte) : State :=
  let r := s.freeVal 256
  let m := spdm code p1 p2 (before ++ leBytes 32 r.1 ++ after)
  { r.2 with hif.doeResp := m ++ Config.sign (nonce ++ m) }

/-- SPDM_CHALLENGE. -/
def spdmChallenge (slot : Nat) (nonce : List Byte) (s : State) : State :=
  if !s.configLive then s
  else if 7 < slot ∨ nonce.length ≠ 32 ∨ s.chain slot = [] then s.spdmError
  else s.signed 0x03 slot 1 nonce (Sha.sha384 (s.chain slot)) (leBytes 2 0)

/-- SPDM_GET_MEASUREMENTS: index 0 asks for the number of blocks, 0xFF for all of them. -/
def spdmGetMeasurements (index : Nat) (nonce : List Byte) (s : State) : State :=
  if !s.configLive then s
  else if nonce.length ≠ 32 ∨ (6 < index ∧ index ≠ 0xFF) then s.spdmError
  else
    let bs := if index = 0 then [] else if index = 0xFF then rangeFrom 1 6 else [index]
    let body := bs.flatMap s.measurement
    s.signed 0x60 (if index = 0 then 6 else 0) 0 nonce (leBytes 1 bs.length ++ leBytes 3 body.length ++ body) (leBytes 2 0)

/-- SPDM_SET_CERTIFICATE: slots 1 to 7, persistent. -/
def spdmSetCertificate (slot : Nat) (chain : List Byte) (s : State) : State :=
  if !s.configLive then s
  else if slot = 0 ∨ 7 < slot then s.spdmError
  else { s with hif.certs := s.hif.certs.put slot chain, hif.doeResp := spdm 0x6E slot 0 [] }

/-! The meanings. -/

/-- HOST_WRITE_BAR2 (R224). -/
def execHostWriteBar2 (fn : Nat) (off : Nat) (data : List Byte) (tag : Option Nat) (s : State) : Host.Outcome State Fault Refusal :=
  .next (s.hostReq fn (.hostWrite fn off data tag) (hostWriteBar2 fn off data tag))
/-- HOST_READ_BAR2 (R318). -/
def execHostReadBar2 (fn : Nat) (off : Nat) (len : Nat) (chk : L2Check) (s : State) : Host.Outcome State Fault Refusal :=
  .next (s.hostReq fn (.hostRead fn off len chk) (hostReadBar2 fn off len chk))
/-- HOST_ATOMICOP (R320). -/
def execHostAtomicop (fn : Nat) (off : Nat) (kind : Nat) (bytes : Nat) (operand : Nat) (compare : Nat) (chk : L2Check) (s : State) : Host.Outcome State Fault Refusal :=
  .next (s.hostReq fn (.hostAtomic fn off kind bytes operand compare chk) (hostAtomicop fn off kind bytes operand compare chk))
/-- MSIX_SEND (R335). -/
def execMsixSend (fn : Nat) (vector : Nat) (s : State) : Host.Outcome State Fault Refusal :=
  .next (msixSend fn vector s)
/-- MSIX_MODERATION_EXPIRE (R335). -/
def execMsixModerationExpire (fn : Nat) (vector : Nat) (s : State) : Host.Outcome State Fault Refusal :=
  .next (msixModerationExpire fn vector s)
/-- MSIX_UNMASK (R335). -/
def execMsixUnmask (fn : Nat) (vector : Nat) (s : State) : Host.Outcome State Fault Refusal :=
  .next (msixUnmask fn vector s)
/-- BUS_MASTER_ENABLE_SET (R324). -/
def execBusMasterEnableSet (fn : Nat) (atomic : Bool) (ats : Bool) (s : State) : Host.Outcome State Fault Refusal :=
  .next (busMasterEnableSet fn atomic ats s)
/-- BAR2_RESIZE (R318). -/
def execBar2Resize (vf : Bool) (sizeLog : Nat) (s : State) : Host.Outcome State Fault Refusal :=
  .next (bar2Resize vf sizeLog s)
/-- TRANSLATION_INVALIDATE (R325). -/
def execTranslationInvalidate (fn : Nat) (cmd : Nat) (s : State) : Host.Outcome State Fault Refusal :=
  .next (translationInvalidate fn cmd s)
/-- TRANSLATION_INVALIDATE_ALL (R325). -/
def execTranslationInvalidateAll (fn : Nat) (cmd : Nat) (s : State) : Host.Outcome State Fault Refusal :=
  .next (translationInvalidateAll fn cmd s)
/-- INVALIDATE_COMPLETE (R325). -/
def execInvalidateComplete (fn : Nat) (s : State) : Host.Outcome State Fault Refusal :=
  .next (invalidateComplete fn s)
/-- ATS_INVALIDATE_REQUEST (R325). -/
def execAtsInvalidateRequest (fn : Nat) (page : Nat) (pages : Nat) (s : State) : Host.Outcome State Fault Refusal :=
  .next (atsInvalidateRequest fn page pages s)
/-- ATS_TRANSLATION_COMPLETION (R324). -/
def execAtsTranslationCompletion (fn : Nat) (page : Nat) (frame : Nat) (read : Bool) (write : Bool) (s : State) : Host.Outcome State Fault Refusal :=
  .next (atsTranslationCompletion fn page frame read write s)
/-- PCIE_LINK_DOWN (R456). -/
def execPcieLinkDown (s : State) : Host.Outcome State Fault Refusal :=
  .next (pcieLinkDown s)
/-- PCIE_LINK_UP (R315). -/
def execPcieLinkUp (s : State) : Host.Outcome State Fault Refusal :=
  .next (pcieLinkUp s)
/-- DOE_DISCOVERY (R343). -/
def execDoeDiscovery (index : Nat) (s : State) : Host.Outcome State Fault Refusal :=
  .next (doeDiscovery index s)
/-- SPDM_GET_CERTIFICATE (R343). -/
def execSpdmGetCertificate (slot : Nat) (off : Nat) (len : Nat) (s : State) : Host.Outcome State Fault Refusal :=
  .next (spdmGetCertificate slot off len s)
/-- SPDM_CHALLENGE (R343). -/
def execSpdmChallenge (slot : Nat) (nonce : List Byte) (s : State) : Host.Outcome State Fault Refusal :=
  .next (spdmChallenge slot nonce s)
/-- SPDM_GET_MEASUREMENTS (R344). -/
def execSpdmGetMeasurements (index : Nat) (nonce : List Byte) (s : State) : Host.Outcome State Fault Refusal :=
  .next (spdmGetMeasurements index nonce s)
/-- SPDM_SET_CERTIFICATE (R343). -/
def execSpdmSetCertificate (slot : Nat) (chain : List Byte) (s : State) : Host.Outcome State Fault Refusal :=
  .next (spdmSetCertificate slot chain s)
/-- D0_ENTRY (R335). -/
def execD0Entry (fn : Nat) (s : State) : Host.Outcome State Fault Refusal :=
  .next (d0Entry fn s)

/-- NON_ALLOCATING_WRITE (R222). -/
def execNonAllocatingWrite (fn : Nat) (pa : Nat) (data : List Byte) (s : State) : Host.Outcome State Fault Refusal :=
  .next (s.outside (.write fn pa data) (nonAllocatingWrite fn pa data))

end Sys2Proof.Machine
end

