-- ==== Sys2Proof/Machine/Kamuf.lean ====
section
/-! DEFINITION. Machine/Kamuf.lean: Kamuf frames (R418 to R421), their transport over MCTP (R423) and the mailboxes (R424). -/

namespace Sys2Proof.Machine

/-! Checks of a frame (R418 to R420). -/

/-- Is a frame malformed (R419, R420, Table 18.3): version, opcode, flags, length, or a body where the opcode has none? -/
def frameBad (x : Frame) : Bool :=
  !decide (x.version = 1) || !decide (1 ≤ x.opcode ∧ x.opcode ≤ 4) || decide (8 ≤ x.flags) || decide (x.flags % 4 = 3) ||
    !decide (x.length = x.body.length) || decide (4080 < x.length) || (!decide (x.opcode = 2) && !decide (x.length = 0))

/-- Address of the entry that a frame names. -/
def entryOf (x : Frame) : Nat := x.index * 256 + x.sub

/-- The function that a frame names: kind 0 the mailbox's own, or F0 over MCTP; kind 1 the one in target (R420). -/
def fnNamed (w : Origin) (x : Frame) : Nat :=
  if x.flags % 4 = 1 then x.target else if w.iface = 3 then w.fn else 0

/-- The target of an entry that a frame names: 0 for device scope, a function or a partition; none where it is absent (R420). -/
def State.targetNamed (s : State) (w : Origin) (x : Frame) (scope : EScope) : Option Nat :=
  if scope = .device then some 0
  else if x.flags % 4 = 2 then (if 63 < x.target then none else some x.target)
  else if !s.fnExists (fnNamed w x) then none
  else if scope = .function then some (fnNamed w x) else some (s.fnPart (fnNamed w x))

/-- Does an interface reach an entry (Table 18.1)? -/
def inReach (w : Origin) (a : Nat) (scope : EScope) (write : Bool) : Bool :=
  if !w.isVf then true
  else if write then decide (scope = .function)
  else decide (scope = .function) || decide (scope = .partition) || decide (0x1000 ≤ a / 256 ∧ a / 256 ≤ 0x11FF)

/-- The checks of R418 that come before the value: the status of the first that fails, or the entry's row and the target. -/
def State.frameCheck (s : State) (w : Origin) (x : Frame) : Nat ⊕ (EntryInfo × Nat) :=
  let a := entryOf x
  if frameBad x then .inl 6
  else match entryInfo a with
    | none => .inl 1
    | some r =>
      match s.targetNamed w x r.scope with
      | none => .inl (if s.entryThere w a (fnNamed w x) then 9 else 1)
      | some t =>
        if !s.entryThere w a t then .inl 1
        else if !s.entryLive a then .inl 9
        else if (w.isVf && !decide (x.flags % 4 = 0)) || (decide (x.flags % 4 = 2) && decide (r.scope = .function)) ||
            !inReach w a r.scope (decide (x.opcode = 2)) then .inl 3
        else if (x.opcode = 1 ∧ r.access = .wo) ∨ (x.opcode = 2 ∧ r.access = .ro) then .inl 2
        else .inr (r, t)

/-! The opcodes (Table 18.3). -/

/-- READ: value bytes from an offset; log_records takes a sequence number (R421, R426). -/
def State.readBody (s : State) (w : Origin) (x : Frame) (t : Nat) : List Byte :=
  if entryOf x = E.logRecords then s.logFrom x.offset
  else ((s.readEntry w (entryOf x) t).drop x.offset).take 4080

/-- DESCRIBE: type, access, scope, persistence, longest value and default. -/
def describeBody (a t : Nat) (r : EntryInfo) : List Byte :=
  let acc := match r.access with
    | .ro => 0
    | .rw => 1
    | .wo => 2
    | .rwc => 3
  let sc := match r.scope with
    | .device => 0
    | .partition => 1
    | .function => 2
  leBytes 1 (EType.code r.type) ++ leBytes 1 acc ++ leBytes 1 sc ++ leBytes 1 (b2n r.persistent) ++ leBytes 4 (entryMaxLen a) ++ defaultBytes a t

/-- The least address above `a` of a row that a reader may read. -/
def State.nextIn (s : State) (w : Origin) (a f : Nat) (r : EntryInfo) : Option Nat :=
  let lo := max (a + 1) r.base
  if r.access = .wo ∨ r.base + r.count ≤ lo ∨ !inReach w lo r.scope false then none
  else if s.entryThere w lo f then some lo else none

/-- NEXT: the next present entry that the interface may read, 0xFFFFFF at the end of the list. -/
def State.nextBody (s : State) (w : Origin) (x : Frame) : List Byte :=
  let l := entryTable.filterMap (s.nextIn w (entryOf x) (fnNamed w x))
  match l with
  | [] => leBytes 3 0xFFFFFF
  | c :: t =>
    let m := t.foldl min c
    leBytes 2 (m / 256) ++ leBytes 1 (m % 256)

/-- Take an assembly out. -/
def State.dropAsm (s : State) (a t : Nat) : State :=
  { s with mgt.asm := s.mgt.asm.filter (fun y => !decide (y.entry = a ∧ y.target = t)) }

/-- WRITE: a segment joins the assembly of its entry and target, and the last one writes the whole value (R421). -/
def State.writeSegment (s : State) (w : Origin) (x : Frame) (t : Nat) : State :=
  let a := entryOf x
  let held := s.mgt.asm.find? (fun y => decide (y.entry = a ∧ y.target = t))
  let before := match held with
    | some y => y.bytes
    | none => []
  let foreign := match held with
    | some y => !decide (y.who = w)
    | none => false
  let all := before ++ x.body
  if a = E.updateImage then updateImageSegment w x.offset x.body (bit x.flags 2) s
  else if foreign then s.answer 7
  else if x.offset ≠ before.length then (s.dropAsm a t).answer 8
  else if entryMaxLen a < all.length then (s.dropAsm a t).answer 4
  else if bit x.flags 2 then (s.dropAsm a t).writeEntry w a t all
  else
    let s1 := s.dropAsm a t
    State.answer { s1 with mgt.asm := s1.mgt.asm ++ [{ entry := a, target := t, who := w, bytes := all, lastAt := s.time.mono }] } 0

/-- Does management answer an interface: it runs, and after a failure of both slots out of band only (R413, R432)? -/
def State.mgtAnswers (s : State) (w : Origin) : Bool :=
  s.sup.auxValid && s.sup.mgtLive && (!s.sup.bothSlotsFailed || decide (w.iface = 1))

/-- Handle a request whole: its status, the body of its response, and the state after it. -/
def State.request (s : State) (w : Origin) (x : Frame) : Nat × List Byte × State :=
  if !frameBad x && decide (x.opcode = 4) then
    (if w.isVf && !decide (x.flags % 4 = 0) then (3, [], s) else (0, s.nextBody w x, s))
  else match s.frameCheck w x with
    | .inl st => (st, [], s)
    | .inr (r, t) =>
      if x.opcode = 1 then (0, s.readBody w x t, s)
      else if x.opcode = 3 then (0, describeBody (entryOf x) t r, s)
      else
        let s1 := s.writeSegment w x t
        (s1.mgt.answer, [], s1)

/-- The response to a frame: the request's header with status and body (R419). -/
def responseTo (x : Frame) (status : Nat) (body : List Byte) : Response :=
  { status := status, tag := x.tag, opcode := x.opcode, index := x.index, sub := x.sub, flags := x.flags, target := x.target, offset := x.offset, body := body }

/-- Handle a request and send its response; a write of cnt_layer_base that waits for a flush is answered at its end (R442). -/
def State.handle (s : State) (w : Origin) (x : Frame) : State :=
  if !s.mgtAnswers w then s
  else
    let r := s.request w x
    let f := fnNamed w x
    if entryOf x = E.cntLayerBase ∧ (s.cntFn f).baseAfter.isNone ∧ (r.2.2.cntFn f).baseAfter.isSome then
      r.2.2.modCntFn f (fun c => { c with baseReply := some (responseTo x 0 []) })
    else { r.2.2 with mgt.lastFrame := some (responseTo x r.1 r.2.1) }

/-- A request that comes with the row of its opcode; a reserved opcode is answered by any of them. -/
def State.handleAs (s : State) (w : Origin) (x : Frame) (opcode : Nat) : State :=
  if x.opcode = opcode ∨ x.opcode < 1 ∨ 4 < x.opcode then s.handle w x else s

/-- KAMUF_READ (R421). -/
def kamufRead (who : Origin) (frame : Frame) (s : State) : State := s.handleAs who frame 1

/-- KAMUF_WRITE (R416, R421). -/
def kamufWrite (who : Origin) (frame : Frame) (s : State) : State := s.handleAs who frame 2

/-- KAMUF_DESCRIBE (R419). -/
def kamufDescribe (who : Origin) (frame : Frame) (s : State) : State := s.handleAs who frame 3

/-- KAMUF_NEXT (R419). -/
def kamufNext (who : Origin) (frame : Frame) (s : State) : State := s.handleAs who frame 4

/-! The mailbox (R424). -/

/-- A frame from its bytes (Table 18.2). -/
def frameOf (l : List Byte) : Frame :=
  { version := fieldAt l 0 1, opcode := fieldAt l 1 1, tag := fieldAt l 2 1, index := fieldAt l 4 2, sub := fieldAt l 6 1, flags := fieldAt l 7 1
    target := fieldAt l 8 2, length := fieldAt l 0xA 2, offset := fieldAt l 0xC 4, body := l.drop 16 }

/-- The origin of a function's mailbox. -/
def mailboxOf (f : Nat) : Origin := { iface := 3, fn := f }

/-- MAILBOX_GO (R424, R9, Table 18.5): a write of MGT_MB_CTRL. A vector that the function does not have leaves the field; go while busy is ignored with overrun set. -/
def mailboxGo (fn value : Nat) (s : State) : State :=
  let v := bits value 13 8
  let s1 := s.modMbox fn (fun m => { m with irqEnable := bit value 16, vector := if v < vectorsOf fn then v else m.vector })
  let m := s1.mbox fn
  if !bit value 0 then s1
  else if m.busy then s1.modMbox fn (fun m => { m with overrun := true })
  else
    let s2 := s1.modMbox fn (fun m => { m with busy := true })
    { s2 with mgt.inFlight := s2.mgt.inFlight ++ [(mailboxOf fn, (m.buf.getD 2 0#8).toNat)] }

/-- The oldest request of the mailboxes at the dispatcher (R422). -/
def State.oldestMailbox (s : State) : Option Nat := (s.mgt.inFlight.find? (fun r => decide (r.1.iface = 3))).map (fun r => r.1.fn)

/-- A mailbox's request leaves the dispatcher. -/
def State.leaveDispatcher (s : State) (f : Nat) : State := { s with mgt.inFlight := s.mgt.inFlight.filter (fun r => !decide (r.1 = mailboxOf f)) }

/-- MAILBOX_RESPONSE (R419, R422, R424): the dispatcher handles the mailboxes' requests in arrival order; the response stands in the buffer, unless the request waits for a layer flush
(R442). -/
def mailboxResponse (fn : Nat) (s : State) : State :=
  let m := s.mbox fn
  if !m.busy ∨ m.delayed ∨ !s.mgtAnswers (mailboxOf fn) ∨ s.oldestMailbox ≠ some fn then s
  else
    let l := m.bytes m.reqLen
    let s1 := s.leaveDispatcher fn
    if m.reqLen < 16 ∨ 4096 < m.reqLen ∨ m.buf.getD 3 0#8 ≠ 0#8 then s1.mbRespond fn 6 []
    else
      let r := s1.request (mailboxOf fn) (frameOf l)
      if (r.2.2.mbox fn).delayed then r.2.2 else r.2.2.mbRespond fn r.1 r.2.1

/-! MCTP control commands (R423). PRESUMED: the layouts of DMTF DSP0236 (log entry 48). -/

/-- Answer a control command. -/
def State.controlReply (s : State) (body : List Byte) : State := if s.sup.auxValid && s.sup.mgtLive then { s with mgt.ctrlResp := body } else s

/-- SET_ENDPOINT_ID: 0x00 and 0xFF are no endpoint. -/
def setEndpointId (eid : Nat) (s : State) : State :=
  if eid = 0 ∨ 255 ≤ eid then s.controlReply (leBytes 1 2)
  else if s.sup.auxValid && s.sup.mgtLive then State.controlReply { s with mgt.eid := eid } (leBytes 1 0 ++ leBytes 1 0 ++ leBytes 1 eid ++ leBytes 1 0)
  else s

/-- GET_ENDPOINT_ID: a simple endpoint with a dynamic id. -/
def getEndpointId (s : State) : State := s.controlReply (leBytes 1 0 ++ leBytes 1 s.mgt.eid ++ leBytes 2 0)

/-- GET_MCTP_VERSION_SUPPORT: version 1.3 of the base specification and of the control protocol. -/
def getMctpVersionSupport (type : Nat) (s : State) : State :=
  if type = 0xFF ∨ type = 0 then s.controlReply (leBytes 1 0 ++ leBytes 1 1 ++ leBytes 4 0x00F0F3F1) else s.controlReply (leBytes 1 0x80)

/-- GET_MESSAGE_TYPE_SUPPORT: vendor-defined messages of type 0x7E. -/
def getMessageTypeSupport (s : State) : State := s.controlReply (leBytes 1 0 ++ leBytes 1 1 ++ leBytes 1 0x7E)

/-- GET_VENDOR_DEFINED_MESSAGE_SUPPORT: one set, of Selnak's PCI vendor id, most significant byte first. -/
def getVendorDefinedMessageSupport (selector : Nat) (s : State) : State :=
  if selector = 0 then s.controlReply (leBytes 1 0 ++ leBytes 1 0xFF ++ leBytes 1 0 ++ leBytes 1 0x1F ++ leBytes 1 0x3D ++ leBytes 2 0)
  else s.controlReply (leBytes 1 2)

/-! The meanings. -/

/-- KAMUF_READ (R421). -/
def execKamufRead (who : Origin) (frame : Frame) (s : State) : Host.Outcome State Fault Refusal :=
  .next (kamufRead who frame s)
/-- KAMUF_WRITE (R416). -/
def execKamufWrite (who : Origin) (frame : Frame) (s : State) : Host.Outcome State Fault Refusal :=
  .next (kamufWrite who frame s)
/-- KAMUF_DESCRIBE (R419). -/
def execKamufDescribe (who : Origin) (frame : Frame) (s : State) : Host.Outcome State Fault Refusal :=
  .next (kamufDescribe who frame s)
/-- KAMUF_NEXT (R419). -/
def execKamufNext (who : Origin) (frame : Frame) (s : State) : Host.Outcome State Fault Refusal :=
  .next (kamufNext who frame s)
/-- MAILBOX_GO (R424). -/
def execMailboxGo (fn : Nat) (value : Nat) (s : State) : Host.Outcome State Fault Refusal :=
  .next (mailboxGo fn value s)
/-- MAILBOX_RESPONSE (R424). -/
def execMailboxResponse (fn : Nat) (s : State) : Host.Outcome State Fault Refusal :=
  .next (mailboxResponse fn s)
/-- SET_ENDPOINT_ID (R423). -/
def execSetEndpointId (eid : Nat) (s : State) : Host.Outcome State Fault Refusal :=
  .next (setEndpointId eid s)
/-- GET_ENDPOINT_ID (R423). -/
def execGetEndpointId (s : State) : Host.Outcome State Fault Refusal :=
  .next (getEndpointId s)
/-- GET_MCTP_VERSION_SUPPORT (R423). -/
def execGetMctpVersionSupport (type : Nat) (s : State) : Host.Outcome State Fault Refusal :=
  .next (getMctpVersionSupport type s)
/-- GET_MESSAGE_TYPE_SUPPORT (R423). -/
def execGetMessageTypeSupport (s : State) : Host.Outcome State Fault Refusal :=
  .next (getMessageTypeSupport s)
/-- GET_VENDOR_DEFINED_MESSAGE_SUPPORT (R423). -/
def execGetVendorDefinedMessageSupport (selector : Nat) (s : State) : Host.Outcome State Fault Refusal :=
  .next (getVendorDefinedMessageSupport selector s)

end Sys2Proof.Machine
end

