-- ==== Sys2Proof/Machine/Launch.lean ====
section
/-! DEFINITION. Machine/Launch.lean: LAUNCH nodes: the code-object header and the placement of blocks on cores (R104, R115, R163 to R166, R273, R279). -/

namespace Sys2Proof.Machine

/-- Does a code-object header keep Table 6.19, with its entries inside the code and isa_level 1 (R163, R164)? -/
def codeHeaderOk (l : List Byte) : Bool :=
  let widths := fieldAt l 1 1
  let base := fieldAt l 0x18 8
  let len := fieldAt l 0x20 8
  let entryOk (declared : Bool) (e : Nat) : Bool :=
    if declared then decide (e % 8 = 0) && decide (base ≤ e) && decide (e < base + len) else decide (e = 0)
  decide (fieldAt l 0 1 = 1) && decide (1 ≤ widths ∧ widths < 4) && decide (1 ≤ fieldAt l 2 1 ∧ fieldAt l 2 1 ≤ 32) &&
    zeroAt l 3 1 && decide (fieldAt l 4 2 = 1) && zeroAt l 6 2 && entryOk (bit widths 0) (fieldAt l 8 8) &&
    entryOk (bit widths 1) (fieldAt l 0x10 8) && decide (len % 8 = 0) && zeroAt l 0x28 24

/-- Can a core take a width that a code object declares (R104)? A full core runs W32, a narrow one W64; one that is changing width will be narrow. -/
def Core.takesWidth (k : Core) (widths : Nat) : Bool :=
  !decide (k.state = 3) && !k.failing && (if k.narrow = 0 ∧ k.state ≠ 2 then bit widths 0 else bit widths 1)

/-- args of a launch (R273): the node's own, or with call_args those of the innermost graph that it stands in. -/
def State.launchArgs (s : State) (n : Node) : Nat :=
  if bit (n.get 0x2D 1) 1 then
    (match n.graph with
     | some g => (match s.fe.graphs.get? g with
       | some x => x.args
       | none => n.get 0x20 8)
     | none => n.get 0x20 8)
  else n.get 0x20 8

/-- NODE_LAUNCH (R104, R164, R273). -/
def nodeLaunch (node : Nat) (s : State) : State :=
  s.startNode node 1 (fun n =>
    let h := n.get 0x18 8
    if h % 64 ≠ 0 then s.kill n.queue 0x04 n.site
    else
      let r := s.feRead (fnOfQueue n.queue) h 64 (some (n.queue, .node node))
      match r.1 with
      | .wait => r.2
      | .bad c => r.2.kill n.queue c n.site
      | .bytes l =>
        let cores := s.coresOf (s.fnPart (fnOfQueue n.queue))
        if !codeHeaderOk l || !cores.any (fun c => (s.core c).takesWidth (fieldAt l 1 1)) then r.2.kill n.queue 0x04 n.site
        else
          let x : Launch :=
            { queue := n.queue, entry32 := fieldAt l 8 8, entry64 := fieldAt l 0x10 8, widths := fieldAt l 1 1
              vregs := 8 * fieldAt l 2 1, blocks := n.get 0x28 4, groups := n.get 0x2C 1, scratch := 1024 * n.get 0x2E 2
              matrix := bit (n.get 0x2D 1) 0, args := s.launchArgs n, arg0 := n.get 0x30 8, arg1 := n.get 0x38 8
              placed := 0, exited := 0 }
          (State.dispatched { r.2 with fe.launches := r.2.fe.launches.put node x } node n).feDrop (.node node))

/-- KiB of the register file that a group takes (R111). -/
def regKib (narrow : Bool) (vregs : Nat) : Nat := ceilDiv vregs 8 * (if narrow then 2 else 1)

/-- KiB of the register file in use. -/
def Core.regsUsed (k : Core) : Nat := sumNat (k.groups.vals.map (fun g => regKib (!decide (k.narrow = 0)) g.vregs))

/-- Scratch bytes in use. -/
def Core.scratchUsed (k : Core) : Nat := sumNat (k.blocks.vals.map (fun b => b.scratchBytes))

/-- Has a core room for a block of groups with these registers, scratch and matrix use (R115, R165)? A core that waits to change its scratch takes no
block (R208). -/
def Core.hasRoom (k : Core) (vregs : List Nat) (scratch : Nat) (matrix : Bool) : Bool :=
  decide (k.state = 0) && !k.scratchPending && decide (k.groups.length + vregs.length ≤ 64) &&
    decide (k.regsUsed + sumNat (vregs.map (regKib (!decide (k.narrow = 0)))) ≤ 256) &&
    decide (k.scratchUsed + scratch ≤ 1024 * k.scratchKib) && (!matrix || k.mx.holder.isNone)

/-- The core of a list with the fewest resident groups, the lowest of them in a tie (R279). -/
def State.leastLoaded (s : State) : List Nat → Option Nat
  | [] => none
  | c :: t =>
    match State.leastLoaded s t with
    | none => some c
    | some d => if (s.core c).groups.length ≤ (s.core d).groups.length then some c else some d

/-- The core that a launch's next block goes to (R279). -/
def State.coreFor (s : State) (l : Launch) : Option Nat :=
  s.leastLoaded ((s.coresOf (s.fnPart (fnOfQueue l.queue))).filter (fun c =>
    (s.core c).takesWidth l.widths && (s.core c).hasRoom (List.replicate l.groups l.vregs) l.scratch l.matrix))

/-- Free slots of a core, rising. -/
def Core.freeSlots (k : Core) : List Nat := (List.range 64).filter (fun i => !k.groups.has i)

/-- A group at its launch (R273, Table 11.7): scalar registers s0 to s7, everything else zero. -/
def launchGroup (l : Launch) (n : Node) (node block inBlock : Nat) (narrow : Bool) : Group :=
  let width := if narrow then 64 else 32
  let entry := if narrow then l.entry64 else l.entry32
  let regs := [block, l.blocks, l.args, l.arg0, l.arg1, l.scratch, n.layer + n.operator * 2 ^ 24 + l.queue * 2 ^ 40, n.ring + n.depth * 2 ^ 32]
  { queue := l.queue, node := node, block := block, inBlock := inBlock, layer := n.layer, operator := n.operator, ring := n.ring
    depth := n.depth, nodeIndex := n.index, width := width, vregs := l.vregs, live := 2 ^ width - 1, gbar := 0, yielded := 0
    pcs := (List.range width).map (fun t => (t, entry)), v := []
    s := (List.range 8).map (fun i => (i, BitVec.ofNat 64 (regs.getD i 0))), p := [], gbarSince := none, gbarUsed := 0, waiting := 0, ages := []
    stopped := false, faulted := false }

/-- Put a block and its groups on a core (R115, R166, R248): the caches are emptied first, and a block that uses the matrix array holds it, cleared or with the image
given. -/
def State.installBlock (s : State) (c : Nat) (b : Block) (groups : List Group) (image : Option Mx) : State :=
  let k := s.core c
  let key := k.blocks.fresh
  let slots := k.freeSlots.take groups.length
  let s0 := s.unwant (fun i => match i with
    | .code d _ _ => decide (d = c)
    | _ => false)
  let s1 := (s0.acquire c 2).modCore c (fun k => { k with
    icache := []
    groups := (slots.zip groups).foldl (fun m e => m.put e.1 e.2) k.groups
    blocks := k.blocks.put key { b with slots := slots }
    mx := match image with
      | none => k.mx
      | some m => { m with holder := some key, queue := [], rows := k.mx.rows, held := k.mx.held, window := k.mx.window } })
  s1.trace 1 0x03 (c / 24) c b.queue b.layer b.operator groups.length b.block

/-- Does an earlier LAUNCH node of the queue still wait for core room (R278)? -/
def State.launchHeldBack (s : State) (node : Nat) (l : Launch) : Bool :=
  s.fe.launches.any (fun e => decide (e.1 < node) && decide (e.2.queue = l.queue) && decide (e.2.placed < e.2.blocks))

/-- BLOCK_PLACE (R115, R279): the next block of a launch goes to the core with room that holds the fewest groups. -/
def blockPlace (node core : Nat) (s : State) : State :=
  match s.fe.nodes.get? node, s.fe.launches.get? node with
  | some n, some l =>
    if n.status ≠ .running ∨ (s.q l.queue).state ≠ .running ∨ !s.mayRun (fnOfQueue l.queue) ∨ l.blocks ≤ l.placed ∨ s.launchHeldBack node l ∨
        s.coreFor l ≠ some core then s
    else
      let b : Block :=
        { queue := l.queue, node := node, block := l.placed, slots := [], freed := 0, scratchBytes := l.scratch, scratch := [], scratchBad := [], matrix := l.matrix
          saving := none, saveAddr := none, kept := false, since := s.time.mono, layer := n.layer, operator := n.operator }
      let groups := (List.range l.groups).map (fun i => launchGroup l n node l.placed i (!decide ((s.core core).narrow = 0)))
      let s1 := s.installBlock core b groups (if l.matrix then some Mx.initial else none)
      { s1 with fe.launches := s1.fe.launches.put node { l with placed := l.placed + 1 } }
  | _, _ => s

/-! The meanings. -/

/-- NODE_LAUNCH (R273). -/
def execNodeLaunch (node : Nat) (s : State) : Host.Outcome State Fault Refusal :=
  .next (s.unit 5 node (nodeLaunch node))
/-- BLOCK_PLACE (R279). -/
def execBlockPlace (node : Nat) (core : Nat) (s : State) : Host.Outcome State Fault Refusal :=
  .next (blockPlace node core s)

end Sys2Proof.Machine
end

