-- ==== Sys2Proof/Machine/Rv.lean ====
section
/-! DEFINITION. Machine/Rv.lean: the RV64IMAC instruction set of the control cores (R281): expansion of compressed instructions, the immediates,
and the arithmetic of the base set and of the M extension. The encodings are those of the RISC-V unprivileged specification that R281
names; PRESUMED from that document (log entry 16). -/

namespace Sys2Proof.Rv

/-! Encodings of 32-bit instructions, to which compressed ones expand. -/

/-- I-type. -/
def iType (opc f3 rd rs1 imm : Nat) : Nat := opc + rd * 2 ^ 7 + f3 * 2 ^ 12 + rs1 * 2 ^ 15 + imm % 2 ^ 12 * 2 ^ 20
/-- R-type. -/
def rType (opc f3 f7 rd rs1 rs2 : Nat) : Nat :=
  opc + rd * 2 ^ 7 + f3 * 2 ^ 12 + rs1 * 2 ^ 15 + rs2 * 2 ^ 20 + f7 * 2 ^ 25
/-- S-type. -/
def sType (f3 rs1 rs2 imm : Nat) : Nat :=
  0x23 + imm % 32 * 2 ^ 7 + f3 * 2 ^ 12 + rs1 * 2 ^ 15 + rs2 * 2 ^ 20 + imm / 32 % 128 * 2 ^ 25
/-- B-type. -/
def bType (f3 rs1 rs2 imm : Nat) : Nat :=
  0x63 + bits imm 11 11 * 2 ^ 7 + bits imm 4 1 * 2 ^ 8 + f3 * 2 ^ 12 + rs1 * 2 ^ 15 + rs2 * 2 ^ 20 + bits imm 10 5 * 2 ^ 25 +
    bits imm 12 12 * 2 ^ 31
/-- J-type. -/
def jType (rd imm : Nat) : Nat :=
  0x6F + rd * 2 ^ 7 + bits imm 19 12 * 2 ^ 12 + bits imm 11 11 * 2 ^ 20 + bits imm 10 1 * 2 ^ 21 + bits imm 20 20 * 2 ^ 31

/-- Sign extension of an n-bit immediate to m bits. -/
def sext (n m x : Nat) : Nat := wrapInt m (signExt n x)

/-- Expand a compressed instruction of quadrant 0, 1 or 2; none for an illegal or reserved one, and for the loads and stores of the floating-point
registers that RV64IMAC does not have. -/
def expand (h : Nat) : Option Nat :=
  let f3 := bits h 15 13
  let rd := bits h 11 7
  let rs2 := bits h 6 2
  let rdq := 8 + bits h 4 2
  let rsq := 8 + bits h 9 7
  let imm6 := bits h 12 12 * 32 + bits h 6 2
  let simm6 := sext 6 12 imm6
  match h % 4, f3 with
  | 0, 0 =>
    let imm := bits h 10 7 * 64 + bits h 12 11 * 16 + bits h 5 5 * 8 + bits h 6 6 * 4
    if imm = 0 then none else some (iType 0x13 0 rdq 2 imm)
  | 0, 2 => some (iType 0x03 2 rdq rsq (bits h 5 5 * 64 + bits h 12 10 * 8 + bits h 6 6 * 4))
  | 0, 3 => some (iType 0x03 3 rdq rsq (bits h 6 5 * 64 + bits h 12 10 * 8))
  | 0, 6 => some (sType 2 rsq rdq (bits h 5 5 * 64 + bits h 12 10 * 8 + bits h 6 6 * 4))
  | 0, 7 => some (sType 3 rsq rdq (bits h 6 5 * 64 + bits h 12 10 * 8))
  | 1, 0 => some (iType 0x13 0 rd rd simm6)
  | 1, 1 => if rd = 0 then none else some (iType 0x1B 0 rd rd simm6)
  | 1, 2 => some (iType 0x13 0 rd 0 simm6)
  | 1, 3 =>
    if imm6 = 0 then none
    else if rd = 2 then
      some (iType 0x13 0 2 2 (sext 10 12 (bits h 12 12 * 512 + bits h 4 3 * 128 + bits h 5 5 * 64 + bits h 2 2 * 32 + bits h 6 6 * 16)))
    else some (0x37 + rd * 2 ^ 7 + sext 6 20 imm6 * 2 ^ 12)
  | 1, 4 =>
    match bits h 11 10 with
    | 0 => some (iType 0x13 5 rsq rsq imm6)
    | 1 => some (iType 0x13 5 rsq rsq (imm6 + 0x400))
    | 2 => some (iType 0x13 7 rsq rsq simm6)
    | _ =>
      match bits h 12 12, bits h 6 5 with
      | 0, 0 => some (rType 0x33 0 0x20 rsq rsq rdq)
      | 0, 1 => some (rType 0x33 4 0 rsq rsq rdq)
      | 0, 2 => some (rType 0x33 6 0 rsq rsq rdq)
      | 0, _ => some (rType 0x33 7 0 rsq rsq rdq)
      | _, 0 => some (rType 0x3B 0 0x20 rsq rsq rdq)
      | _, 1 => some (rType 0x3B 0 0 rsq rsq rdq)
      | _, _ => none
  | 1, 5 =>
    some (jType 0 (sext 12 21 (bits h 12 12 * 2048 + bits h 8 8 * 1024 + bits h 10 9 * 256 + bits h 6 6 * 128 + bits h 7 7 * 64 +
      bits h 2 2 * 32 + bits h 11 11 * 16 + bits h 5 3 * 2)))
  | 1, n =>
    if n = 6 ∨ n = 7 then
      some (bType (n - 6) rsq 0 (sext 9 13 (bits h 12 12 * 256 + bits h 6 5 * 64 + bits h 2 2 * 32 + bits h 11 10 * 8 + bits h 4 3 * 2)))
    else none
  | 2, 0 => some (iType 0x13 1 rd rd imm6)
  | 2, 2 => if rd = 0 then none else some (iType 0x03 2 rd 2 (bits h 3 2 * 64 + bits h 12 12 * 32 + bits h 6 4 * 4))
  | 2, 3 => if rd = 0 then none else some (iType 0x03 3 rd 2 (bits h 4 2 * 64 + bits h 12 12 * 32 + bits h 6 5 * 8))
  | 2, 4 =>
    if bits h 12 12 = 0 then
      if rs2 = 0 then (if rd = 0 then none else some (iType 0x67 0 0 rd 0)) else some (rType 0x33 0 0 rd 0 rs2)
    else if rs2 = 0 then (if rd = 0 then some 0x00100073 else some (iType 0x67 0 1 rd 0))
    else some (rType 0x33 0 0 rd rd rs2)
  | 2, 6 => some (sType 2 2 rs2 (bits h 8 7 * 64 + bits h 12 9 * 4))
  | 2, 7 => some (sType 3 2 rs2 (bits h 9 7 * 64 + bits h 12 10 * 8))
  | _, _ => none

/-! Immediates. -/

/-- I-type immediate, as 64 bits. -/
def immI (w : Nat) : DWord := BitVec.ofNat 64 (sext 12 64 (bits w 31 20))
/-- S-type immediate. -/
def immS (w : Nat) : DWord := BitVec.ofNat 64 (sext 12 64 (bits w 31 25 * 32 + bits w 11 7))
/-- B-type immediate. -/
def immB (w : Nat) : DWord :=
  BitVec.ofNat 64 (sext 13 64 (bits w 31 31 * 4096 + bits w 7 7 * 2048 + bits w 30 25 * 32 + bits w 11 8 * 2))
/-- U-type immediate. -/
def immU (w : Nat) : DWord := BitVec.ofNat 64 (sext 32 64 (bits w 31 12 * 4096))
/-- J-type immediate. -/
def immJ (w : Nat) : DWord :=
  BitVec.ofNat 64 (sext 21 64 (bits w 31 31 * 2 ^ 20 + bits w 19 12 * 4096 + bits w 20 20 * 2048 + bits w 30 21 * 2))

/-! Arithmetic. -/

/-- 1 or 0 as a register value. -/
def flag (b : Bool) : DWord := if b then 1#64 else 0#64

/-- The base operations of OP and OP-IMM on `n` bits; `alt` is SUB or SRA. The shift amount is the low `k` bits of b. -/
def alu {n : Nat} (f3 : Nat) (alt : Bool) (k : Nat) (a b : BitVec n) : BitVec n :=
  let sh := b.toNat % 2 ^ k
  match f3 with
  | 0 => if alt then a - b else a + b
  | 1 => a <<< sh
  | 2 => if a.slt b then 1#n else 0#n
  | 3 => if a.ult b then 1#n else 0#n
  | 4 => a ^^^ b
  | 5 => if alt then a.sshiftRight sh else a >>> sh
  | 6 => a ||| b
  | _ => a &&& b

/-- The M extension on `n` bits: MUL, MULH, MULHSU, MULHU, DIV, DIVU, REM, REMU. -/
def muldiv {n : Nat} (f3 : Nat) (a b : BitVec n) : BitVec n :=
  let ua : Int := a.toNat
  let ub : Int := b.toNat
  let high (x : Int) : BitVec n := BitVec.ofInt n (x / (2 ^ n : Nat))
  match f3 with
  | 0 => a * b
  | 1 => high (a.toInt * b.toInt)
  | 2 => high (a.toInt * ub)
  | 3 => high (ua * ub)
  | 4 => if b = 0#n then BitVec.allOnes n else BitVec.ofInt n (a.toInt.tdiv b.toInt)
  | 5 => if b = 0#n then BitVec.allOnes n else BitVec.ofInt n (ua / ub)
  | 6 => if b = 0#n then a else BitVec.ofInt n (a.toInt.tmod b.toInt)
  | _ => if b = 0#n then a else BitVec.ofInt n (ua % ub)

/-- A 32-bit result as a register value. -/
def sx32 (w : Word) : DWord := w.signExtend 64

/-- Result of OP (0x33), OP-32 (0x3B), OP-IMM (0x13) and OP-IMM-32 (0x1B), none for a reserved encoding. -/
def arith (w : Nat) (a b : DWord) : Option DWord :=
  let f3 := bits w 14 12
  let f7 := bits w 31 25
  let a32 := a.setWidth 32
  let b32 := b.setWidth 32
  match w % 128 with
  | 0x33 =>
    if f7 = 1 then some (muldiv f3 a b)
    else if f7 = 0 ∨ (f7 = 0x20 ∧ (f3 = 0 ∨ f3 = 5)) then some (alu f3 (decide (f7 = 0x20)) 6 a b) else none
  | 0x3B =>
    if f7 = 1 then (if f3 = 0 ∨ 4 ≤ f3 then some (sx32 (muldiv f3 a32 b32)) else none)
    else if (f7 = 0 ∧ (f3 = 0 ∨ f3 = 1 ∨ f3 = 5)) ∨ (f7 = 0x20 ∧ (f3 = 0 ∨ f3 = 5)) then
      some (sx32 (alu f3 (decide (f7 = 0x20)) 5 a32 b32)) else none
  | 0x13 =>
    let i := immI w
    let f6 := bits w 31 26
    if f3 = 1 then (if f6 = 0 then some (alu 1 false 6 a i) else none)
    else if f3 = 5 then (if f6 = 0 ∨ f6 = 0x10 then some (alu 5 (decide (f6 = 0x10)) 6 a i) else none)
    else some (alu f3 false 6 a i)
  | _ =>
    let i := (immI w).setWidth 32
    if f3 = 0 then some (sx32 (alu 0 false 5 a32 i))
    else if f3 = 1 ∧ f7 = 0 then some (sx32 (alu 1 false 5 a32 i))
    else if f3 = 5 ∧ (f7 = 0 ∨ f7 = 0x20) then some (sx32 (alu 5 (decide (f7 = 0x20)) 5 a32 i))
    else none

/-- Is a branch taken; none for a reserved condition. -/
def branch (f3 : Nat) (a b : DWord) : Option Bool :=
  match f3 with
  | 0 => some (a == b)
  | 1 => some (a != b)
  | 4 => some (a.slt b)
  | 5 => some (!a.slt b)
  | 6 => some (a.ult b)
  | 7 => some (!a.ult b)
  | _ => none

/-- Bytes of a load or store by its width field, none where reserved. -/
def accessBytes (store : Bool) (f3 : Nat) : Option Nat :=
  match f3 with
  | 0 => some 1
  | 1 => some 2
  | 2 => some 4
  | 3 => some 8
  | 4 => if store then none else some 1
  | 5 => if store then none else some 2
  | 6 => if store then none else some 4
  | _ => none

/-- The register value of loaded bytes: sign-extended for LB, LH, LW and LD, zero-extended for LBU, LHU and LWU. -/
def loadValue (f3 n v : Nat) : DWord := BitVec.ofNat 64 (if f3 < 4 then sext (8 * n) 64 v else v)

/-- The value that an AMO stores, and the atom_op of Table 4.10 that does the same at another chip; none for a reserved operation. -/
def amo (f5 n old b : Nat) : Option (Nat × Nat) :=
  let w := 8 * n
  let so := signExt w old
  let sb := signExt w b
  match f5 with
  | 0x00 => some ((old + b) % 2 ^ w, 0)
  | 0x01 => some (b % 2 ^ w, 11)
  | 0x04 => some (natXor w old b, 10)
  | 0x08 => some (natOr w old b, 9)
  | 0x0C => some (natAnd w old b, 8)
  | 0x10 => some (if so ≤ sb then old else b % 2 ^ w, 2)
  | 0x14 => some (if so ≤ sb then b % 2 ^ w else old, 3)
  | 0x18 => some (if old ≤ b % 2 ^ w then old else b % 2 ^ w, 4)
  | 0x1C => some (if old ≤ b % 2 ^ w then b % 2 ^ w else old, 5)
  | _ => none

end Sys2Proof.Rv
end

