-- ==== Sys2Proof/Machine/Plan.lean ====
section
/-! DEFINITION. Machine/Plan.lean: plan programs on the control cores (R281 to R283). -/

namespace Sys2Proof.Machine

/-- Where one instruction of a plan program leads. -/
inductive RvOut
  | next (s : State)         -- it has executed, or has sent a request that it waits for
  | call (a7 : Nat)          -- ECALL
  | fault (code : Nat)       -- a kill code of R283
  | wait                     -- it cannot execute now
deriving DecidableEq, Repr

/-- A register. -/
def PlanCtx.r (p : PlanCtx) (i : Nat) : DWord := p.x.getD i 0#64

/-- Keep a plan context. -/
def State.putPlan (s : State) (ctx : Nat) (p : PlanCtx) : State := { s with fe.plans := s.fe.plans.put ctx p }

/-- Two bytes of code: a fault code, a wait while host memory is held, or the value and the state that has read it. Bytes of another chip are asked for with a READ, and
stand with the context until the instruction has executed. -/
def State.planParcel (s : State) (ctx : Nat) (p : PlanCtx) (pc : Nat) : RvOut ⊕ (Nat × State) :=
  let f := fnOfQueue p.queue
  match s.translate f pc .fetch with
  | .bad c => .inl (.fault c)
  | .ok t a =>
    if t = 0 then (if s.pocPoison a 2 then .inl (.fault 0x03) else .inr (ofLe (s.pocRead a 2), s.lookAt a 2))
    else if t = 2 then
      (if s.hostOpen f a false then
        let r := s.hostRead a 2
        .inr (ofLe r.1, r.2)
       else .inl .wait)
    else match p.code.find? (fun e => decide (e.1 = pc)) with
      | some e => .inr (e.2, s)
      | none =>
        let r := s.sendReq f p.queue 0x01 (bits a 59 48) 0 (a % 2 ^ 48) [] 0 (.planCode ctx pc)
        if r.1 = 0 then .inl (.next (r.2.putPlan ctx { p with wait := .remote }))
        else if r.1 = 0x100 then .inl .wait else .inl (.fault r.1)

/-- The instruction at the program counter, expanded to 32 bits, its length in bytes, and the state that has read it. -/
def State.planFetch (s : State) (ctx : Nat) (p : PlanCtx) : RvOut ⊕ (Nat × Nat × State) :=
  match s.planParcel ctx p p.pc with
  | .inl o => .inl o
  | .inr (h, s) =>
    if h % 4 ≠ 3 then
      (match Rv.expand h with
       | none => .inl (.fault 0x04)
       | some w => .inr (w, 2, s))
    else if h % 32 = 31 then .inl (.fault 0x04)
    else match s.planParcel ctx p ((p.pc + 2) % 2 ^ 64) with
      | .inl o => .inl o
      | .inr (g, s) => .inr (h + g * 65536, 4, s)

/-- Finish an instruction: a result register, and the next program counter. -/
def State.planNext (s : State) (ctx : Nat) (p : PlanCtx) (rd : Nat) (v : DWord) (pc : Nat) : RvOut :=
  .next (s.putPlan ctx { p.setX rd v with pc := pc % 2 ^ 64, rdata := none, code := [] })

/-- Send a request of a plan program to another chip and wait for its response. -/
def State.planSend (s : State) (ctx : Nat) (p : PlanCtx) (type op a : Nat) (data : List Byte) : RvOut :=
  let r := s.sendReq (fnOfQueue p.queue) p.queue type (bits a 59 48) op (a % 2 ^ 48) data 0 (.plan ctx)
  if r.1 = 0 then .next (r.2.putPlan ctx { p with wait := .remote })
  else if r.1 = 0x100 then .wait else .fault r.1

/-- LB to LD (R281). -/
def State.planLoad (s : State) (ctx : Nat) (p : PlanCtx) (w va len : Nat) : RvOut :=
  let f3 := bits w 14 12
  match Rv.accessBytes false f3 with
  | none => .fault 0x04
  | some n =>
    if va % n ≠ 0 then .fault 0x04
    else match s.translate (fnOfQueue p.queue) va .read with
      | .bad c => .fault c
      | .ok t a =>
        let fin (s : State) (l : List Byte) : RvOut :=
          s.planNext ctx p (bits w 11 7) (Rv.loadValue f3 n (ofLe (l.take n))) (p.pc + len)
        if t = 0 then (if s.pocPoison a n then .fault 0x03 else fin (s.lookAt a n) (s.pocRead a n))
        else if t = 2 then
          (if s.hostOpen (fnOfQueue p.queue) a false then
            let r := s.hostRead a n
            fin r.2 r.1
           else .wait)
        else match p.rdata with
          | some l => fin s l
          | none => s.planSend ctx p 0x01 0 a []

/-- Write the bytes of a control core at the home (Table 9.6); none while the home NACKs. -/
def State.planWrite (s : State) (a : Nat) (data : List Byte) : Option State :=
  let b := lineBytes a data
  s.homeWrite (a / 128) b.1 b.2

/-- SB to SD. -/
def State.planStore (s : State) (ctx : Nat) (p : PlanCtx) (w va len : Nat) : RvOut :=
  match Rv.accessBytes true (bits w 14 12) with
  | none => .fault 0x04
  | some n =>
    let data := leBytes n (p.r (bits w 24 20)).toNat
    if va % n ≠ 0 then .fault 0x04
    else match s.translate (fnOfQueue p.queue) va .write with
      | .bad c => .fault c
      | .ok t a =>
        if t = 0 then
          (match s.planWrite a data with
           | none => .next { s with l2.refused := some (a / 128) }
           | some s1 => s1.planNext ctx p 0 0#64 (p.pc + len))
        else if t = 2 then
          (if s.hostOpen (fnOfQueue p.queue) a true then (s.hostWrite a data).planNext ctx p 0 0#64 (p.pc + len) else .wait)
        else match p.rdata with
          | some _ => s.planNext ctx p 0 0#64 (p.pc + len)
          | none => s.planSend ctx p 0x02 0 a data

/-- LR, SC and the AMOs at an address in device memory. -/
def State.planAmoHere (s : State) (ctx : Nat) (p : PlanCtx) (w a n len : Nat) : RvOut :=
  let f5 := bits w 31 27
  let rd := bits w 11 7
  let b := (p.r (bits w 24 20)).toNat % 2 ^ (8 * n)
  let old := ofLe (s.pocRead a n)
  let old64 := Rv.loadValue 0 n old
  if f5 = 0x02 then
    if bits w 24 20 ≠ 0 then .fault 0x04
    else if s.pocPoison a n then .fault 0x03
    else State.planNext { (s.lookAt a n) with l2.resv := s.l2.resv.put ctx (a, n) } ctx p rd old64 (p.pc + len)
  else if f5 = 0x03 then
    let held := decide (s.l2.resv.get? ctx = some (a, n))
    let s0 := { s with l2.resv := s.l2.resv.del ctx }
    if !held then s0.planNext ctx p rd 1#64 (p.pc + len)
    else (match s0.planWrite a (leBytes n b) with
      | none => .next { s with l2.refused := some (a / 128) }
      | some s1 => s1.planNext ctx p rd 0#64 (p.pc + len))
  else match Rv.amo f5 n old b with
    | none => .fault 0x04
    | some (v, _) =>
      if s.pocPoison a n then .fault 0x03
      else (match s.planWrite a (leBytes n v) with
        | none => .next { s with l2.refused := some (a / 128) }
        | some s1 => s1.planNext ctx p rd old64 (p.pc + len))

/-- LR, SC and the AMOs. -/
def State.planAmo (s : State) (ctx : Nat) (p : PlanCtx) (w va len : Nat) : RvOut :=
  let f3 := bits w 14 12
  let f5 := bits w 31 27
  let n := if f3 = 2 then 4 else 8
  if f3 ≠ 2 ∧ f3 ≠ 3 then .fault 0x04
  else if (Rv.amo f5 n 0 0).isNone ∧ f5 ≠ 0x02 ∧ f5 ≠ 0x03 then .fault 0x04
  else if va % n ≠ 0 then .fault 0x04
  else
    let f := fnOfQueue p.queue
    let rd := bits w 11 7
    let b := (p.r (bits w 24 20)).toNat % 2 ^ (8 * n)
    match s.translate f va (if f5 = 0x02 then .read else .write) with
    | .bad c => .fault c
    | .ok t a =>
      if t = 0 then s.planAmoHere ctx p w a n len
      else if f5 = 0x03 then s.planNext ctx p rd 1#64 (p.pc + len)
      else if t = 2 then
        -- the host's own memory takes a read and then a write
        (if !s.hostOpen f a (!decide (f5 = 0x02)) then .wait
         else
          let r := s.hostRead a n
          let old := ofLe r.1
          if f5 = 0x02 then r.2.planNext ctx p rd (Rv.loadValue 0 n old) (p.pc + len)
          else match Rv.amo f5 n old b with
            | none => .fault 0x04
            | some (v, _) => (r.2.hostWrite a (leBytes n v)).planNext ctx p rd (Rv.loadValue 0 n old) (p.pc + len))
      else match p.rdata with
        | some l => s.planNext ctx p rd (Rv.loadValue 0 n (ofLe (l.take n))) (p.pc + len)
        | none =>
          if f5 = 0x02 then s.planSend ctx p 0x01 0 a []
          else match Rv.amo f5 n 0 b with
            | none => .fault 0x04
            | some (_, op) => s.planSend ctx p 0x03 (atomReqOp op n false) a (atomReqData b 0)

/-- SYSTEM: ECALL, and reads of the CSRs cycle, time and instret (R281). cycle and instret count handshakes, a number that the spec leaves open:
a free value (log entry 1). -/
def State.planSystem (s : State) (ctx : Nat) (p : PlanCtx) (w len : Nat) : RvOut :=
  let f3 := bits w 14 12
  let csr := bits w 31 20
  if w = 0x73 then .call (p.r 17).toNat
  else if f3 = 0 ∨ f3 = 4 then .fault 0x04
  else if f3 = 1 ∨ f3 = 5 ∨ bits w 19 15 ≠ 0 then .fault 0x04
  else if csr = 0xC01 then s.planNext ctx p (bits w 11 7) (BitVec.ofNat 64 (s.domainTime 17)) (p.pc + len)
  else if csr = 0xC00 ∨ csr = 0xC02 then
    let r := s.freeVal 64
    r.2.planNext ctx p (bits w 11 7) (BitVec.ofNat 64 r.1) (p.pc + len)
  else .fault 0x04

/-- One instruction of a plan program, given its 32 bits and its length. -/
def State.planExec (s : State) (ctx : Nat) (p : PlanCtx) (w len : Nat) : RvOut :=
  let rd := bits w 11 7
  let a := p.r (bits w 19 15)
  let b := p.r (bits w 24 20)
  let f3 := bits w 14 12
  let pc := p.pc
  let at0 (x : DWord) : Nat := (BitVec.ofNat 64 pc + x).toNat
  match w % 128 with
  | 0x37 => s.planNext ctx p rd (Rv.immU w) (pc + len)
  | 0x17 => s.planNext ctx p rd (BitVec.ofNat 64 pc + Rv.immU w) (pc + len)
  | 0x6F => s.planNext ctx p rd (BitVec.ofNat 64 (pc + len)) (at0 (Rv.immJ w))
  | 0x67 =>
    if f3 ≠ 0 then .fault 0x04
    else s.planNext ctx p rd (BitVec.ofNat 64 (pc + len)) ((a + Rv.immI w).toNat / 2 * 2)
  | 0x63 =>
    match Rv.branch f3 a b with
    | none => .fault 0x04
    | some t => s.planNext ctx p 0 0#64 (if t then at0 (Rv.immB w) else pc + len)
  | 0x03 => s.planLoad ctx p w (a + Rv.immI w).toNat len
  | 0x23 => s.planStore ctx p w (a + Rv.immS w).toNat len
  | 0x2F => s.planAmo ctx p w a.toNat len
  | 0x0F => if f3 = 0 then s.planNext ctx p 0 0#64 (pc + len) else .fault 0x04
  | 0x73 => s.planSystem ctx p w len
  | 0x13 => match Rv.arith w a b with
    | none => .fault 0x04
    | some v => s.planNext ctx p rd v (pc + len)
  | 0x1B => match Rv.arith w a b with
    | none => .fault 0x04
    | some v => s.planNext ctx p rd v (pc + len)
  | 0x33 => match Rv.arith w a b with
    | none => .fault 0x04
    | some v => s.planNext ctx p rd v (pc + len)
  | 0x3B => match Rv.arith w a b with
    | none => .fault 0x04
    | some v => s.planNext ctx p rd v (pc + len)
  | _ => .fault 0x04

/-- May a plan context execute? Its queue runs; or the queue is being preempted and an access of the context has been answered, whose instruction finishes first (log entry 28). -/
def State.planRuns (s : State) (p : PlanCtx) : Bool :=
  (!p.stopped && decide ((s.q p.queue).state = .running) && s.mayRun (fnOfQueue p.queue)) ||
    (decide ((s.q p.queue).state = .preempting) && p.rdata.isSome)

/-- The next step of a plan context that runs. -/
def State.planStep (s : State) (ctx : Nat) (p : PlanCtx) : RvOut :=
  if p.wait ≠ .none ∨ !s.planRuns p then .wait
  else match s.planFetch ctx p with
    | .inl o => o
    | .inr (w, len, t) => t.planExec ctx p w len

/-- CONTROL_CORE_INSTRUCTION (R281): the instruction at the program counter executes, unless it is an ECALL or faults. -/
def controlCoreInstruction (ctx : Nat) (s : State) : State :=
  match s.fe.plans.get? ctx with
  | none => s
  | some p =>
    match s.planStep ctx p with
    | .next t => t
    | _ => s

/-- A plan program's instruction that ended on poison: its own bytes, or the data that it addresses, have been consumed. -/
def State.planPoison (s : State) (ctx : Nat) (p : PlanCtx) (code : Nat) : State :=
  let f := fnOfQueue p.queue
  match s.planFetch ctx p with
  | .inl _ => s.sawPoison code f p.pc 4
  | .inr (w, _, _) =>
    let a := (p.r (bits w 19 15)).toNat
    s.sawPoison code f (if bits w 6 0 = 0x2F then a else (p.r (bits w 19 15) + Rv.immI w).toNat) 8

/-- PLAN_FAULT (R282, R283): the instruction at the program counter faults, or calls with a code that Table 11.11 does not list. -/
def planFault (ctx : Nat) (s : State) : State :=
  match s.fe.plans.get? ctx with
  | none => s
  | some p =>
    match s.planStep ctx p with
    | .fault c => (s.planPoison ctx p c).killAt p.queue c p.node
    | .call a7 => if 4 < a7 then s.killAt p.queue 0x04 p.node else s
    | _ => s

/-- A plan context at an ECALL with a code. -/
def State.atCall (s : State) (ctx a7 : Nat) : Option PlanCtx :=
  match s.fe.plans.get? ctx with
  | none => none
  | some p =>
    match s.planStep ctx p with
    | .call n => if n = a7 then some p else none
    | _ => none

/-- A plan context that waits in a call and whose queue runs. -/
def State.inWait (s : State) (ctx : Nat) : Option PlanCtx :=
  match s.fe.plans.get? ctx with
  | none => none
  | some p =>
    if p.stopped ∨ (s.q p.queue).state ≠ .running ∨ !s.mayRun (fnOfQueue p.queue) then none else some p

/-- Return from a call: a0 and the next instruction. -/
def State.planReturn (s : State) (ctx : Nat) (p : PlanCtx) (a0 : DWord) : State :=
  s.putPlan ctx { p.setX 10 a0 with wait := .none, pc := (p.pc + 4) % 2 ^ 64, code := [] }

/-- PLAN_EXIT (Table 11.11): the program ends and its context is free. -/
def planExit (ctx : Nat) (s : State) : State :=
  match s.atCall ctx 0 with
  | none => s
  | some p =>
    let tags := s.nodeTags p.node
    let s1 := (s.nodeDone p.node).addQty p.queue 6 (s.time.mono - p.since) tags.1 tags.2
    { s1 with fe.plans := s1.fe.plans.del ctx, l2.resv := s1.l2.resv.del ctx }

/-- Handles of a PLAN node. -/
def State.handlesOf (s : State) (node : Nat) : SMap Nat := s.fe.handles.getD node []

/-- The handle that the next LAUNCH gives: the lowest one that is free, else the lowest one of a complete launch; none while 16 launches are
incomplete. -/
def State.nextHandle (s : State) (node : Nat) : Option Nat :=
  let h := s.handlesOf node
  match (List.range 16).find? (fun i => !h.has i) with
  | some i => some i
  | none => (List.range 16).find? (fun i => match h.get? i with
    | some g => !s.fe.graphs.has g
    | none => true)

/-- LAUNCH of a plan program (R275, R282). -/
def State.planLaunchNow (s : State) (ctx : Nat) (p : PlanCtx) : State :=
  match s.fe.nodes.get? p.node with
  | none => s
  | some n =>
    if 8 ≤ n.depth then s.killAt p.queue 0x04 p.node
    else match s.nextHandle p.node with
      | none => s.putPlan ctx { p with wait := .launchFull }
      | some h =>
        match s.pin p.queue n.ring none (some (p.node, h)) (n.depth + 1) (p.r 10).toNat (p.r 11).toNat (.node p.node) with
        | .wait t => t
        | .bad c ed t => State.killAt { t with fe.nodes := t.fe.nodes.mapVals (fun k n => if k = p.node then
            { n with pins := n.pins ++ (ed.elim [] (fun e => [((p.r 10).toNat, e)])) } else n) } p.queue c p.node
        | .ok g t =>
          let hs := (t.handlesOf p.node).put h t.fe.nextGraph
          State.planReturn { t with
            fe.graphs := t.fe.graphs.put t.fe.nextGraph g, fe.nextGraph := t.fe.nextGraph + 1
            fe.handles := t.fe.handles.put p.node hs } ctx p (BitVec.ofNat 64 h)

/-- PLAN_LAUNCH (R282), also of a call that waited for a launch to complete. -/
def planLaunch (ctx : Nat) (s : State) : State :=
  match s.inWait ctx with
  | none => s
  | some p =>
    if p.wait = .launchFull then s.planLaunchNow ctx p
    else match s.atCall ctx 1 with
      | none => s
      | some p => s.planLaunchNow ctx p

/-- WAIT_GRAPH on a handle: it returns when that launch is complete, and the handle is free. A handle that names no launch returns at once (log
entry 17). -/
def State.waitGraphNow (s : State) (ctx : Nat) (p : PlanCtx) (h : Nat) : State :=
  match (s.handlesOf p.node).get? h with
  | none => s.planReturn ctx p (p.r 10)
  | some g =>
    if s.fe.graphs.has g then s.putPlan ctx { p with wait := .graph h }
    else
      State.planReturn { s with fe.handles := s.fe.handles.put p.node ((s.handlesOf p.node).del h) } ctx p (p.r 10)

/-- PLAN_WAIT_GRAPH (R282). -/
def planWaitGraph (ctx : Nat) (s : State) : State :=
  match s.inWait ctx with
  | none => s
  | some p =>
    match p.wait with
    | .graph h => s.waitGraphNow ctx p h
    | _ =>
      match s.atCall ctx 2 with
      | none => s
      | some p => s.waitGraphNow ctx p (p.r 10).toNat

/-- PLAN_SYNC (R282, R156 to R158): the operation goes to its object and the call waits for the status. -/
def planSync (ctx : Nat) (s : State) : State :=
  match s.atCall ctx 3 with
  | none => s
  | some p =>
    if 6 < (p.r 11).toNat then s.killAt p.queue 0x04 p.node
    else
      let r := s.issueSync p.queue (p.r 10).toNat (p.r 11).toNat (p.r 12).toNat (.plan ctx)
      if r.1 = 0 then r.2.putPlan ctx { p with wait := .sync }
      else if r.1 = 0x100 then s
      else s.killAt p.queue r.1 p.node

/-- PLAN_YIELD (R282). -/
def planYield (ctx : Nat) (s : State) : State :=
  match s.atCall ctx 4 with
  | none => s
  | some p => s.planReturn ctx p (p.r 10)

/-! The meanings. -/

/-- PLAN_EXIT (R282). -/
def execPlanExit (ctx : Nat) (s : State) : Host.Outcome State Fault Refusal :=
  .next (planExit ctx s)
/-- PLAN_LAUNCH (R282). -/
def execPlanLaunch (ctx : Nat) (s : State) : Host.Outcome State Fault Refusal :=
  .next (s.unit 2 ctx (planLaunch ctx))
/-- PLAN_WAIT_GRAPH (R282). -/
def execPlanWaitGraph (ctx : Nat) (s : State) : Host.Outcome State Fault Refusal :=
  .next (planWaitGraph ctx s)
/-- PLAN_SYNC (R282). -/
def execPlanSync (ctx : Nat) (s : State) : Host.Outcome State Fault Refusal :=
  .next (planSync ctx s)
/-- PLAN_YIELD (R282). -/
def execPlanYield (ctx : Nat) (s : State) : Host.Outcome State Fault Refusal :=
  .next (planYield ctx s)
/-- PLAN_FAULT (R283). -/
def execPlanFault (ctx : Nat) (s : State) : Host.Outcome State Fault Refusal :=
  .next (planFault ctx s)
/-- CONTROL_CORE_INSTRUCTION (R281). -/
def execControlCoreInstruction (ctx : Nat) (s : State) : Host.Outcome State Fault Refusal :=
  .next (s.unit 2 ctx (controlCoreInstruction ctx))

end Sys2Proof.Machine
end

