-- ==== Sys2Proof/Machine/Preempt.lean ====
section
/-! DEFINITION. Machine/Preempt.lean: the save and the restore of blocks: the records of Tables 5.7 and 5.8 and the matrix image of Table 7.12 (R121 to R124,
R188, R290, R291). -/

namespace Sys2Proof.Machine

/-- The group save record (Table 5.7), with the watchdog time used up to `now`. -/
def Group.record (g : Group) (now : Nat) : List Byte :=
  let used := match g.gbarSince with
    | some t => if g.gbar = 0 then 0 else g.gbarUsed + (now - t)
    | none => 0
  leBytes 1 1 ++ leBytes 1 (if g.width = 64 then 1 else 0) ++ leBytes 1 (g.vregs / 8) ++ leBytes 1 g.inBlock ++ zeroBytes 4 ++
    leBytes 8 g.live ++ leBytes 8 g.gbar ++ leBytes 8 g.yielded ++ leBytes 8 used ++ leBytes 4 g.layer ++ leBytes 2 g.operator ++ zeroBytes 18 ++
    (List.range 64).flatMap (fun t => leBytes 8 (if t < g.width then g.pcs.getD t 0 else 0)) ++
    (List.range 64).flatMap (fun r => leBytes 8 (g.s.getD r 0#64).toNat) ++
    (List.range 64).flatMap (fun t => leBytes 1 (g.p.getD t 0 % 128 + 128)) ++
    (List.range g.vregs).flatMap (fun r => (List.range g.width).flatMap (fun t => leBytes 4 (g.v.getD (r * 64 + t) 0#32).toNat))

/-- The matrix image (Table 7.12). -/
def Mx.image (m : Mx) : List Byte :=
  let cells (i : Nat) : List Byte := packElems 12 ((List.range 4096).map (fun x => (m.setOf i).weights.getD x 0))
  let scales (i : Nat) : List Byte := (List.range 256).map (fun x => BitVec.ofNat 8 ((m.setOf i).scales.getD x 0))
  (List.range 65536).flatMap (fun x => leBytes 4 (m.acc.getD x 0#32).toNat) ++ cells 0 ++ cells 1 ++ scales 0 ++ scales 1 ++
    leBytes 8 (m.setOf 0).cfg ++ leBytes 8 (m.setOf 1).cfg ++
    leBytes 1 (m.active + 2 * b2n (m.setOf 0).configured + 4 * b2n (m.setOf 1).configured) ++ zeroBytes 3567

/-- A list of numbers as a table that lists no zero. -/
def sparse (l : List Nat) : SMap Nat := ((List.range l.length).zip l).filter (fun e => !decide (e.2 = 0))

/-- The array that a matrix image holds (R188). -/
def Mx.ofImage (l : List Byte) : Mx :=
  let acc := (List.range 65536).map (fun x => fieldAt l (4 * x) 4)
  let flags := fieldAt l 0x43210 1
  let set (i : Nat) : MxSet :=
    { configured := bit flags (1 + i), cfg := fieldAt l (0x43200 + 8 * i) 8
      weights := sparse ((List.range 4096).map (packedElem ((l.drop (0x40000 + 0x1800 * i)).take 6144) 12))
      scales := sparse ((List.range 256).map (fun x => fieldAt l (0x43000 + 256 * i + x) 1)) }
  { Mx.initial with
    active := b2n (bit flags 0), sets := [(0, set 0), (1, set 1)]
    acc := (sparse acc).map (fun e => (e.1, BitVec.ofNat 32 e.2)) }

/-- The block save record (Table 5.8). -/
def Block.record (b : Block) (groups : Nat) (m : Mx) : List Byte :=
  leBytes 1 1 ++ leBytes 1 groups ++ leBytes 1 (b2n b.matrix) ++ zeroBytes 1 ++ leBytes 4 b.scratchBytes ++ zeroBytes 56 ++
    cellBytes b.scratch 0 b.scratchBytes ++ (if b.matrix then m.image else [])

/-- Stop the groups of slots. -/
def Core.stopSlots (k : Core) (l : List Nat) : Core :=
  { k with groups := k.groups.mapVals (fun i g => if l.contains i then { g with stopped := true } else g) }

/-- May a queue's resident blocks be saved: it is being pre-empted, or a core that narrows or fails gives them up (R105, R121)? -/
def State.savesBlocks (s : State) (q : Nat) (b : Block) : Bool :=
  let x := s.q q
  decide (x.state = .preempting) || (b.saving.isSome && (decide (x.state = .running) || (decide (x.state = .preempted) && x.resumePending)))

/-- CORE_PREEMPT_REQUEST (R121): the groups of the block stop, and the front end supplies the address of its record. The front end itself keeps the records of a block
that a core gives up while the save area has no room for them, so that it resumes on another core (R105, log entry 28). -/
def corePreemptRequest (core block : Nat) (s : State) : State :=
  let k := s.core core
  match k.blocks.get? block with
  | none => s
  | some b =>
    let live := k.savedSlots b
    let used := s.stillSaved b.queue
    let need := k.blockSaveBytes b
    let faulted := b.slots.any (fun sl => match k.groups.get? sl with
      | some g => g.faulted
      | none => false)
    if !s.savesBlocks b.queue b ∨ b.saveAddr.isSome ∨ live.isEmpty ∨ faulted then s
    else if s.qnum E.queueSaveBytes b.queue < 64 + used + need then
      if (s.q b.queue).state = .preempting then s
      else s.modCore core (fun k => { k.stopSlots live with blocks := k.blocks.put block { b with saving := some [], saveAddr := some 0, kept := true } })
    else
      let at0 := s.qnum E.queueSaveBase b.queue + 64 + used
      State.modQ (s.modCore core (fun k =>
        { k.stopSlots live with blocks := k.blocks.put block { b with saving := some [], saveAddr := some at0 } })) b.queue
        (fun x => { x with saveUsed := used + need })

/-- Has everything that a group issued completed, and every wait of it ended or been cancelled (R121, R157)? -/
def State.groupIdle (s : State) (c slot : Nat) : Bool :=
  !s.groupBusy c slot && !s.groupWaits c slot && !s.l2.loads.vals.any (fun l => decide (l.core = c ∧ l.slot = slot))

/-- GROUP_SAVE (R121, Table 5.7). -/
def groupSave (core slot : Nat) (s : State) : State :=
  let k := s.core core
  match k.blockOf slot, k.groups.get? slot with
  | some (key, b), some g =>
    match b.saving, b.saveAddr with
    | some done, some at0 =>
      if done.contains slot ∨ g.live = 0 ∨ g.faulted ∨ !g.stopped ∨ !s.savesBlocks b.queue b ∨ !s.groupIdle core slot then s
      else
        let before := (k.savedSlots b).takeWhile (fun x => !decide (x = slot))
        let s1 := if b.kept then s else s.saveWrite b.queue (at0 + align64 b.recBytes + k.slotBytes before) (g.record s.time.mono)
        s1.modCore core (fun k => { k with blocks := k.blocks.put key { b with saving := some (done ++ [slot]) } })
    | _, _ => s
  | _, _ => s

/-- The records of a block as they stand in a save area (R291): the block record and its group records, each aligned to 64 bytes. -/
def Core.blockImage (k : Core) (b : Block) (now : Nat) : List Byte :=
  let pad (l : List Byte) : List Byte := l ++ zeroBytes (align64 l.length - l.length)
  pad (b.record b.slots.length k.mx) ++ b.slots.flatMap (fun sl => match k.groups.get? sl with
    | some g => pad (g.record now)
    | none => [])

/-- BLOCK_SAVE_COMPLETE (R121, R122, Table 5.8): once every group is saved, the matrix array has finished and the queue's stores from the core are performed, the block
record is written and the block leaves the core. -/
def blockSaveComplete (core block : Nat) (s : State) : State :=
  let k := s.core core
  match k.blocks.get? block with
  | none => s
  | some b =>
    match b.saving, b.saveAddr with
    | some done, some at0 =>
      if !b.slots.all done.contains ∨ b.slots.isEmpty ∨ !s.savesBlocks b.queue b ∨ (b.matrix && !k.mx.queue.isEmpty) ∨
          k.sb.any (fun e => decide (e.queue = b.queue)) then s
      else
        let saved : SavedBlock :=
          { node := b.node, block := b.block, groups := b.slots.length, width := if k.narrow = 0 then 32 else 64, addr := at0
            kept := if b.kept then some (k.blockImage b s.time.mono) else none }
        let s1 := if b.kept then s else s.saveWrite b.queue at0 (b.record b.slots.length k.mx)
        let s2 := b.slots.foldl (fun s sl => s.freeSlot core sl) s1
        (s2.freeBlock core block 1).modQ b.queue (fun x => { x with savedBlocks := x.savedBlocks ++ [saved] })
    | _, _ => s

/-- A group from its record, and the bytes of the record; a code where R123 rejects it. -/
def groupOfRec (n : Node) (q node block now : Nat) (narrow : Bool) (l : List Byte) : Except Nat Group :=
  let width := if narrow then 64 else 32
  let steps := fieldAt l 2 1
  let m := 2 ^ width
  if fieldAt l 0 1 ≠ 1 ∨ fieldAt l 1 1 ≠ b2n narrow ∨ steps = 0 ∨ 32 < steps then .error 0x04
  else
    let gbar := fieldAt l 0x10 8 % m
    .ok { queue := q, node := node, block := block, inBlock := fieldAt l 3 1 % 64, layer := fieldAt l 0x28 4 % 2 ^ 24
          operator := fieldAt l 0x2C 2, ring := n.ring, depth := n.depth, nodeIndex := n.index, width := width, vregs := 8 * steps
          live := fieldAt l 8 8 % m, gbar := gbar, yielded := fieldAt l 0x18 8 % m
          pcs := (List.range width).map (fun t => (t, fieldAt l (0x40 + 8 * t) 8 % 2 ^ 57))
          v := ((List.range (8 * steps * width)).map (fun i => (i / width * 64 + i % width, BitVec.ofNat 32 (fieldAt l (0x480 + 4 * i) 4)))).filter
            (fun e => !decide (e.2 = 0#32))
          s := (List.range 64).map (fun r => (r, BitVec.ofNat 64 (fieldAt l (0x240 + 8 * r) 8)))
          p := (List.range width).map (fun t => (t, fieldAt l (0x440 + t) 1 % 128))
          gbarSince := if gbar = 0 then none else some now, gbarUsed := fieldAt l 0x20 8, waiting := 0, ages := [], stopped := false, faulted := false }

/-- Bytes of the records of a saved block, from its first: from the save area, or as the front end keeps them. -/
def State.readSaved (s : State) (f : Nat) (x : SavedBlock) (off n : Nat) : Got :=
  match x.kept with
  | some l => .bytes (((l.drop off).take n) ++ zeroBytes (n - (l.length - off)))
  | none => s.readV f (x.addr + off) n

/-- The group records of a block, one after another from a place among its records: the groups, or a kill code. -/
def State.readGroups (s : State) (f : Nat) (x : SavedBlock) (n : Node) (q node block : Nat) (narrow : Bool) : Nat → Nat → Except Nat (List Group)
  | 0, _ => .ok []
  | k + 1, va =>
    match s.readSaved f x va 64 with
    | .bad c => .error c
    | .bytes h =>
      let size := 1152 + 4 * (8 * fieldAt h 2 1) * (if narrow then 64 else 32)
      match s.readSaved f x va (min size 66688) with
      | .bad c => .error c
      | .bytes l =>
        match groupOfRec n q node block s.time.mono narrow l with
        | .error c => .error c
        | .ok g =>
          match State.readGroups s f x n q node block narrow k (va + align64 size) with
          | .error c => .error c
          | .ok t => .ok (g :: t)

/-- Scratch contents as a table without zeros. -/
def scratchOf (l : List Byte) : List Host.Cell := ((List.range l.length).zip l).filter (fun e => !decide (e.2 = 0#8))

/-- Restore one saved block on a core (R123). -/
def State.restoreBlock (s : State) (q core : Nat) (x : SavedBlock) (n : Node) (l : Launch) : State :=
  let f := fnOfQueue q
  let k := s.core core
  let narrow := !decide (k.narrow = 0)
  let img := if l.matrix then matrixImageBytes else 0
  match s.readSaved f x 0 (64 + l.scratch + img) with
  | .bad c => (s.sawPoison c f x.addr (64 + l.scratch + img)).kill q c n.site
  | .bytes r =>
    if fieldAt r 0 1 ≠ 1 then s.kill q 0x04 n.site
    else match s.readGroups f x n q x.node x.block narrow x.groups (align64 (64 + l.scratch + img)) with
      | .error c => s.kill q c n.site
      | .ok groups =>
        if !k.hasRoom (groups.map Group.vregs) l.scratch l.matrix then s
        else
          let b : Block :=
            { queue := q, node := x.node, block := x.block, slots := [], freed := l.groups - x.groups, scratchBytes := l.scratch
              scratch := scratchOf ((r.drop 64).take l.scratch), scratchBad := [], matrix := l.matrix, saving := none, saveAddr := none, kept := false, since := s.time.mono
              layer := n.layer, operator := n.operator }
          (s.installBlock core b groups (if l.matrix then some (Mx.ofImage (r.drop (64 + l.scratch))) else none)).modQ q (fun y => { y with
            savedBlocks := y.savedBlocks.filter (fun e => !decide (e = x)) })

/-- BLOCK_RESTORE (R123, R291): the first saved block of the queue that the core's width can run. -/
def blockRestore (queue core : Nat) (s : State) : State :=
  let x := s.q queue
  let open0 := decide (x.state = .running) || (decide (x.state = .preempted) && x.resumePending)
  let width := if (s.core core).narrow = 0 then 32 else 64
  match x.savedBlocks.find? (fun b => decide (b.width = width)) with
  | none => s
  | some b =>
    if !open0 ∨ !s.mayRun (fnOfQueue queue) ∨ (s.core core).state ≠ 0 ∨ !(s.coresOf (s.fnPart (fnOfQueue queue))).contains core then s
    else match s.fe.nodes.get? b.node, s.fe.launches.get? b.node with
      | some n, some l => s.restoreBlock queue core b n l
      | _, _ => s

/-! The meanings. -/

/-- CORE_PREEMPT_REQUEST (R121). -/
def execCorePreemptRequest (core : Nat) (block : Nat) (s : State) : Host.Outcome State Fault Refusal :=
  .next (corePreemptRequest core block s)
/-- GROUP_SAVE (R121). -/
def execGroupSave (core : Nat) (slot : Nat) (s : State) : Host.Outcome State Fault Refusal :=
  .next (s.unit 7 (core * 64 + slot) (groupSave core slot))
/-- BLOCK_SAVE_COMPLETE (R122). -/
def execBlockSaveComplete (core : Nat) (block : Nat) (s : State) : Host.Outcome State Fault Refusal :=
  .next (s.unit 8 (core * 64 + block) (blockSaveComplete core block))
/-- BLOCK_RESTORE (R123). -/
def execBlockRestore (queue : Nat) (core : Nat) (s : State) : Host.Outcome State Fault Refusal :=
  .next (blockRestore queue core s)

end Sys2Proof.Machine
end

