-- ==== Sys2Proof/Machine/Regs.lean ====
section
/-! DEFINITION. Machine/Regs.lean: BAR0. Where each register stands and how wide it is, what it reads, what a write of the whole register does, the rules of width and alignment over
them (R9, R10, R317), and the four error logs (R63, R100, R238, R374). -/

namespace Sys2Proof.Machine

/-! Places and widths. -/

/-- Does an offset lie in a run of `count` blocks of `stride` bytes from `lo`? -/
def inRun (off lo stride count : Nat) : Bool := decide (lo ≤ off ∧ off < lo + stride * count)

/-- Is an offset, eight bytes aligned, that of a 64-bit register that every function has? -/
def wideEvery (off : Nat) : Bool :=
  [0x10, 0x1000, 0x7000, 0x7008, 0x7010].contains off || inRun off 0xC00 8 128 || inRun off 0x8400 8 128 ||
    (inRun off 0xC000 0x40 16 && [0x08, 0x10, 0x18, 0x20].contains (off % 0x40)) ||
    (inRun off 0x10000 0x40 16 && [0x10, 0x18, 0x20].contains (off % 0x40))

/-- Is an offset, eight bytes aligned, that of a 64-bit register of F0 alone? -/
def wideF0 (off : Nat) : Bool :=
  [0x1010, 0x1018, 0x4008, 0x4010, 0x4018, 0x5008, 0x6008, 0x6010, 0x40008, 0x42008, 0x42010, 0x43008].contains off ||
    inRun off 0x100 8 4 || (inRun off 0x20000 0x40 384 && [0x08, 0x10, 0x18, 0x20, 0x28].contains (off % 0x40)) ||
    (inRun off 0x28000 0x20 384 && [0x08, 0x10].contains (off % 0x20)) || inRun off 0x2D000 8 64 || inRun off 0x2D400 8 6 ||
    inRun off 0x40100 8 32 || inRun off 0x40210 8 4 || inRun off 0x40240 8 8 || inRun off 0x41010 8 2 || inRun off 0x42100 8 16 || isCntValue off

/-- Is an offset, eight bytes aligned, that of a 64-bit register of a function? -/
def wideReg (f off : Nat) : Bool := wideEvery off || (decide (f = 0) && wideF0 off)

/-- Offset of the register that holds a byte. -/
def regBase (f off : Nat) : Nat := if wideReg f (off / 8 * 8) then off / 8 * 8 else off / 4 * 4

/-- Is a register marked "32-bit access only" (Tables 11.17, 11.23, 13.15, 18.5, 19.9 and 19.17, and SVC_QP_DOORBELL)? -/
def only32 (off : Nat) : Bool :=
  [0x18, 0x2000, 0x8000].contains off || inRun off 0x400 4 64 || (inRun off 0xC000 0x40 16 && decide (off % 0x40 = 4)) ||
    (inRun off 0x10000 0x40 16 && decide (off % 0x40 = 4)) || (inRun off 0x30000 0x1000 16 && decide (off % 0x1000 = 0))

/-- Size of a function's BAR0 (R317). -/
def bar0Size (f : Nat) : Nat := if f = 0 then 2 ^ 26 else 2 ^ 18

/-! What a register reads. A WO field reads as zero. -/

/-- Code of a gate (Table 13.8). -/
def gateCode : Gate → Nat
  | .disabled => 0
  | .opened => 1
  | .draining => 2
  | .resetting => 3

/-- Code of a queue state (Table 11.1). -/
def QState.code : QState → Nat
  | .disabled => 0
  | .idle => 1
  | .running => 2
  | .preempting => 3
  | .preempted => 4
  | .killing => 5
  | .killed => 6
  | .resetting => 7

/-- Code of a trace buffer's state (Table 19.14). -/
def TrcState.code : TrcState → Nat
  | .disabled => 0
  | .running => 1
  | .post => 2
  | .stopping => 3
  | .stopped => 4
  | .fault => 5

/-- The HIF registers of a function (Tables 13.13 to 13.16). -/
def State.readHif (s : State) (f off : Nat) : Nat :=
  let x := s.fn f
  if off = 0 then
    f * 2 ^ 24 + s.fnPart f % 64 * 2 ^ 16 + s.num (E.fnEpoch + f) % 256 * 2 ^ 8 + b2n x.slabsChanged * 32 + b2n x.disableBegun * 16 +
      b2n x.atsEnabled * 8 + gateCode x.gate
  else if off = 0x10 then x.invAddr
  else if off = 0x1C then b2n x.invRejected * 2 + b2n x.invBusy
  else 0

/-- The MSI-X table, four 32-bit registers for each vector (PRESUMED: the layout of PCIe, log entry 7). -/
def State.readMsix (s : State) (f off : Nat) : Nat :=
  let v := (off - 0x800) / 16
  let x := s.vec f v
  if vectorsOf f ≤ v then 0
  else if off % 16 = 0 then x.addr % 2 ^ 32
  else if off % 16 = 4 then x.addr / 2 ^ 32 % 2 ^ 32
  else if off % 16 = 8 then x.data
  else b2n x.masked

/-- 64 pending bits of a function's vectors (PRESUMED: the layout of PCIe, log entry 7). -/
def State.readPba (s : State) (f off : Nat) : Nat :=
  if off = 0xC00 then ofBitList ((List.range (vectorsOf f)).filter (fun v => (s.vec f v).pending)) else 0

/-- GTB_NOW, GTB_STATUS, GTB_DOMAIN_RESYNC and GTB_OFFSET (Tables 2.4 to 2.7). -/
def State.readGtb (s : State) (f off : Nat) : Nat :=
  let t := s.time
  if off = 0x1000 then (t.replicas.getD 19 Replica.initial).count
  else if off = 0x1008 then
    t.role * 256 + b2n t.resyncEvent * 16 + b2n t.stepped * 8 + b2n t.holdover * 4 + b2n t.ptpLocked * 2 + b2n t.fabricLocked
  else if f = 0 ∧ off = 0x1010 then t.domainResync
  else if f = 0 ∧ off = 0x1018 then wrapInt 64 t.offset
  else 0

/-- The mailbox (Tables 18.5 to 18.7, R424). -/
def State.readMailbox (s : State) (f off : Nat) : Nat :=
  let m := s.mbox f
  if off = 0x2000 then b2n m.irqEnable * 2 ^ 16 + m.vector * 2 ^ 8
  else if off = 0x2004 then m.status * 256 + b2n m.overrun * 4 + b2n m.done * 2 + b2n m.busy
  else if off = 0x2008 then m.rspLen * 2 ^ 16 + m.reqLen
  else if 0x3000 ≤ off then ofLe ((rangeFrom (off - 0x3000) 4).map (fun i => m.buf.getD i 0#8))
  else 0

/-- Shares of a function in newt queues (Table 4.18). -/
def State.fnShares (s : State) (f : Nat) : Nat :=
  sumNat (s.nwt.queues.vals.map (fun l => l.countP (fun x => decide (fnOfQueue x.queue = f))))

/-- Store-buffer entries of a function that are not yet performed (Table 9.15a). -/
def State.fnStores (s : State) (f : Nat) : Nat :=
  min 65535 (sumNat (s.cores.vals.map (fun k => k.sb.countP (fun e => decide (fnOfQueue e.queue = f)))))

/-- The SYN_ registers (Tables 12.6 to 12.9). -/
def State.readSyn (s : State) (f off : Nat) : Nat :=
  if off = 0x7008 then (s.fn f).synArg else if off = 0x7010 then (s.fn f).synResult else if off = 0x7018 then (s.fn f).synStatus else 0

/-- CNT_FN_STATUS and CNT_Q (Tables 19.8 and 19.10). -/
def State.readCntFn (s : State) (f off : Nat) : Nat :=
  let c := s.cntFn f
  if off = 0x8004 then c.flushSeq * 2 ^ 16 + b2n c.tableFull * 4 + b2n c.tableFault * 2 + b2n c.flushing
  else if inRun off 0x8400 8 128 then
    let q := 16 * f + (off - 0x8400) / 0x40
    s.obs.queueCnt.getD (8 * q + off % 0x40 / 8) 0
  else 0

/-- The registers of a trace buffer, which its owner alone has (Tables 19.16 to 19.21). -/
def State.readTrc (s : State) (f off : Nat) : Nat :=
  let b := (off - 0xC000) / 0x40
  let t := s.trc b
  if s.num (E.trcOwner + b) ≠ f then 0
  else match off % 0x40 with
    | 0 => b2n t.badCtrl * 16 + b2n t.event * 8 + t.state.code
    | 0x08 => t.write
    | 0x10 => t.read
    | 0x18 => t.lost
    | 0x20 => t.trig
    | _ => 0

/-- The registers of a queue (Tables 11.16 to 11.22). -/
def State.readQueue (s : State) (f off : Nat) : Nat :=
  let q := 16 * f + (off - 0x10000) / 0x40
  let x := s.q q
  match off % 0x40 with
  | 0 => x.killCode * 2 ^ 24 + b2n x.badCtrl * 2 ^ 19 + b2n x.badDoorbell * 2 ^ 18 + b2n x.preemptRefused * 2 ^ 17 +
      b2n (s.timerCounts q) * 2 ^ 16 + x.suppressed * 2 ^ 8 + x.state.code
  | 0x08 => x.write
  | 0x0C => x.read
  | 0x10 => b2n x.faultValid * 2 ^ 63 + x.faultNode * 2 ^ 40 + x.faultDepth * 2 ^ 36 + x.faultRing
  | 0x18 => x.saveNeed
  | 0x20 => x.tagOperator * 2 ^ 24 + x.tagLayer
  | _ => 0

/-- The registers that every function has. -/
def State.readEvery (s : State) (f off : Nat) : Nat :=
  if off < 0x100 then s.readHif f off
  else if 0x800 ≤ off ∧ off < 0xC00 then s.readMsix f off
  else if 0xC00 ≤ off ∧ off < 0x1000 then s.readPba f off
  else if 0x1000 ≤ off ∧ off < 0x2000 then s.readGtb f off
  else if 0x2000 ≤ off ∧ off < 0x4000 then s.readMailbox f off
  else if off = 0x5100 then s.fnShares f
  else if off = 0x6100 then s.fnStores f
  else if 0x7000 ≤ off ∧ off < 0x7020 then s.readSyn f off
  else if 0x8000 ≤ off ∧ off < 0xC000 then s.readCntFn f off
  else if inRun off 0xC000 0x40 16 then s.readTrc f off
  else if inRun off 0x10000 0x40 16 then s.readQueue f off
  else 0

/-- The STK_, NWT_ and L2C_ registers of F0 (Tables 3.7 to 3.11, 4.14 to 4.17 and 9.9 to 9.12). A log shows its head record. -/
def State.readMem (s : State) (off : Nat) : Nat :=
  match off with
  | 0x4000 => s.stk.errStatus
  | 0x4004 => s.stk.intEn
  | 0x4008 => s.stk.log.headD 0
  | 0x4010 => s.stk.passCount * 2 ^ 32 + s.stk.patrol * 65536 / granuleCount
  | 0x4018 => sumNat ((List.range 20).map (fun n => s.stackStateOf n * 4 ^ n))
  | 0x5000 => s.nwt.status
  | 0x5004 => s.nwt.intEn
  | 0x5008 => s.nwt.log.headD 0
  | 0x5010 => ofBitList ((List.range 20).filter (fun n => s.nwt.failed.any (fun k => decide (k / 32 = n))))
  | 0x6000 => s.l2.status
  | 0x6004 => s.l2.intEn
  | 0x6008 => s.l2.log.headD 0
  | 0x6010 => s.l2.nacks * 2 ^ 32 + s.l2.setFull
  | _ => 0

/-- The registers of a core (Tables 5.9 to 5.16). -/
def State.readCore (s : State) (off : Nat) : Nat :=
  let k := s.core ((off - 0x20000) / 0x40)
  let x := k.fault
  match off % 0x40 with
  | 0 => k.narrow * 256 + k.state
  | 0x04 => x.layer
  | 0x08 =>
    sumNat (k.blocks.vals.map (fun b => b.scratchBytes)) / 1024 * 2 ^ 48 + k.blocks.length * 2 ^ 32 +
      sumNat (k.groups.vals.map (fun g => 4 * g.vregs * g.width)) / 1024 * 2 ^ 16 + k.groups.length
  | 0x10 =>
    b2n x.valid * 2 ^ 63 + x.suppressed * 2 ^ 48 + x.queue * 2 ^ 36 + x.slot * 2 ^ 30 + x.thread * 2 ^ 24 + x.operator * 2 ^ 8 + x.code
  | 0x18 => x.pc
  | 0x20 => x.addr
  | 0x28 => k.rfCorrected * 2 ^ 32 + k.rcParity
  | 0x30 => k.epoch
  | _ => 0

/-- The registers of a matrix array (Tables 7.13 to 7.15). -/
def State.readMx (s : State) (off : Nat) : Nat :=
  let c := (off - 0x28000) / 0x20
  let m := (s.core c).mx
  let set (i : Nat) : MxSet := m.sets.getD i MxSet.initial
  match off % 0x20 with
  | 0 =>
    let a := s.admitOf (c / 24)
    a * 2 ^ 17 + b2n (decide (a < 64)) * 2 ^ 16 + m.queue.length * 256 +
      b2n (m.queue.any (fun o => decide (o.kind = 1 ∧ o.set ≠ m.active) && o.started)) * 32 + b2n (set (1 - m.active)).configured * 16 +
      b2n (set m.active).configured * 8 + m.active * 4 + b2n (!m.queue.isEmpty) * 2 + b2n m.holder.isSome
  | 0x08 => m.rows
  | 0x10 => m.held
  | _ => 0

/-- State of a slice (R236, Table 9.14): degraded once a way is retired (log entry 49). -/
def State.sliceState (s : State) (n : Nat) : Nat :=
  if bit s.l2.failed n then 3 else if bit s.l2.gatedPlains (n / 4) then 2
  else if s.num (E.sliceRetiredWays + n) ≠ 0 then 1 else 0

/-- L2C_SCL_CTRL, L2C_SLICE_INFO and L2C_SCL_DISABLED (Tables 9.13 to 9.14a). -/
def State.readSlices (s : State) (off : Nat) : Nat :=
  if inRun off 0x2C000 8 384 then
    let k := s.core ((off - 0x2C000) / 8)
    if off % 8 = 0 then b2n k.sclInvalidated * 2 + b2n k.sclEnable else 0
  else if inRun off 0x2D000 8 64 then
    let n := (off - 0x2D000) / 8
    (match s.partOfQuarter n with
      | some p => p
      | none => 0xFF) * 2 ^ 32 + s.sliceState n * 2 ^ 24 + s.num (E.sliceRetiredWays + n) % 2 ^ 16
  else if inRun off 0x2D400 8 6 then s.l2.sclDisabled / 2 ^ (64 * ((off - 0x2D400) / 8)) % 2 ^ 64
  else 0

/-- The FAB_ and SVC_ registers (Tables 14.10 to 14.13, 15.7 to 15.10 and 16.4 to 16.6). -/
def State.readNet (s : State) (off : Nat) : Nat :=
  if off = 0x40000 then s.fab.status
  else if off = 0x40004 then s.fab.intEn
  else if off = 0x40008 then s.fab.log.headD 0
  else if inRun off 0x40100 8 32 then
    let l := (off - 0x40100) / 8
    let x := s.link l
    x.replays * 2 ^ 48 + x.peer * 2 ^ 32 + x.peerLink * 2 ^ 27 + x.port * 2 ^ 22 + x.lanes * 2 ^ 16 +
      (if x.state = 0 ∧ s.num (E.linkEnable + l) = 0 then 4 else x.state)
  else if off = 0x40200 then s.opt.status
  else if off = 0x40204 then s.opt.intEn
  else if inRun off 0x40210 8 4 then
    let x := s.laser ((off - 0x40210) / 8)
    x.epoch * 2 ^ 32 + x.lifeUsed * 2 ^ 12 + x.state
  else if inRun off 0x40240 8 8 then
    let x := s.oe ((off - 0x40240) / 8)
    x.epoch * 2 ^ 32 + x.groupB * 2 ^ 8 + x.groupA * 2 ^ 6 + x.state
  else if off = 0x41000 then s.svc.status
  else if off = 0x41004 then s.svc.intEn
  else if inRun off 0x41010 8 2 then
    let p := (off - 0x41010) / 8
    let x := s.port p
    x.paused * 2 ^ 40 + x.speed * 16 + (if x.state = 0 ∧ s.num (E.svcSpeed + p) = 0 then 2 else x.state)
  else 0

/-- The PWR_, MGT_ and CNT_ registers of F0 (Tables 17.7 to 17.11, 18.15 to 18.17 and 19.3 to 19.6). -/
def State.readPower (s : State) (off : Nat) : Nat :=
  if off = 0x42000 then b2n ((List.range 16).any (fun p => decide ((s.plain p).cap < 64))) * 256 + s.pwr.status
  else if off = 0x42004 then s.pwr.intEn
  else if off = 0x42008 then s.pwr.windowW * 2 ^ 32 + s.pwr.lastW
  else if off = 0x42010 then s.pwr.energy
  else if inRun off 0x42100 8 16 then
    let p := (off - 0x42100) / 8
    let x := s.plain p
    x.droopCount * 2 ^ 32 + s.admitOf p * 2 ^ 16 + s.admitBy p * 2 ^ 8 + x.tj
  else if off = 0x43000 then s.mgt.status
  else if off = 0x43004 then s.mgt.intEn
  else if off = 0x43008 then s.logOldest * 2 ^ 32 + s.logNewest
  else if off = 0x44000 then b2n s.obs.freeze
  else if off = 0x44004 then b2n s.obs.wrap
  else if isCntValue off then s.obs.values.getD off 0
  else if isCntSel off then s.obs.sels.getD off 0
  else 0

/-- The registers of F0 alone. -/
def State.readF0 (s : State) (off : Nat) : Nat :=
  if inRun off 0x100 8 4 then s.hif.fnEvent / 2 ^ (64 * ((off - 0x100) / 8)) % 2 ^ 64
  else if off = 0x120 then s.hif.errStatus
  else if off = 0x124 then s.hif.errIntEn
  else if 0x4000 ≤ off ∧ off < 0x6100 then s.readMem off
  else if inRun off 0x20000 0x40 384 then s.readCore off
  else if inRun off 0x28000 0x20 384 then s.readMx off
  else if 0x2C000 ≤ off ∧ off < 0x2E000 then s.readSlices off
  else if 0x40000 ≤ off ∧ off < 0x42000 then s.readNet off
  else if 0x42000 ≤ off then s.readPower off
  else 0

/-- Is an offset one of the blocks that F0 alone has? -/
def f0Block (off : Nat) : Bool :=
  inRun off 0x100 0x100 1 || inRun off 0x4000 0x100 1 || inRun off 0x5000 0x100 1 || inRun off 0x6000 0x100 1 || inRun off 0x20000 0xE000 1 ||
    decide (0x40000 ≤ off)

/-- What a register reads: its present value, with no side effect. Regions that a function does not have read as zero (R317). -/
def State.readReg (s : State) (f off : Nat) : Nat :=
  if f0Block off then (if f = 0 then s.readF0 off else 0) else s.readEvery f off

/-- A byte of BAR0 as it stands. -/
def State.regByte (s : State) (f a : Nat) : Byte := BitVec.ofNat 8 (s.readReg f (regBase f a) / 256 ^ (a - regBase f a) % 256)

/-- The bytes of BAR0 as they stand. -/
def State.regBytes (s : State) (f off n : Nat) : Nat := ofLe ((rangeFrom off n).map (s.regByte f))

/-! What a write of a whole register does. Bits that no rule names are discarded (R9). -/

/-- A W1C flag under a write. -/
def w1c (x : Bool) (v i : Nat) : Bool := x && !bit v i

/-- The HIF registers of a function. -/
def State.writeHif (s : State) (f off v : Nat) : State :=
  if off = 0 then s.modFn f (fun x => { x with slabsChanged := w1c x.slabsChanged v 5, disableBegun := w1c x.disableBegun v 4 })
  else if off = 0x10 then s.modFn f (fun x => { x with invAddr := bits v 56 16 * 2 ^ 16 })
  else if off = 0x18 then s.invCmd f v
  else if off = 0x1C then s.modFn f (fun x => { x with invRejected := w1c x.invRejected v 1 })
  else s

/-- The MSI-X table (R335; log entry 7): a vector that is unmasked sends what its pending bit holds. -/
def State.writeMsix (s : State) (f off v : Nat) : State :=
  let i := (off - 0x800) / 16
  if vectorsOf f ≤ i then s
  else if off % 16 = 0 then s.modVec f i (fun x => { x with addr := x.addr / 2 ^ 32 * 2 ^ 32 + v / 4 * 4 })
  else if off % 16 = 4 then s.modVec f i (fun x => { x with addr := x.addr % 2 ^ 32 + v * 2 ^ 32 })
  else if off % 16 = 8 then s.modVec f i (fun x => { x with data := v })
  else
    let s1 := s.modVec f i (fun x => { x with masked := bit v 0 })
    if (s1.vec f i).pending && !bit v 0 then s1.sendVec f i else s1

/-- GTB_STATUS and GTB_DOMAIN_RESYNC. -/
def State.writeGtb (s : State) (f off v : Nat) : State :=
  if off = 0x1008 then { s with time.resyncEvent := w1c s.time.resyncEvent v 4, time.stepped := w1c s.time.stepped v 3 }
  else if f = 0 ∧ off = 0x1010 then { s with time.domainResync := natAndNot 45 s.time.domainResync v }
  else s

/-- The mailbox: its buffer and req_len take no write while it is busy (R424). -/
def State.writeMailbox (s : State) (f off v : Nat) : State :=
  if off = 0x2000 then mailboxGo f v s
  else if off = 0x2004 then s.modMbox f (fun m => { m with overrun := w1c m.overrun v 2, done := w1c m.done v 1 })
  else if (s.mbox f).busy then s
  else if off = 0x2008 then s.modMbox f (fun m => { m with reqLen := v % 2 ^ 13 })
  else if 0x3000 ≤ off then
    s.modMbox f (fun m => { m with buf := (List.range 4).foldl (fun b i => b.put (off - 0x3000 + i) (BitVec.ofNat 8 (v / 256 ^ i % 256))) m.buf })
  else s

/-- SYN_CMD executes its command; SYN_CMD_ARG holds the operand (R310, Table 12.5). -/
def State.writeSyn (s : State) (f off v : Nat) : State :=
  if off = 0x7008 then s.modFn f (fun x => { x with synArg := v })
  else if off = 0x7000 then
    match cmdCode v with
    | 0 => synCreate f v s
    | 1 => synDestroy f v s
    | 2 => synOperate f v s
    | 3 => synSetError f v s
    | 4 => synResetObj f v s
    | 5 => synRead f v s
    | 6 => synMirror f v s
    | 7 => synNotify f v s
    | _ => synReserved f v s
  else s

/-- CNT_FN_CTRL and CNT_FN_STATUS. -/
def State.writeCntFn (s : State) (f off v : Nat) : State :=
  if off = 0x8000 then (if bit v 0 then layerFlushRequest f s else s)
  else if off = 0x8004 then s.modCntFn f (fun c => { c with tableFull := w1c c.tableFull v 2, tableFault := w1c c.tableFault v 1 })
  else s

/-- The registers of a trace buffer; the bits of one TRC_CTRL write act from bit 0 up (log entry 49). -/
def State.writeTrc (s : State) (f off v : Nat) : State :=
  let b := (off - 0xC000) / 0x40
  if s.num (E.trcOwner + b) ≠ f then s
  else match off % 0x40 with
    | 0 => s.modTrc b (fun t => { t with badCtrl := w1c t.badCtrl v 4, event := w1c t.event v 3 })
    | 0x04 =>
      let s1 := if bit v 0 then traceStart f b s else s
      let s2 := if bit v 1 then traceStop f b s1 else s1
      let s3 := if bit v 2 then traceTrigger f b s2 else s2
      if bit v 3 then traceDisable f b s3 else s3
    | 0x10 => trcReadWrite f b v s
    | _ => s

/-- The registers of a queue: FE_Q_CTRL carries out one bit and refuses more (R266). -/
def State.writeQueue (s : State) (f off v : Nat) : State :=
  let q := 16 * f + (off - 0x10000) / 0x40
  match off % 0x40 with
  | 0 => s.modQ q (fun x => { x with
      badCtrl := w1c x.badCtrl v 19, badDoorbell := w1c x.badDoorbell v 18, preemptRefused := w1c x.preemptRefused v 17 })
  | 0x04 =>
    match v % 16 with
    | 0 => s
    | 1 => queuePreempt q s
    | 2 => queueResume q s
    | 4 => queueKill q s
    | 8 => queueReset q s
    | _ => s.badCtrl q
  | _ => s

/-- The registers that every function has. -/
def State.writeEvery (s : State) (f off v : Nat) : State :=
  if off < 0x100 then s.writeHif f off v
  else if inRun off 0x400 4 64 then svcQpDoorbell f ((off - 0x400) / 4) v s
  else if 0x800 ≤ off ∧ off < 0xC00 then s.writeMsix f off v
  else if 0x1000 ≤ off ∧ off < 0x2000 then s.writeGtb f off v
  else if 0x2000 ≤ off ∧ off < 0x4000 then s.writeMailbox f off v
  else if 0x7000 ≤ off ∧ off < 0x7020 then s.writeSyn f off v
  else if 0x8000 ≤ off ∧ off < 0xC000 then s.writeCntFn f off v
  else if inRun off 0xC000 0x40 16 then s.writeTrc f off v
  else if inRun off 0x10000 0x40 16 then s.writeQueue f off v
  else if inRun off 0x30000 0x1000 16 ∧ off % 0x1000 = 0 then doorbellWrite f (16 * f + (off - 0x30000) / 0x1000) v s
  else s

/-- The STK_, NWT_ and L2C_ registers of F0. An NWT_STATUS bit that stands when it is enabled signals (R100). -/
def State.writeMem (s : State) (off v : Nat) : State :=
  match off with
  | 0x4000 => { s with stk.errStatus := natAndNot 8 s.stk.errStatus v }
  | 0x4004 => { s with stk.intEn := v % 2 ^ 8 }
  | 0x5000 => { s with nwt.status := natAndNot 5 s.nwt.status v }
  | 0x5004 =>
    let s1 : State := { s with nwt.intEn := v % 2 ^ 5 }
    if natAnd 5 s.nwt.status (natAndNot 5 v s.nwt.intEn) ≠ 0 then s1.signal 0 1 else s1
  | 0x6000 => { s with l2.status := natAndNot 8 s.l2.status v }
  | 0x6004 => { s with l2.intEn := v % 2 ^ 8 }
  | _ => s

/-- The registers of a core: a write of 1 to CORE_FAULT_INFO.valid clears the fault record (Table 5.12). -/
def State.writeCore (s : State) (off v : Nat) : State :=
  if off % 0x40 = 0x10 ∧ bit v 63 then s.modCore ((off - 0x20000) / 0x40) (fun k => { k with fault := CoreFault.initial }) else s

/-- L2C_SCL_CTRL: enable is judged by invalidated as it stood before the write (Table 9.13, log entry 49). -/
def State.writeScl (s : State) (c v : Nat) : State :=
  let s1 := sclCtrlEnable c (bit v 0) s
  if bit v 2 then sclCtrlInvalidate c s1 else s1

/-- The FAB_ and SVC_ registers. -/
def State.writeNet (s : State) (off v : Nat) : State :=
  match off with
  | 0x40000 => { s with fab.status := natAndNot 8 s.fab.status v }
  | 0x40004 => { s with fab.intEn := v % 2 ^ 8 }
  | 0x40200 => { s with opt.status := natAndNot 7 s.opt.status v }
  | 0x40204 => { s with opt.intEn := v % 2 ^ 7 }
  | 0x41000 => { s with svc.status := natAndNot 4 s.svc.status v }
  | 0x41004 => { s with svc.intEn := v % 2 ^ 4 }
  | _ => s

/-- CNT_CTRL: freeze, and clear_all (Table 19.5). -/
def State.writeCntCtrl (s : State) (v : Nat) : State :=
  let s1 := cntFreeze (bit v 0) s
  if bit v 1 then cntClearAll s1 else s1

/-- The PWR_, MGT_ and CNT_ registers of F0. -/
def State.writePower (s : State) (off v : Nat) : State :=
  if off = 0x42000 then { s with pwr.status := natAndNot 8 s.pwr.status v }
  else if off = 0x42004 then { s with pwr.intEn := v % 2 ^ 8 }
  else if off = 0x43000 then { s with mgt.status := natAndNot 5 s.mgt.status v }
  else if off = 0x43004 then { s with mgt.intEn := v % 2 ^ 5 }
  else if off = 0x44000 then s.writeCntCtrl v
  else if off = 0x44004 then { s with obs.wrap := w1c s.obs.wrap v 0 }
  else if isCntValue off then cntValueWrite off v s
  else if isCntSel off then { s with obs.sels := s.obs.sels.put off (setBits v 11 8 0) }
  else s

/-- The registers of F0 alone. -/
def State.writeF0 (s : State) (off v : Nat) : State :=
  if inRun off 0x100 8 4 then { s with hif.fnEvent := natAndNot 256 s.hif.fnEvent (v * 2 ^ (64 * ((off - 0x100) / 8))) }
  else if off = 0x120 then { s with hif.errStatus := natAndNot 6 s.hif.errStatus v }
  else if off = 0x124 then { s with hif.errIntEn := v % 2 ^ 6 }
  else if 0x4000 ≤ off ∧ off < 0x6100 then s.writeMem off v
  else if inRun off 0x20000 0x40 384 then s.writeCore off v
  else if inRun off 0x2C000 8 384 ∧ off % 8 = 0 then s.writeScl ((off - 0x2C000) / 8) v
  else if 0x40000 ≤ off ∧ off < 0x42000 then s.writeNet off v
  else if 0x42000 ≤ off then s.writePower off v
  else s

/-- A write of a whole register by a function. Regions that it does not have ignore writes (R317). -/
def State.writeReg (s : State) (f off v : Nat) : State :=
  if f0Block off then (if f = 0 then s.writeF0 off v else s) else s.writeEvery f off v

/-! Widths and alignment (R10). -/

/-- Key of a register in the held and captured halves. -/
def halfKey (f off : Nat) : Nat := f * 2 ^ 26 + off

/-- A 32-bit write: to a 32-bit register, to a low half, which is held, or to a high half, which takes effect with the low half that is held, or with the register's present one. -/
def State.write32 (s : State) (f off v : Nat) : State :=
  let base := regBase f off
  let key := halfKey f base
  if !wideReg f base then s.writeReg f off (v % 2 ^ 32)
  else if off = base then { s with bar0.held := s.bar0.held.put key (v % 2 ^ 32) }
  else
    let low := s.bar0.held.getD key (s.readReg f base % 2 ^ 32)
    State.writeReg { s with bar0.held := s.bar0.held.del key } f base (v % 2 ^ 32 * 2 ^ 32 + low)

/-- A 64-bit write: to a 64-bit register, or to two 32-bit registers, the lower first, those marked "32-bit access only" left unchanged. -/
def State.write64 (s : State) (f off v : Nat) : State :=
  if wideReg f off then s.writeReg f off (v % 2 ^ 64)
  else
    let s1 := if only32 off then s else s.writeReg f off (v % 2 ^ 32)
    if only32 (off + 4) then s1 else s1.writeReg f (off + 4) (v / 2 ^ 32 % 2 ^ 32)

/-- REGISTER_WRITE: a host write of `size` bytes at an offset of a function's BAR0. A narrower or misaligned one is discarded whole, and so is one
wider than 64 bits, of which R10 says nothing (log entry 49). -/
def registerWrite (fn off size val : Nat) (s : State) : State :=
  if s.barState fn ≠ .opened ∨ bar0Size fn < off + size ∨ off % size ≠ 0 then s
  else if size = 4 then s.write32 fn off val
  else if size = 8 then s.write64 fn off val
  else s

/-! Error logs (R63). -/

/-- BAR0 offset of an error log in F0. -/
def logOffset : LogName → Nat
  | .stk => 0x4008
  | .nwt => 0x5008
  | .l2c => 0x6008
  | .fab => 0x40008

/-- The records of an error log, oldest first. -/
def State.logOf (s : State) : LogName → List Nat
  | .stk => s.stk.log
  | .nwt => s.nwt.log
  | .l2c => s.l2.log
  | .fab => s.fab.log

/-- Remove the head record of an error log. -/
def State.popLog (s : State) : LogName → State
  | .stk => { s with stk.log := s.stk.log.drop 1 }
  | .nwt => { s with nwt.log := s.nwt.log.drop 1 }
  | .l2c => { s with l2.log := s.l2.log.drop 1 }
  | .fab => { s with fab.log := s.fab.log.drop 1 }

/-- The mark of a captured high half whose record still stands at the head of its log, above its 32 bits. -/
def headMark : Nat := 2 ^ 32

/-- Remove the head record, so that a captured half of it stands for no record any more. -/
def State.removeHead (s : State) (n : LogName) : State :=
  let s1 := s.popLog n
  let key := halfKey 0 (logOffset n)
  match s1.bar0.captured.get? key with
  | some c => { s1 with bar0.captured := s1.bar0.captured.put key (c % headMark) }
  | none => s1

/-- A 64-bit read of an error log: the head record, which is removed; 0 when the log is empty. -/
def State.readLog64 (s : State) (n : LogName) : State :=
  State.removeHead { s with bar0.rdata := (s.logOf n).headD 0 } n

/-- A 32-bit read of the low half: the head's low half, its high half captured, nothing removed. -/
def State.readLogLow (s : State) (n : LogName) : State :=
  let r := (s.logOf n).headD 0
  let c := r / 2 ^ 32 + (if (s.logOf n).isEmpty then 0 else headMark)
  { s with bar0.rdata := r % 2 ^ 32, bar0.captured := s.bar0.captured.put (halfKey 0 (logOffset n)) c }

/-- A 32-bit read of the high half: the captured half, with its record removed; or the head's, which is removed. -/
def State.readLogHigh (s : State) (n : LogName) : State :=
  let key := halfKey 0 (logOffset n)
  match s.bar0.captured.get? key with
  | some c =>
    let s1 : State := { s with bar0.rdata := c % headMark, bar0.captured := s.bar0.captured.del key }
    if headMark ≤ c then s1.popLog n else s1
  | none => State.popLog { s with bar0.rdata := (s.logOf n).headD 0 / 2 ^ 32 } n

/-- How a read of F0's BAR0 goes while it is not open: all ones, an Unsupported Request, or nothing (R469). -/
def State.closedRead (s : State) (f size : Nat) : State :=
  match s.barState f with
  | .ones => State.complete { s with bar0.rdata := 256 ^ size - 1 } 0 (List.replicate size 0xFF#8)
  | .closed => s.complete 1 []
  | _ => s

/-- ERR_LOG_READ_64. -/
def errLogRead64 (log : LogName) (s : State) : State := if s.barState 0 = .opened then s.readLog64 log else s.closedRead 0 8

/-- ERR_LOG_READ_LOW. -/
def errLogReadLow (log : LogName) (s : State) : State := if s.barState 0 = .opened then s.readLogLow log else s.closedRead 0 4

/-- ERR_LOG_READ_HIGH. -/
def errLogReadHigh (log : LogName) (s : State) : State := if s.barState 0 = .opened then s.readLogHigh log else s.closedRead 0 4

/-- ERR_LOG_RECORD_ARRIVE: the record enters, carrying overflow when records were lost before it, or is dropped with log_overflow set. -/
def errLogRecordArrive (log : LogName) (rec : Nat) (s : State) : State :=
  match log with
  | .stk => s.pushStk (rec % 2 ^ 64)
  | .nwt => s.pushNwt (rec % 2 ^ 64)
  | .l2c => s.pushL2 (rec % 2 ^ 64)
  | .fab => s.pushFab (rec % 2 ^ 64)

/-- The error log that stands at an offset of a function's BAR0. -/
def logAt (f off : Nat) : Option LogName :=
  if f ≠ 0 then none else [LogName.stk, .nwt, .l2c, .fab].find? (fun n => decide (logOffset n = off))

/-! Reads (R10). -/

/-- A 32-bit read: of a low half, which captures the high half; of a high half, which returns a captured one; of a 32-bit register. -/
def State.read32 (s : State) (f off : Nat) : State :=
  let base := regBase f off
  let key := halfKey f base
  let v := s.readReg f base
  match logAt f base with
  | some n => if off = base then s.readLogLow n else s.readLogHigh n
  | none =>
    if !wideReg f base then { s with bar0.rdata := v }
    else if off = base then { s with bar0.rdata := v % 2 ^ 32, bar0.captured := s.bar0.captured.put key (v / 2 ^ 32) }
    else { s with bar0.rdata := s.bar0.captured.getD key (v / 2 ^ 32), bar0.captured := s.bar0.captured.del key }

/-- REGISTER_READ: a host read of `size` bytes at an offset of a function's BAR0. One that is narrower than 32 bits, or misaligned, has no side effect; neither has one wider than
64 bits, which R10 leaves open, and one beyond the end of BAR0 reads 0 (log entry 49). -/
def registerRead (fn off size : Nat) (s : State) : State :=
  if s.barState fn ≠ .opened then s.closedRead fn size
  else if bar0Size fn < off + size then { s with bar0.rdata := 0 }
  else if size = 4 ∧ off % 4 = 0 then s.read32 fn off
  else if size = 8 ∧ off % 8 = 0 then
    match logAt fn off with
    | some n => s.readLog64 n
    | none => { s with bar0.rdata := s.regBytes fn off 8 }
  else { s with bar0.rdata := s.regBytes fn off size }

/-! The meanings. -/

/-- REGISTER_WRITE (R10). -/
def execRegisterWrite (fn : Nat) (off : Nat) (size : Nat) (val : Nat) (s : State) : Host.Outcome State Fault Refusal :=
  .next (s.inOrder fn (.regWrite fn off size val) (registerWrite fn off size val))
/-- REGISTER_READ (R10). -/
def execRegisterRead (fn : Nat) (off : Nat) (size : Nat) (s : State) : Host.Outcome State Fault Refusal :=
  .next (s.inOrder fn (.regRead fn off size) (registerRead fn off size))
/-- ERR_LOG_READ_64 (R63). -/
def execErrLogRead64 (log : LogName) (s : State) : Host.Outcome State Fault Refusal :=
  .next (errLogRead64 log s)
/-- ERR_LOG_READ_LOW (R63). -/
def execErrLogReadLow (log : LogName) (s : State) : Host.Outcome State Fault Refusal :=
  .next (errLogReadLow log s)
/-- ERR_LOG_READ_HIGH (R63). -/
def execErrLogReadHigh (log : LogName) (s : State) : Host.Outcome State Fault Refusal :=
  .next (errLogReadHigh log s)
/-- ERR_LOG_RECORD_ARRIVE (R63). -/
def execErrLogRecordArrive (log : LogName) (rec : Nat) (s : State) : Host.Outcome State Fault Refusal :=
  .next (errLogRecordArrive log rec s)

end Sys2Proof.Machine
end

