-- ==== Sys2Proof/Machine/Remote.lean ====
section
/-! DEFINITION. Machine/Remote.lean: requests of other chips performed here, requests of tied members at their reserved entries, the responses that complete this chip's own requests, and
packets whose CRC fails (R229, R230, R303, R353, R356, R362, R363, R370, R371; packet layouts in log entry 13). -/

namespace Sys2Proof.Machine

/-! Serving a request (Table 14.5). -/

/-- Answer a read with the bytes at their point of coherence (R224); poisoned granules travel as zeros with their bits set (R353). -/
def State.answerRead (s : State) (p : Packet) (pa n : Nat) : State :=
  let mask := s.packetPoison pa n
  (s.lookAt pa n).answerTo p 0x11 0 p.addr (blankPoison (s.pocRead pa n) mask) mask

/-- FABRIC_READ (R363): `len` is how many bytes it asks for. A domain that is lost refuses it (R237). -/
def fabricRead (pkt : Packet) (len : Nat) (s : State) : State :=
  s.typed pkt 0x01 (s.receive pkt (fun s =>
    if s.l2.domainLost then s.refuse pkt 5 0x11
    else match s.admitPkt pkt 1 with
    | .no st code => s.refuse pkt st code
    | .ok f => match s.reach f pkt.addr (min len 512) .read with
      | .no st code => s.refuse pkt st code
      | .at pa => s.answerRead pkt pa (min len 512)))

/-- FABRIC_WRITE (R363, Table 9.6): it lands at the banks, with the poison that it carries, and is acknowledged. -/
def fabricWrite (pkt : Packet) (s : State) : State :=
  s.typed pkt 0x02 (s.receive pkt (fun s =>
    if s.l2.domainLost then s.refuse pkt 5 0x11
    else match s.admitPkt pkt 2 with
    | .no st code => s.refuse pkt st code
    | .ok f => match s.reach f pkt.addr pkt.data.length .write with
      | .no st code => s.refuse pkt st code
      | .at pa => (s.moveTo 0 pa pkt.data (maskRuns pkt.poison pkt.data.length) false).ackTo pkt 0))

/-- Operation, width and place of an ATOMIC: op bits 5 to 0 atom_op, bit 6 eight bytes, bit 7 at the newt. -/
def State.runAtom (s : State) (op pa : Nat) (data : List Byte) : AtomOut :=
  let n := if bit op 6 then 8 else 4
  if bit op 7 then s.farAtom (op % 64) n pa (fieldAt data 0 8) (fieldAt data 8 8) else s.homeAtom (op % 64) n pa (fieldAt data 0 8) (fieldAt data 8 8)

/-- Does Table 4.10 list the operation of an ATOMIC, at its width and alignment? -/
def atomOk (op pa : Nat) : Bool := atomListed (op % 64) (if bit op 6 then 8 else 4) && decide (pa % (if bit op 6 then 8 else 4) = 0)

/-- Serve an atomic: the old value, or 0x03 for a poisoned target (Table 3.3). -/
def State.serveRemoteAtom (s : State) (p : Packet) (op pa : Nat) : State :=
  if !atomOk op pa then s.refuse p 4 0x04
  else match s.runAtom op pa p.data with
    | .old old t => t.answerTo p 0x13 0 p.addr (leBytes 8 old ++ zeroBytes 8) 0
    | .poison => (s.consumePoison pa).ackTo p 0x03
    | .nack => { s with l2.refused := some (pa / 128) }

/-- FABRIC_ATOMIC (R363). -/
def fabricAtomic (pkt : Packet) (s : State) : State :=
  s.typed pkt 0x03 (s.receive pkt (fun s =>
    if s.l2.domainLost then s.refuse pkt 5 0x11
    else match s.admitPkt pkt 3 with
    | .no st code => s.refuse pkt st code
    | .ok f => match s.reach f pkt.addr (if bit pkt.op 6 then 8 else 4) .write with
      | .no st code => s.refuse pkt st code
      | .at pa => s.serveRemoteAtom pkt pkt.op pa))

/-- A sync operation that ends a wait (Table 6.17). -/
def waitOp (op : Nat) : Bool := decide (op = 1 ∨ op = 2 ∨ op = 4 ∨ op = 6)

/-- The access level that an object needs for another chip's operation: SYSTEM, and CHIP for a member of the tied group (R296, R355). -/
def State.farLevel (s : State) (src : Nat) : Nat := if s.tiedChip src then 2 else 3

/-- FABRIC_SYNC_OP (R296, R297, R303, R355): applied to an object whose access level admits the source, whose index is the address. A wait is registered, which SYNC_RESP reports; SYNC_RELEASE follows when it
is released. Op 8 cancels the source's wait whose number its data hold (R157): the answer is 0 where the wait stood, 1 where it had been released. Op 16 plus a code sets the object to ERROR, as a skip
walk of another chip asks (R287). -/
def fabricSyncOp (pkt : Packet) (s : State) : State :=
  s.typed pkt 0x04 (s.receive pkt (fun s =>
    match s.admitPkt pkt 4 with
    | .no st code => s.refuse pkt st code
    | .ok _ =>
      let o := pkt.addr % 65536
      if pkt.op = 8 then
        let who : WaiterWho := .remote pkt.src (fieldAt pkt.data 0 4)
        let stood := s.syn.objs.vals.any (fun x => x.waiters.any (fun w => decide (w.who = who))) ||
          (s.syn.registering ++ s.syn.retrying).any (fun e => decide (e.2.who = who))
        (s.dropWaiters (fun w => decide (w.who = who))).answerTo pkt 0x14 0 (b2n (!stood)) [] 0
      else match s.syn.objs.get? o with
      | none => s.refuse pkt 4 0x02
      | some x =>
        let v := fieldAt pkt.data 0 8
        if x.access < s.farLevel pkt.src then s.refuse pkt 4 0x02
        else if 16 < pkt.op ∧ pkt.op ≤ 16 + 0x11 then (s.objError o (pkt.op - 16)).answerTo pkt 0x14 0 0 [] 0
        else if !x.type.defines pkt.op then s.refuse pkt 4 0x02
        else if waitOp pkt.op then
          let w : Waiter := { who := .remote pkt.src pkt.seq, queue := 0x10000, op := pkt.op, value := v, scope := 4 }
          let s1 := s.answerTo pkt 0x14 0 0 [] 0
          match s1.registerWait o w with
          | some t => t
          | none => { s1 with syn.retrying := s1.syn.retrying ++ [(o, w)] }
        else
          let m : SynMsg := { obj := o, op := pkt.op, value := v, queue := 0x10000, scope := 4, who := .remote pkt.src pkt.seq }
          let r := (s.traceSync m).objOperate o x pkt.op v
          r.2.answerTo pkt 0x14 0 r.1 [] 0))

/-! Requests of tied members (R229, R230, R371). -/

/-- A read of a member's core that takes a whole line: served at the home, with a copy to keep where the home installs replicas (R219, R230). -/
def State.serveLine (s : State) (p : Packet) (line : Nat) : State :=
  match s.homeRead line with
  | none => { s with l2.refused := some line }
  | some t =>
    let d := t.pocLine line
    match (if s.installs line then s.tieBit p.src else none) with
    | some b => State.answerTo { t with l2.dir := t.l2.dir.mapVals (fun k x => if k = line then x.share b else x) } p 0x15 4 (128 * line) (blankPoison d.1 d.2) d.2
    | none => t.answerTo p 0x11 0 p.addr (blankPoison d.1 d.2) d.2

/-- Serve a member's request at a device address. -/
def State.serveTied (s : State) (p : Packet) (pa len : Nat) : State :=
  if p.op = 0 then (if pa % 128 = 0 ∧ len = 128 then s.serveLine p (pa / 128) else s.answerRead p pa len)
  else if p.op = 1 then (s.moveTo 0 pa p.data (maskRuns p.poison p.data.length) true).ackTo p 0
  else s.serveRemoteAtom p (p.op - 0x10) pa

/-- The client that a member's request is at a home. -/
def tiedClient (p : Packet) : Client := .member (windowKey p.src p.seq)

/-- Put a member's request into its reserved entry; its address is the physical one from now on. A slice reserves four for each member, and one that comes without a credit is not
received (R229). -/
def State.reserveTied (s : State) (p : Packet) (pa len : Nat) : State :=
  let slice := s.homeOf (pa / 128)
  if 4 ≤ s.l2.reserved.countP (fun r => decide (r.1 = slice ∧ r.2.1.src = p.src)) then
    { s with fab.window := setErase (windowKey p.src p.seq) s.fab.window }
  else { s with l2.reserved := s.l2.reserved ++ [(slice, { p with addr := pa }, len)] }

/-- Kind of a COH_REQ at the bindings: 1 reads, 2 writes, 3 atomics. -/
def cohKind (op : Nat) : Nat := if op = 0 then 1 else if op = 1 then 2 else 3

/-- COH_REQ (R371): admitted as a READ, WRITE or ATOMIC is, then served at its home, or it waits in its reserved entry behind those that came before it. -/
def cohReq (pkt : Packet) (len : Nat) (s : State) : State :=
  s.typed pkt 0x05 (s.receive pkt (fun s =>
    let n := if pkt.op = 0 then min len 512 else if pkt.op = 1 then pkt.data.length else if bit (pkt.op - 0x10) 6 then 8 else 4
    if 1 < pkt.op ∧ pkt.op < 0x10 then s.refuse pkt 4 0x04
    else match s.admitPkt pkt (cohKind pkt.op) with
    | .no st code => s.refuse pkt st code
    | .ok f => match s.reach f pkt.addr n (if pkt.op = 0 then .read else .write) with
      | .no st code => s.refuse pkt st code
      | .at pa =>
        let go (s : State) : State := s.serveTied pkt pa n
        if s.l2.domainLost then s.refuse pkt 5 0x11
        else if s.memberWaits (pa / 128) then s.reserveTied pkt pa n
        else if s.goes (tiedClient pkt) go then go s
        else (s.coherent (tiedClient pkt) 0xFFFF none go).reserveTied pkt pa n))

/-- TIED_REQUEST_SERVE (R229): the oldest request that waits in a slice's reserved entries. -/
def tiedRequestServe (slice : Nat) (s : State) : State :=
  match s.l2.reserved.find? (fun r => decide (r.1 = slice)) with
  | none => s
  | some r =>
    let go (s : State) : State := s.serveTied r.2.1 r.2.1.addr r.2.2
    if s.l2.domainLost then s
    else if s.goes (tiedClient r.2.1) go then { (go s) with l2.reserved := (go s).l2.reserved.erase r }
    else s.coherent (tiedClient r.2.1) 0xFFFF none go

/-! Responses (R356, R362, R363). -/

/-- The unanswered request that a response answers. -/
def State.reqOf (s : State) (p : Packet) : Option (Nat × Req) :=
  s.fab.reqs.find? (fun e => decide (e.2.pkt.dst = p.src ∧ e.2.pkt.seq = p.seq))

/-- A plan context's access has been answered. -/
def State.planAnswered (s : State) (ctx : Nat) (l : List Byte) : State :=
  match s.fe.plans.get? ctx with
  | some p => if p.wait = .remote then s.putPlan ctx { p with rdata := some l, wait := .none } else s
  | none => s

/-- Two bytes of a plan program's code have arrived. -/
def State.planCodeCame (s : State) (ctx pc v : Nat) : State :=
  match s.fe.plans.get? ctx with
  | some p => if p.wait = .remote then s.putPlan ctx { p with code := p.code ++ [(pc, v)], wait := .none } else s
  | none => s

/-- What an unpin has asked another chip for has arrived. -/
def State.unpinCame (s : State) (id : Nat) (l : List Byte) : State :=
  match s.fe.unpins.get? id with
  | some u => (s.unpinTook id u l).unpinGo id unpinFuel
  | none => s

/-- The data of a read arrive at its issuer. -/
def State.readArrived (s : State) (id : Nat) (r : Req) (data : List Byte) (poison : Nat) : State :=
  let s1 : State := { s with fab.reqs := s.fab.reqs.del id }
  match r.issuer with
  | .load i key => s1.gotLine i key ((data ++ zeroBytes 128).take 128) (poison % 256)
  | .dma e off => s1.dmaData e off data poison
  | .newt d n off => s1.remoteData n d off data poison
  | .plan ctx => if poison = 0 then s1.planAnswered ctx data else s1.kill r.queue 0x03 (s.reqSite r)
  | .code c slot pc =>
    if poison = 0 then s1.modCore c (fun k => k.cacheWord (icacheKey (fnOfQueue r.queue) pc) (fieldAt data 0 8)) else s1.codeFailed c slot pc r 0x03
  | .planCode ctx pc => if poison = 0 then s1.planCodeCame ctx pc (fieldAt data 0 2) else s1.kill r.queue 0x03 (s.reqSite r)
  | .line who block => s1.feStore r.queue who block data poison
  | .unpin u => if poison = 0 then s1.unpinCame u data else State.kill { s1 with fe.unpins := s1.fe.unpins.del u } r.queue 0x03 (s.reqSite r)
  | .stale => s1
  | _ => s

/-- READ_DATA (R363). -/
def readData (pkt : Packet) (s : State) : State :=
  s.typed pkt 0x11 (match s.reqOf pkt with
    | some (id, r) => s.readArrived id r pkt.data pkt.poison
    | none => s)

/-- FABRIC_ACK (R356, R363): op is the status. Status 0 completes the request; any other kills its context. -/
def fabricAck (pkt : Packet) (s : State) : State :=
  s.typed pkt 0x12 (match s.reqOf pkt with
    | none => s
    | some (id, r) =>
      if pkt.op ≠ 0 then s.reqFailed id r pkt.op
      else
        let s1 : State := { s with fab.reqs := s.fab.reqs.del id }
        match r.issuer with
        | .store c seq => s1.storeAcked c seq
        | .dma e _ => s1.dmaAck e r.pkt.data.length
        | .newt d n _ => s1.remoteMoved n d
        | .mark node => s1.nodeDone node
        | .plan ctx => s1.planAnswered ctx []
        | .coll g => s1.collPump g collFuel
        | .stale => s1
        | _ => s)

/-- ATOMIC_RESP (R151, R363): the old value. -/
def atomicResp (pkt : Packet) (s : State) : State :=
  s.typed pkt 0x13 (match s.reqOf pkt with
    | none => s
    | some (id, r) =>
      let s1 : State := { s with fab.reqs := s.fab.reqs.del id }
      match r.issuer with
      | .atom i t => (match s1.l2.atoms.get? i with
        | none => s1
        | some a =>
          let s2 := match a.accs.find? (fun x => decide (x.thread = t)) with
            | some x => s1.atomDrop a x
            | none => s1
          s2.atomOld i t (fieldAt pkt.data 0 8))
      | .plan ctx => s1.planAnswered ctx (pkt.data.take 8)
      | .line who block => s1.feStore r.queue who block (pkt.data.take 8) 0
      | .unpin u => s1.unpinCame u pkt.data
      | .stale => s1
      | _ => s)

/-- SYNC_RESP (R303): the status of an operation, or the registration of a wait. -/
def syncResp (pkt : Packet) (s : State) : State :=
  if pkt.op ≠ 0 then s
  else s.typed pkt 0x14 (match s.reqOf pkt with
    | none => s
    | some (id, r) =>
      let s1 : State := { s with fab.reqs := s.fab.reqs.del id }
      match r.issuer with
      | .sync who isWait scope =>
        if isWait then
          let w : Waiter := { who := who, queue := r.queue, op := r.pkt.op, value := fieldAt r.pkt.data 0 8, scope := scope }
          { s1 with fab.remoteWaits := s1.fab.remoteWaits.put (windowKey pkt.src pkt.seq) w }
        else s1.deliver { who := who, queue := r.queue, status := pkt.addr, isWait := false, scope := scope }
      | .cancel key => if pkt.addr = 0 then s1.waitCancelled key else s1
      | .deadWait => s1.cancelFar (windowKey pkt.src pkt.seq) r.queue .stale
      | .stale => s1
      | _ => s)

/-- SYNC_RELEASE (R303): a wait on another chip's object ends. -/
def syncRelease (pkt : Packet) (s : State) : State :=
  if pkt.op ≠ 1 then s
  else s.typed pkt 0x14 (
    match s.fab.remoteWaits.get? (windowKey pkt.src pkt.seq) with
    | some w =>
      let s1 : State := { s with fab.remoteWaits := s.fab.remoteWaits.del (windowKey pkt.src pkt.seq) }
      s1.deliver { who := w.who, queue := w.queue, status := pkt.addr, isWait := true, scope := w.scope }
    | none => match s.reqOf pkt with
      | none => s
      | some (id, r) => match r.issuer with
        | .sync who true scope =>
          let s1 : State := { s with fab.reqs := s.fab.reqs.del id }
          s1.deliver { who := who, queue := r.queue, status := pkt.addr, isWait := true, scope := scope }
        | .deadWait => { s with fab.reqs := s.fab.reqs.del id }
        | _ => s)

/-- Drop every copy that this chip holds of another member's line. -/
def State.dropTied (s : State) (chip line : Nat) : State :=
  { s with l2.tied := s.l2.tied.keep (fun k _ => !decide (k % 2 ^ 53 = chip % 4096 * 2 ^ 41 + line)) }

/-- A member's copies of a line are gone; with the last the entry is free again (R222, R230). -/
def State.copyGone (s : State) (line b : Nat) : State :=
  let s1 := s.dropSharer line b
  match s1.l2.dir.get? line with
  | some d => if d.sharers / 2 ^ 16 = 0 then { s1 with l2.dir := s1.l2.dir.put line { d with busy := none } } else s1
  | none => s1

/-- COH_MSG (R230, R370): op 0 an invalidation, which is acknowledged once the copies are gone; 3 an acknowledgement, or a notice that a copy was dropped; 4 the data of a line with a copy to
keep in the replica slice of the core that asked; one that answers no core's load, or that finds no way that can be freed now, is given back. -/
def cohMsg (pkt : Packet) (s : State) : State :=
  s.typed pkt 0x15 (
    let line := pkt.addr % 2 ^ 48 / 128
    if pkt.op = 0 then (s.dropTied pkt.src line).cohMsg pkt.src pkt.seq 3 (128 * line) [] 0
    else if pkt.op = 3 then
      (match s.tieBit pkt.src with
       | some b => s.copyGone line b
       | none => s)
    else if pkt.op = 4 then
      (match s.reqOf pkt with
       | some (id, r) =>
         let s1 := s.readArrived id r pkt.data pkt.poison
         (match r.issuer with
          | .load i _ => (match (s.l2.loads.get? i).elim none (fun l => s.copySlice l.core line) with
            | some sl =>
              let keep (s : State) : State := s.keepCopy sl pkt.src line pkt.data pkt.poison
              if s1.goes (tiedClient pkt) keep then keep s1 else s1.cohMsg pkt.src 0 3 (128 * line) [] 0
            | none => s1.cohMsg pkt.src 0 3 (128 * line) [] 0)
          | _ => s1.cohMsg pkt.src 0 3 (128 * line) [] 0)
       | none => s)
    else s)

/-! Packets whose CRC fails (R353). -/

/-- Store the data of a write as poisoned. -/
def State.poisonWrite (s : State) (p : Packet) (pa : Nat) (alloc : Bool) : State :=
  s.moveTo 0 pa (blankPoison p.data (2 ^ 32 - 1)) [(0, p.data.length)] alloc

/-- What the destination does after the fourth failure of a packet: a write is stored as poisoned, a read is answered with every granule poisoned, anything else is refused with 0x0D. A response that
fails so ends the request that it answers. -/
def State.crcGiveUp (s : State) (p : Packet) (len : Nat) : State :=
  let s1 := s.logRefused p 6
  if p.type = 0x02 ∨ (p.type = 0x05 ∧ p.op = 1) then
    s1.receive p (fun s2 => match s2.admitPkt p 2 with
      | .no st code => s2.refuse p st code
      | .ok f => match s2.reach f p.addr p.data.length .write with
        | .no st code => s2.refuse p st code
        | .at pa => (s2.poisonWrite p pa (decide (p.type = 0x05))).ackTo p 0)
  else if p.type = 0x01 ∨ (p.type = 0x05 ∧ p.op = 0) then
    s1.receive p (fun s2 => s2.answerTo p 0x11 0 p.addr (zeroBytes (min len 512)) (2 ^ ceilDiv (min len 512) 16 - 1))
  else if p.type ≤ 0x06 then s1.receive p (fun s2 => s2.ackTo p 0x0D)
  else match s1.reqOf p with
    | some (id, r) => s1.reqFailed id r 0x0D
    | none => s1

/-- PACKET_CRC_FAIL (R353): the packet is discarded and asked for again, up to its fourth failure. `len` is how many bytes a read asks for. -/
def packetCrcFail (pkt : Packet) (len : Nat) (s : State) : State :=
  if pkt.dst ≠ s.fab.chipId then s
  else
    let k := pkt.type * 2 ^ 48 + windowKey pkt.src pkt.seq
    let n := s.fab.crcFails.getD k 0 + 1
    if n < 4 then { s with fab.crcFails := s.fab.crcFails.put k n }
    else State.crcGiveUp { s with fab.crcFails := s.fab.crcFails.del k } pkt len

/-! The meanings. -/

/-- TIED_REQUEST_SERVE (R229). -/
def execTiedRequestServe (slice : Nat) (s : State) : Host.Outcome State Fault Refusal :=
  .next (tiedRequestServe slice s)
/-- FABRIC_READ (R363). -/
def execFabricRead (pkt : Packet) (len : Nat) (s : State) : Host.Outcome State Fault Refusal :=
  .next (s.outside (.fabRead pkt len) (fabricRead pkt len))
/-- FABRIC_WRITE (R363). -/
def execFabricWrite (pkt : Packet) (s : State) : Host.Outcome State Fault Refusal :=
  .next (s.outside (.fabWrite pkt) (fabricWrite pkt))
/-- FABRIC_ATOMIC (R363). -/
def execFabricAtomic (pkt : Packet) (s : State) : Host.Outcome State Fault Refusal :=
  .next (s.outside (.fabAtomic pkt) (fabricAtomic pkt))
/-- FABRIC_SYNC_OP (R363). -/
def execFabricSyncOp (pkt : Packet) (s : State) : Host.Outcome State Fault Refusal :=
  .next (fabricSyncOp pkt s)
/-- COH_REQ (R371). -/
def execCohReq (pkt : Packet) (len : Nat) (s : State) : Host.Outcome State Fault Refusal :=
  .next (cohReq pkt len s)
/-- READ_DATA (R363). -/
def execReadData (pkt : Packet) (s : State) : Host.Outcome State Fault Refusal :=
  .next (s.outside (.readData pkt) (readData pkt))
/-- FABRIC_ACK (R356). -/
def execFabricAck (pkt : Packet) (s : State) : Host.Outcome State Fault Refusal :=
  .next (s.outside (.fabAck pkt) (fabricAck pkt))
/-- ATOMIC_RESP (R363). -/
def execAtomicResp (pkt : Packet) (s : State) : Host.Outcome State Fault Refusal :=
  .next (s.outside (.atomAns pkt) (atomicResp pkt))
/-- SYNC_RESP (R363). -/
def execSyncResp (pkt : Packet) (s : State) : Host.Outcome State Fault Refusal :=
  .next (syncResp pkt s)
/-- SYNC_RELEASE (R303). -/
def execSyncRelease (pkt : Packet) (s : State) : Host.Outcome State Fault Refusal :=
  .next (syncRelease pkt s)
/-- PACKET_CRC_FAIL (R353). -/
def execPacketCrcFail (pkt : Packet) (len : Nat) (s : State) : Host.Outcome State Fault Refusal :=
  .next (s.outside (.crcFail pkt len) (packetCrcFail pkt len))

end Sys2Proof.Machine
end

