-- ==== Sys2Proof/Machine/Retry.lean ====
section
/-! DEFINITION. Machine/Retry.lean: the requests that have waited at a home: made again at a NACK_RETRY, or once the last copy of a tied member is gone (R222, R228, R230, R256). -/

namespace Sys2Proof.Machine

/-- Make a request that was held. -/
def remake (i : HeldReq) (s : State) : State :=
  match i with
  | .hostWrite fn off data tag => hostWriteBar2 fn off data tag s
  | .hostRead fn off len chk => hostReadBar2 fn off len chk s
  | .hostAtomic fn off kind bytes operand compare chk => hostAtomicop fn off kind bytes operand compare chk s
  | .write fn pa data => nonAllocatingWrite fn pa data s
  | .regWrite fn off size val => registerWrite fn off size val s
  | .regRead fn off size => registerRead fn off size s
  | .doorbell fn queue value => doorbellWrite fn queue value s
  | .fabRead pkt len => fabricRead pkt len s
  | .fabWrite pkt => fabricWrite pkt s
  | .fabAtomic pkt => fabricAtomic pkt s
  | .readData pkt => readData pkt s
  | .fabAck pkt => fabricAck pkt s
  | .collData pkt group rank => collectData pkt group rank s
  | .collResult pkt group => collectResult pkt group s
  | .crcFail pkt len => packetCrcFail pkt len s
  | .atomAns pkt => atomicResp pkt s

/-- Does a request only reach registers, so that no home stands against it? -/
def HeldReq.registers : HeldReq → Bool
  | .regWrite _ _ _ _ => true
  | .regRead _ _ _ => true
  | .doorbell _ _ _ => true
  | _ => false

/-- A held request is made again: it ends, or waits on. -/
def State.remakeHeld (s : State) (id : Nat) (i : HeldReq) : State :=
  let go (s : State) : State := remake i { s with l2.held := s.l2.held.del id }
  if i.registers then go s else s.coherent (.held id) 0xFFFF none go

/-- The held requests of a function, from the first, until one waits on (R256). -/
def State.drainHeld (f : Nat) : Nat → State → State
  | 0, s => s
  | k + 1, s =>
    match s.heldOf f with
    | [] => s
    | e :: _ =>
      let t := s.remakeHeld e.1 e.2
      if t.l2.held.has e.1 then t else State.drainHeld f k t

/-- Make a held request, and those of its function that wait behind it. -/
def State.resumeReq (s : State) (id : Nat) : State :=
  match s.l2.held.get? id with
  | none => s
  | some i => match i.host with
    | some f => State.drainHeld f s.l2.held.length s
    | none => s.remakeHeld id i

/-- NACK_RETRY (R228): a refused request is made again; `chk` is what the check of the home's arrays finds. An operation of another unit is made again by that unit's command. -/
def nackRetry (index : Nat) (chk : L2Check) (s : State) : State :=
  match s.l2.nacked[index]? with
  | none => s
  | some e => match e.who with
    | .held id => if s.l2.held.has id then s.resumeReq id else s.unNack none e.who
    | _ => s.coreRetry e chk

/-- Held requests for which an entry is busy. -/
def State.heldBusy (s : State) : List Nat := s.l2.dir.vals.filterMap (fun d => match d.busy with
  | some (_, .held id) => some id
  | _ => none)

/-- COH_MSG (R230, R370): a held request whose last copy is gone is made. -/
def cohMsgIn (pkt : Packet) (s : State) : State :=
  let t := cohMsg pkt s
  (s.heldBusy.filter (fun id => !t.heldBusy.contains id)).eraseDups.foldl State.resumeReq t

/-! The meanings. -/

/-- NACK_RETRY (R228). -/
def execNackRetry (index : Nat) (chk : L2Check) (s : State) : Host.Outcome State Fault Refusal :=
  .next (nackRetry index chk s)
/-- COH_MSG (R370). -/
def execCohMsg (pkt : Packet) (s : State) : Host.Outcome State Fault Refusal :=
  .next (cohMsgIn pkt s)

end Sys2Proof.Machine
end

