-- ==== Sys2Proof/Machine/Dispatch.lean ====
section
/-! DEFINITION. Machine/Dispatch.lean: the meaning of every command, one arm per constructor. -/

namespace Sys2Proof.Machine

def exec (i : Instr) (s : State) : Host.Outcome State Fault Refusal :=
  match i with
  | .registerWrite fn off size val => Sys2Proof.Machine.execRegisterWrite fn off size val s
  | .errLogRead64 log => Sys2Proof.Machine.execErrLogRead64 log s
  | .errLogReadLow log => Sys2Proof.Machine.execErrLogReadLow log s
  | .errLogReadHigh log => Sys2Proof.Machine.execErrLogReadHigh log s
  | .errLogRecordArrive log rec => Sys2Proof.Machine.execErrLogRecordArrive log rec s
  | .auxSupplyValid aOk bOk => Sys2Proof.Machine.execAuxSupplyValid aOk bOk s
  | .auxSupplyLoss => Sys2Proof.Machine.execAuxSupplyLoss s
  | .mainSupplyValid => Sys2Proof.Machine.execMainSupplyValid s
  | .mainSupplyLoss => Sys2Proof.Machine.execMainSupplyLoss s
  | .railsInRegulation => Sys2Proof.Machine.execRailsInRegulation s
  | .selfTestComplete found => Sys2Proof.Machine.execSelfTestComplete found s
  | .memoryZeroingComplete => Sys2Proof.Machine.execMemoryZeroingComplete s
  | .deviceReady => Sys2Proof.Machine.execDeviceReady s
  | .perstAssert aOk bOk => Sys2Proof.Machine.execPerstAssert aOk bOk s
  | .perstDeassert aOk bOk => Sys2Proof.Machine.execPerstDeassert aOk bOk s
  | .configRequestRrs => Sys2Proof.Machine.execConfigRequestRrs s
  | .trialReadyTimeout otherOk => Sys2Proof.Machine.execTrialReadyTimeout otherOk s
  | .mgtWatchdogRestart => Sys2Proof.Machine.execMgtWatchdogRestart s
  | .deviceReset who value aOk bOk => Sys2Proof.Machine.execDeviceReset who value aOk bOk s
  | .tiedReset who value allTakePart => Sys2Proof.Machine.execTiedReset who value allTakePart s
  | .opPointRequest who value => Sys2Proof.Machine.execOpPointRequest who value s
  | .opPointRampComplete => Sys2Proof.Machine.execOpPointRampComplete s
  | .gtbResyncPulse => Sys2Proof.Machine.execGtbResyncPulse s
  | .rateLiveUpdate domain rate => Sys2Proof.Machine.execRateLiveUpdate domain rate s
  | .descriptorUpdate level unit read => Sys2Proof.Machine.execDescriptorUpdate level unit read s
  | .timeMasterElection counts => Sys2Proof.Machine.execTimeMasterElection counts s
  | .fabricTimeSend link => Sys2Proof.Machine.execFabricTimeSend link s
  | .fabricTime link chip t2 t3 hop => Sys2Proof.Machine.execFabricTime link chip t2 t3 hop s
  | .gtbHoldoverEnter => Sys2Proof.Machine.execGtbHoldoverEnter s
  | .holdoverLockExpire => Sys2Proof.Machine.execHoldoverLockExpire s
  | .ptpMessageReceive port domain time => Sys2Proof.Machine.execPtpMessageReceive port domain time s
  | .ptpReferenceLoss => Sys2Proof.Machine.execPtpReferenceLoss s
  | .baseDieRead pa errs => Sys2Proof.Machine.execBaseDieRead pa errs s
  | .baseDieWrite pa data mask errs => Sys2Proof.Machine.execBaseDieWrite pa data mask errs s
  | .poisonReread pa errs => Sys2Proof.Machine.execPoisonReread pa errs s
  | .d2dTransferReceive pa write data errs => Sys2Proof.Machine.execD2dTransferReceive pa write data errs s
  | .patrolScrubRead errs => Sys2Proof.Machine.execPatrolScrubRead errs s
  | .demandScrubWriteback pa => Sys2Proof.Machine.execDemandScrubWriteback pa s
  | .rowSpare channel row => Sys2Proof.Machine.execRowSpare channel row s
  | .rowSpareComplete channel row => Sys2Proof.Machine.execRowSpareComplete channel row s
  | .dieRetireStart stack pos => Sys2Proof.Machine.execDieRetireStart stack pos s
  | .dieRetireComplete stack => Sys2Proof.Machine.execDieRetireComplete stack s
  | .pinGroupRetire channel pos => Sys2Proof.Machine.execPinGroupRetire channel pos s
  | .baseDieStallTimeout stack => Sys2Proof.Machine.execBaseDieStallTimeout stack s
  | .rowModeWrite who row value => Sys2Proof.Machine.execRowModeWrite who row value s
  | .rowZeroComplete row => Sys2Proof.Machine.execRowZeroComplete row s
  | .newtDescriptorFetch node => Sys2Proof.Machine.execNewtDescriptorFetch node s
  | .newtShareDeliver newt fn => Sys2Proof.Machine.execNewtShareDeliver newt fn s
  | .newtShareStart newt => Sys2Proof.Machine.execNewtShareStart newt s
  | .attnPart newt desc => Sys2Proof.Machine.execAttnPart newt desc s
  | .kvAppend newt desc => Sys2Proof.Machine.execKvAppend newt desc s
  | .gatherReduce newt desc => Sys2Proof.Machine.execGatherReduce newt desc s
  | .scatter newt desc => Sys2Proof.Machine.execScatter newt desc s
  | .newtCopy newt desc => Sys2Proof.Machine.execNewtCopy newt desc s
  | .fill newt desc => Sys2Proof.Machine.execFill newt desc s
  | .reduce newt desc => Sys2Proof.Machine.execReduce newt desc s
  | .quant newt desc => Sys2Proof.Machine.execQuant newt desc s
  | .dequant newt desc => Sys2Proof.Machine.execDequant newt desc s
  | .newtAtom newt desc => Sys2Proof.Machine.execNewtAtom newt desc s
  | .checksum newt desc => Sys2Proof.Machine.execChecksum newt desc s
  | .remoteCopy newt desc => Sys2Proof.Machine.execRemoteCopy newt desc s
  | .newtShareComplete newt desc => Sys2Proof.Machine.execNewtShareComplete newt desc s
  | .newtDescriptorComplete desc => Sys2Proof.Machine.execNewtDescriptorComplete desc s
  | .newtShareFault newt desc status => Sys2Proof.Machine.execNewtShareFault newt desc status s
  | .newtFail newt => Sys2Proof.Machine.execNewtFail newt s
  | .newtStallTimeout newt => Sys2Proof.Machine.execNewtStallTimeout newt s
  | .newtIdleGate newt => Sys2Proof.Machine.execNewtIdleGate newt s
  | .farAtomic atom => Sys2Proof.Machine.execFarAtomic atom s
  | .pageWalk fn va access => Sys2Proof.Machine.execPageWalk fn va access s
  | .nop is f => Sys2Proof.Machine.execNop is f s
  | .bra is f => Sys2Proof.Machine.execBra is f s
  | .brx is f => Sys2Proof.Machine.execBrx is f s
  | .call is f => Sys2Proof.Machine.execCall is f s
  | .exit is f => Sys2Proof.Machine.execExit is f s
  | .yield is f => Sys2Proof.Machine.execYield is f s
  | .gbar is f => Sys2Proof.Machine.execGbar is f s
  | .gbarWatchdogExpire core slot => Sys2Proof.Machine.execGbarWatchdogExpire core slot s
  | .fadd is f => Sys2Proof.Machine.execFadd is f s
  | .fmul is f => Sys2Proof.Machine.execFmul is f s
  | .ffma is f => Sys2Proof.Machine.execFfma is f s
  | .fmin is f => Sys2Proof.Machine.execFmin is f s
  | .fmax is f => Sys2Proof.Machine.execFmax is f s
  | .fsetp is f => Sys2Proof.Machine.execFsetp is f s
  | .rcp is f => Sys2Proof.Machine.execRcp is f s
  | .rsq is f => Sys2Proof.Machine.execRsq is f s
  | .sqrt is f => Sys2Proof.Machine.execSqrt is f s
  | .exp2 is f => Sys2Proof.Machine.execExp2 is f s
  | .log2 is f => Sys2Proof.Machine.execLog2 is f s
  | .sin is f => Sys2Proof.Machine.execSin is f s
  | .cos is f => Sys2Proof.Machine.execCos is f s
  | .iadd is f => Sys2Proof.Machine.execIadd is f s
  | .isub is f => Sys2Proof.Machine.execIsub is f s
  | .imul is f => Sys2Proof.Machine.execImul is f s
  | .imad is f => Sys2Proof.Machine.execImad is f s
  | .imulhi is f => Sys2Proof.Machine.execImulhi is f s
  | .imin is f => Sys2Proof.Machine.execImin is f s
  | .imax is f => Sys2Proof.Machine.execImax is f s
  | .isetp is f => Sys2Proof.Machine.execIsetp is f s
  | .and is f => Sys2Proof.Machine.execAnd is f s
  | .or is f => Sys2Proof.Machine.execOr is f s
  | .xor is f => Sys2Proof.Machine.execXor is f s
  | .shl is f => Sys2Proof.Machine.execShl is f s
  | .shr is f => Sys2Proof.Machine.execShr is f s
  | .bfe is f => Sys2Proof.Machine.execBfe is f s
  | .bfi is f => Sys2Proof.Machine.execBfi is f s
  | .popc is f => Sys2Proof.Machine.execPopc is f s
  | .clz is f => Sys2Proof.Machine.execClz is f s
  | .brev is f => Sys2Proof.Machine.execBrev is f s
  | .idp4 is f => Sys2Proof.Machine.execIdp4 is f s
  | .sel is f => Sys2Proof.Machine.execSel is f s
  | .plop is f => Sys2Proof.Machine.execPlop is f s
  | .movi is f => Sys2Proof.Machine.execMovi is f s
  | .iaddI is f => Sys2Proof.Machine.execIaddI is f s
  | .andI is f => Sys2Proof.Machine.execAndI is f s
  | .orI is f => Sys2Proof.Machine.execOrI is f s
  | .xorI is f => Sys2Proof.Machine.execXorI is f s
  | .shlI is f => Sys2Proof.Machine.execShlI is f s
  | .shrI is f => Sys2Proof.Machine.execShrI is f s
  | .faddI is f => Sys2Proof.Machine.execFaddI is f s
  | .fmulI is f => Sys2Proof.Machine.execFmulI is f s
  | .isetpI is f => Sys2Proof.Machine.execIsetpI is f s
  | .mov is f => Sys2Proof.Machine.execMov is f s
  | .srd is f => Sys2Proof.Machine.execSrd is f s
  | .v2s is f => Sys2Proof.Machine.execV2s is f s
  | .cvt is f => Sys2Proof.Machine.execCvt is f s
  | .cvtMx is f => Sys2Proof.Machine.execCvtMx is f s
  | .shfl is f => Sys2Proof.Machine.execShfl is f s
  | .vote is f => Sys2Proof.Machine.execVote is f s
  | .ld is f => Sys2Proof.Machine.execLd is f s
  | .st is f => Sys2Proof.Machine.execSt is f s
  | .ldAcq is f => Sys2Proof.Machine.execLdAcq is f s
  | .stRel is f => Sys2Proof.Machine.execStRel is f s
  | .pref is f => Sys2Proof.Machine.execPref is f s
  | .sclZero is f => Sys2Proof.Machine.execSclZero is f s
  | .sclInv is f => Sys2Proof.Machine.execSclInv is f s
  | .atomAdd is f => Sys2Proof.Machine.execAtomAdd is f s
  | .atomFadd is f => Sys2Proof.Machine.execAtomFadd is f s
  | .atomMin is f => Sys2Proof.Machine.execAtomMin is f s
  | .atomMax is f => Sys2Proof.Machine.execAtomMax is f s
  | .atomUmin is f => Sys2Proof.Machine.execAtomUmin is f s
  | .atomUmax is f => Sys2Proof.Machine.execAtomUmax is f s
  | .atomFmin is f => Sys2Proof.Machine.execAtomFmin is f s
  | .atomFmax is f => Sys2Proof.Machine.execAtomFmax is f s
  | .atomAnd is f => Sys2Proof.Machine.execAtomAnd is f s
  | .atomOr is f => Sys2Proof.Machine.execAtomOr is f s
  | .atomXor is f => Sys2Proof.Machine.execAtomXor is f s
  | .atomExch is f => Sys2Proof.Machine.execAtomExch is f s
  | .atomCas is f => Sys2Proof.Machine.execAtomCas is f s
  | .barLd is f => Sys2Proof.Machine.execBarLd is f s
  | .barSt is f => Sys2Proof.Machine.execBarSt is f s
  | .barFull is f => Sys2Proof.Machine.execBarFull is f s
  | .barrierComplete bar => Sys2Proof.Machine.execBarrierComplete bar s
  | .syncSignal is f => Sys2Proof.Machine.execSyncSignal is f s
  | .syncWaitGe is f => Sys2Proof.Machine.execSyncWaitGe is f s
  | .syncWaitEq is f => Sys2Proof.Machine.execSyncWaitEq is f s
  | .syncPost is f => Sys2Proof.Machine.execSyncPost is f s
  | .syncWaitDec is f => Sys2Proof.Machine.execSyncWaitDec is f s
  | .syncBarArrive is f => Sys2Proof.Machine.execSyncBarArrive is f s
  | .syncBarWait is f => Sys2Proof.Machine.execSyncBarWait is f s
  | .mxCfg is f => Sys2Proof.Machine.execMxCfg is f s
  | .mxLdw is f => Sys2Proof.Machine.execMxLdw is f s
  | .mxSwap is f => Sys2Proof.Machine.execMxSwap is f s
  | .mxStream is f => Sys2Proof.Machine.execMxStream is f s
  | .mxRd is f => Sys2Proof.Machine.execMxRd is f s
  | .mxClr is f => Sys2Proof.Machine.execMxClr is f s
  | .mxInstrStart core index => Sys2Proof.Machine.execMxInstrStart core index s
  | .mxInstrComplete core index => Sys2Proof.Machine.execMxInstrComplete core index s
  | .mxLimiterWindow core ready steps => Sys2Proof.Machine.execMxLimiterWindow core ready steps s
  | .coreLaneNarrowing core half => Sys2Proof.Machine.execCoreLaneNarrowing core half s
  | .coreNarrowingComplete core => Sys2Proof.Machine.execCoreNarrowingComplete core s
  | .contextKill queue code => Sys2Proof.Machine.execContextKill queue code s
  | .coreGroupsStop queue => Sys2Proof.Machine.execCoreGroupsStop queue s
  | .coreKillSettled queue => Sys2Proof.Machine.execCoreKillSettled queue s
  | .skipWalk queue => Sys2Proof.Machine.execSkipWalk queue s
  | .corePreemptRequest core block => Sys2Proof.Machine.execCorePreemptRequest core block s
  | .groupSave core slot => Sys2Proof.Machine.execGroupSave core slot s
  | .blockSaveComplete core block => Sys2Proof.Machine.execBlockSaveComplete core block s
  | .blockRestore queue core => Sys2Proof.Machine.execBlockRestore queue core s
  | .loadResponse load found => Sys2Proof.Machine.execLoadResponse load found s
  | .storeBufferDrain core seq => Sys2Proof.Machine.execStoreBufferDrain core seq s
  | .homeRead load line chk => Sys2Proof.Machine.execHomeRead load line chk s
  | .homeStore core seq chk => Sys2Proof.Machine.execHomeStore core seq chk s
  | .homeAtomic atom chk => Sys2Proof.Machine.execHomeAtomic atom chk s
  | .nonAllocatingWrite fn pa data => Sys2Proof.Machine.execNonAllocatingWrite fn pa data s
  | .newtReadWriteback line chk => Sys2Proof.Machine.execNewtReadWriteback line chk s
  | .replicaDropNotice plain line => Sys2Proof.Machine.execReplicaDropNotice plain line s
  | .nackRetry index chk => Sys2Proof.Machine.execNackRetry index chk s
  | .tiedRequestServe slice => Sys2Proof.Machine.execTiedRequestServe slice s
  | .dirUncorrectable line tag => Sys2Proof.Machine.execDirUncorrectable line tag s
  | .wayRetire slice way => Sys2Proof.Machine.execWayRetire slice way s
  | .wayRetireComplete slice way => Sys2Proof.Machine.execWayRetireComplete slice way s
  | .cohTransactionTimeout line => Sys2Proof.Machine.execCohTransactionTimeout line s
  | .directoryStallTimeout slice => Sys2Proof.Machine.execDirectoryStallTimeout slice s
  | .coherentDomainLoss member wasReset => Sys2Proof.Machine.execCoherentDomainLoss member wasReset s
  | .chipStallFail domain => Sys2Proof.Machine.execChipStallFail domain s
  | .plainGate plain => Sys2Proof.Machine.execPlainGate plain s
  | .plainWake plain => Sys2Proof.Machine.execPlainWake plain s
  | .bucketReturn partition bucket => Sys2Proof.Machine.execBucketReturn partition bucket s
  | .sclAutoEnable core => Sys2Proof.Machine.execSclAutoEnable core s
  | .sclCtrlInvalidate core => Sys2Proof.Machine.execSclCtrlInvalidate core s
  | .sclCtrlEnable core enable => Sys2Proof.Machine.execSclCtrlEnable core enable s
  | .scratchKibWrite who partition value => Sys2Proof.Machine.execScratchKibWrite who partition value s
  | .scratchChangeApply core => Sys2Proof.Machine.execScratchChangeApply core s
  | .hostWriteBar2 fn off data tag => Sys2Proof.Machine.execHostWriteBar2 fn off data tag s
  | .hostReadBar2 fn off len chk => Sys2Proof.Machine.execHostReadBar2 fn off len chk s
  | .hostAtomicop fn off kind bytes operand compare chk => Sys2Proof.Machine.execHostAtomicop fn off kind bytes operand compare chk s
  | .doorbellWrite fn queue value => Sys2Proof.Machine.execDoorbellWrite fn queue value s
  | .queueEnable who queue => Sys2Proof.Machine.execQueueEnable who queue s
  | .queueDisable who queue => Sys2Proof.Machine.execQueueDisable who queue s
  | .queuePreempt queue => Sys2Proof.Machine.execQueuePreempt queue s
  | .queueResume queue => Sys2Proof.Machine.execQueueResume queue s
  | .queueKill queue => Sys2Proof.Machine.execQueueKill queue s
  | .queueReset queue => Sys2Proof.Machine.execQueueReset queue s
  | .queuePreempted queue => Sys2Proof.Machine.execQueuePreempted queue s
  | .timeSliceEnd partition => Sys2Proof.Machine.execTimeSliceEnd partition s
  | .queueTimeout queue => Sys2Proof.Machine.execQueueTimeout queue s
  | .nodeFetch queue graph => Sys2Proof.Machine.execNodeFetch queue graph s
  | .nodeNop node => Sys2Proof.Machine.execNodeNop node s
  | .nodeLaunch node => Sys2Proof.Machine.execNodeLaunch node s
  | .blockPlace node core => Sys2Proof.Machine.execBlockPlace node core s
  | .nodeCopy node => Sys2Proof.Machine.execNodeCopy node s
  | .dmaPieceStart node engine => Sys2Proof.Machine.execDmaPieceStart node engine s
  | .dmaPieceComplete engine => Sys2Proof.Machine.execDmaPieceComplete engine s
  | .dmaFlushReadComplete node => Sys2Proof.Machine.execDmaFlushReadComplete node s
  | .nodeWait node => Sys2Proof.Machine.execNodeWait node s
  | .nodeSignal node => Sys2Proof.Machine.execNodeSignal node s
  | .nodeCollect node => Sys2Proof.Machine.execNodeCollect node s
  | .nodeCall node => Sys2Proof.Machine.execNodeCall node s
  | .nodePlan node => Sys2Proof.Machine.execNodePlan node s
  | .nodeMark node => Sys2Proof.Machine.execNodeMark node s
  | .nodeComplete node => Sys2Proof.Machine.execNodeComplete node s
  | .planExit ctx => Sys2Proof.Machine.execPlanExit ctx s
  | .planLaunch ctx => Sys2Proof.Machine.execPlanLaunch ctx s
  | .planWaitGraph ctx => Sys2Proof.Machine.execPlanWaitGraph ctx s
  | .planSync ctx => Sys2Proof.Machine.execPlanSync ctx s
  | .planYield ctx => Sys2Proof.Machine.execPlanYield ctx s
  | .planFault ctx => Sys2Proof.Machine.execPlanFault ctx s
  | .syncObjectApply index => Sys2Proof.Machine.execSyncObjectApply index s
  | .syncWaitRegister index => Sys2Proof.Machine.execSyncWaitRegister index s
  | .syncRegisterRetry index => Sys2Proof.Machine.execSyncRegisterRetry index s
  | .waiterRelease index => Sys2Proof.Machine.execWaiterRelease index s
  | .syncWaitCancel core slot => Sys2Proof.Machine.execSyncWaitCancel core slot s
  | .synCreate fn cmd => Sys2Proof.Machine.execSynCreate fn cmd s
  | .synDestroy fn cmd => Sys2Proof.Machine.execSynDestroy fn cmd s
  | .synOperate fn cmd => Sys2Proof.Machine.execSynOperate fn cmd s
  | .synSetError fn cmd => Sys2Proof.Machine.execSynSetError fn cmd s
  | .synResetObj fn cmd => Sys2Proof.Machine.execSynResetObj fn cmd s
  | .synRead fn cmd => Sys2Proof.Machine.execSynRead fn cmd s
  | .synMirror fn cmd => Sys2Proof.Machine.execSynMirror fn cmd s
  | .synNotify fn cmd => Sys2Proof.Machine.execSynNotify fn cmd s
  | .syncRangeWrite who partition value => Sys2Proof.Machine.execSyncRangeWrite who partition value s
  | .msixSend fn vector => Sys2Proof.Machine.execMsixSend fn vector s
  | .msixModerationExpire fn vector => Sys2Proof.Machine.execMsixModerationExpire fn vector s
  | .msixUnmask fn vector => Sys2Proof.Machine.execMsixUnmask fn vector s
  | .busMasterEnableSet fn atomic ats => Sys2Proof.Machine.execBusMasterEnableSet fn atomic ats s
  | .flr who fn => Sys2Proof.Machine.execFlr who fn s
  | .flrComplete fn => Sys2Proof.Machine.execFlrComplete fn s
  | .fnDisable who fn => Sys2Proof.Machine.execFnDisable who fn s
  | .drainWindowExpire queue => Sys2Proof.Machine.execDrainWindowExpire queue s
  | .disablePoint fn => Sys2Proof.Machine.execDisablePoint fn s
  | .disableComplete fn => Sys2Proof.Machine.execDisableComplete fn s
  | .fnEnable who fn => Sys2Proof.Machine.execFnEnable who fn s
  | .partitionReset who partition => Sys2Proof.Machine.execPartitionReset who partition s
  | .partitionQmaskWrite who partition value => Sys2Proof.Machine.execPartitionQmaskWrite who partition value s
  | .slabGrant who slab partition => Sys2Proof.Machine.execSlabGrant who slab partition s
  | .slabRelease who slab => Sys2Proof.Machine.execSlabRelease who slab s
  | .slabZeroComplete slab => Sys2Proof.Machine.execSlabZeroComplete slab s
  | .fnPartitionWrite who fn partition => Sys2Proof.Machine.execFnPartitionWrite who fn partition s
  | .vfEnableWrite enable numVfs => Sys2Proof.Machine.execVfEnableWrite enable numVfs s
  | .d3hotEntry fn => Sys2Proof.Machine.execD3hotEntry fn s
  | .bar2Resize vf sizeLog => Sys2Proof.Machine.execBar2Resize vf sizeLog s
  | .translationInvalidate fn cmd => Sys2Proof.Machine.execTranslationInvalidate fn cmd s
  | .translationInvalidateAll fn cmd => Sys2Proof.Machine.execTranslationInvalidateAll fn cmd s
  | .invalidateComplete fn => Sys2Proof.Machine.execInvalidateComplete fn s
  | .atsInvalidateRequest fn page pages => Sys2Proof.Machine.execAtsInvalidateRequest fn page pages s
  | .atsTranslationCompletion fn page frame read write => Sys2Proof.Machine.execAtsTranslationCompletion fn page frame read write s
  | .pcieLinkDown => Sys2Proof.Machine.execPcieLinkDown s
  | .pcieLinkUp => Sys2Proof.Machine.execPcieLinkUp s
  | .doeDiscovery index => Sys2Proof.Machine.execDoeDiscovery index s
  | .spdmGetCertificate slot off len => Sys2Proof.Machine.execSpdmGetCertificate slot off len s
  | .spdmChallenge slot nonce => Sys2Proof.Machine.execSpdmChallenge slot nonce s
  | .spdmGetMeasurements index nonce => Sys2Proof.Machine.execSpdmGetMeasurements index nonce s
  | .spdmSetCertificate slot chain => Sys2Proof.Machine.execSpdmSetCertificate slot chain s
  | .linkTrainingAttempt link => Sys2Proof.Machine.execLinkTrainingAttempt link s
  | .linkTrainingComplete link peer peerLink lanes peerTie => Sys2Proof.Machine.execLinkTrainingComplete link peer peerLink lanes peerTie s
  | .laneDrop link => Sys2Proof.Machine.execLaneDrop link s
  | .linkRetrainComplete link => Sys2Proof.Machine.execLinkRetrainComplete link s
  | .linkDown link => Sys2Proof.Machine.execLinkDown link s
  | .flitReceive link seq good corrected => Sys2Proof.Machine.execFlitReceive link seq good corrected s
  | .fabricRead pkt len => Sys2Proof.Machine.execFabricRead pkt len s
  | .fabricWrite pkt => Sys2Proof.Machine.execFabricWrite pkt s
  | .fabricAtomic pkt => Sys2Proof.Machine.execFabricAtomic pkt s
  | .fabricSyncOp pkt => Sys2Proof.Machine.execFabricSyncOp pkt s
  | .cohReq pkt len => Sys2Proof.Machine.execCohReq pkt len s
  | .collectData pkt group rank => Sys2Proof.Machine.execCollectData pkt group rank s
  | .readData pkt => Sys2Proof.Machine.execReadData pkt s
  | .fabricAck pkt => Sys2Proof.Machine.execFabricAck pkt s
  | .atomicResp pkt => Sys2Proof.Machine.execAtomicResp pkt s
  | .syncResp pkt => Sys2Proof.Machine.execSyncResp pkt s
  | .syncRelease pkt => Sys2Proof.Machine.execSyncRelease pkt s
  | .cohMsg pkt => Sys2Proof.Machine.execCohMsg pkt s
  | .collectResult pkt group => Sys2Proof.Machine.execCollectResult pkt group s
  | .collectAbort pkt group => Sys2Proof.Machine.execCollectAbort pkt group s
  | .linkState pkt valley mask reachable passes => Sys2Proof.Machine.execLinkState pkt valley mask reachable passes s
  | .packetCrcFail pkt len => Sys2Proof.Machine.execPacketCrcFail pkt len s
  | .requestResend req link => Sys2Proof.Machine.execRequestResend req link s
  | .passOccupancyAdvert pkt valley occupancy => Sys2Proof.Machine.execPassOccupancyAdvert pkt valley occupancy s
  | .chipUnreachable chip => Sys2Proof.Machine.execChipUnreachable chip s
  | .chipReachableAgain chip => Sys2Proof.Machine.execChipReachableAgain chip s
  | .laserLightLoss laser => Sys2Proof.Machine.execLaserLightLoss laser s
  | .cmisAlarmPoll laser flags => Sys2Proof.Machine.execCmisAlarmPoll laser flags s
  | .laneGroupSwitchover engine group => Sys2Proof.Machine.execLaneGroupSwitchover engine group s
  | .plannedMove => Sys2Proof.Machine.execPlannedMove s
  | .laserService who laser => Sys2Proof.Machine.execLaserService who laser s
  | .laserInsert laser identity bayChip bayEpoch readable => Sys2Proof.Machine.execLaserInsert laser identity bayChip bayEpoch readable s
  | .laserCalibrationComplete laser passed flags => Sys2Proof.Machine.execLaserCalibrationComplete laser passed flags s
  | .laserRecalibrate who laser => Sys2Proof.Machine.execLaserRecalibrate who laser s
  | .laserTelemetryPoll laser bytes => Sys2Proof.Machine.execLaserTelemetryPoll laser bytes s
  | .laserLifeHour laser temp => Sys2Proof.Machine.execLaserLifeHour laser temp s
  | .oeFail engine => Sys2Proof.Machine.execOeFail engine s
  | .svcQpDoorbell fn qp value => Sys2Proof.Machine.execSvcQpDoorbell fn qp value s
  | .svcQpStateWrite who fn qp bytes => Sys2Proof.Machine.execSvcQpStateWrite who fn qp bytes s
  | .rdmaWrite fn qp => Sys2Proof.Machine.execRdmaWrite fn qp s
  | .rdmaRead fn qp => Sys2Proof.Machine.execRdmaRead fn qp s
  | .rdmaWorkComplete fn qp data => Sys2Proof.Machine.execRdmaWorkComplete fn qp data s
  | .rdmaWorkFail fn qp status => Sys2Proof.Machine.execRdmaWorkFail fn qp status s
  | .rdmaAckTimeout fn qp => Sys2Proof.Machine.execRdmaAckTimeout fn qp s
  | .roceRemoteRequest fn qp op addr rkey len data => Sys2Proof.Machine.execRoceRemoteRequest fn qp op addr rkey len data s
  | .roceCnpReceive fn qp => Sys2Proof.Machine.execRoceCnpReceive fn qp s
  | .neighbourRequest port ip => Sys2Proof.Machine.execNeighbourRequest port ip s
  | .pfcFrameReceive port enable pause => Sys2Proof.Machine.execPfcFrameReceive port enable pause s
  | .pfcXoffSend port priority fill => Sys2Proof.Machine.execPfcXoffSend port priority fill s
  | .pfcWatchdogExpire port priority => Sys2Proof.Machine.execPfcWatchdogExpire port priority s
  | .svcLinkDown port => Sys2Proof.Machine.execSvcLinkDown port s
  | .svcLinkUp port => Sys2Proof.Machine.execSvcLinkUp port s
  | .powerCapEvaluation energy matrix full => Sys2Proof.Machine.execPowerCapEvaluation energy matrix full s
  | .overcurrentAlarm => Sys2Proof.Machine.execOvercurrentAlarm s
  | .droopDetect domain => Sys2Proof.Machine.execDroopDetect domain s
  | .droopRecover domain => Sys2Proof.Machine.execDroopRecover domain s
  | .thermalEvaluation temps => Sys2Proof.Machine.execThermalEvaluation temps s
  | .thermalTrip sensor reading => Sys2Proof.Machine.execThermalTrip sensor reading s
  | .energyAttribution rails => Sys2Proof.Machine.execEnergyAttribution rails s
  | .slicePacing rates => Sys2Proof.Machine.execSlicePacing rates s
  | .pwrJobRelease who job => Sys2Proof.Machine.execPwrJobRelease who job s
  | .kamufRead who frame => Sys2Proof.Machine.execKamufRead who frame s
  | .kamufWrite who frame => Sys2Proof.Machine.execKamufWrite who frame s
  | .kamufDescribe who frame => Sys2Proof.Machine.execKamufDescribe who frame s
  | .kamufNext who frame => Sys2Proof.Machine.execKamufNext who frame s
  | .segmentAssemblyTimeout index => Sys2Proof.Machine.execSegmentAssemblyTimeout index s
  | .mailboxGo fn value => Sys2Proof.Machine.execMailboxGo fn value s
  | .mailboxResponse fn => Sys2Proof.Machine.execMailboxResponse fn s
  | .setEndpointId eid => Sys2Proof.Machine.execSetEndpointId eid s
  | .getEndpointId => Sys2Proof.Machine.execGetEndpointId s
  | .getMctpVersionSupport type => Sys2Proof.Machine.execGetMctpVersionSupport type s
  | .getMessageTypeSupport => Sys2Proof.Machine.execGetMessageTypeSupport s
  | .getVendorDefinedMessageSupport selector => Sys2Proof.Machine.execGetVendorDefinedMessageSupport selector s
  | .logRecordAppend type old new => Sys2Proof.Machine.execLogRecordAppend type old new s
  | .logAppend who note => Sys2Proof.Machine.execLogAppend who note s
  | .errLogPersistCopy rec => Sys2Proof.Machine.execErrLogPersistCopy rec s
  | .sensorRead sensor value readable => Sys2Proof.Machine.execSensorRead sensor value readable s
  | .updateBegin who => Sys2Proof.Machine.execUpdateBegin who s
  | .updateImageSegment who off bytes last => Sys2Proof.Machine.execUpdateImageSegment who off bytes last s
  | .updateVerify who => Sys2Proof.Machine.execUpdateVerify who s
  | .updateActivate who => Sys2Proof.Machine.execUpdateActivate who s
  | .updateCommit who => Sys2Proof.Machine.execUpdateCommit who s
  | .updateAbort who => Sys2Proof.Machine.execUpdateAbort who s
  | .debugKill who queue => Sys2Proof.Machine.execDebugKill who queue s
  | .sliceMembersWrite who bytes => Sys2Proof.Machine.execSliceMembersWrite who bytes s
  | .cntValueWrite off value => Sys2Proof.Machine.execCntValueWrite off value s
  | .cntFreeze freeze => Sys2Proof.Machine.execCntFreeze freeze s
  | .cntClearAll => Sys2Proof.Machine.execCntClearAll s
  | .layerFlushRequest fn => Sys2Proof.Machine.execLayerFlushRequest fn s
  | .layerFlushTimer fn => Sys2Proof.Machine.execLayerFlushTimer fn s
  | .cntLayerBaseWrite who fn value => Sys2Proof.Machine.execCntLayerBaseWrite who fn value s
  | .layerFlushComplete fn => Sys2Proof.Machine.execLayerFlushComplete fn s
  | .traceRecordEmit source rec => Sys2Proof.Machine.execTraceRecordEmit source rec s
  | .traceGapRecord buf source => Sys2Proof.Machine.execTraceGapRecord buf source s
  | .traceDrain buf source => Sys2Proof.Machine.execTraceDrain buf source s
  | .traceStart fn buf => Sys2Proof.Machine.execTraceStart fn buf s
  | .traceStop fn buf => Sys2Proof.Machine.execTraceStop fn buf s
  | .traceTrigger fn buf => Sys2Proof.Machine.execTraceTrigger fn buf s
  | .traceDisable fn buf => Sys2Proof.Machine.execTraceDisable fn buf s
  | .trcReadWrite fn buf value => Sys2Proof.Machine.execTrcReadWrite fn buf value s
  | .traceStopped buf => Sys2Proof.Machine.execTraceStopped buf s
  | .registerRead fn off size => Sys2Proof.Machine.execRegisterRead fn off size s
  | .controlCoreInstruction ctx => Sys2Proof.Machine.execControlCoreInstruction ctx s
  | .d0Entry fn => Sys2Proof.Machine.execD0Entry fn s
  | .laserRemove laser => Sys2Proof.Machine.execLaserRemove laser s

end Sys2Proof.Machine
end

