-- ==== Sys2Proof/Safety.lean ====
section
/-! DEFINITION. Safety.lean: what counts as a safe run, in the terms that statements use. -/

namespace Sys2Proof.Machine

/-- Strictly rising byte addresses, and no byte that an unlisted address would read as. -/
def cellsWf : List Host.Cell → Bool
  | [] => true
  | [c] => decide (c.2 ≠ 0#8)
  | c :: d :: t => decide (c.1 < d.1) && decide (c.2 ≠ 0#8) && cellsWf (d :: t)

/-- The canonical form of device memory (R57): one list for one contents. -/
abbrev Memory.wf (m : List Host.Cell) : Prop := cellsWf m = true

/-- A step that went on. -/
def isNext (o : Host.Outcome State Fault Refusal) : Bool :=
  match o with
  | .next _ => true
  | _ => false

/-- The homes of every line that an operation of a unit of the chip touches can take it now: no set is full, no entry is busy or closed, and no tied member holds a copy that must go first (R222, R228, R229, R236). -/
abbrev State.unitGoes (s : State) (kind index : Nat) (go : State → State) : Prop := s.goes (.other (kind * 2 ^ 48 + index)) go = true

/-- The state behind such an operation: no retry of it is left over. -/
def State.unitDone (t : State) (kind index : Nat) : State := { (t.unNack none (.other (kind * 2 ^ 48 + index))) with l2.refused := none }

/-- A fetched node of a type may start now: it waits, its queue runs and dispatches, it is ready, no earlier node goes first, its queue and its function have their turn, and its checks passed (R270, R272, R278). -/
abbrev State.nodeStarts (s : State) (id ty : Nat) (n : Node) : Prop :=
  s.fe.nodes.get? id = some n ∧ s.canStart n = true ∧ s.heldBack id n = false ∧ s.queueTurn n.queue = true ∧ s.fnTurn (fnOfQueue n.queue) = true ∧
    n.check = 0 ∧ n.type = ty

/-- The next operation of a started share may run: it has the opcode, the output that it takes from the operation before is there, and the newt is served (R75, R96). -/
abbrev State.newtReady (s : State) (newt desc opcode : Nat) (h : Share) (d : Desc) : Prop :=
  s.share newt desc = some h ∧ s.nwt.descs.get? desc = some d ∧ h.started = true ∧ h.stop = false ∧ h.fault = 0 ∧ h.nextOp < d.opCount ∧
    (d.op h.nextOp).opcode = opcode ∧ s.unserved newt = false

/-- The work of a share at its next operation. -/
def workOf (newt desc : Nat) (h : Share) (d : Desc) : Wk := { f := fnOfQueue d.queue, q := d.queue, d := desc, newt := newt, k := h.nextOp }

/-- What the operation before leaves to this one is there. -/
abbrev linkThere (w : Wk) (d : Desc) : Prop := (d.op w.k).srcPrev = true → (d.streamFor w).isSome = true

/-- How an operation of a newt leaves its share: with its work done the share stands at the next operation; with a status it holds that status (R75, R94). A count of 0 makes no access (R76). -/
def OpEnds (s : State) (newt desc : Nat) (h : Share) (d : Desc) (work : Nk Unit) (t : State) : Prop :=
  match (if (d.op h.nextOp).count = 0 ∧ (d.op h.nextOp).opcode ≠ 0x01 then .ok () (s.openStream (workOf newt desc h d) (d.op h.nextOp)) else work) with
  | .ok _ u => t = u.modShare newt desc (fun h => { h with nextOp := h.nextOp + 1, progressAt := s.time.mono })
  | .bad c u => t = u.modShare newt desc (fun h => { h with fault := c })

/-- The number of a newt's operation among those of the units. -/
abbrev opIndex (newt desc : Nat) : Nat := newt * 2 ^ 32 + desc

/-! Issue of an instruction by a core. -/

/-- A legal or illegal word of Table 6.10 issues at a group: the core is ready, the group goes on and has threads there that do not wait, it is the turn of these threads, the word at the address is this one, every register that it
names has its value, and no error of the core's own arrays or lanes meets it (R105 to R109, R114, R127). `s1` is the state after the fetch. -/
structure Issues (s : State) (is : Issue) (word : Nat) (regs : List Nat) (g : Group) (s1 : State) : Prop where
  group : (s.core is.core).groups.get? is.slot = some g
  ready : (s.core is.core).state = 0
  goes : g.stopped = false ∧ g.faulted = false
  threads : g.issueMask is.pc ≠ 0
  awake : natAnd 64 g.waiting (g.issueMask is.pc) = 0
  turn : s.turn is = true
  fetched : s.fetchWord is.core is.slot g.queue is.pc = .word word s1
  listed : listedWord word = true
  free : ∀ r ∈ regs, r ∉ s.pendingRegs is.core is.slot (g.issueMask is.pc)
  clean : is.rfDouble = false ∧ is.residue = none

/-- A thread of the issue in which the guard holds (R129, R133). -/
abbrev Group.acting (g : Group) (pc guard : Nat) (neg : Bool) (th : Nat) : Prop :=
  bit (g.issueMask pc) th = true ∧ g.guard guard neg th = true

/-- The lowest thread of the issue at an address (R130). -/
abbrev Group.first (g : Group) (pc : Nat) : Nat := lowest (g.issueMask pc)

/-- What every issue leaves: the threads of the issue stand behind the instruction, the others where they were; who is live, waits or is stopped stays; so do the other groups and cores, and, unless a layer table fills up with
this issue's count, memory and the caches (R129, R441). -/
structure IssueFrame (s1 t : State) (is : Issue) (g h : Group) : Prop where
  here : (t.core is.core).groups.get? is.slot = some h
  pcs : ∀ th, th < 64 → h.pcs.getD th 0 = if bit (g.issueMask is.pc) th then (is.pc + 8) % 2 ^ 57 else g.pcs.getD th 0
  who : h.live = g.live ∧ h.gbar = g.gbar ∧ h.waiting = g.waiting ∧ h.stopped = g.stopped ∧ h.faulted = g.faulted ∧ h.queue = g.queue
  others : ∀ k, k ≠ is.slot → s1.accumCount < 4096 → (t.core is.core).groups.get? k = (s1.core is.core).groups.get? k
  rest : s1.accumCount < 4096 → t.mem = s1.mem ∧ t.l2 = s1.l2 ∧ (∀ c, c ≠ is.core → t.core c = s1.core c)

/-- A vector instruction wrote `size` registers from `dst` on in each thread whose guard holds, and no other register (R129). -/
def VectorResult (s1 t : State) (is : Issue) (g : Group) (guard : Nat) (neg : Bool) (dst size : Nat) (val : Nat → Nat) : Prop :=
  ∃ h, IssueFrame s1 t is g h ∧
    (∀ r th, th < 64 → h.vreg r th =
      if g.acting is.pc guard neg th ∧ dst ≤ r ∧ r < dst + size then val th / 2 ^ (32 * (r - dst)) % 2 ^ 32 else g.vreg r th) ∧
    (∀ r, h.sreg r = g.sreg r) ∧ (∀ r th, h.pred r th = g.pred r th)

/-- A scalar instruction wrote one scalar register where the guard holds in the lowest thread, and no other register; of a 32-bit result the low half (R130). -/
def ScalarResult (s1 t : State) (is : Issue) (g : Group) (guard : Nat) (neg : Bool) (dst size : Nat) (val : Nat → Nat) : Prop :=
  ∃ h, IssueFrame s1 t is g h ∧
    (g.acting is.pc guard neg (g.first is.pc) → h.sreg dst % 2 ^ (32 * size) = val (g.first is.pc) % 2 ^ (32 * size)) ∧
    (∀ r, ¬ (g.acting is.pc guard neg (g.first is.pc) ∧ r = dst) → h.sreg r = g.sreg r) ∧
    (∀ r th, h.vreg r th = g.vreg r th) ∧ (∀ r th, h.pred r th = g.pred r th)

/-- An instruction wrote one predicate: in each thread whose guard holds, or, as a scalar instruction, the value of the lowest thread in every thread of the issue; a write to p7 is discarded (R128, R129, R137). -/
def PredicateResult (s1 t : State) (is : Issue) (g : Group) (guard : Nat) (neg scalar : Bool) (dst : Nat) (val : Nat → Bool) : Prop :=
  ∃ h, IssueFrame s1 t is g h ∧
    (∀ r th, th < 64 → h.pred r th =
      if r = dst ∧ dst ≠ 7 ∧ (if scalar then bit (g.issueMask is.pc) th = true ∧ g.acting is.pc guard neg (g.first is.pc) else g.acting is.pc guard neg th)
      then val (if scalar then g.first is.pc else th) else g.pred r th) ∧
    (∀ r th, h.vreg r th = g.vreg r th) ∧ (∀ r, h.sreg r = g.sreg r)

/-- A vector or scalar result, as the form says. -/
def ResultOf (s1 t : State) (is : Issue) (g : Group) (guard : Nat) (neg scalar : Bool) (dst size : Nat) (val : Nat → Nat) : Prop :=
  if scalar then ScalarResult s1 t is g guard neg dst size val else VectorResult s1 t is g guard neg dst size val

/-- An instruction of format A with an opcode issues: the registers of its sources and of its result have their values (R105 to R109, R127, R134). -/
abbrev IssuesA (s : State) (is : Issue) (f : FmtA) (op : Nat) (ins : List (Nat × Nat)) (size : Nat) (g : Group) (s1 : State) : Prop :=
  Issues s is (f.word op) (ins.flatMap (fun e => f.srcRegs e.1 e.2) ++ (if size = 0 then [] else f.dstRegs size)) g s1

/-- May an instruction of format A that writes a value have these fields: its listed types, the ranges of sub and rnd, whether sat is allowed, the types of its scalar form, its sources and its result (R131, R134, Table 6.18)? -/
def valueLegal (f : FmtA) (vregs : Nat) (types : List Nat) (subs rnds : Nat) (sat : Bool) (scal : List Nat) (ins : List (Nat × Nat)) : Bool :=
  FmtA_ok f vregs types subs rnds sat scal ins && f.dstOk vregs (typeRegs f.type)

/-- The same for an instruction of format A that writes a predicate. -/
def predicateLegal (f : FmtA) (vregs : Nat) (types : List Nat) (subs : Nat) (scal : List Nat) (ins : List (Nat × Nat)) : Bool :=
  FmtA_ok f vregs types subs 1 false scal ins && decide (f.dst < 8)

/-- The value of an instruction of format A is in its destination, and nothing else changed. -/
abbrev ValueWritten (s1 t : State) (is : Issue) (g : Group) (f : FmtA) (val : Nat → Nat) : Prop :=
  ResultOf s1 t is g f.guard f.guardNeg f.S f.dst (typeRegs f.type) val

/-- An illegal word kills the context with code 0x04 at the lowest thread of the issue (R162). -/
abbrev illegalWord (s1 : State) (is : Issue) (g : Group) : State := s1.coreFault is.core is.slot (g.first is.pc) 0x04 is.pc 0

/-- An instruction of format I with source a and one register issues. -/
abbrev IssuesI (s : State) (is : Issue) (f : FmtI) (op : Nat) (g : Group) (s1 : State) : Prop :=
  Issues s is (f.word op) ([if fmtIScal f then 256 + f.a else f.a] ++ fmtIDst f 1) g s1

/-- May such an instruction have these fields? -/
def immediateLegal (f : FmtI) (vregs : Nat) : Bool := fmtISrcOk f vregs true && !f.hi && fmtIDstOk f vregs 1

/-- A group went on behind the issue with its registers as they were: the threads of the issue stand at the next instruction. -/
def WentOn (t : State) (is : Issue) (g : Group) : Prop :=
  ∃ h, (t.core is.core).groups.get? is.slot = some h ∧
    (∀ th, th < 64 → h.pcs.getD th 0 = if bit (g.issueMask is.pc) th then (is.pc + 8) % 2 ^ 57 else g.pcs.getD th 0) ∧
    h.v = g.v ∧ h.s = g.s ∧ h.p = g.p ∧ h.live = g.live ∧ h.gbar = g.gbar ∧ h.waiting = g.waiting

/-- What a control instruction leaves: its group with its registers and the stated pcs, the other groups and cores, memory and the caches. -/
def Steered (s1 t : State) (is : Issue) (g h : Group) (pc : Nat → Nat) : Prop :=
  (t.core is.core).groups.get? is.slot = some h ∧ (∀ th, th < 64 → h.pcs.getD th 0 = pc th) ∧ h.s = g.s ∧ h.p = g.p ∧
    (∀ k, k ≠ is.slot → (t.core is.core).groups.get? k = (s1.core is.core).groups.get? k) ∧
    (∀ c, c ≠ is.core → t.core c = s1.core c) ∧ t.mem = s1.mem ∧ t.l2 = s1.l2

/-- The issue of an instruction as its meaning sees it before its books are kept. -/
def issueOf (is : Issue) (g : Group) (guard : Nat) (neg : Bool) : Iss :=
  { core := is.core, slot := is.slot, pc := is.pc, g := g, mask := g.issueMask is.pc, act := g.guardMask guard neg (g.issueMask is.pc) }

/-- A context was killed with a code. -/
abbrev Killed (t : State) (q code : Nat) : Prop := (t.q q).state = .killing ∧ (t.q q).killCode = code

/-! Memory and synchronisation instructions. -/

/-- A load with an opcode and the strength of its acquire issues with legal fields (R145, R147). -/
abbrev LoadIssues (s s1 : State) (is : Issue) (f : FmtM) (g : Group) (op acquire : Nat) : Prop :=
  Issues s is (f.word op) (f.baseRegs ++ f.dataRegs) g s1 ∧ f.ok g.vregs (decide (acquire ≠ 0)) = true ∧ f.dataOk g.vregs = true

/-- A load is open with the bytes of its threads, and its group went on (R146). -/
def LoadOpened (s1 t : State) (is : Issue) (f : FmtM) (g : Group) (p : List Acc) (acquire : Nat) : Prop :=
  ∃ l, WentOn t is g ∧ t.l2.loads.get? s1.l2.nextId = some l ∧ l.core = is.core ∧ l.slot = is.slot ∧ l.threads = g.issueMask is.pc ∧
    l.kind = b2n f.S ∧ l.dst = f.data ∧ l.bytes = 2 ^ f.size ∧ l.signed = f.signed ∧ l.accs = p ∧ l.acquire = acquire ∧ t.mem = s1.mem ∧
    t.poison = s1.poison

/-- The value that an atomic with a code writes, on the old value, the operand and the compare value (Table 4.10). -/
abbrev AtomWrites (op : Nat) (val : Nat → Nat → Nat → Nat → Nat) : Prop :=
  ∀ bytes old x c, bytes = 4 ∨ bytes = 8 → old < 2 ^ (8 * bytes) → x < 2 ^ (8 * bytes) → c < 2 ^ (8 * bytes) → atomResult op bytes old x c = val bytes old x c

/-- An atomic with a code issues with legal fields, good addresses for its threads and nothing before it that it must wait for (R151, R152). -/
abbrev AtomIssues (s s1 : State) (is : Issue) (f : FmtX) (g : Group) (p : List Acc) (op : Nat) : Prop :=
  Issues s is (f.word op) ((if f.baseS then [256 + f.base] else vlist f.base 2) ++ vlist f.operand f.regs ++
      (if op = 12 then vlist f.compare f.regs else []) ++ (if f.discard then [] else vlist f.dst f.regs)) g s1 ∧
    f.ok op g.vregs = true ∧ (issueOf is g f.guard f.guardNeg).placesX s1 f op (bitList 64 (issueOf is g f.guard f.guardNeg).act) = .ok p ∧ p ≠ [] ∧
    (issueOf is g f.guard f.guardNeg).atomReady s1 f op = true

/-- An atomic is open for its home or its newt with the operands of its threads, and its group went on (R151). -/
def AtomOpened (s1 t : State) (is : Issue) (f : FmtX) (g : Group) (p : List Acc) (op : Nat) : Prop :=
  ∃ a, WentOn t is g ∧ t.l2.atoms.get? s1.l2.nextId = some a ∧ a.op = op ∧ a.bytes = f.bytes ∧ a.far = f.far ∧ a.scope = f.scope ∧ a.dst = f.dst ∧
    a.discard = f.discard ∧ a.accs = p ∧ a.olds = [] ∧
    (∀ th, th < 64 → g.acting is.pc f.guard f.guardNeg th →
      a.operands.get? th = some (g.vregs_ f.operand th f.regs, if op = 12 then g.vregs_ f.compare th f.regs else 0)) ∧ t.mem = s1.mem

/-- An atomic on scratch is done, thread by thread, with the old values in its registers (R151). -/
def AtomDone (s1 t : State) (is : Issue) (f : FmtX) (g : Group) (p : List Acc) (op : Nat) : Prop :=
  ∃ h r, r = (issueOf is g f.guard f.guardNeg).scratchAtoms f op (s1.core is.core) p ∧ (t.core is.core).blocks = r.1.blocks ∧
    (t.core is.core).groups.get? is.slot = some h ∧ h.s = g.s ∧ h.p = g.p ∧
    (∀ rg th, th < 64 → h.vreg rg th = if f.discard = false ∧ g.acting is.pc f.guard f.guardNeg th ∧ f.dst ≤ rg ∧ rg < f.dst + f.regs
      then r.2.getD th 0 / 2 ^ (32 * (rg - f.dst)) % 2 ^ 32 else g.vreg rg th) ∧ t.l2 = s1.l2 ∧ t.mem = s1.mem

/-- A barrier of a kind is open for the threads of its issue, which wait behind it (R154, R245). -/
def BarrierOpened (s1 t : State) (is : Issue) (f : FmtO) (g : Group) (kind : Nat) : Prop :=
  ∃ h b, (t.core is.core).groups.get? is.slot = some h ∧ h.waiting = natOr 64 g.waiting (g.issueMask is.pc) ∧ h.v = g.v ∧ h.s = g.s ∧ h.p = g.p ∧
    (∀ th, th < 64 → h.pcs.getD th 0 = if bit (g.issueMask is.pc) th then (is.pc + 8) % 2 ^ 57 else g.pcs.getD th 0) ∧
    t.l2.bars.get? s1.l2.nextId = some b ∧ b.core = is.core ∧ b.slot = is.slot ∧ b.threads = g.issueMask is.pc ∧ b.kind = kind ∧ b.scope = f.scope ∧
    b.store = none ∧ b.sync = none ∧ t.mem = s1.mem

/-- A SYNC instruction whose lowest thread acts, on an object of this chip. -/
abbrev SyncLocal (s s1 : State) (is : Issue) (f : FmtY) (g : Group) (op : Nat) (useValue : Bool) : Prop :=
  Issues s is (f.word op) ((256 + f.handle) :: (if useValue then [256 + f.value] else []) ++ [256 + f.dst]) g s1 ∧ f.zero = 0 ∧ f.scope ≤ 4 ∧
    f.dst < 64 ∧ f.handle < 64 ∧ (if useValue then f.value < 64 else f.value = 0) ∧ g.acting is.pc f.guard f.guardNeg (g.first is.pc) ∧
    s1.acquiring is.core is.slot (g.issueMask is.pc) = false ∧ g.sreg f.handle < 2 ^ 29 ∧ handleChip (g.sreg f.handle) s1.fab.chipId = none

/-- SIGNAL, POST or BAR.ARRIVE issues: its operation, and the release that it makes (R156, R245). -/
abbrev SyncReleases (s s1 : State) (is : Issue) (f : FmtY) (g : Group) (m : SynMsg) (b : Bar) (op : Nat) (useValue : Bool) : Prop :=
  SyncLocal s s1 is f g op useValue ∧
    m = { obj := handleObj (g.sreg f.handle), op := op, value := (if useValue then g.sreg f.value else 0), queue := g.queue, scope := f.scope,
          who := .core is.core is.slot (g.issueMask is.pc) f.dst is.pc s1.l2.nextId } ∧
    b = { core := is.core, slot := is.slot, queue := g.queue, node := g.node, threads := g.issueMask is.pc, kind := 4, scope := f.scope,
          store := none, sync := some (m, g.sreg f.handle) }

/-- A wait: the threads hold at the instruction, a wait entry is taken, and the wait goes to its object (R157, R302). -/
def SyncWaits (s1 t : State) (is : Issue) (f : FmtY) (g : Group) (op : Nat) (useValue : Bool) : Prop :=
  ∃ h, (t.core is.core).groups.get? is.slot = some h ∧ h.waiting = natOr 64 g.waiting (g.issueMask is.pc) ∧
    h.pcs = g.pcs ∧ h.v = g.v ∧ h.s = g.s ∧ h.p = g.p ∧ (t.core is.core).waits = (s1.core is.core).waits + 1 ∧
    t.syn.registering = s1.syn.registering ++ [(handleObj (g.sreg f.handle),
      { who := .core is.core is.slot (g.issueMask is.pc) f.dst is.pc s1.l2.nextId, queue := g.queue, op := op,
        value := (if useValue then g.sreg f.value else 0), scope := f.scope })] ∧ t.l2.bars = s1.l2.bars ∧ t.l2.loads = s1.l2.loads ∧ t.mem = s1.mem

/-! The matrix array. -/

/-- The block of a slot holds the matrix array of its core (R165, R171). -/
abbrev State.arrayHeld (s : State) (is : Issue) : Prop :=
  ∃ b, (s.core is.core).blockOf is.slot = some b ∧ (s.core is.core).mx.holder = some b.1

/-- A matrix instruction may enter its core's queue: its block holds the array, its guard holds in the lowest thread, the queue has a free place, and an instruction that accesses memory has no earlier acquire
and no released store of its thread before it (R130, R171, R173). -/
abbrev MatrixIssues (s s1 : State) (is : Issue) (f : FmtMx) (op : Nat) (used : List Nat) (g : Group) : Prop :=
  Issues s is (f.word op) (used.map (256 + ·)) g s1 ∧ g.acting is.pc f.guard f.guardNeg (g.first is.pc) ∧ s1.arrayHeld is ∧
    (issueOf is g f.guard f.guardNeg).mxReady s1 op = true

/-- The entry of a matrix instruction before its operands are put in. -/
def mxEntry (is : Issue) (g : Group) (f : FmtMx) (kind : Nat) : MxOp :=
  { id := 0, kind := kind, slot := is.slot, queue := g.queue, pc := is.pc, threads := g.issueMask is.pc, addr := 0, scale := 0, stride := 0, base := 0
    rows := 0, ctl := f.ctl, started := false, set := 0, entered := 0, load := none }

/-- An entry of a core's matrix queue may start or complete: it is there, its group is there and goes on. -/
abbrev State.mxAt (s : State) (core index : Nat) (o : MxOp) (g : Group) : Prop :=
  (s.core core).mx.queue[index]? = some o ∧ (s.core core).groups.get? o.slot = some g ∧ g.faulted = false ∧ (s.q o.queue).state ≠ .killing

/-! Homes. -/

/-- Nothing keeps a request from being served at the home of a line: it is not waiting for a retry, no member's request or way retirement closes the set, the entry is not busy, no starving request goes first, and no refusal is being made (R228, R229, R236). -/
abbrev State.homeServes (s : State) (line : Nat) (who : Client) : Prop :=
  s.waitsRetry line who = false ∧ s.homeClosed line = false ∧ s.lineBusy line = false ∧ s.starvingFirst line none = false ∧ s.l2.domainLost = false ∧
    s.l2.refused = none

/-- The layer table has room for another accumulator, so that no count of this command flushes one to memory (R440). -/
abbrev State.tableRoom (s : State) : Prop := s.accumCount < 4096


/-! Host, queues and functions. -/

/-- No earlier request of a function waits at a home, and no refusal is being made (R228, R256). -/
abbrev State.hostFree (s : State) (fn : Nat) : Prop := s.heldOf fn = [] ∧ s.l2.refused = none

/-- The homes of every line that a new request from outside the chip touches can take it now (R222, R228, R229, R236). -/
abbrev State.hostGoes (s : State) (go : State → State) : Prop := s.goes (.held s.l2.nextId) go = true

/-- An access of the host through BAR2 of a function lies in its window and is let in: no earlier request of the function waits, the BAR answers, the gate is not RESETTING and the domain stands (R256, R316, R318, R337). -/
abbrev State.hostReaches (s : State) (fn off n pa : Nat) : Prop :=
  s.hostFree fn ∧ s.barState fn = .opened ∧ s.bar2At fn off n = some pa ∧ (s.fn fn).gate ≠ .resetting ∧ s.l2.domainLost = false

/-- Only one queue of the front end changed. -/
abbrev QueueOnly (s t : State) (q : Nat) : Prop :=
  (∀ i, i ≠ q → t.q i = s.q i) ∧ t.mem = s.mem ∧ t.cores = s.cores ∧ t.l2 = s.l2

/-- The message of a SIGNAL, POST or BAR.ARRIVE of a node or a plan program: its scope is CHIP, or TIE on a tied chip (R269). -/
def State.syncMsgOf (s : State) (q h op value : Nat) (who : WaiterWho) : SynMsg :=
  { obj := handleObj h, op := op, value := value, queue := q, scope := if 1 < s.fab.tie.length then 3 else 2, who := who }

/-- The wait of a node or a plan program. -/
def State.waiterOf (s : State) (q op value : Nat) (who : WaiterWho) : Waiter :=
  { who := who, queue := q, op := op, value := value, scope := if 1 < s.fab.tie.length then 3 else 2 }

/-- An object that tells no one of its changes: it has no mirror and no notification (R312, R313). -/
abbrev SynObj.quiet (x : SynObj) : Prop := x.mirror = none ∧ x.notify = none

/-- The answer to the issuer of an operation. -/
def SynMsg.answer (m : SynMsg) (status : Nat) : SynRelease := { who := m.who, queue := m.queue, status := status, isWait := false, scope := m.scope }

/-- An operation reaches its object: it is the first of the arriving ones for a created object whose type defines it and whose access level admits the issuer. -/
abbrev State.applies (s : State) (i : Nat) (m : SynMsg) (x : SynObj) : Prop :=
  s.syn.inbound[i]? = some m ∧ firstOfObj s.syn.inbound i m.obj = true ∧ s.syn.objs.get? m.obj = some x ∧ x.type.defines m.op = true ∧
    s.admitsFn x (fnOfQueue m.queue) = true ∧ x.quiet

/-- Only one object changed, and operations of the sync unit: memory, the cores, the caches and the front end stay. -/
abbrev ObjectOnly (s t : State) (o : Nat) : Prop :=
  (∀ k, k ≠ o → t.syn.objs.get? k = s.syn.objs.get? k) ∧ t.mem = s.mem ∧ t.cores = s.cores ∧ t.l2 = s.l2 ∧ t.fe = s.fe

/-- The result of the last host command of a function to the sync unit (Table 12.9). -/
abbrev State.synResultOf (s : State) (f : Nat) : Nat := (s.fn f).synStatus % 256

/-! The fabric. -/

/-- The packet that answers a request (Table 14.3). -/
def State.reply (s : State) (pkt : Packet) (type op addr : Nat) (data : List Byte) (poison : Nat) : Packet :=
  { type := type, src := s.fab.chipId, dst := pkt.src, seq := pkt.seq, key := 0, srcFn := 0, op := op, addr := addr, data := data, poison := poison }

/-- A request was received and answered with a packet, which is kept for a repeated request (R362). -/
def Answered (s t : State) (pkt p : Packet) : Prop :=
  t.fab.answers = s.fab.answers ++ [p] ∧ windowKey pkt.src pkt.seq ∈ t.fab.window ∧ t.fab.stored.get? (windowKey pkt.src pkt.seq) = some { resp := p, since := s.time.mono }

/-- A request of a type that is addressed to this chip and that has not been received before. -/
abbrev State.arrives (s : State) (pkt : Packet) (type : Nat) : Prop :=
  pkt.type = type ∧ pkt.dst = s.fab.chipId ∧ pkt.seq < 2 ^ 32 ∧ windowKey pkt.src pkt.seq ∉ s.fab.window

/-- A response to the request of this chip with a number. -/
abbrev State.responds (s : State) (pkt : Packet) (type id : Nat) (r : Req) : Prop := pkt.type = type ∧ pkt.dst = s.fab.chipId ∧ s.reqOf pkt = some (id, r)

/-! Optics. -/

/-- The record of a lane group's move. -/
def Oe.movedOf (x : Oe) (g : Nat) : Option (Nat × Option Nat) := if g = 0 then x.movedA else x.movedB

/-- The setting that puts a lane group on a module: 0 its home module, 1 its standby module. -/
def settingOf (e g m : Nat) : Nat := if m = homeModule e g then 0 else 1

/-- The other module of a lane group's engine (Table 15.2). -/
def otherModule (e g j : Nat) : Nat := if j = homeModule e g then standbyModule e g else homeModule e g

/-- What the failure of a module leaves (R380, R381): the module failed and shown so, each group that it served on the other module where that can take it, else dark with its two links down, and everything else in the optics as it was. -/
def ModuleLost (s t : State) (j : Nat) : Prop :=
  (t.laser j).state = 4 ∧ (t.laser j).epoch = (s.laser j).epoch ∧ bit t.opt.status 1 = true ∧ (∀ k, k ≠ j → t.laser k = s.laser k) ∧
    (∀ e g, e < 8 → g < 2 → s.server e g = some j →
      ((s.laser (otherModule e g j)).takes = true → (t.oe e).group g = settingOf e g (otherModule e g j) ∧
        (t.oe e).movedOf g = some (s.time.mono, some j) ∧ bit t.opt.status 0 = true) ∧
      ((s.laser (otherModule e g j)).takes = false → (t.oe e).group g = 2 ∧ (∀ i, i < 2 → (t.link (4 * e + 2 * g + i)).state ≠ 2))) ∧
    (∀ e g, e < 8 → g < 2 → s.server e g ≠ some j → (t.oe e).group g = (s.oe e).group g ∧ (t.oe e).movedOf g = (s.oe e).movedOf g) ∧
    t.mem = s.mem ∧ t.cores = s.cores

/-- Only the bay of one module changed in the optics: the other bays and the engines stay, and so do memory and the cores. -/
def BayOnly (s t : State) (j : Nat) : Prop := (∀ k, k ≠ j → t.laser k = s.laser k) ∧ (∀ e, t.oe e = s.oe e) ∧ t.mem = s.mem ∧ t.cores = s.cores

/-! Service ports. -/

/-- Only one queue pair changed in the service unit. -/
abbrev QpOnly (s t : State) (f n : Nat) : Prop := (∀ k, k ≠ 64 * f + n → t.svc.qps.get? k = s.svc.qps.get? k) ∧ (∀ p, t.port p = s.port p)

/-- The responder sends a NAK with a code and counts it at the port; memory and the queue pairs stay (R395). -/
def Nakked (s t : State) (f n code : Nat) : Prop :=
  t.svc.reply = leBytes 1 (0x60 + code) ∧
    t.num (E.svcFramesDropped + (s.qp f n).port % 2) = (s.num (E.svcFramesDropped + (s.qp f n).port % 2) + 1) % 2 ^ 64 ∧
    t.mem = s.mem ∧ t.svc.qps = s.svc.qps ∧ t.cores = s.cores

/-- A queue pair ended in error at an entry: state 2 with nothing in flight and every entry consumed, the entry with its status and the later ones with status 5, and qp_error set (R394). -/
def QpFailed (s t : State) (f n i status : Nat) : Prop :=
  (t.qp f n).state = 2 ∧ (t.qp f n).work = [] ∧ (t.qp f n).read = (s.qp f n).write ∧ bit t.svc.status 2 = true ∧
    t.mem = ((s.workStatus f n i status).flushWork f n (((s.qp f n).write + 2 ^ 32 - i) % 2 ^ 32 - 1) ((i + 1) % 2 ^ 32)).mem ∧ QpOnly s t f n

/-! Counters and trace. -/

/-- Only one trace buffer changed, and no memory, core or queue. -/
abbrev BufOnly (s t : State) (b : Nat) : Prop := (∀ k, k ≠ b → t.trc k = s.trc k) ∧ t.mem = s.mem ∧ t.cores = s.cores ∧ t.fe = s.fe

/-- Only the counters of one function changed. -/
abbrev CntOnly (s t : State) (f : Nat) : Prop := (∀ k, k ≠ f → t.cntFn k = s.cntFn k) ∧ t.mem = s.mem ∧ t.cores = s.cores ∧ t.fe = s.fe

/-! Registers. -/

/-- An error log has lost records since its last one. -/
def State.lostOf (s : State) : LogName → Bool
  | .stk => s.stk.lost
  | .nwt => s.nwt.lost
  | .l2c => s.l2.lost
  | .fab => s.fab.lost

/-- The bit of a log's status register that log_overflow is (Tables 3.7, 4.14, 9.9 and 14.10). -/
def State.overflowOf (s : State) : LogName → Bool
  | .stk => bit s.stk.errStatus 6
  | .nwt => bit s.nwt.status 2
  | .l2c => bit s.l2.status 5
  | .fab => bit s.fab.status 6

/-- The place of overflow in a log's records (Tables 3.9, 4.16, 9.11 and 14.12). -/
def overflowBit : LogName → Nat
  | .stk => 0
  | .nwt | .l2c | .fab => 62

/-! The whole machine. -/

/-- Device memory and its poison marks stand in their canonical forms. -/
def State.memInv (s : State) : Prop := Memory.wf s.mem ∧ s.poison.Pairwise (fun a b => a < b)

/-- The only two commands that a step can stop on: an access to a bank at an address outside device memory. -/
def noBank : Instr → Prop
  | .baseDieRead pa _ => memSize ≤ pa
  | .baseDieWrite pa _ _ _ => memSize ≤ pa
  | _ => False

end Sys2Proof.Machine
end

