-- ==== Sys2Proof/Certificates/Slice0/Obligations.lean ====
section
/-! DEFINITION. Certificates/Slice0/Obligations.lean: the statements for the provers. Each cites the rules of spec/ that it rests on; what it takes from a choice of the model it
says, with the log entry. -/

open Sys2Proof Sys2Proof.Machine

/-- A step with a command at the front of the queue is that command's effect on the state with the queue's rest. -/
def Obligations.StepRunsFrontCommand : Prop :=
  ∀ (c : Instr) (rest : List Instr) (s : State), step { s with pending := c :: rest } = exec c { s with pending := rest }

/-- R44, R57, R292, R299, R448, Table 21.3: right after reset every byte of device memory is zero and no granule poisoned, in canonical form; every queue is DISABLED, every sync object free, every directory and cache empty,
every trace buffer DISABLED, every counter zero and no command waits. That the state after reset is the one of a device that is ready after its first power-on is the model's choice (log entry 2). -/
def Obligations.ResetState : Prop :=
  State.reset.memInv ∧ (∀ a, cellGet State.reset.mem a = 0#8) ∧ (∀ g, g ∉ State.reset.poison) ∧ (∀ q, (State.reset.q q).state = .disabled ∧ (State.reset.q q).write = 0 ∧ (State.reset.q q).read = 0) ∧
    (∀ o, State.reset.syn.objs.get? o = none) ∧ (∀ l, State.reset.l2.dir.get? l = none) ∧ (∀ c, (State.reset.core c).groups = [] ∧ (State.reset.core c).l1 = [] ∧ (State.reset.core c).sclInvalidated = true) ∧
    (∀ b, (State.reset.trc b).state = .disabled) ∧ (∀ o, State.reset.obs.values.getD o 0 = 0) ∧ (∀ l, (State.reset.link l).state = 0) ∧ State.reset.pending = [] ∧
    (State.reset.fn 0).gate = .opened ∧ (∀ f, 0 < f → (State.reset.fn f).gate = .disabled)

/-- R47, R57, invariant: every step that goes on keeps device memory and its poison marks in their canonical forms, so that equal memories are equal data. -/
def Obligations.StepKeepsMemoryCanonical : Prop :=
  ∀ (s t : State), s.memInv → step s = .next t → t.memInv

/-- R44, R58: a step goes on whatever the command and the state, but for a read or write of a bank at an address that does not exist, which stops with the fault noSuchAddress. No command is refused. -/
def Obligations.StepGoesOn : Prop :=
  ∀ (s : State), (∀ c rest, s.pending = c :: rest → noBank c → step s = .fault .noSuchAddress) ∧
    ((∀ c rest, s.pending = c :: rest → ¬ noBank c) → ∃ t, step s = .next t)

/-- R31: an accepted write of op_point_request makes its code the new target of the ramp, from any state of an earlier ramp; a code above 2 is refused with status 4 and changes nothing else; the end of a ramp shows the new
code in op_point_current. While a fallback of the power cap holds the point lower, the target stays lower by R402. R32, R22, R27: rate_live takes the average that its domain reports, by the subindex of the domain, and no
other entry changes; a descriptor that follows a change holds the 64 bytes of its unit; of another chip of the tied group or the slice, the 64 bytes read over the fabric are kept. Where exec answers a next state, under
conditions on the state and the operands alone, is said of: opPointRequest, opPointRampComplete, rateLiveUpdate, descriptorUpdate. -/
def Obligations.OperatingPointAndRates : Prop :=
  ((∀ (s : State) (who : Origin) (v : Nat), s.deviceCheck who E.opPointRequest = 0 → v ≤ 2 →
    ∃ t, exec (.opPointRequest who v) s = .next t ∧ t.num E.opPointRequest = v ∧ t.mgt.answer = 0 ∧
      t.time.rampTarget = some (if s.pwr.lowered = 0 then v else min v (s.num E.opPointRequest - s.pwr.lowered)) ∧
      t.num E.opPointCurrent = s.num E.opPointCurrent ∧ t.cores = s.cores ∧ t.fe = s.fe ∧ t.mem = s.mem) ∧
  (∀ (s : State) (who : Origin) (v : Nat), s.deviceCheck who E.opPointRequest = 0 → 2 < v →
    exec (.opPointRequest who v) s = .next (s.answer 4)) ∧
  (∀ (s : State) (who : Origin) (v : Nat), s.deviceCheck who E.opPointRequest ≠ 0 →
    exec (.opPointRequest who v) s = .next (s.answer (s.deviceCheck who E.opPointRequest))) ∧
  (∀ (s : State) (v : Nat), s.time.rampTarget = some v →
    ∃ t, exec .opPointRampComplete s = .next t ∧ t.num E.opPointCurrent = v ∧ t.time.rampTarget = none ∧
      t.cores = s.cores ∧ t.mem = s.mem)) ∧
  ((∀ (s : State) (d r : Nat), d ≤ 0x12 ∨ (0x20 ≤ d ∧ d ≤ 0x33) →
    ∃ t, exec (.rateLiveUpdate d r) s = .next t ∧ t.num (E.rateLive + d) = r % 65536 ∧
      (∀ a, a ≠ E.rateLive + d → t.num a = s.num a) ∧ t.mem = s.mem) ∧
  (∀ (s : State) (p : Nat) (read : List Byte), p < 16 →
    ∃ t, exec (.descriptorUpdate 1 p read) s = .next t ∧ t.blob (E.plainList + p) = (s.plainUnit p (rangeFrom (4 * p) 4)).bytes 1 ∧
      t.mgt.num = s.mgt.num ∧ t.mem = s.mem) ∧
  (∀ (s : State) (p : Nat) (read : List Byte), p < 64 → s.partLive p = true →
    ∃ t, exec (.descriptorUpdate 2 p read) s = .next t ∧ t.blob (E.partitionList + p) = (s.partUnit p).bytes 2 ∧
      t.mgt.num = s.mgt.num ∧ t.mem = s.mem) ∧
  (∀ (s : State) (read : List Byte), ∃ t, exec (.descriptorUpdate 3 s.fab.chipId read) s = .next t ∧ t.blob E.chipUnit = s.chipUnitNow.bytes 3 ∧
      t.mgt.num = s.mgt.num ∧ t.mem = s.mem) ∧
  (∀ (s : State) (c : Nat) (read : List Byte), c ≠ s.fab.chipId → s.tiedChip c = true ∨ c ∈ s.sliceIds → s.reaches c = true → read.length = 64 →
    exec (.descriptorUpdate 3 c read) s = .next { s with fab.peerUnits := s.fab.peerUnits.put c read }) ∧
  (∀ (s : State) (u : Nat) (read : List Byte),
    (∃ t, exec (.descriptorUpdate 4 u read) s = .next t ∧ t.blob E.tiedUnit = s.tiedUnitNow.bytes 4 ∧ t.mgt.num = s.mgt.num ∧ t.mem = s.mem) ∧
    (∃ t, exec (.descriptorUpdate 5 u read) s = .next t ∧ t.blob E.sliceUnit = s.sliceUnitNow.bytes 5 ∧ t.mgt.num = s.mgt.num ∧ t.mem = s.mem)))

/-- R4, R34, R35, R39: a resynchronisation pulse steps a replica that is behind to the master's count and makes one that is ahead hold; a stopped replica does neither; no replica's count decreases. On an empty queue a
nanosecond passes (the model's tick, log entry 9): the master counts by one, and while it slews by two or by none once in 10,000 ns; the count by which limits end moves with it, and every running replica that does not
hold counts on. R37, R38, R39: the chip with the highest count is the time master, ties going to the lowest chip id; time messages carry the count on each link that is up; a follower measures its offset from the master
over the neighbour that stands next on its route; a first lock steps the time base forward, later ones only slew, no lock moves the count backward, and the chip shows itself locked when it stands within 20 ns. R40, R41,
R398: a follower that has lost every path to the master enters holdover with fabric_locked still set, and 100 microseconds of holdover clear it; a time message of the named port in the named domain locks the chip to its
reference, by a step the first time since a reset and by slewing later, and ends the hold of a lost reference; the loss of the reference clears ptp_locked and holds the time base. Where exec answers a next state, under
conditions on the state and the operands alone, is said of: gtbResyncPulse, timeMasterElection, fabricTimeSend, fabricTime, gtbHoldoverEnter, holdoverLockExpire, ptpMessageReceive, ptpReferenceLoss. -/
def Obligations.GlobalTime : Prop :=
  ((∀ s : State, ∃ t, exec .gtbResyncPulse s = .next t ∧ t.time.replicas.length = s.time.replicas.length ∧
      t = { s with time.replicas := t.time.replicas } ∧
      ∀ (i : Nat) (r r' : Replica), s.time.replicas[i]? = some r → t.time.replicas[i]? = some r' →
        r.count ≤ r'.count ∧ r'.stopped = r.stopped ∧
        (r.stopped = false → r.count < s.time.gtb → r'.count = s.time.gtb ∧ r'.holding = false) ∧
        (r.stopped = false → s.time.gtb ≤ r.count → r'.count = r.count ∧ r'.holding = decide (s.time.gtb < r.count))) ∧
  (∀ s : State, s.pending = [] → s.sup.auxValid = true → s.time.gtb + 2 < 2 ^ 64 →
    ∃ t k, step s = .next t ∧ t.time.gtb = s.time.gtb + k ∧ t.time.mono = s.time.mono + k ∧ t.mem = s.mem ∧ t.fe = s.fe ∧
      (s.time.slew = 0 ∨ s.time.ref % 10000 ≠ 0 → k = 1 ∧ t.time.slew = s.time.slew) ∧
      (s.time.ref % 10000 = 0 → 0 < s.time.slew → k = 2 ∧ t.time.slew = s.time.slew - 1) ∧
      (s.time.ref % 10000 = 0 → s.time.slew < 0 → k = 0 ∧ t.time.slew = s.time.slew + 1) ∧
      ∀ (i : Nat) (r r' : Replica), s.time.replicas[i]? = some r → t.time.replicas[i]? = some r' →
        (r.stopped = false → r.holding = false → r'.count = (r.count + 1) % 2 ^ 64) ∧ (r.stopped = true → r' = r))) ∧
  ((∀ (s : State) (counts : List (Nat × Nat)),
    ∃ t m, exec (.timeMasterElection counts) s = .next t ∧ t.time.master = some m ∧ t.time.gtb = s.time.gtb ∧
      (m = s.fab.chipId → t.time.role = if s.time.ptpLocked then 3 else 2) ∧ (m ≠ s.fab.chipId → t.time.role = 1) ∧
      (∃ g, ((m, g) = (s.fab.chipId, s.time.gtb) ∨ (m, g) ∈ counts) ∧
        (∀ c ∈ counts, c.1 ≠ s.fab.chipId → c.2 < g ∨ (c.2 = g ∧ m ≤ c.1)) ∧
        (s.time.gtb < g ∨ (s.time.gtb = g ∧ m ≤ s.fab.chipId)))) ∧
  (∀ (s : State) (l : Nat), l < 32 → (s.link l).state = 2 →
    (∀ t0, s.time.lastSend.get? l = some t0 → t0 + s.num E.fabricTimeInterval ≤ s.time.mono) →
    ∃ t, exec (.fabricTimeSend l) s = .next t ∧ t.time.sent.get? l = some s.time.gtb ∧ t.time.lastSend.get? l = some s.time.mono ∧
      t = { s with time.sent := t.time.sent, time.lastSend := t.time.lastSend }) ∧
  (∀ (s : State) (l chip m t1 t2 t3 : Nat) (hop : Int), s.time.sent.get? l = some t1 → (s.link l).state = 2 → (s.link l).peer = chip →
    s.time.role = 1 → s.time.master = some m → (chip = m ∨ (s.reaches m = true ∧ s.routeLink m = some l)) →
    let off : Int := (((t1 : Int) - t2) + ((s.time.gtb : Int) - t3)) / 2 + (if m = chip then 0 else hop)
    ∃ t, exec (.fabricTime l chip t2 t3 hop) s = .next t ∧ t.time.holdover = false ∧ t.time.mono = s.time.mono ∧ t.mem = s.mem ∧
      (s.time.lockedOnce = true → t.time.gtb = s.time.gtb ∧ t.time.slew = -off ∧ t.time.stepped = s.time.stepped ∧
        t.time.fabricLocked = decide (off.natAbs ≤ 20) ∧ t.time.offset = off) ∧
      (s.time.lockedOnce = false → off < 0 → t.time.gtb = ((s.time.gtb : Int) - off).toNat % 2 ^ 64 ∧ t.time.stepped = true ∧
        t.time.fabricLocked = true ∧ t.time.lockedOnce = true) ∧
      (s.time.lockedOnce = false → 0 ≤ off → t.time.gtb = s.time.gtb ∧ t.time.slew = -off ∧
        t.time.fabricLocked = decide (off ≤ 20) ∧ t.time.lockedOnce = decide (off ≤ 20)))) ∧
  ((∀ (s : State) (m : Nat), s.time.master = some m → s.time.role = 1 → s.time.lockedOnce = true → s.time.holdover = false →
    s.reaches m = false →
    ∃ t, exec .gtbHoldoverEnter s = .next t ∧ t.time.holdover = true ∧ t.time.holdoverAt = s.time.mono ∧
      t.time.fabricLocked = s.time.fabricLocked ∧ t.time.gtb = s.time.gtb ∧ t.mem = s.mem) ∧
  (∀ s : State, s.time.holdover = true → s.time.role = 1 → s.time.holdoverAt + 100000 ≤ s.time.mono →
    exec .holdoverLockExpire s = .next { s with time.fabricLocked := false }) ∧
  (∀ (s : State) (p d g : Nat), s.num E.ptpSource = p + 1 → p ≤ 1 → d = s.num E.svcPtpDomain → (s.port p).state = 1 →
    ∃ t, exec (.ptpMessageReceive p d g) s = .next t ∧ t.time.ptpLocked = true ∧
      t.time.role = (if s.time.role = 2 then 3 else s.time.role) ∧ t.mem = s.mem ∧
      (s.time.role ≠ 1 → t.time.holdover = false) ∧
      (s.time.ptpLockedOnce = false → s.time.gtb < g → t.time.gtb = g % 2 ^ 64 ∧ t.time.stepped = true) ∧
      (s.time.ptpLockedOnce = true → t.time.gtb = s.time.gtb ∧ t.time.slew = (g : Int) - s.time.gtb)) ∧
  (∀ s : State, s.time.ptpLocked = true →
    ∃ t, exec .ptpReferenceLoss s = .next t ∧ t.time.ptpLocked = false ∧ t.time.holdover = true ∧ t.time.gtb = s.time.gtb ∧ t.mem = s.mem))

/-- R34, R57, R465, R466 and Table 21.1: power-on starts the GTB master at 0 with management live; the main supply starts the ramp; rails in regulation start the domains at the requested point with every replica of the main
rails loaded from the master, one that is ahead holding its count; the self-test, the zeroing of device memory and readiness follow in this order. Where exec answers a next state, under conditions on the state and the
operands alone, is said of: auxSupplyValid, mainSupplyValid, railsInRegulation, selfTestComplete, memoryZeroingComplete, deviceReady. -/
def Obligations.PowerOnSequence : Prop :=
  (∀ (s : State) (a b : Bool), s.sup.auxValid = false →
    ∃ t, exec (.auxSupplyValid a b) s = .next t ∧ t.time.gtb = 0 ∧ t.sup.auxValid = true ∧ t.sup.mgtLive = true ∧ t.mem = [] ∧ t.poison = [] ∧
      t.fe = FrontEnd.initial ∧ t.syn = Syn.initial ∧ t.obs = Obs.initial) ∧
  (∀ s : State, s.sup.mainValid = false → s.sup.auxValid = true → s.sup.bothSlotsFailed = false → s.sup.coldHeld = false →
    s.sup.thermTrip = false → s.sup.phase = .off →
    exec .mainSupplyValid s = .next { s with sup.mainValid := true, sup.phase := .ramping, sup.origin := s.time.mono }) ∧
  (∀ s : State, s.sup.phase = .ramping →
    ∃ t, exec .railsInRegulation s = .next t ∧ t.sup.phase = .domainsUp ∧ t.sup.mainPg = true ∧
      t.num E.opPointCurrent = s.num E.opPointRequest ∧ t.time.gtb = s.time.gtb ∧ t.mem = s.mem ∧
      ∀ (i : Nat) (r : Replica), i ≠ 23 → i ≠ 24 → s.time.replicas[i]? = some r →
        t.time.replicas[i]? = some { count := max r.count s.time.gtb, stopped := false, holding := decide (s.time.gtb < r.count) }) ∧
  (∀ (s : State) (found : SelfTest), s.sup.phase = .domainsUp →
    ∃ t, exec (.selfTestComplete found) s = .next t ∧ t.sup.phase = .tested ∧ (found.central = true → t.sup.chipFailed = true)) ∧
  (∀ s : State, s.sup.phase = .tested →
    exec .memoryZeroingComplete s = .next { s with sup.phase := .zeroed, mem := [], poison := [] }) ∧
  (∀ s : State, s.sup.phase = .zeroed → s.sup.bothSlotsFailed = false →
    ∃ t, exec .deviceReady s = .next t ∧ t.sup.phase = .ready ∧ t.sup.devResetRunning = false ∧ t.mem = s.mem ∧ t.cores = s.cores ∧
      t.hif.drs = (if s.hif.linkUp then s.hif.drs + 1 else s.hif.drs))

/-- R466, R468, R469, R472, R475, R486: a loss of either supply takes the main rails down and device memory with them, PWR_MAIN_PG showing it; PERST# before ready holds D19 in reset and nothing else; after ready it is a cold
reset, which leaves device memory empty, the GTB counting on and the rails down until the deassertion; configuration requests before ready are answered with RRS. R414, R432, R434, R469, R470: management that restarts
counts its epoch and keeps the rest of the chip running; a trial that has not reached ready 2 s after the origin starts from the other slot; a device reset keeps the rails and the configuration space and empties the
rest; a tied-domain reset starts an FLR of every function and leaves memory alone. Where exec answers a next state, under conditions on the state and the operands alone, is said of: auxSupplyLoss, mainSupplyLoss,
perstAssert, perstDeassert, configRequestRrs, mgtWatchdogRestart, trialReadyTimeout, deviceReset, tiedReset. -/
def Obligations.SuppliesAndRestarts : Prop :=
  ((∀ s : State, s.sup.auxValid = true →
    ∃ t, exec .auxSupplyLoss s = .next t ∧ t.sup.auxValid = false ∧ t.sup.mgtLive = false ∧ t.sup.phase = .off ∧ t.sup.mainPg = false ∧
      t.mem = [] ∧ t.fe = FrontEnd.initial ∧ t.nwt = Nwt.initial ∧ t.l2 = L2.initial) ∧
  (∀ s : State, s.sup.mainValid = true → s.sup.phase ≠ .off →
    ∃ t, exec .mainSupplyLoss s = .next t ∧ t.sup.mainValid = false ∧ t.sup.phase = .off ∧ t.sup.mainPg = false ∧ t.sup.auxValid = s.sup.auxValid ∧
      t.mem = [] ∧ t.fe = FrontEnd.initial ∧ t.l2 = L2.initial ∧ t.time.gtb = s.time.gtb) ∧
  (∀ (s : State) (a b : Bool), s.sup.perst = false → s.sup.phase ≠ .ready → s.sup.thermTrip = false → s.sup.devResetRunning = false →
    exec (.perstAssert a b) s = .next { s with sup.perst := true, sup.d19Reset := true, hif.linkUp := false }) ∧
  (∀ (s : State) (a b : Bool), s.sup.perst = false → s.sup.auxValid = true → s.sup.phase = .ready →
    ∃ t, exec (.perstAssert a b) s = .next t ∧ t.sup.phase = .off ∧ t.sup.kind = 1 ∧ t.sup.mainPg = false ∧ t.sup.coldHeld = true ∧ t.mem = [] ∧
      t.time.gtb = s.time.gtb ∧ t.pwr.energy = s.pwr.energy ∧ t.fe = FrontEnd.initial ∧ t.syn = Syn.initial ∧ t.obs = Obs.initial) ∧
  (∀ (s : State) (a b : Bool), s.sup.perst = true → s.sup.coldHeld = true → s.sup.mainValid = true → s.sup.auxValid = true →
    s.sup.bothSlotsFailed = false → s.sup.phase = .off →
    ∃ t, exec (.perstDeassert a b) s = .next t ∧ t.sup.perst = false ∧ t.sup.coldHeld = false ∧ t.sup.thermTrip = false ∧ t.sup.phase = .ramping ∧
      t = { s with sup := t.sup }) ∧
  (∀ s : State, s.hif.linkUp = true → s.sup.perst = false → s.sup.phase ≠ .ready ∨ s.sup.devResetRunning = true →
    exec .configRequestRrs s = .next { s with sup.rrsAnswered := true })) ∧
  ((∀ s : State, s.sup.auxValid = true → s.sup.mgtLive = true →
    ∃ t, exec .mgtWatchdogRestart s = .next t ∧ t.num E.mgtEpoch = (s.num E.mgtEpoch + 1) % 2 ^ 32 ∧ t.mgt.inFlight = [] ∧
      t.cores = s.cores ∧ t.fe = s.fe ∧ t.l2 = s.l2 ∧ t.mem = s.mem) ∧
  (∀ (s : State) (ok : Bool), s.mgt.trialRunning = true → s.sup.phase ≠ .ready → s.sup.origin + 2000000000 ≤ s.time.mono →
    ∃ t, exec (.trialReadyTimeout ok) s = .next t ∧ t.mgt.running = 1 - s.mgt.running ∧ t.mgt.trialRunning = false ∧
      t.num E.bootCount = (s.num E.bootCount + 1) % 2 ^ 32 ∧ t.mem = s.mem) ∧
  (∀ (s : State) (who : Origin) (a b : Bool), s.deviceCheck who E.deviceReset = 0 → s.sup.thermTrip = false → s.sup.devResetRunning = false →
    ∃ t, exec (.deviceReset who 1 a b) s = .next t ∧ t.sup.phase = .domainsUp ∧ t.sup.kind = 2 ∧ t.sup.devResetRunning = true ∧
      t.sup.mainPg = s.sup.mainPg ∧ t.mem = [] ∧ t.fe = FrontEnd.initial ∧ t.syn = Syn.initial ∧
      t.hif.linkUp = s.hif.linkUp ∧ t.hif.vfEnable = s.hif.vfEnable ∧ t.hif.numVfs = s.hif.numVfs ∧ t.hif.bar2Log = s.hif.bar2Log) ∧
  (∀ (s : State) (who : Origin) (v : Nat) (a b : Bool), s.deviceCheck who E.deviceReset = 0 → v ≤ 1 → s.sup.thermTrip = true →
    exec (.deviceReset who v a b) s = .next (s.answer 5)) ∧
  (∀ (s : State) (who : Origin) (all : Bool), s.deviceCheck who E.tiedReset = 0 → 2 ≤ s.fab.tie.length →
    (∀ e ∈ s.hif.fns, ∀ r, e.2.reset = some r → r.kind ≠ 3) →
    ∃ t r, exec (.tiedReset who 1 all) s = .next t ∧ (t.fn 0).reset = some r ∧ r.kind = 3 ∧ t.sup.tiedAbsent = !all ∧ t.mem = s.mem))

/-- R45, R46, R47, R49, R52, R53, R54, R58: a read that the base die accepts delivers the stored 16 bytes where no symbol outside the erased positions is wrong, corrects, counts and shows one wrong symbol where the erased
positions allow it, delivers the poisoned form of a poisoned granule, keeps an uncorrectable one for its second read, and in every case leaves the stored bytes and every poison mark as they were; it waits while its row
is copied or its stack is held; an address outside device memory does not exist. R46, R47, R48, R53, R54, R56, R58: a write of all 16 bytes of a granule is stored and replaces poison, also when its check corrected it; a
narrower one stores the bytes of its mask, and leaves a poisoned granule poisoned with nothing stored; a failed channel discards the write; a granule that arrives in the poisoned form or cannot be corrected is stored in
the poisoned form; every byte outside the granule stays as it was; a write waits while its row is copied or its stack is held. Where exec answers a next state, under conditions on the state and the operands alone, is
said of: baseDieRead, baseDieWrite. -/
def Obligations.BaseDieAccesses : Prop :=
  ((∀ (s : State) (pa : Nat) (errs : List (Nat × Nat)), memSize ≤ pa → exec (.baseDieRead pa errs) s = .fault .noSuchAddress) ∧
  (∀ (s : State) (pa : Nat) (errs : List (Nat × Nat)), pa < memSize → s.held (pa / 16) = true → exec (.baseDieRead pa errs) s = .next s) ∧
  (∀ (s : State) (pa : Nat) (errs : List (Nat × Nat)), pa < memSize → s.held (pa / 16) = false → s.granulePoison (pa / 16) = true →
    exec (.baseDieRead pa errs) s = .next { s with stk.rdata := zeroBytes 16, stk.rpoison := true }) ∧
  (∀ (s : State) (pa : Nat) (errs : List (Nat × Nat)), pa < memSize → s.held (pa / 16) = false → s.granulePoison (pa / 16) = false →
    wrongPositions (s.erasedOf (s.newtOf (16 * (pa / 16)))) errs = [] →
    exec (.baseDieRead pa errs) s = .next { s with stk.rdata := cellBytes s.mem (16 * (pa / 16)) 16, stk.rpoison := false }) ∧
  (∀ (s : State) (pa p : Nat) (errs : List (Nat × Nat)), pa < memSize → s.held (pa / 16) = false → s.granulePoison (pa / 16) = false →
    (s.erasedOf (s.newtOf (16 * (pa / 16)))).length ≤ 1 → wrongPositions (s.erasedOf (s.newtOf (16 * (pa / 16)))) errs = [p] →
    ∃ t, exec (.baseDieRead pa errs) s = .next t ∧ t.stk.rdata = cellBytes s.mem (16 * (pa / 16)) 16 ∧ t.stk.rpoison = false ∧
      t.num (E.correctedCount + s.newtOf (16 * (pa / 16)) / 32) = (s.num (E.correctedCount + s.newtOf (16 * (pa / 16)) / 32) + 1) % 2 ^ 64 ∧
      (s.num E.demandScrub = 1 → pa / 16 ∈ t.stk.writebacks) ∧ t.mem = s.mem ∧ t.poison = s.poison ∧ t.cores = s.cores) ∧
  (∀ (s : State) (pa : Nat) (errs : List (Nat × Nat)), pa < memSize → s.held (pa / 16) = false → s.granulePoison (pa / 16) = false →
    judge (s.erasedOf (s.newtOf (16 * (pa / 16)))).length (wrongPositions (s.erasedOf (s.newtOf (16 * (pa / 16)))) errs) = .detected →
    (poisonWord (s.erasedOf (s.newtOf (16 * (pa / 16)))) (withErrors (codeword (cellBytes s.mem (16 * (pa / 16)) 16) false) errs) = false →
      exec (.baseDieRead pa errs) s = .next { s with stk.rereads := setInsert (pa / 16) s.stk.rereads }) ∧
    (poisonWord (s.erasedOf (s.newtOf (16 * (pa / 16)))) (withErrors (codeword (cellBytes s.mem (16 * (pa / 16)) 16) false) errs) = true →
      exec (.baseDieRead pa errs) s = .next { s with stk.rdata := zeroBytes 16, stk.rpoison := true })) ∧
  (∀ (s : State) (pa : Nat) (errs : List (Nat × Nat)), pa < memSize → ∃ t, exec (.baseDieRead pa errs) s = .next t ∧ t.mem = s.mem ∧ t.poison = s.poison)) ∧
  ((∀ (s : State) (pa mask : Nat) (data : List Byte) (errs : List (Nat × Nat)), memSize ≤ pa →
    exec (.baseDieWrite pa data mask errs) s = .fault .noSuchAddress) ∧
  (∀ (s : State) (pa mask : Nat) (data : List Byte) (errs : List (Nat × Nat)), pa < memSize → s.held (pa / 16) = true →
    exec (.baseDieWrite pa data mask errs) s = .next s) ∧
  (∀ (s : State) (pa : Nat) (p : Option Nat) (data : List Byte) (errs : List (Nat × Nat)), pa < memSize → Memory.wf s.mem → data.length = 16 →
    s.held (pa / 16) = false → s.granuleFailed (pa / 16) = false →
    judge (s.erasedOf (s.newtOf (16 * (pa / 16)))).length (wrongPositions (s.erasedOf (s.newtOf (16 * (pa / 16)))) errs) = .corrected p →
    ∃ t, exec (.baseDieWrite pa data 65535 errs) s = .next t ∧ pa / 16 ∉ t.poison ∧ pa / 16 ∉ t.stk.writebacks ∧
      cellBytes t.mem (16 * (pa / 16)) 16 = data ∧ (∀ a, a / 16 ≠ pa / 16 → cellGet t.mem a = cellGet s.mem a) ∧ t.cores = s.cores) ∧
  (∀ (s : State) (pa mask : Nat) (p : Option Nat) (data : List Byte) (errs : List (Nat × Nat)), pa < memSize → Memory.wf s.mem → mask < 65535 →
    s.held (pa / 16) = false → s.granuleFailed (pa / 16) = false → pa / 16 ∉ s.poison →
    judge (s.erasedOf (s.newtOf (16 * (pa / 16)))).length (wrongPositions (s.erasedOf (s.newtOf (16 * (pa / 16)))) errs) = .corrected p →
    ∃ t, exec (.baseDieWrite pa data mask errs) s = .next t ∧ t.poison = s.poison ∧
      (∀ i, i < 16 → cellGet t.mem (16 * (pa / 16) + i) = if bit mask i then data.getD i 0#8 else cellGet s.mem (16 * (pa / 16) + i)) ∧
      (∀ a, a / 16 ≠ pa / 16 → cellGet t.mem a = cellGet s.mem a)) ∧
  (∀ (s : State) (pa mask : Nat) (data : List Byte) (errs : List (Nat × Nat)), pa < memSize → mask < 65535 → pa / 16 ∈ s.poison →
    wrongPositions (s.erasedOf (s.newtOf (16 * (pa / 16)))) errs = [] → exec (.baseDieWrite pa data mask errs) s = .next s) ∧
  (∀ (s : State) (pa mask : Nat) (data : List Byte) (errs : List (Nat × Nat)), pa < memSize → s.granuleFailed (pa / 16) = true →
    exec (.baseDieWrite pa data mask errs) s = .next s) ∧
  (∀ (s : State) (pa mask : Nat) (data : List Byte) (errs : List (Nat × Nat)), pa < memSize → s.held (pa / 16) = false →
    s.granuleFailed (pa / 16) = false → mask % 65536 ≠ 0 →
    judge (s.erasedOf (s.newtOf (16 * (pa / 16)))).length (wrongPositions (s.erasedOf (s.newtOf (16 * (pa / 16)))) errs) = .detected →
    ∃ t, exec (.baseDieWrite pa data mask errs) s = .next t ∧ pa / 16 ∈ t.poison ∧ t.mem = s.mem))

/-- R49, R50, R51, R52, R53, R54: the second read of an uncorrectable granule delivers it where the erasure map now corrects it and else stores the poisoned form; a transfer with an uncorrectable granule is asked for again
up to four times, and one without lands at the banks or goes to its requester; the patrol moves from granule to granule, has a corrected codeword written back and counts its passes; a write-back leaves the contents as
they are. Where exec answers a next state, under conditions on the state and the operands alone, is said of: poisonReread, d2dTransferReceive, patrolScrubRead, demandScrubWriteback. -/
def Obligations.RereadsTransfersAndScrubs : Prop :=
  (∀ (s : State) (pa : Nat) (errs : List (Nat × Nat)), pa < memSize → pa / 16 ∈ s.stk.rereads → s.held (pa / 16) = false →
    ∃ t, exec (.poisonReread pa errs) s = .next t ∧ pa / 16 ∉ t.stk.rereads ∧ t.mem = s.mem ∧
      (s.granulePoison (pa / 16) = true → t.stk.rdata = zeroBytes 16 ∧ t.stk.rpoison = true ∧ t.poison = s.poison) ∧
      (∀ p, s.granulePoison (pa / 16) = false →
        judge (s.erasedOf (s.newtOf (16 * (pa / 16)))).length (wrongPositions (s.erasedOf (s.newtOf (16 * (pa / 16)))) errs) = .corrected p →
        t.stk.rdata = cellBytes s.mem (16 * (pa / 16)) 16 ∧ t.stk.rpoison = false ∧ t.poison = s.poison) ∧
      (s.granulePoison (pa / 16) = false →
        judge (s.erasedOf (s.newtOf (16 * (pa / 16)))).length (wrongPositions (s.erasedOf (s.newtOf (16 * (pa / 16)))) errs) = .detected →
        t.stk.rdata = zeroBytes 16 ∧ t.stk.rpoison = true ∧
          (poisonWord (s.erasedOf (s.newtOf (16 * (pa / 16)))) (withErrors (codeword (cellBytes s.mem (16 * (pa / 16)) 16) false) errs) = false →
            pa / 16 ∈ t.poison))) ∧
  (∀ (s : State) (pa : Nat) (data : List Byte) (errs : List (Nat × Nat × Nat)), pa < memSize → data.length = 64 → s.held (pa / 64 * 4) = false →
    (∀ i, i < 4 → wrongPositions (s.erasedOf (s.newtOf (16 * (pa / 64 * 4 + i)))) ((errs.filter (fun x => decide (x.1 = i))).map Prod.snd) = []) →
    ∃ t, exec (.d2dTransferReceive pa true data errs) s = .next t ∧ t.stk.replays.has (pa / 64 * 2 + 1) = false ∧
      (Memory.wf s.mem → ∀ i, i < 64 → s.granuleFailed (pa / 64 * 4 + i / 16) = false → cellGet t.mem (pa / 64 * 64 + i) = data.getD i 0#8) ∧
      (∀ a, a / 64 ≠ pa / 64 → cellGet t.mem a = cellGet s.mem a)) ∧
  (∀ (s : State) (pa : Nat) (data : List Byte) (errs : List (Nat × Nat × Nat)), pa < memSize → s.held (pa / 64 * 4) = false →
    (∀ i, i < 4 → wrongPositions (s.erasedOf (s.newtOf (16 * (pa / 64 * 4 + i)))) ((errs.filter (fun x => decide (x.1 = i))).map Prod.snd) = []) →
    ∃ t, exec (.d2dTransferReceive pa false data errs) s = .next t ∧ t.stk.replays.has (pa / 64 * 2) = false ∧ t.mem = s.mem ∧ t.poison = s.poison ∧
      t.stk.rpoison = s.granulePoison (pa / 64 * 4 + 3) ∧
      t.stk.rdata = (if s.granulePoison (pa / 64 * 4 + 3) then zeroBytes 16 else cellBytes s.mem (pa / 64 * 64 + 48) 16)) ∧
  (∀ (s : State) (pa i k : Nat) (write : Bool) (data : List Byte) (errs : List (Nat × Nat × Nat)), pa < memSize → data.length = 64 → i < 4 →
    s.held (pa / 64 * 4) = false → (write = false → s.granulePoison (pa / 64 * 4 + i) = false) →
    judge (s.erasedOf (s.newtOf (16 * (pa / 64 * 4 + i)))).length
      (wrongPositions (s.erasedOf (s.newtOf (16 * (pa / 64 * 4 + i)))) ((errs.filter (fun x => decide (x.1 = i))).map Prod.snd)) = .detected →
    poisonWord (s.erasedOf (s.newtOf (16 * (pa / 64 * 4 + i))))
      (withErrors (codeword ((((if write then data else cellBytes s.mem (16 * (pa / 64 * 4)) 64)).drop (16 * i)).take 16) false)
        ((errs.filter (fun x => decide (x.1 = i))).map Prod.snd)) = false →
    s.stk.replays.getD (pa / 64 * 2 + b2n write) 0 = k → k < 4 →
    ∃ t, exec (.d2dTransferReceive pa write data errs) s = .next t ∧
      t.stk.replays.getD (pa / 64 * 2 + b2n write) 0 = k + 1 ∧ t.mem = s.mem ∧ t.poison = s.poison) ∧
  (∀ (s : State) (errs : List (Nat × Nat)), s.held s.stk.patrol = false →
    ∃ t, exec (.patrolScrubRead errs) s = .next t ∧ t.mem = s.mem ∧ t.poison = s.poison ∧ t.stk.rdata = s.stk.rdata ∧
      (s.stk.patrol + 1 < granuleCount → t.stk.patrol = s.stk.patrol + 1 ∧ t.stk.passCount = s.stk.passCount) ∧
      (granuleCount ≤ s.stk.patrol + 1 → t.stk.patrol = 0 ∧ t.stk.passCount = (s.stk.passCount + 1) % 2 ^ 32) ∧
      (∀ p, s.granulePoison s.stk.patrol = false → (s.erasedOf (s.newtOf (16 * s.stk.patrol))).length ≤ 1 →
        wrongPositions (s.erasedOf (s.newtOf (16 * s.stk.patrol))) errs = [p] → s.stk.patrol ∈ t.stk.writebacks)) ∧
  (∀ (s : State) (pa : Nat), exec (.demandScrubWriteback pa) s = .next { s with stk.writebacks := setErase (pa / 16) s.stk.writebacks })

/-- R53, R54, R55, R56, R456 and Table 3.4: a row that needed four corrections within a day is copied to a spare row while the channel has one; a die that erred on four channels holds its stack and is then erased in the
stack's map; a third erasure fails the channel or the stack; a failed stack has failed all its channels. Where exec answers a next state, under conditions on the state and the operands alone, is said of: rowSpare,
rowSpareComplete, dieRetireStart, dieRetireComplete, pinGroupRetire, baseDieStallTimeout. -/
def Obligations.SparingAndRetirement : Prop :=
  (∀ (s : State) (ch row t0 pos g : Nat) (l : List (Nat × Nat × Nat)), s.stk.rowEvents.getD (ch * 2 ^ 21 + row) [] = (t0, pos, g) :: l → 3 ≤ l.length →
    s.stk.sparing.has (ch * 2 ^ 21 + row) = false → s.channelFailed ch = false → s.stk.spared.countP (fun k => decide (k / 2 ^ 21 = ch)) < 512 →
    ∃ t, exec (.rowSpare ch row) s = .next t ∧ t.stk.sparing.get? (ch * 2 ^ 21 + row) = some (s.time.mono, pos, g) ∧ t.mem = s.mem ∧
      t = { s with stk.sparing := t.stk.sparing, stk.rowEvents := t.stk.rowEvents }) ∧
  (∀ (s : State) (ch row t0 pos g : Nat), ch < 640 → s.stk.sparing.get? (ch * 2 ^ 21 + row) = some (t0, pos, g) →
    ∃ t, exec (.rowSpareComplete ch row) s = .next t ∧ t.stk.sparing.has (ch * 2 ^ 21 + row) = false ∧ t.stk.spared = s.stk.spared ++ [ch * 2 ^ 21 + row] ∧
      t.num (E.spareRowsUsed + ch / 32) = (s.num (E.spareRowsUsed + ch / 32) + 1) % 2 ^ 16 ∧ t.mem = s.mem ∧ t.poison = s.poison) ∧
  (∀ (s : State) (st pos : Nat), st < 20 → pos < 20 →
    4 ≤ ((s.stk.ceEvents.filter (fun e => decide (e.1 = st ∧ e.2.1 = pos))).map (fun e => e.2.2.1)).eraseDups.length →
    bit s.stk.stackFailed st = false → s.stk.hold.has st = false → bit (s.num (E.retiredDies + st)) pos = false → s.dieTooMany st pos = false →
    ∃ t, exec (.dieRetireStart st pos) s = .next t ∧ t.stk.hold.get? st = some pos ∧ t.stk.holdAt.get? st = some s.time.mono ∧ t.mem = s.mem ∧
      t.mgt = s.mgt) ∧
  (∀ (s : State) (st pos : Nat), st < 20 → s.stk.hold.get? st = some pos → s.dieTooMany st pos = false →
    ∃ t, exec (.dieRetireComplete st) s = .next t ∧ t.stk.hold.has st = false ∧
      t.num (E.retiredDies + st) = setBit (s.num (E.retiredDies + st)) pos ∧ bit t.stk.errStatus 4 = true ∧ t.mem = s.mem ∧ t.poison = s.poison) ∧
  (∀ (s : State) (ch pos : Nat), ch < 640 → pos < 20 → 64 ≤ (s.stk.linkEvents.getD (ch * 32 + pos) []).length → s.channelFailed ch = false →
    (s.erasedOf ch).contains pos = false → (s.erasedOf ch).length < 2 →
    ∃ t, exec (.pinGroupRetire ch pos) s = .next t ∧ t.stk.pinGroups.getD ch 0 = setBit (s.stk.pinGroups.getD ch 0) pos ∧ t.mem = s.mem ∧
      t.poison = s.poison) ∧
  (∀ (s : State) (ch pos : Nat), ch < 640 → pos < 20 → 64 ≤ (s.stk.linkEvents.getD (ch * 32 + pos) []).length → s.channelFailed ch = false →
    (s.erasedOf ch).contains pos = false → 2 ≤ (s.erasedOf ch).length →
    ∃ t, exec (.pinGroupRetire ch pos) s = .next t ∧ t.channelFailed ch = true) ∧
  (∀ (s : State) (st : Nat), st < 20 → bit s.stk.stackFailed st = false →
    ∃ t, exec (.baseDieStallTimeout st) s = .next t ∧ bit t.stk.stackFailed st = true ∧ (∀ c, c < 32 → t.channelFailed (32 * st + c) = true))

/-- R59: a write of row_mode is refused with status 5 while a slab of the row is granted, and else the row is zeroed under its old mode; at the end of it the row reads zero, unpoisoned, every byte outside it as before. Where
exec answers a next state, under conditions on the state and the operands alone, is said of: rowModeWrite, rowZeroComplete. -/
def Obligations.RowMode : Prop :=
  (∀ (s : State) (who : Origin) (row v : Nat), row < 48 → v ≤ 1 → s.deviceCheck who (E.rowMode + row) = 0 →
    (rangeFrom (20 * row) 20).any (fun n => (s.slabOwner n).isSome) = true →
    exec (.rowModeWrite who row v) s = .next (s.answer 5)) ∧
  (∀ (s : State) (who : Origin) (row v : Nat), row < 48 → v ≤ 1 → s.deviceCheck who (E.rowMode + row) = 0 →
    (rangeFrom (20 * row) 20).any (fun n => (s.slabOwner n).isSome) = false →
    ∃ t, exec (.rowModeWrite who row v) s = .next t ∧ t.num (E.rowMode + row) = v ∧ t.mgt.answer = 0 ∧
      t.stk.rowZeroing.get? row = some (s.stk.rowZeroing.getD row (s.num (E.rowMode + row))) ∧ t.mem = s.mem) ∧
  (∀ (s : State) (row : Nat), s.stk.rowZeroing.has row = true →
    ∃ t, exec (.rowZeroComplete row) s = .next t ∧ t.stk.rowZeroing.has row = false ∧
      (∀ g, row * 0xA00000000 ≤ 16 * g → 16 * g < (row + 1) * 0xA00000000 → g ∉ t.poison) ∧
      ∀ a, cellGet t.mem a = if row * 0xA00000000 ≤ a ∧ a < (row + 1) * 0xA00000000 then 0#8 else cellGet s.mem a)

/-- R68, R72, R74, R75, R99: a NEWT node's descriptor is read once and makes one share for each newt that owns a block; one that its checks refuse has status 0x10 and no share; a share enters its newt's queue by the
functions' weights and wakes a gated newt; it starts while fewer than two run. R95, R96, R99, R322, R325: a failed newt's queue goes to its buddy with its open shares started again; a newt that holds shares and has made
no progress for 10 microseconds fails; an idle one is gated after newt_idle_gate; a walk for a miss caches the leaf that permits the access. Where exec answers a next state, under conditions on the state and the operands
alone, is said of: newtDescriptorFetch, newtShareDeliver, newtShareStart, newtFail, newtStallTimeout, newtIdleGate, pageWalk. -/
def Obligations.NewtSharesAndService : Prop :=
  ((∀ (s u v : State) (node : Nat) (n : Node) (h ops : List Byte), s.nodeStarts node 3 n → n.get 0x18 8 % 64 = 0 →
    s.unitGoes 5 node (newtDescriptorFetch node) →
    s.readDesc (fnOfQueue n.queue) n.queue (.node node) (n.get 0x18 8) 1 = (.bytes h, u) → headerOk h = true →
    u.readDesc (fnOfQueue n.queue) n.queue (.node node) (n.get 0x18 8 + 64) (fieldAt h 1 1) = (.bytes ops, v) →
    (descOk (h ++ ops) = true → bit (fieldAt (h ++ ops) 3 1) 2 = false →
      ∃ t d, exec (.newtDescriptorFetch node) s = .next t ∧ t.nwt.descs.get? v.nwt.nextDesc = some d ∧ d.raw = h ++ ops ∧ d.node = node ∧
        d.queue = n.queue ∧ d.status = 0 ∧ d.newts ≠ [] ∧ t.nwt.waiting.length = v.nwt.waiting.length + d.newts.length ∧
        (∀ x ∈ d.newts, ∃ y ∈ t.nwt.waiting, y.owner = x ∧ y.desc = v.nwt.nextDesc ∧ y.started = false) ∧ t.mem = v.mem ∧ t.cores = v.cores) ∧
    (descOk (h ++ ops) = false →
      ∃ t d, exec (.newtDescriptorFetch node) s = .next t ∧ t.nwt.descs.get? v.nwt.nextDesc = some d ∧ d.status = 0x10 ∧
        t.nwt.waiting = v.nwt.waiting ∧ t.mem = v.mem)) ∧
  (∀ (s : State) (newt fn : Nat) (h : Share),
    s.nwt.waiting.find? (fun x => decide (x.owner = newt ∧ fnOfQueue x.queue = fn) && s.mayDeliver x) = some h →
    (s.nwt.queues.getD newt []).length < 64 → s.nwt.credits.getD (newt * 256 + fn) 0 < s.num (E.qosNewt + fn) →
    ∃ t, exec (.newtShareDeliver newt fn) s = .next t ∧ t.nwt.queues.getD newt [] = s.nwt.queues.getD newt [] ++ [{ h with progressAt := s.time.mono }] ∧
      t.nwt.waiting.length + 1 = s.nwt.waiting.length ∧ t.nwt.credits.getD (newt * 256 + fn) 0 = s.nwt.credits.getD (newt * 256 + fn) 0 + 1 ∧
      s.serverOf newt ∉ t.nwt.gated ∧
      (s.serverOf newt ∈ s.nwt.gated → t.num (E.newtEpoch + s.serverOf newt) = (s.num (E.newtEpoch + s.serverOf newt) + 1) % 2 ^ 32) ∧ t.mem = s.mem) ∧
  (∀ (s : State) (newt : Nat) (h : Share) (d : Desc), s.nextShare newt = some (h, d) → s.unserved newt = false →
    sumNat ((s.servedBy (s.serverOf newt)).map (fun k => (s.nwt.queues.getD k []).countP (fun x => x.started))) < 2 →
    (s.nwt.lastFrom.get? (s.serverOf newt) ≠ some newt ∨ ∀ k ∈ s.servedBy (s.serverOf newt), k ≠ newt → s.nextShare k = none) →
    ∃ t, exec (.newtShareStart newt) s = .next t ∧ (∀ x ∈ t.nwt.queues.getD newt [], x.desc = h.desc → x.started = true ∧ x.startAt = s.time.mono) ∧
      t.mem = s.mem ∧ t.cores = s.cores ∧ t.fe = s.fe) ∧
  (∀ (s : State) (newt : Nat) (h : Share) (d : Desc), s.nextShare newt = some (h, d) → s.unserved newt = true →
    ∃ t, exec (.newtShareStart newt) s = .next t ∧ (∀ x ∈ t.nwt.queues.getD newt [], x.desc = h.desc → x.started = true ∧ x.fault = 0x14) ∧ t.mem = s.mem)) ∧
  ((∀ (s : State) (newt : Nat), newt < 640 → s.newtFailed newt = false →
    ∃ t, exec (.newtFail newt) s = .next t ∧ t.newtFailed newt = true ∧ newt ∉ t.nwt.gated ∧ bit t.nwt.status 3 = true ∧
      t.num E.newtsFailed = (s.num E.newtsFailed + 1) % 2 ^ 16 ∧ t.mem = s.mem ∧ t.fe = s.fe ∧
      (s.newtFailed (buddyOf newt) = false → s.channelFailed newt = false → s.channelFailed (buddyOf newt) = false →
        ∀ x ∈ t.nwt.queues.getD newt [], x.atomics = false → x.started = false ∧ x.nextOp = 0)) ∧
  (∀ (s : State) (newt : Nat), newt < 640 → s.newtFailed newt = false →
    s.sharesHeld newt ≠ [] → (∀ h ∈ s.sharesHeld newt, h.progressAt + 10000 ≤ s.time.mono) →
    ∃ t, exec (.newtStallTimeout newt) s = .next t ∧ t.newtFailed newt = true ∧ t.mem = s.mem) ∧
  (∀ (s : State) (newt : Nat), newt < 640 → s.num E.newtIdleGate ≠ 0 → s.newtFailed newt = false → s.nwt.gated.contains newt = false →
    s.sharesHeld newt = [] → (∀ k ∈ s.servedBy newt, s.nwt.emptySince.getD k 0 + s.num E.newtIdleGate * 1000 ≤ s.time.mono) →
    exec (.newtIdleGate newt) s = .next { s with nwt.gated := setInsert newt s.nwt.gated }) ∧
  (∀ (s : State) (fn va tg frame log : Nat) (a : Access) (r w x : Bool), s.cached fn (va / 2 ^ 16) = none → s.walk fn va = .page tg frame log r w x →
    permits a r w x = true →
    ∃ t, exec (.pageWalk fn va a) s = .next t ∧ t.translate fn va a = .ok tg (frame * 2 ^ 16 + va % 2 ^ 16) ∧
      t = { s with hif.tcache := t.hif.tcache }))

/-- R75 to R86, R70, R76, R94: a newt performs the next operation of a started share, and only that one: it completes with the results of its work in place and the share at the operation after it, or with the share holding
the status of the fault that the work met; an operation with a count of 0 completes without any access. REMOTE.COPY without a piece for the newt moves on at once, and else sends its pieces and stays at the operation
until they have moved; an unaligned one ends with 0x11. Where exec answers a next state, under conditions on the state and the operands alone, is said of: kvAppend, gatherReduce, scatter, newtCopy, fill, reduce, quant,
dequant, newtAtom, checksum, attnPart, remoteCopy. -/
def Obligations.NewtOperations : Prop :=
  (∀ (s t : State) (newt desc op : Nat) (h : Share) (d : Desc), s.newtReady newt desc op h d → linkThere (workOf newt desc h d) d →
    (d.op h.nextOp).count = 0 → s.l2.refused = none →
    t = State.unitDone ((s.openStream (workOf newt desc h d) (d.op h.nextOp)).modShare newt desc
      (fun x => { x with nextOp := x.nextOp + 1, progressAt := s.time.mono })) 3 (opIndex newt desc) →
    (op = 0x02 → exec (.kvAppend newt desc) s = .next t) ∧ (op = 0x03 → exec (.gatherReduce newt desc) s = .next t) ∧
    (op = 0x04 → exec (.scatter newt desc) s = .next t) ∧ (op = 0x05 → exec (.newtCopy newt desc) s = .next t) ∧
    (op = 0x06 → exec (.fill newt desc) s = .next t) ∧ (op = 0x07 → exec (.reduce newt desc) s = .next t) ∧
    (op = 0x08 → exec (.quant newt desc) s = .next t) ∧ (op = 0x09 → exec (.dequant newt desc) s = .next t) ∧
    (op = 0x0A → exec (.newtAtom newt desc) s = .next t) ∧ (op = 0x0B → exec (.checksum newt desc) s = .next t) ∧
    (op = 0x01 → aligned16 [(d.op h.nextOp).src, (d.op h.nextOp).dst, (d.op h.nextOp).aux, fieldAt (d.op h.nextOp) 0x20 8] = true → (d.op h.nextOp).dstNext = true →
      ∃ u, exec (.attnPart newt desc) s = .next u ∧ u.share newt desc = some { h with nextOp := h.nextOp + 1, progressAt := s.time.mono } ∧ u.mem = s.mem)) ∧
  (∀ (s : State) (newt desc : Nat) (h : Share) (d : Desc), s.newtReady newt desc 0x01 h d → linkThere (workOf newt desc h d) d →
    s.unitGoes 3 (opIndex newt desc) (Sys2Proof.Machine.attnPart newt desc) →
    ∃ t, exec (.attnPart newt desc) s = .next (t.unitDone 3 (opIndex newt desc)) ∧
      OpEnds s newt desc h d ((s.attnWork (workOf newt desc h d) d).bind (fun r s => s.partialDone (workOf newt desc h d) r.1 r.2 State.attnFinish)) t) ∧
  (∀ (s : State) (newt desc : Nat) (h : Share) (d : Desc), s.newtReady newt desc 0x02 h d → linkThere (workOf newt desc h d) d →
    s.unitGoes 3 (opIndex newt desc) (Sys2Proof.Machine.kvAppend newt desc) →
    ∃ t, exec (.kvAppend newt desc) s = .next (t.unitDone 3 (opIndex newt desc)) ∧
      OpEnds s newt desc h d (s.kvWork (workOf newt desc h d) d) t) ∧
  (∀ (s : State) (newt desc : Nat) (h : Share) (d : Desc), s.newtReady newt desc 0x03 h d → linkThere (workOf newt desc h d) d →
    s.unitGoes 3 (opIndex newt desc) (Sys2Proof.Machine.gatherReduce newt desc) →
    ∃ t, exec (.gatherReduce newt desc) s = .next (t.unitDone 3 (opIndex newt desc)) ∧
      OpEnds s newt desc h d ((s.gatherWork (workOf newt desc h d) d).bind (fun r s => s.partialDone (workOf newt desc h d) r 0 State.gatherFinish)) t) ∧
  (∀ (s : State) (newt desc : Nat) (h : Share) (d : Desc), s.newtReady newt desc 0x04 h d → linkThere (workOf newt desc h d) d →
    s.unitGoes 3 (opIndex newt desc) (Sys2Proof.Machine.scatter newt desc) →
    ∃ t, exec (.scatter newt desc) s = .next (t.unitDone 3 (opIndex newt desc)) ∧
      OpEnds s newt desc h d (s.scatterWork (workOf newt desc h d) d) t) ∧
  (∀ (s : State) (newt desc : Nat) (h : Share) (d : Desc), s.newtReady newt desc 0x05 h d → linkThere (workOf newt desc h d) d →
    s.unitGoes 3 (opIndex newt desc) (Sys2Proof.Machine.newtCopy newt desc) →
    ∃ t, exec (.newtCopy newt desc) s = .next (t.unitDone 3 (opIndex newt desc)) ∧
      OpEnds s newt desc h d (s.copyWork (workOf newt desc h d) d) t) ∧
  (∀ (s : State) (newt desc : Nat) (h : Share) (d : Desc), s.newtReady newt desc 0x06 h d → linkThere (workOf newt desc h d) d →
    s.unitGoes 3 (opIndex newt desc) (Sys2Proof.Machine.fill newt desc) →
    ∃ t, exec (.fill newt desc) s = .next (t.unitDone 3 (opIndex newt desc)) ∧
      OpEnds s newt desc h d (s.fillWork (workOf newt desc h d) d) t) ∧
  (∀ (s : State) (newt desc : Nat) (h : Share) (d : Desc), s.newtReady newt desc 0x07 h d → linkThere (workOf newt desc h d) d →
    s.unitGoes 3 (opIndex newt desc) (Sys2Proof.Machine.reduce newt desc) →
    ∃ t, exec (.reduce newt desc) s = .next (t.unitDone 3 (opIndex newt desc)) ∧
      OpEnds s newt desc h d (s.reduceWork (workOf newt desc h d) d) t) ∧
  (∀ (s : State) (newt desc : Nat) (h : Share) (d : Desc), s.newtReady newt desc 0x08 h d → linkThere (workOf newt desc h d) d →
    s.unitGoes 3 (opIndex newt desc) (Sys2Proof.Machine.quant newt desc) →
    ∃ t, exec (.quant newt desc) s = .next (t.unitDone 3 (opIndex newt desc)) ∧
      OpEnds s newt desc h d (s.quantWork (workOf newt desc h d) d) t) ∧
  (∀ (s : State) (newt desc : Nat) (h : Share) (d : Desc), s.newtReady newt desc 0x09 h d → linkThere (workOf newt desc h d) d →
    s.unitGoes 3 (opIndex newt desc) (Sys2Proof.Machine.dequant newt desc) →
    ∃ t, exec (.dequant newt desc) s = .next (t.unitDone 3 (opIndex newt desc)) ∧
      OpEnds s newt desc h d (s.dequantWork (workOf newt desc h d) d) t) ∧
  (∀ (s : State) (newt desc : Nat) (h : Share) (d : Desc), s.newtReady newt desc 0x0A h d → linkThere (workOf newt desc h d) d →
    s.unitGoes 3 (opIndex newt desc) (Sys2Proof.Machine.newtAtom newt desc) →
    ∃ t, exec (.newtAtom newt desc) s = .next (t.unitDone 3 (opIndex newt desc)) ∧
      OpEnds s newt desc h d (s.atomWork (workOf newt desc h d) d) t) ∧
  (∀ (s : State) (newt desc : Nat) (h : Share) (d : Desc), s.newtReady newt desc 0x0B h d → linkThere (workOf newt desc h d) d →
    s.unitGoes 3 (opIndex newt desc) (Sys2Proof.Machine.checksum newt desc) →
    ∃ t, exec (.checksum newt desc) s = .next (t.unitDone 3 (opIndex newt desc)) ∧
      OpEnds s newt desc h d ((s.checkWork (workOf newt desc h d) d).bind (fun r s => s.partialDone (workOf newt desc h d) r 0 State.checkFinish)) t) ∧
  (∀ (s : State) (newt desc : Nat) (h : Share) (d : Desc), s.newtReady newt desc 0x0C h d → s.unitGoes 3 (opIndex newt desc) (Sys2Proof.Machine.remoteCopy newt desc) →
    ((d.op h.nextOp).count ≠ 0 → aligned16 [(d.op h.nextOp).src, (d.op h.nextOp).dst] = false →
      exec (.remoteCopy newt desc) s = .next ((s.modShare newt desc (fun h => { h with fault := 0x11 })).unitDone 3 (opIndex newt desc))) ∧
    ((d.op h.nextOp).count = 0 ∨ aligned16 [(d.op h.nextOp).src, (d.op h.nextOp).dst] = true →
      (s.remotePieces (workOf newt desc h d) d = [] →
        exec (.remoteCopy newt desc) s = .next ((s.modShare newt desc (fun h => { h with nextOp := h.nextOp + 1 })).unitDone 3 (opIndex newt desc))) ∧
      (s.remotePieces (workOf newt desc h d) d ≠ [] →
        ∃ t, exec (.remoteCopy newt desc) s = .next (t.unitDone 3 (opIndex newt desc)) ∧
          t = s.shareEnd (workOf newt desc h d) (s.remotePump (workOf newt desc h d) d ((s.remotePieces (workOf newt desc h d) d).drop h.sent)))))

/-- R91, R93, R94, R97, R98: a share whose operations are done leaves its queue; one that faulted leaves it, stops the others and kills its queue's context, with 0x0D for status 0x15 and 0x0C for any other; a descriptor
whose shares are all done gives up its place, and its node is done once its record is written; while its queue is pre-empted the completion is held. Where exec answers a next state, under conditions on the state and the
operands alone, is said of: newtShareComplete, newtShareFault, newtDescriptorComplete. -/
def Obligations.NewtCompletion : Prop :=
  (∀ (s : State) (newt desc : Nat) (h : Share) (d : Desc), s.share newt desc = some h → s.nwt.descs.get? desc = some d → h.desc = desc → h.started = true →
    h.fault = 0 → h.stop = false → d.opCount ≤ h.nextOp → s.unitGoes 3 (opIndex newt desc) (newtShareComplete newt desc) →
    ∃ t e, exec (.newtShareComplete newt desc) s = .next t ∧ t.share newt desc = none ∧ t.nwt.descs.get? desc = some e ∧ newt ∈ e.doneNewts ∧
      e.status = d.status ∧ (s.accumCount < 4096 → t.mem = s.mem ∧ t.fe = s.fe)) ∧
  (∀ (s : State) (newt desc st : Nat) (h : Share) (d : Desc), s.share newt desc = some h → s.nwt.descs.get? desc = some d → h.desc = desc → h.fault = st →
    st ≠ 0 → d.status = 0 → (s.q d.queue).state = .running →
    ∃ t e, exec (.newtShareFault newt desc st) s = .next t ∧ t.share newt desc = none ∧ t.nwt.descs.get? desc = some e ∧ e.status = st ∧ e.statusNewt = d.reporter.getD newt ∧
      (t.q d.queue).state = .killing ∧ (t.q d.queue).killCode = (if st = 0x15 then 0x0D else 0x0C) ∧
      (s.accumCount < 4096 → t.mem = s.mem)) ∧
  (∀ (s u : State) (desc : Nat) (d : Desc), s.nwt.descs.get? desc = some d → (∀ x ∈ d.newts, x ∈ d.doneNewts) → d.status = 0 →
    (s.q d.queue).state = .running → (s.fn (fnOfQueue d.queue)).gate = .opened → s.unitGoes 4 desc (newtDescriptorComplete desc) →
    (d.completion = 0 → exec (.newtDescriptorComplete desc) s =
      .next (State.unitDone (State.nodeDone { s with nwt.descs := s.nwt.descs.del desc } d.node) 4 desc)) ∧
    (d.completion ≠ 0 → State.writeV { s with nwt.descs := s.nwt.descs.del desc } (fnOfQueue d.queue) d.completion d.record = (0, u) →
      exec (.newtDescriptorComplete desc) s = .next ((u.nodeDone d.node).unitDone 4 desc))) ∧
  (∀ (s : State) (desc : Nat) (d : Desc), s.nwt.descs.get? desc = some d → d.status = 0 →
    (s.q d.queue).state = .preempting ∨ (s.q d.queue).state = .preempted → (s.fn (fnOfQueue d.queue)).gate = .opened →
    s.unitGoes 4 desc (newtDescriptorComplete desc) → exec (.newtDescriptorComplete desc) s = .next (s.unitDone 4 desc))

/-- R129, R130, R131, R134, R139, R140, R193, R199: FADD, FMUL, FFMA, FMIN and FMAX compute exactly on the values of their type and round once, in each thread whose guard holds, or once for the scalar forms; the x2 types act
on each half; what sub, rnd and sat select is what Table 6.13 says. A word with fields that Table 6.18 does not allow kills the context. R200, Table 8.4: RCP, RSQ, SQRT, EXP2, LOG2, SIN and COS take one FP32 source and
write the function's value, which is the stated one where Table 8.4 states it. The bits of a result that is only bounded are the model's free value (log entry 18). Where exec answers a next state, under conditions on the
state and the operands alone, is said of: fadd, fmul, ffma, fmin, fmax, rcp, rsq, sqrt, exp2, log2, sin, cos. -/
def Obligations.FloatInstructions : Prop :=
  ((∀ (s s1 : State) (is : Issue) (f : FmtA) (g : Group), IssuesA s is f 0x10 [(2, typeRegs f.type), (1, typeRegs f.type)] (typeRegs f.type) g s1 →
    (valueLegal f g.vregs fpTypes 4 2 true [0x01] [(2, typeRegs f.type), (1, typeRegs f.type)] = true → ∃ t, exec (.fadd is f) s = .next t ∧ ValueWritten s1 t is g f (fun th => onFp f.type (fun fm a b _ => fm.encode (rndOf f.rnd) f.sat
      ((if bit f.sub 1 then (fm.decode a).abs else fm.decode a).add (if bit f.sub 0 then (fm.decode b).negate else fm.decode b)))
      (g.srcA f 2 (typeRegs f.type) th) (g.srcA f 1 (typeRegs f.type) th) 0)) ∧
    (valueLegal f g.vregs fpTypes 4 2 true [0x01] [(2, typeRegs f.type), (1, typeRegs f.type)] = false → exec (.fadd is f) s = .next (illegalWord s1 is g))) ∧
  (∀ (s s1 : State) (is : Issue) (f : FmtA) (g : Group), IssuesA s is f 0x11 [(2, typeRegs f.type), (1, typeRegs f.type)] (typeRegs f.type) g s1 →
    (valueLegal f g.vregs fpTypes 2 2 true [0x01] [(2, typeRegs f.type), (1, typeRegs f.type)] = true → ∃ t, exec (.fmul is f) s = .next t ∧ ValueWritten s1 t is g f (fun th => onFp f.type (fun fm a b _ => fm.encode (rndOf f.rnd) f.sat
      (if bit f.sub 0 then ((fm.decode a).mul (fm.decode b)).negate else (fm.decode a).mul (fm.decode b)))
      (g.srcA f 2 (typeRegs f.type) th) (g.srcA f 1 (typeRegs f.type) th) 0)) ∧
    (valueLegal f g.vregs fpTypes 2 2 true [0x01] [(2, typeRegs f.type), (1, typeRegs f.type)] = false → exec (.fmul is f) s = .next (illegalWord s1 is g))) ∧
  (∀ (s s1 : State) (is : Issue) (f : FmtA) (g : Group), IssuesA s is f 0x12 [(2, typeRegs f.type), (1, typeRegs f.type), (0, typeRegs f.type)] (typeRegs f.type) g s1 →
    (valueLegal f g.vregs fpTypes 4 2 true [0x01] [(2, typeRegs f.type), (1, typeRegs f.type), (0, typeRegs f.type)] = true → ∃ t, exec (.ffma is f) s = .next t ∧ ValueWritten s1 t is g f (fun th => onFp f.type (fun fm a b c => fm.encode (rndOf f.rnd) f.sat
      ((if bit f.sub 0 then ((fm.decode a).mul (fm.decode b)).negate else (fm.decode a).mul (fm.decode b)).add
        (if bit f.sub 1 then (fm.decode c).negate else fm.decode c)))
      (g.srcA f 2 (typeRegs f.type) th) (g.srcA f 1 (typeRegs f.type) th) (g.srcA f 0 (typeRegs f.type) th))) ∧
    (valueLegal f g.vregs fpTypes 4 2 true [0x01] [(2, typeRegs f.type), (1, typeRegs f.type), (0, typeRegs f.type)] = false → exec (.ffma is f) s = .next (illegalWord s1 is g))) ∧
  (∀ (s s1 : State) (is : Issue) (f : FmtA) (g : Group), IssuesA s is f 0x13 [(2, typeRegs f.type), (1, typeRegs f.type)] (typeRegs f.type) g s1 →
    (valueLegal f g.vregs fpTypes 1 1 false [0x01] [(2, typeRegs f.type), (1, typeRegs f.type)] = true → ∃ t, exec (.fmin is f) s = .next t ∧ ValueWritten s1 t is g f (fun th => onFp f.type (fun fm a b _ => fm.minmax false a b) (g.srcA f 2 (typeRegs f.type) th) (g.srcA f 1 (typeRegs f.type) th) 0)) ∧
    (valueLegal f g.vregs fpTypes 1 1 false [0x01] [(2, typeRegs f.type), (1, typeRegs f.type)] = false → exec (.fmin is f) s = .next (illegalWord s1 is g))) ∧
  (∀ (s s1 : State) (is : Issue) (f : FmtA) (g : Group), IssuesA s is f 0x14 [(2, typeRegs f.type), (1, typeRegs f.type)] (typeRegs f.type) g s1 →
    (valueLegal f g.vregs fpTypes 1 1 false [0x01] [(2, typeRegs f.type), (1, typeRegs f.type)] = true → ∃ t, exec (.fmax is f) s = .next t ∧ ValueWritten s1 t is g f (fun th => onFp f.type (fun fm a b _ => fm.minmax true a b) (g.srcA f 2 (typeRegs f.type) th) (g.srcA f 1 (typeRegs f.type) th) 0)) ∧
    (valueLegal f g.vregs fpTypes 1 1 false [0x01] [(2, typeRegs f.type), (1, typeRegs f.type)] = false → exec (.fmax is f) s = .next (illegalWord s1 is g))) ∧
  (∀ (a b : Nat), (Fmt.fp32.decode a).isNan = true → (Fmt.fp32.decode b).isNan = false → Fmt.fp32.minmax false a b = b ∧ Fmt.fp32.minmax true b a = b) ∧
  (∀ (fm : Fmt) (r : Rnd) (sat : Bool) (a b : Nat), (fm.decode a).isNan = true → fm.add r sat a b = fm.nan ∧ fm.mul r sat b a = fm.nan)) ∧
  ((∀ (s s1 : State) (is : Issue) (f : FmtA) (g : Group), IssuesA s is f 0x18 [(2, 1)] (typeRegs f.type) g s1 →
    (valueLegal f g.vregs [0x01] 1 1 false [] [(2, 1)] = true → ∃ t, exec (.rcp is f) s = .next t ∧ ValueWritten s1 t is g f (fun th => specialFn 0 (g.srcA f 2 1 th))) ∧
    (valueLegal f g.vregs [0x01] 1 1 false [] [(2, 1)] = false → exec (.rcp is f) s = .next (illegalWord s1 is g))) ∧
  (∀ (s s1 : State) (is : Issue) (f : FmtA) (g : Group), IssuesA s is f 0x19 [(2, 1)] (typeRegs f.type) g s1 →
    (valueLegal f g.vregs [0x01] 1 1 false [] [(2, 1)] = true → ∃ t, exec (.rsq is f) s = .next t ∧ ValueWritten s1 t is g f (fun th => specialFn 1 (g.srcA f 2 1 th))) ∧
    (valueLegal f g.vregs [0x01] 1 1 false [] [(2, 1)] = false → exec (.rsq is f) s = .next (illegalWord s1 is g))) ∧
  (∀ (s s1 : State) (is : Issue) (f : FmtA) (g : Group), IssuesA s is f 0x1A [(2, 1)] (typeRegs f.type) g s1 →
    (valueLegal f g.vregs [0x01] 1 1 false [] [(2, 1)] = true → ∃ t, exec (.sqrt is f) s = .next t ∧ ValueWritten s1 t is g f (fun th => specialFn 2 (g.srcA f 2 1 th))) ∧
    (valueLegal f g.vregs [0x01] 1 1 false [] [(2, 1)] = false → exec (.sqrt is f) s = .next (illegalWord s1 is g))) ∧
  (∀ (s s1 : State) (is : Issue) (f : FmtA) (g : Group), IssuesA s is f 0x1B [(2, 1)] (typeRegs f.type) g s1 →
    (valueLegal f g.vregs [0x01] 1 1 false [] [(2, 1)] = true → ∃ t, exec (.exp2 is f) s = .next t ∧ ValueWritten s1 t is g f (fun th => specialFn 3 (g.srcA f 2 1 th))) ∧
    (valueLegal f g.vregs [0x01] 1 1 false [] [(2, 1)] = false → exec (.exp2 is f) s = .next (illegalWord s1 is g))) ∧
  (∀ (s s1 : State) (is : Issue) (f : FmtA) (g : Group), IssuesA s is f 0x1C [(2, 1)] (typeRegs f.type) g s1 →
    (valueLegal f g.vregs [0x01] 1 1 false [] [(2, 1)] = true → ∃ t, exec (.log2 is f) s = .next t ∧ ValueWritten s1 t is g f (fun th => specialFn 4 (g.srcA f 2 1 th))) ∧
    (valueLegal f g.vregs [0x01] 1 1 false [] [(2, 1)] = false → exec (.log2 is f) s = .next (illegalWord s1 is g))) ∧
  (∀ (s s1 : State) (is : Issue) (f : FmtA) (g : Group), IssuesA s is f 0x1D [(2, 1)] (typeRegs f.type) g s1 →
    (valueLegal f g.vregs [0x01] 1 1 false [] [(2, 1)] = true → ∃ t, exec (.sin is f) s = .next t ∧ ValueWritten s1 t is g f (fun th => specialFn 5 (g.srcA f 2 1 th))) ∧
    (valueLegal f g.vregs [0x01] 1 1 false [] [(2, 1)] = false → exec (.sin is f) s = .next (illegalWord s1 is g))) ∧
  (∀ (s s1 : State) (is : Issue) (f : FmtA) (g : Group), IssuesA s is f 0x1E [(2, 1)] (typeRegs f.type) g s1 →
    (valueLegal f g.vregs [0x01] 1 1 false [] [(2, 1)] = true → ∃ t, exec (.cos is f) s = .next t ∧ ValueWritten s1 t is g f (fun th => specialFn 6 (g.srcA f 2 1 th))) ∧
    (valueLegal f g.vregs [0x01] 1 1 false [] [(2, 1)] = false → exec (.cos is f) s = .next (illegalWord s1 is g))) ∧
  (∀ kind x, kind < 7 → (Fmt.fp32.decode x).isNan = true → specialFn kind x = 0x7FC00000) ∧
  specialFn 0 0 = 0x7F800000 ∧ specialFn 0 0x80000000 = 0xFF800000 ∧ specialFn 2 0x80000000 = 0x80000000 ∧ specialFn 2 0xBF800000 = 0x7FC00000 ∧
  specialFn 4 0 = 0xFF800000 ∧ specialFn 5 0x7F800000 = 0x7FC00000)

/-- R139, R141: IADD and ISUB wrap, or saturate with sat; IMUL and IMAD keep the low half, IMULHI the high half of the full product; IMIN and IMAX choose by the type's order; AND, OR and XOR act bitwise. R138, R139, R141:
shift counts are taken modulo the width; BFE extracts the field that b names and BFI inserts one into c; POPC, CLZ and BREV act on 32 bits; IDP4 adds four byte products and c exactly and wraps. Where BFE's field reaches
past the type, or an empty field is to be sign-extended, the spec states no result and the value is free (log entry 21). Where exec answers a next state, under conditions on the state and the operands alone, is said of:
iadd, isub, imul, imad, imulhi, imin, imax, and, or, xor, shl, shr, bfe, bfi, popc, clz, brev, idp4. -/
def Obligations.IntegerInstructions : Prop :=
  ((∀ (s s1 : State) (is : Issue) (f : FmtA) (g : Group), IssuesA s is f 0x30 [(2, typeRegs f.type), (1, typeRegs f.type)] (typeRegs f.type) g s1 →
    (valueLegal f g.vregs intTypes 1 1 true intTypes [(2, typeRegs f.type), (1, typeRegs f.type)] = true → ∃ t, exec (.iadd is f) s = .next t ∧ ValueWritten s1 t is g f (fun th =>
      let n := intWidth f.type
      let a := g.srcA f 2 (typeRegs f.type) th
      let b := g.srcA f 1 (typeRegs f.type) th
      if f.sat then wrapInt n (clampInt n (intSigned f.type) (intVal n (intSigned f.type) a + intVal n (intSigned f.type) b)) else (a + b) % 2 ^ n)) ∧
    (valueLegal f g.vregs intTypes 1 1 true intTypes [(2, typeRegs f.type), (1, typeRegs f.type)] = false → exec (.iadd is f) s = .next (illegalWord s1 is g))) ∧
  (∀ (s s1 : State) (is : Issue) (f : FmtA) (g : Group), IssuesA s is f 0x31 [(2, typeRegs f.type), (1, typeRegs f.type)] (typeRegs f.type) g s1 →
    (valueLegal f g.vregs intTypes 1 1 true intTypes [(2, typeRegs f.type), (1, typeRegs f.type)] = true → ∃ t, exec (.isub is f) s = .next t ∧ ValueWritten s1 t is g f (fun th =>
      let n := intWidth f.type
      let a := g.srcA f 2 (typeRegs f.type) th
      let b := g.srcA f 1 (typeRegs f.type) th
      if f.sat then wrapInt n (clampInt n (intSigned f.type) (intVal n (intSigned f.type) a - intVal n (intSigned f.type) b))
      else (a + 2 ^ n - b) % 2 ^ n)) ∧
    (valueLegal f g.vregs intTypes 1 1 true intTypes [(2, typeRegs f.type), (1, typeRegs f.type)] = false → exec (.isub is f) s = .next (illegalWord s1 is g))) ∧
  (∀ (s s1 : State) (is : Issue) (f : FmtA) (g : Group), IssuesA s is f 0x32 [(2, typeRegs f.type), (1, typeRegs f.type)] (typeRegs f.type) g s1 →
    (valueLegal f g.vregs mulTypes 1 1 false mulTypes [(2, typeRegs f.type), (1, typeRegs f.type)] = true → ∃ t, exec (.imul is f) s = .next t ∧ ValueWritten s1 t is g f (fun th => g.srcA f 2 (typeRegs f.type) th * g.srcA f 1 (typeRegs f.type) th % 2 ^ intWidth f.type)) ∧
    (valueLegal f g.vregs mulTypes 1 1 false mulTypes [(2, typeRegs f.type), (1, typeRegs f.type)] = false → exec (.imul is f) s = .next (illegalWord s1 is g))) ∧
  (∀ (s s1 : State) (is : Issue) (f : FmtA) (g : Group), IssuesA s is f 0x33 [(2, typeRegs f.type), (1, typeRegs f.type), (0, typeRegs f.type)] (typeRegs f.type) g s1 →
    (valueLegal f g.vregs mulTypes 1 1 false mulTypes [(2, typeRegs f.type), (1, typeRegs f.type), (0, typeRegs f.type)] = true → ∃ t, exec (.imad is f) s = .next t ∧ ValueWritten s1 t is g f (fun th => (g.srcA f 2 (typeRegs f.type) th * g.srcA f 1 (typeRegs f.type) th + g.srcA f 0 (typeRegs f.type) th) % 2 ^ intWidth f.type)) ∧
    (valueLegal f g.vregs mulTypes 1 1 false mulTypes [(2, typeRegs f.type), (1, typeRegs f.type), (0, typeRegs f.type)] = false → exec (.imad is f) s = .next (illegalWord s1 is g))) ∧
  (∀ (s s1 : State) (is : Issue) (f : FmtA) (g : Group), IssuesA s is f 0x34 [(2, typeRegs f.type), (1, typeRegs f.type)] (typeRegs f.type) g s1 →
    (valueLegal f g.vregs mulTypes 1 1 false mulTypes [(2, typeRegs f.type), (1, typeRegs f.type)] = true → ∃ t, exec (.imulhi is f) s = .next t ∧ ValueWritten s1 t is g f (fun th =>
      let n := intWidth f.type
      let a := g.srcA f 2 (typeRegs f.type) th
      let b := g.srcA f 1 (typeRegs f.type) th
      if intSigned f.type then (BitVec.ofInt (2 * n) ((BitVec.ofNat n a).toInt * (BitVec.ofNat n b).toInt)).toNat / 2 ^ n else a * b / 2 ^ n)) ∧
    (valueLegal f g.vregs mulTypes 1 1 false mulTypes [(2, typeRegs f.type), (1, typeRegs f.type)] = false → exec (.imulhi is f) s = .next (illegalWord s1 is g))) ∧
  (∀ (s s1 : State) (is : Issue) (f : FmtA) (g : Group), IssuesA s is f 0x35 [(2, typeRegs f.type), (1, typeRegs f.type)] (typeRegs f.type) g s1 →
    (valueLegal f g.vregs intTypes 1 1 false intTypes [(2, typeRegs f.type), (1, typeRegs f.type)] = true → ∃ t, exec (.imin is f) s = .next t ∧ ValueWritten s1 t is g f (fun th =>
      let n := intWidth f.type
      let a := g.srcA f 2 (typeRegs f.type) th
      let b := g.srcA f 1 (typeRegs f.type) th
      if intSigned f.type then (if (BitVec.ofNat n a).sle (BitVec.ofNat n b) then a else b) else min a b)) ∧
    (valueLegal f g.vregs intTypes 1 1 false intTypes [(2, typeRegs f.type), (1, typeRegs f.type)] = false → exec (.imin is f) s = .next (illegalWord s1 is g))) ∧
  (∀ (s s1 : State) (is : Issue) (f : FmtA) (g : Group), IssuesA s is f 0x36 [(2, typeRegs f.type), (1, typeRegs f.type)] (typeRegs f.type) g s1 →
    (valueLegal f g.vregs intTypes 1 1 false intTypes [(2, typeRegs f.type), (1, typeRegs f.type)] = true → ∃ t, exec (.imax is f) s = .next t ∧ ValueWritten s1 t is g f (fun th =>
      let n := intWidth f.type
      let a := g.srcA f 2 (typeRegs f.type) th
      let b := g.srcA f 1 (typeRegs f.type) th
      if intSigned f.type then (if (BitVec.ofNat n a).sle (BitVec.ofNat n b) then b else a) else max a b)) ∧
    (valueLegal f g.vregs intTypes 1 1 false intTypes [(2, typeRegs f.type), (1, typeRegs f.type)] = false → exec (.imax is f) s = .next (illegalWord s1 is g))) ∧
  (∀ (s s1 : State) (is : Issue) (f : FmtA) (g : Group), IssuesA s is f 0x38 [(2, typeRegs f.type), (1, typeRegs f.type)] (typeRegs f.type) g s1 →
    (valueLegal f g.vregs intTypes 1 1 false intTypes [(2, typeRegs f.type), (1, typeRegs f.type)] = true → ∃ t, exec (.and is f) s = .next t ∧ ValueWritten s1 t is g f (fun th => g.srcA f 2 (typeRegs f.type) th &&& g.srcA f 1 (typeRegs f.type) th)) ∧
    (valueLegal f g.vregs intTypes 1 1 false intTypes [(2, typeRegs f.type), (1, typeRegs f.type)] = false → exec (.and is f) s = .next (illegalWord s1 is g))) ∧
  (∀ (s s1 : State) (is : Issue) (f : FmtA) (g : Group), IssuesA s is f 0x39 [(2, typeRegs f.type), (1, typeRegs f.type)] (typeRegs f.type) g s1 →
    (valueLegal f g.vregs intTypes 1 1 false intTypes [(2, typeRegs f.type), (1, typeRegs f.type)] = true → ∃ t, exec (.or is f) s = .next t ∧ ValueWritten s1 t is g f (fun th => g.srcA f 2 (typeRegs f.type) th ||| g.srcA f 1 (typeRegs f.type) th)) ∧
    (valueLegal f g.vregs intTypes 1 1 false intTypes [(2, typeRegs f.type), (1, typeRegs f.type)] = false → exec (.or is f) s = .next (illegalWord s1 is g))) ∧
  (∀ (s s1 : State) (is : Issue) (f : FmtA) (g : Group), IssuesA s is f 0x3A [(2, typeRegs f.type), (1, typeRegs f.type)] (typeRegs f.type) g s1 →
    (valueLegal f g.vregs intTypes 1 1 false intTypes [(2, typeRegs f.type), (1, typeRegs f.type)] = true → ∃ t, exec (.xor is f) s = .next t ∧ ValueWritten s1 t is g f (fun th => g.srcA f 2 (typeRegs f.type) th ^^^ g.srcA f 1 (typeRegs f.type) th)) ∧
    (valueLegal f g.vregs intTypes 1 1 false intTypes [(2, typeRegs f.type), (1, typeRegs f.type)] = false → exec (.xor is f) s = .next (illegalWord s1 is g)))) ∧
  ((∀ (s s1 : State) (is : Issue) (f : FmtA) (g : Group), IssuesA s is f 0x3B [(2, typeRegs f.type), (1, 1)] (typeRegs f.type) g s1 →
    (valueLegal f g.vregs intTypes 1 1 false intTypes [(2, typeRegs f.type), (1, 1)] = true → ∃ t, exec (.shl is f) s = .next t ∧ ValueWritten s1 t is g f (fun th => (g.srcA f 2 (typeRegs f.type) th <<< (g.srcA f 1 1 th % intWidth f.type)) % 2 ^ intWidth f.type)) ∧
    (valueLegal f g.vregs intTypes 1 1 false intTypes [(2, typeRegs f.type), (1, 1)] = false → exec (.shl is f) s = .next (illegalWord s1 is g))) ∧
  (∀ (s s1 : State) (is : Issue) (f : FmtA) (g : Group), IssuesA s is f 0x3C [(2, typeRegs f.type), (1, 1)] (typeRegs f.type) g s1 →
    (valueLegal f g.vregs intTypes 2 1 false intTypes [(2, typeRegs f.type), (1, 1)] = true → ∃ t, exec (.shr is f) s = .next t ∧ ValueWritten s1 t is g f (fun th =>
      let n := intWidth f.type
      let k := g.srcA f 1 1 th % n
      if f.sub = 1 then ((BitVec.ofNat n (g.srcA f 2 (typeRegs f.type) th)).sshiftRight k).toNat else g.srcA f 2 (typeRegs f.type) th >>> k)) ∧
    (valueLegal f g.vregs intTypes 2 1 false intTypes [(2, typeRegs f.type), (1, 1)] = false → exec (.shr is f) s = .next (illegalWord s1 is g))) ∧
  (∀ (s s1 : State) (is : Issue) (f : FmtA) (g : Group), IssuesA s is f 0x3D [(2, typeRegs f.type), (1, 1)] (typeRegs f.type) g s1 →
    (valueLegal f g.vregs intTypes 2 1 false intTypes [(2, typeRegs f.type), (1, 1)] = true → ∃ t, exec (.bfe is f) s = .next t ∧ ValueWritten s1 t is g f (fun th =>
      let n := intWidth f.type
      let a := g.srcA f 2 (typeRegs f.type) th
      let b := g.srcA f 1 1 th
      let start := b % 256
      let len := b / 256 % 256
      if n < start + len ∨ (f.sub = 1 ∧ len = 0) then Config.unstated 0 a b % 2 ^ n
      else if f.sub = 1 then ((BitVec.ofNat len (a >>> start)).signExtend n).toNat else (a >>> start) % 2 ^ len)) ∧
    (valueLegal f g.vregs intTypes 2 1 false intTypes [(2, typeRegs f.type), (1, 1)] = false → exec (.bfe is f) s = .next (illegalWord s1 is g))) ∧
  (∀ (s s1 : State) (is : Issue) (f : FmtA) (g : Group), IssuesA s is f 0x3E [(2, typeRegs f.type), (1, 1), (0, typeRegs f.type)] (typeRegs f.type) g s1 →
    (valueLegal f g.vregs intTypes 1 1 false intTypes [(2, typeRegs f.type), (1, 1), (0, typeRegs f.type)] = true → ∃ t, exec (.bfi is f) s = .next t ∧ ValueWritten s1 t is g f (fun th => bfiVal (intWidth f.type) (g.srcA f 2 (typeRegs f.type) th) (g.srcA f 1 1 th) (g.srcA f 0 (typeRegs f.type) th))) ∧
    (valueLegal f g.vregs intTypes 1 1 false intTypes [(2, typeRegs f.type), (1, 1), (0, typeRegs f.type)] = false → exec (.bfi is f) s = .next (illegalWord s1 is g))) ∧
  (∀ n a b c i, bit (bfiVal n a b c) i =
    (decide (i < n) && (if b % 256 ≤ i ∧ i < b % 256 + b / 256 % 256 then bit a (i - b % 256) else bit c i))) ∧
  (∀ (s s1 : State) (is : Issue) (f : FmtA) (g : Group), IssuesA s is f 0x3F [(2, 1)] (typeRegs f.type) g s1 →
    (valueLegal f g.vregs [0x00] 1 1 false [0x00] [(2, 1)] = true → ∃ t, exec (.popc is f) s = .next t ∧ ValueWritten s1 t is g f (fun th => ((List.range 32).filter (fun i => bit (g.srcA f 2 1 th) i)).length)) ∧
    (valueLegal f g.vregs [0x00] 1 1 false [0x00] [(2, 1)] = false → exec (.popc is f) s = .next (illegalWord s1 is g))) ∧
  (∀ (s s1 : State) (is : Issue) (f : FmtA) (g : Group), IssuesA s is f 0x40 [(2, 1)] (typeRegs f.type) g s1 →
    (valueLegal f g.vregs [0x00] 1 1 false [0x00] [(2, 1)] = true → ∃ t, exec (.clz is f) s = .next t ∧ ValueWritten s1 t is g f (fun th => (BitVec.clz (BitVec.ofNat 32 (g.srcA f 2 1 th))).toNat)) ∧
    (valueLegal f g.vregs [0x00] 1 1 false [0x00] [(2, 1)] = false → exec (.clz is f) s = .next (illegalWord s1 is g))) ∧
  (∀ (s s1 : State) (is : Issue) (f : FmtA) (g : Group), IssuesA s is f 0x41 [(2, 1)] (typeRegs f.type) g s1 →
    (valueLegal f g.vregs [0x00] 1 1 false [0x00] [(2, 1)] = true → ∃ t, exec (.brev is f) s = .next t ∧ ValueWritten s1 t is g f (fun th => (BitVec.reverse (BitVec.ofNat 32 (g.srcA f 2 1 th))).toNat)) ∧
    (valueLegal f g.vregs [0x00] 1 1 false [0x00] [(2, 1)] = false → exec (.brev is f) s = .next (illegalWord s1 is g))) ∧
  (∀ (s s1 : State) (is : Issue) (f : FmtA) (g : Group), IssuesA s is f 0x42 [(2, 1), (1, 1), (0, 1)] (typeRegs f.type) g s1 →
    (valueLegal f g.vregs [0x09, 0x0A] 2 1 false [] [(2, 1), (1, 1), (0, 1)] = true → ∃ t, exec (.idp4 is f) s = .next t ∧ ValueWritten s1 t is g f (fun th => wrapInt 32 (((List.range 4).map (fun i =>
      intVal 8 (decide (f.type = 0x09)) (g.srcA f 2 1 th >>> (8 * i)) * intVal 8 (decide (f.sub = 0)) (g.srcA f 1 1 th >>> (8 * i)))).foldl
        (fun x y => x + y) 0 + signExt 32 (g.srcA f 0 1 th)))) ∧
    (valueLegal f g.vregs [0x09, 0x0A] 2 1 false [] [(2, 1), (1, 1), (0, 1)] = false → exec (.idp4 is f) s = .next (illegalWord s1 is g))))

/-- R128, R133, R137, R139, R140, R144: FSETP and ISETP write the condition of their sub field, with a NaN operand only NE and NAN hold; PLOP combines two predicates; VOTE's ANY and ALL give one predicate to all, and BALLOT
a mask to a scalar register, which a guard !p7 leaves alone; SEL chooses a or b by a predicate; ISETP.I compares with its immediate. Where exec answers a next state, under conditions on the state and the operands alone,
is said of: fsetp, isetp, isetpI, plop, vote, sel. -/
def Obligations.PredicatesAndSelection : Prop :=
  (∀ (s s1 : State) (is : Issue) (f : FmtA) (g : Group), IssuesA s is f 0x15 [(2, typeRegs f.type), (1, typeRegs f.type)] 0 g s1 →
    (predicateLegal f g.vregs [0x01, 0x11] 8 [0x01] [(2, typeRegs f.type), (1, typeRegs f.type)] = true →
      ∃ t, exec (.fsetp is f) s = .next t ∧ PredicateResult s1 t is g f.guard f.guardNeg f.S f.dst (fun th =>
      let fm := if f.type = 0x11 then Fmt.fp64 else Fmt.fp32
      let a := fm.decode (g.srcA f 2 (typeRegs f.type) th)
      let b := fm.decode (g.srcA f 1 (typeRegs f.type) th)
      if a.isNan || b.isNan then decide (f.sub = 1 ∨ f.sub = 7)
      else match f.sub with
        | 0 => decide (a.cmp b = some .eq)
        | 1 => decide (a.cmp b ≠ some .eq)
        | 2 => decide (a.cmp b = some .lt)
        | 3 => decide (a.cmp b ≠ some .gt)
        | 4 => decide (a.cmp b = some .gt)
        | 5 => decide (a.cmp b ≠ some .lt)
        | k => decide (k = 6))) ∧
    (predicateLegal f g.vregs [0x01, 0x11] 8 [0x01] [(2, typeRegs f.type), (1, typeRegs f.type)] = false → exec (.fsetp is f) s = .next (illegalWord s1 is g))) ∧
  (∀ (s s1 : State) (is : Issue) (f : FmtA) (g : Group), IssuesA s is f 0x37 [(2, typeRegs f.type), (1, typeRegs f.type)] 0 g s1 →
    (predicateLegal f g.vregs intTypes 6 intTypes [(2, typeRegs f.type), (1, typeRegs f.type)] = true →
      ∃ t, exec (.isetp is f) s = .next t ∧ PredicateResult s1 t is g f.guard f.guardNeg f.S f.dst (fun th =>
      let a := intVal (intWidth f.type) (intSigned f.type) (g.srcA f 2 (typeRegs f.type) th)
      let b := intVal (intWidth f.type) (intSigned f.type) (g.srcA f 1 (typeRegs f.type) th)
      match f.sub with
        | 0 => decide (a = b)
        | 1 => decide (a ≠ b)
        | 2 => decide (a < b)
        | 3 => decide (a ≤ b)
        | 4 => decide (b < a)
        | _ => decide (b ≤ a))) ∧
    (predicateLegal f g.vregs intTypes 6 intTypes [(2, typeRegs f.type), (1, typeRegs f.type)] = false → exec (.isetp is f) s = .next (illegalWord s1 is g))) ∧
  (∀ (s s1 : State) (is : Issue) (f : FmtI) (g : Group),
    Issues s is (f.word 0x59) [if fmtIScal f then 256 + f.a else f.a] g s1 →
    fmtISrcOk f g.vregs true = true → f.hi = false → f.dst < 48 →
    ∃ t, exec (.isetpI is f) s = .next t ∧
      PredicateResult s1 t is g f.guard f.guardNeg f.S (f.dst % 8) (fun th =>
        let a := signExt 32 (g.srcI f th)
        let b := signExt 32 f.imm
        match f.dst / 8 with
        | 0 => decide (a = b)
        | 1 => decide (a ≠ b)
        | 2 => decide (a < b)
        | 3 => decide (a ≤ b)
        | 4 => decide (b < a)
        | _ => decide (b ≤ a))) ∧
  (∀ (s s1 : State) (is : Issue) (f : FmtA) (g : Group), Issues s is (f.word 0x44) [] g s1 →
    f.type = 0 → f.sub < 8 → f.rnd = 0 → f.sat = false → f.S = false → f.predSrc 2 = true → f.predSrc 1 = true → f.unused 0 = true → f.dst < 8 →
    ∃ t, exec (.plop is f) s = .next t ∧
      PredicateResult s1 t is g f.guard f.guardNeg false f.dst (fun th =>
        let a := g.pred f.a th
        let b := g.pred f.b th
        xor (bit f.sub 2) (if f.sub % 4 = 0 then a && b else if f.sub % 4 = 1 then a || b else if f.sub % 4 = 2 then xor a b else a && !b))) ∧
  (∀ (s s1 : State) (is : Issue) (f : FmtA) (g : Group), Issues s is (f.word 0x66) (if f.sub = 2 then [256 + f.dst] else []) g s1 →
    f.type = 0 → f.rnd = 0 → f.sat = false → f.S = false → f.predSrc 2 = true → f.unused 1 = true → f.unused 0 = true →
    (f.sub < 2 → f.dst < 8 →
      ∃ t, exec (.vote is f) s = .next t ∧
        PredicateResult s1 t is g f.guard f.guardNeg false f.dst (fun _ =>
          if f.sub = 0 then (List.range 64).any (fun th => decide (g.acting is.pc f.guard f.guardNeg th) && g.pred f.a th)
          else (List.range 64).all (fun th => !decide (g.acting is.pc f.guard f.guardNeg th) || g.pred f.a th))) ∧
    (f.sub = 2 → f.dst < 64 →
      ∃ t h, exec (.vote is f) s = .next t ∧ IssueFrame s1 t is g h ∧
        (¬ (f.guard = 7 ∧ f.guardNeg = true) →
          ∀ th, th < 64 → (bit (h.sreg f.dst) th = true ↔ g.acting is.pc f.guard f.guardNeg th ∧ g.pred f.a th = true)) ∧
        (f.guard = 7 → f.guardNeg = true → h.sreg f.dst = g.sreg f.dst) ∧
        (∀ r, r ≠ f.dst → h.sreg r = g.sreg r) ∧ (∀ r th, h.vreg r th = g.vreg r th) ∧ (∀ r th, h.pred r th = g.pred r th))) ∧
  (∀ (s s1 : State) (is : Issue) (f : FmtA) (g : Group),
    Issues s is (f.word 0x43) (f.srcRegs 2 (typeRegs f.type) ++ f.srcRegs 1 (typeRegs f.type) ++ f.dstRegs (typeRegs f.type)) g s1 →
    f.type ∈ intTypes → f.sub = 0 → f.rnd = 0 → f.sat = false → f.srcOk g.vregs 2 (typeRegs f.type) = true →
    f.srcOk g.vregs 1 (typeRegs f.type) = true → f.predSrc 0 = true → f.dstOk g.vregs (typeRegs f.type) = true →
    ∃ t, exec (.sel is f) s = .next t ∧
      ResultOf s1 t is g f.guard f.guardNeg f.S f.dst (typeRegs f.type) (fun th =>
        if g.pred f.c th then g.srcA f 2 (typeRegs f.type) th else g.srcA f 1 (typeRegs f.type) th))

/-- R131, R134, R138, Table 6.4: the immediate forms act on 32 bits, or with S on the whole scalar register, with the immediate sign-extended for IADD.I and zero-extended for the logic and shift forms; FADD.I and FMUL.I take
FP32 bits; MOVI writes its immediate, or with hi the upper half alone. That S makes the integer forms act on 64 bits and that SHR.I is logical are the model's readings (log entry 23). R132, R142, R143, R144: MOV copies;
SRD writes the special value of its code, and with S code 0x00 is illegal; V2S takes a value from the thread that b names; SHFL takes a from the thread of its mode, and where XOR leaves the group the value is free (log
entry 21); CVT converts between the types of Table 6.9 and CVT.MX quantises a block of 32 threads under one scale. Where exec answers a next state, under conditions on the state and the operands alone, is said of: iaddI,
andI, orI, xorI, shlI, shrI, faddI, fmulI, movi, mov, srd, v2s, shfl, cvt, cvtMx. -/
def Obligations.ImmediatesAndMoves : Prop :=
  ((∀ (s s1 : State) (is : Issue) (f : FmtI) (g : Group), IssuesI s is f 0x51 g s1 →
    (immediateLegal f g.vregs = true → ∃ t, exec (.iaddI is f) s = .next t ∧
      ResultOf s1 t is g f.guard f.guardNeg f.S f.dst (if f.S then 2 else 1) (fun th =>
        let a := g.srcI f th
        if f.S then (a + (BitVec.ofInt 64 (signExt 32 f.imm)).toNat) % 2 ^ 64 else (a + f.imm) % 2 ^ 32)) ∧
    (immediateLegal f g.vregs = false → exec (.iaddI is f) s = .next (illegalWord s1 is g))) ∧
  (∀ (s s1 : State) (is : Issue) (f : FmtI) (g : Group), IssuesI s is f 0x52 g s1 →
    (immediateLegal f g.vregs = true → ∃ t, exec (.andI is f) s = .next t ∧
      ResultOf s1 t is g f.guard f.guardNeg f.S f.dst (if f.S then 2 else 1) (fun th =>
        let a := g.srcI f th
        natAnd (if f.S then 64 else 32) a f.imm)) ∧
    (immediateLegal f g.vregs = false → exec (.andI is f) s = .next (illegalWord s1 is g))) ∧
  (∀ (s s1 : State) (is : Issue) (f : FmtI) (g : Group), IssuesI s is f 0x53 g s1 →
    (immediateLegal f g.vregs = true → ∃ t, exec (.orI is f) s = .next t ∧
      ResultOf s1 t is g f.guard f.guardNeg f.S f.dst (if f.S then 2 else 1) (fun th =>
        let a := g.srcI f th
        natOr (if f.S then 64 else 32) a f.imm)) ∧
    (immediateLegal f g.vregs = false → exec (.orI is f) s = .next (illegalWord s1 is g))) ∧
  (∀ (s s1 : State) (is : Issue) (f : FmtI) (g : Group), IssuesI s is f 0x54 g s1 →
    (immediateLegal f g.vregs = true → ∃ t, exec (.xorI is f) s = .next t ∧
      ResultOf s1 t is g f.guard f.guardNeg f.S f.dst (if f.S then 2 else 1) (fun th =>
        let a := g.srcI f th
        natXor (if f.S then 64 else 32) a f.imm)) ∧
    (immediateLegal f g.vregs = false → exec (.xorI is f) s = .next (illegalWord s1 is g))) ∧
  (∀ (s s1 : State) (is : Issue) (f : FmtI) (g : Group), IssuesI s is f 0x55 g s1 →
    (immediateLegal f g.vregs = true → ∃ t, exec (.shlI is f) s = .next t ∧
      ResultOf s1 t is g f.guard f.guardNeg f.S f.dst (if f.S then 2 else 1) (fun th =>
        let a := g.srcI f th
        if f.S then (a <<< (f.imm % 64)) % 2 ^ 64 else (a <<< (f.imm % 32)) % 2 ^ 32)) ∧
    (immediateLegal f g.vregs = false → exec (.shlI is f) s = .next (illegalWord s1 is g))) ∧
  (∀ (s s1 : State) (is : Issue) (f : FmtI) (g : Group), IssuesI s is f 0x56 g s1 →
    (immediateLegal f g.vregs = true → ∃ t, exec (.shrI is f) s = .next t ∧
      ResultOf s1 t is g f.guard f.guardNeg f.S f.dst (if f.S then 2 else 1) (fun th =>
        let a := g.srcI f th
        if f.S then a >>> (f.imm % 64) else a >>> (f.imm % 32))) ∧
    (immediateLegal f g.vregs = false → exec (.shrI is f) s = .next (illegalWord s1 is g))) ∧
  (∀ (s s1 : State) (is : Issue) (f : FmtI) (g : Group), IssuesI s is f 0x57 g s1 →
    (immediateLegal f g.vregs = true → ∃ t, exec (.faddI is f) s = .next t ∧
      ResultOf s1 t is g f.guard f.guardNeg f.S f.dst 1 (fun th =>
        let a := g.srcI f th
        Fmt.fp32.add .rne false (a % 2 ^ 32) f.imm)) ∧
    (immediateLegal f g.vregs = false → exec (.faddI is f) s = .next (illegalWord s1 is g))) ∧
  (∀ (s s1 : State) (is : Issue) (f : FmtI) (g : Group), IssuesI s is f 0x58 g s1 →
    (immediateLegal f g.vregs = true → ∃ t, exec (.fmulI is f) s = .next t ∧
      ResultOf s1 t is g f.guard f.guardNeg f.S f.dst 1 (fun th =>
        let a := g.srcI f th
        Fmt.fp32.mul .rne false (a % 2 ^ 32) f.imm)) ∧
    (immediateLegal f g.vregs = false → exec (.fmulI is f) s = .next (illegalWord s1 is g))) ∧
  (∀ (s s1 : State) (is : Issue) (f : FmtI) (g : Group), Issues s is (f.word 0x50) (fmtIDst f 1) g s1 →
    f.a = 0 → f.reuseA = false → f.scalA = false → f.imm < 2 ^ 32 → fmtIDstOk f g.vregs 1 = true → (f.hi = true → f.S = true) →
    ∃ t, exec (.movi is f) s = .next t ∧
      ResultOf s1 t is g f.guard f.guardNeg f.S f.dst (if f.S then 2 else 1) (fun _ =>
        if f.hi then f.imm * 2 ^ 32 + g.sreg f.dst % 2 ^ 32 else f.imm))) ∧
  ((∀ (s s1 : State) (is : Issue) (f : FmtA) (g : Group), IssuesA s is f 0x60 [(2, typeRegs f.type)] (typeRegs f.type) g s1 →
    (valueLegal f g.vregs movTypes 1 1 false movTypes [(2, typeRegs f.type)] = true → ∃ t, exec (.mov is f) s = .next t ∧ ValueWritten s1 t is g f (fun th => g.srcA f 2 (typeRegs f.type) th)) ∧
    (valueLegal f g.vregs movTypes 1 1 false movTypes [(2, typeRegs f.type)] = false → exec (.mov is f) s = .next (illegalWord s1 is g))) ∧
  (∀ (s s1 : State) (is : Issue) (f : FmtI) (g : Group), Issues s is (f.word 0x61) (fmtIDst f (srdSize f.imm)) g s1 →
    f.a = 0 → f.reuseA = false → f.scalA = false → f.hi = false →
    (f.imm ≤ 9 → (f.S = true → f.imm ≠ 0) → fmtIDstOk f g.vregs (srdSize f.imm) = true →
      ∃ t, exec (.srd is f) s = .next t ∧
        ResultOf s1 t is g f.guard f.guardNeg f.S f.dst (srdSize f.imm) (fun th =>
          [th, g.width, is.slot, g.inBlock, is.core, s1.fab.chipId, g.live, g.issueMask is.pc, s1.domainTime (is.core / 24),
            (s1.core is.core).epoch].getD f.imm 0)) ∧
    (9 < f.imm ∨ (f.S = true ∧ f.imm = 0) →
      exec (.srd is f) s = .next (s1.coreFault is.core is.slot (g.first is.pc) 0x04 is.pc 0))) ∧
  (∀ (s s1 : State) (is : Issue) (f : FmtA) (g : Group),
    Issues s is (f.word 0x62) (f.srcRegs 2 (typeRegs f.type) ++ f.srcRegs 1 1 ++ [256 + f.dst]) g s1 →
    f.type ∈ movTypes → f.sub = 0 → f.rnd = 0 → f.sat = false → f.S = false → f.srcOk g.vregs 2 (typeRegs f.type) = true → bit f.scal 1 = true →
    f.srcOk g.vregs 1 1 = true → f.unused 0 = true → f.dst < 64 →
    ∃ t h, exec (.v2s is f) s = .next t ∧ IssueFrame s1 t is g h ∧
      h.sreg f.dst = (if ∃ th, th < 64 ∧ g.acting is.pc f.guard f.guardNeg th then g.srcA f 2 (typeRegs f.type) (g.sreg f.b % 2 ^ 32 % g.width) % 2 ^ 64
        else g.sreg f.dst) ∧
      (∀ r, r ≠ f.dst → h.sreg r = g.sreg r) ∧ (∀ r th, h.vreg r th = g.vreg r th) ∧ (∀ r th, h.pred r th = g.pred r th)) ∧
  (∀ (s s1 : State) (is : Issue) (f : FmtA) (g : Group),
    Issues s is (f.word 0x65) (f.srcRegs 2 1 ++ f.srcRegs 1 1 ++ [f.dst]) g s1 →
    f.type = 0 → f.sub < 4 → f.rnd = 0 → f.sat = false → f.S = false → f.srcOk g.vregs 2 1 = true → f.srcOk g.vregs 1 1 = true → f.unused 0 = true →
    f.dst < g.vregs →
    ∃ t, exec (.shfl is f) s = .next t ∧
      VectorResult s1 t is g f.guard f.guardNeg f.dst 1 (fun th =>
        let a := g.srcA f 2 1
        let b := g.srcA f 1 1 th
        match f.sub with
        | 0 => a (b % g.width)
        | 1 => a (if b ≤ th then th - b else th)
        | 2 => a (if th + b < g.width then th + b else th)
        | _ => if th ^^^ b < g.width then a (th ^^^ b) else Config.unstated 1 (a th) b % 2 ^ 32)) ∧
  (∀ (s s1 : State) (is : Issue) (f : FmtA) (g : Group),
    Issues s is (f.word 0x63) (f.srcRegs 2 (typeRegs f.sub) ++ (if f.rnd = 2 then f.srcRegs 1 1 else []) ++ f.dstRegs (typeRegs f.type)) g s1 →
    f.type ∈ cvtTypes → f.sub ∈ cvtTypes → f.rnd < 3 → (f.S = true → cvtScalar f.type f.sub = true) → f.srcOk g.vregs 2 (typeRegs f.sub) = true →
    (f.rnd = 2 → f.srcOk g.vregs 1 1 = true) → (f.rnd ≠ 2 → f.unused 1 = true) → f.unused 0 = true → f.dstOk g.vregs (typeRegs f.type) = true →
    ∃ t, exec (.cvt is f) s = .next t ∧
      ResultOf s1 t is g f.guard f.guardNeg f.S f.dst (typeRegs f.type) (fun th =>
        cvtExtend f.type (convert f.type f.sub
          (if f.rnd = 2 then .sr (mix (g.srcA f 1 1 th) % 65536) else if f.rnd = 1 then .rz else .rne) f.sat (g.srcA f 2 (typeRegs f.sub) th)))) ∧
  (∀ (s s1 : State) (is : Issue) (f : FmtA) (g : Group),
    Issues s is (f.word 0x64) (f.srcRegs 2 1 ++ (if f.rnd = 2 then f.srcRegs 1 1 else []) ++ [f.dst]) g s1 →
    f.type ∈ [0x04, 0x05, 0x06, 0x07, 0x08, 0x09] → f.sub = 1 ∨ f.sub = 2 → f.rnd < 3 → f.S = false → f.srcOk g.vregs 2 1 = true →
    (f.rnd = 2 → f.srcOk g.vregs 1 1 = true) → (f.rnd ≠ 2 → f.unused 1 = true) → f.unused 0 = true → f.dst < g.vregs →
    ∃ t, exec (.cvtMx is f) s = .next t ∧
      VectorResult s1 t is g f.guard f.guardNeg f.dst 1 (fun th =>
        let value (j : Nat) : FVal := if f.sub = 1 then Fmt.fp32.decode (g.srcA f 2 1 j) else Fmt.bf16.decode (g.srcA f 2 1 j % 2 ^ 16)
        let scale := mxScale (mxEmax f.type)
          ((((List.range 32).map (fun i => th / 32 * 32 + i)).filter (fun j => decide (g.acting is.pc f.guard f.guardNeg j))).map value)
        mxElem (fmtOf f.type) (if f.rnd = 2 then .sr (mix (g.srcA f 1 1 th) % 65536) else if f.rnd = 1 then .rz else .rne) scale (value th) % 256 +
          256 * scale)))

/-- R106, R109, R116, R117, R129, R159: NOP moves on; BRA, BRX and CALL send the threads whose guard holds to the target and the others on, and a target above 57 bits ends the context with 0x01; CALL writes the return
address first; EXIT ends its threads, and a group without live threads gives up its slot; YIELD marks its threads; GBAR holds its threads until all live threads wait, and its watchdog ends the context with 0x07 after
gbar_watchdog. Where exec answers a next state, under conditions on the state and the operands alone, is said of: nop, bra, brx, call, exit, yield, gbar, gbarWatchdogExpire. -/
def Obligations.CoreControl : Prop :=
  (∀ (s s1 : State) (is : Issue) (f : FmtB) (g : Group), Issues s is (f.word 0x00) [] g s1 → f.zero = 0 → f.link = 0 → f.target = 0 → f.offset = 0 →
    ∃ t h, exec (.nop is f) s = .next t ∧ Steered s1 t is g h (fun th =>
      if bit (g.issueMask is.pc) th then (is.pc + 8) % 2 ^ 57 else g.pcs.getD th 0) ∧ h.v = g.v ∧ h.live = g.live) ∧
  (∀ (s s1 : State) (is : Issue) (f : FmtB) (g : Group) (addr : Nat), Issues s is (f.word 0x01) [] g s1 → f.zero = 0 → f.link = 0 → f.target = 0 →
    addr = (((is.pc : Int) + 8 * signExt 32 f.offset) % (2 ^ 64 : Nat)).toNat →
    (addr < 2 ^ 57 → ∃ t h, exec (.bra is f) s = .next t ∧ h.v = g.v ∧ h.live = g.live ∧ Steered s1 t is g h (fun th =>
      if g.acting is.pc f.guard f.guardNeg th then addr else if bit (g.issueMask is.pc) th then (is.pc + 8) % 2 ^ 57 else g.pcs.getD th 0)) ∧
    (2 ^ 57 ≤ addr → (s1.q g.queue).state = .running → (∃ th, th < 64 ∧ g.acting is.pc f.guard f.guardNeg th) →
      ∃ t, exec (.bra is f) s = .next t ∧ Killed t g.queue 0x01 ∧ t.mem = s1.mem)) ∧
  (∀ (s s1 : State) (is : Issue) (f : FmtB) (g : Group), Issues s is (f.word 0x02) (vlist f.target 2) g s1 → f.zero = 0 → f.link = 0 → f.offset = 0 →
    vregOk g.vregs 2 f.target = true →
    ((∀ th, th < 64 → g.acting is.pc f.guard f.guardNeg th → g.vregs_ f.target th 2 < 2 ^ 57 ∧ g.vregs_ f.target th 2 % 8 = 0) →
      ∃ t h, exec (.brx is f) s = .next t ∧ h.v = g.v ∧ h.live = g.live ∧ Steered s1 t is g h (fun th =>
        if g.acting is.pc f.guard f.guardNeg th then g.vregs_ f.target th 2
        else if bit (g.issueMask is.pc) th then (is.pc + 8) % 2 ^ 57 else g.pcs.getD th 0)) ∧
    (∀ th, th < 64 → g.acting is.pc f.guard f.guardNeg th → (∀ j, j < th → ¬ g.acting is.pc f.guard f.guardNeg j) →
      (s1.q g.queue).state = .running → (2 ^ 57 ≤ g.vregs_ f.target th 2 ∨ g.vregs_ f.target th 2 % 8 ≠ 0) →
      ∃ t, exec (.brx is f) s = .next t ∧ Killed t g.queue (if 2 ^ 57 ≤ g.vregs_ f.target th 2 then 0x01 else 0x04))) ∧
  (∀ (s s1 : State) (is : Issue) (f : FmtB) (g : Group) (addr : Nat), Issues s is (f.word 0x03) (vlist f.link 2) g s1 → f.zero = 0 → f.target = 0 →
    vregOk g.vregs 2 f.link = true → addr = (((is.pc : Int) + 8 * signExt 32 f.offset) % (2 ^ 64 : Nat)).toNat → addr < 2 ^ 57 →
    ∃ t h, exec (.call is f) s = .next t ∧ h.live = g.live ∧ Steered s1 t is g h (fun th =>
        if g.acting is.pc f.guard f.guardNeg th then addr else if bit (g.issueMask is.pc) th then (is.pc + 8) % 2 ^ 57 else g.pcs.getD th 0) ∧
      (∀ r th, th < 64 → h.vreg r th = if g.acting is.pc f.guard f.guardNeg th ∧ f.link ≤ r ∧ r < f.link + 2
        then (is.pc + 8) / 2 ^ (32 * (r - f.link)) % 2 ^ 32 else g.vreg r th)) ∧
  (∀ (s s1 : State) (is : Issue) (f : FmtB) (g : Group), Issues s is (f.word 0x04) [] g s1 → f.zero = 0 → f.link = 0 → f.target = 0 → f.offset = 0 →
    g.live < 2 ^ 64 →
    (g.gbar = 0 → (∃ th, th < 64 ∧ bit g.live th = true ∧ ¬ g.acting is.pc f.guard f.guardNeg th) →
      ∃ t h, exec (.exit is f) s = .next t ∧ h.v = g.v ∧ Steered s1 t is g h (fun th =>
          if bit (g.issueMask is.pc) th = true ∧ ¬ g.acting is.pc f.guard f.guardNeg th then (is.pc + 8) % 2 ^ 57 else g.pcs.getD th 0) ∧
        (∀ th, th < 64 → (bit h.live th = true ↔ bit g.live th = true ∧ ¬ g.acting is.pc f.guard f.guardNeg th))) ∧
    ((∀ th, th < 64 → bit g.live th = true → g.acting is.pc f.guard f.guardNeg th) → g.gbar = 0 → s1.groupBusy is.core is.slot = false →
      ∃ t, exec (.exit is f) s = .next t ∧ (t.core is.core).groups.get? is.slot = none ∧
        (∀ l ∈ t.l2.loads.vals, ¬ (l.core = is.core ∧ l.slot = is.slot)) ∧ (s1.accumCount < 4096 → t.mem = s1.mem))) ∧
  (∀ (s s1 : State) (is : Issue) (f : FmtB) (g : Group), Issues s is (f.word 0x05) [] g s1 → f.zero = 0 → f.link = 0 → f.target = 0 → f.offset = 0 →
    ∃ t h, exec (.yield is f) s = .next t ∧ Steered s1 t is g h (fun th =>
        if bit (g.issueMask is.pc) th then (is.pc + 8) % 2 ^ 57 else g.pcs.getD th 0) ∧ h.v = g.v ∧ h.live = g.live ∧
      (∀ th, th < 64 → g.acting is.pc f.guard f.guardNeg th → bit h.yielded th = true)) ∧
  (∀ (s s1 : State) (is : Issue) (f : FmtB) (g : Group) (w : Nat), Issues s is (f.word 0x06) [] g s1 → f.zero = 0 → f.link = 0 → f.target = 0 →
    f.offset = 0 → w = natOr 64 g.gbar (g.guardMask f.guard f.guardNeg (g.issueMask is.pc)) → (∃ th, th < 64 ∧ g.acting is.pc f.guard f.guardNeg th) →
    (popCount 64 w ≠ popCount 64 g.live →
      ∃ t h, exec (.gbar is f) s = .next t ∧ h.v = g.v ∧ h.live = g.live ∧ h.gbar = w ∧ (g.gbar = 0 → h.gbarSince = some s1.time.mono) ∧
        (g.gbar ≠ 0 → h.gbarSince = g.gbarSince) ∧ Steered s1 t is g h (fun th =>
          if bit (g.issueMask is.pc) th = true ∧ ¬ g.acting is.pc f.guard f.guardNeg th then (is.pc + 8) % 2 ^ 57 else g.pcs.getD th 0)) ∧
    (popCount 64 w = popCount 64 g.live →
      ∃ t h, exec (.gbar is f) s = .next t ∧ h.v = g.v ∧ h.live = g.live ∧ h.gbar = 0 ∧ h.gbarSince = none ∧ Steered s1 t is g h (fun th =>
        if bit w th = true ∨ bit (g.issueMask is.pc) th = true then (g.pcs.getD th 0 + 8) % 2 ^ 57 else g.pcs.getD th 0))) ∧
  (∀ (s : State) (core slot since : Nat) (g : Group), (s.core core).groups.get? slot = some g → g.gbar ≠ 0 → g.faulted = false → g.gbarSince = some since →
    (s.q g.queue).state = .running →
    (s.num E.gbarWatchdog (s.fnPart (fnOfQueue g.queue)) * 1000 ≤ g.gbarUsed + (s.time.mono - since) →
      ∃ t, exec (.gbarWatchdogExpire core slot) s = .next t ∧ Killed t g.queue 0x07 ∧ t.mem = s.mem) ∧
    (g.gbarUsed + (s.time.mono - since) < s.num E.gbarWatchdog (s.fnPart (fnOfQueue g.queue)) * 1000 →
      exec (.gbarWatchdogExpire core slot) s = .next s))

/-- R145, R146, R148, R149, R153, R210, R213, R214, R245: loads open an access and go on; stores enter the store buffer with the bytes of their threads in order, and nothing reaches memory yet; a release holds its store
until what it releases is performed; PREF never faults; SCL.ZERO makes a line of zeros and SCL.INV empties the scalar caches. R84, R151, R152, R226: every atomic operation writes what Table 4.10 says; on scratch it
executes at once in thread order with the old values in its registers, elsewhere it is open until its old values are there. Where exec answers a next state, under conditions on the state and the operands alone, is said
of: ld, ldAcq, st, stRel, pref, sclZero, sclInv, atomAdd, atomFadd, atomMin, atomMax, atomUmin, atomUmax, atomFmin, atomFmax, atomAnd, atomOr, atomXor, atomExch, atomCas. -/
def Obligations.MemoryInstructions : Prop :=
  ((∀ (s s1 : State) (is : Issue) (f : FmtM) (g : Group), LoadIssues s s1 is f g 0x70 0 →
    (∀ p, (issueOf is g f.guard f.guardNeg).placesM s1 f .read = .ok p → p ≠ [] → (issueOf is g f.guard f.guardNeg).loadReady s1 f = true →
      (∀ a ∈ p, a.target ≠ 1) → ∃ t, exec (.ld is f) s = .next t ∧ LoadOpened s1 t is f g p 0) ∧
    ((issueOf is g f.guard f.guardNeg).placesM s1 f .read = .ok [] → (issueOf is g f.guard f.guardNeg).loadReady s1 f = true →
      ∃ t, exec (.ld is f) s = .next t ∧ WentOn t is g ∧ t.l2 = s1.l2 ∧ t.mem = s1.mem) ∧
    (∀ th code va, (issueOf is g f.guard f.guardNeg).placesM s1 f .read = .fault th code va → (s1.q g.queue).state = .running →
      ∃ t, exec (.ld is f) s = .next t ∧ Killed t g.queue code ∧ t.mem = s1.mem)) ∧
  (∀ (s s1 : State) (is : Issue) (f : FmtM) (g : Group), LoadIssues s s1 is f g 0x72 (if f.scope < 2 then 1 else 2) →
    (∀ p, (issueOf is g f.guard f.guardNeg).placesM s1 f .read = .ok p → p ≠ [] → (issueOf is g f.guard f.guardNeg).loadReady s1 f = true →
      (∀ a ∈ p, a.target ≠ 1) → ∃ t, exec (.ldAcq is f) s = .next t ∧ LoadOpened s1 t is f g p (if f.scope < 2 then 1 else 2)) ∧
    ((issueOf is g f.guard f.guardNeg).placesM s1 f .read = .ok [] → (issueOf is g f.guard f.guardNeg).loadReady s1 f = true →
      ∃ t, exec (.ldAcq is f) s = .next t ∧ WentOn t is g ∧ t.l2 = s1.l2 ∧ t.mem = s1.mem) ∧
    (∀ th code va, (issueOf is g f.guard f.guardNeg).placesM s1 f .read = .fault th code va → (s1.q g.queue).state = .running →
      ∃ t, exec (.ldAcq is f) s = .next t ∧ Killed t g.queue code ∧ t.mem = s1.mem)) ∧
  (∀ (s s1 : State) (is : Issue) (f : FmtM) (g : Group) (p : List Acc) (w : Storer), Issues s is (f.word 0x71) (f.baseRegs ++ f.dataRegs) g s1 →
    f.ok g.vregs false = true → f.dataOk g.vregs = true → (issueOf is g f.guard f.guardNeg).placesM s1 f .write = .ok p →
    (issueOf is g f.guard f.guardNeg).storeReady s1 f false = true → (s1.sendCode (fnOfQueue g.queue) p).2.1 = 0 → (s1.q g.queue).state ≠ .resetting →
    w = { queue := g.queue, node := g.node, slot := is.slot, after := 0, holdLoads := s1.lineLoads is.core is.slot (g.issueMask is.pc) (accKeys p) } →
    ∃ u, WentOn u is g ∧ u.l2 = s1.l2 ∧ u.mem = s1.mem ∧ (∀ c, (u.core c).sb = (s1.core c).sb) ∧
      exec (.st is f) s = .next (u.storePieces is.core is.slot w (g.storeList f p)) ∧ (u.storePieces is.core is.slot w (g.storeList f p)).mem = s1.mem) ∧
  (∀ (s s1 : State) (is : Issue) (f : FmtM) (g : Group) (p : List Acc), Issues s is (f.word 0x73) (f.baseRegs ++ f.dataRegs) g s1 →
    f.ok g.vregs true = true → f.dataOk g.vregs = true → (issueOf is g f.guard f.guardNeg).placesM s1 f .write = .ok p →
    (issueOf is g f.guard f.guardNeg).storeReady s1 f true = true → (s1.sendCode (fnOfQueue g.queue) p).2.1 = 0 → (s1.q g.queue).state ≠ .resetting →
    (s1.relOpen is.core is.slot (g.issueMask is.pc) = false → 2 ≤ f.scope → f.space = false →
      ∃ u, WentOn u is g ∧ u.l2 = s1.l2 ∧ u.mem = s1.mem ∧ (∀ c, (u.core c).sb = (s1.core c).sb) ∧
        exec (.stRel is f) s = .next (u.storePieces is.core is.slot
          { queue := g.queue, node := g.node, slot := is.slot, after := s1.l2.nextId, holdLoads := s1.openLoads is.core is.slot (g.issueMask is.pc) }
          (g.storeList f p))) ∧
    (s1.relOpen is.core is.slot (g.issueMask is.pc) = false → f.scope < 2 ∨ f.space = true → s1.openLoads is.core is.slot (g.issueMask is.pc) = [] →
      ∃ u, WentOn u is g ∧ u.l2 = s1.l2 ∧ u.mem = s1.mem ∧ (∀ c, (u.core c).sb = (s1.core c).sb) ∧
        exec (.stRel is f) s = .next (u.storePieces is.core is.slot
          { queue := g.queue, node := g.node, slot := is.slot, after := 0, holdLoads := [] } (g.storeList f p))) ∧
    (s1.relOpen is.core is.slot (g.issueMask is.pc) = true ∨
        ((f.scope < 2 ∨ f.space = true) ∧ s1.openLoads is.core is.slot (g.issueMask is.pc) ≠ []) →
      ∃ t b, exec (.stRel is f) s = .next t ∧ WentOn t is g ∧ t.l2.bars.get? s1.l2.nextId = some b ∧ b.threads = g.issueMask is.pc ∧ b.kind = 3 ∧
        b.store = some (g.storeList f p) ∧ t.mem = s1.mem ∧ (∀ c, (t.core c).sb = (s1.core c).sb))) ∧
  (∀ (s s1 : State) (is : Issue) (f : FmtM) (g : Group), Issues s is (f.word 0x74) f.baseRegs g s1 → f.ok g.vregs false = true → f.data = 0 →
    (issueOf is g f.guard f.guardNeg).prefReady s1 f = true →
    ∃ t, exec (.pref is f) s = .next t ∧ WentOn t is g ∧ t.mem = s1.mem ∧ t.poison = s1.poison ∧ (t.q g.queue).killCode = (s1.q g.queue).killCode) ∧
  (∀ (s s1 : State) (is : Issue) (f : FmtM) (g : Group) (va pa : Nat), Issues s is (f.word 0x75) [256 + f.base] g s1 → f.ok g.vregs false = true →
    f.baseS = true → f.data = 0 → f.space = false → g.acting is.pc f.guard f.guardNeg (g.first is.pc) →
    va = (((g.sreg f.base : Int) + signExt 24 f.offset) % (2 ^ 64 : Nat)).toNat / 128 * 128 → va < 2 ^ 57 →
    s1.translate (fnOfQueue g.queue) va .write = .ok 0 pa → pa % 128 = 0 → (s1.q g.queue).state ≠ .resetting →
    (issueOf is g f.guard f.guardNeg).placesReady s1 ((issueOf is g f.guard f.guardNeg).zeroPlaces s1 f) false = true →
    ∃ t, exec (.sclZero is f) s = .next t ∧ WentOn t is g ∧ t.mem = s1.mem ∧
      (∃ e ∈ (t.core is.core).sb, e.queue = g.queue ∧ e.key = lineKey 0 (pa / 128) ∧ e.mask = 2 ^ 128 - 1 ∧ e.data = zeroBytes 128) ∧
      ((s1.core is.core).sclEnable = true → ∃ x, findLine (t.core is.core).scl (lineKey 0 (pa / 128)) = some x ∧ x.data = zeroBytes 128)) ∧
  (∀ (s s1 : State) (is : Issue) (f : FmtM) (g : Group), Issues s is (f.word 0x76) [] g s1 → f.data = 0 → f.base = 0 → f.scope = 0 → f.size ≤ 4 →
    f.hint ≠ 3 → (f.S = true → f.space = false ∧ f.size ≠ 4) → g.acting is.pc f.guard f.guardNeg (g.first is.pc) →
    ∃ t, exec (.sclInv is f) s = .next t ∧ WentOn t is g ∧ (t.core is.core).scl = [] ∧ (t.core is.core).victim = [] ∧
      (t.core is.core).sclInvalidated = true ∧ (t.core is.core).l1 = (s1.core is.core).l1 ∧ t.mem = s1.mem)) ∧
  (AtomWrites 0 (fun b o x _ => (o + x) % 2 ^ (8 * b)) ∧
  (∀ (s s1 : State) (is : Issue) (f : FmtX) (g : Group) (p : List Acc), AtomIssues s s1 is f g p 0 →
    (f.space = false → (s1.sendCode (fnOfQueue g.queue) p).2.1 = 0 → ∃ t, exec (.atomAdd is f) s = .next t ∧ AtomOpened s1 t is f g p 0) ∧
    (f.space = true → p.find? (fun a => (s1.core is.core).scratchBadAt is.slot a.pa a.n) = none →
      ∃ t, exec (.atomAdd is f) s = .next t ∧ AtomDone s1 t is f g p 0)) ∧
  AtomWrites 1 (fun _ o x _ => Fmt.fp32.add .rne false o x) ∧
  (∀ (s s1 : State) (is : Issue) (f : FmtX) (g : Group) (p : List Acc), AtomIssues s s1 is f g p 1 →
    (f.space = false → (s1.sendCode (fnOfQueue g.queue) p).2.1 = 0 → ∃ t, exec (.atomFadd is f) s = .next t ∧ AtomOpened s1 t is f g p 1) ∧
    (f.space = true → p.find? (fun a => (s1.core is.core).scratchBadAt is.slot a.pa a.n) = none →
      ∃ t, exec (.atomFadd is f) s = .next t ∧ AtomDone s1 t is f g p 1)) ∧
  AtomWrites 2 (fun b o x _ => if (BitVec.ofNat (8 * b) x).slt (BitVec.ofNat (8 * b) o) then x else o) ∧
  (∀ (s s1 : State) (is : Issue) (f : FmtX) (g : Group) (p : List Acc), AtomIssues s s1 is f g p 2 →
    (f.space = false → (s1.sendCode (fnOfQueue g.queue) p).2.1 = 0 → ∃ t, exec (.atomMin is f) s = .next t ∧ AtomOpened s1 t is f g p 2) ∧
    (f.space = true → p.find? (fun a => (s1.core is.core).scratchBadAt is.slot a.pa a.n) = none →
      ∃ t, exec (.atomMin is f) s = .next t ∧ AtomDone s1 t is f g p 2)) ∧
  AtomWrites 3 (fun b o x _ => if (BitVec.ofNat (8 * b) o).slt (BitVec.ofNat (8 * b) x) then x else o) ∧
  (∀ (s s1 : State) (is : Issue) (f : FmtX) (g : Group) (p : List Acc), AtomIssues s s1 is f g p 3 →
    (f.space = false → (s1.sendCode (fnOfQueue g.queue) p).2.1 = 0 → ∃ t, exec (.atomMax is f) s = .next t ∧ AtomOpened s1 t is f g p 3) ∧
    (f.space = true → p.find? (fun a => (s1.core is.core).scratchBadAt is.slot a.pa a.n) = none →
      ∃ t, exec (.atomMax is f) s = .next t ∧ AtomDone s1 t is f g p 3)) ∧
  AtomWrites 4 (fun _ o x _ => min o x) ∧
  (∀ (s s1 : State) (is : Issue) (f : FmtX) (g : Group) (p : List Acc), AtomIssues s s1 is f g p 4 →
    (f.space = false → (s1.sendCode (fnOfQueue g.queue) p).2.1 = 0 → ∃ t, exec (.atomUmin is f) s = .next t ∧ AtomOpened s1 t is f g p 4) ∧
    (f.space = true → p.find? (fun a => (s1.core is.core).scratchBadAt is.slot a.pa a.n) = none →
      ∃ t, exec (.atomUmin is f) s = .next t ∧ AtomDone s1 t is f g p 4)) ∧
  AtomWrites 5 (fun _ o x _ => max o x) ∧
  (∀ (s s1 : State) (is : Issue) (f : FmtX) (g : Group) (p : List Acc), AtomIssues s s1 is f g p 5 →
    (f.space = false → (s1.sendCode (fnOfQueue g.queue) p).2.1 = 0 → ∃ t, exec (.atomUmax is f) s = .next t ∧ AtomOpened s1 t is f g p 5) ∧
    (f.space = true → p.find? (fun a => (s1.core is.core).scratchBadAt is.slot a.pa a.n) = none →
      ∃ t, exec (.atomUmax is f) s = .next t ∧ AtomDone s1 t is f g p 5)) ∧
  AtomWrites 6 (fun _ o x _ => if (Fmt.fp32.decode x).isNan then o else Fmt.fp32.minmax false o x) ∧
  (∀ (s s1 : State) (is : Issue) (f : FmtX) (g : Group) (p : List Acc), AtomIssues s s1 is f g p 6 →
    (f.space = false → (s1.sendCode (fnOfQueue g.queue) p).2.1 = 0 → ∃ t, exec (.atomFmin is f) s = .next t ∧ AtomOpened s1 t is f g p 6) ∧
    (f.space = true → p.find? (fun a => (s1.core is.core).scratchBadAt is.slot a.pa a.n) = none →
      ∃ t, exec (.atomFmin is f) s = .next t ∧ AtomDone s1 t is f g p 6)) ∧
  AtomWrites 7 (fun _ o x _ => if (Fmt.fp32.decode x).isNan then o else Fmt.fp32.minmax true o x) ∧
  (∀ (s s1 : State) (is : Issue) (f : FmtX) (g : Group) (p : List Acc), AtomIssues s s1 is f g p 7 →
    (f.space = false → (s1.sendCode (fnOfQueue g.queue) p).2.1 = 0 → ∃ t, exec (.atomFmax is f) s = .next t ∧ AtomOpened s1 t is f g p 7) ∧
    (f.space = true → p.find? (fun a => (s1.core is.core).scratchBadAt is.slot a.pa a.n) = none →
      ∃ t, exec (.atomFmax is f) s = .next t ∧ AtomDone s1 t is f g p 7)) ∧
  AtomWrites 8 (fun _ o x _ => o &&& x) ∧
  (∀ (s s1 : State) (is : Issue) (f : FmtX) (g : Group) (p : List Acc), AtomIssues s s1 is f g p 8 →
    (f.space = false → (s1.sendCode (fnOfQueue g.queue) p).2.1 = 0 → ∃ t, exec (.atomAnd is f) s = .next t ∧ AtomOpened s1 t is f g p 8) ∧
    (f.space = true → p.find? (fun a => (s1.core is.core).scratchBadAt is.slot a.pa a.n) = none →
      ∃ t, exec (.atomAnd is f) s = .next t ∧ AtomDone s1 t is f g p 8)) ∧
  AtomWrites 9 (fun _ o x _ => o ||| x) ∧
  (∀ (s s1 : State) (is : Issue) (f : FmtX) (g : Group) (p : List Acc), AtomIssues s s1 is f g p 9 →
    (f.space = false → (s1.sendCode (fnOfQueue g.queue) p).2.1 = 0 → ∃ t, exec (.atomOr is f) s = .next t ∧ AtomOpened s1 t is f g p 9) ∧
    (f.space = true → p.find? (fun a => (s1.core is.core).scratchBadAt is.slot a.pa a.n) = none →
      ∃ t, exec (.atomOr is f) s = .next t ∧ AtomDone s1 t is f g p 9)) ∧
  AtomWrites 10 (fun _ o x _ => o ^^^ x) ∧
  (∀ (s s1 : State) (is : Issue) (f : FmtX) (g : Group) (p : List Acc), AtomIssues s s1 is f g p 10 →
    (f.space = false → (s1.sendCode (fnOfQueue g.queue) p).2.1 = 0 → ∃ t, exec (.atomXor is f) s = .next t ∧ AtomOpened s1 t is f g p 10) ∧
    (f.space = true → p.find? (fun a => (s1.core is.core).scratchBadAt is.slot a.pa a.n) = none →
      ∃ t, exec (.atomXor is f) s = .next t ∧ AtomDone s1 t is f g p 10)) ∧
  AtomWrites 11 (fun _ _ x _ => x) ∧
  (∀ (s s1 : State) (is : Issue) (f : FmtX) (g : Group) (p : List Acc), AtomIssues s s1 is f g p 11 →
    (f.space = false → (s1.sendCode (fnOfQueue g.queue) p).2.1 = 0 → ∃ t, exec (.atomExch is f) s = .next t ∧ AtomOpened s1 t is f g p 11) ∧
    (f.space = true → p.find? (fun a => (s1.core is.core).scratchBadAt is.slot a.pa a.n) = none →
      ∃ t, exec (.atomExch is f) s = .next t ∧ AtomDone s1 t is f g p 11)) ∧
  AtomWrites 12 (fun _ o x c => if o = c then x else o) ∧
  (∀ (s s1 : State) (is : Issue) (f : FmtX) (g : Group) (p : List Acc), AtomIssues s s1 is f g p 12 →
    (f.space = false → (s1.sendCode (fnOfQueue g.queue) p).2.1 = 0 → ∃ t, exec (.atomCas is f) s = .next t ∧ AtomOpened s1 t is f g p 12) ∧
    (f.space = true → p.find? (fun a => (s1.core is.core).scratchBadAt is.slot a.pa a.n) = none →
      ∃ t, exec (.atomCas is f) s = .next t ∧ AtomDone s1 t is f g p 12)))

/-- R154, R156, R157, R245, R246, R302: a barrier holds its threads until what it orders is performed; completion lets them go, and is an acquire unless it orders only stores; SYNC.SIGNAL, POST and BAR.ARRIVE release first
and then operate; the waits hold their threads and take one of the core's 128 wait entries. Where exec answers a next state, under conditions on the state and the operands alone, is said of: barLd, barSt, barFull,
barrierComplete, syncSignal, syncPost, syncBarArrive, syncWaitGe, syncWaitEq, syncWaitDec, syncBarWait. -/
def Obligations.BarriersAndSync : Prop :=
  (∀ (s s1 : State) (is : Issue) (f : FmtO) (g : Group), Issues s is (f.word 0) [] g s1 → f.zero = 0 → f.scope ≤ 4 →
    (∃ th, th < 64 ∧ g.acting is.pc f.guard f.guardNeg th) → ∃ t, exec (.barLd is f) s = .next t ∧ BarrierOpened s1 t is f g 0) ∧
  (∀ (s s1 : State) (is : Issue) (f : FmtO) (g : Group), Issues s is (f.word 1) [] g s1 → f.zero = 0 → f.scope ≤ 4 →
    (∃ th, th < 64 ∧ g.acting is.pc f.guard f.guardNeg th) → ∃ t, exec (.barSt is f) s = .next t ∧ BarrierOpened s1 t is f g 1) ∧
  (∀ (s s1 : State) (is : Issue) (f : FmtO) (g : Group), Issues s is (f.word 2) [] g s1 → f.zero = 0 → f.scope ≤ 4 →
    (∃ th, th < 64 ∧ g.acting is.pc f.guard f.guardNeg th) → ∃ t, exec (.barFull is f) s = .next t ∧ BarrierOpened s1 t is f g 2) ∧
  (∀ (s : State) (bar : Nat) (b : Bar), s.l2.bars.get? bar = some b → s.barMet bar b = true → b.store = none → b.sync = none →
    ∃ t, exec (.barrierComplete bar) s = .next t ∧ t.l2.bars.get? bar = none ∧
      (∀ g, (s.core b.core).groups.get? b.slot = some g →
        (t.core b.core).groups.get? b.slot = some { g with waiting := natAndNot 64 g.waiting b.threads }) ∧
      (b.kind ≠ 1 → 2 ≤ b.scope → (t.core b.core).l1 = [] ∧ (t.core b.core).scl = [] ∧ (t.core b.core).victim = []) ∧
      (b.kind = 1 ∨ b.scope < 2 → (t.core b.core).l1 = (s.core b.core).l1) ∧ t.mem = s.mem) ∧
  (∀ (s : State) (bar : Nat) (b : Bar) (l : List (Acc × List Byte)), s.l2.bars.get? bar = some b → s.barMet bar b = true → b.store = some l →
    exec (.barrierComplete bar) s = .next ((State.storePieces { s with l2.bars := s.l2.bars.del bar } b.core b.slot
      (b.storer s.l2.nextId) l).reapGroup b.core b.slot)) ∧
  (∀ (s : State) (bar h : Nat) (b : Bar) (m : SynMsg), s.l2.bars.get? bar = some b → s.barMet bar b = true → b.store = none → b.sync = some (m, h) →
    handleChip h s.fab.chipId = none →
    exec (.barrierComplete bar) s = .next { s with l2.bars := s.l2.bars.del bar, syn.inbound := s.syn.inbound ++ [m] }) ∧
  (∀ (s : State) (bar : Nat) (b : Bar), s.l2.bars.get? bar = some b → s.barMet bar b = false → exec (.barrierComplete bar) s = .next s) ∧
  (∀ (s s1 : State) (is : Issue) (f : FmtY) (g : Group) (m : SynMsg) (b : Bar), SyncReleases s s1 is f g m b 0 true →
    (s1.barMet s1.l2.nextId b = true → ∃ t, exec (.syncSignal is f) s = .next t ∧ WentOn t is g ∧ t.syn.inbound = s1.syn.inbound ++ [m] ∧
      t.l2.bars = s1.l2.bars ∧ t.l2.loads = s1.l2.loads ∧ t.mem = s1.mem) ∧
    (s1.barMet s1.l2.nextId b = false → ∃ t, exec (.syncSignal is f) s = .next t ∧ WentOn t is g ∧ t.syn.inbound = s1.syn.inbound ∧
      t.l2.bars.get? s1.l2.nextId = some b ∧ t.mem = s1.mem)) ∧ (∀ (s s1 : State) (is : Issue) (f : FmtY) (g : Group) (m : SynMsg) (b : Bar), SyncReleases s s1 is f g m b 3 true →
    (s1.barMet s1.l2.nextId b = true → ∃ t, exec (.syncPost is f) s = .next t ∧ WentOn t is g ∧ t.syn.inbound = s1.syn.inbound ++ [m] ∧
      t.l2.bars = s1.l2.bars ∧ t.l2.loads = s1.l2.loads ∧ t.mem = s1.mem) ∧
    (s1.barMet s1.l2.nextId b = false → ∃ t, exec (.syncPost is f) s = .next t ∧ WentOn t is g ∧ t.syn.inbound = s1.syn.inbound ∧
      t.l2.bars.get? s1.l2.nextId = some b ∧ t.mem = s1.mem)) ∧ (∀ (s s1 : State) (is : Issue) (f : FmtY) (g : Group) (m : SynMsg) (b : Bar), SyncReleases s s1 is f g m b 5 false →
    (s1.barMet s1.l2.nextId b = true → ∃ t, exec (.syncBarArrive is f) s = .next t ∧ WentOn t is g ∧ t.syn.inbound = s1.syn.inbound ++ [m] ∧
      t.l2.bars = s1.l2.bars ∧ t.l2.loads = s1.l2.loads ∧ t.mem = s1.mem) ∧
    (s1.barMet s1.l2.nextId b = false → ∃ t, exec (.syncBarArrive is f) s = .next t ∧ WentOn t is g ∧ t.syn.inbound = s1.syn.inbound ∧
      t.l2.bars.get? s1.l2.nextId = some b ∧ t.mem = s1.mem)) ∧
  (∀ (s s1 : State) (is : Issue) (f : FmtY) (g : Group), SyncLocal s s1 is f g 1 true → (s1.core is.core).waits < 128 →
    ∃ t, exec (.syncWaitGe is f) s = .next t ∧ SyncWaits s1 t is f g 1 true) ∧ (∀ (s s1 : State) (is : Issue) (f : FmtY) (g : Group), SyncLocal s s1 is f g 2 true → (s1.core is.core).waits < 128 →
    ∃ t, exec (.syncWaitEq is f) s = .next t ∧ SyncWaits s1 t is f g 2 true) ∧ (∀ (s s1 : State) (is : Issue) (f : FmtY) (g : Group), SyncLocal s s1 is f g 4 false → (s1.core is.core).waits < 128 →
    ∃ t, exec (.syncWaitDec is f) s = .next t ∧ SyncWaits s1 t is f g 4 false) ∧ (∀ (s s1 : State) (is : Issue) (f : FmtY) (g : Group), SyncLocal s s1 is f g 6 true → (s1.core is.core).waits < 128 →
    ∃ t, exec (.syncBarWait is f) s = .next t ∧ SyncWaits s1 t is f g 6 true)

/-- R146, R209, R210, R243, R245: a load whose lines are all there writes its registers in its threads and ends; poison in a thread's bytes ends the context with 0x03 and writes nothing; an entry of the store buffer leaves
in its line's order, for its home, for another chip or for the host. Where exec answers a next state, under conditions on the state and the operands alone, is said of: loadResponse, storeBufferDrain. -/
def Obligations.LoadResponsesAndDrains : Prop :=
  (∀ (s : State) (id : Nat) (l : Load) (g : Group), s.l2.loads.get? id = some l → (s.core l.core).groups.get? l.slot = some g →
    (∀ k ∈ accKeys l.accs, l.got.has k = true) → (∀ a ∈ l.accs, a.thread < 64) → (∀ a ∈ l.accs, (s.core l.core).accBroken l.slot a = false) →
    (l.kind = 0 → (∀ a ∈ l.accs, l.badAcc a = false) →
      ∃ t h, exec (.loadResponse id 0) s = .next t ∧ t.l2.loads.get? id = none ∧ (t.core l.core).groups.get? l.slot = some h ∧ h.s = g.s ∧ h.p = g.p ∧
        h.pcs = g.pcs ∧
        (∀ r th, th < 64 → h.vreg r th = if (∃ a ∈ l.accs, a.thread = th) ∧ l.dst ≤ r ∧ r < l.dst + regsOfBytes l.bytes
          then l.extend (l.value th) / 2 ^ (32 * (r - l.dst)) % 2 ^ 32 else g.vreg r th) ∧
        (l.acquire < 2 → ∀ c, (t.core c).l1 = (s.core c).l1) ∧ (2 ≤ l.acquire → (t.core l.core).l1 = []) ∧ t.mem = s.mem ∧ t.free = s.free) ∧
    (l.kind = 1 → (∀ a ∈ l.accs, l.badAcc a = false) → l.accs ≠ [] →
      ∃ t h, exec (.loadResponse id 0) s = .next t ∧ t.l2.loads.get? id = none ∧ (t.core l.core).groups.get? l.slot = some h ∧ h.v = g.v ∧ h.p = g.p ∧
        (l.bytes = 8 → h.sreg l.dst = l.value ((l.accs.map (fun a => a.thread)).headD 0) % 2 ^ 64) ∧
        (l.bytes < 8 → h.sreg l.dst % 2 ^ 32 = l.extend (l.value ((l.accs.map (fun a => a.thread)).headD 0)) % 2 ^ 32) ∧
        (∀ r, r ≠ l.dst → h.sreg r = g.sreg r) ∧ t.mem = s.mem) ∧
    (∀ a, l.kind < 2 → l.accs.find? l.badAcc = some a → g.faulted = false → (s.q g.queue).state = .running →
      ∃ t, exec (.loadResponse id 0) s = .next t ∧ Killed t g.queue 0x03 ∧ t.l2.loads.get? id = none ∧
        (∃ h, (t.core l.core).groups.get? l.slot = some h ∧ h.v = g.v ∧ h.s = g.s ∧ h.faulted = true) ∧ t.mem = s.mem)) ∧
  (∀ (s : State) (core seq : Nat) (e : SbEntry), (s.core core).sb.find? (fun e => decide (e.seq = seq)) = some e → s.mayLeave core e = true →
    s.lineOlder core e = false →
    (e.target = 0 → e.left = false →
      exec (.storeBufferDrain core seq) s =
        .next (s.modCore core (fun k => { k with sb := k.sb.map (fun o => if o.seq = seq then { o with left := true } else o) }))) ∧
    (e.target = 2 → s.hostOpen (fnOfQueue e.queue) (128 * e.line) true = true →
      exec (.storeBufferDrain core seq) s =
        .next (e.runs.foldl (fun s r => s.hostWrite r.1 r.2) (s.modCore core (fun k => { k with sb := k.sb.filter (fun o => !decide (o.seq = seq)) })))) ∧
    (e.target = 1 → e.left = false → s.fab.reqs.length + e.runs.length ≤ 16384 → s.num E.fnFabKey (fnOfQueue e.queue) ≠ 0 →
      (∀ r ∈ e.runs, s.reaches (bits r.1 59 48) = true) →
      ∃ t, exec (.storeBufferDrain core seq) s = .next t ∧ (∀ o ∈ (t.core core).sb, o.seq = seq → o.left = true) ∧
        (t.q e.queue).killCode = (s.q e.queue).killCode ∧ t.mem = s.mem)) ∧
  (∀ (s : State) (core seq : Nat) (e : SbEntry), (s.core core).sb.find? (fun e => decide (e.seq = seq)) = some e →
    s.mayLeave core e = false ∨ s.lineOlder core e = true → exec (.storeBufferDrain core seq) s = .next s)

/-- R165, R168, R171, R174 to R180: each matrix instruction that its checks accept enters the queue of its core with its operands and the group goes on, but for MX.RD, whose threads wait; from a block that does not hold the
array it ends the context with 0x0B. Where exec answers a next state, under conditions on the state and the operands alone, is said of: mxCfg, mxLdw, mxSwap, mxStream, mxRd, mxClr. -/
def Obligations.MatrixAcceptance : Prop :=
  (∀ (s s1 : State) (is : Issue) (f : FmtMx) (g : Group), MatrixIssues s s1 is f 0xC0 [f.sa] g → f.sa < 64 → f.sb = 0 → f.sc = 0 → f.zero = 0 →
    f.ctl = 0 → cfgOk (g.sreg f.sa) = true →
    ∃ t, exec (.mxCfg is f) s = .next t ∧ WentOn t is g ∧ t.mem = s1.mem ∧
      (t.core is.core).mx = { (s1.core is.core).mx with queue := (s1.core is.core).mx.queue ++ [{ mxEntry is g f 0 with id := s1.l2.nextId, addr := g.sreg f.sa }] }) ∧
  (∀ (s s1 : State) (is : Issue) (f : FmtMx) (g : Group), MatrixIssues s s1 is f 0xC1 [f.sa, f.sb, f.sc] g → f.sa < 64 → f.sb < 64 → f.sc < 64 →
    f.zero = 0 → f.ctl < 4 → g.sreg f.sc < 2 ^ 32 → g.sreg f.sa % 16 = 0 → g.sreg f.sc % 16 = 0 →
    (∀ w, (s1.core is.core).mx.aheadShadow = some w → (cfgMxW w = true ∨ f.sb = 0) ∧
      ((issueOf is g f.guard f.guardNeg).ranges s1 (bit f.ctl 0) .read
        (ldwRanges w (g.sreg f.sa) (g.sreg f.sc) (g.sreg f.sb) (bit f.ctl 1))).code = 0) →
    ∃ t, exec (.mxLdw is f) s = .next t ∧ WentOn t is g ∧ t.mem = s1.mem ∧
      (t.core is.core).mx.queue = (s1.core is.core).mx.queue ++
        [{ mxEntry is g f 1 with id := s1.l2.nextId, addr := g.sreg f.sa, stride := g.sreg f.sc, scale := g.sreg f.sb }]) ∧
  (∀ (s s1 : State) (is : Issue) (f : FmtMx) (g : Group), MatrixIssues s s1 is f 0xC2 [] g → f.sa = 0 → f.sb = 0 → f.sc = 0 → f.zero = 0 → f.ctl = 0 →
    ∃ t, exec (.mxSwap is f) s = .next t ∧ WentOn t is g ∧ t.mem = s1.mem ∧
      (t.core is.core).mx.queue = (s1.core is.core).mx.queue ++ [{ mxEntry is g f 2 with id := s1.l2.nextId }]) ∧
  (∀ (s s1 : State) (is : Issue) (f : FmtMx) (g : Group), MatrixIssues s s1 is f 0xC3 [f.sa, f.sb, f.sc] g → f.sa < 64 → f.sb < 64 → f.sc < 64 →
    f.zero = 0 → f.ctl < 3 → g.sreg f.sa < 2 ^ 32 → g.sreg f.sc < 2 ^ 32 → g.sreg f.sa % 16 = 0 → g.sreg f.sc % 16 = 0 →
    rowWordOk (g.sreg f.sb) 1 = true →
    (∀ w, (s1.core is.core).mx.aheadActive = some w → (cfgMxA w = true ∨ g.sreg f.sb < 2 ^ 32) ∧
      ((issueOf is g f.guard f.guardNeg).ranges s1 true .read
        (streamRanges w (g.sreg f.sa) (g.sreg f.sc) (g.sreg f.sb / 2 ^ 32) (rowsOf (g.sreg f.sb)))).code = 0) →
    ∃ t, exec (.mxStream is f) s = .next t ∧ WentOn t is g ∧ t.mem = s1.mem ∧
      (t.core is.core).mx.queue = (s1.core is.core).mx.queue ++
        [{ { mxEntry is g f 3 with id := s1.l2.nextId, base := bits (g.sreg f.sb) 9 0, rows := bits (g.sreg f.sb) 26 16 } with
             addr := g.sreg f.sa, stride := g.sreg f.sc, scale := g.sreg f.sb / 2 ^ 32 }]) ∧
  (∀ (s s1 : State) (is : Issue) (f : FmtMx) (g : Group), MatrixIssues s s1 is f 0xC4 [f.sa, f.sb, f.sc] g → f.sa < 64 → f.sb < 64 → f.sc < 64 →
    f.zero = 0 → f.ctl < 2 ^ 11 → bits f.ctl 7 6 < 2 → bits f.ctl 5 1 ∈ rdTypes → rdTypeOk f.ctl = true → rowWordOk (g.sreg f.sb) 0 = true →
    g.sreg f.sb < 2 ^ 32 → (bits (g.sreg f.sb) 26 16 = 0 → f.sa = 0 ∧ f.sc = 0) →
    (bits (g.sreg f.sb) 26 16 ≠ 0 → g.sreg f.sc < 2 ^ 32 ∧ g.sreg f.sa % 16 = 0 ∧ g.sreg f.sc % 16 = 0 ∧ rdRowBytes f.ctl ≤ g.sreg f.sc) →
    (s1.q g.queue).state ≠ .resetting →
    ((issueOf is g f.guard f.guardNeg).ranges s1 (bit f.ctl 0) .write
      (rdRanges f.ctl (g.sreg f.sa) (g.sreg f.sc) (rowsOf (g.sreg f.sb)))).code = 0 →
    ∃ t h, exec (.mxRd is f) s = .next t ∧ t.mem = s1.mem ∧ (t.core is.core).groups.get? is.slot = some h ∧
      h.waiting = natOr 64 g.waiting (g.issueMask is.pc) ∧ h.v = g.v ∧ h.s = g.s ∧ h.p = g.p ∧
      (t.core is.core).mx.queue = (s1.core is.core).mx.queue ++
        [{ mxEntry is g f 4 with id := s1.l2.nextId, addr := g.sreg f.sa, stride := g.sreg f.sc, base := bits (g.sreg f.sb) 9 0, rows := bits (g.sreg f.sb) 26 16 }]) ∧
  (∀ (s s1 : State) (is : Issue) (f : FmtMx) (g : Group), MatrixIssues s s1 is f 0xC5 [f.sb] g → f.sb < 64 → f.sa = 0 → f.sc = 0 → f.zero = 0 →
    f.ctl = 0 → rowWordOk (g.sreg f.sb) 1 = true → g.sreg f.sb < 2 ^ 32 →
    ∃ t, exec (.mxClr is f) s = .next t ∧ WentOn t is g ∧ t.mem = s1.mem ∧
      (t.core is.core).mx.queue = (s1.core is.core).mx.queue ++
        [{ mxEntry is g f 5 with id := s1.l2.nextId, base := bits (g.sreg f.sb) 9 0, rows := bits (g.sreg f.sb) 26 16 }]) ∧
  (∀ (s s1 : State) (is : Issue) (f : FmtMx) (g : Group), Issues s is (f.word 0xC2) [] g s1 → f.sa = 0 → f.sb = 0 → f.sc = 0 → f.zero = 0 →
    f.ctl = 0 → g.acting is.pc f.guard f.guardNeg (g.first is.pc) → ¬ s1.arrayHeld is → (s1.q g.queue).state = .running →
    ∃ t, exec (.mxSwap is f) s = .next t ∧ Killed t g.queue 0x0B)

/-- R169, R172, R176 to R180, R187, Table 7.3: entries start in the order of Table 7.3; MX.SWAP exchanges the sets at its start; a set that is unconfigured ends the context; MX.CFG configures the shadow set, MX.LDW loads it,
MX.CLR clears its rows, MX.RD stores its rows and lets its threads go; a row that passes updates one accumulator row of 64 words and no other, and a window admits no more rows than its limit. Where exec answers a next
state, under conditions on the state and the operands alone, is said of: mxInstrStart, mxInstrComplete, mxLimiterWindow. -/
def Obligations.MatrixWork : Prop :=
  (∀ (s : State) (core index : Nat) (o : MxOp) (g : Group), s.mxAt core index o g → o.mayStart ((s.core core).mx.queue.take index) = true →
    (o.kind = 2 → g.live ≠ 0 → ∃ t, exec (.mxInstrStart core index) s = .next t ∧ (t.core core).mx.active = 1 - (s.core core).mx.active ∧
      (t.core core).mx.queue = dropAt (s.core core).mx.queue index ∧ (t.core core).mx.sets = (s.core core).mx.sets ∧
      (t.core core).mx.acc = (s.core core).mx.acc) ∧
    (o.kind = 3 → ∀ w, ((s.core core).mx.setOf (s.core core).mx.active).config = some w →
      exec (.mxInstrStart core index) s = .next (s.modMx core (fun m =>
        { m with queue := m.queue.set index { o with started := true, set := m.active } }))) ∧
    (o.kind = 3 → ((s.core core).mx.setOf (s.core core).mx.active).config = none → (s.q g.queue).state = .running →
      ∃ t, exec (.mxInstrStart core index) s = .next t ∧ Killed t g.queue 0x0B) ∧
    (o.kind = 0 ∨ o.kind = 4 ∨ o.kind = 5 →
      exec (.mxInstrStart core index) s = .next (s.modMx core (fun m =>
        { m with queue := m.queue.set index { o with started := true, set := 1 - m.active } }))) ∧
    (o.kind = 1 → ∀ w l, ((s.core core).mx.setOf (1 - (s.core core).mx.active)).config = some w →
      (o.iss core g).ranges s (bit o.ctl 0) .read (ldwRanges w o.addr o.stride o.scale (bit o.ctl 1)) = .ok l → (∀ a ∈ l, a.target ≠ 1) →
      ∃ t x, exec (.mxInstrStart core index) s = .next t ∧ t.l2.loads.get? s.l2.nextId = some x ∧ x.kind = 4 ∧ x.accs = l ∧
        (t.core core).mx.queue = (s.core core).mx.queue.set index
          { o with started := true, set := 1 - (s.core core).mx.active, load := some s.l2.nextId } ∧ t.mem = s.mem)) ∧
  (∀ (s : State) (core index : Nat) (o : MxOp) (g : Group), s.mxAt core index o g → o.started = true →
    (o.kind = 0 → g.live ≠ 0 → ∃ t, exec (.mxInstrComplete core index) s = .next t ∧ ((t.core core).mx.setOf o.set).configured = true ∧
      ((t.core core).mx.setOf o.set).cfg = o.addr ∧ (t.core core).mx.queue = dropAt (s.core core).mx.queue index ∧
      (t.core core).mx.acc = (s.core core).mx.acc) ∧
    (o.kind = 1 → g.live ≠ 0 → ∀ id l, o.load = some id → s.l2.loads.get? id = some l → (∀ k ∈ accKeys l.accs, l.got.has k = true) →
      (∀ a ∈ l.accs, l.badAcc a = false ∧ (s.core core).accBroken o.slot a = false) →
      ∃ t, exec (.mxInstrComplete core index) s = .next t ∧ t.l2.loads.get? id = none ∧
        (t.core core).mx.setOf o.set = ((s.core core).mx.setOf o.set).loadTile o l ∧ (t.core core).mx.acc = (s.core core).mx.acc) ∧
    (o.kind = 3 → o.entered < o.rows → exec (.mxInstrComplete core index) s = .next s) ∧
    (o.kind = 3 → o.rows ≤ o.entered → ∃ t, exec (.mxInstrComplete core index) s = .next t ∧
      (t.core core).mx.queue = dropAt (s.core core).mx.queue index ∧ (t.core core).mx.acc = (s.core core).mx.acc) ∧
    (o.kind = 5 → ∃ t, exec (.mxInstrComplete core index) s = .next t ∧ (t.core core).mx.queue = dropAt (s.core core).mx.queue index ∧
      (∀ k, o.base * 64 ≤ k → k < (o.base + o.rows) * 64 → (t.core core).mx.acc.getD k 0#32 = 0#32) ∧
      (∀ k, k < o.base * 64 ∨ (o.base + o.rows) * 64 ≤ k → (t.core core).mx.acc.getD k 0#32 = (s.core core).mx.acc.getD k 0#32)) ∧
    (o.kind = 4 → index = 0 → ∀ l keys, (o.iss core g).ranges s (bit o.ctl 0) .write (rdRanges o.ctl o.addr o.stride o.rows) = .ok l →
      (s.sendCode (fnOfQueue g.queue) l).2.1 = 0 → g.live ≠ 0 → keys = (accKeys l).filter (fun k => !decide (keyTarget k = 3)) →
      s.sbRoom core keys (s.lineLoads core o.slot o.threads keys) 0 = true →
      ∃ t h, exec (.mxInstrComplete core index) s = .next t ∧ (t.core core).groups.get? o.slot = some h ∧
        h.waiting = natAndNot 64 g.waiting o.threads ∧ (t.core core).mx.queue = dropAt (s.core core).mx.queue 0 ∧
        (t.core core).sb = ((s.storePieces core o.slot { queue := g.queue, node := g.node, slot := o.slot, after := 0, holdLoads := s.lineLoads core o.slot o.threads keys }
          (l.map (fun a => (a, (((s.core core).mx.readRow o.ctl (o.base + (a.va - o.addr) / o.stride)).drop a.off).take a.n)))).core core).sb ∧
        t.mem = s.mem)) ∧
  (∀ (s : State) (core ready steps a n : Nat), core < 384 → a = (s.rampWindow core).admitOf (core / 24) →
    n = min (min 64 (min ready (s.core core).mx.rowsLeft)) a → (s.core core).mx.rows < 2 ^ 64 →
    (∀ o ∈ (s.core core).mx.queue, s.groupFaulted core o.slot = false) → (∀ b ∈ (s.core core).blocks.vals, b.scratchBad = []) →
    ∃ t, exec (.mxLimiterWindow core ready steps) s = .next t ∧ (t.core core).mx.window = n ∧ n ≤ a ∧
      (t.core core).mx.rows = ((s.core core).mx.rows + n) % 2 ^ 64 ∧
      (t.core core).mx.held = ((s.core core).mx.held + (if n < min 64 (min ready (s.core core).mx.rowsLeft) then min 64 steps else 0)) % 2 ^ 64) ∧
  (∀ (m : Mx) (set mode r : Nat) (row sc : List Nat) (k n : Nat), n < 64 →
    ((m.passRow set mode r row sc).acc.getD (k * 64 + n) 0#32 = if k = r then
      BitVec.ofNat 32 (accUpdate (decide (cfgClass (m.setOf set).cfg = 2 ∨ cfgClass (m.setOf set).cfg = 4) && !cfgMxA (m.setOf set).cfg &&
        !cfgMxW (m.setOf set).cfg) mode (m.acc.getD (r * 64 + n) 0#32).toNat ((m.setOf set).sum n row sc)) else m.acc.getD (k * 64 + n) 0#32))

/-- R105, R125, R214, R215: at a second residue failure in one half a core stops its groups and has its blocks saved; once it is empty a core with field_narrowing comes back narrow on the other half, its scalar cache
disabled and its epoch one higher, and any other core has failed. R120, R157, R231, R286, R287: an ending context's groups stop on every core; once they have and their atomics are performed, nothing of the queue is left
on the cores, in the caches' books or at the barriers; the skip walk ends the queue as KILLED with its read pointer at the end of the walk and nothing of it left at the front end. Where exec answers a next state, under
conditions on the state and the operands alone, is said of: coreLaneNarrowing, coreNarrowingComplete, coreGroupsStop, coreKillSettled, skipWalk. -/
def Obligations.NarrowingAndKills : Prop :=
  ((∀ (s : State) (core half : Nat), (s.core core).state = 0 → (s.core core).retry = some half →
    ∃ t, exec (.coreLaneNarrowing core half) s = .next t ∧
      (t.core core).state = 2 ∧ (t.core core).failing = !(decide (s.num E.fieldNarrowing = 1) && decide ((s.core core).narrow = 0)) ∧ (t.core core).retry = none ∧
      (∀ slot g, (s.core core).groups.get? slot = some g → (t.core core).groups.get? slot = some { g with stopped := true }) ∧
      (∀ key b, (s.core core).blocks.get? key = some b → b.saving = none → (t.core core).blocks.get? key = some { b with saving := some [] }) ∧
      (∀ c, c ≠ core → t.core c = s.core c) ∧ t.mem = s.mem) ∧
  (∀ (s : State) (core half : Nat), (s.core core).retry ≠ some half → exec (.coreLaneNarrowing core half) s = .next s) ∧
  (∀ (s : State) (core : Nat), (s.core core).state = 2 → (s.core core).blocks = [] → (s.core core).failing = false →
    ∃ t, exec (.coreNarrowingComplete core) s = .next t ∧ (t.core core).state = 0 ∧ (t.core core).narrow = 2 ∧
      (t.core core).epoch = ((s.core core).epoch + 1) % 2 ^ 32 ∧ (t.core core).sclEnable = false ∧ bit t.l2.sclDisabled core = true ∧
      bit t.l2.status 7 = true ∧ t.num E.coresNarrowed = (s.num E.coresNarrowed + 1) % 2 ^ 16 ∧ (∀ c, c ≠ core → t.core c = s.core c) ∧ t.mem = s.mem) ∧
  (∀ (s : State) (core : Nat), (s.core core).state = 2 → (s.core core).blocks = [] → (s.core core).failing = true →
    exec (.coreNarrowingComplete core) s = .next (s.modCore core (fun k => { k with state := 3, failing := false }))) ∧
  (∀ (s : State) (core : Nat), (s.core core).state = 2 → (s.core core).blocks ≠ [] → exec (.coreNarrowingComplete core) s = .next s)) ∧
  ((∀ (s : State) (q : Nat), (s.q q).state = .killing ∨ (s.q q).state = .resetting →
    ∃ t, exec (.coreGroupsStop q) s = .next t ∧ (∀ c slot g, (t.core c).groups.get? slot = some g → g.queue = q → g.stopped = true) ∧
      (∀ c slot g, (s.core c).groups.get? slot = some g → g.queue ≠ q → (t.core c).groups.get? slot = some g) ∧ 
      (∀ id e n, t.fe.engines.get? id = some e → s.fe.nodes.get? e.node = some n → n.queue = q → e.stopped = true) ∧
      t = { s with cores := t.cores, fe.engines := t.fe.engines }) ∧
  (∀ (s : State) (q : Nat), s.ending q = true → (s.q q).settled = false → s.groupsStopped q = true → s.unitGoes 10 q (coreKillSettled q) →
    ∃ t, exec (.coreKillSettled q) s = .next t ∧ (t.q q).settled = true ∧ (∀ l ∈ t.l2.loads.vals, l.queue ≠ q) ∧ (∀ a ∈ t.l2.atoms.vals, a.queue ≠ q) ∧
      (∀ b ∈ t.l2.bars.vals, b.queue ≠ q)) ∧
  (∀ (s u v : State) (q : Nat), (s.q q).state = .killing → (s.q q).settled = true → s.unitGoes 11 q (Sys2Proof.Machine.skipWalk q) →
    walkAll (fun s => s.walkRead q) walkFuel s = .over u → walkAll (fun s => s.walkSkip q) walkFuel u = .over v →
    ∃ t, exec (.skipWalk q) s = .next t ∧ (t.q q).state = .killed ∧
      (t.q q).read = (if (v.q q).killInFlight then (v.q q).fetch else (v.q q).killWrite) ∧ (t.q q).fetch = (t.q q).read ∧
      (t.q q).savedBlocks = [] ∧ (∀ n ∈ t.fe.nodes.vals, n.queue ≠ q) ∧ (∀ l ∈ t.fe.launches.vals, l.queue ≠ q) ∧
      (∀ g ∈ t.fe.graphs.vals, g.queue ≠ q)) ∧
  (∀ (s u : State) (q : Nat), (s.q q).state = .killing → (s.q q).settled = true → s.unitGoes 11 q (Sys2Proof.Machine.skipWalk q) →
    walkAll (fun s => s.walkRead q) walkFuel s = .wait u → exec (.skipWalk q) s = .next (u.unitDone 11 q)) ∧
  (∀ (s u v : State) (q : Nat), (s.q q).state = .killing → (s.q q).settled = true → s.unitGoes 11 q (Sys2Proof.Machine.skipWalk q) →
    walkAll (fun s => s.walkRead q) walkFuel s = .over u → walkAll (fun s => s.walkSkip q) walkFuel u = .wait v →
    exec (.skipWalk q) s = .next (v.unitDone 11 q)))

/-- R121, R122, R123, R290, R291: a block of a queue that is being pre-empted is given its place in the save area and stops; its groups are written to their records; with the block record it leaves the core for the queue's
list of saved blocks; a restore puts a saved block of the core's width back with its groups. Where exec answers a next state, under conditions on the state and the operands alone, is said of: corePreemptRequest,
groupSave, blockSaveComplete, blockRestore. -/
def Obligations.BlockSaveAndRestore : Prop :=
  (∀ (s : State) (core key : Nat) (b : Block), (s.core core).blocks.get? key = some b → (s.q b.queue).state = .preempting → b.saveAddr = none →
    (s.core core).savedSlots b ≠ [] → (∀ sl ∈ b.slots, ∀ g, (s.core core).groups.get? sl = some g → g.faulted = false) →
    64 + s.stillSaved b.queue + (s.core core).blockSaveBytes b ≤ s.qnum E.queueSaveBytes b.queue →
    ∃ t, exec (.corePreemptRequest core key) s = .next t ∧
      (t.core core).blocks.get? key =
        some { b with saving := some [], saveAddr := some (s.qnum E.queueSaveBase b.queue + 64 + s.stillSaved b.queue) } ∧
      (t.q b.queue).saveUsed = s.stillSaved b.queue + (s.core core).blockSaveBytes b ∧
      (∀ sl ∈ (s.core core).savedSlots b, ∀ g, (t.core core).groups.get? sl = some g → g.stopped = true) ∧ t.mem = s.mem ∧ t.l2 = s.l2) ∧
  (∀ (s : State) (core slot key at0 : Nat) (b : Block) (g : Group) (done : List Nat), (s.core core).blockOf slot = some (key, b) →
    (s.core core).groups.get? slot = some g → b.saving = some done → b.saveAddr = some at0 → slot ∉ done → g.live ≠ 0 → g.faulted = false →
    g.stopped = true → (s.q b.queue).state = .preempting → s.groupIdle core slot = true → b.kept = false →
    s.unitGoes 7 (core * 64 + slot) (Sys2Proof.Machine.groupSave core slot) →
    exec (.groupSave core slot) s = .next
      (((s.saveWrite b.queue (at0 + align64 b.recBytes +
          (s.core core).slotBytes (((s.core core).savedSlots b).takeWhile (fun x => !decide (x = slot)))) (g.record s.time.mono)).modCore core
        (fun k => { k with blocks := k.blocks.put key { b with saving := some (done ++ [slot]) } })).unitDone 7 (core * 64 + slot))) ∧
  (∀ (s : State) (core key at0 : Nat) (b : Block) (done : List Nat), (s.core core).blocks.get? key = some b → b.saving = some done →
    b.saveAddr = some at0 → b.slots ≠ [] → (∀ sl ∈ b.slots, sl ∈ done) → (s.q b.queue).state = .preempting →
    (b.matrix = true → (s.core core).mx.queue = []) → (∀ e ∈ (s.core core).sb, e.queue ≠ b.queue) →
    s.unitGoes 8 (core * 64 + key) (Sys2Proof.Machine.blockSaveComplete core key) →
    ∃ t x, exec (.blockSaveComplete core key) s = .next t ∧ (t.core core).blocks.get? key = none ∧
      (∀ sl ∈ b.slots, (t.core core).groups.get? sl = none) ∧ x ∈ (t.q b.queue).savedBlocks ∧ x.node = b.node ∧ x.block = b.block ∧
      x.groups = b.slots.length ∧ x.addr = at0 ∧ x.width = (if (s.core core).narrow = 0 then 32 else 64)) ∧
  (∀ (s : State) (q core : Nat) (x : SavedBlock) (n : Node) (l : Launch) (r : List Byte) (gs : List Group),
    (s.q q).state = .running → s.mayRun (fnOfQueue q) = true → (s.core core).state = 0 → core ∈ s.coresOf (s.fnPart (fnOfQueue q)) →
    (s.q q).savedBlocks.find? (fun b => decide (b.width = if (s.core core).narrow = 0 then 32 else 64)) = some x →
    s.fe.nodes.get? x.node = some n → s.fe.launches.get? x.node = some l → l.matrix = false →
    s.readSaved (fnOfQueue q) x 0 (64 + l.scratch) = .bytes r → fieldAt r 0 1 = 1 →
    s.readGroups (fnOfQueue q) x n q x.node x.block (!decide ((s.core core).narrow = 0)) x.groups (align64 (64 + l.scratch)) = .ok gs →
    (s.core core).hasRoom (gs.map Group.vregs) l.scratch false = true →
    ∃ t b, exec (.blockRestore q core) s = .next t ∧ (t.core core).blocks.get? (s.core core).blocks.fresh = some b ∧ b.node = x.node ∧
      b.block = x.block ∧ b.scratchBytes = l.scratch ∧ b.slots = (s.core core).freeSlots.take gs.length ∧ x ∉ (t.q q).savedBlocks ∧
      (t.core core).l1 = [] ∧ (t.core core).icache = [] ∧ t.mem = s.mem)

/-- R122, R123, Table 5.7: reading a group's save record back gives the group: who is live, waits or has yielded, and every pc, vector register, scalar register and predicate. -/
def Obligations.SavedGroupReturns : Prop :=
  ∀ (g : Group) (n : Node) (q node block now : Nat), g.width = 32 ∨ g.width = 64 → g.vregs % 8 = 0 → 0 < g.vregs → g.vregs ≤ 256 → g.inBlock < 64 →
    g.live < 2 ^ g.width → g.gbar < 2 ^ g.width → g.yielded < 2 ^ g.width → g.layer < 2 ^ 24 → g.operator < 2 ^ 16 →
    (∀ t, t < g.width → g.pcs.getD t 0 < 2 ^ 57) →
    ∃ h, groupOfRec n q node block now (decide (g.width = 64)) (g.record now) = .ok h ∧ h.width = g.width ∧ h.vregs = g.vregs ∧ h.inBlock = g.inBlock ∧
      h.live = g.live ∧ h.gbar = g.gbar ∧ h.yielded = g.yielded ∧ h.layer = g.layer ∧ h.operator = g.operator ∧
      (∀ t, t < g.width → h.pcs.getD t 0 = g.pcs.getD t 0) ∧ (∀ r t, r < g.vregs → t < g.width → h.vreg r t = g.vreg r t) ∧
      (∀ r, r < 64 → h.sreg r = g.sreg r) ∧ (∀ r t, r < 8 → t < g.width → h.pred r t = g.pred r t)

/-- R46, R87, R88, R89, R90, R210, R216, R219, R222, R223, R226, R228, R230: a replica that hits serves a load whatever the home does; a home serves a load with the line at its point of coherence, and installs a replica
where the partition asks for it; it merges a store into the line and makes it D, executes an atomic on it, and answers NACK while its entry is busy with another; a granule that its check finds uncorrectable becomes
poison; a store to a line of which a tied member holds a copy first sends the invalidation; a request that was refused waits twice as long, up to 256 steps, and starves after eight; an atomic for the newt and a
non-allocating write change the bytes at the banks; a write-back makes the line clean. Where exec answers a next state, under conditions on the state and the operands alone, is said of: homeRead, homeStore, homeAtomic,
farAtomic, nonAllocatingWrite, newtReadWriteback, nackRetry, replicaDropNotice. -/
def Obligations.HomeRequests : Prop :=
  (∀ (s : State) (id line : Nat) (chk : L2Check) (l : Load) (r : LineCopy), s.l2.loads.get? id = some l → s.readDue id l line = true → l.fwd = [] →
    s.waitsRetry line (.load id) = false → s.replicaHit line (l.core / 24) = some r → r.data.length = 128 → s.tableRoom →
    ∃ t x, exec (.homeRead id line chk) s = .next t ∧ t.l2.loads.get? id = some x ∧ x.got.get? (lineKey 0 line) = some r.data ∧
      x.accs = l.accs ∧ t.l2.dir = s.l2.dir ∧ t.mem = s.mem) ∧
  (∀ (s : State) (id line : Nat) (chk : L2Check) (l : Load) (d : Dir), s.l2.loads.get? id = some l → s.readDue id l line = true → l.fwd = [] →
    s.homeServes line (.load id) → s.heldLine line = some d → d.data.length = 128 → s.tableRoom →
    (s.straightHome line (l.core / 24) = true →
      ∃ t x e, exec (.homeRead id line chk) s = .next t ∧ t.l2.loads.get? id = some x ∧ x.got.get? (lineKey 0 line) = some d.data ∧
        x.accs = l.accs ∧ t.l2.dir.get? line = some e ∧ e.rsw = true ∧ e.data = d.data ∧
        e.poison = (if chk.bad % 256 = 0 then d.poison else natOr 8 d.poison chk.bad) ∧
        (e.poison ≠ 0 → x.bad.get? (lineKey 0 line) = some e.poison) ∧ t.mem = s.mem) ∧
    (∀ sl w, s.straightHome line (l.core / 24) = false → s.l2.replicas.get? (replicaKey (l.core / 24) line) = none → s.installs line = true →
      s.replicaSlice line (l.core / 24) = some sl → s.freeWay sl (setOf line) 0 16 = some w →
      ∃ t x e c, exec (.homeRead id line chk) s = .next t ∧ t.l2.loads.get? id = some x ∧ x.got.get? (lineKey 0 line) = some d.data ∧
        t.l2.dir.get? line = some e ∧ bit e.sharers (l.core / 24) = true ∧ t.l2.replicas.get? (replicaKey (l.core / 24) line) = some c ∧
        c.data = d.data ∧ c.slice = sl ∧ c.way = w ∧ t.mem = s.mem)) ∧
  (∀ (s : State) (id line : Nat) (chk : L2Check) (l : Load) (d : Dir) (b : Nat × Client), s.l2.loads.get? id = some l → s.readDue id l line = true →
    s.waitsRetry line (.load id) = false → s.replicaHit line (l.core / 24) = none → s.l2.dir.get? line = some d → d.busy = some b → b.2 ≠ .load id →
    ∃ t e, exec (.homeRead id line chk) s = .next t ∧ t.l2.nacked = s.l2.nacked ++ [e] ∧ e.line = line ∧ e.who = .load id ∧ e.count = 1 ∧ e.interval = 16 ∧
      e.starving = false ∧ t.l2.nacks = (s.l2.nacks + 1) % 2 ^ 32 ∧ t.l2.setFull = s.l2.setFull ∧ t.l2.loads = s.l2.loads ∧ t.l2.dir = s.l2.dir ∧ t.mem = s.mem) ∧
  (∀ (s : State) (c seq : Nat) (chk : L2Check) (e : SbEntry) (d : Dir), s.storeDue c seq = some e → s.homeServes e.line (.store c seq) →
    s.heldLine e.line = some d →
    (d.sharers / 2 ^ 16 = 0 →
      ∃ t x, exec (.homeStore c seq chk) s = .next t ∧ t.l2.dir.get? e.line = some x ∧ x.state = .d ∧ x.sharers = 0 ∧ x.rsw = false ∧
        x.data = mergeLine d.data e.data e.mask ∧ (∀ o ∈ (t.core c).sb, o.seq ≠ seq) ∧
        (∀ p, t.l2.replicas.get? (replicaKey p e.line) = none ∨ 2 ^ 41 ≤ e.line) ∧ t.mem = s.mem) ∧
    (d.sharers / 2 ^ 16 ≠ 0 →
      ∃ t, exec (.homeStore c seq chk) s = .next t ∧ t.l2.dir.get? e.line = some { d with busy := some (s.time.mono, .store c seq) } ∧
        t.fab.answers = (s.tellCopies e.line d.sharers).fab.answers ∧ t.cores = s.cores ∧ t.mem = s.mem)) ∧
  (∀ (s : State) (id : Nat) (chk : L2Check) (a : Atom) (x : Acc) (d : Dir) (g : Group), s.l2.atoms.get? id = some a → a.accs = [x] → a.olds = [] → a.sent = 0 →
    a.far = false → x.target = 0 → x.thread < 64 → x.n = a.bytes → x.pa % a.bytes = 0 → a.bytes = 4 ∨ a.bytes = 8 → s.atomFree id a = true →
    s.homeServes (x.pa / 128) (.atom id) → s.heldLine (x.pa / 128) = some d → d.sharers / 2 ^ 16 = 0 → d.data.length = 128 → chk.bad % 256 = 0 →
    s.pocPoison x.pa a.bytes = false → (s.core a.core).groups.get? a.slot = some g → g.live ≠ 0 → a.discard = false → a.dst + a.bytes / 4 ≤ 256 →
    ∃ t e h, exec (.homeAtomic id chk) s = .next t ∧ t.l2.atoms.get? id = none ∧ t.l2.dir.get? (x.pa / 128) = some e ∧ e.state = .d ∧
      ofLe ((e.data.drop (x.pa % 128)).take a.bytes) =
        atomResult a.op a.bytes (ofLe (s.pocRead x.pa a.bytes)) (a.args x.thread).1 (a.args x.thread).2 % 2 ^ (8 * a.bytes) ∧
      (∀ i, i < x.pa % 128 ∨ x.pa % 128 + a.bytes ≤ i → i < 128 → e.data.getD i 0#8 = d.data.getD i 0#8) ∧
      (t.core a.core).groups.get? a.slot = some h ∧ h.vreg a.dst x.thread = ofLe (s.pocRead x.pa a.bytes) % 2 ^ 32 ∧ t.mem = s.mem) ∧
  (∀ (s : State) (id : Nat) (a : Atom) (x : Acc) (g : Group), s.l2.atoms.get? id = some a → a.accs = [x] → a.olds = [] → a.sent = 0 → a.far = true →
    x.target = 0 → x.thread < 64 → x.n = a.bytes → x.pa % a.bytes = 0 → a.bytes = 4 ∨ a.bytes = 8 → s.atomFree id a = true →
    s.homeServes (x.pa / 128) (.atom id) → s.l2.dir.get? (x.pa / 128) = none → s.bankPoison x.pa a.bytes = false → Memory.wf s.mem →
    (s.core a.core).groups.get? a.slot = some g → g.live ≠ 0 → x.pa < memSize →
    ∃ t, exec (.farAtomic id) s = .next t ∧ t.l2.atoms.get? id = none ∧
      cellBytes t.mem x.pa a.bytes =
        leBytes a.bytes (atomResult a.op a.bytes (ofLe (cellBytes s.mem x.pa a.bytes)) (a.args x.thread).1 (a.args x.thread).2) ∧
      (∀ y, y < x.pa ∨ x.pa + a.bytes ≤ y → cellGet t.mem y = cellGet s.mem y)) ∧
  (∀ (s : State) (fn pa : Nat) (data : List Byte), pa + data.length ≤ memSize → s.l2.domainLost = false → s.l2.refused = none → Memory.wf s.mem →
    ((s.fn fn).gate = .opened ∨ (s.fn fn).gate = .draining) → (∀ l ∈ linesOf pa data.length, s.l2.dir.get? l = none) →
    (∀ i, i < data.length → s.granulePoison ((pa + i) / 16) = false) →
    ∃ t, exec (.nonAllocatingWrite fn pa data) s = .next t ∧ cellBytes t.mem pa data.length = data ∧
      (∀ y, y < pa ∨ pa + data.length ≤ y → cellGet t.mem y = cellGet s.mem y) ∧ t.cores = s.cores ∧ t.fe = s.fe ∧ t.l2.held = s.l2.held) ∧
  (∀ (s : State) (fn pa line : Nat) (data : List Byte) (d : Dir) (b : Nat × Client), pa + data.length ≤ memSize → s.l2.domainLost = false → s.l2.refused = none →
    ((s.fn fn).gate = .opened ∨ (s.fn fn).gate = .draining) → linesOf pa data.length = [line] → s.l2.dir.get? line = some d → d.busy = some b →
    b.2 ≠ .held s.l2.nextId → s.waitsRetry line (.held s.l2.nextId) = false →
    ∃ t, exec (.nonAllocatingWrite fn pa data) s = .next t ∧ t.l2.held.get? s.l2.nextId = some (.write fn pa data) ∧
      t.l2.nacks = (s.l2.nacks + 1) % 2 ^ 32 ∧ t.l2.dir = s.l2.dir ∧ t.mem = s.mem ∧ t.cores = s.cores ∧ t.fe = s.fe) ∧
  (∀ (s : State) (line chk : Nat) (d : Dir), s.l2.dir.get? line = some d → d.state.dirty = true → d.busy = none → d.poison = 0 → d.data.length = 128 →
    Memory.wf s.mem → (∀ i, i < 8 → s.granuleFailed (8 * line + i) = false) →
    ∃ t e, exec (.newtReadWriteback line chk) s = .next t ∧ cellBytes t.mem (128 * line) 128 = d.data ∧ t.l2.dir.get? line = some e ∧
      e.state.dirty = false ∧ e.data = d.data ∧ e.sharers = d.sharers ∧ t.nwt.filter.get? line = some false ∧
      (chk = 1 → s.nwt.filter.has line = true → bit t.nwt.status 0 = true) ∧
      (∀ y, y / 128 ≠ line → cellGet t.mem y = cellGet s.mem y)) ∧
  (∀ (s : State) (i : Nat) (chk : L2Check) (e : Nacked) (l : Load) (id : Nat), s.l2.nacked[i]? = some e → e.who = .load id → s.l2.domainLost = false →
    s.l2.nacked.find? (fun x => decide (x.line = e.line ∧ x.who = e.who)) = some e →
    (s.l2.loads.get? id = none →
      exec (.nackRetry i chk) s = .next { s with l2.nacked := s.l2.nacked.filter (fun x => !(decide (x.who = e.who) && decide (x.line = e.line))) }) ∧
    (s.l2.loads.get? id = some l → s.readDue id l e.line = true → s.replicaHit e.line (l.core / 24) = none → s.busyOther e.line e.who = true →
      ∃ t x, exec (.nackRetry i chk) s = .next t ∧ t.l2.nacked = s.l2.nacked.map (fun y => if y = e then x else y) ∧ x.line = e.line ∧ x.who = e.who ∧
        x.count = e.count + 1 ∧ x.interval = min 256 (2 * e.interval) ∧ x.starving = (e.starving || decide (8 ≤ e.count + 1)) ∧
        (e.starving = false → 8 ≤ e.count + 1 → bit t.l2.status 2 = true) ∧ t.l2.loads = s.l2.loads ∧ t.l2.dir = s.l2.dir ∧ t.mem = s.mem) ∧
    (∀ d, s.l2.loads.get? id = some l → s.readDue id l e.line = true → s.straightHome e.line (l.core / 24) = true → s.homeClosed e.line = false →
      s.lineBusy e.line = false → s.starvingFirst e.line e.queued = false → s.l2.refused = none → s.heldLine e.line = some d → d.data.length = 128 →
      l.fwd = [] → s.tableRoom →
      ∃ t x, exec (.nackRetry i chk) s = .next t ∧ t.l2.loads.get? id = some x ∧ x.got.get? (lineKey 0 e.line) = some d.data ∧
        t.l2.nacked = s.l2.nacked.filter (fun x => !(decide (x.who = e.who) && decide (x.line = e.line))) ∧ t.mem = s.mem)) ∧
  (∀ (s : State) (plain line : Nat), s.l2.replicas.has (replicaKey plain line) = true → line < 2 ^ 41 →
    ∃ t, exec (.replicaDropNotice plain line) s = .next t ∧ t.l2.replicas.has (replicaKey plain line) = false ∧
      (∀ d, s.l2.dir.get? line = some d → d.sharers = 2 ^ plain → d.state = .sh →
        t.l2.dir.get? line = some { d with sharers := 0, state := .h }) ∧ t.mem = s.mem)

/-- R235, R236, R237, R456: an uncorrectable entry takes its line to I, with every tied member's copy invalidated first, or with a dirty tag the whole domain; eight corrected errors of a way within a second, or one that is
not correctable, retire it, and a fifth retired way fails its slice; a transaction without an answer for 50 microseconds, a directory without progress for 10, or the loss of a member, unreachable for 50 microseconds or
reset, lose the domain: every context ends with 0x11. Where exec answers a next state, under conditions on the state and the operands alone, is said of: dirUncorrectable, wayRetire, wayRetireComplete,
cohTransactionTimeout, directoryStallTimeout, coherentDomainLoss, chipStallFail. -/
def Obligations.DirectoryErrors : Prop :=
  (∀ (s : State) (line : Nat) (tag : Bool) (d : Dir), s.l2.dir.get? line = some d →
    (tag = false ∨ d.state.dirty = false → d.busy = none → s.everyMember = 0 → line ∉ s.l2.dirBad → ∃ t, exec (.dirUncorrectable line tag) s = .next t ∧
      t.l2.dir.get? line = none ∧ bit t.l2.status 3 = true ∧ t.l2.domainLost = s.l2.domainLost) ∧
    (tag = false ∨ d.state.dirty = false → d.busy = none → s.everyMember ≠ 0 → line ∉ s.l2.dirBad → ∃ t e b, exec (.dirUncorrectable line tag) s = .next t ∧
      t.l2.dir.get? line = some e ∧ e.sharers = natOr 19 d.sharers s.everyMember ∧ e.busy = some b ∧ line ∈ t.l2.dirBad ∧ bit t.l2.status 3 = true ∧
      t.fab.answers = (s.tellCopies line (natOr 19 d.sharers s.everyMember)).fab.answers ∧ t.mem = s.mem) ∧
    (tag = false ∨ d.state.dirty = false → d.busy = none → line ∈ s.l2.dirBad → ∃ t, exec (.dirUncorrectable line tag) s = .next t ∧
      t.l2.dir.get? line = none ∧ line ∉ t.l2.dirBad ∧ t.l2.domainLost = s.l2.domainLost) ∧
    (tag = true → d.state.dirty = true → s.l2.domainLost = false → ∃ t, exec (.dirUncorrectable line tag) s = .next t ∧ t.l2.domainLost = true ∧
      bit t.l2.status 3 = true ∧ bit t.l2.status 6 = true)) ∧
  (∀ (s : State) (slice way : Nat), slice < 64 → way < 16 → s.closedWay slice way = false → bit s.l2.failed slice = false →
    (slice * 16 + way ∈ s.l2.wayBad ∨
      8 ≤ ((s.l2.wayErrors.getD (slice * 16 + way) []).filter (fun t => decide (s.time.mono < t + 1000000000))).length) →
    ((s.retiredWays slice).length < 4 →
      exec (.wayRetire slice way) s = .next { s with
        l2.retiring := s.l2.retiring ++ [slice * 16 + way], l2.retireAt := s.l2.retireAt.put (slice * 16 + way) s.time.mono }) ∧
    (4 ≤ (s.retiredWays slice).length → s.l2.domainLost = false →
      ∃ t, exec (.wayRetire slice way) s = .next t ∧ bit t.l2.failed slice = true ∧ t.l2.domainLost = true)) ∧
  (∀ (s : State) (slice way : Nat), slice < 64 → way < 16 → slice * 16 + way ∈ s.l2.retiring →
    (∀ k d, s.l2.dir.get? k = some d → d.slice = slice → d.way = way → d.busy = none) → (s.l2.dir.map Prod.fst).Pairwise (fun a b => a < b) →
    s.copiesEnded (s.emptyWay slice way) = [] →
    ∃ t, exec (.wayRetireComplete slice way) s = .next t ∧ slice * 16 + way ∉ t.l2.retiring ∧ bit (t.num (E.sliceRetiredWays + slice)) way = true ∧
      t.num E.waysRetired = (s.num E.waysRetired + 1) % 2 ^ 16 ∧ bit t.l2.status 4 = true) ∧
  (∀ (s : State) (line : Nat) (d : Dir) (b : Nat × Client), s.l2.dir.get? line = some d → d.busy = some b →
    (s.time.mono < b.1 + 50000 → exec (.cohTransactionTimeout line) s = .next s) ∧
    (b.1 + 50000 ≤ s.time.mono → s.l2.domainLost = false →
      ∃ t, exec (.cohTransactionTimeout line) s = .next t ∧ t.l2.domainLost = true ∧ bit t.l2.status 6 = true ∧
        (∀ q, (s.q q).state = .running → Killed t q 0x11) ∧ t.mem = s.mem)) ∧
  (∀ (s : State) (slice line : Nat) (d : Dir) (b : Nat × Client), s.l2.dir.get? line = some d → d.slice = slice → d.busy = some b →
    b.1 + 10000 ≤ s.time.mono → s.l2.domainLost = false →
    ∃ t, exec (.directoryStallTimeout slice) s = .next t ∧ t.l2.domainLost = true ∧ (∀ q, (s.q q).state = .running → Killed t q 0x11) ∧ t.mem = s.mem) ∧
  (∀ (s : State) (member : Nat) (wasReset : Bool), s.tiedChip member = true → s.l2.domainLost = false →
    (wasReset = true ∨ member ∈ s.fab.unreachable ∨ (∃ at_, s.fab.lostSince.get? member = some at_ ∧ at_ + 50000 ≤ s.time.mono) →
      ∃ t, exec (.coherentDomainLoss member wasReset) s = .next t ∧ t.l2.domainLost = true ∧ (∀ q, (s.q q).state = .running → Killed t q 0x11) ∧ t.mem = s.mem) ∧
    (member ∉ s.fab.unreachable → s.fab.lostSince.get? member = none → exec (.coherentDomainLoss member false) s = .next s)) ∧
  (∀ (s : State) (domain : Nat), 16 ≤ domain → domain ≤ 18 → s.sup.chipFailed = false →
    ∃ t, exec (.chipStallFail domain) s = .next t ∧ t.sup.chipFailed = true ∧ (∀ q, (s.q q).state = .running → Killed t q 0x11) ∧
      t.l2.domainLost = s.l2.domainLost ∧ t.mem = s.mem)

/-- R36, R125, R208, R214, R215, R233, R234: a plain without blocks is gated with its caches dropped and no home left in it; it wakes with its time base reloaded and its cores' scalar caches disabled until they are
invalidated and enabled; a change of scratch_kib waits for each core to be empty. Gating and the return of a bucket wait for the homes of the lines that they move. Where exec answers a next state, under conditions on the
state and the operands alone, is said of: plainGate, plainWake, bucketReturn, sclAutoEnable, sclCtrlInvalidate, sclCtrlEnable, scratchKibWrite, scratchChangeApply. -/
def Obligations.PlainsAndCoreCaches : Prop :=
  (∀ (s : State) (p : Nat), s.mayGate p = true → s.unitGoes 15 p (plainGate p) →
    ∃ t, exec (.plainGate p) s = .next t ∧ bit t.l2.gatedPlains p = true ∧
      (∀ c, c / 24 = p → (t.core c).l1 = [] ∧ (t.core c).scl = [] ∧ (t.core c).victim = [] ∧ ((s.core c).state = 0 → (t.core c).state = 1)) ∧
      (∀ r, t.time.replicas[p]? = some r → r.stopped = true) ∧ (∀ c, c / 24 ≠ p → t.core c = s.core c)) ∧
  (∀ (s : State) (p : Nat), s.mayGate p = false → s.l2.refused = none → (∀ e ∈ s.l2.nacked, e.who ≠ .other (15 * 2 ^ 48 + p)) →
    exec (.plainGate p) s = .next s) ∧
  (∀ (s : State) (p : Nat), p < 16 → bit s.l2.gatedPlains p = true →
    ∃ t, exec (.plainWake p) s = .next t ∧ bit t.l2.gatedPlains p = false ∧ t.num (E.plainEpoch + p) = (s.num (E.plainEpoch + p) + 1) % 2 ^ 32 ∧
      (∀ r0, s.time.replicas[p]? = some r0 →
        t.time.replicas[p]? = some { count := max r0.count s.time.gtb, stopped := false, holding := decide (s.time.gtb < r0.count) }) ∧
      (∀ c, c / 24 = p → (s.core c).state = 1 → (t.core c).state = 0 ∧ (t.core c).sclEnable = false ∧
        (t.core c).epoch = ((s.core c).epoch + 1) % 2 ^ 32 ∧ bit t.l2.sclDisabled c = true) ∧ t.mem = s.mem) ∧
  (∀ (s : State) (part b : Nat), (s.part part).redirects.has b = true → s.slicesOf part ≠ [] →
    bit s.l2.gatedPlains ((s.slicesOf part).getD (b % (s.slicesOf part).length) 0 / 4) = false → s.unitGoes 16 (part * 64 + b) (bucketReturn part b) →
    ∃ t, exec (.bucketReturn part b) s = .next t ∧ (t.part part).redirects.has b = false ∧
      t.homeMap (some part) b = (s.slicesOf part).getD (b % (s.slicesOf part).length) 0) ∧
  (∀ (s : State) (c : Nat), s.num E.sclAutoEnable = 1 → bit s.l2.sclDisabled c = true →
    ∃ t, exec (.sclAutoEnable c) s = .next t ∧ (t.core c).sclEnable = true ∧ (t.core c).scl = [] ∧ (t.core c).victim = [] ∧
      bit t.l2.sclDisabled c = false ∧ (∀ j, j ≠ c → t.core j = s.core j) ∧ t.mem = s.mem) ∧
  (∀ (s : State) (c : Nat), c < 384 → exec (.sclCtrlInvalidate c) s =
    .next (s.modCore c (fun k => { k with scl := [], victim := [], sclInvalidated := true }))) ∧
  (∀ (s : State) (c : Nat), c < 384 →
    ((s.core c).sclInvalidated = true → exec (.sclCtrlEnable c true) s =
      .next { s.modCore c (fun k => { k with sclEnable := true }) with l2.sclDisabled := clrBit s.l2.sclDisabled c }) ∧
    ((s.core c).sclInvalidated = false → exec (.sclCtrlEnable c true) s = .next s) ∧
    exec (.sclCtrlEnable c false) s = .next (s.modCore c (fun k => { k with sclEnable := false }))) ∧
  (∀ (s : State) (who : Origin) (part v : Nat), s.entryLive E.scratchKib = true → part < 64 → who.isVf = false →
    (v % 64 = 0 → v ≤ 448 → ∃ t, exec (.scratchKibWrite who part v) s = .next t ∧ t.num E.scratchKib part = v ∧ t.mgt.answer = 0 ∧
      (∀ c, c ∈ s.coresOf part → (t.core c).scratchPending = decide ((s.core c).scratchKib ≠ v)) ∧ t.mem = s.mem) ∧
    (v % 64 ≠ 0 ∨ 448 < v → exec (.scratchKibWrite who part v) s = .next (s.answer 4))) ∧
  (∀ (s : State) (c p : Nat), s.partOfCore c = some p → (s.core c).scratchPending = true → (s.core c).blocks = [] →
    exec (.scratchChangeApply c) s =
      .next (s.modCore c (fun k => { k with scratchKib := s.num E.scratchKib p, scratchPending := false, l1 := [] })))

/-- R216, R224, R225, R228, R256, R318, R319, R320, R337, R469: a host write through BAR2 lands at the banks and drops the copies, one with a steering tag at the home with a replica in the plain; a read and an AtomicOp are
served at the point of coherence; poison completes poisoned, an access outside the window or in a reset of the function is refused with its bit set, and an access to a device that runs a reset reads all ones. A request
that its home cannot take waits, and every later request of the function, a doorbell too, waits behind it. Where exec answers a next state, under conditions on the state and the operands alone, is said of: hostWriteBar2,
hostReadBar2, hostAtomicop, doorbellWrite, synOperate, svcQpDoorbell, registerWrite, registerRead. -/
def Obligations.HostWindows : Prop :=
  (∀ (s : State) (fn off pa : Nat) (data : List Byte), s.hostReaches fn off data.length pa → pa + data.length ≤ memSize → Memory.wf s.mem →
    (∀ l ∈ linesOf pa data.length, s.l2.dir.get? l = none) → (∀ i, i < data.length → s.granulePoison ((pa + i) / 16) = false) →
    ∃ t, exec (.hostWriteBar2 fn off data none) s = .next t ∧ cellBytes t.mem pa data.length = data ∧
      (∀ y, y < pa ∨ pa + data.length ≤ y → cellGet t.mem y = cellGet s.mem y) ∧ t.cores = s.cores ∧ t.fe = s.fe ∧ t.l2.held = s.l2.held) ∧
  (∀ (s : State) (fn off pa p sl w : Nat) (data : List Byte) (d : Dir), s.hostReaches fn off data.length pa → data ≠ [] → pa % 128 + data.length ≤ 128 →
    s.homeServes (pa / 128) (.held s.l2.nextId) → s.heldLine (pa / 128) = some d → d.sharers / 2 ^ 16 = 0 → d.data.length = 128 →
    p < 16 → (∃ x ∈ s.slicesOf (s.fnPart fn), x / 4 = p) → s.replicaSlice (pa / 128) p = some sl → s.homeOf (pa / 128) / 4 ≠ p →
    s.freeWay sl (setOf (pa / 128)) 0 16 = some w →
    ∃ t e, exec (.hostWriteBar2 fn off data (some p)) s = .next t ∧ t.l2.dir.get? (pa / 128) = some e ∧ e.sharers = 2 ^ p ∧
      (∀ i, i < 128 → e.data.getD i 0#8 = if pa % 128 ≤ i ∧ i < pa % 128 + data.length then data.getD (i - pa % 128) 0#8 else d.data.getD i 0#8) ∧
      (∃ l, t.l2.replicas.get? (replicaKey p (pa / 128)) = some l ∧ l.data = e.data) ∧ t.mem = s.mem) ∧
  (∀ (s : State) (fn off n pa : Nat) (chk : L2Check), s.hostReaches fn off n pa → s.hostGoes (hostReadBar2 fn off n chk) → chk.bad % 256 = 0 →
    (s.pocPoison pa n = false → ∃ t, exec (.hostReadBar2 fn off n chk) s = .next t ∧ t.hif.cpl = some { status := 0, data := (rangeFrom pa n).map s.pocByte } ∧
      (∀ l d, l ∈ linesOf pa n → s.heldLine l = some d → ∃ e, t.l2.dir.get? l = some e ∧ e.rsw = true ∧ e.data = d.data) ∧ t.mem = s.mem) ∧
    (s.pocPoison pa n = true → ∃ t, exec (.hostReadBar2 fn off n chk) s = .next t ∧ t.hif.cpl = some { status := 2, data := [] } ∧
      bit t.hif.errStatus 0 = true ∧ bit t.stk.errStatus 3 = true ∧ t.mem = s.mem)) ∧
  (∀ (s : State) (fn off pa line : Nat) (data : List Byte) (d : Dir) (b : Nat × Client), s.hostReaches fn off data.length pa → linesOf pa data.length = [line] →
    s.l2.dir.get? line = some d → d.busy = some b → b.2 ≠ .held s.l2.nextId → s.waitsRetry line (.held s.l2.nextId) = false →
    ∃ t, exec (.hostWriteBar2 fn off data none) s = .next t ∧ t.l2.held.get? s.l2.nextId = some (.hostWrite fn off data none) ∧
      t.l2.nacks = (s.l2.nacks + 1) % 2 ^ 32 ∧ t.l2.dir = s.l2.dir ∧ t.mem = s.mem ∧ t.fe = s.fe) ∧
  (∀ (s : State) (fn : Nat), s.heldOf fn ≠ [] →
    (∀ off data tag, exec (.hostWriteBar2 fn off data tag) s = .next (s.holdReq (.hostWrite fn off data tag))) ∧
    (∀ off n chk, exec (.hostReadBar2 fn off n chk) s = .next (s.holdReq (.hostRead fn off n chk))) ∧
    (∀ off kind bytes x c chk, exec (.hostAtomicop fn off kind bytes x c chk) s = .next (s.holdReq (.hostAtomic fn off kind bytes x c chk))) ∧
    (∀ q v, exec (.doorbellWrite fn q v) s = .next (s.holdReq (.doorbell fn q v))) ∧
    (∀ v, cmdCode v = 2 → exec (.synOperate fn v) s = .next (s.holdReq (.regWrite fn 0x7000 8 v))) ∧
    (∀ qp v, exec (.svcQpDoorbell fn qp v) s = .next (s.holdReq (.regWrite fn (0x400 + 4 * qp) 4 v))) ∧
    (∀ off n v, exec (.registerWrite fn off n v) s = .next (s.holdReq (.regWrite fn off n v))) ∧
    (∀ off n, exec (.registerRead fn off n) s = .next (s.holdReq (.regRead fn off n)))) ∧
  (∀ (s : State) (fn off n : Nat), s.hostFree fn → s.barState fn = .opened →
    (s.bar2At fn off n = none →
      (∀ chk, ∃ t, exec (.hostReadBar2 fn off n chk) s = .next t ∧ t.hif.cpl = some { status := 1, data := [] } ∧ bit t.hif.errStatus 1 = true ∧ t.mem = s.mem) ∧
      (∀ (data : List Byte) (tag : Option Nat), data.length = n → exec (.hostWriteBar2 fn off data tag) s = .next (s.raiseHif 1))) ∧
    (∀ pa, s.bar2At fn off n = some pa → (s.fn fn).gate = .resetting →
      (∀ chk, ∃ t, exec (.hostReadBar2 fn off n chk) s = .next t ∧ t.hif.cpl = some { status := 1, data := [] } ∧ bit t.hif.errStatus 4 = true ∧ t.mem = s.mem) ∧
      (∀ (data : List Byte) (tag : Option Nat), data.length = n → exec (.hostWriteBar2 fn off data tag) s = .next (s.raiseHif 4)))) ∧
  (∀ (s : State) (fn off n : Nat), s.hostFree fn → s.barState fn = .ones →
    (∀ chk, exec (.hostReadBar2 fn off n chk) s = .next (s.complete 0 (List.replicate n 0xFF#8))) ∧
    (∀ (data : List Byte) (tag : Option Nat), exec (.hostWriteBar2 fn off data tag) s = .next s)) ∧
  (∀ (s : State) (fn off pa bytes kind x c : Nat) (chk : L2Check) (d : Dir), s.hostReaches fn off bytes pa → bytes = 4 ∨ bytes = 8 → off % bytes = 0 →
    pa % bytes = 0 → kind ≤ 2 → s.homeServes (pa / 128) (.held s.l2.nextId) → s.heldLine (pa / 128) = some d → d.sharers / 2 ^ 16 = 0 → d.data.length = 128 →
    chk.bad % 256 = 0 → s.pocPoison pa bytes = false →
    ∃ t e, exec (.hostAtomicop fn off kind bytes x c chk) s = .next t ∧ t.hif.cpl = some { status := 0, data := s.pocRead pa bytes } ∧
      t.l2.dir.get? (pa / 128) = some e ∧ e.state = .d ∧ ofLe ((e.data.drop (pa % 128)).take bytes) =
        (let old := ofLe (s.pocRead pa bytes)
         if kind = 0 then (old + x) % 2 ^ (8 * bytes) else if kind = 1 then x % 2 ^ (8 * bytes)
         else if old = c % 2 ^ (8 * bytes) then x % 2 ^ (8 * bytes) else old) ∧ t.mem = s.mem) ∧
  (∀ (s : State) (fn off bytes kind x c : Nat) (chk : L2Check), s.hostFree fn → s.barState fn = .opened →
    (bytes ≠ 4 → bytes ≠ 8 → exec (.hostAtomicop fn off kind bytes x c chk) s = .next (s.complete 1 [])) ∧
    (bytes = 4 ∨ bytes = 8 → off % bytes ≠ 0 → exec (.hostAtomicop fn off kind bytes x c chk) s = .next (s.complete 3 [])))

/-- R264, R266, R285, R289, R290, R291, R293: a doorbell within the ring moves the write pointer and starts an idle queue, with the timer at 0; any other is rejected with bad_doorbell; queue_enable, preempt, resume, kill and
reset act in the states of Table 11.2 and set bad_ctrl in every other; a pre-emption that the save area cannot hold is refused with its size; one that has settled signals the completion vector. R266, R285, R286, R333: a
kill write, a fault that a consumer reports, and a timer that reaches queue_timeout end the context: the first trigger sets the code and the fault's site and takes the queue to KILLING, and a later one only counts as
suppressed; a turn of a time-sliced partition that has lasted partition_slice times qos_dispatch / 100 microseconds starts to end, and then passes to the next function with work. Where exec answers a next state, under
conditions on the state and the operands alone, is said of: doorbellWrite, queueEnable, queueDisable, queuePreempt, queuePreempted, queueResume, queueReset, contextKill, queueKill, queueTimeout, timeSliceEnd. -/
def Obligations.QueueCommands : Prop :=
  ((∀ (s : State) (fn q v base n : Nat), fnOfQueue q = fn → s.ringOf q = some (base, n) → v < 2 ^ 32 → s.heldOf fn = [] →
    ((s.fn fn).gate = .opened → (s.q q).state.takesDoorbell = true → (v + 2 ^ 32 - (s.q q).write) % 2 ^ 32 ≠ 0 → v ≠ (s.q q).write →
      (v + 2 ^ 32 - (s.q q).write) % 2 ^ 32 ≤ n → (v + 2 ^ 32 - (s.q q).read) % 2 ^ 32 ≤ n →
      ∃ t, exec (.doorbellWrite fn q v) s = .next t ∧ (t.q q).write = v ∧ (t.q q).read = (s.q q).read ∧ QueueOnly s t q ∧
        ((s.q q).state = .idle → (t.q q).state = .running ∧ (t.q q).timerOn = true ∧ (t.q q).timerAt = s.time.mono ∧
          (t.q q).timerLimit = s.num (E.queueTimeout + q % 16) fn) ∧
        ((s.q q).state ≠ .idle → (t.q q).state = (s.q q).state)) ∧
    ((s.fn fn).gate = .opened → (s.q q).state.takesDoorbell = true → v = (s.q q).write → exec (.doorbellWrite fn q v) s = .next s) ∧
    ((s.fn fn).gate ≠ .opened ∨ (s.q q).state.takesDoorbell = false ∨ (s.q q).doorbellOk n v = false →
      ∃ t, exec (.doorbellWrite fn q v) s = .next t ∧ t.q q = { s.q q with badDoorbell := true } ∧ QueueOnly s t q)) ∧
  (∀ (s : State) (who : Origin) (q : Nat), s.fnCheck who (fnOfQueue q) (E.queueEnable + q % 16) = 0 → q < 4096 →
    ((s.q q).state = .disabled → (s.ringOf q).isSome = true → s.sup.chipFailed = false →
      ∃ t, exec (.queueEnable who q) s = .next t ∧ (t.q q).state = .idle ∧ (t.q q).write = 0 ∧ (t.q q).read = 0 ∧ (t.q q).killCode = 0 ∧
        (t.q q).suppressed = 0 ∧ (t.q q).faultValid = false ∧ (t.q q).tagLayer = 0 ∧ (t.q q).tagOperator = 0 ∧ QueueOnly s t q ∧
        t.num (E.queueEnable + q % 16) (fnOfQueue q) = 1) ∧
    ((s.q q).state ≠ .disabled ∨ s.ringOf q = none → exec (.queueEnable who q) s = .next (s.answer 5)) ∧
    ((s.q q).state = .idle ∨ (s.q q).state = .killed →
      ∃ t, exec (.queueDisable who q) s = .next t ∧ t.q q = { s.q q with state := .disabled } ∧ QueueOnly s t q) ∧
    ((s.q q).state ≠ .idle → (s.q q).state ≠ .killed → exec (.queueDisable who q) s = .next (s.answer 5))) ∧
  (∀ (s : State) (q : Nat),
    ((s.q q).state = .idle → ∃ t, exec (.queuePreempt q) s = .next t ∧ (t.q q).state = .preempted ∧ (t.q q).savedNone = true ∧ QueueOnly s t q ∧
      ((s.fn (fnOfQueue q)).gate = .opened → (t.vec (fnOfQueue q) (bits (s.num (E.queueVectors + q % 16) (fnOfQueue q)) 5 0)).due = true)) ∧
    ((s.q q).state = .running → s.num (E.queueSaveBytes + q % 16) (fnOfQueue q) < s.saveNeed q →
      ∃ t, exec (.queuePreempt q) s = .next t ∧ (t.q q).state = .running ∧ (t.q q).preemptRefused = true ∧
        (t.q q).saveNeed = s.saveNeed q % 2 ^ 64 ∧ QueueOnly s t q) ∧
    ((s.q q).state = .running → s.saveNeed q ≤ s.num (E.queueSaveBytes + q % 16) (fnOfQueue q) →
      ∃ t, exec (.queuePreempt q) s = .next t ∧ (t.q q).state = .preempting ∧ (t.q q).read = (s.q q).read ∧ QueueOnly s t q) ∧
    ((s.q q).state ≠ .idle → (s.q q).state ≠ .running →
      ∃ t, exec (.queuePreempt q) s = .next t ∧ t.q q = { s.q q with badCtrl := true } ∧ QueueOnly s t q)) ∧
  (∀ (s : State) (q : Nat), (s.q q).state = .preempting → s.preemptSettled q = true → s.plansOfQueue q = [] → (s.q q).resumePending = false →
    s.unitGoes 9 q (queuePreempted q) → (s.writeV (fnOfQueue q) (s.num (E.queueSaveBase + q % 16) (fnOfQueue q)) (s.q q).saveHeader).1 = 0 →
    ∃ t, exec (.queuePreempted q) s = .next t ∧ (t.q q).state = .preempted ∧ t.cores = (s.writeV (fnOfQueue q) (s.num (E.queueSaveBase + q % 16) (fnOfQueue q)) (s.q q).saveHeader).2.cores ∧
      t.mem = (s.writeV (fnOfQueue q) (s.num (E.queueSaveBase + q % 16) (fnOfQueue q)) (s.q q).saveHeader).2.mem ∧
      ((s.fn (fnOfQueue q)).gate = .opened → (t.vec (fnOfQueue q) (bits (s.num (E.queueVectors + q % 16) (fnOfQueue q)) 5 0)).due = true)) ∧
  (∀ (s : State) (q : Nat),
    ((s.q q).state = .preempting →
      ∃ t, exec (.queueResume q) s = .next t ∧ t.q q = { s.q q with resumePending := true } ∧ QueueOnly s t q) ∧
    ((s.q q).state = .preempted → (s.q q).resumePending = false → (s.q q).savedNone = true →
      ∃ t, exec (.queueResume q) s = .next t ∧ (t.q q).state = (if s.queueRemains q then .running else .idle) ∧ QueueOnly s t q) ∧
    ((s.q q).state ≠ .preempting → (s.q q).state ≠ .preempted →
      ∃ t, exec (.queueResume q) s = .next t ∧ t.q q = { s.q q with badCtrl := true } ∧ QueueOnly s t q)) ∧
  (∀ (s : State) (q : Nat),
    ((s.q q).state = .idle ∨ (s.q q).state = .killed → ∃ t, exec (.queueReset q) s = .next t ∧ (t.q q).state = .idle ∧ (t.q q).write = 0 ∧
      (t.q q).read = 0 ∧ (t.q q).killCode = 0 ∧ (t.q q).faultValid = false ∧ QueueOnly s t q) ∧
    ((s.q q).state ≠ .idle → (s.q q).state ≠ .killed →
      ∃ t, exec (.queueReset q) s = .next t ∧ t.q q = { s.q q with badCtrl := true } ∧ QueueOnly s t q))) ∧
  ((∀ (s : State) (q code : Nat),
    ((s.q q).state.alive = true → ∃ t, exec (.contextKill q code) s = .next t ∧ (t.q q).state = .killing ∧ (t.q q).killCode = code ∧
      (t.q q).faultValid = true ∧ (t.q q).killWrite = (s.q q).write ∧ (t.q q).write = (s.q q).write ∧ (t.q q).read = (s.q q).read ∧ QueueOnly s t q) ∧
    ((s.q q).state = .killing → ∃ t, exec (.contextKill q code) s = .next t ∧
      t.q q = { s.q q with suppressed := min 255 ((s.q q).suppressed + 1) } ∧ QueueOnly s t q) ∧
    ((s.q q).state.alive = false → (s.q q).state ≠ .killing → exec (.contextKill q code) s = .next s)) ∧
  (∀ (s : State) (q : Nat),
    ((s.q q).state.alive = true → ∃ t, exec (.queueKill q) s = .next t ∧ Killed t q 0x0F ∧ QueueOnly s t q) ∧
    ((s.q q).state.alive = false → ∃ t, exec (.queueKill q) s = .next t ∧ t.q q = { s.q q with badCtrl := true } ∧ QueueOnly s t q)) ∧
  (∀ (s : State) (q : Nat), s.timerCounts q = true →
    ((s.q q).timerLimit * 1000 ≤ s.time.mono - (s.q q).timerAt → ∃ t, exec (.queueTimeout q) s = .next t ∧ Killed t q 0x08 ∧ QueueOnly s t q) ∧
    (s.time.mono - (s.q q).timerAt < (s.q q).timerLimit * 1000 → exec (.queueTimeout q) s = .next s)) ∧
  (∀ (s : State) (p f : Nat), s.num (E.partitionShareMode + p) = 1 → (s.part p).holder = some f → s.turnVoid p f = false →
    (∀ q ∈ queuesOfFn f, (s.q q).state ≠ .running ∧ (s.q q).state ≠ .preempting) → (s.part p).turnEnding = true →
    (∀ g, s.nextTurn p (some f) = some g → (∀ q ∈ queuesOfFn g, (s.q q).slicePreempt = false) →
      exec (.timeSliceEnd p) s = .next (s.modPart p (fun x => { x with holder := some g, turnAt := s.time.mono, turnEnding := false })))) ∧
  (∀ (s : State) (p f : Nat), s.num (E.partitionShareMode + p) = 1 → (s.part p).holder = some f → s.turnVoid p f = false → (s.part p).turnEnding = false →
    (s.turnNs p f ≤ s.time.mono - (s.part p).turnAt →
      ∃ t, exec (.timeSliceEnd p) s = .next t ∧ (t.part p).turnEnding = true ∧ (t.part p).holder = some f ∧
        (∀ q ∈ queuesOfFn f, (s.q q).state = .running → s.saveNeed q ≤ s.num (E.queueSaveBytes + q % 16) (fnOfQueue q) → (t.q q).state = .preempting) ∧
        (∀ q ∈ queuesOfFn f, (s.q q).state = .running → s.num (E.queueSaveBytes + q % 16) (fnOfQueue q) < s.saveNeed q →
          (t.q q).state = .running ∧ (t.q q).preemptRefused = true) ∧ t.mem = s.mem) ∧
    (s.time.mono - (s.part p).turnAt < s.turnNs p f → exec (.timeSliceEnd p) s = .next s)))

/-- R264, R268, R269, R270, R271, R272, R277, R292: the front end fetches the next entry of a ring, or the next node of a graph, with its bytes as they stand and the outcome of its checks; a ready node starts in its turn; a
NOP completes at once, a WAIT and a SIGNAL go to their object, a MARK writes its record and the count of D17; a node completes when its row of Table 11.4 holds, and the read pointer then passes it and a queue with
nothing left is IDLE; a node whose check failed ends its context. Where exec answers a next state, under conditions on the state and the operands alone, is said of: nodeFetch, nodeNop, nodeComplete, nodeWait, nodeSignal,
nodeMark. -/
def Obligations.NodesOfTheFrontEnd : Prop :=
  (∀ (s : State) (q base n a : Nat), (s.q q).state = .running → s.mayRun (fnOfQueue q) = true → (s.fn (fnOfQueue q)).gate = .opened →
    (s.q q).fetch ≠ (s.q q).write → ((s.q q).fetch + 2 ^ 32 - (s.q q).read) % 2 ^ 32 < 256 → s.ringOf q = some (base, n) → s.unitGoes 6 q (nodeFetch q none) →
    (s.translate (fnOfQueue q) (base + 64 * ((s.q q).fetch % n)) .read = .ok 0 a → s.pocPoison a 64 = false →
      ∃ t x, exec (.nodeFetch q none) s = .next t ∧ t.fe.nodes.get? s.fe.nextNode = some x ∧ x.queue = q ∧ x.ring = (s.q q).fetch ∧ x.graph = none ∧
        x.raw = s.pocRead a 64 ∧ x.status = .waiting ∧ x.check = nodeCheck (s.pocRead a 64) none 0 (s.num E.scratchKib (s.fnPart (fnOfQueue q))) ∧
        t.fe.nextNode = s.fe.nextNode + 1 ∧ (t.q q).fetch = ((s.q q).fetch + 1) % 2 ^ 32 ∧ (t.q q).read = (s.q q).read ∧ (∀ i, i ≠ q → t.q i = s.q i) ∧ t.mem = s.mem ∧ t.cores = s.cores) ∧
    (∀ c, s.translate (fnOfQueue q) (base + 64 * ((s.q q).fetch % n)) .read = .bad c →
      ∃ t x, exec (.nodeFetch q none) s = .next t ∧ t.fe.nodes.get? s.fe.nextNode = some x ∧ x.check = c ∧ x.queue = q ∧
        (t.q q).fetch = ((s.q q).fetch + 1) % 2 ^ 32 ∧ t.mem = s.mem)) ∧
  (∀ (s : State) (q gid a : Nat) (g : Graph), (s.q q).state = .running → s.mayRun (fnOfQueue q) = true → s.fe.graphs.get? gid = some g → g.queue = q →
    g.fetched < g.count → g.fetched < s.oldestIndex gid g + 256 → s.unitGoes 6 q (nodeFetch q (some gid)) → s.translate (fnOfQueue q) (g.nodes + 64 * g.fetched) .read = .ok 0 a → s.pocPoison a 64 = false →
    (∀ i, i < fieldAt (s.pocRead a 64) 2 2 - 4 →
      (s.feRead (fnOfQueue q) (g.preds + 2 * (fieldAt (s.pocRead a 64) 0x14 4 + i)) 2 (some (q, .graph gid g.fetched))).1 ≠ .wait) →
    ∃ t x, exec (.nodeFetch q (some gid)) s = .next t ∧ t.fe.nodes.get? s.fe.nextNode = some x ∧ x.graph = some gid ∧ x.index = g.fetched ∧
      x.depth = g.depth ∧ x.raw = s.pocRead a 64 ∧ t.fe.graphs.get? gid = some { g with fetched := g.fetched + 1 } ∧ t.mem = s.mem ∧ t.cores = s.cores) ∧
  (∀ (s : State) (id : Nat) (n : Node), s.nodeStarts id 0 n → s.unitGoes 5 id (nodeNop id) →
    (∀ gid g, n.graph = some gid → s.fe.graphs.get? gid = some g → g.plan = none →
      ∃ t, exec (.nodeNop id) s = .next t ∧ t.fe.nodes.get? id = some { n with status := .complete } ∧ t.fe.graphs = s.fe.graphs ∧ t.mem = s.mem) ∧
    (s.ringNode n.queue (s.q n.queue).read = some (id, n) → (s.q n.queue).read ≠ (s.q n.queue).write → n.graph = none →
      ((s.q n.queue).read + 1) % 2 ^ 32 = (s.q n.queue).write →
      ∃ t, exec (.nodeNop id) s = .next t ∧ (t.q n.queue).read = (s.q n.queue).write ∧ (t.q n.queue).state = .idle ∧ t.fe.nodes.get? id = none ∧
        t.mem = s.mem ∧ t.cores = s.cores)) ∧
  (∀ (s : State) (id : Nat) (n : Node), s.fe.nodes.get? id = some n → n.status = .running → (s.q n.queue).state.completes = true →
    (s.nodeMet id n = false → s.l2.refused = none → exec (.nodeComplete id) s = .next (s.unitDone 5 id)) ∧
    (s.nodeMet id n = true → n.type ≠ 7 → s.l2.refused = none → ∀ gid g, n.graph = some gid → s.fe.graphs.get? gid = some g → g.plan = none →
      ∃ t, exec (.nodeComplete id) s = .next t ∧ t.fe.nodes.get? id = some { n with status := .complete } ∧ t.mem = s.mem) ∧
    (s.nodeMet id n = true → n.type ≠ 7 → s.l2.refused = none → n.graph = none → s.ringNode n.queue (s.q n.queue).read = some (id, n) → (s.q n.queue).read ≠ (s.q n.queue).write →
      ((s.q n.queue).read + 1) % 2 ^ 32 = (s.q n.queue).write →
      ∃ t, exec (.nodeComplete id) s = .next t ∧ (t.q n.queue).read = (s.q n.queue).write ∧ t.fe.nodes.get? id = none ∧
        ((s.q n.queue).state = .running → (t.q n.queue).state = .idle) ∧
        (n.irq = true → (s.fn (fnOfQueue n.queue)).gate = .opened →
          (t.vec (fnOfQueue n.queue) (bits (s.num (E.queueVectors + n.queue % 16) (fnOfQueue n.queue)) 5 0)).due = true) ∧ t.mem = s.mem) ∧
    (s.nodeMet id n = true → n.type = 7 → s.unitGoes 5 id (nodeComplete id) → ∀ gid g, s.callGraph id = some (gid, g) →
      ∃ t, exec (.nodeComplete id) s = .next t ∧ t.fe.graphs.get? gid = none)) ∧
  (∀ (s : State) (id : Nat) (n : Node), s.fe.nodes.get? id = some n → s.canStart n = true → s.heldBack id n = false → s.queueTurn n.queue = true →
    s.fnTurn (fnOfQueue n.queue) = true → n.check ≠ 0 → s.unitGoes 5 id (nodeNop id) →
    (∃ t, exec (.nodeNop id) s = .next t ∧ Killed t n.queue n.check ∧ QueueOnly s t n.queue)) ∧
  (∀ (s : State) (id : Nat) (n : Node), s.nodeStarts id 4 n → n.get 0x18 4 < 2 ^ 29 → handleChip (n.get 0x18 4) s.fab.chipId = none →
    [1, 2, 4, 6].contains (n.get 0x1C 1) = true →
    ∃ t, exec (.nodeWait id) s = .next t ∧ t.fe.nodes.get? id = some { n with status := .running, stalled := false } ∧
      t.syn.registering = s.syn.registering ++ [(handleObj (n.get 0x18 4), s.waiterOf n.queue (n.get 0x1C 1) (n.get 0x20 8) (.node id))] ∧
      t.syn.inbound = s.syn.inbound ∧ t.mem = s.mem ∧ t.cores = s.cores) ∧
  (∀ (s : State) (id : Nat) (n : Node), s.nodeStarts id 5 n →
    (n.get 0x18 4 < 2 ^ 29 → handleChip (n.get 0x18 4) s.fab.chipId = none → [0, 3, 5].contains (n.get 0x1C 1) = true →
      ∃ t, exec (.nodeSignal id) s = .next t ∧ t.fe.nodes.get? id = some { n with status := .running, stalled := false } ∧
        t.syn.inbound = s.syn.inbound ++ [s.syncMsgOf n.queue (n.get 0x18 4) (n.get 0x1C 1) (n.get 0x20 8) (.node id)] ∧ t.mem = s.mem ∧ t.cores = s.cores) ∧
    (2 ^ 29 ≤ n.get 0x18 4 → ∃ t, exec (.nodeSignal id) s = .next t ∧ Killed t n.queue 0x02 ∧ QueueOnly s t n.queue)) ∧
  (∀ (s : State) (id : Nat) (n : Node), s.nodeStarts id 9 n → s.unitGoes 5 id (nodeMark id) →
    (n.get 0x20 8 = 0 → ∃ t, exec (.nodeMark id) s = .next t ∧ t.fe.nodes.get? id = some { n with status := .running, stalled := false, done := true } ∧ t.mem = s.mem) ∧
    (∀ a, n.get 0x20 8 ≠ 0 → s.translate (fnOfQueue n.queue) (n.get 0x20 8) .write = .ok 0 a → a + 8 ≤ memSize → Memory.wf s.mem →
      (∀ l ∈ linesOf a 8, s.l2.dir.get? l = none) → (∀ i, i < 8 → s.granulePoison ((a + i) / 16) = false) →
      ∃ t, exec (.nodeMark id) s = .next t ∧ t.fe.nodes.get? id = some { n with status := .running, stalled := false, done := true } ∧
        cellBytes t.mem a 8 = leBytes 8 (s.domainTime 17) ∧ (∀ y, y < a ∨ a + 8 ≤ y → cellGet t.mem y = cellGet s.mem y)) ∧
    (∀ c, n.get 0x20 8 ≠ 0 → s.translate (fnOfQueue n.queue) (n.get 0x20 8) .write = .bad c →
      ∃ t, exec (.nodeMark id) s = .next t ∧ Killed t n.queue c ∧ t.mem = s.mem))

/-- R104, R115, R164, R273, R274, R275, R279, R281, R365, R366: a LAUNCH reads its code-object header and goes on with one that keeps Table 6.19 and that a core of its partition can run, or ends its context with 0x04; each
block goes to the core with room that holds the fewest groups, whose caches are emptied, and its groups start at the entry with s0 to s7 as Table 11.7 gives them; a CALL pins the current edition and starts its graph; a
PLAN takes the lowest free context; a COLLECT joins its group's operation. Where exec answers a next state, under conditions on the state and the operands alone, is said of: nodeLaunch, blockPlace, nodeCall, nodePlan,
nodeCollect. -/
def Obligations.LaunchesAndGraphs : Prop :=
  (∀ (s : State) (id a : Nat) (n : Node) (l : List Byte), s.nodeStarts id 1 n → s.unitGoes 5 id (nodeLaunch id) → n.get 0x18 8 % 64 = 0 →
    s.translate (fnOfQueue n.queue) (n.get 0x18 8) .read = .ok 0 a → s.pocPoison a 64 = false → l = s.pocRead a 64 →
    (codeHeaderOk l = true → (s.coresOf (s.fnPart (fnOfQueue n.queue))).any (fun c => (s.core c).takesWidth (fieldAt l 1 1)) = true →
      ∃ t x, exec (.nodeLaunch id) s = .next t ∧ t.fe.nodes.get? id = some { n with status := .running, stalled := false } ∧ t.fe.launches.get? id = some x ∧
        x.queue = n.queue ∧ x.entry32 = fieldAt l 8 8 ∧ x.entry64 = fieldAt l 0x10 8 ∧ x.widths = fieldAt l 1 1 ∧ x.vregs = 8 * fieldAt l 2 1 ∧
        x.blocks = n.get 0x28 4 ∧ x.groups = n.get 0x2C 1 ∧ x.scratch = 1024 * n.get 0x2E 2 ∧ x.matrix = bit (n.get 0x2D 1) 0 ∧
        x.arg0 = n.get 0x30 8 ∧ x.arg1 = n.get 0x38 8 ∧ x.placed = 0 ∧ x.exited = 0 ∧ t.mem = s.mem ∧ t.cores = s.cores) ∧
    (codeHeaderOk l = false ∨ (s.coresOf (s.fnPart (fnOfQueue n.queue))).any (fun c => (s.core c).takesWidth (fieldAt l 1 1)) = false →
      ∃ t, exec (.nodeLaunch id) s = .next t ∧ Killed t n.queue 0x04 ∧ t.mem = s.mem ∧ t.cores = s.cores)) ∧
  (∀ (s : State) (id core : Nat) (n : Node) (l : Launch), s.fe.nodes.get? id = some n → s.fe.launches.get? id = some l → n.status = .running →
    (s.q l.queue).state = .running → s.mayRun (fnOfQueue l.queue) = true → l.placed < l.blocks → s.launchHeldBack id l = false → s.coreFor l = some core →
    ∃ t b key, exec (.blockPlace id core) s = .next t ∧ t.fe.launches.get? id = some { l with placed := l.placed + 1 } ∧
      (t.core core).blocks.get? key = some b ∧ (s.core core).blocks.get? key = none ∧ b.queue = l.queue ∧ b.node = id ∧ b.block = l.placed ∧
      b.scratchBytes = l.scratch ∧ b.matrix = l.matrix ∧ b.slots.length = l.groups ∧ (l.matrix = true → (t.core core).mx.holder = some key) ∧
      (∀ i, i < l.groups → ∃ slot, b.slots[i]? = some slot ∧ slot < 64 ∧ (s.core core).groups.get? slot = none ∧
        (t.core core).groups.get? slot = some (launchGroup l n id l.placed i (decide ((s.core core).narrow ≠ 0)))) ∧
      (t.core core).l1 = [] ∧ (t.core core).icache = [] ∧ (∀ c, c ≠ core → t.core c = s.core c) ∧ t.mem = s.mem) ∧
  (∀ (l : Launch) (n : Node) (id block i : Nat) (narrow : Bool) (th r : Nat), th < (if narrow then 64 else 32) →
    let g := launchGroup l n id block i narrow
    bit g.live th = true ∧ g.pcs.getD th 0 = (if narrow then l.entry64 else l.entry32) ∧ g.vreg r th = 0 ∧ g.pred r th = decide (r = 7) ∧
      g.sreg 0 = block % 2 ^ 64 ∧ g.sreg 1 = l.blocks % 2 ^ 64 ∧ g.sreg 2 = l.args % 2 ^ 64 ∧ g.sreg 3 = l.arg0 % 2 ^ 64 ∧ g.sreg 4 = l.arg1 % 2 ^ 64 ∧
      g.sreg 5 = l.scratch % 2 ^ 64) ∧
  (∀ (s : State) (id : Nat) (n : Node), s.nodeStarts id 7 n → s.unitGoes 5 id (nodeCall id) →
    (∀ g t0, s.pin n.queue n.ring (some id) none (n.depth + 1) (n.get 0x18 8) (n.get 0x20 8) (.node id) = .ok g t0 →
      ∃ t, exec (.nodeCall id) s = .next t ∧ t.fe.graphs.get? t0.fe.nextGraph = some g ∧ t.fe.nextGraph = t0.fe.nextGraph + 1 ∧ g.queue = n.queue ∧
        g.call = some id ∧ g.depth = n.depth + 1 ∧ g.header = n.get 0x18 8 ∧ g.args = n.get 0x20 8 ∧ g.fetched = 0 ∧ t.mem = t0.mem ∧
        t.fe.nodes.get? id = some { n with status := .running, stalled := false }) ∧
    (n.get 0x18 8 % 64 ≠ 0 → ∃ t, exec (.nodeCall id) s = .next t ∧ Killed t n.queue 0x04 ∧ t.mem = s.mem ∧ t.cores = s.cores)) ∧
  (∀ (s : State) (id : Nat) (n : Node), s.nodeStarts id 8 n → s.l2.refused = none → (∀ e ∈ (s.q n.queue).savedPlans, e.1 ≠ id) →
    (∀ c, s.freePlanCtx = some c → ∃ t p, exec (.nodePlan id) s = .next t ∧ t.fe.plans.get? c = some p ∧ p.queue = n.queue ∧ p.node = id ∧
      p.pc = n.get 0x18 8 ∧ p.wait = .none ∧ p.r 10 = BitVec.ofNat 64 (n.get 0x20 8) ∧ p.r 11 = BitVec.ofNat 64 n.queue ∧
      p.r 2 = BitVec.ofNat 64 (n.get 0x28 8) ∧ (∀ i, i ≠ 2 → i ≠ 10 → i ≠ 11 → p.r i = 0#64) ∧
      t.fe.nodes.get? id = some { n with status := .running, stalled := false } ∧ t.mem = s.mem ∧ t.cores = s.cores) ∧
    (s.freePlanCtx = none → ∃ t, exec (.nodePlan id) s = .next t ∧ t.fe.nodes.get? id = some { n with stalled := true } ∧ t.fe.plans = s.fe.plans ∧ t.mem = s.mem ∧
      t.cores = s.cores)) ∧
  (∀ (s : State) (id g : Nat) (n : Node), s.nodeStarts id 6 n → g = n.get 0x30 2 → s.unitGoes 5 id (nodeCollect id) →
    (s.groupEntry g = [] → s.fab.colls.get? g = none → ∃ t, exec (.nodeCollect id) s = .next t ∧ Killed t n.queue 0x04 ∧ t.mem = s.mem) ∧
    (s.groupEntry g ≠ [] → s.groupState g ≠ 1 → s.fab.colls.get? g = none → ∃ t, exec (.nodeCollect id) s = .next t ∧ Killed t n.queue 0x0D ∧ t.mem = s.mem) ∧
    (∀ v s0, s.groupState g = 1 → s.fab.colls.get? g = none →
      (n.collHead.kind < 2 → n.collHead.count % grpMembers (s.groupEntry g) = 0) →
      (n.collHead.kind = 3 → n.get 0x2F 1 < grpMembers (s.groupEntry g) ∧ n.get 0x2F 1 = grpRank (s.groupEntry g)) →
      s.collRead (fnOfQueue n.queue) (n.collHead.count * n.collHead.width / 2 ^ 16 + 2) (n.get 0x18 8) (n.collHead.count * n.collHead.width) = .ok v s0 →
      rankKids (grpRank (s.groupEntry g)) (grpMembers (s.groupEntry g)) ≠ [] →
      ∃ t c, exec (.nodeCollect id) s = .next t ∧ t.fab.colls.get? g = some c ∧ c.node = some (id, n.queue) ∧ c.head = n.collHead ∧
        c.own = n.collHead.elements v ∧ c.up = none ∧ t.fe.nodes.get? id = some { n with status := .running, stalled := false } ∧ t.mem = s.mem))

/-- R260, R280: a COPY is cut into pieces of 4 MiB, or ends its context with 0x0D where its chip cannot be reached; a free engine takes the next piece, at most eight at a node; a piece that completes has its bytes at the
destination and counts as done; a flush read lets the signal of a copy to host memory go. Where exec answers a next state, under conditions on the state and the operands alone, is said of: nodeCopy, dmaPieceStart,
dmaPieceComplete, dmaFlushReadComplete. -/
def Obligations.CopiesOnEngines : Prop :=
  (∀ (s : State) (id : Nat) (n : Node), s.nodeStarts id 2 n → s.fe.copies.has id = false → 0 < n.get 0x28 8 →
    (s.rangeUnreachable (fnOfQueue n.queue) .read (n.get 0x28 8 / 2 ^ 16 + 2) (n.get 0x18 8) (n.get 0x28 8) = 0 →
      s.rangeUnreachable (fnOfQueue n.queue) .write (n.get 0x28 8 / 2 ^ 16 + 2) (n.get 0x20 8) (n.get 0x28 8) = 0 →
      ∃ t, exec (.nodeCopy id) s = .next t ∧ t.fe.nodes.get? id = some { n with status := .running, stalled := false } ∧
        (∃ x, t.fe.copies.get? id = some x ∧ x.queue = n.queue ∧ x.pieces = List.replicate ((n.get 0x28 8 + 4194303) / 4194304) 0 ∧ x.flushed = true ∧ x.sent = false) ∧ t.mem = s.mem ∧ t.cores = s.cores ∧ t.syn = s.syn) ∧
    (s.rangeUnreachable (fnOfQueue n.queue) .read (n.get 0x28 8 / 2 ^ 16 + 2) (n.get 0x18 8) (n.get 0x28 8) ≠ 0 ∨
        s.rangeUnreachable (fnOfQueue n.queue) .write (n.get 0x28 8 / 2 ^ 16 + 2) (n.get 0x20 8) (n.get 0x28 8) ≠ 0 →
      ∃ t, exec (.nodeCopy id) s = .next t ∧ Killed t n.queue 0x0D ∧ QueueOnly s t n.queue)) ∧
  (∀ (s : State) (id engine i : Nat) (n : Node) (c : Copy), s.fe.nodes.get? id = some n → s.fe.copies.get? id = some c → c.nextPiece = some i →
    engine < 32 → s.fe.engines.has engine = false → (s.enginesOf id).length < 8 → n.status = .running → (s.q n.queue).state = .running →
    s.mayRun (fnOfQueue n.queue) = true → s.copyHeldBack id c = false → s.l2.refused = none →
    s.pieceRemote (fnOfQueue n.queue) pieceFuel (n.piece i).1 (n.piece i).2.1 (n.piece i).2.2 = false →
    ∃ t, exec (.dmaPieceStart id engine) s = .next t ∧ t.fe.copies.get? id = some { c with pieces := c.pieces.set i 1 } ∧
      t.fe.engines.get? engine = some { node := id, piece := i, sent := 0, moved := 0, stopped := false, waiting := [], since := s.time.mono } ∧ t.mem = s.mem ∧ t.cores = s.cores) ∧
  (∀ (s : State) (id engine i : Nat) (n : Node) (c : Copy), s.fe.nodes.get? id = some n → s.fe.copies.get? id = some c → c.nextPiece = some i →
    8 ≤ (s.enginesOf id).length ∨ s.fe.engines.has engine = true → s.l2.refused = none →
    exec (.dmaPieceStart id engine) s = .next (s.unitDone 1 engine)) ∧
  (∀ (s : State) (engine a b : Nat) (e : Engine) (n : Node) (c : Copy) (p : Nat × Nat × Nat), s.fe.engines.get? engine = some e → s.fe.nodes.get? e.node = some n →
    s.fe.copies.get? e.node = some c → e.piece < c.pieces.length → p = n.piece e.piece → e.stopped = false → (s.q n.queue).state.completes = true → s.unitGoes 1 engine (dmaPieceComplete engine) → e.moved = 0 → e.sent = 0 → 0 < p.2.2 →
    p.1 % 2 ^ 16 + p.2.2 ≤ 2 ^ 16 → p.2.1 % 2 ^ 16 + p.2.2 ≤ 2 ^ 16 → n.copyAlloc = false → n.copySignal = false →
    s.translate (fnOfQueue n.queue) p.1 .read = .ok 0 a → s.translate (fnOfQueue n.queue) p.2.1 .write = .ok 0 b →
    s.pocPoison a p.2.2 = false → b + p.2.2 ≤ memSize → Memory.wf s.mem → s.tableRoom →
    (∀ l ∈ linesOf b p.2.2, s.l2.dir.get? l = none) → (∀ i, i < p.2.2 → s.granulePoison ((b + i) / 16) = false) →
    ∃ t x, exec (.dmaPieceComplete engine) s = .next t ∧ cellBytes t.mem b p.2.2 = s.pocRead a p.2.2 ∧
      (∀ y, y < b ∨ b + p.2.2 ≤ y → cellGet t.mem y = cellGet s.mem y) ∧ t.fe.engines.get? engine = none ∧
      t.fe.copies.get? e.node = some x ∧ x.pieces = c.pieces.set e.piece 2 ∧ t.cores = s.cores) ∧
  (∀ (s : State) (engine cd : Nat) (e : Engine) (n : Node) (p : Nat × Nat × Nat), s.fe.engines.get? engine = some e → s.fe.nodes.get? e.node = some n →
    p = n.piece e.piece → e.stopped = false → e.moved = 0 → e.sent = 0 → 0 < p.2.2 → s.translate (fnOfQueue n.queue) p.1 .read = .bad cd →
    (s.q n.queue).state = .running → s.l2.refused = none →
    ∃ t, exec (.dmaPieceComplete engine) s = .next t ∧ Killed t n.queue cd ∧ t.mem = s.mem) ∧
  (∀ (s : State) (id : Nat) (n : Node) (c : Copy), s.fe.nodes.get? id = some n → s.fe.copies.get? id = some c → c.flushed = false →
    (∀ p ∈ c.pieces, p = 2) → s.hostLink (fnOfQueue n.queue) = true →
    ∃ t x, exec (.dmaFlushReadComplete id) s = .next t ∧ t.fe.copies.get? id = some x ∧ x.flushed = true ∧ x.pieces = c.pieces ∧
      (n.copySignal = true → (s.q n.queue).state.completes = true → c.sent = false → n.get 0x30 4 < 2 ^ 29 → handleChip (n.get 0x30 4) s.fab.chipId = none →
        x.sent = true ∧ t.syn.inbound = s.syn.inbound ++ [s.syncMsgOf n.queue (n.get 0x30 4) 0 (n.get 0x38 8) (.node id)]) ∧ t.mem = s.mem)

/-- R281, R282, R283: a plan context executes the instruction at its pc, RV64IMAC with the encodings of the RISC-V document (log entry 16): arithmetic into rd, a branch or a jump of the pc, a load and a store in device
memory; x0 stays zero; the calls of Table 11.11 end the program, launch a graph, wait for one, perform a sync operation or yield; a fault, and a call with a code that the table does not list, end the context of the
queue. Where exec answers a next state, under conditions on the state and the operands alone, is said of: controlCoreInstruction, planExit, planLaunch, planWaitGraph, planSync, planYield, planFault. -/
def Obligations.PlanPrograms : Prop :=
  (∀ (s s0 : State) (ctx w len : Nat) (p : PlanCtx), s.fe.plans.get? ctx = some p → p.stopped = false → p.wait = .none → (s.q p.queue).state = .running →
    s.mayRun (fnOfQueue p.queue) = true → s.unitGoes 2 ctx (controlCoreInstruction ctx) → s.planFetch ctx p = .inr (w, len, s0) → p.x.length = 32 → p.r 0 = 0#64 → len = 2 ∨ len = 4 →
    let a := p.r (bits w 19 15)
    let b := p.r (bits w 24 20)
    let rd := bits w 11 7
    let Done := fun (v : DWord) (pc : Nat) => ∃ t x, exec (.controlCoreInstruction ctx) s = .next t ∧ t.fe.plans.get? ctx = some x ∧ x.pc = pc % 2 ^ 64 ∧
      (∀ i, x.r i = if i = rd ∧ rd ≠ 0 then v else p.r i) ∧ x.wait = .none ∧ t.mem = s.mem ∧ t.cores = s.cores ∧ (∀ k, k ≠ ctx → t.fe.plans.get? k = s.fe.plans.get? k)
    (∀ v, w % 128 ∈ [0x13, 0x1B, 0x33, 0x3B] → Rv.arith w a b = some v → Done v (p.pc + len)) ∧
    (w % 128 = 0x37 → Done (Rv.immU w) (p.pc + len)) ∧
    (w % 128 = 0x17 → Done (BitVec.ofNat 64 p.pc + Rv.immU w) (p.pc + len)) ∧
    (w % 128 = 0x6F → Done (BitVec.ofNat 64 (p.pc + len)) (BitVec.ofNat 64 p.pc + Rv.immJ w).toNat) ∧
    (w % 128 = 0x67 → bits w 14 12 = 0 → Done (BitVec.ofNat 64 (p.pc + len)) ((a + Rv.immI w).toNat / 2 * 2)) ∧
    (∀ taken, w % 128 = 0x63 → Rv.branch (bits w 14 12) a b = some taken →
      ∃ t x, exec (.controlCoreInstruction ctx) s = .next t ∧ t.fe.plans.get? ctx = some x ∧ x.x = p.x ∧
        x.pc = (if taken then (BitVec.ofNat 64 p.pc + Rv.immB w).toNat else p.pc + len) % 2 ^ 64 ∧ t.mem = s.mem) ∧
    (∀ n pa, w % 128 = 0x03 → Rv.accessBytes false (bits w 14 12) = some n → (a + Rv.immI w).toNat % n = 0 →
      s0.translate (fnOfQueue p.queue) (a + Rv.immI w).toNat .read = .ok 0 pa → s0.pocPoison pa n = false →
      Done (Rv.loadValue (bits w 14 12) n (ofLe (s0.pocRead pa n))) (p.pc + len)) ∧
    (∀ n pa d, w % 128 = 0x23 → Rv.accessBytes true (bits w 14 12) = some n → (a + Rv.immS w).toNat % n = 0 →
      s0.translate (fnOfQueue p.queue) (a + Rv.immS w).toNat .write = .ok 0 pa → pa % n = 0 → s0.l2.dir.get? (pa / 128) = some d → d.state.hasData = true →
      d.busy = none → d.data.length = 128 →
      ∃ t x e, exec (.controlCoreInstruction ctx) s = .next t ∧ t.fe.plans.get? ctx = some x ∧ x.x = p.x ∧ x.pc = (p.pc + len) % 2 ^ 64 ∧
        t.l2.dir.get? (pa / 128) = some e ∧ (e.data.drop (pa % 128)).take n = leBytes n b.toNat ∧
        (∀ i, i < pa % 128 ∨ pa % 128 + n ≤ i → i < 128 → e.data.getD i 0#8 = d.data.getD i 0#8) ∧ t.mem = s.mem)) ∧
  (∀ (s : State) (ctx : Nat) (p : PlanCtx) (n : Node), s.atCall ctx 0 = some p → s.fe.nodes.get? p.node = some n → s.tableRoom →
    ∃ t, exec (.planExit ctx) s = .next t ∧ t.fe.plans.get? ctx = none ∧ t.l2.resv.get? ctx = none ∧
      t.fe.nodes.get? p.node = some { n with done := true } ∧ t.mem = s.mem ∧ t.cores = s.cores) ∧
  (∀ (s : State) (ctx : Nat) (p : PlanCtx) (n : Node), s.inWait ctx = some p → s.atCall ctx 1 = some p → s.fe.nodes.get? p.node = some n →
    s.unitGoes 2 ctx (planLaunch ctx) →
    (n.depth < 8 → s.nextHandle p.node = none →
      exec (.planLaunch ctx) s = .next ((s.putPlan ctx { p with wait := .launchFull }).unitDone 2 ctx)) ∧
    (∀ h g t0, n.depth < 8 → s.nextHandle p.node = some h →
      s.pin p.queue n.ring none (some (p.node, h)) (n.depth + 1) (p.r 10).toNat (p.r 11).toNat (.node p.node) = .ok g t0 → p.x.length = 32 →
      ∃ t x, exec (.planLaunch ctx) s = .next t ∧ t.fe.graphs.get? t0.fe.nextGraph = some g ∧ (t.handlesOf p.node).get? h = some t0.fe.nextGraph ∧
        t.fe.plans.get? ctx = some x ∧ x.r 10 = BitVec.ofNat 64 h ∧ x.pc = (p.pc + 4) % 2 ^ 64 ∧ x.wait = .none ∧ t.mem = t0.mem) ∧
    (8 ≤ n.depth → ∃ t, exec (.planLaunch ctx) s = .next t ∧ Killed t p.queue 0x04 ∧ t.mem = s.mem ∧ t.cores = s.cores)) ∧
  (∀ (s : State) (ctx : Nat) (p : PlanCtx), s.inWait ctx = some p → s.atCall ctx 2 = some p → p.wait = .none → p.x.length = 32 →
    (∀ g, (s.handlesOf p.node).get? (p.r 10).toNat = some g → s.fe.graphs.has g = true →
      exec (.planWaitGraph ctx) s = .next (s.putPlan ctx { p with wait := .graph (p.r 10).toNat })) ∧
    (∀ g, (s.handlesOf p.node).get? (p.r 10).toNat = some g → s.fe.graphs.has g = false →
      ∃ t x, exec (.planWaitGraph ctx) s = .next t ∧ (t.handlesOf p.node).get? (p.r 10).toNat = none ∧ t.fe.plans.get? ctx = some x ∧
        x.pc = (p.pc + 4) % 2 ^ 64 ∧ x.x = p.x ∧ x.wait = .none ∧ t.mem = s.mem)) ∧
  (∀ (s : State) (ctx : Nat) (p : PlanCtx), s.atCall ctx 3 = some p → s.fe.plans.get? ctx = some p →
    ((p.r 11).toNat ≤ 6 → (p.r 10).toNat < 2 ^ 29 → handleChip (p.r 10).toNat s.fab.chipId = none →
      ∃ t, exec (.planSync ctx) s = .next t ∧ t.fe.plans.get? ctx = some { p with wait := .sync } ∧
        t.syn.inbound.length + t.syn.registering.length = s.syn.inbound.length + s.syn.registering.length + 1 ∧
        ((p.r 11).toNat ∈ [0, 3, 5] → t.syn.inbound = s.syn.inbound ++ [s.syncMsgOf p.queue (p.r 10).toNat (p.r 11).toNat (p.r 12).toNat (.plan ctx)]) ∧ t.mem = s.mem) ∧
    (6 < (p.r 11).toNat → ∃ t, exec (.planSync ctx) s = .next t ∧ Killed t p.queue 0x04 ∧ QueueOnly s t p.queue)) ∧
  (∀ (s : State) (ctx : Nat) (p : PlanCtx), s.atCall ctx 4 = some p → p.x.length = 32 →
    ∃ t x, exec (.planYield ctx) s = .next t ∧ t.fe.plans.get? ctx = some x ∧ x.x = p.x ∧ x.pc = (p.pc + 4) % 2 ^ 64 ∧ t.mem = s.mem ∧ t.cores = s.cores) ∧
  (∀ (s : State) (ctx : Nat) (p : PlanCtx), s.fe.plans.get? ctx = some p →
    (∀ c, s.planStep ctx p = .fault c → ∃ t, exec (.planFault ctx) s = .next t ∧ Killed t p.queue c ∧ t.mem = s.mem) ∧
    (∀ k, s.planStep ctx p = .call k → 4 < k → ∃ t, exec (.planFault ctx) s = .next t ∧ Killed t p.queue 0x04 ∧ t.mem = s.mem))

/-- R158, R287, R297, R298, R299, R300, R301: the sync unit applies the operations on an object in the order in which they reach it, each whole: a signal raises a fence and releases every waiter whose condition then holds, a
post gives units to the oldest waiters, an arrival that completes a barrier starts its next generation; an ERROR object answers its code, an error releases every waiter with it, and an operation that its object does not
allow ends the context with 0x02. Where exec answers a next state, under conditions on the state and the operands alone, is said of: syncObjectApply. -/
def Obligations.SyncOperations : Prop :=
  (∀ (s : State) (i : Nat) (m : SynMsg) (x : SynObj), s.applies i m x →
    (m.op = 0 → x.code = 0 → (∀ w ∈ x.waiters, w.op = 1 ∨ w.op = 2) →
      let v := max x.value (m.value % 2 ^ 64)
      let met := fun w : Waiter => decide ((w.op = 1 ∧ w.value ≤ v) ∨ (w.op = 2 ∧ v = w.value))
      ∃ t, exec (.syncObjectApply i) s = .next t ∧ t.syn.inbound = dropAt s.syn.inbound i ∧
        t.syn.objs.get? m.obj = some { x with value := v, waiters := x.waiters.filter (fun w => !met w) } ∧
        t.syn.outbound = s.syn.outbound ++ (x.waiters.filter met).map (fun w => w.release 0) ++ [m.answer 0] ∧ ObjectOnly s t m.obj) ∧
    (m.op = 3 → x.code = 0 →
      let v := min (x.value + m.value % 2 ^ 32) 0xFFFFFFFF
      let k := min v x.waiters.length
      ∃ t y, exec (.syncObjectApply i) s = .next t ∧ t.syn.inbound = dropAt s.syn.inbound i ∧ t.syn.objs.get? m.obj = some y ∧
        y.value = v - k ∧ y.waiters = x.waiters.drop k ∧ (y.saturated = true ↔ x.saturated = true ∨ 0xFFFFFFFF < x.value + m.value % 2 ^ 32) ∧
        t.syn.outbound = s.syn.outbound ++ (x.waiters.take k).map (fun w => w.release 0) ++ [m.answer 0] ∧ ObjectOnly s t m.obj) ∧
    (m.op = 5 → x.code = 0 → (∀ w ∈ x.waiters, w.op = 6) →
      (x.arrivals + 1 ≠ x.participants → (∀ w ∈ x.waiters, w.value % 2 ^ 32 = x.generation) →
        ∃ t, exec (.syncObjectApply i) s = .next t ∧ t.syn.objs.get? m.obj = some { x with arrivals := x.arrivals + 1 } ∧
          t.syn.outbound = s.syn.outbound ++ [m.answer (x.generation * 2 ^ 32)] ∧ ObjectOnly s t m.obj) ∧
      (x.arrivals + 1 = x.participants → (∀ w ∈ x.waiters, w.value % 2 ^ 32 = x.generation) → x.generation < 2 ^ 32 →
        ∃ t, exec (.syncObjectApply i) s = .next t ∧
          t.syn.objs.get? m.obj = some { x with arrivals := 0, generation := (x.generation + 1) % 2 ^ 32, waiters := [] } ∧
          t.syn.outbound = s.syn.outbound ++ x.waiters.map (fun w => w.release 0) ++ [m.answer (x.generation * 2 ^ 32)] ∧ ObjectOnly s t m.obj)) ∧
    (m.op < 16 → x.code ≠ 0 → ∃ t, exec (.syncObjectApply i) s = .next t ∧ t.syn.objs = s.syn.objs ∧ t.syn.inbound = dropAt s.syn.inbound i ∧
      t.syn.outbound = s.syn.outbound ++ [m.answer x.code] ∧ ObjectOnly s t m.obj)) ∧
  (∀ (s : State) (i : Nat) (m : SynMsg) (x : SynObj), s.syn.inbound[i]? = some m → firstOfObj s.syn.inbound i m.obj = true →
    s.syn.objs.get? m.obj = some x → x.quiet → 16 < m.op → s.admitsFn x (fnOfQueue m.queue) = true →
    (x.code = 0 → ∃ t, exec (.syncObjectApply i) s = .next t ∧ t.syn.objs.get? m.obj = some { x with code := m.op - 16, waiters := [] } ∧
      t.syn.outbound = s.syn.outbound ++ x.waiters.map (fun w => w.release (m.op - 16)) ∧ ObjectOnly s t m.obj) ∧
    (x.code ≠ 0 → ∃ t, exec (.syncObjectApply i) s = .next t ∧ t.syn.objs = s.syn.objs ∧ t.syn.outbound = s.syn.outbound ∧ ObjectOnly s t m.obj)) ∧
  (∀ (s : State) (i : Nat) (m : SynMsg), s.syn.inbound[i]? = some m → firstOfObj s.syn.inbound i m.obj = true → m.op < 16 →
    (s.q m.queue).state.alive = true →
    (s.syn.objs.get? m.obj = none ∨ ∃ x, s.syn.objs.get? m.obj = some x ∧ (x.type.defines m.op = false ∨ s.admitsFn x (fnOfQueue m.queue) = false)) →
    ∃ t, exec (.syncObjectApply i) s = .next t ∧ Killed t m.queue 0x02 ∧ t.syn.objs = s.syn.objs ∧ t.mem = s.mem) ∧
  (∀ (s : State) (i : Nat) (m : SynMsg), s.syn.inbound[i]? = some m → firstOfObj s.syn.inbound i m.obj = false → exec (.syncObjectApply i) s = .next s)

/-- R157, R288, R302, R303: a wait registers and is evaluated once, ending at once when its condition holds or its object is ERROR; one that finds the store of 8,192 semaphore waits full tries again later; a release reaches
the threads of a core, which go on with the status in dst, a WAIT node, which completes or with an error ends its queue with 0x09, a plan call, which returns it in a0, or another chip; a group that has stopped takes its
waits on this chip's objects back, and those on other chips' objects stand until the answer comes. Where exec answers a next state, under conditions on the state and the operands alone, is said of: syncWaitRegister,
syncRegisterRetry, waiterRelease, syncWaitCancel. -/
def Obligations.SyncWaits : Prop :=
  (∀ (s : State) (i o : Nat) (w : Waiter) (x : SynObj), s.syn.registering[i]? = some (o, w) → s.syn.objs.get? o = some x → x.quiet →
    x.type.defines w.op = true → s.admitsFn x (fnOfQueue w.queue) = true →
    (x.code = 0 → x.type ≠ .sem → x.holdsFor w = false → (∀ v ∈ x.waiters, x.holdsFor v = false) →
      ∃ t, exec (.syncWaitRegister i) s = .next t ∧ t.syn.objs.get? o = some { x with waiters := x.waiters ++ [w] } ∧
        t.syn.registering = dropAt s.syn.registering i ∧ t.syn.outbound = s.syn.outbound ∧ ObjectOnly s t o) ∧
    (x.code = 0 → x.type ≠ .sem → x.holdsFor w = true → (∀ v ∈ x.waiters, x.holdsFor v = false) →
      ∃ t, exec (.syncWaitRegister i) s = .next t ∧ t.syn.objs.get? o = some x ∧ t.syn.outbound = s.syn.outbound ++ [w.release 0] ∧ ObjectOnly s t o) ∧
    (x.code = 0 → x.type = .sem → 1 ≤ x.value → x.waiters = [] →
      ∃ t, exec (.syncWaitRegister i) s = .next t ∧ t.syn.objs.get? o = some { x with value := x.value - 1 } ∧
        t.syn.outbound = s.syn.outbound ++ [w.release 0] ∧ ObjectOnly s t o) ∧
    (x.code = 0 → x.type = .sem → x.value = 0 → s.semWaiters < 8192 →
      ∃ t, exec (.syncWaitRegister i) s = .next t ∧ t.syn.objs.get? o = some { x with waiters := x.waiters ++ [w] } ∧
        t.syn.outbound = s.syn.outbound ∧ ObjectOnly s t o) ∧
    (x.code = 0 → x.type = .sem → x.value = 0 → 8192 ≤ s.semWaiters →
      exec (.syncWaitRegister i) s = .next { s with
        syn.registering := dropAt s.syn.registering i, syn.retrying := s.syn.retrying ++ [(o, w)] }) ∧
    (x.code ≠ 0 → x.waiters = [] →
      ∃ t, exec (.syncWaitRegister i) s = .next t ∧ t.syn.objs.get? o = some x ∧ t.syn.outbound = s.syn.outbound ++ [w.release x.code] ∧ ObjectOnly s t o)) ∧
  (∀ (s : State) (i o : Nat) (w : Waiter) (x : SynObj), s.syn.retrying[i]? = some (o, w) → s.syn.objs.get? o = some x → x.quiet →
    x.type = .sem → w.op = 4 → s.admitsFn x (fnOfQueue w.queue) = true → x.code = 0 → x.value = 0 →
    (8192 ≤ s.semWaiters → exec (.syncRegisterRetry i) s = .next s) ∧
    (s.semWaiters < 8192 → ∃ t, exec (.syncRegisterRetry i) s = .next t ∧ t.syn.retrying = dropAt s.syn.retrying i ∧
      t.syn.objs.get? o = some { x with waiters := x.waiters ++ [w] } ∧ ObjectOnly s t o)) ∧
  (∀ (s : State) (i o : Nat) (w : Waiter), s.syn.registering[i]? = some (o, w) → s.syn.objs.get? o = none → (s.q w.queue).state.alive = true →
    (∀ chip seq, w.who ≠ .remote chip seq) →
    ∃ t, exec (.syncWaitRegister i) s = .next t ∧ Killed t w.queue 0x02 ∧ t.syn.registering = dropAt s.syn.registering i ∧ t.mem = s.mem) ∧
  (∀ (s : State) (i c slot th dst pc num : Nat) (r : SynRelease) (g : Group), s.syn.outbound[i]? = some r → r.who = .core c slot th dst pc num →
    (s.core c).groups.get? slot = some g → g.queue = r.queue → g.faulted = false → g.live ≠ 0 →
    ∃ t h, exec (.waiterRelease i) s = .next t ∧ (t.core c).groups.get? slot = some h ∧ h.sreg dst = r.status % 2 ^ 64 ∧ (∀ k, k ≠ dst → h.sreg k = g.sreg k) ∧
      h.v = g.v ∧ h.p = g.p ∧ h.live = g.live ∧ t.syn.outbound = dropAt s.syn.outbound i ∧ t.mem = s.mem ∧
      (r.isWait = true → h.waiting = natAndNot 64 g.waiting th ∧ (t.core c).waits = (s.core c).waits - 1 ∧
        (∀ k, k < 64 → h.pcs.getD k 0 = if bit th k then (g.pcs.getD k 0 + 8) % 2 ^ 57 else g.pcs.getD k 0) ∧
        (r.status = 0 → 2 ≤ r.scope → (t.core c).l1 = [] ∧ (t.core c).scl = [] ∧ (t.core c).victim = [])) ∧
      (r.isWait = false → h.pcs = g.pcs ∧ h.waiting = g.waiting)) ∧
  (∀ (s : State) (i id : Nat) (r : SynRelease) (n : Node), s.syn.outbound[i]? = some r → r.who = .node id → s.fe.nodes.get? id = some n →
    (r.isWait = true → r.status % 256 ≠ 0 → (s.q n.queue).state.alive = true →
      ∃ t, exec (.waiterRelease i) s = .next t ∧ Killed t n.queue 0x09 ∧ t.fe.nodes.get? id = some { n with status := .skipped } ∧ t.mem = s.mem) ∧
    (r.isWait = false ∨ r.status % 256 = 0 → n.type ≠ 2 →
      ∃ t, exec (.waiterRelease i) s = .next t ∧ t.fe.nodes.get? id = some { n with done := true } ∧ t.mem = s.mem ∧ t.cores = s.cores)) ∧
  (∀ (s : State) (i ctx : Nat) (r : SynRelease) (p : PlanCtx), s.syn.outbound[i]? = some r → r.who = .plan ctx → s.fe.plans.get? ctx = some p →
    p.queue = r.queue → p.x.length = 32 →
    ∃ t x, exec (.waiterRelease i) s = .next t ∧ t.fe.plans.get? ctx = some x ∧ x.r 10 = BitVec.ofNat 64 r.status ∧ x.pc = (p.pc + 4) % 2 ^ 64 ∧
      x.wait = .none ∧ (∀ k, k ≠ 10 → x.r k = p.r k) ∧ t.mem = s.mem ∧ t.cores = s.cores) ∧
  (∀ (s : State) (i chip seq : Nat) (r : SynRelease), s.syn.outbound[i]? = some r → r.who = .remote chip seq →
    ∃ t p, exec (.waiterRelease i) s = .next t ∧ t.fab.answers = s.fab.answers ++ [p] ∧ p.type = 0x14 ∧ p.dst = chip ∧ p.seq = seq ∧ p.addr = r.status ∧
      p.op = (if r.isWait then 1 else 0) ∧ t.mem = s.mem ∧ t.cores = s.cores) ∧
  (∀ (s : State) (c slot : Nat) (g : Group), (s.core c).groups.get? slot = some g → g.stopped = true →
    (∀ r ∈ s.syn.outbound, (r.isWait && r.who.isGroup c slot) = false) →
    ∃ t h, exec (.syncWaitCancel c slot) s = .next t ∧ (t.core c).groups.get? slot = some h ∧ h.pcs = g.pcs ∧ h.s = g.s ∧ h.v = g.v ∧
      (∀ o x w th dst pc num k, s.syn.objs.get? o = some x → w ∈ x.waiters → w.who = .core c slot th dst pc num → k < 64 → bit th k = true → bit h.waiting k = false) ∧
      (∀ k, k < 64 → bit g.waiting k = false → bit h.waiting k = false) ∧ t.fab.remoteWaits = s.fab.remoteWaits ∧
      (∀ o x, s.syn.objs.get? o = some x → t.syn.objs.get? o = some { x with waiters := x.waiters.filter (fun w => !w.who.isGroup c slot) }) ∧
      (∀ e ∈ t.syn.registering ++ t.syn.retrying, e.2.who.isGroup c slot = false) ∧ t.mem = s.mem)

/-- R295, R310, R311, R312, R313: a function creates an object in its partition's range, and its owner destroys it, sets it to ERROR and resets it; a function that the access level admits operates on it, reads it, mirrors it
and is notified; each command answers the result of Table 12.8; sync_range is written with a range that neither overlaps another nor drops a created object. Where exec answers a next state, under conditions on the state
and the operands alone, is said of: synCreate, synDestroy, synOperate, synSetError, synResetObj, synRead, synMirror, synNotify, syncObjectApply, syncRangeWrite. -/
def Obligations.SyncCommands : Prop :=
  (∀ (s : State) (f v o : Nat), o = cmdObj v → cmdCode v = 0 → cmdType v ≠ 3 → cmdParam v = 0 → (cmdType v = 2 ↔ cmdPart v ≠ 0) → s.heldOf f = [] →
    (s.inRange (s.fnPart f) o = true → s.syn.objs.has o = false →
      ∃ t x, exec (.synCreate f v) s = .next t ∧ t.synResultOf f = 0 ∧ t.syn.objs.get? o = some x ∧ x.owner = f ∧ x.access = cmdAccess v ∧ x.code = 0 ∧
        x.waiters = [] ∧ x.generation = 0 ∧ x.arrivals = 0 ∧ x.participants = cmdPart v ∧ x.type.code = cmdType v ∧
        (cmdType v = 0 → x.value = (s.fn f).synArg) ∧ (cmdType v = 1 → x.value = (s.fn f).synArg % 2 ^ 32) ∧ ObjectOnly s t o) ∧
    (s.inRange (s.fnPart f) o = false → ∃ t, exec (.synCreate f v) s = .next t ∧ t.synResultOf f = 1 ∧ t.syn = s.syn ∧ t.mem = s.mem) ∧
    (s.inRange (s.fnPart f) o = true → s.syn.objs.has o = true → ∃ t, exec (.synCreate f v) s = .next t ∧ t.synResultOf f = 3 ∧ t.syn = s.syn ∧ t.mem = s.mem)) ∧
  (∀ (s : State) (f v o : Nat), o = cmdObj v → s.syn.objs.get? o = none → cmdPlain v = true → cmdParam v = 0 → s.heldOf f = [] →
    ∀ c ∈ [Instr.synDestroy f v, .synResetObj f v, .synRead f v], (c = .synDestroy f v → cmdCode v = 1) → (c = .synResetObj f v → cmdCode v = 4) →
      (c = .synRead f v → cmdCode v = 5) → ∃ t, exec c s = .next t ∧ t.synResultOf f = 3 ∧ t.syn = s.syn ∧ t.mem = s.mem) ∧
  (∀ (s : State) (f v o : Nat) (x : SynObj), o = cmdObj v → s.syn.objs.get? o = some x → x.quiet → cmdPlain v = true → x.code < 256 → s.heldOf f = [] →
    (cmdCode v = 1 → cmdParam v = 0 → x.owner = f → x.code = 0 →
      ∃ t, exec (.synDestroy f v) s = .next t ∧ t.synResultOf f = 0 ∧ t.syn.objs.get? o = none ∧
        t.syn.outbound = s.syn.outbound ++ x.waiters.map (fun w => w.release 0x10) ∧ ObjectOnly s t o) ∧
    (cmdCode v = 1 → cmdParam v = 0 → x.owner ≠ f → ∃ t, exec (.synDestroy f v) s = .next t ∧ t.synResultOf f = 2 ∧ t.syn = s.syn ∧ t.mem = s.mem) ∧
    (cmdCode v = 2 → cmdParam v = 0 → x.type = .fence → s.admitsFn x f = true →
      (x.code = 0 → ∃ t y, exec (.synOperate f v) s = .next t ∧ t.synResultOf f = 0 ∧ t.syn.objs.get? o = some y ∧
        y.value = max x.value ((s.fn f).synArg % 2 ^ 64) ∧ y.code = 0 ∧ ObjectOnly s t o) ∧
      (x.code ≠ 0 → ∃ t, exec (.synOperate f v) s = .next t ∧ t.synResultOf f = 3 ∧ t.syn = s.syn ∧ t.mem = s.mem)) ∧
    (cmdCode v = 2 → cmdParam v = 5 → x.type = .bar → s.admitsFn x f = true → x.code = 0 → x.arrivals + 1 ≠ x.participants →
      ∃ t y, exec (.synOperate f v) s = .next t ∧ t.synResultOf f = 0 ∧ (t.fn f).synResult = x.generation * 2 ^ 32 ∧ t.syn.objs.get? o = some y ∧
        y.arrivals = x.arrivals + 1 ∧ y.generation = x.generation ∧ ObjectOnly s t o) ∧
    (cmdCode v = 3 → 1 ≤ cmdParam v → cmdParam v ≤ 0x11 → x.owner = f → x.code = 0 →
      ∃ t, exec (.synSetError f v) s = .next t ∧ t.synResultOf f = 0 ∧ t.syn.objs.get? o = some { x with code := cmdParam v, waiters := [] } ∧
        t.syn.outbound = s.syn.outbound ++ x.waiters.map (fun w => w.release (cmdParam v)) ∧ ObjectOnly s t o) ∧
    (cmdCode v = 4 → cmdParam v = 0 → x.owner = f →
      (x.waiters = [] → ∃ t y, exec (.synResetObj f v) s = .next t ∧ t.synResultOf f = 0 ∧ t.syn.objs.get? o = some y ∧ y.code = 0 ∧ y.saturated = false ∧
        y.arrivals = 0 ∧ y.generation = x.generation ∧ (x.type = .fence → y.value = (s.fn f).synArg) ∧
        (x.type = .sem → y.value = (s.fn f).synArg % 2 ^ 32) ∧ ObjectOnly s t o) ∧
      (x.waiters ≠ [] → ∃ t, exec (.synResetObj f v) s = .next t ∧ t.synResultOf f = 5 ∧ t.syn = s.syn ∧ t.mem = s.mem)) ∧
    (cmdCode v = 5 → cmdParam v = 0 → s.admitsFn x f = true →
      ∃ t, exec (.synRead f v) s = .next t ∧ t.synResultOf f = 0 ∧
        (t.fn f).synResult = (if x.type = .bar then x.generation * 2 ^ 32 + x.arrivals else x.value) ∧ t.syn = s.syn ∧ t.mem = s.mem) ∧
    (cmdCode v = 6 → cmdParam v = 0 → (s.fn f).synArg % 16 = 0 → s.admitsFn x f = true →
      ∃ t, exec (.synMirror f v) s = .next t ∧ t.synResultOf f = 0 ∧
        t.syn.objs.get? o = some { x with mirror := if (s.fn f).synArg = 0 then none else some (f, (s.fn f).synArg) } ∧ ObjectOnly s t o) ∧
    (cmdCode v = 7 → cmdParam v < vectorsOf f → s.admitsFn x f = true →
      (x.notifies (s.fn f).synArg = false → ∃ t, exec (.synNotify f v) s = .next t ∧ t.synResultOf f = 0 ∧
        t.syn.objs.get? o = some { x with notify := some (f, cmdParam v, (s.fn f).synArg) } ∧ ObjectOnly s t o) ∧
      (x.notifies (s.fn f).synArg = true → (s.fn f).gate = .opened → ∃ t, exec (.synNotify f v) s = .next t ∧ t.synResultOf f = 0 ∧
        t.syn.objs.get? o = some x ∧ (t.vec f (cmdParam v)).due = true ∧ ObjectOnly s t o))) ∧
  (∀ (s : State) (o f pa : Nat) (i : Nat) (m : SynMsg) (x : SynObj), s.syn.inbound[i]? = some m → firstOfObj s.syn.inbound i o = true → m.obj = o →
    s.syn.objs.get? o = some x → x.type = .fence → m.op = 0 → x.code = 0 → x.waiters = [] → x.notify = none → x.mirror = some (f, 16 * pa) →
    s.admitsFn x (fnOfQueue m.queue) = true → x.value < m.value → m.value < 2 ^ 64 → s.translate f (16 * pa) .write = .ok 0 (16 * pa) →
    16 * pa + 16 ≤ memSize → Memory.wf s.mem → s.l2.dir.get? (pa / 8) = none → s.granulePoison pa = false →
    ∃ t, exec (.syncObjectApply i) s = .next t ∧ cellBytes t.mem (16 * pa) 16 = leBytes 8 m.value ++ leBytes 8 0) ∧
  (∀ (s : State) (who : Origin) (p v : Nat), s.deviceCheck who (E.syncRange + p) = 0 → p < 64 →
    (s.syncRangeStatus p v = 0 → ∃ t, exec (.syncRangeWrite who p v) s = .next t ∧ t.num (E.syncRange + p) = v ∧ t.syn = s.syn ∧ t.mem = s.mem) ∧
    (v = bits v 7 0 + bits v 24 16 * 2 ^ 16 → bits v 24 16 ≤ 256 → 256 < bits v 7 0 + bits v 24 16 ∨
        (∃ o, o ∈ s.syn.objs.keys ∧ s.inRange p o = true ∧ (o / 256 < bits v 7 0 ∨ bits v 7 0 + bits v 24 16 ≤ o / 256)) →
      exec (.syncRangeWrite who p v) s = .next (s.answer 5)))

/-- R231, R336, R337, R338, R339, R341, R472: an FLR closes the gate, stops the queues and drops the messages of its function, F0's those of every virtual function; when nothing of the function can land it ends with
registers, queues and translations at reset, a new epoch, and the gate where fn_enable puts it; a disable drains, with a window for each queue, and ends in the same way, keeping kill codes; an enable opens a disabled
gate. Where exec answers a next state, under conditions on the state and the operands alone, is said of: flr, flrComplete, fnDisable, fnEnable, drainWindowExpire, disablePoint, disableComplete. -/
def Obligations.FunctionGates : Prop :=
  (∀ (s : State) (who : Origin) (f : Nat), f < 256 → s.fnExists f = true →
    (who.iface = 0 → s.configLive = true) → (who.iface ≠ 0 → s.deviceCheck who (E.fnReset + f) = 0) →
    ∃ t, exec (.flr who f) s = .next t ∧ t.mem = s.mem ∧ t.cores = s.cores ∧ (f = 0 → t.hif.vfEnable = false) ∧
      (∀ g, g = f ∨ (f = 0 ∧ s.fnExists g = true) → (s.fn g).reset = none →
        (t.fn g).gate = .resetting ∧ (t.fn g).reset = some { kind := 5, since := s.time.mono, partition := 0 } ∧
        (∀ q, fnOfQueue q = g → (s.q q).state ≠ .disabled → (t.q q).state = .resetting) ∧
        (∀ v, v < 64 → (t.vec g v).due = false ∧ (t.vec g v).pending = false)) ∧
      (∀ q, fnOfQueue q ≠ f → f ≠ 0 → t.q q = s.q q)) ∧
  (∀ (s : State) (f : Nat) (run : ResetRun), (s.fn f).reset = some run → run.kind = 5 → f < 256 →
    (∀ q ∈ queuesOfFn f, (s.q q).state = .resetting → (s.q q).settled = true) → (∀ r ∈ s.fab.reqs.vals, fnOfQueue r.queue ≠ f) →
    (f = 0 → ∀ e ∈ s.hif.fns, 0 < e.1 → e.2.reset = none) → s.unitGoes 12 f (flrComplete f) →
    ∃ t, exec (.flrComplete f) s = .next t ∧
      (t.fn f).gate = (if s.fnExists f = true ∧ s.num (E.fnEnable + f) = 1 then .opened else .disabled) ∧ (t.fn f).reset = none ∧
      t.num (E.fnEpoch + f) = (s.num (E.fnEpoch + f) + 1) % 2 ^ 32 ∧ bit t.hif.fnEvent f = true ∧
      (∀ q, fnOfQueue q = f → t.q q = Queue.initial) ∧ (∀ e ∈ t.hif.tcache, e.fn ≠ f) ∧ (∀ e ∈ t.hif.atsCache, e.fn ≠ f)) ∧
  (∀ (s : State) (who : Origin) (f : Nat), f < 256 → s.deviceCheck who (E.fnEnable + f) = 0 →
    ((s.fn f).gate = .opened → ∃ t, exec (.fnDisable who f) s = .next t ∧ (t.fn f).gate = .draining ∧ (t.fn f).disableBegun = true ∧
      (t.fn f).disableAt = s.time.mono ∧ t.num (E.fnEnable + f) = 0 ∧ (t.vec f (if f = 0 then 5 else 0)).due = true ∧
      (∀ q, t.q q = s.q q) ∧ t.mem = s.mem ∧ t.cores = s.cores) ∧
    ((s.fn f).gate = .disabled → s.fnExists f = true → ∃ t, exec (.fnEnable who f) s = .next t ∧ (t.fn f).gate = .opened ∧
      t.num (E.fnEnable + f) = 1 ∧ (∀ q, t.q q = s.q q) ∧ t.mem = s.mem ∧ t.cores = s.cores) ∧
    ((s.fn f).gate ≠ .disabled → exec (.fnEnable who f) s = .next (s.answer 5))) ∧
  (∀ (s : State) (q : Nat), (s.fn (fnOfQueue q)).gate = .draining → s.inFlight q = true → (s.q q).state.alive = true →
    (s.time.mono < (s.fn (fnOfQueue q)).disableAt + min (s.num (E.queueTimeout + q % 16) (fnOfQueue q)) 1000000 * 1000 →
      exec (.drainWindowExpire q) s = .next s) ∧
    ((s.fn (fnOfQueue q)).disableAt + min (s.num (E.queueTimeout + q % 16) (fnOfQueue q)) 1000000 * 1000 ≤ s.time.mono →
      ∃ t, exec (.drainWindowExpire q) s = .next t ∧ Killed t q 0x0E ∧ (t.q q).killInFlight = true ∧ QueueOnly s t q)) ∧
  (∀ (s : State) (f : Nat), (s.fn f).gate = .draining → (s.fn f).pointReached = false → (queuesOfFn f).any s.inFlight = false →
    ∃ t, exec (.disablePoint f) s = .next t ∧ (t.fn f).pointReached = true ∧ (t.fn f).gate = .draining ∧ (t.cntFn f).accums = (if s.obs.fns.has f then [] else (s.cntFn f).accums) ∧
      (∀ b, b < 16 → s.num (E.trcOwner + b) = f → (t.trc b).state = .disabled ∧ (t.trc b).staged = []) ∧ t.mem = s.mem ∧ t.fe = s.fe) ∧
  (∀ (s : State) (f : Nat), (s.fn f).gate = .draining → (s.fn f).pointReached = true → f < 256 → (∀ r ∈ s.fab.reqs.vals, fnOfQueue r.queue ≠ f) →
    (∀ k ∈ s.cores.vals, ∀ e ∈ k.sb, fnOfQueue e.queue ≠ f) → (∀ o ∈ s.syn.objs, o.2.owner ≠ f) → s.unitGoes 12 f (disableComplete f) →
    ∃ t, exec (.disableComplete f) s = .next t ∧ (t.fn f).gate = .disabled ∧ t.num (E.fnEpoch + f) = (s.num (E.fnEpoch + f) + 1) % 2 ^ 32 ∧
      bit t.hif.fnEvent f = true ∧ t.mem = s.mem ∧ t.cores = s.cores ∧
      (∀ q, fnOfQueue q = f → (t.q q).state = .disabled ∧ (t.q q).killCode = (s.q q).killCode ∧ (t.q q).faultValid = (s.q q).faultValid ∧
        (t.q q).read = (s.q q).read) ∧
      (∀ q, fnOfQueue q ≠ f → t.q q = s.q q))

/-- R327, R328, R329, R330, R340, R341, R315, R316, R318: a partition reset puts every bound function into a reset at one origin; the mask of a partition changes only between idle cores and disabled functions, after its
lines went to I; a slab is granted from free to the end of a partition's view, and released, zeroed and free again; a function is bound while its gate is DISABLED; VF Enable, D3hot and the BAR2 size act as Table 13.1 and
R341 say. Where exec answers a next state, under conditions on the state and the operands alone, is said of: partitionReset, partitionQmaskWrite, slabGrant, slabRelease, slabZeroComplete, fnPartitionWrite, vfEnableWrite,
d3hotEntry, bar2Resize. -/
def Obligations.PartitionsAndSlabs : Prop :=
  (∀ (s : State) (who : Origin) (p : Nat), p < 64 → s.deviceCheck who (E.partitionReset + p) = 0 → s.unitGoes 13 p (partitionReset who p) →
    (∃ t, exec (.partitionReset who p) s = .next t ∧
      (∀ f ∈ s.boundFns p, (s.fn f).reset = none → (t.fn f).gate = .resetting ∧ (t.fn f).reset = some { kind := 4, since := s.time.mono, partition := p }) ∧
      (s.boundFns p ≠ [] → t.mem = s.mem ∧ t.cores = s.cores) ∧
      (s.boundFns p = [] → (t.part p).epoch = ((s.part p).epoch + 1) % 2 ^ 32 ∧
        (∀ c ∈ s.coresOf p, s.cores.has c = true → (t.core c).l1 = [] ∧ (t.core c).scl = [])))) ∧
  (∀ (s : State) (who : Origin) (p v : Nat), p < 64 → v < 2 ^ 64 → s.deviceCheck who (E.partitionQmask + p) = 0 →
    ((∀ o, o < 64 → o ≠ p → natAnd 64 (s.qmask o) v = 0) → (∀ f ∈ s.boundFns p, (s.fn f).gate = .disabled) →
      (∀ c ∈ s.coresOf p, (s.core c).blocks = []) → v ≠ 0 ∨ s.boundFns p = [] → s.unitGoes 13 p (partitionQmaskWrite who p v) →
      ∃ t, exec (.partitionQmaskWrite who p v) s = .next t ∧ t.num (E.partitionQmask + p) = v ∧
        (t.part p).epoch = ((s.part p).epoch + 1) % 2 ^ 32 ∧ (∀ l, s.linePart l = some p → t.l2.dir.get? l = none) ∧
        (∀ l, s.linePart l ≠ some p → t.l2.dir.get? l = s.l2.dir.get? l)) ∧
    ((∃ o, o < 64 ∧ o ≠ p ∧ natAnd 64 (s.qmask o) v ≠ 0) ∨ (∃ f ∈ s.boundFns p, (s.fn f).gate ≠ .disabled) ∨
        (∃ c ∈ s.coresOf p, (s.core c).blocks ≠ []) ∨ (v = 0 ∧ s.boundFns p ≠ []) → s.l2.refused = none →
      exec (.partitionQmaskWrite who p v) s = .next ((s.answer 5).unitDone 13 p))) ∧
  (∀ (s : State) (who : Origin) (n p : Nat), n < 960 → p < 64 → s.deviceCheck who (E.slabOwner + n) = 0 → s.num (E.slabOwner + n) = 255 →
    (n ∉ s.hif.zeroing → s.stk.rowZeroing.has (n / 20) = false → s.slabInFailed n = false → s.unitGoes 14 n (slabGrant who n p) →
      ∃ t, exec (.slabGrant who n p) s = .next t ∧ t.num (E.slabOwner + n) = p ∧ (t.part p).slabs = (s.part p).slabs ++ [n] ∧
        (∀ f ∈ s.boundFns p, (t.fn f).slabsChanged = true) ∧ (∀ l, l / 2 ^ 24 = n → t.l2.dir.get? l = none) ∧
        (∀ l, l / 2 ^ 24 ≠ n → t.l2.dir.get? l = s.l2.dir.get? l) ∧ (∀ a, a / 2 ^ 31 ≠ n → cellGet t.mem a = cellGet s.mem a) ∧ t.cores = s.cores) ∧
    (n ∈ s.hif.zeroing → s.l2.refused = none → exec (.slabGrant who n p) s = .next ((s.answer 5).unitDone 14 n))) ∧
  (∀ (s : State) (who : Origin) (n p : Nat), n < 960 → p < 64 → s.deviceCheck who (E.slabOwner + n) = 0 → s.num (E.slabOwner + n) = p →
    ((∀ f ∈ s.boundFns p, (s.fn f).gate = .disabled) → n ∈ (s.part p).slabs → s.unitGoes 14 n (slabRelease who n) →
      ∃ t, exec (.slabRelease who n) s = .next t ∧ t.num (E.slabOwner + n) = 255 ∧ n ∈ t.hif.zeroing ∧
        (t.part p).slabs = (s.part p).slabs.filter (fun m => decide (m ≠ n)) ∧ (∀ l, l / 2 ^ 24 = n → t.l2.dir.get? l = none)) ∧
    ((∃ f ∈ s.boundFns p, (s.fn f).gate ≠ .disabled) → s.l2.refused = none → exec (.slabRelease who n) s = .next ((s.answer 5).unitDone 14 n)) ∧
    (∀ o, o ≠ p → o < 64 → s.l2.refused = none → exec (.slabGrant who n o) s = .next ((s.answer 5).unitDone 14 n))) ∧
  (∀ (s : State) (n : Nat), n ∈ s.hif.zeroing → s.unitGoes 14 n (slabZeroComplete n) →
    ∃ t, exec (.slabZeroComplete n) s = .next t ∧ n ∉ t.hif.zeroing ∧ (∀ a, a / 2 ^ 31 = n → cellGet t.mem a = 0#8) ∧
      (∀ a, a / 2 ^ 31 ≠ n → cellGet t.mem a = cellGet s.mem a) ∧ (∀ g, g / 2 ^ 27 = n → g ∉ t.poison) ∧ t.cores = s.cores ∧ t.fe = s.fe) ∧
  (∀ (s : State) (who : Origin) (f p : Nat), f < 256 → s.deviceCheck who (E.fnPartition + f) = 0 →
    ((s.fn f).gate = .disabled → p < 64 → s.qmask p ≠ 0 →
      ∃ t, exec (.fnPartitionWrite who f p) s = .next t ∧ t.fnPart f = p ∧ t.fn f = s.fn f ∧ t.mem = s.mem ∧ t.cores = s.cores) ∧
    ((s.fn f).gate ≠ .disabled ∨ s.qmask p = 0 → p < 64 → exec (.fnPartitionWrite who f p) s = .next (s.answer 5))) ∧
  (∀ (s : State) (n : Nat), s.configLive = true →
    (s.hif.vfEnable = false → ∃ t, exec (.vfEnableWrite true n) s = .next t ∧ t.hif.vfEnable = true ∧ t.hif.numVfs = min n 255 ∧
      (∀ g, 0 < g → g ≤ min n 255 → s.num (E.fnEnable + g) = 1 → (s.fn g).gate = .disabled → (t.fn g).gate = .opened) ∧ t.mem = s.mem) ∧
    (s.hif.vfEnable = true → exec (.vfEnableWrite true n) s = .next s ∧
      ∃ t, exec (.vfEnableWrite false n) s = .next t ∧ t.hif.vfEnable = false ∧ (t.fn 0).gate = (s.fn 0).gate ∧
        (∀ g, 0 < g → s.fnExists g = true → (s.fn g).reset = none → (t.fn g).gate = .resetting) ∧ t.mem = s.mem)) ∧
  (∀ (s : State) (f : Nat), s.configLive = true → s.fnExists f = true → (s.fn f).reset = none →
    ∃ t, exec (.d3hotEntry f) s = .next t ∧ (t.fn f).d3hot = true ∧ (t.fn f).gate = .resetting ∧ (f = 0 → t.hif.vfEnable = false) ∧ t.mem = s.mem) ∧
  (∀ (s : State) (k : Nat), s.configLive = true → k ≤ 41 →
    (36 ≤ k → ∃ t, exec (.bar2Resize false k) s = .next t ∧ t.hif.bar2Log = k ∧ t.num E.bar2Base = s.num E.bar2Base / 2 ^ k * 2 ^ k ∧
      t.hif.vfBar2Log = s.hif.vfBar2Log ∧ t.mem = s.mem) ∧
    (31 ≤ k → exec (.bar2Resize true k) s = .next { s with hif.vfBar2Log := k }))

/-- R324, R325, R335, R337, R315, R456: a message that is due leaves its vector when the function may send it, the vector is not masked and its interval has passed; otherwise it waits or stands in the pending bit, and an
unmask, Bus Master Enable or D0 sends it; an invalidation drops its range of translations and is busy until every access that used one is over; ATS messages fill and empty the cache of host pages; the PCIe link goes down
and comes up. Where exec answers a next state, under conditions on the state and the operands alone, is said of: msixSend, msixModerationExpire, msixUnmask, busMasterEnableSet, d0Entry, translationInvalidate,
translationInvalidateAll, invalidateComplete, atsInvalidateRequest, atsTranslationCompletion, pcieLinkDown, pcieLinkUp. -/
def Obligations.MessagesAndTranslations : Prop :=
  (∀ (s : State) (f v : Nat), v < vectorsOf f → (s.vec f v).due = true → (s.fn f).gate = .opened ∨ (s.fn f).gate = .draining →
    ((s.fn f).maySend = true → (s.vec f v).masked = false → s.hif.linkUp = true →
      (s.moderated f v = true → ∃ t, exec (.msixSend f v) s = .next t ∧ (t.vec f v).due = false ∧ (t.vec f v).pending = false ∧
        (t.vec f v).sent = (s.vec f v).sent + 1 ∧ (t.vec f v).lastAt = some s.time.mono ∧
        (∀ i, i < 4 → t.hostByte ((s.vec f v).addr + i) = BitVec.ofNat 8 ((s.vec f v).data / 256 ^ i)) ∧ t.mem = s.mem) ∧
      (s.moderated f v = false → exec (.msixSend f v) s = .next s)) ∧
    ((s.fn f).maySend = false ∨ (s.vec f v).masked = true →
      exec (.msixSend f v) s = .next (s.modVec f v (fun x => { x with due := false, pending := true })))) ∧
  (∀ (s : State) (f v : Nat), v < vectorsOf f → (s.fn f).gate = .disabled ∨ (s.fn f).gate = .resetting → (s.vec f v).due = true →
    exec (.msixSend f v) s = .next (s.modVec f v (fun x => { x with due := false, pending := false }))) ∧
  (∀ (s : State) (f v : Nat), v < vectorsOf f → (s.vec f v).due = true ∨ (s.vec f v).pending = true → (s.fn f).gate = .opened ∨ (s.fn f).gate = .draining →
    (s.fn f).maySend = true → (s.vec f v).masked = false → s.hif.linkUp = true → (s.vec f v).lastAt.isSome = true →
    (s.moderated f v = true → ∃ t, exec (.msixModerationExpire f v) s = .next t ∧ (t.vec f v).due = false ∧ (t.vec f v).pending = false ∧
      (t.vec f v).sent = (s.vec f v).sent + 1 ∧ (t.vec f v).lastAt = some s.time.mono ∧
      (∀ i, i < 4 → t.hostByte ((s.vec f v).addr + i) = BitVec.ofNat 8 ((s.vec f v).data / 256 ^ i)) ∧ t.mem = s.mem) ∧
    (s.moderated f v = false → exec (.msixModerationExpire f v) s = .next s)) ∧
  (∀ (s : State) (f v : Nat), s.configLive = true → s.fnExists f = true → v < vectorsOf f →
    (s.fn f).gate = .opened → (s.fn f).busMaster = true → (s.fn f).d3hot = false → (s.vec f v).pending = true → s.moderated f v = true →
    ∃ t, exec (.msixUnmask f v) s = .next t ∧ (t.vec f v).masked = false ∧ (t.vec f v).pending = false ∧ (t.vec f v).sent = (s.vec f v).sent + 1 ∧
      (t.fn f).msixEnable = true ∧ (t.fn f).fnMask = false ∧ t.mem = s.mem) ∧
  (∀ (s : State) (f : Nat) (atomic ats : Bool), s.configLive = true → s.fnExists f = true →
    ∃ t, exec (.busMasterEnableSet f atomic ats) s = .next t ∧ t.fn f = { s.fn f with busMaster := true, atomicReq := atomic, atsEnabled := ats } ∧
      (∀ v, v < vectorsOf f → (s.fn f).gate = .opened → (s.fn f).msixEnable = true → (s.fn f).fnMask = false → (s.fn f).d3hot = false →
        (s.vec f v).pending = true → (s.vec f v).masked = false → s.moderated f v = true → (t.vec f v).pending = false ∧ (t.vec f v).sent = (s.vec f v).sent + 1) ∧
      t.mem = s.mem) ∧
  (∀ (s : State) (f : Nat), s.configLive = true → s.fnExists f = true → (s.fn f).d3hot = true →
    ∃ t, exec (.d0Entry f) s = .next t ∧ t.fn f = { s.fn f with d3hot := false } ∧ t.mem = s.mem) ∧
  (∀ (s : State) (f cmd : Nat), s.barState f = .opened → bit cmd 0 = true →
    (bit cmd 1 = false → (s.fn f).invBusy = false → bits cmd 13 8 ≤ 41 → (s.fn f).invAddr / 2 ^ 16 % 2 ^ bits cmd 13 8 = 0 →
      ∃ t, exec (.translationInvalidate f cmd) s = .next t ∧ (t.fn f).invBusy = true ∧ t.mem = s.mem ∧
        ∀ e, e ∈ t.hif.tcache ↔ e ∈ s.hif.tcache ∧ ¬ (e.fn = f ∧ (s.fn f).invAddr / 2 ^ 16 ≤ e.page ∧ e.page < (s.fn f).invAddr / 2 ^ 16 + 2 ^ bits cmd 13 8)) ∧
    (bit cmd 1 = true → (s.fn f).invBusy = false →
      ∃ t, exec (.translationInvalidateAll f cmd) s = .next t ∧ (t.fn f).invBusy = true ∧ t.mem = s.mem ∧
        ∀ e, e ∈ t.hif.tcache ↔ e ∈ s.hif.tcache ∧ ¬ (e.fn = f ∧ e.page < 2 ^ 41)) ∧
    (bit cmd 1 = false → (s.fn f).invBusy = true ∨ 41 < bits cmd 13 8 ∨ (s.fn f).invAddr / 2 ^ 16 % 2 ^ bits cmd 13 8 ≠ 0 →
      exec (.translationInvalidate f cmd) s = .next (s.modFn f (fun x => { x with invRejected := true }))) ∧
    (bit cmd 1 = true → (s.fn f).invBusy = true →
      exec (.translationInvalidateAll f cmd) s = .next (s.modFn f (fun x => { x with invRejected := true })))) ∧
  (∀ (s : State) (f : Nat), (s.fn f).invBusy = true →
    ((∀ w ∈ (s.fn f).invWaits, s.accessOpen w = false) →
      ∃ t, exec (.invalidateComplete f) s = .next t ∧ (t.fn f).invBusy = false ∧ t.hif.tcache = s.hif.tcache ∧ t.mem = s.mem) ∧
    ((∃ w ∈ (s.fn f).invWaits, s.accessOpen w = true) →
      ∃ t, exec (.invalidateComplete f) s = .next t ∧ (t.fn f).invBusy = true ∧ (t.fn f).invWaits = (s.fn f).invWaits ∧ t.mem = s.mem)) ∧
  (∀ (s : State) (f page n : Nat), s.hif.linkUp = true → (s.fn f).atsEnabled = true → s.hif.atsInvs.length < 32 →
    ∃ t, exec (.atsInvalidateRequest f page n) s = .next t ∧ (∀ e ∈ t.hif.atsCache, ¬ (e.fn = f ∧ page ≤ e.page ∧ e.page < page + n)) ∧
      (s.hostAccesses f = [] → t.hif.atsAnswered = s.hif.atsAnswered + 1 ∧ t.hif.atsInvs = s.hif.atsInvs) ∧
      (s.hostAccesses f ≠ [] → t.hif.atsAnswered = s.hif.atsAnswered ∧ t.hif.atsInvs.length = s.hif.atsInvs.length + 1) ∧ t.mem = s.mem) ∧
  (∀ (s : State) (f page frame : Nat) (r w : Bool), s.hif.linkUp = true → (s.fn f).atsEnabled = true →
    ∃ t e, exec (.atsTranslationCompletion f page frame r w) s = .next t ∧ e ∈ t.hif.atsCache ∧ e.fn = f ∧ e.page = page ∧ e.target = 2 ∧ e.frame = frame ∧
      e.r = r ∧ e.w = w ∧ (∀ o ∈ t.hif.atsCache, o.fn = f → o.page = page → o = e) ∧ t.mem = s.mem) ∧
  (∀ (s : State) (f page frame id : Nat) (l : Load) (a : Acc), s.hif.linkUp = true → (s.fn f).atsEnabled = true → s.l2.loads = [(id, l)] →
    fnOfQueue l.queue = f → a ∈ l.accs → a.target = 2 → a.pa / 2 ^ 16 = page → l.got.has (lineKey 2 (a.pa / 128)) = false → (s.q l.queue).state.alive = true →
    ∃ t, exec (.atsTranslationCompletion f page frame false true) s = .next t ∧ Killed t l.queue 0x01 ∧ t.l2.loads = [] ∧ t.mem = s.mem) ∧
  (∀ s : State, s.hif.linkUp = true → ∃ t, exec .pcieLinkDown s = .next t ∧ t.hif.linkUp = false ∧
    t.num (E.faultClassCount + 22) = (s.num (E.faultClassCount + 22) + 1) % 2 ^ 32 ∧ t.fe = s.fe ∧ t.mem = s.mem) ∧
  (∀ s : State, s.hif.linkUp = false → s.sup.perst = false → s.sup.d19Reset = false → s.sup.mainPg = true →
    ∃ t, exec .pcieLinkUp s = .next t ∧ t.hif.linkUp = true ∧ t.fe = s.fe ∧ t.mem = s.mem)

/-- R343, R344: F0 answers discovery with its two protocols; a part of a certificate chain with what remains; a challenge and measurements with a response that carries a nonce of the device's and a signature over the
request's nonce and the response; the integrator writes slots 1 to 7; anything malformed is answered InvalidRequest with doe_error set. The byte layouts are the model's own reading (log entry 41), and the device's nonce
is a free value. Where exec answers a next state, under conditions on the state and the operands alone, is said of: doeDiscovery, spdmGetCertificate, spdmChallenge, spdmGetMeasurements, spdmSetCertificate. -/
def Obligations.Attestation : Prop :=
  (∀ s : State, s.configLive = true →
    exec (.doeDiscovery 0) s = .next { s with hif.doeResp := [1#8, 0#8, 0#8, 1#8] } ∧
    exec (.doeDiscovery 1) s = .next { s with hif.doeResp := [1#8, 0#8, 1#8, 0#8] } ∧
    (∀ i, 2 ≤ i → ∃ t, exec (.doeDiscovery i) s = .next t ∧ bit t.hif.errStatus 5 = true ∧ t.mem = s.mem)) ∧
  (∀ (s : State) (slot off len : Nat), s.configLive = true → slot ≤ 7 →
    (off < (s.chain slot).length → (s.chain slot).length < 65536 → ∃ t p, exec (.spdmGetCertificate slot off len) s = .next t ∧ p = ((s.chain slot).drop off).take len ∧
      t.hif.doeResp.drop 8 = p ∧ ofLe ((t.hif.doeResp.drop 4).take 2) = p.length ∧
      ofLe ((t.hif.doeResp.drop 6).take 2) = (s.chain slot).length - off - p.length ∧ t = { s with hif.doeResp := t.hif.doeResp }) ∧
    ((s.chain slot).length ≤ off → ∃ t, exec (.spdmGetCertificate slot off len) s = .next t ∧ bit t.hif.errStatus 5 = true ∧ t.mem = s.mem)) ∧
  (∀ (s : State) (slot : Nat) (nonce : List Byte), s.configLive = true → slot ≤ 7 → nonce.length = 32 → s.chain slot ≠ [] →
    ∃ t m, exec (.spdmChallenge slot nonce) s = .next t ∧ t.hif.doeResp = m ++ Config.sign (nonce ++ m) ∧
      m.take 4 = [0x12#8, 0x03#8, BitVec.ofNat 8 slot, 1#8] ∧ (m.drop 4).take 48 = Sha.sha384 (s.chain slot) ∧ t.free = s.free + 1 ∧ t.mem = s.mem) ∧
  (∀ (s : State) (i : Nat) (nonce : List Byte), s.configLive = true → nonce.length = 32 → 1 ≤ i → i ≤ 6 →
    ∃ t m, exec (.spdmGetMeasurements i nonce) s = .next t ∧ t.hif.doeResp = m ++ Config.sign (nonce ++ m) ∧
      (m.drop 8).take 7 = [BitVec.ofNat 8 i, 1#8, 51#8, 0#8, BitVec.ofNat 8 (i - 1), 48#8, 0#8] ∧ (m.drop 15).take 48 = Sha.sha384 (s.measuredBytes i) ∧
      t.free = s.free + 1 ∧ t.mem = s.mem) ∧
  (∀ (s : State) (i : Nat) (nonce : List Byte), s.configLive = true → nonce.length ≠ 32 →
    ∃ t, exec (.spdmGetMeasurements i nonce) s = .next t ∧ bit t.hif.errStatus 5 = true ∧ t.mem = s.mem) ∧
  (∀ (s : State) (slot : Nat) (c : List Byte), s.configLive = true →
    (1 ≤ slot → slot ≤ 7 → ∃ t, exec (.spdmSetCertificate slot c) s = .next t ∧ t.chain slot = c ∧ (∀ o, o ≠ slot → t.chain o = s.chain o) ∧ t.mem = s.mem) ∧
    (slot = 0 ∨ 7 < slot → ∃ t, exec (.spdmSetCertificate slot c) s = .next t ∧ bit t.hif.errStatus 5 = true ∧ t.hif.certs = s.hif.certs ∧ t.mem = s.mem))

/-- R347, R348, R349, R350, R372: a link that is down and enabled attempts training every 100 ms; training leaves it up with its lanes, peer and route, or held with config_error where the chip ids do not fit; a lane that
drops leaves the link on the rest, down with fewer than two; a link that goes down is logged and counted and its unanswered requests are sent again; flits are delivered once and in order, a bad one asks for a replay.
R353, R357, R359, R362, R372, R373, R308: a flooded change of the links updates pass_map and the chips that a route reaches; a packet whose CRC fails is asked for again up to its fourth failure, and then a read answers
poisoned data and another request 0x0D; an unanswered request is sent again after 25 microseconds; a chip without a route for 50 microseconds is unreachable, and the work addressed to it ends with 0x0D, until a route
exists again. Where exec answers a next state, under conditions on the state and the operands alone, is said of: linkTrainingAttempt, linkTrainingComplete, laneDrop, linkRetrainComplete, linkDown, flitReceive, linkState,
packetCrcFail, requestResend, passOccupancyAdvert, chipUnreachable, chipReachableAgain. -/
def Obligations.LinksAndRoutes : Prop :=
  ((∀ (s : State) (l : Nat), l < 32 → (s.link l).state ≤ 1 → s.num (E.linkEnable + l) = 1 → s.sup.mainPg = true →
    ((∀ t, (s.link l).attemptAt = some t → t + 100000000 ≤ s.time.mono) →
      ∃ t, exec (.linkTrainingAttempt l) s = .next t ∧ t.link l = { s.link l with state := 1, attemptAt := some s.time.mono } ∧
        (∀ k, k ≠ l → t.link k = s.link k) ∧ t.mem = s.mem) ∧
    (∀ t, (s.link l).attemptAt = some t → s.time.mono < t + 100000000 → exec (.linkTrainingAttempt l) s = .next s)) ∧
  (∀ (s : State) (l peer k lanes : Nat) (tie : List Nat), l < 32 → (s.link l).state = 1 → s.lit l = true → 2 ≤ lanes → lanes ≤ 4 →
    (s.num E.fabChipId = 0xFFFF ∨ peer = 0xFFFF ∨ s.num E.fabChipId = peer →
      ∃ t, exec (.linkTrainingComplete l peer k lanes tie) s = .next t ∧ (t.link l).state = 3 ∧ (t.link l).lanes = 0 ∧ (t.link l).peer = peer ∧
        bit t.fab.status 7 = true ∧ t.mem = s.mem) ∧
    (s.num E.fabChipId ≠ 0xFFFF → peer ≠ 0xFFFF → s.num E.fabChipId ≠ peer → s.num (E.fabPort + l) = 0xFF → s.fab.tieCfg = [] → peer ∉ s.fab.unreachable →
      ∃ t, exec (.linkTrainingComplete l peer k lanes tie) s = .next t ∧ (t.link l).state = 2 ∧ (t.link l).lanes = lanes ∧ (t.link l).peer = peer ∧
        (t.link l).peerLink = k ∧ (t.link l).peerTie = tie ∧ peer ∈ t.fab.reachable ∧ bit t.fab.status 2 = true ∧ t.fab.chipId = s.num E.fabChipId ∧ t.mem = s.mem)) ∧
  (∀ (s : State) (l : Nat), l < 32 → (s.link l).state = 2 → s.linkMoving l = false →
    (3 ≤ (s.link l).retrain.getD (s.link l).lanes →
      ∃ t, exec (.laneDrop l) s = .next t ∧ (t.link l).state = 2 ∧ (t.link l).retrain = some ((s.link l).retrain.getD (s.link l).lanes - 1) ∧
        (t.link l).peer = (s.link l).peer ∧ bit t.fab.status 0 = true ∧ t.mem = s.mem) ∧
    ((s.link l).retrain.getD (s.link l).lanes ≤ 2 →
      ∃ t, exec (.laneDrop l) s = .next t ∧ (t.link l).state = (if s.num (E.linkEnable + l) = 1 then 0 else 4) ∧ bit t.fab.status 1 = true ∧
        t.mem = s.mem)) ∧
  (∀ (s : State) (l n : Nat), (s.link l).retrain = some n →
    ∃ t, exec (.linkRetrainComplete l) s = .next t ∧ t.link l = { s.link l with retrain := none, lanes := n } ∧
      t.num (E.faultClassCount + 4) = (s.num (E.faultClassCount + 4) + 1) % 2 ^ 32 ∧ t.mem = s.mem) ∧
  (∀ (s : State) (l : Nat), l < 32 → (s.link l).state = 2 →
    ∃ t, exec (.linkDown l) s = .next t ∧ (t.link l).state = (if s.num (E.linkEnable + l) = 1 then 0 else 4) ∧ (t.link l).peer = 0xFFFF ∧
      (t.link l).replays = (s.link l).replays ∧ bit t.fab.status 1 = true ∧ t.num (E.faultClassCount + 5) = (s.num (E.faultClassCount + 5) + 1) % 2 ^ 32 ∧
      (∀ id r, s.fab.reqs.get? id = some r → ∃ x, t.fab.reqs.get? id = some x ∧ x.pkt = r.pkt ∧ x.issuer = r.issuer ∧
        (r.link = l → x.sentAt = s.time.mono) ∧ (r.link ≠ l → x = r)) ∧ (∀ k, k ≠ l → t.link k = s.link k) ∧ t.mem = s.mem) ∧
  (∀ (s : State) (l seq : Nat) (corr : Bool), l < 32 → (s.link l).state = 2 → (s.link l).retrain = none →
    (seq % 65536 = (s.link l).expect → ∃ t, exec (.flitReceive l seq true corr) s = .next t ∧
      t.link l = { s.link l with expect := ((s.link l).expect + 1) % 65536, replaying := false } ∧
      t.num (E.linkCorrected + l) = (s.num (E.linkCorrected + l) + (if corr then 1 else 0)) % 2 ^ 64 ∧ t.mem = s.mem) ∧
    (seq % 65536 ≠ (s.link l).expect → ∃ t, exec (.flitReceive l seq true corr) s = .next t ∧ t.link l = s.link l ∧ t.mem = s.mem) ∧
    ((s.link l).replaying = false → ∃ t, exec (.flitReceive l seq false corr) s = .next t ∧ (t.link l).replaying = true ∧ (t.link l).expect = (s.link l).expect ∧
      (t.link l).replays = min 65535 ((s.link l).replays + 1) ∧ t.num (E.linkReplays + l) = (s.num (E.linkReplays + l) + 1) % 2 ^ 64 ∧ t.mem = s.mem) ∧
    ((s.link l).replaying = true → exec (.flitReceive l seq false corr) s = .next s))) ∧
  ((∀ (s : State) (pkt : Packet) (valley mask : Nat) (r ps : List Nat), pkt.type = 0x20 → mask % 65536 ≠ 0 →
    ∃ t, exec (.linkState pkt valley mask r ps) s = .next t ∧ (∀ x, x ∈ t.fab.passes ↔ x ∈ ps) ∧ t.fab.passMap.get? (valley % 256) = some (mask % 65536) ∧
      (∀ c, c ∈ t.fab.reachable ↔ c ∈ r ∧ c < 4096 ∧ c ≠ s.fab.chipId ∧ c ∉ s.fab.unreachable) ∧
      (∀ c ∈ s.fab.reachable, c ∉ t.fab.reachable → t.fab.lostSince.get? c = some s.time.mono) ∧ t.mem = s.mem ∧ t.fe = s.fe) ∧
  (∀ (s : State) (pkt : Packet) (len k : Nat), k = pkt.type * 2 ^ 48 + windowKey pkt.src pkt.seq → pkt.dst = s.fab.chipId → s.l2.refused = none →
    (s.fab.crcFails.getD k 0 < 3 → exec (.packetCrcFail pkt len) s = .next { s with fab.crcFails := s.fab.crcFails.put k (s.fab.crcFails.getD k 0 + 1) }) ∧
    (s.fab.crcFails.getD k 0 = 3 → s.arrives pkt 1 →
      ∃ t, exec (.packetCrcFail pkt len) s = .next t ∧ t.fab.crcFails.get? k = none ∧
        Answered s t pkt (s.reply pkt 0x11 0 pkt.addr (zeroBytes (min len 512)) (2 ^ ((min len 512 + 15) / 16) - 1)) ∧ bit t.fab.status 4 = true ∧ t.mem = s.mem) ∧
    (s.fab.crcFails.getD k 0 = 3 → s.arrives pkt 3 →
      ∃ t, exec (.packetCrcFail pkt len) s = .next t ∧ Answered s t pkt (s.reply pkt 0x12 0x0D 0 [] 0) ∧ t.mem = s.mem)) ∧
  (∀ (s : State) (id l : Nat) (r : Req), s.fab.reqs.get? id = some r →
    (s.time.mono < r.sentAt + 25000 → (s.link r.link).state = 2 → exec (.requestResend id l) s = .next s) ∧
    (r.sentAt + 25000 ≤ s.time.mono ∨ (s.link r.link).state ≠ 2 → (s.link l).state = 2 →
      ∃ t, exec (.requestResend id l) s = .next t ∧
        t.fab = { s.fab with reqs := s.fab.reqs.put id { r with sentAt := s.time.mono, link := l, via := if l = r.link then r.via else none } } ∧
        t.mem = s.mem ∧ t.fe = s.fe ∧ t.cores = s.cores ∧ t.mgt = s.mgt)) ∧
  (∀ (s : State) (pkt : Packet) (valley occ : Nat), pkt.type = 0x20 → pkt.src / 16 = s.fab.chipId / 16 →
    exec (.passOccupancyAdvert pkt valley occ) s = .next { s with fab.occupancy := s.fab.occupancy.put (pkt.src % 16 * 256 + valley % 256) occ }) ∧
  (∀ (s : State) (chip t0 : Nat), s.fab.lostSince.get? chip = some t0 →
    (s.time.mono < t0 + 50000 → exec (.chipUnreachable chip) s = .next s) ∧
    (t0 + 50000 ≤ s.time.mono →
      ∃ t, exec (.chipUnreachable chip) s = .next t ∧ chip ∈ t.fab.unreachable ∧ chip ∉ t.fab.reachable ∧ bit t.fab.status 3 = true ∧
        (∀ id r who w sc, s.fab.reqs.get? id = some r → r.pkt.dst = chip → r.issuer = .sync who w sc → (s.q r.queue).state.alive = true →
          t.fab.reqs.get? id = none ∧ (t.q r.queue).state = .killing))) ∧
  (∀ (s : State) (chip : Nat), chip ∉ s.fab.reachable → s.upLinks ≠ [] → chip ≠ s.fab.chipId →
    ∃ t, exec (.chipReachableAgain chip) s = .next t ∧ chip ∈ t.fab.reachable ∧ chip ∉ t.fab.unreachable ∧ t.fab.lostSince.get? chip = none ∧
      t.fab.reqs = s.fab.reqs ∧ t.mem = s.mem))

/-- R296, R303, R353, R355, R356, R362, R363, R366, R371: a request of another chip that a binding admits is performed once and answered: a read with the bytes at their point of coherence, a write that lands at the banks, an
atomic with the old value, a sync operation at an object with SYSTEM access with its status, a tied member's line at its home, a contribution that joins its operation; one that is not admitted is refused with its code
and logged; a repeated one is answered again and not performed. Where exec answers a next state, under conditions on the state and the operands alone, is said of: fabricRead, fabricWrite, fabricAtomic, fabricSyncOp,
cohReq, tiedRequestServe, collectData. -/
def Obligations.RequestsOfOtherChips : Prop :=
  (∀ (s : State) (pkt : Packet) (len f pa : Nat), s.arrives pkt 1 → s.l2.domainLost = false → s.hostGoes (fabricRead pkt len) →
    s.admitPkt pkt 1 = .ok f → s.reach f pkt.addr (min len 512) .read = .at pa → s.packetPoison pa (min len 512) = 0 →
    ∃ t, exec (.fabricRead pkt len) s = .next t ∧ Answered s t pkt (s.reply pkt 0x11 0 pkt.addr (s.pocRead pa (min len 512)) 0) ∧ t.mem = s.mem ∧ t.cores = s.cores) ∧
  (∀ (s : State) (pkt : Packet) (len st code : Nat), s.arrives pkt 1 → s.l2.domainLost = false → s.l2.refused = none → s.admitPkt pkt 1 = .no st code →
    ∃ t, exec (.fabricRead pkt len) s = .next t ∧ Answered s t pkt (s.reply pkt 0x12 code 0 [] 0) ∧ bit t.fab.status 4 = true ∧ t.mem = s.mem) ∧
  (∀ (s : State) (pkt : Packet) (len : Nat), s.arrives pkt 1 → s.l2.domainLost = true →
    ∃ t, exec (.fabricRead pkt len) s = .next t ∧ Answered s t pkt (s.reply pkt 0x12 0x11 0 [] 0) ∧ bit t.fab.status 4 = true ∧ t.mem = s.mem) ∧
  (∀ (s : State) (pkt : Packet) (len : Nat) (r : Stored), s.l2.refused = none → pkt.type = 1 → pkt.dst = s.fab.chipId → windowKey pkt.src pkt.seq ∈ s.fab.window →
    s.fab.stored.get? (windowKey pkt.src pkt.seq) = some r → s.time.mono ≤ r.since + 100000 →
    exec (.fabricRead pkt len) s = .next { s with fab.answers := s.fab.answers ++ [r.resp] }) ∧
  (∀ (s : State) (pkt : Packet) (f pa : Nat), s.arrives pkt 2 → s.l2.domainLost = false → s.l2.refused = none → s.admitPkt pkt 2 = .ok f → s.reach f pkt.addr pkt.data.length .write = .at pa → pkt.poison = 0 →
    pa + pkt.data.length ≤ memSize → Memory.wf s.mem → (∀ l ∈ linesOf pa pkt.data.length, s.l2.dir.get? l = none) →
    (∀ i, i < pkt.data.length → s.granulePoison ((pa + i) / 16) = false) →
    ∃ t, exec (.fabricWrite pkt) s = .next t ∧ Answered s t pkt (s.reply pkt 0x12 0 0 [] 0) ∧ cellBytes t.mem pa pkt.data.length = pkt.data ∧
      (∀ y, y < pa ∨ pa + pkt.data.length ≤ y → cellGet t.mem y = cellGet s.mem y) ∧ t.cores = s.cores) ∧
  (∀ (s : State) (pkt : Packet) (f pa n : Nat) (d : Dir), s.arrives pkt 3 → s.admitPkt pkt 3 = .ok f → n = (if bit pkt.op 6 then 8 else 4) →
    s.reach f pkt.addr n .write = .at pa → bit pkt.op 7 = false → atomOk pkt.op pa = true → s.homeServes (pa / 128) (.held s.l2.nextId) → s.heldLine (pa / 128) = some d →
    d.sharers / 2 ^ 16 = 0 → d.data.length = 128 → s.pocPoison pa n = false →
    ∃ t e, exec (.fabricAtomic pkt) s = .next t ∧
      Answered s t pkt (s.reply pkt 0x13 0 pkt.addr (leBytes 8 (ofLe (s.pocRead pa n)) ++ zeroBytes 8) 0) ∧ t.l2.dir.get? (pa / 128) = some e ∧ e.state = .d ∧
      ofLe ((e.data.drop (pa % 128)).take n) =
        atomResult (pkt.op % 64) n (ofLe (s.pocRead pa n)) (fieldAt pkt.data 0 8) (fieldAt pkt.data 8 8) % 2 ^ (8 * n) ∧ t.mem = s.mem) ∧
  (∀ (s : State) (pkt : Packet) (f : Nat) (x : SynObj), s.arrives pkt 4 → s.admitPkt pkt 4 = .ok f →
    (pkt.op = 8 →
      ((∀ o y, s.syn.objs.get? o = some y → ∀ w ∈ y.waiters, w.who ≠ .remote pkt.src (fieldAt pkt.data 0 4)) →
        (∀ e ∈ s.syn.registering ++ s.syn.retrying, e.2.who ≠ .remote pkt.src (fieldAt pkt.data 0 4)) →
        ∃ t, exec (.fabricSyncOp pkt) s = .next t ∧ Answered s t pkt (s.reply pkt 0x14 0 1 [] 0) ∧ t.mem = s.mem) ∧
      (∀ o y w, s.syn.objs.get? o = some y → w ∈ y.waiters → w.who = .remote pkt.src (fieldAt pkt.data 0 4) →
        ∃ t, exec (.fabricSyncOp pkt) s = .next t ∧ Answered s t pkt (s.reply pkt 0x14 0 0 [] 0) ∧
          (∃ z, t.syn.objs.get? o = some z ∧ ∀ v ∈ z.waiters, v.who ≠ .remote pkt.src (fieldAt pkt.data 0 4)) ∧ t.mem = s.mem)) ∧
    (pkt.op ≠ 8 → s.syn.objs.get? (pkt.addr % 65536) = none →
      ∃ t, exec (.fabricSyncOp pkt) s = .next t ∧ Answered s t pkt (s.reply pkt 0x12 0x02 0 [] 0) ∧ bit t.fab.status 4 = true ∧ t.syn = s.syn) ∧
    (pkt.op ≠ 8 → s.syn.objs.get? (pkt.addr % 65536) = some x → x.access < 2 ∨ x.access = 2 ∧ s.tiedChip pkt.src = false →
      ∃ t, exec (.fabricSyncOp pkt) s = .next t ∧ Answered s t pkt (s.reply pkt 0x12 0x02 0 [] 0) ∧ t.syn = s.syn) ∧
    (s.syn.objs.get? (pkt.addr % 65536) = some x → 3 ≤ x.access ∨ x.access = 2 ∧ s.tiedChip pkt.src = true → x.type = .fence → pkt.op = 0 → x.code = 0 → x.quiet →
      ∃ t y, exec (.fabricSyncOp pkt) s = .next t ∧ Answered s t pkt (s.reply pkt 0x14 0 0 [] 0) ∧ t.syn.objs.get? (pkt.addr % 65536) = some y ∧
        y.value = max x.value (fieldAt pkt.data 0 8) ∧ t.mem = s.mem) ∧
    (s.syn.objs.get? (pkt.addr % 65536) = some x → 3 ≤ x.access ∨ x.access = 2 ∧ s.tiedChip pkt.src = true → 17 ≤ pkt.op → pkt.op ≤ 33 → x.code = 0 → x.quiet →
      ∃ t y, exec (.fabricSyncOp pkt) s = .next t ∧ Answered s t pkt (s.reply pkt 0x14 0 0 [] 0) ∧ t.syn.objs.get? (pkt.addr % 65536) = some y ∧
        y.code = pkt.op - 16 ∧ t.mem = s.mem) ∧
    (s.syn.objs.get? (pkt.addr % 65536) = some x → 3 ≤ x.access ∨ x.access = 2 ∧ s.tiedChip pkt.src = true → x.type = .fence → pkt.op = 1 → x.code = 0 → x.quiet → x.value < fieldAt pkt.data 0 8 →
      (∀ w ∈ x.waiters, x.holdsFor w = false) →
      ∃ t, exec (.fabricSyncOp pkt) s = .next t ∧ Answered s t pkt (s.reply pkt 0x14 0 0 [] 0) ∧ t.syn.objs.get? (pkt.addr % 65536) = some { x with
        waiters := x.waiters ++ [{ who := .remote pkt.src pkt.seq, queue := 0x10000, op := 1, value := fieldAt pkt.data 0 8, scope := 4 }] } ∧ t.mem = s.mem)) ∧
  (∀ (s : State) (pkt : Packet) (f pa : Nat) (d : Dir), s.arrives pkt 5 → pkt.op = 0 → s.admitPkt pkt 1 = .ok f → s.reach f pkt.addr 128 .read = .at pa →
    pa % 128 = 0 → s.l2.domainLost = false →
    (s.homeClosed (pa / 128) = false → s.lineBusy (pa / 128) = false → s.l2.refused = none → s.heldLine (pa / 128) = some d → d.poison = 0 → d.data.length = 128 →
      (s.tieBit pkt.src = none ∨ s.installs (pa / 128) = false →
        ∃ t e, exec (.cohReq pkt 128) s = .next t ∧ Answered s t pkt (s.reply pkt 0x11 0 pkt.addr d.data 0) ∧ t.l2.dir.get? (pa / 128) = some e ∧ e.rsw = true ∧
          e.data = d.data ∧ t.mem = s.mem) ∧
      (∀ b, s.tieBit pkt.src = some b → s.installs (pa / 128) = true →
        ∃ t e, exec (.cohReq pkt 128) s = .next t ∧ Answered s t pkt (s.reply pkt 0x15 4 (128 * (pa / 128)) d.data 0) ∧ t.l2.dir.get? (pa / 128) = some e ∧
          e.sharers = setBit d.sharers b ∧ e.data = d.data ∧ t.mem = s.mem)) ∧
    (s.memberWaits (pa / 128) = true →
      (s.l2.reserved.countP (fun r => decide (r.1 = s.homeOf (pa / 128) ∧ r.2.1.src = pkt.src)) < 4 →
        ∃ t, exec (.cohReq pkt 128) s = .next t ∧ t.l2.reserved = s.l2.reserved ++ [(s.homeOf (pa / 128), { pkt with addr := pa }, 128)] ∧
          t.fab.answers = s.fab.answers ∧ t.mem = s.mem) ∧
      (4 ≤ s.l2.reserved.countP (fun r => decide (r.1 = s.homeOf (pa / 128) ∧ r.2.1.src = pkt.src)) →
        ∃ t, exec (.cohReq pkt 128) s = .next t ∧ t.l2.reserved = s.l2.reserved ∧ windowKey pkt.src pkt.seq ∉ t.fab.window ∧ t.fab.answers = s.fab.answers ∧
          t.mem = s.mem))) ∧
  (∀ (s : State) (slice : Nat) (r : Nat × Packet × Nat), s.l2.reserved.find? (fun r => decide (r.1 = slice)) = some r → s.l2.domainLost = false →
    r.2.1.op = 0 → r.2.1.addr % 128 ≠ 0 ∨ r.2.2 ≠ 128 → s.packetPoison r.2.1.addr r.2.2 = 0 →
    s.goes (tiedClient r.2.1) (fun u => u.serveTied r.2.1 r.2.1.addr r.2.2) = true →
    ∃ t, exec (.tiedRequestServe slice) s = .next t ∧ t.l2.reserved = s.l2.reserved.erase r ∧
      t.fab.answers = s.fab.answers ++ [s.reply r.2.1 0x11 0 r.2.1.addr (s.pocRead r.2.1.addr r.2.2) 0] ∧ t.mem = s.mem) ∧
  (∀ (s : State) (pkt : Packet) (g rank f : Nat), s.arrives pkt 6 → s.l2.refused = none → s.admitPkt pkt 5 = .ok f → s.groupEntry g ≠ [] → fieldAt (s.groupEntry g) 0 2 = pkt.key →
    rank ∈ rankKids (grpRank (s.groupEntry g)) (grpMembers (s.groupEntry g)) → grpChip (s.groupEntry g) rank = pkt.src →
    (s.groupState g = 2 → ∃ t, exec (.collectData pkt g rank) s = .next t ∧ Answered s t pkt (s.reply pkt 0x12 0 0 [] 0) ∧ t.fab.colls = s.fab.colls) ∧
    (s.groupState g ≠ 2 → s.fab.colls.get? g = none → pkt.addr = 0 →
      ∃ t c, exec (.collectData pkt g rank) s = .next t ∧ Answered s t pkt (s.reply pkt 0x12 0 0 [] 0) ∧ t.fab.colls.get? g = some c ∧ c.node = none ∧
        c.heads.get? rank = some (headOf pkt.data) ∧ c.parts.get? (rank * 2 ^ 32) = some (dataElems pkt 16 124) ∧ t.mem = s.mem) ∧
    (∀ k, k ∉ rankKids (grpRank (s.groupEntry g)) (grpMembers (s.groupEntry g)) →
      ∃ t, exec (.collectData pkt g k) s = .next t ∧ Answered s t pkt (s.reply pkt 0x12 0x02 0 [] 0) ∧ t.fab.colls = s.fab.colls))

/-- R151, R230, R303, R356, R363, R368, R369, R370: a response ends the request of this chip that it answers: data reach the load, the instruction cache or the plan program that asked, an ACK completes a write and with a
code ends its context, an atomic returns the old value, a sync response gives the status or leaves the wait registered, and a release ends it; a tied member's invalidation drops the copies and is acknowledged, and its
acknowledgement clears the sharer; a collective's result completes its node, and an abort ends it with the code. Where exec answers a next state, under conditions on the state and the operands alone, is said of:
readData, fabricAck, atomicResp, syncResp, syncRelease, cohMsg, collectResult, collectAbort. -/
def Obligations.ResponsesToThisChip : Prop :=
  (∀ (s : State) (pkt : Packet) (id ctx : Nat) (r : Req) (p : PlanCtx), s.l2.refused = none → s.responds pkt 0x11 id r → r.issuer = .plan ctx → s.fe.plans.get? ctx = some p →
    p.wait = .remote →
    (pkt.poison = 0 → ∃ t, exec (.readData pkt) s = .next t ∧ t.fab.reqs.get? id = none ∧
      t.fe.plans.get? ctx = some { p with rdata := some pkt.data, wait := .none } ∧ t.mem = s.mem) ∧
    (pkt.poison ≠ 0 → (s.q r.queue).state.alive = true → ∃ t, exec (.readData pkt) s = .next t ∧ t.fab.reqs.get? id = none ∧ Killed t r.queue 0x03)) ∧
  (∀ (s : State) (pkt : Packet) (id i key : Nat) (r : Req) (l : Load), s.l2.refused = none → s.responds pkt 0x11 id r → r.issuer = .load i key → s.l2.loads.get? i = some l →
    l.fwd = [] → pkt.data.length = 128 → pkt.poison = 0 →
    ∃ t x, exec (.readData pkt) s = .next t ∧ t.fab.reqs.get? id = none ∧ t.l2.loads.get? i = some x ∧ x.got.get? key = some pkt.data ∧ x.accs = l.accs ∧
      t.mem = s.mem) ∧
  (∀ (s : State) (pkt : Packet) (id c slot pc : Nat) (r : Req), s.l2.refused = none → s.responds pkt 0x11 id r → r.issuer = .code c slot pc → pkt.poison = 0 →
    ∃ t, exec (.readData pkt) s = .next t ∧ t.fab.reqs.get? id = none ∧
      (t.core c).icache.get? (icacheKey (fnOfQueue r.queue) pc) = some (fieldAt pkt.data 0 8) ∧ t.mem = s.mem) ∧
  (∀ (s : State) (pkt : Packet) (id : Nat) (r : Req), s.l2.refused = none → s.responds pkt 0x12 id r →
    (∀ node n, pkt.op = 0 → r.issuer = .mark node → s.fe.nodes.get? node = some n →
      ∃ t, exec (.fabricAck pkt) s = .next t ∧ t.fab.reqs.get? id = none ∧ t.fe.nodes.get? node = some { n with done := true } ∧ t.mem = s.mem) ∧
    (∀ c seq, pkt.op = 0 → r.issuer = .store c seq → (∀ e ∈ s.fab.reqs, e.1 ≠ id → e.2.issuer ≠ .store c seq) →
      ∃ t, exec (.fabricAck pkt) s = .next t ∧ t.fab.reqs.get? id = none ∧ (∀ e ∈ (t.core c).sb, e.seq ≠ seq) ∧ t.mem = s.mem) ∧
    (∀ who w sc, pkt.op ≠ 0 → r.issuer = .sync who w sc → (s.q r.queue).state.alive = true →
      ∃ t, exec (.fabricAck pkt) s = .next t ∧ t.fab.reqs.get? id = none ∧ Killed t r.queue pkt.op ∧ t.mem = s.mem)) ∧
  (∀ (s : State) (pkt : Packet) (id : Nat) (r : Req), s.l2.refused = none → s.responds pkt 0x13 id r →
    (∀ ctx p, r.issuer = .plan ctx → s.fe.plans.get? ctx = some p → p.wait = .remote →
      ∃ t, exec (.atomicResp pkt) s = .next t ∧ t.fab.reqs.get? id = none ∧ t.fe.plans.get? ctx = some { p with rdata := some (pkt.data.take 8), wait := .none } ∧
        t.mem = s.mem) ∧
    (∀ i th a, r.issuer = .atom i th → s.l2.atoms.get? i = some a → (∃ x ∈ a.accs, x.thread ≠ th ∧ a.olds.has x.thread = false) →
      ∃ t b, exec (.atomicResp pkt) s = .next t ∧ t.l2.atoms.get? i = some b ∧ b.olds.get? th = some (fieldAt pkt.data 0 8) ∧ b.accs = a.accs ∧ t.mem = s.mem)) ∧
  (∀ (s : State) (pkt : Packet) (id : Nat) (r : Req) (who : WaiterWho) (w : Bool) (sc : Nat), s.responds pkt 0x14 id r → r.issuer = .sync who w sc →
    (pkt.op = 0 → w = true →
      ∃ t, exec (.syncResp pkt) s = .next t ∧ t.fab.reqs.get? id = none ∧ t.fab.remoteWaits.get? (windowKey pkt.src pkt.seq) =
        some { who := who, queue := r.queue, op := r.pkt.op, value := fieldAt r.pkt.data 0 8, scope := sc } ∧ t.fe = s.fe ∧ t.cores = s.cores) ∧
    (∀ node n, pkt.op = 0 → w = false → who = .node node → s.fe.nodes.get? node = some n → n.type ≠ 2 →
      ∃ t, exec (.syncResp pkt) s = .next t ∧ t.fab.reqs.get? id = none ∧ t.fe.nodes.get? node = some { n with done := true } ∧ t.mem = s.mem)) ∧
  (∀ (s : State) (pkt : Packet) (w : Waiter) (node : Nat) (n : Node), pkt.type = 0x14 → pkt.dst = s.fab.chipId → pkt.op = 1 →
    s.fab.remoteWaits.get? (windowKey pkt.src pkt.seq) = some w → w.who = .node node → s.fe.nodes.get? node = some n → n.type ≠ 2 →
    (pkt.addr % 256 = 0 → ∃ t, exec (.syncRelease pkt) s = .next t ∧ t.fab.remoteWaits.get? (windowKey pkt.src pkt.seq) = none ∧
      t.fe.nodes.get? node = some { n with done := true } ∧ t.mem = s.mem) ∧
    (pkt.addr % 256 ≠ 0 → (s.q n.queue).state.alive = true → ∃ t, exec (.syncRelease pkt) s = .next t ∧
      t.fab.remoteWaits.get? (windowKey pkt.src pkt.seq) = none ∧ Killed t n.queue 0x09)) ∧
  (∀ (s : State) (pkt : Packet) (line : Nat), pkt.type = 0x15 → pkt.dst = s.fab.chipId → line = pkt.addr % 2 ^ 48 / 128 →
    (pkt.op = 0 → ∃ t p, exec (.cohMsg pkt) s = .next t ∧ t.fab.answers = s.fab.answers ++ [p] ∧ p.type = 0x15 ∧ p.op = 3 ∧ p.dst = pkt.src ∧ p.addr = 128 * line ∧
      (∀ sl, t.l2.tied.get? ((sl * 4096 + pkt.src % 4096) * 2 ^ 41 + line) = none) ∧ t.mem = s.mem) ∧
    (∀ b d, pkt.op = 3 → s.tieBit pkt.src = some b → s.l2.dir.get? line = some d → d.state = .sh → d.sharers = 2 ^ b →
      (∀ at_ i, d.busy ≠ some (at_, .held i)) →
      ∃ t e, exec (.cohMsg pkt) s = .next t ∧ t.l2.dir.get? line = some e ∧ e.sharers = 0 ∧ e.state = .h ∧ e.busy = none ∧ e.data = d.data ∧ t.mem = s.mem)) ∧
  (∀ (s : State) (pkt : Packet) (g id q : Nat) (c : Coll) (l : List Nat), s.l2.refused = none → pkt.type = 0x16 → pkt.dst = s.fab.chipId → pkt.op = 0 → s.fab.colls.get? g = some c →
    grpRank (s.groupEntry g) ≠ 0 → grpChip (s.groupEntry g) (rankParent (grpRank (s.groupEntry g))) = pkt.src → c.up = some l → c.node = some (id, q) →
    (joinParts (c.result.put (pkt.addr / 512) ((dataElems pkt 0 128).take (c.head.resultLen (grpMembers (s.groupEntry g)) - 128 * (pkt.addr / 512))))).length <
      c.head.resultLen (grpMembers (s.groupEntry g)) →
    ∃ t x, exec (.collectResult pkt g) s = .next t ∧ t.fab.colls.get? g = some x ∧ x.result.get? (pkt.addr / 512) =
      some ((dataElems pkt 0 128).take (c.head.resultLen (grpMembers (s.groupEntry g)) - 128 * (pkt.addr / 512))) ∧ t.mem = s.mem) ∧
  (∀ (s : State) (pkt : Packet) (g id q : Nat) (c : Coll), pkt.type = 0x16 → pkt.dst = s.fab.chipId → 0x80 < pkt.op →
    pkt.src ∈ grpOthers (s.groupEntry g) → s.fab.colls.get? g = some c → c.node = some (id, q) → (s.q q).state.alive = true →
    ∃ t, exec (.collectAbort pkt g) s = .next t ∧ Killed t q (pkt.op - 0x80) ∧ t.fab.colls.get? g = none ∧ bit t.fab.status 5 = true ∧
      (pkt.op = 0x89 → t.num (E.cgroupState + g) = 2) ∧ t.mem = s.mem)

/-- R380, R381, R388, R389: a module whose light is lost or whose alarm is polled fails, and each of its groups goes to the other module of its engine or dark; a relocked group ends its move, and the last group of a lost
module counts the fault; planned moves go one at a time, 1 ms apart; an engine without progress fails with its four links. Where exec answers a next state, under conditions on the state and the operands alone, is said
of: laserLightLoss, cmisAlarmPoll, laneGroupSwitchover, plannedMove, oeFail. -/
def Obligations.LaserSwitching : Prop :=
  (∀ (s : State) (j : Nat), j < 4 → (s.laser j).state = 1 ∨ (s.laser j).state = 2 →
    (∃ t, exec (.laserLightLoss j) s = .next t ∧ ModuleLost s t j) ∧
    (∀ flags, flags ≠ 0 → ∃ t, exec (.cmisAlarmPoll j flags) s = .next t ∧ ModuleLost s t j) ∧ exec (.cmisAlarmPoll j 0) s = .next s) ∧
  (∀ (s : State) (e g at0 : Nat) (lost : Option Nat), e < 8 → g < 2 → (s.oe e).movedOf g = some (at0, lost) →
    ∃ t, exec (.laneGroupSwitchover e g) s = .next t ∧ (t.oe e).movedOf g = none ∧ (t.oe e).movedOf (1 - g) = (s.oe e).movedOf (1 - g) ∧
      (t.oe e).group 0 = (s.oe e).group 0 ∧ (t.oe e).group 1 = (s.oe e).group 1 ∧
      ((s.oe e).state = 1 → (t.oe e).state = if ((s.oe e).movedOf (1 - g)).isNone then 0 else 1) ∧ (∀ k, k ≠ e → t.oe k = s.oe k) ∧
      (∀ j, t.laser j = s.laser j) ∧ (lost = none → t.mgt = s.mgt) ∧ t.mem = s.mem ∧ t.cores = s.cores ∧
      (∀ j, lost = some j →
        (∀ e' g', e' < 8 → g' < 2 → (e', g') ≠ (e, g) → ((s.oe e').movedOf g').bind (fun p => p.2) ≠ some j) →
        t.num (E.faultClassCount + 7) = (s.num (E.faultClassCount + 7) + 1) % 2 ^ 32)) ∧
  (∀ (s : State) (e g j m : Nat) (rest : List (Nat × Nat)), e < 8 → g < 2 → s.opt.moves = (2 * e + g, m) :: rest → s.server e g = some j →
    m = otherModule e g j →
    (∀ at0, s.opt.lastMove = some at0 → s.time.mono < at0 + 1000000 → exec .plannedMove s = .next s) ∧
    ((∀ at0, s.opt.lastMove = some at0 → at0 + 1000000 ≤ s.time.mono) →
      ∃ t, exec .plannedMove s = .next t ∧ t.opt.moves = rest ∧ t.opt.lastMove = some s.time.mono ∧
        ((s.laser m).takes = true → (t.oe e).group g = settingOf e g m ∧ bit t.opt.status 0 = true) ∧
        ((s.laser m).takes = false → (s.laser j).draining = true ∨ (s.laser j).recal = true → (t.oe e).group g = 2) ∧
        ((s.laser m).takes = false → (s.laser j).draining = false → (s.laser j).recal = false → (t.oe e).group g = (s.oe e).group g) ∧
        (∀ e' g', e' < 8 → g' < 2 → (e', g') ≠ (e, g) → (t.oe e').group g' = (s.oe e').group g') ∧
        ((s.laser j).draining = true → (s.laser j).recal = false → (∀ e' g', e' < 8 → g' < 2 → s.server e' g' = some j → (e', g') = (e, g)) →
          (t.laser j).state = 3 ∧ bit t.opt.status 2 = true) ∧ t.mem = s.mem ∧ t.cores = s.cores)) ∧
  (∀ (s : State) (e : Nat), e < 8 → (s.oe e).state ≠ 2 →
    ((s.server e 0).isSome = true ∨ (s.server e 1).isSome = true →
      ∃ t, exec (.oeFail e) s = .next t ∧ (t.oe e).state = 2 ∧ (t.oe e).movedOf 0 = none ∧ (t.oe e).movedOf 1 = none ∧ bit t.opt.status 5 = true ∧
        (∀ l, l / 4 = e → (t.link l).state ≠ 2) ∧ (∀ l, l / 4 ≠ e → t.link l = s.link l) ∧ (∀ k, k ≠ e → t.oe k = s.oe k) ∧
        t.num (E.faultClassCount + 6) = (s.num (E.faultClassCount + 6) + 1) % 2 ^ 32 ∧ t.mem = s.mem ∧ t.cores = s.cores) ∧
    (s.server e 0 = none → s.server e 1 = none → exec (.oeFail e) s = .next s))

/-- R382, R383, R384, R385, R386, R387, R389: service is refused while a neighbour of a ready module is not ready, takes a failed module out at once, waits at an empty bay and drains a ready one; an inserted module that can
be read starts its calibration in a new epoch; one that passes is ready, takes its dark groups and stores its record; a recalibration drains a ready module first; removal empties a bay in service; telemetry and the
weighted hours are kept. Where exec answers a next state, under conditions on the state and the operands alone, is said of: laserService, laserInsert, laserCalibrationComplete, laserRecalibrate, laserRemove,
laserTelemetryPoll, laserLifeHour. -/
def Obligations.LaserService : Prop :=
  (∀ (s : State) (who : Origin) (j : Nat), j < 4 → s.deviceCheck who (E.laserService + j) = 0 →
    ((s.laser j).state = 2 → (s.laser ((j + 3) % 4)).state ≠ 2 ∨ (s.laser ((j + 1) % 4)).state ≠ 2 → exec (.laserService who j) s = .next (s.answer 5)) ∧
    ((s.laser j).state = 4 → ∃ t, exec (.laserService who j) s = .next t ∧ t.laser j = { s.laser j with state := 3, service := true } ∧
      bit t.opt.status 2 = true ∧ t.mgt.answer = 0 ∧ BayOnly s t j) ∧
    ((s.laser j).state = 0 → ∃ t, exec (.laserService who j) s = .next t ∧ t.laser j = { s.laser j with service := true } ∧ t.mgt.answer = 0 ∧ BayOnly s t j) ∧
    ((s.laser j).state = 2 → (s.laser j).recal = false → (s.laser ((j + 3) % 4)).state = 2 → (s.laser ((j + 1) % 4)).state = 2 →
      ∃ t, exec (.laserService who j) s = .next t ∧ t.mgt.answer = 0 ∧ (t.laser j).service = true ∧ BayOnly s t j ∧
        (s.served j = [] → (t.laser j).state = 3 ∧ bit t.opt.status 2 = true) ∧
        (s.served j ≠ [] → (t.laser j).state = 2 ∧ (t.laser j).draining = true ∧ ∀ e g, e < 8 → g < 2 → s.server e g = some j → (2 * e + g, otherModule e g j) ∈ t.opt.moves))) ∧
  (∀ (s : State) (j chip ep : Nat) (ident : List Byte), j < 4 → (s.laser j).state = 0 ∨ (s.laser j).state = 4 → s.sup.mainPg = true →
    (∃ t, exec (.laserInsert j ident chip ep true) s = .next t ∧ (t.laser j).state = 1 ∧ (t.laser j).epoch = ((s.laser j).epoch + 1) % 2 ^ 32 ∧
      (t.laser j).inserted = ident ∧ (t.laser j).bayChip = some chip ∧ (t.laser j).bayEpoch = some ep ∧ (t.laser j).service = (s.laser j).service ∧
      bit t.opt.status 3 = true ∧ BayOnly s t j) ∧
    (∃ t, exec (.laserInsert j ident chip ep false) s = .next t ∧ (t.laser j).state = 4 ∧ bit t.opt.status 1 = true ∧ BayOnly s t j)) ∧
  (∀ (s : State) (j flags : Nat), j < 4 → (s.laser j).state = 1 →
    (∃ t, exec (.laserCalibrationComplete j true flags) s = .next t ∧ (t.laser j).state = 2 ∧ (t.laser j).service = false ∧
      (t.laser j).bayChip = some (s.num E.fabChipId) ∧ (t.laser j).bayEpoch = some (s.laser j).epoch ∧ t.blob (E.laserIdentity + j) = (s.laser j).inserted ∧
      bit t.opt.status 4 = true ∧ (∀ k, k ≠ j → t.laser k = s.laser k) ∧
      (∀ e g, e < 8 → g < 2 → s.server e g = none → j = homeModule e g ∨ j = standbyModule e g → (t.oe e).group g = settingOf e g j) ∧
      (∀ e g, e < 8 → g < 2 → (s.server e g).isSome = true ∨ (j ≠ homeModule e g ∧ j ≠ standbyModule e g) → (t.oe e).group g = (s.oe e).group g) ∧
      (s.num E.laserAutoReturn = 1 → ∀ e g, e < 8 → g < 2 → j = homeModule e g → (s.server e g).isSome = true → (2 * e + g, j) ∈ t.opt.moves) ∧ t.mem = s.mem) ∧
    (∃ t, exec (.laserCalibrationComplete j false flags) s = .next t ∧ (t.laser j).state = 4 ∧ bit t.opt.status 1 = true ∧ BayOnly s t j)) ∧
  (∀ (s : State) (who : Origin) (j : Nat), j < 4 → s.deviceCheck who (E.laserRecalibrate + j) = 0 →
    ∃ t, exec (.laserRecalibrate who j) s = .next t ∧ t.mgt.answer = 0 ∧ BayOnly s t j ∧ ((s.laser j).state = 0 → t.laser j = s.laser j) ∧
      ((s.laser j).state ≠ 0 → (s.laser j).state ≠ 2 ∨ s.served j = [] → (t.laser j).state = 1 ∧ (t.laser j).epoch = ((s.laser j).epoch + 1) % 2 ^ 32) ∧
      ((s.laser j).state = 2 → s.served j ≠ [] → t.laser j = { s.laser j with recal := true, draining := false } ∧
        ∀ e g, e < 8 → g < 2 → s.server e g = some j → (2 * e + g, otherModule e g j) ∈ t.opt.moves)) ∧
  (∀ (s : State) (j : Nat), j < 4 → ((s.laser j).state = 3 →
      ∃ t, exec (.laserRemove j) s = .next t ∧ (t.laser j).state = 0 ∧ (t.laser j).inserted = [] ∧ (t.laser j).telemetry = [] ∧
        (t.laser j).epoch = (s.laser j).epoch ∧ (t.laser j).service = (s.laser j).service ∧ t.mgt = s.mgt ∧ BayOnly s t j) ∧
    ((s.laser j).state ≠ 3 → exec (.laserRemove j) s = .next s)) ∧
  (∀ (s : State) (j : Nat) (bytes : List Byte), j < 4 → (s.laser j).state ≠ 0 →
    ∃ t, exec (.laserTelemetryPoll j bytes) s = .next t ∧ t.laser j = { s.laser j with telemetry := bytes } ∧ t.mgt = s.mgt ∧ BayOnly s t j) ∧
  (∀ (s : State) (j temp : Nat), j < 4 → temp < 256 → (s.laser j).state = 1 ∨ (s.laser j).state = 2 →
    ∃ t w, exec (.laserLifeHour j temp) s = .next t ∧ t.laser j = { s.laser j with milliHours := (s.laser j).milliHours + w } ∧ BayOnly s t j ∧
      (temp ≤ 50 → w = 1000) ∧ (50 < temp → w ^ 10 ≤ 10 ^ 30 * 2 ^ (temp - 50) ∧ 10 ^ 30 * 2 ^ (temp - 50) < (w + 1) ^ 10) ∧
      ((s.laser j).lifeUsed < 900 → 900 ≤ (t.laser j).lifeUsed → bit t.opt.status 6 = true))

/-- R393, R394, R395, R396 (the wire forms of a request, an ACK and a NAK are the model's, log entry 45): a queue pair is readied and reset by its entry; a doorbell makes entries available; an entry starts as a WRITE or a
READ, completes with status 1, fails with its status and flushes the later ones, and is sent again after a timeout until its retries are used up; a remote request is refused, lands or is answered; a CNP halves the rate.
Where exec answers a next state, under conditions on the state and the operands alone, is said of: svcQpStateWrite, svcQpDoorbell, rdmaWrite, rdmaRead, rdmaWorkComplete, rdmaWorkFail, rdmaAckTimeout, roceRemoteRequest,
roceCnpReceive. -/
def Obligations.RdmaQueuePairs : Prop :=
  (∀ (s : State) (who : Origin) (f n : Nat) (b : List Byte), n < 64 → s.fnCheck who f (E.svcQp + n) = 0 → b.length = 64 → qpFieldsOk b = true →
    (fieldAt b 0 1 = 1 → (s.qp f n).state = 0 → (s.fn f).gate = .opened → ∃ t, exec (.svcQpStateWrite who f n b) s = .next t ∧ (t.qp f n).state = 1 ∧
      (t.qp f n).write = 0 ∧ (t.qp f n).read = 0 ∧ (t.qp f n).work = [] ∧ (t.qp f n).raw = overlay b 0x20 (leBytes 4 (localQpn f n)) ∧
      t.mgt.answer = 0 ∧ t.mem = s.mem ∧ QpOnly s t f n) ∧
    (fieldAt b 0 1 = 0 → ∃ t, exec (.svcQpStateWrite who f n b) s = .next t ∧ (t.qp f n).state = 0 ∧ (t.qp f n).work = [] ∧ t.mgt.answer = 0 ∧
      t.mem = s.mem ∧ QpOnly s t f n) ∧
    (fieldAt b 0 1 = 1 → (s.qp f n).state ≠ 0 → exec (.svcQpStateWrite who f n b) s = .next (s.answer 5))) ∧
  (∀ (s : State) (f n v : Nat), n < 64 → s.heldOf f = [] → s.fnExists f = true → (s.qp f n).state = 1 → (s.qp f n).ring ≠ 0 → v < 2 ^ 32 →
    (1 ≤ (v + 2 ^ 32 - (s.qp f n).write) % 2 ^ 32 → (v + 2 ^ 32 - (s.qp f n).write) % 2 ^ 32 ≤ (s.qp f n).entries →
      (v + 2 ^ 32 - (s.qp f n).read) % 2 ^ 32 ≤ (s.qp f n).entries →
      ∃ t, exec (.svcQpDoorbell f n v) s = .next t ∧ t.qp f n = { s.qp f n with write := v } ∧ t.mem = s.mem ∧ t.mgt = s.mgt ∧ QpOnly s t f n) ∧
    ((v + 2 ^ 32 - (s.qp f n).write) % 2 ^ 32 = 0 ∨ (s.qp f n).entries < (v + 2 ^ 32 - (s.qp f n).write) % 2 ^ 32 ∨
      (s.qp f n).entries < (v + 2 ^ 32 - (s.qp f n).read) % 2 ^ 32 → exec (.svcQpDoorbell f n v) s = .next s)) ∧
  (∀ (s : State) (f n i : Nat) (b : List Byte), s.nextWork f n = some (i, b) → s.workFault f b = 0 → s.l2.refused = none →
    (fieldAt b 0 1 = 1 → ∃ t, exec (.rdmaWrite f n) s = .next t ∧ t.svc.reply = s.workMessage f b ∧ t.mem = s.mem ∧ QpOnly s t f n ∧
      t.qp f n = { s.qp f n with work := (s.qp f n).work ++ [{ ring := i, raw := b, retries := 0, sentAt := s.time.mono }] }) ∧
    (fieldAt b 0 1 = 2 → ∃ t, exec (.rdmaRead f n) s = .next t ∧ t.svc.reply = s.workMessage f b ∧ t.mem = s.mem ∧ QpOnly s t f n ∧
      t.qp f n = { s.qp f n with work := (s.qp f n).work ++ [{ ring := i, raw := b, retries := 0, sentAt := s.time.mono }] })) ∧
  (∀ (s : State) (f n : Nat) (w : Work) (rest : List Work) (data : List Byte), (s.qp f n).work = w :: rest → (s.qp f n).state = 1 →
    bit (fieldAt w.raw 2 2) 0 = false → s.unitGoes 17 (f * 64 + n) (rdmaWorkComplete f n data) →
    (fieldAt w.raw 0 1 = 1 → ∃ t, exec (.rdmaWorkComplete f n data) s = .next t ∧ QpOnly s t f n ∧
      t.qp f n = { s.qp f n with work := rest, read := ((s.qp f n).read + 1) % 2 ^ 32 } ∧ t.mem = (s.workStatus f n w.ring 1).mem) ∧
    (fieldAt w.raw 0 1 ≠ 1 → data.length = fieldAt w.raw 4 4 → s.workLocal f w.raw = 0 →
      ∃ t, exec (.rdmaWorkComplete f n data) s = .next t ∧ QpOnly s t f n ∧
        t.qp f n = { s.qp f n with work := rest, read := ((s.qp f n).read + 1) % 2 ^ 32 } ∧
        t.mem = (State.workStatus (s.writeV f (fieldAt w.raw 8 8) data).2 f n w.ring 1).mem)) ∧
  (∀ (s : State) (f n : Nat), (s.qp f n).state = 1 →
    (∀ w rest, (s.qp f n).work = w :: rest → s.unitGoes 17 (f * 64 + n) (rdmaWorkFail f n 2) → ∃ t, exec (.rdmaWorkFail f n 2) s = .next t ∧ QpFailed s t f n w.ring 2) ∧
    (∀ i b st, (s.qp f n).work = [] → s.nextWork f n = some (i, b) → s.workFault f b = st → st ≠ 0 → s.unitGoes 17 (f * 64 + n) (rdmaWorkFail f n st) →
      ∃ t, exec (.rdmaWorkFail f n st) s = .next t ∧ QpFailed s t f n i st) ∧
    (∀ w rest, (s.qp f n).work = w :: rest → s.unitGoes 17 (f * 64 + n) (rdmaAckTimeout f n) →
      (s.time.mono < w.sentAt + (s.qp f n).timeoutNs → exec (.rdmaAckTimeout f n) s = .next (s.unitDone 17 (f * 64 + n))) ∧
      (w.sentAt + (s.qp f n).timeoutNs ≤ s.time.mono → w.retries < (s.qp f n).retries →
        ∃ t, exec (.rdmaAckTimeout f n) s = .next t ∧ (t.qp f n).state = 1 ∧ (t.qp f n).read = (s.qp f n).read ∧
          (t.qp f n).work.head? = some { w with retries := w.retries + 1, sentAt := s.time.mono } ∧
          (t.qp f n).work.map (fun x => x.ring) = (s.qp f n).work.map (fun x => x.ring) ∧ t.mem = s.mem ∧ QpOnly s t f n) ∧
      (w.sentAt + (s.qp f n).timeoutNs ≤ s.time.mono → (s.qp f n).retries ≤ w.retries →
        ∃ t, exec (.rdmaAckTimeout f n) s = .next t ∧ QpFailed s t f n w.ring 3))) ∧
  (∀ (s : State) (f n op addr rkey len : Nat) (data : List Byte), n < 64 → s.fnExists f = true → s.unitGoes 17 (f * 64 + n) (roceRemoteRequest f n op addr rkey len data) →
    ((s.qp f n).state ≠ 1 → ∃ t, exec (.roceRemoteRequest f n op addr rkey len data) s = .next t ∧ Nakked s t f n 2) ∧
    ((s.qp f n).state = 1 → op ≠ 1 → op ≠ 2 → ∃ t, exec (.roceRemoteRequest f n op addr rkey len data) s = .next t ∧ Nakked s t f n 1) ∧
    ((s.qp f n).state = 1 → s.unitGoes 17 (f * 64 + n) (roceRemoteRequest f n 1 addr rkey len data) →
      (s.regionAdmits f rkey addr data.length 1 = false ∨ s.checkV f addr data.length .write ≠ 0 →
        ∃ t, exec (.roceRemoteRequest f n 1 addr rkey len data) s = .next t ∧ Nakked s t f n 2) ∧
      (s.regionAdmits f rkey addr data.length 1 = true → s.checkV f addr data.length .write = 0 →
        ∃ t, exec (.roceRemoteRequest f n 1 addr rkey len data) s = .next t ∧ t.svc.reply = [0#8] ∧ t.mem = (s.writeV f addr data).2.mem ∧
          (t.qp f n).state = 1 ∧ (t.qp f n).work = (s.qp f n).work ∧ QpOnly s t f n)) ∧
    ((s.qp f n).state = 1 → s.unitGoes 17 (f * 64 + n) (roceRemoteRequest f n 2 addr rkey len data) →
      (∀ d, s.regionAdmits f rkey addr len 0 = true → s.readV f addr len = .bytes d →
        ∃ t, exec (.roceRemoteRequest f n 2 addr rkey len data) s = .next t ∧ t.svc.reply = 0#8 :: d ∧ t.mem = s.mem ∧ QpOnly s t f n))) ∧
  (∀ (s : State) (f n : Nat), n < 64 → (s.qp f n).state = 1 → ∃ t, exec (.roceCnpReceive f n) s = .next t ∧
    t.qp f n = { s.qp f n with rate := s.qpRate f n / 2, cnpAt := some s.time.mono } ∧ t.mem = s.mem ∧ t.mgt = s.mgt ∧ QpOnly s t f n)

/-- R391, R392, R396, R397, R398: a port comes up at its speed and goes down with its queue pairs as they were; a request for its own address is answered with its MAC, another frame counted; a PFC frame pauses and resumes
the priorities that it enables; a priority above 75 % of its allotment sends XOFF and one below 50 % sends XON; one paused for the watchdog's time is a storm. Where exec answers a next state, under conditions on the
state and the operands alone, is said of: svcLinkUp, svcLinkDown, neighbourRequest, pfcFrameReceive, pfcXoffSend, pfcWatchdogExpire. -/
def Obligations.ServicePorts : Prop :=
  (∀ (s : State) (p : Nat), p < 2 →
    ((s.port p).state ≠ 1 → s.num (E.svcSpeed + p) ≠ 0 → s.sup.phase = .ready →
      ∃ t, exec (.svcLinkUp p) s = .next t ∧ (t.port p).state = 1 ∧ (t.port p).speed = s.num (E.svcSpeed + p) ∧ (t.port p).paused = 0 ∧
        bit t.svc.status 1 = true ∧ t.svc.qps = s.svc.qps ∧ (∀ k, k ≠ p → t.port k = s.port k) ∧ t.mem = s.mem) ∧
    (s.num (E.svcSpeed + p) = 0 → exec (.svcLinkUp p) s = .next s) ∧
    ((s.port p).state = 1 → ∃ t, exec (.svcLinkDown p) s = .next t ∧ (t.port p).state = 0 ∧ (t.port p).paused = 0 ∧ bit t.svc.status 0 = true ∧
      t.svc.qps = s.svc.qps ∧ (∀ k, k ≠ p → t.port k = s.port k) ∧ (s.num E.ptpSource = p + 1 → t.time.ptpLocked = false) ∧ t.mem = s.mem) ∧
    ((s.port p).state ≠ 1 → exec (.svcLinkDown p) s = .next s)) ∧
  (∀ (s : State) (p : Nat) (ip : List Byte), p < 2 → (s.port p).state = 1 →
    (ip ∈ s.svcAddresses p → ∃ t, exec (.neighbourRequest p ip) s = .next t ∧ t.svc.reply = ip ++ s.svcMacOf p ∧ t.mgt = s.mgt ∧ t.mem = s.mem) ∧
    (ip ∉ s.svcAddresses p → ∃ t, exec (.neighbourRequest p ip) s = .next t ∧ t.svc = s.svc ∧ t.mem = s.mem ∧
      t.num (E.svcFramesDropped + p) = (s.num (E.svcFramesDropped + p) + 1) % 2 ^ 64)) ∧
  (∀ (s : State) (p enable pause : Nat), p < 2 → (s.port p).state = 1 →
    ∃ t, exec (.pfcFrameReceive p enable pause) s = .next t ∧ t.svc.qps = s.svc.qps ∧ (∀ k, k ≠ p → t.port k = s.port k) ∧ t.mgt = s.mgt ∧ t.mem = s.mem ∧
      ∀ i, i < 8 →
        (bit enable i = true → bit pause i = true → bit (s.port p).storm i = false → bit (t.port p).paused i = true) ∧
        (bit enable i = true → bit pause i = true → bit (s.port p).storm i = true →
          bit (t.port p).paused i = bit (s.port p).paused i ∧ bit (t.port p).storm i = true) ∧
        (bit enable i = true → bit pause i = false → bit (t.port p).paused i = false ∧ bit (t.port p).storm i = false) ∧
        (bit enable i = false → bit (t.port p).paused i = bit (s.port p).paused i ∧ bit (t.port p).storm i = bit (s.port p).storm i)) ∧
  (∀ (s : State) (p i fill : Nat), p < 2 → i < 8 → (s.port p).state = 1 → i ∈ s.usedPriorities p →
    (3 * s.allotment p < 4 * fill → bit (s.port p).xoff i = false →
      ∃ t, exec (.pfcXoffSend p i fill) s = .next t ∧ t.svc.reply = [BitVec.ofNat 8 i, 1#8] ∧ bit (t.port p).xoff i = true ∧ t.svc.qps = s.svc.qps ∧ t.mem = s.mem) ∧
    (2 * fill < s.allotment p → bit (s.port p).xoff i = true →
      ∃ t, exec (.pfcXoffSend p i fill) s = .next t ∧ t.svc.reply = [BitVec.ofNat 8 i, 0#8] ∧ bit (t.port p).xoff i = false ∧ t.svc.qps = s.svc.qps ∧ t.mem = s.mem) ∧
    (s.allotment p ≤ 2 * fill → 4 * fill ≤ 3 * s.allotment p →
      ∃ t, exec (.pfcXoffSend p i fill) s = .next t ∧ t.svc.reply = s.svc.reply ∧ (t.port p).xoff = (s.port p).xoff ∧ t.svc.qps = s.svc.qps ∧ t.mem = s.mem)) ∧
  (∀ (s : State) (p i at0 : Nat), (s.port p).pausedAt.get? i = some at0 → bit (s.port p).storm i = false →
    (s.time.mono < at0 + s.num E.svcPfcWatchdog * 1000000 → exec (.pfcWatchdogExpire p i) s = .next s) ∧
    (at0 + s.num E.svcPfcWatchdog * 1000000 ≤ s.time.mono →
      ∃ t, exec (.pfcWatchdogExpire p i) s = .next t ∧ bit (t.port p).storm i = true ∧ (t.port p).paused = (s.port p).paused ∧ bit t.svc.status 3 = true ∧
        t.svc.qps = s.svc.qps ∧ t.mem = s.mem))

/-- R400, R401, R402, R403, R404, R406, R411: an evaluation of the cap gives every plain with matrix work the limit of R401 and every other 64, lowers the operating point while the floor does not hold the cap and raises it
again after 100 ms; an over-current alarm clamps every plain, a droop its plain or, from the plains of the centre, every plain, until it recovers; a hot plain steps down by 4 and a cool one up by 4 after 100 ms; a trip
takes the rails down; pacing follows the slowest member. Where exec answers a next state, under conditions on the state and the operands alone, is said of: powerCapEvaluation, overcurrentAlarm, droopDetect, droopRecover,
thermalEvaluation, thermalTrip, slicePacing. -/
def Obligations.PowerLimits : Prop :=
  (∀ (s : State) (e m full ex rc a : Nat) (p next : Int), s.sup.phase = .ready → 0 < full →
    ex = (if s.num E.pwrCap * 1000 < e then min 20 (s.pwr.excursion + 1) else 0) →
    rc = (if s.num E.pwrCap * 1000 < e then (if s.pwr.recovery < 100 then 0 else s.pwr.recovery) else if 0 < s.pwr.excursion then 1 else min 100 (s.pwr.recovery + 1)) →
    p = (s.num E.pwrCap * s.num E.pwrCapWindow * 1000000 : Nat) - (sumNat (((e :: s.pwr.history).take 30000).take (1000 * s.num E.pwrCapWindow - 1)) : Int) →
    next = min (if 20 ≤ ex ∨ rc < 100 then min p ((s.num E.pwrCap * 1000 : Nat) : Int) else p) 3400000 →
    a = max (s.num E.pwrAdmitFloor) (min 64 (64 * (next - ((e : Int) - (m : Int))) / (full : Int)).toNat) →
    ∃ t, exec (.powerCapEvaluation e m full) s = .next t ∧ t.pwr.history = (e :: s.pwr.history).take 30000 ∧ t.pwr.excursion = ex ∧ t.pwr.recovery = rc ∧
      t.pwr.energy = (s.pwr.energy + e) % 2 ^ 64 ∧ t.pwr.lastW = e / 1000 % 2 ^ 16 ∧ t.pwr.clamp = false ∧
      (∀ i, i < 16 → t.plain i = { s.plain i with cap := if s.mxPlain i = true then a else 64 }) ∧
      (a ≤ s.num E.pwrAdmitFloor → next < (e : Int) →
        (s.num E.pwrPointFallback = 1 → s.pwr.lowered < s.num E.opPointRequest → t.pwr.lowered = s.pwr.lowered + 1 ∧
          t.time.rampTarget = some (s.num E.opPointRequest - (s.pwr.lowered + 1)) ∧ bit t.pwr.status 1 = true) ∧
        (s.num E.pwrPointFallback ≠ 1 ∨ s.num E.opPointRequest ≤ s.pwr.lowered → t.pwr.lowered = s.pwr.lowered ∧ bit t.pwr.status 2 = true)) ∧
      (s.num E.pwrAdmitFloor + 8 < a → 99 ≤ s.pwr.aboveFloor → s.pwr.lowered ≠ 0 → t.pwr.lowered = s.pwr.lowered - 1 ∧
        t.time.rampTarget = some (s.num E.opPointRequest - (s.pwr.lowered - 1))) ∧
      (s.num E.pwrAdmitFloor + 8 < a → s.pwr.aboveFloor < 99 → t.pwr.lowered = s.pwr.lowered ∧ t.pwr.aboveFloor = s.pwr.aboveFloor + 1) ∧
      t.mem = s.mem ∧ t.cores = s.cores) ∧
  (∀ (s : State), s.sup.phase = .ready → ∃ t, exec .overcurrentAlarm s = .next t ∧ t.pwr.clamp = true ∧ (∀ p, t.plain p = s.plain p ∧ t.admitOf p ≤ s.num E.pwrDroopAdmit) ∧
    t.pwr.history = s.pwr.history ∧ t.mem = s.mem ∧ t.cores = s.cores) ∧
  (∀ (s : State) (d : Nat), d < 19 → bit s.pwr.droops d = false →
    ∃ t, exec (.droopDetect d) s = .next t ∧ bit t.pwr.droops d = true ∧ bit t.pwr.status 3 = true ∧ (∀ k, k ≠ d → bit t.pwr.droops k = bit s.pwr.droops k) ∧
      (∀ p, p = d ∨ 16 ≤ d → t.admitOf p ≤ s.num E.pwrDroopAdmit) ∧
      (d < 16 → (t.plain d).droopCount = min (2 ^ 32 - 1) ((s.plain d).droopCount + 1) ∧ t.num E.droopEvents = (s.num E.droopEvents + 1) % 2 ^ 64) ∧
      (∀ p, p ≠ d → t.plain p = s.plain p) ∧ t.mem = s.mem ∧ t.cores = s.cores) ∧
  (∀ (s : State) (d : Nat), bit s.pwr.droops d = true → (d < 19 → exec (.droopDetect d) s = .next s) ∧
    ∃ t, exec (.droopRecover d) s = .next t ∧ bit t.pwr.droops d = false ∧ (∀ k, k ≠ d → bit t.pwr.droops k = bit s.pwr.droops k) ∧
      (∀ p, t.plain p = s.plain p) ∧ t.mgt = s.mgt ∧ t.mem = s.mem ∧ t.cores = s.cores) ∧
  (∀ (s : State) (h : Temps), s.sup.phase = .ready →
    ∃ t, exec (.thermalEvaluation h) s = .next t ∧ t.mem = s.mem ∧ t.cores = s.cores ∧
      (∀ p, p < 16 → (t.plain p).tj = h.plains.getD p 0 % 256 ∧ t.num (E.tjPlain + p) = h.plains.getD p 0 % 256 ∧
        (t.plain p).cap = (s.plain p).cap ∧ (t.plain p).pacing = (s.plain p).pacing ∧
        (s.num E.pwrTjLimit < h.plains.getD p 0 → (t.plain p).thermal = max (s.num E.pwrAdmitFloor) ((s.plain p).thermal - 4) ∧ (t.plain p).clearSince = none) ∧
        (h.plains.getD p 0 ≤ s.num E.pwrTjLimit → ∀ since, (s.plain p).clearSince = some since →
          (t.plain p).thermal = if 100000000 ≤ s.time.mono - since then min 64 ((s.plain p).thermal + 4) else (s.plain p).thermal) ∧
        (h.plains.getD p 0 ≤ s.num E.pwrTjLimit → (s.plain p).clearSince = none → (t.plain p).thermal = (s.plain p).thermal ∧ (t.plain p).clearSince = some s.time.mono)) ∧
      (∀ n, n < 20 → bit t.pwr.dramHalf n = decide (s.num E.pwrDramLimit < h.dram.getD n 0) ∧ bit t.pwr.refresh2 n = decide (85 < h.dram.getD n 0)) ∧
      ((∃ n, n < 20 ∧ s.num E.pwrDramLimit < h.dram.getD n 0) ∨ 85 < h.optics → bit t.pwr.status 5 = true)) ∧
  (∀ (s : State) (n r : Nat), s.sup.phase ≠ .off → s.sup.auxValid = true →
    (tripAt n ≤ r → ∃ t, exec (.thermalTrip n r) s = .next t ∧ t.sup.phase = .off ∧ t.sup.mainPg = false ∧ t.sup.thermTrip = true ∧ t.sup.auxValid = true ∧
      t.sup.mgtLive = s.sup.mgtLive ∧ t.mem = [] ∧ t.fe = FrontEnd.initial ∧ (t.mgt.log.getLast?).map (fun x => x.type) = some 5) ∧
    (r < tripAt n → exec (.thermalTrip n r) s = .next s)) ∧
  (∀ (s : State) (rates : List (Nat × Nat)), s.sup.phase = .ready →
    (s.num E.pwrSlicePacing ≠ 1 → ∃ t, exec (.slicePacing rates) s = .next t ∧ (∀ p, p < 16 → t.plain p = { s.plain p with pacing := 64 }) ∧ t.num E.slicePace = 0xFFFF ∧
      t.mem = s.mem) ∧
    (s.num E.pwrSlicePacing = 1 → s.chipUnitNow.rateMin ≠ 0 → ∀ L m,
      L = (s.matrixRate.map (fun r => (s.fab.chipId, r))).toList ++
        rates.filter (fun r => s.sliceIds.contains r.1 && !decide (r.1 = s.fab.chipId) && !s.fab.unreachable.contains r.1) →
      m ∈ L → (∀ c ∈ L, m.2 < c.2 ∨ (m.2 = c.2 ∧ m.1 ≤ c.1)) →
      ∃ t, exec (.slicePacing rates) s = .next t ∧ t.num E.slicePace = m.1 ∧ t.mem = s.mem ∧
        ∀ p, p < 16 → t.plain p = { s.plain p with pacing := max (s.num E.pwrAdmitFloor) (min 64 (ceilDiv (102 * m.2) (100000 * s.chipUnitNow.rateMin))) }))

/-- R407, R408, R409, R410: every rail's modelled energies are scaled by one factor to its measured energy, of which nothing is lost, and the sync unit's 3 W are shared by the queues with armed WAIT nodes; the charges of a
millisecond go to their queues, functions and partitions and to the device, but those of a function that is being reset or disabled to its partition alone; a charge to a queue that names a job goes to the job's record; a
record that is released is logged and its slot is free. Where exec answers a next state, under conditions on the state and the operands alone, is said of: energyAttribution, pwrJobRelease. -/
def Obligations.EnergyAccounts : Prop :=
  (∀ (s : State) (rails rs : List RailEnergy) (Q F P : List (Nat × Nat)), s.sup.phase = .ready → rs = s.withSync rails → Q = rs.flatMap (fun r => railScaled r r.queues) →
    F = rs.flatMap (fun r => railScaled r r.fns) → P = rs.flatMap (fun r => railScaled r r.parts) →
    (∀ x ∈ Q, x.1 < 4096) → (∀ x ∈ F, x.1 < 256) → (∀ x ∈ P, x.1 < 64) → (∀ f, f < 256 → s.fnPart f < 64) →
    ∃ t, exec (.energyAttribution rails) s = .next t ∧ t.mem = s.mem ∧ t.cores = s.cores ∧
      (∀ q, q < 4096 → s.energyMoved (fnOfQueue q) = false → t.num (E.queueEnergy + q % 16) (fnOfQueue q) % 2 ^ 64 =
        (s.num (E.queueEnergy + q % 16) (fnOfQueue q) + sumCharges (Q.filter (fun x => decide (x.1 = q)))) % 2 ^ 64) ∧
      (∀ f, f < 256 → s.energyMoved f = false →
        t.num E.fnEnergy f % 2 ^ 64 = (s.num E.fnEnergy f + sumCharges (Q.filter (fun x => decide (fnOfQueue x.1 = f))) +
          sumCharges (F.filter (fun x => decide (x.1 = f)))) % 2 ^ 64) ∧
      (∀ f, f < 256 → s.energyMoved f = true → t.num E.fnEnergy f = s.num E.fnEnergy f) ∧
      (∀ p, p < 64 → t.num E.partitionEnergy p % 2 ^ 64 = (s.num E.partitionEnergy p + sumCharges (Q.filter (fun x => decide (s.fnPart (fnOfQueue x.1) = p))) +
        sumCharges (F.filter (fun x => decide (s.fnPart x.1 = p))) + sumCharges (P.filter (fun x => decide (x.1 = p)))) % 2 ^ 64) ∧
      t.num E.overheadEnergy = (s.num E.overheadEnergy + sumNat (rs.map railRest)) % 2 ^ 64 ∧
      (∀ i r, i < 5 → rs[i]? = some r → t.num (E.railScale + i) = railFactor r)) ∧
  (∀ r : RailEnergy, sumCharges (railScaled r r.queues) + sumCharges (railScaled r r.fns) + sumCharges (railScaled r r.parts) + railRest r = r.measured) ∧
  (∀ (s : State) (rails : List RailEnergy) (r : RailEnergy), s.armedQueues ≠ [] → sumNat ((s.withSync (r :: rails)).map railModelled) = 3000 + sumNat ((r :: rails).map railModelled)) ∧
  (∀ (s : State) (rails : List RailEnergy) (q uj id n u first last : Nat), s.sup.phase = .ready → q < 4096 → s.energyMoved (fnOfQueue q) = false → id ≠ 0 →
    s.num (E.pwrJobId + q % 16) (fnOfQueue q) = id → s.jobSlot id = some n → s.pwr.jobs.get? n = some (id, u, first, last) → n ≠ 0 →
    (s.withSync rails).flatMap (fun r => railScaled r r.queues) = [(q, uj)] →
    ∃ t, exec (.energyAttribution rails) s = .next t ∧
      t.pwr.jobs.get? n = some (id, (u + uj) % 2 ^ 64, first, s.time.gtb) ∧ (∀ k, k ≠ n → t.pwr.jobs.get? k = s.pwr.jobs.get? k)) ∧
  (∀ (s : State) (who : Origin) (job : Nat), s.deviceCheck who E.pwrJobRelease = 0 →
    (∀ n r, s.pwr.jobs.get? n = some r → r.1 = job → n ≠ 0 → (∀ e ∈ s.pwr.jobs, e.1 ≠ 0 → e.2.1 = job → e.1 = n) →
      ∃ t, exec (.pwrJobRelease who job) s = .next t ∧ t.pwr.jobs.get? n = none ∧ (∀ k, k ≠ n → t.pwr.jobs.get? k = s.pwr.jobs.get? k) ∧
        (t.mgt.log.getLast?).map (fun x => x.type) = some 8 ∧ t.mgt.answer = 0 ∧ t.mem = s.mem ∧ t.cores = s.cores) ∧
    ((∀ e ∈ s.pwr.jobs, e.1 ≠ 0 → e.2.1 ≠ job) → exec (.pwrJobRelease who job) s = .next (s.answer 5)))

/-- R413, R416, R418, R419, R420, R421, R422, R423, R424 (the bodies of the MCTP control commands are the model's, log entry 48): a request is checked frame first, then entry, target, scope and access, and answered with the
first status; a READ returns the value from its offset, a DESCRIBE the entry's row, a NEXT the next entry that the reader may read; a WRITE applies its value whole or joins its assembly, which ends after a second; the
mailbox takes one request, answers it and signals; the MCTP control commands answer. Where exec answers a next state, under conditions on the state and the operands alone, is said of: kamufRead, kamufWrite,
kamufDescribe, kamufNext, segmentAssemblyTimeout, mailboxGo, mailboxResponse, setEndpointId, getEndpointId, getMctpVersionSupport, getMessageTypeSupport, getVendorDefinedMessageSupport. -/
def Obligations.KamufRequests : Prop :=
  (∀ (s : State) (w : Origin) (x : Frame), (frameBad x = true → s.frameCheck w x = .inl 6) ∧
    (frameBad x = false → entryInfo (entryOf x) = none → s.frameCheck w x = .inl 1) ∧
    (∀ r, frameBad x = false → entryInfo (entryOf x) = some r → s.targetNamed w x r.scope = none → s.entryThere w (entryOf x) (fnNamed w x) = true → s.frameCheck w x = .inl 9) ∧
    (∀ r t, frameBad x = false → entryInfo (entryOf x) = some r → s.targetNamed w x r.scope = some t → s.entryThere w (entryOf x) t = true →
      s.entryLive (entryOf x) = true →
      (w.isVf = true → x.flags % 4 ≠ 0 → s.frameCheck w x = .inl 3) ∧ (w.isVf = true → r.scope = .device → x.opcode = 2 → s.frameCheck w x = .inl 3) ∧
      (w.isVf = false → x.flags % 4 = 2 → r.scope = .function → s.frameCheck w x = .inl 3) ∧
      (w.isVf = false → x.flags % 4 < 2 → x.opcode = 2 → r.access = .ro → s.frameCheck w x = .inl 2) ∧
      (w.isVf = false → x.flags % 4 < 2 → x.opcode = 1 → r.access = .wo → s.frameCheck w x = .inl 2) ∧
      (w.isVf = false → x.flags % 4 < 2 → x.opcode = 3 ∨ r.access = .rw → s.frameCheck w x = .inr (r, t)))) ∧
  (∀ (s : State) (w : Origin) (x : Frame), s.mgtAnswers w = true →
    (∀ st, s.frameCheck w x = .inl st →
      (x.opcode = 1 → exec (.kamufRead w x) s = .next { s with mgt.lastFrame := some (responseTo x st []) }) ∧
      (x.opcode = 2 → exec (.kamufWrite w x) s = .next { s with mgt.lastFrame := some (responseTo x st []) }) ∧
      (x.opcode = 3 → exec (.kamufDescribe w x) s = .next { s with mgt.lastFrame := some (responseTo x st []) })) ∧
    (∀ r t, s.frameCheck w x = .inr (r, t) →
      (x.opcode = 1 → entryOf x ≠ E.logRecords →
        exec (.kamufRead w x) s = .next { s with mgt.lastFrame := some (responseTo x 0 (((s.readEntry w (entryOf x) t).drop x.offset).take 4080)) }) ∧
      (x.opcode = 1 → entryOf x = E.logRecords → exec (.kamufRead w x) s = .next { s with mgt.lastFrame := some (responseTo x 0 (s.logFrom x.offset)) }) ∧
      (x.opcode = 3 → exec (.kamufDescribe w x) s = .next { s with mgt.lastFrame := some (responseTo x 0 (describeBody (entryOf x) t r)) }) ∧
      (x.opcode = 2 → entryOf x ≠ E.updateImage → entryOf x ≠ E.cntLayerBase →
        ((∀ y ∈ s.mgt.asm, ¬ (y.entry = entryOf x ∧ y.target = t)) → x.offset = 0 → bit x.flags 2 = true → x.body.length ≤ entryMaxLen (entryOf x) →
          ∃ u, u = s.writeEntry w (entryOf x) t x.body ∧ exec (.kamufWrite w x) s = .next { u with mgt.lastFrame := some (responseTo x u.mgt.answer []) }) ∧
        (∀ y, s.mgt.asm.find? (fun y => decide (y.entry = entryOf x ∧ y.target = t)) = some y →
          (y.who ≠ w → ∃ u, exec (.kamufWrite w x) s = .next u ∧ u.mgt.lastFrame = some (responseTo x 7 []) ∧ u.mgt.asm = s.mgt.asm ∧ u.mgt.num = s.mgt.num ∧ u.mgt.log = s.mgt.log) ∧
          (y.who = w → x.offset ≠ y.bytes.length → ∃ u, exec (.kamufWrite w x) s = .next u ∧ u.mgt.lastFrame = some (responseTo x 8 []) ∧
            (∀ z ∈ u.mgt.asm, ¬ (z.entry = entryOf x ∧ z.target = t)) ∧ u.mgt.num = s.mgt.num ∧ u.mgt.log = s.mgt.log) ∧
          (y.who = w → x.offset = y.bytes.length → y.bytes.length + x.body.length ≤ entryMaxLen (entryOf x) → bit x.flags 2 = false →
            ∃ u, exec (.kamufWrite w x) s = .next u ∧ u.mgt.lastFrame = some (responseTo x 0 []) ∧ u.mgt.num = s.mgt.num ∧ u.mgt.log = s.mgt.log ∧
              { entry := entryOf x, target := t, who := w, bytes := y.bytes ++ x.body, lastAt := s.time.mono : Assembly } ∈ u.mgt.asm)))) ∧
    (frameBad x = false → x.opcode = 4 →
      (w.isVf = true → x.flags % 4 ≠ 0 → exec (.kamufNext w x) s = .next { s with mgt.lastFrame := some (responseTo x 3 []) }) ∧
      (w.isVf = false ∨ x.flags % 4 = 0 → ∃ m, exec (.kamufNext w x) s = .next { s with mgt.lastFrame := some (responseTo x 0 (leBytes 2 (m / 256) ++ leBytes 1 (m % 256))) } ∧
        (m = 0xFFFFFF ∨ (entryOf x < m ∧ s.entryThere w m (fnNamed w x) = true)) ∧
        (∀ k r, entryOf x < k → k < m → k < 0xFFFFFF → entryInfo k = some r → r.access ≠ .wo → inReach w k r.scope false = true → s.entryThere w k (fnNamed w x) = false)))) ∧
  (∀ (s : State) (w : Origin) (x : Frame), s.mgtAnswers w = false → exec (.kamufRead w x) s = .next s ∧ exec (.kamufWrite w x) s = .next s ∧
    exec (.kamufDescribe w x) s = .next s ∧ exec (.kamufNext w x) s = .next s) ∧
  (∀ (s : State) (f v q : Nat) (b : List Byte) (w : Origin), q < 16 → f < 256 → b = leBytes 4 v → 10 ≤ v → v < 2 ^ 32 →
    ∃ u, s.writeEntry w (E.queueTimeout + q) f b = u ∧ u.num (E.queueTimeout + q) f = v ∧ u.mgt.answer = 0 ∧ u.mem = s.mem ∧ u.fe = s.fe ∧
      (u.mgt.log.getLast?).map (fun r => (r.type, r.index * 256 + r.sub, r.target, r.new)) = some (1, E.queueTimeout + q, f, logValue b)) ∧
  (∀ (s : State) (i : Nat) (a : Assembly), s.mgt.asm[i]? = some a →
    (s.time.mono - a.lastAt < 1000000000 → exec (.segmentAssemblyTimeout i) s = .next s) ∧
    (1000000000 ≤ s.time.mono - a.lastAt → ∃ t, exec (.segmentAssemblyTimeout i) s = .next t ∧ t.mgt.asm = s.mgt.asm.eraseIdx i ∧ t.mgt.log = s.mgt.log ∧
      (a.entry ≠ E.updateImage → t.mgt.num = s.mgt.num) ∧ (a.entry = E.updateImage → (t.mgt.slot s.inactive).image = [] ∧ t.num E.updateReceived = 0) ∧ t.mem = s.mem)) ∧
  (∀ (s : State) (f v : Nat), ∃ t, exec (.mailboxGo f v) s = .next t ∧ (t.mbox f).irqEnable = bit v 16 ∧
    (t.mbox f).vector = (if bits v 13 8 < vectorsOf f then bits v 13 8 else (s.mbox f).vector) ∧ (∀ k, k ≠ f → t.mbox k = s.mbox k) ∧ t.mem = s.mem ∧ t.hif = s.hif ∧
    (bit v 0 = false → (t.mbox f).busy = (s.mbox f).busy ∧ (t.mbox f).overrun = (s.mbox f).overrun ∧ t.mgt.inFlight = s.mgt.inFlight) ∧
    (bit v 0 = true → (s.mbox f).busy = true → (t.mbox f).overrun = true ∧ (t.mbox f).busy = true ∧ t.mgt.inFlight = s.mgt.inFlight) ∧
    (bit v 0 = true → (s.mbox f).busy = false → (t.mbox f).busy = true ∧ (t.mbox f).overrun = (s.mbox f).overrun ∧
      t.mgt.inFlight = s.mgt.inFlight ++ [(mailboxOf f, ((s.mbox f).buf.getD 2 0#8).toNat)])) ∧
  (∀ (s : State) (f : Nat), (s.mbox f).busy = true → (s.mbox f).delayed = false → s.mgtAnswers (mailboxOf f) = true → s.oldestMailbox = some f →
    ((s.mbox f).reqLen < 16 ∨ 4096 < (s.mbox f).reqLen →
      ∃ t, exec (.mailboxResponse f) s = .next t ∧ (t.mbox f).busy = false ∧ (t.mbox f).done = true ∧ (t.mbox f).status = 6 ∧ (t.mbox f).rspLen = 16 ∧
        ((s.mbox f).irqEnable = true → (s.fn f).gate = .opened → (t.vec f (s.mbox f).vector).due = true)) ∧
    (∀ st body u, 16 ≤ (s.mbox f).reqLen → (s.mbox f).reqLen ≤ 4096 → (s.mbox f).buf.getD 3 0#8 = 0#8 →
      (s.leaveDispatcher f).request (mailboxOf f) (frameOf ((s.mbox f).bytes (s.mbox f).reqLen)) = (st, body, u) → (u.mbox f).delayed = false →
      ∃ t, exec (.mailboxResponse f) s = .next t ∧ (t.mbox f).busy = false ∧ (t.mbox f).done = true ∧ (t.mbox f).status = st ∧ (t.mbox f).rspLen = 16 + body.length ∧
        t.mem = u.mem ∧ t.mgt.num = u.mgt.num ∧ t.fe = u.fe)) ∧
  (∀ (s : State) (n : Nat), s.sup.auxValid = true → s.sup.mgtLive = true →
    (0 < n → n < 255 → exec (.setEndpointId n) s = .next { s with mgt.eid := n, mgt.ctrlResp := [0#8, 0#8, BitVec.ofNat 8 n, 0#8] }) ∧
    (n = 0 ∨ 255 ≤ n → exec (.setEndpointId n) s = .next { s with mgt.ctrlResp := [2#8] }) ∧
    exec .getEndpointId s = .next { s with mgt.ctrlResp := [0#8, BitVec.ofNat 8 s.mgt.eid, 0#8, 0#8] } ∧
    exec (.getMctpVersionSupport 0xFF) s = .next { s with mgt.ctrlResp := [0#8, 1#8, 0xF1#8, 0xF3#8, 0xF0#8, 0#8] } ∧
    exec .getMessageTypeSupport s = .next { s with mgt.ctrlResp := [0#8, 1#8, 0x7E#8] } ∧
    exec (.getVendorDefinedMessageSupport 0) s = .next { s with mgt.ctrlResp := [0#8, 0xFF#8, 0#8, 0x1F#8, 0x3D#8, 0#8, 0#8] } ∧
    (n ≠ 0 → exec (.getVendorDefinedMessageSupport n) s = .next { s with mgt.ctrlResp := [2#8] }))

/-- R27, R425, R427, R428, R430, R431, R433, R434, R458: the log takes a record in sequence and drops the oldest when it is full; a note and a copy of an error record go into it; a sensor keeps its reading, is raised by two
readings past a threshold and shows a failure after one second; an update opens, takes its image in order, is verified, tried, committed and aborted step by step, for its owner; a debug kill kills its queue's context; a
slice's members are stored. Where exec answers a next state, under conditions on the state and the operands alone, is said of: logRecordAppend, logAppend, errLogPersistCopy, sensorRead, updateBegin, updateVerify,
updateActivate, updateCommit, updateAbort, updateImageSegment, debugKill, sliceMembersWrite. -/
def Obligations.ManagementServices : Prop :=
  (∀ (s : State) (type : Nat) (old new : List Byte), ∃ t r, exec (.logRecordAppend type old new) s = .next t ∧
    t.mgt.log = (if logCapacity ≤ s.mgt.log.length then s.mgt.log.drop 1 else s.mgt.log) ++ [r] ∧ r.type = type ∧ r.seq = s.mgt.nextSeq ∧ r.time = s.time.gtb ∧
    r.old = logValue old ∧ r.new = logValue new ∧ r.iface = 0 ∧ r.target = 0xFFFF ∧ t.mgt.nextSeq = (s.mgt.nextSeq + 1) % 2 ^ 32 ∧ t.mgt.num = s.mgt.num ∧
    t.mgt.blob = s.mgt.blob ∧ t.mem = s.mem ∧ t.cores = s.cores ∧ t.fe = s.fe) ∧
  (∀ (s : State) (w : Origin) (note : List Byte), s.deviceCheck w E.logAppend = 0 →
    (note.length = 16 → ∃ t, exec (.logAppend w note) s = .next t ∧ (t.mgt.log.getLast?).map (fun r => (r.type, r.iface, r.new)) = some (0x0F, w.iface, note) ∧
      t.mgt.answer = 0 ∧ t.mgt.num = s.mgt.num ∧ t.mem = s.mem ∧ t.cores = s.cores) ∧
    (note.length ≠ 16 → exec (.logAppend w note) s = .next (s.answer 4))) ∧
  (∀ (s : State) (rec : Nat), (rec ∈ s.mgt.toCopy → ∃ t, exec (.errLogPersistCopy rec) s = .next t ∧ t.mgt.toCopy = s.mgt.toCopy.erase rec ∧
      (t.mgt.log.getLast?).map (fun r => r.type) = some 3 ∧ t.stk = s.stk ∧ t.nwt = s.nwt ∧ t.l2 = s.l2 ∧ t.fab = s.fab ∧ t.mem = s.mem) ∧
    (rec ∉ s.mgt.toCopy → exec (.errLogPersistCopy rec) s = .next s)) ∧
  (∀ (s : State) (n v : Nat), n < 10 → s.sup.auxValid = true → s.sup.mgtLive = true →
    (∃ t, exec (.sensorRead n v true) s = .next t ∧ t.num (E.sensorValue + n) = v % 2 ^ 32 ∧ (∀ k, k ≠ n → t.sensor k = s.sensor k) ∧ t.mem = s.mem ∧ t.cores = s.cores ∧
      (t.sensor n).failingSince = none ∧
      (sensorPast n v (s.num (E.sensorCrit + n)) = true → (t.sensor n).pastCrit = (s.sensor n).pastCrit + 1 ∧ (1 ≤ (s.sensor n).pastCrit → (t.sensor n).state = 2)) ∧
      (sensorPast n v (s.num (E.sensorCrit + n)) = false → (t.sensor n).pastCrit = 0 ∧
        (n ≠ 9 → (s.sensor n).state = 0 → sensorPast n v (s.num (E.sensorWarn + n)) = true → (t.sensor n).state = if 1 ≤ (s.sensor n).pastWarn then 1 else 0)) ∧
      ((t.sensor n).state ≠ (s.sensor n).state → bit t.mgt.status 2 = true ∧ (t.mgt.log.getLast?).map (fun r => r.type) = some 6) ∧
      ((t.sensor n).state = (s.sensor n).state → t.mgt.log = s.mgt.log)) ∧
    (∀ since, (s.sensor n).failingSince = some since → ∃ t, exec (.sensorRead n v false) s = .next t ∧ t.mgt.num = s.mgt.num ∧ t.mem = s.mem ∧
      (t.sensor n).state = if 1000000000 ≤ s.time.mono - since then 3 else (s.sensor n).state)) ∧
  (∀ (s : State) (w : Origin), s.deviceCheck w E.updateControl = 0 →
    (s.upForeign w = true → exec (.updateBegin w) s = .next (s.answer 7) ∧ exec (.updateVerify w) s = .next (s.answer 7) ∧
      exec (.updateActivate w) s = .next (s.answer 7) ∧ exec (.updateCommit w) s = .next (s.answer 7)) ∧
    (s.upForeign w = false →
      (s.mgt.upState = .idle ∨ s.mgt.upState = .failed → ∃ t, exec (.updateBegin w) s = .next t ∧ t.mgt.upState = .receiving ∧ t.mgt.upOwner = some w ∧ t.mgt.upResult = 0 ∧
        t.mgt.slot s.inactive = Slot.erased ∧ t.mgt.slot s.mgt.running = s.mgt.slot s.mgt.running ∧ t.mgt.running = s.mgt.running ∧ t.num E.updateReceived = 0 ∧ t.mem = s.mem) ∧
      (s.mgt.upState ≠ .idle → s.mgt.upState ≠ .failed → exec (.updateBegin w) s = .next (s.answer 5)) ∧
      (∀ l, s.mgt.upState = .receiving → l = (s.mgt.slot s.inactive).image → ∃ t, exec (.updateVerify w) s = .next t ∧ t.mgt.upResult = s.imageResult l ∧
        (s.imageResult l = 0 → t.mgt.upState = .verified ∧ (t.mgt.slot s.inactive).version = fieldAt l 8 4 ∧ (t.mgt.slot s.inactive).image = l) ∧
        (s.imageResult l ≠ 0 → t.mgt.upState = .failed) ∧ t.mgt.running = s.mgt.running ∧ t.mgt.trialNext = s.mgt.trialNext ∧ t.mem = s.mem) ∧
      (s.mgt.upState ≠ .receiving → exec (.updateVerify w) s = .next (s.answer 5)) ∧
      (s.mgt.upState = .verified → ∃ t, exec (.updateActivate w) s = .next t ∧ t.mgt.upState = .activated ∧ t.mgt.trialNext = some s.inactive ∧
        t.mgt.slot s.inactive = { s.mgt.slot s.inactive with empty := false } ∧ t.mgt.running = s.mgt.running ∧ t.mem = s.mem) ∧
      (s.mgt.upState ≠ .verified → exec (.updateActivate w) s = .next (s.answer 5)) ∧
      (s.mgt.upState = .trial → ∃ t, exec (.updateCommit w) s = .next t ∧ t.mgt.upState = .idle ∧ t.mgt.upOwner = none ∧ t.mgt.trialRunning = false ∧
        t.num E.activeSlot = s.mgt.running ∧ t.num E.rollbackCounter = max (s.num E.rollbackCounter) (s.mgt.slot s.mgt.running).security ∧
        t.num E.keysRevoked = natOr 8 (s.num E.keysRevoked) ((s.mgt.slot s.mgt.running).revoke % 16) ∧ t.mem = s.mem) ∧
      (s.mgt.upState ≠ .trial → exec (.updateCommit w) s = .next (s.answer 5))) ∧
    (s.mgt.upState.aborts = true → ∃ t, exec (.updateAbort w) s = .next t ∧ t.mgt.upState = .idle ∧ t.mgt.upOwner = none ∧ t.mgt.trialNext = none ∧
      t.mgt.slot s.inactive = Slot.erased ∧ t.mgt.slot s.mgt.running = s.mgt.slot s.mgt.running ∧ t.mem = s.mem) ∧
    (s.mgt.upState.aborts = false → exec (.updateAbort w) s = .next (s.answer 5))) ∧
  (∀ (s : State) (w : Origin) (off : Nat) (bytes have' : List Byte) (last : Bool), s.deviceCheck w E.updateImage = 0 → s.upForeign w = false → s.mgt.upState = .receiving →
    have' = (if s.mgt.asm.any (fun a => decide (a.entry = E.updateImage)) then (s.mgt.slot s.inactive).image else []) →
    (off = have'.length → have'.length + bytes.length ≤ imageLimit → ∃ t, exec (.updateImageSegment w off bytes last) s = .next t ∧ t.mgt.answer = 0 ∧
      (t.mgt.slot s.inactive).image = have' ++ bytes ∧ t.num E.updateReceived = have'.length + bytes.length ∧ t.mgt.upState = .receiving ∧
      t.mgt.asm.any (fun a => decide (a.entry = E.updateImage)) = !last ∧ (last = false → t.mgt.log = s.mgt.log) ∧ t.mem = s.mem) ∧
    (off ≠ have'.length → ∃ t, exec (.updateImageSegment w off bytes last) s = .next t ∧ t.mgt.answer = 8 ∧ (t.mgt.slot s.inactive).image = [] ∧ t.mgt.log = s.mgt.log ∧ t.mem = s.mem)) ∧
  (∀ (s : State) (w : Origin) (q : Nat), s.deviceCheck w E.debugKill = 0 →
    (q < 4096 → (s.q q).state.alive = true → ∃ t, exec (.debugKill w q) s = .next t ∧ Killed t q 0x0F ∧ (∀ i, i ≠ q → t.q i = s.q i) ∧ t.mem = s.mem ∧ t.cores = s.cores) ∧
    (q < 4096 → (s.q q).state.alive = false → exec (.debugKill w q) s = .next (s.answer 5)) ∧ (4096 ≤ q → exec (.debugKill w q) s = .next (s.answer 4))) ∧
  (∀ (s : State) (w : Origin) (b : List Byte), s.deviceCheck w E.sliceMembers = 0 →
    (b = [] ∨ (4 ≤ b.length ∧ b.length ≤ 8196 ∧ b.length % 2 = 0 ∧ ∀ c ∈ idsOf b 4, c ≤ 4095) →
      ∃ t, exec (.sliceMembersWrite w b) s = .next t ∧ t.blob E.sliceMembers = b ∧ t.mgt.answer = 0 ∧ t.mgt.num = s.mgt.num ∧ t.mem = s.mem ∧ t.cores = s.cores ∧
        (t.mgt.log.getLast?).map (fun r => (r.type, r.index * 256 + r.sub)) = some (1, E.sliceMembers)) ∧
    (b ≠ [] → b.length < 4 ∨ 8196 < b.length ∨ b.length % 2 = 1 ∨ (∃ c ∈ idsOf b 4, 4095 < c) → exec (.sliceMembersWrite w b) s = .next (s.answer 4)))

/-- R13: a WRITE of an RWC entry sets it to its default, whatever value it carries, when its length fits the type; one of any other length is answered with status 4 and changes nothing; a WRITE of an RO entry is rejected,
and nothing changes. Where exec answers a next state, under conditions on the state and the operands alone, is said of: kamufWrite. -/
def Obligations.EntryWrites : Prop :=
  (∀ (s : State) (w : Origin) (x : Frame) (r : EntryInfo) (t : Nat), s.mgtAnswers w = true → x.opcode = 2 → s.frameCheck w x = .inr (r, t) → r.access = .rwc →
    (∀ y ∈ s.mgt.asm, ¬ (y.entry = entryOf x ∧ y.target = t)) → x.offset = 0 → bit x.flags 2 = true →
    (x.body.length = r.type.width → ∃ u, exec (.kamufWrite w x) s = .next u ∧ u.num (entryOf x) t = entryDefault (entryOf x) t ∧
      u.mgt.lastFrame = some (responseTo x 0 []) ∧ (∀ a p, a * 256 + p ≠ entryOf x * 256 + t → u.num a p = s.num a p) ∧ u.mgt.blob = s.mgt.blob ∧ u.mem = s.mem ∧ u.cores = s.cores) ∧
    (x.body.length ≠ r.type.width → ∃ u, exec (.kamufWrite w x) s = .next u ∧ u.mgt.lastFrame = some (responseTo x 4 []) ∧ u.mgt.num = s.mgt.num ∧ u.mgt.blob = s.mgt.blob ∧
      u.mgt.log = s.mgt.log ∧ u.mgt.asm = s.mgt.asm ∧ u.mem = s.mem ∧ u.cores = s.cores)) ∧
  (∀ (s : State) (w : Origin) (x : Frame) (r : EntryInfo), s.mgtAnswers w = true → x.opcode = 2 → entryInfo (entryOf x) = some r → r.access = .ro →
    ∃ st, st ≠ 0 ∧ exec (.kamufWrite w x) s = .next { s with mgt.lastFrame := some (responseTo x st []) })

/-- R438, R440, R441, R442, R443: a write of CNT_VALUE sets its count, freeze stops every bank and clear_all empties them; a flush moves a function's accumulators out and, completed, performs them and counts itself; a write
of cnt_layer_base takes effect at once with no table, and after the flush of the old one otherwise. Where exec answers a next state, under conditions on the state and the operands alone, is said of: cntValueWrite,
cntFreeze, cntClearAll, layerFlushRequest, layerFlushTimer, cntLayerBaseWrite, layerFlushComplete. -/
def Obligations.CountersAndLayers : Prop :=
  (∀ (s : State) (off v : Nat), (isCntValue off = true → ∃ t, exec (.cntValueWrite off v) s = .next t ∧ t.obs.values.getD off 0 = v % 2 ^ 48 ∧
      (∀ o, o ≠ off → t.obs.values.getD o 0 = s.obs.values.getD o 0) ∧ t.obs.sels = s.obs.sels ∧ t.mem = s.mem ∧ t.mgt = s.mgt) ∧
    (isCntValue off = false → exec (.cntValueWrite off v) s = .next s)) ∧
  (∀ (s : State) (b : Bool), exec (.cntFreeze b) s = .next { s with obs.freeze := b } ∧
    (∀ kind unit ev n q fmt, s.obs.freeze = true → s.countEvent kind unit ev n q fmt = s)) ∧
  (∀ (s : State), ∃ t, exec .cntClearAll s = .next t ∧ (∀ o, t.obs.values.getD o 0 = 0) ∧ t.obs.sels = s.obs.sels ∧ t.obs.freeze = s.obs.freeze ∧
    t.obs.fns = s.obs.fns ∧ t.obs.queueCnt = s.obs.queueCnt ∧ t.mem = s.mem ∧ t.mgt = s.mgt) ∧
  (∀ (s : State) (f : Nat), s.fnExists f = true → ∃ t, exec (.layerFlushRequest f) s = .next t ∧ (t.cntFn f).flushing = true ∧ (t.cntFn f).accums = [] ∧
    (t.cntFn f).inFlush = (s.cntFn f).inFlush ++ (s.cntFn f).accums ∧ (t.cntFn f).lastFlush = s.time.mono ∧ (t.cntFn f).flushSeq = (s.cntFn f).flushSeq ∧
    t.mgt = s.mgt ∧ CntOnly s t f) ∧
  (∀ (s : State) (f : Nat), s.num E.cntLayerBase f ≠ 0 →
    ((s.cntFn f).lastFlush + s.num E.cntFlushUs f * 1000 ≤ s.time.mono → ∃ t, exec (.layerFlushTimer f) s = .next t ∧ (t.cntFn f).flushing = true ∧ (t.cntFn f).accums = [] ∧
      (t.cntFn f).inFlush = (s.cntFn f).inFlush ++ (s.cntFn f).accums ∧ t.mgt = s.mgt ∧ CntOnly s t f) ∧
    (s.time.mono < (s.cntFn f).lastFlush + s.num E.cntFlushUs f * 1000 → exec (.layerFlushTimer f) s = .next s)) ∧
  (∀ (s : State) (w : Origin) (f v : Nat), s.fnCheck w f E.cntLayerBase = 0 →
    (v % 4096 = 0 → v < 2 ^ 57 → (s.cntFn f).baseAfter = none →
      (s.num E.cntLayerBase f = 0 → ∃ t, exec (.cntLayerBaseWrite w f v) s = .next t ∧ t.num E.cntLayerBase f = v ∧ t.mgt.answer = 0 ∧ t.cntFn f = s.cntFn f ∧ CntOnly s t f) ∧
      (s.num E.cntLayerBase f ≠ 0 → ∃ t, exec (.cntLayerBaseWrite w f v) s = .next t ∧ (t.cntFn f).baseAfter = some (w, v) ∧ (t.cntFn f).flushing = true ∧
        (t.cntFn f).accums = [] ∧ t.num E.cntLayerBase f = s.num E.cntLayerBase f ∧ t.mgt.log = s.mgt.log ∧ CntOnly s t f)) ∧
    (v % 4096 ≠ 0 ∨ 2 ^ 57 ≤ v → exec (.cntLayerBaseWrite w f v) s = .next (s.answer 4)) ∧
    (v % 4096 = 0 → v < 2 ^ 57 → (s.cntFn f).baseAfter.isSome = true → exec (.cntLayerBaseWrite w f v) s = .next (s.answer 7))) ∧
  (∀ (s : State) (f : Nat), (s.cntFn f).flushing = true → s.unitGoes 19 f (layerFlushComplete f) →
    ∃ t, exec (.layerFlushComplete f) s = .next t ∧ (t.cntFn f).flushing = false ∧ (t.cntFn f).inFlush = [] ∧ (t.cntFn f).accums = (s.cntFn f).accums ∧
      (t.cntFn f).flushSeq = ((s.cntFn f).flushSeq + 1) % 65536 ∧ (t.cntFn f).baseAfter = none ∧
      t.mem = (s.flushAccums f (s.num E.cntLayerBase f) (s.num E.cntLayerEntries f) (s.cntFn f).inFlush).mem ∧
      ((s.cntFn f).inFlush = [] → t.mem = s.mem ∧ t.l2.dir = s.l2.dir) ∧
      (∀ w v, (s.cntFn f).baseAfter = some (w, v) → (s.cntFn f).inFlush = [] → t.num E.cntLayerBase f = v)) ∧
  (∀ (s : State) (f base n k pa : Nat) (a : Accum), layerKey a.layer a.operator = k → 2 ≤ n →
    s.translate f (base + 64 * (1 + layerHash a.layer a.operator % (n - 1))) .write = .ok 0 pa → s.pocPoison pa 8 = false → ofLe (s.pocRead pa 8) = k →
    layerHash a.layer a.operator < 2 ^ 32 →
    ∃ u, s.probe f base n k (layerHash a.layer a.operator) 8 0 = some (1 + layerHash a.layer a.operator % (n - 1), u) ∧ u.mem = (s.agentWrite pa (leBytes 8 (k % 2 ^ 64))).mem)

/-- R444, R445, R446, R447, R448: a running buffer stages each record that it takes, with its time and flags, or drops and counts it; a gap record carries the number dropped; a drained record lands in the ring and advances
write, and in WRAP read as well at the limit; a faulting drain ends the buffer in FAULT; the owner starts, stops, triggers and disables it in the states of Table 19.14 and sets bad_ctrl in others; it stops once its
staging is empty. Where exec answers a next state, under conditions on the state and the operands alone, is said of: traceRecordEmit, traceGapRecord, traceDrain, traceStart, traceStop, traceTrigger, traceDisable,
trcReadWrite, traceStopped. -/
def Obligations.TraceBuffers : Prop :=
  (∀ (s : State) (src : Nat) (r : TrcRec), r.kind ≠ 0 → r.kind < 0x0E → src / 65536 < 7 →
    ∃ t, exec (.traceRecordEmit src r) s = .next t ∧ t.mem = s.mem ∧ t.cores = s.cores ∧ t.fe = s.fe ∧ t.mgt = s.mgt ∧
      ∀ b, b < 16 → (s.takesRec b src r.queue = false → t.trc b = s.trc b) ∧
        (s.takesRec b src r.queue = true → stagedCount ((s.trc b).staged.getD src []) < 64 → (s.trc b).dropped.get? src = none →
          ∃ r', (t.trc b).staged.getD src [] = (s.trc b).staged.getD src [] ++ [r'] ∧ r'.kind = r.kind ∧ r'.time = s.domainTime (sourceDomain src) ∧
            r'.domain = sourceDomain src ∧ r'.unit = r.unit ∧ r'.queue = r.queue ∧ r'.layer = r.layer ∧ r'.operator = r.operator ∧ r'.aux = r.aux ∧ r'.detail = r.detail ∧
            (bit r'.flags 2 = true ↔ (s.trc b).triggered = false ∧ s.num (E.trcTrigger + b) ≠ 0 ∧ r.kind = s.num (E.trcTrigger + b)) ∧
            (bit r'.flags 1 = true ↔ s.time.steppedFlag = true ∧ src ∉ s.time.steppedDone)) ∧
        (s.takesRec b src r.queue = true → 64 ≤ stagedCount ((s.trc b).staged.getD src []) → (t.trc b).staged = (s.trc b).staged ∧
          (t.trc b).dropped.get? src = some (match (s.trc b).dropped.get? src with | some d => (d.1 + 1, d.2) | none => (1, s.domainTime (sourceDomain src))))) ∧
  (∀ (s : State) (b src n at0 : Nat), (s.trc b).state = .running ∨ (s.trc b).state = .post ∨ (s.trc b).state = .stopping →
    (s.trc b).dropped.get? src = some (n, at0) → stagedCount ((s.trc b).staged.getD src []) < 64 →
    ∃ t g, exec (.traceGapRecord b src) s = .next t ∧ (t.trc b).staged.getD src [] = (s.trc b).staged.getD src [] ++ [g] ∧ g.kind = 0x0E ∧ g.detail = n ∧ g.time = at0 ∧
      (t.trc b).dropped.get? src = none ∧ (t.trc b).lost = ((s.trc b).lost + n) % 2 ^ 64 ∧ (t.trc b).state = (s.trc b).state ∧ BufOnly s t b) ∧
  (∀ (s : State) (b src : Nat) (r : TrcRec) (rest : List TrcRec), b < 16 → (s.trc b).state = .running → (s.trc b).staged.getD src [] = r :: rest → bit r.flags 2 = false →
    (s.fn (s.num (E.trcOwner + b))).gate = .opened → s.unitGoes 18 b (traceDrain b src) →
    (∀ pa, s.num (E.trcMode + b) = 0 → s.translate (s.num (E.trcOwner + b)) (s.trcSlot b (s.trc b).write) .write = .ok 0 pa →
      ∃ t, exec (.traceDrain b src) s = .next t ∧ t.mem = (s.writeV (s.num (E.trcOwner + b)) (s.trcSlot b (s.trc b).write) (trcBytes r)).2.mem ∧
        (t.trc b).write = ((s.trc b).write + 1) % 2 ^ 64 ∧ (t.trc b).staged.getD src [] = rest ∧ (t.trc b).state = .running ∧ (t.trc b).lost = (s.trc b).lost ∧
        (t.trc b).read = (if s.trcSlots b ≤ (s.trc b).write - (s.trc b).read then (s.trc b).read + 1 else (s.trc b).read) ∧ (∀ k, k ≠ b → t.trc k = s.trc k)) ∧
    (s.num (E.trcMode + b) = 1 → s.trcSlots b ≤ (s.trc b).write - (s.trc b).read →
      ∃ t, exec (.traceDrain b src) s = .next t ∧ (t.trc b).state = .stopping ∧ (t.trc b).write = (s.trc b).write ∧ (t.trc b).staged.getD src [] = rest ∧ BufOnly s t b) ∧
    (∀ c, s.num (E.trcMode + b) = 0 → s.translate (s.num (E.trcOwner + b)) (s.trcSlot b (s.trc b).write) .write = .bad c →
      ∃ t, exec (.traceDrain b src) s = .next t ∧ (t.trc b).state = .fault ∧ (t.trc b).staged = [] ∧ (t.trc b).event = true ∧ (t.trc b).write = (s.trc b).write ∧
        (s.num (E.trcOwner + b) < 256 → (t.vec (s.num (E.trcOwner + b)) (s.num (E.trcVector + b))).due = true) ∧ BufOnly s t b)) ∧
  (∀ (s : State) (f b : Nat), b < 16 → s.num (E.trcOwner + b) = f →
    ((s.trc b).state = .disabled ∨ (s.trc b).state = .stopped → ∃ t, exec (.traceStart f b) s = .next t ∧ (t.trc b).state = .running ∧ (t.trc b).write = 0 ∧ (t.trc b).read = 0 ∧
      (t.trc b).lost = 0 ∧ (t.trc b).trig = 0 ∧ (t.trc b).staged = [] ∧ BufOnly s t b) ∧
    ((s.trc b).state ≠ .disabled → (s.trc b).state ≠ .stopped → ∃ t, exec (.traceStart f b) s = .next t ∧ t.trc b = { s.trc b with badCtrl := true } ∧ BufOnly s t b) ∧
    ((s.trc b).state = .running ∨ (s.trc b).state = .post →
      (∃ t, exec (.traceStop f b) s = .next t ∧ t.trc b = { s.trc b with state := .stopping } ∧ BufOnly s t b) ∧
      ((s.trc b).triggered = false → ∃ t, exec (.traceTrigger f b) s = .next t ∧ (t.trc b).triggered = true ∧ (t.trc b).trig = (s.trc b).write ∧
        (t.trc b).state = (if s.num (E.trcMode + b) = 2 then .post else (s.trc b).state) ∧ BufOnly s t b) ∧
      ((s.trc b).triggered = true → ∃ t, exec (.traceTrigger f b) s = .next t ∧ t.trc b = s.trc b ∧ BufOnly s t b)) ∧
    ((s.trc b).state ≠ .running → (s.trc b).state ≠ .post →
      (∃ t, exec (.traceStop f b) s = .next t ∧ t.trc b = { s.trc b with badCtrl := true } ∧ BufOnly s t b) ∧
      (∃ t, exec (.traceTrigger f b) s = .next t ∧ t.trc b = { s.trc b with badCtrl := true } ∧ BufOnly s t b)) ∧
    (∃ t, exec (.traceDisable f b) s = .next t ∧ (t.trc b).state = .disabled ∧ (t.trc b).staged = [] ∧ (t.trc b).write = (s.trc b).write ∧ BufOnly s t b) ∧
    (∀ v, (v ≤ (s.trc b).write → ∃ t, exec (.trcReadWrite f b v) s = .next t ∧ t.trc b = { s.trc b with read := max (s.trc b).read v } ∧ BufOnly s t b) ∧
      ((s.trc b).write < v → exec (.trcReadWrite f b v) s = .next s)) ∧
    (∀ g, g ≠ f → exec (.traceStart g b) s = .next s ∧ exec (.traceStop g b) s = .next s ∧ exec (.traceTrigger g b) s = .next s ∧ exec (.traceDisable g b) s = .next s ∧
      ∀ v, exec (.trcReadWrite g b v) s = .next s) ∧
    ((s.trc b).state = .stopping → (∀ e ∈ (s.trc b).staged, e.2 = []) → (s.trc b).dropped = [] →
      ∃ t, exec (.traceStopped b) s = .next t ∧ (t.trc b).state = .stopped ∧ (t.trc b).event = true ∧ (f < 256 → (s.fn f).gate = .opened → (t.vec f (s.num (E.trcVector + b))).due = true) ∧
        BufOnly s t b) ∧
    ((∃ e ∈ (s.trc b).staged, e.2 ≠ []) → exec (.traceStopped b) s = .next s))

/-- R10, R317: a write or read of BAR0 is governed by its width and alignment: a narrower or misaligned write is discarded whole, a wide register is written at once, or its low half held until the high half comes; two 32-bit
registers take a half each; a read of a low half captures the high half for the next read; a narrower read has no side effect. Where exec answers a next state, under conditions on the state and the operands alone, is
said of: registerWrite, registerRead, queuePreempt, queueResume, queueKill, queueReset. -/
def Obligations.RegisterAccess : Prop :=
  (∀ (s : State) (f off size v : Nat), s.barState f = .opened → s.heldOf f = [] → off + size ≤ bar0Size f →
    (size < 4 ∨ 4 < size ∧ size < 8 → exec (.registerWrite f off size v) s = .next s) ∧ (0 < size → off % size ≠ 0 → exec (.registerWrite f off size v) s = .next s) ∧
    (size = 8 → off % 8 = 0 → wideReg f off = true → exec (.registerWrite f off 8 v) s = .next (s.writeReg f off (v % 2 ^ 64))) ∧
    (size = 8 → off % 8 = 0 → wideReg f off = false → only32 off = false → only32 (off + 4) = false →
      exec (.registerWrite f off 8 v) s = .next (State.writeReg (s.writeReg f off (v % 2 ^ 32)) f (off + 4) (v / 2 ^ 32 % 2 ^ 32))) ∧
    (size = 8 → off % 8 = 0 → wideReg f off = false → only32 off = false → only32 (off + 4) = true → exec (.registerWrite f off 8 v) s = .next (s.writeReg f off (v % 2 ^ 32))) ∧
    (size = 4 → off % 4 = 0 → wideReg f (off / 8 * 8) = false → exec (.registerWrite f off 4 v) s = .next (s.writeReg f off (v % 2 ^ 32))) ∧
    (size = 4 → off % 8 = 0 → wideReg f off = true →
      ∃ t, exec (.registerWrite f off 4 v) s = .next t ∧ t.bar0.held.get? (halfKey f off) = some (v % 2 ^ 32) ∧ t.mem = s.mem ∧ t.fe = s.fe ∧ t.hif = s.hif ∧ t.mgt = s.mgt ∧ t.obs = s.obs ∧
        (∀ u, off + 8 ≤ bar0Size f → exec (.registerWrite f (off + 4) 4 u) t =
          .next (State.writeReg { t with bar0.held := t.bar0.held.del (halfKey f off) } f off (u % 2 ^ 32 * 2 ^ 32 + v % 2 ^ 32)))) ∧
    (size = 4 → off % 8 = 4 → wideReg f (off - 4) = true → s.bar0.held.get? (halfKey f (off - 4)) = none →
      exec (.registerWrite f off 4 v) s =
        .next (State.writeReg { s with bar0.held := s.bar0.held.del (halfKey f (off - 4)) } f (off - 4) (v % 2 ^ 32 * 2 ^ 32 + s.readReg f (off - 4) % 2 ^ 32)))) ∧
  (∀ (s : State) (f off size : Nat), s.barState f = .opened → s.heldOf f = [] → off + size ≤ bar0Size f →
    (size < 4 ∨ 4 < size ∧ size < 8 → exec (.registerRead f off size) s = .next { s with bar0.rdata := s.regBytes f off size }) ∧
    (size = 8 → off % 8 = 0 → logAt f off = none → exec (.registerRead f off 8) s = .next { s with bar0.rdata := s.regBytes f off 8 }) ∧
    (size = 4 → off % 4 = 0 → wideReg f (off / 8 * 8) = false → logAt f off = none → exec (.registerRead f off 4) s = .next { s with bar0.rdata := s.readReg f off }) ∧
    (size = 4 → off % 8 = 0 → wideReg f off = true → logAt f off = none →
      ∃ t, exec (.registerRead f off 4) s = .next t ∧ t.bar0.rdata = s.readReg f off % 2 ^ 32 ∧ t.mem = s.mem ∧ t.fe = s.fe ∧ t.hif = s.hif ∧ t.mgt = s.mgt ∧ t.obs = s.obs ∧
        (off + 8 ≤ bar0Size f → ∃ u, exec (.registerRead f (off + 4) 4) t = .next u ∧ u.bar0.rdata = s.readReg f off / 2 ^ 32 ∧ u.bar0.captured.get? (halfKey f off) = none))) ∧
  (∀ (s : State) (f i : Nat), f < 256 → i < 16 → s.barState f = .opened → s.heldOf f = [] →
    (exec (.registerWrite f (0x10004 + 0x40 * i) 4 1) s = exec (.queuePreempt (16 * f + i)) s ∧ exec (.registerWrite f (0x10004 + 0x40 * i) 4 2) s = exec (.queueResume (16 * f + i)) s ∧
      exec (.registerWrite f (0x10004 + 0x40 * i) 4 4) s = exec (.queueKill (16 * f + i)) s ∧ exec (.registerWrite f (0x10004 + 0x40 * i) 4 8) s = exec (.queueReset (16 * f + i)) s) ∧
    (∃ t, exec (.registerWrite f (0x10000 + 0x40 * i) 4 0xE0000) s = .next t ∧ t.q (16 * f + i) = { s.q (16 * f + i) with badCtrl := false, badDoorbell := false, preemptRefused := false } ∧
      QueueOnly s t (16 * f + i))) ∧
  (∀ (s : State) (v : Nat), s.barState 0 = .opened → s.heldOf 0 = [] →
    (∃ t, exec (.registerWrite 0 0x4000 4 v) s = .next t ∧ (∀ n, n < 8 → bit t.stk.errStatus n = (bit s.stk.errStatus n && !bit v n)) ∧ t.stk.log = s.stk.log ∧ t.mem = s.mem) ∧
    (∃ t, exec (.registerWrite 0 0x4004 4 v) s = .next t ∧ t.stk.intEn = v % 2 ^ 8 ∧ t.stk.errStatus = s.stk.errStatus ∧ t.mem = s.mem) ∧
    (∃ t, exec (.registerWrite 0 0x43004 4 v) s = .next t ∧ t.mgt.intEn = v % 2 ^ 5 ∧ t.mgt.status = s.mgt.status ∧ t.mem = s.mem)) ∧
  (∀ (s : State) (f off : Nat), 0 < f → f < 256 → s.barState f = .opened → s.heldOf f = [] → f0Block off = true → off % 4 = 0 → off + 4 ≤ bar0Size f → wideReg f (off / 8 * 8) = false →
    (∀ v, exec (.registerWrite f off 4 v) s = .next s) ∧ exec (.registerRead f off 4) s = .next { s with bar0.rdata := 0 })

/-- R63, R100, R238, R374: a record enters an error log in order, with overflow where records were lost before it, or is lost with log_overflow set; a 64-bit read returns the head and removes it; a read of the low half
captures the head's high half and removes nothing, and the read of the high half that follows returns it and removes that record; a read of an empty log removes nothing, and a narrower read has no side effect. Where exec
answers a next state, under conditions on the state and the operands alone, is said of: errLogRecordArrive, errLogRead64, errLogReadLow, errLogReadHigh, registerRead. -/
def Obligations.ErrorLogs : Prop :=
  (∀ (s : State) (n : LogName) (rec : Nat), rec < 2 ^ 64 → bit rec (overflowBit n) = false →
    ((s.logOf n).length < 32 → ∃ t, exec (.errLogRecordArrive n rec) s = .next t ∧ t.lostOf n = false ∧ t.mem = s.mem ∧ t.cores = s.cores ∧
      t.logOf n = s.logOf n ++ [if s.lostOf n then rec + 2 ^ overflowBit n else rec] ∧ t.mgt.toCopy = s.mgt.toCopy ++ [if s.lostOf n then rec + 2 ^ overflowBit n else rec]) ∧
    (32 ≤ (s.logOf n).length → ∃ t, exec (.errLogRecordArrive n rec) s = .next t ∧ t.lostOf n = true ∧ t.overflowOf n = true ∧ t.logOf n = s.logOf n ∧ t.mem = s.mem ∧ t.cores = s.cores)) ∧
  (∀ (s : State) (n : LogName), s.barState 0 = .opened →
    (∃ t, exec (.errLogRead64 n) s = .next t ∧ t.bar0.rdata = (s.logOf n).headD 0 ∧ t.logOf n = (s.logOf n).drop 1 ∧ (∀ m, m ≠ n → t.logOf m = s.logOf m) ∧ t.mgt = s.mgt ∧ t.mem = s.mem) ∧
    (∃ t, exec (.errLogReadLow n) s = .next t ∧ t.bar0.rdata = (s.logOf n).headD 0 % 2 ^ 32 ∧ t.logOf n = s.logOf n ∧ (∀ m, m ≠ n → t.logOf m = s.logOf m) ∧ t.mgt = s.mgt ∧ t.mem = s.mem ∧
      ((s.logOf n).headD 0 < 2 ^ 64 → ∃ u, exec (.errLogReadHigh n) t = .next u ∧ u.bar0.rdata = (s.logOf n).headD 0 / 2 ^ 32 ∧ u.logOf n = (s.logOf n).drop 1 ∧
        u.bar0.captured.get? (halfKey 0 (logOffset n)) = none ∧ u.mgt = s.mgt ∧ u.mem = s.mem)) ∧
    (s.bar0.captured.get? (halfKey 0 (logOffset n)) = none →
      ∃ t, exec (.errLogReadHigh n) s = .next t ∧ t.bar0.rdata = (s.logOf n).headD 0 / 2 ^ 32 ∧ t.logOf n = (s.logOf n).drop 1 ∧ t.mgt = s.mgt ∧ t.mem = s.mem) ∧
    (∀ off size, s.heldOf 0 = [] → size ≠ 4 → size ≠ 8 → logOffset n ≤ off → off + size ≤ logOffset n + 8 →
      exec (.registerRead 0 off size) s = .next { s with bar0.rdata := (s.logOf n).headD 0 / 256 ^ (off - logOffset n) % 256 ^ size })) ∧
  (∀ (s : State) (n : LogName), s.barState 0 = .closed → ∃ t, exec (.errLogRead64 n) s = .next t ∧ t.logOf n = s.logOf n ∧ t.mem = s.mem)
end

