-- ==== Sys2Proof/Laws/Maps.lean ====
section
/-! SUPPORT. Laws/Maps.lean: reading a sparse table after a change of it. -/

namespace Sys2Proof.SMap

variable {α : Type}

@[simp] theorem get?_put_self (m : SMap α) (i : Nat) (v : α) : get? (put m i v) i = some v := by
  induction m with
  | nil => simp [put, get?]
  | cons e t ih =>
    obtain ⟨k, w⟩ := e
    unfold put
    split
    · simp [get?]
    · split <;> rename_i h
      · simp [get?]
      · simp [get?, h, ih]

theorem get?_put_ne (m : SMap α) {i j : Nat} (v : α) (h : j ≠ i) : get? (put m i v) j = get? m j := by
  induction m with
  | nil => simp [put, get?, h]
  | cons e t ih =>
    obtain ⟨k, w⟩ := e
    unfold put
    split
    · simp [get?, h]
    · split <;> rename_i hk
      · subst hk; simp [get?, h]
      · simp [get?, ih]

@[simp] theorem getD_put_self (m : SMap α) (i : Nat) (v d : α) : getD (put m i v) i d = v := by simp [getD]

theorem getD_put_ne (m : SMap α) {i j : Nat} (v d : α) (h : j ≠ i) : getD (put m i v) j d = getD m j d := by
  simp [getD, get?_put_ne m v h]

@[simp] theorem get?_del_self (m : SMap α) (i : Nat) : get? (del m i) i = none := by
  induction m with
  | nil => rfl
  | cons e t ih =>
    obtain ⟨k, w⟩ := e
    unfold del
    split <;> rename_i h
    · exact ih
    · simp [get?, h, ih]

theorem get?_del_ne (m : SMap α) {i j : Nat} (h : j ≠ i) : get? (del m i) j = get? m j := by
  induction m with
  | nil => rfl
  | cons e t ih =>
    obtain ⟨k, w⟩ := e
    unfold del
    split <;> rename_i hk
    · subst hk; simp [get?, h, ih]
    · simp [get?, ih]

@[simp] theorem getD_del_self (m : SMap α) (i : Nat) (d : α) : getD (del m i) i d = d := by simp [getD]

theorem getD_del_ne (m : SMap α) {i j : Nat} (d : α) (h : j ≠ i) : getD (del m i) j d = getD m j d := by
  simp [getD, get?_del_ne m h]

@[simp] theorem getD_modify_self (m : SMap α) (i : Nat) (d : α) (f : α → α) : getD (modify m i d f) i d = f (getD m i d) := by
  simp [modify]

theorem getD_modify_ne (m : SMap α) {i j : Nat} (d : α) (f : α → α) (h : j ≠ i) : getD (modify m i d f) j d = getD m j d := by
  simp [modify, getD_put_ne m _ d h]

@[simp] theorem has_put_self (m : SMap α) (i : Nat) (v : α) : has (put m i v) i = true := by simp [has]

@[simp] theorem has_del_self (m : SMap α) (i : Nat) : has (del m i) i = false := by simp [has]

end Sys2Proof.SMap
end

