-- ==== Sys2Proof/Laws/State.lean ====
section
/-! SUPPORT. Laws/State.lean: what each change of one record leaves as it was, field by field, and what a read after it gives. -/

namespace Sys2Proof.Machine

@[simp] theorem State.modFn_sup (s : State) (f : Nat) (g : FnSt → FnSt) : (s.modFn f g).sup = s.sup := rfl
@[simp] theorem State.modFn_time (s : State) (f : Nat) (g : FnSt → FnSt) : (s.modFn f g).time = s.time := rfl
@[simp] theorem State.modFn_mgt (s : State) (f : Nat) (g : FnSt → FnSt) : (s.modFn f g).mgt = s.mgt := rfl
@[simp] theorem State.modFn_bar0 (s : State) (f : Nat) (g : FnSt → FnSt) : (s.modFn f g).bar0 = s.bar0 := rfl
@[simp] theorem State.modFn_fe (s : State) (f : Nat) (g : FnSt → FnSt) : (s.modFn f g).fe = s.fe := rfl
@[simp] theorem State.modFn_syn (s : State) (f : Nat) (g : FnSt → FnSt) : (s.modFn f g).syn = s.syn := rfl
@[simp] theorem State.modFn_stk (s : State) (f : Nat) (g : FnSt → FnSt) : (s.modFn f g).stk = s.stk := rfl
@[simp] theorem State.modFn_nwt (s : State) (f : Nat) (g : FnSt → FnSt) : (s.modFn f g).nwt = s.nwt := rfl
@[simp] theorem State.modFn_cores (s : State) (f : Nat) (g : FnSt → FnSt) : (s.modFn f g).cores = s.cores := rfl
@[simp] theorem State.modFn_l2 (s : State) (f : Nat) (g : FnSt → FnSt) : (s.modFn f g).l2 = s.l2 := rfl
@[simp] theorem State.modFn_fab (s : State) (f : Nat) (g : FnSt → FnSt) : (s.modFn f g).fab = s.fab := rfl
@[simp] theorem State.modFn_opt (s : State) (f : Nat) (g : FnSt → FnSt) : (s.modFn f g).opt = s.opt := rfl
@[simp] theorem State.modFn_svc (s : State) (f : Nat) (g : FnSt → FnSt) : (s.modFn f g).svc = s.svc := rfl
@[simp] theorem State.modFn_pwr (s : State) (f : Nat) (g : FnSt → FnSt) : (s.modFn f g).pwr = s.pwr := rfl
@[simp] theorem State.modFn_obs (s : State) (f : Nat) (g : FnSt → FnSt) : (s.modFn f g).obs = s.obs := rfl
@[simp] theorem State.modFn_mem (s : State) (f : Nat) (g : FnSt → FnSt) : (s.modFn f g).mem = s.mem := rfl
@[simp] theorem State.modFn_poison (s : State) (f : Nat) (g : FnSt → FnSt) : (s.modFn f g).poison = s.poison := rfl
@[simp] theorem State.modFn_free (s : State) (f : Nat) (g : FnSt → FnSt) : (s.modFn f g).free = s.free := rfl
@[simp] theorem State.modFn_pending (s : State) (f : Nat) (g : FnSt → FnSt) : (s.modFn f g).pending = s.pending := rfl
@[simp] theorem State.modFn_fn_self (s : State) (f : Nat) (g : FnSt → FnSt) : (s.modFn f g).fn f = g (s.fn f) := SMap.getD_modify_self _ _ _ _
theorem State.modFn_fn_ne (s : State) (f : Nat) (g : FnSt → FnSt) {j : Nat} (h : j ≠ f) : (s.modFn f g).fn j = s.fn j := SMap.getD_modify_ne _ _ _ h

@[simp] theorem State.modQ_sup (s : State) (q : Nat) (g : Queue → Queue) : (s.modQ q g).sup = s.sup := rfl
@[simp] theorem State.modQ_time (s : State) (q : Nat) (g : Queue → Queue) : (s.modQ q g).time = s.time := rfl
@[simp] theorem State.modQ_mgt (s : State) (q : Nat) (g : Queue → Queue) : (s.modQ q g).mgt = s.mgt := rfl
@[simp] theorem State.modQ_bar0 (s : State) (q : Nat) (g : Queue → Queue) : (s.modQ q g).bar0 = s.bar0 := rfl
@[simp] theorem State.modQ_hif (s : State) (q : Nat) (g : Queue → Queue) : (s.modQ q g).hif = s.hif := rfl
@[simp] theorem State.modQ_syn (s : State) (q : Nat) (g : Queue → Queue) : (s.modQ q g).syn = s.syn := rfl
@[simp] theorem State.modQ_stk (s : State) (q : Nat) (g : Queue → Queue) : (s.modQ q g).stk = s.stk := rfl
@[simp] theorem State.modQ_nwt (s : State) (q : Nat) (g : Queue → Queue) : (s.modQ q g).nwt = s.nwt := rfl
@[simp] theorem State.modQ_cores (s : State) (q : Nat) (g : Queue → Queue) : (s.modQ q g).cores = s.cores := rfl
@[simp] theorem State.modQ_l2 (s : State) (q : Nat) (g : Queue → Queue) : (s.modQ q g).l2 = s.l2 := rfl
@[simp] theorem State.modQ_fab (s : State) (q : Nat) (g : Queue → Queue) : (s.modQ q g).fab = s.fab := rfl
@[simp] theorem State.modQ_opt (s : State) (q : Nat) (g : Queue → Queue) : (s.modQ q g).opt = s.opt := rfl
@[simp] theorem State.modQ_svc (s : State) (q : Nat) (g : Queue → Queue) : (s.modQ q g).svc = s.svc := rfl
@[simp] theorem State.modQ_pwr (s : State) (q : Nat) (g : Queue → Queue) : (s.modQ q g).pwr = s.pwr := rfl
@[simp] theorem State.modQ_obs (s : State) (q : Nat) (g : Queue → Queue) : (s.modQ q g).obs = s.obs := rfl
@[simp] theorem State.modQ_mem (s : State) (q : Nat) (g : Queue → Queue) : (s.modQ q g).mem = s.mem := rfl
@[simp] theorem State.modQ_poison (s : State) (q : Nat) (g : Queue → Queue) : (s.modQ q g).poison = s.poison := rfl
@[simp] theorem State.modQ_free (s : State) (q : Nat) (g : Queue → Queue) : (s.modQ q g).free = s.free := rfl
@[simp] theorem State.modQ_pending (s : State) (q : Nat) (g : Queue → Queue) : (s.modQ q g).pending = s.pending := rfl
@[simp] theorem State.modQ_q_self (s : State) (q : Nat) (g : Queue → Queue) : (s.modQ q g).q q = g (s.q q) := SMap.getD_modify_self _ _ _ _
theorem State.modQ_q_ne (s : State) (q : Nat) (g : Queue → Queue) {j : Nat} (h : j ≠ q) : (s.modQ q g).q j = s.q j := SMap.getD_modify_ne _ _ _ h

@[simp] theorem State.modPart_sup (s : State) (p : Nat) (g : PartSt → PartSt) : (s.modPart p g).sup = s.sup := rfl
@[simp] theorem State.modPart_time (s : State) (p : Nat) (g : PartSt → PartSt) : (s.modPart p g).time = s.time := rfl
@[simp] theorem State.modPart_mgt (s : State) (p : Nat) (g : PartSt → PartSt) : (s.modPart p g).mgt = s.mgt := rfl
@[simp] theorem State.modPart_bar0 (s : State) (p : Nat) (g : PartSt → PartSt) : (s.modPart p g).bar0 = s.bar0 := rfl
@[simp] theorem State.modPart_fe (s : State) (p : Nat) (g : PartSt → PartSt) : (s.modPart p g).fe = s.fe := rfl
@[simp] theorem State.modPart_syn (s : State) (p : Nat) (g : PartSt → PartSt) : (s.modPart p g).syn = s.syn := rfl
@[simp] theorem State.modPart_stk (s : State) (p : Nat) (g : PartSt → PartSt) : (s.modPart p g).stk = s.stk := rfl
@[simp] theorem State.modPart_nwt (s : State) (p : Nat) (g : PartSt → PartSt) : (s.modPart p g).nwt = s.nwt := rfl
@[simp] theorem State.modPart_cores (s : State) (p : Nat) (g : PartSt → PartSt) : (s.modPart p g).cores = s.cores := rfl
@[simp] theorem State.modPart_l2 (s : State) (p : Nat) (g : PartSt → PartSt) : (s.modPart p g).l2 = s.l2 := rfl
@[simp] theorem State.modPart_fab (s : State) (p : Nat) (g : PartSt → PartSt) : (s.modPart p g).fab = s.fab := rfl
@[simp] theorem State.modPart_opt (s : State) (p : Nat) (g : PartSt → PartSt) : (s.modPart p g).opt = s.opt := rfl
@[simp] theorem State.modPart_svc (s : State) (p : Nat) (g : PartSt → PartSt) : (s.modPart p g).svc = s.svc := rfl
@[simp] theorem State.modPart_pwr (s : State) (p : Nat) (g : PartSt → PartSt) : (s.modPart p g).pwr = s.pwr := rfl
@[simp] theorem State.modPart_obs (s : State) (p : Nat) (g : PartSt → PartSt) : (s.modPart p g).obs = s.obs := rfl
@[simp] theorem State.modPart_mem (s : State) (p : Nat) (g : PartSt → PartSt) : (s.modPart p g).mem = s.mem := rfl
@[simp] theorem State.modPart_poison (s : State) (p : Nat) (g : PartSt → PartSt) : (s.modPart p g).poison = s.poison := rfl
@[simp] theorem State.modPart_free (s : State) (p : Nat) (g : PartSt → PartSt) : (s.modPart p g).free = s.free := rfl
@[simp] theorem State.modPart_pending (s : State) (p : Nat) (g : PartSt → PartSt) : (s.modPart p g).pending = s.pending := rfl
@[simp] theorem State.modPart_part_self (s : State) (p : Nat) (g : PartSt → PartSt) : (s.modPart p g).part p = g (s.part p) := SMap.getD_modify_self _ _ _ _
theorem State.modPart_part_ne (s : State) (p : Nat) (g : PartSt → PartSt) {j : Nat} (h : j ≠ p) : (s.modPart p g).part j = s.part j := SMap.getD_modify_ne _ _ _ h

@[simp] theorem State.modCore_sup (s : State) (c : Nat) (g : Core → Core) : (s.modCore c g).sup = s.sup := rfl
@[simp] theorem State.modCore_time (s : State) (c : Nat) (g : Core → Core) : (s.modCore c g).time = s.time := rfl
@[simp] theorem State.modCore_mgt (s : State) (c : Nat) (g : Core → Core) : (s.modCore c g).mgt = s.mgt := rfl
@[simp] theorem State.modCore_bar0 (s : State) (c : Nat) (g : Core → Core) : (s.modCore c g).bar0 = s.bar0 := rfl
@[simp] theorem State.modCore_hif (s : State) (c : Nat) (g : Core → Core) : (s.modCore c g).hif = s.hif := rfl
@[simp] theorem State.modCore_fe (s : State) (c : Nat) (g : Core → Core) : (s.modCore c g).fe = s.fe := rfl
@[simp] theorem State.modCore_syn (s : State) (c : Nat) (g : Core → Core) : (s.modCore c g).syn = s.syn := rfl
@[simp] theorem State.modCore_stk (s : State) (c : Nat) (g : Core → Core) : (s.modCore c g).stk = s.stk := rfl
@[simp] theorem State.modCore_nwt (s : State) (c : Nat) (g : Core → Core) : (s.modCore c g).nwt = s.nwt := rfl
@[simp] theorem State.modCore_l2 (s : State) (c : Nat) (g : Core → Core) : (s.modCore c g).l2 = s.l2 := rfl
@[simp] theorem State.modCore_fab (s : State) (c : Nat) (g : Core → Core) : (s.modCore c g).fab = s.fab := rfl
@[simp] theorem State.modCore_opt (s : State) (c : Nat) (g : Core → Core) : (s.modCore c g).opt = s.opt := rfl
@[simp] theorem State.modCore_svc (s : State) (c : Nat) (g : Core → Core) : (s.modCore c g).svc = s.svc := rfl
@[simp] theorem State.modCore_pwr (s : State) (c : Nat) (g : Core → Core) : (s.modCore c g).pwr = s.pwr := rfl
@[simp] theorem State.modCore_obs (s : State) (c : Nat) (g : Core → Core) : (s.modCore c g).obs = s.obs := rfl
@[simp] theorem State.modCore_mem (s : State) (c : Nat) (g : Core → Core) : (s.modCore c g).mem = s.mem := rfl
@[simp] theorem State.modCore_poison (s : State) (c : Nat) (g : Core → Core) : (s.modCore c g).poison = s.poison := rfl
@[simp] theorem State.modCore_free (s : State) (c : Nat) (g : Core → Core) : (s.modCore c g).free = s.free := rfl
@[simp] theorem State.modCore_pending (s : State) (c : Nat) (g : Core → Core) : (s.modCore c g).pending = s.pending := rfl
@[simp] theorem State.modCore_core_self (s : State) (c : Nat) (g : Core → Core) : (s.modCore c g).core c = g (s.core c) := SMap.getD_modify_self _ _ _ _
theorem State.modCore_core_ne (s : State) (c : Nat) (g : Core → Core) {j : Nat} (h : j ≠ c) : (s.modCore c g).core j = s.core j := SMap.getD_modify_ne _ _ _ h

@[simp] theorem State.modVec_sup (s : State) (f v : Nat) (g : Vector → Vector) : (s.modVec f v g).sup = s.sup := rfl
@[simp] theorem State.modVec_time (s : State) (f v : Nat) (g : Vector → Vector) : (s.modVec f v g).time = s.time := rfl
@[simp] theorem State.modVec_mgt (s : State) (f v : Nat) (g : Vector → Vector) : (s.modVec f v g).mgt = s.mgt := rfl
@[simp] theorem State.modVec_bar0 (s : State) (f v : Nat) (g : Vector → Vector) : (s.modVec f v g).bar0 = s.bar0 := rfl
@[simp] theorem State.modVec_fe (s : State) (f v : Nat) (g : Vector → Vector) : (s.modVec f v g).fe = s.fe := rfl
@[simp] theorem State.modVec_syn (s : State) (f v : Nat) (g : Vector → Vector) : (s.modVec f v g).syn = s.syn := rfl
@[simp] theorem State.modVec_stk (s : State) (f v : Nat) (g : Vector → Vector) : (s.modVec f v g).stk = s.stk := rfl
@[simp] theorem State.modVec_nwt (s : State) (f v : Nat) (g : Vector → Vector) : (s.modVec f v g).nwt = s.nwt := rfl
@[simp] theorem State.modVec_cores (s : State) (f v : Nat) (g : Vector → Vector) : (s.modVec f v g).cores = s.cores := rfl
@[simp] theorem State.modVec_l2 (s : State) (f v : Nat) (g : Vector → Vector) : (s.modVec f v g).l2 = s.l2 := rfl
@[simp] theorem State.modVec_fab (s : State) (f v : Nat) (g : Vector → Vector) : (s.modVec f v g).fab = s.fab := rfl
@[simp] theorem State.modVec_opt (s : State) (f v : Nat) (g : Vector → Vector) : (s.modVec f v g).opt = s.opt := rfl
@[simp] theorem State.modVec_svc (s : State) (f v : Nat) (g : Vector → Vector) : (s.modVec f v g).svc = s.svc := rfl
@[simp] theorem State.modVec_pwr (s : State) (f v : Nat) (g : Vector → Vector) : (s.modVec f v g).pwr = s.pwr := rfl
@[simp] theorem State.modVec_obs (s : State) (f v : Nat) (g : Vector → Vector) : (s.modVec f v g).obs = s.obs := rfl
@[simp] theorem State.modVec_mem (s : State) (f v : Nat) (g : Vector → Vector) : (s.modVec f v g).mem = s.mem := rfl
@[simp] theorem State.modVec_poison (s : State) (f v : Nat) (g : Vector → Vector) : (s.modVec f v g).poison = s.poison := rfl
@[simp] theorem State.modVec_free (s : State) (f v : Nat) (g : Vector → Vector) : (s.modVec f v g).free = s.free := rfl
@[simp] theorem State.modVec_pending (s : State) (f v : Nat) (g : Vector → Vector) : (s.modVec f v g).pending = s.pending := rfl

@[simp] theorem State.modMbox_sup (s : State) (f : Nat) (g : Mailbox → Mailbox) : (s.modMbox f g).sup = s.sup := rfl
@[simp] theorem State.modMbox_time (s : State) (f : Nat) (g : Mailbox → Mailbox) : (s.modMbox f g).time = s.time := rfl
@[simp] theorem State.modMbox_bar0 (s : State) (f : Nat) (g : Mailbox → Mailbox) : (s.modMbox f g).bar0 = s.bar0 := rfl
@[simp] theorem State.modMbox_hif (s : State) (f : Nat) (g : Mailbox → Mailbox) : (s.modMbox f g).hif = s.hif := rfl
@[simp] theorem State.modMbox_fe (s : State) (f : Nat) (g : Mailbox → Mailbox) : (s.modMbox f g).fe = s.fe := rfl
@[simp] theorem State.modMbox_syn (s : State) (f : Nat) (g : Mailbox → Mailbox) : (s.modMbox f g).syn = s.syn := rfl
@[simp] theorem State.modMbox_stk (s : State) (f : Nat) (g : Mailbox → Mailbox) : (s.modMbox f g).stk = s.stk := rfl
@[simp] theorem State.modMbox_nwt (s : State) (f : Nat) (g : Mailbox → Mailbox) : (s.modMbox f g).nwt = s.nwt := rfl
@[simp] theorem State.modMbox_cores (s : State) (f : Nat) (g : Mailbox → Mailbox) : (s.modMbox f g).cores = s.cores := rfl
@[simp] theorem State.modMbox_l2 (s : State) (f : Nat) (g : Mailbox → Mailbox) : (s.modMbox f g).l2 = s.l2 := rfl
@[simp] theorem State.modMbox_fab (s : State) (f : Nat) (g : Mailbox → Mailbox) : (s.modMbox f g).fab = s.fab := rfl
@[simp] theorem State.modMbox_opt (s : State) (f : Nat) (g : Mailbox → Mailbox) : (s.modMbox f g).opt = s.opt := rfl
@[simp] theorem State.modMbox_svc (s : State) (f : Nat) (g : Mailbox → Mailbox) : (s.modMbox f g).svc = s.svc := rfl
@[simp] theorem State.modMbox_pwr (s : State) (f : Nat) (g : Mailbox → Mailbox) : (s.modMbox f g).pwr = s.pwr := rfl
@[simp] theorem State.modMbox_obs (s : State) (f : Nat) (g : Mailbox → Mailbox) : (s.modMbox f g).obs = s.obs := rfl
@[simp] theorem State.modMbox_mem (s : State) (f : Nat) (g : Mailbox → Mailbox) : (s.modMbox f g).mem = s.mem := rfl
@[simp] theorem State.modMbox_poison (s : State) (f : Nat) (g : Mailbox → Mailbox) : (s.modMbox f g).poison = s.poison := rfl
@[simp] theorem State.modMbox_free (s : State) (f : Nat) (g : Mailbox → Mailbox) : (s.modMbox f g).free = s.free := rfl
@[simp] theorem State.modMbox_pending (s : State) (f : Nat) (g : Mailbox → Mailbox) : (s.modMbox f g).pending = s.pending := rfl
@[simp] theorem State.modMbox_mbox_self (s : State) (f : Nat) (g : Mailbox → Mailbox) : (s.modMbox f g).mbox f = g (s.mbox f) := SMap.getD_modify_self _ _ _ _
theorem State.modMbox_mbox_ne (s : State) (f : Nat) (g : Mailbox → Mailbox) {j : Nat} (h : j ≠ f) : (s.modMbox f g).mbox j = s.mbox j := SMap.getD_modify_ne _ _ _ h

@[simp] theorem State.modLink_sup (s : State) (l : Nat) (g : Link → Link) : (s.modLink l g).sup = s.sup := rfl
@[simp] theorem State.modLink_time (s : State) (l : Nat) (g : Link → Link) : (s.modLink l g).time = s.time := rfl
@[simp] theorem State.modLink_mgt (s : State) (l : Nat) (g : Link → Link) : (s.modLink l g).mgt = s.mgt := rfl
@[simp] theorem State.modLink_bar0 (s : State) (l : Nat) (g : Link → Link) : (s.modLink l g).bar0 = s.bar0 := rfl
@[simp] theorem State.modLink_hif (s : State) (l : Nat) (g : Link → Link) : (s.modLink l g).hif = s.hif := rfl
@[simp] theorem State.modLink_fe (s : State) (l : Nat) (g : Link → Link) : (s.modLink l g).fe = s.fe := rfl
@[simp] theorem State.modLink_syn (s : State) (l : Nat) (g : Link → Link) : (s.modLink l g).syn = s.syn := rfl
@[simp] theorem State.modLink_stk (s : State) (l : Nat) (g : Link → Link) : (s.modLink l g).stk = s.stk := rfl
@[simp] theorem State.modLink_nwt (s : State) (l : Nat) (g : Link → Link) : (s.modLink l g).nwt = s.nwt := rfl
@[simp] theorem State.modLink_cores (s : State) (l : Nat) (g : Link → Link) : (s.modLink l g).cores = s.cores := rfl
@[simp] theorem State.modLink_l2 (s : State) (l : Nat) (g : Link → Link) : (s.modLink l g).l2 = s.l2 := rfl
@[simp] theorem State.modLink_opt (s : State) (l : Nat) (g : Link → Link) : (s.modLink l g).opt = s.opt := rfl
@[simp] theorem State.modLink_svc (s : State) (l : Nat) (g : Link → Link) : (s.modLink l g).svc = s.svc := rfl
@[simp] theorem State.modLink_pwr (s : State) (l : Nat) (g : Link → Link) : (s.modLink l g).pwr = s.pwr := rfl
@[simp] theorem State.modLink_obs (s : State) (l : Nat) (g : Link → Link) : (s.modLink l g).obs = s.obs := rfl
@[simp] theorem State.modLink_mem (s : State) (l : Nat) (g : Link → Link) : (s.modLink l g).mem = s.mem := rfl
@[simp] theorem State.modLink_poison (s : State) (l : Nat) (g : Link → Link) : (s.modLink l g).poison = s.poison := rfl
@[simp] theorem State.modLink_free (s : State) (l : Nat) (g : Link → Link) : (s.modLink l g).free = s.free := rfl
@[simp] theorem State.modLink_pending (s : State) (l : Nat) (g : Link → Link) : (s.modLink l g).pending = s.pending := rfl
@[simp] theorem State.modLink_link_self (s : State) (l : Nat) (g : Link → Link) : (s.modLink l g).link l = g (s.link l) := SMap.getD_modify_self _ _ _ _
theorem State.modLink_link_ne (s : State) (l : Nat) (g : Link → Link) {j : Nat} (h : j ≠ l) : (s.modLink l g).link j = s.link j := SMap.getD_modify_ne _ _ _ h

@[simp] theorem State.modLaser_sup (s : State) (l : Nat) (g : Laser → Laser) : (s.modLaser l g).sup = s.sup := rfl
@[simp] theorem State.modLaser_time (s : State) (l : Nat) (g : Laser → Laser) : (s.modLaser l g).time = s.time := rfl
@[simp] theorem State.modLaser_mgt (s : State) (l : Nat) (g : Laser → Laser) : (s.modLaser l g).mgt = s.mgt := rfl
@[simp] theorem State.modLaser_bar0 (s : State) (l : Nat) (g : Laser → Laser) : (s.modLaser l g).bar0 = s.bar0 := rfl
@[simp] theorem State.modLaser_hif (s : State) (l : Nat) (g : Laser → Laser) : (s.modLaser l g).hif = s.hif := rfl
@[simp] theorem State.modLaser_fe (s : State) (l : Nat) (g : Laser → Laser) : (s.modLaser l g).fe = s.fe := rfl
@[simp] theorem State.modLaser_syn (s : State) (l : Nat) (g : Laser → Laser) : (s.modLaser l g).syn = s.syn := rfl
@[simp] theorem State.modLaser_stk (s : State) (l : Nat) (g : Laser → Laser) : (s.modLaser l g).stk = s.stk := rfl
@[simp] theorem State.modLaser_nwt (s : State) (l : Nat) (g : Laser → Laser) : (s.modLaser l g).nwt = s.nwt := rfl
@[simp] theorem State.modLaser_cores (s : State) (l : Nat) (g : Laser → Laser) : (s.modLaser l g).cores = s.cores := rfl
@[simp] theorem State.modLaser_l2 (s : State) (l : Nat) (g : Laser → Laser) : (s.modLaser l g).l2 = s.l2 := rfl
@[simp] theorem State.modLaser_fab (s : State) (l : Nat) (g : Laser → Laser) : (s.modLaser l g).fab = s.fab := rfl
@[simp] theorem State.modLaser_svc (s : State) (l : Nat) (g : Laser → Laser) : (s.modLaser l g).svc = s.svc := rfl
@[simp] theorem State.modLaser_pwr (s : State) (l : Nat) (g : Laser → Laser) : (s.modLaser l g).pwr = s.pwr := rfl
@[simp] theorem State.modLaser_obs (s : State) (l : Nat) (g : Laser → Laser) : (s.modLaser l g).obs = s.obs := rfl
@[simp] theorem State.modLaser_mem (s : State) (l : Nat) (g : Laser → Laser) : (s.modLaser l g).mem = s.mem := rfl
@[simp] theorem State.modLaser_poison (s : State) (l : Nat) (g : Laser → Laser) : (s.modLaser l g).poison = s.poison := rfl
@[simp] theorem State.modLaser_free (s : State) (l : Nat) (g : Laser → Laser) : (s.modLaser l g).free = s.free := rfl
@[simp] theorem State.modLaser_pending (s : State) (l : Nat) (g : Laser → Laser) : (s.modLaser l g).pending = s.pending := rfl
@[simp] theorem State.modLaser_laser_self (s : State) (l : Nat) (g : Laser → Laser) : (s.modLaser l g).laser l = g (s.laser l) := SMap.getD_modify_self _ _ _ _
theorem State.modLaser_laser_ne (s : State) (l : Nat) (g : Laser → Laser) {j : Nat} (h : j ≠ l) : (s.modLaser l g).laser j = s.laser j := SMap.getD_modify_ne _ _ _ h

@[simp] theorem State.modOe_sup (s : State) (e : Nat) (g : Oe → Oe) : (s.modOe e g).sup = s.sup := rfl
@[simp] theorem State.modOe_time (s : State) (e : Nat) (g : Oe → Oe) : (s.modOe e g).time = s.time := rfl
@[simp] theorem State.modOe_mgt (s : State) (e : Nat) (g : Oe → Oe) : (s.modOe e g).mgt = s.mgt := rfl
@[simp] theorem State.modOe_bar0 (s : State) (e : Nat) (g : Oe → Oe) : (s.modOe e g).bar0 = s.bar0 := rfl
@[simp] theorem State.modOe_hif (s : State) (e : Nat) (g : Oe → Oe) : (s.modOe e g).hif = s.hif := rfl
@[simp] theorem State.modOe_fe (s : State) (e : Nat) (g : Oe → Oe) : (s.modOe e g).fe = s.fe := rfl
@[simp] theorem State.modOe_syn (s : State) (e : Nat) (g : Oe → Oe) : (s.modOe e g).syn = s.syn := rfl
@[simp] theorem State.modOe_stk (s : State) (e : Nat) (g : Oe → Oe) : (s.modOe e g).stk = s.stk := rfl
@[simp] theorem State.modOe_nwt (s : State) (e : Nat) (g : Oe → Oe) : (s.modOe e g).nwt = s.nwt := rfl
@[simp] theorem State.modOe_cores (s : State) (e : Nat) (g : Oe → Oe) : (s.modOe e g).cores = s.cores := rfl
@[simp] theorem State.modOe_l2 (s : State) (e : Nat) (g : Oe → Oe) : (s.modOe e g).l2 = s.l2 := rfl
@[simp] theorem State.modOe_fab (s : State) (e : Nat) (g : Oe → Oe) : (s.modOe e g).fab = s.fab := rfl
@[simp] theorem State.modOe_svc (s : State) (e : Nat) (g : Oe → Oe) : (s.modOe e g).svc = s.svc := rfl
@[simp] theorem State.modOe_pwr (s : State) (e : Nat) (g : Oe → Oe) : (s.modOe e g).pwr = s.pwr := rfl
@[simp] theorem State.modOe_obs (s : State) (e : Nat) (g : Oe → Oe) : (s.modOe e g).obs = s.obs := rfl
@[simp] theorem State.modOe_mem (s : State) (e : Nat) (g : Oe → Oe) : (s.modOe e g).mem = s.mem := rfl
@[simp] theorem State.modOe_poison (s : State) (e : Nat) (g : Oe → Oe) : (s.modOe e g).poison = s.poison := rfl
@[simp] theorem State.modOe_free (s : State) (e : Nat) (g : Oe → Oe) : (s.modOe e g).free = s.free := rfl
@[simp] theorem State.modOe_pending (s : State) (e : Nat) (g : Oe → Oe) : (s.modOe e g).pending = s.pending := rfl
@[simp] theorem State.modOe_oe_self (s : State) (e : Nat) (g : Oe → Oe) : (s.modOe e g).oe e = g (s.oe e) := SMap.getD_modify_self _ _ _ _
theorem State.modOe_oe_ne (s : State) (e : Nat) (g : Oe → Oe) {j : Nat} (h : j ≠ e) : (s.modOe e g).oe j = s.oe j := SMap.getD_modify_ne _ _ _ h

@[simp] theorem State.modPort_sup (s : State) (p : Nat) (g : Port → Port) : (s.modPort p g).sup = s.sup := rfl
@[simp] theorem State.modPort_time (s : State) (p : Nat) (g : Port → Port) : (s.modPort p g).time = s.time := rfl
@[simp] theorem State.modPort_mgt (s : State) (p : Nat) (g : Port → Port) : (s.modPort p g).mgt = s.mgt := rfl
@[simp] theorem State.modPort_bar0 (s : State) (p : Nat) (g : Port → Port) : (s.modPort p g).bar0 = s.bar0 := rfl
@[simp] theorem State.modPort_hif (s : State) (p : Nat) (g : Port → Port) : (s.modPort p g).hif = s.hif := rfl
@[simp] theorem State.modPort_fe (s : State) (p : Nat) (g : Port → Port) : (s.modPort p g).fe = s.fe := rfl
@[simp] theorem State.modPort_syn (s : State) (p : Nat) (g : Port → Port) : (s.modPort p g).syn = s.syn := rfl
@[simp] theorem State.modPort_stk (s : State) (p : Nat) (g : Port → Port) : (s.modPort p g).stk = s.stk := rfl
@[simp] theorem State.modPort_nwt (s : State) (p : Nat) (g : Port → Port) : (s.modPort p g).nwt = s.nwt := rfl
@[simp] theorem State.modPort_cores (s : State) (p : Nat) (g : Port → Port) : (s.modPort p g).cores = s.cores := rfl
@[simp] theorem State.modPort_l2 (s : State) (p : Nat) (g : Port → Port) : (s.modPort p g).l2 = s.l2 := rfl
@[simp] theorem State.modPort_fab (s : State) (p : Nat) (g : Port → Port) : (s.modPort p g).fab = s.fab := rfl
@[simp] theorem State.modPort_opt (s : State) (p : Nat) (g : Port → Port) : (s.modPort p g).opt = s.opt := rfl
@[simp] theorem State.modPort_pwr (s : State) (p : Nat) (g : Port → Port) : (s.modPort p g).pwr = s.pwr := rfl
@[simp] theorem State.modPort_obs (s : State) (p : Nat) (g : Port → Port) : (s.modPort p g).obs = s.obs := rfl
@[simp] theorem State.modPort_mem (s : State) (p : Nat) (g : Port → Port) : (s.modPort p g).mem = s.mem := rfl
@[simp] theorem State.modPort_poison (s : State) (p : Nat) (g : Port → Port) : (s.modPort p g).poison = s.poison := rfl
@[simp] theorem State.modPort_free (s : State) (p : Nat) (g : Port → Port) : (s.modPort p g).free = s.free := rfl
@[simp] theorem State.modPort_pending (s : State) (p : Nat) (g : Port → Port) : (s.modPort p g).pending = s.pending := rfl
@[simp] theorem State.modPort_port_self (s : State) (p : Nat) (g : Port → Port) : (s.modPort p g).port p = g (s.port p) := SMap.getD_modify_self _ _ _ _
theorem State.modPort_port_ne (s : State) (p : Nat) (g : Port → Port) {j : Nat} (h : j ≠ p) : (s.modPort p g).port j = s.port j := SMap.getD_modify_ne _ _ _ h

@[simp] theorem State.modQp_sup (s : State) (f n : Nat) (g : Qp → Qp) : (s.modQp f n g).sup = s.sup := rfl
@[simp] theorem State.modQp_time (s : State) (f n : Nat) (g : Qp → Qp) : (s.modQp f n g).time = s.time := rfl
@[simp] theorem State.modQp_mgt (s : State) (f n : Nat) (g : Qp → Qp) : (s.modQp f n g).mgt = s.mgt := rfl
@[simp] theorem State.modQp_bar0 (s : State) (f n : Nat) (g : Qp → Qp) : (s.modQp f n g).bar0 = s.bar0 := rfl
@[simp] theorem State.modQp_hif (s : State) (f n : Nat) (g : Qp → Qp) : (s.modQp f n g).hif = s.hif := rfl
@[simp] theorem State.modQp_fe (s : State) (f n : Nat) (g : Qp → Qp) : (s.modQp f n g).fe = s.fe := rfl
@[simp] theorem State.modQp_syn (s : State) (f n : Nat) (g : Qp → Qp) : (s.modQp f n g).syn = s.syn := rfl
@[simp] theorem State.modQp_stk (s : State) (f n : Nat) (g : Qp → Qp) : (s.modQp f n g).stk = s.stk := rfl
@[simp] theorem State.modQp_nwt (s : State) (f n : Nat) (g : Qp → Qp) : (s.modQp f n g).nwt = s.nwt := rfl
@[simp] theorem State.modQp_cores (s : State) (f n : Nat) (g : Qp → Qp) : (s.modQp f n g).cores = s.cores := rfl
@[simp] theorem State.modQp_l2 (s : State) (f n : Nat) (g : Qp → Qp) : (s.modQp f n g).l2 = s.l2 := rfl
@[simp] theorem State.modQp_fab (s : State) (f n : Nat) (g : Qp → Qp) : (s.modQp f n g).fab = s.fab := rfl
@[simp] theorem State.modQp_opt (s : State) (f n : Nat) (g : Qp → Qp) : (s.modQp f n g).opt = s.opt := rfl
@[simp] theorem State.modQp_pwr (s : State) (f n : Nat) (g : Qp → Qp) : (s.modQp f n g).pwr = s.pwr := rfl
@[simp] theorem State.modQp_obs (s : State) (f n : Nat) (g : Qp → Qp) : (s.modQp f n g).obs = s.obs := rfl
@[simp] theorem State.modQp_mem (s : State) (f n : Nat) (g : Qp → Qp) : (s.modQp f n g).mem = s.mem := rfl
@[simp] theorem State.modQp_poison (s : State) (f n : Nat) (g : Qp → Qp) : (s.modQp f n g).poison = s.poison := rfl
@[simp] theorem State.modQp_free (s : State) (f n : Nat) (g : Qp → Qp) : (s.modQp f n g).free = s.free := rfl
@[simp] theorem State.modQp_pending (s : State) (f n : Nat) (g : Qp → Qp) : (s.modQp f n g).pending = s.pending := rfl

@[simp] theorem State.modPlain_sup (s : State) (p : Nat) (g : PlainPwr → PlainPwr) : (s.modPlain p g).sup = s.sup := rfl
@[simp] theorem State.modPlain_time (s : State) (p : Nat) (g : PlainPwr → PlainPwr) : (s.modPlain p g).time = s.time := rfl
@[simp] theorem State.modPlain_mgt (s : State) (p : Nat) (g : PlainPwr → PlainPwr) : (s.modPlain p g).mgt = s.mgt := rfl
@[simp] theorem State.modPlain_bar0 (s : State) (p : Nat) (g : PlainPwr → PlainPwr) : (s.modPlain p g).bar0 = s.bar0 := rfl
@[simp] theorem State.modPlain_hif (s : State) (p : Nat) (g : PlainPwr → PlainPwr) : (s.modPlain p g).hif = s.hif := rfl
@[simp] theorem State.modPlain_fe (s : State) (p : Nat) (g : PlainPwr → PlainPwr) : (s.modPlain p g).fe = s.fe := rfl
@[simp] theorem State.modPlain_syn (s : State) (p : Nat) (g : PlainPwr → PlainPwr) : (s.modPlain p g).syn = s.syn := rfl
@[simp] theorem State.modPlain_stk (s : State) (p : Nat) (g : PlainPwr → PlainPwr) : (s.modPlain p g).stk = s.stk := rfl
@[simp] theorem State.modPlain_nwt (s : State) (p : Nat) (g : PlainPwr → PlainPwr) : (s.modPlain p g).nwt = s.nwt := rfl
@[simp] theorem State.modPlain_cores (s : State) (p : Nat) (g : PlainPwr → PlainPwr) : (s.modPlain p g).cores = s.cores := rfl
@[simp] theorem State.modPlain_l2 (s : State) (p : Nat) (g : PlainPwr → PlainPwr) : (s.modPlain p g).l2 = s.l2 := rfl
@[simp] theorem State.modPlain_fab (s : State) (p : Nat) (g : PlainPwr → PlainPwr) : (s.modPlain p g).fab = s.fab := rfl
@[simp] theorem State.modPlain_opt (s : State) (p : Nat) (g : PlainPwr → PlainPwr) : (s.modPlain p g).opt = s.opt := rfl
@[simp] theorem State.modPlain_svc (s : State) (p : Nat) (g : PlainPwr → PlainPwr) : (s.modPlain p g).svc = s.svc := rfl
@[simp] theorem State.modPlain_obs (s : State) (p : Nat) (g : PlainPwr → PlainPwr) : (s.modPlain p g).obs = s.obs := rfl
@[simp] theorem State.modPlain_mem (s : State) (p : Nat) (g : PlainPwr → PlainPwr) : (s.modPlain p g).mem = s.mem := rfl
@[simp] theorem State.modPlain_poison (s : State) (p : Nat) (g : PlainPwr → PlainPwr) : (s.modPlain p g).poison = s.poison := rfl
@[simp] theorem State.modPlain_free (s : State) (p : Nat) (g : PlainPwr → PlainPwr) : (s.modPlain p g).free = s.free := rfl
@[simp] theorem State.modPlain_pending (s : State) (p : Nat) (g : PlainPwr → PlainPwr) : (s.modPlain p g).pending = s.pending := rfl
@[simp] theorem State.modPlain_plain_self (s : State) (p : Nat) (g : PlainPwr → PlainPwr) : (s.modPlain p g).plain p = g (s.plain p) := SMap.getD_modify_self _ _ _ _
theorem State.modPlain_plain_ne (s : State) (p : Nat) (g : PlainPwr → PlainPwr) {j : Nat} (h : j ≠ p) : (s.modPlain p g).plain j = s.plain j := SMap.getD_modify_ne _ _ _ h

@[simp] theorem State.modTrc_sup (s : State) (b : Nat) (g : Trc → Trc) : (s.modTrc b g).sup = s.sup := rfl
@[simp] theorem State.modTrc_time (s : State) (b : Nat) (g : Trc → Trc) : (s.modTrc b g).time = s.time := rfl
@[simp] theorem State.modTrc_mgt (s : State) (b : Nat) (g : Trc → Trc) : (s.modTrc b g).mgt = s.mgt := rfl
@[simp] theorem State.modTrc_bar0 (s : State) (b : Nat) (g : Trc → Trc) : (s.modTrc b g).bar0 = s.bar0 := rfl
@[simp] theorem State.modTrc_hif (s : State) (b : Nat) (g : Trc → Trc) : (s.modTrc b g).hif = s.hif := rfl
@[simp] theorem State.modTrc_fe (s : State) (b : Nat) (g : Trc → Trc) : (s.modTrc b g).fe = s.fe := rfl
@[simp] theorem State.modTrc_syn (s : State) (b : Nat) (g : Trc → Trc) : (s.modTrc b g).syn = s.syn := rfl
@[simp] theorem State.modTrc_stk (s : State) (b : Nat) (g : Trc → Trc) : (s.modTrc b g).stk = s.stk := rfl
@[simp] theorem State.modTrc_nwt (s : State) (b : Nat) (g : Trc → Trc) : (s.modTrc b g).nwt = s.nwt := rfl
@[simp] theorem State.modTrc_cores (s : State) (b : Nat) (g : Trc → Trc) : (s.modTrc b g).cores = s.cores := rfl
@[simp] theorem State.modTrc_l2 (s : State) (b : Nat) (g : Trc → Trc) : (s.modTrc b g).l2 = s.l2 := rfl
@[simp] theorem State.modTrc_fab (s : State) (b : Nat) (g : Trc → Trc) : (s.modTrc b g).fab = s.fab := rfl
@[simp] theorem State.modTrc_opt (s : State) (b : Nat) (g : Trc → Trc) : (s.modTrc b g).opt = s.opt := rfl
@[simp] theorem State.modTrc_svc (s : State) (b : Nat) (g : Trc → Trc) : (s.modTrc b g).svc = s.svc := rfl
@[simp] theorem State.modTrc_pwr (s : State) (b : Nat) (g : Trc → Trc) : (s.modTrc b g).pwr = s.pwr := rfl
@[simp] theorem State.modTrc_mem (s : State) (b : Nat) (g : Trc → Trc) : (s.modTrc b g).mem = s.mem := rfl
@[simp] theorem State.modTrc_poison (s : State) (b : Nat) (g : Trc → Trc) : (s.modTrc b g).poison = s.poison := rfl
@[simp] theorem State.modTrc_free (s : State) (b : Nat) (g : Trc → Trc) : (s.modTrc b g).free = s.free := rfl
@[simp] theorem State.modTrc_pending (s : State) (b : Nat) (g : Trc → Trc) : (s.modTrc b g).pending = s.pending := rfl
@[simp] theorem State.modTrc_trc_self (s : State) (b : Nat) (g : Trc → Trc) : (s.modTrc b g).trc b = g (s.trc b) := SMap.getD_modify_self _ _ _ _
theorem State.modTrc_trc_ne (s : State) (b : Nat) (g : Trc → Trc) {j : Nat} (h : j ≠ b) : (s.modTrc b g).trc j = s.trc j := SMap.getD_modify_ne _ _ _ h

@[simp] theorem State.modCntFn_sup (s : State) (f : Nat) (g : CntFn → CntFn) : (s.modCntFn f g).sup = s.sup := rfl
@[simp] theorem State.modCntFn_time (s : State) (f : Nat) (g : CntFn → CntFn) : (s.modCntFn f g).time = s.time := rfl
@[simp] theorem State.modCntFn_mgt (s : State) (f : Nat) (g : CntFn → CntFn) : (s.modCntFn f g).mgt = s.mgt := rfl
@[simp] theorem State.modCntFn_bar0 (s : State) (f : Nat) (g : CntFn → CntFn) : (s.modCntFn f g).bar0 = s.bar0 := rfl
@[simp] theorem State.modCntFn_hif (s : State) (f : Nat) (g : CntFn → CntFn) : (s.modCntFn f g).hif = s.hif := rfl
@[simp] theorem State.modCntFn_fe (s : State) (f : Nat) (g : CntFn → CntFn) : (s.modCntFn f g).fe = s.fe := rfl
@[simp] theorem State.modCntFn_syn (s : State) (f : Nat) (g : CntFn → CntFn) : (s.modCntFn f g).syn = s.syn := rfl
@[simp] theorem State.modCntFn_stk (s : State) (f : Nat) (g : CntFn → CntFn) : (s.modCntFn f g).stk = s.stk := rfl
@[simp] theorem State.modCntFn_nwt (s : State) (f : Nat) (g : CntFn → CntFn) : (s.modCntFn f g).nwt = s.nwt := rfl
@[simp] theorem State.modCntFn_cores (s : State) (f : Nat) (g : CntFn → CntFn) : (s.modCntFn f g).cores = s.cores := rfl
@[simp] theorem State.modCntFn_l2 (s : State) (f : Nat) (g : CntFn → CntFn) : (s.modCntFn f g).l2 = s.l2 := rfl
@[simp] theorem State.modCntFn_fab (s : State) (f : Nat) (g : CntFn → CntFn) : (s.modCntFn f g).fab = s.fab := rfl
@[simp] theorem State.modCntFn_opt (s : State) (f : Nat) (g : CntFn → CntFn) : (s.modCntFn f g).opt = s.opt := rfl
@[simp] theorem State.modCntFn_svc (s : State) (f : Nat) (g : CntFn → CntFn) : (s.modCntFn f g).svc = s.svc := rfl
@[simp] theorem State.modCntFn_pwr (s : State) (f : Nat) (g : CntFn → CntFn) : (s.modCntFn f g).pwr = s.pwr := rfl
@[simp] theorem State.modCntFn_mem (s : State) (f : Nat) (g : CntFn → CntFn) : (s.modCntFn f g).mem = s.mem := rfl
@[simp] theorem State.modCntFn_poison (s : State) (f : Nat) (g : CntFn → CntFn) : (s.modCntFn f g).poison = s.poison := rfl
@[simp] theorem State.modCntFn_free (s : State) (f : Nat) (g : CntFn → CntFn) : (s.modCntFn f g).free = s.free := rfl
@[simp] theorem State.modCntFn_pending (s : State) (f : Nat) (g : CntFn → CntFn) : (s.modCntFn f g).pending = s.pending := rfl
@[simp] theorem State.modCntFn_cntFn_self (s : State) (f : Nat) (g : CntFn → CntFn) : (s.modCntFn f g).cntFn f = g (s.cntFn f) := SMap.getD_modify_self _ _ _ _
theorem State.modCntFn_cntFn_ne (s : State) (f : Nat) (g : CntFn → CntFn) {j : Nat} (h : j ≠ f) : (s.modCntFn f g).cntFn j = s.cntFn j := SMap.getD_modify_ne _ _ _ h

@[simp] theorem State.setNum_sup (s : State) (a v t : Nat) : (s.setNum a v t).sup = s.sup := by unfold State.setNum; split <;> rfl
@[simp] theorem State.addNum_sup (s : State) (a w k t : Nat) : (s.addNum a w k t).sup = s.sup := by simp [State.addNum]
@[simp] theorem State.setBlob_sup (s : State) (a : Nat) (v : List Byte) (t : Nat) : (s.setBlob a v t).sup = s.sup := rfl
@[simp] theorem State.setNum_time (s : State) (a v t : Nat) : (s.setNum a v t).time = s.time := by unfold State.setNum; split <;> rfl
@[simp] theorem State.addNum_time (s : State) (a w k t : Nat) : (s.addNum a w k t).time = s.time := by simp [State.addNum]
@[simp] theorem State.setBlob_time (s : State) (a : Nat) (v : List Byte) (t : Nat) : (s.setBlob a v t).time = s.time := rfl
@[simp] theorem State.setNum_bar0 (s : State) (a v t : Nat) : (s.setNum a v t).bar0 = s.bar0 := by unfold State.setNum; split <;> rfl
@[simp] theorem State.addNum_bar0 (s : State) (a w k t : Nat) : (s.addNum a w k t).bar0 = s.bar0 := by simp [State.addNum]
@[simp] theorem State.setBlob_bar0 (s : State) (a : Nat) (v : List Byte) (t : Nat) : (s.setBlob a v t).bar0 = s.bar0 := rfl
@[simp] theorem State.setNum_hif (s : State) (a v t : Nat) : (s.setNum a v t).hif = s.hif := by unfold State.setNum; split <;> rfl
@[simp] theorem State.addNum_hif (s : State) (a w k t : Nat) : (s.addNum a w k t).hif = s.hif := by simp [State.addNum]
@[simp] theorem State.setBlob_hif (s : State) (a : Nat) (v : List Byte) (t : Nat) : (s.setBlob a v t).hif = s.hif := rfl
@[simp] theorem State.setNum_fe (s : State) (a v t : Nat) : (s.setNum a v t).fe = s.fe := by unfold State.setNum; split <;> rfl
@[simp] theorem State.addNum_fe (s : State) (a w k t : Nat) : (s.addNum a w k t).fe = s.fe := by simp [State.addNum]
@[simp] theorem State.setBlob_fe (s : State) (a : Nat) (v : List Byte) (t : Nat) : (s.setBlob a v t).fe = s.fe := rfl
@[simp] theorem State.setNum_syn (s : State) (a v t : Nat) : (s.setNum a v t).syn = s.syn := by unfold State.setNum; split <;> rfl
@[simp] theorem State.addNum_syn (s : State) (a w k t : Nat) : (s.addNum a w k t).syn = s.syn := by simp [State.addNum]
@[simp] theorem State.setBlob_syn (s : State) (a : Nat) (v : List Byte) (t : Nat) : (s.setBlob a v t).syn = s.syn := rfl
@[simp] theorem State.setNum_stk (s : State) (a v t : Nat) : (s.setNum a v t).stk = s.stk := by unfold State.setNum; split <;> rfl
@[simp] theorem State.addNum_stk (s : State) (a w k t : Nat) : (s.addNum a w k t).stk = s.stk := by simp [State.addNum]
@[simp] theorem State.setBlob_stk (s : State) (a : Nat) (v : List Byte) (t : Nat) : (s.setBlob a v t).stk = s.stk := rfl
@[simp] theorem State.setNum_nwt (s : State) (a v t : Nat) : (s.setNum a v t).nwt = s.nwt := by unfold State.setNum; split <;> rfl
@[simp] theorem State.addNum_nwt (s : State) (a w k t : Nat) : (s.addNum a w k t).nwt = s.nwt := by simp [State.addNum]
@[simp] theorem State.setBlob_nwt (s : State) (a : Nat) (v : List Byte) (t : Nat) : (s.setBlob a v t).nwt = s.nwt := rfl
@[simp] theorem State.setNum_cores (s : State) (a v t : Nat) : (s.setNum a v t).cores = s.cores := by unfold State.setNum; split <;> rfl
@[simp] theorem State.addNum_cores (s : State) (a w k t : Nat) : (s.addNum a w k t).cores = s.cores := by simp [State.addNum]
@[simp] theorem State.setBlob_cores (s : State) (a : Nat) (v : List Byte) (t : Nat) : (s.setBlob a v t).cores = s.cores := rfl
@[simp] theorem State.setNum_l2 (s : State) (a v t : Nat) : (s.setNum a v t).l2 = s.l2 := by unfold State.setNum; split <;> rfl
@[simp] theorem State.addNum_l2 (s : State) (a w k t : Nat) : (s.addNum a w k t).l2 = s.l2 := by simp [State.addNum]
@[simp] theorem State.setBlob_l2 (s : State) (a : Nat) (v : List Byte) (t : Nat) : (s.setBlob a v t).l2 = s.l2 := rfl
@[simp] theorem State.setNum_fab (s : State) (a v t : Nat) : (s.setNum a v t).fab = s.fab := by unfold State.setNum; split <;> rfl
@[simp] theorem State.addNum_fab (s : State) (a w k t : Nat) : (s.addNum a w k t).fab = s.fab := by simp [State.addNum]
@[simp] theorem State.setBlob_fab (s : State) (a : Nat) (v : List Byte) (t : Nat) : (s.setBlob a v t).fab = s.fab := rfl
@[simp] theorem State.setNum_opt (s : State) (a v t : Nat) : (s.setNum a v t).opt = s.opt := by unfold State.setNum; split <;> rfl
@[simp] theorem State.addNum_opt (s : State) (a w k t : Nat) : (s.addNum a w k t).opt = s.opt := by simp [State.addNum]
@[simp] theorem State.setBlob_opt (s : State) (a : Nat) (v : List Byte) (t : Nat) : (s.setBlob a v t).opt = s.opt := rfl
@[simp] theorem State.setNum_svc (s : State) (a v t : Nat) : (s.setNum a v t).svc = s.svc := by unfold State.setNum; split <;> rfl
@[simp] theorem State.addNum_svc (s : State) (a w k t : Nat) : (s.addNum a w k t).svc = s.svc := by simp [State.addNum]
@[simp] theorem State.setBlob_svc (s : State) (a : Nat) (v : List Byte) (t : Nat) : (s.setBlob a v t).svc = s.svc := rfl
@[simp] theorem State.setNum_pwr (s : State) (a v t : Nat) : (s.setNum a v t).pwr = s.pwr := by unfold State.setNum; split <;> rfl
@[simp] theorem State.addNum_pwr (s : State) (a w k t : Nat) : (s.addNum a w k t).pwr = s.pwr := by simp [State.addNum]
@[simp] theorem State.setBlob_pwr (s : State) (a : Nat) (v : List Byte) (t : Nat) : (s.setBlob a v t).pwr = s.pwr := rfl
@[simp] theorem State.setNum_obs (s : State) (a v t : Nat) : (s.setNum a v t).obs = s.obs := by unfold State.setNum; split <;> rfl
@[simp] theorem State.addNum_obs (s : State) (a w k t : Nat) : (s.addNum a w k t).obs = s.obs := by simp [State.addNum]
@[simp] theorem State.setBlob_obs (s : State) (a : Nat) (v : List Byte) (t : Nat) : (s.setBlob a v t).obs = s.obs := rfl
@[simp] theorem State.setNum_mem (s : State) (a v t : Nat) : (s.setNum a v t).mem = s.mem := by unfold State.setNum; split <;> rfl
@[simp] theorem State.addNum_mem (s : State) (a w k t : Nat) : (s.addNum a w k t).mem = s.mem := by simp [State.addNum]
@[simp] theorem State.setBlob_mem (s : State) (a : Nat) (v : List Byte) (t : Nat) : (s.setBlob a v t).mem = s.mem := rfl
@[simp] theorem State.setNum_poison (s : State) (a v t : Nat) : (s.setNum a v t).poison = s.poison := by unfold State.setNum; split <;> rfl
@[simp] theorem State.addNum_poison (s : State) (a w k t : Nat) : (s.addNum a w k t).poison = s.poison := by simp [State.addNum]
@[simp] theorem State.setBlob_poison (s : State) (a : Nat) (v : List Byte) (t : Nat) : (s.setBlob a v t).poison = s.poison := rfl
@[simp] theorem State.setNum_free (s : State) (a v t : Nat) : (s.setNum a v t).free = s.free := by unfold State.setNum; split <;> rfl
@[simp] theorem State.addNum_free (s : State) (a w k t : Nat) : (s.addNum a w k t).free = s.free := by simp [State.addNum]
@[simp] theorem State.setBlob_free (s : State) (a : Nat) (v : List Byte) (t : Nat) : (s.setBlob a v t).free = s.free := rfl
@[simp] theorem State.setNum_pending (s : State) (a v t : Nat) : (s.setNum a v t).pending = s.pending := by unfold State.setNum; split <;> rfl
@[simp] theorem State.addNum_pending (s : State) (a w k t : Nat) : (s.addNum a w k t).pending = s.pending := by simp [State.addNum]
@[simp] theorem State.setBlob_pending (s : State) (a : Nat) (v : List Byte) (t : Nat) : (s.setBlob a v t).pending = s.pending := rfl

@[simp] theorem State.num_setNum_self (s : State) (a v t : Nat) : (s.setNum a v t).num a t = v := by
  unfold State.setNum State.num
  split
  · simp_all
  · simp

theorem State.num_setNum_ne (s : State) {a v t b u : Nat} (h : b * 256 + u ≠ a * 256 + t) : (s.setNum a v t).num b u = s.num b u := by
  unfold State.setNum State.num
  split
  · exact SMap.getD_del_ne _ _ h
  · exact SMap.getD_put_ne _ _ _ h

@[simp] theorem State.num_addNum_self (s : State) (a w k t : Nat) : (s.addNum a w k t).num a t = (s.num a t + k) % 2 ^ w := by
  simp [State.addNum]

@[simp] theorem State.signal_sup (s : State) (f v : Nat) : (s.signal f v).sup = s.sup := by unfold State.signal; split <;> rfl
@[simp] theorem State.signal_time (s : State) (f v : Nat) : (s.signal f v).time = s.time := by unfold State.signal; split <;> rfl
@[simp] theorem State.signal_mgt (s : State) (f v : Nat) : (s.signal f v).mgt = s.mgt := by unfold State.signal; split <;> rfl
@[simp] theorem State.signal_bar0 (s : State) (f v : Nat) : (s.signal f v).bar0 = s.bar0 := by unfold State.signal; split <;> rfl
@[simp] theorem State.signal_fe (s : State) (f v : Nat) : (s.signal f v).fe = s.fe := by unfold State.signal; split <;> rfl
@[simp] theorem State.signal_syn (s : State) (f v : Nat) : (s.signal f v).syn = s.syn := by unfold State.signal; split <;> rfl
@[simp] theorem State.signal_stk (s : State) (f v : Nat) : (s.signal f v).stk = s.stk := by unfold State.signal; split <;> rfl
@[simp] theorem State.signal_nwt (s : State) (f v : Nat) : (s.signal f v).nwt = s.nwt := by unfold State.signal; split <;> rfl
@[simp] theorem State.signal_cores (s : State) (f v : Nat) : (s.signal f v).cores = s.cores := by unfold State.signal; split <;> rfl
@[simp] theorem State.signal_l2 (s : State) (f v : Nat) : (s.signal f v).l2 = s.l2 := by unfold State.signal; split <;> rfl
@[simp] theorem State.signal_fab (s : State) (f v : Nat) : (s.signal f v).fab = s.fab := by unfold State.signal; split <;> rfl
@[simp] theorem State.signal_opt (s : State) (f v : Nat) : (s.signal f v).opt = s.opt := by unfold State.signal; split <;> rfl
@[simp] theorem State.signal_svc (s : State) (f v : Nat) : (s.signal f v).svc = s.svc := by unfold State.signal; split <;> rfl
@[simp] theorem State.signal_pwr (s : State) (f v : Nat) : (s.signal f v).pwr = s.pwr := by unfold State.signal; split <;> rfl
@[simp] theorem State.signal_obs (s : State) (f v : Nat) : (s.signal f v).obs = s.obs := by unfold State.signal; split <;> rfl
@[simp] theorem State.signal_mem (s : State) (f v : Nat) : (s.signal f v).mem = s.mem := by unfold State.signal; split <;> rfl
@[simp] theorem State.signal_poison (s : State) (f v : Nat) : (s.signal f v).poison = s.poison := by unfold State.signal; split <;> rfl
@[simp] theorem State.signal_free (s : State) (f v : Nat) : (s.signal f v).free = s.free := by unfold State.signal; split <;> rfl
@[simp] theorem State.signal_pending (s : State) (f v : Nat) : (s.signal f v).pending = s.pending := by unfold State.signal; split <;> rfl
@[simp] theorem State.raiseStk_sup (s : State) (n : Nat) : (s.raiseStk n).sup = s.sup := by unfold State.raiseStk; split <;> simp
@[simp] theorem State.raiseStk_time (s : State) (n : Nat) : (s.raiseStk n).time = s.time := by unfold State.raiseStk; split <;> simp
@[simp] theorem State.raiseStk_mgt (s : State) (n : Nat) : (s.raiseStk n).mgt = s.mgt := by unfold State.raiseStk; split <;> simp
@[simp] theorem State.raiseStk_bar0 (s : State) (n : Nat) : (s.raiseStk n).bar0 = s.bar0 := by unfold State.raiseStk; split <;> simp
@[simp] theorem State.raiseStk_fe (s : State) (n : Nat) : (s.raiseStk n).fe = s.fe := by unfold State.raiseStk; split <;> simp
@[simp] theorem State.raiseStk_syn (s : State) (n : Nat) : (s.raiseStk n).syn = s.syn := by unfold State.raiseStk; split <;> simp
@[simp] theorem State.raiseStk_nwt (s : State) (n : Nat) : (s.raiseStk n).nwt = s.nwt := by unfold State.raiseStk; split <;> simp
@[simp] theorem State.raiseStk_cores (s : State) (n : Nat) : (s.raiseStk n).cores = s.cores := by unfold State.raiseStk; split <;> simp
@[simp] theorem State.raiseStk_l2 (s : State) (n : Nat) : (s.raiseStk n).l2 = s.l2 := by unfold State.raiseStk; split <;> simp
@[simp] theorem State.raiseStk_fab (s : State) (n : Nat) : (s.raiseStk n).fab = s.fab := by unfold State.raiseStk; split <;> simp
@[simp] theorem State.raiseStk_opt (s : State) (n : Nat) : (s.raiseStk n).opt = s.opt := by unfold State.raiseStk; split <;> simp
@[simp] theorem State.raiseStk_svc (s : State) (n : Nat) : (s.raiseStk n).svc = s.svc := by unfold State.raiseStk; split <;> simp
@[simp] theorem State.raiseStk_pwr (s : State) (n : Nat) : (s.raiseStk n).pwr = s.pwr := by unfold State.raiseStk; split <;> simp
@[simp] theorem State.raiseStk_obs (s : State) (n : Nat) : (s.raiseStk n).obs = s.obs := by unfold State.raiseStk; split <;> simp
@[simp] theorem State.raiseStk_mem (s : State) (n : Nat) : (s.raiseStk n).mem = s.mem := by unfold State.raiseStk; split <;> simp
@[simp] theorem State.raiseStk_poison (s : State) (n : Nat) : (s.raiseStk n).poison = s.poison := by unfold State.raiseStk; split <;> simp
@[simp] theorem State.raiseStk_free (s : State) (n : Nat) : (s.raiseStk n).free = s.free := by unfold State.raiseStk; split <;> simp
@[simp] theorem State.raiseStk_pending (s : State) (n : Nat) : (s.raiseStk n).pending = s.pending := by unfold State.raiseStk; split <;> simp
@[simp] theorem State.raiseNwt_sup (s : State) (n : Nat) : (s.raiseNwt n).sup = s.sup := by unfold State.raiseNwt; split <;> simp
@[simp] theorem State.raiseNwt_time (s : State) (n : Nat) : (s.raiseNwt n).time = s.time := by unfold State.raiseNwt; split <;> simp
@[simp] theorem State.raiseNwt_mgt (s : State) (n : Nat) : (s.raiseNwt n).mgt = s.mgt := by unfold State.raiseNwt; split <;> simp
@[simp] theorem State.raiseNwt_bar0 (s : State) (n : Nat) : (s.raiseNwt n).bar0 = s.bar0 := by unfold State.raiseNwt; split <;> simp
@[simp] theorem State.raiseNwt_fe (s : State) (n : Nat) : (s.raiseNwt n).fe = s.fe := by unfold State.raiseNwt; split <;> simp
@[simp] theorem State.raiseNwt_syn (s : State) (n : Nat) : (s.raiseNwt n).syn = s.syn := by unfold State.raiseNwt; split <;> simp
@[simp] theorem State.raiseNwt_stk (s : State) (n : Nat) : (s.raiseNwt n).stk = s.stk := by unfold State.raiseNwt; split <;> simp
@[simp] theorem State.raiseNwt_cores (s : State) (n : Nat) : (s.raiseNwt n).cores = s.cores := by unfold State.raiseNwt; split <;> simp
@[simp] theorem State.raiseNwt_l2 (s : State) (n : Nat) : (s.raiseNwt n).l2 = s.l2 := by unfold State.raiseNwt; split <;> simp
@[simp] theorem State.raiseNwt_fab (s : State) (n : Nat) : (s.raiseNwt n).fab = s.fab := by unfold State.raiseNwt; split <;> simp
@[simp] theorem State.raiseNwt_opt (s : State) (n : Nat) : (s.raiseNwt n).opt = s.opt := by unfold State.raiseNwt; split <;> simp
@[simp] theorem State.raiseNwt_svc (s : State) (n : Nat) : (s.raiseNwt n).svc = s.svc := by unfold State.raiseNwt; split <;> simp
@[simp] theorem State.raiseNwt_pwr (s : State) (n : Nat) : (s.raiseNwt n).pwr = s.pwr := by unfold State.raiseNwt; split <;> simp
@[simp] theorem State.raiseNwt_obs (s : State) (n : Nat) : (s.raiseNwt n).obs = s.obs := by unfold State.raiseNwt; split <;> simp
@[simp] theorem State.raiseNwt_mem (s : State) (n : Nat) : (s.raiseNwt n).mem = s.mem := by unfold State.raiseNwt; split <;> simp
@[simp] theorem State.raiseNwt_poison (s : State) (n : Nat) : (s.raiseNwt n).poison = s.poison := by unfold State.raiseNwt; split <;> simp
@[simp] theorem State.raiseNwt_free (s : State) (n : Nat) : (s.raiseNwt n).free = s.free := by unfold State.raiseNwt; split <;> simp
@[simp] theorem State.raiseNwt_pending (s : State) (n : Nat) : (s.raiseNwt n).pending = s.pending := by unfold State.raiseNwt; split <;> simp
@[simp] theorem State.raiseL2_sup (s : State) (n : Nat) : (s.raiseL2 n).sup = s.sup := by unfold State.raiseL2; split <;> simp
@[simp] theorem State.raiseL2_time (s : State) (n : Nat) : (s.raiseL2 n).time = s.time := by unfold State.raiseL2; split <;> simp
@[simp] theorem State.raiseL2_mgt (s : State) (n : Nat) : (s.raiseL2 n).mgt = s.mgt := by unfold State.raiseL2; split <;> simp
@[simp] theorem State.raiseL2_bar0 (s : State) (n : Nat) : (s.raiseL2 n).bar0 = s.bar0 := by unfold State.raiseL2; split <;> simp
@[simp] theorem State.raiseL2_fe (s : State) (n : Nat) : (s.raiseL2 n).fe = s.fe := by unfold State.raiseL2; split <;> simp
@[simp] theorem State.raiseL2_syn (s : State) (n : Nat) : (s.raiseL2 n).syn = s.syn := by unfold State.raiseL2; split <;> simp
@[simp] theorem State.raiseL2_stk (s : State) (n : Nat) : (s.raiseL2 n).stk = s.stk := by unfold State.raiseL2; split <;> simp
@[simp] theorem State.raiseL2_nwt (s : State) (n : Nat) : (s.raiseL2 n).nwt = s.nwt := by unfold State.raiseL2; split <;> simp
@[simp] theorem State.raiseL2_cores (s : State) (n : Nat) : (s.raiseL2 n).cores = s.cores := by unfold State.raiseL2; split <;> simp
@[simp] theorem State.raiseL2_fab (s : State) (n : Nat) : (s.raiseL2 n).fab = s.fab := by unfold State.raiseL2; split <;> simp
@[simp] theorem State.raiseL2_opt (s : State) (n : Nat) : (s.raiseL2 n).opt = s.opt := by unfold State.raiseL2; split <;> simp
@[simp] theorem State.raiseL2_svc (s : State) (n : Nat) : (s.raiseL2 n).svc = s.svc := by unfold State.raiseL2; split <;> simp
@[simp] theorem State.raiseL2_pwr (s : State) (n : Nat) : (s.raiseL2 n).pwr = s.pwr := by unfold State.raiseL2; split <;> simp
@[simp] theorem State.raiseL2_obs (s : State) (n : Nat) : (s.raiseL2 n).obs = s.obs := by unfold State.raiseL2; split <;> simp
@[simp] theorem State.raiseL2_mem (s : State) (n : Nat) : (s.raiseL2 n).mem = s.mem := by unfold State.raiseL2; split <;> simp
@[simp] theorem State.raiseL2_poison (s : State) (n : Nat) : (s.raiseL2 n).poison = s.poison := by unfold State.raiseL2; split <;> simp
@[simp] theorem State.raiseL2_free (s : State) (n : Nat) : (s.raiseL2 n).free = s.free := by unfold State.raiseL2; split <;> simp
@[simp] theorem State.raiseL2_pending (s : State) (n : Nat) : (s.raiseL2 n).pending = s.pending := by unfold State.raiseL2; split <;> simp
@[simp] theorem State.raiseFab_sup (s : State) (n : Nat) : (s.raiseFab n).sup = s.sup := by unfold State.raiseFab; split <;> simp
@[simp] theorem State.raiseFab_time (s : State) (n : Nat) : (s.raiseFab n).time = s.time := by unfold State.raiseFab; split <;> simp
@[simp] theorem State.raiseFab_mgt (s : State) (n : Nat) : (s.raiseFab n).mgt = s.mgt := by unfold State.raiseFab; split <;> simp
@[simp] theorem State.raiseFab_bar0 (s : State) (n : Nat) : (s.raiseFab n).bar0 = s.bar0 := by unfold State.raiseFab; split <;> simp
@[simp] theorem State.raiseFab_fe (s : State) (n : Nat) : (s.raiseFab n).fe = s.fe := by unfold State.raiseFab; split <;> simp
@[simp] theorem State.raiseFab_syn (s : State) (n : Nat) : (s.raiseFab n).syn = s.syn := by unfold State.raiseFab; split <;> simp
@[simp] theorem State.raiseFab_stk (s : State) (n : Nat) : (s.raiseFab n).stk = s.stk := by unfold State.raiseFab; split <;> simp
@[simp] theorem State.raiseFab_nwt (s : State) (n : Nat) : (s.raiseFab n).nwt = s.nwt := by unfold State.raiseFab; split <;> simp
@[simp] theorem State.raiseFab_cores (s : State) (n : Nat) : (s.raiseFab n).cores = s.cores := by unfold State.raiseFab; split <;> simp
@[simp] theorem State.raiseFab_l2 (s : State) (n : Nat) : (s.raiseFab n).l2 = s.l2 := by unfold State.raiseFab; split <;> simp
@[simp] theorem State.raiseFab_opt (s : State) (n : Nat) : (s.raiseFab n).opt = s.opt := by unfold State.raiseFab; split <;> simp
@[simp] theorem State.raiseFab_svc (s : State) (n : Nat) : (s.raiseFab n).svc = s.svc := by unfold State.raiseFab; split <;> simp
@[simp] theorem State.raiseFab_pwr (s : State) (n : Nat) : (s.raiseFab n).pwr = s.pwr := by unfold State.raiseFab; split <;> simp
@[simp] theorem State.raiseFab_obs (s : State) (n : Nat) : (s.raiseFab n).obs = s.obs := by unfold State.raiseFab; split <;> simp
@[simp] theorem State.raiseFab_mem (s : State) (n : Nat) : (s.raiseFab n).mem = s.mem := by unfold State.raiseFab; split <;> simp
@[simp] theorem State.raiseFab_poison (s : State) (n : Nat) : (s.raiseFab n).poison = s.poison := by unfold State.raiseFab; split <;> simp
@[simp] theorem State.raiseFab_free (s : State) (n : Nat) : (s.raiseFab n).free = s.free := by unfold State.raiseFab; split <;> simp
@[simp] theorem State.raiseFab_pending (s : State) (n : Nat) : (s.raiseFab n).pending = s.pending := by unfold State.raiseFab; split <;> simp
@[simp] theorem State.raiseOpt_sup (s : State) (n : Nat) : (s.raiseOpt n).sup = s.sup := by unfold State.raiseOpt; split <;> simp
@[simp] theorem State.raiseOpt_time (s : State) (n : Nat) : (s.raiseOpt n).time = s.time := by unfold State.raiseOpt; split <;> simp
@[simp] theorem State.raiseOpt_mgt (s : State) (n : Nat) : (s.raiseOpt n).mgt = s.mgt := by unfold State.raiseOpt; split <;> simp
@[simp] theorem State.raiseOpt_bar0 (s : State) (n : Nat) : (s.raiseOpt n).bar0 = s.bar0 := by unfold State.raiseOpt; split <;> simp
@[simp] theorem State.raiseOpt_fe (s : State) (n : Nat) : (s.raiseOpt n).fe = s.fe := by unfold State.raiseOpt; split <;> simp
@[simp] theorem State.raiseOpt_syn (s : State) (n : Nat) : (s.raiseOpt n).syn = s.syn := by unfold State.raiseOpt; split <;> simp
@[simp] theorem State.raiseOpt_stk (s : State) (n : Nat) : (s.raiseOpt n).stk = s.stk := by unfold State.raiseOpt; split <;> simp
@[simp] theorem State.raiseOpt_nwt (s : State) (n : Nat) : (s.raiseOpt n).nwt = s.nwt := by unfold State.raiseOpt; split <;> simp
@[simp] theorem State.raiseOpt_cores (s : State) (n : Nat) : (s.raiseOpt n).cores = s.cores := by unfold State.raiseOpt; split <;> simp
@[simp] theorem State.raiseOpt_l2 (s : State) (n : Nat) : (s.raiseOpt n).l2 = s.l2 := by unfold State.raiseOpt; split <;> simp
@[simp] theorem State.raiseOpt_fab (s : State) (n : Nat) : (s.raiseOpt n).fab = s.fab := by unfold State.raiseOpt; split <;> simp
@[simp] theorem State.raiseOpt_svc (s : State) (n : Nat) : (s.raiseOpt n).svc = s.svc := by unfold State.raiseOpt; split <;> simp
@[simp] theorem State.raiseOpt_pwr (s : State) (n : Nat) : (s.raiseOpt n).pwr = s.pwr := by unfold State.raiseOpt; split <;> simp
@[simp] theorem State.raiseOpt_obs (s : State) (n : Nat) : (s.raiseOpt n).obs = s.obs := by unfold State.raiseOpt; split <;> simp
@[simp] theorem State.raiseOpt_mem (s : State) (n : Nat) : (s.raiseOpt n).mem = s.mem := by unfold State.raiseOpt; split <;> simp
@[simp] theorem State.raiseOpt_poison (s : State) (n : Nat) : (s.raiseOpt n).poison = s.poison := by unfold State.raiseOpt; split <;> simp
@[simp] theorem State.raiseOpt_free (s : State) (n : Nat) : (s.raiseOpt n).free = s.free := by unfold State.raiseOpt; split <;> simp
@[simp] theorem State.raiseOpt_pending (s : State) (n : Nat) : (s.raiseOpt n).pending = s.pending := by unfold State.raiseOpt; split <;> simp
@[simp] theorem State.raiseSvc_sup (s : State) (n : Nat) : (s.raiseSvc n).sup = s.sup := by unfold State.raiseSvc; split <;> simp
@[simp] theorem State.raiseSvc_time (s : State) (n : Nat) : (s.raiseSvc n).time = s.time := by unfold State.raiseSvc; split <;> simp
@[simp] theorem State.raiseSvc_mgt (s : State) (n : Nat) : (s.raiseSvc n).mgt = s.mgt := by unfold State.raiseSvc; split <;> simp
@[simp] theorem State.raiseSvc_bar0 (s : State) (n : Nat) : (s.raiseSvc n).bar0 = s.bar0 := by unfold State.raiseSvc; split <;> simp
@[simp] theorem State.raiseSvc_fe (s : State) (n : Nat) : (s.raiseSvc n).fe = s.fe := by unfold State.raiseSvc; split <;> simp
@[simp] theorem State.raiseSvc_syn (s : State) (n : Nat) : (s.raiseSvc n).syn = s.syn := by unfold State.raiseSvc; split <;> simp
@[simp] theorem State.raiseSvc_stk (s : State) (n : Nat) : (s.raiseSvc n).stk = s.stk := by unfold State.raiseSvc; split <;> simp
@[simp] theorem State.raiseSvc_nwt (s : State) (n : Nat) : (s.raiseSvc n).nwt = s.nwt := by unfold State.raiseSvc; split <;> simp
@[simp] theorem State.raiseSvc_cores (s : State) (n : Nat) : (s.raiseSvc n).cores = s.cores := by unfold State.raiseSvc; split <;> simp
@[simp] theorem State.raiseSvc_l2 (s : State) (n : Nat) : (s.raiseSvc n).l2 = s.l2 := by unfold State.raiseSvc; split <;> simp
@[simp] theorem State.raiseSvc_fab (s : State) (n : Nat) : (s.raiseSvc n).fab = s.fab := by unfold State.raiseSvc; split <;> simp
@[simp] theorem State.raiseSvc_opt (s : State) (n : Nat) : (s.raiseSvc n).opt = s.opt := by unfold State.raiseSvc; split <;> simp
@[simp] theorem State.raiseSvc_pwr (s : State) (n : Nat) : (s.raiseSvc n).pwr = s.pwr := by unfold State.raiseSvc; split <;> simp
@[simp] theorem State.raiseSvc_obs (s : State) (n : Nat) : (s.raiseSvc n).obs = s.obs := by unfold State.raiseSvc; split <;> simp
@[simp] theorem State.raiseSvc_mem (s : State) (n : Nat) : (s.raiseSvc n).mem = s.mem := by unfold State.raiseSvc; split <;> simp
@[simp] theorem State.raiseSvc_poison (s : State) (n : Nat) : (s.raiseSvc n).poison = s.poison := by unfold State.raiseSvc; split <;> simp
@[simp] theorem State.raiseSvc_free (s : State) (n : Nat) : (s.raiseSvc n).free = s.free := by unfold State.raiseSvc; split <;> simp
@[simp] theorem State.raiseSvc_pending (s : State) (n : Nat) : (s.raiseSvc n).pending = s.pending := by unfold State.raiseSvc; split <;> simp
@[simp] theorem State.raisePwr_sup (s : State) (n : Nat) : (s.raisePwr n).sup = s.sup := by unfold State.raisePwr; split <;> simp
@[simp] theorem State.raisePwr_time (s : State) (n : Nat) : (s.raisePwr n).time = s.time := by unfold State.raisePwr; split <;> simp
@[simp] theorem State.raisePwr_mgt (s : State) (n : Nat) : (s.raisePwr n).mgt = s.mgt := by unfold State.raisePwr; split <;> simp
@[simp] theorem State.raisePwr_bar0 (s : State) (n : Nat) : (s.raisePwr n).bar0 = s.bar0 := by unfold State.raisePwr; split <;> simp
@[simp] theorem State.raisePwr_fe (s : State) (n : Nat) : (s.raisePwr n).fe = s.fe := by unfold State.raisePwr; split <;> simp
@[simp] theorem State.raisePwr_syn (s : State) (n : Nat) : (s.raisePwr n).syn = s.syn := by unfold State.raisePwr; split <;> simp
@[simp] theorem State.raisePwr_stk (s : State) (n : Nat) : (s.raisePwr n).stk = s.stk := by unfold State.raisePwr; split <;> simp
@[simp] theorem State.raisePwr_nwt (s : State) (n : Nat) : (s.raisePwr n).nwt = s.nwt := by unfold State.raisePwr; split <;> simp
@[simp] theorem State.raisePwr_cores (s : State) (n : Nat) : (s.raisePwr n).cores = s.cores := by unfold State.raisePwr; split <;> simp
@[simp] theorem State.raisePwr_l2 (s : State) (n : Nat) : (s.raisePwr n).l2 = s.l2 := by unfold State.raisePwr; split <;> simp
@[simp] theorem State.raisePwr_fab (s : State) (n : Nat) : (s.raisePwr n).fab = s.fab := by unfold State.raisePwr; split <;> simp
@[simp] theorem State.raisePwr_opt (s : State) (n : Nat) : (s.raisePwr n).opt = s.opt := by unfold State.raisePwr; split <;> simp
@[simp] theorem State.raisePwr_svc (s : State) (n : Nat) : (s.raisePwr n).svc = s.svc := by unfold State.raisePwr; split <;> simp
@[simp] theorem State.raisePwr_obs (s : State) (n : Nat) : (s.raisePwr n).obs = s.obs := by unfold State.raisePwr; split <;> simp
@[simp] theorem State.raisePwr_mem (s : State) (n : Nat) : (s.raisePwr n).mem = s.mem := by unfold State.raisePwr; split <;> simp
@[simp] theorem State.raisePwr_poison (s : State) (n : Nat) : (s.raisePwr n).poison = s.poison := by unfold State.raisePwr; split <;> simp
@[simp] theorem State.raisePwr_free (s : State) (n : Nat) : (s.raisePwr n).free = s.free := by unfold State.raisePwr; split <;> simp
@[simp] theorem State.raisePwr_pending (s : State) (n : Nat) : (s.raisePwr n).pending = s.pending := by unfold State.raisePwr; split <;> simp
@[simp] theorem State.raiseMgt_sup (s : State) (n : Nat) : (s.raiseMgt n).sup = s.sup := by unfold State.raiseMgt; split <;> simp
@[simp] theorem State.raiseMgt_time (s : State) (n : Nat) : (s.raiseMgt n).time = s.time := by unfold State.raiseMgt; split <;> simp
@[simp] theorem State.raiseMgt_bar0 (s : State) (n : Nat) : (s.raiseMgt n).bar0 = s.bar0 := by unfold State.raiseMgt; split <;> simp
@[simp] theorem State.raiseMgt_fe (s : State) (n : Nat) : (s.raiseMgt n).fe = s.fe := by unfold State.raiseMgt; split <;> simp
@[simp] theorem State.raiseMgt_syn (s : State) (n : Nat) : (s.raiseMgt n).syn = s.syn := by unfold State.raiseMgt; split <;> simp
@[simp] theorem State.raiseMgt_stk (s : State) (n : Nat) : (s.raiseMgt n).stk = s.stk := by unfold State.raiseMgt; split <;> simp
@[simp] theorem State.raiseMgt_nwt (s : State) (n : Nat) : (s.raiseMgt n).nwt = s.nwt := by unfold State.raiseMgt; split <;> simp
@[simp] theorem State.raiseMgt_cores (s : State) (n : Nat) : (s.raiseMgt n).cores = s.cores := by unfold State.raiseMgt; split <;> simp
@[simp] theorem State.raiseMgt_l2 (s : State) (n : Nat) : (s.raiseMgt n).l2 = s.l2 := by unfold State.raiseMgt; split <;> simp
@[simp] theorem State.raiseMgt_fab (s : State) (n : Nat) : (s.raiseMgt n).fab = s.fab := by unfold State.raiseMgt; split <;> simp
@[simp] theorem State.raiseMgt_opt (s : State) (n : Nat) : (s.raiseMgt n).opt = s.opt := by unfold State.raiseMgt; split <;> simp
@[simp] theorem State.raiseMgt_svc (s : State) (n : Nat) : (s.raiseMgt n).svc = s.svc := by unfold State.raiseMgt; split <;> simp
@[simp] theorem State.raiseMgt_pwr (s : State) (n : Nat) : (s.raiseMgt n).pwr = s.pwr := by unfold State.raiseMgt; split <;> simp
@[simp] theorem State.raiseMgt_obs (s : State) (n : Nat) : (s.raiseMgt n).obs = s.obs := by unfold State.raiseMgt; split <;> simp
@[simp] theorem State.raiseMgt_mem (s : State) (n : Nat) : (s.raiseMgt n).mem = s.mem := by unfold State.raiseMgt; split <;> simp
@[simp] theorem State.raiseMgt_poison (s : State) (n : Nat) : (s.raiseMgt n).poison = s.poison := by unfold State.raiseMgt; split <;> simp
@[simp] theorem State.raiseMgt_free (s : State) (n : Nat) : (s.raiseMgt n).free = s.free := by unfold State.raiseMgt; split <;> simp
@[simp] theorem State.raiseMgt_pending (s : State) (n : Nat) : (s.raiseMgt n).pending = s.pending := by unfold State.raiseMgt; split <;> simp
@[simp] theorem State.raiseHif_sup (s : State) (n : Nat) : (s.raiseHif n).sup = s.sup := by unfold State.raiseHif; split <;> simp
@[simp] theorem State.raiseHif_time (s : State) (n : Nat) : (s.raiseHif n).time = s.time := by unfold State.raiseHif; split <;> simp
@[simp] theorem State.raiseHif_mgt (s : State) (n : Nat) : (s.raiseHif n).mgt = s.mgt := by unfold State.raiseHif; split <;> simp
@[simp] theorem State.raiseHif_bar0 (s : State) (n : Nat) : (s.raiseHif n).bar0 = s.bar0 := by unfold State.raiseHif; split <;> simp
@[simp] theorem State.raiseHif_fe (s : State) (n : Nat) : (s.raiseHif n).fe = s.fe := by unfold State.raiseHif; split <;> simp
@[simp] theorem State.raiseHif_syn (s : State) (n : Nat) : (s.raiseHif n).syn = s.syn := by unfold State.raiseHif; split <;> simp
@[simp] theorem State.raiseHif_stk (s : State) (n : Nat) : (s.raiseHif n).stk = s.stk := by unfold State.raiseHif; split <;> simp
@[simp] theorem State.raiseHif_nwt (s : State) (n : Nat) : (s.raiseHif n).nwt = s.nwt := by unfold State.raiseHif; split <;> simp
@[simp] theorem State.raiseHif_cores (s : State) (n : Nat) : (s.raiseHif n).cores = s.cores := by unfold State.raiseHif; split <;> simp
@[simp] theorem State.raiseHif_l2 (s : State) (n : Nat) : (s.raiseHif n).l2 = s.l2 := by unfold State.raiseHif; split <;> simp
@[simp] theorem State.raiseHif_fab (s : State) (n : Nat) : (s.raiseHif n).fab = s.fab := by unfold State.raiseHif; split <;> simp
@[simp] theorem State.raiseHif_opt (s : State) (n : Nat) : (s.raiseHif n).opt = s.opt := by unfold State.raiseHif; split <;> simp
@[simp] theorem State.raiseHif_svc (s : State) (n : Nat) : (s.raiseHif n).svc = s.svc := by unfold State.raiseHif; split <;> simp
@[simp] theorem State.raiseHif_pwr (s : State) (n : Nat) : (s.raiseHif n).pwr = s.pwr := by unfold State.raiseHif; split <;> simp
@[simp] theorem State.raiseHif_obs (s : State) (n : Nat) : (s.raiseHif n).obs = s.obs := by unfold State.raiseHif; split <;> simp
@[simp] theorem State.raiseHif_mem (s : State) (n : Nat) : (s.raiseHif n).mem = s.mem := by unfold State.raiseHif; split <;> simp
@[simp] theorem State.raiseHif_poison (s : State) (n : Nat) : (s.raiseHif n).poison = s.poison := by unfold State.raiseHif; split <;> simp
@[simp] theorem State.raiseHif_free (s : State) (n : Nat) : (s.raiseHif n).free = s.free := by unfold State.raiseHif; split <;> simp
@[simp] theorem State.raiseHif_pending (s : State) (n : Nat) : (s.raiseHif n).pending = s.pending := by unfold State.raiseHif; split <;> simp

@[simp] theorem State.raiseStk_status (s : State) (n : Nat) : (s.raiseStk n).stk = { s.stk with errStatus := setBit s.stk.errStatus n } := by unfold State.raiseStk; split <;> simp
@[simp] theorem State.raiseNwt_status (s : State) (n : Nat) : (s.raiseNwt n).nwt = { s.nwt with status := setBit s.nwt.status n } := by unfold State.raiseNwt; split <;> simp
@[simp] theorem State.raiseL2_status (s : State) (n : Nat) : (s.raiseL2 n).l2 = { s.l2 with status := setBit s.l2.status n } := by unfold State.raiseL2; split <;> simp
@[simp] theorem State.raiseFab_status (s : State) (n : Nat) : (s.raiseFab n).fab = { s.fab with status := setBit s.fab.status n } := by unfold State.raiseFab; split <;> simp
@[simp] theorem State.raiseOpt_status (s : State) (n : Nat) : (s.raiseOpt n).opt = { s.opt with status := setBit s.opt.status n } := by unfold State.raiseOpt; split <;> simp
@[simp] theorem State.raiseSvc_status (s : State) (n : Nat) : (s.raiseSvc n).svc = { s.svc with status := setBit s.svc.status n } := by unfold State.raiseSvc; split <;> simp
@[simp] theorem State.raisePwr_status (s : State) (n : Nat) : (s.raisePwr n).pwr = { s.pwr with status := setBit s.pwr.status n } := by unfold State.raisePwr; split <;> simp
@[simp] theorem State.raiseMgt_status (s : State) (n : Nat) : (s.raiseMgt n).mgt = { s.mgt with status := setBit s.mgt.status n } := by unfold State.raiseMgt; split <;> simp

end Sys2Proof.Machine
end

