-- ==== Sys2Proof/Laws/Coherent.lean ====
section
/-! SUPPORT. Laws/Coherent.lean: what an operation through the homes does: it is performed whole, or it is refused, or only the invalidations of its lines go out. -/

namespace Sys2Proof.Machine

@[simp] theorem State.unNack_sup (s : State) (l : Option Nat) (w : Client) : (s.unNack l w).sup = s.sup := rfl
@[simp] theorem State.unNack_time (s : State) (l : Option Nat) (w : Client) : (s.unNack l w).time = s.time := rfl
@[simp] theorem State.unNack_mgt (s : State) (l : Option Nat) (w : Client) : (s.unNack l w).mgt = s.mgt := rfl
@[simp] theorem State.unNack_bar0 (s : State) (l : Option Nat) (w : Client) : (s.unNack l w).bar0 = s.bar0 := rfl
@[simp] theorem State.unNack_hif (s : State) (l : Option Nat) (w : Client) : (s.unNack l w).hif = s.hif := rfl
@[simp] theorem State.unNack_fe (s : State) (l : Option Nat) (w : Client) : (s.unNack l w).fe = s.fe := rfl
@[simp] theorem State.unNack_syn (s : State) (l : Option Nat) (w : Client) : (s.unNack l w).syn = s.syn := rfl
@[simp] theorem State.unNack_stk (s : State) (l : Option Nat) (w : Client) : (s.unNack l w).stk = s.stk := rfl
@[simp] theorem State.unNack_nwt (s : State) (l : Option Nat) (w : Client) : (s.unNack l w).nwt = s.nwt := rfl
@[simp] theorem State.unNack_cores (s : State) (l : Option Nat) (w : Client) : (s.unNack l w).cores = s.cores := rfl
@[simp] theorem State.unNack_fab (s : State) (l : Option Nat) (w : Client) : (s.unNack l w).fab = s.fab := rfl
@[simp] theorem State.unNack_opt (s : State) (l : Option Nat) (w : Client) : (s.unNack l w).opt = s.opt := rfl
@[simp] theorem State.unNack_svc (s : State) (l : Option Nat) (w : Client) : (s.unNack l w).svc = s.svc := rfl
@[simp] theorem State.unNack_pwr (s : State) (l : Option Nat) (w : Client) : (s.unNack l w).pwr = s.pwr := rfl
@[simp] theorem State.unNack_obs (s : State) (l : Option Nat) (w : Client) : (s.unNack l w).obs = s.obs := rfl
@[simp] theorem State.unNack_mem (s : State) (l : Option Nat) (w : Client) : (s.unNack l w).mem = s.mem := rfl
@[simp] theorem State.unNack_poison (s : State) (l : Option Nat) (w : Client) : (s.unNack l w).poison = s.poison := rfl
@[simp] theorem State.unNack_free (s : State) (l : Option Nat) (w : Client) : (s.unNack l w).free = s.free := rfl
@[simp] theorem State.unNack_pending (s : State) (l : Option Nat) (w : Client) : (s.unNack l w).pending = s.pending := rfl

@[simp] theorem State.holdReq_sup (s : State) (i : HeldReq) : (s.holdReq i).sup = s.sup := rfl
@[simp] theorem State.holdReq_time (s : State) (i : HeldReq) : (s.holdReq i).time = s.time := rfl
@[simp] theorem State.holdReq_mgt (s : State) (i : HeldReq) : (s.holdReq i).mgt = s.mgt := rfl
@[simp] theorem State.holdReq_bar0 (s : State) (i : HeldReq) : (s.holdReq i).bar0 = s.bar0 := rfl
@[simp] theorem State.holdReq_hif (s : State) (i : HeldReq) : (s.holdReq i).hif = s.hif := rfl
@[simp] theorem State.holdReq_fe (s : State) (i : HeldReq) : (s.holdReq i).fe = s.fe := rfl
@[simp] theorem State.holdReq_syn (s : State) (i : HeldReq) : (s.holdReq i).syn = s.syn := rfl
@[simp] theorem State.holdReq_stk (s : State) (i : HeldReq) : (s.holdReq i).stk = s.stk := rfl
@[simp] theorem State.holdReq_nwt (s : State) (i : HeldReq) : (s.holdReq i).nwt = s.nwt := rfl
@[simp] theorem State.holdReq_cores (s : State) (i : HeldReq) : (s.holdReq i).cores = s.cores := rfl
@[simp] theorem State.holdReq_fab (s : State) (i : HeldReq) : (s.holdReq i).fab = s.fab := rfl
@[simp] theorem State.holdReq_opt (s : State) (i : HeldReq) : (s.holdReq i).opt = s.opt := rfl
@[simp] theorem State.holdReq_svc (s : State) (i : HeldReq) : (s.holdReq i).svc = s.svc := rfl
@[simp] theorem State.holdReq_pwr (s : State) (i : HeldReq) : (s.holdReq i).pwr = s.pwr := rfl
@[simp] theorem State.holdReq_obs (s : State) (i : HeldReq) : (s.holdReq i).obs = s.obs := rfl
@[simp] theorem State.holdReq_mem (s : State) (i : HeldReq) : (s.holdReq i).mem = s.mem := rfl
@[simp] theorem State.holdReq_poison (s : State) (i : HeldReq) : (s.holdReq i).poison = s.poison := rfl
@[simp] theorem State.holdReq_free (s : State) (i : HeldReq) : (s.holdReq i).free = s.free := rfl
@[simp] theorem State.holdReq_pending (s : State) (i : HeldReq) : (s.holdReq i).pending = s.pending := rfl

@[simp] theorem State.unitDone_sup (s : State) (k i : Nat) : (s.unitDone k i).sup = s.sup := rfl
@[simp] theorem State.unitDone_time (s : State) (k i : Nat) : (s.unitDone k i).time = s.time := rfl
@[simp] theorem State.unitDone_mgt (s : State) (k i : Nat) : (s.unitDone k i).mgt = s.mgt := rfl
@[simp] theorem State.unitDone_bar0 (s : State) (k i : Nat) : (s.unitDone k i).bar0 = s.bar0 := rfl
@[simp] theorem State.unitDone_hif (s : State) (k i : Nat) : (s.unitDone k i).hif = s.hif := rfl
@[simp] theorem State.unitDone_fe (s : State) (k i : Nat) : (s.unitDone k i).fe = s.fe := rfl
@[simp] theorem State.unitDone_syn (s : State) (k i : Nat) : (s.unitDone k i).syn = s.syn := rfl
@[simp] theorem State.unitDone_stk (s : State) (k i : Nat) : (s.unitDone k i).stk = s.stk := rfl
@[simp] theorem State.unitDone_nwt (s : State) (k i : Nat) : (s.unitDone k i).nwt = s.nwt := rfl
@[simp] theorem State.unitDone_cores (s : State) (k i : Nat) : (s.unitDone k i).cores = s.cores := rfl
@[simp] theorem State.unitDone_fab (s : State) (k i : Nat) : (s.unitDone k i).fab = s.fab := rfl
@[simp] theorem State.unitDone_opt (s : State) (k i : Nat) : (s.unitDone k i).opt = s.opt := rfl
@[simp] theorem State.unitDone_svc (s : State) (k i : Nat) : (s.unitDone k i).svc = s.svc := rfl
@[simp] theorem State.unitDone_pwr (s : State) (k i : Nat) : (s.unitDone k i).pwr = s.pwr := rfl
@[simp] theorem State.unitDone_obs (s : State) (k i : Nat) : (s.unitDone k i).obs = s.obs := rfl
@[simp] theorem State.unitDone_mem (s : State) (k i : Nat) : (s.unitDone k i).mem = s.mem := rfl
@[simp] theorem State.unitDone_poison (s : State) (k i : Nat) : (s.unitDone k i).poison = s.poison := rfl
@[simp] theorem State.unitDone_free (s : State) (k i : Nat) : (s.unitDone k i).free = s.free := rfl
@[simp] theorem State.unitDone_pending (s : State) (k i : Nat) : (s.unitDone k i).pending = s.pending := rfl

@[simp] theorem State.unNack_l2_dir (s : State) (l : Option Nat) (w : Client) : (s.unNack l w).l2.dir = s.l2.dir := rfl
@[simp] theorem State.unitDone_l2_dir (s : State) (k i : Nat) : (s.unitDone k i).l2.dir = s.l2.dir := rfl
@[simp] theorem State.holdReq_l2_dir (s : State) (i : HeldReq) : (s.holdReq i).l2.dir = s.l2.dir := rfl
@[simp] theorem State.unNack_l2_loads (s : State) (l : Option Nat) (w : Client) : (s.unNack l w).l2.loads = s.l2.loads := rfl
@[simp] theorem State.unitDone_l2_loads (s : State) (k i : Nat) : (s.unitDone k i).l2.loads = s.l2.loads := rfl
@[simp] theorem State.holdReq_l2_loads (s : State) (i : HeldReq) : (s.holdReq i).l2.loads = s.l2.loads := rfl
@[simp] theorem State.unNack_l2_atoms (s : State) (l : Option Nat) (w : Client) : (s.unNack l w).l2.atoms = s.l2.atoms := rfl
@[simp] theorem State.unitDone_l2_atoms (s : State) (k i : Nat) : (s.unitDone k i).l2.atoms = s.l2.atoms := rfl
@[simp] theorem State.holdReq_l2_atoms (s : State) (i : HeldReq) : (s.holdReq i).l2.atoms = s.l2.atoms := rfl
@[simp] theorem State.unNack_l2_bars (s : State) (l : Option Nat) (w : Client) : (s.unNack l w).l2.bars = s.l2.bars := rfl
@[simp] theorem State.unitDone_l2_bars (s : State) (k i : Nat) : (s.unitDone k i).l2.bars = s.l2.bars := rfl
@[simp] theorem State.holdReq_l2_bars (s : State) (i : HeldReq) : (s.holdReq i).l2.bars = s.l2.bars := rfl
@[simp] theorem State.unNack_l2_replicas (s : State) (l : Option Nat) (w : Client) : (s.unNack l w).l2.replicas = s.l2.replicas := rfl
@[simp] theorem State.unitDone_l2_replicas (s : State) (k i : Nat) : (s.unitDone k i).l2.replicas = s.l2.replicas := rfl
@[simp] theorem State.holdReq_l2_replicas (s : State) (i : HeldReq) : (s.holdReq i).l2.replicas = s.l2.replicas := rfl
@[simp] theorem State.unNack_l2_tied (s : State) (l : Option Nat) (w : Client) : (s.unNack l w).l2.tied = s.l2.tied := rfl
@[simp] theorem State.unitDone_l2_tied (s : State) (k i : Nat) : (s.unitDone k i).l2.tied = s.l2.tied := rfl
@[simp] theorem State.holdReq_l2_tied (s : State) (i : HeldReq) : (s.holdReq i).l2.tied = s.l2.tied := rfl
@[simp] theorem State.unNack_l2_held (s : State) (l : Option Nat) (w : Client) : (s.unNack l w).l2.held = s.l2.held := rfl
@[simp] theorem State.unitDone_l2_held (s : State) (k i : Nat) : (s.unitDone k i).l2.held = s.l2.held := rfl
@[simp] theorem State.unNack_l2_domainLost (s : State) (l : Option Nat) (w : Client) : (s.unNack l w).l2.domainLost = s.l2.domainLost := rfl
@[simp] theorem State.unitDone_l2_domainLost (s : State) (k i : Nat) : (s.unitDone k i).l2.domainLost = s.l2.domainLost := rfl
@[simp] theorem State.holdReq_l2_domainLost (s : State) (i : HeldReq) : (s.holdReq i).l2.domainLost = s.l2.domainLost := rfl
@[simp] theorem State.unNack_l2_refused (s : State) (l : Option Nat) (w : Client) : (s.unNack l w).l2.refused = s.l2.refused := rfl
@[simp] theorem State.holdReq_l2_refused (s : State) (i : HeldReq) : (s.holdReq i).l2.refused = s.l2.refused := rfl
@[simp] theorem State.unNack_l2_nextId (s : State) (l : Option Nat) (w : Client) : (s.unNack l w).l2.nextId = s.l2.nextId := rfl
@[simp] theorem State.unitDone_l2_nextId (s : State) (k i : Nat) : (s.unitDone k i).l2.nextId = s.l2.nextId := rfl
@[simp] theorem State.unitDone_l2_refused (s : State) (k i : Nat) : (s.unitDone k i).l2.refused = none := rfl
@[simp] theorem State.holdReq_held_self (s : State) (i : HeldReq) : (s.holdReq i).l2.held.get? s.l2.nextId = some i := SMap.get?_put_self _ _ _

/-- A command of a unit that its homes can take is performed whole. -/
theorem State.unit_of_goes {s : State} {kind index : Nat} {go : State → State} (h : s.unitGoes kind index go) :
    s.unit kind index go = (go s).unitDone kind index := s.coherent_of_goes _ _ _ _ h

/-- A request from outside that its homes can take is performed. -/
theorem State.outside_of_goes {s : State} {i : HeldReq} {go : State → State} (h : s.hostGoes go) : s.outside i go = go s := if_pos h

/-- Without earlier requests of its function a host access is made at once. -/
theorem State.inOrder_of_free {s : State} {f : Nat} {i : HeldReq} {go : State → State} (h : s.heldOf f = []) : s.inOrder f i go = go s := by
  simp [State.inOrder, h]

/-- Behind an earlier request of its function a host access waits. -/
theorem State.inOrder_of_held {s : State} {f : Nat} {i : HeldReq} {go : State → State} (h : s.heldOf f ≠ []) : s.inOrder f i go = s.holdReq i := by
  simp [State.inOrder, h]

/-- A host access to memory that is first of its function and that its homes can take is performed. -/
theorem State.hostReq_of_goes {s : State} {f : Nat} {i : HeldReq} {go : State → State} (h : s.heldOf f = []) (hg : s.hostGoes go) :
    s.hostReq f i go = go s := by
  rw [State.hostReq, State.inOrder_of_free h, State.outside_of_goes hg]

/-- An operation that changes no directory entry meets no home. -/
theorem State.meets_of_dir_eq {s t : State} (who : Client) (h : t.l2.dir = s.l2.dir) (hr : t.l2.refused = none) : s.meets t who = .free := by
  have e : s.touched t = [] := by simp [State.touched, h]
  simp only [State.meets, hr, State.copiesEnded, e]
  split <;> rfl

/-- A command of a unit that changes no directory entry is performed whole. -/
theorem State.unitGoes_of_dir_eq {s : State} (kind index : Nat) {go : State → State} (h : (go s).l2.dir = s.l2.dir) (hr : (go s).l2.refused = none) :
    s.unitGoes kind index go := decide_eq_true (State.meets_of_dir_eq _ h hr)

/-- Sending invalidations adds packets for other chips and changes nothing else. -/
theorem State.tellCopies_eq (s : State) (line sharers : Nat) : ∃ a, s.tellCopies line sharers = { s with fab.answers := a } := by
  unfold State.tellCopies
  generalize List.range 3 = l
  induction l generalizing s with
  | nil => exact ⟨s.fab.answers, rfl⟩
  | cons i t ih =>
    simp only [List.foldl_cons]
    split
    · cases s.tieMember i with
      | none => exact ih s
      | some c => obtain ⟨a, e⟩ := ih (s.cohMsg c 0 0 (128 * line) [] 0); exact ⟨a, e⟩
    · exact ih s

/-- Asking for the copies of lines leaves memory and the cores. -/
theorem State.askCopies_frame (s : State) (who : Client) (line : Nat) :
    (s.askCopies who line).mem = s.mem ∧ (s.askCopies who line).cores = s.cores ∧ (s.askCopies who line).poison = s.poison := by
  unfold State.askCopies
  split
  · exact ⟨rfl, rfl, rfl⟩
  · split
    · exact ⟨rfl, rfl, rfl⟩
    · obtain ⟨a, e⟩ := s.tellCopies_eq line ‹Dir›.sharers
      simp only [e, and_self]

end Sys2Proof.Machine
end

