-- ==== Sys2Proof/Laws/Dict.lean ====
section
/-! SUPPORT. Laws/Dict.lean: what logging a record and accepting a dictionary write change. -/

namespace Sys2Proof.Machine

@[simp] theorem State.appendLog_sup (s : State) (ty i fn ix sb tg : Nat) (a b : List Byte) : (s.appendLog ty i fn ix sb tg a b).sup = s.sup := by unfold State.appendLog; dsimp only; split <;> simp
@[simp] theorem State.dictLogged_sup (s : State) (w : Origin) (a tg : Nat) (x y : List Byte) : (s.dictLogged w a tg x y).sup = s.sup := by unfold State.dictLogged; split; rfl; dsimp only; split <;> simp
@[simp] theorem State.dictNum_sup (s : State) (w : Origin) (a tg v : Nat) : (s.dictNum w a tg v).sup = s.sup := by unfold State.dictNum; split <;> simp
@[simp] theorem State.answer_sup (s : State) (st : Nat) : (s.answer st).sup = s.sup := rfl
@[simp] theorem State.faultRecord_sup (s : State) (c u d i n e : Nat) : (s.faultRecord c u d i n e).sup = s.sup := by unfold State.faultRecord; dsimp only; rw [State.setBlob_sup]; split <;> split <;> simp
@[simp] theorem State.appendLog_bar0 (s : State) (ty i fn ix sb tg : Nat) (a b : List Byte) : (s.appendLog ty i fn ix sb tg a b).bar0 = s.bar0 := by unfold State.appendLog; dsimp only; split <;> simp
@[simp] theorem State.dictLogged_bar0 (s : State) (w : Origin) (a tg : Nat) (x y : List Byte) : (s.dictLogged w a tg x y).bar0 = s.bar0 := by unfold State.dictLogged; split; rfl; dsimp only; split <;> simp
@[simp] theorem State.dictNum_bar0 (s : State) (w : Origin) (a tg v : Nat) : (s.dictNum w a tg v).bar0 = s.bar0 := by unfold State.dictNum; split <;> simp
@[simp] theorem State.answer_bar0 (s : State) (st : Nat) : (s.answer st).bar0 = s.bar0 := rfl
@[simp] theorem State.faultRecord_bar0 (s : State) (c u d i n e : Nat) : (s.faultRecord c u d i n e).bar0 = s.bar0 := by unfold State.faultRecord; dsimp only; rw [State.setBlob_bar0]; split <;> split <;> simp
@[simp] theorem State.appendLog_fe (s : State) (ty i fn ix sb tg : Nat) (a b : List Byte) : (s.appendLog ty i fn ix sb tg a b).fe = s.fe := by unfold State.appendLog; dsimp only; split <;> simp
@[simp] theorem State.dictLogged_fe (s : State) (w : Origin) (a tg : Nat) (x y : List Byte) : (s.dictLogged w a tg x y).fe = s.fe := by unfold State.dictLogged; split; rfl; dsimp only; split <;> simp
@[simp] theorem State.dictNum_fe (s : State) (w : Origin) (a tg v : Nat) : (s.dictNum w a tg v).fe = s.fe := by unfold State.dictNum; split <;> simp
@[simp] theorem State.answer_fe (s : State) (st : Nat) : (s.answer st).fe = s.fe := rfl
@[simp] theorem State.faultRecord_fe (s : State) (c u d i n e : Nat) : (s.faultRecord c u d i n e).fe = s.fe := by unfold State.faultRecord; dsimp only; rw [State.setBlob_fe]; split <;> split <;> simp
@[simp] theorem State.appendLog_syn (s : State) (ty i fn ix sb tg : Nat) (a b : List Byte) : (s.appendLog ty i fn ix sb tg a b).syn = s.syn := by unfold State.appendLog; dsimp only; split <;> simp
@[simp] theorem State.dictLogged_syn (s : State) (w : Origin) (a tg : Nat) (x y : List Byte) : (s.dictLogged w a tg x y).syn = s.syn := by unfold State.dictLogged; split; rfl; dsimp only; split <;> simp
@[simp] theorem State.dictNum_syn (s : State) (w : Origin) (a tg v : Nat) : (s.dictNum w a tg v).syn = s.syn := by unfold State.dictNum; split <;> simp
@[simp] theorem State.answer_syn (s : State) (st : Nat) : (s.answer st).syn = s.syn := rfl
@[simp] theorem State.faultRecord_syn (s : State) (c u d i n e : Nat) : (s.faultRecord c u d i n e).syn = s.syn := by unfold State.faultRecord; dsimp only; rw [State.setBlob_syn]; split <;> split <;> simp
@[simp] theorem State.appendLog_stk (s : State) (ty i fn ix sb tg : Nat) (a b : List Byte) : (s.appendLog ty i fn ix sb tg a b).stk = s.stk := by unfold State.appendLog; dsimp only; split <;> simp
@[simp] theorem State.dictLogged_stk (s : State) (w : Origin) (a tg : Nat) (x y : List Byte) : (s.dictLogged w a tg x y).stk = s.stk := by unfold State.dictLogged; split; rfl; dsimp only; split <;> simp
@[simp] theorem State.dictNum_stk (s : State) (w : Origin) (a tg v : Nat) : (s.dictNum w a tg v).stk = s.stk := by unfold State.dictNum; split <;> simp
@[simp] theorem State.answer_stk (s : State) (st : Nat) : (s.answer st).stk = s.stk := rfl
@[simp] theorem State.faultRecord_stk (s : State) (c u d i n e : Nat) : (s.faultRecord c u d i n e).stk = s.stk := by unfold State.faultRecord; dsimp only; rw [State.setBlob_stk]; split <;> split <;> simp
@[simp] theorem State.appendLog_nwt (s : State) (ty i fn ix sb tg : Nat) (a b : List Byte) : (s.appendLog ty i fn ix sb tg a b).nwt = s.nwt := by unfold State.appendLog; dsimp only; split <;> simp
@[simp] theorem State.dictLogged_nwt (s : State) (w : Origin) (a tg : Nat) (x y : List Byte) : (s.dictLogged w a tg x y).nwt = s.nwt := by unfold State.dictLogged; split; rfl; dsimp only; split <;> simp
@[simp] theorem State.dictNum_nwt (s : State) (w : Origin) (a tg v : Nat) : (s.dictNum w a tg v).nwt = s.nwt := by unfold State.dictNum; split <;> simp
@[simp] theorem State.answer_nwt (s : State) (st : Nat) : (s.answer st).nwt = s.nwt := rfl
@[simp] theorem State.faultRecord_nwt (s : State) (c u d i n e : Nat) : (s.faultRecord c u d i n e).nwt = s.nwt := by unfold State.faultRecord; dsimp only; rw [State.setBlob_nwt]; split <;> split <;> simp
@[simp] theorem State.appendLog_cores (s : State) (ty i fn ix sb tg : Nat) (a b : List Byte) : (s.appendLog ty i fn ix sb tg a b).cores = s.cores := by unfold State.appendLog; dsimp only; split <;> simp
@[simp] theorem State.dictLogged_cores (s : State) (w : Origin) (a tg : Nat) (x y : List Byte) : (s.dictLogged w a tg x y).cores = s.cores := by unfold State.dictLogged; split; rfl; dsimp only; split <;> simp
@[simp] theorem State.dictNum_cores (s : State) (w : Origin) (a tg v : Nat) : (s.dictNum w a tg v).cores = s.cores := by unfold State.dictNum; split <;> simp
@[simp] theorem State.answer_cores (s : State) (st : Nat) : (s.answer st).cores = s.cores := rfl
@[simp] theorem State.faultRecord_cores (s : State) (c u d i n e : Nat) : (s.faultRecord c u d i n e).cores = s.cores := by unfold State.faultRecord; dsimp only; rw [State.setBlob_cores]; split <;> split <;> simp
@[simp] theorem State.appendLog_l2 (s : State) (ty i fn ix sb tg : Nat) (a b : List Byte) : (s.appendLog ty i fn ix sb tg a b).l2 = s.l2 := by unfold State.appendLog; dsimp only; split <;> simp
@[simp] theorem State.dictLogged_l2 (s : State) (w : Origin) (a tg : Nat) (x y : List Byte) : (s.dictLogged w a tg x y).l2 = s.l2 := by unfold State.dictLogged; split; rfl; dsimp only; split <;> simp
@[simp] theorem State.dictNum_l2 (s : State) (w : Origin) (a tg v : Nat) : (s.dictNum w a tg v).l2 = s.l2 := by unfold State.dictNum; split <;> simp
@[simp] theorem State.answer_l2 (s : State) (st : Nat) : (s.answer st).l2 = s.l2 := rfl
@[simp] theorem State.faultRecord_l2 (s : State) (c u d i n e : Nat) : (s.faultRecord c u d i n e).l2 = s.l2 := by unfold State.faultRecord; dsimp only; rw [State.setBlob_l2]; split <;> split <;> simp
@[simp] theorem State.appendLog_fab (s : State) (ty i fn ix sb tg : Nat) (a b : List Byte) : (s.appendLog ty i fn ix sb tg a b).fab = s.fab := by unfold State.appendLog; dsimp only; split <;> simp
@[simp] theorem State.dictLogged_fab (s : State) (w : Origin) (a tg : Nat) (x y : List Byte) : (s.dictLogged w a tg x y).fab = s.fab := by unfold State.dictLogged; split; rfl; dsimp only; split <;> simp
@[simp] theorem State.dictNum_fab (s : State) (w : Origin) (a tg v : Nat) : (s.dictNum w a tg v).fab = s.fab := by unfold State.dictNum; split <;> simp
@[simp] theorem State.answer_fab (s : State) (st : Nat) : (s.answer st).fab = s.fab := rfl
@[simp] theorem State.faultRecord_fab (s : State) (c u d i n e : Nat) : (s.faultRecord c u d i n e).fab = s.fab := by unfold State.faultRecord; dsimp only; rw [State.setBlob_fab]; split <;> split <;> simp
@[simp] theorem State.appendLog_opt (s : State) (ty i fn ix sb tg : Nat) (a b : List Byte) : (s.appendLog ty i fn ix sb tg a b).opt = s.opt := by unfold State.appendLog; dsimp only; split <;> simp
@[simp] theorem State.dictLogged_opt (s : State) (w : Origin) (a tg : Nat) (x y : List Byte) : (s.dictLogged w a tg x y).opt = s.opt := by unfold State.dictLogged; split; rfl; dsimp only; split <;> simp
@[simp] theorem State.dictNum_opt (s : State) (w : Origin) (a tg v : Nat) : (s.dictNum w a tg v).opt = s.opt := by unfold State.dictNum; split <;> simp
@[simp] theorem State.answer_opt (s : State) (st : Nat) : (s.answer st).opt = s.opt := rfl
@[simp] theorem State.faultRecord_opt (s : State) (c u d i n e : Nat) : (s.faultRecord c u d i n e).opt = s.opt := by unfold State.faultRecord; dsimp only; rw [State.setBlob_opt]; split <;> split <;> simp
@[simp] theorem State.appendLog_svc (s : State) (ty i fn ix sb tg : Nat) (a b : List Byte) : (s.appendLog ty i fn ix sb tg a b).svc = s.svc := by unfold State.appendLog; dsimp only; split <;> simp
@[simp] theorem State.dictLogged_svc (s : State) (w : Origin) (a tg : Nat) (x y : List Byte) : (s.dictLogged w a tg x y).svc = s.svc := by unfold State.dictLogged; split; rfl; dsimp only; split <;> simp
@[simp] theorem State.dictNum_svc (s : State) (w : Origin) (a tg v : Nat) : (s.dictNum w a tg v).svc = s.svc := by unfold State.dictNum; split <;> simp
@[simp] theorem State.answer_svc (s : State) (st : Nat) : (s.answer st).svc = s.svc := rfl
@[simp] theorem State.faultRecord_svc (s : State) (c u d i n e : Nat) : (s.faultRecord c u d i n e).svc = s.svc := by unfold State.faultRecord; dsimp only; rw [State.setBlob_svc]; split <;> split <;> simp
@[simp] theorem State.appendLog_pwr (s : State) (ty i fn ix sb tg : Nat) (a b : List Byte) : (s.appendLog ty i fn ix sb tg a b).pwr = s.pwr := by unfold State.appendLog; dsimp only; split <;> simp
@[simp] theorem State.dictLogged_pwr (s : State) (w : Origin) (a tg : Nat) (x y : List Byte) : (s.dictLogged w a tg x y).pwr = s.pwr := by unfold State.dictLogged; split; rfl; dsimp only; split <;> simp
@[simp] theorem State.dictNum_pwr (s : State) (w : Origin) (a tg v : Nat) : (s.dictNum w a tg v).pwr = s.pwr := by unfold State.dictNum; split <;> simp
@[simp] theorem State.answer_pwr (s : State) (st : Nat) : (s.answer st).pwr = s.pwr := rfl
@[simp] theorem State.faultRecord_pwr (s : State) (c u d i n e : Nat) : (s.faultRecord c u d i n e).pwr = s.pwr := by unfold State.faultRecord; dsimp only; rw [State.setBlob_pwr]; split <;> split <;> simp
@[simp] theorem State.appendLog_obs (s : State) (ty i fn ix sb tg : Nat) (a b : List Byte) : (s.appendLog ty i fn ix sb tg a b).obs = s.obs := by unfold State.appendLog; dsimp only; split <;> simp
@[simp] theorem State.dictLogged_obs (s : State) (w : Origin) (a tg : Nat) (x y : List Byte) : (s.dictLogged w a tg x y).obs = s.obs := by unfold State.dictLogged; split; rfl; dsimp only; split <;> simp
@[simp] theorem State.dictNum_obs (s : State) (w : Origin) (a tg v : Nat) : (s.dictNum w a tg v).obs = s.obs := by unfold State.dictNum; split <;> simp
@[simp] theorem State.answer_obs (s : State) (st : Nat) : (s.answer st).obs = s.obs := rfl
@[simp] theorem State.faultRecord_obs (s : State) (c u d i n e : Nat) : (s.faultRecord c u d i n e).obs = s.obs := by unfold State.faultRecord; dsimp only; rw [State.setBlob_obs]; split <;> split <;> simp
@[simp] theorem State.appendLog_mem (s : State) (ty i fn ix sb tg : Nat) (a b : List Byte) : (s.appendLog ty i fn ix sb tg a b).mem = s.mem := by unfold State.appendLog; dsimp only; split <;> simp
@[simp] theorem State.dictLogged_mem (s : State) (w : Origin) (a tg : Nat) (x y : List Byte) : (s.dictLogged w a tg x y).mem = s.mem := by unfold State.dictLogged; split; rfl; dsimp only; split <;> simp
@[simp] theorem State.dictNum_mem (s : State) (w : Origin) (a tg v : Nat) : (s.dictNum w a tg v).mem = s.mem := by unfold State.dictNum; split <;> simp
@[simp] theorem State.answer_mem (s : State) (st : Nat) : (s.answer st).mem = s.mem := rfl
@[simp] theorem State.faultRecord_mem (s : State) (c u d i n e : Nat) : (s.faultRecord c u d i n e).mem = s.mem := by unfold State.faultRecord; dsimp only; rw [State.setBlob_mem]; split <;> split <;> simp
@[simp] theorem State.appendLog_poison (s : State) (ty i fn ix sb tg : Nat) (a b : List Byte) : (s.appendLog ty i fn ix sb tg a b).poison = s.poison := by unfold State.appendLog; dsimp only; split <;> simp
@[simp] theorem State.dictLogged_poison (s : State) (w : Origin) (a tg : Nat) (x y : List Byte) : (s.dictLogged w a tg x y).poison = s.poison := by unfold State.dictLogged; split; rfl; dsimp only; split <;> simp
@[simp] theorem State.dictNum_poison (s : State) (w : Origin) (a tg v : Nat) : (s.dictNum w a tg v).poison = s.poison := by unfold State.dictNum; split <;> simp
@[simp] theorem State.answer_poison (s : State) (st : Nat) : (s.answer st).poison = s.poison := rfl
@[simp] theorem State.faultRecord_poison (s : State) (c u d i n e : Nat) : (s.faultRecord c u d i n e).poison = s.poison := by unfold State.faultRecord; dsimp only; rw [State.setBlob_poison]; split <;> split <;> simp
@[simp] theorem State.appendLog_free (s : State) (ty i fn ix sb tg : Nat) (a b : List Byte) : (s.appendLog ty i fn ix sb tg a b).free = s.free := by unfold State.appendLog; dsimp only; split <;> simp
@[simp] theorem State.dictLogged_free (s : State) (w : Origin) (a tg : Nat) (x y : List Byte) : (s.dictLogged w a tg x y).free = s.free := by unfold State.dictLogged; split; rfl; dsimp only; split <;> simp
@[simp] theorem State.dictNum_free (s : State) (w : Origin) (a tg v : Nat) : (s.dictNum w a tg v).free = s.free := by unfold State.dictNum; split <;> simp
@[simp] theorem State.answer_free (s : State) (st : Nat) : (s.answer st).free = s.free := rfl
@[simp] theorem State.faultRecord_free (s : State) (c u d i n e : Nat) : (s.faultRecord c u d i n e).free = s.free := by unfold State.faultRecord; dsimp only; rw [State.setBlob_free]; split <;> split <;> simp
@[simp] theorem State.appendLog_pending (s : State) (ty i fn ix sb tg : Nat) (a b : List Byte) : (s.appendLog ty i fn ix sb tg a b).pending = s.pending := by unfold State.appendLog; dsimp only; split <;> simp
@[simp] theorem State.dictLogged_pending (s : State) (w : Origin) (a tg : Nat) (x y : List Byte) : (s.dictLogged w a tg x y).pending = s.pending := by unfold State.dictLogged; split; rfl; dsimp only; split <;> simp
@[simp] theorem State.dictNum_pending (s : State) (w : Origin) (a tg v : Nat) : (s.dictNum w a tg v).pending = s.pending := by unfold State.dictNum; split <;> simp
@[simp] theorem State.answer_pending (s : State) (st : Nat) : (s.answer st).pending = s.pending := rfl
@[simp] theorem State.faultRecord_pending (s : State) (c u d i n e : Nat) : (s.faultRecord c u d i n e).pending = s.pending := by unfold State.faultRecord; dsimp only; rw [State.setBlob_pending]; split <;> split <;> simp

@[simp] theorem State.appendLog_num (s : State) (ty i fn ix sb tg : Nat) (x y : List Byte) (b u : Nat) :
    (s.appendLog ty i fn ix sb tg x y).num b u = s.num b u := by
  unfold State.num State.appendLog; dsimp only; split <;> simp

@[simp] theorem State.raiseMgt_num (s : State) (n b u : Nat) : (s.raiseMgt n).num b u = s.num b u := by
  unfold State.num; simp

@[simp] theorem State.dictLogged_num (s : State) (w : Origin) (a tg : Nat) (x y : List Byte) (b u : Nat) :
    (s.dictLogged w a tg x y).num b u = s.num b u := by
  unfold State.dictLogged
  split
  · rfl
  · dsimp only; split
    · show State.num (State.raiseMgt _ _) b u = _; simp
    · show State.num (State.appendLog _ _ _ _ _ _ _ _ _) b u = _; simp

/-- An accepted write of an entry that exists: the entry holds the value. -/
theorem State.dictNum_num_self (s : State) (w : Origin) (a tg v : Nat) (h : (entryInfo a).isSome) : (s.dictNum w a tg v).num a tg = v := by
  unfold State.dictNum
  split
  · simp_all
  · simp

theorem State.dictNum_num_ne (s : State) (w : Origin) {a tg v b u : Nat} (h : b * 256 + u ≠ a * 256 + tg) :
    (s.dictNum w a tg v).num b u = s.num b u := by
  unfold State.dictNum
  split
  · rfl
  · simp [State.num_setNum_ne s h]

/-- An accepted write is answered with status 0. -/
theorem State.dictNum_answer (s : State) (w : Origin) (a tg v : Nat) (h : (entryInfo a).isSome) : (s.dictNum w a tg v).mgt.answer = 0 := by
  unfold State.dictNum State.dictLogged
  split
  · simp_all
  · dsimp only

/-- A write performed where the checks and the entry's own rule accept it. -/
theorem State.deviceWrite_ok (s : State) (w : Origin) (a v : Nat) (f : State → State) (h : s.deviceCheck w a = 0) :
    s.deviceWrite w a v 0 f = f (s.dictNum w a 0 v) := by
  simp [State.deviceWrite, h]

theorem State.triggerWrite_ok (s : State) (w : Origin) (a v : Nat) (f : State → State) (r : EntryInfo) (h : s.deviceCheck w a = 0)
    (hr : entryInfo a = some r) : s.triggerWrite w a v 0 f =
      f (s.dictLogged w a 0 (leBytes r.type.width (entryDefault a 0)) (leBytes r.type.width v)) := by
  simp [State.triggerWrite, h, hr]

theorem State.fnWrite_ok (s : State) (w : Origin) (p a v : Nat) (f : State → State) (h : s.fnCheck w p a = 0) :
    s.fnWrite w p a v 0 f = f (s.dictNum w a p v) := by
  simp [State.fnWrite, h]

theorem State.partWrite_ok (s : State) (w : Origin) (p a v : Nat) (f : State → State) (h : s.entryLive a = true) (hp : p < 64)
    (hv : w.isVf = false) : s.partWrite w p a v 0 f = f (s.dictNum w a p v) := by
  have : ¬ 63 < p := by omega
  simp [State.partWrite, h, this, hv]

/-- A write that the checks refuse changes nothing but the answer (R416). -/
theorem State.deviceWrite_refused (s : State) (w : Origin) (a v st : Nat) (f : State → State) (h : s.deviceCheck w a ≠ 0) :
    s.deviceWrite w a v st f = s.answer (s.deviceCheck w a) := by
  simp [State.deviceWrite, h]

end Sys2Proof.Machine
end

