-- ==== Sys2Proof/Laws/Issue.lean ====
section
/-! SUPPORT. Laws/Issue.lean: what the issue of an instruction does (R106, R129, R130), said once for every form of chapter 6. -/

namespace Sys2Proof.Machine

/-! The books of an issue. -/

theorem State.countAt_frame (s : State) (o sel n : Nat) :
    (s.countAt o sel n).cores = s.cores ∧ (s.countAt o sel n).mem = s.mem ∧ (s.countAt o sel n).l2 = s.l2 ∧
      (s.countAt o sel n).obs.fns = s.obs.fns := by
  unfold State.countAt
  dsimp only
  split <;> simp

theorem State.countEvent_frame (s : State) (k u e n q f : Nat) :
    (s.countEvent k u e n q f).cores = s.cores ∧ (s.countEvent k u e n q f).mem = s.mem ∧ (s.countEvent k u e n q f).l2 = s.l2 ∧
      (s.countEvent k u e n q f).obs.fns = s.obs.fns := by
  unfold State.countEvent
  split
  · simp
  · rename_i hz
    clear hz
    generalize bankOffsets k u = l
    induction l generalizing s with
    | nil => simp
    | cons o t ih =>
      rw [List.foldl_cons]
      by_cases hs : selCounts (s.obs.sels.getD o.2 0) e q f = true
      · have h := s.countAt_frame o.1 (s.obs.sels.getD o.2 0) n
        simp only [hs, if_true]
        obtain ⟨a, b, c, d⟩ := ih (s.countAt o.1 (s.obs.sels.getD o.2 0) n)
        exact ⟨a.trans h.1, b.trans h.2.1, c.trans h.2.2.1, d.trans h.2.2.2⟩
      · simp only [hs]
        exact ih s

theorem State.addQty_frame (s : State) (q i n l o : Nat) (h : s.accumCount < 4096) :
    (s.addQty q i n l o).cores = s.cores ∧ (s.addQty q i n l o).mem = s.mem ∧ (s.addQty q i n l o).l2 = s.l2 := by
  unfold State.addQty
  dsimp only
  split
  · exact ⟨rfl, rfl, rfl⟩
  · unfold State.accumulate
    dsimp only
    split
    · exact ⟨rfl, rfl, rfl⟩
    · unfold State.roomForAccum
      rw [if_pos (by exact h)]
      exact ⟨rfl, rfl, rfl⟩

theorem State.countIssue_frame (s : State) (c : Nat) (g : Group) (v : Bool) (m a : Nat) (h : v = false ∨ s.accumCount < 4096) :
    (s.countIssue c g v m a).cores = s.cores ∧ (s.countIssue c g v m a).mem = s.mem ∧ (s.countIssue c g v m a).l2 = s.l2 := by
  unfold State.countIssue
  dsimp only
  generalize (if v = true then issueSteps g.width m else 1) = n
  generalize (if v = true then 0x01 else 0x02) = e
  have h1 := s.countEvent_frame 0 c 0x05 n g.queue 0
  have h2 := (s.countEvent 0 c 0x05 n g.queue).countEvent_frame 0 c e n g.queue 0
  split
  · rename_i hv
    have h := h.resolve_left (by simp [hv])
    have h3 := ((s.countEvent 0 c 0x05 n g.queue).countEvent 0 c e n g.queue).addQty_frame g.queue 1 (popCount 64 a) g.layer g.operator
      (by unfold State.accumCount; rw [h2.2.2.2, h1.2.2.2]; exact h)
    exact ⟨h3.1.trans (h2.1.trans h1.1), h3.2.1.trans (h2.2.1.trans h1.2.1), h3.2.2.trans (h2.2.2.1.trans h1.2.2.1)⟩
  · exact ⟨h2.1.trans h1.1, h2.2.1.trans h1.2.1, h2.2.2.1.trans h1.2.2.1⟩

/-- The state in which an instruction acts: the errors of the register file are counted, the group is noted and its threads have aged, and the issue is counted. -/
def State.booked (s1 : State) (is : Issue) (x : Form) (g : Group) : State :=
  (((s1.countEcc is.core is.rfCorrected is.rcParity).modCore is.core (fun k =>
      let k1 := k.noteGroup is.slot
      { k1 with retry := none, rcache := rcIssue k1.rcache is.slot x.srcs x.hints x.dsts
                groups := k1.groups.put is.slot (g.age (g.issueMask is.pc)) })).resumeAtIssue g.queue).countIssue is.core g x.vec
    (g.issueMask is.pc) (g.guardMask x.guard x.neg (g.issueMask is.pc))

/-- The issue that goes on. -/
def issOf (is : Issue) (x : Form) (g : Group) : Iss :=
  { core := is.core, slot := is.slot, pc := is.pc, g := g.age (g.issueMask is.pc), mask := g.issueMask is.pc
    act := g.guardMask x.guard x.neg (g.issueMask is.pc) }

/-- An instruction that issues with legal fields and is ready acts. -/
theorem State.issue_acts {s s1 : State} {is : Issue} {g : Group} {x : Form} {regs : List Nat} (go : Iss → State → State)
    (h : Issues s is x.word regs g s1) (hr : ∀ r ∈ x.srcs ++ x.dsts, r ∈ regs) (hl : x.legal g.vregs = true)
    (hy : x.ready s1 { core := is.core, slot := is.slot, pc := is.pc, g := g, mask := g.issueMask is.pc
                       act := g.guardMask x.guard x.neg (g.issueMask is.pc) } = true) :
    s.issue is x go = go (issOf is x g) (s1.booked is x g) := by
  obtain ⟨h1, h2, ⟨h3, h4⟩, h5, ha, ht, h6, h7, h8, h9, h10⟩ := h
  have hf : ((x.srcs ++ x.dsts).any (s.pendingRegs is.core is.slot (g.issueMask is.pc)).contains) = false := by
    rw [Bool.eq_false_iff]
    intro hc
    obtain ⟨r, hm, hp⟩ := List.any_eq_true.1 hc
    exact h8 r (hr r hm) (List.contains_iff_mem.1 hp)
  unfold State.issue State.booked issOf
  simp [h1, h2, h3, h4, h5, ha, ht, h6, h7, hl, hf, hy, h9, h10]

/-- An instruction with fields that the spec does not allow kills the context (R162). -/
theorem State.issue_illegal {s s1 : State} {is : Issue} {g : Group} {x : Form} {regs : List Nat} (go : Iss → State → State)
    (h : Issues s is x.word regs g s1) (hl : x.legal g.vregs = false) :
    s.issue is x go = .coreFault s1 is.core is.slot (g.first is.pc) 0x04 is.pc 0 := by
  obtain ⟨h1, h2, ⟨h3, h4⟩, h5, ha, ht, h6, h7, h8, h9, h10⟩ := h
  unfold State.issue
  simp [h1, h2, h3, h4, h5, ha, ht, h6, h7, hl]

/-! The threads of an issue. -/

theorem bit_eq_testBit (x i : Nat) : bit x i = x.testBit i := by rw [Nat.testBit_eq_decide_div_mod_eq]; rfl

theorem bit_setBit (x i j : Nat) : bit (setBit x i) j = (decide (j = i) || bit x j) := by
  unfold setBit
  split
  · rename_i h
    by_cases hj : j = i
    · subst hj; simp [h]
    · simp [hj]
  · rename_i h
    unfold bit at *
    have h0 : x / 2 ^ i % 2 = 0 := by simp at h; omega
    have hp : 0 < 2 ^ i := Nat.two_pow_pos i
    have hd : (x + 2 ^ i) / 2 ^ i = x / 2 ^ i + 1 := Nat.add_div_right x hp
    rcases Nat.lt_trichotomy j i with hj | hj | hj
    · obtain ⟨k, rfl⟩ : ∃ k, i = j + (k + 1) := ⟨i - j - 1, by omega⟩
      have e : x + 2 ^ (j + (k + 1)) = x + 2 ^ j * (2 * 2 ^ k) := by rw [Nat.pow_add, Nat.pow_succ]; ring
      rw [e, Nat.add_mul_div_left _ _ (Nat.two_pow_pos j)]
      have : j ≠ j + (k + 1) := by omega
      simp
    · subst hj
      rw [hd]
      simp; omega
    · obtain ⟨k, rfl⟩ : ∃ k, j = i + (k + 1) := ⟨j - i - 1, by omega⟩
      have e : ∀ y : Nat, y / 2 ^ (i + (k + 1)) = y / 2 ^ i / 2 / 2 ^ k := fun y => by
        rw [Nat.div_div_eq_div_mul, Nat.div_div_eq_div_mul]; congr 1; rw [Nat.pow_add, Nat.pow_succ]; ring
      rw [e, e, hd]
      have : (x / 2 ^ i + 1) / 2 = x / 2 ^ i / 2 := by omega
      have hn : i + (k + 1) ≠ i := by omega
      simp [this]

theorem bit_foldl_setBit (l : List Nat) (x j : Nat) : bit (l.foldl setBit x) j = (decide (j ∈ l) || bit x j) := by
  induction l generalizing x with
  | nil => simp
  | cons a t ih =>
    rw [List.foldl_cons, ih, bit_setBit]
    by_cases h1 : j = a <;> by_cases h2 : j ∈ t <;> simp [h1, h2]

/-- A set built from listed positions has exactly those. -/
theorem bit_ofBitList (l : List Nat) (j : Nat) : bit (ofBitList l) j = decide (j ∈ l) := by
  unfold ofBitList
  rw [bit_foldl_setBit]
  simp [bit]

theorem mem_bitList (n x j : Nat) : j ∈ bitList n x ↔ j < n ∧ bit x j = true := by
  simp [bitList]

/-- The threads whose guard holds. -/
theorem Group.bit_guardMask (g : Group) (r m j : Nat) (neg : Bool) :
    bit (g.guardMask r neg m) j = true ↔ j < 64 ∧ bit m j = true ∧ g.guard r neg j = true := by
  unfold Group.guardMask
  rw [bit_ofBitList]
  simp [mem_bitList, and_assoc]

theorem Group.mem_issueMask (g : Group) (pc j : Nat) : bit (g.issueMask pc) j = true → j < 64 ∧ g.pcs.getD j 0 = pc := by
  unfold Group.issueMask
  rw [bit_ofBitList]
  simp only [decide_eq_true_eq, List.mem_filter, List.mem_range, Bool.and_eq_true]
  rintro ⟨h, -, h2⟩
  exact ⟨h, by simpa using h2⟩

/-- The lowest thread of a set that is not empty belongs to it. -/
theorem lowest_bit {m : Nat} (h : ∃ j, j < 64 ∧ bit m j = true) : lowest m < 64 ∧ bit m (lowest m) = true := by
  unfold lowest
  obtain ⟨j, h1, h2⟩ := h
  have hm : j ∈ bitList 64 m := (mem_bitList _ _ _).2 ⟨h1, h2⟩
  cases hl : bitList 64 m with
  | nil => rw [hl] at hm; simp at hm
  | cons a t => exact (mem_bitList 64 m a).1 (by rw [hl]; simp)

theorem exists_bit_of_ne_zero {g : Group} {pc : Nat} (h : g.issueMask pc ≠ 0) : ∃ j, j < 64 ∧ bit (g.issueMask pc) j = true := by
  unfold Group.issueMask at *
  generalize hl : (List.range 64).filter (fun t => bit g.live t && !bit g.gbar t && decide (g.pcs.getD t 0 = pc)) = l at *
  cases l with
  | nil => exact absurd rfl h
  | cons a t =>
    have ha : a ∈ (List.range 64).filter (fun t => bit g.live t && !bit g.gbar t && decide (g.pcs.getD t 0 = pc)) := by
      rw [hl]; simp
    exact ⟨a, List.mem_range.1 (List.mem_filter.1 ha).1, by rw [bit_ofBitList]; simp⟩

/-! Changing a group thread by thread. -/

theorem foldl_put_getD {α : Type} (l : List Nat) (d : α) (f : α → α) (p : SMap α) (j : Nat) (hn : l.Nodup) :
    (l.foldl (fun p t => p.put t (f (p.getD t d))) p).getD j d = if j ∈ l then f (p.getD j d) else p.getD j d := by
  induction l generalizing p with
  | nil => simp
  | cons a t ih =>
    rw [List.foldl_cons, ih _ (List.nodup_cons.1 hn).2]
    by_cases h : j = a
    · subst h
      simp [(List.nodup_cons.1 hn).1]
    · simp [h, SMap.getD_put_ne _ _ _ h]

theorem bitList_nodup (n x : Nat) : (bitList n x).Nodup := List.Nodup.filter _ List.nodup_range

/-- Advancing moves the threads of the mask, and nothing else. -/
theorem Group.advance_pcs (g : Group) (m j : Nat) (h : j < 64) :
    (g.advance m).pcs.getD j 0 = if bit m j then (g.pcs.getD j 0 + 8) % 2 ^ 57 else g.pcs.getD j 0 := by
  unfold Group.advance maskThreads
  rw [foldl_put_getD _ 0 (fun x => (x + 8) % 2 ^ 57) _ _ (bitList_nodup _ _)]
  simp [mem_bitList, h]

theorem Group.setV_eq (g : Group) (r t v n : Nat) : ∃ w, g.setV r t v n = { g with v := w } := by
  induction n generalizing g r v with
  | zero => exact ⟨g.v, rfl⟩
  | succ n ih =>
    obtain ⟨w, h⟩ := ih { g with v := g.v.put (r * 64 + t) (BitVec.ofNat 32 v) } (r + 1) (v / 2 ^ 32)
    exact ⟨w, by rw [Group.setV, h]⟩

theorem Group.vreg_put (g : Group) (r t v r' t' : Nat) (h : t < 64) (h' : t' < 64) :
    Group.vreg { g with v := g.v.put (r * 64 + t) (BitVec.ofNat 32 v) } r' t' = if t' = t ∧ r' = r then v % 2 ^ 32 else g.vreg r' t' := by
  unfold Group.vreg
  by_cases hc : t' = t ∧ r' = r
  · obtain ⟨rfl, rfl⟩ := hc
    simp
  · rw [if_neg hc, SMap.getD_put_ne _ _ _ (by omega)]

/-- Reading a vector register after `n` registers of a thread were written. -/
theorem Group.vreg_setV (g : Group) (r t v n r' t' : Nat) (h : t < 64) (h' : t' < 64) :
    (g.setV r t v n).vreg r' t' = if t' = t ∧ r ≤ r' ∧ r' < r + n then v / 2 ^ (32 * (r' - r)) % 2 ^ 32 else g.vreg r' t' := by
  induction n generalizing g r v with
  | zero => rw [if_neg (by omega)]; rfl
  | succ n ih =>
    rw [Group.setV, ih, Group.vreg_put _ _ _ _ _ _ h h']
    by_cases ht : t' = t
    · subst ht
      by_cases h1 : r' = r
      · subst h1
        rw [if_neg (by omega), if_pos ⟨rfl, rfl⟩, if_pos (by omega)]
        simp
      · by_cases h2 : r + 1 ≤ r' ∧ r' < r + 1 + n
        · rw [if_pos ⟨rfl, h2⟩, if_pos (by omega), Nat.div_div_eq_div_mul, ← Nat.pow_add]
          congr 3
          omega
        · rw [if_neg (by tauto), if_neg (by tauto), if_neg (by omega)]
    · rw [if_neg (by tauto), if_neg (by tauto), if_neg (by tauto)]

theorem Group.each_setV (g : Group) (l : List Nat) (r n : Nat) (val : Nat → Nat) (hl : ∀ t ∈ l, t < 64) (hn : l.Nodup) :
    ∃ w, l.foldl (fun g t => g.setV r t (val t) n) g = { g with v := w } ∧
      ∀ r' t', t' < 64 → Group.vreg { g with v := w } r' t' =
        if t' ∈ l ∧ r ≤ r' ∧ r' < r + n then val t' / 2 ^ (32 * (r' - r)) % 2 ^ 32 else g.vreg r' t' := by
  induction l generalizing g with
  | nil => exact ⟨g.v, rfl, fun r' t' _ => by simp⟩
  | cons a t ih =>
    obtain ⟨w0, h0⟩ := g.setV_eq r a (val a) n
    obtain ⟨w, h1, h2⟩ := ih (g.setV r a (val a) n) (fun x hx => hl x (by simp [hx])) (List.nodup_cons.1 hn).2
    refine ⟨w, by rw [List.foldl_cons, h1, h0], fun r' t' ht' => ?_⟩
    have h3 := h2 r' t' ht'
    rw [Group.vreg_setV _ _ _ _ _ _ _ (hl a (by simp)) ht'] at h3
    rw [h0] at h3
    refine Eq.trans h3 ?_
    by_cases ha : t' = a
    · subst ha
      simp [(List.nodup_cons.1 hn).1]
    · simp [ha]

theorem Group.setP_eq (g : Group) (r t : Nat) (v : Bool) : ∃ w, g.setP r t v = { g with p := w } := by
  unfold Group.setP
  split
  · exact ⟨g.p, rfl⟩
  · exact ⟨_, rfl⟩

theorem bit_clrBit (x i j : Nat) : bit (clrBit x i) j = (!decide (j = i) && bit x j) := by
  unfold clrBit
  split
  · rename_i h
    have e : x = setBit (x - 2 ^ i) i := by
      unfold setBit
      have h1 : 2 ^ i ≤ x := by
        by_contra hc
        rw [bit, Nat.div_eq_of_lt (by omega)] at h
        simp at h
      have h2 : ¬ bit (x - 2 ^ i) i = true := by
        have hd : (x - 2 ^ i + 2 ^ i) / 2 ^ i = (x - 2 ^ i) / 2 ^ i + 1 := Nat.add_div_right _ (Nat.two_pow_pos i)
        rw [Nat.sub_add_cancel h1] at hd
        simp only [bit, decide_eq_true_eq] at h ⊢
        omega
      rw [if_neg h2]
      omega
    have h2 : bit (x - 2 ^ i) i = false := by
      have h1 : 2 ^ i ≤ x := by
        by_contra hc
        rw [bit, Nat.div_eq_of_lt (by omega)] at h
        simp at h
      have hd : (x - 2 ^ i + 2 ^ i) / 2 ^ i = (x - 2 ^ i) / 2 ^ i + 1 := Nat.add_div_right _ (Nat.two_pow_pos i)
      rw [Nat.sub_add_cancel h1] at hd
      simp only [bit, decide_eq_true_eq] at h ⊢
      simp; omega
    have h3 := bit_setBit (x - 2 ^ i) i j
    rw [← e] at h3
    by_cases hj : j = i
    · subst hj; simp [h2]
    · rw [h3]; simp [hj]
  · rename_i h
    by_cases hj : j = i
    · subst hj; simp at h; simp [h]
    · simp [hj]

/-- Reading a predicate after one was written. -/
theorem Group.pred_setP (g : Group) (r t r' t' : Nat) (v : Bool) :
    (g.setP r t v).pred r' t' = if t' = t ∧ r' = r ∧ r ≠ 7 then v else g.pred r' t' := by
  unfold Group.setP
  by_cases h7 : r = 7
  · simp [h7]
  · rw [if_neg h7]
    unfold Group.pred
    dsimp only
    by_cases ht : t' = t
    · subst ht
      rw [SMap.getD_put_self]
      by_cases hr : r' = r
      · subst hr
        cases v <;> simp [bit_setBit, bit_clrBit, h7]
      · cases v <;> simp [bit_setBit, bit_clrBit, hr]
    · rw [SMap.getD_put_ne _ _ _ ht]
      simp [ht]

theorem Group.each_setP (g : Group) (l : List Nat) (r : Nat) (val : Nat → Bool) (hn : l.Nodup) :
    ∃ w, l.foldl (fun g t => g.setP r t (val t)) g = { g with p := w } ∧
      ∀ r' t', Group.pred { g with p := w } r' t' = if t' ∈ l ∧ r' = r ∧ r ≠ 7 then val t' else g.pred r' t' := by
  induction l generalizing g with
  | nil => exact ⟨g.p, rfl, fun r' t' => by simp⟩
  | cons a t ih =>
    obtain ⟨w0, h0⟩ := g.setP_eq r a (val a)
    obtain ⟨w, h1, h2⟩ := ih (g.setP r a (val a)) (List.nodup_cons.1 hn).2
    refine ⟨w, by rw [List.foldl_cons, h1, h0], fun r' t' => ?_⟩
    have h3 := h2 r' t'
    rw [Group.pred_setP] at h3
    rw [h0] at h3
    refine Eq.trans h3 ?_
    by_cases ha : t' = a
    · subst ha
      simp [(List.nodup_cons.1 hn).1]
    · simp [ha]

/-! The end of an issue. -/

theorem State.booked_rest (s1 : State) (is : Issue) (x : Form) (g : Group) (h : x.vec = false ∨ s1.accumCount < 4096) :
    (s1.booked is x g).mem = s1.mem ∧ (s1.booked is x g).l2 = s1.l2 ∧ (∀ c, c ≠ is.core → (s1.booked is x g).core c = s1.core c) ∧
      (∀ k, k ≠ is.slot → ((s1.booked is x g).core is.core).groups.get? k = (s1.core is.core).groups.get? k) := by
  unfold State.booked
  set k0 : Core → Core := fun k =>
    let k1 := k.noteGroup is.slot
    { k1 with retry := none, rcache := rcIssue k1.rcache is.slot x.srcs x.hints x.dsts
              groups := k1.groups.put is.slot (g.age (g.issueMask is.pc)) }
  have he : ∀ s : State, (s.countEcc is.core is.rfCorrected is.rcParity).mem = s.mem ∧ (s.countEcc is.core is.rfCorrected is.rcParity).l2 = s.l2 ∧
      (s.countEcc is.core is.rfCorrected is.rcParity).obs = s.obs ∧
      (∀ c, c ≠ is.core → (s.countEcc is.core is.rfCorrected is.rcParity).core c = s.core c) ∧
      ((s.countEcc is.core is.rfCorrected is.rcParity).core is.core).groups = (s.core is.core).groups := by
    intro s
    unfold State.countEcc
    dsimp only
    split
    · exact ⟨rfl, rfl, rfl, fun c hc => State.modCore_core_ne _ _ _ hc, by rw [State.modCore_core_self]⟩
    · refine ⟨by simp, by simp, by simp, fun c hc => ?_, ?_⟩
      · show State.core (State.addNum _ _ _ _ _) c = _
        unfold State.core
        rw [State.addNum_cores]
        exact State.modCore_core_ne _ _ _ hc
      · show (State.core (State.addNum _ _ _ _ _) _).groups = _
        unfold State.core
        rw [State.addNum_cores]
        show (State.core (State.modCore s is.core _) is.core).groups = _
        rw [State.modCore_core_self]
        rfl
  have hr : ∀ s : State, (s.resumeAtIssue g.queue).mem = s.mem ∧ (s.resumeAtIssue g.queue).l2 = s.l2 ∧ (s.resumeAtIssue g.queue).obs = s.obs ∧
      (s.resumeAtIssue g.queue).cores = s.cores := by
    intro s
    unfold State.resumeAtIssue
    split <;> exact ⟨rfl, rfl, rfl, rfl⟩
  set s2 := s1.countEcc is.core is.rfCorrected is.rcParity
  have h2 := he s1
  have h3 := hr (s2.modCore is.core k0)
  have h4 := ((s2.modCore is.core k0).resumeAtIssue g.queue).countIssue_frame is.core g x.vec (g.issueMask is.pc)
    (g.guardMask x.guard x.neg (g.issueMask is.pc)) (by
      unfold State.accumCount at *
      rw [h3.2.2.1, State.modCore_obs, h2.2.2.1]
      exact h)
  refine ⟨?_, ?_, fun c hc => ?_, fun k hk => ?_⟩
  · rw [h4.2.1, h3.1, State.modCore_mem, h2.1]
  · rw [h4.2.2, h3.2.1, State.modCore_l2, h2.2.1]
  · unfold State.core
    rw [h4.1, h3.2.2.2]
    exact (State.modCore_core_ne _ _ _ hc).trans (h2.2.2.2.1 c hc)
  · unfold State.core
    rw [h4.1, h3.2.2.2]
    have e : ((s2.modCore is.core k0).core is.core).groups.get? k = (s1.core is.core).groups.get? k := by
      rw [State.modCore_core_self, ← h2.2.2.2.2]
      have : ∀ y : Core, (y.noteGroup is.slot).groups = y.groups := by
        intro y
        unfold Core.noteGroup
        split
        · rfl
        · split <;> rfl
      show ((((s2.core is.core).noteGroup is.slot).groups).put is.slot _).get? k = _
      rw [SMap.get?_put_ne _ _ hk, this]
    exact e

/-- An issue that ends with a group whose books are those of the issue leaves the frame of every issue. -/
theorem issue_frame {s s1 : State} {is : Issue} {x : Form} {regs : List Nat} {g : Group} (_h : Issues s is x.word regs g s1) (g2 : Group)
    (hg : g2.pcs = g.pcs ∧ g2.live = g.live ∧ g2.gbar = g.gbar ∧ g2.waiting = g.waiting ∧ g2.stopped = g.stopped ∧ g2.faulted = g.faulted ∧
      g2.queue = g.queue) (b : State) (hb : b.cores = (s1.booked is x g).cores ∧ b.mem = (s1.booked is x g).mem ∧ b.l2 = (s1.booked is x g).l2) :
    IssueFrame s1 ((issOf is x g).done b g2) is g (g2.advance (g.issueMask is.pc)) := by
  obtain ⟨e1, e2, e3, e4, e5, e6, e7⟩ := hg
  refine ⟨?_, fun th hth => ?_, ⟨e2, e3, e4, e5, e6, e7⟩, fun k hk ha => ?_, fun ha => ⟨?_, ?_, fun c hc => ?_⟩⟩
  · unfold Iss.done Iss.put issOf
    rw [State.modCore_core_self]
    exact SMap.get?_put_self _ _ _
  · rw [Group.advance_pcs _ _ _ hth, e1]
    by_cases hm : bit (g.issueMask is.pc) th = true
    · rw [if_pos hm, if_pos hm, (g.mem_issueMask _ _ hm).2]
    · rw [if_neg hm, if_neg hm]
  · unfold Iss.done Iss.put issOf
    rw [State.modCore_core_self]
    rw [SMap.get?_put_ne _ _ hk]
    unfold State.core
    rw [hb.1]
    exact (s1.booked_rest is x g (.inr ha)).2.2.2 k hk
  · exact hb.2.1.trans (s1.booked_rest is x g (.inr ha)).1
  · exact hb.2.2.trans (s1.booked_rest is x g (.inr ha)).2.1
  · unfold Iss.done Iss.put issOf
    rw [State.modCore_core_ne _ _ _ hc]
    unfold State.core
    rw [hb.1]
    exact (s1.booked_rest is x g (.inr ha)).2.2.1 c hc

/-- Reading a scalar register after one was written. -/
theorem Group.sreg_setS (g : Group) (r v r' : Nat) : (g.setS r v).sreg r' = if r' = r then v % 2 ^ 64 else g.sreg r' := by
  unfold Group.setS Group.sreg
  by_cases h : r' = r
  · subst h; simp
  · rw [if_neg h, SMap.getD_put_ne _ _ _ h]

/-- Aging a group leaves its registers. -/
@[simp] theorem Group.vregs_age (g : Group) (m r t n : Nat) : (g.age m).vregs_ r t n = g.vregs_ r t n := by
  induction n generalizing r with
  | zero => rfl
  | succ n ih => rw [Group.vregs_, Group.vregs_, ih]; rfl

@[simp] theorem Group.srcA_age (g : Group) (m : Nat) (f : FmtA) (k size t : Nat) : (g.age m).srcA f k size t = g.srcA f k size t := by
  unfold Group.srcA
  rw [Group.vregs_age]
  rfl

@[simp] theorem Group.srcI_age (g : Group) (m : Nat) (f : FmtI) (t : Nat) : (g.age m).srcI f t = g.srcI f t := rfl

@[simp] theorem Group.pred_age (g : Group) (m r t : Nat) : (g.age m).pred r t = g.pred r t := rfl

/-! The three ways in which an instruction of format A or I ends. -/

theorem lead_acts {g : Group} {pc r : Nat} {neg : Bool} (hm : g.issueMask pc ≠ 0) :
    bit (g.guardMask r neg (g.issueMask pc)) (lowest (g.issueMask pc)) = true ↔ g.acting pc r neg (g.first pc) := by
  have hl := lowest_bit (exists_bit_of_ne_zero hm)
  rw [Group.bit_guardMask]
  simp [Group.acting, Group.first, hl.1]

/-- The end of a vector or scalar form (R129, R130). -/
theorem result_ends {s s1 : State} {is : Issue} {x : Form} {regs : List Nat} {g : Group} (h : Issues s is x.word regs g s1)
    (scalar : Bool) (dst size : Nat) (hs : size = 1 ∨ size = 2) (val : Nat → Nat) :
    ResultOf s1 ((issOf is x g).result (s1.booked is x g) scalar dst size val) is g x.guard x.neg scalar dst size val := by
  cases scalar with
  | false =>
    show VectorResult s1 _ is g x.guard x.neg dst size val
    unfold Iss.result
    rw [if_neg (by simp)]
    obtain ⟨w, h1, h2⟩ := Group.each_setV (g.age (g.issueMask is.pc)) (bitList 64 (g.guardMask x.guard x.neg (g.issueMask is.pc))) dst size val
      (fun t ht => ((mem_bitList _ _ _).1 ht).1) (bitList_nodup _ _)
    have e : (issOf is x g).g.eachThread (issOf is x g).act (fun g t => g.setV dst t (val t) size) =
      { g.age (g.issueMask is.pc) with v := w } := h1
    rw [e]
    refine ⟨_, issue_frame h { g.age (g.issueMask is.pc) with v := w } ⟨rfl, rfl, rfl, rfl, rfl, rfl, rfl⟩ _ ⟨rfl, rfl, rfl⟩, fun r th hth => ?_, fun r => rfl, fun r th => rfl⟩
    refine Eq.trans (h2 r th hth) ?_
    have : th ∈ bitList 64 (g.guardMask x.guard x.neg (g.issueMask is.pc)) ↔ g.acting is.pc x.guard x.neg th := by
      rw [mem_bitList, Group.bit_guardMask]
      simp [Group.acting, hth]
    simp only [this]
    rfl
  | true =>
    show ScalarResult s1 _ is g x.guard x.neg dst size val
    unfold Iss.result
    rw [if_pos rfl]
    have hl : (issOf is x g).once = true ↔ g.acting is.pc x.guard x.neg (g.first is.pc) := lead_acts h.threads
    by_cases ho : (issOf is x g).once = true
    · rw [if_pos ho]
      have ha := hl.1 ho
      unfold Iss.writeScalar
      rcases hs with rfl | rfl
      · rw [if_neg (by decide)]
        refine ⟨_, issue_frame h (Group.setS (g.age (g.issueMask is.pc)) dst _) ⟨rfl, rfl, rfl, rfl, rfl, rfl, rfl⟩ _ ⟨rfl, rfl, rfl⟩, fun _ => ?_, fun r hr => ?_, fun r th => rfl, fun r th => rfl⟩
        · show Group.sreg (Group.setS _ _ _) _ % _ = _
          rw [Group.sreg_setS, if_pos rfl]
          have : (issOf is x g).lead = g.first is.pc := rfl
          rw [this]
          generalize val (g.first is.pc) = y
          generalize ((s1.booked is x g).freeVal 32).1 = u
          omega
        · show Group.sreg (Group.setS _ _ _) _ = _
          rw [Group.sreg_setS, if_neg (fun hc => hr ⟨ha, hc⟩)]
          rfl
      · rw [if_pos rfl]
        refine ⟨_, issue_frame h (Group.setS (g.age (g.issueMask is.pc)) dst _) ⟨rfl, rfl, rfl, rfl, rfl, rfl, rfl⟩ _ ⟨rfl, rfl, rfl⟩, fun _ => ?_, fun r hr => ?_, fun r th => rfl, fun r th => rfl⟩
        · show Group.sreg (Group.setS _ _ _) _ % _ = _
          rw [Group.sreg_setS, if_pos rfl]
          have : (issOf is x g).lead = g.first is.pc := rfl
          rw [this]
          generalize val (g.first is.pc) = y
          omega
        · show Group.sreg (Group.setS _ _ _) _ = _
          rw [Group.sreg_setS, if_neg (fun hc => hr ⟨ha, hc⟩)]
          rfl
    · rw [if_neg ho]
      have hn := fun hc => ho (hl.2 hc)
      exact ⟨_, issue_frame h (g.age (g.issueMask is.pc)) ⟨rfl, rfl, rfl, rfl, rfl, rfl, rfl⟩ _ ⟨rfl, rfl, rfl⟩, fun hc => absurd hc hn, fun r _ => rfl, fun r th => rfl, fun r th => rfl⟩

/-- The end of a form that writes a predicate (R128, R129, R137). -/
theorem predicate_ends {s s1 : State} {is : Issue} {x : Form} {regs : List Nat} {g : Group} (h : Issues s is x.word regs g s1)
    (scalar : Bool) (dst : Nat) (val : Nat → Bool) :
    PredicateResult s1 ((issOf is x g).predicate (s1.booked is x g) scalar dst val) is g x.guard x.neg scalar dst val := by
  have mem : ∀ th, th < 64 → (th ∈ bitList 64 (g.guardMask x.guard x.neg (g.issueMask is.pc)) ↔ g.acting is.pc x.guard x.neg th) := by
    intro th hth
    rw [mem_bitList, Group.bit_guardMask]
    simp [Group.acting, hth]
  unfold Iss.predicate
  cases scalar with
  | false =>
    rw [if_neg (by simp)]
    obtain ⟨w, h1, h2⟩ := Group.each_setP (g.age (g.issueMask is.pc)) (bitList 64 (g.guardMask x.guard x.neg (g.issueMask is.pc))) dst val
      (bitList_nodup _ _)
    have e : (issOf is x g).g.eachThread (issOf is x g).act (fun g t => g.setP dst t (val t)) = { g.age (g.issueMask is.pc) with p := w } := h1
    rw [e]
    refine ⟨_, issue_frame h { g.age (g.issueMask is.pc) with p := w } ⟨rfl, rfl, rfl, rfl, rfl, rfl, rfl⟩ _ ⟨rfl, rfl, rfl⟩, fun r th hth => ?_, fun r th => rfl, fun r => rfl⟩
    refine Eq.trans (h2 r th) ?_
    have hm := mem th hth
    by_cases ha : g.acting is.pc x.guard x.neg th
    · have := hm.2 ha
      by_cases hr : r = dst ∧ dst ≠ 7
      · rw [if_pos ⟨this, hr⟩, if_pos ⟨hr.1, hr.2, by simpa using ha⟩]; rfl
      · rw [if_neg (by tauto), if_neg (by tauto)]; rfl
    · have hn := fun hc => ha (hm.1 hc)
      rw [if_neg (fun hc => hn hc.1), if_neg (fun hc => ha (by simpa using hc.2.2))]; rfl
  | true =>
    rw [if_pos rfl]
    have hl : (issOf is x g).once = true ↔ g.acting is.pc x.guard x.neg (g.first is.pc) := lead_acts h.threads
    by_cases ho : (issOf is x g).once = true
    · rw [if_pos ho]
      obtain ⟨w, h1, h2⟩ := Group.each_setP (g.age (g.issueMask is.pc)) (bitList 64 (g.issueMask is.pc)) dst (fun _ => val (g.first is.pc))
        (bitList_nodup _ _)
      have e : (issOf is x g).g.eachThread (issOf is x g).mask (fun y t => y.setP dst t (val (issOf is x g).lead)) =
        { g.age (g.issueMask is.pc) with p := w } := h1
      rw [e]
      refine ⟨_, issue_frame h { g.age (g.issueMask is.pc) with p := w } ⟨rfl, rfl, rfl, rfl, rfl, rfl, rfl⟩ _ ⟨rfl, rfl, rfl⟩, fun r th hth => ?_, fun r th => rfl, fun r => rfl⟩
      refine Eq.trans (h2 r th) ?_
      have ha := hl.1 ho
      have hm : th ∈ bitList 64 (g.issueMask is.pc) ↔ bit (g.issueMask is.pc) th = true := by rw [mem_bitList]; simp [hth]
      by_cases hc : bit (g.issueMask is.pc) th = true ∧ r = dst ∧ dst ≠ 7
      · rw [if_pos ⟨hm.2 hc.1, hc.2⟩, if_pos ⟨hc.2.1, hc.2.2, by simpa using ⟨hc.1, ha⟩⟩]; simp
      · rw [if_neg (fun hd => hc ⟨hm.1 hd.1, hd.2⟩), if_neg (fun hd => hc ⟨by have := hd.2.2; simp at this; exact this.1, hd.1, hd.2.1⟩)]; rfl
    · rw [if_neg ho]
      have hn := fun hc => ho (hl.2 hc)
      refine ⟨_, issue_frame h (g.age (g.issueMask is.pc)) ⟨rfl, rfl, rfl, rfl, rfl, rfl, rfl⟩ _ ⟨rfl, rfl, rfl⟩, fun r th hth => ?_, fun r th => rfl, fun r => rfl⟩
      rw [if_neg (fun hd => hn (by have := hd.2.2; simp only [if_true] at this; exact this.2))]
      rfl

/-- Two results with the same values in the threads that act are the same. -/
theorem typeRegs_cases (ty : Nat) : typeRegs ty = 1 ∨ typeRegs ty = 2 := by
  unfold typeRegs
  split <;> simp

/-- Every form with one value computes it wherever it issues with legal fields (R131, R134). -/
theorem State.valueA_ends {s s1 : State} {is : Issue} {f : FmtA} {g : Group} {op : Nat} {types : List Nat} {subs rnds : Nat} {sat : Bool} {scal : List Nat}
    {ins : List (Nat × Nat)} {val : Group → Nat → Nat}
    (h : Issues s is (f.word op) (ins.flatMap (fun e => f.srcRegs e.1 e.2) ++ f.dstRegs (typeRegs f.type)) g s1)
    (hv : val (g.age (g.issueMask is.pc)) = val g) :
    (FmtA_ok f g.vregs types subs rnds sat scal ins = true → f.dstOk g.vregs (typeRegs f.type) = true →
      ResultOf s1 (s.valueA is f op types subs rnds sat scal ins val) is g f.guard f.guardNeg f.S f.dst (typeRegs f.type)
        (val g)) ∧
    ((FmtA_ok f g.vregs types subs rnds sat scal ins && f.dstOk g.vregs (typeRegs f.type)) = false →
      s.valueA is f op types subs rnds sat scal ins val = s1.coreFault is.core is.slot (g.first is.pc) 0x04 is.pc 0) := by
  rw [← hv]
  unfold State.valueA State.issueA
  refine ⟨fun h1 h2 => ?_, fun h1 => ?_⟩
  · rw [State.issue_acts (x := { word := f.word op, guard := f.guard, neg := f.guardNeg, vec := !f.S
                                 legal := fun n => FmtA_ok f n types subs rnds sat scal ins && f.dstOk n (typeRegs f.type)
                                 srcs := ins.flatMap (fun e => f.srcRegs e.1 e.2), hints := f.hinted, dsts := f.dstRegs (typeRegs f.type) })
      _ h (fun r hr => hr) (by simp [h1, h2]) rfl]
    exact result_ends (x := { word := f.word op, guard := f.guard, neg := f.guardNeg, vec := !f.S
                              legal := fun n => FmtA_ok f n types subs rnds sat scal ins && f.dstOk n (typeRegs f.type)
                              srcs := ins.flatMap (fun e => f.srcRegs e.1 e.2), hints := f.hinted, dsts := f.dstRegs (typeRegs f.type) })
      h f.S f.dst _ (typeRegs_cases _) _
  · exact State.issue_illegal (x := { word := f.word op, guard := f.guard, neg := f.guardNeg, vec := !f.S
                                      legal := fun n => FmtA_ok f n types subs rnds sat scal ins && f.dstOk n (typeRegs f.type)
                                      srcs := ins.flatMap (fun e => f.srcRegs e.1 e.2), hints := f.hinted, dsts := f.dstRegs (typeRegs f.type) })
      _ h h1

/-- Every form that writes a predicate computes it wherever it issues with legal fields. -/
theorem State.predA_ends {s s1 : State} {is : Issue} {f : FmtA} {g : Group} {op : Nat} {types : List Nat} {subs : Nat} {scal : List Nat}
    {ins : List (Nat × Nat)} {val : Group → Nat → Bool}
    (h : Issues s is (f.word op) (ins.flatMap (fun e => f.srcRegs e.1 e.2)) g s1) (hv : val (g.age (g.issueMask is.pc)) = val g) :
    (FmtA_ok f g.vregs types subs 1 false scal ins = true → f.dst < 8 →
      PredicateResult s1 (s.predA is f op types subs scal ins val) is g f.guard f.guardNeg f.S f.dst (val g)) ∧
    ((FmtA_ok f g.vregs types subs 1 false scal ins && decide (f.dst < 8)) = false →
      s.predA is f op types subs scal ins val = s1.coreFault is.core is.slot (g.first is.pc) 0x04 is.pc 0) := by
  rw [← hv]
  unfold State.predA State.issueA
  refine ⟨fun h1 h2 => ?_, fun h1 => ?_⟩
  · rw [State.issue_acts (x := { word := f.word op, guard := f.guard, neg := f.guardNeg, vec := !f.S
                                 legal := fun n => FmtA_ok f n types subs 1 false scal ins && predOk f.dst
                                 srcs := ins.flatMap (fun e => f.srcRegs e.1 e.2), hints := f.hinted, dsts := [] })
      _ h (fun r hr => by simpa using hr) (by simp [h1, predOk, h2]) rfl]
    exact predicate_ends (x := { word := f.word op, guard := f.guard, neg := f.guardNeg, vec := !f.S
                                 legal := fun n => FmtA_ok f n types subs 1 false scal ins && predOk f.dst
                                 srcs := ins.flatMap (fun e => f.srcRegs e.1 e.2), hints := f.hinted, dsts := [] })
      h f.S f.dst _
  · exact State.issue_illegal (x := { word := f.word op, guard := f.guard, neg := f.guardNeg, vec := !f.S
                                      legal := fun n => FmtA_ok f n types subs 1 false scal ins && predOk f.dst
                                      srcs := ins.flatMap (fun e => f.srcRegs e.1 e.2), hints := f.hinted, dsts := [] })
      _ h h1

end Sys2Proof.Machine
end

