-- ==== Sys2Proof/Laws/Memory.lean ====
section
/-! SUPPORT. Laws/Memory.lean: device memory as a canonical list: reading after writing, and that every memory operation keeps the form. -/

namespace Sys2Proof.Machine

/-- The form in one predicate: the addresses rise strictly from a bound on, and no byte is zero. -/
def cellsFrom (lo : Nat) : List Host.Cell → Prop
  | [] => True
  | c :: t => lo ≤ c.1 ∧ c.2 ≠ 0#8 ∧ cellsFrom (c.1 + 1) t

theorem cellsFrom_mono {lo hi : Nat} {m : List Host.Cell} (h : cellsFrom hi m) (l : lo ≤ hi) : cellsFrom lo m := by
  cases m with
  | nil => trivial
  | cons c t => exact ⟨le_trans l h.1, h.2⟩

theorem wf_iff_cellsFrom (m : List Host.Cell) : Memory.wf m ↔ cellsFrom 0 m := by
  unfold Memory.wf
  induction m with
  | nil => simp [cellsWf, cellsFrom]
  | cons c t ih =>
    cases t with
    | nil => simp [cellsWf, cellsFrom]
    | cons d u =>
      simp only [cellsWf, Bool.and_eq_true, decide_eq_true_eq, cellsFrom, ih]
      constructor
      · rintro ⟨⟨h1, h2⟩, -, h4, h5⟩; exact ⟨by omega, h2, by omega, h4, h5⟩
      · rintro ⟨-, h2, h3, h4, h5⟩; exact ⟨⟨by omega, h2⟩, by omega, h4, h5⟩

theorem cellGet_below {lo a : Nat} {m : List Host.Cell} (h : cellsFrom lo m) (l : a < lo) : cellGet m a = 0#8 := by
  induction m generalizing lo with
  | nil => rfl
  | cons c t ih =>
    obtain ⟨b, w⟩ := c
    obtain ⟨h1, -, h3⟩ := h
    simp only at h1 h3
    have : b ≠ a := by omega
    simp only [cellGet, this, if_false]
    exact ih h3 (by omega)

theorem cellPut_from {lo a : Nat} {m : List Host.Cell} (v : Byte) (h : cellsFrom lo m) (l : lo ≤ a) : cellsFrom lo (cellPut m a v) := by
  induction m generalizing lo with
  | nil => unfold cellPut; split <;> simp_all [cellsFrom]
  | cons c t ih =>
    obtain ⟨b, w⟩ := c
    obtain ⟨h1, h2, h3⟩ := h
    simp only at h1 h2 h3
    unfold cellPut
    split
    · split
      · exact ⟨h1, h2, h3⟩
      · rename_i hv; exact ⟨l, hv, by omega, h2, h3⟩
    · split
      · rename_i hab; subst hab
        split
        · exact cellsFrom_mono h3 (by omega)
        · rename_i hv; exact ⟨h1, hv, h3⟩
      · exact ⟨h1, h2, ih h3 (by omega)⟩

/-- Writing one byte keeps the canonical form. -/
theorem cellPut_wf {m : List Host.Cell} (a : Nat) (v : Byte) (h : Memory.wf m) : Memory.wf (cellPut m a v) := by
  rw [wf_iff_cellsFrom] at *; exact cellPut_from v h (Nat.zero_le _)

/-- Writing bytes keeps the canonical form. -/
theorem cellWrite_wf {m : List Host.Cell} (a : Nat) (data : List Byte) (h : Memory.wf m) : Memory.wf (cellWrite m a data) := by
  induction data generalizing m a with
  | nil => exact h
  | cons b t ih => exact ih _ (cellPut_wf a b h)

theorem filter_from {lo : Nat} {m : List Host.Cell} (p : Host.Cell → Bool) (h : cellsFrom lo m) : cellsFrom lo (m.filter p) := by
  induction m generalizing lo with
  | nil => trivial
  | cons c t ih =>
    obtain ⟨h1, h2, h3⟩ := h
    simp only [List.filter]
    split
    · exact ⟨h1, h2, ih h3⟩
    · exact cellsFrom_mono (ih h3) (by omega)

/-- Zeroing a range keeps the canonical form. -/
theorem cellZero_wf {m : List Host.Cell} (a n : Nat) (h : Memory.wf m) : Memory.wf (cellZero m a n) := by
  rw [wf_iff_cellsFrom] at *; exact filter_from _ h

theorem cellGet_cellPut_from {lo a : Nat} {m : List Host.Cell} (v : Byte) (h : cellsFrom lo m) :
    cellGet (cellPut m a v) a = v := by
  induction m generalizing lo with
  | nil => unfold cellPut; split <;> simp_all [cellGet]
  | cons c t ih =>
    obtain ⟨b, w⟩ := c
    obtain ⟨h1, h2, h3⟩ := h
    simp only at h1 h2 h3
    unfold cellPut
    split
    · split
      · rename_i hab hv
        have : b ≠ a := by omega
        simp only [cellGet, this, if_false, hv]
        exact cellGet_below h3 (by omega)
      · simp [cellGet]
    · split
      · rename_i hab; subst hab
        split
        · rename_i hv; subst hv; exact cellGet_below h3 (by omega)
        · simp [cellGet]
      · rename_i hne
        have : b ≠ a := fun e => hne e.symm
        simp only [cellGet, this, if_false]
        exact ih h3

/-- A byte reads back as it was written. -/
theorem cellGet_cellPut_self {m : List Host.Cell} (a : Nat) (v : Byte) (h : Memory.wf m) : cellGet (cellPut m a v) a = v :=
  cellGet_cellPut_from v ((wf_iff_cellsFrom m).1 h)

/-- A write leaves every other byte alone. -/
theorem cellGet_cellPut_ne (m : List Host.Cell) {a b : Nat} (v : Byte) (h : b ≠ a) : cellGet (cellPut m a v) b = cellGet m b := by
  induction m with
  | nil => unfold cellPut; split <;> simp [cellGet]; intro e; exact absurd e.symm h
  | cons c t ih =>
    obtain ⟨k, w⟩ := c
    unfold cellPut
    split
    · split
      · rfl
      · have : a ≠ b := fun e => h e.symm
        simp [cellGet, this]
    · split
      · rename_i hak; subst hak
        have : a ≠ b := fun e => h e.symm
        split <;> simp [cellGet, this]
      · simp [cellGet, ih]

/-- Memory right after reset lists nothing. -/
theorem reset_mem_wf : Memory.wf State.reset.mem := rfl

end Sys2Proof.Machine
end

