-- ==== Sys2Proof/WellFormed.lean ====
section
/-! DEFINITION. WellFormed.lean: which commands are well formed: every operand lies in the range of what it names
(Table 0.3) and every field in its width (Tables 6.2 to 6.8, 7.5, 14.2, 18.2 and 19.11). -/

namespace Sys2Proof

/-- The interfaces are 0 to 3 (Table 18.8) and a mailbox names one of 256 functions. -/
def Origin.wf (x : Origin) : Bool := decide (x.iface < 4) && decide (x.fn < 256)

/-- Cores 0 to 383, group slots 0 to 63, word addresses of 57 bits, lane halves 0 and 1. -/
def Issue.wf (x : Issue) : Bool :=
  decide (x.core < 384) && decide (x.slot < 64) && decide (x.pc < 2 ^ 57) && decide (x.pc % 8 = 0) &&
    (match x.residue with
     | none => true
     | some h => decide (h < 2))

/-- A check of a line covers its eight granules of 16 bytes. -/
def L2Check.wf (x : L2Check) : Bool := decide (x.corrected ≤ 8) && decide (x.bad < 2 ^ 8)

/-- Field widths of format A. -/
def FmtA.wf (x : FmtA) : Bool :=
  decide (x.guard < 2 ^ 3) && decide (x.dst < 2 ^ 8) && decide (x.a < 2 ^ 8) && decide (x.b < 2 ^ 8) && decide (x.c < 2 ^ 8) && decide (x.reuse < 2 ^ 3) && decide (x.scal < 2 ^ 3) && decide (x.type < 2 ^ 5) && decide (x.rnd < 2 ^ 2) && decide (x.sub < 2 ^ 5)

/-- Field widths of format I. -/
def FmtI.wf (x : FmtI) : Bool :=
  decide (x.guard < 2 ^ 3) && decide (x.dst < 2 ^ 8) && decide (x.a < 2 ^ 8) && decide (x.imm < 2 ^ 32)

/-- Field widths of format M. -/
def FmtM.wf (x : FmtM) : Bool :=
  decide (x.guard < 2 ^ 3) && decide (x.data < 2 ^ 8) && decide (x.base < 2 ^ 8) && decide (x.scope < 2 ^ 3) && decide (x.size < 2 ^ 3) && decide (x.hint < 2 ^ 2) && decide (x.offset < 2 ^ 24)

/-- Field widths of format X. -/
def FmtX.wf (x : FmtX) : Bool :=
  decide (x.guard < 2 ^ 3) && decide (x.dst < 2 ^ 8) && decide (x.base < 2 ^ 8) && decide (x.operand < 2 ^ 8) && decide (x.compare < 2 ^ 8) && decide (x.scope < 2 ^ 3) && decide (x.zero < 2 ^ 8)

/-- Field widths of format Y. -/
def FmtY.wf (x : FmtY) : Bool :=
  decide (x.guard < 2 ^ 3) && decide (x.dst < 2 ^ 8) && decide (x.handle < 2 ^ 8) && decide (x.value < 2 ^ 8) && decide (x.scope < 2 ^ 3) && decide (x.zero < 2 ^ 21)

/-- Field widths of format B. -/
def FmtB.wf (x : FmtB) : Bool :=
  decide (x.guard < 2 ^ 3) && decide (x.link < 2 ^ 8) && decide (x.target < 2 ^ 8) && decide (x.zero < 2 ^ 4) && decide (x.offset < 2 ^ 32)

/-- Field widths of format O. -/
def FmtO.wf (x : FmtO) : Bool :=
  decide (x.guard < 2 ^ 3) && decide (x.scope < 2 ^ 3) && decide (x.zero < 2 ^ 47)

/-- Field widths of format Mx. -/
def FmtMx.wf (x : FmtMx) : Bool :=
  decide (x.guard < 2 ^ 3) && decide (x.sa < 2 ^ 8) && decide (x.sb < 2 ^ 8) && decide (x.sc < 2 ^ 8) && decide (x.zero < 2 ^ 8) && decide (x.ctl < 2 ^ 20)

/-- Field widths of a packet (Table 14.2). -/
def Packet.wf (x : Packet) : Bool :=
  decide (x.type < 2 ^ 8) && decide (x.src < 2 ^ 16) && decide (x.dst < 2 ^ 16) && decide (x.seq < 2 ^ 32) &&
    decide (x.key < 2 ^ 16) && decide (x.srcFn < 2 ^ 8) && decide (x.op < 2 ^ 8) && decide (x.addr < 2 ^ 64)

/-- Field widths of a frame (Table 18.2). -/
def Frame.wf (x : Frame) : Bool :=
  decide (x.version < 2 ^ 8) && decide (x.opcode < 2 ^ 8) && decide (x.tag < 2 ^ 8) && decide (x.index < 2 ^ 16) &&
    decide (x.sub < 2 ^ 8) && decide (x.flags < 2 ^ 8) && decide (x.target < 2 ^ 16) && decide (x.length < 2 ^ 16) &&
    decide (x.offset < 2 ^ 32)

/-- Field widths of a trace record (Table 19.11). -/
def TrcRec.wf (x : TrcRec) : Bool :=
  decide (x.time < 2 ^ 64) && decide (x.kind < 2 ^ 8) && decide (x.flags < 2 ^ 8)

/-- A command is well formed. -/
def Instr.wf (i : Instr) : Bool :=
  match i with
  | .registerWrite fn off size val => decide (fn < 256) && decide (off < 2 ^ 64) && (decide (size = 1) || decide (size = 2) || decide (size = 4) || decide (size = 8)) && decide (val < 2 ^ 64)
  | .errLogRead64 _ => true
  | .errLogReadLow _ => true
  | .errLogReadHigh _ => true
  | .errLogRecordArrive _ rec => decide (rec < 2 ^ 64)
  | .auxSupplyValid _ _ => true
  | .auxSupplyLoss => true
  | .mainSupplyValid => true
  | .mainSupplyLoss => true
  | .railsInRegulation => true
  | .selfTestComplete _ => true
  | .memoryZeroingComplete => true
  | .deviceReady => true
  | .perstAssert _ _ => true
  | .perstDeassert _ _ => true
  | .configRequestRrs => true
  | .trialReadyTimeout _ => true
  | .mgtWatchdogRestart => true
  | .deviceReset who value _ _ => who.wf && decide (value < 2 ^ 64)
  | .tiedReset who value _ => who.wf && decide (value < 2 ^ 64)
  | .opPointRequest who value => who.wf && decide (value < 2 ^ 64)
  | .opPointRampComplete => true
  | .gtbResyncPulse => true
  | .rateLiveUpdate _ rate => decide (rate < 65536)
  | .descriptorUpdate _ _ _ => true
  | .timeMasterElection _ => true
  | .fabricTimeSend link => decide (link < 32)
  | .fabricTime link chip _ _ _ => decide (link < 32) && decide (chip < 65536)
  | .gtbHoldoverEnter => true
  | .holdoverLockExpire => true
  | .ptpMessageReceive port _ _ => decide (port < 2)
  | .ptpReferenceLoss => true
  | .baseDieRead pa _ => decide (pa < 2 ^ 57)
  | .baseDieWrite pa _ _ _ => decide (pa < 2 ^ 57)
  | .poisonReread pa _ => decide (pa < 2 ^ 57)
  | .d2dTransferReceive pa _ _ _ => decide (pa < 2 ^ 57)
  | .patrolScrubRead _ => true
  | .demandScrubWriteback pa => decide (pa < 2 ^ 57)
  | .rowSpare channel row => decide (channel < 640) && decide (row < 2097152)
  | .rowSpareComplete channel row => decide (channel < 640) && decide (row < 2097152)
  | .dieRetireStart stack pos => decide (stack < 20) && decide (pos < 20)
  | .dieRetireComplete stack => decide (stack < 20)
  | .pinGroupRetire channel pos => decide (channel < 640) && decide (pos < 20)
  | .baseDieStallTimeout stack => decide (stack < 20)
  | .rowModeWrite who row value => who.wf && decide (row < 48) && decide (value < 2 ^ 64)
  | .rowZeroComplete row => decide (row < 48)
  | .newtDescriptorFetch node => decide (node < 2 ^ 64)
  | .newtShareDeliver newt fn => decide (newt < 640) && decide (fn < 256)
  | .newtShareStart newt => decide (newt < 640)
  | .attnPart newt desc => decide (newt < 640) && decide (desc < 2 ^ 64)
  | .kvAppend newt desc => decide (newt < 640) && decide (desc < 2 ^ 64)
  | .gatherReduce newt desc => decide (newt < 640) && decide (desc < 2 ^ 64)
  | .scatter newt desc => decide (newt < 640) && decide (desc < 2 ^ 64)
  | .newtCopy newt desc => decide (newt < 640) && decide (desc < 2 ^ 64)
  | .fill newt desc => decide (newt < 640) && decide (desc < 2 ^ 64)
  | .reduce newt desc => decide (newt < 640) && decide (desc < 2 ^ 64)
  | .quant newt desc => decide (newt < 640) && decide (desc < 2 ^ 64)
  | .dequant newt desc => decide (newt < 640) && decide (desc < 2 ^ 64)
  | .newtAtom newt desc => decide (newt < 640) && decide (desc < 2 ^ 64)
  | .checksum newt desc => decide (newt < 640) && decide (desc < 2 ^ 64)
  | .remoteCopy newt desc => decide (newt < 640) && decide (desc < 2 ^ 64)
  | .newtShareComplete newt desc => decide (newt < 640) && decide (desc < 2 ^ 64)
  | .newtDescriptorComplete desc => decide (desc < 2 ^ 64)
  | .newtShareFault newt desc _ => decide (newt < 640) && decide (desc < 2 ^ 64)
  | .newtFail newt => decide (newt < 640)
  | .newtStallTimeout newt => decide (newt < 640)
  | .newtIdleGate newt => decide (newt < 640)
  | .farAtomic atom => decide (atom < 2 ^ 64)
  | .pageWalk fn va _ => decide (fn < 256) && decide (va < 2 ^ 64)
  | .nop is f => is.wf && f.wf
  | .bra is f => is.wf && f.wf
  | .brx is f => is.wf && f.wf
  | .call is f => is.wf && f.wf
  | .exit is f => is.wf && f.wf
  | .yield is f => is.wf && f.wf
  | .gbar is f => is.wf && f.wf
  | .gbarWatchdogExpire core slot => decide (core < 384) && decide (slot < 64)
  | .fadd is f => is.wf && f.wf
  | .fmul is f => is.wf && f.wf
  | .ffma is f => is.wf && f.wf
  | .fmin is f => is.wf && f.wf
  | .fmax is f => is.wf && f.wf
  | .fsetp is f => is.wf && f.wf
  | .rcp is f => is.wf && f.wf
  | .rsq is f => is.wf && f.wf
  | .sqrt is f => is.wf && f.wf
  | .exp2 is f => is.wf && f.wf
  | .log2 is f => is.wf && f.wf
  | .sin is f => is.wf && f.wf
  | .cos is f => is.wf && f.wf
  | .iadd is f => is.wf && f.wf
  | .isub is f => is.wf && f.wf
  | .imul is f => is.wf && f.wf
  | .imad is f => is.wf && f.wf
  | .imulhi is f => is.wf && f.wf
  | .imin is f => is.wf && f.wf
  | .imax is f => is.wf && f.wf
  | .isetp is f => is.wf && f.wf
  | .and is f => is.wf && f.wf
  | .or is f => is.wf && f.wf
  | .xor is f => is.wf && f.wf
  | .shl is f => is.wf && f.wf
  | .shr is f => is.wf && f.wf
  | .bfe is f => is.wf && f.wf
  | .bfi is f => is.wf && f.wf
  | .popc is f => is.wf && f.wf
  | .clz is f => is.wf && f.wf
  | .brev is f => is.wf && f.wf
  | .idp4 is f => is.wf && f.wf
  | .sel is f => is.wf && f.wf
  | .plop is f => is.wf && f.wf
  | .movi is f => is.wf && f.wf
  | .iaddI is f => is.wf && f.wf
  | .andI is f => is.wf && f.wf
  | .orI is f => is.wf && f.wf
  | .xorI is f => is.wf && f.wf
  | .shlI is f => is.wf && f.wf
  | .shrI is f => is.wf && f.wf
  | .faddI is f => is.wf && f.wf
  | .fmulI is f => is.wf && f.wf
  | .isetpI is f => is.wf && f.wf
  | .mov is f => is.wf && f.wf
  | .srd is f => is.wf && f.wf
  | .v2s is f => is.wf && f.wf
  | .cvt is f => is.wf && f.wf
  | .cvtMx is f => is.wf && f.wf
  | .shfl is f => is.wf && f.wf
  | .vote is f => is.wf && f.wf
  | .ld is f => is.wf && f.wf
  | .st is f => is.wf && f.wf
  | .ldAcq is f => is.wf && f.wf
  | .stRel is f => is.wf && f.wf
  | .pref is f => is.wf && f.wf
  | .sclZero is f => is.wf && f.wf
  | .sclInv is f => is.wf && f.wf
  | .atomAdd is f => is.wf && f.wf
  | .atomFadd is f => is.wf && f.wf
  | .atomMin is f => is.wf && f.wf
  | .atomMax is f => is.wf && f.wf
  | .atomUmin is f => is.wf && f.wf
  | .atomUmax is f => is.wf && f.wf
  | .atomFmin is f => is.wf && f.wf
  | .atomFmax is f => is.wf && f.wf
  | .atomAnd is f => is.wf && f.wf
  | .atomOr is f => is.wf && f.wf
  | .atomXor is f => is.wf && f.wf
  | .atomExch is f => is.wf && f.wf
  | .atomCas is f => is.wf && f.wf
  | .barLd is f => is.wf && f.wf
  | .barSt is f => is.wf && f.wf
  | .barFull is f => is.wf && f.wf
  | .barrierComplete bar => decide (bar < 2 ^ 64)
  | .syncSignal is f => is.wf && f.wf
  | .syncWaitGe is f => is.wf && f.wf
  | .syncWaitEq is f => is.wf && f.wf
  | .syncPost is f => is.wf && f.wf
  | .syncWaitDec is f => is.wf && f.wf
  | .syncBarArrive is f => is.wf && f.wf
  | .syncBarWait is f => is.wf && f.wf
  | .mxCfg is f => is.wf && f.wf
  | .mxLdw is f => is.wf && f.wf
  | .mxSwap is f => is.wf && f.wf
  | .mxStream is f => is.wf && f.wf
  | .mxRd is f => is.wf && f.wf
  | .mxClr is f => is.wf && f.wf
  | .mxInstrStart core index => decide (core < 384) && decide (index < 2 ^ 64)
  | .mxInstrComplete core index => decide (core < 384) && decide (index < 2 ^ 64)
  | .mxLimiterWindow core _ _ => decide (core < 384)
  | .coreLaneNarrowing core half => decide (core < 384) && decide (half < 2)
  | .coreNarrowingComplete core => decide (core < 384)
  | .contextKill queue code => decide (queue < 4096) && decide (code < 256)
  | .coreGroupsStop queue => decide (queue < 4096)
  | .coreKillSettled queue => decide (queue < 4096)
  | .skipWalk queue => decide (queue < 4096)
  | .corePreemptRequest core _ => decide (core < 384)
  | .groupSave core slot => decide (core < 384) && decide (slot < 64)
  | .blockSaveComplete core _ => decide (core < 384)
  | .blockRestore queue core => decide (queue < 4096) && decide (core < 384)
  | .loadResponse load _ => decide (load < 2 ^ 64)
  | .storeBufferDrain core seq => decide (core < 384) && decide (seq < 2 ^ 64)
  | .homeRead load line chk => decide (load < 2 ^ 64) && decide (line < 2 ^ 57) && chk.wf
  | .homeStore core seq chk => decide (core < 384) && decide (seq < 2 ^ 64) && chk.wf
  | .homeAtomic atom chk => decide (atom < 2 ^ 64) && chk.wf
  | .nonAllocatingWrite fn pa _ => decide (fn < 256) && decide (pa < 2 ^ 57)
  | .newtReadWriteback line chk => decide (line < 2 ^ 57) && decide (chk < 3)
  | .replicaDropNotice plain line => decide (plain < 16) && decide (line < 2 ^ 57)
  | .nackRetry index chk => decide (index < 2 ^ 64) && chk.wf
  | .tiedRequestServe slice => decide (slice < 64)
  | .dirUncorrectable line _ => decide (line < 2 ^ 57)
  | .wayRetire slice way => decide (slice < 64) && decide (way < 16)
  | .wayRetireComplete slice way => decide (slice < 64) && decide (way < 16)
  | .cohTransactionTimeout line => decide (line < 2 ^ 57)
  | .directoryStallTimeout slice => decide (slice < 64)
  | .coherentDomainLoss _ _ => true
  | .chipStallFail _ => true
  | .plainGate plain => decide (plain < 16)
  | .plainWake plain => decide (plain < 16)
  | .bucketReturn partition _ => decide (partition < 64)
  | .sclAutoEnable core => decide (core < 384)
  | .sclCtrlInvalidate core => decide (core < 384)
  | .sclCtrlEnable core _ => decide (core < 384)
  | .scratchKibWrite who partition value => who.wf && decide (partition < 64) && decide (value < 2 ^ 64)
  | .scratchChangeApply core => decide (core < 384)
  | .hostWriteBar2 fn off _ _ => decide (fn < 256) && decide (off < 2 ^ 64)
  | .hostReadBar2 fn off len chk => decide (fn < 256) && decide (off < 2 ^ 64) && decide (len < 2 ^ 32) && chk.wf
  | .hostAtomicop fn off _ _ _ _ chk => decide (fn < 256) && decide (off < 2 ^ 64) && chk.wf
  | .doorbellWrite fn queue value => decide (fn < 256) && decide (queue < 4096) && decide (value < 2 ^ 64)
  | .queueEnable who queue => who.wf && decide (queue < 4096)
  | .queueDisable who queue => who.wf && decide (queue < 4096)
  | .queuePreempt queue => decide (queue < 4096)
  | .queueResume queue => decide (queue < 4096)
  | .queueKill queue => decide (queue < 4096)
  | .queueReset queue => decide (queue < 4096)
  | .queuePreempted queue => decide (queue < 4096)
  | .timeSliceEnd partition => decide (partition < 64)
  | .queueTimeout queue => decide (queue < 4096)
  | .nodeFetch queue _ => decide (queue < 4096)
  | .nodeNop node => decide (node < 2 ^ 64)
  | .nodeLaunch node => decide (node < 2 ^ 64)
  | .blockPlace node core => decide (node < 2 ^ 64) && decide (core < 384)
  | .nodeCopy node => decide (node < 2 ^ 64)
  | .dmaPieceStart node engine => decide (node < 2 ^ 64) && decide (engine < 32)
  | .dmaPieceComplete engine => decide (engine < 32)
  | .dmaFlushReadComplete node => decide (node < 2 ^ 64)
  | .nodeWait node => decide (node < 2 ^ 64)
  | .nodeSignal node => decide (node < 2 ^ 64)
  | .nodeCollect node => decide (node < 2 ^ 64)
  | .nodeCall node => decide (node < 2 ^ 64)
  | .nodePlan node => decide (node < 2 ^ 64)
  | .nodeMark node => decide (node < 2 ^ 64)
  | .nodeComplete node => decide (node < 2 ^ 64)
  | .planExit ctx => decide (ctx < 64)
  | .planLaunch ctx => decide (ctx < 64)
  | .planWaitGraph ctx => decide (ctx < 64)
  | .planSync ctx => decide (ctx < 64)
  | .planYield ctx => decide (ctx < 64)
  | .planFault ctx => decide (ctx < 64)
  | .syncObjectApply index => decide (index < 2 ^ 64)
  | .syncWaitRegister index => decide (index < 2 ^ 64)
  | .syncRegisterRetry index => decide (index < 2 ^ 64)
  | .waiterRelease index => decide (index < 2 ^ 64)
  | .syncWaitCancel core slot => decide (core < 384) && decide (slot < 64)
  | .synCreate fn _ => decide (fn < 256)
  | .synDestroy fn _ => decide (fn < 256)
  | .synOperate fn _ => decide (fn < 256)
  | .synSetError fn _ => decide (fn < 256)
  | .synResetObj fn _ => decide (fn < 256)
  | .synRead fn _ => decide (fn < 256)
  | .synMirror fn _ => decide (fn < 256)
  | .synNotify fn _ => decide (fn < 256)
  | .syncRangeWrite who partition value => who.wf && decide (partition < 64) && decide (value < 2 ^ 64)
  | .msixSend fn vector => decide (fn < 256) && decide (vector < 64)
  | .msixModerationExpire fn vector => decide (fn < 256) && decide (vector < 64)
  | .msixUnmask fn vector => decide (fn < 256) && decide (vector < 64)
  | .busMasterEnableSet fn _ _ => decide (fn < 256)
  | .flr who fn => who.wf && decide (fn < 256)
  | .flrComplete fn => decide (fn < 256)
  | .fnDisable who fn => who.wf && decide (fn < 256)
  | .drainWindowExpire queue => decide (queue < 4096)
  | .disablePoint fn => decide (fn < 256)
  | .disableComplete fn => decide (fn < 256)
  | .fnEnable who fn => who.wf && decide (fn < 256)
  | .partitionReset who partition => who.wf && decide (partition < 64)
  | .partitionQmaskWrite who partition value => who.wf && decide (partition < 64) && decide (value < 2 ^ 64)
  | .slabGrant who slab partition => who.wf && decide (slab < 960) && decide (partition < 64)
  | .slabRelease who slab => who.wf && decide (slab < 960)
  | .slabZeroComplete slab => decide (slab < 960)
  | .fnPartitionWrite who fn partition => who.wf && decide (fn < 256) && decide (partition < 64)
  | .vfEnableWrite _ _ => true
  | .d3hotEntry fn => decide (fn < 256)
  | .bar2Resize _ _ => true
  | .translationInvalidate fn _ => decide (fn < 256)
  | .translationInvalidateAll fn _ => decide (fn < 256)
  | .invalidateComplete fn => decide (fn < 256)
  | .atsInvalidateRequest fn _ _ => decide (fn < 256)
  | .atsTranslationCompletion fn _ _ _ _ => decide (fn < 256)
  | .pcieLinkDown => true
  | .pcieLinkUp => true
  | .doeDiscovery index => decide (index < 2 ^ 64)
  | .spdmGetCertificate slot off len => decide (slot < 8) && decide (off < 2 ^ 64) && decide (len < 2 ^ 32)
  | .spdmChallenge slot _ => decide (slot < 64)
  | .spdmGetMeasurements index _ => decide (index < 2 ^ 64)
  | .spdmSetCertificate slot _ => decide (slot < 8)
  | .linkTrainingAttempt link => decide (link < 32)
  | .linkTrainingComplete link _ _ _ _ => decide (link < 32)
  | .laneDrop link => decide (link < 32)
  | .linkRetrainComplete link => decide (link < 32)
  | .linkDown link => decide (link < 32)
  | .flitReceive link seq _ _ => decide (link < 32) && decide (seq < 2 ^ 64)
  | .fabricRead pkt len => pkt.wf && decide (len < 2 ^ 32)
  | .fabricWrite pkt => pkt.wf
  | .fabricAtomic pkt => pkt.wf
  | .fabricSyncOp pkt => pkt.wf
  | .cohReq pkt len => pkt.wf && decide (len < 2 ^ 32)
  | .collectData pkt _ _ => pkt.wf
  | .readData pkt => pkt.wf
  | .fabricAck pkt => pkt.wf
  | .atomicResp pkt => pkt.wf
  | .syncResp pkt => pkt.wf
  | .syncRelease pkt => pkt.wf
  | .cohMsg pkt => pkt.wf
  | .collectResult pkt _ => pkt.wf
  | .collectAbort pkt _ => pkt.wf
  | .linkState pkt _ _ _ _ => pkt.wf
  | .packetCrcFail pkt len => pkt.wf && decide (len < 2 ^ 32)
  | .requestResend req link => decide (req < 2 ^ 64) && decide (link < 32)
  | .passOccupancyAdvert pkt _ _ => pkt.wf
  | .chipUnreachable chip => decide (chip < 65536)
  | .chipReachableAgain chip => decide (chip < 65536)
  | .laserLightLoss laser => decide (laser < 4)
  | .cmisAlarmPoll laser _ => decide (laser < 4)
  | .laneGroupSwitchover engine group => decide (engine < 8) && decide (group < 2)
  | .plannedMove => true
  | .laserService who laser => who.wf && decide (laser < 4)
  | .laserInsert laser _ _ _ _ => decide (laser < 4)
  | .laserCalibrationComplete laser _ _ => decide (laser < 4)
  | .laserRecalibrate who laser => who.wf && decide (laser < 4)
  | .laserTelemetryPoll laser _ => decide (laser < 4)
  | .laserLifeHour laser _ => decide (laser < 4)
  | .oeFail engine => decide (engine < 8)
  | .svcQpDoorbell fn qp value => decide (fn < 256) && decide (qp < 64) && decide (value < 2 ^ 64)
  | .svcQpStateWrite who fn qp _ => who.wf && decide (fn < 256) && decide (qp < 64)
  | .rdmaWrite fn qp => decide (fn < 256) && decide (qp < 64)
  | .rdmaRead fn qp => decide (fn < 256) && decide (qp < 64)
  | .rdmaWorkComplete fn qp _ => decide (fn < 256) && decide (qp < 64)
  | .rdmaWorkFail fn qp _ => decide (fn < 256) && decide (qp < 64)
  | .rdmaAckTimeout fn qp => decide (fn < 256) && decide (qp < 64)
  | .roceRemoteRequest fn qp _ _ _ len _ => decide (fn < 256) && decide (qp < 64) && decide (len < 2 ^ 32)
  | .roceCnpReceive fn qp => decide (fn < 256) && decide (qp < 64)
  | .neighbourRequest port _ => decide (port < 2)
  | .pfcFrameReceive port _ _ => decide (port < 2)
  | .pfcXoffSend port priority _ => decide (port < 2) && decide (priority < 8)
  | .pfcWatchdogExpire port priority => decide (port < 2) && decide (priority < 8)
  | .svcLinkDown port => decide (port < 2)
  | .svcLinkUp port => decide (port < 2)
  | .powerCapEvaluation _ _ _ => true
  | .overcurrentAlarm => true
  | .droopDetect domain => decide (domain < 19)
  | .droopRecover domain => decide (domain < 19)
  | .thermalEvaluation _ => true
  | .thermalTrip _ _ => true
  | .energyAttribution rails => decide (rails.length = 5)
  | .slicePacing _ => true
  | .pwrJobRelease who _ => who.wf
  | .kamufRead who frame => who.wf && frame.wf
  | .kamufWrite who frame => who.wf && frame.wf
  | .kamufDescribe who frame => who.wf && frame.wf
  | .kamufNext who frame => who.wf && frame.wf
  | .segmentAssemblyTimeout index => decide (index < 2 ^ 64)
  | .mailboxGo fn value => decide (fn < 256) && decide (value < 2 ^ 64)
  | .mailboxResponse fn => decide (fn < 256)
  | .setEndpointId _ => true
  | .getEndpointId => true
  | .getMctpVersionSupport _ => true
  | .getMessageTypeSupport => true
  | .getVendorDefinedMessageSupport _ => true
  | .logRecordAppend _ _ _ => true
  | .logAppend who _ => who.wf
  | .errLogPersistCopy rec => decide (rec < 2 ^ 64)
  | .sensorRead sensor value _ => decide (sensor < 10) && decide (value < 2 ^ 64)
  | .updateBegin who => who.wf
  | .updateImageSegment who off _ _ => who.wf && decide (off < 2 ^ 64)
  | .updateVerify who => who.wf
  | .updateActivate who => who.wf
  | .updateCommit who => who.wf
  | .updateAbort who => who.wf
  | .debugKill who queue => who.wf && decide (queue < 4096)
  | .sliceMembersWrite who _ => who.wf
  | .cntValueWrite off value => decide (off < 2 ^ 64) && decide (value < 2 ^ 64)
  | .cntFreeze _ => true
  | .cntClearAll => true
  | .layerFlushRequest fn => decide (fn < 256)
  | .layerFlushTimer fn => decide (fn < 256)
  | .cntLayerBaseWrite who fn value => who.wf && decide (fn < 256) && decide (value < 2 ^ 64)
  | .layerFlushComplete fn => decide (fn < 256)
  | .traceRecordEmit _ rec => rec.wf
  | .traceGapRecord buf _ => decide (buf < 16)
  | .traceDrain buf _ => decide (buf < 16)
  | .traceStart fn buf => decide (fn < 256) && decide (buf < 16)
  | .traceStop fn buf => decide (fn < 256) && decide (buf < 16)
  | .traceTrigger fn buf => decide (fn < 256) && decide (buf < 16)
  | .traceDisable fn buf => decide (fn < 256) && decide (buf < 16)
  | .trcReadWrite fn buf value => decide (fn < 256) && decide (buf < 16) && decide (value < 2 ^ 64)
  | .traceStopped buf => decide (buf < 16)
  | .registerRead fn off size => decide (fn < 256) && decide (off < 2 ^ 64) && (decide (size = 1) || decide (size = 2) || decide (size = 4) || decide (size = 8))
  | .controlCoreInstruction ctx => decide (ctx < 64)
  | .d0Entry fn => decide (fn < 256)
  | .laserRemove laser => decide (laser < 4)

end Sys2Proof
end

