-- ==== Sys2Proof/Tests/Slice0.lean ====
section
/-! SUPPORT. Tests/Slice0.lean: the model's own small tests: the worked examples of the spec, the checks of well-formedness, and for every statement with hypotheses a state and operands that meet them. -/

namespace Sys2Proof.Tests
open Sys2Proof Sys2Proof.Machine

set_option maxRecDepth 20000

/-- The state after reset, on which the small states below are built. -/
abbrev z : State := State.reset

/-- The out-of-band origin, which holds every right of the device. -/
abbrev oob : Origin := { iface := 1, fn := 0 }

/-- A record of `n` bytes with some of them set. -/
def record (n : Nat) (l : List (Nat × Nat)) : List Byte :=
  (List.range n).map (fun i => BitVec.ofNat 8 (((l.find? (fun e => decide (e.1 = i))).getD (0, 0)).2))

/-- Bytes of device memory from an address on. -/
def cells (at0 : Nat) (l : List Byte) : List Host.Cell := (l.mapIdx (fun i b => (at0 + i, b))).filter (fun c => decide (c.2 ≠ 0#8))

/-- The first page of function 0 is the first page of device memory. -/
def page0 : TEntry := { fn := 0, page := 0, target := 0, frame := 0, r := true, w := true, x := true }

/-- A running queue. -/
def qRun : Queue := { Queue.initial with state := .running }

/-- Function 0 with its queue 0 running and its first page translated. -/
abbrev zr : State := { z with hif.tcache := [page0], fe.queues := [(0, qRun)] }

/-- A fetched node of queue 0 that waits. -/
def node (raw : List Byte) : Node :=
  { queue := 0, ring := 0, graph := none, index := 0, depth := 0, raw := raw, status := .waiting, check := 0, extPreds := [], done := false
    stalled := false, pins := [] }

/-- An issue at address 0 of slot 0 of core 0. -/
def k0 : Issue := { core := 0, slot := 0, pc := 0, rfCorrected := 0, rcParity := 0, rfDouble := false, residue := none }

/-- A group of queue 0 with two threads at address 0, its registers given: 64 registers each, register r of thread t at 64 r + t. -/
def group (v : SMap Word) (sc : SMap DWord) : Group :=
  { queue := 0, node := 0, block := 0, inBlock := 0, layer := 0, operator := 0, ring := 0, depth := 0, nodeIndex := 0, width := 32, vregs := 64
    live := 3, gbar := 0, yielded := 0, pcs := [], v := v, s := sc, p := [], gbarSince := none, gbarUsed := 0, waiting := 0, ages := []
    stopped := false, faulted := false }

/-- The group of the tests: v4 holds 3 and v8 holds 5 in thread 0. -/
def g0 : Group := group [(256, 3#32), (512, 5#32)] [(4, 0#64), (5, 16#64)]

/-- A state in which group `g` issues the word `w` at address 0. -/
def issuing (w : Nat) (g : Group) : State :=
  { zr with cores := [(0, { Core.initial with groups := [(0, g)], icache := [(0, w)] })] }

/-- The hypotheses of the statements about instructions hold where group `g` of slot 0 has threads at address 0, the word is listed and nothing of its is outstanding. -/
theorem issues_in (s : State) (w : Nat) (regs : List Nat) (g : Group) (h : listedWord w = true) (hg : (s.core 0).groups.get? 0 = some g)
    (hq : g.queue = 0 ∧ g.stopped = false ∧ g.faulted = false ∧ g.issueMask 0 ≠ 0) (hs : (s.core 0).state = 0) (hi : (s.core 0).icache.get? 0 = some w)
    (hp : s.pendingRegs 0 0 (g.issueMask 0) = []) (hw : natAnd 64 g.waiting (g.issueMask 0) = 0) (ht : s.turn k0 = true) : Issues s k0 w regs g s where
  group := hg
  ready := hs
  goes := ⟨hq.2.1, hq.2.2.1⟩
  threads := hq.2.2.2
  awake := hw
  turn := ht
  fetched := by
    have e : (s.core k0.core).icache.get? (icacheKey (fnOfQueue g.queue) k0.pc) = some w := by rw [hq.1]; exact hi
    simp only [State.fetchWord, e]
  listed := h
  free := by
    intro r _ h
    change r ∈ s.pendingRegs 0 0 (g.issueMask 0) at h
    rw [hp] at h
    cases h
  clean := ⟨rfl, rfl⟩

/-- They hold for the group of the tests. -/
theorem issues (w : Nat) (regs : List Nat) (h : listedWord w = true) (ht : (issuing w g0).turn k0 = true) : Issues (issuing w g0) k0 w regs g0 (issuing w g0) :=
  issues_in _ w regs g0 h rfl (by decide) rfl rfl rfl rfl ht

/-- Format A with v4, v8 and v20 as sources and v12 as destination, always executed. -/
def fA : FmtA := { guard := 7, guardNeg := false, dst := 12, a := 4, b := 8, c := 20, reuse := 0, scal := 0, type := 1, rnd := 0, sat := false, S := false, sub := 0 }

/-- Format I with v4 as source and v12 as destination. -/
def fI : FmtI := { guard := 7, guardNeg := false, dst := 12, a := 4, reuseA := false, scalA := false, S := false, hi := false, imm := 5 }

/-- Format B without operands. -/
def fB : FmtB := { guard := 7, guardNeg := false, link := 0, target := 0, zero := 0, offset := 0 }

/-- Format M: v12, 4 bytes, from the address in v20:v21. -/
def fM : FmtM :=
  { guard := 7, guardNeg := false, data := 12, base := 20, scope := 0, size := 2, space := false, baseS := false, S := false, signed := false, hint := 0, offset := 0 }

/-- Format X: v12, from the address in v20:v21 with v4 and v8, 4 bytes. -/
def fX : FmtX :=
  { guard := 7, guardNeg := false, dst := 12, base := 20, operand := 4, compare := 0, scope := 0, far := false, width := false, space := false, baseS := false
    discard := false, zero := 0 }

/-- Format Y: s6 from the object that s4 names, with s5. -/
def fY : FmtY := { guard := 7, guardNeg := false, dst := 6, handle := 4, value := 5, scope := 2, zero := 0 }

/-- Format MX without operands. -/
def fMx : FmtMx := { guard := 7, guardNeg := false, sa := 0, sb := 0, sc := 0, zero := 0, ctl := 0 }

/-- A resident block of queue 0 that holds slot 0. -/
def block0 : Block :=
  { queue := 0, node := 0, block := 0, slots := [0], freed := 0, scratchBytes := 256, scratch := [], scratchBad := [], matrix := false, saving := none, saveAddr := none, kept := false
    since := 0, layer := 0, operator := 0 }

theorem hyps_StepKeepsMemoryCanonical : z.memInv ∧ isNext (step z) = true := ⟨⟨rfl, .nil⟩, by decide⟩

theorem hyps_StepGoesOn : ({ z with pending := [.baseDieRead memSize []] }.pending = .baseDieRead memSize [] :: []) ∧ noBank (.baseDieRead memSize []) ∧ noBank (.baseDieWrite memSize [] 0 []) ∧
    ¬ noBank (.baseDieRead (memSize - 1) []) := by
  refine ⟨rfl, ?_, ?_, ?_⟩ <;> simp [noBank, memSize]

theorem hyps_OperatingPointAndRates : z.deviceCheck oob E.opPointRequest = 0 ∧ z.deviceCheck { iface := 3, fn := 1 } E.opPointRequest ≠ 0 ∧
    { z with time.rampTarget := some 2 }.time.rampTarget = some 2 ∧ z.partLive 0 = true ∧ { z with hif.parts := [(63, { PartSt.initial with slabs := [0] })] }.partLive 63 = true ∧
    (let s := { z with fab.tie := [0, 7], fab.reachable := [7] };
      7 ≠ s.fab.chipId ∧ s.tiedChip 7 = true ∧ s.reaches 7 = true ∧ (zeroBytes 64).length = 64) := by decide

theorem hyps_GlobalTime :
    (let s := { z with time.replicas := [{ count := 5, stopped := false, holding := false }, { count := 10, stopped := false, holding := false }, { count := 4, stopped := true, holding := false }], time.gtb := 9 };
      s.time.replicas[0]? = some { count := 5, stopped := false, holding := false } ∧ s.time.replicas[1]? = some { count := 10, stopped := false, holding := false } ∧
        s.time.replicas[2]? = some { count := 4, stopped := true, holding := false }) ∧
    (z.pending = [] ∧ z.sup.auxValid = true ∧ z.time.slew = 0 ∧ z.time.ref % 10000 = 0 ∧ { z with time.gtb := 2 ^ 64 - 3 }.time.gtb + 2 < 2 ^ 64 ∧
      0 < { z with time.slew := 1 }.time.slew ∧ { z with time.slew := -1 }.time.slew < 0 ∧ { z with time.ref := 9999 }.time.ref % 10000 ≠ 0) ∧
    (({ z with fab.links := [(31, { Link.initial with state := 2 })] }.link 31).state = 2 ∧ z.time.lastSend.get? 31 = none) ∧
    (let s := { z with fab.links := [(31, { Link.initial with state := 2, peer := 7 })], time.sent := [(31, 10)], time.role := 1, time.master := some 7 };
      s.time.sent.get? 31 = some 10 ∧ (s.link 31).state = 2 ∧ (s.link 31).peer = 7 ∧ s.time.role = 1 ∧ s.time.master = some 7 ∧ s.time.lockedOnce = false ∧
        (((10 : Int) - 20) + ((s.time.gtb : Int) - 20)) / 2 < 0 ∧ 0 ≤ (((10 : Int) - 0) + ((s.time.gtb : Int) - 0)) / 2) ∧
    (let s := { z with fab.links := [(31, { Link.initial with state := 2, peer := 7 })], time.sent := [(31, 10)], time.role := 1, time.master := some 8, fab.reachable := [8], time.lockedOnce := true };
      s.time.sent.get? 31 = some 10 ∧ (s.link 31).peer = 7 ∧ s.time.master = some 8 ∧ s.reaches 8 = true ∧ s.routeLink 8 = some 31 ∧ s.time.lockedOnce = true) ∧
    (let s := { z with time.master := some 7, time.role := 1, time.lockedOnce := true };
      s.time.master = some 7 ∧ s.time.role = 1 ∧ s.time.lockedOnce = true ∧ s.time.holdover = false ∧ s.reaches 7 = false) ∧
    (let s := { z with time.holdover := true, time.role := 1, time.mono := 100000 };
      s.time.holdover = true ∧ s.time.role = 1 ∧ s.time.holdoverAt + 100000 ≤ s.time.mono) ∧
    (let s := { z with mgt.num := [(E.ptpSource * 256, 2)], svc.ports := [(1, { Port.initial with state := 1 })] };
      s.num E.ptpSource = 1 + 1 ∧ (s.port 1).state = 1 ∧ s.time.ptpLockedOnce = false ∧ s.time.role ≠ 1 ∧ s.time.gtb < 5 ∧
        { s with time.ptpLockedOnce := true }.time.ptpLockedOnce = true) ∧
    ({ z with time.ptpLocked := true }.time.ptpLocked = true) := by decide

theorem hyps_PowerOnSequence :
    { z with sup.auxValid := false }.sup.auxValid = false ∧
    (let s := { z with sup.mainValid := false, sup.phase := .off };
      s.sup.mainValid = false ∧ s.sup.auxValid = true ∧ s.sup.bothSlotsFailed = false ∧ s.sup.coldHeld = false ∧ s.sup.thermTrip = false ∧ s.sup.phase = .off) ∧
    { z with sup.phase := .ramping }.sup.phase = .ramping ∧ (z.time.replicas[44]?).isSome = true ∧ { z with sup.phase := .domainsUp }.sup.phase = .domainsUp ∧
    { z with sup.phase := .tested }.sup.phase = .tested ∧
    ({ z with sup.phase := .zeroed }.sup.phase = .zeroed ∧ z.sup.bothSlotsFailed = false) := by decide

theorem hyps_SuppliesAndRestarts :
    (z.sup.auxValid = true ∧ z.sup.mainValid = true ∧ z.sup.phase ≠ .off) ∧
    (let s := { z with sup.phase := .zeroed };
      s.sup.perst = false ∧ s.sup.phase ≠ .ready ∧ s.sup.thermTrip = false ∧ s.sup.devResetRunning = false) ∧
    (z.sup.perst = false ∧ z.sup.auxValid = true ∧ z.sup.phase = .ready) ∧
    (let s := { z with sup.perst := true, sup.coldHeld := true, sup.phase := .off };
      s.sup.perst = true ∧ s.sup.coldHeld = true ∧ s.sup.mainValid = true ∧ s.sup.auxValid = true ∧ s.sup.bothSlotsFailed = false ∧ s.sup.phase = .off) ∧
    (let s := { z with sup.devResetRunning := true };
      s.hif.linkUp = true ∧ s.sup.perst = false ∧ (s.sup.phase ≠ .ready ∨ s.sup.devResetRunning = true)) ∧
    (let s := { z with sup.mgtLive := true };
      s.sup.auxValid = true ∧ s.sup.mgtLive = true) ∧
    (let s := { z with mgt.trialRunning := true, sup.phase := .zeroed, time.mono := 2000000000 };
      s.mgt.trialRunning = true ∧ s.sup.phase ≠ .ready ∧ s.sup.origin + 2000000000 ≤ s.time.mono) ∧
    (z.deviceCheck oob E.deviceReset = 0 ∧ z.sup.thermTrip = false ∧ z.sup.devResetRunning = false) ∧
    (let s := { z with sup.thermTrip := true };
      s.deviceCheck oob E.deviceReset = 0 ∧ s.sup.thermTrip = true) ∧
    (let s := { z with fab.tie := [0, 1] };
      s.deviceCheck oob E.tiedReset = 0 ∧ 2 ≤ s.fab.tie.length ∧ ∀ e ∈ s.hif.fns, e.2.reset = none) := by decide

theorem hyps_BaseDieAccesses :
    (memSize - 1 < memSize ∧ z.held ((memSize - 1) / 16) = false ∧ z.granulePoison ((memSize - 1) / 16) = false ∧ z.granuleFailed ((memSize - 1) / 16) = false ∧
      wrongPositions (z.erasedOf (z.newtOf (16 * ((memSize - 1) / 16)))) [] = [] ∧ Memory.wf z.mem ∧ (zeroBytes 16).length = 16) ∧
    ({ z with poison := [0] }.granulePoison 0 = true ∧ { z with poison := [0] }.held 0 = false ∧ 0 ∈ { z with poison := [0] }.poison) ∧
    ({ z with stk.hold := [(0, 3)] }.held 0 = true) ∧
    ((z.erasedOf (z.newtOf 0)).length ≤ 1 ∧ wrongPositions (z.erasedOf (z.newtOf 0)) [(19, 1)] = [19] ∧
      judge (z.erasedOf (z.newtOf 0)).length (wrongPositions (z.erasedOf (z.newtOf 0)) [(19, 1)]) = .corrected (some 19)) ∧
    (judge (z.erasedOf (z.newtOf 0)).length (wrongPositions (z.erasedOf (z.newtOf 0)) [(0, 1), (19, 1)]) = .detected ∧
      poisonWord (z.erasedOf (z.newtOf 0)) (withErrors (codeword (cellBytes z.mem 0 16) false) [(0, 1), (19, 1)]) = false) ∧
    ({ z with stk.stackFailed := 1 }.granuleFailed 0 = true) ∧ 65534 < 65535 := by decide

theorem hyps_RereadsTransfersAndScrubs :
    (let s := { z with stk.rereads := [0] };
      0 / 16 ∈ s.stk.rereads ∧ s.held (0 / 16) = false ∧ s.granulePoison (0 / 16) = false ∧ { s with poison := [0] }.granulePoison (0 / 16) = true ∧
        wrongPositions (s.erasedOf (s.newtOf (16 * (0 / 16)))) [] = [] ∧ judge 0 [] = .corrected none ∧
        judge (s.erasedOf (s.newtOf (16 * (0 / 16)))).length (wrongPositions (s.erasedOf (s.newtOf (16 * (0 / 16)))) [(0, 1), (19, 1)]) = .detected) ∧
    ((zeroBytes 64).length = 64 ∧ Memory.wf z.mem ∧ z.granuleFailed 3 = false ∧ z.held (64 / 64 * 4) = false ∧
      wrongPositions (z.erasedOf (z.newtOf (16 * (64 / 64 * 4 + 3)))) [] = []) ∧
    (judge (z.erasedOf (z.newtOf (16 * 3))).length (wrongPositions (z.erasedOf (z.newtOf (16 * 3)))
        (([(3, 0, 1), (3, 1, 1)].filter (fun x => decide (x.1 = 3))).map Prod.snd)) = .detected ∧
      poisonWord (z.erasedOf (z.newtOf (16 * 3))) (withErrors (codeword (((zeroBytes 64).drop (16 * 3)).take 16) false) [(0, 1), (1, 1)]) = false ∧
      { z with stk.replays := [(1, 3)] }.stk.replays.getD (0 / 64 * 2 + b2n true) 0 = 3) ∧
    (z.held z.stk.patrol = false ∧ z.stk.patrol + 1 < granuleCount ∧ granuleCount ≤ { z with stk.patrol := granuleCount - 1 }.stk.patrol + 1 ∧
      { z with stk.patrol := granuleCount - 1 }.held (granuleCount - 1) = false ∧ z.granulePoison z.stk.patrol = false ∧
      (z.erasedOf (z.newtOf (16 * z.stk.patrol))).length ≤ 1 ∧ wrongPositions (z.erasedOf (z.newtOf (16 * z.stk.patrol))) [(19, 1)] = [19]) := by decide

theorem hyps_SparingAndRetirement :
    (let s := { z with stk.rowEvents := [(639 * 2 ^ 21, [(0, 3, 0), (1, 3, 1), (2, 3, 2), (3, 3, 3)])] };
      s.stk.rowEvents.getD (639 * 2 ^ 21 + 0) [] = (0, 3, 0) :: [(1, 3, 1), (2, 3, 2), (3, 3, 3)] ∧ s.stk.sparing.has (639 * 2 ^ 21 + 0) = false ∧ s.channelFailed 639 = false ∧
        s.stk.spared.countP (fun k => decide (k / 2 ^ 21 = 639)) < 512) ∧
    ({ z with stk.sparing := [(639 * 2 ^ 21, (0, 3, 0))] }.stk.sparing.get? (639 * 2 ^ 21 + 0) = some (0, 3, 0)) ∧
    (let s := { z with stk.ceEvents := [(19, 3, 0, 0), (19, 3, 1, 0), (19, 3, 2, 0), (19, 3, 31, 0)] };
      4 ≤ ((s.stk.ceEvents.filter (fun e => decide (e.1 = 19 ∧ e.2.1 = 3))).map (fun e => e.2.2.1)).eraseDups.length ∧ bit s.stk.stackFailed 19 = false ∧
        s.stk.hold.has 19 = false ∧ bit (s.num (E.retiredDies + 19)) 3 = false ∧ s.dieTooMany 19 3 = false) ∧
    (let s := { z with stk.hold := [(19, 3)] };
      s.stk.hold.get? 19 = some 3 ∧ s.dieTooMany 19 3 = false) ∧
    (let s := { z with stk.linkEvents := [(639 * 32 + 19, List.replicate 64 0)] };
      64 ≤ (s.stk.linkEvents.getD (639 * 32 + 19) []).length ∧ s.channelFailed 639 = false ∧ (s.erasedOf 639).contains 19 = false ∧ (s.erasedOf 639).length < 2) ∧
    (let s := { z with stk.linkEvents := [(639 * 32 + 19, List.replicate 64 0)], stk.pinGroups := [(639, 3)] };
      64 ≤ (s.stk.linkEvents.getD (639 * 32 + 19) []).length ∧ s.channelFailed 639 = false ∧ (s.erasedOf 639).contains 19 = false ∧ 2 ≤ (s.erasedOf 639).length) ∧
    (bit z.stk.stackFailed 19 = false) := by decide

theorem hyps_RowMode :
    (z.deviceCheck oob (E.rowMode + 47) = 0 ∧ (rangeFrom (20 * 47) 20).any (fun n => (z.slabOwner n).isSome) = false) ∧
    (let s := { z with mgt.num := [((E.slabOwner + 959) * 256, 3)] };
      s.deviceCheck oob (E.rowMode + 47) = 0 ∧ (rangeFrom (20 * 47) 20).any (fun n => (s.slabOwner n).isSome) = true) ∧
    { z with stk.rowZeroing := [(47, 0)] }.stk.rowZeroing.has 47 = true := by decide

/-- A descriptor with one FILL of 16 bytes at address 0x100 by its owners. -/
def fillDesc : List Byte := record 64 [(0, 1), (1, 1)] ++ record 64 [(0, 6), (4, 16), (0x11, 1), (0x20, 7)]

/-- A share at its first operation. -/
def share0 : Share :=
  { desc := 0, queue := 0, owner := 0, started := true, nextOp := 0, atomics := false, stop := false, fault := 0, sent := 0, moved := 0, progressAt := 0, startAt := 0 }

/-- A descriptor whose only share is that of newt 0. -/
def desc0 (raw : List Byte) : Desc :=
  { node := 0, queue := 0, raw := raw, layer := 0, operator := 0, newts := [0], doneNewts := [], partials := [], reporter := none, streams := [], status := 0, statusNewt := 0
    statusOp := 0, startAt := none, endAt := 0, bytesRead := 0, bytesWritten := 0, steps := 0 }

/-- Newt 0 with its share of a descriptor. -/
def zn (raw : List Byte) (h : Share) : State := { zr with nwt.tlb := [(0, [{ pasid := 0, log := 16, page := 0, target := 0, frame := 0, r := true, w := true, x := true }])], nwt.queues := [(0, [h])], nwt.descs := [(0, desc0 raw)] }

/-- The work ended well. -/
def isOk {α : Type} : Nk α → Bool
  | .ok _ _ => true
  | .bad _ _ => false

/-- The descriptor of a node that a fetch reads. -/
def fetched (s : State) : Bool :=
  match s.readDesc 0 0 (.node 0) 0x1000 1 with
  | (.bytes h, u) => headerOk h && (match u.readDesc 0 0 (.node 0) 0x1040 (fieldAt h 1 1) with
      | (.bytes ops, _) => descOk (h ++ ops) && !bit (fieldAt (h ++ ops) 3 1) 2
      | _ => false)
  | _ => false

theorem hyps_NewtSharesAndService :
    (let s := { zr with fe.nodes := [(0, node (record 64 [(0, 3), (0x19, 0x10)]))], mem := cells 0x1000 fillDesc };
      s.nodeStarts 0 3 (node (record 64 [(0, 3), (0x19, 0x10)])) ∧ (node (record 64 [(0, 3), (0x19, 0x10)])).get 0x18 8 = 0x1000 ∧ fetched s = true ∧
        s.unitGoes 5 0 (newtDescriptorFetch 0)) ∧
    (let s := { zr with nwt.waiting := [share0] };
      s.nwt.waiting.find? (fun x => decide (x.owner = 0 ∧ fnOfQueue x.queue = 0) && s.mayDeliver x) = some share0 ∧ (s.nwt.queues.getD 0 []).length < 64 ∧
        s.nwt.credits.getD (0 * 256 + 0) 0 < s.num (E.qosNewt + 0) ∧ { s with nwt.gated := [0] }.serverOf 0 ∈ { s with nwt.gated := [0] }.nwt.gated) ∧
    (let h := { share0 with started := false };
      (zn fillDesc h).nextShare 0 = some (h, desc0 fillDesc) ∧ (zn fillDesc h).unserved 0 = false ∧ { zn fillDesc h with nwt.failed := [0, 1] }.unserved 0 = true ∧
        { zn fillDesc h with nwt.failed := [0, 1] }.nextShare 0 = some (h, desc0 fillDesc) ∧
        sumNat (((zn fillDesc h).servedBy ((zn fillDesc h).serverOf 0)).map (fun k => ((zn fillDesc h).nwt.queues.getD k []).countP (fun x => x.started))) < 2 ∧
        (zn fillDesc h).nwt.lastFrom.get? ((zn fillDesc h).serverOf 0) ≠ some 0) ∧
    (z.newtFailed 639 = false ∧ (let s := { zn fillDesc share0 with time.mono := 10000 };
      s.newtFailed 0 = false ∧ s.sharesHeld 0 ≠ [] ∧ ∀ h ∈ s.sharesHeld 0, h.progressAt + 10000 ≤ s.time.mono)) ∧
    (let s := { z with mgt.num := [(E.newtIdleGate * 256, 1)], time.mono := 1000 };
      s.num E.newtIdleGate ≠ 0 ∧ s.newtFailed 639 = false ∧ s.nwt.gated.contains 639 = false ∧ s.sharesHeld 639 = [] ∧
        s.newtFailed (buddyOf 639) = false ∧ ∀ k ∈ s.servedBy 639, s.nwt.emptySince.getD k 0 + s.num E.newtIdleGate * 1000 ≤ s.time.mono) ∧
    (let s := { z with mgt.num := [(E.fnPtRoot * 256, 0x1000)], hif.parts := [(0, { PartSt.initial with slabs := [0] })],
                       mem := [(0x1000, 1#8), (0x1001, 0x20#8), (0x2000, 1#8), (0x2001, 0x30#8), (0x3000, 0x1F#8)] };
      s.cached 0 (0x10000 / 2 ^ 16) = none ∧ s.walk 0 0x10000 = .page 0 1 30 true true true ∧ permits .write true true true = true) := by decide

/-- A descriptor with one operation without elements. -/
def opDesc (opcode : Nat) : List Byte := record 64 [(0, 1), (1, 1)] ++ record 64 [(0, opcode)]

/-- The work of the share of newt 0. -/
def w0 (raw : List Byte) : Wk := workOf 0 0 share0 (desc0 raw)

theorem hyps_NewtOperations :
    (∀ o ∈ [1, 2, 3, 4, 5, 6, 7, 8, 9, 10, 11, 12], (zn (opDesc o) share0).newtReady 0 0 o share0 (desc0 (opDesc o)) ∧ linkThere (w0 (opDesc o)) (desc0 (opDesc o)) ∧
      ((desc0 (opDesc o)).op share0.nextOp).count = 0 ∧ (zn (opDesc o) share0).l2.refused = none) ∧
    (let d := record 64 [(0, 1), (1, 2)] ++ record 64 [(0, 1), (3, 2), (0x38, 1), (0x3A, 1)] ++ record 64 [(0, 7), (3, 1)];
      (zn d share0).newtReady 0 0 1 share0 (desc0 d) ∧ ((desc0 d).op 0).dstNext = true ∧ ((desc0 d).op 0).count = 0 ∧
        aligned16 [((desc0 d).op 0).src, ((desc0 d).op 0).dst, ((desc0 d).op 0).aux, fieldAt ((desc0 d).op 0) 0x20 8] = true) ∧
    (let d := record 64 [(0, 1), (1, 1)] ++ record 64 [(0, 12), (4, 16), (8, 1)];
      (zn d share0).newtReady 0 0 12 share0 (desc0 d) ∧ ((desc0 d).op 0).count ≠ 0 ∧ aligned16 [((desc0 d).op 0).src, ((desc0 d).op 0).dst] = false) ∧
    (let d := record 64 [(0, 1), (1, 1)] ++ record 64 [(0, 12), (4, 16)];
      (zn d share0).newtReady 0 0 12 share0 (desc0 d) ∧ aligned16 [((desc0 d).op 0).src, ((desc0 d).op 0).dst] = true ∧ (zn d share0).remotePieces (w0 d) (desc0 d) ≠ []) ∧
    (zn (opDesc 12) share0).remotePieces (w0 (opDesc 12)) (desc0 (opDesc 12)) = [] := by decide

theorem hyps_NewtOperations_goes :
    (zn (opDesc 1) share0).unitGoes 3 (opIndex 0 0) (attnPart 0 0) ∧ (zn (opDesc 2) share0).unitGoes 3 (opIndex 0 0) (kvAppend 0 0) ∧
    (zn (opDesc 3) share0).unitGoes 3 (opIndex 0 0) (gatherReduce 0 0) ∧ (zn (opDesc 4) share0).unitGoes 3 (opIndex 0 0) (scatter 0 0) ∧
    (zn (opDesc 5) share0).unitGoes 3 (opIndex 0 0) (newtCopy 0 0) ∧ (zn fillDesc share0).unitGoes 3 (opIndex 0 0) (fill 0 0) ∧
    (zn (opDesc 7) share0).unitGoes 3 (opIndex 0 0) (reduce 0 0) ∧ (zn (opDesc 8) share0).unitGoes 3 (opIndex 0 0) (quant 0 0) ∧
    (zn (opDesc 9) share0).unitGoes 3 (opIndex 0 0) (dequant 0 0) ∧ (zn (opDesc 10) share0).unitGoes 3 (opIndex 0 0) (newtAtom 0 0) ∧
    (zn (opDesc 11) share0).unitGoes 3 (opIndex 0 0) (checksum 0 0) ∧ (zn (opDesc 12) share0).unitGoes 3 (opIndex 0 0) (remoteCopy 0 0) := by decide

/-- FILL stores its pattern, the first byte of each eight being 7 (R76). -/
theorem test_fill : (match exec (.fill 0 0) (zn fillDesc share0) with
    | .next t => (cellGet t.mem 0x100, cellGet t.mem 0x101, cellGet t.mem 0x108, (t.nwt.queues.getD 0 []).map (fun h => h.nextOp))
    | _ => (0#8, 0#8, 0#8, [])) = (7#8, 0#8, 7#8, [1]) := by decide

theorem hyps_NewtCompletion :
    (let h := { share0 with nextOp := 1 };
      (zn fillDesc h).share 0 0 = some h ∧ (zn fillDesc h).nwt.descs.get? 0 = some (desc0 fillDesc) ∧ h.desc = 0 ∧ h.started = true ∧ h.fault = 0 ∧ h.stop = false ∧
        (desc0 fillDesc).opCount ≤ h.nextOp ∧ (zn fillDesc h).accumCount < 4096) ∧
    (let h := { share0 with fault := 0x15 };
      (zn fillDesc h).share 0 0 = some h ∧ (zn fillDesc h).nwt.descs.get? 0 = some (desc0 fillDesc) ∧ h.desc = 0 ∧ h.fault = 0x15 ∧ (desc0 fillDesc).status = 0 ∧
        ((zn fillDesc h).q (desc0 fillDesc).queue).state = .running) ∧
    (let d := { desc0 fillDesc with doneNewts := [0] };
     let s := { zr with nwt.descs := [(0, d)] };
      s.nwt.descs.get? 0 = some d ∧ (∀ x ∈ d.newts, x ∈ d.doneNewts) ∧ d.status = 0 ∧ (s.q d.queue).state = .running ∧ (s.fn (fnOfQueue d.queue)).gate = .opened ∧
        d.completion = 0 ∧ s.unitGoes 4 0 (newtDescriptorComplete 0) ∧ { d with raw := record 64 [(9, 2)] }.completion ≠ 0) ∧
    (let s := { zr with fe.queues := [(0, { qRun with state := .preempted })], nwt.descs := [(0, desc0 fillDesc)] };
      s.nwt.descs.get? 0 = some (desc0 fillDesc) ∧ (desc0 fillDesc).status = 0 ∧ (s.q 0).state = .preempted ∧ (s.fn 0).gate = .opened ∧ s.unitGoes 4 0 (newtDescriptorComplete 0)) ∧
    (zn fillDesc { share0 with nextOp := 1 }).unitGoes 3 (opIndex 0 0) (newtShareComplete 0 0) := by decide

/-- The hypotheses of the statements about instructions of format A are met: a legal word, and one whose type is not listed. -/
def meets (op : Nat) (f : FmtA) (types : List Nat) (subs rnds : Nat) (sat : Bool) (scal : List Nat) (ins : List (Nat × Nat)) : Bool :=
  listedWord (f.word op) && FmtA_ok f g0.vregs types subs rnds sat scal ins && f.dstOk g0.vregs (typeRegs f.type) &&
    (issuing (f.word op) g0).turn k0 && listedWord (({ f with type := 31 } : FmtA).word op) && !FmtA_ok { f with type := 31 } g0.vregs types subs rnds sat scal ins

/-- Where `meets` says so, a legal word issues. -/
theorem issues_of_meets {op f types subs rnds sat scal ins} (h : meets op f types subs rnds sat scal ins = true) (regs : List Nat) :
    Issues (issuing (f.word op) g0) k0 (f.word op) regs g0 (issuing (f.word op) g0) ∧ FmtA_ok f g0.vregs types subs rnds sat scal ins = true ∧
      f.dstOk g0.vregs (typeRegs f.type) = true := by
  simp only [meets, Bool.and_eq_true] at h
  exact ⟨issues _ _ h.1.1.1.1.1 h.1.1.2, h.1.1.1.1.2, h.1.1.1.2⟩

/-- Two sources of a type. -/
abbrev two (n : Nat) : List (Nat × Nat) := [(2, n), (1, n)]

theorem hyps_FloatInstructions :
    (∀ op ∈ [0x10, 0x11, 0x13, 0x14], meets op { fA with c := 0 } fpTypes 1 1 false [1] (two 1) = true) ∧ meets 0x12 fA fpTypes 4 2 true [1] [(2, 1), (1, 1), (0, 1)] = true ∧
    (∀ op ∈ [0x18, 0x19, 0x1A, 0x1B, 0x1C, 0x1D, 0x1E], meets op { fA with b := 0, c := 0 } [1] 1 1 false [] [(2, 1)] = true) ∧
    ((Fmt.fp32.decode 0x7FC00001).isNan = true ∧ (Fmt.fp32.decode 0).isNan = false) := by decide

theorem hyps_IntegerInstructions :
    (∀ op ∈ [0x30, 0x31, 0x35, 0x36, 0x38, 0x39, 0x3A, 0x3B, 0x3C, 0x3D], meets op { fA with c := 0, type := 0 } intTypes 1 1 false intTypes (two 1) = true) ∧
    (∀ op ∈ [0x32, 0x34], meets op { fA with c := 0, type := 13 } mulTypes 1 1 false mulTypes (two 1) = true) ∧
    meets 0x33 { fA with type := 13 } mulTypes 1 1 false mulTypes [(2, 1), (1, 1), (0, 1)] = true ∧
    meets 0x3E { fA with type := 0 } intTypes 1 1 false intTypes [(2, 1), (1, 1), (0, 1)] = true ∧
    (∀ op ∈ [0x3F, 0x40, 0x41], meets op { fA with b := 0, c := 0, type := 0 } [0] 1 1 false [0] [(2, 1)] = true) ∧
    meets 0x42 { fA with type := 9, sub := 1 } [9, 10] 2 1 false [] [(2, 1), (1, 1), (0, 1)] = true := by decide

/-- v12 of thread 0 after an instruction. -/
def v12 (i : Instr) (w : Nat) : Nat :=
  match exec i (issuing w g0) with
  | .next t => (match (t.core 0).groups.get? 0 with
    | some g => g.vreg 12 0
    | none => 0)
  | _ => 0

/-- 3 and 5: the sum, and the difference, which wraps (R139, R141). -/
theorem test_iadd_isub :
    v12 (.iadd k0 { fA with c := 0, type := 0 }) (({ fA with c := 0, type := 0 } : FmtA).word 0x30) = 8 ∧
    v12 (.isub k0 { fA with c := 0, type := 0 }) (({ fA with c := 0, type := 0 } : FmtA).word 0x31) = 0xFFFFFFFE := by decide

theorem hyps_PredicatesAndSelection :
    (Issues (issuing (({ fA with dst := 6, c := 0 } : FmtA).word 0x15) g0) k0 (({ fA with dst := 6, c := 0 } : FmtA).word 0x15) [4, 8] g0
        (issuing (({ fA with dst := 6, c := 0 } : FmtA).word 0x15) g0) ∧
      FmtA_ok { fA with dst := 6, c := 0 } g0.vregs [0x01, 0x11] 8 1 false [0x01] (two 1) = true ∧
      FmtA_ok { fA with dst := 6, c := 0, type := 0 } g0.vregs intTypes 6 1 false intTypes (two 1) = true) ∧
    (Issues (issuing (({ fI with dst := 47 } : FmtI).word 0x59) g0) k0 (({ fI with dst := 47 } : FmtI).word 0x59) [4] g0 (issuing (({ fI with dst := 47 } : FmtI).word 0x59) g0) ∧
      fmtISrcOk { fI with dst := 47 } g0.vregs true = true ∧ fI.hi = false) ∧
    (let f := { fA with dst := 7, a := 0, b := 7, c := 0, type := 0, sub := 7 };
      Issues (issuing (f.word 0x44) g0) k0 (f.word 0x44) [] g0 (issuing (f.word 0x44) g0) ∧ f.predSrc 2 = true ∧ f.predSrc 1 = true ∧ f.unused 0 = true) ∧
    (let f := { fA with dst := 63, a := 7, b := 0, c := 0, type := 0, sub := 2 };
      Issues (issuing (f.word 0x66) g0) k0 (f.word 0x66) [256 + 63] g0 (issuing (f.word 0x66) g0) ∧ f.predSrc 2 = true ∧ f.unused 1 = true ∧ f.unused 0 = true) ∧
    (let f := { fA with c := 0, type := 0 };
      Issues (issuing (f.word 0x43) g0) k0 (f.word 0x43) (f.srcRegs 2 1 ++ f.srcRegs 1 1 ++ f.dstRegs 1) g0 (issuing (f.word 0x43) g0) ∧ f.type ∈ intTypes ∧
        f.srcOk g0.vregs 2 1 = true ∧ f.srcOk g0.vregs 1 1 = true ∧ f.predSrc 0 = true ∧ f.dstOk g0.vregs 1 = true) :=
  ⟨⟨issues _ _ (by decide) (by decide), by decide, by decide⟩, ⟨issues _ _ (by decide) (by decide), by decide⟩, ⟨issues _ _ (by decide) (by decide), by decide⟩, ⟨issues _ _ (by decide) (by decide), by decide⟩,
    issues _ _ (by decide) (by decide), by decide⟩

theorem hyps_ImmediatesAndMoves :
    (∀ op ∈ [0x50, 0x51, 0x52, 0x53, 0x54, 0x55, 0x56, 0x57, 0x58], Issues (issuing (fI.word op) g0) k0 (fI.word op) [4, 12] g0 (issuing (fI.word op) g0)) ∧
    (fmtISrcOk fI g0.vregs true = true ∧ fI.hi = false ∧ fmtIDstOk fI g0.vregs 1 = true ∧ fmtISrcOk { fI with a := 64 } g0.vregs true = false) ∧
    (let f := { fI with a := 0, imm := 9 };
      Issues (issuing (f.word 0x61) g0) k0 (f.word 0x61) [12] g0 (issuing (f.word 0x61) g0) ∧ fmtIDstOk f g0.vregs (srdSize 9) = true ∧ (9 : Nat) < 10) ∧
    meets 0x60 { fA with b := 0, c := 0, type := 0 } movTypes 1 1 false movTypes [(2, 1)] = true ∧
    (let f := { fA with dst := 63, b := 4, c := 0, scal := 2, type := 0 };
      Issues (issuing (f.word 0x62) g0) k0 (f.word 0x62) [4, 256 + 4, 256 + 63] g0 (issuing (f.word 0x62) g0) ∧ f.type ∈ movTypes ∧ f.srcOk g0.vregs 2 1 = true ∧
        bit f.scal 1 = true ∧ f.srcOk g0.vregs 1 1 = true ∧ f.unused 0 = true) ∧
    (let f := { fA with c := 0, type := 0, sub := 3 };
      Issues (issuing (f.word 0x65) g0) k0 (f.word 0x65) [4, 8, 12] g0 (issuing (f.word 0x65) g0) ∧ f.srcOk g0.vregs 2 1 = true ∧ f.srcOk g0.vregs 1 1 = true ∧ f.unused 0 = true) ∧
    (let f := { fA with c := 0, type := 2, sub := 1, rnd := 2 };
      Issues (issuing (f.word 0x63) g0) k0 (f.word 0x63) [4, 8, 12] g0 (issuing (f.word 0x63) g0) ∧ f.type ∈ cvtTypes ∧ f.sub ∈ cvtTypes ∧
        f.srcOk g0.vregs 2 (typeRegs f.sub) = true ∧ f.srcOk g0.vregs 1 1 = true ∧ f.unused 0 = true ∧ f.dstOk g0.vregs (typeRegs f.type) = true) ∧
    (let f := { fA with b := 0, c := 0, type := 4, sub := 1, rnd := 0 };
      Issues (issuing (f.word 0x64) g0) k0 (f.word 0x64) [4, 12] g0 (issuing (f.word 0x64) g0) ∧ f.type ∈ [0x04, 0x05, 0x06, 0x07, 0x08, 0x09] ∧ f.srcOk g0.vregs 2 1 = true ∧
        f.unused 1 = true ∧ f.unused 0 = true) :=
  ⟨fun op h => issues _ _ (by revert op; decide) (by revert op; decide), by decide, ⟨issues _ _ (by decide) (by decide), by decide⟩, by decide, ⟨issues _ _ (by decide) (by decide), by decide⟩, ⟨issues _ _ (by decide) (by decide), by decide⟩,
    ⟨issues _ _ (by decide) (by decide), by decide⟩, issues _ _ (by decide) (by decide), by decide⟩

/-- A group whose thread 0 has p0 set. -/
def gp : Group := { g0 with p := [(0, 1)] }

theorem hyps_CoreControl :
    (∀ op ∈ [0, 1, 2, 3, 4, 5, 6], Issues (issuing (fB.word op) g0) k0 (fB.word op) [4, 5] g0 (issuing (fB.word op) g0) ∧
      Issues (issuing (({ fB with guard := 0 } : FmtB).word op) gp) k0 (({ fB with guard := 0 } : FmtB).word op) [4, 5] gp (issuing (({ fB with guard := 0 } : FmtB).word op) gp)) ∧
    (((((0 : Int) + 8 * signExt 32 1) % (2 ^ 64 : Nat)).toNat < 2 ^ 57) ∧ 2 ^ 57 ≤ (((0 : Int) + 8 * signExt 32 0xFFFFFFFF) % (2 ^ 64 : Nat)).toNat ∧
      listedWord (({ fB with offset := 0xFFFFFFFF } : FmtB).word 1) = true ∧ ((issuing 0 g0).q 0).state = .running ∧ ∃ th, th < 64 ∧ g0.acting 0 7 false th) ∧
    (vregOk g0.vregs 2 12 = true ∧ (∀ th, th < 64 → g0.acting 0 7 false th → g0.vregs_ 12 th 2 < 2 ^ 57 ∧ g0.vregs_ 12 th 2 % 8 = 0)) ∧
    (g0.acting 0 7 false 0 ∧ g0.vregs_ 4 0 2 % 8 ≠ 0 ∧ 2 ^ 57 ≤ (group [(256, 0#32), (320, 0x2000000#32)] []).vregs_ 4 0 2) ∧
    (gp.live < 2 ^ 64 ∧ gp.gbar = 0 ∧ (∃ th, th < 64 ∧ bit gp.live th = true ∧ ¬ gp.acting 0 0 false th) ∧ (∃ th, th < 64 ∧ gp.acting 0 0 false th)) ∧
    ((∀ th, th < 64 → bit g0.live th = true → g0.acting 0 7 false th) ∧ (issuing 0 g0).groupBusy 0 0 = false ∧ (issuing 0 g0).accumCount < 4096) ∧
    (popCount 64 (natOr 64 gp.gbar (gp.guardMask 0 false (gp.issueMask 0))) ≠ popCount 64 gp.live ∧
      popCount 64 (natOr 64 g0.gbar (g0.guardMask 7 false (g0.issueMask 0))) = popCount 64 g0.live) ∧
    (let g := { g0 with gbar := 1, gbarSince := some 0 };
     let s := { issuing 0 g with time.mono := 10 ^ 12 };
      (s.core 0).groups.get? 0 = some g ∧ g.gbar ≠ 0 ∧ g.faulted = false ∧ (s.q g.queue).state = .running ∧
        s.num E.gbarWatchdog (s.fnPart (fnOfQueue g.queue)) * 1000 ≤ g.gbarUsed + (s.time.mono - 0) ∧
        g.gbarUsed + 0 < s.num E.gbarWatchdog (s.fnPart (fnOfQueue g.queue)) * 1000) := by
  refine ⟨fun op h => ⟨issues _ _ (by revert op; decide) (by revert op; decide), issues_in _ _ _ _ (by revert op; decide) rfl (by decide) rfl rfl rfl rfl (by revert op; decide)⟩, ?_⟩
  decide

/-- Places that are there, with the checks of an access. -/
def placed (x : Places) (ok : List Acc → Bool) : Bool :=
  match x with
  | .ok p => ok p
  | .fault _ _ _ => false

/-- The issue of the group of the tests. -/
def i0 : Iss := issueOf k0 g0 7 false

theorem hyps_MemoryInstructions :
    (∀ op ∈ [0x70, 0x71, 0x72, 0x73, 0x74, 0x75, 0x76], Issues (issuing (fM.word op) g0) k0 (fM.word op) [20, 21, 12] g0 (issuing (fM.word op) g0)) ∧
    (fM.ok g0.vregs true = true ∧ fM.ok g0.vregs false = true ∧ fM.dataOk g0.vregs = true ∧
      placed (i0.placesM (issuing (fM.word 0x70) g0) fM .read) (fun p => !p.isEmpty && p.all (fun a => decide (a.target ≠ 1)) &&
        decide (((issuing (fM.word 0x71) g0).sendCode 0 p).2.1 = 0)) = true ∧
      i0.loadReady (issuing (fM.word 0x70) g0) fM = true ∧ i0.storeReady (issuing (fM.word 0x71) g0) fM false = true ∧
      i0.storeReady (issuing (fM.word 0x73) g0) fM true = true ∧ i0.prefReady (issuing (fM.word 0x74) g0) fM = true ∧
      ((issuing (fM.word 0x71) g0).q 0).state ≠ .resetting) ∧
    (i0.placesM z { fM with offset := 0x10000 } .read = .fault 0 0x01 0x10000) ∧
    ((issueOf k0 g0 6 false).placesM z { fM with guard := 6 } .read = .ok [] ∧ (issueOf k0 g0 6 false).loadReady (issuing (({ fM with guard := 6 } : FmtM).word 0x70) g0) { fM with guard := 6 } = true) ∧
    (2 ≤ ({ fM with scope := 4 } : FmtM).scope ∧ ({ fM with scope := 4 } : FmtM).ok g0.vregs true = true ∧ (issuing 0 g0).openLoads 0 0 (g0.issueMask 0) = [] ∧
      (issuing 0 g0).relOpen 0 0 (g0.issueMask 0) = false ∧ fM.scope < 2) ∧
    (let f := { fM with baseS := true, base := 4, data := 0, size := 0 };
     let s := issuing (f.word 0x75) g0;
      f.ok g0.vregs false = true ∧ g0.sreg f.base = 0 ∧ s.translate 0 0 .write = .ok 0 0 ∧ listedWord (f.word 0x75) = true ∧ g0.acting 0 7 false (g0.first 0) ∧
        i0.placesReady s (i0.zeroPlaces s f) false = true ∧ s.turn k0 = true) ∧
    (∀ op ∈ [0, 1, 2, 3, 4, 5, 6, 7, 8, 9, 10, 11], Issues (issuing (fX.word op) g0) k0 (fX.word op) [20, 21, 4, 12] g0 (issuing (fX.word op) g0) ∧ fX.ok op g0.vregs = true ∧
      (placed (i0.placesX (issuing (fX.word op) g0) fX op (bitList 64 i0.act)) (fun p => !p.isEmpty && decide (((issuing (fX.word op) g0).sendCode 0 p).2.1 = 0)) = true ∧
        i0.atomReady (issuing (fX.word op) g0) fX op = true)) ∧
    (({ fX with compare := 8 } : FmtX).ok 12 g0.vregs = true ∧ listedWord (({ fX with compare := 8 } : FmtX).word 12) = true) ∧
    (let f := { fX with space := true };
     let s := { issuing (f.word 0) g0 with cores := [(0, { (issuing (f.word 0) g0).core 0 with blocks := [(0, block0)] })] };
      f.ok 0 g0.vregs = true ∧ placed (i0.placesX s f 0 (bitList 64 i0.act)) (fun p => !p.isEmpty && (p.find? (fun a => (s.core 0).scratchBadAt 0 a.pa a.n)).isNone) = true ∧
        i0.atomReady s f 0 = true) := by
  refine ⟨fun op h => issues _ _ (by revert op; decide) (by revert op; decide), ?_, ?_, ?_, ?_, ?_,
    fun op h => ⟨issues _ _ (by revert op; decide) (by revert op; decide), ?_⟩, ?_⟩
  · decide
  · decide
  · decide
  · decide
  · decide
  · revert op; decide
  · decide
/-- Format O. -/
def fO : FmtO := { guard := 7, guardNeg := false, scope := 4, zero := 0 }

/-- A barrier of thread 0 of slot 0. -/
def bar0 : Bar := { core := 0, slot := 0, queue := 0, node := 0, threads := 1, kind := 2, scope := 2, store := none, sync := none }

/-- An entry of the store buffer of core 0 for a line of device memory. -/
def sb0 : SbEntry :=
  { seq := 3, queue := 0, node := 0, nodes := [0], slots := 1, target := 0, line := 2, data := zeroBytes 128, mask := 1, stamps := [(0, 1)], after := 0, holdLoads := [], vpage := 0, left := false }

/-- Core 0 with group `g` in slot 0 and a store buffer. -/
def zc (g : Group) (sb : List SbEntry) : State := { zr with cores := [(0, { Core.initial with groups := [(0, g)], sb := sb })] }

/-- The message of a SIGNAL by the group of the tests. -/
def m0 (op : Nat) (v : Nat) : SynMsg := { obj := 0, op := op, value := v, queue := 0, scope := 2, who := .core 0 0 3 6 0 0 }

theorem hyps_BarriersAndSync :
    (∀ kind ∈ [0, 1, 2], Issues (issuing (fO.word kind) g0) k0 (fO.word kind) [] g0 (issuing (fO.word kind) g0)) ∧ (fO.zero = 0 ∧ fO.scope ≤ 4 ∧ ∃ th, th < 64 ∧ g0.acting 0 7 false th) ∧
    (let s := { zc g0 [] with l2.bars := [(5, bar0)] };
      s.l2.bars.get? 5 = some bar0 ∧ s.barMet 5 bar0 = true ∧ (s.core 0).groups.get? 0 = some g0) ∧
    (let s := { zc g0 [sb0] with l2.bars := [(5, bar0)] };
      s.l2.bars.get? 5 = some bar0 ∧ s.barMet 5 bar0 = false) ∧
    (let b := { bar0 with kind := 3, store := some [] };
     let s := { zc g0 [] with l2.bars := [(5, b)] };
      s.l2.bars.get? 5 = some b ∧ s.barMet 5 b = true) ∧
    (let b := { bar0 with kind := 4, sync := some (m0 0 16, 0) };
     let s := { zc g0 [] with l2.bars := [(5, b)] };
      s.l2.bars.get? 5 = some b ∧ s.barMet 5 b = true ∧ handleChip 0 s.fab.chipId = none) ∧
    (∀ op ∈ [0, 1, 2, 3, 6], SyncLocal (issuing (fY.word op) g0) (issuing (fY.word op) g0) k0 fY g0 op true) ∧
    (∀ op ∈ [4, 5], SyncLocal (issuing (({ fY with value := 0 } : FmtY).word op) g0) (issuing (({ fY with value := 0 } : FmtY).word op) g0) k0 { fY with value := 0 } g0 op false) ∧
    (let b := { bar0 with threads := 3, kind := 4, sync := some (m0 0 16, 0) };
      (issuing (fY.word 0) g0).barMet 0 b = true ∧ { zc g0 [{ sb0 with seq := 0, stamps := [(0, 1)] }] with l2.nextId := 1 }.barMet 1 b = false) := by
  refine ⟨fun op h => issues _ _ (by revert op; decide) (by revert op; decide), ?_, ?_, ?_, ?_, ?_, fun op h => ⟨issues _ _ (by revert op; decide) (by revert op; decide), ?_⟩, fun op h => ⟨issues _ _ (by revert op; decide) (by revert op; decide), ?_⟩, ?_⟩
  · decide
  · decide
  · decide
  · decide
  · decide
  · revert op; decide
  · revert op; decide
  · decide

/-- A load of 4 bytes at address 256 for v12 of thread 0, whose line is there. -/
def load0 : Load :=
  { core := 0, slot := 0, queue := 0, pc := 0, threads := 1, kind := 0, dst := 12, bytes := 4, signed := false, hint := 0, acquire := 0
    accs := [{ thread := 0, va := 256, off := 0, n := 4, target := 0, pa := 256 }], got := [(2, zeroBytes 128)], bad := [], fwd := [], noInstall := false }

theorem hyps_LoadResponsesAndDrains :
    (let s := { zc g0 [] with l2.loads := [(5, load0)] };
      s.l2.loads.get? 5 = some load0 ∧ (s.core 0).groups.get? 0 = some g0 ∧ (∀ k ∈ accKeys load0.accs, load0.got.has k = true) ∧ (∀ a ∈ load0.accs, a.thread < 64) ∧
        (∀ a ∈ load0.accs, load0.badAcc a = false) ∧ load0.acquire < 2 ∧ 2 ≤ ({ load0 with acquire := 2 } : Load).acquire) ∧
    (let l := { load0 with kind := 1 };
      (∀ k ∈ accKeys l.accs, l.got.has k = true) ∧ (∀ a ∈ l.accs, l.badAcc a = false) ∧ l.accs ≠ []) ∧
    (let l := { load0 with bad := [(2, 255)] };
      (l.accs.find? l.badAcc).isSome = true ∧ g0.faulted = false ∧ (zr.q 0).state = .running ∧ (∀ k ∈ accKeys l.accs, l.got.has k = true)) ∧
    (let s := zc g0 [sb0];
      (s.core 0).sb.find? (fun e => decide (e.seq = 3)) = some sb0 ∧ s.mayLeave 0 sb0 = true ∧ s.lineOlder 0 sb0 = false ∧ sb0.target = 0 ∧ sb0.left = false) ∧
    (let e := { sb0 with target := 2 };
     let s := { zc g0 [e] with hif.fns := [(0, { FnSt.initial with gate := .opened, busMaster := true })] };
      s.mayLeave 0 e = true ∧ s.lineOlder 0 e = false ∧ s.hostOpen (fnOfQueue e.queue) (128 * e.line) true = true) ∧
    (let s := zc g0 [{ sb0 with seq := 1 }, sb0];
      (s.core 0).sb.find? (fun e => decide (e.seq = 3)) = some sb0 ∧ s.lineOlder 0 sb0 = true) := by decide

/-- Group `g` issues the word `w` from a block that holds the matrix array of core 0. -/
def matrixIssuing (w : Nat) (g : Group) : State :=
  { zr with cores := [(0, { Core.initial with groups := [(0, g)], icache := [(0, w)], blocks := [(0, { block0 with matrix := true })], mx := { Mx.initial with holder := some 0 } })] }

/-- s4 holds a configuration, s5 a strip of 16 bytes, s6 one row, s7 a stride of 256. -/
def gm : Group := group [] [(4, 0x909#64), (5, 16#64), (6, 0x10000#64), (7, 256#64)]

/-- A legal word of the matrix array may enter the queue there. -/
theorem matrix_issues (f : FmtMx) (op : Nat) (used : List Nat) (h : listedWord (f.word op) = true) (ha : gm.acting 0 f.guard f.guardNeg (gm.first 0))
    (ht : (matrixIssuing (f.word op) gm).turn k0 = true) (hr : (issueOf k0 gm f.guard f.guardNeg).mxReady (matrixIssuing (f.word op) gm) op = true) :
    MatrixIssues (matrixIssuing (f.word op) gm) (matrixIssuing (f.word op) gm) k0 f op used gm :=
  ⟨issues_in _ _ _ _ h rfl (by decide) rfl rfl rfl rfl ht, ha, ⟨(0, { block0 with matrix := true }), rfl, rfl⟩, hr⟩

/-- The code with which ranges are turned away. -/
def rangesOk (f : FmtMx) (op : Nat) (a : Access) (rs : List (Nat × Nat)) : Bool :=
  decide (((issueOf k0 gm f.guard f.guardNeg).ranges (matrixIssuing (f.word op) gm) (bit f.ctl 0) a rs).code = 0)

theorem hyps_MatrixAcceptance :
    (let f := { fMx with sa := 4 };
      MatrixIssues (matrixIssuing (f.word 0xC0) gm) (matrixIssuing (f.word 0xC0) gm) k0 f 0xC0 [4] gm ∧ cfgOk (gm.sreg 4) = true) ∧
    (let f := { fMx with sa := 5, sb := 63, sc := 7 };
      MatrixIssues (matrixIssuing (f.word 0xC1) gm) (matrixIssuing (f.word 0xC1) gm) k0 f 0xC1 [5, 63, 7] gm ∧ gm.sreg 7 < 2 ^ 32 ∧ gm.sreg 5 % 16 = 0 ∧ gm.sreg 7 % 16 = 0 ∧
        ((matrixIssuing (f.word 0xC1) gm).core 0).mx.aheadShadow = none) ∧
    MatrixIssues (matrixIssuing (fMx.word 0xC2) gm) (matrixIssuing (fMx.word 0xC2) gm) k0 fMx 0xC2 [] gm ∧
    (let f := { fMx with sa := 5, sb := 6, sc := 7 };
      MatrixIssues (matrixIssuing (f.word 0xC3) gm) (matrixIssuing (f.word 0xC3) gm) k0 f 0xC3 [5, 6, 7] gm ∧ rowWordOk (gm.sreg 6) 1 = true ∧
        ((matrixIssuing (f.word 0xC3) gm).core 0).mx.aheadActive = none) ∧
    (let f := { fMx with sa := 5, sb := 6, sc := 7, ctl := 2 };
      MatrixIssues (matrixIssuing (f.word 0xC4) gm) (matrixIssuing (f.word 0xC4) gm) k0 f 0xC4 [5, 6, 7] gm ∧ bits f.ctl 5 1 ∈ rdTypes ∧ rdTypeOk f.ctl = true ∧ rowWordOk (gm.sreg 6) 0 = true ∧
        rdRowBytes f.ctl ≤ gm.sreg 7 ∧ rangesOk f 0xC4 .write (rdRanges f.ctl (gm.sreg 5) (gm.sreg 7) (rowsOf (gm.sreg 6))) = true) ∧
    (let f := { fMx with sb := 6 };
      MatrixIssues (matrixIssuing (f.word 0xC5) gm) (matrixIssuing (f.word 0xC5) gm) k0 f 0xC5 [6] gm ∧ rowWordOk (gm.sreg 6) 1 = true ∧ gm.sreg 6 < 2 ^ 32) ∧
    (Issues (issuing (fMx.word 0xC2) g0) k0 (fMx.word 0xC2) [] g0 (issuing (fMx.word 0xC2) g0) ∧ g0.acting 0 7 false (g0.first 0) ∧ ¬ (issuing (fMx.word 0xC2) g0).arrayHeld k0 ∧
      ((issuing (fMx.word 0xC2) g0).q 0).state = .running) :=
  ⟨⟨matrix_issues _ _ _ (by decide) (by decide) (by decide) (by decide), by decide⟩, ⟨matrix_issues _ _ _ (by decide) (by decide) (by decide) (by decide), by decide⟩, matrix_issues _ _ _ (by decide) (by decide) (by decide) (by decide),
    ⟨matrix_issues _ _ _ (by decide) (by decide) (by decide) (by decide), by decide⟩, ⟨matrix_issues _ _ _ (by decide) (by decide) (by decide) (by decide), by decide⟩, ⟨matrix_issues _ _ _ (by decide) (by decide) (by decide) (by decide), by decide⟩,
    issues _ _ (by decide) (by decide), by decide, (by rintro ⟨b, h, _⟩; cases h), rfl⟩

/-- An entry of the matrix queue of core 0. -/
def mo (kind : Nat) (started : Bool) : MxOp :=
  { id := 0, kind := kind, slot := 0, queue := 0, pc := 0, threads := 3, addr := 16, scale := 0, stride := 256, base := 0, rows := 1, ctl := 2, started := started, set := 1
    entered := 0, load := none }

/-- Core 0 with a matrix queue and two sets, the active one configured. -/
def zm (q : List MxOp) : State :=
  { zr with cores := [(0, { Core.initial with groups := [(0, gm)], blocks := [(0, { block0 with matrix := true })]
                                              mx := { Mx.initial with holder := some 0, queue := q, sets := [(0, { MxSet.initial with configured := true, cfg := 0x909 })] } })] }

/-- The places of ranges of an entry. -/
def rangesAt (o : MxOp) (s : State) (a : Access) (rs : List (Nat × Nat)) (ok : List Acc → Bool) : Bool :=
  match (o.iss 0 gm).ranges s (bit o.ctl 0) a rs with
  | .ok l => ok l
  | _ => false

theorem hyps_MatrixWork :
    (∀ kind ∈ [0, 1, 2, 3, 4, 5], (zm [mo kind false]).mxAt 0 0 (mo kind false) gm ∧ (mo kind false).mayStart (((zm [mo kind false]).core 0).mx.queue.take 0) = true ∧
      (zm [mo kind true]).mxAt 0 0 (mo kind true) gm ∧ (mo kind true).started = true) ∧
    ((((zm []).core 0).mx.setOf ((zm []).core 0).mx.active).config = some 0x909 ∧ (((zm []).core 0).mx.setOf (1 - ((zm []).core 0).mx.active)).config = none ∧
      ((zm []).q gm.queue).state = .running) ∧
    rangesAt (mo 1 false) (zm []) .read (ldwRanges 0x909 16 256 0 true) (fun l => l.all (fun a => decide (a.target ≠ 1))) = true ∧
    rangesAt (mo 4 true) (zm []) .write (rdRanges 2 16 256 1) (fun l => decide (((zm []).sendCode 0 l).1 = 0)) = true ∧
    ((mo 3 true).entered < (mo 3 true).rows ∧ ({ mo 3 true with entered := 1 } : MxOp).rows ≤ ({ mo 3 true with entered := 1 } : MxOp).entered ∧ gm.live ≠ 0) ∧
    (let o := { mo 1 true with load := some 5 };
     let s := { zm [o] with l2.loads := [(5, { load0 with kind := 4 })] };
      s.mxAt 0 0 o gm ∧ o.load = some 5 ∧ (∀ k ∈ accKeys load0.accs, load0.got.has k = true) ∧ (∀ a ∈ load0.accs, load0.badAcc a = false)) := by decide

/-- The first page of function 0 is a page of chip 1. -/
def zfar : State := { zr with hif.tcache := [{ page0 with target := 1, frame := 2 ^ 32 }], fab.reachable := [1], mgt.num := [(E.fnFabKey * 256, 7)] }

/-- A word on another chip is asked for with a READ. -/
theorem test_fetch_from_another_chip :
    (match ({ zfar with cores := [(0, { Core.initial with groups := [(0, g0)] })] }).fetchWord 0 0 0 8 with
     | .sent t => t.fab.reqs.vals.map (fun r => (r.issuer, r.pkt.dst, r.pkt.type, r.pkt.addr, r.pkt.key))
     | _ => []) = [(.code 0 0 8, 1, 1, 8, 7)] := by decide

theorem hyps_CoreNarrowing :
    (let s := { z with cores := [(383, { Core.initial with retry := some 1, groups := [(0, g0)], blocks := [(0, block0)] })] };
      (s.core 383).state = 0 ∧ (s.core 383).retry = some 1 ∧ (s.core 383).groups.get? 0 = some g0 ∧ (s.core 383).blocks.get? 0 = some block0 ∧ block0.saving = none ∧
        (s.core 0).retry ≠ some 1) ∧
    (let s := { z with cores := [(383, { Core.initial with state := 2 }), (382, { Core.initial with state := 2, blocks := [(0, block0)] }), (381, { Core.initial with state := 2, failing := true })] };
      (s.core 383).state = 2 ∧ (s.core 383).blocks = [] ∧ (s.core 383).failing = false ∧ (s.core 382).blocks ≠ [] ∧ (s.core 381).blocks = [] ∧ (s.core 381).failing = true) := by decide

/-- Queue 0 is being killed and has settled. -/
def zkill (g : List (Nat × Graph)) (n : List (Nat × Node)) (r : List (Nat × Req)) : State :=
  { zfar with fe.queues := [(0, { qRun with state := .killing, settled := true })], fe.graphs := g, fe.nodes := n, fab.reqs := r }

/-- A graph of one node, which lies on another chip. -/
def graphFar : Graph :=
  { queue := 0, ring := 0, call := some 0, plan := none, depth := 1, header := 0, edition := 0, nodes := 0x1800, count := 1, preds := 0, predEntries := 0, args := 0, fetched := 0 }

/-- A request that no one answers. -/
def reqLost : Req :=
  { pkt := { type := 0, src := 0, dst := 1, seq := 0, key := 0, srcFn := 0, op := 0, addr := 0, data := [], poison := 0 }, queue := 0, issuer := .stale, link := 0, via := none, sentAt := 0 }

/-- How a walk of queue 0 ends: its reading and then its skipping; 2 over, 1 waiting. -/
def walkEnds (s : State) : Nat × Nat :=
  match walkAll (fun s => s.walkRead 0) walkFuel s with
  | .over u => (2, match walkAll (fun s => s.walkSkip 0) walkFuel u with
    | .over _ => 2
    | .wait _ => 1
    | .on _ => 0)
  | .wait _ => (1, 0)
  | .on _ => (0, 0)

theorem hyps_KillSteps :
    (let s := { z with fe.queues := [(0, { qRun with state := .killing })], cores := [(0, { Core.initial with groups := [(0, { g0 with stopped := true })] })] };
      (s.q 0).state = .killing ∧ s.ending 0 = true ∧ (s.q 0).settled = false ∧ s.groupsStopped 0 = true ∧ s.unitGoes 10 0 (coreKillSettled 0)) ∧
    ((zkill [] [] []).q 0).state = .killing ∧ ((zkill [] [] []).q 0).settled = true ∧ (zkill [] [] []).unitGoes 11 0 (skipWalk 0) ∧ walkEnds (zkill [] [] []) = (2, 2) ∧
    (zkill [(0, graphFar)] [] []).unitGoes 11 0 (skipWalk 0) ∧ walkEnds (zkill [(0, graphFar)] [] []) = (1, 0) := by decide +kernel

/-- The skip walk waits at a SIGNAL to an object of another chip while 16,384 requests are open. -/
theorem hyps_KillSteps_wait :
    (let s := zkill [] [(0, node (record 64 [(0, 5), (26, 1), (27, 16)]))] (List.replicate 16384 (0, reqLost));
      s.unitGoes 11 0 (skipWalk 0) ∧ walkEnds s = (2, 1)) := by decide +kernel

/-- A block of one group that queue 0, being pre-empted, saves. -/
def zp (b : Block) (g : Group) : State :=
  { zr with cores := [(0, { Core.initial with groups := [(0, g)], blocks := [(0, b)] })], fe.queues := [(0, { qRun with state := .preempting })],
            mgt.num := [((E.queueSaveBytes + 0) * 256, 0x10000), (E.queueSaveBase * 256, 0x2000)] }

/-- The save record of a block and of its group, in the first page. -/
def savedMem : List Host.Cell := [(0x1000, 1#8), (0x1040, 1#8), (0x1042, 1#8), (0x1048, 3#8)]

theorem hyps_BlockSaveAndRestore :
    ((zp block0 g0).core 0).blocks.get? 0 = some block0 ∧ ((zp block0 g0).q 0).state = .preempting ∧ block0.saveAddr = none ∧ ((zp block0 g0).core 0).savedSlots block0 ≠ [] ∧
    (∀ sl ∈ block0.slots, ((zp block0 g0).core 0).groups.get? sl = some g0) ∧ g0.faulted = false ∧
    (let b := { block0 with saving := some [], saveAddr := some 0x2000 };
     let g := { g0 with stopped := true };
      ((zp b g).core 0).blockOf 0 = some (0, b) ∧ ((zp b g).core 0).groups.get? 0 = some g ∧ g.live ≠ 0 ∧ g.faulted = false ∧ (zp b g).groupIdle 0 0 = true ∧ b.kept = false ∧
        (zp b g).unitGoes 7 0 (groupSave 0 0)) ∧
    (let b := { block0 with saving := some [0], saveAddr := some 0x2000 };
      ((zp b g0).core 0).blocks.get? 0 = some b ∧ b.slots ≠ [] ∧ (∀ sl ∈ b.slots, sl ∈ [0]) ∧ (∀ e ∈ ((zp b g0).core 0).sb, e.queue ≠ b.queue) ∧ b.matrix = false ∧
        (zp b g0).unitGoes 8 0 (blockSaveComplete 0 0)) ∧
    64 + (zp block0 g0).stillSaved 0 + ((zp block0 g0).core 0).blockSaveBytes block0 ≤ (zp block0 g0).qnum E.queueSaveBytes 0 := by decide +kernel

/-- A launch of one block of 64 threads. -/
def launch0 : Launch :=
  { queue := 0, entry32 := 0, entry64 := 0, widths := 1, vregs := 8, blocks := 1, groups := 1, scratch := 0, matrix := false, args := 0, arg0 := 0, arg1 := 0
    placed := 1, exited := 0 }

/-- A saved block of the launch. -/
def saved0 : SavedBlock := { node := 0, block := 0, groups := 1, width := 32, addr := 0x1000, kept := none }

/-- Queue 0 with that block saved in the first page; core 0 belongs to its partition. -/
def zv : State :=
  { zr with fe.queues := [(0, { qRun with savedBlocks := [saved0] })], fe.nodes := [(0, node (record 64 [(0, 1)]))], fe.launches := [(0, launch0)],
            mgt.num := [(E.partitionQmask * 256, 1)], mem := savedMem }

theorem hyps_BlockRestore : (zv.q 0).state = .running ∧ zv.mayRun (fnOfQueue 0) = true ∧ (zv.core 0).state = 0 ∧ 0 ∈ zv.coresOf (zv.fnPart (fnOfQueue 0)) ∧
    (zv.q 0).savedBlocks.find? (fun b => decide (b.width = if (zv.core 0).narrow = 0 then 32 else 64)) = some saved0 ∧
    zv.fe.nodes.get? saved0.node = some (node (record 64 [(0, 1)])) ∧ zv.fe.launches.get? saved0.node = some launch0 ∧ launch0.matrix = false ∧
    (match zv.readSaved 0 saved0 0 64 with
     | .bytes r => decide (fieldAt r 0 1 = 1)
     | .bad _ => false) = true ∧
    (match zv.readGroups 0 saved0 (node (record 64 [(0, 1)])) 0 0 0 false 1 64 with
     | .ok gs => (zv.core 0).hasRoom (gs.map Group.vregs) 0 false
     | .error _ => false) = true := by decide +kernel

theorem hyps_SavedGroupReturns : g0.width = 32 ∧ g0.vregs % 8 = 0 ∧ 0 < g0.vregs ∧ g0.vregs ≤ 256 ∧ g0.inBlock < 64 ∧ g0.live < 2 ^ g0.width ∧ g0.gbar < 2 ^ g0.width ∧
    g0.yielded < 2 ^ g0.width ∧ g0.layer < 2 ^ 24 ∧ g0.operator < 2 ^ 16 ∧ (∀ t, t < g0.width → g0.pcs.getD t 0 < 2 ^ 57) := by decide

/-- A held line: clean, of 128 zeros, without copies. -/
def dir0 : Dir := { state := .h, sharers := 0, rsw := false, busy := none, slice := 0, way := 0, data := zeroBytes 128, poison := 0, used := 0 }

/-- The same line dirty. -/
def dirD : Dir := { dir0 with state := .d }

/-- An atomic of thread 0 on address 256. -/
def atom0 : Atom :=
  { core := 0, slot := 0, queue := 0, node := 0, pc := 0, dst := 12, discard := false, op := 0, bytes := 4, far := false, scope := 2
    accs := [{ thread := 0, va := 256, off := 0, n := 4, target := 0, pa := 256 }], operands := [(0, (1, 0))], olds := [], sent := 0 }

/-- A request that has had seven answers NACK. -/
def nack0 : Nacked := { slice := 0, line := 2, count := 7, interval := 256, starving := false, queued := none, who := .load 5 }

/-- A load that lacks its line 2. -/
def load1 : Load := { load0 with got := [] }

/-- Function 0's memory belongs to partition 0, whose slices lie in P0 and P1 and which asks for replicas. -/
def parts2 : SMap Nat := [(E.partitionQmask * 256, 0x11), (E.replication * 256, 2), (E.slabOwner * 256, 0)]

/-- A load of a core of P1 that lacks its line 2. -/
def load24 : Load := { load1 with core := 24 }

/-- A copy of the line in a replica slice. -/
def copy2 : LineCopy := { data := zeroBytes 128, poison := 0, slice := 4, way := 0, used := 0 }

/-- A check without errors. -/
def chk0 : L2Check := { corrected := 0, bad := 0, dir := false }

theorem hyps_HomeReads :
    (let s := { z with l2.loads := [(5, load24)], l2.replicas := [(replicaKey 1 2, copy2)], mgt := { z.mgt with num := parts2 } };
      s.l2.loads.get? 5 = some load24 ∧ s.readDue 5 load24 2 = true ∧ load24.fwd = [] ∧ s.waitsRetry 2 (.load 5) = false ∧ s.replicaHit 2 (load24.core / 24) = some copy2 ∧
        copy2.data.length = 128 ∧ s.tableRoom) ∧
    (let s := { zc g0 [] with l2.loads := [(5, load1)], l2.dir := [(2, dir0)] };
      s.l2.loads.get? 5 = some load1 ∧ s.readDue 5 load1 2 = true ∧ load1.fwd = [] ∧ s.homeServes 2 (.load 5) ∧
        s.heldLine 2 = some dir0 ∧ dir0.data.length = 128 ∧ s.straightHome 2 (load1.core / 24) = true ∧ s.tableRoom) ∧
    (let s := { z with l2.loads := [(5, load24)], l2.dir := [(2, dir0)], mgt := { z.mgt with num := parts2 } };
      s.readDue 5 load24 2 = true ∧ s.homeServes 2 (.load 5) ∧ s.heldLine 2 = some dir0 ∧ s.straightHome 2 (load24.core / 24) = false ∧
        s.l2.replicas.get? (replicaKey (load24.core / 24) 2) = none ∧ s.installs 2 = true ∧
        ((s.replicaSlice 2 (load24.core / 24)).elim false (fun sl => (s.freeWay sl (setOf 2) 0 16).isSome)) = true ∧ s.tableRoom) ∧
    (let d := { dir0 with busy := some (0, .load 9) };
     let s := { zc g0 [] with l2.loads := [(5, load1)], l2.dir := [(2, d)] };
      s.readDue 5 load1 2 = true ∧ s.waitsRetry 2 (.load 5) = false ∧ s.replicaHit 2 (load1.core / 24) = none ∧ s.l2.dir.get? 2 = some d ∧ d.busy = some (0, .load 9) ∧
        (Client.load 9 ≠ .load 5)) := by decide

theorem hyps_HomeStores :
    (let e := { sb0 with left := true };
     let s := { zc g0 [e] with l2.dir := [(2, dir0)] };
      s.storeDue 0 3 = some e ∧ s.homeServes e.line (.store 0 3) ∧ s.heldLine e.line = some dir0 ∧ dir0.sharers / 2 ^ 16 = 0) ∧
    (let e := { sb0 with left := true };
     let d := { dir0 with sharers := 2 ^ 16 };
     let s := { zc g0 [e] with l2.dir := [(2, d)], fab.tie := [0, 7] };
      s.storeDue 0 3 = some e ∧ s.homeServes e.line (.store 0 3) ∧ s.heldLine e.line = some d ∧ d.sharers / 2 ^ 16 ≠ 0) ∧
    (let s := { zc g0 [] with l2.atoms := [(5, atom0)], l2.dir := [(2, dir0)] };
      s.l2.atoms.get? 5 = some atom0 ∧ s.atomFree 5 atom0 = true ∧ s.homeServes (256 / 128) (.atom 5) ∧ s.heldLine (256 / 128) = some dir0 ∧ chk0.bad % 256 = 0 ∧
        s.pocPoison 256 4 = false ∧ (s.core 0).groups.get? 0 = some g0 ∧ g0.live ≠ 0 ∧ atom0.dst + 4 / 4 ≤ 256) := by decide

theorem hyps_HomeRequests_rest :
    (let a := { atom0 with far := true };
     let s := { zc g0 [] with l2.atoms := [(5, a)] };
      s.atomFree 5 a = true ∧ s.homeServes 2 (.atom 5) ∧ s.l2.dir.get? 2 = none ∧ s.bankPoison 256 4 = false ∧ Memory.wf s.mem) ∧
    (let d := { dir0 with busy := some (0, .load 9) };
     let s := { z with l2.dir := [(2, d)] };
      linesOf 256 4 = [2] ∧ s.l2.dir.get? 2 = some d ∧ (Client.load 9 ≠ .held s.l2.nextId) ∧ s.waitsRetry 2 (.held s.l2.nextId) = false ∧ (s.fn 0).gate = .opened ∧
        s.l2.domainLost = false ∧ s.l2.refused = none) ∧
    (memSize - 1 + [1#8].length ≤ memSize ∧ (z.fn 0).gate = .opened ∧ (∀ l ∈ linesOf (memSize - 1) 1, z.l2.dir.get? l = none) ∧ z.granulePoison ((memSize - 1) / 16) = false) ∧
    (let s := { z with l2.dir := [(2, dirD)], nwt.filter := [(2, false)] };
      s.nwt.filter.has 2 = true ∧ s.l2.dir.get? 2 = some dirD ∧ dirD.state.dirty = true ∧ dirD.busy = none ∧ dirD.poison = 0 ∧ dirD.data.length = 128 ∧ (∀ i, i < 8 → s.granuleFailed (8 * 2 + i) = false)) ∧
    (let d := { dir0 with busy := some (0, .load 9) };
     let s := { zc g0 [] with l2.loads := [(5, load1)], l2.dir := [(2, d)], l2.nacked := [nack0] };
      s.l2.nacked[0]? = some nack0 ∧ nack0.who = .load 5 ∧ s.l2.domainLost = false ∧ s.l2.nacked.find? (fun x => decide (x.line = nack0.line ∧ x.who = nack0.who)) = some nack0 ∧
        s.readDue 5 load1 2 = true ∧ s.replicaHit 2 0 = none ∧ s.busyOther 2 (.load 5) = true ∧ nack0.starving = false ∧ 8 ≤ nack0.count + 1) ∧
    (let s := { z with l2.nacked := [nack0] };
      s.l2.nacked[0]? = some nack0 ∧ s.l2.loads.get? 5 = none) ∧
    (let s := { zc g0 [] with l2.loads := [(5, load1)], l2.dir := [(2, dir0)], l2.nacked := [nack0] };
      s.readDue 5 load1 2 = true ∧ s.straightHome 2 (load1.core / 24) = true ∧ s.homeClosed 2 = false ∧ s.lineBusy 2 = false ∧ s.starvingFirst 2 nack0.queued = false ∧
        s.l2.refused = none ∧ s.heldLine 2 = some dir0 ∧ load1.fwd = [] ∧ s.tableRoom) ∧
    { z with l2.replicas := [(replicaKey 15 2, copy2)] }.l2.replicas.has (replicaKey 15 2) = true := by decide

theorem hyps_DirectoryErrors :
    (let s := { z with l2.dir := [(2, dirD)] };
     let u := { s with fab.tie := [0, 7] };
      s.l2.dir.get? 2 = some dirD ∧ dirD.state.dirty = true ∧ dirD.busy = none ∧ s.l2.domainLost = false ∧ s.everyMember = 0 ∧ 2 ∉ s.l2.dirBad ∧ u.everyMember ≠ 0 ∧
        u.l2.dir.get? 2 = some dirD ∧ 2 ∈ { s with l2.dirBad := [2] }.l2.dirBad) ∧
    (let s := { z with l2.wayBad := [63 * 16 + 15] };
      s.closedWay 63 15 = false ∧ bit s.l2.failed 63 = false ∧ 63 * 16 + 15 ∈ s.l2.wayBad ∧ (s.retiredWays 63).length < 4) ∧
    (let s := { z with l2.wayErrors := [(63 * 16 + 15, List.replicate 8 0)], mgt.num := [((E.sliceRetiredWays + 63) * 256, 15)] };
      s.closedWay 63 15 = false ∧ 8 ≤ ((s.l2.wayErrors.getD (63 * 16 + 15) []).filter (fun t => decide (s.time.mono < t + 1000000000))).length ∧ 4 ≤ (s.retiredWays 63).length) ∧
    (let s := { z with l2.retiring := [63 * 16 + 15] };
      63 * 16 + 15 ∈ s.l2.retiring ∧ (s.l2.dir.map Prod.fst).Pairwise (fun a b => a < b) ∧ s.copiesEnded (s.emptyWay 63 15) = []) ∧
    (let d := { dir0 with busy := some (0, .load 9) };
     let s := { z with l2.dir := [(2, d)], time.mono := 50000 };
      s.l2.dir.get? 2 = some d ∧ 0 + 50000 ≤ s.time.mono ∧ z.time.mono < 0 + 50000 ∧ 0 + 10000 ≤ s.time.mono ∧ d.slice = 0 ∧ s.l2.domainLost = false) ∧
    (let s := { z with fab.chipId := 3, fab.tie := [3, 7], fe.queues := [(4095, qRun)], fab.lostSince := [(7, 0)], time.mono := 50000 };
      s.tiedChip 7 = true ∧ s.l2.domainLost = false ∧ (s.q 4095).state = .running ∧ s.fab.lostSince.get? 7 = some 0 ∧ 0 + 50000 ≤ s.time.mono) ∧
    (let s := { z with fab.chipId := 3, fab.tie := [3, 7] };
      s.tiedChip 7 = true ∧ 7 ∉ s.fab.unreachable ∧ s.fab.lostSince.get? 7 = none ∧ 7 ∈ { s with fab.unreachable := [7] }.fab.unreachable) ∧ z.sup.chipFailed = false := by decide

theorem hyps_PlainsAndCoreCaches :
    z.mayGate 15 = true ∧ z.unitGoes 15 15 (plainGate 15) ∧ z.mayGate 16 = false ∧ z.l2.refused = none ∧ z.l2.nacked = [] ∧
    (let s := { z with l2.gatedPlains := 2 ^ 15, cores := [(383, { Core.initial with state := 1 })] };
      bit s.l2.gatedPlains 15 = true ∧ (s.core 383).state = 1) ∧
    (let s := { z with hif.parts := [(63, { PartSt.initial with redirects := [(5, 9)] })], mgt.num := [((E.partitionQmask + 63) * 256, 3)] };
      (s.part 63).redirects.has 5 = true ∧ s.slicesOf 63 ≠ [] ∧ bit s.l2.gatedPlains ((s.slicesOf 63).getD (5 % (s.slicesOf 63).length) 0 / 4) = false ∧ s.unitGoes 16 (63 * 64 + 5) (bucketReturn 63 5)) ∧
    (let s := { z with mgt.num := [(E.sclAutoEnable * 256, 1)], l2.sclDisabled := 2 ^ 250 };
      s.num E.sclAutoEnable = 1 ∧ bit s.l2.sclDisabled 250 = true) ∧
    ((z.core 383).sclInvalidated = true ∧ ({ z with cores := [(383, { Core.initial with sclInvalidated := false })] }.core 383).sclInvalidated = false) ∧
    (z.entryLive E.scratchKib = true ∧ oob.isVf = false ∧ 448 % 64 = 0) ∧
    (let s := { z with cores := [(0, { Core.initial with scratchPending := true })], mgt.num := [(E.partitionQmask * 256, 1)] };
      s.partOfCore 0 = some 0 ∧ (s.core 0).scratchPending = true ∧ (s.core 0).blocks = []) := by decide

theorem hyps_HostWindows :
    (z.hostReaches 0 256 4 256 ∧ 256 + 4 ≤ memSize ∧ Memory.wf z.mem ∧ (∀ l ∈ linesOf 256 4, z.l2.dir.get? l = none) ∧ (∀ i, i < 4 → z.granulePoison ((256 + i) / 16) = false) ∧
      z.hostGoes (hostReadBar2 0 256 4 chk0) ∧ z.pocPoison 256 4 = false ∧ { z with poison := [16] }.pocPoison 256 4 = true ∧
      { z with poison := [16] }.hostGoes (hostReadBar2 0 256 4 chk0)) ∧
    (let s := { z with l2.dir := [(2, dir0)], mgt.num := [(E.partitionQmask * 256, 0x11), (E.slabOwner * 256, 0)] };
      s.hostReaches 0 256 4 256 ∧ s.homeServes (256 / 128) (.held s.l2.nextId) ∧ s.heldLine (256 / 128) = some dir0 ∧ dir0.sharers / 2 ^ 16 = 0 ∧
        (∃ x ∈ s.slicesOf (s.fnPart 0), x / 4 = 1) ∧ ((s.replicaSlice (256 / 128) 1).elim false (fun sl => (s.freeWay sl (setOf 2) 0 16).isSome)) = true ∧ s.homeOf (256 / 128) / 4 ≠ 1 ∧
        256 % 4 = 0 ∧ s.pocPoison 256 4 = false) ∧
    (let d := { dir0 with busy := some (0, .load 9) };
     let s := { z with l2.dir := [(2, d)] };
      s.hostReaches 0 256 4 256 ∧ linesOf 256 4 = [2] ∧ s.l2.dir.get? 2 = some d ∧ (Client.load 9 ≠ .held s.l2.nextId) ∧ s.waitsRetry 2 (.held s.l2.nextId) = false) ∧
    (z.holdReq (.doorbell 0 0 1)).heldOf 0 ≠ [] ∧
    (z.hostFree 0 ∧ z.barState 0 = .opened ∧ z.bar2At 0 (2 ^ 36) 1 = none) ∧
    (let s := { z with hif.fns := [(0, { FnSt.initial with gate := .resetting })] };
      s.barState 0 = .opened ∧ s.bar2At 0 256 4 = some 256 ∧ (s.fn 0).gate = .resetting ∧ s.hostFree 0) ∧
    { z with sup.devResetRunning := true }.barState 0 = .ones ∧ { z with sup.devResetRunning := true }.hostFree 0 := by decide

/-- Queue 0 in a state, with a ring of 256 entries at 0x4000. -/
def zq (q : Queue) : State := { z with hif.tcache := [page0], fe.queues := [(0, q)], mgt.num := [(E.queueRing * 256, 0x4008)] }

theorem hyps_QueueCommands :
    (let s := zq { Queue.initial with state := .idle };
      fnOfQueue 0 = 0 ∧ s.heldOf 0 = [] ∧ s.ringOf 0 = some (0x4000, 256) ∧ (s.fn 0).gate = .opened ∧ (s.q 0).state.takesDoorbell = true ∧ (256 + 2 ^ 32 - (s.q 0).write) % 2 ^ 32 ≠ 0 ∧
        (256 + 2 ^ 32 - (s.q 0).write) % 2 ^ 32 ≤ 256 ∧ (256 + 2 ^ 32 - (s.q 0).read) % 2 ^ 32 ≤ 256 ∧ (s.q 0).doorbellOk 256 257 = false) ∧
    (let s := zq Queue.initial;
      s.fnCheck oob 0 (E.queueEnable + 0) = 0 ∧ (s.q 0).state = .disabled ∧ (s.ringOf 0).isSome = true ∧ s.sup.chipFailed = false ∧ z.ringOf 0 = none) ∧
    (let s := zq qRun;
      (s.q 0).state = .running ∧ s.num (E.queueSaveBytes + 0) 0 < s.saveNeed 0 ∧ s.saveNeed 0 ≤ { s with mgt.num := [(E.queueSaveBytes * 256, 64)] }.num (E.queueSaveBytes + 0) 0 ∧
        (s.q 0).state.alive = true ∧ (z.q 0).state.alive = false ∧ (z.q 0).state ≠ .killing) ∧
    (let s := { zq { qRun with state := .preempting } with mgt.num := [(E.queueSaveBase * 256, 0x2000)] };
      (s.q 0).state = .preempting ∧ s.preemptSettled 0 = true ∧ s.plansOfQueue 0 = [] ∧ (s.q 0).resumePending = false ∧
        (s.writeV 0 (s.num (E.queueSaveBase + 0) 0) (s.q 0).saveHeader).1 = 0 ∧ s.unitGoes 9 0 (queuePreempted 0)) ∧
    (let s := zq { qRun with state := .preempted, savedNone := true };
      (s.q 0).state = .preempted ∧ (s.q 0).resumePending = false ∧ (s.q 0).savedNone = true) ∧
    (zq { qRun with state := .killed }).q 0 = { qRun with state := .killed } ∧
    (let s := { zq { qRun with timerOn := true, timerLimit := 1 } with time.mono := 1000 };
      s.timerCounts 0 = true ∧ (s.q 0).timerLimit * 1000 ≤ s.time.mono - (s.q 0).timerAt ∧ z.time.mono - (s.q 0).timerAt < (s.q 0).timerLimit * 1000) := by decide

/-- Function 0 and its partition 0 in time-sliced mode, with work in queue 0. -/
def zt (q : Queue) (ending : Bool) : State :=
  { z with fe.queues := [(0, q)], hif.parts := [(0, { PartSt.initial with holder := some 0, turnEnding := ending })], mgt.num := [(E.partitionShareMode * 256, 1), (E.partitionSlice * 256, 1)] }

theorem hyps_TimeSlices :
    (let s := zt { qRun with state := .killing, write := 1 } true;
      s.num (E.partitionShareMode + 0) = 1 ∧ (s.part 0).holder = some 0 ∧ s.turnVoid 0 0 = false ∧ (∀ q ∈ queuesOfFn 0, (s.q q).state ≠ .running ∧ (s.q q).state ≠ .preempting) ∧
        (s.part 0).turnEnding = true ∧ s.nextTurn 0 (some 0) = some 0 ∧ (∀ q ∈ queuesOfFn 0, (s.q q).slicePreempt = false)) ∧
    (let s := zt { qRun with write := 1 } false;
      s.turnVoid 0 0 = false ∧ (s.part 0).turnEnding = false ∧ s.turnNs 0 0 ≤ { s with time.mono := 10 ^ 9 }.time.mono - (s.part 0).turnAt ∧ s.time.mono - (s.part 0).turnAt < s.turnNs 0 0) := by
  decide

/-- A node of 64 bytes of a type. -/
def nd (ty : Nat) (l : List (Nat × Nat)) : Node := node (record 64 ((0, ty) :: l))

/-- Queue 0 with one node, fetched and alone. -/
def zf (n : Node) : State := { zr with fe.queues := [(0, { qRun with write := 1, fetch := 1 })], fe.nodes := [(0, n)], fe.nextNode := 1 }

/-- A graph of queue 0 with one node at 0x1800. -/
def graph0 : Graph :=
  { queue := 0, ring := 0, call := some 0, plan := none, depth := 1, header := 0x1000, edition := 0, nodes := 0x1800, count := 1, preds := 0, predEntries := 0, args := 0, fetched := 0 }

theorem hyps_NodesOfTheFrontEnd :
    (let s := { zq { qRun with write := 1 } with mem := [] };
      (s.q 0).state = .running ∧ s.mayRun 0 = true ∧ (s.fn 0).gate = .opened ∧ (s.q 0).fetch ≠ (s.q 0).write ∧ ((s.q 0).fetch + 2 ^ 32 - (s.q 0).read) % 2 ^ 32 < 256 ∧
        s.ringOf 0 = some (0x4000, 256) ∧ s.unitGoes 6 0 (nodeFetch 0 none) ∧ s.translate 0 (0x4000 + 64 * (0 % 256)) .read = .ok 0 0x4000 ∧ s.pocPoison 0x4000 64 = false ∧
        { s with hif.tcache := [] }.translate 0 (0x4000 + 64 * (0 % 256)) .read = .bad 0x01) ∧
    (let s := { zr with fe.graphs := [(0, graph0)] };
      s.fe.graphs.get? 0 = some graph0 ∧ graph0.fetched < graph0.count ∧ graph0.fetched < s.oldestIndex 0 graph0 + 256 ∧ s.unitGoes 6 0 (nodeFetch 0 (some 0)) ∧
        s.translate 0 (graph0.nodes + 64 * graph0.fetched) .read = .ok 0 0x1800 ∧ s.pocPoison 0x1800 64 = false ∧
        fieldAt ({ s with mem := [(0x1802, 5#8)] }.pocRead 0x1800 64) 2 2 - 4 = 1 ∧ ({ s with mem := [(0x1802, 5#8)] }.feRead 0 (graph0.preds + 2 * 0) 2 (some (0, .graph 0 0))).1 ≠ .wait) ∧
    ((zf (nd 0 [])).nodeStarts 0 0 (nd 0 []) ∧ (zf (nd 0 [])).unitGoes 5 0 (nodeNop 0) ∧ (zf (nd 0 [])).ringNode 0 ((zf (nd 0 [])).q 0).read = some (0, nd 0 []) ∧ ((zf (nd 0 [])).q 0).read ≠ ((zf (nd 0 [])).q 0).write ∧
      (((zf (nd 0 [])).q 0).read + 1) % 2 ^ 32 = ((zf (nd 0 [])).q 0).write) ∧
    (let n := { nd 0 [] with graph := some 0 };
     let s := { zf n with fe.graphs := [(0, graph0)] };
      s.nodeStarts 0 0 n ∧ s.unitGoes 5 0 (nodeNop 0) ∧ s.fe.graphs.get? 0 = some graph0 ∧ graph0.plan = none) ∧
    (let n := { nd 9 [] with status := .running, done := true };
      n.status = .running ∧ ((zf n).q 0).state.completes = true ∧ (zf n).l2.refused = none ∧ (zf n).nodeMet 0 n = true ∧ (zf n).nodeMet 0 { n with done := false } = false ∧
        (zf n).ringNode 0 ((zf n).q 0).read = some (0, n)) ∧
    (let n := { nd 7 [] with status := .running };
     let s := { zf n with fe.graphs := [(0, { graph0 with fetched := 1 })] };
      s.nodeMet 0 n = true ∧ s.unitGoes 5 0 (nodeComplete 0) ∧ (s.callGraph 0).isSome = true) := by decide

theorem hyps_NodesOfTheFrontEnd_rest :
    (let n := { nd 0 [] with check := 4 };
      (zf n).canStart n = true ∧ (zf n).heldBack 0 n = false ∧ (zf n).queueTurn 0 = true ∧ (zf n).fnTurn 0 = true ∧ n.check ≠ 0 ∧ (zf n).unitGoes 5 0 (nodeNop 0)) ∧
    (let n := nd 4 [(0x1C, 6)];
      (zf n).nodeStarts 0 4 n ∧ n.get 0x18 4 < 2 ^ 29 ∧ handleChip (n.get 0x18 4) (zf n).fab.chipId = none ∧ [1, 2, 4, 6].contains (n.get 0x1C 1) = true) ∧
    (let n := nd 5 [(0x1C, 5)];
      (zf n).nodeStarts 0 5 n ∧ [0, 3, 5].contains (n.get 0x1C 1) = true ∧ 2 ^ 29 ≤ (nd 5 [(0x1B, 0x20)]).get 0x18 4) ∧
    (let n := nd 9 [(0x21, 0x10)];
      (zf n).nodeStarts 0 9 n ∧ (zf n).unitGoes 5 0 (nodeMark 0) ∧ n.get 0x20 8 ≠ 0 ∧ (nd 9 []).get 0x20 8 = 0 ∧ (zf n).translate 0 (n.get 0x20 8) .write = .ok 0 0x1000 ∧ 0x1000 + 8 ≤ memSize ∧
        (∀ l ∈ linesOf 0x1000 8, (zf n).l2.dir.get? l = none) ∧ { zf n with hif.tcache := [] }.translate 0 (n.get 0x20 8) .write = .bad 0x01) := by decide

/-- A pin that goes well. -/
def pins (x : Pinned) : Bool :=
  match x with
  | .ok _ _ => true
  | _ => false

/-- A graph header at 0x1000 with the edition record at 0x1400. -/
def graphMem : List Host.Cell := [(0x1000, 1#8), (0x1011, 0x14#8), (0x1409, 0x18#8), (0x1410, 1#8)]

/-- A collective group of this chip and chip 1: n 2, rank 0. -/
def group2 : List Byte := record 16 [(2, 2), (8, 0xFF), (9, 0xFF), (10, 1)]

theorem hyps_LaunchesAndGraphs :
    (let n := nd 1 [(0x19, 0x10)];
     let s := { zf n with mgt.num := [(E.partitionQmask * 256, 1)], mem := [(0x1000, 1#8), (0x1001, 1#8), (0x1002, 1#8), (0x1004, 1#8), (0x1020, 8#8)] };
      s.nodeStarts 0 1 n ∧ s.unitGoes 5 0 (nodeLaunch 0) ∧ n.get 0x18 8 % 64 = 0 ∧ s.translate 0 (n.get 0x18 8) .read = .ok 0 0x1000 ∧ s.pocPoison 0x1000 64 = false ∧ codeHeaderOk (s.pocRead 0x1000 64) = true ∧
        (s.coresOf (s.fnPart 0)).any (fun c => (s.core c).takesWidth (fieldAt (s.pocRead 0x1000 64) 1 1)) = true ∧ codeHeaderOk (zeroBytes 64) = false) ∧
    (let n := { nd 1 [] with status := .running };
     let s := { zf n with mgt.num := [(E.partitionQmask * 256, 1)], fe.launches := [(0, { launch0 with placed := 0 })] };
      s.fe.launches.get? 0 = some { launch0 with placed := 0 } ∧ s.mayRun 0 = true ∧ s.launchHeldBack 0 { launch0 with placed := 0 } = false ∧
        s.coreFor { launch0 with placed := 0 } = some 0) ∧
    (let n := nd 7 [(0x19, 0x10)];
     let s := { zf n with mem := graphMem };
      s.nodeStarts 0 7 n ∧ s.unitGoes 5 0 (nodeCall 0) ∧ pins (s.pin 0 0 (some 0) none 1 (n.get 0x18 8) (n.get 0x20 8) (.node 0)) = true ∧ (nd 7 [(0x18, 1)]).get 0x18 8 % 64 ≠ 0) ∧
    (let n := nd 8 [];
      (zf n).nodeStarts 0 8 n ∧ (zf n).l2.refused = none ∧ (∀ e ∈ ((zf n).q 0).savedPlans, e.1 ≠ 0) ∧ (zf n).freePlanCtx = some 0) ∧
    (let n := nd 6 [(0x28, 2), (0x2C, 2)];
     let s := { zf n with fab.reachable := [1], mgt.blob := [(E.fabCgroup * 256, group2)] };
      s.nodeStarts 0 6 n ∧ s.unitGoes 5 0 (nodeCollect 0) ∧ z.groupEntry 0 = [] ∧ s.fab.colls.get? 0 = none ∧ { s with fab.reachable := [] }.groupState 0 ≠ 1 ∧ s.groupState 0 = 1 ∧
        rankKids (grpRank (s.groupEntry 0)) (grpMembers (s.groupEntry 0)) ≠ [] ∧
        (match s.collRead 0 (n.collHead.count * n.collHead.width / 2 ^ 16 + 2) (n.get 0x18 8) (n.collHead.count * n.collHead.width) with
         | .ok _ _ => true
         | _ => false) = true) := by decide

/-- A COPY of 16 bytes from 0x1000 to 0x2000. -/
def copyNode : Node := { nd 2 [(0x19, 0x10), (0x21, 0x20), (0x28, 16)] with status := .running }

/-- Its pieces. -/
def copy0 (pieces : List Nat) : Copy := { queue := 0, pieces := pieces, flushed := true, sent := false, signalled := false }

/-- An engine at its piece. -/
def engine0 : Engine := { node := 0, piece := 0, sent := 0, moved := 0, stopped := false, waiting := [], since := 0 }

theorem hyps_CopiesOnEngines :
    (let n := { copyNode with status := .waiting };
     let shut := { nd 2 [(0x19, 0x10), (0x22, 1), (0x28, 16)] with raw := record 64 [(0, 2), (0x19, 0x10), (0x22, 1), (0x28, 16)] };
     let s := { zf shut with hif.tcache := [page0, { fn := 0, page := 1, target := 1, frame := 2 ^ 32, r := true, w := true, x := false }] };
      (zf n).nodeStarts 0 2 n ∧ (zf n).fe.copies.has 0 = false ∧ 0 < n.get 0x28 8 ∧ (zf n).rangeUnreachable 0 .read (n.get 0x28 8 / 2 ^ 16 + 2) (n.get 0x18 8) (n.get 0x28 8) = 0 ∧
        (zf n).rangeUnreachable 0 .write (n.get 0x28 8 / 2 ^ 16 + 2) (n.get 0x20 8) (n.get 0x28 8) = 0 ∧
        s.nodeStarts 0 2 shut ∧ s.rangeUnreachable 0 .write (shut.get 0x28 8 / 2 ^ 16 + 2) (shut.get 0x20 8) (shut.get 0x28 8) ≠ 0) ∧
    (let s := { zf copyNode with fe.copies := [(0, copy0 [0])] };
      (copy0 [0]).nextPiece = some 0 ∧ s.fe.engines.has 31 = false ∧ (s.enginesOf 0).length < 8 ∧ s.l2.refused = none ∧ copyNode.status = .running ∧ s.mayRun 0 = true ∧ s.copyHeldBack 0 (copy0 [0]) = false ∧
        s.pieceRemote 0 pieceFuel (copyNode.piece 0).1 (copyNode.piece 0).2.1 (copyNode.piece 0).2.2 = false ∧ { s with fe.engines := [(31, engine0)] }.fe.engines.has 31 = true) ∧
    (let s := { zf copyNode with fe.copies := [(0, copy0 [1])], fe.engines := [(31, engine0)] };
     let p := copyNode.piece 0;
      s.fe.engines.get? 31 = some engine0 ∧ s.fe.copies.get? 0 = some (copy0 [1]) ∧ (s.q 0).state.completes = true ∧ s.unitGoes 1 31 (dmaPieceComplete 31) ∧ 0 < p.2.2 ∧ p.1 % 2 ^ 16 + p.2.2 ≤ 2 ^ 16 ∧ p.2.1 % 2 ^ 16 + p.2.2 ≤ 2 ^ 16 ∧ copyNode.copyAlloc = false ∧
        copyNode.copySignal = false ∧ s.translate 0 p.1 .read = .ok 0 0x1000 ∧ s.translate 0 p.2.1 .write = .ok 0 0x2000 ∧ s.pocPoison 0x1000 16 = false ∧ s.tableRoom ∧
        (∀ l ∈ linesOf 0x2000 16, s.l2.dir.get? l = none) ∧ (∀ i, i < 16 → s.granulePoison ((0x2000 + i) / 16) = false) ∧
        { s with hif.tcache := [] }.translate 0 p.1 .read = .bad 0x01) ∧
    (let c := { copy0 [2] with flushed := false };
     let s := { zf copyNode with fe.copies := [(0, c)], hif.fns := [(0, { FnSt.initial with gate := .opened, busMaster := true })] };
      s.fe.copies.get? 0 = some c ∧ (∀ p ∈ c.pieces, p = 2) ∧ s.hostLink 0 = true) := by decide

/-- A plan context at 0x1000, a0 to a2 and a7 given. -/
def plan0 (a0 a1 a2 a7 : Nat) : PlanCtx :=
  { queue := 0, node := 0, pc := 0x1000, wait := .none, rdata := none, code := [], since := 0, stopped := false
    x := List.replicate 10 0#64 ++ [BitVec.ofNat 64 a0, BitVec.ofNat 64 a1, BitVec.ofNat 64 a2] ++ List.replicate 4 0#64 ++ [BitVec.ofNat 64 a7] ++ List.replicate 14 0#64 }

/-- Queue 0 with a PLAN node that runs the word at 0x1000. -/
def zx (w : Nat) (p : PlanCtx) : State :=
  { zf { nd 8 [] with status := .running } with fe.plans := [(0, p)], mem := cells 0x1000 (leBytes 4 w) ++ [(0x2000, 1#8), (0x2011, 0x24#8), (0x2409, 0x28#8), (0x2410, 1#8)] }

/-- What a fetch of the plan's word brings. -/
def fetches (w : Nat) : Bool :=
  match (zx w (plan0 0 0 0 0)).planFetch 0 (plan0 0 0 0 0) with
  | .inr (v, n, _) => decide (v = w ∧ n = 4) && decide ((zx w (plan0 0 0 0 0)).unitGoes 2 0 (controlCoreInstruction 0))
  | .inl _ => false

/-- The call or the fault of the plan's word. -/
def callOf (s : State) : Option (Bool × Nat) :=
  match s.planStep 0 ((s.fe.plans.get? 0).getD (plan0 0 0 0 0)) with
  | .call n => some (true, n)
  | .fault c => some (false, c)
  | _ => none

theorem hyps_PlanPrograms :
    (∀ w ∈ [0x00150513, 0x0015051B, 0x00B50533, 0x00B5053B, 0x00001537, 0x00001517, 0x004000EF, 0x000500E7, 0x00B50463, 0x00052503, 0x00B52023], fetches w = true) ∧
    ((plan0 8 0 0 0).x.length = 32 ∧ (plan0 8 0 0 0).r 0 = 0#64 ∧ (zx 0 (plan0 8 0 0 0)).mayRun 0 = true) ∧
    ((Rv.arith 0x00150513 8#64 0#64).isSome = true ∧ (Rv.branch 0 8#64 8#64).isSome = true ∧ Rv.accessBytes false 2 = some 4 ∧ Rv.accessBytes true 2 = some 4 ∧
      (zx 0x00052503 (plan0 0x3000 0 0 0)).translate 0 0x3000 .read = .ok 0 0x3000 ∧ (zx 0x00052503 (plan0 0x3000 0 0 0)).pocPoison 0x3000 4 = false) ∧
    (let s := { zx 0x00B52023 (plan0 0x3000 0 0 0) with l2.dir := [(0x60, dir0)] };
      s.translate 0 0x3000 .write = .ok 0 0x3000 ∧ s.l2.dir.get? (0x3000 / 128) = some dir0) ∧
    (∀ k ∈ [0, 1, 2, 3, 4, 5], callOf (zx 0x73 (plan0 0 0 0 k)) = some (true, k)) ∧ callOf (zx 0 (plan0 0 0 0 0)) = some (false, 4) := by decide

theorem hyps_PlanPrograms_rest :
    ((zx 0x73 (plan0 0x2000 0 0 1)).inWait 0 = some (plan0 0x2000 0 0 1) ∧ (zx 0x73 (plan0 0x2000 0 0 1)).atCall 0 1 = some (plan0 0x2000 0 0 1) ∧
      (zx 0x73 (plan0 0x2000 0 0 1)).unitGoes 2 0 (planLaunch 0) ∧ (zx 0x73 (plan0 0x2000 0 0 1)).nextHandle 0 = some 0 ∧ pins ((zx 0x73 (plan0 0x2000 0 0 1)).pin 0 0 none (some (0, 0)) 1 0x2000 0 (.node 0)) = true) ∧
    (let hs : SMap Nat := (List.range 16).map (fun i => (i, i));
     let s := { zx 0x73 (plan0 0x2000 0 0 1) with fe.handles := [(0, hs)], fe.graphs := (List.range 16).map (fun i => (i, graph0)) };
      s.nextHandle 0 = none ∧ s.unitGoes 2 0 (planLaunch 0)) ∧
    (let s := { zx 0x73 (plan0 0 0 0 2) with fe.handles := [(0, [(0, 0)])] };
      s.atCall 0 2 = some (plan0 0 0 0 2) ∧ (s.handlesOf 0).get? 0 = some 0 ∧ s.fe.graphs.has 0 = false ∧ { s with fe.graphs := [(0, graph0)] }.fe.graphs.has 0 = true) ∧
    (let p := plan0 0 5 0 3;
      (zx 0x73 p).atCall 0 3 = some p ∧ (p.r 11).toNat ≤ 6 ∧ (p.r 10).toNat < 2 ^ 29 ∧ handleChip (p.r 10).toNat (zx 0x73 p).fab.chipId = none ∧ 6 < ((plan0 0 7 0 3).r 11).toNat) := by
  decide

/-- A free-standing object of a type, owned by function 0. -/
def object (ty : ObjType) (v : Nat) (ws : List Waiter) : SynObj :=
  { type := ty, owner := 0, access := 0, code := 0, value := v, saturated := false, participants := 2, arrivals := 0, generation := 0, mirror := none, notify := none, waiters := ws }

/-- A wait of the threads of slot 0 of core 0. -/
def wait0 (op v : Nat) : Waiter := { who := .core 0 0 3 6 0 0, queue := 0, op := op, value := v, scope := 2 }

/-- An object that an operation reaches. -/
def zs (x : SynObj) (m : SynMsg) : State := { zr with syn.objs := [(0, x)], syn.inbound := [m] }

theorem hyps_SyncOperations :
    ((zs (object .fence 3 [wait0 1 5, wait0 2 4]) (m0 0 5)).applies 0 (m0 0 5) (object .fence 3 [wait0 1 5, wait0 2 4]) ∧
      ∀ w ∈ (object .fence 3 [wait0 1 5, wait0 2 4]).waiters, w.op = 1 ∨ w.op = 2) ∧
    (zs (object .sem 0xFFFFFFFF [wait0 4 0]) (m0 3 1)).applies 0 (m0 3 1) (object .sem 0xFFFFFFFF [wait0 4 0]) ∧
    (let x := { object .bar 0 [wait0 6 0] with arrivals := 1 };
      (zs x (m0 5 0)).applies 0 (m0 5 0) x ∧ (∀ w ∈ x.waiters, w.op = 6) ∧ x.arrivals + 1 = x.participants ∧ (∀ w ∈ x.waiters, w.value % 2 ^ 32 = x.generation) ∧
        (object .bar 0 [wait0 6 0]).arrivals + 1 ≠ x.participants ∧ x.generation < 2 ^ 32) ∧
    (let x := { object .fence 3 [] with code := 0x10 };
      (zs x (m0 0 5)).applies 0 (m0 0 5) x ∧ (m0 0 5).op < 16 ∧ x.code ≠ 0) ∧
    (let s := zs (object .fence 3 [wait0 1 5]) (m0 17 0);
      s.syn.inbound[0]? = some (m0 17 0) ∧ firstOfObj s.syn.inbound 0 0 = true ∧ (object .fence 3 [wait0 1 5]).quiet ∧ 16 < (m0 17 0).op ∧ s.admitsFn (object .fence 3 []) 0 = true) ∧
    (let s := { zr with syn.inbound := [m0 0 5, m0 0 6] };
      s.syn.inbound[0]? = some (m0 0 5) ∧ firstOfObj s.syn.inbound 0 0 = true ∧ (s.q 0).state.alive = true ∧ s.syn.objs.get? 0 = none ∧ s.syn.inbound[1]? = some (m0 0 6) ∧
        firstOfObj s.syn.inbound 1 0 = false) ∧
    (ObjType.defines .sem 0 = false ∧ zr.admitsFn (object .fence 0 []) 1 = false) := by decide

/-- A wait on its way to an object. -/
def zw (x : SynObj) (w : Waiter) : State := { zr with syn.objs := [(0, x)], syn.registering := [(0, w)], syn.retrying := [(0, w)] }

/-- A release on its way to a waiter. -/
def zo (who : WaiterWho) (status : Nat) (isWait : Bool) : State := { zc g0 [] with syn.outbound := [{ who := who, queue := 0, status := status, isWait := isWait, scope := 2 }] }

/-- The waits at the only object. -/
theorem semWaiters_one (ws : List Waiter) (w : Waiter) : (zw (object .sem 0 ws) w).semWaiters = ws.length := by
  simp [State.semWaiters, zw, object, SMap.vals, sumNat]

theorem hyps_SyncWaits :
    (let s := zw (object .fence 3 []) (wait0 1 4);
      s.syn.registering[0]? = some (0, wait0 1 4) ∧ s.syn.objs.get? 0 = some (object .fence 3 []) ∧ (object .fence 3 []).quiet ∧ ObjType.defines .fence 1 = true ∧
        s.admitsFn (object .fence 3 []) 0 = true ∧ (object .fence 3 []).holdsFor (wait0 1 4) = false ∧ (object .fence 3 []).holdsFor (wait0 1 3) = true) ∧
    (let s := zw (object .sem 0 []) (wait0 4 0);
      ObjType.defines .sem 4 = true ∧ s.admitsFn (object .sem 0 []) 0 = true ∧ 1 ≤ (object .sem 1 []).value ∧ s.semWaiters < 8192 ∧ s.syn.retrying[0]? = some (0, wait0 4 0)) ∧
    8192 ≤ (zw (object .sem 0 (List.replicate 8192 (wait0 4 0))) (wait0 4 0)).semWaiters ∧
    (let s := { zr with syn.registering := [(0, wait0 1 4)] };
      s.syn.objs.get? 0 = none ∧ (s.q 0).state.alive = true) := by
  refine ⟨by decide, by decide, ?_, by decide⟩
  rw [semWaiters_one, List.length_replicate]

theorem hyps_SyncWaits_rest :
    (let s := zo (.core 0 0 3 6 0 0) 0 true;
      s.syn.outbound[0]? = some { who := .core 0 0 3 6 0 0, queue := 0, status := 0, isWait := true, scope := 2 } ∧ (s.core 0).groups.get? 0 = some g0 ∧ g0.queue = 0 ∧ g0.faulted = false) ∧
    (let s := { zo (.node 0) 0x10 true with fe.nodes := [(0, nd 4 [])] };
      s.fe.nodes.get? 0 = some (nd 4 []) ∧ 0x10 % 256 ≠ 0 ∧ (s.q 0).state.alive = true ∧ (nd 4 []).type ≠ 2) ∧
    (let s := { zo (.plan 0) 0 true with fe.plans := [(0, plan0 0 0 0 3)] };
      s.fe.plans.get? 0 = some (plan0 0 0 0 3) ∧ (plan0 0 0 0 3).queue = 0 ∧ (plan0 0 0 0 3).x.length = 32) ∧
    ((zo (.remote 7 9) 0 true).syn.outbound[0]? = some { who := .remote 7 9, queue := 0, status := 0, isWait := true, scope := 2 }) ∧
    (let s := { zc { g0 with stopped := true } [] with syn.objs := [(0, object .fence 3 [wait0 1 5])] };
      (s.core 0).groups.get? 0 = some { g0 with stopped := true } ∧ (∀ r ∈ s.syn.outbound, (r.isWait && r.who.isGroup 0 0) = false) ∧
        s.syn.objs.get? 0 = some (object .fence 3 [wait0 1 5]) ∧ (wait0 1 5).who.isGroup 0 0 = true) := by decide

/-- A command word to the sync unit on object 5. -/
def cmd (code type part param : Nat) : Nat := code * 2 ^ 60 + type * 2 ^ 58 + param * 2 ^ 48 + part * 2 ^ 32 + 5

theorem hyps_SyncCommands :
    (let v := cmd 0 2 2 0;
     let s := { z with mgt.num := [(E.syncRange * 256, 0x10000)] };
      s.heldOf 0 = [] ∧ cmdObj v = 5 ∧ cmdCode v = 0 ∧ cmdType v ≠ 3 ∧ cmdParam v = 0 ∧ (cmdType v = 2 ↔ cmdPart v ≠ 0) ∧ s.inRange (s.fnPart 0) 5 = true ∧ s.syn.objs.has 5 = false ∧
        s.inRange 0 256 = false) ∧
    (∀ k ∈ [1, 2, 4, 5], cmdObj (cmd k 0 0 0) = 5 ∧ cmdCode (cmd k 0 0 0) = k ∧ cmdPlain (cmd k 0 0 0) = true ∧ cmdParam (cmd k 0 0 0) = 0) ∧
    ((object .fence 3 []).quiet ∧ (object .fence 3 []).owner = 0 ∧ z.admitsFn (object .fence 3 []) 0 = true ∧ (object .fence 3 []).code < 256) ∧
    (cmdCode (cmd 2 0 0 5) = 2 ∧ cmdParam (cmd 2 0 0 5) = 5 ∧ (object .bar 0 []).arrivals + 1 ≠ (object .bar 0 []).participants) ∧
    (cmdCode (cmd 3 0 0 0x11) = 3 ∧ 1 ≤ cmdParam (cmd 3 0 0 0x11) ∧ cmdParam (cmd 3 0 0 0x11) ≤ 0x11 ∧ cmdPlain (cmd 3 0 0 0x11) = true) ∧
    (cmdCode (cmd 6 0 0 0) = 6 ∧ (z.fn 0).synArg % 16 = 0) ∧
    (cmdCode (cmd 7 0 0 63) = 7 ∧ cmdParam (cmd 7 0 0 63) < vectorsOf 0 ∧ (z.fn 0).gate = .opened ∧ (object .fence 3 []).notifies 4 = false ∧ (object .fence 3 []).notifies 3 = true) ∧
    (let x := { object .fence 3 [] with mirror := some (0, 16 * 256) };
     let s := zs x (m0 0 5);
      firstOfObj s.syn.inbound 0 0 = true ∧ s.syn.objs.get? 0 = some x ∧ x.value < (m0 0 5).value ∧ s.translate 0 (16 * 256) .write = .ok 0 (16 * 256) ∧
        s.l2.dir.get? (256 / 8) = none ∧ s.granulePoison 256 = false) ∧
    (z.deviceCheck oob (E.syncRange + 63) = 0 ∧ { z with mgt.num := [(E.syncRange * 256, 0)] }.syncRangeStatus 63 0x10000 = 0 ∧ bits 0x10000FF 24 16 ≤ 256 ∧ 256 < bits 0x10000FF 7 0 + bits 0x10000FF 24 16) := by decide

/-- Function 1 of one enabled virtual function, with a gate. -/
def zg (x : FnSt) : State := { z with hif.vfEnable := true, hif.numVfs := 1, hif.fns := [(0, { FnSt.initial with gate := .opened }), (1, x)] }

theorem hyps_FunctionGates :
    ((zg FnSt.initial).fnExists 1 = true ∧ (zg FnSt.initial).configLive = true ∧ z.deviceCheck oob (E.fnReset + 255) = 0 ∧ ((zg FnSt.initial).fn 1).reset = none) ∧
    (let s := zg { FnSt.initial with gate := .resetting, reset := some { kind := 5, since := 0, partition := 0 } };
      (s.fn 1).reset = some { kind := 5, since := 0, partition := 0 } ∧ (∀ q ∈ queuesOfFn 1, (s.q q).state = .resetting → (s.q q).settled = true) ∧
        (∀ r ∈ s.fab.reqs.vals, fnOfQueue r.queue ≠ 1) ∧ s.unitGoes 12 1 (flrComplete 1)) ∧
    (z.deviceCheck oob (E.fnEnable + 0) = 0 ∧ (z.fn 0).gate = .opened ∧ ((zg FnSt.initial).fn 1).gate = .disabled ∧ (zg FnSt.initial).deviceCheck oob (E.fnEnable + 1) = 0) ∧
    (let s := { zf (nd 9 []) with hif.fns := [(0, { FnSt.initial with gate := .draining })] };
      (s.fn 0).gate = .draining ∧ s.inFlight 0 = true ∧ (s.q 0).state.alive = true ∧ (0 < s.num (E.queueTimeout + 0) 0) ∧
        (s.fn 0).disableAt + min (s.num (E.queueTimeout + 0) 0) 1000000 * 1000 ≤ { s with time.mono := 10 ^ 9 }.time.mono) ∧
    (let s := zg { FnSt.initial with gate := .draining };
      (s.fn 1).gate = .draining ∧ (s.fn 1).pointReached = false ∧ (queuesOfFn 1).any s.inFlight = false) ∧
    (let s := zg { FnSt.initial with gate := .draining, pointReached := true };
      (s.fn 1).pointReached = true ∧ (∀ r ∈ s.fab.reqs.vals, fnOfQueue r.queue ≠ 1) ∧ (∀ k ∈ s.cores.vals, ∀ e ∈ k.sb, fnOfQueue e.queue ≠ 1) ∧ (∀ o ∈ s.syn.objs, o.2.owner ≠ 1) ∧ s.unitGoes 12 1 (disableComplete 1)) := by decide

theorem hyps_PartitionsAndSlabs :
    (z.deviceCheck oob (E.partitionReset + 63) = 0 ∧ z.unitGoes 13 63 (partitionReset oob 63) ∧ z.unitGoes 13 0 (partitionReset oob 0) ∧ z.boundFns 63 = [] ∧ z.boundFns 0 = [0]) ∧
    (z.deviceCheck oob (E.partitionQmask + 63) = 0 ∧ (∀ o, o < 64 → o ≠ 63 → natAnd 64 ({ z with mgt.num := [(E.partitionQmask * 256, 1)] }.qmask o) (2 ^ 63) = 0) ∧ (∀ f ∈ z.boundFns 63, (z.fn f).gate = .disabled) ∧
      (∀ c ∈ z.coresOf 63, (z.core c).blocks = []) ∧ { z with mgt.num := [(E.partitionQmask * 256, 1)] }.unitGoes 13 63 (partitionQmaskWrite oob 63 (2 ^ 63)) ∧ z.l2.refused = none ∧ ∃ f ∈ z.boundFns 0, (z.fn f).gate ≠ .disabled) ∧
    (z.deviceCheck oob (E.slabOwner + 959) = 0 ∧ z.num (E.slabOwner + 959) = 255 ∧ 959 ∉ z.hif.zeroing ∧ z.stk.rowZeroing.has (959 / 20) = false ∧ z.slabInFailed 959 = false ∧ z.unitGoes 14 959 (slabGrant oob 959 63) ∧
      959 ∈ { z with hif.zeroing := [959] }.hif.zeroing) ∧
    (let s := { z with mgt.num := [((E.slabOwner + 959) * 256, 63)], hif.parts := [(63, { PartSt.initial with slabs := [959] })] };
      s.num (E.slabOwner + 959) = 63 ∧ (∀ f ∈ s.boundFns 63, (s.fn f).gate = .disabled) ∧ 959 ∈ (s.part 63).slabs ∧ s.unitGoes 14 959 (slabRelease oob 959)) ∧
    { z with hif.zeroing := [959] }.unitGoes 14 959 (slabZeroComplete 959) ∧
    ({ z with mgt.num := [((E.slabOwner + 959) * 256, 0)] }.num (E.slabOwner + 959) = 0) ∧
    (let s := { z with mgt.num := [((E.partitionQmask + 63) * 256, 1)] };
      s.deviceCheck oob (E.fnPartition + 255) = 0 ∧ (s.fn 255).gate = .disabled ∧ s.qmask 63 ≠ 0) ∧
    (z.configLive = true ∧ z.hif.vfEnable = false ∧ (zg FnSt.initial).configLive = true ∧ (zg FnSt.initial).hif.vfEnable = true ∧ (z.fn 0).reset = none) := by decide

/-- A vector with a message. -/
def vec0 (due pending : Bool) : Vector := { addr := 0x1000, data := 7, masked := false, pending := pending, due := due, sent := 0, lastAt := some 0 }

/-- Function 0 that may send, and its vector 63. -/
def zz (v : Vector) (gate : Gate) : State := { z with hif.vecs := [(63, v)], hif.fns := [(0, { FnSt.initial with gate := gate, busMaster := true, msixEnable := true })] }

theorem hyps_MessagesAndTranslations :
    (63 < vectorsOf 0 ∧ ((zz (vec0 true false) .opened).vec 0 63).due = true ∧ ((zz (vec0 true false) .opened).fn 0).gate = .opened ∧
      ((zz (vec0 true false) .opened).fn 0).maySend = true ∧ ((zz (vec0 true false) .opened).vec 0 63).masked = false ∧ (zz (vec0 true false) .opened).hif.linkUp = true ∧
      (zz (vec0 true false) .opened).moderated 0 63 = true ∧ { zz (vec0 true false) .opened with mgt.num := [((E.vectorModeration + 63) * 256, 1)] }.moderated 0 63 = false ∧
      ((zz (vec0 true false) .opened).vec 0 63).lastAt.isSome = true ∧ (z.fn 0).maySend = false ∧ ((zz (vec0 true false) .resetting).fn 0).gate = .resetting) ∧
    ((zz (vec0 false true) .opened).configLive = true ∧ ((zz (vec0 false true) .opened).vec 0 63).pending = true ∧ ((zz (vec0 false true) .opened).fn 0).d3hot = false) ∧
    ((zg { FnSt.initial with d3hot := true }).fnExists 1 = true ∧ ((zg { FnSt.initial with d3hot := true }).fn 1).d3hot = true) ∧
    (z.barState 0 = .opened ∧ bit (41 * 256 + 1) 0 = true ∧ bit (41 * 256 + 1) 1 = false ∧ bits (41 * 256 + 1) 13 8 ≤ 41 ∧ (z.fn 0).invBusy = false ∧
      (z.fn 0).invAddr / 2 ^ 16 % 2 ^ bits (41 * 256 + 1) 13 8 = 0 ∧ bit 3 1 = true ∧ 41 < bits (42 * 256 + 1) 13 8) ∧
    (let s := { z with hif.fns := [(0, { FnSt.initial with gate := .opened, invBusy := true, invWaits := [(0, 5)] })] };
      (s.fn 0).invBusy = true ∧ (∀ w ∈ (s.fn 0).invWaits, s.accessOpen w = false) ∧ ∃ w ∈ (s.fn 0).invWaits, { s with l2.loads := [(5, load0)] }.accessOpen w = true) ∧
    (let s := { z with hif.fns := [(0, { FnSt.initial with gate := .opened, atsEnabled := true })] };
      s.hif.linkUp = true ∧ (s.fn 0).atsEnabled = true ∧ s.hif.atsInvs.length < 32 ∧ s.hostAccesses 0 = []) ∧
    (let l := { load0 with accs := [{ thread := 0, va := 256, off := 0, n := 4, target := 2, pa := 256 }], got := [] };
     let s := { zr with hif.fns := [(0, { FnSt.initial with gate := .opened, atsEnabled := true })], l2.loads := [(5, l)] };
      s.hif.linkUp = true ∧ (s.fn 0).atsEnabled = true ∧ fnOfQueue l.queue = 0 ∧ (∃ a ∈ l.accs, a.target = 2 ∧ a.pa / 2 ^ 16 = 0 ∧ l.got.has (lineKey 2 (a.pa / 128)) = false) ∧
        (s.q l.queue).state.alive = true) ∧
    (let s := { z with hif.linkUp := false };
      s.hif.linkUp = false ∧ s.sup.perst = false ∧ s.sup.d19Reset = false ∧ s.sup.mainPg = true) := by decide

theorem hyps_Attestation :
    (let s := { z with hif.certs := [(7, [1#8, 2#8])] };
      s.configLive = true ∧ 1 < (s.chain 7).length ∧ (s.chain 7).length < 65536 ∧ (s.chain 7).length ≤ 2 ∧ s.chain 7 ≠ [] ∧ (zeroBytes 32).length = 32 ∧ ([] : List Byte).length ≠ 32) := by decide

/-- Link 31 in a state. -/
def zl (l : Link) : State := { z with fab.links := [(31, l)] }

/-- A packet of chip 7 to this chip. -/
def pkt0 (type op addr : Nat) (data : List Byte) : Packet :=
  { type := type, src := 7, dst := 0xFFFF, seq := 0xFFFFFFFF, key := 9, srcFn := 0, op := op, addr := addr, data := data, poison := 0 }

/-- A request of this chip to chip 7. -/
def req0 (issuer : Issuer) : Req :=
  { pkt := { type := 1, src := 0xFFFF, dst := 7, seq := 0xFFFFFFFF, key := 9, srcFn := 0, op := 0, addr := 0, data := [], poison := 0 }, queue := 0, issuer := issuer, link := 31, via := none, sentAt := 0 }

theorem hyps_LinksAndRoutes :
    ((zl Link.initial).num (E.linkEnable + 31) = 1 ∧ ((zl Link.initial).link 31).state ≤ 1 ∧ z.sup.mainPg = true ∧ ((zl Link.initial).link 31).attemptAt = none ∧
      ((zl { Link.initial with attemptAt := some 0 }).link 31).attemptAt = some 0 ∧ z.time.mono < 0 + 100000000) ∧
    (let s := { zl { Link.initial with state := 1 } with opt.lasers := [(0, { Laser.initial with state := 2 })], mgt.num := [(E.fabChipId * 256, 3)] };
      (s.link 31).state = 1 ∧ s.lit 31 = true ∧ s.num E.fabChipId = 3 ∧ s.num (E.fabPort + 31) = 0xFF ∧ s.fab.tieCfg = [] ∧ 7 ∉ s.fab.unreachable ∧ s.num E.fabChipId ≠ 7 ∧
        z.num E.fabChipId = 0xFFFF) ∧
    (let s := zl { Link.initial with state := 2, lanes := 3 };
      (s.link 31).state = 2 ∧ s.linkMoving 31 = false ∧ 3 ≤ (s.link 31).retrain.getD (s.link 31).lanes ∧ (s.link 31).retrain = none ∧ (s.link 31).expect = 65536 % 65536 ∧
        (s.link 31).replaying = false ∧ ((zl { Link.initial with state := 2, lanes := 2 }).link 31).retrain.getD 2 ≤ 2) ∧
    ((pkt0 0x20 0 0 []).type = 0x20 ∧ 0xFFFF % 65536 ≠ 0) ∧
    (let p := pkt0 1 0 0 [];
     let s := { z with fab.crcFails := [(p.type * 2 ^ 48 + windowKey p.src p.seq, 3)] };
      p.dst = s.fab.chipId ∧ s.fab.crcFails.getD (p.type * 2 ^ 48 + windowKey p.src p.seq) 0 = 3 ∧ s.arrives p 1 ∧ z.arrives { p with type := 3 } 3 ∧
        z.fab.crcFails.getD (p.type * 2 ^ 48 + windowKey p.src p.seq) 0 < 3) ∧
    (let s := { zl { Link.initial with state := 2 } with fab.reqs := [(0, req0 (.sync (.node 0) false 4))], time.mono := 25000 };
      s.fab.reqs.get? 0 = some (req0 (.sync (.node 0) false 4)) ∧ (req0 (.sync (.node 0) false 4)).sentAt + 25000 ≤ s.time.mono ∧ (s.link 31).state = 2 ∧ z.time.mono < 0 + 25000) ∧
    (let s := { z with fab.chipId := 3 };
      (pkt0 0x20 0 0 []).src / 16 = s.fab.chipId / 16) ∧
    (let s := { zr with fab.lostSince := [(7, 0)], time.mono := 50000, fab.reqs := [(0, req0 (.sync (.node 0) false 4))] };
      s.fab.lostSince.get? 7 = some 0 ∧ 0 + 50000 ≤ s.time.mono ∧ z.time.mono < 0 + 50000 ∧ (req0 (.sync (.node 0) false 4)).pkt.dst = 7 ∧ (s.q 0).state.alive = true) ∧
    (let s := zl { Link.initial with state := 2 };
      7 ∉ s.fab.reachable ∧ s.upLinks ≠ [] ∧ 7 ≠ s.fab.chipId) := by decide

/-- Function 0 admits every kind of request of chip 7 with key 9. -/
def zb : State := { zr with mgt.blob := [(E.sliceMembers * 256, record 6 [(4, 7)]), (E.fabBind * 256, record 16 [(0, 9), (3, 0x3F)])] }

theorem hyps_RequestsOfOtherChips :
    (zb.arrives (pkt0 1 0 (2 ^ 63) []) 1 ∧ zb.admitPkt (pkt0 1 0 (2 ^ 63) []) 1 = .ok 0 ∧ zb.reach 0 (2 ^ 63) 512 .read = .at 0 ∧ zb.packetPoison 0 512 = 0 ∧ zb.l2.domainLost = false ∧ zb.hostGoes (fabricRead (pkt0 1 0 (2 ^ 63) []) 512) ∧ zb.l2.refused = none ∧
      { zb with l2.domainLost := true }.arrives (pkt0 1 0 (2 ^ 63) []) 1 ∧
      z.admitPkt (pkt0 1 0 (2 ^ 63) []) 1 = .no 1 0x02) ∧
    (let s := { zb with fab.window := [windowKey 7 0xFFFFFFFF], fab.stored := [(windowKey 7 0xFFFFFFFF, { resp := pkt0 0x11 0 0 [], since := 0 })], time.mono := 100000 };
      windowKey 7 0xFFFFFFFF ∈ s.fab.window ∧ (s.fab.stored.get? (windowKey 7 0xFFFFFFFF)).isSome = true ∧ s.time.mono ≤ 0 + 100000) ∧
    (let p := pkt0 2 0 (2 ^ 63 + 256) [1#8, 2#8];
      zb.arrives p 2 ∧ zb.admitPkt p 2 = .ok 0 ∧ zb.reach 0 p.addr 2 .write = .at 256 ∧ p.poison = 0 ∧ (∀ l ∈ linesOf 256 2, zb.l2.dir.get? l = none) ∧ Memory.wf zb.mem) := by decide

theorem hyps_RequestsOfOtherChips_atomics :
    (let p := pkt0 3 0 (2 ^ 63 + 256) (zeroBytes 16);
     let s := { zb with l2.dir := [(2, dir0)] };
      s.arrives p 3 ∧ s.admitPkt p 3 = .ok 0 ∧ s.reach 0 p.addr 4 .write = .at 256 ∧ bit p.op 7 = false ∧ bit p.op 6 = false ∧ atomOk p.op 256 = true ∧ s.homeServes (256 / 128) (.held s.l2.nextId) ∧ s.heldLine (256 / 128) = some dir0 ∧
        dir0.sharers / 2 ^ 16 = 0 ∧ s.pocPoison 256 4 = false) ∧
    (let p := pkt0 4 1 0 (leBytes 16 4);
     let x := { object .fence 3 [] with access := 3 };
     let s := { zb with syn.objs := [(0, x)] };
      s.arrives p 4 ∧ s.admitPkt p 4 = .ok 0 ∧ s.syn.objs.get? (p.addr % 65536) = some x ∧ 3 ≤ x.access ∧ x.quiet ∧ x.code = 0 ∧ x.value < fieldAt p.data 0 8 ∧ x.waiters = [] ∧ zb.syn.objs.get? (p.addr % 65536) = none ∧
        (object .fence 3 []).access < 2 ∧ s.tiedChip p.src = false ∧ { s with fab.tie := [7] }.tiedChip 7 = true) := by decide

theorem hyps_RequestsOfOtherChips_cancellation :
    (let p := pkt0 4 8 0 (leBytes 16 5);
     let w := { wait0 1 9 with who := .remote 7 5 };
     let s := { zb with syn.objs := [(3, object .fence 3 [w])] };
      p.op = 8 ∧ zb.arrives p 4 ∧ zb.admitPkt p 4 = .ok 0 ∧ zb.syn.objs = [] ∧ zb.syn.registering ++ zb.syn.retrying = [] ∧ s.arrives p 4 ∧ s.admitPkt p 4 = .ok 0 ∧
        s.syn.objs.get? 3 = some (object .fence 3 [w]) ∧ w.who = .remote p.src (fieldAt p.data 0 4)) := by decide

/-- Chip 7 is tied to this one, whose partition 0 asks for replicas; line 2 is held. -/
def zTied : State :=
  { zb with fab.chipId := 3, fab.tie := [3, 7], l2.dir := [(2, dir0)], mgt.num := parts2 }

/-- A read of that line by a member. -/
def cohPkt : Packet := { pkt0 5 0 (2 ^ 63 + 256) [] with dst := 3 }

theorem hyps_RequestsOfOtherChips_requests :
    (let p := pkt0 5 0 (2 ^ 63 + 256) [];
     let s := { zb with l2.dir := [(2, dir0)] };
      s.arrives p 5 ∧ s.admitPkt p 1 = .ok 0 ∧ s.reach 0 p.addr 128 .read = .at 256 ∧ s.l2.domainLost = false ∧ s.homeClosed (256 / 128) = false ∧ s.lineBusy (256 / 128) = false ∧
        s.l2.refused = none ∧ s.heldLine (256 / 128) = some dir0 ∧ dir0.poison = 0 ∧ s.tieBit 7 = none) ∧
    (zTied.arrives cohPkt 5 ∧ zTied.admitPkt cohPkt 1 = .ok 0 ∧ zTied.reach 0 cohPkt.addr 128 .read = .at 256 ∧ zTied.homeClosed 2 = false ∧ zTied.heldLine 2 = some dir0 ∧
      (zTied.tieBit 7).isSome = true ∧ zTied.installs 2 = true) ∧
    (let w (seq : Nat) : Nat × Packet × Nat := (zTied.homeOf 2, { cohPkt with seq := seq, addr := 256 }, 128);
     let s := { zTied with l2.reserved := (List.range 4).map w };
     let u := { zTied with l2.reserved := (List.range 3).map w };
      s.arrives cohPkt 5 ∧ s.memberWaits 2 = true ∧ 4 ≤ s.l2.reserved.countP (fun r => decide (r.1 = s.homeOf 2 ∧ r.2.1.src = cohPkt.src)) ∧ u.arrives cohPkt 5 ∧ u.memberWaits 2 = true ∧
        u.l2.reserved.countP (fun r => decide (r.1 = u.homeOf 2 ∧ r.2.1.src = cohPkt.src)) < 4) := by decide

theorem hyps_RequestsOfOtherChips_rest :
    (let p := pkt0 5 0 260 [];
     let s := { zb with l2.reserved := [(63, p, 4)] };
      s.l2.reserved.find? (fun r => decide (r.1 = 63)) = some (63, p, 4) ∧ s.l2.domainLost = false ∧ p.op = 0 ∧ p.addr % 128 ≠ 0 ∧ s.packetPoison p.addr 4 = 0 ∧ s.goes (tiedClient p) (fun u => u.serveTied p p.addr 4) = true) ∧
    (let p := pkt0 6 0 0 (record 16 [(0, 2), (8, 1)]);
     let e := record 16 [(0, 9), (2, 2), (8, 0xFF), (9, 0xFF), (10, 7)];
     let s := { zb with mgt.blob := zb.mgt.blob ++ [((E.fabCgroup + 1023) * 256, e)] };
      s.arrives p 6 ∧ s.l2.refused = none ∧ s.admitPkt p 5 = .ok 0 ∧ s.groupEntry 1023 = e ∧ fieldAt e 0 2 = p.key ∧ 1 ∈ rankKids (grpRank e) (grpMembers e) ∧ grpChip e 1 = p.src ∧ s.groupState 1023 ≠ 2 ∧
        s.fab.colls.get? 1023 = none ∧ { s with mgt.num := [((E.cgroupState + 1023) * 256, 2)] }.groupState 1023 = 2 ∧ 2 ∉ rankKids (grpRank e) (grpMembers e)) := by decide

/-- This chip has one request outstanding. -/
def zh (issuer : Issuer) : State := { zc g0 [sb0] with fab.reqs := [(0, req0 issuer)] }

theorem hyps_ResponsesToThisChip :
    (let p := { plan0 0 0 0 0 with wait := .remote };
     let s := { zh (.plan 0) with fe.plans := [(0, p)] };
      s.l2.refused = none ∧ s.responds (pkt0 0x11 0 0 []) 0x11 0 (req0 (.plan 0)) ∧ s.fe.plans.get? 0 = some p ∧ p.wait = .remote ∧ (s.q 0).state.alive = true ∧ s.responds (pkt0 0x13 0 0 []) 0x13 0 (req0 (.plan 0))) ∧
    (let s := { zh (.load 5 9) with l2.loads := [(5, load1)] };
      s.responds (pkt0 0x11 0 0 (zeroBytes 128)) 0x11 0 (req0 (.load 5 9)) ∧ s.l2.loads.get? 5 = some load1 ∧ load1.fwd = []) ∧
    (let s := { zh (.mark 0) with fe.nodes := [(0, nd 9 [])] };
      s.responds (pkt0 0x12 0 0 []) 0x12 0 (req0 (.mark 0)) ∧ s.fe.nodes.get? 0 = some (nd 9 [])) ∧
    ((zh (.store 0 3)).responds (pkt0 0x12 0 0 []) 0x12 0 (req0 (.store 0 3)) ∧ ∀ e ∈ (zh (.store 0 3)).fab.reqs, e.1 ≠ 0 → e.2.issuer ≠ .store 0 3) ∧
    ((zh (.sync (.node 0) true 4)).responds (pkt0 0x12 2 0 []) 0x12 0 (req0 (.sync (.node 0) true 4)) ∧ (zh (.sync (.node 0) true 4)).responds (pkt0 0x14 0 0 []) 0x14 0 (req0 (.sync (.node 0) true 4))) ∧
    (let a := { atom0 with accs := atom0.accs ++ [{ thread := 1, va := 260, off := 0, n := 4, target := 0, pa := 260 }] };
     let s := { zh (.atom 5 0) with l2.atoms := [(5, a)] };
      s.responds (pkt0 0x13 0 0 (zeroBytes 16)) 0x13 0 (req0 (.atom 5 0)) ∧ s.l2.atoms.get? 5 = some a ∧ ∃ x ∈ a.accs, x.thread ≠ 0 ∧ a.olds.has x.thread = false) := by decide

theorem hyps_ResponsesToThisChip_code :
    (zh (.code 383 63 0x1000)).responds (pkt0 0x11 0 0 (zeroBytes 8)) 0x11 0 (req0 (.code 383 63 0x1000)) ∧ (pkt0 0x11 0 0 (zeroBytes 8)).poison = 0 := by decide

theorem hyps_ResponsesToThisChip_rest :
    (let p := pkt0 0x14 1 0 [];
     let w := { wait0 1 5 with who := .node 0 };
     let s := { zr with fab.remoteWaits := [(windowKey 7 0xFFFFFFFF, w)], fe.nodes := [(0, nd 4 [])] };
      p.dst = s.fab.chipId ∧ s.fab.remoteWaits.get? (windowKey p.src p.seq) = some w ∧ w.who = .node 0 ∧ s.fe.nodes.get? 0 = some (nd 4 []) ∧ (nd 4 []).type ≠ 2 ∧
        (pkt0 0x14 1 9 []).addr % 256 ≠ 0 ∧ (s.q 0).state.alive = true) ∧
    (let p := { pkt0 0x15 3 256 [] with dst := 3 };
     let d := { dir0 with state := .sh, sharers := 2 ^ 16 };
     let s := { z with fab.chipId := 3, fab.tie := [3, 7], l2.dir := [(2, d)] };
      p.dst = s.fab.chipId ∧ 2 = p.addr % 2 ^ 48 / 128 ∧ s.tieBit 7 = some 16 ∧ s.l2.dir.get? 2 = some d ∧ d.sharers = 2 ^ 16) ∧
    (let e := record 16 [(0, 9), (2, 2), (4, 1), (8, 7), (10, 0xFF), (11, 0xFF)];
     let c : Coll := { node := some (0, 0), head := { kind := 0, op := 0, fmt := 0, count := 256 }, root := 0, own := [], parts := [], heads := [], up := some [], sent := 0, result := [] };
     let s := { zr with mgt.blob := [(E.fabCgroup * 256, e)], fab.colls := [(0, c)] };
     let p := pkt0 0x16 0 0 (zeroBytes 512);
      p.dst = s.fab.chipId ∧ s.fab.colls.get? 0 = some c ∧ grpRank (s.groupEntry 0) ≠ 0 ∧ grpChip (s.groupEntry 0) (rankParent (grpRank (s.groupEntry 0))) = p.src ∧ c.up = some [] ∧
        7 ∈ grpOthers (s.groupEntry 0) ∧ 0x80 < (pkt0 0x16 0x89 0 []).op ∧ (s.q 0).state.alive = true ∧ 128 < c.head.resultLen (grpMembers (s.groupEntry 0))) := by decide

/-- Four modules in states, of which each group's home module serves it where it is ready. -/
def zo4 (a b c d : Nat) : State :=
  { z with opt.lasers := [(0, { Laser.initial with state := a }), (1, { Laser.initial with state := b }), (2, { Laser.initial with state := c }), (3, { Laser.initial with state := d })] }

theorem hyps_LaserSwitching :
    (((zo4 2 2 2 2).laser 3).state = 2 ∧ (zo4 2 2 2 2).server 7 0 = some 3 ∧ ((zo4 2 2 2 2).laser (otherModule 7 0 3)).takes = true ∧ ((zo4 1 1 1 1).laser 3).state = 1) ∧
    (let s := { zo4 2 2 2 2 with opt.engines := [(7, { Oe.initial with state := 1, groupB := 1, movedB := some (0, some 0) })] };
      (s.oe 7).movedOf 1 = some (0, some 0) ∧ (s.oe 7).state = 1) ∧
    (let s := { zo4 2 2 2 2 with opt.moves := [(15, otherModule 7 1 ((zo4 2 2 2 2).server 7 1 |>.getD 0))], opt.lastMove := some 0 };
      (s.server 7 1).isSome = true ∧ s.opt.moves.length = 1 ∧ s.time.mono < 0 + 1000000 ∧ 0 + 1000000 ≤ { s with time.mono := 1000000 }.time.mono) ∧
    (((zo4 2 2 2 2).oe 7).state ≠ 2 ∧ ((zo4 2 2 2 2).server 7 1).isSome = true ∧ z.server 7 0 = none ∧ z.server 7 1 = none) := by decide

theorem hyps_LaserService :
    (z.deviceCheck oob (E.laserService + 3) = 0 ∧ ((zo4 1 2 2 2).laser 3).state = 2 ∧ ((zo4 1 2 2 2).laser ((3 + 1) % 4)).state ≠ 2 ∧ ((zo4 2 2 2 2).laser ((3 + 3) % 4)).state = 2 ∧
      (zo4 2 2 2 2).served 3 ≠ [] ∧ ((zo4 2 2 2 4).laser 3).state = 4 ∧ (z.laser 3).state = 0 ∧ z.sup.mainPg = true) ∧
    (let s := { zo4 2 2 2 2 with opt.engines := (List.range 8).map (fun e => (e, { Oe.initial with groupA := 2, groupB := 2 })) };
      s.served 3 = [] ∧ (s.laser 3).recal = false) ∧
    (((zo4 2 2 2 1).laser 3).state = 1 ∧ z.deviceCheck oob (E.laserRecalibrate + 3) = 0 ∧ ((zo4 2 2 2 3).laser 3).state = 3 ∧ ((zo4 2 2 2 2).laser 3).lifeUsed < 900) := by decide

/-- A queue pair of function 0, number 63, with its ring at 0x1000. -/
def qp0 (state write : Nat) (work : List Work) : Qp :=
  { Qp.initial with raw := record 64 [(0, 1), (2, 6), (3, 7), (9, 0x10), (0x25, 4), (0x26, 7), (0x27, 8)], state := state, write := write, work := work }

/-- Function 0 with that queue pair and a work entry in memory. -/
def zk (x : Qp) (op : Nat) : State := { zr with svc.qps := [(63, x)], mem := cells 0x1000 (record 64 [(0, op), (4, 4), (9, 0x20)]) }

/-- A work entry under way. -/
def work0 (op : Nat) : Work := { ring := 0, raw := record 64 [(0, op), (4, 4), (9, 0x20)], retries := 0, sentAt := 0 }

theorem hyps_RdmaQueuePairs :
    (z.fnCheck oob 0 (E.svcQp + 63) = 0 ∧ (qp0 0 0 []).raw.length = 64 ∧ qpFieldsOk (qp0 0 0 []).raw = true ∧ fieldAt (qp0 0 0 []).raw 0 1 = 1 ∧ (z.qp 0 63).state = 0 ∧ (z.fn 0).gate = .opened) ∧
    ((zk (qp0 1 0 []) 1).heldOf 0 = [] ∧ ((zk (qp0 1 0 []) 1).qp 0 63).state = 1 ∧ ((zk (qp0 1 0 []) 1).qp 0 63).ring ≠ 0 ∧ 64 ≤ ((zk (qp0 1 0 []) 1).qp 0 63).entries ∧ ((zk (qp0 1 0 []) 1).qp 0 63).entries < 65) ∧
    (∀ op ∈ [1, 2], (match (zk (qp0 1 1 []) op).nextWork 0 63 with
      | some (i, b) => decide (i = 0 ∧ fieldAt b 0 1 = op) && decide ((zk (qp0 1 1 []) op).workFault 0 b = 0)
      | none => false) = true) ∧
    (let s := zk (qp0 1 1 [work0 2]) 2;
      (s.qp 0 63).work = [work0 2] ∧ bit (fieldAt (work0 2).raw 2 2) 0 = false ∧ s.unitGoes 17 63 (rdmaWorkComplete 0 63 (zeroBytes 4)) ∧ s.unitGoes 17 63 (rdmaWorkFail 0 63 2) ∧ s.unitGoes 17 63 (rdmaAckTimeout 0 63) ∧
        s.l2.refused = none ∧ (zeroBytes 4).length = fieldAt (work0 2).raw 4 4 ∧ s.workLocal 0 (work0 2).raw = 0 ∧
        s.time.mono < (work0 2).sentAt + (s.qp 0 63).timeoutNs ∧ (work0 2).sentAt + (s.qp 0 63).timeoutNs ≤ { s with time.mono := 2 ^ 20 }.time.mono ∧ (work0 2).retries < (s.qp 0 63).retries) ∧
    (∃ i b, (zk (qp0 1 1 []) 3).nextWork 0 63 = some (i, b) ∧ (zk (qp0 1 1 []) 3).workFault 0 b = 6 ∧ (zk (qp0 1 1 []) 3).unitGoes 17 63 (rdmaWorkFail 0 63 6)) ∧
    (let s := { zk (qp0 1 0 []) 1 with mgt.blob := [(E.svcRegion * 256, record 21 [(1, 0x20), (9, 1), (16, 5), (20, 3)])] };
      s.unitGoes 17 63 (roceRemoteRequest 0 63 1 0x2000 5 4 (zeroBytes 4)) ∧ s.unitGoes 17 63 (roceRemoteRequest 0 63 2 0x2000 5 4 []) ∧ s.unitGoes 17 63 (roceRemoteRequest 0 63 3 0x2000 5 4 []) ∧
        z.unitGoes 17 63 (roceRemoteRequest 0 63 1 0x2000 5 4 (zeroBytes 4)) ∧ (z.qp 0 63).state ≠ 1 ∧ s.regionAdmits 0 5 0x2000 4 1 = true ∧ s.checkV 0 0x2000 4 .write = 0 ∧ s.regionAdmits 0 5 0x2000 4 0 = true ∧ s.regionAdmits 0 6 0x2000 4 1 = false ∧
        (match s.readV 0 0x2000 4 with
         | .bytes _ => true
         | .bad _ => false) = true) := by
  refine ⟨by decide, by decide, by decide, by decide, ⟨0, _, rfl, by decide⟩, by decide⟩

theorem hyps_ServicePorts :
    (let s := { z with svc.ports := [(1, { Port.initial with state := 1, pausedAt := [(7, 0)] })], mgt.blob := [((E.svcIp + 1) * 256, zeroBytes 16)] };
      (s.port 1).state = 1 ∧ (z.port 1).state ≠ 1 ∧ z.sup.phase = .ready ∧ zeroBytes 16 ∈ s.svcAddresses 1 ∧ List.replicate 16 1#8 ∉ s.svcAddresses 1 ∧
        (s.port 1).pausedAt.get? 7 = some 0 ∧ bit (s.port 1).storm 7 = false ∧ s.time.mono < 0 + s.num E.svcPfcWatchdog * 1000000 ∧
        0 + s.num E.svcPfcWatchdog * 1000000 ≤ { s with time.mono := 10 ^ 12 }.time.mono) ∧
    ({ z with mgt.num := [((E.svcSpeed + 1) * 256, 1)] }.num (E.svcSpeed + 1) ≠ 0 ∧ { z with mgt.num := [((E.svcSpeed + 1) * 256, 0)] }.num (E.svcSpeed + 1) = 0) ∧
    (let s := { zk { qp0 1 0 [] with raw := record 64 [(0, 1), (1, 1), (2, 6), (3, 7)] } 1 with svc.ports := [(1, { Port.initial with state := 1 })] };
      7 ∈ s.usedPriorities 1 ∧ 3 * s.allotment 1 < 4 * 2949121 ∧ bit (s.port 1).xoff 7 = false ∧ 2 * 0 < s.allotment 1 ∧ s.allotment 1 ≤ 2 * 1966080 ∧ 4 * 2949120 ≤ 3 * s.allotment 1) := by decide

theorem hyps_PowerLimits :
    (let s := { z with mgt.num := [(E.opPointRequest * 256, 1), (E.pwrPointFallback * 256, 1)] };
     let next := min ((s.num E.pwrCap * s.num E.pwrCapWindow * 1000000 : Nat) - (sumNat [4000000] : Int)) 3400000;
      s.sup.phase = .ready ∧ s.num E.pwrCap * 1000 < 4000000 ∧ ¬ (20 ≤ min 20 (s.pwr.excursion + 1) ∨ s.pwr.recovery < 100) ∧
        max (s.num E.pwrAdmitFloor) (min 64 (64 * (next - (4000000 - 1)) / 1).toNat) ≤ s.num E.pwrAdmitFloor ∧ next < 4000000 ∧ s.num E.pwrPointFallback = 1 ∧
        s.pwr.lowered < s.num E.opPointRequest ∧ { s with pwr.lowered := 1 }.num E.opPointRequest ≤ 1) ∧
    (let s := { z with pwr.aboveFloor := 99, pwr.lowered := 1 };
      s.sup.phase = .ready ∧ s.num E.pwrAdmitFloor + 8 < max (s.num E.pwrAdmitFloor) (min 64 (64 * ((3400000 : Int) - (0 - 0)) / 1).toNat) ∧ 99 ≤ s.pwr.aboveFloor ∧ s.pwr.lowered ≠ 0 ∧
        z.pwr.aboveFloor < 99) ∧
    (bit z.pwr.droops 18 = false ∧ bit { z with pwr.droops := 2 ^ 18 }.pwr.droops 18 = true) ∧
    (let s := { z with pwr.plains := [(15, { PlainPwr.initial with clearSince := some 0, thermal := 30 })], time.mono := 100000000 };
     let h : Temps := { plains := List.replicate 15 255, dram := List.replicate 20 255, base := [], optics := 86 };
      s.sup.phase = .ready ∧ h.plains.getD 15 0 ≤ s.num E.pwrTjLimit ∧ (s.plain 15).clearSince = some 0 ∧ (z.plain 15).clearSince = none ∧
        s.num E.pwrTjLimit < h.plains.getD 14 0 ∧ s.num E.pwrDramLimit < h.dram.getD 19 0 ∧ 85 < h.optics) ∧
    (z.sup.phase ≠ .off ∧ z.sup.auxValid = true ∧ tripAt 55 ≤ 105 ∧ 109 < tripAt 56) ∧
    z.num E.pwrSlicePacing ≠ 1 ∧
    (let s := { z with mgt.num := (E.pwrSlicePacing * 256, 1) :: (List.range 32).map (fun d => ((E.rateLive + d) * 256, 1800)), mgt.blob := [(E.sliceMembers * 256, record 6 [(4, 7)])] };
      s.num E.pwrSlicePacing = 1 ∧ s.chipUnitNow.rateMin ≠ 0 ∧
        (s.matrixRate.map (fun r => (s.fab.chipId, r))).toList ++
          [(7, 5)].filter (fun r => s.sliceIds.contains r.1 && !decide (r.1 = s.fab.chipId) && !s.fab.unreachable.contains r.1) = [(7, 5)]) := by decide

/-- A rail on which one queue has modelled 30 uJ of 40. -/
def rail0 : RailEnergy := { measured := 10, queues := [(4095, 30)], fns := [(255, 5)], parts := [(63, 4)], overhead := 1 }

theorem test_energy_scaled : railScaled rail0 rail0.queues = [(4095, 7)] ∧ railScaled rail0 rail0.fns = [(255, 1)] ∧ railScaled rail0 rail0.parts = [(63, 1)] ∧ railRest rail0 = 1 ∧
    railFactor rail0 = 0x3E800000 := by decide

theorem hyps_EnergyAccounts :
    (z.sup.phase = .ready ∧ (∀ f, f < 256 → z.fnPart f < 64) ∧ z.energyMoved 255 = false ∧ { z with hif.fns := [(255, { FnSt.initial with pointReached := true })] }.energyMoved 255 = true) ∧
    (z.withSync [rail0] = [rail0] ∧ [rail0].flatMap (fun r => railScaled r r.queues) = [(4095, 7)] ∧ { z with fe.nodes := [(1, { nd 4 [] with status := .running })] }.armedQueues ≠ []) ∧
    (let s := { z with mgt.num := [((E.pwrJobId + 15) * 256 + 255, 9)], pwr.jobs := [(255, 9, 1, 0, 0)] };
      s.energyMoved (fnOfQueue 4095) = false ∧ s.num (E.pwrJobId + 15) (fnOfQueue 4095) = 9 ∧ s.jobSlot 9 = some 255 ∧ s.pwr.jobs.get? 255 = some (9, 1, 0, 0) ∧
        s.deviceCheck oob E.pwrJobRelease = 0 ∧ (∀ e ∈ s.pwr.jobs, e.1 ≠ 0 → e.2.1 = 9 → e.1 = 255) ∧ ∀ e ∈ s.pwr.jobs, e.1 ≠ 0 → e.2.1 ≠ 8) := by decide

/-- A request frame that carries its whole value. -/
def frame0 (opcode entry flags target : Nat) (body : List Byte) : Frame :=
  { version := 1, opcode := opcode, tag := 0, index := entry / 256, sub := entry % 256, flags := flags, target := target, length := body.length, offset := 0, body := body }

/-- A virtual function's mailbox. -/
abbrev vf : Origin := { iface := 3, fn := 5 }

theorem hyps_KamufRequests_checks :
    frameBad (frame0 5 0 0 0 []) = true ∧
    (frameBad (frame0 1 0xFFFFFF 0 0 []) = false ∧ entryInfo 0xFFFFFF = none) ∧
    (∃ r, entryInfo (E.queueTimeout + 15) = some r ∧ z.targetNamed oob (frame0 1 (E.queueTimeout + 15) 1 0x100 []) r.scope = none ∧
      z.entryThere oob (E.queueTimeout + 15) (fnNamed oob (frame0 1 (E.queueTimeout + 15) 1 0x100 [])) = true ∧ r.scope = .function ∧ r.access = .rw ∧
      z.targetNamed oob (frame0 2 (E.queueTimeout + 15) 0 0 (zeroBytes 4)) r.scope = some 0 ∧ z.entryThere oob (E.queueTimeout + 15) 0 = true ∧ z.entryLive (E.queueTimeout + 15) = true) ∧
    (vf.isVf = true ∧ oob.isVf = false ∧ (frame0 1 (E.queueTimeout + 15) 1 5 []).flags % 4 ≠ 0 ∧ (frame0 1 (E.queueTimeout + 15) 2 5 []).flags % 4 = 2) ∧
    (entryInfo E.opPointRequest).map (fun r => r.scope) = some .device ∧ (entryInfo E.pwrJobRelease).map (fun r => r.access) = some .wo ∧
    (entryInfo E.opPointCurrent).map (fun r => r.access) = some .ro := by
  refine ⟨by decide, by decide, ⟨_, rfl, by decide⟩, by decide⟩

theorem hyps_KamufRequests_answers :
    z.mgtAnswers oob = true ∧ { z with sup.mgtLive := false }.mgtAnswers oob = false ∧
    (z.frameCheck oob (frame0 2 E.opPointCurrent 4 0 (zeroBytes 1))).isLeft = true ∧
    (z.frameCheck oob (frame0 1 E.opPointCurrent 0 0 [])).isRight = true ∧ (z.frameCheck oob (frame0 1 E.logRecords 0 0 [])).isRight = true ∧
    (z.frameCheck oob (frame0 3 E.opPointCurrent 0 0 [])).isRight = true ∧
    (let x := frame0 2 (E.queueTimeout + 15) 5 0 (leBytes 4 10);
      (z.frameCheck oob x).isRight = true ∧ entryOf x ≠ E.updateImage ∧ entryOf x ≠ E.cntLayerBase ∧ x.offset = 0 ∧ bit x.flags 2 = true ∧ x.body.length ≤ entryMaxLen (entryOf x)) ∧
    (let x := { frame0 2 E.sliceMembers 0 0 [1#8] with offset := 1 };
     let a : Assembly := { entry := E.sliceMembers, target := 0, who := oob, bytes := [2#8], lastAt := 0 };
     let s := { z with mgt.asm := [a] };
      (s.frameCheck oob x).isRight = true ∧ s.mgt.asm.find? (fun y => decide (y.entry = entryOf x ∧ y.target = 0)) = some a ∧ x.offset = a.bytes.length ∧
        a.bytes.length + x.body.length ≤ entryMaxLen (entryOf x) ∧ bit x.flags 2 = false ∧ { a with who := vf }.who ≠ oob ∧ { x with offset := 9 }.offset ≠ a.bytes.length ∧
        s.mgt.asm[0]? = some a ∧ s.time.mono - a.lastAt < 1000000000 ∧ 1000000000 ≤ { s with time.mono := 1000000000 }.time.mono - a.lastAt) ∧
    (frameBad (frame0 4 0 0 0 []) = false ∧ 10 < 2 ^ 32) := by decide

theorem hyps_KamufRequests_mailbox :
    (let m := { Mailbox.initial with busy := true, reqLen := 16, irqEnable := true, vector := 63, buf := (record 16 [(0, 1), (1, 1), (4, E.opPointCurrent / 256 % 256), (5, E.opPointCurrent / 65536), (6, E.opPointCurrent % 256)]).mapIdx (fun i b => (i, b)) };
     let s := { z with mgt.mbox := [(0, m)], mgt.inFlight := [(mailboxOf 0, 0)] };
      (s.mbox 0).busy = true ∧ (s.mbox 0).delayed = false ∧ s.mgtAnswers (mailboxOf 0) = true ∧ s.oldestMailbox = some 0 ∧ (s.mbox 0).buf.getD 3 0#8 = 0#8 ∧ 63 < vectorsOf 0 ∧
        (((s.leaveDispatcher 0).request (mailboxOf 0) (frameOf ((s.mbox 0).bytes 16))).2.2.mbox 0).delayed = false ∧ (s.fn 0).gate = .opened ∧
        { m with reqLen := 15 }.reqLen < 16 ∧ 4096 < { m with reqLen := 4097 }.reqLen ∧ (z.mbox 0).busy = false) ∧
    (z.sup.auxValid = true ∧ z.sup.mgtLive = true) := by decide

theorem hyps_ManagementServices :
    (z.deviceCheck oob E.logAppend = 0 ∧ (zeroBytes 16).length = 16 ∧ ([] : List Byte).length ≠ 16 ∧ 5 ∈ { z with mgt.toCopy := [5] }.mgt.toCopy ∧ 5 ∉ z.mgt.toCopy) ∧
    (z.sup.auxValid = true ∧ z.sup.mgtLive = true ∧ sensorPast 8 0 (z.num (E.sensorCrit + 8)) = true ∧ sensorPast 1 0 (z.num (E.sensorCrit + 1)) = false ∧
      sensorPast 1 0x42780000 (z.num (E.sensorWarn + 1)) = true ∧ sensorPast 1 0x42780000 (z.num (E.sensorCrit + 1)) = false ∧ (z.sensor 1).state = 0 ∧
      ({ z with mgt.sensors := [(9, { Sensor.initial with failingSince := some 0, pastCrit := 1 })] }.sensor 9).failingSince = some 0 ∧
      sensorPast 9 0x3F800000 (z.num (E.sensorCrit + 9)) = true) ∧
    (z.deviceCheck oob E.debugKill = 0 ∧ ({ z with fe.queues := [(4095, qRun)] }.q 4095).state.alive = true ∧ (z.q 4095).state.alive = false) ∧
    (z.deviceCheck oob E.sliceMembers = 0 ∧ 4 ≤ (zeroBytes 4).length ∧ 8198 % 2 = 0 ∧ 8196 < 8198) ∧
    (let b := record 6 [(4, 0xFF), (5, 0x0F)];
      4 ≤ b.length ∧ b.length % 2 = 0 ∧
        ∀ c ∈ idsOf b 4, c ≤ 4095) ∧
    (∃ c ∈ idsOf (record 6 [(5, 0x10)]) 4, 4095 < c) := by decide

/-- No witness is given for an image that passes its checks: whether a signature is valid is a free value of Config. -/
theorem hyps_ManagementServices_update :
    z.deviceCheck oob E.updateControl = 0 ∧ z.deviceCheck oob E.updateImage = 0 ∧ z.upForeign oob = false ∧ { z with mgt.upOwner := some vf }.upForeign oob = true ∧ z.mgt.upState = .idle ∧
    (let s := { z with mgt.upState := .receiving, mgt.asm := [{ entry := E.updateImage, target := 0, who := oob, bytes := [], lastAt := 0 }] };
      s.mgt.upState = .receiving ∧ s.mgt.upState.aborts = true ∧ s.imageResult [] = 2 ∧ 0 = (s.mgt.slot s.inactive).image.length ∧ ([1#8] : List Byte).length ≤ imageLimit) ∧
    { z with mgt.upState := .verified }.mgt.upState.aborts = true ∧ z.mgt.upState.aborts = false ∧ { z with mgt.upState := .trial }.mgt.upState = .trial := by decide

theorem hyps_EntryWrites :
    (z.mgtAnswers oob = true ∧ (entryInfo 0x500300).map (fun r => r.access) = some .rwc ∧ (z.frameCheck oob (frame0 2 0x500300 4 0 (zeroBytes 8))).isRight = true ∧
      (entryInfo 0x500300).map (fun r => r.type.width) = some 8 ∧ (z.frameCheck oob (frame0 2 0x500300 4 0 [1#8])).isRight = true) ∧
    (entryInfo E.opPointCurrent).map (fun r => r.access) = some .ro := by decide

theorem hyps_CountersAndLayers :
    (isCntValue 0x48000 = true ∧ isCntValue 0x48040 = false ∧ { z with obs.freeze := true }.obs.freeze = true ∧ z.fnExists 0 = true) ∧
    (let s := { z with mgt.num := [(E.cntLayerBase * 256, 4096)] };
      s.num E.cntLayerBase 0 ≠ 0 ∧ s.fnCheck oob 0 E.cntLayerBase = 0 ∧ s.time.mono < (s.cntFn 0).lastFlush + s.num E.cntFlushUs 0 * 1000 ∧
        (s.cntFn 0).lastFlush + s.num E.cntFlushUs 0 * 1000 ≤ { s with time.mono := 10 ^ 12 }.time.mono ∧ (s.cntFn 0).baseAfter = none) ∧
    (z.num E.cntLayerBase 0 = 0 ∧ 0x1000 % 4096 = 0 ∧ 0x1001 % 4096 ≠ 0) ∧
    (let c := { CntFn.initial with flushing := true, baseAfter := some (oob, 0) };
     let s := { z with obs.fns := [(0, c)] };
      (s.cntFn 0).flushing = true ∧ (s.cntFn 0).inFlush = [] ∧ (s.cntFn 0).baseAfter.isSome = true) ∧
    (let s := { zr with mem := cells (64 * (1 + layerHash 3 2 % 1)) (leBytes 8 (layerKey 3 2)) };
      s.translate 0 (0 + 64 * (1 + layerHash 3 2 % 1)) .write = .ok 0 (64 * (1 + layerHash 3 2 % 1)) ∧ s.pocPoison (64 * (1 + layerHash 3 2 % 1)) 8 = false ∧
        ofLe (s.pocRead (64 * (1 + layerHash 3 2 % 1)) 8) = layerKey 3 2 ∧ layerHash 3 2 < 2 ^ 32) := by decide

/-- A record of queue 0. -/
def rec0 (kind : Nat) : TrcRec := { time := 0, kind := kind, domain := 0, unit := 0, queue := 0, flags := 0, layer := 0, operator := 0, aux := 0, detail := 0 }

/-- Function 0 owns trace buffer 15, with a ring of 64 slots at address 0. -/
def zTrace (mode : Nat) (x : Trc) : State :=
  { zr with mgt.num := [((E.trcOwner + 15) * 256, 0), ((E.trcRing + 15) * 256, 6), ((E.trcMode + 15) * 256, mode), ((E.trcSources + 15) * 256, 0x7F)], obs.bufs := [(15, x)] }

/-- A running buffer with a record staged by source 0. -/
def trc0 : Trc := { Trc.initial with state := .running, staged := [(0, [rec0 1])] }

theorem hyps_TraceBuffers :
    (1 < 0x0E ∧ 6 * 65536 / 65536 < 7 ∧ (zTrace 0 trc0).takesRec 15 (6 * 65536) 0 = true ∧ (zTrace 0 trc0).takesRec 15 0 0 = true ∧ z.takesRec 15 0 0 = false ∧
      stagedCount (((zTrace 0 trc0).trc 15).staged.getD 0 []) < 64 ∧ ((zTrace 0 trc0).trc 15).dropped.get? 0 = none ∧
      64 ≤ stagedCount (((zTrace 0 { trc0 with staged := [(0, List.replicate 64 (rec0 1))] }).trc 15).staged.getD 0 [])) ∧
    (((zTrace 0 { trc0 with dropped := [(0, 3, 5)] }).trc 15).dropped.get? 0 = some (3, 5) ∧ ((zTrace 0 trc0).trc 15).state = .running) ∧
    (((zTrace 0 trc0).trc 15).staged.getD 0 [] = [rec0 1] ∧ bit (rec0 1).flags 2 = false ∧ ((zTrace 0 trc0).fn ((zTrace 0 trc0).num (E.trcOwner + 15))).gate = .opened ∧
      (zTrace 0 trc0).num (E.trcMode + 15) = 0 ∧ (zTrace 0 trc0).translate 0 ((zTrace 0 trc0).trcSlot 15 0) .write = .ok 0 0 ∧
      (zTrace 1 { trc0 with write := 64 }).num (E.trcMode + 15) = 1 ∧ (zTrace 1 trc0).trcSlots 15 ≤ 64 - 0 ∧
      (match { zTrace 0 trc0 with hif.tcache := [{ page0 with w := false }] }.translate 0 ((zTrace 0 trc0).trcSlot 15 0) .write with
       | .bad _ => true
       | _ => false) = true) ∧
    ((zTrace 0 Trc.initial).num (E.trcOwner + 15) = 0 ∧ ((zTrace 0 Trc.initial).trc 15).state = .disabled ∧ ((zTrace 0 trc0).trc 15).triggered = false ∧ ((zTrace 0 { trc0 with triggered := true }).trc 15).triggered = true ∧ 0 ≤ (z.trc 15).write) ∧
    (let s := zTrace 0 { Trc.initial with state := .stopping };
      (s.trc 15).state = .stopping ∧ (∀ e ∈ (s.trc 15).staged, e.2 = []) ∧ (s.trc 15).dropped = [] ∧ (s.fn 0).gate = .opened) ∧
    (∃ e ∈ ((zTrace 0 trc0).trc 15).staged, e.2 ≠ []) := by decide

theorem hyps_RegisterAccess :
    (z.barState 0 = .opened ∧ 0x10 + 8 ≤ bar0Size 0 ∧ wideReg 0 0x10 = true ∧ wideReg 0 0x4000 = false ∧ only32 0x4000 = false ∧ only32 0x4004 = false ∧ wideReg 0 0x10000 = false ∧
      only32 0x10000 = false ∧ only32 0x10004 = true ∧ (0x10 + 4) % 8 = 4 ∧ z.bar0.held.get? (halfKey 0 0x10) = none ∧ logAt 0 0x10 = none ∧ logAt 0 0x4000 = none ∧ 0x12 % 4 ≠ 0) ∧
    (let s := { z with hif.vfEnable := true, hif.numVfs := 255, hif.vfMse := true };
      s.barState 255 = .opened ∧ f0Block 0x4000 = true ∧ 0x4000 + 4 ≤ bar0Size 255 ∧ wideReg 255 0x4000 = false) := by decide

theorem hyps_ErrorLogs :
    (∀ n ∈ [LogName.stk, .nwt, .l2c, .fab], bit 2 (overflowBit n) = false ∧ (z.logOf n).length < 32) ∧ 32 ≤ ({ z with stk.log := List.replicate 32 2 }.logOf .stk).length ∧
    z.barState 0 = .opened ∧ (z.logOf .fab).headD 0 < 2 ^ 64 ∧ z.bar0.captured.get? (halfKey 0 (logOffset .fab)) = none ∧ logOffset .fab ≤ logOffset .fab + 6 ∧
    { z with hif.fns := [(0, { FnSt.initial with d3hot := true })] }.barState 0 = .closed := by decide

/-! An ill-formed term for each check of WellFormed. -/

theorem test_wf_ranges :
    (Instr.d0Entry 256).wf = false ∧ (Instr.queueKill 4096).wf = false ∧ (Instr.sclAutoEnable 384).wf = false ∧ (Instr.groupSave 0 64).wf = false ∧
    (Instr.fill 640 0).wf = false ∧ (Instr.newtCopy 0 (2 ^ 64)).wf = false ∧ (Instr.linkDown 32).wf = false ∧ (Instr.fabricTime 0 65536 0 0 0).wf = false ∧
    (Instr.laserRemove 4).wf = false ∧ (Instr.oeFail 8).wf = false ∧ (Instr.laneGroupSwitchover 0 2).wf = false ∧ (Instr.svcLinkUp 2).wf = false ∧ (Instr.pfcXoffSend 0 8 0).wf = false ∧
    (Instr.rdmaRead 0 64).wf = false ∧ (Instr.droopDetect 19).wf = false ∧ (Instr.traceStopped 16).wf = false ∧ (Instr.planExit 64).wf = false ∧ (Instr.dmaPieceComplete 32).wf = false := by
  decide

theorem test_wf_units :
    (Instr.rowSpare 640 0).wf = false ∧ (Instr.rowSpare 0 2097152).wf = false ∧ (Instr.dieRetireStart 20 0).wf = false ∧ (Instr.dieRetireStart 0 20).wf = false ∧
    (Instr.rowZeroComplete 48).wf = false ∧ (Instr.plainGate 16).wf = false ∧ (Instr.wayRetire 64 0).wf = false ∧ (Instr.wayRetire 0 16).wf = false ∧
    (Instr.timeSliceEnd 64).wf = false ∧ (Instr.slabZeroComplete 960).wf = false ∧ (Instr.msixSend 0 64).wf = false ∧ (Instr.coreLaneNarrowing 0 2).wf = false ∧
    (Instr.contextKill 0 256).wf = false ∧ (Instr.demandScrubWriteback (2 ^ 57)).wf = false ∧ (Instr.rateLiveUpdate 0 65536).wf = false ∧ (Instr.sensorRead 10 0 true).wf = false ∧
    (Instr.spdmGetCertificate 8 0 0).wf = false ∧ (Instr.registerRead 0 0 3).wf = false ∧ (Instr.cntValueWrite 0 (2 ^ 64)).wf = false ∧ (Instr.hostReadBar2 0 0 (2 ^ 32) chk0).wf = false ∧ (Instr.homeRead 0 0 { chk0 with bad := 256 }).wf = false ∧
    (Instr.newtReadWriteback 0 3).wf = false := by
  decide

theorem test_wf_fields :
    (Instr.updateBegin { oob with iface := 4 }).wf = false ∧ (Instr.updateBegin { oob with fn := 256 }).wf = false ∧ (Instr.fadd { k0 with pc := 4 } fA).wf = false ∧
    (Instr.fadd { k0 with residue := some 2 } fA).wf = false ∧ (Instr.fadd k0 { fA with type := 32 }).wf = false ∧ (Instr.movi k0 { fI with imm := 2 ^ 32 }).wf = false ∧
    (Instr.ld k0 { fM with offset := 2 ^ 24 }).wf = false ∧ (Instr.atomAdd k0 { fX with zero := 256 }).wf = false ∧ (Instr.syncPost k0 { fY with zero := 2 ^ 21 }).wf = false ∧
    (Instr.bra k0 { fB with guard := 8 }).wf = false ∧ (Instr.mxClr k0 { fMx with ctl := 2 ^ 20 }).wf = false ∧ (Instr.fabricAck { pkt0 0x12 0 0 [] with seq := 2 ^ 32 }).wf = false ∧
    (Instr.kamufRead oob (frame0 256 0 0 0 [])).wf = false ∧ (Instr.traceRecordEmit 0 (rec0 256)).wf = false ∧ (Instr.fadd k0 fA).wf = true := by decide

/-! Worked examples of the spec. -/

/-- R60, R61: the address of the example, in a spread row and in a stack-local one. -/
theorem test_address_map :
    z.mapAddr 0x001234567A80 = (13, 15, 0x07482280) ∧ z.newtOf 0x001234567A80 = 431 ∧
    ({ z with mgt.num := [((E.rowMode + 1) * 256, 1)] }.mapAddr 0x001234567A80).1 = 16 := by decide

/-- Table 6.11: the words of two instructions. -/
theorem test_words :
    { fA with reuse := 6 }.word 0x12 = 0x12E0C040814C0200 ∧
    { fX with dst := 10, base := 4, operand := 11, compare := 12, scope := 1, space := true, baseS := true }.word 12 = 0x80E0A040B0C26C00 := by decide

/-- R39, R41: a first lock steps the time base forward to its master's. -/
theorem test_gtb_step :
    (let s := { z with fab.links := [(31, { Link.initial with state := 2, peer := 7 })], time.sent := [(31, 4500000)], time.gtb := 4500000, time.role := 1, time.master := some 7, time.mono := 500000 };
      (fabricTime 31 7 1750000000000000000 1750000000000000000 0 s).time.gtb = 1750000000000000000 ∧
        (fabricTime 31 7 1750000000000000000 1750000000000000000 0 s).time.mono = 500000) := by decide

/-- The example after R300: of the waits for GE 5, EQ 5, EQ 6 and GE 7 on a fence that holds 3, a signal of 6 releases the first and the third. -/
theorem test_fence :
    (let x := object .fence 3 [wait0 1 5, wait0 2 5, wait0 2 6, wait0 1 7];
     let t := syncObjectApply 0 (zs x (m0 0 6));
      (t.syn.objs.get? 0).map (fun y => (y.value, y.waiters)) = some (6, [wait0 2 5, wait0 1 7])) := by decide

/-- The example after R300: a POST of 2 to a semaphore at 0 with three waiters releases the first two and leaves the count at 0. -/
theorem test_semaphore :
    (let x := object .sem 0 [wait0 4 0, { wait0 4 0 with who := .core 1 0 3 6 0 0 }, { wait0 4 0 with who := .core 2 0 3 6 0 0 }];
     let t := syncObjectApply 0 (zs x (m0 3 2));
      (t.syn.objs.get? 0).map (fun y => (y.value, y.waiters)) = some (0, [{ wait0 4 0 with who := .core 2 0 3 6 0 0 }])) := by decide

/-- The request frame of R424's example. -/
def frame424 : List Byte :=
  [0x01, 0x02, 0x11, 0x00, 0x01, 0x31, 0x02, 0x05, 0x05, 0x00, 0x04, 0x00, 0x00, 0x00, 0x00, 0x00, 0x20, 0xA1, 0x07, 0x00]

/-- R424: the frame of the example names entry 0x3101.02 of function 5 and carries 500,000. -/
theorem test_frame :
    frameBad (frameOf frame424) = false ∧ entryOf (frameOf frame424) = 0x310102 ∧ entryOf (frameOf frame424) = E.queueTimeout + 2 ∧ (frameOf frame424).target = 5 ∧
    ofLe (frameOf frame424).body = 500000 := by decide

/-- R424: the write takes effect in function 5, is logged with the old and the new value, and is answered with status 0; function 6's mailbox is answered with status 3. -/
theorem test_frame_write :
    (let s := { z with hif.vfEnable := true, hif.numVfs := 255 };
     let r := s.request (mailboxOf 0) (frameOf frame424);
      r.1 = 0 ∧ r.2.2.num (E.queueTimeout + 2) 5 = 500000 ∧
        (r.2.2.mgt.log.getLast?).map (fun l => (l.type, l.iface, l.fn, l.target, ofLe l.old, ofLe l.new)) = some (1, 3, 0, 5, 2000000, 500000) ∧
        (s.request (mailboxOf 6) (frameOf frame424)).1 = 3) := by decide

/-- R44, R45: the codeword of a granule has the syndrome 0; one wrong symbol anywhere is found and corrected, and two are not; two erased symbols are restored. -/
theorem test_granule_code :
    (let d := (List.range 16).map (fun i => BitVec.ofNat 8 (17 * i + 3));
     let w := codeword d false;
      w.length = 20 ∧ syndrome w = [0, 0, 0, 0] ∧ decodeWord [] w = some (none, d) ∧ decodeWord [] (withErrors w [(0, 255)]) = some (some 0, d) ∧
        decodeWord [] (withErrors w [(19, 1)]) = some (some 19, d) ∧ decodeWord [] (withErrors w [(3, 7), (11, 9)]) = none ∧
        decodeWord [3] (withErrors w [(3, 7), (11, 9)]) = some (some 11, d) ∧ decodeWord [3, 11] (withErrors w [(3, 7), (11, 9)]) = some (none, d)) := by decide +kernel

/-- R47: a granule in the poisoned form is recognised, also with erased symbols, and no word with up to three wrong symbols is taken for one. -/
theorem test_poisoned_form :
    (let w := codeword (zeroBytes 16) true;
      poisonWord [] w = true ∧ poisonWord [3, 11] (withErrors w [(3, 7), (11, 9)]) = true ∧ poisonWord [] (withErrors (codeword (zeroBytes 16) false) [(0, 1), (7, 2), (19, 3)]) = false ∧
        poisonWord [] (codeword (zeroBytes 16) false) = false) := by decide +kernel

end Sys2Proof.Tests
end

section
/-! Writes of whole values to entries of access RWC and RO (R13, R416, R418, R421): the rows of the dictionary, the checks of a frame, an unsegmented WRITE, and what KAMUF_WRITE answers. -/

namespace Sys2Proof.Machine

/-! The rows of the dictionary. -/

/-- Every RWC entry of the dictionary has a numeric type (R13, R415). -/
theorem entryTable_rwc_width_ne_zero : ∀ r ∈ entryTable, r.access = .rwc → r.type.width ≠ 0 := by
  simp only [entryTable, List.forall_mem_append]
  decide

theorem width_ne_zero_of_rwc {a : Nat} {r : EntryInfo} (hr : entryInfo a = some r) (hacc : r.access = .rwc) : r.type.width ≠ 0 :=
  entryTable_rwc_width_ne_zero r (List.mem_of_find?_eq_some hr) hacc

theorem entryMaxLen_of_rwc {a : Nat} {r : EntryInfo} (hr : entryInfo a = some r) (hacc : r.access = .rwc) : entryMaxLen a = r.type.width := by
  simp [entryMaxLen, hr, width_ne_zero_of_rwc hr hacc]

theorem ne_updateImage_of_rwc {a : Nat} {r : EntryInfo} (hr : entryInfo a = some r) (hacc : r.access = .rwc) : a ≠ E.updateImage := by
  rintro rfl
  have hwo : (entryInfo E.updateImage).map (·.access) = some .wo := by decide
  simp [hr, hacc] at hwo

theorem ne_cntLayerBase_of_rwc {a : Nat} {r : EntryInfo} (hr : entryInfo a = some r) (hacc : r.access = .rwc) : a ≠ E.cntLayerBase := by
  rintro rfl
  have hrw : (entryInfo E.cntLayerBase).map (·.access) = some .rw := by decide
  simp [hr, hacc] at hrw

/-! What logging and an accepted write leave of the dictionary's blobs. -/

@[simp] theorem State.appendLog_blob (s : State) (ty i fn ix sb tg : Nat) (a b : List Byte) : (s.appendLog ty i fn ix sb tg a b).mgt.blob = s.mgt.blob := by
  unfold State.appendLog; dsimp only; split <;> simp

@[simp] theorem State.raiseMgt_blob (s : State) (n : Nat) : (s.raiseMgt n).mgt.blob = s.mgt.blob := by
  unfold State.raiseMgt; split <;> simp

@[simp] theorem State.setNum_blob (s : State) (a v t : Nat) : (s.setNum a v t).mgt.blob = s.mgt.blob := by
  unfold State.setNum; split <;> rfl

@[simp] theorem State.dictLogged_blob (s : State) (w : Origin) (a t : Nat) (x y : List Byte) : (s.dictLogged w a t x y).mgt.blob = s.mgt.blob := by
  unfold State.dictLogged
  split
  · rfl
  · dsimp only; split <;> simp

@[simp] theorem State.dictNum_blob (s : State) (w : Origin) (a t v : Nat) : (s.dictNum w a t v).mgt.blob = s.mgt.blob := by
  unfold State.dictNum; split <;> simp

/-! A whole value at an RWC entry. -/

theorem State.writeEntry_rwc_of_fits (s : State) (w : Origin) (t : Nat) {a : Nat} {r : EntryInfo} {bytes : List Byte} (hr : entryInfo a = some r) (hacc : r.access = .rwc)
    (hlen : bytes.length = r.type.width) : s.writeEntry w a t bytes = s.clearEntry w a t := by
  simp [State.writeEntry, hr, hacc, hlen, entryMaxLen_of_rwc hr hacc]

theorem State.writeEntry_rwc_of_misfits (s : State) (w : Origin) (t : Nat) {a : Nat} {r : EntryInfo} {bytes : List Byte} (hr : entryInfo a = some r) (hacc : r.access = .rwc)
    (hlen : bytes.length ≠ r.type.width) : s.writeEntry w a t bytes = s.answer 4 := by
  simp [State.writeEntry, hr, hacc, hlen, width_ne_zero_of_rwc hr hacc]

/-! A WRITE that carries its value whole. -/

theorem State.dropAsm_of_absent (s : State) {a t : Nat} (habs : ∀ y ∈ s.mgt.asm, ¬ (y.entry = a ∧ y.target = t)) : s.dropAsm a t = s := by
  have hkeep : s.mgt.asm.filter (fun y => !decide (y.entry = a ∧ y.target = t)) = s.mgt.asm :=
    List.filter_eq_self.mpr fun y hy => by simp only [decide_eq_false (habs y hy), Bool.not_false]
  simp only [State.dropAsm, hkeep]

/-- R421: where no assembly stands, a WRITE at offset 0 with the last flag is a write of its body, unless the body is too long. -/
theorem State.writeSegment_whole (s : State) (w : Origin) (x : Frame) (t : Nat) (habs : ∀ y ∈ s.mgt.asm, ¬ (y.entry = entryOf x ∧ y.target = t))
    (hoff : x.offset = 0) (hlast : bit x.flags 2 = true) (hne : entryOf x ≠ E.updateImage) :
    s.writeSegment w x t = if entryMaxLen (entryOf x) < x.body.length then s.answer 4 else s.writeEntry w (entryOf x) t x.body := by
  have hnone : s.mgt.asm.find? (fun y => decide (y.entry = entryOf x ∧ y.target = t)) = none :=
    List.find?_eq_none.mpr fun y hy => by simpa only [decide_eq_true_eq] using habs y hy
  simp only [State.writeSegment, hnone]
  simp [hne, hoff, hlast, s.dropAsm_of_absent habs]

section
variable {s : State} {w : Origin} {x : Frame} {r : EntryInfo} {t : Nat}

theorem State.writeSegment_rwc_of_fits (hr : entryInfo (entryOf x) = some r) (hacc : r.access = .rwc)
    (habs : ∀ y ∈ s.mgt.asm, ¬ (y.entry = entryOf x ∧ y.target = t)) (hoff : x.offset = 0) (hlast : bit x.flags 2 = true)
    (hlen : x.body.length = r.type.width) : s.writeSegment w x t = s.clearEntry w (entryOf x) t := by
  have hshort : ¬ entryMaxLen (entryOf x) < x.body.length := by rw [entryMaxLen_of_rwc hr hacc, hlen]; exact Nat.lt_irrefl _
  rw [s.writeSegment_whole w x t habs hoff hlast (ne_updateImage_of_rwc hr hacc), if_neg hshort, s.writeEntry_rwc_of_fits w t hr hacc hlen]

theorem State.writeSegment_rwc_of_misfits (hr : entryInfo (entryOf x) = some r) (hacc : r.access = .rwc)
    (habs : ∀ y ∈ s.mgt.asm, ¬ (y.entry = entryOf x ∧ y.target = t)) (hoff : x.offset = 0) (hlast : bit x.flags 2 = true)
    (hlen : x.body.length ≠ r.type.width) : s.writeSegment w x t = s.answer 4 := by
  rw [s.writeSegment_whole w x t habs hoff hlast (ne_updateImage_of_rwc hr hacc), s.writeEntry_rwc_of_misfits w t hr hacc hlen, ite_self]

/-! The checks of a frame (R418). -/

theorem State.frameCheck_inr (h : s.frameCheck w x = .inr (r, t)) : frameBad x = false ∧ entryInfo (entryOf x) = some r := by
  revert h
  fun_cases State.frameCheck s w x with
  | case8 _ hgood r' hr' =>
    intro h
    obtain ⟨rfl, rfl⟩ : r' = r ∧ _ = t := by simpa using h
    exact ⟨by simpa using hgood, hr'⟩
  | _ => simp

theorem State.frameCheck_write_ro (hop : x.opcode = 2) (hr : entryInfo (entryOf x) = some r) (hacc : r.access = .ro) :
    ∃ st, st ≠ 0 ∧ s.frameCheck w x = .inl st := by
  fun_cases State.frameCheck s w x with
  | case3 => -- no target
    exact ⟨_, by split <;> decide, rfl⟩
  | case8 _ _ r' hr' _ _ _ _ _ hacc' => -- every check passes
    obtain rfl : r' = r := Option.some.inj (hr'.symm.trans hr)
    exact absurd (.inr ⟨hop, hacc⟩) hacc'
  | _ => exact ⟨_, by decide, rfl⟩
end

/-! KAMUF_WRITE (R416, R419). -/

section
variable {s : State} {w : Origin} {x : Frame}

theorem State.request_write_of_inl {st : Nat} (hop : x.opcode = 2) (hchk : s.frameCheck w x = .inl st) : s.request w x = (st, [], s) := by
  simp [State.request, hop, hchk]

theorem State.request_write_of_inr {r : EntryInfo} {t : Nat} (hop : x.opcode = 2) (hchk : s.frameCheck w x = .inr (r, t)) :
    s.request w x = ((s.writeSegment w x t).mgt.answer, [], s.writeSegment w x t) := by
  simp [State.request, hop, hchk]

/-- A WRITE whose checks fail is answered with their status, and nothing else changes (R416, R418). -/
theorem exec_kamufWrite_of_inl {st : Nat} (hans : s.mgtAnswers w = true) (hop : x.opcode = 2) (hchk : s.frameCheck w x = .inl st) :
    exec (.kamufWrite w x) s = .next { s with mgt.lastFrame := some (responseTo x st []) } := by
  have hwait : ¬ (entryOf x = E.cntLayerBase ∧ (s.cntFn (fnNamed w x)).baseAfter.isNone = true ∧ (s.cntFn (fnNamed w x)).baseAfter.isSome = true) := by
    simp +contextual
  show Host.Outcome.next (s.handleAs w x 2) = _
  simp only [State.handleAs, hop, true_or, if_true, State.handle, hans, Bool.not_true, Bool.false_eq_true, if_false, State.request_write_of_inl hop hchk, if_neg hwait]

/-- A WRITE whose checks pass is answered with the status of its segment. A write of cnt_layer_base may wait for a flush instead (R442). -/
theorem exec_kamufWrite_of_inr {r : EntryInfo} {t : Nat} (hans : s.mgtAnswers w = true) (hop : x.opcode = 2) (hchk : s.frameCheck w x = .inr (r, t))
    (hne : entryOf x ≠ E.cntLayerBase) :
    exec (.kamufWrite w x) s = .next { s.writeSegment w x t with mgt.lastFrame := some (responseTo x (s.writeSegment w x t).mgt.answer []) } := by
  show Host.Outcome.next (s.handleAs w x 2) = _
  simp [State.handleAs, hop, State.handle, hans, State.request_write_of_inr hop hchk, hne]
end

/-! The obligation. -/

/-- Settles O56: an unsegmented WRITE of an RWC entry is `clearEntry` where its length fits and the answer 4 where it does not, and the checks of the frame refuse a WRITE of an RO entry. -/
theorem entryWrites : Obligations.EntryWrites := by
  unfold Obligations.EntryWrites
  refine ⟨fun s w x r t hans hop hchk hacc habs hoff hlast => ?_, fun s w x r hans hop hr hacc => ?_⟩
  · obtain ⟨-, hr⟩ := State.frameCheck_inr hchk
    have hsome : (entryInfo (entryOf x)).isSome := by simp [hr]
    have hexec := exec_kamufWrite_of_inr hans hop hchk (ne_cntLayerBase_of_rwc hr hacc)
    refine ⟨fun hlen => ⟨_, hexec, ?_⟩, fun hlen => ⟨_, hexec, ?_⟩⟩
    · rw [State.writeSegment_rwc_of_fits hr hacc habs hoff hlast hlen, State.clearEntry, s.dictNum_answer w _ t _ hsome]
      exact ⟨s.dictNum_num_self w _ t _ hsome, rfl, fun a p hap => s.dictNum_num_ne w hap, s.dictNum_blob w _ t _, s.dictNum_mem w _ t _, s.dictNum_cores w _ t _⟩
    · rw [State.writeSegment_rwc_of_misfits hr hacc habs hoff hlast hlen]
      exact ⟨rfl, rfl, rfl, rfl, rfl, rfl, rfl⟩
  · obtain ⟨st, hst, hchk⟩ := State.frameCheck_write_ro hop hr hacc
    exact ⟨st, hst, exec_kamufWrite_of_inl hans hop hchk⟩

end Sys2Proof.Machine
end

section
/-! The four error logs (R63, R100, R238, R374): what a record that arrives changes, what the reads of a log return and remove, and what a narrow read of BAR0 shows of one. -/

namespace Sys2Proof.Machine

/-! A record arrives. -/

section
variable {s : State} {n : LogName} {rec : Nat}

/-- A record as it enters an error log: with overflow where records were lost before it. -/
def State.marked (s : State) (n : LogName) (rec : Nat) : Nat := if s.lostOf n then setBit rec (overflowBit n) else rec

theorem State.marked_stk : s.marked .stk rec = if s.stk.lost then setBit rec 0 else rec := rfl
theorem State.marked_nwt : s.marked .nwt rec = if s.nwt.lost then setBit rec 62 else rec := rfl
theorem State.marked_l2c : s.marked .l2c rec = if s.l2.lost then setBit rec 62 else rec := rfl
theorem State.marked_fab : s.marked .fab rec = if s.fab.lost then setBit rec 62 else rec := rfl

theorem State.marked_of_clear (h : bit rec (overflowBit n) = false) : s.marked n rec = if s.lostOf n then rec + 2 ^ overflowBit n else rec := by
  simp [State.marked, setBit, h]

/-- Every record that arrives is to be copied into the persistent log, also one that its own log loses. -/
theorem errLogRecordArrive_frame (hrec : rec < 2 ^ 64) :
    (errLogRecordArrive n rec s).mgt.toCopy = s.mgt.toCopy ++ [s.marked n rec] ∧ (errLogRecordArrive n rec s).mem = s.mem ∧
      (errLogRecordArrive n rec s).cores = s.cores := by
  have hmod := Nat.mod_eq_of_lt hrec
  cases n
  all_goals
    simp only [errLogRecordArrive, hmod, State.pushStk, State.pushNwt, State.pushL2, State.pushFab]
    split <;> simp [State.marked_stk, State.marked_nwt, State.marked_l2c, State.marked_fab]

/-- With room in its log a record enters behind those that stand there. -/
theorem errLogRecordArrive_of_room (hrec : rec < 2 ^ 64) (hroom : (s.logOf n).length < 32) :
    (errLogRecordArrive n rec s).logOf n = s.logOf n ++ [s.marked n rec] ∧ (errLogRecordArrive n rec s).lostOf n = false := by
  have hmod := Nat.mod_eq_of_lt hrec
  cases n
  all_goals
    simp only [State.logOf] at hroom
    simp only [errLogRecordArrive, hmod]
    simp [State.pushStk, State.pushNwt, State.pushL2, State.pushFab, hroom, State.logOf, State.lostOf, State.marked_stk, State.marked_nwt, State.marked_l2c, State.marked_fab]

/-- A record that finds its log full is lost, and log_overflow is set. -/
theorem errLogRecordArrive_of_full (hfull : 32 ≤ (s.logOf n).length) :
    (errLogRecordArrive n rec s).logOf n = s.logOf n ∧ (errLogRecordArrive n rec s).lostOf n = true ∧ (errLogRecordArrive n rec s).overflowOf n = true := by
  replace hfull := Nat.not_lt.mpr hfull
  cases n
  all_goals
    simp only [State.logOf] at hfull
    simp [errLogRecordArrive, State.pushStk, State.pushNwt, State.pushL2, State.pushFab, hfull, State.logOf, State.lostOf, State.overflowOf, bit_setBit]
end

/-! The state of BAR0 is apart from the logs; a removal takes the head of one of them. -/

@[simp] theorem State.logOf_bar0 (s : State) (b : Bar0) (n : LogName) : State.logOf { s with bar0 := b } n = s.logOf n := by cases n <;> rfl

section
variable (s : State) (n : LogName)

@[simp] theorem State.popLog_logOf_self : (s.popLog n).logOf n = (s.logOf n).drop 1 := by cases n <;> rfl
theorem State.popLog_logOf_ne {m : LogName} (h : m ≠ n) : (s.popLog n).logOf m = s.logOf m := by
  revert h
  cases n <;> cases m <;> simp [State.popLog, State.logOf]
@[simp] theorem State.popLog_bar0 : (s.popLog n).bar0 = s.bar0 := by cases n <;> rfl
@[simp] theorem State.popLog_mgt : (s.popLog n).mgt = s.mgt := by cases n <;> rfl
@[simp] theorem State.popLog_mem : (s.popLog n).mem = s.mem := by cases n <;> rfl

/-- There is nothing to remove from an empty log. -/
theorem State.popLog_of_nil (h : s.logOf n = []) : s.popLog n = s := by
  cases n
  all_goals
    simp only [State.logOf] at h
    rw [State.popLog, h, List.drop_nil, ← h]

theorem State.removeHead_eq : ∃ c, s.removeHead n = { s.popLog n with bar0.captured := c } := by
  unfold State.removeHead
  dsimp only
  split
  · exact ⟨_, rfl⟩ -- a captured half loses its mark
  · exact ⟨_, rfl⟩

/-- A 64-bit read returns the head and removes it (R63); of BAR0 it changes a captured half besides. -/
theorem State.readLog64_eq : ∃ c, s.readLog64 n = State.popLog { s with bar0.captured := c, bar0.rdata := (s.logOf n).headD 0 } n := by
  obtain ⟨c, hc⟩ := State.removeHead_eq { s with bar0.rdata := (s.logOf n).headD 0 } n
  refine ⟨c, ?_⟩
  rw [State.readLog64, hc]
  cases n <;> rfl

variable {s n}

theorem State.readLogHigh_of_uncaptured (h : s.bar0.captured.get? (halfKey 0 (logOffset n)) = none) :
    s.readLogHigh n = State.popLog { s with bar0.rdata := (s.logOf n).headD 0 / 2 ^ 32 } n := by
  simp only [State.readLogHigh, h]

/-- The read of the high half that follows one of the low half returns the captured half and removes its record (R63): the mark of the capture says
whether a record stood there. -/
theorem State.readLogHigh_readLogLow (h : (s.logOf n).headD 0 < 2 ^ 64) :
    ∃ c, c.get? (halfKey 0 (logOffset n)) = none ∧
      (s.readLogLow n).readLogHigh n = State.popLog { s with bar0.captured := c, bar0.rdata := (s.logOf n).headD 0 / 2 ^ 32 } n := by
  have hhigh : (s.logOf n).headD 0 / 2 ^ 32 < headMark := Nat.div_lt_of_lt_mul h
  refine ⟨(s.readLogLow n).bar0.captured.del (halfKey 0 (logOffset n)), SMap.get?_del_self _ _, ?_⟩
  simp only [State.readLogHigh, State.readLogLow, SMap.get?_put_self]
  cases hlog : s.logOf n with
  | nil => simp [State.popLog_of_nil, hlog, headMark]
  | cons r rest =>
    simp only [hlog, List.headD_cons] at hhigh
    have hmod : (r / 2 ^ 32 + headMark) % headMark = r / 2 ^ 32 := by rw [Nat.add_mod_right, Nat.mod_eq_of_lt hhigh]
    simp only [List.headD_cons, List.isEmpty_cons, Bool.false_eq_true, if_false, hmod, if_pos (Nat.le_add_left headMark _)]
end

/-! A narrow read of BAR0. -/

/-- The bytes of a number as they stand from place b on, from place a on and put together again. -/
theorem ofLe_map_rangeFrom {v b : Nat} {f : Nat → Byte} :
    ∀ {a n : Nat}, b ≤ a → (∀ i, a ≤ i → i < a + n → f i = BitVec.ofNat 8 (v / 256 ^ (i - b) % 256)) →
      ofLe ((rangeFrom a n).map f) = v / 256 ^ (a - b) % 256 ^ n
  | a, 0, _, _ => by simp [rangeFrom, ofLe, Nat.mod_one]
  | a, n + 1, hba, hf => by
    have hnext : v / 256 ^ (a + 1 - b) = v / 256 ^ (a - b) / 256 := by
      rw [Nat.succ_sub hba, Nat.pow_succ, Nat.div_div_eq_div_mul]
    have ih : ofLe ((rangeFrom (a + 1) n).map f) = v / 256 ^ (a + 1 - b) % 256 ^ n :=
      ofLe_map_rangeFrom (Nat.le_succ_of_le hba) fun i hi hin => hf i (by omega) (by omega)
    calc ofLe ((rangeFrom a (n + 1)).map f)
        = (f a).toNat + 256 * ofLe ((rangeFrom (a + 1) n).map f) := rfl
      _ = v / 256 ^ (a - b) % 256 + 256 * (v / 256 ^ (a - b) / 256 % 256 ^ n) := by
        rw [ih, hnext, hf a (Nat.le_refl a) (by omega)]
        simp
      _ = v / 256 ^ (a - b) % 256 ^ (n + 1) := by rw [Nat.pow_succ', Nat.mod_mul]

theorem wideReg_logOffset (n : LogName) : wideReg 0 (logOffset n) = true := by cases n <;> decide

theorem logOffset_mod_eight (n : LogName) : logOffset n % 8 = 0 := by cases n <;> rfl

theorem logOffset_add_le_bar0Size (n : LogName) : logOffset n + 8 ≤ bar0Size 0 := by cases n <;> decide

/-- The eight bytes of a log are its register's. -/
theorem regBase_of_log {n : LogName} {a : Nat} (hlo : logOffset n ≤ a) (hhi : a < logOffset n + 8) : regBase 0 a = logOffset n := by
  have hbase : a / 8 * 8 = logOffset n := by have := logOffset_mod_eight n; omega
  rw [regBase, hbase, wideReg_logOffset, if_pos rfl]

/-- The register of a log shows its head. -/
theorem State.readReg_log (s : State) (n : LogName) : s.readReg 0 (logOffset n) = (s.logOf n).headD 0 := by cases n <;> rfl

theorem State.regBytes_log (s : State) {n : LogName} {off size : Nat} (hlo : logOffset n ≤ off) (hhi : off + size ≤ logOffset n + 8) :
    s.regBytes 0 off size = (s.logOf n).headD 0 / 256 ^ (off - logOffset n) % 256 ^ size :=
  ofLe_map_rangeFrom hlo fun i hi hin => by
    rw [State.regByte, regBase_of_log (by omega) (by omega : i < logOffset n + 8), s.readReg_log]

/-- A read that is neither of 32 nor of 64 bits has no side effect (R10). -/
theorem registerRead_of_narrow {s : State} {f off size : Nat} (hopen : s.barState f = .opened) (hin : off + size ≤ bar0Size f) (h4 : size ≠ 4) (h8 : size ≠ 8) :
    registerRead f off size s = { s with bar0.rdata := s.regBytes f off size } := by
  simp [registerRead, hopen, Nat.not_lt.mpr hin, h4, h8]

/-! The obligation. -/

/-- Settles O60, log by log: what arrives is pushed or lost, and each read is `popLog` or leaves the logs. -/
theorem errorLogs : Obligations.ErrorLogs := by
  unfold Obligations.ErrorLogs
  refine ⟨fun s n rec hrec hclear => ⟨fun hroom => ?_, fun hfull => ?_⟩,
    fun s n hopen => ⟨?_, ?_, fun hnone => ?_, fun off size hfree h4 h8 hlo hhi => ?_⟩, fun s n hclosed => ?_⟩
  · -- a record that finds room
    obtain ⟨hcopy, hmem, hcores⟩ := errLogRecordArrive_frame (s := s) (n := n) hrec
    obtain ⟨hlog, hlost⟩ := errLogRecordArrive_of_room hrec hroom
    rw [State.marked_of_clear hclear] at hcopy hlog
    exact ⟨_, rfl, hlost, hmem, hcores, hlog, hcopy⟩
  · -- a record that finds the log full
    obtain ⟨-, hmem, hcores⟩ := errLogRecordArrive_frame (s := s) (n := n) hrec
    obtain ⟨hlog, hlost, hover⟩ := errLogRecordArrive_of_full (rec := rec) hfull
    exact ⟨_, rfl, hlost, hover, hlog, hmem, hcores⟩
  · -- a 64-bit read
    obtain ⟨c, hc⟩ := s.readLog64_eq n
    refine ⟨_, rfl, ?_⟩
    rw [errLogRead64, if_pos hopen, hc]
    exact ⟨by simp, by simp, fun m hm => by simp [State.popLog_logOf_ne _ _ hm], by simp, by simp⟩
  · -- a read of the low half, and of the high half after it
    refine ⟨s.readLogLow n, congrArg Host.Outcome.next (if_pos hopen), rfl,
      by simp [State.readLogLow], fun m _ => by simp [State.readLogLow], rfl, rfl, fun hhead => ?_⟩
    obtain ⟨c, hkey, hc⟩ := State.readLogHigh_readLogLow hhead
    refine ⟨_, congrArg Host.Outcome.next ((if_pos hopen).trans hc), ?_⟩
    simp [hkey]
  · -- a read of the high half alone
    refine ⟨_, congrArg Host.Outcome.next ((if_pos hopen).trans (State.readLogHigh_of_uncaptured hnone)), ?_⟩
    simp
  · -- a narrower read
    have hin : off + size ≤ bar0Size 0 := hhi.trans (logOffset_add_le_bar0Size n)
    show Host.Outcome.next (s.inOrder 0 _ (registerRead 0 off size)) = _
    rw [State.inOrder_of_free hfree, registerRead_of_narrow hopen hin h4 h8, s.regBytes_log hlo hhi]
  · -- a read while the BAR is closed
    refine ⟨s.complete 1 [], ?_, by cases n <;> rfl, rfl⟩
    show Host.Outcome.next (errLogRead64 n s) = _
    simp [errLogRead64, State.closedRead, hclosed]

end Sys2Proof.Machine
end

section
/-! What a group's save record holds, field by field (R122, R123, Table 5.7), and that reading it back gives the group. -/

namespace Sys2Proof

/-! Fields of a record. -/

@[simp] theorem length_leBytes (n x : Nat) : (leBytes n x).length = n := by
  induction n generalizing x with
  | zero => rfl
  | succ n ih => simp [leBytes, ih]

@[simp] theorem length_zeroBytes (n : Nat) : (zeroBytes n).length = n := List.length_replicate

/-- The little-endian bytes of a number have its value, as far as they reach. -/
theorem ofLe_leBytes (n x : Nat) : ofLe (leBytes n x) = x % 256 ^ n := by
  induction n generalizing x with
  | zero => simp [leBytes, ofLe, Nat.mod_one]
  | succ n ih =>
    rw [leBytes, ofLe, ih, Nat.pow_succ', Nat.mod_mul]
    simp

theorem fieldAt_append_right {l m : List Byte} {off n : Nat} (h : l.length ≤ off) : fieldAt (l ++ m) off n = fieldAt m (off - l.length) n := by
  simp [fieldAt, List.drop_append, List.drop_of_length_le h]

theorem fieldAt_append_left {l m : List Byte} {off n : Nat} (h : off + n ≤ l.length) : fieldAt (l ++ m) off n = fieldAt l off n := by
  rw [fieldAt, fieldAt, List.drop_append_of_le_length (by omega), List.take_append_of_le_length (by simp; omega)]

theorem fieldAt_leBytes_append (n x : Nat) (m : List Byte) : fieldAt (leBytes n x ++ m) 0 n = x % 256 ^ n := by
  rw [fieldAt_append_left (by simp), fieldAt, List.drop_zero, List.take_of_length_le (by simp), ofLe_leBytes]

theorem drop_flatMap_of_length {α β : Type} {f : α → List β} {w : Nat} (hf : ∀ a, (f a).length = w) (i : Nat) (l : List α) :
    (l.flatMap f).drop (w * i) = (l.drop i).flatMap f := by
  induction i generalizing l with
  | zero => simp
  | succ i ih =>
    cases l with
    | nil => simp
    | cons a t => rw [List.flatMap_cons, Nat.mul_succ, Nat.add_comm, ← List.drop_drop, List.drop_left' (hf a), ih, List.drop_succ_cons]

/-- The element of a table of numbers at its place. -/
theorem fieldAt_table {N w i : Nat} (f : Nat → Nat) (m : List Byte) (h : i < N) :
    fieldAt ((List.range N).flatMap (fun t => leBytes w (f t)) ++ m) (w * i) w = f i % 256 ^ w := by
  have hlen : ((List.range N).flatMap (fun t => leBytes w (f t))).length = N * w := by simp [List.length_flatMap]
  have hfit : w * i + w ≤ N * w := by rw [← Nat.mul_succ, Nat.mul_comm]; exact Nat.mul_le_mul_right w h
  rw [fieldAt_append_left (by omega), fieldAt, drop_flatMap_of_length (fun t => length_leBytes w (f t)), List.drop_eq_getElem_cons (by simpa using h)]
  simpa [fieldAt] using fieldAt_leBytes_append w (f i) (((List.range N).drop (i + 1)).flatMap fun t => leBytes w (f t))

theorem add_div_of_lt (n : Nat) {t w : Nat} (h : t < w) : (n * w + t) / w = n := by
  rw [Nat.mul_comm, Nat.mul_add_div (Nat.zero_lt_of_lt h), Nat.div_eq_of_lt h, Nat.add_zero]

theorem add_mod_of_lt (n : Nat) {t w : Nat} (h : t < w) : (n * w + t) % w = t := by
  rw [Nat.mul_comm, Nat.mul_add_mod, Nat.mod_eq_of_lt h]

/-! Sparse tables built from a range. -/

theorem SMap.get?_of_keys {α : Type} {l : SMap α} (hn : (l.map Prod.fst).Nodup) {k : Nat} {v : α} (h : (k, v) ∈ l) : SMap.get? l k = some v := by
  induction l with
  | nil => simp at h
  | cons e t ih =>
    obtain ⟨j, w⟩ := e
    rw [SMap.get?]
    rcases List.mem_cons.mp h with heq | ht
    · simp_all
    · have hk : k ≠ j := by
        rintro rfl
        exact (List.nodup_cons.mp hn).1 (List.mem_map.mpr ⟨_, ht, rfl⟩)
      rw [if_neg hk, ih (List.nodup_cons.mp hn).2 ht]

theorem SMap.get?_eq_none {α : Type} {l : SMap α} {k : Nat} (h : ∀ v, (k, v) ∉ l) : SMap.get? l k = none := by
  induction l with
  | nil => rfl
  | cons e t ih =>
    obtain ⟨j, w⟩ := e
    have hk : k ≠ j := by rintro rfl; exact h w (by simp)
    rw [SMap.get?, if_neg hk, ih fun v hv => h v (by simp [hv])]

/-- The value at a key of a table with one entry for each number below `n`. -/
theorem SMap.getD_range {α : Type} {n i : Nat} (f : Nat → α) (d : α) (h : i < n) : SMap.getD ((List.range n).map fun t => (t, f t)) i d = f i := by
  have hkeys : (((List.range n).map fun t => (t, f t)).map Prod.fst).Nodup := by simpa [Function.comp_def] using List.nodup_range
  rw [SMap.getD, SMap.get?_of_keys hkeys (List.mem_map.mpr ⟨i, List.mem_range.mpr h, rfl⟩)]

/-- The value at a key of such a table from which the default values are left out. -/
theorem SMap.getD_range_sparse {α : Type} [DecidableEq α] {n i : Nat} (key : Nat → Nat) (f : Nat → α) (d : α) (hk : Function.Injective key) (h : i < n) :
    SMap.getD (((List.range n).map fun t => (key t, f t)).filter fun e => !decide (e.2 = d)) (key i) d = f i := by
  have hkeys : ((((List.range n).map fun t => (key t, f t)).filter fun e => !decide (e.2 = d)).map Prod.fst).Nodup := by
    refine List.Nodup.sublist (List.Sublist.map _ List.filter_sublist) ?_
    simpa [Function.comp_def] using List.Nodup.map hk List.nodup_range
  by_cases hd : f i = d
  · rw [SMap.getD, SMap.get?_eq_none, hd]
    intro v hv
    simp only [List.mem_filter, List.mem_map, List.mem_range, Prod.mk.injEq] at hv
    obtain ⟨⟨j, -, hj, rfl⟩, hne⟩ := hv
    rw [hk hj] at hne
    simp [hd] at hne
  · rw [SMap.getD, SMap.get?_of_keys hkeys (v := f i)]
    simpa [hd] using ⟨i, h, rfl, rfl⟩

end Sys2Proof

namespace Sys2Proof.Machine

/-! The parts of the record (Table 5.7). -/

/-- The watchdog time that a record holds. -/
def Group.usedAt (g : Group) (now : Nat) : Nat :=
  match g.gbarSince with
  | some t => if g.gbar = 0 then 0 else g.gbarUsed + (now - t)
  | none => 0

/-- The first 64 bytes of a group's record. -/
def Group.recHead (g : Group) (now : Nat) : List Byte :=
  leBytes 1 1 ++ (leBytes 1 (if g.width = 64 then 1 else 0) ++ (leBytes 1 (g.vregs / 8) ++ (leBytes 1 g.inBlock ++ (zeroBytes 4 ++
    (leBytes 8 g.live ++ (leBytes 8 g.gbar ++ (leBytes 8 g.yielded ++ (leBytes 8 (g.usedAt now) ++ (leBytes 4 g.layer ++
      (leBytes 2 g.operator ++ zeroBytes 18))))))))))

/-- The pcs, the scalar registers and the predicates of a group's record. -/
def Group.recPcs (g : Group) : List Byte := (List.range 64).flatMap fun t => leBytes 8 (if t < g.width then g.pcs.getD t 0 else 0)
def Group.recScalars (g : Group) : List Byte := (List.range 64).flatMap fun r => leBytes 8 (g.s.getD r 0#64).toNat
def Group.recPreds (g : Group) : List Byte := (List.range 64).flatMap fun t => leBytes 1 (g.p.getD t 0 % 128 + 128)

/-- The vector registers of a group's record: register by register, thread by thread. -/
def Group.recVectors (g : Group) : List Byte :=
  (List.range g.vregs).flatMap fun r => (List.range g.width).flatMap fun t => leBytes 4 (g.v.getD (r * 64 + t) 0#32).toNat

theorem Group.record_eq (g : Group) (now : Nat) :
    g.record now = g.recHead now ++ (g.recPcs ++ (g.recScalars ++ (g.recPreds ++ g.recVectors))) := by
  simp only [Group.record, Group.recHead, Group.recPcs, Group.recScalars, Group.recPreds, Group.recVectors, List.append_assoc]
  rfl

@[simp] theorem Group.length_recHead (g : Group) (now : Nat) : (g.recHead now).length = 0x40 := by simp [Group.recHead]
@[simp] theorem Group.length_recPcs (g : Group) : g.recPcs.length = 0x200 := by simp [Group.recPcs, List.length_flatMap]
@[simp] theorem Group.length_recScalars (g : Group) : g.recScalars.length = 0x200 := by simp [Group.recScalars, List.length_flatMap]
@[simp] theorem Group.length_recPreds (g : Group) : g.recPreds.length = 0x40 := by simp [Group.recPreds, List.length_flatMap]

/-- A field of the first 64 bytes stands in the record. -/
theorem Group.fieldAt_record_head (g : Group) (now : Nat) {off n : Nat} (h : off + n ≤ 0x40) :
    fieldAt (g.record now) off n = fieldAt (g.recHead now) off n := by
  rw [g.record_eq, fieldAt_append_left (by simpa using h)]

section
variable (g : Group) (now : Nat)

theorem Group.record_valid : fieldAt (g.record now) 0 1 = 1 := by
  simp [g.fieldAt_record_head now, Group.recHead, fieldAt_leBytes_append]

theorem Group.record_narrow : fieldAt (g.record now) 1 1 = if g.width = 64 then 1 else 0 := by
  rw [g.fieldAt_record_head now (by decide), Group.recHead, fieldAt_append_right (by simp)]
  simp only [length_leBytes, Nat.sub_self, fieldAt_leBytes_append]
  split <;> rfl

theorem Group.record_steps : fieldAt (g.record now) 2 1 = g.vregs / 8 % 256 := by
  rw [g.fieldAt_record_head now (by decide), Group.recHead]
  simp [fieldAt_append_right, fieldAt_leBytes_append]

theorem Group.record_inBlock : fieldAt (g.record now) 3 1 = g.inBlock % 256 := by
  rw [g.fieldAt_record_head now (by decide), Group.recHead]
  simp [fieldAt_append_right, fieldAt_leBytes_append]

theorem Group.record_live : fieldAt (g.record now) 8 8 = g.live % 2 ^ 64 := by
  rw [g.fieldAt_record_head now (by decide), Group.recHead]
  simp [fieldAt_append_right, fieldAt_leBytes_append]

theorem Group.record_gbar : fieldAt (g.record now) 0x10 8 = g.gbar % 2 ^ 64 := by
  rw [g.fieldAt_record_head now (by decide), Group.recHead]
  simp [fieldAt_append_right, fieldAt_leBytes_append]

theorem Group.record_yielded : fieldAt (g.record now) 0x18 8 = g.yielded % 2 ^ 64 := by
  rw [g.fieldAt_record_head now (by decide), Group.recHead]
  simp [fieldAt_append_right, fieldAt_leBytes_append]

theorem Group.record_layer : fieldAt (g.record now) 0x28 4 = g.layer % 2 ^ 32 := by
  rw [g.fieldAt_record_head now (by decide), Group.recHead]
  simp [fieldAt_append_right, fieldAt_leBytes_append]

theorem Group.record_operator : fieldAt (g.record now) 0x2C 2 = g.operator % 2 ^ 16 := by
  rw [g.fieldAt_record_head now (by decide), Group.recHead]
  simp [fieldAt_append_right, fieldAt_leBytes_append]

theorem Group.record_pc {t : Nat} (h : t < 64) : fieldAt (g.record now) (0x40 + 8 * t) 8 = (if t < g.width then g.pcs.getD t 0 else 0) % 2 ^ 64 := by
  rw [g.record_eq, fieldAt_append_right (by simp), Group.length_recHead, Nat.add_sub_cancel_left]
  exact fieldAt_table (fun t => if t < g.width then g.pcs.getD t 0 else 0) _ h

theorem Group.record_sreg {r : Nat} (h : r < 64) : fieldAt (g.record now) (0x240 + 8 * r) 8 = (g.s.getD r 0#64).toNat % 2 ^ 64 := by
  rw [g.record_eq, fieldAt_append_right (by simp; omega), fieldAt_append_right (by simp; omega), Group.length_recHead, Group.length_recPcs,
    show 0x240 + 8 * r - 0x40 - 0x200 = 8 * r by omega]
  exact fieldAt_table (fun r => (g.s.getD r 0#64).toNat) _ h

theorem Group.record_preds {t : Nat} (h : t < 64) : fieldAt (g.record now) (0x440 + t) 1 = (g.p.getD t 0 % 128 + 128) % 256 := by
  rw [g.record_eq, fieldAt_append_right (by simp; omega), fieldAt_append_right (by simp; omega), fieldAt_append_right (by simp; omega),
    Group.length_recHead, Group.length_recPcs, Group.length_recScalars, show 0x440 + t - 0x40 - 0x200 - 0x200 = 1 * t by omega]
  exact fieldAt_table (fun t => g.p.getD t 0 % 128 + 128) _ h

/-- The vector registers of a record as one table: register `i / width` of thread `i % width`. -/
theorem Group.recVectors_eq : g.recVectors =
    (List.range (g.vregs * g.width)).flatMap fun i => leBytes 4 (g.v.getD (i / g.width * 64 + i % g.width) 0#32).toNat := by
  unfold Group.recVectors
  induction g.vregs with
  | zero => simp
  | succ n ih =>
    rw [Nat.succ_mul, List.range_succ, List.range_add, List.flatMap_append, List.flatMap_append, ih, List.flatMap_singleton, List.flatMap_map]
    refine congrArg _ (List.flatMap_congr fun t ht => ?_)
    have hw : t < g.width := List.mem_range.mp ht
    rw [add_div_of_lt n hw, add_mod_of_lt n hw]

theorem Group.record_vector {i : Nat} (h : i < g.vregs * g.width) :
    fieldAt (g.record now) (0x480 + 4 * i) 4 = (g.v.getD (i / g.width * 64 + i % g.width) 0#32).toNat % 2 ^ 32 := by
  rw [g.record_eq, fieldAt_append_right (by simp; omega), fieldAt_append_right (by simp; omega), fieldAt_append_right (by simp; omega),
    fieldAt_append_right (by simp; omega), Group.length_recHead, Group.length_recPcs, Group.length_recScalars, Group.length_recPreds,
    show 0x480 + 4 * i - 0x40 - 0x200 - 0x200 - 0x40 = 4 * i by omega, Group.recVectors_eq, ← List.append_nil (List.flatMap _ _)]
  exact fieldAt_table (fun i => (g.v.getD (i / g.width * 64 + i % g.width) 0#32).toNat) _ h
end

/-! The obligation. -/

theorem Group.pred_of_p {g h : Group} {r t : Nat} (hp : h.p.getD t 0 = g.p.getD t 0 % 128) (hr : r < 8) : h.pred r t = g.pred r t := by
  unfold Group.pred
  rw [hp]
  by_cases h7 : r = 7
  · simp [h7]
  · rw [bit_eq_testBit, bit_eq_testBit, show 128 = 2 ^ 7 from rfl, Nat.testBit_mod_two_pow, decide_eq_true (by omega : r < 7), Bool.true_and]

/-- The place of a vector register in a record that holds `w` threads. -/
theorem injective_regKey {w : Nat} (hw : w ≤ 64) : Function.Injective fun i => i / w * 64 + i % w := by
  rcases Nat.eq_zero_or_pos w with rfl | hpos
  · intro i j hij; simpa using hij
  intro i j hij
  have hi := Nat.mod_lt i hpos
  have hj := Nat.mod_lt j hpos
  simp only at hij
  have hdiv : i / w = j / w := by omega
  have hmod : i % w = j % w := by omega
  rw [← Nat.div_add_mod i w, ← Nat.div_add_mod j w, hdiv, hmod]

/-- Settles O28: each field of `groupOfRec` is the field of the record at its place in Table 5.7, and that field is the group's. -/
theorem savedGroupReturns : Obligations.SavedGroupReturns := by
  unfold Obligations.SavedGroupReturns
  intro g n q node block now hw hv8 hvpos hv hin hlive hgbar hyield hlayer hop hpcs
  have hw64 : g.width ≤ 64 := by omega
  have hwidth : (if decide (g.width = 64) = true then 64 else 32) = g.width := by
    rcases hw with h | h <;> simp [h]
  have hpow : 2 ^ g.width ≤ 2 ^ 64 := Nat.pow_le_pow_right (by decide) hw64
  have hsteps : g.vregs / 8 % 256 = g.vregs / 8 := by omega
  have hregs : 8 * (g.vregs / 8) = g.vregs := by omega
  have haccept : ¬ (fieldAt (g.record now) 0 1 ≠ 1 ∨ fieldAt (g.record now) 1 1 ≠ b2n (decide (g.width = 64)) ∨ fieldAt (g.record now) 2 1 = 0 ∨
      32 < fieldAt (g.record now) 2 1) := by
    rw [g.record_valid, g.record_narrow, g.record_steps, hsteps]
    simp [b2n]
    omega
  have key (x : Nat) (h : x < 2 ^ g.width) : x % 2 ^ 64 % 2 ^ g.width = x := by
    rw [Nat.mod_eq_of_lt (h.trans_le hpow), Nat.mod_eq_of_lt h]
  unfold groupOfRec
  rw [if_neg haccept]
  refine ⟨_, rfl, ?_⟩
  simp only [hwidth, g.record_steps, hsteps, hregs, g.record_inBlock, g.record_live, g.record_gbar, g.record_yielded, g.record_layer, g.record_operator,
    key _ hlive, key _ hgbar, key _ hyield]
  refine ⟨trivial, trivial, by omega, trivial, trivial, trivial, by omega, by omega, fun t ht => ?_, fun r t hr ht => ?_, fun r hr => ?_, fun r t hr ht => ?_⟩
  · rw [SMap.getD_range (fun t => fieldAt (g.record now) (0x40 + 8 * t) 8 % 2 ^ 57) 0 ht]
    have := hpcs t ht
    rw [g.record_pc now (by omega), if_pos ht]
    omega
  · have hi : r * g.width + t < g.vregs * g.width := by
      calc r * g.width + t < r * g.width + g.width := by omega
        _ = (r + 1) * g.width := (Nat.succ_mul _ _).symm
        _ ≤ g.vregs * g.width := Nat.mul_le_mul_right _ hr
    have hkey : (r * g.width + t) / g.width * 64 + (r * g.width + t) % g.width = r * 64 + t := by rw [add_div_of_lt r ht, add_mod_of_lt r ht]
    have hget := SMap.getD_range_sparse (fun i => i / g.width * 64 + i % g.width) (fun i => BitVec.ofNat 32 (fieldAt (g.record now) (0x480 + 4 * i) 4)) 0#32
      (injective_regKey hw64) hi
    rw [g.record_vector now hi, hkey] at hget
    rw [Group.vreg, hget, Nat.mod_eq_of_lt (BitVec.isLt _), BitVec.ofNat_toNat, BitVec.setWidth_eq, Group.vreg]
  · have hget := SMap.getD_range (fun r => BitVec.ofNat 64 (fieldAt (g.record now) (0x240 + 8 * r) 8)) 0#64 hr
    rw [Group.sreg, hget, g.record_sreg now hr, Nat.mod_eq_of_lt (BitVec.isLt _), BitVec.ofNat_toNat, BitVec.setWidth_eq, Group.sreg]
  · refine Group.pred_of_p ?_ hr
    rw [SMap.getD_range (fun t => fieldAt (g.record now) (0x440 + t) 1 % 128) 0 ht, g.record_preds now (by omega)]
    omega

end Sys2Proof.Machine
end

section
/-! The step itself: which command it runs, where it can stop, and the state after reset (R44, R57, R58, R292, R299, R448, Table 21.3). -/

namespace Sys2Proof.Machine

/-- Settles O1: `step` reads the queue once. -/
theorem stepRunsFrontCommand : Obligations.StepRunsFrontCommand := fun _ _ _ => rfl

/-! Where a step can stop (R44, R58). -/

theorem exec_of_noBank (s : State) {c : Instr} (h : noBank c) : exec c s = .fault .noSuchAddress := by
  cases c with
  | baseDieRead pa errs => exact if_pos h
  | baseDieWrite pa mask data errs => exact if_pos h
  | _ => exact h.elim

theorem exec_next_of_bank (s : State) {c : Instr} (h : ¬ noBank c) : ∃ t, exec c s = .next t := by
  cases c with
  | baseDieRead pa errs => exact ⟨_, if_neg h⟩
  | baseDieWrite pa mask data errs => exact ⟨_, if_neg h⟩
  | _ => exact ⟨_, rfl⟩

/-- Settles O4: every arm of `exec` but those of the two bank accesses answers a next state whatever it is given. -/
theorem stepGoesOn : Obligations.StepGoesOn := by
  unfold Obligations.StepGoesOn
  refine fun s => ⟨fun c rest hp hc => ?_, fun hbank => ?_⟩
  · simp only [step, hp]
    exact exec_of_noBank _ hc
  · cases hp : s.pending with
    | nil => exact ⟨tickNs s, by simp only [step, hp]⟩
    | cons c rest =>
      simp only [step, hp]
      exact exec_next_of_bank _ (hbank c rest hp)

/-- Settles O2: every table of the state after reset is empty, so that each read of one gives its default. -/
theorem resetState : Obligations.ResetState := by
  unfold Obligations.ResetState
  refine ⟨⟨reset_mem_wf, List.Pairwise.nil⟩, fun _ => rfl, fun _ => List.not_mem_nil, fun _ => ⟨rfl, rfl, rfl⟩, fun _ => rfl, fun _ => rfl, fun _ => ⟨rfl, rfl, rfl⟩,
    fun _ => rfl, fun _ => rfl, fun _ => rfl, rfl, rfl, fun f hf => ?_⟩
  have hne : f ≠ 0 := Nat.ne_of_gt hf
  simp [State.fn, State.reset, Hif.initial, SMap.getD, SMap.get?, hne, FnSt.initial]

end Sys2Proof.Machine
end

section
/-! Entries of the dictionary that a row of it covers, and the operating point, the live rates, the descriptors and the mode of a frame row (R22, R27, R31, R32, R59). -/

namespace Sys2Proof.Machine

/-- An entry of a row of the dictionary exists. -/
theorem entryInfo_isSome_of_row {b n a : Nat} (h : entryTable.any (fun r => decide (r.base = b) && decide (r.count = n)) = true) (hlo : b ≤ a) (hhi : a < b + n) :
    (entryInfo a).isSome := by
  obtain ⟨r, hr, hb⟩ := List.any_eq_true.mp h
  simp only [Bool.and_eq_true, decide_eq_true_eq] at hb
  exact List.find?_isSome.mpr ⟨r, hr, by simp [hb, hlo, hhi]⟩

/-- A write of one numeric entry leaves every other. -/
theorem State.num_setNum_of_ne (s : State) {a b : Nat} (v : Nat) (h : b ≠ a) : (s.setNum a v).num b = s.num b :=
  State.num_setNum_ne s (by omega)

/-- A write that its entry's own rule refuses changes nothing but the answer. -/
theorem State.deviceWrite_bad (s : State) (w : Origin) {a v st : Nat} (f : State → State) (h : s.deviceCheck w a = 0) (hst : st ≠ 0) :
    s.deviceWrite w a v st f = s.answer st := by
  simp [State.deviceWrite, h, hst]

@[simp] theorem State.dictLogged_rampTarget (s : State) (w : Origin) (a t : Nat) (x y : List Byte) : (s.dictLogged w a t x y).time.rampTarget = s.time.rampTarget := by
  unfold State.dictLogged State.appendLog
  split
  · rfl
  · dsimp only; split <;> split <;> simp

theorem isSome_opPointRequest : (entryInfo E.opPointRequest).isSome := by decide

/-- Settles O5: each of the four commands is its branch, and the writes of entries are `dictNum`, `setNum` and `setBlob`. -/
theorem operatingPointAndRates : Obligations.OperatingPointAndRates := by
  unfold Obligations.OperatingPointAndRates
  refine ⟨⟨fun s who v hc hv => ?_, fun s who v hc hv => ?_, fun s who v hc => ?_, fun s v hr => ?_⟩,
    fun s d r hd => ?_, fun s p read hp => ?_, fun s p read hp hlive => ?_, fun s read => ?_, fun s c read hne hin hreach hlen => ?_, fun s u read => ?_⟩
  · refine ⟨_, rfl, ?_⟩
    rw [opPointRequest, if_pos hv, State.deviceWrite_ok _ _ _ _ _ hc]
    exact ⟨s.dictNum_num_self who _ 0 v isSome_opPointRequest, s.dictNum_answer who _ 0 v isSome_opPointRequest, rfl,
      s.dictNum_num_ne who (by decide), by simp, by simp, by simp⟩
  · refine congrArg Host.Outcome.next ?_
    rw [opPointRequest, if_neg (Nat.not_le.mpr hv), State.deviceWrite_bad _ _ _ hc (by decide)]
  · exact congrArg Host.Outcome.next (s.deviceWrite_refused who _ _ _ _ hc)
  · refine ⟨_, rfl, ?_⟩
    simp [opPointRampComplete, hr]
  · refine ⟨_, rfl, ?_⟩
    rw [rateLiveUpdate, if_pos hd]
    exact ⟨by simp, fun a ha => s.num_setNum_of_ne _ ha, by simp⟩
  · refine ⟨_, rfl, ?_⟩
    rw [descriptorUpdate, if_pos hp]
    exact ⟨by simp [State.blob, State.setBlob], rfl, rfl⟩
  · refine ⟨_, rfl, ?_⟩
    rw [descriptorUpdate, if_pos ⟨hp, hlive⟩]
    exact ⟨by simp [State.blob, State.setBlob], rfl, rfl⟩
  · refine ⟨_, rfl, ?_⟩
    rw [descriptorUpdate, if_pos rfl]
    exact ⟨by simp [State.blob, State.setBlob], rfl, rfl⟩
  · have hin : s.tiedChip c = true ∨ s.sliceIds.contains c = true := by simpa using hin
    show Host.Outcome.next (descriptorUpdate 3 c read s) = _
    rw [descriptorUpdate, if_neg hne, if_pos ⟨hin, hreach, hlen⟩]
  · exact ⟨⟨_, rfl, by simp [descriptorUpdate, State.blob, State.setBlob], rfl, rfl⟩, ⟨_, rfl, by simp [descriptorUpdate, State.blob, State.setBlob], rfl, rfl⟩⟩

/-! Zeroing a range at the banks (R58, R59). -/

theorem cellGet_filter (m : List Host.Cell) (p : Nat → Bool) (a : Nat) : cellGet (m.filter fun c => p c.1) a = if p a then cellGet m a else 0#8 := by
  induction m with
  | nil => simp [cellGet]
  | cons c t ih =>
    obtain ⟨b, w⟩ := c
    by_cases hb : b = a
    · subst hb
      cases hp : p b <;> simp_all [cellGet]
    · cases hp : p b <;> simp [hp, cellGet, hb, ih]

/-- A byte of a range that was zeroed is zero, and every other byte stays. -/
theorem cellGet_cellZero (m : List Host.Cell) (a n x : Nat) : cellGet (cellZero m a n) x = if a ≤ x ∧ x < a + n then 0#8 else cellGet m x := by
  rw [cellZero, cellGet_filter m (fun b => !(decide (a ≤ b) && decide (b < a + n)))]
  by_cases h : a ≤ x ∧ x < a + n <;> simp [h]

theorem isSome_rowMode {row : Nat} (h : row < 48) : (entryInfo (E.rowMode + row)).isSome :=
  entryInfo_isSome_of_row (b := E.rowMode) (n := 48) (by decide) (Nat.le_add_right _ _) (by omega)

/-- Settles O12: a granted slab refuses the write, and the end of the zeroing is `zeroRange` over the row. -/
theorem rowMode : Obligations.RowMode := by
  unfold Obligations.RowMode
  refine ⟨fun s who row v hrow hv hc hg => ?_, fun s who row v hrow hv hc hg => ?_, fun s row hz => ?_⟩
  · refine congrArg Host.Outcome.next ?_
    rw [rowModeWrite, if_neg (by omega)]
    simp only [if_neg (Nat.not_lt.mpr hv), hg, if_true, State.deviceWrite_bad _ _ _ hc (by decide : 5 ≠ 0)]
  · refine ⟨_, rfl, ?_⟩
    have hst : (if 1 < v then 4 else if (rangeFrom (20 * row) 20).any (fun n => (s.slabOwner n).isSome) = true then 5 else 0) = 0 := by
      simp [Nat.not_lt.mpr hv, hg]
    rw [rowModeWrite, if_neg (by omega)]
    simp only [hst, State.deviceWrite_ok _ _ _ _ _ hc]
    exact ⟨s.dictNum_num_self who _ 0 v (isSome_rowMode hrow), s.dictNum_answer who _ 0 v (isSome_rowMode hrow), by simp, by simp⟩
  · refine ⟨_, rfl, ?_⟩
    rw [rowZeroComplete, if_pos hz]
    refine ⟨by simp [State.zeroRange], fun g hlo hhi => ?_, fun a => ?_⟩
    · have hhi : 16 * g < row * 0xA00000000 + 0xA00000000 := by omega
      simp [State.zeroRange, hlo, hhi]
    · rw [Nat.succ_mul]
      exact cellGet_cellZero s.mem _ _ a

end Sys2Proof.Machine
end

section
/-! The global time base: replicas, the election of the time master, locking, holdover and the IEEE 1588 reference (R4, R34 to R41, R398). -/

namespace Sys2Proof.Machine

/-! Replicas. -/

/-- What a resynchronisation pulse makes of one replica (R35). -/
def Replica.resynced (g : Nat) (r : Replica) : Replica :=
  if r.stopped then r else if r.count < g then { r with count := g, holding := false } else { r with holding := decide (g < r.count) }

theorem Replica.resynced_spec (g : Nat) (r : Replica) :
    r.count ≤ (r.resynced g).count ∧ (r.resynced g).stopped = r.stopped ∧
      (r.stopped = false → r.count < g → (r.resynced g).count = g ∧ (r.resynced g).holding = false) ∧
      (r.stopped = false → g ≤ r.count → (r.resynced g).count = r.count ∧ (r.resynced g).holding = decide (g < r.count)) := by
  unfold Replica.resynced
  split
  · simp_all
  · split <;> rename_i hlt
    · exact ⟨Nat.le_of_lt hlt, rfl, fun _ _ => ⟨rfl, rfl⟩, fun _ hge => absurd hlt (Nat.not_lt.mpr hge)⟩
    · exact ⟨Nat.le_refl _, rfl, fun _ h => absurd h hlt, fun _ _ => ⟨rfl, rfl⟩⟩

theorem gtbResyncPulse_eq (s : State) : gtbResyncPulse s = { s with time.replicas := s.time.replicas.map (Replica.resynced s.time.gtb) } := rfl

/-- One replica in a list whose replicas all changed. -/
theorem eq_of_map_getElem? {α β : Type} {f : α → β} {l : List α} {i : Nat} {a : α} {b : β} (ha : l[i]? = some a) (hb : (l.map f)[i]? = some b) : b = f a := by
  simpa [ha] using hb.symm

/-! The election of the time master (R38). -/

/-- A chip with a count goes before another: a higher count, or the same count and no higher id. -/
def Precedes (x c : Nat × Nat) : Prop := c.2 < x.2 ∨ (c.2 = x.2 ∧ x.1 ≤ c.1)

theorem Precedes.refl (x : Nat × Nat) : Precedes x x := .inr ⟨rfl, Nat.le_refl _⟩

theorem Precedes.trans {x y z : Nat × Nat} (hxy : Precedes x y) (hyz : Precedes y z) : Precedes x z := by
  unfold Precedes at *; omega

theorem precedes_of_not_beaten {x c : Nat × Nat} (h : ¬ (x.2 < c.2 ∨ (x.2 = c.2 ∧ c.1 < x.1))) : Precedes x c := by
  unfold Precedes; omega

theorem precedes_of_beats {x c : Nat × Nat} (h : x.2 < c.2 ∨ (x.2 = c.2 ∧ c.1 < x.1)) : Precedes c x := by
  unfold Precedes; omega

/-- The chip elected is one of those that take part and goes before every one of them. -/
theorem electMaster_spec (best : Nat × Nat) (l : List (Nat × Nat)) :
    (electMaster best l = best ∨ electMaster best l ∈ l) ∧ Precedes (electMaster best l) best ∧ ∀ c ∈ l, Precedes (electMaster best l) c := by
  induction l generalizing best with
  | nil => exact ⟨.inl rfl, .refl _, by simp⟩
  | cons c t ih =>
    obtain ⟨hmem, hbest, hall⟩ := ih (if best.2 < c.2 ∨ (best.2 = c.2 ∧ c.1 < best.1) then c else best)
    rw [electMaster]
    split at hmem <;> rename_i hbeat
    · simp only [if_pos hbeat] at hbest hall ⊢
      refine ⟨.inr (by rcases hmem with h | h <;> simp [h]), hbest.trans (precedes_of_beats hbeat), fun d hd => ?_⟩
      rcases List.mem_cons.mp hd with rfl | hd
      · exact hbest
      · exact hall d hd
    · simp only [if_neg hbeat] at hbest hall ⊢
      refine ⟨hmem.imp_right (List.mem_cons_of_mem _), hbest, fun d hd => ?_⟩
      rcases List.mem_cons.mp hd with rfl | hd
      · exact hbest.trans (precedes_of_not_beaten hbeat)
      · exact hall d hd

/-- The chip that an election among this chip and the listed ones chooses, with its count. -/
def State.elected (s : State) (counts : List (Nat × Nat)) : Nat × Nat :=
  electMaster (s.fab.chipId, s.time.gtb) (counts.filter fun c => !decide (c.1 = s.fab.chipId))

theorem timeMasterElection_time (s : State) (counts : List (Nat × Nat)) :
    (timeMasterElection counts s).time.master = some (s.elected counts).1 ∧ (timeMasterElection counts s).time.gtb = s.time.gtb ∧
      ((s.elected counts).1 = s.fab.chipId → (timeMasterElection counts s).time.role = if s.time.ptpLocked then 3 else 2) ∧
      ((s.elected counts).1 ≠ s.fab.chipId → (timeMasterElection counts s).time.role = 1) := by
  have hm : (electMaster (s.fab.chipId, s.time.gtb) (counts.filter fun c => !decide (c.1 = s.fab.chipId))).1 = (s.elected counts).1 := rfl
  unfold timeMasterElection
  simp only [hm]
  split
  · exact ⟨rfl, rfl, fun _ => rfl, fun h => absurd ‹_› h⟩
  · split
    · exact ⟨rfl, rfl, fun h => absurd h ‹_›, fun _ => ‹_›⟩
    · exact ⟨rfl, rfl, fun h => absurd h ‹_›, fun _ => rfl⟩

/-! Locking (R37, R39). -/

theorem State.alignBy_first {s : State} {a : Int} (h : 0 < a) : s.alignBy true a = s.stepTo ((s.time.gtb : Int) + a).toNat := if_pos ⟨rfl, h⟩

theorem State.alignBy_slew {s : State} {first : Bool} {a : Int} (h : first = false ∨ a ≤ 0) : s.alignBy first a = { s with time.slew := a } :=
  if_neg (by rintro ⟨hf, ha⟩; rcases h with h | h; · simp [h] at hf
             omega)

theorem State.alignBy_mono_mem (s : State) (first : Bool) (a : Int) : (s.alignBy first a).time.mono = s.time.mono ∧ (s.alignBy first a).mem = s.mem := by
  unfold State.alignBy
  split <;> exact ⟨rfl, rfl⟩

theorem towardMaster_of {s : State} {l chip m : Nat} (hm : s.time.master = some m) (h : chip = m ∨ (s.reaches m = true ∧ s.routeLink m = some l)) :
    s.towardMaster l chip = true := by
  simpa [State.towardMaster, hm] using h

/-- What a follower makes of a time message that shows it `off` counts ahead of the master (R38, R39). -/
def State.lockedBy (s : State) (l : Nat) (off : Int) : State :=
  let s2 := State.alignBy { s with time.sent := s.time.sent.del l } (!s.time.lockedOnce) (-off)
  let off1 : Int := if s.time.lockedOnce ∨ 0 ≤ off then off else 0
  let near := decide (off1.natAbs ≤ 20)
  { s2 with time.offset := off1, time.lockedOnce := s.time.lockedOnce || near, time.fabricLocked := near, time.holdover := false }

theorem fabricTime_eq {s : State} {l chip m t1 t2 t3 : Nat} {hop : Int} (ht1 : s.time.sent.get? l = some t1) (hup : (s.link l).state = 2)
    (hpeer : (s.link l).peer = chip) (hrole : s.time.role = 1) (hm : s.time.master = some m)
    (hway : chip = m ∨ (s.reaches m = true ∧ s.routeLink m = some l)) :
    fabricTime l chip t2 t3 hop s = s.lockedBy l ((((t1 : Int) - t2) + ((s.time.gtb : Int) - t3)) / 2 + (if m = chip then 0 else hop)) := by
  have hlink : ¬ ((s.link l).state ≠ 2 ∨ (s.link l).peer ≠ chip) := by simp [hup, hpeer]
  have hfollows : ¬ (s.time.role ≠ 1 ∨ (!s.towardMaster l chip) = true) := by simp [hrole, towardMaster_of hm hway]
  have hhop : (if s.time.master = some chip then 0 else hop) = if m = chip then 0 else hop := by simp [hm]
  rw [fabricTime, ht1]
  simp only [if_neg hlink, if_neg hfollows, hhop]
  rfl

section
variable {s : State} {l : Nat} {off : Int}

theorem State.lockedBy_again (h : s.time.lockedOnce = true) :
    s.lockedBy l off = { s with time.sent := s.time.sent.del l, time.slew := -off, time.offset := off, time.lockedOnce := true,
                                time.fabricLocked := decide (off.natAbs ≤ 20), time.holdover := false } := by
  simp [State.lockedBy, h, State.alignBy_slew]

theorem State.lockedBy_step (h : s.time.lockedOnce = false) (hoff : off < 0) :
    s.lockedBy l off = { State.stepTo { s with time.sent := s.time.sent.del l } ((s.time.gtb : Int) + -off).toNat with
      time.offset := 0, time.lockedOnce := true, time.fabricLocked := true, time.holdover := false } := by
  have hneg : ¬ 0 ≤ off := by omega
  have hpos : 0 < -off := by omega
  simp [State.lockedBy, h, hneg, State.alignBy_first hpos]

theorem State.lockedBy_slew (h : s.time.lockedOnce = false) (hoff : 0 ≤ off) :
    s.lockedBy l off = { s with time.sent := s.time.sent.del l, time.slew := -off, time.offset := off, time.lockedOnce := decide (off ≤ 20),
                                time.fabricLocked := decide (off ≤ 20), time.holdover := false } := by
  have hneg : -off ≤ 0 := by omega
  have hnear : (off.natAbs ≤ 20) = (off ≤ 20) := propext (by omega)
  simp [State.lockedBy, h, hoff, State.alignBy_slew (.inr hneg), hnear]
end

/-! A nanosecond (R4, R34, R39). -/

theorem tickNs_of_aux {s : State} (h : s.sup.auxValid = true) : tickNs s = { s with
      time.mono := s.time.mono + slewStep s.time
      time.ref := s.time.ref + 1
      time.gtb := (s.time.gtb + slewStep s.time) % 2 ^ 64
      time.slew := if slewStep s.time = 2 then s.time.slew - 1 else if slewStep s.time = 0 then s.time.slew + 1 else s.time.slew
      time.replicas := s.time.replicas.map (Replica.tick ((s.time.gtb + slewStep s.time) % 2 ^ 64)) } := by
  simp [tickNs, h]

theorem slewStep_idle {t : TimeSt} (h : t.slew = 0 ∨ t.ref % 10000 ≠ 0) : slewStep t = 1 := if_pos h

theorem slewStep_ahead {t : TimeSt} (hr : t.ref % 10000 = 0) (h : 0 < t.slew) : slewStep t = 2 := by
  have hne : ¬ (t.slew = 0 ∨ t.ref % 10000 ≠ 0) := by omega
  rw [slewStep, if_neg hne, if_pos h]

theorem slewStep_behind {t : TimeSt} (hr : t.ref % 10000 = 0) (h : t.slew < 0) : slewStep t = 0 := by
  have hne : ¬ (t.slew = 0 ∨ t.ref % 10000 ≠ 0) := by omega
  rw [slewStep, if_neg hne, if_neg (by omega)]

theorem slewStep_le (t : TimeSt) : slewStep t ≤ 2 := by
  unfold slewStep; split <;> (try split) <;> decide

/-! The obligation. -/

/-- Settles O6: replica by replica for the pulse and the tick, the maximum of the election, and the three ways in which a reference is locked to. -/
theorem globalTime : Obligations.GlobalTime := by
  unfold Obligations.GlobalTime
  refine ⟨⟨fun s => ?_, fun s hp haux hgtb => ?_⟩, ⟨fun s counts => ?_, fun s l hl hup hsince => ?_, fun s l chip m t1 t2 t3 hop ht1 hup hpeer hrole hm hway => ?_⟩,
    fun s m hm hrole hlocked hhold hreach => ?_, fun s hhold hrole hover => if_pos ⟨hhold, hrole, hover⟩ |> congrArg Host.Outcome.next,
    fun s p d g hsrc hp hd hup => ?_, fun s hlocked => ?_⟩
  · -- a resynchronisation pulse
    refine ⟨_, rfl, by simp [gtbResyncPulse], rfl, fun i r r' hr hr' => ?_⟩
    rw [eq_of_map_getElem? hr hr']
    exact Replica.resynced_spec _ r
  · -- a nanosecond
    have hle := slewStep_le s.time
    refine ⟨tickNs s, slewStep s.time, by simp only [step, hp], ?_⟩
    rw [tickNs_of_aux haux]
    refine ⟨Nat.mod_eq_of_lt (by omega), rfl, rfl, rfl, fun h => ?_, fun hr h => ?_, fun hr h => ?_, fun i r r' hr hr' => ?_⟩
    · simp [slewStep_idle h]
    · simp [slewStep_ahead hr h]
    · simp [slewStep_behind hr h]
    · rw [eq_of_map_getElem? hr hr']
      exact ⟨fun hs hh => by simp [Replica.tick, hs, hh], fun hs => by simp [Replica.tick, hs]⟩
  · -- the election
    obtain ⟨hmaster, hgtb, hself, hother⟩ := timeMasterElection_time s counts
    obtain ⟨hmem, hbest, hall⟩ := electMaster_spec (s.fab.chipId, s.time.gtb) (counts.filter fun c => !decide (c.1 = s.fab.chipId))
    refine ⟨_, (s.elected counts).1, rfl, hmaster, hgtb, hself, hother, (s.elected counts).2, ?_, fun c hc hne => ?_, hbest⟩
    · exact hmem.imp id fun h => List.mem_of_mem_filter h
    · exact hall c (List.mem_filter.mpr ⟨hc, by simpa using hne⟩)
  · -- a time message goes out
    refine ⟨{ s with time.sent := s.time.sent.put l s.time.gtb, time.lastSend := s.time.lastSend.put l s.time.mono }, congrArg Host.Outcome.next ?_, by simp, by simp, rfl⟩
    rw [fabricTimeSend, if_neg (by omega)]
    cases hlast : s.time.lastSend.get? l with
    | none => rfl
    | some t0 => exact if_neg (Nat.not_lt.mpr (hsince t0 hlast))
  · -- a time message answers the one sent
    intro off
    have heq : fabricTime l chip t2 t3 hop s = s.lockedBy l off := fabricTime_eq ht1 hup hpeer hrole hm hway
    refine ⟨_, congrArg Host.Outcome.next heq, rfl, ?_, ?_, fun h => ?_, fun h hoff => ?_, fun h hoff => ?_⟩
    · exact (State.alignBy_mono_mem _ _ _).1
    · exact (State.alignBy_mono_mem _ _ _).2
    · rw [State.lockedBy_again h]; exact ⟨rfl, rfl, rfl, rfl, rfl⟩
    · rw [State.lockedBy_step h hoff, Int.sub_eq_add_neg]; exact ⟨rfl, rfl, rfl, rfl⟩
    · rw [State.lockedBy_slew h hoff]; exact ⟨rfl, rfl, rfl, rfl⟩
  · -- holdover
    refine ⟨{ s with time.holdover := true, time.holdoverAt := s.time.mono, time.slew := 0 }, congrArg Host.Outcome.next ?_, rfl, rfl, rfl, rfl, rfl⟩
    simp [gtbHoldoverEnter, hm, hrole, hlocked, hhold, hreach]
  · -- a time message of the reference
    have hok : ¬ (s.num E.ptpSource ≠ p + 1 ∨ 1 < p ∨ d ≠ s.num E.svcPtpDomain ∨ (s.port p).state ≠ 1) := by
      simp [hsrc, Nat.not_lt.mpr hp, hd, hup]
    refine ⟨_, congrArg Host.Outcome.next (if_neg hok), rfl, rfl, (State.alignBy_mono_mem _ _ _).2, fun h => ?_, fun h hlt => ?_, fun h => ?_⟩
    · simp [h]
    · have hpos : (0 : Int) < (g : Int) - s.time.gtb := by omega
      simp [h, State.alignBy_first hpos, State.stepTo]
    · simp [h, State.alignBy_slew]
  · -- the reference is lost
    refine ⟨_, rfl, ?_⟩
    simp [ptpReferenceLoss, State.ptpDrop, hlocked]

end Sys2Proof.Machine
end

section
/-! What a run of changes over a list, and a choice between two states, leave as they were. -/

namespace Sys2Proof.Machine

/-- What each change of a list of changes leaves, all of them together leave. -/
theorem foldl_keeps {α β : Type} (π : State → β) {g : State → α → State} (hg : ∀ u a, π (g u a) = π u) (l : List α) (s : State) :
    π (l.foldl g s) = π s := by
  induction l generalizing s with
  | nil => rfl
  | cons a t ih => exact (ih _).trans (hg s a)

section
variable {α : Type} {g : State → α → State} (l : List α) (s : State)
@[simp] theorem foldl_sup (hg : ∀ u a, (g u a).sup = u.sup) : (l.foldl g s).sup = s.sup := foldl_keeps State.sup hg l s
@[simp] theorem foldl_time (hg : ∀ u a, (g u a).time = u.time) : (l.foldl g s).time = s.time := foldl_keeps State.time hg l s
@[simp] theorem foldl_mgt (hg : ∀ u a, (g u a).mgt = u.mgt) : (l.foldl g s).mgt = s.mgt := foldl_keeps State.mgt hg l s
@[simp] theorem foldl_bar0 (hg : ∀ u a, (g u a).bar0 = u.bar0) : (l.foldl g s).bar0 = s.bar0 := foldl_keeps State.bar0 hg l s
@[simp] theorem foldl_hif (hg : ∀ u a, (g u a).hif = u.hif) : (l.foldl g s).hif = s.hif := foldl_keeps State.hif hg l s
@[simp] theorem foldl_fe (hg : ∀ u a, (g u a).fe = u.fe) : (l.foldl g s).fe = s.fe := foldl_keeps State.fe hg l s
@[simp] theorem foldl_syn (hg : ∀ u a, (g u a).syn = u.syn) : (l.foldl g s).syn = s.syn := foldl_keeps State.syn hg l s
@[simp] theorem foldl_stk (hg : ∀ u a, (g u a).stk = u.stk) : (l.foldl g s).stk = s.stk := foldl_keeps State.stk hg l s
@[simp] theorem foldl_nwt (hg : ∀ u a, (g u a).nwt = u.nwt) : (l.foldl g s).nwt = s.nwt := foldl_keeps State.nwt hg l s
@[simp] theorem foldl_cores (hg : ∀ u a, (g u a).cores = u.cores) : (l.foldl g s).cores = s.cores := foldl_keeps State.cores hg l s
@[simp] theorem foldl_l2 (hg : ∀ u a, (g u a).l2 = u.l2) : (l.foldl g s).l2 = s.l2 := foldl_keeps State.l2 hg l s
@[simp] theorem foldl_fab (hg : ∀ u a, (g u a).fab = u.fab) : (l.foldl g s).fab = s.fab := foldl_keeps State.fab hg l s
@[simp] theorem foldl_opt (hg : ∀ u a, (g u a).opt = u.opt) : (l.foldl g s).opt = s.opt := foldl_keeps State.opt hg l s
@[simp] theorem foldl_svc (hg : ∀ u a, (g u a).svc = u.svc) : (l.foldl g s).svc = s.svc := foldl_keeps State.svc hg l s
@[simp] theorem foldl_pwr (hg : ∀ u a, (g u a).pwr = u.pwr) : (l.foldl g s).pwr = s.pwr := foldl_keeps State.pwr hg l s
@[simp] theorem foldl_obs (hg : ∀ u a, (g u a).obs = u.obs) : (l.foldl g s).obs = s.obs := foldl_keeps State.obs hg l s
@[simp] theorem foldl_mem (hg : ∀ u a, (g u a).mem = u.mem) : (l.foldl g s).mem = s.mem := foldl_keeps State.mem hg l s
@[simp] theorem foldl_poison (hg : ∀ u a, (g u a).poison = u.poison) : (l.foldl g s).poison = s.poison := foldl_keeps State.poison hg l s
@[simp] theorem foldl_free (hg : ∀ u a, (g u a).free = u.free) : (l.foldl g s).free = s.free := foldl_keeps State.free hg l s
@[simp] theorem foldl_pending (hg : ∀ u a, (g u a).pending = u.pending) : (l.foldl g s).pending = s.pending := foldl_keeps State.pending hg l s
end

section
variable (c : Prop) [Decidable c] (s t : State)
theorem ite_sup : (if c then s else t).sup = if c then s.sup else t.sup := apply_ite _ _ _ _
theorem ite_time : (if c then s else t).time = if c then s.time else t.time := apply_ite _ _ _ _
theorem ite_mgt : (if c then s else t).mgt = if c then s.mgt else t.mgt := apply_ite _ _ _ _
theorem ite_bar0 : (if c then s else t).bar0 = if c then s.bar0 else t.bar0 := apply_ite _ _ _ _
theorem ite_hif : (if c then s else t).hif = if c then s.hif else t.hif := apply_ite _ _ _ _
theorem ite_fe : (if c then s else t).fe = if c then s.fe else t.fe := apply_ite _ _ _ _
theorem ite_syn : (if c then s else t).syn = if c then s.syn else t.syn := apply_ite _ _ _ _
theorem ite_stk : (if c then s else t).stk = if c then s.stk else t.stk := apply_ite _ _ _ _
theorem ite_nwt : (if c then s else t).nwt = if c then s.nwt else t.nwt := apply_ite _ _ _ _
theorem ite_cores : (if c then s else t).cores = if c then s.cores else t.cores := apply_ite _ _ _ _
theorem ite_l2 : (if c then s else t).l2 = if c then s.l2 else t.l2 := apply_ite _ _ _ _
theorem ite_fab : (if c then s else t).fab = if c then s.fab else t.fab := apply_ite _ _ _ _
theorem ite_opt : (if c then s else t).opt = if c then s.opt else t.opt := apply_ite _ _ _ _
theorem ite_svc : (if c then s else t).svc = if c then s.svc else t.svc := apply_ite _ _ _ _
theorem ite_pwr : (if c then s else t).pwr = if c then s.pwr else t.pwr := apply_ite _ _ _ _
theorem ite_obs : (if c then s else t).obs = if c then s.obs else t.obs := apply_ite _ _ _ _
theorem ite_mem : (if c then s else t).mem = if c then s.mem else t.mem := apply_ite _ _ _ _
theorem ite_poison : (if c then s else t).poison = if c then s.poison else t.poison := apply_ite _ _ _ _
theorem ite_free : (if c then s else t).free = if c then s.free else t.free := apply_ite _ _ _ _
theorem ite_pending : (if c then s else t).pending = if c then s.pending else t.pending := apply_ite _ _ _ _
end

end Sys2Proof.Machine
end

section
/-! What the steps of the power-on sequence leave as it was. -/

namespace Sys2Proof.Machine

@[simp] theorem State.startSequence_time (s : State) : s.startSequence.time = s.time := by simp [State.startSequence, ite_time]
@[simp] theorem State.startSequence_mem (s : State) : s.startSequence.mem = s.mem := by simp [State.startSequence, ite_mem]
@[simp] theorem State.startSequence_poison (s : State) : s.startSequence.poison = s.poison := by simp [State.startSequence, ite_poison]
@[simp] theorem State.startSequence_fe (s : State) : s.startSequence.fe = s.fe := by simp [State.startSequence, ite_fe]
@[simp] theorem State.startSequence_syn (s : State) : s.startSequence.syn = s.syn := by simp [State.startSequence, ite_syn]
@[simp] theorem State.startSequence_obs (s : State) : s.startSequence.obs = s.obs := by simp [State.startSequence, ite_obs]
@[simp] theorem foldl_sup_auxValid {α : Type} {g : State → α → State} (l : List α) (s : State) (hg : ∀ u a, (g u a).sup.auxValid = u.sup.auxValid) : (l.foldl g s).sup.auxValid = s.sup.auxValid :=
  foldl_keeps (fun s => s.sup.auxValid) hg l s
theorem ite_sup_auxValid (c : Prop) [Decidable c] (s t : State) : (if c then s else t).sup.auxValid = if c then s.sup.auxValid else t.sup.auxValid :=
  apply_ite (fun s : State => s.sup.auxValid) _ _ _
@[simp] theorem State.startSequence_sup_auxValid (s : State) : s.startSequence.sup.auxValid = s.sup.auxValid := by simp [State.startSequence, ite_sup_auxValid]
@[simp] theorem foldl_sup_mgtLive {α : Type} {g : State → α → State} (l : List α) (s : State) (hg : ∀ u a, (g u a).sup.mgtLive = u.sup.mgtLive) : (l.foldl g s).sup.mgtLive = s.sup.mgtLive :=
  foldl_keeps (fun s => s.sup.mgtLive) hg l s
theorem ite_sup_mgtLive (c : Prop) [Decidable c] (s t : State) : (if c then s else t).sup.mgtLive = if c then s.sup.mgtLive else t.sup.mgtLive :=
  apply_ite (fun s : State => s.sup.mgtLive) _ _ _
@[simp] theorem State.startSequence_sup_mgtLive (s : State) : s.startSequence.sup.mgtLive = s.sup.mgtLive := by simp [State.startSequence, ite_sup_mgtLive]
@[simp] theorem foldl_time_gtb {α : Type} {g : State → α → State} (l : List α) (s : State) (hg : ∀ u a, (g u a).time.gtb = u.time.gtb) : (l.foldl g s).time.gtb = s.time.gtb :=
  foldl_keeps (fun s => s.time.gtb) hg l s
theorem ite_time_gtb (c : Prop) [Decidable c] (s t : State) : (if c then s else t).time.gtb = if c then s.time.gtb else t.time.gtb :=
  apply_ite (fun s : State => s.time.gtb) _ _ _
@[simp] theorem State.upMove_time (s : State) (u : UpState) : (s.upMove u).time = s.time := by simp [State.upMove, ite_time]
@[simp] theorem State.dropImageAsm_time (s : State) : s.dropImageAsm.time = s.time := rfl
@[simp] theorem State.setSlot_time (s : State) (n : Nat) (x : Slot) : (s.setSlot n x).time = s.time := by simp [State.setSlot, ite_time]
@[simp] theorem State.endSession_time (s : State) : s.endSession.time = s.time := by
  unfold State.endSession
  split <;> simp
@[simp] theorem State.appendLog_time_gtb (s : State) (type iface fn index sub target : Nat) (old new : List Byte) : (s.appendLog type iface fn index sub target old new).time.gtb = s.time.gtb :=
  by simp [State.appendLog, ite_time_gtb]
@[simp] theorem State.logInternal_time_gtb (s : State) (type : Nat) (old new : List Byte) : (s.logInternal type old new).time.gtb = s.time.gtb :=
  by simp [State.logInternal]
@[simp] theorem State.bootRecord_time_gtb (s : State) (reason : Nat) : (s.bootRecord reason).time.gtb = s.time.gtb := by simp [State.bootRecord]
@[simp] theorem State.bootFrom_time_gtb (s : State) (slot reason : Nat) (trial : Bool) : (s.bootFrom slot reason trial).time.gtb = s.time.gtb := by simp [State.bootFrom]
@[simp] theorem State.endTrial_time (s : State) : s.endTrial.time = s.time := by
  unfold State.endTrial
  split <;> simp
@[simp] theorem State.boot_time_gtb (s : State) (reason : Nat) (aOk bOk : Bool) : (s.boot reason aOk bOk).time.gtb = s.time.gtb := by simp [State.boot, ite_time_gtb]
@[simp] theorem State.logReset_time_gtb (s : State) (type code : Nat) : (s.logReset type code).time.gtb = s.time.gtb := by simp [State.logReset]
@[simp] theorem State.resetMgt_time_gtb (s : State) (kind code reason : Nat) (aOk bOk : Bool) : (s.resetMgt kind code reason aOk bOk).time.gtb = s.time.gtb :=
  by simp [State.resetMgt]
@[simp] theorem State.upMove_sup (s : State) (u : UpState) : (s.upMove u).sup = s.sup := by simp [State.upMove, ite_sup]
@[simp] theorem State.dropImageAsm_sup (s : State) : s.dropImageAsm.sup = s.sup := rfl
@[simp] theorem State.setSlot_sup (s : State) (n : Nat) (x : Slot) : (s.setSlot n x).sup = s.sup := by simp [State.setSlot, ite_sup]
@[simp] theorem State.endSession_sup (s : State) : s.endSession.sup = s.sup := by
  unfold State.endSession
  split <;> simp
@[simp] theorem State.logInternal_sup (s : State) (type : Nat) (old new : List Byte) : (s.logInternal type old new).sup = s.sup := by simp [State.logInternal]
@[simp] theorem State.bootRecord_sup (s : State) (reason : Nat) : (s.bootRecord reason).sup = s.sup := by simp [State.bootRecord]
@[simp] theorem State.bootFrom_sup_auxValid (s : State) (slot reason : Nat) (trial : Bool) : (s.bootFrom slot reason trial).sup.auxValid = s.sup.auxValid :=
  by simp [State.bootFrom]
@[simp] theorem State.endTrial_sup (s : State) : s.endTrial.sup = s.sup := by
  unfold State.endTrial
  split <;> simp
@[simp] theorem State.boot_sup_auxValid (s : State) (reason : Nat) (aOk bOk : Bool) : (s.boot reason aOk bOk).sup.auxValid = s.sup.auxValid :=
  by simp [State.boot, ite_sup_auxValid]
@[simp] theorem State.logReset_sup (s : State) (type code : Nat) : (s.logReset type code).sup = s.sup := by simp [State.logReset]
@[simp] theorem State.resetMgt_sup_auxValid (s : State) (kind code reason : Nat) (aOk bOk : Bool) : (s.resetMgt kind code reason aOk bOk).sup.auxValid = s.sup.auxValid :=
  by simp [State.resetMgt]
@[simp] theorem State.upLog_sup (s : State) (step slot version : Nat) : (s.upLog step slot version).sup = s.sup := by simp [State.upLog]
@[simp] theorem State.commitTrial_sup (s : State) : s.commitTrial.sup = s.sup := by simp [State.commitTrial, ite_sup]
@[simp] theorem State.upMove_mem (s : State) (u : UpState) : (s.upMove u).mem = s.mem := by simp [State.upMove, ite_mem]
@[simp] theorem State.logInternal_mem (s : State) (type : Nat) (old new : List Byte) : (s.logInternal type old new).mem = s.mem := by simp [State.logInternal]
@[simp] theorem State.upLog_mem (s : State) (step slot version : Nat) : (s.upLog step slot version).mem = s.mem := by simp [State.upLog]
@[simp] theorem State.commitTrial_mem (s : State) : s.commitTrial.mem = s.mem := by simp [State.commitTrial, ite_mem]
@[simp] theorem State.upMove_cores (s : State) (u : UpState) : (s.upMove u).cores = s.cores := by simp [State.upMove, ite_cores]
@[simp] theorem State.logInternal_cores (s : State) (type : Nat) (old new : List Byte) : (s.logInternal type old new).cores = s.cores := by simp [State.logInternal]
@[simp] theorem State.upLog_cores (s : State) (step slot version : Nat) : (s.upLog step slot version).cores = s.cores := by simp [State.upLog]
@[simp] theorem State.commitTrial_cores (s : State) : s.commitTrial.cores = s.cores := by simp [State.commitTrial, ite_cores]
@[simp] theorem foldl_hif_drs {α : Type} {g : State → α → State} (l : List α) (s : State) (hg : ∀ u a, (g u a).hif.drs = u.hif.drs) : (l.foldl g s).hif.drs = s.hif.drs :=
  foldl_keeps (fun s => s.hif.drs) hg l s
theorem ite_hif_drs (c : Prop) [Decidable c] (s t : State) : (if c then s else t).hif.drs = if c then s.hif.drs else t.hif.drs :=
  apply_ite (fun s : State => s.hif.drs) _ _ _
@[simp] theorem State.modVec_hif_drs (s : State) (f v : Nat) (g : Vector → Vector) : (s.modVec f v g).hif.drs = s.hif.drs := rfl
@[simp] theorem State.signal_hif_drs (s : State) (f v : Nat) : (s.signal f v).hif.drs = s.hif.drs := by simp [State.signal, ite_hif_drs]
@[simp] theorem State.raiseMgt_hif_drs (s : State) (n : Nat) : (s.raiseMgt n).hif.drs = s.hif.drs := by simp [State.raiseMgt, ite_hif_drs]
@[simp] theorem State.upMove_hif_drs (s : State) (u : UpState) : (s.upMove u).hif.drs = s.hif.drs := by simp [State.upMove, ite_hif_drs]
@[simp] theorem State.appendLog_hif_drs (s : State) (type iface fn index sub target : Nat) (old new : List Byte) : (s.appendLog type iface fn index sub target old new).hif.drs = s.hif.drs :=
  by simp [State.appendLog, ite_hif_drs]
@[simp] theorem State.logInternal_hif_drs (s : State) (type : Nat) (old new : List Byte) : (s.logInternal type old new).hif.drs = s.hif.drs := by simp [State.logInternal]
@[simp] theorem State.upLog_hif_drs (s : State) (step slot version : Nat) : (s.upLog step slot version).hif.drs = s.hif.drs := by simp [State.upLog]
@[simp] theorem State.commitTrial_hif_drs (s : State) : s.commitTrial.hif.drs = s.hif.drs := by simp [State.commitTrial, ite_hif_drs]
@[simp] theorem State.raisePwr_hif_drs (s : State) (n : Nat) : (s.raisePwr n).hif.drs = s.hif.drs := by simp [State.raisePwr, ite_hif_drs]
@[simp] theorem State.setGroup_sup (s : State) (eg v : Nat) (moved : Option (Nat × Option Nat)) : (s.setGroup eg v moved).sup = s.sup := rfl
@[simp] theorem State.laserReady_sup (s : State) (j : Nat) : (s.laserReady j).sup = s.sup := by simp -implicitDefEqProofs [State.laserReady, ite_sup]
@[simp] theorem State.calibrate_sup (s : State) (j : Nat) : (s.calibrate j).sup = s.sup := rfl
@[simp] theorem State.startLasers_sup (s : State) : s.startLasers.sup = s.sup := by simp [State.startLasers, ite_sup]
@[simp] theorem State.wakeNewt_sup (s : State) (n : Nat) : (s.wakeNewt n).sup = s.sup := by simp [State.wakeNewt, ite_sup]
@[simp] theorem State.downNewt_sup (s : State) (n : Nat) : (s.downNewt n).sup = s.sup := by simp [State.downNewt, ite_sup]
@[simp] theorem State.applyPersistent_sup (s : State) : s.applyPersistent.sup = s.sup := by simp [State.applyPersistent, ite_sup]
@[simp] theorem State.pushStk_sup (s : State) (rec : Nat) : (s.pushStk rec).sup = s.sup := by simp [State.pushStk, ite_sup]
@[simp] theorem State.returnGranule_sup (s : State) (data : List Byte) (poison : Bool) : (s.returnGranule data poison).sup = s.sup := rfl
@[simp] theorem State.failChannels_sup (s : State) (stack mask : Nat) : (s.failChannels stack mask).sup = s.sup := by simp [State.failChannels, ite_sup]
@[simp] theorem State.failStack_sup (s : State) (stack : Nat) : (s.failStack stack).sup = s.sup := by simp [State.failStack, ite_sup]
@[simp] theorem State.retireDie_sup (s : State) (stack pos interruption : Nat) : (s.retireDie stack pos interruption).sup = s.sup := by simp [State.retireDie, ite_sup]
@[simp] theorem State.failNewt_sup (s : State) (n : Nat) : (s.failNewt n).sup = s.sup := by simp [State.failNewt, ite_sup]
@[simp] theorem State.emitRec_sup (s : State) (source : Nat) (r : TrcRec) : (s.emitRec source r).sup = s.sup := by simp [State.emitRec, ite_sup]
@[simp] theorem State.trace_sup (s : State) (srcBit kind domain unit queue layer operator aux detail : Nat) : (s.trace srcBit kind domain unit queue layer operator aux detail).sup = s.sup :=
  by simp [State.trace]
@[simp] theorem State.traceLink_sup (s : State) (l state peer : Nat) : (s.traceLink l state peer).sup = s.sup := by simp [State.traceLink]
@[simp] theorem State.pushFab_sup (s : State) (rec : Nat) : (s.pushFab rec).sup = s.sup := by simp [State.pushFab, ite_sup]
@[simp] theorem State.loseRoutes_sup (s : State) : s.loseRoutes.sup = s.sup := by simp [State.loseRoutes, ite_sup]
@[simp] theorem State.countAt_sup (s : State) (valOff sel n : Nat) : (s.countAt valOff sel n).sup = s.sup := by simp [State.countAt, ite_sup]
@[simp] theorem State.countEvent_sup (s : State) (kind unit event n queue fmt : Nat) : (s.countEvent kind unit event n queue fmt).sup = s.sup :=
  by simp [State.countEvent, ite_sup]
@[simp] theorem State.countSent_sup (s : State) (link : Nat) (via : Option Nat) (len queue : Nat) : (s.countSent link via len queue).sup = s.sup :=
  by simp [State.countSent, ite_sup]
@[simp] theorem State.resendFrom_sup (s : State) (l : Nat) : (s.resendFrom l).sup = s.sup := by
  unfold State.resendFrom
  exact foldl_keeps (fun s => s.sup) (fun _ _ => by (repeat' split) <;> simp) _ _
@[simp] theorem State.dropLink_sup (s : State) (l : Nat) : (s.dropLink l).sup = s.sup := by simp [State.dropLink, ite_sup]
@[simp] theorem State.failOe_sup (s : State) (e : Nat) : (s.failOe e).sup = s.sup := by simp [State.failOe, ite_sup]

end Sys2Proof.Machine
end

section
/-! The power-on sequence, step by step (R34, R36, R57, R465 to R467), and a tied-domain reset over a reset that has gone before (R470). -/

namespace Sys2Proof.Machine

/-- What holds of both states of a choice holds of the one chosen. -/
theorem ite_of_both {c : Prop} [Decidable c] (P : State → Prop) {s t : State} (hs : P s) (ht : P t) : P (if c then s else t) := by
  split <;> assumption

/-! Power-on (R34, R465). -/

theorem State.bootFrom_mgtLive (s : State) (slot reason : Nat) (trial : Bool) : (s.bootFrom slot reason trial).sup.mgtLive = true := by
  simp [State.bootFrom]

/-- Management runs after a boot, from whichever slot it came. -/
theorem State.boot_mgtLive (s : State) (reason : Nat) (aOk bOk : Bool) : (s.boot reason aOk bOk).sup.mgtLive = true :=
  ite_of_both (fun t : State => t.sup.mgtLive = true) (State.bootFrom_mgtLive _ _ _ _) (State.bootFrom_mgtLive _ _ _ _)

/-- The device right after the auxiliary supply became valid, before management boots (R34, Table 21.3). -/
def State.powered (s : State) : State :=
  { s with
    sup := { Supply.ready with epoch := s.sup.epoch, mainValid := s.sup.mainValid, perst := s.sup.perst, d19Reset := s.sup.perst, phase := .off, mainPg := false }
    time := { TimeSt.initial with mono := s.time.mono } }

theorem auxSupplyValid_of_off {s : State} (aOk bOk : Bool) (h : s.sup.auxValid = false) :
    auxSupplyValid aOk bOk s = (((s.powered.resetMgt 0 0 0 aOk bOk).wipe 0).stopDomains).startSequence :=
  if_neg (by simp [h])

/-! Self-test (R466). -/

theorem State.applyTests_chipFailed (s : State) {found : SelfTest} (h : found.central = true) : (s.applyTests found).sup.chipFailed = true := by
  unfold State.applyTests
  dsimp only
  split
  · simp
  · rename_i hnew
    simpa [h] using hnew

/-! Replicas of the main rails (R36). -/

theorem State.reloadReplicas_getElem? (s : State) (resync : Bool) {i : Nat} {r : Replica} (hi : mainReplica i = true) (hr : s.time.replicas[i]? = some r) :
    (s.reloadReplicas resync).time.replicas[i]? = some (r.reload s.time.gtb) := by
  simp [State.reloadReplicas, hr, hi]

/-- Settles O7: each step of the sequence is its branch in the phase before it. -/
theorem powerOnSequence : Obligations.PowerOnSequence := by
  unfold Obligations.PowerOnSequence
  refine ⟨fun s a b h => ?_, fun s hmain haux hslots hcold htrip hoff => ?_, fun s h => ?_, fun s found h => ?_, fun s h => ?_, fun s h hslots => ?_⟩
  · refine ⟨_, congrArg Host.Outcome.next (auxSupplyValid_of_off a b h), ?_⟩
    simp [State.stopDomains, State.wipe, State.powered, State.resetMgt, State.boot_mgtLive, TimeSt.initial, Supply.ready]
  · refine congrArg Host.Outcome.next ?_
    rw [mainSupplyValid, if_neg (by simp [hmain]), State.startSequence, if_pos (by simp [haux, hslots, hcold, htrip, hoff])]
  · refine ⟨_, congrArg Host.Outcome.next (if_neg (by simp [h])), by simp, by simp, by simp, by simp [State.reloadReplicas], by simp [State.reloadReplicas],
      fun i r h23 h24 hr => ?_⟩
    have hi : mainReplica i = true := by simp [mainReplica, h23, h24]
    simpa [Replica.reload] using s.reloadReplicas_getElem? _ hi hr
  · refine ⟨_, congrArg Host.Outcome.next (if_neg (by simp [h])), rfl, fun hcentral => ?_⟩
    show ((s.applyPersistent.applyTests found).startLasers).sup.chipFailed = true
    rw [State.startLasers_sup]
    exact s.applyPersistent.applyTests_chipFailed hcentral
  · exact congrArg Host.Outcome.next (if_neg (by simp [h]))
  · refine ⟨_, congrArg Host.Outcome.next (if_neg (by simp [h, hslots])), ?_⟩
    dsimp only
    (repeat' split) <;> simp

/-! A tied-domain reset (R470). -/

/-- A chip of a tied group whose function 0 runs a reset that began as part of a device reset (type 2 of Table 18.9). -/
def tiedUnderReset : State :=
  { State.reset with
    fab.tie := [0, 1]
    hif.fns := [(0, { FnSt.initial with gate := .resetting, reset := some { kind := 2, since := 0, partition := 0 } })] }

/-- Refutes O8: a write of tied_reset joins a reset of function 0 that has a lower type, and leaves its type 2 where the statement claims 3. -/
theorem not_suppliesAndRestarts : ¬ Obligations.SuppliesAndRestarts := by
  unfold Obligations.SuppliesAndRestarts
  intro h
  obtain ⟨-, -, -, -, -, htied⟩ := h
  have hkinds : ∀ e ∈ tiedUnderReset.hif.fns, ∀ r, e.2.reset = some r → r.kind ≠ 3 := by
    rintro e he r hr
    obtain rfl := List.mem_singleton.mp he
    obtain rfl := Option.some.inj hr
    decide
  obtain ⟨t, r, hexec, hreset, hkind, -⟩ := htied tiedUnderReset { iface := 0, fn := 0 } true (by decide) (by decide) hkinds
  obtain rfl := Host.Outcome.next.inj hexec
  have hstays : ((tiedReset { iface := 0, fn := 0 } 1 true tiedUnderReset).fn 0).reset = some { kind := 2, since := 0, partition := 0 } := by rfl
  rw [hstays] at hreset
  obtain rfl := Option.some.inj hreset
  exact absurd hkind (by decide)

end Sys2Proof.Machine
end

section
/-! What the corrections, the conversions to poison and the failures of a stack leave as they were. -/

namespace Sys2Proof.Machine

@[simp] theorem State.pushStk_mem (s : State) (rec : Nat) : (s.pushStk rec).mem = s.mem := by simp [State.pushStk, ite_mem]
@[simp] theorem State.logStorage_mem (s : State) (g pos : Nat) : (s.logStorage g pos).mem = s.mem := by simp [State.logStorage]
@[simp] theorem State.noteStorage_mem (s : State) (g pos : Nat) : (s.noteStorage g pos).mem = s.mem := by simp [State.noteStorage]
@[simp] theorem State.noteFixed_mem (s : State) (g : Nat) (fixed : Option Nat) (back : Bool) : (s.noteFixed g fixed back).mem = s.mem := by
  unfold State.noteFixed
  (repeat' split) <;> simp
@[simp] theorem State.pushStk_poison (s : State) (rec : Nat) : (s.pushStk rec).poison = s.poison := by simp [State.pushStk, ite_poison]
@[simp] theorem State.logStorage_poison (s : State) (g pos : Nat) : (s.logStorage g pos).poison = s.poison := by simp [State.logStorage]
@[simp] theorem State.noteStorage_poison (s : State) (g pos : Nat) : (s.noteStorage g pos).poison = s.poison := by simp [State.noteStorage]
@[simp] theorem State.noteFixed_poison (s : State) (g : Nat) (fixed : Option Nat) (back : Bool) : (s.noteFixed g fixed back).poison = s.poison := by
  unfold State.noteFixed
  (repeat' split) <;> simp
@[simp] theorem State.pushStk_cores (s : State) (rec : Nat) : (s.pushStk rec).cores = s.cores := by simp [State.pushStk, ite_cores]
@[simp] theorem State.logStorage_cores (s : State) (g pos : Nat) : (s.logStorage g pos).cores = s.cores := by simp [State.logStorage]
@[simp] theorem State.noteStorage_cores (s : State) (g pos : Nat) : (s.noteStorage g pos).cores = s.cores := by simp [State.noteStorage]
@[simp] theorem State.noteFixed_cores (s : State) (g : Nat) (fixed : Option Nat) (back : Bool) : (s.noteFixed g fixed back).cores = s.cores := by
  unfold State.noteFixed
  (repeat' split) <;> simp
@[simp] theorem foldl_stk_rereads {α : Type} {g : State → α → State} (l : List α) (s : State) (hg : ∀ u a, (g u a).stk.rereads = u.stk.rereads) : (l.foldl g s).stk.rereads = s.stk.rereads :=
  foldl_keeps (fun s => s.stk.rereads) hg l s
theorem ite_stk_rereads (c : Prop) [Decidable c] (s t : State) : (if c then s else t).stk.rereads = if c then s.stk.rereads else t.stk.rereads :=
  apply_ite (fun s : State => s.stk.rereads) _ _ _
@[simp] theorem State.pushStk_stk_rereads (s : State) (rec : Nat) : (s.pushStk rec).stk.rereads = s.stk.rereads := by simp [State.pushStk, ite_stk_rereads]
@[simp] theorem State.logStorage_stk_rereads (s : State) (g pos : Nat) : (s.logStorage g pos).stk.rereads = s.stk.rereads := by simp [State.logStorage]
@[simp] theorem State.noteStorage_stk_rereads (s : State) (g pos : Nat) : (s.noteStorage g pos).stk.rereads = s.stk.rereads := by simp [State.noteStorage]
@[simp] theorem State.noteFixed_stk_rereads (s : State) (g : Nat) (fixed : Option Nat) (back : Bool) : (s.noteFixed g fixed back).stk.rereads = s.stk.rereads := by
  unfold State.noteFixed
  (repeat' split) <;> simp
@[simp] theorem foldl_stk_patrol {α : Type} {g : State → α → State} (l : List α) (s : State) (hg : ∀ u a, (g u a).stk.patrol = u.stk.patrol) : (l.foldl g s).stk.patrol = s.stk.patrol :=
  foldl_keeps (fun s => s.stk.patrol) hg l s
theorem ite_stk_patrol (c : Prop) [Decidable c] (s t : State) : (if c then s else t).stk.patrol = if c then s.stk.patrol else t.stk.patrol :=
  apply_ite (fun s : State => s.stk.patrol) _ _ _
@[simp] theorem State.pushStk_stk_patrol (s : State) (rec : Nat) : (s.pushStk rec).stk.patrol = s.stk.patrol := by simp [State.pushStk, ite_stk_patrol]
@[simp] theorem State.logStorage_stk_patrol (s : State) (g pos : Nat) : (s.logStorage g pos).stk.patrol = s.stk.patrol := by simp [State.logStorage]
@[simp] theorem State.noteStorage_stk_patrol (s : State) (g pos : Nat) : (s.noteStorage g pos).stk.patrol = s.stk.patrol := by simp [State.noteStorage]
@[simp] theorem State.noteFixed_stk_patrol (s : State) (g : Nat) (fixed : Option Nat) (back : Bool) : (s.noteFixed g fixed back).stk.patrol = s.stk.patrol := by
  unfold State.noteFixed
  (repeat' split) <;> simp
@[simp] theorem foldl_stk_passCount {α : Type} {g : State → α → State} (l : List α) (s : State) (hg : ∀ u a, (g u a).stk.passCount = u.stk.passCount) : (l.foldl g s).stk.passCount = s.stk.passCount :=
  foldl_keeps (fun s => s.stk.passCount) hg l s
theorem ite_stk_passCount (c : Prop) [Decidable c] (s t : State) : (if c then s else t).stk.passCount = if c then s.stk.passCount else t.stk.passCount :=
  apply_ite (fun s : State => s.stk.passCount) _ _ _
@[simp] theorem State.pushStk_stk_passCount (s : State) (rec : Nat) : (s.pushStk rec).stk.passCount = s.stk.passCount := by simp [State.pushStk, ite_stk_passCount]
@[simp] theorem State.logStorage_stk_passCount (s : State) (g pos : Nat) : (s.logStorage g pos).stk.passCount = s.stk.passCount := by simp [State.logStorage]
@[simp] theorem State.noteStorage_stk_passCount (s : State) (g pos : Nat) : (s.noteStorage g pos).stk.passCount = s.stk.passCount := by simp [State.noteStorage]
@[simp] theorem State.noteFixed_stk_passCount (s : State) (g : Nat) (fixed : Option Nat) (back : Bool) : (s.noteFixed g fixed back).stk.passCount = s.stk.passCount := by
  unfold State.noteFixed
  (repeat' split) <;> simp
@[simp] theorem foldl_stk_rdata {α : Type} {g : State → α → State} (l : List α) (s : State) (hg : ∀ u a, (g u a).stk.rdata = u.stk.rdata) : (l.foldl g s).stk.rdata = s.stk.rdata :=
  foldl_keeps (fun s => s.stk.rdata) hg l s
theorem ite_stk_rdata (c : Prop) [Decidable c] (s t : State) : (if c then s else t).stk.rdata = if c then s.stk.rdata else t.stk.rdata :=
  apply_ite (fun s : State => s.stk.rdata) _ _ _
@[simp] theorem State.pushStk_stk_rdata (s : State) (rec : Nat) : (s.pushStk rec).stk.rdata = s.stk.rdata := by simp [State.pushStk, ite_stk_rdata]
@[simp] theorem State.logStorage_stk_rdata (s : State) (g pos : Nat) : (s.logStorage g pos).stk.rdata = s.stk.rdata := by simp [State.logStorage]
@[simp] theorem State.noteStorage_stk_rdata (s : State) (g pos : Nat) : (s.noteStorage g pos).stk.rdata = s.stk.rdata := by simp [State.noteStorage]
@[simp] theorem State.noteFixed_stk_rdata (s : State) (g : Nat) (fixed : Option Nat) (back : Bool) : (s.noteFixed g fixed back).stk.rdata = s.stk.rdata := by
  unfold State.noteFixed
  (repeat' split) <;> simp
@[simp] theorem foldl_stk_replays {α : Type} {g : State → α → State} (l : List α) (s : State) (hg : ∀ u a, (g u a).stk.replays = u.stk.replays) : (l.foldl g s).stk.replays = s.stk.replays :=
  foldl_keeps (fun s => s.stk.replays) hg l s
theorem ite_stk_replays (c : Prop) [Decidable c] (s t : State) : (if c then s else t).stk.replays = if c then s.stk.replays else t.stk.replays :=
  apply_ite (fun s : State => s.stk.replays) _ _ _
@[simp] theorem State.pushStk_stk_replays (s : State) (rec : Nat) : (s.pushStk rec).stk.replays = s.stk.replays := by simp [State.pushStk, ite_stk_replays]
@[simp] theorem State.logStorage_stk_replays (s : State) (g pos : Nat) : (s.logStorage g pos).stk.replays = s.stk.replays := by simp [State.logStorage]
@[simp] theorem State.noteStorage_stk_replays (s : State) (g pos : Nat) : (s.noteStorage g pos).stk.replays = s.stk.replays := by simp [State.noteStorage]
@[simp] theorem State.noteFixed_stk_replays (s : State) (g : Nat) (fixed : Option Nat) (back : Bool) : (s.noteFixed g fixed back).stk.replays = s.stk.replays := by
  unfold State.noteFixed
  (repeat' split) <;> simp
@[simp] theorem State.noteLink_mem (s : State) (g pos : Nat) : (s.noteLink g pos).mem = s.mem := by simp [State.noteLink]
@[simp] theorem State.noteLinkFixed_mem (s : State) (g : Nat) (x2 : Option Nat) : (s.noteLinkFixed g x2).mem = s.mem := by
  unfold State.noteLinkFixed
  split <;> simp
@[simp] theorem State.noteLink_poison (s : State) (g pos : Nat) : (s.noteLink g pos).poison = s.poison := by simp [State.noteLink]
@[simp] theorem State.noteLinkFixed_poison (s : State) (g : Nat) (x2 : Option Nat) : (s.noteLinkFixed g x2).poison = s.poison := by
  unfold State.noteLinkFixed
  split <;> simp
@[simp] theorem State.noteLink_cores (s : State) (g pos : Nat) : (s.noteLink g pos).cores = s.cores := by simp [State.noteLink]
@[simp] theorem State.noteLinkFixed_cores (s : State) (g : Nat) (x2 : Option Nat) : (s.noteLinkFixed g x2).cores = s.cores := by
  unfold State.noteLinkFixed
  split <;> simp
@[simp] theorem foldl_stk_writebacks {α : Type} {g : State → α → State} (l : List α) (s : State) (hg : ∀ u a, (g u a).stk.writebacks = u.stk.writebacks) : (l.foldl g s).stk.writebacks = s.stk.writebacks :=
  foldl_keeps (fun s => s.stk.writebacks) hg l s
theorem ite_stk_writebacks (c : Prop) [Decidable c] (s t : State) : (if c then s else t).stk.writebacks = if c then s.stk.writebacks else t.stk.writebacks :=
  apply_ite (fun s : State => s.stk.writebacks) _ _ _
@[simp] theorem State.pushStk_stk_writebacks (s : State) (rec : Nat) : (s.pushStk rec).stk.writebacks = s.stk.writebacks := by simp [State.pushStk, ite_stk_writebacks]
@[simp] theorem State.noteLink_stk_writebacks (s : State) (g pos : Nat) : (s.noteLink g pos).stk.writebacks = s.stk.writebacks := by simp [State.noteLink]
@[simp] theorem State.noteLinkFixed_stk_writebacks (s : State) (g : Nat) (x2 : Option Nat) : (s.noteLinkFixed g x2).stk.writebacks = s.stk.writebacks := by
  unfold State.noteLinkFixed
  split <;> simp
@[simp] theorem State.noteLink_stk_replays (s : State) (g pos : Nat) : (s.noteLink g pos).stk.replays = s.stk.replays := by simp [State.noteLink]
@[simp] theorem State.noteLinkFixed_stk_replays (s : State) (g : Nat) (x2 : Option Nat) : (s.noteLinkFixed g x2).stk.replays = s.stk.replays := by
  unfold State.noteLinkFixed
  split <;> simp
@[simp] theorem foldl_stk_rowZeroing {α : Type} {g : State → α → State} (l : List α) (s : State) (hg : ∀ u a, (g u a).stk.rowZeroing = u.stk.rowZeroing) : (l.foldl g s).stk.rowZeroing = s.stk.rowZeroing :=
  foldl_keeps (fun s => s.stk.rowZeroing) hg l s
theorem ite_stk_rowZeroing (c : Prop) [Decidable c] (s t : State) : (if c then s else t).stk.rowZeroing = if c then s.stk.rowZeroing else t.stk.rowZeroing :=
  apply_ite (fun s : State => s.stk.rowZeroing) _ _ _
@[simp] theorem State.pushStk_stk_rowZeroing (s : State) (rec : Nat) : (s.pushStk rec).stk.rowZeroing = s.stk.rowZeroing := by simp [State.pushStk, ite_stk_rowZeroing]
@[simp] theorem State.noteLink_stk_rowZeroing (s : State) (g pos : Nat) : (s.noteLink g pos).stk.rowZeroing = s.stk.rowZeroing := by simp [State.noteLink]
@[simp] theorem State.noteLinkFixed_stk_rowZeroing (s : State) (g : Nat) (x2 : Option Nat) : (s.noteLinkFixed g x2).stk.rowZeroing = s.stk.rowZeroing := by
  unfold State.noteLinkFixed
  split <;> simp
@[simp] theorem foldl_stk_stackFailed {α : Type} {g : State → α → State} (l : List α) (s : State) (hg : ∀ u a, (g u a).stk.stackFailed = u.stk.stackFailed) : (l.foldl g s).stk.stackFailed = s.stk.stackFailed :=
  foldl_keeps (fun s => s.stk.stackFailed) hg l s
theorem ite_stk_stackFailed (c : Prop) [Decidable c] (s t : State) : (if c then s else t).stk.stackFailed = if c then s.stk.stackFailed else t.stk.stackFailed :=
  apply_ite (fun s : State => s.stk.stackFailed) _ _ _
@[simp] theorem State.pushStk_stk_stackFailed (s : State) (rec : Nat) : (s.pushStk rec).stk.stackFailed = s.stk.stackFailed :=
  by simp [State.pushStk, ite_stk_stackFailed]
@[simp] theorem State.noteLink_stk_stackFailed (s : State) (g pos : Nat) : (s.noteLink g pos).stk.stackFailed = s.stk.stackFailed := by simp [State.noteLink]
@[simp] theorem State.noteLinkFixed_stk_stackFailed (s : State) (g : Nat) (x2 : Option Nat) : (s.noteLinkFixed g x2).stk.stackFailed = s.stk.stackFailed := by
  unfold State.noteLinkFixed
  split <;> simp
@[simp] theorem State.noteLink_stk_rereads (s : State) (g pos : Nat) : (s.noteLink g pos).stk.rereads = s.stk.rereads := by simp [State.noteLink]
@[simp] theorem State.noteLinkFixed_stk_rereads (s : State) (g : Nat) (x2 : Option Nat) : (s.noteLinkFixed g x2).stk.rereads = s.stk.rereads := by
  unfold State.noteLinkFixed
  split <;> simp
@[simp] theorem State.poisonGranule_mem (s : State) (g : Nat) : (s.poisonGranule g).mem = s.mem := by simp [State.poisonGranule, ite_mem]
@[simp] theorem State.makePoison_mem (s : State) (g : Nat) (stored : Bool) : (s.makePoison g stored).mem = s.mem := by simp [State.makePoison, ite_mem]
@[simp] theorem State.poisonGranule_cores (s : State) (g : Nat) : (s.poisonGranule g).cores = s.cores := by simp [State.poisonGranule, ite_cores]
@[simp] theorem State.makePoison_cores (s : State) (g : Nat) (stored : Bool) : (s.makePoison g stored).cores = s.cores := by simp [State.makePoison, ite_cores]
@[simp] theorem State.poisonGranule_stk_rereads (s : State) (g : Nat) : (s.poisonGranule g).stk.rereads = s.stk.rereads := by simp [State.poisonGranule, ite_stk_rereads]
@[simp] theorem State.makePoison_stk_rereads (s : State) (g : Nat) (stored : Bool) : (s.makePoison g stored).stk.rereads = s.stk.rereads :=
  by simp [State.makePoison, ite_stk_rereads]
@[simp] theorem State.poisonGranule_stk_replays (s : State) (g : Nat) : (s.poisonGranule g).stk.replays = s.stk.replays := by simp [State.poisonGranule, ite_stk_replays]
@[simp] theorem State.makePoison_stk_replays (s : State) (g : Nat) (stored : Bool) : (s.makePoison g stored).stk.replays = s.stk.replays :=
  by simp [State.makePoison, ite_stk_replays]
@[simp] theorem State.poisonGranule_stk_patrol (s : State) (g : Nat) : (s.poisonGranule g).stk.patrol = s.stk.patrol := by simp [State.poisonGranule, ite_stk_patrol]
@[simp] theorem State.makePoison_stk_patrol (s : State) (g : Nat) (stored : Bool) : (s.makePoison g stored).stk.patrol = s.stk.patrol :=
  by simp [State.makePoison, ite_stk_patrol]
@[simp] theorem State.poisonGranule_stk_passCount (s : State) (g : Nat) : (s.poisonGranule g).stk.passCount = s.stk.passCount :=
  by simp [State.poisonGranule, ite_stk_passCount]
@[simp] theorem State.makePoison_stk_passCount (s : State) (g : Nat) (stored : Bool) : (s.makePoison g stored).stk.passCount = s.stk.passCount :=
  by simp [State.makePoison, ite_stk_passCount]
@[simp] theorem State.returnGranule_mem (s : State) (data : List Byte) (poison : Bool) : (s.returnGranule data poison).mem = s.mem := rfl
@[simp] theorem State.returnGranule_poison (s : State) (data : List Byte) (poison : Bool) : (s.returnGranule data poison).poison = s.poison := rfl
@[simp] theorem State.returnGranule_cores (s : State) (data : List Byte) (poison : Bool) : (s.returnGranule data poison).cores = s.cores := rfl
@[simp] theorem State.returnGranule_mgt (s : State) (data : List Byte) (poison : Bool) : (s.returnGranule data poison).mgt = s.mgt := rfl
@[simp] theorem foldl_mgt_num {α : Type} {g : State → α → State} (l : List α) (s : State) (hg : ∀ u a, (g u a).mgt.num = u.mgt.num) : (l.foldl g s).mgt.num = s.mgt.num :=
  foldl_keeps (fun s => s.mgt.num) hg l s
theorem ite_mgt_num (c : Prop) [Decidable c] (s t : State) : (if c then s else t).mgt.num = if c then s.mgt.num else t.mgt.num :=
  apply_ite (fun s : State => s.mgt.num) _ _ _
@[simp] theorem State.wakeNewt_stk (s : State) (n : Nat) : (s.wakeNewt n).stk = s.stk := by simp [State.wakeNewt, ite_stk]
@[simp] theorem State.downNewt_stk (s : State) (n : Nat) : (s.downNewt n).stk = s.stk := by simp [State.downNewt, ite_stk]
@[simp] theorem State.returnGranule_stk_stackFailed (s : State) (data : List Byte) (poison : Bool) : (s.returnGranule data poison).stk.stackFailed = s.stk.stackFailed :=
  rfl
@[simp] theorem State.failChannels_stk_stackFailed (s : State) (stack mask : Nat) : (s.failChannels stack mask).stk.stackFailed = s.stk.stackFailed :=
  by simp [State.failChannels, ite_stk_stackFailed]
@[simp] theorem State.wakeNewt_mem (s : State) (n : Nat) : (s.wakeNewt n).mem = s.mem := by simp [State.wakeNewt, ite_mem]
@[simp] theorem State.downNewt_mem (s : State) (n : Nat) : (s.downNewt n).mem = s.mem := by simp [State.downNewt, ite_mem]
@[simp] theorem State.failChannels_mem (s : State) (stack mask : Nat) : (s.failChannels stack mask).mem = s.mem := by simp [State.failChannels, ite_mem]
@[simp] theorem State.failStack_mem (s : State) (stack : Nat) : (s.failStack stack).mem = s.mem := by simp [State.failStack, ite_mem]
@[simp] theorem State.pushStk_mgt_num (s : State) (rec : Nat) : (s.pushStk rec).mgt.num = s.mgt.num := by simp [State.pushStk, ite_mgt_num]
@[simp] theorem foldl_stk_spared {α : Type} {g : State → α → State} (l : List α) (s : State) (hg : ∀ u a, (g u a).stk.spared = u.stk.spared) : (l.foldl g s).stk.spared = s.stk.spared :=
  foldl_keeps (fun s => s.stk.spared) hg l s
theorem ite_stk_spared (c : Prop) [Decidable c] (s t : State) : (if c then s else t).stk.spared = if c then s.stk.spared else t.stk.spared :=
  apply_ite (fun s : State => s.stk.spared) _ _ _
@[simp] theorem State.pushStk_stk_spared (s : State) (rec : Nat) : (s.pushStk rec).stk.spared = s.stk.spared := by simp [State.pushStk, ite_stk_spared]
@[simp] theorem foldl_stk_sparing {α : Type} {g : State → α → State} (l : List α) (s : State) (hg : ∀ u a, (g u a).stk.sparing = u.stk.sparing) : (l.foldl g s).stk.sparing = s.stk.sparing :=
  foldl_keeps (fun s => s.stk.sparing) hg l s
theorem ite_stk_sparing (c : Prop) [Decidable c] (s t : State) : (if c then s else t).stk.sparing = if c then s.stk.sparing else t.stk.sparing :=
  apply_ite (fun s : State => s.stk.sparing) _ _ _
@[simp] theorem State.pushStk_stk_sparing (s : State) (rec : Nat) : (s.pushStk rec).stk.sparing = s.stk.sparing := by simp [State.pushStk, ite_stk_sparing]
@[simp] theorem foldl_stk_hold {α : Type} {g : State → α → State} (l : List α) (s : State) (hg : ∀ u a, (g u a).stk.hold = u.stk.hold) : (l.foldl g s).stk.hold = s.stk.hold :=
  foldl_keeps (fun s => s.stk.hold) hg l s
theorem ite_stk_hold (c : Prop) [Decidable c] (s t : State) : (if c then s else t).stk.hold = if c then s.stk.hold else t.stk.hold :=
  apply_ite (fun s : State => s.stk.hold) _ _ _
@[simp] theorem State.pushStk_stk_hold (s : State) (rec : Nat) : (s.pushStk rec).stk.hold = s.stk.hold := by simp [State.pushStk, ite_stk_hold]
@[simp] theorem foldl_stk_pinGroups {α : Type} {g : State → α → State} (l : List α) (s : State) (hg : ∀ u a, (g u a).stk.pinGroups = u.stk.pinGroups) : (l.foldl g s).stk.pinGroups = s.stk.pinGroups :=
  foldl_keeps (fun s => s.stk.pinGroups) hg l s
theorem ite_stk_pinGroups (c : Prop) [Decidable c] (s t : State) : (if c then s else t).stk.pinGroups = if c then s.stk.pinGroups else t.stk.pinGroups :=
  apply_ite (fun s : State => s.stk.pinGroups) _ _ _
@[simp] theorem State.pushStk_stk_pinGroups (s : State) (rec : Nat) : (s.pushStk rec).stk.pinGroups = s.stk.pinGroups := by simp [State.pushStk, ite_stk_pinGroups]

end Sys2Proof.Machine
end

section
/-! Accesses at a base die (R43 to R50, R56): the bytes of a granule, what a correction leaves, and the cases of the decoder. -/

namespace Sys2Proof.Machine

/-! Bytes of device memory. -/

theorem cellGet_cellWrite {m : List Host.Cell} (hm : Memory.wf m) (a : Nat) (data : List Byte) (x : Nat) :
    cellGet (cellWrite m a data) x = if a ≤ x ∧ x < a + data.length then data.getD (x - a) 0#8 else cellGet m x := by
  induction data generalizing m a with
  | nil => rw [if_neg (by simp only [List.length_nil]; omega)]; rfl
  | cons b t ih =>
    simp only [cellWrite, ih (cellPut_wf a b hm), List.length_cons]
    rcases Nat.lt_trichotomy x a with hx | rfl | hx
    · rw [if_neg (by omega), if_neg (by omega), cellGet_cellPut_ne m b (by omega)]
    · rw [if_neg (by omega), if_pos (by omega), cellGet_cellPut_self x b hm]
      simp
    · have hsub : x - a = x - (a + 1) + 1 := by omega
      simp only [hsub, List.getD_cons_succ, cellGet_cellPut_ne m b (show x ≠ a by omega)]
      exact if_congr (by omega) rfl rfl

theorem cellBytes_eq_map (m : List Host.Cell) (a n : Nat) : cellBytes m a n = (List.range n).map (fun i => cellGet m (a + i)) := by
  induction n generalizing a with
  | zero => rfl
  | succ n ih => simp [cellBytes, ih, List.range_succ_eq_map, Nat.add_comm, Nat.add_left_comm]

/-- A whole write reads back as the bytes written. -/
theorem cellBytes_cellWrite_self {m : List Host.Cell} (hm : Memory.wf m) (a : Nat) (data : List Byte) :
    cellBytes (cellWrite m a data) a data.length = data := by
  rw [cellBytes_eq_map]
  refine List.ext_getElem (by simp) fun i hi hd => ?_
  simp [cellGet_cellWrite hm, hd]

theorem notMem_setErase (i : Nat) (l : List Nat) : i ∉ setErase i l := by simp [setErase]

theorem mem_setInsert_self (i : Nat) (l : List Nat) : i ∈ setInsert i l := by
  induction l with
  | nil => simp [setInsert]
  | cons k t ih =>
    unfold setInsert
    split
    · simp
    · split
      · rename_i heq
        simp [heq]
      · simp [ih]

/-! The channel of a granule (R53, R58). -/

theorem natXor_lt (n a b : Nat) : natXor n a b < 2 ^ n := BitVec.isLt _

/-- Device memory has 20 stacks of 32 channels. -/
theorem State.newtOf_lt (s : State) (pa : Nat) : s.newtOf pa < 640 := by
  unfold State.newtOf State.mapAddr
  dsimp only
  split
  · have hch := natXor_lt 5 ((pa - pa / 0x80000000 * 0x80000000) / 512 % 32) ((pa - pa / 0x80000000 * 0x80000000) / 512 / 32 % 32)
    dsimp only
    omega
  · dsimp only
    omega

theorem State.newtOf_congr {s t : State} {pa : Nat} (hz : t.stk.rowZeroing = s.stk.rowZeroing)
    (hm : t.num (E.rowMode + pa / 0xA00000000) = s.num (E.rowMode + pa / 0xA00000000)) : t.newtOf pa = s.newtOf pa := by
  simp only [State.newtOf, State.mapAddr, hz, hm]

theorem State.granuleFailed_congr {s t : State} {g : Nat} (hn : t.newtOf (16 * g) = s.newtOf (16 * g)) (hs : t.stk.stackFailed = s.stk.stackFailed)
    (hf : t.num (E.failedChannels + s.newtOf (16 * g) / 32) = s.num (E.failedChannels + s.newtOf (16 * g) / 32)) :
    t.granuleFailed g = s.granuleFailed g := by
  simp only [State.granuleFailed, State.channelFailed, hn, hs, hf]

/-! What a correction leaves. -/

theorem State.num_of_mgt_num {s t : State} (h : t.mgt.num = s.mgt.num) (a k : Nat) : t.num a k = s.num a k := by simp only [State.num, h]

@[simp] theorem State.num_raiseStk (s : State) (n a k : Nat) : (s.raiseStk n).num a k = s.num a k := State.num_of_mgt_num (by simp) a k
@[simp] theorem State.num_pushStk (s : State) (r a k : Nat) : (s.pushStk r).num a k = s.num a k := State.num_of_mgt_num (by simp) a k

/-- A correction counts at its stack and changes no other number. -/
theorem State.num_noteLinkFixed {s : State} {g : Nat} (p : Option Nat) {a : Nat} (ha : a ≠ E.correctedCount + s.newtOf (16 * g) / 32) :
    (s.noteLinkFixed g p).num a = s.num a := by
  cases p with
  | none => rfl
  | some p =>
    show (((s.addNum _ 64).raiseStk 1).pushStk _).num a = s.num a
    simp [State.addNum, State.num_setNum_of_ne, ha]

theorem State.num_noteStorage {s : State} {g p a : Nat} (ha : a ≠ E.correctedCount + s.newtOf (16 * g) / 32) :
    (s.noteStorage g p).num a = s.num a := by
  show (((s.addNum _ 64).raiseStk 0).pushStk _).num a = s.num a
  simp [State.addNum, State.num_setNum_of_ne, ha]

theorem State.num_noteStorage_self (s : State) (g p : Nat) :
    (s.noteStorage g p).num (E.correctedCount + s.newtOf (16 * g) / 32) = (s.num (E.correctedCount + s.newtOf (16 * g) / 32) + 1) % 2 ^ 64 := by
  show (((s.addNum _ 64).raiseStk 0).pushStk _).num _ = _
  simp

theorem State.granuleFailed_noteLinkFixed {s : State} {g : Nat} (hg : 16 * g < memSize) (p : Option Nat) :
    (s.noteLinkFixed g p).granuleFailed g = s.granuleFailed g := by
  have hlt := s.newtOf_lt (16 * g)
  simp only [memSize] at hg
  refine State.granuleFailed_congr (State.newtOf_congr (by simp) (State.num_noteLinkFixed p ?_)) (by simp) (State.num_noteLinkFixed p ?_)
  · simp only [E.rowMode, E.correctedCount]; omega
  · simp only [E.failedChannels, E.correctedCount]; omega

/-! The decoder's cases (R45, Table 3.2). -/

theorem State.decoded_corrected {s : State} {g : Nat} {errs : List (Nat × Nat)} {p : Option Nat} (data : List Byte)
    (h : judge (s.erasedOf (s.newtOf (16 * g))).length (wrongPositions (s.erasedOf (s.newtOf (16 * g))) errs) = .corrected p) :
    s.decoded g data errs = (.good p data, s) := by
  simp only [State.decoded, h]

theorem State.decoded_detected {s : State} {g : Nat} {errs : List (Nat × Nat)} (data : List Byte)
    (h : judge (s.erasedOf (s.newtOf (16 * g))).length (wrongPositions (s.erasedOf (s.newtOf (16 * g))) errs) = .detected) :
    s.decoded g data errs =
      (if poisonWord (s.erasedOf (s.newtOf (16 * g))) (withErrors (codeword data false) errs) then .poison else .bad, s) := by
  simp only [State.decoded, h]

theorem judge_nil (e : Nat) : judge e [] = .corrected none := rfl

theorem judge_singleton {e : Nat} (p : Nat) (he : e ≤ 1) : judge e [p] = .corrected (some p) := by simp [judge, he]

theorem State.miscorrect_keeps {β : Type} (π : State → β) (hπ : ∀ (s : State) n, π { s with free := n } = π s) (s : State) (data : List Byte) :
    π (s.miscorrect data).2 = π s := by
  unfold State.miscorrect
  dsimp only
  split
  · exact hπ s _
  · exact (hπ _ _).trans (hπ s _)

/-- The decoder takes free values and changes nothing else. -/
theorem State.decoded_keeps {β : Type} (π : State → β) (hπ : ∀ (s : State) n, π { s with free := n } = π s) (s : State) (g : Nat) (data : List Byte)
    (errs : List (Nat × Nat)) : π (s.decoded g data errs).2 = π s := by
  have hmis := State.miscorrect_keeps π hπ s data
  unfold State.decoded
  dsimp only
  (repeat' split) <;> simp_all

/-! Writes at the banks. -/

theorem State.bankGranule_full {s : State} {g : Nat} {d : List Byte} (hg : 16 * g < memSize) (hf : s.granuleFailed g = false) (hd : d.length = 16) :
    s.bankGranule (16 * g) d = { s with mem := cellWrite s.mem (16 * g) d, poison := setErase g s.poison, l2.resv := keepResv g s.l2.resv, stk.writebacks := setErase g s.stk.writebacks } := by
  have hdiv : 16 * g / 16 = g := by omega
  rw [State.bankGranule, hdiv, if_neg (by simp [hf, hg]), if_pos hd]

theorem State.bankGranule_byte {s : State} {g i : Nat} (b : Byte) (hi : i < 16) (hg : 16 * g < memSize) (hf : s.granuleFailed g = false) (hp : g ∉ s.poison) :
    s.bankGranule (16 * g + i) [b] = { s with mem := cellPut s.mem (16 * g + i) b, l2.resv := keepResv g s.l2.resv, stk.writebacks := setErase g s.stk.writebacks } := by
  have hdiv : (16 * g + i) / 16 = g := by omega
  have hmem : 16 * g + i < memSize := by simp only [memSize] at hg ⊢; omega
  rw [State.bankGranule, hdiv, if_neg (by simp [hf, hmem]), if_neg (by simp), if_neg (by simp [hp])]
  rfl

theorem State.bankGranule_byte_poisoned {s : State} {g i : Nat} (b : Byte) (hi : i < 16) (hp : g ∈ s.poison) : s.bankGranule (16 * g + i) [b] = s := by
  have hdiv : (16 * g + i) / 16 = g := by omega
  simp [State.bankGranule, hdiv, hp]

theorem lt_of_mem_maskedBytes {data : List Byte} {mask : Nat} {x : Nat × Byte} (h : x ∈ maskedBytes data mask) : x.1 < 16 := by
  simp only [maskedBytes, List.mem_filterMap, List.mem_range] at h
  obtain ⟨i, hi, hx⟩ := h
  split at hx
  · obtain rfl := Option.some.inj hx
    exact hi
  · cases hx

/-- The bytes of a mask, written one by one from the address of their granule on. -/
def cellMask (m : List Host.Cell) (a : Nat) (l : List (Nat × Byte)) : List Host.Cell := l.foldl (fun m x => cellPut m (a + x.1) x.2) m

theorem cellMask_wf {m : List Host.Cell} (a : Nat) (l : List (Nat × Byte)) (hm : Memory.wf m) : Memory.wf (cellMask m a l) := by
  induction l generalizing m with
  | nil => exact hm
  | cons x t ih => exact ih (cellPut_wf _ _ hm)

theorem cellGet_cellMask_ne {m : List Host.Cell} {a x : Nat} {l : List (Nat × Byte)} (h : ∀ y ∈ l, x ≠ a + y.1) : cellGet (cellMask m a l) x = cellGet m x := by
  induction l generalizing m with
  | nil => rfl
  | cons y t ih =>
    refine (ih fun z hz => h z (by simp [hz])).trans (cellGet_cellPut_ne m y.2 (h y (by simp)))

theorem cellMask_append (m : List Host.Cell) (a : Nat) (l k : List (Nat × Byte)) : cellMask m a (l ++ k) = cellMask (cellMask m a l) a k := List.foldl_append

theorem cellGet_cellMask_range {m : List Host.Cell} (hm : Memory.wf m) (a : Nat) (data : List Byte) (mask n i : Nat) :
    cellGet (cellMask m a ((List.range n).filterMap (fun i => if bit mask i then some (i, data.getD i 0#8) else none))) (a + i) =
      if i < n ∧ bit mask i = true then data.getD i 0#8 else cellGet m (a + i) := by
  induction n with
  | zero => rw [if_neg (by omega)]; rfl
  | succ n ih =>
    rw [List.range_succ, List.filterMap_append, cellMask_append]
    by_cases hn : bit mask n = true
    · simp only [List.filterMap_cons, hn, if_true, List.filterMap_nil]
      by_cases hi : i = n
      · subst hi
        rw [if_pos ⟨by omega, hn⟩]
        exact cellGet_cellPut_self _ _ (cellMask_wf a _ hm)
      · refine (cellGet_cellPut_ne _ _ (show a + i ≠ a + n by omega)).trans (ih.trans (if_congr ?_ rfl rfl))
        exact and_congr_left fun _ => by omega
    · simp only [List.filterMap_cons, hn, if_false, List.filterMap_nil, Bool.false_eq_true]
      refine ih.trans (if_congr ?_ rfl rfl)
      refine and_congr_left fun hb => ?_
      have hne : i ≠ n := fun he => hn (he ▸ hb)
      omega

/-- A narrower write stores the bytes of its mask in a granule that is not poisoned. -/
theorem State.foldl_bankGranule {g : Nat} (hg : 16 * g < memSize) (l : List (Nat × Byte)) (hl : ∀ x ∈ l, x.1 < 16) {s : State} (hf : s.granuleFailed g = false)
    (hp : g ∉ s.poison) :
    (l.foldl (fun s x => s.bankGranule (16 * g + x.1) [x.2]) s).mem = cellMask s.mem (16 * g) l ∧
      (l.foldl (fun s x => s.bankGranule (16 * g + x.1) [x.2]) s).poison = s.poison := by
  induction l generalizing s with
  | nil => exact ⟨rfl, rfl⟩
  | cons x t ih =>
    rw [List.foldl_cons, State.bankGranule_byte x.2 (hl x (by simp)) hg hf hp]
    exact ih (fun y hy => hl y (by simp [hy])) hf hp

theorem State.foldl_bankGranule_poisoned {g : Nat} (l : List (Nat × Byte)) (hl : ∀ x ∈ l, x.1 < 16) {s : State} (hp : g ∈ s.poison) :
    l.foldl (fun s x => s.bankGranule (16 * g + x.1) [x.2]) s = s := by
  induction l with
  | nil => rfl
  | cons x t ih =>
    rw [List.foldl_cons, State.bankGranule_byte_poisoned x.2 (hl x (by simp)) hp]
    exact ih fun y hy => hl y (by simp [hy])

/-! What an access does, by what the decoder makes of the granule. -/

theorem baseDieRead_of_free {s : State} {pa : Nat} (errs : List (Nat × Nat)) (h : s.held (pa / 16) = false) :
    baseDieRead pa errs s = s.bankAccess (pa / 16) errs (decide (s.num E.demandScrub = 1)) :=
  if_neg (by simp [h])

theorem State.bankAccess_poison {s : State} {g : Nat} (errs : List (Nat × Nat)) (back : Bool) (h : s.granulePoison g = true) :
    s.bankAccess g errs back = s.returnGranule (zeroBytes 16) true :=
  if_pos h

/-- What a read does with a granule that the decoder judged, in the state after the decoder. -/
def State.readDecoded (t : State) (g : Nat) (back : Bool) : Decoded → State
  | .good p d => (t.noteFixed g p back).returnGranule d false
  | .poison => t.returnGranule (zeroBytes 16) true
  | .bad => { t with stk.rereads := setInsert g t.stk.rereads }

theorem State.readDecoded_mem (t : State) (g : Nat) (back : Bool) (d : Decoded) : (t.readDecoded g back d).mem = t.mem := by
  cases d <;> simp [State.readDecoded]

theorem State.readDecoded_poison (t : State) (g : Nat) (back : Bool) (d : Decoded) : (t.readDecoded g back d).poison = t.poison := by
  cases d <;> simp [State.readDecoded]

theorem State.bankAccess_decoded {s t : State} {g : Nat} {errs : List (Nat × Nat)} (back : Bool) {d : Decoded} (h : s.granulePoison g = false)
    (hd : s.decoded g (cellBytes s.mem (16 * g) 16) errs = (d, t)) :
    s.bankAccess g errs back = t.readDecoded g back d := by
  rw [State.bankAccess, if_neg (by simp [h]), State.bankRead, hd]
  cases d <;> rfl

/-- A read changes neither the stored bytes nor a poison mark. -/
theorem State.bankAccess_keeps_memory (s : State) (g : Nat) (errs : List (Nat × Nat)) (back : Bool) :
    (s.bankAccess g errs back).mem = s.mem ∧ (s.bankAccess g errs back).poison = s.poison := by
  by_cases h : s.granulePoison g = true
  · rw [State.bankAccess_poison errs back h]
    exact ⟨rfl, rfl⟩
  · rw [State.bankAccess_decoded back (by simpa using h) rfl]
    have hmem := s.decoded_keeps State.mem (fun _ _ => rfl) g (cellBytes s.mem (16 * g) 16) errs
    have hpoison := s.decoded_keeps State.poison (fun _ _ => rfl) g (cellBytes s.mem (16 * g) 16) errs
    exact ⟨(State.readDecoded_mem _ g back _).trans hmem, (State.readDecoded_poison _ g back _).trans hpoison⟩

/-- What a write does with a granule that the decoder judged, in the state after the decoder. -/
def State.writeDecoded (t : State) (g mask : Nat) : Decoded → State
  | .good p d =>
    if mask % 65536 = 65535 then (t.noteLinkFixed g p).bankGranule (16 * g) d
    else (maskedBytes d mask).foldl (fun s x => s.bankGranule (16 * g + x.1) [x.2]) (t.noteLinkFixed g p)
  | .poison => t.poisonGranule g
  | .bad => t.makePoison g true

/-- A write at a granule whose channel takes it (R46, R48). -/
theorem baseDieWrite_decoded {s t : State} {pa mask : Nat} {data : List Byte} {errs : List (Nat × Nat)} {d : Decoded} (hh : s.held (pa / 16) = false)
    (hf : s.granuleFailed (pa / 16) = false) (hm : mask % 65536 ≠ 0) (hd : s.decoded (pa / 16) data errs = (d, t)) :
    baseDieWrite pa data mask errs s = t.writeDecoded (pa / 16) mask d := by
  rw [baseDieWrite, if_neg (by simp [hh, hf, hm]), hd]
  cases d <;> rfl

theorem baseDieWrite_refused {s : State} {pa mask : Nat} (data : List Byte) (errs : List (Nat × Nat))
    (h : s.held (pa / 16) = true ∨ s.granuleFailed (pa / 16) = true ∨ mask % 65536 = 0) : baseDieWrite pa data mask errs s = s :=
  if_pos h

theorem State.poisonGranule_poison {s : State} {g : Nat} (hg : 16 * g < memSize) (hf : s.granuleFailed g = false) : g ∈ (s.poisonGranule g).poison := by
  rw [State.poisonGranule, if_neg (by simp [hg, hf])]
  exact mem_setInsert_self g s.poison

theorem State.makePoison_poison {s : State} {g : Nat} (hg : 16 * g < memSize) (hf : s.granuleFailed g = false) : g ∈ (s.makePoison g true).poison := by
  simpa [State.makePoison] using State.poisonGranule_poison hg hf

theorem execBaseDieRead_next {s : State} {pa : Nat} (errs : List (Nat × Nat)) (h : pa < memSize) : exec (.baseDieRead pa errs) s = .next (baseDieRead pa errs s) :=
  if_neg (Nat.not_le.mpr h)

theorem execBaseDieWrite_next {s : State} {pa mask : Nat} (data : List Byte) (errs : List (Nat × Nat)) (h : pa < memSize) :
    exec (.baseDieWrite pa data mask errs) s = .next (baseDieWrite pa data mask errs s) :=
  if_neg (Nat.not_le.mpr h)

/-- Settles O9: an access is what the decoder makes of its granule, and a write that is taken changes that granule alone. -/
theorem baseDieAccesses : Obligations.BaseDieAccesses := by
  unfold Obligations.BaseDieAccesses
  refine ⟨⟨fun s pa errs h => if_pos h, fun s pa errs h hh => ?_, fun s pa errs h hh hp => ?_, fun s pa errs h hh hp hw => ?_, fun s pa p errs h hh hp he hw => ?_,
      fun s pa errs h hh hp hj => ?_, fun s pa errs h => ?_⟩,
    fun s pa mask data errs h => if_pos h, fun s pa mask data errs h hh => ?_, fun s pa p data errs h hm hd hh hf hj => ?_,
      fun s pa mask p data errs h hm hlt hh hf hp hj => ?_, fun s pa mask data errs h hlt hp hw => ?_, fun s pa mask data errs h hf => ?_,
      fun s pa mask data errs h hh hf hmask hj => ?_⟩
  · rw [execBaseDieRead_next errs h, baseDieRead, if_pos hh]
  · rw [execBaseDieRead_next errs h, baseDieRead_of_free errs hh, State.bankAccess_poison errs _ hp]
    rfl
  · rw [execBaseDieRead_next errs h, baseDieRead_of_free errs hh, State.bankAccess_decoded _ hp (State.decoded_corrected _ (by rw [hw, judge_nil]))]
    rfl
  · have hj := State.decoded_corrected (s := s) (cellBytes s.mem (16 * (pa / 16)) 16) (by rw [hw, judge_singleton p he])
    refine ⟨_, by rw [execBaseDieRead_next errs h, baseDieRead_of_free errs hh, State.bankAccess_decoded _ hp hj], rfl, rfl, ?_, fun hscrub => ?_, ?_, ?_, ?_⟩
    · simp only [State.readDecoded, State.noteFixed]
      rw [State.num_of_mgt_num (s := s.noteStorage (pa / 16) p) (by split <;> rfl)]
      exact s.num_noteStorage_self _ _
    · simp [State.readDecoded, State.noteFixed, hscrub, State.returnGranule, mem_setInsert_self]
    · simp [State.readDecoded_mem]
    · simp [State.readDecoded_poison]
    · simp [State.readDecoded]
  · rw [execBaseDieRead_next errs h, baseDieRead_of_free errs hh, State.bankAccess_decoded _ hp (State.decoded_detected _ hj)]
    exact ⟨fun hw => by simp [hw, State.readDecoded], fun hw => by simp [hw, State.readDecoded, State.returnGranule]⟩
  · refine ⟨_, execBaseDieRead_next errs h, ?_⟩
    unfold baseDieRead
    split
    · exact ⟨rfl, rfl⟩
    · exact s.bankAccess_keeps_memory _ _ _
  · rw [execBaseDieWrite_next data errs h, baseDieWrite_refused data errs (.inl hh)]
  · have hg : 16 * (pa / 16) < memSize := lt_of_le_of_lt (Nat.mul_div_le pa 16) h
    refine ⟨_, by rw [execBaseDieWrite_next data errs h, baseDieWrite_decoded hh hf (by decide) (State.decoded_corrected data hj)], ?_⟩
    rw [State.writeDecoded, if_pos rfl, State.bankGranule_full hg (by rw [State.granuleFailed_noteLinkFixed hg, hf]) hd]
    refine ⟨notMem_setErase _ _, notMem_setErase _ _, ?_, fun a ha => ?_, by simp⟩
    · simpa only [State.noteLinkFixed_mem, hd] using cellBytes_cellWrite_self (m := (s.noteLinkFixed (pa / 16) p).mem) (by simpa using hm) (16 * (pa / 16)) data
    · show cellGet (cellWrite (s.noteLinkFixed (pa / 16) p).mem _ _) a = _
      rw [State.noteLinkFixed_mem, cellGet_cellWrite hm, if_neg (by omega)]
  · have hg : 16 * (pa / 16) < memSize := lt_of_le_of_lt (Nat.mul_div_le pa 16) h
    by_cases hmask : mask % 65536 = 0
    · refine ⟨_, by rw [execBaseDieWrite_next data errs h, baseDieWrite_refused data errs (.inr (.inr hmask))], rfl, fun i hi => ?_, fun a _ => rfl⟩
      have h0 : mask = 0 := by omega
      simp [h0, bit]
    · refine ⟨_, by rw [execBaseDieWrite_next data errs h, baseDieWrite_decoded hh hf hmask (State.decoded_corrected data hj)], ?_⟩
      obtain ⟨hmem, hpoison⟩ := State.foldl_bankGranule (s := s.noteLinkFixed (pa / 16) p) hg (maskedBytes data mask) (fun x hx => lt_of_mem_maskedBytes hx)
        (by rw [State.granuleFailed_noteLinkFixed hg, hf]) (by simpa using hp)
      rw [State.writeDecoded, if_neg (by omega), hmem, hpoison, State.noteLinkFixed_mem]
      refine ⟨State.noteLinkFixed_poison s _ _, fun i hi => ?_, fun a ha => cellGet_cellMask_ne fun y hy => ?_⟩
      · rw [maskedBytes, cellGet_cellMask_range hm]
        exact if_congr (by simp [hi]) rfl rfl
      · have hlt16 := lt_of_mem_maskedBytes hy
        omega
  · rw [execBaseDieWrite_next data errs h]
    by_cases hstop : s.held (pa / 16) = true ∨ s.granuleFailed (pa / 16) = true ∨ mask % 65536 = 0
    · rw [baseDieWrite_refused data errs hstop]
    · obtain ⟨hh, hf, hmask⟩ := not_or.mp hstop |>.imp_right not_or.mp
      rw [baseDieWrite_decoded (by simpa using hh) (by simpa using hf) hmask (State.decoded_corrected data (by rw [hw, judge_nil]))]
      rw [State.writeDecoded, if_neg (by omega)]
      exact congrArg Host.Outcome.next (State.foldl_bankGranule_poisoned (s := s) _ (fun x hx => lt_of_mem_maskedBytes hx) hp)
  · rw [execBaseDieWrite_next data errs h, baseDieWrite_refused data errs (.inr (.inl hf))]
  · have hg : 16 * (pa / 16) < memSize := lt_of_le_of_lt (Nat.mul_div_le pa 16) h
    refine ⟨_, by rw [execBaseDieWrite_next data errs h, baseDieWrite_decoded hh hf hmask (State.decoded_detected data hj)], ?_⟩
    split
    · exact ⟨State.poisonGranule_poison hg hf, s.poisonGranule_mem _⟩
    · exact ⟨State.makePoison_poison hg hf, s.makePoison_mem _ _⟩

end Sys2Proof.Machine
end

section
/-! What a write at the banks and the landing of a transfer leave as they were. -/

namespace Sys2Proof.Machine

@[simp] theorem State.bankGranule_stk_replays (s : State) (pa : Nat) (data : List Byte) : (s.bankGranule pa data).stk.replays = s.stk.replays :=
  by simp [State.bankGranule, ite_stk_replays]
@[simp] theorem State.bankGranule_stk_rowZeroing (s : State) (pa : Nat) (data : List Byte) : (s.bankGranule pa data).stk.rowZeroing = s.stk.rowZeroing :=
  by simp [State.bankGranule, ite_stk_rowZeroing]
@[simp] theorem State.bankGranule_stk_stackFailed (s : State) (pa : Nat) (data : List Byte) : (s.bankGranule pa data).stk.stackFailed = s.stk.stackFailed :=
  by simp [State.bankGranule, ite_stk_stackFailed]
@[simp] theorem State.bankGranule_mgt (s : State) (pa : Nat) (data : List Byte) : (s.bankGranule pa data).mgt = s.mgt := by simp [State.bankGranule, ite_mgt]
@[simp] theorem State.returnGranule_stk_replays (s : State) (data : List Byte) (poison : Bool) : (s.returnGranule data poison).stk.replays = s.stk.replays := rfl
@[simp] theorem State.returnGranule_stk_rereads (s : State) (data : List Byte) (poison : Bool) : (s.returnGranule data poison).stk.rereads = s.stk.rereads := rfl
@[simp] theorem State.transferLand_stk_replays (s : State) (g : Nat) (write : Bool) (d : Decoded) : (s.transferLand g write d).stk.replays = s.stk.replays := by
  unfold State.transferLand
  (repeat' split) <;> simp
@[simp] theorem State.returnGranule_stk_patrol (s : State) (data : List Byte) (poison : Bool) : (s.returnGranule data poison).stk.patrol = s.stk.patrol := rfl
@[simp] theorem State.freeVal_stk (s : State) (w : Nat) : (s.freeVal w).2.stk = s.stk := rfl
@[simp] theorem State.miscorrect_stk (s : State) (data : List Byte) : (s.miscorrect data).2.stk = s.stk := by
  unfold State.miscorrect
  dsimp only
  split <;> simp
@[simp] theorem State.returnGranule_stk_passCount (s : State) (data : List Byte) (poison : Bool) : (s.returnGranule data poison).stk.passCount = s.stk.passCount := rfl

end Sys2Proof.Machine
end

section
/-! Second reads, transfers and scrubbing (R49 to R52). -/

namespace Sys2Proof.Machine

/-! Second reads (R49). -/

/-- What the second read of a granule does once the decoder has judged it, in the state after the decoder. -/
theorem poisonReread_decoded {s t : State} {pa : Nat} {errs : List (Nat × Nat)} {d : Decoded} (hin : pa / 16 ∈ s.stk.rereads) (hh : s.held (pa / 16) = false)
    (hp : s.granulePoison (pa / 16) = false)
    (hd : State.decoded { s with stk.rereads := setErase (pa / 16) s.stk.rereads } (pa / 16) (cellBytes s.mem (16 * (pa / 16)) 16) errs = (d, t)) :
    (d = .poison → poisonReread pa errs s = t.returnGranule (zeroBytes 16) true) ∧
    (d = .bad → poisonReread pa errs s = (t.makePoison (pa / 16) true).returnGranule (zeroBytes 16) true) ∧
    (∀ p data, d = .good p data → ∃ u : State, poisonReread pa errs s = u.returnGranule data false ∧ u.mem = t.mem ∧ u.poison = t.poison ∧
      u.stk.rereads = t.stk.rereads) := by
  have hp' : ({ s with stk.rereads := setErase (pa / 16) s.stk.rereads } : State).granulePoison (pa / 16) = false := hp
  rw [poisonReread, if_neg (by simp [hin, hh])]
  dsimp only
  rw [if_neg (by simp [hp']), State.bankRead, hd]
  refine ⟨fun h => by rw [h], fun h => by rw [h], fun p data h => ?_⟩
  rw [h]
  cases p with
  | none =>
    dsimp only
    split
    · exact ⟨_, rfl, by simp, by simp, by simp⟩
    · exact ⟨t, rfl, rfl, rfl, rfl⟩
  | some p => exact ⟨_, rfl, by simp, by simp, by simp⟩

theorem poisonReread_poisoned {s : State} {pa : Nat} (errs : List (Nat × Nat)) (hin : pa / 16 ∈ s.stk.rereads) (hh : s.held (pa / 16) = false)
    (hp : s.granulePoison (pa / 16) = true) :
    poisonReread pa errs s = State.returnGranule { s with stk.rereads := setErase (pa / 16) s.stk.rereads } (zeroBytes 16) true := by
  rw [poisonReread, if_neg (by simp [hin, hh])]
  exact if_pos hp

/-- A second read takes its granule from the list and leaves every stored byte. -/
theorem poisonReread_taken {s : State} {pa : Nat} (errs : List (Nat × Nat)) (hin : pa / 16 ∈ s.stk.rereads) (hh : s.held (pa / 16) = false) :
    pa / 16 ∉ (poisonReread pa errs s).stk.rereads ∧ (poisonReread pa errs s).mem = s.mem := by
  by_cases hp : s.granulePoison (pa / 16) = true
  · rw [poisonReread_poisoned errs hin hh hp]
    exact ⟨notMem_setErase _ _, rfl⟩
  · obtain ⟨d, t, hdt⟩ : ∃ d t, State.decoded { s with stk.rereads := setErase (pa / 16) s.stk.rereads } (pa / 16) (cellBytes s.mem (16 * (pa / 16)) 16) errs = (d, t) :=
      ⟨_, _, rfl⟩
    have hmem : t.mem = s.mem := (congrArg (fun r => r.2.mem) hdt).symm.trans (State.decoded_keeps State.mem (fun _ _ => rfl) _ _ _ _)
    have hstk : pa / 16 ∉ t.stk.rereads := by
      have hkeep := State.decoded_keeps (fun u => u.stk.rereads) (fun _ _ => rfl) { s with stk.rereads := setErase (pa / 16) s.stk.rereads } (pa / 16)
        (cellBytes s.mem (16 * (pa / 16)) 16) errs
      rw [hdt] at hkeep
      exact hkeep ▸ notMem_setErase _ _
    obtain ⟨hpoison, hbad, hgood⟩ := poisonReread_decoded hin hh (by simpa using hp) hdt
    cases d with
    | good p data =>
      obtain ⟨v, hv, hvm, -, hvr⟩ := hgood p data rfl
      rw [hv]
      exact ⟨by simpa [hvr] using hstk, hvm.trans hmem⟩
    | poison =>
      rw [hpoison rfl]
      exact ⟨hstk, hmem⟩
    | bad =>
      rw [hbad rfl]
      exact ⟨by simpa using hstk, by simpa using hmem⟩

/-! Transfers (R50). -/

/-- What the receiver makes of one granule of a transfer, where it takes no free value. -/
def State.judgeOne (s : State) (g0 : Nat) (write : Bool) (data : List Byte) (errs : List (Nat × Nat × Nat)) (i : Nat) : Decoded :=
  if !write && s.granulePoison (g0 + i) then .poison
  else (s.decoded (g0 + i) ((data.drop (16 * i)).take 16) ((errs.filter (fun x => decide (x.1 = i))).map Prod.snd)).1

/-- One step of `transferJudge`. -/
def State.judgeStep (g0 : Nat) (write : Bool) (data : List Byte) (errs : List (Nat × Nat × Nat)) (acc : List (Nat × Decoded) × State) (i : Nat) :
    List (Nat × Decoded) × State :=
  if !write && acc.2.granulePoison (g0 + i) then (acc.1 ++ [(i, .poison)], acc.2)
  else
    let r := acc.2.decoded (g0 + i) ((data.drop (16 * i)).take 16) ((errs.filter (fun x => decide (x.1 = i))).map Prod.snd)
    (acc.1 ++ [(i, r.1)], r.2)

theorem State.transferJudge_eq (s : State) (g0 : Nat) (write : Bool) (data : List Byte) (errs : List (Nat × Nat × Nat)) :
    s.transferJudge g0 write data errs = (List.range 4).foldl (State.judgeStep g0 write data errs) ([], s) := rfl

theorem State.judgeStep_eq (g0 : Nat) (write : Bool) (data : List Byte) (errs : List (Nat × Nat × Nat)) (acc : List (Nat × Decoded) × State) (i : Nat) :
    (State.judgeStep g0 write data errs acc i).1 = acc.1 ++ [(i, acc.2.judgeOne g0 write data errs i)] := by
  unfold State.judgeStep State.judgeOne
  split <;> rfl

theorem State.judgeStep_keeps {β : Type} (π : State → β) (hπ : ∀ (s : State) n, π { s with free := n } = π s) (g0 : Nat) (write : Bool) (data : List Byte)
    (errs : List (Nat × Nat × Nat)) (acc : List (Nat × Decoded) × State) (i : Nat) : π (State.judgeStep g0 write data errs acc i).2 = π acc.2 := by
  unfold State.judgeStep
  split
  · rfl
  · exact acc.2.decoded_keeps π hπ _ _ _

theorem State.foldl_judgeStep_keeps {β : Type} (π : State → β) (hπ : ∀ (s : State) n, π { s with free := n } = π s) (g0 : Nat) (write : Bool) (data : List Byte)
    (errs : List (Nat × Nat × Nat)) (l : List Nat) (acc : List (Nat × Decoded) × State) : π (l.foldl (State.judgeStep g0 write data errs) acc).2 = π acc.2 := by
  induction l generalizing acc with
  | nil => rfl
  | cons i t ih => exact (ih _).trans (State.judgeStep_keeps π hπ g0 write data errs acc i)

/-- Where no judgement takes a free value, the judgements are those in the state at hand, and the state is left. -/
theorem State.transferJudge_of_sure {s : State} {g0 : Nat} {write : Bool} {data : List Byte} {errs : List (Nat × Nat × Nat)}
    (h : ∀ i, i < 4 → wrongPositions (s.erasedOf (s.newtOf (16 * (g0 + i)))) ((errs.filter (fun x => decide (x.1 = i))).map Prod.snd) = []) :
    s.transferJudge g0 write data errs = ((List.range 4).map (fun i =>
      (i, if !write && s.granulePoison (g0 + i) then Decoded.poison else .good none ((data.drop (16 * i)).take 16))), s) := by
  have hstep : ∀ acc : List (Nat × Decoded), ∀ i, i < 4 → State.judgeStep g0 write data errs (acc, s) i =
      (acc ++ [(i, if !write && s.granulePoison (g0 + i) then Decoded.poison else .good none ((data.drop (16 * i)).take 16))], s) := by
    intro acc i hi
    unfold State.judgeStep
    dsimp only
    rw [State.decoded_corrected (p := none) _ (by rw [h i hi, judge_nil])]
    split <;> rfl
  rw [State.transferJudge_eq, show List.range 4 = [0, 1, 2, 3] from rfl]
  simp only [List.foldl_cons, List.foldl_nil]
  rw [hstep _ 0 (by omega), hstep _ 1 (by omega), hstep _ 2 (by omega), hstep _ 3 (by omega)]
  rfl

/-- The judgement of a granule that is surely detected is the one in the state at hand, whatever free values the others take. -/
theorem State.mem_transferJudge {s : State} {g0 i : Nat} {write : Bool} {data : List Byte} {errs : List (Nat × Nat × Nat)} {d : Decoded} (hi : i < 4)
    (h : ∀ n, State.judgeOne { s with free := n } g0 write data errs i = d) : (i, d) ∈ (s.transferJudge g0 write data errs).1 := by
  have hall : ∀ (l : List Nat) (acc : List (Nat × Decoded) × State), { acc.2 with free := 0 } = { s with free := 0 } → (i ∈ l ∨ (i, d) ∈ acc.1) →
      (i, d) ∈ (l.foldl (State.judgeStep g0 write data errs) acc).1 := by
    intro l
    induction l with
    | nil => exact fun acc _ hl => hl.resolve_left (by simp)
    | cons k t ih =>
      intro acc hacc hl
      have hst : acc.2 = { s with free := acc.2.free } := congrArg (fun u : State => { u with free := acc.2.free }) hacc
      refine ih _ ((State.judgeStep_keeps (fun u : State => { u with free := 0 }) (fun _ _ => rfl) g0 write data errs acc k).trans hacc) ?_
      · rw [State.judgeStep_eq]
        rcases hl with hl | hl
        · rcases List.mem_cons.mp hl with rfl | hl
          · exact .inr (by rw [hst, h]; simp)
          · exact .inl hl
        · exact .inr (by simp [hl])
  exact hall _ _ rfl (.inl (List.mem_range.mpr hi))

/-! The landing of a transfer. -/

theorem State.granuleFailed_bankGranule (s : State) (pa g : Nat) (d : List Byte) : (s.bankGranule pa d).granuleFailed g = s.granuleFailed g :=
  State.granuleFailed_congr (State.newtOf_congr (by simp) (State.num_of_mgt_num (by simp) _ _)) (by simp) (State.num_of_mgt_num (by simp) _ _)

theorem State.bankGranule_failed {s : State} {g : Nat} (d : List Byte) (hf : s.granuleFailed g = true) : s.bankGranule (16 * g) d = s := by
  rw [State.bankGranule, show 16 * g / 16 = g by omega, if_pos (.inr hf)]

theorem cellGet_cellWrite_ne (m : List Host.Cell) (a : Nat) (data : List Byte) {x : Nat} (h : x < a ∨ a + data.length ≤ x) :
    cellGet (cellWrite m a data) x = cellGet m x := by
  induction data generalizing m a with
  | nil => rfl
  | cons b t ih =>
    simp only [List.length_cons] at h
    exact (ih _ _ (by omega)).trans (cellGet_cellPut_ne m b (by omega))

/-- A whole granule that is written changes its own bytes alone. -/
theorem State.cellGet_bankGranule_ne {s : State} {g a : Nat} {d : List Byte} (hg : 16 * g < memSize) (hd : d.length = 16) (ha : a / 16 ≠ g) :
    cellGet (s.bankGranule (16 * g) d).mem a = cellGet s.mem a := by
  by_cases hf : s.granuleFailed g = true
  · rw [State.bankGranule_failed d hf]
  · rw [State.bankGranule_full hg (by simpa using hf) hd]
    exact cellGet_cellWrite_ne _ _ _ (by omega)

theorem State.bankGranule_wf {s : State} {g : Nat} {d : List Byte} (hg : 16 * g < memSize) (hd : d.length = 16) (hm : Memory.wf s.mem) :
    Memory.wf (s.bankGranule (16 * g) d).mem := by
  by_cases hf : s.granuleFailed g = true
  · rwa [State.bankGranule_failed d hf]
  · rw [State.bankGranule_full hg (by simpa using hf) hd]
    exact cellWrite_wf _ _ hm

/-- The granules of a whole transfer, written one after the other. -/
def State.landGranules (s : State) (g0 : Nat) (data : List Byte) (l : List Nat) : State :=
  l.foldl (fun t i => t.bankGranule (16 * (g0 + i)) ((data.drop (16 * i)).take 16)) s

theorem State.granuleFailed_landGranules (s : State) (g0 g : Nat) (data : List Byte) (l : List Nat) : (s.landGranules g0 data l).granuleFailed g = s.granuleFailed g := by
  induction l generalizing s with
  | nil => rfl
  | cons i t ih => exact (ih _).trans (State.granuleFailed_bankGranule _ _ _ _)

theorem length_take_drop_16 {data : List Byte} {i : Nat} (hd : data.length = 64) (hi : i < 4) : ((data.drop (16 * i)).take 16).length = 16 := by
  simp only [List.length_take, List.length_drop]
  omega

theorem State.cellGet_landGranules_ne {g0 a : Nat} {data : List Byte} (hd : data.length = 64) (hg : 16 * g0 + 64 ≤ memSize) (l : List Nat) (hl : ∀ i ∈ l, i < 4)
    (ha : ∀ i ∈ l, a / 16 ≠ g0 + i) (s : State) : cellGet (s.landGranules g0 data l).mem a = cellGet s.mem a := by
  induction l generalizing s with
  | nil => rfl
  | cons i t ih =>
    have hi := hl i (by simp)
    exact (ih (fun k hk => hl k (by simp [hk])) (fun k hk => ha k (by simp [hk])) _).trans
      (State.cellGet_bankGranule_ne (by omega) (length_take_drop_16 hd hi) (ha i (by simp)))

theorem State.cellGet_landGranules {g0 i b : Nat} {data : List Byte} (hd : data.length = 64) (hg : 16 * g0 + 64 ≤ memSize) (l : List Nat) (hl : ∀ k ∈ l, k < 4)
    (hn : l.Nodup) (hi : i ∈ l) (hb : b < 16) {s : State} (hm : Memory.wf s.mem) (hf : s.granuleFailed (g0 + i) = false) :
    cellGet (s.landGranules g0 data l).mem (16 * (g0 + i) + b) = data.getD (16 * i + b) 0#8 := by
  induction l generalizing s with
  | nil => cases hi
  | cons k t ih =>
    have hk := hl k (by simp)
    obtain ⟨hkt, hnt⟩ := List.nodup_cons.mp hn
    have hlen := length_take_drop_16 hd hk
    rcases List.mem_cons.mp hi with rfl | hit
    · refine (State.cellGet_landGranules_ne hd hg t (fun j hj => hl j (by simp [hj])) (fun j hj he => hkt ?_) _).trans ?_
      · rwa [show i = j by omega]
      · show cellGet (s.bankGranule (16 * (g0 + i)) ((data.drop (16 * i)).take 16)).mem _ = _
        rw [State.bankGranule_full (by omega) hf hlen, cellGet_cellWrite hm, if_pos (by omega)]
        simp [List.getElem?_drop, hb]
    · exact ih (fun j hj => hl j (by simp [hj])) hnt hit (State.bankGranule_wf (by omega) hlen hm) (by rw [State.granuleFailed_bankGranule, hf])

theorem d2dTransferReceive_of_free {s : State} {pa : Nat} {write : Bool} {data : List Byte} (errs : List (Nat × Nat × Nat)) (hpa : pa < memSize)
    (hd : write = true → data.length = 64) (hh : s.held (pa / 64 * 4) = false) {l : List (Nat × Decoded)} {t u : State}
    (hj : s.transferJudge (pa / 64 * 4) write (if write then data else s.bankRead (16 * (pa / 64 * 4)) 64) errs = (l, t))
    (hu : l.foldl (fun t x => match x.2 with
      | .good p _ => t.noteLinkFixed (pa / 64 * 4 + x.1) p
      | _ => t) t = u) :
    d2dTransferReceive pa write data errs s =
      if l.any (fun x => decide (x.2 = .bad)) ∧ u.stk.replays.getD (pa / 64 * 2 + b2n write) 0 < 4 then
        { u with stk.replays := u.stk.replays.put (pa / 64 * 2 + b2n write) (u.stk.replays.getD (pa / 64 * 2 + b2n write) 0 + 1) }
      else l.foldl (fun t x => t.transferLand (pa / 64 * 4 + x.1) write x.2) { u with stk.replays := u.stk.replays.del (pa / 64 * 2 + b2n write) } := by
  subst hu
  rw [d2dTransferReceive]
  dsimp only
  rw [if_neg (by simp only [not_or, not_and, not_not]; exact ⟨by omega, hd, by simp [hh]⟩), hj] <;> rfl

/-- A transfer without an uncorrectable granule in it. -/
theorem d2dTransferReceive_sure {s : State} {pa : Nat} {write : Bool} {data : List Byte} {errs : List (Nat × Nat × Nat)} (hpa : pa < memSize)
    (hd : write = true → data.length = 64) (hh : s.held (pa / 64 * 4) = false)
    (h : ∀ i, i < 4 → wrongPositions (s.erasedOf (s.newtOf (16 * (pa / 64 * 4 + i)))) ((errs.filter (fun x => decide (x.1 = i))).map Prod.snd) = []) :
    d2dTransferReceive pa write data errs s =
      (List.range 4).foldl (fun t i => t.transferLand (pa / 64 * 4 + i) write
        (if !write && s.granulePoison (pa / 64 * 4 + i) then .poison
          else .good none (((if write then data else s.bankRead (16 * (pa / 64 * 4)) 64).drop (16 * i)).take 16)))
        { s with stk.replays := s.stk.replays.del (pa / 64 * 2 + b2n write) } := by
  rw [d2dTransferReceive_of_free (u := s) errs hpa hd hh (State.transferJudge_of_sure h), if_neg, List.foldl_map]
  · simp only [List.any_map, List.any_eq_true, not_and]
    rintro ⟨i, -, hi⟩
    simp only [Function.comp, decide_eq_true_eq] at hi
    split at hi <;> cases hi
  · rw [List.foldl_map]
    refine foldl_keeps (fun t : State => t) (fun u i => ?_) _ s
    split
    · rename_i heq
      split at heq <;> cases heq
      rfl
    · rfl

theorem foldl_transferLand_stk_replays {α : Type} (l : List α) (g : α → Nat) (d : α → Decoded) (write : Bool) (s : State) :
    (l.foldl (fun t i => t.transferLand (g i) write (d i)) s).stk.replays = s.stk.replays :=
  foldl_keeps (fun t => t.stk.replays) (fun _ _ => State.transferLand_stk_replays _ _ _ _) l s

/-- A read's transfer leaves the stored bytes and the poison marks, and its requester has the last granule of it. -/
theorem foldl_transferLand_read (l : List Nat) (g0 : Nat) (d : Nat → Decoded) (hd : ∀ i, d i ≠ .bad) (s : State) :
    (l.foldl (fun t i => t.transferLand (g0 + i) false (d i)) s).mem = s.mem ∧ (l.foldl (fun t i => t.transferLand (g0 + i) false (d i)) s).poison = s.poison := by
  have hstep : ∀ (t : State) i, ∃ data poison, t.transferLand (g0 + i) false (d i) = t.returnGranule data poison := by
    intro t i
    cases h : d i with
    | good p data => exact ⟨data, false, rfl⟩
    | poison => exact ⟨_, true, rfl⟩
    | bad => exact absurd h (hd i)
  constructor
  · refine foldl_keeps State.mem (fun t i => ?_) l s
    obtain ⟨data, poison, ht⟩ := hstep t i
    rw [ht, State.returnGranule_mem]
  · refine foldl_keeps State.poison (fun t i => ?_) l s
    obtain ⟨data, poison, ht⟩ := hstep t i
    rw [ht, State.returnGranule_poison]

theorem take_drop_cellBytes (m : List Host.Cell) (a : Nat) : ((cellBytes m a 64).drop 48).take 16 = cellBytes m (a + 48) 16 := by
  simp [cellBytes]

/-- An uncorrectable granule whose replays are not used up sends the transfer back. -/
theorem d2dTransferReceive_replay {s : State} {pa i : Nat} {write : Bool} {data : List Byte} {errs : List (Nat × Nat × Nat)} (hpa : pa < memSize)
    (hd : data.length = 64) (hh : s.held (pa / 64 * 4) = false)
    (hbad : (i, Decoded.bad) ∈ (s.transferJudge (pa / 64 * 4) write (if write then data else s.bankRead (16 * (pa / 64 * 4)) 64) errs).1)
    (hk : s.stk.replays.getD (pa / 64 * 2 + b2n write) 0 < 4) :
    (d2dTransferReceive pa write data errs s).stk.replays.getD (pa / 64 * 2 + b2n write) 0 = s.stk.replays.getD (pa / 64 * 2 + b2n write) 0 + 1 ∧
      (d2dTransferReceive pa write data errs s).mem = s.mem ∧ (d2dTransferReceive pa write data errs s).poison = s.poison := by
  obtain ⟨l, t, hlt⟩ : ∃ l t, s.transferJudge (pa / 64 * 4) write (if write then data else s.bankRead (16 * (pa / 64 * 4)) 64) errs = (l, t) :=
    ⟨_, _, Prod.mk.eta.symm⟩
  rw [hlt] at hbad
  have hkeeps {β : Type} (π : State → β) (hπ : ∀ (t : State) n, π { t with free := n } = π t) (hnote : ∀ (t : State) g p, π (t.noteLinkFixed g p) = π t) :
      π (l.foldl (fun t x => match x.2 with
        | .good p _ => t.noteLinkFixed (pa / 64 * 4 + x.1) p
        | _ => t) t) = π s := by
    refine (foldl_keeps π (fun t x => ?_) _ _).trans ((congrArg (fun r => π r.2) hlt).symm.trans (State.foldl_judgeStep_keeps π hπ _ _ _ _ _ ([], s)))
    split
    · exact hnote _ _ _
    · rfl
  have hreplays := hkeeps (fun t => t.stk.replays) (fun _ _ => rfl) State.noteLinkFixed_stk_replays
  rw [d2dTransferReceive_of_free errs hpa (fun _ => hd) hh hlt rfl, if_pos]
  · refine ⟨?_, hkeeps State.mem (fun _ _ => rfl) State.noteLinkFixed_mem, hkeeps State.poison (fun _ _ => rfl) State.noteLinkFixed_poison⟩
    dsimp only at hreplays ⊢
    rw [SMap.getD_put_self, hreplays]
  · rw [hreplays]
    exact ⟨List.any_eq_true.mpr ⟨_, hbad, by simp⟩, hk⟩

/-! The patrol (R51). -/

theorem State.readDecoded_keeps {β : Type} (π : State → β) (hrereads : ∀ (t : State) l, π { t with stk.rereads := l } = π t)
    (hret : ∀ (t : State) d p, π (t.returnGranule d p) = π t) (hfix : ∀ (t : State) g p back, π (t.noteFixed g p back) = π t) (t : State) (g : Nat) (back : Bool)
    (d : Decoded) : π (t.readDecoded g back d) = π t := by
  cases d with
  | good p d => exact (hret _ _ _).trans (hfix _ _ _ _)
  | poison => exact hret _ _ _
  | bad => exact hrereads _ _

theorem State.bankAccess_keeps {β : Type} (π : State → β) (hfree : ∀ (t : State) n, π { t with free := n } = π t)
    (hrereads : ∀ (t : State) l, π { t with stk.rereads := l } = π t) (hret : ∀ (t : State) d p, π (t.returnGranule d p) = π t)
    (hfix : ∀ (t : State) g p back, π (t.noteFixed g p back) = π t) (s : State) (g : Nat) (errs : List (Nat × Nat)) (back : Bool) :
    π (s.bankAccess g errs back) = π s := by
  by_cases h : s.granulePoison g = true
  · rw [State.bankAccess_poison errs back h]
    exact hret _ _ _
  · rw [State.bankAccess_decoded back (by simpa using h) rfl]
    exact (State.readDecoded_keeps π hrereads hret hfix _ _ _ _).trans (s.decoded_keeps π hfree _ _ _)

theorem State.bankAccess_patrol (s : State) (g : Nat) (errs : List (Nat × Nat)) (back : Bool) : (s.bankAccess g errs back).stk.patrol = s.stk.patrol :=
  State.bankAccess_keeps (fun t => t.stk.patrol) (fun _ _ => rfl) (fun _ _ => rfl) (fun _ _ _ => rfl) State.noteFixed_stk_patrol s g errs back

theorem State.bankAccess_passCount (s : State) (g : Nat) (errs : List (Nat × Nat)) (back : Bool) : (s.bankAccess g errs back).stk.passCount = s.stk.passCount :=
  State.bankAccess_keeps (fun t => t.stk.passCount) (fun _ _ => rfl) (fun _ _ => rfl) (fun _ _ _ => rfl) State.noteFixed_stk_passCount s g errs back

/-- The patrol after the read of its granule. -/
theorem patrolScrubRead_of_free {s : State} (errs : List (Nat × Nat)) (h : s.held s.stk.patrol = false) :
    patrolScrubRead errs s =
      if s.stk.patrol + 1 < granuleCount then
        { s.bankAccess s.stk.patrol errs true with stk.rdata := s.stk.rdata, stk.rpoison := s.stk.rpoison, stk.patrol := s.stk.patrol + 1 }
      else { s.bankAccess s.stk.patrol errs true with stk.rdata := s.stk.rdata, stk.rpoison := s.stk.rpoison, stk.patrol := 0, stk.passCount := (s.stk.passCount + 1) % 2 ^ 32 } := by
  rw [patrolScrubRead, if_neg (by simp [h])]
  dsimp only
  rw [State.bankAccess_passCount]

theorem State.bankAccess_writebacks {s : State} {g p : Nat} {errs : List (Nat × Nat)} (hp : s.granulePoison g = false)
    (he : (s.erasedOf (s.newtOf (16 * g))).length ≤ 1) (hw : wrongPositions (s.erasedOf (s.newtOf (16 * g))) errs = [p]) :
    g ∈ (s.bankAccess g errs true).stk.writebacks := by
  rw [State.bankAccess_decoded true hp (State.decoded_corrected _ (by rw [hw, judge_singleton p he]))]
  exact mem_setInsert_self _ _

/-- A write's transfer without an uncorrectable granule lands at the banks. -/
theorem d2dTransferReceive_write {s : State} {pa : Nat} {data : List Byte} {errs : List (Nat × Nat × Nat)} (h : pa < memSize) (hd : data.length = 64)
    (hh : s.held (pa / 64 * 4) = false)
    (hw : ∀ i, i < 4 → wrongPositions (s.erasedOf (s.newtOf (16 * (pa / 64 * 4 + i)))) ((errs.filter (fun x => decide (x.1 = i))).map Prod.snd) = []) :
    d2dTransferReceive pa true data errs s =
      State.landGranules { s with stk.replays := s.stk.replays.del (pa / 64 * 2 + 1) } (pa / 64 * 4) data (List.range 4) := by
  rw [d2dTransferReceive_sure h (fun _ => hd) hh hw]
  simp only [if_true, Bool.not_true, Bool.false_and, Bool.false_eq_true, if_false]
  rfl

theorem State.landGranules_replays (s : State) (g0 : Nat) (data : List Byte) (l : List Nat) : (s.landGranules g0 data l).stk.replays = s.stk.replays :=
  foldl_keeps (fun t => t.stk.replays) (fun _ _ => State.bankGranule_stk_replays _ _ _) l s

/-- A read's transfer without an uncorrectable granule goes to its requester, granule by granule. -/
theorem d2dTransferReceive_read {s : State} {pa : Nat} {data : List Byte} {errs : List (Nat × Nat × Nat)} (h : pa < memSize) (hh : s.held (pa / 64 * 4) = false)
    (hw : ∀ i, i < 4 → wrongPositions (s.erasedOf (s.newtOf (16 * (pa / 64 * 4 + i)))) ((errs.filter (fun x => decide (x.1 = i))).map Prod.snd) = []) :
    (d2dTransferReceive pa false data errs s).stk.replays = s.stk.replays.del (pa / 64 * 2) ∧ (d2dTransferReceive pa false data errs s).mem = s.mem ∧
      (d2dTransferReceive pa false data errs s).poison = s.poison ∧
      (d2dTransferReceive pa false data errs s).stk.rpoison = s.granulePoison (pa / 64 * 4 + 3) ∧
      (d2dTransferReceive pa false data errs s).stk.rdata =
        if s.granulePoison (pa / 64 * 4 + 3) then zeroBytes 16 else cellBytes s.mem (pa / 64 * 64 + 48) 16 := by
  rw [d2dTransferReceive_sure h (fun hc => by cases hc) hh hw]
  simp only [Bool.false_eq_true, if_false, Bool.not_false, Bool.true_and]
  obtain ⟨hmem, hpoison⟩ := foldl_transferLand_read (List.range 4) (pa / 64 * 4)
    (fun i => if s.granulePoison (pa / 64 * 4 + i) = true then Decoded.poison
      else .good none (((s.bankRead (16 * (pa / 64 * 4)) 64).drop (16 * i)).take 16)) (fun i => by split <;> simp)
    { s with stk.replays := s.stk.replays.del (pa / 64 * 2 + b2n false) }
  refine ⟨foldl_transferLand_stk_replays _ _ _ _ _, hmem, hpoison, ?_⟩
  rw [show List.range 4 = [0, 1, 2] ++ [3] from rfl, List.foldl_append, List.foldl_cons, List.foldl_nil]
  cases hlast : s.granulePoison (pa / 64 * 4 + 3)
  · simp only [Bool.false_eq_true, if_false, State.transferLand, State.returnGranule, State.bankRead, true_and]
    rw [take_drop_cellBytes, show 16 * (pa / 64 * 4) = pa / 64 * 64 by omega]
  · simp only [if_true, State.transferLand, Bool.false_eq_true, if_false, State.returnGranule, and_self]

theorem State.judgeOne_detected {s : State} {g0 i : Nat} {write : Bool} {data : List Byte} {errs : List (Nat × Nat × Nat)}
    (hp : write = false → s.granulePoison (g0 + i) = false)
    (hj : judge (s.erasedOf (s.newtOf (16 * (g0 + i)))).length
      (wrongPositions (s.erasedOf (s.newtOf (16 * (g0 + i)))) ((errs.filter (fun x => decide (x.1 = i))).map Prod.snd)) = .detected)
    (hw : poisonWord (s.erasedOf (s.newtOf (16 * (g0 + i))))
      (withErrors (codeword ((data.drop (16 * i)).take 16) false) ((errs.filter (fun x => decide (x.1 = i))).map Prod.snd)) = false) :
    s.judgeOne g0 write data errs i = .bad := by
  rw [State.judgeOne, if_neg (by cases write <;> simp [hp]), State.decoded_detected _ hj]
  exact if_neg (by simp [hw])

/-- Settles O10: a second read, a transfer and a read of the patrol are each what the decoder makes of their granules. -/
theorem rereadsTransfersAndScrubs : Obligations.RereadsTransfersAndScrubs := by
  unfold Obligations.RereadsTransfersAndScrubs
  refine ⟨fun s pa errs h hin hh => ⟨_, rfl, (poisonReread_taken errs hin hh).1, (poisonReread_taken errs hin hh).2, fun hp => ?_, fun p hp hj => ?_, fun hp hj => ?_⟩,
    fun s pa data errs h hd hh hw => ⟨_, congrArg Host.Outcome.next (d2dTransferReceive_write h hd hh hw), ?_, fun hm i hi hf => ?_, fun a ha => ?_⟩,
    fun s pa data errs h hh hw => ⟨_, rfl, ?_⟩,
    fun s pa i k write data errs h hd hi hh hp hj hpw hk hlt => ⟨_, rfl, ?_⟩, fun s errs hh => ⟨_, congrArg Host.Outcome.next (patrolScrubRead_of_free errs hh), ?_⟩,
    fun s pa => rfl⟩
  · rw [poisonReread_poisoned errs hin hh hp]
    exact ⟨rfl, rfl, rfl⟩
  · obtain ⟨-, -, hgood⟩ := poisonReread_decoded hin hh hp (State.decoded_corrected _ hj)
    obtain ⟨u, hu, -, hpoison, -⟩ := hgood p _ rfl
    rw [hu]
    exact ⟨rfl, rfl, hpoison⟩
  · obtain ⟨hpoison, hbad, -⟩ := poisonReread_decoded hin hh hp (State.decoded_detected _ hj)
    by_cases hw : poisonWord (s.erasedOf (s.newtOf (16 * (pa / 16)))) (withErrors (codeword (cellBytes s.mem (16 * (pa / 16)) 16) false) errs) = true
    · rw [hpoison (if_pos hw)]
      exact ⟨rfl, rfl, fun hw' => absurd hw (by simp [hw'])⟩
    · rw [hbad (if_neg hw)]
      obtain ⟨-, hf⟩ := Bool.or_eq_false_iff.mp hp
      refine ⟨rfl, rfl, fun _ => ?_⟩
      rw [State.returnGranule_poison]
      exact State.makePoison_poison (lt_of_le_of_lt (Nat.mul_div_le pa 16) h) hf
  · rw [State.landGranules_replays]
    exact SMap.has_del_self _ _
  · have hg : 16 * (pa / 64 * 4) + 64 ≤ memSize := by simp only [memSize] at h ⊢; omega
    have hget := State.cellGet_landGranules (b := i % 16) hd hg (List.range 4) (fun k hk => List.mem_range.mp hk) List.nodup_range
      (List.mem_range.mpr (show i / 16 < 4 by omega)) (by omega) (s := { s with stk.replays := s.stk.replays.del (pa / 64 * 2 + 1) }) hm hf
    rw [show pa / 64 * 64 + i = 16 * (pa / 64 * 4 + i / 16) + i % 16 by omega]
    exact hget.trans (by rw [Nat.div_add_mod])
  · have hg : 16 * (pa / 64 * 4) + 64 ≤ memSize := by simp only [memSize] at h ⊢; omega
    exact State.cellGet_landGranules_ne hd hg (List.range 4) (fun k hk => List.mem_range.mp hk) (fun k hk => by have := List.mem_range.mp hk; omega) _
  · obtain ⟨hreplays, hmem, hpoison, hrp, hrd⟩ := d2dTransferReceive_read (data := data) h hh hw
    refine ⟨(congrArg (fun m => SMap.has m _) hreplays).trans (SMap.has_del_self _ _), hmem, hpoison, hrp, hrd⟩
  · subst hk
    refine d2dTransferReceive_replay h hd hh (State.mem_transferJudge hi fun n => State.judgeOne_detected hp hj hpw) hlt
  · obtain ⟨hmem, hpoison⟩ := s.bankAccess_keeps_memory s.stk.patrol errs true
    split
    · rename_i hlt
      exact ⟨hmem, hpoison, rfl, fun _ => ⟨rfl, State.bankAccess_passCount _ _ _ _⟩, fun hge => by omega, fun p hp he hw => State.bankAccess_writebacks hp he hw⟩
    · rename_i hge
      exact ⟨hmem, hpoison, rfl, fun hlt => absurd hlt hge, fun _ => ⟨rfl, rfl⟩, fun p hp he hw => State.bankAccess_writebacks hp he hw⟩

end Sys2Proof.Machine
end

section
/-! What the failure of a stack leaves as it was. -/

namespace Sys2Proof.Machine

@[simp] theorem State.wakeNewt_poison (s : State) (n : Nat) : (s.wakeNewt n).poison = s.poison := by simp [State.wakeNewt, ite_poison]
@[simp] theorem State.downNewt_poison (s : State) (n : Nat) : (s.downNewt n).poison = s.poison := by simp [State.downNewt, ite_poison]
@[simp] theorem State.failChannels_poison (s : State) (stack mask : Nat) : (s.failChannels stack mask).poison = s.poison := by simp [State.failChannels, ite_poison]

end Sys2Proof.Machine
end

section
/-! Row sparing, die and pin-group retirement, and failed stacks (R53 to R56, R456). -/

namespace Sys2Proof.Machine

theorem bit_raiseStk (s : State) (n i : Nat) : bit (s.raiseStk n).stk.errStatus i = (decide (i = n) || bit s.stk.errStatus i) := by
  unfold State.raiseStk
  dsimp only
  rw [apply_ite (fun t : State => bit t.stk.errStatus i)]
  simp [bit_setBit]

/-- A record of the stacks' error log keeps the error bits that are set. -/
theorem bit_pushStk (s : State) (r : Nat) {i : Nat} (h : bit s.stk.errStatus i = true) : bit (s.pushStk r).stk.errStatus i = true := by
  unfold State.pushStk
  dsimp only
  split
  · exact h
  · rw [bit_raiseStk]
    simp [h]

@[simp] theorem State.num_setBlob (s : State) (a : Nat) (v : List Byte) (t b k : Nat) : (s.setBlob a v t).num b k = s.num b k := rfl

theorem ite_num (c : Prop) [Decidable c] (s t : State) (a k : Nat) : (if c then s else t).num a k = if c then s.num a k else t.num a k :=
  apply_ite (fun s : State => s.num a k) _ _ _

/-- A fault record changes numbers of the fault counters alone. -/
theorem State.num_faultRecord (s : State) (cls u d i c e : Nat) {a : Nat} (ha : a < E.faultsCovered) :
    (s.faultRecord cls u d i c e).num a = s.num a := by
  have hclass : a ≠ E.faultClassCount + cls - 1 := by simp only [E.faultsCovered, E.faultClassCount] at ha ⊢; omega
  have hcov : a ≠ E.faultsCovered := by omega
  have hunc : a ≠ E.faultsUncovered := by simp only [E.faultsCovered, E.faultsUncovered] at ha ⊢; omega
  have hint : a ≠ E.interruptionMax := by simp only [E.faultsCovered, E.interruptionMax] at ha ⊢; omega
  have hcov' : a ≠ if decide (cls < 16) = true then E.faultsCovered else E.faultsUncovered := by split <;> assumption
  unfold State.faultRecord
  dsimp only
  rw [State.num_setBlob, ite_num, State.num_setNum_of_ne _ _ hint, ite_self, State.addNum, State.num_setNum_of_ne _ _ hcov', State.addNum,
    State.num_setNum_of_ne _ _ hclass]

theorem State.num_wakeNewt (s : State) (n : Nat) {a : Nat} (ha : a < E.newtEpoch) : (s.wakeNewt n).num a = s.num a := by
  unfold State.wakeNewt
  split
  · exact State.num_setNum_of_ne _ _ (by omega)
  · rfl

@[simp] theorem State.num_raiseNwt (s : State) (n a k : Nat) : (s.raiseNwt n).num a k = s.num a k := State.num_of_mgt_num (by simp) a k

/-- A newt that goes down counts among the failed ones, and its buddy's epoch may rise; no number below theirs changes. -/
theorem State.num_downNewt (s : State) (n : Nat) {a : Nat} (ha : a < E.newtEpoch) : (s.downNewt n).num a = s.num a := by
  have hcount (t : State) : (t.addNum E.newtsFailed 16).num a = t.num a :=
    State.num_setNum_of_ne _ _ (by simp only [E.newtsFailed, E.newtEpoch] at ha ⊢; omega)
  unfold State.downNewt
  extract_lets nwt s2 dead s3 restart hit open0 nwt3 fab3 s4
  have hs2 : s2.num a = s.num a := by
    simp only [s2, ite_num, State.num_raiseNwt, hcount]
    exact ite_self _
  have hs3 : s3.num a = s2.num a := by simp only [s3, ite_num, State.num_raiseNwt, ite_self]
  have hs4 : s4.num a = s.num a := (show s4.num a = s3.num a from rfl).trans (hs3.trans hs2)
  rw [ite_num, State.num_wakeNewt _ _ ha, ite_self, hs4]

theorem bit_natOr {n a b i : Nat} (hi : i < n) : bit (natOr n a b) i = (bit a i || bit b i) := by
  have hbit (x : Nat) : bit x i = x.testBit i := by
    simp only [bit, Nat.testBit_eq_decide_div_mod_eq]
  simp [hbit, natOr, BitVec.toNat_or, BitVec.toNat_ofNat, Nat.testBit_or, Nat.testBit_mod_two_pow, hi]

theorem bit_two_pow_self (i : Nat) : bit (2 ^ i) i = true := by
  simp [bit]

theorem State.num_foldl_downNewt (l : List Nat) (g : Nat → Nat) (s : State) {a : Nat} (ha : a < E.newtEpoch) :
    (l.foldl (fun s c => s.downNewt (g c)) s).num a = s.num a :=
  foldl_keeps (fun t => t.num a) (fun _ _ => State.num_downNewt _ _ ha) l s

/-- The channels that fail are shown as failed. -/
theorem State.num_failChannels (s : State) {stack : Nat} (mask : Nat) (hs : stack < 20) :
    (s.failChannels stack mask).num (E.failedChannels + stack) = natOr 32 (s.num (E.failedChannels + stack)) mask := by
  unfold State.failChannels
  dsimp only
  rw [State.num_foldl_downNewt _ (fun c => 32 * stack + c) _ (by simp only [E.failedChannels, E.newtEpoch]; omega), State.num_setNum_self]

/-- A channel that fails is failed. -/
theorem State.channelFailed_failChannel {s : State} {ch : Nat} (hch : ch < 640) (h : s.channelFailed ch = false) : (s.failChannel ch).channelFailed ch = true := by
  have hnum : (s.failChannel ch).num (E.failedChannels + ch / 32) = natOr 32 (s.num (E.failedChannels + ch / 32)) (2 ^ (ch % 32)) := by
    rw [State.failChannel, if_neg (by simp [h, hch]), State.num_faultRecord _ _ _ _ _ _ _ (by simp only [E.failedChannels, E.faultsCovered]; omega),
      State.num_pushStk, State.num_raiseStk, State.num_failChannels s _ (by omega)]
  rw [State.channelFailed, hnum, bit_natOr (Nat.mod_lt _ (by decide)), bit_two_pow_self]
  simp

theorem State.failStack_stackFailed {s : State} {st : Nat} (hst : st < 20) (h : bit s.stk.stackFailed st = false) :
    bit (s.failStack st).stk.stackFailed st = true := by
  rw [State.failStack, if_neg (by simp [h, hst])]
  simp [bit_setBit]

theorem State.channelFailed_of_stackFailed {s : State} {st c : Nat} (hc : c < 32) (h : bit s.stk.stackFailed st = true) : s.channelFailed (32 * st + c) = true := by
  rw [State.channelFailed, show (32 * st + c) / 32 = st by omega, h]
  rfl

/-- Settles O11: each step is its branch, and what it records leaves the stored bytes alone. -/
theorem sparingAndRetirement : Obligations.SparingAndRetirement := by
  unfold Obligations.SparingAndRetirement
  refine ⟨fun s ch row t0 pos g l hev hl hsp hf hcount => ?_, fun s ch row t0 pos g hch h => ?_, fun s st pos hst hpos hfour hsf hhold hbit hmany => ?_,
    fun s st pos hst h hmany => ?_, fun s ch pos hch hpos hfour hf hc hlen => ?_, fun s ch pos hch hpos hfour hf hc hlen => ?_, fun s st hst h => ?_⟩
  · refine ⟨{ s with stk.rowEvents := s.stk.rowEvents.del (ch * 2 ^ 21 + row), stk.sparing := s.stk.sparing.put (ch * 2 ^ 21 + row) (s.time.mono, pos, g) },
      congrArg Host.Outcome.next ?_, SMap.get?_put_self _ _ _, rfl, rfl⟩
    rw [rowSpare]
    simp only [hev]
    rw [if_neg (by simp only [List.length_cons, hsp, hf, Bool.false_eq_true, or_false]; omega), if_neg (by simpa using hcount)]
  · refine ⟨_, rfl, ?_⟩
    rw [rowSpareComplete]
    simp only [h]
    refine ⟨by simp, by simp, ?_, by simp, by simp⟩
    rw [State.num_faultRecord _ _ _ _ _ _ _ (by simp only [E.spareRowsUsed, E.faultsCovered]; omega), State.num_pushStk, State.num_raiseStk,
      State.num_addNum_self]
    rfl
  · refine ⟨_, congrArg Host.Outcome.next ((if_neg ?_).trans (if_neg ?_)), SMap.get?_put_self _ _ _, SMap.get?_put_self _ _ _, rfl, rfl⟩
    · simp only [hsf, hhold, hbit, Bool.false_eq_true, or_false]
      omega
    · exact Bool.not_eq_true _ ▸ hmany
  · have hmany' : State.dieTooMany { s with stk.hold := s.stk.hold.del st, stk.holdAt := s.stk.holdAt.del st } st pos = false := hmany
    refine ⟨_, rfl, ?_⟩
    rw [dieRetireComplete]
    simp only [h]
    rw [State.retireDie, if_neg (by simp [hmany'])]
    refine ⟨by simp, ?_, ?_, by simp, by simp⟩
    · rw [State.num_faultRecord _ _ _ _ _ _ _ (by simp only [E.retiredDies, E.faultsCovered]; omega), State.num_pushStk, State.num_raiseStk,
        State.num_setNum_self]
      rfl
    · rw [State.faultRecord_stk]
      exact bit_pushStk _ _ (by rw [bit_raiseStk]; rfl)
  · refine ⟨_, congrArg Host.Outcome.next ((if_neg ?_).trans (if_neg (by omega))), by simp, by simp, by simp⟩
    simp only [hf, hc, Bool.false_eq_true, or_false]
    omega
  · refine ⟨_, congrArg Host.Outcome.next ((if_neg ?_).trans (if_pos hlen)), State.channelFailed_failChannel hch hf⟩
    simp only [hf, hc, Bool.false_eq_true, or_false]
    omega
  · exact ⟨_, rfl, State.failStack_stackFailed hst h, fun c hc => State.channelFailed_of_stackFailed hc (State.failStack_stackFailed hst h)⟩

end Sys2Proof.Machine
end

section
/-! A page walk to a host page (R322 to R326). -/

namespace Sys2Proof.Machine

/-- Function 0 has ATS on, its table at 4096 maps its first GiB to host pages that it may read, and the host has answered the first of them without permission. -/
def walkToRefusedPage : State :=
  { State.reset with
    mgt.num := [(E.fnPtRoot * 256, 4096)]
    hif.fns := [(0, { FnSt.initial with atsEnabled := true })]
    hif.parts := [(0, { PartSt.initial with slabs := [0] })]
    hif.atsCache := [{ fn := 0, page := 0, target := 2, frame := 0, r := false, w := false, x := false }]
    mem := [(4096, 0x01#8), (4097, 0x20#8), (8192, 0x01#8), (8193, 0x30#8), (12288, 0x47#8)] }

theorem walkToRefusedPage_walk : walkToRefusedPage.walk 0 0 = .page 2 0 30 true false false := by decide

/-- The leaf enters the cache, and the access has no translation all the same. -/
theorem walkToRefusedPage_translate : (walkToRefusedPage.cacheLeaf 0 0 2 0 true false false).translate 0 0 .read = .bad 0x01 := by decide

/-- Refutes O13: a walk ends at a host page that the host has answered without the permission, so that the leaf is cached and the access still ends with 0x01. -/
theorem not_newtSharesAndService : ¬ Obligations.NewtSharesAndService := by
  unfold Obligations.NewtSharesAndService
  intro h
  obtain ⟨-, -, -, -, hwalk⟩ := h
  have hpage : pageWalk 0 0 .read walkToRefusedPage = walkToRefusedPage.cacheLeaf 0 0 2 0 true false false := by
    simp only [pageWalk, show walkToRefusedPage.cached 0 (0 / 2 ^ 16) = none from rfl, walkToRefusedPage_walk]
    rfl
  obtain ⟨t, hexec, htr, -⟩ := hwalk walkToRefusedPage 0 0 2 0 30 .read true false false rfl walkToRefusedPage_walk rfl
  obtain rfl := Host.Outcome.next.inj hexec
  rw [hpage, walkToRefusedPage_translate] at htr
  cases htr

end Sys2Proof.Machine
end

section
/-! What a write by an agent of the chip leaves as it was. -/

namespace Sys2Proof.Machine

@[simp] theorem State.bankGranule_sup (s : State) (pa : Nat) (data : List Byte) : (s.bankGranule pa data).sup = s.sup := by simp [State.bankGranule, ite_sup]
@[simp] theorem State.bankPieces_sup (s : State) (x1 x2 : Nat) (x3 : List Byte) : (s.bankPieces x1 x2 x3).sup = s.sup :=
  by fun_induction State.bankPieces s x1 x2 x3 <;> simp_all
@[simp] theorem State.bankWrite_sup (s : State) (pa : Nat) (data : List Byte) : (s.bankWrite pa data).sup = s.sup := by simp [State.bankWrite]
@[simp] theorem State.poisonGranule_sup (s : State) (g : Nat) : (s.poisonGranule g).sup = s.sup := by simp [State.poisonGranule, ite_sup]
@[simp] theorem State.writeBack_sup (s : State) (line : Nat) (data : List Byte) (poison : Nat) : (s.writeBack line data poison).sup = s.sup :=
  by simp [State.writeBack, ite_sup]
@[simp] theorem State.cohMsg_sup (s : State) (dst seq op addr : Nat) (data : List Byte) (poison : Nat) : (s.cohMsg dst seq op addr data poison).sup = s.sup := rfl
@[simp] theorem State.tellCopies_sup (s : State) (line sharers : Nat) : (s.tellCopies line sharers).sup = s.sup := by
  unfold State.tellCopies
  exact foldl_keeps (fun s => s.sup) (fun _ _ => by (repeat' split) <;> simp) _ _
@[simp] theorem State.dropReplicas_sup (s : State) (line : Nat) : (s.dropReplicas line).sup = s.sup := rfl
@[simp] theorem State.lineToI_sup (s : State) (line : Nat) : (s.lineToI line).sup = s.sup := by
  unfold State.lineToI
  (repeat' split) <;> simp
@[simp] theorem State.agentWrite_sup (s : State) (a : Nat) (data : List Byte) : (s.agentWrite a data).sup = s.sup := by simp [State.agentWrite]
@[simp] theorem State.bankGranule_time (s : State) (pa : Nat) (data : List Byte) : (s.bankGranule pa data).time = s.time := by simp [State.bankGranule, ite_time]
@[simp] theorem State.bankPieces_time (s : State) (x1 x2 : Nat) (x3 : List Byte) : (s.bankPieces x1 x2 x3).time = s.time :=
  by fun_induction State.bankPieces s x1 x2 x3 <;> simp_all
@[simp] theorem State.bankWrite_time (s : State) (pa : Nat) (data : List Byte) : (s.bankWrite pa data).time = s.time := by simp [State.bankWrite]
@[simp] theorem State.poisonGranule_time (s : State) (g : Nat) : (s.poisonGranule g).time = s.time := by simp [State.poisonGranule, ite_time]
@[simp] theorem State.writeBack_time (s : State) (line : Nat) (data : List Byte) (poison : Nat) : (s.writeBack line data poison).time = s.time :=
  by simp [State.writeBack, ite_time]
@[simp] theorem State.cohMsg_time (s : State) (dst seq op addr : Nat) (data : List Byte) (poison : Nat) : (s.cohMsg dst seq op addr data poison).time = s.time := rfl
@[simp] theorem State.tellCopies_time (s : State) (line sharers : Nat) : (s.tellCopies line sharers).time = s.time := by
  unfold State.tellCopies
  exact foldl_keeps (fun s => s.time) (fun _ _ => by (repeat' split) <;> simp) _ _
@[simp] theorem State.dropReplicas_time (s : State) (line : Nat) : (s.dropReplicas line).time = s.time := rfl
@[simp] theorem State.lineToI_time (s : State) (line : Nat) : (s.lineToI line).time = s.time := by
  unfold State.lineToI
  (repeat' split) <;> simp
@[simp] theorem State.agentWrite_time (s : State) (a : Nat) (data : List Byte) : (s.agentWrite a data).time = s.time := by simp [State.agentWrite]
@[simp] theorem State.bankPieces_mgt (s : State) (x1 x2 : Nat) (x3 : List Byte) : (s.bankPieces x1 x2 x3).mgt = s.mgt :=
  by fun_induction State.bankPieces s x1 x2 x3 <;> simp_all
@[simp] theorem State.bankWrite_mgt (s : State) (pa : Nat) (data : List Byte) : (s.bankWrite pa data).mgt = s.mgt := by simp [State.bankWrite]
@[simp] theorem State.poisonGranule_mgt (s : State) (g : Nat) : (s.poisonGranule g).mgt = s.mgt := by simp [State.poisonGranule, ite_mgt]
@[simp] theorem State.writeBack_mgt (s : State) (line : Nat) (data : List Byte) (poison : Nat) : (s.writeBack line data poison).mgt = s.mgt :=
  by simp [State.writeBack, ite_mgt]
@[simp] theorem State.cohMsg_mgt (s : State) (dst seq op addr : Nat) (data : List Byte) (poison : Nat) : (s.cohMsg dst seq op addr data poison).mgt = s.mgt := rfl
@[simp] theorem State.tellCopies_mgt (s : State) (line sharers : Nat) : (s.tellCopies line sharers).mgt = s.mgt := by
  unfold State.tellCopies
  exact foldl_keeps (fun s => s.mgt) (fun _ _ => by (repeat' split) <;> simp) _ _
@[simp] theorem State.dropReplicas_mgt (s : State) (line : Nat) : (s.dropReplicas line).mgt = s.mgt := rfl
@[simp] theorem State.lineToI_mgt (s : State) (line : Nat) : (s.lineToI line).mgt = s.mgt := by
  unfold State.lineToI
  (repeat' split) <;> simp
@[simp] theorem State.agentWrite_mgt (s : State) (a : Nat) (data : List Byte) : (s.agentWrite a data).mgt = s.mgt := by simp [State.agentWrite]
@[simp] theorem State.bankGranule_bar0 (s : State) (pa : Nat) (data : List Byte) : (s.bankGranule pa data).bar0 = s.bar0 := by simp [State.bankGranule, ite_bar0]
@[simp] theorem State.bankPieces_bar0 (s : State) (x1 x2 : Nat) (x3 : List Byte) : (s.bankPieces x1 x2 x3).bar0 = s.bar0 :=
  by fun_induction State.bankPieces s x1 x2 x3 <;> simp_all
@[simp] theorem State.bankWrite_bar0 (s : State) (pa : Nat) (data : List Byte) : (s.bankWrite pa data).bar0 = s.bar0 := by simp [State.bankWrite]
@[simp] theorem State.poisonGranule_bar0 (s : State) (g : Nat) : (s.poisonGranule g).bar0 = s.bar0 := by simp [State.poisonGranule, ite_bar0]
@[simp] theorem State.writeBack_bar0 (s : State) (line : Nat) (data : List Byte) (poison : Nat) : (s.writeBack line data poison).bar0 = s.bar0 :=
  by simp [State.writeBack, ite_bar0]
@[simp] theorem State.cohMsg_bar0 (s : State) (dst seq op addr : Nat) (data : List Byte) (poison : Nat) : (s.cohMsg dst seq op addr data poison).bar0 = s.bar0 := rfl
@[simp] theorem State.tellCopies_bar0 (s : State) (line sharers : Nat) : (s.tellCopies line sharers).bar0 = s.bar0 := by
  unfold State.tellCopies
  exact foldl_keeps (fun s => s.bar0) (fun _ _ => by (repeat' split) <;> simp) _ _
@[simp] theorem State.dropReplicas_bar0 (s : State) (line : Nat) : (s.dropReplicas line).bar0 = s.bar0 := rfl
@[simp] theorem State.lineToI_bar0 (s : State) (line : Nat) : (s.lineToI line).bar0 = s.bar0 := by
  unfold State.lineToI
  (repeat' split) <;> simp
@[simp] theorem State.agentWrite_bar0 (s : State) (a : Nat) (data : List Byte) : (s.agentWrite a data).bar0 = s.bar0 := by simp [State.agentWrite]
@[simp] theorem State.bankGranule_hif (s : State) (pa : Nat) (data : List Byte) : (s.bankGranule pa data).hif = s.hif := by simp [State.bankGranule, ite_hif]
@[simp] theorem State.bankPieces_hif (s : State) (x1 x2 : Nat) (x3 : List Byte) : (s.bankPieces x1 x2 x3).hif = s.hif :=
  by fun_induction State.bankPieces s x1 x2 x3 <;> simp_all
@[simp] theorem State.bankWrite_hif (s : State) (pa : Nat) (data : List Byte) : (s.bankWrite pa data).hif = s.hif := by simp [State.bankWrite]
@[simp] theorem State.poisonGranule_hif (s : State) (g : Nat) : (s.poisonGranule g).hif = s.hif := by simp [State.poisonGranule, ite_hif]
@[simp] theorem State.writeBack_hif (s : State) (line : Nat) (data : List Byte) (poison : Nat) : (s.writeBack line data poison).hif = s.hif :=
  by simp [State.writeBack, ite_hif]
@[simp] theorem State.cohMsg_hif (s : State) (dst seq op addr : Nat) (data : List Byte) (poison : Nat) : (s.cohMsg dst seq op addr data poison).hif = s.hif := rfl
@[simp] theorem State.tellCopies_hif (s : State) (line sharers : Nat) : (s.tellCopies line sharers).hif = s.hif := by
  unfold State.tellCopies
  exact foldl_keeps (fun s => s.hif) (fun _ _ => by (repeat' split) <;> simp) _ _
@[simp] theorem State.dropReplicas_hif (s : State) (line : Nat) : (s.dropReplicas line).hif = s.hif := rfl
@[simp] theorem State.lineToI_hif (s : State) (line : Nat) : (s.lineToI line).hif = s.hif := by
  unfold State.lineToI
  (repeat' split) <;> simp
@[simp] theorem State.agentWrite_hif (s : State) (a : Nat) (data : List Byte) : (s.agentWrite a data).hif = s.hif := by simp [State.agentWrite]
@[simp] theorem State.bankGranule_fe (s : State) (pa : Nat) (data : List Byte) : (s.bankGranule pa data).fe = s.fe := by simp [State.bankGranule, ite_fe]
@[simp] theorem State.bankPieces_fe (s : State) (x1 x2 : Nat) (x3 : List Byte) : (s.bankPieces x1 x2 x3).fe = s.fe :=
  by fun_induction State.bankPieces s x1 x2 x3 <;> simp_all
@[simp] theorem State.bankWrite_fe (s : State) (pa : Nat) (data : List Byte) : (s.bankWrite pa data).fe = s.fe := by simp [State.bankWrite]
@[simp] theorem State.poisonGranule_fe (s : State) (g : Nat) : (s.poisonGranule g).fe = s.fe := by simp [State.poisonGranule, ite_fe]
@[simp] theorem State.writeBack_fe (s : State) (line : Nat) (data : List Byte) (poison : Nat) : (s.writeBack line data poison).fe = s.fe :=
  by simp [State.writeBack, ite_fe]
@[simp] theorem State.cohMsg_fe (s : State) (dst seq op addr : Nat) (data : List Byte) (poison : Nat) : (s.cohMsg dst seq op addr data poison).fe = s.fe := rfl
@[simp] theorem State.tellCopies_fe (s : State) (line sharers : Nat) : (s.tellCopies line sharers).fe = s.fe := by
  unfold State.tellCopies
  exact foldl_keeps (fun s => s.fe) (fun _ _ => by (repeat' split) <;> simp) _ _
@[simp] theorem State.dropReplicas_fe (s : State) (line : Nat) : (s.dropReplicas line).fe = s.fe := rfl
@[simp] theorem State.lineToI_fe (s : State) (line : Nat) : (s.lineToI line).fe = s.fe := by
  unfold State.lineToI
  (repeat' split) <;> simp
@[simp] theorem State.agentWrite_fe (s : State) (a : Nat) (data : List Byte) : (s.agentWrite a data).fe = s.fe := by simp [State.agentWrite]
@[simp] theorem State.bankGranule_syn (s : State) (pa : Nat) (data : List Byte) : (s.bankGranule pa data).syn = s.syn := by simp [State.bankGranule, ite_syn]
@[simp] theorem State.bankPieces_syn (s : State) (x1 x2 : Nat) (x3 : List Byte) : (s.bankPieces x1 x2 x3).syn = s.syn :=
  by fun_induction State.bankPieces s x1 x2 x3 <;> simp_all
@[simp] theorem State.bankWrite_syn (s : State) (pa : Nat) (data : List Byte) : (s.bankWrite pa data).syn = s.syn := by simp [State.bankWrite]
@[simp] theorem State.poisonGranule_syn (s : State) (g : Nat) : (s.poisonGranule g).syn = s.syn := by simp [State.poisonGranule, ite_syn]
@[simp] theorem State.writeBack_syn (s : State) (line : Nat) (data : List Byte) (poison : Nat) : (s.writeBack line data poison).syn = s.syn :=
  by simp [State.writeBack, ite_syn]
@[simp] theorem State.cohMsg_syn (s : State) (dst seq op addr : Nat) (data : List Byte) (poison : Nat) : (s.cohMsg dst seq op addr data poison).syn = s.syn := rfl
@[simp] theorem State.tellCopies_syn (s : State) (line sharers : Nat) : (s.tellCopies line sharers).syn = s.syn := by
  unfold State.tellCopies
  exact foldl_keeps (fun s => s.syn) (fun _ _ => by (repeat' split) <;> simp) _ _
@[simp] theorem State.dropReplicas_syn (s : State) (line : Nat) : (s.dropReplicas line).syn = s.syn := rfl
@[simp] theorem State.lineToI_syn (s : State) (line : Nat) : (s.lineToI line).syn = s.syn := by
  unfold State.lineToI
  (repeat' split) <;> simp
@[simp] theorem State.agentWrite_syn (s : State) (a : Nat) (data : List Byte) : (s.agentWrite a data).syn = s.syn := by simp [State.agentWrite]
@[simp] theorem State.bankGranule_cores (s : State) (pa : Nat) (data : List Byte) : (s.bankGranule pa data).cores = s.cores := by simp [State.bankGranule, ite_cores]
@[simp] theorem State.bankPieces_cores (s : State) (x1 x2 : Nat) (x3 : List Byte) : (s.bankPieces x1 x2 x3).cores = s.cores :=
  by fun_induction State.bankPieces s x1 x2 x3 <;> simp_all
@[simp] theorem State.bankWrite_cores (s : State) (pa : Nat) (data : List Byte) : (s.bankWrite pa data).cores = s.cores := by simp [State.bankWrite]
@[simp] theorem State.writeBack_cores (s : State) (line : Nat) (data : List Byte) (poison : Nat) : (s.writeBack line data poison).cores = s.cores :=
  by simp [State.writeBack, ite_cores]
@[simp] theorem State.cohMsg_cores (s : State) (dst seq op addr : Nat) (data : List Byte) (poison : Nat) : (s.cohMsg dst seq op addr data poison).cores = s.cores := rfl
@[simp] theorem State.tellCopies_cores (s : State) (line sharers : Nat) : (s.tellCopies line sharers).cores = s.cores := by
  unfold State.tellCopies
  exact foldl_keeps (fun s => s.cores) (fun _ _ => by (repeat' split) <;> simp) _ _
@[simp] theorem State.dropReplicas_cores (s : State) (line : Nat) : (s.dropReplicas line).cores = s.cores := rfl
@[simp] theorem State.lineToI_cores (s : State) (line : Nat) : (s.lineToI line).cores = s.cores := by
  unfold State.lineToI
  (repeat' split) <;> simp
@[simp] theorem State.agentWrite_cores (s : State) (a : Nat) (data : List Byte) : (s.agentWrite a data).cores = s.cores := by simp [State.agentWrite]
@[simp] theorem State.bankGranule_opt (s : State) (pa : Nat) (data : List Byte) : (s.bankGranule pa data).opt = s.opt := by simp [State.bankGranule, ite_opt]
@[simp] theorem State.bankPieces_opt (s : State) (x1 x2 : Nat) (x3 : List Byte) : (s.bankPieces x1 x2 x3).opt = s.opt :=
  by fun_induction State.bankPieces s x1 x2 x3 <;> simp_all
@[simp] theorem State.bankWrite_opt (s : State) (pa : Nat) (data : List Byte) : (s.bankWrite pa data).opt = s.opt := by simp [State.bankWrite]
@[simp] theorem State.poisonGranule_opt (s : State) (g : Nat) : (s.poisonGranule g).opt = s.opt := by simp [State.poisonGranule, ite_opt]
@[simp] theorem State.writeBack_opt (s : State) (line : Nat) (data : List Byte) (poison : Nat) : (s.writeBack line data poison).opt = s.opt :=
  by simp [State.writeBack, ite_opt]
@[simp] theorem State.cohMsg_opt (s : State) (dst seq op addr : Nat) (data : List Byte) (poison : Nat) : (s.cohMsg dst seq op addr data poison).opt = s.opt := rfl
@[simp] theorem State.tellCopies_opt (s : State) (line sharers : Nat) : (s.tellCopies line sharers).opt = s.opt := by
  unfold State.tellCopies
  exact foldl_keeps (fun s => s.opt) (fun _ _ => by (repeat' split) <;> simp) _ _
@[simp] theorem State.dropReplicas_opt (s : State) (line : Nat) : (s.dropReplicas line).opt = s.opt := rfl
@[simp] theorem State.lineToI_opt (s : State) (line : Nat) : (s.lineToI line).opt = s.opt := by
  unfold State.lineToI
  (repeat' split) <;> simp
@[simp] theorem State.agentWrite_opt (s : State) (a : Nat) (data : List Byte) : (s.agentWrite a data).opt = s.opt := by simp [State.agentWrite]
@[simp] theorem State.bankGranule_svc (s : State) (pa : Nat) (data : List Byte) : (s.bankGranule pa data).svc = s.svc := by simp [State.bankGranule, ite_svc]
@[simp] theorem State.bankPieces_svc (s : State) (x1 x2 : Nat) (x3 : List Byte) : (s.bankPieces x1 x2 x3).svc = s.svc :=
  by fun_induction State.bankPieces s x1 x2 x3 <;> simp_all
@[simp] theorem State.bankWrite_svc (s : State) (pa : Nat) (data : List Byte) : (s.bankWrite pa data).svc = s.svc := by simp [State.bankWrite]
@[simp] theorem State.poisonGranule_svc (s : State) (g : Nat) : (s.poisonGranule g).svc = s.svc := by simp [State.poisonGranule, ite_svc]
@[simp] theorem State.writeBack_svc (s : State) (line : Nat) (data : List Byte) (poison : Nat) : (s.writeBack line data poison).svc = s.svc :=
  by simp [State.writeBack, ite_svc]
@[simp] theorem State.cohMsg_svc (s : State) (dst seq op addr : Nat) (data : List Byte) (poison : Nat) : (s.cohMsg dst seq op addr data poison).svc = s.svc := rfl
@[simp] theorem State.tellCopies_svc (s : State) (line sharers : Nat) : (s.tellCopies line sharers).svc = s.svc := by
  unfold State.tellCopies
  exact foldl_keeps (fun s => s.svc) (fun _ _ => by (repeat' split) <;> simp) _ _
@[simp] theorem State.dropReplicas_svc (s : State) (line : Nat) : (s.dropReplicas line).svc = s.svc := rfl
@[simp] theorem State.lineToI_svc (s : State) (line : Nat) : (s.lineToI line).svc = s.svc := by
  unfold State.lineToI
  (repeat' split) <;> simp
@[simp] theorem State.agentWrite_svc (s : State) (a : Nat) (data : List Byte) : (s.agentWrite a data).svc = s.svc := by simp [State.agentWrite]
@[simp] theorem State.bankGranule_pwr (s : State) (pa : Nat) (data : List Byte) : (s.bankGranule pa data).pwr = s.pwr := by simp [State.bankGranule, ite_pwr]
@[simp] theorem State.bankPieces_pwr (s : State) (x1 x2 : Nat) (x3 : List Byte) : (s.bankPieces x1 x2 x3).pwr = s.pwr :=
  by fun_induction State.bankPieces s x1 x2 x3 <;> simp_all
@[simp] theorem State.bankWrite_pwr (s : State) (pa : Nat) (data : List Byte) : (s.bankWrite pa data).pwr = s.pwr := by simp [State.bankWrite]
@[simp] theorem State.poisonGranule_pwr (s : State) (g : Nat) : (s.poisonGranule g).pwr = s.pwr := by simp [State.poisonGranule, ite_pwr]
@[simp] theorem State.writeBack_pwr (s : State) (line : Nat) (data : List Byte) (poison : Nat) : (s.writeBack line data poison).pwr = s.pwr :=
  by simp [State.writeBack, ite_pwr]
@[simp] theorem State.cohMsg_pwr (s : State) (dst seq op addr : Nat) (data : List Byte) (poison : Nat) : (s.cohMsg dst seq op addr data poison).pwr = s.pwr := rfl
@[simp] theorem State.tellCopies_pwr (s : State) (line sharers : Nat) : (s.tellCopies line sharers).pwr = s.pwr := by
  unfold State.tellCopies
  exact foldl_keeps (fun s => s.pwr) (fun _ _ => by (repeat' split) <;> simp) _ _
@[simp] theorem State.dropReplicas_pwr (s : State) (line : Nat) : (s.dropReplicas line).pwr = s.pwr := rfl
@[simp] theorem State.lineToI_pwr (s : State) (line : Nat) : (s.lineToI line).pwr = s.pwr := by
  unfold State.lineToI
  (repeat' split) <;> simp
@[simp] theorem State.agentWrite_pwr (s : State) (a : Nat) (data : List Byte) : (s.agentWrite a data).pwr = s.pwr := by simp [State.agentWrite]
@[simp] theorem State.bankGranule_obs (s : State) (pa : Nat) (data : List Byte) : (s.bankGranule pa data).obs = s.obs := by simp [State.bankGranule, ite_obs]
@[simp] theorem State.bankPieces_obs (s : State) (x1 x2 : Nat) (x3 : List Byte) : (s.bankPieces x1 x2 x3).obs = s.obs :=
  by fun_induction State.bankPieces s x1 x2 x3 <;> simp_all
@[simp] theorem State.bankWrite_obs (s : State) (pa : Nat) (data : List Byte) : (s.bankWrite pa data).obs = s.obs := by simp [State.bankWrite]
@[simp] theorem State.poisonGranule_obs (s : State) (g : Nat) : (s.poisonGranule g).obs = s.obs := by simp [State.poisonGranule, ite_obs]
@[simp] theorem State.writeBack_obs (s : State) (line : Nat) (data : List Byte) (poison : Nat) : (s.writeBack line data poison).obs = s.obs :=
  by simp [State.writeBack, ite_obs]
@[simp] theorem State.cohMsg_obs (s : State) (dst seq op addr : Nat) (data : List Byte) (poison : Nat) : (s.cohMsg dst seq op addr data poison).obs = s.obs := rfl
@[simp] theorem State.tellCopies_obs (s : State) (line sharers : Nat) : (s.tellCopies line sharers).obs = s.obs := by
  unfold State.tellCopies
  exact foldl_keeps (fun s => s.obs) (fun _ _ => by (repeat' split) <;> simp) _ _
@[simp] theorem State.dropReplicas_obs (s : State) (line : Nat) : (s.dropReplicas line).obs = s.obs := rfl
@[simp] theorem State.lineToI_obs (s : State) (line : Nat) : (s.lineToI line).obs = s.obs := by
  unfold State.lineToI
  (repeat' split) <;> simp
@[simp] theorem State.agentWrite_obs (s : State) (a : Nat) (data : List Byte) : (s.agentWrite a data).obs = s.obs := by simp [State.agentWrite]
@[simp] theorem State.bankGranule_free (s : State) (pa : Nat) (data : List Byte) : (s.bankGranule pa data).free = s.free := by simp [State.bankGranule, ite_free]
@[simp] theorem State.bankPieces_free (s : State) (x1 x2 : Nat) (x3 : List Byte) : (s.bankPieces x1 x2 x3).free = s.free :=
  by fun_induction State.bankPieces s x1 x2 x3 <;> simp_all
@[simp] theorem State.bankWrite_free (s : State) (pa : Nat) (data : List Byte) : (s.bankWrite pa data).free = s.free := by simp [State.bankWrite]
@[simp] theorem State.poisonGranule_free (s : State) (g : Nat) : (s.poisonGranule g).free = s.free := by simp [State.poisonGranule, ite_free]
@[simp] theorem State.writeBack_free (s : State) (line : Nat) (data : List Byte) (poison : Nat) : (s.writeBack line data poison).free = s.free :=
  by simp [State.writeBack, ite_free]
@[simp] theorem State.cohMsg_free (s : State) (dst seq op addr : Nat) (data : List Byte) (poison : Nat) : (s.cohMsg dst seq op addr data poison).free = s.free := rfl
@[simp] theorem State.tellCopies_free (s : State) (line sharers : Nat) : (s.tellCopies line sharers).free = s.free := by
  unfold State.tellCopies
  exact foldl_keeps (fun s => s.free) (fun _ _ => by (repeat' split) <;> simp) _ _
@[simp] theorem State.dropReplicas_free (s : State) (line : Nat) : (s.dropReplicas line).free = s.free := rfl
@[simp] theorem State.lineToI_free (s : State) (line : Nat) : (s.lineToI line).free = s.free := by
  unfold State.lineToI
  (repeat' split) <;> simp
@[simp] theorem State.agentWrite_free (s : State) (a : Nat) (data : List Byte) : (s.agentWrite a data).free = s.free := by simp [State.agentWrite]
@[simp] theorem State.bankGranule_pending (s : State) (pa : Nat) (data : List Byte) : (s.bankGranule pa data).pending = s.pending :=
  by simp [State.bankGranule, ite_pending]
@[simp] theorem State.bankPieces_pending (s : State) (x1 x2 : Nat) (x3 : List Byte) : (s.bankPieces x1 x2 x3).pending = s.pending :=
  by fun_induction State.bankPieces s x1 x2 x3 <;> simp_all
@[simp] theorem State.bankWrite_pending (s : State) (pa : Nat) (data : List Byte) : (s.bankWrite pa data).pending = s.pending := by simp [State.bankWrite]
@[simp] theorem State.poisonGranule_pending (s : State) (g : Nat) : (s.poisonGranule g).pending = s.pending := by simp [State.poisonGranule, ite_pending]
@[simp] theorem State.writeBack_pending (s : State) (line : Nat) (data : List Byte) (poison : Nat) : (s.writeBack line data poison).pending = s.pending :=
  by simp [State.writeBack, ite_pending]
@[simp] theorem State.cohMsg_pending (s : State) (dst seq op addr : Nat) (data : List Byte) (poison : Nat) : (s.cohMsg dst seq op addr data poison).pending = s.pending :=
  rfl
@[simp] theorem State.tellCopies_pending (s : State) (line sharers : Nat) : (s.tellCopies line sharers).pending = s.pending := by
  unfold State.tellCopies
  exact foldl_keeps (fun s => s.pending) (fun _ _ => by (repeat' split) <;> simp) _ _
@[simp] theorem State.dropReplicas_pending (s : State) (line : Nat) : (s.dropReplicas line).pending = s.pending := rfl
@[simp] theorem State.lineToI_pending (s : State) (line : Nat) : (s.lineToI line).pending = s.pending := by
  unfold State.lineToI
  (repeat' split) <;> simp
@[simp] theorem State.agentWrite_pending (s : State) (a : Nat) (data : List Byte) : (s.agentWrite a data).pending = s.pending := by simp [State.agentWrite]
@[simp] theorem foldl_nwt_queues {α : Type} {g : State → α → State} (l : List α) (s : State) (hg : ∀ u a, (g u a).nwt.queues = u.nwt.queues) : (l.foldl g s).nwt.queues = s.nwt.queues :=
  foldl_keeps (fun s => s.nwt.queues) hg l s
theorem ite_nwt_queues (c : Prop) [Decidable c] (s t : State) : (if c then s else t).nwt.queues = if c then s.nwt.queues else t.nwt.queues :=
  apply_ite (fun s : State => s.nwt.queues) _ _ _
@[simp] theorem State.bankGranule_nwt (s : State) (pa : Nat) (data : List Byte) : (s.bankGranule pa data).nwt = s.nwt := by simp [State.bankGranule, ite_nwt]
@[simp] theorem State.bankPieces_nwt (s : State) (x1 x2 : Nat) (x3 : List Byte) : (s.bankPieces x1 x2 x3).nwt = s.nwt :=
  by fun_induction State.bankPieces s x1 x2 x3 <;> simp_all
@[simp] theorem State.bankWrite_nwt (s : State) (pa : Nat) (data : List Byte) : (s.bankWrite pa data).nwt = s.nwt := by simp [State.bankWrite]
@[simp] theorem State.poisonGranule_nwt (s : State) (g : Nat) : (s.poisonGranule g).nwt = s.nwt := by simp [State.poisonGranule, ite_nwt]
@[simp] theorem State.writeBack_nwt (s : State) (line : Nat) (data : List Byte) (poison : Nat) : (s.writeBack line data poison).nwt = s.nwt :=
  by simp [State.writeBack, ite_nwt]
@[simp] theorem State.cohMsg_nwt (s : State) (dst seq op addr : Nat) (data : List Byte) (poison : Nat) : (s.cohMsg dst seq op addr data poison).nwt = s.nwt := rfl
@[simp] theorem State.tellCopies_nwt (s : State) (line sharers : Nat) : (s.tellCopies line sharers).nwt = s.nwt := by
  unfold State.tellCopies
  exact foldl_keeps (fun s => s.nwt) (fun _ _ => by (repeat' split) <;> simp) _ _
@[simp] theorem State.dropReplicas_nwt (s : State) (line : Nat) : (s.dropReplicas line).nwt = s.nwt := rfl
@[simp] theorem State.lineToI_nwt_queues (s : State) (line : Nat) : (s.lineToI line).nwt.queues = s.nwt.queues := by
  unfold State.lineToI
  (repeat' split) <;> simp
@[simp] theorem State.agentWrite_nwt_queues (s : State) (a : Nat) (data : List Byte) : (s.agentWrite a data).nwt.queues = s.nwt.queues := by simp [State.agentWrite]
@[simp] theorem foldl_nwt_descs {α : Type} {g : State → α → State} (l : List α) (s : State) (hg : ∀ u a, (g u a).nwt.descs = u.nwt.descs) : (l.foldl g s).nwt.descs = s.nwt.descs :=
  foldl_keeps (fun s => s.nwt.descs) hg l s
theorem ite_nwt_descs (c : Prop) [Decidable c] (s t : State) : (if c then s else t).nwt.descs = if c then s.nwt.descs else t.nwt.descs :=
  apply_ite (fun s : State => s.nwt.descs) _ _ _
@[simp] theorem State.lineToI_nwt_descs (s : State) (line : Nat) : (s.lineToI line).nwt.descs = s.nwt.descs := by
  unfold State.lineToI
  (repeat' split) <;> simp
@[simp] theorem State.agentWrite_nwt_descs (s : State) (a : Nat) (data : List Byte) : (s.agentWrite a data).nwt.descs = s.nwt.descs := by simp [State.agentWrite]
@[simp] theorem foldl_nwt_waiting {α : Type} {g : State → α → State} (l : List α) (s : State) (hg : ∀ u a, (g u a).nwt.waiting = u.nwt.waiting) : (l.foldl g s).nwt.waiting = s.nwt.waiting :=
  foldl_keeps (fun s => s.nwt.waiting) hg l s
theorem ite_nwt_waiting (c : Prop) [Decidable c] (s t : State) : (if c then s else t).nwt.waiting = if c then s.nwt.waiting else t.nwt.waiting :=
  apply_ite (fun s : State => s.nwt.waiting) _ _ _
@[simp] theorem State.lineToI_nwt_waiting (s : State) (line : Nat) : (s.lineToI line).nwt.waiting = s.nwt.waiting := by
  unfold State.lineToI
  (repeat' split) <;> simp
@[simp] theorem State.agentWrite_nwt_waiting (s : State) (a : Nat) (data : List Byte) : (s.agentWrite a data).nwt.waiting = s.nwt.waiting := by simp [State.agentWrite]
@[simp] theorem foldl_nwt_failed {α : Type} {g : State → α → State} (l : List α) (s : State) (hg : ∀ u a, (g u a).nwt.failed = u.nwt.failed) : (l.foldl g s).nwt.failed = s.nwt.failed :=
  foldl_keeps (fun s => s.nwt.failed) hg l s
theorem ite_nwt_failed (c : Prop) [Decidable c] (s t : State) : (if c then s else t).nwt.failed = if c then s.nwt.failed else t.nwt.failed :=
  apply_ite (fun s : State => s.nwt.failed) _ _ _
@[simp] theorem State.lineToI_nwt_failed (s : State) (line : Nat) : (s.lineToI line).nwt.failed = s.nwt.failed := by
  unfold State.lineToI
  (repeat' split) <;> simp
@[simp] theorem State.agentWrite_nwt_failed (s : State) (a : Nat) (data : List Byte) : (s.agentWrite a data).nwt.failed = s.nwt.failed := by simp [State.agentWrite]
@[simp] theorem foldl_nwt_gated {α : Type} {g : State → α → State} (l : List α) (s : State) (hg : ∀ u a, (g u a).nwt.gated = u.nwt.gated) : (l.foldl g s).nwt.gated = s.nwt.gated :=
  foldl_keeps (fun s => s.nwt.gated) hg l s
theorem ite_nwt_gated (c : Prop) [Decidable c] (s t : State) : (if c then s else t).nwt.gated = if c then s.nwt.gated else t.nwt.gated :=
  apply_ite (fun s : State => s.nwt.gated) _ _ _
@[simp] theorem State.lineToI_nwt_gated (s : State) (line : Nat) : (s.lineToI line).nwt.gated = s.nwt.gated := by
  unfold State.lineToI
  (repeat' split) <;> simp
@[simp] theorem State.agentWrite_nwt_gated (s : State) (a : Nat) (data : List Byte) : (s.agentWrite a data).nwt.gated = s.nwt.gated := by simp [State.agentWrite]
@[simp] theorem foldl_nwt_status {α : Type} {g : State → α → State} (l : List α) (s : State) (hg : ∀ u a, (g u a).nwt.status = u.nwt.status) : (l.foldl g s).nwt.status = s.nwt.status :=
  foldl_keeps (fun s => s.nwt.status) hg l s
theorem ite_nwt_status (c : Prop) [Decidable c] (s t : State) : (if c then s else t).nwt.status = if c then s.nwt.status else t.nwt.status :=
  apply_ite (fun s : State => s.nwt.status) _ _ _
@[simp] theorem State.lineToI_nwt_status (s : State) (line : Nat) : (s.lineToI line).nwt.status = s.nwt.status := by
  unfold State.lineToI
  (repeat' split) <;> simp
@[simp] theorem State.agentWrite_nwt_status (s : State) (a : Nat) (data : List Byte) : (s.agentWrite a data).nwt.status = s.nwt.status := by simp [State.agentWrite]
@[simp] theorem foldl_nwt_log {α : Type} {g : State → α → State} (l : List α) (s : State) (hg : ∀ u a, (g u a).nwt.log = u.nwt.log) : (l.foldl g s).nwt.log = s.nwt.log :=
  foldl_keeps (fun s => s.nwt.log) hg l s
theorem ite_nwt_log (c : Prop) [Decidable c] (s t : State) : (if c then s else t).nwt.log = if c then s.nwt.log else t.nwt.log :=
  apply_ite (fun s : State => s.nwt.log) _ _ _
@[simp] theorem State.lineToI_nwt_log (s : State) (line : Nat) : (s.lineToI line).nwt.log = s.nwt.log := by
  unfold State.lineToI
  (repeat' split) <;> simp
@[simp] theorem State.agentWrite_nwt_log (s : State) (a : Nat) (data : List Byte) : (s.agentWrite a data).nwt.log = s.nwt.log := by simp [State.agentWrite]
@[simp] theorem foldl_nwt_credits {α : Type} {g : State → α → State} (l : List α) (s : State) (hg : ∀ u a, (g u a).nwt.credits = u.nwt.credits) : (l.foldl g s).nwt.credits = s.nwt.credits :=
  foldl_keeps (fun s => s.nwt.credits) hg l s
theorem ite_nwt_credits (c : Prop) [Decidable c] (s t : State) : (if c then s else t).nwt.credits = if c then s.nwt.credits else t.nwt.credits :=
  apply_ite (fun s : State => s.nwt.credits) _ _ _
@[simp] theorem State.lineToI_nwt_credits (s : State) (line : Nat) : (s.lineToI line).nwt.credits = s.nwt.credits := by
  unfold State.lineToI
  (repeat' split) <;> simp
@[simp] theorem State.agentWrite_nwt_credits (s : State) (a : Nat) (data : List Byte) : (s.agentWrite a data).nwt.credits = s.nwt.credits := by simp [State.agentWrite]
@[simp] theorem foldl_nwt_lastFrom {α : Type} {g : State → α → State} (l : List α) (s : State) (hg : ∀ u a, (g u a).nwt.lastFrom = u.nwt.lastFrom) : (l.foldl g s).nwt.lastFrom = s.nwt.lastFrom :=
  foldl_keeps (fun s => s.nwt.lastFrom) hg l s
theorem ite_nwt_lastFrom (c : Prop) [Decidable c] (s t : State) : (if c then s else t).nwt.lastFrom = if c then s.nwt.lastFrom else t.nwt.lastFrom :=
  apply_ite (fun s : State => s.nwt.lastFrom) _ _ _
@[simp] theorem State.lineToI_nwt_lastFrom (s : State) (line : Nat) : (s.lineToI line).nwt.lastFrom = s.nwt.lastFrom := by
  unfold State.lineToI
  (repeat' split) <;> simp
@[simp] theorem State.agentWrite_nwt_lastFrom (s : State) (a : Nat) (data : List Byte) : (s.agentWrite a data).nwt.lastFrom = s.nwt.lastFrom := by simp [State.agentWrite]
@[simp] theorem foldl_nwt_nextDesc {α : Type} {g : State → α → State} (l : List α) (s : State) (hg : ∀ u a, (g u a).nwt.nextDesc = u.nwt.nextDesc) : (l.foldl g s).nwt.nextDesc = s.nwt.nextDesc :=
  foldl_keeps (fun s => s.nwt.nextDesc) hg l s
theorem ite_nwt_nextDesc (c : Prop) [Decidable c] (s t : State) : (if c then s else t).nwt.nextDesc = if c then s.nwt.nextDesc else t.nwt.nextDesc :=
  apply_ite (fun s : State => s.nwt.nextDesc) _ _ _
@[simp] theorem State.lineToI_nwt_nextDesc (s : State) (line : Nat) : (s.lineToI line).nwt.nextDesc = s.nwt.nextDesc := by
  unfold State.lineToI
  (repeat' split) <;> simp
@[simp] theorem State.agentWrite_nwt_nextDesc (s : State) (a : Nat) (data : List Byte) : (s.agentWrite a data).nwt.nextDesc = s.nwt.nextDesc := by simp [State.agentWrite]
@[simp] theorem foldl_l2_loads {α : Type} {g : State → α → State} (l : List α) (s : State) (hg : ∀ u a, (g u a).l2.loads = u.l2.loads) : (l.foldl g s).l2.loads = s.l2.loads :=
  foldl_keeps (fun s => s.l2.loads) hg l s
theorem ite_l2_loads (c : Prop) [Decidable c] (s t : State) : (if c then s else t).l2.loads = if c then s.l2.loads else t.l2.loads :=
  apply_ite (fun s : State => s.l2.loads) _ _ _
@[simp] theorem State.bankGranule_l2_loads (s : State) (pa : Nat) (data : List Byte) : (s.bankGranule pa data).l2.loads = s.l2.loads :=
  by simp [State.bankGranule, ite_l2_loads]
@[simp] theorem State.bankPieces_l2_loads (s : State) (x1 x2 : Nat) (x3 : List Byte) : (s.bankPieces x1 x2 x3).l2.loads = s.l2.loads :=
  by fun_induction State.bankPieces s x1 x2 x3 <;> simp_all
@[simp] theorem State.bankWrite_l2_loads (s : State) (pa : Nat) (data : List Byte) : (s.bankWrite pa data).l2.loads = s.l2.loads := by simp [State.bankWrite]
@[simp] theorem State.poisonGranule_l2 (s : State) (g : Nat) : (s.poisonGranule g).l2 = s.l2 := by simp [State.poisonGranule, ite_l2]
@[simp] theorem State.writeBack_l2_loads (s : State) (line : Nat) (data : List Byte) (poison : Nat) : (s.writeBack line data poison).l2.loads = s.l2.loads :=
  by simp [State.writeBack, ite_l2_loads]
@[simp] theorem State.cohMsg_l2 (s : State) (dst seq op addr : Nat) (data : List Byte) (poison : Nat) : (s.cohMsg dst seq op addr data poison).l2 = s.l2 := rfl
@[simp] theorem State.tellCopies_l2 (s : State) (line sharers : Nat) : (s.tellCopies line sharers).l2 = s.l2 := by
  unfold State.tellCopies
  exact foldl_keeps (fun s => s.l2) (fun _ _ => by (repeat' split) <;> simp) _ _
@[simp] theorem State.dropReplicas_l2_loads (s : State) (line : Nat) : (s.dropReplicas line).l2.loads = s.l2.loads := rfl
@[simp] theorem State.lineToI_l2_loads (s : State) (line : Nat) : (s.lineToI line).l2.loads = s.l2.loads := by
  unfold State.lineToI
  (repeat' split) <;> simp
@[simp] theorem State.agentWrite_l2_loads (s : State) (a : Nat) (data : List Byte) : (s.agentWrite a data).l2.loads = s.l2.loads := by simp [State.agentWrite]
@[simp] theorem foldl_l2_atoms {α : Type} {g : State → α → State} (l : List α) (s : State) (hg : ∀ u a, (g u a).l2.atoms = u.l2.atoms) : (l.foldl g s).l2.atoms = s.l2.atoms :=
  foldl_keeps (fun s => s.l2.atoms) hg l s
theorem ite_l2_atoms (c : Prop) [Decidable c] (s t : State) : (if c then s else t).l2.atoms = if c then s.l2.atoms else t.l2.atoms :=
  apply_ite (fun s : State => s.l2.atoms) _ _ _
@[simp] theorem State.bankGranule_l2_atoms (s : State) (pa : Nat) (data : List Byte) : (s.bankGranule pa data).l2.atoms = s.l2.atoms :=
  by simp [State.bankGranule, ite_l2_atoms]
@[simp] theorem State.bankPieces_l2_atoms (s : State) (x1 x2 : Nat) (x3 : List Byte) : (s.bankPieces x1 x2 x3).l2.atoms = s.l2.atoms :=
  by fun_induction State.bankPieces s x1 x2 x3 <;> simp_all
@[simp] theorem State.bankWrite_l2_atoms (s : State) (pa : Nat) (data : List Byte) : (s.bankWrite pa data).l2.atoms = s.l2.atoms := by simp [State.bankWrite]
@[simp] theorem State.writeBack_l2_atoms (s : State) (line : Nat) (data : List Byte) (poison : Nat) : (s.writeBack line data poison).l2.atoms = s.l2.atoms :=
  by simp [State.writeBack, ite_l2_atoms]
@[simp] theorem State.dropReplicas_l2_atoms (s : State) (line : Nat) : (s.dropReplicas line).l2.atoms = s.l2.atoms := rfl
@[simp] theorem State.lineToI_l2_atoms (s : State) (line : Nat) : (s.lineToI line).l2.atoms = s.l2.atoms := by
  unfold State.lineToI
  (repeat' split) <;> simp
@[simp] theorem State.agentWrite_l2_atoms (s : State) (a : Nat) (data : List Byte) : (s.agentWrite a data).l2.atoms = s.l2.atoms := by simp [State.agentWrite]
@[simp] theorem foldl_l2_bars {α : Type} {g : State → α → State} (l : List α) (s : State) (hg : ∀ u a, (g u a).l2.bars = u.l2.bars) : (l.foldl g s).l2.bars = s.l2.bars :=
  foldl_keeps (fun s => s.l2.bars) hg l s
theorem ite_l2_bars (c : Prop) [Decidable c] (s t : State) : (if c then s else t).l2.bars = if c then s.l2.bars else t.l2.bars :=
  apply_ite (fun s : State => s.l2.bars) _ _ _
@[simp] theorem State.bankGranule_l2_bars (s : State) (pa : Nat) (data : List Byte) : (s.bankGranule pa data).l2.bars = s.l2.bars :=
  by simp [State.bankGranule, ite_l2_bars]
@[simp] theorem State.bankPieces_l2_bars (s : State) (x1 x2 : Nat) (x3 : List Byte) : (s.bankPieces x1 x2 x3).l2.bars = s.l2.bars :=
  by fun_induction State.bankPieces s x1 x2 x3 <;> simp_all
@[simp] theorem State.bankWrite_l2_bars (s : State) (pa : Nat) (data : List Byte) : (s.bankWrite pa data).l2.bars = s.l2.bars := by simp [State.bankWrite]
@[simp] theorem State.writeBack_l2_bars (s : State) (line : Nat) (data : List Byte) (poison : Nat) : (s.writeBack line data poison).l2.bars = s.l2.bars :=
  by simp [State.writeBack, ite_l2_bars]
@[simp] theorem State.dropReplicas_l2_bars (s : State) (line : Nat) : (s.dropReplicas line).l2.bars = s.l2.bars := rfl
@[simp] theorem State.lineToI_l2_bars (s : State) (line : Nat) : (s.lineToI line).l2.bars = s.l2.bars := by
  unfold State.lineToI
  (repeat' split) <;> simp
@[simp] theorem State.agentWrite_l2_bars (s : State) (a : Nat) (data : List Byte) : (s.agentWrite a data).l2.bars = s.l2.bars := by simp [State.agentWrite]
@[simp] theorem foldl_fab_links {α : Type} {g : State → α → State} (l : List α) (s : State) (hg : ∀ u a, (g u a).fab.links = u.fab.links) : (l.foldl g s).fab.links = s.fab.links :=
  foldl_keeps (fun s => s.fab.links) hg l s
theorem ite_fab_links (c : Prop) [Decidable c] (s t : State) : (if c then s else t).fab.links = if c then s.fab.links else t.fab.links :=
  apply_ite (fun s : State => s.fab.links) _ _ _
@[simp] theorem State.bankGranule_fab (s : State) (pa : Nat) (data : List Byte) : (s.bankGranule pa data).fab = s.fab := by simp [State.bankGranule, ite_fab]
@[simp] theorem State.bankPieces_fab (s : State) (x1 x2 : Nat) (x3 : List Byte) : (s.bankPieces x1 x2 x3).fab = s.fab :=
  by fun_induction State.bankPieces s x1 x2 x3 <;> simp_all
@[simp] theorem State.bankWrite_fab (s : State) (pa : Nat) (data : List Byte) : (s.bankWrite pa data).fab = s.fab := by simp [State.bankWrite]
@[simp] theorem State.poisonGranule_fab (s : State) (g : Nat) : (s.poisonGranule g).fab = s.fab := by simp [State.poisonGranule, ite_fab]
@[simp] theorem State.writeBack_fab (s : State) (line : Nat) (data : List Byte) (poison : Nat) : (s.writeBack line data poison).fab = s.fab :=
  by simp [State.writeBack, ite_fab]
@[simp] theorem State.cohMsg_fab_links (s : State) (dst seq op addr : Nat) (data : List Byte) (poison : Nat) : (s.cohMsg dst seq op addr data poison).fab.links = s.fab.links :=
  rfl
@[simp] theorem State.tellCopies_fab_links (s : State) (line sharers : Nat) : (s.tellCopies line sharers).fab.links = s.fab.links := by
  unfold State.tellCopies
  exact foldl_keeps (fun s => s.fab.links) (fun _ _ => by (repeat' split) <;> simp) _ _
@[simp] theorem State.dropReplicas_fab (s : State) (line : Nat) : (s.dropReplicas line).fab = s.fab := rfl
@[simp] theorem State.lineToI_fab_links (s : State) (line : Nat) : (s.lineToI line).fab.links = s.fab.links := by
  unfold State.lineToI
  (repeat' split) <;> simp
@[simp] theorem State.agentWrite_fab_links (s : State) (a : Nat) (data : List Byte) : (s.agentWrite a data).fab.links = s.fab.links := by simp [State.agentWrite]

end Sys2Proof.Machine
end

section
/-! Sparse tables, and what adding to a fixed quantity changes (R439 to R443). -/

namespace Sys2Proof.SMap

variable {α : Type}

theorem get?_mapVals (m : SMap α) (f : Nat → α → α) (i : Nat) : get? (mapVals m f) i = (get? m i).map (f i) := by
  induction m with
  | nil => rfl
  | cons e t ih =>
    obtain ⟨k, v⟩ := e
    by_cases h : i = k
    · subst h
      simp [mapVals, get?]
    · simpa [mapVals, get?, h] using ih

theorem getD_mapVals (m : SMap α) (f : Nat → α → α) (i : Nat) (d : α) (hd : f i d = d) : getD (mapVals m f) i d = f i (getD m i d) := by
  unfold getD
  rw [get?_mapVals]
  cases get? m i <;> simp [hd]

theorem mem_of_get? {m : SMap α} {i : Nat} {v : α} (h : get? m i = some v) : (i, v) ∈ m := by
  induction m with
  | nil => cases h
  | cons e t ih =>
    obtain ⟨k, w⟩ := e
    by_cases hk : i = k
    · subst hk
      simp only [get?, if_true, Option.some.injEq] at h
      simp [h]
    · simp only [get?, hk, if_false] at h
      exact List.mem_cons_of_mem _ (ih h)

theorem mem_of_mem_del {m : SMap α} {i : Nat} {e : Nat × α} (h : e ∈ del m i) : e ∈ m := by
  induction m with
  | nil => cases h
  | cons c t ih =>
    obtain ⟨k, w⟩ := c
    unfold del at h
    split at h
    · exact List.mem_cons_of_mem _ (ih h)
    · rcases List.mem_cons.mp h with rfl | h
      · simp
      · exact List.mem_cons_of_mem _ (ih h)

theorem mem_mapVals {m : SMap α} {f : Nat → α → α} {e : Nat × α} (h : e ∈ mapVals m f) : ∃ v, (e.1, v) ∈ m ∧ e.2 = f e.1 v := by
  simp only [mapVals, List.mem_map] at h
  obtain ⟨c, hc, rfl⟩ := h
  exact ⟨c.2, hc, rfl⟩

end Sys2Proof.SMap

namespace Sys2Proof.Machine

/-! What a flush of accumulators changes. -/

section
variable {β : Type} (π : State → β) (hw : ∀ (s : State) a l, π (s.agentWrite a l) = π s)
include hw

theorem State.tableAtomic_keeps {s t : State} {f va old : Nat} {g : Nat → Nat} (h : s.tableAtomic f va g = some (old, t)) : π t = π s := by
  unfold State.tableAtomic at h
  split at h
  · split at h
    · cases h
    · obtain ⟨-, rfl⟩ := Prod.mk.inj (Option.some.inj h)
      exact hw _ _ _
  · cases h

theorem State.probe_keeps (f base n key h : Nat) {k i c : Nat} {s t : State} (hp : s.probe f base n key h k i = some (c, t)) : π t = π s := by
  induction k generalizing s i with
  | zero =>
    obtain ⟨-, rfl⟩ := Prod.mk.inj (Option.some.inj hp)
    rfl
  | succ k ih =>
    unfold State.probe at hp
    dsimp only at hp
    split at hp
    · cases hp
    · rename_i old u hu
      split at hp
      · obtain ⟨-, rfl⟩ := Prod.mk.inj (Option.some.inj hp)
        exact State.tableAtomic_keeps π hw hu
      · exact (ih hp).trans (State.tableAtomic_keeps π hw hu)

theorem State.addSums_keeps (f addr : Nat) {i : Nat} {l : List Nat} {s t : State} (h : s.addSums f addr i l = some t) : π t = π s := by
  induction l generalizing s i with
  | nil => exact congrArg π (Option.some.inj h).symm
  | cons v l ih =>
    unfold State.addSums at h
    split at h
    · exact ih h
    · split at h
      · cases h
      · rename_i r hr
        exact (ih h).trans (State.tableAtomic_keeps (t := r.2) (old := r.1) π hw hr)

variable (hc : ∀ (s : State) f g, π (s.modCntFn f g) = π s) (hn : ∀ (s : State) k f, π (s.addNum E.cntLayerLost 64 k f) = π s)
include hc hn

theorem State.flushAccums_keeps (f base n : Nat) (l : List Accum) (s : State) : π (s.flushAccums f base n l) = π s := by
  induction l generalizing s with
  | nil => rfl
  | cons a l ih =>
    unfold State.flushAccums
    dsimp only
    split
    · exact (hn _ _ _).trans (hc _ _ _)
    · rename_i e s1 he
      have hs1 := State.probe_keeps π hw _ _ _ _ _ he
      split
      · exact ((hn _ _ _).trans (hc _ _ _)).trans hs1
      · rename_i s2 h2
        have hs2 := (State.addSums_keeps π hw _ _ h2).trans hs1
        refine (ih _).trans ?_
        split
        · exact (hc _ _ _).trans hs2
        · exact hs2

theorem State.roomForAccum_keeps (s : State) : π s.roomForAccum = π s := by
  unfold State.roomForAccum
  split
  · rfl
  · split
    · rfl
    · exact (State.flushAccums_keeps π hw hc hn _ _ _ _ _).trans (hc _ _ _)

variable (hu : ∀ (s : State) n, π { s with obs.updates := n } = π s) (hq : ∀ (s : State) m, π { s with obs.queueCnt := m } = π s)
include hu hq

/-- What the table's atomics and the counters' own books leave, adding to a fixed quantity leaves. -/
theorem State.addQty_keeps (s : State) (q i n l o : Nat) : π (s.addQty q i n l o) = π s := by
  unfold State.addQty
  dsimp only
  split
  · exact hq _ _
  · unfold State.accumulate
    refine (hc _ _ _).trans ((hu _ _).trans ?_)
    split
    · exact hq _ _
    · exact (hc _ _ _).trans ((State.roomForAccum_keeps π hw hc hn _).trans (hq _ _))

end

section
variable (s : State) (q i n l o : Nat)
@[simp] theorem State.addQty_sup : (s.addQty q i n l o).sup = s.sup := by
  apply State.addQty_keeps State.sup <;> simp
@[simp] theorem State.addQty_time : (s.addQty q i n l o).time = s.time := by
  apply State.addQty_keeps State.time <;> simp
@[simp] theorem State.addQty_hif : (s.addQty q i n l o).hif = s.hif := by
  apply State.addQty_keeps State.hif <;> simp
@[simp] theorem State.addQty_fe : (s.addQty q i n l o).fe = s.fe := by
  apply State.addQty_keeps State.fe <;> simp
@[simp] theorem State.addQty_syn : (s.addQty q i n l o).syn = s.syn := by
  apply State.addQty_keeps State.syn <;> simp
@[simp] theorem State.addQty_cores : (s.addQty q i n l o).cores = s.cores := by
  apply State.addQty_keeps State.cores <;> simp
@[simp] theorem State.addQty_pwr : (s.addQty q i n l o).pwr = s.pwr := by
  apply State.addQty_keeps State.pwr <;> simp
@[simp] theorem State.addQty_free : (s.addQty q i n l o).free = s.free := by
  apply State.addQty_keeps State.free <;> simp
@[simp] theorem State.addQty_pending : (s.addQty q i n l o).pending = s.pending := by
  apply State.addQty_keeps State.pending <;> simp
@[simp] theorem State.addQty_nwt_queues : (s.addQty q i n l o).nwt.queues = s.nwt.queues := by
  apply State.addQty_keeps (fun s => s.nwt.queues) <;> simp
@[simp] theorem State.addQty_nwt_descs : (s.addQty q i n l o).nwt.descs = s.nwt.descs := by
  apply State.addQty_keeps (fun s => s.nwt.descs) <;> simp
end

/-! While the accumulator of a layer exists, or one is free, nothing is flushed (R440). -/

/-- Does an addition for a function's layer find its accumulator, or room for one? -/
def State.accumReady (s : State) (f l o : Nat) : Prop :=
  s.accumCount < 4096 ∨ (s.cntFn f).accums.any (fun a => decide (a.layer = l) && decide (a.operator = o)) = true

theorem State.accumReady_congr {s t : State} {f l o : Nat} (h : t.obs.fns = s.obs.fns) (hs : s.accumReady f l o) : t.accumReady f l o := by
  unfold State.accumReady State.accumCount State.cntFn at *
  rwa [h]

theorem State.accumulate_obs {s : State} {f l o : Nat} (i n : Nat) (h : s.accumReady f l o) : ∃ b, s.accumulate f l o i n = { s with obs := b } := by
  unfold State.accumulate
  dsimp only
  by_cases hm : (s.cntFn f).accums.any (fun a => decide (a.layer = l) && decide (a.operator = o)) = true
  · rw [if_pos hm]
    exact ⟨_, rfl⟩
  · have hroom : s.roomForAccum = s := if_pos (h.resolve_right hm)
    rw [if_neg hm, hroom]
    exact ⟨_, rfl⟩

/-- After an addition the accumulator is there. -/
theorem State.accumulate_any (s : State) (f l o i n : Nat) :
    ((s.accumulate f l o i n).cntFn f).accums.any (fun a => decide (a.layer = l) && decide (a.operator = o)) = true := by
  unfold State.accumulate
  dsimp only
  rw [State.modCntFn_cntFn_self, List.any_map]
  have hsame (u : Nat) : ((fun a : Accum => decide (a.layer = l) && decide (a.operator = o)) ∘ fun a =>
      if (decide (a.layer = l) && decide (a.operator = o)) = true then { a with sums := a.sums.set i ((a.sums.getD i 0 + n) % 2 ^ 64), used := u } else a) =
      fun a => decide (a.layer = l) && decide (a.operator = o) := by
    funext a
    simp only [Function.comp]
    split <;> rfl
  rw [hsame]
  split
  · rename_i hm
    exact hm
  · simp [State.cntFn, State.modCntFn]

/-- Without a flush an addition changes the counters' own books alone. -/
theorem State.addQty_of_ready {s : State} {q l o : Nat} (i n : Nat) (h : s.accumReady (fnOfQueue q) l o) :
    ∃ b, s.addQty q i n l o = { s with obs := b } ∧ (s.addQty q i n l o).accumReady (fnOfQueue q) l o := by
  unfold State.addQty
  dsimp only
  split
  · exact ⟨_, rfl, State.accumReady_congr rfl h⟩
  · obtain ⟨b, hb⟩ := State.accumulate_obs (s := { s with obs.queueCnt := s.obs.queueCnt.put (q * 8 + i) ((s.obs.queueCnt.getD (q * 8 + i) 0 + n) % 2 ^ 64) }) i n
      (State.accumReady_congr rfl h)
    exact ⟨b, hb, .inr (State.accumulate_any _ _ _ _ _ _)⟩

theorem State.addQty_ready {s : State} {q l o : Nat} (i n : Nat) (h : s.accumReady (fnOfQueue q) l o) : (s.addQty q i n l o).accumReady (fnOfQueue q) l o := by
  obtain ⟨-, -, hr⟩ := State.addQty_of_ready i n h
  exact hr

theorem State.addQty_mem_of_ready {s : State} {q l o : Nat} (i n : Nat) (h : s.accumReady (fnOfQueue q) l o) : (s.addQty q i n l o).mem = s.mem := by
  obtain ⟨b, hb, -⟩ := State.addQty_of_ready i n h
  rw [hb]

end Sys2Proof.Machine
end

section
/-! What the records of a share's end and a kill leave as they were. -/

namespace Sys2Proof.Machine

@[simp] theorem State.countAt_nwt (s : State) (valOff sel n : Nat) : (s.countAt valOff sel n).nwt = s.nwt := by simp [State.countAt, ite_nwt]
@[simp] theorem State.countEvent_nwt (s : State) (kind unit event n queue fmt : Nat) : (s.countEvent kind unit event n queue fmt).nwt = s.nwt :=
  by simp [State.countEvent, ite_nwt]
@[simp] theorem State.countAt_fe (s : State) (valOff sel n : Nat) : (s.countAt valOff sel n).fe = s.fe := by simp [State.countAt, ite_fe]
@[simp] theorem State.countEvent_fe (s : State) (kind unit event n queue fmt : Nat) : (s.countEvent kind unit event n queue fmt).fe = s.fe :=
  by simp [State.countEvent, ite_fe]
@[simp] theorem State.countAt_mem (s : State) (valOff sel n : Nat) : (s.countAt valOff sel n).mem = s.mem := by simp [State.countAt, ite_mem]
@[simp] theorem State.countEvent_mem (s : State) (kind unit event n queue fmt : Nat) : (s.countEvent kind unit event n queue fmt).mem = s.mem :=
  by simp [State.countEvent, ite_mem]
@[simp] theorem foldl_obs_fns {α : Type} {g : State → α → State} (l : List α) (s : State) (hg : ∀ u a, (g u a).obs.fns = u.obs.fns) : (l.foldl g s).obs.fns = s.obs.fns :=
  foldl_keeps (fun s => s.obs.fns) hg l s
theorem ite_obs_fns (c : Prop) [Decidable c] (s t : State) : (if c then s else t).obs.fns = if c then s.obs.fns else t.obs.fns :=
  apply_ite (fun s : State => s.obs.fns) _ _ _
@[simp] theorem State.countAt_obs_fns (s : State) (valOff sel n : Nat) : (s.countAt valOff sel n).obs.fns = s.obs.fns := by simp [State.countAt, ite_obs_fns]
@[simp] theorem State.countEvent_obs_fns (s : State) (kind unit event n queue fmt : Nat) : (s.countEvent kind unit event n queue fmt).obs.fns = s.obs.fns :=
  by simp [State.countEvent, ite_obs_fns]
@[simp] theorem State.countAt_mgt (s : State) (valOff sel n : Nat) : (s.countAt valOff sel n).mgt = s.mgt := by simp [State.countAt, ite_mgt]
@[simp] theorem State.countEvent_mgt (s : State) (kind unit event n queue fmt : Nat) : (s.countEvent kind unit event n queue fmt).mgt = s.mgt :=
  by simp [State.countEvent, ite_mgt]
@[simp] theorem State.countAt_cores (s : State) (valOff sel n : Nat) : (s.countAt valOff sel n).cores = s.cores := by simp [State.countAt, ite_cores]
@[simp] theorem State.countEvent_cores (s : State) (kind unit event n queue fmt : Nat) : (s.countEvent kind unit event n queue fmt).cores = s.cores :=
  by simp [State.countEvent, ite_cores]
@[simp] theorem State.emitRec_nwt (s : State) (source : Nat) (r : TrcRec) : (s.emitRec source r).nwt = s.nwt := by simp [State.emitRec, ite_nwt]
@[simp] theorem State.trace_nwt (s : State) (srcBit kind domain unit queue layer operator aux detail : Nat) : (s.trace srcBit kind domain unit queue layer operator aux detail).nwt = s.nwt :=
  by simp [State.trace]
@[simp] theorem State.emitRec_fe (s : State) (source : Nat) (r : TrcRec) : (s.emitRec source r).fe = s.fe := by simp [State.emitRec, ite_fe]
@[simp] theorem State.trace_fe (s : State) (srcBit kind domain unit queue layer operator aux detail : Nat) : (s.trace srcBit kind domain unit queue layer operator aux detail).fe = s.fe :=
  by simp [State.trace]
@[simp] theorem State.emitRec_mem (s : State) (source : Nat) (r : TrcRec) : (s.emitRec source r).mem = s.mem := by simp [State.emitRec, ite_mem]
@[simp] theorem State.trace_mem (s : State) (srcBit kind domain unit queue layer operator aux detail : Nat) : (s.trace srcBit kind domain unit queue layer operator aux detail).mem = s.mem :=
  by simp [State.trace]
@[simp] theorem State.modTrc_obs_fns (s : State) (b : Nat) (g : Trc → Trc) : (s.modTrc b g).obs.fns = s.obs.fns := rfl
@[simp] theorem State.emitRec_obs_fns (s : State) (source : Nat) (r : TrcRec) : (s.emitRec source r).obs.fns = s.obs.fns := by simp [State.emitRec, ite_obs_fns]
@[simp] theorem State.trace_obs_fns (s : State) (srcBit kind domain unit queue layer operator aux detail : Nat) : (s.trace srcBit kind domain unit queue layer operator aux detail).obs.fns = s.obs.fns :=
  by simp [State.trace]
@[simp] theorem State.emitRec_mgt (s : State) (source : Nat) (r : TrcRec) : (s.emitRec source r).mgt = s.mgt := by simp [State.emitRec, ite_mgt]
@[simp] theorem State.trace_mgt (s : State) (srcBit kind domain unit queue layer operator aux detail : Nat) : (s.trace srcBit kind domain unit queue layer operator aux detail).mgt = s.mgt :=
  by simp [State.trace]
@[simp] theorem State.emitRec_cores (s : State) (source : Nat) (r : TrcRec) : (s.emitRec source r).cores = s.cores := by simp [State.emitRec, ite_cores]
@[simp] theorem State.trace_cores (s : State) (srcBit kind domain unit queue layer operator aux detail : Nat) : (s.trace srcBit kind domain unit queue layer operator aux detail).cores = s.cores :=
  by simp [State.trace]
@[simp] theorem State.pushNwt_nwt_queues (s : State) (rec : Nat) : (s.pushNwt rec).nwt.queues = s.nwt.queues := by simp [State.pushNwt, ite_nwt_queues]
@[simp] theorem State.pushNwt_nwt_descs (s : State) (rec : Nat) : (s.pushNwt rec).nwt.descs = s.nwt.descs := by simp [State.pushNwt, ite_nwt_descs]
@[simp] theorem State.pushNwt_fe (s : State) (rec : Nat) : (s.pushNwt rec).fe = s.fe := by simp [State.pushNwt, ite_fe]
@[simp] theorem State.pushNwt_mem (s : State) (rec : Nat) : (s.pushNwt rec).mem = s.mem := by simp [State.pushNwt, ite_mem]
@[simp] theorem State.pushNwt_obs (s : State) (rec : Nat) : (s.pushNwt rec).obs = s.obs := by simp [State.pushNwt, ite_obs]
@[simp] theorem State.pushNwt_mgt_num (s : State) (rec : Nat) : (s.pushNwt rec).mgt.num = s.mgt.num := by simp [State.pushNwt, ite_mgt_num]
@[simp] theorem State.pushNwt_cores (s : State) (rec : Nat) : (s.pushNwt rec).cores = s.cores := by simp [State.pushNwt, ite_cores]
@[simp] theorem State.countKill_fe (s : State) (code : Nat) : (s.countKill code).fe = s.fe := by simp [State.countKill, ite_fe]
@[simp] theorem State.countKill_nwt (s : State) (code : Nat) : (s.countKill code).nwt = s.nwt := by simp [State.countKill, ite_nwt]
@[simp] theorem State.countKill_mem (s : State) (code : Nat) : (s.countKill code).mem = s.mem := by simp [State.countKill, ite_mem]
@[simp] theorem State.traceFe_fe (s : State) (kind queue layer operator aux detail : Nat) : (s.traceFe kind queue layer operator aux detail).fe = s.fe :=
  by simp [State.traceFe]
@[simp] theorem State.traceFe_nwt (s : State) (kind queue layer operator aux detail : Nat) : (s.traceFe kind queue layer operator aux detail).nwt = s.nwt :=
  by simp [State.traceFe]
@[simp] theorem State.traceFe_mem (s : State) (kind queue layer operator aux detail : Nat) : (s.traceFe kind queue layer operator aux detail).mem = s.mem :=
  by simp [State.traceFe]
@[simp] theorem State.traceFe_cores (s : State) (kind queue layer operator aux detail : Nat) : (s.traceFe kind queue layer operator aux detail).cores = s.cores :=
  by simp [State.traceFe]
@[simp] theorem State.newtMoved_fe (s : State) (queue : Nat) : (s.newtMoved queue).fe = s.fe := rfl
@[simp] theorem State.newtMoved_mem (s : State) (queue : Nat) : (s.newtMoved queue).mem = s.mem := rfl
@[simp] theorem State.newtMoved_obs (s : State) (queue : Nat) : (s.newtMoved queue).obs = s.obs := rfl
@[simp] theorem State.newtMoved_nwt_descs (s : State) (queue : Nat) : (s.newtMoved queue).nwt.descs = s.nwt.descs := rfl
@[simp] theorem State.newtMoved_mgt (s : State) (queue : Nat) : (s.newtMoved queue).mgt = s.mgt := rfl
@[simp] theorem State.dropShare_fe (s : State) (newt desc : Nat) : (s.dropShare newt desc).fe = s.fe := by simp [State.dropShare, ite_fe]
@[simp] theorem State.dropShare_mem (s : State) (newt desc : Nat) : (s.dropShare newt desc).mem = s.mem := by simp [State.dropShare, ite_mem]
@[simp] theorem State.dropShare_obs (s : State) (newt desc : Nat) : (s.dropShare newt desc).obs = s.obs := by simp [State.dropShare, ite_obs]
@[simp] theorem State.dropShare_nwt_descs (s : State) (newt desc : Nat) : (s.dropShare newt desc).nwt.descs = s.nwt.descs := by simp [State.dropShare, ite_nwt_descs]
@[simp] theorem State.dropShare_mgt (s : State) (newt desc : Nat) : (s.dropShare newt desc).mgt = s.mgt := by simp [State.dropShare, ite_mgt]
@[simp] theorem State.freeVal_fe (s : State) (w : Nat) : (s.freeVal w).2.fe = s.fe := rfl
@[simp] theorem State.modDesc_fe (s : State) (d : Nat) (g : Desc → Desc) : (s.modDesc d g).fe = s.fe := rfl
@[simp] theorem State.closeShare_fe (s : State) (newt : Nat) (h : Share) (d : Desc) (status : Nat) : (s.closeShare newt h d status).fe = s.fe :=
  by simp [State.closeShare]
@[simp] theorem State.setShares_nwt_descs (s : State) (g : List Share → List Share) : (s.setShares g).nwt.descs = s.nwt.descs := rfl
@[simp] theorem State.setShares_fe (s : State) (g : List Share → List Share) : (s.setShares g).fe = s.fe := rfl
@[simp] theorem State.setShares_mem (s : State) (g : List Share → List Share) : (s.setShares g).mem = s.mem := rfl
@[simp] theorem State.stopShares_nwt_descs (s : State) (p : Nat → Bool) : (s.stopShares p).nwt.descs = s.nwt.descs := rfl
@[simp] theorem State.kill_nwt_descs (s : State) (q code : Nat) (site : Site) (inFlight : optParam Bool false) : (s.kill q code site inFlight).nwt.descs = s.nwt.descs :=
  by simp [State.kill, ite_nwt_descs]
@[simp] theorem State.stopShares_mem (s : State) (p : Nat → Bool) : (s.stopShares p).mem = s.mem := rfl
@[simp] theorem State.kill_mem (s : State) (q code : Nat) (site : Site) (inFlight : optParam Bool false) : (s.kill q code site inFlight).mem = s.mem :=
  by simp [State.kill, ite_mem]

end Sys2Proof.Machine
end

section
/-! The end of a share and of a descriptor (R91, R93, R94). -/

namespace Sys2Proof.Machine

/-! A share is gone from its newt's queue. -/

/-- No entry of a newt's queue holds a share of a descriptor. -/
def State.noShare (s : State) (newt desc : Nat) : Prop := ∀ e ∈ s.nwt.queues, e.1 = newt → ∀ h ∈ e.2, h.desc ≠ desc

theorem State.share_of_noShare {s : State} {newt desc : Nat} (h : s.noShare newt desc) : s.share newt desc = none := by
  unfold State.share SMap.getD
  cases hq : s.nwt.queues.get? newt with
  | none => rfl
  | some l => simpa using h _ (SMap.mem_of_get? hq) rfl

theorem State.noShare_congr {s t : State} {newt desc : Nat} (h : t.nwt.queues = s.nwt.queues) (hs : s.noShare newt desc) : t.noShare newt desc := by
  unfold State.noShare
  rwa [h]

/-- Entries that come from entries of the same key, with shares of the same descriptors, keep a share gone. -/
theorem State.noShare_of_sub {s t : State} {newt desc : Nat} (hs : s.noShare newt desc)
    (h : ∀ e ∈ t.nwt.queues, ∃ l, (e.1, l) ∈ s.nwt.queues ∧ ∀ x ∈ e.2, ∃ y ∈ l, y.desc = x.desc) : t.noShare newt desc := by
  intro e he hk x hx
  obtain ⟨l, hl, hsub⟩ := h e he
  obtain ⟨y, hy, hd⟩ := hsub x hx
  exact hd ▸ hs (e.1, l) hl hk y hy

theorem State.mem_dropShare_queues {s : State} {newt desc : Nat} {e : Nat × List Share} (h : e ∈ (s.dropShare newt desc).nwt.queues) :
    e ∈ s.nwt.queues.mapVals (fun k l => if k = newt then l.filter (fun h => !decide (h.desc = desc)) else l) := by
  unfold State.dropShare at h
  dsimp only at h
  split at h
  · exact SMap.mem_of_mem_del h
  · exact h

theorem State.noShare_dropShare (s : State) (newt desc : Nat) : (s.dropShare newt desc).noShare newt desc := by
  intro e he hk x hx
  obtain ⟨l, -, hl⟩ := SMap.mem_mapVals (State.mem_dropShare_queues he)
  rw [hl, if_pos hk] at hx
  simpa using (List.mem_filter.mp hx).2

theorem State.noShare_dropShare_of {s : State} {newt desc : Nat} (k d : Nat) (hs : s.noShare newt desc) : (s.dropShare k d).noShare newt desc :=
  State.noShare_of_sub hs fun e he => by
    obtain ⟨l, hmem, hl⟩ := SMap.mem_mapVals (State.mem_dropShare_queues he)
    refine ⟨l, hmem, fun x hx => ⟨x, ?_, rfl⟩⟩
    rw [hl] at hx
    split at hx
    · exact (List.mem_filter.mp hx).1
    · exact hx

theorem State.noShare_newtMoved_of {s : State} {newt desc : Nat} (q : Nat) (hs : s.noShare newt desc) : (s.newtMoved q).noShare newt desc :=
  State.noShare_of_sub hs fun e he => by
    have he' : e ∈ s.nwt.queues.mapVals (fun k l => if s.serverOf k = s.serverOf q then l.map (fun h => { h with progressAt := s.time.mono }) else l) := he
    obtain ⟨l, hmem, hl⟩ := SMap.mem_mapVals he'
    refine ⟨l, hmem, fun x hx => ?_⟩
    rw [hl] at hx
    split at hx
    · obtain ⟨y, hy, rfl⟩ := List.mem_map.mp hx
      exact ⟨y, hy, rfl⟩
    · exact ⟨x, hx, rfl⟩

theorem State.noShare_stopShares_of {s : State} {newt desc : Nat} (p : Nat → Bool) (hs : s.noShare newt desc) : (s.stopShares p).noShare newt desc :=
  State.noShare_of_sub hs fun e he => by
    obtain ⟨l, hmem, hl⟩ := SMap.mem_mapVals (List.mem_filter.mp he).1
    refine ⟨l, hmem, fun x hx => ?_⟩
    rw [hl] at hx
    obtain ⟨y, hy, rfl⟩ := List.mem_map.mp hx
    refine ⟨y, (List.mem_filter.mp hy).1, ?_⟩
    split <;> rfl

/-! The end of a share. -/

/-- The descriptor's entry at the end of a share. -/
def Desc.closed (d : Desc) (newt n t : Nat) : Desc := { d with doneNewts := setInsert newt d.doneNewts, steps := (d.steps + n) % 2 ^ 64, endAt := t }

/-- The descriptor has its share closed, with a free number of steps (R93). -/
def State.closeDesc (s : State) (newt : Nat) (h : Share) : State :=
  (s.freeVal 32).2.modDesc h.desc (fun d => d.closed newt (s.freeVal 32).1 s.time.gtb)

theorem State.closeDesc_mem (s : State) (newt : Nat) (h : Share) : (s.closeDesc newt h).mem = s.mem := rfl
theorem State.closeDesc_fe (s : State) (newt : Nat) (h : Share) : (s.closeDesc newt h).fe = s.fe := rfl
theorem State.closeDesc_obs (s : State) (newt : Nat) (h : Share) : (s.closeDesc newt h).obs = s.obs := rfl
theorem State.closeDesc_queues (s : State) (newt : Nat) (h : Share) : (s.closeDesc newt h).nwt.queues = s.nwt.queues := rfl

/-- The state in which the share that ends leaves its queue. -/
def State.closing (s : State) (newt : Nat) (h : Share) (d : Desc) (status : Nat) : State :=
  (((s.closeDesc newt h).countEvent 2 newt 0x23 (s.freeVal 32).1 d.queue).addQty d.queue 6 (s.time.mono - h.startAt) d.layer d.operator).trace 2 0x06 (32 + newt / 32)
    newt d.queue d.layer d.operator status (d.bytesRead % 2 ^ 64)

theorem State.closeShare_eq (s : State) (newt : Nat) (h : Share) (d : Desc) (status : Nat) :
    s.closeShare newt h d status = ((s.closing newt h d status).dropShare newt h.desc).newtMoved newt := rfl

theorem State.closing_queues (s : State) (newt : Nat) (h : Share) (d : Desc) (status : Nat) : (s.closing newt h d status).nwt.queues = s.nwt.queues := by
  rw [State.closing, State.trace_nwt, State.addQty_nwt_queues, State.countEvent_nwt, State.closeDesc_queues]

theorem State.noShare_closeShare (s : State) (newt : Nat) (h : Share) (d : Desc) (status : Nat) : (s.closeShare newt h d status).noShare newt h.desc := by
  rw [State.closeShare_eq]
  exact State.noShare_newtMoved_of _ (State.noShare_dropShare _ _ _)

theorem State.noShare_closeShare_of {s : State} {newt desc : Nat} (n : Nat) (h : Share) (d : Desc) (status : Nat) (hs : s.noShare newt desc) :
    (s.closeShare n h d status).noShare newt desc := by
  rw [State.closeShare_eq]
  apply State.noShare_newtMoved_of
  apply State.noShare_dropShare_of
  exact State.noShare_congr (State.closing_queues s n h d status) hs

theorem State.closeShare_descs (s : State) (newt : Nat) (h : Share) (d : Desc) (status : Nat) :
    (s.closeShare newt h d status).nwt.descs = s.nwt.descs.mapVals (fun k x => if k = h.desc then x.closed newt (s.freeVal 32).1 s.time.gtb else x) := by
  rw [State.closeShare_eq, State.newtMoved_nwt_descs, State.dropShare_nwt_descs, State.closing, State.trace_nwt, State.addQty_nwt_descs, State.countEvent_nwt]
  rfl

/-- A share that ends finds the accumulator that it adds to, or makes it. -/
theorem State.closeShare_ready {s : State} (newt : Nat) (h : Share) {d : Desc} (status : Nat) (hs : s.accumReady (fnOfQueue d.queue) d.layer d.operator) :
    (s.closeShare newt h d status).mem = s.mem ∧ (s.closeShare newt h d status).accumReady (fnOfQueue d.queue) d.layer d.operator := by
  have hcount : State.accumReady ((s.closeDesc newt h).countEvent 2 newt 0x23 (s.freeVal 32).1 d.queue) (fnOfQueue d.queue) d.layer d.operator :=
    State.accumReady_congr (by rw [State.countEvent_obs_fns, State.closeDesc_obs]) hs
  have hready := State.addQty_ready 6 (s.time.mono - h.startAt) hcount
  constructor
  · rw [State.closeShare_eq, State.newtMoved_mem, State.dropShare_mem, State.closing, State.trace_mem, State.addQty_mem_of_ready _ _ hcount,
      State.countEvent_mem, State.closeDesc_mem]
  · refine State.accumReady_congr ?_ hready
    rw [State.closeShare_eq, State.newtMoved_obs, State.dropShare_obs, State.closing, State.trace_obs_fns]

/-! Complete. -/

/-- A share whose operations are done. -/
theorem newtShareComplete_done {s : State} {newt desc : Nat} {h : Share} {d : Desc} (hsh : s.share newt desc = some h) (hd : s.nwt.descs.get? desc = some d)
    (hst : h.started = true) (hf : h.fault = 0) (hstop : h.stop = false) (hops : d.opCount ≤ h.nextOp) :
    ∃ n, newtShareComplete newt desc s = ((s.countEvent 2 newt 0x20 1 d.queue).closeShare newt h d 0) ∨
      newtShareComplete newt desc s = ((s.countEvent 2 newt 0x20 1 d.queue).closeShare newt h d 0).addQty d.queue 4 n d.layer d.operator := by
  unfold newtShareComplete
  simp only [hsh, hd]
  rw [if_neg (by simp [hst, hf]), if_neg (by simp [hstop]), if_neg (by omega)]
  split
  · split
    · exact ⟨_, .inr rfl⟩
    · exact ⟨0, .inl rfl⟩
  · exact ⟨0, .inl rfl⟩

/-! Fault (R94). -/

/-- How one of the other shares of a descriptor that faulted ends. -/
def State.stopOther (desc : Nat) (d : Desc) (s : State) (n : Nat) : State :=
  let x := s.share n desc
  let s := { s with nwt.waiting := s.nwt.waiting.filter (fun y => !decide (y.desc = desc ∧ y.owner = n)) }
  let s := match x with
    | some y => if y.started then s.closeShare n y d 0x16 else (s.dropShare n desc).modDesc desc (fun d => { d with doneNewts := setInsert n d.doneNewts })
    | none => s.modDesc desc (fun d => { d with doneNewts := setInsert n d.doneNewts })
  s.pushNwt (nwtRec 0x16 n d.queue (match x with
    | some y => (d.op y.nextOp).opcode
    | none => (d.op 0).opcode) (match x with
    | some y => y.nextOp
    | none => 0) d.layer)

/-- The share that faulted has ended, and its descriptor has its status. -/
def State.faultedShare (s : State) (newt desc : Nat) (h : Share) (d : Desc) (status : Nat) : State :=
  ((s.closeShare newt h d status).pushNwt (nwtRec status (d.reporter.getD newt) d.queue (d.op h.nextOp).opcode h.nextOp d.layer)).modDesc desc
    (fun e => if e.status = 0 then { e with status := status, statusNewt := d.reporter.getD newt, statusOp := h.nextOp } else e)

theorem newtShareFault_of_fault {s : State} {newt desc st : Nat} {h : Share} {d : Desc} (hsh : s.share newt desc = some h) (hd : s.nwt.descs.get? desc = some d)
    (hf : h.fault = st) (hst : st ≠ 0) :
    newtShareFault newt desc st s =
      ((d.newts.filter (fun n => !decide (n = newt) && !d.doneNewts.contains n)).foldl (State.stopOther desc d) (s.faultedShare newt desc h d st)).killAt d.queue
        (if st = 0x15 then 0x0D else 0x0C) d.node := by
  unfold newtShareFault
  simp only [hsh, hd]
  rw [if_neg (by simp [hf, hst])]
  rfl

/-- What holds of a descriptor from its fault on: the share is gone, the status stands, the front end waits for the kill, and nothing has been flushed where room was. -/
structure Faulted (s0 : State) (newt desc st by0 : Nat) (d : Desc) (s : State) : Prop where
  gone : s.noShare newt desc
  entry : ∃ e, s.nwt.descs.get? desc = some e ∧ e.status = st ∧ e.statusNewt = by0
  fe : s.fe = s0.fe
  mem : s0.accumCount < 4096 → s.mem = s0.mem ∧ s.accumReady (fnOfQueue d.queue) d.layer d.operator

/-- A descriptor's status and the newt that it names stand. -/
def State.statusKept (s t : State) : Prop :=
  ∀ k e, s.nwt.descs.get? k = some e → ∃ e', t.nwt.descs.get? k = some e' ∧ e'.status = e.status ∧ e'.statusNewt = e.statusNewt

theorem State.statusKept_modDesc (s : State) (k : Nat) {g : Desc → Desc} (hg : ∀ e, (g e).status = e.status ∧ (g e).statusNewt = e.statusNewt) :
    s.statusKept (s.modDesc k g) := by
  intro j e he
  have hget : (s.modDesc k g).nwt.descs.get? j = some (if j = k then g e else e) := by
    rw [State.modDesc, SMap.get?_mapVals, he]
    rfl
  refine ⟨_, hget, ?_⟩
  split
  · exact hg e
  · exact ⟨rfl, rfl⟩

theorem State.statusKept_closeShare (s : State) (n : Nat) (y : Share) (d : Desc) (st : Nat) : s.statusKept (s.closeShare n y d st) := by
  intro j e he
  rw [State.closeShare_descs]
  refine ⟨_, (SMap.get?_mapVals _ _ _).trans (congrArg _ he), ?_⟩
  dsimp only
  split <;> exact ⟨rfl, rfl⟩

theorem Faulted.pushNwt {s0 s : State} {newt desc st by0 : Nat} {d : Desc} (h : Faulted s0 newt desc st by0 d s) (r : Nat) :
    Faulted s0 newt desc st by0 d (s.pushNwt r) where
  gone := State.noShare_congr (by simp) h.gone
  entry := by simpa using h.entry
  fe := by simpa using h.fe
  mem hlt := ⟨by simpa using (h.mem hlt).1, State.accumReady_congr (by simp) (h.mem hlt).2⟩

theorem Faulted.waiting {s0 s : State} {newt desc st by0 : Nat} {d : Desc} (h : Faulted s0 newt desc st by0 d s) (l : List Share) :
    Faulted s0 newt desc st by0 d { s with nwt.waiting := l } where
  gone := h.gone
  entry := h.entry
  fe := h.fe
  mem := h.mem

theorem Faulted.modDesc {s0 s : State} {newt desc st by0 : Nat} {d : Desc} (h : Faulted s0 newt desc st by0 d s) (k : Nat) {g : Desc → Desc}
    (hg : ∀ e, (g e).status = e.status ∧ (g e).statusNewt = e.statusNewt) : Faulted s0 newt desc st by0 d (s.modDesc k g) where
  gone := h.gone
  entry := by
    obtain ⟨e, he, hst, hby⟩ := h.entry
    obtain ⟨e', he', hst', hby'⟩ := s.statusKept_modDesc k hg desc e he
    exact ⟨e', he', hst'.trans hst, hby'.trans hby⟩
  fe := h.fe
  mem := h.mem

theorem Faulted.dropShare {s0 s : State} {newt desc st by0 : Nat} {d : Desc} (h : Faulted s0 newt desc st by0 d s) (n k : Nat) :
    Faulted s0 newt desc st by0 d (s.dropShare n k) where
  gone := State.noShare_dropShare_of _ _ h.gone
  entry := by simpa using h.entry
  fe := by simpa using h.fe
  mem hlt := ⟨by simpa using (h.mem hlt).1, State.accumReady_congr (by simp) (h.mem hlt).2⟩

theorem Faulted.closeShare {s0 s : State} {newt desc st by0 : Nat} {d : Desc} (h : Faulted s0 newt desc st by0 d s) (n : Nat) (y : Share) (k : Nat) :
    Faulted s0 newt desc st by0 d (s.closeShare n y d k) where
  gone := State.noShare_closeShare_of n y d k h.gone
  entry := by
    obtain ⟨e, he, hst, hby⟩ := h.entry
    obtain ⟨e', he', hst', hby'⟩ := s.statusKept_closeShare n y d k desc e he
    exact ⟨e', he', hst'.trans hst, hby'.trans hby⟩
  fe := by simpa using h.fe
  mem hlt := by
    obtain ⟨hmem, hready⟩ := h.mem hlt
    obtain ⟨hmem', hready'⟩ := State.closeShare_ready n y k hready
    exact ⟨hmem'.trans hmem, hready'⟩

theorem Faulted.stopOther {s0 s : State} {newt desc st by0 : Nat} {d : Desc} (h : Faulted s0 newt desc st by0 d s) (n : Nat) :
    Faulted s0 newt desc st by0 d (s.stopOther desc d n) := by
  unfold State.stopOther
  refine Faulted.pushNwt ?_ _
  split
  · split
    · exact (h.waiting _).closeShare _ _ _
    · exact ((h.waiting _).dropShare _ _).modDesc _ fun e => ⟨rfl, rfl⟩
  · exact (h.waiting _).modDesc _ fun e => ⟨rfl, rfl⟩

theorem Faulted.foldl_stopOther {s0 s : State} {newt desc st by0 : Nat} {d : Desc} (h : Faulted s0 newt desc st by0 d s) (l : List Nat) :
    Faulted s0 newt desc st by0 d (l.foldl (State.stopOther desc d) s) := by
  induction l generalizing s with
  | nil => exact h
  | cons n l ih => exact ih (h.stopOther n)

theorem State.faultedShare_queues (s : State) (newt desc : Nat) (h : Share) (d : Desc) (st : Nat) :
    (s.faultedShare newt desc h d st).nwt.queues = (s.closeShare newt h d st).nwt.queues := by
  simp [State.faultedShare, State.modDesc]

theorem State.faultedShare_get? {s : State} {newt desc st : Nat} {h : Share} {d : Desc} (hd : s.nwt.descs.get? desc = some d) (hdesc : h.desc = desc) :
    (s.faultedShare newt desc h d st).nwt.descs.get? desc =
      some (if (d.closed newt (s.freeVal 32).1 s.time.gtb).status = 0 then
        { d.closed newt (s.freeVal 32).1 s.time.gtb with status := st, statusNewt := d.reporter.getD newt, statusOp := h.nextOp }
      else d.closed newt (s.freeVal 32).1 s.time.gtb) := by
  rw [State.faultedShare, State.modDesc, SMap.get?_mapVals, State.pushNwt_nwt_descs, State.closeShare_descs, SMap.get?_mapVals, hd]
  simp [hdesc]

theorem faulted_faultedShare {s : State} {newt desc st : Nat} {h : Share} {d : Desc} (hd : s.nwt.descs.get? desc = some d) (hdesc : h.desc = desc)
    (hstatus : d.status = 0) : Faulted s newt desc st (d.reporter.getD newt) d (s.faultedShare newt desc h d st) where
  gone := by
    refine State.noShare_congr (State.faultedShare_queues _ _ _ _ _ _) ?_
    rw [← hdesc]
    exact s.noShare_closeShare newt h d st
  entry := by
    refine ⟨_, State.faultedShare_get? hd hdesc, ?_⟩
    simp [Desc.closed, hstatus]
  fe := by simp [State.faultedShare, State.modDesc]
  mem hlt := by
    obtain ⟨hmem, hready⟩ := State.closeShare_ready newt h st (s := s) (d := d) (.inl hlt)
    exact ⟨by simp [State.faultedShare, State.modDesc, hmem], State.accumReady_congr (by simp [State.faultedShare, State.modDesc]) hready⟩

theorem State.stopShares_fe (s : State) (p : Nat → Bool) : (s.stopShares p).fe = s.fe := rfl

/-- A kill of a queue that runs takes it to KILLING with the code. -/
theorem State.kill_of_running {s : State} {q code : Nat} {site : Site} (b : Bool) (h : (s.q q).state = .running) :
    ((s.kill q code site b).q q).state = .killing ∧ ((s.kill q code site b).q q).killCode = code := by
  unfold State.kill
  dsimp only
  rw [if_pos (by rw [h]; rfl)]
  have hq (t : State) (p : Nat → Bool) (a b c d e f : Nat) : ((((t.countKill code).stopShares p).traceFe a b c d e f).q q) = t.q q := by
    simp [State.q, State.stopShares_fe]
  rw [hq, State.modQ_q_self]
  exact ⟨rfl, rfl⟩

theorem State.noShare_kill_of {s : State} {newt desc : Nat} (q code : Nat) (site : Site) (b : Bool) (h : s.noShare newt desc) : (s.kill q code site b).noShare newt desc := by
  unfold State.kill
  dsimp only
  split
  · exact State.noShare_congr (congrArg Nwt.queues (State.traceFe_nwt _ _ _ _ _ _ _))
      (State.noShare_stopShares_of _ (State.noShare_congr (s := s) (by simp) h))
  · split
    · exact h
    · exact h

/-- Settles O15: the end of a share, of a share that faults, and of a descriptor are each their branch. -/
theorem newtCompletion : Obligations.NewtCompletion := by
  unfold Obligations.NewtCompletion
  refine ⟨fun s newt desc h d hsh hd hdesc hst hf hstop hops hgo => ?_, fun s newt desc st h d hsh hd hdesc hf hst hstatus hq => ?_,
    fun s u desc d hd hdone hstatus hq hg hgo => ?_, fun s desc d hd hstatus hq hg hgo => ?_⟩
  · obtain ⟨n, hn⟩ := newtShareComplete_done hsh hd hst hf hstop hops
    have hclosed := (s.countEvent 2 newt 0x20 1 d.queue).noShare_closeShare newt h d 0
    rw [hdesc] at hclosed
    have hget : ((s.countEvent 2 newt 0x20 1 d.queue).closeShare newt h d 0).nwt.descs.get? desc = some (d.closed newt ((s.countEvent 2 newt 0x20 1 d.queue).freeVal 32).1
        (s.countEvent 2 newt 0x20 1 d.queue).time.gtb) := by
      rw [State.closeShare_descs, SMap.get?_mapVals, State.countEvent_nwt, hd]
      simp [hdesc]
    have hmem (hlt : s.accumCount < 4096) := State.closeShare_ready (s := s.countEvent 2 newt 0x20 1 d.queue) newt h (d := d) 0
      (State.accumReady_congr (s := s) (by simp) (.inl hlt))
    refine ⟨_, d.closed newt ((s.countEvent 2 newt 0x20 1 d.queue).freeVal 32).1 (s.countEvent 2 newt 0x20 1 d.queue).time.gtb,
      congrArg Host.Outcome.next (State.unit_of_goes hgo), ?_, ?_, mem_setInsert_self _ _, rfl, fun hlt => ⟨?_, ?_⟩⟩
    · refine State.share_of_noShare (State.noShare_congr (s := (s.countEvent 2 newt 0x20 1 d.queue).closeShare newt h d 0) ?_ hclosed)
      rcases hn with hn | hn <;> simp [hn]
    · rcases hn with hn | hn <;> simp [hn, hget]
    · rcases hn with hn | hn
      · simp [hn, (hmem hlt).1]
      · simp [hn, State.addQty_mem_of_ready _ _ (hmem hlt).2, (hmem hlt).1]
    · rcases hn with hn | hn <;> simp [hn]
  · have hend := (faulted_faultedShare (st := st) (newt := newt) hd hdesc hstatus).foldl_stopOther (d.newts.filter (fun n => !decide (n = newt) && !d.doneNewts.contains n))
    obtain ⟨e, he, hes, hen⟩ := hend.entry
    refine ⟨_, e, congrArg Host.Outcome.next (newtShareFault_of_fault hsh hd hf hst), State.share_of_noShare (State.noShare_kill_of _ _ _ _ hend.gone), ?_, hes, hen, ?_⟩
    · simpa [State.killAt] using he
    · have hrun : (State.q ((d.newts.filter (fun n => !decide (n = newt) && !d.doneNewts.contains n)).foldl (State.stopOther desc d) (s.faultedShare newt desc h d st))
          d.queue).state = .running := by
        rw [State.q, hend.fe]
        exact hq
      obtain ⟨hstate, hcode⟩ := State.kill_of_running (code := if st = 0x15 then 0x0D else 0x0C) (site := State.siteOf _ d.queue d.node) false hrun
      exact ⟨hstate, hcode, fun hlt => (State.kill_mem _ _ _ _ _).trans (hend.mem hlt).1⟩
  · have hnot : ¬((s.fn (fnOfQueue d.queue)).gate = .resetting ∨ (s.fn (fnOfQueue d.queue)).gate = .disabled ∨
        ((s.fn (fnOfQueue d.queue)).gate = .draining ∧ (s.fn (fnOfQueue d.queue)).pointReached) ∨ (s.q d.queue).state = .resetting ∨ (s.q d.queue).state = .disabled) := by
      simp [hg, hq]
    have hall : d.newts.all d.doneNewts.contains = true := by simpa using hdone
    constructor
    · intro hc
      refine congrArg Host.Outcome.next ((State.unit_of_goes hgo).trans (congrArg (fun t => State.unitDone t 4 desc) ?_))
      unfold newtDescriptorComplete
      simp only [hd, decide_eq_false hnot]
      rw [if_neg (by simp [hall, hq]), if_neg (by simp)]
      simp [hstatus, hc]
    · intro hc hw
      refine congrArg Host.Outcome.next ((State.unit_of_goes hgo).trans (congrArg (fun t => State.unitDone t 4 desc) ?_))
      unfold newtDescriptorComplete
      simp only [hd, decide_eq_false hnot]
      rw [if_neg (by simp [hall, hq]), if_neg (by simp), if_neg hc, hw]
      simp [hstatus]
  · have hnot : ¬((s.fn (fnOfQueue d.queue)).gate = .resetting ∨ (s.fn (fnOfQueue d.queue)).gate = .disabled ∨
        ((s.fn (fnOfQueue d.queue)).gate = .draining ∧ (s.fn (fnOfQueue d.queue)).pointReached) ∨ (s.q d.queue).state = .resetting ∨ (s.q d.queue).state = .disabled) := by
      rcases hq with hq | hq <;> simp [hg, hq]
    refine congrArg Host.Outcome.next ((State.unit_of_goes hgo).trans (congrArg (fun t => State.unitDone t 4 desc) ?_))
    unfold newtDescriptorComplete
    simp only [hd, decide_eq_false hnot]
    exact if_pos (.inr ⟨hstatus, by simp, by rcases hq with hq | hq <;> simp [hq]⟩)

end Sys2Proof.Machine
end

section
/-! Integer, shift and field instructions (R131, Tables 6.10 and 6.11): the model's integers as bit vectors, and each instruction's value. -/

namespace Sys2Proof.Machine

/-! Integers as bit vectors. -/

theorem wrapInt_eq_ofInt (n : Nat) (x : Int) : wrapInt n x = (BitVec.ofInt n x).toNat := by
  rw [BitVec.toNat_ofInt, wrapInt]

/-- The signed value of the low bits of a number. -/
theorem signExt_eq_toInt (n x : Nat) : signExt n x = (BitVec.ofNat n x).toInt := by
  rw [BitVec.toInt_eq_toNat_cond, BitVec.toNat_ofNat, signExt]
  rcases Nat.eq_zero_or_pos n with rfl | hn
  · simp [Nat.mod_one]
  · obtain ⟨m, rfl⟩ : ∃ m, n = m + 1 := ⟨n - 1, by omega⟩
    have hp : 2 ^ (m + 1) = 2 * 2 ^ m := Nat.pow_succ'
    by_cases h : 2 ^ m ≤ x % 2 ^ (m + 1)
    · rw [if_pos ⟨by omega, h⟩, if_neg (by omega)]
    · rw [if_neg (fun hc => h hc.2), if_pos (by omega)]

theorem intVal_true (n x : Nat) : intVal n true x = (BitVec.ofNat n x).toInt := signExt_eq_toInt n x

theorem intVal_false {n x : Nat} (h : x < 2 ^ n) : intVal n false x = (x : Int) := by
  simp [intVal, Nat.mod_eq_of_lt h]

/-- Signed or not, a value is its number modulo the width. -/
theorem ofInt_intVal (n : Nat) (sg : Bool) (x : Nat) : BitVec.ofInt n (intVal n sg x) = BitVec.ofNat n x := by
  cases sg with
  | true => rw [intVal_true, BitVec.ofInt_toInt]
  | false =>
    apply BitVec.eq_of_toNat_eq
    simp only [intVal, Bool.false_eq_true, if_false, BitVec.toNat_ofInt, BitVec.toNat_ofNat, ← Int.natCast_mod, Int.toNat_natCast, Nat.mod_mod]

theorem wrapInt_add (n : Nat) (sg : Bool) (a b : Nat) : wrapInt n (intVal n sg a + intVal n sg b) = (a + b) % 2 ^ n := by
  rw [wrapInt_eq_ofInt, BitVec.ofInt_add, ofInt_intVal, ofInt_intVal, BitVec.toNat_add, BitVec.toNat_ofNat, BitVec.toNat_ofNat, ← Nat.add_mod]

theorem wrapInt_sub {n b : Nat} (sg : Bool) (a : Nat) (hb : b < 2 ^ n) : wrapInt n (intVal n sg a - intVal n sg b) = (a + 2 ^ n - b) % 2 ^ n := by
  rw [wrapInt_eq_ofInt, Int.sub_eq_add_neg, BitVec.ofInt_add, BitVec.ofInt_neg, ofInt_intVal, ofInt_intVal, BitVec.toNat_add, BitVec.toNat_neg,
    BitVec.toNat_ofNat, BitVec.toNat_ofNat, Nat.mod_eq_of_lt hb, ← Nat.add_mod]
  congr 1
  omega

/-- The high half of a product. -/
theorem wrapInt_mulhi_signed (n a b : Nat) :
    wrapInt n (intVal n true a * intVal n true b / (2 ^ n : Nat)) =
      (BitVec.ofInt (2 * n) ((BitVec.ofNat n a).toInt * (BitVec.ofNat n b).toInt)).toNat / 2 ^ n := by
  rw [intVal_true, intVal_true, wrapInt, BitVec.toNat_ofInt]
  generalize (BitVec.ofNat n a).toInt * (BitVec.ofNat n b).toInt = x
  have hp : (0 : Int) < (2 ^ n : Nat) := by positivity
  have hq : ((2 ^ (2 * n) : Nat) : Int) = (2 ^ n : Nat) * (2 ^ n : Nat) := by rw [Nat.two_mul, Nat.pow_add, Nat.cast_mul]
  have hdiv : x % ((2 ^ n : Nat) * (2 ^ n : Nat)) / (2 ^ n : Nat) = x / (2 ^ n : Nat) % (2 ^ n : Nat) := by
    rw [Int.emod_def x, mul_assoc, Int.sub_mul_ediv_left _ _ hp.ne', Int.emod_def, Int.ediv_ediv, if_neg (by omega), sub_zero]
  have hnn : 0 ≤ x % ((2 ^ n : Nat) * (2 ^ n : Nat)) := Int.emod_nonneg _ (by positivity)
  rw [hq, ← hdiv]
  obtain ⟨y, hy⟩ := Int.eq_ofNat_of_zero_le hnn
  rw [hy, ← Int.natCast_div, Int.toNat_natCast, Int.toNat_natCast]

theorem wrapInt_mulhi_unsigned {n a b : Nat} (ha : a < 2 ^ n) (hb : b < 2 ^ n) :
    wrapInt n (intVal n false a * intVal n false b / (2 ^ n : Nat)) = a * b / 2 ^ n := by
  have hlt : a * b / 2 ^ n < 2 ^ n := Nat.div_lt_of_lt_mul (Nat.mul_lt_mul'' ha hb)
  rw [intVal_false ha, intVal_false hb, wrapInt, ← Int.natCast_mul, ← Int.natCast_div, ← Int.natCast_mod, Int.toNat_natCast, Nat.mod_eq_of_lt hlt]

theorem natAnd_eq {n a b : Nat} (ha : a < 2 ^ n) (hb : b < 2 ^ n) : natAnd n a b = a &&& b := by
  simp [natAnd, Nat.mod_eq_of_lt ha, Nat.mod_eq_of_lt hb]

theorem natOr_eq {n a b : Nat} (ha : a < 2 ^ n) (hb : b < 2 ^ n) : natOr n a b = a ||| b := by
  simp [natOr, Nat.mod_eq_of_lt ha, Nat.mod_eq_of_lt hb]

theorem natXor_eq {n a b : Nat} (ha : a < 2 ^ n) (hb : b < 2 ^ n) : natXor n a b = a ^^^ b := by
  simp [natXor, Nat.mod_eq_of_lt ha, Nat.mod_eq_of_lt hb]

theorem shiftL_eq (n a k : Nat) : shiftL n a k = (a <<< (k % n)) % 2 ^ n := by
  rw [shiftL, Nat.shiftLeft_eq]

theorem shiftR_arith (n a k : Nat) : shiftR n true a k = ((BitVec.ofNat n a).sshiftRight (k % n)).toNat := by
  rw [shiftR, if_pos rfl, wrapInt_eq_ofInt, signExt_eq_toInt, ← Int.shiftRight_eq_div_pow, ← BitVec.toInt_sshiftRight, BitVec.ofInt_toInt]

theorem shiftR_logic {n a : Nat} (k : Nat) (ha : a < 2 ^ n) : shiftR n false a k = a >>> (k % n) := by
  rw [shiftR, if_neg (by simp), Nat.mod_eq_of_lt ha, Nat.shiftRight_eq_div_pow]

theorem wrapInt_signExt_mod (n len x : Nat) : wrapInt n (signExt len (x % 2 ^ len)) = ((BitVec.ofNat len x).signExtend n).toNat := by
  have hmod : BitVec.ofNat len (x % 2 ^ len) = BitVec.ofNat len x := BitVec.eq_of_toNat_eq (by simp)
  rw [wrapInt_eq_ofInt, signExt_eq_toInt, hmod]
  rfl

/-- The bits of an inserted field (BFI). -/
theorem bit_bfiVal (n a b c i : Nat) :
    bit (bfiVal n a b c) i = (decide (i < n) && (if b % 256 ≤ i ∧ i < b % 256 + b / 256 % 256 then bit a (i - b % 256) else bit c i)) := by
  rw [bfiVal, bit_ofBitList]
  simp [List.mem_filter]

theorem popCount_eq (n x : Nat) : popCount n x = ((List.range n).filter (fun i => bit x i)).length := by
  induction n generalizing x with
  | zero => rfl
  | succ n ih =>
    have hshift : ((fun i => bit x i) ∘ Nat.succ) = fun i => bit (x / 2) i := by
      funext i
      simp [bit_eq_testBit, Nat.testBit_succ]
    rw [popCount, ih, List.range_succ_eq_map, List.filter_cons, List.filter_map, hshift]
    rcases Nat.mod_two_eq_zero_or_one x with h | h <;> simp [bit, h, Nat.add_comm]

theorem clz_eq_log2 {x : Nat} (hx : x < 2 ^ 32) : (if x = 0 then 32 else 31 - Nat.log2 x) = (BitVec.clz (BitVec.ofNat 32 x)).toNat := by
  have hto : (BitVec.ofNat 32 x).toNat = x := by rw [BitVec.toNat_ofNat, Nat.mod_eq_of_lt hx]
  by_cases h0 : x = 0
  · subst h0
    rfl
  · have hne : BitVec.ofNat 32 x ≠ 0#32 := fun h => h0 (by rw [← hto, h]; rfl)
    have hlo := BitVec.two_pow_sub_clz_le_toNat_of_ne_zero (by decide) hne
    have hhi := BitVec.toNat_lt_two_pow_sub_clz (x := BitVec.ofNat 32 x)
    have hlt : (BitVec.clz (BitVec.ofNat 32 x)).toNat < 32 := by simpa using BitVec.lt_def.mp (BitVec.clz_lt_iff_ne_zero.mpr hne)
    rw [hto] at hlo hhi
    have hlog : Nat.log2 x = 31 - (BitVec.clz (BitVec.ofNat 32 x)).toNat := by
      refine (Nat.log2_eq_iff h0).mpr ⟨by simpa using hlo, ?_⟩
      rwa [show 31 - (BitVec.clz (BitVec.ofNat 32 x)).toNat + 1 = 32 - (BitVec.clz (BitVec.ofNat 32 x)).toNat by omega]
    rw [if_neg h0, hlog]
    omega

theorem brev_eq_reverse (x : Nat) : ofBitList ((List.range 32).filter (fun i => bit x (31 - i))) = (BitVec.reverse (BitVec.ofNat 32 x)).toNat := by
  apply Nat.eq_of_testBit_eq
  intro i
  rw [← bit_eq_testBit, bit_ofBitList, BitVec.testBit_toNat, BitVec.getLsbD_reverse, BitVec.getMsbD_eq_getLsbD]
  by_cases hi : i < 32
  · have hlt : 31 - i < 32 := by omega
    have hmem : (i ∈ (List.range 32).filter (fun j => bit x (31 - j))) ↔ x.testBit (31 - i) = true := by
      simp [List.mem_filter, hi, bit_eq_testBit]
    rw [BitVec.getLsbD_ofNat, decide_eq_true hi, Bool.true_and, show 32 - 1 - i = 31 - i from rfl, decide_eq_true hlt, Bool.true_and]
    exact Bool.decide_congr hmem |>.trans (Bool.decide_coe _)
  · simp [hi]

/-! Operands. -/

theorem Group.vregs_lt (g : Group) (r t n : Nat) : g.vregs_ r t n < 2 ^ (32 * n) := by
  induction n generalizing r with
  | zero => simp [Group.vregs_]
  | succ n ih =>
    have h1 : g.vreg r t < 2 ^ 32 := BitVec.isLt _
    have h2 := ih (r + 1)
    rw [Group.vregs_, Nat.mul_succ, Nat.add_comm (32 * n), Nat.pow_add]
    calc g.vreg r t + 2 ^ 32 * g.vregs_ (r + 1) t n < 2 ^ 32 * (g.vregs_ (r + 1) t n + 1) := by omega
      _ ≤ 2 ^ 32 * 2 ^ (32 * n) := Nat.mul_le_mul_left _ h2

/-- An operand has the width that it is read with. -/
theorem Group.srcA_lt (g : Group) (f : FmtA) (k size t : Nat) : g.srcA f k size t < 2 ^ (32 * size) := by
  unfold Group.srcA
  split
  · exact Nat.mod_lt _ (by positivity)
  · exact g.vregs_lt _ _ _

/-! An instruction with one value. -/

/-- An instruction whose form is the model's form with one value has, where it issues legally, the values that its form computes. -/
theorem value_stated {s s1 : State} {is : Issue} {f : FmtA} {g : Group} {op : Nat} {types : List Nat} {subs rnds : Nat} {sat : Bool} {scal : List Nat}
    {ins : List (Nat × Nat)} {val : Group → Nat → Nat} {want : Nat → Nat} {o : Host.Outcome State Fault Refusal}
    (ho : o = .next (s.valueA is f op types subs rnds sat scal ins val)) (h : IssuesA s is f op ins (typeRegs f.type) g s1) (hv : ∀ m, val (g.age m) = val g) (hw : types.contains f.type = true → f.sub < subs → val g = want) :
    (valueLegal f g.vregs types subs rnds sat scal ins = true →
      ∃ t, o = .next t ∧ ValueWritten s1 t is g f want) ∧
    (valueLegal f g.vregs types subs rnds sat scal ins = false → o = .next (illegalWord s1 is g)) := by
  have hsize : typeRegs f.type ≠ 0 := by rcases typeRegs_cases f.type with h | h <;> simp [h]
  obtain ⟨hlegal, hill⟩ := State.valueA_ends (types := types) (subs := subs) (rnds := rnds) (sat := sat) (scal := scal) (ins := ins) (op := op) (val := val)
    (by simpa [IssuesA, hsize] using h) (hv _)
  refine ⟨fun hok => ⟨_, ho, ?_⟩, fun hno => ho.trans (congrArg Host.Outcome.next (hill hno))⟩
  obtain ⟨hform, hdst⟩ := Bool.and_eq_true_iff.mp hok
  have hparts := hform
  simp only [FmtA_ok, Bool.and_eq_true, decide_eq_true_eq] at hparts
  obtain ⟨⟨⟨⟨⟨htype, hsub⟩, -⟩, -⟩, -⟩, -⟩ := hparts
  rw [← hw htype hsub]
  exact hlegal hform hdst

/-- The two-operand form: the value for every pair of operands of the type's width. -/
theorem intOp2_stated {s s1 : State} {is : Issue} {f : FmtA} {g : Group} {op : Nat} {types : List Nat} {sat : Bool} {val : Nat → Bool → Nat → Nat → Nat}
    (want : Nat → Nat → Nat) {o : Host.Outcome State Fault Refusal} (ho : o = .next (s.intOp2 is f op types sat val))
    (h : IssuesA s is f op [(2, typeRegs f.type), (1, typeRegs f.type)] (typeRegs f.type) g s1)
    (hw : ∀ a b, a < 2 ^ intWidth f.type → b < 2 ^ intWidth f.type → val (intWidth f.type) (intSigned f.type) a b = want a b) :
    (valueLegal f g.vregs types 1 1 sat types [(2, typeRegs f.type), (1, typeRegs f.type)] = true →
      ∃ t, o = .next t ∧ ValueWritten s1 t is g f (fun th => want (g.srcA f 2 (typeRegs f.type) th) (g.srcA f 1 (typeRegs f.type) th))) ∧
    (valueLegal f g.vregs types 1 1 sat types [(2, typeRegs f.type), (1, typeRegs f.type)] = false → o = .next (illegalWord s1 is g)) := by
  unfold State.intOp2 at ho
  exact value_stated ho h (fun m => by simp only [Group.srcA_age]) fun _ _ => funext fun th => hw _ _ (g.srcA_lt f 2 _ th) (g.srcA_lt f 1 _ th)

/-- The shift and field forms. -/
theorem fieldOp_stated {s s1 : State} {is : Issue} {f : FmtA} {g : Group} {op subs : Nat} {val : Nat → Nat → Nat → Nat → Nat} (want : Nat → Nat → Nat)
    {o : Host.Outcome State Fault Refusal} (ho : o = .next (s.fieldOp is f op subs false val))
    (h : IssuesA s is f op [(2, typeRegs f.type), (1, 1)] (typeRegs f.type) g s1)
    (hw : f.sub < subs → ∀ a b c, a < 2 ^ intWidth f.type → val (intWidth f.type) a b c = want a b) :
    (valueLegal f g.vregs intTypes subs 1 false intTypes [(2, typeRegs f.type), (1, 1)] = true →
      ∃ t, o = .next t ∧ ValueWritten s1 t is g f (fun th => want (g.srcA f 2 (typeRegs f.type) th) (g.srcA f 1 1 th))) ∧
    (valueLegal f g.vregs intTypes subs 1 false intTypes [(2, typeRegs f.type), (1, 1)] = false → o = .next (illegalWord s1 is g)) := by
  unfold State.fieldOp at ho
  exact value_stated ho h (fun m => by simp only [Group.srcA_age]) fun _ hsub => funext fun th => hw hsub _ _ _ (g.srcA_lt f 2 _ th)

/-- The forms on the bits of one operand. -/
theorem bitOp_stated {s s1 : State} {is : Issue} {f : FmtA} {g : Group} {op : Nat} {val : Nat → Nat} (want : Nat → Nat) {o : Host.Outcome State Fault Refusal}
    (ho : o = .next (s.bitOp is f op val)) (h : IssuesA s is f op [(2, 1)] (typeRegs f.type) g s1) (hw : ∀ a, a < 2 ^ 32 → val a = want a) :
    (valueLegal f g.vregs [0x00] 1 1 false [0x00] [(2, 1)] = true →
      ∃ t, o = .next t ∧ ValueWritten s1 t is g f (fun th => want (g.srcA f 2 1 th))) ∧
    (valueLegal f g.vregs [0x00] 1 1 false [0x00] [(2, 1)] = false → o = .next (illegalWord s1 is g)) := by
  unfold State.bitOp at ho
  exact value_stated ho h (fun m => by simp only [Group.srcA_age]) fun _ _ => funext fun th => hw _ (g.srcA_lt f 2 1 th)

/-! The values. -/

theorem intVal_le_iff {n a b : Nat} (sg : Bool) (ha : a < 2 ^ n) (hb : b < 2 ^ n) :
    intVal n sg a ≤ intVal n sg b ↔ if sg then (BitVec.ofNat n a).sle (BitVec.ofNat n b) = true else a ≤ b := by
  cases sg with
  | true => rw [intVal_true, intVal_true, if_pos rfl, BitVec.sle_iff_toInt_le]
  | false => rw [intVal_false ha, intVal_false hb, if_neg (by simp), Int.ofNat_le]

theorem bit_zero_of_lt_two {x : Nat} (h : x < 2) : bit x 0 = decide (x = 1) := by
  simp only [bit, pow_zero, Nat.div_one, Nat.mod_eq_of_lt h]

theorem bfeVal_eq (n : Nat) (sg : Bool) (a b : Nat) :
    bfeVal n sg a b =
      if n < b % 256 + b / 256 % 256 ∨ (sg = true ∧ b / 256 % 256 = 0) then Config.unstated 0 a b % 2 ^ n
      else if sg = true then ((BitVec.ofNat (b / 256 % 256) (a >>> (b % 256))).signExtend n).toNat else (a >>> (b % 256)) % 2 ^ (b / 256 % 256) := by
  unfold bfeVal
  dsimp only
  rw [← Nat.shiftRight_eq_div_pow]
  split
  · rfl
  · split
    · exact wrapInt_signExt_mod _ _ _
    · rfl

theorem idp4_value (s1 s2 : Bool) (a b c : Nat) :
    wrapInt 32 (byteVal s1 a 0 * byteVal s2 b 0 + byteVal s1 a 1 * byteVal s2 b 1 + byteVal s1 a 2 * byteVal s2 b 2 + byteVal s1 a 3 * byteVal s2 b 3 + signExt 32 c) =
      wrapInt 32 (((List.range 4).map (fun i => intVal 8 s1 (a >>> (8 * i)) * intVal 8 s2 (b >>> (8 * i)))).foldl (fun x y => x + y) 0 + signExt 32 c) := by
  simp only [byteVal, Nat.shiftRight_eq_div_pow, show List.range 4 = [0, 1, 2, 3] from rfl, List.map_cons, List.map_nil, List.foldl_cons, List.foldl_nil, zero_add]

theorem imad_stated (s s1 : State) (is : Issue) (f : FmtA) (g : Group)
    (h : IssuesA s is f 0x33 [(2, typeRegs f.type), (1, typeRegs f.type), (0, typeRegs f.type)] (typeRegs f.type) g s1) :
    (valueLegal f g.vregs mulTypes 1 1 false mulTypes [(2, typeRegs f.type), (1, typeRegs f.type), (0, typeRegs f.type)] = true →
      ∃ t, exec (.imad is f) s = .next t ∧ ValueWritten s1 t is g f (fun th =>
        (g.srcA f 2 (typeRegs f.type) th * g.srcA f 1 (typeRegs f.type) th + g.srcA f 0 (typeRegs f.type) th) % 2 ^ intWidth f.type)) ∧
    (valueLegal f g.vregs mulTypes 1 1 false mulTypes [(2, typeRegs f.type), (1, typeRegs f.type), (0, typeRegs f.type)] = false →
      exec (.imad is f) s = .next (illegalWord s1 is g)) := by
  have ho : exec (.imad is f) s = .next (imad is f s) := rfl
  unfold imad at ho
  exact value_stated ho h (fun m => by simp only [Group.srcA_age]) fun _ _ => rfl

theorem bfi_stated (s s1 : State) (is : Issue) (f : FmtA) (g : Group)
    (h : IssuesA s is f 0x3E [(2, typeRegs f.type), (1, 1), (0, typeRegs f.type)] (typeRegs f.type) g s1) :
    (valueLegal f g.vregs intTypes 1 1 false intTypes [(2, typeRegs f.type), (1, 1), (0, typeRegs f.type)] = true →
      ∃ t, exec (.bfi is f) s = .next t ∧ ValueWritten s1 t is g f (fun th =>
        bfiVal (intWidth f.type) (g.srcA f 2 (typeRegs f.type) th) (g.srcA f 1 1 th) (g.srcA f 0 (typeRegs f.type) th))) ∧
    (valueLegal f g.vregs intTypes 1 1 false intTypes [(2, typeRegs f.type), (1, 1), (0, typeRegs f.type)] = false →
      exec (.bfi is f) s = .next (illegalWord s1 is g)) := by
  have ho : exec (.bfi is f) s = .next (bfi is f s) := rfl
  unfold bfi State.fieldOp at ho
  exact value_stated ho h (fun m => by simp only [Group.srcA_age]) fun _ _ => rfl

theorem idp4_stated (s s1 : State) (is : Issue) (f : FmtA) (g : Group) (h : IssuesA s is f 0x42 [(2, 1), (1, 1), (0, 1)] (typeRegs f.type) g s1) :
    (valueLegal f g.vregs [0x09, 0x0A] 2 1 false [] [(2, 1), (1, 1), (0, 1)] = true →
      ∃ t, exec (.idp4 is f) s = .next t ∧ ValueWritten s1 t is g f (fun th => wrapInt 32 (((List.range 4).map (fun i =>
        intVal 8 (decide (f.type = 0x09)) (g.srcA f 2 1 th >>> (8 * i)) * intVal 8 (decide (f.sub = 0)) (g.srcA f 1 1 th >>> (8 * i)))).foldl
          (fun x y => x + y) 0 + signExt 32 (g.srcA f 0 1 th)))) ∧
    (valueLegal f g.vregs [0x09, 0x0A] 2 1 false [] [(2, 1), (1, 1), (0, 1)] = false → exec (.idp4 is f) s = .next (illegalWord s1 is g)) := by
  have ho : exec (.idp4 is f) s = .next (idp4 is f s) := rfl
  unfold idp4 at ho
  refine value_stated ho h (fun m => by simp only [Group.srcA_age]) fun _ hsub => funext fun th => ?_
  have hbit : (!bit f.sub 0) = decide (f.sub = 0) := by
    rw [bit_zero_of_lt_two hsub, ← decide_not]
    exact decide_eq_decide.mpr (by omega)
  exact (idp4_value _ _ _ _ _).trans (by rw [hbit])

/-- Settles O17: each instruction is the model's form with its own value, and the value is the stated one for all operands of the type's width. -/
theorem integerInstructions : Obligations.IntegerInstructions := by
  unfold Obligations.IntegerInstructions
  refine ⟨⟨fun s s1 is f g h => intOp2_stated (fun a b => if f.sat then
        wrapInt (intWidth f.type) (clampInt (intWidth f.type) (intSigned f.type) (intVal (intWidth f.type) (intSigned f.type) a + intVal (intWidth f.type) (intSigned f.type) b))
      else (a + b) % 2 ^ intWidth f.type) rfl h fun a b ha hb => ?_,
    fun s s1 is f g h => intOp2_stated (fun a b => if f.sat then
        wrapInt (intWidth f.type) (clampInt (intWidth f.type) (intSigned f.type) (intVal (intWidth f.type) (intSigned f.type) a - intVal (intWidth f.type) (intSigned f.type) b))
      else (a + 2 ^ intWidth f.type - b) % 2 ^ intWidth f.type) rfl h fun a b ha hb => ?_,
    fun s s1 is f g h => intOp2_stated (fun a b => a * b % 2 ^ intWidth f.type) rfl h fun a b ha hb => rfl,
    imad_stated,
    fun s s1 is f g h => intOp2_stated (fun a b => if intSigned f.type then
        (BitVec.ofInt (2 * intWidth f.type) ((BitVec.ofNat (intWidth f.type) a).toInt * (BitVec.ofNat (intWidth f.type) b).toInt)).toNat / 2 ^ intWidth f.type
      else a * b / 2 ^ intWidth f.type) rfl h fun a b ha hb => ?_,
    fun s s1 is f g h => intOp2_stated (fun a b => if intSigned f.type then
      (if (BitVec.ofNat (intWidth f.type) a).sle (BitVec.ofNat (intWidth f.type) b) then a else b) else min a b) rfl h fun a b ha hb => ?_,
    fun s s1 is f g h => intOp2_stated (fun a b => if intSigned f.type then
      (if (BitVec.ofNat (intWidth f.type) a).sle (BitVec.ofNat (intWidth f.type) b) then b else a) else max a b) rfl h fun a b ha hb => ?_,
    fun s s1 is f g h => intOp2_stated (fun a b => a &&& b) rfl h fun a b ha hb => natAnd_eq ha hb,
    fun s s1 is f g h => intOp2_stated (fun a b => a ||| b) rfl h fun a b ha hb => natOr_eq ha hb,
    fun s s1 is f g h => intOp2_stated (fun a b => a ^^^ b) rfl h fun a b ha hb => natXor_eq ha hb⟩,
    fun s s1 is f g h => fieldOp_stated (fun a b => (a <<< (b % intWidth f.type)) % 2 ^ intWidth f.type) rfl h fun _ a b _ ha => shiftL_eq _ a b,
    fun s s1 is f g h => fieldOp_stated (fun a b => if f.sub = 1 then ((BitVec.ofNat (intWidth f.type) a).sshiftRight (b % intWidth f.type)).toNat
      else a >>> (b % intWidth f.type)) rfl h fun hsub a b _ ha => ?_,
    fun s s1 is f g h => fieldOp_stated (fun a b =>
      if intWidth f.type < b % 256 + b / 256 % 256 ∨ (f.sub = 1 ∧ b / 256 % 256 = 0) then Config.unstated 0 a b % 2 ^ intWidth f.type
      else if f.sub = 1 then ((BitVec.ofNat (b / 256 % 256) (a >>> (b % 256))).signExtend (intWidth f.type)).toNat
      else (a >>> (b % 256)) % 2 ^ (b / 256 % 256)) rfl h fun hsub a b _ ha => ?_,
    bfi_stated,
    bit_bfiVal,
    fun s s1 is f g h => bitOp_stated (fun a => ((List.range 32).filter (fun i => bit a i)).length) rfl h fun a _ => popCount_eq 32 a,
    fun s s1 is f g h => bitOp_stated (fun a => (BitVec.clz (BitVec.ofNat 32 a)).toNat) rfl h fun a ha => clz_eq_log2 ha,
    fun s s1 is f g h => bitOp_stated (fun a => (BitVec.reverse (BitVec.ofNat 32 a)).toNat) rfl h fun a _ => brev_eq_reverse a,
    idp4_stated⟩
  · rw [addInt]
    split
    · rfl
    · exact wrapInt_add _ _ a b
  · rw [addInt]
    split
    · rfl
    · exact wrapInt_sub _ a hb
  · cases hsg : intSigned f.type
    · exact wrapInt_mulhi_unsigned ha hb
    · exact wrapInt_mulhi_signed _ a b
  · simp only [intVal_le_iff _ ha hb]
    split
    · rfl
    · exact (min_def a b).symm
  · simp only [intVal_le_iff _ ha hb]
    split
    · rfl
    · exact (max_def a b).symm
  · simp only [bit_zero_of_lt_two hsub]
    by_cases h1 : f.sub = 1
    · rw [decide_eq_true h1, if_pos h1, shiftR_arith]
    · rw [decide_eq_false h1, if_neg h1, shiftR_logic b ha]
  · simp only [bit_zero_of_lt_two hsub, bfeVal_eq, decide_eq_true_eq]

end Sys2Proof.Machine
end

section
/-! Predicates, votes and selection (R137, R141, R142, Tables 6.10 and 6.12). -/

namespace Sys2Proof.Machine

/-! Conditions. -/

theorem cmp_eq_none_iff (a b : FVal) : a.cmp b = none ↔ (a.isNan || b.isNan) = true := by
  cases a <;> cases b <;> simp [FVal.cmp, FVal.isNan]

/-- A floating condition of two values, NaN among them or not. -/
theorem fcond_cmp (c : Nat) (a b : FVal) : c < 8 →
    fcond c (a.cmp b) = if a.isNan || b.isNan then decide (c = 1 ∨ c = 7)
      else match c with
        | 0 => decide (a.cmp b = some .eq)
        | 1 => decide (a.cmp b ≠ some .eq)
        | 2 => decide (a.cmp b = some .lt)
        | 3 => decide (a.cmp b ≠ some .gt)
        | 4 => decide (a.cmp b = some .gt)
        | 5 => decide (a.cmp b ≠ some .lt)
        | k => decide (k = 6) := by
  intro hc
  cases h : a.cmp b with
  | none =>
    rw [if_pos ((cmp_eq_none_iff a b).mp h)]
    rfl
  | some o =>
    have hnan : ¬(a.isNan || b.isNan) = true := fun hn => by simp [(cmp_eq_none_iff a b).mpr hn] at h
    rw [if_neg hnan]
    interval_cases c <;> cases o <;> rfl

/-- An integer condition of two values. -/
theorem condOf_compare (c : Nat) (a b : Int) : c < 6 →
    condOf c (compare a b) = match c with
      | 0 => decide (a = b)
      | 1 => decide (a ≠ b)
      | 2 => decide (a < b)
      | 3 => decide (a ≤ b)
      | 4 => decide (b < a)
      | _ => decide (b ≤ a) := by
  intro hc
  have heq : compare a b = .eq ↔ a = b := compare_eq_iff_eq
  have hlt : compare a b = .lt ↔ a < b := compare_lt_iff_lt
  have hgt : compare a b = .gt ↔ b < a := compare_gt_iff_gt
  interval_cases c <;> simp only [condOf, heq, hlt, hgt, ne_eq, decide_not, ← not_lt]

/-- An instruction whose form is the model's form with one predicate has, where it issues legally, the predicates that its form computes. -/
theorem predicate_stated {s s1 : State} {is : Issue} {f : FmtA} {g : Group} {op : Nat} {types : List Nat} {subs : Nat} {scal : List Nat} {ins : List (Nat × Nat)}
    {val : Group → Nat → Bool} {want : Nat → Bool} {o : Host.Outcome State Fault Refusal} (ho : o = .next (s.predA is f op types subs scal ins val))
    (h : IssuesA s is f op ins 0 g s1) (hv : ∀ m, val (g.age m) = val g) (hw : f.sub < subs → val g = want) :
    (predicateLegal f g.vregs types subs scal ins = true →
      ∃ t, o = .next t ∧ PredicateResult s1 t is g f.guard f.guardNeg f.S f.dst want) ∧
    (predicateLegal f g.vregs types subs scal ins = false → o = .next (illegalWord s1 is g)) := by
  obtain ⟨hlegal, hill⟩ := State.predA_ends (types := types) (subs := subs) (scal := scal) (ins := ins) (op := op) (val := val) (by simpa [IssuesA] using h) (hv _)
  refine ⟨fun hok => ⟨_, ho, ?_⟩, fun hno => ho.trans (congrArg Host.Outcome.next (hill hno))⟩
  obtain ⟨hform, hdst⟩ := Bool.and_eq_true_iff.mp hok
  have hparts := hform
  simp only [FmtA_ok, Bool.and_eq_true, decide_eq_true_eq] at hparts
  obtain ⟨⟨⟨⟨⟨-, hsub⟩, -⟩, -⟩, -⟩, -⟩ := hparts
  rw [← hw hsub]
  exact hlegal hform (of_decide_eq_true hdst)

theorem fsetp_stated (s s1 : State) (is : Issue) (f : FmtA) (g : Group) (h : IssuesA s is f 0x15 [(2, typeRegs f.type), (1, typeRegs f.type)] 0 g s1) :
    (predicateLegal f g.vregs [0x01, 0x11] 8 [0x01] [(2, typeRegs f.type), (1, typeRegs f.type)] = true →
      ∃ t, exec (.fsetp is f) s = .next t ∧ PredicateResult s1 t is g f.guard f.guardNeg f.S f.dst (fun th =>
        fsetpBit (if f.type = 0x11 then .fp64 else .fp32) f.sub (g.srcA f 2 (typeRegs f.type) th) (g.srcA f 1 (typeRegs f.type) th))) ∧
    (predicateLegal f g.vregs [0x01, 0x11] 8 [0x01] [(2, typeRegs f.type), (1, typeRegs f.type)] = false → exec (.fsetp is f) s = .next (illegalWord s1 is g)) := by
  have ho : exec (.fsetp is f) s = .next (fsetp is f s) := rfl
  unfold fsetp at ho
  exact predicate_stated ho h (fun m => by simp only [Group.srcA_age]) fun _ => rfl

theorem isetp_stated (s s1 : State) (is : Issue) (f : FmtA) (g : Group) (h : IssuesA s is f 0x37 [(2, typeRegs f.type), (1, typeRegs f.type)] 0 g s1) :
    (predicateLegal f g.vregs intTypes 6 intTypes [(2, typeRegs f.type), (1, typeRegs f.type)] = true →
      ∃ t, exec (.isetp is f) s = .next t ∧ PredicateResult s1 t is g f.guard f.guardNeg f.S f.dst (fun th =>
        isetpBit (intWidth f.type) (intSigned f.type) f.sub (g.srcA f 2 (typeRegs f.type) th) (g.srcA f 1 (typeRegs f.type) th))) ∧
    (predicateLegal f g.vregs intTypes 6 intTypes [(2, typeRegs f.type), (1, typeRegs f.type)] = false → exec (.isetp is f) s = .next (illegalWord s1 is g)) := by
  have ho : exec (.isetp is f) s = .next (isetp is f s) := rfl
  unfold isetp at ho
  exact predicate_stated ho h (fun m => by simp only [Group.srcA_age]) fun _ => rfl

/-- The `sub` field of a legal form. -/
theorem sub_lt_of_predicateLegal {f : FmtA} {vregs : Nat} {types : List Nat} {subs : Nat} {scal : List Nat} {ins : List (Nat × Nat)}
    (h : predicateLegal f vregs types subs scal ins = true) : f.sub < subs := by
  obtain ⟨hform, -⟩ := Bool.and_eq_true_iff.mp h
  simp only [FmtA_ok, Bool.and_eq_true, decide_eq_true_eq] at hform
  obtain ⟨⟨⟨⟨⟨-, hsub⟩, -⟩, -⟩, -⟩, -⟩ := hform
  exact hsub

theorem PredicateResult.congr {s1 t : State} {is : Issue} {g : Group} {guard : Nat} {neg scalar : Bool} {dst : Nat} {val want : Nat → Bool}
    (h : PredicateResult s1 t is g guard neg scalar dst val) (hw : ∀ th, val th = want th) : PredicateResult s1 t is g guard neg scalar dst want :=
  funext hw ▸ h

/-! Votes. -/

/-- The threads that act, among the 64 of a group. -/
theorem bit_actMask (is : Issue) (x : Form) (g : Group) {th : Nat} (hth : th < 64) :
    bit (g.guardMask x.guard x.neg (g.issueMask is.pc)) th = true ↔ g.acting is.pc x.guard x.neg th := by
  rw [Group.bit_guardMask]
  simp [Group.acting, hth]

/-- The form of a vote (R142). -/
def voteForm (f : FmtA) : Form :=
  { word := f.word 0x66, guard := f.guard, neg := f.guardNeg, vec := !f.S
    legal := fun _ => decide (f.type = 0 ∧ f.sub < 3 ∧ f.rnd = 0) && !f.sat && !f.S && f.predSrc 2 && f.unused 1 && f.unused 0 &&
      (if f.sub = 2 then sregOk f.dst else predOk f.dst)
    srcs := [], hints := f.hinted, dsts := if f.sub = 2 then [256 + f.dst] else [] }

theorem vote_acts {s s1 : State} {is : Issue} {f : FmtA} {g : Group} (h : Issues s is (f.word 0x66) (if f.sub = 2 then [256 + f.dst] else []) g s1)
    (hl : (voteForm f).legal g.vregs = true) :
    vote is f s =
      if f.guard = 7 ∧ f.guardNeg then (issOf is (voteForm f) g).done (s1.booked is (voteForm f) g) (issOf is (voteForm f) g).g
      else if f.sub = 2 then (issOf is (voteForm f) g).done (s1.booked is (voteForm f) g)
        ((issOf is (voteForm f) g).g.setS f.dst (ballot (issOf is (voteForm f) g).g f.a (issOf is (voteForm f) g).act))
      else (issOf is (voteForm f) g).predicate (s1.booked is (voteForm f) g) false f.dst
        (fun _ => voteBit f.sub (issOf is (voteForm f) g).g f.a (issOf is (voteForm f) g).act) :=
  State.issue_acts (x := voteForm f)
    (fun x s => if f.guard = 7 ∧ f.guardNeg then x.done s x.g
      else if f.sub = 2 then x.done s (x.g.setS f.dst (ballot x.g f.a x.act))
      else x.predicate s false f.dst (fun _ => voteBit f.sub x.g f.a x.act))
    h (fun r hr => by simpa [voteForm] using hr) hl rfl

theorem voteBit_eq {is : Issue} {x : Form} {g : Group} (sub p : Nat) :
    voteBit sub (issOf is x g).g p (issOf is x g).act =
      if sub = 0 then (List.range 64).any (fun th => decide (g.acting is.pc x.guard x.neg th) && g.pred p th)
      else (List.range 64).all (fun th => !decide (g.acting is.pc x.guard x.neg th) || g.pred p th) := by
  have hact (th : Nat) (hth : th < 64) : bit (issOf is x g).act th = decide (g.acting is.pc x.guard x.neg th) :=
    Bool.eq_iff_iff.mpr ((bit_actMask is x g hth).trans decide_eq_true_iff.symm)
  unfold voteBit bitList
  split
  · rw [List.any_filter, Bool.eq_iff_iff, List.any_eq_true, List.any_eq_true]
    exact exists_congr fun th => and_congr_right fun hth => by rw [hact th (List.mem_range.mp hth)]; rfl
  · rw [List.all_filter, Bool.eq_iff_iff, List.all_eq_true, List.all_eq_true]
    exact forall₂_congr fun th hth => by rw [hact th (List.mem_range.mp hth)]; rfl

/-- Nobody acts under the guard !p7. -/
theorem Group.not_acting {g : Group} {pc guard th : Nat} {neg : Bool} (h : guard = 7 ∧ neg = true) : ¬g.acting pc guard neg th := by
  obtain ⟨rfl, rfl⟩ := h
  simp [Group.acting, Group.guard, Group.pred]

/-- An issue that changes nothing but the threads' places is a form without threads that act. -/
theorem done_predicate {s s1 : State} {is : Issue} {x : Form} {regs : List Nat} {g : Group} (h : Issues s is x.word regs g s1) (hno : x.guard = 7 ∧ x.neg = true)
    (dst : Nat) (val : Nat → Bool) : PredicateResult s1 ((issOf is x g).done (s1.booked is x g) (issOf is x g).g) is g x.guard x.neg false dst val :=
  ⟨_, issue_frame h (g.age (g.issueMask is.pc)) ⟨rfl, rfl, rfl, rfl, rfl, rfl, rfl⟩ _ ⟨rfl, rfl, rfl⟩,
    fun r th _ => by simp [Group.not_acting hno]; rfl, fun _ _ => rfl, fun _ => rfl⟩

theorem ballot_bit {is : Issue} {x : Form} {g : Group} (p : Nat) {th : Nat} (hth : th < 64) :
    bit (ballot (issOf is x g).g p (issOf is x g).act % 2 ^ 64) th = true ↔ g.acting is.pc x.guard x.neg th ∧ g.pred p th = true := by
  rw [bit_eq_testBit, Nat.testBit_mod_two_pow, decide_eq_true hth, Bool.true_and, ← bit_eq_testBit, ballot, bit_ofBitList, decide_eq_true_iff, List.mem_filter,
    mem_bitList]
  exact and_congr_left fun _ => (and_iff_right hth).trans (bit_actMask is x g hth)

theorem vote_stated (s s1 : State) (is : Issue) (f : FmtA) (g : Group) (h : Issues s is (f.word 0x66) (if f.sub = 2 then [256 + f.dst] else []) g s1)
    (htype : f.type = 0) (hrnd : f.rnd = 0) (hsat : f.sat = false) (hS : f.S = false) (hp : f.predSrc 2 = true) (h1 : f.unused 1 = true) (h0 : f.unused 0 = true) :
    (f.sub < 2 → f.dst < 8 →
      ∃ t, exec (.vote is f) s = .next t ∧
        PredicateResult s1 t is g f.guard f.guardNeg false f.dst (fun _ =>
          if f.sub = 0 then (List.range 64).any (fun th => decide (g.acting is.pc f.guard f.guardNeg th) && g.pred f.a th)
          else (List.range 64).all (fun th => !decide (g.acting is.pc f.guard f.guardNeg th) || g.pred f.a th))) ∧
    (f.sub = 2 → f.dst < 64 →
      ∃ t h, exec (.vote is f) s = .next t ∧ IssueFrame s1 t is g h ∧
        (¬ (f.guard = 7 ∧ f.guardNeg = true) →
          ∀ th, th < 64 → (bit (h.sreg f.dst) th = true ↔ g.acting is.pc f.guard f.guardNeg th ∧ g.pred f.a th = true)) ∧
        (f.guard = 7 → f.guardNeg = true → h.sreg f.dst = g.sreg f.dst) ∧
        (∀ r, r ≠ f.dst → h.sreg r = g.sreg r) ∧ (∀ r th, h.vreg r th = g.vreg r th) ∧ (∀ r th, h.pred r th = g.pred r th)) := by
  have hframe (g2 : Group) (hg) := issue_frame (x := voteForm f) (g := g) h g2 hg _ ⟨rfl, rfl, rfl⟩
  constructor
  · intro hsub hdst
    have hgo := vote_acts h (by simp [voteForm, htype, hrnd, hsat, hS, hp, h1, h0, predOk, hdst, show f.sub ≠ 2 by omega, show f.sub < 3 by omega])
    refine ⟨_, congrArg Host.Outcome.next hgo, ?_⟩
    by_cases hno : f.guard = 7 ∧ f.guardNeg = true
    · rw [if_pos hno]
      exact done_predicate (x := voteForm f) h hno _ _
    · rw [if_neg hno, if_neg (by omega)]
      simp only [voteBit_eq]
      exact predicate_ends (x := voteForm f) h false f.dst _
  · intro hsub hdst
    have hgo := vote_acts h (by simp [voteForm, htype, hrnd, hsat, hS, hp, h1, h0, sregOk, hdst, hsub])
    by_cases hno : f.guard = 7 ∧ f.guardNeg = true
    · rw [if_pos hno] at hgo
      exact ⟨_, _, congrArg Host.Outcome.next hgo, hframe _ ⟨rfl, rfl, rfl, rfl, rfl, rfl, rfl⟩, fun hc => absurd hno hc, fun _ _ => rfl, fun _ _ => rfl, fun _ _ => rfl,
        fun _ _ => rfl⟩
    · rw [if_neg hno, if_pos hsub] at hgo
      refine ⟨_, _, congrArg Host.Outcome.next hgo, hframe _ ⟨rfl, rfl, rfl, rfl, rfl, rfl, rfl⟩, fun _ th hth => ?_, fun h7 hn => absurd ⟨h7, hn⟩ hno, fun r hr => ?_,
        fun _ _ => rfl, fun _ _ => rfl⟩
      · refine Iff.trans ?_ (ballot_bit (is := is) (x := voteForm f) (g := g) f.a hth)
        exact iff_of_eq (congrArg (fun v => bit v th = true) ((Group.sreg_setS _ _ _ _).trans (if_pos rfl)))
      · exact (Group.sreg_setS _ _ _ _).trans (if_neg hr)

/-! The forms of the other instructions. -/

/-- The form of a comparison with an immediate (R137). -/
def isetpIForm (f : FmtI) : Form :=
  { word := f.word 0x59, guard := f.guard, neg := f.guardNeg, vec := !f.S
    legal := fun n => fmtISrcOk f n true && (!f.hi || (false && f.S)) && (decide (f.dst < 64) && decide (f.dst / 8 ≤ 5))
    srcs := if true then (if fmtIScal f then [256 + f.a] else [f.a]) else []
    hints := if f.reuseA && !fmtIScal f then [f.a] else [], dsts := [] }

/-- The form of a combination of predicates. -/
def plopForm (f : FmtA) : Form :=
  { word := f.word 0x44, guard := f.guard, neg := f.guardNeg, vec := !f.S
    legal := fun _ => decide (f.type = 0 ∧ f.sub < 8 ∧ f.rnd = 0) && !f.sat && !f.S && f.predSrc 2 && f.predSrc 1 && f.unused 0 && predOk f.dst
    srcs := [], hints := f.hinted, dsts := [] }

/-- The form of a selection. -/
def selForm (f : FmtA) : Form :=
  { word := f.word 0x43, guard := f.guard, neg := f.guardNeg, vec := !f.S
    legal := fun n => intTypes.contains f.type && decide (f.sub = 0 ∧ f.rnd = 0) && !f.sat && f.srcOk n 2 (typeRegs f.type) && f.srcOk n 1 (typeRegs f.type) &&
      f.predSrc 0 && f.dstOk n (typeRegs f.type)
    srcs := [(2, typeRegs f.type), (1, typeRegs f.type)].flatMap (fun e => f.srcRegs e.1 e.2), hints := f.hinted, dsts := f.dstRegs (typeRegs f.type) }

/-- A combination of two predicates by the low two bits of its code, negated by the third. -/
theorem plopBit_eq (sub : Nat) (a b : Bool) :
    plopBit sub a b = Bool.xor (bit sub 2) (if sub % 4 = 0 then a && b else if sub % 4 = 1 then a || b else if sub % 4 = 2 then Bool.xor a b else a && !b) := by
  unfold plopBit
  dsimp only
  have hlt : sub % 4 < 4 := Nat.mod_lt _ (by decide)
  generalize sub % 4 = k at hlt
  interval_cases k <;> cases a <;> cases b <;> cases bit sub 2 <;> rfl

/-- Settles O18: each instruction is its form, and its condition is the stated one. -/
theorem predicatesAndSelection : Obligations.PredicatesAndSelection := by
  unfold Obligations.PredicatesAndSelection
  refine ⟨fun s s1 is f g h => ?_, fun s s1 is f g h => ?_, fun s s1 is f g h hsrc hhi hdst => ?_, fun s s1 is f g h htype hsub hrnd hsat hS h2 h1 h0 hdst => ?_,
    fun s s1 is f g h htype hrnd hsat hS h2 h1 h0 => vote_stated s s1 is f g h htype hrnd hsat hS h2 h1 h0,
    fun s s1 is f g h htype hsub hrnd hsat h2 h1 h0 hdst => ?_⟩
  · obtain ⟨hok, hno⟩ := fsetp_stated s s1 is f g h
    refine ⟨fun hl => ?_, hno⟩
    obtain ⟨t, ht, hr⟩ := hok hl
    exact ⟨t, ht, hr.congr fun th => fcond_cmp _ _ _ (sub_lt_of_predicateLegal hl)⟩
  · obtain ⟨hok, hno⟩ := isetp_stated s s1 is f g h
    refine ⟨fun hl => ?_, hno⟩
    obtain ⟨t, ht, hr⟩ := hok hl
    exact ⟨t, ht, hr.congr fun th => condOf_compare _ _ _ (sub_lt_of_predicateLegal hl)⟩
  · have hacts := State.issue_acts (x := isetpIForm f) (fun x s => x.predicate s f.S (f.dst % 8) (fun t => isetpBit 32 true (f.dst / 8) (x.g.srcI f t % 2 ^ 32) f.imm)) h
      (fun r hr => by simp only [isetpIForm, if_true, List.append_nil] at hr; split at hr <;> simp_all) (by simp [isetpIForm, hsrc, hhi]; omega) rfl
    refine ⟨_, congrArg Host.Outcome.next hacts, (predicate_ends (x := isetpIForm f) h f.S (f.dst % 8) _).congr fun th => ?_⟩
    have hmod : signExt 32 (g.srcI f th % 2 ^ 32) = signExt 32 (g.srcI f th) := by simp [signExt]
    show condOf (f.dst / 8) (compare (signExt 32 (g.srcI f th % 2 ^ 32)) (signExt 32 f.imm)) = _
    rw [hmod]
    exact condOf_compare _ _ _ (by omega)
  · have hacts := State.issue_acts (x := plopForm f) (fun x s => x.predicate s false f.dst (fun t => plopBit f.sub (x.g.pred f.a t) (x.g.pred f.b t))) h
      (fun r hr => by simp [plopForm] at hr) (by simp [plopForm, htype, hsub, hrnd, hsat, hS, h2, h1, h0, predOk, hdst]) rfl
    exact ⟨_, congrArg Host.Outcome.next hacts, (predicate_ends (x := plopForm f) h false f.dst _).congr fun th => plopBit_eq _ _ _⟩
  · have hacts := State.issue_acts (x := selForm f)
      (fun x s => x.result s f.S f.dst (typeRegs f.type) (fun t => if x.g.pred f.c t then x.g.srcA f 2 (typeRegs f.type) t else x.g.srcA f 1 (typeRegs f.type) t)) h
      (fun r hr => by simpa [selForm] using hr) (by simp [selForm, htype, hsub, hrnd, hsat, h2, h1, h0, hdst]) rfl
    have hends := result_ends (x := selForm f) h f.S f.dst _ (typeRegs_cases f.type) (fun t => if (issOf is (selForm f) g).g.pred f.c t then
      (issOf is (selForm f) g).g.srcA f 2 (typeRegs f.type) t else (issOf is (selForm f) g).g.srcA f 1 (typeRegs f.type) t)
    refine ⟨_, congrArg Host.Outcome.next hacts, ?_⟩
    simp only [issOf, Group.srcA_age, Group.pred_age] at hends ⊢
    exact hends

end Sys2Proof.Machine
end

section
/-! What the books of an issue leave as they were. -/

namespace Sys2Proof.Machine

@[simp] theorem State.countAt_time (s : State) (valOff sel n : Nat) : (s.countAt valOff sel n).time = s.time := by simp [State.countAt, ite_time]
@[simp] theorem State.countEvent_time (s : State) (kind unit event n queue fmt : Nat) : (s.countEvent kind unit event n queue fmt).time = s.time :=
  by simp [State.countEvent, ite_time]
@[simp] theorem State.countIssue_time (s : State) (c : Nat) (g : Group) (vec : Bool) (mask act : Nat) : (s.countIssue c g vec mask act).time = s.time :=
  by simp [State.countIssue, ite_time]
@[simp] theorem foldl_fab_chipId {α : Type} {g : State → α → State} (l : List α) (s : State) (hg : ∀ u a, (g u a).fab.chipId = u.fab.chipId) : (l.foldl g s).fab.chipId = s.fab.chipId :=
  foldl_keeps (fun s => s.fab.chipId) hg l s
theorem ite_fab_chipId (c : Prop) [Decidable c] (s t : State) : (if c then s else t).fab.chipId = if c then s.fab.chipId else t.fab.chipId :=
  apply_ite (fun s : State => s.fab.chipId) _ _ _
@[simp] theorem State.countAt_fab (s : State) (valOff sel n : Nat) : (s.countAt valOff sel n).fab = s.fab := by simp [State.countAt, ite_fab]
@[simp] theorem State.countEvent_fab (s : State) (kind unit event n queue fmt : Nat) : (s.countEvent kind unit event n queue fmt).fab = s.fab :=
  by simp [State.countEvent, ite_fab]
@[simp] theorem State.countEcc_time (s : State) (c corrected parity : Nat) : (s.countEcc c corrected parity).time = s.time := by simp [State.countEcc, ite_time]
@[simp] theorem State.countEcc_fab (s : State) (c corrected parity : Nat) : (s.countEcc c corrected parity).fab = s.fab := by simp [State.countEcc, ite_fab]
@[simp] theorem State.resumeAtIssue_time (s : State) (q : Nat) : (s.resumeAtIssue q).time = s.time := by simp [State.resumeAtIssue, ite_time]
@[simp] theorem State.resumeAtIssue_fab (s : State) (q : Nat) : (s.resumeAtIssue q).fab = s.fab := by simp [State.resumeAtIssue, ite_fab]
@[simp] theorem State.resumeAtIssue_cores (s : State) (q : Nat) : (s.resumeAtIssue q).cores = s.cores := by simp [State.resumeAtIssue, ite_cores]
@[simp] theorem State.cohMsg_fab_chipId (s : State) (dst seq op addr : Nat) (data : List Byte) (poison : Nat) : (s.cohMsg dst seq op addr data poison).fab.chipId = s.fab.chipId :=
  rfl
@[simp] theorem State.tellCopies_fab_chipId (s : State) (line sharers : Nat) : (s.tellCopies line sharers).fab.chipId = s.fab.chipId := by
  unfold State.tellCopies
  exact foldl_keeps (fun s => s.fab.chipId) (fun _ _ => by (repeat' split) <;> simp) _ _
@[simp] theorem State.lineToI_fab_chipId (s : State) (line : Nat) : (s.lineToI line).fab.chipId = s.fab.chipId := by
  unfold State.lineToI
  (repeat' split) <;> simp
@[simp] theorem State.agentWrite_fab_chipId (s : State) (a : Nat) (data : List Byte) : (s.agentWrite a data).fab.chipId = s.fab.chipId := by simp [State.agentWrite]

end Sys2Proof.Machine
end

section
/-! Immediate forms, moves and conversions (R128 to R145, Tables 6.1, 6.9 and 6.11). -/

namespace Sys2Proof.Machine

/-! The values that a special register shows are the ones before the issue. -/

@[simp] theorem State.addQty_fab_chipId (s : State) (q i n l o : Nat) : (s.addQty q i n l o).fab.chipId = s.fab.chipId := by
  apply State.addQty_keeps (fun s => s.fab.chipId) <;> simp

@[simp] theorem State.countIssue_fab_chipId (s : State) (c : Nat) (g : Group) (vec : Bool) (mask act : Nat) :
    (s.countIssue c g vec mask act).fab.chipId = s.fab.chipId := by
  simp [State.countIssue, ite_fab_chipId]

theorem State.countIssue_cores (s : State) (c : Nat) (g : Group) (vec : Bool) (mask act : Nat) : (s.countIssue c g vec mask act).cores = s.cores := by
  unfold State.countIssue
  dsimp only
  split <;> simp

theorem State.booked_time (s1 : State) (is : Issue) (x : Form) (g : Group) : (s1.booked is x g).time = s1.time := by
  simp [State.booked]

theorem State.booked_chipId (s1 : State) (is : Issue) (x : Form) (g : Group) : (s1.booked is x g).fab.chipId = s1.fab.chipId := by
  simp [State.booked]

/-- What noting a group, the counts of the register file and the group itself leave of the core, an issue's books leave. -/
theorem State.booked_core_keeps {β : Type} (π : Core → β) (hn : ∀ k slot, π (Core.noteGroup k slot) = π k)
    (hc : ∀ k a b, π { k with rfCorrected := a, rcParity := b } = π k) (hg : ∀ k r c l, π { k with retry := r, rcache := c, groups := l } = π k)
    (s1 : State) (is : Issue) (x : Form) (g : Group) : π ((s1.booked is x g).core is.core) = π (s1.core is.core) := by
  have hcores (t u : State) (h : t.cores = u.cores) : π (t.core is.core) = π (u.core is.core) := by simp only [State.core, h]
  have hecc (a b : Nat) : π ((s1.countEcc is.core a b).core is.core) = π (s1.core is.core) := by
    refine Eq.trans (b := π ((s1.modCore is.core (fun k => { k with
      rfCorrected := min (2 ^ 32 - 1) (k.rfCorrected + a), rcParity := min (2 ^ 32 - 1) (k.rcParity + b) })).core is.core)) (hcores _ _ ?_) ?_
    · unfold State.countEcc
      dsimp only
      split <;> simp
    · rw [State.modCore_core_self, hc]
  unfold State.booked
  rw [hcores _ _ (State.countIssue_cores _ _ _ _ _ _), hcores _ _ (State.resumeAtIssue_cores _ _), State.modCore_core_self]
  exact (hg _ _ _ _).trans ((hn _ _).trans (hecc _ _))

/-- What noting a group leaves of the core. -/
theorem Core.noteGroup_keeps {β : Type} (π : Core → β) (h : ∀ k r n o c, π { k with recent := r, run := n, order := o, rcache := c } = π k) (k : Core) (slot : Nat) :
    π (k.noteGroup slot) = π k := by
  unfold Core.noteGroup
  split
  · exact h _ _ _ _ _
  · dsimp only
    split
    · exact h _ _ _ _ _
    · exact h _ _ _ _ _

theorem State.booked_core_epoch (s1 : State) (is : Issue) (x : Form) (g : Group) :
    ((s1.booked is x g).core is.core).epoch = (s1.core is.core).epoch :=
  State.booked_core_keeps Core.epoch (Core.noteGroup_keeps _ fun _ _ _ _ _ => rfl) (fun _ _ _ => rfl) (fun _ _ _ _ => rfl) s1 is x g

/-! Operands of format I. -/

theorem Group.sreg_lt (g : Group) (r : Nat) : g.sreg r < 2 ^ 64 := BitVec.isLt _

theorem Group.srcI_lt (g : Group) (f : FmtI) (t : Nat) : g.srcI f t < 2 ^ (if f.S then 64 else 32) := by
  unfold Group.srcI
  by_cases hS : f.S = true
  · simpa only [if_pos hS] using g.sreg_lt f.a
  · simp only [if_neg hS]
    split
    · exact Nat.mod_lt _ (by positivity)
    · exact BitVec.isLt _

/-! The forms. -/

/-- The form of an instruction of format I that reads its operand `a`. -/
def immForm (f : FmtI) (op : Nat) : Form :=
  { word := f.word op, guard := f.guard, neg := f.guardNeg, vec := !f.S
    legal := fun n => fmtISrcOk f n true && (!f.hi || (false && f.S)) && fmtIDstOk f n 1
    srcs := if true then (if fmtIScal f then [256 + f.a] else [f.a]) else []
    hints := if f.reuseA && !fmtIScal f then [f.a] else [], dsts := fmtIDst f 1 }

/-- The form of an instruction of format I without an operand. -/
def bareForm (f : FmtI) (op : Nat) (hiOk : Bool) (dstOk : Nat → Bool) (dsts : List Nat) : Form :=
  { word := f.word op, guard := f.guard, neg := f.guardNeg, vec := !f.S
    legal := fun n => fmtISrcOk f n false && (!f.hi || (hiOk && f.S)) && dstOk n
    srcs := if false then (if fmtIScal f then [256 + f.a] else [f.a]) else []
    hints := if f.reuseA && !fmtIScal f then [f.a] else [], dsts := dsts }

/-- The form of an instruction of format A. -/
def aForm (f : FmtA) (op : Nat) (legal : Nat → Bool) (ins : List (Nat × Nat)) (dsts : List Nat) : Form :=
  { word := f.word op, guard := f.guard, neg := f.guardNeg, legal := legal, vec := !f.S
    srcs := ins.flatMap (fun e => f.srcRegs e.1 e.2), hints := f.hinted, dsts := dsts }

/-- An immediate form has, where it issues legally, the values that its form computes. -/
theorem immediate_stated {s s1 : State} {is : Issue} {f : FmtI} {g : Group} {op size : Nat} {val : Nat → Nat} {want : Nat → Nat}
    {o : Host.Outcome State Fault Refusal}
    (ho : o = .next (s.issueI is f op true false (fun r => fmtIDstOk f r 1) (fmtIDst f 1) (fun x s => x.result s f.S f.dst size (fun t => val (x.g.srcI f t)))))
    (h : IssuesI s is f op g s1) (hsize : size = 1 ∨ size = 2) (hw : ∀ a, a < 2 ^ (if f.S then 64 else 32) → val a = want a) :
    (immediateLegal f g.vregs = true → ∃ t, o = .next t ∧ ResultOf s1 t is g f.guard f.guardNeg f.S f.dst size (fun th => want (g.srcI f th))) ∧
    (immediateLegal f g.vregs = false → o = .next (illegalWord s1 is g)) := by
  have hlegal : (immForm f op).legal g.vregs = immediateLegal f g.vregs := by simp [immForm, immediateLegal]
  have hregs : ∀ r ∈ (immForm f op).srcs ++ (immForm f op).dsts, r ∈ [if fmtIScal f then 256 + f.a else f.a] ++ fmtIDst f 1 := by
    intro r hr
    simp only [immForm, if_true] at hr
    split at hr <;> simp_all
  refine ⟨fun hok => ?_, fun hno => ho.trans (congrArg Host.Outcome.next (State.issue_illegal (x := immForm f op) _ h (hlegal.trans hno)))⟩
  have hacts := State.issue_acts (x := immForm f op) (fun x s => x.result s f.S f.dst size (fun t => val (x.g.srcI f t))) h hregs (hlegal.trans hok) rfl
  refine ⟨_, ho.trans (congrArg Host.Outcome.next hacts), ?_⟩
  have hval : (fun t => val ((issOf is (immForm f op) g).g.srcI f t)) = fun th => want (g.srcI f th) := funext fun th => hw _ (g.srcI_lt f th)
  rw [hval]
  exact result_ends (x := immForm f op) h f.S f.dst size hsize _

theorem scalarSize_cases (S : Bool) : (if S then 2 else 1) = 1 ∨ (if S then 2 else 1) = 2 := by cases S <;> simp

theorem wrapInt_add_signExt (n a imm : Nat) (hn : n = 32 ∨ n = 64) :
    wrapInt n ((a : Int) + signExt 32 imm) = if n = 64 then (a + (BitVec.ofInt 64 (signExt 32 imm)).toNat) % 2 ^ 64 else (a + imm) % 2 ^ 32 := by
  rw [wrapInt_eq_ofInt, BitVec.ofInt_add, BitVec.toNat_add, BitVec.ofInt_natCast, BitVec.toNat_ofNat]
  rcases hn with rfl | rfl
  · rw [if_neg (by decide), signExt_eq_toInt, BitVec.ofInt_toInt, BitVec.toNat_ofNat, ← Nat.add_mod]
  · rw [if_pos rfl, Nat.mod_add_mod]

/-- An integer immediate form. -/
theorem intImm_stated {s s1 : State} {is : Issue} {f : FmtI} {g : Group} {op : Nat} {val : Nat → Nat → Nat} (want : Nat → Nat)
    {o : Host.Outcome State Fault Refusal} (ho : o = .next (s.intImm is f op val)) (h : IssuesI s is f op g s1)
    (hw : ∀ a, a < 2 ^ (if f.S then 64 else 32) → val (if f.S then 64 else 32) a = want a) :
    (immediateLegal f g.vregs = true →
      ∃ t, o = .next t ∧ ResultOf s1 t is g f.guard f.guardNeg f.S f.dst (if f.S then 2 else 1) (fun th => want (g.srcI f th))) ∧
    (immediateLegal f g.vregs = false → o = .next (illegalWord s1 is g)) := by
  unfold State.intImm at ho
  dsimp only at ho
  exact immediate_stated ho h (scalarSize_cases _) hw

/-- A floating immediate form. -/
theorem fpImm_stated {s s1 : State} {is : Issue} {f : FmtI} {g : Group} {op : Nat} {val : Nat → Nat → Nat}
    {o : Host.Outcome State Fault Refusal} (ho : o = .next (s.fpImm is f op val)) (h : IssuesI s is f op g s1) :
    (immediateLegal f g.vregs = true →
      ∃ t, o = .next t ∧ ResultOf s1 t is g f.guard f.guardNeg f.S f.dst 1 (fun th => val (g.srcI f th % 2 ^ 32) f.imm)) ∧
    (immediateLegal f g.vregs = false → o = .next (illegalWord s1 is g)) := by
  unfold State.fpImm at ho
  exact immediate_stated (val := fun a => val (a % 2 ^ 32) f.imm) ho h (.inl rfl) fun _ _ => rfl

/-! Moves. -/

theorem movi_stated (s s1 : State) (is : Issue) (f : FmtI) (g : Group) (h : Issues s is (f.word 0x50) (fmtIDst f 1) g s1)
    (ha : f.a = 0) (hr : f.reuseA = false) (hs : f.scalA = false) (hd : fmtIDstOk f g.vregs 1 = true) (hhi : f.hi = true → f.S = true) :
    ∃ t, exec (.movi is f) s = .next t ∧
      ResultOf s1 t is g f.guard f.guardNeg f.S f.dst (if f.S then 2 else 1) (fun _ => if f.hi then f.imm * 2 ^ 32 + g.sreg f.dst % 2 ^ 32 else f.imm) := by
  have hacts := State.issue_acts (x := bareForm f 0x50 true (fun r => fmtIDstOk f r 1) (fmtIDst f 1))
    (fun x s => x.result s f.S f.dst (if f.S then 2 else 1) (fun _ => if f.hi then x.g.sreg f.dst % 2 ^ 32 + 2 ^ 32 * f.imm else f.imm)) h
    (fun r hr => by simpa [bareForm] using hr) (by cases hh : f.hi <;> simp_all [bareForm, fmtISrcOk]) rfl
  refine ⟨_, congrArg Host.Outcome.next hacts, ?_⟩
  rw [show (fun _ : Nat => if f.hi then f.imm * 2 ^ 32 + g.sreg f.dst % 2 ^ 32 else f.imm) =
    fun _ => if f.hi then g.sreg f.dst % 2 ^ 32 + 2 ^ 32 * f.imm else f.imm by simp only [Nat.add_comm, Nat.mul_comm]]
  exact result_ends (x := bareForm f 0x50 true (fun r => fmtIDstOk f r 1) (fmtIDst f 1)) h f.S f.dst _ (scalarSize_cases _) _

/-- The special values as a list (Table 6.1). -/
theorem special_eq (s1 : State) (is : Issue) (x : Form) (g : Group) (code th : Nat) : code ≤ 9 →
    (issOf is x g).special (s1.booked is x g) code th =
      [th, g.width, is.slot, g.inBlock, is.core, s1.fab.chipId, g.live, g.issueMask is.pc, s1.domainTime (is.core / 24),
        (s1.core is.core).epoch].getD code 0 := by
  intro hc
  interval_cases code
  · rfl
  · rfl
  · rfl
  · rfl
  · rfl
  · exact s1.booked_chipId is x g
  · rfl
  · rfl
  · exact congrArg (fun t : TimeSt => (t.replicas.getD (if 32 ≤ is.core / 24 then is.core / 24 - 7 else is.core / 24) Replica.initial).count)
      (s1.booked_time is x g)
  · exact s1.booked_core_epoch is x g

/-- The form of SRD. -/
def srdForm (f : FmtI) : Form :=
  bareForm f 0x61 false (fun n => decide (f.imm ≤ 9) && !(f.S && decide (f.imm = 0)) && fmtIDstOk f n (srdSize f.imm)) (fmtIDst f (srdSize f.imm))

theorem srdSize_cases (code : Nat) : srdSize code = 1 ∨ srdSize code = 2 := by
  unfold srdSize
  split <;> simp

theorem srd_stated (s s1 : State) (is : Issue) (f : FmtI) (g : Group) (h : Issues s is (f.word 0x61) (fmtIDst f (srdSize f.imm)) g s1)
    (ha : f.a = 0) (hr : f.reuseA = false) (hs : f.scalA = false) (hhi : f.hi = false) :
    (f.imm ≤ 9 → (f.S = true → f.imm ≠ 0) → fmtIDstOk f g.vregs (srdSize f.imm) = true →
      ∃ t, exec (.srd is f) s = .next t ∧
        ResultOf s1 t is g f.guard f.guardNeg f.S f.dst (srdSize f.imm) (fun th =>
          [th, g.width, is.slot, g.inBlock, is.core, s1.fab.chipId, g.live, g.issueMask is.pc, s1.domainTime (is.core / 24),
            (s1.core is.core).epoch].getD f.imm 0)) ∧
    (9 < f.imm ∨ (f.S = true ∧ f.imm = 0) →
      exec (.srd is f) s = .next (s1.coreFault is.core is.slot (g.first is.pc) 0x04 is.pc 0)) := by
  constructor
  · intro himm hS hd
    have hacts := State.issue_acts (x := srdForm f) (fun x s => x.result s f.S f.dst (srdSize f.imm) (x.special s f.imm)) h
      (fun r hr => by simpa [srdForm, bareForm] using hr)
      (by cases hh : f.S <;> simp_all [srdForm, bareForm, fmtISrcOk]) rfl
    refine ⟨_, congrArg Host.Outcome.next hacts, ?_⟩
    have hend := result_ends (x := srdForm f) h f.S f.dst _ (srdSize_cases f.imm) ((issOf is (srdForm f) g).special (s1.booked is (srdForm f) g) f.imm)
    rw [show (issOf is (srdForm f) g).special (s1.booked is (srdForm f) g) f.imm = fun th =>
      [th, g.width, is.slot, g.inBlock, is.core, s1.fab.chipId, g.live, g.issueMask is.pc, s1.domainTime (is.core / 24),
        (s1.core is.core).epoch].getD f.imm 0 from funext fun th => special_eq s1 is _ g f.imm th himm] at hend ⊢
    exact hend
  · intro hbad
    have hform : (decide (f.imm ≤ 9) && !(f.S && decide (f.imm = 0))) = false := by
      rcases hbad with h9 | ⟨hS, h0⟩
      · rw [decide_eq_false (by omega), Bool.false_and]
      · simp [hS, h0]
    have hlegal : (srdForm f).legal g.vregs = false := by simp only [srdForm, bareForm, hform, Bool.false_and, Bool.and_false]
    have hill := State.issue_illegal (x := srdForm f) (fun x s => x.result s f.S f.dst (srdSize f.imm) (x.special s f.imm)) h hlegal
    exact congrArg Host.Outcome.next hill

theorem act_eq_zero_iff (is : Issue) (x : Form) (g : Group) :
    (issOf is x g).act = 0 ↔ ¬∃ th, th < 64 ∧ g.acting is.pc x.guard x.neg th := by
  have hbits (th : Nat) : bit (issOf is x g).act th = true ↔ th < 64 ∧ g.acting is.pc x.guard x.neg th := Group.bit_guardMask _ _ _ _ _
  constructor
  · rintro h0 ⟨th, hth⟩
    have hb := (hbits th).mpr hth
    simp [h0, bit] at hb
  · intro hno
    refine Nat.eq_of_testBit_eq fun i => ?_
    rw [Nat.zero_testBit, ← bit_eq_testBit]
    exact Bool.eq_false_iff.mpr fun hb => hno ⟨i, (hbits i).mp hb⟩

/-! Moves between threads. -/

/-- The form of V2S. -/
def v2sForm (f : FmtA) : Form :=
  aForm f 0x62 (fun n => movTypes.contains f.type && decide (f.sub = 0 ∧ f.rnd = 0) && !f.sat && !f.S && f.srcOk n 2 (typeRegs f.type) && bit f.scal 1 &&
    f.srcOk n 1 1 && f.unused 0 && sregOk f.dst) [(2, typeRegs f.type), (1, 1)] [256 + f.dst]

theorem v2s_stated (s s1 : State) (is : Issue) (f : FmtA) (g : Group)
    (h : Issues s is (f.word 0x62) (f.srcRegs 2 (typeRegs f.type) ++ f.srcRegs 1 1 ++ [256 + f.dst]) g s1)
    (htype : f.type ∈ movTypes) (hsub : f.sub = 0) (hrnd : f.rnd = 0) (hsat : f.sat = false) (hS : f.S = false)
    (h2 : f.srcOk g.vregs 2 (typeRegs f.type) = true) (hb : bit f.scal 1 = true) (h1 : f.srcOk g.vregs 1 1 = true) (h0 : f.unused 0 = true)
    (hdst : f.dst < 64) :
    ∃ t h, exec (.v2s is f) s = .next t ∧ IssueFrame s1 t is g h ∧
      h.sreg f.dst = (if ∃ th, th < 64 ∧ g.acting is.pc f.guard f.guardNeg th then g.srcA f 2 (typeRegs f.type) (g.sreg f.b % 2 ^ 32 % g.width) % 2 ^ 64
        else g.sreg f.dst) ∧
      (∀ r, r ≠ f.dst → h.sreg r = g.sreg r) ∧ (∀ r th, h.vreg r th = g.vreg r th) ∧ (∀ r th, h.pred r th = g.pred r th) := by
  have hacts := State.issue_acts (x := v2sForm f)
    (fun x s => if x.act = 0 then x.done s x.g
      else x.done s (x.g.setS f.dst (x.g.srcA f 2 (typeRegs f.type) (x.g.srcA f 1 1 x.lead % x.g.width)))) h
    (fun r hr => by simpa [v2sForm, aForm] using hr) (by simp [v2sForm, aForm, htype, hsub, hrnd, hsat, hS, h2, hb, h1, h0, sregOk, hdst]) rfl
  have hframe (g2 : Group) (hg) := issue_frame (x := v2sForm f) (g := g) h g2 hg _ ⟨rfl, rfl, rfl⟩
  by_cases hact : ∃ th, th < 64 ∧ g.acting is.pc f.guard f.guardNeg th
  · rw [if_neg (fun h0 => (act_eq_zero_iff is (v2sForm f) g).mp h0 hact)] at hacts
    have hb : (issOf is (v2sForm f) g).g.srcA f 1 1 (issOf is (v2sForm f) g).lead = g.sreg f.b % 2 ^ 32 := by
      refine (Group.srcA_age g _ f 1 1 _).trans ?_
      simp [Group.srcA, FmtA.isScal, hb, FmtA.field]
    refine ⟨_, _, congrArg Host.Outcome.next hacts, hframe _ ⟨rfl, rfl, rfl, rfl, rfl, rfl, rfl⟩, ?_, fun r hr => ?_, fun _ _ => rfl, fun _ _ => rfl⟩
    · rw [if_pos hact, hb]
      exact (Group.sreg_setS _ _ _ _).trans ((if_pos rfl).trans (congrArg (· % 2 ^ 64) (Group.srcA_age _ _ _ _ _ _)))
    · exact (Group.sreg_setS _ _ _ _).trans (if_neg hr)
  · rw [if_pos ((act_eq_zero_iff is (v2sForm f) g).mpr hact)] at hacts
    exact ⟨_, _, congrArg Host.Outcome.next hacts, hframe _ ⟨rfl, rfl, rfl, rfl, rfl, rfl, rfl⟩, (if_neg hact).symm, fun _ _ => rfl, fun _ _ => rfl, fun _ _ => rfl⟩

/-- Only the values in the 64 threads of a group matter. -/
theorem VectorResult.congr {s1 t : State} {is : Issue} {g : Group} {guard dst size : Nat} {neg : Bool} {val want : Nat → Nat}
    (h : VectorResult s1 t is g guard neg dst size val) (hw : ∀ th, th < 64 → val th = want th) : VectorResult s1 t is g guard neg dst size want := by
  obtain ⟨k, hframe, hv, hs, hp⟩ := h
  exact ⟨k, hframe, fun r th hth => (hv r th hth).trans (by rw [hw th hth]), hs, hp⟩

/-- The form of SHFL. -/
def shflForm (f : FmtA) : Form :=
  aForm f 0x65 (fun n => decide (f.type = 0 ∧ f.sub < 4 ∧ f.rnd = 0) && !f.sat && !f.S && f.srcOk n 2 1 && f.srcOk n 1 1 && f.unused 0 && vregOk n 1 f.dst)
    [(2, 1), (1, 1)] [f.dst]

/-- What SHFL gives a thread. -/
def shflVal (g : Group) (f : FmtA) (t : Nat) : Nat :=
  match shflThread f.sub g.width t (g.srcA f 1 1 t) with
  | some j => g.srcA f 2 1 j
  | none => Config.unstated 1 (g.srcA f 2 1 t) (g.srcA f 1 1 t) % 2 ^ 32

theorem shflVal_age (g : Group) (m : Nat) (f : FmtA) : shflVal (g.age m) f = shflVal g f := by
  funext t
  simp only [shflVal, Group.srcA_age]
  rfl

theorem shflVal_xor {g : Group} {f : FmtA} {th : Nat} (hsub : f.sub = 3) (hth : th < 64) :
    shflVal g f th = if th ^^^ g.srcA f 1 1 th < g.width then g.srcA f 2 1 (th ^^^ g.srcA f 1 1 th)
      else Config.unstated 1 (g.srcA f 2 1 th) (g.srcA f 1 1 th) % 2 ^ 32 := by
  have hx : natXor 32 th (g.srcA f 1 1 th) = th ^^^ g.srcA f 1 1 th := natXor_eq (by omega) (g.srcA_lt f 1 1 th)
  unfold shflVal shflThread
  rw [hsub]
  simp only [hx]
  by_cases hw : th ^^^ g.srcA f 1 1 th < g.width
  · simp [hw]
  · simp [hw]

theorem vregOk_one {n r : Nat} (h : r < n) : vregOk n 1 r = true := by
  simp [vregOk]; omega

theorem shfl_stated (s s1 : State) (is : Issue) (f : FmtA) (g : Group) (h : Issues s is (f.word 0x65) (f.srcRegs 2 1 ++ f.srcRegs 1 1 ++ [f.dst]) g s1)
    (htype : f.type = 0) (hsub : f.sub < 4) (hrnd : f.rnd = 0) (hsat : f.sat = false) (hS : f.S = false) (h2 : f.srcOk g.vregs 2 1 = true)
    (h1 : f.srcOk g.vregs 1 1 = true) (h0 : f.unused 0 = true) (hdst : f.dst < g.vregs) :
    ∃ t, exec (.shfl is f) s = .next t ∧ VectorResult s1 t is g f.guard f.guardNeg f.dst 1 (shflVal g f) := by
  have hacts := State.issue_acts (x := shflForm f) (fun x s => x.result s false f.dst 1 (shflVal x.g f)) h
    (fun r hr => by simpa [shflForm, aForm] using hr) (by simp [shflForm, aForm, htype, hsub, hrnd, hsat, hS, h2, h1, h0, vregOk_one hdst]) rfl
  refine ⟨_, congrArg Host.Outcome.next hacts, ?_⟩
  have hend := result_ends (x := shflForm f) h false f.dst 1 (.inl rfl) (shflVal (issOf is (shflForm f) g).g f)
  rw [show shflVal (issOf is (shflForm f) g).g f = shflVal g f from shflVal_age g _ f] at hend ⊢
  exact hend

/-! Conversions. -/

/-- The form of CVT. -/
def cvtForm (f : FmtA) : Form :=
  aForm f 0x63 (fun n => cvtTypes.contains f.type && cvtTypes.contains f.sub && decide (f.rnd < 3) && (!f.S || cvtScalar f.type f.sub) &&
      f.srcOk n 2 (typeRegs f.sub) && (if f.rnd = 2 then f.srcOk n 1 1 else f.unused 1) && f.unused 0 && f.dstOk n (typeRegs f.type))
    ([(2, typeRegs f.sub)] ++ if f.rnd = 2 then [(1, 1)] else []) (f.dstRegs (typeRegs f.type))

/-- A rounding mode of Table 6.9, with random bits from an operand of 32 bits. -/
theorem cvtRnd_eq {rnd b : Nat} (hb : b < 2 ^ 32) : cvtRnd rnd b = if rnd = 2 then .sr (mix b % 65536) else if rnd = 1 then .rz else .rne := by
  rw [cvtRnd, Nat.mod_eq_of_lt hb]
  rfl

theorem cvt_stated (s s1 : State) (is : Issue) (f : FmtA) (g : Group)
    (h : Issues s is (f.word 0x63) (f.srcRegs 2 (typeRegs f.sub) ++ (if f.rnd = 2 then f.srcRegs 1 1 else []) ++ f.dstRegs (typeRegs f.type)) g s1)
    (htype : f.type ∈ cvtTypes) (hsub : f.sub ∈ cvtTypes) (hrnd : f.rnd < 3) (hS : f.S = true → cvtScalar f.type f.sub = true)
    (h2 : f.srcOk g.vregs 2 (typeRegs f.sub) = true) (h1 : f.rnd = 2 → f.srcOk g.vregs 1 1 = true) (h1' : f.rnd ≠ 2 → f.unused 1 = true)
    (h0 : f.unused 0 = true) (hd : f.dstOk g.vregs (typeRegs f.type) = true) :
    ∃ t, exec (.cvt is f) s = .next t ∧
      ResultOf s1 t is g f.guard f.guardNeg f.S f.dst (typeRegs f.type) (fun th =>
        cvtExtend f.type (convert f.type f.sub
          (if f.rnd = 2 then .sr (mix (g.srcA f 1 1 th) % 65536) else if f.rnd = 1 then .rz else .rne) f.sat (g.srcA f 2 (typeRegs f.sub) th))) := by
  have hlegal : (cvtForm f).legal g.vregs = true := by
    simp only [cvtForm, aForm, Bool.and_eq_true, decide_eq_true_eq, List.contains_iff_mem, Bool.or_eq_true, Bool.not_eq_true']
    refine ⟨⟨⟨⟨⟨⟨⟨htype, hsub⟩, hrnd⟩, ?_⟩, h2⟩, ?_⟩, h0⟩, hd⟩
    · exact (Bool.eq_false_or_eq_true f.S).elim (fun h => .inr (hS h)) .inl
    · split
      · exact h1 ‹_›
      · exact h1' ‹_›
  have hacts := State.issue_acts (x := cvtForm f) (fun x s => x.result s f.S f.dst (typeRegs f.type) (fun t =>
      cvtExtend f.type (convert f.type f.sub (cvtRnd f.rnd (x.g.srcA f 1 1 t)) f.sat (x.g.srcA f 2 (typeRegs f.sub) t)))) h
    (fun r hr => by
      simp only [cvtForm, aForm] at hr
      split at hr <;> simp_all) hlegal rfl
  refine ⟨_, congrArg Host.Outcome.next hacts, ?_⟩
  have hend := result_ends (x := cvtForm f) h f.S f.dst _ (typeRegs_cases f.type) (fun t =>
      cvtExtend f.type (convert f.type f.sub (cvtRnd f.rnd ((issOf is (cvtForm f) g).g.srcA f 1 1 t)) f.sat ((issOf is (cvtForm f) g).g.srcA f 2 (typeRegs f.sub) t)))
  simp only [issOf, Group.srcA_age, cvtRnd_eq (g.srcA_lt f 1 1 _)] at hend ⊢
  exact hend

/-- The form of CVT.MX. -/
def cvtMxForm (f : FmtA) : Form :=
  aForm f 0x64 (fun n => [0x04, 0x05, 0x06, 0x07, 0x08, 0x09].contains f.type && decide (f.sub = 1 ∨ f.sub = 2) && decide (f.rnd < 3) && !f.S &&
      f.srcOk n 2 1 && (if f.rnd = 2 then f.srcOk n 1 1 else f.unused 1) && f.unused 0 && vregOk n 1 f.dst)
    ([(2, 1)] ++ if f.rnd = 2 then [(1, 1)] else []) [f.dst]

/-- The value of a thread's element before it is quantised. -/
def mxSource (g : Group) (f : FmtA) (j : Nat) : FVal :=
  if f.sub = 1 then Fmt.fp32.decode (g.srcA f 2 1 j) else Fmt.bf16.decode (g.srcA f 2 1 j % 2 ^ 16)

/-- The scale of the block of 32 threads that begins at thread 32 k. -/
def mxBlockScale (g : Group) (f : FmtA) (act k : Nat) : Nat :=
  mxScale (mxEmax f.type) ((bitList 64 (act / 2 ^ (32 * k) % 2 ^ 32)).map (fun t => mxSource g f (32 * k + t)))

/-- What CVT.MX gives a thread. -/
def mxVal (g : Group) (f : FmtA) (act t : Nat) : Nat :=
  mxElem (fmtOf f.type) (cvtRnd f.rnd (g.srcA f 1 1 t)) (mxBlockScale g f act (t / 32)) (mxSource g f t) % 256 + 256 * mxBlockScale g f act (t / 32)

theorem mxSource_eq (g : Group) (f : FmtA) (t : Nat) :
    (if f.sub = 1 then Fmt.fp32 else Fmt.bf16).decode (g.srcA f 2 1 t % 2 ^ (if f.sub = 1 then Fmt.fp32 else Fmt.bf16).width) = mxSource g f t := by
  unfold mxSource
  split
  · exact congrArg _ (Nat.mod_eq_of_lt (g.srcA_lt f 2 1 t))
  · rfl

/-- The bits of a block of 32 are the threads of the block that act. -/
theorem bitList_block (is : Issue) (x : Form) (g : Group) {k : Nat} (hk : k < 2) :
    (bitList 64 ((issOf is x g).act / 2 ^ (32 * k) % 2 ^ 32)).map (fun t => 32 * k + t) =
      ((List.range 32).map (fun i => k * 32 + i)).filter (fun j => decide (g.acting is.pc x.guard x.neg j)) := by
  have hbit (i : Nat) (hi : i < 64) : bit ((issOf is x g).act / 2 ^ (32 * k) % 2 ^ 32) i = (decide (i < 32) && decide (g.acting is.pc x.guard x.neg (k * 32 + i))) := by
    rw [bit_eq_testBit, Nat.testBit_mod_two_pow, ← Nat.shiftRight_eq_div_pow, Nat.testBit_shiftRight, ← bit_eq_testBit]
    by_cases h32 : i < 32
    · rw [Nat.mul_comm 32 k]
      exact congrArg _ (Bool.eq_iff_iff.mpr ((bit_actMask is x g (by omega)).trans decide_eq_true_iff.symm))
    · rw [decide_eq_false h32, Bool.false_and, Bool.false_and]
  have hhigh : ((List.range 32).map (32 + ·)).filter (fun i => decide (i < 32) && decide (g.acting is.pc x.guard x.neg (k * 32 + i))) = [] := by simp
  rw [bitList, List.filter_congr fun i hi => hbit i (List.mem_range.mp hi), List.filter_map, show List.range 64 = List.range 32 ++ (List.range 32).map (32 + ·) from by decide,
    List.filter_append, hhigh, List.append_nil, Nat.mul_comm 32 k]
  exact congrArg _ (List.filter_congr fun i hi => by simp [List.mem_range.mp hi])

theorem mxBlockScale_eq (is : Issue) (x : Form) (g : Group) (f : FmtA) {k : Nat} (hk : k < 2) :
    mxBlockScale g f (issOf is x g).act k =
      mxScale (mxEmax f.type) ((((List.range 32).map (fun i => k * 32 + i)).filter (fun j => decide (g.acting is.pc x.guard x.neg j))).map (mxSource g f)) := by
  rw [mxBlockScale, ← bitList_block is x g hk, List.map_map]
  rfl

theorem mxVal_age (g : Group) (m : Nat) (f : FmtA) (act : Nat) : mxVal (g.age m) f act = mxVal g f act := by
  funext t
  simp only [mxVal, mxBlockScale, mxSource, Group.srcA_age]

/-- CVT.MX as the issue computes it: one scale for each half of the group. -/
def mxRaw (f : FmtA) (x : Iss) (t : Nat) : Nat :=
  let val (t : Nat) : FVal := (if f.sub = 1 then Fmt.fp32 else Fmt.bf16).decode (x.g.srcA f 2 1 t % 2 ^ (if f.sub = 1 then Fmt.fp32 else Fmt.bf16).width)
  let scale (k : Nat) : Nat := mxScale (mxEmax f.type) ((bitList 64 (x.act / 2 ^ (32 * k) % 2 ^ 32)).map (fun t => val (32 * k + t)))
  mxElem (fmtOf f.type) (cvtRnd f.rnd (x.g.srcA f 1 1 t)) (if t < 32 then scale 0 else scale 1) (val t) % 256 + 256 * (if t < 32 then scale 0 else scale 1)

theorem mxRaw_eq (is : Issue) (f : FmtA) (g : Group) {t : Nat} (ht : t < 64) :
    mxRaw f (issOf is (cvtMxForm f) g) t = mxVal g f (issOf is (cvtMxForm f) g).act t := by
  rw [← mxVal_age g (g.issueMask is.pc)]
  unfold mxRaw mxVal
  simp only [mxSource_eq]
  by_cases h32 : t < 32
  · rw [if_pos h32, Nat.div_eq_of_lt h32]
    rfl
  · rw [if_neg h32, show t / 32 = 1 by omega]
    rfl

theorem cvtMx_stated (s s1 : State) (is : Issue) (f : FmtA) (g : Group)
    (h : Issues s is (f.word 0x64) (f.srcRegs 2 1 ++ (if f.rnd = 2 then f.srcRegs 1 1 else []) ++ [f.dst]) g s1)
    (hl : (cvtMxForm f).legal g.vregs = true) :
    ∃ t, exec (.cvtMx is f) s = .next t ∧ VectorResult s1 t is g f.guard f.guardNeg f.dst 1 (mxVal g f (issOf is (cvtMxForm f) g).act) := by
  have hregs : ∀ r ∈ (cvtMxForm f).srcs ++ (cvtMxForm f).dsts, r ∈ f.srcRegs 2 1 ++ (if f.rnd = 2 then f.srcRegs 1 1 else []) ++ [f.dst] := by
    intro r hr
    simp only [cvtMxForm, aForm] at hr
    split at hr <;> simp_all
  have hacts := State.issue_acts (x := cvtMxForm f) (fun x s => x.result s false f.dst 1 (mxRaw f x)) h hregs hl rfl
  exact ⟨_, congrArg Host.Outcome.next hacts, (result_ends (x := cvtMxForm f) h false f.dst 1 (.inl rfl) _).congr fun t ht => mxRaw_eq is f g ht⟩

theorem cvtMx_value {is : Issue} {f : FmtA} {g : Group} {th : Nat} (hth : th < 64) :
    mxVal g f (issOf is (cvtMxForm f) g).act th =
      mxElem (fmtOf f.type) (if f.rnd = 2 then .sr (mix (g.srcA f 1 1 th) % 65536) else if f.rnd = 1 then .rz else .rne)
          (mxScale (mxEmax f.type) ((((List.range 32).map (fun i => th / 32 * 32 + i)).filter (fun j => decide (g.acting is.pc f.guard f.guardNeg j))).map (mxSource g f)))
          (mxSource g f th) % 256 +
        256 * mxScale (mxEmax f.type) ((((List.range 32).map (fun i => th / 32 * 32 + i)).filter (fun j => decide (g.acting is.pc f.guard f.guardNeg j))).map (mxSource g f)) := by
  unfold mxVal
  rw [mxBlockScale_eq is (cvtMxForm f) g f (by omega), cvtRnd_eq (g.srcA_lt f 1 1 th)]
  rfl

theorem cvtMx_legal {f : FmtA} {g : Group} (htype : f.type ∈ [0x04, 0x05, 0x06, 0x07, 0x08, 0x09]) (hsub : f.sub = 1 ∨ f.sub = 2) (hrnd : f.rnd < 3)
    (hS : f.S = false) (h2 : f.srcOk g.vregs 2 1 = true) (h1 : f.rnd = 2 → f.srcOk g.vregs 1 1 = true) (h1' : f.rnd ≠ 2 → f.unused 1 = true)
    (h0 : f.unused 0 = true) (hdst : f.dst < g.vregs) : (cvtMxForm f).legal g.vregs = true := by
  simp only [cvtMxForm, aForm, Bool.and_eq_true, decide_eq_true_eq, List.contains_iff_mem, Bool.not_eq_true']
  refine ⟨⟨⟨⟨⟨⟨⟨htype, hsub⟩, hrnd⟩, hS⟩, h2⟩, ?_⟩, h0⟩, vregOk_one hdst⟩
  split
  · exact h1 ‹_›
  · exact h1' ‹_›

/-- Settles O19: each instruction is its form with its own value, and the special values are the ones that the books of the issue leave. -/
theorem immediatesAndMoves : Obligations.ImmediatesAndMoves := by
  unfold Obligations.ImmediatesAndMoves
  refine ⟨⟨fun s s1 is f g h => ?_,
      fun s s1 is f g h => intImm_stated (fun a => natAnd (if f.S then 64 else 32) a f.imm) (val := fun n a => natAnd n a f.imm) rfl h fun _ _ => rfl,
      fun s s1 is f g h => intImm_stated (fun a => natOr (if f.S then 64 else 32) a f.imm) (val := fun n a => natOr n a f.imm) rfl h fun _ _ => rfl,
      fun s s1 is f g h => intImm_stated (fun a => natXor (if f.S then 64 else 32) a f.imm) (val := fun n a => natXor n a f.imm) rfl h fun _ _ => rfl,
      fun s s1 is f g h => ?_, fun s s1 is f g h => ?_,
      fun s s1 is f g h => fpImm_stated rfl h, fun s s1 is f g h => fpImm_stated rfl h,
      fun s s1 is f g h ha hr hs _ hd hhi => movi_stated s s1 is f g h ha hr hs hd hhi⟩,
    fun s s1 is f g h => value_stated (o := exec (.mov is f) s) (val := fun g t => g.srcA f 2 (typeRegs f.type) t) rfl h (fun m => by simp only [Group.srcA_age]) fun _ _ => rfl,
    fun s s1 is f g h ha hr hs hhi => srd_stated s s1 is f g h ha hr hs hhi,
    fun s s1 is f g h htype hsub hrnd hsat hS h2 hb h1 h0 hdst => v2s_stated s s1 is f g h htype hsub hrnd hsat hS h2 hb h1 h0 hdst,
    fun s s1 is f g h htype hsub hrnd hsat hS h2 h1 h0 hdst => ?_,
    fun s s1 is f g h htype hsub hrnd hS h2 h1 h1' h0 hd => cvt_stated s s1 is f g h htype hsub hrnd hS h2 h1 h1' h0 hd,
    fun s s1 is f g h htype hsub hrnd hS h2 h1 h1' h0 hdst => ?_⟩
  · refine intImm_stated (fun a => if f.S then (a + (BitVec.ofInt 64 (signExt 32 f.imm)).toNat) % 2 ^ 64 else (a + f.imm) % 2 ^ 32)
      (val := fun n a => wrapInt n ((a : Int) + signExt 32 f.imm)) rfl h fun a _ => ?_
    cases f.S
    · exact wrapInt_add_signExt 32 a f.imm (.inl rfl)
    · exact wrapInt_add_signExt 64 a f.imm (.inr rfl)
  · refine intImm_stated (fun a => if f.S then (a <<< (f.imm % 64)) % 2 ^ 64 else (a <<< (f.imm % 32)) % 2 ^ 32) (val := fun n a => shiftL n a f.imm) rfl h fun a _ => ?_
    cases f.S
    · exact shiftL_eq 32 a f.imm
    · exact shiftL_eq 64 a f.imm
  · refine intImm_stated (fun a => if f.S then a >>> (f.imm % 64) else a >>> (f.imm % 32)) (val := fun n a => shiftR n false a f.imm) rfl h fun a ha => ?_
    revert ha
    cases f.S
    · exact shiftR_logic (n := 32) f.imm
    · exact shiftR_logic (n := 64) f.imm
  · obtain ⟨t, ht, hr⟩ := shfl_stated s s1 is f g h htype hsub hrnd hsat hS h2 h1 h0 hdst
    refine ⟨t, ht, hr.congr fun th hth => ?_⟩
    by_cases h3 : f.sub = 3
    · simpa only [h3] using shflVal_xor h3 hth
    · have hlt : f.sub < 3 := by omega
      unfold shflVal
      generalize f.sub = m at hlt
      interval_cases m <;> rfl
  · obtain ⟨t, ht, hr⟩ := cvtMx_stated s s1 is f g h (cvtMx_legal htype hsub hrnd hS h2 h1 h1' h0 hdst)
    exact ⟨t, ht, hr.congr fun th hth => cvtMx_value hth⟩

end Sys2Proof.Machine
end

section
/-! What the books of an issue, a kill and a freed slot leave as they were. -/

namespace Sys2Proof.Machine

@[simp] theorem State.countAt_syn (s : State) (valOff sel n : Nat) : (s.countAt valOff sel n).syn = s.syn := by simp [State.countAt, ite_syn]
@[simp] theorem State.countEvent_syn (s : State) (kind unit event n queue fmt : Nat) : (s.countEvent kind unit event n queue fmt).syn = s.syn :=
  by simp [State.countEvent, ite_syn]
@[simp] theorem State.countIssue_syn (s : State) (c : Nat) (g : Group) (vec : Bool) (mask act : Nat) : (s.countIssue c g vec mask act).syn = s.syn :=
  by simp [State.countIssue, ite_syn]
@[simp] theorem foldl_fab_reqs {α : Type} {g : State → α → State} (l : List α) (s : State) (hg : ∀ u a, (g u a).fab.reqs = u.fab.reqs) : (l.foldl g s).fab.reqs = s.fab.reqs :=
  foldl_keeps (fun s => s.fab.reqs) hg l s
theorem ite_fab_reqs (c : Prop) [Decidable c] (s t : State) : (if c then s else t).fab.reqs = if c then s.fab.reqs else t.fab.reqs :=
  apply_ite (fun s : State => s.fab.reqs) _ _ _
@[simp] theorem State.countEcc_syn (s : State) (c corrected parity : Nat) : (s.countEcc c corrected parity).syn = s.syn := by simp [State.countEcc, ite_syn]
@[simp] theorem State.countEcc_fe (s : State) (c corrected parity : Nat) : (s.countEcc c corrected parity).fe = s.fe := by simp [State.countEcc, ite_fe]
@[simp] theorem State.resumeAtIssue_syn (s : State) (q : Nat) : (s.resumeAtIssue q).syn = s.syn := by simp [State.resumeAtIssue, ite_syn]
@[simp] theorem State.booked_syn (s1 : State) (is : Issue) (x : Form) (g : Group) : (s1.booked is x g).syn = s1.syn := by simp [State.booked]
@[simp] theorem State.setShares_cores (s : State) (g : List Share → List Share) : (s.setShares g).cores = s.cores := rfl
@[simp] theorem State.stopShares_cores (s : State) (p : Nat → Bool) : (s.stopShares p).cores = s.cores := rfl
@[simp] theorem State.countKill_cores (s : State) (code : Nat) : (s.countKill code).cores = s.cores := by simp [State.countKill, ite_cores]
@[simp] theorem State.kill_cores (s : State) (q code : Nat) (site : Site) (inFlight : optParam Bool false) : (s.kill q code site inFlight).cores = s.cores :=
  by simp [State.kill, ite_cores]
@[simp] theorem State.consumePoison_mem (s : State) (pa : Nat) : (s.consumePoison pa).mem = s.mem := by simp [State.consumePoison]
@[simp] theorem State.sawPoison_mem (s : State) (code f va n : Nat) : (s.sawPoison code f va n).mem = s.mem := by
  unfold State.sawPoison
  (repeat' split) <;> simp
@[simp] theorem State.coreFault_mem (s0 : State) (c slot thread code pc addr : Nat) (scratch : optParam Bool false) (point : optParam (Option Nat) none) : (s0.coreFault c slot thread code pc addr scratch point).mem = s0.mem := by
  unfold State.coreFault
  dsimp only
  (repeat' split) <;> simp
@[simp] theorem State.pushStk_l2 (s : State) (rec : Nat) : (s.pushStk rec).l2 = s.l2 := by simp [State.pushStk, ite_l2]
@[simp] theorem State.consumePoison_l2 (s : State) (pa : Nat) : (s.consumePoison pa).l2 = s.l2 := by simp [State.consumePoison]
@[simp] theorem State.sawPoison_l2 (s : State) (code f va n : Nat) : (s.sawPoison code f va n).l2 = s.l2 := by
  unfold State.sawPoison
  (repeat' split) <;> simp
@[simp] theorem State.emitRec_l2 (s : State) (source : Nat) (r : TrcRec) : (s.emitRec source r).l2 = s.l2 := by simp [State.emitRec, ite_l2]
@[simp] theorem State.trace_l2 (s : State) (srcBit kind domain unit queue layer operator aux detail : Nat) : (s.trace srcBit kind domain unit queue layer operator aux detail).l2 = s.l2 :=
  by simp [State.trace]
@[simp] theorem State.traceFe_l2 (s : State) (kind queue layer operator aux detail : Nat) : (s.traceFe kind queue layer operator aux detail).l2 = s.l2 :=
  by simp [State.traceFe]
@[simp] theorem State.setShares_l2 (s : State) (g : List Share → List Share) : (s.setShares g).l2 = s.l2 := rfl
@[simp] theorem State.stopShares_l2 (s : State) (p : Nat → Bool) : (s.stopShares p).l2 = s.l2 := rfl
@[simp] theorem State.countKill_l2 (s : State) (code : Nat) : (s.countKill code).l2 = s.l2 := by simp [State.countKill, ite_l2]
@[simp] theorem State.kill_l2 (s : State) (q code : Nat) (site : Site) (inFlight : optParam Bool false) : (s.kill q code site inFlight).l2 = s.l2 :=
  by simp [State.kill, ite_l2]
@[simp] theorem State.coreFault_l2 (s0 : State) (c slot thread code pc addr : Nat) (scratch : optParam Bool false) (point : optParam (Option Nat) none) : (s0.coreFault c slot thread code pc addr scratch point).l2 = s0.l2 := by
  unfold State.coreFault
  dsimp only
  (repeat' split) <;> simp
@[simp] theorem State.pushStk_fe (s : State) (rec : Nat) : (s.pushStk rec).fe = s.fe := by simp [State.pushStk, ite_fe]
@[simp] theorem State.consumePoison_fe (s : State) (pa : Nat) : (s.consumePoison pa).fe = s.fe := by simp [State.consumePoison]
@[simp] theorem State.sawPoison_fe (s : State) (code f va n : Nat) : (s.sawPoison code f va n).fe = s.fe := by
  unfold State.sawPoison
  (repeat' split) <;> simp
@[simp] theorem State.consumePoison_cores (s : State) (pa : Nat) : (s.consumePoison pa).cores = s.cores := by simp [State.consumePoison]
@[simp] theorem State.sawPoison_cores (s : State) (code f va n : Nat) : (s.sawPoison code f va n).cores = s.cores := by
  unfold State.sawPoison
  (repeat' split) <;> simp
@[simp] theorem State.emitRec_syn (s : State) (source : Nat) (r : TrcRec) : (s.emitRec source r).syn = s.syn := by simp [State.emitRec, ite_syn]
@[simp] theorem State.trace_syn (s : State) (srcBit kind domain unit queue layer operator aux detail : Nat) : (s.trace srcBit kind domain unit queue layer operator aux detail).syn = s.syn :=
  by simp [State.trace]
@[simp] theorem State.emitRec_fab (s : State) (source : Nat) (r : TrcRec) : (s.emitRec source r).fab = s.fab := by simp [State.emitRec, ite_fab]
@[simp] theorem State.trace_fab (s : State) (srcBit kind domain unit queue layer operator aux detail : Nat) : (s.trace srcBit kind domain unit queue layer operator aux detail).fab = s.fab :=
  by simp [State.trace]
@[simp] theorem State.freeSlot_mem (s : State) (c slot : Nat) : (s.freeSlot c slot).mem = s.mem := rfl
@[simp] theorem State.freeSlot_fe (s : State) (c slot : Nat) : (s.freeSlot c slot).fe = s.fe := rfl
@[simp] theorem State.freeSlot_obs (s : State) (c slot : Nat) : (s.freeSlot c slot).obs = s.obs := rfl

end Sys2Proof.Machine
end

section
/-! Branches, calls, exits, yields and the group barrier (R109, R116, R117, R159). -/

namespace Sys2Proof.Machine

/-! The books of an instruction that is no vector instruction. -/

theorem State.booked_fab {s1 : State} {is : Issue} {x : Form} {g : Group} (hv : x.vec = false) : (s1.booked is x g).fab = s1.fab := by
  simp [State.booked, State.countIssue, hv]

theorem State.resumeAtIssue_fe_of_running {s : State} {q : Nat} (h : (s.q q).state = .running) : (s.resumeAtIssue q).fe = s.fe := by
  simp [State.resumeAtIssue, h]

theorem State.countIssue_fe (s : State) (c : Nat) (g : Group) (vec : Bool) (mask act : Nat) : (s.countIssue c g vec mask act).fe = s.fe := by
  simp [State.countIssue, ite_fe]

theorem State.booked_fe {s1 : State} {is : Issue} {x : Form} {g : Group} (h : (s1.q g.queue).state = .running) : (s1.booked is x g).fe = s1.fe := by
  unfold State.booked
  have hrun (c : Nat) (k : Core → Core) : (((s1.countEcc is.core is.rfCorrected is.rcParity).modCore c k).q g.queue).state = .running := by
    simpa [State.q] using h
  rw [State.countIssue_fe]
  exact (State.resumeAtIssue_fe_of_running (hrun _ _)).trans (s1.countEcc_fe _ _ _)

theorem State.booked_accumCount (s1 : State) (is : Issue) {x : Form} {g : Group} (hv : x.vec = false) : (s1.booked is x g).accumCount = s1.accumCount := by
  have hecc (c n p : Nat) : (s1.countEcc c n p).obs.fns = s1.obs.fns := by
    unfold State.countEcc
    dsimp only
    split <;> simp
  have hres (t : State) : (t.resumeAtIssue g.queue).obs.fns = t.obs.fns := by
    unfold State.resumeAtIssue
    split <;> rfl
  unfold State.accumCount State.booked State.countIssue
  simp [hv, hres, hecc]

theorem State.booked_core_mx (s1 : State) (is : Issue) (x : Form) (g : Group) : ((s1.booked is x g).core is.core).mx = (s1.core is.core).mx :=
  State.booked_core_keeps Core.mx (Core.noteGroup_keeps _ fun _ _ _ _ _ => rfl) (fun _ _ _ => rfl) (fun _ _ _ _ => rfl) s1 is x g

theorem State.booked_group (s1 : State) (is : Issue) (x : Form) (g : Group) :
    ((s1.booked is x g).core is.core).groups.get? is.slot = some (g.age (g.issueMask is.pc)) := by
  have hcores (t u : State) (h : t.cores = u.cores) : (t.core is.core).groups = (u.core is.core).groups := by simp only [State.core, h]
  unfold State.booked
  rw [hcores _ _ (State.countIssue_cores _ _ _ _ _ _), hcores _ _ (State.resumeAtIssue_cores _ _), State.modCore_core_self]
  exact SMap.get?_put_self _ _ _

theorem State.groupBusy_congr {s t : State} {c slot : Nat} (hl2 : t.l2 = s.l2) (hsyn : t.syn = s.syn) (hfab : t.fab = s.fab)
    (hmx : (t.core c).mx = (s.core c).mx) : t.groupBusy c slot = s.groupBusy c slot := by
  simp only [State.groupBusy, State.groupSyncBusy, hl2, hsyn, hfab, hmx]

/-! The ends of a control instruction. -/

theorem Steered.congr {s1 t : State} {is : Issue} {g h : Group} {pc want : Nat → Nat} (hst : Steered s1 t is g h pc) (hw : ∀ th, th < 64 → pc th = want th) :
    Steered s1 t is g h want := by
  obtain ⟨hget, hpc, hrest⟩ := hst
  exact ⟨hget, fun th hth => (hpc th hth).trans (hw th hth), hrest⟩

/-- A change of the core that leaves its groups leaves the frame. -/
theorem Steered.modCore {s1 t : State} {is : Issue} {g h : Group} {pc : Nat → Nat} {k : Core → Core} (hst : Steered s1 t is g h pc)
    (hk : ∀ c, (k c).groups = c.groups) : Steered s1 (t.modCore is.core k) is g h pc := by
  obtain ⟨hget, hpc, hs, hp, hgroups, hcores, hmem, hl2⟩ := hst
  have hself : ((t.modCore is.core k).core is.core).groups = (t.core is.core).groups := by rw [State.modCore_core_self, hk]
  exact ⟨by rw [hself]; exact hget, hpc, hs, hp, fun j hj => by rw [hself]; exact hgroups j hj,
    fun c hc => (State.modCore_core_ne _ _ _ hc).trans (hcores c hc), hmem, hl2⟩

/-- A control instruction that puts its group back leaves everything else. -/
theorem steered_put {x : Form} {g : Group} (s1 : State) (is : Issue) (hv : x.vec = false) (h : Group) (hs : h.s = g.s) (hp : h.p = g.p)
    {pc : Nat → Nat} (hpc : ∀ th, th < 64 → h.pcs.getD th 0 = pc th) : Steered s1 ((issOf is x g).put (s1.booked is x g) h) is g h pc := by
  obtain ⟨hmem, hl2, hcore, hgroups⟩ := s1.booked_rest is x g (.inl hv)
  refine ⟨?_, hpc, hs, hp, fun k hk => ?_, fun c hc => (State.modCore_core_ne _ _ _ hc).trans (hcore c hc), hmem, hl2⟩
  · unfold Iss.put issOf
    rw [State.modCore_core_self]
    exact SMap.get?_put_self _ _ _
  · unfold Iss.put issOf
    rw [State.modCore_core_self]
    exact (SMap.get?_put_ne _ _ hk).trans (hgroups k hk)

/-- The kill of a fault in a group of a queue that runs. -/
theorem coreFault_killed {s : State} {c slot : Nat} {g : Group} (hg : (s.core c).groups.get? slot = some g) (hrun : (s.q g.queue).state = .running)
    (thread code pc addr : Nat) (scratch : Bool) (point : Option Nat) : Killed (s.coreFault c slot thread code pc addr scratch point) g.queue code := by
  unfold State.coreFault
  rw [hg]
  dsimp only
  refine State.kill_of_running _ ?_
  have hsaw : ((if scratch = true then s else s.sawPoison code (fnOfQueue g.queue) addr 16).q g.queue).state = .running := by
    simpa [State.q, ite_fe] using hrun
  rw [hsaw]
  exact (congrArg Queue.state (State.modQ_q_self _ _ _)).trans hsaw

/-- The fault of an issue ends the context. -/
theorem iss_fault_killed {x : Form} {g : Group} (s1 : State) (is : Issue) (hv : x.vec = false) (hrun : (s1.q g.queue).state = .running)
    (thread code addr : Nat) :
    Killed ((issOf is x g).fault (s1.booked is x g) thread code addr) g.queue code ∧ ((issOf is x g).fault (s1.booked is x g) thread code addr).mem = s1.mem := by
  have hbooked : ((s1.booked is x g).q g.queue).state = .running := by
    rw [State.q, State.booked_fe hrun]
    exact hrun
  exact ⟨coreFault_killed (s1.booked_group is x g) hbooked _ _ _ _ _ _, (State.coreFault_mem _ _ _ _ _ _ _ _ _).trans (s1.booked_rest is x g (.inl hv)).1⟩

/-- The threads of an issue that go on keep everything but their places. -/
theorem issue_advance_keeps {β : Type} (π : Group → β) (hpcs : ∀ g p, π { g with pcs := p } = π g) (hy : ∀ g y a, π { g with yielded := y, ages := a } = π g)
    (is : Issue) (x : Form) (g : Group) (m : Nat) : π ((issOf is x g).g.advance m) = π g := (hpcs _ _).trans (hy _ _ _)

/-! Masks of threads. -/

theorem bit_natAndNot {a b th : Nat} (hth : th < 64) : bit (natAndNot 64 a b) th = (bit a th && !bit b th) := by
  have hb (n : Nat) (x : BitVec 64) : n < 64 → x.toNat.testBit n = x.getLsbD n := fun _ => rfl
  simp only [bit_eq_testBit, natAndNot, hb th _ hth, BitVec.getLsbD_and, BitVec.getLsbD_not, BitVec.getLsbD_ofNat, hth, decide_true, Bool.true_and]

theorem bit_natOr64 {a b th : Nat} (hth : th < 64) : bit (natOr 64 a b) th = (bit a th || bit b th) := by
  have hb (n : Nat) (x : BitVec 64) : n < 64 → x.toNat.testBit n = x.getLsbD n := fun _ => rfl
  simp only [bit_eq_testBit, natOr, hb th _ hth, BitVec.getLsbD_or, BitVec.getLsbD_ofNat, hth, decide_true, Bool.true_and]

/-- A thread that issues stands at the issue's address. -/
theorem pcs_of_issueMask {g : Group} {pc th : Nat} (h : bit (g.issueMask pc) th = true) : g.pcs.getD th 0 = pc := (g.mem_issueMask pc th h).2

/-- The threads that act are those of the issue whose guard holds. -/
theorem bit_act (is : Issue) (x : Form) (g : Group) {th : Nat} (hth : th < 64) :
    bit (issOf is x g).act th = decide (g.acting is.pc x.guard x.neg th) :=
  Bool.eq_iff_iff.mpr ((bit_actMask is x g hth).trans decide_eq_true_iff.symm)

/-- The threads of the issue that do not act go on. -/
theorem advance_others (is : Issue) (x : Form) (g : Group) {th : Nat} (hth : th < 64) :
    ((issOf is x g).g.advance (natAndNot 64 (issOf is x g).mask (issOf is x g).act)).pcs.getD th 0 =
      if bit (g.issueMask is.pc) th = true ∧ ¬g.acting is.pc x.guard x.neg th then (is.pc + 8) % 2 ^ 57 else g.pcs.getD th 0 := by
  refine (Group.advance_pcs _ _ _ hth).trans ?_
  rw [bit_natAndNot hth, bit_act is x g hth]
  show (if (bit (g.issueMask is.pc) th && !decide (g.acting is.pc x.guard x.neg th)) = true then (g.pcs.getD th 0 + 8) % 2 ^ 57 else g.pcs.getD th 0) = _
  simp only [Bool.and_eq_true, Bool.not_eq_true', decide_eq_false_iff_not]
  split
  · rename_i h
    rw [pcs_of_issueMask h.1]
  · rfl

/-- The threads of the issue go on. -/
theorem advance_all (is : Issue) (x : Form) (g : Group) {th : Nat} (hth : th < 64) :
    ((issOf is x g).g.advance (issOf is x g).mask).pcs.getD th 0 = if bit (g.issueMask is.pc) th then (is.pc + 8) % 2 ^ 57 else g.pcs.getD th 0 := by
  refine (Group.advance_pcs _ _ _ hth).trans ?_
  show (if bit (g.issueMask is.pc) th then (g.pcs.getD th 0 + 8) % 2 ^ 57 else g.pcs.getD th 0) = _
  split
  · rename_i h
    rw [pcs_of_issueMask h]
  · rfl

theorem Group.jump_pcs (g : Group) (m addr : Nat) {th : Nat} (hth : th < 64) :
    (g.jump m addr).pcs.getD th 0 = if bit m th then addr else g.pcs.getD th 0 := by
  refine (foldl_put_getD (bitList 64 m) 0 (fun _ => addr) g.pcs th (bitList_nodup _ _)).trans ?_
  simp [mem_bitList, hth]

/-- Threads that each jump to their own address. -/
theorem each_jump_pcs (l : List Nat) (at0 : Nat → Nat) (g : Group) {th : Nat} (hl : ∀ t ∈ l, t < 64) (hth : th < 64) :
    (l.foldl (fun g t => g.jump (2 ^ t) (at0 t)) g).pcs.getD th 0 = if th ∈ l then at0 th else g.pcs.getD th 0 := by
  induction l generalizing g with
  | nil => simp
  | cons a l ih =>
    rw [List.foldl_cons, ih _ (fun t ht => hl t (List.mem_cons_of_mem _ ht)), Group.jump_pcs _ _ _ hth]
    have hbit : bit (2 ^ a) th = decide (th = a) := by rw [bit_eq_testBit, Nat.testBit_two_pow]; simp only [eq_comm]
    by_cases hmem : th ∈ l
    · simp [hmem]
    · by_cases ha : th = a
      · simp [ha, bit_two_pow_self]
      · simp [hmem, ha, hbit]

/-- Threads that each jump to their own address keep everything else. -/
theorem each_jump_keeps {β : Type} (π : Group → β) (hπ : ∀ g p, π { g with pcs := p } = π g) (l : List Nat) (at0 : Nat → Nat) (g : Group) :
    π (l.foldl (fun g t => g.jump (2 ^ t) (at0 t)) g) = π g := by
  induction l generalizing g with
  | nil => rfl
  | cons a l ih => exact (ih _).trans (hπ _ _)

theorem eachThread_jump_keeps {β : Type} (π : Group → β) (hπ : ∀ g p, π { g with pcs := p } = π g) (g : Group) (m : Nat) (at0 : Nat → Nat) :
    π (g.eachThread m (fun g t => g.jump (2 ^ t) (at0 t))) = π g := each_jump_keeps π hπ _ at0 g

theorem eachThread_jump_pcs (g : Group) (m : Nat) (at0 : Nat → Nat) {th : Nat} (hth : th < 64) :
    (g.eachThread m (fun g t => g.jump (2 ^ t) (at0 t))).pcs.getD th 0 = if th ∈ bitList 64 m then at0 th else g.pcs.getD th 0 :=
  each_jump_pcs _ at0 g (fun _ ht => ((mem_bitList _ _ _).mp ht).1) hth

/-- A control instruction whose threads go on. -/
theorem steered_done {x : Form} {g : Group} (s1 : State) (is : Issue) (hv : x.vec = false) (h : Group) (hs : h.s = g.s) (hp : h.p = g.p) (hpc : h.pcs = g.pcs) :
    Steered s1 ((issOf is x g).done (s1.booked is x g) h) is g (h.advance (issOf is x g).mask)
      (fun th => if bit (g.issueMask is.pc) th then (is.pc + 8) % 2 ^ 57 else g.pcs.getD th 0) := by
  refine steered_put s1 is hv (h.advance (issOf is x g).mask) hs hp fun th hth => ?_
  rw [← advance_all is x g hth]
  exact congrArg (fun p => SMap.getD p th 0) (by simp only [Group.advance, hpc, issOf, Group.age])

/-! The forms. -/

/-- The form of an instruction of format B. -/
def bForm (f : FmtB) (op : Nat) (useLink useTarget useOffset : Bool) : Form :=
  { word := f.word op, guard := f.guard, neg := f.guardNeg, vec := false
    legal := fun n => decide (f.zero = 0) && (if useLink then vregOk n 2 f.link else decide (f.link = 0)) &&
      (if useTarget then vregOk n 2 f.target else decide (f.target = 0)) && (useOffset || decide (f.offset = 0))
    srcs := if useTarget then vlist f.target 2 else [], hints := []
    dsts := if useLink then vlist f.link 2 else [] }

/-- A control instruction without registers acts. -/
theorem control_acts {s s1 : State} {is : Issue} {f : FmtB} {g : Group} {op : Nat} {off : Bool} (go : Iss → State → State)
    (h : Issues s is (f.word op) [] g s1) (hz : f.zero = 0) (hl : f.link = 0) (ht : f.target = 0) (ho : off = true ∨ f.offset = 0) :
    s.issueB is f op false false off go = go (issOf is (bForm f op false false off) g) (s1.booked is (bForm f op false false off) g) := by
  refine State.issue_acts (x := bForm f op false false off) go h (fun r hr => by simp [bForm] at hr) ?_ rfl
  rcases ho with rfl | ho
  · simp [bForm, hz, hl, ht]
  · simp [bForm, hz, hl, ht, ho]

theorem acting_of_act_ne {is : Issue} {x : Form} {g : Group} (h : ∃ th, th < 64 ∧ g.acting is.pc x.guard x.neg th) : (issOf is x g).act ≠ 0 :=
  fun h0 => (act_eq_zero_iff is x g).mp h0 h

/-- Everyone that a branch sends stands at its target, and the others of the issue go on. -/
theorem branch_put {s1 : State} {is : Issue} {x : Form} {g : Group} (hv : x.vec = false) {addr : Nat} (ha : addr < 2 ^ 57) (k : Group)
    (hk : k.s = g.s ∧ k.p = g.p ∧ k.pcs = g.pcs) (h0 : (¬∃ th, th < 64 ∧ g.acting is.pc x.guard x.neg th) → k = (issOf is x g).g) :
    ∃ h, h.v = k.v ∧ h.live = k.live ∧ Steered s1 ((issOf is x g).branch (s1.booked is x g) k addr) is g h (fun th =>
      if g.acting is.pc x.guard x.neg th then addr else if bit (g.issueMask is.pc) th then (is.pc + 8) % 2 ^ 57 else g.pcs.getD th 0) := by
  obtain ⟨hks, hkp, hkpcs⟩ := hk
  unfold Iss.branch
  by_cases hact : ∃ th, th < 64 ∧ g.acting is.pc x.guard x.neg th
  · rw [if_neg (acting_of_act_ne hact), if_neg (by omega)]
    refine ⟨(k.advance (natAndNot 64 (issOf is x g).mask (issOf is x g).act)).jump (issOf is x g).act addr, rfl, rfl, steered_put s1 is hv ((k.advance (natAndNot 64 (issOf is x g).mask (issOf is x g).act)).jump (issOf is x g).act addr) hks hkp fun th hth => ?_⟩
    have hadv := advance_others is x g hth
    rw [Group.jump_pcs _ _ _ hth, bit_act is x g hth]
    have hpcs : (k.advance (natAndNot 64 (issOf is x g).mask (issOf is x g).act)).pcs =
        ((issOf is x g).g.advance (natAndNot 64 (issOf is x g).mask (issOf is x g).act)).pcs := by
      unfold Group.advance
      rw [hkpcs]
      rfl
    rw [hpcs, hadv]
    by_cases hg : g.acting is.pc x.guard x.neg th
    · simp [hg]
    · simp [hg]
  · rw [if_pos ((act_eq_zero_iff is x g).mpr hact)]
    obtain rfl := h0 hact
    have hst := steered_done s1 is hv (issOf is x g).g hks hkp hkpcs
    refine ⟨((issOf is x g).g.advance (issOf is x g).mask), rfl, rfl, ?_⟩
    refine hst.congr fun th hth => ?_
    rw [if_neg fun hg => hact ⟨th, hth, hg⟩]

theorem relTarget_eq (pc offset : Nat) : relTarget pc offset = (((pc : Int) + 8 * signExt 32 offset) % (2 ^ 64 : Nat)).toNat := by
  simp [relTarget, wrapInt]

theorem nop_stated {s s1 : State} {is : Issue} {f : FmtB} {g : Group} (h : Issues s is (f.word 0x00) [] g s1) (hz : f.zero = 0) (hl : f.link = 0)
    (ht : f.target = 0) (ho : f.offset = 0) :
    ∃ t h, exec (.nop is f) s = .next t ∧ Steered s1 t is g h (fun th =>
      if bit (g.issueMask is.pc) th then (is.pc + 8) % 2 ^ 57 else g.pcs.getD th 0) ∧ h.v = g.v ∧ h.live = g.live := by
  have hacts := control_acts (off := false) (fun x s => x.done s x.g) h hz hl ht (.inr ho)
  exact ⟨_, _, congrArg Host.Outcome.next hacts, steered_done s1 is rfl (g.age _) rfl rfl rfl, rfl, rfl⟩

theorem bra_stated {s s1 : State} {is : Issue} {f : FmtB} {g : Group} {addr : Nat} (h : Issues s is (f.word 0x01) [] g s1) (hz : f.zero = 0) (hl : f.link = 0)
    (ht : f.target = 0) (ha : addr = relTarget is.pc f.offset) :
    (addr < 2 ^ 57 → ∃ t h, exec (.bra is f) s = .next t ∧ h.v = g.v ∧ h.live = g.live ∧ Steered s1 t is g h (fun th =>
      if g.acting is.pc f.guard f.guardNeg th then addr else if bit (g.issueMask is.pc) th then (is.pc + 8) % 2 ^ 57 else g.pcs.getD th 0)) ∧
    (2 ^ 57 ≤ addr → (s1.q g.queue).state = .running → (∃ th, th < 64 ∧ g.acting is.pc f.guard f.guardNeg th) →
      ∃ t, exec (.bra is f) s = .next t ∧ Killed t g.queue 0x01 ∧ t.mem = s1.mem) := by
  have hacts := control_acts (off := true) (fun x s => x.branch s x.g (relTarget x.pc f.offset)) h hz hl ht (.inl rfl)
  constructor
  · intro hlt
    obtain ⟨k, hkv, hkl, hst⟩ := branch_put (s1 := s1) (is := is) (x := bForm f 0x01 false false true) rfl hlt (g := g) (g.age (g.issueMask is.pc)) ⟨rfl, rfl, rfl⟩ fun _ => rfl
    refine ⟨_, k, congrArg Host.Outcome.next hacts, hkv, hkl, ?_⟩
    rw [ha] at hst ⊢
    exact hst
  · intro hge hrun hact
    refine ⟨_, congrArg Host.Outcome.next hacts, ?_⟩
    unfold Iss.branch
    rw [if_neg (acting_of_act_ne (x := bForm f 0x01 false false true) hact), if_pos (ha ▸ hge)]
    exact iss_fault_killed s1 is rfl hrun _ _ _

/-- The form of BRX. -/
abbrev brxForm (f : FmtB) : Form := bForm f 0x02 false true false

/-- What BRX does once it has issued. -/
def brxGo (f : FmtB) (x : Iss) (s : State) : State :=
  match (bitList 64 x.act).find? (fun t => !decide (targetCode (x.g.vregs_ f.target t 2) = 0)) with
  | some t => x.fault s t (targetCode (x.g.vregs_ f.target t 2)) (x.g.vregs_ f.target t 2)
  | none => x.put s ((x.g.advance (natAndNot 64 x.mask x.act)).eachThread x.act (fun g t => g.jump (2 ^ t) (x.g.vregs_ f.target t 2)))

theorem targetCode_eq_zero_iff (a : Nat) : targetCode a = 0 ↔ a < 2 ^ 57 ∧ a % 8 = 0 := by
  unfold targetCode
  split
  · simp; omega
  · split <;> simp_all

/-- The threads that act, in their order. -/
theorem mem_acts (is : Issue) (x : Form) (g : Group) (th : Nat) : th ∈ bitList 64 (issOf is x g).act ↔ th < 64 ∧ g.acting is.pc x.guard x.neg th := by
  rw [mem_bitList]
  exact and_congr_right fun hth => bit_actMask is x g hth

theorem brx_stated {s s1 : State} {is : Issue} {f : FmtB} {g : Group} (h : Issues s is (f.word 0x02) (vlist f.target 2) g s1) (hz : f.zero = 0) (hl : f.link = 0)
    (ho : f.offset = 0) (hr : vregOk g.vregs 2 f.target = true) :
    ((∀ th, th < 64 → g.acting is.pc f.guard f.guardNeg th → g.vregs_ f.target th 2 < 2 ^ 57 ∧ g.vregs_ f.target th 2 % 8 = 0) →
      ∃ t h, exec (.brx is f) s = .next t ∧ h.v = g.v ∧ h.live = g.live ∧ Steered s1 t is g h (fun th =>
        if g.acting is.pc f.guard f.guardNeg th then g.vregs_ f.target th 2
        else if bit (g.issueMask is.pc) th then (is.pc + 8) % 2 ^ 57 else g.pcs.getD th 0)) ∧
    (∀ th, th < 64 → g.acting is.pc f.guard f.guardNeg th → (∀ j, j < th → ¬ g.acting is.pc f.guard f.guardNeg j) →
      (s1.q g.queue).state = .running → (2 ^ 57 ≤ g.vregs_ f.target th 2 ∨ g.vregs_ f.target th 2 % 8 ≠ 0) →
      ∃ t, exec (.brx is f) s = .next t ∧ Killed t g.queue (if 2 ^ 57 ≤ g.vregs_ f.target th 2 then 0x01 else 0x04)) := by
  have hacts : s.issueB is f 0x02 false true false (brxGo f) = brxGo f (issOf is (brxForm f) g) (s1.booked is (brxForm f) g) :=
    State.issue_acts (x := brxForm f) (brxGo f) h (fun r hr => by simpa [brxForm, bForm] using hr) (by simp [brxForm, bForm, hz, hl, ho, hr]) rfl
  have hexec : exec (.brx is f) s = .next (s.issueB is f 0x02 false true false (brxGo f)) := rfl
  rw [hexec, hacts]
  have hregs (t : Nat) : (issOf is (brxForm f) g).g.vregs_ f.target t 2 = g.vregs_ f.target t 2 := Group.vregs_age _ _ _ _ _
  constructor
  · intro hok
    have hnone : (bitList 64 (issOf is (brxForm f) g).act).find? (fun t => !decide (targetCode ((issOf is (brxForm f) g).g.vregs_ f.target t 2) = 0)) = none := by
      refine List.find?_eq_none.mpr fun t ht => ?_
      obtain ⟨hlt, hact⟩ := (mem_acts is (brxForm f) g t).mp ht
      simp [hregs, (targetCode_eq_zero_iff _).mpr (hok t hlt hact)]
    have hgo : brxGo f (issOf is (brxForm f) g) (s1.booked is (brxForm f) g) = (issOf is (brxForm f) g).put (s1.booked is (brxForm f) g)
        (((issOf is (brxForm f) g).g.advance (natAndNot 64 (issOf is (brxForm f) g).mask (issOf is (brxForm f) g).act)).eachThread (issOf is (brxForm f) g).act
          (fun k t => k.jump (2 ^ t) ((issOf is (brxForm f) g).g.vregs_ f.target t 2))) := by
      unfold brxGo
      rw [hnone]
    have hkeeps {β : Type} (π : Group → β) (hπ : ∀ g p, π { g with pcs := p } = π g) (hy : ∀ g y a, π { g with yielded := y, ages := a } = π g) :=
      (eachThread_jump_keeps π hπ ((issOf is (brxForm f) g).g.advance (natAndNot 64 (issOf is (brxForm f) g).mask (issOf is (brxForm f) g).act))
        (issOf is (brxForm f) g).act (fun t => (issOf is (brxForm f) g).g.vregs_ f.target t 2)).trans (issue_advance_keeps π hπ hy is (brxForm f) g _)
    rw [hgo]
    refine ⟨_, _, rfl, hkeeps Group.v (fun _ _ => rfl) fun _ _ _ => rfl, hkeeps Group.live (fun _ _ => rfl) fun _ _ _ => rfl, ?_⟩
    refine steered_put (x := brxForm f) s1 is rfl _ (hkeeps Group.s (fun _ _ => rfl) fun _ _ _ => rfl) (hkeeps Group.p (fun _ _ => rfl) fun _ _ _ => rfl) fun th hth => ?_
    refine (eachThread_jump_pcs _ _ _ hth).trans ?_
    simp only [mem_acts, hregs]
    rw [advance_others is (brxForm f) g hth]
    by_cases hact : g.acting is.pc f.guard f.guardNeg th
    · rw [if_pos ⟨hth, hact⟩, if_pos hact]
    · rw [if_neg fun hc => hact hc.2, if_neg hact]
      show (if bit (g.issueMask is.pc) th = true ∧ ¬g.acting is.pc f.guard f.guardNeg th then _ else _) = _
      simp only [hact, not_false_eq_true, and_true]
  · intro th hth hact hfirst hrun hbad
    have hcode : targetCode (g.vregs_ f.target th 2) ≠ 0 := fun h0 => by
      have := (targetCode_eq_zero_iff _).mp h0
      omega
    have hfind : (bitList 64 (issOf is (brxForm f) g).act).find? (fun t => !decide (targetCode ((issOf is (brxForm f) g).g.vregs_ f.target t 2) = 0)) = some th := by
      refine List.find?_eq_some_iff_append.mpr ⟨by simp only [hregs, decide_eq_false hcode, Bool.not_false], ?_⟩
      have hmem : th ∈ bitList 64 (issOf is (brxForm f) g).act := (mem_acts is (brxForm f) g th).mpr ⟨hth, hact⟩
      obtain ⟨l1, l2, hl⟩ := List.append_of_mem hmem
      refine ⟨l1, l2, hl, fun a ha => ?_⟩
      have hsorted : (l1 ++ th :: l2).Pairwise (· < ·) := hl ▸ List.Pairwise.filter _ List.pairwise_lt_range
      have hlt : a < th := (List.pairwise_append.mp hsorted).2.2 a ha th (List.mem_cons_self ..)
      have hmema : a ∈ bitList 64 (issOf is (brxForm f) g).act := hl ▸ List.mem_append_left _ ha
      exact absurd ((mem_acts is (brxForm f) g a).mp hmema).2 (hfirst a hlt)
    have hgo : brxGo f (issOf is (brxForm f) g) (s1.booked is (brxForm f) g) =
        (issOf is (brxForm f) g).fault (s1.booked is (brxForm f) g) th (targetCode (g.vregs_ f.target th 2)) (g.vregs_ f.target th 2) := by
      unfold brxGo
      rw [hfind]
      simp only [hregs]
    refine ⟨_, congrArg Host.Outcome.next hgo, ?_⟩
    have hval : targetCode (g.vregs_ f.target th 2) = if 2 ^ 57 ≤ g.vregs_ f.target th 2 then 0x01 else 0x04 := by
      unfold targetCode
      split
      · rfl
      · rw [if_pos (by omega)]
    rw [← hval]
    exact (iss_fault_killed s1 is rfl hrun _ _ _).1

/-- The form of CALL. -/
abbrev callForm (f : FmtB) : Form := bForm f 0x03 true false true

theorem call_stated {s s1 : State} {is : Issue} {f : FmtB} {g : Group} {addr : Nat} (h : Issues s is (f.word 0x03) (vlist f.link 2) g s1) (hz : f.zero = 0)
    (ht : f.target = 0) (hr : vregOk g.vregs 2 f.link = true) (ha : addr = relTarget is.pc f.offset) (hlt : addr < 2 ^ 57) :
    ∃ t h, exec (.call is f) s = .next t ∧ h.live = g.live ∧ Steered s1 t is g h (fun th =>
        if g.acting is.pc f.guard f.guardNeg th then addr else if bit (g.issueMask is.pc) th then (is.pc + 8) % 2 ^ 57 else g.pcs.getD th 0) ∧
      (∀ r th, th < 64 → h.vreg r th = if g.acting is.pc f.guard f.guardNeg th ∧ f.link ≤ r ∧ r < f.link + 2
        then (is.pc + 8) / 2 ^ (32 * (r - f.link)) % 2 ^ 32 else g.vreg r th) := by
  have hacts : call is f s = (issOf is (callForm f) g).branch (s1.booked is (callForm f) g)
      ((issOf is (callForm f) g).g.eachThread (issOf is (callForm f) g).act (fun g t => g.setV f.link t (is.pc + 8) 2)) (relTarget is.pc f.offset) :=
    State.issue_acts (x := callForm f) (fun x s => x.branch s (x.g.eachThread x.act (fun g t => g.setV f.link t (x.pc + 8) 2)) (relTarget x.pc f.offset)) h
      (fun r hr => by simpa [callForm, bForm] using hr) (by simp [callForm, bForm, hz, ht, hr]) rfl
  obtain ⟨w, hw, hv⟩ := Group.each_setV (g.age (g.issueMask is.pc)) (bitList 64 (issOf is (callForm f) g).act) f.link 2 (fun _ => is.pc + 8)
    (fun t ht => ((mem_bitList _ _ _).1 ht).1) (bitList_nodup _ _)
  have hset : (issOf is (callForm f) g).g.eachThread (issOf is (callForm f) g).act (fun g t => g.setV f.link t (is.pc + 8) 2) =
      { g.age (g.issueMask is.pc) with v := w } := hw
  rw [hset, ← ha] at hacts
  obtain ⟨k, hkv, hkl, hst⟩ := branch_put (s1 := s1) (is := is) (x := callForm f) (g := g) rfl hlt { g.age (g.issueMask is.pc) with v := w } ⟨rfl, rfl, rfl⟩ (fun hno => by
    have h0 := (act_eq_zero_iff is (callForm f) g).mpr hno
    rw [← hset, h0]
    rfl)
  refine ⟨_, k, congrArg Host.Outcome.next hacts, hkl, hst, fun r th hth => ?_⟩
  have hreg : k.vreg r th = Group.vreg { g.age (g.issueMask is.pc) with v := w } r th := by simp only [Group.vreg, hkv]
  rw [hreg, hv r th hth]
  simp only [mem_acts, hth, true_and]
  rfl

/-! The end of a group. -/

@[simp] theorem State.addQty_l2_loads (s : State) (q i n l o : Nat) : (s.addQty q i n l o).l2.loads = s.l2.loads := by
  apply State.addQty_keeps (fun s => s.l2.loads) <;> simp

theorem State.freeBlock_groups (s : State) (c key why : Nat) : ((s.freeBlock c key why).core c).groups = (s.core c).groups := by
  have hcores (t u : State) (h : t.cores = u.cores) : (t.core c).groups = (u.core c).groups := by simp only [State.core, h]
  unfold State.freeBlock
  split
  · rfl
  · rename_i b _
    dsimp only
    have hmod : ((s.modCore c (fun k => { k with blocks := k.blocks.del key, mx := if b.matrix then k.mx.release else k.mx })).core c).groups =
        (s.core c).groups := by rw [State.modCore_core_self]
    refine Eq.trans (hcores _ _ ?_) hmod
    split <;> simp

theorem State.freeBlock_loads (s : State) (c key why : Nat) : (s.freeBlock c key why).l2.loads = s.l2.loads := by
  unfold State.freeBlock
  split
  · rfl
  · dsimp only
    split <;> simp

theorem State.freeBlock_mem {s : State} (c key why : Nat) (h : s.accumCount < 4096) : (s.freeBlock c key why).mem = s.mem := by
  unfold State.freeBlock
  split
  · rfl
  · rename_i b _
    dsimp only
    refine Eq.trans (b := (State.trace (s.modCore c (fun k => { k with blocks := k.blocks.del key, mx := if b.matrix then k.mx.release else k.mx }))
      1 0x04 (c / 24) c b.queue b.layer b.operator why b.block).mem) ?_ (by simp)
    have hmem := State.addQty_mem_of_ready (q := b.queue) (l := b.layer) (o := b.operator) 6 (s.time.mono - b.since) (State.accumReady_congr
      (s := s) (t := State.trace (s.modCore c (fun k => { k with blocks := k.blocks.del key, mx := if b.matrix then k.mx.release else k.mx }))
        1 0x04 (c / 24) c b.queue b.layer b.operator why b.block) (by simp) (.inl h))
    split
    · exact hmem
    · exact hmem

/-- A group without live threads that nothing holds gives up its slot, and its loads with it. -/
theorem State.reapGroup_gone {s : State} {c slot : Nat} {g : Group} (hg : (s.core c).groups.get? slot = some g) (hl : g.live = 0) (hf : g.faulted = false)
    (hb : s.groupBusy c slot = false) :
    ((s.reapGroup c slot).core c).groups.get? slot = none ∧ (∀ l ∈ (s.reapGroup c slot).l2.loads.vals, ¬(l.core = c ∧ l.slot = slot)) ∧
      (s.accumCount < 4096 → (s.reapGroup c slot).mem = s.mem) := by
  have hslot : ((s.freeSlot c slot).core c).groups.get? slot = none := by
    simp only [State.freeSlot, State.core, State.modCore, SMap.getD_modify_self]
    exact SMap.get?_del_self _ _
  have hloads : ∀ l ∈ (s.freeSlot c slot).l2.loads.vals, ¬(l.core = c ∧ l.slot = slot) := by
    intro l hl
    obtain ⟨e, he, rfl⟩ := List.mem_map.mp hl
    simpa only [Bool.not_eq_true', decide_eq_false_iff_not] using (List.mem_filter.mp he).2
  have hacc : (s.freeSlot c slot).accumCount = s.accumCount := rfl
  unfold State.reapGroup
  rw [hg]
  simp only [hl, hf, hb, ne_eq, not_true_eq_false, Bool.false_eq_true, or_self, if_false]
  split
  · exact ⟨hslot, hloads, fun _ => rfl⟩
  · split
    · exact ⟨by rw [State.freeBlock_groups]; exact hslot, by rw [State.freeBlock_loads]; exact hloads, fun h => State.freeBlock_mem _ _ _ (hacc ▸ h)⟩
    · exact ⟨hslot, hloads, fun _ => rfl⟩

theorem State.reapGroup_live {s : State} {c slot : Nat} {g : Group} (hg : (s.core c).groups.get? slot = some g) (hl : g.live ≠ 0) : s.reapGroup c slot = s := by
  unfold State.reapGroup
  rw [hg]
  simp [hl]

/-- The group after its acting threads have ended. -/
def exitGroup (x : Iss) : Group :=
  { (x.g.advance (natAndNot 64 x.mask x.act)) with live := natAndNot 64 x.g.live x.act, yielded := natAndNot 64 x.g.yielded x.act }

theorem exitGroup_faulted (is : Issue) (x : Form) (g : Group) : (exitGroup (issOf is x g)).faulted = g.faulted := rfl

theorem exitGroup_v (is : Issue) (x : Form) (g : Group) : (exitGroup (issOf is x g)).v = g.v := rfl

theorem exitGroup_s (is : Issue) (x : Form) (g : Group) : (exitGroup (issOf is x g)).s = g.s := rfl

theorem exitGroup_p (is : Issue) (x : Form) (g : Group) : (exitGroup (issOf is x g)).p = g.p := rfl

/-- The form of EXIT. -/
abbrev exitForm (f : FmtB) : Form := bForm f 0x04 false false false

theorem exit_stated {s s1 : State} {is : Issue} {f : FmtB} {g : Group} (h : Issues s is (f.word 0x04) [] g s1) (hz : f.zero = 0) (hl : f.link = 0)
    (ht : f.target = 0) (ho : f.offset = 0) :
    (g.gbar = 0 → (∃ th, th < 64 ∧ bit g.live th = true ∧ ¬ g.acting is.pc f.guard f.guardNeg th) →
      ∃ t h, exec (.exit is f) s = .next t ∧ h.v = g.v ∧ Steered s1 t is g h (fun th =>
          if bit (g.issueMask is.pc) th = true ∧ ¬ g.acting is.pc f.guard f.guardNeg th then (is.pc + 8) % 2 ^ 57 else g.pcs.getD th 0) ∧
        (∀ th, th < 64 → (bit h.live th = true ↔ bit g.live th = true ∧ ¬ g.acting is.pc f.guard f.guardNeg th))) ∧
    ((∀ th, th < 64 → bit g.live th = true → g.acting is.pc f.guard f.guardNeg th) → g.gbar = 0 → s1.groupBusy is.core is.slot = false →
      ∃ t, exec (.exit is f) s = .next t ∧ (t.core is.core).groups.get? is.slot = none ∧
        (∀ l ∈ t.l2.loads.vals, ¬ (l.core = is.core ∧ l.slot = is.slot)) ∧ (s1.accumCount < 4096 → t.mem = s1.mem)) := by
  have hacts := control_acts (off := false) (fun x s => (x.put s (exitGroup x).gbarCheck).reapGroup x.core x.slot) h hz hl ht (.inr ho)
  have hlive (th : Nat) (hth : th < 64) : bit (exitGroup (issOf is (exitForm f) g)).live th = true ↔ bit g.live th = true ∧ ¬g.acting is.pc f.guard f.guardNeg th := by
    show bit (natAndNot 64 g.live (issOf is (exitForm f) g).act) th = true ↔ _
    rw [bit_natAndNot hth, bit_act is (exitForm f) g hth]
    simp only [Bool.and_eq_true, Bool.not_eq_true', decide_eq_false_iff_not]
    rfl
  have hcheck (hg : g.gbar = 0) : (exitGroup (issOf is (exitForm f) g)).gbarCheck = exitGroup (issOf is (exitForm f) g) :=
    if_neg fun hc => hc.1 hg
  have hput (k : Group) : (((issOf is (exitForm f) g).put (s1.booked is (exitForm f) g) k).core is.core).groups.get? is.slot = some k := by
    unfold Iss.put issOf
    rw [State.modCore_core_self]
    exact SMap.get?_put_self _ _ _
  constructor
  · rintro hg ⟨th, hth, hb, hact⟩
    have hne : (exitGroup (issOf is (exitForm f) g)).live ≠ 0 := fun h0 => by
      have := (hlive th hth).mpr ⟨hb, hact⟩
      simp [h0, bit] at this
    have hgo : (fun (x : Iss) (s : State) => (x.put s (exitGroup x).gbarCheck).reapGroup x.core x.slot) (issOf is (exitForm f) g) (s1.booked is (exitForm f) g) =
        (issOf is (exitForm f) g).put (s1.booked is (exitForm f) g) (exitGroup (issOf is (exitForm f) g)) := by
      show ((issOf is (exitForm f) g).put (s1.booked is (exitForm f) g) (exitGroup (issOf is (exitForm f) g)).gbarCheck).reapGroup is.core is.slot = _
      rw [hcheck hg]
      exact State.reapGroup_live (hput _) hne
    refine ⟨_, _, congrArg Host.Outcome.next (hacts.trans hgo), ?_, ?_, hlive⟩
    · exact exitGroup_v is (exitForm f) g
    · exact steered_put (x := exitForm f) s1 is rfl (exitGroup (issOf is (exitForm f) g)) (exitGroup_s is (exitForm f) g) (exitGroup_p is (exitForm f) g)
        fun th hth => advance_others is (exitForm f) g hth
  · intro hall hg hbusy
    have hzero : (exitGroup (issOf is (exitForm f) g)).live = 0 := by
      refine Nat.eq_of_testBit_eq fun i => ?_
      rw [Nat.zero_testBit, ← bit_eq_testBit]
      by_cases hi : i < 64
      · exact Bool.eq_false_iff.mpr fun hb => ((hlive i hi).mp hb).2 (hall i hi ((hlive i hi).mp hb).1)
      · have hlt : (exitGroup (issOf is (exitForm f) g)).live < 2 ^ 64 := BitVec.isLt _
        rw [bit_eq_testBit]
        exact Nat.testBit_lt_two_pow (hlt.trans_le (Nat.pow_le_pow_right (by decide) (by omega)))
    have hnobusy : ((issOf is (exitForm f) g).put (s1.booked is (exitForm f) g) (exitGroup (issOf is (exitForm f) g))).groupBusy is.core is.slot = false := by
      refine (State.groupBusy_congr ?_ ?_ ?_ ?_).trans hbusy
      · exact (s1.booked_rest is (exitForm f) g (.inl rfl)).2.1
      · exact State.booked_syn s1 is (exitForm f) g
      · exact State.booked_fab rfl
      · exact (congrArg Core.mx (State.modCore_core_self _ _ _)).trans (s1.booked_core_mx is (exitForm f) g)
    obtain ⟨hgone, hloads, hmem⟩ := State.reapGroup_gone (hput _) hzero
      ((exitGroup_faulted is (exitForm f) g).trans h.goes.2) hnobusy
    have hgo : exec (.exit is f) s = .next (((issOf is (exitForm f) g).put (s1.booked is (exitForm f) g)
        (exitGroup (issOf is (exitForm f) g))).reapGroup is.core is.slot) := by
      rw [← hcheck hg]
      exact congrArg Host.Outcome.next hacts
    exact ⟨_, hgo, hgone, hloads, fun ha => (hmem (by rwa [← State.booked_accumCount s1 is (x := exitForm f) rfl] at ha)).trans (s1.booked_rest is (exitForm f) g (.inl rfl)).1⟩

/-! Yields and the group barrier. -/

/-- The form of YIELD. -/
abbrev yieldForm (f : FmtB) : Form := bForm f 0x05 false false false

/-- The group whose acting threads have yielded. -/
def yieldGroup (x : Iss) : Group := { x.g with yielded := natOr 64 x.g.yielded x.act }

/-- What YIELD does once it has issued. -/
def yieldGo (x : Iss) (s : State) : State :=
  if x.act ≠ 0 ∧ x.mask = x.g.live then (x.done s (yieldGroup x)).modCore x.core (fun k => { k with run := 16 }) else x.done s (yieldGroup x)

theorem yield_stated {s s1 : State} {is : Issue} {f : FmtB} {g : Group} (h : Issues s is (f.word 0x05) [] g s1) (hz : f.zero = 0) (hl : f.link = 0)
    (ht : f.target = 0) (ho : f.offset = 0) :
    ∃ t h, exec (.yield is f) s = .next t ∧ Steered s1 t is g h (fun th =>
        if bit (g.issueMask is.pc) th then (is.pc + 8) % 2 ^ 57 else g.pcs.getD th 0) ∧ h.v = g.v ∧ h.live = g.live ∧
      (∀ th, th < 64 → g.acting is.pc f.guard f.guardNeg th → bit h.yielded th = true) := by
  have hacts := control_acts (off := false) yieldGo h hz hl ht (.inr ho)
  have hdone := steered_done (x := yieldForm f) (g := g) s1 is rfl (yieldGroup (issOf is (yieldForm f) g)) rfl rfl rfl
  refine ⟨yieldGo (issOf is (yieldForm f) g) (s1.booked is (yieldForm f) g), (yieldGroup (issOf is (yieldForm f) g)).advance (issOf is (yieldForm f) g).mask,
    congrArg Host.Outcome.next hacts, ?_, ?_⟩
  · unfold yieldGo
    split
    · exact hdone.modCore fun _ => rfl
    · exact hdone
  · refine ⟨rfl, rfl, fun th hth hact => (bit_natOr64 hth).trans ?_⟩
    exact Bool.or_eq_true_iff.mpr (.inr ((bit_actMask is (yieldForm f) g hth).mpr hact))

/-- The group that waits at its barrier, before the barrier is checked. -/
def gbarGroup (x : Iss) (s : State) : Group :=
  { (x.g.advance (natAndNot 64 x.mask x.act)) with
    gbar := natOr 64 x.g.gbar x.act
    gbarSince := if x.g.gbar = 0 then some s.time.mono else x.g.gbarSince
    gbarUsed := if x.g.gbar = 0 then 0 else x.g.gbarUsed }

theorem gbarGroup_keeps (is : Issue) (x : Form) (g : Group) (s : State) :
    (gbarGroup (issOf is x g) s).v = g.v ∧ (gbarGroup (issOf is x g) s).live = g.live ∧ (gbarGroup (issOf is x g) s).s = g.s ∧
      (gbarGroup (issOf is x g) s).p = g.p := ⟨rfl, rfl, rfl, rfl⟩

/-- The group once its barrier is complete. -/
def gbarOpened (k : Group) (w : Nat) : Group := { (k.advance w) with gbar := 0, gbarSince := none, gbarUsed := 0 }

/-- The form of GBAR. -/
abbrev gbarForm (f : FmtB) : Form := bForm f 0x06 false false false

theorem gbar_stated {s s1 : State} {is : Issue} {f : FmtB} {g : Group} {w : Nat} (h : Issues s is (f.word 0x06) [] g s1) (hz : f.zero = 0) (hl : f.link = 0)
    (ht : f.target = 0) (ho : f.offset = 0) (hw : w = natOr 64 g.gbar (g.guardMask f.guard f.guardNeg (g.issueMask is.pc)))
    (hact : ∃ th, th < 64 ∧ g.acting is.pc f.guard f.guardNeg th) :
    (popCount 64 w ≠ popCount 64 g.live →
      ∃ t h, exec (.gbar is f) s = .next t ∧ h.v = g.v ∧ h.live = g.live ∧ h.gbar = w ∧ (g.gbar = 0 → h.gbarSince = some s1.time.mono) ∧
        (g.gbar ≠ 0 → h.gbarSince = g.gbarSince) ∧ Steered s1 t is g h (fun th =>
          if bit (g.issueMask is.pc) th = true ∧ ¬ g.acting is.pc f.guard f.guardNeg th then (is.pc + 8) % 2 ^ 57 else g.pcs.getD th 0)) ∧
    (popCount 64 w = popCount 64 g.live →
      ∃ t h, exec (.gbar is f) s = .next t ∧ h.v = g.v ∧ h.live = g.live ∧ h.gbar = 0 ∧ h.gbarSince = none ∧ Steered s1 t is g h (fun th =>
        if bit w th = true ∨ bit (g.issueMask is.pc) th = true then (g.pcs.getD th 0 + 8) % 2 ^ 57 else g.pcs.getD th 0)) := by
  have hacts := control_acts (off := false) (fun x s => if x.act = 0 then x.done s x.g else x.put s (gbarGroup x s).gbarCheck) h hz hl ht (.inr ho)
  have hgo : exec (.gbar is f) s = .next ((issOf is (gbarForm f) g).put (s1.booked is (gbarForm f) g)
      (gbarGroup (issOf is (gbarForm f) g) (s1.booked is (gbarForm f) g)).gbarCheck) :=
    congrArg Host.Outcome.next (hacts.trans (if_neg (acting_of_act_ne (x := gbarForm f) hact)))
  have hbar : (gbarGroup (issOf is (gbarForm f) g) (s1.booked is (gbarForm f) g)).gbar = w := hw.symm
  have hbits {th : Nat} (hth : th < 64) : bit w th = true ↔ bit g.gbar th = true ∨ g.acting is.pc f.guard f.guardNeg th := by
    rw [hw, bit_natOr64 hth, Bool.or_eq_true]
    exact or_congr_right (bit_actMask is (gbarForm f) g hth)
  obtain ⟨hv, hlive, hs, hp⟩ := gbarGroup_keeps is (gbarForm f) g (s1.booked is (gbarForm f) g)
  constructor
  · intro hne
    have hcheck : (gbarGroup (issOf is (gbarForm f) g) (s1.booked is (gbarForm f) g)).gbarCheck = gbarGroup (issOf is (gbarForm f) g) (s1.booked is (gbarForm f) g) :=
      if_neg fun hc => hne (by rw [← hbar, ← hlive]; exact hc.2)
    rw [hcheck] at hgo
    refine ⟨_, gbarGroup (issOf is (gbarForm f) g) (s1.booked is (gbarForm f) g), hgo, hv, hlive, hbar, fun h0 => ?_, fun h0 => if_neg h0, steered_put (x := gbarForm f) s1 is rfl _ hs hp fun th hth => advance_others is (gbarForm f) g hth⟩
    exact (if_pos h0).trans (by rw [State.booked_time])
  · intro heq
    obtain ⟨th0, hth0, hact0⟩ := hact
    have hcheck : (gbarGroup (issOf is (gbarForm f) g) (s1.booked is (gbarForm f) g)).gbarCheck =
        gbarOpened (gbarGroup (issOf is (gbarForm f) g) (s1.booked is (gbarForm f) g)) w := by
      unfold Group.gbarCheck gbarOpened
      rw [hbar, hlive, if_pos ⟨fun h0 => by simpa [h0, bit] using (hbits hth0).mpr (.inr hact0), heq⟩]
    rw [hcheck] at hgo
    refine ⟨_, gbarOpened (gbarGroup (issOf is (gbarForm f) g) (s1.booked is (gbarForm f) g)) w, hgo, hv, hlive, rfl, rfl, steered_put (x := gbarForm f) s1 is rfl (gbarOpened (gbarGroup (issOf is (gbarForm f) g) (s1.booked is (gbarForm f) g)) w)
      hs hp fun th hth => ?_⟩
    refine (Group.advance_pcs _ _ _ hth).trans ?_
    have hfirst : (gbarGroup (issOf is (gbarForm f) g) (s1.booked is (gbarForm f) g)).pcs.getD th 0 = _ := advance_others is (gbarForm f) g hth
    rw [hfirst]
    have hout : bit g.gbar th = true → bit (g.issueMask is.pc) th = false := fun hb => by
      unfold Group.issueMask
      rw [bit_ofBitList]
      simp [hb]
    by_cases hm : bit (g.issueMask is.pc) th = true
    · have hbar : ¬bit g.gbar th = true := fun hb => by simp [hout hb] at hm
      by_cases hg : g.acting is.pc f.guard f.guardNeg th
      · rw [if_pos ((hbits hth).mpr (.inr hg)), if_neg fun hc => hc.2 hg, if_pos (.inr hm)]
      · rw [if_neg fun hc => ((hbits hth).mp hc).elim hbar hg, if_pos ⟨hm, hg⟩, if_pos (.inr hm), pcs_of_issueMask hm]
    · rw [if_neg (fun hc : _ ∧ _ => hm hc.1)]
      simp only [hm, Bool.false_eq_true, or_false]

theorem gbarWatchdog_stated {s : State} {core slot since : Nat} {g : Group} (hg : (s.core core).groups.get? slot = some g) (hne : g.gbar ≠ 0)
    (hf : g.faulted = false) (hs : g.gbarSince = some since) (hrun : (s.q g.queue).state = .running) :
    (s.num E.gbarWatchdog (s.fnPart (fnOfQueue g.queue)) * 1000 ≤ g.gbarUsed + (s.time.mono - since) →
      ∃ t, exec (.gbarWatchdogExpire core slot) s = .next t ∧ Killed t g.queue 0x07 ∧ t.mem = s.mem) ∧
    (g.gbarUsed + (s.time.mono - since) < s.num E.gbarWatchdog (s.fnPart (fnOfQueue g.queue)) * 1000 →
      exec (.gbarWatchdogExpire core slot) s = .next s) := by
  have hgo : gbarWatchdogExpire core slot s =
      if g.gbar = 0 ∨ g.faulted ∨ g.gbarUsed + (s.time.mono - since) < s.num E.gbarWatchdog (s.fnPart (fnOfQueue g.queue)) * 1000 then s
      else s.coreFault core slot (lowest g.gbar) 0x07 (g.pcs.getD (lowest g.gbar) 0) 0 := by
    unfold gbarWatchdogExpire
    rw [hg]
    dsimp only
    rw [hs]
  constructor
  · intro hle
    rw [if_neg (by rintro (h0 | h1 | h2); exacts [hne h0, absurd h1 (by simp [hf]), absurd h2 (by omega)])] at hgo
    exact ⟨_, congrArg Host.Outcome.next hgo, coreFault_killed hg hrun _ _ _ _ _ _, State.coreFault_mem _ _ _ _ _ _ _ _ _⟩
  · intro hlt
    exact congrArg Host.Outcome.next (hgo.trans (if_pos (.inr (.inr hlt))))

/-- Settles O20: each control instruction puts its group back with its threads where the clause sends them, or ends its context. -/
theorem coreControl : Obligations.CoreControl := by
  unfold Obligations.CoreControl
  exact ⟨fun s s1 is f g h hz hl ht ho => nop_stated h hz hl ht ho,
    fun s s1 is f g addr h hz hl ht ha => bra_stated h hz hl ht (ha.trans (relTarget_eq _ _).symm),
    fun s s1 is f g h hz hl ho hr => brx_stated h hz hl ho hr,
    fun s s1 is f g addr h hz ht hr ha hlt => call_stated h hz ht hr (ha.trans (relTarget_eq _ _).symm) hlt,
    fun s s1 is f g h hz hl ht ho _ => exit_stated h hz hl ht ho,
    fun s s1 is f g h hz hl ht ho => yield_stated h hz hl ht ho,
    fun s s1 is f g w h hz hl ht ho hw hact => gbar_stated h hz hl ht ho hw hact,
    fun s core slot since g hg hne hf hs hrun => gbarWatchdog_stated hg hne hf hs hrun⟩

end Sys2Proof.Machine
end

section
/-! A load whose page lies so high that the number of its line runs into the key of another target (R146). -/

namespace Sys2Proof.Machine

/-- A group of queue 0 with two threads at address 0 and no register written. -/
def loaderGroup : Group :=
  { queue := 0, node := 0, block := 0, inBlock := 0, layer := 0, operator := 0, ring := 0, depth := 0, nodeIndex := 0, width := 32, vregs := 64
    live := 3, gbar := 0, yielded := 0, pcs := [], v := [], s := [], p := [], gbarSince := none, gbarUsed := 0, waiting := 0, ages := []
    stopped := false, faulted := false }

/-- A load of 4 bytes into v12 from the address in v20:v21. -/
def loaderWord : FmtM :=
  { guard := 7, guardNeg := false, data := 12, base := 20, scope := 0, size := 2, space := false, baseS := false, S := false, signed := false, hint := 0
    offset := 0 }

/-- An issue at address 0 of slot 0 of core 0. -/
def issueAtZero : Issue := { core := 0, slot := 0, pc := 0, rfCorrected := 0, rcParity := 0, rfDouble := false, residue := none }

/-- The page of the load is cached as a page of device memory at address 2^64. -/
def highPage : TEntry := { fn := 0, page := 0, target := 0, frame := 2 ^ 48, r := true, w := true, x := true }

/-- The group is about to issue the load. -/
def highLoad : State :=
  { State.reset with
    hif.tcache := [highPage]
    cores := [(0, { Core.initial with groups := [(0, loaderGroup)], icache := [(0, loaderWord.word 0x70)] })] }

/-- The pieces of the load: four bytes of each thread at 2^64. -/
def highPieces : List Acc :=
  [{ thread := 0, va := 0, off := 0, n := 4, target := 0, pa := 2 ^ 64 }, { thread := 1, va := 0, off := 0, n := 4, target := 0, pa := 2 ^ 64 }]

theorem highLoad_issues : LoadIssues highLoad highLoad issueAtZero loaderWord loaderGroup 0x70 0 := by
  refine ⟨⟨rfl, rfl, ⟨rfl, rfl⟩, by decide, rfl, by decide, rfl, by decide, fun r _ hr => ?_, ⟨rfl, rfl⟩⟩, by decide, by decide⟩
  have hnone : highLoad.pendingRegs 0 0 (loaderGroup.issueMask 0) = [] := rfl
  exact absurd (hnone ▸ hr) (List.not_mem_nil)

/-- The line of the load has the key of another chip's line, which the function has no key to ask for: no load is opened. -/
theorem highLoad_opens_nothing : (ld issueAtZero loaderWord highLoad).l2.loads.get? highLoad.l2.nextId = none := by
  decide

/-- Refutes O21: a load of device memory whose cached page lies at 2^64 opens no load, since its line's key is one of another chip's lines and the function has no fabric key. -/
theorem not_memoryInstructions : ¬ Obligations.MemoryInstructions := by
  unfold Obligations.MemoryInstructions
  rintro ⟨⟨hld, -⟩, -⟩
  obtain ⟨hopens, -⟩ := hld highLoad highLoad issueAtZero loaderWord loaderGroup highLoad_issues
  obtain ⟨t, ht, l, -, hl, -⟩ := hopens highPieces (by decide) (by decide) (by decide) (by decide)
  have htl : t = ld issueAtZero loaderWord highLoad := (Host.Outcome.next.inj ht).symm
  rw [htl, highLoad_opens_nothing] at hl
  cases hl

end Sys2Proof.Machine
end

section
/-! Barriers and the sync instructions of a core (R154 to R158, R302). -/

namespace Sys2Proof.Machine

/-! An instruction that is no vector instruction and puts its group back. -/

theorem State.booked_core_sb (s1 : State) (is : Issue) (x : Form) (g : Group) : ((s1.booked is x g).core is.core).sb = (s1.core is.core).sb :=
  State.booked_core_keeps Core.sb (Core.noteGroup_keeps _ fun _ _ _ _ _ => rfl) (fun _ _ _ => rfl) (fun _ _ _ _ => rfl) s1 is x g

theorem State.booked_core_waits (s1 : State) (is : Issue) (x : Form) (g : Group) : ((s1.booked is x g).core is.core).waits = (s1.core is.core).waits :=
  State.booked_core_keeps Core.waits (Core.noteGroup_keeps _ fun _ _ _ _ _ => rfl) (fun _ _ _ => rfl) (fun _ _ _ _ => rfl) s1 is x g

/-- The group that an issue puts back stands in its slot. -/
theorem put_group (s : State) (is : Issue) (x : Form) (g k : Group) : (((issOf is x g).put s k).core is.core).groups.get? is.slot = some k := by
  unfold Iss.put issOf
  rw [State.modCore_core_self]
  exact SMap.get?_put_self _ _ _

theorem put_core (s : State) (is : Issue) (x : Form) (g k : Group) :
    ((issOf is x g).put s k).core is.core = { s.core is.core with groups := (s.core is.core).groups.put is.slot k } := State.modCore_core_self _ _ _

/-- Where the threads of an issue stand when the group is put back advanced. -/
theorem done_pcs (is : Issue) (x : Form) {g k : Group} (hk : k.pcs = g.pcs) (th : Nat) : th < 64 →
    (k.advance (issOf is x g).mask).pcs.getD th 0 = if bit (g.issueMask is.pc) th then (is.pc + 8) % 2 ^ 57 else g.pcs.getD th 0 := by
  intro hth
  rw [← advance_all is x g hth]
  exact congrArg (fun p => SMap.getD p th 0) (by simp only [Group.advance, hk, issOf, Group.age])

/-- An issue that only goes on. -/
theorem done_wentOn {t : State} {is : Issue} {x : Form} {g : Group} (s : State) (ht : t.cores = ((issOf is x g).done s (issOf is x g).g).cores) : WentOn t is g := by
  refine ⟨(issOf is x g).g.advance (issOf is x g).mask, ?_, done_pcs is x (k := (issOf is x g).g) rfl, ?_⟩
  · unfold State.core
    rw [ht]
    exact put_group s is x g _
  · exact ⟨rfl, rfl, rfl, rfl, rfl, rfl⟩

/-! Barriers. -/

/-- The form of a barrier (R154). -/
def barForm (f : FmtO) (kind : Nat) : Form :=
  { word := f.word kind, guard := f.guard, neg := f.guardNeg, vec := false
    legal := fun _ => decide (f.zero = 0 ∧ f.scope ≤ 4), srcs := [], hints := [], dsts := [] }

/-- The group whose issuing threads wait. -/
def waitingGroup (x : Iss) : Group := { x.g with waiting := natOr 64 x.g.waiting x.mask }

theorem waitingGroup_keeps (is : Issue) (x : Form) (g : Group) :
    (waitingGroup (issOf is x g)).waiting = natOr 64 g.waiting (g.issueMask is.pc) ∧ (waitingGroup (issOf is x g)).pcs = g.pcs ∧
      (waitingGroup (issOf is x g)).v = g.v ∧ (waitingGroup (issOf is x g)).s = g.s ∧ (waitingGroup (issOf is x g)).p = g.p := ⟨rfl, rfl, rfl, rfl, rfl⟩

/-- What a barrier does once it has issued. -/
def barGo (f : FmtO) (kind : Nat) (x : Iss) (s : State) : State :=
  if x.act = 0 then x.done s x.g
  else { x.done s (waitingGroup x) with
    l2.nextId := (x.done s (waitingGroup x)).l2.nextId + 1
    l2.bars := (x.done s (waitingGroup x)).l2.bars.put (x.done s (waitingGroup x)).l2.nextId
      { core := x.core, slot := x.slot, queue := x.g.queue, node := x.g.node, threads := x.mask, kind := kind, scope := f.scope, store := none, sync := none } }

theorem barO_opened {s s1 : State} {is : Issue} {f : FmtO} {g : Group} {kind : Nat} {o : Host.Outcome State Fault Refusal} (ho : o = .next (s.barO is f kind))
    (h : Issues s is (f.word kind) [] g s1) (hz : f.zero = 0) (hs : f.scope ≤ 4) (hact : ∃ th, th < 64 ∧ g.acting is.pc f.guard f.guardNeg th) :
    ∃ t, o = .next t ∧ BarrierOpened s1 t is f g kind := by
  have hacts : s.barO is f kind = barGo f kind (issOf is (barForm f kind) g) (s1.booked is (barForm f kind) g) :=
    State.issue_acts (x := barForm f kind) (barGo f kind) h (fun r hr => by simp [barForm] at hr) (by simp [barForm, hz, hs]) rfl
  obtain ⟨hmem, hl2, -, -⟩ := s1.booked_rest is (barForm f kind) g (.inl rfl)
  unfold barGo at hacts
  rw [if_neg (acting_of_act_ne (x := barForm f kind) hact)] at hacts
  rw [hacts] at ho
  refine ⟨_, ho, (waitingGroup (issOf is (barForm f kind) g)).advance (issOf is (barForm f kind) g).mask,
    { core := is.core, slot := is.slot, queue := g.queue, node := g.node, threads := g.issueMask is.pc, kind := kind, scope := f.scope, store := none, sync := none },
    ?_, rfl, rfl, rfl, rfl,
    done_pcs is (barForm f kind) (k := waitingGroup (issOf is (barForm f kind) g)) rfl, ?_, rfl, rfl, rfl, rfl, rfl, rfl, rfl, hmem⟩
  · exact put_group (s1.booked is (barForm f kind) g) is (barForm f kind) g _
  · rw [← hl2]
    exact SMap.get?_put_self _ _ _

/-! The end of a barrier. -/

/-- The threads of a barrier go on. -/
def State.letGo (s : State) (b : Bar) : State :=
  s.modCore b.core (fun k => { k with groups := k.groups.mapVals (fun i g => if i = b.slot then { g with waiting := natAndNot 64 g.waiting b.threads } else g) })

theorem State.letGo_group (s : State) (b : Bar) {g : Group} (hg : (s.core b.core).groups.get? b.slot = some g) :
    ((s.letGo b).core b.core).groups.get? b.slot = some { g with waiting := natAndNot 64 g.waiting b.threads } := by
  unfold State.letGo
  rw [State.modCore_core_self]
  dsimp only
  refine (SMap.get?_mapVals _ _ _).trans ?_
  rw [hg]
  exact congrArg some (if_pos rfl)

theorem State.letGo_l1 (s : State) (b : Bar) : ((s.letGo b).core b.core).l1 = (s.core b.core).l1 := by
  unfold State.letGo
  rw [State.modCore_core_self]

theorem barrierComplete_threads {s : State} {bar : Nat} {b : Bar} (hb : s.l2.bars.get? bar = some b) (hm : s.barMet bar b = true) (hst : b.store = none)
    (hsy : b.sync = none) :
    barrierComplete bar s = if b.kind = 1 then State.letGo { s with l2.bars := s.l2.bars.del bar } b
      else (State.letGo { s with l2.bars := s.l2.bars.del bar } b).acquire b.core b.scope := by
  unfold barrierComplete
  rw [hb]
  simp only [hm, hst, hsy]
  rfl

theorem State.acquire_of_near (s : State) (c : Nat) {scope : Nat} (h : scope < 2) : s.acquire c scope = s := if_pos h

theorem State.acquire_core {s : State} (c : Nat) {scope : Nat} (h : 2 ≤ scope) :
    (s.acquire c scope).core c = { s.core c with l1 := [], scl := [], victim := [] } := by
  have hcore : (s.acquire c scope).core c = (s.modCore c (fun k => { k with l1 := [], scl := [], victim := [] })).core c := by
    unfold State.acquire
    rw [if_neg (by omega)]
    rfl
  rw [hcore, State.modCore_core_self]

theorem State.acquire_groups (s : State) (c scope : Nat) : ((s.acquire c scope).core c).groups = (s.core c).groups := by
  by_cases h : scope < 2
  · rw [State.acquire_of_near s c h]
  · rw [State.acquire_core c (by omega)]

theorem State.acquire_bars (s : State) (c scope : Nat) : (s.acquire c scope).l2.bars = s.l2.bars := by
  unfold State.acquire
  split <;> rfl

theorem State.acquire_mem (s : State) (c scope : Nat) : (s.acquire c scope).mem = s.mem := by
  unfold State.acquire
  split <;> rfl

theorem State.acquire_caches (s : State) (c : Nat) {scope : Nat} (h : 2 ≤ scope) :
    ((s.acquire c scope).core c).l1 = [] ∧ ((s.acquire c scope).core c).scl = [] ∧ ((s.acquire c scope).core c).victim = [] := by
  rw [State.acquire_core c h]
  exact ⟨rfl, rfl, rfl⟩

theorem barrierComplete_stated {s : State} {bar : Nat} {b : Bar} (hb : s.l2.bars.get? bar = some b) (hm : s.barMet bar b = true) (hst : b.store = none)
    (hsy : b.sync = none) :
    ∃ t, exec (.barrierComplete bar) s = .next t ∧ t.l2.bars.get? bar = none ∧
      (∀ g, (s.core b.core).groups.get? b.slot = some g →
        (t.core b.core).groups.get? b.slot = some { g with waiting := natAndNot 64 g.waiting b.threads }) ∧
      (b.kind ≠ 1 → 2 ≤ b.scope → (t.core b.core).l1 = [] ∧ (t.core b.core).scl = [] ∧ (t.core b.core).victim = []) ∧
      (b.kind = 1 ∨ b.scope < 2 → (t.core b.core).l1 = (s.core b.core).l1) ∧ t.mem = s.mem := by
  have hgo := barrierComplete_threads hb hm hst hsy
  have hgone : (State.letGo { s with l2.bars := s.l2.bars.del bar } b).l2.bars.get? bar = none := SMap.get?_del_self _ _
  have hgroup (g : Group) (hg : (s.core b.core).groups.get? b.slot = some g) :=
    State.letGo_group { s with l2.bars := s.l2.bars.del bar } b hg
  have hl1 := State.letGo_l1 { s with l2.bars := s.l2.bars.del bar } b
  by_cases hk : b.kind = 1
  · rw [if_pos hk] at hgo
    exact ⟨_, congrArg Host.Outcome.next hgo, hgone, hgroup, fun h1 => absurd hk h1, fun _ => hl1, rfl⟩
  · rw [if_neg hk] at hgo
    refine ⟨_, congrArg Host.Outcome.next hgo, ?_, fun g hg => ?_, fun _ h2 => State.acquire_caches _ _ h2, fun h => ?_, State.acquire_mem _ _ _⟩
    · rw [State.acquire_bars]
      exact hgone
    · rw [State.acquire_groups]
      exact hgroup g hg
    · rw [State.acquire_of_near _ _ (h.resolve_left hk)]
      exact hl1

theorem barrierComplete_store {s : State} {bar : Nat} {b : Bar} {l : List (Acc × List Byte)} (hb : s.l2.bars.get? bar = some b) (hm : s.barMet bar b = true)
    (hst : b.store = some l) :
    barrierComplete bar s = (State.storePieces { s with l2.bars := s.l2.bars.del bar } b.core b.slot (b.storer s.l2.nextId) l).reapGroup b.core b.slot := by
  unfold barrierComplete
  rw [hb]
  simp only [hm, hst]
  rfl

theorem barrierComplete_sync {s : State} {bar h : Nat} {b : Bar} {m : SynMsg} (hb : s.l2.bars.get? bar = some b) (hm : s.barMet bar b = true)
    (hst : b.store = none) (hsy : b.sync = some (m, h)) (hh : handleChip h s.fab.chipId = none) :
    barrierComplete bar s = { s with l2.bars := s.l2.bars.del bar, syn.inbound := s.syn.inbound ++ [m] } := by
  unfold barrierComplete
  rw [hb]
  simp only [hm, hst, hsy, hh]
  simp [State.sendRelease, hh]

theorem barrierComplete_waits {s : State} {bar : Nat} {b : Bar} (hb : s.l2.bars.get? bar = some b) (hm : s.barMet bar b = false) : barrierComplete bar s = s := by
  unfold barrierComplete
  rw [hb]
  simp [hm]

/-! The sync instructions. -/

/-- The form of a sync instruction (R130, R156). -/
def syncForm (f : FmtY) (op : Nat) (useValue waits : Bool) : Form :=
  { word := f.word op, guard := f.guard, neg := f.guardNeg, vec := false
    legal := fun _ => decide (f.zero = 0 ∧ f.scope ≤ 4) && sregOk f.dst && sregOk f.handle && (if useValue then sregOk f.value else decide (f.value = 0))
    srcs := (256 + f.handle) :: (if useValue then [256 + f.value] else []), hints := [], dsts := [256 + f.dst]
    ready := fun s x => x.syncReady s f waits }

/-- What a sync instruction does once it has issued. -/
def syncGo (f : FmtY) (useValue : Bool) (go : Iss → Nat → Nat → State → State) (x : Iss) (s : State) : State :=
  if !x.once then x.done s x.g
  else
    let h := x.g.sreg f.handle
    if 2 ^ 29 ≤ h then x.fault s x.lead 0x02 0
    else match handleChip h s.fab.chipId with
      | some chip =>
        (if s.num E.fnFabKey x.fn = 0 then x.fault s x.lead 0x02 0
         else if !s.reaches chip then x.reqFail s x.lead 0x0D 0
         else go x h (if useValue then x.g.sreg f.value else 0) s)
      | none => go x h (if useValue then x.g.sreg f.value else 0) s

/-- A sync instruction on an object of this chip acts. -/
theorem sync_acts {s s1 : State} {is : Issue} {f : FmtY} {g : Group} {op : Nat} {useValue waits : Bool} (go : Iss → Nat → Nat → State → State)
    (h : SyncLocal s s1 is f g op useValue) (hw : waits = true → (s1.core is.core).waits < 128) :
    s.issueY is f op useValue waits go = go (issOf is (syncForm f op useValue waits) g) (g.sreg f.handle) (if useValue then g.sreg f.value else 0)
      (s1.booked is (syncForm f op useValue waits) g) := by
  obtain ⟨hi, hz, hs, hd, hh, hv, hact, hacq, hlt, hchip⟩ := h
  have honce : (issOf is (syncForm f op useValue waits) g).once = true := (lead_acts hi.threads).mpr hact
  have hlegal : (syncForm f op useValue waits).legal g.vregs = true := by
    have hval : (if useValue = true then sregOk f.value else decide (f.value = 0)) = true := by
      cases useValue
      · exact decide_eq_true hv
      · exact decide_eq_true hv
    show (decide (f.zero = 0 ∧ f.scope ≤ 4) && sregOk f.dst && sregOk f.handle && (if useValue = true then sregOk f.value else decide (f.value = 0))) = true
    rw [hval, Bool.and_true]
    simp [hz, hs, sregOk, hd, hh]
  have hready : (issueOf is g f.guard f.guardNeg).syncReady s1 f waits = true := by
    unfold Iss.syncReady
    have ha : s1.acquiring (issueOf is g f.guard f.guardNeg).core (issueOf is g f.guard f.guardNeg).slot (issueOf is g f.guard f.guardNeg).mask = false := hacq
    have hc : handleChip ((issueOf is g f.guard f.guardNeg).g.sreg f.handle) s1.fab.chipId = none := hchip
    simp only [ha, hc, Option.isNone_none, Bool.true_or, Bool.and_true, Bool.not_false, Bool.true_and, Bool.or_eq_true]
    refine .inr ?_
    cases waits
    · exact .inl rfl
    · exact .inr (decide_eq_true (hw rfl))
  have hacts : s.issueY is f op useValue waits go =
      syncGo f useValue go (issOf is (syncForm f op useValue waits) g) (s1.booked is (syncForm f op useValue waits) g) :=
    State.issue_acts (x := syncForm f op useValue waits) (syncGo f useValue go) hi
      (fun r hr => by simpa [syncForm] using hr) hlegal hready
  rw [hacts]
  have hfab : (s1.booked is (syncForm f op useValue waits) g).fab.chipId = s1.fab.chipId := congrArg Fab.chipId (State.booked_fab rfl)
  unfold syncGo
  rw [honce]
  have hsreg (r : Nat) : (issOf is (syncForm f op useValue waits) g).g.sreg r = g.sreg r := rfl
  simp only [hsreg, hfab, hchip, Bool.not_true, Bool.false_eq_true, if_false, if_neg (Nat.not_le.mpr hlt)]

/-- A sync release waits for the loads, atomics and stores of its threads alone. -/
theorem State.barMet_congr {s t : State} {id : Nat} {b : Bar} (hk : b.kind = 4) (hl : t.l2.loads = s.l2.loads) (ha : t.l2.atoms = s.l2.atoms)
    (hb : t.l2.bars = s.l2.bars) (hsb : (t.core b.core).sb = (s.core b.core).sb) (hmx : (t.core b.core).mx = (s.core b.core).mx) :
    t.barMet id b = s.barMet id b := by
  simp only [State.barMet, State.barLoads, State.barStores, State.openLoads, hk, hl, ha, hb, hsb, hmx]

/-- The state of a sync release that has issued: its group goes on, and a number is taken. -/
def releaseBooked (x : Iss) (s : State) : State := { x.done s x.g with l2.nextId := s.l2.nextId + 1 }

/-- What a release does with its operation (R156, R245). -/
def releaseGo (f : FmtY) (op : Nat) (x : Iss) (h v : Nat) (s : State) : State :=
  let m : SynMsg :=
    { obj := handleObj h, op := op, value := v, queue := x.g.queue, scope := f.scope, who := .core x.core x.slot x.mask f.dst x.pc s.l2.nextId }
  let b : Bar :=
    { core := x.core, slot := x.slot, queue := x.g.queue, node := x.g.node, threads := x.mask, kind := 4, scope := f.scope, store := none, sync := some (m, h) }
  if (releaseBooked x s).barMet s.l2.nextId b then (releaseBooked x s).sendRelease b m h
  else { releaseBooked x s with l2.bars := (releaseBooked x s).l2.bars.put s.l2.nextId b }

theorem syncRelease_stated {s s1 : State} {is : Issue} {f : FmtY} {g : Group} {m : SynMsg} {b : Bar} {op : Nat} {useValue : Bool}
    {o : Host.Outcome State Fault Refusal} (ho : o = .next (s.syncRelease is f op useValue)) (h : SyncReleases s s1 is f g m b op useValue) :
    (s1.barMet s1.l2.nextId b = true → ∃ t, o = .next t ∧ WentOn t is g ∧ t.syn.inbound = s1.syn.inbound ++ [m] ∧
      t.l2.bars = s1.l2.bars ∧ t.l2.loads = s1.l2.loads ∧ t.mem = s1.mem) ∧
    (s1.barMet s1.l2.nextId b = false → ∃ t, o = .next t ∧ WentOn t is g ∧ t.syn.inbound = s1.syn.inbound ∧
      t.l2.bars.get? s1.l2.nextId = some b ∧ t.mem = s1.mem) := by
  obtain ⟨hloc, hm, hb⟩ := h
  have hgo : s.syncRelease is f op useValue = releaseGo f op (issOf is (syncForm f op useValue false) g) (g.sreg f.handle) (if useValue then g.sreg f.value else 0)
      (s1.booked is (syncForm f op useValue false) g) := sync_acts (releaseGo f op) hloc (fun hw => absurd hw (by decide))
  obtain ⟨-, -, -, -, -, -, -, -, -, hchip⟩ := hloc
  obtain ⟨hmem, hl2, -, -⟩ := s1.booked_rest is (syncForm f op useValue false) g (.inl rfl)
  have hsyn := State.booked_syn s1 is (syncForm f op useValue false) g
  have hfab : (s1.booked is (syncForm f op useValue false) g).fab.chipId = s1.fab.chipId := congrArg Fab.chipId (State.booked_fab rfl)
  generalize hx : issOf is (syncForm f op useValue false) g = x at hgo
  generalize hu : s1.booked is (syncForm f op useValue false) g = u at hgo hmem hl2 hsyn hfab
  have hwent (t : State) (ht : t.cores = (releaseBooked x u).cores) : WentOn t is g := by
    subst hx
    exact done_wentOn u ht
  have hbar : b = { core := x.core, slot := x.slot, queue := x.g.queue, node := x.g.node, threads := x.mask, kind := 4, scope := f.scope, store := none, sync := some (m, g.sreg f.handle) } := by
    subst hx
    exact hb
  have hmsg : m = SynMsg.mk (handleObj (g.sreg f.handle)) op (if useValue then g.sreg f.value else 0) x.g.queue f.scope
      (.core x.core x.slot x.mask f.dst x.pc u.l2.nextId) := by
    rw [hl2]
    subst hx
    exact hm
  have hcore : ((releaseBooked x u).core b.core).sb = (s1.core b.core).sb ∧ ((releaseBooked x u).core b.core).mx = (s1.core b.core).mx := by
    subst hx hu hb
    have hcore := put_core (s1.booked is (syncForm f op useValue false) g) is (syncForm f op useValue false) g
      ((issOf is (syncForm f op useValue false) g).g.advance (issOf is (syncForm f op useValue false) g).mask)
    exact ⟨(congrArg Core.sb hcore).trans (s1.booked_core_sb is _ g), (congrArg Core.mx hcore).trans (s1.booked_core_mx is _ g)⟩
  have hl : (releaseBooked x u).l2.loads = s1.l2.loads := (id (congrArg L2.loads hl2) :)
  have ha : (releaseBooked x u).l2.atoms = s1.l2.atoms := (id (congrArg L2.atoms hl2) :)
  have hbs : (releaseBooked x u).l2.bars = s1.l2.bars := (id (congrArg L2.bars hl2) :)
  have hmet : (releaseBooked x u).barMet u.l2.nextId b = s1.barMet s1.l2.nextId b := by
    rw [← hl2]
    exact State.barMet_congr (by rw [hb]) hl ha hbs hcore.1 hcore.2
  have hunf : releaseGo f op x (g.sreg f.handle) (if useValue then g.sreg f.value else 0) u =
      if (releaseBooked x u).barMet u.l2.nextId b then (releaseBooked x u).sendRelease b m (g.sreg f.handle)
      else { releaseBooked x u with l2.bars := (releaseBooked x u).l2.bars.put u.l2.nextId b } := by
    rw [hbar, hmsg]
    rfl
  rw [hgo, hunf, hmet] at ho
  constructor
  · intro hyes
    rw [if_pos hyes] at ho
    have hchipu : handleChip (g.sreg f.handle) (releaseBooked x u).fab.chipId = none := by
      rw [← hchip, ← hfab]
      rfl
    have hsend : (releaseBooked x u).sendRelease b m (g.sreg f.handle) = { releaseBooked x u with syn.inbound := (releaseBooked x u).syn.inbound ++ [m] } := by
      unfold State.sendRelease
      rw [hchipu]
    rw [hsend] at ho
    exact ⟨_, ho, hwent _ rfl, congrArg (fun y : Syn => y.inbound ++ [m]) hsyn, hbs, hl, hmem⟩
  · intro hno
    rw [if_neg (by simp [hno])] at ho
    refine ⟨_, ho, hwent _ rfl, congrArg Syn.inbound hsyn, ?_, hmem⟩
    rw [← hl2]
    exact SMap.get?_put_self _ _ _

/-- The state of a wait that has issued: its threads wait, and the core has one wait more. -/
def waitBooked (x : Iss) (s : State) : State := (x.put s (waitingGroup x)).modCore x.core (fun k => { k with waits := k.waits + 1 })

theorem waitBooked_core (s : State) (is : Issue) (x : Form) (g : Group) :
    (waitBooked (issOf is x g) s).core is.core =
      { s.core is.core with groups := (s.core is.core).groups.put is.slot (waitingGroup (issOf is x g)), waits := (s.core is.core).waits + 1 } := by
  have hcore := congrArg (fun k : Core => { k with waits := k.waits + 1 }) (put_core s is x g (waitingGroup (issOf is x g)))
  exact (State.modCore_core_self _ _ _).trans hcore

/-- A wait on an object of this chip is to be registered. -/
def waitedState (f : FmtY) (op : Nat) (x : Iss) (h v : Nat) (s : State) : State :=
  { waitBooked x s with
    l2.nextId := (waitBooked x s).l2.nextId + 1
    syn.registering := (waitBooked x s).syn.registering ++ [(handleObj h,
      { who := .core x.core x.slot x.mask f.dst x.pc s.l2.nextId, queue := x.g.queue, op := op, value := v, scope := f.scope })] }

/-- What a wait does (R157, R302). -/
def waitGo (f : FmtY) (op : Nat) (x : Iss) (h v : Nat) (s : State) : State :=
  match handleChip h s.fab.chipId with
  | none => waitedState f op x h v s
  | some chip => (State.sendSync { waitBooked x s with l2.nextId := (waitBooked x s).l2.nextId + 1 } x.fn x.g.queue chip (handleObj h) op v f.scope
      (.core x.core x.slot x.mask f.dst x.pc s.l2.nextId) true).2

theorem waitedState_core (f : FmtY) (op h v : Nat) (s : State) (is : Issue) (x : Form) (g : Group) :
    (waitedState f op (issOf is x g) h v s).core is.core =
      { s.core is.core with groups := (s.core is.core).groups.put is.slot (waitingGroup (issOf is x g)), waits := (s.core is.core).waits + 1 } :=
  waitBooked_core s is x g

theorem waitedState_mem (f : FmtY) (op h v : Nat) (x : Iss) (s : State) : (waitedState f op x h v s).mem = s.mem := rfl

theorem syncWait_stated {s s1 : State} {is : Issue} {f : FmtY} {g : Group} {op : Nat} {useValue : Bool} {o : Host.Outcome State Fault Refusal}
    (ho : o = .next (s.syncWait is f op useValue)) (h : SyncLocal s s1 is f g op useValue) (hw : (s1.core is.core).waits < 128) :
    ∃ t, o = .next t ∧ SyncWaits s1 t is f g op useValue := by
  have hgo : s.syncWait is f op useValue = waitGo f op (issOf is (syncForm f op useValue true) g) (g.sreg f.handle) (if useValue then g.sreg f.value else 0)
      (s1.booked is (syncForm f op useValue true) g) := sync_acts (waitGo f op) h fun _ => hw
  obtain ⟨-, -, -, -, -, -, -, -, -, hchip⟩ := h
  obtain ⟨hmem, hl2, -, -⟩ := s1.booked_rest is (syncForm f op useValue true) g (.inl rfl)
  have hsyn := State.booked_syn s1 is (syncForm f op useValue true) g
  have hfab : (s1.booked is (syncForm f op useValue true) g).fab.chipId = s1.fab.chipId := congrArg Fab.chipId (State.booked_fab rfl)
  have hwait : waitGo f op (issOf is (syncForm f op useValue true) g) (g.sreg f.handle) (if useValue then g.sreg f.value else 0)
      (s1.booked is (syncForm f op useValue true) g) = waitedState f op (issOf is (syncForm f op useValue true) g) (g.sreg f.handle)
      (if useValue then g.sreg f.value else 0) (s1.booked is (syncForm f op useValue true) g) := by
    unfold waitGo
    rw [hfab, hchip]
  rw [hgo, hwait] at ho
  have hcore := waitedState_core f op (g.sreg f.handle) (if useValue then g.sreg f.value else 0) (s1.booked is (syncForm f op useValue true) g) is
    (syncForm f op useValue true) g
  obtain ⟨hw, hp, hv, hsr, hpr⟩ := waitingGroup_keeps is (syncForm f op useValue true) g
  refine ⟨_, ho, waitingGroup (issOf is (syncForm f op useValue true) g), ?_, hw, hp, hv, hsr, hpr, ?_, ?_, ?_, ?_, (waitedState_mem _ _ _ _ _ _).trans hmem⟩
  · rw [hcore]
    exact SMap.get?_put_self _ _ _
  · rw [hcore]
    exact congrArg (· + 1) (State.booked_core_waits s1 is (syncForm f op useValue true) g)
  · rw [← hl2, ← hsyn]
    rfl
  · rw [← hl2]
    rfl
  · rw [← hl2]
    rfl

/-- Settles O22: a barrier, a release and a wait are each their form with its entry, and a completed barrier lets its threads go. -/
theorem barriersAndSync : Obligations.BarriersAndSync := by
  unfold Obligations.BarriersAndSync
  exact ⟨fun s s1 is f g h hz hs hact => barO_opened rfl h hz hs hact, fun s s1 is f g h hz hs hact => barO_opened rfl h hz hs hact,
    fun s s1 is f g h hz hs hact => barO_opened rfl h hz hs hact, fun s bar b hb hm hst hsy => barrierComplete_stated hb hm hst hsy,
    fun s bar b l hb hm hst => congrArg Host.Outcome.next (barrierComplete_store hb hm hst),
    fun s bar h b m hb hm hst hsy hh => congrArg Host.Outcome.next (barrierComplete_sync hb hm hst hsy hh),
    fun s bar b hb hm => congrArg Host.Outcome.next (barrierComplete_waits hb hm),
    fun s s1 is f g m b h => syncRelease_stated rfl h, fun s s1 is f g m b h => syncRelease_stated rfl h, fun s s1 is f g m b h => syncRelease_stated rfl h,
    fun s s1 is f g h hw => syncWait_stated rfl h hw, fun s s1 is f g h hw => syncWait_stated rfl h hw, fun s s1 is f g h hw => syncWait_stated rfl h hw,
    fun s s1 is f g h hw => syncWait_stated rfl h hw⟩

end Sys2Proof.Machine
end

section
/-! A store of five separate runs to a line of a tied member: the fifth finds no credit, and its context ends (R210, R229, R371). -/

namespace Sys2Proof.Machine

/-- Five bytes of the line at address 0 of chip 1, every other one. -/
def brokenEntry : SbEntry :=
  { seq := 3, queue := 0, node := 0, nodes := [0], slots := 1, target := 1, line := 2 ^ 41, data := zeroBytes 128, mask := 341, stamps := [], after := 0
    holdLoads := [], vpage := 0, left := false }

/-- Queue 0 runs, its function has a fabric key, and chip 1 is a member of the tied group that is reached. -/
def tiedPeer : State :=
  let s := State.reset.setNum E.fnFabKey 1 0
  { s with
    fe.queues := [(0, { Queue.initial with state := .running })]
    fab.tie := [1]
    fab.reachable := [1]
    cores := [(0, { Core.initial with sb := [brokenEntry] })] }

set_option maxRecDepth 20000 in
/-- The context of the entry ends with the code of a request that has no credit. -/
theorem tiedPeer_drain_killed : ((storeBufferDrain 0 3 tiedPeer).q 0).killCode = 0x100 := by decide

/-- Refutes O23: an entry with five runs for a tied member's line finds four credits, and draining it ends its context. -/
theorem not_loadResponsesAndDrains : ¬ Obligations.LoadResponsesAndDrains := by
  unfold Obligations.LoadResponsesAndDrains
  rintro ⟨-, hdrain, -⟩
  obtain ⟨-, -, hfabric⟩ := hdrain tiedPeer 0 3 brokenEntry (by decide) (by decide) (by decide)
  obtain ⟨t, ht, -, hcode, -⟩ := hfabric rfl rfl (by decide) (by decide) (by decide)
  have htl : t = storeBufferDrain 0 3 tiedPeer := (Host.Outcome.next.inj ht).symm
  rw [htl] at hcode
  have hkilled : ((storeBufferDrain 0 3 tiedPeer).q brokenEntry.queue).killCode = 0x100 := tiedPeer_drain_killed
  rw [hkilled] at hcode
  exact absurd hcode (by decide)

end Sys2Proof.Machine
end

section
/-! A load of weights by a group whose queue number lies so high that its function's page-table root is the entry that counts corrected errors (R115, R176):
the correction that its issue books moves the table away. -/

namespace Sys2Proof.Machine

/-- A function whose page-table root is the count of corrected errors. -/
def strayFn : Nat := (E.regEccCorrected - E.fnPtRoot) * 256

/-- A group of that function with two threads at address 0. -/
def strayGroup : Group :=
  { queue := strayFn * 16, node := 0, block := 0, inBlock := 0, layer := 0, operator := 0, ring := 0, depth := 0, nodeIndex := 0, width := 32, vregs := 64
    live := 3, gbar := 0, yielded := 0, pcs := [], v := [], s := [], p := [], gbarSince := none, gbarUsed := 0, waiting := 0, ages := []
    stopped := false, faulted := false }

/-- MX.LDW from the address and with the stride and the scales in s0. -/
def ldwWord : FmtMx := { guard := 7, guardNeg := false, sa := 0, sb := 0, sc := 0, zero := 0, ctl := 0 }

/-- An issue at address 0 of slot 0 of core 0 with a corrected error in the register file. -/
def correctedIssue : Issue := { core := 0, slot := 0, pc := 0, rfCorrected := 1, rcParity := 0, rfDouble := false, residue := none }

/-- The group's block. -/
def strayBlock : Block :=
  { queue := strayFn * 16, node := 0, block := 0, slots := [0], freed := 0, scratchBytes := 256, scratch := [], scratchBad := [], matrix := true, saving := none
    saveAddr := none, kept := false, since := 0, layer := 0, operator := 0 }

/-- The block holds the array, whose shadow set is configured for 16-bit weights, and a table at 0x1000 maps the first page. -/
def strayTable : State :=
  { State.reset with
    mgt.num := [(E.regEccCorrected * 256, 0x1000)]
    hif.parts := [(0, { PartSt.initial with slabs := [0] })]
    mem := [(0x1000, 1#8), (0x1001, 0x20#8), (0x2000, 1#8), (0x2001, 0x30#8), (0x3000, 0x1F#8)]
    cores := [(0, { Core.initial with
      groups := [(0, strayGroup)]
      blocks := [(0, strayBlock)]
      icache := [(icacheKey strayFn 0, ldwWord.word 0xC1)]
      mx := { Mx.initial with holder := some 0, sets := [(1, { MxSet.initial with configured := true, cfg := 0x202 })] } })] }

theorem strayTable_issues : MatrixIssues strayTable strayTable correctedIssue ldwWord 0xC1 [ldwWord.sa, ldwWord.sb, ldwWord.sc] strayGroup := by
  refine ⟨⟨rfl, rfl, ⟨rfl, rfl⟩, by decide, rfl, by decide, ?_, by decide, fun r _ hr => ?_, ⟨rfl, rfl⟩⟩, by decide, ⟨_, rfl, rfl⟩, by decide⟩
  · have hcode : (strayTable.core correctedIssue.core).icache.get? (icacheKey (fnOfQueue strayGroup.queue) correctedIssue.pc) = some (ldwWord.word 0xC1) := by decide
    simp only [State.fetchWord, hcode]
  · have hnone : strayTable.pendingRegs 0 0 (strayGroup.issueMask 0) = [] := rfl
    exact absurd (hnone ▸ hr) (List.not_mem_nil)

set_option maxRecDepth 20000 in
/-- Before the issue its books, the whole source is mapped. -/
theorem strayTable_mapped :
    ((issueOf correctedIssue strayGroup 7 false).ranges strayTable false .read (ldwRanges 0x202 0 0 0 false)).code = 0 := by decide

set_option maxRecDepth 20000 in
/-- The group does not go on. -/
theorem strayTable_stays :
    (((mxLdw correctedIssue ldwWord strayTable).core 0).groups.get? 0).map (fun h => h.pcs.getD 0 0) = some 0 := by decide

/-- Refutes O24: the correction that an issue books moves the page table of a function whose root shares its key with the count of corrected errors, and the load of weights faults. -/
theorem not_matrixAcceptance : ¬ Obligations.MatrixAcceptance := by
  unfold Obligations.MatrixAcceptance
  rintro ⟨-, hldw, -⟩
  have hshadow : (strayTable.core correctedIssue.core).mx.aheadShadow = some 0x202 := by decide
  obtain ⟨t, ht, ⟨h, hget, hpcs, -⟩, -⟩ := hldw strayTable strayTable correctedIssue ldwWord strayGroup strayTable_issues (by decide) (by decide) (by decide)
    rfl (by decide) (by decide) (by decide) (by decide) (fun w hw => by
      obtain rfl : 0x202 = w := Option.some.inj (hshadow.symm.trans hw)
      exact ⟨.inr rfl, strayTable_mapped⟩)
  have htl : t = mxLdw correctedIssue ldwWord strayTable := (Host.Outcome.next.inj ht).symm
  rw [htl] at hget
  have hstay := strayTable_stays
  rw [show ((mxLdw correctedIssue ldwWord strayTable).core 0).groups.get? 0 = some h from hget] at hstay
  have hmoved := hpcs 0 (by decide)
  have hzero : h.pcs.getD 0 0 = 0 := Option.some.inj hstay
  rw [hzero] at hmoved
  exact absurd hmoved (by decide)

end Sys2Proof.Machine
end

section
/-! A matrix load whose page lies so high that the numbers of its lines run into the keys of another target (R176). -/

namespace Sys2Proof.Machine

/-- MX.LDW with all its rows at address 0, accepted and waiting to start. -/
def waitingLdw : MxOp :=
  { id := 0, kind := 1, slot := 0, queue := 0, pc := 0, threads := 3, addr := 0, scale := 0, stride := 0, base := 0, rows := 0, ctl := 0
    started := false, set := 0, entered := 0, load := none }

/-- The array of core 0 is about to load the tile, and the first page is cached as a page of device memory at 2^64. -/
def highTile : State :=
  { State.reset with
    hif.tcache := [highPage]
    cores := [(0, { Core.initial with
      groups := [(0, loaderGroup)]
      mx := { Mx.initial with holder := some 0, sets := [(1, { MxSet.initial with configured := true, cfg := 0x202 })], queue := [waitingLdw] } })] }

/-- The pieces of the tile: 32 rows of 128 bytes, all at 2^64. -/
def highRows : List Acc := List.replicate 32 { thread := 0, va := 0, off := 0, n := 128, target := 0, pa := 2 ^ 64 }

set_option maxRecDepth 20000 in
theorem highTile_placed : (waitingLdw.iss 0 loaderGroup).ranges highTile false .read (ldwRanges 0x202 0 0 0 false) = .ok highRows := by decide

set_option maxRecDepth 20000 in
/-- The first line has the key of another chip's line, which the function has no key to ask for: no load is opened. -/
theorem highTile_opens_nothing : (mxInstrStart 0 0 highTile).l2.loads.get? highTile.l2.nextId = none := by decide

/-- Refutes O25: a load of weights from device memory whose cached page lies at 2^64 opens no load. -/
theorem not_matrixWork : ¬ Obligations.MatrixWork := by
  unfold Obligations.MatrixWork
  rintro ⟨hstart, -⟩
  obtain ⟨-, -, -, -, hload⟩ := hstart highTile 0 0 waitingLdw loaderGroup (by decide) (by decide)
  obtain ⟨t, x, ht, hx, -⟩ := hload rfl 0x202 highRows (by decide) highTile_placed (by decide)
  have htl : t = mxInstrStart 0 0 highTile := (Host.Outcome.next.inj ht).symm
  rw [htl, highTile_opens_nothing] at hx
  cases hx

end Sys2Proof.Machine
end

section
/-! What settling a queue leaves of the loads, atomics and barriers that are open. -/

namespace Sys2Proof.Machine

@[simp] theorem State.addQty_l2_atoms (s : State) (q i n l o : Nat) : (s.addQty q i n l o).l2.atoms = s.l2.atoms := by
  apply State.addQty_keeps (fun s => s.l2.atoms) <;> simp
@[simp] theorem State.addQty_l2_bars (s : State) (q i n l o : Nat) : (s.addQty q i n l o).l2.bars = s.l2.bars := by
  apply State.addQty_keeps (fun s => s.l2.bars) <;> simp

end Sys2Proof.Machine
end

section
/-! What the end of a queue and the messages that it sends leave as they were. -/

namespace Sys2Proof.Machine

@[simp] theorem State.countAt_l2 (s : State) (valOff sel n : Nat) : (s.countAt valOff sel n).l2 = s.l2 := by simp [State.countAt, ite_l2]
@[simp] theorem State.countEvent_l2 (s : State) (kind unit event n queue fmt : Nat) : (s.countEvent kind unit event n queue fmt).l2 = s.l2 :=
  by simp [State.countEvent, ite_l2]
@[simp] theorem State.countSent_l2 (s : State) (link : Nat) (via : Option Nat) (len queue : Nat) : (s.countSent link via len queue).l2 = s.l2 :=
  by simp [State.countSent, ite_l2]
@[simp] theorem State.sendNow_l2_loads (s : State) (key f q type dst op addr : Nat) (data : List Byte) (poison : Nat) (issuer : Issuer) : (s.sendNow key f q type dst op addr data poison issuer).l2.loads = s.l2.loads :=
  by simp [State.sendNow]
@[simp] theorem State.sendKeyed_l2_loads (s : State) (key f q type dst op addr : Nat) (data : List Byte) (poison : Nat) (issuer : Issuer) : (s.sendKeyed key f q type dst op addr data poison issuer).2.l2.loads = s.l2.loads := by
  unfold State.sendKeyed
  (repeat' split) <;> simp
@[simp] theorem State.sendReq_l2_loads (s : State) (f q type dst op addr : Nat) (data : List Byte) (poison : Nat) (issuer : Issuer) : (s.sendReq f q type dst op addr data poison issuer).2.l2.loads = s.l2.loads := by
  unfold State.sendReq
  dsimp only
  split <;> simp
@[simp] theorem State.sendNow_l2_atoms (s : State) (key f q type dst op addr : Nat) (data : List Byte) (poison : Nat) (issuer : Issuer) : (s.sendNow key f q type dst op addr data poison issuer).l2.atoms = s.l2.atoms :=
  by simp [State.sendNow]
@[simp] theorem State.sendKeyed_l2_atoms (s : State) (key f q type dst op addr : Nat) (data : List Byte) (poison : Nat) (issuer : Issuer) : (s.sendKeyed key f q type dst op addr data poison issuer).2.l2.atoms = s.l2.atoms := by
  unfold State.sendKeyed
  (repeat' split) <;> simp
@[simp] theorem State.sendReq_l2_atoms (s : State) (f q type dst op addr : Nat) (data : List Byte) (poison : Nat) (issuer : Issuer) : (s.sendReq f q type dst op addr data poison issuer).2.l2.atoms = s.l2.atoms := by
  unfold State.sendReq
  dsimp only
  split <;> simp
@[simp] theorem State.sendNow_l2_bars (s : State) (key f q type dst op addr : Nat) (data : List Byte) (poison : Nat) (issuer : Issuer) : (s.sendNow key f q type dst op addr data poison issuer).l2.bars = s.l2.bars :=
  by simp [State.sendNow]
@[simp] theorem State.sendKeyed_l2_bars (s : State) (key f q type dst op addr : Nat) (data : List Byte) (poison : Nat) (issuer : Issuer) : (s.sendKeyed key f q type dst op addr data poison issuer).2.l2.bars = s.l2.bars := by
  unfold State.sendKeyed
  (repeat' split) <;> simp
@[simp] theorem State.sendReq_l2_bars (s : State) (f q type dst op addr : Nat) (data : List Byte) (poison : Nat) (issuer : Issuer) : (s.sendReq f q type dst op addr data poison issuer).2.l2.bars = s.l2.bars := by
  unfold State.sendReq
  dsimp only
  split <;> simp
@[simp] theorem State.countSent_fe (s : State) (link : Nat) (via : Option Nat) (len queue : Nat) : (s.countSent link via len queue).fe = s.fe :=
  by simp [State.countSent, ite_fe]
@[simp] theorem State.sendNow_fe (s : State) (key f q type dst op addr : Nat) (data : List Byte) (poison : Nat) (issuer : Issuer) : (s.sendNow key f q type dst op addr data poison issuer).fe = s.fe :=
  by simp [State.sendNow]
@[simp] theorem State.sendKeyed_fe (s : State) (key f q type dst op addr : Nat) (data : List Byte) (poison : Nat) (issuer : Issuer) : (s.sendKeyed key f q type dst op addr data poison issuer).2.fe = s.fe := by
  unfold State.sendKeyed
  (repeat' split) <;> simp
@[simp] theorem State.sendReq_fe (s : State) (f q type dst op addr : Nat) (data : List Byte) (poison : Nat) (issuer : Issuer) : (s.sendReq f q type dst op addr data poison issuer).2.fe = s.fe := by
  unfold State.sendReq
  dsimp only
  split <;> simp
@[simp] theorem State.cancelFar_l2_loads (s : State) (key q : Nat) (i : Issuer) : (s.cancelFar key q i).l2.loads = s.l2.loads := by simp [State.cancelFar, ite_l2_loads]
@[simp] theorem State.cancelFar_l2_atoms (s : State) (key q : Nat) (i : Issuer) : (s.cancelFar key q i).l2.atoms = s.l2.atoms := by simp [State.cancelFar, ite_l2_atoms]
@[simp] theorem State.cancelFar_l2_bars (s : State) (key q : Nat) (i : Issuer) : (s.cancelFar key q i).l2.bars = s.l2.bars := by simp [State.cancelFar, ite_l2_bars]
@[simp] theorem State.cancelFar_fe (s : State) (key q : Nat) (i : Issuer) : (s.cancelFar key q i).fe = s.fe := by simp [State.cancelFar, ite_fe]
@[simp] theorem State.dropWaiters_l2 (s : State) (p : Waiter → Bool) : (s.dropWaiters p).l2 = s.l2 := rfl
@[simp] theorem State.dropWaiters_fe (s : State) (p : Waiter → Bool) : (s.dropWaiters p).fe = s.fe := rfl
@[simp] theorem State.pushFab_l2 (s : State) (rec : Nat) : (s.pushFab rec).l2 = s.l2 := by simp [State.pushFab, ite_l2]
@[simp] theorem State.pushFab_fe (s : State) (rec : Nat) : (s.pushFab rec).fe = s.fe := by simp [State.pushFab, ite_fe]
@[simp] theorem State.collSend_l2 (s : State) (dst op addr : Nat) (data : List Byte) (poison key : Nat) : (s.collSend dst op addr data poison key).l2 = s.l2 :=
  by simp [State.collSend]
@[simp] theorem State.collSend_fe (s : State) (dst op addr : Nat) (data : List Byte) (poison key : Nat) : (s.collSend dst op addr data poison key).fe = s.fe :=
  by simp [State.collSend]
@[simp] theorem State.collTell_l2 (s : State) (g code : Nat) : (s.collTell g code).l2 = s.l2 := by simp [State.collTell]
@[simp] theorem State.collTell_fe (s : State) (g code : Nat) : (s.collTell g code).fe = s.fe := by simp [State.collTell]
@[simp] theorem State.collEnd_l2 (s : State) (g code : Nat) (abort : Bool) : (s.collEnd g code abort).l2 = s.l2 := by simp [State.collEnd, ite_l2]
@[simp] theorem State.collEnd_fe (s : State) (g code : Nat) (abort : Bool) : (s.collEnd g code abort).fe = s.fe := by simp [State.collEnd, ite_fe]
@[simp] theorem State.unwant_l2 (s : State) (x : Issuer → Bool) : (s.unwant x).l2 = s.l2 := rfl
@[simp] theorem State.unwant_fe (s : State) (x : Issuer → Bool) : (s.unwant x).fe = s.fe := rfl
@[simp] theorem State.abandonColls_l2 (s : State) (q : Nat) : (s.abandonColls q).l2 = s.l2 := by simp [State.abandonColls]
@[simp] theorem State.dropQueueWaits_l2_loads (s : State) (q : Nat) : (s.dropQueueWaits q).l2.loads = s.l2.loads := by simp [State.dropQueueWaits]
@[simp] theorem State.dropQueueWaits_l2_atoms (s : State) (q : Nat) : (s.dropQueueWaits q).l2.atoms = s.l2.atoms := by simp [State.dropQueueWaits]
@[simp] theorem State.dropQueueWaits_l2_bars (s : State) (q : Nat) : (s.dropQueueWaits q).l2.bars = s.l2.bars := by simp [State.dropQueueWaits]
@[simp] theorem State.dropQueueWaits_fe (s : State) (q : Nat) : (s.dropQueueWaits q).fe = s.fe := by simp [State.dropQueueWaits]
@[simp] theorem State.dropShares_l2 (s : State) (q : Nat) : (s.dropShares q).l2 = s.l2 := rfl
@[simp] theorem State.modMx_l2 (s : State) (c : Nat) (f : Mx → Mx) : (s.modMx c f).l2 = s.l2 := rfl
@[simp] theorem State.freeBlock_l2_loads (s : State) (c key why : Nat) : (s.freeBlock c key why).l2.loads = s.l2.loads := by
  unfold State.freeBlock
  (repeat' split) <;> simp
@[simp] theorem State.freeBlock_l2_atoms (s : State) (c key why : Nat) : (s.freeBlock c key why).l2.atoms = s.l2.atoms := by
  unfold State.freeBlock
  (repeat' split) <;> simp
@[simp] theorem State.freeBlock_l2_bars (s : State) (c key why : Nat) : (s.freeBlock c key why).l2.bars = s.l2.bars := by
  unfold State.freeBlock
  (repeat' split) <;> simp
@[simp] theorem State.freeSlot_l2_atoms (s : State) (c slot : Nat) : (s.freeSlot c slot).l2.atoms = s.l2.atoms := rfl
@[simp] theorem State.freeSlot_l2_bars (s : State) (c slot : Nat) : (s.freeSlot c slot).l2.bars = s.l2.bars := rfl
@[simp] theorem State.freeCore_l2_atoms (s : State) (q c : Nat) : (s.freeCore q c).l2.atoms = s.l2.atoms := by simp -implicitDefEqProofs [State.freeCore]
@[simp] theorem State.freeCore_l2_bars (s : State) (q c : Nat) : (s.freeCore q c).l2.bars = s.l2.bars := by simp -implicitDefEqProofs [State.freeCore]
@[simp] theorem State.sigDone_fe (s : State) (q : Nat) : (s.sigDone q).fe = s.fe := by simp [State.sigDone]
@[simp] theorem State.sigError_fe (s : State) (q : Nat) : (s.sigError q).fe = s.fe := by simp [State.sigError]

end Sys2Proof.Machine
end

section
/-! The narrowing of a core, and the steps that end a context (R120, R286, R287, Table 11.12). -/

namespace Sys2Proof.SMap

theorem mem_vals_of_keep {α : Type} {m : SMap α} {p : Nat → α → Bool} {v : α} (h : v ∈ (m.keep p).vals) : v ∈ m.vals :=
  (List.filter_sublist.map Prod.snd).subset h

theorem test_of_mem_vals_keep {α : Type} {m : SMap α} {p : α → Bool} {v : α} (h : v ∈ (m.keep fun _ v => p v).vals) : p v = true := by
  obtain ⟨e, he, rfl⟩ := List.mem_map.mp h
  exact (List.mem_filter.mp he).2

end Sys2Proof.SMap

namespace Sys2Proof.Machine

/-! A core that narrows or fails. -/

theorem State.core_congr {s t : State} (h : t.cores = s.cores) (c : Nat) : t.core c = s.core c := congrArg (SMap.getD · c Core.initial) h

theorem State.q_congr {s t : State} (h : t.fe = s.fe) (q : Nat) : t.q q = s.q q := by simp only [State.q, h]

theorem Core.stopBlocks_group {k : Core} {slot : Nat} {g : Group} (h : k.groups.get? slot = some g) :
    k.stopBlocks.groups.get? slot = some { g with stopped := true } := by
  simp [Core.stopBlocks, SMap.get?_mapVals, h]

theorem Core.stopBlocks_block {k : Core} {key : Nat} {b : Block} (h : k.blocks.get? key = some b) (hb : b.saving = none) :
    k.stopBlocks.blocks.get? key = some { b with saving := some [] } := by
  simp [Core.stopBlocks, SMap.get?_mapVals, h, hb]

/-- A core that narrows: its groups stopped, its blocks to be saved. -/
def Core.narrowing (k : Core) (failing : Bool) : Core := { k.stopBlocks with state := 2, failing := failing, retry := none }

theorem coreLaneNarrowing_narrows {s : State} {core half : Nat} (h0 : (s.core core).state = 0) (hr : (s.core core).retry = some half) :
    coreLaneNarrowing core half s =
      (s.modCore core fun k => k.narrowing !(decide (s.num E.fieldNarrowing = 1) && decide ((s.core core).narrow = 0))).faultRecord
        17 core half 0xFFFFFFFF 0 (s.core core).epoch :=
  if_neg (by simp [h0, hr])

/-- The core that comes back narrow, its scalar cache disabled. -/
def Core.backNarrow (k : Core) : Core :=
  { k with
    narrow := 2, state := 0, epoch := (k.epoch + 1) % 2 ^ 32, sclEnable := false, sclInvalidated := false, retry := none, rcache := [], recent := []
    run := 0, order := [] }

/-- The state in which a narrowed core has returned. -/
def State.narrowed (s : State) (core : Nat) : State := ((s.modCore core fun k => { k with narrow := 2 }).coreReturns core).addNum E.coresNarrowed 16

theorem coreNarrowingComplete_back {s : State} {core : Nat} (h2 : (s.core core).state = 2) (hb : (s.core core).blocks = [])
    (hf : (s.core core).failing = false) : coreNarrowingComplete core s = s.narrowed core := by
  simp [coreNarrowingComplete, h2, hb, hf, State.narrowed]

theorem State.coreReturns_cores (s : State) (c : Nat) : (s.coreReturns c).cores = (s.modCore c fun k => { k with
    state := 0, epoch := (k.epoch + 1) % 2 ^ 32, sclEnable := false, sclInvalidated := false, retry := none, rcache := [], recent := []
    run := 0, order := [] }).cores := by
  simp [State.coreReturns]

theorem State.narrowed_core (s : State) (core : Nat) : (s.narrowed core).core core = (s.core core).backNarrow := by
  simp [State.narrowed, State.core, State.coreReturns_cores, State.modCore, Core.backNarrow]

theorem State.narrowed_others (s : State) {core c : Nat} (h : c ≠ core) : (s.narrowed core).core c = s.core c := by
  simp [State.narrowed, State.core, State.coreReturns_cores, State.modCore, SMap.getD_modify_ne _ _ _ h]

theorem State.narrowed_l2 (s : State) (core : Nat) : (s.narrowed core).l2 =
    { s.l2 with sclDisabled := setBit s.l2.sclDisabled core, status := setBit s.l2.status 7 } := by
  simp [State.narrowed, State.coreReturns, State.modCore]

theorem State.narrowed_num (s : State) (core : Nat) : (s.narrowed core).num E.coresNarrowed = (s.num E.coresNarrowed + 1) % 2 ^ 16 := by
  rw [State.narrowed, State.num_addNum_self, State.num_of_mgt_num (s := s) (by simp [State.coreReturns, State.modCore])]

theorem State.narrowed_mem (s : State) (core : Nat) : (s.narrowed core).mem = s.mem := by
  simp [State.narrowed, State.coreReturns, State.modCore]

theorem narrowing :
    (∀ (s : State) (core half : Nat), (s.core core).state = 0 → (s.core core).retry = some half →
      ∃ t, exec (.coreLaneNarrowing core half) s = .next t ∧
        (t.core core).state = 2 ∧ (t.core core).failing = !(decide (s.num E.fieldNarrowing = 1) && decide ((s.core core).narrow = 0)) ∧ (t.core core).retry = none ∧
        (∀ slot g, (s.core core).groups.get? slot = some g → (t.core core).groups.get? slot = some { g with stopped := true }) ∧
        (∀ key b, (s.core core).blocks.get? key = some b → b.saving = none → (t.core core).blocks.get? key = some { b with saving := some [] }) ∧
        (∀ c, c ≠ core → t.core c = s.core c) ∧ t.mem = s.mem) ∧
    (∀ (s : State) (core half : Nat), (s.core core).retry ≠ some half → exec (.coreLaneNarrowing core half) s = .next s) ∧
    (∀ (s : State) (core : Nat), (s.core core).state = 2 → (s.core core).blocks = [] → (s.core core).failing = false →
      ∃ t, exec (.coreNarrowingComplete core) s = .next t ∧ (t.core core).state = 0 ∧ (t.core core).narrow = 2 ∧
        (t.core core).epoch = ((s.core core).epoch + 1) % 2 ^ 32 ∧ (t.core core).sclEnable = false ∧ bit t.l2.sclDisabled core = true ∧
        bit t.l2.status 7 = true ∧ t.num E.coresNarrowed = (s.num E.coresNarrowed + 1) % 2 ^ 16 ∧ (∀ c, c ≠ core → t.core c = s.core c) ∧ t.mem = s.mem) ∧
    (∀ (s : State) (core : Nat), (s.core core).state = 2 → (s.core core).blocks = [] → (s.core core).failing = true →
      exec (.coreNarrowingComplete core) s = .next (s.modCore core (fun k => { k with state := 3, failing := false }))) ∧
    (∀ (s : State) (core : Nat), (s.core core).state = 2 → (s.core core).blocks ≠ [] → exec (.coreNarrowingComplete core) s = .next s) := by
  refine ⟨?_, ?_, ?_, ?_, ?_⟩
  · intro s core half h0 hr
    have hk := (State.core_congr (State.faultRecord_cores _ 17 core half 0xFFFFFFFF 0 (s.core core).epoch) core).trans
      (s.modCore_core_self core fun k => k.narrowing !(decide (s.num E.fieldNarrowing = 1) && decide ((s.core core).narrow = 0)))
    refine ⟨_, congrArg Host.Outcome.next (coreLaneNarrowing_narrows h0 hr), congrArg Core.state hk, congrArg Core.failing hk,
      congrArg Core.retry hk, ?_, ?_,
      fun c hc => (State.core_congr (State.faultRecord_cores _ _ _ _ _ _ _) c).trans (State.modCore_core_ne _ _ _ hc), State.faultRecord_mem _ _ _ _ _ _ _⟩
    · intro slot g hg
      rw [hk]
      exact Core.stopBlocks_group hg
    · intro key b hb hs
      rw [hk]
      exact Core.stopBlocks_block hb hs
  · intro s core half hr
    exact congrArg Host.Outcome.next (if_pos (.inr hr))
  · intro s core h2 hb hf
    have hk := s.narrowed_core core
    have hl := s.narrowed_l2 core
    refine ⟨s.narrowed core, congrArg Host.Outcome.next (coreNarrowingComplete_back h2 hb hf), congrArg Core.state hk, congrArg Core.narrow hk,
      congrArg Core.epoch hk, congrArg Core.sclEnable hk, ?_, ?_, s.narrowed_num core, fun c hc => s.narrowed_others hc, s.narrowed_mem core⟩
    · simp [hl, bit_setBit]
    · simp [hl, bit_setBit]
  · intro s core h2 hb hf
    exact congrArg Host.Outcome.next (by simp [coreNarrowingComplete, h2, hb, hf])
  · intro s core h2 hb
    exact congrArg Host.Outcome.next (by simp [coreNarrowingComplete, h2, hb])

/-! The groups of an ending context. -/

/-- A core on which the groups of a queue have stopped. -/
def Core.stopOf (q : Nat) (k : Core) : Core :=
  { k with groups := k.groups.mapVals (fun _ g => if g.queue = q then { g with stopped := true } else g) }

/-- A transfer whose node belongs to a queue, stopped. -/
def State.stopEngine (s : State) (q : Nat) (e : Engine) : Engine :=
  match s.fe.nodes.get? e.node with
  | some n => if n.queue = q then { e with stopped := true } else e
  | none => e

theorem State.ending_of {s : State} {q : Nat} (h : (s.q q).state = .killing ∨ (s.q q).state = .resetting) : s.ending q = true := decide_eq_true h

theorem coreGroupsStop_of_ending {s : State} {q : Nat} (h : s.ending q = true) :
    coreGroupsStop q s =
      { s with cores := s.cores.mapVals fun _ k => k.stopOf q, fe.engines := s.fe.engines.mapVals fun _ e => s.stopEngine q e } :=
  if_neg (by simp [h])

theorem coreGroupsStop_core {s : State} {q : Nat} (h : s.ending q = true) (c : Nat) : (coreGroupsStop q s).core c = (s.core c).stopOf q := by
  rw [coreGroupsStop_of_ending h]
  exact SMap.getD_mapVals s.cores (fun _ k => k.stopOf q) c Core.initial rfl

theorem Core.stopOf_group (k : Core) (q slot : Nat) :
    (k.stopOf q).groups.get? slot = (k.groups.get? slot).map fun g => if g.queue = q then { g with stopped := true } else g :=
  SMap.get?_mapVals k.groups (fun _ g => if g.queue = q then { g with stopped := true } else g) slot

theorem State.stopEngine_stopped {s : State} {q : Nat} {e : Engine} {n : Node} (hn : s.fe.nodes.get? e.node = some n) (hq : n.queue = q) :
    (s.stopEngine q e).stopped = true := by
  simp [State.stopEngine, hn, hq]

theorem State.stopEngine_node (s : State) (q : Nat) (e : Engine) : (s.stopEngine q e).node = e.node := by
  unfold State.stopEngine
  split
  · split <;> rfl
  · rfl

theorem groups_stop (s : State) (q : Nat) (h : (s.q q).state = .killing ∨ (s.q q).state = .resetting) :
    ∃ t, exec (.coreGroupsStop q) s = .next t ∧ (∀ c slot g, (t.core c).groups.get? slot = some g → g.queue = q → g.stopped = true) ∧
      (∀ c slot g, (s.core c).groups.get? slot = some g → g.queue ≠ q → (t.core c).groups.get? slot = some g) ∧
      (∀ id e n, t.fe.engines.get? id = some e → s.fe.nodes.get? e.node = some n → n.queue = q → e.stopped = true) ∧
      t = { s with cores := t.cores, fe.engines := t.fe.engines } := by
  have hk := coreGroupsStop_core (State.ending_of h)
  have ht := coreGroupsStop_of_ending (State.ending_of h)
  refine ⟨coreGroupsStop q s, rfl, ?_, ?_, ?_, ?_⟩
  · intro c slot g hg hq
    rw [hk, Core.stopOf_group] at hg
    obtain ⟨g0, -, rfl⟩ := Option.map_eq_some_iff.mp hg
    by_cases h0 : g0.queue = q
    · rw [if_pos h0]
    · rw [if_neg h0] at hq
      exact absurd hq h0
  · intro c slot g hg hq
    rw [hk, Core.stopOf_group, hg]
    simp [hq]
  · intro id e n he hn hq
    rw [ht] at he
    have hm := (SMap.get?_mapVals s.fe.engines (fun _ e => s.stopEngine q e) id).symm.trans he
    obtain ⟨e0, -, rfl⟩ := Option.map_eq_some_iff.mp hm
    exact State.stopEngine_stopped ((s.stopEngine_node q e0) ▸ hn) hq
  · rw [ht]

/-! Settling. -/

/-- No load, atomic or barrier of the queue is open. -/
def State.NothingOpen (q : Nat) (s : State) : Prop :=
  (∀ l ∈ s.l2.loads.vals, l.queue ≠ q) ∧ (∀ a ∈ s.l2.atoms.vals, a.queue ≠ q) ∧ (∀ b ∈ s.l2.bars.vals, b.queue ≠ q)

theorem State.NothingOpen.congr {q : Nat} {s t : State} (h : s.NothingOpen q) (hl : t.l2.loads = s.l2.loads) (ha : t.l2.atoms = s.l2.atoms)
    (hb : t.l2.bars = s.l2.bars) : t.NothingOpen q := by
  unfold State.NothingOpen at h ⊢
  rwa [hl, ha, hb]

theorem State.freeSlot_loads (s : State) (c slot : Nat) :
    (s.freeSlot c slot).l2.loads = s.l2.loads.keep fun _ l => !decide (l.core = c ∧ l.slot = slot) := rfl

theorem State.NothingOpen.freeSlot {q : Nat} {s : State} (h : s.NothingOpen q) (c slot : Nat) : (s.freeSlot c slot).NothingOpen q := by
  obtain ⟨hl, ha, hb⟩ := h
  exact ⟨fun l hm => hl l (SMap.mem_vals_of_keep (s.freeSlot_loads c slot ▸ hm)), ha, hb⟩

theorem State.NothingOpen.freeCore {q : Nat} {s : State} (h : s.NothingOpen q) (p c : Nat) : (s.freeCore p c).NothingOpen q := by
  unfold State.freeCore
  refine List.foldlRecOn (motive := State.NothingOpen q) _ _ ?_ fun t ht k _ => ht.congr (by simp) (by simp) (by simp)
  exact List.foldlRecOn (motive := State.NothingOpen q) _ _ (h.congr (by simp) (by simp) (by simp)) fun t ht slot _ => ht.freeSlot c slot

theorem State.NothingOpen.freeAgents {q : Nat} {s : State} (h : s.NothingOpen q) (p : Nat) : (s.freeAgents p).NothingOpen q :=
  h.congr (by simp [State.freeAgents]) (by simp [State.freeAgents]) (by simp [State.freeAgents])

theorem State.NothingOpen.dropQueueWaits {q : Nat} {s : State} (h : s.NothingOpen q) (p : Nat) : (s.dropQueueWaits p).NothingOpen q :=
  h.congr (by simp) (by simp) (by simp)

theorem State.NothingOpen.dropShares {q : Nat} {s : State} (h : s.NothingOpen q) (p : Nat) : (s.dropShares p).NothingOpen q :=
  h.congr (by simp) (by simp) (by simp)

theorem State.NothingOpen.abandonColls {q : Nat} {s : State} (h : s.NothingOpen q) (p : Nat) : (s.abandonColls p).NothingOpen q :=
  h.congr (by simp) (by simp) (by simp)

theorem of_not_decide {p : Prop} [Decidable p] (h : (!decide p) = true) : ¬ p := by simpa using h

/-- What the queue had open is dropped. -/
theorem State.dropped_nothingOpen (s : State) (q : Nat) : State.NothingOpen q { s with
    l2.loads := s.l2.loads.keep (fun _ l => !decide (l.queue = q)), l2.atoms := s.l2.atoms.keep (fun _ a => !decide (a.queue = q))
    l2.bars := s.l2.bars.keep (fun _ b => !decide (b.queue = q)) } :=
  ⟨fun _ h => of_not_decide (SMap.test_of_mem_vals_keep (p := fun l : Load => !decide (l.queue = q)) h),
    fun _ h => of_not_decide (SMap.test_of_mem_vals_keep (p := fun a : Atom => !decide (a.queue = q)) h),
    fun _ h => of_not_decide (SMap.test_of_mem_vals_keep (p := fun b : Bar => !decide (b.queue = q)) h)⟩

theorem State.settle_nothingOpen (s : State) (q : Nat) : (s.settle q).NothingOpen q := by
  unfold State.settle
  refine ((State.NothingOpen.dropQueueWaits ?_ q).freeAgents q |>.dropShares q).abandonColls q
  refine List.foldlRecOn (motive := State.NothingOpen q) _ _ (State.dropped_nothingOpen _ q) fun t ht c _ => ?_
  exact (ht.freeCore q c).congr (by simp) (by simp) (by simp)

theorem kill_settles (s : State) (q : Nat) (he : s.ending q = true) (hs : (s.q q).settled = false) (hg : s.groupsStopped q = true)
    (hgo : s.unitGoes 10 q (coreKillSettled q)) :
    ∃ t, exec (.coreKillSettled q) s = .next t ∧ (t.q q).settled = true ∧ (∀ l ∈ t.l2.loads.vals, l.queue ≠ q) ∧ (∀ a ∈ t.l2.atoms.vals, a.queue ≠ q) ∧
      (∀ b ∈ t.l2.bars.vals, b.queue ≠ q) := by
  have ht : coreKillSettled q s = (s.settle q).modQ q fun x => { x with settled := true } := if_neg (by simp [he, hs, hg])
  refine ⟨_, congrArg Host.Outcome.next (State.unit_of_goes hgo), ?_, ?_⟩
  · rw [State.q_congr (State.unitDone_fe _ _ _), ht, State.modQ_q_self]
  · exact (s.settle_nothingOpen q).congr (by rw [State.unitDone_l2_loads, ht, State.modQ_l2])
      (by rw [State.unitDone_l2_atoms, ht, State.modQ_l2]) (by rw [State.unitDone_l2_bars, ht, State.modQ_l2])

/-! The walk over the nodes that are left. -/

theorem State.walkEnd_fe (s : State) (q : Nat) : (s.walkEnd q).fe =
    ((s.dropWork q).modQ q (fun y => { y with
      state := .killed, read := if (s.q q).killInFlight then (s.q q).fetch else (s.q q).killWrite
      fetch := if (s.q q).killInFlight then (s.q q).fetch else (s.q q).killWrite, savedBlocks := [], savedPlans := [], savedNone := false
      saveUsed := 0, slicePreempt := false, faultPage := none, faultPoint := none, killInFlight := false })).fe := by
  unfold State.walkEnd
  dsimp only
  split <;> simp

theorem walk_ends (s u v : State) (q : Nat) (hk : (s.q q).state = .killing) (hs : (s.q q).settled = true)
    (hgo : s.unitGoes 11 q (Sys2Proof.Machine.skipWalk q)) (hu : walkAll (fun s => s.walkRead q) walkFuel s = .over u)
    (hv : walkAll (fun s => s.walkSkip q) walkFuel u = .over v) :
    ∃ t, exec (.skipWalk q) s = .next t ∧ (t.q q).state = .killed ∧
      (t.q q).read = (if (v.q q).killInFlight then (v.q q).fetch else (v.q q).killWrite) ∧ (t.q q).fetch = (t.q q).read ∧
      (t.q q).savedBlocks = [] ∧ (∀ n ∈ t.fe.nodes.vals, n.queue ≠ q) ∧ (∀ l ∈ t.fe.launches.vals, l.queue ≠ q) ∧
      (∀ g ∈ t.fe.graphs.vals, g.queue ≠ q) := by
  have ht : Sys2Proof.Machine.skipWalk q s = v.walkEnd q := by
    simp [Sys2Proof.Machine.skipWalk, hk, hs, hu, hv]
  have hfe : ((Sys2Proof.Machine.skipWalk q s).unitDone 11 q).fe = _ := ht ▸ v.walkEnd_fe q
  have hq := (State.q_congr hfe q).trans (State.modQ_q_self _ q _)
  refine ⟨_, congrArg Host.Outcome.next (State.unit_of_goes hgo), congrArg Queue.state hq, congrArg Queue.read hq,
    (congrArg Queue.fetch hq).trans (congrArg Queue.read hq).symm, congrArg Queue.savedBlocks hq, ?_, ?_, ?_⟩
  · intro n hn
    rw [hfe] at hn
    exact of_not_decide (SMap.test_of_mem_vals_keep (p := fun n : Node => !decide (n.queue = q)) hn)
  · intro l hl
    rw [hfe] at hl
    exact of_not_decide (SMap.test_of_mem_vals_keep (p := fun l : Launch => !decide (l.queue = q)) hl)
  · intro g hg
    rw [hfe] at hg
    exact of_not_decide (SMap.test_of_mem_vals_keep (p := fun g : Graph => !decide (g.queue = q)) hg)

theorem walk_reads_until_wait (s u : State) (q : Nat) (hk : (s.q q).state = .killing) (hs : (s.q q).settled = true)
    (hgo : s.unitGoes 11 q (Sys2Proof.Machine.skipWalk q)) (hu : walkAll (fun s => s.walkRead q) walkFuel s = .wait u) :
    exec (.skipWalk q) s = .next (u.unitDone 11 q) := by
  have ht : Sys2Proof.Machine.skipWalk q s = u := by simp [Sys2Proof.Machine.skipWalk, hk, hs, hu]
  exact congrArg Host.Outcome.next ((State.unit_of_goes hgo).trans (by rw [ht]))

theorem walk_skips_until_wait (s u v : State) (q : Nat) (hk : (s.q q).state = .killing) (hs : (s.q q).settled = true)
    (hgo : s.unitGoes 11 q (Sys2Proof.Machine.skipWalk q)) (hu : walkAll (fun s => s.walkRead q) walkFuel s = .over u)
    (hv : walkAll (fun s => s.walkSkip q) walkFuel u = .wait v) : exec (.skipWalk q) s = .next (v.unitDone 11 q) := by
  have ht : Sys2Proof.Machine.skipWalk q s = v := by simp [Sys2Proof.Machine.skipWalk, hk, hs, hu, hv]
  exact congrArg Host.Outcome.next ((State.unit_of_goes hgo).trans (by rw [ht]))

/-- Settles O26: a core is changed alone, groups and engines are stopped where they stand, what settling drops is not opened again by what it frees
afterwards, and the end of the walk sets the queue after its work is dropped. -/
theorem narrowingAndKills : Obligations.NarrowingAndKills :=
  ⟨narrowing, groups_stop, kill_settles, walk_ends, walk_reads_until_wait, walk_skips_until_wait⟩

end Sys2Proof.Machine
end

section
/-! The save and the restore of a block (R121 to R123, R290, R291). -/

namespace Sys2Proof.Machine

/-! What the writes to a save area and the caches of a core leave. -/

@[simp] theorem State.hostWrite_cores (s : State) (a : Nat) (x2 : List Byte) : (s.hostWrite a x2).cores = s.cores := by fun_induction State.hostWrite s a x2 <;> simp_all
@[simp] theorem State.unwant_mem (s : State) (x : Issuer → Bool) : (s.unwant x).mem = s.mem := rfl
@[simp] theorem State.unwant_cores (s : State) (x : Issuer → Bool) : (s.unwant x).cores = s.cores := rfl
@[simp] theorem State.acquire_fe (s : State) (c scope : Nat) : (s.acquire c scope).fe = s.fe := by simp [State.acquire, ite_fe]

theorem State.writeVirt_cores (s : State) (f k va : Nat) (data : List Byte) : (s.writeVirt f k va data).2.cores = s.cores := by
  fun_induction State.writeVirt s f k va data with
  | case1 | case2 | case3 | case4 => rfl
  | case5 _ _ _ _ _ _ _ _ s1 ht _ ih =>
    rw [if_neg ht, ih]
    unfold s1
    split
    · simp
    · split <;> simp

theorem State.saveWrite_cores (s : State) (q va : Nat) (data : List Byte) : (s.saveWrite q va data).cores = s.cores := by
  unfold State.saveWrite
  dsimp only
  split
  · rw [State.kill_cores, State.writeV, State.writeVirt_cores]
  · rw [State.writeV, State.writeVirt_cores]

/-! A block of a queue that is being pre-empted stops. -/

/-- A block whose record goes to a place. -/
def Block.toSave (b : Block) (at0 : Nat) : Block := { b with saving := some [], saveAddr := some at0 }

theorem corePreemptRequest_saves {s : State} {core key : Nat} {b : Block} (hb : (s.core core).blocks.get? key = some b)
    (hp : (s.q b.queue).state = .preempting) (ha : b.saveAddr = none) (hl : (s.core core).savedSlots b ≠ [])
    (hf : ∀ sl ∈ b.slots, ∀ g, (s.core core).groups.get? sl = some g → g.faulted = false)
    (hroom : 64 + s.stillSaved b.queue + (s.core core).blockSaveBytes b ≤ s.qnum E.queueSaveBytes b.queue) :
    corePreemptRequest core key s = State.modQ (s.modCore core (fun k =>
      { k.stopSlots ((s.core core).savedSlots b) with
        blocks := k.blocks.put key (b.toSave (s.qnum E.queueSaveBase b.queue + 64 + s.stillSaved b.queue)) })) b.queue
        (fun x => { x with saveUsed := s.stillSaved b.queue + (s.core core).blockSaveBytes b }) := by
  unfold corePreemptRequest
  simp only [hb]
  refine (if_neg ?_).trans (if_neg (by omega))
  simp only [State.savesBlocks, hp, ha, List.isEmpty_iff, hl, decide_true, Bool.true_or, Bool.not_true, Option.isSome_none, Bool.false_eq_true,
    false_or, List.any_eq_true, not_exists, not_and]
  intro sl hsl
  cases hg : (s.core core).groups.get? sl with
  | none => simp
  | some g => simp [hf sl hsl g hg]

theorem Core.stopSlots_group {k : Core} {l : List Nat} {i : Nat} {g : Group} (hi : i ∈ l) (h : (k.stopSlots l).groups.get? i = some g) : g.stopped = true := by
  rw [Core.stopSlots, SMap.get?_mapVals] at h
  obtain ⟨g0, -, rfl⟩ := Option.map_eq_some_iff.mp h
  simp [hi]

theorem block_stops (s : State) (core key : Nat) (b : Block) (hb : (s.core core).blocks.get? key = some b) (hp : (s.q b.queue).state = .preempting)
    (ha : b.saveAddr = none) (hl : (s.core core).savedSlots b ≠ [])
    (hf : ∀ sl ∈ b.slots, ∀ g, (s.core core).groups.get? sl = some g → g.faulted = false)
    (hroom : 64 + s.stillSaved b.queue + (s.core core).blockSaveBytes b ≤ s.qnum E.queueSaveBytes b.queue) :
    ∃ t, exec (.corePreemptRequest core key) s = .next t ∧
      (t.core core).blocks.get? key =
        some { b with saving := some [], saveAddr := some (s.qnum E.queueSaveBase b.queue + 64 + s.stillSaved b.queue) } ∧
      (t.q b.queue).saveUsed = s.stillSaved b.queue + (s.core core).blockSaveBytes b ∧
      (∀ sl ∈ (s.core core).savedSlots b, ∀ g, (t.core core).groups.get? sl = some g → g.stopped = true) ∧ t.mem = s.mem ∧ t.l2 = s.l2 := by
  refine ⟨_, congrArg Host.Outcome.next (corePreemptRequest_saves hb hp ha hl hf hroom), ?_, ?_, ?_, rfl, rfl⟩
  · rw [State.core_congr (State.modQ_cores _ _ _), State.modCore_core_self]
    exact SMap.get?_put_self _ _ _
  · rw [State.modQ_q_self]
  · intro sl hsl g hg
    rw [State.core_congr (State.modQ_cores _ _ _), State.modCore_core_self] at hg
    exact Core.stopSlots_group hsl hg

/-! The records of its groups. -/

theorem group_saves (s : State) (core slot key at0 : Nat) (b : Block) (g : Group) (done : List Nat) (hb : (s.core core).blockOf slot = some (key, b))
    (hg : (s.core core).groups.get? slot = some g) (hs : b.saving = some done) (ha : b.saveAddr = some at0) (hd : slot ∉ done) (hl : g.live ≠ 0)
    (hf : g.faulted = false) (hst : g.stopped = true) (hp : (s.q b.queue).state = .preempting) (hi : s.groupIdle core slot = true) (hk : b.kept = false)
    (hgo : s.unitGoes 7 (core * 64 + slot) (Sys2Proof.Machine.groupSave core slot)) :
    exec (.groupSave core slot) s = .next
      (((s.saveWrite b.queue (at0 + align64 b.recBytes +
          (s.core core).slotBytes (((s.core core).savedSlots b).takeWhile (fun x => !decide (x = slot)))) (g.record s.time.mono)).modCore core
        (fun k => { k with blocks := k.blocks.put key { b with saving := some (done ++ [slot]) } })).unitDone 7 (core * 64 + slot)) := by
  refine congrArg Host.Outcome.next ((State.unit_of_goes hgo).trans (congrArg (State.unitDone · 7 (core * 64 + slot)) ?_))
  simp [Sys2Proof.Machine.groupSave, hb, hg, hs, ha, hd, hl, hf, hst, hi, hk, State.savesBlocks, hp]

/-! The block leaves its core. -/

/-- The queue's record of a block that has been saved. -/
def Core.savedRecord (k : Core) (b : Block) (at0 now : Nat) : SavedBlock :=
  { node := b.node, block := b.block, groups := b.slots.length, width := if k.narrow = 0 then 32 else 64, addr := at0
    kept := if b.kept then some (k.blockImage b now) else none }

/-- The state in which the block's record is written. -/
def State.blockWritten (s : State) (core at0 : Nat) (b : Block) : State :=
  if b.kept then s else s.saveWrite b.queue at0 (b.record b.slots.length (s.core core).mx)

theorem State.blockWritten_cores (s : State) (core at0 : Nat) (b : Block) : (s.blockWritten core at0 b).cores = s.cores := by
  unfold State.blockWritten
  split
  · rfl
  · exact State.saveWrite_cores _ _ _ _

theorem blockSaveComplete_saves {s : State} {core key at0 : Nat} {b : Block} {done : List Nat} (hb : (s.core core).blocks.get? key = some b)
    (hs : b.saving = some done) (ha : b.saveAddr = some at0) (hne : b.slots ≠ []) (hall : ∀ sl ∈ b.slots, sl ∈ done)
    (hp : (s.q b.queue).state = .preempting) (hm : b.matrix = true → (s.core core).mx.queue = [])
    (hsb : ∀ e ∈ (s.core core).sb, e.queue ≠ b.queue) :
    blockSaveComplete core key s = State.modQ ((b.slots.foldl (fun s sl => s.freeSlot core sl) (s.blockWritten core at0 b)).freeBlock core key 1) b.queue
      (fun x => { x with savedBlocks := x.savedBlocks ++ [(s.core core).savedRecord b at0 s.time.mono] }) := by
  unfold blockSaveComplete
  simp only [hb, hs, ha]
  refine if_neg ?_
  simpa [hne, State.savesBlocks, hp] using ⟨hall, hm, hsb⟩

theorem State.freeSlot_core (s : State) (c slot : Nat) : ((s.freeSlot c slot).core c).groups = (s.core c).groups.del slot := by
  simp only [State.freeSlot, State.core, State.modCore, SMap.getD_modify_self]

theorem foldl_freeSlot_gone {c sl : Nat} {l : List Nat} (s : State) (h : sl ∈ l ∨ (s.core c).groups.get? sl = none) :
    ((l.foldl (fun s sl => s.freeSlot c sl) s).core c).groups.get? sl = none := by
  induction l generalizing s with
  | nil => simpa using h
  | cons i l ih =>
    refine ih (s.freeSlot c i) ?_
    by_cases hi : sl = i
    · right
      rw [State.freeSlot_core, hi, SMap.get?_del_self]
    · rw [State.freeSlot_core, SMap.get?_del_ne _ hi]
      simpa [hi] using h

theorem State.freeBlock_gone (s : State) (c key why : Nat) : ((s.freeBlock c key why).core c).blocks.get? key = none := by
  unfold State.freeBlock
  split
  · assumption
  · rename_i b _
    dsimp only
    have hmod : ((s.modCore c (fun k => { k with blocks := k.blocks.del key, mx := if b.matrix then k.mx.release else k.mx })).core c).blocks.get? key =
        none := by rw [State.modCore_core_self, SMap.get?_del_self]
    refine (congrArg (fun k : Core => k.blocks.get? key) (State.core_congr ?_ c)).trans hmod
    split <;> simp

theorem block_leaves (s : State) (core key at0 : Nat) (b : Block) (done : List Nat) (hb : (s.core core).blocks.get? key = some b)
    (hs : b.saving = some done) (ha : b.saveAddr = some at0) (hne : b.slots ≠ []) (hall : ∀ sl ∈ b.slots, sl ∈ done)
    (hp : (s.q b.queue).state = .preempting) (hm : b.matrix = true → (s.core core).mx.queue = [])
    (hsb : ∀ e ∈ (s.core core).sb, e.queue ≠ b.queue) (hgo : s.unitGoes 8 (core * 64 + key) (Sys2Proof.Machine.blockSaveComplete core key)) :
    ∃ t x, exec (.blockSaveComplete core key) s = .next t ∧ (t.core core).blocks.get? key = none ∧
      (∀ sl ∈ b.slots, (t.core core).groups.get? sl = none) ∧ x ∈ (t.q b.queue).savedBlocks ∧ x.node = b.node ∧ x.block = b.block ∧
      x.groups = b.slots.length ∧ x.addr = at0 ∧ x.width = (if (s.core core).narrow = 0 then 32 else 64) := by
  have hk := (State.core_congr (State.unitDone_cores _ 8 (core * 64 + key)) core).trans
    (congrArg (State.core · core) (blockSaveComplete_saves hb hs ha hne hall hp hm hsb))
  have hq := (State.q_congr (State.unitDone_fe _ 8 (core * 64 + key)) b.queue).trans
    (congrArg (State.q · b.queue) (blockSaveComplete_saves hb hs ha hne hall hp hm hsb))
  refine ⟨_, (s.core core).savedRecord b at0 s.time.mono, congrArg Host.Outcome.next (State.unit_of_goes hgo), ?_, ?_, ?_, rfl, rfl, rfl, rfl, rfl⟩
  · rw [hk, State.core_congr (State.modQ_cores _ _ _)]
    exact State.freeBlock_gone _ _ _ _
  · intro sl hsl
    rw [hk, State.core_congr (State.modQ_cores _ _ _), State.freeBlock_groups]
    exact foldl_freeSlot_gone _ (.inl hsl)
  · rw [hq, State.modQ_q_self]
    exact List.mem_append_right _ (List.mem_singleton_self _)

/-! A block comes back. -/

/-- The block that a restore puts on a core. -/
def restoredBlock (q : Nat) (x : SavedBlock) (n : Node) (l : Launch) (r : List Byte) (now : Nat) : Block :=
  { queue := q, node := x.node, block := x.block, slots := [], freed := l.groups - x.groups, scratchBytes := l.scratch
    scratch := scratchOf ((r.drop 64).take l.scratch), scratchBad := [], matrix := l.matrix, saving := none, saveAddr := none, kept := false
    since := now, layer := n.layer, operator := n.operator }

theorem State.restoreBlock_restores {s : State} {q core : Nat} {x : SavedBlock} {n : Node} {l : Launch} {r : List Byte} {gs : List Group}
    (hm : l.matrix = false) (hr : s.readSaved (fnOfQueue q) x 0 (64 + l.scratch) = .bytes r) (h1 : fieldAt r 0 1 = 1)
    (hg : s.readGroups (fnOfQueue q) x n q x.node x.block (!decide ((s.core core).narrow = 0)) x.groups (align64 (64 + l.scratch)) = .ok gs)
    (hroom : (s.core core).hasRoom (gs.map Group.vregs) l.scratch false = true) :
    s.restoreBlock q core x n l = (s.installBlock core (restoredBlock q x n l r s.time.mono) gs none).modQ q (fun y => { y with
      savedBlocks := y.savedBlocks.filter (fun e => !decide (e = x)) }) := by
  unfold State.restoreBlock
  simp only [hm, Bool.false_eq_true, if_false, Nat.add_zero, hr, h1, ne_eq, not_true_eq_false, hg, hroom, Bool.not_true, restoredBlock]

theorem blockRestore_restores {s : State} {q core : Nat} {x : SavedBlock} {n : Node} {l : Launch} (hst : (s.q q).state = .running)
    (hmay : s.mayRun (fnOfQueue q) = true) (h0 : (s.core core).state = 0) (hc : core ∈ s.coresOf (s.fnPart (fnOfQueue q)))
    (hx : (s.q q).savedBlocks.find? (fun b => decide (b.width = if (s.core core).narrow = 0 then 32 else 64)) = some x)
    (hn : s.fe.nodes.get? x.node = some n) (hl : s.fe.launches.get? x.node = some l) :
    Sys2Proof.Machine.blockRestore q core s = s.restoreBlock q core x n l := by
  unfold Sys2Proof.Machine.blockRestore
  simp only [hx, hn, hl]
  exact if_neg (by simp [hst, hmay, h0, hc])

theorem State.installBlock_core (s : State) (c : Nat) (b : Block) (gs : List Group) :
    (s.installBlock c b gs none).core c =
      { s.core c with
        l1 := [], scl := [], victim := [], icache := []
        groups := (((s.core c).freeSlots.take gs.length).zip gs).foldl (fun m e => m.put e.1 e.2) (s.core c).groups
        blocks := (s.core c).blocks.put (s.core c).blocks.fresh { b with slots := (s.core c).freeSlots.take gs.length } } := by
  unfold State.installBlock
  dsimp only
  rw [State.core_congr (State.trace_cores _ _ _ _ _ _ _ _ _ _), State.modCore_core_self, State.acquire_core c (by decide), State.core_congr (State.unwant_cores _ _)]

theorem block_returns (s : State) (q core : Nat) (x : SavedBlock) (n : Node) (l : Launch) (r : List Byte) (gs : List Group)
    (hst : (s.q q).state = .running) (hmay : s.mayRun (fnOfQueue q) = true) (h0 : (s.core core).state = 0)
    (hc : core ∈ s.coresOf (s.fnPart (fnOfQueue q)))
    (hx : (s.q q).savedBlocks.find? (fun b => decide (b.width = if (s.core core).narrow = 0 then 32 else 64)) = some x)
    (hn : s.fe.nodes.get? x.node = some n) (hl : s.fe.launches.get? x.node = some l) (hm : l.matrix = false)
    (hr : s.readSaved (fnOfQueue q) x 0 (64 + l.scratch) = .bytes r) (h1 : fieldAt r 0 1 = 1)
    (hg : s.readGroups (fnOfQueue q) x n q x.node x.block (!decide ((s.core core).narrow = 0)) x.groups (align64 (64 + l.scratch)) = .ok gs)
    (hroom : (s.core core).hasRoom (gs.map Group.vregs) l.scratch false = true) :
    ∃ t b, exec (.blockRestore q core) s = .next t ∧ (t.core core).blocks.get? (s.core core).blocks.fresh = some b ∧ b.node = x.node ∧
      b.block = x.block ∧ b.scratchBytes = l.scratch ∧ b.slots = (s.core core).freeSlots.take gs.length ∧ x ∉ (t.q q).savedBlocks ∧
      (t.core core).l1 = [] ∧ (t.core core).icache = [] ∧ t.mem = s.mem := by
  have hk := (State.core_congr (State.modQ_cores (s.installBlock core (restoredBlock q x n l r s.time.mono) gs none) q fun y => { y with
      savedBlocks := y.savedBlocks.filter (fun e => !decide (e = x)) }) core).trans (State.installBlock_core _ _ _ _)
  refine ⟨_, { restoredBlock q x n l r s.time.mono with slots := (s.core core).freeSlots.take gs.length },
    congrArg Host.Outcome.next ((blockRestore_restores hst hmay h0 hc hx hn hl).trans (State.restoreBlock_restores hm hr h1 hg hroom)),
    (congrArg (fun k : Core => k.blocks.get? (s.core core).blocks.fresh) hk).trans (SMap.get?_put_self _ _ _), rfl, rfl, rfl, rfl, ?_,
    congrArg Core.l1 hk, congrArg Core.icache hk, ?_⟩
  · rw [State.modQ_q_self]
    simp
  · rw [State.modQ_mem, State.installBlock, State.trace_mem, State.modCore_mem, State.acquire_mem, State.unwant_mem]

/-- Settles O27: a record is written before its group or block is marked or removed, the write to the save area leaves the cores alone, and a restore
changes its core and its queue's list only. -/
theorem blockSaveAndRestore : Obligations.BlockSaveAndRestore :=
  ⟨block_stops, group_saves, block_leaves, block_returns⟩

end Sys2Proof.Machine
end

section
/-! A store to a line whose sharer vector has a bit above the three members' (R222, R230). -/

namespace Sys2Proof.Machine

/-- A clean line with the sharer bit 35, which marks no member. -/
def strayLine : Dir := { state := .h, sharers := 2 ^ 35, rsw := false, busy := none, slice := 0, way := 0, data := [], poison := 0, used := 0 }

/-- A store entry to line 0 that has left its buffer. -/
def leftEntry : SbEntry :=
  { seq := 0, queue := 0, node := 0, nodes := [], slots := 1, target := 0, line := 0, data := [], mask := 1, stamps := [], after := 0, holdLoads := []
    vpage := 0, left := true }

/-- The entry is on its way to the home of the line. -/
def straySharer : State :=
  { State.reset with
    cores := [(0, { Core.initial with sb := [leftEntry] })]
    l2.dir := [(0, strayLine)] }

theorem straySharer_due : straySharer.storeDue 0 0 = some leftEntry := by decide

theorem straySharer_serves : straySharer.homeServes 0 (.store 0 0) := by
  refine ⟨?_, ?_, ?_, ?_, ?_, ?_⟩ <;> decide

set_option maxRecDepth 20000 in
/-- No member holds a copy, so the store is performed at once and no transaction opens. -/
theorem straySharer_performs :
    ((homeStore 0 0 { corrected := 0, bad := 0, dir := false } straySharer).l2.dir.get? 0).map (fun d => d.busy) = some none := by decide

/-- Refutes O29: a sharer bit that marks none of the three other members makes no transaction of a store. -/
theorem not_homeRequests : ¬ Obligations.HomeRequests := by
  unfold Obligations.HomeRequests
  rintro ⟨-, -, -, hstore, -⟩
  obtain ⟨-, hasks⟩ := hstore straySharer 0 0 { corrected := 0, bad := 0, dir := false } leftEntry strayLine straySharer_due straySharer_serves rfl
  obtain ⟨t, ht, hbusy, -⟩ := hasks (by decide)
  have htl : t = homeStore 0 0 { corrected := 0, bad := 0, dir := false } straySharer := (Host.Outcome.next.inj ht).symm
  have hmap := congrArg (Option.map fun d : Dir => d.busy) (htl ▸ hbusy)
  exact absurd (straySharer_performs.symm.trans hmap) (by decide)

end Sys2Proof.Machine
end

section
/-! What the moves of lines and the kill of every context leave as they were. -/

namespace Sys2Proof.Machine

@[simp] theorem State.killAll_mem (s : State) : s.killAll.mem = s.mem := by simp [State.killAll, ite_mem]
@[simp] theorem State.killAll_l2 (s : State) : s.killAll.l2 = s.l2 := by simp [State.killAll, ite_l2]
@[simp] theorem State.toOverflow_mgt (s : State) (line : Nat) (d : Dir) : (s.toOverflow line d).mgt = s.mgt := by
  unfold State.toOverflow
  dsimp only
  (repeat' split) <;> simp
@[simp] theorem State.dropSharer_mgt (s : State) (line b : Nat) : (s.dropSharer line b).mgt = s.mgt := by
  unfold State.dropSharer
  dsimp only
  (repeat' split) <;> simp
@[simp] theorem State.dropReplica_mgt (s : State) (key : Nat) : (s.dropReplica key).mgt = s.mgt := by simp [State.dropReplica]
@[simp] theorem State.dropCopy_mgt (s : State) (key : Nat) : (s.dropCopy key).mgt = s.mgt := by
  unfold State.dropCopy
  split <;> simp
@[simp] theorem State.evict_mgt (s : State) (x : Held) : (s.evict x).mgt = s.mgt := by
  unfold State.evict
  (repeat' split) <;> simp
@[simp] theorem State.emptyWay_mgt (s : State) (slice way : Nat) : (s.emptyWay slice way).mgt = s.mgt := by simp [State.emptyWay]
@[simp] theorem State.dropSharer_cores (s : State) (line b : Nat) : (s.dropSharer line b).cores = s.cores := by
  unfold State.dropSharer
  dsimp only
  (repeat' split) <;> simp
@[simp] theorem State.dropReplica_cores (s : State) (key : Nat) : (s.dropReplica key).cores = s.cores := by simp [State.dropReplica]
@[simp] theorem State.dropSharer_time (s : State) (line b : Nat) : (s.dropSharer line b).time = s.time := by
  unfold State.dropSharer
  dsimp only
  (repeat' split) <;> simp
@[simp] theorem State.dropReplica_time (s : State) (key : Nat) : (s.dropReplica key).time = s.time := by simp [State.dropReplica]
@[simp] theorem State.dropSharer_hif (s : State) (line b : Nat) : (s.dropSharer line b).hif = s.hif := by
  unfold State.dropSharer
  dsimp only
  (repeat' split) <;> simp
@[simp] theorem State.dropReplica_hif (s : State) (key : Nat) : (s.dropReplica key).hif = s.hif := by simp [State.dropReplica]
@[simp] theorem State.dropCopy_cores (s : State) (key : Nat) : (s.dropCopy key).cores = s.cores := by
  unfold State.dropCopy
  split <;> simp
@[simp] theorem State.dropCopy_time (s : State) (key : Nat) : (s.dropCopy key).time = s.time := by
  unfold State.dropCopy
  split <;> simp
@[simp] theorem State.dropCopy_hif (s : State) (key : Nat) : (s.dropCopy key).hif = s.hif := by
  unfold State.dropCopy
  split <;> simp
@[simp] theorem foldl_l2_retiring {α : Type} {g : State → α → State} (l : List α) (s : State) (hg : ∀ u a, (g u a).l2.retiring = u.l2.retiring) : (l.foldl g s).l2.retiring = s.l2.retiring :=
  foldl_keeps (fun s => s.l2.retiring) hg l s
theorem ite_l2_retiring (c : Prop) [Decidable c] (s t : State) : (if c then s else t).l2.retiring = if c then s.l2.retiring else t.l2.retiring :=
  apply_ite (fun s : State => s.l2.retiring) _ _ _
@[simp] theorem State.dropSharer_l2_retiring (s : State) (line b : Nat) : (s.dropSharer line b).l2.retiring = s.l2.retiring := by
  unfold State.dropSharer
  dsimp only
  (repeat' split) <;> simp
@[simp] theorem State.bankGranule_l2_retiring (s : State) (pa : Nat) (data : List Byte) : (s.bankGranule pa data).l2.retiring = s.l2.retiring :=
  by simp [State.bankGranule, ite_l2_retiring]
@[simp] theorem State.writeBack_l2_retiring (s : State) (line : Nat) (data : List Byte) (poison : Nat) : (s.writeBack line data poison).l2.retiring = s.l2.retiring :=
  by simp [State.writeBack, ite_l2_retiring]
@[simp] theorem State.dropReplicas_l2_retiring (s : State) (line : Nat) : (s.dropReplicas line).l2.retiring = s.l2.retiring := rfl
@[simp] theorem State.lineToI_l2_retiring (s : State) (line : Nat) : (s.lineToI line).l2.retiring = s.l2.retiring := by
  unfold State.lineToI
  (repeat' split) <;> simp
@[simp] theorem State.toOverflow_l2_retiring (s : State) (line : Nat) (d : Dir) : (s.toOverflow line d).l2.retiring = s.l2.retiring := by
  unfold State.toOverflow
  dsimp only
  (repeat' split) <;> simp
@[simp] theorem State.dropReplica_l2_retiring (s : State) (key : Nat) : (s.dropReplica key).l2.retiring = s.l2.retiring := by simp [State.dropReplica]
@[simp] theorem State.dropCopy_l2_retiring (s : State) (key : Nat) : (s.dropCopy key).l2.retiring = s.l2.retiring := by
  unfold State.dropCopy
  split <;> simp
@[simp] theorem State.evict_l2_retiring (s : State) (x : Held) : (s.evict x).l2.retiring = s.l2.retiring := by
  unfold State.evict
  (repeat' split) <;> simp
@[simp] theorem State.emptyWay_l2_retiring (s : State) (slice way : Nat) : (s.emptyWay slice way).l2.retiring = s.l2.retiring := by simp [State.emptyWay]
@[simp] theorem State.linesToI_hif (s : State) (p : Nat → Bool) : (s.linesToI p).hif = s.hif := by simp [State.linesToI]
@[simp] theorem State.linesToI_mgt (s : State) (p : Nat → Bool) : (s.linesToI p).mgt = s.mgt := by simp [State.linesToI]
@[simp] theorem State.pushL2_mem (s : State) (rec : Nat) : (s.pushL2 rec).mem = s.mem := by simp [State.pushL2, ite_mem]
@[simp] theorem State.pushL2_mgt_num (s : State) (rec : Nat) : (s.pushL2 rec).mgt.num = s.mgt.num := by simp [State.pushL2, ite_mgt_num]
@[simp] theorem State.pushL2_fab (s : State) (rec : Nat) : (s.pushL2 rec).fab = s.fab := by simp [State.pushL2, ite_fab]
@[simp] theorem replicaDropNotice_cores (plain line : Nat) (s : State) : (replicaDropNotice plain line s).cores = s.cores := by simp [replicaDropNotice, ite_cores]
@[simp] theorem replicaDropNotice_time (plain line : Nat) (s : State) : (replicaDropNotice plain line s).time = s.time := by simp [replicaDropNotice, ite_time]
@[simp] theorem replicaDropNotice_hif (plain line : Nat) (s : State) : (replicaDropNotice plain line s).hif = s.hif := by simp [replicaDropNotice, ite_hif]
@[simp] theorem replicaDropNotice_mgt (plain line : Nat) (s : State) : (replicaDropNotice plain line s).mgt = s.mgt := by simp [replicaDropNotice, ite_mgt]
@[simp] theorem foldl_l2_gatedPlains {α : Type} {g : State → α → State} (l : List α) (s : State) (hg : ∀ u a, (g u a).l2.gatedPlains = u.l2.gatedPlains) : (l.foldl g s).l2.gatedPlains = s.l2.gatedPlains :=
  foldl_keeps (fun s => s.l2.gatedPlains) hg l s
theorem ite_l2_gatedPlains (c : Prop) [Decidable c] (s t : State) : (if c then s else t).l2.gatedPlains = if c then s.l2.gatedPlains else t.l2.gatedPlains :=
  apply_ite (fun s : State => s.l2.gatedPlains) _ _ _
@[simp] theorem State.dropSharer_l2_gatedPlains (s : State) (line b : Nat) : (s.dropSharer line b).l2.gatedPlains = s.l2.gatedPlains := by
  unfold State.dropSharer
  dsimp only
  (repeat' split) <;> simp
@[simp] theorem State.dropReplica_l2_gatedPlains (s : State) (key : Nat) : (s.dropReplica key).l2.gatedPlains = s.l2.gatedPlains := by simp [State.dropReplica]
@[simp] theorem replicaDropNotice_l2_gatedPlains (plain line : Nat) (s : State) : (replicaDropNotice plain line s).l2.gatedPlains = s.l2.gatedPlains :=
  by simp [replicaDropNotice, ite_l2_gatedPlains]
@[simp] theorem State.dropCopy_l2_gatedPlains (s : State) (key : Nat) : (s.dropCopy key).l2.gatedPlains = s.l2.gatedPlains := by
  unfold State.dropCopy
  split <;> simp
@[simp] theorem State.bankGranule_l2_gatedPlains (s : State) (pa : Nat) (data : List Byte) : (s.bankGranule pa data).l2.gatedPlains = s.l2.gatedPlains :=
  by simp [State.bankGranule, ite_l2_gatedPlains]
@[simp] theorem State.writeBack_l2_gatedPlains (s : State) (line : Nat) (data : List Byte) (poison : Nat) : (s.writeBack line data poison).l2.gatedPlains = s.l2.gatedPlains :=
  by simp [State.writeBack, ite_l2_gatedPlains]
@[simp] theorem State.dropReplicas_l2_gatedPlains (s : State) (line : Nat) : (s.dropReplicas line).l2.gatedPlains = s.l2.gatedPlains := rfl
@[simp] theorem State.lineToI_l2_gatedPlains (s : State) (line : Nat) : (s.lineToI line).l2.gatedPlains = s.l2.gatedPlains := by
  unfold State.lineToI
  (repeat' split) <;> simp
@[simp] theorem foldl_mgt_answer {α : Type} {g : State → α → State} (l : List α) (s : State) (hg : ∀ u a, (g u a).mgt.answer = u.mgt.answer) : (l.foldl g s).mgt.answer = s.mgt.answer :=
  foldl_keeps (fun s => s.mgt.answer) hg l s
theorem ite_mgt_answer (c : Prop) [Decidable c] (s t : State) : (if c then s else t).mgt.answer = if c then s.mgt.answer else t.mgt.answer :=
  apply_ite (fun s : State => s.mgt.answer) _ _ _
@[simp] theorem State.appendLog_mgt_answer (s : State) (type iface fn index sub target : Nat) (old new : List Byte) : (s.appendLog type iface fn index sub target old new).mgt.answer = s.mgt.answer :=
  by simp [State.appendLog, ite_mgt_answer]
@[simp] theorem State.setNum_mgt_answer (s : State) (a v target : Nat) : (s.setNum a v target).mgt.answer = s.mgt.answer := by simp [State.setNum, ite_mgt_answer]
@[simp] theorem State.coreReturns_mem (s : State) (c : Nat) : (s.coreReturns c).mem = s.mem := by simp [State.coreReturns]
@[simp] theorem State.coreReturns_mgt (s : State) (c : Nat) : (s.coreReturns c).mgt = s.mgt := by simp [State.coreReturns]
@[simp] theorem State.coreReturns_time (s : State) (c : Nat) : (s.coreReturns c).time = s.time := by simp [State.coreReturns]

end Sys2Proof.Machine
end

section
/-! Directory errors, the retirement of ways, and the loss of the coherent domain (R235 to R237, R456). -/

namespace Sys2Proof.Machine

/-! What the moves of a line leave. -/

@[simp] theorem foldl_l2_dirBad {α : Type} {g : State → α → State} (l : List α) (s : State) (hg : ∀ u a, (g u a).l2.dirBad = u.l2.dirBad) : (l.foldl g s).l2.dirBad = s.l2.dirBad :=
  foldl_keeps (fun s => s.l2.dirBad) hg l s
theorem ite_l2_dirBad (c : Prop) [Decidable c] (s t : State) : (if c then s else t).l2.dirBad = if c then s.l2.dirBad else t.l2.dirBad :=
  apply_ite (fun s : State => s.l2.dirBad) _ _ _
@[simp] theorem State.bankGranule_l2_dirBad (s : State) (pa : Nat) (data : List Byte) : (s.bankGranule pa data).l2.dirBad = s.l2.dirBad :=
  by simp [State.bankGranule, ite_l2_dirBad]
@[simp] theorem State.writeBack_l2_dirBad (s : State) (line : Nat) (data : List Byte) (poison : Nat) : (s.writeBack line data poison).l2.dirBad = s.l2.dirBad :=
  by simp [State.writeBack, ite_l2_dirBad]
@[simp] theorem foldl_l2_domainLost {α : Type} {g : State → α → State} (l : List α) (s : State) (hg : ∀ u a, (g u a).l2.domainLost = u.l2.domainLost) : (l.foldl g s).l2.domainLost = s.l2.domainLost :=
  foldl_keeps (fun s => s.l2.domainLost) hg l s
theorem ite_l2_domainLost (c : Prop) [Decidable c] (s t : State) : (if c then s else t).l2.domainLost = if c then s.l2.domainLost else t.l2.domainLost :=
  apply_ite (fun s : State => s.l2.domainLost) _ _ _
@[simp] theorem State.bankGranule_l2_domainLost (s : State) (pa : Nat) (data : List Byte) : (s.bankGranule pa data).l2.domainLost = s.l2.domainLost :=
  by simp [State.bankGranule, ite_l2_domainLost]
@[simp] theorem State.writeBack_l2_domainLost (s : State) (line : Nat) (data : List Byte) (poison : Nat) : (s.writeBack line data poison).l2.domainLost = s.l2.domainLost :=
  by simp [State.writeBack, ite_l2_domainLost]
@[simp] theorem foldl_l2_status {α : Type} {g : State → α → State} (l : List α) (s : State) (hg : ∀ u a, (g u a).l2.status = u.l2.status) : (l.foldl g s).l2.status = s.l2.status :=
  foldl_keeps (fun s => s.l2.status) hg l s
theorem ite_l2_status (c : Prop) [Decidable c] (s t : State) : (if c then s else t).l2.status = if c then s.l2.status else t.l2.status :=
  apply_ite (fun s : State => s.l2.status) _ _ _
@[simp] theorem State.bankGranule_l2_status (s : State) (pa : Nat) (data : List Byte) : (s.bankGranule pa data).l2.status = s.l2.status :=
  by simp [State.bankGranule, ite_l2_status]
@[simp] theorem State.writeBack_l2_status (s : State) (line : Nat) (data : List Byte) (poison : Nat) : (s.writeBack line data poison).l2.status = s.l2.status :=
  by simp [State.writeBack, ite_l2_status]
@[simp] theorem foldl_l2_dir {α : Type} {g : State → α → State} (l : List α) (s : State) (hg : ∀ u a, (g u a).l2.dir = u.l2.dir) : (l.foldl g s).l2.dir = s.l2.dir :=
  foldl_keeps (fun s => s.l2.dir) hg l s
theorem ite_l2_dir (c : Prop) [Decidable c] (s t : State) : (if c then s else t).l2.dir = if c then s.l2.dir else t.l2.dir := apply_ite (fun s : State => s.l2.dir) _ _ _
@[simp] theorem State.bankGranule_l2_dir (s : State) (pa : Nat) (data : List Byte) : (s.bankGranule pa data).l2.dir = s.l2.dir := by simp [State.bankGranule, ite_l2_dir]
@[simp] theorem State.writeBack_l2_dir (s : State) (line : Nat) (data : List Byte) (poison : Nat) : (s.writeBack line data poison).l2.dir = s.l2.dir :=
  by simp [State.writeBack, ite_l2_dir]
@[simp] theorem State.dropReplicas_l2_dirBad (s : State) (line : Nat) : (s.dropReplicas line).l2.dirBad = s.l2.dirBad := rfl
@[simp] theorem State.lineToI_l2_dirBad (s : State) (line : Nat) : (s.lineToI line).l2.dirBad = s.l2.dirBad := by
  unfold State.lineToI
  (repeat' split) <;> simp
@[simp] theorem State.dropReplicas_l2_domainLost (s : State) (line : Nat) : (s.dropReplicas line).l2.domainLost = s.l2.domainLost := rfl
@[simp] theorem State.lineToI_l2_domainLost (s : State) (line : Nat) : (s.lineToI line).l2.domainLost = s.l2.domainLost := by
  unfold State.lineToI
  (repeat' split) <;> simp
@[simp] theorem State.dropReplicas_l2_status (s : State) (line : Nat) : (s.dropReplicas line).l2.status = s.l2.status := rfl
@[simp] theorem State.lineToI_l2_status (s : State) (line : Nat) : (s.lineToI line).l2.status = s.l2.status := by
  unfold State.lineToI
  (repeat' split) <;> simp
@[simp] theorem State.cohMsg_mem (s : State) (dst seq op addr : Nat) (data : List Byte) (poison : Nat) : (s.cohMsg dst seq op addr data poison).mem = s.mem := rfl
@[simp] theorem State.tellCopies_mem (s : State) (line sharers : Nat) : (s.tellCopies line sharers).mem = s.mem := by
  unfold State.tellCopies
  exact foldl_keeps (fun s => s.mem) (fun _ _ => by (repeat' split) <;> simp) _ _
@[simp] theorem State.pushL2_fe (s : State) (rec : Nat) : (s.pushL2 rec).fe = s.fe := by simp [State.pushL2, ite_fe]
@[simp] theorem State.traceFe_sup (s : State) (kind queue layer operator aux detail : Nat) : (s.traceFe kind queue layer operator aux detail).sup = s.sup :=
  by simp [State.traceFe]
@[simp] theorem State.setShares_sup (s : State) (g : List Share → List Share) : (s.setShares g).sup = s.sup := rfl
@[simp] theorem State.stopShares_sup (s : State) (p : Nat → Bool) : (s.stopShares p).sup = s.sup := rfl
@[simp] theorem State.countKill_sup (s : State) (code : Nat) : (s.countKill code).sup = s.sup := by simp [State.countKill, ite_sup]
@[simp] theorem State.kill_sup (s : State) (q code : Nat) (site : Site) (inFlight : optParam Bool false) : (s.kill q code site inFlight).sup = s.sup :=
  by simp [State.kill, ite_sup]
@[simp] theorem State.killAll_sup (s : State) : s.killAll.sup = s.sup := by simp [State.killAll, ite_sup]

/-! The kill of every context. -/

/-- A kill leaves every other queue. -/
theorem State.kill_q_ne (s : State) {q p code : Nat} (site : Site) (h : p ≠ q) : (s.kill q code site).q p = s.q p := by
  unfold State.kill
  dsimp only
  have hq (t : State) (r : Nat → Bool) (a b c d e f : Nat) : ((((t.countKill code).stopShares r).traceFe a b c d e f).q p) = t.q p :=
    State.q_congr (by simp [State.stopShares_fe]) p
  split
  · rw [hq, State.modQ_q_ne _ _ _ h]
  · split
    · rw [State.modQ_q_ne _ _ _ h]
    · rfl

/-- One step of the kill of every context. -/
def State.killAlive (s : State) (q : Nat) : State := if (s.q q).state.alive then s.kill q 0x11 (s.oldestSite q) else s

theorem State.killAlive_q_ne (s : State) {q p : Nat} (h : p ≠ q) : (s.killAlive q).q p = s.q p := by
  unfold State.killAlive
  split
  · exact State.kill_q_ne _ _ h
  · rfl

theorem State.killAlive_running {s : State} {q : Nat} (h : (s.q q).state = .running) : Killed (s.killAlive q) q 0x11 := by
  rw [State.killAlive, if_pos (by rw [h]; rfl)]
  exact State.kill_of_running false h

theorem State.killAlive_killed {s : State} {p q : Nat} (h : Killed s q 0x11) : Killed (s.killAlive p) q 0x11 := by
  by_cases hp : q = p
  · subst hp
    rwa [State.killAlive, if_neg (by rw [h.1]; decide)]
  · unfold Killed
    rwa [State.killAlive_q_ne s hp]

theorem foldl_killAlive {q : Nat} {l : List Nat} {s : State} (h : Killed s q 0x11 ∨ (s.q q).state = .running ∧ q ∈ l) :
    Killed (l.foldl State.killAlive s) q 0x11 := by
  induction l generalizing s with
  | nil => simpa using h
  | cons p l ih =>
    refine ih ?_
    rcases h with hk | ⟨hr, hm⟩
    · exact .inl (State.killAlive_killed hk)
    · by_cases hp : q = p
      · subst hp
        exact .inl (State.killAlive_running hr)
      · exact .inr ⟨by rwa [State.killAlive_q_ne s hp], (List.mem_cons.mp hm).resolve_left hp⟩

theorem State.queue_listed {s : State} {q : Nat} (h : (s.q q).state = .running) : q ∈ s.fe.queues.keys := by
  cases hg : s.fe.queues.get? q with
  | none =>
    rw [State.q, SMap.getD, hg] at h
    exact absurd h (by decide)
  | some x => exact List.mem_map.mpr ⟨(q, x), SMap.mem_of_get? hg, rfl⟩

/-- Every context that runs is killed with DOMAIN_LOST. -/
theorem State.killAll_running {s : State} {q : Nat} (h : (s.q q).state = .running) : Killed s.killAll q 0x11 :=
  foldl_killAlive (.inr ⟨h, State.queue_listed h⟩)

theorem Killed.congr {s t : State} {q code : Nat} (h : Killed s q code) (ht : t.fe = s.fe) : Killed t q code := by
  unfold Killed
  rwa [State.q_congr ht]

/-! The loss of the domain. -/

theorem State.pushL2_status (s : State) (r n : Nat) (h : bit s.l2.status n = true) : bit (s.pushL2 r).l2.status n = true := by
  unfold State.pushL2
  dsimp only
  split
  · exact h
  · rw [State.raiseL2_status]
    simp [bit_setBit, h]

theorem State.pushL2_domainLost (s : State) (r : Nat) : (s.pushL2 r).l2.domainLost = s.l2.domainLost := by
  unfold State.pushL2
  dsimp only
  split
  · rfl
  · rw [State.raiseL2_status]

theorem State.pushL2_failed (s : State) (r : Nat) : (s.pushL2 r).l2.failed = s.l2.failed := by
  unfold State.pushL2
  dsimp only
  split
  · rfl
  · rw [State.raiseL2_status]

theorem State.pushL2_dir (s : State) (r : Nat) : (s.pushL2 r).l2.dir = s.l2.dir := by
  unfold State.pushL2
  dsimp only
  split
  · rfl
  · rw [State.raiseL2_status]

theorem State.pushL2_dirBad (s : State) (r : Nat) : (s.pushL2 r).l2.dirBad = s.l2.dirBad := by
  unfold State.pushL2
  dsimp only
  split
  · rfl
  · rw [State.raiseL2_status]

theorem State.pushL2_retiring (s : State) (r : Nat) : (s.pushL2 r).l2.retiring = s.l2.retiring := by
  unfold State.pushL2
  dsimp only
  split
  · rfl
  · rw [State.raiseL2_status]

/-- The directory error of a loss is raised and logged before the contexts end. -/
def State.domainGone (s : State) (unit : Nat) : State :=
  (State.raiseL2 { s with l2.domainLost := true } 6).pushL2 (l2Rec 4 (if unit < 64 then unit else 0) 0 0)

theorem State.loseDomain_of_stands {s : State} (h : s.l2.domainLost = false) (unit detail : Nat) :
    s.loseDomain unit detail = (s.domainGone unit).killAll.faultRecord 19 unit detail 0xFFFFFFFF s.aliveCount 0 :=
  if_neg (by simp [h])

theorem State.loseDomain_l2 {s : State} (h : s.l2.domainLost = false) (unit detail : Nat) : (s.loseDomain unit detail).l2 = (s.domainGone unit).l2 := by
  rw [State.loseDomain_of_stands h, State.faultRecord_l2, State.killAll_l2]

theorem State.loseDomain_lost {s : State} (h : s.l2.domainLost = false) (unit detail : Nat) : (s.loseDomain unit detail).l2.domainLost = true := by
  rw [State.loseDomain_l2 h, State.domainGone, State.pushL2_domainLost, State.raiseL2_status]

theorem State.loseDomain_failed {s : State} (h : s.l2.domainLost = false) (unit detail : Nat) : (s.loseDomain unit detail).l2.failed = s.l2.failed := by
  rw [State.loseDomain_l2 h, State.domainGone, State.pushL2_failed, State.raiseL2_status]

theorem State.loseDomain_status {s : State} (h : s.l2.domainLost = false) (unit detail n : Nat) (hn : n = 6 ∨ bit s.l2.status n = true) :
    bit (s.loseDomain unit detail).l2.status n = true := by
  rw [State.loseDomain_l2 h]
  refine State.pushL2_status _ _ _ ?_
  rw [State.raiseL2_status]
  rcases hn with rfl | hn <;> simp_all [bit_setBit]

theorem State.loseDomain_kills {s : State} (h : s.l2.domainLost = false) (unit detail : Nat) {q : Nat} (hq : (s.q q).state = .running) :
    Killed (s.loseDomain unit detail) q 0x11 := by
  rw [State.loseDomain_of_stands h]
  refine Killed.congr (s := (s.domainGone unit).killAll) (State.killAll_running ?_) (by simp)
  rw [State.q_congr (s := s) (by simp [State.domainGone])]
  exact hq

theorem State.loseDomain_mem {s : State} (unit detail : Nat) : (s.loseDomain unit detail).mem = s.mem := by
  unfold State.loseDomain
  split
  · rfl
  · simp

/-! An uncorrectable entry. -/

/-- The error of an entry is raised and logged. -/
def State.dirNoted (s : State) (line : Nat) (d : Dir) : State := (s.raiseL2 3).pushL2 (l2Rec 1 d.slice d.way line)

theorem State.dirNoted_status (s : State) (line : Nat) (d : Dir) : bit (s.dirNoted line d).l2.status 3 = true := by
  refine State.pushL2_status _ _ _ ?_
  rw [State.raiseL2_status]
  simp [bit_setBit]

theorem State.dirNoted_dir (s : State) (line : Nat) (d : Dir) : (s.dirNoted line d).l2.dir = s.l2.dir := by
  rw [State.dirNoted, State.pushL2_dir, State.raiseL2_status]

theorem State.dirNoted_dirBad (s : State) (line : Nat) (d : Dir) : (s.dirNoted line d).l2.dirBad = s.l2.dirBad := by
  rw [State.dirNoted, State.pushL2_dirBad, State.raiseL2_status]

theorem State.dirNoted_domainLost (s : State) (line : Nat) (d : Dir) : (s.dirNoted line d).l2.domainLost = s.l2.domainLost := by
  rw [State.dirNoted, State.pushL2_domainLost, State.raiseL2_status]

/-- A line without a trustworthy vector is written back and leaves the directory. -/
def State.lineDropped (s : State) (line : Nat) (d : Dir) : State :=
  let u := if d.state.hasData then s.writeBack line d.data d.poison else s
  State.lineToI { u with l2.dir := u.l2.dir.put line { d with state := if d.state.hasData then .h else .o } } line

theorem State.lineToI_gone (s : State) (line : Nat) : (s.lineToI line).l2.dir.get? line = none := by
  unfold State.lineToI
  split
  · assumption
  · exact SMap.get?_del_self _ _

theorem State.lineDropped_gone (s : State) (line : Nat) (d : Dir) : (s.lineDropped line d).l2.dir.get? line = none := State.lineToI_gone _ line

theorem State.lineDropped_dirBad (s : State) (line : Nat) (d : Dir) : (s.lineDropped line d).l2.dirBad = s.l2.dirBad := by
  simp only [State.lineDropped, State.lineToI_l2_dirBad]
  split <;> simp

theorem State.lineDropped_domainLost (s : State) (line : Nat) (d : Dir) : (s.lineDropped line d).l2.domainLost = s.l2.domainLost := by
  simp only [State.lineDropped, State.lineToI_l2_domainLost]
  split <;> simp

theorem State.lineDropped_status (s : State) (line : Nat) (d : Dir) : (s.lineDropped line d).l2.status = s.l2.status := by
  simp only [State.lineDropped, State.lineToI_l2_status]
  split <;> simp

section
variable {s : State} {line : Nat} {tag : Bool} {d : Dir} (hd : s.l2.dir.get? line = some d)
include hd

theorem dirUncorrectable_drops (ht : tag = false ∨ d.state.dirty = false) (hb : d.busy = none) (he : s.everyMember = 0 ∨ line ∈ s.l2.dirBad) :
    dirUncorrectable line tag s = State.lineDropped (if s.l2.dirBad.contains line then
      { s with l2.dirBad := s.l2.dirBad.filter (fun x => !decide (x = line)) } else s.dirNoted line d) line d := by
  unfold dirUncorrectable
  simp only [hd]
  rw [if_neg (by rcases ht with h | h <;> simp [h]), if_neg (by simp [hb]), if_neg (by rcases he with h | h <;> simp [h])]
  rfl

theorem dirUncorrectable_asks (ht : tag = false ∨ d.state.dirty = false) (hb : d.busy = none) (he : s.everyMember ≠ 0) (hn : line ∉ s.l2.dirBad) :
    dirUncorrectable line tag s = (State.dirNoted { s with
      l2.dir := s.l2.dir.put line { d with sharers := natOr 19 d.sharers s.everyMember }, l2.dirBad := s.l2.dirBad ++ [line] } line d).askCopies
        (.other (2 ^ 58 + line)) line := by
  unfold dirUncorrectable
  simp only [hd]
  rw [if_neg (by rcases ht with h | h <;> simp [h]), if_neg (by simp [hb]), if_pos (by simp [he, hn])]
  rfl

theorem dirUncorrectable_loses (ht : tag = true) (hdirty : d.state.dirty = true) :
    dirUncorrectable line tag s = (s.dirNoted line d).loseDomain d.slice (line % 2 ^ 32) := by
  unfold dirUncorrectable
  simp only [hd]
  exact if_pos ⟨ht, hdirty⟩

end

theorem natOr_members (x : Nat) {m : Nat} (hm : m ≠ 0) (h : m % 2 ^ 16 = 0) (hlt : m < 2 ^ 19) : natOr 19 x m / 2 ^ 16 ≠ 0 := by
  have hge : m ≤ natOr 19 x m := by
    rw [natOr, BitVec.toNat_or, BitVec.toNat_ofNat, BitVec.toNat_ofNat, Nat.mod_eq_of_lt hlt]
    exact Nat.right_le_or
  omega

theorem everyMember_bits (s : State) : s.everyMember % 2 ^ 16 = 0 ∧ s.everyMember < 2 ^ 19 := by
  have hall : ∀ p : Nat → Bool, ofBitList (((List.range 3).filter p).map (16 + ·)) % 2 ^ 16 = 0 ∧
      ofBitList (((List.range 3).filter p).map (16 + ·)) < 2 ^ 19 := by
    intro p
    simp only [List.range, List.range.loop, List.filter]
    cases p 0 <;> cases p 1 <;> cases p 2 <;> decide
  exact hall _

theorem State.askCopies_of_free {s : State} {line : Nat} {d : Dir} (who : Client) (hd : s.l2.dir.get? line = some d) (hs : d.sharers / 2 ^ 16 ≠ 0)
    (hb : d.busy = none) : s.askCopies who line =
      { s.tellCopies line d.sharers with
        l2.dir := (s.tellCopies line d.sharers).l2.dir.put line { d with busy := some (s.time.mono, who) } } := by
  unfold State.askCopies
  simp only [hd]
  exact if_neg (by simpa [hb] using hs)

/-- One invalidation of `tellCopies`. -/
def State.tellCopy (line sharers : Nat) (s : State) (i : Nat) : State :=
  if bit sharers (16 + i) then
    match s.tieMember i with
    | some c => s.cohMsg c 0 0 (128 * line) [] 0
    | none => s
  else s

theorem State.tellCopies_answers {s t : State} (h : t.fab = s.fab) (line sharers : Nat) :
    (t.tellCopies line sharers).fab.answers = (s.tellCopies line sharers).fab.answers := by
  have hfab : ∀ l : List Nat, ∀ s t : State, t.fab = s.fab →
      (l.foldl (State.tellCopy line sharers) t).fab = (l.foldl (State.tellCopy line sharers) s).fab := by
    intro l
    induction l with
    | nil => exact fun s t h => h
    | cons i l ih =>
      intro s t h
      refine ih _ _ ?_
      have hm : t.tieMember i = s.tieMember i := by rw [State.tieMember, State.tieMember, h]
      unfold State.tellCopy
      rw [hm]
      split
      · split
        · simp only [State.cohMsg, h]
        · exact h
      · exact h
  exact congrArg Fab.answers (hfab (List.range 3) s t h)

section
variable {s : State} {line : Nat} {tag : Bool} {d : Dir} (hd : s.l2.dir.get? line = some d)
include hd

theorem uncorrectable_alone (ht : tag = false ∨ d.state.dirty = false) (hb : d.busy = none) (he : s.everyMember = 0) (hn : line ∉ s.l2.dirBad) :
    ∃ t, exec (.dirUncorrectable line tag) s = .next t ∧ t.l2.dir.get? line = none ∧ bit t.l2.status 3 = true ∧ t.l2.domainLost = s.l2.domainLost := by
  refine ⟨_, congrArg Host.Outcome.next (dirUncorrectable_drops hd ht hb (.inl he)), State.lineDropped_gone _ _ _, ?_, ?_⟩
  · rw [State.lineDropped_status, if_neg (by simpa using hn), State.dirNoted_status]
  · rw [State.lineDropped_domainLost, if_neg (by simpa using hn), State.dirNoted_domainLost]

theorem uncorrectable_acknowledged (ht : tag = false ∨ d.state.dirty = false) (hb : d.busy = none) (hn : line ∈ s.l2.dirBad) :
    ∃ t, exec (.dirUncorrectable line tag) s = .next t ∧ t.l2.dir.get? line = none ∧ line ∉ t.l2.dirBad ∧ t.l2.domainLost = s.l2.domainLost := by
  refine ⟨_, congrArg Host.Outcome.next (dirUncorrectable_drops hd ht hb (.inr hn)), State.lineDropped_gone _ _ _, ?_, ?_⟩
  · rw [State.lineDropped_dirBad, if_pos (by simpa using hn)]
    simp
  · rw [State.lineDropped_domainLost, if_pos (by simpa using hn)]

theorem uncorrectable_shared (ht : tag = false ∨ d.state.dirty = false) (hb : d.busy = none) (he : s.everyMember ≠ 0) (hn : line ∉ s.l2.dirBad) :
    ∃ t e b, exec (.dirUncorrectable line tag) s = .next t ∧
      t.l2.dir.get? line = some e ∧ e.sharers = natOr 19 d.sharers s.everyMember ∧ e.busy = some b ∧ line ∈ t.l2.dirBad ∧ bit t.l2.status 3 = true ∧
      t.fab.answers = (s.tellCopies line (natOr 19 d.sharers s.everyMember)).fab.answers ∧ t.mem = s.mem := by
  have hbits := everyMember_bits s
  have hentry : (State.dirNoted { s with
      l2.dir := s.l2.dir.put line { d with sharers := natOr 19 d.sharers s.everyMember }, l2.dirBad := s.l2.dirBad ++ [line] } line d).l2.dir.get? line =
      some { d with sharers := natOr 19 d.sharers s.everyMember } := by
    rw [State.dirNoted_dir]
    exact SMap.get?_put_self _ _ _
  refine ⟨_, _, _, congrArg Host.Outcome.next ((dirUncorrectable_asks hd ht hb he hn).trans
      (State.askCopies_of_free (.other (2 ^ 58 + line)) hentry (natOr_members d.sharers he hbits.1 hbits.2) hb)),
    SMap.get?_put_self _ _ _, rfl, rfl, ?_, ?_, ?_, ?_⟩
  · simp [State.dirNoted_dirBad]
  · simp only [State.tellCopies_l2]
    exact State.dirNoted_status _ _ _
  · exact State.tellCopies_answers (by simp [State.dirNoted]) _ _
  · simp [State.dirNoted]

theorem uncorrectable_dirty (ht : tag = true) (hdirty : d.state.dirty = true) (hl : s.l2.domainLost = false) :
    ∃ t, exec (.dirUncorrectable line tag) s = .next t ∧ t.l2.domainLost = true ∧ bit t.l2.status 3 = true ∧ bit t.l2.status 6 = true := by
  have hn : (s.dirNoted line d).l2.domainLost = false := (State.dirNoted_domainLost s line d).trans hl
  exact ⟨_, congrArg Host.Outcome.next (dirUncorrectable_loses hd ht hdirty), State.loseDomain_lost hn _ _,
    State.loseDomain_status hn _ _ 3 (.inr (s.dirNoted_status line d)), State.loseDomain_status hn _ _ 6 (.inl rfl)⟩

end

/-! Ways. -/

theorem way_retires (s : State) (slice way : Nat) (hs : slice < 64) (hw : way < 16) (hc : s.closedWay slice way = false)
    (hf : bit s.l2.failed slice = false)
    (hbad : slice * 16 + way ∈ s.l2.wayBad ∨
      8 ≤ ((s.l2.wayErrors.getD (slice * 16 + way) []).filter (fun t => decide (s.time.mono < t + 1000000000))).length) :
    ((s.retiredWays slice).length < 4 →
      exec (.wayRetire slice way) s = .next { s with
        l2.retiring := s.l2.retiring ++ [slice * 16 + way], l2.retireAt := s.l2.retireAt.put (slice * 16 + way) s.time.mono }) ∧
    (4 ≤ (s.retiredWays slice).length → s.l2.domainLost = false →
      ∃ t, exec (.wayRetire slice way) s = .next t ∧ bit t.l2.failed slice = true ∧ t.l2.domainLost = true) := by
  have hgo : ¬(64 ≤ slice ∨ 16 ≤ way ∨ s.closedWay slice way ∨ bit s.l2.failed slice ∨
      (!s.l2.wayBad.contains (slice * 16 + way) ∧
        ((s.l2.wayErrors.getD (slice * 16 + way) []).filter (fun t => decide (s.time.mono < t + 1000000000))).length < 8)) := by
    rintro (h | h | h | h | ⟨h1, h2⟩)
    · omega
    · omega
    · exact absurd (hc.symm.trans h) (by decide)
    · exact absurd (hf.symm.trans h) (by decide)
    · rcases hbad with hb | hb
      · simp [hb] at h1
      · omega
  constructor
  · intro h
    exact congrArg Host.Outcome.next ((if_neg hgo).trans (if_neg (by omega)))
  · intro h hl
    have hlost : (State.pushL2 { s with l2.failed := setBit s.l2.failed slice } (l2Rec 3 slice way 0)).l2.domainLost = false :=
      (State.pushL2_domainLost _ _).trans hl
    refine ⟨_, congrArg Host.Outcome.next ((if_neg hgo).trans (if_pos h)), ?_, State.loseDomain_lost hlost _ _⟩
    rw [State.loseDomain_failed hlost, State.pushL2_failed]
    simp [bit_setBit]

/-- The numbers and lists of a slice once its way is empty. -/
def State.wayGone (s : State) (slice way : Nat) : State :=
  let u := (s.setNum (E.sliceRetiredWays + slice) (setBit (s.num (E.sliceRetiredWays + slice)) way)).addNum E.waysRetired 16
  { u with
    l2.retiring := u.l2.retiring.filter (fun x => !decide (x = slice * 16 + way)), l2.retireAt := u.l2.retireAt.del (slice * 16 + way)
    l2.wayErrors := u.l2.wayErrors.del (slice * 16 + way), l2.wayBad := u.l2.wayBad.filter (fun x => !decide (x = slice * 16 + way)) }

theorem State.wayGone_num (s : State) (slice way a : Nat) : (s.wayGone slice way).num a =
    ((s.setNum (E.sliceRetiredWays + slice) (setBit (s.num (E.sliceRetiredWays + slice)) way)).addNum E.waysRetired 16).num a := rfl

theorem State.wayGone_retiring (s : State) (slice way : Nat) : slice * 16 + way ∉ (s.wayGone slice way).l2.retiring := by
  simp [State.wayGone]

theorem wayRetireComplete_completes {s : State} {slice way : Nat} (hr : slice * 16 + way ∈ s.l2.retiring)
    (hb : s.l2.dir.vals.any (fun d => decide (d.slice = slice ∧ d.way = way) && d.busy.isSome) = false)
    (hc : s.copiesEnded (s.emptyWay slice way) = []) :
    wayRetireComplete slice way s = ((((s.emptyWay slice way).wayGone slice way).raiseL2 4).pushL2 (l2Rec 2 slice way 0)).faultRecord 3 slice way
      (s.time.mono - s.l2.retireAt.getD (slice * 16 + way) s.time.mono) 0 0 := by
  unfold wayRetireComplete
  dsimp only
  rw [if_neg (by simp only [hb]; simpa using hr)]
  simp only [hc]
  generalize s.emptyWay slice way = u
  rfl

theorem SMap.get?_of_sorted {α : Type} {m : SMap α} (h : (m.map Prod.fst).Pairwise (fun a b => a < b)) {e : Nat × α} (he : e ∈ m) :
    m.get? e.1 = some e.2 :=
  SMap.get?_of_keys (h.imp Nat.ne_of_lt) he

theorem way_completes (s : State) (slice way : Nat) (hs : slice < 64) (hr : slice * 16 + way ∈ s.l2.retiring)
    (hfree : ∀ k d, s.l2.dir.get? k = some d → d.slice = slice → d.way = way → d.busy = none)
    (hsorted : (s.l2.dir.map Prod.fst).Pairwise (fun a b => a < b)) (hc : s.copiesEnded (s.emptyWay slice way) = []) :
    ∃ t, exec (.wayRetireComplete slice way) s = .next t ∧ slice * 16 + way ∉ t.l2.retiring ∧ bit (t.num (E.sliceRetiredWays + slice)) way = true ∧
      t.num E.waysRetired = (s.num E.waysRetired + 1) % 2 ^ 16 ∧ bit t.l2.status 4 = true := by
  have hb : s.l2.dir.vals.any (fun d => decide (d.slice = slice ∧ d.way = way) && d.busy.isSome) = false := by
    rw [List.any_eq_false]
    intro d hd
    obtain ⟨e, he, rfl⟩ := List.mem_map.mp hd
    have hget := SMap.get?_of_sorted hsorted he
    by_cases hw : e.2.slice = slice ∧ e.2.way = way
    · simp [hfree _ _ hget hw.1 hw.2]
    · simp [hw]
  have hlow : E.sliceRetiredWays + slice < E.faultsCovered ∧ E.sliceRetiredWays + slice ≠ E.waysRetired := by
    simp only [E.sliceRetiredWays, E.faultsCovered, E.waysRetired]
    omega
  have hnum : (s.emptyWay slice way).num E.waysRetired = s.num E.waysRetired := State.num_of_mgt_num (by rw [State.emptyWay_mgt]) _ _
  refine ⟨_, congrArg Host.Outcome.next (wayRetireComplete_completes hr hb hc), ?_, ?_, ?_, ?_⟩
  · rw [State.faultRecord_l2, State.pushL2_retiring, State.raiseL2_status]
    exact State.wayGone_retiring _ _ _
  · rw [State.num_faultRecord _ _ _ _ _ _ _ hlow.1, State.num_of_mgt_num (s := (s.emptyWay slice way).wayGone slice way) (by simp), State.wayGone_num,
      State.addNum, State.num_setNum_of_ne _ _ hlow.2, State.num_setNum_self]
    simp [bit_setBit]
  · rw [State.num_faultRecord _ _ _ _ _ _ _ (by decide), State.num_of_mgt_num (s := (s.emptyWay slice way).wayGone slice way) (by simp), State.wayGone_num,
      State.num_addNum_self, State.num_setNum_of_ne _ _ hlow.2.symm, hnum]
  · rw [State.faultRecord_l2]
    refine State.pushL2_status _ _ _ ?_
    rw [State.raiseL2_status]
    simp [bit_setBit]

/-! Losses. -/

theorem State.loseDomain_loses {s : State} (h : s.l2.domainLost = false) (unit detail : Nat) :
    (s.loseDomain unit detail).l2.domainLost = true ∧ (∀ q, (s.q q).state = .running → Killed (s.loseDomain unit detail) q 0x11) ∧
      (s.loseDomain unit detail).mem = s.mem :=
  ⟨State.loseDomain_lost h _ _, fun _ hq => State.loseDomain_kills h _ _ hq, State.loseDomain_mem _ _⟩

theorem transaction_times_out (s : State) (line : Nat) (d : Dir) (b : Nat × Client) (hd : s.l2.dir.get? line = some d) (hb : d.busy = some b) :
    (s.time.mono < b.1 + 50000 → exec (.cohTransactionTimeout line) s = .next s) ∧
    (b.1 + 50000 ≤ s.time.mono → s.l2.domainLost = false →
      ∃ t, exec (.cohTransactionTimeout line) s = .next t ∧ t.l2.domainLost = true ∧ bit t.l2.status 6 = true ∧
        (∀ q, (s.q q).state = .running → Killed t q 0x11) ∧ t.mem = s.mem) := by
  have heq : cohTransactionTimeout line s = if s.time.mono < b.1 + 50000 then s else s.loseDomain d.slice (line % 2 ^ 32) := by
    unfold cohTransactionTimeout
    simp only [hd, hb]
  constructor
  · intro h
    exact congrArg Host.Outcome.next (heq.trans (if_pos h))
  · intro h hl
    obtain ⟨h1, h2, h3⟩ := State.loseDomain_loses hl d.slice (line % 2 ^ 32)
    exact ⟨_, congrArg Host.Outcome.next (heq.trans (if_neg (by omega))), h1, State.loseDomain_status hl _ _ 6 (.inl rfl), h2, h3⟩

theorem directory_stalls (s : State) (slice line : Nat) (d : Dir) (b : Nat × Client) (hd : s.l2.dir.get? line = some d) (hs : d.slice = slice)
    (hb : d.busy = some b) (ht : b.1 + 10000 ≤ s.time.mono) (hl : s.l2.domainLost = false) :
    ∃ t, exec (.directoryStallTimeout slice) s = .next t ∧ t.l2.domainLost = true ∧ (∀ q, (s.q q).state = .running → Killed t q 0x11) ∧ t.mem = s.mem := by
  have heq : directoryStallTimeout slice s = s.loseDomain slice 0 := by
    refine if_pos (List.any_eq_true.mpr ⟨d, List.mem_map.mpr ⟨(line, d), SMap.mem_of_get? hd, rfl⟩, ?_⟩)
    simp [hs, hb, ht]
  exact ⟨_, congrArg Host.Outcome.next heq, State.loseDomain_loses hl _ _⟩

theorem member_lost (s : State) (member : Nat) (wasReset : Bool) (hm : s.tiedChip member = true) (hl : s.l2.domainLost = false) :
    (wasReset = true ∨ member ∈ s.fab.unreachable ∨ (∃ at_, s.fab.lostSince.get? member = some at_ ∧ at_ + 50000 ≤ s.time.mono) →
      ∃ t, exec (.coherentDomainLoss member wasReset) s = .next t ∧ t.l2.domainLost = true ∧ (∀ q, (s.q q).state = .running → Killed t q 0x11) ∧
        t.mem = s.mem) ∧
    (member ∉ s.fab.unreachable → s.fab.lostSince.get? member = none → exec (.coherentDomainLoss member false) s = .next s) := by
  constructor
  · intro h
    have heq : coherentDomainLoss member wasReset s = s.loseDomain member 0 := by
      refine if_pos ?_
      rcases h with rfl | h | ⟨at_, hat, h⟩
      · simp [hm]
      · simp [hm, h]
      · simp [hm, hat, h]
    exact ⟨_, congrArg Host.Outcome.next heq, State.loseDomain_loses hl _ _⟩
  · intro h hn
    exact congrArg Host.Outcome.next (if_neg (by simp [h, hn]))

theorem chip_fails (s : State) (domain : Nat) (hlo : 16 ≤ domain) (hhi : domain ≤ 18) (hf : s.sup.chipFailed = false) :
    ∃ t, exec (.chipStallFail domain) s = .next t ∧ t.sup.chipFailed = true ∧ (∀ q, (s.q q).state = .running → Killed t q 0x11) ∧
      t.l2.domainLost = s.l2.domainLost ∧ t.mem = s.mem := by
  have heq : chipStallFail domain s = (State.killAll { s with sup.chipFailed := true }).faultRecord 20 domain 0 0xFFFFFFFF s.aliveCount 0 :=
    if_neg (by simp [hf]; omega)
  refine ⟨_, congrArg Host.Outcome.next heq, by simp, fun q hq => ?_, by simp, by simp⟩
  exact Killed.congr (s := State.killAll { s with sup.chipFailed := true }) (State.killAll_running hq) (by simp)

/-- Settles O30: an entry that is not to be trusted leaves the directory once no member can hold its line, a way is retired or its slice fails, and
every loss kills the contexts that run. -/
theorem directoryErrors : Obligations.DirectoryErrors :=
  ⟨fun _ _ _ _ hd => ⟨uncorrectable_alone hd, uncorrectable_shared hd, uncorrectable_acknowledged hd, uncorrectable_dirty hd⟩, way_retires,
    fun s slice way hs _ => way_completes s slice way hs, transaction_times_out, directory_stalls, member_lost, chip_fails⟩

end Sys2Proof.Machine
end

section
/-! The gating of a plain, and the caches of a core (R36, R208, R214, R233, R234). -/

namespace Sys2Proof.Machine

@[simp] theorem State.coreReturns_l2_gatedPlains (s : State) (c : Nat) : (s.coreReturns c).l2.gatedPlains = s.l2.gatedPlains := by simp [State.coreReturns]

/-! Commands that go over the cores of a plain. -/

theorem mem_rangeFrom {a n x : Nat} : x ∈ rangeFrom a n ↔ a ≤ x ∧ x < a + n := by
  induction n generalizing a with
  | zero => simp [rangeFrom]
  | succ n ih => rw [rangeFrom, List.mem_cons, ih]; omega

theorem nodup_rangeFrom (a n : Nat) : (rangeFrom a n).Nodup := by
  induction n generalizing a with
  | zero => exact List.nodup_nil
  | succ n ih => exact List.nodup_cons.mpr ⟨fun h => by have := mem_rangeFrom.mp h; omega, ih (a + 1)⟩

theorem mem_coresOfPlain {p c : Nat} : c ∈ coresOfPlain p ↔ c / 24 = p := by
  rw [coresOfPlain, mem_rangeFrom]
  omega

/-- Steps that each change their own core. -/
theorem foldl_core {f : State → Nat → State} {g : Core → Core} (hself : ∀ s c, (f s c).core c = g (s.core c))
    (hother : ∀ s c d, d ≠ c → (f s c).core d = s.core d) {l : List Nat} (hl : l.Nodup) (s : State) (d : Nat) :
    (l.foldl f s).core d = if d ∈ l then g (s.core d) else s.core d := by
  induction l generalizing s with
  | nil => simp
  | cons c l ih =>
    obtain ⟨hc, hl⟩ := List.nodup_cons.mp hl
    rw [List.foldl_cons, ih hl]
    by_cases hd : d = c
    · subst hd
      simp [hc, hself]
    · simp [hd, hother _ _ _ hd]

/-! Gating. -/

/-- A core of a plain that is gated. -/
def Core.gate (k : Core) : Core := { k with l1 := [], scl := [], victim := [], icache := [], state := if k.state = 0 then 1 else k.state }

def State.gateCores (s : State) (p : Nat) : State := (coresOfPlain p).foldl (fun s c => s.modCore c Core.gate) s

/-- A plain that is gated: of its steps only the first changes cores, the fifth marks it, and the last stops its time base. -/
theorem plainGate_of_may {s : State} {p : Nat} (h : s.mayGate p = true) :
    ∃ u : State, plainGate p s = { u with time.replicas := u.time.replicas.mapIdx (fun i r => if i = p then { r with stopped := true } else r) } ∧
      u.cores = (s.gateCores p).cores ∧ bit u.l2.gatedPlains p = true := by
  unfold plainGate
  rw [if_neg (by simp [h])]
  extract_lets s1 reps s2 s3 mine s4 _ s5 s6
  have h1 : s1.cores = (s.gateCores p).cores := rfl
  have h2 : s2.cores = s1.cores := foldl_cores _ _ fun _ _ => by simp
  have h3 : s3.cores = s2.cores := foldl_cores _ _ fun _ _ => by simp
  have h4 : s4.cores = s3.cores := foldl_cores _ _ fun _ _ => by simp
  have h5 : s5.cores = s4.cores ∧ bit s5.l2.gatedPlains p = true := ⟨rfl, (bit_setBit _ _ _).trans (by simp)⟩
  have h6 : s6.cores = s5.cores ∧ s6.l2 = s5.l2 :=
    ⟨foldl_cores _ _ fun u q => foldl_cores _ _ fun v b => by split <;> rfl, foldl_l2 _ _ fun u q => foldl_l2 _ _ fun v b => by split <;> rfl⟩
  clear_value s1 s2 s3 s4 s5 s6
  exact ⟨s6, rfl, h6.1.trans (h5.1.trans (h4.trans (h3.trans (h2.trans h1)))), h6.2 ▸ h5.2⟩

theorem gateCores_core (s : State) (p c : Nat) : (s.gateCores p).core c = if c / 24 = p then (s.core c).gate else s.core c := by
  have hfold := foldl_core (f := fun s c => s.modCore c Core.gate) (fun s c => s.modCore_core_self c _) (fun s c d hd => s.modCore_core_ne c _ hd)
    (nodup_rangeFrom (24 * p) 24) s c
  refine hfold.trans ?_
  rw [← coresOfPlain]
  simp only [mem_coresOfPlain]

theorem plain_gates (s : State) (p : Nat) (h : s.mayGate p = true) (hgo : s.unitGoes 15 p (plainGate p)) :
    ∃ t, exec (.plainGate p) s = .next t ∧ bit t.l2.gatedPlains p = true ∧
      (∀ c, c / 24 = p → (t.core c).l1 = [] ∧ (t.core c).scl = [] ∧ (t.core c).victim = [] ∧ ((s.core c).state = 0 → (t.core c).state = 1)) ∧
      (∀ r, t.time.replicas[p]? = some r → r.stopped = true) ∧ (∀ c, c / 24 ≠ p → t.core c = s.core c) := by
  obtain ⟨u, hu, hcores, hbit⟩ := plainGate_of_may h
  have hdone : (plainGate p s).cores = u.cores ∧ (plainGate p s).l2.gatedPlains = u.l2.gatedPlains := by
    rw [hu]
    exact ⟨rfl, rfl⟩
  have hk (c : Nat) : ((plainGate p s).unitDone 15 p).core c = if c / 24 = p then (s.core c).gate else s.core c := by
    rw [State.core_congr (State.unitDone_cores _ _ _), State.core_congr (hdone.1.trans hcores), gateCores_core]
  refine ⟨_, congrArg Host.Outcome.next (State.unit_of_goes hgo), (congrArg (bit · p) hdone.2).trans hbit, ?_, ?_, ?_⟩
  · intro c hc
    rw [hk, if_pos hc]
    exact ⟨rfl, rfl, rfl, fun h0 => if_pos h0⟩
  · intro r hr
    rw [State.unitDone_time, hu] at hr
    obtain ⟨r0, -, rfl⟩ := Option.map_eq_some_iff.mp (List.getElem?_mapIdx.symm.trans hr)
    exact congrArg Replica.stopped (if_pos rfl)
  · intro c hc
    rw [hk, if_neg hc]

/-- An operation that changes nothing is performed. -/
theorem State.touched_self (s : State) : s.touched s = [] := by
  simp [State.touched]

theorem State.unit_same {s : State} {kind index : Nat} {go : State → State} (hgo : go s = s) (hr : s.l2.refused = none)
    (hn : ∀ e ∈ s.l2.nacked, e.who ≠ .other (kind * 2 ^ 48 + index)) : s.unit kind index go = s := by
  have hmeets : s.unitGoes kind index go := by
    have : s.meets (go s) (.other (kind * 2 ^ 48 + index)) = .free := by
      rw [hgo]
      exact State.meets_of_dir_eq _ rfl hr
    exact decide_eq_true this
  have hkeep : s.l2.nacked.filter (fun e => !(decide (e.who = .other (kind * 2 ^ 48 + index)) && true)) = s.l2.nacked :=
    List.filter_eq_self.mpr fun e he => by rw [decide_eq_false (hn e he)]; rfl
  rw [State.unit_of_goes hmeets, hgo, State.unitDone, State.unNack]
  dsimp only
  rw [hkeep, ← hr]

theorem plain_stays (s : State) (p : Nat) (h : s.mayGate p = false) (hr : s.l2.refused = none)
    (hn : ∀ e ∈ s.l2.nacked, e.who ≠ .other (15 * 2 ^ 48 + p)) : exec (.plainGate p) s = .next s :=
  congrArg Host.Outcome.next (State.unit_same (if_pos (by simp [h])) hr hn)

/-! Waking. -/

/-- A core of a plain that wakes. -/
def Core.wake (k : Core) : Core :=
  if k.state = 1 then
    { k with
      state := 0, epoch := (k.epoch + 1) % 2 ^ 32, sclEnable := false, sclInvalidated := false, retry := none, rcache := [], recent := []
      run := 0, order := [] }
  else k

def State.wakeCore (s : State) (c : Nat) : State := if (s.core c).state = 1 then s.coreReturns c else s

theorem State.wakeCore_self (s : State) (c : Nat) : (s.wakeCore c).core c = (s.core c).wake := by
  unfold State.wakeCore Core.wake
  split
  · rw [State.core_congr (s.coreReturns_cores c), State.modCore_core_self]
  · rfl

theorem State.wakeCore_other (s : State) (c d : Nat) (h : d ≠ c) : (s.wakeCore c).core d = s.core d := by
  unfold State.wakeCore
  split
  · rw [State.core_congr (s.coreReturns_cores c), State.modCore_core_ne _ _ _ h]
  · rfl

theorem State.wakeCore_keeps (s : State) (c : Nat) :
    (s.wakeCore c).l2.gatedPlains = s.l2.gatedPlains ∧ (s.wakeCore c).mgt = s.mgt ∧ (s.wakeCore c).time = s.time ∧ (s.wakeCore c).mem = s.mem := by
  unfold State.wakeCore
  split
  · simp
  · exact ⟨rfl, rfl, rfl, rfl⟩

theorem State.wakeCore_disabled (s : State) (c d : Nat) (h : bit s.l2.sclDisabled d = true ∨ c = d ∧ (s.core d).state = 1) :
    bit (s.wakeCore c).l2.sclDisabled d = true := by
  unfold State.wakeCore State.coreReturns
  split
  · rw [State.raiseL2_status]
    simp only [bit_setBit, Bool.or_eq_true, decide_eq_true_eq]
    exact h.symm.imp (fun h => h.1.symm) id
  · rename_i h1
    refine h.resolve_right ?_
    rintro ⟨rfl, h0⟩
    exact h1 h0

theorem foldl_wakeCore_disabled {d : Nat} {l : List Nat} {s : State} (h : bit s.l2.sclDisabled d = true ∨ (s.core d).state = 1 ∧ d ∈ l) :
    bit (l.foldl State.wakeCore s).l2.sclDisabled d = true := by
  induction l generalizing s with
  | nil => simpa using h
  | cons c l ih =>
    refine ih ?_
    rcases h with h | ⟨h1, hm⟩
    · exact .inl (s.wakeCore_disabled c d (.inl h))
    · by_cases hd : d = c
      · exact .inl (s.wakeCore_disabled c d (.inr ⟨hd.symm, h1⟩))
      · exact .inr ⟨by rwa [s.wakeCore_other c d hd], (List.mem_cons.mp hm).resolve_left hd⟩

/-- A plain whose time base is loaded again, before its cores return. -/
def State.plainLoaded (s : State) (plain : Nat) : State :=
  { s.addNum (E.plainEpoch + plain) 32 with
    l2.gatedPlains := clrBit s.l2.gatedPlains plain
    time.replicas := s.time.replicas.mapIdx (fun i r => if i = plain then r.reload s.time.gtb else r)
    time.domainResync := setBit s.time.domainResync plain, time.resyncEvent := true
    time.resyncFlag := setBit s.time.resyncFlag plain
    time.resyncDone := s.time.resyncDone.filter (fun x => !decide (x / 65536 = 1 ∧ x % 65536 / 24 = plain)) }

theorem State.plainLoaded_num (s : State) (p a : Nat) : (s.plainLoaded p).num a = (s.addNum (E.plainEpoch + p) 32).num a := rfl

theorem plainWake_wakes {s : State} {p : Nat} (h : bit s.l2.gatedPlains p = true) :
    plainWake p s = (coresOfPlain p).foldl State.wakeCore (s.plainLoaded p) := by
  unfold plainWake State.plainLoaded
  rw [if_neg (by simp [h])]
  rfl

theorem plain_wakes (s : State) (p : Nat) (h : bit s.l2.gatedPlains p = true) :
    ∃ t, exec (.plainWake p) s = .next t ∧ bit t.l2.gatedPlains p = false ∧ t.num (E.plainEpoch + p) = (s.num (E.plainEpoch + p) + 1) % 2 ^ 32 ∧
      (∀ r0, s.time.replicas[p]? = some r0 →
        t.time.replicas[p]? = some { count := max r0.count s.time.gtb, stopped := false, holding := decide (s.time.gtb < r0.count) }) ∧
      (∀ c, c / 24 = p → (s.core c).state = 1 → (t.core c).state = 0 ∧ (t.core c).sclEnable = false ∧
        (t.core c).epoch = ((s.core c).epoch + 1) % 2 ^ 32 ∧ bit t.l2.sclDisabled c = true) ∧ t.mem = s.mem := by
  have hgated : ((coresOfPlain p).foldl State.wakeCore (s.plainLoaded p)).l2.gatedPlains = clrBit s.l2.gatedPlains p :=
    foldl_keeps (fun u => u.l2.gatedPlains) (fun u c => (u.wakeCore_keeps c).1) _ _
  have hmgt : ((coresOfPlain p).foldl State.wakeCore (s.plainLoaded p)).mgt = (s.plainLoaded p).mgt :=
    foldl_mgt _ _ fun u c => (u.wakeCore_keeps c).2.1
  have htime : ((coresOfPlain p).foldl State.wakeCore (s.plainLoaded p)).time = (s.plainLoaded p).time :=
    foldl_time _ _ fun u c => (u.wakeCore_keeps c).2.2.1
  have hmem : ((coresOfPlain p).foldl State.wakeCore (s.plainLoaded p)).mem = (s.plainLoaded p).mem :=
    foldl_mem _ _ fun u c => (u.wakeCore_keeps c).2.2.2
  have hcores : (s.plainLoaded p).cores = s.cores := State.addNum_cores _ _ _ _ _
  refine ⟨_, congrArg Host.Outcome.next (plainWake_wakes h), ?_, ?_, ?_, ?_, ?_⟩
  · rw [hgated]
    simp [bit_clrBit]
  · exact (State.num_of_mgt_num (congrArg Mgt.num hmgt) _ _).trans ((s.plainLoaded_num p (E.plainEpoch + p)).trans
      (State.num_addNum_self s (E.plainEpoch + p) 32 1 0))
  · intro r0 hr
    rw [htime]
    exact List.getElem?_mapIdx.trans (by simp [hr, Replica.reload])
  · intro c hc h1
    have hmem := mem_coresOfPlain.mpr hc
    have hk := foldl_core State.wakeCore_self State.wakeCore_other (nodup_rangeFrom (24 * p) 24) (s.plainLoaded p) c
    rw [← coresOfPlain, if_pos hmem, State.core_congr hcores, Core.wake, if_pos h1] at hk
    have h1' : ((s.plainLoaded p).core c).state = 1 := (congrArg Core.state (State.core_congr hcores c)).trans h1
    exact ⟨congrArg Core.state hk, congrArg Core.sclEnable hk, congrArg Core.epoch hk, foldl_wakeCore_disabled (.inr ⟨h1', hmem⟩)⟩
  · rw [hmem]
    exact State.addNum_mem _ _ _ _ _

/-! Redirected buckets. -/

def PartSt.returns (b : Nat) (x : PartSt) : PartSt := { x with redirects := x.redirects.del b }

theorem bucket_returns (s : State) (part b : Nat) (hb : (s.part part).redirects.has b = true) (hs : s.slicesOf part ≠ [])
    (hg : bit s.l2.gatedPlains ((s.slicesOf part).getD (b % (s.slicesOf part).length) 0 / 4) = false)
    (hgo : s.unitGoes 16 (part * 64 + b) (bucketReturn part b)) :
    ∃ t, exec (.bucketReturn part b) s = .next t ∧ (t.part part).redirects.has b = false ∧
      t.homeMap (some part) b = (s.slicesOf part).getD (b % (s.slicesOf part).length) 0 := by
  have hlen : 0 < (s.slicesOf part).length := List.length_pos_iff.mpr hs
  have heq : bucketReturn part b s =
      (s.linesToI (fun line => decide (s.linePart line = some part) && decide (bucketOf line = b))).modPart part (PartSt.returns b) := by
    refine if_neg ?_
    rw [hb, hg]
    simpa using hs
  have hpart : ((bucketReturn part b s).unitDone 16 (part * 64 + b)).part part = (s.part part).returns b := by
    rw [State.part, State.unitDone_hif, heq, State.modPart, SMap.getD_modify_self, State.linesToI_hif]
    rfl
  have hslices : ((bucketReturn part b s).unitDone 16 (part * 64 + b)).slicesOf part = s.slicesOf part := by
    rw [State.slicesOf, State.slicesOf, State.qmask, State.qmask, State.num_of_mgt_num (s := s)]
    rw [State.unitDone_mgt, heq]
    exact congrArg Mgt.num (State.linesToI_mgt _ _)
  refine ⟨_, congrArg Host.Outcome.next (State.unit_of_goes hgo), ?_, ?_⟩
  · rw [hpart]
    exact SMap.has_del_self _ _
  · simp only [State.homeMap, hpart, PartSt.returns, SMap.get?_del_self, hslices]
    rw [if_neg (by omega)]
    simp [List.getD_eq_getElem?_getD, Nat.mod_lt _ hlen]

/-! Scalar caches and scratch. -/

theorem scalar_cache_enabled (s : State) (c : Nat) (ha : s.num E.sclAutoEnable = 1) (hd : bit s.l2.sclDisabled c = true) :
    ∃ t, exec (.sclAutoEnable c) s = .next t ∧ (t.core c).sclEnable = true ∧ (t.core c).scl = [] ∧ (t.core c).victim = [] ∧
      bit t.l2.sclDisabled c = false ∧ (∀ j, j ≠ c → t.core j = s.core j) ∧ t.mem = s.mem := by
  have hself : ((s.sclInvalidate c).sclOn c).core c = { (s.sclInvalidate c).core c with sclEnable := true } :=
    (State.core_congr rfl c).trans (State.modCore_core_self (s.sclInvalidate c) c fun k => { k with sclEnable := true })
  have hk := hself.trans (congrArg (fun k : Core => { k with sclEnable := true }) (s.modCore_core_self c _))
  refine ⟨(s.sclInvalidate c).sclOn c, congrArg Host.Outcome.next (if_pos ⟨ha, hd⟩), congrArg Core.sclEnable hk, congrArg Core.scl hk,
    congrArg Core.victim hk, ?_, fun j hj => ?_, rfl⟩
  · exact (bit_clrBit _ _ _).trans (by simp)
  · exact (State.core_congr rfl j).trans ((State.modCore_core_ne (s.sclInvalidate c) c (fun k => { k with sclEnable := true }) hj).trans
      (s.modCore_core_ne c _ hj))

theorem scalar_cache_controlled (s : State) (c : Nat) (hc : c < 384) :
    ((s.core c).sclInvalidated = true → exec (.sclCtrlEnable c true) s =
      .next { s.modCore c (fun k => { k with sclEnable := true }) with l2.sclDisabled := clrBit s.l2.sclDisabled c }) ∧
    ((s.core c).sclInvalidated = false → exec (.sclCtrlEnable c true) s = .next s) ∧
    exec (.sclCtrlEnable c false) s = .next (s.modCore c (fun k => { k with sclEnable := false })) := by
  have hgo : ¬384 ≤ c := by omega
  refine ⟨fun h => ?_, fun h => ?_, ?_⟩
  · exact congrArg Host.Outcome.next ((if_neg hgo).trans ((if_pos rfl).trans (if_pos h)))
  · exact congrArg Host.Outcome.next ((if_neg hgo).trans ((if_pos rfl).trans (if_neg (by simp [h]))))
  · exact congrArg Host.Outcome.next ((if_neg hgo).trans (if_neg (by decide)))

def State.scratchDue (v : Nat) (s : State) (c : Nat) : State := s.modCore c (fun k => { k with scratchPending := decide (k.scratchKib ≠ v) })

theorem foldl_scratchDue {v c : Nat} {l : List Nat} (s : State) (h : c ∈ l) :
    ((l.foldl (State.scratchDue v) s).core c).scratchPending = decide ((s.core c).scratchKib ≠ v) := by
  have hkib (u : State) (d : Nat) : ((u.scratchDue v d).core c).scratchKib = (u.core c).scratchKib := by
    by_cases hd : c = d
    · subst hd
      rw [State.scratchDue, State.modCore_core_self]
    · rw [State.scratchDue, State.modCore_core_ne _ _ _ hd]
  have hkeep (l : List Nat) (u : State) (hu : (u.core c).scratchPending = decide ((u.core c).scratchKib ≠ v)) :
      ((l.foldl (State.scratchDue v) u).core c).scratchPending = decide ((u.core c).scratchKib ≠ v) := by
    induction l generalizing u with
    | nil => exact hu
    | cons d l ih =>
      have hstep : ((u.scratchDue v d).core c).scratchPending = decide (((u.scratchDue v d).core c).scratchKib ≠ v) := by
        by_cases hd : c = d
        · subst hd
          rw [State.scratchDue, State.modCore_core_self]
        · rw [State.scratchDue, State.modCore_core_ne _ _ _ hd, hu]
      rw [List.foldl_cons, ih _ hstep, hkib]
  induction l generalizing s with
  | nil => simp at h
  | cons d l ih =>
    by_cases hd : c = d
    · subst hd
      rw [List.foldl_cons, hkeep l _ (by rw [State.scratchDue, State.modCore_core_self]), hkib]
    · rw [List.foldl_cons, ih _ ((List.mem_cons.mp h).resolve_left hd), hkib]

theorem isSome_scratchKib : (entryInfo E.scratchKib).isSome := by decide

theorem scratch_written (s : State) (who : Origin) (part v : Nat) (hl : s.entryLive E.scratchKib = true) (hp : part < 64) (hw : who.isVf = false) :
    (v % 64 = 0 → v ≤ 448 → ∃ t, exec (.scratchKibWrite who part v) s = .next t ∧ t.num E.scratchKib part = v ∧ t.mgt.answer = 0 ∧
      (∀ c, c ∈ s.coresOf part → (t.core c).scratchPending = decide ((s.core c).scratchKib ≠ v)) ∧ t.mem = s.mem) ∧
    (v % 64 ≠ 0 ∨ 448 < v → exec (.scratchKibWrite who part v) s = .next (s.answer 4)) := by
  constructor
  · intro h0 h448
    have hbad : ¬(v % 64 ≠ 0 ∨ 448 < v) := by omega
    have hcores : (s.dictNum who E.scratchKib part v).coresOf part = s.coresOf part := by
      have hmask : (E.partitionQmask + part) * 256 + 0 ≠ E.scratchKib * 256 + part := by
        simp only [E.partitionQmask, E.scratchKib]
        omega
      simp only [State.coresOf, State.slicesOf, State.qmask, State.dictNum_num_ne s who hmask]
    have heq : scratchKibWrite who part v s =
        (s.coresOf part).foldl (State.scratchDue v) (s.dictNum who E.scratchKib part v) := by
      rw [scratchKibWrite, if_neg hbad, State.partWrite_ok _ _ _ _ _ _ hl hp hw]
      rw [hcores]
      rfl
    have hmgt : ((s.coresOf part).foldl (State.scratchDue v) (s.dictNum who E.scratchKib part v)).mgt = (s.dictNum who E.scratchKib part v).mgt :=
      foldl_mgt _ _ fun _ _ => rfl
    refine ⟨_, congrArg Host.Outcome.next heq, ?_, ?_, fun c hc => ?_, ?_⟩
    · rw [State.num_of_mgt_num (congrArg Mgt.num hmgt), State.dictNum_num_self _ _ _ _ _ isSome_scratchKib]
    · rw [hmgt, State.dictNum_answer _ _ _ _ _ isSome_scratchKib]
    · rw [foldl_scratchDue _ hc, State.core_congr (State.dictNum_cores _ _ _ _ _)]
    · exact (foldl_mem (g := State.scratchDue v) _ _ fun _ _ => rfl).trans (State.dictNum_mem _ _ _ _ _)
  · intro hbad
    refine congrArg Host.Outcome.next ?_
    have hlive : ¬(!s.entryLive E.scratchKib ∨ 63 < part) := by simp [hl]; omega
    rw [scratchKibWrite, if_pos hbad, State.partWrite, if_neg hlive, if_neg (by simp [hw]), if_pos (by decide)]

theorem scratch_applied (s : State) (c p : Nat) (hp : s.partOfCore c = some p) (hs : (s.core c).scratchPending = true) (hb : (s.core c).blocks = []) :
    exec (.scratchChangeApply c) s =
      .next (s.modCore c (fun k => { k with scratchKib := s.num E.scratchKib p, scratchPending := false, l1 := [] })) := by
  refine congrArg Host.Outcome.next ?_
  simp [scratchChangeApply, hp, hs, hb]

/-- Settles O31: gating changes the cores, the time base and the map of its plain by steps that leave each other's parts alone, and each other command
is its branch. -/
theorem plainsAndCoreCaches : Obligations.PlainsAndCoreCaches :=
  ⟨plain_gates, plain_stays, fun s p _ h => plain_wakes s p h, bucket_returns, scalar_cache_enabled,
    fun _ _ hc => congrArg Host.Outcome.next (if_pos hc), scalar_cache_controlled, scratch_written, scratch_applied⟩

end Sys2Proof.Machine
end

section
/-! A read through BAR2 of a slab whose number lies so high that the mode of its frame row is the count of corrected errors of the homes (R59, R216, R318). -/

namespace Sys2Proof.Machine

/-- The frame row whose mode shares its key with the count. -/
def strayRow : Nat := E.l2Corrected - E.rowMode

/-- The second slab of that row: on stack 4 while the row is interleaved, on stack 1 while it is not. -/
def straySlab : Nat := 20 * strayRow + 1

/-- Its first line, held clean. -/
def straySlabLine : Nat := straySlab * 2 ^ 24

/-- The view of function 1 has the slab, its first line is held at a home, and stack 1 has failed. -/
def strayWindow : State :=
  { State.reset with
    mgt.num := [((E.fnPartition + 1) * 256, 0)]
    hif.parts := [(0, { PartSt.initial with slabs := [straySlab] })]
    hif.vfEnable := true, hif.vfMse := true, hif.numVfs := 1, hif.vfBar2Log := 41
    stk.stackFailed := 2
    l2.dir := [(straySlabLine, { state := .h, sharers := 0, rsw := false, busy := none, slice := 0, way := 0, data := [], poison := 0, used := 0 })] }

/-- The check of the first line's home corrects a granule. -/
def oneCorrected : L2Check := { corrected := 1, bad := 0, dir := false }

theorem strayWindow_reached : strayWindow.hostReaches 1 0 144 (straySlab * 2 ^ 31) := by
  refine ⟨⟨?_, ?_⟩, ?_, ?_, ?_, ?_⟩ <;> decide

set_option maxRecDepth 20000 in
theorem strayWindow_goes : strayWindow.hostGoes (hostReadBar2 1 0 144 oneCorrected) := by decide

/-- The second line, which no home holds, is not poisoned before the read. -/
theorem strayWindow_sound : strayWindow.pocPoison (straySlab * 2 ^ 31) 144 = false := by decide

set_option maxRecDepth 20000 in
/-- The correction that the read counts moves the row's bytes to the failed stack: the completion is poisoned. -/
theorem strayWindow_poisons : (hostReadBar2 1 0 144 oneCorrected strayWindow).hif.cpl.map (fun c => c.status) = some 2 := by decide

/-- Refutes O32: the correction that a read counts at its first line changes the mode of the row, and the second line reads from a failed stack. -/
theorem not_hostWindows : ¬ Obligations.HostWindows := by
  unfold Obligations.HostWindows
  rintro ⟨-, -, hread, -⟩
  obtain ⟨hsound, -⟩ := hread strayWindow 1 0 144 (straySlab * 2 ^ 31) oneCorrected strayWindow_reached strayWindow_goes (by decide)
  obtain ⟨t, ht, hcpl, -⟩ := hsound strayWindow_sound
  have htl : t = hostReadBar2 1 0 144 oneCorrected strayWindow := by
    refine (Host.Outcome.next.inj ht).symm.trans (State.hostReq_of_goes ?_ strayWindow_goes)
    decide
  have hmap := congrArg (Option.map fun c : Completion => c.status) (htl ▸ hcpl)
  exact absurd (strayWindow_poisons.symm.trans hmap) (by decide)

end Sys2Proof.Machine
end

section
/-! What the commands of a queue leave as it was outside the queue. -/

namespace Sys2Proof.Machine

@[simp] theorem State.traceFe_mgt (s : State) (kind queue layer operator aux detail : Nat) : (s.traceFe kind queue layer operator aux detail).mgt = s.mgt :=
  by simp [State.traceFe]
@[simp] theorem State.emitRec_hif (s : State) (source : Nat) (r : TrcRec) : (s.emitRec source r).hif = s.hif := by simp [State.emitRec, ite_hif]
@[simp] theorem State.trace_hif (s : State) (srcBit kind domain unit queue layer operator aux detail : Nat) : (s.trace srcBit kind domain unit queue layer operator aux detail).hif = s.hif :=
  by simp [State.trace]
@[simp] theorem State.traceFe_hif (s : State) (kind queue layer operator aux detail : Nat) : (s.traceFe kind queue layer operator aux detail).hif = s.hif :=
  by simp [State.traceFe]
@[simp] theorem State.sigError_mem (s : State) (q : Nat) : (s.sigError q).mem = s.mem := by simp [State.sigError]
@[simp] theorem State.sigError_cores (s : State) (q : Nat) : (s.sigError q).cores = s.cores := by simp [State.sigError]
@[simp] theorem State.sigError_l2 (s : State) (q : Nat) : (s.sigError q).l2 = s.l2 := by simp [State.sigError]
@[simp] theorem State.sigError_mgt (s : State) (q : Nat) : (s.sigError q).mgt = s.mgt := by simp [State.sigError]
@[simp] theorem foldl_hif_parts {α : Type} {g : State → α → State} (l : List α) (s : State) (hg : ∀ u a, (g u a).hif.parts = u.hif.parts) : (l.foldl g s).hif.parts = s.hif.parts :=
  foldl_keeps (fun s => s.hif.parts) hg l s
theorem ite_hif_parts (c : Prop) [Decidable c] (s t : State) : (if c then s else t).hif.parts = if c then s.hif.parts else t.hif.parts :=
  apply_ite (fun s : State => s.hif.parts) _ _ _
@[simp] theorem State.modVec_hif_parts (s : State) (f v : Nat) (g : Vector → Vector) : (s.modVec f v g).hif.parts = s.hif.parts := rfl
@[simp] theorem State.signal_hif_parts (s : State) (f v : Nat) : (s.signal f v).hif.parts = s.hif.parts := by simp [State.signal, ite_hif_parts]
@[simp] theorem State.sigError_hif_parts (s : State) (q : Nat) : (s.sigError q).hif.parts = s.hif.parts := by simp [State.sigError]
@[simp] theorem State.sigDone_mem (s : State) (q : Nat) : (s.sigDone q).mem = s.mem := by simp [State.sigDone]
@[simp] theorem State.sigDone_cores (s : State) (q : Nat) : (s.sigDone q).cores = s.cores := by simp [State.sigDone]
@[simp] theorem State.sigDone_l2 (s : State) (q : Nat) : (s.sigDone q).l2 = s.l2 := by simp [State.sigDone]
@[simp] theorem State.sigDone_mgt (s : State) (q : Nat) : (s.sigDone q).mgt = s.mgt := by simp [State.sigDone]
@[simp] theorem State.logReset_mem (s : State) (type code : Nat) : (s.logReset type code).mem = s.mem := by simp [State.logReset]
@[simp] theorem State.logReset_cores (s : State) (type code : Nat) : (s.logReset type code).cores = s.cores := by simp [State.logReset]
@[simp] theorem State.logInternal_l2 (s : State) (type : Nat) (old new : List Byte) : (s.logInternal type old new).l2 = s.l2 := by simp [State.logInternal]
@[simp] theorem State.logReset_l2 (s : State) (type code : Nat) : (s.logReset type code).l2 = s.l2 := by simp [State.logReset]
@[simp] theorem State.logInternal_fe (s : State) (type : Nat) (old new : List Byte) : (s.logInternal type old new).fe = s.fe := by simp [State.logInternal]
@[simp] theorem State.logReset_fe (s : State) (type code : Nat) : (s.logReset type code).fe = s.fe := by simp [State.logReset]
@[simp] theorem State.clearCntQ_mem (s : State) (q : Nat) : (s.clearCntQ q).mem = s.mem := rfl
@[simp] theorem State.clearCntQ_cores (s : State) (q : Nat) : (s.clearCntQ q).cores = s.cores := rfl
@[simp] theorem State.clearCntQ_l2 (s : State) (q : Nat) : (s.clearCntQ q).l2 = s.l2 := rfl
@[simp] theorem State.clearCntQ_fe (s : State) (q : Nat) : (s.clearCntQ q).fe = s.fe := rfl
@[simp] theorem State.preemptRunning_mem (s : State) (q : Nat) (slice : Bool) : (s.preemptRunning q slice).mem = s.mem := by simp [State.preemptRunning, ite_mem]
@[simp] theorem State.preemptRunning_cores (s : State) (q : Nat) (slice : Bool) : (s.preemptRunning q slice).cores = s.cores := by simp [State.preemptRunning, ite_cores]
@[simp] theorem State.preemptRunning_mgt (s : State) (q : Nat) (slice : Bool) : (s.preemptRunning q slice).mgt = s.mgt := by simp [State.preemptRunning, ite_mgt]
@[simp] theorem State.preemptRunning_hif_parts (s : State) (q : Nat) (slice : Bool) : (s.preemptRunning q slice).hif.parts = s.hif.parts :=
  by simp [State.preemptRunning, ite_hif_parts]
@[simp] theorem State.preemptRunning_l2 (s : State) (q : Nat) (slice : Bool) : (s.preemptRunning q slice).l2 = s.l2 := by simp [State.preemptRunning, ite_l2]
@[simp] theorem State.restartTimer_mem (s : State) (q : Nat) : (s.restartTimer q).mem = s.mem := rfl
@[simp] theorem State.restartTimer_cores (s : State) (q : Nat) : (s.restartTimer q).cores = s.cores := rfl
@[simp] theorem State.restartTimer_l2 (s : State) (q : Nat) : (s.restartTimer q).l2 = s.l2 := rfl
@[simp] theorem State.runOrIdle_mem (s : State) (q : Nat) : (s.runOrIdle q).mem = s.mem := rfl
@[simp] theorem State.runOrIdle_cores (s : State) (q : Nat) : (s.runOrIdle q).cores = s.cores := rfl
@[simp] theorem State.runOrIdle_l2 (s : State) (q : Nat) : (s.runOrIdle q).l2 = s.l2 := rfl

end Sys2Proof.Machine
end

section
/-! Doorbells, the controls of a queue, kills and turns (R264 to R266, R285, R286, R289 to R291, R333). -/

namespace Sys2Proof.Machine

/-- A step that changes one queue, and neither memory nor cores nor homes. -/
theorem queue_changed {s t : State} {q : Nat} (g : Queue → Queue) (hfe : t.fe = (s.modQ q g).fe) (hmem : t.mem = s.mem) (hcores : t.cores = s.cores)
    (hl2 : t.l2 = s.l2) : t.q q = g (s.q q) ∧ QueueOnly s t q := by
  refine ⟨?_, fun i hi => ?_, hmem, hcores, hl2⟩
  · rw [State.q_congr hfe, State.modQ_q_self]
  · rw [State.q_congr hfe, State.modQ_q_ne _ _ _ hi]

theorem State.modQ_modQ (s : State) (q : Nat) (f g : Queue → Queue) : ((s.modQ q f).modQ q g).fe.queues = (s.modQ q f).fe.queues.modify q Queue.initial g := rfl

theorem QueueOnly.trans {s t u : State} {q : Nat} (h : QueueOnly s t q) (k : QueueOnly t u q) : QueueOnly s u q :=
  ⟨fun i hi => (k.1 i hi).trans (h.1 i hi), k.2.1.trans h.2.1, k.2.2.1.trans h.2.2.1, k.2.2.2.trans h.2.2.2⟩

theorem State.modQ_only (s : State) (q : Nat) (g : Queue → Queue) : (s.modQ q g).q q = g (s.q q) ∧ QueueOnly s (s.modQ q g) q :=
  queue_changed g rfl rfl rfl rfl

theorem State.restartTimer_only (s : State) (q : Nat) : (s.restartTimer q).q q =
    { s.q q with timerOn := true, timerAt := s.time.mono, timerLimit := s.qnum E.queueTimeout q } ∧ QueueOnly s (s.restartTimer q) q :=
  queue_changed (fun x => { x with timerOn := true, timerAt := s.time.mono, timerLimit := s.qnum E.queueTimeout q }) rfl rfl rfl rfl

theorem State.badCtrl_only (s : State) (q : Nat) : (s.badCtrl q).q q = { s.q q with badCtrl := true } ∧ QueueOnly s (s.badCtrl q) q :=
  queue_changed (fun x => { x with badCtrl := true }) (by simp [State.badCtrl]) (by simp [State.badCtrl]) (by simp [State.badCtrl]) (by simp [State.badCtrl])

/-! Doorbells. -/

/-- A queue whose doorbell has moved its write pointer. -/
def State.rung (s : State) (q v : Nat) : State :=
  let s1 := s.modQ q (fun x => { x with write := v })
  match (s.q q).state with
  | .idle => (s1.modQ q (fun x => { x with state := .running })).restartTimer q
  | .preempted => if (s.q q).holdsWork then s1 else s1.restartTimer q
  | _ => s1

section
variable {s : State} {fn q v base n : Nat} (hfn : fnOfQueue q = fn) (hr : s.ringOf q = some (base, n)) (hv : v < 2 ^ 32)
include hfn hr hv

theorem doorbellWrite_rejects (h : (s.fn fn).gate ≠ .opened ∨ (s.q q).state.takesDoorbell = false ∨ (s.q q).doorbellOk n v = false) :
    doorbellWrite fn q v s = (s.modQ q (fun x => { x with badDoorbell := true })).sigError q := by
  unfold doorbellWrite
  simp only [hr, Nat.mod_eq_of_lt hv]
  rw [if_neg (not_not.mpr hfn), if_pos]
  rcases h with h | h | h <;> simp [h]

theorem doorbellWrite_takes (hg : (s.fn fn).gate = .opened) (ht : (s.q q).state.takesDoorbell = true) (hok : (s.q q).doorbellOk n v = true) :
    doorbellWrite fn q v s = if v = (s.q q).write then s else s.rung q v := by
  unfold doorbellWrite
  simp only [hr, Nat.mod_eq_of_lt hv]
  rw [if_neg (not_not.mpr hfn), if_neg (by simp [hg, ht, hok])]
  rfl

/-- A doorbell that moves the write pointer. -/
theorem doorbellWrite_moves (hg : (s.fn fn).gate = .opened) (ht : (s.q q).state.takesDoorbell = true) (hok : (s.q q).doorbellOk n v = true)
    (hne : v ≠ (s.q q).write) :
    ((doorbellWrite fn q v s).q q).write = v ∧ ((doorbellWrite fn q v s).q q).read = (s.q q).read ∧ QueueOnly s (doorbellWrite fn q v s) q ∧
      ((s.q q).state = .idle → ((doorbellWrite fn q v s).q q).state = .running ∧ ((doorbellWrite fn q v s).q q).timerOn = true ∧
        ((doorbellWrite fn q v s).q q).timerAt = s.time.mono ∧ ((doorbellWrite fn q v s).q q).timerLimit = s.num (E.queueTimeout + q % 16) fn) ∧
      ((s.q q).state ≠ .idle → ((doorbellWrite fn q v s).q q).state = (s.q q).state) := by
  obtain ⟨hq1, ho1⟩ := s.modQ_only q fun x => { x with write := v }
  obtain ⟨hq2, ho2⟩ := (s.modQ q fun x => { x with write := v }).restartTimer_only q
  rw [doorbellWrite_takes hfn hr hv hg ht hok, if_neg hne]
  unfold State.rung
  dsimp only
  split
  · rename_i hst
    obtain ⟨hq3, ho3⟩ := (s.modQ q fun x => { x with write := v }).modQ_only q fun x => { x with state := .running }
    obtain ⟨hq4, ho4⟩ := ((s.modQ q fun x => { x with write := v }).modQ q fun x => { x with state := .running }).restartTimer_only q
    rw [hq4, hq3, hq1]
    exact ⟨rfl, rfl, ho1.trans (ho3.trans ho4), fun _ => ⟨rfl, rfl, rfl, hfn ▸ rfl⟩, fun h => absurd hst h⟩
  · rename_i hst
    have hi : (s.q q).state ≠ .idle := by rw [hst]; decide
    split
    · rw [hq1]
      exact ⟨rfl, rfl, ho1, fun h => absurd h hi, fun _ => rfl⟩
    · rw [hq2, hq1]
      exact ⟨rfl, rfl, ho1.trans ho2, fun h => absurd h hi, fun _ => rfl⟩
  · rename_i hi _
    rw [hq1]
    exact ⟨rfl, rfl, ho1, fun h => absurd h hi, fun _ => rfl⟩

end

theorem doorbells (s : State) (fn q v base n : Nat) (hfn : fnOfQueue q = fn) (hr : s.ringOf q = some (base, n)) (hv : v < 2 ^ 32)
    (hheld : s.heldOf fn = []) :
    ((s.fn fn).gate = .opened → (s.q q).state.takesDoorbell = true → (v + 2 ^ 32 - (s.q q).write) % 2 ^ 32 ≠ 0 → v ≠ (s.q q).write →
      (v + 2 ^ 32 - (s.q q).write) % 2 ^ 32 ≤ n → (v + 2 ^ 32 - (s.q q).read) % 2 ^ 32 ≤ n →
      ∃ t, exec (.doorbellWrite fn q v) s = .next t ∧ (t.q q).write = v ∧ (t.q q).read = (s.q q).read ∧ QueueOnly s t q ∧
        ((s.q q).state = .idle → (t.q q).state = .running ∧ (t.q q).timerOn = true ∧ (t.q q).timerAt = s.time.mono ∧
          (t.q q).timerLimit = s.num (E.queueTimeout + q % 16) fn) ∧
        ((s.q q).state ≠ .idle → (t.q q).state = (s.q q).state)) ∧
    ((s.fn fn).gate = .opened → (s.q q).state.takesDoorbell = true → v = (s.q q).write → exec (.doorbellWrite fn q v) s = .next s) ∧
    ((s.fn fn).gate ≠ .opened ∨ (s.q q).state.takesDoorbell = false ∨ (s.q q).doorbellOk n v = false →
      ∃ t, exec (.doorbellWrite fn q v) s = .next t ∧ t.q q = { s.q q with badDoorbell := true } ∧ QueueOnly s t q) := by
  have hexec : exec (.doorbellWrite fn q v) s = .next (doorbellWrite fn q v s) :=
    congrArg Host.Outcome.next (State.inOrder_of_free hheld)
  refine ⟨fun hg ht _ hne hw hrd => ?_, fun hg ht heq => ?_, fun h => ?_⟩
  · exact ⟨_, hexec, doorbellWrite_moves hfn hr hv hg ht (by simp only [Queue.doorbellOk, decide_eq_true hw, decide_eq_true hrd, Bool.and_self, Bool.or_true]) hne⟩
  · have hok : (s.q q).doorbellOk n v = true := by
      have h0 : (v + 2 ^ 32 - (s.q q).write) % 2 ^ 32 = 0 := by omega
      simp only [Queue.doorbellOk, h0, decide_true, Bool.true_or]
    rw [hexec, doorbellWrite_takes hfn hr hv hg ht hok, if_pos heq]
  · refine ⟨_, hexec, ?_⟩
    rw [doorbellWrite_rejects hfn hr hv h]
    exact queue_changed (fun x => { x with badDoorbell := true }) (by simp) (by simp) (by simp) (by simp)

/-! Enable and disable. -/

theorem fnWrite_bad {s : State} {w : Origin} {f a v st : Nat} (g : State → State) (h : s.fnCheck w f a = 0) (hst : st ≠ 0) :
    s.fnWrite w f a v st g = s.answer st := by
  simp [State.fnWrite, h, hst]

theorem isSome_queueEnable (i : Nat) : (entryInfo (E.queueEnable + i % 16)).isSome :=
  entryInfo_isSome_of_row (b := E.queueEnable) (n := 16) (by decide) (Nat.le_add_right _ _) (by omega)

/-- A queue that is enabled starts empty. -/
def Queue.enabled (x : Queue) : Queue :=
  { x with
    state := .idle, write := 0, read := 0, fetch := 0, killCode := 0, suppressed := 0, faultValid := false, faultNode := 0
    faultDepth := 0, faultRing := 0, tagOperator := 0, tagLayer := 0 }

theorem dictNum_modQ_only (s : State) (w : Origin) (a f v q : Nat) (g : Queue → Queue) :
    ((s.dictNum w a f v).modQ q g).q q = g (s.q q) ∧ QueueOnly s ((s.dictNum w a f v).modQ q g) q :=
  queue_changed g (by simp only [State.modQ, State.dictNum_fe]) (by simp) (by simp) (by simp)

theorem queue_enables (s : State) (who : Origin) (q : Nat) (hc : s.fnCheck who (fnOfQueue q) (E.queueEnable + q % 16) = 0) :
    ((s.q q).state = .disabled → (s.ringOf q).isSome = true → s.sup.chipFailed = false →
      ∃ t, exec (.queueEnable who q) s = .next t ∧ (t.q q).state = .idle ∧ (t.q q).write = 0 ∧ (t.q q).read = 0 ∧ (t.q q).killCode = 0 ∧
        (t.q q).suppressed = 0 ∧ (t.q q).faultValid = false ∧ (t.q q).tagLayer = 0 ∧ (t.q q).tagOperator = 0 ∧ QueueOnly s t q ∧
        t.num (E.queueEnable + q % 16) (fnOfQueue q) = 1) ∧
    ((s.q q).state ≠ .disabled ∨ s.ringOf q = none → exec (.queueEnable who q) s = .next (s.answer 5)) ∧
    ((s.q q).state = .idle ∨ (s.q q).state = .killed →
      ∃ t, exec (.queueDisable who q) s = .next t ∧ t.q q = { s.q q with state := .disabled } ∧ QueueOnly s t q) ∧
    ((s.q q).state ≠ .idle → (s.q q).state ≠ .killed → exec (.queueDisable who q) s = .next (s.answer 5)) := by
  refine ⟨fun hd hr hf => ?_, fun h => ?_, fun h => ?_, fun h1 h2 => ?_⟩
  · have heq : queueEnable who q s = (s.dictNum who (E.queueEnable + q % 16) (fnOfQueue q) 1).modQ q Queue.enabled := by
      unfold queueEnable
      dsimp only
      rw [hd, hr, hf]
      exact State.fnWrite_ok _ _ _ _ _ _ hc
    obtain ⟨hq, ho⟩ := dictNum_modQ_only s who (E.queueEnable + q % 16) (fnOfQueue q) 1 q Queue.enabled
    exact ⟨_, congrArg Host.Outcome.next heq, congrArg Queue.state hq, congrArg Queue.write hq, congrArg Queue.read hq, congrArg Queue.killCode hq,
      congrArg Queue.suppressed hq, congrArg Queue.faultValid hq, congrArg Queue.tagLayer hq, congrArg Queue.tagOperator hq, ho,
      State.dictNum_num_self _ _ _ _ _ (isSome_queueEnable q)⟩
  · refine congrArg Host.Outcome.next ?_
    have hok : (decide ((s.q q).state = .disabled) && (s.ringOf q).isSome && !s.sup.chipFailed) = false := by rcases h with h | h <;> simp [h]
    unfold queueEnable
    dsimp only
    rw [hok]
    exact fnWrite_bad _ hc (by decide)
  · have heq : queueDisable who q s = (s.dictNum who (E.queueEnable + q % 16) (fnOfQueue q) 0).modQ q fun x => { x with state := .disabled } := by
      unfold queueDisable
      dsimp only
      rw [decide_eq_true h]
      exact State.fnWrite_ok _ _ _ _ _ _ hc
    exact ⟨_, congrArg Host.Outcome.next heq, dictNum_modQ_only s who _ _ _ q _⟩
  · refine congrArg Host.Outcome.next ?_
    unfold queueDisable
    dsimp only
    rw [decide_eq_false (by simp [h1, h2])]
    exact fnWrite_bad _ hc (by decide)

/-! Pre-emption and resume. -/

theorem State.vec_congr {s t : State} (h : t.hif = s.hif) (f v : Nat) : t.vec f v = s.vec f v := by simp only [State.vec, h]

theorem State.signal_due (s : State) {f v : Nat} (h : (s.fn f).gate = .opened) : ((s.signal f v).vec f v).due = true := by
  rw [State.signal, if_pos (.inl h), State.vec, State.modVec, SMap.getD_modify_self]

theorem State.sigDone_due (s : State) {q : Nat} (h : (s.fn (fnOfQueue q)).gate = .opened) :
    ((s.sigDone q).vec (fnOfQueue q) (bits (s.num (E.queueVectors + q % 16) (fnOfQueue q)) 5 0)).due = true :=
  State.signal_due s h

/-- An idle queue that is pre-empted has saved nothing. -/
def Queue.preemptedIdle (x : Queue) : Queue :=
  { x with
    state := .preempted, savedBlocks := [], savedPlans := [], savedNone := true, saveUsed := 0, resumePending := false
    slicePreempt := false, timerOn := false }

theorem preempts_idle (s : State) (q : Nat) (h : (s.q q).state = .idle) :
    ∃ t, exec (.queuePreempt q) s = .next t ∧ (t.q q).state = .preempted ∧ (t.q q).savedNone = true ∧ QueueOnly s t q ∧
      ((s.fn (fnOfQueue q)).gate = .opened → (t.vec (fnOfQueue q) (bits (s.num (E.queueVectors + q % 16) (fnOfQueue q)) 5 0)).due = true) := by
  have heq : queuePreempt q s = (((s.modQ q Queue.preemptedIdle).traceFe 0x0B q 0 0 0 0).traceFe 0x0B q 0 0 1 0).sigDone q := by
    unfold queuePreempt
    rw [h]
    rfl
  obtain ⟨hq, ho⟩ := queue_changed (s := s) (q := q) (t := (((s.modQ q Queue.preemptedIdle).traceFe 0x0B q 0 0 0 0).traceFe 0x0B q 0 0 1 0).sigDone q)
    Queue.preemptedIdle (by simp) (by simp) (by simp) (by simp)
  refine ⟨_, congrArg Host.Outcome.next heq, congrArg Queue.state hq, congrArg Queue.savedNone hq, ho, fun hg => ?_⟩
  have hdue := State.sigDone_due (((s.modQ q Queue.preemptedIdle).traceFe 0x0B q 0 0 0 0).traceFe 0x0B q 0 0 1 0) (q := q)
    (by simpa [State.fn] using hg)
  rwa [State.num_of_mgt_num (s := s) (by simp)] at hdue

theorem State.preemptRunning_refused {s : State} {q : Nat} (b : Bool) (h : s.num (E.queueSaveBytes + q % 16) (fnOfQueue q) < s.saveNeed q) :
    (s.preemptRunning q b).q q = { s.q q with preemptRefused := true, saveNeed := s.saveNeed q % 2 ^ 64 } ∧ QueueOnly s (s.preemptRunning q b) q := by
  have heq : s.preemptRunning q b = (s.modQ q (fun x => { x with preemptRefused := true, saveNeed := s.saveNeed q % 2 ^ 64 })).sigError q := if_pos h
  rw [heq]
  exact queue_changed (fun x => { x with preemptRefused := true, saveNeed := s.saveNeed q % 2 ^ 64 }) (by simp) (by simp) (by simp) (by simp)

theorem State.preemptRunning_starts {s : State} {q : Nat} (b : Bool) (h : s.saveNeed q ≤ s.num (E.queueSaveBytes + q % 16) (fnOfQueue q)) :
    (s.preemptRunning q b).q q =
      { s.q q with state := .preempting, savedNone := false, saveUsed := s.stillSaved q, resumePending := false, slicePreempt := b } ∧
      QueueOnly s (s.preemptRunning q b) q := by
  have heq : s.preemptRunning q b = (s.modQ q (fun x => { x with
      state := .preempting, savedNone := false, saveUsed := s.stillSaved q, resumePending := false, slicePreempt := b })).traceFe 0x0B q 0 0 0 0 :=
    if_neg (Nat.not_lt.mpr h)
  rw [heq]
  exact queue_changed (fun x => { x with
    state := .preempting, savedNone := false, saveUsed := s.stillSaved q, resumePending := false, slicePreempt := b }) (by simp) (by simp) (by simp) (by simp)

theorem preempts (s : State) (q : Nat) :
    ((s.q q).state = .idle → ∃ t, exec (.queuePreempt q) s = .next t ∧ (t.q q).state = .preempted ∧ (t.q q).savedNone = true ∧ QueueOnly s t q ∧
      ((s.fn (fnOfQueue q)).gate = .opened → (t.vec (fnOfQueue q) (bits (s.num (E.queueVectors + q % 16) (fnOfQueue q)) 5 0)).due = true)) ∧
    ((s.q q).state = .running → s.num (E.queueSaveBytes + q % 16) (fnOfQueue q) < s.saveNeed q →
      ∃ t, exec (.queuePreempt q) s = .next t ∧ (t.q q).state = .running ∧ (t.q q).preemptRefused = true ∧
        (t.q q).saveNeed = s.saveNeed q % 2 ^ 64 ∧ QueueOnly s t q) ∧
    ((s.q q).state = .running → s.saveNeed q ≤ s.num (E.queueSaveBytes + q % 16) (fnOfQueue q) →
      ∃ t, exec (.queuePreempt q) s = .next t ∧ (t.q q).state = .preempting ∧ (t.q q).read = (s.q q).read ∧ QueueOnly s t q) ∧
    ((s.q q).state ≠ .idle → (s.q q).state ≠ .running →
      ∃ t, exec (.queuePreempt q) s = .next t ∧ t.q q = { s.q q with badCtrl := true } ∧ QueueOnly s t q) := by
  have hrun (h : (s.q q).state = .running) : queuePreempt q s = s.preemptRunning q false := by
    unfold queuePreempt
    rw [h]
  refine ⟨preempts_idle s q, fun h hn => ?_, fun h hn => ?_, fun h1 h2 => ?_⟩
  · obtain ⟨hq, ho⟩ := State.preemptRunning_refused false hn
    exact ⟨_, congrArg Host.Outcome.next (hrun h), (congrArg Queue.state hq).trans h, congrArg Queue.preemptRefused hq, congrArg Queue.saveNeed hq, ho⟩
  · obtain ⟨hq, ho⟩ := State.preemptRunning_starts false hn
    exact ⟨_, congrArg Host.Outcome.next (hrun h), congrArg Queue.state hq, (congrArg Queue.read hq :), ho⟩
  · have heq : queuePreempt q s = s.badCtrl q := by
      unfold queuePreempt
      split <;> simp_all
    exact ⟨_, congrArg Host.Outcome.next heq, s.badCtrl_only q⟩

theorem State.saveWrite_of_ok {s : State} {q va : Nat} {data : List Byte} (h : (s.writeV (fnOfQueue q) va data).1 = 0) :
    s.saveWrite q va data = (s.writeV (fnOfQueue q) va data).2 := if_neg (by simp [h])

theorem State.writeVirt_keeps {β : Type} (π : State → β) (ha : ∀ (s : State) a l, π (s.agentWrite a l) = π s)
    (hh : ∀ (s : State) a l, π (s.hostWrite a l) = π s) (s : State) (f k va : Nat) (data : List Byte) : π (s.writeVirt f k va data).2 = π s := by
  fun_induction State.writeVirt s f k va data with
  | case1 | case2 | case3 | case4 => rfl
  | case5 _ _ _ _ _ _ _ _ s1 ht _ ih =>
    rw [if_neg ht, ih]
    unfold s1
    split
    · exact ha _ _ _
    · split
      · exact hh _ _ _
      · rfl

theorem State.hostWrite_keeps {β : Type} (π : State → β) (h : ∀ (s : State) m, π { s with hif.hostMem := m } = π s) (s : State) (a : Nat) (l : List Byte) :
    π (s.hostWrite a l) = π s := by
  fun_induction State.hostWrite s a l with
  | case1 => rfl
  | case2 s a b t ih => rw [ih, h]

theorem State.writeV_rest (s : State) (f va : Nat) (data : List Byte) :
    (s.writeV f va data).2.fe = s.fe ∧ (s.writeV f va data).2.mgt = s.mgt ∧ (s.writeV f va data).2.hif.fns = s.hif.fns :=
  ⟨State.writeVirt_keeps State.fe (fun _ _ _ => by simp) (fun s a l => State.hostWrite_keeps State.fe (fun _ _ => rfl) s a l) _ _ _ _ _,
    State.writeVirt_keeps State.mgt (fun _ _ _ => by simp) (fun s a l => State.hostWrite_keeps State.mgt (fun _ _ => rfl) s a l) _ _ _ _ _,
    State.writeVirt_keeps (fun s => s.hif.fns) (fun _ _ _ => by simp)
      (fun s a l => State.hostWrite_keeps (fun s => s.hif.fns) (fun _ _ => rfl) s a l) _ _ _ _ _⟩

/-- A queue whose pre-emption has settled, its header written. -/
def State.preemptDone (s : State) (q : Nat) : State :=
  ((s.modQ q (fun x => { x with state := .preempted, resumePending := false })).traceFe 0x0B q 0 0 1 0).sigDone q

theorem queuePreempted_done {s : State} {q : Nat} (hp : (s.q q).state = .preempting) (hs : s.preemptSettled q = true) (hn : s.plansOfQueue q = [])
    (hr : (s.q q).resumePending = false)
    (hw : (s.writeV (fnOfQueue q) (s.num (E.queueSaveBase + q % 16) (fnOfQueue q)) (s.q q).saveHeader).1 = 0) :
    queuePreempted q s = (s.writeV (fnOfQueue q) (s.num (E.queueSaveBase + q % 16) (fnOfQueue q)) (s.q q).saveHeader).2.preemptDone q := by
  have hq := State.q_congr (s.writeV_rest (fnOfQueue q) (s.num (E.queueSaveBase + q % 16) (fnOfQueue q)) (s.q q).saveHeader).1 q
  have hsave := State.saveWrite_of_ok hw
  unfold queuePreempted
  rw [if_pos (by simp [hp, hs])]
  simp only [hn, List.any_nil, List.foldl_nil, Bool.false_eq_true, if_false, State.qnum, hsave, hq, hp, hr, ne_eq, not_true_eq_false]
  rfl

theorem preemption_settles (s : State) (q : Nat) (hp : (s.q q).state = .preempting) (hs : s.preemptSettled q = true) (hn : s.plansOfQueue q = [])
    (hr : (s.q q).resumePending = false) (hgo : s.unitGoes 9 q (queuePreempted q))
    (hw : (s.writeV (fnOfQueue q) (s.num (E.queueSaveBase + q % 16) (fnOfQueue q)) (s.q q).saveHeader).1 = 0) :
    ∃ t, exec (.queuePreempted q) s = .next t ∧ (t.q q).state = .preempted ∧
      t.cores = (s.writeV (fnOfQueue q) (s.num (E.queueSaveBase + q % 16) (fnOfQueue q)) (s.q q).saveHeader).2.cores ∧
      t.mem = (s.writeV (fnOfQueue q) (s.num (E.queueSaveBase + q % 16) (fnOfQueue q)) (s.q q).saveHeader).2.mem ∧
      ((s.fn (fnOfQueue q)).gate = .opened → (t.vec (fnOfQueue q) (bits (s.num (E.queueVectors + q % 16) (fnOfQueue q)) 5 0)).due = true) := by
  obtain ⟨-, hmgt, hfns⟩ := s.writeV_rest (fnOfQueue q) (s.num (E.queueSaveBase + q % 16) (fnOfQueue q)) (s.q q).saveHeader
  have hdone := queuePreempted_done hp hs hn hr hw
  generalize (s.writeV (fnOfQueue q) (s.num (E.queueSaveBase + q % 16) (fnOfQueue q)) (s.q q).saveHeader).2 = u at hmgt hfns hdone ⊢
  obtain ⟨hq, -, hmem, hcores, -⟩ := queue_changed (s := u) (q := q) (t := u.preemptDone q) (fun x => { x with state := .preempted, resumePending := false })
    (by simp [State.preemptDone]) (by simp [State.preemptDone]) (by simp [State.preemptDone]) (by simp [State.preemptDone])
  refine ⟨(u.preemptDone q).unitDone 9 q, congrArg Host.Outcome.next ((State.unit_of_goes hgo).trans (by rw [hdone])), ?_, ?_, ?_, fun hg => ?_⟩
  · rw [State.q_congr (State.unitDone_fe _ _ _), hq]
  · rw [State.unitDone_cores, hcores]
  · rw [State.unitDone_mem, hmem]
  · have hgate : (((u.modQ q (fun x => { x with state := .preempted, resumePending := false })).traceFe 0x0B q 0 0 1 0).fn (fnOfQueue q)).gate = .opened := by
      simpa [State.fn, hfns] using hg
    have hdue := State.sigDone_due ((u.modQ q (fun x => { x with state := .preempted, resumePending := false })).traceFe 0x0B q 0 0 1 0) hgate
    rw [State.num_of_mgt_num (s := s) (by simp [hmgt])] at hdue
    rwa [State.vec_congr (State.unitDone_hif (u.preemptDone q) 9 q), State.preemptDone]

theorem resumes (s : State) (q : Nat) :
    ((s.q q).state = .preempting →
      ∃ t, exec (.queueResume q) s = .next t ∧ t.q q = { s.q q with resumePending := true } ∧ QueueOnly s t q) ∧
    ((s.q q).state = .preempted → (s.q q).resumePending = false → (s.q q).savedNone = true →
      ∃ t, exec (.queueResume q) s = .next t ∧ (t.q q).state = (if s.queueRemains q then .running else .idle) ∧ QueueOnly s t q) ∧
    ((s.q q).state ≠ .preempting → (s.q q).state ≠ .preempted →
      ∃ t, exec (.queueResume q) s = .next t ∧ t.q q = { s.q q with badCtrl := true } ∧ QueueOnly s t q) := by
  refine ⟨fun h => ?_, fun h hr hn => ?_, fun h1 h2 => ?_⟩
  · have heq : queueResume q s = s.modQ q (fun x => { x with resumePending := true }) := by
      unfold queueResume
      rw [h]
    exact ⟨_, congrArg Host.Outcome.next heq, s.modQ_only q _⟩
  · have heq : queueResume q s = (s.traceFe 0x0B q 0 0 2 0).runOrIdle q := by
      unfold queueResume
      rw [h]
      simp only [hr, State.doResume, hn, if_true, Bool.false_eq_true, if_false]
    have hremains : (s.traceFe 0x0B q 0 0 2 0).queueRemains q = s.queueRemains q := by
      rw [State.queueRemains, State.queueRemains, State.q_congr (State.traceFe_fe _ _ _ _ _ _ _), State.traceFe_fe]
    obtain ⟨hq, ho⟩ := queue_changed (s := s) (q := q) (t := (s.traceFe 0x0B q 0 0 2 0).runOrIdle q) (fun x => { x with
        state := if s.queueRemains q then .running else .idle, resumePending := false, slicePreempt := false
        timerOn := if s.queueRemains q then x.timerOn else false })
      (by simp only [State.runOrIdle, hremains, State.modQ, State.traceFe_fe]) (by simp) (by simp) (by simp)
    exact ⟨_, congrArg Host.Outcome.next heq, congrArg Queue.state hq, ho⟩
  · have heq : queueResume q s = s.badCtrl q := by
      unfold queueResume
      split <;> simp_all
    exact ⟨_, congrArg Host.Outcome.next heq, s.badCtrl_only q⟩

theorem resets (s : State) (q : Nat) :
    ((s.q q).state = .idle ∨ (s.q q).state = .killed → ∃ t, exec (.queueReset q) s = .next t ∧ (t.q q).state = .idle ∧ (t.q q).write = 0 ∧
      (t.q q).read = 0 ∧ (t.q q).killCode = 0 ∧ (t.q q).faultValid = false ∧ QueueOnly s t q) ∧
    ((s.q q).state ≠ .idle → (s.q q).state ≠ .killed →
      ∃ t, exec (.queueReset q) s = .next t ∧ t.q q = { s.q q with badCtrl := true } ∧ QueueOnly s t q) := by
  refine ⟨fun h => ?_, fun h1 h2 => ?_⟩
  · obtain ⟨hq, ho⟩ := queue_changed (s := s) (q := q) (t := ((s.modQ q (fun _ => { Queue.initial with state := .idle })).clearCntQ q).logReset 6 0)
      (fun _ => { Queue.initial with state := .idle }) (by simp) (by simp) (by simp) (by simp)
    exact ⟨_, congrArg Host.Outcome.next (if_pos h), congrArg Queue.state hq, congrArg Queue.write hq, congrArg Queue.read hq, congrArg Queue.killCode hq,
      congrArg Queue.faultValid hq, ho⟩
  · exact ⟨_, congrArg Host.Outcome.next (if_neg (by simp [h1, h2])), s.badCtrl_only q⟩

/-! Kills. -/

/-- A queue whose context is killed. -/
def Queue.killedWith (x : Queue) (code : Nat) (site : Site) : Queue :=
  { x with
    state := .killing, killCode := code, faultValid := true, faultNode := site.node % 2 ^ 16
    faultDepth := site.depth % 16, faultRing := site.ring, tagOperator := site.operator, tagLayer := site.layer
    killWrite := x.write, killInFlight := false, settled := false, timerOn := false
    resumePending := false }

theorem State.kill_alive {s : State} {q : Nat} (code : Nat) (site : Site) (h : (s.q q).state.alive = true) :
    (s.kill q code site).q q = (s.q q).killedWith code site ∧ QueueOnly s (s.kill q code site) q := by
  refine queue_changed (t := s.kill q code site) (fun x => { x.killedWith code site with killWrite := (s.q q).write }) ?_ (by simp) (by simp) (by simp)
  rw [State.kill]
  dsimp only
  rw [if_pos h, State.traceFe_fe, State.stopShares_fe, State.countKill_fe]
  rfl

theorem context_killed (s : State) (q code : Nat) :
    ((s.q q).state.alive = true → ∃ t, exec (.contextKill q code) s = .next t ∧ (t.q q).state = .killing ∧ (t.q q).killCode = code ∧
      (t.q q).faultValid = true ∧ (t.q q).killWrite = (s.q q).write ∧ (t.q q).write = (s.q q).write ∧ (t.q q).read = (s.q q).read ∧ QueueOnly s t q) ∧
    ((s.q q).state = .killing → ∃ t, exec (.contextKill q code) s = .next t ∧
      t.q q = { s.q q with suppressed := min 255 ((s.q q).suppressed + 1) } ∧ QueueOnly s t q) ∧
    ((s.q q).state.alive = false → (s.q q).state ≠ .killing → exec (.contextKill q code) s = .next s) := by
  refine ⟨fun h => ?_, fun h => ?_, fun h hk => ?_⟩
  · obtain ⟨hq, ho⟩ := State.kill_alive code (s.oldestSite q) h
    exact ⟨_, rfl, congrArg Queue.state hq, congrArg Queue.killCode hq, congrArg Queue.faultValid hq, (congrArg Queue.killWrite hq :),
      (congrArg Queue.write hq :), (congrArg Queue.read hq :), ho⟩
  · have heq : contextKill q code s = s.modQ q (fun x => { x with suppressed := min 255 (x.suppressed + 1) }) :=
      (if_neg (by rw [h]; decide)).trans (if_pos h)
    exact ⟨_, congrArg Host.Outcome.next heq, s.modQ_only q _⟩
  · exact congrArg Host.Outcome.next ((if_neg (by simp [h])).trans (if_neg hk))

theorem queue_killed (s : State) (q : Nat) :
    ((s.q q).state.alive = true → ∃ t, exec (.queueKill q) s = .next t ∧ Killed t q 0x0F ∧ QueueOnly s t q) ∧
    ((s.q q).state.alive = false → ∃ t, exec (.queueKill q) s = .next t ∧ t.q q = { s.q q with badCtrl := true } ∧ QueueOnly s t q) := by
  refine ⟨fun h => ?_, fun h => ?_⟩
  · obtain ⟨hq, ho⟩ := State.kill_alive 0x0F (s.oldestSite q) h
    exact ⟨_, congrArg Host.Outcome.next (if_pos h), ⟨congrArg Queue.state hq, congrArg Queue.killCode hq⟩, ho⟩
  · exact ⟨_, congrArg Host.Outcome.next (if_neg (by simp [h])), s.badCtrl_only q⟩

theorem alive_of_timerCounts {s : State} {q : Nat} (h : s.timerCounts q = true) : (s.q q).state.alive = true := by
  unfold State.timerCounts at h
  cases hs : (s.q q).state <;> simp [hs, QState.alive] at h ⊢

theorem queue_times_out (s : State) (q : Nat) (hc : s.timerCounts q = true) :
    ((s.q q).timerLimit * 1000 ≤ s.time.mono - (s.q q).timerAt → ∃ t, exec (.queueTimeout q) s = .next t ∧ Killed t q 0x08 ∧ QueueOnly s t q) ∧
    (s.time.mono - (s.q q).timerAt < (s.q q).timerLimit * 1000 → exec (.queueTimeout q) s = .next s) := by
  refine ⟨fun h => ?_, fun h => ?_⟩
  · obtain ⟨hq, ho⟩ := State.kill_alive 0x08 (s.oldestSite q) (alive_of_timerCounts hc)
    exact ⟨_, congrArg Host.Outcome.next (if_pos (by simp [hc, h])), ⟨congrArg Queue.state hq, congrArg Queue.killCode hq⟩, ho⟩
  · exact congrArg Host.Outcome.next (if_neg (by simp [hc]; omega))

/-! Turns. -/

@[simp] theorem foldl_fe_plans {α : Type} {g : State → α → State} (l : List α) (s : State) (hg : ∀ u a, (g u a).fe.plans = u.fe.plans) : (l.foldl g s).fe.plans = s.fe.plans :=
  foldl_keeps (fun s => s.fe.plans) hg l s
theorem ite_fe_plans (c : Prop) [Decidable c] (s t : State) : (if c then s else t).fe.plans = if c then s.fe.plans else t.fe.plans :=
  apply_ite (fun s : State => s.fe.plans) _ _ _
@[simp] theorem State.modQ_fe_plans (s : State) (q : Nat) (g : Queue → Queue) : (s.modQ q g).fe.plans = s.fe.plans := rfl
@[simp] theorem State.preemptRunning_fe_plans (s : State) (q : Nat) (slice : Bool) : (s.preemptRunning q slice).fe.plans = s.fe.plans :=
  by simp [State.preemptRunning, ite_fe_plans]

theorem State.resumeSlice_of_none {s : State} {f : Nat} (h : ∀ q ∈ queuesOfFn f, (s.q q).slicePreempt = false) : s.resumeSlice f = s := by
  have hall (l : List Nat) (hl : ∀ q ∈ l, (s.q q).slicePreempt = false) :
      l.foldl (fun s q => if (s.q q).state = .preempted ∧ (s.q q).slicePreempt ∧ !(s.q q).resumePending then s.doResume q else s) s = s := by
    induction l with
    | nil => rfl
    | cons q l ih =>
      rw [List.foldl_cons, if_neg (by simp [hl q (List.mem_cons_self ..)])]
      exact ih fun p hp => hl p (List.mem_cons_of_mem _ hp)
  exact hall _ h

theorem turn_passes (s : State) (p f : Nat) (hm : s.num (E.partitionShareMode + p) = 1) (hh : (s.part p).holder = some f) (hv : s.turnVoid p f = false)
    (hidle : ∀ q ∈ queuesOfFn f, (s.q q).state ≠ .running ∧ (s.q q).state ≠ .preempting) (he : (s.part p).turnEnding = true) (g : Nat)
    (hn : s.nextTurn p (some f) = some g) (hs : ∀ q ∈ queuesOfFn g, (s.q q).slicePreempt = false) :
    exec (.timeSliceEnd p) s = .next (s.modPart p (fun x => { x with holder := some g, turnAt := s.time.mono, turnEnding := false })) := by
  refine congrArg Host.Outcome.next ?_
  have hquiet : (queuesOfFn f).any (fun q => decide ((s.q q).state = .running ∨ (s.q q).state = .preempting)) = false := by
    rw [List.any_eq_false]
    intro q hq
    simp [hidle q hq]
  unfold timeSliceEnd
  simp only [hm, ne_eq, not_true_eq_false, if_false, hh, hv, Bool.false_eq_true, he, if_true, hquiet]
  unfold State.passTurn
  simp only [hh, hn]
  exact State.resumeSlice_of_none hs

/-- The end of a turn pre-empts a queue that runs. -/
def State.endTurnOf (s : State) (q : Nat) : State := if (s.q q).state = .running then s.preemptRunning q true else s

theorem State.preemptRunning_q_ne (s : State) {q p : Nat} (b : Bool) (h : p ≠ q) : (s.preemptRunning q b).q p = s.q p := by
  by_cases hn : s.num (E.queueSaveBytes + q % 16) (fnOfQueue q) < s.saveNeed q
  · exact (State.preemptRunning_refused b hn).2.1 p h
  · exact (State.preemptRunning_starts b (Nat.not_lt.mp hn)).2.1 p h

theorem State.endTurnOf_keeps (s : State) {q p : Nat} (h : p ≠ q) : (s.endTurnOf q).q p = s.q p ∧ (s.endTurnOf q).cores = s.cores ∧
    (s.endTurnOf q).fe.plans = s.fe.plans ∧ (s.endTurnOf q).mgt = s.mgt := by
  unfold State.endTurnOf
  split
  · exact ⟨s.preemptRunning_q_ne true h, by simp, by simp, by simp⟩
  · exact ⟨rfl, rfl, rfl, rfl⟩

theorem State.saveNeed_congr {s t : State} {q : Nat} (hq : t.q q = s.q q) (hc : t.cores = s.cores) (hp : t.fe.plans = s.fe.plans) :
    t.saveNeed q = s.saveNeed q := by
  have hblocks : t.blocksOfQueue q = s.blocksOfQueue q := by rw [State.blocksOfQueue, hc, State.blocksOfQueue]
  have hplans : t.plansOfQueue q = s.plansOfQueue q := by rw [State.plansOfQueue, hp, State.plansOfQueue]
  have hsaved : t.stillSaved q = s.stillSaved q := by simp only [State.stillSaved, hq, hblocks]
  have hcore : t.core = s.core := funext (State.core_congr hc)
  rw [State.saveNeed, State.saveNeed, hsaved, hblocks, hplans, hcore]

/-- A queue in the list is pre-empted in its own step, and no other step touches it. -/
theorem foldl_endTurnOf {q : Nat} {H : State → Prop} {C : Queue → Prop} (hstep : ∀ s, H s → C ((s.endTurnOf q).q q))
    (hother : ∀ s p, q ≠ p → H s → H (s.endTurnOf p)) {l : List Nat} (hl : l.Nodup) (hq : q ∈ l) {s : State} (h : H s) :
    C ((l.foldl State.endTurnOf s).q q) := by
  induction l generalizing s with
  | nil => simp at hq
  | cons p l ih =>
    obtain ⟨hp, hl⟩ := List.nodup_cons.mp hl
    by_cases hpq : q = p
    · subst hpq
      have hrest (l : List Nat) (hl : q ∉ l) (u : State) : (l.foldl State.endTurnOf u).q q = u.q q := by
        induction l generalizing u with
        | nil => rfl
        | cons p l ih =>
          have hqp : q ≠ p := fun h => hl (h ▸ List.mem_cons_self ..)
          rw [List.foldl_cons, ih (fun h => hl (List.mem_cons_of_mem _ h)), (u.endTurnOf_keeps hqp).1]
      rw [List.foldl_cons, hrest l hp]
      exact hstep s h
    · exact ih hl ((List.mem_cons.mp hq).resolve_left hpq) (hother s p hpq h)

/-- A queue that runs, and whether its save area holds what it needs. -/
def State.turnNeed (q : Nat) (fits : Bool) (s : State) : Prop :=
  (s.q q).state = .running ∧ decide (s.saveNeed q ≤ s.num (E.queueSaveBytes + q % 16) (fnOfQueue q)) = fits

theorem State.turnNeed.other {q : Nat} {fits : Bool} (s : State) (p : Nat) (h : q ≠ p) (hs : s.turnNeed q fits) : (s.endTurnOf p).turnNeed q fits := by
  obtain ⟨hq, hc, hp, hm⟩ := s.endTurnOf_keeps h
  unfold State.turnNeed at hs ⊢
  rwa [hq, State.saveNeed_congr hq hc hp, State.num_of_mgt_num (congrArg Mgt.num hm)]

theorem State.turnNeed.fits {q : Nat} (s : State) (h : s.turnNeed q true) : ((s.endTurnOf q).q q).state = .preempting := by
  rw [State.endTurnOf, if_pos h.1, (State.preemptRunning_starts true (of_decide_eq_true h.2)).1]

theorem State.turnNeed.lacks {q : Nat} (s : State) (h : s.turnNeed q false) :
    ((s.endTurnOf q).q q).state = .running ∧ ((s.endTurnOf q).q q).preemptRefused = true := by
  rw [State.endTurnOf, if_pos h.1, (State.preemptRunning_refused true (Nat.not_le.mp (of_decide_eq_false h.2))).1]
  exact ⟨h.1, rfl⟩

theorem State.endTurnOf_rest (s : State) (q : Nat) : (s.endTurnOf q).hif.parts = s.hif.parts ∧ (s.endTurnOf q).mem = s.mem := by
  unfold State.endTurnOf
  split <;> simp

theorem turn_ends (s : State) (p f : Nat) (hm : s.num (E.partitionShareMode + p) = 1) (hh : (s.part p).holder = some f) (hv : s.turnVoid p f = false)
    (he : (s.part p).turnEnding = false) :
    (s.turnNs p f ≤ s.time.mono - (s.part p).turnAt →
      ∃ t, exec (.timeSliceEnd p) s = .next t ∧ (t.part p).turnEnding = true ∧ (t.part p).holder = some f ∧
        (∀ q ∈ queuesOfFn f, (s.q q).state = .running → s.saveNeed q ≤ s.num (E.queueSaveBytes + q % 16) (fnOfQueue q) → (t.q q).state = .preempting) ∧
        (∀ q ∈ queuesOfFn f, (s.q q).state = .running → s.num (E.queueSaveBytes + q % 16) (fnOfQueue q) < s.saveNeed q →
          (t.q q).state = .running ∧ (t.q q).preemptRefused = true) ∧ t.mem = s.mem) ∧
    (s.time.mono - (s.part p).turnAt < s.turnNs p f → exec (.timeSliceEnd p) s = .next s) := by
  have heq : timeSliceEnd p s = if s.turnNs p f ≤ s.time.mono - (s.part p).turnAt then
      (queuesOfFn f).foldl State.endTurnOf (s.modPart p (fun x => { x with turnEnding := true })) else s := by
    unfold timeSliceEnd
    simp only [hm, ne_eq, not_true_eq_false, if_false, hh, hv, Bool.false_eq_true, he]
    rfl
  refine ⟨fun h => ?_, fun h => congrArg Host.Outcome.next (heq.trans (if_neg (by omega)))⟩
  have hpart : ((queuesOfFn f).foldl State.endTurnOf (s.modPart p (fun x => { x with turnEnding := true }))).part p =
      { s.part p with turnEnding := true } := by
    rw [State.part, foldl_keeps (fun u => u.hif.parts) (fun u q => (u.endTurnOf_rest q).1)]
    exact SMap.getD_modify_self s.hif.parts p PartSt.initial fun x => { x with turnEnding := true }
  refine ⟨_, congrArg Host.Outcome.next (heq.trans (if_pos h)), congrArg PartSt.turnEnding hpart, (congrArg PartSt.holder hpart).trans hh,
    fun q hq hr hn => ?_, fun q hq hr hn => ?_, foldl_keeps (fun u => u.mem) (fun u q => (u.endTurnOf_rest q).2) _ _⟩
  · exact foldl_endTurnOf (C := fun x => x.state = .preempting) State.turnNeed.fits State.turnNeed.other (nodup_rangeFrom _ _) hq
      (s := s.modPart p (fun x => { x with turnEnding := true })) ⟨hr, decide_eq_true hn⟩
  · exact foldl_endTurnOf (C := fun x => x.state = .running ∧ x.preemptRefused = true) State.turnNeed.lacks State.turnNeed.other (nodup_rangeFrom _ _) hq
      (s := s.modPart p (fun x => { x with turnEnding := true })) ⟨hr, decide_eq_false (Nat.not_le.mpr hn)⟩

/-- Settles O33: each command of a queue is a change of that queue alone, the first kill of a context sets its site and code, and the end of a turn
pre-empts its queues one by one. -/
theorem queueCommands : Obligations.QueueCommands :=
  ⟨⟨doorbells, fun s who q hc _ => queue_enables s who q hc, preempts, preemption_settles, resumes, resets⟩, context_killed, queue_killed,
    queue_times_out, turn_passes, turn_ends⟩

end Sys2Proof.Machine
end

section
/-! The start of a failed node whose earlier start was refused by a home (R270, R272). -/

namespace Sys2Proof.Machine

/-- A node of queue 0 whose check failed. -/
def failedNode : Node :=
  { queue := 0, ring := 0, graph := none, index := 0, depth := 0, raw := zeroBytes 64, status := .waiting, check := 4, extPreds := [], done := false, stalled := false, pins := [] }

/-- Queue 0 runs, its node's check has failed, and an earlier start of the node waits to retry at a home. -/
def refusedStart : State :=
  { State.reset with
    fe.queues := [(0, { Queue.initial with state := .running, write := 1, fetch := 1 })]
    fe.nodes := [(0, failedNode)]
    l2.nacked := [{ slice := 0, line := 2, count := 1, interval := 2, starving := false, queued := none, who := .other (5 * 2 ^ 48) }] }

/-- The refused start stands in the waiting list of its home. -/
theorem refusedStart_waits : refusedStart.l2.nacked.length = 1 := rfl

set_option maxRecDepth 20000 in
/-- The start that goes through takes it off the list. -/
theorem refusedStart_leaves : (refusedStart.unit 5 0 (nodeNop 0)).l2.nacked.length = 0 := by decide

set_option maxRecDepth 20000 in
theorem refusedStart_goes : refusedStart.unitGoes 5 0 (nodeNop 0) := by decide

/-- Refutes O34: the kill of a node's queue takes the node's refused start off the list of its home, so the caches' books do not stay as they were. -/
theorem not_nodesOfTheFrontEnd : ¬ Obligations.NodesOfTheFrontEnd := by
  unfold Obligations.NodesOfTheFrontEnd
  rintro ⟨-, -, -, -, hcheck, -⟩
  obtain ⟨t, ht, -, -, -, -, hl2⟩ :=
    hcheck refusedStart 0 failedNode rfl (by decide) (by decide) (by decide) (by decide) (by decide) refusedStart_goes
  have htl : t = refusedStart.unit 5 0 (nodeNop 0) := (Host.Outcome.next.inj ht).symm
  have hlen : t.l2.nacked.length = 1 := (congrArg (fun l => l.nacked.length) hl2).trans refusedStart_waits
  exact absurd ((htl ▸ hlen).symm.trans refusedStart_leaves) (by decide)

end Sys2Proof.Machine
end

section
/-! Charging a queue of a function whose stored partition number lies so high that the partition's energy is the job that the queue names (R408, R409). -/

namespace Sys2Proof.Machine

/-- The partition whose energy has the key of queue 0's job. -/
def strayPartition : Nat := (E.pwrJobId - E.partitionEnergy) * 256

/-- Function 0 lies in that partition, its queue 0 names job 9, and job 9 has its record in slot 3. -/
def strayAccount : State :=
  { State.reset with
    mgt.num := [(E.pwrJobId * 256, 9), (E.fnPartition * 256, strayPartition)]
    pwr.jobs := [(3, 9, 1, 0, 0)] }

/-- A rail on which queue 0 used 7 uJ, of which all were measured. -/
def queueRail : RailEnergy := { measured := 7, queues := [(0, 7)], fns := [], parts := [], overhead := 0 }

set_option maxRecDepth 20000 in
/-- The charge of the partition renames the job, so that the record of job 9 keeps its energy. -/
theorem strayAccount_kept : (energyAttribution [queueRail] strayAccount).pwr.jobs.get? 3 = some (9, 1, 0, 0) := by decide

/-- Refutes O53: the energy that goes to the partition changes the job that the queue names, and the job's record is not charged. -/
theorem not_energyAccounts : ¬ Obligations.EnergyAccounts := by
  unfold Obligations.EnergyAccounts
  rintro ⟨-, -, -, hjob, -⟩
  obtain ⟨t, ht, hrec, -⟩ := hjob strayAccount [queueRail] 0 7 9 3 1 0 0 rfl (by decide) (by decide) (by decide) (by decide) (by decide) (by decide)
    (by decide) (by decide)
  have htl : t = energyAttribution [queueRail] strayAccount := (Host.Outcome.next.inj ht).symm
  have hcharged := congrArg (Option.map fun r : Nat × Nat × Nat × Nat => r.2.1) ((htl ▸ hrec).symm.trans strayAccount_kept)
  exact absurd hcharged (by decide)

end Sys2Proof.Machine
end

section
/-! The service ports: their links, neighbour requests and priority flow control (R391, R392, R396 to R398). -/

namespace Sys2Proof.Machine

/-! Ports and what a raised bit of the service status leaves. -/

theorem State.raiseSvc_svc (s : State) (n : Nat) : (s.raiseSvc n).svc = { s.svc with status := setBit s.svc.status n } := by simp

@[simp] theorem State.raiseSvc_port (s : State) (n p : Nat) : (s.raiseSvc n).port p = s.port p := by simp [State.port]

@[simp] theorem State.modPort_qps (s : State) (p : Nat) (g : Port → Port) : (s.modPort p g).svc.qps = s.svc.qps := rfl

@[simp] theorem State.modPort_reply (s : State) (p : Nat) (g : Port → Port) : (s.modPort p g).svc.reply = s.svc.reply := rfl

@[simp] theorem State.modPort_svc_status (s : State) (p : Nat) (g : Port → Port) : (s.modPort p g).svc.status = s.svc.status := rfl

@[simp] theorem State.ptpDrop_svc (s : State) : s.ptpDrop.svc = s.svc := by unfold State.ptpDrop; split <;> rfl

@[simp] theorem State.ptpDrop_mem (s : State) : s.ptpDrop.mem = s.mem := by unfold State.ptpDrop; split <;> rfl

/-- Without a lock there is none to drop, and a drop leaves none. -/
@[simp] theorem State.ptpDrop_unlocked (s : State) : s.ptpDrop.time.ptpLocked = false := by
  unfold State.ptpDrop
  split
  · simpa using ‹(!s.time.ptpLocked) = true›
  · rfl

@[simp] theorem State.ptpDrop_port (s : State) (p : Nat) : s.ptpDrop.port p = s.port p := by simp [State.port]

/-- The reference drops where a port goes down through which it was taken. -/
theorem State.portDown_eq (s : State) (p st : Nat) (hup : (s.port p).state = 1) :
    s.portDown p st = (if s.num E.ptpSource = p + 1 then (s.modPort p (fun _ => { Port.initial with state := st })).ptpDrop
      else s.modPort p (fun _ => { Port.initial with state := st })).raiseSvc 0 := by
  simp [State.portDown, hup]

theorem svcLinkUp_enabled (s : State) (p : Nat) (hp : p < 2) (hdown : (s.port p).state ≠ 1) (hv : s.num (E.svcSpeed + p) ≠ 0) (hr : s.sup.phase = .ready) :
    svcLinkUp p s = (s.modPort p (fun _ => { Port.initial with state := 1, speed := s.num (E.svcSpeed + p) })).raiseSvc 1 := by
  simp [svcLinkUp, hdown, hv, hr, Nat.not_le.2 hp]

theorem svcLinkDown_up (s : State) (p : Nat) (hp : p < 2) (hup : (s.port p).state = 1) : svcLinkDown p s = s.portDown p 0 := by
  simp [svcLinkDown, hup, Nat.not_le.2 hp]

/-! A pause frame, one priority at a time (R397). -/

/-- What a pause frame does to a priority that it enables. -/
def pfcStep (now pause : Nat) (x : Port) (i : Nat) : Port :=
  if bit pause i then
    (if bit x.storm i ∨ bit x.paused i then x else { x with paused := setBit x.paused i, pausedAt := x.pausedAt.put i now })
  else { x with paused := clrBit x.paused i, pausedAt := x.pausedAt.del i, storm := clrBit x.storm i }

/-- Is a priority paused, and is its watchdog's storm on? -/
def Port.flow (x : Port) (i : Nat) : Bool × Bool := (bit x.paused i, bit x.storm i)

/-- What a frame that pauses a priority, or ends its pause, makes of it. -/
def flowAfter (pause : Bool) (f : Bool × Bool) : Bool × Bool :=
  if pause then (if f.2 then f else (true, f.2)) else (false, false)

theorem pfcFrameReceive_up (s : State) (p enable pause : Nat) (hp : p < 2) (hup : (s.port p).state = 1) :
    pfcFrameReceive p enable pause s = s.modPort p (fun x => (bitList 8 enable).foldl (pfcStep s.time.mono pause) x) := by
  unfold pfcFrameReceive
  rw [if_neg (by omega)]
  rfl

theorem pfcStep_flow_self (now pause : Nat) (x : Port) (i : Nat) : (pfcStep now pause x i).flow i = flowAfter (bit pause i) (x.flow i) := by
  cases hb : bit pause i <;> cases hst : bit x.storm i <;> cases hpa : bit x.paused i <;>
    simp [pfcStep, Port.flow, flowAfter, bit_setBit, bit_clrBit, hb, hst, hpa]

theorem pfcStep_flow_ne (now pause : Nat) (x : Port) {i j : Nat} (h : i ≠ j) : (pfcStep now pause x j).flow i = x.flow i := by
  simp only [pfcStep]
  split_ifs <;> simp [Port.flow, bit_setBit, bit_clrBit, h]

theorem foldl_pfcStep_flow (now pause i : Nat) (l : List Nat) (hl : l.Nodup) (x : Port) :
    (l.foldl (pfcStep now pause) x).flow i = if i ∈ l then flowAfter (bit pause i) (x.flow i) else x.flow i := by
  induction l generalizing x with
  | nil => simp
  | cons j l ih =>
    rw [List.foldl_cons, ih (List.nodup_cons.1 hl).2]
    by_cases hij : i = j
    · subst hij
      simp [(List.nodup_cons.1 hl).1, pfcStep_flow_self]
    · simp [hij, pfcStep_flow_ne now pause x hij]

/-- What a pause frame makes of each priority of its port. -/
theorem pfcFrameReceive_flow (s : State) (p enable pause i : Nat) (hp : p < 2) (hup : (s.port p).state = 1) (hi : i < 8) :
    ((pfcFrameReceive p enable pause s).port p).flow i =
      if bit enable i then flowAfter (bit pause i) ((s.port p).flow i) else (s.port p).flow i := by
  rw [pfcFrameReceive_up s p enable pause hp hup, State.modPort_port_self, foldl_pfcStep_flow _ _ _ _ (bitList_nodup _ _)]
  simp [mem_bitList, hi]

/-- The frames that a port sends, and when: XOFF above three quarters of the allotment, XON below half. -/
theorem pfcXoffSend_up (s : State) (p i fill : Nat) (hp : p < 2) (hi : i < 8) (hup : (s.port p).state = 1) (hu : i ∈ s.usedPriorities p) :
    pfcXoffSend p i fill s =
      let s1 := s.modPort p (fun x => { x with fill := x.fill.put i fill })
      if 3 * s.allotment p < 4 * fill ∧ !bit (s.port p).xoff i then
        State.modPort { s1 with svc.reply := leBytes 1 i ++ leBytes 1 1 } p (fun x => { x with xoff := setBit x.xoff i })
      else if 2 * fill < s.allotment p ∧ bit (s.port p).xoff i then
        State.modPort { s1 with svc.reply := leBytes 1 i ++ leBytes 1 0 } p (fun x => { x with xoff := clrBit x.xoff i })
      else s1 := by
  unfold pfcXoffSend
  rw [if_neg (by simp [hup, hu]; omega)]

theorem leBytes_one (v : Nat) : leBytes 1 v = [BitVec.ofNat 8 v] := by
  have h : BitVec.ofNat 8 (v % 256) = BitVec.ofNat 8 v := BitVec.eq_of_toNat_eq (by simp)
  simp [leBytes, h]

theorem pfcWatchdogExpire_due (s : State) (p i at0 : Nat) (ha : (s.port p).pausedAt.get? i = some at0) (hst : bit (s.port p).storm i = false)
    (ht : at0 + s.num E.svcPfcWatchdog * 1000000 ≤ s.time.mono) :
    pfcWatchdogExpire p i s = (s.modPort p (fun x => { x with storm := setBit x.storm i })).raiseSvc 3 := by
  simp [pfcWatchdogExpire, ha, hst, Nat.not_lt.2 ht]

theorem pfcWatchdogExpire_early (s : State) (p i at0 : Nat) (ha : (s.port p).pausedAt.get? i = some at0)
    (ht : s.time.mono < at0 + s.num E.svcPfcWatchdog * 1000000) : pfcWatchdogExpire p i s = s := by
  simp [pfcWatchdogExpire, ha, ht]

/-- A port that goes down keeps nothing of its peer's pauses, and raises its bit. -/
theorem svcLinkDown_effect (s : State) (p : Nat) (hp : p < 2) (hup : (s.port p).state = 1) :
    (svcLinkDown p s).port p = { Port.initial with state := 0 } ∧ bit (svcLinkDown p s).svc.status 0 = true ∧ (svcLinkDown p s).svc.qps = s.svc.qps ∧
      (∀ k, k ≠ p → (svcLinkDown p s).port k = s.port k) ∧ (s.num E.ptpSource = p + 1 → (svcLinkDown p s).time.ptpLocked = false) ∧
      (svcLinkDown p s).mem = s.mem := by
  rw [svcLinkDown_up s p hp hup, State.portDown_eq s p 0 hup]
  by_cases hsrc : s.num E.ptpSource = p + 1 <;>
    simp +contextual [hsrc, bit_setBit, State.modPort_port_ne]

/-- Settles O51: the links by the equation of each direction, a pause frame by what each enabled priority becomes, and the frames that a port sends by the fill
of a priority. -/
theorem servicePorts : Obligations.ServicePorts := by
  unfold Obligations.ServicePorts
  refine ⟨fun s p hp => ⟨fun hdown hv hr => ?_, fun hv => ?_, fun hup => ?_, fun hdown => ?_⟩, fun s p ip hp hup => ⟨fun hip => ?_, fun hip => ?_⟩,
    fun s p enable pause hp hup => ?_, fun s p i fill hp hi hup hu => ?_, fun s p i at0 ha hst => ⟨fun ht => ?_, fun ht => ?_⟩⟩
  · refine ⟨_, congrArg Host.Outcome.next (svcLinkUp_enabled s p hp hdown hv hr), ?_⟩
    simp +contextual [bit_setBit, State.modPort_port_ne, Port.initial]
  · exact congrArg Host.Outcome.next (show svcLinkUp p s = s by simp [svcLinkUp, hv])
  · obtain ⟨hport, hst, hqps, hne, hptp, hmem⟩ := svcLinkDown_effect s p hp hup
    exact ⟨_, rfl, by rw [hport], by rw [hport]; rfl, hst, hqps, hne, hptp, hmem⟩
  · exact congrArg Host.Outcome.next (show svcLinkDown p s = s by simp [svcLinkDown, hdown])
  · have hq : neighbourRequest p ip s = { s with svc.reply := ip ++ s.svcMacOf p } := by
      simp [neighbourRequest, Nat.not_le.2 hp, hup, hip]
    exact ⟨_, congrArg Host.Outcome.next hq, rfl, rfl, rfl⟩
  · have hq : neighbourRequest p ip s = s.addNum (E.svcFramesDropped + p) 64 := by
      simp [neighbourRequest, Nat.not_le.2 hp, hup, hip]
    exact ⟨_, congrArg Host.Outcome.next hq, by simp, by simp, by simp⟩
  · have hflow := fun i hi => pfcFrameReceive_flow s p enable pause i hp hup hi
    rw [pfcFrameReceive_up s p enable pause hp hup] at hflow
    refine ⟨_, congrArg Host.Outcome.next (pfcFrameReceive_up s p enable pause hp hup), rfl, fun k hk => State.modPort_port_ne _ _ _ hk, rfl, rfl, fun i hi => ?_⟩
    have hf := hflow i hi
    simp only [Port.flow] at hf
    refine ⟨fun he hpa hst => ?_, fun he hpa hst => ?_, fun he hpa => ?_, fun he => ?_⟩ <;> simp_all [flowAfter]
  · refine ⟨fun hf hx => ?_, fun hf hx => ?_, fun hlo hhi => ?_⟩
    · refine ⟨_, congrArg Host.Outcome.next ((pfcXoffSend_up s p i fill hp hi hup hu).trans (if_pos ⟨hf, by simp [hx]⟩)), by rw [State.modPort_reply]; simp [leBytes_one], ?_, rfl, rfl⟩
      rw [State.modPort_port_self]
      simp [bit_setBit]
    · refine ⟨_, congrArg Host.Outcome.next ((pfcXoffSend_up s p i fill hp hi hup hu).trans
        ((if_neg (by omega)).trans (if_pos ⟨hf, hx⟩))), by rw [State.modPort_reply]; simp [leBytes_one], ?_, rfl, rfl⟩
      rw [State.modPort_port_self]
      simp [bit_clrBit]
    · refine ⟨_, congrArg Host.Outcome.next ((pfcXoffSend_up s p i fill hp hi hup hu).trans
        ((if_neg (by omega)).trans (if_neg (by omega)))), rfl, ?_, rfl, rfl⟩
      rw [State.modPort_port_self]
  · exact congrArg Host.Outcome.next (pfcWatchdogExpire_early s p i at0 ha ht)
  · refine ⟨_, congrArg Host.Outcome.next (pfcWatchdogExpire_due s p i at0 ha hst ht), ?_⟩
    simp [bit_setBit]

end Sys2Proof.Machine
end

section
/-! The digest's length, and the messages of discovery and attestation (R343, R344). -/

namespace Sys2Proof.Sha

/-! The digest: eight words from the first block to the last, of which six are given out. -/

theorem length_round (h : List W) (kw : W × W) : (round h kw).length = 8 := rfl

theorem length_foldl_round (l : List (W × W)) (h : List W) (hh : h.length = 8) : (l.foldl round h).length = 8 := by
  induction l generalizing h with
  | nil => exact hh
  | cons kw l ih => exact ih _ (length_round h kw)

theorem length_block (h : List W) (l : List Byte) (hh : h.length = 8) : (block h l).length = 8 := by
  simp [block, hh, length_foldl_round _ h hh]

theorem length_start : start.length = 8 := by
  rw [start, List.length_map]
  rfl

theorem length_foldl_block (m : List Byte) (l : List Nat) (h : List W) (hh : h.length = 8) :
    (l.foldl (fun h i => block h ((m.drop (128 * i)).take 128)) h).length = 8 := by
  induction l generalizing h with
  | nil => exact hh
  | cons i l ih => exact ih _ (length_block h _ hh)

@[simp] theorem length_sha384 (l : List Byte) : (sha384 l).length = 48 := by
  rw [sha384, List.length_flatMap]
  simp [beBytes, length_foldl_block _ _ _ length_start]

end Sys2Proof.Sha

namespace Sys2Proof.Machine

/-! Messages of attestation. -/

/-- The head of a message, then its body. -/
theorem spdm_drop_head (code p1 p2 : Nat) (body : List Byte) : (spdm code p1 p2 body).drop 4 = body := by
  simp [spdm, leBytes_one]

theorem spdm_take_head (code p1 p2 : Nat) (body : List Byte) :
    (spdm code p1 p2 body).take 4 = [0x12#8, BitVec.ofNat 8 code, BitVec.ofNat 8 p1, BitVec.ofNat 8 p2] := by
  simp [spdm, leBytes_one]

@[simp] theorem State.signal_errStatus (s : State) (f v : Nat) : (s.signal f v).hif.errStatus = s.hif.errStatus := by
  unfold State.signal
  split <;> rfl

@[simp] theorem State.signal_certs (s : State) (f v : Nat) : (s.signal f v).hif.certs = s.hif.certs := by
  unfold State.signal
  split <;> rfl

@[simp] theorem State.raiseHif_errStatus (s : State) (n : Nat) : (s.raiseHif n).hif.errStatus = setBit s.hif.errStatus n := by
  unfold State.raiseHif
  split <;> simp

@[simp] theorem State.raiseHif_certs (s : State) (n : Nat) : (s.raiseHif n).hif.certs = s.hif.certs := by
  unfold State.raiseHif
  split <;> simp

/-- A malformed request leaves its bit, the certificates and memory. -/
theorem State.spdmError_effect (s : State) : bit s.spdmError.hif.errStatus 5 = true ∧ s.spdmError.hif.certs = s.hif.certs ∧ s.spdmError.mem = s.mem := by
  simp [State.spdmError, bit_setBit]

/-- A signed response: what precedes the device's nonce, the nonce, what follows it, and the signature over the request's nonce and all of it. -/
theorem State.signed_effect (s : State) (code p1 p2 : Nat) (nonce before after : List Byte) :
    ∃ m, (s.signed code p1 p2 nonce before after).hif.doeResp = m ++ Config.sign (nonce ++ m) ∧
      m = spdm code p1 p2 (before ++ leBytes 32 (s.freeVal 256).1 ++ after) ∧ (s.signed code p1 p2 nonce before after).free = s.free + 1 ∧
      (s.signed code p1 p2 nonce before after).mem = s.mem :=
  ⟨_, rfl, rfl, rfl, rfl⟩

/-- The chain of every slot but the first is the one last written. -/
theorem chain_put (s : State) (slot : Nat) (c r : List Byte) (h : slot ≠ 0) :
    State.chain { s with hif.certs := s.hif.certs.put slot c, hif.doeResp := r } slot = c ∧
      ∀ o, o ≠ slot → State.chain { s with hif.certs := s.hif.certs.put slot c, hif.doeResp := r } o = s.chain o := by
  refine ⟨by simp [State.chain, h, SMap.getD], fun o ho => ?_⟩
  simp [State.chain, SMap.getD, SMap.get?_put_ne _ _ ho]

/-- The part of a certificate chain that a request asks for. -/
theorem spdmGetCertificate_within (s : State) (slot off len : Nat) (hl : s.configLive = true) (hs : slot ≤ 7) (ho : off < (s.chain slot).length) :
    spdmGetCertificate slot off len s =
      { s with hif.doeResp := spdm 0x02 slot 0 (leBytes 2 (((s.chain slot).drop off).take len).length ++
        leBytes 2 ((s.chain slot).length - off - (((s.chain slot).drop off).take len).length) ++ ((s.chain slot).drop off).take len) } := by
  unfold spdmGetCertificate
  rw [if_neg (by simp [hl]), if_neg (by omega)]

/-- The block of a measurement: its number, its type and its digest. -/
theorem State.measurement_eq (s : State) (i : Nat) :
    s.measurement i = [BitVec.ofNat 8 i, 1#8, 51#8, 0#8, BitVec.ofNat 8 (i - 1), 48#8, 0#8] ++ Sha.sha384 (s.measuredBytes i) := by
  simp [State.measurement, leBytes_one, show leBytes 2 51 = [51#8, 0#8] from rfl, show leBytes 2 48 = [48#8, 0#8] from rfl]

theorem spdmGetMeasurements_block (s : State) (i : Nat) (nonce : List Byte) (hl : s.configLive = true) (hn : nonce.length = 32) (h1 : 1 ≤ i) (h6 : i ≤ 6) :
    spdmGetMeasurements i nonce s =
      s.signed 0x60 0 0 nonce (leBytes 1 1 ++ leBytes 3 (s.measurement i).length ++ s.measurement i) (leBytes 2 0) := by
  unfold spdmGetMeasurements
  rw [if_neg (by simp [hl]), if_neg (by omega)]
  simp [show i ≠ 0 by omega, show i ≠ 255 by omega]

/-- A message with something before its block: what stands from the eighth byte on. -/
theorem spdm_drop_block (code p1 p2 : Nat) (head block tail : List Byte) (h : head.length = 4) :
    (spdm code p1 p2 (head ++ block ++ tail)).drop 8 = block ++ tail := by
  rw [show (8 : Nat) = 4 + 4 from rfl, ← List.drop_drop, spdm_drop_head, List.append_assoc, List.drop_left' h]

/-- Settles O44: every answer by the equation of its command; a digest holds 48 bytes, so that a block's digest stands where the message says. -/
theorem attestation : Obligations.Attestation := by
  unfold Obligations.Attestation
  refine ⟨fun s hl => ⟨?_, ?_, fun i hi => ?_⟩, fun s slot off len hl hs => ⟨fun ho hc => ?_, fun ho => ?_⟩, fun s slot nonce hl hs hn hc => ?_,
    fun s i nonce hl hn h1 h6 => ?_, fun s i nonce hl hn => ?_, fun s slot c hl => ⟨fun h1 h7 => ?_, fun hs => ?_⟩⟩
  · exact congrArg Host.Outcome.next (show doeDiscovery 0 s = _ by simp [doeDiscovery, hl, leBytes_one, show leBytes 2 1 = [1#8, 0#8] from rfl])
  · exact congrArg Host.Outcome.next (show doeDiscovery 1 s = _ by simp [doeDiscovery, hl, leBytes_one, show leBytes 2 1 = [1#8, 0#8] from rfl])
  · have h : doeDiscovery i s = { s.raiseHif 5 with hif.doeResp := leBytes 2 0xFFFF ++ leBytes 1 0 ++ leBytes 1 0 } := by
      simp [doeDiscovery, hl, show i ≠ 0 by omega, show i ≠ 1 by omega]
    exact ⟨_, congrArg Host.Outcome.next h, by simp [bit_setBit], by simp⟩
  · refine ⟨_, _, congrArg Host.Outcome.next (spdmGetCertificate_within s slot off len hl hs ho), rfl, ?_, ?_, ?_, rfl⟩
    · rw [show (8 : Nat) = 4 + 4 from rfl, ← List.drop_drop, spdm_drop_head, List.drop_left' (by simp)]
    · rw [spdm_drop_head, List.append_assoc, List.take_left' (by simp), ofLe_leBytes]
      exact Nat.mod_eq_of_lt (by simp; omega)
    · rw [show (6 : Nat) = 4 + 2 from rfl, ← List.drop_drop, spdm_drop_head, List.append_assoc, List.drop_left' (by simp), List.take_left' (by simp), ofLe_leBytes]
      exact Nat.mod_eq_of_lt (by simp; omega)
  · have h : spdmGetCertificate slot off len s = s.spdmError := by simp [spdmGetCertificate, hl, ho]
    exact ⟨_, congrArg Host.Outcome.next h, s.spdmError_effect.1, s.spdmError_effect.2.2⟩
  · have h : spdmChallenge slot nonce s = s.signed 0x03 slot 1 nonce (Sha.sha384 (s.chain slot)) (leBytes 2 0) := by
      simp [spdmChallenge, hl, hn, hc, Nat.not_lt.2 hs]
    obtain ⟨m, hresp, hm, hfree, hmem⟩ := s.signed_effect 0x03 slot 1 nonce (Sha.sha384 (s.chain slot)) (leBytes 2 0)
    refine ⟨_, m, congrArg Host.Outcome.next h, hresp, ?_, ?_, hfree, hmem⟩
    · rw [hm, spdm_take_head]
    · rw [hm, spdm_drop_head, List.append_assoc, List.take_left' (by simp)]
  · obtain ⟨m, hresp, hm, hfree, hmem⟩ := s.signed_effect 0x60 0 0 nonce (leBytes 1 1 ++ leBytes 3 (s.measurement i).length ++ s.measurement i) (leBytes 2 0)
    rw [List.append_assoc _ (leBytes 32 _)] at hm
    have hblock : m.drop 8 = s.measurement i ++ (leBytes 32 (s.freeVal 256).1 ++ leBytes 2 0) := by
      rw [hm]
      exact spdm_drop_block 0x60 0 0 (leBytes 1 1 ++ leBytes 3 (s.measurement i).length) _ _ (by simp)
    rw [s.measurement_eq, List.append_assoc] at hblock
    refine ⟨_, m, congrArg Host.Outcome.next (spdmGetMeasurements_block s i nonce hl hn h1 h6), hresp, ?_, ?_, hfree, hmem⟩
    · rw [hblock]
      rfl
    · rw [show (15 : Nat) = 8 + 7 from rfl, ← List.drop_drop, hblock, List.drop_left' (by simp), List.take_left' (by simp)]
  · have h : spdmGetMeasurements i nonce s = s.spdmError := by simp [spdmGetMeasurements, hl, hn]
    exact ⟨_, congrArg Host.Outcome.next h, s.spdmError_effect.1, s.spdmError_effect.2.2⟩
  · have h : spdmSetCertificate slot c s = { s with hif.certs := s.hif.certs.put slot c, hif.doeResp := spdm 0x6E slot 0 [] } := by
      simp [spdmSetCertificate, hl, Nat.not_lt.2 h7, show slot ≠ 0 by omega]
    obtain ⟨hself, hother⟩ := chain_put s slot c (spdm 0x6E slot 0 []) (by omega)
    exact ⟨_, congrArg Host.Outcome.next h, hself, hother, rfl⟩
  · have h : spdmSetCertificate slot c s = s.spdmError := by simp [spdmSetCertificate, hl, hs]
    exact ⟨_, congrArg Host.Outcome.next h, s.spdmError_effect⟩

end Sys2Proof.Machine
end

section
/-! What messages, invalidations and the host's translations leave as they were. -/

namespace Sys2Proof.Machine

@[simp] theorem State.dropEntry_mem (s : State) (c seq : Nat) : (s.dropEntry c seq).mem = s.mem := rfl
@[simp] theorem State.atsDeny_mem (s : State) (f page : Nat) (read write : Bool) : (s.atsDeny f page read write).mem = s.mem := by simp [State.atsDeny]
@[simp] theorem State.setShares_hif (s : State) (g : List Share → List Share) : (s.setShares g).hif = s.hif := rfl
@[simp] theorem State.stopShares_hif (s : State) (p : Nat → Bool) : (s.stopShares p).hif = s.hif := rfl
@[simp] theorem State.countKill_hif (s : State) (code : Nat) : (s.countKill code).hif = s.hif := by simp [State.countKill, ite_hif]
@[simp] theorem State.kill_hif (s : State) (q code : Nat) (site : Site) (inFlight : optParam Bool false) : (s.kill q code site inFlight).hif = s.hif :=
  by simp [State.kill, ite_hif]
@[simp] theorem State.dropEntry_hif (s : State) (c seq : Nat) : (s.dropEntry c seq).hif = s.hif := rfl
@[simp] theorem State.atsDeny_hif (s : State) (f page : Nat) (read write : Bool) : (s.atsDeny f page read write).hif = s.hif := by simp [State.atsDeny]
@[simp] theorem State.hostWrite_mem (s : State) (a : Nat) (x2 : List Byte) : (s.hostWrite a x2).mem = s.mem := by fun_induction State.hostWrite s a x2 <;> simp_all
@[simp] theorem State.sendVec_mem (s : State) (f v : Nat) : (s.sendVec f v).mem = s.mem := by simp [State.sendVec, ite_mem]
@[simp] theorem State.sendPending_mem (s : State) (f : Nat) : (s.sendPending f).mem = s.mem := by simp [State.sendPending, ite_mem]
@[simp] theorem foldl_hif_fns {α : Type} {g : State → α → State} (l : List α) (s : State) (hg : ∀ u a, (g u a).hif.fns = u.hif.fns) : (l.foldl g s).hif.fns = s.hif.fns :=
  foldl_keeps (fun s => s.hif.fns) hg l s
theorem ite_hif_fns (c : Prop) [Decidable c] (s t : State) : (if c then s else t).hif.fns = if c then s.hif.fns else t.hif.fns :=
  apply_ite (fun s : State => s.hif.fns) _ _ _
@[simp] theorem State.modVec_hif_fns (s : State) (f v : Nat) (g : Vector → Vector) : (s.modVec f v g).hif.fns = s.hif.fns := rfl
@[simp] theorem State.hostWrite_hif_fns (s : State) (a : Nat) (x2 : List Byte) : (s.hostWrite a x2).hif.fns = s.hif.fns :=
  by fun_induction State.hostWrite s a x2 <;> simp_all
@[simp] theorem State.sendVec_hif_fns (s : State) (f v : Nat) : (s.sendVec f v).hif.fns = s.hif.fns := by simp [State.sendVec, ite_hif_fns]
@[simp] theorem State.sendPending_hif_fns (s : State) (f : Nat) : (s.sendPending f).hif.fns = s.hif.fns := by simp [State.sendPending, ite_hif_fns]
@[simp] theorem State.dropPages_mem (s : State) (f page n : Nat) : (s.dropPages f page n).mem = s.mem := rfl
@[simp] theorem State.dropPages_fe (s : State) (f page n : Nat) : (s.dropPages f page n).fe = s.fe := rfl
@[simp] theorem State.faultRecord_hif (s : State) (cls unit detail interruption contexts epoch : Nat) : (s.faultRecord cls unit detail interruption contexts epoch).hif = s.hif :=
  by simp [State.faultRecord, ite_hif]
@[simp] theorem foldl_hif_linkUp {α : Type} {g : State → α → State} (l : List α) (s : State) (hg : ∀ u a, (g u a).hif.linkUp = u.hif.linkUp) : (l.foldl g s).hif.linkUp = s.hif.linkUp :=
  foldl_keeps (fun s => s.hif.linkUp) hg l s
theorem ite_hif_linkUp (c : Prop) [Decidable c] (s t : State) : (if c then s else t).hif.linkUp = if c then s.hif.linkUp else t.hif.linkUp :=
  apply_ite (fun s : State => s.hif.linkUp) _ _ _
@[simp] theorem State.modVec_hif_linkUp (s : State) (f v : Nat) (g : Vector → Vector) : (s.modVec f v g).hif.linkUp = s.hif.linkUp := rfl
@[simp] theorem State.hostWrite_hif_linkUp (s : State) (a : Nat) (x2 : List Byte) : (s.hostWrite a x2).hif.linkUp = s.hif.linkUp :=
  by fun_induction State.hostWrite s a x2 <;> simp_all
@[simp] theorem State.sendVec_hif_linkUp (s : State) (f v : Nat) : (s.sendVec f v).hif.linkUp = s.hif.linkUp := by simp [State.sendVec, ite_hif_linkUp]
@[simp] theorem State.hostWrite_mgt (s : State) (a : Nat) (x2 : List Byte) : (s.hostWrite a x2).mgt = s.mgt := by fun_induction State.hostWrite s a x2 <;> simp_all
@[simp] theorem State.sendVec_mgt (s : State) (f v : Nat) : (s.sendVec f v).mgt = s.mgt := by simp [State.sendVec, ite_mgt]
@[simp] theorem State.hostWrite_time (s : State) (a : Nat) (x2 : List Byte) : (s.hostWrite a x2).time = s.time := by fun_induction State.hostWrite s a x2 <;> simp_all
@[simp] theorem State.sendVec_time (s : State) (f v : Nat) : (s.sendVec f v).time = s.time := by simp [State.sendVec, ite_time]
@[simp] theorem foldl_hif_vecs {α : Type} {g : State → α → State} (l : List α) (s : State) (hg : ∀ u a, (g u a).hif.vecs = u.hif.vecs) : (l.foldl g s).hif.vecs = s.hif.vecs :=
  foldl_keeps (fun s => s.hif.vecs) hg l s
theorem ite_hif_vecs (c : Prop) [Decidable c] (s t : State) : (if c then s else t).hif.vecs = if c then s.hif.vecs else t.hif.vecs :=
  apply_ite (fun s : State => s.hif.vecs) _ _ _
@[simp] theorem State.hostWrite_hif_vecs (s : State) (a : Nat) (x2 : List Byte) : (s.hostWrite a x2).hif.vecs = s.hif.vecs :=
  by fun_induction State.hostWrite s a x2 <;> simp_all
@[simp] theorem State.hostWrite_free (s : State) (a : Nat) (x2 : List Byte) : (s.hostWrite a x2).free = s.free := by fun_induction State.hostWrite s a x2 <;> simp_all

end Sys2Proof.Machine
end

section
/-! Messages of the vectors, invalidations, translations of host pages and the PCIe link (R315, R324, R325, R334, R335, R456). -/

namespace Sys2Proof.Machine

/-! Bytes of host memory. -/

theorem hostPut_find_self (m : List Host.Cell) (a : Nat) (v : Byte) : (hostPut m a v).find? (fun c => decide (c.1 = a)) = some (a, v) := by
  fun_induction hostPut m a v with
  | case1 => simp
  | case2 => simp
  | case3 => simp
  | case4 a v b w t hlt hne ih => rw [List.find?_cons_of_neg (by simpa using Ne.symm hne), ih]

theorem hostPut_find_ne (m : List Host.Cell) (a x : Nat) (v : Byte) (h : x ≠ a) :
    (hostPut m a v).find? (fun c => decide (c.1 = x)) = m.find? (fun c => decide (c.1 = x)) := by
  fun_induction hostPut m a v with
  | case1 => simp [h.symm]
  | case2 a v b w t hlt => rw [List.find?_cons_of_neg (by simpa using h.symm)]
  | case3 v b w t hlt => simp [h.symm]
  | case4 a v b w t hlt hne ih => simp [List.find?_cons, ih h]

/-- A write of host memory leaves every byte below it. -/
theorem State.hostByte_hostWrite_below (s : State) (a x : Nat) (l : List Byte) (h : x < a) : (s.hostWrite a l).hostByte x = s.hostByte x := by
  fun_induction State.hostWrite s a l with
  | case1 => rfl
  | case2 s a b t ih =>
    rw [ih (by omega)]
    simp only [State.hostByte, hostPut_find_ne _ _ _ _ (Nat.ne_of_lt h)]

/-- A write of host memory stores its bytes. -/
theorem State.hostByte_hostWrite (s : State) (a i : Nat) (l : List Byte) (h : i < l.length) : (s.hostWrite a l).hostByte (a + i) = l[i] := by
  fun_induction State.hostWrite s a l generalizing i with
  | case1 => simp at h
  | case2 s a b t ih =>
    cases i with
    | zero =>
      rw [State.hostByte_hostWrite_below _ _ _ _ (by omega)]
      simp [State.hostByte, hostPut_find_self]
    | succ i =>
      rw [show a + (i + 1) = a + 1 + i by omega, ih i (by simpa using h)]
      simp

theorem getElem_leBytes (n x i : Nat) (h : i < (leBytes n x).length) : (leBytes n x)[i] = BitVec.ofNat 8 (x / 256 ^ i) := by
  induction n generalizing x i with
  | zero => simp [leBytes] at h
  | succ n ih =>
    cases i with
    | zero =>
      refine BitVec.eq_of_toNat_eq ?_
      simp [leBytes]
    | succ i =>
      have hi := ih (x / 256) i (by simpa [leBytes] using h)
      simp only [leBytes, List.getElem_cons_succ]
      rw [hi, Nat.div_div_eq_div_mul, Nat.pow_succ']

/-! A vector that sends (R335). -/

@[simp] theorem State.modVec_vec_self (s : State) (f v : Nat) (g : Vector → Vector) : (s.modVec f v g).vec f v = g (s.vec f v) := SMap.getD_modify_self _ _ _ _

theorem State.modVec_vec_ne (s : State) (f v w : Nat) (g : Vector → Vector) (h : v ≠ w) : (s.modVec f w g).vec f v = s.vec f v :=
  SMap.getD_modify_ne _ _ _ (by omega)

@[simp] theorem State.hostWrite_vec (s : State) (a f v : Nat) (l : List Byte) : (s.hostWrite a l).vec f v = s.vec f v := by
  simp [State.vec]

/-- May the message of a vector leave now? -/
structure State.MayLeave (s : State) (f v : Nat) : Prop where
  there : v < vectorsOf f
  gate : (s.fn f).gate = .opened ∨ (s.fn f).gate = .draining
  may : (s.fn f).maySend = true
  unmasked : (s.vec f v).masked = false
  link : s.hif.linkUp = true
  moderated : s.moderated f v = true

/-- The state after a vector has sent its message. -/
def State.sentVec (s : State) (f v : Nat) : State :=
  (s.hostWrite (s.vec f v).addr (leBytes 4 (s.vec f v).data)).modVec f v (fun x =>
    { x with due := false, pending := false, sent := x.sent + 1, lastAt := some s.time.mono })

theorem State.sendVec_leaves {s : State} {f v : Nat} (h : s.MayLeave f v) (hd : (s.vec f v).due = true ∨ (s.vec f v).pending = true) :
    s.sendVec f v = s.sentVec f v := by
  obtain ⟨hv, hg, hm, hu, hl, hmod⟩ := h
  unfold State.sendVec
  dsimp only
  rw [if_neg, if_neg, if_neg, if_neg]
  · rfl
  · simp [hl, hmod]
  · simp [hm, hu]
  · rcases hg with hg | hg <;> simp [hg]
  · rcases hd with hd | hd <;> simp [hd, hv]

theorem State.sentVec_vec (s : State) (f v : Nat) :
    (s.sentVec f v).vec f v = { s.vec f v with due := false, pending := false, sent := (s.vec f v).sent + 1, lastAt := some s.time.mono } := by
  simp [State.sentVec]

/-- A message writes its data at its address. -/
theorem State.sentVec_host (s : State) (f v i : Nat) (hi : i < 4) :
    (s.sentVec f v).hostByte ((s.vec f v).addr + i) = BitVec.ofNat 8 ((s.vec f v).data / 256 ^ i) := by
  have hw := State.hostByte_hostWrite s (s.vec f v).addr i (leBytes 4 (s.vec f v).data) (by simpa using hi)
  rw [getElem_leBytes] at hw
  exact hw

@[simp] theorem State.sentVec_mem (s : State) (f v : Nat) : (s.sentVec f v).mem = s.mem := by simp [State.sentVec]

/-- A message of one vector says nothing of another. -/
theorem State.sendVec_vec_ne (s : State) (f v w : Nat) (h : v ≠ w) : (s.sendVec f w).vec f v = s.vec f v := by
  unfold State.sendVec
  dsimp only
  split_ifs
  · rfl
  · exact State.modVec_vec_ne _ _ _ _ _ h
  · exact State.modVec_vec_ne _ _ _ _ _ h
  · rfl
  · rw [State.modVec_vec_ne _ _ _ _ _ h, State.hostWrite_vec]

theorem State.MayLeave.congr {s t : State} {f v : Nat} (h : s.MayLeave f v) (hfn : t.hif.fns = s.hif.fns) (hl : t.hif.linkUp = s.hif.linkUp) (hm : t.mgt = s.mgt)
    (ht : t.time = s.time) (hv : t.vec f v = s.vec f v) : t.MayLeave f v := by
  obtain ⟨hv', hg, hmay, hu, hl', hmod⟩ := h
  have hfn' : t.fn f = s.fn f := by simp only [State.fn, hfn]
  refine ⟨hv', hfn' ▸ hg, hfn' ▸ hmay, hv ▸ hu, hl ▸ hl', ?_⟩
  have hnum : t.num (E.vectorModeration + v) f = s.num (E.vectorModeration + v) f := State.num_of_mgt_num (congrArg Mgt.num hm) _ _
  rw [← hmod, State.moderated, State.moderated, hv, hnum, ht]

/-- One vector of a function whose pending bits are sent. -/
def sendIfPending (f : Nat) (s : State) (v : Nat) : State := if (s.vec f v).pending then s.sendVec f v else s

theorem sendIfPending_vec_ne (s : State) (f v w : Nat) (h : v ≠ w) : (sendIfPending f s w).vec f v = s.vec f v := by
  unfold sendIfPending
  split
  · exact s.sendVec_vec_ne f v w h
  · rfl

theorem foldl_sendIfPending_vec_ne (f v : Nat) (l : List Nat) (h : v ∉ l) (s : State) : (l.foldl (sendIfPending f) s).vec f v = s.vec f v := by
  induction l generalizing s with
  | nil => rfl
  | cons w l ih =>
    rw [List.foldl_cons, ih (fun hv => h (List.mem_cons_of_mem _ hv)), sendIfPending_vec_ne s f v w (fun hv => h (hv ▸ List.mem_cons_self))]

theorem State.MayLeave.after_other {s : State} {f v w : Nat} (h : s.MayLeave f v) (hne : v ≠ w) : (sendIfPending f s w).MayLeave f v := by
  unfold sendIfPending
  split
  · exact h.congr (by simp) (by simp) (by simp) (by simp) (s.sendVec_vec_ne f v w hne)
  · exact h

/-- A pending message that may leave is sent, once, whatever the other vectors do. -/
theorem foldl_sendIfPending_sent (f v : Nat) (l : List Nat) (hl : l.Nodup) (hv : v ∈ l) (s : State) (h : s.MayLeave f v) (hp : (s.vec f v).pending = true) :
    ((l.foldl (sendIfPending f) s).vec f v).pending = false ∧ ((l.foldl (sendIfPending f) s).vec f v).sent = (s.vec f v).sent + 1 ∧
      ((l.foldl (sendIfPending f) s).vec f v).masked = (s.vec f v).masked := by
  induction l generalizing s with
  | nil => simp at hv
  | cons w l ih =>
    obtain ⟨hw, hl⟩ := List.nodup_cons.1 hl
    rw [List.foldl_cons]
    by_cases hvw : v = w
    · subst hvw
      have hstep : sendIfPending f s v = s.sentVec f v := (if_pos hp).trans (State.sendVec_leaves h (.inr hp))
      rw [foldl_sendIfPending_vec_ne f v l hw, hstep, State.sentVec_vec]
      exact ⟨rfl, rfl, rfl⟩
    · have hsame := sendIfPending_vec_ne s f v w hvw
      obtain ⟨h1, h2, h3⟩ := ih hl ((List.mem_cons.1 hv).resolve_left hvw) (sendIfPending f s w) (h.after_other hvw) (by rw [hsame, hp])
      exact ⟨h1, by rw [h2, hsame], by rw [h3, hsame]⟩

theorem State.sendPending_sent {s : State} {f v : Nat} (h : s.MayLeave f v) (hp : (s.vec f v).pending = true) :
    ((s.sendPending f).vec f v).pending = false ∧ ((s.sendPending f).vec f v).sent = (s.vec f v).sent + 1 ∧
      ((s.sendPending f).vec f v).masked = (s.vec f v).masked :=
  foldl_sendIfPending_sent f v _ List.nodup_range (List.mem_range.2 h.there) s h hp

@[simp] theorem State.sendPending_fn (s : State) (f g : Nat) : (s.sendPending f).fn g = s.fn g := by simp [State.fn]

theorem State.configLive_link {s : State} (h : s.configLive = true) : s.hif.linkUp = true := by
  simp only [State.configLive, Bool.and_eq_true] at h
  exact h.1.1.1

/-! Invalidations (R325). -/

theorem State.invStart_busy (s : State) (f page n : Nat) :
    ((s.invStart f page n).fn f).invBusy = true ∧ (s.invStart f page n).mem = s.mem ∧
      ∀ e, e ∈ (s.invStart f page n).hif.tcache ↔ e ∈ s.hif.tcache ∧ ¬ (e.fn = f ∧ page ≤ e.page ∧ e.page < page + n) := by
  refine ⟨by simp [State.invStart], rfl, fun e => ?_⟩
  have h : (s.invStart f page n).hif.tcache =
      s.hif.tcache.filter (fun e => !(decide (e.fn = f) && decide (page ≤ e.page) && decide (e.page < page + n))) := rfl
  simp only [h, List.mem_filter, Bool.not_eq_true', Bool.and_eq_false_iff, decide_eq_false_iff_not]
  exact and_congr_right fun _ => by omega

/-- A command that finds its function busy, or its range not aligned or too long, is rejected. -/
theorem State.invCmd_rejected (s : State) (f cmd : Nat) (hgo : bit cmd 0 = true)
    (h : (s.fn f).invBusy = true ∨ (bit cmd 1 = false ∧ (41 < bits cmd 13 8 ∨ (s.fn f).invAddr / 2 ^ 16 % 2 ^ bits cmd 13 8 ≠ 0))) :
    s.invCmd f cmd = s.modFn f (fun x => { x with invRejected := true }) := by
  unfold State.invCmd
  dsimp only
  rw [if_neg (by simp [hgo]), if_pos (by simpa using h)]

theorem State.invCmd_range (s : State) (f cmd : Nat) (hgo : bit cmd 0 = true) (h1 : bit cmd 1 = false) (hb : (s.fn f).invBusy = false) (hn : bits cmd 13 8 ≤ 41)
    (ha : (s.fn f).invAddr / 2 ^ 16 % 2 ^ bits cmd 13 8 = 0) : s.invCmd f cmd = s.invStart f ((s.fn f).invAddr / 2 ^ 16) (2 ^ bits cmd 13 8) := by
  unfold State.invCmd
  dsimp only
  rw [if_neg (by simp [hgo]), if_neg (by rw [hb, ha]; simp; omega), if_neg (by simp [h1])]

theorem State.invCmd_all (s : State) (f cmd : Nat) (hgo : bit cmd 0 = true) (h1 : bit cmd 1 = true) (hb : (s.fn f).invBusy = false) :
    s.invCmd f cmd = s.invStart f 0 (2 ^ 41) := by
  unfold State.invCmd
  dsimp only
  rw [if_neg (by simp [hgo]), if_neg (by simp [hb, h1]), if_pos h1]

theorem invalidations (s : State) (f cmd : Nat) (ho : s.barState f = .opened) (hgo : bit cmd 0 = true) :
    (bit cmd 1 = false → (s.fn f).invBusy = false → bits cmd 13 8 ≤ 41 → (s.fn f).invAddr / 2 ^ 16 % 2 ^ bits cmd 13 8 = 0 →
      ∃ t, exec (.translationInvalidate f cmd) s = .next t ∧ (t.fn f).invBusy = true ∧ t.mem = s.mem ∧
        ∀ e, e ∈ t.hif.tcache ↔ e ∈ s.hif.tcache ∧ ¬ (e.fn = f ∧ (s.fn f).invAddr / 2 ^ 16 ≤ e.page ∧ e.page < (s.fn f).invAddr / 2 ^ 16 + 2 ^ bits cmd 13 8)) ∧
    (bit cmd 1 = true → (s.fn f).invBusy = false →
      ∃ t, exec (.translationInvalidateAll f cmd) s = .next t ∧ (t.fn f).invBusy = true ∧ t.mem = s.mem ∧
        ∀ e, e ∈ t.hif.tcache ↔ e ∈ s.hif.tcache ∧ ¬ (e.fn = f ∧ e.page < 2 ^ 41)) ∧
    (bit cmd 1 = false → (s.fn f).invBusy = true ∨ 41 < bits cmd 13 8 ∨ (s.fn f).invAddr / 2 ^ 16 % 2 ^ bits cmd 13 8 ≠ 0 →
      exec (.translationInvalidate f cmd) s = .next (s.modFn f (fun x => { x with invRejected := true }))) ∧
    (bit cmd 1 = true → (s.fn f).invBusy = true →
      exec (.translationInvalidateAll f cmd) s = .next (s.modFn f (fun x => { x with invRejected := true }))) := by
  have hone : bit cmd 1 = false → translationInvalidate f cmd s = s.invCmd f cmd := fun h1 => if_neg (by simp [ho, h1])
  have hall : bit cmd 1 = true → translationInvalidateAll f cmd s = s.invCmd f cmd := fun h1 => if_neg (by simp [ho, h1])
  refine ⟨fun h1 hb hn ha => ?_, fun h1 hb => ?_, fun h1 h => ?_, fun h1 hb => ?_⟩
  · exact ⟨_, congrArg Host.Outcome.next ((hone h1).trans (s.invCmd_range f cmd hgo h1 hb hn ha)), s.invStart_busy f _ _⟩
  · obtain ⟨hbusy, hmem, hkept⟩ := s.invStart_busy f 0 (2 ^ 41)
    exact ⟨_, congrArg Host.Outcome.next ((hall h1).trans (s.invCmd_all f cmd hgo h1 hb)), hbusy, hmem, fun e => by simpa only [Nat.zero_le, true_and, Nat.zero_add] using hkept e⟩
  · exact congrArg Host.Outcome.next ((hone h1).trans (s.invCmd_rejected f cmd hgo (h.imp_right fun h => ⟨h1, h⟩)))
  · exact congrArg Host.Outcome.next ((hall h1).trans (s.invCmd_rejected f cmd hgo (.inl hb)))

/-- An invalidation is over once no access that used what it dropped is open. -/
theorem invalidateComplete_fn (s : State) (f : Nat) (hb : (s.fn f).invBusy = true) :
    (invalidateComplete f s).fn f =
      if (s.fn f).invWaits.any s.accessOpen then s.fn f else { s.fn f with invBusy := false, invWaits := [] } := by
  have h : (invalidateComplete f s).fn f = (s.modFn f (fun x =>
      if x.invBusy ∧ !x.invWaits.any s.accessOpen then { x with invBusy := false, invWaits := [] } else x)).fn f := rfl
  rw [h, State.modFn_fn_self]
  cases hw : (s.fn f).invWaits.any s.accessOpen <;> simp [hb, hw]

/-! Translations of host pages (R324). -/

theorem atsTranslationCompletion_eq (s : State) (f page frame : Nat) (r w : Bool) (hl : s.hif.linkUp = true) (ha : (s.fn f).atsEnabled = true) :
    ∃ l, (∀ o ∈ l, ¬ (o.fn = f ∧ o.page = page)) ∧ atsTranslationCompletion f page frame r w s =
      State.atsDeny { s with hif.atsCache := l ++ [{ fn := f, page := page, target := 2, frame := frame, r := r, w := w, x := false }] } f page r w := by
  unfold atsTranslationCompletion
  rw [if_neg (by simp [hl, ha])]
  refine ⟨_, fun o ho => ?_, rfl⟩
  have hmem : o ∈ s.hif.atsCache.filter (fun e => !(decide (e.fn = f) && decide (e.page = page))) := by
    split at ho
    · exact List.mem_of_mem_drop ho
    · exact ho
  have hdrop := (List.mem_filter.1 hmem).2
  simp only [Bool.not_eq_true', Bool.and_eq_false_iff, decide_eq_false_iff_not] at hdrop
  omega

/-- With no load, atomic or store to end but one load, a denial kills that load's queue and takes the load out. -/
theorem State.atsDeny_load (s : State) (f page id : Nat) (l : Load) (hl : s.l2.loads = [(id, l)])
    (hwait : (decide (fnOfQueue l.queue = f) &&
      l.accs.any (fun a => (decide (a.target = 2) && decide (a.pa / 2 ^ 16 = page)) && !l.got.has (lineKey 2 (a.pa / 128)))) = true) :
    s.atsDeny f page false true = State.kill { s with l2.loads := [] } l.queue 0x01 (s.groupSite l.core l.slot) := by
  unfold State.atsDeny
  simp only [hl, Bool.not_false, Bool.true_and, List.filter_cons, hwait, if_true, List.filter_nil, List.foldl_cons, List.foldl_nil, SMap.del, Bool.not_true,
    Bool.false_and, List.filter_false, List.map_nil]
  rw [List.flatMap_eq_nil_iff.2 (fun _ _ => rfl)]
  rfl

/-- A fault of class 23 is counted with its class, and among the faults that no recovery covers. -/
theorem linkFault_counted (s : State) :
    (s.faultRecord 23 0 0 0 0 0).num (E.faultClassCount + 22) = (s.num (E.faultClassCount + 22) + 1) % 2 ^ 32 := by
  unfold State.faultRecord
  dsimp only
  rw [State.num_setBlob, ite_num, State.num_setNum_of_ne _ _ (by decide), ite_self, State.addNum, State.num_setNum_of_ne _ _ (by decide)]
  exact State.num_addNum_self _ _ _ _ _

/-- Settles O43: a vector by what `sendVec` makes of it, pending bits by going through the vectors, invalidations and translations by the entries that they drop. -/
theorem messagesAndTranslations : Obligations.MessagesAndTranslations := by
  unfold Obligations.MessagesAndTranslations
  refine ⟨?_, ?_, ?_, ?_, ?_, ?_, invalidations, ?_, ?_, ?_, ?_, ?_, ?_⟩
  · refine fun s f v hv hd hg => ⟨fun hm hu hl => ⟨fun hmod => ?_, fun hmod => ?_⟩, fun h => ?_⟩
    · refine ⟨_, congrArg Host.Outcome.next (State.sendVec_leaves ⟨hv, hg, hm, hu, hl, hmod⟩ (.inl hd)), ?_⟩
      rw [State.sentVec_vec]
      exact ⟨rfl, rfl, rfl, rfl, fun i hi => s.sentVec_host f v i hi, by simp⟩
    · have h : s.sendVec f v = s := by
        rcases hg with hg | hg <;> simp [State.sendVec, hd, hg, hm, hu, hmod]
      exact congrArg Host.Outcome.next h
    · have h : s.sendVec f v = s.modVec f v (fun x => { x with due := false, pending := true }) := by
        rcases hg with hg | hg <;> rcases h with h | h <;> simp [State.sendVec, hd, hg, h, Nat.not_le.2 hv]
      exact congrArg Host.Outcome.next h
  · intro s f v hv hg hd
    have h : s.sendVec f v = s.modVec f v (fun x => { x with due := false, pending := false }) := by
      simp [State.sendVec, hd, hg, Nat.not_le.2 hv]
    exact congrArg Host.Outcome.next h
  · refine fun s f v hv hd hg hm hu hl hla => ⟨fun hmod => ?_, fun hmod => ?_⟩
    · refine ⟨_, congrArg Host.Outcome.next ((if_pos ⟨hla, hmod⟩).trans (State.sendVec_leaves ⟨hv, hg, hm, hu, hl, hmod⟩ hd)), ?_⟩
      rw [State.sentVec_vec]
      exact ⟨rfl, rfl, rfl, rfl, fun i hi => s.sentVec_host f v i hi, by simp⟩
    · exact congrArg Host.Outcome.next (if_neg (by simp [hmod]))
  · intro s f v hc he hv hg hb hd3 hp hmod
    have heq : msixUnmask f v s =
        ((s.modFn f (fun x => { x with msixEnable := true, fnMask := false })).modVec f v (fun x => { x with masked := false })).sendPending f :=
      if_neg (by simp [hc, he, Nat.not_le.2 hv])
    generalize hu : (s.modFn f (fun x => { x with msixEnable := true, fnMask := false })).modVec f v (fun x => { x with masked := false }) = u at heq
    have hfn : u.fn f = { s.fn f with msixEnable := true, fnMask := false } := by
      rw [← hu]
      exact State.modFn_fn_self s f (fun x => { x with msixEnable := true, fnMask := false })
    have hvec : u.vec f v = { s.vec f v with masked := false } := by rw [← hu]; exact State.modVec_vec_self _ _ _ _
    have hleave : u.MayLeave f v :=
      ⟨hv, .inl (by rw [hfn]; exact hg), by rw [hfn]; simp [FnSt.maySend, hb, hd3], by rw [hvec], by rw [← hu]; exact State.configLive_link hc, by
        rw [State.moderated, hvec]
        rw [← hu]
        exact hmod⟩
    obtain ⟨h1, h2, h3⟩ := State.sendPending_sent hleave (by rw [hvec]; exact hp)
    refine ⟨_, congrArg Host.Outcome.next heq, by rw [h3, hvec], h1, by rw [h2, hvec], by rw [State.sendPending_fn, hfn], by rw [State.sendPending_fn, hfn], ?_⟩
    rw [State.sendPending_mem, ← hu]
    rfl
  · intro s f atomic ats hc he
    have heq : busMasterEnableSet f atomic ats s = (s.modFn f (fun x => { x with busMaster := true, atomicReq := atomic, atsEnabled := ats })).sendPending f :=
      if_neg (by simp [hc, he])
    generalize hu : s.modFn f (fun x => { x with busMaster := true, atomicReq := atomic, atsEnabled := ats }) = u at heq
    have hfn : u.fn f = { s.fn f with busMaster := true, atomicReq := atomic, atsEnabled := ats } := by rw [← hu]; exact State.modFn_fn_self _ _ _
    refine ⟨_, congrArg Host.Outcome.next heq, by rw [State.sendPending_fn, hfn], fun v hv hg hen hfm hd3 hp hum hmod => ?_, ?_⟩
    · have hvec : u.vec f v = s.vec f v := by rw [← hu]; rfl
      have hleave : u.MayLeave f v :=
        ⟨hv, .inl (by rw [hfn]; exact hg), by rw [hfn]; simp [FnSt.maySend, hen, hfm, hd3], by rw [hvec, hum], by rw [← hu]; exact State.configLive_link hc, by
          rw [← hu]
          exact hmod⟩
      obtain ⟨h1, h2, -⟩ := State.sendPending_sent hleave (by rw [hvec]; exact hp)
      exact ⟨h1, by rw [h2, hvec]⟩
    · rw [State.sendPending_mem, ← hu]
      rfl
  · intro s f hc he hd3
    have heq : d0Entry f s = (s.modFn f (fun x => { x with d3hot := false })).sendPending f := if_neg (by simp [hc, he, hd3])
    refine ⟨_, congrArg Host.Outcome.next heq, ?_, ?_⟩
    · rw [State.sendPending_fn, State.modFn_fn_self]
    · rw [State.sendPending_mem, State.modFn_mem]
  · refine fun s f hb => ⟨fun hw => ?_, fun ⟨w, hw, ho⟩ => ?_⟩
    · refine ⟨_, rfl, ?_, rfl, rfl⟩
      rw [invalidateComplete_fn s f hb, if_neg (by simpa using hw)]
    · refine ⟨_, rfl, ?_, ?_, rfl⟩ <;> rw [invalidateComplete_fn s f hb, if_pos (List.any_eq_true.2 ⟨w, hw, ho⟩)]
      exact hb
  · intro s f page n hl ha hlen
    have heq : exec (.atsInvalidateRequest f page n) s = .next (atsInvalidateRequest f page n s) := rfl
    rw [atsInvalidateRequest, if_neg (by simp [hl, ha]; omega)] at heq
    by_cases hw : s.hostAccesses f = []
    · refine ⟨_, heq.trans (congrArg Host.Outcome.next (if_pos (by simp [hw]))), fun e he => ?_, fun _ => ⟨rfl, rfl⟩, fun h => absurd hw h, rfl⟩
      have hdrop := (List.mem_filter.1 he).2
      simp only [Bool.not_eq_true', Bool.and_eq_false_iff, decide_eq_false_iff_not] at hdrop
      omega
    · refine ⟨_, heq.trans (congrArg Host.Outcome.next (if_neg (by simpa using hw))), fun e he => ?_, fun h => absurd h hw, fun _ => ⟨rfl, by simp⟩, rfl⟩
      have hdrop := (List.mem_filter.1 he).2
      simp only [Bool.not_eq_true', Bool.and_eq_false_iff, decide_eq_false_iff_not] at hdrop
      omega
  · intro s f page frame r w hl ha
    obtain ⟨l, hfree, heq⟩ := atsTranslationCompletion_eq s f page frame r w hl ha
    refine ⟨_, _, congrArg Host.Outcome.next heq, by rw [State.atsDeny_hif]; exact List.mem_append_right l List.mem_cons_self, rfl, rfl, rfl, rfl, rfl, rfl,
      fun o ho hof hop => ?_, by simp⟩
    rw [State.atsDeny_hif] at ho
    exact (List.mem_append.1 ho).elim (fun h => absurd ⟨hof, hop⟩ (hfree o h)) List.mem_singleton.1
  · intro s f page frame id l a hl ha hloads hq hmem htar hpa hgot halive
    obtain ⟨c, -, heq⟩ := atsTranslationCompletion_eq s f page frame false true hl ha
    have hwait : (decide (fnOfQueue l.queue = f) &&
        l.accs.any (fun a => (decide (a.target = 2) && decide (a.pa / 2 ^ 16 = page)) && !l.got.has (lineKey 2 (a.pa / 128)))) = true := by
      simp only [hq, decide_true, Bool.true_and]
      exact List.any_eq_true.2 ⟨a, hmem, by simp only [htar, hpa, hgot, decide_true, Bool.not_false, Bool.and_self]⟩
    replace heq := heq.trans (State.atsDeny_load _ f page id l hloads hwait)
    refine ⟨_, congrArg Host.Outcome.next heq, ?_, by rw [State.kill_l2], by simp⟩
    obtain ⟨hkilled, -⟩ := State.kill_alive (s := { s with hif.atsCache := c ++ [_], l2.loads := [] }) (q := l.queue) 0x01 _ halive
    exact ⟨congrArg Queue.state hkilled, congrArg Queue.killCode hkilled⟩
  · intro s hl
    have heq : pcieLinkDown s = State.faultRecord { s with hif.linkUp := false } 23 0 0 0 0 0 := if_neg (by simp [hl])
    refine ⟨_, congrArg Host.Outcome.next heq, by simp, ?_, by simp, by simp⟩
    exact linkFault_counted { s with hif.linkUp := false }
  · intro s hl hp hd hm
    exact ⟨_, congrArg Host.Outcome.next (if_neg (by simp [hl, hp, hd, hm])), rfl, rfl, rfl⟩

end Sys2Proof.Machine
end

section
/-! What the operations of the sync unit, its releases and its answers leave as they were. -/

namespace Sys2Proof.Machine

@[simp] theorem State.traceSync_mgt (s : State) (m : SynMsg) : (s.traceSync m).mgt = s.mgt := by simp [State.traceSync]
@[simp] theorem State.traceSync_hif (s : State) (m : SynMsg) : (s.traceSync m).hif = s.hif := by simp [State.traceSync]
@[simp] theorem State.traceSync_fe (s : State) (m : SynMsg) : (s.traceSync m).fe = s.fe := by simp [State.traceSync]
@[simp] theorem State.traceSync_syn (s : State) (m : SynMsg) : (s.traceSync m).syn = s.syn := by simp [State.traceSync]
@[simp] theorem State.emitRec_stk (s : State) (source : Nat) (r : TrcRec) : (s.emitRec source r).stk = s.stk := by simp [State.emitRec, ite_stk]
@[simp] theorem State.trace_stk (s : State) (srcBit kind domain unit queue layer operator aux detail : Nat) : (s.trace srcBit kind domain unit queue layer operator aux detail).stk = s.stk :=
  by simp [State.trace]
@[simp] theorem State.traceSync_stk (s : State) (m : SynMsg) : (s.traceSync m).stk = s.stk := by simp [State.traceSync]
@[simp] theorem State.traceSync_nwt (s : State) (m : SynMsg) : (s.traceSync m).nwt = s.nwt := by simp [State.traceSync]
@[simp] theorem State.traceSync_cores (s : State) (m : SynMsg) : (s.traceSync m).cores = s.cores := by simp [State.traceSync]
@[simp] theorem State.traceSync_l2 (s : State) (m : SynMsg) : (s.traceSync m).l2 = s.l2 := by simp [State.traceSync]
@[simp] theorem State.traceSync_fab (s : State) (m : SynMsg) : (s.traceSync m).fab = s.fab := by simp [State.traceSync]
@[simp] theorem State.traceSync_mem (s : State) (m : SynMsg) : (s.traceSync m).mem = s.mem := by simp [State.traceSync]
@[simp] theorem State.emitRec_poison (s : State) (source : Nat) (r : TrcRec) : (s.emitRec source r).poison = s.poison := by simp [State.emitRec, ite_poison]
@[simp] theorem State.trace_poison (s : State) (srcBit kind domain unit queue layer operator aux detail : Nat) : (s.trace srcBit kind domain unit queue layer operator aux detail).poison = s.poison :=
  by simp [State.trace]
@[simp] theorem State.traceSync_poison (s : State) (m : SynMsg) : (s.traceSync m).poison = s.poison := by simp [State.traceSync]
@[simp] theorem State.emitRec_free (s : State) (source : Nat) (r : TrcRec) : (s.emitRec source r).free = s.free := by simp [State.emitRec, ite_free]
@[simp] theorem State.trace_free (s : State) (srcBit kind domain unit queue layer operator aux detail : Nat) : (s.trace srcBit kind domain unit queue layer operator aux detail).free = s.free :=
  by simp [State.trace]
@[simp] theorem State.traceSync_free (s : State) (m : SynMsg) : (s.traceSync m).free = s.free := by simp [State.traceSync]
@[simp] theorem State.faultWho_mem (s : State) (w : WaiterWho) (q code : Nat) : (s.faultWho w q code).mem = s.mem := by
  unfold State.faultWho
  (repeat' split) <;> simp
@[simp] theorem State.pushStk_syn (s : State) (rec : Nat) : (s.pushStk rec).syn = s.syn := by simp [State.pushStk, ite_syn]
@[simp] theorem State.consumePoison_syn (s : State) (pa : Nat) : (s.consumePoison pa).syn = s.syn := by simp [State.consumePoison]
@[simp] theorem State.sawPoison_syn (s : State) (code f va n : Nat) : (s.sawPoison code f va n).syn = s.syn := by
  unfold State.sawPoison
  (repeat' split) <;> simp
@[simp] theorem State.traceFe_syn (s : State) (kind queue layer operator aux detail : Nat) : (s.traceFe kind queue layer operator aux detail).syn = s.syn :=
  by simp [State.traceFe]
@[simp] theorem State.setShares_syn (s : State) (g : List Share → List Share) : (s.setShares g).syn = s.syn := rfl
@[simp] theorem State.stopShares_syn (s : State) (p : Nat → Bool) : (s.stopShares p).syn = s.syn := rfl
@[simp] theorem State.countKill_syn (s : State) (code : Nat) : (s.countKill code).syn = s.syn := by simp [State.countKill, ite_syn]
@[simp] theorem State.kill_syn (s : State) (q code : Nat) (site : Site) (inFlight : optParam Bool false) : (s.kill q code site inFlight).syn = s.syn :=
  by simp [State.kill, ite_syn]
@[simp] theorem State.coreFault_syn (s0 : State) (c slot thread code pc addr : Nat) (scratch : optParam Bool false) (point : optParam (Option Nat) none) : (s0.coreFault c slot thread code pc addr scratch point).syn = s0.syn := by
  unfold State.coreFault
  dsimp only
  (repeat' split) <;> simp
@[simp] theorem State.faultWho_syn (s : State) (w : WaiterWho) (q code : Nat) : (s.faultWho w q code).syn = s.syn := by
  unfold State.faultWho
  (repeat' split) <;> simp
@[simp] theorem State.countSent_mem (s : State) (link : Nat) (via : Option Nat) (len queue : Nat) : (s.countSent link via len queue).mem = s.mem :=
  by simp [State.countSent, ite_mem]
@[simp] theorem State.respond_mem (s : State) (type chip seq op status : Nat) (data : List Byte) (poison : Nat) : (s.respond type chip seq op status data poison).mem = s.mem :=
  by simp [State.respond]
@[simp] theorem State.killWaiter_mem (s : State) (w : Waiter) (code : Nat) : (s.killWaiter w code).mem = s.mem := by
  unfold State.killWaiter
  split <;> simp
@[simp] theorem State.countSent_syn (s : State) (link : Nat) (via : Option Nat) (len queue : Nat) : (s.countSent link via len queue).syn = s.syn :=
  by simp [State.countSent, ite_syn]
@[simp] theorem State.respond_syn (s : State) (type chip seq op status : Nat) (data : List Byte) (poison : Nat) : (s.respond type chip seq op status data poison).syn = s.syn :=
  by simp [State.respond]
@[simp] theorem State.killWaiter_syn (s : State) (w : Waiter) (code : Nat) : (s.killWaiter w code).syn = s.syn := by
  unfold State.killWaiter
  split <;> simp
@[simp] theorem State.countSent_cores (s : State) (link : Nat) (via : Option Nat) (len queue : Nat) : (s.countSent link via len queue).cores = s.cores :=
  by simp [State.countSent, ite_cores]
@[simp] theorem State.respond_cores (s : State) (type chip seq op status : Nat) (data : List Byte) (poison : Nat) : (s.respond type chip seq op status data poison).cores = s.cores :=
  by simp [State.respond]
@[simp] theorem State.freeVal_mem (s : State) (w : Nat) : (s.freeVal w).2.mem = s.mem := rfl
@[simp] theorem State.countWait_mem (s : State) (c q : Nat) : (s.countWait c q).mem = s.mem := by simp [State.countWait]
@[simp] theorem State.freeVal_syn (s : State) (w : Nat) : (s.freeVal w).2.syn = s.syn := rfl
@[simp] theorem State.countWait_syn (s : State) (c q : Nat) : (s.countWait c q).syn = s.syn := by simp [State.countWait]
@[simp] theorem State.freeVal_fab (s : State) (w : Nat) : (s.freeVal w).2.fab = s.fab := rfl
@[simp] theorem State.countWait_fab (s : State) (c q : Nat) : (s.countWait c q).fab = s.fab := by simp [State.countWait]
@[simp] theorem State.nodeDone_mem (s : State) (id : Nat) : (s.nodeDone id).mem = s.mem := rfl
@[simp] theorem State.releaseNode_mem (s : State) (r : SynRelease) (id : Nat) : (s.releaseNode r id).mem = s.mem := by
  unfold State.releaseNode
  (repeat' split) <;> simp
@[simp] theorem State.nodeDone_cores (s : State) (id : Nat) : (s.nodeDone id).cores = s.cores := rfl
@[simp] theorem State.releaseNode_cores (s : State) (r : SynRelease) (id : Nat) : (s.releaseNode r id).cores = s.cores := by
  unfold State.releaseNode
  (repeat' split) <;> simp
@[simp] theorem State.releasePlan_mem (s : State) (r : SynRelease) (ctx : Nat) : (s.releasePlan r ctx).mem = s.mem := by
  unfold State.releasePlan
  (repeat' split) <;> simp
@[simp] theorem State.releasePlan_cores (s : State) (r : SynRelease) (ctx : Nat) : (s.releasePlan r ctx).cores = s.cores := by
  unfold State.releasePlan
  (repeat' split) <;> simp

end Sys2Proof.Machine
end

section
/-! The cancellation of a wait on another chip's object, with every accumulator of the layer table in use (R157, R440, R441). -/

namespace Sys2Proof.Machine

/-! Counting for a pair that has no accumulator, with all 4,096 in use. -/

/-- The oldest of equal accumulators of one function is the first. -/
theorem foldl_oldest_replicate (f n : Nat) (a : Accum) :
    (List.replicate n (f, a)).foldl (fun o x => match o with
      | none => some x
      | some y => if x.2.used < y.2.used then some x else some y) (some (f, a)) = some (f, a) := by
  induction n with
  | zero => rfl
  | succ n ih => simpa [List.replicate_succ] using ih

theorem State.oldestAccum_full {s : State} {f n : Nat} {c : CntFn} {a : Accum} (hf : s.obs.fns = [(f, c)]) (ha : c.accums = List.replicate (n + 1) a) :
    s.oldestAccum = some (f, a) := by
  unfold State.oldestAccum
  rw [hf, List.flatMap_cons, List.flatMap_nil, List.append_nil, ha, List.map_replicate, List.replicate_succ, List.foldl_cons]
  exact foldl_oldest_replicate f n a

/-- The state in which the oldest accumulator has just been taken out of a full table. -/
def State.emptied (s : State) (f : Nat) (c : CntFn) : State := { s with obs.fns := [(f, { c with accums := [] })] }

theorem State.roomForAccum_full {s : State} {f n : Nat} {c : CntFn} {a : Accum} (hf : s.obs.fns = [(f, c)]) (ha : c.accums = List.replicate (n + 1) a)
    (hn : 4096 ≤ n + 1) :
    s.roomForAccum = State.flushAccums (s.emptied f c) f (s.num E.cntLayerBase f) (s.num E.cntLayerEntries f) [a] := by
  have hcount : s.accumCount = n + 1 := by
    rw [State.accumCount, hf]
    simp [SMap.vals, sumNat, ha]
  have hput : s.modCntFn f (fun c => { c with accums := c.accums.filter (fun b => !decide (b = a)) }) = s.emptied f c := by
    rw [State.modCntFn, hf]
    simp [State.emptied, SMap.modify, SMap.put, SMap.getD, SMap.get?, ha]
  rw [State.roomForAccum, if_neg (by omega), State.oldestAccum_full hf ha, ← hput]

/-- A quantity for a pair without an accumulator makes room in a full table: the oldest accumulator is added to its function's table in memory. -/
theorem State.addQty_full {s : State} {q i n m layer op : Nat} {c : CntFn} {a : Accum} (hf : s.obs.fns = [(fnOfQueue q, c)])
    (ha : c.accums = List.replicate (m + 1) a) (hm : 4096 ≤ m + 1) (hne : a.layer ≠ layer) (hi : i ≠ 7) (hn : n ≠ 0) (hb : s.num E.cntLayerBase (fnOfQueue q) ≠ 0) :
    (s.addQty q i n layer op).mem =
      (State.flushAccums (State.emptied { s with obs.queueCnt := s.obs.queueCnt.put (q * 8 + i) ((s.obs.queueCnt.getD (q * 8 + i) 0 + n) % 2 ^ 64) } (fnOfQueue q) c)
        (fnOfQueue q) (s.num E.cntLayerBase (fnOfQueue q)) (s.num E.cntLayerEntries (fnOfQueue q)) [a]).mem := by
  have hroom (t : State) (hf : t.obs.fns = [(fnOfQueue q, c)]) : (t.accumulate (fnOfQueue q) layer op i n).mem = t.roomForAccum.mem := by
    have hnone : (t.cntFn (fnOfQueue q)).accums.any (fun b => decide (b.layer = layer) && decide (b.operator = op)) = false := by
      rw [State.cntFn, hf]
      simp [SMap.getD, SMap.get?, ha, hne]
    rw [State.accumulate]
    dsimp only
    rw [if_neg (by simp [hnone])]
    rfl
  unfold State.addQty
  dsimp only
  rw [if_neg (by simp only [not_or]; exact ⟨hi, hn, hb⟩)]
  generalize hu : { s with obs.queueCnt := s.obs.queueCnt.put (q * 8 + i) ((s.obs.queueCnt.getD (q * 8 + i) 0 + n) % 2 ^ 64) } = u
  have hfu : u.obs.fns = [(fnOfQueue q, c)] := by rw [← hu]; exact hf
  have hmgt : u.mgt = s.mgt := by rw [← hu]
  rw [hroom u hfu, State.roomForAccum_full hfu ha hm, State.num_of_mgt_num (congrArg Mgt.num hmgt), State.num_of_mgt_num (congrArg Mgt.num hmgt)]

/-! A group whose wait stands at another chip. -/

/-- The accumulator of layer 1. -/
def layerOne : Accum := { layer := 1, operator := 0, sums := [], used := 0 }

/-- Function 0's accumulators are all 4,096 of the chip. -/
def fullCounts : CntFn := { CntFn.initial with accums := List.replicate 4096 layerOne }

/-- A stopped group of queue 0 waits at chip 1, function 0 has a key, a table of 64 entries at 4,096 and every accumulator. -/
def farWait : State :=
  { State.reset with
    mgt.num := [(E.fnFabKey * 256, 7), (E.cntLayerBase * 256, 4096), (E.cntLayerEntries * 256, 64)]
    hif.tcache := [{ fn := 0, page := 0, target := 0, frame := 0, r := true, w := true, x := false }]
    cores := [(0, { Core.initial with groups := [(0, { loaderGroup with stopped := true })] })]
    fab.remoteWaits := [(2 ^ 32, { who := .core 0 0 1 0 0 0, queue := 0, op := 1, value := 0, scope := 0 })]
    fab.reachable := [1]
    obs.fns := [(0, fullCounts)] }

/-- The state after the group's own deliveries and its waits on this chip, of which there are none. -/
def farWaitLeft : State := (farWait.deliverGroup 0 0).dropWaiters (fun w => w.who.isGroup 0 0)

/-- What the cancellation of a stopped group's waits does to memory, the cancellations at other chips do. -/
theorem syncWaitCancel_mem {s : State} {c slot : Nat} {g : Group} (hg : (s.core c).groups.get? slot = some g) (hs : g.stopped = true) :
    (syncWaitCancel c slot s).mem = (((s.deliverGroup c slot).dropWaiters (fun w => w.who.isGroup c slot)).cancelFars (fun w => w.isGroup c slot)).mem := by
  rw [syncWaitCancel, hg]
  dsimp only
  rw [if_neg (by simp [hs])]
  split <;> simp

/-- What the message that is sent does to memory, its count does. -/
theorem State.sendNow_mem (s : State) (key f q type dst op addr : Nat) (data : List Byte) (poison : Nat) (issuer : Issuer) :
    (s.sendNow key f q type dst op addr data poison issuer).mem =
      (s.addQty q 5 data.length (s.issuerTags issuer).1 (s.issuerTags issuer).2).mem := by
  simp [State.sendNow]

set_option maxRecDepth 20000 in
theorem farWaitLeft_sends : farWaitLeft.cancelFars (fun w => w.isGroup 0 0) =
    farWaitLeft.sendNow 7 0 0 0x04 1 8 0 (leBytes 8 0 ++ zeroBytes 8) 0 (.cancel (2 ^ 32)) := by
  have hkey : farWaitLeft.num E.fnFabKey (fnOfQueue 0) = 7 := by decide
  have hwaits : farWaitLeft.fab.remoteWaits.filter (fun e => WaiterWho.isGroup e.2.who 0 0) =
      [(2 ^ 32, { who := .core 0 0 1 0 0 0, queue := 0, op := 1, value := 0, scope := 0 })] := by decide
  rw [State.cancelFars, hwaits, List.foldl_cons, List.foldl_nil, State.cancelFar, if_neg (by decide), State.sendReq, hkey]
  dsimp only
  rw [if_neg (by decide), State.sendKeyed, if_neg (by decide), if_neg (by decide)]
  rfl

/-- The bytes at 8,064 before and after. -/
theorem farWait_written : cellGet (syncWaitCancel 0 0 farWait).mem 8064 = 1#8 := by
  rw [syncWaitCancel_mem (g := { loaderGroup with stopped := true }) rfl rfl]
  change cellGet (farWaitLeft.cancelFars _).mem 8064 = _
  rw [farWaitLeft_sends, State.sendNow_mem, State.addQty_full (c := fullCounts) (a := layerOne) (m := 4095) rfl rfl (by decide) (by decide) (by decide) (by decide) (by decide)]
  decide

/-- Refutes O39: the cancellation that a stopped group sends to another chip counts a packet, which takes an accumulator of a full table and adds the oldest one to its table in memory. -/
theorem not_syncWaits : ¬ Obligations.SyncWaits := by
  unfold Obligations.SyncWaits
  rintro ⟨-, -, -, -, -, -, -, hcancel⟩
  obtain ⟨t, h, ht, -, -, -, -, -, -, -, -, -, hmem⟩ :=
    hcancel farWait 0 0 { loaderGroup with stopped := true } rfl rfl (fun r hr => absurd hr List.not_mem_nil)
  have htl : t = syncWaitCancel 0 0 farWait := (Host.Outcome.next.inj ht).symm
  have hbyte : cellGet (syncWaitCancel 0 0 farWait).mem 8064 = 0#8 := by rw [← htl, hmem]; rfl
  exact absurd (farWait_written.symm.trans hbyte) (by decide)

end Sys2Proof.Machine
end

section
/-! What a write of an agent leaves in memory: the bytes that it carries, and every other byte as it was (R224, Table 9.6). -/

namespace Sys2Proof.Machine

/-! Bytes that one write stores over those of another. -/

theorem cellWrite_append (m : List Host.Cell) (a : Nat) (l k : List Byte) : cellWrite m a (l ++ k) = cellWrite (cellWrite m a l) (a + l.length) k := by
  induction l generalizing m a with
  | nil => rfl
  | cons b l ih => rw [List.cons_append, cellWrite, cellWrite, ih, List.length_cons, show a + 1 + l.length = a + (l.length + 1) by omega]

/-- A write inside one granule that is sound stores its bytes. -/
theorem State.bankGranule_sound {s : State} {pa : Nat} {d : List Byte} (hp : s.granulePoison (pa / 16) = false) (hlt : pa < memSize) :
    (s.bankGranule pa d).mem = cellWrite s.mem pa d := by
  simp only [State.granulePoison, Bool.or_eq_false_iff] at hp
  rw [State.bankGranule, if_neg (by simp [hp.2]; omega)]
  split
  · rfl
  · rw [if_neg (by simpa using hp.1)]

/-- A write of one granule poisons no other. -/
theorem State.granulePoison_bankGranule {s : State} {pa g : Nat} {d : List Byte} (hp : s.granulePoison g = false) :
    (s.bankGranule pa d).granulePoison g = false := by
  simp only [State.granulePoison, Bool.or_eq_false_iff, State.granuleFailed_bankGranule] at hp ⊢
  refine ⟨?_, hp.2⟩
  have hsub : ∀ x ∈ (s.bankGranule pa d).poison, x ∈ s.poison := by
    intro x hx
    unfold State.bankGranule at hx
    split_ifs at hx
    · exact hx
    · exact (List.mem_filter.1 hx).1
    · exact hx
    · exact hx
  simpa using fun h => (by simpa using hp.1 : g ∉ s.poison) (hsub g h)

/-- A write of sound granules stores its bytes. -/
theorem State.bankPieces_mem (k pa : Nat) (data : List Byte) {s : State} (hk : data.length ≤ 16 * (k - 1) + (16 - pa % 16)) (hk1 : 1 ≤ k)
    (hp : ∀ g, pa / 16 ≤ g → 16 * g < pa + data.length → s.granulePoison g = false) (hlt : pa + data.length ≤ memSize) :
    (s.bankPieces k pa data).mem = cellWrite s.mem pa data := by
  induction k generalizing s pa data with
  | zero => omega
  | succ k ih =>
    cases data with
    | nil => rfl
    | cons b t =>
      rw [State.bankPieces]
      · set l := b :: t with hl
        have hpos : 0 < l.length := by simp [hl]
        have hone : (s.bankGranule pa (l.take (16 - pa % 16))).mem = cellWrite s.mem pa (l.take (16 - pa % 16)) :=
          State.bankGranule_sound (hp _ le_rfl (by omega)) (by omega)
        by_cases hshort : l.length ≤ 16 - pa % 16
        · rw [List.drop_eq_nil_of_le hshort, List.take_of_length_le hshort] at *
          cases k with
          | zero => exact hone
          | succ k => exact hone
        · have hlen : (l.take (16 - pa % 16)).length = 16 - pa % 16 := by simp; omega
          rw [ih (pa + (16 - pa % 16)) (l.drop (16 - pa % 16)) (by simp; omega) (by omega)
            (fun g hg hlt => State.granulePoison_bankGranule (hp g (by omega) (by simp at hlt; omega))) (by simp; omega), hone]
          conv_rhs => rw [← List.take_append_drop (16 - pa % 16) l, cellWrite_append, hlen]
      · simp

theorem State.bankWrite_mem {s : State} {pa : Nat} {data : List Byte} (hp : ∀ g, pa / 16 ≤ g → 16 * g < pa + data.length → s.granulePoison g = false)
    (hlt : pa + data.length ≤ memSize) : (s.bankWrite pa data).mem = cellWrite s.mem pa data :=
  State.bankPieces_mem _ pa data (by omega) (by omega) hp hlt

/-! Lines of which no home holds a copy. -/

theorem State.lineToI_none {s : State} {l : Nat} (h : s.l2.dir.get? l = none) : s.lineToI l = s := by
  rw [State.lineToI, h]

theorem State.foldl_lineToI_none (l : List Nat) {s : State} (h : ∀ x ∈ l, s.l2.dir.get? x = none) : l.foldl State.lineToI s = s := by
  induction l with
  | nil => rfl
  | cons x l ih => rw [List.foldl_cons, State.lineToI_none (h x List.mem_cons_self), ih fun y hy => h y (List.mem_cons_of_mem x hy)]

/-- A write of an agent to lines that no home holds and granules that are sound stores its bytes. -/
theorem State.agentWrite_mem {s : State} {pa : Nat} {data : List Byte} (hl : ∀ l ∈ linesOf pa data.length, s.l2.dir.get? l = none)
    (hp : ∀ i, i < data.length → s.granulePoison ((pa + i) / 16) = false) (hlt : pa + data.length ≤ memSize) :
    (s.agentWrite pa data).mem = cellWrite s.mem pa data := by
  rw [State.agentWrite, State.foldl_lineToI_none _ hl]
  rcases Nat.eq_zero_or_pos data.length with h0 | hpos
  · rw [List.length_eq_zero_iff.1 h0]
    rfl
  refine State.bankWrite_mem (fun g hg hgt => ?_) hlt
  have hin : (pa + (max pa (16 * g) - pa)) / 16 = g := by omega
  exact hin ▸ hp (max pa (16 * g) - pa) (by omega)

end Sys2Proof.Machine
end

section
/-! The sync unit applies operations on its objects (R297 to R301, R158, R287). -/

namespace Sys2Proof.Machine

/-! An object without mirror and notification. -/

theorem SynObj.evaluate_quiet {x : SynObj} (h : x.quiet) : x.evaluate.1.quiet := by
  obtain ⟨hm, hn⟩ := h
  unfold SynObj.evaluate
  split
  · exact ⟨hm, hn⟩
  · split <;> exact ⟨hm, hn⟩

theorem SynObj.operate_quiet {x : SynObj} (h : x.quiet) (op v : Nat) : (x.operate op v).2.quiet := by
  obtain ⟨hm, hn⟩ := h
  unfold SynObj.operate
  split
  · exact ⟨hm, hn⟩
  · exact ⟨hm, hn⟩
  · dsimp only
    split <;> exact ⟨hm, hn⟩
  · exact ⟨hm, hn⟩

/-- The state after an object's operation, beside mirrors and notifications: the object as its waiters leave it, and the releases on their way. -/
def State.evaluated (s : State) (o : Nat) (x : SynObj) : State :=
  { s with syn.objs := s.syn.objs.put o x.evaluate.1, syn.outbound := s.syn.outbound ++ x.evaluate.2 }

theorem State.finishObj_quiet (s : State) (o : Nat) (old : SynObj) {x : SynObj} (h : x.quiet) : s.finishObj o old x = s.evaluated o x := by
  obtain ⟨hm, hn⟩ := SynObj.evaluate_quiet h
  have hmirror (t : State) : t.mirrorWrite o x.evaluate.1 = t := by rw [State.mirrorWrite, hm]
  unfold State.finishObj
  dsimp only
  rw [hmirror, ite_self, State.notifyCheck]
  simp only [SMap.get?_put_self, hn]
  rfl

theorem State.evaluated_only (s : State) (o : Nat) (x : SynObj) : ObjectOnly s (s.evaluated o x) o :=
  ⟨fun _ hk => SMap.get?_put_ne _ _ hk, rfl, rfl, rfl, rfl⟩

theorem State.evaluated_obj (s : State) (o : Nat) (x : SynObj) : (s.evaluated o x).syn.objs.get? o = some x.evaluate.1 := SMap.get?_put_self _ _ _

/-! What evaluating an object's waiters gives. -/

theorem SynObj.evaluate_error {x : SynObj} (h : x.code ≠ 0) : x.evaluate = ({ x with waiters := [] }, x.waiters.map (fun w => w.release x.code)) := if_pos h

theorem SynObj.evaluate_sem {x : SynObj} (h : x.code = 0) (ht : x.type = .sem) :
    x.evaluate = ({ x with value := x.value - min x.value x.waiters.length, waiters := x.waiters.drop (min x.value x.waiters.length) },
      (x.waiters.take (min x.value x.waiters.length)).map (fun w => w.release 0)) := by
  rw [SynObj.evaluate, if_neg (by simp [h]), ht]

theorem SynObj.evaluate_other {x : SynObj} (h : x.code = 0) (ht : x.type ≠ .sem) :
    x.evaluate = ({ x with waiters := x.waiters.filter (fun w => !x.holdsFor w) }, (x.waiters.filter x.holdsFor).map (fun w => w.release 0)) := by
  rw [SynObj.evaluate, if_neg (by simp [h])]
  cases hx : x.type with
  | sem => exact absurd hx ht
  | fence => rfl
  | bar => rfl

/-- With no condition of its waiters met, an object keeps them all. -/
theorem SynObj.evaluate_none {x : SynObj} (h : x.code = 0) (ht : x.type ≠ .sem) (hw : ∀ w ∈ x.waiters, x.holdsFor w = false) : x.evaluate = (x, []) := by
  rw [SynObj.evaluate_other h ht, List.filter_eq_self.2 (fun w hm => by simp [hw w hm]), List.filter_eq_nil_iff.2 (fun w hm => by simp [hw w hm])]
  rfl

/-- With the condition of every waiter met, all are released. -/
theorem SynObj.evaluate_all {x : SynObj} (h : x.code = 0) (ht : x.type ≠ .sem) (hw : ∀ w ∈ x.waiters, x.holdsFor w = true) :
    x.evaluate = ({ x with waiters := [] }, x.waiters.map (fun w => w.release 0)) := by
  rw [SynObj.evaluate_other h ht, List.filter_eq_nil_iff.2 (fun w hm => by simp [hw w hm]), List.filter_eq_self.2 hw]

/-- The type that defines an operation. -/
theorem ObjType.defines_iff (t : ObjType) (op : Nat) : t.defines op = true ↔ (t = .fence ∧ op ≤ 2) ∨ (t = .sem ∧ (op = 3 ∨ op = 4)) ∨ (t = .bar ∧ (op = 5 ∨ op = 6)) := by
  cases t <;> simp only [ObjType.defines, decide_eq_true_eq, reduceCtorEq, true_and, false_and, or_false, false_or]
  omega

/-! An operation that reaches its object. -/

/-- The state in which an operation has left the list of those that arrive and is traced. -/
def State.taken (s : State) (i : Nat) (m : SynMsg) : State := State.traceSync { s with syn.inbound := dropAt s.syn.inbound i } m

theorem State.taken_only (s : State) (i : Nat) (m : SynMsg) (o : Nat) : ObjectOnly s (s.taken i m) o := by
  refine ⟨fun k _ => ?_, ?_, ?_, ?_, ?_⟩ <;> simp [State.taken]

theorem State.taken_syn (s : State) (i : Nat) (m : SynMsg) : (s.taken i m).syn = { s.syn with inbound := dropAt s.syn.inbound i } := by simp [State.taken]

theorem ObjectOnly.trans {s t u : State} {o : Nat} (h : ObjectOnly s t o) (k : ObjectOnly t u o) : ObjectOnly s u o := by
  obtain ⟨ho, hm, hc, hl, hf⟩ := h
  obtain ⟨ho', hm', hc', hl', hf'⟩ := k
  exact ⟨fun k hk => (ho' k hk).trans (ho k hk), hm'.trans hm, hc'.trans hc, hl'.trans hl, hf'.trans hf⟩

/-- An operation with an answer: its object as the waiters leave it, the releases and the answer on their way. -/
def State.operated (s : State) (o : Nat) (x : SynObj) (r : SynRelease) : State :=
  { s.evaluated o x with syn.outbound := (s.evaluated o x).syn.outbound ++ [r] }

theorem State.operated_only (s : State) (o : Nat) (x : SynObj) (r : SynRelease) : ObjectOnly s (s.operated o x r) o := s.evaluated_only o x

theorem State.operated_obj (s : State) (o : Nat) (x : SynObj) (r : SynRelease) : (s.operated o x r).syn.objs.get? o = some x.evaluate.1 := s.evaluated_obj o x

theorem State.operated_outbound (s : State) (o : Nat) (x : SynObj) (r : SynRelease) :
    (s.operated o x r).syn.outbound = s.syn.outbound ++ x.evaluate.2 ++ [r] := rfl

theorem State.operated_inbound (s : State) (o : Nat) (x : SynObj) (r : SynRelease) : (s.operated o x r).syn.inbound = s.syn.inbound := rfl

theorem syncObjectApply_first {s : State} {i : Nat} {m : SynMsg} (hi : s.syn.inbound[i]? = some m) (hf : firstOfObj s.syn.inbound i m.obj = true) :
    syncObjectApply i s = State.applyMsg { s with syn.inbound := dropAt s.syn.inbound i } m := by
  rw [syncObjectApply, hi]
  exact if_pos hf

theorem State.admitsFn_congr {s t : State} (h : t.mgt.num = s.mgt.num) (x : SynObj) (f : Nat) : t.admitsFn x f = s.admitsFn x f := by
  unfold State.admitsFn State.fnPart
  simp only [State.num_of_mgt_num h]

/-- An operation that its object allows. -/
theorem syncObjectApply_allowed {s : State} {i : Nat} {m : SynMsg} {x : SynObj} (h : s.applies i m x) (hop : m.op < 16) :
    syncObjectApply i s =
      let r := (s.taken i m).objOperate m.obj x m.op m.value
      { r.2 with syn.outbound := r.2.syn.outbound ++ [m.answer r.1] } := by
  obtain ⟨hi, hf, hx, hdef, had, -⟩ := h
  have had' : State.admitsFn { s with syn.inbound := dropAt s.syn.inbound i } x m.fn = true := had
  rw [syncObjectApply_first hi hf, State.applyMsg, hx]
  dsimp only
  rw [if_neg (by omega), if_neg (by rw [hdef, had']; decide)]
  rfl

/-- A state with one more answer on its way. -/
def State.answered (s : State) (r : SynRelease) : State := { s with syn.outbound := s.syn.outbound ++ [r] }

theorem State.answered_syn (s : State) (r : SynRelease) : (s.answered r).syn = { s.syn with outbound := s.syn.outbound ++ [r] } := rfl

theorem State.answered_only (s : State) (o : Nat) (r : SynRelease) : ObjectOnly s (s.answered r) o := ⟨fun _ _ => rfl, rfl, rfl, rfl, rfl⟩

/-- An operation on an ERROR object is answered with its code. -/
theorem syncObjectApply_errored {s : State} {i : Nat} {m : SynMsg} {x : SynObj} (h : s.applies i m x) (hop : m.op < 16) (hc : x.code ≠ 0) :
    syncObjectApply i s = (s.taken i m).answered (m.answer x.code) := by
  rw [syncObjectApply_allowed h hop]
  generalize s.taken i m = u
  rw [State.objOperate, if_pos hc]
  rfl

/-- A set-error of a function that its object admits. -/
theorem State.applyMsg_setError {s : State} {m : SynMsg} {x : SynObj} (hx : s.syn.objs.get? m.obj = some x) (hop : 16 < m.op) (had : s.admitsFn x m.fn = true) :
    s.applyMsg m = if x.code ≠ 0 then s else s.finishObj m.obj x { x with code := m.op - 16 } := by
  rw [State.applyMsg, hx]
  dsimp only
  rw [if_pos hop.le, if_pos had, State.objError, hx]

/-- The state in which an operation has left the list of those that arrive. -/
def State.without (s : State) (i : Nat) : State := { s with syn.inbound := dropAt s.syn.inbound i }

theorem syncObjectApply_setError {s : State} {i : Nat} {m : SynMsg} {x : SynObj} (hi : s.syn.inbound[i]? = some m)
    (hf : firstOfObj s.syn.inbound i m.obj = true) (hx : s.syn.objs.get? m.obj = some x) (hop : 16 < m.op) (had : s.admitsFn x m.fn = true) :
    syncObjectApply i s = if x.code ≠ 0 then s.without i else (s.without i).finishObj m.obj x { x with code := m.op - 16 } := by
  have hu (u : State) (hu : State.applyMsg u m = syncObjectApply i s) (hux : u.syn.objs.get? m.obj = some x) (hua : u.admitsFn x m.fn = true) :
      syncObjectApply i s = if x.code ≠ 0 then u else u.finishObj m.obj x { x with code := m.op - 16 } := by
    rw [← hu, State.applyMsg_setError hux hop hua]
  exact hu (s.without i) (syncObjectApply_first hi hf).symm hx ((State.admitsFn_congr rfl _ _).trans had)

theorem syncObjectApply_ok {s : State} {i : Nat} {m : SynMsg} {x : SynObj} (h : s.applies i m x) (hop : m.op < 16) (hc : x.code = 0) :
    syncObjectApply i s = (s.taken i m).operated m.obj (x.operate m.op m.value).2 (m.answer (x.operate m.op m.value).1) := by
  rw [syncObjectApply_allowed h hop, State.objOperate, if_neg (by simp [hc])]
  dsimp only
  rw [State.finishObj_quiet _ _ _ (SynObj.operate_quiet h.2.2.2.2.2 _ _)]
  rfl

/-- What an allowed operation on an OK object leaves. -/
theorem syncObjectApply_effect {s : State} {i : Nat} {m : SynMsg} {x z y : SynObj} {st : Nat} {rs : List SynRelease} (h : s.applies i m x) (hop : m.op < 16)
    (hc : x.code = 0) (hz : x.operate m.op m.value = (st, z)) (hev : z.evaluate = (y, rs)) :
    ∃ t, exec (.syncObjectApply i) s = .next t ∧ t.syn.inbound = dropAt s.syn.inbound i ∧ t.syn.objs.get? m.obj = some y ∧
      t.syn.outbound = s.syn.outbound ++ rs ++ [m.answer st] ∧ ObjectOnly s t m.obj := by
  have heq := syncObjectApply_ok h hop hc
  rw [hz] at heq
  refine ⟨_, congrArg Host.Outcome.next heq, ?_, ?_, ?_, (s.taken_only i m m.obj).trans (State.operated_only _ _ _ _)⟩
  · rw [State.operated_inbound, State.taken_syn]
  · rw [State.operated_obj, hev]
  · rw [State.operated_outbound, State.taken_syn, hev]

theorem signals {s : State} {i : Nat} {m : SynMsg} {x : SynObj} (h : s.applies i m x) (hop : m.op = 0) (hc : x.code = 0) (hw : ∀ w ∈ x.waiters, w.op = 1 ∨ w.op = 2) :
    let v := max x.value (m.value % 2 ^ 64)
    let met := fun w : Waiter => decide ((w.op = 1 ∧ w.value ≤ v) ∨ (w.op = 2 ∧ v = w.value))
    ∃ t, exec (.syncObjectApply i) s = .next t ∧ t.syn.inbound = dropAt s.syn.inbound i ∧
      t.syn.objs.get? m.obj = some { x with value := v, waiters := x.waiters.filter (fun w => !met w) } ∧
      t.syn.outbound = s.syn.outbound ++ (x.waiters.filter met).map (fun w => w.release 0) ++ [m.answer 0] ∧ ObjectOnly s t m.obj := by
  intro v met
  have hfence : x.type ≠ .sem := by
    have hd := (ObjType.defines_iff x.type m.op).1 h.2.2.2.1
    rw [hop] at hd
    rcases hd with ⟨ht, -⟩ | ⟨-, h0⟩ | ⟨-, h0⟩
    · simp [ht]
    · omega
    · omega
  have hop' : x.operate m.op m.value = (0, { x with value := v }) := by rw [hop]; rfl
  have hmet : ∀ w ∈ x.waiters, SynObj.holdsFor { x with value := v } w = met w := by
    intro w hm
    rcases hw w hm with hw | hw <;> simp [SynObj.holdsFor, hw, met]
  refine syncObjectApply_effect h (by omega) hc hop' ((SynObj.evaluate_other (x := { x with value := v }) hc hfence).trans ?_)
  have hkeep : x.waiters.filter (SynObj.holdsFor { x with value := v }) = x.waiters.filter met := List.filter_congr hmet
  have hdrop : x.waiters.filter (fun w => !SynObj.holdsFor { x with value := v } w) = x.waiters.filter (fun w => !met w) :=
    List.filter_congr fun w hm => congrArg not (hmet w hm)
  simp only [hkeep, hdrop]

theorem posts {s : State} {i : Nat} {m : SynMsg} {x : SynObj} (h : s.applies i m x) (hop : m.op = 3) (hc : x.code = 0) :
    let v := min (x.value + m.value % 2 ^ 32) 0xFFFFFFFF
    let k := min v x.waiters.length
    ∃ t y, exec (.syncObjectApply i) s = .next t ∧ t.syn.inbound = dropAt s.syn.inbound i ∧ t.syn.objs.get? m.obj = some y ∧
      y.value = v - k ∧ y.waiters = x.waiters.drop k ∧ (y.saturated = true ↔ x.saturated = true ∨ 0xFFFFFFFF < x.value + m.value % 2 ^ 32) ∧
      t.syn.outbound = s.syn.outbound ++ (x.waiters.take k).map (fun w => w.release 0) ++ [m.answer 0] ∧ ObjectOnly s t m.obj := by
  intro v k
  have hsem : x.type = .sem := by
    have hd := (ObjType.defines_iff x.type m.op).1 h.2.2.2.1
    rw [hop] at hd
    rcases hd with ⟨-, h0⟩ | ⟨ht, -⟩ | ⟨-, h0⟩
    · omega
    · exact ht
    · omega
  have hop' : x.operate m.op m.value =
      (0, { x with value := v, saturated := x.saturated || decide (0xFFFFFFFF < x.value + m.value % 2 ^ 32) }) := by rw [hop]; rfl
  obtain ⟨t, ht, hin, hobj, hout, honly⟩ := syncObjectApply_effect h (by omega) hc hop'
    (SynObj.evaluate_sem (x := { x with value := v, saturated := x.saturated || decide (0xFFFFFFFF < x.value + m.value % 2 ^ 32) }) hc hsem)
  exact ⟨t, _, ht, hin, hobj, rfl, rfl, by simp, hout, honly⟩

theorem arrivals {s : State} {i : Nat} {m : SynMsg} {x : SynObj} (h : s.applies i m x) (hop : m.op = 5) (hc : x.code = 0) (hw : ∀ w ∈ x.waiters, w.op = 6) :
    (x.arrivals + 1 ≠ x.participants → (∀ w ∈ x.waiters, w.value % 2 ^ 32 = x.generation) →
      ∃ t, exec (.syncObjectApply i) s = .next t ∧ t.syn.objs.get? m.obj = some { x with arrivals := x.arrivals + 1 } ∧
        t.syn.outbound = s.syn.outbound ++ [m.answer (x.generation * 2 ^ 32)] ∧ ObjectOnly s t m.obj) ∧
    (x.arrivals + 1 = x.participants → (∀ w ∈ x.waiters, w.value % 2 ^ 32 = x.generation) → x.generation < 2 ^ 32 →
      ∃ t, exec (.syncObjectApply i) s = .next t ∧
        t.syn.objs.get? m.obj = some { x with arrivals := 0, generation := (x.generation + 1) % 2 ^ 32, waiters := [] } ∧
        t.syn.outbound = s.syn.outbound ++ x.waiters.map (fun w => w.release 0) ++ [m.answer (x.generation * 2 ^ 32)] ∧ ObjectOnly s t m.obj) := by
  have hbar : x.type ≠ .sem := by
    have hd := (ObjType.defines_iff x.type m.op).1 h.2.2.2.1
    rw [hop] at hd
    rcases hd with ⟨-, h0⟩ | ⟨-, h0⟩ | ⟨ht, -⟩
    · omega
    · omega
    · simp [ht]
  refine ⟨fun hn hg => ?_, fun hn hg hlt => ?_⟩
  · have hop' : x.operate m.op m.value = (x.generation * 2 ^ 32, { x with arrivals := x.arrivals + 1 }) := by rw [hop]; exact if_neg hn
    have hnone : ∀ w ∈ x.waiters, SynObj.holdsFor { x with arrivals := x.arrivals + 1 } w = false := fun w hm => by
      simp only [SynObj.holdsFor, hw w hm, hg w hm, decide_true, Bool.not_true]
    obtain ⟨t, ht, -, hobj, hout, honly⟩ := syncObjectApply_effect h (by omega) hc hop'
      (SynObj.evaluate_none (x := { x with arrivals := x.arrivals + 1 }) hc hbar hnone)
    exact ⟨t, ht, hobj, by simpa using hout, honly⟩
  · have hop' : x.operate m.op m.value = (x.generation * 2 ^ 32, { x with arrivals := 0, generation := (x.generation + 1) % 2 ^ 32 }) := by
      rw [hop]
      exact if_pos hn
    have hall : ∀ w ∈ x.waiters, SynObj.holdsFor { x with arrivals := 0, generation := (x.generation + 1) % 2 ^ 32 } w = true := fun w hm => by
      have hnext : (x.generation + 1) % 2 ^ 32 ≠ x.generation := by omega
      simp only [SynObj.holdsFor, hw w hm, hg w hm, hnext, decide_false, Bool.not_false]
    obtain ⟨t, ht, -, hobj, hout, honly⟩ := syncObjectApply_effect h (by omega) hc hop'
      (SynObj.evaluate_all (x := { x with arrivals := 0, generation := (x.generation + 1) % 2 ^ 32 }) hc hbar hall)
    exact ⟨t, ht, hobj, hout, honly⟩

/-! Operations that end their context. -/

theorem coreFault_killed_alive {s : State} {c slot : Nat} {g : Group} (hg : (s.core c).groups.get? slot = some g) (hal : (s.q g.queue).state.alive = true)
    (thread code pc addr : Nat) (scratch : Bool) (point : Option Nat) : Killed (s.coreFault c slot thread code pc addr scratch point) g.queue code := by
  unfold State.coreFault
  rw [hg]
  dsimp only
  have hsaw : (if scratch = true then s else s.sawPoison code (fnOfQueue g.queue) addr 16).q g.queue = s.q g.queue := by
    simp [State.q, ite_fe]
  rw [hsaw, if_pos hal]
  refine (fun (u : State) (hu : (u.q g.queue).state.alive = true) => ?_ :
    ∀ u : State, (u.q g.queue).state.alive = true → Killed (u.kill g.queue code _) g.queue code) _ ?_
  · obtain ⟨hk, -⟩ := State.kill_alive code
      { node := g.nodeIndex, depth := g.depth, ring := g.ring, operator := g.operator, layer := g.layer } hu
    exact ⟨congrArg Queue.state hk, congrArg Queue.killCode hk⟩
  · refine (congrArg (fun x : Queue => x.state.alive) (State.modQ_q_self _ _ _)).trans ?_
    exact (congrArg (fun x : Queue => x.state.alive) hsaw).trans hal

/-- A context that an operation ends is being killed, whoever issued the operation. -/
theorem State.faultWho_killed {s : State} (w : WaiterWho) {q : Nat} (code : Nat) (h : (s.q q).state.alive = true) : Killed (s.faultWho w q code) q code := by
  have hkill (site : Site) : Killed (s.kill q code site) q code := by
    obtain ⟨hk, -⟩ := State.kill_alive code site h
    exact ⟨congrArg Queue.state hk, congrArg Queue.killCode hk⟩
  unfold State.faultWho
  split
  · split
    · split
      · rename_i g hg hq
        subst hq
        exact coreFault_killed_alive hg h _ _ _ _ _ _
      · exact hkill _
    · exact hkill _
  · exact hkill _

/-- Settles O38: an operation that its object allows by what the object becomes and whom its evaluation releases, any other by the kill of its context. -/
theorem syncOperations : Obligations.SyncOperations := by
  unfold Obligations.SyncOperations
  refine ⟨fun s i m x h => ⟨signals h, posts h, arrivals h, fun hop hc => ?_⟩, fun s i m x hi hf hx hq hop had => ⟨fun hc => ?_, fun hc => ?_⟩,
    fun s i m hi hf hop hal hbad => ?_, fun s i m hi hf => ?_⟩
  · have hsyn : (syncObjectApply i s).syn = (State.answered (s.taken i m) (m.answer x.code)).syn := congrArg State.syn (syncObjectApply_errored h hop hc)
    have hobj : ObjectOnly s (syncObjectApply i s) m.obj := by
      rw [syncObjectApply_errored h hop hc]
      exact (s.taken_only i m m.obj).trans (State.answered_only _ _ _)
    rw [State.answered_syn, s.taken_syn] at hsyn
    generalize ht : syncObjectApply i s = t at hsyn hobj
    exact ⟨t, congrArg Host.Outcome.next ht, by rw [hsyn], by rw [hsyn], by rw [hsyn], hobj⟩
  · have heq : syncObjectApply i s = State.evaluated (s.without i) m.obj { x with code := m.op - 16 } := by
      rw [syncObjectApply_setError hi hf hx hop had, if_neg (not_not.2 hc)]
      exact State.finishObj_quiet _ _ _ hq
    have hev : SynObj.evaluate { x with code := m.op - 16 } = ({ x with code := m.op - 16, waiters := [] }, x.waiters.map (fun w => w.release (m.op - 16))) :=
      SynObj.evaluate_error (by dsimp only; omega)
    refine ⟨_, congrArg Host.Outcome.next heq, (State.evaluated_obj _ _ _).trans (by rw [hev]), ?_, State.evaluated_only _ _ _⟩
    rw [State.evaluated, hev]
    rfl
  · have heq : syncObjectApply i s = s.without i := by
      rw [syncObjectApply_setError hi hf hx hop had, if_pos hc]
    exact ⟨_, congrArg Host.Outcome.next heq, rfl, rfl, fun _ _ => rfl, rfl, rfl, rfl, rfl⟩
  · have heq : syncObjectApply i s = State.faultWho { s with syn.inbound := dropAt s.syn.inbound i } m.who m.queue 0x02 := by
      rw [syncObjectApply_first hi hf, State.applyMsg]
      rcases hbad with hnone | ⟨x, hx, hbad⟩
      · rw [hnone]
        exact if_neg (by omega)
      · rw [hx]
        dsimp only
        rw [if_neg (by omega), if_pos]
        rcases hbad with hd | ha
        · simp [hd]
        · have ha' : State.admitsFn { s with syn.inbound := dropAt s.syn.inbound i } x m.fn = false := ha
          rw [ha']
          simp
    exact ⟨_, congrArg Host.Outcome.next heq, State.faultWho_killed _ _ hal, by simp, by simp⟩
  · have heq : syncObjectApply i s = s := by
      rw [syncObjectApply, hi]
      exact if_neg (by simp [hf])
    exact congrArg Host.Outcome.next heq

end Sys2Proof.Machine
end

section
/-! The host commands of the sync unit, the mirrors of its objects and the ranges of partitions (R303, R311, Table 12.9). -/

namespace Sys2Proof.Machine

/-! What a translation reads: the function's registers and cached translations, the slabs, the tables in memory. -/

theorem State.heldLine_congr {s t : State} (hl : t.l2 = s.l2) (l : Nat) : t.heldLine l = s.heldLine l := by
  simp only [State.heldLine, hl]

theorem State.pocRead_congr {s t : State} (hl : t.l2 = s.l2) (hm : t.mem = s.mem) (a n : Nat) : t.pocRead a n = s.pocRead a n := by
  refine List.map_congr_left fun x _ => ?_
  simp only [State.pocByte, State.heldLine_congr hl, hm]

theorem State.granulePoison_congr {s t : State} (hp : t.poison = s.poison) (hs : t.stk = s.stk) (hn : t.mgt = s.mgt) (g : Nat) :
    t.granulePoison g = s.granulePoison g := by
  have hnum (a k : Nat) : t.num a k = s.num a k := State.num_of_mgt_num (congrArg Mgt.num hn) a k
  have hnewt (a : Nat) : t.newtOf a = s.newtOf a := by
    simp only [State.newtOf, State.mapAddr, hnum, hs]
  simp only [State.granulePoison, State.granuleFailed, State.channelFailed, hnewt, hnum, hp, hs]

theorem State.pocPoison_congr {s t : State} (hl : t.l2 = s.l2) (hp : t.poison = s.poison) (hs : t.stk = s.stk) (hn : t.mgt = s.mgt) (a n : Nat) :
    t.pocPoison a n = s.pocPoison a n := by
  refine congrArg (List.any _) (funext fun g => ?_)
  simp only [State.pocGranulePoison, State.heldLine_congr hl, State.granulePoison_congr hp hs hn]

theorem State.walkFrom_congr {s t : State} (hl : t.l2 = s.l2) (hm : t.mem = s.mem) (hp : t.poison = s.poison) (hs : t.stk = s.stk) (hn : t.mgt = s.mgt)
    (hh : t.hif = s.hif) (hc : t.fab.chipId = s.fab.chipId) (p va k table : Nat) : t.walkFrom p va k table = s.walkFrom p va k table := by
  have hv (a : Nat) : t.viewAddr p a = s.viewAddr p a := by simp only [State.viewAddr, State.part, hh]
  induction k generalizing table with
  | zero => rfl
  | succ k ih =>
    unfold State.walkFrom
    simp only [hv, State.pocPoison_congr hl hp hs hn, State.pocRead_congr hl hm, State.walkLeaf, hc, ih]

theorem State.translate_congr {s t : State} (hl : t.l2 = s.l2) (hm : t.mem = s.mem) (hp : t.poison = s.poison) (hs : t.stk = s.stk) (hn : t.mgt = s.mgt)
    (hh : t.hif = s.hif) (hc : t.fab.chipId = s.fab.chipId) (f va : Nat) (a : Access) : t.translate f va a = s.translate f va a := by
  have hnum (a k : Nat) : t.num a k = s.num a k := State.num_of_mgt_num (congrArg Mgt.num hn) a k
  have hwalk : t.walk f va = s.walk f va := by
    simp only [State.walk, State.fnPart, hnum, State.walkFrom_congr hl hm hp hs hn hh hc]
  have hgrant (k x : Nat) (b : Access) : t.grantedAt f k x b = s.grantedAt f k x b := by
    have hats : t.atsEntry f x = s.atsEntry f x := by simp only [State.atsEntry, hh]
    have hfn : t.fn f = s.fn f := by simp only [State.fn, hh]
    rw [State.grantedAt, State.grantedAt, hats, hfn]
  have hcached : t.cached f (va / 2 ^ 16) = s.cached f (va / 2 ^ 16) := by
    simp only [State.cached, hh]
  unfold State.translate
  rw [hcached, hwalk]
  simp only [hgrant]

/-! The end of a host command. -/

theorem State.synDone_fn (s : State) (f o r v : Nat) : ((s.synDone f o r v).fn f).synResult = v := by
  rw [State.synDone, State.modFn_fn_self]

theorem State.synDone_result (s : State) (f o v : Nat) {r : Nat} (h : r < 256) : (s.synDone f o r v).synResultOf f = r := by
  rw [State.synResultOf, State.synDone, State.modFn_fn_self]
  cases s.syn.objs.get? o with
  | none => exact Nat.mod_eq_of_lt h
  | some x =>
    show (x.code * 2 ^ 24 + x.type.code * 2 ^ 18 + 2 ^ 17 + b2n x.saturated * 2 ^ 16 + r) % 256 = r
    omega

theorem State.synDone_syn (s : State) (f o r v : Nat) : (s.synDone f o r v).syn = s.syn := rfl
theorem State.synDone_mem (s : State) (f o r v : Nat) : (s.synDone f o r v).mem = s.mem := rfl

theorem State.synDone_only {s t : State} {o : Nat} (h : ObjectOnly s t o) (f k r v : Nat) : ObjectOnly s (t.synDone f k r v) o := h

theorem State.synHost_free {s : State} {f : Nat} (h : s.heldOf f = []) (v : Nat) (mine : Bool) (go : State → State) : s.synHost f v mine go = go s := by
  unfold State.synHost
  split
  · exact State.inOrder_of_free h
  · rfl

section commands
variable {s : State} {f v : Nat} {bad : Bool} {err allowed late : SynObj → Bool} {go : SynObj → State × Nat}

theorem State.synCommand_absent (hb : bad = false) (hx : s.syn.objs.get? (cmdObj v) = none) :
    s.synCommand f v bad err allowed late go = s.synDone f (cmdObj v) 3 0 := by
  rw [State.synCommand, hb, hx]
  rfl

theorem State.synCommand_err {x : SynObj} (hb : bad = false) (hx : s.syn.objs.get? (cmdObj v) = some x) (he : err x = true) :
    s.synCommand f v bad err allowed late go = s.synDone f (cmdObj v) 3 0 := by
  rw [State.synCommand, hb, hx]
  simp only [he, Bool.false_eq_true, if_false, if_true]

theorem State.synCommand_denied {x : SynObj} (hb : bad = false) (hx : s.syn.objs.get? (cmdObj v) = some x) (he : err x = false) (ha : allowed x = false) :
    s.synCommand f v bad err allowed late go = s.synDone f (cmdObj v) 2 0 := by
  rw [State.synCommand, hb, hx]
  simp only [he, ha, Bool.false_eq_true, Bool.not_false, if_false, if_true]

theorem State.synCommand_late {x : SynObj} (hb : bad = false) (hx : s.syn.objs.get? (cmdObj v) = some x) (he : err x = false) (ha : allowed x = true)
    (hl : late x = true) : s.synCommand f v bad err allowed late go = s.synDone f (cmdObj v) 5 0 := by
  rw [State.synCommand, hb, hx]
  simp only [he, ha, hl, Bool.false_eq_true, Bool.not_true, if_false, if_true]

theorem State.synCommand_ok {x : SynObj} (hb : bad = false) (hx : s.syn.objs.get? (cmdObj v) = some x) (he : err x = false) (ha : allowed x = true)
    (hl : late x = false) : s.synCommand f v bad err allowed late go = (go x).1.synDone f (cmdObj v) 0 (go x).2 := by
  rw [State.synCommand, hb, hx]
  simp only [he, ha, hl, Bool.false_eq_true, Bool.not_true, if_false]

end commands

/-! The commands on an object. -/

theorem SynObj.evaluate_value {x : SynObj} (h : x.type ≠ .sem) : x.evaluate.1.value = x.value := by
  by_cases hc : x.code = 0
  · rw [SynObj.evaluate_other hc h]
  · rw [SynObj.evaluate_error hc]

theorem SynObj.evaluate_code (x : SynObj) : x.evaluate.1.code = x.code := by
  unfold SynObj.evaluate
  split
  · rfl
  · split <;> rfl

/-- A barrier's evaluation releases waiters and leaves its phase. -/
theorem SynObj.evaluate_phase (x : SynObj) :
    x.evaluate.1.arrivals = x.arrivals ∧ x.evaluate.1.generation = x.generation ∧ x.evaluate.1.saturated = x.saturated := by
  unfold SynObj.evaluate
  split
  · exact ⟨rfl, rfl, rfl⟩
  · split <;> exact ⟨rfl, rfl, rfl⟩

theorem SynObj.evaluate_idle {x : SynObj} (h : x.waiters = []) : x.evaluate = (x, []) := by
  by_cases hc : x.code = 0
  · by_cases ht : x.type = .sem
    · rw [SynObj.evaluate_sem hc ht]
      cases x
      subst h
      simp
    · exact SynObj.evaluate_none hc ht (by simp [h])
  · rw [SynObj.evaluate_error hc, h]
    simp [← h]

theorem State.objError_quiet {s : State} {o code : Nat} {x : SynObj} (hx : s.syn.objs.get? o = some x) (hc : x.code = 0) (hq : x.quiet) :
    s.objError o code = s.evaluated o { x with code := code } := by
  rw [State.objError, hx]
  dsimp only
  rw [if_neg (not_not.2 hc)]
  exact State.finishObj_quiet _ _ _ hq

section
variable {s : State} {f v o : Nat} (ho : o = cmdObj v) (hfree : s.heldOf f = [])
include ho hfree

/-- A creation whose command word is well formed. -/
theorem creates (hcode : cmdCode v = 0) (htype : cmdType v ≠ 3) (hparam : cmdParam v = 0) (hpart : cmdType v = 2 ↔ cmdPart v ≠ 0) :
    (s.inRange (s.fnPart f) o = true → s.syn.objs.has o = false →
      ∃ t x, exec (.synCreate f v) s = .next t ∧ t.synResultOf f = 0 ∧ t.syn.objs.get? o = some x ∧ x.owner = f ∧ x.access = cmdAccess v ∧ x.code = 0 ∧
        x.waiters = [] ∧ x.generation = 0 ∧ x.arrivals = 0 ∧ x.participants = cmdPart v ∧ x.type.code = cmdType v ∧
        (cmdType v = 0 → x.value = (s.fn f).synArg) ∧ (cmdType v = 1 → x.value = (s.fn f).synArg % 2 ^ 32) ∧ ObjectOnly s t o) ∧
    (s.inRange (s.fnPart f) o = false → ∃ t, exec (.synCreate f v) s = .next t ∧ t.synResultOf f = 1 ∧ t.syn = s.syn ∧ t.mem = s.mem) ∧
    (s.inRange (s.fnPart f) o = true → s.syn.objs.has o = true → ∃ t, exec (.synCreate f v) s = .next t ∧ t.synResultOf f = 3 ∧ t.syn = s.syn ∧ t.mem = s.mem) := by
  subst ho
  have hgo : exec (.synCreate f v) s = .next (synCreate f v s) := congrArg Host.Outcome.next (State.synHost_free hfree _ _ _)
  have hform : ¬ (cmdType v = 3 ∨ cmdParam v ≠ 0 ∨ (cmdType v = 2 ∧ cmdPart v = 0) ∨ (cmdType v ≠ 2 ∧ cmdPart v ≠ 0)) := by
    rintro (h | h | ⟨h, hp⟩ | ⟨h, hp⟩)
    · exact htype h
    · exact h hparam
    · exact hpart.1 h hp
    · exact h (hpart.2 hp)
  have hlt : cmdType v < 4 := Nat.mod_lt _ (by decide)
  rw [hgo, synCreate]
  dsimp only
  rw [if_neg (not_not.2 hcode), if_neg hform]
  refine ⟨fun hr hh => ?_, fun hr => ?_, fun hr hh => ?_⟩
  · simp only [hr, hh, Bool.not_true, Bool.false_eq_true, if_false]
    refine ⟨_, _, rfl, State.synDone_result _ _ _ _ (by decide), SMap.get?_put_self _ _ _, rfl, rfl, rfl, rfl, rfl, rfl, rfl, ?_, fun h => ?_, fun h => ?_,
      fun k hk => SMap.get?_put_ne _ _ hk, rfl, rfl, rfl, rfl⟩
    · split_ifs with h0 h1
      · exact h0.symm
      · exact h1.symm
      · exact (show cmdType v = 2 by omega).symm
    · exact if_pos h
    · exact (if_neg (by omega)).trans (if_pos h)
  · simp only [hr, Bool.not_false, if_true]
    exact ⟨_, rfl, State.synDone_result _ _ _ _ (by decide), rfl, rfl⟩
  · simp only [hr, hh, Bool.not_true, Bool.false_eq_true, if_false, if_true]
    exact ⟨_, rfl, State.synDone_result _ _ _ _ (by decide), rfl, rfl⟩

end

/-- A command on an object that is not created. -/
theorem absentObject {s : State} {f v : Nat} (hx : s.syn.objs.get? (cmdObj v) = none) (hplain : cmdPlain v = true) (hparam : cmdParam v = 0)
    (hfree : s.heldOf f = []) {c : Instr} (hmem : c ∈ [Instr.synDestroy f v, .synResetObj f v, .synRead f v]) (h1 : c = .synDestroy f v → cmdCode v = 1)
    (h4 : c = .synResetObj f v → cmdCode v = 4) (h5 : c = .synRead f v → cmdCode v = 5) :
    ∃ t, exec c s = .next t ∧ t.synResultOf f = 3 ∧ t.syn = s.syn ∧ t.mem = s.mem := by
  have hbad : (!cmdPlain v || !decide (cmdParam v = 0)) = false := by simp [hplain, hparam]
  have hend : ∃ t, s.synDone f (cmdObj v) 3 0 = t ∧ t.synResultOf f = 3 ∧ t.syn = s.syn ∧ t.mem = s.mem :=
    ⟨_, rfl, State.synDone_result _ _ _ _ (by decide), rfl, rfl⟩
  obtain ⟨t, ht, hres⟩ := hend
  refine ⟨t, ?_, hres⟩
  rw [← ht]
  simp only [List.mem_cons, List.not_mem_nil, or_false] at hmem
  obtain rfl | rfl | rfl := hmem
  · refine congrArg Host.Outcome.next ((State.synHost_free hfree _ _ _).trans ?_)
    rw [synDestroy, if_neg (not_not.2 (h1 rfl))]
    exact State.synCommand_absent hbad hx
  · refine congrArg Host.Outcome.next ((State.synHost_free hfree _ _ _).trans ?_)
    rw [synResetObj, if_neg (not_not.2 (h4 rfl))]
    exact State.synCommand_absent hbad hx
  · refine congrArg Host.Outcome.next ((State.synHost_free hfree _ _ _).trans ?_)
    rw [synRead, if_neg (not_not.2 (h5 rfl))]
    exact State.synCommand_absent hbad hx

/-- An object after a reset by its owner. -/
def SynObj.resetWith (x : SynObj) (arg : Nat) : SynObj :=
  { x with
    code := 0, saturated := false, arrivals := 0
    value := match x.type with
      | .fence => arg
      | .sem => arg % 2 ^ 32
      | .bar => x.value }

/-- The state with an object stored. -/
def State.putObj (s : State) (o : Nat) (x : SynObj) : State := { s with syn.objs := s.syn.objs.put o x }

theorem State.putObj_only (s : State) (o : Nat) (x : SynObj) : ObjectOnly s (s.putObj o x) o := ⟨fun _ hk => SMap.get?_put_ne _ _ hk, rfl, rfl, rfl, rfl⟩

theorem State.putObj_obj (s : State) (o : Nat) (x : SynObj) : (s.putObj o x).syn.objs.get? o = some x := SMap.get?_put_self _ _ _

section
variable {s : State} {f v : Nat} {x : SynObj} (hx : s.syn.objs.get? (cmdObj v) = some x) (hq : x.quiet) (hplain : cmdPlain v = true) (hfree : s.heldOf f = [])
include hx hq hplain hfree

/-- The owner's destruction of an object in state OK ends its waiters with 0x10. -/
theorem destroys (hcode : cmdCode v = 1) (hparam : cmdParam v = 0) (hown : x.owner = f) (hc : x.code = 0) :
    ∃ t, exec (.synDestroy f v) s = .next t ∧ t.synResultOf f = 0 ∧ t.syn.objs.get? (cmdObj v) = none ∧
      t.syn.outbound = s.syn.outbound ++ x.waiters.map (fun w => w.release 0x10) ∧ ObjectOnly s t (cmdObj v) := by
  have heq : synDestroy f v s = State.synDone { s.evaluated (cmdObj v) { x with code := 0x10 } with
      syn.objs := (s.evaluated (cmdObj v) { x with code := 0x10 }).syn.objs.del (cmdObj v) } f (cmdObj v) 0 0 := by
    rw [synDestroy, if_neg (not_not.2 hcode)]
    refine (State.synCommand_ok (by simp [hplain, hparam]) hx rfl (by simp [SynObj.ownedBy, hown]) rfl).trans ?_
    dsimp only
    rw [State.objError_quiet hx hc hq]
  refine ⟨_, congrArg Host.Outcome.next ((State.synHost_free hfree _ _ _).trans heq), State.synDone_result _ _ _ _ (by decide), SMap.get?_del_self _ _, ?_,
    fun k hk => (SMap.get?_del_ne _ hk).trans (SMap.get?_put_ne _ _ hk), rfl, rfl, rfl, rfl⟩
  rw [State.synDone_syn]
  refine congrArg (s.syn.outbound ++ ·) ?_
  rw [SynObj.evaluate_error (x := { x with code := 0x10 }) (show (0x10 : Nat) ≠ 0 by decide)]

omit hq in
theorem destroyDenied (hcode : cmdCode v = 1) (hparam : cmdParam v = 0) (hown : x.owner ≠ f) :
    ∃ t, exec (.synDestroy f v) s = .next t ∧ t.synResultOf f = 2 ∧ t.syn = s.syn ∧ t.mem = s.mem := by
  have heq : synDestroy f v s = s.synDone f (cmdObj v) 2 0 := by
    rw [synDestroy, if_neg (not_not.2 hcode)]
    exact State.synCommand_denied (by simp [hplain, hparam]) hx rfl (by simp [SynObj.ownedBy, hown])
  exact ⟨_, congrArg Host.Outcome.next ((State.synHost_free hfree _ _ _).trans heq), State.synDone_result _ _ _ _ (by decide), rfl, rfl⟩

omit hfree in
/-- An operation of a host command that its object's type defines. -/
theorem operates (hcode : cmdCode v = 2) (hop : cmdParam v = 0 ∨ cmdParam v = 3 ∨ cmdParam v = 5) (hdef : x.type.defines (cmdParam v) = true)
    (had : s.admitsFn x f = true) (hc : x.code = 0) :
    ∃ u, u.syn = s.syn ∧ ObjectOnly s u (cmdObj v) ∧ synOperate f v s =
      (u.evaluated (cmdObj v) (x.operate (cmdParam v) (s.fn f).synArg).2).synDone f (cmdObj v) 0 (x.operate (cmdParam v) (s.fn f).synArg).1 := by
  refine ⟨s.trace 4 0x09 17 0 0xFFFF 0 0 (cmdParam v) (cmdObj v), State.trace_syn _ _ _ _ _ _ _ _ _ _, ⟨fun k _ => by simp, by simp, by simp, by simp, by simp⟩, ?_⟩
  rw [synOperate]
  dsimp only
  rw [if_neg (not_not.2 hcode)]
  refine (State.synCommand_ok (x := x) (by simp [hplain, hop, hx, hdef]) hx (by simp [hc]) had rfl).trans ?_
  rw [State.objOperate, if_neg (not_not.2 hc)]
  dsimp only
  rw [State.finishObj_quiet _ _ _ (SynObj.operate_quiet hq _ _)]

omit hq in
theorem operateErrored (hcode : cmdCode v = 2) (hop : cmdParam v = 0 ∨ cmdParam v = 3 ∨ cmdParam v = 5) (hdef : x.type.defines (cmdParam v) = true)
    (hc : x.code ≠ 0) : ∃ t, exec (.synOperate f v) s = .next t ∧ t.synResultOf f = 3 ∧ t.syn = s.syn ∧ t.mem = s.mem := by
  have heq : synOperate f v s = s.synDone f (cmdObj v) 3 0 := by
    rw [synOperate]
    dsimp only
    rw [if_neg (not_not.2 hcode)]
    exact State.synCommand_err (x := x) (by simp [hplain, hop, hx, hdef]) hx (by simp [hc])
  exact ⟨_, congrArg Host.Outcome.next ((State.synHost_free hfree _ _ _).trans heq), State.synDone_result _ _ _ _ (by decide), rfl, rfl⟩

theorem signalsFence (hcode : cmdCode v = 2) (hparam : cmdParam v = 0) (ht : x.type = .fence) (had : s.admitsFn x f = true) (hc : x.code = 0) :
    ∃ t y, exec (.synOperate f v) s = .next t ∧ t.synResultOf f = 0 ∧ t.syn.objs.get? (cmdObj v) = some y ∧
      y.value = max x.value ((s.fn f).synArg % 2 ^ 64) ∧ y.code = 0 ∧ ObjectOnly s t (cmdObj v) := by
  obtain ⟨u, -, hu, heq⟩ := operates hx hq hplain hcode (.inl hparam) (by simp [ht, hparam, ObjType.defines]) had hc
  rw [hparam] at heq
  refine ⟨_, _, congrArg Host.Outcome.next ((State.synHost_free hfree _ _ _).trans heq), State.synDone_result _ _ _ _ (by decide), u.evaluated_obj _ _, ?_,
    (SynObj.evaluate_code _).trans hc, State.synDone_only (hu.trans (State.evaluated_only _ _ _)) _ _ _ _⟩
  exact SynObj.evaluate_value (x := { x with value := max x.value ((s.fn f).synArg % 2 ^ 64) }) (by simp [ht])

theorem arrivesAtBarrier (hcode : cmdCode v = 2) (hparam : cmdParam v = 5) (ht : x.type = .bar) (had : s.admitsFn x f = true) (hc : x.code = 0)
    (hne : x.arrivals + 1 ≠ x.participants) :
    ∃ t y, exec (.synOperate f v) s = .next t ∧ t.synResultOf f = 0 ∧ (t.fn f).synResult = x.generation * 2 ^ 32 ∧ t.syn.objs.get? (cmdObj v) = some y ∧
      y.arrivals = x.arrivals + 1 ∧ y.generation = x.generation ∧ ObjectOnly s t (cmdObj v) := by
  obtain ⟨u, -, hu, heq⟩ := operates hx hq hplain hcode (.inr (.inr hparam)) (by simp [ht, hparam, ObjType.defines]) had hc
  have hop : x.operate (cmdParam v) (s.fn f).synArg = (x.generation * 2 ^ 32, { x with arrivals := x.arrivals + 1 }) := by
    rw [hparam]
    exact if_neg hne
  rw [hop] at heq
  obtain ⟨harr, hgen, -⟩ := SynObj.evaluate_phase { x with arrivals := x.arrivals + 1 }
  exact ⟨_, _, congrArg Host.Outcome.next ((State.synHost_free hfree _ _ _).trans heq), State.synDone_result _ _ _ _ (by decide), State.synDone_fn _ _ _ _ _,
    u.evaluated_obj _ _, harr, hgen, State.synDone_only (hu.trans (State.evaluated_only _ _ _)) _ _ _ _⟩

theorem setsError (hcode : cmdCode v = 3) (h1 : 1 ≤ cmdParam v) (h11 : cmdParam v ≤ 0x11) (hown : x.owner = f) (hc : x.code = 0) :
    ∃ t, exec (.synSetError f v) s = .next t ∧ t.synResultOf f = 0 ∧ t.syn.objs.get? (cmdObj v) = some { x with code := cmdParam v, waiters := [] } ∧
      t.syn.outbound = s.syn.outbound ++ x.waiters.map (fun w => w.release (cmdParam v)) ∧ ObjectOnly s t (cmdObj v) := by
  have heq : synSetError f v s = (s.evaluated (cmdObj v) { x with code := cmdParam v }).synDone f (cmdObj v) 0 0 := by
    rw [synSetError, if_neg (not_not.2 hcode)]
    refine (State.synCommand_ok (by simp [hplain, h1, h11]) hx rfl (by simp [SynObj.ownedBy, hown]) rfl).trans ?_
    dsimp only
    rw [State.objError_quiet hx hc hq]
  have hev : SynObj.evaluate { x with code := cmdParam v } = ({ x with code := cmdParam v, waiters := [] }, x.waiters.map (fun w => w.release (cmdParam v))) :=
    SynObj.evaluate_error (by dsimp only; omega)
  refine ⟨_, congrArg Host.Outcome.next ((State.synHost_free hfree _ _ _).trans heq), State.synDone_result _ _ _ _ (by decide), ?_, ?_,
    State.synDone_only (State.evaluated_only _ _ _) _ _ _ _⟩
  · rw [State.synDone_syn, State.evaluated_obj, hev]
  · rw [State.synDone_syn, State.evaluated, hev]

theorem resetsObject (hcode : cmdCode v = 4) (hparam : cmdParam v = 0) (hown : x.owner = f) (hw : x.waiters = []) :
    ∃ t y, exec (.synResetObj f v) s = .next t ∧ t.synResultOf f = 0 ∧ t.syn.objs.get? (cmdObj v) = some y ∧ y.code = 0 ∧ y.saturated = false ∧
      y.arrivals = 0 ∧ y.generation = x.generation ∧ (x.type = .fence → y.value = (s.fn f).synArg) ∧
      (x.type = .sem → y.value = (s.fn f).synArg % 2 ^ 32) ∧ ObjectOnly s t (cmdObj v) := by
  have heq : synResetObj f v s = (s.evaluated (cmdObj v) (x.resetWith (s.fn f).synArg)).synDone f (cmdObj v) 0 0 := by
    rw [synResetObj, if_neg (not_not.2 hcode)]
    exact (State.synCommand_ok (by simp [hplain, hparam]) hx rfl (by simp [SynObj.ownedBy, hown]) (by simp [hw])).trans
      (congrArg (fun t => State.synDone t f (cmdObj v) 0 0) (State.finishObj_quiet _ _ _ hq))
  refine ⟨_, x.resetWith (s.fn f).synArg, congrArg Host.Outcome.next ((State.synHost_free hfree _ _ _).trans heq), State.synDone_result _ _ _ _ (by decide), ?_,
    rfl, rfl, rfl, rfl, fun ht => ?_, fun ht => ?_, State.synDone_only (State.evaluated_only _ _ _) _ _ _ _⟩
  · rw [State.synDone_syn, State.evaluated_obj, SynObj.evaluate_idle (x := x.resetWith _) hw]
  · rw [SynObj.resetWith, ht]
  · rw [SynObj.resetWith, ht]

omit hq in
theorem resetRefused (hcode : cmdCode v = 4) (hparam : cmdParam v = 0) (hown : x.owner = f) (hw : x.waiters ≠ []) :
    ∃ t, exec (.synResetObj f v) s = .next t ∧ t.synResultOf f = 5 ∧ t.syn = s.syn ∧ t.mem = s.mem := by
  have heq : synResetObj f v s = s.synDone f (cmdObj v) 5 0 := by
    rw [synResetObj, if_neg (not_not.2 hcode)]
    exact State.synCommand_late (by simp [hplain, hparam]) hx rfl (by simp [SynObj.ownedBy, hown]) (by simp [hw])
  exact ⟨_, congrArg Host.Outcome.next ((State.synHost_free hfree _ _ _).trans heq), State.synDone_result _ _ _ _ (by decide), rfl, rfl⟩

omit hq in
theorem readsObject (hcode : cmdCode v = 5) (hparam : cmdParam v = 0) (had : s.admitsFn x f = true) :
    ∃ t, exec (.synRead f v) s = .next t ∧ t.synResultOf f = 0 ∧
      (t.fn f).synResult = (if x.type = .bar then x.generation * 2 ^ 32 + x.arrivals else x.value) ∧ t.syn = s.syn ∧ t.mem = s.mem := by
  have heq : synRead f v s = s.synDone f (cmdObj v) 0 x.stateWord := by
    rw [synRead, if_neg (not_not.2 hcode)]
    exact State.synCommand_ok (by simp [hplain, hparam]) hx rfl had rfl
  refine ⟨_, congrArg Host.Outcome.next ((State.synHost_free hfree _ _ _).trans heq), State.synDone_result _ _ _ _ (by decide), ?_, rfl, rfl⟩
  rw [State.synDone_fn, SynObj.stateWord]
  cases x.type <;> rfl

omit hq in
theorem mirrorsObject (hcode : cmdCode v = 6) (hparam : cmdParam v = 0) (ha : (s.fn f).synArg % 16 = 0) (had : s.admitsFn x f = true) :
    ∃ t, exec (.synMirror f v) s = .next t ∧ t.synResultOf f = 0 ∧
      t.syn.objs.get? (cmdObj v) = some { x with mirror := if (s.fn f).synArg = 0 then none else some (f, (s.fn f).synArg) } ∧ ObjectOnly s t (cmdObj v) := by
  have heq : synMirror f v s = (s.putObj (cmdObj v) { x with mirror := if (s.fn f).synArg = 0 then none else some (f, (s.fn f).synArg) }).synDone f (cmdObj v) 0 0 := by
    rw [synMirror, if_neg (not_not.2 hcode)]
    exact State.synCommand_ok (by simp [hplain, hparam, ha]) hx rfl had rfl
  exact ⟨_, congrArg Host.Outcome.next ((State.synHost_free hfree _ _ _).trans heq), State.synDone_result _ _ _ _ (by decide), s.putObj_obj _ _,
    State.synDone_only (s.putObj_only _ _) _ _ _ _⟩

omit hq in
theorem notifiesObject (hcode : cmdCode v = 7) (hparam : cmdParam v < vectorsOf f) (had : s.admitsFn x f = true) :
    ∃ t, exec (.synNotify f v) s = .next t ∧ t.synResultOf f = 0 ∧
      t = (State.notifyCheck (s.putObj (cmdObj v) { x with notify := some (f, cmdParam v, (s.fn f).synArg) }) (cmdObj v)).synDone f (cmdObj v) 0 0 := by
  have heq : synNotify f v s =
      (State.notifyCheck (s.putObj (cmdObj v) { x with notify := some (f, cmdParam v, (s.fn f).synArg) }) (cmdObj v)).synDone f (cmdObj v) 0 0 := by
    rw [synNotify, if_neg (not_not.2 hcode)]
    exact State.synCommand_ok (by simp [hplain, hparam]) hx rfl had rfl
  exact ⟨_, congrArg Host.Outcome.next ((State.synHost_free hfree _ _ _).trans heq), State.synDone_result _ _ _ _ (by decide), rfl⟩

omit hq in
theorem notifiesLater (hcode : cmdCode v = 7) (hparam : cmdParam v < vectorsOf f) (had : s.admitsFn x f = true) (hn : x.notifies (s.fn f).synArg = false) :
    ∃ t, exec (.synNotify f v) s = .next t ∧ t.synResultOf f = 0 ∧
      t.syn.objs.get? (cmdObj v) = some { x with notify := some (f, cmdParam v, (s.fn f).synArg) } ∧ ObjectOnly s t (cmdObj v) := by
  obtain ⟨t, ht, hres, rfl⟩ := notifiesObject hx hplain hfree hcode hparam had
  have hn' : SynObj.notifies { x with notify := some (f, cmdParam v, (s.fn f).synArg) } (s.fn f).synArg = false := hn
  have hcheck : State.notifyCheck (s.putObj (cmdObj v) { x with notify := some (f, cmdParam v, (s.fn f).synArg) }) (cmdObj v) =
      s.putObj (cmdObj v) { x with notify := some (f, cmdParam v, (s.fn f).synArg) } := by
    rw [State.notifyCheck, State.putObj_obj]
    dsimp only
    rw [if_neg (by simp [hn'])]
  refine ⟨_, ht, hres, ?_⟩
  rw [hcheck]
  exact ⟨s.putObj_obj _ _, State.synDone_only (s.putObj_only _ _) _ _ _ _⟩

theorem notifiesNow (hcode : cmdCode v = 7) (hparam : cmdParam v < vectorsOf f) (had : s.admitsFn x f = true) (hn : x.notifies (s.fn f).synArg = true)
    (hg : (s.fn f).gate = .opened) :
    ∃ t, exec (.synNotify f v) s = .next t ∧ t.synResultOf f = 0 ∧ t.syn.objs.get? (cmdObj v) = some x ∧ (t.vec f (cmdParam v)).due = true ∧
      ObjectOnly s t (cmdObj v) := by
  obtain ⟨t, ht, hres, rfl⟩ := notifiesObject hx hplain hfree hcode hparam had
  have hn' : SynObj.notifies { x with notify := some (f, cmdParam v, (s.fn f).synArg) } (s.fn f).synArg = true := hn
  have hback : ({ x with notify := none } : SynObj) = x := by
    obtain ⟨-, hnone⟩ := hq
    cases x
    subst hnone
    rfl
  have hcheck : State.notifyCheck (s.putObj (cmdObj v) { x with notify := some (f, cmdParam v, (s.fn f).synArg) }) (cmdObj v) =
      State.signal ((s.putObj (cmdObj v) { x with notify := some (f, cmdParam v, (s.fn f).synArg) }).putObj (cmdObj v) x) f (cmdParam v) := by
    rw [State.notifyCheck, State.putObj_obj]
    dsimp only
    rw [if_pos hn', hback]
    rfl
  refine ⟨_, ht, hres, ?_⟩
  rw [hcheck]
  generalize hu : (s.putObj (cmdObj v) { x with notify := some (f, cmdParam v, (s.fn f).synArg) }).putObj (cmdObj v) x = u
  have hobj : u.syn.objs.get? (cmdObj v) = some x := by rw [← hu]; exact State.putObj_obj _ _ _
  have honly : ObjectOnly s u (cmdObj v) := by rw [← hu]; exact (s.putObj_only _ _).trans (State.putObj_only _ _ _)
  have hgate : (u.fn f).gate = .opened := by rw [← hu]; exact hg
  have hsig : ObjectOnly u (u.signal f (cmdParam v)) (cmdObj v) := ⟨fun k _ => by simp, by simp, by simp, by simp, by simp⟩
  refine ⟨?_, u.signal_due hgate, State.synDone_only (honly.trans hsig) _ _ _ _⟩
  rw [State.synDone_syn, State.signal_syn, hobj]

end

/-! The mirror of an object. -/

theorem linesOf_quantum (pa : Nat) : linesOf (16 * pa) 16 = [pa / 8] := by
  have h1 : 16 * pa / 128 = pa / 8 := by omega
  have h2 : (16 * pa + 16 - 1) / 128 + 1 - pa / 8 = 1 := by omega
  rw [linesOf, if_neg (by decide), h1, h2]
  rfl

theorem State.applyMsg_allowed {s : State} {m : SynMsg} {x : SynObj} (hx : s.syn.objs.get? m.obj = some x) (hop : m.op < 16)
    (hdef : x.type.defines m.op = true) (had : s.admitsFn x m.fn = true) (hc : x.code = 0) :
    (s.applyMsg m).mem = (State.finishObj (s.traceSync m) m.obj x (x.operate m.op m.value).2).mem := by
  rw [State.applyMsg, hx]
  dsimp only
  rw [if_neg (by omega), if_neg (by rw [hdef, had]; decide), State.objOperate, if_neg (not_not.2 hc)]

theorem State.notifyCheck_mem (s : State) (o : Nat) : (s.notifyCheck o).mem = s.mem := by
  unfold State.notifyCheck
  split
  · rfl
  · split
    · rfl
    · split <;> simp

/-- The value of a fence stands in its mirror. -/
theorem fence_mirrorBytes {x : SynObj} (ht : x.type = .fence) (hc : x.code = 0) : x.mirrorBytes = leBytes 8 x.value ++ leBytes 8 0 := by
  rw [SynObj.mirrorBytes, SynObj.stateWord, ht, hc, List.append_assoc]
  rfl

/-- An object whose state has changed is written to its mirror in device memory. -/
theorem State.finishObj_mirrored {s : State} {o f pa : Nat} {x y : SynObj} (hm : y.mirror = some (f, 16 * pa)) (hw : y.waiters = [])
    (hne : y.mirrorBytes ≠ x.mirrorBytes) (htr : s.translate f (16 * pa) .write = .ok 0 (16 * pa)) (hlt : 16 * pa + 16 ≤ memSize)
    (hdir : s.l2.dir.get? (pa / 8) = none) (hp : s.granulePoison pa = false) (hlen : y.mirrorBytes.length = 16) :
    (s.finishObj o x y).mem = cellWrite s.mem (16 * pa) y.mirrorBytes := by
  unfold State.finishObj
  rw [SynObj.evaluate_idle hw]
  dsimp only
  rw [if_neg hne, State.notifyCheck_mem, State.mirrorWrite, hm]
  dsimp only
  generalize hu : { s with syn.objs := s.syn.objs.put o y, syn.outbound := s.syn.outbound ++ [] } = u
  have htr' : u.translate f (16 * pa) .write = .ok 0 (16 * pa) := by
    rw [← htr, ← hu]
    exact State.translate_congr rfl rfl rfl rfl rfl rfl rfl _ _ _
  have hp' : u.granulePoison pa = false := by
    rw [← hp, ← hu]
    exact State.granulePoison_congr rfl rfl rfl _
  have hmem : u.mem = s.mem := by rw [← hu]
  have hl2 : u.l2 = s.l2 := by rw [← hu]
  rw [htr']
  refine (State.agentWrite_mem (s := u) (pa := 16 * pa) (data := y.mirrorBytes) ?_ ?_ (by omega)).trans (by rw [hmem])
  · rw [hlen, linesOf_quantum, hl2]
    simpa using hdir
  · intro i hi
    rwa [show (16 * pa + i) / 16 = pa by omega]

/-- Settles O40: each command by the checks that it meets, and a mirror by the write of an agent at a line that no home holds. -/
theorem syncCommands : Obligations.SyncCommands := by
  unfold Obligations.SyncCommands
  refine ⟨fun s f v o ho hcode ht hparam hpart hfree => creates ho hfree hcode ht hparam hpart,
    fun s f v o ho hx hplain hparam hfree c hc h1 h4 h5 => absentObject (ho ▸ hx) hplain hparam hfree hc h1 h4 h5,
    fun s f v o x ho hx hq hplain _ hfree => ?_, fun s o f pa i m x hi hf hmo hx ht hop hc hw hn hmir had hlt hlt64 htr hsize hwf hdir hp => ?_,
    fun s who p v hc hp => ⟨fun hst => ?_, fun hv hn hbad => ?_⟩⟩
  · subst ho
    refine ⟨destroys hx hq hplain hfree, destroyDenied hx hplain hfree, fun hcode hparam ht had => ⟨signalsFence hx hq hplain hfree hcode hparam ht had,
        operateErrored hx hplain hfree hcode (.inl hparam) (by simp [ht, hparam, ObjType.defines])⟩, arrivesAtBarrier hx hq hplain hfree,
      setsError hx hq hplain hfree, fun hcode hparam hown => ⟨resetsObject hx hq hplain hfree hcode hparam hown, resetRefused hx hplain hfree hcode hparam hown⟩,
      readsObject hx hplain hfree, mirrorsObject hx hplain hfree, fun hcode hparam had => ⟨notifiesLater hx hplain hfree hcode hparam had,
        notifiesNow hx hq hplain hfree hcode hparam had⟩⟩
  · subst hmo
    refine ⟨_, rfl, ?_⟩
    have hy : (x.operate m.op m.value).2 = { x with value := m.value } := by
      have hmax : max x.value (m.value % 2 ^ 64) = m.value := by omega
      rw [hop]
      exact congrArg (fun n => ({ x with value := n } : SynObj)) hmax
    have hbytes : SynObj.mirrorBytes { x with value := m.value } = leBytes 8 m.value ++ leBytes 8 0 := fence_mirrorBytes ht hc
    have hne : SynObj.mirrorBytes { x with value := m.value } ≠ x.mirrorBytes := by
      rw [hbytes, fence_mirrorBytes ht hc]
      intro h
      have h8 := congrArg ofLe (List.append_inj_left h (by simp))
      rw [ofLe_leBytes, ofLe_leBytes] at h8
      omega
    have hlen : (SynObj.mirrorBytes { x with value := m.value }).length = 16 := by rw [hbytes]; simp
    rw [syncObjectApply_first hi hf]
    generalize hu : { s with syn.inbound := dropAt s.syn.inbound i } = u
    have hux : u.syn.objs.get? m.obj = some x := by rw [← hu]; exact hx
    have hua : u.admitsFn x m.fn = true := by rw [← hu]; exact had
    have hstate : (u.traceSync m).mem = s.mem ∧ (u.traceSync m).l2 = s.l2 ∧ (u.traceSync m).poison = s.poison ∧ (u.traceSync m).stk = s.stk ∧
        (u.traceSync m).mgt = s.mgt ∧ (u.traceSync m).hif = s.hif ∧ (u.traceSync m).fab = s.fab := by
      rw [← hu]
      simp
    obtain ⟨hmem, hl2, hpoison, hstk, hmgt, hhif, hfab⟩ := hstate
    rw [State.applyMsg_allowed hux (by omega) (by simp [ht, hop, ObjType.defines]) hua hc, hy,
      State.finishObj_mirrored (x := x) (y := { x with value := m.value }) hmir hw hne ((State.translate_congr hl2 hmem hpoison hstk hmgt hhif (congrArg _ hfab) _ _ _).trans htr) hsize
        ((congrArg (fun l : L2 => l.dir.get? (pa / 8)) hl2).trans hdir) ((State.granulePoison_congr hpoison hstk hmgt _).trans hp) hlen, hmem, hbytes]
    exact cellBytes_cellWrite_self hwf (16 * pa) (leBytes 8 m.value ++ leBytes 8 0)
  · have hsome : (entryInfo (E.syncRange + p)).isSome := entryInfo_isSome_of_row (b := E.syncRange) (n := 64) (by decide) (Nat.le_add_right _ _) (by omega)
    refine ⟨_, rfl, ?_⟩
    rw [syncRangeWrite, hst, State.deviceWrite_ok _ _ _ _ _ hc]
    exact ⟨s.dictNum_num_self _ _ _ _ hsome, by simp, by simp⟩
  · have hst : s.syncRangeStatus p v = 5 := by
      unfold State.syncRangeStatus
      dsimp only
      rw [if_neg (by simp only [not_or, not_not]; omega)]
      rcases hbad with hbig | ⟨k, hk, hin, hout⟩
      · rw [if_pos hbig]
      · split_ifs with h1 h2 h3
        · rfl
        · rfl
        · rfl
        · exact absurd (List.any_eq_true.2 ⟨k, hk, by simp [hin]; omega⟩) h3
    refine congrArg Host.Outcome.next ?_
    rw [syncRangeWrite, hst, State.deviceWrite_bad _ _ _ hc (by decide)]

end Sys2Proof.Machine
end

section
/-! Widths and alignment of host accesses to BAR0 (R9, R10, R317). -/

namespace Sys2Proof.Machine

/-! Registers of 64 bits stand at their whole offset. -/

theorem inRun_down {off lo stride count : Nat} (hlo : lo % 8 = 0) (h : inRun off lo stride count = true) : inRun (off / 8 * 8) lo stride count = true := by
  simp only [inRun, decide_eq_true_eq] at h ⊢
  omega

theorem contains_down {off : Nat} {l : List Nat} (hl : l.all (fun x => decide (x % 8 = 0)) = true) (h : l.contains off = true) : l.contains (off / 8 * 8) = true := by
  have hmem : off ∈ l := by simpa using h
  have h8 : off % 8 = 0 := by simpa using List.all_eq_true.1 hl off hmem
  rwa [show off / 8 * 8 = off by omega]

theorem contains_mod_down {off m : Nat} {l : List Nat} (hm : m % 8 = 0) (hl : l.all (fun x => decide (x % 8 = 0)) = true) (h : l.contains (off % m) = true) :
    l.contains (off / 8 * 8 % m) = true := by
  have hmem : off % m ∈ l := by simpa using h
  have h8 : off % m % 8 = 0 := by simpa using List.all_eq_true.1 hl _ hmem
  have hoff : off % 8 = 0 := by
    rw [← Nat.mod_mod_of_dvd off (Nat.dvd_of_mod_eq_zero hm)]
    exact h8
  rwa [show off / 8 * 8 = off by omega]

theorem wideEvery_down {off : Nat} (h : wideEvery off = true) : wideEvery (off / 8 * 8) = true := by
  simp only [wideEvery, Bool.or_eq_true, Bool.and_eq_true] at h ⊢
  exact h.imp (Or.imp (Or.imp (Or.imp (contains_down (by decide)) (inRun_down rfl)) (inRun_down rfl))
    (And.imp (inRun_down rfl) (contains_mod_down rfl (by decide)))) (And.imp (inRun_down rfl) (contains_mod_down rfl (by decide)))

theorem isCntValue_down {off : Nat} (h : isCntValue off = true) : isCntValue (off / 8 * 8) = true := by
  have h8 : off % 8 = 0 := by
    simp only [isCntValue, Bool.and_eq_true, decide_eq_true_eq] at h
    exact h.1
  rwa [show off / 8 * 8 = off by omega]

theorem wideF0_down {off : Nat} (h : wideF0 off = true) : wideF0 (off / 8 * 8) = true := by
  simp only [wideF0, Bool.or_eq_true, Bool.and_eq_true] at h ⊢
  refine h.imp (Or.imp (Or.imp (Or.imp (Or.imp (Or.imp (Or.imp (Or.imp (Or.imp (Or.imp (Or.imp (contains_down (by decide)) (inRun_down rfl))
    (And.imp (inRun_down rfl) (contains_mod_down rfl (by decide)))) (And.imp (inRun_down rfl) (contains_mod_down rfl (by decide))))
    (inRun_down rfl)) (inRun_down rfl)) (inRun_down rfl)) (inRun_down rfl)) (inRun_down rfl)) (inRun_down rfl)) (inRun_down rfl)) isCntValue_down

/-- A 64-bit register that covers an offset stands at the offset that is eight bytes aligned. -/
theorem wideReg_down {f off : Nat} (h : wideReg f off = true) : wideReg f (off / 8 * 8) = true := by
  simp only [wideReg, Bool.or_eq_true, Bool.and_eq_true] at h ⊢
  exact h.imp wideEvery_down (And.imp id wideF0_down)

/-! The registers behind an access of 32 bits. -/

theorem regBase_wide {f off : Nat} (h : wideReg f (off / 8 * 8) = true) : regBase f off = off / 8 * 8 := if_pos h

theorem regBase_narrow {f off : Nat} (h : wideReg f (off / 8 * 8) = false) (h4 : off % 4 = 0) : regBase f off = off := by
  rw [regBase, if_neg (by simp [h])]
  omega

theorem wideReg_narrow {f off : Nat} (h : wideReg f (off / 8 * 8) = false) : wideReg f off = false := by
  by_contra hw
  rw [wideReg_down (by simpa using hw)] at h
  exact absurd h (by decide)

theorem State.write32_narrow (s : State) {f off : Nat} (v : Nat) (h : wideReg f (off / 8 * 8) = false) (h4 : off % 4 = 0) :
    s.write32 f off v = s.writeReg f off (v % 2 ^ 32) := by
  rw [State.write32, regBase_narrow h h4]
  exact if_pos (by simp [wideReg_narrow h])

theorem State.write32_low (s : State) {f off : Nat} (v : Nat) (h : wideReg f off = true) (h8 : off % 8 = 0) :
    s.write32 f off v = { s with bar0.held := s.bar0.held.put (halfKey f off) (v % 2 ^ 32) } := by
  have hbase : regBase f off = off := (regBase_wide (by rwa [show off / 8 * 8 = off by omega])).trans (by omega)
  rw [State.write32, hbase]
  exact (if_neg (by simp [h])).trans (if_pos rfl)

theorem State.write32_high (s : State) {f off : Nat} (v : Nat) (h : wideReg f off = true) (h8 : off % 8 = 0) :
    s.write32 f (off + 4) v = State.writeReg { s with bar0.held := s.bar0.held.del (halfKey f off) } f off
      (v % 2 ^ 32 * 2 ^ 32 + s.bar0.held.getD (halfKey f off) (s.readReg f off % 2 ^ 32)) := by
  have hdown : (off + 4) / 8 * 8 = off := by omega
  have hbase : regBase f (off + 4) = off := (regBase_wide (by rwa [hdown])).trans hdown
  rw [State.write32, hbase]
  exact (if_neg (by simp [h])).trans (if_neg (by omega))

/-! Accesses of an open BAR0. -/

theorem exec_registerWrite {s : State} {f off size : Nat} (hfree : s.heldOf f = []) (v : Nat) :
    exec (.registerWrite f off size v) s = .next (registerWrite f off size v s) := congrArg Host.Outcome.next (State.inOrder_of_free hfree)

theorem exec_registerRead {s : State} {f off size : Nat} (hfree : s.heldOf f = []) : exec (.registerRead f off size) s = .next (registerRead f off size s) :=
  congrArg Host.Outcome.next (State.inOrder_of_free hfree)

theorem registerWrite_four {s : State} {f off : Nat} (hb : s.barState f = .opened) (hin : off + 4 ≤ bar0Size f) (h4 : off % 4 = 0) (v : Nat) :
    registerWrite f off 4 v s = s.write32 f off v :=
  (if_neg (by simp only [not_or, not_not]; exact ⟨hb, by omega, h4⟩)).trans (if_pos rfl)

theorem registerWrite_eight {s : State} {f off : Nat} (hb : s.barState f = .opened) (hin : off + 8 ≤ bar0Size f) (h8 : off % 8 = 0) (v : Nat) :
    registerWrite f off 8 v s = s.write64 f off v :=
  ((if_neg (by simp only [not_or, not_not]; exact ⟨hb, by omega, h8⟩)).trans (if_neg (by decide))).trans (if_pos rfl)

/-- A write of no width that a register has, and a misaligned one, is discarded. -/
theorem registerWrite_discarded {s : State} {f off size : Nat} (v : Nat) (h : (size ≠ 4 ∧ size ≠ 8) ∨ off % size ≠ 0) : registerWrite f off size v s = s := by
  unfold registerWrite
  split_ifs with hbad h4 h8
  · rfl
  · rcases h with ⟨h, -⟩ | h
    · exact absurd h4 h
    · exact absurd (.inr (.inr h)) hbad
  · rcases h with ⟨-, h⟩ | h
    · exact absurd h8 h
    · exact absurd (.inr (.inr h)) hbad
  · rfl

/-- A narrow register written in 32 bits. -/
theorem exec_write_narrow {s : State} {f off : Nat} (v : Nat) (hb : s.barState f = .opened) (hfree : s.heldOf f = []) (hin : off + 4 ≤ bar0Size f)
    (h4 : off % 4 = 0) (hw : wideReg f (off / 8 * 8) = false) : exec (.registerWrite f off 4 v) s = .next (s.writeReg f off (v % 2 ^ 32)) := by
  rw [exec_registerWrite hfree, registerWrite_four hb hin h4, State.write32_narrow s v hw h4]

theorem registerRead_open {s : State} {f off size : Nat} (hb : s.barState f = .opened) (hin : off + size ≤ bar0Size f) :
    registerRead f off size s = if size = 4 ∧ off % 4 = 0 then s.read32 f off
      else if size = 8 ∧ off % 8 = 0 then
        match logAt f off with
        | some n => s.readLog64 n
        | none => { s with bar0.rdata := s.regBytes f off 8 }
      else { s with bar0.rdata := s.regBytes f off size } :=
  (if_neg (not_not.2 hb)).trans (if_neg (by omega))

theorem State.read32_narrow (s : State) {f off : Nat} (h : wideReg f (off / 8 * 8) = false) (h4 : off % 4 = 0) (hl : logAt f off = none) :
    s.read32 f off = { s with bar0.rdata := s.readReg f off } := by
  rw [State.read32, regBase_narrow h h4, hl]
  exact if_pos (by simp [wideReg_narrow h])

theorem State.read32_low (s : State) {f off : Nat} (h : wideReg f off = true) (h8 : off % 8 = 0) (hl : logAt f off = none) :
    s.read32 f off = { s with bar0.rdata := s.readReg f off % 2 ^ 32, bar0.captured := s.bar0.captured.put (halfKey f off) (s.readReg f off / 2 ^ 32) } := by
  have hbase : regBase f off = off := (regBase_wide (by rwa [show off / 8 * 8 = off by omega])).trans (by omega)
  rw [State.read32, hbase, hl]
  exact (if_neg (by simp [h])).trans (if_pos rfl)

theorem State.read32_high (s : State) {f off : Nat} (h : wideReg f off = true) (h8 : off % 8 = 0) (hl : logAt f off = none) :
    s.read32 f (off + 4) = { s with
      bar0.rdata := s.bar0.captured.getD (halfKey f off) (s.readReg f off / 2 ^ 32), bar0.captured := s.bar0.captured.del (halfKey f off) } := by
  have hdown : (off + 4) / 8 * 8 = off := by omega
  have hbase : regBase f (off + 4) = off := (regBase_wide (by rwa [hdown])).trans hdown
  rw [State.read32, hbase, hl]
  exact (if_neg (by simp [h])).trans (if_neg (by omega))

theorem exec_write_high {s : State} {f off : Nat} (v : Nat) (hb : s.barState f = .opened) (hfree : s.heldOf f = []) (hin : off + 8 ≤ bar0Size f)
    (h8 : off % 8 = 0) (hw : wideReg f off = true) :
    exec (.registerWrite f (off + 4) 4 v) s = .next (State.writeReg { s with bar0.held := s.bar0.held.del (halfKey f off) } f off
      (v % 2 ^ 32 * 2 ^ 32 + s.bar0.held.getD (halfKey f off) (s.readReg f off % 2 ^ 32))) := by
  rw [exec_registerWrite hfree, registerWrite_four hb (by omega) (by omega), State.write32_high s v hw h8]

theorem exec_read_high {s : State} {f off : Nat} (hb : s.barState f = .opened) (hfree : s.heldOf f = []) (hin : off + 8 ≤ bar0Size f)
    (h8 : off % 8 = 0) (hw : wideReg f off = true) (hl : logAt f off = none) :
    exec (.registerRead f (off + 4) 4) s = .next { s with
      bar0.rdata := s.bar0.captured.getD (halfKey f off) (s.readReg f off / 2 ^ 32), bar0.captured := s.bar0.captured.del (halfKey f off) } := by
  rw [exec_registerRead hfree, registerRead_open hb (by omega), if_pos ⟨rfl, by omega⟩, State.read32_high s hw h8 hl]

/-! The registers of a queue. -/

theorem State.writeReg_queue (s : State) (f v : Nat) {i k : Nat} (hi : i < 16) (hk : k < 0x40) :
    s.writeReg f (0x10000 + 0x40 * i + k) v = s.writeQueue f (0x10000 + 0x40 * i + k) v := by
  have hblock : f0Block (0x10000 + 0x40 * i + k) = false := by
    simp only [f0Block, inRun, Bool.or_eq_false_iff, decide_eq_false_iff_not]
    omega
  have hrun (lo stride n : Nat) (h : lo + stride * n ≤ 0x10000) : inRun (0x10000 + 0x40 * i + k) lo stride n = false := by
    simp only [inRun, decide_eq_false_iff_not]
    omega
  have hin : inRun (0x10000 + 0x40 * i + k) 0x10000 0x40 16 = true := by
    simp only [inRun, decide_eq_true_eq]
    omega
  rw [State.writeReg, hblock, if_neg (by decide), State.writeEvery, if_neg (by omega), if_neg (by rw [hrun 0x400 4 64 (by decide)]; decide), if_neg (by omega),
    if_neg (by omega), if_neg (by omega), if_neg (by omega), if_neg (by omega), if_neg (by rw [hrun 0xC000 0x40 16 (by decide)]; decide), if_pos hin]

theorem wideReg_queueCtrl (f : Nat) {i : Nat} (hi : i < 16) : wideReg f (0x10000 + 0x40 * i) = false := by
  have hrest (l : List Nat) (hl : l.all (fun x => decide (x < 0x10000 ∨ 0x10400 ≤ x)) = true) : l.contains (0x10000 + 0x40 * i) = false := by
    rw [List.contains_eq_mem, decide_eq_false_iff_not]
    intro hmem
    have := List.all_eq_true.1 hl _ hmem
    simp only [decide_eq_true_eq] at this
    omega
  have hrun (lo stride n : Nat) (h : lo + stride * n ≤ 0x10000 ∨ 0x10400 ≤ lo) : inRun (0x10000 + 0x40 * i) lo stride n = false := by
    simp only [inRun, decide_eq_false_iff_not]
    omega
  have hmod : (0x10000 + 0x40 * i) % 0x40 = 0 := by omega
  have hcnt : isCntValue (0x10000 + 0x40 * i) = false := by
    simp only [isCntValue, Bool.and_eq_false_iff, Bool.or_eq_false_iff, decide_eq_false_iff_not]
    omega
  rw [wideReg, wideEvery, wideF0, hrest _ (by decide), hrest _ (by decide), hmod, hcnt]
  simp [hrun]

theorem exec_write_queue {s : State} {f i k off : Nat} (v : Nat) (ho : off = 0x10000 + 0x40 * i + k) (hi : i < 16) (hk : k = 0 ∨ k = 4)
    (hb : s.barState f = .opened) (hfree : s.heldOf f = []) : exec (.registerWrite f off 4 v) s = .next (s.writeQueue f off (v % 2 ^ 32)) := by
  subst ho
  have hsize : 0x10000 + 0x40 * i + k + 4 ≤ bar0Size f := by
    unfold bar0Size
    split <;> omega
  have hdown : (0x10000 + 0x40 * i + k) / 8 * 8 = 0x10000 + 0x40 * i := by omega
  rw [exec_write_narrow v hb hfree hsize (by omega) (by rw [hdown]; exact wideReg_queueCtrl f hi), State.writeReg_queue s f _ hi (by omega)]

/-- What one bit of a queue's control register does. -/
def State.queueBit (s : State) (q v : Nat) : State :=
  match v % 16 with
  | 0 => s
  | 1 => queuePreempt q s
  | 2 => queueResume q s
  | 4 => queueKill q s
  | 8 => queueReset q s
  | _ => s.badCtrl q

theorem State.writeQueue_ctrl (s : State) (f v : Nat) {i : Nat} (hi : i < 16) : s.writeQueue f (0x10004 + 0x40 * i) v = s.queueBit (16 * f + i) v := by
  have hq : (0x10004 + 0x40 * i - 0x10000) / 0x40 = i := by omega
  have hk : (0x10004 + 0x40 * i) % 0x40 = 4 := by omega
  rw [State.writeQueue, hq, hk]
  rfl

theorem State.writeQueue_status (s : State) (f v : Nat) {i : Nat} (hi : i < 16) :
    s.writeQueue f (0x10000 + 0x40 * i) v = s.modQ (16 * f + i) (fun x => { x with
      badCtrl := w1c x.badCtrl v 19, badDoorbell := w1c x.badDoorbell v 18, preemptRefused := w1c x.preemptRefused v 17 }) := by
  have hq : (0x10000 + 0x40 * i - 0x10000) / 0x40 = i := by omega
  have hk : (0x10000 + 0x40 * i) % 0x40 = 0 := by omega
  rw [State.writeQueue, hq, hk]
  rfl

/-! The interrupt registers of F0. -/

theorem bit_natAndNot_of_lt {n a b i : Nat} (h : i < n) : bit (natAndNot n a b) i = (bit a i && !bit b i) := by
  have hb (k : Nat) (x : BitVec n) : x.toNat.testBit k = x.getLsbD k := rfl
  simp only [bit_eq_testBit, natAndNot, hb i, BitVec.getLsbD_and, BitVec.getLsbD_not, BitVec.getLsbD_ofNat, h, decide_true, Bool.true_and]

theorem bit_mod {v n i : Nat} (h : i < n) : bit (v % 2 ^ n) i = bit v i := by
  simp only [bit_eq_testBit, Nat.testBit_mod_two_pow, h, decide_true, Bool.true_and]

/-- Settles O59: a write and a read by the width and the alignment of their access, and the queue and interrupt registers by what stands at their offsets. -/
theorem registerAccess : Obligations.RegisterAccess := by
  unfold Obligations.RegisterAccess
  refine ⟨fun s f off size v hb hfree hin => ⟨fun hs => ?_, fun h0 hmis => ?_, fun hs h8 hw => ?_, fun hs h8 hw ho ho4 => ?_, fun hs h8 hw ho ho4 => ?_,
      fun hs h4 hw => ?_, fun hs h8 hw => ?_, fun hs h8 hw hnone => ?_⟩,
    fun s f off size hb hfree hin => ⟨fun hs => ?_, fun hs h8 hl => ?_, fun hs h4 hw hl => ?_, fun hs h8 hw hl => ?_⟩,
    fun s f i _ hi hb hfree => ⟨⟨?_, ?_, ?_, ?_⟩, ?_⟩, fun s v hb hfree => ⟨?_, ?_, ?_⟩,
    fun s f off hf _ hb hfree hblock h4 hin hw => ⟨fun v => ?_, ?_⟩⟩
  · rw [exec_registerWrite hfree, registerWrite_discarded v (.inl (by omega))]
  · rw [exec_registerWrite hfree, registerWrite_discarded v (.inr hmis)]
  · subst hs
    rw [exec_registerWrite hfree, registerWrite_eight hb hin h8, State.write64, if_pos hw]
  · subst hs
    rw [exec_registerWrite hfree, registerWrite_eight hb hin h8, State.write64, if_neg (by simp [hw])]
    simp only [ho, ho4, Bool.false_eq_true, if_false]
  · subst hs
    rw [exec_registerWrite hfree, registerWrite_eight hb hin h8, State.write64, if_neg (by simp [hw])]
    simp only [ho, ho4, Bool.false_eq_true, if_false, if_true]
  · subst hs
    exact exec_write_narrow v hb hfree hin h4 hw
  · subst hs
    refine ⟨{ s with bar0.held := s.bar0.held.put (halfKey f off) (v % 2 ^ 32) }, ?_, SMap.get?_put_self _ _ _, rfl, rfl, rfl, rfl, rfl, fun u hin8 => ?_⟩
    · rw [exec_registerWrite hfree, registerWrite_four hb hin (by omega), State.write32_low s v hw h8]
    · refine (exec_write_high (s := { s with bar0.held := s.bar0.held.put (halfKey f off) (v % 2 ^ 32) }) u hb hfree hin8 h8 hw).trans ?_
      refine congrArg (fun n => Host.Outcome.next (State.writeReg _ f off (u % 2 ^ 32 * 2 ^ 32 + n))) ?_
      exact SMap.getD_put_self _ _ _ _
  · subst hs
    obtain ⟨b, rfl⟩ : ∃ b, off = b + 4 := ⟨off - 4, by omega⟩
    rw [Nat.add_sub_cancel] at hw hnone ⊢
    rw [exec_write_high v hb hfree hin (by omega) hw, SMap.getD, hnone]
  · rw [exec_registerRead hfree, registerRead_open hb hin, if_neg (by omega), if_neg (by omega)]
  · subst hs
    rw [exec_registerRead hfree, registerRead_open hb hin, if_neg (by omega), if_pos ⟨rfl, h8⟩, hl]
  · subst hs
    rw [exec_registerRead hfree, registerRead_open hb hin, if_pos ⟨rfl, h4⟩, State.read32_narrow s hw h4 hl]
  · subst hs
    refine ⟨{ s with bar0.rdata := s.readReg f off % 2 ^ 32, bar0.captured := s.bar0.captured.put (halfKey f off) (s.readReg f off / 2 ^ 32) },
      ?_, rfl, rfl, rfl, rfl, rfl, rfl, fun hin8 => ⟨_, exec_read_high (s := { s with
        bar0.rdata := s.readReg f off % 2 ^ 32, bar0.captured := s.bar0.captured.put (halfKey f off) (s.readReg f off / 2 ^ 32) }) hb hfree hin8 h8 hw hl,
        SMap.getD_put_self _ _ _ _, SMap.get?_del_self _ _⟩⟩
    rw [exec_registerRead hfree, registerRead_open hb hin, if_pos ⟨rfl, by omega⟩, State.read32_low s hw h8 hl]
  · exact (exec_write_queue 1 (k := 4) (by omega) hi (.inr rfl) hb hfree).trans (congrArg Host.Outcome.next (State.writeQueue_ctrl s f _ hi))
  · exact (exec_write_queue 2 (k := 4) (by omega) hi (.inr rfl) hb hfree).trans (congrArg Host.Outcome.next (State.writeQueue_ctrl s f _ hi))
  · exact (exec_write_queue 4 (k := 4) (by omega) hi (.inr rfl) hb hfree).trans (congrArg Host.Outcome.next (State.writeQueue_ctrl s f _ hi))
  · exact (exec_write_queue 8 (k := 4) (by omega) hi (.inr rfl) hb hfree).trans (congrArg Host.Outcome.next (State.writeQueue_ctrl s f _ hi))
  · refine ⟨_, (exec_write_queue 0xE0000 (k := 0) (by omega) hi (.inl rfl) hb hfree).trans (congrArg Host.Outcome.next (State.writeQueue_status s f _ hi)), ?_,
      fun k hk => State.modQ_q_ne _ _ _ hk, rfl, rfl, rfl⟩
    rw [State.modQ_q_self]
    simp [w1c, bit]
  · refine ⟨_, exec_write_narrow v hb hfree (by decide) (by decide) (by decide), fun n hn => ?_, rfl, rfl⟩
    exact (bit_natAndNot_of_lt hn).trans (by rw [bit_mod (by omega)])
  · refine ⟨_, exec_write_narrow v hb hfree (by decide) (by decide) (by decide), ?_, rfl, rfl⟩
    show v % 2 ^ 32 % 2 ^ 8 = v % 2 ^ 8
    omega
  · refine ⟨_, exec_write_narrow v hb hfree (by decide) (by decide) (by decide), ?_, rfl, rfl⟩
    show v % 2 ^ 32 % 2 ^ 5 = v % 2 ^ 5
    omega
  · rw [exec_write_narrow v hb hfree hin h4 hw, State.writeReg, if_pos hblock, if_neg (by omega)]
  · have hread : s.readReg f off = 0 := by rw [State.readReg, if_pos hblock, if_neg (by omega)]
    have hl : logAt f off = none := if_pos (by omega)
    rw [exec_registerRead hfree, registerRead_open hb hin, if_pos ⟨rfl, h4⟩, State.read32_narrow s hw h4 hl, hread]

end Sys2Proof.Machine
end

section
/-! The trace buffers (R444 to R449, Tables 19.11 to 19.21). -/

namespace Sys2Proof.Machine

/-! A change of one buffer. -/

theorem State.modTrc_only (s : State) (b : Nat) (g : Trc → Trc) : BufOnly s (s.modTrc b g) b := ⟨fun _ hk => s.modTrc_trc_ne b g hk, rfl, rfl, rfl⟩

theorem BufOnly.trans {s t u : State} {b : Nat} (h : BufOnly s t b) (k : BufOnly t u b) : BufOnly s u b := by
  obtain ⟨h1, h2, h3, h4⟩ := h
  obtain ⟨k1, k2, k3, k4⟩ := k
  exact ⟨fun i hi => (k1 i hi).trans (h1 i hi), k2.trans h2, k3.trans h3, k4.trans h4⟩

theorem State.trc_congr {s t : State} (h : t.obs = s.obs) (b : Nat) : t.trc b = s.trc b := by simp only [State.trc, h]

/-- A buffer's event: the bit is set and its owner's vector signalled. -/
theorem State.trcEvent_trc (s : State) (b k : Nat) : (s.trcEvent b).trc k = (s.modTrc b (fun t => { t with event := true })).trc k := by
  unfold State.trcEvent
  dsimp only
  split
  · exact State.trc_congr (by simp) k
  · rfl

theorem State.trcEvent_only (s : State) (b : Nat) : BufOnly s (s.trcEvent b) b := by
  refine ⟨fun k hk => (s.trcEvent_trc b k).trans (State.modTrc_trc_ne _ _ _ hk), ?_, ?_, ?_⟩ <;> simp [State.trcEvent, ite_mem, ite_cores, ite_fe]

theorem State.trcEvent_due {s : State} {b : Nat} (hf : s.num (E.trcOwner + b) < 256) (hg : (s.fn (s.num (E.trcOwner + b))).gate = .opened) :
    ((s.trcEvent b).vec (s.num (E.trcOwner + b)) (s.num (E.trcVector + b))).due = true := by
  unfold State.trcEvent
  dsimp only
  rw [if_pos hf]
  exact State.signal_due _ hg

/-! A record that a source emits. -/

/-- The records that a buffer stages are its own matter: each of them takes the record, or is as it was. -/
theorem foldl_stage_trc (src queue : Nat) (r : TrcRec) (l : List Nat) (hl : l.Nodup) (s : State) (b : Nat) :
    (l.foldl (fun s k => if s.takesRec k src queue then s.modTrc k (fun t => t.stage src (s.num (E.trcTrigger + k)) r) else s) s).trc b =
      if b ∈ l ∧ s.takesRec b src queue = true then (s.trc b).stage src (s.num (E.trcTrigger + b)) r else s.trc b := by
  induction l generalizing s with
  | nil => simp
  | cons k l ih =>
    obtain ⟨hk, hl⟩ := List.nodup_cons.1 hl
    rw [List.foldl_cons, ih hl]
    by_cases hb : b = k
    · subst hb
      rw [if_neg (by simp [hk])]
      by_cases ht : s.takesRec b src queue = true
      · rw [if_pos ht, if_pos ⟨List.mem_cons_self, ht⟩, State.modTrc_trc_self]
      · rw [if_neg ht, if_neg (fun h => ht h.2)]
    · have hsame : ∀ u : State, u = (if s.takesRec k src queue then s.modTrc k (fun t => t.stage src (s.num (E.trcTrigger + k)) r) else s) →
          u.trc b = s.trc b ∧ u.mgt = s.mgt := by
        rintro u rfl
        split
        · exact ⟨State.modTrc_trc_ne _ _ _ hb, rfl⟩
        · exact ⟨rfl, rfl⟩
      generalize hu : (if s.takesRec k src queue then s.modTrc k (fun t => t.stage src (s.num (E.trcTrigger + k)) r) else s) = u at hsame
      obtain ⟨htrc, hmgt⟩ := hsame u rfl
      have hnum (a : Nat) : u.num a = s.num a := State.num_of_mgt_num (congrArg Mgt.num hmgt) a 0
      have htakes : u.takesRec b src queue = s.takesRec b src queue := by
        unfold State.takesRec
        rw [htrc, hnum, hnum, hnum]
      rw [htakes, htrc, hnum]
      simp [hb]

/-- The flags that a source's next record carries: a resynchronisation and a step of its time base that it has not yet marked. -/
def State.dueFlags (s : State) (src domain : Nat) : Nat :=
  b2n (bit s.time.resyncFlag (if 32 ≤ domain then domain - 7 else domain) && !s.time.resyncDone.contains src) +
    2 * b2n (s.time.steppedFlag && !s.time.steppedDone.contains src)

theorem State.emitRec_trc (s : State) (src : Nat) (r : TrcRec) {b : Nat} (hb : b < 16) :
    (s.emitRec src r).trc b = if s.takesRec b src r.queue = true then
      (s.trc b).stage src (s.num (E.trcTrigger + b)) { r with flags := natOr 8 r.flags (s.dueFlags src r.domain) } else s.trc b := by
  unfold State.emitRec
  dsimp only
  rw [foldl_stage_trc src r.queue _ (List.range 16) List.nodup_range]
  simp only [List.mem_range, hb, true_and]
  rfl

theorem bit_natOr_flags (x y hit : Bool) :
    (bit (if hit then setBit (natOr 8 0 (b2n x + 2 * b2n y)) 2 else natOr 8 0 (b2n x + 2 * b2n y)) 2 = hit) ∧
      (bit (if hit then setBit (natOr 8 0 (b2n x + 2 * b2n y)) 2 else natOr 8 0 (b2n x + 2 * b2n y)) 1 = y) := by
  cases x <;> cases y <;> cases hit <;> decide

/-- A record that finds room enters the staging of its source. -/
theorem Trc.stage_staged {t : Trc} {src : Nat} (trigger : Nat) (r : TrcRec) (hn : stagedCount (t.staged.getD src []) < 64) (hd : t.dropped.get? src = none) :
    (t.stage src trigger r).staged.getD src [] = t.staged.getD src [] ++
      [{ r with flags := if !t.triggered && !decide (trigger = 0) && decide (r.kind = trigger) then setBit r.flags 2 else r.flags }] := by
  have hgap : t.gap src r.domain r.unit = t := by rw [Trc.gap, hd]
  rw [Trc.stage, if_neg (by omega)]
  dsimp only
  rw [hgap, SMap.getD_put_self]
  split <;> rfl

/-- A record that finds no room is counted. -/
theorem Trc.stage_dropped {t : Trc} {src : Nat} (trigger : Nat) (r : TrcRec) (hn : 64 ≤ stagedCount (t.staged.getD src [])) :
    (t.stage src trigger r).staged = t.staged ∧ (t.stage src trigger r).dropped.get? src = some (match t.dropped.get? src with
      | some d => (d.1 + 1, d.2)
      | none => (1, r.time)) := by
  rw [Trc.stage, if_pos hn]
  refine ⟨rfl, ?_⟩
  dsimp only
  rw [SMap.get?_put_self]
  cases t.dropped.get? src <;> rfl

theorem emits {s : State} {src : Nat} {r : TrcRec} (hk : r.kind ≠ 0) (hlt : r.kind < 0x0E) (hsrc : src / 65536 < 7) :
    ∃ t, exec (.traceRecordEmit src r) s = .next t ∧ t.mem = s.mem ∧ t.cores = s.cores ∧ t.fe = s.fe ∧ t.mgt = s.mgt ∧
      ∀ b, b < 16 → t.trc b = if s.takesRec b src r.queue = true then (s.trc b).stage src (s.num (E.trcTrigger + b))
        { r with time := s.domainTime (sourceDomain src), domain := sourceDomain src, flags := natOr 8 0 (s.dueFlags src (sourceDomain src)) } else s.trc b := by
  have heq : traceRecordEmit src r s = s.emitRec src { r with time := s.domainTime (sourceDomain src), domain := sourceDomain src, flags := 0 } :=
    if_neg (by omega)
  exact ⟨_, congrArg Host.Outcome.next heq, by simp, by simp, by simp, by simp, fun b hb => s.emitRec_trc src _ hb⟩

/-! A record that leaves the staging. -/

theorem State.writeV_obs (s : State) (f va : Nat) (data : List Byte) : (s.writeV f va data).2.obs = s.obs :=
  State.writeVirt_keeps State.obs (fun _ _ _ => by simp) (fun s a l => State.hostWrite_keeps State.obs (fun _ _ => rfl) s a l) _ _ _ _ _

/-- The staging of a source without its oldest record. -/
def Trc.unstaged (t : Trc) (src : Nat) (rest : List TrcRec) : Trc :=
  { t with staged := if rest = [] then t.staged.del src else t.staged.put src rest }

theorem Trc.unstaged_getD (t : Trc) (src : Nat) (rest : List TrcRec) : (t.unstaged src rest).staged.getD src [] = rest := by
  unfold Trc.unstaged
  dsimp only
  split
  · rename_i h
    rw [SMap.getD_del_self, h]
  · exact SMap.getD_put_self _ _ _ _

section
variable {s : State} {b src : Nat} {r : TrcRec} {rest : List TrcRec} (hb : b < 16) (hrun : (s.trc b).state = .running)
  (hst : (s.trc b).staged.getD src [] = r :: rest) (hg : (s.fn (s.num (E.trcOwner + b))).gate = .opened)
include hb hrun hst hg

theorem traceDrain_stop (h : s.trcFate b (s.trc b) (bit r.flags 2) = .stop) :
    traceDrain b src s = s.modTrc b (fun _ => { (s.trc b).unstaged src rest with state := .stopping }) := by
  unfold traceDrain
  dsimp only
  rw [hst]
  dsimp only
  rw [if_neg (by simp [hrun, hg, TrcState.drains, hb]), h]
  rfl

theorem traceDrain_fault {evict : Bool} {c : Nat} (h : s.trcFate b (s.trc b) (bit r.flags 2) = .write evict)
    (htr : s.translate (s.num (E.trcOwner + b)) (s.trcSlot b (s.trc b).write) .write = .bad c) :
    traceDrain b src s = (s.modTrc b (fun _ => { (s.trc b).unstaged src rest with state := .fault, staged := [], dropped := [] })).trcEvent b := by
  unfold traceDrain
  dsimp only
  rw [hst]
  dsimp only
  rw [if_neg (by simp [hrun, hg, TrcState.drains, hb]), h]
  dsimp only
  rw [htr]
  rfl

theorem traceDrain_write {evict : Bool} {pa : Nat} (h : s.trcFate b (s.trc b) (bit r.flags 2) = .write evict)
    (htr : s.translate (s.num (E.trcOwner + b)) (s.trcSlot b (s.trc b).write) .write = .ok 0 pa) :
    traceDrain b src s = (s.writeV (s.num (E.trcOwner + b)) (s.trcSlot b (s.trc b).write) (trcBytes r)).2.modTrc b
      (fun _ => ((s.trc b).unstaged src rest).written (s.num (E.trcMode + b)) (s.num (E.trcCentre + b) / 2 ^ 32) evict (bit r.flags 2)) := by
  unfold traceDrain
  dsimp only
  rw [hst]
  dsimp only
  rw [if_neg (by simp [hrun, hg, TrcState.drains, hb]), h]
  dsimp only
  rw [htr]
  rfl

end

theorem State.unitDone_only (s : State) (kind index b : Nat) : BufOnly s (s.unitDone kind index) b :=
  ⟨fun _ _ => State.trc_congr (by simp) _, by simp, by simp, by simp⟩

/-- A drain of a running buffer, by the fate of its record and the page that it meets. -/
theorem drains {s : State} {b src : Nat} {r : TrcRec} {rest : List TrcRec} (hb : b < 16) (hrun : (s.trc b).state = .running)
    (hst : (s.trc b).staged.getD src [] = r :: rest) (hbit : bit r.flags 2 = false) (hg : (s.fn (s.num (E.trcOwner + b))).gate = .opened)
    (hgo : s.unitGoes 18 b (traceDrain b src)) :
    (∀ pa, s.num (E.trcMode + b) = 0 → s.translate (s.num (E.trcOwner + b)) (s.trcSlot b (s.trc b).write) .write = .ok 0 pa →
      ∃ t, exec (.traceDrain b src) s = .next t ∧ t.mem = (s.writeV (s.num (E.trcOwner + b)) (s.trcSlot b (s.trc b).write) (trcBytes r)).2.mem ∧
        (t.trc b).write = ((s.trc b).write + 1) % 2 ^ 64 ∧ (t.trc b).staged.getD src [] = rest ∧ (t.trc b).state = .running ∧ (t.trc b).lost = (s.trc b).lost ∧
        (t.trc b).read = (if s.trcSlots b ≤ (s.trc b).write - (s.trc b).read then (s.trc b).read + 1 else (s.trc b).read) ∧ (∀ k, k ≠ b → t.trc k = s.trc k)) ∧
    (s.num (E.trcMode + b) = 1 → s.trcSlots b ≤ (s.trc b).write - (s.trc b).read →
      ∃ t, exec (.traceDrain b src) s = .next t ∧ (t.trc b).state = .stopping ∧ (t.trc b).write = (s.trc b).write ∧ (t.trc b).staged.getD src [] = rest ∧ BufOnly s t b) ∧
    (∀ c, s.num (E.trcMode + b) = 0 → s.translate (s.num (E.trcOwner + b)) (s.trcSlot b (s.trc b).write) .write = .bad c →
      ∃ t, exec (.traceDrain b src) s = .next t ∧ (t.trc b).state = .fault ∧ (t.trc b).staged = [] ∧ (t.trc b).event = true ∧ (t.trc b).write = (s.trc b).write ∧
        (s.num (E.trcOwner + b) < 256 → (t.vec (s.num (E.trcOwner + b)) (s.num (E.trcVector + b))).due = true) ∧ BufOnly s t b) := by
  have hdone (u : State) (k : Nat) : (u.unitDone 18 b).trc k = u.trc k := State.trc_congr (by simp) k
  have hexec {u : State} (h : traceDrain b src s = u) : exec (.traceDrain b src) s = .next (u.unitDone 18 b) :=
    congrArg Host.Outcome.next ((State.unit_of_goes hgo).trans (congrArg (fun v => State.unitDone v 18 b) h))
  have hwrap (hm : s.num (E.trcMode + b) = 0) : s.trcFate b (s.trc b) (bit r.flags 2) = .write (decide (s.trcSlots b ≤ (s.trc b).write - (s.trc b).read)) := if_pos hm
  refine ⟨fun pa hm htr => ?_, fun hm hfull => ?_, fun c hm htr => ?_⟩
  · have heq := traceDrain_write hb hrun hst hg (hwrap hm) htr
    rw [hm, hbit] at heq
    have htrc (k : Nat) : (s.writeV (s.num (E.trcOwner + b)) (s.trcSlot b (s.trc b).write) (trcBytes r)).2.trc k = s.trc k := State.trc_congr (s.writeV_obs _ _ _) k
    have hnew := State.modTrc_trc_self (s.writeV (s.num (E.trcOwner + b)) (s.trcSlot b (s.trc b).write) (trcBytes r)).2 b
      (fun _ => ((s.trc b).unstaged src rest).written 0 (s.num (E.trcCentre + b) / 2 ^ 32) (decide (s.trcSlots b ≤ (s.trc b).write - (s.trc b).read)) false)
    refine ⟨_, hexec heq, by simp, ?_, ?_, ?_, ?_, ?_, fun k hk => ?_⟩
    · rw [hdone, hnew]
      rfl
    · rw [hdone, hnew]
      exact Trc.unstaged_getD _ _ _
    · rw [hdone, hnew]
      exact hrun
    · rw [hdone, hnew]
      rfl
    · rw [hdone, hnew]
      exact if_congr (by simp) rfl rfl
    · rw [hdone, State.modTrc_trc_ne _ _ _ hk, htrc]
  · have hfate : s.trcFate b (s.trc b) (bit r.flags 2) = .stop := by
      unfold State.trcFate
      dsimp only
      rw [if_neg (by omega), if_neg (by omega), if_pos (.inl hfull)]
    have heq := traceDrain_stop hb hrun hst hg hfate
    refine ⟨_, hexec heq, ?_, ?_, ?_, (s.modTrc_only b _).trans (State.unitDone_only _ _ _ _)⟩
    · rw [hdone, State.modTrc_trc_self]
    · rw [hdone, State.modTrc_trc_self]
      rfl
    · rw [hdone, State.modTrc_trc_self]
      exact Trc.unstaged_getD _ _ _
  · have heq := traceDrain_fault hb hrun hst hg (hwrap hm) htr
    refine ⟨_, hexec heq, ?_, ?_, ?_, ?_, fun hf => ?_, ((s.modTrc_only b _).trans (State.trcEvent_only _ _)).trans (State.unitDone_only _ _ _ _)⟩
    · rw [hdone, State.trcEvent_trc, State.modTrc_trc_self, State.modTrc_trc_self]
    · rw [hdone, State.trcEvent_trc, State.modTrc_trc_self, State.modTrc_trc_self]
    · rw [hdone, State.trcEvent_trc, State.modTrc_trc_self]
    · rw [hdone, State.trcEvent_trc, State.modTrc_trc_self, State.modTrc_trc_self]
      rfl
    · rw [State.vec_congr (State.unitDone_hif _ 18 b)]
      exact State.trcEvent_due (s := s.modTrc b _) hf hg

/-! The control of a buffer by its owner. -/

theorem State.trcCtrl_ok {s : State} {f b : Nat} (hb : b < 16) (ho : s.num (E.trcOwner + b) = f) (g : Trc → Trc) : s.trcCtrl f b true g = s.modTrc b g := by
  rw [State.trcCtrl, if_neg (by omega), if_pos rfl]

theorem State.trcCtrl_bad {s : State} {f b : Nat} (hb : b < 16) (ho : s.num (E.trcOwner + b) = f) (g : Trc → Trc) :
    s.trcCtrl f b false g = s.modTrc b (fun t => { t with badCtrl := true }) := by
  rw [State.trcCtrl, if_neg (by omega), if_neg (by decide)]

theorem State.trcCtrl_other {s : State} {f b : Nat} (ho : s.num (E.trcOwner + b) ≠ f) (ok : Bool) (g : Trc → Trc) : s.trcCtrl f b ok g = s := if_pos (.inr ho)

/-- What a change of one buffer leaves. -/
theorem changed_buffer {s u : State} {i : Instr} {b : Nat} {g : Trc → Trc} (hi : exec i s = .next u) (h : u = s.modTrc b g) :
    ∃ t, exec i s = .next t ∧ t.trc b = g (s.trc b) ∧ BufOnly s t b := ⟨_, h ▸ hi, s.modTrc_trc_self b g, s.modTrc_only b g⟩

section
variable {s : State} {f b : Nat} (hb : b < 16) (ho : s.num (E.trcOwner + b) = f)
include hb ho

theorem startsTrace (h : (s.trc b).state = .disabled ∨ (s.trc b).state = .stopped) :
    ∃ t, exec (.traceStart f b) s = .next t ∧ (t.trc b).state = .running ∧ (t.trc b).write = 0 ∧ (t.trc b).read = 0 ∧
      (t.trc b).lost = 0 ∧ (t.trc b).trig = 0 ∧ (t.trc b).staged = [] ∧ BufOnly s t b := by
  obtain ⟨t, ht, htrc, honly⟩ := changed_buffer (i := .traceStart f b) (u := traceStart f b s) rfl
    (by rw [traceStart, decide_eq_true h, State.trcCtrl_ok hb ho])
  exact ⟨t, ht, by rw [htrc], by rw [htrc], by rw [htrc], by rw [htrc], by rw [htrc], by rw [htrc], honly⟩

theorem startRefused (h1 : (s.trc b).state ≠ .disabled) (h2 : (s.trc b).state ≠ .stopped) :
    ∃ t, exec (.traceStart f b) s = .next t ∧ t.trc b = { s.trc b with badCtrl := true } ∧ BufOnly s t b :=
  changed_buffer (u := traceStart f b s) rfl (by rw [traceStart, decide_eq_false (by simp [h1, h2]), State.trcCtrl_bad hb ho])

theorem stopsTrace (h : (s.trc b).state = .running ∨ (s.trc b).state = .post) :
    ∃ t, exec (.traceStop f b) s = .next t ∧ t.trc b = { s.trc b with state := .stopping } ∧ BufOnly s t b :=
  changed_buffer (u := traceStop f b s) rfl (by rw [traceStop, decide_eq_true h, State.trcCtrl_ok hb ho])

theorem stopRefused (h1 : (s.trc b).state ≠ .running) (h2 : (s.trc b).state ≠ .post) :
    ∃ t, exec (.traceStop f b) s = .next t ∧ t.trc b = { s.trc b with badCtrl := true } ∧ BufOnly s t b :=
  changed_buffer (u := traceStop f b s) rfl (by rw [traceStop, decide_eq_false (by simp [h1, h2]), State.trcCtrl_bad hb ho])

theorem triggersTrace (h : (s.trc b).state = .running ∨ (s.trc b).state = .post) :
    ∃ t, exec (.traceTrigger f b) s = .next t ∧ t.trc b = (if (s.trc b).triggered then s.trc b else { s.trc b with
      triggered := true, trig := (s.trc b).write, state := if s.num (E.trcMode + b) = 2 then .post else (s.trc b).state }) ∧ BufOnly s t b :=
  changed_buffer (u := traceTrigger f b s) rfl (by rw [traceTrigger, decide_eq_true h, State.trcCtrl_ok hb ho])

theorem triggerRefused (h1 : (s.trc b).state ≠ .running) (h2 : (s.trc b).state ≠ .post) :
    ∃ t, exec (.traceTrigger f b) s = .next t ∧ t.trc b = { s.trc b with badCtrl := true } ∧ BufOnly s t b :=
  changed_buffer (u := traceTrigger f b s) rfl (by rw [traceTrigger, decide_eq_false (by simp [h1, h2]), State.trcCtrl_bad hb ho])

theorem stoppedTrace (h : (s.trc b).state = .stopping) (hst : ∀ e ∈ (s.trc b).staged, e.2 = []) (hd : (s.trc b).dropped = []) :
    ∃ t, exec (.traceStopped b) s = .next t ∧ (t.trc b).state = .stopped ∧ (t.trc b).event = true ∧
      (f < 256 → (s.fn f).gate = .opened → (t.vec f (s.num (E.trcVector + b))).due = true) ∧ BufOnly s t b := by
  have hall : (s.trc b).staged.all (fun e => e.2.isEmpty) = true := List.all_eq_true.2 fun e he => by rw [hst e he]; rfl
  have heq : traceStopped b s = (s.modTrc b (fun t => { t with state := .stopped })).trcEvent b := by
    rw [traceStopped, if_neg (by simp only [h, hall, hd]; simp [hb])]
  refine ⟨_, congrArg Host.Outcome.next heq, ?_, ?_, fun hf hg => ?_, (s.modTrc_only b _).trans (State.trcEvent_only _ _)⟩
  · rw [State.trcEvent_trc, State.modTrc_trc_self, State.modTrc_trc_self]
  · rw [State.trcEvent_trc, State.modTrc_trc_self]
  · subst ho
    exact State.trcEvent_due (s := s.modTrc b _) hf hg

end

/-- Settles O58: a record by the staging of each buffer, a drain by its record's fate, and the owner's controls by the states in which they act. -/
theorem traceBuffers : Obligations.TraceBuffers := by
  unfold Obligations.TraceBuffers
  refine ⟨fun s src r hk hlt hsrc => ?_, fun s b src n at0 hst hd hn => ?_, fun s b src r rest hb hrun hst hbit hg hgo => drains hb hrun hst hbit hg hgo,
    fun s f b hb ho => ⟨startsTrace hb ho, startRefused hb ho, fun h => ⟨stopsTrace hb ho h, fun ht => ?_, fun ht => ?_⟩,
      fun h1 h2 => ⟨stopRefused hb ho h1 h2, triggerRefused hb ho h1 h2⟩, ?_, fun v => ⟨fun hv => ?_, fun hv => ?_⟩, fun g hg => ?_,
      stoppedTrace hb ho, fun hst => ?_⟩⟩
  · obtain ⟨t, ht, hm, hc, hf, hg, hall⟩ := emits (s := s) hk hlt hsrc
    refine ⟨t, ht, hm, hc, hf, hg, fun b hb => ⟨fun hno => ?_, fun hyes hn hd => ?_, fun hyes hn => ?_⟩⟩
    · rw [hall b hb, if_neg (by simp [hno])]
    · rw [hall b hb, if_pos hyes, Trc.stage_staged _ _ hn hd]
      obtain ⟨h2, h1⟩ := bit_natOr_flags (bit s.time.resyncFlag (if 32 ≤ sourceDomain src then sourceDomain src - 7 else sourceDomain src) && !s.time.resyncDone.contains src)
        (s.time.steppedFlag && !s.time.steppedDone.contains src) (!(s.trc b).triggered && !decide (s.num (E.trcTrigger + b) = 0) && decide (r.kind = s.num (E.trcTrigger + b)))
      refine ⟨_, rfl, rfl, rfl, rfl, rfl, rfl, rfl, rfl, rfl, rfl, ?_, ?_⟩
      · refine (Bool.eq_iff_iff.1 h2).trans ?_
        simp [and_assoc]
      · refine (Bool.eq_iff_iff.1 h1).trans ?_
        simp
    · rw [hall b hb, if_pos hyes]
      exact Trc.stage_dropped _ _ hn
  · have heq : traceGapRecord b src s = s.modTrc b (fun t => t.gap src (sourceDomain src) (src % 65536)) := by
      have hdr : (s.trc b).state.drains = true := by
        rcases hst with h | h | h <;> rw [h] <;> rfl
      rw [traceGapRecord, if_neg (by simp only [hdr, SMap.has, hd]; simp; omega)]
    have hgap : (s.trc b).gap src (sourceDomain src) (src % 65536) = { s.trc b with
        staged := (s.trc b).staged.put src ((s.trc b).staged.getD src [] ++ [gapRec (sourceDomain src) (src % 65536) n at0])
        dropped := (s.trc b).dropped.del src
        lost := ((s.trc b).lost + n) % 2 ^ 64 } := by rw [Trc.gap, hd]
    obtain ⟨t, ht, htrc, honly⟩ := changed_buffer (i := .traceGapRecord b src) rfl heq
    rw [hgap] at htrc
    refine ⟨t, gapRec (sourceDomain src) (src % 65536) n at0, ht, ?_, rfl, rfl, rfl, ?_, by rw [htrc], by rw [htrc], honly⟩
    · rw [htrc]
      exact SMap.getD_put_self _ _ _ _
    · rw [htrc]
      exact SMap.get?_del_self _ _
  · obtain ⟨t, hx, htrc, honly⟩ := triggersTrace hb ho h
    rw [if_neg (by simp [ht])] at htrc
    exact ⟨t, hx, by rw [htrc], by rw [htrc], by rw [htrc], honly⟩
  · obtain ⟨t, hx, htrc, honly⟩ := triggersTrace hb ho h
    rw [if_pos ht] at htrc
    exact ⟨t, hx, htrc, honly⟩
  · have heq : traceDisable f b s = s.modTrc b (fun t => { t with state := .disabled, staged := [], dropped := [] }) := State.trcCtrl_ok hb ho _
    obtain ⟨t, hx, htrc, honly⟩ := changed_buffer (i := .traceDisable f b) rfl heq
    exact ⟨t, hx, by rw [htrc], by rw [htrc], by rw [htrc], honly⟩
  · exact changed_buffer (u := trcReadWrite f b v s) rfl (if_neg (by omega))
  · exact congrArg Host.Outcome.next (if_pos (by omega))
  · have hne : s.num (E.trcOwner + b) ≠ g := by omega
    exact ⟨congrArg Host.Outcome.next (State.trcCtrl_other hne _ _), congrArg Host.Outcome.next (State.trcCtrl_other hne _ _),
      congrArg Host.Outcome.next (State.trcCtrl_other hne _ _), congrArg Host.Outcome.next (State.trcCtrl_other hne _ _),
      fun v => congrArg Host.Outcome.next (if_pos (.inr (.inl hne)))⟩
  · obtain ⟨e, he, hne⟩ := hst
    have hall : (s.trc b).staged.all (fun e => e.2.isEmpty) = false := by
      rw [List.all_eq_false]
      exact ⟨e, he, by simpa using hne⟩
    exact congrArg Host.Outcome.next (if_pos (.inr (.inr (.inl (by simp only [hall]; rfl)))))

end Sys2Proof.Machine
end

section
/-! The counter banks and the layer tables (R436 to R443). -/

namespace Sys2Proof.Machine

theorem State.cntFn_congr {s t : State} (h : t.obs = s.obs) (f : Nat) : t.cntFn f = s.cntFn f := by simp only [State.cntFn, h]

/-! What a flush's atomics leave of the books of the functions. -/

/-- The books of a function's layer table, beside the bits that a flush may set. -/
def State.flushBooks (s : State) (k : Nat) : CntFn := { s.cntFn k with tableFault := false, tableFull := false }

theorem State.modCntFn_flushBooks (s : State) (f k : Nat) {g : CntFn → CntFn}
    (hg : ∀ c, ({ g c with tableFault := false, tableFull := false } : CntFn) = { c with tableFault := false, tableFull := false }) :
    (s.modCntFn f g).flushBooks k = s.flushBooks k := by
  unfold State.flushBooks
  by_cases hk : k = f
  · subst hk
    rw [State.modCntFn_cntFn_self, hg]
  · rw [State.modCntFn_cntFn_ne _ _ _ hk]

theorem State.flushAccums_flushBooks (f base n k : Nat) (l : List Accum) (s : State) : (s.flushAccums f base n l).flushBooks k = s.flushBooks k := by
  have hw (s : State) (a : Nat) (d : List Byte) : (s.agentWrite a d).flushBooks k = s.flushBooks k := by
    unfold State.flushBooks
    rw [State.cntFn_congr (s.agentWrite_obs a d)]
  have hlost (s : State) (m : Nat) : (State.addNum (s.modCntFn f (fun c => { c with tableFault := true })) E.cntLayerLost 64 m f).flushBooks k = s.flushBooks k := by
    refine Eq.trans ?_ (s.modCntFn_flushBooks f k (g := fun c => { c with tableFault := true }) fun _ => rfl)
    unfold State.flushBooks
    rw [State.cntFn_congr (State.addNum_obs _ _ _ _ _)]
  induction l generalizing s with
  | nil => rfl
  | cons a l ih =>
    unfold State.flushAccums
    dsimp only
    split
    · exact hlost _ _
    · rename_i e s1 he
      have hs1 := State.probe_keeps (State.flushBooks · k) hw _ _ _ _ _ he
      split
      · exact (hlost _ _).trans hs1
      · rename_i s2 h2
        have hs2 := (State.addSums_keeps (State.flushBooks · k) hw _ _ h2).trans hs1
        refine (ih _).trans ?_
        split
        · exact (s2.modCntFn_flushBooks f k (g := fun c => { c with tableFull := true }) fun _ => rfl).trans hs2
        · exact hs2

/-! The response of a mailbox leaves the device's own numbers. -/

theorem State.mbRespond_num (s : State) (f status : Nat) (body : List Byte) : (s.mbRespond f status body).mgt.num = s.mgt.num := by
  unfold State.mbRespond
  dsimp only
  split
  · simp [State.modMbox]
  · rfl

theorem State.mbRespond_obs (s : State) (f status : Nat) (body : List Byte) : (s.mbRespond f status body).obs = s.obs := by
  unfold State.mbRespond
  dsimp only
  split <;> simp

theorem State.mbRespond_mem (s : State) (f status : Nat) (body : List Byte) : (s.mbRespond f status body).mem = s.mem := by
  unfold State.mbRespond
  dsimp only
  split <;> simp

theorem State.mbRespond_l2 (s : State) (f status : Nat) (body : List Byte) : (s.mbRespond f status body).l2 = s.l2 := by
  unfold State.mbRespond
  dsimp only
  split <;> simp

/-! The start and the end of a flush. -/

theorem State.modCntFn_only (s : State) (f : Nat) (g : CntFn → CntFn) : CntOnly s (s.modCntFn f g) f := ⟨fun _ hk => s.modCntFn_cntFn_ne f g hk, rfl, rfl, rfl⟩

theorem State.startFlush_cntFn (s : State) (f : Nat) : (s.startFlush f).cntFn f =
    { s.cntFn f with flushing := true, inFlush := (s.cntFn f).inFlush ++ (s.cntFn f).accums, accums := [], lastFlush := s.time.mono } := s.modCntFn_cntFn_self _ _

/-- The state after a flush's atomics, with the flush over. -/
def State.flushed (s : State) (f : Nat) : State :=
  (s.flushAccums f (s.num E.cntLayerBase f) (s.num E.cntLayerEntries f) (s.cntFn f).inFlush).modCntFn f
    (fun c => { c with flushing := false, inFlush := [], flushSeq := (c.flushSeq + 1) % 65536, baseAfter := none, baseReply := none })

/-- The end of a flush leaves the atomics' state but for the answer of a write that waited. -/
theorem layerFlushComplete_cases {s : State} {f : Nat} (h : (s.cntFn f).flushing = true) :
    (layerFlushComplete f s).obs = (s.flushed f).obs ∧ (layerFlushComplete f s).mem = (s.flushed f).mem ∧ (layerFlushComplete f s).l2 = (s.flushed f).l2 ∧
      (∀ w v, (s.cntFn f).baseAfter = some (w, v) → (layerFlushComplete f s).num E.cntLayerBase f = v) := by
  unfold layerFlushComplete
  dsimp only
  rw [if_neg (by simp [h])]
  have hs : (s.flushAccums f (s.num E.cntLayerBase f) (s.num E.cntLayerEntries f) (s.cntFn f).inFlush).modCntFn f
    (fun c => { c with flushing := false, inFlush := [], flushSeq := (c.flushSeq + 1) % 65536, baseAfter := none, baseReply := none }) = s.flushed f := rfl
  rw [hs]
  cases hb : (s.cntFn f).baseAfter with
  | none => exact ⟨rfl, rfl, rfl, fun w v h => by cases h⟩
  | some p =>
    obtain ⟨who, v⟩ := p
    dsimp only
    have hnum : ((s.flushed f).dictNum who E.cntLayerBase f v).num E.cntLayerBase f = v := State.dictNum_num_self _ _ _ _ _ (by decide)
    have hend : ∀ {t : State}, t.mgt.num = ((s.flushed f).dictNum who E.cntLayerBase f v).mgt.num → ∀ w v', some (who, v) = some (w, v') → t.num E.cntLayerBase f = v' := by
      rintro t ht w v' ⟨⟩
      exact (State.num_of_mgt_num ht _ _).trans hnum
    split
    · exact ⟨(State.mbRespond_obs _ _ _ _).trans (by simp), (State.mbRespond_mem _ _ _ _).trans (by simp), (State.mbRespond_l2 _ _ _ _).trans (by simp),
        hend (State.mbRespond_num _ _ _ _)⟩
    · split <;> exact ⟨by simp, by simp, by simp, hend rfl⟩

/-- Settles O57: the counters as they are written, and the layer table through the books that a flush leaves. -/
theorem countersAndLayers : Obligations.CountersAndLayers := by
  unfold Obligations.CountersAndLayers
  refine ⟨fun s off v => ⟨fun h => ?_, fun h => ?_⟩, fun s b => ⟨rfl, fun kind unit ev n q fmt h => if_pos h⟩,
    fun s => ⟨_, rfl, fun _ => rfl, rfl, rfl, rfl, rfl, rfl, rfl⟩, fun s f h => ?_, fun s f hbase => ⟨fun h => ?_, fun h => ?_⟩,
    fun s w f v hc => ⟨fun hv hlt hnone => ⟨fun h0 => ?_, fun h0 => ?_⟩, fun hv => ?_, fun hv hlt hsome => ?_⟩, fun s f hfl hgo => ?_,
    fun s f base n k pa a hk hn htr hpo hread hlt => ?_⟩
  · exact ⟨_, congrArg Host.Outcome.next (if_pos h), SMap.getD_put_self _ _ _ _, fun o ho => SMap.getD_put_ne _ _ _ ho, rfl, rfl, rfl⟩
  · exact congrArg Host.Outcome.next (if_neg (by simp [h]))
  · have heq : layerFlushRequest f s = s.startFlush f := if_pos h
    have hbooks := s.startFlush_cntFn f
    exact ⟨_, congrArg Host.Outcome.next heq, by rw [hbooks], by rw [hbooks], by rw [hbooks], by rw [hbooks], by rw [hbooks], rfl, s.modCntFn_only f _⟩
  · have heq : layerFlushTimer f s = s.startFlush f := if_neg (by omega)
    have hbooks := s.startFlush_cntFn f
    exact ⟨_, congrArg Host.Outcome.next heq, by rw [hbooks], by rw [hbooks], by rw [hbooks], rfl, s.modCntFn_only f _⟩
  · exact congrArg Host.Outcome.next (if_pos (.inr h))
  · have heq : cntLayerBaseWrite w f v s = s.dictNum w E.cntLayerBase f v := by
      rw [cntLayerBaseWrite]
      dsimp only
      rw [if_neg (not_not.2 hc), if_neg (by omega), if_neg (by simp [hnone]), if_pos h0]
    have hobs := fun k => State.cntFn_congr (s.dictNum_obs w E.cntLayerBase f v) k
    exact ⟨_, congrArg Host.Outcome.next heq, s.dictNum_num_self _ _ _ _ (by decide), s.dictNum_answer _ _ _ _ (by decide), hobs f, fun k _ => hobs k,
      by simp, by simp, by simp⟩
  · have hwait : ∃ t, cntLayerBaseWrite w f v s = t ∧ t.obs = ((s.startFlush f).modCntFn f (fun c => { c with baseAfter := some (w, v) })).obs ∧
        t.mgt.num = s.mgt.num ∧ t.mgt.log = s.mgt.log ∧ t.mem = s.mem ∧ t.cores = s.cores ∧ t.fe = s.fe := by
      refine ⟨_, rfl, ?_⟩
      rw [cntLayerBaseWrite]
      dsimp only
      rw [if_neg (not_not.2 hc), if_neg (by omega), if_neg (by simp [hnone]), if_neg h0]
      split <;> exact ⟨rfl, rfl, rfl, rfl, rfl, rfl⟩
    obtain ⟨t, ht, hobs, hnum, hlog, hmem, hcores, hfe⟩ := hwait
    have hbooks : t.cntFn f = { (s.startFlush f).cntFn f with baseAfter := some (w, v) } := (State.cntFn_congr hobs f).trans (State.modCntFn_cntFn_self _ _ _)
    rw [s.startFlush_cntFn f] at hbooks
    refine ⟨t, congrArg Host.Outcome.next ht, by rw [hbooks], by rw [hbooks], by rw [hbooks], State.num_of_mgt_num hnum _ _, hlog, fun k hk => ?_, hmem, hcores, hfe⟩
    rw [State.cntFn_congr hobs, State.modCntFn_cntFn_ne _ _ _ hk]
    exact s.modCntFn_cntFn_ne f _ hk
  · refine congrArg Host.Outcome.next ?_
    rw [cntLayerBaseWrite]
    dsimp only
    rw [if_neg (not_not.2 hc), if_pos hv]
  · refine congrArg Host.Outcome.next ?_
    rw [cntLayerBaseWrite]
    dsimp only
    rw [if_neg (not_not.2 hc), if_neg (by omega), if_pos hsome]
  · obtain ⟨hobs, hmem, hl2, hbase⟩ := layerFlushComplete_cases hfl
    have hbooks : (s.flushed f).cntFn f = _ := State.modCntFn_cntFn_self _ _ _
    have hkeep := State.flushAccums_flushBooks f (s.num E.cntLayerBase f) (s.num E.cntLayerEntries f) f (s.cntFn f).inFlush s
    have hcnt (t : State) (h : t.obs = (layerFlushComplete f s).obs) : t.cntFn f = _ := ((State.cntFn_congr (h.trans hobs) f).trans hbooks)
    have hdone := hcnt ((layerFlushComplete f s).unitDone 19 f) (State.unitDone_obs _ _ _)
    refine ⟨_, congrArg Host.Outcome.next (State.unit_of_goes hgo), by rw [hdone], by rw [hdone], ?_, ?_, by rw [hdone], hmem, fun hnil => ⟨?_, ?_⟩,
      fun w v hw _ => hbase w v hw⟩
    · rw [hdone]
      exact (congrArg CntFn.accums hkeep :)
    · rw [hdone]
      exact congrArg (fun n => (n + 1) % 65536) (congrArg CntFn.flushSeq hkeep :)
    · refine hmem.trans ?_
      rw [State.flushed, hnil]
      rfl
    · refine (congrArg L2.dir hl2).trans ?_
      rw [State.flushed, hnil]
      rfl
  · have hidx : 1 + (layerHash a.layer a.operator + 0) % 2 ^ 32 % (n - 1) = 1 + layerHash a.layer a.operator % (n - 1) := by
      rw [Nat.add_zero, Nat.mod_eq_of_lt hlt]
    have hat : s.tableAtomic f (base + 64 * (1 + layerHash a.layer a.operator % (n - 1))) (fun old => if old = 0 then k else old) =
        some (k, s.agentWrite pa (leBytes 8 (k % 2 ^ 64))) := by
      rw [State.tableAtomic, htr]
      refine (if_neg (by simp [hpo])).trans ?_
      rw [hread]
      simp
    refine ⟨_, ?_, rfl⟩
    rw [State.probe, hidx, hat]
    simp

end Sys2Proof.Machine
end

section
/-! What the log and the steps of an update leave of the management unit's state. -/

namespace Sys2Proof.Machine

@[simp] theorem foldl_mgt_upState {α : Type} {g : State → α → State} (l : List α) (s : State) (hg : ∀ u a, (g u a).mgt.upState = u.mgt.upState) : (l.foldl g s).mgt.upState = s.mgt.upState :=
  foldl_keeps (fun s => s.mgt.upState) hg l s
theorem ite_mgt_upState (c : Prop) [Decidable c] (s t : State) : (if c then s else t).mgt.upState = if c then s.mgt.upState else t.mgt.upState :=
  apply_ite (fun s : State => s.mgt.upState) _ _ _
@[simp] theorem State.appendLog_mgt_upState (s : State) (type iface fn index sub target : Nat) (old new : List Byte) : (s.appendLog type iface fn index sub target old new).mgt.upState = s.mgt.upState :=
  by simp [State.appendLog, ite_mgt_upState]
@[simp] theorem State.dictLogged_mgt_upState (s : State) (w : Origin) (a target : Nat) (old new : List Byte) : (s.dictLogged w a target old new).mgt.upState = s.mgt.upState := by
  unfold State.dictLogged
  (repeat' split) <;> simp
@[simp] theorem foldl_mgt_upOwner {α : Type} {g : State → α → State} (l : List α) (s : State) (hg : ∀ u a, (g u a).mgt.upOwner = u.mgt.upOwner) : (l.foldl g s).mgt.upOwner = s.mgt.upOwner :=
  foldl_keeps (fun s => s.mgt.upOwner) hg l s
theorem ite_mgt_upOwner (c : Prop) [Decidable c] (s t : State) : (if c then s else t).mgt.upOwner = if c then s.mgt.upOwner else t.mgt.upOwner :=
  apply_ite (fun s : State => s.mgt.upOwner) _ _ _
@[simp] theorem State.appendLog_mgt_upOwner (s : State) (type iface fn index sub target : Nat) (old new : List Byte) : (s.appendLog type iface fn index sub target old new).mgt.upOwner = s.mgt.upOwner :=
  by simp [State.appendLog, ite_mgt_upOwner]
@[simp] theorem State.dictLogged_mgt_upOwner (s : State) (w : Origin) (a target : Nat) (old new : List Byte) : (s.dictLogged w a target old new).mgt.upOwner = s.mgt.upOwner := by
  unfold State.dictLogged
  (repeat' split) <;> simp
@[simp] theorem foldl_mgt_upResult {α : Type} {g : State → α → State} (l : List α) (s : State) (hg : ∀ u a, (g u a).mgt.upResult = u.mgt.upResult) : (l.foldl g s).mgt.upResult = s.mgt.upResult :=
  foldl_keeps (fun s => s.mgt.upResult) hg l s
theorem ite_mgt_upResult (c : Prop) [Decidable c] (s t : State) : (if c then s else t).mgt.upResult = if c then s.mgt.upResult else t.mgt.upResult :=
  apply_ite (fun s : State => s.mgt.upResult) _ _ _
@[simp] theorem State.appendLog_mgt_upResult (s : State) (type iface fn index sub target : Nat) (old new : List Byte) : (s.appendLog type iface fn index sub target old new).mgt.upResult = s.mgt.upResult :=
  by simp [State.appendLog, ite_mgt_upResult]
@[simp] theorem State.dictLogged_mgt_upResult (s : State) (w : Origin) (a target : Nat) (old new : List Byte) : (s.dictLogged w a target old new).mgt.upResult = s.mgt.upResult := by
  unfold State.dictLogged
  (repeat' split) <;> simp
@[simp] theorem foldl_mgt_slotA {α : Type} {g : State → α → State} (l : List α) (s : State) (hg : ∀ u a, (g u a).mgt.slotA = u.mgt.slotA) : (l.foldl g s).mgt.slotA = s.mgt.slotA :=
  foldl_keeps (fun s => s.mgt.slotA) hg l s
theorem ite_mgt_slotA (c : Prop) [Decidable c] (s t : State) : (if c then s else t).mgt.slotA = if c then s.mgt.slotA else t.mgt.slotA :=
  apply_ite (fun s : State => s.mgt.slotA) _ _ _
@[simp] theorem State.appendLog_mgt_slotA (s : State) (type iface fn index sub target : Nat) (old new : List Byte) : (s.appendLog type iface fn index sub target old new).mgt.slotA = s.mgt.slotA :=
  by simp [State.appendLog, ite_mgt_slotA]
@[simp] theorem State.dictLogged_mgt_slotA (s : State) (w : Origin) (a target : Nat) (old new : List Byte) : (s.dictLogged w a target old new).mgt.slotA = s.mgt.slotA := by
  unfold State.dictLogged
  (repeat' split) <;> simp
@[simp] theorem foldl_mgt_slotB {α : Type} {g : State → α → State} (l : List α) (s : State) (hg : ∀ u a, (g u a).mgt.slotB = u.mgt.slotB) : (l.foldl g s).mgt.slotB = s.mgt.slotB :=
  foldl_keeps (fun s => s.mgt.slotB) hg l s
theorem ite_mgt_slotB (c : Prop) [Decidable c] (s t : State) : (if c then s else t).mgt.slotB = if c then s.mgt.slotB else t.mgt.slotB :=
  apply_ite (fun s : State => s.mgt.slotB) _ _ _
@[simp] theorem State.appendLog_mgt_slotB (s : State) (type iface fn index sub target : Nat) (old new : List Byte) : (s.appendLog type iface fn index sub target old new).mgt.slotB = s.mgt.slotB :=
  by simp [State.appendLog, ite_mgt_slotB]
@[simp] theorem State.dictLogged_mgt_slotB (s : State) (w : Origin) (a target : Nat) (old new : List Byte) : (s.dictLogged w a target old new).mgt.slotB = s.mgt.slotB := by
  unfold State.dictLogged
  (repeat' split) <;> simp
@[simp] theorem foldl_mgt_running {α : Type} {g : State → α → State} (l : List α) (s : State) (hg : ∀ u a, (g u a).mgt.running = u.mgt.running) : (l.foldl g s).mgt.running = s.mgt.running :=
  foldl_keeps (fun s => s.mgt.running) hg l s
theorem ite_mgt_running (c : Prop) [Decidable c] (s t : State) : (if c then s else t).mgt.running = if c then s.mgt.running else t.mgt.running :=
  apply_ite (fun s : State => s.mgt.running) _ _ _
@[simp] theorem State.appendLog_mgt_running (s : State) (type iface fn index sub target : Nat) (old new : List Byte) : (s.appendLog type iface fn index sub target old new).mgt.running = s.mgt.running :=
  by simp [State.appendLog, ite_mgt_running]
@[simp] theorem State.dictLogged_mgt_running (s : State) (w : Origin) (a target : Nat) (old new : List Byte) : (s.dictLogged w a target old new).mgt.running = s.mgt.running := by
  unfold State.dictLogged
  (repeat' split) <;> simp
@[simp] theorem foldl_mgt_trialNext {α : Type} {g : State → α → State} (l : List α) (s : State) (hg : ∀ u a, (g u a).mgt.trialNext = u.mgt.trialNext) : (l.foldl g s).mgt.trialNext = s.mgt.trialNext :=
  foldl_keeps (fun s => s.mgt.trialNext) hg l s
theorem ite_mgt_trialNext (c : Prop) [Decidable c] (s t : State) : (if c then s else t).mgt.trialNext = if c then s.mgt.trialNext else t.mgt.trialNext :=
  apply_ite (fun s : State => s.mgt.trialNext) _ _ _
@[simp] theorem State.appendLog_mgt_trialNext (s : State) (type iface fn index sub target : Nat) (old new : List Byte) : (s.appendLog type iface fn index sub target old new).mgt.trialNext = s.mgt.trialNext :=
  by simp [State.appendLog, ite_mgt_trialNext]
@[simp] theorem State.dictLogged_mgt_trialNext (s : State) (w : Origin) (a target : Nat) (old new : List Byte) : (s.dictLogged w a target old new).mgt.trialNext = s.mgt.trialNext := by
  unfold State.dictLogged
  (repeat' split) <;> simp
@[simp] theorem foldl_mgt_trialRunning {α : Type} {g : State → α → State} (l : List α) (s : State) (hg : ∀ u a, (g u a).mgt.trialRunning = u.mgt.trialRunning) : (l.foldl g s).mgt.trialRunning = s.mgt.trialRunning :=
  foldl_keeps (fun s => s.mgt.trialRunning) hg l s
theorem ite_mgt_trialRunning (c : Prop) [Decidable c] (s t : State) : (if c then s else t).mgt.trialRunning = if c then s.mgt.trialRunning else t.mgt.trialRunning :=
  apply_ite (fun s : State => s.mgt.trialRunning) _ _ _
@[simp] theorem State.appendLog_mgt_trialRunning (s : State) (type iface fn index sub target : Nat) (old new : List Byte) : (s.appendLog type iface fn index sub target old new).mgt.trialRunning = s.mgt.trialRunning :=
  by simp [State.appendLog, ite_mgt_trialRunning]
@[simp] theorem State.dictLogged_mgt_trialRunning (s : State) (w : Origin) (a target : Nat) (old new : List Byte) : (s.dictLogged w a target old new).mgt.trialRunning = s.mgt.trialRunning := by
  unfold State.dictLogged
  (repeat' split) <;> simp
@[simp] theorem foldl_mgt_asm {α : Type} {g : State → α → State} (l : List α) (s : State) (hg : ∀ u a, (g u a).mgt.asm = u.mgt.asm) : (l.foldl g s).mgt.asm = s.mgt.asm :=
  foldl_keeps (fun s => s.mgt.asm) hg l s
theorem ite_mgt_asm (c : Prop) [Decidable c] (s t : State) : (if c then s else t).mgt.asm = if c then s.mgt.asm else t.mgt.asm :=
  apply_ite (fun s : State => s.mgt.asm) _ _ _
@[simp] theorem State.appendLog_mgt_asm (s : State) (type iface fn index sub target : Nat) (old new : List Byte) : (s.appendLog type iface fn index sub target old new).mgt.asm = s.mgt.asm :=
  by simp [State.appendLog, ite_mgt_asm]
@[simp] theorem State.dictLogged_mgt_asm (s : State) (w : Origin) (a target : Nat) (old new : List Byte) : (s.dictLogged w a target old new).mgt.asm = s.mgt.asm := by
  unfold State.dictLogged
  (repeat' split) <;> simp
@[simp] theorem State.appendLog_mgt_num (s : State) (type iface fn index sub target : Nat) (old new : List Byte) : (s.appendLog type iface fn index sub target old new).mgt.num = s.mgt.num :=
  by simp [State.appendLog, ite_mgt_num]
@[simp] theorem State.dictLogged_mgt_num (s : State) (w : Origin) (a target : Nat) (old new : List Byte) : (s.dictLogged w a target old new).mgt.num = s.mgt.num := by
  unfold State.dictLogged
  (repeat' split) <;> simp
@[simp] theorem foldl_mgt_sensors {α : Type} {g : State → α → State} (l : List α) (s : State) (hg : ∀ u a, (g u a).mgt.sensors = u.mgt.sensors) : (l.foldl g s).mgt.sensors = s.mgt.sensors :=
  foldl_keeps (fun s => s.mgt.sensors) hg l s
theorem ite_mgt_sensors (c : Prop) [Decidable c] (s t : State) : (if c then s else t).mgt.sensors = if c then s.mgt.sensors else t.mgt.sensors :=
  apply_ite (fun s : State => s.mgt.sensors) _ _ _
@[simp] theorem State.appendLog_mgt_sensors (s : State) (type iface fn index sub target : Nat) (old new : List Byte) : (s.appendLog type iface fn index sub target old new).mgt.sensors = s.mgt.sensors :=
  by simp [State.appendLog, ite_mgt_sensors]
@[simp] theorem State.dictLogged_mgt_sensors (s : State) (w : Origin) (a target : Nat) (old new : List Byte) : (s.dictLogged w a target old new).mgt.sensors = s.mgt.sensors := by
  unfold State.dictLogged
  (repeat' split) <;> simp
@[simp] theorem foldl_mgt_toCopy {α : Type} {g : State → α → State} (l : List α) (s : State) (hg : ∀ u a, (g u a).mgt.toCopy = u.mgt.toCopy) : (l.foldl g s).mgt.toCopy = s.mgt.toCopy :=
  foldl_keeps (fun s => s.mgt.toCopy) hg l s
theorem ite_mgt_toCopy (c : Prop) [Decidable c] (s t : State) : (if c then s else t).mgt.toCopy = if c then s.mgt.toCopy else t.mgt.toCopy :=
  apply_ite (fun s : State => s.mgt.toCopy) _ _ _
@[simp] theorem State.appendLog_mgt_toCopy (s : State) (type iface fn index sub target : Nat) (old new : List Byte) : (s.appendLog type iface fn index sub target old new).mgt.toCopy = s.mgt.toCopy :=
  by simp [State.appendLog, ite_mgt_toCopy]
@[simp] theorem State.dictLogged_mgt_toCopy (s : State) (w : Origin) (a target : Nat) (old new : List Byte) : (s.dictLogged w a target old new).mgt.toCopy = s.mgt.toCopy := by
  unfold State.dictLogged
  (repeat' split) <;> simp
@[simp] theorem State.logInternal_mgt_upState (s : State) (type : Nat) (old new : List Byte) : (s.logInternal type old new).mgt.upState = s.mgt.upState :=
  by simp [State.logInternal]
@[simp] theorem State.upLog_mgt_upState (s : State) (step slot version : Nat) : (s.upLog step slot version).mgt.upState = s.mgt.upState := by simp [State.upLog]
@[simp] theorem State.logInternal_mgt_upOwner (s : State) (type : Nat) (old new : List Byte) : (s.logInternal type old new).mgt.upOwner = s.mgt.upOwner :=
  by simp [State.logInternal]
@[simp] theorem State.upLog_mgt_upOwner (s : State) (step slot version : Nat) : (s.upLog step slot version).mgt.upOwner = s.mgt.upOwner := by simp [State.upLog]
@[simp] theorem State.logInternal_mgt_upResult (s : State) (type : Nat) (old new : List Byte) : (s.logInternal type old new).mgt.upResult = s.mgt.upResult :=
  by simp [State.logInternal]
@[simp] theorem State.upLog_mgt_upResult (s : State) (step slot version : Nat) : (s.upLog step slot version).mgt.upResult = s.mgt.upResult := by simp [State.upLog]
@[simp] theorem State.logInternal_mgt_slotA (s : State) (type : Nat) (old new : List Byte) : (s.logInternal type old new).mgt.slotA = s.mgt.slotA :=
  by simp [State.logInternal]
@[simp] theorem State.upLog_mgt_slotA (s : State) (step slot version : Nat) : (s.upLog step slot version).mgt.slotA = s.mgt.slotA := by simp [State.upLog]
@[simp] theorem State.logInternal_mgt_slotB (s : State) (type : Nat) (old new : List Byte) : (s.logInternal type old new).mgt.slotB = s.mgt.slotB :=
  by simp [State.logInternal]
@[simp] theorem State.upLog_mgt_slotB (s : State) (step slot version : Nat) : (s.upLog step slot version).mgt.slotB = s.mgt.slotB := by simp [State.upLog]
@[simp] theorem State.logInternal_mgt_running (s : State) (type : Nat) (old new : List Byte) : (s.logInternal type old new).mgt.running = s.mgt.running :=
  by simp [State.logInternal]
@[simp] theorem State.upLog_mgt_running (s : State) (step slot version : Nat) : (s.upLog step slot version).mgt.running = s.mgt.running := by simp [State.upLog]
@[simp] theorem State.logInternal_mgt_trialNext (s : State) (type : Nat) (old new : List Byte) : (s.logInternal type old new).mgt.trialNext = s.mgt.trialNext :=
  by simp [State.logInternal]
@[simp] theorem State.upLog_mgt_trialNext (s : State) (step slot version : Nat) : (s.upLog step slot version).mgt.trialNext = s.mgt.trialNext := by simp [State.upLog]
@[simp] theorem State.logInternal_mgt_trialRunning (s : State) (type : Nat) (old new : List Byte) : (s.logInternal type old new).mgt.trialRunning = s.mgt.trialRunning :=
  by simp [State.logInternal]
@[simp] theorem State.upLog_mgt_trialRunning (s : State) (step slot version : Nat) : (s.upLog step slot version).mgt.trialRunning = s.mgt.trialRunning :=
  by simp [State.upLog]
@[simp] theorem State.logInternal_mgt_asm (s : State) (type : Nat) (old new : List Byte) : (s.logInternal type old new).mgt.asm = s.mgt.asm := by simp [State.logInternal]
@[simp] theorem State.upLog_mgt_asm (s : State) (step slot version : Nat) : (s.upLog step slot version).mgt.asm = s.mgt.asm := by simp [State.upLog]
@[simp] theorem State.logInternal_mgt_num (s : State) (type : Nat) (old new : List Byte) : (s.logInternal type old new).mgt.num = s.mgt.num := by simp [State.logInternal]
@[simp] theorem State.upLog_mgt_num (s : State) (step slot version : Nat) : (s.upLog step slot version).mgt.num = s.mgt.num := by simp [State.upLog]
@[simp] theorem State.logInternal_mgt_sensors (s : State) (type : Nat) (old new : List Byte) : (s.logInternal type old new).mgt.sensors = s.mgt.sensors :=
  by simp [State.logInternal]
@[simp] theorem State.upLog_mgt_sensors (s : State) (step slot version : Nat) : (s.upLog step slot version).mgt.sensors = s.mgt.sensors := by simp [State.upLog]
@[simp] theorem State.logInternal_mgt_toCopy (s : State) (type : Nat) (old new : List Byte) : (s.logInternal type old new).mgt.toCopy = s.mgt.toCopy :=
  by simp [State.logInternal]
@[simp] theorem State.upLog_mgt_toCopy (s : State) (step slot version : Nat) : (s.upLog step slot version).mgt.toCopy = s.mgt.toCopy := by simp [State.upLog]
@[simp] theorem State.upMove_mgt_upOwner (s : State) (u : UpState) : (s.upMove u).mgt.upOwner = s.mgt.upOwner := by simp [State.upMove, ite_mgt_upOwner]
@[simp] theorem State.upMove_mgt_upResult (s : State) (u : UpState) : (s.upMove u).mgt.upResult = s.mgt.upResult := by simp [State.upMove, ite_mgt_upResult]
@[simp] theorem State.upMove_mgt_slotA (s : State) (u : UpState) : (s.upMove u).mgt.slotA = s.mgt.slotA := by simp [State.upMove, ite_mgt_slotA]
@[simp] theorem State.upMove_mgt_slotB (s : State) (u : UpState) : (s.upMove u).mgt.slotB = s.mgt.slotB := by simp [State.upMove, ite_mgt_slotB]
@[simp] theorem State.upMove_mgt_running (s : State) (u : UpState) : (s.upMove u).mgt.running = s.mgt.running := by simp [State.upMove, ite_mgt_running]
@[simp] theorem State.upMove_mgt_trialNext (s : State) (u : UpState) : (s.upMove u).mgt.trialNext = s.mgt.trialNext := by simp [State.upMove, ite_mgt_trialNext]
@[simp] theorem State.upMove_mgt_trialRunning (s : State) (u : UpState) : (s.upMove u).mgt.trialRunning = s.mgt.trialRunning :=
  by simp [State.upMove, ite_mgt_trialRunning]
@[simp] theorem State.upMove_mgt_asm (s : State) (u : UpState) : (s.upMove u).mgt.asm = s.mgt.asm := by simp [State.upMove, ite_mgt_asm]
@[simp] theorem State.upMove_mgt_num (s : State) (u : UpState) : (s.upMove u).mgt.num = s.mgt.num := by simp [State.upMove, ite_mgt_num]
@[simp] theorem State.dropImageAsm_mgt_upState (s : State) : s.dropImageAsm.mgt.upState = s.mgt.upState := rfl
@[simp] theorem State.dropImageAsm_mgt_upOwner (s : State) : s.dropImageAsm.mgt.upOwner = s.mgt.upOwner := rfl
@[simp] theorem State.dropImageAsm_mgt_upResult (s : State) : s.dropImageAsm.mgt.upResult = s.mgt.upResult := rfl
@[simp] theorem State.dropImageAsm_mgt_slotA (s : State) : s.dropImageAsm.mgt.slotA = s.mgt.slotA := rfl
@[simp] theorem State.dropImageAsm_mgt_slotB (s : State) : s.dropImageAsm.mgt.slotB = s.mgt.slotB := rfl
@[simp] theorem State.dropImageAsm_mgt_running (s : State) : s.dropImageAsm.mgt.running = s.mgt.running := rfl
@[simp] theorem State.dropImageAsm_mgt_trialNext (s : State) : s.dropImageAsm.mgt.trialNext = s.mgt.trialNext := rfl
@[simp] theorem State.dropImageAsm_mgt_trialRunning (s : State) : s.dropImageAsm.mgt.trialRunning = s.mgt.trialRunning := rfl
@[simp] theorem State.dropImageAsm_mgt_num (s : State) : s.dropImageAsm.mgt.num = s.mgt.num := rfl
@[simp] theorem foldl_mgt_log {α : Type} {g : State → α → State} (l : List α) (s : State) (hg : ∀ u a, (g u a).mgt.log = u.mgt.log) : (l.foldl g s).mgt.log = s.mgt.log :=
  foldl_keeps (fun s => s.mgt.log) hg l s
theorem ite_mgt_log (c : Prop) [Decidable c] (s t : State) : (if c then s else t).mgt.log = if c then s.mgt.log else t.mgt.log :=
  apply_ite (fun s : State => s.mgt.log) _ _ _
@[simp] theorem State.dropImageAsm_mgt_log (s : State) : s.dropImageAsm.mgt.log = s.mgt.log := rfl
@[simp] theorem State.dropImageAsm_mem (s : State) : s.dropImageAsm.mem = s.mem := rfl
@[simp] theorem State.setSlot_mgt_upState (s : State) (n : Nat) (x : Slot) : (s.setSlot n x).mgt.upState = s.mgt.upState := by simp [State.setSlot, ite_mgt_upState]
@[simp] theorem State.setSlot_mgt_upOwner (s : State) (n : Nat) (x : Slot) : (s.setSlot n x).mgt.upOwner = s.mgt.upOwner := by simp [State.setSlot, ite_mgt_upOwner]
@[simp] theorem State.setSlot_mgt_upResult (s : State) (n : Nat) (x : Slot) : (s.setSlot n x).mgt.upResult = s.mgt.upResult := by simp [State.setSlot, ite_mgt_upResult]
@[simp] theorem State.setSlot_mgt_running (s : State) (n : Nat) (x : Slot) : (s.setSlot n x).mgt.running = s.mgt.running := by simp [State.setSlot, ite_mgt_running]
@[simp] theorem State.setSlot_mgt_trialNext (s : State) (n : Nat) (x : Slot) : (s.setSlot n x).mgt.trialNext = s.mgt.trialNext :=
  by simp [State.setSlot, ite_mgt_trialNext]
@[simp] theorem State.setSlot_mgt_trialRunning (s : State) (n : Nat) (x : Slot) : (s.setSlot n x).mgt.trialRunning = s.mgt.trialRunning :=
  by simp [State.setSlot, ite_mgt_trialRunning]
@[simp] theorem State.setSlot_mgt_asm (s : State) (n : Nat) (x : Slot) : (s.setSlot n x).mgt.asm = s.mgt.asm := by simp [State.setSlot, ite_mgt_asm]
@[simp] theorem State.setSlot_mgt_num (s : State) (n : Nat) (x : Slot) : (s.setSlot n x).mgt.num = s.mgt.num := by simp [State.setSlot, ite_mgt_num]
@[simp] theorem State.setSlot_mgt_log (s : State) (n : Nat) (x : Slot) : (s.setSlot n x).mgt.log = s.mgt.log := by simp [State.setSlot, ite_mgt_log]
@[simp] theorem State.setSlot_mem (s : State) (n : Nat) (x : Slot) : (s.setSlot n x).mem = s.mem := by simp [State.setSlot, ite_mem]
@[simp] theorem State.setNum_mgt_upState (s : State) (a v target : Nat) : (s.setNum a v target).mgt.upState = s.mgt.upState := by simp [State.setNum, ite_mgt_upState]
@[simp] theorem State.setImage_mgt_upState (s : State) (image : List Byte) : (s.setImage image).mgt.upState = s.mgt.upState := by simp [State.setImage]
@[simp] theorem State.setNum_mgt_upOwner (s : State) (a v target : Nat) : (s.setNum a v target).mgt.upOwner = s.mgt.upOwner := by simp [State.setNum, ite_mgt_upOwner]
@[simp] theorem State.setImage_mgt_upOwner (s : State) (image : List Byte) : (s.setImage image).mgt.upOwner = s.mgt.upOwner := by simp [State.setImage]
@[simp] theorem State.setNum_mgt_upResult (s : State) (a v target : Nat) : (s.setNum a v target).mgt.upResult = s.mgt.upResult := by simp [State.setNum, ite_mgt_upResult]
@[simp] theorem State.setImage_mgt_upResult (s : State) (image : List Byte) : (s.setImage image).mgt.upResult = s.mgt.upResult := by simp [State.setImage]
@[simp] theorem State.setNum_mgt_running (s : State) (a v target : Nat) : (s.setNum a v target).mgt.running = s.mgt.running := by simp [State.setNum, ite_mgt_running]
@[simp] theorem State.setImage_mgt_running (s : State) (image : List Byte) : (s.setImage image).mgt.running = s.mgt.running := by simp [State.setImage]
@[simp] theorem State.setNum_mgt_trialNext (s : State) (a v target : Nat) : (s.setNum a v target).mgt.trialNext = s.mgt.trialNext :=
  by simp [State.setNum, ite_mgt_trialNext]
@[simp] theorem State.setImage_mgt_trialNext (s : State) (image : List Byte) : (s.setImage image).mgt.trialNext = s.mgt.trialNext := by simp [State.setImage]
@[simp] theorem State.setNum_mgt_trialRunning (s : State) (a v target : Nat) : (s.setNum a v target).mgt.trialRunning = s.mgt.trialRunning :=
  by simp [State.setNum, ite_mgt_trialRunning]
@[simp] theorem State.setImage_mgt_trialRunning (s : State) (image : List Byte) : (s.setImage image).mgt.trialRunning = s.mgt.trialRunning := by simp [State.setImage]
@[simp] theorem State.setNum_mgt_asm (s : State) (a v target : Nat) : (s.setNum a v target).mgt.asm = s.mgt.asm := by simp [State.setNum, ite_mgt_asm]
@[simp] theorem State.setImage_mgt_asm (s : State) (image : List Byte) : (s.setImage image).mgt.asm = s.mgt.asm := by simp [State.setImage]
@[simp] theorem State.setNum_mgt_log (s : State) (a v target : Nat) : (s.setNum a v target).mgt.log = s.mgt.log := by simp [State.setNum, ite_mgt_log]
@[simp] theorem State.setImage_mgt_log (s : State) (image : List Byte) : (s.setImage image).mgt.log = s.mgt.log := by simp [State.setImage]
@[simp] theorem State.setImage_mem (s : State) (image : List Byte) : (s.setImage image).mem = s.mem := by simp [State.setImage]
@[simp] theorem State.logInternal_stk (s : State) (type : Nat) (old new : List Byte) : (s.logInternal type old new).stk = s.stk := by simp [State.logInternal]
@[simp] theorem State.logInternal_nwt (s : State) (type : Nat) (old new : List Byte) : (s.logInternal type old new).nwt = s.nwt := by simp [State.logInternal]
@[simp] theorem State.logInternal_fab (s : State) (type : Nat) (old new : List Byte) : (s.logInternal type old new).fab = s.fab := by simp [State.logInternal]
@[simp] theorem foldl_mgt_blob {α : Type} {g : State → α → State} (l : List α) (s : State) (hg : ∀ u a, (g u a).mgt.blob = u.mgt.blob) : (l.foldl g s).mgt.blob = s.mgt.blob :=
  foldl_keeps (fun s => s.mgt.blob) hg l s
theorem ite_mgt_blob (c : Prop) [Decidable c] (s t : State) : (if c then s else t).mgt.blob = if c then s.mgt.blob else t.mgt.blob :=
  apply_ite (fun s : State => s.mgt.blob) _ _ _
@[simp] theorem State.logInternal_mgt_blob (s : State) (type : Nat) (old new : List Byte) : (s.logInternal type old new).mgt.blob = s.mgt.blob :=
  by simp [State.logInternal]
@[simp] theorem State.setNum_mgt_sensors (s : State) (a v target : Nat) : (s.setNum a v target).mgt.sensors = s.mgt.sensors := by simp [State.setNum, ite_mgt_sensors]
@[simp] theorem State.setNum_mgt_slotA (s : State) (a v target : Nat) : (s.setNum a v target).mgt.slotA = s.mgt.slotA := by simp [State.setNum, ite_mgt_slotA]
@[simp] theorem State.setNum_mgt_slotB (s : State) (a v target : Nat) : (s.setNum a v target).mgt.slotB = s.mgt.slotB := by simp [State.setNum, ite_mgt_slotB]

end Sys2Proof.Machine
end

section
/-! The persistent log, the module sensors, firmware update, the debug kill and the members of a slice (R425 to R434, R458). -/

namespace Sys2Proof.Machine

/-! What a record does to the log. -/

/-- The log with one more record: the oldest leaves a full log. -/
def logWith (l : List LogRec) (r : LogRec) : List LogRec := (if logCapacity ≤ l.length then l.drop 1 else l) ++ [r]

theorem logWith_getLast (l : List LogRec) (r : LogRec) : (logWith l r).getLast? = some r := List.getLast?_concat

theorem State.appendLog_log (s : State) (type iface fn index sub target : Nat) (old new : List Byte) :
    ∃ r : LogRec, (s.appendLog type iface fn index sub target old new).mgt.log = logWith s.mgt.log r ∧
      (s.appendLog type iface fn index sub target old new).mgt.nextSeq = (s.mgt.nextSeq + 1) % 2 ^ 32 ∧ r.type = type ∧ r.iface = iface ∧ r.seq = s.mgt.nextSeq ∧
      r.time = s.time.gtb ∧ r.index = index ∧ r.sub = sub ∧ r.target = target ∧ r.old = logValue old ∧ r.new = logValue new := by
  refine ⟨{ type := type, iface := iface, fn := fn, seq := s.mgt.nextSeq, time := s.time.gtb, index := index, sub := sub
            flags := b2n s.time.steppedSinceLog + 2 * b2n (decide (16 < old.length) || decide (16 < new.length)) + 4 * (new.length / 65536 % 32)
            target := target, valueLen := new.length % 65536, old := logValue old, new := logValue new, boot := s.num E.bootCount },
    ?_, ?_, rfl, rfl, rfl, rfl, rfl, rfl, rfl, rfl, rfl⟩
  · by_cases h : logCapacity ≤ s.mgt.log.length
    · simp [State.appendLog, logWith, h]
    · simp [State.appendLog, logWith, h]
  · by_cases h : logCapacity ≤ s.mgt.log.length
    · simp [State.appendLog, h]
    · simp [State.appendLog, h]

theorem logValue_full {v : List Byte} (h : v.length = 16) : logValue v = v := by
  rw [logValue, if_pos (by omega), h]
  exact List.append_nil v

/-- A write that is logged leaves its record as the last. -/
theorem State.dictLogged_last {s : State} {a : Nat} (h : (entryInfo a).isSome) (w : Origin) (target : Nat) (old new : List Byte) :
    (s.dictLogged w a target old new).mgt.answer = 0 ∧
      ((s.dictLogged w a target old new).mgt.log.getLast?).map (fun r => (r.type, r.index * 256 + r.sub)) = some (1, a) := by
  obtain ⟨e, he⟩ := Option.isSome_iff_exists.1 h
  obtain ⟨r, hlog, -, htype, -, -, -, hindex, hsub, -⟩ := s.appendLog_log 1 w.iface w.logFn (a / 256) (a % 256) (logTarget e target) old new
  refine ⟨by rw [State.dictLogged, he], ?_⟩
  have hl : (s.dictLogged w a target old new).mgt.log = logWith s.mgt.log r := by
    rw [State.dictLogged, he]
    dsimp only
    split
    · rw [State.raiseMgt_status, hlog]
    · rw [hlog]
  rw [hl, logWith_getLast, Option.map_some, htype, hindex, hsub, Nat.div_add_mod']

theorem State.triggerWrite_bad {s : State} {w : Origin} {a v st : Nat} (f : State → State) (h : s.deviceCheck w a = 0) (hst : st ≠ 0) :
    s.triggerWrite w a v st f = s.answer st := by
  rw [State.triggerWrite, if_neg (not_not.2 h), if_pos hst]

/-- What an accepted trigger's effect gives, whatever the record of its write holds. -/
theorem State.triggerWrite_good {s : State} {w : Origin} {a v : Nat} (f : State → State) (h : s.deviceCheck w a = 0) (hs : (entryInfo a).isSome) :
    ∃ old new, s.triggerWrite w a v 0 f = f (s.dictLogged w a 0 old new) := by
  obtain ⟨r, hr⟩ := Option.isSome_iff_exists.1 hs
  exact ⟨_, _, s.triggerWrite_ok w a v f r h hr⟩

/-! Sensors. -/

theorem State.sensor_congr {s t : State} (h : t.mgt.sensors = s.mgt.sensors) (n : Nat) : t.sensor n = s.sensor n := by simp only [State.sensor, h]

/-- The state with a sensor's readings stored. -/
def State.putSensor (s : State) (n : Nat) (z : Sensor) : State := { s with mgt.sensors := s.mgt.sensors.put n z }

theorem State.putSensor_self (s : State) (n : Nat) (z : Sensor) : (s.putSensor n z).sensor n = z := SMap.getD_put_self _ _ _ _
theorem State.putSensor_ne (s : State) {n k : Nat} (z : Sensor) (h : k ≠ n) : (s.putSensor n z).sensor k = s.sensor k := SMap.getD_put_ne _ _ _ h

/-- A change of a sensor's state and nothing else is logged and signalled. -/
theorem State.sensorMoved_effect (s : State) (n before : Nat) :
    (∀ k, (s.sensorMoved n before).sensor k = s.sensor k) ∧ (∀ a k, (s.sensorMoved n before).num a k = s.num a k) ∧
      (s.sensorMoved n before).mgt.num = s.mgt.num ∧ (s.sensorMoved n before).mem = s.mem ∧ (s.sensorMoved n before).cores = s.cores ∧
      ((s.sensor n).state ≠ before → bit (s.sensorMoved n before).mgt.status 2 = true ∧ ((s.sensorMoved n before).mgt.log.getLast?).map (fun r => r.type) = some 6) ∧
      ((s.sensor n).state = before → (s.sensorMoved n before).mgt.log = s.mgt.log) := by
  unfold State.sensorMoved
  dsimp only
  split
  · rename_i h
    exact ⟨fun _ => rfl, fun _ _ => rfl, rfl, rfl, rfl, fun hne => absurd h hne, fun _ => rfl⟩
  · rename_i h
    obtain ⟨r, hlog, -, htype, -⟩ := s.appendLog_log 6 0 0xFF 0 0 0xFFFF (leBytes 1 n ++ leBytes 1 (s.sensor n).state) (leBytes 4 (s.num (E.sensorValue + n)))
    have hnum : ((s.logInternal 6 (leBytes 1 n ++ leBytes 1 (s.sensor n).state) (leBytes 4 (s.num (E.sensorValue + n)))).raiseMgt 2).mgt.num = s.mgt.num := by simp
    refine ⟨fun k => State.sensor_congr (by simp) k, fun a k => State.num_of_mgt_num hnum a k, hnum, by simp, by simp, fun _ => ⟨?_, ?_⟩, fun he => absurd he h⟩
    · simp [bit_setBit]
    · rw [State.raiseMgt_status]
      dsimp only
      rw [State.logInternal, hlog, logWith_getLast, Option.map_some, htype]

/-- A reading of a sensor. -/
def State.reading (s : State) (n v : Nat) : Sensor :=
  { s.sensor n with
    pastWarn := if n ≠ 9 ∧ sensorPast n v (s.num (E.sensorWarn + n)) then (s.sensor n).pastWarn + 1 else 0
    pastCrit := if sensorPast n v (s.num (E.sensorCrit + n)) then (s.sensor n).pastCrit + 1 else 0
    inWarn := sinceWhen s.time.mono (sensorInside n v (s.num (E.sensorWarn + n))) (s.sensor n).inWarn
    inCrit := sinceWhen s.time.mono (sensorInside n v (s.num (E.sensorCrit + n))) (s.sensor n).inCrit
    failingSince := none }

theorem Sensor.next_crit {x : Sensor} (n now : Nat) (h : 2 ≤ x.pastCrit) : x.next n now = 2 := if_pos h

/-- A sensor in state OK whose reading is past its warning threshold, and not past its critical one. -/
theorem Sensor.next_warn {x : Sensor} {n : Nat} (now : Nat) (hc : x.pastCrit = 0) (hs : x.state = 0) (hn : n ≠ 9) :
    x.next n now = if 2 ≤ x.pastWarn then 1 else 0 := by
  rw [Sensor.next, if_neg (by omega)]
  by_cases h2 : 2 ≤ x.pastWarn
  · rw [if_pos ⟨h2, .inl hs, hn⟩, if_pos h2]
  · rw [if_neg (fun h => h2 h.1), if_neg (fun h => by omega), if_neg (fun h => by omega), if_neg h2, hs]

theorem sensorRead_readable {s : State} {n v : Nat} (ha : s.sup.auxValid = true) (hl : s.sup.mgtLive = true) :
    sensorRead n v true s = ((s.putSensor n { s.reading n v with state := (s.reading n v).next n s.time.mono }).setNum (E.sensorValue + n) (v % 2 ^ 32)).sensorMoved n
      (s.sensor n).state := by
  rw [sensorRead]
  dsimp only
  rw [if_neg (by simp [ha, hl]), if_pos rfl]
  rfl

theorem reads_sensor {s : State} {n v : Nat} (ha : s.sup.auxValid = true) (hl : s.sup.mgtLive = true) :
    ∃ t, exec (.sensorRead n v true) s = .next t ∧ t.num (E.sensorValue + n) = v % 2 ^ 32 ∧ (∀ k, k ≠ n → t.sensor k = s.sensor k) ∧ t.mem = s.mem ∧ t.cores = s.cores ∧
      (t.sensor n).failingSince = none ∧
      (sensorPast n v (s.num (E.sensorCrit + n)) = true → (t.sensor n).pastCrit = (s.sensor n).pastCrit + 1 ∧ (1 ≤ (s.sensor n).pastCrit → (t.sensor n).state = 2)) ∧
      (sensorPast n v (s.num (E.sensorCrit + n)) = false → (t.sensor n).pastCrit = 0 ∧
        (n ≠ 9 → (s.sensor n).state = 0 → sensorPast n v (s.num (E.sensorWarn + n)) = true → (t.sensor n).state = if 1 ≤ (s.sensor n).pastWarn then 1 else 0)) ∧
      ((t.sensor n).state ≠ (s.sensor n).state → bit t.mgt.status 2 = true ∧ (t.mgt.log.getLast?).map (fun r => r.type) = some 6) ∧
      ((t.sensor n).state = (s.sensor n).state → t.mgt.log = s.mgt.log) := by
  have heq := sensorRead_readable (n := n) (v := v) ha hl
  generalize hz : ({ s.reading n v with state := (s.reading n v).next n s.time.mono } : Sensor) = z at heq
  generalize hu : (s.putSensor n z).setNum (E.sensorValue + n) (v % 2 ^ 32) = u at heq
  have hself : u.sensor n = z := by rw [← hu, State.sensor_congr (State.setNum_mgt_sensors _ _ _ _)]; exact s.putSensor_self n z
  have hother (k : Nat) (hk : k ≠ n) : u.sensor k = s.sensor k := by rw [← hu, State.sensor_congr (State.setNum_mgt_sensors _ _ _ _)]; exact s.putSensor_ne z hk
  have hnum : u.num (E.sensorValue + n) = v % 2 ^ 32 := by rw [← hu]; exact State.num_setNum_self _ _ _ _
  obtain ⟨hsen, hn, -, hmem, hcores, hmoved, hstill⟩ := u.sensorMoved_effect n (s.sensor n).state
  refine ⟨_, congrArg Host.Outcome.next heq, (hn _ _).trans hnum, fun k hk => (hsen k).trans (hother k hk), hmem.trans (by rw [← hu, State.setNum_mem]; rfl), hcores.trans (by rw [← hu, State.setNum_cores]; rfl), ?_⟩
  rw [hsen n, hself]
  rw [hself] at hmoved hstill
  refine ⟨by rw [← hz]; rfl, fun hp => ⟨?_, fun h1 => ?_⟩, fun hp => ⟨?_, fun h9 h0 hw => ?_⟩, hmoved, fun h => (hstill h).trans (by rw [← hu, State.setNum_mgt_log]; rfl)⟩
  · rw [← hz]
    exact if_pos hp
  · rw [← hz]
    have hcrit : (s.reading n v).pastCrit = (s.sensor n).pastCrit + 1 := if_pos hp
    exact Sensor.next_crit _ _ (by omega)
  · rw [← hz]
    exact if_neg (by simp [hp])
  · rw [← hz]
    have hwarn : (s.reading n v).pastWarn = (s.sensor n).pastWarn + 1 := if_pos ⟨h9, hw⟩
    have hcrit : (s.reading n v).pastCrit = 0 := if_neg (by simp [hp])
    refine (Sensor.next_warn s.time.mono hcrit h0 h9).trans ?_
    rw [hwarn]
    exact if_congr (by omega) rfl rfl

/-- A reading that fails. -/
def State.missing (s : State) (n since : Nat) : Sensor where
  state := if 1000000000 ≤ s.time.mono - since then 3 else (s.sensor n).state
  pastWarn := 0
  pastCrit := 0
  inWarn := none
  inCrit := none
  failingSince := some since

theorem misses_sensor {s : State} {n v since : Nat} (ha : s.sup.auxValid = true) (hl : s.sup.mgtLive = true) (hf : (s.sensor n).failingSince = some since) :
    ∃ t, exec (.sensorRead n v false) s = .next t ∧ t.mgt.num = s.mgt.num ∧ t.mem = s.mem ∧
      (t.sensor n).state = if 1000000000 ≤ s.time.mono - since then 3 else (s.sensor n).state := by
  have heq : sensorRead n v false s = (s.putSensor n (s.missing n since)).sensorMoved n (s.sensor n).state := by
    rw [sensorRead]
    dsimp only
    rw [if_neg (by simp [ha, hl]), if_neg (by decide), hf]
    rfl
  obtain ⟨hsen, -, hnum, hmem, -⟩ := (s.putSensor n (s.missing n since)).sensorMoved_effect n (s.sensor n).state
  exact ⟨_, congrArg Host.Outcome.next heq, hnum, hmem, by rw [hsen, s.putSensor_self]; rfl⟩

/-! Firmware update. -/

theorem Mgt.slot_congr {m m' : Mgt} (ha : m'.slotA = m.slotA) (hb : m'.slotB = m.slotB) (n : Nat) : m'.slot n = m.slot n := by rw [Mgt.slot, Mgt.slot, ha, hb]

theorem State.setSlot_slot (s : State) (n : Nat) (x : Slot) : (s.setSlot n x).mgt.slot n = x := by
  unfold State.setSlot Mgt.slot
  by_cases h : n = 0 <;> simp [h]

/-- A write of the inactive slot leaves the running one. -/
theorem State.setSlot_running (s : State) (x : Slot) : (s.setSlot s.inactive x).mgt.slot s.mgt.running = s.mgt.slot s.mgt.running := by
  unfold State.setSlot Mgt.slot State.inactive
  by_cases h : s.mgt.running = 0
  · simp [h]
  · have h1 : 1 - s.mgt.running = 0 := by omega
    simp [h, h1]

theorem State.inactive_congr {s t : State} (h : t.mgt.running = s.mgt.running) : t.inactive = s.inactive := by rw [State.inactive, State.inactive, h]

theorem State.upMove_upState (s : State) (u : UpState) : (s.upMove u).mgt.upState = u := by
  unfold State.upMove
  split
  · assumption
  · rw [State.raiseMgt_status]

theorem State.dropImageAsm_any (s : State) : s.dropImageAsm.mgt.asm.any (fun a => decide (a.entry = E.updateImage)) = false := by
  simp [State.dropImageAsm]

theorem State.imageResult_congr {s t : State} (h : t.mgt.num = s.mgt.num) (l : List Byte) : t.imageResult l = s.imageResult l := by
  have hnum (a : Nat) : t.num a = s.num a := State.num_of_mgt_num h a 0
  unfold State.imageResult
  rw [hnum, hnum]

/-- The step of a verification: the image's first check that fails is the result, and a slot whose image passes takes its header. -/
def State.verifyImage (t : State) : State :=
  let l := (t.mgt.slot t.inactive).image
  let r := t.imageResult l
  let t1 : State := { (t.dropImageAsm.upMove .verifying) with mgt.upResult := r }
  let t2 := if r = 0 then
      t1.setSlot t1.inactive { image := l, empty := true, version := fieldAt l 8 4, security := fieldAt l 5 1, revoke := fieldAt l 6 1 }
    else t1
  (t2.upLog 2 t.inactive (fieldAt l 8 4)).upMove (if r = 0 then .verified else .failed)

theorem State.verifyImage_effect (s : State) :
    s.verifyImage.mgt.upResult = s.imageResult (s.mgt.slot s.inactive).image ∧ s.verifyImage.mgt.running = s.mgt.running ∧
      s.verifyImage.mgt.trialNext = s.mgt.trialNext ∧ s.verifyImage.mem = s.mem ∧
      (s.imageResult (s.mgt.slot s.inactive).image = 0 → s.verifyImage.mgt.upState = .verified ∧
        (s.verifyImage.mgt.slot s.inactive).version = fieldAt (s.mgt.slot s.inactive).image 8 4 ∧ (s.verifyImage.mgt.slot s.inactive).image = (s.mgt.slot s.inactive).image) ∧
      (s.imageResult (s.mgt.slot s.inactive).image ≠ 0 → s.verifyImage.mgt.upState = .failed) := by
  unfold State.verifyImage
  dsimp only
  generalize hu : ({ (s.dropImageAsm.upMove .verifying) with mgt.upResult := s.imageResult (s.mgt.slot s.inactive).image } : State) = u
  have hres : u.mgt.upResult = s.imageResult (s.mgt.slot s.inactive).image := by rw [← hu]
  have hrun : u.mgt.running = s.mgt.running := by rw [← hu]; simp
  have hnext : u.mgt.trialNext = s.mgt.trialNext := by rw [← hu]; simp
  have hmem : u.mem = s.mem := by rw [← hu]; simp
  by_cases h0 : s.imageResult (s.mgt.slot s.inactive).image = 0
  · rw [if_pos h0, if_pos h0]
    have hslot (x : Slot) (n v : Nat) (k : UpState) : (((u.setSlot u.inactive x).upLog 2 n v).upMove k).mgt.slot s.inactive = x := by
      rw [← State.inactive_congr hrun]
      exact (Mgt.slot_congr (by simp) (by simp) _).trans (u.setSlot_slot u.inactive x)
    exact ⟨by simp [hres], by simp [hrun], by simp [hnext], by simp [hmem], fun _ => ⟨State.upMove_upState _ _, by rw [hslot], by rw [hslot]⟩, fun h => absurd h0 h⟩
  · rw [if_neg h0, if_neg h0]
    exact ⟨by simp [hres], by simp [hrun], by simp [hnext], by simp [hmem], fun h => absurd h h0, fun _ => State.upMove_upState _ _⟩

theorem State.commitTrial_effect (s : State) :
    s.commitTrial.mgt.upState = .idle ∧ s.commitTrial.mgt.upOwner = none ∧ s.commitTrial.mgt.trialRunning = false ∧ s.commitTrial.num E.activeSlot = s.mgt.running ∧
      s.commitTrial.num E.rollbackCounter = max (s.num E.rollbackCounter) (s.mgt.slot s.mgt.running).security ∧
      s.commitTrial.num E.keysRevoked = natOr 8 (s.num E.keysRevoked) ((s.mgt.slot s.mgt.running).revoke % 16) ∧ s.commitTrial.mem = s.mem := by
  unfold State.commitTrial
  dsimp only
  generalize hx : s.mgt.slot s.mgt.running = x
  generalize hu : (if (s.setNum E.activeSlot s.mgt.running).num E.rollbackCounter < x.security then
    (s.setNum E.activeSlot s.mgt.running).setNum E.rollbackCounter x.security else s.setNum E.activeSlot s.mgt.running) = u
  have hact : u.num E.activeSlot = s.mgt.running := by
    rw [← hu]
    split
    · rw [State.num_setNum_of_ne _ _ (by decide), State.num_setNum_self]
    · rw [State.num_setNum_self]
  have hroll : u.num E.rollbackCounter = max (s.num E.rollbackCounter) x.security := by
    rw [← hu, State.num_setNum_of_ne _ _ (by decide)]
    split
    · rw [State.num_setNum_self]
      omega
    · rw [State.num_setNum_of_ne _ _ (by decide)]
      omega
  have hkeys : u.num E.keysRevoked = s.num E.keysRevoked := by
    rw [← hu]
    split
    · rw [State.num_setNum_of_ne _ _ (by decide), State.num_setNum_of_ne _ _ (by decide)]
    · rw [State.num_setNum_of_ne _ _ (by decide)]
  have hmem : u.mem = s.mem := by
    rw [← hu]
    split <;> simp
  have hnum (v : State) (n k : Nat) (a : Nat) : (State.upMove { (v.upLog 4 n k) with mgt.trialRunning := false, mgt.upOwner := none } .idle).num a = v.num a :=
    State.num_of_mgt_num (by simp) a 0
  refine ⟨State.upMove_upState _ _, by simp, by simp, ?_, ?_, ?_, by simp [hmem]⟩
  · rw [hnum, State.num_setNum_of_ne _ _ (by decide), hact]
  · rw [hnum, State.num_setNum_of_ne _ _ (by decide), hroll]
  · rw [hnum, State.num_setNum_self, hkeys]

section
variable {s : State} {w : Origin} (hc : s.deviceCheck w E.updateControl = 0)
include hc

/-- A step whose state or owner is not its own is refused. -/
theorem State.upControl_bad {v : Nat} {ok : Bool} (f : State → State) (hf : s.upForeign w = false ∨ v = 5) (ho : ok = false) : s.upControl w v ok f = s.answer 5 := by
  rw [State.upControl, if_neg (by rcases hf with h | h <;> simp [h]), ho]
  exact State.triggerWrite_bad _ hc (by decide)

theorem State.upControl_foreign {v : Nat} {ok : Bool} (f : State → State) (hf : s.upForeign w = true) (hv : v ≠ 5) : s.upControl w v ok f = s.answer 7 := by
  rw [State.upControl, if_pos (by simp [hf, hv])]
  exact State.triggerWrite_bad _ hc (by decide)

theorem State.upControl_ok {v : Nat} {ok : Bool} (f : State → State) (hf : s.upForeign w = false ∨ v = 5) (ho : ok = true) :
    ∃ old new, s.upControl w v ok f = f (s.dictLogged w E.updateControl 0 old new) := by
  rw [State.upControl, if_neg (by rcases hf with h | h <;> simp [h]), ho]
  exact State.triggerWrite_good f hc (by decide)

theorem begins_update (hf : s.upForeign w = false) (h : s.mgt.upState = .idle ∨ s.mgt.upState = .failed) :
    ∃ t, exec (.updateBegin w) s = .next t ∧ t.mgt.upState = .receiving ∧ t.mgt.upOwner = some w ∧ t.mgt.upResult = 0 ∧
      t.mgt.slot s.inactive = Slot.erased ∧ t.mgt.slot s.mgt.running = s.mgt.slot s.mgt.running ∧ t.mgt.running = s.mgt.running ∧ t.num E.updateReceived = 0 ∧
      t.mem = s.mem := by
  obtain ⟨old, new, heq⟩ := State.upControl_ok hc (v := 1) (fun t =>
    let t1 := (t.setSlot t.inactive Slot.erased).dropImageAsm
    let t2 : State := { t1 with mgt.upOwner := some w, mgt.upResult := 0 }
    ((t2.setNum E.updateReceived 0).upLog 1 t.inactive 0).upMove .receiving) (.inl hf) (decide_eq_true h)
  generalize hd : s.dictLogged w E.updateControl 0 old new = d at heq
  have hrun : d.mgt.running = s.mgt.running := by rw [← hd]; simp
  have hslots (k : Nat) : d.mgt.slot k = s.mgt.slot k := Mgt.slot_congr (by rw [← hd]; simp) (by rw [← hd]; simp) k
  have hmem : d.mem = s.mem := by rw [← hd]; simp
  refine ⟨_, congrArg Host.Outcome.next heq, State.upMove_upState _ _, by simp, by simp, ?_, ?_, by simp [hrun], ?_, by simp [hmem]⟩
  · rw [← State.inactive_congr hrun]
    exact (Mgt.slot_congr (by simp) (by simp) _).trans (d.setSlot_slot d.inactive Slot.erased)
  · rw [← hslots, ← hrun]
    exact (Mgt.slot_congr (by simp) (by simp) _).trans (d.setSlot_running Slot.erased)
  · exact ((State.num_of_mgt_num (State.upMove_mgt_num _ _) _ _).trans (State.num_of_mgt_num (State.upLog_mgt_num _ _ _ _) _ _)).trans
      (State.num_setNum_self _ _ _ _)

theorem verifies_update (hf : s.upForeign w = false) {l : List Byte} (h : s.mgt.upState = .receiving) (hl : l = (s.mgt.slot s.inactive).image) :
    ∃ t, exec (.updateVerify w) s = .next t ∧ t.mgt.upResult = s.imageResult l ∧
      (s.imageResult l = 0 → t.mgt.upState = .verified ∧ (t.mgt.slot s.inactive).version = fieldAt l 8 4 ∧ (t.mgt.slot s.inactive).image = l) ∧
      (s.imageResult l ≠ 0 → t.mgt.upState = .failed) ∧ t.mgt.running = s.mgt.running ∧ t.mgt.trialNext = s.mgt.trialNext ∧ t.mem = s.mem := by
  obtain ⟨old, new, heq⟩ := State.upControl_ok hc (v := 2) State.verifyImage (.inl hf) (decide_eq_true h)
  generalize hd : s.dictLogged w E.updateControl 0 old new = d at heq
  have hrun : d.mgt.running = s.mgt.running := by rw [← hd]; simp
  have hnext : d.mgt.trialNext = s.mgt.trialNext := by rw [← hd]; simp
  have himage : (d.mgt.slot d.inactive).image = l := by
    rw [hl, State.inactive_congr hrun]
    exact congrArg Slot.image (Mgt.slot_congr (by rw [← hd]; simp) (by rw [← hd]; simp) _)
  have hres : d.imageResult l = s.imageResult l := State.imageResult_congr (by rw [← hd]; simp) l
  have hmem : d.mem = s.mem := by rw [← hd]; simp
  obtain ⟨hup, hr, htn, hm, hgood, hbad⟩ := d.verifyImage_effect
  rw [himage, hres] at hup hgood hbad
  exact ⟨_, congrArg Host.Outcome.next heq, hup, fun h0 => by rw [← State.inactive_congr hrun]; exact hgood h0, hbad, hr.trans hrun, htn.trans hnext, hm.trans hmem⟩

theorem activates_update (hf : s.upForeign w = false) (h : s.mgt.upState = .verified) :
    ∃ t, exec (.updateActivate w) s = .next t ∧ t.mgt.upState = .activated ∧ t.mgt.trialNext = some s.inactive ∧
      t.mgt.slot s.inactive = { s.mgt.slot s.inactive with empty := false } ∧ t.mgt.running = s.mgt.running ∧ t.mem = s.mem := by
  obtain ⟨old, new, heq⟩ := State.upControl_ok hc (v := 3) (fun t =>
    let x := t.mgt.slot t.inactive
    let t1 := t.setSlot t.inactive { x with empty := false }
    let t2 : State := { t1 with mgt.trialNext := some t.inactive }
    (t2.upLog 3 t.inactive x.version).upMove .activated) (.inl hf) (decide_eq_true h)
  generalize hd : s.dictLogged w E.updateControl 0 old new = d at heq
  have hrun : d.mgt.running = s.mgt.running := by rw [← hd]; simp
  have hslots (k : Nat) : d.mgt.slot k = s.mgt.slot k := Mgt.slot_congr (by rw [← hd]; simp) (by rw [← hd]; simp) k
  have hmem : d.mem = s.mem := by rw [← hd]; simp
  refine ⟨_, congrArg Host.Outcome.next heq, State.upMove_upState _ _, by simp [State.inactive_congr hrun], ?_, by simp [hrun], by simp [hmem]⟩
  rw [← hslots, ← State.inactive_congr hrun]
  exact (Mgt.slot_congr (by simp) (by simp) _).trans (d.setSlot_slot d.inactive _)

theorem aborts_update (h : s.mgt.upState.aborts = true) :
    ∃ t, exec (.updateAbort w) s = .next t ∧ t.mgt.upState = .idle ∧ t.mgt.upOwner = none ∧ t.mgt.trialNext = none ∧
      t.mgt.slot s.inactive = Slot.erased ∧ t.mgt.slot s.mgt.running = s.mgt.slot s.mgt.running ∧ t.mem = s.mem := by
  obtain ⟨old, new, heq⟩ := State.upControl_ok hc (v := 5) (fun t =>
    let t1 := (t.setSlot t.inactive Slot.erased).dropImageAsm
    let t2 : State := { t1 with mgt.upOwner := none, mgt.trialNext := none }
    ((t2.setNum E.updateReceived 0).upLog 5 t.inactive 0).upMove .idle) (.inr rfl) h
  generalize hd : s.dictLogged w E.updateControl 0 old new = d at heq
  have hrun : d.mgt.running = s.mgt.running := by rw [← hd]; simp
  have hslots (k : Nat) : d.mgt.slot k = s.mgt.slot k := Mgt.slot_congr (by rw [← hd]; simp) (by rw [← hd]; simp) k
  have hmem : d.mem = s.mem := by rw [← hd]; simp
  refine ⟨_, congrArg Host.Outcome.next heq, State.upMove_upState _ _, by simp, by simp, ?_, ?_, by simp [hmem]⟩
  · rw [← State.inactive_congr hrun]
    exact (Mgt.slot_congr (by simp) (by simp) _).trans (d.setSlot_slot d.inactive Slot.erased)
  · rw [← hslots, ← hrun]
    exact (Mgt.slot_congr (by simp) (by simp) _).trans (d.setSlot_running Slot.erased)

theorem commits_update (hf : s.upForeign w = false) (h : s.mgt.upState = .trial) :
    ∃ t, exec (.updateCommit w) s = .next t ∧ t.mgt.upState = .idle ∧ t.mgt.upOwner = none ∧ t.mgt.trialRunning = false ∧
      t.num E.activeSlot = s.mgt.running ∧ t.num E.rollbackCounter = max (s.num E.rollbackCounter) (s.mgt.slot s.mgt.running).security ∧
      t.num E.keysRevoked = natOr 8 (s.num E.keysRevoked) ((s.mgt.slot s.mgt.running).revoke % 16) ∧ t.mem = s.mem := by
  obtain ⟨old, new, heq⟩ := State.upControl_ok hc (v := 4) State.commitTrial (.inl hf) (decide_eq_true h)
  generalize hd : s.dictLogged w E.updateControl 0 old new = d at heq
  have hrun : d.mgt.running = s.mgt.running := by rw [← hd]; simp
  have hslot : d.mgt.slot d.mgt.running = s.mgt.slot s.mgt.running := by
    rw [hrun]
    exact Mgt.slot_congr (by rw [← hd]; simp) (by rw [← hd]; simp) _
  have hnum (a : Nat) : d.num a = s.num a := State.num_of_mgt_num (by rw [← hd]; simp) a 0
  have hmem : d.mem = s.mem := by rw [← hd]; simp
  have heff := d.commitTrial_effect
  rw [hslot, hrun, hnum, hnum, hmem] at heff
  exact ⟨_, congrArg Host.Outcome.next heq, heff⟩

end

/-! The image of an update. -/

theorem State.setImage_slot (s : State) (l : List Byte) : ((s.setImage l).mgt.slot s.inactive).image = l := by
  unfold State.setImage
  exact congrArg Slot.image ((Mgt.slot_congr (State.setNum_mgt_slotA _ _ _ _) (State.setNum_mgt_slotB _ _ _ _) _).trans (s.setSlot_slot s.inactive _))

theorem State.setImage_received (s : State) (l : List Byte) : (s.setImage l).num E.updateReceived = l.length := State.num_setNum_self _ _ _ _

/-- The bytes of the image that stand, of an assembly that runs. -/
def State.imageSoFar (s : State) : List Byte :=
  if s.mgt.asm.any (fun a => decide (a.entry = E.updateImage)) then (s.mgt.slot s.inactive).image else []

section
variable {s : State} {w : Origin} {off : Nat} {bytes : List Byte} {last : Bool} (hc : s.deviceCheck w E.updateImage = 0) (hf : s.upForeign w = false)
  (hu : s.mgt.upState = .receiving)
include hc hf hu

theorem takes_segment (ho : off = s.imageSoFar.length) (hlen : s.imageSoFar.length + bytes.length ≤ imageLimit) :
    ∃ t, exec (.updateImageSegment w off bytes last) s = .next t ∧ t.mgt.answer = 0 ∧
      (t.mgt.slot s.inactive).image = s.imageSoFar ++ bytes ∧ t.num E.updateReceived = s.imageSoFar.length + bytes.length ∧ t.mgt.upState = .receiving ∧
      t.mgt.asm.any (fun a => decide (a.entry = E.updateImage)) = !last ∧ (last = false → t.mgt.log = s.mgt.log) ∧ t.mem = s.mem := by
  have heq : updateImageSegment w off bytes last s =
      if last then (s.setImage (s.imageSoFar ++ bytes)).dropImageAsm.dictLogged w E.updateImage 0 [] (s.imageSoFar ++ bytes)
      else State.answer { (s.setImage (s.imageSoFar ++ bytes)).dropImageAsm with mgt.asm := (s.setImage (s.imageSoFar ++ bytes)).dropImageAsm.mgt.asm ++
        [{ entry := E.updateImage, target := 0, who := w, bytes := [], lastAt := s.time.mono }] } 0 := by
    rw [updateImageSegment]
    dsimp only
    rw [if_neg (not_not.2 hc), if_neg (by simp [hf]), if_neg (not_not.2 hu)]
    refine (if_neg (not_not.2 ho)).trans (if_neg ?_)
    exact (List.length_append (as := s.imageSoFar) (bs := bytes)) ▸ not_lt.2 hlen
  have hslot := s.setImage_slot (s.imageSoFar ++ bytes)
  have hrec := (s.setImage_received (s.imageSoFar ++ bytes)).trans List.length_append
  cases last with
  | true =>
    rw [if_pos rfl] at heq
    refine ⟨_, congrArg Host.Outcome.next heq, (State.dictLogged_last (by decide) _ _ _ _).1, ?_, ?_, by simp [hu], ?_, fun h => Bool.noConfusion h, ?_⟩
    · refine (congrArg Slot.image (Mgt.slot_congr (m := (s.setImage (s.imageSoFar ++ bytes)).mgt) ?_ ?_ _)).trans hslot
      · simp
      · simp
    · exact ((State.num_of_mgt_num (State.dictLogged_mgt_num _ _ _ _ _ _) _ _).trans (State.num_of_mgt_num (State.dropImageAsm_mgt_num _) _ _)).trans hrec
    · rw [State.dictLogged_mgt_asm]
      exact State.dropImageAsm_any _
    · exact ((State.dictLogged_mem _ _ _ _ _ _).trans (State.dropImageAsm_mem _)).trans (State.setImage_mem _ _)
  | false =>
    rw [if_neg (by decide)] at heq
    refine ⟨_, congrArg Host.Outcome.next heq, rfl, hslot, hrec, ?_, ?_, fun _ => ?_, ?_⟩
    · exact (State.dropImageAsm_mgt_upState _).trans ((State.setImage_mgt_upState _ _).trans hu)
    · simp [State.answer]
    · exact (State.dropImageAsm_mgt_log _).trans (State.setImage_mgt_log _ _)
    · exact (State.dropImageAsm_mem _).trans (State.setImage_mem _ _)

theorem refuses_segment (ho : off ≠ s.imageSoFar.length) :
    ∃ t, exec (.updateImageSegment w off bytes last) s = .next t ∧ t.mgt.answer = 8 ∧ (t.mgt.slot s.inactive).image = [] ∧ t.mgt.log = s.mgt.log ∧ t.mem = s.mem := by
  have heq : updateImageSegment w off bytes last s = ((s.setImage []).dropImageAsm).answer 8 := by
    rw [updateImageSegment]
    dsimp only
    rw [if_neg (not_not.2 hc), if_neg (by simp [hf]), if_neg (not_not.2 hu)]
    exact if_pos ho
  exact ⟨_, congrArg Host.Outcome.next heq, rfl, s.setImage_slot [], (State.dropImageAsm_mgt_log _).trans (State.setImage_mgt_log _ _),
    (State.dropImageAsm_mem _).trans (State.setImage_mem _ _)⟩

end

/-! The debug kill and the members of a slice. -/

theorem debug_kills {s : State} {w : Origin} {q : Nat} (hc : s.deviceCheck w E.debugKill = 0) (hq : q < 4096) (ha : (s.q q).state.alive = true) :
    ∃ t, exec (.debugKill w q) s = .next t ∧ Killed t q 0x0F ∧ (∀ i, i ≠ q → t.q i = s.q i) ∧ t.mem = s.mem ∧ t.cores = s.cores := by
  obtain ⟨old, new, heq⟩ := State.triggerWrite_good (v := q) (fun t => t.kill q 0x0F (t.oldestSite q)) hc (by decide)
  generalize hd : s.dictLogged w E.debugKill 0 old new = d at heq
  have heq' : debugKill w q s = d.kill q 0x0F (d.oldestSite q) := by
    rw [debugKill, if_neg (by omega), if_neg (by simp [ha])]
    exact heq
  have hfe : d.fe = s.fe := by rw [← hd]; simp
  have hmem : d.mem = s.mem := by rw [← hd]; simp
  have hcores : d.cores = s.cores := by rw [← hd]; simp
  obtain ⟨hk, hqs, hm, hco, -⟩ := State.kill_alive (s := d) (q := q) 0x0F (d.oldestSite q) ((congrArg (fun x : Queue => x.state.alive) (State.q_congr hfe q)).trans ha)
  exact ⟨_, congrArg Host.Outcome.next heq', ⟨congrArg Queue.state hk, congrArg Queue.killCode hk⟩, fun i hi => (hqs i hi).trans (State.q_congr hfe i),
    hm.trans hmem, hco.trans hcores⟩

theorem State.setBlob_blob (s : State) (a : Nat) (b : List Byte) : (s.setBlob a b).blob a = b := by simp [State.blob, State.setBlob]

theorem State.setBlob_blob_ne (s : State) {a k : Nat} (b : List Byte) (h : k ≠ a) : (s.setBlob a b).blob k = s.blob k := by
  simp only [State.blob, State.setBlob]
  exact SMap.getD_put_ne _ _ _ (by omega)

theorem writes_slice {s : State} {w : Origin} {b : List Byte} (hc : s.deviceCheck w E.sliceMembers = 0)
    (hb : b = [] ∨ (4 ≤ b.length ∧ b.length ≤ 8196 ∧ b.length % 2 = 0 ∧ ∀ c ∈ idsOf b 4, c ≤ 4095)) :
    ∃ t, exec (.sliceMembersWrite w b) s = .next t ∧ t.blob E.sliceMembers = b ∧ t.mgt.answer = 0 ∧ t.mgt.num = s.mgt.num ∧ t.mem = s.mem ∧ t.cores = s.cores ∧
      (t.mgt.log.getLast?).map (fun r => (r.type, r.index * 256 + r.sub)) = some (1, E.sliceMembers) := by
  have hok : (b.isEmpty || (decide (4 ≤ b.length ∧ b.length ≤ 8196) && decide (b.length % 2 = 0) && (idsOf b 4).all (fun c => decide (c ≤ 4095)))) = true := by
    rcases hb with rfl | ⟨h1, h2, h3, h4⟩
    · rfl
    · simp [h1, h2, h3]
      exact .inr h4
  have heq : sliceMembersWrite w b s = ((s.setBlob E.sliceMembers b).setBlob E.sliceUnit ((s.setBlob E.sliceMembers b).sliceUnitNow.bytes 5)).dictLogged w
      E.sliceMembers 0 (s.blob E.sliceMembers) b := by
    rw [sliceMembersWrite]
    dsimp only
    rw [if_neg (not_not.2 hc), hok, if_neg (by decide)]
  obtain ⟨hans, hlast⟩ := State.dictLogged_last (s := (s.setBlob E.sliceMembers b).setBlob E.sliceUnit ((s.setBlob E.sliceMembers b).sliceUnitNow.bytes 5))
    (a := E.sliceMembers) (by decide) w 0 (s.blob E.sliceMembers) b
  refine ⟨_, congrArg Host.Outcome.next heq, ?_, hans, by simp [State.setBlob], by simp [State.setBlob], by simp [State.setBlob], hlast⟩
  have hblob : ∀ t : State, (t.dictLogged w E.sliceMembers 0 (s.blob E.sliceMembers) b).blob E.sliceMembers = t.blob E.sliceMembers :=
    fun t => congrArg (fun m : SMap (List Byte) => SMap.getD m (E.sliceMembers * 256 + 0) []) (t.dictLogged_blob w E.sliceMembers 0 _ b)
  rw [hblob, State.setBlob_blob_ne _ _ (by decide), State.setBlob_blob]

theorem refuses_slice {s : State} {w : Origin} {b : List Byte} (hc : s.deviceCheck w E.sliceMembers = 0) (hne : b ≠ [])
    (hb : b.length < 4 ∨ 8196 < b.length ∨ b.length % 2 = 1 ∨ (∃ c ∈ idsOf b 4, 4095 < c)) : exec (.sliceMembersWrite w b) s = .next (s.answer 4) := by
  have hbad : (b.isEmpty || (decide (4 ≤ b.length ∧ b.length ≤ 8196) && decide (b.length % 2 = 0) && (idsOf b 4).all (fun c => decide (c ≤ 4095)))) = false := by
    have hemp : b.isEmpty = false := by simpa using hne
    rw [hemp, Bool.false_or]
    rcases hb with h | h | h | ⟨c, hmem, hlt⟩
    · rw [decide_eq_false (by omega), Bool.false_and, Bool.false_and]
    · rw [decide_eq_false (by omega), Bool.false_and, Bool.false_and]
    · rw [show decide (b.length % 2 = 0) = false from decide_eq_false (by omega), Bool.and_false, Bool.false_and]
    · rw [Bool.and_eq_false_iff]
      exact .inr (List.all_eq_false.2 ⟨c, hmem, by simpa using hlt⟩)
  refine congrArg Host.Outcome.next ?_
  rw [sliceMembersWrite]
  dsimp only
  rw [if_neg (not_not.2 hc), hbad]
  rfl

/-- Settles O55: the log by the record that joins it, a sensor by its reading, and each step of an update by the state in which it is accepted. -/
theorem managementServices : Obligations.ManagementServices := by
  unfold Obligations.ManagementServices
  refine ⟨fun s type old new => ?_, fun s w note hc => ⟨fun hn => ?_, fun hn => ?_⟩, fun s rec => ⟨fun hr => ?_, fun hr => ?_⟩,
    fun s n v _ ha hl => ⟨reads_sensor ha hl, fun since hs => misses_sensor ha hl hs⟩,
    fun s w hc => ⟨fun hf => ?_, fun hf => ⟨begins_update hc hf, fun h1 h2 => ?_, fun l h hl => verifies_update hc hf h hl, fun h => ?_, activates_update hc hf,
      fun h => ?_, commits_update hc hf, fun h => ?_⟩, aborts_update hc, fun h => ?_⟩,
    fun s w off bytes have' last hc hf hu hh => ⟨fun ho hlen => ?_, fun ho => ?_⟩,
    fun s w q hc => ⟨debug_kills hc, fun hq ha => ?_, fun hq => ?_⟩, fun s w b hc => ⟨writes_slice hc, refuses_slice hc⟩⟩
  · obtain ⟨r, hlog, hseq, htype, hiface, hrseq, htime, -, -, htarget, hold, hnew⟩ := s.appendLog_log type 0 0xFF 0 0 0xFFFF old new
    exact ⟨_, r, rfl, hlog, htype, hrseq, htime, hold, hnew, hiface, htarget, hseq, State.logInternal_mgt_num _ _ _ _, State.logInternal_mgt_blob _ _ _ _,
      State.logInternal_mem _ _ _ _, State.logInternal_cores _ _ _ _, State.logInternal_fe _ _ _ _⟩
  · have heq : logAppend w note s = State.answer (s.appendLog 0x0F w.iface w.logFn (E.logAppend / 256) (E.logAppend % 256) 0xFFFF [] note) 0 := by
      rw [logAppend, if_neg (not_not.2 hc), if_neg (not_not.2 hn)]
    obtain ⟨r, hlog, -, htype, hiface, -, -, -, -, -, -, hnew⟩ := s.appendLog_log 0x0F w.iface w.logFn (E.logAppend / 256) (E.logAppend % 256) 0xFFFF [] note
    refine ⟨_, congrArg Host.Outcome.next heq, ?_, rfl, State.appendLog_mgt_num _ _ _ _ _ _ _ _ _, State.appendLog_mem _ _ _ _ _ _ _ _ _,
      State.appendLog_cores _ _ _ _ _ _ _ _ _⟩
    refine (congrArg (fun l : List LogRec => (l.getLast?).map (fun r => (r.type, r.iface, r.new))) hlog).trans ?_
    rw [logWith_getLast, Option.map_some, htype, hiface, hnew, logValue_full hn]
  · refine congrArg Host.Outcome.next ?_
    rw [logAppend, if_neg (not_not.2 hc), if_pos hn]
  · have heq : errLogPersistCopy rec s = State.logInternal { s with mgt.toCopy := s.mgt.toCopy.erase rec } 3 (leBytes 8 rec) [] := if_pos (by simpa using hr)
    obtain ⟨r, hlog, -, htype, -⟩ := State.appendLog_log { s with mgt.toCopy := s.mgt.toCopy.erase rec } 3 0 0xFF 0 0 0xFFFF (leBytes 8 rec) []
    refine ⟨_, congrArg Host.Outcome.next heq, by simp, ?_, by simp, by simp, by simp, by simp, by simp⟩
    rw [State.logInternal, hlog, logWith_getLast, Option.map_some, htype]
  · exact congrArg Host.Outcome.next (if_neg (by simpa using hr))
  · exact ⟨congrArg Host.Outcome.next (State.upControl_foreign hc _ hf (by decide)), congrArg Host.Outcome.next (State.upControl_foreign hc _ hf (by decide)),
      congrArg Host.Outcome.next (State.upControl_foreign hc _ hf (by decide)), congrArg Host.Outcome.next (State.upControl_foreign hc _ hf (by decide))⟩
  · exact congrArg Host.Outcome.next (State.upControl_bad hc _ (.inl hf) (by simp [h1, h2]))
  · exact congrArg Host.Outcome.next (State.upControl_bad hc _ (.inl hf) (by simp [h]))
  · exact congrArg Host.Outcome.next (State.upControl_bad hc _ (.inl hf) (by simp [h]))
  · exact congrArg Host.Outcome.next (State.upControl_bad hc _ (.inl hf) (by simp [h]))
  · exact congrArg Host.Outcome.next (State.upControl_bad hc _ (.inr rfl) h)
  · subst hh
    exact takes_segment hc hf hu ho hlen
  · subst hh
    exact refuses_segment hc hf hu ho
  · refine congrArg Host.Outcome.next ?_
    rw [debugKill, if_neg (by omega), if_pos (by simp [ha])]
    exact State.triggerWrite_bad _ hc (by decide)
  · refine congrArg Host.Outcome.next ?_
    rw [debugKill, if_pos hq]
    exact State.triggerWrite_bad _ hc (by decide)

end Sys2Proof.Machine
end

section
/-! RDMA queue pairs (R393 to R396, Tables 16.2 and 16.3). -/

namespace Sys2Proof.Machine

/-! A queue pair and the others. -/

theorem State.modQp_qp_self (s : State) (f n : Nat) (g : Qp → Qp) : (s.modQp f n g).qp f n = g (s.qp f n) := SMap.getD_modify_self _ _ _ _

theorem State.qp_congr {s t : State} (h : t.svc.qps = s.svc.qps) (f n : Nat) : t.qp f n = s.qp f n := by simp only [State.qp, h]

theorem State.port_congr {s t : State} (h : t.svc = s.svc) (p : Nat) : t.port p = s.port p := by simp only [State.port, h]

theorem State.modQp_only (s : State) (f n : Nat) (g : Qp → Qp) : QpOnly s (s.modQp f n g) f n :=
  ⟨fun _ hk => SMap.get?_put_ne _ _ hk, fun _ => rfl⟩

theorem QpOnly.trans {s t u : State} {f n : Nat} (h : QpOnly s t f n) (k : QpOnly t u f n) : QpOnly s u f n :=
  ⟨fun i hi => (k.1 i hi).trans (h.1 i hi), fun p => (k.2 p).trans (h.2 p)⟩

theorem qpOnly_of_svc {s t : State} (h : t.svc = s.svc) (f n : Nat) : QpOnly s t f n := ⟨fun _ _ => by rw [h], fun p => State.port_congr h p⟩

/-- What a change of one queue pair leaves. -/
theorem changed_qp {s u : State} {i : Instr} {f n : Nat} {g : Qp → Qp} (hi : exec i s = .next u) (h : u = s.modQp f n g) :
    ∃ t, exec i s = .next t ∧ t.qp f n = g (s.qp f n) ∧ t.mem = s.mem ∧ t.mgt = s.mgt ∧ QpOnly s t f n :=
  ⟨_, h ▸ hi, s.modQp_qp_self f n g, rfl, rfl, s.modQp_only f n g⟩

/-! Writes in the function's tables leave the service ports. -/

theorem State.writeV_svc (s : State) (f va : Nat) (data : List Byte) : (s.writeV f va data).2.svc = s.svc :=
  State.writeVirt_keeps State.svc (fun _ _ _ => by simp) (fun s a l => State.hostWrite_keeps State.svc (fun _ _ => rfl) s a l) _ _ _ _ _

theorem State.workStatus_svc (s : State) (f n i st : Nat) : (s.workStatus f n i st).svc = s.svc := s.writeV_svc _ _ _

theorem State.flushWork_svc (s : State) (f n k i : Nat) : (s.flushWork f n k i).svc = s.svc := by
  induction k generalizing s i with
  | zero => rfl
  | succ k ih => exact (ih _ _).trans (s.workStatus_svc _ _ _ _)

/-- The state in which a queue pair has just failed. -/
def State.qpError (u : State) (f n : Nat) : State := (u.modQp f n (fun x => { x with state := 2, work := [], read := x.write })).raiseSvc 2

theorem State.qpError_qp (u : State) (f n : Nat) : (u.qpError f n).qp f n = { u.qp f n with state := 2, work := [], read := (u.qp f n).write } := by
  rw [State.qpError, State.qp_congr (s := u.modQp f n (fun x => { x with state := 2, work := [], read := x.write })) (by rw [State.raiseSvc_status]), State.modQp_qp_self]

theorem State.qpError_only (u : State) (f n : Nat) : QpOnly u (u.qpError f n) f n :=
  (u.modQp_only f n _).trans ⟨fun k _ => by rw [State.qpError, State.raiseSvc_status], fun p => State.raiseSvc_port _ 2 p⟩

theorem State.qpError_status (u : State) (f n : Nat) : bit (u.qpError f n).svc.status 2 = true := by
  rw [State.qpError, State.raiseSvc_status]
  simp [bit_setBit]

theorem State.qpError_mem (u : State) (f n : Nat) : (u.qpError f n).mem = u.mem := by
  rw [State.qpError, State.raiseSvc_mem, State.modQp_mem]

/-- A queue pair that fails after its entries' statuses have been written. -/
theorem State.qpError_failed {s u : State} (f n i st : Nat) (hsvc : u.svc = s.svc)
    (hmem : u.mem = ((s.workStatus f n i st).flushWork f n (((s.qp f n).write + 2 ^ 32 - i) % 2 ^ 32 - 1) ((i + 1) % 2 ^ 32)).mem) :
    QpFailed s (u.qpError f n) f n i st := by
  have hqp := u.qpError_qp f n
  rw [State.qp_congr (congrArg Svc.qps hsvc)] at hqp
  exact ⟨congrArg Qp.state hqp, congrArg Qp.work hqp, congrArg Qp.read hqp, u.qpError_status f n, (u.qpError_mem f n).trans hmem,
    (qpOnly_of_svc hsvc f n).trans (u.qpError_only f n)⟩

/-- An entry that fails takes its queue pair to state 2 and flushes the later ones. -/
theorem State.failWork_failed (s : State) (f n i st : Nat) : QpFailed s (s.failWork f n i st) f n i st :=
  State.qpError_failed f n i st ((State.flushWork_svc _ _ _ _ _).trans (s.workStatus_svc f n i st)) rfl

/-- A failure's effects when its unit is done. -/
theorem QpFailed.unitDone {s t : State} {f n i st : Nat} (h : QpFailed s t f n i st) (k j : Nat) : QpFailed s (t.unitDone k j) f n i st := by
  obtain ⟨h1, h2, h3, h4, h5, h6, h7⟩ := h
  exact ⟨h1, h2, h3, h4, h5, h6, h7⟩

/-! The completion of the oldest entry. -/

theorem State.workSignal_none {s : State} {b : List Byte} (f : Nat) (h : bit (fieldAt b 2 2) 0 = false) : s.workSignal f b = s := by
  unfold State.workSignal
  dsimp only
  rw [if_pos (.inl (by simp [h]))]

/-- The oldest entry's completion, once its data have landed: its status is written and the entry consumed. -/
def State.workDone (s : State) (f n : Nat) (w : Work) (rest : List Work) : State :=
  ((s.workStatus f n w.ring 1).workSignal f w.raw).modQp f n (fun x => { x with work := rest, read := (x.read + 1) % 2 ^ 32 })

theorem State.workDone_effect {s v : State} {f n : Nat} {w : Work} (rest : List Work) (h : bit (fieldAt w.raw 2 2) 0 = false) (hv : v.svc = s.svc) :
    QpOnly s (v.workDone f n w rest) f n ∧ (v.workDone f n w rest).qp f n = { s.qp f n with work := rest, read := ((s.qp f n).read + 1) % 2 ^ 32 } ∧
      (v.workDone f n w rest).mem = (v.workStatus f n w.ring 1).mem := by
  have hsvc := (v.workStatus_svc f n w.ring 1).trans hv
  unfold State.workDone
  rw [State.workSignal_none f h]
  refine ⟨(qpOnly_of_svc hsvc f n).trans (State.modQp_only _ _ _ _), ?_, rfl⟩
  rw [State.modQp_qp_self, State.qp_congr (congrArg Svc.qps hsvc)]

section
variable {s : State} {f n : Nat} {w : Work} {rest : List Work} {data : List Byte} (hw : (s.qp f n).work = w :: rest) (hs : (s.qp f n).state = 1)
include hw hs

theorem rdmaWorkComplete_write (h : fieldAt w.raw 0 1 = 1) : rdmaWorkComplete f n data s = s.workDone f n w rest := by
  rw [rdmaWorkComplete, hw]
  dsimp only
  rw [if_neg (not_not.2 hs), if_pos h]
  rfl

theorem rdmaWorkComplete_read (h : fieldAt w.raw 0 1 ≠ 1) (hlen : data.length = fieldAt w.raw 4 4) (hloc : s.workLocal f w.raw = 0) :
    rdmaWorkComplete f n data s = State.workDone (s.writeV f (fieldAt w.raw 8 8) data).2 f n w rest := by
  rw [rdmaWorkComplete, hw]
  dsimp only
  rw [if_neg (not_not.2 hs), if_neg h, if_neg (not_not.2 hlen), if_neg (not_not.2 hloc)]
  rfl

end

/-! An entry that starts. -/

theorem State.startWork_effect {s : State} {f n i op : Nat} {b : List Byte} (h : s.nextWork f n = some (i, b)) (hf : s.workFault f b = 0) (hop : fieldAt b 0 1 = op) :
    s.startWork f n op = State.modQp { s with svc.reply := s.workMessage f b } f n
      (fun x => { x with work := x.work ++ [{ ring := i, raw := b, retries := 0, sentAt := s.time.mono }] }) := by
  rw [State.startWork, h]
  dsimp only
  rw [if_neg (by simp [hop, hf])]

/-- The effect of a started entry, when its unit is done. -/
theorem started {s : State} {f n i op : Nat} {b : List Byte} (h : s.nextWork f n = some (i, b)) (hf : s.workFault f b = 0) (hop : fieldAt b 0 1 = op)
    (hr : s.l2.refused = none) : ∃ t, s.unit 17 (f * 64 + n) (fun s => s.startWork f n op) = t ∧ t.svc.reply = s.workMessage f b ∧ t.mem = s.mem ∧ QpOnly s t f n ∧
      t.qp f n = { s.qp f n with work := (s.qp f n).work ++ [{ ring := i, raw := b, retries := 0, sentAt := s.time.mono }] } := by
  have heq := State.startWork_effect h hf hop
  have hgo : s.unitGoes 17 (f * 64 + n) (fun s => s.startWork f n op) :=
    State.unitGoes_of_dir_eq _ _ (by rw [heq]; rfl) (by rw [heq]; exact hr)
  refine ⟨_, rfl, ?_⟩
  rw [State.unit_of_goes hgo, heq]
  refine ⟨rfl, rfl, ⟨fun _ hk => SMap.get?_put_ne _ _ hk, fun _ => rfl⟩, ?_⟩
  rw [State.qp_congr (congrArg Svc.qps (State.unitDone_svc _ _ _)), State.modQp_qp_self]
  rfl

/-! The responder. -/

theorem State.roceNak_nakked (s : State) (f n code : Nat) : Nakked s (s.roceNak f n code) f n code := by
  have hsvc := congrArg Svc.qps (s.addNum_svc (E.svcFramesDropped + (s.qp f n).port % 2) 64 1 0)
  refine ⟨List.append_nil _, ?_, State.addNum_mem _ _ _ _ _, hsvc, State.addNum_cores _ _ _ _ _⟩
  exact State.num_setNum_self _ _ _ _

theorem Nakked.unitDone {s t : State} {f n code : Nat} (h : Nakked s t f n code) (k j : Nat) : Nakked s (t.unitDone k j) f n code := by
  obtain ⟨h1, h2, h3, h4, h5⟩ := h
  exact ⟨h1, h2, h3, h4, h5⟩

/-- An accepted request's packets advance the expected sequence and nothing else of the queue pair. -/
def State.seen (s : State) (f n k : Nat) : State :=
  s.modQp f n (fun x => { x with epsn := (x.epsn + max 1 (ceilDiv k (max 1 x.mtu))) % 2 ^ 24 })

/-- A remote write that lands. -/
theorem State.landed (s : State) (f n addr : Nat) (data : List Byte) :
    let t := (((s.writeV f addr data).2.roceReply none []).seen f n data.length).unitDone 17 (f * 64 + n)
    t.svc.reply = [0#8] ∧ t.mem = (s.writeV f addr data).2.mem ∧
      t.qp f n = { s.qp f n with epsn := ((s.qp f n).epsn + max 1 (ceilDiv data.length (max 1 (s.qp f n).mtu))) % 2 ^ 24 } ∧ QpOnly s t f n := by
  have hsvc := s.writeV_svc f addr data
  generalize (s.writeV f addr data).2 = u at hsvc
  intro t
  refine ⟨rfl, rfl, ?_, (qpOnly_of_svc hsvc f n).trans ⟨fun _ hk => SMap.get?_put_ne _ _ hk, fun _ => rfl⟩⟩
  rw [← State.qp_congr (congrArg Svc.qps hsvc)]
  exact State.modQp_qp_self (u.roceReply none []) f n _

section
variable {s : State} {f n op addr rkey len : Nat} {data : List Byte} (hn : n < 64) (hf : s.fnExists f = true)
include hn hf

theorem roceRequest_closed (h : (s.qp f n).state ≠ 1) : roceRemoteRequest f n op addr rkey len data s = s.roceNak f n 2 := by
  unfold roceRemoteRequest
  dsimp only
  rw [if_neg (by simp [hf]; omega), if_pos h]

theorem roceRequest_unknown (h : (s.qp f n).state = 1) (h1 : op ≠ 1) (h2 : op ≠ 2) : roceRemoteRequest f n op addr rkey len data s = s.roceNak f n 1 := by
  unfold roceRemoteRequest
  dsimp only
  rw [if_neg (by simp [hf]; omega), if_neg (not_not.2 h), if_pos ⟨h1, h2⟩]

theorem roceRequest_write (h : (s.qp f n).state = 1) : roceRemoteRequest f n 1 addr rkey len data s =
    if s.regionAdmits f rkey addr data.length 1 = false ∨ s.checkV f addr data.length .write ≠ 0 then s.roceNak f n 2
    else ((s.writeV f addr data).2.roceReply none []).seen f n data.length := by
  unfold roceRemoteRequest
  dsimp only
  rw [if_neg (by simp [hf]; omega), if_neg (not_not.2 h), if_neg (by decide), if_pos rfl, if_pos rfl, if_pos rfl]
  by_cases ha : s.regionAdmits f rkey addr data.length 1 = true
  · rw [ha, if_neg (by decide)]
    by_cases hcheck : s.checkV f addr data.length .write = 0
    · rw [if_neg (not_not.2 hcheck), if_neg (by simp [hcheck])]
      rfl
    · rw [if_pos hcheck, if_pos (.inr hcheck)]
  · rw [if_pos (by simpa using ha), if_pos (.inl (by simpa using ha))]

theorem roceRequest_read (h : (s.qp f n).state = 1) {d : List Byte} (ha : s.regionAdmits f rkey addr len 0 = true) (hr : s.readV f addr len = .bytes d) :
    roceRemoteRequest f n 2 addr rkey len data s = (s.roceReply none d).seen f n len := by
  unfold roceRemoteRequest
  dsimp only
  rw [if_neg (by simp [hf]; omega), if_neg (not_not.2 h), if_neg (by decide), if_neg (by decide : ¬ (2 : Nat) = 1), if_neg (by decide : ¬ (2 : Nat) = 1), ha,
    if_neg (by decide : ¬ (2 : Nat) = 1), hr]
  rfl

end

/-! A write of a queue pair's entry. -/

theorem writes_qp {s : State} {who : Origin} {f n : Nat} {b : List Byte} (hn : n < 64) (hc : s.fnCheck who f (E.svcQp + n) = 0) (hok : s.qpStatus f n b = 0) :
    ∃ t, exec (.svcQpStateWrite who f n b) s = .next t ∧
      t.qp f n = { Qp.initial with raw := overlay b 0x20 (leBytes 4 (localQpn f n)), state := fieldAt b 0 1 } ∧ t.mgt.answer = 0 ∧ t.mem = s.mem ∧ QpOnly s t f n := by
  have hsome : (entryInfo (E.svcQp + n)).isSome := entryInfo_isSome_of_row (b := E.svcQp) (n := 64) (by decide) (Nat.le_add_right _ _) (by omega)
  have heq : svcQpStateWrite who f n b s =
      (s.modQp f n (fun _ => { Qp.initial with raw := overlay b 0x20 (leBytes 4 (localQpn f n)), state := fieldAt b 0 1 })).dictLogged who (E.svcQp + n) f (s.qpBytes f n) b := by
    rw [svcQpStateWrite, if_neg (by omega)]
    dsimp only
    rw [if_neg (not_not.2 hc), if_neg (not_not.2 hok)]
  refine ⟨_, congrArg Host.Outcome.next heq, ?_, (State.dictLogged_last hsome _ _ _ _).1, by simp, (s.modQp_only f n _).trans (qpOnly_of_svc (State.dictLogged_svc _ _ _ _ _ _) f n)⟩
  rw [State.qp_congr (congrArg Svc.qps (State.dictLogged_svc _ _ _ _ _ _)), State.modQp_qp_self]

/-- Settles O50: a queue pair by its own book, memory by the writes in the function's tables. -/
theorem rdmaQueuePairs : Obligations.RdmaQueuePairs := by
  unfold Obligations.RdmaQueuePairs
  refine ⟨fun s who f n b hn hc hlen hok => ⟨fun h1 h0 hg => ?_, fun h0 => ?_, fun h1 h0 => ?_⟩, fun s f n v hn hfree hf hs hr hv => ⟨fun h1 h2 h3 => ?_, fun hbad => ?_⟩,
    fun s f n i b hnext hfault href => ⟨fun hop => ?_, fun hop => ?_⟩, fun s f n w rest data hw hs hbit hgo => ⟨fun hop => ?_, fun hop hl hloc => ?_⟩,
    fun s f n hs => ⟨fun w rest hw hgo => ?_, fun i b st hw hnext hfault hne hgo => ?_, fun w rest hw hgo => ⟨fun ht => ?_, fun ht hr => ?_, fun ht hr => ?_⟩⟩,
    fun s f n op addr rkey len data hn hf hgo => ⟨fun h => ?_, fun h h1 h2 => ?_, fun h hgo1 => ⟨fun hbad => ?_, fun ha hck => ?_⟩, fun h hgo2 d ha hrd => ?_⟩,
    fun s f n hn hs => ?_⟩
  · have hok : s.qpStatus f n b = 0 := by
      unfold State.qpStatus
      rw [if_neg (by simp [hlen, hok, h1]), if_neg (by simp [h0, hg])]
    obtain ⟨t, ht, hqp, hans, hmem, honly⟩ := writes_qp hn hc hok
    exact ⟨t, ht, by rw [hqp]; exact h1, by rw [hqp]; rfl, by rw [hqp]; rfl, by rw [hqp]; rfl, by rw [hqp], hans, hmem, honly⟩
  · have hok : s.qpStatus f n b = 0 := by
      unfold State.qpStatus
      rw [if_neg (by simp [hlen, hok, h0]), if_neg (by simp [h0])]
    obtain ⟨t, ht, hqp, hans, hmem, honly⟩ := writes_qp hn hc hok
    exact ⟨t, ht, by rw [hqp]; exact h0, by rw [hqp]; rfl, hans, hmem, honly⟩
  · have hbad : s.qpStatus f n b = 5 := by
      unfold State.qpStatus
      rw [if_neg (by simp [hlen, hok, h1]), if_pos ⟨h1, .inl h0⟩]
    refine congrArg Host.Outcome.next ?_
    rw [svcQpStateWrite, if_neg (by omega)]
    dsimp only
    rw [if_neg (not_not.2 hc), hbad, if_pos (by decide)]
  · have hgo : exec (.svcQpDoorbell f n v) s = .next (svcQpDoorbell f n v s) := congrArg Host.Outcome.next (State.inOrder_of_free hfree)
    refine changed_qp (f := f) (n := n) (g := fun x => { x with write := v }) hgo ?_
    rw [svcQpDoorbell, Nat.mod_eq_of_lt hv, if_neg (by simp [hf, hs, hr]; omega), if_pos ⟨h1, h2, h3⟩]
  · refine congrArg Host.Outcome.next ((State.inOrder_of_free hfree).trans ?_)
    rw [svcQpDoorbell, Nat.mod_eq_of_lt hv, if_neg (by simp [hf, hs, hr]; omega), if_neg (by omega)]
  · obtain ⟨t, ht, hrest⟩ := started hnext hfault hop href
    exact ⟨t, congrArg Host.Outcome.next ht, hrest⟩
  · obtain ⟨t, ht, hrest⟩ := started hnext hfault hop href
    exact ⟨t, congrArg Host.Outcome.next ht, hrest⟩
  · obtain ⟨honly, hqp, hmem⟩ := State.workDone_effect rest hbit (rfl : s.svc = s.svc)
    rw [← rdmaWorkComplete_write (data := data) hw hs hop] at honly hqp hmem
    exact ⟨_, congrArg Host.Outcome.next (State.unit_of_goes hgo), honly, hqp, hmem⟩
  · obtain ⟨honly, hqp, hmem⟩ := State.workDone_effect rest hbit (s.writeV_svc f (fieldAt w.raw 8 8) data)
    rw [← rdmaWorkComplete_read hw hs hop hl hloc] at honly hqp hmem
    exact ⟨_, congrArg Host.Outcome.next (State.unit_of_goes hgo), honly, hqp, hmem⟩
  · have heq : rdmaWorkFail f n 2 s = s.failWork f n w.ring 2 := by
      rw [rdmaWorkFail, if_neg (not_not.2 hs), if_pos rfl, hw]
    exact ⟨_, congrArg Host.Outcome.next (State.unit_of_goes hgo), by rw [heq]; exact (s.failWork_failed f n w.ring 2).unitDone _ _⟩
  · have hne2 : st ≠ 2 := by
      rw [← hfault]
      unfold State.workFault
      split_ifs <;> decide
    have hready : (s.qp f n).next ≠ (s.qp f n).write := by
      intro h
      rw [State.nextWork] at hnext
      rw [if_pos (.inr h)] at hnext
      cases hnext
    have heq : rdmaWorkFail f n st s = s.failWork f n i st := by
      rw [rdmaWorkFail, if_neg (not_not.2 hs), if_neg hne2, if_neg (by simp [hw, hready]), hnext]
      exact if_pos ⟨hfault, hne⟩
    exact ⟨_, congrArg Host.Outcome.next (State.unit_of_goes hgo), by rw [heq]; exact (s.failWork_failed f n i st).unitDone _ _⟩
  · have heq : rdmaAckTimeout f n s = s := by
      rw [rdmaAckTimeout, hw]
      exact if_pos (.inr ht)
    exact congrArg Host.Outcome.next ((State.unit_of_goes hgo).trans (by rw [heq]))
  · have heq : rdmaAckTimeout f n s = s.modQp f n (fun x => { x with
        work := { w with retries := w.retries + 1, sentAt := s.time.mono } :: rest.map (fun r => { r with sentAt := s.time.mono }) }) := by
      rw [rdmaAckTimeout, hw]
      exact (if_neg (by simp [hs, ht])).trans (if_pos hr)
    have hqp := s.modQp_qp_self f n (fun x => { x with
      work := { w with retries := w.retries + 1, sentAt := s.time.mono } :: rest.map (fun r => { r with sentAt := s.time.mono }) })
    rw [← heq] at hqp
    have honly := s.modQp_only f n (fun x => { x with
      work := { w with retries := w.retries + 1, sentAt := s.time.mono } :: rest.map (fun r => { r with sentAt := s.time.mono }) })
    rw [← heq] at honly
    have hmem : (rdmaAckTimeout f n s).mem = s.mem := by rw [heq, State.modQp_mem]
    refine ⟨_, congrArg Host.Outcome.next (State.unit_of_goes hgo), ?_⟩
    generalize rdmaAckTimeout f n s = u at hqp honly hmem
    have hdone : (u.unitDone 17 (f * 64 + n)).qp f n = u.qp f n := rfl
    rw [hdone, hqp]
    refine ⟨hs, rfl, rfl, ?_, hmem, honly⟩
    rw [hw]
    simp
  · have heq : rdmaAckTimeout f n s = s.failWork f n w.ring 3 := by
      rw [rdmaAckTimeout, hw]
      exact (if_neg (by simp [hs, ht])).trans (if_neg (by omega))
    exact ⟨_, congrArg Host.Outcome.next (State.unit_of_goes hgo), by rw [heq]; exact (s.failWork_failed f n w.ring 3).unitDone _ _⟩
  · exact ⟨_, congrArg Host.Outcome.next (State.unit_of_goes hgo), by rw [roceRequest_closed hn hf h]; exact (s.roceNak_nakked f n 2).unitDone _ _⟩
  · exact ⟨_, congrArg Host.Outcome.next (State.unit_of_goes hgo), by rw [roceRequest_unknown hn hf h h1 h2]; exact (s.roceNak_nakked f n 1).unitDone _ _⟩
  · refine ⟨_, congrArg Host.Outcome.next (State.unit_of_goes hgo1), ?_⟩
    rw [roceRequest_write hn hf h, if_pos hbad]
    exact (s.roceNak_nakked f n 2).unitDone _ _
  · refine ⟨_, congrArg Host.Outcome.next (State.unit_of_goes hgo1), ?_⟩
    rw [roceRequest_write hn hf h, if_neg (by simp [ha, hck])]
    obtain ⟨hreply, hmem, hqp, honly⟩ := s.landed f n addr data
    exact ⟨hreply, hmem, by rw [hqp]; exact h, by rw [hqp], honly⟩
  · refine ⟨_, congrArg Host.Outcome.next (State.unit_of_goes hgo2), ?_⟩
    rw [roceRequest_read hn hf h ha hrd]
    exact ⟨rfl, rfl, fun _ hk => SMap.get?_put_ne _ _ hk, fun _ => rfl⟩
  · have heq : roceCnpReceive f n s = s.modQp f n (fun x => { x with rate := s.qpRate f n / 2, cnpAt := some s.time.mono }) := if_neg (by omega)
    exact changed_qp rfl heq

end Sys2Proof.Machine
end

section
/-! What the moves of lane groups and the drop of a link leave of the state. -/

namespace Sys2Proof.Machine

@[simp] theorem foldl_opt_lasers {α : Type} {g : State → α → State} (l : List α) (s : State) (hg : ∀ u a, (g u a).opt.lasers = u.opt.lasers) : (l.foldl g s).opt.lasers = s.opt.lasers :=
  foldl_keeps (fun s => s.opt.lasers) hg l s
theorem ite_opt_lasers (c : Prop) [Decidable c] (s t : State) : (if c then s else t).opt.lasers = if c then s.opt.lasers else t.opt.lasers :=
  apply_ite (fun s : State => s.opt.lasers) _ _ _
@[simp] theorem foldl_opt_engines {α : Type} {g : State → α → State} (l : List α) (s : State) (hg : ∀ u a, (g u a).opt.engines = u.opt.engines) : (l.foldl g s).opt.engines = s.opt.engines :=
  foldl_keeps (fun s => s.opt.engines) hg l s
theorem ite_opt_engines (c : Prop) [Decidable c] (s t : State) : (if c then s else t).opt.engines = if c then s.opt.engines else t.opt.engines :=
  apply_ite (fun s : State => s.opt.engines) _ _ _
@[simp] theorem foldl_opt_moves {α : Type} {g : State → α → State} (l : List α) (s : State) (hg : ∀ u a, (g u a).opt.moves = u.opt.moves) : (l.foldl g s).opt.moves = s.opt.moves :=
  foldl_keeps (fun s => s.opt.moves) hg l s
theorem ite_opt_moves (c : Prop) [Decidable c] (s t : State) : (if c then s else t).opt.moves = if c then s.opt.moves else t.opt.moves :=
  apply_ite (fun s : State => s.opt.moves) _ _ _
@[simp] theorem State.logInternal_opt (s : State) (type : Nat) (old new : List Byte) : (s.logInternal type old new).opt = s.opt := by simp [State.logInternal]
@[simp] theorem State.logLaser_opt (s : State) (j flags : Nat) : (s.logLaser j flags).opt = s.opt := by simp [State.logLaser]
@[simp] theorem State.logLaser_mem (s : State) (j flags : Nat) : (s.logLaser j flags).mem = s.mem := by simp [State.logLaser]
@[simp] theorem State.logLaser_cores (s : State) (j flags : Nat) : (s.logLaser j flags).cores = s.cores := by simp [State.logLaser]
@[simp] theorem State.logLaser_fab (s : State) (j flags : Nat) : (s.logLaser j flags).fab = s.fab := by simp [State.logLaser]
@[simp] theorem foldl_time_mono {α : Type} {g : State → α → State} (l : List α) (s : State) (hg : ∀ u a, (g u a).time.mono = u.time.mono) : (l.foldl g s).time.mono = s.time.mono :=
  foldl_keeps (fun s => s.time.mono) hg l s
theorem ite_time_mono (c : Prop) [Decidable c] (s t : State) : (if c then s else t).time.mono = if c then s.time.mono else t.time.mono :=
  apply_ite (fun s : State => s.time.mono) _ _ _
@[simp] theorem State.appendLog_time_mono (s : State) (type iface fn index sub target : Nat) (old new : List Byte) : (s.appendLog type iface fn index sub target old new).time.mono = s.time.mono :=
  by simp [State.appendLog, ite_time_mono]
@[simp] theorem State.logInternal_time_mono (s : State) (type : Nat) (old new : List Byte) : (s.logInternal type old new).time.mono = s.time.mono :=
  by simp [State.logInternal]
@[simp] theorem State.logLaser_time_mono (s : State) (j flags : Nat) : (s.logLaser j flags).time.mono = s.time.mono := by simp [State.logLaser]
@[simp] theorem State.logLaser_mgt_num (s : State) (j flags : Nat) : (s.logLaser j flags).mgt.num = s.mgt.num := by simp [State.logLaser]
@[simp] theorem State.faultRecord_time (s : State) (cls unit detail interruption contexts epoch : Nat) : (s.faultRecord cls unit detail interruption contexts epoch).time = s.time :=
  by simp [State.faultRecord, ite_time]
@[simp] theorem State.emitRec_opt (s : State) (source : Nat) (r : TrcRec) : (s.emitRec source r).opt = s.opt := by simp [State.emitRec, ite_opt]
@[simp] theorem State.trace_opt (s : State) (srcBit kind domain unit queue layer operator aux detail : Nat) : (s.trace srcBit kind domain unit queue layer operator aux detail).opt = s.opt :=
  by simp [State.trace]
@[simp] theorem State.traceLink_opt (s : State) (l state peer : Nat) : (s.traceLink l state peer).opt = s.opt := by simp [State.traceLink]
@[simp] theorem State.pushFab_opt (s : State) (rec : Nat) : (s.pushFab rec).opt = s.opt := by simp [State.pushFab, ite_opt]
@[simp] theorem State.loseRoutes_opt (s : State) : s.loseRoutes.opt = s.opt := by simp [State.loseRoutes, ite_opt]
@[simp] theorem State.countAt_opt (s : State) (valOff sel n : Nat) : (s.countAt valOff sel n).opt = s.opt := by simp [State.countAt, ite_opt]
@[simp] theorem State.countEvent_opt (s : State) (kind unit event n queue fmt : Nat) : (s.countEvent kind unit event n queue fmt).opt = s.opt :=
  by simp [State.countEvent, ite_opt]
@[simp] theorem State.countSent_opt (s : State) (link : Nat) (via : Option Nat) (len queue : Nat) : (s.countSent link via len queue).opt = s.opt :=
  by simp [State.countSent, ite_opt]
@[simp] theorem State.resendFrom_opt (s : State) (l : Nat) : (s.resendFrom l).opt = s.opt := by
  unfold State.resendFrom
  exact foldl_keeps (fun s => s.opt) (fun _ _ => by (repeat' split) <;> simp) _ _
@[simp] theorem State.dropLink_opt (s : State) (l : Nat) : (s.dropLink l).opt = s.opt := by simp [State.dropLink, ite_opt]
@[simp] theorem State.traceLink_mem (s : State) (l state peer : Nat) : (s.traceLink l state peer).mem = s.mem := by simp [State.traceLink]
@[simp] theorem State.pushFab_mem (s : State) (rec : Nat) : (s.pushFab rec).mem = s.mem := by simp [State.pushFab, ite_mem]
@[simp] theorem State.loseRoutes_mem (s : State) : s.loseRoutes.mem = s.mem := by simp [State.loseRoutes, ite_mem]
@[simp] theorem State.resendFrom_mem (s : State) (l : Nat) : (s.resendFrom l).mem = s.mem := by
  unfold State.resendFrom
  exact foldl_keeps (fun s => s.mem) (fun _ _ => by (repeat' split) <;> simp) _ _
@[simp] theorem State.dropLink_mem (s : State) (l : Nat) : (s.dropLink l).mem = s.mem := by simp [State.dropLink, ite_mem]
@[simp] theorem State.traceLink_cores (s : State) (l state peer : Nat) : (s.traceLink l state peer).cores = s.cores := by simp [State.traceLink]
@[simp] theorem State.pushFab_cores (s : State) (rec : Nat) : (s.pushFab rec).cores = s.cores := by simp [State.pushFab, ite_cores]
@[simp] theorem State.loseRoutes_cores (s : State) : s.loseRoutes.cores = s.cores := by simp [State.loseRoutes, ite_cores]
@[simp] theorem State.resendFrom_cores (s : State) (l : Nat) : (s.resendFrom l).cores = s.cores := by
  unfold State.resendFrom
  exact foldl_keeps (fun s => s.cores) (fun _ _ => by (repeat' split) <;> simp) _ _
@[simp] theorem State.dropLink_cores (s : State) (l : Nat) : (s.dropLink l).cores = s.cores := by simp [State.dropLink, ite_cores]
@[simp] theorem State.emitRec_time_mono (s : State) (source : Nat) (r : TrcRec) : (s.emitRec source r).time.mono = s.time.mono := by simp [State.emitRec, ite_time_mono]
@[simp] theorem State.trace_time_mono (s : State) (srcBit kind domain unit queue layer operator aux detail : Nat) : (s.trace srcBit kind domain unit queue layer operator aux detail).time.mono = s.time.mono :=
  by simp [State.trace]
@[simp] theorem State.traceLink_time_mono (s : State) (l state peer : Nat) : (s.traceLink l state peer).time.mono = s.time.mono := by simp [State.traceLink]
@[simp] theorem State.pushFab_time (s : State) (rec : Nat) : (s.pushFab rec).time = s.time := by simp [State.pushFab, ite_time]
@[simp] theorem State.loseRoutes_time (s : State) : s.loseRoutes.time = s.time := by simp [State.loseRoutes, ite_time]
@[simp] theorem State.countSent_time (s : State) (link : Nat) (via : Option Nat) (len queue : Nat) : (s.countSent link via len queue).time = s.time :=
  by simp [State.countSent, ite_time]
@[simp] theorem State.resendFrom_time (s : State) (l : Nat) : (s.resendFrom l).time = s.time := by
  unfold State.resendFrom
  exact foldl_keeps (fun s => s.time) (fun _ _ => by (repeat' split) <;> simp) _ _
@[simp] theorem State.dropLink_time_mono (s : State) (l : Nat) : (s.dropLink l).time.mono = s.time.mono := by simp [State.dropLink, ite_time_mono]
@[simp] theorem State.dictLogged_time_mono (s : State) (w : Origin) (a target : Nat) (old new : List Byte) : (s.dictLogged w a target old new).time.mono = s.time.mono := by
  unfold State.dictLogged
  (repeat' split) <;> simp
@[simp] theorem State.setBlob_mgt_num (s : State) (a : Nat) (v : List Byte) (target : Nat) : (s.setBlob a v target).mgt.num = s.mgt.num := rfl
@[simp] theorem State.modOe_opt_lasers (s : State) (e : Nat) (g : Oe → Oe) : (s.modOe e g).opt.lasers = s.opt.lasers := rfl
@[simp] theorem State.setGroup_opt_lasers (s : State) (eg v : Nat) (moved : Option (Nat × Option Nat)) : (s.setGroup eg v moved).opt.lasers = s.opt.lasers := rfl
@[simp] theorem State.modOe_opt_moves (s : State) (e : Nat) (g : Oe → Oe) : (s.modOe e g).opt.moves = s.opt.moves := rfl
@[simp] theorem State.setGroup_opt_moves (s : State) (eg v : Nat) (moved : Option (Nat × Option Nat)) : (s.setGroup eg v moved).opt.moves = s.opt.moves := rfl
@[simp] theorem foldl_opt_status {α : Type} {g : State → α → State} (l : List α) (s : State) (hg : ∀ u a, (g u a).opt.status = u.opt.status) : (l.foldl g s).opt.status = s.opt.status :=
  foldl_keeps (fun s => s.opt.status) hg l s
theorem ite_opt_status (c : Prop) [Decidable c] (s t : State) : (if c then s else t).opt.status = if c then s.opt.status else t.opt.status :=
  apply_ite (fun s : State => s.opt.status) _ _ _
@[simp] theorem State.modOe_opt_status (s : State) (e : Nat) (g : Oe → Oe) : (s.modOe e g).opt.status = s.opt.status := rfl
@[simp] theorem State.setGroup_opt_status (s : State) (eg v : Nat) (moved : Option (Nat × Option Nat)) : (s.setGroup eg v moved).opt.status = s.opt.status := rfl
@[simp] theorem State.setGroup_time (s : State) (eg v : Nat) (moved : Option (Nat × Option Nat)) : (s.setGroup eg v moved).time = s.time := rfl
@[simp] theorem State.setGroup_mem (s : State) (eg v : Nat) (moved : Option (Nat × Option Nat)) : (s.setGroup eg v moved).mem = s.mem := rfl
@[simp] theorem State.setGroup_cores (s : State) (eg v : Nat) (moved : Option (Nat × Option Nat)) : (s.setGroup eg v moved).cores = s.cores := rfl
@[simp] theorem State.setGroup_fab (s : State) (eg v : Nat) (moved : Option (Nat × Option Nat)) : (s.setGroup eg v moved).fab = s.fab := rfl
@[simp] theorem State.setGroup_mgt (s : State) (eg v : Nat) (moved : Option (Nat × Option Nat)) : (s.setGroup eg v moved).mgt = s.mgt := rfl
@[simp] theorem State.moveGroup_opt_lasers (s : State) (eg m : Nat) (lost : Option Nat) : (s.moveGroup eg m lost).opt.lasers = s.opt.lasers := by simp [State.moveGroup]
@[simp] theorem State.moveGroup_opt_moves (s : State) (eg m : Nat) (lost : Option Nat) : (s.moveGroup eg m lost).opt.moves = s.opt.moves := by simp [State.moveGroup]
@[simp] theorem State.moveGroup_time (s : State) (eg m : Nat) (lost : Option Nat) : (s.moveGroup eg m lost).time = s.time := by simp [State.moveGroup]
@[simp] theorem State.moveGroup_mem (s : State) (eg m : Nat) (lost : Option Nat) : (s.moveGroup eg m lost).mem = s.mem := by simp [State.moveGroup]
@[simp] theorem State.moveGroup_cores (s : State) (eg m : Nat) (lost : Option Nat) : (s.moveGroup eg m lost).cores = s.cores := by simp [State.moveGroup]
@[simp] theorem State.moveGroup_fab (s : State) (eg m : Nat) (lost : Option Nat) : (s.moveGroup eg m lost).fab = s.fab := by simp [State.moveGroup]
@[simp] theorem State.moveGroup_mgt (s : State) (eg m : Nat) (lost : Option Nat) : (s.moveGroup eg m lost).mgt = s.mgt := by simp [State.moveGroup]
@[simp] theorem State.darkGroup_opt_lasers (s : State) (eg : Nat) : (s.darkGroup eg).opt.lasers = s.opt.lasers := by simp [State.darkGroup]
@[simp] theorem State.darkGroup_opt_moves (s : State) (eg : Nat) : (s.darkGroup eg).opt.moves = s.opt.moves := by simp [State.darkGroup]
@[simp] theorem State.darkGroup_opt_status (s : State) (eg : Nat) : (s.darkGroup eg).opt.status = s.opt.status := by simp [State.darkGroup]
@[simp] theorem State.darkGroup_time_mono (s : State) (eg : Nat) : (s.darkGroup eg).time.mono = s.time.mono := by simp [State.darkGroup]
@[simp] theorem State.darkGroup_mem (s : State) (eg : Nat) : (s.darkGroup eg).mem = s.mem := by simp [State.darkGroup]
@[simp] theorem State.darkGroup_cores (s : State) (eg : Nat) : (s.darkGroup eg).cores = s.cores := by simp [State.darkGroup]
@[simp] theorem State.rehome_opt_lasers (s : State) (eg j : Nat) (lost : Option Nat) : (s.rehome eg j lost).opt.lasers = s.opt.lasers := by
  unfold State.rehome
  split <;> simp
@[simp] theorem State.rehome_opt_moves (s : State) (eg j : Nat) (lost : Option Nat) : (s.rehome eg j lost).opt.moves = s.opt.moves := by
  unfold State.rehome
  split <;> simp
@[simp] theorem State.rehome_time_mono (s : State) (eg j : Nat) (lost : Option Nat) : (s.rehome eg j lost).time.mono = s.time.mono := by
  unfold State.rehome
  split <;> simp
@[simp] theorem State.rehome_mem (s : State) (eg j : Nat) (lost : Option Nat) : (s.rehome eg j lost).mem = s.mem := by
  unfold State.rehome
  split <;> simp
@[simp] theorem State.rehome_cores (s : State) (eg j : Nat) (lost : Option Nat) : (s.rehome eg j lost).cores = s.cores := by
  unfold State.rehome
  split <;> simp
@[simp] theorem State.failLaser_mem (s : State) (j : Nat) : (s.failLaser j).mem = s.mem := by simp [State.failLaser, ite_mem]
@[simp] theorem State.failLaser_cores (s : State) (j : Nat) : (s.failLaser j).cores = s.cores := by simp [State.failLaser, ite_cores]
@[simp] theorem State.planMoves_opt_lasers (s : State) (j : Nat) : (s.planMoves j).opt.lasers = s.opt.lasers := rfl
@[simp] theorem State.planMoves_opt_engines (s : State) (j : Nat) : (s.planMoves j).opt.engines = s.opt.engines := rfl
@[simp] theorem State.planMoves_opt_status (s : State) (j : Nat) : (s.planMoves j).opt.status = s.opt.status := rfl
@[simp] theorem State.planMoves_mgt (s : State) (j : Nat) : (s.planMoves j).mgt = s.mgt := rfl
@[simp] theorem State.planMoves_time (s : State) (j : Nat) : (s.planMoves j).time = s.time := rfl
@[simp] theorem State.planMoves_mem (s : State) (j : Nat) : (s.planMoves j).mem = s.mem := rfl
@[simp] theorem State.planMoves_cores (s : State) (j : Nat) : (s.planMoves j).cores = s.cores := rfl
@[simp] theorem State.modLaser_opt_engines (s : State) (l : Nat) (g : Laser → Laser) : (s.modLaser l g).opt.engines = s.opt.engines := rfl
@[simp] theorem State.calibrate_opt_engines (s : State) (j : Nat) : (s.calibrate j).opt.engines = s.opt.engines := rfl
@[simp] theorem State.modLaser_opt_status (s : State) (l : Nat) (g : Laser → Laser) : (s.modLaser l g).opt.status = s.opt.status := rfl
@[simp] theorem State.calibrate_opt_status (s : State) (j : Nat) : (s.calibrate j).opt.status = s.opt.status := rfl
@[simp] theorem State.modLaser_opt_moves (s : State) (l : Nat) (g : Laser → Laser) : (s.modLaser l g).opt.moves = s.opt.moves := rfl
@[simp] theorem State.calibrate_opt_moves (s : State) (j : Nat) : (s.calibrate j).opt.moves = s.opt.moves := rfl
@[simp] theorem State.calibrate_mgt (s : State) (j : Nat) : (s.calibrate j).mgt = s.mgt := rfl
@[simp] theorem State.calibrate_mem (s : State) (j : Nat) : (s.calibrate j).mem = s.mem := rfl
@[simp] theorem State.calibrate_cores (s : State) (j : Nat) : (s.calibrate j).cores = s.cores := rfl
@[simp] theorem State.drained_opt_engines (s : State) (j : Nat) : (s.drained j).opt.engines = s.opt.engines := by simp [State.drained, ite_opt_engines]
@[simp] theorem State.drained_mgt (s : State) (j : Nat) : (s.drained j).mgt = s.mgt := by simp [State.drained, ite_mgt]
@[simp] theorem State.drained_mem (s : State) (j : Nat) : (s.drained j).mem = s.mem := by simp [State.drained, ite_mem]
@[simp] theorem State.drained_cores (s : State) (j : Nat) : (s.drained j).cores = s.cores := by simp [State.drained, ite_cores]
@[simp] theorem State.drained_opt_moves (s : State) (j : Nat) : (s.drained j).opt.moves = s.opt.moves := by simp [State.drained, ite_opt_moves]
@[simp] theorem State.laserReady_mgt (s : State) (j : Nat) : (s.laserReady j).mgt = s.mgt := by simp -implicitDefEqProofs [State.laserReady, ite_mgt]
@[simp] theorem State.laserReady_mem (s : State) (j : Nat) : (s.laserReady j).mem = s.mem := by simp -implicitDefEqProofs [State.laserReady, ite_mem]
@[simp] theorem State.laserReady_cores (s : State) (j : Nat) : (s.laserReady j).cores = s.cores := by simp -implicitDefEqProofs [State.laserReady, ite_cores]
@[simp] theorem State.laserReady_opt_status (s : State) (j : Nat) : (s.laserReady j).opt.status = s.opt.status :=
  by simp -implicitDefEqProofs [State.laserReady, ite_opt_status]
@[simp] theorem State.traceLink_fab (s : State) (l state peer : Nat) : (s.traceLink l state peer).fab = s.fab := by simp [State.traceLink]
@[simp] theorem State.traceLink_mgt (s : State) (l state peer : Nat) : (s.traceLink l state peer).mgt = s.mgt := by simp [State.traceLink]
@[simp] theorem State.pushFab_fab_links (s : State) (rec : Nat) : (s.pushFab rec).fab.links = s.fab.links := by simp [State.pushFab, ite_fab_links]
@[simp] theorem State.pushFab_mgt_num (s : State) (rec : Nat) : (s.pushFab rec).mgt.num = s.mgt.num := by simp [State.pushFab, ite_mgt_num]
@[simp] theorem State.countSent_fab (s : State) (link : Nat) (via : Option Nat) (len queue : Nat) : (s.countSent link via len queue).fab = s.fab :=
  by simp [State.countSent, ite_fab]
@[simp] theorem State.resendFrom_fab_links (s : State) (l : Nat) : (s.resendFrom l).fab.links = s.fab.links := by
  unfold State.resendFrom
  exact foldl_keeps (fun s => s.fab.links) (fun _ _ => by (repeat' split) <;> simp) _ _
@[simp] theorem State.countSent_mgt (s : State) (link : Nat) (via : Option Nat) (len queue : Nat) : (s.countSent link via len queue).mgt = s.mgt :=
  by simp [State.countSent, ite_mgt]
@[simp] theorem State.resendFrom_mgt (s : State) (l : Nat) : (s.resendFrom l).mgt = s.mgt := by
  unfold State.resendFrom
  exact foldl_keeps (fun s => s.mgt) (fun _ _ => by (repeat' split) <;> simp) _ _
@[simp] theorem State.loseRoutes_fab_links (s : State) : s.loseRoutes.fab.links = s.fab.links := by simp [State.loseRoutes, ite_fab_links]
@[simp] theorem State.loseRoutes_mgt (s : State) : s.loseRoutes.mgt = s.mgt := by simp [State.loseRoutes, ite_mgt]

end Sys2Proof.Machine
end

section
/-! Settling O49: service, insertion, calibration, telemetry and life of the laser modules. -/

namespace Sys2Proof.Machine

/-! Modules, engines and the groups that they serve. -/

theorem State.laser_congr {s t : State} (h : t.opt.lasers = s.opt.lasers) (k : Nat) : t.laser k = s.laser k := by rw [State.laser, State.laser, h]

theorem State.oe_congr {s t : State} (h : t.opt.engines = s.opt.engines) (k : Nat) : t.oe k = s.oe k := by rw [State.oe, State.oe, h]

/-- The server of a group reads its engine and the states of the modules. -/
theorem State.server_congr {s t : State} {e : Nat} (hl : ∀ k, (t.laser k).state = (s.laser k).state) (ho : t.oe e = s.oe e) (g : Nat) : t.server e g = s.server e g := by
  simp only [State.server, hl, ho]

theorem State.served_congr {s t : State} (hl : ∀ k, (t.laser k).state = (s.laser k).state) (ho : ∀ e, t.oe e = s.oe e) (j : Nat) : t.served j = s.served j :=
  List.filter_congr fun eg _ => by rw [State.serverOfGroup, State.serverOfGroup, State.server_congr hl (ho _)]

theorem group_div {e g : Nat} (hg : g < 2) : (2 * e + g) / 2 = e := by omega

theorem group_mod {e g : Nat} (hg : g < 2) : (2 * e + g) % 2 = g := by omega

theorem mem_laneGroups {e g : Nat} (he : e < 8) (hg : g < 2) : 2 * e + g ∈ laneGroups := List.mem_range.mpr (by omega)

theorem State.serverOfGroup_eq (s : State) {e g : Nat} (hg : g < 2) : s.serverOfGroup (2 * e + g) = s.server e g := by
  rw [State.serverOfGroup, group_div hg, group_mod hg]

theorem State.mem_served (s : State) {e g j : Nat} (he : e < 8) (hg : g < 2) : 2 * e + g ∈ s.served j ↔ s.server e g = some j := by
  simp [State.served, mem_laneGroups he hg, s.serverOfGroup_eq hg]

theorem standbyModule_ne {e g : Nat} (hg : g < 2) : standbyModule e g ≠ homeModule e g := by
  rw [standbyModule, homeModule]
  omega

theorem groupModules_eq {e g : Nat} (hg : g < 2) : groupModules (2 * e + g) = [homeModule e g, standbyModule e g] := by
  rw [groupModules, group_div hg, group_mod hg]

/-- The module that a planned move goes to. -/
theorem plannedTarget {e g : Nat} (hg : g < 2) (j : Nat) :
    ((groupModules (2 * e + g)).filter (fun m => !decide (m = j))).headD j = otherModule e g j := by
  rw [groupModules_eq hg, otherModule]
  by_cases h : j = homeModule e g
  · simp [h, standbyModule_ne hg]
  · simp [h, Ne.symm h]

theorem State.mem_planMoves (s : State) {e g j : Nat} (he : e < 8) (hg : g < 2) (h : s.server e g = some j) :
    (2 * e + g, otherModule e g j) ∈ (s.planMoves j).opt.moves :=
  List.mem_append_right _ (List.mem_map.mpr ⟨2 * e + g, (s.mem_served he hg).mpr h, by rw [plannedTarget hg]⟩)

/-! What a step at one bay leaves. -/

theorem BayOnly.trans {s t u : State} {j : Nat} (h : BayOnly s t j) (h' : BayOnly t u j) : BayOnly s u j :=
  ⟨fun k hk => (h'.1 k hk).trans (h.1 k hk), fun e => (h'.2.1 e).trans (h.2.1 e), h'.2.2.1.trans h.2.2.1, h'.2.2.2.trans h.2.2.2⟩

theorem bayOnly_modLaser (s : State) (j : Nat) (f : Laser → Laser) : BayOnly s (s.modLaser j f) j :=
  ⟨fun _ hk => State.modLaser_laser_ne _ _ _ hk, fun _ => rfl, rfl, rfl⟩

theorem bayOnly_of_opt {s t : State} (hl : t.opt.lasers = s.opt.lasers) (he : t.opt.engines = s.opt.engines) (hm : t.mem = s.mem) (hc : t.cores = s.cores) (j : Nat) :
    BayOnly s t j :=
  ⟨fun k _ => State.laser_congr hl k, fun e => State.oe_congr he e, hm, hc⟩

theorem bayOnly_raiseOpt (s : State) (n j : Nat) : BayOnly s (s.raiseOpt n) j := bayOnly_of_opt (by simp) (by simp) (by simp) (by simp) j

theorem bayOnly_planMoves (s : State) (i j : Nat) : BayOnly s (s.planMoves i) j := bayOnly_of_opt rfl rfl rfl rfl j

theorem bayOnly_logLaser (s : State) (i flags j : Nat) : BayOnly s (s.logLaser i flags) j := bayOnly_of_opt (by simp) (by simp) (by simp) (by simp) j

theorem bayOnly_dictLogged (s : State) (who : Origin) (a : Nat) (old new : List Byte) (j : Nat) : BayOnly s (s.dictLogged who a 0 old new) j :=
  bayOnly_of_opt (by simp) (by simp) (by simp) (by simp) j

theorem State.raiseOpt_laser (s : State) (n k : Nat) : (s.raiseOpt n).laser k = s.laser k := State.laser_congr (by simp) k

theorem bit_raiseOpt (s : State) (n : Nat) : bit (s.raiseOpt n).opt.status n = true := by simp [bit_setBit]

theorem State.calibrate_laser (s : State) (j : Nat) :
    (s.calibrate j).laser j = { s.laser j with state := 1, epoch := ((s.laser j).epoch + 1) % 2 ^ 32, draining := false, recal := false } :=
  State.modLaser_laser_self s j _

/-! A module that drains. -/

theorem State.drained_ready {s : State} {j : Nat} (h : s.served j ≠ []) : s.drained j = s :=
  if_pos (Or.inr (by simpa [List.isEmpty_iff] using h))

theorem State.drained_recal {s : State} {j : Nat} (hs : (s.laser j).state = 2) (h : s.served j = []) (hr : (s.laser j).recal = true) : s.drained j = s.calibrate j := by
  simp [State.drained, hs, h, hr]

theorem State.drained_service {s : State} {j : Nat} (hs : (s.laser j).state = 2) (h : s.served j = []) (hr : (s.laser j).recal = false) (hd : (s.laser j).draining = true) :
    s.drained j = (s.modLaser j (fun y => { y with state := 3, draining := false })).raiseOpt 2 := by
  simp [State.drained, hs, h, hr, hd]

/-- A change of a module that keeps its state leaves the groups that the modules serve. -/
theorem State.served_planned (s : State) (j i : Nat) {f : Laser → Laser} (hf : ∀ x, (f x).state = x.state) : ((s.modLaser j f).planMoves j).served i = s.served i := by
  refine State.served_congr (s := s) (t := (s.modLaser j f).planMoves j) (fun k => ?_) (fun _ => rfl) i
  by_cases hk : k = j
  · subst hk
    exact (congrArg Laser.state (State.modLaser_laser_self s k f)).trans (hf _)
  · exact congrArg Laser.state (State.modLaser_laser_ne s j f hk)

theorem State.server_modLaser (s : State) (j : Nat) {f : Laser → Laser} (hf : ∀ x, (f x).state = x.state) (e g : Nat) : (s.modLaser j f).server e g = s.server e g := by
  refine State.server_congr (s := s) (t := s.modLaser j f) (fun k => ?_) rfl g
  by_cases hk : k = j
  · subst hk
    exact (congrArg Laser.state (State.modLaser_laser_self s k f)).trans (hf _)
  · exact congrArg Laser.state (State.modLaser_laser_ne s j f hk)

/-! Service (R382). -/

section
variable {s : State} {who : Origin} {j : Nat} (hj : j < 4) (hc : s.deviceCheck who (E.laserService + j) = 0)

theorem laserService_isSome {j : Nat} (hj : j < 4) : (entryInfo (E.laserService + j)).isSome := by
  interval_cases j <;> decide

/-- The state of a service that is accepted: the write is logged and pending. -/
def State.inService (s : State) (who : Origin) (j : Nat) : State :=
  (s.dictLogged who (E.laserService + j) 0 (leBytes 1 (b2n (s.laser j).service)) (leBytes 1 1)).modLaser j (fun x => { x with service := true })

theorem State.inService_laser (s : State) (who : Origin) (j : Nat) : (s.inService who j).laser j = { s.laser j with service := true } := by
  rw [State.inService, State.modLaser_laser_self, State.laser_congr (s := s) (by simp)]

theorem State.inService_bay (s : State) (who : Origin) (j : Nat) : BayOnly s (s.inService who j) j :=
  (bayOnly_dictLogged s _ _ _ _ j).trans (bayOnly_modLaser _ j _)

theorem State.inService_answer {j : Nat} (s : State) (who : Origin) (hj : j < 4) : (s.inService who j).mgt.answer = 0 :=
  (s.dictLogged_last (laserService_isSome hj) _ _ _ _).1

include hj hc

theorem laserService_accepted (h : (s.laser j).state = 2 → s.neighboursReady j = true) :
    laserService who j s =
      if (s.laser j).state = 2 then (((s.inService who j).modLaser j (fun x => { x with draining := true })).planMoves j).drained j
      else if (s.laser j).state = 4 then ((s.inService who j).modLaser j (fun x => { x with state := 3 })).raiseOpt 2 else s.inService who j := by
  have hn : ¬ ((s.laser j).state = 2 ∧ (!s.neighboursReady j) = true) := fun ⟨h2, hr⟩ => by simp [h h2] at hr
  exact (if_neg (by omega)).trans ((if_neg (not_not_intro hc)).trans (if_neg hn))

theorem refuses_service (h2 : (s.laser j).state = 2) (hn : (s.laser ((j + 3) % 4)).state ≠ 2 ∨ (s.laser ((j + 1) % 4)).state ≠ 2) : laserService who j s = s.answer 5 := by
  have hr : s.neighboursReady j = false := by
    rw [State.neighboursReady, Bool.and_eq_false_iff]
    exact hn.imp (fun h => decide_eq_false h) (fun h => decide_eq_false h)
  exact (if_neg (by omega)).trans ((if_neg (not_not_intro hc)).trans (if_pos ⟨h2, by rw [hr]; rfl⟩))

theorem services_failed (h4 : (s.laser j).state = 4) :
    ∃ t, exec (.laserService who j) s = .next t ∧ t.laser j = { s.laser j with state := 3, service := true } ∧
      bit t.opt.status 2 = true ∧ t.mgt.answer = 0 ∧ BayOnly s t j := by
  have heq := laserService_accepted hj hc (fun h2 => absurd (h2.symm.trans h4) (by decide))
  rw [if_neg (by omega), if_pos h4] at heq
  refine ⟨_, congrArg Host.Outcome.next heq, ?_, bit_raiseOpt _ 2, ?_, ((s.inService_bay who j).trans (bayOnly_modLaser _ j _)).trans (bayOnly_raiseOpt _ 2 j)⟩
  · rw [State.raiseOpt_laser, State.modLaser_laser_self, s.inService_laser]
  · rw [State.raiseOpt_mgt]
    exact s.inService_answer who hj

theorem services_absent (h0 : (s.laser j).state = 0) :
    ∃ t, exec (.laserService who j) s = .next t ∧ t.laser j = { s.laser j with service := true } ∧ t.mgt.answer = 0 ∧ BayOnly s t j := by
  have heq := laserService_accepted hj hc (fun h2 => absurd (h2.symm.trans h0) (by decide))
  rw [if_neg (by omega), if_neg (by omega)] at heq
  exact ⟨_, congrArg Host.Outcome.next heq, s.inService_laser who j, s.inService_answer who hj, s.inService_bay who j⟩

theorem services_ready (h2 : (s.laser j).state = 2) (hr : (s.laser j).recal = false) (ha : (s.laser ((j + 3) % 4)).state = 2) (hb : (s.laser ((j + 1) % 4)).state = 2) :
    ∃ t, exec (.laserService who j) s = .next t ∧ t.mgt.answer = 0 ∧ (t.laser j).service = true ∧ BayOnly s t j ∧
      (s.served j = [] → (t.laser j).state = 3 ∧ bit t.opt.status 2 = true) ∧
      (s.served j ≠ [] → (t.laser j).state = 2 ∧ (t.laser j).draining = true ∧
        ∀ e g, e < 8 → g < 2 → s.server e g = some j → (2 * e + g, otherModule e g j) ∈ t.opt.moves) := by
  have heq := laserService_accepted hj hc (fun _ => by rw [State.neighboursReady, decide_eq_true ha, decide_eq_true hb]; rfl)
  rw [if_pos h2] at heq
  set v := (s.inService who j).modLaser j (fun x => { x with draining := true }) with hv
  have hbay : BayOnly s (v.planMoves j) j := ((s.inService_bay who j).trans (bayOnly_modLaser _ j _)).trans (bayOnly_planMoves v j j)
  have hlas : (v.planMoves j).laser j = { s.laser j with service := true, draining := true } := by
    rw [show (v.planMoves j).laser j = v.laser j from rfl, hv, State.modLaser_laser_self, s.inService_laser]
  have hans : (v.planMoves j).mgt.answer = 0 := s.inService_answer who hj
  have hin (k : Nat) : ((s.inService who j).laser k).state = (s.laser k).state := by
    by_cases hk : k = j
    · rw [hk, s.inService_laser]
    · rw [(s.inService_bay who j).1 k hk]
  have hserved : (v.planMoves j).served j = s.served j :=
    ((s.inService who j).served_planned j j (f := fun x => { x with draining := true }) (fun _ => rfl)).trans (State.served_congr hin (s.inService_bay who j).2.1 j)
  by_cases h : s.served j = []
  · have hd := State.drained_service (by rw [hlas]; exact h2) (hserved.trans h) (by rw [hlas]; exact hr) (by rw [hlas])
    refine ⟨_, congrArg Host.Outcome.next (heq.trans hd), ?_, ?_, (hbay.trans (bayOnly_modLaser _ j _)).trans (bayOnly_raiseOpt _ 2 j), fun _ => ⟨?_, bit_raiseOpt _ 2⟩,
      fun hne => absurd h hne⟩
    · rw [State.raiseOpt_mgt]
      exact hans
    · rw [State.raiseOpt_laser, State.modLaser_laser_self, hlas]
    · rw [State.raiseOpt_laser, State.modLaser_laser_self]
  · have hd := State.drained_ready (s := v.planMoves j) (hserved.trans_ne h)
    refine ⟨_, congrArg Host.Outcome.next (heq.trans hd), hans, by rw [hlas], hbay, fun h0 => absurd h0 h, fun _ => ⟨by rw [hlas]; exact h2, by rw [hlas], fun e g he hg hs => ?_⟩⟩
    refine v.mem_planMoves he hg ?_
    exact ((State.server_modLaser _ j (f := fun x => { x with draining := true }) (fun _ => rfl) e g).trans (State.server_congr hin ((s.inService_bay who j).2.1 e) g)).trans hs

end

/-! Insertion and removal (R383, R483). -/

section
variable {s : State} {j chip ep : Nat} {ident : List Byte}

theorem laserInsert_powered (readable : Bool) (hj : j < 4) (hs : (s.laser j).state = 0 ∨ (s.laser j).state = 4) (hp : s.sup.mainPg = true) :
    laserInsert j ident chip ep readable s =
      if readable then ((s.raiseOpt 3).modLaser j (fun x => { x with inserted := ident, bayChip := some chip, bayEpoch := some ep })).calibrate j
      else (((s.raiseOpt 3).modLaser j (fun x => { x with state := 4, inserted := [], bayChip := none, bayEpoch := none })).raiseOpt 1).logLaser j 0 :=
  (if_neg (by omega)).trans (if_neg (by rw [hp]; decide))

theorem inserts_readable (hj : j < 4) (hs : (s.laser j).state = 0 ∨ (s.laser j).state = 4) (hp : s.sup.mainPg = true) :
    ∃ t, exec (.laserInsert j ident chip ep true) s = .next t ∧ (t.laser j).state = 1 ∧ (t.laser j).epoch = ((s.laser j).epoch + 1) % 2 ^ 32 ∧
      (t.laser j).inserted = ident ∧ (t.laser j).bayChip = some chip ∧ (t.laser j).bayEpoch = some ep ∧ (t.laser j).service = (s.laser j).service ∧
      bit t.opt.status 3 = true ∧ BayOnly s t j := by
  refine ⟨_, congrArg Host.Outcome.next ((laserInsert_powered true hj hs hp).trans (if_pos rfl)), ?_⟩
  set v := (s.raiseOpt 3).modLaser j (fun x => { x with inserted := ident, bayChip := some chip, bayEpoch := some ep }) with hv
  have hl : v.laser j = { s.laser j with inserted := ident, bayChip := some chip, bayEpoch := some ep } := by
    rw [hv, State.modLaser_laser_self, State.raiseOpt_laser]
  rw [v.calibrate_laser, hl]
  exact ⟨rfl, rfl, rfl, rfl, rfl, rfl, bit_raiseOpt s 3, ((bayOnly_raiseOpt s 3 j).trans (bayOnly_modLaser _ j _)).trans (bayOnly_modLaser _ j _)⟩

theorem inserts_unreadable (hj : j < 4) (hs : (s.laser j).state = 0 ∨ (s.laser j).state = 4) (hp : s.sup.mainPg = true) :
    ∃ t, exec (.laserInsert j ident chip ep false) s = .next t ∧ (t.laser j).state = 4 ∧ bit t.opt.status 1 = true ∧ BayOnly s t j := by
  refine ⟨_, congrArg Host.Outcome.next ((laserInsert_powered false hj hs hp).trans (if_neg (by decide))), ?_, ?_,
    (((bayOnly_raiseOpt s 3 j).trans (bayOnly_modLaser _ j _)).trans (bayOnly_raiseOpt _ 1 j)).trans (bayOnly_logLaser _ j 0 j)⟩
  · rw [State.laser_congr (congrArg Opt.lasers (State.logLaser_opt _ _ _)), State.raiseOpt_laser, State.modLaser_laser_self]
  · rw [State.logLaser_opt]
    exact bit_raiseOpt _ 1

end

/-! Calibration (R384, R386). -/

theorem State.setGroup_group (s : State) {eg e g : Nat} (v : Nat) (moved : Option (Nat × Option Nat)) (hg : g < 2) :
    ((s.setGroup eg v moved).oe e).group g = if eg = 2 * e + g then v else (s.oe e).group g := by
  rw [State.setGroup]
  by_cases he : e = eg / 2
  · subst he
    rw [State.modOe_oe_self]
    rcases Nat.mod_two_eq_zero_or_one eg with h | h <;> interval_cases g
    · rw [if_pos h, if_pos (by omega)]
      rfl
    · rw [if_pos h, if_neg (by omega)]
      rfl
    · rw [if_neg (by omega), if_neg (by omega)]
      rfl
    · rw [if_neg (by omega), if_pos (by omega)]
      rfl
  · rw [State.modOe_oe_ne _ _ _ he, if_neg (by omega)]

/-- Groups that a module takes one after the other, without a move. -/
theorem foldl_setGroup_group (f : Nat → Nat) (l : List Nat) (s : State) {e g : Nat} (hg : g < 2) :
    ((l.foldl (fun s eg => s.setGroup eg (f eg) none) s).oe e).group g = if 2 * e + g ∈ l then f (2 * e + g) else (s.oe e).group g := by
  induction l generalizing s with
  | nil => simp
  | cons eg l ih =>
    rw [List.foldl_cons, ih, s.setGroup_group _ _ hg]
    by_cases h : 2 * e + g ∈ l
    · simp [h]
    · by_cases heg : eg = 2 * e + g
      · simp [heg]
      · simp [h, heg, Ne.symm heg]

/-- The dark groups that a module can serve. -/
def State.darkGroups (s : State) (j : Nat) : List Nat := laneGroups.filter (fun eg => (groupModules eg).contains j && (s.serverOfGroup eg).isNone)

theorem State.mem_darkGroups (s : State) {e g j : Nat} (he : e < 8) (hg : g < 2) :
    2 * e + g ∈ s.darkGroups j ↔ (j = homeModule e g ∨ j = standbyModule e g) ∧ s.server e g = none := by
  simp [State.darkGroups, mem_laneGroups he hg, groupModules_eq hg, s.serverOfGroup_eq hg]

/-- A ready module with its dark groups taken. -/
def State.takenGroups (s : State) (j : Nat) : State :=
  (s.darkGroups j).foldl (fun s eg => (s.setGroup eg (if j = homeModule (eg / 2) (eg % 2) then 0 else 1) none))
    (s.modLaser j (fun x => { x with state := 2, service := false, draining := false, recal := false }))

/-- The groups that return to their home module. -/
def State.homeGroups (s : State) (j : Nat) : List Nat :=
  laneGroups.filter (fun eg => decide (j = homeModule (eg / 2) (eg % 2)) && decide ((s.oe (eg / 2)).group (eg % 2) = 1))

theorem State.laserReady_eq (s : State) (j : Nat) :
    s.laserReady j = if (s.takenGroups j).num E.laserAutoReturn = 1 then
      { s.takenGroups j with opt.moves := (s.takenGroups j).opt.moves ++ ((s.takenGroups j).homeGroups j).map (fun eg => (eg, j)) } else s.takenGroups j := rfl

theorem State.takenGroups_lasers (s : State) (j : Nat) :
    (s.takenGroups j).opt.lasers = (s.modLaser j (fun x => { x with state := 2, service := false, draining := false, recal := false })).opt.lasers :=
  foldl_keeps (fun s => s.opt.lasers) (fun _ _ => State.setGroup_opt_lasers _ _ _ _) _ _

theorem State.takenGroups_mgt (s : State) (j : Nat) : (s.takenGroups j).mgt = s.mgt :=
  foldl_keeps (fun s => s.mgt) (fun _ _ => State.setGroup_mgt _ _ _ _) _ _

theorem State.takenGroups_group (s : State) (j : Nat) {e g : Nat} (he : e < 8) (hg : g < 2) :
    ((s.takenGroups j).oe e).group g = if (j = homeModule e g ∨ j = standbyModule e g) ∧ s.server e g = none then settingOf e g j else (s.oe e).group g := by
  rw [State.takenGroups, foldl_setGroup_group _ _ _ hg, group_div hg, group_mod hg]
  simp only [s.mem_darkGroups he hg]
  rfl

theorem State.laserReady_engines (s : State) (j : Nat) : (s.laserReady j).opt.engines = (s.takenGroups j).opt.engines := by
  rw [State.laserReady_eq]
  split <;> rfl

theorem State.laserReady_lasers (s : State) (j : Nat) : (s.laserReady j).opt.lasers = (s.takenGroups j).opt.lasers := by
  rw [State.laserReady_eq]
  split <;> rfl

theorem State.laserReady_laser (s : State) (j : Nat) :
    (s.laserReady j).laser j = { s.laser j with state := 2, service := false, draining := false, recal := false } := by
  rw [State.laser_congr ((s.laserReady_lasers j).trans (s.takenGroups_lasers j)), State.modLaser_laser_self]

theorem State.laserReady_laser_ne (s : State) {j k : Nat} (h : k ≠ j) : (s.laserReady j).laser k = s.laser k := by
  rw [State.laser_congr ((s.laserReady_lasers j).trans (s.takenGroups_lasers j)), State.modLaser_laser_ne _ _ _ h]

/-- With laser_auto_return a module that becomes ready has its home groups planned back. -/
theorem State.laserReady_returns (s : State) {j e g : Nat} (he : e < 8) (hg : g < 2) (ha : s.num E.laserAutoReturn = 1) (hh : j = homeModule e g)
    (hone : ((s.takenGroups j).oe e).group g = 1) : (2 * e + g, j) ∈ (s.laserReady j).opt.moves := by
  rw [State.laserReady_eq, if_pos ((State.num_of_mgt_num (congrArg Mgt.num (s.takenGroups_mgt j)) _ 0).trans ha)]
  refine List.mem_append_right _ (List.mem_map.mpr ⟨2 * e + g, List.mem_filter.mpr ⟨mem_laneGroups he hg, ?_⟩, rfl⟩)
  rw [group_div hg, group_mod hg, decide_eq_true hh, decide_eq_true hone]
  rfl

/-- A group that another module serves and whose home module is not ready stands on the standby module. -/
theorem State.group_of_server {s : State} {e g : Nat} (hh : (s.laser (homeModule e g)).state ≠ 2) (hs : (s.server e g).isSome = true) : (s.oe e).group g = 1 := by
  rw [State.server] at hs
  by_cases h0 : (s.oe e).group g = 0
  · rw [if_pos h0, if_neg (fun h => hh h.2)] at hs
    exact absurd hs Bool.false_ne_true
  · rw [if_neg h0] at hs
    split at hs
    · omega
    · exact absurd hs Bool.false_ne_true

section
variable {s : State} {j flags : Nat}

/-- The bay record and the identity of a module that passed its calibration. -/
def State.recorded (s : State) (j : Nat) : State :=
  (s.modLaser j (fun x => { x with bayChip := some (s.num E.fabChipId), bayEpoch := some x.epoch })).setBlob (E.laserIdentity + j) (s.laser j).inserted

theorem State.recorded_laser (s : State) (j : Nat) :
    (s.recorded j).laser j = { s.laser j with bayChip := some (s.num E.fabChipId), bayEpoch := some (s.laser j).epoch } := State.modLaser_laser_self s j _

theorem State.recorded_bay (s : State) (j : Nat) : BayOnly s (s.recorded j) j := bayOnly_modLaser s j _

theorem State.recorded_server (s : State) (j e g : Nat) : (s.recorded j).server e g = s.server e g := s.server_modLaser j (f := fun x => { x with bayChip := some (s.num E.fabChipId), bayEpoch := some x.epoch }) (fun _ => rfl) e g

variable (hj : j < 4) (h1 : (s.laser j).state = 1)
include hj h1

theorem passes_calibration : ∃ t, exec (.laserCalibrationComplete j true flags) s = .next t ∧ (t.laser j).state = 2 ∧ (t.laser j).service = false ∧
    (t.laser j).bayChip = some (s.num E.fabChipId) ∧ (t.laser j).bayEpoch = some (s.laser j).epoch ∧ t.blob (E.laserIdentity + j) = (s.laser j).inserted ∧
    bit t.opt.status 4 = true ∧ (∀ k, k ≠ j → t.laser k = s.laser k) ∧
    (∀ e g, e < 8 → g < 2 → s.server e g = none → j = homeModule e g ∨ j = standbyModule e g → (t.oe e).group g = settingOf e g j) ∧
    (∀ e g, e < 8 → g < 2 → (s.server e g).isSome = true ∨ (j ≠ homeModule e g ∧ j ≠ standbyModule e g) → (t.oe e).group g = (s.oe e).group g) ∧
    (s.num E.laserAutoReturn = 1 → ∀ e g, e < 8 → g < 2 → j = homeModule e g → (s.server e g).isSome = true → (2 * e + g, j) ∈ t.opt.moves) ∧ t.mem = s.mem := by
  have heq : laserCalibrationComplete j true flags s = ((s.recorded j).laserReady j).raiseOpt 4 := (if_neg (by omega)).trans (if_pos rfl)
  have hlas : (((s.recorded j).laserReady j).raiseOpt 4).laser j =
      { s.laser j with bayChip := some (s.num E.fabChipId), bayEpoch := some (s.laser j).epoch, state := 2, service := false, draining := false, recal := false } := by
    rw [State.raiseOpt_laser, State.laserReady_laser, State.recorded_laser]
  have hgroup {e g : Nat} (he : e < 8) (hg : g < 2) : ((((s.recorded j).laserReady j).raiseOpt 4).oe e).group g =
      if (j = homeModule e g ∨ j = standbyModule e g) ∧ s.server e g = none then settingOf e g j else (s.oe e).group g := by
    rw [State.oe_congr (s := (s.recorded j).laserReady j) (by simp), State.oe_congr ((s.recorded j).laserReady_engines j), State.takenGroups_group _ _ he hg, s.recorded_server]
    rfl
  refine ⟨_, congrArg Host.Outcome.next heq, by rw [hlas], by rw [hlas], by rw [hlas], by rw [hlas], ?_, bit_raiseOpt _ 4, fun k hk => ?_, fun e g he hg hs hm => ?_,
    fun e g he hg h => ?_, fun ha e g he hg hh hs => ?_, ?_⟩
  · rw [State.blob, State.raiseOpt_mgt, State.laserReady_mgt]
    exact State.setBlob_blob _ _ _
  · rw [State.raiseOpt_laser, State.laserReady_laser_ne _ hk, (s.recorded_bay j).1 k hk]
  · rw [hgroup he hg, if_pos ⟨hm, hs⟩]
  · refine (hgroup he hg).trans (if_neg fun ⟨hm, hn⟩ => ?_)
    exact h.elim (fun hs => by rw [hn] at hs; exact absurd hs (by decide)) (fun ⟨ha, hb⟩ => hm.elim ha hb)
  · rw [State.raiseOpt_status]
    have hns : ¬ s.server e g = none := fun hn => by rw [hn] at hs; exact absurd hs (by decide)
    refine (s.recorded j).laserReady_returns he hg ha hh ?_
    rw [State.takenGroups_group _ _ he hg, s.recorded_server, if_neg (fun h => hns h.2)]
    exact State.group_of_server (s := s) (by rw [← hh, h1]; decide) hs
  · rw [State.raiseOpt_mem, State.laserReady_mem]
    rfl

theorem fails_calibration : ∃ t, exec (.laserCalibrationComplete j false flags) s = .next t ∧ (t.laser j).state = 4 ∧ bit t.opt.status 1 = true ∧ BayOnly s t j := by
  have heq : laserCalibrationComplete j false flags s = ((s.modLaser j (fun x => { x with state := 4 })).raiseOpt 1).logLaser j flags :=
    (if_neg (by omega)).trans (if_neg (by decide))
  refine ⟨_, congrArg Host.Outcome.next heq, ?_, ?_, ((bayOnly_modLaser s j _).trans (bayOnly_raiseOpt _ 1 j)).trans (bayOnly_logLaser _ j flags j)⟩
  · rw [State.laser_congr (congrArg Opt.lasers (State.logLaser_opt _ _ _)), State.raiseOpt_laser, State.modLaser_laser_self]
  · rw [State.logLaser_opt]
    exact bit_raiseOpt _ 1

end

/-! Recalibration (R386, R389). -/

theorem laserRecalibrate_isSome {j : Nat} (hj : j < 4) : (entryInfo (E.laserRecalibrate + j)).isSome := by
  interval_cases j <;> decide

/-- What a recalibration does once its write is logged. -/
def State.recalibrate (t : State) (j : Nat) : State :=
  if (t.laser j).state = 0 then t
  else if (t.laser j).state = 2 then ((t.modLaser j (fun x => { x with recal := true, draining := false })).planMoves j).drained j
  else t.calibrate j

theorem bayOnly_drained (s : State) (j : Nat) : BayOnly s (s.drained j) j := by
  refine ⟨fun k hk => ?_, fun e => State.oe_congr (by simp) e, by simp, by simp⟩
  rw [State.drained]
  split
  · rfl
  · split
    · exact State.modLaser_laser_ne _ _ _ hk
    · split
      · rw [State.raiseOpt_laser, State.modLaser_laser_ne _ _ _ hk]
      · rfl

theorem bayOnly_refl (s : State) (j : Nat) : BayOnly s s j := bayOnly_of_opt rfl rfl rfl rfl j

theorem State.recalibrate_effect (s : State) (j : Nat) :
    (s.recalibrate j).mgt = s.mgt ∧ BayOnly s (s.recalibrate j) j ∧ ((s.laser j).state = 0 → (s.recalibrate j).laser j = s.laser j) ∧
      ((s.laser j).state ≠ 0 → (s.laser j).state ≠ 2 ∨ s.served j = [] →
        ((s.recalibrate j).laser j).state = 1 ∧ ((s.recalibrate j).laser j).epoch = ((s.laser j).epoch + 1) % 2 ^ 32) ∧
      ((s.laser j).state = 2 → s.served j ≠ [] → (s.recalibrate j).laser j = { s.laser j with recal := true, draining := false } ∧
        ∀ e g, e < 8 → g < 2 → s.server e g = some j → (2 * e + g, otherModule e g j) ∈ (s.recalibrate j).opt.moves) := by
  rw [State.recalibrate]
  by_cases h0 : (s.laser j).state = 0
  · rw [if_pos h0]
    exact ⟨rfl, bayOnly_refl s j, fun _ => rfl, fun h => absurd h0 h, fun h => absurd (h.symm.trans h0) (by decide)⟩
  rw [if_neg h0]
  by_cases h2 : (s.laser j).state = 2
  · rw [if_pos h2]
    set v := s.modLaser j (fun x => { x with recal := true, draining := false }) with hv
    have hlas : (v.planMoves j).laser j = { s.laser j with recal := true, draining := false } :=
      State.modLaser_laser_self s j (fun x => { x with recal := true, draining := false })
    have hserved : (v.planMoves j).served j = s.served j := s.served_planned j j (f := fun x => { x with recal := true, draining := false }) (fun _ => rfl)
    refine ⟨by rw [State.drained_mgt]; rfl, ((bayOnly_modLaser s j _).trans (bayOnly_planMoves v j j)).trans (bayOnly_drained _ j), fun h => absurd h h0,
      fun _ hor => ?_, fun _ hne => ?_⟩
    · have hd := State.drained_recal (s := v.planMoves j) (by rw [hlas]; exact h2) (hserved.trans (hor.resolve_left (not_not_intro h2))) (by rw [hlas])
      rw [hd, State.calibrate_laser, hlas]
      exact ⟨rfl, rfl⟩
    · rw [State.drained_ready (hserved.trans_ne hne)]
      refine ⟨hlas, fun e g he hg hs => v.mem_planMoves he hg ?_⟩
      exact (s.server_modLaser j (f := fun x => { x with recal := true, draining := false }) (fun _ => rfl) e g).trans hs
  · rw [if_neg h2]
    refine ⟨rfl, bayOnly_modLaser s j _, fun h => absurd h h0, fun _ _ => ?_, fun h => absurd h h2⟩
    rw [State.calibrate_laser]
    exact ⟨rfl, rfl⟩

theorem recalibrates {s : State} {who : Origin} {j : Nat} (hj : j < 4) (hc : s.deviceCheck who (E.laserRecalibrate + j) = 0) :
    ∃ t, exec (.laserRecalibrate who j) s = .next t ∧ t.mgt.answer = 0 ∧ BayOnly s t j ∧ ((s.laser j).state = 0 → t.laser j = s.laser j) ∧
      ((s.laser j).state ≠ 0 → (s.laser j).state ≠ 2 ∨ s.served j = [] → (t.laser j).state = 1 ∧ (t.laser j).epoch = ((s.laser j).epoch + 1) % 2 ^ 32) ∧
      ((s.laser j).state = 2 → s.served j ≠ [] → t.laser j = { s.laser j with recal := true, draining := false } ∧
        ∀ e g, e < 8 → g < 2 → s.server e g = some j → (2 * e + g, otherModule e g j) ∈ t.opt.moves) := by
  obtain ⟨r, hr⟩ := Option.isSome_iff_exists.mp (laserRecalibrate_isSome hj)
  set u := s.dictLogged who (E.laserRecalibrate + j) 0 (leBytes r.type.width (entryDefault (E.laserRecalibrate + j) 0)) (leBytes r.type.width 1) with hu
  have heq : laserRecalibrate who j s = u.recalibrate j := by
    refine (if_neg (by omega)).trans ?_
    rw [State.triggerWrite, if_neg (not_not_intro hc), if_neg (by decide), hr]
    rfl
  have hans : u.mgt.answer = 0 := (s.dictLogged_last (laserRecalibrate_isSome hj) _ _ _ _).1
  have hlas (k : Nat) : u.laser k = s.laser k := State.laser_congr (by simp [hu]) k
  have hoe (e : Nat) : u.oe e = s.oe e := State.oe_congr (by simp [hu]) e
  have hserved : u.served j = s.served j := State.served_congr (fun k => by rw [hlas]) hoe j
  obtain ⟨hm, hbay, hzero, hcal, hready⟩ := u.recalibrate_effect j
  rw [hlas, hserved] at hready hcal
  rw [hlas] at hzero
  refine ⟨_, congrArg Host.Outcome.next heq, by rw [hm]; exact hans, (bayOnly_dictLogged s _ _ _ _ j).trans hbay, hzero, hcal, fun h2 hne => ?_⟩
  refine ⟨(hready h2 hne).1, fun e g he hg hs => (hready h2 hne).2 e g he hg ?_⟩
  rw [State.server_congr (fun k => by rw [hlas]) (hoe e)]
  exact hs

/-! Life (R387). -/

/-- The greatest tenth root that can be built from the first bits, from above: no power of the bits so far exceeds the radicand, and one more of the last bit does. -/
theorem tenthRoot_bits {N : Nat} (hN : N < (2 ^ 64) ^ 10) (n : Nat) (hn : n ≤ 64) :
    ((List.range n).foldl (fun w i => if (w + 2 ^ (63 - i)) ^ 10 ≤ N then w + 2 ^ (63 - i) else w) 0) ^ 10 ≤ N ∧
      N < ((List.range n).foldl (fun w i => if (w + 2 ^ (63 - i)) ^ 10 ≤ N then w + 2 ^ (63 - i) else w) 0 + 2 ^ (64 - n)) ^ 10 := by
  induction n with
  | zero => exact ⟨by simp, by simpa using hN⟩
  | succ n ih =>
    obtain ⟨hle, hlt⟩ := ih (by omega)
    rw [List.range_succ, List.foldl_append, List.foldl_cons, List.foldl_nil]
    set w := (List.range n).foldl (fun w i => if (w + 2 ^ (63 - i)) ^ 10 ≤ N then w + 2 ^ (63 - i) else w) 0
    have hpow : 2 ^ (64 - n) = 2 ^ (63 - n) + 2 ^ (63 - n) := by
      rw [← two_mul, ← pow_succ']
      congr 1
      omega
    have hnext : 64 - (n + 1) = 63 - n := by omega
    rw [hnext]
    split
    · next h => exact ⟨h, by rw [Nat.add_assoc, ← hpow]; exact hlt⟩
    · next h => exact ⟨hle, Nat.lt_of_not_le h⟩

theorem hourWeight_root {temp : Nat} (ht : temp < 256) (h : 50 < temp) :
    hourWeight temp ^ 10 ≤ 10 ^ 30 * 2 ^ (temp - 50) ∧ 10 ^ 30 * 2 ^ (temp - 50) < (hourWeight temp + 1) ^ 10 := by
  have hN : 10 ^ 30 * 2 ^ (temp - 50) < (2 ^ 64) ^ 10 :=
    lt_of_le_of_lt (Nat.mul_le_mul_left _ (Nat.pow_le_pow_right (by decide) (show temp - 50 ≤ 205 by omega))) (by norm_num)
  rw [hourWeight, if_neg (by omega)]
  exact tenthRoot_bits hN 64 (le_refl 64)

theorem counts_hour {s : State} {j temp : Nat} (hj : j < 4) (ht : temp < 256) (hs : (s.laser j).state = 1 ∨ (s.laser j).state = 2) :
    ∃ t w, exec (.laserLifeHour j temp) s = .next t ∧ t.laser j = { s.laser j with milliHours := (s.laser j).milliHours + w } ∧ BayOnly s t j ∧
      (temp ≤ 50 → w = 1000) ∧ (50 < temp → w ^ 10 ≤ 10 ^ 30 * 2 ^ (temp - 50) ∧ 10 ^ 30 * 2 ^ (temp - 50) < (w + 1) ^ 10) ∧
      ((s.laser j).lifeUsed < 900 → 900 ≤ (t.laser j).lifeUsed → bit t.opt.status 6 = true) := by
  have hw : (temp ≤ 50 → hourWeight temp = 1000) := fun h => if_pos h
  have heq : laserLifeHour j temp s =
      if (s.laser j).lifeUsed < 900 ∧ 900 ≤ Laser.lifeUsed { s.laser j with milliHours := (s.laser j).milliHours + hourWeight temp } then
        (s.modLaser j (fun _ => { s.laser j with milliHours := (s.laser j).milliHours + hourWeight temp })).raiseOpt 6
      else s.modLaser j (fun _ => { s.laser j with milliHours := (s.laser j).milliHours + hourWeight temp }) := if_neg (by omega)
  by_cases h9 : (s.laser j).lifeUsed < 900 ∧ 900 ≤ Laser.lifeUsed { s.laser j with milliHours := (s.laser j).milliHours + hourWeight temp }
  · rw [if_pos h9] at heq
    exact ⟨_, hourWeight temp, congrArg Host.Outcome.next heq, by rw [State.raiseOpt_laser, State.modLaser_laser_self],
      (bayOnly_modLaser s j _).trans (bayOnly_raiseOpt _ 6 j), hw, hourWeight_root ht, fun _ _ => bit_raiseOpt _ 6⟩
  · rw [if_neg h9] at heq
    refine ⟨_, hourWeight temp, congrArg Host.Outcome.next heq, State.modLaser_laser_self s j _, bayOnly_modLaser s j _, hw, hourWeight_root ht, fun hl hge => ?_⟩
    rw [State.modLaser_laser_self] at hge
    exact absurd ⟨hl, hge⟩ h9

/-- Settles O49: what each step of a module's service does at its bay, with the groups that it takes or leaves. -/
theorem laserService_holds : Obligations.LaserService := by
  refine ⟨fun s who j hj hc => ⟨fun h2 hn => congrArg Host.Outcome.next (refuses_service hj hc h2 hn), services_failed hj hc, services_absent hj hc, services_ready hj hc⟩,
    fun s j chip ep ident hj hs hp => ⟨inserts_readable hj hs hp, inserts_unreadable hj hs hp⟩,
    fun s j flags hj h1 => ⟨passes_calibration hj h1, fails_calibration hj h1⟩, fun s who j hj hc => recalibrates hj hc, fun s j hj => ⟨fun h3 => ?_, fun h3 => ?_⟩,
    fun s j bytes hj h0 => ?_, fun s j temp hj ht hs => counts_hour hj ht hs⟩
  · refine ⟨_, congrArg Host.Outcome.next (if_pos ⟨hj, h3⟩), ?_⟩
    rw [State.modLaser_laser_self]
    exact ⟨rfl, rfl, rfl, rfl, rfl, rfl, bayOnly_modLaser s j _⟩
  · exact congrArg Host.Outcome.next (if_neg fun h => h3 h.2)
  · exact ⟨_, congrArg Host.Outcome.next (if_pos ⟨hj, h0⟩), State.modLaser_laser_self s j _, rfl, bayOnly_modLaser s j _⟩

end Sys2Proof.Machine
end

section
/-! What the moves of lane groups and the drop of a link leave of the links and of the numbers. -/

namespace Sys2Proof.Machine

@[simp] theorem foldl_opt_lastMove {α : Type} {g : State → α → State} (l : List α) (s : State) (hg : ∀ u a, (g u a).opt.lastMove = u.opt.lastMove) : (l.foldl g s).opt.lastMove = s.opt.lastMove :=
  foldl_keeps (fun s => s.opt.lastMove) hg l s
theorem ite_opt_lastMove (c : Prop) [Decidable c] (s t : State) : (if c then s else t).opt.lastMove = if c then s.opt.lastMove else t.opt.lastMove :=
  apply_ite (fun s : State => s.opt.lastMove) _ _ _
@[simp] theorem State.modOe_opt_lastMove (s : State) (e : Nat) (g : Oe → Oe) : (s.modOe e g).opt.lastMove = s.opt.lastMove := rfl
@[simp] theorem State.setGroup_opt_lastMove (s : State) (eg v : Nat) (moved : Option (Nat × Option Nat)) : (s.setGroup eg v moved).opt.lastMove = s.opt.lastMove := rfl
@[simp] theorem State.moveGroup_opt_lastMove (s : State) (eg m : Nat) (lost : Option Nat) : (s.moveGroup eg m lost).opt.lastMove = s.opt.lastMove :=
  by simp [State.moveGroup]
@[simp] theorem State.darkGroup_opt_lastMove (s : State) (eg : Nat) : (s.darkGroup eg).opt.lastMove = s.opt.lastMove := by simp [State.darkGroup]
@[simp] theorem State.modLaser_opt_lastMove (s : State) (l : Nat) (g : Laser → Laser) : (s.modLaser l g).opt.lastMove = s.opt.lastMove := rfl
@[simp] theorem State.calibrate_opt_lastMove (s : State) (j : Nat) : (s.calibrate j).opt.lastMove = s.opt.lastMove := rfl
@[simp] theorem State.drained_opt_lastMove (s : State) (j : Nat) : (s.drained j).opt.lastMove = s.opt.lastMove := by simp [State.drained, ite_opt_lastMove]
@[simp] theorem State.calibrate_time (s : State) (j : Nat) : (s.calibrate j).time = s.time := rfl
@[simp] theorem State.drained_time (s : State) (j : Nat) : (s.drained j).time = s.time := by simp [State.drained, ite_time]

end Sys2Proof.Machine
end

section
/-! Settling O48: laser failures, switch-over, planned moves and engine failures (R380, R381, R388, R389). -/

namespace Sys2Proof.Machine

/-! The count of a fault class. -/

theorem faultClass_ne (n : Nat) : E.faultClassCount + n ≠ E.faultsCovered ∧ E.faultClassCount + n ≠ E.faultsUncovered ∧ E.faultClassCount + n ≠ E.interruptionMax := by
  simp only [E.faultClassCount, E.faultsCovered, E.faultsUncovered, E.interruptionMax]
  omega

/-- A fault record changes the count of no class but its own. -/
theorem State.faultRecord_class (s : State) (cls u d i c e n : Nat) :
    (s.faultRecord (cls + 1) u d i c e).num (E.faultClassCount + n) =
      (s.addNum (E.faultClassCount + cls) 32).num (E.faultClassCount + n) := by
  obtain ⟨hc, hu, hm⟩ := faultClass_ne n
  have hcov : E.faultClassCount + n ≠ if decide (cls + 1 < 16) = true then E.faultsCovered else E.faultsUncovered := by split <;> assumption
  unfold State.faultRecord
  dsimp only
  rw [State.num_setBlob, ite_num, State.num_setNum_of_ne _ _ hm, ite_self, State.addNum, State.num_setNum_of_ne _ _ hcov]
  rfl

theorem State.faultRecord_counts (s : State) (cls u d i c e : Nat) :
    (s.faultRecord (cls + 1) u d i c e).num (E.faultClassCount + cls) = (s.num (E.faultClassCount + cls) + 1) % 2 ^ 32 :=
  (s.faultRecord_class cls u d i c e cls).trans (State.num_addNum_self _ _ _ _ _)

theorem State.faultRecord_class_ne (s : State) {cls n : Nat} (u d i c e : Nat) (h : n ≠ cls) :
    (s.faultRecord (cls + 1) u d i c e).num (E.faultClassCount + n) = s.num (E.faultClassCount + n) :=
  (s.faultRecord_class cls u d i c e n).trans (State.num_setNum_of_ne _ _ (by omega))

/-! A link that goes down. -/

theorem State.link_congr {s t : State} (h : t.fab.links = s.fab.links) (l : Nat) : t.link l = s.link l := by rw [State.link, State.link, h]

/-- The state of a link that goes down. -/
def State.downState (s : State) (l : Nat) : Nat := if s.num (E.linkEnable + l) = 1 then 0 else 4

theorem State.downState_ne (s : State) (l : Nat) : s.downState l ≠ 2 := by
  rw [State.downState]
  split <;> decide

/-- The state with the link down and its time messages forgotten. -/
def State.unlinked (s : State) (l : Nat) : State :=
  let s1 := s.modLink l (fun y => { Link.initial with state := s.downState l, replays := y.replays, attemptAt := some s.time.mono })
  { s1 with time.sent := s1.time.sent.del l, time.lastSend := s1.time.lastSend.del l }

theorem State.dropLink_eq (s : State) (l : Nat) :
    s.dropLink l = if 32 ≤ l ∨ (s.link l).state = 0 ∨ (s.link l).state = 4 then s
      else if (s.link l).state ≠ 2 then (s.unlinked l).traceLink l (s.downState l) 0xFFFF
      else (((((s.unlinked l).raiseFab 1).pushFab (fabRec 1 l (s.link l).peer 0 0 0)).traceLink l (s.downState l) (s.link l).peer).resendFrom l).loseRoutes.faultRecord 6 l
        (s.link l).peer 0 0 0 := rfl

theorem State.dropLink_of_off {s : State} {l : Nat} (h : 32 ≤ l ∨ (s.link l).state = 0 ∨ (s.link l).state = 4) : s.dropLink l = s := if_pos h

theorem State.dropLink_links {s : State} {l : Nat} (h : ¬ (32 ≤ l ∨ (s.link l).state = 0 ∨ (s.link l).state = 4)) :
    (s.dropLink l).fab.links = (s.unlinked l).fab.links := by
  rw [State.dropLink_eq, if_neg h]
  split
  · rw [State.traceLink_fab]
  · simp

theorem State.unlinked_link (s : State) (l : Nat) : ((s.unlinked l).link l).state = s.downState l :=
  congrArg Link.state (State.modLink_link_self s l (fun y => { Link.initial with state := s.downState l, replays := y.replays, attemptAt := some s.time.mono }))

theorem State.unlinked_link_ne (s : State) {l k : Nat} (h : k ≠ l) : (s.unlinked l).link k = s.link k := State.modLink_link_ne s l _ h

theorem State.dropLink_link_ne (s : State) {l k : Nat} (h : k ≠ l) : (s.dropLink l).link k = s.link k := by
  by_cases hs : 32 ≤ l ∨ (s.link l).state = 0 ∨ (s.link l).state = 4
  · rw [State.dropLink_of_off hs]
  · exact (State.link_congr (State.dropLink_links hs) k).trans (s.unlinked_link_ne h)

theorem State.dropLink_link (s : State) {l : Nat} (h : l < 32) : ((s.dropLink l).link l).state ≠ 2 := by
  by_cases hs : 32 ≤ l ∨ (s.link l).state = 0 ∨ (s.link l).state = 4
  · rw [State.dropLink_of_off hs]
    omega
  · rw [State.link_congr (State.dropLink_links hs), s.unlinked_link]
    exact s.downState_ne l

/-- A link that is not up stays so when another one, or itself, goes down. -/
theorem State.dropLink_keeps (s : State) {k : Nat} (l : Nat) (h : (s.link k).state ≠ 2) : ((s.dropLink l).link k).state ≠ 2 := by
  by_cases hk : k = l
  · by_cases hs : 32 ≤ l ∨ (s.link l).state = 0 ∨ (s.link l).state = 4
    · rwa [State.dropLink_of_off hs]
    · rw [hk, State.link_congr (State.dropLink_links hs), s.unlinked_link]
      exact s.downState_ne l
  · rwa [s.dropLink_link_ne hk]

/-- A step of a fold that establishes a fact which every later step keeps, under an invariant of the fold. -/
theorem foldl_establishes {α : Type} {P Q : State → Prop} {g : State → α → State} {a : α} (hQ : ∀ u b, Q u → Q (g u b)) (ha : ∀ u, Q u → P (g u a))
    (hk : ∀ u b, Q u → P u → P (g u b)) (l : List α) (s : State) (hs : Q s) (hm : a ∈ l ∨ P s) : P (l.foldl g s) := by
  induction l generalizing s with
  | nil => exact hm.elim (fun h => absurd h List.not_mem_nil) id
  | cons b l ih =>
    refine ih (g s b) (hQ s b hs) ?_
    rcases hm with hm | hm
    · rcases List.mem_cons.mp hm with rfl | hm
      · exact .inr (ha s hs)
      · exact .inl hm
    · exact .inr (hk s b hs hm)

theorem dropLinks_link (l : List Nat) (s : State) {k : Nat} (hk : k < 32) (h : k ∈ l) : ((l.foldl State.dropLink s).link k).state ≠ 2 :=
  foldl_establishes (P := fun u => (u.link k).state ≠ 2) (Q := fun _ => True) (fun _ _ _ => trivial) (fun u _ => u.dropLink_link hk)
    (fun u b _ hu => u.dropLink_keeps b hu) l s trivial (.inl h)

theorem dropLinks_link_ne (l : List Nat) (s : State) {k : Nat} (h : k ∉ l) : (l.foldl State.dropLink s).link k = s.link k := by
  induction l generalizing s with
  | nil => rfl
  | cons b l ih =>
    have hb : k ≠ b ∧ k ∉ l := by simpa using h
    exact (ih _ hb.2).trans (s.dropLink_link_ne hb.1)

/-- The count of a class that is not that of a link's loss. -/
theorem State.dropLink_class (s : State) (l : Nat) {n : Nat} (h : n ≠ 5) : (s.dropLink l).num (E.faultClassCount + n) = s.num (E.faultClassCount + n) := by
  rw [State.dropLink_eq]
  split
  · rfl
  · split
    · exact State.num_of_mgt_num (by simp [State.unlinked]) _ 0
    · rw [State.faultRecord_class_ne _ _ _ _ _ _ h]
      exact State.num_of_mgt_num (by simp [State.unlinked]) _ 0

theorem dropLinks_class (l : List Nat) (s : State) {n : Nat} (h : n ≠ 5) :
    (l.foldl State.dropLink s).num (E.faultClassCount + n) = s.num (E.faultClassCount + n) :=
  foldl_keeps (fun s => s.num (E.faultClassCount + n)) (fun u l => u.dropLink_class l h) l s

/-! The setting of a lane group and the record of its move. -/

theorem State.setGroup_movedOf (s : State) {eg e g : Nat} (v : Nat) (moved : Option (Nat × Option Nat)) (hg : g < 2) :
    ((s.setGroup eg v moved).oe e).movedOf g = if eg = 2 * e + g then moved else (s.oe e).movedOf g := by
  rw [State.setGroup]
  by_cases he : e = eg / 2
  · subst he
    rw [State.modOe_oe_self]
    rcases Nat.mod_two_eq_zero_or_one eg with h | h <;> interval_cases g
    · rw [if_pos h, if_pos (by omega)]
      rfl
    · rw [if_pos h, if_neg (by omega)]
      rfl
    · rw [if_neg (by omega), if_neg (by omega)]
      rfl
    · rw [if_neg (by omega), if_pos (by omega)]
      rfl
  · rw [State.modOe_oe_ne _ _ _ he, if_neg (by omega)]

/-- A group and the record of its move. -/
def State.lane (s : State) (e g : Nat) : Nat × Option (Nat × Option Nat) := ((s.oe e).group g, (s.oe e).movedOf g)

theorem State.lane_congr {s t : State} (h : t.opt.engines = s.opt.engines) (e g : Nat) : t.lane e g = s.lane e g := by rw [State.lane, State.lane, State.oe_congr h]

theorem State.setGroup_lane (s : State) {eg e g : Nat} (v : Nat) (moved : Option (Nat × Option Nat)) (hg : g < 2) :
    (s.setGroup eg v moved).lane e g = if eg = 2 * e + g then (v, moved) else s.lane e g := by
  rw [State.lane, s.setGroup_group v moved hg, s.setGroup_movedOf v moved hg]
  split <;> rfl

theorem State.modOe_lane (s : State) (i e g : Nat) {f : Oe → Oe} (hf : ∀ x, (f x).group g = x.group g ∧ (f x).movedOf g = x.movedOf g) : (s.modOe i f).lane e g = s.lane e g := by
  rw [State.lane, State.lane]
  by_cases he : e = i
  · subst he
    rw [State.modOe_oe_self, (hf _).1, (hf _).2]
  · rw [State.modOe_oe_ne _ _ _ he]

/-- An engine that retunes, unless it has failed. -/
def Oe.retuning (x : Oe) : Oe := if x.state = 2 then x else { x with state := 1 }

theorem Oe.retuning_lane (x : Oe) (g : Nat) : x.retuning.group g = x.group g ∧ x.retuning.movedOf g = x.movedOf g := by
  rw [Oe.retuning]
  split <;> exact ⟨rfl, rfl⟩

theorem State.moveGroup_eq (s : State) (eg m : Nat) (lost : Option Nat) :
    s.moveGroup eg m lost = ((s.setGroup eg (settingOf (eg / 2) (eg % 2) m) (some (s.time.mono, lost))).modOe (eg / 2) Oe.retuning).raiseOpt 0 := rfl

theorem State.raiseOpt_lane (s : State) (n e g : Nat) : (s.raiseOpt n).lane e g = s.lane e g := State.lane_congr (by simp) e g

theorem State.moveGroup_lane (s : State) {eg e g : Nat} (m : Nat) (lost : Option Nat) (hg : g < 2) :
    (s.moveGroup eg m lost).lane e g = if eg = 2 * e + g then (settingOf e g m, some (s.time.mono, lost)) else s.lane e g := by
  rw [State.moveGroup_eq, State.raiseOpt_lane, State.modOe_lane _ _ _ _ (fun x => x.retuning_lane g), State.setGroup_lane _ _ _ hg]
  by_cases h : eg = 2 * e + g
  · rw [if_pos h, if_pos h, h, group_div hg, group_mod hg]
  · rw [if_neg h, if_neg h]

theorem State.darkGroup_lane (s : State) {eg e g : Nat} (hg : g < 2) :
    (s.darkGroup eg).lane e g = if eg = 2 * e + g then (2, none) else s.lane e g := by
  rw [State.darkGroup, State.lane_congr (s := s.setGroup eg 2 none) (foldl_opt_engines _ _ fun u a => by simp) e g, s.setGroup_lane _ _ hg]

theorem State.moveGroup_bit (s : State) (eg m : Nat) (lost : Option Nat) : bit (s.moveGroup eg m lost).opt.status 0 = true := bit_raiseOpt _ 0

theorem State.raiseOpt_bit (s : State) (n : Nat) {i : Nat} (h : bit s.opt.status i = true) : bit (s.raiseOpt n).opt.status i = true := by simp [bit_setBit, h]

theorem State.moveGroup_keeps (s : State) (eg m : Nat) (lost : Option Nat) {i : Nat} (h : bit s.opt.status i = true) : bit (s.moveGroup eg m lost).opt.status i = true :=
  State.raiseOpt_bit _ 0 h

theorem State.darkGroup_link (s : State) {e g i : Nat} (he : e < 8) (hg : g < 2) (hi : i < 2) : ((s.darkGroup (2 * e + g)).link (4 * e + 2 * g + i)).state ≠ 2 := by
  refine dropLinks_link _ _ (by omega) ?_
  rw [groupLinks]
  interval_cases i
  · exact List.mem_cons.mpr (.inl (by omega))
  · exact List.mem_cons_of_mem _ (List.mem_singleton.mpr (by omega))

theorem State.darkGroup_down (s : State) (eg : Nat) {k : Nat} (h : (s.link k).state ≠ 2) : ((s.darkGroup eg).link k).state ≠ 2 := by
  have hs : ((s.setGroup eg 2 none).link k).state ≠ 2 := h
  rw [State.darkGroup]
  generalize s.setGroup eg 2 none = u at hs
  exact List.foldlRecOn (motive := fun u => (u.link k).state ≠ 2) (groupLinks eg) State.dropLink hs (fun u hu l _ => u.dropLink_keeps l hu)

end Sys2Proof.Machine
end

section
/-! Settling O48, continued: a module that is lost, a group that relocks, a planned move and an engine that fails. -/

namespace Sys2Proof.Machine

/-! A group that loses its module. -/

theorem State.module_of_server {s : State} {e g j : Nat} (h : s.server e g = some j) :
    (j = homeModule e g ∨ j = standbyModule e g) ∧ (s.laser j).state = 2 := by
  rw [State.server] at h
  by_cases h0 : (s.oe e).group g = 0
  · rw [if_pos h0] at h
    split at h
    · next hs => exact Option.some.inj h ▸ ⟨.inl rfl, hs.2⟩
    · exact absurd h (by simp)
  · rw [if_neg h0] at h
    split at h
    · next hs => exact Option.some.inj h ▸ ⟨.inr rfl, hs.2⟩
    · exact absurd h (by simp)

theorem otherModule_ne {e g : Nat} (hg : g < 2) (j : Nat) : otherModule e g j ≠ j := by
  rw [otherModule]
  split
  · next h => exact h ▸ standbyModule_ne hg
  · next h => exact Ne.symm h

theorem State.rehome_eq (s : State) {e g j : Nat} (lost : Option Nat) (hg : g < 2) (hj : j = homeModule e g ∨ j = standbyModule e g) :
    s.rehome (2 * e + g) j lost =
      if (s.laser (otherModule e g j)).takes then s.moveGroup (2 * e + g) (otherModule e g j) lost else s.darkGroup (2 * e + g) := by
  rw [State.rehome, groupModules_eq hg, otherModule]
  rcases hj with rfl | rfl
  · rw [if_pos rfl]
    cases ht : (s.laser (standbyModule e g)).takes <;> simp [standbyModule_ne hg, ht]
  · rw [if_neg (standbyModule_ne hg)]
    cases ht : (s.laser (homeModule e g)).takes <;> simp [Ne.symm (standbyModule_ne hg), ht]

theorem State.rehome_lane_ne (s : State) {eg e g : Nat} (j : Nat) (lost : Option Nat) (hg : g < 2) (h : eg ≠ 2 * e + g) :
    (s.rehome eg j lost).lane e g = s.lane e g := by
  rw [State.rehome]
  split
  · rw [s.moveGroup_lane _ _ hg, if_neg h]
  · rw [s.darkGroup_lane hg, if_neg h]

theorem State.rehome_bit (s : State) (eg j : Nat) (lost : Option Nat) {i : Nat} (h : bit s.opt.status i = true) : bit (s.rehome eg j lost).opt.status i = true := by
  rw [State.rehome]
  split
  · exact s.moveGroup_keeps eg _ lost h
  · rw [State.darkGroup_opt_status]
    exact h

theorem State.moveGroup_down (s : State) (eg m : Nat) (lost : Option Nat) {k : Nat} (h : (s.link k).state ≠ 2) : ((s.moveGroup eg m lost).link k).state ≠ 2 := by
  rw [State.link_congr (congrArg Fab.links (s.moveGroup_fab eg m lost))]
  exact h

theorem State.rehome_down (s : State) (eg j : Nat) (lost : Option Nat) {k : Nat} (h : (s.link k).state ≠ 2) : ((s.rehome eg j lost).link k).state ≠ 2 := by
  rw [State.rehome]
  split
  · exact s.moveGroup_down eg _ lost h
  · exact s.darkGroup_down eg h

/-! A module that fails (R380, R381). -/

/-- The module failed, and its own groups' planned moves given up. -/
def State.failing (s : State) (j : Nat) : State :=
  let s1 := (s.modLaser j (fun x => { x with state := 4, draining := false, recal := false })).raiseOpt 1
  { s1 with opt.moves := s1.opt.moves.filter (fun m => !(s.served j).contains m.1) }

/-- The groups of the failed module moved or dark. -/
def State.rehomed (s : State) (j : Nat) : State := (s.served j).foldl (fun s eg => s.rehome eg j (some j)) (s.failing j)

theorem State.failLaser_opt (s : State) (j : Nat) : (s.failLaser j).opt = (s.rehomed j).opt := by
  have heq : s.failLaser j =
      if (s.served j).any (fun eg => decide (((s.rehomed j).oe (eg / 2)).group (eg % 2) ≠ 2)) then s.rehomed j else (s.rehomed j).faultRecord 8 j 0 0 0 0 := rfl
  rw [heq]
  split
  · rfl
  · rw [State.faultRecord_opt]

theorem State.failLaser_fab (s : State) (j : Nat) : (s.failLaser j).fab = (s.rehomed j).fab := by
  have heq : s.failLaser j =
      if (s.served j).any (fun eg => decide (((s.rehomed j).oe (eg / 2)).group (eg % 2) ≠ 2)) then s.rehomed j else (s.rehomed j).faultRecord 8 j 0 0 0 0 := rfl
  rw [heq]
  split
  · rfl
  · rw [State.faultRecord_fab]

theorem State.failing_lasers (s : State) (j : Nat) :
    (s.failing j).opt.lasers = (s.modLaser j (fun x => { x with state := 4, draining := false, recal := false })).opt.lasers :=
  (congrArg Opt.lasers (State.raiseOpt_status _ 1) :)

theorem State.failing_engines (s : State) (j : Nat) : (s.failing j).opt.engines = s.opt.engines := (congrArg Opt.engines (State.raiseOpt_status _ 1) :)

theorem State.failing_mono (s : State) (j : Nat) : (s.failing j).time.mono = s.time.mono := by
  rw [State.failing]
  exact (by simp : ((s.modLaser j (fun x => { x with state := 4, draining := false, recal := false })).raiseOpt 1).time.mono = s.time.mono)

theorem State.failing_bit (s : State) (j : Nat) : bit (s.failing j).opt.status 1 = true := bit_raiseOpt _ 1

theorem State.rehomed_lasers (s : State) (j : Nat) : (s.rehomed j).opt.lasers = (s.failing j).opt.lasers :=
  foldl_keeps (fun s => s.opt.lasers) (fun _ _ => State.rehome_opt_lasers _ _ _ _) _ _

theorem State.rehomed_laser (s : State) (j : Nat) : (s.rehomed j).laser j = { s.laser j with state := 4, draining := false, recal := false } := by
  rw [State.laser_congr ((s.rehomed_lasers j).trans (s.failing_lasers j)), State.modLaser_laser_self]

theorem State.rehomed_laser_ne (s : State) {j k : Nat} (h : k ≠ j) : (s.rehomed j).laser k = s.laser k := by
  rw [State.laser_congr ((s.rehomed_lasers j).trans (s.failing_lasers j)), State.modLaser_laser_ne _ _ _ h]

theorem State.rehomed_bit (s : State) (j : Nat) : bit (s.rehomed j).opt.status 1 = true :=
  List.foldlRecOn (motive := fun u : State => bit u.opt.status 1 = true) (s.served j) (fun s eg => s.rehome eg j (some j)) (s.failing_bit j)
    (fun u hu eg _ => u.rehome_bit eg j (some j) hu)

theorem State.rehomed_lane_ne (s : State) {e g j : Nat} (he : e < 8) (hg : g < 2) (h : s.server e g ≠ some j) : (s.rehomed j).lane e g = s.lane e g := by
  have hnot : 2 * e + g ∉ s.served j := fun hm => h ((s.mem_served he hg).mp hm)
  have hfold := List.foldlRecOn (motive := fun u => u.lane e g = s.lane e g) (s.served j) (fun s eg => s.rehome eg j (some j)) (b := s.failing j)
    (State.lane_congr (s.failing_engines j) e g) (fun u hu eg hm => (u.rehome_lane_ne j (some j) hg (fun heq => hnot (heq ▸ hm))).trans hu)
  exact hfold

/-- What a group of the failed module becomes, by the other module of its engine. -/
def State.Rehomed (s : State) (takes : Bool) (e g j at0 : Nat) : Prop :=
  (takes = true → s.lane e g = (settingOf e g (otherModule e g j), some (at0, some j)) ∧ bit s.opt.status 0 = true) ∧
    (takes = false → s.lane e g = (2, none) ∧ ∀ i, i < 2 → (s.link (4 * e + 2 * g + i)).state ≠ 2)

theorem State.rehome_rehomed (s : State) {e g j : Nat} (he : e < 8) (hg : g < 2) (hj : j = homeModule e g ∨ j = standbyModule e g) :
    (s.rehome (2 * e + g) j (some j)).Rehomed (s.laser (otherModule e g j)).takes e g j s.time.mono := by
  rw [s.rehome_eq (some j) hg hj]
  refine ⟨fun ht => ?_, fun ht => ?_⟩
  · rw [if_pos ht, s.moveGroup_lane _ _ hg, if_pos rfl]
    exact ⟨rfl, s.moveGroup_bit _ _ _⟩
  · rw [if_neg (by rw [ht]; decide), s.darkGroup_lane hg, if_pos rfl]
    exact ⟨rfl, fun i hi => s.darkGroup_link he hg hi⟩

theorem State.Rehomed.rehome_ne {s : State} {takes : Bool} {e g j at0 eg : Nat} (h : s.Rehomed takes e g j at0) (hg : g < 2) (hne : eg ≠ 2 * e + g) (lost : Option Nat) :
    (s.rehome eg j lost).Rehomed takes e g j at0 :=
  ⟨fun ht => ⟨(s.rehome_lane_ne j lost hg hne).trans (h.1 ht).1, s.rehome_bit eg j lost (h.1 ht).2⟩,
    fun ht => ⟨(s.rehome_lane_ne j lost hg hne).trans (h.2 ht).1, fun i hi => s.rehome_down eg j lost ((h.2 ht).2 i hi)⟩⟩

theorem State.rehomed_rehomed (s : State) {e g j : Nat} (he : e < 8) (hg : g < 2) (h : s.server e g = some j) :
    (s.rehomed j).Rehomed (s.laser (otherModule e g j)).takes e g j s.time.mono := by
  have hj := (State.module_of_server h).1
  have hat (u : State) (hl : u.opt.lasers = (s.failing j).opt.lasers) (hm : u.time.mono = s.time.mono) :
      (u.rehome (2 * e + g) j (some j)).Rehomed (s.laser (otherModule e g j)).takes e g j s.time.mono := by
    have hu := u.rehome_rehomed he hg hj
    rw [hm, State.laser_congr (hl.trans (s.failing_lasers j)), State.modLaser_laser_ne _ _ _ (otherModule_ne hg j)] at hu
    exact hu
  refine foldl_establishes (P := fun u => u.Rehomed (s.laser (otherModule e g j)).takes e g j s.time.mono)
    (Q := fun u => u.opt.lasers = (s.failing j).opt.lasers ∧ u.time.mono = s.time.mono) (g := fun s eg => s.rehome eg j (some j)) (a := 2 * e + g)
    (fun u b hq => ⟨(u.rehome_opt_lasers _ _ _).trans hq.1, (u.rehome_time_mono _ _ _).trans hq.2⟩) (fun u hq => hat u hq.1 hq.2) (fun u b hq hu => ?_)
    (s.served j) (s.failing j) ⟨rfl, s.failing_mono j⟩ (.inl ((s.mem_served he hg).mpr h))
  by_cases hb : b = 2 * e + g
  · rw [hb]
    exact hat u hq.1 hq.2
  · exact hu.rehome_ne hg hb (some j)

theorem State.lane_eq {s : State} {e g : Nat} {p : Nat × Option (Nat × Option Nat)} (h : s.lane e g = p) : (s.oe e).group g = p.1 ∧ (s.oe e).movedOf g = p.2 :=
  ⟨congrArg Prod.fst h, congrArg Prod.snd h⟩

/-- A state with the optics, the links and the memory of the rehomed one has lost the module. -/
theorem moduleLost {s t : State} {j : Nat} (ho : t.opt = (s.rehomed j).opt) (hf : t.fab.links = (s.rehomed j).fab.links) (hm : t.mem = s.mem) (hc : t.cores = s.cores) :
    ModuleLost s t j := by
  have hl (k : Nat) : t.laser k = (s.rehomed j).laser k := State.laser_congr (congrArg Opt.lasers ho) k
  have hlane (e g : Nat) : t.lane e g = (s.rehomed j).lane e g := State.lane_congr (congrArg Opt.engines ho) e g
  refine ⟨by rw [hl, s.rehomed_laser], by rw [hl, s.rehomed_laser], by rw [ho]; exact s.rehomed_bit j, fun k hk => by rw [hl, s.rehomed_laser_ne hk],
    fun e g he hg h => ?_, fun e g he hg h => ?_, hm, hc⟩
  · obtain ⟨htakes, hdark⟩ := s.rehomed_rehomed he hg h
    refine ⟨fun ht => ?_, fun ht => ?_⟩
    · obtain ⟨hgroup, hmoved⟩ := State.lane_eq ((hlane e g).trans (htakes ht).1)
      exact ⟨hgroup, hmoved, by rw [ho]; exact (htakes ht).2⟩
    · exact ⟨(State.lane_eq ((hlane e g).trans (hdark ht).1)).1, fun i hi => by rw [State.link_congr hf]; exact (hdark ht).2 i hi⟩
  · exact State.lane_eq ((hlane e g).trans (s.rehomed_lane_ne he hg h))

theorem loses_light {s : State} {j : Nat} (hj : j < 4) (hs : (s.laser j).state = 1 ∨ (s.laser j).state = 2) :
    ∃ t, exec (.laserLightLoss j) s = .next t ∧ ModuleLost s t j :=
  ⟨_, congrArg Host.Outcome.next (if_pos ⟨hj, hs⟩), moduleLost (s.failLaser_opt j) (congrArg Fab.links (s.failLaser_fab j)) (s.failLaser_mem j) (s.failLaser_cores j)⟩

theorem polls_alarm {s : State} {j flags : Nat} (hj : j < 4) (hs : (s.laser j).state = 1 ∨ (s.laser j).state = 2) (hf : flags ≠ 0) :
    ∃ t, exec (.cmisAlarmPoll j flags) s = .next t ∧ ModuleLost s t j := by
  refine ⟨_, congrArg Host.Outcome.next (if_neg (by omega)), moduleLost ?_ ?_ ?_ ?_⟩
  · rw [State.logLaser_opt, State.failLaser_opt]
  · rw [State.logLaser_fab, State.failLaser_fab]
  · rw [State.logLaser_mem, State.failLaser_mem]
  · rw [State.logLaser_cores, State.failLaser_cores]

/-! A group that has relocked (R380, R453). -/

/-- An engine with the move of one group over: it is ready again when neither moves. -/
def Oe.relock (x : Oe) (g : Nat) : Oe :=
  let z := if g = 0 then { x with movedA := none } else { x with movedB := none }
  if z.state = 1 ∧ z.movedA.isNone ∧ z.movedB.isNone then { z with state := 0 } else z

theorem Oe.relock_effect (x : Oe) {g : Nat} (hg : g < 2) :
    (x.relock g).movedOf g = none ∧ (x.relock g).movedOf (1 - g) = x.movedOf (1 - g) ∧ (x.relock g).group 0 = x.group 0 ∧ (x.relock g).group 1 = x.group 1 ∧
      (x.state = 1 → (x.relock g).state = if (x.movedOf (1 - g)).isNone then 0 else 1) := by
  interval_cases g
  · cases hb : x.movedB <;> by_cases h1 : x.state = 1 <;> simp [Oe.relock, Oe.movedOf, Oe.group, hb, h1]
  · cases ha : x.movedA <;> by_cases h1 : x.state = 1 <;> simp [Oe.relock, Oe.movedOf, Oe.group, ha, h1]

/-- Does a group still move because of a module's loss? -/
def State.stillMoving (s : State) (j : Nat) : Bool := (List.range 8).any (fun e =>
  decide (((s.oe e).movedA.bind (fun p => p.2)) = some j) || decide (((s.oe e).movedB.bind (fun p => p.2)) = some j))

theorem State.stillMoving_eq_false {s : State} {j : Nat} (h : ∀ e g, e < 8 → g < 2 → ((s.oe e).movedOf g).bind (fun p => p.2) ≠ some j) : s.stillMoving j = false := by
  rw [State.stillMoving, List.any_eq_false]
  intro e he
  have he8 : e < 8 := List.mem_range.mp he
  have hA : ¬ (s.oe e).movedA.bind (fun p => p.2) = some j := h e 0 he8 (by decide)
  have hB : ¬ (s.oe e).movedB.bind (fun p => p.2) = some j := h e 1 he8 (by decide)
  simp only [hA, hB, decide_false, Bool.or_self, Bool.false_eq_true, not_false_eq_true]

theorem laneGroupSwitchover_eq {s : State} {e g at0 : Nat} {lost : Option Nat} (he : e < 8) (hg : g < 2) (h : (s.oe e).movedOf g = some (at0, lost)) :
    laneGroupSwitchover e g s = (match lost with
      | some j => if (s.modOe e (fun y => y.relock g)).stillMoving j then s.modOe e (fun y => y.relock g)
          else (s.modOe e (fun y => y.relock g)).faultRecord 8 j 0 (s.time.mono - at0) 0 0
      | none => s.modOe e (fun y => y.relock g)) := by
  have hm : (if g = 0 then (s.oe e).movedA else (s.oe e).movedB) = some (at0, lost) := h
  unfold laneGroupSwitchover
  simp only [hm]
  refine (if_neg (show ¬ (8 ≤ e ∨ 2 ≤ g) by omega)).trans ?_
  cases lost <;> rfl

theorem relocks {s : State} {e g at0 : Nat} {lost : Option Nat} (he : e < 8) (hg : g < 2) (h : (s.oe e).movedOf g = some (at0, lost)) :
    ∃ t, exec (.laneGroupSwitchover e g) s = .next t ∧ (t.oe e).movedOf g = none ∧ (t.oe e).movedOf (1 - g) = (s.oe e).movedOf (1 - g) ∧
      (t.oe e).group 0 = (s.oe e).group 0 ∧ (t.oe e).group 1 = (s.oe e).group 1 ∧
      ((s.oe e).state = 1 → (t.oe e).state = if ((s.oe e).movedOf (1 - g)).isNone then 0 else 1) ∧ (∀ k, k ≠ e → t.oe k = s.oe k) ∧
      (∀ j, t.laser j = s.laser j) ∧ (lost = none → t.mgt = s.mgt) ∧ t.mem = s.mem ∧ t.cores = s.cores ∧
      (∀ j, lost = some j →
        (∀ e' g', e' < 8 → g' < 2 → (e', g') ≠ (e, g) → ((s.oe e').movedOf g').bind (fun p => p.2) ≠ some j) →
        t.num (E.faultClassCount + 7) = (s.num (E.faultClassCount + 7) + 1) % 2 ^ 32) := by
  have heq := laneGroupSwitchover_eq he hg h
  set u := s.modOe e (fun y => y.relock g) with hu
  have hself : u.oe e = (s.oe e).relock g := State.modOe_oe_self s e _
  have hne {k : Nat} (hk : k ≠ e) : u.oe k = s.oe k := State.modOe_oe_ne s e _ hk
  obtain ⟨hm, hm', hA, hB, hst⟩ := (s.oe e).relock_effect hg
  have hopt (t : State) (ho : t.opt = u.opt) (hmem : t.mem = s.mem) (hc : t.cores = s.cores) :
      (t.oe e).movedOf g = none ∧ (t.oe e).movedOf (1 - g) = (s.oe e).movedOf (1 - g) ∧
        (t.oe e).group 0 = (s.oe e).group 0 ∧ (t.oe e).group 1 = (s.oe e).group 1 ∧
        ((s.oe e).state = 1 → (t.oe e).state = if ((s.oe e).movedOf (1 - g)).isNone then 0 else 1) ∧ (∀ k, k ≠ e → t.oe k = s.oe k) ∧
        (∀ j, t.laser j = s.laser j) ∧ t.mem = s.mem ∧ t.cores = s.cores := by
    have ht (k : Nat) : t.oe k = u.oe k := State.oe_congr (congrArg Opt.engines ho) k
    rw [ht, hself]
    exact ⟨hm, hm', hA, hB, hst, fun k hk => (ht k).trans (hne hk), fun j => State.laser_congr (congrArg Opt.lasers ho) j, hmem, hc⟩
  cases lost with
  | none =>
    obtain ⟨a, b, c, d, e1, f, k, l, m⟩ := hopt u rfl rfl rfl
    exact ⟨u, congrArg Host.Outcome.next heq, a, b, c, d, e1, f, k, fun _ => rfl, l, m, fun j hj => absurd hj (by simp)⟩
  | some j =>
    by_cases hstill : u.stillMoving j = true
    · obtain ⟨a, b, c, d, e1, f, k, l, m⟩ := hopt u rfl rfl rfl
      refine ⟨u, congrArg Host.Outcome.next (heq.trans (if_pos hstill)), a, b, c, d, e1, f, k, fun h0 => absurd h0 (by simp), l, m, fun j' hj' hall => ?_⟩
      cases hj'
      have hfalse : u.stillMoving j = false := State.stillMoving_eq_false fun e' g' he' hg' => by
        by_cases hk : e' = e
        · subst hk
          by_cases hgg : g' = g
          · rw [hself, hgg, hm]
            simp
          · have h1 : g' = 1 - g := by
              interval_cases g <;> interval_cases g' <;> simp_all
            rw [hself, h1, hm', ← h1]
            exact hall e' g' he' hg' (by simp [hgg])
        · rw [hne hk]
          exact hall e' g' he' hg' (by simp [hk])
      rw [hfalse] at hstill
      exact absurd hstill (by decide)
    · obtain ⟨a, b, c, d, e1, f, k, l, m⟩ := hopt (u.faultRecord 8 j 0 (s.time.mono - at0) 0 0) (by simp) (by simp [hu]) (by simp [hu])
      refine ⟨_, congrArg Host.Outcome.next (heq.trans (if_neg hstill)), a, b, c, d, e1, f, k, fun h0 => absurd h0 (by simp), l, m, fun _ _ _ => ?_⟩
      exact u.faultRecord_counts 7 j 0 (s.time.mono - at0) 0 0

/-! Planned moves (R380, R389). -/

/-- The state with the front move taken off the list. -/
def State.moveTaken (s : State) (rest : List (Nat × Nat)) : State := { s with opt.moves := rest, opt.lastMove := some s.time.mono }

/-- What the front move does to its group. -/
def State.movedOn (s : State) (rest : List (Nat × Nat)) (e g j m : Nat) : State :=
  if (s.laser m).takes then (s.moveTaken rest).moveGroup (2 * e + g) m none
  else if (s.laser j).draining || (s.laser j).recal then (s.moveTaken rest).darkGroup (2 * e + g) else s.moveTaken rest

theorem State.server_of_group {s t : State} {e g : Nat} (hl : ∀ k, t.laser k = s.laser k) (ho : (t.oe e).group g = (s.oe e).group g) : t.server e g = s.server e g := by
  simp only [State.server, hl, ho]

theorem State.server_dark {s : State} {e g : Nat} (h : (s.oe e).group g = 2) : s.server e g = none := by
  simp [State.server, h]

/-- A group that stands on a module is served by that module or by none. -/
theorem State.server_setting {s : State} {e g m : Nat} (hm : m = homeModule e g ∨ m = standbyModule e g) (h : (s.oe e).group g = settingOf e g m) :
    s.server e g = some m ∨ s.server e g = none := by
  rw [State.server, h, settingOf]
  by_cases hh : m = homeModule e g
  · rw [if_pos hh, if_pos rfl, ← hh]
    split
    · exact .inl rfl
    · exact .inr rfl
  · rw [if_neg hh, if_neg Nat.one_ne_zero, ← hm.resolve_left hh]
    split
    · exact .inl rfl
    · exact .inr rfl

theorem otherModule_mem (e g j : Nat) : otherModule e g j = homeModule e g ∨ otherModule e g j = standbyModule e g := by
  rw [otherModule]
  split
  · exact .inr rfl
  · exact .inl rfl

theorem State.movedOn_opt (s : State) (rest : List (Nat × Nat)) (e g j m : Nat) :
    (s.movedOn rest e g j m).opt.lasers = s.opt.lasers ∧ (s.movedOn rest e g j m).opt.moves = rest ∧ (s.movedOn rest e g j m).opt.lastMove = some s.time.mono ∧
      (s.movedOn rest e g j m).mem = s.mem ∧ (s.movedOn rest e g j m).cores = s.cores := by
  rw [State.movedOn]
  split
  · simp [State.moveTaken]
  · split
    · simp [State.moveTaken]
    · exact ⟨rfl, rfl, rfl, rfl, rfl⟩

theorem State.movedOn_lane (s : State) (rest : List (Nat × Nat)) {e g j m : Nat} (hg : g < 2) :
    ((s.laser m).takes = true → (s.movedOn rest e g j m).lane e g = (settingOf e g m, some (s.time.mono, none)) ∧ bit (s.movedOn rest e g j m).opt.status 0 = true) ∧
      ((s.laser m).takes = false → (s.laser j).draining = true ∨ (s.laser j).recal = true → (s.movedOn rest e g j m).lane e g = (2, none)) ∧
      ((s.laser m).takes = false → (s.laser j).draining = false → (s.laser j).recal = false → (s.movedOn rest e g j m).lane e g = s.lane e g) := by
  rw [State.movedOn]
  refine ⟨fun ht => ?_, fun ht hor => ?_, fun ht hd hr => ?_⟩
  · rw [if_pos ht, State.moveGroup_lane _ _ _ hg, if_pos rfl]
    exact ⟨rfl, State.moveGroup_bit _ _ _ _⟩
  · rw [if_neg (by rw [ht]; decide), if_pos (by simpa using hor), State.darkGroup_lane _ hg, if_pos rfl]
  · rw [if_neg (by rw [ht]; decide), if_neg (by rw [hd, hr]; decide)]
    rfl

theorem State.movedOn_lane_ne (s : State) (rest : List (Nat × Nat)) {e g j m e' g' : Nat} (hg : g < 2) (hg' : g' < 2) (h : (e', g') ≠ (e, g)) :
    (s.movedOn rest e g j m).lane e' g' = s.lane e' g' := by
  have hne : 2 * e + g ≠ 2 * e' + g' := fun heq => h (Prod.ext (by dsimp only; omega) (by dsimp only; omega))
  rw [State.movedOn]
  split
  · rw [State.moveGroup_lane _ _ _ hg', if_neg hne]
    rfl
  · split
    · rw [State.darkGroup_lane _ hg', if_neg hne]
      rfl
    · rfl

/-- The last group of a module that drains leaves it serving none. -/
theorem State.movedOn_served {s : State} (rest : List (Nat × Nat)) {e g j m : Nat} (hg : g < 2) (hm : m = otherModule e g j)
    (hd : (s.laser j).draining = true) (hlast : ∀ e' g', e' < 8 → g' < 2 → s.server e' g' = some j → (e', g') = (e, g)) : (s.movedOn rest e g j m).served j = [] := by
  have hl (k : Nat) : (s.movedOn rest e g j m).laser k = s.laser k := State.laser_congr (s.movedOn_opt rest e g j m).1 k
  rw [State.served, List.filter_eq_nil_iff]
  intro eg heg
  have h16 : eg < 16 := List.mem_range.mp heg
  rw [decide_eq_true_iff, State.serverOfGroup]
  by_cases hp : (eg / 2, eg % 2) = (e, g)
  · obtain ⟨h1, h2⟩ := Prod.mk.inj hp
    rw [h1, h2]
    obtain ⟨htakes, hdark, -⟩ := s.movedOn_lane rest (j := j) (m := m) (e := e) hg
    cases ht : (s.laser m).takes with
    | true =>
      have hset := State.server_setting (hm ▸ otherModule_mem e g j) (State.lane_eq (htakes ht).1).1
      rcases hset with hset | hset <;> rw [hset]
      · exact fun heq => otherModule_ne hg j (hm ▸ Option.some.inj heq)
      · simp
    | false =>
      rw [State.server_dark (State.lane_eq (hdark ht (.inl hd))).1]
      simp
  · rw [State.server_of_group hl (congrArg Prod.fst (s.movedOn_lane_ne rest hg (Nat.mod_lt _ (by decide)) hp))]
    exact fun h => hp (hlast _ _ (by omega) (Nat.mod_lt _ (by decide)) h)

theorem State.drained_bit (s : State) (j : Nat) {i : Nat} (h : bit s.opt.status i = true) : bit (s.drained j).opt.status i = true := by
  rw [State.drained]
  split
  · exact h
  · split
    · exact h
    · split
      · exact State.raiseOpt_bit _ 2 h
      · exact h

section
variable {s : State} {e g j m : Nat} {rest : List (Nat × Nat)} (hg : g < 2) (hmoves : s.opt.moves = (2 * e + g, m) :: rest) (hsrv : s.server e g = some j)
  (hm : m = otherModule e g j)

include hmoves

theorem plannedMove_early {at0 : Nat} (hl : s.opt.lastMove = some at0) (h : s.time.mono < at0 + 1000000) : plannedMove s = s := by
  unfold plannedMove
  rw [hmoves, hl]
  exact if_pos (decide_eq_true h)

include hg hsrv

theorem plannedMove_due (h : ∀ at0, s.opt.lastMove = some at0 → at0 + 1000000 ≤ s.time.mono) : plannedMove s = (s.movedOn rest e g j m).drained j := by
  have hsv : State.serverOfGroup { s with opt.moves := rest, opt.lastMove := some s.time.mono } (2 * e + g) = some j :=
    (State.serverOfGroup_eq (s.moveTaken rest) hg).trans hsrv
  unfold plannedMove
  rw [hmoves]
  cases hl : s.opt.lastMove with
  | none =>
    refine (if_neg Bool.false_ne_true).trans ?_
    simp only [hsv]
    rfl
  | some at0 =>
    refine (if_neg (by simpa using h at0 hl)).trans ?_
    simp only [hsv]
    rfl

include hm

theorem moves_planned (h : ∀ at0, s.opt.lastMove = some at0 → at0 + 1000000 ≤ s.time.mono) :
    ∃ t, exec .plannedMove s = .next t ∧ t.opt.moves = rest ∧ t.opt.lastMove = some s.time.mono ∧
      ((s.laser m).takes = true → (t.oe e).group g = settingOf e g m ∧ bit t.opt.status 0 = true) ∧
      ((s.laser m).takes = false → (s.laser j).draining = true ∨ (s.laser j).recal = true → (t.oe e).group g = 2) ∧
      ((s.laser m).takes = false → (s.laser j).draining = false → (s.laser j).recal = false → (t.oe e).group g = (s.oe e).group g) ∧
      (∀ e' g', e' < 8 → g' < 2 → (e', g') ≠ (e, g) → (t.oe e').group g' = (s.oe e').group g') ∧
      ((s.laser j).draining = true → (s.laser j).recal = false → (∀ e' g', e' < 8 → g' < 2 → s.server e' g' = some j → (e', g') = (e, g)) →
        (t.laser j).state = 3 ∧ bit t.opt.status 2 = true) ∧ t.mem = s.mem ∧ t.cores = s.cores := by
  obtain ⟨hl, hmv, hlast, hmem, hc⟩ := s.movedOn_opt rest e g j m
  obtain ⟨htakes, hdark, hstay⟩ := s.movedOn_lane rest (j := j) (m := m) (e := e) hg
  have hlane (e' g' : Nat) : ((s.movedOn rest e g j m).drained j).lane e' g' = (s.movedOn rest e g j m).lane e' g' := State.lane_congr (State.drained_opt_engines _ _) e' g'
  have hjl : (s.movedOn rest e g j m).laser j = s.laser j := State.laser_congr hl j
  refine ⟨_, congrArg Host.Outcome.next (plannedMove_due hg hmoves hsrv h), by rw [State.drained_opt_moves, hmv], by rw [State.drained_opt_lastMove, hlast],
    fun ht => ⟨congrArg Prod.fst ((hlane e g).trans (htakes ht).1), State.drained_bit _ j (htakes ht).2⟩, fun ht hor => congrArg Prod.fst ((hlane e g).trans (hdark ht hor)),
    fun ht hd hr => congrArg Prod.fst ((hlane e g).trans (hstay ht hd hr)),
    fun e' g' _ hg' hne => congrArg Prod.fst ((hlane e' g').trans (s.movedOn_lane_ne rest hg hg' hne)), fun hd hr hall => ?_, by rw [State.drained_mem, hmem],
    by rw [State.drained_cores, hc]⟩
  have hserved := State.movedOn_served rest hg hm hd hall
  rw [State.drained_service (by rw [hjl]; exact (State.module_of_server hsrv).2) hserved (by rw [hjl]; exact hr) (by rw [hjl]; exact hd)]
  refine ⟨?_, bit_raiseOpt _ 2⟩
  rw [State.raiseOpt_laser, State.modLaser_laser_self]

end

/-! An engine that fails (R388). -/

theorem fails_engine {s : State} {e : Nat} (he : e < 8) (h2 : (s.oe e).state ≠ 2) (hs : (s.server e 0).isSome = true ∨ (s.server e 1).isSome = true) :
    ∃ t, exec (.oeFail e) s = .next t ∧ (t.oe e).state = 2 ∧ (t.oe e).movedOf 0 = none ∧ (t.oe e).movedOf 1 = none ∧ bit t.opt.status 5 = true ∧
      (∀ l, l / 4 = e → (t.link l).state ≠ 2) ∧ (∀ l, l / 4 ≠ e → t.link l = s.link l) ∧ (∀ k, k ≠ e → t.oe k = s.oe k) ∧
      t.num (E.faultClassCount + 6) = (s.num (E.faultClassCount + 6) + 1) % 2 ^ 32 ∧ t.mem = s.mem ∧ t.cores = s.cores := by
  set u := (s.modOe e (fun x => { x with state := 2, movedA := none, movedB := none })).raiseOpt 5 with hu
  have heq : oeFail e s = ((rangeFrom (4 * e) 4).foldl State.dropLink u).faultRecord 7 e 0 0 0 0 := (if_pos hs).trans (if_neg (by omega))
  have hopt : (((rangeFrom (4 * e) 4).foldl State.dropLink u).faultRecord 7 e 0 0 0 0).opt = u.opt := by
    rw [State.faultRecord_opt, foldl_keeps (fun s => s.opt) (fun u l => u.dropLink_opt l)]
  have hlinks : (((rangeFrom (4 * e) 4).foldl State.dropLink u).faultRecord 7 e 0 0 0 0).fab.links = ((rangeFrom (4 * e) 4).foldl State.dropLink u).fab.links := by
    rw [State.faultRecord_fab]
  have hoe (k : Nat) : (((rangeFrom (4 * e) 4).foldl State.dropLink u).faultRecord 7 e 0 0 0 0).oe k =
      (s.modOe e (fun x => { x with state := 2, movedA := none, movedB := none })).oe k :=
    (State.oe_congr (congrArg Opt.engines hopt) k).trans (State.oe_congr (by simp [hu]) k)
  have hmemL (l : Nat) : l ∈ rangeFrom (4 * e) 4 ↔ l / 4 = e := by
    simp only [rangeFrom, List.mem_cons, List.not_mem_nil, or_false]
    omega
  refine ⟨_, congrArg Host.Outcome.next heq, ?_, ?_, ?_, ?_, fun l hl => ?_, fun l hl => ?_, fun k hk => ?_, ?_, ?_, ?_⟩
  · rw [hoe, State.modOe_oe_self]
  · rw [hoe, State.modOe_oe_self]
    rfl
  · rw [hoe, State.modOe_oe_self]
    rfl
  · rw [hopt]
    exact bit_raiseOpt _ 5
  · rw [State.link_congr hlinks]
    exact dropLinks_link _ _ (by omega) ((hmemL l).mpr hl)
  · rw [State.link_congr hlinks, dropLinks_link_ne _ _ (fun hm => hl ((hmemL l).mp hm))]
    exact State.link_congr (by simp [hu]) l
  · rw [hoe, State.modOe_oe_ne _ _ _ hk]
  · rw [State.faultRecord_counts _ 6, dropLinks_class _ _ (by decide)]
    have hnum : u.num (E.faultClassCount + 6) = s.num (E.faultClassCount + 6) := State.num_of_mgt_num (by simp [hu]) _ 0
    rw [hnum]
  · rw [State.faultRecord_mem, foldl_keeps (fun s => s.mem) (fun u l => u.dropLink_mem l)]
    simp [hu]
  · rw [State.faultRecord_cores, foldl_keeps (fun s => s.cores) (fun u l => u.dropLink_cores l)]
    simp [hu]

/-- Settles O48: a lost module by what each of its groups becomes in the fold over them, a planned move and an engine's failure by the groups and links that they touch. -/
theorem laserSwitching : Obligations.LaserSwitching := by
  refine ⟨fun s j hj hs => ⟨loses_light hj hs, fun flags hf => polls_alarm hj hs hf, congrArg Host.Outcome.next (if_pos (.inl rfl))⟩,
    fun s e g at0 lost he hg h => relocks he hg h,
    fun s e g j m rest he hg hmoves hsrv hm => ⟨fun at0 hl h => congrArg Host.Outcome.next (plannedMove_early hmoves hl h), fun h => moves_planned hg hmoves hsrv hm h⟩,
    fun s e he h2 => ⟨fails_engine he h2, fun ha hb => ?_⟩⟩
  exact congrArg Host.Outcome.next (if_neg (by rw [ha, hb]; decide))

end Sys2Proof.Machine
end

section
/-! What power keeps of the state. -/

namespace Sys2Proof.Machine

@[simp] theorem State.emitRec_pwr (s : State) (source : Nat) (r : TrcRec) : (s.emitRec source r).pwr = s.pwr := by simp [State.emitRec, ite_pwr]
@[simp] theorem State.trace_pwr (s : State) (srcBit kind domain unit queue layer operator aux detail : Nat) : (s.trace srcBit kind domain unit queue layer operator aux detail).pwr = s.pwr :=
  by simp [State.trace]
@[simp] theorem foldl_time_rampTarget {α : Type} {g : State → α → State} (l : List α) (s : State) (hg : ∀ u a, (g u a).time.rampTarget = u.time.rampTarget) : (l.foldl g s).time.rampTarget = s.time.rampTarget :=
  foldl_keeps (fun s => s.time.rampTarget) hg l s
theorem ite_time_rampTarget (c : Prop) [Decidable c] (s t : State) : (if c then s else t).time.rampTarget = if c then s.time.rampTarget else t.time.rampTarget :=
  apply_ite (fun s : State => s.time.rampTarget) _ _ _
@[simp] theorem State.emitRec_time_rampTarget (s : State) (source : Nat) (r : TrcRec) : (s.emitRec source r).time.rampTarget = s.time.rampTarget :=
  by simp [State.emitRec, ite_time_rampTarget]
@[simp] theorem State.trace_time_rampTarget (s : State) (srcBit kind domain unit queue layer operator aux detail : Nat) : (s.trace srcBit kind domain unit queue layer operator aux detail).time.rampTarget = s.time.rampTarget :=
  by simp [State.trace]
@[simp] theorem foldl_pwr_history {α : Type} {g : State → α → State} (l : List α) (s : State) (hg : ∀ u a, (g u a).pwr.history = u.pwr.history) : (l.foldl g s).pwr.history = s.pwr.history :=
  foldl_keeps (fun s => s.pwr.history) hg l s
theorem ite_pwr_history (c : Prop) [Decidable c] (s t : State) : (if c then s else t).pwr.history = if c then s.pwr.history else t.pwr.history :=
  apply_ite (fun s : State => s.pwr.history) _ _ _
@[simp] theorem State.fallback_pwr_history (s : State) (a energy : Nat) (next : ℤ) : (s.fallback a energy next).pwr.history = s.pwr.history :=
  by simp [State.fallback, ite_pwr_history]
@[simp] theorem foldl_pwr_excursion {α : Type} {g : State → α → State} (l : List α) (s : State) (hg : ∀ u a, (g u a).pwr.excursion = u.pwr.excursion) : (l.foldl g s).pwr.excursion = s.pwr.excursion :=
  foldl_keeps (fun s => s.pwr.excursion) hg l s
theorem ite_pwr_excursion (c : Prop) [Decidable c] (s t : State) : (if c then s else t).pwr.excursion = if c then s.pwr.excursion else t.pwr.excursion :=
  apply_ite (fun s : State => s.pwr.excursion) _ _ _
@[simp] theorem State.fallback_pwr_excursion (s : State) (a energy : Nat) (next : ℤ) : (s.fallback a energy next).pwr.excursion = s.pwr.excursion :=
  by simp [State.fallback, ite_pwr_excursion]
@[simp] theorem foldl_pwr_recovery {α : Type} {g : State → α → State} (l : List α) (s : State) (hg : ∀ u a, (g u a).pwr.recovery = u.pwr.recovery) : (l.foldl g s).pwr.recovery = s.pwr.recovery :=
  foldl_keeps (fun s => s.pwr.recovery) hg l s
theorem ite_pwr_recovery (c : Prop) [Decidable c] (s t : State) : (if c then s else t).pwr.recovery = if c then s.pwr.recovery else t.pwr.recovery :=
  apply_ite (fun s : State => s.pwr.recovery) _ _ _
@[simp] theorem State.fallback_pwr_recovery (s : State) (a energy : Nat) (next : ℤ) : (s.fallback a energy next).pwr.recovery = s.pwr.recovery :=
  by simp [State.fallback, ite_pwr_recovery]
@[simp] theorem foldl_pwr_energy {α : Type} {g : State → α → State} (l : List α) (s : State) (hg : ∀ u a, (g u a).pwr.energy = u.pwr.energy) : (l.foldl g s).pwr.energy = s.pwr.energy :=
  foldl_keeps (fun s => s.pwr.energy) hg l s
theorem ite_pwr_energy (c : Prop) [Decidable c] (s t : State) : (if c then s else t).pwr.energy = if c then s.pwr.energy else t.pwr.energy :=
  apply_ite (fun s : State => s.pwr.energy) _ _ _
@[simp] theorem State.fallback_pwr_energy (s : State) (a energy : Nat) (next : ℤ) : (s.fallback a energy next).pwr.energy = s.pwr.energy :=
  by simp [State.fallback, ite_pwr_energy]
@[simp] theorem foldl_pwr_lastW {α : Type} {g : State → α → State} (l : List α) (s : State) (hg : ∀ u a, (g u a).pwr.lastW = u.pwr.lastW) : (l.foldl g s).pwr.lastW = s.pwr.lastW :=
  foldl_keeps (fun s => s.pwr.lastW) hg l s
theorem ite_pwr_lastW (c : Prop) [Decidable c] (s t : State) : (if c then s else t).pwr.lastW = if c then s.pwr.lastW else t.pwr.lastW :=
  apply_ite (fun s : State => s.pwr.lastW) _ _ _
@[simp] theorem State.fallback_pwr_lastW (s : State) (a energy : Nat) (next : ℤ) : (s.fallback a energy next).pwr.lastW = s.pwr.lastW :=
  by simp [State.fallback, ite_pwr_lastW]
@[simp] theorem foldl_pwr_clamp {α : Type} {g : State → α → State} (l : List α) (s : State) (hg : ∀ u a, (g u a).pwr.clamp = u.pwr.clamp) : (l.foldl g s).pwr.clamp = s.pwr.clamp :=
  foldl_keeps (fun s => s.pwr.clamp) hg l s
theorem ite_pwr_clamp (c : Prop) [Decidable c] (s t : State) : (if c then s else t).pwr.clamp = if c then s.pwr.clamp else t.pwr.clamp :=
  apply_ite (fun s : State => s.pwr.clamp) _ _ _
@[simp] theorem State.fallback_pwr_clamp (s : State) (a energy : Nat) (next : ℤ) : (s.fallback a energy next).pwr.clamp = s.pwr.clamp :=
  by simp [State.fallback, ite_pwr_clamp]
@[simp] theorem foldl_pwr_plains {α : Type} {g : State → α → State} (l : List α) (s : State) (hg : ∀ u a, (g u a).pwr.plains = u.pwr.plains) : (l.foldl g s).pwr.plains = s.pwr.plains :=
  foldl_keeps (fun s => s.pwr.plains) hg l s
theorem ite_pwr_plains (c : Prop) [Decidable c] (s t : State) : (if c then s else t).pwr.plains = if c then s.pwr.plains else t.pwr.plains :=
  apply_ite (fun s : State => s.pwr.plains) _ _ _
@[simp] theorem State.fallback_pwr_plains (s : State) (a energy : Nat) (next : ℤ) : (s.fallback a energy next).pwr.plains = s.pwr.plains :=
  by simp [State.fallback, ite_pwr_plains]
@[simp] theorem State.fallback_mem (s : State) (a energy : Nat) (next : ℤ) : (s.fallback a energy next).mem = s.mem := by simp [State.fallback, ite_mem]
@[simp] theorem State.fallback_cores (s : State) (a energy : Nat) (next : ℤ) : (s.fallback a energy next).cores = s.cores := by simp [State.fallback, ite_cores]
@[simp] theorem State.fallback_mgt (s : State) (a energy : Nat) (next : ℤ) : (s.fallback a energy next).mgt = s.mgt := by simp [State.fallback, ite_mgt]
@[simp] theorem State.modPlain_pwr_history (s : State) (p : Nat) (g : PlainPwr → PlainPwr) : (s.modPlain p g).pwr.history = s.pwr.history := rfl
@[simp] theorem State.eachPlain_pwr_history (s : State) (g : Nat → PlainPwr → PlainPwr) : (s.eachPlain g).pwr.history = s.pwr.history :=
  by simp -implicitDefEqProofs [State.eachPlain]
@[simp] theorem State.modPlain_pwr_excursion (s : State) (p : Nat) (g : PlainPwr → PlainPwr) : (s.modPlain p g).pwr.excursion = s.pwr.excursion := rfl
@[simp] theorem State.eachPlain_pwr_excursion (s : State) (g : Nat → PlainPwr → PlainPwr) : (s.eachPlain g).pwr.excursion = s.pwr.excursion :=
  by simp -implicitDefEqProofs [State.eachPlain]
@[simp] theorem State.modPlain_pwr_recovery (s : State) (p : Nat) (g : PlainPwr → PlainPwr) : (s.modPlain p g).pwr.recovery = s.pwr.recovery := rfl
@[simp] theorem State.eachPlain_pwr_recovery (s : State) (g : Nat → PlainPwr → PlainPwr) : (s.eachPlain g).pwr.recovery = s.pwr.recovery :=
  by simp -implicitDefEqProofs [State.eachPlain]
@[simp] theorem State.modPlain_pwr_energy (s : State) (p : Nat) (g : PlainPwr → PlainPwr) : (s.modPlain p g).pwr.energy = s.pwr.energy := rfl
@[simp] theorem State.eachPlain_pwr_energy (s : State) (g : Nat → PlainPwr → PlainPwr) : (s.eachPlain g).pwr.energy = s.pwr.energy :=
  by simp -implicitDefEqProofs [State.eachPlain]
@[simp] theorem State.modPlain_pwr_lastW (s : State) (p : Nat) (g : PlainPwr → PlainPwr) : (s.modPlain p g).pwr.lastW = s.pwr.lastW := rfl
@[simp] theorem State.eachPlain_pwr_lastW (s : State) (g : Nat → PlainPwr → PlainPwr) : (s.eachPlain g).pwr.lastW = s.pwr.lastW :=
  by simp -implicitDefEqProofs [State.eachPlain]
@[simp] theorem State.modPlain_pwr_clamp (s : State) (p : Nat) (g : PlainPwr → PlainPwr) : (s.modPlain p g).pwr.clamp = s.pwr.clamp := rfl
@[simp] theorem State.eachPlain_pwr_clamp (s : State) (g : Nat → PlainPwr → PlainPwr) : (s.eachPlain g).pwr.clamp = s.pwr.clamp :=
  by simp -implicitDefEqProofs [State.eachPlain]
@[simp] theorem foldl_pwr_droops {α : Type} {g : State → α → State} (l : List α) (s : State) (hg : ∀ u a, (g u a).pwr.droops = u.pwr.droops) : (l.foldl g s).pwr.droops = s.pwr.droops :=
  foldl_keeps (fun s => s.pwr.droops) hg l s
theorem ite_pwr_droops (c : Prop) [Decidable c] (s t : State) : (if c then s else t).pwr.droops = if c then s.pwr.droops else t.pwr.droops :=
  apply_ite (fun s : State => s.pwr.droops) _ _ _
@[simp] theorem State.modPlain_pwr_droops (s : State) (p : Nat) (g : PlainPwr → PlainPwr) : (s.modPlain p g).pwr.droops = s.pwr.droops := rfl
@[simp] theorem State.eachPlain_pwr_droops (s : State) (g : Nat → PlainPwr → PlainPwr) : (s.eachPlain g).pwr.droops = s.pwr.droops :=
  by simp -implicitDefEqProofs [State.eachPlain]
@[simp] theorem foldl_pwr_status {α : Type} {g : State → α → State} (l : List α) (s : State) (hg : ∀ u a, (g u a).pwr.status = u.pwr.status) : (l.foldl g s).pwr.status = s.pwr.status :=
  foldl_keeps (fun s => s.pwr.status) hg l s
theorem ite_pwr_status (c : Prop) [Decidable c] (s t : State) : (if c then s else t).pwr.status = if c then s.pwr.status else t.pwr.status :=
  apply_ite (fun s : State => s.pwr.status) _ _ _
@[simp] theorem State.modPlain_pwr_status (s : State) (p : Nat) (g : PlainPwr → PlainPwr) : (s.modPlain p g).pwr.status = s.pwr.status := rfl
@[simp] theorem State.eachPlain_pwr_status (s : State) (g : Nat → PlainPwr → PlainPwr) : (s.eachPlain g).pwr.status = s.pwr.status :=
  by simp -implicitDefEqProofs [State.eachPlain]
@[simp] theorem foldl_pwr_lowered {α : Type} {g : State → α → State} (l : List α) (s : State) (hg : ∀ u a, (g u a).pwr.lowered = u.pwr.lowered) : (l.foldl g s).pwr.lowered = s.pwr.lowered :=
  foldl_keeps (fun s => s.pwr.lowered) hg l s
theorem ite_pwr_lowered (c : Prop) [Decidable c] (s t : State) : (if c then s else t).pwr.lowered = if c then s.pwr.lowered else t.pwr.lowered :=
  apply_ite (fun s : State => s.pwr.lowered) _ _ _
@[simp] theorem State.modPlain_pwr_lowered (s : State) (p : Nat) (g : PlainPwr → PlainPwr) : (s.modPlain p g).pwr.lowered = s.pwr.lowered := rfl
@[simp] theorem State.eachPlain_pwr_lowered (s : State) (g : Nat → PlainPwr → PlainPwr) : (s.eachPlain g).pwr.lowered = s.pwr.lowered :=
  by simp -implicitDefEqProofs [State.eachPlain]
@[simp] theorem foldl_pwr_aboveFloor {α : Type} {g : State → α → State} (l : List α) (s : State) (hg : ∀ u a, (g u a).pwr.aboveFloor = u.pwr.aboveFloor) : (l.foldl g s).pwr.aboveFloor = s.pwr.aboveFloor :=
  foldl_keeps (fun s => s.pwr.aboveFloor) hg l s
theorem ite_pwr_aboveFloor (c : Prop) [Decidable c] (s t : State) : (if c then s else t).pwr.aboveFloor = if c then s.pwr.aboveFloor else t.pwr.aboveFloor :=
  apply_ite (fun s : State => s.pwr.aboveFloor) _ _ _
@[simp] theorem State.modPlain_pwr_aboveFloor (s : State) (p : Nat) (g : PlainPwr → PlainPwr) : (s.modPlain p g).pwr.aboveFloor = s.pwr.aboveFloor := rfl
@[simp] theorem State.eachPlain_pwr_aboveFloor (s : State) (g : Nat → PlainPwr → PlainPwr) : (s.eachPlain g).pwr.aboveFloor = s.pwr.aboveFloor :=
  by simp -implicitDefEqProofs [State.eachPlain]
@[simp] theorem State.eachPlain_mem (s : State) (g : Nat → PlainPwr → PlainPwr) : (s.eachPlain g).mem = s.mem := by simp -implicitDefEqProofs [State.eachPlain]
@[simp] theorem State.eachPlain_cores (s : State) (g : Nat → PlainPwr → PlainPwr) : (s.eachPlain g).cores = s.cores := by simp -implicitDefEqProofs [State.eachPlain]
@[simp] theorem State.eachPlain_mgt (s : State) (g : Nat → PlainPwr → PlainPwr) : (s.eachPlain g).mgt = s.mgt := by simp -implicitDefEqProofs [State.eachPlain]
@[simp] theorem State.eachPlain_time (s : State) (g : Nat → PlainPwr → PlainPwr) : (s.eachPlain g).time = s.time := by simp -implicitDefEqProofs [State.eachPlain]
@[simp] theorem State.eachPlain_fab (s : State) (g : Nat → PlainPwr → PlainPwr) : (s.eachPlain g).fab = s.fab := by simp -implicitDefEqProofs [State.eachPlain]
@[simp] theorem State.eachPlain_sup (s : State) (g : Nat → PlainPwr → PlainPwr) : (s.eachPlain g).sup = s.sup := by simp -implicitDefEqProofs [State.eachPlain]
@[simp] theorem State.addNum_mgt_log (s : State) (a width k target : Nat) : (s.addNum a width k target).mgt.log = s.mgt.log := by simp [State.addNum]
@[simp] theorem State.setBlob_mgt_log (s : State) (a : Nat) (v : List Byte) (target : Nat) : (s.setBlob a v target).mgt.log = s.mgt.log := rfl
@[simp] theorem State.faultRecord_mgt_log (s : State) (cls unit detail interruption contexts epoch : Nat) : (s.faultRecord cls unit detail interruption contexts epoch).mgt.log = s.mgt.log :=
  by simp [State.faultRecord, ite_mgt_log]
@[simp] theorem State.stopDomains_mem (s : State) : s.stopDomains.mem = s.mem := rfl
@[simp] theorem State.railsOff_mem (s : State) : s.railsOff.mem = s.mem := rfl
@[simp] theorem State.stopDomains_fe (s : State) : s.stopDomains.fe = s.fe := rfl
@[simp] theorem State.railsOff_fe (s : State) : s.railsOff.fe = s.fe := rfl
@[simp] theorem State.stopDomains_mgt (s : State) : s.stopDomains.mgt = s.mgt := rfl
@[simp] theorem State.railsOff_mgt (s : State) : s.railsOff.mgt = s.mgt := rfl

end Sys2Proof.Machine
end

section
/-! Settling O52: the cap, droop, thermal limits, trips and pacing (R400 to R406, R411). -/

namespace Sys2Proof.Machine

/-! A change of the admission values is traced, and changes nothing else. -/

theorem State.traceAdmit_keeps {α : Type} (π : State → α) (h : ∀ (u : State) a b c d e f g i j, π (u.trace a b c d e f g i j) = π u) (s before : State) :
    π (s.traceAdmit before) = π s :=
  foldl_keeps π (fun u p => by split <;> simp only [h]) _ s

@[simp] theorem State.traceAdmit_pwr (s before : State) : (s.traceAdmit before).pwr = s.pwr := State.traceAdmit_keeps (fun s => s.pwr) (fun _ _ _ _ _ _ _ _ _ _ => by simp) s before
@[simp] theorem State.traceAdmit_mgt (s before : State) : (s.traceAdmit before).mgt = s.mgt := State.traceAdmit_keeps (fun s => s.mgt) (fun _ _ _ _ _ _ _ _ _ _ => by simp) s before
@[simp] theorem State.traceAdmit_mem (s before : State) : (s.traceAdmit before).mem = s.mem := State.traceAdmit_keeps (fun s => s.mem) (fun _ _ _ _ _ _ _ _ _ _ => by simp) s before
@[simp] theorem State.traceAdmit_cores (s before : State) : (s.traceAdmit before).cores = s.cores :=
  State.traceAdmit_keeps (fun s => s.cores) (fun _ _ _ _ _ _ _ _ _ _ => by simp) s before
@[simp] theorem State.traceAdmit_rampTarget (s before : State) : (s.traceAdmit before).time.rampTarget = s.time.rampTarget :=
  State.traceAdmit_keeps (fun s => s.time.rampTarget) (fun _ _ _ _ _ _ _ _ _ _ => by simp) s before

theorem State.plain_congr {s t : State} (h : t.pwr.plains = s.pwr.plains) (p : Nat) : t.plain p = s.plain p := by rw [State.plain, State.plain, h]

theorem State.admitOf_congr {s t : State} (hp : t.pwr = s.pwr) (hm : t.mgt.num = s.mgt.num) (p : Nat) : t.admitOf p = s.admitOf p := by
  rw [State.admitOf, State.admitOf, State.plain_congr (congrArg Pwr.plains hp), State.droopLimit, State.droopLimit, hp, State.num_of_mgt_num hm]

theorem State.admitOf_le {s : State} {p : Nat} (h : (s.pwr.clamp || bit s.pwr.droops p || bit s.pwr.droops 16 || bit s.pwr.droops 17 || bit s.pwr.droops 18) = true) :
    s.admitOf p ≤ s.num E.pwrDroopAdmit := by
  have hd : s.droopLimit p = s.num E.pwrDroopAdmit := if_pos h
  rw [State.admitOf, hd]
  exact ((min_le_right _ _).trans (min_le_right _ _)).trans (min_le_right _ _)

/-! Every plain's limits. -/

theorem foldl_modPlain (g : Nat → PlainPwr → PlainPwr) (s : State) (n i : Nat) :
    ((List.range n).foldl (fun s p => s.modPlain p (g p)) s).plain i = if i < n then g i (s.plain i) else s.plain i := by
  induction n with
  | zero => rfl
  | succ n ih =>
    rw [List.range_succ, List.foldl_append, List.foldl_cons, List.foldl_nil]
    by_cases h : i = n
    · subst h
      rw [State.modPlain_plain_self, ih, if_neg (by omega), if_pos (by omega)]
    · rw [State.modPlain_plain_ne _ _ _ h, ih]
      exact if_congr (by omega) rfl rfl

theorem State.eachPlain_plain (s : State) (g : Nat → PlainPwr → PlainPwr) {i : Nat} (h : i < 16) : (s.eachPlain g).plain i = g i (s.plain i) :=
  (foldl_modPlain g s 16 i).trans (if_pos h)

theorem State.raisePwr_plain (s : State) (n p : Nat) : (s.raisePwr n).plain p = s.plain p := State.plain_congr (by simp) p

theorem bit_raisePwr (s : State) (n : Nat) : bit (s.raisePwr n).pwr.status n = true := by simp [bit_setBit]

/-! The fallback of the operating point (R402). -/

section
variable {s : State} {a e : Nat} {next : Int}

theorem fallback_lowers (ha : a ≤ s.num E.pwrAdmitFloor) (hn : next < (e : Int)) (hf : s.num E.pwrPointFallback = 1) (hl : s.pwr.lowered < s.num E.opPointRequest) :
    (s.fallback a e next).pwr.lowered = s.pwr.lowered + 1 ∧ (s.fallback a e next).time.rampTarget = some (s.num E.opPointRequest - (s.pwr.lowered + 1)) ∧
      bit (s.fallback a e next).pwr.status 1 = true := by
  have heq : s.fallback a e next = State.raisePwr { s with pwr.aboveFloor := 0, pwr.lowered := s.pwr.lowered + 1, time.rampTarget := some (s.num E.opPointRequest - (s.pwr.lowered + 1)) } 1 :=
    (if_pos ⟨ha, hn⟩).trans (if_pos ⟨hf, hl⟩)
  rw [heq]
  exact ⟨by rw [State.raisePwr_status], by rw [State.raisePwr_time], bit_raisePwr _ 1⟩

theorem fallback_unmet (ha : a ≤ s.num E.pwrAdmitFloor) (hn : next < (e : Int)) (hor : s.num E.pwrPointFallback ≠ 1 ∨ s.num E.opPointRequest ≤ s.pwr.lowered) :
    (s.fallback a e next).pwr.lowered = s.pwr.lowered ∧ bit (s.fallback a e next).pwr.status 2 = true := by
  have heq : s.fallback a e next = State.raisePwr { s with pwr.aboveFloor := 0 } 2 :=
    (if_pos ⟨ha, hn⟩).trans (if_neg fun ⟨hf, hl⟩ => hor.elim (fun h => h hf) (fun h => absurd hl (Nat.not_lt.mpr h)))
  rw [heq]
  exact ⟨by rw [State.raisePwr_status], bit_raisePwr _ 2⟩

theorem fallback_above (h : s.num E.pwrAdmitFloor + 8 < a) :
    s.fallback a e next = if s.pwr.lowered = 0 then { s with pwr.aboveFloor := min 100 (s.pwr.aboveFloor + 1) }
      else if s.pwr.aboveFloor + 1 < 100 then { s with pwr.aboveFloor := s.pwr.aboveFloor + 1 }
      else { s with pwr.aboveFloor := 0, pwr.lowered := s.pwr.lowered - 1, time.rampTarget := some (s.num E.opPointRequest - (s.pwr.lowered - 1)) } :=
  (if_neg fun hn => absurd hn.1 (by omega)).trans (if_pos h)

theorem fallback_raises (h : s.num E.pwrAdmitFloor + 8 < a) (h99 : 99 ≤ s.pwr.aboveFloor) (hl : s.pwr.lowered ≠ 0) :
    (s.fallback a e next).pwr.lowered = s.pwr.lowered - 1 ∧ (s.fallback a e next).time.rampTarget = some (s.num E.opPointRequest - (s.pwr.lowered - 1)) := by
  rw [fallback_above h, if_neg hl, if_neg (by omega)]
  exact ⟨rfl, rfl⟩

theorem fallback_waits (h : s.num E.pwrAdmitFloor + 8 < a) (h99 : s.pwr.aboveFloor < 99) :
    (s.fallback a e next).pwr.lowered = s.pwr.lowered ∧ (s.fallback a e next).pwr.aboveFloor = s.pwr.aboveFloor + 1 := by
  rw [fallback_above h]
  split
  · exact ⟨rfl, Nat.min_eq_right (by omega)⟩
  · rw [if_pos (by omega)]
    exact ⟨rfl, rfl⟩

end

/-! An evaluation of the cap (R401, R403). -/

/-- The state with the reading entered and every plain's cap limit set. -/
def State.capped (s : State) (e a : Nat) : State :=
  let s1 := s.readEnergy e
  let s2 := s1.eachPlain (fun p x => { x with cap := if s1.mxPlain p then a else 64 })
  if (List.range 16).any (fun p => s1.mxPlain p && decide (a < 64) && decide ((s1.plain p).cap = 64)) then s2.raisePwr 0 else s2

/-- What the new limits leave of the state with the reading entered. -/
theorem State.capped_keeps (s : State) (e a : Nat) :
    (s.capped e a).pwr.history = (s.readEnergy e).pwr.history ∧ (s.capped e a).pwr.excursion = (s.readEnergy e).pwr.excursion ∧
      (s.capped e a).pwr.recovery = (s.readEnergy e).pwr.recovery ∧ (s.capped e a).pwr.energy = (s.readEnergy e).pwr.energy ∧
      (s.capped e a).pwr.lastW = (s.readEnergy e).pwr.lastW ∧ (s.capped e a).pwr.clamp = false ∧ (s.capped e a).pwr.lowered = s.pwr.lowered ∧
      (s.capped e a).pwr.aboveFloor = s.pwr.aboveFloor ∧ (s.capped e a).mgt = s.mgt ∧ (s.capped e a).mem = s.mem ∧ (s.capped e a).cores = s.cores := by
  have h2 : ∀ u : State, u = (s.readEnergy e).eachPlain (fun p x => { x with cap := if (s.readEnergy e).mxPlain p then a else 64 }) →
      u.pwr.history = (s.readEnergy e).pwr.history ∧ u.pwr.excursion = (s.readEnergy e).pwr.excursion ∧ u.pwr.recovery = (s.readEnergy e).pwr.recovery ∧
      u.pwr.energy = (s.readEnergy e).pwr.energy ∧ u.pwr.lastW = (s.readEnergy e).pwr.lastW ∧ u.pwr.clamp = false ∧ u.pwr.lowered = s.pwr.lowered ∧
      u.pwr.aboveFloor = s.pwr.aboveFloor ∧ u.mgt = s.mgt ∧ u.mem = s.mem ∧ u.cores = s.cores := by
    rintro u rfl
    exact ⟨State.eachPlain_pwr_history _ _, State.eachPlain_pwr_excursion _ _, State.eachPlain_pwr_recovery _ _, State.eachPlain_pwr_energy _ _,
      State.eachPlain_pwr_lastW _ _, State.eachPlain_pwr_clamp _ _, State.eachPlain_pwr_lowered _ _, State.eachPlain_pwr_aboveFloor _ _, State.eachPlain_mgt _ _,
      State.eachPlain_mem _ _, State.eachPlain_cores _ _⟩
  obtain ⟨ha, hb, hc, hd, he, hf, hg, hh, hi, hj, hk⟩ := h2 _ rfl
  rw [State.capped]
  split
  · simp only [State.raisePwr_status, State.raisePwr_mgt, State.raisePwr_mem, State.raisePwr_cores]
    exact ⟨ha, hb, hc, hd, he, hf, hg, hh, hi, hj, hk⟩
  · exact ⟨ha, hb, hc, hd, he, hf, hg, hh, hi, hj, hk⟩

theorem State.capped_plain (s : State) (e a : Nat) {i : Nat} (h : i < 16) :
    (s.capped e a).plain i = { s.plain i with cap := if s.mxPlain i = true then a else 64 } := by
  have h2 : ((s.readEnergy e).eachPlain (fun p x => { x with cap := if (s.readEnergy e).mxPlain p then a else 64 })).plain i =
      { s.plain i with cap := if s.mxPlain i = true then a else 64 } := State.eachPlain_plain _ _ h
  rw [State.capped]
  split
  · rw [State.raisePwr_plain, h2]
  · exact h2

theorem evaluates_cap {s : State} {e m full ex rc a : Nat} {p next : Int} (hph : s.sup.phase = .ready) (hfull : 0 < full)
    (hex : ex = (if s.num E.pwrCap * 1000 < e then min 20 (s.pwr.excursion + 1) else 0))
    (hrc : rc = (if s.num E.pwrCap * 1000 < e then (if s.pwr.recovery < 100 then 0 else s.pwr.recovery) else if 0 < s.pwr.excursion then 1 else min 100 (s.pwr.recovery + 1)))
    (hp : p = (s.num E.pwrCap * s.num E.pwrCapWindow * 1000000 : Nat) - (sumNat (((e :: s.pwr.history).take 30000).take (1000 * s.num E.pwrCapWindow - 1)) : Int))
    (hnext : next = min (if 20 ≤ ex ∨ rc < 100 then min p ((s.num E.pwrCap * 1000 : Nat) : Int) else p) 3400000)
    (ha : a = max (s.num E.pwrAdmitFloor) (min 64 (64 * (next - ((e : Int) - (m : Int))) / (full : Int)).toNat)) :
    ∃ t, exec (.powerCapEvaluation e m full) s = .next t ∧ t.pwr.history = (e :: s.pwr.history).take 30000 ∧ t.pwr.excursion = ex ∧ t.pwr.recovery = rc ∧
      t.pwr.energy = (s.pwr.energy + e) % 2 ^ 64 ∧ t.pwr.lastW = e / 1000 % 2 ^ 16 ∧ t.pwr.clamp = false ∧
      (∀ i, i < 16 → t.plain i = { s.plain i with cap := if s.mxPlain i = true then a else 64 }) ∧
      (a ≤ s.num E.pwrAdmitFloor → next < (e : Int) →
        (s.num E.pwrPointFallback = 1 → s.pwr.lowered < s.num E.opPointRequest → t.pwr.lowered = s.pwr.lowered + 1 ∧
          t.time.rampTarget = some (s.num E.opPointRequest - (s.pwr.lowered + 1)) ∧ bit t.pwr.status 1 = true) ∧
        (s.num E.pwrPointFallback ≠ 1 ∨ s.num E.opPointRequest ≤ s.pwr.lowered → t.pwr.lowered = s.pwr.lowered ∧ bit t.pwr.status 2 = true)) ∧
      (s.num E.pwrAdmitFloor + 8 < a → 99 ≤ s.pwr.aboveFloor → s.pwr.lowered ≠ 0 → t.pwr.lowered = s.pwr.lowered - 1 ∧
        t.time.rampTarget = some (s.num E.opPointRequest - (s.pwr.lowered - 1))) ∧
      (s.num E.pwrAdmitFloor + 8 < a → s.pwr.aboveFloor < 99 → t.pwr.lowered = s.pwr.lowered ∧ t.pwr.aboveFloor = s.pwr.aboveFloor + 1) ∧
      t.mem = s.mem ∧ t.cores = s.cores := by
  have hexc : (s.readEnergy e).pwr.excursion = ex := by
    rw [hex]
    simp only [State.readEnergy, decide_eq_true_eq]
  have hrec : (s.readEnergy e).pwr.recovery = rc := by
    rw [hrc]
    simp only [State.readEnergy, decide_eq_true_eq]
  have hnx : (s.readEnergy e).nextPower = next := by
    rw [State.nextPower, hexc, hrec, hnext, hp]
    rfl
  have hclamp : clampDiv (64 * (next - ((e : Int) - (m : Int)))) full (s.num E.pwrAdmitFloor) 64 = a := by
    rw [clampDiv, if_neg (by omega), ha]
  have heq : powerCapEvaluation e m full s = ((s.capped e a).fallback a e next).traceAdmit s := by
    have h0 : powerCapEvaluation e m full s =
        ((s.capped e (clampDiv (64 * ((s.readEnergy e).nextPower - ((e : Int) - (m : Int)))) full (s.num E.pwrAdmitFloor) 64)).fallback
          (clampDiv (64 * ((s.readEnergy e).nextPower - ((e : Int) - (m : Int)))) full (s.num E.pwrAdmitFloor) 64) e (s.readEnergy e).nextPower).traceAdmit s :=
      if_neg (not_not_intro hph)
    rw [h0, hnx, hclamp]
  obtain ⟨hhist, hE, hR, hen, hw, hcl, hlow, habove, hmgt, hmem, hcores⟩ := s.capped_keeps e a
  have hplain (i : Nat) (hi : i < 16) := s.capped_plain e a hi
  generalize s.capped e a = u at heq hhist hE hR hen hw hcl hlow habove hmgt hmem hcores hplain
  have hnum (x : Nat) : u.num x = s.num x := State.num_of_mgt_num (congrArg Mgt.num hmgt) x 0
  refine ⟨_, congrArg Host.Outcome.next heq, ?_⟩
  simp only [State.traceAdmit_pwr, State.traceAdmit_rampTarget, State.traceAdmit_mem, State.traceAdmit_cores, State.fallback_pwr_history, State.fallback_pwr_excursion,
    State.fallback_pwr_recovery, State.fallback_pwr_energy, State.fallback_pwr_lastW, State.fallback_pwr_clamp, State.fallback_mem, State.fallback_cores]
  rw [← hnum, ← hnum, ← hnum, ← hlow, ← habove]
  refine ⟨hhist, hE.trans hexc, hR.trans hrec, hen, hw, hcl, fun i hi => ?_, fun hle hlt => ⟨fun hf hl => fallback_lowers hle hlt hf hl, fun hor => fallback_unmet hle hlt hor⟩,
    fun hgt h99 hl => fallback_raises hgt h99 hl, fun hgt h99 => fallback_waits hgt h99, hmem, hcores⟩
  rw [State.plain_congr (s := u.fallback a e next) (by simp), State.plain_congr (State.fallback_pwr_plains _ _ _ _)]
  exact hplain i hi

/-! Over-current and droop (R403, R404). -/

theorem clamps_overcurrent {s : State} (h : s.sup.phase = .ready) : ∃ t, exec .overcurrentAlarm s = .next t ∧ t.pwr.clamp = true ∧
    (∀ p, t.plain p = s.plain p ∧ t.admitOf p ≤ s.num E.pwrDroopAdmit) ∧ t.pwr.history = s.pwr.history ∧ t.mem = s.mem ∧ t.cores = s.cores := by
  refine ⟨_, congrArg Host.Outcome.next (if_neg (not_not_intro h)), ?_, fun p => ⟨?_, ?_⟩, ?_, ?_, ?_⟩
  · rw [State.traceAdmit_pwr]
  · exact State.plain_congr (congrArg Pwr.plains (State.traceAdmit_pwr _ s) :) p
  · rw [State.admitOf_congr (State.traceAdmit_pwr _ _) (congrArg Mgt.num (State.traceAdmit_mgt _ _))]
    exact State.admitOf_le rfl
  · rw [State.traceAdmit_pwr]
  · rw [State.traceAdmit_mem]
  · rw [State.traceAdmit_cores]

section
variable {s : State} {d : Nat}

/-- The state with a droop begun. -/
def State.drooped (s : State) (d : Nat) : State := (State.raisePwr { s with pwr.droops := setBit s.pwr.droops d } 3).traceAdmit s

theorem State.drooped_pwr (s : State) (d : Nat) : (s.drooped d).pwr = { s.pwr with droops := setBit s.pwr.droops d, status := setBit s.pwr.status 3 } := by
  rw [State.drooped, State.traceAdmit_pwr, State.raisePwr_status]

theorem State.drooped_mgt (s : State) (d : Nat) : (s.drooped d).mgt = s.mgt := by rw [State.drooped, State.traceAdmit_mgt, State.raisePwr_mgt]

/-- Every state with the droops of the drooped one admits no more than the limit of a droop. -/
theorem State.drooped_admit {t : State} {p : Nat} (hd : t.pwr.droops = setBit s.pwr.droops d) (hn : t.num E.pwrDroopAdmit = s.num E.pwrDroopAdmit) (hlt : d < 19) (h : p = d ∨ 16 ≤ d) :
    t.admitOf p ≤ s.num E.pwrDroopAdmit := by
  rw [← hn]
  refine State.admitOf_le ?_
  rw [hd]
  have hself : bit (setBit s.pwr.droops d) d = true := by simp [bit_setBit]
  rcases h with rfl | h
  · simp [hself]
  · interval_cases d <;> simp [hself]

theorem detects_droop (hlt : d < 19) (hb : bit s.pwr.droops d = false) :
    ∃ t, exec (.droopDetect d) s = .next t ∧ bit t.pwr.droops d = true ∧ bit t.pwr.status 3 = true ∧ (∀ k, k ≠ d → bit t.pwr.droops k = bit s.pwr.droops k) ∧
      (∀ p, p = d ∨ 16 ≤ d → t.admitOf p ≤ s.num E.pwrDroopAdmit) ∧
      (d < 16 → (t.plain d).droopCount = min (2 ^ 32 - 1) ((s.plain d).droopCount + 1) ∧ t.num E.droopEvents = (s.num E.droopEvents + 1) % 2 ^ 64) ∧
      (∀ p, p ≠ d → t.plain p = s.plain p) ∧ t.mem = s.mem ∧ t.cores = s.cores := by
  have hself : bit (setBit s.pwr.droops d) d = true := by simp [bit_setBit]
  have hother (k : Nat) (hk : k ≠ d) : bit (setBit s.pwr.droops d) k = bit s.pwr.droops k := by simp [bit_setBit, hk]
  have hst : bit (setBit s.pwr.status 3) 3 = true := by simp [bit_setBit]
  have hpwr := s.drooped_pwr d
  have hmgt := s.drooped_mgt d
  have hmem : (s.drooped d).mem = s.mem := by rw [State.drooped, State.traceAdmit_mem, State.raisePwr_mem]
  have hcores : (s.drooped d).cores = s.cores := by rw [State.drooped, State.traceAdmit_cores, State.raisePwr_cores]
  have heq : droopDetect d s = if d < 16 then
      ((s.drooped d).modPlain d (fun x => { x with droopCount := min (2 ^ 32 - 1) (x.droopCount + 1) })).addNum E.droopEvents 64 else s.drooped d :=
    if_neg (by rw [hb]; simp; omega)
  generalize s.drooped d = u at hpwr hmgt hmem hcores heq
  have hplain (p : Nat) : u.plain p = s.plain p := State.plain_congr (by rw [hpwr]) p
  have hnum (x : Nat) : u.num x = s.num x := State.num_of_mgt_num (congrArg Mgt.num hmgt) x 0
  by_cases h16 : d < 16
  · rw [if_pos h16] at heq
    set v := u.modPlain d (fun x => { x with droopCount := min (2 ^ 32 - 1) (x.droopCount + 1) }) with hv
    have hvp : (v.addNum E.droopEvents 64).pwr = v.pwr := by simp
    have hdr : (v.addNum E.droopEvents 64).pwr.droops = setBit s.pwr.droops d := by
      rw [hvp]
      exact congrArg Pwr.droops hpwr
    refine ⟨_, congrArg Host.Outcome.next heq, by rw [hdr]; exact hself, ?_, fun k hk => by rw [hdr]; exact hother k hk,
      fun p hp => State.drooped_admit hdr ?_ hlt hp, fun _ => ⟨?_, ?_⟩, fun p hp => ?_, ?_, ?_⟩
    · rw [hvp, show v.pwr.status = u.pwr.status from rfl, hpwr]
      exact hst
    · exact (State.num_setNum_of_ne _ _ (by decide)).trans (hnum _)
    · rw [State.plain_congr (congrArg Pwr.plains hvp), hv, State.modPlain_plain_self, hplain]
    · exact (State.num_addNum_self _ _ _ _ _).trans (by rw [show v.num E.droopEvents = u.num E.droopEvents from rfl, hnum])
    · rw [State.plain_congr (congrArg Pwr.plains hvp), hv, State.modPlain_plain_ne _ _ _ hp, hplain]
    · rw [State.addNum_mem]
      exact hmem
    · rw [State.addNum_cores]
      exact hcores
  · rw [if_neg h16] at heq
    have hdr : u.pwr.droops = setBit s.pwr.droops d := by rw [hpwr]
    exact ⟨u, congrArg Host.Outcome.next heq, by rw [hdr]; exact hself, by rw [hpwr]; exact hst, fun k hk => by rw [hdr]; exact hother k hk,
      fun p hp => State.drooped_admit hdr (hnum _) hlt hp, fun h => absurd h h16, fun p _ => hplain p, hmem, hcores⟩

theorem recovers_droop (s : State) (d : Nat) :
    ∃ t, exec (.droopRecover d) s = .next t ∧ bit t.pwr.droops d = false ∧ (∀ k, k ≠ d → bit t.pwr.droops k = bit s.pwr.droops k) ∧
      (∀ p, t.plain p = s.plain p) ∧ t.mgt = s.mgt ∧ t.mem = s.mem ∧ t.cores = s.cores := by
  refine ⟨_, rfl, ?_, fun k hk => ?_, fun p => ?_, ?_, ?_, ?_⟩
  · rw [droopRecover, State.traceAdmit_pwr]
    simp [bit_clrBit]
  · rw [droopRecover, State.traceAdmit_pwr]
    simp [bit_clrBit, hk]
  · exact State.plain_congr (congrArg Pwr.plains (State.traceAdmit_pwr _ s) :) p
  · rw [droopRecover, State.traceAdmit_mgt]
  · rw [droopRecover, State.traceAdmit_mem]
  · rw [droopRecover, State.traceAdmit_cores]

end

end Sys2Proof.Machine
end

section
/-! Settling O52, continued: temperatures, trips and slice pacing (R406, R411). -/

namespace Sys2Proof.Machine

/-! Temperatures (R406). -/

theorem PlainPwr.heat_hot (x : PlainPwr) (now lo : Nat) : (x.heat now lo true) = { x with thermal := max lo (x.thermal - 4), clearSince := none } := rfl

theorem PlainPwr.heat_cool (x : PlainPwr) (now lo : Nat) :
    (x.heat now lo false) = { x with clearSince := some (x.clearSince.getD now), thermal := if 100000000 ≤ now - x.clearSince.getD now then min 64 (x.thermal + 4) else x.thermal } := rfl

theorem PlainPwr.heat_keeps (x : PlainPwr) (now lo : Nat) (hot : Bool) : (x.heat now lo hot).cap = x.cap ∧ (x.heat now lo hot).pacing = x.pacing := by
  cases hot <;> exact ⟨rfl, rfl⟩

theorem foldl_setNum (base : Nat) (f : Nat → Nat) (s : State) (n i : Nat) :
    ((List.range n).foldl (fun s p => s.setNum (base + p) (f p)) s).num (base + i) = if i < n then f i else s.num (base + i) := by
  induction n with
  | zero => rfl
  | succ n ih =>
    rw [List.range_succ, List.foldl_append, List.foldl_cons, List.foldl_nil]
    by_cases h : i = n
    · subst h
      rw [State.num_setNum_self, if_pos (by omega)]
    · rw [State.num_setNum_of_ne _ _ (by omega), ih]
      exact if_congr (by omega) rfl rfl

section
variable (s : State) (h : Temps)

/-- The state with every plain's reading taken and its thermal limit moved. -/
def State.heated (s : State) (h : Temps) : State :=
  s.eachPlain (fun p x => { x.heat s.time.mono (s.num E.pwrAdmitFloor) (decide (s.num E.pwrTjLimit < h.plains.getD p 0)) with tj := h.plains.getD p 0 % 256 })

/-- The stacks whose DRAM is hotter than a limit, as a mask. -/
def hotDram (h : Temps) (limit : Nat) : Nat := ofBitList ((List.range 20).filter (fun n => decide (limit < h.dram.getD n 0)))

/-- The state with the refresh and the rate of the hot stacks changed, and what is raised with them. -/
def State.refreshed (s : State) (h : Temps) : State :=
  let s2 := if (List.range 16).any (fun p => decide ((s.plain p).thermal = 64) && decide (((s.heated h).plain p).thermal < 64)) then (s.heated h).raisePwr 4 else s.heated h
  let s3 : State := { s2 with pwr.refresh2 := hotDram h 85, pwr.dramHalf := hotDram h (s.num E.pwrDramLimit) }
  if hotDram h (s.num E.pwrDramLimit) ≠ 0 ∨ 85 < h.optics then s3.raisePwr 5 else s3

/-- The sensors' readings in their entries. -/
def State.tempsShown (s : State) (h : Temps) : State :=
  (List.range 20).foldl (fun s n => (s.setNum (E.dramTemp + n) (h.dram.getD n 0 % 256)).setNum (E.baseTemp + n) (h.base.getD n 0 % 256))
    ((List.range 16).foldl (fun s p => s.setNum (E.tjPlain + p) (h.plains.getD p 0 % 256)) s)

theorem thermalEvaluation_eq (hp : s.sup.phase = .ready) : thermalEvaluation h s = ((s.refreshed h).traceAdmit s).tempsShown h := if_neg (not_not_intro hp)

theorem State.tempsShown_keeps : (s.tempsShown h).pwr = s.pwr ∧ (s.tempsShown h).mem = s.mem ∧ (s.tempsShown h).cores = s.cores := by
  rw [State.tempsShown]
  refine ⟨?_, ?_, ?_⟩
  · rw [foldl_keeps (fun s => s.pwr) (fun _ _ => by simp), foldl_keeps (fun s => s.pwr) (fun _ _ => by simp)]
  · rw [foldl_keeps (fun s => s.mem) (fun _ _ => by simp), foldl_keeps (fun s => s.mem) (fun _ _ => by simp)]
  · rw [foldl_keeps (fun s => s.cores) (fun _ _ => by simp), foldl_keeps (fun s => s.cores) (fun _ _ => by simp)]

theorem State.tempsShown_plain {p : Nat} (hp : p < 16) : (s.tempsShown h).num (E.tjPlain + p) = h.plains.getD p 0 % 256 := by
  have hd (n : Nat) : E.tjPlain + p ≠ E.dramTemp + n := by simp only [E.tjPlain, E.dramTemp]; omega
  have hb (n : Nat) : E.tjPlain + p ≠ E.baseTemp + n := by simp only [E.tjPlain, E.baseTemp]; omega
  rw [State.tempsShown, foldl_keeps (fun s => s.num (E.tjPlain + p)) (fun u n => (State.num_setNum_of_ne _ _ (hb n)).trans (State.num_setNum_of_ne _ _ (hd n))),
    foldl_setNum, if_pos hp]

theorem State.heated_keeps : (s.heated h).mem = s.mem ∧ (s.heated h).cores = s.cores := ⟨State.eachPlain_mem _ _, State.eachPlain_cores _ _⟩

theorem State.refreshed_keeps : (s.refreshed h).pwr.plains = (s.heated h).pwr.plains ∧ (s.refreshed h).pwr.refresh2 = hotDram h 85 ∧
    (s.refreshed h).pwr.dramHalf = hotDram h (s.num E.pwrDramLimit) ∧ (s.refreshed h).mem = s.mem ∧ (s.refreshed h).cores = s.cores := by
  obtain ⟨hm, hc⟩ := s.heated_keeps h
  rw [State.refreshed]
  generalize s.heated h = v at hm hc
  dsimp only
  (repeat' split) <;> simp [hm, hc]

theorem State.refreshed_bit (hor : hotDram h (s.num E.pwrDramLimit) ≠ 0 ∨ 85 < h.optics) : bit (s.refreshed h).pwr.status 5 = true := by
  rw [State.refreshed]
  dsimp only
  rw [if_pos hor]
  exact bit_raisePwr _ 5

theorem bit_hotDram (limit : Nat) {n : Nat} (hn : n < 20) : bit (hotDram h limit) n = decide (limit < h.dram.getD n 0) := by
  rw [hotDram, bit_ofBitList]
  simp [hn]

theorem evaluates_temps (hp : s.sup.phase = .ready) :
    ∃ t, exec (.thermalEvaluation h) s = .next t ∧ t.mem = s.mem ∧ t.cores = s.cores ∧
      (∀ p, p < 16 → (t.plain p).tj = h.plains.getD p 0 % 256 ∧ t.num (E.tjPlain + p) = h.plains.getD p 0 % 256 ∧
        (t.plain p).cap = (s.plain p).cap ∧ (t.plain p).pacing = (s.plain p).pacing ∧
        (s.num E.pwrTjLimit < h.plains.getD p 0 → (t.plain p).thermal = max (s.num E.pwrAdmitFloor) ((s.plain p).thermal - 4) ∧ (t.plain p).clearSince = none) ∧
        (h.plains.getD p 0 ≤ s.num E.pwrTjLimit → ∀ since, (s.plain p).clearSince = some since →
          (t.plain p).thermal = if 100000000 ≤ s.time.mono - since then min 64 ((s.plain p).thermal + 4) else (s.plain p).thermal) ∧
        (h.plains.getD p 0 ≤ s.num E.pwrTjLimit → (s.plain p).clearSince = none → (t.plain p).thermal = (s.plain p).thermal ∧ (t.plain p).clearSince = some s.time.mono)) ∧
      (∀ n, n < 20 → bit t.pwr.dramHalf n = decide (s.num E.pwrDramLimit < h.dram.getD n 0) ∧ bit t.pwr.refresh2 n = decide (85 < h.dram.getD n 0)) ∧
      ((∃ n, n < 20 ∧ s.num E.pwrDramLimit < h.dram.getD n 0) ∨ 85 < h.optics → bit t.pwr.status 5 = true) := by
  obtain ⟨hpwr, hmem, hcores⟩ := ((s.refreshed h).traceAdmit s).tempsShown_keeps h
  obtain ⟨hplains, hr2, hhalf, hm, hc⟩ := s.refreshed_keeps h
  rw [State.traceAdmit_pwr] at hpwr
  have hbit := s.refreshed_bit h
  refine ⟨_, congrArg Host.Outcome.next (thermalEvaluation_eq s h hp), by rw [hmem, State.traceAdmit_mem, hm], by rw [hcores, State.traceAdmit_cores, hc], fun p hlt => ?_,
    fun n hn => ⟨by rw [hpwr, hhalf, bit_hotDram h _ hn], by rw [hpwr, hr2, bit_hotDram h _ hn]⟩, fun hor => ?_⟩
  · have hplain : (((s.refreshed h).traceAdmit s).tempsShown h).plain p =
        { (s.plain p).heat s.time.mono (s.num E.pwrAdmitFloor) (decide (s.num E.pwrTjLimit < h.plains.getD p 0)) with tj := h.plains.getD p 0 % 256 } :=
      (State.plain_congr ((congrArg Pwr.plains hpwr).trans hplains) p).trans (State.eachPlain_plain s _ hlt)
    obtain ⟨hcap, hpac⟩ := (s.plain p).heat_keeps s.time.mono (s.num E.pwrAdmitFloor) (decide (s.num E.pwrTjLimit < h.plains.getD p 0))
    rw [hplain]
    refine ⟨rfl, State.tempsShown_plain _ h hlt, hcap, hpac, fun hhot => ?_, fun hcool since hs => ?_, fun hcool hs => ?_⟩
    · rw [decide_eq_true hhot, PlainPwr.heat_hot]
      exact ⟨rfl, rfl⟩
    · rw [decide_eq_false (Nat.not_lt.mpr hcool), PlainPwr.heat_cool, hs]
      rfl
    · rw [decide_eq_false (Nat.not_lt.mpr hcool), PlainPwr.heat_cool, hs]
      exact ⟨if_neg (by simp), rfl⟩
  · rw [hpwr]
    refine hbit (hor.imp_left fun ⟨n, hn, hlim⟩ h0 => ?_)
    have hb := bit_hotDram h (s.num E.pwrDramLimit) hn
    rw [h0, decide_eq_true hlim] at hb
    simp [bit] at hb

end

/-! A trip (R406). -/

theorem trips {s : State} {n r : Nat} (hph : s.sup.phase ≠ .off) (haux : s.sup.auxValid = true) (h : tripAt n ≤ r) :
    ∃ t, exec (.thermalTrip n r) s = .next t ∧ t.sup.phase = .off ∧ t.sup.mainPg = false ∧ t.sup.thermTrip = true ∧ t.sup.auxValid = true ∧
      t.sup.mgtLive = s.sup.mgtLive ∧ t.mem = [] ∧ t.fe = FrontEnd.initial ∧ (t.mgt.log.getLast?).map (fun x => x.type) = some 5 := by
  refine ⟨_, congrArg Host.Outcome.next (if_neg (by rw [haux]; simp [hph]; omega)), ?_⟩
  simp only [State.faultRecord_sup, State.faultRecord_mem, State.faultRecord_fe, State.faultRecord_mgt_log, State.logInternal_sup, State.logInternal_mem, State.logInternal_fe,
    State.addNum_sup, State.addNum_mem, State.addNum_fe]
  refine ⟨rfl, rfl, trivial, haux, rfl, rfl, rfl, ?_⟩
  rw [State.logInternal]
  obtain ⟨rec, hlog, -, htype, -⟩ := State.appendLog_log (State.addNum { (s.dropVolatile.wipe 1).railsOff with sup.thermTrip := true, sup.kind := 1, sup.d19Reset := true, pwr.tripped := true } E.thermalTrips 32)
    5 0 0xFF 0 0 0xFFFF (leBytes 1 n ++ leBytes 1 r) []
  rw [hlog, logWith_getLast, Option.map_some, htype]

/-! Slice pacing (R411). -/

/-- The slowest member is one of the list, and no member is before it. -/
theorem slowest_spec : ∀ (l : List (Nat × Nat)), l ≠ [] → ∃ m ∈ l, slowest l = some m ∧ ∀ c ∈ l, m.2 < c.2 ∨ (m.2 = c.2 ∧ m.1 ≤ c.1)
  | [], h => absurd rfl h
  | [c], _ => ⟨c, List.mem_singleton_self c, rfl, fun c' hc' => by rw [List.mem_singleton.mp hc']; exact .inr ⟨rfl, le_refl _⟩⟩
  | c :: d :: t, _ => by
    obtain ⟨m, hm, heq, hmin⟩ := slowest_spec (d :: t) (by simp)
    have hs : slowest (c :: d :: t) = if c.2 < m.2 ∨ (c.2 = m.2 ∧ c.1 ≤ m.1) then some c else some m := by
      rw [slowest, heq]
    by_cases hlt : c.2 < m.2 ∨ (c.2 = m.2 ∧ c.1 ≤ m.1)
    · refine ⟨c, List.mem_cons_self, by rw [hs, if_pos hlt], fun c' hc' => ?_⟩
      rcases List.mem_cons.mp hc' with rfl | hc'
      · exact .inr ⟨rfl, le_refl _⟩
      · have := hmin c' hc'
        omega
    · refine ⟨m, List.mem_cons_of_mem _ hm, by rw [hs, if_neg hlt], fun c' hc' => ?_⟩
      rcases List.mem_cons.mp hc' with rfl | hc'
      · omega
      · exact hmin c' hc'

theorem slowest_of_least {l : List (Nat × Nat)} {m : Nat × Nat} (hm : m ∈ l) (hmin : ∀ c ∈ l, m.2 < c.2 ∨ (m.2 = c.2 ∧ m.1 ≤ c.1)) : slowest l = some m := by
  obtain ⟨m', hm', heq, hmin'⟩ := slowest_spec l (List.ne_nil_of_mem hm)
  have h1 := hmin m' hm'
  have h2 := hmin' m hm
  rw [heq, Prod.ext (show m'.1 = m.1 by omega) (show m'.2 = m.2 by omega)]

section
variable (s : State)

/-- The state with every plain paced at a limit, and the member that sets the pace shown. -/
def State.paced (s : State) (a chip : Nat) : State := ((s.eachPlain (fun _ x => { x with pacing := a })).setNum E.slicePace chip).traceAdmit s

theorem State.paced_effect (a chip : Nat) :
    (∀ p, p < 16 → (s.paced a chip).plain p = { s.plain p with pacing := a }) ∧ (s.paced a chip).num E.slicePace = chip ∧ (s.paced a chip).mem = s.mem := by
  refine ⟨fun p hp => ?_, ?_, ?_⟩
  · rw [State.paced, State.plain_congr (congrArg Pwr.plains (State.traceAdmit_pwr _ _)), State.plain_congr (congrArg Pwr.plains (State.setNum_pwr _ _ _ _)),
      State.eachPlain_plain _ _ hp]
  · exact (State.num_of_mgt_num (congrArg Mgt.num (State.traceAdmit_mgt _ _)) _ 0).trans (State.num_setNum_self _ _ _ _)
  · rw [State.paced, State.traceAdmit_mem, State.setNum_mem, State.eachPlain_mem]

/-- The rates that the pace follows: this chip's own, and those of the other members of the slice that can be reached. -/
def State.paceRates (s : State) (rates : List (Nat × Nat)) : List (Nat × Nat) :=
  (match s.matrixRate with
    | some r => [(s.fab.chipId, r)]
    | none => []) ++ rates.filter (fun r => s.sliceIds.contains r.1 && !decide (r.1 = s.fab.chipId) && !s.fab.unreachable.contains r.1)

theorem State.paceRates_eq (rates : List (Nat × Nat)) : s.paceRates rates = (s.matrixRate.map (fun r => (s.fab.chipId, r))).toList ++
    rates.filter (fun r => s.sliceIds.contains r.1 && !decide (r.1 = s.fab.chipId) && !s.fab.unreachable.contains r.1) := by
  rw [State.paceRates]
  cases s.matrixRate <;> rfl

theorem State.slicePacing_eq (rates : List (Nat × Nat)) (hp : s.sup.phase = .ready) (h : s.num E.pwrSlicePacing = 1) :
    slicePacing rates s = match slowest (s.paceRates rates) with
      | none => s.paced 64 0xFFFF
      | some m => s.paced (if s.chipUnitNow.rateMin = 0 then 64 else
          max (s.num E.pwrAdmitFloor) (min 64 (ceilDiv (102 * m.2) (100000 * s.chipUnitNow.rateMin)))) m.1 :=
  (if_neg (not_not_intro hp)).trans (if_neg (not_not_intro h))

variable {s}

theorem paces_freely {rates : List (Nat × Nat)} (hp : s.sup.phase = .ready) (h : s.num E.pwrSlicePacing ≠ 1) : slicePacing rates s = s.paced 64 0xFFFF :=
  (if_neg (not_not_intro hp)).trans (if_pos h)

theorem paces_slice {rates L : List (Nat × Nat)} {m : Nat × Nat} (hp : s.sup.phase = .ready) (h : s.num E.pwrSlicePacing = 1) (hr : s.chipUnitNow.rateMin ≠ 0)
    (hL : L = (s.matrixRate.map (fun r => (s.fab.chipId, r))).toList ++
      rates.filter (fun r => s.sliceIds.contains r.1 && !decide (r.1 = s.fab.chipId) && !s.fab.unreachable.contains r.1))
    (hm : m ∈ L) (hmin : ∀ c ∈ L, m.2 < c.2 ∨ (m.2 = c.2 ∧ m.1 ≤ c.1)) :
    slicePacing rates s = s.paced (max (s.num E.pwrAdmitFloor) (min 64 (ceilDiv (102 * m.2) (100000 * s.chipUnitNow.rateMin)))) m.1 := by
  have hs : slowest (s.paceRates rates) = some m := by
    rw [s.paceRates_eq, ← hL]
    exact slowest_of_least hm hmin
  rw [s.slicePacing_eq rates hp h, hs]
  dsimp only
  rw [if_neg hr]

end

/-- Settles O52: the cap by what the reading, the limits and the fallback each leave, and temperatures and pacing plain by plain. -/
theorem powerLimits : Obligations.PowerLimits := by
  refine ⟨fun s e m full ex rc a p next hph hfull hex hrc hp hnext ha => evaluates_cap hph hfull hex hrc hp hnext ha, fun s h => clamps_overcurrent h,
    fun s d hlt hb => detects_droop hlt hb, fun s d hb => ⟨fun _ => congrArg Host.Outcome.next (if_pos (.inr hb)), recovers_droop s d⟩,
    fun s h hp => evaluates_temps s h hp, fun s n r hph haux => ⟨fun h => trips hph haux h, fun h => congrArg Host.Outcome.next (if_pos (.inl h))⟩,
    fun s rates hp => ⟨fun h => ?_, fun h hr L m hL hm hmin => ?_⟩⟩
  · obtain ⟨hplain, hnum, hmem⟩ := s.paced_effect 64 0xFFFF
    exact ⟨_, congrArg Host.Outcome.next (paces_freely hp h), hplain, hnum, hmem⟩
  · obtain ⟨hplain, hnum, hmem⟩ := s.paced_effect (max (s.num E.pwrAdmitFloor) (min 64 (ceilDiv (102 * m.2) (100000 * s.chipUnitNow.rateMin)))) m.1
    exact ⟨_, congrArg Host.Outcome.next (paces_slice hp h hr hL hm hmin), hnum, hmem, hplain⟩

end Sys2Proof.Machine
end

section
/-! Settling O54: the checks of a Kamuf frame, its opcodes and the walk of NEXT (R418 to R421). -/

namespace Sys2Proof.Machine

/-! The checks of a frame (R418 to R420). -/

section
variable {s : State} {w : Origin} {x : Frame} {r : EntryInfo} {t : Nat}

theorem frameCheck_bad (h : frameBad x = true) : s.frameCheck w x = .inl 6 := if_pos h

theorem frameCheck_absent (h : frameBad x = false) (he : entryInfo (entryOf x) = none) : s.frameCheck w x = .inl 1 := by
  rw [State.frameCheck, if_neg (by rw [h]; decide), he]

theorem frameCheck_target (h : frameBad x = false) (he : entryInfo (entryOf x) = some r) (ht : s.targetNamed w x r.scope = none)
    (hthere : s.entryThere w (entryOf x) (fnNamed w x) = true) : s.frameCheck w x = .inl 9 := by
  rw [State.frameCheck, if_neg (by rw [h]; decide), he]
  dsimp only
  rw [ht]
  dsimp only
  rw [if_pos hthere]

/-- The rights of an interface over the entry that it names, once the entry is there and live. -/
theorem frameCheck_live (h : frameBad x = false) (he : entryInfo (entryOf x) = some r) (ht : s.targetNamed w x r.scope = some t)
    (hthere : s.entryThere w (entryOf x) t = true) (hlive : s.entryLive (entryOf x) = true) :
    s.frameCheck w x = if (w.isVf && !decide (x.flags % 4 = 0)) || (decide (x.flags % 4 = 2) && decide (r.scope = .function)) ||
        !inReach w (entryOf x) r.scope (decide (x.opcode = 2)) then .inl 3
      else if (x.opcode = 1 ∧ r.access = .wo) ∨ (x.opcode = 2 ∧ r.access = .ro) then .inl 2 else .inr (r, t) := by
  rw [State.frameCheck, if_neg (by rw [h]; decide), he]
  dsimp only
  rw [ht]
  dsimp only
  rw [if_neg (by rw [hthere]; decide), if_neg (by rw [hlive]; decide)]

theorem inReach_of_notVf (h : w.isVf = false) (a : Nat) (scope : EScope) (write : Bool) : inReach w a scope write = true := if_pos (by rw [h]; rfl)

theorem checks_frame (s : State) (w : Origin) (x : Frame) : (frameBad x = true → s.frameCheck w x = .inl 6) ∧
    (frameBad x = false → entryInfo (entryOf x) = none → s.frameCheck w x = .inl 1) ∧
    (∀ r, frameBad x = false → entryInfo (entryOf x) = some r → s.targetNamed w x r.scope = none → s.entryThere w (entryOf x) (fnNamed w x) = true → s.frameCheck w x = .inl 9) ∧
    (∀ r t, frameBad x = false → entryInfo (entryOf x) = some r → s.targetNamed w x r.scope = some t → s.entryThere w (entryOf x) t = true →
      s.entryLive (entryOf x) = true →
      (w.isVf = true → x.flags % 4 ≠ 0 → s.frameCheck w x = .inl 3) ∧ (w.isVf = true → r.scope = .device → x.opcode = 2 → s.frameCheck w x = .inl 3) ∧
      (w.isVf = false → x.flags % 4 = 2 → r.scope = .function → s.frameCheck w x = .inl 3) ∧
      (w.isVf = false → x.flags % 4 < 2 → x.opcode = 2 → r.access = .ro → s.frameCheck w x = .inl 2) ∧
      (w.isVf = false → x.flags % 4 < 2 → x.opcode = 1 → r.access = .wo → s.frameCheck w x = .inl 2) ∧
      (w.isVf = false → x.flags % 4 < 2 → x.opcode = 3 ∨ r.access = .rw → s.frameCheck w x = .inr (r, t))) := by
  refine ⟨frameCheck_bad, frameCheck_absent, fun r h he ht hthere => frameCheck_target h he ht hthere, fun r t h he ht hthere hlive => ?_⟩
  have hc := frameCheck_live h he ht hthere hlive
  have hrights (hv : w.isVf = false) (hf : x.flags % 4 < 2) : ¬ ((w.isVf && !decide (x.flags % 4 = 0)) || (decide (x.flags % 4 = 2) && decide (r.scope = .function)) ||
      !inReach w (entryOf x) r.scope (decide (x.opcode = 2))) = true := by
    have h2 : x.flags % 4 ≠ 2 := by omega
    simp [hv, h2, inReach_of_notVf hv]
  refine ⟨fun hv hf => hc.trans (if_pos (by simp [hv, hf])), fun hv hs ho => hc.trans (if_pos (by simp [hv, hs, ho, inReach])), fun hv hf hs => hc.trans (if_pos (by simp [hf, hs])),
    fun hv hf ho ha => hc.trans ((if_neg (hrights hv hf)).trans (if_pos (.inr ⟨ho, ha⟩))), fun hv hf ho ha => hc.trans ((if_neg (hrights hv hf)).trans (if_pos (.inl ⟨ho, ha⟩))),
    fun hv hf hor => hc.trans ((if_neg (hrights hv hf)).trans (if_neg ?_))⟩
  rcases hor with ho | ha
  · rw [ho]
    omega
  · rw [ha]
    simp

end

/-! The opcodes. -/

section
variable {s : State} {w : Origin} {x : Frame}

/-- A request that is no write of cnt_layer_base is answered at once. -/
theorem State.handle_answers {st : Nat} {body : List Byte} {u : State} (hm : s.mgtAnswers w = true) (hr : s.request w x = (st, body, u))
    (hb : entryOf x = E.cntLayerBase → u = s) : s.handle w x = { u with mgt.lastFrame := some (responseTo x st body) } := by
  rw [State.handle, if_neg (by rw [hm]; decide)]
  dsimp only
  rw [hr]
  refine if_neg fun ⟨he, hn, hs⟩ => ?_
  rw [show (st, body, u).2.2 = s from hb he] at hs
  cases hbase : (s.cntFn (fnNamed w x)).baseAfter <;> simp [hbase] at hn hs

theorem State.handleAs_eq (n : Nat) (h : x.opcode = n) : s.handleAs w x n = s.handle w x := if_pos (.inl h)

theorem State.handleAs_silent (hm : s.mgtAnswers w = false) (n : Nat) : s.handleAs w x n = s := by
  have hh : s.handle w x = s := if_pos (by rw [hm]; rfl)
  rw [State.handleAs, hh, ite_self]

theorem State.request_checked (h : x.opcode ≠ 4) :
    s.request w x = match s.frameCheck w x with
      | .inl st => (st, [], s)
      | .inr (r, t) =>
        if x.opcode = 1 then (0, s.readBody w x t, s)
        else if x.opcode = 3 then (0, describeBody (entryOf x) t r, s)
        else ((s.writeSegment w x t).mgt.answer, [], s.writeSegment w x t) := by
  exact if_neg (by rw [decide_eq_false h, Bool.and_false]; decide)

theorem State.request_refused {st : Nat} (h : x.opcode ≠ 4) (hc : s.frameCheck w x = .inl st) : s.request w x = (st, [], s) := by
  rw [State.request_checked h, hc]

theorem State.request_read {r : EntryInfo} {t : Nat} (h : x.opcode = 1) (hc : s.frameCheck w x = .inr (r, t)) : s.request w x = (0, s.readBody w x t, s) := by
  rw [State.request_checked (by omega), hc]
  exact if_pos h

theorem State.request_describe {r : EntryInfo} {t : Nat} (h : x.opcode = 3) (hc : s.frameCheck w x = .inr (r, t)) :
    s.request w x = (0, describeBody (entryOf x) t r, s) := by
  rw [State.request_checked (by omega), hc]
  exact (if_neg (by omega)).trans (if_pos h)

theorem State.request_write {r : EntryInfo} {t : Nat} (h : x.opcode = 2) (hc : s.frameCheck w x = .inr (r, t)) :
    s.request w x = ((s.writeSegment w x t).mgt.answer, [], s.writeSegment w x t) := by
  rw [State.request_checked (by omega), hc]
  exact (if_neg (by omega)).trans (if_neg (by omega))

/-! WRITE: the segments of an entry (R421). -/

/-- A first segment. -/
theorem writeSegment_first {t : Nat} (hi : entryOf x ≠ E.updateImage) (hh : s.mgt.asm.find? (fun y => decide (y.entry = entryOf x ∧ y.target = t)) = none) :
    s.writeSegment w x t =
      if x.offset ≠ 0 then (s.dropAsm (entryOf x) t).answer 8
      else if entryMaxLen (entryOf x) < x.body.length then (s.dropAsm (entryOf x) t).answer 4
      else if bit x.flags 2 then (s.dropAsm (entryOf x) t).writeEntry w (entryOf x) t x.body
      else State.answer { s.dropAsm (entryOf x) t with mgt.asm := (s.dropAsm (entryOf x) t).mgt.asm ++
          [{ entry := entryOf x, target := t, who := w, bytes := x.body, lastAt := s.time.mono }] } 0 := by
  unfold State.writeSegment
  simp only [hh]
  exact if_neg hi

/-- A segment of a value that is being assembled. -/
theorem writeSegment_next {t : Nat} {y : Assembly} (hi : entryOf x ≠ E.updateImage)
    (hh : s.mgt.asm.find? (fun y => decide (y.entry = entryOf x ∧ y.target = t)) = some y) :
    s.writeSegment w x t =
      if !decide (y.who = w) then s.answer 7
      else if x.offset ≠ y.bytes.length then (s.dropAsm (entryOf x) t).answer 8
      else if entryMaxLen (entryOf x) < (y.bytes ++ x.body).length then (s.dropAsm (entryOf x) t).answer 4
      else if bit x.flags 2 then (s.dropAsm (entryOf x) t).writeEntry w (entryOf x) t (y.bytes ++ x.body)
      else State.answer { s.dropAsm (entryOf x) t with mgt.asm := (s.dropAsm (entryOf x) t).mgt.asm ++
          [{ entry := entryOf x, target := t, who := w, bytes := y.bytes ++ x.body, lastAt := s.time.mono }] } 0 := by
  unfold State.writeSegment
  simp only [hh]
  exact if_neg hi

theorem State.dropAsm_of_none {a t : Nat} (h : ∀ y ∈ s.mgt.asm, ¬ (y.entry = a ∧ y.target = t)) : s.dropAsm a t = s := by
  have hf : s.mgt.asm.filter (fun y => !decide (y.entry = a ∧ y.target = t)) = s.mgt.asm :=
    List.filter_eq_self.mpr fun y hy => by rw [decide_eq_false (h y hy)]; rfl
  rw [State.dropAsm, hf]

theorem State.dropAsm_none (s : State) (a t : Nat) : ∀ z ∈ (s.dropAsm a t).mgt.asm, ¬ (z.entry = a ∧ z.target = t) := by
  intro z hz h
  have hf := (List.mem_filter.mp hz).2
  rw [decide_eq_true h] at hf
  exact absurd hf (by decide)

section
variable {r : EntryInfo} {t : Nat} (hm : s.mgtAnswers w = true) (hc : s.frameCheck w x = .inr (r, t)) (ho : x.opcode = 2) (hi : entryOf x ≠ E.updateImage)
  (hb : entryOf x ≠ E.cntLayerBase)
include hm hc ho hb

theorem kamufWrite_eq : exec (.kamufWrite w x) s =
    .next { s.writeSegment w x t with mgt.lastFrame := some (responseTo x (s.writeSegment w x t).mgt.answer []) } :=
  congrArg Host.Outcome.next ((State.handleAs_eq 2 ho).trans (State.handle_answers hm (State.request_write ho hc) (fun h => absurd h hb)))

include hi

theorem writes_whole (hno : ∀ y ∈ s.mgt.asm, ¬ (y.entry = entryOf x ∧ y.target = t)) (hoff : x.offset = 0) (hlast : bit x.flags 2 = true)
    (hlen : x.body.length ≤ entryMaxLen (entryOf x)) :
    ∃ u, u = s.writeEntry w (entryOf x) t x.body ∧ exec (.kamufWrite w x) s = .next { u with mgt.lastFrame := some (responseTo x u.mgt.answer []) } := by
  have hfind : s.mgt.asm.find? (fun y => decide (y.entry = entryOf x ∧ y.target = t)) = none :=
    List.find?_eq_none.mpr fun y hy => by rw [decide_eq_false (hno y hy)]; decide
  have hseg : s.writeSegment w x t = s.writeEntry w (entryOf x) t x.body := by
    rw [writeSegment_first hi hfind, if_neg (not_not_intro hoff), if_neg (Nat.not_lt.mpr hlen), if_pos hlast, State.dropAsm_of_none hno]
  exact ⟨_, rfl, by rw [kamufWrite_eq hm hc ho hb, hseg]⟩

section
variable {y : Assembly} (hy : s.mgt.asm.find? (fun y => decide (y.entry = entryOf x ∧ y.target = t)) = some y)
include hy

theorem writes_foreign (hw : y.who ≠ w) : ∃ u, exec (.kamufWrite w x) s = .next u ∧ u.mgt.lastFrame = some (responseTo x 7 []) ∧ u.mgt.asm = s.mgt.asm ∧
    u.mgt.num = s.mgt.num ∧ u.mgt.log = s.mgt.log := by
  have hseg : s.writeSegment w x t = s.answer 7 := by
    rw [writeSegment_next hi hy, if_pos (by simp [hw])]
  exact ⟨_, kamufWrite_eq hm hc ho hb, by rw [hseg]; rfl, by rw [hseg]; rfl, by rw [hseg]; rfl, by rw [hseg]; rfl⟩

theorem writes_gap (hw : y.who = w) (hoff : x.offset ≠ y.bytes.length) : ∃ u, exec (.kamufWrite w x) s = .next u ∧ u.mgt.lastFrame = some (responseTo x 8 []) ∧
    (∀ z ∈ u.mgt.asm, ¬ (z.entry = entryOf x ∧ z.target = t)) ∧ u.mgt.num = s.mgt.num ∧ u.mgt.log = s.mgt.log := by
  have hseg : s.writeSegment w x t = (s.dropAsm (entryOf x) t).answer 8 := by
    rw [writeSegment_next hi hy, if_neg (by simp [hw]), if_pos hoff]
  exact ⟨_, kamufWrite_eq hm hc ho hb, by rw [hseg]; rfl, by rw [hseg]; exact s.dropAsm_none _ _, by rw [hseg]; rfl, by rw [hseg]; rfl⟩

theorem writes_segment (hw : y.who = w) (hoff : x.offset = y.bytes.length) (hlen : y.bytes.length + x.body.length ≤ entryMaxLen (entryOf x)) (hlast : bit x.flags 2 = false) :
    ∃ u, exec (.kamufWrite w x) s = .next u ∧ u.mgt.lastFrame = some (responseTo x 0 []) ∧ u.mgt.num = s.mgt.num ∧ u.mgt.log = s.mgt.log ∧
      { entry := entryOf x, target := t, who := w, bytes := y.bytes ++ x.body, lastAt := s.time.mono : Assembly } ∈ u.mgt.asm := by
  have hseg : s.writeSegment w x t = State.answer { s.dropAsm (entryOf x) t with mgt.asm := (s.dropAsm (entryOf x) t).mgt.asm ++
      [{ entry := entryOf x, target := t, who := w, bytes := y.bytes ++ x.body, lastAt := s.time.mono }] } 0 := by
    rw [writeSegment_next hi hy, if_neg (by simp [hw]), if_neg (not_not_intro hoff), if_neg (by rw [List.length_append]; exact Nat.not_lt.mpr hlen), if_neg (by rw [hlast]; decide)]
  exact ⟨_, kamufWrite_eq hm hc ho hb, by rw [hseg]; rfl, by rw [hseg]; rfl, by rw [hseg]; rfl, by rw [hseg]; exact List.mem_append_right _ (List.mem_singleton_self _)⟩

end

end

end

/-! NEXT: the entries in order of their addresses. -/

/-- Is a row clear of an interval of addresses, or exactly that interval? -/
def clearOf (r : EntryInfo) (b n : Nat) : Prop := (r.base = b ∧ r.count = n) ∨ r.base + r.count ≤ b ∨ b + n ≤ r.base

/-- A row lies on one side of every list whose presence or reach differs. -/
def rowRegular (r : EntryInfo) : Prop :=
  clearOf r E.parentUnit 1 ∧ clearOf r E.bar2Base 1 ∧ clearOf r E.coreList 384 ∧ clearOf r E.plainList 16 ∧ clearOf r E.partitionList 64 ∧
    clearOf r E.tiedMemberList 4 ∧ clearOf r E.sliceMemberList 4096 ∧
    (r.base + r.count ≤ 0x100000 ∨ (0x100000 ≤ r.base ∧ r.base + r.count ≤ 0x120000) ∨ 0x120000 ≤ r.base) ∧ r.base + r.count < 0xFFFFFF

/-- The same as a test. -/
def isRegular (r : EntryInfo) : Bool :=
  let clear (b n : Nat) : Bool := (r.base == b && r.count == n) || decide (r.base + r.count ≤ b) || decide (b + n ≤ r.base)
  clear E.parentUnit 1 && clear E.bar2Base 1 && clear E.coreList 384 && clear E.plainList 16 && clear E.partitionList 64 && clear E.tiedMemberList 4 &&
    clear E.sliceMemberList 4096 && (decide (r.base + r.count ≤ 0x100000) || (decide (0x100000 ≤ r.base) && decide (r.base + r.count ≤ 0x120000)) || decide (0x120000 ≤ r.base)) &&
    decide (r.base + r.count < 0xFFFFFF)

set_option maxRecDepth 20000 in
theorem entryTable_isRegular : entryTable.all isRegular = true := by decide

theorem entryTable_regular {r : EntryInfo} (h : r ∈ entryTable) : rowRegular r := by
  have hr := List.all_eq_true.mp entryTable_isRegular r h
  simp only [isRegular, Bool.and_eq_true, Bool.or_eq_true, decide_eq_true_eq, beq_iff_eq, and_assoc, or_assoc] at hr
  exact hr

theorem inList_down {r : EntryInfo} {b n lo k : Nat} (h : clearOf r b n) (hlo : r.base ≤ lo) (hle : lo ≤ k) (hk : k < r.base + r.count) : inList b n lo = inList b n k := by
  rw [inList, inList, ← Bool.decide_and, ← Bool.decide_and]
  refine decide_eq_decide.mpr ?_
  rcases h with ⟨hb, hn⟩ | h | h <;> omega

theorem ne_of_clear {r : EntryInfo} {b lo k : Nat} (h : clearOf r b 1) (hlo : r.base ≤ lo) (hlt : lo < k) (hk : k < r.base + r.count) : lo ≠ b ∧ k ≠ b := by
  rcases h with ⟨hb, hn⟩ | h | h <;> omega

theorem ite_imp {c : Prop} [Decidable c] {a b a' b' : Bool} (h : (if c then a else b) = true) (ha : a = true → a' = true) (hb : b = true → b' = true) :
    (if c then a' else b') = true := by
  split at h
  · next hc => exact (if_pos hc).trans (ha h)
  · next hc => exact (if_neg hc).trans (hb h)

/-- With an item of a row present, every earlier item of the row is. -/
theorem State.entryThere_down (s : State) (w : Origin) (f : Nat) {r : EntryInfo} {lo k : Nat} (hr : r ∈ entryTable) (hlo : r.base ≤ lo) (hle : lo ≤ k)
    (hk : k < r.base + r.count) (h : s.entryThere w k f = true) : s.entryThere w lo f = true := by
  rcases Nat.eq_or_lt_of_le hle with heq | hlt
  · rwa [heq]
  obtain ⟨hparent, hbar, hcore, hplain, hpart, htied, hslice, -⟩ := entryTable_regular hr
  obtain ⟨hp, hp'⟩ := ne_of_clear hparent hlo hlt hk
  obtain ⟨hb, hb'⟩ := ne_of_clear hbar hlo hlt hk
  have hsome : (entryInfo lo).isSome = true := List.find?_isSome.mpr ⟨r, hr, by simp; omega⟩
  rw [State.entryThere, Bool.and_eq_true, if_neg hp', if_neg hb'] at h
  rw [State.entryThere, Bool.and_eq_true, if_neg hp, if_neg hb, inList_down hcore hlo hle hk, inList_down hplain hlo hle hk, inList_down hpart hlo hle hk,
    inList_down htied hlo hle hk, inList_down hslice hlo hle hk]
  refine ⟨hsome, ?_⟩
  have hitem {n : Nat} (l : Nat) (h : decide (k - l < n) = true) : decide (lo - l < n) = true :=
    decide_eq_true (lt_of_le_of_lt (Nat.sub_le_sub_right hle l) (of_decide_eq_true h))
  exact ite_imp h.2 (hitem _) (fun h => ite_imp h (hitem _) (fun h => ite_imp h (hitem _) (fun h => ite_imp h (hitem _) (fun h => ite_imp h (hitem _) (fun _ => rfl)))))

theorem inReach_down {w : Origin} {r : EntryInfo} {lo k : Nat} (hr : r ∈ entryTable) (hlo : r.base ≤ lo) (hle : lo ≤ k) (hk : k < r.base + r.count)
    (h : inReach w k r.scope false = true) : inReach w lo r.scope false = true := by
  obtain ⟨-, -, -, -, -, -, -, hside, -⟩ := entryTable_regular hr
  have heq : decide (0x1000 ≤ lo / 256 ∧ lo / 256 ≤ 0x11FF) = decide (0x1000 ≤ k / 256 ∧ k / 256 ≤ 0x11FF) := decide_eq_decide.mpr (by omega)
  rw [inReach, heq]
  exact h

theorem State.nextIn_spec {s : State} {w : Origin} {a f m : Nat} {r : EntryInfo} (h : s.nextIn w a f r = some m) : a < m ∧ s.entryThere w m f = true := by
  rw [State.nextIn] at h
  split at h
  · exact absurd h (by simp)
  · split at h
    · next hthere =>
      rw [← Option.some.inj h]
      exact ⟨by omega, hthere⟩
    · exact absurd h (by simp)

/-- A present item that a reader may read gives its row an item in the walk. -/
theorem State.nextIn_of_there {s : State} {w : Origin} {a f k : Nat} {r : EntryInfo} (hr : entryInfo k = some r) (ha : a < k) (hacc : r.access ≠ .wo)
    (hreach : inReach w k r.scope false = true) (hthere : s.entryThere w k f = true) : ∃ lo, lo ≤ k ∧ s.nextIn w a f r = some lo := by
  have hmem := List.mem_of_find?_eq_some hr
  have hin := List.find?_some hr
  simp only [Bool.and_eq_true, decide_eq_true_eq] at hin
  have hle : max (a + 1) r.base ≤ k := by omega
  have hb : r.base ≤ max (a + 1) r.base := le_max_right _ _
  refine ⟨_, hle, ?_⟩
  have hnot : ¬ (r.access = .wo ∨ r.base + r.count ≤ max (a + 1) r.base ∨ (!inReach w (max (a + 1) r.base) r.scope false) = true) := by
    rw [inReach_down hmem hb hle hin.2 hreach]
    simp only [Bool.not_true, Bool.false_eq_true, or_false, not_or]
    exact ⟨hacc, by omega⟩
  exact (if_neg hnot).trans (if_pos (s.entryThere_down w f hmem hb hle hin.2 hthere))

theorem foldl_min_le (l : List Nat) (c : Nat) : l.foldl min c ≤ c ∧ ∀ x ∈ l, l.foldl min c ≤ x := by
  induction l generalizing c with
  | nil => exact ⟨le_refl c, fun _ h => absurd h List.not_mem_nil⟩
  | cons a l ih =>
    obtain ⟨hc, hl⟩ := ih (min c a)
    refine ⟨hc.trans (min_le_left _ _), fun x hx => ?_⟩
    rcases List.mem_cons.mp hx with rfl | hx
    · exact hc.trans (min_le_right _ _)
    · exact hl x hx

theorem foldl_min_mem (l : List Nat) (c : Nat) : l.foldl min c ∈ c :: l := by
  induction l generalizing c with
  | nil => exact List.mem_singleton_self c
  | cons a l ih =>
    rcases List.mem_cons.mp (ih (min c a)) with h | h
    · rw [List.foldl_cons, h]
      rcases min_choice c a with h | h <;> rw [h] <;> simp
    · exact List.mem_cons_of_mem _ (List.mem_cons_of_mem _ h)

/-- The answer of NEXT: the least of the rows' next items. -/
theorem nextBody_spec (s : State) (w : Origin) (x : Frame) : ∃ m, s.nextBody w x = leBytes 2 (m / 256) ++ leBytes 1 (m % 256) ∧
    (m = 0xFFFFFF ∨ (entryOf x < m ∧ s.entryThere w m (fnNamed w x) = true)) ∧
    (∀ k r, entryOf x < k → k < m → k < 0xFFFFFF → entryInfo k = some r → r.access ≠ .wo → inReach w k r.scope false = true → s.entryThere w k (fnNamed w x) = false) := by
  have hnone {l : List Nat} (hl : entryTable.filterMap (s.nextIn w (entryOf x) (fnNamed w x)) = l) {m : Nat} (hmin : ∀ c ∈ l, m ≤ c) :
      ∀ k r, entryOf x < k → k < m → k < 0xFFFFFF → entryInfo k = some r → r.access ≠ .wo → inReach w k r.scope false = true → s.entryThere w k (fnNamed w x) = false := by
    intro k r ha hk _ hr hacc hreach
    by_contra hthere
    obtain ⟨lo, hlo, hnext⟩ := State.nextIn_of_there hr ha hacc hreach (Bool.not_eq_false _ ▸ hthere)
    have hmem : lo ∈ l := hl ▸ List.mem_filterMap.mpr ⟨r, List.mem_of_find?_eq_some hr, hnext⟩
    exact absurd (hmin lo hmem) (by omega)
  rw [State.nextBody]
  cases hl : entryTable.filterMap (s.nextIn w (entryOf x) (fnNamed w x)) with
  | nil => exact ⟨0xFFFFFF, by decide, .inl rfl, hnone hl (fun c hc => absurd hc List.not_mem_nil)⟩
  | cons c t =>
    obtain ⟨hc, ht⟩ := foldl_min_le t c
    have hmem : t.foldl min c ∈ entryTable.filterMap (s.nextIn w (entryOf x) (fnNamed w x)) := hl ▸ foldl_min_mem t c
    obtain ⟨r, -, hr⟩ := List.mem_filterMap.mp hmem
    refine ⟨t.foldl min c, rfl, .inr (State.nextIn_spec hr), hnone hl fun d hd => ?_⟩
    rcases List.mem_cons.mp hd with rfl | hd
    · exact hc
    · exact ht d hd

section
variable {s : State} {w : Origin} {x : Frame}

theorem State.request_next (hb : frameBad x = false) (ho : x.opcode = 4) :
    s.request w x = if w.isVf && !decide (x.flags % 4 = 0) then (3, [], s) else (0, s.nextBody w x, s) := by
  rw [State.request, hb, decide_eq_true ho]
  exact if_pos rfl

theorem answers_next (hm : s.mgtAnswers w = true) (hb : frameBad x = false) (ho : x.opcode = 4) :
    (w.isVf = true → x.flags % 4 ≠ 0 → exec (.kamufNext w x) s = .next { s with mgt.lastFrame := some (responseTo x 3 []) }) ∧
      (w.isVf = false ∨ x.flags % 4 = 0 → ∃ m, exec (.kamufNext w x) s = .next { s with mgt.lastFrame := some (responseTo x 0 (leBytes 2 (m / 256) ++ leBytes 1 (m % 256))) } ∧
        (m = 0xFFFFFF ∨ (entryOf x < m ∧ s.entryThere w m (fnNamed w x) = true)) ∧
        (∀ k r, entryOf x < k → k < m → k < 0xFFFFFF → entryInfo k = some r → r.access ≠ .wo → inReach w k r.scope false = true →
          s.entryThere w k (fnNamed w x) = false)) := by
  refine ⟨fun hv hf => ?_, fun hor => ?_⟩
  · have hr := (State.request_next (s := s) (w := w) hb ho).trans (if_pos (by simp [hv, hf]))
    exact congrArg Host.Outcome.next ((State.handleAs_eq 4 ho).trans (State.handle_answers hm hr (fun _ => rfl)))
  · obtain ⟨m, hbody, hspec, hnone⟩ := nextBody_spec s w x
    have hr := (State.request_next (s := s) (w := w) hb ho).trans (if_neg (by rcases hor with h | h <;> simp [h]))
    rw [hbody] at hr
    exact ⟨m, congrArg Host.Outcome.next ((State.handleAs_eq 4 ho).trans (State.handle_answers hm hr (fun _ => rfl))), hspec, hnone⟩

end

end Sys2Proof.Machine
end

section
/-! Settling O54, continued: a write of an entry, assemblies, the mailbox and the MCTP control commands (R416, R421 to R424). -/

namespace Sys2Proof.Machine

/-! A write of queue_timeout. -/

section
variable {q : Nat} (hq : q < 16)
include hq

theorem entryInfo_queueTimeout : entryInfo (E.queueTimeout + q) = some ⟨0x310100, 16, .u32, .rw, .function, false, 2000000⟩ := by
  interval_cases q <;> rfl

theorem rowNum_queueTimeout (s : State) (w : Origin) (f v : Nat) : s.rowNum w (E.queueTimeout + q) f v = none := by
  interval_cases q <;> rfl

theorem checkUnits_queueTimeout (s : State) (f v : Nat) : s.checkUnits (E.queueTimeout + q) f v = some (okOr (decide (10 ≤ v)) 4) := by
  interval_cases q <;> rfl

theorem effectNum_queueTimeout (s : State) (old v : Nat) : s.effectNum (E.queueTimeout + q) old v = s := by
  interval_cases q <;> rfl

theorem entryMaxLen_queueTimeout : entryMaxLen (E.queueTimeout + q) = 4 := by
  interval_cases q <;> rfl

theorem writeEntry_queueTimeout (s : State) (w : Origin) {f v : Nat} (h10 : 10 ≤ v) (hv : v < 2 ^ 32) :
    s.writeEntry w (E.queueTimeout + q) f (leBytes 4 v) = s.dictNum w (E.queueTimeout + q) f v := by
  have hval : ofLe (leBytes 4 v) = v := (ofLe_leBytes 4 v).trans (Nat.mod_eq_of_lt hv)
  have hcheck : s.checkNum (E.queueTimeout + q) f v = 0 := by
    rw [State.checkNum, checkUnits_queueTimeout hq, decide_eq_true h10]
    rfl
  have hne : E.queueTimeout + q ≠ E.pwrDroopAdmit := by simp only [E.queueTimeout, E.pwrDroopAdmit]; omega
  rw [State.writeEntry, entryInfo_queueTimeout hq]
  dsimp only
  rw [if_neg (by decide), entryMaxLen_queueTimeout hq, length_leBytes, if_neg (by decide), if_neg (by decide), if_pos (by decide), hval, if_neg (show ¬ (!EType.encodes .u32 v) = true from Bool.false_ne_true),
    rowNum_queueTimeout hq, Option.getD_none, State.plainNum, hcheck, if_neg (by decide), if_neg hne, effectNum_queueTimeout hq]

theorem writes_timeout (s : State) (w : Origin) {f v : Nat} {b : List Byte} (hb : b = leBytes 4 v) (h10 : 10 ≤ v) (hv : v < 2 ^ 32) :
    ∃ u, s.writeEntry w (E.queueTimeout + q) f b = u ∧ u.num (E.queueTimeout + q) f = v ∧ u.mgt.answer = 0 ∧ u.mem = s.mem ∧ u.fe = s.fe ∧
      (u.mgt.log.getLast?).map (fun r => (r.type, r.index * 256 + r.sub, r.target, r.new)) = some (1, E.queueTimeout + q, f, logValue b) := by
  have hrow := entryInfo_queueTimeout hq
  have hsome : (entryInfo (E.queueTimeout + q)).isSome := by rw [hrow]; rfl
  have heq : s.dictNum w (E.queueTimeout + q) f v =
      (s.setNum (E.queueTimeout + q) v f).dictLogged w (E.queueTimeout + q) f (leBytes 4 (s.num (E.queueTimeout + q) f)) (leBytes 4 v) := by
    rw [State.dictNum, hrow]
    rfl
  refine ⟨_, by rw [hb]; exact writeEntry_queueTimeout hq s w h10 hv, s.dictNum_num_self _ _ _ _ hsome, ?_, by simp, by simp, ?_⟩
  · rw [heq]
    exact (State.dictLogged_last hsome _ _ _ _).1
  · obtain ⟨r, hlog, -, htype, -, -, -, hindex, hsub, htarget, -, hnew⟩ := (s.setNum (E.queueTimeout + q) v f).appendLog_log 1 w.iface w.logFn ((E.queueTimeout + q) / 256)
      ((E.queueTimeout + q) % 256) f (leBytes 4 (s.num (E.queueTimeout + q) f)) (leBytes 4 v)
    have hl : (s.dictNum w (E.queueTimeout + q) f v).mgt.log = logWith (s.setNum (E.queueTimeout + q) v f).mgt.log r := by
      rw [heq, State.dictLogged, hrow]
      exact hlog
    rw [hl, logWith_getLast, Option.map_some, htype, hindex, hsub, htarget, hnew, Nat.div_add_mod', hb]

end

/-! An assembly that has waited for a second (R421). -/

theorem State.setImage_keeps (s : State) (l : List Byte) : (s.setImage l).mgt.asm = s.mgt.asm ∧ (s.setImage l).mgt.log = s.mgt.log ∧ (s.setImage l).mem = s.mem := by
  rw [State.setImage]
  exact ⟨by simp, by simp, by simp⟩

theorem times_out {s : State} {i : Nat} {a : Assembly} (h : s.mgt.asm[i]? = some a) :
    (s.time.mono - a.lastAt < 1000000000 → exec (.segmentAssemblyTimeout i) s = .next s) ∧
      (1000000000 ≤ s.time.mono - a.lastAt → ∃ t, exec (.segmentAssemblyTimeout i) s = .next t ∧ t.mgt.asm = s.mgt.asm.eraseIdx i ∧ t.mgt.log = s.mgt.log ∧
        (a.entry ≠ E.updateImage → t.mgt.num = s.mgt.num) ∧ (a.entry = E.updateImage → (t.mgt.slot s.inactive).image = [] ∧ t.num E.updateReceived = 0) ∧ t.mem = s.mem) := by
  have heq : segmentAssemblyTimeout i s = if 1000000000 ≤ s.time.mono - a.lastAt then
      (if a.entry = E.updateImage then State.setImage { s with mgt.asm := s.mgt.asm.eraseIdx i } [] else { s with mgt.asm := s.mgt.asm.eraseIdx i }) else s := by
    rw [segmentAssemblyTimeout, h]
  refine ⟨fun hlt => congrArg Host.Outcome.next (heq.trans (if_neg (Nat.not_le.mpr hlt))), fun hle => ?_⟩
  rw [if_pos hle] at heq
  by_cases he : a.entry = E.updateImage
  · rw [if_pos he] at heq
    obtain ⟨hasm, hlog, hmem⟩ := State.setImage_keeps { s with mgt.asm := s.mgt.asm.eraseIdx i } []
    exact ⟨_, congrArg Host.Outcome.next heq, hasm, hlog, fun hne => absurd he hne,
      fun _ => ⟨State.setImage_slot { s with mgt.asm := s.mgt.asm.eraseIdx i } [], State.setImage_received { s with mgt.asm := s.mgt.asm.eraseIdx i } []⟩, hmem⟩
  · rw [if_neg he] at heq
    exact ⟨_, congrArg Host.Outcome.next heq, rfl, rfl, fun _ => rfl, fun h => absurd h he, rfl⟩

/-! The mailbox (R424). -/

theorem State.modMbox_self (s : State) (f : Nat) (g : Mailbox → Mailbox) : (s.modMbox f g).mbox f = g (s.mbox f) := SMap.getD_modify_self _ _ _ _

theorem State.modMbox_ne (s : State) {f k : Nat} (g : Mailbox → Mailbox) (h : k ≠ f) : (s.modMbox f g).mbox k = s.mbox k := SMap.getD_modify_ne _ _ _ h

section
variable (s : State) (f v : Nat)

/-- The state with the control fields of a mailbox written. -/
def State.mbControl (s : State) (f v : Nat) : State :=
  s.modMbox f (fun m => { m with irqEnable := bit v 16, vector := if bits v 13 8 < vectorsOf f then bits v 13 8 else m.vector })

theorem State.mbControl_self : (s.mbControl f v).mbox f =
    { s.mbox f with irqEnable := bit v 16, vector := if bits v 13 8 < vectorsOf f then bits v 13 8 else (s.mbox f).vector } := s.modMbox_self f _

theorem State.mbControl_ne {k : Nat} (h : k ≠ f) : (s.mbControl f v).mbox k = s.mbox k := s.modMbox_ne _ h

theorem mailboxGo_eq : mailboxGo f v s =
    if !bit v 0 then s.mbControl f v
    else if ((s.mbControl f v).mbox f).busy then (s.mbControl f v).modMbox f (fun m => { m with overrun := true })
    else { (s.mbControl f v).modMbox f (fun m => { m with busy := true }) with
      mgt.inFlight := ((s.mbControl f v).modMbox f (fun m => { m with busy := true })).mgt.inFlight ++
        [(mailboxOf f, (((s.mbControl f v).mbox f).buf.getD 2 0#8).toNat)] } := rfl

/-- A mailbox that takes a request. -/
def State.mbTaken (s : State) (f : Nat) : State :=
  { s.modMbox f (fun m => { m with busy := true }) with mgt.inFlight := s.mgt.inFlight ++ [(mailboxOf f, ((s.mbox f).buf.getD 2 0#8).toNat)] }

theorem State.mbTaken_self : (s.mbTaken f).mbox f = { s.mbox f with busy := true } := s.modMbox_self f (fun m => { m with busy := true })

theorem State.mbTaken_ne {k : Nat} (h : k ≠ f) : (s.mbTaken f).mbox k = s.mbox k := s.modMbox_ne (fun m => { m with busy := true }) h

theorem goes_mailbox : ∃ t, exec (.mailboxGo f v) s = .next t ∧ (t.mbox f).irqEnable = bit v 16 ∧
    (t.mbox f).vector = (if bits v 13 8 < vectorsOf f then bits v 13 8 else (s.mbox f).vector) ∧ (∀ k, k ≠ f → t.mbox k = s.mbox k) ∧ t.mem = s.mem ∧ t.hif = s.hif ∧
    (bit v 0 = false → (t.mbox f).busy = (s.mbox f).busy ∧ (t.mbox f).overrun = (s.mbox f).overrun ∧ t.mgt.inFlight = s.mgt.inFlight) ∧
    (bit v 0 = true → (s.mbox f).busy = true → (t.mbox f).overrun = true ∧ (t.mbox f).busy = true ∧ t.mgt.inFlight = s.mgt.inFlight) ∧
    (bit v 0 = true → (s.mbox f).busy = false → (t.mbox f).busy = true ∧ (t.mbox f).overrun = (s.mbox f).overrun ∧
      t.mgt.inFlight = s.mgt.inFlight ++ [(mailboxOf f, ((s.mbox f).buf.getD 2 0#8).toNat)]) := by
  have heq := mailboxGo_eq s f v
  have hself := s.mbControl_self f v
  have hne (k : Nat) (hk : k ≠ f) := s.mbControl_ne f v hk
  have hfl : (s.mbControl f v).mgt.inFlight = s.mgt.inFlight := rfl
  have hmem : (s.mbControl f v).mem = s.mem := rfl
  have hhif : (s.mbControl f v).hif = s.hif := rfl
  generalize s.mbControl f v = u at heq hself hne hfl hmem hhif
  cases h0 : bit v 0 with
  | false =>
    rw [if_pos (by rw [h0]; rfl)] at heq
    refine ⟨u, congrArg Host.Outcome.next heq, by rw [hself], by rw [hself], hne, hmem, hhif, fun _ => ⟨by rw [hself], by rw [hself], hfl⟩,
      fun h => absurd h (by decide), fun h => absurd h (by decide)⟩
  | true =>
    rw [if_neg (by rw [h0]; decide)] at heq
    cases hb : (s.mbox f).busy with
    | true =>
      rw [if_pos (by rw [hself]; exact hb)] at heq
      have hm : (u.modMbox f (fun m => { m with overrun := true })).mbox f = _ := (u.modMbox_self f _).trans (congrArg (fun m : Mailbox => { m with overrun := true }) hself)
      refine ⟨_, congrArg Host.Outcome.next heq, by rw [hm], by rw [hm], fun k hk => (u.modMbox_ne _ hk).trans (hne k hk), hmem, hhif, fun h => absurd h (by decide),
        fun _ _ => ⟨by rw [hm], by rw [hm]; exact hb, hfl⟩, fun _ h => absurd h (by decide)⟩
    | false =>
      rw [if_neg (by rw [hself, hb]; decide)] at heq
      have hm : (u.mbTaken f).mbox f = _ := (u.mbTaken_self f).trans (congrArg (fun m : Mailbox => { m with busy := true }) hself)
      refine ⟨u.mbTaken f, congrArg Host.Outcome.next heq, by rw [hm], by rw [hm], fun k hk => (u.mbTaken_ne f hk).trans (hne k hk), hmem, hhif,
        fun h => absurd h (by decide), fun _ h => absurd h (by decide), fun _ _ => ⟨by rw [hm], by rw [hm], ?_⟩⟩
      rw [show (u.mbTaken f).mgt.inFlight = u.mgt.inFlight ++ [(mailboxOf f, ((u.mbox f).buf.getD 2 0#8).toNat)] from rfl, hfl, hself]

end

theorem length_overlay (l : List Byte) (off : Nat) (v : List Byte) (h : off + v.length ≤ l.length) : (overlay l off v).length = l.length := by
  rw [overlay, List.length_take, List.length_append, List.length_append, List.length_take, List.length_drop]
  omega

theorem length_responseBytes (m : Mailbox) (status : Nat) (body : List Byte) : (responseBytes (m.bytes 16) status body).length = 16 + body.length := by
  have h16 : ((m.bytes 16).take 16).length = 16 := by simp [Mailbox.bytes]
  have h1 : (overlay ((m.bytes 16).take 16) 3 (leBytes 1 status)).length = 16 := (length_overlay _ _ _ (by rw [h16, length_leBytes]; decide)).trans h16
  rw [responseBytes, List.length_append, length_overlay _ _ _ (by rw [h1, length_leBytes]; decide), h1]

/-- What a response in the buffer leaves in the mailbox. -/
theorem State.mbRespond_mbox (s : State) (f st : Nat) (body : List Byte) :
    ((s.mbRespond f st body).mbox f).busy = false ∧ ((s.mbRespond f st body).mbox f).done = true ∧ ((s.mbRespond f st body).mbox f).status = st ∧
      ((s.mbRespond f st body).mbox f).rspLen = 16 + body.length := by
  set g : Mailbox → Mailbox := fun m => { m.fill (responseBytes ((s.mbox f).bytes 16) st body) with
    rspLen := (responseBytes ((s.mbox f).bytes 16) st body).length, busy := false, done := true, status := st, delayed := false } with hg
  have heq : s.mbRespond f st body = if (s.mbox f).irqEnable then (s.modMbox f g).signal f (s.mbox f).vector else s.modMbox f g := rfl
  have hm : (s.mbRespond f st body).mbox f = g (s.mbox f) := by
    rw [heq]
    split
    · rw [State.mbox, State.signal_mgt]
      exact s.modMbox_self f g
    · exact s.modMbox_self f g
  rw [hm]
  exact ⟨rfl, rfl, rfl, length_responseBytes _ _ _⟩

theorem State.mbRespond_signals (s : State) {f : Nat} (st : Nat) (body : List Byte) (hi : (s.mbox f).irqEnable = true) (hg : (s.fn f).gate = .opened) :
    ((s.mbRespond f st body).vec f (s.mbox f).vector).due = true := by
  rw [State.mbRespond]
  dsimp only
  rw [if_pos hi]
  exact signal_due _ hg

theorem State.mbRespond_fe (s : State) (f status : Nat) (body : List Byte) : (s.mbRespond f status body).fe = s.fe := by
  unfold State.mbRespond
  dsimp only
  split <;> simp

section
variable {s : State} {f : Nat} (hb : (s.mbox f).busy = true) (hd : (s.mbox f).delayed = false) (hm : s.mgtAnswers (mailboxOf f) = true) (ho : s.oldestMailbox = some f)
include hb hd hm ho

theorem mailboxResponse_due : mailboxResponse f s =
    if (s.mbox f).reqLen < 16 ∨ 4096 < (s.mbox f).reqLen ∨ (s.mbox f).buf.getD 3 0#8 ≠ 0#8 then (s.leaveDispatcher f).mbRespond f 6 []
    else if ((((s.leaveDispatcher f).request (mailboxOf f) (frameOf ((s.mbox f).bytes (s.mbox f).reqLen))).2.2).mbox f).delayed then
      ((s.leaveDispatcher f).request (mailboxOf f) (frameOf ((s.mbox f).bytes (s.mbox f).reqLen))).2.2
    else (((s.leaveDispatcher f).request (mailboxOf f) (frameOf ((s.mbox f).bytes (s.mbox f).reqLen))).2.2).mbRespond f
      ((s.leaveDispatcher f).request (mailboxOf f) (frameOf ((s.mbox f).bytes (s.mbox f).reqLen))).1
      ((s.leaveDispatcher f).request (mailboxOf f) (frameOf ((s.mbox f).bytes (s.mbox f).reqLen))).2.1 :=
  if_neg (by simp [hb, hd, hm, ho])

theorem responds_badLength (hl : (s.mbox f).reqLen < 16 ∨ 4096 < (s.mbox f).reqLen) :
    ∃ t, exec (.mailboxResponse f) s = .next t ∧ (t.mbox f).busy = false ∧ (t.mbox f).done = true ∧ (t.mbox f).status = 6 ∧ (t.mbox f).rspLen = 16 ∧
      ((s.mbox f).irqEnable = true → (s.fn f).gate = .opened → (t.vec f (s.mbox f).vector).due = true) := by
  have heq := (mailboxResponse_due hb hd hm ho).trans (if_pos (hl.imp_right .inl))
  obtain ⟨hbusy, hdone, hst, hlen⟩ := (s.leaveDispatcher f).mbRespond_mbox f 6 []
  exact ⟨_, congrArg Host.Outcome.next heq, hbusy, hdone, hst, hlen, fun hi hg => (s.leaveDispatcher f).mbRespond_signals 6 [] hi hg⟩

theorem responds_request {st : Nat} {body : List Byte} {u : State} (h16 : 16 ≤ (s.mbox f).reqLen) (hmax : (s.mbox f).reqLen ≤ 4096) (h3 : (s.mbox f).buf.getD 3 0#8 = 0#8)
    (hr : (s.leaveDispatcher f).request (mailboxOf f) (frameOf ((s.mbox f).bytes (s.mbox f).reqLen)) = (st, body, u)) (hu : (u.mbox f).delayed = false) :
    ∃ t, exec (.mailboxResponse f) s = .next t ∧ (t.mbox f).busy = false ∧ (t.mbox f).done = true ∧ (t.mbox f).status = st ∧ (t.mbox f).rspLen = 16 + body.length ∧
      t.mem = u.mem ∧ t.mgt.num = u.mgt.num ∧ t.fe = u.fe := by
  have hgood : ¬ ((s.mbox f).reqLen < 16 ∨ 4096 < (s.mbox f).reqLen ∨ (s.mbox f).buf.getD 3 0#8 ≠ 0#8) := by
    rw [h3]
    simp only [ne_eq, not_true_eq_false, or_false]
    omega
  have heq := (mailboxResponse_due hb hd hm ho).trans (if_neg hgood)
  rw [hr] at heq
  obtain ⟨hbusy, hdone, hst, hlen⟩ := u.mbRespond_mbox f st body
  exact ⟨_, congrArg Host.Outcome.next (heq.trans (if_neg (by rw [hu]; decide))), hbusy, hdone, hst, hlen, u.mbRespond_mem f st body, u.mbRespond_num f st body,
    u.mbRespond_fe f st body⟩

end

/-! MCTP control (R423). -/

theorem answers_control {s : State} (n : Nat) (ha : s.sup.auxValid = true) (hl : s.sup.mgtLive = true) :
    (0 < n → n < 255 → exec (.setEndpointId n) s = .next { s with mgt.eid := n, mgt.ctrlResp := [0#8, 0#8, BitVec.ofNat 8 n, 0#8] }) ∧
    (n = 0 ∨ 255 ≤ n → exec (.setEndpointId n) s = .next { s with mgt.ctrlResp := [2#8] }) ∧
    exec .getEndpointId s = .next { s with mgt.ctrlResp := [0#8, BitVec.ofNat 8 s.mgt.eid, 0#8, 0#8] } ∧
    exec (.getMctpVersionSupport 0xFF) s = .next { s with mgt.ctrlResp := [0#8, 1#8, 0xF1#8, 0xF3#8, 0xF0#8, 0#8] } ∧
    exec .getMessageTypeSupport s = .next { s with mgt.ctrlResp := [0#8, 1#8, 0x7E#8] } ∧
    exec (.getVendorDefinedMessageSupport 0) s = .next { s with mgt.ctrlResp := [0#8, 0xFF#8, 0#8, 0x1F#8, 0x3D#8, 0#8, 0#8] } ∧
    (n ≠ 0 → exec (.getVendorDefinedMessageSupport n) s = .next { s with mgt.ctrlResp := [2#8] }) := by
  have hreply (u : State) (hu : u.sup = s.sup) (body : List Byte) : u.controlReply body = { u with mgt.ctrlResp := body } := if_pos (by rw [hu, ha, hl]; rfl)
  refine ⟨fun h0 h255 => ?_, fun hor => ?_, ?_, ?_, ?_, ?_, fun hn => ?_⟩
  · have hbytes : leBytes 1 0 ++ leBytes 1 0 ++ leBytes 1 n ++ leBytes 1 0 = [0#8, 0#8, BitVec.ofNat 8 n, 0#8] := by
      rw [leBytes_one n]
      rfl
    have heq : setEndpointId n s = State.controlReply { s with mgt.eid := n } (leBytes 1 0 ++ leBytes 1 0 ++ leBytes 1 n ++ leBytes 1 0) :=
      (if_neg (by omega)).trans (if_pos (by rw [ha, hl]; rfl))
    rw [hbytes] at heq
    exact congrArg Host.Outcome.next (heq.trans (hreply { s with mgt.eid := n } rfl _))
  · exact congrArg Host.Outcome.next ((if_pos hor).trans (hreply s rfl _))
  · have hbytes : leBytes 1 0 ++ leBytes 1 s.mgt.eid ++ leBytes 2 0 = [0#8, BitVec.ofNat 8 s.mgt.eid, 0#8, 0#8] := by
      rw [leBytes_one s.mgt.eid]
      rfl
    have heq : getEndpointId s = s.controlReply (leBytes 1 0 ++ leBytes 1 s.mgt.eid ++ leBytes 2 0) := rfl
    rw [hbytes] at heq
    exact congrArg Host.Outcome.next (heq.trans (hreply s rfl _))
  · exact congrArg Host.Outcome.next ((if_pos (.inl rfl)).trans (hreply s rfl _))
  · exact congrArg Host.Outcome.next (hreply s rfl _)
  · exact congrArg Host.Outcome.next ((if_pos rfl).trans (hreply s rfl _))
  · exact congrArg Host.Outcome.next ((if_neg hn).trans (hreply s rfl _))

/-- What a request does by its opcode, once its frame is checked. -/
theorem answers_request (s : State) (w : Origin) (x : Frame) (hm : s.mgtAnswers w = true) :
    (∀ st, s.frameCheck w x = .inl st →
      (x.opcode = 1 → exec (.kamufRead w x) s = .next { s with mgt.lastFrame := some (responseTo x st []) }) ∧
      (x.opcode = 2 → exec (.kamufWrite w x) s = .next { s with mgt.lastFrame := some (responseTo x st []) }) ∧
      (x.opcode = 3 → exec (.kamufDescribe w x) s = .next { s with mgt.lastFrame := some (responseTo x st []) })) ∧
    (∀ r t, s.frameCheck w x = .inr (r, t) →
      (x.opcode = 1 → entryOf x ≠ E.logRecords →
        exec (.kamufRead w x) s = .next { s with mgt.lastFrame := some (responseTo x 0 (((s.readEntry w (entryOf x) t).drop x.offset).take 4080)) }) ∧
      (x.opcode = 1 → entryOf x = E.logRecords → exec (.kamufRead w x) s = .next { s with mgt.lastFrame := some (responseTo x 0 (s.logFrom x.offset)) }) ∧
      (x.opcode = 3 → exec (.kamufDescribe w x) s = .next { s with mgt.lastFrame := some (responseTo x 0 (describeBody (entryOf x) t r)) })) := by
  refine ⟨fun st hc => ?_, fun r t hc => ?_⟩
  · have hans (h : x.opcode ≠ 4) : s.handle w x = { s with mgt.lastFrame := some (responseTo x st []) } :=
      State.handle_answers hm (State.request_refused h hc) (fun _ => rfl)
    exact ⟨fun ho => congrArg Host.Outcome.next ((State.handleAs_eq 1 ho).trans (hans (by omega))),
      fun ho => congrArg Host.Outcome.next ((State.handleAs_eq 2 ho).trans (hans (by omega))),
      fun ho => congrArg Host.Outcome.next ((State.handleAs_eq 3 ho).trans (hans (by omega)))⟩
  · have hread (ho : x.opcode = 1) : exec (.kamufRead w x) s = .next { s with mgt.lastFrame := some (responseTo x 0 (s.readBody w x t)) } :=
      congrArg Host.Outcome.next ((State.handleAs_eq 1 ho).trans (State.handle_answers hm (State.request_read ho hc) (fun _ => rfl)))
    refine ⟨fun ho hlog => ?_, fun ho hlog => ?_, fun ho => ?_⟩
    · rw [hread ho, State.readBody, if_neg hlog]
    · rw [hread ho, State.readBody, if_pos hlog]
    · exact congrArg Host.Outcome.next ((State.handleAs_eq 3 ho).trans (State.handle_answers hm (State.request_describe ho hc) (fun _ => rfl)))

/-- Settles O54: the checks of a frame in their order, each opcode by the answer that it gives, and NEXT by the rows of the entry table, of which each lies on one side of every list. -/
theorem kamufRequests : Obligations.KamufRequests := by
  refine ⟨checks_frame, fun s w x hm => ⟨(answers_request s w x hm).1, fun r t hc => ?_, fun hb ho => answers_next hm hb ho⟩,
    fun s w x hm => ⟨congrArg Host.Outcome.next (State.handleAs_silent hm 1), congrArg Host.Outcome.next (State.handleAs_silent hm 2),
      congrArg Host.Outcome.next (State.handleAs_silent hm 3), congrArg Host.Outcome.next (State.handleAs_silent hm 4)⟩,
    fun s f v q b w hq _ hb h10 hv => writes_timeout hq s w hb h10 hv, fun s i a h => times_out h, fun s f v => goes_mailbox s f v,
    fun s f hb hd hm ho => ⟨fun hl => responds_badLength hb hd hm ho hl, fun st body u h16 hmax h3 hr hu => responds_request hb hd hm ho h16 hmax h3 hr hu⟩,
    fun s n ha hl => answers_control n ha hl⟩
  obtain ⟨hread, hlog, hdesc⟩ := (answers_request s w x hm).2 r t hc
  exact ⟨hread, hlog, hdesc, fun ho hi hb => ⟨fun hno hoff hlast hlen => writes_whole hm hc ho hi hb hno hoff hlast hlen, fun y hy =>
    ⟨fun hw => writes_foreign hm hc ho hi hb hy hw, fun hw hoff => writes_gap hm hc ho hi hb hy hw hoff,
      fun hw hoff hlen hlast => writes_segment hm hc ho hi hb hy hw hoff hlen hlast⟩⟩⟩

end Sys2Proof.Machine
end

section
/-! What partitions, slabs and the start of a function's reset leave of the state. -/

namespace Sys2Proof.Machine

@[simp] theorem State.linesToI_cores (s : State) (p : Nat → Bool) : (s.linesToI p).cores = s.cores := by simp [State.linesToI]
@[simp] theorem State.linesToI_fe (s : State) (p : Nat → Bool) : (s.linesToI p).fe = s.fe := by simp [State.linesToI]
@[simp] theorem State.linesToI_sup (s : State) (p : Nat → Bool) : (s.linesToI p).sup = s.sup := by simp [State.linesToI]
@[simp] theorem State.linesToI_time (s : State) (p : Nat → Bool) : (s.linesToI p).time = s.time := by simp [State.linesToI]
@[simp] theorem State.poisonGranule_stk_rowZeroing (s : State) (g : Nat) : (s.poisonGranule g).stk.rowZeroing = s.stk.rowZeroing :=
  by simp [State.poisonGranule, ite_stk_rowZeroing]
@[simp] theorem State.writeBack_stk_rowZeroing (s : State) (line : Nat) (data : List Byte) (poison : Nat) : (s.writeBack line data poison).stk.rowZeroing = s.stk.rowZeroing :=
  by simp [State.writeBack, ite_stk_rowZeroing]
@[simp] theorem State.cohMsg_stk (s : State) (dst seq op addr : Nat) (data : List Byte) (poison : Nat) : (s.cohMsg dst seq op addr data poison).stk = s.stk := rfl
@[simp] theorem State.tellCopies_stk (s : State) (line sharers : Nat) : (s.tellCopies line sharers).stk = s.stk := by
  unfold State.tellCopies
  exact foldl_keeps (fun s => s.stk) (fun _ _ => by (repeat' split) <;> simp) _ _
@[simp] theorem State.dropReplicas_stk (s : State) (line : Nat) : (s.dropReplicas line).stk = s.stk := rfl
@[simp] theorem State.lineToI_stk_rowZeroing (s : State) (line : Nat) : (s.lineToI line).stk.rowZeroing = s.stk.rowZeroing := by
  unfold State.lineToI
  (repeat' split) <;> simp
@[simp] theorem State.linesToI_stk_rowZeroing (s : State) (p : Nat → Bool) : (s.linesToI p).stk.rowZeroing = s.stk.rowZeroing := by simp [State.linesToI]
@[simp] theorem foldl_l2_replicas {α : Type} {g : State → α → State} (l : List α) (s : State) (hg : ∀ u a, (g u a).l2.replicas = u.l2.replicas) : (l.foldl g s).l2.replicas = s.l2.replicas :=
  foldl_keeps (fun s => s.l2.replicas) hg l s
theorem ite_l2_replicas (c : Prop) [Decidable c] (s t : State) : (if c then s else t).l2.replicas = if c then s.l2.replicas else t.l2.replicas :=
  apply_ite (fun s : State => s.l2.replicas) _ _ _
@[simp] theorem State.bankGranule_l2_replicas (s : State) (pa : Nat) (data : List Byte) : (s.bankGranule pa data).l2.replicas = s.l2.replicas :=
  by simp [State.bankGranule, ite_l2_replicas]
@[simp] theorem State.writeBack_l2_replicas (s : State) (line : Nat) (data : List Byte) (poison : Nat) : (s.writeBack line data poison).l2.replicas = s.l2.replicas :=
  by simp [State.writeBack, ite_l2_replicas]
@[simp] theorem foldl_l2_nacked {α : Type} {g : State → α → State} (l : List α) (s : State) (hg : ∀ u a, (g u a).l2.nacked = u.l2.nacked) : (l.foldl g s).l2.nacked = s.l2.nacked :=
  foldl_keeps (fun s => s.l2.nacked) hg l s
theorem ite_l2_nacked (c : Prop) [Decidable c] (s t : State) : (if c then s else t).l2.nacked = if c then s.l2.nacked else t.l2.nacked :=
  apply_ite (fun s : State => s.l2.nacked) _ _ _
@[simp] theorem State.bankGranule_l2_nacked (s : State) (pa : Nat) (data : List Byte) : (s.bankGranule pa data).l2.nacked = s.l2.nacked :=
  by simp [State.bankGranule, ite_l2_nacked]
@[simp] theorem State.writeBack_l2_nacked (s : State) (line : Nat) (data : List Byte) (poison : Nat) : (s.writeBack line data poison).l2.nacked = s.l2.nacked :=
  by simp [State.writeBack, ite_l2_nacked]
@[simp] theorem State.signal_hif_fns (s : State) (f v : Nat) : (s.signal f v).hif.fns = s.hif.fns := by simp [State.signal, ite_hif_fns]
@[simp] theorem foldl_hif_vfEnable {α : Type} {g : State → α → State} (l : List α) (s : State) (hg : ∀ u a, (g u a).hif.vfEnable = u.hif.vfEnable) : (l.foldl g s).hif.vfEnable = s.hif.vfEnable :=
  foldl_keeps (fun s => s.hif.vfEnable) hg l s
theorem ite_hif_vfEnable (c : Prop) [Decidable c] (s t : State) : (if c then s else t).hif.vfEnable = if c then s.hif.vfEnable else t.hif.vfEnable :=
  apply_ite (fun s : State => s.hif.vfEnable) _ _ _
@[simp] theorem State.modVec_hif_vfEnable (s : State) (f v : Nat) (g : Vector → Vector) : (s.modVec f v g).hif.vfEnable = s.hif.vfEnable := rfl
@[simp] theorem State.signal_hif_vfEnable (s : State) (f v : Nat) : (s.signal f v).hif.vfEnable = s.hif.vfEnable := by simp [State.signal, ite_hif_vfEnable]
@[simp] theorem foldl_hif_numVfs {α : Type} {g : State → α → State} (l : List α) (s : State) (hg : ∀ u a, (g u a).hif.numVfs = u.hif.numVfs) : (l.foldl g s).hif.numVfs = s.hif.numVfs :=
  foldl_keeps (fun s => s.hif.numVfs) hg l s
theorem ite_hif_numVfs (c : Prop) [Decidable c] (s t : State) : (if c then s else t).hif.numVfs = if c then s.hif.numVfs else t.hif.numVfs :=
  apply_ite (fun s : State => s.hif.numVfs) _ _ _
@[simp] theorem State.modVec_hif_numVfs (s : State) (f v : Nat) (g : Vector → Vector) : (s.modVec f v g).hif.numVfs = s.hif.numVfs := rfl
@[simp] theorem State.signal_hif_numVfs (s : State) (f v : Nat) : (s.signal f v).hif.numVfs = s.hif.numVfs := by simp [State.signal, ite_hif_numVfs]
@[simp] theorem foldl_hif_zeroing {α : Type} {g : State → α → State} (l : List α) (s : State) (hg : ∀ u a, (g u a).hif.zeroing = u.hif.zeroing) : (l.foldl g s).hif.zeroing = s.hif.zeroing :=
  foldl_keeps (fun s => s.hif.zeroing) hg l s
theorem ite_hif_zeroing (c : Prop) [Decidable c] (s t : State) : (if c then s else t).hif.zeroing = if c then s.hif.zeroing else t.hif.zeroing :=
  apply_ite (fun s : State => s.hif.zeroing) _ _ _
@[simp] theorem State.modVec_hif_zeroing (s : State) (f v : Nat) (g : Vector → Vector) : (s.modVec f v g).hif.zeroing = s.hif.zeroing := rfl
@[simp] theorem State.signal_hif_zeroing (s : State) (f v : Nat) : (s.signal f v).hif.zeroing = s.hif.zeroing := by simp [State.signal, ite_hif_zeroing]
@[simp] theorem State.raiseMgt_hif_fns (s : State) (n : Nat) : (s.raiseMgt n).hif.fns = s.hif.fns := by simp [State.raiseMgt, ite_hif_fns]
@[simp] theorem State.appendLog_hif_fns (s : State) (type iface fn index sub target : Nat) (old new : List Byte) : (s.appendLog type iface fn index sub target old new).hif.fns = s.hif.fns :=
  by simp [State.appendLog, ite_hif_fns]
@[simp] theorem State.dictLogged_hif_fns (s : State) (w : Origin) (a target : Nat) (old new : List Byte) : (s.dictLogged w a target old new).hif.fns = s.hif.fns := by
  unfold State.dictLogged
  (repeat' split) <;> simp
@[simp] theorem State.raiseMgt_hif_parts (s : State) (n : Nat) : (s.raiseMgt n).hif.parts = s.hif.parts := by simp [State.raiseMgt, ite_hif_parts]
@[simp] theorem State.appendLog_hif_parts (s : State) (type iface fn index sub target : Nat) (old new : List Byte) : (s.appendLog type iface fn index sub target old new).hif.parts = s.hif.parts :=
  by simp [State.appendLog, ite_hif_parts]
@[simp] theorem State.dictLogged_hif_parts (s : State) (w : Origin) (a target : Nat) (old new : List Byte) : (s.dictLogged w a target old new).hif.parts = s.hif.parts := by
  unfold State.dictLogged
  (repeat' split) <;> simp
@[simp] theorem State.raiseMgt_hif_vfEnable (s : State) (n : Nat) : (s.raiseMgt n).hif.vfEnable = s.hif.vfEnable := by simp [State.raiseMgt, ite_hif_vfEnable]
@[simp] theorem State.appendLog_hif_vfEnable (s : State) (type iface fn index sub target : Nat) (old new : List Byte) : (s.appendLog type iface fn index sub target old new).hif.vfEnable = s.hif.vfEnable :=
  by simp [State.appendLog, ite_hif_vfEnable]
@[simp] theorem State.dictLogged_hif_vfEnable (s : State) (w : Origin) (a target : Nat) (old new : List Byte) : (s.dictLogged w a target old new).hif.vfEnable = s.hif.vfEnable := by
  unfold State.dictLogged
  (repeat' split) <;> simp
@[simp] theorem State.raiseMgt_hif_numVfs (s : State) (n : Nat) : (s.raiseMgt n).hif.numVfs = s.hif.numVfs := by simp [State.raiseMgt, ite_hif_numVfs]
@[simp] theorem State.appendLog_hif_numVfs (s : State) (type iface fn index sub target : Nat) (old new : List Byte) : (s.appendLog type iface fn index sub target old new).hif.numVfs = s.hif.numVfs :=
  by simp [State.appendLog, ite_hif_numVfs]
@[simp] theorem State.dictLogged_hif_numVfs (s : State) (w : Origin) (a target : Nat) (old new : List Byte) : (s.dictLogged w a target old new).hif.numVfs = s.hif.numVfs := by
  unfold State.dictLogged
  (repeat' split) <;> simp
@[simp] theorem State.raiseMgt_hif_zeroing (s : State) (n : Nat) : (s.raiseMgt n).hif.zeroing = s.hif.zeroing := by simp [State.raiseMgt, ite_hif_zeroing]
@[simp] theorem State.appendLog_hif_zeroing (s : State) (type iface fn index sub target : Nat) (old new : List Byte) : (s.appendLog type iface fn index sub target old new).hif.zeroing = s.hif.zeroing :=
  by simp [State.appendLog, ite_hif_zeroing]
@[simp] theorem State.dictLogged_hif_zeroing (s : State) (w : Origin) (a target : Nat) (old new : List Byte) : (s.dictLogged w a target old new).hif.zeroing = s.hif.zeroing := by
  unfold State.dictLogged
  (repeat' split) <;> simp
@[simp] theorem State.dictNum_hif_fns (s : State) (w : Origin) (a target v : Nat) : (s.dictNum w a target v).hif.fns = s.hif.fns := by
  unfold State.dictNum
  split <;> simp
@[simp] theorem State.dictNum_hif_parts (s : State) (w : Origin) (a target v : Nat) : (s.dictNum w a target v).hif.parts = s.hif.parts := by
  unfold State.dictNum
  split <;> simp
@[simp] theorem State.dictNum_hif_vfEnable (s : State) (w : Origin) (a target v : Nat) : (s.dictNum w a target v).hif.vfEnable = s.hif.vfEnable := by
  unfold State.dictNum
  split <;> simp
@[simp] theorem State.dictNum_hif_numVfs (s : State) (w : Origin) (a target v : Nat) : (s.dictNum w a target v).hif.numVfs = s.hif.numVfs := by
  unfold State.dictNum
  split <;> simp
@[simp] theorem State.dictNum_hif_zeroing (s : State) (w : Origin) (a target v : Nat) : (s.dictNum w a target v).hif.zeroing = s.hif.zeroing := by
  unfold State.dictNum
  split <;> simp
@[simp] theorem State.dictNum_time_mono (s : State) (w : Origin) (a target v : Nat) : (s.dictNum w a target v).time.mono = s.time.mono := by
  unfold State.dictNum
  split <;> simp
@[simp] theorem State.logInternal_hif_fns (s : State) (type : Nat) (old new : List Byte) : (s.logInternal type old new).hif.fns = s.hif.fns := by simp [State.logInternal]
@[simp] theorem State.logReset_hif_fns (s : State) (type code : Nat) : (s.logReset type code).hif.fns = s.hif.fns := by simp [State.logReset]
@[simp] theorem State.logInternal_hif_parts (s : State) (type : Nat) (old new : List Byte) : (s.logInternal type old new).hif.parts = s.hif.parts :=
  by simp [State.logInternal]
@[simp] theorem State.logReset_hif_parts (s : State) (type code : Nat) : (s.logReset type code).hif.parts = s.hif.parts := by simp [State.logReset]
@[simp] theorem State.logInternal_hif_vfEnable (s : State) (type : Nat) (old new : List Byte) : (s.logInternal type old new).hif.vfEnable = s.hif.vfEnable :=
  by simp [State.logInternal]
@[simp] theorem State.logReset_hif_vfEnable (s : State) (type code : Nat) : (s.logReset type code).hif.vfEnable = s.hif.vfEnable := by simp [State.logReset]
@[simp] theorem State.logInternal_hif_numVfs (s : State) (type : Nat) (old new : List Byte) : (s.logInternal type old new).hif.numVfs = s.hif.numVfs :=
  by simp [State.logInternal]
@[simp] theorem State.logReset_hif_numVfs (s : State) (type code : Nat) : (s.logReset type code).hif.numVfs = s.hif.numVfs := by simp [State.logReset]
@[simp] theorem State.logReset_time_mono (s : State) (type code : Nat) : (s.logReset type code).time.mono = s.time.mono := by simp [State.logReset]
@[simp] theorem State.logReset_mgt_num (s : State) (type code : Nat) : (s.logReset type code).mgt.num = s.mgt.num := by simp [State.logReset]
@[simp] theorem State.setShares_time (s : State) (g : List Share → List Share) : (s.setShares g).time = s.time := rfl
@[simp] theorem State.stopShares_time (s : State) (p : Nat → Bool) : (s.stopShares p).time = s.time := rfl
@[simp] theorem State.setShares_mgt (s : State) (g : List Share → List Share) : (s.setShares g).mgt = s.mgt := rfl
@[simp] theorem State.stopShares_mgt (s : State) (p : Nat → Bool) : (s.stopShares p).mgt = s.mgt := rfl
@[simp] theorem State.setShares_svc (s : State) (g : List Share → List Share) : (s.setShares g).svc = s.svc := rfl
@[simp] theorem State.stopShares_svc (s : State) (p : Nat → Bool) : (s.stopShares p).svc = s.svc := rfl
@[simp] theorem State.setShares_obs (s : State) (g : List Share → List Share) : (s.setShares g).obs = s.obs := rfl
@[simp] theorem State.stopShares_obs (s : State) (p : Nat → Bool) : (s.stopShares p).obs = s.obs := rfl
@[simp] theorem State.raiseSvc_hif_fns (s : State) (n : Nat) : (s.raiseSvc n).hif.fns = s.hif.fns := by simp [State.raiseSvc, ite_hif_fns]
@[simp] theorem State.qpsError_hif_fns (s : State) (f : Nat) : (s.qpsError f).hif.fns = s.hif.fns := by simp [State.qpsError, ite_hif_fns]
@[simp] theorem State.raiseSvc_hif_parts (s : State) (n : Nat) : (s.raiseSvc n).hif.parts = s.hif.parts := by simp [State.raiseSvc, ite_hif_parts]
@[simp] theorem State.qpsError_hif_parts (s : State) (f : Nat) : (s.qpsError f).hif.parts = s.hif.parts := by simp [State.qpsError, ite_hif_parts]
@[simp] theorem State.raiseSvc_hif_vfEnable (s : State) (n : Nat) : (s.raiseSvc n).hif.vfEnable = s.hif.vfEnable := by simp [State.raiseSvc, ite_hif_vfEnable]
@[simp] theorem State.qpsError_hif_vfEnable (s : State) (f : Nat) : (s.qpsError f).hif.vfEnable = s.hif.vfEnable := by simp [State.qpsError, ite_hif_vfEnable]
@[simp] theorem State.raiseSvc_hif_numVfs (s : State) (n : Nat) : (s.raiseSvc n).hif.numVfs = s.hif.numVfs := by simp [State.raiseSvc, ite_hif_numVfs]
@[simp] theorem State.qpsError_hif_numVfs (s : State) (f : Nat) : (s.qpsError f).hif.numVfs = s.hif.numVfs := by simp [State.qpsError, ite_hif_numVfs]
@[simp] theorem State.qpsError_mem (s : State) (f : Nat) : (s.qpsError f).mem = s.mem := by simp [State.qpsError, ite_mem]
@[simp] theorem State.qpsError_cores (s : State) (f : Nat) : (s.qpsError f).cores = s.cores := by simp [State.qpsError, ite_cores]
@[simp] theorem State.qpsError_time (s : State) (f : Nat) : (s.qpsError f).time = s.time := by simp [State.qpsError, ite_time]
@[simp] theorem State.qpsError_mgt (s : State) (f : Nat) : (s.qpsError f).mgt = s.mgt := by simp [State.qpsError, ite_mgt]
@[simp] theorem State.qpsError_fe (s : State) (f : Nat) : (s.qpsError f).fe = s.fe := by simp [State.qpsError, ite_fe]
@[simp] theorem State.qpsError_l2 (s : State) (f : Nat) : (s.qpsError f).l2 = s.l2 := by simp [State.qpsError, ite_l2]
@[simp] theorem State.fnPoint_hif (s : State) (f : Nat) : (s.fnPoint f).hif = s.hif := by simp -implicitDefEqProofs [State.fnPoint, ite_hif]
@[simp] theorem State.fnPoint_mem (s : State) (f : Nat) : (s.fnPoint f).mem = s.mem := by simp -implicitDefEqProofs [State.fnPoint, ite_mem]
@[simp] theorem State.fnPoint_cores (s : State) (f : Nat) : (s.fnPoint f).cores = s.cores := by simp -implicitDefEqProofs [State.fnPoint, ite_cores]
@[simp] theorem State.fnPoint_time (s : State) (f : Nat) : (s.fnPoint f).time = s.time := by simp -implicitDefEqProofs [State.fnPoint, ite_time]
@[simp] theorem State.fnPoint_mgt (s : State) (f : Nat) : (s.fnPoint f).mgt = s.mgt := by simp -implicitDefEqProofs [State.fnPoint, ite_mgt]
@[simp] theorem State.fnPoint_fe (s : State) (f : Nat) : (s.fnPoint f).fe = s.fe := by simp -implicitDefEqProofs [State.fnPoint, ite_fe]
@[simp] theorem State.fnPoint_l2 (s : State) (f : Nat) : (s.fnPoint f).l2 = s.l2 := by simp -implicitDefEqProofs [State.fnPoint, ite_l2]
@[simp] theorem State.modFn_hif_parts (s : State) (f : Nat) (g : FnSt → FnSt) : (s.modFn f g).hif.parts = s.hif.parts := rfl
@[simp] theorem State.startFlr_hif_parts (s : State) (f : Nat) (run : ResetRun) : (s.startFlr f run).hif.parts = s.hif.parts := by
  unfold State.startFlr
  (repeat' split) <;> simp
@[simp] theorem State.modFn_hif_vfEnable (s : State) (f : Nat) (g : FnSt → FnSt) : (s.modFn f g).hif.vfEnable = s.hif.vfEnable := rfl
@[simp] theorem State.startFlr_hif_vfEnable (s : State) (f : Nat) (run : ResetRun) : (s.startFlr f run).hif.vfEnable = s.hif.vfEnable := by
  unfold State.startFlr
  (repeat' split) <;> simp
@[simp] theorem State.modFn_hif_numVfs (s : State) (f : Nat) (g : FnSt → FnSt) : (s.modFn f g).hif.numVfs = s.hif.numVfs := rfl
@[simp] theorem State.startFlr_hif_numVfs (s : State) (f : Nat) (run : ResetRun) : (s.startFlr f run).hif.numVfs = s.hif.numVfs := by
  unfold State.startFlr
  (repeat' split) <;> simp
@[simp] theorem State.startFlr_mem (s : State) (f : Nat) (run : ResetRun) : (s.startFlr f run).mem = s.mem := by
  unfold State.startFlr
  (repeat' split) <;> simp
@[simp] theorem State.startFlr_cores (s : State) (f : Nat) (run : ResetRun) : (s.startFlr f run).cores = s.cores := by
  unfold State.startFlr
  (repeat' split) <;> simp
@[simp] theorem State.startFlr_time (s : State) (f : Nat) (run : ResetRun) : (s.startFlr f run).time = s.time := by
  unfold State.startFlr
  (repeat' split) <;> simp
@[simp] theorem State.startFlr_mgt (s : State) (f : Nat) (run : ResetRun) : (s.startFlr f run).mgt = s.mgt := by
  unfold State.startFlr
  (repeat' split) <;> simp
@[simp] theorem State.startFlr_l2 (s : State) (f : Nat) (run : ResetRun) : (s.startFlr f run).l2 = s.l2 := by
  unfold State.startFlr
  (repeat' split) <;> simp
@[simp] theorem State.flrWith_mem (s : State) (f : Nat) : (s.flrWith f).mem = s.mem := by simp [State.flrWith, ite_mem]
@[simp] theorem State.flrWith_cores (s : State) (f : Nat) : (s.flrWith f).cores = s.cores := by simp [State.flrWith, ite_cores]
@[simp] theorem State.flrWith_hif_numVfs (s : State) (f : Nat) : (s.flrWith f).hif.numVfs = s.hif.numVfs := by simp [State.flrWith, ite_hif_numVfs]
@[simp] theorem State.flrWith_hif_parts (s : State) (f : Nat) : (s.flrWith f).hif.parts = s.hif.parts := by simp [State.flrWith, ite_hif_parts]
@[simp] theorem State.flrWith_mgt_num (s : State) (f : Nat) : (s.flrWith f).mgt.num = s.mgt.num := by simp [State.flrWith, ite_mgt_num]
@[simp] theorem State.flrWith_time_mono (s : State) (f : Nat) : (s.flrWith f).time.mono = s.time.mono := by simp [State.flrWith, ite_time_mono]
@[simp] theorem State.flrWith_l2 (s : State) (f : Nat) : (s.flrWith f).l2 = s.l2 := by simp [State.flrWith, ite_l2]
@[simp] theorem State.clearCore_hif (s : State) (c : Nat) : (s.clearCore c).hif = s.hif := by simp [State.clearCore, ite_hif]
@[simp] theorem State.clearCore_mgt (s : State) (c : Nat) : (s.clearCore c).mgt = s.mgt := by simp [State.clearCore, ite_mgt]
@[simp] theorem State.clearCore_mem (s : State) (c : Nat) : (s.clearCore c).mem = s.mem := by simp [State.clearCore, ite_mem]
@[simp] theorem State.clearCore_l2 (s : State) (c : Nat) : (s.clearCore c).l2 = s.l2 := by simp [State.clearCore, ite_l2]
@[simp] theorem State.finishPartition_mgt (s : State) (p : Nat) : (s.finishPartition p).mgt = s.mgt := by simp [State.finishPartition]

end Sys2Proof.Machine
end

section
/-! The start of a function's reset (R338): what it makes of the function, its queues and its messages, and what it leaves of the others. O41 and O42 rest on it. -/

namespace Sys2Proof.Machine

theorem State.fn_congr {s t : State} (h : t.hif.fns = s.hif.fns) (f : Nat) : t.fn f = s.fn f := by rw [State.fn, State.fn, h]

/-! Messages that a step raises at F0. -/

theorem State.signal_vec {s : State} {f i g v : Nat} (h : g ≠ f ∨ (s.fn f).gate = .resetting) (hi : i < 64) (hv : v < 64) : (s.signal f i).vec g v = s.vec g v := by
  rw [State.signal]
  split
  · next hg =>
    have hne : g ≠ f := h.resolve_right fun hr => by rw [hr] at hg; exact hg.elim (by decide) (by decide)
    exact SMap.getD_modify_ne s.hif.vecs Vector.initial (fun x => { x with due := true }) (show g * 64 + v ≠ f * 64 + i by omega)
  · rfl

theorem State.raiseSvc_vec {s : State} {n g v : Nat} (h : g ≠ 0 ∨ (s.fn 0).gate = .resetting) (hv : v < 64) : (s.raiseSvc n).vec g v = s.vec g v := by
  rw [State.raiseSvc]
  split
  · exact State.signal_vec (s := { s with svc.status := setBit s.svc.status n }) h (by decide) hv
  · rfl

theorem State.raiseMgt_vec {s : State} {n g v : Nat} (h : g ≠ 0 ∨ (s.fn 0).gate = .resetting) (hv : v < 64) : (s.raiseMgt n).vec g v = s.vec g v := by
  rw [State.raiseMgt]
  split
  · exact State.signal_vec (s := { s with mgt.status := setBit s.mgt.status n }) h (by decide) hv
  · rfl

theorem State.qpsError_vec {s : State} {f g v : Nat} (h : g ≠ 0 ∨ (s.fn 0).gate = .resetting) (hv : v < 64) : (s.qpsError f).vec g v = s.vec g v := by
  rw [State.qpsError]
  dsimp only
  split
  · exact (State.raiseSvc_vec (s := { s with svc.qps := s.svc.qps.mapVals (fun k x => if k / 64 = f ∧ x.state = 1 then { x with state := 2, work := [] } else x) }) h hv)
  · rfl

theorem State.logReset_vec {s : State} {type code g v : Nat} (h : g ≠ 0 ∨ (s.fn 0).gate = .resetting) (hv : v < 64) : (s.logReset type code).vec g v = s.vec g v := by
  rw [State.logReset, State.logInternal, State.appendLog]
  dsimp only
  split
  · refine (State.raiseMgt_vec ?_ hv).trans ?_
    · exact h
    · rfl
  · rfl

/-! The start of a reset at a function. -/

/-- The function closed, its messages dropped and its queues resetting. -/
def State.begun (s : State) (f : Nat) (run : ResetRun) : State :=
  let s1 := s.modFn f (fun x => { x with gate := .resetting, reset := some run, pointReached := false })
  { s1 with
    hif.vecs := s1.hif.vecs.mapVals (fun k v => if k / 64 = f then { v with pending := false, due := false } else v)
    fe.queues := s1.fe.queues.mapVals (fun k x => if k / 16 = f ∧ x.state ≠ .disabled then
      { x with state := .resetting, timerOn := false, settled := false, savedBlocks := [], savedPlans := [], savedNone := false
               resumePending := false, faultPage := none, faultPoint := none } else x) }

section
variable {s : State} {f : Nat} {run : ResetRun}

theorem State.startFlr_begins (h : (s.fn f).reset = none) :
    s.startFlr f run = (((s.begun f run).stopShares (fun q => decide (fnOfQueue q = f))).qpsError f).fnPoint f := by
  rw [State.startFlr, h]
  rfl

theorem State.startFlr_runs {r : ResetRun} (h : (s.fn f).reset = some r) (hk : ¬ run.kind < r.kind) : s.startFlr f run = s := by
  rw [State.startFlr, h]
  exact if_neg hk

theorem State.begun_fn : (s.begun f run).fn f = { s.fn f with gate := .resetting, reset := some run, pointReached := false } :=
  s.modFn_fn_self f (fun x => { x with gate := .resetting, reset := some run, pointReached := false })

theorem State.begun_fn_ne {k : Nat} (h : k ≠ f) : (s.begun f run).fn k = s.fn k :=
  s.modFn_fn_ne f (fun x => { x with gate := .resetting, reset := some run, pointReached := false }) h

theorem State.begun_q (q : Nat) : (s.begun f run).q q =
    if q / 16 = f ∧ (s.q q).state ≠ .disabled then
      { s.q q with state := .resetting, timerOn := false, settled := false, savedBlocks := [], savedPlans := [], savedNone := false
                   resumePending := false, faultPage := none, faultPoint := none } else s.q q :=
  SMap.getD_mapVals s.fe.queues (fun k x => if k / 16 = f ∧ x.state ≠ .disabled then
    { x with state := .resetting, timerOn := false, settled := false, savedBlocks := [], savedPlans := [], savedNone := false
             resumePending := false, faultPage := none, faultPoint := none } else x) q Queue.initial (if_neg fun h => h.2 rfl)

theorem State.begun_vec {g v : Nat} (hv : v < 64) : (s.begun f run).vec g v = if g = f then { s.vec g v with pending := false, due := false } else s.vec g v := by
  have hkey : (g * 64 + v) / 64 = g := by omega
  have h := SMap.getD_mapVals s.hif.vecs (fun k v => if k / 64 = f then { v with pending := false, due := false } else v) (g * 64 + v) Vector.initial
    (by split <;> rfl)
  rw [hkey] at h
  exact h

/-- What the start of a reset leaves a function that it does not reach. -/
theorem State.startFlr_fn_ne {k : Nat} (h : k ≠ f) : (s.startFlr f run).fn k = s.fn k := by
  cases hr : (s.fn f).reset with
  | none =>
    rw [State.startFlr_begins hr, State.fn_congr (s := s.begun f run) (by simp), State.begun_fn_ne h]
  | some r =>
    rw [State.startFlr, hr]
    dsimp only
    split
    · exact s.modFn_fn_ne f _ h
    · rfl

theorem State.startFlr_fn (h : (s.fn f).reset = none) : (s.startFlr f run).fn f = { s.fn f with gate := .resetting, reset := some run, pointReached := false } := by
  rw [State.startFlr_begins h, State.fn_congr (s := s.begun f run) (by simp), State.begun_fn]

theorem State.startFlr_q (h : (s.fn f).reset = none) (q : Nat) : (s.startFlr f run).q q = (s.begun f run).q q := by
  rw [State.startFlr_begins h, State.q, State.q, State.fnPoint_fe, State.qpsError_fe, State.stopShares_fe]

theorem State.startFlr_q_ne {q : Nat} (h : q / 16 ≠ f) : (s.startFlr f run).q q = s.q q := by
  cases hr : (s.fn f).reset with
  | none => rw [State.startFlr_q hr, State.begun_q, if_neg fun hq => h hq.1]
  | some r =>
    rw [State.startFlr, hr]
    dsimp only
    split <;> rfl

theorem State.startFlr_vec {g v : Nat} (hg : g ≠ 0 ∨ (s.fn 0).gate = .resetting ∨ f = 0) (h : (s.fn f).reset = none) (hv : v < 64) :
    (s.startFlr f run).vec g v = (s.begun f run).vec g v := by
  have hclosed : g ≠ 0 ∨ ((s.begun f run).fn 0).gate = .resetting := by
    rcases hg with hg | hg | hg
    · exact .inl hg
    · by_cases h0 : 0 = f
      · exact .inr (h0 ▸ congrArg FnSt.gate State.begun_fn)
      · exact .inr ((congrArg FnSt.gate (State.begun_fn_ne h0)).trans hg)
    · exact .inr (hg ▸ congrArg FnSt.gate State.begun_fn)
  rw [State.startFlr_begins h, State.vec, State.fnPoint_hif]
  exact State.qpsError_vec (s := (s.begun f run).stopShares (fun q => decide (fnOfQueue q = f))) hclosed hv

end

/-! A function that a reset has reached. -/

/-- The function is resetting under a run, its queues that were enabled are resetting, and it has no message to send. -/
def State.Reached (s u : State) (g : Nat) (run : ResetRun) : Prop :=
  (u.fn g).gate = .resetting ∧ (u.fn g).reset = some run ∧ (∀ q, fnOfQueue q = g → (s.q q).state ≠ .disabled → (u.q q).state = .resetting) ∧
    ∀ v, v < 64 → (u.vec g v).due = false ∧ (u.vec g v).pending = false

/-- The function has not been reached: it runs no reset, and its queues are as they were. -/
def State.Untouched (s u : State) (g : Nat) : Prop := (u.fn g).reset = none ∧ ∀ q, fnOfQueue q = g → u.q q = s.q q

section
variable {s u : State} {f g : Nat} {run : ResetRun}

theorem State.Untouched.start (h : s.Untouched u g) : s.Reached (u.startFlr g run) g run := by
  obtain ⟨hr, hq⟩ := h
  have hfn := State.startFlr_fn (run := run) hr
  refine ⟨by rw [hfn], by rw [hfn], fun q hg hd => ?_, fun v hv => ?_⟩
  · rw [State.startFlr_q hr, State.begun_q, if_pos ⟨hg, by rw [hq q hg]; exact hd⟩]
  · have hcl : g ≠ 0 ∨ (u.fn 0).gate = .resetting ∨ g = 0 := by
      by_cases h0 : g = 0
      · exact .inr (.inr h0)
      · exact .inl h0
    rw [State.startFlr_vec hcl hr hv, State.begun_vec hv, if_pos rfl]
    exact ⟨rfl, rfl⟩

/-- The start of a reset elsewhere leaves a function reached. -/
theorem State.Reached.start_ne (h : s.Reached u g run) (hne : g ≠ f) (run' : ResetRun) : s.Reached (u.startFlr f run') g run := by
  obtain ⟨hg, hr, hq, hv⟩ := h
  have hfn := State.startFlr_fn_ne (s := u) (run := run') hne
  refine ⟨by rw [hfn]; exact hg, by rw [hfn]; exact hr, fun q hqg hd => ?_, fun v hlt => ?_⟩
  · rw [State.startFlr_q_ne (s := u) (run := run') (fun h => hne (hqg.symm.trans h))]
    exact hq q hqg hd
  · cases hrf : (u.fn f).reset with
    | none =>
      have hcl : g ≠ 0 ∨ (u.fn 0).gate = .resetting ∨ f = 0 := by
        by_cases h0 : g = 0
        · exact .inr (.inl (h0 ▸ hg))
        · exact .inl h0
      rw [State.startFlr_vec hcl hrf hlt, State.begun_vec hlt, if_neg hne]
      exact hv v hlt
    | some r =>
      have heq : (u.startFlr f run').vec g v = u.vec g v := by
        rw [State.startFlr, hrf]
        dsimp only
        split <;> rfl
      rw [heq]
      exact hv v hlt

/-- A second start of the same reset changes nothing. -/
theorem State.Reached.start_self (h : s.Reached u g run) : u.startFlr g run = u := State.startFlr_runs h.2.1 (lt_irrefl _)

theorem State.Untouched.start_ne (h : s.Untouched u g) (hne : g ≠ f) (run : ResetRun) : s.Untouched (u.startFlr f run) g :=
  ⟨by rw [State.startFlr_fn_ne hne]; exact h.1, fun q hq => (State.startFlr_q_ne (fun he => hne (hq.symm.trans he))).trans (h.2 q hq)⟩

theorem State.logReset_fn (s : State) (type code f : Nat) : (s.logReset type code).fn f = s.fn f := State.fn_congr (by simp) f

theorem State.logReset_q (s : State) (type code q : Nat) : (s.logReset type code).q q = s.q q := by rw [State.q, State.q, State.logReset_fe]

theorem State.Reached.logged (h : s.Reached u g run) (type code : Nat) : s.Reached (u.logReset type code) g run := by
  obtain ⟨hg, hr, hq, hv⟩ := h
  refine ⟨by rw [State.logReset_fn]; exact hg, by rw [State.logReset_fn]; exact hr, fun q hqg hd => by rw [State.logReset_q]; exact hq q hqg hd, fun v hlt => ?_⟩
  have hcl : g ≠ 0 ∨ (u.fn 0).gate = .resetting := by
    by_cases h0 : g = 0
    · exact .inr (h0 ▸ hg)
    · exact .inl h0
  rw [State.logReset_vec hcl hlt]
  exact hv v hlt

theorem State.Untouched.logged (h : s.Untouched u g) (type code : Nat) : s.Untouched (u.logReset type code) g :=
  ⟨by rw [State.logReset_fn]; exact h.1, fun q hq => (u.logReset_q type code q).trans (h.2 q hq)⟩

theorem State.untouched_refl (h : (s.fn g).reset = none) : s.Untouched s g := ⟨h, fun _ _ => rfl⟩

end

/-! An FLR (R341). -/

/-- The run of an FLR. -/
def State.flrRun (s : State) : ResetRun := { kind := 5, since := s.time.mono, partition := 0 }

/-- One function of an FLR: the reset starts, with its record, unless one runs already. -/
def State.flrOne (s : State) (run : ResetRun) (g : Nat) : State := if (s.fn g).reset.isSome then s else (s.startFlr g run).logReset 5 0x0A

/-- The virtual functions. -/
def State.vfsOf (s : State) : List Nat := (List.range 256).filter (fun g => decide (0 < g) && s.fnExists g)

theorem State.flrWith_zero (s : State) : s.flrWith 0 = s.vfsOf.foldl (fun u g => u.flrOne s.flrRun g) { s.flrOne s.flrRun 0 with hif.vfEnable := false } := rfl

theorem State.flrWith_ne (s : State) {f : Nat} (h : f ≠ 0) : s.flrWith f = s.flrOne s.flrRun f := if_neg h

theorem State.mem_vfsOf (s : State) {g : Nat} (h0 : g ≠ 0) (h : s.fnExists g = true) : g ∈ s.vfsOf := by
  have hlt : g < 256 := by
    rw [State.fnExists] at h
    simp [h0] at h
    exact h.1.1
  exact List.mem_filter.mpr ⟨List.mem_range.mpr hlt, by rw [h, decide_eq_true (Nat.pos_of_ne_zero h0)]; rfl⟩

theorem State.vfsOf_ne_zero {s : State} {g : Nat} (h : g ∈ s.vfsOf) : g ≠ 0 := by
  have hg := (List.mem_filter.mp h).2
  simp only [Bool.and_eq_true, decide_eq_true_eq] at hg
  omega

section
variable {s u : State} {f g : Nat} {run : ResetRun}

theorem State.Untouched.flr (h : s.Untouched u g) : s.Reached (u.flrOne run g) g run := by
  rw [State.flrOne, if_neg (by rw [h.1]; decide)]
  exact h.start.logged 5 0x0A

theorem State.Reached.flr (h : s.Reached u g run) (f : Nat) (run' : ResetRun) : s.Reached (u.flrOne run' f) g run := by
  rw [State.flrOne]
  split
  · exact h
  · next hn =>
    have hne : g ≠ f := fun heq => hn (by rw [← heq, h.2.1]; rfl)
    exact (h.start_ne hne run').logged 5 0x0A

theorem State.Untouched.flr_ne (h : s.Untouched u g) (hne : g ≠ f) (run : ResetRun) : s.Untouched (u.flrOne run f) g := by
  rw [State.flrOne]
  split
  · exact h
  · exact (h.start_ne hne run).logged 5 0x0A

theorem State.flrOne_fn_ne (u : State) {f g : Nat} (hne : g ≠ f) (run : ResetRun) : (u.flrOne run f).fn g = u.fn g := by
  rw [State.flrOne]
  split
  · rfl
  · rw [State.logReset_fn, State.startFlr_fn_ne hne]

theorem State.flrOne_q_ne (u : State) {f q : Nat} (hne : fnOfQueue q ≠ f) (run : ResetRun) : (u.flrOne run f).q q = u.q q := by
  rw [State.flrOne]
  split
  · rfl
  · rw [State.logReset_q, State.startFlr_q_ne hne]

/-- A fold of an FLR over functions reaches each of them that it finds untouched. -/
theorem State.flrs_reached (l : List Nat) (h : s.Untouched u g) (hm : g ∈ l) : s.Reached (l.foldl (fun u g => u.flrOne run g) u) g run := by
  refine foldl_establishes (P := fun u => s.Reached u g run) (Q := fun u => s.Untouched u g ∨ s.Reached u g run) (g := fun u g => u.flrOne run g) (a := g)
    (fun v b hq => ?_) (fun v hq => hq.elim (fun h => h.flr) (fun h => h.flr g run)) (fun v b _ hv => hv.flr b run) l u (.inl h) (.inl hm)
  rcases hq with hq | hq
  · by_cases hb : g = b
    · exact .inr (hb ▸ hq.flr)
    · exact .inl (hq.flr_ne hb run)
  · exact .inr (hq.flr b run)

theorem State.flrs_keep (l : List Nat) (h : s.Reached u g run) (run' : ResetRun) : s.Reached (l.foldl (fun u g => u.flrOne run' g) u) g run :=
  List.foldlRecOn (motive := fun v => s.Reached v g run) l (fun u g => u.flrOne run' g) h (fun _ hv b _ => hv.flr b run')

theorem State.flrs_fn_ne (l : List Nat) (u : State) {g : Nat} (h : g ∉ l) (run : ResetRun) : (l.foldl (fun u g => u.flrOne run g) u).fn g = u.fn g :=
  List.foldlRecOn (motive := fun v : State => v.fn g = u.fn g) l (fun (u : State) g => u.flrOne run g) rfl (fun v hv b hb => (v.flrOne_fn_ne (fun (heq : g = b) => h (by rw [heq]; exact hb)) run).trans hv)

theorem State.flrOne_vfEnable (u : State) (f : Nat) (run : ResetRun) : (u.flrOne run f).hif.vfEnable = u.hif.vfEnable := by
  rw [State.flrOne]
  split
  · rfl
  · simp

theorem State.flrs_vfEnable (l : List Nat) (u : State) (run : ResetRun) : (l.foldl (fun u g => u.flrOne run g) u).hif.vfEnable = u.hif.vfEnable :=
  foldl_keeps (fun u => u.hif.vfEnable) (fun u g => u.flrOne_vfEnable g run) l u

end

/-- An FLR of a function reaches it, and F0's every virtual function. -/
theorem State.flrWith_reached {s : State} {f g : Nat} (h : g = f ∨ (f = 0 ∧ s.fnExists g = true)) (hr : (s.fn g).reset = none) : s.Reached (s.flrWith f) g s.flrRun := by
  have hself := State.untouched_refl hr
  by_cases h0 : f = 0
  · subst h0
    rw [State.flrWith_zero]
    by_cases hg : g = 0
    · subst hg
      have hone : s.Reached { s.flrOne s.flrRun 0 with hif.vfEnable := false } 0 s.flrRun := hself.flr
      exact State.flrs_keep _ hone _
    · have hone : s.Untouched { s.flrOne s.flrRun 0 with hif.vfEnable := false } g := hself.flr_ne hg s.flrRun
      exact State.flrs_reached _ hone (s.mem_vfsOf hg (h.resolve_left hg).2)
  · rw [s.flrWith_ne h0, h.resolve_right fun hx => h0 hx.1]
    exact (h.resolve_right fun hx => h0 hx.1) ▸ hself.flr

theorem State.flrWith_zero_vfEnable (s : State) : (s.flrWith 0).hif.vfEnable = false := by
  rw [State.flrWith_zero, State.flrs_vfEnable]

end Sys2Proof.Machine
end

section
/-! Settling O42: partitions, masks, slabs and bindings (R316, R327 to R330, R340, R341, R488). -/

namespace Sys2Proof.Machine

/-! Lines that go to I. -/

theorem State.lineToI_dir (s : State) (line l : Nat) : (s.lineToI line).l2.dir.get? l = if l = line then none else s.l2.dir.get? l := by
  by_cases h : l = line
  · rw [if_pos h, h, s.lineToI_gone]
  · rw [if_neg h, State.lineToI]
    cases hd : s.l2.dir.get? line with
    | none => rfl
    | some d =>
      dsimp only
      rw [SMap.get?_del_ne _ h, State.tellCopies_l2]
      split
      · exact congrArg (fun m => SMap.get? m l) (s.writeBack_l2_dir line d.data d.poison)
      · rfl

theorem foldl_lineToI_dir (k : List Nat) (s : State) (l : Nat) : (k.foldl State.lineToI s).l2.dir.get? l = if l ∈ k then none else s.l2.dir.get? l := by
  induction k generalizing s with
  | nil => simp
  | cons a k ih =>
    rw [List.foldl_cons, ih, s.lineToI_dir]
    by_cases hk : l ∈ k
    · simp [hk]
    · by_cases ha : l = a <;> simp [hk, ha]

theorem State.linesToI_dir (s : State) (p : Nat → Bool) (l : Nat) : (s.linesToI p).l2.dir.get? l = if p l then none else s.l2.dir.get? l := by
  rw [State.linesToI, foldl_lineToI_dir]
  by_cases hp : p l = true
  · rw [if_pos hp]
    split
    · rfl
    · next hn =>
      cases hg : s.l2.dir.get? l with
      | none => rfl
      | some d => exact absurd (List.mem_filter.mpr ⟨List.mem_map.mpr ⟨(l, d), SMap.mem_of_get? hg, rfl⟩, hp⟩) hn
  · rw [if_neg (fun h => hp (List.mem_filter.mp h).2), if_neg hp]

/-- A granule written at the banks leaves every byte outside it. -/
theorem State.bankGranule_cell (s : State) {pa x : Nat} {data : List Byte} (h : x < pa ∨ pa + data.length ≤ x) : cellGet (s.bankGranule pa data).mem x = cellGet s.mem x := by
  rw [State.bankGranule]
  split
  · rfl
  · split
    · exact cellGet_cellWrite_ne _ _ _ h
    · split
      · rfl
      · exact cellGet_cellWrite_ne _ _ _ h

/-- A line written back leaves every byte outside it. -/
theorem State.writeBack_cell (s : State) {line x : Nat} (data : List Byte) (poison : Nat) (h : x / 128 ≠ line) : cellGet (s.writeBack line data poison).mem x = cellGet s.mem x := by
  rw [State.writeBack]
  refine List.foldlRecOn (motive := fun u : State => cellGet u.mem x = cellGet s.mem x) _ _ rfl (fun u hu i hi => ?_)
  have hi8 : i < 8 := List.mem_range.mp hi
  split
  · rw [State.poisonGranule_mem]
    exact hu
  · rw [State.bankGranule_cell _ (by rw [List.length_take]; omega)]
    exact hu

theorem State.lineToI_cell (s : State) {line x : Nat} (h : x / 128 ≠ line) : cellGet (s.lineToI line).mem x = cellGet s.mem x := by
  rw [State.lineToI]
  cases s.l2.dir.get? line with
  | none => rfl
  | some d =>
    dsimp only
    rw [State.tellCopies_mem]
    split
    · exact s.writeBack_cell d.data d.poison h
    · rfl

theorem State.linesToI_cell (s : State) (p : Nat → Bool) {x : Nat} (h : p (x / 128) = false) : cellGet (s.linesToI p).mem x = cellGet s.mem x :=
  List.foldlRecOn (motive := fun u : State => cellGet u.mem x = cellGet s.mem x) (s.l2.dir.keys.filter p) State.lineToI rfl (fun u hu l hl => by
    rw [State.lineToI_cell _ (fun heq => by rw [← heq] at hl; rw [(List.mem_filter.mp hl).2] at h; exact absurd h (by decide))]
    exact hu)

/-! What a step reads of the functions and of their partitions. -/

theorem State.deviceCheck_congr {s t : State} (h : t.sup = s.sup) (w : Origin) (a : Nat) : t.deviceCheck w a = s.deviceCheck w a := by
  rw [State.deviceCheck, State.deviceCheck, State.entryLive, State.entryLive, h]

theorem State.fnExists_congr {s t : State} (hv : t.hif.vfEnable = s.hif.vfEnable) (hn : t.hif.numVfs = s.hif.numVfs) (f : Nat) : t.fnExists f = s.fnExists f := by
  rw [State.fnExists, State.fnExists, hv, hn]

theorem State.boundFns_congr {s t : State} (hv : t.hif.vfEnable = s.hif.vfEnable) (hn : t.hif.numVfs = s.hif.numVfs) (hp : ∀ f, f < 256 → t.fnPart f = s.fnPart f) (p : Nat) :
    t.boundFns p = s.boundFns p :=
  List.filter_congr fun f hf => by rw [State.fnExists_congr hv hn, hp f (List.mem_range.mp hf)]

theorem State.part_congr {s t : State} (h : t.hif.parts = s.hif.parts) (p : Nat) : t.part p = s.part p := by rw [State.part, State.part, h]

theorem State.modPart_self (s : State) (p : Nat) (g : PartSt → PartSt) : (s.modPart p g).part p = g (s.part p) := SMap.getD_modify_self _ _ _ _

/-! The reset of a partition (R340). -/

section
variable {s u : State} {g : Nat} {run : ResetRun}

theorem State.starts_reached (l : List Nat) (h : s.Untouched u g) (hm : g ∈ l) : s.Reached (l.foldl (fun u f => u.startFlr f run) u) g run := by
  have hstep (v : State) (b : Nat) (hv : s.Reached v g run) : s.Reached (v.startFlr b run) g run := by
    by_cases hb : g = b
    · rw [← hb, hv.start_self]
      exact hv
    · exact hv.start_ne hb run
  refine foldl_establishes (P := fun u => s.Reached u g run) (Q := fun u => s.Untouched u g ∨ s.Reached u g run) (g := fun u f => u.startFlr f run) (a := g)
    (fun v b hq => ?_) (fun v hq => hq.elim (fun h => h.start) (fun h => hstep v g h)) (fun v b _ hv => hstep v b hv) l u (.inl h) (.inl hm)
  rcases hq with hq | hq
  · by_cases hb : g = b
    · exact .inr (hb ▸ hq.start)
    · exact .inl (hq.start_ne hb run)
  · exact .inr (hstep v b hq)

theorem State.starts_keep (l : List Nat) (h : s.Reached u g run) (hn : g ∉ l) (run' : ResetRun) : s.Reached (l.foldl (fun u f => u.startFlr f run') u) g run :=
  List.foldlRecOn (motive := fun v => s.Reached v g run) l (fun (u : State) f => u.startFlr f run') h
    (fun v hv b hb => State.Reached.start_ne hv (fun (heq : g = b) => hn (by rw [heq]; exact hb)) run')

end

/-- The functions of a partition reset reached, and those that F0's reset reaches with it. -/
def State.resetFns (t1 : State) (fs : List Nat) (run : ResetRun) : State :=
  let t2 := fs.foldl (fun s f => s.startFlr f run) t1
  if fs.contains 0 then
    ((List.range 256).filter (fun g => decide (0 < g) && t2.fnExists g && !fs.contains g)).foldl (fun s f => s.startFlr f run) { t2 with hif.vfEnable := false }
  else t2

theorem State.resetFns_reached {s t1 : State} {fs : List Nat} {g : Nat} {run : ResetRun} (h : s.Untouched t1 g) (hm : g ∈ fs) : s.Reached (t1.resetFns fs run) g run := by
  have hr : s.Reached (fs.foldl (fun u f => u.startFlr f run) t1) g run := State.starts_reached fs h hm
  rw [State.resetFns]
  split
  · refine State.starts_keep (u := { fs.foldl (fun s f => s.startFlr f run) t1 with hif.vfEnable := false }) _ hr (fun hg => ?_) run
    have hf := (List.mem_filter.mp hg).2
    rw [Bool.and_eq_true, List.contains_iff_mem.mpr hm] at hf
    exact absurd hf.2 (by decide)
  · exact hr

theorem State.resetFns_keeps (t1 : State) (fs : List Nat) (run : ResetRun) : (t1.resetFns fs run).mem = t1.mem ∧ (t1.resetFns fs run).cores = t1.cores := by
  have hm (l : List Nat) (u : State) : (l.foldl (fun s f => s.startFlr f run) u).mem = u.mem := foldl_keeps (fun s => s.mem) (fun _ _ => State.startFlr_mem _ _ _) l u
  have hc (l : List Nat) (u : State) : (l.foldl (fun s f => s.startFlr f run) u).cores = u.cores := foldl_keeps (fun s => s.cores) (fun _ _ => State.startFlr_cores _ _ _) l u
  rw [State.resetFns]
  split
  · exact ⟨(hm _ _).trans (hm _ _), (hc _ _).trans (hc _ _)⟩
  · exact ⟨hm _ _, hc _ _⟩

theorem State.clearCore_get? (s : State) (b c : Nat) : (∃ k, s.cores.get? c = some k ∧ k.l1 = [] ∧ k.scl = []) ∨ b = c ∧ s.cores.has c = true →
    ∃ k, (s.clearCore b).cores.get? c = some k ∧ k.l1 = [] ∧ k.scl = [] := by
  intro h
  rw [State.clearCore]
  split
  · next hb =>
    by_cases hbc : b = c
    · subst hbc
      exact ⟨_, SMap.get?_put_self _ _ _, rfl, rfl⟩
    · obtain ⟨k, hk, h1, h2⟩ := h.resolve_right (fun hx => hbc hx.1)
      exact ⟨k, (SMap.get?_put_ne _ _ (Ne.symm hbc)).trans hk, h1, h2⟩
  · next hb => exact h.resolve_right fun ⟨he, hc⟩ => hb (he ▸ hc)

theorem State.clearCore_has (s : State) (b : Nat) {c : Nat} (h : s.cores.has c = true) : (s.clearCore b).cores.has c = true := by
  rw [State.clearCore]
  split
  · by_cases hbc : c = b
    · subst hbc
      exact SMap.has_put_self _ _ _
    · rw [SMap.has, show (s.modCore b _).cores.get? c = s.cores.get? c from SMap.get?_put_ne _ _ hbc]
      exact h
  · exact h

/-- The cores of a partition at the end of its reset. -/
theorem clearCores_cleared (l : List Nat) (s : State) {c : Nat} (hc : c ∈ l) (h : s.cores.has c = true) :
    ∃ k, (l.foldl State.clearCore s).cores.get? c = some k ∧ k.l1 = [] ∧ k.scl = [] :=
  foldl_establishes (P := fun u => ∃ k, u.cores.get? c = some k ∧ k.l1 = [] ∧ k.scl = []) (Q := fun u => u.cores.has c = true) (fun u b hu => u.clearCore_has b hu)
    (fun u hu => u.clearCore_get? c c (.inr ⟨rfl, hu⟩)) (fun u b _ hu => u.clearCore_get? b c (.inl hu)) l s h (.inl hc)

theorem State.finishPartition_effect (s : State) (p : Nat) :
    ((s.finishPartition p).part p).epoch = ((s.part p).epoch + 1) % 2 ^ 32 ∧ (s.finishPartition p).cores = ((s.coresOf p).foldl State.clearCore s).cores := by
  rw [State.finishPartition]
  refine ⟨?_, ?_⟩
  · rw [State.modPart_self]
    dsimp only
    rw [State.part_congr (s := s) ?_]
    simp
  · simp

theorem State.qmask_of_num {s t : State} (h : t.mgt.num = s.mgt.num) (p : Nat) : t.coresOf p = s.coresOf p := by
  rw [State.coresOf, State.coresOf, State.slicesOf, State.slicesOf, State.qmask, State.qmask, State.num_of_mgt_num h]

/-- A partition reset that finds functions bound. -/
theorem State.resets_bound {s t1 : State} (hm : t1.mem = s.mem) (hc : t1.cores = s.cores) (hfn : ∀ f, t1.fn f = s.fn f) (hq : ∀ q, t1.q q = s.q q)
    (fs : List Nat) (run : ResetRun) :
    (∀ f ∈ fs, (s.fn f).reset = none → ((t1.resetFns fs run).fn f).gate = .resetting ∧ ((t1.resetFns fs run).fn f).reset = some run) ∧
      (t1.resetFns fs run).mem = s.mem ∧ (t1.resetFns fs run).cores = s.cores := by
  obtain ⟨hmem, hcores⟩ := t1.resetFns_keeps fs run
  refine ⟨fun f hf hr => ?_, hmem.trans hm, hcores.trans hc⟩
  obtain ⟨hg, hrun, -, -⟩ := State.resetFns_reached (s := s) (t1 := t1) (run := run) ⟨by rw [hfn]; exact hr, fun q _ => hq q⟩ hf
  exact ⟨hg, hrun⟩

/-- A partition reset that finds none. -/
theorem State.resets_unbound {s t1 : State} (hn : t1.mgt.num = s.mgt.num) (hc : t1.cores = s.cores) (hp : t1.hif.parts = s.hif.parts) (p : Nat) :
    ((t1.finishPartition p).part p).epoch = ((s.part p).epoch + 1) % 2 ^ 32 ∧
      ∀ c ∈ s.coresOf p, s.cores.has c = true → ((t1.finishPartition p).core c).l1 = [] ∧ ((t1.finishPartition p).core c).scl = [] := by
  obtain ⟨hep, hcores⟩ := t1.finishPartition_effect p
  refine ⟨?_, fun c hcp hhas => ?_⟩
  · rw [hep, State.part_congr hp]
  · obtain ⟨k, hk, h1, h2⟩ := clearCores_cleared (t1.coresOf p) t1 (by rw [State.qmask_of_num hn]; exact hcp) (by rw [hc]; exact hhas)
    have hkc : (t1.finishPartition p).core c = k := by
      rw [State.core, SMap.getD, hcores, hk]
    rw [hkc]
    exact ⟨h1, h2⟩

/-- What a partition reset does once its trigger is accepted. -/
def State.partitionResets (p : Nat) (t : State) : State :=
  let t1 := t.logReset 4 0x0A
  let run : ResetRun := { kind := 4, since := t.time.mono, partition := p }
  if (t1.boundFns p).isEmpty then t1.finishPartition p else t1.resetFns (t1.boundFns p) run

theorem partitionReset_eq {s : State} {who : Origin} {p : Nat} (hp : p < 64) :
    Machine.partitionReset who p s = s.triggerWrite who (E.partitionReset + p) 1 0 (State.partitionResets p) := by
  refine (if_neg (by omega)).trans (congrArg (s.triggerWrite who (E.partitionReset + p) 1 0) (funext fun t => ?_))
  dsimp only
  rw [State.partitionResets]
  generalize t.logReset 4 0x0A = t1
  generalize ht : t1.boundFns p = fs
  by_cases h0 : fs.contains 0 = true
  · have hne : ¬ fs.isEmpty = true := fun h => by rw [List.isEmpty_iff.mp h] at h0; exact absurd h0 (by decide)
    rw [if_pos h0, if_neg hne, State.resetFns, if_pos h0]
  · rw [if_neg h0]
    by_cases he : fs.isEmpty = true
    · rw [if_pos he, if_pos he, List.isEmpty_iff.mp he, List.foldl_nil]
    · rw [if_neg he, if_neg he, State.resetFns, if_neg h0]

theorem State.unitDone_fn (s : State) (k i f : Nat) : (s.unitDone k i).fn f = s.fn f := rfl
theorem State.unitDone_part (s : State) (k i p : Nat) : (s.unitDone k i).part p = s.part p := rfl
theorem State.unitDone_core (s : State) (k i c : Nat) : (s.unitDone k i).core c = s.core c := rfl
theorem State.unitDone_num (s : State) (k i a : Nat) : (s.unitDone k i).num a = s.num a := rfl

theorem resets_partition {s : State} {who : Origin} {p : Nat} (hp : p < 64) (hc : s.deviceCheck who (E.partitionReset + p) = 0)
    (hgo : s.unitGoes 13 p (Machine.partitionReset who p)) :
    ∃ t, exec (.partitionReset who p) s = .next t ∧
      (∀ f ∈ s.boundFns p, (s.fn f).reset = none → (t.fn f).gate = .resetting ∧ (t.fn f).reset = some { kind := 4, since := s.time.mono, partition := p }) ∧
      (s.boundFns p ≠ [] → t.mem = s.mem ∧ t.cores = s.cores) ∧
      (s.boundFns p = [] → (t.part p).epoch = ((s.part p).epoch + 1) % 2 ^ 32 ∧
        (∀ c ∈ s.coresOf p, s.cores.has c = true → (t.core c).l1 = [] ∧ (t.core c).scl = [])) := by
  have hsome : (entryInfo (E.partitionReset + p)).isSome := entryInfo_isSome_of_row (b := E.partitionReset) (n := 64) (by decide) (Nat.le_add_right _ _) (by omega)
  refine ⟨_, congrArg Host.Outcome.next (State.unit_of_goes hgo), ?_⟩
  simp only [State.unitDone_fn, State.unitDone_part, State.unitDone_core]
  rw [State.unitDone_mem, State.unitDone_cores, partitionReset_eq hp]
  obtain ⟨old, new, htrig⟩ := State.triggerWrite_good (v := 1) (State.partitionResets p) hc hsome
  rw [htrig]
  generalize hd : s.dictLogged who (E.partitionReset + p) 0 old new = d
  have hmono : d.time.mono = s.time.mono := by simp [← hd]
  rw [State.partitionResets, hmono]
  generalize ht1 : d.logReset 4 0x0A = t1
  have hnum : t1.mgt.num = s.mgt.num := by simp [← ht1, ← hd]
  have hbound : t1.boundFns p = s.boundFns p :=
    State.boundFns_congr (by simp [← ht1, ← hd]) (by simp [← ht1, ← hd]) (fun f _ => State.num_of_mgt_num hnum _ 0) p
  have hfn (f : Nat) : t1.fn f = s.fn f := State.fn_congr (by simp [← ht1, ← hd]) f
  have hq (q : Nat) : t1.q q = s.q q := by rw [State.q, State.q, show t1.fe = s.fe by simp [← ht1, ← hd]]
  have hcores : t1.cores = s.cores := by simp [← ht1, ← hd]
  have hmem : t1.mem = s.mem := by simp [← ht1, ← hd]
  have hparts : t1.hif.parts = s.hif.parts := by simp [← ht1, ← hd]
  rw [hbound]
  by_cases he : s.boundFns p = []
  · rw [if_pos (List.isEmpty_iff.mpr he)]
    refine ⟨fun f hf => ?_, fun h => absurd he h, fun _ => State.resets_unbound hnum hcores hparts p⟩
    rw [he] at hf
    exact absurd hf List.not_mem_nil
  · rw [if_neg (by rw [List.isEmpty_iff]; exact he)]
    obtain ⟨hf, hm, hcr⟩ := State.resets_bound hmem hcores hfn hq (s.boundFns p) { kind := 4, since := s.time.mono, partition := p }
    exact ⟨hf, fun _ => ⟨hm, hcr⟩, fun h => absurd h he⟩

end Sys2Proof.Machine
end

section
/-! Settling O42: masks and slabs (R327 to R330). -/

namespace Sys2Proof.Machine

theorem State.any_bound_gate {s : State} {l : List Nat} (h : ∀ f ∈ l, (s.fn f).gate = .disabled) : l.any (fun f => !decide ((s.fn f).gate = .disabled)) = false :=
  List.any_eq_false.mpr fun f hf => by rw [decide_eq_true (h f hf)]; decide

theorem State.any_bound_open {s : State} {l : List Nat} (h : ∃ f ∈ l, (s.fn f).gate ≠ .disabled) : l.any (fun f => !decide ((s.fn f).gate = .disabled)) = true :=
  let ⟨f, hf, hg⟩ := h
  List.any_eq_true.mpr ⟨f, hf, by rw [decide_eq_false hg]; rfl⟩

/-- A write that its unit's own rule refuses. -/
theorem State.answers_unit {s : State} {c : State → State} {k i st : Nat} (h : c s = s.answer st) (hr : s.l2.refused = none) :
    s.unit k i c = (s.answer st).unitDone k i := by
  have hgo : s.unitGoes k i c := State.unitGoes_of_dir_eq k i (by rw [h]; rfl) (by rw [h]; exact hr)
  rw [State.unit_of_goes hgo, h]

/-! The mask of a partition. -/

theorem isSome_partitionQmask {p : Nat} (hp : p < 64) : (entryInfo (E.partitionQmask + p)).isSome :=
  entryInfo_isSome_of_row (b := E.partitionQmask) (n := 64) (by decide) (Nat.le_add_right _ _) (by omega)

theorem isSome_slabOwner {n : Nat} (hn : n < 960) : (entryInfo (E.slabOwner + n)).isSome :=
  entryInfo_isSome_of_row (b := E.slabOwner) (n := 960) (by decide) (Nat.le_add_right _ _) (by omega)

/-- What stands against a write of a partition's mask. -/
def State.qmaskBad (s : State) (p v : Nat) : Bool :=
  let bound := (List.range 256).filter (fun f => decide (s.fnPart f = p) && s.fnExists f)
  (List.range 64).any (fun o => !decide (o = p) && !decide (natAnd 64 (s.qmask o) v = 0)) || bound.any (fun f => !decide ((s.fn f).gate = .disabled)) ||
    (s.coresOf p).any (fun c => !(s.core c).blocks.isEmpty) || (decide (v = 0) && !bound.isEmpty)

theorem State.qmaskBad_eq (s : State) (p v : Nat) : s.qmaskBad p v =
    ((List.range 64).any (fun o => !decide (o = p) && !decide (natAnd 64 (s.qmask o) v = 0)) || (s.boundFns p).any (fun f => !decide ((s.fn f).gate = .disabled)) ||
      (s.coresOf p).any (fun c => !(s.core c).blocks.isEmpty) || (decide (v = 0) && !(s.boundFns p).isEmpty)) := by
  have hb : (List.range 256).filter (fun f => decide (s.fnPart f = p) && s.fnExists f) = s.boundFns p := List.filter_congr fun f _ => Bool.and_comm _ _
  rw [State.qmaskBad, hb]

/-- The cores of a partition whose mask changes. -/
def State.rescratched (t : State) (p : Nat) : State :=
  (t.coresOf p).foldl (fun s c => s.modCore c (fun k => { k with scratchPending := decide (k.scratchKib ≠ s.num E.scratchKib p) })) t

section
variable {s : State} {who : Origin} {p v : Nat}

theorem qmaskWrite_bad (hp : p < 64) (hv : v < 2 ^ 64) (hc : s.deviceCheck who (E.partitionQmask + p) = 0) (hb : s.qmaskBad p v = true) :
    partitionQmaskWrite who p v s = s.answer 5 := by
  rw [State.qmaskBad] at hb
  rw [partitionQmaskWrite, if_neg (by omega), Nat.mod_eq_of_lt hv]
  refine (if_pos (.inl hb)).trans ?_
  rw [State.deviceWrite_bad s who id hc (by rw [if_pos hb]; decide), if_pos hb]

theorem qmaskWrite_good (hp : p < 64) (hv : v < 2 ^ 64) (hc : s.deviceCheck who (E.partitionQmask + p) = 0) (hb : s.qmaskBad p v = false) :
    partitionQmaskWrite who p v s = (((s.linesToI (fun l => decide (s.linePart l = some p))).dictNum who (E.partitionQmask + p) 0 v).modPart p
      (fun x => { x with epoch := (x.epoch + 1) % 2 ^ 32, redirects := [] })).rescratched p := by
  rw [State.qmaskBad] at hb
  rw [partitionQmaskWrite, if_neg (by omega), Nat.mod_eq_of_lt hv]
  refine (if_neg (fun h => ?_)).trans ?_
  · rcases h with h | h
    · exact Bool.false_ne_true (hb.symm.trans h)
    · exact h hc
  · exact State.deviceWrite_ok _ _ _ _ _ ((State.deviceCheck_congr (by simp) _ _).trans hc)

theorem State.rescratched_keeps (t : State) (p : Nat) : (t.rescratched p).mgt = t.mgt ∧ (t.rescratched p).hif = t.hif ∧ (t.rescratched p).l2 = t.l2 := by
  rw [State.rescratched]
  exact ⟨foldl_mgt _ t fun _ _ => State.modCore_mgt _ _ _, foldl_hif _ t fun _ _ => State.modCore_hif _ _ _, foldl_l2 _ t fun _ _ => State.modCore_l2 _ _ _⟩

theorem State.qmaskBad_false (ho : ∀ o, o < 64 → o ≠ p → natAnd 64 (s.qmask o) v = 0) (hf : ∀ f ∈ s.boundFns p, (s.fn f).gate = .disabled)
    (hb : ∀ c ∈ s.coresOf p, (s.core c).blocks = []) (hz : v ≠ 0 ∨ s.boundFns p = []) : s.qmaskBad p v = false := by
  have h1 : (List.range 64).any (fun o => !decide (o = p) && !decide (natAnd 64 (s.qmask o) v = 0)) = false :=
    List.any_eq_false.mpr fun o hlt => by
      by_cases hop : o = p
      · simp [hop]
      · simp [ho o (List.mem_range.mp hlt) hop]
  have h3 : (s.coresOf p).any (fun c => !(s.core c).blocks.isEmpty) = false := List.any_eq_false.mpr fun c hcm => by simp [hb c hcm]
  have h4 : (decide (v = 0) && !(s.boundFns p).isEmpty) = false := by
    rcases hz with hz | hz
    · rw [decide_eq_false hz, Bool.false_and]
    · rw [hz, List.isEmpty_nil, Bool.not_true, Bool.and_false]
  rw [State.qmaskBad_eq, h1, State.any_bound_gate hf, h3, h4]
  rfl

theorem State.qmaskBad_true (h : (∃ o, o < 64 ∧ o ≠ p ∧ natAnd 64 (s.qmask o) v ≠ 0) ∨ (∃ f ∈ s.boundFns p, (s.fn f).gate ≠ .disabled) ∨
    (∃ c ∈ s.coresOf p, (s.core c).blocks ≠ []) ∨ (v = 0 ∧ s.boundFns p ≠ [])) : s.qmaskBad p v = true := by
  rw [State.qmaskBad_eq]
  simp only [Bool.or_eq_true]
  rcases h with ⟨o, hlt, hop, hn⟩ | hf | ⟨c, hcm, hb⟩ | ⟨hv, hne⟩
  · exact .inl (.inl (.inl (List.any_eq_true.mpr ⟨o, List.mem_range.mpr hlt, by rw [decide_eq_false hop, decide_eq_false hn]; rfl⟩)))
  · exact .inl (.inl (.inr (State.any_bound_open hf)))
  · exact .inl (.inr (List.any_eq_true.mpr ⟨c, hcm, by simpa using hb⟩))
  · exact .inr (by simpa using ⟨hv, hne⟩)

theorem writes_qmask (hp : p < 64) (hv : v < 2 ^ 64) (hc : s.deviceCheck who (E.partitionQmask + p) = 0) (hb : s.qmaskBad p v = false)
    (hgo : s.unitGoes 13 p (partitionQmaskWrite who p v)) :
    ∃ t, exec (.partitionQmaskWrite who p v) s = .next t ∧ t.num (E.partitionQmask + p) = v ∧
      (t.part p).epoch = ((s.part p).epoch + 1) % 2 ^ 32 ∧ (∀ l, s.linePart l = some p → t.l2.dir.get? l = none) ∧
      (∀ l, s.linePart l ≠ some p → t.l2.dir.get? l = s.l2.dir.get? l) := by
  refine ⟨_, congrArg Host.Outcome.next (State.unit_of_goes hgo), ?_⟩
  rw [State.unitDone_num, State.unitDone_part, qmaskWrite_good hp hv hc hb]
  have hdir (t : State) (l : Nat) : (t.unitDone 13 p).l2.dir.get? l = t.l2.dir.get? l := rfl
  simp only [hdir]
  generalize hs1 : s.linesToI (fun l => decide (s.linePart l = some p)) = s1
  have hpart : s1.part p = s.part p := State.part_congr (by simp [← hs1]) p
  have hl (l : Nat) : s1.l2.dir.get? l = if decide (s.linePart l = some p) then none else s.l2.dir.get? l := by rw [← hs1, State.linesToI_dir]
  obtain ⟨hmgt, hhif, hl2⟩ := ((s1.dictNum who (E.partitionQmask + p) 0 v).modPart p (fun x => { x with epoch := (x.epoch + 1) % 2 ^ 32, redirects := [] })).rescratched_keeps p
  rw [hl2, State.num_of_mgt_num (congrArg Mgt.num hmgt), State.part, hhif]
  have hl2' : ((s1.dictNum who (E.partitionQmask + p) 0 v).modPart p (fun x => { x with epoch := (x.epoch + 1) % 2 ^ 32, redirects := [] })).l2 = s1.l2 := by simp
  rw [hl2']
  refine ⟨State.dictNum_num_self _ _ _ _ _ (isSome_partitionQmask hp), ?_, fun l h => ?_, fun l h => ?_⟩
  · refine (congrArg PartSt.epoch (State.modPart_self (s1.dictNum who (E.partitionQmask + p) 0 v) p (fun x => { x with epoch := (x.epoch + 1) % 2 ^ 32, redirects := [] }))).trans ?_
    dsimp only
    rw [State.part_congr (t := s1.dictNum who (E.partitionQmask + p) 0 v) (s := s1) (by simp), hpart]
  · rw [hl, decide_eq_true h]
    rfl
  · rw [hl, decide_eq_false h]
    rfl

end

/-! Slabs. -/

section
variable {s : State} {who : Origin} {n p : Nat}

/-- The functions of a partition told that its slabs changed. -/
def State.slabTold (t : State) (p : Nat) : State :=
  (t.boundFns p).foldl (fun s f => (s.modFn f (fun x => { x with slabsChanged := true })).signal f (fnEventVector f)) t

theorem State.slabTold_keeps (t : State) (p : Nat) : (t.slabTold p).mgt = t.mgt ∧ (t.slabTold p).hif.parts = t.hif.parts ∧ (t.slabTold p).l2 = t.l2 ∧
    (t.slabTold p).mem = t.mem ∧ (t.slabTold p).cores = t.cores :=
  ⟨foldl_keeps (fun s => s.mgt) (fun _ _ => by simp) _ t, foldl_keeps (fun s => s.hif.parts) (fun _ _ => by simp) _ t, foldl_keeps (fun s => s.l2) (fun _ _ => by simp) _ t,
    foldl_keeps (fun s => s.mem) (fun _ _ => by simp) _ t, foldl_keeps (fun s => s.cores) (fun _ _ => by simp) _ t⟩

theorem State.slabTold_changed (t : State) {p f : Nat} (hf : f ∈ t.boundFns p) : ((t.slabTold p).fn f).slabsChanged = true := by
  have hsig (u : State) (b : Nat) : ((u.modFn b (fun x => { x with slabsChanged := true })).signal b (fnEventVector b)).fn f = (u.modFn b (fun x => { x with slabsChanged := true })).fn f :=
    State.fn_congr (by simp) f
  have hself (u : State) : (((u.modFn f (fun x => { x with slabsChanged := true })).signal f (fnEventVector f)).fn f).slabsChanged = true := by
    rw [hsig, State.modFn_fn_self u f (fun x => { x with slabsChanged := true })]
  refine foldl_establishes (P := fun u => (u.fn f).slabsChanged = true) (Q := fun _ => True) (a := f) (fun _ _ _ => trivial) (fun u _ => hself u) (fun u b _ h => ?_) _ t trivial (.inl hf)
  by_cases hb : f = b
  · subst hb
    exact hself u
  · rw [hsig, State.modFn_fn_ne _ _ _ hb]
    exact h

theorem writeSlab_taken (hn : n < 960) (hp : p < 64) (hc : s.deviceCheck who (E.slabOwner + n) = 0) (ho : s.num (E.slabOwner + n) = 255) (hz : n ∈ s.hif.zeroing) :
    slabGrant who n p s = s.answer 5 := by
  have hb : (s.hif.zeroing.contains n || s.stk.rowZeroing.has (n / 20) || s.slabInFailed n) = true := by rw [List.contains_iff_mem.mpr hz]; rfl
  rw [slabGrant, State.writeSlab, if_neg (by omega), ho]
  refine (if_neg (by omega)).trans ((if_neg (by omega)).trans ((if_pos rfl).trans ?_))
  rw [hb]
  exact State.deviceWrite_bad s who _ hc (by decide)

theorem writeSlab_grants (hn : n < 960) (hp : p < 64) (hc : s.deviceCheck who (E.slabOwner + n) = 0) (ho : s.num (E.slabOwner + n) = 255) (hz : n ∉ s.hif.zeroing)
    (hr : s.stk.rowZeroing.has (n / 20) = false) (hf : s.slabInFailed n = false) :
    slabGrant who n p s = (((s.linesToI (fun l => decide (l / 2 ^ 24 = n))).dictNum who (E.slabOwner + n) 0 p).modPart p (fun x => { x with slabs := x.slabs ++ [n] })).slabTold p := by
  have hb : (s.hif.zeroing.contains n || s.stk.rowZeroing.has (n / 20) || s.slabInFailed n) = false := by
    rw [hr, hf, Bool.or_false, Bool.or_false]
    exact Bool.eq_false_iff.mpr fun h => hz (List.contains_iff_mem.mp h)
  rw [slabGrant, State.writeSlab, if_neg (by omega), ho]
  refine (if_neg (by omega)).trans ((if_neg (by omega)).trans ((if_pos rfl).trans ?_))
  rw [hb]
  dsimp only
  rw [if_neg (fun h => h.elim Bool.false_ne_true (fun h => h hc))]
  exact State.deviceWrite_ok _ _ _ _ _ ((State.deviceCheck_congr (by simp) _ _).trans hc)

theorem writeSlab_owned (hn : n < 960) (hp : p < 64) {o : Nat} (hc : s.deviceCheck who (E.slabOwner + n) = 0) (hop : o ≠ p) (ho : o < 64) (hs : s.num (E.slabOwner + n) = p) :
    slabGrant who n o s = s.answer 5 := by
  rw [slabGrant, State.writeSlab, if_neg (by omega), hs]
  refine (if_neg hop).trans ((if_neg (by omega)).trans ((if_neg (by omega)).trans ((if_pos (by omega)).trans ?_)))
  exact State.deviceWrite_bad s who _ hc (by decide)

theorem writeSlab_bound (hn : n < 960) (hp : p < 64) (hc : s.deviceCheck who (E.slabOwner + n) = 0) (hs : s.num (E.slabOwner + n) = p)
    (hf : ∃ f ∈ s.boundFns p, (s.fn f).gate ≠ .disabled) : slabRelease who n s = s.answer 5 := by
  have hb := State.any_bound_open hf
  rw [slabRelease, State.writeSlab, if_neg (by omega), hs]
  refine (if_neg (by omega)).trans ((if_neg (by omega)).trans ((if_neg (by omega)).trans ((if_neg (by omega)).trans ?_)))
  rw [hb]
  exact (if_pos (.inl rfl)).trans (State.deviceWrite_bad s who _ hc (by decide))

theorem writeSlab_releases (hn : n < 960) (hp : p < 64) (hc : s.deviceCheck who (E.slabOwner + n) = 0) (hs : s.num (E.slabOwner + n) = p)
    (hf : ∀ f ∈ s.boundFns p, (s.fn f).gate = .disabled) :
    ∃ t, slabRelease who n s = { t with hif.zeroing := setInsert n t.hif.zeroing } ∧
      t = ((s.linesToI (fun l => decide (l / 2 ^ 24 = n))).dictNum who (E.slabOwner + n) 0 255).modPart p (fun x => { x with slabs := x.slabs.filter (fun m => !decide (m = n)) }) := by
  have hb := State.any_bound_gate hf
  refine ⟨_, ?_, rfl⟩
  rw [slabRelease, State.writeSlab, if_neg (by omega), hs]
  refine (if_neg (by omega)).trans ((if_neg (by omega)).trans ((if_neg (by omega)).trans ((if_neg (by omega)).trans ?_)))
  rw [hb]
  exact (if_neg (fun h => h.elim Bool.false_ne_true (fun h => h hc))).trans (State.deviceWrite_ok _ _ _ _ _ ((State.deviceCheck_congr (by simp) _ _).trans hc))

theorem grants_slab (hn : n < 960) (hp : p < 64) (hc : s.deviceCheck who (E.slabOwner + n) = 0) (ho : s.num (E.slabOwner + n) = 255) (hz : n ∉ s.hif.zeroing)
    (hr : s.stk.rowZeroing.has (n / 20) = false) (hf : s.slabInFailed n = false) (hgo : s.unitGoes 14 n (slabGrant who n p)) :
    ∃ t, exec (.slabGrant who n p) s = .next t ∧ t.num (E.slabOwner + n) = p ∧ (t.part p).slabs = (s.part p).slabs ++ [n] ∧
      (∀ f ∈ s.boundFns p, (t.fn f).slabsChanged = true) ∧ (∀ l, l / 2 ^ 24 = n → t.l2.dir.get? l = none) ∧
      (∀ l, l / 2 ^ 24 ≠ n → t.l2.dir.get? l = s.l2.dir.get? l) ∧ (∀ a, a / 2 ^ 31 ≠ n → cellGet t.mem a = cellGet s.mem a) ∧ t.cores = s.cores := by
  refine ⟨_, congrArg Host.Outcome.next (State.unit_of_goes hgo), ?_⟩
  simp only [State.unitDone_fn]
  rw [State.unitDone_num, State.unitDone_part, State.unitDone_mem, State.unitDone_cores, writeSlab_grants hn hp hc ho hz hr hf]
  have hdir (t : State) (l : Nat) : (t.unitDone 14 n).l2.dir.get? l = t.l2.dir.get? l := rfl
  simp only [hdir]
  generalize hs1 : s.linesToI (fun l => decide (l / 2 ^ 24 = n)) = s1
  have hpart : s1.part p = s.part p := State.part_congr (by simp [← hs1]) p
  have hmgt1 : s1.mgt = s.mgt := by simp [← hs1]
  have hhif1 : s1.hif = s.hif := by simp [← hs1]
  have hcores1 : s1.cores = s.cores := by simp [← hs1]
  have hl (l : Nat) : s1.l2.dir.get? l = if decide (l / 2 ^ 24 = n) then none else s.l2.dir.get? l := by rw [← hs1, State.linesToI_dir]
  have hcell (a : Nat) (h : a / 2 ^ 31 ≠ n) : cellGet s1.mem a = cellGet s.mem a := by
    rw [← hs1]
    refine State.linesToI_cell s _ (decide_eq_false ?_)
    rw [Nat.div_div_eq_div_mul]
    exact h
  clear hs1
  generalize hu : (s1.dictNum who (E.slabOwner + n) 0 p).modPart p (fun x => { x with slabs := x.slabs ++ [n] }) = u
  have hself : u.num (E.slabOwner + n) = p := by
    rw [← hu]
    exact State.dictNum_num_self _ _ _ _ _ (isSome_slabOwner hn)
  have hupart : (u.part p).slabs = (s.part p).slabs ++ [n] := by
    rw [← hu, State.modPart_self, State.part_congr (t := s1.dictNum who (E.slabOwner + n) 0 p) (s := s1) (by simp), hpart]
  have hbound : u.boundFns p = s.boundFns p := by
    refine State.boundFns_congr ?_ ?_ (fun f hf => ?_) p
    · rw [← hu, ← hhif1]
      exact s1.dictNum_hif_vfEnable who _ 0 p
    · rw [← hu, ← hhif1]
      exact s1.dictNum_hif_numVfs who _ 0 p
    · rw [← hu, State.fnPart, State.fnPart, ← State.num_of_mgt_num (congrArg Mgt.num hmgt1)]
      exact State.dictNum_num_ne _ _ (by simp only [E.fnPartition, E.slabOwner]; omega)
  have hul2 : u.l2 = s1.l2 := by rw [← hu]; simp
  have humem : u.mem = s1.mem := by rw [← hu]; simp
  have hucores : u.cores = s1.cores := by rw [← hu]; simp
  obtain ⟨hmgt, hparts, hl2, hmem, hcores⟩ := u.slabTold_keeps p
  rw [hl2, hul2, hmem, humem, hcores, hucores]
  refine ⟨(State.num_of_mgt_num (congrArg Mgt.num hmgt) _ 0).trans hself, ?_, fun f hf => u.slabTold_changed (by rw [hbound]; exact hf), fun l h => ?_, fun l h => ?_, hcell, hcores1⟩
  · rw [State.part_congr hparts]
    exact hupart
  · rw [hl, decide_eq_true h]
    rfl
  · rw [hl, decide_eq_false h]
    rfl

theorem releases_slab (hn : n < 960) (hp : p < 64) (hc : s.deviceCheck who (E.slabOwner + n) = 0) (hs : s.num (E.slabOwner + n) = p)
    (hf : ∀ f ∈ s.boundFns p, (s.fn f).gate = .disabled) (hgo : s.unitGoes 14 n (slabRelease who n)) :
    ∃ t, exec (.slabRelease who n) s = .next t ∧ t.num (E.slabOwner + n) = 255 ∧ n ∈ t.hif.zeroing ∧
      (t.part p).slabs = (s.part p).slabs.filter (fun m => decide (m ≠ n)) ∧ (∀ l, l / 2 ^ 24 = n → t.l2.dir.get? l = none) := by
  obtain ⟨t, heq, ht⟩ := writeSlab_releases hn hp hc hs hf
  refine ⟨_, congrArg Host.Outcome.next (State.unit_of_goes hgo), ?_⟩
  rw [heq]
  refine ⟨?_, mem_setInsert_self _ _, ?_, fun l hl => ?_⟩
  · refine Eq.trans (b := t.num (E.slabOwner + n)) rfl ?_
    rw [ht]
    exact State.dictNum_num_self _ _ _ _ _ (isSome_slabOwner hn)
  · refine Eq.trans (b := (t.part p).slabs) rfl ?_
    rw [ht, State.modPart_self, State.part_congr (s := s) (by simp)]
    exact List.filter_congr fun m _ => by simp
  · refine Eq.trans (b := t.l2.dir.get? l) rfl ?_
    have hl2 : t.l2 = (s.linesToI (fun l => decide (l / 2 ^ 24 = n))).l2 := by rw [ht]; simp
    rw [hl2, State.linesToI_dir, decide_eq_true hl]
    rfl

theorem zeroes_slab (hz : n ∈ s.hif.zeroing) (hgo : s.unitGoes 14 n (slabZeroComplete n)) :
    ∃ t, exec (.slabZeroComplete n) s = .next t ∧ n ∉ t.hif.zeroing ∧ (∀ a, a / 2 ^ 31 = n → cellGet t.mem a = 0#8) ∧
      (∀ a, a / 2 ^ 31 ≠ n → cellGet t.mem a = cellGet s.mem a) ∧ (∀ g, g / 2 ^ 27 = n → g ∉ t.poison) ∧ t.cores = s.cores ∧ t.fe = s.fe := by
  have heq : slabZeroComplete n s = State.zeroRange { (s.linesToI (fun l => decide (l / 2 ^ 24 = n))) with hif.zeroing := setErase n s.hif.zeroing } (n * 2 ^ 31) (2 ^ 31) :=
    if_pos (List.contains_iff_mem.mpr hz)
  refine ⟨_, congrArg Host.Outcome.next (State.unit_of_goes hgo), ?_⟩
  rw [heq]
  refine ⟨notMem_setErase _ _, fun a ha => ?_, fun a ha => ?_, fun g hg => ?_, State.linesToI_cores _ _, State.linesToI_fe _ _⟩
  · exact (cellGet_cellZero _ _ _ _).trans (if_pos (by omega))
  · refine ((cellGet_cellZero _ _ _ _).trans (if_neg (by omega))).trans (State.linesToI_cell s _ (decide_eq_false ?_))
    rw [Nat.div_div_eq_div_mul]
    exact ha
  · refine fun hm => absurd (List.mem_filter.mp hm).2 ?_
    rw [decide_eq_true (show n * 2 ^ 31 ≤ 16 * g by omega), decide_eq_true (show 16 * g < n * 2 ^ 31 + 2 ^ 31 by omega)]
    decide

end

end Sys2Proof.Machine
end

section
/-! Settling O42: bindings, VF Enable, D3hot and the size of BAR2 (R316, R340, R341). -/

namespace Sys2Proof.Machine

section
variable {s : State} {f p n : Nat}

/-! The binding of a function. -/

theorem isSome_fnPartition (hf : f < 256) : (entryInfo (E.fnPartition + f)).isSome :=
  entryInfo_isSome_of_row (b := E.fnPartition) (n := 256) (by decide) (Nat.le_add_right _ _) (by omega)

theorem writes_fnPartition {who : Origin} (hf : f < 256) (hc : s.deviceCheck who (E.fnPartition + f) = 0) (hg : (s.fn f).gate = .disabled) (hp : p < 64) (hq : s.qmask p ≠ 0) :
    ∃ t, exec (.fnPartitionWrite who f p) s = .next t ∧ t.fnPart f = p ∧ t.fn f = s.fn f ∧ t.mem = s.mem ∧ t.cores = s.cores := by
  have heq : fnPartitionWrite who f p s = s.dictNum who (E.fnPartition + f) 0 p := by
    rw [fnPartitionWrite, if_neg (by omega), if_neg (by omega), if_neg (fun h => h.elim (fun h => h hg) hq)]
    exact State.deviceWrite_ok _ _ _ _ _ hc
  refine ⟨_, congrArg Host.Outcome.next heq, State.dictNum_num_self _ _ _ _ _ (isSome_fnPartition hf), State.fn_congr (by simp) f, by simp, by simp⟩

theorem refuses_fnPartition {who : Origin} (hf : f < 256) (hc : s.deviceCheck who (E.fnPartition + f) = 0) (h : (s.fn f).gate ≠ .disabled ∨ s.qmask p = 0) (hp : p < 64) :
    exec (.fnPartitionWrite who f p) s = .next (s.answer 5) := by
  refine congrArg Host.Outcome.next ?_
  rw [fnPartitionWrite, if_neg (by omega), if_neg (by omega), if_pos h]
  exact State.deviceWrite_bad _ _ _ hc (by decide)

/-! VF Enable. -/

/-- A virtual function that its enable opens. -/
def State.vfOpened (u : State) (g : Nat) : State :=
  if u.num (E.fnEnable + g) = 1 ∧ (u.fn g).gate = .disabled then u.modFn g (fun x => { x with gate := .opened }) else u

theorem State.vfOpened_mgt (u : State) (b : Nat) : (u.vfOpened b).mgt = u.mgt := by
  rw [State.vfOpened]
  split <;> rfl

theorem State.vfOpened_mem (u : State) (b : Nat) : (u.vfOpened b).mem = u.mem := by
  rw [State.vfOpened]
  split <;> rfl

theorem State.vfOpened_vfEnable (u : State) (b : Nat) : (u.vfOpened b).hif.vfEnable = u.hif.vfEnable := by
  rw [State.vfOpened]
  split <;> rfl

theorem State.vfOpened_numVfs (u : State) (b : Nat) : (u.vfOpened b).hif.numVfs = u.hif.numVfs := by
  rw [State.vfOpened]
  split <;> rfl

theorem State.vfOpened_fn_ne (u : State) {b g : Nat} (h : g ≠ b) : (u.vfOpened b).fn g = u.fn g := by
  rw [State.vfOpened]
  split
  · exact u.modFn_fn_ne b _ h
  · rfl

theorem State.vfOpened_opened {u : State} {g : Nat} (hn : u.num (E.fnEnable + g) = 1) (h : (u.fn g).gate = .disabled ∨ (u.fn g).gate = .opened) : ((u.vfOpened g).fn g).gate = .opened := by
  rw [State.vfOpened]
  split
  · rw [u.modFn_fn_self g (fun x => { x with gate := .opened })]
  · next hx => exact h.resolve_left fun hd => hx ⟨hn, hd⟩

theorem vfOpened_all (l : List Nat) (u : State) {g : Nat} (hm : g ∈ l) (hn : u.num (E.fnEnable + g) = 1) (hg : (u.fn g).gate = .disabled) :
    ((l.foldl State.vfOpened u).fn g).gate = .opened := by
  have hstep (v : State) (b : Nat) (h : v.num (E.fnEnable + g) = 1 ∧ ((v.fn g).gate = .disabled ∨ (v.fn g).gate = .opened)) :
      (v.vfOpened b).num (E.fnEnable + g) = 1 ∧ (((v.vfOpened b).fn g).gate = .disabled ∨ ((v.vfOpened b).fn g).gate = .opened) := by
    refine ⟨(State.num_of_mgt_num (congrArg Mgt.num (v.vfOpened_mgt b)) _ 0).trans h.1, ?_⟩
    by_cases hb : g = b
    · exact .inr (hb ▸ State.vfOpened_opened h.1 h.2)
    · rw [v.vfOpened_fn_ne hb]
      exact h.2
  refine foldl_establishes (P := fun u => (u.fn g).gate = .opened) (Q := fun v => v.num (E.fnEnable + g) = 1 ∧ ((v.fn g).gate = .disabled ∨ (v.fn g).gate = .opened)) (a := g)
    hstep (fun v h => State.vfOpened_opened h.1 h.2) (fun v b hq h => ?_) l u ⟨hn, .inl hg⟩ (.inl hm)
  by_cases hb : g = b
  · exact hb ▸ State.vfOpened_opened hq.1 hq.2
  · rw [v.vfOpened_fn_ne hb]
    exact h

/-- The state at which VF Enable is set. -/
def State.vfsOn (s : State) (n : Nat) : State := { s with hif.numVfs := min n 255, hif.vfEnable := true, hif.vfMse := true }

theorem State.vfsOn_exists (s : State) {n g : Nat} (h : g ≤ min n 255) : (s.vfsOn n).fnExists g = true := by
  have hlt : g < 256 := by omega
  by_cases h0 : g = 0
  · simp [State.fnExists, h0]
  · simp [State.fnExists, State.vfsOn, hlt, h]

theorem enables_vfs (hc : s.configLive = true) (hv : s.hif.vfEnable = false) :
    ∃ t, exec (.vfEnableWrite true n) s = .next t ∧ t.hif.vfEnable = true ∧ t.hif.numVfs = min n 255 ∧
      (∀ g, 0 < g → g ≤ min n 255 → s.num (E.fnEnable + g) = 1 → (s.fn g).gate = .disabled → (t.fn g).gate = .opened) ∧ t.mem = s.mem := by
  have heq : vfEnableWrite true n s = ((s.vfsOn n).vfsOf).foldl State.vfOpened (s.vfsOn n) := by
    rw [vfEnableWrite, if_neg (by rw [hc]; decide), if_neg (by rw [hv]; decide)]
    rfl
  refine ⟨_, congrArg Host.Outcome.next heq, ?_, ?_, fun g h0 hg hn hd => vfOpened_all _ _ ((s.vfsOn n).mem_vfsOf (by omega) (s.vfsOn_exists hg)) hn hd, ?_⟩
  · exact foldl_keeps (fun u => u.hif.vfEnable) State.vfOpened_vfEnable _ _
  · exact foldl_keeps (fun u => u.hif.numVfs) State.vfOpened_numVfs _ _
  · exact foldl_keeps (fun u => u.mem) State.vfOpened_mem _ _

/-- Resets of virtual functions one after the other are the ones of one FLR. -/
theorem foldl_flrWith (l : List Nat) (u : State) (run : ResetRun) (hu : u.flrRun = run) (h : ∀ g ∈ l, g ≠ 0) : l.foldl State.flrWith u = l.foldl (fun u g => u.flrOne run g) u := by
  induction l generalizing u with
  | nil => rfl
  | cons g l ih =>
    have hstep : u.flrWith g = u.flrOne run g := by rw [State.flrWith_ne _ (h g List.mem_cons_self), hu]
    have hrun : (u.flrWith g).flrRun = run := by rw [State.flrRun, State.flrWith_time_mono]; exact hu
    rw [List.foldl_cons, List.foldl_cons, ih _ hrun fun k hk => h k (List.mem_cons_of_mem _ hk), hstep]

/-- The state at which VF Enable is cleared. -/
def State.vfsOff (s : State) : State := { s with hif.vfEnable := false, hif.vfMse := false }

theorem disables_vfs (hc : s.configLive = true) (hv : s.hif.vfEnable = true) :
    ∃ t, exec (.vfEnableWrite false n) s = .next t ∧ t.hif.vfEnable = false ∧ (t.fn 0).gate = (s.fn 0).gate ∧
      (∀ g, 0 < g → s.fnExists g = true → (s.fn g).reset = none → (t.fn g).gate = .resetting) ∧ t.mem = s.mem := by
  have hne : ∀ g ∈ s.vfsOf, g ≠ 0 := fun g => State.vfsOf_ne_zero
  have heq : vfEnableWrite false n s = s.vfsOf.foldl State.flrWith s.vfsOff := by
    rw [vfEnableWrite, if_neg (by rw [hc]; decide), if_pos hv]
    rfl
  refine ⟨_, congrArg Host.Outcome.next heq, ?_⟩
  have hmem : (s.vfsOf.foldl State.flrWith s.vfsOff).mem = s.mem := foldl_keeps (fun u => u.mem) State.flrWith_mem _ _
  rw [hmem, foldl_flrWith _ s.vfsOff s.flrRun rfl hne]
  refine ⟨?_, ?_, fun g h0 he hr => ?_, rfl⟩
  · rw [State.flrs_vfEnable]
    rfl
  · rw [State.flrs_fn_ne _ _ (fun h => hne 0 h rfl)]
    rfl
  · have hu : s.Untouched s.vfsOff g := ⟨hr, fun _ _ => rfl⟩
    obtain ⟨hgate, -⟩ := State.flrs_reached (run := s.flrRun) s.vfsOf hu (s.mem_vfsOf (by omega) he)
    exact hgate

/-! D3hot. -/

theorem State.flrOne_fn (h : (s.fn f).reset = none) (run : ResetRun) : (s.flrOne run f).fn f = { s.fn f with gate := .resetting, reset := some run, pointReached := false } := by
  rw [State.flrOne, if_neg (by rw [h]; decide), State.logReset_fn, State.startFlr_fn h]

theorem State.flrWith_fn (h : (s.fn f).reset = none) : (s.flrWith f).fn f = { s.fn f with gate := .resetting, reset := some s.flrRun, pointReached := false } := by
  by_cases h0 : f = 0
  · subst h0
    rw [State.flrWith_zero, State.flrs_fn_ne _ _ (fun h => State.vfsOf_ne_zero h rfl)]
    exact State.flrOne_fn h _
  · rw [State.flrWith_ne _ h0, State.flrOne_fn h]

theorem enters_d3hot (hc : s.configLive = true) (he : s.fnExists f = true) (hr : (s.fn f).reset = none) :
    ∃ t, exec (.d3hotEntry f) s = .next t ∧ (t.fn f).d3hot = true ∧ (t.fn f).gate = .resetting ∧ (f = 0 → t.hif.vfEnable = false) ∧ t.mem = s.mem := by
  have heq : d3hotEntry f s = (s.modFn f (fun x => { x with d3hot := true })).flrWith f := by
    rw [d3hotEntry, if_neg (by rw [hc, he]; decide)]
  have hself := s.modFn_fn_self f (fun x => { x with d3hot := true })
  have hfn := State.flrWith_fn (s := s.modFn f (fun x => { x with d3hot := true })) (f := f) (by rw [hself]; exact hr)
  refine ⟨_, congrArg Host.Outcome.next heq, ?_, ?_, fun h0 => ?_, State.flrWith_mem _ _⟩
  · rw [hfn, hself]
  · rw [hfn]
  · subst h0
    exact State.flrWith_zero_vfEnable _

/-! The size of BAR2. -/

theorem resizes_bar2 {k : Nat} (hc : s.configLive = true) (hk : k ≤ 41) (h : 36 ≤ k) :
    ∃ t, exec (.bar2Resize false k) s = .next t ∧ t.hif.bar2Log = k ∧ t.num E.bar2Base = s.num E.bar2Base / 2 ^ k * 2 ^ k ∧
      t.hif.vfBar2Log = s.hif.vfBar2Log ∧ t.mem = s.mem := by
  have heq : bar2Resize false k s = State.setNum { s with hif.bar2Log := k } E.bar2Base (s.num E.bar2Base / 2 ^ k * 2 ^ k) := by
    rw [bar2Resize, if_neg (by rw [hc]; simp; omega), if_neg Bool.false_ne_true, if_neg (by omega)]
    rfl
  refine ⟨_, congrArg Host.Outcome.next heq, ?_, State.num_setNum_self _ _ _ _, ?_, ?_⟩ <;> simp

theorem resizes_vfBar2 {k : Nat} (hc : s.configLive = true) (hk : k ≤ 41) (h : 31 ≤ k) : exec (.bar2Resize true k) s = .next { s with hif.vfBar2Log := k } := by
  refine congrArg Host.Outcome.next ?_
  rw [bar2Resize, if_neg (by rw [hc]; simp; omega), if_pos rfl, if_neg (by omega)]

end

/-- Settles O42: a partition's reset and mask through the lines and functions of the partition, a slab through its life, and the configuration writes through the start of a reset. -/
theorem partitionsAndSlabs : Obligations.PartitionsAndSlabs :=
  ⟨fun _ _ _ hp hc hgo => resets_partition hp hc hgo,
   fun _ _ _ _ hp hv hc => ⟨fun ho hf hb hz hgo => writes_qmask hp hv hc (State.qmaskBad_false ho hf hb hz) hgo,
     fun h hr => congrArg Host.Outcome.next (State.answers_unit (qmaskWrite_bad hp hv hc (State.qmaskBad_true h)) hr)⟩,
   fun _ _ _ _ hn hp hc ho => ⟨fun hz hr hf hgo => grants_slab hn hp hc ho hz hr hf hgo,
     fun hz hr => congrArg Host.Outcome.next (State.answers_unit (writeSlab_taken hn hp hc ho hz) hr)⟩,
   fun _ _ _ _ hn hp hc hs => ⟨fun hf _ hgo => releases_slab hn hp hc hs hf hgo,
     fun hf hr => congrArg Host.Outcome.next (State.answers_unit (writeSlab_bound hn hp hc hs hf) hr),
     fun _ hop ho hr => congrArg Host.Outcome.next (State.answers_unit (writeSlab_owned hn hp hc hop ho hs) hr)⟩,
   fun _ _ hz hgo => zeroes_slab hz hgo,
   fun _ _ _ _ hf hc => ⟨fun hg hp hq => writes_fnPartition hf hc hg hp hq, fun h hp => refuses_fnPartition hf hc h hp⟩,
   fun s _ hc => ⟨fun hv => enables_vfs hc hv, fun hv => ⟨congrArg Host.Outcome.next (by rw [vfEnableWrite, if_neg (by rw [hc]; decide), if_pos hv, if_pos rfl]), disables_vfs hc hv⟩⟩,
   fun _ _ hc he hr => enters_d3hot hc he hr,
   fun _ _ hc hk => ⟨fun h => resizes_bar2 hc hk h, fun h => resizes_vfBar2 hc hk h⟩⟩

end Sys2Proof.Machine
end

section
/-! What the end of a function's reset leaves unchanged (R338, R339). -/

namespace Sys2Proof.Machine

@[simp] theorem State.mirrorWrite_mgt (s : State) (o : Nat) (x : SynObj) : (s.mirrorWrite o x).mgt = s.mgt := by
  unfold State.mirrorWrite
  (repeat' split) <;> simp
@[simp] theorem State.notifyCheck_mgt (s : State) (o : Nat) : (s.notifyCheck o).mgt = s.mgt := by
  unfold State.notifyCheck
  (repeat' split) <;> simp
@[simp] theorem State.finishObj_mgt (s : State) (o : Nat) (old x : SynObj) : (s.finishObj o old x).mgt = s.mgt := by simp [State.finishObj, ite_mgt]
@[simp] theorem State.objError_mgt (s : State) (o code : Nat) : (s.objError o code).mgt = s.mgt := by
  unfold State.objError
  (repeat' split) <;> simp
@[simp] theorem State.errorOwned_mgt (s : State) (f : Nat) : (s.errorOwned f).mgt = s.mgt := by simp [State.errorOwned, ite_mgt]
@[simp] theorem State.hostWrite_hif_vfEnable (s : State) (a : Nat) (x2 : List Byte) : (s.hostWrite a x2).hif.vfEnable = s.hif.vfEnable :=
  by fun_induction State.hostWrite s a x2 <;> simp_all
@[simp] theorem State.mirrorWrite_hif_vfEnable (s : State) (o : Nat) (x : SynObj) : (s.mirrorWrite o x).hif.vfEnable = s.hif.vfEnable := by
  unfold State.mirrorWrite
  (repeat' split) <;> simp
@[simp] theorem State.notifyCheck_hif_vfEnable (s : State) (o : Nat) : (s.notifyCheck o).hif.vfEnable = s.hif.vfEnable := by
  unfold State.notifyCheck
  (repeat' split) <;> simp
@[simp] theorem State.finishObj_hif_vfEnable (s : State) (o : Nat) (old x : SynObj) : (s.finishObj o old x).hif.vfEnable = s.hif.vfEnable :=
  by simp [State.finishObj, ite_hif_vfEnable]
@[simp] theorem State.objError_hif_vfEnable (s : State) (o code : Nat) : (s.objError o code).hif.vfEnable = s.hif.vfEnable := by
  unfold State.objError
  (repeat' split) <;> simp
@[simp] theorem State.errorOwned_hif_vfEnable (s : State) (f : Nat) : (s.errorOwned f).hif.vfEnable = s.hif.vfEnable := by simp [State.errorOwned, ite_hif_vfEnable]
@[simp] theorem State.hostWrite_hif_numVfs (s : State) (a : Nat) (x2 : List Byte) : (s.hostWrite a x2).hif.numVfs = s.hif.numVfs :=
  by fun_induction State.hostWrite s a x2 <;> simp_all
@[simp] theorem State.mirrorWrite_hif_numVfs (s : State) (o : Nat) (x : SynObj) : (s.mirrorWrite o x).hif.numVfs = s.hif.numVfs := by
  unfold State.mirrorWrite
  (repeat' split) <;> simp
@[simp] theorem State.notifyCheck_hif_numVfs (s : State) (o : Nat) : (s.notifyCheck o).hif.numVfs = s.hif.numVfs := by
  unfold State.notifyCheck
  (repeat' split) <;> simp
@[simp] theorem State.finishObj_hif_numVfs (s : State) (o : Nat) (old x : SynObj) : (s.finishObj o old x).hif.numVfs = s.hif.numVfs :=
  by simp [State.finishObj, ite_hif_numVfs]
@[simp] theorem State.objError_hif_numVfs (s : State) (o code : Nat) : (s.objError o code).hif.numVfs = s.hif.numVfs := by
  unfold State.objError
  (repeat' split) <;> simp
@[simp] theorem State.errorOwned_hif_numVfs (s : State) (f : Nat) : (s.errorOwned f).hif.numVfs = s.hif.numVfs := by simp [State.errorOwned, ite_hif_numVfs]
@[simp] theorem State.mirrorWrite_hif_fns (s : State) (o : Nat) (x : SynObj) : (s.mirrorWrite o x).hif.fns = s.hif.fns := by
  unfold State.mirrorWrite
  (repeat' split) <;> simp
@[simp] theorem State.notifyCheck_hif_fns (s : State) (o : Nat) : (s.notifyCheck o).hif.fns = s.hif.fns := by
  unfold State.notifyCheck
  (repeat' split) <;> simp
@[simp] theorem State.finishObj_hif_fns (s : State) (o : Nat) (old x : SynObj) : (s.finishObj o old x).hif.fns = s.hif.fns := by simp [State.finishObj, ite_hif_fns]
@[simp] theorem State.objError_hif_fns (s : State) (o code : Nat) : (s.objError o code).hif.fns = s.hif.fns := by
  unfold State.objError
  (repeat' split) <;> simp
@[simp] theorem State.errorOwned_hif_fns (s : State) (f : Nat) : (s.errorOwned f).hif.fns = s.hif.fns := by simp [State.errorOwned, ite_hif_fns]
@[simp] theorem State.dropWork_mgt (s : State) (q : Nat) : (s.dropWork q).mgt = s.mgt := rfl
@[simp] theorem State.dropWork_hif (s : State) (q : Nat) : (s.dropWork q).hif = s.hif := rfl
@[simp] theorem State.dropWork_obs (s : State) (q : Nat) : (s.dropWork q).obs = s.obs := rfl
@[simp] theorem State.dropWork_mem (s : State) (q : Nat) : (s.dropWork q).mem = s.mem := rfl
@[simp] theorem State.dropWork_cores (s : State) (q : Nat) : (s.dropWork q).cores = s.cores := rfl
@[simp] theorem foldl_fe_queues {α : Type} {g : State → α → State} (l : List α) (s : State) (hg : ∀ u a, (g u a).fe.queues = u.fe.queues) : (l.foldl g s).fe.queues = s.fe.queues :=
  foldl_keeps (fun s => s.fe.queues) hg l s
theorem ite_fe_queues (c : Prop) [Decidable c] (s t : State) : (if c then s else t).fe.queues = if c then s.fe.queues else t.fe.queues :=
  apply_ite (fun s : State => s.fe.queues) _ _ _
@[simp] theorem State.dropWork_fe_queues (s : State) (q : Nat) : (s.dropWork q).fe.queues = s.fe.queues := rfl
@[simp] theorem State.clearCntQ_mgt (s : State) (q : Nat) : (s.clearCntQ q).mgt = s.mgt := rfl
@[simp] theorem State.clearCntQ_hif (s : State) (q : Nat) : (s.clearCntQ q).hif = s.hif := rfl
@[simp] theorem foldl_hif_tcache {α : Type} {g : State → α → State} (l : List α) (s : State) (hg : ∀ u a, (g u a).hif.tcache = u.hif.tcache) : (l.foldl g s).hif.tcache = s.hif.tcache :=
  foldl_keeps (fun s => s.hif.tcache) hg l s
theorem ite_hif_tcache (c : Prop) [Decidable c] (s t : State) : (if c then s else t).hif.tcache = if c then s.hif.tcache else t.hif.tcache :=
  apply_ite (fun s : State => s.hif.tcache) _ _ _
@[simp] theorem State.modVec_hif_tcache (s : State) (f v : Nat) (g : Vector → Vector) : (s.modVec f v g).hif.tcache = s.hif.tcache := rfl
@[simp] theorem State.signal_hif_tcache (s : State) (f v : Nat) : (s.signal f v).hif.tcache = s.hif.tcache := by simp [State.signal, ite_hif_tcache]
@[simp] theorem State.fnEvent_hif_tcache (s : State) (f : Nat) : (s.fnEvent f).hif.tcache = s.hif.tcache := by simp [State.fnEvent]
@[simp] theorem foldl_hif_atsCache {α : Type} {g : State → α → State} (l : List α) (s : State) (hg : ∀ u a, (g u a).hif.atsCache = u.hif.atsCache) : (l.foldl g s).hif.atsCache = s.hif.atsCache :=
  foldl_keeps (fun s => s.hif.atsCache) hg l s
theorem ite_hif_atsCache (c : Prop) [Decidable c] (s t : State) : (if c then s else t).hif.atsCache = if c then s.hif.atsCache else t.hif.atsCache :=
  apply_ite (fun s : State => s.hif.atsCache) _ _ _
@[simp] theorem State.modVec_hif_atsCache (s : State) (f v : Nat) (g : Vector → Vector) : (s.modVec f v g).hif.atsCache = s.hif.atsCache := rfl
@[simp] theorem State.signal_hif_atsCache (s : State) (f v : Nat) : (s.signal f v).hif.atsCache = s.hif.atsCache := by simp [State.signal, ite_hif_atsCache]
@[simp] theorem State.fnEvent_hif_atsCache (s : State) (f : Nat) : (s.fnEvent f).hif.atsCache = s.hif.atsCache := by simp [State.fnEvent]
@[simp] theorem State.fnEvent_fe (s : State) (f : Nat) : (s.fnEvent f).fe = s.fe := by simp [State.fnEvent]
@[simp] theorem State.fnEvent_mem (s : State) (f : Nat) : (s.fnEvent f).mem = s.mem := by simp [State.fnEvent]
@[simp] theorem State.fnEvent_cores (s : State) (f : Nat) : (s.fnEvent f).cores = s.cores := by simp [State.fnEvent]
@[simp] theorem State.fnEvent_hif_fns (s : State) (f : Nat) : (s.fnEvent f).hif.fns = s.hif.fns := by simp [State.fnEvent]
@[simp] theorem foldl_hif_fnEvent {α : Type} {g : State → α → State} (l : List α) (s : State) (hg : ∀ u a, (g u a).hif.fnEvent = u.hif.fnEvent) : (l.foldl g s).hif.fnEvent = s.hif.fnEvent :=
  foldl_keeps (fun s => s.hif.fnEvent) hg l s
theorem ite_hif_fnEvent (c : Prop) [Decidable c] (s t : State) : (if c then s else t).hif.fnEvent = if c then s.hif.fnEvent else t.hif.fnEvent :=
  apply_ite (fun s : State => s.hif.fnEvent) _ _ _
@[simp] theorem State.modVec_hif_fnEvent (s : State) (f v : Nat) (g : Vector → Vector) : (s.modVec f v g).hif.fnEvent = s.hif.fnEvent := rfl
@[simp] theorem State.signal_hif_fnEvent (s : State) (f v : Nat) : (s.signal f v).hif.fnEvent = s.hif.fnEvent := by simp [State.signal, ite_hif_fnEvent]

end Sys2Proof.Machine
end

section
/-! Settling O41: function reset, disable and enable (R338 to R341). -/

namespace Sys2Proof.Machine

/-! Entries kept by their keys. -/

theorem get?_keep {α : Type} (m : SMap α) (p : Nat → Bool) (i : Nat) : (m.keep fun k _ => p k).get? i = if p i then m.get? i else none := by
  induction m with
  | nil => cases p i <;> rfl
  | cons e m ih =>
    have hcons : SMap.keep (e :: m) (fun k _ => p k) = if p e.1 then e :: SMap.keep m (fun k _ => p k) else SMap.keep m (fun k _ => p k) := List.filter_cons
    rw [hcons]
    by_cases hi : i = e.1
    · subst hi
      by_cases hp : p e.1 = true
      · simp [hp, SMap.get?]
      · rw [if_neg hp, ih, if_neg hp, if_neg hp]
    · have hget (n : SMap α) : SMap.get? (e :: n) i = SMap.get? n i := if_neg hi
      split
      · rw [hget, hget, ih]
      · rw [hget, ih]

theorem getD_keep_of {α : Type} {m : SMap α} {p : Nat → Bool} {i : Nat} (d : α) (h : p i = true) : (m.keep fun k _ => p k).getD i d = m.getD i d := by
  rw [SMap.getD, SMap.getD, get?_keep, if_pos h]

theorem getD_keep_not {α : Type} {m : SMap α} {p : Nat → Bool} {i : Nat} (d : α) (h : p i = false) : (m.keep fun k _ => p k).getD i d = d := by
  rw [SMap.getD, get?_keep, h]
  rfl

/-! The start of an FLR. -/

section
variable {s d : State} {f : Nat}

/-- What an FLR that begins at a state makes of it. -/
def State.FlrBegins (s t : State) (f : Nat) : Prop :=
  t.mem = s.mem ∧ t.cores = s.cores ∧ (f = 0 → t.hif.vfEnable = false) ∧
    (∀ g, g = f ∨ (f = 0 ∧ s.fnExists g = true) → (s.fn g).reset = none →
      (t.fn g).gate = .resetting ∧ (t.fn g).reset = some { kind := 5, since := s.time.mono, partition := 0 } ∧
      (∀ q, fnOfQueue q = g → (s.q q).state ≠ .disabled → (t.q q).state = .resetting) ∧
      (∀ v, v < 64 → (t.vec g v).due = false ∧ (t.vec g v).pending = false)) ∧
    (∀ q, fnOfQueue q ≠ f → f ≠ 0 → t.q q = s.q q)

theorem State.flrWith_begins (f : Nat) (hm : d.mem = s.mem) (hc : d.cores = s.cores) (ht : d.time.mono = s.time.mono) (hv : d.hif.vfEnable = s.hif.vfEnable)
    (hn : d.hif.numVfs = s.hif.numVfs) (hfn : d.hif.fns = s.hif.fns) (hfe : d.fe = s.fe) : s.FlrBegins (d.flrWith f) f := by
  have hrun : d.flrRun = { kind := 5, since := s.time.mono, partition := 0 } := by rw [State.flrRun, ht]
  refine ⟨(State.flrWith_mem _ _).trans hm, (State.flrWith_cores _ _).trans hc, fun h0 => h0 ▸ State.flrWith_zero_vfEnable d, fun g hg hr => ?_, fun q hq h0 => ?_⟩
  · have hreach := State.flrWith_reached (s := d) (f := f) (g := g) (by rw [State.fnExists_congr hv hn]; exact hg) (by rw [State.fn_congr hfn]; exact hr)
    rw [hrun] at hreach
    obtain ⟨hgate, hreset, hqs, hvs⟩ := hreach
    exact ⟨hgate, hreset, fun q hq hd => hqs q hq (by rw [State.q_congr hfe]; exact hd), hvs⟩
  · rw [State.flrWith_ne _ h0, State.flrOne_q_ne _ hq, State.q_congr hfe]

theorem begins_flr {who : Origin} (hf : f < 256) (he : s.fnExists f = true) (hcfg : who.iface = 0 → s.configLive = true)
    (hck : who.iface ≠ 0 → s.deviceCheck who (E.fnReset + f) = 0) : ∃ t, exec (.flr who f) s = .next t ∧ s.FlrBegins t f := by
  by_cases hi : who.iface = 0
  · have heq : flr who f s = s.flrWith f := by rw [flr, if_pos hi, if_pos ⟨hcfg hi, he⟩]
    exact ⟨_, congrArg Host.Outcome.next heq, State.flrWith_begins f rfl rfl rfl rfl rfl rfl rfl⟩
  · have hsome : (entryInfo (E.fnReset + f)).isSome := entryInfo_isSome_of_row (b := E.fnReset) (n := 256) (by decide) (Nat.le_add_right _ _) (by omega)
    obtain ⟨old, new, htrig⟩ := State.triggerWrite_good (v := 1) (fun t => t.flrWith f) (hck hi) hsome
    have heq : flr who f s = (s.dictLogged who (E.fnReset + f) 0 old new).flrWith f := by
      rw [flr, if_neg hi, if_neg (by omega), if_pos he]
      exact htrig
    refine ⟨_, congrArg Host.Outcome.next heq, State.flrWith_begins f ?_ ?_ ?_ ?_ ?_ ?_ ?_⟩ <;> simp

end

/-! The end of an FLR. -/

section
variable {s : State} {f : Nat}

theorem State.settleFn_settled (h : ∀ q ∈ queuesOfFn f, (s.q q).state = .resetting → (s.q q).settled = true) : s.settleFn f = s := by
  rw [State.settleFn]
  refine List.foldlRecOn (motive := fun u : State => u = s) _ _ rfl (fun u hu q hq => ?_)
  rw [hu]
  refine if_neg fun ⟨hr, hs, _⟩ => ?_
  rw [h q hq hr] at hs
  exact absurd hs (by decide)

theorem State.fnQuiet_settled (h : ∀ q ∈ queuesOfFn f, (s.q q).state = .resetting → (s.q q).settled = true) (hr : ∀ r ∈ s.fab.reqs.vals, fnOfQueue r.queue ≠ f) :
    s.fnQuiet f = true := by
  rw [State.fnQuiet, Bool.and_eq_true]
  refine ⟨List.all_eq_true.mpr fun q hq => ?_, ?_⟩
  · by_cases hs : (s.q q).state = .resetting
    · rw [h q hq hs, Bool.or_true]
    · rw [decide_eq_false hs]
      rfl
  · rw [List.any_eq_false.mpr fun r hm => by rw [decide_eq_false (hr r hm)]; decide]
    rfl

/-- The end of an FLR whose function is quiet. -/
theorem flrComplete_ends {run : ResetRun} (hrun : (s.fn f).reset = some run) (hk : run.kind = 5)
    (hs : ∀ q ∈ queuesOfFn f, (s.q q).state = .resetting → (s.q q).settled = true) (hr : ∀ r ∈ s.fab.reqs.vals, fnOfQueue r.queue ≠ f)
    (h0 : f = 0 → ∀ e ∈ s.hif.fns, 0 < e.1 → e.2.reset = none) : flrComplete f s = s.finishFlr f := by
  have hms : s.resetMembers f run = [f] := if_pos hk
  rw [flrComplete, hrun]
  dsimp only
  simp only [hms, List.foldl_cons, List.foldl_nil, State.settleFn_settled hs]
  have hgo : ¬ ((!(List.all [f] s.fnQuiet)) = true ∨ run.kind = 5 ∧ f = 0 ∧ (s.hif.fns.any (fun e => decide (0 < e.1) && e.2.reset.isSome)) = true) := fun h => by
    rcases h with h | ⟨-, hf, h⟩
    · rw [List.all_cons, State.fnQuiet_settled hs hr] at h
      exact Bool.false_ne_true h
    · obtain ⟨e, he, hp⟩ := List.any_eq_true.mp h
      rw [Bool.and_eq_true, decide_eq_true_eq] at hp
      rw [h0 hf e he hp.1] at hp
      exact absurd hp.2 (by decide)
  rw [if_neg hgo, if_neg (show ¬ run.kind = 4 by omega), if_neg (show ¬ run.kind = 3 by omega)]

/-- An entry without a target is emptied by F0's reset at most. -/
theorem fnVolatile_untargeted {a : Nat} (h : f = 0 → fnVolatile 0 (a * 256) = false) : fnVolatile f (a * 256) = false := by
  by_cases h0 : f = 0
  · rw [h0]
    exact h h0
  · rw [fnVolatile]
    cases entryInfo (a * 256 / 256) with
    | none => rfl
    | some r =>
      dsimp only
      rw [decide_eq_false (show a * 256 % 256 ≠ f by omega), Bool.and_false]

theorem fnVolatile_fnEnable (f : Nat) : fnVolatile f ((E.fnEnable + f) * 256) = false :=
  fnVolatile_untargeted fun h => by rw [h]; decide

theorem fnVolatile_fnEpoch (f : Nat) : fnVolatile f ((E.fnEpoch + f) * 256) = false :=
  fnVolatile_untargeted fun h => by rw [h]; decide

/-- The event of a function: its epoch counted and its bit set. -/
theorem State.fnEvent_effect (s : State) (f : Nat) : (s.fnEvent f).num (E.fnEpoch + f) = (s.num (E.fnEpoch + f) + 1) % 2 ^ 32 ∧ bit (s.fnEvent f).hif.fnEvent f = true := by
  rw [State.fnEvent]
  refine ⟨?_, ?_⟩
  · rw [State.num_of_mgt_num (congrArg Mgt.num (State.signal_mgt _ _ _))]
    exact State.num_setNum_self _ _ _ _
  · rw [State.signal_hif_fnEvent]
    exact (bit_setBit _ _ _).trans (by rw [decide_eq_true rfl, Bool.true_or])

/-- The work of a function's queues dropped. -/
def State.workDropped (s : State) (f : Nat) : State := (queuesOfFn f).foldl (fun s q => (s.dropWork q).clearCntQ q) s

theorem State.workDropped_keeps (s : State) (f : Nat) : (s.workDropped f).mgt = s.mgt ∧ (s.workDropped f).hif = s.hif ∧ (s.workDropped f).fe.queues = s.fe.queues ∧
    (s.workDropped f).mem = s.mem ∧ (s.workDropped f).cores = s.cores := by
  rw [State.workDropped]
  refine ⟨foldl_mgt _ s fun _ _ => ?_, foldl_hif _ s fun _ _ => ?_, foldl_fe_queues _ s fun _ _ => ?_, foldl_mem _ s fun _ _ => ?_, foldl_cores _ s fun _ _ => ?_⟩ <;> simp

/-- The end of an FLR through the state that its function's emptying leaves. -/
theorem State.finishFlr_emptied (s : State) (f : Nat) : ∃ u : State, s.finishFlr f =
      (u.modFn f (fun x => { FnSt.initial with gate := if u.fnExists f && decide (u.num (E.fnEnable + f) = 1) then .opened else .disabled, d3hot := x.d3hot })).fnEvent f ∧
    u.mgt.num = s.mgt.num.keep (fun k _ => !fnVolatile f k) ∧ u.fnExists f = s.fnExists f ∧ (∀ q, fnOfQueue q = f → u.q q = Queue.initial) ∧
    (∀ e ∈ u.hif.tcache, e.fn ≠ f) ∧ (∀ e ∈ u.hif.atsCache, e.fn ≠ f) := by
  obtain ⟨hmgt, hhif, -, -, -⟩ := (s.errorOwned f).workDropped_keeps f
  refine ⟨_, rfl, ?_, ?_, fun q hq => ?_, fun e he => ?_, fun e he => ?_⟩
  · refine congrArg (fun m : SMap Nat => m.keep (fun k _ => !fnVolatile f k)) (a₁ := ((s.errorOwned f).workDropped f).mgt.num) ?_
    rw [hmgt, State.errorOwned_mgt]
  · by_cases h0 : f = 0
    · rw [State.fnExists, State.fnExists, decide_eq_true h0, Bool.true_or, Bool.true_or]
    · refine State.fnExists_congr (t := _) (s := s) ?_ ?_ f
      · refine Eq.trans (b := ((s.errorOwned f).workDropped f).hif.vfEnable) rfl ?_
        rw [hhif, State.errorOwned_hif_vfEnable]
      · refine (if_neg h0).trans (Eq.trans (b := ((s.errorOwned f).workDropped f).hif.numVfs) rfl ?_)
        rw [hhif, State.errorOwned_hif_numVfs]
  · exact getD_keep_not (p := fun k => !decide (k / 16 = f)) _ (by rw [decide_eq_true (show q / 16 = f from hq)]; rfl)
  · exact fun h => by
      have hp := (List.mem_filter.mp he).2
      rw [decide_eq_true h] at hp
      exact absurd hp (by decide)
  · exact fun h => by
      have hp := (List.mem_filter.mp he).2
      rw [decide_eq_true h] at hp
      exact absurd hp (by decide)

/-- What the end of an FLR makes of its function. -/
theorem State.finishFlr_effect (s : State) (f : Nat) :
    ((s.finishFlr f).fn f).gate = (if s.fnExists f = true ∧ s.num (E.fnEnable + f) = 1 then .opened else .disabled) ∧ ((s.finishFlr f).fn f).reset = none ∧
      (s.finishFlr f).num (E.fnEpoch + f) = (s.num (E.fnEpoch + f) + 1) % 2 ^ 32 ∧ bit (s.finishFlr f).hif.fnEvent f = true ∧
      (∀ q, fnOfQueue q = f → (s.finishFlr f).q q = Queue.initial) ∧ (∀ e ∈ (s.finishFlr f).hif.tcache, e.fn ≠ f) ∧ (∀ e ∈ (s.finishFlr f).hif.atsCache, e.fn ≠ f) := by
  obtain ⟨u, heq, hnum, hex, hq, ht, ha⟩ := s.finishFlr_emptied f
  have hkept {a : Nat} (h : fnVolatile f (a * 256) = false) : u.num a = s.num a := by
    rw [State.num, State.num, hnum]
    exact getD_keep_of (p := fun k => !fnVolatile f k) _ (by rw [Nat.add_zero, h]; rfl)
  rw [heq, hex, hkept (fnVolatile_fnEnable f)]
  generalize hv : u.modFn f _ = v
  have hfn : v.fn f = { FnSt.initial with gate := if s.fnExists f && decide (s.num (E.fnEnable + f) = 1) then .opened else .disabled, d3hot := (u.fn f).d3hot } := by
    rw [← hv]
    exact u.modFn_fn_self f _
  obtain ⟨hepoch, hbit⟩ := v.fnEvent_effect f
  have hfe : v.fe = u.fe := by rw [← hv]; rfl
  have hvnum : v.num (E.fnEpoch + f) = u.num (E.fnEpoch + f) := by rw [← hv]; rfl
  have htc : v.hif.tcache = u.hif.tcache := by rw [← hv]; rfl
  have hac : v.hif.atsCache = u.hif.atsCache := by rw [← hv]; rfl
  rw [State.fn_congr (State.fnEvent_hif_fns v f), hfn, hepoch, hvnum, hkept (fnVolatile_fnEpoch f), State.fnEvent_hif_tcache, htc, State.fnEvent_hif_atsCache, hac]
  refine ⟨?_, rfl, rfl, hbit, fun q h => ?_, ht, ha⟩
  · simp only [Bool.and_eq_true, decide_eq_true_eq]
  · rw [State.q_congr ((State.fnEvent_fe v f).trans hfe)]
    exact hq q h

theorem ends_flr {run : ResetRun} (hrun : (s.fn f).reset = some run) (hk : run.kind = 5)
    (hs : ∀ q ∈ queuesOfFn f, (s.q q).state = .resetting → (s.q q).settled = true) (hr : ∀ r ∈ s.fab.reqs.vals, fnOfQueue r.queue ≠ f)
    (h0 : f = 0 → ∀ e ∈ s.hif.fns, 0 < e.1 → e.2.reset = none) (hgo : s.unitGoes 12 f (flrComplete f)) :
    ∃ t, exec (.flrComplete f) s = .next t ∧
      (t.fn f).gate = (if s.fnExists f = true ∧ s.num (E.fnEnable + f) = 1 then .opened else .disabled) ∧ (t.fn f).reset = none ∧
      t.num (E.fnEpoch + f) = (s.num (E.fnEpoch + f) + 1) % 2 ^ 32 ∧ bit t.hif.fnEvent f = true ∧
      (∀ q, fnOfQueue q = f → t.q q = Queue.initial) ∧ (∀ e ∈ t.hif.tcache, e.fn ≠ f) ∧ (∀ e ∈ t.hif.atsCache, e.fn ≠ f) := by
  refine ⟨_, congrArg Host.Outcome.next (State.unit_of_goes hgo), ?_⟩
  rw [flrComplete_ends hrun hk hs hr h0]
  have heff := s.finishFlr_effect f
  generalize s.finishFlr f = t at heff ⊢
  exact heff

/-! Disable and enable. -/

theorem isSome_fnEnable (hf : f < 256) : (entryInfo (E.fnEnable + f)).isSome :=
  entryInfo_isSome_of_row (b := E.fnEnable) (n := 256) (by decide) (Nat.le_add_right _ _) (by omega)

theorem due_modify {m : SMap Vector} (k : Nat) {i : Nat} (h : (m.getD i Vector.initial).due = true) :
    ((m.modify k Vector.initial (fun x => { x with due := true })).getD i Vector.initial).due = true := by
  by_cases hk : i = k
  · rw [hk, SMap.getD_modify_self]
  · rw [SMap.getD_modify_ne _ _ _ hk]
    exact h

theorem State.signal_keeps_due {s : State} {g v : Nat} (f n : Nat) (h : (s.vec g v).due = true) : ((s.signal f n).vec g v).due = true := by
  rw [State.signal]
  split
  · exact due_modify (f * 64 + n) h
  · exact h

theorem State.qpsError_keeps_due {s : State} {g v : Nat} (f : Nat) (h : (s.vec g v).due = true) : ((s.qpsError f).vec g v).due = true := by
  rw [State.qpsError]
  dsimp only
  split
  · rw [State.raiseSvc]
    dsimp only
    split
    · exact State.signal_keeps_due 0 2 h
    · exact h
  · exact h

theorem State.signal_due_draining (s : State) {g v : Nat} (h : (s.fn g).gate = .draining) : ((s.signal g v).vec g v).due = true := by
  rw [State.signal, if_pos (.inr h), State.vec, State.modVec, SMap.getD_modify_self]

theorem disables_fn {who : Origin} (hf : f < 256) (hc : s.deviceCheck who (E.fnEnable + f) = 0) (hg : (s.fn f).gate = .opened) :
    ∃ t, exec (.fnDisable who f) s = .next t ∧ (t.fn f).gate = .draining ∧ (t.fn f).disableBegun = true ∧
      (t.fn f).disableAt = s.time.mono ∧ t.num (E.fnEnable + f) = 0 ∧ (t.vec f (if f = 0 then 5 else 0)).due = true ∧
      (∀ q, t.q q = s.q q) ∧ t.mem = s.mem ∧ t.cores = s.cores := by
  generalize hd : s.dictNum who (E.fnEnable + f) 0 0 = d
  have hfn : d.fn f = s.fn f := State.fn_congr (by simp [← hd]) f
  have hmono : d.time.mono = s.time.mono := by simp [← hd]
  have heq : fnDisable who f s =
      ((d.modFn f (fun x => { x with gate := .draining, disableBegun := true, disableAt := s.time.mono, pointReached := false })).signal f (fnEventVector f)).qpsError f := by
    rw [fnDisable, if_neg (by omega), State.deviceWrite_ok _ _ _ _ _ hc, hd, if_pos (by rw [hfn]; exact hg), hmono]
  have hself := d.modFn_fn_self f (fun x => { x with gate := .draining, disableBegun := true, disableAt := s.time.mono, pointReached := false })
  have hnum : d.num (E.fnEnable + f) = 0 := by
    rw [← hd]
    exact State.dictNum_num_self _ _ _ _ _ (isSome_fnEnable hf)
  have hfe : d.fe = s.fe := by simp [← hd]
  have hmem : d.mem = s.mem := by simp [← hd]
  have hcores : d.cores = s.cores := by simp [← hd]
  have hudue : ((d.modFn f (fun x => { x with gate := .draining, disableBegun := true, disableAt := s.time.mono, pointReached := false })).fn f).gate = .draining := by rw [hself]
  generalize hu : d.modFn f (fun x => { x with gate := .draining, disableBegun := true, disableAt := s.time.mono, pointReached := false }) = u at heq hself hudue
  have humgt : u.mgt = d.mgt := by rw [← hu]; rfl
  have hufe : u.fe = d.fe := by rw [← hu]; rfl
  have humem : u.mem = d.mem := by rw [← hu]; rfl
  have hucores : u.cores = d.cores := by rw [← hu]; rfl
  have hfin : ((u.signal f (fnEventVector f)).qpsError f).fn f = u.fn f := State.fn_congr (by simp) f
  refine ⟨_, congrArg Host.Outcome.next heq, ?_, ?_, ?_, ?_, State.qpsError_keeps_due f (State.signal_due_draining u hudue), fun q => State.q_congr ?_ q, ?_, ?_⟩
  · rw [hfin, hself]
  · rw [hfin, hself]
  · rw [hfin, hself]
  · rw [State.num_of_mgt_num (s := d) (by simp [humgt])]
    exact hnum
  · rw [State.qpsError_fe, State.signal_fe, hufe, hfe]
  · rw [State.qpsError_mem, State.signal_mem, humem, hmem]
  · rw [State.qpsError_cores, State.signal_cores, hucores, hcores]

theorem enables_fn {who : Origin} (hf : f < 256) (hc : s.deviceCheck who (E.fnEnable + f) = 0) (hg : (s.fn f).gate = .disabled) (he : s.fnExists f = true) :
    ∃ t, exec (.fnEnable who f) s = .next t ∧ (t.fn f).gate = .opened ∧ t.num (E.fnEnable + f) = 1 ∧ (∀ q, t.q q = s.q q) ∧ t.mem = s.mem ∧ t.cores = s.cores := by
  generalize hd : s.dictNum who (E.fnEnable + f) 0 1 = d
  have hex : d.fnExists f = s.fnExists f := State.fnExists_congr (by simp [← hd]) (by simp [← hd]) f
  have heq : Sys2Proof.Machine.fnEnable who f s = d.modFn f (fun x => { x with gate := .opened }) := by
    rw [Sys2Proof.Machine.fnEnable, if_neg (by omega), if_pos hg, State.deviceWrite_ok _ _ _ _ _ hc, hd, if_pos (by rw [hex]; exact he)]
  refine ⟨_, congrArg Host.Outcome.next heq, ?_, ?_, fun q => State.q_congr (t := d.modFn f _) (show d.fe = s.fe by simp [← hd]) q, (show d.mem = s.mem by simp [← hd]), (show d.cores = s.cores by simp [← hd])⟩
  · rw [d.modFn_fn_self f (fun x => { x with gate := .opened })]
  · refine Eq.trans (b := d.num (E.fnEnable + f)) rfl ?_
    rw [← hd]
    exact State.dictNum_num_self _ _ _ _ _ (isSome_fnEnable hf)

theorem refuses_enable {who : Origin} (hf : f < 256) (hc : s.deviceCheck who (E.fnEnable + f) = 0) (hg : (s.fn f).gate ≠ .disabled) :
    exec (.fnEnable who f) s = .next (s.answer 5) := by
  refine congrArg Host.Outcome.next ?_
  rw [Sys2Proof.Machine.fnEnable, if_neg (by omega), if_neg hg]
  exact State.deviceWrite_bad _ _ _ hc (by decide)

/-! The windows of a disable. -/

theorem State.kill_ends {q : Nat} (code : Nat) (site : Site) (b : Bool) (h : (s.q q).state.alive = true) :
    (s.kill q code site b).q q = { (s.q q).killedWith code site with killInFlight := b, killWrite := (s.q q).write } ∧ QueueOnly s (s.kill q code site b) q := by
  refine queue_changed (t := s.kill q code site b) (fun x => { x.killedWith code site with killInFlight := b, killWrite := (s.q q).write }) ?_ (by simp) (by simp) (by simp)
  rw [State.kill]
  dsimp only
  rw [if_pos h, State.traceFe_fe, State.stopShares_fe, State.countKill_fe]
  rfl

theorem window_expires {q : Nat} (hg : (s.fn (fnOfQueue q)).gate = .draining) (hi : s.inFlight q = true) (ha : (s.q q).state.alive = true) :
    (s.time.mono < (s.fn (fnOfQueue q)).disableAt + min (s.num (E.queueTimeout + q % 16) (fnOfQueue q)) 1000000 * 1000 →
      exec (.drainWindowExpire q) s = .next s) ∧
    ((s.fn (fnOfQueue q)).disableAt + min (s.num (E.queueTimeout + q % 16) (fnOfQueue q)) 1000000 * 1000 ≤ s.time.mono →
      ∃ t, exec (.drainWindowExpire q) s = .next t ∧ Killed t q 0x0E ∧ (t.q q).killInFlight = true ∧ QueueOnly s t q) := by
  have hw : s.drainWindow q = min (s.num (E.queueTimeout + q % 16) (fnOfQueue q)) 1000000 * 1000 := rfl
  rw [← hw]
  refine ⟨fun h => congrArg Host.Outcome.next (if_pos (.inr (.inr (.inr h)))), fun h => ?_⟩
  have heq : drainWindowExpire q s = s.kill q 0x0E (s.oldestSite q) true := by
    refine if_neg fun hx => ?_
    rw [hi, ha] at hx
    rcases hx with hx | hx | hx | hx
    · exact hx hg
    · exact Bool.false_ne_true hx
    · exact Bool.false_ne_true hx
    · omega
  obtain ⟨hq, honly⟩ := State.kill_ends 0x0E (s.oldestSite q) true ha
  refine ⟨_, congrArg Host.Outcome.next heq, ⟨?_, ?_⟩, ?_, honly⟩
  · rw [hq]
    rfl
  · rw [hq]
    rfl
  · rw [hq]

/-! The point of a disable. -/

/-- A trace buffer that its owner's point empties. -/
def State.trcEnded (s : State) (b : Nat) : State := s.modTrc b (fun t => { t with state := .disabled, staged := [], dropped := [] })

theorem trcEnded_all (l : List Nat) (s : State) {b : Nat} (h : b ∈ l) :
    ((l.foldl State.trcEnded s).trc b).state = .disabled ∧ ((l.foldl State.trcEnded s).trc b).staged = [] := by
  have hself (u : State) : ((u.trcEnded b).trc b).state = .disabled ∧ ((u.trcEnded b).trc b).staged = [] := by
    rw [State.trcEnded, u.modTrc_trc_self b (fun t => { t with state := .disabled, staged := [], dropped := [] })]
    exact ⟨rfl, rfl⟩
  refine foldl_establishes (P := fun u => (u.trc b).state = .disabled ∧ (u.trc b).staged = []) (Q := fun _ => True) (a := b) (fun _ _ _ => trivial) (fun u _ => hself u)
    (fun u c _ hu => ?_) l s trivial (.inl h)
  by_cases hb : b = c
  · exact hb ▸ hself u
  · rw [State.trcEnded, u.modTrc_trc_ne c _ hb]
    exact hu

theorem State.trcsEnded_fns (l : List Nat) (s : State) : (l.foldl State.trcEnded s).obs.fns = s.obs.fns :=
  foldl_keeps (g := State.trcEnded) (fun u => u.obs.fns) (fun _ _ => rfl) l s

theorem State.fnPoint_trc {b : Nat} (hb : b < 16) (ho : s.num (E.trcOwner + b) = f) : ((s.fnPoint f).trc b).state = .disabled ∧ ((s.fnPoint f).trc b).staged = [] := by
  have hm : b ∈ (List.range 16).filter (fun b => decide (s.num (E.trcOwner + b) = f)) := List.mem_filter.mpr ⟨List.mem_range.mpr hb, decide_eq_true ho⟩
  have hall := trcEnded_all _ s hm
  rw [State.fnPoint]
  split
  · exact hall
  · exact hall

theorem State.fnPoint_accums : ((s.fnPoint f).cntFn f).accums = if s.obs.fns.has f then [] else (s.cntFn f).accums := by
  have hfns := State.trcsEnded_fns ((List.range 16).filter (fun b => decide (s.num (E.trcOwner + b) = f))) s
  generalize hu : ((List.range 16).filter (fun b => decide (s.num (E.trcOwner + b) = f))).foldl State.trcEnded s = u at hfns
  have heq : s.fnPoint f = if u.obs.fns.has f then u.modCntFn f (fun c => { c with accums := [], inFlush := [], flushing := false, baseAfter := none, baseReply := none }) else u := by
    rw [← hu]
    rfl
  rw [heq, hfns]
  split
  · rw [u.modCntFn_cntFn_self f (fun c => { c with accums := [], inFlush := [], flushing := false, baseAfter := none, baseReply := none })]
  · rw [State.cntFn, State.cntFn, hfns]

theorem reaches_point (hg : (s.fn f).gate = .draining) (hp : (s.fn f).pointReached = false) (hi : (queuesOfFn f).any s.inFlight = false) :
    ∃ t, exec (.disablePoint f) s = .next t ∧ (t.fn f).pointReached = true ∧ (t.fn f).gate = .draining ∧
      (t.cntFn f).accums = (if s.obs.fns.has f then [] else (s.cntFn f).accums) ∧
      (∀ b, b < 16 → s.num (E.trcOwner + b) = f → (t.trc b).state = .disabled ∧ (t.trc b).staged = []) ∧ t.mem = s.mem ∧ t.fe = s.fe := by
  have heq : disablePoint f s = (s.modFn f (fun x => { x with pointReached := true })).fnPoint f := by
    refine if_neg fun h => ?_
    rw [hp, hi] at h
    rcases h with h | h | h
    · exact h hg
    · exact Bool.false_ne_true h
    · exact Bool.false_ne_true h
  have hfn := State.fn_congr (congrArg Hif.fns (State.fnPoint_hif (s.modFn f (fun x => { x with pointReached := true })) f)) f
  have hself := s.modFn_fn_self f (fun x => { x with pointReached := true })
  refine ⟨_, congrArg Host.Outcome.next heq, ?_, ?_, State.fnPoint_accums, fun b hb ho => State.fnPoint_trc hb ho, State.fnPoint_mem _ _, State.fnPoint_fe _ _⟩
  · rw [hfn, hself]
  · rw [hfn, hself]
    exact hg

/-! The end of a disable. -/

theorem State.errorOwned_none (h : ∀ o ∈ s.syn.objs, o.2.owner ≠ f) : s.errorOwned f = s := by
  rw [State.errorOwned]
  refine List.foldlRecOn (motive := fun u : State => u = s) _ _ rfl (fun u hu o ho => ?_)
  exact (if_neg (h o ho)).trans hu

/-- A queue of a function at the end of its disable. -/
def Queue.disabledAs (x : Queue) : Queue :=
  { Queue.initial with killCode := x.killCode, faultValid := x.faultValid, faultNode := x.faultNode, faultDepth := x.faultDepth, faultRing := x.faultRing
                       tagOperator := x.tagOperator, tagLayer := x.tagLayer, write := x.write, read := x.read, fetch := x.fetch }

/-- The numeric entries that the end of a disable puts at their defaults. -/
def disableClears (f k : Nat) : Bool :=
  decide (k % 256 = f) && decide ((E.queueEnergy ≤ k / 256 ∧ k / 256 < E.queueEnergy + 16) ∨ k / 256 = E.fnEnergy ∨
    (E.pwrJobId ≤ k / 256 ∧ k / 256 < E.pwrJobId + 16) ∨ (E.queueEnable ≤ k / 256 ∧ k / 256 < E.queueEnable + 16))

theorem disableClears_fnEpoch (hf : f < 256) : disableClears f ((E.fnEpoch + f) * 256) = false := by
  have hdiv : (E.fnEpoch + f) * 256 / 256 = E.fnEpoch + f := Nat.mul_div_cancel _ (by decide)
  rw [disableClears, hdiv, decide_eq_false (p := _ ∨ _) ?_, Bool.and_false]
  simp only [E.fnEpoch, E.queueEnergy, E.fnEnergy, E.pwrJobId, E.queueEnable]
  omega

/-- The end of a disable through the state that its function's emptying leaves. -/
theorem disableComplete_emptied (hg : (s.fn f).gate = .draining) (hp : (s.fn f).pointReached = true) (hr : ∀ r ∈ s.fab.reqs.vals, fnOfQueue r.queue ≠ f)
    (hsb : ∀ k ∈ s.cores.vals, ∀ e ∈ k.sb, fnOfQueue e.queue ≠ f) (ho : ∀ o ∈ s.syn.objs, o.2.owner ≠ f) :
    ∃ u : State, disableComplete f s = (u.modFn f (fun x => { x with gate := .disabled, pointReached := false })).fnEvent f ∧
      u.mgt.num = s.mgt.num.keep (fun k _ => !disableClears f k) ∧ u.mem = s.mem ∧ u.cores = s.cores ∧
      ∀ q, u.q q = if q / 16 = f then (s.q q).disabledAs else s.q q := by
  obtain ⟨hmgt, hhif, hq, hmem, hcores⟩ := s.workDropped_keeps f
  have hgo : ¬ ((s.fn f).gate ≠ .draining ∨ (!(s.fn f).pointReached) = true ∨ (s.fab.reqs.vals.any (fun r => decide (fnOfQueue r.queue = f))) = true ∨
      (s.cores.vals.any (fun k => k.sb.any (fun e => decide (fnOfQueue e.queue = f)))) = true) := fun h => by
    rw [List.any_eq_false.mpr (fun r hm => by rw [decide_eq_false (hr r hm)]; decide), hp,
      List.any_eq_false.mpr (fun k hm => by rw [List.any_eq_false.mpr (fun e he => by rw [decide_eq_false (hsb k hm e he)]; decide)]; decide)] at h
    rcases h with h | h | h | h
    · exact h hg
    · exact Bool.false_ne_true h
    · exact Bool.false_ne_true h
    · exact Bool.false_ne_true h
  rw [disableComplete, if_neg hgo, State.errorOwned_none ho]
  refine ⟨_, rfl, ?_, hmem, hcores, fun q => ?_⟩
  · exact congrArg (fun m : Mgt => m.num.keep (fun k _ => !disableClears f k)) hmgt
  · refine (SMap.getD_mapVals (s.workDropped f).fe.queues (fun k x => if k / 16 = f then x.disabledAs else x) q Queue.initial (by split <;> rfl)).trans ?_
    rw [hq]
    rfl

theorem ends_disable (hg : (s.fn f).gate = .draining) (hp : (s.fn f).pointReached = true) (hf : f < 256) (hr : ∀ r ∈ s.fab.reqs.vals, fnOfQueue r.queue ≠ f)
    (hsb : ∀ k ∈ s.cores.vals, ∀ e ∈ k.sb, fnOfQueue e.queue ≠ f) (ho : ∀ o ∈ s.syn.objs, o.2.owner ≠ f) (hgo : s.unitGoes 12 f (disableComplete f)) :
    ∃ t, exec (.disableComplete f) s = .next t ∧ (t.fn f).gate = .disabled ∧ t.num (E.fnEpoch + f) = (s.num (E.fnEpoch + f) + 1) % 2 ^ 32 ∧
      bit t.hif.fnEvent f = true ∧ t.mem = s.mem ∧ t.cores = s.cores ∧
      (∀ q, fnOfQueue q = f → (t.q q).state = .disabled ∧ (t.q q).killCode = (s.q q).killCode ∧ (t.q q).faultValid = (s.q q).faultValid ∧
        (t.q q).read = (s.q q).read) ∧
      (∀ q, fnOfQueue q ≠ f → t.q q = s.q q) := by
  obtain ⟨u, heq, hnum, hmem, hcores, hq⟩ := disableComplete_emptied hg hp hr hsb ho
  refine ⟨_, congrArg Host.Outcome.next (State.unit_of_goes hgo), ?_⟩
  rw [heq]
  generalize hv : u.modFn f (fun x => { x with gate := .disabled, pointReached := false }) = v
  have hfn : (v.fn f).gate = .disabled := by rw [← hv, u.modFn_fn_self f (fun x => { x with gate := .disabled, pointReached := false })]
  have hvnum : v.num (E.fnEpoch + f) = u.num (E.fnEpoch + f) := by rw [← hv]; rfl
  have hunum : u.num (E.fnEpoch + f) = s.num (E.fnEpoch + f) := by
    rw [State.num, State.num, hnum]
    exact getD_keep_of (p := fun k => !disableClears f k) _ (by rw [Nat.add_zero, disableClears_fnEpoch hf]; rfl)
  have hvq (q : Nat) : (v.fnEvent f).q q = u.q q := State.q_congr ((State.fnEvent_fe v f).trans (by rw [← hv]; rfl)) q
  obtain ⟨hepoch, hbit⟩ := v.fnEvent_effect f
  have hwfn : ((v.fnEvent f).fn f).gate = .disabled := by rw [State.fn_congr (State.fnEvent_hif_fns v f), hfn]
  have hwmem : (v.fnEvent f).mem = s.mem := ((State.fnEvent_mem v f).trans (by rw [← hv]; rfl)).trans hmem
  have hwcores : (v.fnEvent f).cores = s.cores := ((State.fnEvent_cores v f).trans (by rw [← hv]; rfl)).trans hcores
  generalize v.fnEvent f = w at hepoch hbit hvq hwfn hwmem hwcores ⊢
  refine ⟨hwfn, hepoch.trans (by rw [hvnum, hunum]), hbit, hwmem, hwcores, fun q h => ?_, fun q h => ?_⟩
  · have hself : (w.unitDone 12 f).q q = (s.q q).disabledAs := (hvq q).trans ((hq q).trans (if_pos h))
    rw [hself]
    exact ⟨rfl, rfl, rfl, rfl⟩
  · exact (hvq q).trans ((hq q).trans (if_neg h))

end

/-- Settles O41: a function reached by a reset is closed with its queues and messages, and its end and a disable's are followed through the state that the emptying leaves. -/
theorem functionGates : Obligations.FunctionGates :=
  ⟨fun _ _ _ hf he hcfg hck => begins_flr hf he hcfg hck,
   fun _ _ _ hrun hk _ hs hr h0 hgo => ends_flr hrun hk hs hr h0 hgo,
   fun _ _ _ hf hc => ⟨fun hg => disables_fn hf hc hg, fun hg he => enables_fn hf hc hg he, fun hg => refuses_enable hf hc hg⟩,
   fun _ _ hg hi ha => window_expires hg hi ha,
   fun _ _ hg hp hi => reaches_point hg hp hi,
   fun _ _ hg hp hf hr hsb ho hgo => ends_disable hg hp hf hr hsb ho hgo⟩

end Sys2Proof.Machine
end

section
/-! The flush read of a copy whose signal goes to another chip, with every accumulator of the layer table in use (R260, R440, R441). -/

namespace Sys2Proof.Machine

/-- A COPY node that signals an object of chip 1. -/
def farSignalNode : Node :=
  { queue := 0, ring := 0, graph := none, index := 0, depth := 0, raw := zeroBytes 50 ++ [1#8, 16#8, 1#8] ++ zeroBytes 11, status := .running, check := 0, extPreds := [], done := false
    stalled := false, pins := [] }

/-- Its copy, of which the flush read is left. -/
def unflushedCopy : Copy := { queue := 0, pieces := [2], flushed := false, sent := false, signalled := false }

/-- Queue 0 runs the copy, function 0 masters the bus and has a key, a table of 64 entries at 4,096 and every accumulator of the chip. -/
def farSignal : State :=
  { State.reset with
    mgt.num := [(E.fnFabKey * 256, 7), (E.cntLayerBase * 256, 4096), (E.cntLayerEntries * 256, 64)]
    hif.tcache := [{ fn := 0, page := 0, target := 0, frame := 0, r := true, w := true, x := false }]
    hif.fns := [(0, { FnSt.initial with gate := .opened, busMaster := true })]
    fe.queues := [(0, { Queue.initial with state := .running })]
    fe.nodes := [(0, farSignalNode)]
    fe.copies := [(0, unflushedCopy)]
    fab.reachable := [1]
    obs.fns := [(0, fullCounts)] }

/-- The state with the flush read done. -/
def farSignalFlushed : State := { farSignal with fe.copies := farSignal.fe.copies.put 0 { unflushedCopy with flushed := true } }

set_option maxRecDepth 20000 in
theorem farSignalFlushed_issues : farSignalFlushed.issueSync 0 (farSignalNode.get 0x30 4) 0 (farSignalNode.get 0x38 8) (.node 0) =
    (0, farSignalFlushed.sendNow 7 0 0 0x04 1 0 0 (leBytes 8 0 ++ zeroBytes 8) 0 (.sync (.node 0) false 4)) := by
  have hkey : farSignalFlushed.num E.fnFabKey (fnOfQueue 0) = 7 := by decide
  have hhandle : farSignalNode.get 0x30 4 = 2 ^ 28 + 2 ^ 16 := by decide
  have hvalue : farSignalNode.get 0x38 8 = 0 := by decide
  rw [hhandle, hvalue, State.issueSync, if_neg (by decide), show handleChip (2 ^ 28 + 2 ^ 16) farSignalFlushed.fab.chipId = some 1 by decide]
  refine Eq.trans (b := farSignalFlushed.sendSync (fnOfQueue 0) 0 1 0 0 0 4 (.node 0) false) rfl ?_
  rw [State.sendSync, State.sendReq, hkey, if_neg (by decide), State.sendKeyed, if_neg (by decide), if_neg (by decide)]
  rfl

set_option maxRecDepth 20000 in
theorem farSignal_flushes : (dmaFlushReadComplete 0 farSignal).mem = (farSignalFlushed.sendNow 7 0 0 0x04 1 0 0 (leBytes 8 0 ++ zeroBytes 8) 0 (.sync (.node 0) false 4)).mem := by
  have heq : dmaFlushReadComplete 0 farSignal = farSignalFlushed.copySignal 0 farSignalNode := rfl
  have hcopy : farSignalFlushed.fe.copies.get? 0 = some { unflushedCopy with flushed := true } := rfl
  rw [heq, State.copySignal, hcopy]
  dsimp only
  rw [if_pos (by decide), show farSignalNode.queue = 0 from rfl, farSignalFlushed_issues]
  rfl

set_option maxRecDepth 20000 in
/-- The byte at 8,064 after the flush read: the oldest accumulator's entry in its table. -/
theorem farSignal_written : cellGet (dmaFlushReadComplete 0 farSignal).mem 8064 = 1#8 := by
  rw [farSignal_flushes, State.sendNow_mem, State.addQty_full (c := fullCounts) (a := layerOne) (m := 4095) rfl rfl (by decide) (by decide) (by decide) (by decide) (by decide)]
  decide

/-- Refutes O36: the signal that a flush read lets go to another chip counts a packet, which takes an accumulator of a full table and adds the oldest one to its table in memory. -/
theorem not_copiesOnEngines : ¬ Obligations.CopiesOnEngines := by
  unfold Obligations.CopiesOnEngines
  rintro ⟨-, -, -, -, -, hflush⟩
  obtain ⟨t, x, ht, -, -, -, -, hmem⟩ := hflush farSignal 0 farSignalNode unflushedCopy rfl rfl rfl (by decide) rfl
  have htl : t = dmaFlushReadComplete 0 farSignal := (Host.Outcome.next.inj ht).symm
  have hbyte : cellGet (dmaFlushReadComplete 0 farSignal).mem 8064 = 0#8 := by rw [← htl, hmem]; rfl
  exact absurd (farSignal_written.symm.trans hbyte) (by decide)

end Sys2Proof.Machine
end

section
/-! What the steps of a plan program leave unchanged (R281 to R283). -/

namespace Sys2Proof.Machine

@[simp] theorem State.useLine_mem (s : State) : s.useLine.2.mem = s.mem := rfl
@[simp] theorem State.lookLine_mem (s : State) (line : Nat) : (s.lookLine line).mem = s.mem := by
  unfold State.lookLine
  (repeat' split) <;> simp
@[simp] theorem State.lookAt_mem (s : State) (a n : Nat) : (s.lookAt a n).mem = s.mem := by simp [State.lookAt]
@[simp] theorem State.useLine_fe (s : State) : s.useLine.2.fe = s.fe := rfl
@[simp] theorem State.lookLine_fe (s : State) (line : Nat) : (s.lookLine line).fe = s.fe := by
  unfold State.lookLine
  (repeat' split) <;> simp
@[simp] theorem State.lookAt_fe (s : State) (a n : Nat) : (s.lookAt a n).fe = s.fe := by simp [State.lookAt]
@[simp] theorem State.useLine_cores (s : State) : s.useLine.2.cores = s.cores := rfl
@[simp] theorem State.lookLine_cores (s : State) (line : Nat) : (s.lookLine line).cores = s.cores := by
  unfold State.lookLine
  (repeat' split) <;> simp
@[simp] theorem State.lookAt_cores (s : State) (a n : Nat) : (s.lookAt a n).cores = s.cores := by simp [State.lookAt]
@[simp] theorem State.dropReplicas_mem (s : State) (line : Nat) : (s.dropReplicas line).mem = s.mem := rfl
@[simp] theorem State.dropReplicas_l2_dir (s : State) (line : Nat) : (s.dropReplicas line).l2.dir = s.l2.dir := rfl
@[simp] theorem State.nodeDone_l2 (s : State) (id : Nat) : (s.nodeDone id).l2 = s.l2 := rfl
@[simp] theorem State.nodeDone_obs (s : State) (id : Nat) : (s.nodeDone id).obs = s.obs := rfl
@[simp] theorem State.nodeDone_fe_plans (s : State) (id : Nat) : (s.nodeDone id).fe.plans = s.fe.plans := rfl
@[simp] theorem State.putPlan_mem (s : State) (ctx : Nat) (p : PlanCtx) : (s.putPlan ctx p).mem = s.mem := rfl
@[simp] theorem State.putPlan_cores (s : State) (ctx : Nat) (p : PlanCtx) : (s.putPlan ctx p).cores = s.cores := rfl
@[simp] theorem State.putPlan_l2 (s : State) (ctx : Nat) (p : PlanCtx) : (s.putPlan ctx p).l2 = s.l2 := rfl
@[simp] theorem State.putPlan_syn (s : State) (ctx : Nat) (p : PlanCtx) : (s.putPlan ctx p).syn = s.syn := rfl

end Sys2Proof.Machine
end

section
/-! Settling O37: plan programs on a control core (R281 to R283). -/

namespace Sys2Proof.Machine

/-! What the fetch of an instruction leaves. -/

/-- A state that reads of the chip alone separate from another: memory, cores and front end are the same. -/
def State.ReadFrom (s t : State) : Prop := t.mem = s.mem ∧ t.cores = s.cores ∧ t.fe = s.fe

theorem State.readFrom_refl (s : State) : s.ReadFrom s := ⟨rfl, rfl, rfl⟩

theorem State.ReadFrom.trans {s t u : State} (h : s.ReadFrom t) (h' : t.ReadFrom u) : s.ReadFrom u :=
  ⟨h'.1.trans h.1, h'.2.1.trans h.2.1, h'.2.2.trans h.2.2⟩

theorem State.lookAt_readFrom (s : State) (a n : Nat) : s.ReadFrom (s.lookAt a n) := ⟨by simp, by simp, by simp⟩

section
variable {s s0 : State} {ctx w len : Nat} {p : PlanCtx}

theorem State.planParcel_reads {pc h : Nat} {t : State} (hp : s.planParcel ctx p pc = .inr (h, t)) : s.ReadFrom t := by
  rw [State.planParcel] at hp
  split at hp
  · cases hp
  · split at hp
    · split at hp
      · cases hp
      · cases hp
        exact s.lookAt_readFrom _ _
    · split at hp
      · split at hp
        · cases hp
          exact ⟨rfl, rfl, rfl⟩
        · cases hp
      · split at hp
        · cases hp
          exact s.readFrom_refl
        · dsimp only at hp
          split at hp
          · cases hp
          · split at hp <;> cases hp

theorem State.planFetch_reads {t : State} (hf : s.planFetch ctx p = .inr (w, len, t)) : s.ReadFrom t := by
  rw [State.planFetch] at hf
  split at hf
  · cases hf
  · next h u hu =>
    have hread := State.planParcel_reads hu
    split at hf
    · split at hf
      · cases hf
      · cases hf
        exact hread
    · split at hf
      · cases hf
      · split at hf
        · cases hf
        · next g v hv =>
          cases hf
          exact hread.trans (State.planParcel_reads hv)

/-! An instruction. -/

/-- A context at an instruction that its fetch has delivered. -/
structure PlanAt (s s0 : State) (ctx w len : Nat) (p : PlanCtx) : Prop where
  plan : s.fe.plans.get? ctx = some p
  stopped : p.stopped = false
  wait : p.wait = .none
  running : (s.q p.queue).state = .running
  turn : s.mayRun (fnOfQueue p.queue) = true
  goes : s.unitGoes 2 ctx (controlCoreInstruction ctx)
  fetch : s.planFetch ctx p = .inr (w, len, s0)
  regs : p.x.length = 32

theorem State.planRuns_running (hs : p.stopped = false) (hr : (s.q p.queue).state = .running) (ht : s.mayRun (fnOfQueue p.queue) = true) : s.planRuns p = true := by
  rw [State.planRuns, hs, hr, ht]
  rfl

theorem PlanAt.step (h : PlanAt s s0 ctx w len p) : s.planStep ctx p = s0.planExec ctx p w len := by
  rw [State.planStep, if_neg (fun hx => hx.elim (fun hw => hw h.wait) (fun hr => by rw [State.planRuns_running h.stopped h.running h.turn] at hr; exact Bool.false_ne_true hr)),
    h.fetch]

theorem PlanAt.executes (h : PlanAt s s0 ctx w len p) {t : State} (hx : s0.planExec ctx p w len = .next t) :
    exec (.controlCoreInstruction ctx) s = .next (t.unitDone 2 ctx) := by
  have heq : controlCoreInstruction ctx s = t := by 
    rw [controlCoreInstruction, h.plan]
    dsimp only
    rw [h.step.trans hx]
  exact congrArg Host.Outcome.next ((State.unit_of_goes h.goes).trans (by rw [heq]))

/-- A context after an instruction: a result in its register, and the next program counter. -/
def PlanCtx.after (p : PlanCtx) (rd : Nat) (v : DWord) (pc : Nat) : PlanCtx := { p.setX rd v with pc := pc % 2 ^ 64, rdata := none, code := [] }

theorem PlanCtx.setX_r (hl : p.x.length = 32) {rd : Nat} (hrd : rd < 32) (v : DWord) (i : Nat) : (p.setX rd v).r i = if i = rd ∧ rd ≠ 0 then v else p.r i := by
  rw [PlanCtx.setX]
  by_cases h0 : rd = 0
  · rw [if_pos h0, if_neg (fun h => h.2 h0)]
  · rw [if_neg h0, PlanCtx.r, PlanCtx.r, List.getD_eq_getElem?_getD, List.getD_eq_getElem?_getD, List.getElem?_set]
    by_cases hi : i = rd
    · subst hi
      simp [hl, hrd, h0]
    · simp [hi, Ne.symm hi]

theorem PlanCtx.setX_wait (p : PlanCtx) (rd : Nat) (v : DWord) : (p.setX rd v).wait = p.wait := by
  rw [PlanCtx.setX]
  split <;> rfl

theorem bits_rd (w : Nat) : bits w 11 7 < 32 := Nat.mod_lt _ (by decide)

/-- What an instruction with a result does. -/
def PlanDone (s : State) (ctx : Nat) (p : PlanCtx) (rd : Nat) (v : DWord) (pc : Nat) : Prop :=
  ∃ t x, exec (.controlCoreInstruction ctx) s = .next t ∧ t.fe.plans.get? ctx = some x ∧ x.pc = pc % 2 ^ 64 ∧
    (∀ i, x.r i = if i = rd ∧ rd ≠ 0 then v else p.r i) ∧ x.wait = .none ∧ t.mem = s.mem ∧ t.cores = s.cores ∧ (∀ k, k ≠ ctx → t.fe.plans.get? k = s.fe.plans.get? k)

theorem PlanAt.done (h : PlanAt s s0 ctx w len p) {u : State} {v : DWord} {pc : Nat} (hu : s0.ReadFrom u)
    (hx : s0.planExec ctx p w len = u.planNext ctx p (bits w 11 7) v pc) : PlanDone s ctx p (bits w 11 7) v pc := by
  obtain ⟨hmem, hcores, hfe⟩ := (State.planFetch_reads h.fetch).trans hu
  refine ⟨_, p.after (bits w 11 7) v pc, h.executes hx, SMap.get?_put_self _ _ _, rfl, PlanCtx.setX_r h.regs (bits_rd w) v, (PlanCtx.setX_wait _ _ _).trans h.wait, hmem, hcores, fun k hk => ?_⟩
  refine (SMap.get?_put_ne _ _ hk).trans ?_
  rw [hfe]

/-- What an instruction without a result does. -/
theorem PlanAt.jumps (h : PlanAt s s0 ctx w len p) {u : State} {pc : Nat} (hx : s0.planExec ctx p w len = u.planNext ctx p 0 0#64 pc) :
    ∃ t x, exec (.controlCoreInstruction ctx) s = .next t ∧ t.fe.plans.get? ctx = some x ∧ x.x = p.x ∧ x.pc = pc % 2 ^ 64 ∧ t.mem = u.mem ∧ t.l2.dir = u.l2.dir :=
  ⟨_, p.after 0 0#64 pc, h.executes hx, SMap.get?_put_self _ _ _, rfl, rfl, rfl, rfl⟩

/-! The instructions by their opcodes. -/

section
variable (s0)

theorem State.planExec_lui (hw : w % 128 = 0x37) : s0.planExec ctx p w len = s0.planNext ctx p (bits w 11 7) (Rv.immU w) (p.pc + len) := by
  simp only [State.planExec, hw]

theorem State.planExec_auipc (hw : w % 128 = 0x17) : s0.planExec ctx p w len = s0.planNext ctx p (bits w 11 7) (BitVec.ofNat 64 p.pc + Rv.immU w) (p.pc + len) := by
  simp only [State.planExec, hw]

theorem State.planExec_jal (hw : w % 128 = 0x6F) :
    s0.planExec ctx p w len = s0.planNext ctx p (bits w 11 7) (BitVec.ofNat 64 (p.pc + len)) (BitVec.ofNat 64 p.pc + Rv.immJ w).toNat := by
  simp only [State.planExec, hw]

theorem State.planExec_jalr (hw : w % 128 = 0x67) (hf : bits w 14 12 = 0) :
    s0.planExec ctx p w len = s0.planNext ctx p (bits w 11 7) (BitVec.ofNat 64 (p.pc + len)) ((p.r (bits w 19 15) + Rv.immI w).toNat / 2 * 2) := by
  simp only [State.planExec, hw]
  exact if_neg (fun h => h hf)

theorem State.planExec_branch {taken : Bool} (hw : w % 128 = 0x63) (hb : Rv.branch (bits w 14 12) (p.r (bits w 19 15)) (p.r (bits w 24 20)) = some taken) :
    s0.planExec ctx p w len = s0.planNext ctx p 0 0#64 (if taken then (BitVec.ofNat 64 p.pc + Rv.immB w).toNat else p.pc + len) := by
  simp only [State.planExec, hw, hb]

theorem State.planExec_arith {v : DWord} (hw : w % 128 ∈ [0x13, 0x1B, 0x33, 0x3B]) (ha : Rv.arith w (p.r (bits w 19 15)) (p.r (bits w 24 20)) = some v) :
    s0.planExec ctx p w len = s0.planNext ctx p (bits w 11 7) v (p.pc + len) := by
  simp only [List.mem_cons, List.not_mem_nil, or_false] at hw
  rcases hw with hw | hw | hw | hw <;> simp only [State.planExec, hw, ha]

theorem State.planExec_load (hw : w % 128 = 0x03) : s0.planExec ctx p w len = s0.planLoad ctx p w (p.r (bits w 19 15) + Rv.immI w).toNat len := by
  simp only [State.planExec, hw]

theorem State.planExec_store (hw : w % 128 = 0x23) : s0.planExec ctx p w len = s0.planStore ctx p w (p.r (bits w 19 15) + Rv.immS w).toNat len := by
  simp only [State.planExec, hw]

end

theorem length_rangeFrom (a n : Nat) : (rangeFrom a n).length = n := by
  induction n generalizing a with
  | zero => rfl
  | succ n ih => exact congrArg (· + 1) (ih (a + 1))

theorem length_pocRead (s : State) (a n : Nat) : (s.pocRead a n).length = n := by
  rw [State.pocRead, List.length_map, length_rangeFrom]

theorem State.planLoad_here {n va pa : Nat} (hn : Rv.accessBytes false (bits w 14 12) = some n) (hva : va % n = 0)
    (ht : s0.translate (fnOfQueue p.queue) va .read = .ok 0 pa) (hp : s0.pocPoison pa n = false) :
    s0.planLoad ctx p w va len = (s0.lookAt pa n).planNext ctx p (bits w 11 7) (Rv.loadValue (bits w 14 12) n (ofLe (s0.pocRead pa n))) (p.pc + len) := by
  rw [State.planLoad, hn]
  dsimp only
  rw [if_neg (fun h => h hva), ht]
  dsimp only
  rw [if_pos rfl, if_neg (by rw [hp]; decide), List.take_of_length_le (by rw [length_pocRead])]

/-! A store at the home of its line. -/

theorem getD_mergeLine (old new : List Byte) (mask : Nat) {i : Nat} (h : i < 128) : (mergeLine old new mask).getD i 0#8 = if bit mask i then new.getD i 0#8 else old.getD i 0#8 := by
  rw [mergeLine, List.getD_eq_getElem?_getD, List.getElem?_map, List.getElem?_range h]
  rfl

theorem bit_lineMask {n o i : Nat} : bit ((2 ^ n - 1) * 2 ^ o) i = (decide (o ≤ i) && decide (i < o + n)) := by
  have hb : bit ((2 ^ n - 1) * 2 ^ o) i = ((2 ^ n - 1) * 2 ^ o).testBit i := by
    rw [bit, Nat.testBit_eq_decide_div_mod_eq]
  rw [hb, Nat.mul_comm, Nat.testBit_two_pow_mul, Nat.testBit_two_pow_sub_one]
  by_cases ho : o ≤ i
  · rw [decide_eq_true ho, Bool.true_and, Bool.true_and]
    exact decide_eq_decide.mpr (by omega)
  · rw [decide_eq_false ho, Bool.false_and, Bool.false_and]

/-- The line of a home after a store: the bytes of the store in their place, every other as it was. -/
theorem mergeLine_lineBytes {old data : List Byte} {a : Nat} (hd : a % 128 + data.length ≤ 128) :
    ((mergeLine old (lineBytes a data).1 (lineBytes a data).2).drop (a % 128)).take data.length = data ∧
      ∀ i, i < a % 128 ∨ a % 128 + data.length ≤ i → i < 128 → (mergeLine old (lineBytes a data).1 (lineBytes a data).2).getD i 0#8 = old.getD i 0#8 := by
  have hlen : (mergeLine old (lineBytes a data).1 (lineBytes a data).2).length = 128 := by rw [mergeLine, List.length_map, List.length_range]
  have hz : (zeroBytes (a % 128)).length = a % 128 := List.length_replicate
  refine ⟨List.ext_getElem (by rw [List.length_take, List.length_drop, hlen]; omega) fun i h1 h2 => ?_, fun i hi hlt => ?_⟩
  · have hi : a % 128 + i < 128 := by omega
    have hget : (mergeLine old (lineBytes a data).1 (lineBytes a data).2).getD (a % 128 + i) 0#8 = data[i] := by
      rw [getD_mergeLine _ _ _ hi, lineBytes]
      dsimp only
      rw [bit_lineMask, decide_eq_true (by omega), decide_eq_true (by omega)]
      refine (if_pos rfl).trans ?_
      rw [List.getD_eq_getElem?_getD, List.getElem?_append_right (by omega), hz, Nat.add_sub_cancel_left, List.getElem?_eq_getElem h2]
      rfl
    rw [List.getElem_take, List.getElem_drop, ← hget, List.getD_eq_getElem?_getD, List.getElem?_eq_getElem (by omega)]
    rfl
  · rw [getD_mergeLine _ _ _ hlt, lineBytes]
    dsimp only
    rw [bit_lineMask]
    refine if_neg fun h => ?_
    rw [Bool.and_eq_true, decide_eq_true_eq, decide_eq_true_eq] at h
    omega

theorem State.fillLine_held {l : Nat} {d : Dir} (hd : s0.l2.dir.get? l = some d) (hs : d.state.hasData = true) (hb : d.busy = none) :
    s0.fillLine l = some { s0.useLine.2 with l2.dir := s0.useLine.2.l2.dir.put l { d with used := s0.useLine.1 } } := by
  rw [State.fillLine, hd]
  refine (if_neg (by rw [hb]; decide)).trans (if_neg fun h => ?_)
  rw [h] at hs
  exact absurd hs (by decide)

/-- A store at a line that its home holds. -/
theorem State.homeWrite_held {l mask : Nat} {d : Dir} {data : List Byte} (hd : s0.l2.dir.get? l = some d) (hs : d.state.hasData = true) (hb : d.busy = none) :
    ∃ u e, s0.homeWrite l data mask = some u ∧ u.l2.dir.get? l = some e ∧ e.data = mergeLine d.data data mask ∧ u.mem = s0.mem ∧ u.cores = s0.cores ∧ u.fe = s0.fe := by
  rw [State.homeWrite, State.fillLine_held hd hs hb]
  dsimp only
  rw [SMap.get?_put_self]
  refine ⟨_, _, rfl, SMap.get?_put_self _ _ _, rfl, ?_, ?_, ?_⟩ <;> simp

theorem accessBytes_dvd {b : Bool} {f n : Nat} (h : Rv.accessBytes b f = some n) : n = 1 ∨ n = 2 ∨ n = 4 ∨ n = 8 := by
  unfold Rv.accessBytes at h
  split at h
  case h_8 => cases h
  all_goals
    simp only [Option.ite_none_left_eq_some, Option.some.injEq] at h
    omega

theorem PlanAt.stores (h : PlanAt s s0 ctx w len p) {n pa : Nat} {d : Dir} (hw : w % 128 = 0x23) (hn : Rv.accessBytes true (bits w 14 12) = some n)
    (hva : (p.r (bits w 19 15) + Rv.immS w).toNat % n = 0) (ht : s0.translate (fnOfQueue p.queue) (p.r (bits w 19 15) + Rv.immS w).toNat .write = .ok 0 pa)
    (hpa : pa % n = 0) (hd : s0.l2.dir.get? (pa / 128) = some d) (hs : d.state.hasData = true) (hb : d.busy = none) :
    ∃ t x e, exec (.controlCoreInstruction ctx) s = .next t ∧ t.fe.plans.get? ctx = some x ∧ x.x = p.x ∧ x.pc = (p.pc + len) % 2 ^ 64 ∧
      t.l2.dir.get? (pa / 128) = some e ∧ (e.data.drop (pa % 128)).take n = leBytes n (p.r (bits w 24 20)).toNat ∧
      (∀ i, i < pa % 128 ∨ pa % 128 + n ≤ i → i < 128 → e.data.getD i 0#8 = d.data.getD i 0#8) ∧ t.mem = s.mem := by
  obtain ⟨u, e, hu, hdir, hdata, hmem, -, -⟩ := State.homeWrite_held (mask := (lineBytes pa (leBytes n (p.r (bits w 24 20)).toNat)).2)
    (data := (lineBytes pa (leBytes n (p.r (bits w 24 20)).toNat)).1) hd hs hb
  have hx : s0.planExec ctx p w len = u.planNext ctx p 0 0#64 (p.pc + len) := by
    rw [State.planExec_store _ hw, State.planStore, hn]
    dsimp only
    rw [if_neg (fun h => h hva), ht]
    dsimp only
    rw [if_pos rfl, State.planWrite, hu]
  obtain ⟨t, x, hexec, hplan, hregs, hpc, htmem, htdir⟩ := h.jumps hx
  have hlen : (leBytes n (p.r (bits w 24 20)).toNat).length = n := length_leBytes _ _
  have hin : pa % 128 + n ≤ 128 := by
    rcases accessBytes_dvd hn with rfl | rfl | rfl | rfl <;> omega
  obtain ⟨htake, hrest⟩ := mergeLine_lineBytes (data := leBytes n (p.r (bits w 24 20)).toNat) (a := pa) (old := d.data) (by rw [hlen]; exact hin)
  rw [hlen] at htake hrest
  obtain ⟨hsmem, -, -⟩ := State.planFetch_reads h.fetch
  refine ⟨t, x, e, hexec, hplan, hregs, hpc, by rw [htdir]; exact hdir, by rw [hdata]; exact htake, fun i hi hlt => by rw [hdata]; exact hrest i hi hlt, ?_⟩
  rw [htmem, hmem, hsmem]

end

end Sys2Proof.Machine
end

section
/-! Settling O37: the calls and faults of a plan program (R282, R283). -/

namespace Sys2Proof.Machine

section
variable {s : State} {ctx : Nat} {p : PlanCtx}

/-! A context at a call. -/

theorem State.atCall_plan {k : Nat} (h : s.atCall ctx k = some p) : s.fe.plans.get? ctx = some p ∧ s.planStep ctx p = .call k := by
  rw [State.atCall] at h
  split at h
  · cases h
  · next x hx =>
    split at h
    · next n hn =>
      split at h
      · next hk =>
        cases h
        exact ⟨hx, hk ▸ hn⟩
      · cases h
    · cases h

theorem State.inWait_plan (h : s.inWait ctx = some p) : s.fe.plans.get? ctx = some p ∧ (s.q p.queue).state = .running := by
  rw [State.inWait] at h
  split at h
  · cases h
  · next x hx =>
    split at h
    · cases h
    · next hn =>
      cases h
      exact ⟨hx, by_contra fun hr => hn (.inr (.inl hr))⟩

theorem State.planStep_runs {o : RvOut} (h : s.planStep ctx p = o) (ho : o ≠ .wait) : p.wait = .none ∧ s.planRuns p = true := by
  rw [State.planStep] at h
  split at h
  · exact absurd h.symm ho
  · next hn =>
    refine ⟨by_contra fun hw => hn (.inl hw), ?_⟩
    cases hr : s.planRuns p
    · exact absurd (.inr (by rw [hr]; rfl)) hn
    · rfl

theorem State.planRuns_alive (h : s.planRuns p = true) : (s.q p.queue).state.alive = true := by
  rw [State.planRuns, Bool.or_eq_true] at h
  rcases h with h | h
  · simp only [Bool.and_eq_true, decide_eq_true_eq] at h
    rw [h.1.2]
    rfl
  · simp only [Bool.and_eq_true, decide_eq_true_eq] at h
    rw [h.1]
    rfl

theorem State.atCall_alive {k : Nat} (h : s.atCall ctx k = some p) : (s.q p.queue).state.alive = true :=
  State.planRuns_alive (State.planStep_runs (State.atCall_plan h).2 (by simp)).2

theorem State.killAt_alive {q : Nat} (code node : Nat) (h : (s.q q).state.alive = true) : Killed (s.killAt q code node) q code ∧ QueueOnly s (s.killAt q code node) q := by
  obtain ⟨hq, honly⟩ := State.kill_alive code (s.siteOf q node) h
  exact ⟨⟨congrArg Queue.state hq, congrArg Queue.killCode hq⟩, honly⟩

theorem State.planReturn_mem (s : State) (ctx : Nat) (p : PlanCtx) (v : DWord) : (s.planReturn ctx p v).mem = s.mem := rfl

/-- A context that returns from its call. -/
def PlanCtx.returned (p : PlanCtx) (v : DWord) : PlanCtx := { p.setX 10 v with wait := .none, pc := (p.pc + 4) % 2 ^ 64, code := [] }

theorem State.planReturn_plan (s : State) (ctx : Nat) (p : PlanCtx) (v : DWord) : (s.planReturn ctx p v).fe.plans.get? ctx = some (p.returned v) := SMap.get?_put_self _ _ _

theorem PlanCtx.returned_a0 (hl : p.x.length = 32) (v : DWord) : (p.returned v).r 10 = v :=
  (PlanCtx.setX_r hl (by decide) v 10).trans (if_pos ⟨rfl, by decide⟩)

/-- A call that returns its own argument leaves the registers. -/
theorem PlanCtx.returned_x (hl : p.x.length = 32) : (p.returned (p.r 10)).x = p.x := by
  refine Eq.trans (b := p.x.set 10 (p.r 10)) rfl ?_
  rw [PlanCtx.r, List.getD_eq_getElem?_getD, List.getElem?_eq_getElem (by omega), Option.getD_some, List.set_getElem_self]

/-! EXIT. -/

theorem State.nodeDone_node {id : Nat} {n : Node} (h : s.fe.nodes.get? id = some n) : (s.nodeDone id).fe.nodes.get? id = some { n with done := true } := by
  refine (SMap.get?_mapVals s.fe.nodes (fun k n => if k = id then { n with done := true } else n) id).trans ?_
  rw [h]
  exact congrArg some (if_pos rfl)

/-- The state after EXIT: the node done, the context's time counted, and the context free. -/
def State.planExited (s : State) (ctx : Nat) (p : PlanCtx) : State :=
  let u := (s.nodeDone p.node).addQty p.queue 6 (s.time.mono - p.since) (s.nodeTags p.node).1 (s.nodeTags p.node).2
  { u with fe.plans := u.fe.plans.del ctx, l2.resv := u.l2.resv.del ctx }

theorem exits_plan {n : Node} (h : s.atCall ctx 0 = some p) (hn : s.fe.nodes.get? p.node = some n) (hr : s.tableRoom) :
    ∃ t, exec (.planExit ctx) s = .next t ∧ t.fe.plans.get? ctx = none ∧ t.l2.resv.get? ctx = none ∧
      t.fe.nodes.get? p.node = some { n with done := true } ∧ t.mem = s.mem ∧ t.cores = s.cores := by
  have hready : (s.nodeDone p.node).accumReady (fnOfQueue p.queue) (s.nodeTags p.node).1 (s.nodeTags p.node).2 := .inl hr
  have hmem := State.addQty_mem_of_ready 6 (s.time.mono - p.since) hready
  have heq : planExit ctx s = s.planExited ctx p := by
    rw [planExit, h]
    rfl
  refine ⟨_, congrArg Host.Outcome.next heq, SMap.get?_del_self _ _, SMap.get?_del_self _ _, ?_, hmem, State.addQty_cores _ _ _ _ _ _⟩
  refine (congrArg (fun fe : FrontEnd => fe.nodes.get? p.node) (State.addQty_fe _ _ _ _ _ _)).trans (State.nodeDone_node hn)

/-! LAUNCH and WAIT_GRAPH. -/

/-- The state after LAUNCH of a graph that was pinned. -/
def State.launched (t : State) (ctx : Nat) (p : PlanCtx) (h : Nat) (g : Graph) : State :=
  State.planReturn { t with
    fe.graphs := t.fe.graphs.put t.fe.nextGraph g, fe.nextGraph := t.fe.nextGraph + 1
    fe.handles := t.fe.handles.put p.node ((t.handlesOf p.node).put h t.fe.nextGraph) } ctx p (BitVec.ofNat 64 h)

theorem planLaunch_now (hi : s.inWait ctx = some p) (hc : s.atCall ctx 1 = some p) : planLaunch ctx s = s.planLaunchNow ctx p := by
  rw [planLaunch, hi]
  dsimp only
  split
  · rfl
  · rw [hc]

section
variable {n : Node} (hi : s.inWait ctx = some p) (hc : s.atCall ctx 1 = some p) (hn : s.fe.nodes.get? p.node = some n) (hgo : s.unitGoes 2 ctx (planLaunch ctx))
include hi hc hn hgo

theorem launches_full (hd : n.depth < 8) (hh : s.nextHandle p.node = none) :
    exec (.planLaunch ctx) s = .next ((s.putPlan ctx { p with wait := .launchFull }).unitDone 2 ctx) := by
  have heq : planLaunch ctx s = s.putPlan ctx { p with wait := .launchFull } := by
    rw [planLaunch_now hi hc, State.planLaunchNow, hn]
    dsimp only
    rw [if_neg (by omega), hh]
  exact congrArg Host.Outcome.next ((State.unit_of_goes hgo).trans (by rw [heq]))

theorem launches_graph {h : Nat} {g : Graph} {t0 : State} (hd : n.depth < 8) (hh : s.nextHandle p.node = some h)
    (hp : s.pin p.queue n.ring none (some (p.node, h)) (n.depth + 1) (p.r 10).toNat (p.r 11).toNat (.node p.node) = .ok g t0) (hl : p.x.length = 32) :
    ∃ t x, exec (.planLaunch ctx) s = .next t ∧ t.fe.graphs.get? t0.fe.nextGraph = some g ∧ (t.handlesOf p.node).get? h = some t0.fe.nextGraph ∧
      t.fe.plans.get? ctx = some x ∧ x.r 10 = BitVec.ofNat 64 h ∧ x.pc = (p.pc + 4) % 2 ^ 64 ∧ x.wait = .none ∧ t.mem = t0.mem := by
  have heq : planLaunch ctx s = t0.launched ctx p h g := by
    rw [planLaunch_now hi hc, State.planLaunchNow, hn]
    dsimp only
    rw [if_neg (by omega), hh]
    dsimp only
    rw [hp]
    rfl
  refine ⟨_, p.returned (BitVec.ofNat 64 h), congrArg Host.Outcome.next (State.unit_of_goes hgo), ?_⟩
  rw [heq]
  refine ⟨SMap.get?_put_self _ _ _, ?_, SMap.get?_put_self _ _ _, PlanCtx.returned_a0 hl _, rfl, rfl, rfl⟩
  refine (congrArg (fun m : SMap Nat => m.get? h) (SMap.getD_put_self t0.fe.handles p.node ((t0.handlesOf p.node).put h t0.fe.nextGraph) [])).trans (SMap.get?_put_self _ _ _)

theorem launches_deep (hd : 8 ≤ n.depth) : ∃ t, exec (.planLaunch ctx) s = .next t ∧ Killed t p.queue 0x04 ∧ t.mem = s.mem ∧ t.cores = s.cores := by
  have heq : planLaunch ctx s = s.killAt p.queue 0x04 p.node := by
    rw [planLaunch_now hi hc, State.planLaunchNow, hn]
    exact if_pos hd
  obtain ⟨hk, -, hmem, hcores, -⟩ := State.killAt_alive 0x04 p.node (State.atCall_alive hc)
  refine ⟨_, congrArg Host.Outcome.next (State.unit_of_goes hgo), ?_⟩
  rw [heq]
  exact ⟨hk, hmem, hcores⟩

end

section
variable (hi : s.inWait ctx = some p) (hc : s.atCall ctx 2 = some p) (hw : p.wait = .none)
include hi hc hw

theorem planWaitGraph_now : planWaitGraph ctx s = s.waitGraphNow ctx p (p.r 10).toNat := by
  rw [planWaitGraph, hi]
  dsimp only
  rw [hw, hc]

theorem waits_graph {g : Nat} (hg : (s.handlesOf p.node).get? (p.r 10).toNat = some g) (hr : s.fe.graphs.has g = true) :
    exec (.planWaitGraph ctx) s = .next (s.putPlan ctx { p with wait := .graph (p.r 10).toNat }) := by
  refine congrArg Host.Outcome.next ((planWaitGraph_now hi hc hw).trans ?_)
  rw [State.waitGraphNow, hg]
  exact if_pos hr

theorem returns_graph {g : Nat} (hl : p.x.length = 32) (hg : (s.handlesOf p.node).get? (p.r 10).toNat = some g) (hr : s.fe.graphs.has g = false) :
    ∃ t x, exec (.planWaitGraph ctx) s = .next t ∧ (t.handlesOf p.node).get? (p.r 10).toNat = none ∧ t.fe.plans.get? ctx = some x ∧
      x.pc = (p.pc + 4) % 2 ^ 64 ∧ x.x = p.x ∧ x.wait = .none ∧ t.mem = s.mem := by
  have heq : planWaitGraph ctx s = State.planReturn { s with fe.handles := s.fe.handles.put p.node ((s.handlesOf p.node).del (p.r 10).toNat) } ctx p (p.r 10) := by
    rw [planWaitGraph_now hi hc hw, State.waitGraphNow, hg]
    exact if_neg (by rw [hr]; decide)
  refine ⟨_, p.returned (p.r 10), congrArg Host.Outcome.next heq, ?_, State.planReturn_plan _ _ _ _, rfl, PlanCtx.returned_x hl, rfl, rfl⟩
  exact (congrArg (fun m : SMap Nat => m.get? (p.r 10).toNat) (SMap.getD_put_self s.fe.handles p.node _ [])).trans (SMap.get?_del_self _ _)

end

/-! SYNC and YIELD. -/

theorem State.issueSync_here {q h op v : Nat} {who : WaiterWho} (hh : h < 2 ^ 29) (hc : handleChip h s.fab.chipId = none) :
    s.issueSync q h op v who = (0, if op = 1 ∨ op = 2 ∨ op = 4 ∨ op = 6 then
      { s with syn.registering := s.syn.registering ++ [(handleObj h, { who := who, queue := q, op := op, value := v, scope := s.nodeScope })] }
      else { s with syn.inbound := s.syn.inbound ++ [{ obj := handleObj h, op := op, value := v, queue := q, scope := s.nodeScope, who := who }] }) := by
  rw [State.issueSync, if_neg (by omega), hc]
  dsimp only
  by_cases ho : op = 1 ∨ op = 2 ∨ op = 4 ∨ op = 6
  · rw [decide_eq_true ho, if_pos rfl, if_pos ho]
  · rw [decide_eq_false ho, if_neg Bool.false_ne_true, if_neg ho]

theorem syncs_plan (hc : s.atCall ctx 3 = some p) (hop : (p.r 11).toNat ≤ 6) (hh : (p.r 10).toNat < 2 ^ 29) (hhere : handleChip (p.r 10).toNat s.fab.chipId = none) :
    ∃ t, exec (.planSync ctx) s = .next t ∧ t.fe.plans.get? ctx = some { p with wait := .sync } ∧
      t.syn.inbound.length + t.syn.registering.length = s.syn.inbound.length + s.syn.registering.length + 1 ∧
      ((p.r 11).toNat ∈ [0, 3, 5] → t.syn.inbound = s.syn.inbound ++ [s.syncMsgOf p.queue (p.r 10).toNat (p.r 11).toNat (p.r 12).toNat (.plan ctx)]) ∧ t.mem = s.mem := by
  have heq : planSync ctx s = (s.issueSync p.queue (p.r 10).toNat (p.r 11).toNat (p.r 12).toNat (.plan ctx)).2.putPlan ctx { p with wait := .sync } := by
    rw [planSync, hc]
    refine (if_neg (by omega)).trans ?_
    rw [State.issueSync_here hh hhere]
    exact if_pos rfl
  refine ⟨_, congrArg Host.Outcome.next heq, SMap.get?_put_self _ _ _, ?_⟩
  rw [State.putPlan_syn, State.putPlan_mem, State.issueSync_here hh hhere]
  dsimp only
  split
  · next ho =>
    refine ⟨?_, fun hm => ?_, rfl⟩
    · simp only [List.length_append, List.length_cons, List.length_nil]
      omega
    · simp only [List.mem_cons, List.not_mem_nil, or_false] at hm
      omega
  · refine ⟨?_, fun _ => rfl, rfl⟩
    simp only [List.length_append, List.length_cons, List.length_nil]
    omega

theorem syncs_badly (hc : s.atCall ctx 3 = some p) (hop : 6 < (p.r 11).toNat) : ∃ t, exec (.planSync ctx) s = .next t ∧ Killed t p.queue 0x04 ∧ QueueOnly s t p.queue := by
  have heq : planSync ctx s = s.killAt p.queue 0x04 p.node := by
    rw [planSync, hc]
    exact if_pos hop
  obtain ⟨hk, honly⟩ := State.killAt_alive 0x04 p.node (State.atCall_alive hc)
  exact ⟨_, congrArg Host.Outcome.next heq, hk, honly⟩

theorem yields_plan (hc : s.atCall ctx 4 = some p) (hl : p.x.length = 32) :
    ∃ t x, exec (.planYield ctx) s = .next t ∧ t.fe.plans.get? ctx = some x ∧ x.x = p.x ∧ x.pc = (p.pc + 4) % 2 ^ 64 ∧ t.mem = s.mem ∧ t.cores = s.cores := by
  have heq : planYield ctx s = s.planReturn ctx p (p.r 10) := by rw [planYield, hc]
  exact ⟨_, p.returned (p.r 10), congrArg Host.Outcome.next heq, State.planReturn_plan _ _ _ _, PlanCtx.returned_x hl, rfl, rfl, rfl⟩

/-! Faults. -/

theorem State.planPoison_keeps (s : State) (ctx : Nat) (p : PlanCtx) (c : Nat) : (s.planPoison ctx p c).fe = s.fe ∧ (s.planPoison ctx p c).mem = s.mem := by
  rw [State.planPoison]
  split
  · exact ⟨State.sawPoison_fe _ _ _ _ _, State.sawPoison_mem _ _ _ _ _⟩
  · exact ⟨State.sawPoison_fe _ _ _ _ _, State.sawPoison_mem _ _ _ _ _⟩

theorem faults_plan {c : Nat} (hp : s.fe.plans.get? ctx = some p) (hf : s.planStep ctx p = .fault c) :
    ∃ t, exec (.planFault ctx) s = .next t ∧ Killed t p.queue c ∧ t.mem = s.mem := by
  obtain ⟨hfe, hmem⟩ := s.planPoison_keeps ctx p c
  have heq : planFault ctx s = (s.planPoison ctx p c).killAt p.queue c p.node := by
    rw [planFault, hp]
    dsimp only
    rw [hf]
  have halive := State.planRuns_alive (State.planStep_runs hf (by simp)).2
  obtain ⟨hk, -, hm, -, -⟩ := State.killAt_alive (s := s.planPoison ctx p c) c p.node (by rw [State.q_congr hfe]; exact halive)
  exact ⟨_, congrArg Host.Outcome.next heq, hk, hm.trans hmem⟩

theorem calls_unlisted {k : Nat} (hp : s.fe.plans.get? ctx = some p) (hf : s.planStep ctx p = .call k) (hk : 4 < k) :
    ∃ t, exec (.planFault ctx) s = .next t ∧ Killed t p.queue 0x04 ∧ t.mem = s.mem := by
  have heq : planFault ctx s = s.killAt p.queue 0x04 p.node := by
    rw [planFault, hp]
    dsimp only
    rw [hf]
    exact if_pos hk
  have halive := State.planRuns_alive (State.planStep_runs hf (by simp)).2
  obtain ⟨hkill, -, hm, -, -⟩ := State.killAt_alive 0x04 p.node halive
  exact ⟨_, congrArg Host.Outcome.next heq, hkill, hm⟩

end

/-- Settles O37: an instruction through the fetch that delivers it and the rule of its opcode, a store through its line's home, and each call through the context that it leaves. -/
theorem planPrograms : Obligations.PlanPrograms := by
  refine ⟨fun s s0 ctx w len p hp hs hw hr ht hgo hf hl _ _ => ?_, fun _ _ _ _ h hn hr => exits_plan h hn hr,
    fun _ _ _ _ hi hc hn hgo => ⟨fun hd hh => launches_full hi hc hn hgo hd hh, fun _ _ _ hd hh hp hl => launches_graph hi hc hn hgo hd hh hp hl, fun hd => launches_deep hi hc hn hgo hd⟩,
    fun _ _ _ hi hc hw hl => ⟨fun _ hg hr => waits_graph hi hc hw hg hr, fun _ hg hr => returns_graph hi hc hw hl hg hr⟩,
    fun _ _ _ hc _ => ⟨fun hop hh hhere => syncs_plan hc hop hh hhere, fun hop => syncs_badly hc hop⟩,
    fun _ _ _ hc hl => yields_plan hc hl,
    fun _ _ _ hp => ⟨fun _ hf => faults_plan hp hf, fun _ hf hk => calls_unlisted hp hf hk⟩⟩
  have h : PlanAt s s0 ctx w len p := ⟨hp, hs, hw, hr, ht, hgo, hf, hl⟩
  refine ⟨fun v ho ha => h.done s0.readFrom_refl (State.planExec_arith s0 ho ha), fun ho => h.done s0.readFrom_refl (State.planExec_lui s0 ho),
    fun ho => h.done s0.readFrom_refl (State.planExec_auipc s0 ho), fun ho => h.done s0.readFrom_refl (State.planExec_jal s0 ho),
    fun ho hf3 => h.done s0.readFrom_refl (State.planExec_jalr s0 ho hf3), fun taken ho hb => ?_,
    fun n pa ho hn hva htr hpo => h.done (s0.lookAt_readFrom pa n) ((State.planExec_load s0 ho).trans (State.planLoad_here hn hva htr hpo)),
    fun n pa d ho hn hva htr hpa hd hst hbu _ => h.stores ho hn hva htr hpa hd hst hbu⟩
  obtain ⟨t, x, hexec, hplan, hregs, hpc, hmem, -⟩ := h.jumps (State.planExec_branch s0 ho hb)
  exact ⟨t, x, hexec, hplan, hregs, hpc, hmem.trans (State.planFetch_reads hf).1⟩

end Sys2Proof.Machine
end

section
/-! The cancellation of another chip's wait in a table of objects that lists an object twice (R157, R303). -/

namespace Sys2Proof.Machine

/-- A fence without waiters. -/
def idleFence : SynObj :=
  { type := .fence, owner := 0, access := 3, code := 0, value := 0, saturated := false, participants := 0, arrivals := 0, generation := 0, mirror := none, notify := none, waiters := [] }

/-- The same fence with the wait that chip 7 numbers 5. -/
def waitedFence : SynObj := { idleFence with waiters := [{ who := .remote 7 5, queue := 0x10000, op := 1, value := 1, scope := 4 }] }

/-- Function 0 admits chip 7 with key 9; the table lists object 0 twice, and the entry behind holds a wait that no lookup of the object finds. -/
def listedTwice : State :=
  { State.reset with
    mgt.blob := [(E.sliceMembers * 256, [0#8, 0#8, 0#8, 0#8, 7#8, 0#8]), (E.fabBind * 256, [9#8, 0#8, 0#8, 0x3F#8] ++ zeroBytes 12)]
    hif.fns := [(0, { FnSt.initial with gate := .opened })]
    syn.objs := [(0, idleFence), (0, waitedFence)] }

/-- Chip 7 cancels its wait 5. -/
def cancelFive : Packet :=
  { type := 4, src := 7, dst := 0xFFFF, seq := 1, key := 9, srcFn := 0, op := 8, addr := 0, data := leBytes 16 5, poison := 0 }

/-- No object that a lookup finds holds the wait. -/
theorem listedTwice_found {o : Nat} {y : SynObj} (h : listedTwice.syn.objs.get? o = some y) : y = idleFence := by
  by_cases ho : o = 0
  · subst ho
    exact (Option.some.inj h).symm
  · have hnone : listedTwice.syn.objs.get? o = none := (if_neg ho).trans (if_neg ho)
    rw [hnone] at h
    cases h

set_option maxRecDepth 20000 in
/-- The answer says that the wait stood. -/
theorem listedTwice_answer : (fabricSyncOp cancelFive listedTwice).fab.answers.map Packet.addr = [0] := by decide

set_option maxRecDepth 20000 in
theorem listedTwice_arrives : listedTwice.arrives cancelFive 4 := by decide

set_option maxRecDepth 20000 in
theorem listedTwice_admits : listedTwice.admitPkt cancelFive 4 = .ok 0 := by decide

/-- Refutes O46: the waits that a cancellation looks for are those of every entry of the table, and an entry behind another of the same object holds one that no lookup finds. -/
theorem not_requestsOfOtherChips : ¬ Obligations.RequestsOfOtherChips := by
  unfold Obligations.RequestsOfOtherChips
  rintro ⟨-, -, -, -, -, -, hsync, -⟩
  obtain ⟨hcancel, -⟩ := (hsync listedTwice cancelFive 0 idleFence listedTwice_arrives listedTwice_admits).1 rfl
  have hfields : (fieldAt cancelFive.data 0 4) = 5 := by decide
  obtain ⟨t, ht, ⟨hans, -, -⟩, -⟩ := hcancel (fun o y hy w hw => by
    rw [listedTwice_found hy] at hw
    exact absurd hw List.not_mem_nil) (fun e he => absurd he List.not_mem_nil)
  have htl : t = fabricSyncOp cancelFive listedTwice := (Host.Outcome.next.inj ht).symm
  rw [htl] at hans
  have haddr : (fabricSyncOp cancelFive listedTwice).fab.answers.map Packet.addr = [1] := by rw [hans]; rfl
  exact absurd (listedTwice_answer.symm.trans haddr) (by decide)

end Sys2Proof.Machine
end

section
/-! What the responses to this chip leave unchanged (R303, R356, R363). -/

namespace Sys2Proof.Machine

@[simp] theorem State.traceFe_fab (s : State) (kind queue layer operator aux detail : Nat) : (s.traceFe kind queue layer operator aux detail).fab = s.fab :=
  by simp [State.traceFe]
@[simp] theorem State.setShares_fab (s : State) (g : List Share → List Share) : (s.setShares g).fab = s.fab := rfl
@[simp] theorem State.stopShares_fab (s : State) (p : Nat → Bool) : (s.stopShares p).fab = s.fab := rfl
@[simp] theorem State.countKill_fab (s : State) (code : Nat) : (s.countKill code).fab = s.fab := by simp [State.countKill, ite_fab]
@[simp] theorem State.kill_fab (s : State) (q code : Nat) (site : Site) (inFlight : optParam Bool false) : (s.kill q code site inFlight).fab = s.fab :=
  by simp [State.kill, ite_fab]
@[simp] theorem State.pushStk_fab (s : State) (rec : Nat) : (s.pushStk rec).fab = s.fab := by simp [State.pushStk, ite_fab]
@[simp] theorem State.consumePoison_fab (s : State) (pa : Nat) : (s.consumePoison pa).fab = s.fab := by simp [State.consumePoison]
@[simp] theorem State.sawPoison_fab (s : State) (code f va n : Nat) : (s.sawPoison code f va n).fab = s.fab := by
  unfold State.sawPoison
  (repeat' split) <;> simp
@[simp] theorem State.coreFault_fab (s0 : State) (c slot thread code pc addr : Nat) (scratch : optParam Bool false) (point : optParam (Option Nat) none) : (s0.coreFault c slot thread code pc addr scratch point).fab = s0.fab := by
  unfold State.coreFault
  dsimp only
  (repeat' split) <;> simp
@[simp] theorem State.faultWho_fab (s : State) (w : WaiterWho) (q code : Nat) : (s.faultWho w q code).fab = s.fab := by
  unfold State.faultWho
  (repeat' split) <;> simp
@[simp] theorem State.faultWho_l2 (s : State) (w : WaiterWho) (q code : Nat) : (s.faultWho w q code).l2 = s.l2 := by
  unfold State.faultWho
  (repeat' split) <;> simp
@[simp] theorem State.gotLine_mem (s : State) (id key : Nat) (data : List Byte) (bad : Nat) : (s.gotLine id key data bad).mem = s.mem := by
  unfold State.gotLine
  (repeat' split) <;> simp
@[simp] theorem State.gotLine_fab (s : State) (id key : Nat) (data : List Byte) (bad : Nat) : (s.gotLine id key data bad).fab = s.fab := by
  unfold State.gotLine
  (repeat' split) <;> simp
@[simp] theorem State.atomDrop_mem (s : State) (a : Atom) (x : Acc) : (s.atomDrop a x).mem = s.mem := rfl
@[simp] theorem State.atomDrop_l2 (s : State) (a : Atom) (x : Acc) : (s.atomDrop a x).l2 = s.l2 := rfl
@[simp] theorem State.atomDrop_fab (s : State) (a : Atom) (x : Acc) : (s.atomDrop a x).fab = s.fab := rfl
@[simp] theorem State.nodeDone_fab (s : State) (id : Nat) : (s.nodeDone id).fab = s.fab := rfl
@[simp] theorem State.dropEntry_l2 (s : State) (c seq : Nat) : (s.dropEntry c seq).l2 = s.l2 := rfl
@[simp] theorem State.dropEntry_fab (s : State) (c seq : Nat) : (s.dropEntry c seq).fab = s.fab := rfl
@[simp] theorem State.collEnd_mem (s : State) (g code : Nat) (abort : Bool) : (s.collEnd g code abort).mem = s.mem := by simp [State.collEnd, ite_mem]
@[simp] theorem State.dropSharer_mem (s : State) (line b : Nat) : (s.dropSharer line b).mem = s.mem := by
  unfold State.dropSharer
  dsimp only
  (repeat' split) <;> simp
@[simp] theorem State.copyGone_mem (s : State) (line b : Nat) : (s.copyGone line b).mem = s.mem := by
  unfold State.copyGone
  dsimp only
  (repeat' split) <;> simp
@[simp] theorem State.releaseNode_fab (s : State) (r : SynRelease) (id : Nat) : (s.releaseNode r id).fab = s.fab := by
  unfold State.releaseNode
  (repeat' split) <;> simp
@[simp] theorem State.putPlan_fab (s : State) (ctx : Nat) (p : PlanCtx) : (s.putPlan ctx p).fab = s.fab := rfl
@[simp] theorem State.planAnswered_fab (s : State) (ctx : Nat) (l : List Byte) : (s.planAnswered ctx l).fab = s.fab := by
  unfold State.planAnswered
  (repeat' split) <;> simp
@[simp] theorem State.planAnswered_l2 (s : State) (ctx : Nat) (l : List Byte) : (s.planAnswered ctx l).l2 = s.l2 := by
  unfold State.planAnswered
  (repeat' split) <;> simp
@[simp] theorem State.planAnswered_mem (s : State) (ctx : Nat) (l : List Byte) : (s.planAnswered ctx l).mem = s.mem := by
  unfold State.planAnswered
  (repeat' split) <;> simp

end Sys2Proof.Machine
end

section
/-! Settling O47: responses to this chip (R303, R356, R363, R370). -/

namespace Sys2Proof.Machine

section
variable {s : State} {pkt : Packet} {id : Nat} {r : Req}

/-! A response that ends a request. -/

/-- A request that has been answered. -/
def State.unasked (s : State) (id : Nat) : State := { s with fab.reqs := s.fab.reqs.del id }

theorem State.unasked_reqs (s : State) (id : Nat) : (s.unasked id).fab.reqs.get? id = none := SMap.get?_del_self _ _

theorem State.typed_own {ty : Nat} (go : State) (ht : pkt.type = ty) (hd : pkt.dst = s.fab.chipId) : s.typed pkt ty go = go :=
  (if_pos ht).trans (if_pos hd)

/-- A step for another chip that leaves the directory is made at once. -/
theorem State.outside_of_dir_eq {i : HeldReq} {go : State → State} {t : State} (heq : go s = t) (hd : t.l2.dir = s.l2.dir) (hr : t.l2.refused = none) :
    s.outside i go = t :=
  (State.outside_of_goes (decide_eq_true (State.meets_of_dir_eq _ (by rw [heq]; exact hd) (by rw [heq]; exact hr)))).trans heq

/-! Data of a read. -/

theorem readData_arrives (h : s.responds pkt 0x11 id r) : readData pkt s = s.readArrived id r pkt.data pkt.poison := by
  obtain ⟨ht, hd, hr⟩ := h
  rw [readData, State.typed_own _ ht hd, hr]

theorem State.readArrived_plan {ctx : Nat} (hi : r.issuer = .plan ctx) (data : List Byte) (poison : Nat) :
    s.readArrived id r data poison = if poison = 0 then (s.unasked id).planAnswered ctx data else (s.unasked id).kill r.queue 0x03 (s.reqSite r) := by
  rw [State.readArrived, hi]
  rfl

theorem State.planAnswered_plan {ctx : Nat} {p : PlanCtx} (hp : s.fe.plans.get? ctx = some p) (hw : p.wait = .remote) (l : List Byte) :
    (s.planAnswered ctx l).fe.plans.get? ctx = some { p with rdata := some l, wait := .none } := by
  rw [State.planAnswered, hp]
  dsimp only
  rw [if_pos hw]
  exact SMap.get?_put_self _ _ _

theorem reads_plan {ctx : Nat} {p : PlanCtx} (hrf : s.l2.refused = none) (h : s.responds pkt 0x11 id r) (hi : r.issuer = .plan ctx) (hp : s.fe.plans.get? ctx = some p)
    (hw : p.wait = .remote) :
    (pkt.poison = 0 → ∃ t, exec (.readData pkt) s = .next t ∧ t.fab.reqs.get? id = none ∧
      t.fe.plans.get? ctx = some { p with rdata := some pkt.data, wait := .none } ∧ t.mem = s.mem) ∧
    (pkt.poison ≠ 0 → (s.q r.queue).state.alive = true → ∃ t, exec (.readData pkt) s = .next t ∧ t.fab.reqs.get? id = none ∧ Killed t r.queue 0x03) := by
  have heq := (readData_arrives h).trans (State.readArrived_plan hi pkt.data pkt.poison)
  refine ⟨fun h0 => ?_, fun h0 ha => ?_⟩
  · rw [if_pos h0] at heq
    refine ⟨_, congrArg Host.Outcome.next (State.outside_of_dir_eq heq (by rw [State.planAnswered_l2]; rfl) (by rw [State.planAnswered_l2]; exact hrf)), ?_, ?_, ?_⟩
    · rw [State.planAnswered_fab]
      exact s.unasked_reqs id
    · exact State.planAnswered_plan (s := s.unasked id) hp hw _
    · rw [State.planAnswered_mem]
      rfl
  · rw [if_neg h0] at heq
    obtain ⟨hk, -⟩ := State.kill_alive (s := s.unasked id) 0x03 (s.reqSite r) ha
    refine ⟨_, congrArg Host.Outcome.next (State.outside_of_dir_eq heq (by rw [State.kill_l2]; rfl) (by rw [State.kill_l2]; exact hrf)), ?_, congrArg Queue.state hk, congrArg Queue.killCode hk⟩
    rw [State.kill_fab]
    exact s.unasked_reqs id

theorem overlayFwd_nil (key : Nat) {data : List Byte} (h : data.length = 128) : overlayFwd key data [] = data := by
  refine List.ext_getElem (by rw [overlayFwd, List.length_map, List.length_range, h]) fun i h1 h2 => ?_
  simp [overlayFwd, List.getElem?_eq_getElem h2]

theorem State.gotLine_load {i key : Nat} {l : Load} {data : List Byte} (hl : s.l2.loads.get? i = some l) (hf : l.fwd = []) (hd : data.length = 128) :
    ∃ x, (s.gotLine i key data 0).l2.loads.get? i = some x ∧ x.got.get? key = some data ∧ x.accs = l.accs := by
  have hput (w : Load) : (SMap.put s.l2.loads i w).get? i = some w := SMap.get?_put_self _ _ _
  rw [State.gotLine, hl]
  dsimp only
  rw [hf, List.filter_nil, overlayFwd_nil _ hd]
  split
  · exact ⟨_, hput _, SMap.get?_put_self _ _ _, rfl⟩
  · exact ⟨_, hput _, SMap.get?_put_self _ _ _, rfl⟩

theorem State.gotLine_l2 {i key : Nat} {data : List Byte} {bad : Nat} : (s.gotLine i key data bad).l2.dir = s.l2.dir ∧ (s.gotLine i key data bad).l2.refused = s.l2.refused := by
  rw [State.gotLine]
  split
  · exact ⟨rfl, rfl⟩
  · dsimp only
    split <;> exact ⟨rfl, rfl⟩

theorem reads_load {i key : Nat} {l : Load} (hrf : s.l2.refused = none) (h : s.responds pkt 0x11 id r) (hi : r.issuer = .load i key) (hl : s.l2.loads.get? i = some l)
    (hf : l.fwd = []) (hlen : pkt.data.length = 128) (hp : pkt.poison = 0) :
    ∃ t x, exec (.readData pkt) s = .next t ∧ t.fab.reqs.get? id = none ∧ t.l2.loads.get? i = some x ∧ x.got.get? key = some pkt.data ∧ x.accs = l.accs ∧ t.mem = s.mem := by
  have htake : (pkt.data ++ zeroBytes 128).take 128 = pkt.data := List.take_left' hlen
  have heq : readData pkt s = (s.unasked id).gotLine i key pkt.data 0 := by
    rw [readData_arrives h, State.readArrived, hi, hp, htake]
    rfl
  obtain ⟨x, hx, hgot, haccs⟩ := State.gotLine_load (s := s.unasked id) (key := key) (data := pkt.data) hl hf hlen
  obtain ⟨hdir, href⟩ := State.gotLine_l2 (s := s.unasked id) (i := i) (key := key) (data := pkt.data) (bad := 0)
  refine ⟨_, x, congrArg Host.Outcome.next (State.outside_of_dir_eq heq hdir (href.trans hrf)), ?_, hx, hgot, haccs, ?_⟩
  · rw [State.gotLine_fab]
    exact s.unasked_reqs id
  · rw [State.gotLine_mem]
    rfl

theorem Core.cacheWord_get? (k : Core) (key w : Nat) : (k.cacheWord key w).icache.get? key = some w := by
  rw [Core.cacheWord]
  dsimp only
  split
  · exact if_pos rfl
  · exact SMap.get?_put_self _ _ _

theorem reads_code {c slot pc : Nat} (hrf : s.l2.refused = none) (h : s.responds pkt 0x11 id r) (hi : r.issuer = .code c slot pc) (hp : pkt.poison = 0) :
    ∃ t, exec (.readData pkt) s = .next t ∧ t.fab.reqs.get? id = none ∧
      (t.core c).icache.get? (icacheKey (fnOfQueue r.queue) pc) = some (fieldAt pkt.data 0 8) ∧ t.mem = s.mem := by
  have heq : readData pkt s = (s.unasked id).modCore c (fun k => k.cacheWord (icacheKey (fnOfQueue r.queue) pc) (fieldAt pkt.data 0 8)) := by
    rw [readData_arrives h, State.readArrived, hi]
    exact if_pos hp
  refine ⟨_, congrArg Host.Outcome.next (State.outside_of_dir_eq heq rfl hrf), s.unasked_reqs id, ?_, rfl⟩
  rw [State.modCore_core_self]
  exact Core.cacheWord_get? _ _ _

/-! Acknowledgements. -/

theorem acks_mark {node : Nat} {n : Node} (hrf : s.l2.refused = none) (h : s.responds pkt 0x12 id r) (hop : pkt.op = 0) (hi : r.issuer = .mark node)
    (hn : s.fe.nodes.get? node = some n) :
    ∃ t, exec (.fabricAck pkt) s = .next t ∧ t.fab.reqs.get? id = none ∧ t.fe.nodes.get? node = some { n with done := true } ∧ t.mem = s.mem := by
  obtain ⟨ht, hd, hr⟩ := h
  have heq : fabricAck pkt s = (s.unasked id).nodeDone node := by
    rw [fabricAck, State.typed_own _ ht hd, hr]
    dsimp only
    rw [if_neg (fun hx => hx hop), hi]
    rfl
  exact ⟨_, congrArg Host.Outcome.next (State.outside_of_dir_eq heq rfl hrf), s.unasked_reqs id, State.nodeDone_node (s := s.unasked id) hn, rfl⟩

theorem mem_and_ne_of_mem_del {α : Type} {m : SMap α} {i : Nat} {e : Nat × α} (h : e ∈ m.del i) : e ∈ m ∧ e.1 ≠ i := by
  induction m with
  | nil => exact absurd h List.not_mem_nil
  | cons x m ih =>
    rw [SMap.del] at h
    split at h
    · obtain ⟨hm, hne⟩ := ih h
      exact ⟨List.mem_cons_of_mem _ hm, hne⟩
    · next hi =>
      rcases List.mem_cons.mp h with rfl | hm
      · exact ⟨List.mem_cons_self, fun he => hi he.symm⟩
      · obtain ⟨hin, hne⟩ := ih hm
        exact ⟨List.mem_cons_of_mem _ hin, hne⟩

theorem acks_store {c seq : Nat} (hrf : s.l2.refused = none) (h : s.responds pkt 0x12 id r) (hop : pkt.op = 0) (hi : r.issuer = .store c seq)
    (hlast : ∀ e ∈ s.fab.reqs, e.1 ≠ id → e.2.issuer ≠ .store c seq) :
    ∃ t, exec (.fabricAck pkt) s = .next t ∧ t.fab.reqs.get? id = none ∧ (∀ e ∈ (t.core c).sb, e.seq ≠ seq) ∧ t.mem = s.mem := by
  obtain ⟨ht, hd, hr⟩ := h
  have hnone : (s.unasked id).fab.reqs.vals.any (fun r => decide (r.issuer = .store c seq)) = false := by
    refine List.any_eq_false.mpr fun r hm => ?_
    obtain ⟨e, he, rfl⟩ := List.mem_map.mp hm
    obtain ⟨hin, hne⟩ := mem_and_ne_of_mem_del he
    rw [decide_eq_false (hlast e hin hne)]
    decide
  have heq : fabricAck pkt s = (s.unasked id).dropEntry c seq := by
    rw [fabricAck, State.typed_own _ ht hd, hr]
    dsimp only
    rw [if_neg (fun hx => hx hop), hi]
    exact if_neg (fun hx => Bool.false_ne_true (hnone.symm.trans hx))
  refine ⟨_, congrArg Host.Outcome.next (State.outside_of_dir_eq heq rfl hrf), s.unasked_reqs id, fun e he => ?_, rfl⟩
  rw [State.dropEntry, State.modCore_core_self] at he
  have hf := (List.mem_filter.mp he).2
  simpa using hf

theorem acks_code {who : WaiterWho} {w : Bool} {sc : Nat} (hrf : s.l2.refused = none) (h : s.responds pkt 0x12 id r) (hop : pkt.op ≠ 0) (hi : r.issuer = .sync who w sc)
    (ha : (s.q r.queue).state.alive = true) :
    ∃ t, exec (.fabricAck pkt) s = .next t ∧ t.fab.reqs.get? id = none ∧ Killed t r.queue pkt.op ∧ t.mem = s.mem := by
  obtain ⟨ht, hd, hr⟩ := h
  have heq : fabricAck pkt s = (s.unasked id).faultWho who r.queue pkt.op := by
    rw [fabricAck, State.typed_own _ ht hd, hr]
    dsimp only
    rw [if_pos hop, State.reqFailed, hi]
    rfl
  refine ⟨_, congrArg Host.Outcome.next (State.outside_of_dir_eq heq (by rw [State.faultWho_l2]; rfl) (by rw [State.faultWho_l2]; exact hrf)), ?_,
    State.faultWho_killed (s := s.unasked id) who pkt.op ha, ?_⟩
  · rw [State.faultWho_fab]
    exact s.unasked_reqs id
  · rw [State.faultWho_mem]
    rfl

/-! Old values. -/

theorem answers_plan {ctx : Nat} {p : PlanCtx} (hrf : s.l2.refused = none) (h : s.responds pkt 0x13 id r) (hi : r.issuer = .plan ctx) (hp : s.fe.plans.get? ctx = some p)
    (hw : p.wait = .remote) :
    ∃ t, exec (.atomicResp pkt) s = .next t ∧ t.fab.reqs.get? id = none ∧ t.fe.plans.get? ctx = some { p with rdata := some (pkt.data.take 8), wait := .none } ∧ t.mem = s.mem := by
  obtain ⟨ht, hd, hr⟩ := h
  have heq : atomicResp pkt s = (s.unasked id).planAnswered ctx (pkt.data.take 8) := by
    rw [atomicResp, State.typed_own _ ht hd, hr]
    dsimp only
    rw [hi]
    rfl
  refine ⟨_, congrArg Host.Outcome.next (State.outside_of_dir_eq heq (by rw [State.planAnswered_l2]; rfl) (by rw [State.planAnswered_l2]; exact hrf)), ?_,
    State.planAnswered_plan (s := s.unasked id) hp hw _, ?_⟩
  · rw [State.planAnswered_fab]
    exact s.unasked_reqs id
  · rw [State.planAnswered_mem]
    rfl

theorem State.atomOld_waits {i th old : Nat} {a : Atom} (hl : s.l2.atoms.get? i = some a) (hx : ∃ x ∈ a.accs, x.thread ≠ th ∧ a.olds.has x.thread = false) :
    s.atomOld i th old = { s with l2.atoms := s.l2.atoms.put i { a with olds := a.olds.put th old, sent := clrBit a.sent th } } := by
  obtain ⟨x, hm, hne, hno⟩ := hx
  rw [State.atomOld, hl]
  refine if_neg fun hall => ?_
  have hhas := List.all_eq_true.mp hall x hm
  rw [SMap.has] at hno
  rw [SMap.has, SMap.get?_put_ne _ _ hne, hno] at hhas
  exact Bool.false_ne_true hhas

theorem answers_atom {i th : Nat} {a : Atom} (hrf : s.l2.refused = none) (h : s.responds pkt 0x13 id r) (hi : r.issuer = .atom i th) (hl : s.l2.atoms.get? i = some a)
    (hx : ∃ x ∈ a.accs, x.thread ≠ th ∧ a.olds.has x.thread = false) :
    ∃ t b, exec (.atomicResp pkt) s = .next t ∧ t.l2.atoms.get? i = some b ∧ b.olds.get? th = some (fieldAt pkt.data 0 8) ∧ b.accs = a.accs ∧ t.mem = s.mem := by
  obtain ⟨ht, hd, hr⟩ := h
  have heq : ∃ u : State, atomicResp pkt s = u.atomOld i th (fieldAt pkt.data 0 8) ∧ u.l2 = s.l2 ∧ u.mem = s.mem := by
    rw [atomicResp, State.typed_own _ ht hd, hr]
    simp only [hi, hl]
    split
    · exact ⟨_, rfl, rfl, rfl⟩
    · exact ⟨_, rfl, rfl, rfl⟩
  obtain ⟨u, hu, hul2, humem⟩ := heq
  have hold := State.atomOld_waits (s := u) (old := fieldAt pkt.data 0 8) (by rw [hul2]; exact hl) hx
  refine ⟨_, _, congrArg Host.Outcome.next (State.outside_of_dir_eq (hu.trans hold) ?_ ?_), SMap.get?_put_self _ _ _, SMap.get?_put_self _ _ _, rfl, humem⟩
  · exact Eq.trans (b := u.l2.dir) rfl (congrArg L2.dir hul2)
  · exact Eq.trans (b := u.l2.refused) rfl ((congrArg L2.refused hul2).trans hrf)

end

end Sys2Proof.Machine
end

section
/-! Settling O47: sync responses, messages of tied members and collectives (R230, R303, R369, R370). -/

namespace Sys2Proof.Machine

section
variable {s : State} {pkt : Packet}

/-! Sync responses and releases. -/

/-- A wait of this chip that stands registered at another chip's object. -/
def State.waitsFar (s : State) (key : Nat) (w : Waiter) : State := { s with fab.remoteWaits := s.fab.remoteWaits.put key w }

theorem syncResp_of {id : Nat} {r : Req} {who : WaiterWho} {w : Bool} {sc : Nat} (h : s.responds pkt 0x14 id r) (hi : r.issuer = .sync who w sc) (hop : pkt.op = 0) :
    syncResp pkt s = if w then (s.unasked id).waitsFar (windowKey pkt.src pkt.seq)
        { who := who, queue := r.queue, op := r.pkt.op, value := fieldAt r.pkt.data 0 8, scope := sc }
      else (s.unasked id).deliver { who := who, queue := r.queue, status := pkt.addr, isWait := false, scope := sc } := by
  obtain ⟨ht, hd, hr⟩ := h
  rw [syncResp, if_neg (fun hx => hx hop), State.typed_own _ ht hd, hr]
  dsimp only
  rw [hi]
  rfl

theorem registers_far {id : Nat} {r : Req} {who : WaiterWho} {w : Bool} {sc : Nat} (h : s.responds pkt 0x14 id r) (hi : r.issuer = .sync who w sc) (hop : pkt.op = 0) (hw : w = true) :
    ∃ t, exec (.syncResp pkt) s = .next t ∧ t.fab.reqs.get? id = none ∧ t.fab.remoteWaits.get? (windowKey pkt.src pkt.seq) =
      some { who := who, queue := r.queue, op := r.pkt.op, value := fieldAt r.pkt.data 0 8, scope := sc } ∧ t.fe = s.fe ∧ t.cores = s.cores := by
  have heq := syncResp_of h hi hop
  rw [if_pos hw] at heq
  exact ⟨_, congrArg Host.Outcome.next heq, s.unasked_reqs id, SMap.get?_put_self _ _ _, rfl, rfl⟩

/-- A release of a node that is no COPY, with no error, completes the node. -/
theorem State.releaseNode_done {r : SynRelease} {node : Nat} {n : Node} (hn : s.fe.nodes.get? node = some n) (hty : n.type ≠ 2) (hr : ¬ (r.isWait = true ∧ r.status % 256 ≠ 0)) :
    s.releaseNode r node = s.nodeDone node := by
  rw [State.releaseNode, hn]
  exact (if_neg hr).trans (if_neg hty)

theorem responds_node {id : Nat} {r : Req} {who : WaiterWho} {w : Bool} {sc node : Nat} {n : Node} (h : s.responds pkt 0x14 id r) (hi : r.issuer = .sync who w sc) (hop : pkt.op = 0)
    (hw : w = false) (hwho : who = .node node) (hn : s.fe.nodes.get? node = some n) (hty : n.type ≠ 2) :
    ∃ t, exec (.syncResp pkt) s = .next t ∧ t.fab.reqs.get? id = none ∧ t.fe.nodes.get? node = some { n with done := true } ∧ t.mem = s.mem := by
  have hdel : (s.unasked id).deliver { who := who, queue := r.queue, status := pkt.addr, isWait := false, scope := sc } = (s.unasked id).nodeDone node := by
    rw [hwho]
    exact State.releaseNode_done (s := s.unasked id) hn hty (fun hx => Bool.false_ne_true hx.1)
  have heq := syncResp_of h hi hop
  rw [if_neg (by rw [hw]; decide), hdel] at heq
  exact ⟨_, congrArg Host.Outcome.next heq, s.unasked_reqs id, State.nodeDone_node (s := s.unasked id) hn, rfl⟩

/-- A wait on another chip's object that has ended. -/
def State.unwaited (s : State) (key : Nat) : State := { s with fab.remoteWaits := s.fab.remoteWaits.del key }

theorem syncRelease_node {w : Waiter} {node : Nat} (ht : pkt.type = 0x14) (hd : pkt.dst = s.fab.chipId) (hop : pkt.op = 1)
    (hw : s.fab.remoteWaits.get? (windowKey pkt.src pkt.seq) = some w) (hwho : w.who = .node node) :
    syncRelease pkt s = (s.unwaited (windowKey pkt.src pkt.seq)).releaseNode { who := .node node, queue := w.queue, status := pkt.addr, isWait := true, scope := w.scope } node := by
  rw [syncRelease, if_neg (fun hx => hx hop), State.typed_own _ ht hd, hw]
  dsimp only
  rw [hwho]
  rfl

theorem releases_node {w : Waiter} {node : Nat} {n : Node} (ht : pkt.type = 0x14) (hd : pkt.dst = s.fab.chipId) (hop : pkt.op = 1)
    (hw : s.fab.remoteWaits.get? (windowKey pkt.src pkt.seq) = some w) (hwho : w.who = .node node) (hn : s.fe.nodes.get? node = some n) (hty : n.type ≠ 2) :
    (pkt.addr % 256 = 0 → ∃ t, exec (.syncRelease pkt) s = .next t ∧ t.fab.remoteWaits.get? (windowKey pkt.src pkt.seq) = none ∧
      t.fe.nodes.get? node = some { n with done := true } ∧ t.mem = s.mem) ∧
    (pkt.addr % 256 ≠ 0 → (s.q n.queue).state.alive = true → ∃ t, exec (.syncRelease pkt) s = .next t ∧
      t.fab.remoteWaits.get? (windowKey pkt.src pkt.seq) = none ∧ Killed t n.queue 0x09) := by
  have heq := syncRelease_node ht hd hop hw hwho
  refine ⟨fun h0 => ?_, fun h0 ha => ?_⟩
  · rw [State.releaseNode_done (s := s.unwaited _) hn hty (fun hx => hx.2 h0)] at heq
    exact ⟨_, congrArg Host.Outcome.next heq, SMap.get?_del_self _ _, State.nodeDone_node (s := s.unwaited _) hn, rfl⟩
  · generalize hu : s.unwaited (windowKey pkt.src pkt.seq) = u at heq
    have hun : u.fe.nodes.get? node = some n := by rw [← hu]; exact hn
    have huq : (u.q n.queue).state.alive = true := by rw [← hu]; exact ha
    have hug : u.fab.remoteWaits.get? (windowKey pkt.src pkt.seq) = none := by rw [← hu]; exact SMap.get?_del_self _ _
    have hkill : syncRelease pkt s = State.kill { u with fe.nodes := u.fe.nodes.put node { n with status := .skipped } } n.queue 0x09 n.site := by
      rw [heq, State.releaseNode, hun]
      exact if_pos ⟨rfl, h0⟩
    obtain ⟨hk, -⟩ := State.kill_alive (s := { u with fe.nodes := u.fe.nodes.put node { n with status := .skipped } }) (q := n.queue) 0x09 n.site huq
    refine ⟨_, congrArg Host.Outcome.next hkill, ?_, congrArg Queue.state hk, congrArg Queue.killCode hk⟩
    rw [State.kill_fab]
    exact hug

/-! Messages of tied members. -/

/-- A message after which every held request's entry is as busy as before makes no request again. -/
theorem cohMsgIn_of {t : State} (heq : Sys2Proof.Machine.cohMsg pkt s = t) (hb : ∀ id ∈ s.heldBusy, id ∈ t.heldBusy) : exec (.cohMsg pkt) s = .next t := by
  have hnone : s.heldBusy.filter (fun id => !t.heldBusy.contains id) = [] :=
    List.filter_eq_nil_iff.mpr fun id hid => by rw [List.contains_iff_mem.mpr (hb id hid)]; decide
  refine congrArg Host.Outcome.next ?_
  rw [cohMsgIn, heq, hnone]
  rfl

theorem invalidates_copies {line : Nat} (ht : pkt.type = 0x15) (hd : pkt.dst = s.fab.chipId) (hl : line = pkt.addr % 2 ^ 48 / 128) (hop : pkt.op = 0) :
    ∃ t p, exec (.cohMsg pkt) s = .next t ∧ t.fab.answers = s.fab.answers ++ [p] ∧ p.type = 0x15 ∧ p.op = 3 ∧ p.dst = pkt.src ∧ p.addr = 128 * line ∧
      (∀ sl, t.l2.tied.get? ((sl * 4096 + pkt.src % 4096) * 2 ^ 41 + line) = none) ∧ t.mem = s.mem := by
  have heq : Sys2Proof.Machine.cohMsg pkt s = (s.dropTied pkt.src line).cohMsg pkt.src pkt.seq 3 (128 * line) [] 0 := by
    rw [Sys2Proof.Machine.cohMsg, State.typed_own _ ht hd, hl]
    exact if_pos hop
  refine ⟨_, _, cohMsgIn_of heq (fun _ h => h), rfl, rfl, rfl, rfl, rfl, fun sl => ?_, rfl⟩
  refine (get?_keep s.l2.tied (fun k => !decide (k % 2 ^ 53 = pkt.src % 4096 * 2 ^ 41 + line)) _).trans (if_neg ?_)
  have hlt : line < 2 ^ 41 := by omega
  rw [decide_eq_true (show ((sl * 4096 + pkt.src % 4096) * 2 ^ 41 + line) % 2 ^ 53 = pkt.src % 4096 * 2 ^ 41 + line by omega)]
  decide

theorem clrBit_self (b : Nat) : clrBit (2 ^ b) b = 0 := by rw [clrBit, if_pos (bit_two_pow_self b), Nat.sub_self]

theorem State.copyGone_last {line b : Nat} {d : Dir} (hd : s.l2.dir.get? line = some d) (hs : d.state = .sh) (hsh : d.sharers = 2 ^ b) :
    s.copyGone line b = { s with l2.dir := (s.l2.dir.put line { d with sharers := 0, state := .h }).put line { d with sharers := 0, state := .h, busy := none } } := by
  have hdrop : s.dropSharer line b = { s with l2.dir := s.l2.dir.put line { d with sharers := 0, state := .h } } := by
    rw [State.dropSharer, hd]
    dsimp only
    rw [hs, hsh, clrBit_self]
    rfl
  rw [State.copyGone, hdrop]
  dsimp only
  rw [SMap.get?_put_self]
  exact if_pos (Nat.zero_div _)

theorem mem_vals_put_of_ne {α : Type} {m : SMap α} {i : Nat} {v w : α} (h : w ∈ m.vals) : w ∈ (m.put i v).vals ∨ m.get? i = some w := by
  induction m with
  | nil => exact absurd h List.not_mem_nil
  | cons e m ih =>
    obtain ⟨k, u⟩ := e
    rw [SMap.put]
    rcases List.mem_cons.mp h with rfl | hm
    · split
      · exact .inl (List.mem_cons_of_mem _ List.mem_cons_self)
      · split
        · next hi => exact .inr (if_pos hi)
        · exact .inl List.mem_cons_self
    · split
      · exact .inl (List.mem_cons_of_mem _ (List.mem_cons_of_mem _ hm))
      · split
        · exact .inl (List.mem_cons_of_mem _ hm)
        · next hi =>
          rcases ih hm with h | h
          · exact .inl (List.mem_cons_of_mem _ h)
          · exact .inr ((if_neg hi).trans h)

theorem mem_heldBusy {id : Nat} : id ∈ s.heldBusy ↔ ∃ d ∈ s.l2.dir.vals, ∃ a, d.busy = some (a, .held id) := by
  rw [State.heldBusy, List.mem_filterMap]
  refine exists_congr fun d => and_congr_right fun _ => ⟨fun h => ?_, fun ⟨a, h⟩ => by rw [h]⟩
  split at h
  · next a i hb =>
    cases h
    exact ⟨a, hb⟩
  · cases h

theorem heldBusy_put {line id : Nat} {d e : Dir} (hd : s.l2.dir.get? line = some d) (hb : ∀ at_ i, d.busy ≠ some (at_, .held i)) {t : State} (ht : t.l2.dir = s.l2.dir.put line e)
    (h : id ∈ s.heldBusy) : id ∈ t.heldBusy := by
  obtain ⟨x, hx, a, ha⟩ := mem_heldBusy.mp h
  rcases mem_vals_put_of_ne (i := line) (v := e) hx with hin | hg
  · exact mem_heldBusy.mpr ⟨x, by rw [ht]; exact hin, a, ha⟩
  · rw [hd] at hg
    cases hg
    exact absurd ha (hb a id)

theorem put_put {α : Type} (m : SMap α) (i : Nat) (v w : α) : (m.put i v).put i w = m.put i w := by
  induction m with
  | nil => simp [SMap.put]
  | cons e m ih =>
    obtain ⟨k, u⟩ := e
    by_cases h1 : i < k
    · simp [SMap.put, h1]
    · by_cases h2 : i = k
      · simp [SMap.put, h2]
      · simp [SMap.put, h1, h2, ih]

theorem clears_sharer {line b : Nat} {d : Dir} (ht : pkt.type = 0x15) (hdst : pkt.dst = s.fab.chipId) (hl : line = pkt.addr % 2 ^ 48 / 128) (hop : pkt.op = 3)
    (htie : s.tieBit pkt.src = some b) (hd : s.l2.dir.get? line = some d) (hs : d.state = .sh) (hsh : d.sharers = 2 ^ b) (hb : ∀ at_ i, d.busy ≠ some (at_, .held i)) :
    ∃ t e, exec (.cohMsg pkt) s = .next t ∧ t.l2.dir.get? line = some e ∧ e.sharers = 0 ∧ e.state = .h ∧ e.busy = none ∧ e.data = d.data ∧ t.mem = s.mem := by
  have heq : Sys2Proof.Machine.cohMsg pkt s = { s with l2.dir := s.l2.dir.put line { d with sharers := 0, state := .h, busy := none } } := by
    rw [Sys2Proof.Machine.cohMsg, State.typed_own _ ht hdst, ← hl]
    refine (if_neg (by omega)).trans ((if_pos hop).trans ?_)
    rw [htie]
    dsimp only
    rw [State.copyGone_last hd hs hsh, put_put]
  exact ⟨_, _, cohMsgIn_of heq (fun id h => heldBusy_put hd hb rfl h), SMap.get?_put_self _ _ _, rfl, rfl, rfl, rfl, rfl⟩

/-! Collectives. -/

theorem results_collective {g : Nat} {c : Coll} {l : List Nat} (hrf : s.l2.refused = none) (ht : pkt.type = 0x16) (hd : pkt.dst = s.fab.chipId) (hop : pkt.op = 0)
    (hc : s.fab.colls.get? g = some c) (hrank : grpRank (s.groupEntry g) ≠ 0) (hp : grpChip (s.groupEntry g) (rankParent (grpRank (s.groupEntry g))) = pkt.src)
    (hup : c.up = some l)
    (hlt : (joinParts (c.result.put (pkt.addr / 512) ((dataElems pkt 0 128).take (c.head.resultLen (grpMembers (s.groupEntry g)) - 128 * (pkt.addr / 512))))).length <
      c.head.resultLen (grpMembers (s.groupEntry g))) :
    ∃ t x, exec (.collectResult pkt g) s = .next t ∧ t.fab.colls.get? g = some x ∧ x.result.get? (pkt.addr / 512) =
      some ((dataElems pkt 0 128).take (c.head.resultLen (grpMembers (s.groupEntry g)) - 128 * (pkt.addr / 512))) ∧ t.mem = s.mem := by
  generalize hv : (dataElems pkt 0 128).take (c.head.resultLen (grpMembers (s.groupEntry g)) - 128 * (pkt.addr / 512)) = v at hlt ⊢
  have hnot : (s.putColl g { c with result := c.result.put (pkt.addr / 512) v }).collComplete g { c with result := c.result.put (pkt.addr / 512) v } = false := by
    have hne : ¬ (joinParts (c.result.put (pkt.addr / 512) v)).length = c.head.resultLen (grpMembers (s.groupEntry g)) := by omega
    refine Eq.trans ?_ (Bool.and_false (c.up.isSome && !(c.result.put (pkt.addr / 512) v).isEmpty))
    rw [← decide_eq_false hne]
    rfl
  have heq : collectResult pkt g s = s.putColl g { c with result := c.result.put (pkt.addr / 512) v } := by
    rw [collectResult, State.typed_own _ ht hd, hc]
    dsimp only
    rw [if_neg (fun hx => ?_), hv, if_neg (by rw [hnot]; decide)]
    rw [hup] at hx
    rcases hx with hx | hx | hx | hx
    · exact hx hop
    · exact hrank hx
    · exact hx hp
    · exact Bool.false_ne_true hx
  exact ⟨_, _, congrArg Host.Outcome.next (State.outside_of_dir_eq heq rfl hrf), SMap.get?_put_self _ _ _, SMap.get?_put_self _ _ _, rfl⟩

theorem State.pushFab_colls (s : State) (rec : Nat) : (s.pushFab rec).fab.colls = s.fab.colls := by
  rw [State.pushFab]
  dsimp only
  split
  · rfl
  · rw [State.raiseFab_status]

theorem State.pushFab_bit {n : Nat} (s : State) (rec : Nat) (h : bit s.fab.status n = true) : bit (s.pushFab rec).fab.status n = true := by
  rw [State.pushFab]
  dsimp only
  split
  · exact h
  · rw [State.raiseFab_status, bit_setBit, h, Bool.or_true]

/-- The end of a collective with a code. -/
theorem State.collEnd_effect (s : State) {g code : Nat} (abort : Bool) (hc : code ≠ 0) :
    (s.collEnd g code abort).fab.colls.get? g = none ∧ bit (s.collEnd g code abort).fab.status 5 = true ∧ (s.collEnd g code abort).fe = s.fe ∧
      (abort = true → (s.collEnd g code abort).num (E.cgroupState + g) = 2) := by
  generalize hu : ({ s with fab.colls := s.fab.colls.del g, fab.collOps := s.fab.collOps.put g (s.fab.collOps.getD g 0 + 1) } : State) = u
  have hug : u.fab.colls.get? g = none := by rw [← hu]; exact SMap.get?_del_self _ _
  have hufe : u.fe = s.fe := by rw [← hu]
  have heq : s.collEnd g code abort = if abort then ((u.raiseFab 5).pushFab (fabRec 6 0 0 0 0 g)).setNum (E.cgroupState + g) 2 else (u.raiseFab 5).pushFab (fabRec 6 0 0 0 0 g) := by
    rw [State.collEnd, hu]
    exact if_neg hc
  have hcolls : ((u.raiseFab 5).pushFab (fabRec 6 0 0 0 0 g)).fab.colls = u.fab.colls := by
    rw [State.pushFab_colls, State.raiseFab_status]
  have hbit : bit ((u.raiseFab 5).pushFab (fabRec 6 0 0 0 0 g)).fab.status 5 = true := by
    refine State.pushFab_bit _ _ ?_
    rw [State.raiseFab_status]
    exact (bit_setBit _ _ _).trans (by rw [decide_eq_true rfl, Bool.true_or])
  have hfe : ((u.raiseFab 5).pushFab (fabRec 6 0 0 0 0 g)).fe = s.fe := by simp [hufe]
  rw [heq]
  split
  · refine ⟨by simpa [hcolls] using hug, ?_, by simpa using hfe, fun _ => State.num_setNum_self _ _ _ _⟩
    rw [State.setNum_fab]
    exact hbit
  · next ha => exact ⟨by rw [hcolls]; exact hug, hbit, hfe, fun h => absurd h ha⟩

/-- A kill moves no count but those of the killed contexts. -/
theorem State.kill_num {q code a : Nat} (s : State) (site : Site) (ha : a ≠ E.contextsKilled) (hb : code ≤ 0x11 → a ≠ E.killsByCode + code - 1) :
    (s.kill q code site).num a = s.num a := by
  have hcount : ∀ u : State, (u.countKill code).num a = u.num a := fun u => by
    rw [State.countKill]
    split
    · next hc => rw [State.addNum, State.num_setNum_of_ne _ _ (hb hc.2), State.addNum, State.num_setNum_of_ne _ _ ha]
    · rw [State.addNum, State.num_setNum_of_ne _ _ ha]
  have hmarks : ∀ f : Queue → Queue, (((s.modQ q f).countKill code).stopShares (fun k => decide (k = q))).mgt = ((s.modQ q f).countKill code).mgt := fun f =>
    State.stopShares_mgt _ _
  rw [State.kill]
  dsimp only
  split
  · exact (State.num_of_mgt_num (congrArg Mgt.num ((State.traceFe_mgt _ _ _ _ _ _ _).trans (hmarks _))) _ _).trans ((hcount _).trans rfl)
  · split
    · rfl
    · rfl

theorem State.groupEntry_lt {g : Nat} (h : s.groupEntry g ≠ []) : g < 1024 := by
  by_contra hg
  exact h (if_neg hg)

theorem aborts_collective {g id q : Nat} {c : Coll} (ht : pkt.type = 0x16) (hd : pkt.dst = s.fab.chipId) (hop : 0x80 < pkt.op)
    (hsrc : pkt.src ∈ grpOthers (s.groupEntry g)) (hc : s.fab.colls.get? g = some c) (hn : c.node = some (id, q)) (ha : (s.q q).state.alive = true) :
    ∃ t, exec (.collectAbort pkt g) s = .next t ∧ Killed t q (pkt.op - 0x80) ∧ t.fab.colls.get? g = none ∧ bit t.fab.status 5 = true ∧
      (pkt.op = 0x89 → t.num (E.cgroupState + g) = 2) ∧ t.mem = s.mem := by
  have heq : collectAbort pkt g s = (s.collEnd g (pkt.op - 0x80) (decide (pkt.op - 0x80 = 0x09))).killAt q (pkt.op - 0x80) id := by
    have hget : s.fab.colls.getD g Coll.empty = c := by rw [SMap.getD, hc]
    rw [collectAbort, State.typed_own _ ht hd]
    dsimp only
    rw [if_neg (fun hx => ?_), hget, if_pos (by rw [hn]; rfl), State.collKill, hc]
    · dsimp only
      rw [hn]
    · rw [List.contains_iff_mem.mpr hsrc] at hx
      rcases hx with hx | hx
      · omega
      · exact Bool.false_ne_true hx
  obtain ⟨hcolls, hbit, hfe, hnum⟩ := s.collEnd_effect (g := g) (decide (pkt.op - 0x80 = 0x09)) (show pkt.op - 0x80 ≠ 0 by omega)
  obtain ⟨hk, -, hmem, -, -⟩ := State.killAt_alive (s := s.collEnd g (pkt.op - 0x80) (decide (pkt.op - 0x80 = 0x09))) (pkt.op - 0x80) id (by rw [State.q_congr hfe]; exact ha)
  refine ⟨_, congrArg Host.Outcome.next heq, hk, ?_, ?_, fun h9 => ?_, hmem.trans (State.collEnd_mem _ _ _ _)⟩
  · rw [State.killAt, State.kill_fab]
    exact hcolls
  · rw [State.killAt, State.kill_fab]
    exact hbit
  · have hg : g < 1024 := State.groupEntry_lt fun hx => by
      rw [hx] at hsrc
      exact List.not_mem_nil hsrc
    rw [State.killAt, State.kill_num _ _ (by simp only [E.cgroupState, E.contextsKilled]; omega) fun _ => by simp only [E.cgroupState, E.killsByCode]; omega]
    exact hnum (by rw [h9]; decide)

end

/-- Settles O47: each response ends the request that it answers, a release the wait, and a result or an abort the collective. -/
theorem responsesToThisChip : Obligations.ResponsesToThisChip := by
  unfold Obligations.ResponsesToThisChip
  refine ⟨?c1, ?c2, ?c3, ?c4, ?c5, ?c6, ?c7, ?c8, ?c9, ?c10⟩
  case c1 => exact fun s pkt id ctx r p => reads_plan
  case c2 => exact fun s pkt id i key r l => reads_load
  case c3 => exact fun s pkt id c slot pc r => reads_code
  case c4 => exact fun s pkt id r hrf h => ⟨fun node n => acks_mark hrf h, fun c seq => acks_store hrf h, fun who w sc => acks_code hrf h⟩
  case c5 => exact fun s pkt id r hrf h => ⟨fun ctx p => answers_plan hrf h, fun i th a => answers_atom hrf h⟩
  case c6 => exact fun s pkt id r who w sc h hi => ⟨registers_far h hi, fun node n => responds_node h hi⟩
  case c7 => exact fun s pkt w node n => releases_node
  case c8 => exact fun s pkt line ht hd hl => ⟨invalidates_copies ht hd hl, fun b d => clears_sharer ht hd hl⟩
  case c9 => exact fun s pkt g id q c l hrf ht hd hop hc hrank hp hup _ => results_collective hrf ht hd hop hc hrank hp hup
  case c10 => exact fun s pkt g id q c => aborts_collective

end Sys2Proof.Machine
end

section
/-! Device memory in canonical form: the rule for each way in which a piece of work makes a state of another (R47, R57). -/

namespace Sys2Proof.Machine

section
variable {α β : Type} {s : State}

/-! Changes that leave memory alone, and choices. -/

theorem State.memInv.upd {a₁ a₂ a₃ a₄ a₅ a₆ a₇ a₈ a₉ a₁₀ a₁₁ a₁₂ a₁₃ a₁₄ a₁₅ a₁₆ a₁₉ a₂₀} (h : s.memInv) :
    (State.mk a₁ a₂ a₃ a₄ a₅ a₆ a₇ a₈ a₉ a₁₀ a₁₁ a₁₂ a₁₃ a₁₄ a₁₅ a₁₆ s.mem s.poison a₁₉ a₂₀).memInv := h

theorem State.memInv.blank {a₁ a₂ a₃ a₄ a₅ a₆ a₇ a₈ a₉ a₁₀ a₁₁ a₁₂ a₁₃ a₁₄ a₁₅ a₁₆ a₁₉ a₂₀} :
    (State.mk a₁ a₂ a₃ a₄ a₅ a₆ a₇ a₈ a₉ a₁₀ a₁₁ a₁₂ a₁₃ a₁₄ a₁₅ a₁₆ [] [] a₁₉ a₂₀).memInv := ⟨rfl, .nil⟩

section
variable {c : Prop} [Decidable c]

theorem State.memInv.ite {a b : State} (ha : a.memInv) (hb : b.memInv) : (if c then a else b).memInv := by
  split
  · exact ha
  · exact hb

theorem State.memInv.ite_fst {a b : State × α} (ha : a.1.memInv) (hb : b.1.memInv) : (if c then a else b).1.memInv := by
  split
  · exact ha
  · exact hb

theorem State.memInv.ite_snd {a b : α × State} (ha : a.2.memInv) (hb : b.2.memInv) : (if c then a else b).2.memInv := by
  split
  · exact ha
  · exact hb

theorem State.memInv.ite_snd₂ {a b : α × β × State} (ha : a.2.2.memInv) (hb : b.2.2.memInv) : (if c then a else b).2.2.memInv := by
  split
  · exact ha
  · exact hb

end

theorem State.memInv.pair {a : α} (h : s.memInv) : (a, s).2.memInv := h

theorem State.memInv.foldl {l : List α} {g : State → α → State} (hg : ∀ u a, u.memInv → (g u a).memInv) (h : s.memInv) : (l.foldl g s).memInv := by
  induction l generalizing s with
  | nil => exact h
  | cons a l ih => exact ih (hg s a h)

theorem State.memInv.foldl_snd {l : List α} {g : β × State → α → β × State} {p : β × State} (hg : ∀ u a, u.2.memInv → (g u a).2.memInv) (h : p.2.memInv) :
    (l.foldl g p).2.memInv := by
  induction l generalizing p with
  | nil => exact h
  | cons a l ih => exact ih (hg p a h)

/-! A result that there may be. -/

/-- The state of a result, if there is one, keeps memory canonical. -/
def keptIfAny : Option State → Prop
  | none => True
  | some s => s.memInv

/-- The state beside a result, if there is one, keeps memory canonical. -/
def keptBeside : Option (α × State) → Prop
  | none => True
  | some p => p.2.memInv

theorem keptIfAny.none : keptIfAny none := trivial

theorem keptIfAny.some (h : s.memInv) : keptIfAny (some s) := h

theorem keptIfAny.ite {c : Prop} [Decidable c] {a b : Option State} (ha : keptIfAny a) (hb : keptIfAny b) : keptIfAny (if c then a else b) := by
  split
  · exact ha
  · exact hb

theorem keptBeside.none : keptBeside (none : Option (α × State)) := trivial

theorem keptBeside.some {p : α × State} (h : p.2.memInv) : keptBeside (some p) := h

theorem keptBeside.ite {c : Prop} [Decidable c] {a b : Option (α × State)} (ha : keptBeside a) (hb : keptBeside b) : keptBeside (if c then a else b) := by
  split
  · exact ha
  · exact hb

/-! A piece of a newt's work. -/

/-- The state that a piece of work leaves keeps memory canonical, whether it was done or ended with a status. -/
def Nk.kept : Nk α → Prop
  | .ok _ s | .bad _ s => s.memInv

theorem Nk.kept.ok {a : α} (h : s.memInv) : (Nk.ok a s).kept := h

theorem Nk.kept.bad {n : Nat} (h : s.memInv) : (Nk.bad n s : Nk α).kept := h

theorem Nk.kept.ite {c : Prop} [Decidable c] {a b : Nk α} (ha : a.kept) (hb : b.kept) : (if c then a else b).kept := by
  split
  · exact ha
  · exact hb

theorem Nk.kept.bind {x : Nk α} {g : α → State → Nk β} (h : x.kept) (hg : ∀ a u, u.memInv → (g a u).kept) : (x.bind g).kept := by
  cases x with
  | ok a s => exact hg a s h
  | bad n s => exact h

theorem Nk.kept.need {b : Bool} {n : Nat} (h : s.memInv) : (need b n s).kept := .ite h h

theorem Nk.kept.nkFold {g : β → α → State → Nk β} {l : List α} {b : β} (hg : ∀ b a u, u.memInv → (g b a u).kept) (h : s.memInv) : (nkFold g l b s).kept := by
  induction l generalizing b s with
  | nil => exact h
  | cons a l ih => exact .bind (hg b a s h) fun _ _ hu => ih hu

theorem Nk.kept.nkEach {g : α → State → Nk Unit} {l : List α} (hg : ∀ a u, u.memInv → (g a u).kept) (h : s.memInv) : (nkEach g l s).kept :=
  .nkFold (fun _ a u hu => hg a u hu) h

/-! The other results that hold a state. -/

/-- The state that a fetch leaves, where it leaves one, keeps memory canonical. -/
def Fetched.kept : Fetched → Prop
  | .word _ s | .sent s => s.memInv
  | .fault _ | .wait => True

theorem Fetched.kept.at {x y : Fetched} (e : x = y) (h : x.kept) : y.kept := e ▸ h

theorem Fetched.kept.ite {c : Prop} [Decidable c] {a b : Fetched} (ha : a.kept) (hb : b.kept) : (if c then a else b).kept := by
  split
  · exact ha
  · exact hb

theorem Fetched.kept.word {w : Nat} (h : s.memInv) : (Fetched.word w s).kept := h

theorem Fetched.kept.fault {code : Nat} : (Fetched.fault code).kept := trivial

theorem Fetched.kept.wait : (Fetched.wait).kept := trivial

theorem Fetched.kept.sent (h : s.memInv) : (Fetched.sent s).kept := h

/-- The state that an atomic leaves, where it leaves one, keeps memory canonical. -/
def AtomOut.kept : AtomOut → Prop
  | .old _ s => s.memInv
  | .poison | .nack => True

theorem AtomOut.kept.at {x y : AtomOut} (e : x = y) (h : x.kept) : y.kept := e ▸ h

theorem AtomOut.kept.ite {c : Prop} [Decidable c] {a b : AtomOut} (ha : a.kept) (hb : b.kept) : (if c then a else b).kept := by
  split
  · exact ha
  · exact hb

theorem AtomOut.kept.old {v : Nat} (h : s.memInv) : (AtomOut.old v s).kept := h

theorem AtomOut.kept.poison : (AtomOut.poison).kept := trivial

theorem AtomOut.kept.nack : (AtomOut.nack).kept := trivial

/-- The state that a read of the predecessor table leaves, where it leaves one, keeps memory canonical. -/
def ExtGot.kept : ExtGot → Prop
  | .wait s => s.memInv
  | .ok _ _ => True

theorem ExtGot.kept.at {x y : ExtGot} (e : x = y) (h : x.kept) : y.kept := e ▸ h

theorem ExtGot.kept.ite {c : Prop} [Decidable c] {a b : ExtGot} (ha : a.kept) (hb : b.kept) : (if c then a else b).kept := by
  split
  · exact ha
  · exact hb

theorem ExtGot.kept.ok {l : List Nat} {check : Nat} : (ExtGot.ok l check).kept := trivial

theorem ExtGot.kept.wait (h : s.memInv) : (ExtGot.wait s).kept := h

/-- The state that a read of a graph node leaves, where it leaves one, keeps memory canonical. -/
def NodeGot.kept : NodeGot → Prop
  | .got _ s | .wait s => s.memInv

theorem NodeGot.kept.at {x y : NodeGot} (e : x = y) (h : x.kept) : y.kept := e ▸ h

theorem NodeGot.kept.ite {c : Prop} [Decidable c] {a b : NodeGot} (ha : a.kept) (hb : b.kept) : (if c then a else b).kept := by
  split
  · exact ha
  · exact hb

theorem NodeGot.kept.got {n : Node} (h : s.memInv) : (NodeGot.got n s).kept := h

theorem NodeGot.kept.wait (h : s.memInv) : (NodeGot.wait s).kept := h

/-- The state that a pin leaves, where it leaves one, keeps memory canonical. -/
def Pinned.kept : Pinned → Prop
  | .ok _ s | .bad _ _ s | .wait s => s.memInv

theorem Pinned.kept.at {x y : Pinned} (e : x = y) (h : x.kept) : y.kept := e ▸ h

theorem Pinned.kept.ite {c : Prop} [Decidable c] {a b : Pinned} (ha : a.kept) (hb : b.kept) : (if c then a else b).kept := by
  split
  · exact ha
  · exact hb

theorem Pinned.kept.ok {g : Graph} (h : s.memInv) : (Pinned.ok g s).kept := h

theorem Pinned.kept.bad {code : Nat} {edition : Option Nat} (h : s.memInv) : (Pinned.bad code edition s).kept := h

theorem Pinned.kept.wait (h : s.memInv) : (Pinned.wait s).kept := h

/-- The state that a move of bytes leaves, where it leaves one, keeps memory canonical. -/
def Moved.kept : Moved → Prop
  | .ok s | .bad _ s => s.memInv
  | .remote | .wait => True

theorem Moved.kept.at {x y : Moved} (e : x = y) (h : x.kept) : y.kept := e ▸ h

theorem Moved.kept.ite {c : Prop} [Decidable c] {a b : Moved} (ha : a.kept) (hb : b.kept) : (if c then a else b).kept := by
  split
  · exact ha
  · exact hb

theorem Moved.kept.ok (h : s.memInv) : (Moved.ok s).kept := h

theorem Moved.kept.bad {code : Nat} (h : s.memInv) : (Moved.bad code s).kept := h

theorem Moved.kept.remote : (Moved.remote).kept := trivial

theorem Moved.kept.wait : (Moved.wait).kept := trivial

/-- The state that a read of a contribution leaves, where it leaves one, keeps memory canonical. -/
def CollGot.kept : CollGot → Prop
  | .ok _ s => s.memInv
  | .bad _ | .wait => True

theorem CollGot.kept.at {x y : CollGot} (e : x = y) (h : x.kept) : y.kept := e ▸ h

theorem CollGot.kept.ite {c : Prop} [Decidable c] {a b : CollGot} (ha : a.kept) (hb : b.kept) : (if c then a else b).kept := by
  split
  · exact ha
  · exact hb

theorem CollGot.kept.ok {l : List (Byte × Bool)} (h : s.memInv) : (CollGot.ok l s).kept := h

theorem CollGot.kept.bad {code : Nat} : (CollGot.bad code).kept := trivial

theorem CollGot.kept.wait : (CollGot.wait).kept := trivial

/-- The state that a write of a result leaves, where it leaves one, keeps memory canonical. -/
def CollPut.kept : CollPut → Prop
  | .ok s | .bad _ s => s.memInv
  | .wait => True

theorem CollPut.kept.at {x y : CollPut} (e : x = y) (h : x.kept) : y.kept := e ▸ h

theorem CollPut.kept.ite {c : Prop} [Decidable c] {a b : CollPut} (ha : a.kept) (hb : b.kept) : (if c then a else b).kept := by
  split
  · exact ha
  · exact hb

theorem CollPut.kept.ok (h : s.memInv) : (CollPut.ok s).kept := h

theorem CollPut.kept.bad {code : Nat} (h : s.memInv) : (CollPut.bad code s).kept := h

theorem CollPut.kept.wait : (CollPut.wait).kept := trivial

/-- The state that a step of the skip walk leaves, where it leaves one, keeps memory canonical. -/
def Walk.kept : Walk → Prop
  | .on s | .wait s | .over s => s.memInv

theorem Walk.kept.at {x y : Walk} (e : x = y) (h : x.kept) : y.kept := e ▸ h

theorem Walk.kept.ite {c : Prop} [Decidable c] {a b : Walk} (ha : a.kept) (hb : b.kept) : (if c then a else b).kept := by
  split
  · exact ha
  · exact hb

theorem Walk.kept.on (h : s.memInv) : (Walk.on s).kept := h

theorem Walk.kept.wait (h : s.memInv) : (Walk.wait s).kept := h

theorem Walk.kept.over (h : s.memInv) : (Walk.over s).kept := h

/-- The state that an instruction of a plan leaves, where it leaves one, keeps memory canonical. -/
def RvOut.kept : RvOut → Prop
  | .next s => s.memInv
  | .call _ | .fault _ | .wait => True

theorem RvOut.kept.at {x y : RvOut} (e : x = y) (h : x.kept) : y.kept := e ▸ h

theorem RvOut.kept.ite {c : Prop} [Decidable c] {a b : RvOut} (ha : a.kept) (hb : b.kept) : (if c then a else b).kept := by
  split
  · exact ha
  · exact hb

theorem RvOut.kept.next (h : s.memInv) : (RvOut.next s).kept := h

theorem RvOut.kept.call {a7 : Nat} : (RvOut.call a7).kept := trivial

theorem RvOut.kept.fault {code : Nat} : (RvOut.fault code).kept := trivial

theorem RvOut.kept.wait : (RvOut.wait).kept := trivial

/-! A state that a match takes out of a result. -/

theorem State.memInv.of_snd {p : α × State} {a : α} (e : p = (a, s)) (h : p.2.memInv) : s.memInv := by
  rw [e] at h
  exact h

theorem State.memInv.of_snd₂ {p : α × β × State} {a : α} {b : β} (e : p = (a, b, s)) (h : p.2.2.memInv) : s.memInv := by
  rw [e] at h
  exact h

theorem State.memInv.of_some {o : Option State} (e : o = some s) (h : keptIfAny o) : s.memInv := by
  rw [e] at h
  exact h

theorem State.memInv.of_some_pair {o : Option (α × State)} {p : α × State} (e : o = some p) (h : keptBeside o) : p.2.memInv := by
  rw [e] at h
  exact h

theorem State.memInv.of_some_snd {o : Option (α × State)} {a : α} (e : o = some (a, s)) (h : keptBeside o) : s.memInv := by
  rw [e] at h
  exact h

theorem State.memInv.of_ok {x : Nk α} {a : α} (e : x = .ok a s) (h : x.kept) : s.memInv := by
  rw [e] at h
  exact h

theorem State.memInv.of_bad {x : Nk α} {n : Nat} (e : x = .bad n s) (h : x.kept) : s.memInv := by
  rw [e] at h
  exact h

/-! The operations on memory itself. -/

theorem eq_or_mem_of_mem_setInsert {i j : Nat} {l : List Nat} (h : j ∈ setInsert i l) : j = i ∨ j ∈ l := by
  induction l with
  | nil => exact List.mem_cons.mp h
  | cons k t ih =>
    rw [setInsert] at h
    split at h
    · exact List.mem_cons.mp h
    · split at h
      · exact .inr h
      · rcases List.mem_cons.mp h with rfl | h
        · exact .inr List.mem_cons_self
        · exact (ih h).imp_right (List.mem_cons_of_mem k)

theorem setInsert_sorted {i : Nat} {l : List Nat} (h : l.Pairwise (fun a b => a < b)) : (setInsert i l).Pairwise (fun a b => a < b) := by
  induction l with
  | nil => exact List.pairwise_singleton _ _
  | cons k t ih =>
    obtain ⟨hk, ht⟩ := List.pairwise_cons.mp h
    rw [setInsert]
    split
    · next hi => exact List.pairwise_cons.mpr ⟨fun j hj => (List.mem_cons.mp hj).elim (fun e => e ▸ hi) fun hj => hi.trans (hk j hj), h⟩
    · split
      · exact h
      · next h1 h2 =>
        refine List.pairwise_cons.mpr ⟨fun j hj => ?_, ih ht⟩
        rcases eq_or_mem_of_mem_setInsert hj with rfl | hj
        · omega
        · exact hk j hj

theorem State.memInv.bankGranule {pa : Nat} {data : List Byte} (h : s.memInv) : (s.bankGranule pa data).memInv := by
  obtain ⟨hm, hp⟩ := h
  rw [State.bankGranule]
  refine .ite ⟨hm, hp⟩ (.ite ?_ (.ite ⟨hm, hp⟩ ?_))
  · exact ⟨cellWrite_wf pa data hm, hp.filter _⟩
  · exact ⟨cellWrite_wf pa data hm, hp⟩

theorem State.memInv.bankPieces {k pa : Nat} {data : List Byte} (h : s.memInv) : (s.bankPieces k pa data).memInv := by
  induction k generalizing s pa data with
  | zero => exact h
  | succ k ih =>
    cases data with
    | nil => exact h
    | cons b t => exact ih (.bankGranule h)

theorem State.memInv.bankWrite {pa : Nat} {data : List Byte} (h : s.memInv) : (s.bankWrite pa data).memInv := .bankPieces h

theorem State.memInv.poisonGranule {g : Nat} (h : s.memInv) : (s.poisonGranule g).memInv := .ite h ⟨h.1, setInsert_sorted h.2⟩

theorem State.memInv.zeroRange {a n : Nat} (h : s.memInv) : (s.zeroRange a n).memInv := ⟨cellZero_wf a n h.1, h.2.filter _⟩

end

end Sys2Proof.Machine
end

section
/-! Device memory stays canonical (R47, R57): the operations of Machine/State, Machine/Ops, Machine/Homes, Machine/Translate, Machine/TraceOps, Machine/Coherent, Machine/SyncObj, Machine/Contexts, Machine/DictOps, Machine/Groups, Machine/Sync. -/

namespace Sys2Proof.Machine

/-! Machine/State. -/

section
variable {s : State} (h : s.memInv)
include h

theorem State.memInv.modFn {f : Nat} {g : FnSt → FnSt} : (s.modFn f g).memInv := .upd h

theorem State.memInv.modQ {q : Nat} {g : Queue → Queue} : (s.modQ q g).memInv := .upd h

theorem State.memInv.modPart {p : Nat} {g : PartSt → PartSt} : (s.modPart p g).memInv := .upd h

theorem State.memInv.modCore {c : Nat} {g : Core → Core} : (s.modCore c g).memInv := .upd h

theorem State.memInv.modVec {f v : Nat} {g : Vector → Vector} : (s.modVec f v g).memInv := .upd h

theorem State.memInv.modMbox {f : Nat} {g : Mailbox → Mailbox} : (s.modMbox f g).memInv := .upd h

theorem State.memInv.modLink {l : Nat} {g : Link → Link} : (s.modLink l g).memInv := .upd h

theorem State.memInv.modLaser {l : Nat} {g : Laser → Laser} : (s.modLaser l g).memInv := .upd h

theorem State.memInv.modOe {e : Nat} {g : Oe → Oe} : (s.modOe e g).memInv := .upd h

theorem State.memInv.modPort {p : Nat} {g : Port → Port} : (s.modPort p g).memInv := .upd h

theorem State.memInv.modQp {f n : Nat} {g : Qp → Qp} : (s.modQp f n g).memInv := .upd h

theorem State.memInv.modPlain {p : Nat} {g : PlainPwr → PlainPwr} : (s.modPlain p g).memInv := .upd h

theorem State.memInv.modTrc {b : Nat} {g : Trc → Trc} : (s.modTrc b g).memInv := .upd h

theorem State.memInv.modCntFn {f : Nat} {g : CntFn → CntFn} : (s.modCntFn f g).memInv := .upd h

end

/-! Machine/Ops. -/

section
variable {s : State} (h : s.memInv)
include h

theorem State.memInv.setNum {a v target : Nat} : (s.setNum a v target).memInv := .ite (.upd h) (.upd h)

theorem State.memInv.addNum {a width k target : Nat} : (s.addNum a width k target).memInv := .setNum h

theorem State.memInv.setBlob {a : Nat} {v : List Byte} {target : Nat} : (s.setBlob a v target).memInv := .upd h

theorem State.memInv.freeVal {w : Nat} : (s.freeVal w).2.memInv := .upd h

theorem State.memInv.signal {f v : Nat} : (s.signal f v).memInv := .ite (.modVec h) h

theorem State.memInv.raiseStk {n : Nat} : (s.raiseStk n).memInv := .ite (.signal (.upd h)) (.upd h)

theorem State.memInv.raiseNwt {n : Nat} : (s.raiseNwt n).memInv := .ite (.signal (.upd h)) (.upd h)

theorem State.memInv.raiseL2 {n : Nat} : (s.raiseL2 n).memInv := .ite (.signal (.upd h)) (.upd h)

theorem State.memInv.raiseFab {n : Nat} : (s.raiseFab n).memInv := .ite (.signal (.upd h)) (.upd h)

theorem State.memInv.raiseOpt {n : Nat} : (s.raiseOpt n).memInv := .ite (.signal (.upd h)) (.upd h)

theorem State.memInv.raiseSvc {n : Nat} : (s.raiseSvc n).memInv := .ite (.signal (.upd h)) (.upd h)

theorem State.memInv.raisePwr {n : Nat} : (s.raisePwr n).memInv := .ite (.signal (.upd h)) (.upd h)

theorem State.memInv.raiseMgt {n : Nat} : (s.raiseMgt n).memInv := .ite (.signal (.upd h)) (.upd h)

theorem State.memInv.raiseHif {n : Nat} : (s.raiseHif n).memInv := .ite (.signal (.upd h)) (.upd h)

theorem State.memInv.appendLog {type iface fn index sub target : Nat} {old new : List Byte} : (s.appendLog type iface fn index sub target old new).memInv :=
  .ite (.raiseMgt (.upd h)) (.upd h)

theorem State.memInv.logInternal {type : Nat} {old new : List Byte} : (s.logInternal type old new).memInv := .appendLog h

theorem State.memInv.logReset {type code : Nat} : (s.logReset type code).memInv := .logInternal h

theorem State.memInv.pushStk {rec0 : Nat} : (s.pushStk rec0).memInv := .ite (.upd (.upd h)) (.raiseStk (.upd (.upd h)))

theorem State.memInv.pushNwt {rec0 : Nat} : (s.pushNwt rec0).memInv := .ite (.raiseNwt (.upd (.upd h))) (.raiseNwt (.upd (.upd h)))

theorem State.memInv.pushL2 {rec0 : Nat} : (s.pushL2 rec0).memInv := .ite (.upd (.upd h)) (.raiseL2 (.upd (.upd h)))

theorem State.memInv.pushFab {rec0 : Nat} : (s.pushFab rec0).memInv := .ite (.upd (.upd h)) (.raiseFab (.upd (.upd h)))

theorem State.memInv.faultRecord {cls unit detail interruption contexts epoch : Nat} : (s.faultRecord cls unit detail interruption contexts epoch).memInv :=
  .setBlob (.ite (.setNum (.addNum (.addNum h))) (.addNum (.addNum h)))

theorem State.memInv.discardStale : s.discardStale.memInv := .addNum h

theorem State.memInv.hostRead {a n : Nat} : (s.hostRead a n).2.memInv := .upd h

theorem State.memInv.hostWrite {a : Nat} {l : List Byte} : (s.hostWrite a l).memInv := by
  induction l generalizing s a with
  | nil => exact h
  | cons a l ih =>
    unfold State.hostWrite
    exact ih (.upd h)

theorem State.memInv.tickNs : (tickNs s).memInv := .ite (.upd h) (.upd h)

end

/-! Machine/Homes. -/

section
variable {s : State} (h : s.memInv)
include h

theorem State.memInv.writeBack {line : Nat} {data : List Byte} {poison : Nat} : (s.writeBack line data poison).memInv :=
  .foldl (fun _ _ hu => .ite (.poisonGranule hu) (.bankGranule hu)) h

theorem State.memInv.dropReplicas {line : Nat} : (s.dropReplicas line).memInv := .upd h

theorem State.memInv.cohMsg {dst seq op addr : Nat} {data : List Byte} {poison : Nat} : (s.cohMsg dst seq op addr data poison).memInv := .upd h

theorem State.memInv.tellCopies {line sharers : Nat} : (s.tellCopies line sharers).memInv := by
  refine .foldl (fun _ _ hu => .ite ?_ hu) h
  split
  · exact .cohMsg hu
  · exact hu

theorem State.memInv.lineToI {line : Nat} : (s.lineToI line).memInv := by
  unfold State.lineToI
  split
  · exact h
  · exact .upd (.tellCopies (.dropReplicas (.ite (.writeBack h) h)))

theorem State.memInv.linesToI {p : Nat → Bool} : (s.linesToI p).memInv := .foldl (fun _ _ hu => .lineToI hu) h

theorem State.memInv.dropSharer {line b : Nat} : (s.dropSharer line b).memInv := by
  unfold State.dropSharer
  split
  · exact h
  · dsimp only
    split
    · exact .upd h
    · exact .upd h

theorem State.memInv.dropReplica {key : Nat} : (s.dropReplica key).memInv := .dropSharer (.upd h)

theorem State.memInv.dropCopy {key : Nat} : (s.dropCopy key).memInv := by
  unfold State.dropCopy
  dsimp only
  split
  · exact .cohMsg (.upd h)
  · exact .upd h

theorem State.memInv.toOverflow {line : Nat} {d : Dir} : (s.toOverflow line d).memInv := by
  unfold State.toOverflow
  dsimp only
  split
  · exact .upd (.ite (.writeBack h) h)
  · split
    · exact .upd (.lineToI (.ite (.writeBack h) h))
    · exact .lineToI (.ite (.writeBack h) h)

theorem State.memInv.evict {x : Held} : (s.evict x).memInv := by
  unfold State.evict
  split
  · split
    · exact .ite (.toOverflow h) (.lineToI h)
    · exact h
  · exact .dropReplica h
  · exact .dropCopy h

theorem keptBeside.takeWay {sl st : Nat} : keptBeside (s.takeWay sl st) := by
  unfold State.takeWay
  split
  · exact .some h
  · split
    · exact .none
    · exact .some (.evict h)

theorem State.memInv.useLine : s.useLine.2.memInv := .upd h

theorem keptIfAny.fillLine {line : Nat} : keptIfAny (s.fillLine line) := by
  unfold State.fillLine
  dsimp only
  split
  · split
    · exact .none
    · next e2 => exact .some (.upd (.useLine (.of_some_snd e2 (.takeWay h))))
  · refine .ite .none (.ite ?_ (.some (.upd (.useLine h))))
    split
    · exact .none
    · next e2 => exact .some (.upd (.useLine (.of_some_snd e2 (.takeWay (.upd h)))))

theorem keptIfAny.homeRead {line : Nat} : keptIfAny (s.homeRead line) := by
  unfold State.homeRead
  split
  · exact .none
  · next e => exact .some (.upd (.of_some e (.fillLine h)))

theorem State.memInv.installReplica {p line : Nat} : (s.installReplica p line).memInv := by
  unfold State.installReplica
  split
  · refine .ite h ?_
    dsimp only
    split
    · exact .upd (.useLine h)
    · split
      · next e4 => exact .upd (.useLine (.of_some_snd e4 (.takeWay h)))
      · exact h
  · exact h

theorem State.memInv.keepCopy {sl chip line : Nat} {data : List Byte} {poison : Nat} : (s.keepCopy sl chip line data poison).memInv := by
  unfold State.keepCopy
  dsimp only
  split
  · exact .upd (.useLine h)
  · split
    · next e2 => exact .upd (.useLine (.of_some_snd e2 (.takeWay h)))
    · exact .cohMsg h

theorem keptIfAny.homeWrite {line : Nat} {data : List Byte} {mask poison : Nat} : keptIfAny (s.homeWrite line data mask poison) := by
  unfold State.homeWrite
  split
  · exact .none
  · next e =>
      split
      · exact .none
      · exact .some (.upd (.tellCopies (.dropReplicas (.of_some e (.fillLine h)))))

theorem State.memInv.lookLine {line : Nat} : (s.lookLine line).memInv := by
  unfold State.lookLine
  split
  · exact .ite (.upd (.useLine h)) h
  · exact h

theorem State.memInv.agentWrite {a : Nat} {data : List Byte} : (s.agentWrite a data).memInv := .bankWrite (.foldl (fun _ _ hu => .lineToI hu) h)

theorem State.memInv.agentPoison {g : Nat} : (s.agentPoison g).memInv := .poisonGranule (.lineToI h)

theorem State.memInv.lookAt {a n : Nat} : (s.lookAt a n).memInv := .foldl (fun _ _ hu => .lookLine hu) h

theorem State.memInv.allocWrite {k i : Nat} {l : List Byte} : (s.allocWrite k i l).memInv := by
  induction k generalizing s i l with
  | zero => exact h
  | succ k ih =>
    unfold State.allocWrite
    split
    · exact h
    · refine ih ?_
      split
      · next e1 => exact .of_some e1 (.homeWrite h)
      · exact .upd h

end

/-! Machine/Translate. -/

section
variable {s : State} (h : s.memInv)
include h

theorem State.memInv.consumePoison {pa : Nat} : (s.consumePoison pa).memInv := .pushStk (.raiseStk h)

theorem State.memInv.sawPoison {code f va n : Nat} : (s.sawPoison code f va n).memInv := by
  refine .ite ?_ h
  split
  · exact .consumePoison h
  · exact h

theorem State.memInv.cacheLeaf {f page target frame : Nat} {r w x : Bool} : (s.cacheLeaf f page target frame r w x).memInv := .upd h

theorem State.memInv.dieKeep {stack : Nat} {e : DieEntry} : (s.dieKeep stack e).memInv := .upd h

theorem State.memInv.dieTranslate {stack f va : Nat} {a : Access} : (s.dieTranslate stack f va a).2.memInv := by
  unfold State.dieTranslate
  dsimp only
  split
  · exact h
  · split
    · exact h
    · exact .ite_snd (.dieKeep h) h

theorem State.memInv.writeVirt {f k i : Nat} {l : List Byte} : (s.writeVirt f k i l).2.memInv := by
  induction k generalizing s i l with
  | zero => exact h
  | succ k ih =>
    unfold State.writeVirt
    split
    · exact h
    · dsimp only
      split
      · exact h
      · exact .ite_snd h (ih (.ite (.agentWrite h) (.ite (.hostWrite h) h)))

theorem State.memInv.writeV {f va : Nat} {data : List Byte} : (s.writeV f va data).2.memInv := .writeVirt h

end

/-! Machine/TraceOps. -/

section
variable {s : State} (h : s.memInv)
include h

theorem State.memInv.countAt {valOff sel n : Nat} : (s.countAt valOff sel n).memInv := .ite (.signal (.upd (.upd h))) (.upd h)

theorem State.memInv.countEvent {kind unit event n queue fmt : Nat} : (s.countEvent kind unit event n queue fmt).memInv :=
  .ite h (.foldl (fun _ _ hu => .ite (.countAt hu) hu) h)

theorem keptBeside.tableAtomic {f va : Nat} {g : Nat → Nat} : keptBeside (s.tableAtomic f va g) := by
  unfold State.tableAtomic
  split
  · exact .ite .none (.some (.agentWrite h))
  · exact .none

theorem keptBeside.probe {f base n key h5 k i : Nat} : keptBeside (s.probe f base n key h5 k i) := by
  induction k generalizing s i with
  | zero => exact h
  | succ k ih =>
    unfold State.probe
    dsimp only
    split
    · exact .none
    · next e => exact .ite (.some (.of_some_snd e (.tableAtomic h))) (ih (.of_some_snd e (.tableAtomic h)))

theorem keptIfAny.addSums {f addr k : Nat} {l : List Nat} : keptIfAny (s.addSums f addr k l) := by
  induction l generalizing s k with
  | nil => exact h
  | cons a l ih =>
    unfold State.addSums
    refine .ite (ih h) ?_
    split
    · exact .none
    · next e => exact ih (.of_some_pair e (.tableAtomic h))

theorem State.memInv.flushAccums {f base n : Nat} {l : List Accum} : (s.flushAccums f base n l).memInv := by
  induction l generalizing s with
  | nil => exact h
  | cons a l ih =>
    unfold State.flushAccums
    dsimp only
    split
    · exact .addNum (.modCntFn h)
    · next e =>
        split
        · exact .addNum (.modCntFn (.of_some_snd e (.probe h)))
        · next e3 => exact ih (.ite (.modCntFn (.of_some e3 (.addSums (.of_some_snd e (.probe h))))) (.of_some e3 (.addSums (.of_some_snd e (.probe h)))))

theorem State.memInv.roomForAccum : s.roomForAccum.memInv := by
  refine .ite h ?_
  split
  · exact h
  · exact .flushAccums (.modCntFn h)

theorem State.memInv.accumulate {f layer operator i n : Nat} : (s.accumulate f layer operator i n).memInv := .modCntFn (.upd (.ite h (.modCntFn (.roomForAccum h))))

theorem State.memInv.addQty {q i n layer operator : Nat} : (s.addQty q i n layer operator).memInv := .ite (.upd h) (.accumulate (.upd h))

theorem State.memInv.emitRec {source : Nat} {r : TrcRec} : (s.emitRec source r).memInv := .foldl (fun _ _ hu => .ite (.modTrc hu) hu) (.upd h)

theorem State.memInv.trace {srcBit kind domain unit queue layer operator aux detail : Nat} : (s.trace srcBit kind domain unit queue layer operator aux
    detail).memInv :=
  .emitRec h

theorem State.memInv.traceFe {kind queue layer operator aux detail : Nat} : (s.traceFe kind queue layer operator aux detail).memInv := .trace h

end

/-! Machine/Coherent. -/

section
variable {s : State} (h : s.memInv)
include h

theorem State.memInv.nackReq {line queue : Nat} {who : Client} {full : Bool} : (s.nackReq line queue who full).memInv :=
  .ite (.raiseL2 (.upd (.useLine (.countEvent (.upd h))))) (.upd (.useLine (.countEvent (.upd h))))

theorem State.memInv.unNack {line : Option Nat} {who : Client} : (s.unNack line who).memInv := .upd h

theorem State.memInv.askCopies {who : Client} {line : Nat} : (s.askCopies who line).memInv := by
  unfold State.askCopies
  split
  · exact h
  · exact .ite h (.upd (.tellCopies h))

theorem State.memInv.coherent {who : Client} {queue : Nat} {line : Option Nat} {go : State → State} (hgo : ∀ u, u.memInv → (go u).memInv) : (s.coherent who queue
    line go).memInv := by
  unfold State.coherent
  dsimp only
  split
  · exact .upd (.unNack (hgo _ h))
  · exact .ite h (.nackReq h)
  · exact .foldl (fun _ _ hu => .askCopies hu) h

theorem State.memInv.unit {kind index : Nat} {go : State → State} (hgo : ∀ u, u.memInv → (go u).memInv) : (s.unit kind index go).memInv :=
  .coherent h (fun _ hu => hgo _ hu)

theorem State.memInv.holdReq {i : HeldReq} : (s.holdReq i).memInv := .upd h

theorem State.memInv.outside {i : HeldReq} {go : State → State} (hgo : ∀ u, u.memInv → (go u).memInv) : (s.outside i go).memInv :=
  .ite (hgo _ h) (.holdReq (.coherent h (fun _ hu => hgo _ hu)))

theorem State.memInv.inOrder {f : Nat} {i : HeldReq} {go : State → State} (hgo : ∀ u, u.memInv → (go u).memInv) : (s.inOrder f i go).memInv :=
  .ite (hgo _ h) (.holdReq h)

theorem State.memInv.hostReq {f : Nat} {i : HeldReq} {go : State → State} (hgo : ∀ u, u.memInv → (go u).memInv) : (s.hostReq f i go).memInv :=
  .inOrder h (fun _ hu => .outside hu (fun _ hu1 => hgo _ hu1))

end

/-! Machine/SyncObj. -/

section
variable {s : State} (h : s.memInv)
include h

theorem State.memInv.mirrorWrite {o : Nat} {x : SynObj} : (s.mirrorWrite o x).memInv := by
  unfold State.mirrorWrite
  split
  · exact h
  · split
    · exact .agentWrite h
    · exact .hostWrite h
    · exact .upd h

theorem State.memInv.notifyCheck {o : Nat} : (s.notifyCheck o).memInv := by
  unfold State.notifyCheck
  split
  · exact h
  · split
    · exact h
    · exact .ite (.signal (.upd h)) h

theorem State.memInv.finishObj {o : Nat} {old x : SynObj} : (s.finishObj o old x).memInv := .notifyCheck (.ite (.upd h) (.mirrorWrite (.upd h)))

theorem State.memInv.objOperate {o : Nat} {x : SynObj} {op value : Nat} : (s.objOperate o x op value).2.memInv := .ite_snd h (.finishObj h)

theorem State.memInv.objWait {o : Nat} {x : SynObj} {w : Waiter} : (s.objWait o x w).memInv := .finishObj h

theorem State.memInv.objError {o code : Nat} : (s.objError o code).memInv := by
  unfold State.objError
  split
  · exact h
  · exact .ite h (.finishObj h)

theorem State.memInv.dropWaiters {p : Waiter → Bool} : (s.dropWaiters p).memInv := .upd h

end

/-! Machine/Contexts. -/

section
variable {s : State} (h : s.memInv)
include h

theorem State.memInv.countKill {code : Nat} : (s.countKill code).memInv := .ite (.addNum (.addNum h)) (.addNum h)

theorem State.memInv.setShares {g : List Share → List Share} : (s.setShares g).memInv := .upd h

theorem State.memInv.stopShares {p : Nat → Bool} : (s.stopShares p).memInv := .setShares (.upd h)

theorem State.memInv.kill {q code : Nat} {site : Site} {inFlight : Bool} : (s.kill q code site inFlight).memInv :=
  .ite (.traceFe (.stopShares (.countKill (.modQ h)))) (.ite (.modQ h) h)

theorem State.memInv.killAt {q code node : Nat} : (s.killAt q code node).memInv := .kill h

theorem State.memInv.coreFault {c slot thread code pc addr : Nat} {scratch : Bool} {point : Option Nat} : (s.coreFault c slot thread code pc addr scratch
    point).memInv := by
  unfold State.coreFault
  split
  · exact h
  · exact .kill (.ite (.modQ (.modCore (.ite h (.sawPoison h)))) (.modCore (.ite h (.sawPoison h))))

theorem State.memInv.countSent {link : Nat} {via : Option Nat} {len queue : Nat} : (s.countSent link via len queue).memInv :=
  .ite (.countEvent (.countEvent h)) (.countEvent h)

theorem State.memInv.sendNow {key f q type dst op addr : Nat} {data : List Byte} {poison : Nat} {issuer : Issuer} : (s.sendNow key f q type dst op addr data poison
    issuer).memInv :=
  .upd (.countSent (.addQty h))

theorem State.memInv.sendKeyed {key f q type dst op addr : Nat} {data : List Byte} {poison : Nat} {issuer : Issuer} : (s.sendKeyed key f q type dst op addr data
    poison issuer).2.memInv :=
  .ite_snd h (.ite_snd h (.sendNow h))

theorem State.memInv.sendReq {f q type dst op addr : Nat} {data : List Byte} {poison : Nat} {issuer : Issuer} : (s.sendReq f q type dst op addr data poison
    issuer).2.memInv :=
  .ite_snd h (.sendKeyed h)

theorem State.memInv.unwant {x : Issuer → Bool} : (s.unwant x).memInv := .upd h

theorem State.memInv.sendSync {f q chip obj op value scope : Nat} {who : WaiterWho} {isWait : Bool} : (s.sendSync f q chip obj op value scope who isWait).2.memInv :=
  .sendReq h

theorem State.memInv.signalHandle {f h2 value node q : Nat} : (s.signalHandle f h2 value node q).memInv := by
  refine .ite h ?_
  split
  · exact .sendSync h
  · exact .upd h

end

/-! Machine/DictOps. -/

section
variable {s : State} (h : s.memInv)
include h

theorem State.memInv.dictLogged {w : Origin} {a target : Nat} {old new : List Byte} : (s.dictLogged w a target old new).memInv := by
  unfold State.dictLogged
  split
  · exact h
  · exact .upd (.ite (.raiseMgt (.appendLog h)) (.appendLog h))

theorem State.memInv.dictNum {w : Origin} {a target v : Nat} : (s.dictNum w a target v).memInv := by
  unfold State.dictNum
  split
  · exact h
  · exact .dictLogged (.setNum h)

theorem State.memInv.answer {status : Nat} : (s.answer status).memInv := .upd h

theorem State.memInv.deviceWrite {w : Origin} {a v status : Nat} {effect : State → State} (heffect : ∀ u, u.memInv → (effect u).memInv) : (s.deviceWrite w a v
    status effect).memInv :=
  .ite (.answer h) (.ite (.answer h) (heffect _ (.dictNum h)))

theorem State.memInv.triggerWrite {w : Origin} {a v status : Nat} {effect : State → State} (heffect : ∀ u, u.memInv → (effect u).memInv) : (s.triggerWrite w a v
    status effect).memInv := by
  refine .ite (.answer h) (.ite (.answer h) ?_)
  split
  · exact h
  · exact heffect _ (.dictLogged h)

theorem State.memInv.fnWrite {w : Origin} {f a v status : Nat} {effect : State → State} (heffect : ∀ u, u.memInv → (effect u).memInv) : (s.fnWrite w f a v status
    effect).memInv :=
  .ite (.answer h) (.ite (.answer h) (heffect _ (.dictNum h)))

theorem State.memInv.partWrite {w : Origin} {p a v status : Nat} {effect : State → State} (heffect : ∀ u, u.memInv → (effect u).memInv) : (s.partWrite w p a v
    status effect).memInv :=
  .ite (.answer h) (.ite (.answer h) (.ite (.answer h) (heffect _ (.dictNum h))))

end

/-! Machine/Groups. -/

section
variable {s : State} (h : s.memInv)
include h

theorem State.memInv.freeBlock {c key why : Nat} : (s.freeBlock c key why).memInv := by
  unfold State.freeBlock
  split
  · exact h
  · exact .ite (.upd (.addQty (.trace (.modCore h)))) (.addQty (.trace (.modCore h)))

theorem State.memInv.freeSlot {c slot : Nat} : (s.freeSlot c slot).memInv := .upd (.modCore h)

theorem State.memInv.reapGroup {c slot : Nat} : (s.reapGroup c slot).memInv := by
  unfold State.reapGroup
  split
  · exact h
  · refine .ite h ?_
    split
    · exact .freeSlot h
    · exact .ite (.freeBlock (.freeSlot h)) (.freeSlot h)

end

/-! Machine/Sync. -/

section
variable {s : State} (h : s.memInv)
include h

theorem State.memInv.traceSync {m : SynMsg} : (s.traceSync m).memInv := .trace h

theorem State.memInv.faultWho {w : WaiterWho} {q code : Nat} : (s.faultWho w q code).memInv := by
  unfold State.faultWho
  split
  · split
    · exact .ite (.coreFault h) (.kill h)
    · exact .kill h
  · exact .kill h

theorem State.memInv.applyMsg {m : SynMsg} : (s.applyMsg m).memInv := by
  unfold State.applyMsg
  split
  · exact .ite h (.faultWho h)
  · exact .ite (.ite (.objError h) h) (.ite (.faultWho h) (.upd (.objOperate (.traceSync h))))

theorem State.memInv.syncObjectApply {index : Nat} : (syncObjectApply index s).memInv := by
  unfold Machine.syncObjectApply
  split
  · exact h
  · exact .ite (.applyMsg (.upd h)) h

theorem State.memInv.respond {type chip seq op status : Nat} {data : List Byte} {poison : Nat} : (s.respond type chip seq op status data poison).memInv :=
  .upd (.countSent h)

theorem State.memInv.killWaiter {w : Waiter} {code : Nat} : (s.killWaiter w code).memInv := by
  unfold State.killWaiter
  split
  · exact .respond h
  · exact .faultWho h

theorem keptIfAny.registerWait {o : Nat} {w : Waiter} : keptIfAny (s.registerWait o w) := by
  unfold State.registerWait
  split
  · exact .some (.killWaiter h)
  · exact .ite (.some (.killWaiter h)) (.ite .none (.some (.objWait (.traceSync h))))

theorem State.memInv.syncWaitRegister {index : Nat} : (syncWaitRegister index s).memInv := by
  unfold Machine.syncWaitRegister
  split
  · exact h
  · dsimp only
    split
    · next e2 => exact .of_some e2 (.registerWait (.upd h))
    · exact .upd h

theorem State.memInv.syncRegisterRetry {index : Nat} : (syncRegisterRetry index s).memInv := by
  unfold Machine.syncRegisterRetry
  split
  · exact h
  · dsimp only
    split
    · next e2 => exact .of_some e2 (.registerWait (.upd h))
    · exact h

theorem State.memInv.acquire {c scope : Nat} : (s.acquire c scope).memInv := .ite h (.upd (.modCore h))

theorem State.memInv.countWait {c q : Nat} : (s.countWait c q).memInv := .countEvent (.freeVal h)

theorem State.memInv.releaseCore {r : SynRelease} {c slot threads dst : Nat} : (s.releaseCore r c slot threads dst).memInv := by
  unfold State.releaseCore
  split
  · exact h
  · exact .ite h (.ite (.ite (.acquire (.modCore (.countWait h))) (.modCore (.countWait h))) (.reapGroup (.modCore h)))

theorem State.memInv.nodeDone {id : Nat} : (s.nodeDone id).memInv := .upd h

theorem State.memInv.releaseNode {r : SynRelease} {id : Nat} : (s.releaseNode r id).memInv := by
  unfold State.releaseNode
  split
  · exact h
  · exact .ite (.kill (.upd h)) (.ite (.upd h) (.nodeDone h))

theorem State.memInv.releasePlan {r : SynRelease} {ctx : Nat} : (s.releasePlan r ctx).memInv := by
  unfold State.releasePlan
  split
  · exact h
  · exact .ite h (.upd h)

theorem State.memInv.deliver {r : SynRelease} : (s.deliver r).memInv := by
  unfold State.deliver
  split
  · exact .releaseCore h
  · exact .releaseNode h
  · exact .releasePlan h
  · exact .respond h

theorem State.memInv.waiterRelease {index : Nat} : (waiterRelease index s).memInv := by
  unfold Machine.waiterRelease
  split
  · exact h
  · exact .deliver (.upd h)

theorem State.memInv.deliverGroup {c slot : Nat} : (s.deliverGroup c slot).memInv := .foldl (fun _ _ hu => .deliver hu) (.upd h)

theorem State.memInv.cancelFar {key q : Nat} {i : Issuer} : (s.cancelFar key q i).memInv := .ite h (.sendReq h)

theorem State.memInv.cancelFars {p : WaiterWho → Bool} : (s.cancelFars p).memInv := .foldl (fun _ _ hu => .cancelFar hu) h

theorem State.memInv.waitCancelled {key : Nat} : (s.waitCancelled key).memInv := by
  unfold State.waitCancelled
  split
  · exact h
  · dsimp only
    split
    · exact .modCore (.countWait (.upd h))
    · exact .upd h

theorem State.memInv.syncWaitCancel {core slot : Nat} : (syncWaitCancel core slot s).memInv := by
  unfold Machine.syncWaitCancel
  split
  · exact h
  · exact .ite h (.modCore (.ite (.cancelFars (.dropWaiters (.deliverGroup h))) (.countWait (.cancelFars (.dropWaiters (.deliverGroup h))))))

theorem State.memInv.synDone {f o result value : Nat} : (s.synDone f o result value).memInv := .modFn h

theorem State.memInv.synCommand {f v : Nat} {bad : Bool} {err allowed late : SynObj → Bool} {go : SynObj → State × Nat} (hgo : ∀ a1, (go a1).1.memInv) :
    (s.synCommand f v bad err allowed late go).memInv := by
  refine .ite (.synDone h) ?_
  split
  · exact .synDone h
  · exact .ite (.synDone h) (.ite (.synDone h) (.ite (.synDone h) (.synDone (hgo _))))

theorem State.memInv.synCreate {fn cmd : Nat} : (synCreate fn cmd s).memInv := .ite h (.ite (.synDone h) (.ite (.synDone h) (.ite (.synDone h) (.synDone (.upd h)))))

theorem State.memInv.synDestroy {fn cmd : Nat} : (synDestroy fn cmd s).memInv := .ite h (.synCommand h (fun _ => .upd (.objError h)))

theorem State.memInv.synOperate {fn cmd : Nat} : (synOperate fn cmd s).memInv := .ite h (.synCommand h (fun _ => .objOperate (.trace h)))

theorem State.memInv.synSetError {fn cmd : Nat} : (synSetError fn cmd s).memInv := .ite h (.synCommand h (fun _ => .objError h))

theorem State.memInv.synResetObj {fn cmd : Nat} : (synResetObj fn cmd s).memInv := .ite h (.synCommand h (fun _ => .finishObj h))

theorem State.memInv.synRead {fn cmd : Nat} : (synRead fn cmd s).memInv := .ite h (.synCommand h (fun _ => h))

theorem State.memInv.synMirror {fn cmd : Nat} : (synMirror fn cmd s).memInv := .ite h (.synCommand h (fun _ => .upd h))

theorem State.memInv.synNotify {fn cmd : Nat} : (synNotify fn cmd s).memInv := .ite h (.synCommand h (fun _ => .notifyCheck (.upd h)))

theorem State.memInv.synReserved {fn cmd : Nat} : (synReserved fn cmd s).memInv := .synDone h

theorem State.memInv.synHost {f cmd : Nat} {mine : Bool} {go : State → State} (hgo : ∀ u, u.memInv → (go u).memInv) : (s.synHost f cmd mine go).memInv :=
  .ite (.inOrder h (fun _ hu => hgo _ hu)) (hgo _ h)

theorem State.memInv.syncRangeWrite {who : Origin} {partition value : Nat} : (syncRangeWrite who partition value s).memInv := .deviceWrite h (fun _ hu => hu)

end

end Sys2Proof.Machine
end

section
/-! Device memory stays canonical (R47, R57): the operations of Machine/Operands, Machine/AtomOps, Machine/Queues, Machine/Nodes, Machine/Ready, Machine/Alu, Machine/CoreCtl, Machine/CoreMem. -/

namespace Sys2Proof.Machine

/-! Machine/Operands. -/

section
variable {s : State} (h : s.memInv)
include h

theorem State.memInv.put {x : Iss} {g : Group} : (Iss.put x s g).memInv := .modCore h

theorem State.memInv.done {x : Iss} {g : Group} : (Iss.done x s g).memInv := .put h

theorem State.memInv.fault {x : Iss} {thread code addr : Nat} : (Iss.fault x s thread code addr).memInv := .coreFault h

theorem Fetched.kept.fetchWord {c slot q pc : Nat} : (s.fetchWord c slot q pc).kept := by
  unfold State.fetchWord
  dsimp only
  split
  · exact .word h
  · split
    · exact .fault
    · exact .ite (.ite .fault (.word (.modCore h))) (.ite (.ite .wait (.word (.modCore (.hostRead h)))) (.ite .wait (.ite (.sent (.sendReq h)) (.ite .wait .fault))))

theorem State.memInv.countIssue {c : Nat} {g : Group} {vec : Bool} {mask act : Nat} : (s.countIssue c g vec mask act).memInv :=
  .ite (.addQty (.countEvent (.countEvent h))) (.countEvent (.countEvent h))

theorem State.memInv.countEcc {c corrected parity : Nat} : (s.countEcc c corrected parity).memInv := .ite (.modCore h) (.addNum (.modCore h))

theorem State.memInv.resumeAtIssue {q : Nat} : (s.resumeAtIssue q).memInv := .ite (.modQ h) h

theorem State.memInv.writeScalar {x : Iss} {g : Group} {r size v : Nat} : (Iss.writeScalar x s g r size v).memInv := .ite (.done h) (.done (.freeVal h))

theorem State.memInv.result {x : Iss} {scalar : Bool} {dst size : Nat} {val : Nat → Nat} : (Iss.result x s scalar dst size val).memInv :=
  .ite (.ite (.writeScalar h) (.done h)) (.done h)

theorem State.memInv.predicate {x : Iss} {scalar : Bool} {dst : Nat} {val : Nat → Bool} : (Iss.predicate x s scalar dst val).memInv :=
  .ite (.ite (.done h) (.done h)) (.done h)

end

/-! Machine/AtomOps. -/

section
variable {s : State} (h : s.memInv)
include h

theorem AtomOut.kept.homeAtom {op bytes pa a cmp : Nat} : (s.homeAtom op bytes pa a cmp).kept := by
  refine .ite .poison ?_
  dsimp only
  split
  · exact .nack
  · next e => exact .old (.of_some e (.homeWrite h))

theorem AtomOut.kept.farAtom {op bytes pa a cmp : Nat} : (s.farAtom op bytes pa a cmp).kept := .ite .poison (.old (.bankWrite (.lineToI h)))

end

/-! Machine/Queues. -/

section
variable {s : State} (h : s.memInv)
include h

theorem State.memInv.sigDone {q : Nat} : (s.sigDone q).memInv := .signal h

theorem State.memInv.sigError {q : Nat} : (s.sigError q).memInv := .signal h

theorem State.memInv.restartTimer {q : Nat} : (s.restartTimer q).memInv := .modQ h

theorem State.memInv.badCtrl {q : Nat} : (s.badCtrl q).memInv := .sigError (.modQ h)

theorem State.memInv.doorbellWrite {fn queue value : Nat} : (doorbellWrite fn queue value s).memInv := by
  refine .ite h (.ite (.sigError (.modQ h)) (.ite h ?_))
  dsimp only
  split
  · exact .restartTimer (.modQ (.modQ h))
  · exact .ite (.modQ h) (.restartTimer (.modQ h))
  · exact .modQ h

theorem State.memInv.queueEnable {who : Origin} {queue : Nat} : (queueEnable who queue s).memInv := .fnWrite h (fun _ hu => .modQ hu)

theorem State.memInv.queueDisable {who : Origin} {queue : Nat} : (queueDisable who queue s).memInv := .fnWrite h (fun _ hu => .modQ hu)

theorem State.memInv.clearCntQ {q : Nat} : (s.clearCntQ q).memInv := .upd h

theorem State.memInv.queueReset {queue : Nat} : (queueReset queue s).memInv := .ite (.logReset (.clearCntQ (.modQ h))) (.badCtrl h)

theorem State.memInv.queueKill {queue : Nat} : (queueKill queue s).memInv := .ite (.kill h) (.badCtrl h)

theorem State.memInv.contextKill {queue code : Nat} : (contextKill queue code s).memInv := .kill h

theorem State.memInv.queueTimeout {queue : Nat} : (queueTimeout queue s).memInv := .ite (.kill h) h

theorem State.memInv.preemptRunning {q : Nat} {slice : Bool} : (s.preemptRunning q slice).memInv := .ite (.sigError (.modQ h)) (.traceFe (.modQ h))

theorem State.memInv.queuePreempt {queue : Nat} : (queuePreempt queue s).memInv := by
  unfold Machine.queuePreempt
  split
  · exact .sigDone (.traceFe (.traceFe (.modQ h)))
  · exact .preemptRunning h
  · exact .badCtrl h

theorem State.memInv.saveWrite {q va : Nat} {data : List Byte} : (s.saveWrite q va data).memInv := .ite (.kill (.writeV h)) (.writeV h)

theorem State.memInv.cancelPlanWaits {ctx : Nat} : (s.cancelPlanWaits ctx).memInv := .cancelFars (.dropWaiters (.foldl (fun _ _ hu => .deliver hu) (.upd h)))

theorem State.memInv.savePlan {q ctx : Nat} : (s.savePlan q ctx).memInv := by
  unfold State.savePlan
  dsimp only
  split
  · exact .cancelPlanWaits h
  · exact .modQ (.upd (.saveWrite (.cancelPlanWaits h)))

theorem State.memInv.restorePlan {q node at0 : Nat} : (s.restorePlan q node at0).memInv := by
  unfold State.restorePlan
  split
  · exact h
  · split
    · exact .kill (.sawPoison h)
    · exact .ite (.kill h) (.modQ (.upd h))

theorem State.memInv.runOrIdle {q : Nat} : (s.runOrIdle q).memInv := .modQ h

theorem State.memInv.doResume {q : Nat} : (s.doResume q).memInv := by
  refine .ite (.runOrIdle (.traceFe h)) ?_
  split
  · exact .kill (.sawPoison h)
  · exact .ite (.kill h) (.ite (.foldl (fun _ _ hu => .restorePlan hu) (.modQ (.traceFe h))) (.ite (.runOrIdle (.foldl (fun _ _ hu => .restorePlan hu) (.modQ
      (.traceFe h)))) (.foldl (fun _ _ hu => .restorePlan hu) (.modQ (.traceFe h)))))

theorem State.memInv.queueResume {queue : Nat} : (queueResume queue s).memInv := by
  unfold Machine.queueResume
  split
  · exact .modQ h
  · exact .ite h (.doResume h)
  · exact .badCtrl h

theorem State.memInv.queuePreempted {queue : Nat} : (queuePreempted queue s).memInv :=
  .ite (.ite (.foldl (fun _ _ hu => .cancelPlanWaits hu) h) (.ite (.saveWrite (.foldl (fun _ _ hu => .savePlan hu) h)) (.ite (.doResume (.sigDone (.traceFe (.modQ
      (.saveWrite (.foldl (fun _ _ hu => .savePlan hu) h)))))) (.sigDone (.traceFe (.modQ (.saveWrite (.foldl (fun _ _ hu => .savePlan hu) h)))))))) h

theorem State.memInv.resumeSlice {f : Nat} : (s.resumeSlice f).memInv := .foldl (fun _ _ hu => .ite (.doResume hu) hu) h

theorem State.memInv.passTurn {p : Nat} : (s.passTurn p).memInv := by
  unfold State.passTurn
  dsimp only
  split
  · exact .modPart h
  · exact .resumeSlice (.modPart h)

theorem State.memInv.timeSliceEnd {partition : Nat} : (timeSliceEnd partition s).memInv := by
  refine .ite (.foldl (fun _ _ hu => .resumeSlice hu) h) ?_
  split
  · exact .passTurn h
  · exact .ite (.passTurn h) (.ite (.ite h (.passTurn h)) (.ite (.foldl (fun _ _ hu => .ite (.preemptRunning hu) hu) (.modPart h)) h))

end

/-! Machine/Nodes. -/

section
variable {s : State} (h : s.memInv)
include h

theorem State.memInv.feDrop {who : FeWho} : (s.feDrop who).memInv := .upd h

theorem State.memInv.feStore {q : Nat} {who : FeWho} {block : Nat} {bytes : List Byte} {poison : Nat} : (s.feStore q who block bytes poison).memInv :=
  .ite (.upd h) h

theorem State.memInv.feAsk {f q : Nat} {who : FeWho} {block type op a : Nat} {data : List Byte} : (s.feAsk f q who block type op a data).2.memInv :=
  .ite_snd h (.ite_snd (.sendReq h) h)

theorem State.memInv.feFar {f q : Nat} {who : FeWho} {a n : Nat} : (s.feFar f q who a n).2.memInv := by
  unfold State.feFar
  split
  · exact .ite_snd h h
  · exact .feAsk h

theorem State.memInv.feRead {f va n : Nat} {far : Option (Nat × FeWho)} : (s.feRead f va n far).2.memInv := by
  rw [State.feRead]
  split
  · exact .pair (.sawPoison h)
  · refine .ite_snd (.ite_snd (.pair (.sawPoison h)) (.pair (.lookAt h))) (.ite_snd (.ite_snd (.pair (.hostRead h)) h) ?_)
    split
    · exact .feFar h
    · exact h

theorem State.memInv.noteDispatch {q : Nat} : (s.noteDispatch q).memInv := .upd h

theorem State.memInv.noteStall {id : Nat} : (s.noteStall id).memInv := .upd h

theorem State.memInv.startNode {id ty : Nat} {k : Node → State} (hk : ∀ a1, (k a1).memInv) : (s.startNode id ty k).memInv := by
  unfold State.startNode
  split
  · exact h
  · exact .ite h (.ite (.kill h) (.ite h (.noteStall (hk _))))

theorem State.memInv.dispatched {id : Nat} {n : Node} : (s.dispatched id n).memInv := .traceFe (.noteDispatch (.upd h))

theorem State.memInv.enterNode {n : Node} : (s.enterNode n).memInv := .upd h

theorem keptBeside.readRingNode {q ring : Nat} : keptBeside (s.readRingNode q ring) := by
  unfold State.readRingNode
  split
  · exact .none
  · dsimp only
    split
    · exact .none
    · exact .some (.feRead h)
    · exact .some (.feRead h)

theorem ExtGot.kept.readExt {f gid : Nat} {g : Graph} {index ext k : Nat} : (s.readExt f gid g index ext k).kept := by
  induction k generalizing ext with
  | zero =>
    unfold State.readExt
    exact .ok
  | succ k ih =>
    unfold State.readExt
    split
    · split
      · exact .ok
      · next e2 => exact .wait (ExtGot.kept.at e2 ih)
    · exact .ok
    · next e => exact .wait (.of_snd e (.feRead h))

theorem NodeGot.kept.readGraphNode {gid : Nat} {g : Graph} {index : Nat} : (s.readGraphNode gid g index).kept := by
  unfold State.readGraphNode
  dsimp only
  split
  · exact .wait (.feRead h)
  · exact .got (.feDrop (.feRead h))
  · split
    · next e2 => exact .wait (ExtGot.kept.at e2 (.ite (.readExt (.feRead h)) .ok))
    · exact .got (.feDrop (.feRead h))

theorem State.memInv.nodeFetch {queue : Nat} {graph : Option Nat} : (nodeFetch queue graph s).memInv := by
  refine .ite h ?_
  split
  · refine .ite h ?_
    split
    · exact h
    · next e => exact .modQ (.enterNode (.of_some_snd e (.readRingNode h)))
  · split
    · exact h
    · refine .ite h ?_
      split
      · next e2 => exact NodeGot.kept.at e2 (.readGraphNode h)
      · next e2 => exact .upd (.enterNode (NodeGot.kept.at e2 (.readGraphNode h)))

theorem State.memInv.homePut {pa n v : Nat} : (s.homePut pa n v).memInv := .allocWrite h

theorem State.memInv.feRecord {f q : Nat} {who : FeWho} {va : Nat} : (s.feRecord f q who va).2.memInv := by
  unfold State.feRecord
  split
  · exact h
  · exact h
  · exact .feFar h

theorem State.memInv.readHeader {f q : Nat} {who : FeWho} {h4 : Nat} : (s.readHeader f q who h4).2.memInv := by
  refine .ite_snd h ?_
  split
  · next e => exact .of_snd e (.feRecord h)
  · exact h
  · exact h
  · exact .ite_snd h h

theorem State.memInv.pinWord {f q : Nat} {who : FeWho} {va : Nat} : (s.pinWord f q who va).2.memInv := by
  unfold State.pinWord
  split
  · exact h
  · split
    · exact h
    · exact .homePut h
    · exact .feAsk h

theorem Pinned.kept.pin {q ring : Nat} {call : Option Nat} {plan : Option (Nat × Nat)} {depth h6 args : Nat} {who : FeWho} : (s.pin q ring call plan depth h6 args
    who).kept := by
  unfold State.pin
  dsimp only
  split
  · next e => exact .wait (.of_snd e (.readHeader h))
  · exact .bad h
  · split
    · next e2 => exact .wait (.of_snd e2 (.pinWord h))
    · exact .bad h
    · next e4 =>
        split
        · next e3 => exact .wait (.feStore (.of_snd e3 (.feRecord (.of_snd e4 (.pinWord h)))))
        · exact .bad (.of_snd e4 (.pinWord h))
        · exact .ite (.bad (.feDrop (.of_snd e4 (.pinWord h)))) (.ok (.feDrop (.of_snd e4 (.pinWord h))))

theorem State.memInv.pinFailed {id h2 code : Nat} {edition : Option Nat} : (s.pinFailed id h2 code edition).memInv := .upd h

theorem State.memInv.unpinPut {u : Unpin} {pa old : Nat} : (s.unpinPut u pa old).memInv := .ite (.ite (.homePut h) h) (.ite (.homePut h) h)

theorem State.memInv.unpinTook {id : Nat} {u : Unpin} {l : List Byte} : (s.unpinTook id u l).memInv := .ite (.signalHandle (.upd h)) (.upd h)

theorem State.memInv.unpinGo {id k : Nat} : (s.unpinGo id k).memInv := by
  induction k generalizing s with
  | zero => exact h
  | succ k ih =>
    unfold State.unpinGo
    split
    · exact h
    · dsimp only
      split
      · exact .kill (.sawPoison (.upd h))
      · exact ih (.unpinTook (.unpinPut h))
      · exact .ite (.kill (.upd h)) (.ite (.kill (.upd h)) (.sendNow h))

theorem State.memInv.unpinEdition {q header edition node : Nat} : (s.unpinEdition q header edition node).memInv := .unpinGo (.upd h)

theorem State.memInv.unpin {g : Graph} {node : Nat} : (s.unpin g node).memInv := .unpinEdition h

theorem State.memInv.endGraph {gid node : Nat} : (s.endGraph gid node).memInv := by
  unfold State.endGraph
  split
  · exact h
  · exact .upd (.unpin h)

theorem State.memInv.passEntries {q k : Nat} : (s.passEntries q k).memInv := by
  induction k generalizing s with
  | zero => exact h
  | succ k ih =>
    unfold State.passEntries
    refine .ite h ?_
    split
    · exact h
    · exact .ite h (ih (.ite (.sigDone (.restartTimer (.modQ (.upd h)))) (.restartTimer (.modQ (.upd h)))))

theorem State.memInv.idleCheck {q : Nat} : (s.idleCheck q).memInv := .ite (.modQ h) h

theorem State.memInv.completeNode {id : Nat} {n : Node} : (s.completeNode id n).memInv := by
  unfold State.completeNode
  dsimp only
  split
  · exact .idleCheck (.passEntries (.addQty (.traceFe (.upd h))))
  · split
    · exact .ite (.sigDone (.addQty (.traceFe (.upd h)))) (.addQty (.traceFe (.upd h)))
    · exact .ite (.endGraph (.ite (.sigDone (.addQty (.traceFe (.upd h)))) (.addQty (.traceFe (.upd h))))) (.ite (.sigDone (.addQty (.traceFe (.upd h)))) (.addQty
        (.traceFe (.upd h))))

theorem State.memInv.nodeComplete {node : Nat} : (nodeComplete node s).memInv := by
  unfold Machine.nodeComplete
  split
  · exact h
  · refine .ite (.completeNode (.ite ?_ h)) h
    split
    · exact .endGraph h
    · exact h

theorem State.memInv.nodeNop {node : Nat} : (nodeNop node s).memInv := .startNode h (fun _ => .completeNode (.dispatched h))

theorem State.memInv.issueSync {q h2 op value : Nat} {who : WaiterWho} : (s.issueSync q h2 op value who).2.memInv := by
  refine .ite_snd h ?_
  dsimp only
  split
  · exact .sendSync h
  · exact .ite (.upd h) (.upd h)

theorem State.memInv.syncNode {node : Nat} {n : Node} : (s.syncNode node n).memInv := .ite (.issueSync (.dispatched h)) (.ite h (.kill h))

theorem State.memInv.nodeWait {node : Nat} : (nodeWait node s).memInv := .startNode h (fun _ => .syncNode h)

theorem State.memInv.nodeSignal {node : Nat} : (nodeSignal node s).memInv := .startNode h (fun _ => .syncNode h)

theorem State.memInv.nodeCall {node : Nat} : (nodeCall node s).memInv := by
  refine .startNode h (fun _ => ?_)
  split
  · next e => exact Pinned.kept.at e (.pin h)
  · next e => exact .kill (.sawPoison (.pinFailed (Pinned.kept.at e (.pin h))))
  · next e => exact .dispatched (.upd (Pinned.kept.at e (.pin h)))

theorem State.memInv.nodePlan {node : Nat} : (nodePlan node s).memInv := by
  unfold Machine.nodePlan
  split
  · exact h
  · split
    · exact .ite (.restorePlan h) h
    · refine .startNode h (fun _ => ?_)
      split
      · exact h
      · exact .dispatched (.upd h)

theorem State.memInv.nodeMark {node : Nat} : (nodeMark node s).memInv := by
  refine .startNode h (fun _ => .ite (.nodeDone (.traceFe (.dispatched h))) ?_)
  split
  · exact .kill (.sawPoison (.traceFe (.dispatched h)))
  · exact .ite (.nodeDone (.agentWrite (.traceFe (.dispatched h)))) (.ite (.ite (.nodeDone (.hostWrite (.traceFe (.dispatched h)))) h) (.ite (.sendReq (.traceFe
      (.dispatched h))) (.ite h (.kill (.traceFe (.dispatched h))))))

end

/-! Machine/Ready. -/

section
variable {s : State} (h : s.memInv)
include h

theorem State.memInv.issue {is : Issue} {x : Form} {go : Iss → State → State} (hgo : ∀ a1 u, u.memInv → (go a1 u).memInv) : (s.issue is x go).memInv := by
  unfold State.issue
  split
  · exact h
  · refine .ite h ?_
    split
    · exact h
    · next e4 => exact Fetched.kept.at e4 (.fetchWord h)
    · exact .ite (.coreFault h) h
    · next e4 =>
        refine .ite h (.ite (.coreFault (Fetched.kept.at e4 (.fetchWord h))) (.ite h (.ite (.coreFault (Fetched.kept.at e4 (.fetchWord h))) (.ite h (.ite h (.ite
            (.coreFault (.countEcc (Fetched.kept.at e4 (.fetchWord h)))) ?_))))))
        split
        · exact .modCore (.countEcc (Fetched.kept.at e4 (.fetchWord h)))
        · exact hgo _ _ (.countIssue (.resumeAtIssue (.modCore (.countEcc (Fetched.kept.at e4 (.fetchWord h))))))

end

/-! Machine/Alu. -/

section
variable {s : State} (h : s.memInv)
include h

theorem State.memInv.issueA {is : Issue} {f : FmtA} {op : Nat} {legal : Nat → Bool} {ins : List (Nat × Nat)} {dsts : List Nat} {go : Iss → State → State} (hgo : ∀
    a1 u, u.memInv → (go a1 u).memInv) : (s.issueA is f op legal ins dsts go).memInv :=
  .issue h (fun _ _ hu => hgo _ _ hu)

theorem State.memInv.valueA {is : Issue} {f : FmtA} {op : Nat} {types : List Nat} {subs rnds : Nat} {sat : Bool} {scal : List Nat} {ins : List (Nat × Nat)} {val :
    Group → Nat → Nat} : (s.valueA is f op types subs rnds sat scal ins val).memInv :=
  .issueA h (fun _ _ hu => .result hu)

theorem State.memInv.predA {is : Issue} {f : FmtA} {op : Nat} {types : List Nat} {subs : Nat} {scal : List Nat} {ins : List (Nat × Nat)} {val : Group → Nat → Bool}
    : (s.predA is f op types subs scal ins val).memInv :=
  .issueA h (fun _ _ hu => .predicate hu)

theorem State.memInv.fpArith {is : Issue} {f : FmtA} {op subs : Nat} {ks : List Nat} {exact : FVal → FVal → FVal → FVal} : (s.fpArith is f op subs ks exact).memInv
    := by
  unfold State.fpArith
  exact .valueA h

theorem State.memInv.fadd {is : Issue} {f : FmtA} : (fadd is f s).memInv := .fpArith h

theorem State.memInv.fmul {is : Issue} {f : FmtA} : (fmul is f s).memInv := .fpArith h

theorem State.memInv.ffma {is : Issue} {f : FmtA} : (ffma is f s).memInv := .fpArith h

theorem State.memInv.fpMinmax {is : Issue} {f : FmtA} {op : Nat} {wantMax : Bool} : (s.fpMinmax is f op wantMax).memInv := by
  unfold State.fpMinmax
  exact .valueA h

theorem State.memInv.fmin {is : Issue} {f : FmtA} : (fmin is f s).memInv := .fpMinmax h

theorem State.memInv.fmax {is : Issue} {f : FmtA} : (fmax is f s).memInv := .fpMinmax h

theorem State.memInv.fsetp {is : Issue} {f : FmtA} : (fsetp is f s).memInv := by
  unfold Machine.fsetp
  exact .predA h

theorem State.memInv.fpSpecial {is : Issue} {f : FmtA} {op kind : Nat} : (s.fpSpecial is f op kind).memInv := .valueA h

theorem State.memInv.rcp {is : Issue} {f : FmtA} : (rcp is f s).memInv := .fpSpecial h

theorem State.memInv.rsq {is : Issue} {f : FmtA} : (rsq is f s).memInv := .fpSpecial h

theorem State.memInv.sqrt {is : Issue} {f : FmtA} : (sqrt is f s).memInv := .fpSpecial h

theorem State.memInv.exp2 {is : Issue} {f : FmtA} : (exp2 is f s).memInv := .fpSpecial h

theorem State.memInv.log2 {is : Issue} {f : FmtA} : (log2 is f s).memInv := .fpSpecial h

theorem State.memInv.sin {is : Issue} {f : FmtA} : (sin is f s).memInv := .fpSpecial h

theorem State.memInv.cos {is : Issue} {f : FmtA} : (cos is f s).memInv := .fpSpecial h

theorem State.memInv.intOp2 {is : Issue} {f : FmtA} {op : Nat} {types : List Nat} {sat : Bool} {val : Nat → Bool → Nat → Nat → Nat} : (s.intOp2 is f op types sat
    val).memInv := by
  unfold State.intOp2
  exact .valueA h

theorem State.memInv.iadd {is : Issue} {f : FmtA} : (iadd is f s).memInv := .intOp2 h

theorem State.memInv.isub {is : Issue} {f : FmtA} : (isub is f s).memInv := .intOp2 h

theorem State.memInv.imul {is : Issue} {f : FmtA} : (imul is f s).memInv := .intOp2 h

theorem State.memInv.imad {is : Issue} {f : FmtA} : (imad is f s).memInv := by
  unfold Machine.imad
  exact .valueA h

theorem State.memInv.imulhi {is : Issue} {f : FmtA} : (imulhi is f s).memInv := .intOp2 h

theorem State.memInv.imin {is : Issue} {f : FmtA} : (imin is f s).memInv := .intOp2 h

theorem State.memInv.imax {is : Issue} {f : FmtA} : (imax is f s).memInv := .intOp2 h

theorem State.memInv.isetp {is : Issue} {f : FmtA} : (isetp is f s).memInv := by
  unfold Machine.isetp
  exact .predA h

theorem State.memInv.and {is : Issue} {f : FmtA} : (and is f s).memInv := .intOp2 h

theorem State.memInv.or {is : Issue} {f : FmtA} : (or is f s).memInv := .intOp2 h

theorem State.memInv.xor {is : Issue} {f : FmtA} : (xor is f s).memInv := .intOp2 h

theorem State.memInv.fieldOp {is : Issue} {f : FmtA} {op subs : Nat} {useC : Bool} {val : Nat → Nat → Nat → Nat → Nat} : (s.fieldOp is f op subs useC val).memInv :=
    by
  unfold State.fieldOp
  exact .valueA h

theorem State.memInv.shl {is : Issue} {f : FmtA} : (shl is f s).memInv := .fieldOp h

theorem State.memInv.shr {is : Issue} {f : FmtA} : (shr is f s).memInv := .fieldOp h

theorem State.memInv.bfe {is : Issue} {f : FmtA} : (bfe is f s).memInv := .fieldOp h

theorem State.memInv.bfi {is : Issue} {f : FmtA} : (bfi is f s).memInv := .fieldOp h

theorem State.memInv.bitOp {is : Issue} {f : FmtA} {op : Nat} {val : Nat → Nat} : (s.bitOp is f op val).memInv := .valueA h

theorem State.memInv.popc {is : Issue} {f : FmtA} : (popc is f s).memInv := .bitOp h

theorem State.memInv.clz {is : Issue} {f : FmtA} : (clz is f s).memInv := .bitOp h

theorem State.memInv.brev {is : Issue} {f : FmtA} : (brev is f s).memInv := .bitOp h

theorem State.memInv.idp4 {is : Issue} {f : FmtA} : (idp4 is f s).memInv := .valueA h

theorem State.memInv.sel {is : Issue} {f : FmtA} : (sel is f s).memInv := .issueA h (fun _ _ hu => .result hu)

theorem State.memInv.plop {is : Issue} {f : FmtA} : (plop is f s).memInv := .issueA h (fun _ _ hu => .predicate hu)

theorem State.memInv.issueI {is : Issue} {f : FmtI} {op : Nat} {useA hiOk : Bool} {dstOk : Nat → Bool} {dsts : List Nat} {go : Iss → State → State} (hgo : ∀ a1 u,
    u.memInv → (go a1 u).memInv) : (s.issueI is f op useA hiOk dstOk dsts go).memInv :=
  .issue h (fun _ _ hu => hgo _ _ hu)

theorem State.memInv.intImm {is : Issue} {f : FmtI} {op : Nat} {val : Nat → Nat → Nat} : (s.intImm is f op val).memInv := .issueI h (fun _ _ hu => .result hu)

theorem State.memInv.movi {is : Issue} {f : FmtI} : (movi is f s).memInv := .issueI h (fun _ _ hu => .result hu)

theorem State.memInv.iaddI {is : Issue} {f : FmtI} : (iaddI is f s).memInv := .intImm h

theorem State.memInv.andI {is : Issue} {f : FmtI} : (andI is f s).memInv := .intImm h

theorem State.memInv.orI {is : Issue} {f : FmtI} : (orI is f s).memInv := .intImm h

theorem State.memInv.xorI {is : Issue} {f : FmtI} : (xorI is f s).memInv := .intImm h

theorem State.memInv.shlI {is : Issue} {f : FmtI} : (shlI is f s).memInv := .intImm h

theorem State.memInv.shrI {is : Issue} {f : FmtI} : (shrI is f s).memInv := .intImm h

theorem State.memInv.fpImm {is : Issue} {f : FmtI} {op : Nat} {val : Nat → Nat → Nat} : (s.fpImm is f op val).memInv := .issueI h (fun _ _ hu => .result hu)

theorem State.memInv.faddI {is : Issue} {f : FmtI} : (faddI is f s).memInv := .fpImm h

theorem State.memInv.fmulI {is : Issue} {f : FmtI} : (fmulI is f s).memInv := .fpImm h

theorem State.memInv.isetpI {is : Issue} {f : FmtI} : (isetpI is f s).memInv := .issueI h (fun _ _ hu => .predicate hu)

theorem State.memInv.mov {is : Issue} {f : FmtA} : (mov is f s).memInv := by
  unfold Machine.mov
  exact .valueA h

theorem State.memInv.srd {is : Issue} {f : FmtI} : (srd is f s).memInv := .issueI h (fun _ _ hu => .result hu)

theorem State.memInv.v2s {is : Issue} {f : FmtA} : (v2s is f s).memInv := .issueA h (fun _ _ hu => .ite (.done hu) (.done hu))

theorem State.memInv.cvt {is : Issue} {f : FmtA} : (cvt is f s).memInv := .issueA h (fun _ _ hu => .result hu)

theorem State.memInv.cvtMx {is : Issue} {f : FmtA} : (cvtMx is f s).memInv := .issueA h (fun _ _ hu => .result hu)

theorem State.memInv.shfl {is : Issue} {f : FmtA} : (shfl is f s).memInv := .issueA h (fun _ _ hu => .result hu)

theorem State.memInv.vote {is : Issue} {f : FmtA} : (vote is f s).memInv := .issueA h (fun _ _ hu => .ite (.done hu) (.ite (.done hu) (.predicate hu)))

end

/-! Machine/CoreCtl. -/

section
variable {s : State} (h : s.memInv)
include h

theorem State.memInv.issueB {is : Issue} {f : FmtB} {op : Nat} {useLink useTarget useOffset : Bool} {go : Iss → State → State} (hgo : ∀ a1 u, u.memInv → (go a1
    u).memInv) : (s.issueB is f op useLink useTarget useOffset go).memInv :=
  .issue h (fun _ _ hu => hgo _ _ hu)

theorem State.memInv.nop {is : Issue} {f : FmtB} : (nop is f s).memInv := .issueB h (fun _ _ hu => .done hu)

theorem State.memInv.branch {x : Iss} {g : Group} {addr : Nat} : (Iss.branch x s g addr).memInv := .ite (.done h) (.ite (.fault h) (.put h))

theorem State.memInv.bra {is : Issue} {f : FmtB} : (bra is f s).memInv := .issueB h (fun _ _ hu => .branch hu)

theorem State.memInv.brx {is : Issue} {f : FmtB} : (brx is f s).memInv := by
  refine .issueB h (fun _ _ hu => ?_)
  dsimp only
  split
  · exact .fault hu
  · exact .put hu

theorem State.memInv.call {is : Issue} {f : FmtB} : (call is f s).memInv := .issueB h (fun _ _ hu => .branch hu)

theorem State.memInv.exit {is : Issue} {f : FmtB} : (exit is f s).memInv := .issueB h (fun _ _ hu => .reapGroup (.put hu))

theorem State.memInv.yield {is : Issue} {f : FmtB} : (yield is f s).memInv := .issueB h (fun _ _ hu => .ite (.modCore (.done hu)) (.done hu))

theorem State.memInv.gbar {is : Issue} {f : FmtB} : (gbar is f s).memInv := .issueB h (fun _ _ hu => .ite (.done hu) (.put hu))

theorem State.memInv.gbarWatchdogExpire {core slot : Nat} : (gbarWatchdogExpire core slot s).memInv := by
  unfold Machine.gbarWatchdogExpire
  split
  · exact h
  · split
    · exact h
    · exact .ite h (.coreFault h)

theorem State.memInv.coreReturns {c : Nat} : (s.coreReturns c).memInv := .raiseL2 (.upd (.modCore h))

theorem State.memInv.coreLaneNarrowing {core half : Nat} : (coreLaneNarrowing core half s).memInv := .ite h (.faultRecord (.modCore h))

theorem State.memInv.coreNarrowingComplete {core : Nat} : (coreNarrowingComplete core s).memInv := .ite h (.ite (.modCore h) (.addNum (.coreReturns (.modCore h))))

end

/-! Machine/CoreMem. -/

section
variable {s : State} (h : s.memInv)
include h

theorem State.memInv.dropEntry {c seq : Nat} : (s.dropEntry c seq).memInv := .modCore h

theorem State.memInv.sendRuns {c : Nat} {e : SbEntry} {l : List (Nat × List Byte)} : (s.sendRuns c e l).2.memInv := by
  induction l generalizing s with
  | nil => exact h
  | cons a l ih =>
    unfold State.sendRuns
    exact .ite_snd (ih (.sendReq h)) (.sendReq h)

theorem State.memInv.entryLeaves {c : Nat} {e : SbEntry} : (s.entryLeaves c e).memInv :=
  .ite (.modCore h) (.ite (.ite (.foldl (fun _ _ hu => .hostWrite hu) (.dropEntry h)) (.modCore h)) (.ite (.sendRuns (.modCore h)) (.kill (.modCore h))))

theorem State.memInv.makeRoom {c : Nat} : (s.makeRoom c).memInv := by
  refine .ite h ?_
  split
  · exact h
  · exact .entryLeaves h

theorem State.memInv.sbLine {c : Nat} {w : Storer} {target line vpage : Nat} {data : List Byte} {mask : Nat} : (s.sbLine c w target line vpage data mask).memInv :=
    by
  unfold State.sbLine
  dsimp only
  split
  · exact .modCore (.modCore (.upd h))
  · exact .modCore (.makeRoom (.modCore (.upd h)))

theorem State.memInv.sbBytes {c : Nat} {w : Storer} {target vpage k i : Nat} {l : List Byte} : (s.sbBytes c w target vpage k i l).memInv := by
  induction k generalizing s i l with
  | zero => exact h
  | succ k ih =>
    unfold State.sbBytes
    split
    · exact h
    · exact ih (.sbLine h)

theorem State.memInv.storePiece {c slot : Nat} {w : Storer} {a : Acc} {data : List Byte} : (s.storePiece c slot w a data).memInv := .ite (.modCore h) (.sbBytes h)

theorem State.memInv.storePieces {c slot : Nat} {w : Storer} {l : List (Acc × List Byte)} : (s.storePieces c slot w l).memInv :=
  .foldl (fun _ _ hu => .storePiece hu) h

theorem State.memInv.gotLine {id key : Nat} {data : List Byte} {bad : Nat} : (s.gotLine id key data bad).memInv := by
  unfold State.gotLine
  split
  · exact h
  · exact .ite (.upd h) (.modCore (.upd h))

theorem keptBeside.l1Look {c key : Nat} : keptBeside (s.l1Look c key) := by
  unfold State.l1Look
  split
  · exact .some (.modCore h)
  · exact .none

/-- The line that a core finds in its scalar cache, or in its L1 in place of it. -/
theorem keptBeside.sclLook {c key queue : Nat} : keptBeside (s.sclLook c key queue).1 := by
  rw [State.sclLook]
  dsimp only
  split
  · exact .l1Look h
  · split
    · exact .some (.modCore h)
    · split
      · exact .some (.modCore h)
      · split
        · next e => exact .some (.modCore (.of_some_pair e (.l1Look (.countEvent h))))
        · exact .none

theorem State.memInv.sclLook {c key queue : Nat} : (s.sclLook c key queue).2.memInv := by
  refine .ite_snd h ?_
  split
  · exact h
  · split
    · exact h
    · dsimp only
      split
      · exact .countEvent h
      · exact .countEvent h

theorem State.memInv.usedCopy {d : LineCopy} : (s.usedCopy d).memInv := .upd (.useLine h)

theorem State.memInv.askLine {f id : Nat} {l : Load} {key : Nat} : (s.askLine f id l key).2.memInv := .sendReq h

theorem State.memInv.loadLine {f id key : Nat} {l : Load} : (s.loadLine f id l key).2.memInv := by
  have hmiss : ∀ u : State, u.memInv → (if keyTarget key ≠ 1 ∨ u.lineQueued l.core id key then (0, u)
      else match u.tiedCopy l.core key with
        | some d => (0, (u.usedCopy d).gotLine id key d.data d.poison)
        | none => if u.lineFlying l.core key then (0, u) else u.askLine f id l key : Nat × State).2.memInv := fun u hu => by
    refine .ite_snd hu ?_
    split
    · exact .gotLine (.usedCopy hu)
    · exact .ite_snd hu (.askLine hu)
  rw [State.loadLine]
  refine .ite_snd h (.ite_snd (hmiss s h) (.ite_snd ?_ ?_))
  · split
    · next e => exact .pair (.upd (.of_some_pair (congrArg Prod.fst e) (.sclLook h)))
    · next e => exact hmiss _ (.of_snd e (.sclLook h))
  · split
    · next e => exact .pair (.upd (.of_some_pair e (.l1Look h)))
    · exact hmiss _ (.ite (.countEvent h) h)

theorem State.memInv.loadLines {f id : Nat} {l : Load} {ls : List Nat} : (s.loadLines f id l ls).2.2.memInv := by
  induction ls generalizing s with
  | nil => exact h
  | cons a l ih =>
    unfold State.loadLines
    exact .ite_snd₂ (ih (.loadLine h)) (.loadLine h)

theorem State.memInv.reqFail {x : Iss} {thread code addr : Nat} : (Iss.reqFail x s thread code addr).memInv := .ite (.fault h) (.kill (.modCore h))

theorem State.memInv.openLoad {x : Iss} {kind dst bytes : Nat} {sgn : Bool} {hint acquire : Nat} {accs : List Acc} : (Iss.openLoad x s kind dst bytes sgn hint
    acquire accs).2.2.memInv :=
  .loadLines (.upd h)

theorem State.memInv.startLoad {x : Iss} {kind dst bytes : Nat} {sgn : Bool} {hint acquire : Nat} {accs : List Acc} : (Iss.startLoad x s kind dst bytes sgn hint
    acquire accs).memInv :=
  .ite (.done (.openLoad h)) (.reqFail h)

theorem State.memInv.hostLines {id : Nat} {l : Load} {f : Nat} : (s.hostLines id l f).memInv := .foldl (fun _ _ hu => .ite (.gotLine (.hostRead hu)) hu) h

theorem State.memInv.fabLines {id : Nat} {l : Load} {f : Nat} : (s.fabLines id l f).memInv :=
  .foldl (fun _ _ hu => .ite hu (.ite (.loadLine hu) (.kill (.upd hu)))) h

theorem State.memInv.loadResponse {load found : Nat} : (loadResponse load found s).memInv := by
  unfold Machine.loadResponse
  split
  · exact h
  · dsimp only
    split
    · refine .ite (.fabLines (.hostLines h)) ?_
      split
      · refine .coreFault ?_
        split
        · exact .modCore (.upd (.fabLines (.hostLines h)))
        · exact .upd (.fabLines (.hostLines h))
      · refine .ite (.raiseL2 (.upd (.modCore (.fabLines (.hostLines h))))) ?_
        split
        · exact .coreFault (.upd (.fabLines (.hostLines h)))
        · exact .acquire (.ite (.modCore (.freeVal (.upd (.fabLines (.hostLines h))))) (.modCore (.upd (.fabLines (.hostLines h)))))
    · exact .fabLines (.hostLines h)

theorem State.memInv.loadM {is : Issue} {f : FmtM} {op acquire : Nat} : (s.loadM is f op acquire).memInv := by
  refine .issue h (fun _ _ hu => ?_)
  split
  · exact .fault hu
  · exact .done hu
  · exact .startLoad hu

theorem State.memInv.ld {is : Issue} {f : FmtM} : (ld is f s).memInv := .loadM h

theorem State.memInv.ldAcq {is : Issue} {f : FmtM} : (ldAcq is f s).memInv := .loadM h

theorem State.memInv.storeAt {x : Iss} {p : Places} {go : List Acc → State → State} (hgo : ∀ a1 u, u.memInv → (go a1 u).memInv) : (Iss.storeAt x s p go).memInv := by
  unfold Iss.storeAt
  split
  · exact .fault h
  · exact .ite (.reqFail h) (.ite (.done h) (hgo _ _ h))

theorem State.memInv.storeM {x : Iss} {f : FmtM} {go : List Acc → State → State} (hgo : ∀ a1 u, u.memInv → (go a1 u).memInv) : (Iss.storeM x s f go).memInv :=
  .storeAt h (fun _ _ hu => hgo _ _ hu)

theorem State.memInv.st {is : Issue} {f : FmtM} : (st is f s).memInv := .issue h (fun _ _ hu => .storeM hu (fun _ _ hu1 => .storePieces (.done hu1)))

theorem State.memInv.stRel {is : Issue} {f : FmtM} : (stRel is f s).memInv :=
  .issue h (fun _ _ hu => .storeM hu (fun _ _ hu1 => .ite (.upd (.done hu1)) (.storePieces (.done hu1))))

theorem State.memInv.pref {is : Issue} {f : FmtM} : (pref is f s).memInv := .issue h (fun _ _ hu => .ite (.done hu) (.startLoad hu))

theorem State.memInv.sclZero {is : Issue} {f : FmtM} : (sclZero is f s).memInv :=
  .issue h (fun _ _ hu => .storeAt hu (fun _ _ hu1 => .modCore (.storePieces (.done hu1))))

theorem State.memInv.sclInvalidate {c : Nat} : (s.sclInvalidate c).memInv := .modCore h

theorem State.memInv.sclInv {is : Issue} {f : FmtM} : (sclInv is f s).memInv := .issue h (fun _ _ hu => .ite (.sclInvalidate (.done hu)) (.done hu))

theorem State.memInv.storeBufferDrain {core seq : Nat} : (storeBufferDrain core seq s).memInv := by
  unfold Machine.storeBufferDrain
  split
  · exact h
  · exact .ite h (.ite h (.entryLeaves h))

theorem State.memInv.storeAcked {c seq : Nat} : (s.storeAcked c seq).memInv := .ite h (.dropEntry h)

theorem State.memInv.barO {is : Issue} {f : FmtO} {kind : Nat} : (s.barO is f kind).memInv := .issue h (fun _ _ hu => .ite (.done hu) (.upd (.done hu)))

theorem State.memInv.barLd {is : Issue} {f : FmtO} : (barLd is f s).memInv := .barO h

theorem State.memInv.barSt {is : Issue} {f : FmtO} : (barSt is f s).memInv := .barO h

theorem State.memInv.barFull {is : Issue} {f : FmtO} : (barFull is f s).memInv := .barO h

theorem State.memInv.sendRelease {b : Bar} {m : SynMsg} {h3 : Nat} : (s.sendRelease b m h3).memInv := by
  unfold State.sendRelease
  split
  · exact .upd h
  · exact .ite (.sendSync h) (.kill h)

theorem State.memInv.barrierComplete {bar : Nat} : (barrierComplete bar s).memInv := by
  unfold Machine.barrierComplete
  split
  · exact h
  · refine .ite h ?_
    dsimp only
    split
    · exact .reapGroup (.storePieces (.upd h))
    · exact .ite h (.sendRelease (.upd h))
    · exact .ite (.modCore (.upd h)) (.acquire (.modCore (.upd h)))

end

end Sys2Proof.Machine
end

section
/-! Device memory stays canonical (R47, R57): the operations of Machine/CoreSync, Machine/Caches, Machine/Dma, Machine/Router, Machine/Collect, Machine/Mailbox, Machine/Obs. -/

namespace Sys2Proof.Machine

/-! Machine/CoreSync. -/

section
variable {s : State} (h : s.memInv)
include h

theorem State.memInv.atomX {is : Issue} {f : FmtX} {op : Nat} : (s.atomX is f op).memInv := by
  refine .issue h (fun _ _ hu => ?_)
  split
  · exact .fault hu
  · exact .done hu
  · refine .ite (.reqFail hu) (.ite ?_ (.upd (.done hu)))
    split
    · exact .coreFault hu
    · exact .done (.modCore hu)

theorem State.memInv.atomAdd {is : Issue} {f : FmtX} : (atomAdd is f s).memInv := .atomX h

theorem State.memInv.atomFadd {is : Issue} {f : FmtX} : (atomFadd is f s).memInv := .atomX h

theorem State.memInv.atomMin {is : Issue} {f : FmtX} : (atomMin is f s).memInv := .atomX h

theorem State.memInv.atomMax {is : Issue} {f : FmtX} : (atomMax is f s).memInv := .atomX h

theorem State.memInv.atomUmin {is : Issue} {f : FmtX} : (atomUmin is f s).memInv := .atomX h

theorem State.memInv.atomUmax {is : Issue} {f : FmtX} : (atomUmax is f s).memInv := .atomX h

theorem State.memInv.atomFmin {is : Issue} {f : FmtX} : (atomFmin is f s).memInv := .atomX h

theorem State.memInv.atomFmax {is : Issue} {f : FmtX} : (atomFmax is f s).memInv := .atomX h

theorem State.memInv.atomAnd {is : Issue} {f : FmtX} : (atomAnd is f s).memInv := .atomX h

theorem State.memInv.atomOr {is : Issue} {f : FmtX} : (atomOr is f s).memInv := .atomX h

theorem State.memInv.atomXor {is : Issue} {f : FmtX} : (atomXor is f s).memInv := .atomX h

theorem State.memInv.atomExch {is : Issue} {f : FmtX} : (atomExch is f s).memInv := .atomX h

theorem State.memInv.atomCas {is : Issue} {f : FmtX} : (atomCas is f s).memInv := .atomX h

theorem State.memInv.atomOld {id thread old : Nat} : (s.atomOld id thread old).memInv := by
  unfold State.atomOld
  split
  · exact h
  · exact .ite (.reapGroup (.acquire (.modCore (.upd h)))) (.upd h)

theorem State.memInv.atomDrop {a : Atom} {x : Acc} : (s.atomDrop a x).memInv := .modCore h

theorem State.memInv.atomPoison {id : Nat} {a : Atom} {x : Acc} : (s.atomPoison id a x).memInv := .coreFault (.upd h)

theorem State.memInv.atomSend {id : Nat} {a : Atom} {x : Acc} : (s.atomSend id a x).memInv := .ite (.upd (.sendReq h)) (.ite h (.kill h))

theorem State.memInv.atomHost {id : Nat} {a : Atom} {x : Acc} : (s.atomHost id a x).memInv := .ite h (.atomOld (.atomDrop (.hostWrite (.hostRead h))))

theorem State.memInv.issueY {is : Issue} {f : FmtY} {op : Nat} {useValue waits : Bool} {go : Iss → Nat → Nat → State → State} (hgo : ∀ a1 a2 a3 u, u.memInv → (go a1
    a2 a3 u).memInv) : (s.issueY is f op useValue waits go).memInv := by
  refine .issue h (fun _ _ hu => .ite (.done hu) (.ite (.fault hu) ?_))
  split
  · exact .ite (.fault hu) (.ite (.reqFail hu) (hgo _ _ _ _ hu))
  · exact hgo _ _ _ _ hu

theorem State.memInv.syncRelease {is : Issue} {f : FmtY} {op : Nat} {useValue : Bool} : (s.syncRelease is f op useValue).memInv :=
  .issueY h (fun _ _ _ _ hu => .ite (.sendRelease (.upd (.done hu))) (.upd (.upd (.done hu))))

theorem State.memInv.syncWait {is : Issue} {f : FmtY} {op : Nat} {useValue : Bool} : (s.syncWait is f op useValue).memInv := by
  refine .issueY h (fun _ _ _ _ hu => ?_)
  dsimp only
  split
  · exact .upd (.modCore (.put hu))
  · exact .sendSync (.upd (.modCore (.put hu)))

theorem State.memInv.syncSignal {is : Issue} {f : FmtY} : (syncSignal is f s).memInv := .syncRelease h

theorem State.memInv.syncWaitGe {is : Issue} {f : FmtY} : (syncWaitGe is f s).memInv := .syncWait h

theorem State.memInv.syncWaitEq {is : Issue} {f : FmtY} : (syncWaitEq is f s).memInv := .syncWait h

theorem State.memInv.syncPost {is : Issue} {f : FmtY} : (syncPost is f s).memInv := .syncRelease h

theorem State.memInv.syncWaitDec {is : Issue} {f : FmtY} : (syncWaitDec is f s).memInv := .syncWait h

theorem State.memInv.syncBarArrive {is : Issue} {f : FmtY} : (syncBarArrive is f s).memInv := .syncRelease h

theorem State.memInv.syncBarWait {is : Issue} {f : FmtY} : (syncBarWait is f s).memInv := .syncWait h

end

/-! Machine/Caches. -/

section
variable {s : State} (h : s.memInv)
include h

theorem State.memInv.fillQty {line queue : Nat} {tags : Nat × Nat} : (s.fillQty line queue tags).memInv := .ite h (.addQty h)

theorem State.memInv.noteCorrected {line n : Nat} : (s.noteCorrected line n).memInv := by
  refine .ite h ?_
  dsimp only
  split
  · exact .addNum h
  · exact .ite (.addNum h) (.upd (.addNum h))

theorem State.memInv.noteDir {line : Nat} {corrected : Bool} : (s.noteDir line corrected).memInv := by
  unfold State.noteDir
  split
  · exact .pushL2 (.raiseL2 h)
  · exact h

theorem State.memInv.checkLine {line : Nat} {chk : L2Check} : (s.checkLine line chk).memInv := by
  unfold State.checkLine
  split
  · exact .noteDir h
  · exact .ite (.noteDir (.noteCorrected h)) (.upd (.noteDir (.noteCorrected h)))

theorem State.memInv.fromReplica {id : Nat} {l : Load} {line : Nat} {r : LineCopy} {chk : L2Check} : (s.fromReplica id l line r chk).memInv :=
  .gotLine (.addQty (.upd (.useLine (.countEvent (.addNum h)))))

theorem State.memInv.fromHome {id : Nat} {l : Load} {line : Nat} {chk : L2Check} : (s.fromHome id l line chk).memInv := by
  unfold State.fromHome
  dsimp only
  split
  · exact .upd h
  · next e =>
      exact .gotLine (.ite (.ite (.addQty (.countEvent (.of_some e (.homeRead (.checkLine h))))) (.addQty (.addQty (.countEvent (.of_some e (.homeRead (.checkLine
          h))))))) (.installReplica (.ite (.addQty (.countEvent (.of_some e (.homeRead (.checkLine h))))) (.addQty (.addQty (.countEvent (.of_some e (.homeRead
          (.checkLine h)))))))))

theorem State.memInv.serveRead {id : Nat} {l : Load} {line : Nat} {chk : L2Check} : (s.serveRead id l line chk).memInv := by
  unfold State.serveRead
  split
  · exact .unNack (.fromReplica h)
  · exact .coherent h (fun _ hu => .fromHome hu)

theorem State.memInv.homeRead {load line : Nat} {chk : L2Check} : (Machine.homeRead load line chk s).memInv := by
  unfold Machine.homeRead
  split
  · exact h
  · exact .ite h (.serveRead h)

theorem State.memInv.storeHome {c : Nat} {e : SbEntry} {chk : L2Check} : (s.storeHome c e chk).memInv := by
  unfold State.storeHome
  dsimp only
  split
  · next e1 => exact .dropEntry (.of_some e1 (.homeWrite (.checkLine (.ite h (.fillQty h)))))
  · exact .upd h

theorem State.memInv.serveStore {c : Nat} {e : SbEntry} {chk : L2Check} : (s.serveStore c e chk).memInv := .coherent h (fun _ hu => .storeHome hu)

theorem State.memInv.homeStore {core seq : Nat} {chk : L2Check} : (homeStore core seq chk s).memInv := by
  unfold Machine.homeStore
  split
  · exact h
  · exact .ite h (.serveStore h)

theorem State.memInv.atomPieces {id : Nat} {l : List Acc} : (s.atomPieces id l).memInv := by
  induction l generalizing s with
  | nil => exact h
  | cons a l ih =>
    unfold State.atomPieces
    split
    · exact h
    · dsimp only
      split
      · exact .atomPoison h
      · exact .upd h
      · next e2 =>
          exact ih (.atomOld (.atomDrop (.ite (.countEvent (AtomOut.kept.at e2 (.ite (.farAtom h) (.homeAtom h)))) (.countEvent (AtomOut.kept.at e2 (.ite (.farAtom
              h) (.homeAtom h)))))))

theorem State.memInv.serveAtom {id : Nat} {a : Atom} {x : Acc} {chk : L2Check} : (s.serveAtom id a x chk).memInv := by
  refine .coherent h (fun _ hu => ?_)
  dsimp only
  split
  · exact .atomPoison (.ite hu (.checkLine (.fillQty hu)))
  · exact .atomPieces (.ite hu (.checkLine (.fillQty hu)))

theorem State.memInv.atomGo {id : Nat} {far : Bool} {chk : L2Check} : (s.atomGo id far chk).memInv := by
  unfold State.atomGo
  split
  · exact h
  · split
    · exact h
    · refine .ite h ?_
      split
      · exact .atomPoison h
      · exact .ite (.atomSend h) (.ite (.atomHost h) (.ite h (.serveAtom h)))

theorem State.memInv.homeAtomic {atom : Nat} {chk : L2Check} : (homeAtomic atom chk s).memInv := .atomGo h

theorem State.memInv.farAtomic {atom : Nat} : (farAtomic atom s).memInv := .atomGo h

theorem State.memInv.coreRetry {e : Nacked} {chk : L2Check} : (s.coreRetry e chk).memInv := by
  refine .ite h ?_
  split
  · split
    · exact .unNack h
    · exact .ite (.unNack h) (.ite (.nackReq h) (.serveRead h))
  · split
    · exact .unNack h
    · exact .serveStore h
  · split
    · exact .unNack h
    · split
      · exact .unNack h
      · exact .ite (.serveAtom h) h
  · exact h

theorem State.memInv.filterCheck {line chk : Nat} : (s.filterCheck line chk).memInv := .ite h (.ite (.raiseNwt h) (.ite (.upd h) h))

theorem State.memInv.newtReadWriteback {line chk : Nat} : (newtReadWriteback line chk s).memInv := by
  unfold Machine.newtReadWriteback
  dsimp only
  split
  · exact .filterCheck h
  · exact .ite (.upd (.filterCheck h)) (.ite (.filterCheck h) (.upd (.writeBack (.filterCheck h))))

theorem State.memInv.replicaDropNotice {plain line : Nat} : (replicaDropNotice plain line s).memInv := .ite (.dropReplica h) h

theorem State.memInv.killAll : s.killAll.memInv := .foldl (fun _ _ hu => .ite (.kill hu) hu) h

theorem State.memInv.loseDomain {unit detail : Nat} : (s.loseDomain unit detail).memInv := .ite h (.faultRecord (.killAll (.pushL2 (.raiseL2 (.upd h)))))

theorem State.memInv.cohTransactionTimeout {line : Nat} : (cohTransactionTimeout line s).memInv := by
  unfold Machine.cohTransactionTimeout
  split
  · exact h
  · split
    · exact h
    · exact .ite h (.loseDomain h)

theorem State.memInv.directoryStallTimeout {slice : Nat} : (directoryStallTimeout slice s).memInv := .ite (.loseDomain h) h

theorem State.memInv.coherentDomainLoss {member : Nat} {wasReset : Bool} : (coherentDomainLoss member wasReset s).memInv := .ite (.loseDomain h) h

theorem State.memInv.chipStallFail {domain : Nat} : (chipStallFail domain s).memInv := .ite h (.faultRecord (.killAll (.upd h)))

theorem State.memInv.dirUncorrectable {line : Nat} {tag : Bool} : (dirUncorrectable line tag s).memInv := by
  unfold Machine.dirUncorrectable
  split
  · exact h
  · exact .ite (.loseDomain (.pushL2 (.raiseL2 h))) (.ite h (.ite (.askCopies (.pushL2 (.raiseL2 (.upd h)))) (.lineToI (.upd (.ite (.writeBack (.ite (.upd h)
      (.pushL2 (.raiseL2 h)))) (.ite (.upd h) (.pushL2 (.raiseL2 h))))))))

theorem State.memInv.wayRetire {slice way : Nat} : (wayRetire slice way s).memInv := .ite h (.ite (.loseDomain (.pushL2 (.upd h))) (.upd h))

theorem State.memInv.emptyWay {slice way : Nat} : (s.emptyWay slice way).memInv :=
  .foldl (fun _ _ hu => .dropCopy hu) (.foldl (fun _ _ hu => .dropReplica hu) (.foldl (fun _ _ hu => .evict hu) h))

theorem State.memInv.wayRetireComplete {slice way : Nat} : (wayRetireComplete slice way s).memInv := by
  refine .ite h ?_
  split
  · exact .faultRecord (.pushL2 (.raiseL2 (.upd (.addNum (.setNum (.emptyWay h))))))
  · exact .foldl (fun _ _ hu => .askCopies hu) h

theorem State.memInv.plainGate {plain : Nat} : (plainGate plain s).memInv :=
  .ite h (.upd (.foldl (fun _ _ hu => .foldl (fun _ _ hu1 => .ite (.modPart hu1) hu1) hu) (.upd (.foldl (fun _ _ hu => .lineToI hu) (.foldl (fun _ _ hu => .dropCopy
      hu) (.foldl (fun _ _ hu => .replicaDropNotice hu) (.foldl (fun _ _ hu => .modCore hu) h)))))))

theorem State.memInv.plainWake {plain : Nat} : (plainWake plain s).memInv := .ite h (.foldl (fun _ _ hu => .ite (.coreReturns hu) hu) (.upd (.addNum h)))

theorem State.memInv.bucketReturn {partition bucket : Nat} : (bucketReturn partition bucket s).memInv := .ite h (.modPart (.linesToI h))

theorem State.memInv.sclOn {c : Nat} : (s.sclOn c).memInv := .upd (.modCore h)

theorem State.memInv.sclAutoEnable {core : Nat} : (sclAutoEnable core s).memInv := .ite (.sclOn (.sclInvalidate h)) h

theorem State.memInv.sclCtrlInvalidate {core : Nat} : (sclCtrlInvalidate core s).memInv := .ite (.sclInvalidate h) h

theorem State.memInv.sclCtrlEnable {core : Nat} {enable : Bool} : (sclCtrlEnable core enable s).memInv := .ite h (.ite (.ite (.sclOn h) h) (.modCore h))

theorem State.memInv.scratchKibWrite {who : Origin} {partition value : Nat} : (scratchKibWrite who partition value s).memInv :=
  .partWrite h (fun _ hu => .foldl (fun _ _ hu1 => .modCore hu1) hu)

theorem State.memInv.scratchChangeApply {core : Nat} : (scratchChangeApply core s).memInv := by
  unfold Machine.scratchChangeApply
  dsimp only
  split
  · exact h
  · exact .ite h (.modCore h)

end

/-! Machine/Dma. -/

section
variable {s : State} (h : s.memInv)
include h

theorem State.memInv.putPoison {dst : Nat} {runs : List (Nat × Nat)} : (s.putPoison dst runs).memInv := .foldl (fun _ _ hu => .agentPoison hu) h

theorem State.memInv.hostForget {a n : Nat} : (s.hostForget a n).memInv := .upd h

theorem State.memInv.moveTo {target a : Nat} {data : List Byte} {runs : List (Nat × Nat)} {alloc : Bool} : (s.moveTo target a data runs alloc).memInv :=
  .ite (.foldl (fun _ _ hu => .hostForget hu) (.hostWrite h)) (.putPoison (.ite (.allocWrite h) (.agentWrite h)))

theorem Moved.kept.moveLocal {f : Nat} {alloc : Bool} {k i j m : Nat} : (s.moveLocal f alloc k i j m).kept := by
  induction k generalizing s i j m with
  | zero => exact h
  | succ k ih =>
    unfold State.moveLocal
    refine .ite (.ok h) ?_
    dsimp only
    split
    · exact .bad h
    · exact .bad h
    · exact .ite .remote (.ite .wait (ih (.moveTo (.ite_snd (.hostRead h) (.lookAt h)))))

theorem State.memInv.dmaWrite {e : Nat} {eng : Engine} {n : Node} {off : Nat} {data : List Byte} {mask : Nat} : (s.dmaWrite e eng n off data mask).2.memInv := by
  unfold State.dmaWrite
  dsimp only
  split
  · exact h
  · exact .ite_snd (.sendReq h) (.ite_snd h (.upd (.moveTo h)))

theorem State.memInv.dmaHeld {e : Nat} {n : Node} {k : Nat} : (s.dmaHeld e n k).memInv := by
  induction k generalizing s with
  | zero => exact h
  | succ k ih =>
    unfold State.dmaHeld
    split
    · exact h
    · split
      · exact h
      · exact .ite h (.ite (.kill (.dmaWrite h)) (ih (.upd (.dmaWrite h))))

theorem State.memInv.dmaPump {e k : Nat} : (s.dmaPump e k).memInv := by
  induction k generalizing s with
  | zero => exact h
  | succ k ih =>
    unfold State.dmaPump
    split
    · exact h
    · split
      · exact h
      · refine .ite h (.ite h (.ite (.kill ?_) (ih (.upd ?_))))
        · split
          · exact h
          · exact .ite_snd (.sendReq h) (.ite_snd (.ite_snd (.dmaWrite (.hostRead h)) h) (.dmaWrite (.lookAt h)))
        · split
          · exact h
          · exact .ite_snd (.sendReq h) (.ite_snd (.ite_snd (.dmaWrite (.hostRead h)) h) (.dmaWrite (.lookAt h)))

theorem State.memInv.dmaData {e off : Nat} {data : List Byte} {mask : Nat} : (s.dmaData e off data mask).memInv := by
  unfold State.dmaData
  split
  · exact h
  · split
    · exact h
    · exact .ite h (.dmaPump (.dmaHeld (.upd h)))

theorem State.memInv.dmaAck {e len : Nat} : (s.dmaAck e len).memInv := .dmaPump (.upd h)

theorem State.memInv.copySignal {node : Nat} {n : Node} : (s.copySignal node n).memInv := by
  unfold State.copySignal
  split
  · exact h
  · exact .ite (.ite (.upd (.issueSync h)) (.ite h (.kill h))) h

theorem State.memInv.nodeCopy {node : Nat} : (nodeCopy node s).memInv := by
  refine .ite ?_ (.startNode h (fun _ => .ite (.kill h) (.copySignal (.upd (.dispatched h)))))
  split
  · exact .ite (.copySignal h) h
  · exact h

theorem State.memInv.dmaPieceStart {node engine : Nat} : (dmaPieceStart node engine s).memInv := by
  unfold Machine.dmaPieceStart
  split
  · split
    · exact h
    · exact .ite h (.ite (.dmaPump (.upd h)) (.upd h))
  · exact h

theorem State.memInv.pieceDone {engine : Nat} {eng : Engine} {n : Node} : (s.pieceDone engine eng n).memInv := .copySignal (.addQty (.trace (.upd h)))

theorem State.memInv.dmaPieceComplete {engine : Nat} : (dmaPieceComplete engine s).memInv := by
  unfold Machine.dmaPieceComplete
  split
  · exact h
  · split
    · exact h
    · refine .ite h (.ite (.pieceDone h) (.ite (.dmaPump (.dmaHeld h)) ?_))
      split
      · next e3 => exact .pieceDone (Moved.kept.at e3 (.moveLocal h))
      · next e4 => exact .kill (Moved.kept.at e4 (.moveLocal h))
      · exact .dmaPump h
      · exact h

theorem State.memInv.dmaFlushReadComplete {node : Nat} : (dmaFlushReadComplete node s).memInv := by
  unfold Machine.dmaFlushReadComplete
  split
  · exact .ite h (.copySignal (.upd h))
  · exact h

end

/-! Machine/Router. -/

section
variable {s : State} (h : s.memInv)
include h

theorem State.memInv.logRefused {p : Packet} {status : Nat} : (s.logRefused p status).memInv := .pushFab (.raiseFab h)

theorem State.memInv.typed {p : Packet} {type : Nat} {go : State} (hgo : go.memInv) : (s.typed p type go).memInv := .ite (.ite hgo h) (.ite h (.logRefused h))

theorem State.memInv.answerTo {p : Packet} {type op addr : Nat} {data : List Byte} {poison : Nat} : (s.answerTo p type op addr data poison).memInv := .respond h

theorem State.memInv.ackTo {p : Packet} {status : Nat} : (s.ackTo p status).memInv := .answerTo h

theorem State.memInv.refuse {p : Packet} {status code : Nat} : (s.refuse p status code).memInv := .ackTo (.logRefused h)

theorem State.memInv.enterWindow {src seq : Nat} : (s.enterWindow src seq).memInv := .upd h

theorem State.memInv.receive {p : Packet} {go : State → State} (hgo : ∀ u, u.memInv → (go u).memInv) : (s.receive p go).memInv := by
  refine .ite ?_ (hgo _ (.enterWindow h))
  split
  · exact .ite (.upd h) h
  · exact h

end

/-! Machine/Collect. -/

section
variable {s : State} (h : s.memInv)
include h

theorem CollGot.kept.collRead {f k i j : Nat} : (s.collRead f k i j).kept := by
  induction k generalizing s i j with
  | zero => exact h
  | succ k ih =>
    unfold State.collRead
    refine .ite (.ok h) ?_
    dsimp only
    split
    · exact .bad
    · refine .ite .bad (.ite .wait ?_)
      split
      · next e3 => exact .ok (CollGot.kept.at e3 (ih (.ite_snd (.hostRead h) (.lookAt h))))
      · exact ih (.ite_snd (.hostRead h) (.lookAt h))

theorem CollPut.kept.collWrite {f k i : Nat} {l : List Byte} {ls : List (Nat × Nat)} : (s.collWrite f k i l ls).kept := by
  induction k generalizing s i l ls with
  | zero => exact h
  | succ k ih =>
    unfold State.collWrite
    split
    · exact .ok h
    · dsimp only
      split
      · exact .bad h
      · exact .ite (.bad h) (.ite .wait (ih (.moveTo h)))

theorem State.memInv.collSend {dst op addr : Nat} {data : List Byte} {poison key : Nat} : (s.collSend dst op addr data poison key).memInv := .upd (.countSent h)

theorem State.memInv.putColl {g : Nat} {c : Coll} : (s.putColl g c).memInv := .upd h

theorem State.memInv.collEnd {g code : Nat} {abort : Bool} : (s.collEnd g code abort).memInv :=
  .ite (.upd h) (.ite (.setNum (.pushFab (.raiseFab (.upd h)))) (.pushFab (.raiseFab (.upd h))))

theorem State.memInv.collKill {g code : Nat} {abort : Bool} : (s.collKill g code abort).memInv := by
  unfold State.collKill
  split
  · exact h
  · dsimp only
    split
    · exact .killAt (.collEnd h)
    · exact .collEnd h

theorem State.memInv.collTell {g code : Nat} : (s.collTell g code).memInv := .foldl (fun _ _ hu => .collSend hu) h

theorem State.memInv.collPump {g k : Nat} : (s.collPump g k).memInv := by
  induction k generalizing s with
  | zero => exact h
  | succ k ih =>
    unfold State.collPump
    split
    · exact h
    · split
      · exact .ite h (.ite h (.ite (.killAt (.sendKeyed h)) (ih (.putColl (.sendKeyed h)))))
      · exact h

theorem State.memInv.collFinish {g : Nat} {c : Coll} : (s.collFinish g c).memInv := by
  unfold State.collFinish
  split
  · exact h
  · split
    · exact h
    · dsimp only
      split
      · exact h
      · next e4 => exact .kill (CollPut.kept.at e4 (.collWrite h))
      · next e4 => exact .nodeDone (.collEnd (.foldl (fun _ _ hu => .foldl (fun _ _ hu1 => .collSend hu1) hu) (CollPut.kept.at e4 (.collWrite h))))

theorem State.memInv.collAdvance {g : Nat} : (s.collAdvance g).memInv := by
  unfold State.collAdvance
  split
  · exact h
  · exact .ite h (.ite (.collKill (.collTell h)) (.ite h (.ite (.collFinish (.putColl h)) (.collPump (.putColl h)))))

theorem State.memInv.collJoin {node : Nat} {n : Node} : (s.collJoin node n).memInv := by
  refine .ite (.kill h) (.ite (.kill h) (.ite (.kill h) (.ite h ?_)))
  dsimp only
  split
  · exact .kill h
  · exact h
  · next e => exact .collAdvance (.putColl (.dispatched (CollGot.kept.at e (.collRead h))))

theorem State.memInv.nodeCollect {node : Nat} : (nodeCollect node s).memInv := by
  unfold Machine.nodeCollect
  split
  · exact h
  · split
    · exact .ite (.ite (.collFinish h) (.collPump h)) (.startNode h (fun _ => .collJoin h))
    · exact .startNode h (fun _ => .collJoin h)

theorem State.memInv.collectData {pkt : Packet} {group rank : Nat} : (collectData pkt group rank s).memInv := by
  refine .typed h (.receive h (fun _ hu => ?_))
  dsimp only
  split
  · exact .refuse hu
  · exact .ite (.refuse hu) (.ite (.ackTo hu) (.collAdvance (.ackTo (.putColl hu))))

theorem State.memInv.collectResult {pkt : Packet} {group : Nat} : (collectResult pkt group s).memInv := by
  refine .typed h ?_
  dsimp only
  split
  · exact h
  · exact .ite h (.ite (.collFinish (.putColl h)) (.putColl h))

theorem State.memInv.collectAbort {pkt : Packet} {group : Nat} : (collectAbort pkt group s).memInv :=
  .typed h (.ite h (.ite (.collKill h) (.ite (.setNum (.pushFab (.raiseFab h))) (.putColl h))))

theorem State.memInv.abandonColls {q : Nat} : (s.abandonColls q).memInv := .foldl (fun _ _ hu => .collEnd (.collTell hu)) h

end

/-! Machine/Mailbox. -/

section
variable {s : State} (h : s.memInv)
include h

theorem State.memInv.mbRespond {f status : Nat} {body : List Byte} : (s.mbRespond f status body).memInv := .ite (.signal (.modMbox h)) (.modMbox h)

end

/-! Machine/Obs. -/

section
variable {s : State} (h : s.memInv)
include h

theorem State.memInv.cntValueWrite {off value : Nat} : (cntValueWrite off value s).memInv := .ite (.upd h) h

theorem State.memInv.cntFreeze {freeze : Bool} : (cntFreeze freeze s).memInv := .upd h

theorem State.memInv.cntClearAll : (cntClearAll s).memInv := .upd h

theorem State.memInv.startFlush {f : Nat} : (s.startFlush f).memInv := .modCntFn h

theorem State.memInv.layerFlushRequest {fn : Nat} : (layerFlushRequest fn s).memInv := .ite (.startFlush h) h

theorem State.memInv.layerFlushTimer {fn : Nat} : (layerFlushTimer fn s).memInv := .ite h (.startFlush h)

theorem State.memInv.cntLayerBaseWrite {who : Origin} {fn value : Nat} : (cntLayerBaseWrite who fn value s).memInv :=
  .ite (.answer h) (.ite (.answer h) (.ite (.answer h) (.ite (.dictNum h) (.ite (.modMbox (.modCntFn (.startFlush h))) (.modCntFn (.startFlush h))))))

theorem State.memInv.layerFlushComplete {fn : Nat} : (layerFlushComplete fn s).memInv := by
  refine .ite h ?_
  split
  · exact .modCntFn (.flushAccums h)
  · refine .ite (.mbRespond (.dictNum (.modCntFn (.flushAccums h)))) ?_
    split
    · exact .dictNum (.modCntFn (.flushAccums h))
    · exact .upd (.dictNum (.modCntFn (.flushAccums h)))

theorem State.memInv.traceRecordEmit {source : Nat} {rec0 : TrcRec} : (traceRecordEmit source rec0 s).memInv := .ite h (.emitRec h)

theorem State.memInv.traceGapRecord {buf source : Nat} : (traceGapRecord buf source s).memInv := .ite h (.modTrc h)

theorem State.memInv.trcEvent {b : Nat} : (s.trcEvent b).memInv := .ite (.signal (.modTrc h)) (.modTrc h)

theorem State.memInv.traceDrain {buf source : Nat} : (traceDrain buf source s).memInv := by
  unfold Machine.traceDrain
  dsimp only
  split
  · exact h
  · refine .ite h ?_
    split
    · exact .modTrc h
    · split
      · exact .trcEvent (.modTrc h)
      · exact .ite (.trcEvent (.modTrc h)) (.ite h (.modTrc (.writeV h)))

theorem State.memInv.trcCtrl {f b : Nat} {ok : Bool} {g : Trc → Trc} : (s.trcCtrl f b ok g).memInv := .ite h (.ite (.modTrc h) (.modTrc h))

theorem State.memInv.traceStart {fn buf : Nat} : (traceStart fn buf s).memInv := .trcCtrl h

theorem State.memInv.traceStop {fn buf : Nat} : (traceStop fn buf s).memInv := .trcCtrl h

theorem State.memInv.traceTrigger {fn buf : Nat} : (traceTrigger fn buf s).memInv := .trcCtrl h

theorem State.memInv.traceDisable {fn buf : Nat} : (traceDisable fn buf s).memInv := .trcCtrl h

theorem State.memInv.trcReadWrite {fn buf value : Nat} : (trcReadWrite fn buf value s).memInv := .ite h (.modTrc h)

theorem State.memInv.traceStopped {buf : Nat} : (traceStopped buf s).memInv := .ite h (.trcEvent (.modTrc h))

end

end Sys2Proof.Machine
end

section
/-! Device memory stays canonical (R47, R57): the operations of Machine/Matrix, Machine/Kill, Machine/NewtOps, Machine/Newt, Machine/Stack. -/

namespace Sys2Proof.Machine

/-! Machine/Matrix. -/

section
variable {s : State} (h : s.memInv)
include h

theorem State.memInv.issueMx {is : Issue} {f : FmtMx} {op : Nat} {decode : Bool} {used : List Nat} {wait : Bool} {take : Iss → State → MxOp → Accept} : (s.issueMx
    is f op decode used wait take).memInv :=
  .issue h (fun _ _ hu => .ite (.fault hu) (.ite (.done hu) (.ite (.fault hu) (.ite (.fault hu) (.modCore (.upd (.done hu)))))))

theorem State.memInv.mxCfg {is : Issue} {f : FmtMx} : (mxCfg is f s).memInv := .issueMx h

theorem State.memInv.mxLdw {is : Issue} {f : FmtMx} : (mxLdw is f s).memInv := .issueMx h

theorem State.memInv.mxSwap {is : Issue} {f : FmtMx} : (mxSwap is f s).memInv := .issueMx h

theorem State.memInv.mxStream {is : Issue} {f : FmtMx} : (mxStream is f s).memInv := .issueMx h

theorem State.memInv.mxRd {is : Issue} {f : FmtMx} : (mxRd is f s).memInv := .issueMx h

theorem State.memInv.mxClr {is : Issue} {f : FmtMx} : (mxClr is f s).memInv := .issueMx h

theorem State.memInv.modMx {c : Nat} {f : Mx → Mx} : (s.modMx c f).memInv := .modCore h

theorem State.memInv.mxInstrStart {core index : Nat} : (mxInstrStart core index s).memInv := by
  unfold Machine.mxInstrStart
  dsimp only
  split
  · exact h
  · split
    · exact h
    · refine .ite h ?_
      split
      · exact .reapGroup (.modMx h)
      · split
        · exact .coreFault h
        · exact .modMx h
      · split
        · exact .coreFault h
        · split
          · exact .coreFault h
          · exact .ite h (.ite (.reqFail h) (.modMx (.openLoad h)))
      · exact .modMx h

theorem State.memInv.mxInstrComplete {core index : Nat} : (mxInstrComplete core index s).memInv := by
  unfold Machine.mxInstrComplete
  dsimp only
  split
  · exact h
  · split
    · exact h
    · refine .ite h ?_
      split
      · exact .reapGroup (.modMx h)
      · split
        · exact h
        · split
          · split
            · exact .fabLines (.hostLines h)
            · exact h
          · refine .ite ?_ ?_
            · split
              · exact .fabLines (.hostLines h)
              · exact h
            · split
              · refine .coreFault (.upd ?_)
                split
                · exact .fabLines (.hostLines h)
                · exact h
              · refine .reapGroup (.modMx (.upd ?_))
                split
                · exact .fabLines (.hostLines h)
                · exact h
      · exact .ite h (.reapGroup (.modMx h))
      · exact .reapGroup (.modMx h)
      · refine .ite h ?_
        split
        · exact .coreFault h
        · exact .ite (.reqFail h) (.ite h (.reapGroup (.modCore (.modMx (.storePieces h)))))

theorem State.memInv.enterRow {c : Nat} : (s.enterRow c).memInv := by
  unfold State.enterRow
  dsimp only
  split
  · exact h
  · split
    · exact h
    · exact .ite (.coreFault h) (.addQty (.countEvent (.modMx h)))

theorem State.memInv.enterRows {c k : Nat} : (s.enterRows c k).memInv := by
  induction k generalizing s with
  | zero => exact h
  | succ k ih =>
    unfold State.enterRows
    exact ih (.enterRow h)

theorem State.memInv.traceAdmit {before : State} : (s.traceAdmit before).memInv := .foldl (fun _ _ hu => .ite hu (.trace hu)) h

theorem State.memInv.rampWindow {core : Nat} : (s.rampWindow core).memInv := .ite h (.traceAdmit (.modPlain h))

theorem State.memInv.mxLimiterWindow {core ready steps : Nat} : (mxLimiterWindow core ready steps s).memInv := by
  refine .ite h ?_
  dsimp only
  split
  · exact .ite (.modMx (.enterRows (.rampWindow h))) (.countEvent (.modMx (.enterRows (.rampWindow h))))
  · exact .modMx (.enterRows (.rampWindow h))

end

/-! Machine/Kill. -/

section
variable {s : State} (h : s.memInv)
include h

theorem State.memInv.coreGroupsStop {queue : Nat} : (coreGroupsStop queue s).memInv := .ite h (.upd h)

theorem State.memInv.performStore {c : Nat} {e : SbEntry} : (s.performStore c e).memInv := by
  unfold State.performStore
  split
  · split
    · next e2 => exact .of_some e2 (.homeWrite h)
    · exact .upd h
  · exact .ite h (.sendRuns h)
  · exact .foldl (fun _ _ hu => .hostWrite hu) h

theorem State.memInv.settleStores {q c : Nat} : (s.settleStores q c).memInv := .modCore (.foldl (fun _ _ hu => .ite hu (.performStore hu)) h)

theorem State.memInv.settleReleases {q : Nat} {stores : Bool} : (s.settleReleases q stores).memInv := by
  refine .foldl (fun _ _ hu => .ite hu ?_) h
  split
  · exact .storePieces hu
  · exact .sendRelease hu
  · exact hu

theorem State.memInv.dropQueueWaits {q : Nat} : (s.dropQueueWaits q).memInv := .upd (.foldl (fun _ _ hu => .cancelFar hu) (.dropWaiters h))

theorem State.memInv.freeCore {q c : Nat} : (s.freeCore q c).memInv := .foldl (fun _ _ hu => .freeBlock hu) (.foldl (fun _ _ hu => .freeSlot hu) (.modMx h))

theorem State.memInv.freeAgents {q : Nat} : (s.freeAgents q).memInv :=
  .foldl (fun _ _ hu => .addQty (.upd hu)) (.foldl (fun _ _ hu => .addQty (.upd (.unwant hu))) h)

theorem State.memInv.dropShares {q : Nat} : (s.dropShares q).memInv := .setShares (.upd h)

theorem State.memInv.settle {q : Nat} : (s.settle q).memInv :=
  .abandonColls (.dropShares (.freeAgents (.dropQueueWaits (.foldl (fun _ _ hu => .modCore (.freeCore hu)) (.upd (.settleReleases (.foldl (fun _ _ hu =>
      .settleStores hu) (.settleReleases h))))))))

theorem State.memInv.coreKillSettled {queue : Nat} : (coreKillSettled queue s).memInv := .ite h (.modQ (.settle h))

theorem keptIfAny.errorHandle {q h2 code node : Nat} : keptIfAny (s.errorHandle q h2 code node) := by
  refine .ite (.some h) ?_
  split
  · exact .ite .none (.ite (.some (.sendSync h)) (.some h))
  · exact .some (.upd h)

theorem keptIfAny.skipNode {code id : Nat} {n : Node} : keptIfAny (s.skipNode code id n) := by
  unfold State.skipNode
  split
  · exact .none
  · next e =>
      refine .some (.foldl (fun _ _ hu => .unpinEdition hu) (.upd (.addQty (.traceFe (.of_some e ?_)))))
      split
      · exact .errorHandle h
      · exact .some h

theorem Walk.kept.walkGraph {gid : Nat} {g : Graph} : (s.walkGraph gid g).kept := by
  unfold State.walkGraph
  split
  · next e => exact .ite (.wait (NodeGot.kept.at e (.readGraphNode h))) (.on (.upd h))
  · next e => exact .on (.upd (.enterNode (NodeGot.kept.at e (.readGraphNode h))))

theorem Walk.kept.walkCall {id : Nat} {n : Node} : (s.walkCall id n).kept := by
  unfold State.walkCall
  split
  · next e => exact .ite (.wait (Pinned.kept.at e (.pin h))) (.on (.pinFailed h))
  · next e => exact .on (.pinFailed (Pinned.kept.at e (.pin h)))
  · next e => exact .on (.upd (Pinned.kept.at e (.pin h)))

theorem Walk.kept.walkRead {q : Nat} : (s.walkRead q).kept := by
  unfold State.walkRead
  dsimp only
  split
  · exact .walkGraph h
  · split
    · exact .walkCall h
    · refine .ite (.over h) ?_
      split
      · exact .over h
      · next e3 => exact .on (.modQ (.enterNode (.of_some_snd e3 (.readRingNode h))))

theorem Walk.kept.walkSkip {q : Nat} : (s.walkSkip q).kept := by
  unfold State.walkSkip
  split
  · split
    · next e2 => exact .on (.of_some e2 (.skipNode h))
    · exact .wait h
  · split
    · exact .on (.unpin (.upd h))
    · exact .over h

omit h in
theorem Walk.kept.walkAll {step : State → Walk} (hstep : ∀ u, u.memInv → (step u).kept) {k : Nat} {s : State} (h : s.memInv) : (walkAll step k s).kept :=
    by
  induction k generalizing s with
  | zero => exact h
  | succ k ih =>
    unfold Machine.walkAll
    split
    · next e => exact ih (Walk.kept.at e (hstep _ h))
    · exact hstep _ h

theorem State.memInv.dropWork {q : Nat} : (s.dropWork q).memInv := .upd h

theorem State.memInv.walkEnd {q : Nat} : (s.walkEnd q).memInv := .sigError (.ite (.sigDone (.modQ (.dropWork h))) (.modQ (.dropWork h)))

theorem State.memInv.skipWalk {queue : Nat} : (skipWalk queue s).memInv := by
  refine .ite h ?_
  split
  · next e =>
      split
      · next e3 => exact .walkEnd (Walk.kept.at e3 (.walkAll (fun _ hu => .walkSkip hu) (Walk.kept.at e (.walkAll (fun _ hu => .walkRead hu) h))))
      · next e3 => exact Walk.kept.at e3 (.walkAll (fun _ hu => .walkSkip hu) (Walk.kept.at e (.walkAll (fun _ hu => .walkRead hu) h)))
      · next e3 => exact Walk.kept.at e3 (.walkAll (fun _ hu => .walkSkip hu) (Walk.kept.at e (.walkAll (fun _ hu => .walkRead hu) h)))
  · next e => exact Walk.kept.at e (.walkAll (fun _ hu => .walkRead hu) h)
  · next e => exact Walk.kept.at e (.walkAll (fun _ hu => .walkRead hu) h)

end

/-! Machine/NewtOps. -/

section
variable {s : State} (h : s.memInv)
include h

theorem State.memInv.modDesc {d : Nat} {g : Desc → Desc} : (s.modDesc d g).memInv := .upd h

theorem State.memInv.newtClean {line : Nat} : (s.newtClean line).memInv := .newtReadWriteback h

theorem State.memInv.newtTr {w : Wk} {va : Nat} {a : Access} : (s.newtTr w va a).2.memInv := .dieTranslate h

theorem Nk.kept.newtReadF {w : Wk} {k i j : Nat} : (s.newtReadF w k i j).kept := by
  induction k generalizing s i j with
  | zero => exact h
  | succ k ih =>
    unfold State.newtReadF
    refine .ite (.ok h) ?_
    dsimp only
    split
    · next e => exact .bad (.sawPoison (.of_snd e (.newtTr h)))
    · next e =>
        exact .ite (.bad (.of_snd e (.newtTr h))) (.bind (ih (.modDesc (.countEvent (.foldl (fun _ _ hu => .newtClean hu) (.of_snd e (.newtTr h)))))) (fun _ _ hu =>
            .ok hu))

theorem Nk.kept.newtRead {w : Wk} {va n : Nat} : (s.newtRead w va n).kept := .newtReadF h

theorem Nk.kept.newtGet {w : Wk} {va n : Nat} : (s.newtGet w va n).kept := .bind (.newtRead h) (fun _ _ hu => .ite (.bad (.sawPoison hu)) (.ok hu))

theorem Nk.kept.newtNum {w : Wk} {va n : Nat} : (s.newtNum w va n).kept := .bind (.newtGet h) (fun _ _ hu => .ok hu)

theorem Nk.kept.newtWriteF {w : Wk} {k i : Nat} {l : List Nat} : (s.newtWriteF w k i l).kept := by
  induction k generalizing s i l with
  | zero => exact h
  | succ k ih =>
    unfold State.newtWriteF
    split
    · exact .ok h
    · dsimp only
      split
      · next e1 => exact .bad (.sawPoison (.of_snd e1 (.newtTr h)))
      · next e1 =>
          exact .ite (.bad (.of_snd e1 (.newtTr h))) (ih (.modDesc (.countEvent (.foldl (fun _ _ hu => .agentPoison hu) (.agentWrite (.of_snd e1 (.newtTr h)))))))

theorem Nk.kept.newtWrite {w : Wk} {va : Nat} {l : List Nat} : (s.newtWrite w va l).kept := .newtWriteF h

theorem Nk.kept.newtPut {w : Wk} {va : Nat} {l : List Byte} : (s.newtPut w va l).kept := .newtWrite h

theorem Nk.kept.newtAtom {w : Wk} {op bytes va a cmp : Nat} : (s.newtAtom w op bytes va a cmp).kept := by
  refine .ite (.bad h) ?_
  split
  · next e => exact .bad (.of_snd e (.newtTr h))
  · next e =>
      refine .ite (.bad (.of_snd e (.newtTr h))) ?_
      split
      · next e3 => exact .ok (.modDesc (.countEvent (AtomOut.kept.at e3 (.farAtom (.of_snd e (.newtTr h))))))
      · exact .bad (.sawPoison h)

end

/-! Machine/Newt. -/

section
variable {s : State} (h : s.memInv)
include h

theorem State.memInv.readDesc {f q : Nat} {who : FeWho} {va k : Nat} : (s.readDesc f q who va k).2.memInv := by
  induction k generalizing s va with
  | zero => exact h
  | succ k ih =>
    unfold State.readDesc
    split
    · next e =>
        split
        · next e4 => exact .of_snd e4 (ih (.of_snd e (.feRead h)))
        · exact ih (.of_snd e (.feRead h))
    · exact .feRead h

theorem State.memInv.newtDescriptorFetch {node : Nat} : (newtDescriptorFetch node s).memInv := by
  refine .startNode h (fun _ => ?_)
  dsimp only
  split
  · next e => exact .of_snd e (.readDesc h)
  · next e => exact .kill (.of_snd e (.readDesc h))
  · next e =>
      split
      · next e2 => exact .of_snd e2 (.ite_snd (.readDesc (.of_snd e (.readDesc h))) (.of_snd e (.readDesc h)))
      · next e3 => exact .kill (.of_snd e3 (.ite_snd (.readDesc (.of_snd e (.readDesc h))) (.of_snd e (.readDesc h))))
      · next e4 =>
          exact .ite (.pushNwt (.upd (.feDrop (.dispatched (.of_snd e4 (.ite_snd (.readDesc (.of_snd e (.readDesc h))) (.of_snd e (.readDesc h)))))))) (.upd
              (.feDrop (.dispatched (.of_snd e4 (.ite_snd (.readDesc (.of_snd e (.readDesc h))) (.of_snd e (.readDesc h)))))))

theorem State.memInv.wakeNewt {n : Nat} : (s.wakeNewt n).memInv := .ite (.addNum (.upd h)) h

theorem State.memInv.newtShareDeliver {newt fn : Nat} : (newtShareDeliver newt fn s).memInv := by
  unfold Machine.newtShareDeliver
  split
  · exact h
  · exact .ite h (.wakeNewt (.upd (.ite (.upd h) h)))

theorem State.memInv.modShare {newt desc : Nat} {g : Share → Share} : (s.modShare newt desc g).memInv := .upd h

theorem State.memInv.newtShareStart {newt : Nat} : (newtShareStart newt s).memInv := by
  unfold Machine.newtShareStart
  split
  · exact h
  · exact .ite (.modShare h) (.ite h (.trace (.modDesc (.modShare (.upd h)))))

theorem Nk.kept.newtOut {w : Wk} {o : NOp} {va : Nat} {l : List (Nat × Nat)} {bytes : List Nat} : (s.newtOut w o va l bytes).kept :=
  .ite (.ok (.modDesc h)) (.newtWrite h)

theorem Nk.kept.mergedOut {w : Wk} {o : NOp} {l : List (Nat × Nat)} {bytes : List Nat} : (s.mergedOut w o l bytes).kept := .ite (.ok (.modDesc h)) (.newtWrite h)

theorem State.memInv.openStream {w : Wk} {o : NOp} : (s.openStream w o).memInv := .ite (.modDesc h) h

theorem Nk.kept.mergeAt {w : Wk} {d : Desc} {go : State → Wk → Desc → Nk Unit} (hgo : ∀ u a2 a3, u.memInv → (go u a2 a3).kept) : (s.mergeAt w d go).kept := by
  unfold State.mergeAt
  split
  · next e => exact .ok (.of_ok e (hgo _ _ _ h))
  · next e => exact .bad (.modDesc (.of_bad e (hgo _ _ _ h)))

theorem Nk.kept.newtVals {w : Wk} {f : NFmt} {va scale e n : Nat} : (s.newtVals w f va scale e n).kept :=
  .bind (.newtGet h) (fun _ _ hu => .ite (.bind (.newtGet hu) (fun _ _ hu1 => .ok hu1)) (.ok hu))

theorem Nk.kept.attnRows {w : Wk} {o : NOp} {t : Nat} : (s.attnRows w o t).kept := .bind (.newtVals h) (fun _ _ hu => .bind (.newtVals hu) (fun _ _ hu1 => .ok hu1))

theorem Nk.kept.attnBlock {w : Wk} {o : NOp} {qb : List Byte} {recs : List ARec} {ts : List Nat} : (s.attnBlock w o qb recs ts).kept :=
  .bind (.nkFold (fun _ _ _ hu => .bind (.attnRows hu) (fun _ _ hu1 => .ok hu1)) h) (fun _ _ hu => .ok (.countEvent hu))

theorem Nk.kept.attnWork {w : Wk} {d : Desc} : (s.attnWork w d).kept :=
  .bind (.need h) (fun _ _ hu => .bind (.ite (.ok hu) (.newtGet hu)) (fun _ _ hu1 => .bind (.nkFold (fun _ _ _ hu2 => .attnBlock hu2) hu1) (fun _ _ hu2 => .ok hu2)))

theorem Nk.kept.attnFinish {w : Wk} {d : Desc} : (s.attnFinish w d).kept := .mergedOut h

theorem Nk.kept.kvWork {w : Wk} {d : Desc} : (s.kvWork w d).kept :=
  .bind (.need h) (fun _ _ hu => .nkEach (fun _ _ hu1 => .nkEach (fun _ _ hu2 => .ite (.ok hu2) (.bind (.newtVals hu2) (fun _ _ hu3 => .bind (.newtWrite hu3) (fun _
      _ hu4 => .ite (.newtWrite hu4) (.ok hu4))))) hu1) hu)

theorem Nk.kept.gatherWork {w : Wk} {d : Desc} : (s.gatherWork w d).kept :=
  .bind (.need h) (fun _ _ hu => .nkFold (fun _ _ _ hu1 => .bind (.newtNum hu1) (fun _ _ hu2 => .bind (.newtNum hu2) (fun _ _ hu3 => .nkFold (fun _ _ _ hu4 => .bind
      (.newtNum hu4) (fun _ _ hu5 => .ite (.bad hu5) (.bind (.ite (.ok hu5) (.newtNum hu5)) (fun _ _ hu6 => .nkFold (fun _ _ _ hu7 => .bind (.newtVals hu7) (fun _ _
      hu8 => .ok (.ite hu8 (.countEvent hu8)))) hu6)))) hu3))) hu)

theorem Nk.kept.gatherFinish {w : Wk} {d : Desc} : (s.gatherFinish w d).kept :=
  .bind (.nkFold (fun _ _ _ hu => .bind (.newtNum hu) (fun _ _ hu1 => .bind (.newtNum hu1) (fun _ _ hu2 => .ok hu2))) h) (fun _ _ hu => .mergedOut hu)

theorem Nk.kept.scatterPut {w : Wk} {o : NOp} {va : Nat} {bytes : List Nat} : (s.scatterPut w o va bytes).kept :=
  .ite (.newtWrite h) (.nkEach (fun _ _ hu => .bind (.newtAtom hu) (fun _ _ hu1 => .ok hu1)) (.modShare h))

theorem Nk.kept.scatterWork {w : Wk} {d : Desc} : (s.scatterWork w d).kept :=
  .bind (.need h) (fun _ _ hu => .ite (.nkEach (fun _ _ hu1 => .ite (.ok hu1) (.bind (.newtNum hu1) (fun _ _ hu2 => .ite (.bad hu2) (.ite (.ok hu2) (.scatterPut
      hu2))))) hu) (.nkEach (fun _ _ hu1 => .bind (.newtNum hu1) (fun _ _ hu2 => .ite (.bad hu2) (.ite (.ok hu2) (.nkEach (fun _ _ hu3 => .ite (.ok hu3) (.bind
      (.newtGet hu3) (fun _ _ hu4 => .scatterPut hu4))) hu2)))) hu))

theorem Nk.kept.copyWork {w : Wk} {d : Desc} : (s.copyWork w d).kept := .nkEach (fun _ _ hu => .bind (.newtRead hu) (fun _ _ hu1 => .newtOut hu1)) (.openStream h)

theorem Nk.kept.fillWork {w : Wk} {d : Desc} : (s.fillWork w d).kept := .nkEach (fun _ _ hu => .newtWrite hu) h

theorem Nk.kept.reduceSources {w : Wk} {o : NOp} : (s.reduceSources w o).kept :=
  .nkFold (fun _ _ _ hu => .bind (.newtNum hu) (fun _ _ hu1 => .ite (.ok hu1) (.bad hu1))) h

theorem Nk.kept.normOut {w : Wk} {d : Desc} {o : NOp} {j : Nat} {r : ARec} : (s.normOut w d o j r).kept := .newtOut h

theorem Nk.kept.reduceWork {w : Wk} {d : Desc} : (s.reduceWork w d).kept :=
  .bind (.need h) (fun _ _ hu => .ite (.nkEach (fun _ _ hu1 => .normOut hu1) (.openStream hu)) (.bind (.reduceSources hu) (fun _ _ hu1 => .ite (.nkEach (fun _ _ hu2
      => .bind (.nkFold (fun _ _ _ hu3 => .bind (.newtGet hu3) (fun _ _ hu4 => .ok hu4)) hu2) (fun _ _ hu3 => .newtOut hu3)) (.openStream hu1)) (.ite (.nkEach (fun
      _ _ hu2 => .bind (.newtGet hu2) (fun _ _ hu3 => .normOut hu3)) (.openStream hu1)) (.nkEach (fun _ _ hu2 => .bind (.nkFold (fun _ _ _ hu3 => .bind (.newtVals
      hu3) (fun _ _ hu4 => .ok hu4)) hu2) (fun _ _ hu3 => .newtOut hu3)) (.openStream hu1))))))

theorem Nk.kept.quantPut {w : Wk} {d : Desc} {o : NOp} {e : Nat} {vs : List FVal} : (s.quantPut w d o e vs).kept :=
  .bind (.newtOut h) (fun _ _ hu => .ite (.newtWrite hu) (.ok hu))

theorem Nk.kept.quantWork {w : Wk} {d : Desc} : (s.quantWork w d).kept :=
  .bind (.need h) (fun _ _ hu => .ite (.nkEach (fun _ _ hu1 => .quantPut hu1) (.openStream hu)) (.nkEach (fun _ _ hu1 => .bind (.newtVals hu1) (fun _ _ hu2 =>
      .quantPut hu2)) (.openStream hu)))

theorem Nk.kept.dequantWork {w : Wk} {d : Desc} : (s.dequantWork w d).kept :=
  .bind (.need h) (fun _ _ hu => .nkEach (fun _ _ hu1 => .bind (.newtVals hu1) (fun _ _ hu2 => .newtOut hu2)) (.openStream hu))

theorem Nk.kept.atomWork {w : Wk} {d : Desc} : (s.atomWork w d).kept :=
  .bind (.need h) (fun _ _ hu => .nkEach (fun _ _ hu1 => .bind (.newtNum hu1) (fun _ _ hu2 => .bind (.newtNum hu2) (fun _ _ hu3 => .bind (.ite (.newtNum hu3) (.ok
      hu3)) (fun _ _ hu4 => .bind (.newtAtom (.modShare hu4)) (fun _ _ hu5 => .ite (.ok hu5) (.newtPut hu5)))))) hu)

theorem Nk.kept.checkWork {w : Wk} {d : Desc} : (s.checkWork w d).kept :=
  .ite (.ite (.bad h) (.ite (.ok h) (.ok h))) (.nkFold (fun _ _ _ hu => .bind (.newtGet hu) (fun _ _ hu1 => .ok hu1)) h)

theorem Nk.kept.checkFinish {w : Wk} {d : Desc} : (s.checkFinish w d).kept := .newtPut h

theorem Nk.kept.remotePump {w : Wk} {d : Desc} {l : List (Nat × Nat)} : (s.remotePump w d l).kept := by
  induction l generalizing s with
  | nil => exact h
  | cons a l ih =>
    unfold State.remotePump
    exact .ite (.bind (.newtRead h) (fun _ _ hu => .ite (.ok h) (.ite (.ok h) (.ite (.bad h) (.ite (.bad h) (ih (.modShare (.sendReq hu)))))))) (.ite (.ok h) (.ite
        (.bad h) (.ite (.bad h) (ih (.modShare (.sendReq h))))))

omit h in
theorem State.memInv.shareEnd {w : Wk} {x : Nk Unit} (hx : x.kept) : (s.shareEnd w x).memInv := by
  unfold State.shareEnd
  split
  · exact .modShare hx
  · exact .modShare hx

theorem State.memInv.remoteMoved {newt desc : Nat} : (s.remoteMoved newt desc).memInv := by
  unfold State.remoteMoved
  split
  · exact .ite (.modShare h) (.ite (.modShare (.modShare h)) (.shareEnd (.remotePump (.modShare h))))
  · exact h

theorem State.memInv.remoteData {newt desc off : Nat} {data : List Byte} {mask : Nat} : (s.remoteData newt desc off data mask).memInv := by
  unfold State.remoteData
  split
  · dsimp only
    split
    · next e4 => exact .remoteMoved (.of_ok e4 (.newtWrite h))
    · next e4 => exact .modShare (.of_bad e4 (.newtWrite h))
  · exact h

theorem Nk.kept.partialDone {w : Wk} {words : List (Nat × Nat)} {tokens : Nat} {finish : State → Wk → Desc → Nk Unit} (hfinish : ∀ u a2 a3, u.memInv → (finish u a2
    a3).kept) : (s.partialDone w words tokens finish).kept := by
  unfold State.partialDone
  dsimp only
  split
  · exact .ok (.modDesc h)
  · exact .ite (.mergeAt (.modDesc h) (fun _ _ _ hu => hfinish _ _ _ hu)) (.ok (.modDesc h))

theorem State.memInv.newtRun {newt desc opcode : Nat} {go : State → Wk → Desc → Nk Unit} (hgo : ∀ u a2 a3, u.memInv → (go u a2 a3).kept) : (s.newtRun newt desc
    opcode go).memInv := by
  unfold State.newtRun
  split
  · refine .ite h (.ite (.modShare h) ?_)
    split
    · next e4 => exact .modShare (.of_ok e4 (.ite (.ok (.openStream h)) (hgo _ _ _ h)))
    · next e4 => exact .modShare (.of_bad e4 (.ite (.ok (.openStream h)) (hgo _ _ _ h)))
  · exact h

theorem State.memInv.attnPart {newt desc : Nat} : (attnPart newt desc s).memInv :=
  .newtRun h (fun _ _ _ hu => .bind (.attnWork hu) (fun _ _ hu1 => .partialDone hu1 (fun _ _ _ hu2 => .attnFinish hu2)))

theorem State.memInv.kvAppend {newt desc : Nat} : (kvAppend newt desc s).memInv := .newtRun h (fun _ _ _ hu => .kvWork hu)

theorem State.memInv.gatherReduce {newt desc : Nat} : (gatherReduce newt desc s).memInv :=
  .newtRun h (fun _ _ _ hu => .bind (.gatherWork hu) (fun _ _ hu1 => .partialDone hu1 (fun _ _ _ hu2 => .gatherFinish hu2)))

theorem State.memInv.scatter {newt desc : Nat} : (scatter newt desc s).memInv := .newtRun h (fun _ _ _ hu => .scatterWork hu)

theorem State.memInv.newtCopy {newt desc : Nat} : (newtCopy newt desc s).memInv := .newtRun h (fun _ _ _ hu => .copyWork hu)

theorem State.memInv.fill {newt desc : Nat} : (fill newt desc s).memInv := .newtRun h (fun _ _ _ hu => .fillWork hu)

theorem State.memInv.reduce {newt desc : Nat} : (reduce newt desc s).memInv := .newtRun h (fun _ _ _ hu => .reduceWork hu)

theorem State.memInv.quant {newt desc : Nat} : (quant newt desc s).memInv := .newtRun h (fun _ _ _ hu => .quantWork hu)

theorem State.memInv.dequant {newt desc : Nat} : (dequant newt desc s).memInv := .newtRun h (fun _ _ _ hu => .dequantWork hu)

theorem State.memInv.newtAtom {newt desc : Nat} : (Machine.newtAtom newt desc s).memInv := .newtRun h (fun _ _ _ hu => .atomWork hu)

theorem State.memInv.checksum {newt desc : Nat} : (checksum newt desc s).memInv :=
  .newtRun h (fun _ _ _ hu => .bind (.checkWork hu) (fun _ _ hu1 => .partialDone hu1 (fun _ _ _ hu2 => .checkFinish hu2)))

theorem State.memInv.remoteCopy {newt desc : Nat} : (remoteCopy newt desc s).memInv := by
  unfold Machine.remoteCopy
  split
  · exact .ite h (.ite (.modShare h) (.ite (.modShare h) (.ite (.modShare h) (.shareEnd (.remotePump h)))))
  · exact h

theorem State.memInv.dropShare {newt desc : Nat} : (s.dropShare newt desc).memInv := .ite (.upd (.upd h)) (.upd h)

theorem State.memInv.newtMoved {queue : Nat} : (s.newtMoved queue).memInv := .upd h

theorem State.memInv.closeShare {newt : Nat} {h2 : Share} {d : Desc} {status : Nat} : (s.closeShare newt h2 d status).memInv :=
  .newtMoved (.dropShare (.trace (.addQty (.countEvent (.modDesc (.freeVal h))))))

theorem State.memInv.newtShareComplete {newt desc : Nat} : (newtShareComplete newt desc s).memInv := by
  unfold Machine.newtShareComplete
  split
  · refine .ite h (.ite (.closeShare h) (.ite h ?_))
    dsimp only
    split
    · exact .ite (.addQty (.closeShare (.countEvent h))) (.closeShare (.countEvent h))
    · exact .closeShare (.countEvent h)
  · exact h

theorem State.memInv.newtShareFault {newt desc status : Nat} : (newtShareFault newt desc status s).memInv := by
  unfold Machine.newtShareFault
  split
  · refine .ite h (.killAt (.foldl (fun _ _ hu => .pushNwt ?_) (.modDesc (.pushNwt (.closeShare h)))))
    split
    · exact .ite (.closeShare (.upd hu)) (.modDesc (.dropShare (.upd hu)))
    · exact .modDesc (.upd hu)
  · exact h

theorem State.memInv.newtDescriptorComplete {desc : Nat} : (newtDescriptorComplete desc s).memInv := by
  unfold Machine.newtDescriptorComplete
  split
  · exact h
  · exact .ite h (.ite (.upd h) (.ite (.ite (.killAt (.ite_snd (.upd h) (.writeV (.upd h)))) (.ite_snd (.upd h) (.writeV (.upd h)))) (.ite (.killAt (.ite (.killAt
      (.ite_snd (.upd h) (.writeV (.upd h)))) (.ite_snd (.upd h) (.writeV (.upd h))))) (.nodeDone (.ite (.killAt (.ite_snd (.upd h) (.writeV (.upd h)))) (.ite_snd
      (.upd h) (.writeV (.upd h))))))))

theorem State.memInv.downNewt {n : Nat} : (s.downNewt n).memInv :=
  .ite (.upd (.ite (.ite h (.raiseNwt (.addNum (.upd h)))) (.raiseNwt (.ite h (.raiseNwt (.addNum (.upd h))))))) (.wakeNewt (.upd (.ite (.ite h (.raiseNwt (.addNum
      (.upd h)))) (.raiseNwt (.ite h (.raiseNwt (.addNum (.upd h))))))))

theorem State.memInv.failNewt {n : Nat} : (s.failNewt n).memInv := .ite h (.faultRecord (.downNewt h))

theorem State.memInv.newtFail {newt : Nat} : (newtFail newt s).memInv := .failNewt h

theorem State.memInv.newtStallTimeout {newt : Nat} : (newtStallTimeout newt s).memInv := .ite (.failNewt h) h

theorem State.memInv.newtIdleGate {newt : Nat} : (newtIdleGate newt s).memInv := .ite h (.upd h)

theorem State.memInv.pageWalk {fn va : Nat} {access : Access} : (pageWalk fn va access s).memInv := by
  unfold Machine.pageWalk
  split
  · exact h
  · split
    · exact h
    · exact .ite (.cacheLeaf h) h

end

/-! Machine/Stack. -/

section
variable {s : State} (h : s.memInv)
include h

theorem State.memInv.miscorrect {data : List Byte} : (s.miscorrect data).2.memInv := by
  rw [State.miscorrect]
  dsimp only
  split
  · exact .pair (.freeVal h)
  · exact .pair (.freeVal (.freeVal h))

theorem State.memInv.decoded {g : Nat} {data : List Byte} {errs : List (Nat × Nat)} : (s.decoded g data errs).2.memInv := by
  unfold State.decoded
  dsimp only
  split
  · exact h
  · exact h
  · refine .ite_snd h ?_
    split
    · exact h
    · split
      · next e3 => exact .of_snd e3 (.miscorrect h)
      · next e3 => exact .of_snd e3 (.miscorrect h)

theorem State.memInv.logStorage {g pos : Nat} : (s.logStorage g pos).memInv := .pushStk (.raiseStk (.addNum h))

theorem State.memInv.noteStorage {g pos : Nat} : (s.noteStorage g pos).memInv := .upd (.logStorage h)

theorem State.memInv.makePoison {g : Nat} {stored : Bool} : (s.makePoison g stored).memInv :=
  .faultRecord (.pushStk (.raiseStk (.addNum (.ite (.poisonGranule h) h))))

theorem State.memInv.returnGranule {data : List Byte} {poison : Bool} : (s.returnGranule data poison).memInv := .upd h

theorem State.memInv.noteFixed {g : Nat} {fixed : Option Nat} {back : Bool} : (s.noteFixed g fixed back).memInv := by
  unfold State.noteFixed
  split
  · exact h
  · exact .ite (.upd (.noteStorage h)) (.noteStorage h)

theorem State.memInv.bankAccess {g : Nat} {errs : List (Nat × Nat)} {back : Bool} : (s.bankAccess g errs back).memInv := by
  refine .ite (.returnGranule h) ?_
  split
  · next e => exact .returnGranule (.noteFixed (.of_snd e (.decoded h)))
  · next e => exact .returnGranule (.of_snd e (.decoded h))
  · next e => exact .upd (.of_snd e (.decoded h))

theorem State.memInv.baseDieRead {pa : Nat} {errs : List (Nat × Nat)} : (baseDieRead pa errs s).memInv := .ite h (.bankAccess h)

theorem State.memInv.poisonReread {pa : Nat} {errs : List (Nat × Nat)} : (poisonReread pa errs s).memInv := by
  refine .ite h (.ite (.returnGranule (.upd h)) ?_)
  split
  · next e =>
      split
      · exact .returnGranule (.logStorage (.of_snd e (.decoded (.upd h))))
      · exact .returnGranule (.of_snd e (.decoded (.upd h)))
  · next e => exact .returnGranule (.noteFixed (.of_snd e (.decoded (.upd h))))
  · next e => exact .returnGranule (.of_snd e (.decoded (.upd h)))
  · next e => exact .returnGranule (.makePoison (.of_snd e (.decoded (.upd h))))

theorem State.memInv.noteLink {g pos : Nat} : (s.noteLink g pos).memInv := .upd (.pushStk (.raiseStk (.addNum h)))

theorem State.memInv.noteLinkFixed {g : Nat} {y : Option Nat} : (s.noteLinkFixed g y).memInv := by
  unfold State.noteLinkFixed
  split
  · exact h
  · exact .noteLink h

theorem State.memInv.baseDieWrite {pa : Nat} {data : List Byte} {mask : Nat} {errs : List (Nat × Nat)} : (baseDieWrite pa data mask errs s).memInv := by
  refine .ite h ?_
  split
  · next e => exact .ite (.bankGranule (.noteLinkFixed (.of_snd e (.decoded h)))) (.foldl (fun _ _ hu => .bankGranule hu) (.noteLinkFixed (.of_snd e (.decoded h))))
  · next e => exact .poisonGranule (.of_snd e (.decoded h))
  · next e => exact .makePoison (.of_snd e (.decoded h))

theorem State.memInv.transferJudge {g0 : Nat} {write : Bool} {data : List Byte} {errs : List (Nat × Nat × Nat)} : (s.transferJudge g0 write data errs).2.memInv :=
  .foldl_snd (fun _ _ hu => .ite_snd hu (.decoded hu)) h

theorem State.memInv.transferLand {g : Nat} {write : Bool} {d : Decoded} : (s.transferLand g write d).memInv := by
  unfold State.transferLand
  split
  · exact .ite (.bankGranule h) (.returnGranule h)
  · exact .ite (.poisonGranule h) (.returnGranule h)
  · exact .ite (.makePoison h) (.returnGranule (.makePoison h))

theorem State.memInv.d2dTransferReceive {pa : Nat} {write : Bool} {data : List Byte} {errs : List (Nat × Nat × Nat)} : (d2dTransferReceive pa write data errs
    s).memInv := by
  refine .ite h (.ite (.upd (.foldl (fun _ _ hu => ?_) (.transferJudge h))) (.foldl (fun _ _ hu => .transferLand hu) (.upd (.foldl (fun _ _ hu => ?_)
      (.transferJudge h)))))
  · split
    · exact .noteLinkFixed hu
    · exact hu
  · split
    · exact .noteLinkFixed hu
    · exact hu

theorem State.memInv.patrolScrubRead {errs : List (Nat × Nat)} : (patrolScrubRead errs s).memInv :=
  .ite h (.ite (.upd (.upd (.bankAccess h))) (.upd (.upd (.bankAccess h))))

theorem State.memInv.demandScrubWriteback {pa : Nat} : (demandScrubWriteback pa s).memInv := .upd h

theorem State.memInv.rowSpare {channel row : Nat} : (rowSpare channel row s).memInv := by
  unfold Machine.rowSpare
  dsimp only
  split
  · exact h
  · exact .ite h (.ite (.faultRecord (.pushStk (.raiseStk (.upd h)))) (.upd h))

theorem State.memInv.rowSpareComplete {channel row : Nat} : (rowSpareComplete channel row s).memInv := by
  unfold Machine.rowSpareComplete
  dsimp only
  split
  · exact h
  · exact .faultRecord (.pushStk (.raiseStk (.addNum (.upd h))))

theorem State.memInv.failChannels {stack mask : Nat} : (s.failChannels stack mask).memInv :=
  .foldl (fun _ _ hu => .downNewt hu) (.setNum (.ite (.returnGranule (.upd h)) (.upd h)))

theorem State.memInv.failStack {stack : Nat} : (s.failStack stack).memInv := .ite h (.faultRecord (.pushStk (.raiseStk (.failChannels (.upd h)))))

theorem State.memInv.failChannel {ch : Nat} : (s.failChannel ch).memInv := .ite h (.faultRecord (.pushStk (.raiseStk (.failChannels h))))

theorem State.memInv.retireDie {stack pos interruption : Nat} : (s.retireDie stack pos interruption).memInv :=
  .ite (.failStack h) (.faultRecord (.pushStk (.raiseStk (.setNum h))))

theorem State.memInv.dieRetireStart {stack pos : Nat} : (dieRetireStart stack pos s).memInv := .ite h (.ite (.failStack (.upd h)) (.upd (.upd h)))

theorem State.memInv.dieRetireComplete {stack : Nat} : (dieRetireComplete stack s).memInv := by
  unfold Machine.dieRetireComplete
  split
  · exact h
  · exact .retireDie (.upd h)

theorem State.memInv.pinGroupRetire {channel pos : Nat} : (pinGroupRetire channel pos s).memInv :=
  .ite h (.ite (.failChannel (.upd h)) (.faultRecord (.pushStk (.raiseStk (.upd (.upd h))))))

theorem State.memInv.baseDieStallTimeout {stack : Nat} : (baseDieStallTimeout stack s).memInv := .failStack h

theorem State.memInv.rowModeWrite {who : Origin} {row value : Nat} : (rowModeWrite who row value s).memInv := .ite (.answer h) (.deviceWrite h (fun _ hu => .upd hu))

theorem State.memInv.rowZeroComplete {row : Nat} : (rowZeroComplete row s).memInv := .ite (.zeroRange (.upd h)) h

end

end Sys2Proof.Machine
end

section
/-! Device memory stays canonical (R47, R57): the operations of Machine/Functions, Machine/Links, Machine/Optics, Machine/TimeBase, Machine/Update, Machine/Resets, Machine/Units, Machine/Power, Machine/Service, Machine/Entries. -/

namespace Sys2Proof.Machine

/-! Machine/Functions. -/

section
variable {s : State} (h : s.memInv)
include h

theorem State.memInv.fnPoint {f : Nat} : (s.fnPoint f).memInv := .ite (.modCntFn (.foldl (fun _ _ hu => .modTrc hu) h)) (.foldl (fun _ _ hu => .modTrc hu) h)

theorem State.memInv.qpsError {f : Nat} : (s.qpsError f).memInv := .ite (.raiseSvc (.upd h)) (.upd h)

theorem State.memInv.startFlr {f : Nat} {run : ResetRun} : (s.startFlr f run).memInv := by
  unfold State.startFlr
  split
  · exact .ite (.modFn h) h
  · exact .fnPoint (.qpsError (.stopShares (.upd (.modFn h))))

theorem State.memInv.settleFn {f : Nat} : (s.settleFn f).memInv := .foldl (fun _ _ hu => .ite (.modQ (.settle hu)) hu) h

theorem State.memInv.errorOwned {f : Nat} : (s.errorOwned f).memInv := .foldl (fun _ _ hu => .ite (.objError hu) hu) h

theorem State.memInv.fnEvent {f : Nat} : (s.fnEvent f).memInv := .signal (.upd (.addNum h))

theorem State.memInv.finishFlr {f : Nat} : (s.finishFlr f).memInv := .fnEvent (.modFn (.upd (.foldl (fun _ _ hu => .clearCntQ (.dropWork hu)) (.errorOwned h))))

theorem State.memInv.clearCore {c : Nat} : (s.clearCore c).memInv := .ite (.modCore h) h

theorem State.memInv.finishPartition {p : Nat} : (s.finishPartition p).memInv := by
  unfold State.finishPartition
  exact .modPart (.foldl (fun _ _ hu => .dropCopy hu) (.foldl (fun _ _ hu => .dropReplica hu) (.foldl (fun _ _ hu => .lineToI hu) (.foldl (fun _ _ hu => .clearCore
      hu) h))))

theorem State.memInv.finishTied : s.finishTied.memInv :=
  .ite (.pushFab (.raiseFab (.upd (.foldl (fun _ _ hu => .objError hu) (.foldl (fun _ _ hu => .clearCore hu) (.upd (.foldl (fun _ _ hu => .foldl (fun _ _ hu1 =>
      .poisonGranule hu1) hu) (.foldl (fun _ _ hu => .writeBack hu) (.upd h))))))))) (.foldl (fun _ _ hu => .objError hu) (.foldl (fun _ _ hu => .clearCore hu)
      (.upd (.foldl (fun _ _ hu => .foldl (fun _ _ hu1 => .poisonGranule hu1) hu) (.foldl (fun _ _ hu => .writeBack hu) (.upd h))))))

theorem State.memInv.flrWith {f : Nat} : (s.flrWith f).memInv :=
  .ite (.foldl (fun _ _ hu => .ite hu (.logReset (.startFlr hu))) (.upd (.ite h (.logReset (.startFlr h))))) (.ite h (.logReset (.startFlr h)))

theorem State.memInv.flr {who : Origin} {fn : Nat} : (flr who fn s).memInv :=
  .ite (.ite (.flrWith h) h) (.ite (.answer h) (.triggerWrite h (fun _ hu => .flrWith hu)))

theorem State.memInv.flrComplete {fn : Nat} : (flrComplete fn s).memInv := by
  unfold Machine.flrComplete
  split
  · exact h
  · exact .ite (.foldl (fun _ _ hu => .settleFn hu) h) (.ite (.finishPartition (.foldl (fun _ _ hu => .finishFlr hu) (.foldl (fun _ _ hu => .settleFn hu) h))) (.ite
      (.finishTied (.foldl (fun _ _ hu => .finishFlr hu) (.foldl (fun _ _ hu => .settleFn hu) h))) (.foldl (fun _ _ hu => .finishFlr hu) (.foldl (fun _ _ hu =>
      .settleFn hu) h))))

theorem State.memInv.fnDisable {who : Origin} {fn : Nat} : (fnDisable who fn s).memInv :=
  .ite (.answer h) (.deviceWrite h (fun _ hu => .ite (.qpsError (.signal (.modFn hu))) hu))

theorem State.memInv.drainWindowExpire {queue : Nat} : (drainWindowExpire queue s).memInv := .ite h (.kill h)

theorem State.memInv.disablePoint {fn : Nat} : (disablePoint fn s).memInv := .ite h (.fnPoint (.modFn h))

theorem State.memInv.disableComplete {fn : Nat} : (disableComplete fn s).memInv :=
  .ite h (.fnEvent (.modFn (.upd (.foldl (fun _ _ hu => .clearCntQ (.dropWork hu)) (.errorOwned h)))))

theorem State.memInv.fnEnable {who : Origin} {fn : Nat} : (fnEnable who fn s).memInv := .ite (.answer h) (.deviceWrite h (fun _ hu => .ite (.modFn hu) hu))

theorem State.memInv.partitionReset {who : Origin} {partition : Nat} : (partitionReset who partition s).memInv :=
  .ite (.answer h) (.triggerWrite h (fun _ hu => .ite (.foldl (fun _ _ hu1 => .startFlr hu1) (.upd (.foldl (fun _ _ hu1 => .startFlr hu1) (.logReset hu)))) (.ite
      (.finishPartition (.foldl (fun _ _ hu1 => .startFlr hu1) (.logReset hu))) (.foldl (fun _ _ hu1 => .startFlr hu1) (.logReset hu)))))

theorem State.memInv.partitionQmaskWrite {who : Origin} {partition value : Nat} : (partitionQmaskWrite who partition value s).memInv :=
  .ite (.answer h) (.ite (.deviceWrite h (fun _ hu => hu)) (.deviceWrite (.linesToI h) (fun _ hu => .foldl (fun _ _ hu1 => .modCore hu1) (.modPart hu))))

theorem State.memInv.writeSlab {who : Origin} {slab value : Nat} : (s.writeSlab who slab value).memInv :=
  .ite (.answer h) (.ite (.deviceWrite h (fun _ hu => hu)) (.ite (.deviceWrite h (fun _ hu => hu)) (.ite (.deviceWrite (.ite h (.linesToI h)) (fun _ hu => .foldl
      (fun _ _ hu1 => .signal (.modFn hu1)) (.modPart hu))) (.ite (.deviceWrite h (fun _ hu => hu)) (.ite (.deviceWrite h (fun _ hu => hu)) (.deviceWrite (.linesToI
      h) (fun _ hu => .upd (.modPart hu))))))))

theorem State.memInv.slabGrant {who : Origin} {slab partition : Nat} : (slabGrant who slab partition s).memInv := .writeSlab h

theorem State.memInv.slabRelease {who : Origin} {slab : Nat} : (slabRelease who slab s).memInv := .writeSlab h

theorem State.memInv.slabZeroComplete {slab : Nat} : (slabZeroComplete slab s).memInv := .ite (.zeroRange (.upd (.linesToI h))) h

theorem State.memInv.fnPartitionWrite {who : Origin} {fn partition : Nat} : (fnPartitionWrite who fn partition s).memInv :=
  .ite (.answer h) (.deviceWrite h (fun _ hu => hu))

theorem State.memInv.vfEnableWrite {enable : Bool} {numVfs : Nat} : (vfEnableWrite enable numVfs s).memInv :=
  .ite h (.ite (.ite h (.foldl (fun _ _ hu => .flrWith hu) (.upd h))) (.ite (.upd h) (.foldl (fun _ _ hu => .ite (.modFn hu) hu) (.upd h))))

theorem State.memInv.d3hotEntry {fn : Nat} : (d3hotEntry fn s).memInv := .ite h (.flrWith (.modFn h))

end

/-! Machine/Links. -/

section
variable {s : State} (h : s.memInv)
include h

theorem State.memInv.traceLink {l state peer : Nat} : (s.traceLink l state peer).memInv := .trace h

theorem State.memInv.loseRoutes : s.loseRoutes.memInv := .ite (.upd h) h

theorem State.memInv.resendFrom {l : Nat} : (s.resendFrom l).memInv := by
  refine .foldl (fun _ _ hu => .ite ?_ hu) (.upd h)
  split
  · exact .countSent hu
  · exact hu

theorem State.memInv.dropLink {l : Nat} : (s.dropLink l).memInv :=
  .ite h (.ite (.traceLink (.upd (.modLink h))) (.faultRecord (.loseRoutes (.resendFrom (.traceLink (.pushFab (.raiseFab (.upd (.modLink h)))))))))

theorem State.memInv.linkDown {link : Nat} : (linkDown link s).memInv := .dropLink h

theorem State.memInv.laneDrop {link : Nat} : (laneDrop link s).memInv := .ite h (.ite (.dropLink (.pushFab (.raiseFab h))) (.modLink (.pushFab (.raiseFab h))))

theorem State.memInv.linkRetrainComplete {link : Nat} : (linkRetrainComplete link s).memInv := by
  unfold Machine.linkRetrainComplete
  split
  · exact h
  · exact .faultRecord (.modLink h)

theorem State.memInv.flitReceive {link seq : Nat} {good corrected : Bool} : (flitReceive link seq good corrected s).memInv :=
  .ite h (.ite (.ite (.countEvent (.modLink (.addNum h))) (.addNum h)) (.ite h (.countEvent (.addNum (.modLink h)))))

theorem State.memInv.linkTrainingAttempt {link : Nat} : (linkTrainingAttempt link s).memInv := .ite h (.traceLink (.modLink h))

theorem State.memInv.configError {link chip : Nat} : (s.configError link chip).memInv := .pushFab (.raiseFab h)

theorem State.memInv.setPorts : s.setPorts.memInv := .foldl (fun _ _ hu => .modLink hu) h

theorem State.memInv.holdPort {p link : Nat} : (s.holdPort p link).memInv :=
  .configError (.loseRoutes (.foldl (fun _ _ hu => .traceLink (.resendFrom hu)) (.foldl (fun _ _ hu => .modLink hu) h)))

theorem State.memInv.formTie {peer : Nat} : (s.formTie peer).memInv := .ite h (.ite (.configError (.upd h)) (.ite (.upd h) h))

theorem State.memInv.linkTrainingComplete {link peer peerLink lanes : Nat} {peerTie : List Nat} : (linkTrainingComplete link peer peerLink lanes peerTie s).memInv :=
  .ite h (.ite (.configError (.traceLink (.modLink (.upd h)))) (.ite (.holdPort (.modLink (.upd h))) (.formTie (.ite (.traceLink (.pushFab (.raiseFab (.setPorts
      (.modLink (.upd h)))))) (.upd (.traceLink (.pushFab (.raiseFab (.setPorts (.modLink (.upd h)))))))))))

theorem State.memInv.linkState {pkt : Packet} {valley mask : Nat} {reachable passes : List Nat} : (linkState pkt valley mask reachable passes s).memInv :=
  .ite (.ite h (.logRefused h)) (.upd h)

theorem State.memInv.requestResend {req link : Nat} : (requestResend req link s).memInv := by
  unfold Machine.requestResend
  split
  · exact h
  · exact .ite h (.ite h (.countSent (.upd h)))

theorem State.memInv.passOccupancyAdvert {pkt : Packet} {valley occupancy : Nat} : (passOccupancyAdvert pkt valley occupancy s).memInv :=
  .ite (.ite h (.logRefused h)) (.ite h (.upd h))

theorem State.memInv.codeFailed {c slot pc : Nat} {r : Req} {code : Nat} : (s.codeFailed c slot pc r code).memInv := by
  unfold State.codeFailed
  split
  · exact .ite (.coreFault h) (.kill h)
  · exact .kill h

theorem State.memInv.reqFailed {id : Nat} {r : Req} {code : Nat} : (s.reqFailed id r code).memInv := by
  unfold State.reqFailed
  dsimp only
  split
  · split
    · exact .kill (.upd h)
    · exact .ite (.upd h) (.coreFault (.upd h))
  · split
    · exact .kill (.upd h)
    · exact .coreFault (.upd h)
  · exact .kill (.dropEntry (.upd h))
  · exact .codeFailed (.upd h)
  · exact .kill (.upd h)
  · exact .faultWho (.upd h)
  · exact .upd h
  · exact .upd h
  · exact .upd h
  · exact .upd h
  · exact .kill (.upd h)

theorem State.memInv.chipUnreachable {chip : Nat} : (chipUnreachable chip s).memInv := by
  unfold Machine.chipUnreachable
  split
  · exact h
  · exact .ite h (.faultRecord (.ite (.loseDomain (.foldl (fun _ _ hu => .collKill hu) (.foldl (fun _ _ hu => .killWaiter hu) (.upd (.foldl (fun _ _ hu =>
      .reqFailed hu) (.pushFab (.raiseFab (.upd h)))))))) (.foldl (fun _ _ hu => .collKill hu) (.foldl (fun _ _ hu => .killWaiter hu) (.upd (.foldl (fun _ _ hu =>
      .reqFailed hu) (.pushFab (.raiseFab (.upd h)))))))))

theorem State.memInv.chipReachableAgain {chip : Nat} : (chipReachableAgain chip s).memInv := .ite h (.ite (.pushFab (.upd h)) (.upd h))

end

/-! Machine/Optics. -/

section
variable {s : State} (h : s.memInv)
include h

theorem State.memInv.setGroup {eg v : Nat} {moved : Option (Nat × Option Nat)} : (s.setGroup eg v moved).memInv := .modOe h

theorem State.memInv.moveGroup {eg m : Nat} {lost : Option Nat} : (s.moveGroup eg m lost).memInv := .raiseOpt (.modOe (.setGroup h))

theorem State.memInv.darkGroup {eg : Nat} : (s.darkGroup eg).memInv := .foldl (fun _ _ hu => .dropLink hu) (.setGroup h)

theorem State.memInv.rehome {eg j : Nat} {lost : Option Nat} : (s.rehome eg j lost).memInv := by
  unfold State.rehome
  split
  · exact .moveGroup h
  · exact .darkGroup h

theorem State.memInv.logLaser {j flags : Nat} : (s.logLaser j flags).memInv := .logInternal h

theorem State.memInv.failLaser {j : Nat} : (s.failLaser j).memInv :=
  .ite (.foldl (fun _ _ hu => .rehome hu) (.upd (.raiseOpt (.modLaser h)))) (.faultRecord (.foldl (fun _ _ hu => .rehome hu) (.upd (.raiseOpt (.modLaser h)))))

theorem State.memInv.laserLightLoss {laser : Nat} : (laserLightLoss laser s).memInv := .ite (.failLaser h) h

theorem State.memInv.cmisAlarmPoll {laser flags : Nat} : (cmisAlarmPoll laser flags s).memInv := .ite h (.logLaser (.failLaser h))

theorem State.memInv.planMoves {j : Nat} : (s.planMoves j).memInv := .upd h

theorem State.memInv.calibrate {j : Nat} : (s.calibrate j).memInv := .modLaser h

theorem State.memInv.drained {j : Nat} : (s.drained j).memInv := .ite h (.ite (.calibrate h) (.ite (.raiseOpt (.modLaser h)) h))

theorem State.memInv.laserReady {j : Nat} : (s.laserReady j).memInv :=
  .ite (.upd (.foldl (fun _ _ hu => .setGroup hu) (.modLaser h))) (.foldl (fun _ _ hu => .setGroup hu) (.modLaser h))

theorem State.memInv.plannedMove : (plannedMove s).memInv := by
  unfold Machine.plannedMove
  split
  · exact h
  · refine .ite h ?_
    dsimp only
    split
    · exact .upd h
    · exact .drained (.ite (.moveGroup (.upd h)) (.ite (.darkGroup (.upd h)) (.upd h)))

theorem State.memInv.laneGroupSwitchover {engine group : Nat} : (laneGroupSwitchover engine group s).memInv := by
  unfold Machine.laneGroupSwitchover
  dsimp only
  split
  · exact h
  · refine .ite h ?_
    split
    · exact .ite (.modOe h) (.faultRecord (.modOe h))
    · exact .modOe h

theorem State.memInv.laserService {who : Origin} {laser : Nat} : (laserService who laser s).memInv :=
  .ite (.answer h) (.ite (.answer h) (.ite (.answer h) (.ite (.drained (.planMoves (.modLaser (.modLaser (.dictLogged h))))) (.ite (.raiseOpt (.modLaser (.modLaser
      (.dictLogged h)))) (.modLaser (.dictLogged h))))))

theorem State.memInv.laserInsert {laser : Nat} {identity : List Byte} {bayChip bayEpoch : Nat} {readable : Bool} : (laserInsert laser identity bayChip bayEpoch
    readable s).memInv :=
  .ite h (.ite (.modLaser h) (.ite (.calibrate (.modLaser (.raiseOpt h))) (.logLaser (.raiseOpt (.modLaser (.raiseOpt h))))))

theorem State.memInv.laserCalibrationComplete {laser : Nat} {passed : Bool} {flags : Nat} : (laserCalibrationComplete laser passed flags s).memInv :=
  .ite h (.ite (.raiseOpt (.laserReady (.setBlob (.modLaser h)))) (.logLaser (.raiseOpt (.modLaser h))))

theorem State.memInv.laserRecalibrate {who : Origin} {laser : Nat} : (laserRecalibrate who laser s).memInv :=
  .ite (.answer h) (.triggerWrite h (fun _ hu => .ite hu (.ite (.drained (.planMoves (.modLaser hu))) (.calibrate hu))))

theorem State.memInv.laserRemove {laser : Nat} : (laserRemove laser s).memInv := .ite (.modLaser h) h

theorem State.memInv.laserTelemetryPoll {laser : Nat} {bytes : List Byte} : (laserTelemetryPoll laser bytes s).memInv := .ite (.modLaser h) h

theorem State.memInv.laserLifeHour {laser temp : Nat} : (laserLifeHour laser temp s).memInv := .ite h (.ite (.raiseOpt (.modLaser h)) (.modLaser h))

theorem State.memInv.failOe {e : Nat} : (s.failOe e).memInv := .ite h (.faultRecord (.foldl (fun _ _ hu => .dropLink hu) (.raiseOpt (.modOe h))))

theorem State.memInv.oeFail {engine : Nat} : (oeFail engine s).memInv := .ite (.failOe h) h

end

/-! Machine/TimeBase. -/

section
variable {s : State} (h : s.memInv)
include h

theorem State.memInv.opPointRequest {who : Origin} {value : Nat} : (opPointRequest who value s).memInv := .deviceWrite h (fun _ hu => .upd hu)

theorem State.memInv.opPointRampComplete : (opPointRampComplete s).memInv := by
  unfold Machine.opPointRampComplete
  split
  · exact h
  · exact .setNum (.upd h)

theorem State.memInv.gtbResyncPulse : (gtbResyncPulse s).memInv := .upd h

theorem State.memInv.rateLiveUpdate {domain rate : Nat} : (rateLiveUpdate domain rate s).memInv := .ite (.setNum h) h

theorem State.memInv.timeMasterElection {counts : List (Nat × Nat)} : (timeMasterElection counts s).memInv := .ite (.upd h) (.ite (.upd h) (.upd h))

theorem State.memInv.fabricTimeSend {link : Nat} : (fabricTimeSend link s).memInv := by
  refine .ite h ?_
  split
  · exact .ite h (.upd h)
  · exact .upd h

theorem State.memInv.stepTo {g : Nat} : (s.stepTo g).memInv := .upd h

theorem State.memInv.alignBy {first : Bool} {ahead : ℤ} : (s.alignBy first ahead).memInv := .ite (.stepTo h) (.upd h)

theorem State.memInv.fabricTime {link chip t2 t3 : Nat} {hop : ℤ} : (fabricTime link chip t2 t3 hop s).memInv := by
  unfold Machine.fabricTime
  split
  · exact h
  · exact .ite h (.ite (.upd h) (.upd (.alignBy (.upd h))))

theorem State.memInv.gtbHoldoverEnter : (gtbHoldoverEnter s).memInv := by
  unfold Machine.gtbHoldoverEnter
  split
  · exact h
  · exact .ite h (.upd h)

theorem State.memInv.holdoverLockExpire : (holdoverLockExpire s).memInv := .ite (.upd h) h

theorem State.memInv.ptpMessageReceive {port domain time : Nat} : (ptpMessageReceive port domain time s).memInv := .ite h (.upd (.alignBy h))

theorem State.memInv.ptpDrop : s.ptpDrop.memInv := .ite h (.upd h)

theorem State.memInv.ptpReferenceLoss : (ptpReferenceLoss s).memInv := .ptpDrop h

end

/-! Machine/Update. -/

section
variable {s : State} (h : s.memInv)
include h

theorem State.memInv.logRecordAppend {type : Nat} {old new : List Byte} : (logRecordAppend type old new s).memInv := .logInternal h

theorem State.memInv.logAppend {who : Origin} {note : List Byte} : (logAppend who note s).memInv := .ite (.answer h) (.ite (.answer h) (.answer (.appendLog h)))

theorem State.memInv.errLogPersistCopy {rec0 : Nat} : (errLogPersistCopy rec0 s).memInv := .ite (.logInternal (.upd h)) h

theorem State.memInv.sensorMoved {n before : Nat} : (s.sensorMoved n before).memInv := .ite h (.raiseMgt (.logInternal h))

theorem State.memInv.sensorRead {sensor value : Nat} {readable : Bool} : (sensorRead sensor value readable s).memInv :=
  .ite h (.ite (.sensorMoved (.setNum (.upd h))) (.sensorMoved (.upd h)))

theorem State.memInv.setSlot {n : Nat} {x : Slot} : (s.setSlot n x).memInv := .ite (.upd h) (.upd h)

theorem State.memInv.upMove {u : UpState} : (s.upMove u).memInv := .ite h (.raiseMgt (.upd h))

theorem State.memInv.upLog {step slot version : Nat} : (s.upLog step slot version).memInv := .logInternal h

theorem State.memInv.dropImageAsm : s.dropImageAsm.memInv := .upd h

theorem State.memInv.upControl {w : Origin} {v : Nat} {accepted : Bool} {effect : State → State} (heffect : ∀ u, u.memInv → (effect u).memInv) : (s.upControl w v
    accepted effect).memInv :=
  .triggerWrite h (fun _ hu => heffect _ hu)

theorem State.memInv.updateBegin {who : Origin} : (updateBegin who s).memInv :=
  .upControl h (fun _ hu => .upMove (.upLog (.setNum (.upd (.dropImageAsm (.setSlot hu))))))

theorem State.memInv.setImage {image : List Byte} : (s.setImage image).memInv := .setNum (.setSlot h)

theorem State.memInv.updateImageSegment {who : Origin} {off : Nat} {bytes : List Byte} {last : Bool} : (updateImageSegment who off bytes last s).memInv :=
  .ite (.answer h) (.ite (.answer h) (.ite (.answer h) (.ite (.answer (.dropImageAsm (.setImage h))) (.ite (.answer h) (.ite (.dictLogged (.dropImageAsm (.setImage
      h))) (.answer (.upd (.dropImageAsm (.setImage h)))))))))

theorem State.memInv.updateVerify {who : Origin} : (updateVerify who s).memInv :=
  .upControl h (fun _ hu => .upMove (.upLog (.ite (.setSlot (.upd (.upMove (.dropImageAsm hu)))) (.upd (.upMove (.dropImageAsm hu))))))

theorem State.memInv.updateActivate {who : Origin} : (updateActivate who s).memInv := .upControl h (fun _ hu => .upMove (.upLog (.upd (.setSlot hu))))

theorem State.memInv.commitTrial : s.commitTrial.memInv := .upMove (.upd (.upLog (.setNum (.ite (.setNum (.setNum h)) (.setNum h)))))

theorem State.memInv.updateCommit {who : Origin} : (updateCommit who s).memInv := .upControl h (fun _ hu => .commitTrial hu)

theorem State.memInv.updateAbort {who : Origin} : (updateAbort who s).memInv :=
  .upControl h (fun _ hu => .upMove (.upLog (.setNum (.upd (.dropImageAsm (.setSlot hu))))))

theorem State.memInv.endSession : s.endSession.memInv := by
  unfold State.endSession
  split
  · exact .upMove (.upd (.dropImageAsm (.setSlot h)))
  · exact .upMove (.upd (.dropImageAsm (.setSlot h)))
  · exact .upMove (.upd (.dropImageAsm (.setSlot h)))
  · exact .dropImageAsm h

theorem State.memInv.segmentAssemblyTimeout {index : Nat} : (segmentAssemblyTimeout index s).memInv := by
  unfold Machine.segmentAssemblyTimeout
  split
  · exact .ite (.ite (.setImage (.upd h)) (.upd h)) h
  · exact h

theorem State.memInv.debugKill {who : Origin} {queue : Nat} : (debugKill who queue s).memInv := .triggerWrite h (fun _ hu => .kill hu)

end

/-! Machine/Resets. -/

section
variable {s : State} (h : s.memInv)
include h

theorem State.memInv.tellRemoteWaiters : s.tellRemoteWaiters.memInv := by
  refine .foldl (fun _ _ hu => ?_) h
  split
  · exact .respond hu
  · exact hu

omit h in
theorem State.memInv.wipe {kind : Nat} : (s.wipe kind).memInv := .blank

theorem State.memInv.stopDomains : s.stopDomains.memInv := .upd h

theorem State.memInv.reloadReplicas {resync : Bool} : (s.reloadReplicas resync).memInv := .upd h

theorem State.memInv.railsOff : s.railsOff.memInv := .stopDomains (.upd h)

theorem State.memInv.startSequence : s.startSequence.memInv := .ite (.upd h) h

theorem State.memInv.bootRecord {reason : Nat} : (s.bootRecord reason).memInv := .logInternal (.addNum h)

theorem State.memInv.bootFrom {slot reason : Nat} {trial : Bool} : (s.bootFrom slot reason trial).memInv := .bootRecord (.upd h)

theorem State.memInv.endTrial : s.endTrial.memInv := by
  unfold State.endTrial
  split
  · exact .upMove (.upd h)
  · exact .upMove (.upd h)
  · exact h

theorem State.memInv.boot {reason : Nat} {aOk bOk : Bool} : (s.boot reason aOk bOk).memInv :=
  .ite (.bootFrom (.ite (.endTrial (.upd h)) (.upd h))) (.bootFrom (.upd (.bootFrom (.ite (.endTrial (.upd h)) (.upd h)))))

theorem State.memInv.resetMgt {kind code reason : Nat} {aOk bOk : Bool} : (s.resetMgt kind code reason aOk bOk).memInv := .boot (.logReset (.upd (.endSession h)))

theorem State.memInv.auxSupplyValid {aOk bOk : Bool} : (auxSupplyValid aOk bOk s).memInv := .ite h (.startSequence (.stopDomains .wipe))

theorem State.memInv.auxSupplyLoss : (auxSupplyLoss s).memInv := .ite h (.upd (.railsOff .wipe))

theorem State.memInv.mainSupplyValid : (mainSupplyValid s).memInv := .ite h (.startSequence (.upd h))

theorem State.memInv.dropVolatile : s.dropVolatile.memInv := .upd h

theorem State.memInv.mainSupplyLoss : (mainSupplyLoss s).memInv :=
  .ite h (.ite (.upd h) (.faultRecord (.raiseMgt (.logInternal (.upd (.railsOff .wipe))))))

theorem State.memInv.railsInRegulation : (railsInRegulation s).memInv := .ite h (.setNum (.upd (.reloadReplicas h)))

theorem State.memInv.startLasers : s.startLasers.memInv := .foldl (fun _ _ hu => .ite hu (.ite (.laserReady hu) (.calibrate hu))) h

theorem State.memInv.applyTests {t : SelfTest} : (s.applyTests t).memInv :=
  .ite (.faultRecord (.upd (.foldl (fun _ _ hu => .failOe hu) (.foldl (fun _ _ hu => .ite (.modCore hu) hu) (.foldl (fun _ _ hu => .failNewt hu) (.foldl (fun _ _ hu
      => .failStack hu) (.foldl (fun _ _ hu => .ite (.retireDie hu) hu) h))))))) (.foldl (fun _ _ hu => .failOe hu) (.foldl (fun _ _ hu => .ite (.modCore hu) hu)
      (.foldl (fun _ _ hu => .failNewt hu) (.foldl (fun _ _ hu => .failStack hu) (.foldl (fun _ _ hu => .ite (.retireDie hu) hu) h)))))

theorem State.memInv.applyPersistent : s.applyPersistent.memInv := .upd (.foldl (fun _ _ hu => .ite (.downNewt hu) hu) h)

theorem State.memInv.selfTestComplete {found : SelfTest} : (selfTestComplete found s).memInv := .ite h (.upd (.startLasers (.applyTests (.applyPersistent h))))

theorem State.memInv.memoryZeroingComplete : (memoryZeroingComplete s).memInv := .ite h .blank

theorem State.memInv.deviceReady : (deviceReady s).memInv :=
  .ite h (.ite (.ite (.commitTrial (.upMove (.ite (.raisePwr (.upd (.upd h))) (.upd h)))) (.upMove (.ite (.raisePwr (.upd (.upd h))) (.upd h)))) (.ite (.raisePwr
      (.upd (.upd h))) (.upd h)))

omit h in
theorem State.memInv.coldReset {aOk bOk : Bool} : (s.coldReset aOk bOk).memInv := .upd (.railsOff .wipe)

theorem State.memInv.perstAssert {aOk bOk : Bool} : (perstAssert aOk bOk s).memInv := .ite (.upd h) (.ite .coldReset (.upd h))

theorem State.memInv.perstDeassert {aOk bOk : Bool} : (perstDeassert aOk bOk s).memInv :=
  .ite h (.ite (.startSequence (.upd (.upd h))) (.ite (.startSequence (.upd .coldReset)) (.upd h)))

theorem State.memInv.configRequestRrs : (configRequestRrs s).memInv := .ite (.upd h) h

theorem State.memInv.trialReadyTimeout {otherOk : Bool} : (trialReadyTimeout otherOk s).memInv := .ite h (.bootFrom (.upd (.endTrial h)))

theorem State.memInv.mgtWatchdogRestart : (mgtWatchdogRestart s).memInv :=
  .ite h (.faultRecord (.raiseMgt (.bootRecord (.addNum (.foldl (fun _ _ hu => .mbRespond hu) (.upd h))))))

omit h in
theorem State.memInv.resetDevice {aOk bOk : Bool} : (s.resetDevice aOk bOk).memInv := .setNum (.reloadReplicas (.upd .wipe))

theorem State.memInv.deviceReset {who : Origin} {value : Nat} {aOk bOk : Bool} : (deviceReset who value aOk bOk s).memInv :=
  .triggerWrite h (fun _ hu => .ite hu .resetDevice)

theorem State.memInv.tiedReset {who : Origin} {value : Nat} {allTakePart : Bool} : (tiedReset who value allTakePart s).memInv :=
  .triggerWrite h (fun _ hu => .ite hu (.foldl (fun _ _ hu1 => .startFlr hu1) (.logReset (.upd (.tellRemoteWaiters hu)))))

end

/-! Machine/Units. -/

section
variable {s : State} (h : s.memInv)
include h

theorem State.memInv.descriptorUpdate {level unit : Nat} {read : List Byte} : (descriptorUpdate level unit read s).memInv := by
  unfold Machine.descriptorUpdate
  split
  · exact .ite (.setBlob h) h
  · exact .ite (.setBlob h) h
  · exact .ite (.setBlob h) (.ite (.upd h) h)
  · exact .setBlob h
  · exact .setBlob h
  · exact h

end

/-! Machine/Power. -/

section
variable {s : State} (h : s.memInv)
include h

theorem State.memInv.eachPlain {g : Nat → PlainPwr → PlainPwr} : (s.eachPlain g).memInv := .foldl (fun _ _ hu => .modPlain hu) h

theorem State.memInv.readEnergy {energy : Nat} : (s.readEnergy energy).memInv := .upd h

theorem State.memInv.fallback {a energy : Nat} {next : ℤ} : (s.fallback a energy next).memInv :=
  .ite (.ite (.raisePwr (.upd (.upd h))) (.raisePwr (.upd h))) (.ite (.ite (.upd h) (.ite (.upd h) (.upd h))) (.upd h))

theorem State.memInv.powerCapEvaluation {energy matrix full : Nat} : (powerCapEvaluation energy matrix full s).memInv :=
  .ite h (.traceAdmit (.fallback (.ite (.raisePwr (.eachPlain (.readEnergy h))) (.eachPlain (.readEnergy h)))))

theorem State.memInv.overcurrentAlarm : (overcurrentAlarm s).memInv := .ite h (.traceAdmit (.upd h))

theorem State.memInv.droopDetect {domain : Nat} : (droopDetect domain s).memInv :=
  .ite h (.ite (.addNum (.modPlain (.traceAdmit (.raisePwr (.upd h))))) (.traceAdmit (.raisePwr (.upd h))))

theorem State.memInv.droopRecover {domain : Nat} : (droopRecover domain s).memInv := .traceAdmit (.upd h)

theorem State.memInv.thermalEvaluation {temps : Temps} : (thermalEvaluation temps s).memInv :=
  .ite h (.foldl (fun _ _ hu => .setNum (.setNum hu)) (.foldl (fun _ _ hu => .setNum hu) (.traceAdmit (.ite (.raisePwr (.upd (.ite (.raisePwr (.eachPlain h))
      (.eachPlain h)))) (.upd (.ite (.raisePwr (.eachPlain h)) (.eachPlain h)))))))

theorem State.memInv.thermalTrip {sensor reading : Nat} : (thermalTrip sensor reading s).memInv :=
  .ite h (.faultRecord (.logInternal (.addNum (.upd (.railsOff .wipe)))))

theorem State.memInv.chargeJob {id uj : Nat} : (s.chargeJob id uj).memInv := .ite h (.ite (.raisePwr (.upd h)) (.upd h))

theorem State.memInv.chargeQueue {q uj : Nat} : (s.chargeQueue q uj).memInv := .ite (.addNum h) (.chargeJob (.addNum (.addNum (.addNum h))))

theorem State.memInv.energyAttribution {rails : List RailEnergy} : (energyAttribution rails s).memInv :=
  .ite h (.foldl (fun _ _ hu => .setNum hu) (.addNum (.foldl (fun _ _ hu => .addNum hu) (.foldl (fun _ _ hu => .ite (.addNum hu) (.addNum (.addNum hu))) (.foldl
      (fun _ _ hu => .chargeQueue hu) h)))))

theorem State.memInv.pwrJobRelease {who : Origin} {job : Nat} : (pwrJobRelease who job s).memInv := by
  refine .triggerWrite h (fun _ hu => ?_)
  split
  · exact hu
  · exact .logInternal (.upd hu)

theorem State.memInv.slicePacing {rates : List (Nat × Nat)} : (slicePacing rates s).memInv := by
  refine .ite h (.ite (.traceAdmit (.setNum (.eachPlain h))) ?_)
  dsimp only
  split
  · exact .traceAdmit (.setNum (.eachPlain h))
  · exact .traceAdmit (.setNum (.eachPlain h))

end

/-! Machine/Service. -/

section
variable {s : State} (h : s.memInv)
include h

theorem State.memInv.svcQpStateWrite {who : Origin} {fn qp : Nat} {bytes : List Byte} : (svcQpStateWrite who fn qp bytes s).memInv :=
  .ite (.answer h) (.ite (.answer h) (.ite (.answer h) (.dictLogged (.modQp h))))

theorem State.memInv.svcQpDoorbell {fn qp value : Nat} : (svcQpDoorbell fn qp value s).memInv := .ite h (.ite (.modQp h) h)

theorem State.memInv.startWork {f n opcode : Nat} : (s.startWork f n opcode).memInv := by
  unfold State.startWork
  split
  · exact h
  · exact .ite h (.modQp (.upd h))

theorem State.memInv.rdmaWrite {fn qp : Nat} : (rdmaWrite fn qp s).memInv := .startWork h

theorem State.memInv.rdmaRead {fn qp : Nat} : (rdmaRead fn qp s).memInv := .startWork h

theorem State.memInv.workStatus {f n i status : Nat} : (s.workStatus f n i status).memInv := .writeV h

theorem State.memInv.flushWork {f n k i : Nat} : (s.flushWork f n k i).memInv := by
  induction k generalizing s i with
  | zero => exact h
  | succ k ih =>
    unfold State.flushWork
    exact ih (.workStatus h)

theorem State.memInv.failWork {f n i status : Nat} : (s.failWork f n i status).memInv := .raiseSvc (.modQp (.flushWork (.workStatus h)))

theorem State.memInv.workSignal {f : Nat} {b : List Byte} : (s.workSignal f b).memInv := by
  refine .ite h ?_
  split
  · exact .sendSync h
  · split
    · exact h
    · exact .ite (.objOperate (.trace h)) h

theorem State.memInv.rdmaWorkComplete {fn qp : Nat} {data : List Byte} : (rdmaWorkComplete fn qp data s).memInv := by
  unfold Machine.rdmaWorkComplete
  dsimp only
  split
  · exact h
  · exact .ite h (.ite (.modQp (.workSignal (.workStatus h))) (.ite h (.ite (.failWork h) (.modQp (.workSignal (.workStatus (.writeV h)))))))

theorem State.memInv.rdmaWorkFail {fn qp status : Nat} : (rdmaWorkFail fn qp status s).memInv := by
  refine .ite h (.ite ?_ (.ite h ?_))
  · split
    · exact .failWork h
    · exact h
  · split
    · exact .ite (.failWork h) h
    · exact .ite (.failWork h) h

theorem State.memInv.rdmaAckTimeout {fn qp : Nat} : (rdmaAckTimeout fn qp s).memInv := by
  unfold Machine.rdmaAckTimeout
  dsimp only
  split
  · exact h
  · exact .ite h (.ite (.modQp h) (.failWork h))

theorem State.memInv.roceCnpReceive {fn qp : Nat} : (roceCnpReceive fn qp s).memInv := .ite h (.modQp h)

theorem State.memInv.roceReply {nak : Option Nat} {data : List Byte} : (s.roceReply nak data).memInv := .upd h

theorem State.memInv.roceNak {f n code : Nat} : (s.roceNak f n code).memInv := .roceReply (.addNum h)

theorem State.memInv.roceRemoteRequest {fn qp op addr rkey len : Nat} {data : List Byte} : (roceRemoteRequest fn qp op addr rkey len data s).memInv := by
  refine .ite h (.ite (.roceNak h) (.ite (.roceNak h) (.ite (.roceNak h) (.ite (.ite (.roceNak h) (.modQp (.roceReply (.writeV h)))) ?_))))
  split
  · exact .roceNak h
  · exact .modQp (.roceReply h)

theorem State.memInv.neighbourRequest {port : Nat} {ip : List Byte} : (neighbourRequest port ip s).memInv := .ite h (.ite (.upd h) (.addNum h))

theorem State.memInv.pfcFrameReceive {port enable pause : Nat} : (pfcFrameReceive port enable pause s).memInv := .ite h (.modPort h)

theorem State.memInv.pfcWatchdogExpire {port priority : Nat} : (pfcWatchdogExpire port priority s).memInv := by
  unfold Machine.pfcWatchdogExpire
  dsimp only
  split
  · exact h
  · exact .ite h (.raiseSvc (.modPort h))

theorem State.memInv.pfcXoffSend {port priority fill : Nat} : (pfcXoffSend port priority fill s).memInv :=
  .ite h (.ite (.modPort (.upd (.modPort h))) (.ite (.modPort (.upd (.modPort h))) (.modPort h)))

theorem State.memInv.portDown {p state : Nat} : (s.portDown p state).memInv :=
  .ite (.raiseSvc (.ite (.ptpDrop (.modPort h)) (.modPort h))) (.ite (.ptpDrop (.modPort h)) (.modPort h))

theorem State.memInv.svcLinkDown {port : Nat} : (svcLinkDown port s).memInv := .ite h (.portDown h)

theorem State.memInv.svcLinkUp {port : Nat} : (svcLinkUp port s).memInv := .ite h (.raiseSvc (.modPort h))

end

/-! Machine/Entries. -/

section
variable {s : State} (h : s.memInv)
include h

theorem State.memInv.enableLink {l v : Nat} : (s.enableLink l v).memInv := .ite (.ite (.traceLink (.modLink h)) (.dropLink h)) (.ite (.traceLink (.modLink h)) h)

theorem State.memInv.namePort {l : Nat} : (s.namePort l).memInv := .ite (.holdPort h) (.setPorts h)

theorem State.memInv.setSpeed {p old v : Nat} : (s.setSpeed p old v).memInv := .ite h (.ite (.portDown h) (.modPort h))

theorem State.memInv.effectNum {a old v : Nat} : (s.effectNum a old v).memInv :=
  .ite (.ite h (.ptpDrop h)) (.ite (.ite (.foldl (fun _ _ hu => .resumeSlice hu) h) h) (.ite (.enableLink h) (.ite (.namePort h) (.ite (.setSpeed h) h))))

theorem State.memInv.plainNum {w : Origin} {a target v : Nat} : (s.plainNum w a target v).memInv :=
  .ite (.answer h) (.ite (.traceAdmit (.effectNum (.dictNum h))) (.effectNum (.dictNum h)))

theorem State.memInv.plainBlob {w : Origin} {a target : Nat} {b : List Byte} : (s.plainBlob w a target b).memInv :=
  .ite (.answer h) (.ite (.setNum (.dictLogged (.setBlob h))) (.dictLogged (.setBlob h)))

theorem State.memInv.clearEntry {w : Origin} {a target : Nat} : (s.clearEntry w a target).memInv := .dictNum h

theorem State.memInv.sliceMembersWrite {who : Origin} {bytes : List Byte} : (sliceMembersWrite who bytes s).memInv :=
  .ite (.answer h) (.ite (.answer h) (.dictLogged (.setBlob (.setBlob h))))

theorem State.memInv.idleTrigger {w : Origin} {a : Nat} : (s.idleTrigger w a).memInv := .triggerWrite h (fun _ hu => hu)

theorem State.memInv.updateStep {w : Origin} {v : Nat} : (s.updateStep w v).memInv := by
  unfold State.updateStep
  split
  · exact .updateBegin h
  · exact .updateVerify h
  · exact .updateActivate h
  · exact .updateCommit h
  · exact .updateAbort h
  · exact .answer h

theorem keptIfAny.rowNum {w : Origin} {a target v : Nat} : keptIfAny (s.rowNum w a target v) :=
  .ite (.some (.opPointRequest h)) (.ite (.some (.rowModeWrite h)) (.ite (.some (.writeSlab h)) (.ite (.some (.scratchKibWrite h)) (.ite (.some (.ite (.queueEnable
      h) (.queueDisable h))) (.ite (.some (.syncRangeWrite h)) (.ite (.some (.partitionQmaskWrite h)) (.ite (.some (.ite (.partitionReset h) (.idleTrigger h)))
      (.ite (.some (.fnPartitionWrite h)) (.ite (.some (.ite (.fnEnable h) (.fnDisable h))) (.ite (.some (.ite (.flr h) (.idleTrigger h))) (.ite (.some (.ite
      (.laserService h) (.dictLogged (.modLaser h)))) (.ite (.some (.ite (.laserRecalibrate h) (.idleTrigger h))) (.ite (.some (.pwrJobRelease h)) (.ite (.some
      (.deviceReset h)) (.ite (.some (.tiedReset h)) (.ite (.some (.updateStep h)) (.ite (.some (.debugKill h)) (.ite (.some (.cntLayerBaseWrite h))
      .none))))))))))))))))))

theorem keptIfAny.rowBlob {w : Origin} {a target : Nat} {b : List Byte} : keptIfAny (s.rowBlob w a target b) :=
  .ite (.some (.sliceMembersWrite h)) (.ite (.some (.svcQpStateWrite h)) (.ite (.some (.logAppend h)) .none))

omit h in
theorem State.memInv.getD {o : Option State} (ho : keptIfAny o) (h : s.memInv) : (o.getD s).memInv := by
  cases o with
  | none => exact h
  | some t => exact ho

theorem State.memInv.writeEntry {w : Origin} {a target : Nat} {bytes : List Byte} : (s.writeEntry w a target bytes).memInv := by
  rw [State.writeEntry]
  split
  · exact .answer h
  · exact .ite (.answer h) (.ite (.answer h) (.ite (.clearEntry h) (.ite (.ite (.answer h) (.getD (.rowNum h) (.plainNum h))) (.getD (.rowBlob h) (.plainBlob h)))))

end

end Sys2Proof.Machine
end

section
/-! Device memory stays canonical (R47, R57): the operations of Machine/HostIf, Machine/Kamuf, Machine/Launch, Machine/Plan, Machine/Preempt, Machine/Regs. -/

namespace Sys2Proof.Machine

/-! Machine/HostIf. -/

section
variable {s : State} (h : s.memInv)
include h

theorem State.memInv.complete {status : Nat} {data : List Byte} : (s.complete status data).memInv := .upd h

theorem State.memInv.hostLand {fn pa : Nat} {data : List Byte} {tag : Option Nat} : (s.hostLand fn pa data tag).memInv := by
  unfold State.hostLand
  split
  · exact .foldl (fun _ _ hu => .installReplica hu) (.allocWrite h)
  · exact .agentWrite h

theorem State.memInv.hostWriteBar2 {fn off : Nat} {data : List Byte} {tag : Option Nat} : (hostWriteBar2 fn off data tag s).memInv := by
  unfold Machine.hostWriteBar2
  split
  · split
    · exact .raiseHif h
    · exact .ite (.raiseHif h) (.ite h (.hostLand h))
  · exact h

theorem State.memInv.hostReadBar2 {fn off len : Nat} {chk : L2Check} : (hostReadBar2 fn off len chk s).memInv := by
  unfold Machine.hostReadBar2
  split
  · exact h
  · exact .complete h
  · exact .complete h
  · split
    · exact .complete (.raiseHif h)
    · refine .ite (.complete (.raiseHif h)) (.ite (.complete h) ?_)
      dsimp only
      split
      · exact .complete (.consumePoison (.raiseHif (.lookAt (.checkLine h))))
      · exact .complete (.lookAt (.checkLine h))

theorem State.memInv.hostAtomicop {fn off kind bytes operand compare : Nat} {chk : L2Check} : (hostAtomicop fn off kind bytes operand compare chk s).memInv := by
  unfold Machine.hostAtomicop
  split
  · exact h
  · exact .complete h
  · exact .complete h
  · refine .ite (.complete h) (.ite (.complete h) ?_)
    split
    · exact .complete (.raiseHif h)
    · refine .ite (.complete (.raiseHif h)) (.ite (.complete h) ?_)
      dsimp only
      split
      · next e3 => exact .complete (AtomOut.kept.at e3 (.homeAtom (.checkLine h)))
      · exact .complete (.consumePoison (.raiseHif (.checkLine h)))
      · exact .upd h

theorem State.memInv.nonAllocatingWrite {fn pa : Nat} {data : List Byte} : (nonAllocatingWrite fn pa data s).memInv :=
  .ite h (.ite (.raiseHif (.discardStale h)) (.agentWrite h))

theorem State.memInv.sendVec {f v : Nat} : (s.sendVec f v).memInv := .ite h (.ite (.modVec h) (.ite (.modVec h) (.ite h (.modVec (.hostWrite h)))))

theorem State.memInv.msixSend {fn vector : Nat} : (msixSend fn vector s).memInv := .sendVec h

theorem State.memInv.msixModerationExpire {fn vector : Nat} : (msixModerationExpire fn vector s).memInv := .ite (.sendVec h) h

theorem State.memInv.sendPending {f : Nat} : (s.sendPending f).memInv := .foldl (fun _ _ hu => .ite (.sendVec hu) hu) h

theorem State.memInv.msixUnmask {fn vector : Nat} : (msixUnmask fn vector s).memInv := .ite h (.sendPending (.modVec (.modFn h)))

theorem State.memInv.busMasterEnableSet {fn : Nat} {atomic ats : Bool} : (busMasterEnableSet fn atomic ats s).memInv := .ite h (.sendPending (.modFn h))

theorem State.memInv.d0Entry {fn : Nat} : (d0Entry fn s).memInv := .ite h (.sendPending (.modFn h))

theorem State.memInv.bar2Resize {vf : Bool} {sizeLog : Nat} : (bar2Resize vf sizeLog s).memInv := .ite h (.ite (.ite h (.upd h)) (.ite h (.setNum (.upd h))))

theorem State.memInv.dropPages {f page n : Nat} : (s.dropPages f page n).memInv := .upd h

theorem State.memInv.invStart {f page n : Nat} : (s.invStart f page n).memInv := .modFn (.dropPages h)

theorem State.memInv.invCmd {f cmd : Nat} : (s.invCmd f cmd).memInv := .ite h (.ite (.modFn h) (.ite (.invStart h) (.invStart h)))

theorem State.memInv.translationInvalidate {fn cmd : Nat} : (translationInvalidate fn cmd s).memInv := .ite h (.invCmd h)

theorem State.memInv.translationInvalidateAll {fn cmd : Nat} : (translationInvalidateAll fn cmd s).memInv := .ite h (.invCmd h)

theorem State.memInv.invalidateComplete {fn : Nat} : (invalidateComplete fn s).memInv := .upd (.modFn h)

theorem State.memInv.atsInvalidateRequest {fn page pages : Nat} : (atsInvalidateRequest fn page pages s).memInv := .ite h (.ite (.upd h) (.upd h))

theorem State.memInv.atsDeny {f page : Nat} {read write : Bool} : (s.atsDeny f page read write).memInv :=
  .foldl (fun _ _ hu => .kill (.dropEntry hu)) (.foldl (fun _ _ hu => .kill (.upd hu)) (.foldl (fun _ _ hu => .kill (.upd hu)) h))

theorem State.memInv.atsTranslationCompletion {fn page frame : Nat} {read write : Bool} : (atsTranslationCompletion fn page frame read write s).memInv :=
  .ite h (.atsDeny (.upd h))

theorem State.memInv.pcieLinkDown : (pcieLinkDown s).memInv := .ite h (.faultRecord (.upd h))

theorem State.memInv.pcieLinkUp : (pcieLinkUp s).memInv := .ite h (.upd h)

theorem State.memInv.spdmError : s.spdmError.memInv := .upd (.raiseHif h)

theorem State.memInv.doeDiscovery {index : Nat} : (doeDiscovery index s).memInv := .ite h (.ite (.upd h) (.ite (.upd h) (.upd (.raiseHif h))))

theorem State.memInv.spdmGetCertificate {slot off len : Nat} : (spdmGetCertificate slot off len s).memInv := .ite h (.ite (.spdmError h) (.upd h))

theorem State.memInv.signed {code p1 p2 : Nat} {nonce before after : List Byte} : (s.signed code p1 p2 nonce before after).memInv := .upd (.freeVal h)

theorem State.memInv.spdmChallenge {slot : Nat} {nonce : List Byte} : (spdmChallenge slot nonce s).memInv := .ite h (.ite (.spdmError h) (.signed h))

theorem State.memInv.spdmGetMeasurements {index : Nat} {nonce : List Byte} : (spdmGetMeasurements index nonce s).memInv := .ite h (.ite (.spdmError h) (.signed h))

theorem State.memInv.spdmSetCertificate {slot : Nat} {chain : List Byte} : (spdmSetCertificate slot chain s).memInv := .ite h (.ite (.spdmError h) (.upd h))

end

/-! Machine/Kamuf. -/

section
variable {s : State} (h : s.memInv)
include h

theorem State.memInv.dropAsm {a t : Nat} : (s.dropAsm a t).memInv := .upd h

theorem State.memInv.writeSegment {w : Origin} {x : Frame} {t : Nat} : (s.writeSegment w x t).memInv :=
  .ite (.updateImageSegment h) (.ite (.answer h) (.ite (.answer (.dropAsm h)) (.ite (.answer (.dropAsm h)) (.ite (.writeEntry (.dropAsm h)) (.answer (.upd (.dropAsm
      h)))))))

theorem State.memInv.request {w : Origin} {x : Frame} : (s.request w x).2.2.memInv := by
  refine .ite_snd₂ (.ite_snd₂ h h) ?_
  split
  · exact h
  · exact .ite_snd₂ h (.ite_snd₂ h (.writeSegment h))

theorem State.memInv.handle {w : Origin} {x : Frame} : (s.handle w x).memInv := .ite h (.ite (.modCntFn (.request h)) (.upd (.request h)))

theorem State.memInv.handleAs {w : Origin} {x : Frame} {opcode : Nat} : (s.handleAs w x opcode).memInv := .ite (.handle h) h

theorem State.memInv.kamufRead {who : Origin} {frame : Frame} : (kamufRead who frame s).memInv := .handleAs h

theorem State.memInv.kamufWrite {who : Origin} {frame : Frame} : (kamufWrite who frame s).memInv := .handleAs h

theorem State.memInv.kamufDescribe {who : Origin} {frame : Frame} : (kamufDescribe who frame s).memInv := .handleAs h

theorem State.memInv.kamufNext {who : Origin} {frame : Frame} : (kamufNext who frame s).memInv := .handleAs h

theorem State.memInv.mailboxGo {fn value : Nat} : (mailboxGo fn value s).memInv := .ite (.modMbox h) (.ite (.modMbox (.modMbox h)) (.upd (.modMbox (.modMbox h))))

theorem State.memInv.leaveDispatcher {f : Nat} : (s.leaveDispatcher f).memInv := .upd h

theorem State.memInv.mailboxResponse {fn : Nat} : (mailboxResponse fn s).memInv :=
  .ite h (.ite (.mbRespond (.leaveDispatcher h)) (.ite (.request (.leaveDispatcher h)) (.mbRespond (.request (.leaveDispatcher h)))))

theorem State.memInv.controlReply {body : List Byte} : (s.controlReply body).memInv := .ite (.upd h) h

theorem State.memInv.setEndpointId {eid : Nat} : (setEndpointId eid s).memInv := .ite (.controlReply h) (.ite (.controlReply (.upd h)) h)

theorem State.memInv.getEndpointId : (getEndpointId s).memInv := .controlReply h

theorem State.memInv.getMctpVersionSupport {type : Nat} : (getMctpVersionSupport type s).memInv := .ite (.controlReply h) (.controlReply h)

theorem State.memInv.getMessageTypeSupport : (getMessageTypeSupport s).memInv := .controlReply h

theorem State.memInv.getVendorDefinedMessageSupport {selector : Nat} : (getVendorDefinedMessageSupport selector s).memInv := .ite (.controlReply h) (.controlReply h)

end

/-! Machine/Launch. -/

section
variable {s : State} (h : s.memInv)
include h

theorem State.memInv.nodeLaunch {node : Nat} : (nodeLaunch node s).memInv := by
  refine .startNode h (fun _ => .ite (.kill h) ?_)
  dsimp only
  split
  · exact .feRead h
  · exact .kill (.feRead h)
  · exact .ite (.kill (.feRead h)) (.feDrop (.dispatched (.upd (.feRead h))))

theorem State.memInv.installBlock {c : Nat} {b : Block} {groups : List Group} {image : Option Mx} : (s.installBlock c b groups image).memInv :=
  .trace (.modCore (.acquire (.unwant h)))

theorem State.memInv.blockPlace {node core : Nat} : (blockPlace node core s).memInv := by
  unfold Machine.blockPlace
  split
  · exact .ite h (.upd (.installBlock h))
  · exact h

end

/-! Machine/Plan. -/

section
variable {s : State} (h : s.memInv)
include h

theorem State.memInv.putPlan {ctx : Nat} {p : PlanCtx} : (s.putPlan ctx p).memInv := .upd h

/-- A plan's instruction word, or what it does in place of one. -/
def keptOr {α : Type} (p : α → State) : RvOut ⊕ α → Prop
  | .inl o => o.kept
  | .inr x => (p x).memInv

omit h in
theorem keptOr.ite {α : Type} {p : α → State} {c : Prop} [Decidable c] {a b : RvOut ⊕ α} (ha : keptOr p a) (hb : keptOr p b) : keptOr p (if c then a else b) := by
  split
  · exact ha
  · exact hb

omit h in
theorem keptOr.inl {α : Type} {p : α → State} {o : RvOut} (h : o.kept) : keptOr p (.inl o) := h

omit h in
theorem keptOr.inr {α : Type} {p : α → State} {x : α} (h : (p x).memInv) : keptOr p (.inr x) := h

omit h in
theorem keptOr.at {α : Type} {p : α → State} {x y : RvOut ⊕ α} (e : x = y) (h : keptOr p x) : keptOr p y := e ▸ h

theorem keptOr.planParcel {ctx pc : Nat} {p : PlanCtx} : keptOr Prod.snd (s.planParcel ctx p pc) := by
  rw [State.planParcel]
  dsimp only
  split
  · exact .inl .fault
  · refine .ite (.ite (.inl .fault) (.inr (.pair (.lookAt h)))) (.ite (.ite (.inr (.pair (.hostRead h))) (.inl .wait)) ?_)
    split
    · exact .inr h
    · exact .ite (.inl (.next (.putPlan (.sendReq h)))) (.ite (.inl .wait) (.inl .fault))

theorem keptOr.planFetch {ctx : Nat} {p : PlanCtx} : keptOr (fun x => x.2.2) (s.planFetch ctx p) := by
  rw [State.planFetch]
  split
  · next e => exact .inl (keptOr.at e (.planParcel h))
  · next t e =>
    have ht : t.memInv := keptOr.at e (.planParcel h)
    refine .ite ?_ (.ite (.inl .fault) ?_)
    · split
      · exact .inl .fault
      · exact .inr ht
    · split
      · next e => exact .inl (keptOr.at e (.planParcel ht))
      · next e => exact .inr (keptOr.at e (.planParcel ht))

theorem RvOut.kept.planNext {ctx : Nat} {p : PlanCtx} {rd : Nat} {v : DWord} {pc : Nat} : (s.planNext ctx p rd v pc).kept := .next (.putPlan h)

theorem RvOut.kept.planSend {ctx : Nat} {p : PlanCtx} {type op a : Nat} {data : List Byte} : (s.planSend ctx p type op a data).kept :=
  .ite (.next (.putPlan (.sendReq h))) (.ite .wait .fault)

theorem RvOut.kept.planLoad {ctx : Nat} {p : PlanCtx} {w va len : Nat} : (s.planLoad ctx p w va len).kept := by
  unfold State.planLoad
  dsimp only
  split
  · exact .fault
  · refine .ite .fault ?_
    split
    · exact .fault
    · refine .ite (.ite .fault (.planNext (.lookAt h))) (.ite (.ite (.planNext (.hostRead h)) .wait) ?_)
      split
      · exact .planNext h
      · exact .planSend h

theorem keptIfAny.planWrite {a : Nat} {data : List Byte} : keptIfAny (s.planWrite a data) := .homeWrite h

theorem RvOut.kept.planStore {ctx : Nat} {p : PlanCtx} {w va len : Nat} : (s.planStore ctx p w va len).kept := by
  unfold State.planStore
  split
  · exact .fault
  · refine .ite .fault ?_
    split
    · exact .fault
    · refine .ite ?_ (.ite (.ite (.planNext (.hostWrite h)) .wait) ?_)
      · split
        · exact .next (.upd h)
        · next e2 => exact .planNext (.of_some e2 (.planWrite h))
      · split
        · exact .planNext h
        · exact .planSend h

theorem RvOut.kept.planAmoHere {ctx : Nat} {p : PlanCtx} {w a n len : Nat} : (s.planAmoHere ctx p w a n len).kept := by
  refine .ite (.ite .fault (.ite .fault (.planNext (.upd (.lookAt h))))) (.ite (.ite (.planNext (.upd h)) ?_) ?_)
  · split
    · exact .next (.upd h)
    · next e => exact .planNext (.of_some e (.planWrite (.upd h)))
  · split
    · exact .fault
    · refine .ite .fault ?_
      split
      · exact .next (.upd h)
      · next e2 => exact .planNext (.of_some e2 (.planWrite h))

theorem RvOut.kept.planAmo {ctx : Nat} {p : PlanCtx} {w va len : Nat} : (s.planAmo ctx p w va len).kept := by
  refine .ite .fault (.ite .fault (.ite .fault ?_))
  dsimp only
  split
  · exact .fault
  · refine .ite (.planAmoHere h) (.ite (.planNext h) (.ite (.ite .wait (.ite (.planNext (.hostRead h)) ?_)) ?_))
    · split
      · exact .fault
      · exact .planNext (.hostWrite (.hostRead h))
    · split
      · exact .planNext h
      · refine .ite (.planSend h) ?_
        split
        · exact .fault
        · exact .planSend h

theorem RvOut.kept.planSystem {ctx : Nat} {p : PlanCtx} {w len : Nat} : (s.planSystem ctx p w len).kept :=
  .ite .call (.ite .fault (.ite .fault (.ite (.planNext h) (.ite (.planNext (.freeVal h)) .fault))))

theorem RvOut.kept.planExec {ctx : Nat} {p : PlanCtx} {w len : Nat} : (s.planExec ctx p w len).kept := by
  unfold State.planExec
  dsimp only
  split
  · exact .planNext h
  · exact .planNext h
  · exact .planNext h
  · exact .ite .fault (.planNext h)
  · split
    · exact .fault
    · exact .planNext h
  · exact .planLoad h
  · exact .planStore h
  · exact .planAmo h
  · exact .ite (.planNext h) .fault
  · exact .planSystem h
  · split
    · exact .fault
    · exact .planNext h
  · split
    · exact .fault
    · exact .planNext h
  · split
    · exact .fault
    · exact .planNext h
  · split
    · exact .fault
    · exact .planNext h
  · exact .fault

theorem RvOut.kept.planStep {ctx : Nat} {p : PlanCtx} : (s.planStep ctx p).kept := by
  rw [State.planStep]
  refine .ite .wait ?_
  split
  · next e => exact keptOr.at e (.planFetch h)
  · next e => exact .planExec (keptOr.at e (.planFetch h))

theorem State.memInv.controlCoreInstruction {ctx : Nat} : (controlCoreInstruction ctx s).memInv := by
  unfold Machine.controlCoreInstruction
  split
  · exact h
  · split
    · next e2 => exact RvOut.kept.at e2 (.planStep h)
    · exact h

theorem State.memInv.planPoison {ctx : Nat} {p : PlanCtx} {code : Nat} : (s.planPoison ctx p code).memInv := by
  unfold State.planPoison
  dsimp only
  split
  · exact .sawPoison h
  · exact .sawPoison h

theorem State.memInv.planFault {ctx : Nat} : (planFault ctx s).memInv := by
  unfold Machine.planFault
  split
  · exact h
  · split
    · exact .killAt (.planPoison h)
    · exact .ite (.killAt h) h
    · exact h

theorem State.memInv.planReturn {ctx : Nat} {p : PlanCtx} {y : DWord} : (s.planReturn ctx p y).memInv := .putPlan h

theorem State.memInv.planExit {ctx : Nat} : (planExit ctx s).memInv := by
  unfold Machine.planExit
  split
  · exact h
  · exact .upd (.addQty (.nodeDone h))

theorem State.memInv.planLaunchNow {ctx : Nat} {p : PlanCtx} : (s.planLaunchNow ctx p).memInv := by
  unfold State.planLaunchNow
  split
  · exact h
  · refine .ite (.killAt h) ?_
    split
    · exact .putPlan h
    · split
      · next e2 => exact Pinned.kept.at e2 (.pin h)
      · next e2 => exact .killAt (.upd (Pinned.kept.at e2 (.pin h)))
      · next e2 => exact .planReturn (.upd (Pinned.kept.at e2 (.pin h)))

theorem State.memInv.planLaunch {ctx : Nat} : (planLaunch ctx s).memInv := by
  unfold Machine.planLaunch
  split
  · exact h
  · refine .ite (.planLaunchNow h) ?_
    split
    · exact h
    · exact .planLaunchNow h

theorem State.memInv.waitGraphNow {ctx : Nat} {p : PlanCtx} {h3 : Nat} : (s.waitGraphNow ctx p h3).memInv := by
  unfold State.waitGraphNow
  split
  · exact .planReturn h
  · exact .ite (.putPlan h) (.planReturn (.upd h))

theorem State.memInv.planWaitGraph {ctx : Nat} : (planWaitGraph ctx s).memInv := by
  unfold Machine.planWaitGraph
  split
  · exact h
  · split
    · exact .waitGraphNow h
    · split
      · exact h
      · exact .waitGraphNow h

theorem State.memInv.planSync {ctx : Nat} : (planSync ctx s).memInv := by
  unfold Machine.planSync
  split
  · exact h
  · exact .ite (.killAt h) (.ite (.putPlan (.issueSync h)) (.ite h (.killAt h)))

theorem State.memInv.planYield {ctx : Nat} : (planYield ctx s).memInv := by
  unfold Machine.planYield
  split
  · exact h
  · exact .planReturn h

end

/-! Machine/Preempt. -/

section
variable {s : State} (h : s.memInv)
include h

theorem State.memInv.corePreemptRequest {core block : Nat} : (corePreemptRequest core block s).memInv := by
  unfold Machine.corePreemptRequest
  dsimp only
  split
  · exact h
  · exact .ite h (.ite (.ite h (.modCore h)) (.modQ (.modCore h)))

theorem State.memInv.groupSave {core slot : Nat} : (groupSave core slot s).memInv := by
  unfold Machine.groupSave
  dsimp only
  split
  · split
    · exact .ite h (.modCore (.ite h (.saveWrite h)))
    · exact h
  · exact h

theorem State.memInv.blockSaveComplete {core block : Nat} : (blockSaveComplete core block s).memInv := by
  unfold Machine.blockSaveComplete
  dsimp only
  split
  · exact h
  · split
    · exact .ite h (.modQ (.freeBlock (.foldl (fun _ _ hu => .freeSlot hu) (.ite h (.saveWrite h)))))
    · exact h

theorem State.memInv.restoreBlock {q core : Nat} {x : SavedBlock} {n : Node} {l : Launch} : (s.restoreBlock q core x n l).memInv := by
  unfold State.restoreBlock
  dsimp only
  split
  · exact .kill (.sawPoison h)
  · refine .ite (.kill h) ?_
    split
    · exact .kill h
    · exact .ite h (.modQ (.installBlock h))

theorem State.memInv.blockRestore {queue core : Nat} : (blockRestore queue core s).memInv := by
  unfold Machine.blockRestore
  dsimp only
  split
  · exact h
  · refine .ite h ?_
    split
    · exact .restoreBlock h
    · exact h

end

/-! Machine/Regs. -/

section
variable {s : State} (h : s.memInv)
include h

theorem State.memInv.writeHif {f off v : Nat} : (s.writeHif f off v).memInv := .ite (.modFn h) (.ite (.modFn h) (.ite (.invCmd h) (.ite (.modFn h) h)))

theorem State.memInv.writeMsix {f off v : Nat} : (s.writeMsix f off v).memInv :=
  .ite h (.ite (.modVec h) (.ite (.modVec h) (.ite (.modVec h) (.ite (.sendVec (.modVec h)) (.modVec h)))))

theorem State.memInv.writeGtb {f off v : Nat} : (s.writeGtb f off v).memInv := .ite (.upd h) (.ite (.upd h) h)

theorem State.memInv.writeMailbox {f off v : Nat} : (s.writeMailbox f off v).memInv :=
  .ite (.mailboxGo h) (.ite (.modMbox h) (.ite h (.ite (.modMbox h) (.ite (.modMbox h) h))))

theorem State.memInv.writeSyn {f off v : Nat} : (s.writeSyn f off v).memInv := by
  refine .ite (.modFn h) (.ite ?_ h)
  split
  · exact .synCreate h
  · exact .synDestroy h
  · exact .synOperate h
  · exact .synSetError h
  · exact .synResetObj h
  · exact .synRead h
  · exact .synMirror h
  · exact .synNotify h
  · exact .synReserved h

theorem State.memInv.writeCntFn {f off v : Nat} : (s.writeCntFn f off v).memInv := .ite (.ite (.layerFlushRequest h) h) (.ite (.modCntFn h) h)

theorem State.memInv.writeTrc {f off v : Nat} : (s.writeTrc f off v).memInv := by
  refine .ite h ?_
  split
  · exact .modTrc h
  · exact .ite (.traceDisable (.ite (.traceTrigger (.ite (.traceStop (.ite (.traceStart h) h)) (.ite (.traceStart h) h))) (.ite (.traceStop (.ite (.traceStart h)
      h)) (.ite (.traceStart h) h)))) (.ite (.traceTrigger (.ite (.traceStop (.ite (.traceStart h) h)) (.ite (.traceStart h) h))) (.ite (.traceStop (.ite
      (.traceStart h) h)) (.ite (.traceStart h) h)))
  · exact .trcReadWrite h
  · exact h

theorem State.memInv.writeQueue {f off v : Nat} : (s.writeQueue f off v).memInv := by
  unfold State.writeQueue
  dsimp only
  split
  · exact .modQ h
  · split
    · exact h
    · exact .queuePreempt h
    · exact .queueResume h
    · exact .queueKill h
    · exact .queueReset h
    · exact .badCtrl h
  · exact h

theorem State.memInv.writeEvery {f off v : Nat} : (s.writeEvery f off v).memInv :=
  .ite (.writeHif h) (.ite (.svcQpDoorbell h) (.ite (.writeMsix h) (.ite (.writeGtb h) (.ite (.writeMailbox h) (.ite (.writeSyn h) (.ite (.writeCntFn h) (.ite
      (.writeTrc h) (.ite (.writeQueue h) (.ite (.doorbellWrite h) h)))))))))

theorem State.memInv.writeMem {off v : Nat} : (s.writeMem off v).memInv := by
  unfold State.writeMem
  split
  · exact .upd h
  · exact .upd h
  · exact .upd h
  · exact .ite (.signal (.upd h)) (.upd h)
  · exact .upd h
  · exact .upd h
  · exact h

theorem State.memInv.writeCore {off v : Nat} : (s.writeCore off v).memInv := .ite (.modCore h) h

theorem State.memInv.writeScl {c v : Nat} : (s.writeScl c v).memInv := .ite (.sclCtrlInvalidate (.sclCtrlEnable h)) (.sclCtrlEnable h)

theorem State.memInv.writeNet {off v : Nat} : (s.writeNet off v).memInv := by
  unfold State.writeNet
  split
  · exact .upd h
  · exact .upd h
  · exact .upd h
  · exact .upd h
  · exact .upd h
  · exact .upd h
  · exact h

theorem State.memInv.writeCntCtrl {v : Nat} : (s.writeCntCtrl v).memInv := .ite (.cntClearAll (.cntFreeze h)) (.cntFreeze h)

theorem State.memInv.writePower {off v : Nat} : (s.writePower off v).memInv :=
  .ite (.upd h) (.ite (.upd h) (.ite (.upd h) (.ite (.upd h) (.ite (.writeCntCtrl h) (.ite (.upd h) (.ite (.cntValueWrite h) (.ite (.upd h) h)))))))

theorem State.memInv.writeF0 {off v : Nat} : (s.writeF0 off v).memInv :=
  .ite (.upd h) (.ite (.upd h) (.ite (.upd h) (.ite (.writeMem h) (.ite (.writeCore h) (.ite (.writeScl h) (.ite (.writeNet h) (.ite (.writePower h) h)))))))

theorem State.memInv.writeReg {f off v : Nat} : (s.writeReg f off v).memInv := .ite (.ite (.writeF0 h) h) (.writeEvery h)

theorem State.memInv.write32 {f off v : Nat} : (s.write32 f off v).memInv := .ite (.writeReg h) (.ite (.upd h) (.writeReg (.upd h)))

theorem State.memInv.write64 {f off v : Nat} : (s.write64 f off v).memInv := .ite (.writeReg h) (.ite (.ite h (.writeReg h)) (.writeReg (.ite h (.writeReg h))))

theorem State.memInv.registerWrite {fn off size val : Nat} : (registerWrite fn off size val s).memInv := .ite h (.ite (.write32 h) (.ite (.write64 h) h))

theorem State.memInv.popLog {y : LogName} : (s.popLog y).memInv := by
  unfold State.popLog
  split
  · exact .upd h
  · exact .upd h
  · exact .upd h
  · exact .upd h

theorem State.memInv.removeHead {n : LogName} : (s.removeHead n).memInv := by
  unfold State.removeHead
  dsimp only
  split
  · exact .upd (.popLog h)
  · exact .popLog h

theorem State.memInv.readLog64 {n : LogName} : (s.readLog64 n).memInv := .removeHead (.upd h)

theorem State.memInv.readLogLow {n : LogName} : (s.readLogLow n).memInv := .upd h

theorem State.memInv.readLogHigh {n : LogName} : (s.readLogHigh n).memInv := by
  unfold State.readLogHigh
  dsimp only
  split
  · exact .ite (.popLog (.upd h)) (.upd h)
  · exact .popLog (.upd h)

theorem State.memInv.closedRead {f size : Nat} : (s.closedRead f size).memInv := by
  unfold State.closedRead
  split
  · exact .complete (.upd h)
  · exact .complete h
  · exact h

theorem State.memInv.errLogRead64 {log : LogName} : (errLogRead64 log s).memInv := .ite (.readLog64 h) (.closedRead h)

theorem State.memInv.errLogReadLow {log : LogName} : (errLogReadLow log s).memInv := .ite (.readLogLow h) (.closedRead h)

theorem State.memInv.errLogReadHigh {log : LogName} : (errLogReadHigh log s).memInv := .ite (.readLogHigh h) (.closedRead h)

theorem State.memInv.errLogRecordArrive {log : LogName} {rec0 : Nat} : (errLogRecordArrive log rec0 s).memInv := by
  unfold Machine.errLogRecordArrive
  split
  · exact .pushStk h
  · exact .pushNwt h
  · exact .pushL2 h
  · exact .pushFab h

theorem State.memInv.read32 {f off : Nat} : (s.read32 f off).memInv := by
  unfold State.read32
  dsimp only
  split
  · exact .ite (.readLogLow h) (.readLogHigh h)
  · exact .ite (.upd h) (.ite (.upd h) (.upd h))

theorem State.memInv.registerRead {fn off size : Nat} : (registerRead fn off size s).memInv := by
  refine .ite (.closedRead h) (.ite (.upd h) (.ite (.read32 h) (.ite ?_ (.upd h))))
  split
  · exact .readLog64 h
  · exact .upd h

end

end Sys2Proof.Machine
end

section
/-! Device memory stays canonical (R47, R57): the operations of Machine/Remote, Machine/Retry. -/

namespace Sys2Proof.Machine

/-! Machine/Remote. -/

section
variable {s : State} (h : s.memInv)
include h

theorem State.memInv.answerRead {p : Packet} {pa n : Nat} : (s.answerRead p pa n).memInv := .answerTo (.lookAt h)

theorem State.memInv.fabricRead {pkt : Packet} {len : Nat} : (fabricRead pkt len s).memInv := by
  refine .typed h (.receive h (fun _ hu => .ite (.refuse hu) ?_))
  split
  · exact .refuse hu
  · split
    · exact .refuse hu
    · exact .answerRead hu

theorem State.memInv.fabricWrite {pkt : Packet} : (fabricWrite pkt s).memInv := by
  refine .typed h (.receive h (fun _ hu => .ite (.refuse hu) ?_))
  split
  · exact .refuse hu
  · split
    · exact .refuse hu
    · exact .ackTo (.moveTo hu)

theorem AtomOut.kept.runAtom {op pa : Nat} {data : List Byte} : (s.runAtom op pa data).kept := .ite (.farAtom h) (.homeAtom h)

theorem State.memInv.serveRemoteAtom {p : Packet} {op pa : Nat} : (s.serveRemoteAtom p op pa).memInv := by
  refine .ite (.refuse h) ?_
  split
  · next e => exact .answerTo (AtomOut.kept.at e (.runAtom h))
  · exact .ackTo (.consumePoison h)
  · exact .upd h

theorem State.memInv.fabricAtomic {pkt : Packet} : (fabricAtomic pkt s).memInv := by
  refine .typed h (.receive h (fun _ hu => .ite (.refuse hu) ?_))
  split
  · exact .refuse hu
  · split
    · exact .refuse hu
    · exact .serveRemoteAtom hu

theorem State.memInv.fabricSyncOp {pkt : Packet} : (fabricSyncOp pkt s).memInv := by
  refine .typed h (.receive h (fun _ hu => ?_))
  split
  · exact .refuse hu
  · refine .ite (.answerTo (.dropWaiters hu)) ?_
    split
    · exact .refuse hu
    · refine .ite (.refuse hu) (.ite (.answerTo (.objError hu)) (.ite (.refuse hu) (.ite ?_ (.answerTo (.objOperate (.traceSync hu))))))
      dsimp only
      split
      · next e4 => exact .of_some e4 (.registerWait (.answerTo hu))
      · exact .upd (.answerTo hu)

theorem State.memInv.serveLine {p : Packet} {line : Nat} : (s.serveLine p line).memInv := by
  unfold State.serveLine
  split
  · exact .upd h
  · next e =>
      dsimp only
      split
      · exact .answerTo (.upd (.of_some e (.homeRead h)))
      · exact .answerTo (.of_some e (.homeRead h))

theorem State.memInv.serveTied {p : Packet} {pa len : Nat} : (s.serveTied p pa len).memInv :=
  .ite (.ite (.serveLine h) (.answerRead h)) (.ite (.ackTo (.moveTo h)) (.serveRemoteAtom h))

theorem State.memInv.reserveTied {p : Packet} {pa len : Nat} : (s.reserveTied p pa len).memInv := .ite (.upd h) (.upd h)

theorem State.memInv.cohReq {pkt : Packet} {len : Nat} : (cohReq pkt len s).memInv := by
  refine .typed h (.receive h (fun _ hu => .ite (.refuse hu) ?_))
  split
  · exact .refuse hu
  · split
    · exact .refuse hu
    · exact .ite (.refuse hu) (.ite (.reserveTied hu) (.ite (.serveTied hu) (.reserveTied (.coherent hu (fun _ hu1 => .serveTied hu1)))))

theorem State.memInv.tiedRequestServe {slice : Nat} : (tiedRequestServe slice s).memInv := by
  unfold Machine.tiedRequestServe
  split
  · exact h
  · exact .ite h (.ite (.upd (.serveTied h)) (.coherent h (fun _ hu => .serveTied hu)))

theorem State.memInv.planAnswered {ctx : Nat} {l : List Byte} : (s.planAnswered ctx l).memInv := by
  unfold State.planAnswered
  split
  · exact .ite (.putPlan h) h
  · exact h

theorem State.memInv.planCodeCame {ctx pc v : Nat} : (s.planCodeCame ctx pc v).memInv := by
  unfold State.planCodeCame
  split
  · exact .ite (.putPlan h) h
  · exact h

theorem State.memInv.unpinCame {id : Nat} {l : List Byte} : (s.unpinCame id l).memInv := by
  unfold State.unpinCame
  split
  · exact .unpinGo (.unpinTook h)
  · exact h

theorem State.memInv.readArrived {id : Nat} {r : Req} {data : List Byte} {poison : Nat} : (s.readArrived id r data poison).memInv := by
  unfold State.readArrived
  dsimp only
  split
  · exact .gotLine (.upd h)
  · exact .dmaData (.upd h)
  · exact .remoteData (.upd h)
  · exact .ite (.planAnswered (.upd h)) (.kill (.upd h))
  · exact .ite (.modCore (.upd h)) (.codeFailed (.upd h))
  · exact .ite (.planCodeCame (.upd h)) (.kill (.upd h))
  · exact .feStore (.upd h)
  · exact .ite (.unpinCame (.upd h)) (.kill (.upd h))
  · exact .upd h
  · exact h

theorem State.memInv.readData {pkt : Packet} : (readData pkt s).memInv := by
  refine .typed h ?_
  split
  · exact .readArrived h
  · exact h

theorem State.memInv.fabricAck {pkt : Packet} : (fabricAck pkt s).memInv := by
  refine .typed h ?_
  split
  · exact h
  · refine .ite (.reqFailed h) ?_
    dsimp only
    split
    · exact .storeAcked (.upd h)
    · exact .dmaAck (.upd h)
    · exact .remoteMoved (.upd h)
    · exact .nodeDone (.upd h)
    · exact .planAnswered (.upd h)
    · exact .collPump (.upd h)
    · exact .upd h
    · exact h

theorem State.memInv.atomicResp {pkt : Packet} : (atomicResp pkt s).memInv := by
  refine .typed h ?_
  split
  · exact h
  · dsimp only
    split
    · split
      · exact .upd h
      · refine .atomOld ?_
        split
        · exact .atomDrop (.upd h)
        · exact .upd h
    · exact .planAnswered (.upd h)
    · exact .feStore (.upd h)
    · exact .unpinCame (.upd h)
    · exact .upd h
    · exact h

theorem State.memInv.syncResp {pkt : Packet} : (syncResp pkt s).memInv := by
  refine .ite h (.typed h ?_)
  split
  · exact h
  · dsimp only
    split
    · exact .ite (.upd h) (.deliver (.upd h))
    · exact .ite (.waitCancelled (.upd h)) (.upd h)
    · exact .cancelFar (.upd h)
    · exact .upd h
    · exact h

theorem State.memInv.syncRelease' {pkt : Packet} : (Machine.syncRelease pkt s).memInv := by
  refine .ite h (.typed h ?_)
  split
  · exact .deliver (.upd h)
  · split
    · exact h
    · split
      · exact .deliver (.upd h)
      · exact .upd h
      · exact h

theorem State.memInv.dropTied {chip line : Nat} : (s.dropTied chip line).memInv := .upd h

theorem State.memInv.copyGone {line b : Nat} : (s.copyGone line b).memInv := by
  unfold State.copyGone
  dsimp only
  split
  · exact .ite (.upd (.dropSharer h)) (.dropSharer h)
  · exact .dropSharer h

theorem State.memInv.cohMsg' {pkt : Packet} : (Machine.cohMsg pkt s).memInv := by
  refine .typed h (.ite (.cohMsg (.dropTied h)) (.ite ?_ (.ite ?_ h)))
  · split
    · exact .copyGone h
    · exact h
  · split
    · dsimp only
      split
      · split
        · exact .ite (.keepCopy (.readArrived h)) (.cohMsg (.readArrived h))
        · exact .cohMsg (.readArrived h)
      · exact .cohMsg (.readArrived h)
    · exact h

theorem State.memInv.poisonWrite {p : Packet} {pa : Nat} {alloc : Bool} : (s.poisonWrite p pa alloc).memInv := .moveTo h

theorem State.memInv.crcGiveUp {p : Packet} {len : Nat} : (s.crcGiveUp p len).memInv := by
  refine .ite (.receive (.logRefused h) (fun _ hu => ?_)) (.ite (.receive (.logRefused h) (fun _ hu => .answerTo hu)) (.ite (.receive (.logRefused h) (fun _ hu =>
      .ackTo hu)) ?_))
  · split
    · exact .refuse hu
    · split
      · exact .refuse hu
      · exact .ackTo (.poisonWrite hu)
  · split
    · exact .reqFailed (.logRefused h)
    · exact .logRefused h

theorem State.memInv.packetCrcFail {pkt : Packet} {len : Nat} : (packetCrcFail pkt len s).memInv := .ite h (.ite (.upd h) (.crcGiveUp (.upd h)))

end

/-! Machine/Retry. -/

section
variable {s : State} (h : s.memInv)
include h

theorem State.memInv.remake {i : HeldReq} : (remake i s).memInv := by
  unfold Machine.remake
  split
  · exact .hostWriteBar2 h
  · exact .hostReadBar2 h
  · exact .hostAtomicop h
  · exact .nonAllocatingWrite h
  · exact .registerWrite h
  · exact .registerRead h
  · exact .doorbellWrite h
  · exact .fabricRead h
  · exact .fabricWrite h
  · exact .fabricAtomic h
  · exact .readData h
  · exact .fabricAck h
  · exact .collectData h
  · exact .collectResult h
  · exact .packetCrcFail h
  · exact .atomicResp h

theorem State.memInv.remakeHeld {id : Nat} {i : HeldReq} : (s.remakeHeld id i).memInv := .ite (.remake (.upd h)) (.coherent h (fun _ hu => .remake (.upd hu)))

theorem State.memInv.drainHeld {f k : Nat} : (State.drainHeld f k s).memInv := by
  induction k generalizing s with
  | zero => exact h
  | succ k ih =>
    unfold State.drainHeld
    split
    · exact h
    · exact .ite (.remakeHeld h) (ih (.remakeHeld h))

theorem State.memInv.resumeReq {id : Nat} : (s.resumeReq id).memInv := by
  unfold State.resumeReq
  split
  · exact h
  · split
    · exact .drainHeld h
    · exact .remakeHeld h

theorem State.memInv.nackRetry {index : Nat} {chk : L2Check} : (nackRetry index chk s).memInv := by
  unfold Machine.nackRetry
  split
  · exact h
  · split
    · exact .ite (.resumeReq h) (.unNack h)
    · exact .coreRetry h

theorem State.memInv.cohMsgIn {pkt : Packet} : (cohMsgIn pkt s).memInv := .foldl (fun _ _ hu => .resumeReq hu) (.cohMsg' h)

end

end Sys2Proof.Machine
end

section
/-! Settling O3: every command keeps device memory canonical, and so does a step without one (R47, R57). -/

namespace Sys2Proof.Machine

section
variable {s : State}

/-- The state that a command goes on with keeps memory canonical. -/
def keptAfter : Host.Outcome State Fault Refusal → Prop
  | .next t => t.memInv
  | _ => True

theorem keptAfter.next (h : s.memInv) : keptAfter (.next s) := h

theorem keptAfter.fault {f : Fault} : keptAfter (.fault f) := trivial

theorem keptAfter.ite {c : Prop} [Decidable c] {a b : Host.Outcome State Fault Refusal} (ha : keptAfter a) (hb : keptAfter b) : keptAfter (if c then a else b) := by
  split
  · exact ha
  · exact hb

theorem keptAfter.exec (h : s.memInv) (c : Instr) : keptAfter (exec c s) := by
  cases c with
  | registerWrite => exact .next (.inOrder h (fun _ hu => .registerWrite hu))
  | errLogRead64 => exact .next (.errLogRead64 h)
  | errLogReadLow => exact .next (.errLogReadLow h)
  | errLogReadHigh => exact .next (.errLogReadHigh h)
  | errLogRecordArrive => exact .next (.errLogRecordArrive h)
  | auxSupplyValid => exact .next (.auxSupplyValid h)
  | auxSupplyLoss => exact .next (.auxSupplyLoss h)
  | mainSupplyValid => exact .next (.mainSupplyValid h)
  | mainSupplyLoss => exact .next (.mainSupplyLoss h)
  | railsInRegulation => exact .next (.railsInRegulation h)
  | selfTestComplete => exact .next (.selfTestComplete h)
  | memoryZeroingComplete => exact .next (.memoryZeroingComplete h)
  | deviceReady => exact .next (.deviceReady h)
  | perstAssert => exact .next (.perstAssert h)
  | perstDeassert => exact .next (.perstDeassert h)
  | configRequestRrs => exact .next (.configRequestRrs h)
  | trialReadyTimeout => exact .next (.trialReadyTimeout h)
  | mgtWatchdogRestart => exact .next (.mgtWatchdogRestart h)
  | deviceReset => exact .next (.deviceReset h)
  | tiedReset => exact .next (.tiedReset h)
  | opPointRequest => exact .next (.opPointRequest h)
  | opPointRampComplete => exact .next (.opPointRampComplete h)
  | gtbResyncPulse => exact .next (.gtbResyncPulse h)
  | rateLiveUpdate => exact .next (.rateLiveUpdate h)
  | descriptorUpdate => exact .next (.descriptorUpdate h)
  | timeMasterElection => exact .next (.timeMasterElection h)
  | fabricTimeSend => exact .next (.fabricTimeSend h)
  | fabricTime => exact .next (.fabricTime h)
  | gtbHoldoverEnter => exact .next (.gtbHoldoverEnter h)
  | holdoverLockExpire => exact .next (.holdoverLockExpire h)
  | ptpMessageReceive => exact .next (.ptpMessageReceive h)
  | ptpReferenceLoss => exact .next (.ptpReferenceLoss h)
  | baseDieRead => exact .ite .fault (.next (.baseDieRead h))
  | baseDieWrite => exact .ite .fault (.next (.baseDieWrite h))
  | poisonReread => exact .next (.poisonReread h)
  | d2dTransferReceive => exact .next (.d2dTransferReceive h)
  | patrolScrubRead => exact .next (.patrolScrubRead h)
  | demandScrubWriteback => exact .next (.demandScrubWriteback h)
  | rowSpare => exact .next (.rowSpare h)
  | rowSpareComplete => exact .next (.rowSpareComplete h)
  | dieRetireStart => exact .next (.dieRetireStart h)
  | dieRetireComplete => exact .next (.dieRetireComplete h)
  | pinGroupRetire => exact .next (.pinGroupRetire h)
  | baseDieStallTimeout => exact .next (.baseDieStallTimeout h)
  | rowModeWrite => exact .next (.rowModeWrite h)
  | rowZeroComplete => exact .next (.rowZeroComplete h)
  | newtDescriptorFetch => exact .next (.unit h (fun _ hu => .newtDescriptorFetch hu))
  | newtShareDeliver => exact .next (.newtShareDeliver h)
  | newtShareStart => exact .next (.newtShareStart h)
  | attnPart => exact .next (.unit h (fun _ hu => .attnPart hu))
  | kvAppend => exact .next (.unit h (fun _ hu => .kvAppend hu))
  | gatherReduce => exact .next (.unit h (fun _ hu => .gatherReduce hu))
  | scatter => exact .next (.unit h (fun _ hu => .scatter hu))
  | newtCopy => exact .next (.unit h (fun _ hu => .newtCopy hu))
  | fill => exact .next (.unit h (fun _ hu => .fill hu))
  | reduce => exact .next (.unit h (fun _ hu => .reduce hu))
  | quant => exact .next (.unit h (fun _ hu => .quant hu))
  | dequant => exact .next (.unit h (fun _ hu => .dequant hu))
  | newtAtom => exact .next (.unit h (fun _ hu => .newtAtom hu))
  | checksum => exact .next (.unit h (fun _ hu => .checksum hu))
  | remoteCopy => exact .next (.unit h (fun _ hu => .remoteCopy hu))
  | newtShareComplete => exact .next (.unit h (fun _ hu => .newtShareComplete hu))
  | newtDescriptorComplete => exact .next (.unit h (fun _ hu => .newtDescriptorComplete hu))
  | newtShareFault => exact .next (.newtShareFault h)
  | newtFail => exact .next (.newtFail h)
  | newtStallTimeout => exact .next (.newtStallTimeout h)
  | newtIdleGate => exact .next (.newtIdleGate h)
  | farAtomic => exact .next (.farAtomic h)
  | pageWalk => exact .next (.pageWalk h)
  | nop => exact .next (.nop h)
  | bra => exact .next (.bra h)
  | brx => exact .next (.brx h)
  | call => exact .next (.call h)
  | exit => exact .next (.exit h)
  | yield => exact .next (.yield h)
  | gbar => exact .next (.gbar h)
  | gbarWatchdogExpire => exact .next (.gbarWatchdogExpire h)
  | fadd => exact .next (.fadd h)
  | fmul => exact .next (.fmul h)
  | ffma => exact .next (.ffma h)
  | fmin => exact .next (.fmin h)
  | fmax => exact .next (.fmax h)
  | fsetp => exact .next (.fsetp h)
  | rcp => exact .next (.rcp h)
  | rsq => exact .next (.rsq h)
  | sqrt => exact .next (.sqrt h)
  | exp2 => exact .next (.exp2 h)
  | log2 => exact .next (.log2 h)
  | sin => exact .next (.sin h)
  | cos => exact .next (.cos h)
  | iadd => exact .next (.iadd h)
  | isub => exact .next (.isub h)
  | imul => exact .next (.imul h)
  | imad => exact .next (.imad h)
  | imulhi => exact .next (.imulhi h)
  | imin => exact .next (.imin h)
  | imax => exact .next (.imax h)
  | isetp => exact .next (.isetp h)
  | and => exact .next (.and h)
  | or => exact .next (.or h)
  | xor => exact .next (.xor h)
  | shl => exact .next (.shl h)
  | shr => exact .next (.shr h)
  | bfe => exact .next (.bfe h)
  | bfi => exact .next (.bfi h)
  | popc => exact .next (.popc h)
  | clz => exact .next (.clz h)
  | brev => exact .next (.brev h)
  | idp4 => exact .next (.idp4 h)
  | sel => exact .next (.sel h)
  | plop => exact .next (.plop h)
  | movi => exact .next (.movi h)
  | iaddI => exact .next (.iaddI h)
  | andI => exact .next (.andI h)
  | orI => exact .next (.orI h)
  | xorI => exact .next (.xorI h)
  | shlI => exact .next (.shlI h)
  | shrI => exact .next (.shrI h)
  | faddI => exact .next (.faddI h)
  | fmulI => exact .next (.fmulI h)
  | isetpI => exact .next (.isetpI h)
  | mov => exact .next (.mov h)
  | srd => exact .next (.srd h)
  | v2s => exact .next (.v2s h)
  | cvt => exact .next (.cvt h)
  | cvtMx => exact .next (.cvtMx h)
  | shfl => exact .next (.shfl h)
  | vote => exact .next (.vote h)
  | ld => exact .next (.ld h)
  | st => exact .next (.st h)
  | ldAcq => exact .next (.ldAcq h)
  | stRel => exact .next (.stRel h)
  | pref => exact .next (.pref h)
  | sclZero => exact .next (.sclZero h)
  | sclInv => exact .next (.sclInv h)
  | atomAdd => exact .next (.atomAdd h)
  | atomFadd => exact .next (.atomFadd h)
  | atomMin => exact .next (.atomMin h)
  | atomMax => exact .next (.atomMax h)
  | atomUmin => exact .next (.atomUmin h)
  | atomUmax => exact .next (.atomUmax h)
  | atomFmin => exact .next (.atomFmin h)
  | atomFmax => exact .next (.atomFmax h)
  | atomAnd => exact .next (.atomAnd h)
  | atomOr => exact .next (.atomOr h)
  | atomXor => exact .next (.atomXor h)
  | atomExch => exact .next (.atomExch h)
  | atomCas => exact .next (.atomCas h)
  | barLd => exact .next (.barLd h)
  | barSt => exact .next (.barSt h)
  | barFull => exact .next (.barFull h)
  | barrierComplete => exact .next (.barrierComplete h)
  | syncSignal => exact .next (.syncSignal h)
  | syncWaitGe => exact .next (.syncWaitGe h)
  | syncWaitEq => exact .next (.syncWaitEq h)
  | syncPost => exact .next (.syncPost h)
  | syncWaitDec => exact .next (.syncWaitDec h)
  | syncBarArrive => exact .next (.syncBarArrive h)
  | syncBarWait => exact .next (.syncBarWait h)
  | mxCfg => exact .next (.mxCfg h)
  | mxLdw => exact .next (.mxLdw h)
  | mxSwap => exact .next (.mxSwap h)
  | mxStream => exact .next (.mxStream h)
  | mxRd => exact .next (.mxRd h)
  | mxClr => exact .next (.mxClr h)
  | mxInstrStart => exact .next (.mxInstrStart h)
  | mxInstrComplete => exact .next (.mxInstrComplete h)
  | mxLimiterWindow => exact .next (.mxLimiterWindow h)
  | coreLaneNarrowing => exact .next (.coreLaneNarrowing h)
  | coreNarrowingComplete => exact .next (.coreNarrowingComplete h)
  | contextKill => exact .next (.contextKill h)
  | coreGroupsStop => exact .next (.coreGroupsStop h)
  | coreKillSettled => exact .next (.unit h (fun _ hu => .coreKillSettled hu))
  | skipWalk => exact .next (.unit h (fun _ hu => .skipWalk hu))
  | corePreemptRequest => exact .next (.corePreemptRequest h)
  | groupSave => exact .next (.unit h (fun _ hu => .groupSave hu))
  | blockSaveComplete => exact .next (.unit h (fun _ hu => .blockSaveComplete hu))
  | blockRestore => exact .next (.blockRestore h)
  | loadResponse => exact .next (.loadResponse h)
  | storeBufferDrain => exact .next (.storeBufferDrain h)
  | homeRead => exact .next (.homeRead h)
  | homeStore => exact .next (.homeStore h)
  | homeAtomic => exact .next (.homeAtomic h)
  | nonAllocatingWrite => exact .next (.outside h (fun _ hu => .nonAllocatingWrite hu))
  | newtReadWriteback => exact .next (.newtReadWriteback h)
  | replicaDropNotice => exact .next (.replicaDropNotice h)
  | nackRetry => exact .next (.nackRetry h)
  | tiedRequestServe => exact .next (.tiedRequestServe h)
  | dirUncorrectable => exact .next (.dirUncorrectable h)
  | wayRetire => exact .next (.wayRetire h)
  | wayRetireComplete => exact .next (.wayRetireComplete h)
  | cohTransactionTimeout => exact .next (.cohTransactionTimeout h)
  | directoryStallTimeout => exact .next (.directoryStallTimeout h)
  | coherentDomainLoss => exact .next (.coherentDomainLoss h)
  | chipStallFail => exact .next (.chipStallFail h)
  | plainGate => exact .next (.unit h (fun _ hu => .plainGate hu))
  | plainWake => exact .next (.plainWake h)
  | bucketReturn => exact .next (.unit h (fun _ hu => .bucketReturn hu))
  | sclAutoEnable => exact .next (.sclAutoEnable h)
  | sclCtrlInvalidate => exact .next (.sclCtrlInvalidate h)
  | sclCtrlEnable => exact .next (.sclCtrlEnable h)
  | scratchKibWrite => exact .next (.scratchKibWrite h)
  | scratchChangeApply => exact .next (.scratchChangeApply h)
  | hostWriteBar2 => exact .next (.hostReq h (fun _ hu => .hostWriteBar2 hu))
  | hostReadBar2 => exact .next (.hostReq h (fun _ hu => .hostReadBar2 hu))
  | hostAtomicop => exact .next (.hostReq h (fun _ hu => .hostAtomicop hu))
  | doorbellWrite => exact .next (.inOrder h (fun _ hu => .doorbellWrite hu))
  | queueEnable => exact .next (.queueEnable h)
  | queueDisable => exact .next (.queueDisable h)
  | queuePreempt => exact .next (.queuePreempt h)
  | queueResume => exact .next (.queueResume h)
  | queueKill => exact .next (.queueKill h)
  | queueReset => exact .next (.queueReset h)
  | queuePreempted => exact .next (.unit h (fun _ hu => .queuePreempted hu))
  | timeSliceEnd => exact .next (.timeSliceEnd h)
  | queueTimeout => exact .next (.queueTimeout h)
  | nodeFetch => exact .next (.unit h (fun _ hu => .nodeFetch hu))
  | nodeNop => exact .next (.unit h (fun _ hu => .nodeNop hu))
  | nodeLaunch => exact .next (.unit h (fun _ hu => .nodeLaunch hu))
  | blockPlace => exact .next (.blockPlace h)
  | nodeCopy => exact .next (.nodeCopy h)
  | dmaPieceStart => exact .next (.unit h (fun _ hu => .dmaPieceStart hu))
  | dmaPieceComplete => exact .next (.unit h (fun _ hu => .dmaPieceComplete hu))
  | dmaFlushReadComplete => exact .next (.dmaFlushReadComplete h)
  | nodeWait => exact .next (.nodeWait h)
  | nodeSignal => exact .next (.nodeSignal h)
  | nodeCollect => exact .next (.unit h (fun _ hu => .nodeCollect hu))
  | nodeCall => exact .next (.unit h (fun _ hu => .nodeCall hu))
  | nodePlan => exact .next (.unit h (fun _ hu => .nodePlan hu))
  | nodeMark => exact .next (.unit h (fun _ hu => .nodeMark hu))
  | nodeComplete => exact .next (.unit h (fun _ hu => .nodeComplete hu))
  | planExit => exact .next (.planExit h)
  | planLaunch => exact .next (.unit h (fun _ hu => .planLaunch hu))
  | planWaitGraph => exact .next (.planWaitGraph h)
  | planSync => exact .next (.planSync h)
  | planYield => exact .next (.planYield h)
  | planFault => exact .next (.planFault h)
  | syncObjectApply => exact .next (.syncObjectApply h)
  | syncWaitRegister => exact .next (.syncWaitRegister h)
  | syncRegisterRetry => exact .next (.syncRegisterRetry h)
  | waiterRelease => exact .next (.waiterRelease h)
  | syncWaitCancel => exact .next (.syncWaitCancel h)
  | synCreate => exact .next (.synHost h (fun _ hu => .synCreate hu))
  | synDestroy => exact .next (.synHost h (fun _ hu => .synDestroy hu))
  | synOperate => exact .next (.synHost h (fun _ hu => .synOperate hu))
  | synSetError => exact .next (.synHost h (fun _ hu => .synSetError hu))
  | synResetObj => exact .next (.synHost h (fun _ hu => .synResetObj hu))
  | synRead => exact .next (.synHost h (fun _ hu => .synRead hu))
  | synMirror => exact .next (.synHost h (fun _ hu => .synMirror hu))
  | synNotify => exact .next (.synHost h (fun _ hu => .synNotify hu))
  | syncRangeWrite => exact .next (.syncRangeWrite h)
  | msixSend => exact .next (.msixSend h)
  | msixModerationExpire => exact .next (.msixModerationExpire h)
  | msixUnmask => exact .next (.msixUnmask h)
  | busMasterEnableSet => exact .next (.busMasterEnableSet h)
  | flr => exact .next (.flr h)
  | flrComplete => exact .next (.unit h (fun _ hu => .flrComplete hu))
  | fnDisable => exact .next (.fnDisable h)
  | drainWindowExpire => exact .next (.drainWindowExpire h)
  | disablePoint => exact .next (.disablePoint h)
  | disableComplete => exact .next (.unit h (fun _ hu => .disableComplete hu))
  | fnEnable => exact .next (.fnEnable h)
  | partitionReset => exact .next (.unit h (fun _ hu => .partitionReset hu))
  | partitionQmaskWrite => exact .next (.unit h (fun _ hu => .partitionQmaskWrite hu))
  | slabGrant => exact .next (.unit h (fun _ hu => .slabGrant hu))
  | slabRelease => exact .next (.unit h (fun _ hu => .slabRelease hu))
  | slabZeroComplete => exact .next (.unit h (fun _ hu => .slabZeroComplete hu))
  | fnPartitionWrite => exact .next (.fnPartitionWrite h)
  | vfEnableWrite => exact .next (.vfEnableWrite h)
  | d3hotEntry => exact .next (.d3hotEntry h)
  | bar2Resize => exact .next (.bar2Resize h)
  | translationInvalidate => exact .next (.translationInvalidate h)
  | translationInvalidateAll => exact .next (.translationInvalidateAll h)
  | invalidateComplete => exact .next (.invalidateComplete h)
  | atsInvalidateRequest => exact .next (.atsInvalidateRequest h)
  | atsTranslationCompletion => exact .next (.atsTranslationCompletion h)
  | pcieLinkDown => exact .next (.pcieLinkDown h)
  | pcieLinkUp => exact .next (.pcieLinkUp h)
  | doeDiscovery => exact .next (.doeDiscovery h)
  | spdmGetCertificate => exact .next (.spdmGetCertificate h)
  | spdmChallenge => exact .next (.spdmChallenge h)
  | spdmGetMeasurements => exact .next (.spdmGetMeasurements h)
  | spdmSetCertificate => exact .next (.spdmSetCertificate h)
  | linkTrainingAttempt => exact .next (.linkTrainingAttempt h)
  | linkTrainingComplete => exact .next (.linkTrainingComplete h)
  | laneDrop => exact .next (.laneDrop h)
  | linkRetrainComplete => exact .next (.linkRetrainComplete h)
  | linkDown => exact .next (.linkDown h)
  | flitReceive => exact .next (.flitReceive h)
  | fabricRead => exact .next (.outside h (fun _ hu => .fabricRead hu))
  | fabricWrite => exact .next (.outside h (fun _ hu => .fabricWrite hu))
  | fabricAtomic => exact .next (.outside h (fun _ hu => .fabricAtomic hu))
  | fabricSyncOp => exact .next (.fabricSyncOp h)
  | cohReq => exact .next (.cohReq h)
  | collectData => exact .next (.outside h (fun _ hu => .collectData hu))
  | readData => exact .next (.outside h (fun _ hu => .readData hu))
  | fabricAck => exact .next (.outside h (fun _ hu => .fabricAck hu))
  | atomicResp => exact .next (.outside h (fun _ hu => .atomicResp hu))
  | syncResp => exact .next (.syncResp h)
  | syncRelease => exact .next (.syncRelease' h)
  | cohMsg => exact .next (.cohMsgIn h)
  | collectResult => exact .next (.outside h (fun _ hu => .collectResult hu))
  | collectAbort => exact .next (.collectAbort h)
  | linkState => exact .next (.linkState h)
  | packetCrcFail => exact .next (.outside h (fun _ hu => .packetCrcFail hu))
  | requestResend => exact .next (.requestResend h)
  | passOccupancyAdvert => exact .next (.passOccupancyAdvert h)
  | chipUnreachable => exact .next (.chipUnreachable h)
  | chipReachableAgain => exact .next (.chipReachableAgain h)
  | laserLightLoss => exact .next (.laserLightLoss h)
  | cmisAlarmPoll => exact .next (.cmisAlarmPoll h)
  | laneGroupSwitchover => exact .next (.laneGroupSwitchover h)
  | plannedMove => exact .next (.plannedMove h)
  | laserService => exact .next (.laserService h)
  | laserInsert => exact .next (.laserInsert h)
  | laserCalibrationComplete => exact .next (.laserCalibrationComplete h)
  | laserRecalibrate => exact .next (.laserRecalibrate h)
  | laserTelemetryPoll => exact .next (.laserTelemetryPoll h)
  | laserLifeHour => exact .next (.laserLifeHour h)
  | oeFail => exact .next (.oeFail h)
  | svcQpDoorbell => exact .next (.inOrder h (fun _ hu => .svcQpDoorbell hu))
  | svcQpStateWrite => exact .next (.svcQpStateWrite h)
  | rdmaWrite => exact .next (.unit h (fun _ hu => .rdmaWrite hu))
  | rdmaRead => exact .next (.unit h (fun _ hu => .rdmaRead hu))
  | rdmaWorkComplete => exact .next (.unit h (fun _ hu => .rdmaWorkComplete hu))
  | rdmaWorkFail => exact .next (.unit h (fun _ hu => .rdmaWorkFail hu))
  | rdmaAckTimeout => exact .next (.unit h (fun _ hu => .rdmaAckTimeout hu))
  | roceRemoteRequest => exact .next (.unit h (fun _ hu => .roceRemoteRequest hu))
  | roceCnpReceive => exact .next (.roceCnpReceive h)
  | neighbourRequest => exact .next (.neighbourRequest h)
  | pfcFrameReceive => exact .next (.pfcFrameReceive h)
  | pfcXoffSend => exact .next (.pfcXoffSend h)
  | pfcWatchdogExpire => exact .next (.pfcWatchdogExpire h)
  | svcLinkDown => exact .next (.svcLinkDown h)
  | svcLinkUp => exact .next (.svcLinkUp h)
  | powerCapEvaluation => exact .next (.powerCapEvaluation h)
  | overcurrentAlarm => exact .next (.overcurrentAlarm h)
  | droopDetect => exact .next (.droopDetect h)
  | droopRecover => exact .next (.droopRecover h)
  | thermalEvaluation => exact .next (.thermalEvaluation h)
  | thermalTrip => exact .next (.thermalTrip h)
  | energyAttribution => exact .next (.energyAttribution h)
  | slicePacing => exact .next (.slicePacing h)
  | pwrJobRelease => exact .next (.pwrJobRelease h)
  | kamufRead => exact .next (.kamufRead h)
  | kamufWrite => exact .next (.kamufWrite h)
  | kamufDescribe => exact .next (.kamufDescribe h)
  | kamufNext => exact .next (.kamufNext h)
  | segmentAssemblyTimeout => exact .next (.segmentAssemblyTimeout h)
  | mailboxGo => exact .next (.mailboxGo h)
  | mailboxResponse => exact .next (.mailboxResponse h)
  | setEndpointId => exact .next (.setEndpointId h)
  | getEndpointId => exact .next (.getEndpointId h)
  | getMctpVersionSupport => exact .next (.getMctpVersionSupport h)
  | getMessageTypeSupport => exact .next (.getMessageTypeSupport h)
  | getVendorDefinedMessageSupport => exact .next (.getVendorDefinedMessageSupport h)
  | logRecordAppend => exact .next (.logRecordAppend h)
  | logAppend => exact .next (.logAppend h)
  | errLogPersistCopy => exact .next (.errLogPersistCopy h)
  | sensorRead => exact .next (.sensorRead h)
  | updateBegin => exact .next (.updateBegin h)
  | updateImageSegment => exact .next (.updateImageSegment h)
  | updateVerify => exact .next (.updateVerify h)
  | updateActivate => exact .next (.updateActivate h)
  | updateCommit => exact .next (.updateCommit h)
  | updateAbort => exact .next (.updateAbort h)
  | debugKill => exact .next (.debugKill h)
  | sliceMembersWrite => exact .next (.sliceMembersWrite h)
  | cntValueWrite => exact .next (.cntValueWrite h)
  | cntFreeze => exact .next (.cntFreeze h)
  | cntClearAll => exact .next (.cntClearAll h)
  | layerFlushRequest => exact .next (.layerFlushRequest h)
  | layerFlushTimer => exact .next (.layerFlushTimer h)
  | cntLayerBaseWrite => exact .next (.cntLayerBaseWrite h)
  | layerFlushComplete => exact .next (.unit h (fun _ hu => .layerFlushComplete hu))
  | traceRecordEmit => exact .next (.traceRecordEmit h)
  | traceGapRecord => exact .next (.traceGapRecord h)
  | traceDrain => exact .next (.unit h (fun _ hu => .traceDrain hu))
  | traceStart => exact .next (.traceStart h)
  | traceStop => exact .next (.traceStop h)
  | traceTrigger => exact .next (.traceTrigger h)
  | traceDisable => exact .next (.traceDisable h)
  | trcReadWrite => exact .next (.trcReadWrite h)
  | traceStopped => exact .next (.traceStopped h)
  | registerRead => exact .next (.inOrder h (fun _ hu => .registerRead hu))
  | controlCoreInstruction => exact .next (.unit h (fun _ hu => .controlCoreInstruction hu))
  | d0Entry => exact .next (.d0Entry h)
  | laserRemove => exact .next (.laserRemove h)

theorem keptAfter.step (h : s.memInv) : keptAfter (step s) := by
  rw [Machine.step]
  split
  · exact .next (.tickNs h)
  · exact .exec (.upd h) _

end

/-- Settles O3: memory is written by `bankGranule`, `poisonGranule` and `zeroRange` and emptied by the resets alone; each keeps the form, so every command does. -/
theorem stepKeepsMemoryCanonical : Obligations.StepKeepsMemoryCanonical := by
  intro s t h e
  have ht : keptAfter (step s) := .step h
  rw [e] at ht
  exact ht

end Sys2Proof.Machine
end
